-- ==== Sys2Proof/Word.lean ====
section
/-! DEFINITION. The word and byte types (R4, R6). -/
namespace Sys2Proof

/-- A register: 32 bits (R6). -/
abbrev Word := BitVec 32

/-- A byte. -/
abbrev Byte := BitVec 8

end Sys2Proof
end

