-- ==== Sys2Proof/Syntax.lean ====
section
/-! DEFINITION. The commands of the block, one constructor for each row of the opcode table, and their operands. -/
namespace Sys2Proof

/-- R41: a packet of the receive lane, as it arrives: its header fields, payload, EOP CRC, and the framing facts that
R33 and R40 judge. -/
structure Packet where
  ptype : BitVec 4 := 0
  slot : BitVec 5 := 0
  dt : BitVec 6 := 0
  line : BitVec 12 := 0
  len : BitVec 12 := 0
  frameSeq : BitVec 16 := 0
  pseq : BitVec 16 := 0
  segOffset : BitVec 16 := 0
  lastSeg : Bool := true
  replay : Bool := false
  trigSeq : BitVec 14 := 0
  payload : List Byte := []
  /-- CRC-32C of the EOP block. -/
  crc : BitVec 32 := 0
  /-- Data blocks between SOP and EOP. -/
  blocks : Nat := 0
  /-- A sync header or block type inside the packet was invalid (R33, R39). -/
  badBlock : Bool := false
  /-- R39: no packet at all, but one control block of this type outside any packet. -/
  stray : Option Byte := none
deriving DecidableEq, Repr, Inhabited

/-- R95: the requester's timestamps of a PTM dialogue, in device time: t1 of its request, t4 of the response. -/
structure PtmLocal where
  t1 : BitVec 64
  t4 : BitVec 64
deriving DecidableEq, Repr, Inhabited

/-- R95: the responder's timestamps of a PTM dialogue, in PTM Master Time: t2 of the request, t3 of its response. -/
structure PtmMaster where
  t2 : BitVec 64
  t3 : BitVec 64
deriving DecidableEq, Repr, Inhabited

/-- R95, R341: what a configuration write changes here: Bus Master Enable of a function, or the enable of PTM Control. -/
inductive CfgWrite
  | bme (f : Fin 9) (on : Bool)
  | ptm (on : Bool)
deriving DecidableEq, Repr

/-- R417: what a FWD_CTL packet carries about a forwarded port. -/
inductive FwdCtl
  /-- The link left ACTIVE: open frames close (R59). -/
  | linkDown
  /-- Packets were declared lost (R59). -/
  | packetsLost
  /-- A packet of a slot was recovered by replay (R59). -/
  | replayed (slot : BitVec 5)
  /-- IXL_HUB_CAPS and IXL_SLOTS_PRESENT of the source. -/
  | caps (hubCaps slots : BitVec 32)
  /-- R418: a trigger was launched, or came too late (trig_seq 0x3FFF). -/
  | trigger (slotMask : BitVec 32) (trigSeq : BitVec 14) (s : Nat)
deriving DecidableEq, Repr

/-- R412: a message between the firmware of two devices. -/
inductive ChainMsg
  /-- R415: claim and enable schedule g at the apply time; period 0 ends it. -/
  | schedule (g : BitVec 5) (base : BitVec 64) (period : BitVec 32) (apply : BitVec 64)
  /-- R415: the answer: taken, or g was held or enabled. -/
  | scheduleAnswer (g : BitVec 5) (taken : Bool)
  /-- R415: the claim of schedule g is released. -/
  | scheduleRelease (g : BitVec 5)
  /-- R416: forward of a port begins or ends. -/
  | forward (port : BitVec 4) (on : Bool)
  /-- R418: launch a trigger for a slot mask at L; S is the instant it serves. -/
  | trigger (port : BitVec 4) (slotMask : BitVec 32) (launch inst : Nat) (abort : Bool)
  /-- R419, R422: a window of the sender opens or closes for the receiver. -/
  | window (w : BitVec 4) (open_ : Bool) (len : BitVec 32)
  /-- R416: a tunnelled transaction for the backchannel of a forwarded port. -/
  | tunnel (port : BitVec 4) (tag slot bus combined addr ccc : Nat) (wdata : List Byte) (rlen : Nat)
  /-- R416: its response. -/
  | tunnelResp (port : BitVec 4) (payload : List Byte)
deriving DecidableEq, Repr

/-! ### Operands of Lantern instructions: the spec gives no instruction encoding, so a command carries what its
instruction names -/

/-- R182, R185, R216, R219, R226: what an array tile instruction names. -/
structure TileOp where
  m : BitVec 16
  k : BitVec 16
  n : BitVec 16
  fmtA : BitVec 4
  fmtB : BitVec 4
  fmtO : BitVec 4
  /-- R209. -/
  ovfInf : Bool
  /-- R226: the record that gives its layer parameters; R233: the record under which its output counts. -/
  record : BitVec 8
  stat : BitVec 8
  /-- R256: pad entry and column window of operand A. -/
  padA : BitVec 4
  pitch : BitVec 16
  c0 : BitVec 16
  c1 : BitVec 16
  /-- First rescale entry. -/
  eBase : BitVec 10
  aBase : BitVec 32
  bBase : BitVec 32
  oBase : BitVec 32
deriving DecidableEq, Repr, Inhabited

/-- R183, R220, R233: vector operations. -/
inductive VFun
  | fadd | fsub | fmul | ffma | flt | fle | feq
  /-- R204: selection of FP32 lanes, or of INT32 lanes. -/
  | sel (float : Bool)
  | exp2 | log2 | rcp | rsqrt
  | iadd | isub | imul | ilt | ieq | isadd | issub
  /-- R233: narrowing of INT16 elements (from16) or INT32 lanes by a shift of 0 to 31 to INT16 (wide) or INT8. -/
  | narrow (shift : BitVec 5) (from16 wide : Bool)
deriving DecidableEq, Repr, Inhabited

/-- R256: the padding rule of a vector source: pad entry, run-time positions, elements of a position, and the column
window. -/
structure PadRule where
  entry : BitVec 4
  mRt : BitVec 32
  perPos : BitVec 16
  pitch : BitVec 16
  c0 : BitVec 16
  c1 : BitVec 16
deriving DecidableEq, Repr, Inhabited

/-- R183: a source of a vector instruction. -/
inductive VSrc
  | spad (addr : BitVec 32) (pad : Option PadRule)
  | vreg (r : BitVec 5)
deriving DecidableEq, Repr, Inhabited

/-- R183: a destination of a vector instruction. -/
inductive VDst
  | spad (addr : BitVec 32)
  | vreg (r : BitVec 5)
deriving DecidableEq, Repr, Inhabited

/-- R184: the fold of a vector reduction. -/
inductive VFold
  | fadd | iadd | fmax | imax
deriving DecidableEq, Repr, Inhabited

/-- R170, R173: what a control wait names. -/
inductive WaitFor
  /-- An instruction of the context, by its instruction index. -/
  | own (pc : BitVec 12)
  /-- R277: the delivered count of one of the context's two queues. -/
  | dmaRows (second : Bool) (v : BitVec 32)
deriving DecidableEq, Repr, Inhabited

/-- R187: a barrier. -/
inductive BarScope
  | stage (b : BitVec 6)
  | group
  | device
deriving DecidableEq, Repr, Inhabited

/-- R270: what a DMA instruction names. -/
structure DmaOp where
  desc : BitVec 16
  queue : BitVec 4
  /-- Scalar registers added to the source and destination address. -/
  addSrc : Option (BitVec 5)
  addDst : Option (BitVec 5)
  /-- Fixed indices of dimensions 3 and 2. -/
  fix3 : Option (BitVec 16)
  fix2 : Option (BitVec 16)
  /-- Scalar register pair that holds a launch time. -/
  launch : Option (BitVec 5)
deriving DecidableEq, Repr, Inhabited

/-- R298: an access to device memory. -/
inductive MemAcc
  | read | fullWrite | partWrite
deriving DecidableEq, Repr, Inhabited

/-- R302: an error that an access finds in the SRAM of the hold cache. -/
inductive SramErr
  | none | corrected | uncorrectable
deriving DecidableEq, Repr, Inhabited

/-- R6: a read on the register bus: its address, and its width in bytes. -/
structure BusRead where
  at_ : Word
  bytes : Nat := 4
deriving DecidableEq, Repr, Inhabited

/-- R298, R300, R302: the core that an access comes from, the SRAM error that the access finds, and whether it is an access to
the control region. -/
structure HoldFrom where
  core : Fin 16
  err : SramErr := .none
  control : Bool := false
deriving DecidableEq, Repr, Inhabited

/-! ### Operands of model commands: what firmware finds in a Queken image, whose format the spec does not give -/

/-- R258, R267, R449: one stage of a graph. -/
structure StageDecl where
  /-- Owning cores, as offsets in the group. -/
  cores : List Nat
  /-- R171: contexts it names, as a mask, and the instruction indices of each core's program at which it begins and ends. -/
  ctxs : Nat
  entry : Nat
  stop : Nat
  /-- Scratchpad addresses: of the developed plane that a first stage reads (R137), and of what the final image stage and
  the machine-vision encoder leave (R143). -/
  plane : Nat
  out : Nat
  /-- R145, R143. -/
  temporal : Bool
  final : Bool
  encoder : Bool
  /-- Earlier stages whose output it reads. -/
  inputs : List Nat
  /-- R267: hand-off slots of its output; 0 for none. -/
  slots : Nat
  /-- R449: worst-case time in ns, and array cycles per stripe. -/
  worstNs : Nat
  arrayCycles : Nat
  /-- R265: stage barrier and lease. -/
  barrier : Nat
  leaseUs : Nat
  /-- R187: expected count of the barrier. -/
  expected : Nat
deriving DecidableEq, Repr, Inhabited

/-- R168, R175, R226, R243, R255, R272, R281: what is loaded into one core. -/
structure CoreProg where
  instrs : List (List Byte)
  layers : List (List Byte)
  grids : List (List Byte)
  descs : List (List Byte)
  pads : List (BitVec 32)
  dmaq : List (BitVec 32)
  /-- Scratchpad bytes it needs. -/
  spad : Nat
deriving DecidableEq, Repr, Inhabited

/-- R317: one output channel of a head layer: its first weight, its weights, the factor f_n and bias β_n (FP32 bits). -/
structure HeadCh where
  first : Nat
  count : Nat
  f : BitVec 32
  beta : BitVec 32
deriving DecidableEq, Repr, Inhabited

/-- R317: the head descriptor. -/
structure HeadDecl where
  layers : Nat
  /-- Head core, as an offset in the group; the layers may name more than one, which R317 refuses. -/
  cores : List Nat
  int8 : Bool
  bf16 : Bool
  /-- Bytes of the primary weights. -/
  primary : Nat
  /-- Input scale (FP32 bits), zero point and channels, and the hand-off shift k0 of R233. -/
  sA : BitVec 32
  zpA : Int
  chans : Nat
  k0 : Nat
  channels : List HeadCh
  /-- The base set (R318), and its place among the weights. -/
  base : List Byte
  at_ : Nat
deriving DecidableEq, Repr, Inhabited

/-- A Queken image as firmware reads it. -/
structure ModelImg where
  /-- Its bytes in plaintext, over which R366 measures it. -/
  plain : List Byte
  /-- The bytes as read from the host: header, section table and, under a key, ciphertext and tags. -/
  raw : List Byte
  /-- R142: cores of a stage group, vertical reach above and below, temporal state (channels, 1/4 resolution). -/
  size : Nat
  up : Nat
  down : Nat
  tChannels : Nat
  tFactor : Bool
  /-- R159: channels of the machine-vision encoder's output, and whether they are FP16; none without an encoder. -/
  enc : Option (Nat × Bool)
  /-- R26: overlap slots reserved by the first core. -/
  overlap : Nat
  cores : List CoreProg
  stages : List StageDecl
  head : Option HeadDecl
  /-- R300: regions to pin: base and size in 2 MiB units, and ways. -/
  pins : List (Nat × Nat × BitVec 16)
  /-- Where in the firmware pool the weights go. -/
  weightBase : Nat
  weights : List Byte
deriving DecidableEq, Repr, Inhabited

/-- R365, R368: a firmware image as the engine judges it. -/
structure FwImage where
  bytes : List Byte
  /-- Public key carried, signature, and what they cover. -/
  key : List Byte
  sig : List Byte
  svn : BitVec 6
  commit : Bool
  /-- R468: memory record, 64 bytes. -/
  record : List Byte
deriving DecidableEq, Repr, Inhabited

/-! ### Other operands -/

/-- R347, R349: names a started command by its function, queue and command slot. -/
structure CmdName where
  fn : Fin 9
  q : Fin 4
  slot : BitVec 12
deriving DecidableEq, Repr

/-- R262: a commit: the context that makes it, and the token it names. -/
structure CommitOp where
  ctx : Fin 8
  w : Fin 32
  idx : Word
  gen : BitVec 16
deriving DecidableEq, Repr, Inhabited

/-- R56: a tunnelled transaction request of firmware. -/
structure TunnelOp where
  slot : BitVec 5
  bus : BitVec 1
  combined : BitVec 1
  addr : BitVec 7
  ccc : Byte
  wdata : List Byte
  rlen : Byte
deriving DecidableEq, Repr, Inhabited

/-- R184, R221: what a vector conversion names. -/
structure ConvertOp where
  src : BitVec 4
  dst : BitVec 4
  /-- R209. -/
  ovfInf : Bool
  /-- Scale, FP32 bits. -/
  scale : Word
  from_ : VSrc
  to_ : VDst
  count : BitVec 20
  /-- R226: its statistics record. -/
  record : Byte
deriving DecidableEq, Repr, Inhabited

/-- R286: a piece of the source side of a row of a transfer: the transfer's place in its queue, the row, the piece. -/
structure HostPiece where
  k : Byte
  row : Word
  piece : Word
deriving DecidableEq, Repr, Inhabited

/-- R341: which read over PCIe a failed completion belongs to. -/
inductive HostRead
  | dma (i : Fin 16) (q : Fin 16) (at_ : HostPiece)
  | command (r : CmdName)
deriving DecidableEq, Repr


/-- The commands. dt is how many TCLK cycles have passed since the command before. -/
inductive Instr
  /-- R34: Writing IXL_PORT_CFG.enable from 0 to 1 starts a bring-up of the port, with attempts numbered from 1. -/
  | ixlPortEnable (dt : Nat) (p : Fin 16) (v : Word)
  /-- R37: Writing IXL_PORT_CFG.enable to 0 moves the port to DOWN at once, with the effects of R36. -/
  | ixlPortDisable (dt : Nat) (p : Fin 16) (v : Word)
  /-- R37: Writing 1 to IXL_PORT_CFG.retrain while the port is ACTIVE starts a retrain with fault code 0x9. -/
  | ixlRetrainRequest (dt : Nat) (p : Fin 16) (v : Word)
  /-- R34: A signal is detected and the receive clock is recovered, so the attempt advances from CDR to BLOCK_LOCK. -/
  | signalDetected (dt : Nat) (p : Fin 18)
  /-- R33: After 64 consecutive valid sync headers the receiver gains block lock and sends its CAPS block. -/
  | blockLockGained (dt : Nat) (p : Fin 18)
  /-- R33: 16 or more invalid sync headers in 64 blocks cost block lock, which starts a retrain on an active port. -/
  | blockLockLost (dt : Nat) (p : Fin 18)
  /-- R34: A bring-up state misses its time limit, which ends the attempt, or after 8 failed attempts puts the port in FAULT. -/
  | bringupLimitExpiry (dt : Nat) (p : Fin 18)
  /-- R34: The 1 ms wait after a failed attempt ends and the next attempt starts from CDR, at the rate that auto selects. -/
  | bringupRetryWaitEnd (dt : Nat) (p : Fin 18)
  /-- R35: A CAPS hub status packet is received; in state CAPS it is accepted or refused, and while ACTIVE it starts a retrain. -/
  | hubCapsPacket (dt : Nat) (p : Fin 16) (k : Packet)
  /-- R45: A VIDEO packet is checked, then accepted into its open frame or dropped, updating rows, fills and stripe eligibility. -/
  | videoPacket (dt : Nat) (p : Fin 16) (k : Packet)
  /-- R45: An EMBED packet is accepted for the statistics block or dropped. -/
  | embedPacket (dt : Nat) (p : Fin 16) (k : Packet)
  /-- R76: A FRAME_START is accepted and opens a frame with a ledger entry, sequence number and negative slot, or is discarded as stale, malformed or without room. -/
  | frameStartPacket (dt : Nat) (p : Fin 16) (k : Packet)
  /-- R80: A FRAME_END closes the open frame and fills any missing rows. -/
  | frameEndPacket (dt : Nat) (p : Fin 16) (k : Packet)
  /-- R57: A tunnelled transaction response completes its transaction, or is discarded if its tag is unknown. -/
  | ctrlRespPacket (dt : Nat) (p : Fin 16) (k : Packet)
  /-- R44: A SLOT_CHANGE packet updates IXL_SLOTS_PRESENT and sets slot_change. -/
  | slotChange (dt : Nat) (p : Fin 16) (k : Packet)
  /-- R53: A REPLAY_GONE packet declares the packets the hub no longer holds lost and ends the replay wait. -/
  | replayGone (dt : Nat) (p : Fin 16) (k : Packet)
  /-- R44: A HUB_FAULT packet is logged and retrains the port. -/
  | hubFault (dt : Nat) (p : Fin 16) (k : Packet)
  /-- R44: A hub status packet with an unknown subtype is dropped and counted, and its sequence and credits are treated as accepted. -/
  | unknownHubStatus (dt : Nat) (p : Fin 16) (k : Packet)
  /-- R41: A packet of reserved ptype is dropped and counted. -/
  | reservedPacket (dt : Nat) (p : Fin 18) (k : Packet)
  /-- R52: A packet that fails on CRC, framing, credit or sequence is discarded, and a NAK starts replay. -/
  | packetFail (dt : Nat) (p : Fin 18) (k : Packet)
  /-- R52: A packet whose pseq is below the one expected is discarded as a duplicate and counted. -/
  | duplicatePacket (dt : Nat) (p : Fin 18) (k : Packet)
  /-- R53: The replay timer expires, so the NAK is repeated, or after the fourth NAK the port retrains. -/
  | replayTimerExpiry (dt : Nat) (p : Fin 18)
  /-- R51: An ACK carrying the last in-order pseq is sent at least every 1 µs while packets are accepted. -/
  | ackTimer (dt : Nat) (p : Fin 18)
  /-- R50: A CREDIT block with cumulative credits is sent at least every 1 µs while credits have been freed. -/
  | creditTimer (dt : Nat) (p : Fin 18)
  /-- R54: The backchannel sends a SKIP at least once per 4,096 blocks. -/
  | skipSend (dt : Nat) (p : Fin 18)
  /-- R58: A tunnelled transaction request is sent as CTL_BEGIN and CTL_DATA, held in order, or ends with LINK_LOST. -/
  | tunnelRequest (dt : Nat) (p : Fin 16) (r : TunnelOp)
  /-- R58: A held tunnel request begins once fewer than 16 transactions are outstanding on the port. -/
  | tunnelHeldStart (dt : Nat) (p : Fin 16)
  /-- R57: A transaction gets no response within 5 ms and completes with status TIMEOUT. -/
  | tunnelTimeout (dt : Nat) (p : Fin 16) (tag : Byte)
  /-- R55: At launch time L the device sends a TRIGGER block with merged slot mask, early and trig_seq, or counts it when the port is not ACTIVE. -/
  | triggerLaunch (dt : Nat) (p : Fin 16) (l : BitVec 64)
  /-- R78: The start timeout passes with no FRAME_START, so the frame is recorded MISSED, which is also a commit point. -/
  | missedFrameDeadline (dt : Nat) (n : Fin 512)
  /-- R67: The close timeout of an open frame expires and closes it as a FRAME_END would. -/
  | closeTimeout (dt : Nat) (n : Fin 512)
  /-- R69: A write to the broadcast or a group alias acts on every member context in the same CCLK cycle. -/
  | aliasWrite (dt : Nat) (f : Fin 9) (a : Word) (v : Word)
  /-- R19: A write to GLB_SG_BOUNDARY changes the partition in full, or is refused with refused set. -/
  | sgBoundaryWrite (dt : Nat) (v : Word)
  /-- R94: A write of SYN_CFG.source changes the time source at once. -/
  | sourceSelect (dt : Nat) (v : Word)
  /-- R95: At each ptm_interval the device starts a PTM dialogue as Requester. -/
  | ptmDialogueStart (dt : Nat)
  /-- R96: A completed PTM dialogue gives an offset e, which steps, slews or adjusts the rate and advances the time state. -/
  | ptmDialogueComplete (dt : Nat) (master : PtmMaster) (loc : PtmLocal)
  /-- R93: A PTM dialogue does not complete within its interval and counts as a failed measurement, possibly entering HOLDOVER. -/
  | measurementFail (dt : Nat)
  /-- R96: A −500 ppm slew ends once e is corrected, and the rate returns to f. -/
  | slewEnd (dt : Nat)
  /-- R99: Writing SYN_CTL.hard_set sets device time to SYN_SET, or is refused with set_refused. -/
  | hardSet (dt : Nat)
  /-- R97: The master, or a device in HOLDOVER, emits its own sync symbol on CHD at each multiple of 1,024 ns. -/
  | syncSymbolEmit (dt : Nat)
  /-- R413: A valid sync symbol on CHU gives a measurement and is re-emitted on CHD 24 ns later. -/
  | syncSymbolReceived (dt : Nat) (time : BitVec 54) (acc : BitVec 20) (early : Byte) (held : Bool)
  /-- R93: No valid sync symbol arrives within 1,024 ns, which counts as a failed measurement. -/
  | syncSymbolMissing (dt : Nat)
  /-- R103: Writing enable 1 starts a schedule from the first tick at least 1 ms ahead and counts the skipped ticks. -/
  | scheduleEnable (dt : Nat) (g : Fin 32)
  /-- R103: Writing enable 0 stops further ticks of a schedule at once. -/
  | scheduleDisable (dt : Nat) (g : Fin 32)
  /-- R105: A schedule tick computes the launch time of each attached camera that takes it, unless the governor withholds it. -/
  | scheduleTick (dt : Nat) (g : Fin 32)
  /-- R111: Writing SYNC_OUT enable arms a pulse train or a single pulse on a granted pin. -/
  | syncOutEnable (dt : Nat) (i : Fin 4) (v : Word)
  /-- R111: At T + j · period the device asserts SYNC_OUT, or skips the edge after a forward step. -/
  | syncOutEdge (dt : Nat) (i : Fin 4)
  /-- R111: width ns after an edge the pin is deasserted, and after a single pulse enable clears. -/
  | syncOutPulseEnd (dt : Nat) (i : Fin 4)
  /-- R110: A rising edge on TIME_SNAP queues its device time, or is dropped and counted. -/
  | timeSnapEdge (dt : Nat)
  /-- R110: A read of SYN_SNAP_LO removes the oldest snapshot and latches its high word. -/
  | snapRead (dt : Nat) (f : Fin 9)
  /-- R7: A read of the low word of a 64-bit pair latches the high word into the requester's shadow. -/
  | pairLowRead (dt : Nat) (f : Fin 9) (a : BusRead)
  /-- R7: A write of the low word of a writable pair is held in the requester's write shadow. -/
  | pairLowWrite (dt : Nat) (f : Fin 9) (a : Word) (v : Word)
  /-- R7: A write of the high word takes effect together with the held or current low word in one cycle. -/
  | pairHighWrite (dt : Nat) (f : Fin 9) (a : Word) (v : Word)
  /-- R9: A write to a register with no row of its own acts by its access type: RW, W1C, WL, SO or no effect. -/
  | registerWrite (dt : Nat) (f : Fin 9) (a : Word) (n : Nat) (v : BitVec 64)
  /-- R114: A write to CAM_EXPO_NEXT0 stages a settings set, or is ignored while ae_en is 1. -/
  | expoStage (dt : Nat) (n : Fin 512) (v : Word)
  /-- R128: A write to CAM_WB_GAIN sets the gains bound to later frames, or is ignored while awb_en is 1. -/
  | wbGainWrite (dt : Nat) (n : Fin 512) (v : Word)
  /-- R126: Firmware computes an exposure-loop step on a usable frame and stages the result. -/
  | aeLoopStep (dt : Nat) (n : Fin 512)
  /-- R129: Firmware computes a white-balance step and binds new gains to the next frame. -/
  | awbLoopStep (dt : Nat) (n : Fin 512)
  /-- R136: A write to CAM_PPB_SEL.copy selects the parameter block copy bound to later frames. -/
  | ppbSelect (dt : Nat) (n : Fin 512) (v : Word)
  /-- R157: A write to CAM_OUT_CREDIT returns output slots, limited to count and logged if it exceeds it. -/
  | outCredit (dt : Nat) (n : Fin 512) (v : Word)
  /-- R282: A write to LC_DMA_REG changes the rate and depth from the next cycle and cuts τ to the new depth. -/
  | dmaRegulatorWrite (dt : Nat) (i : Fin 16) (v : Word)
  /-- R163: The command checks and admits a stream, reserves its buffers, sends settings and moves it to running. -/
  | streamStart (dt : Nat) (r : CmdName)
  /-- R164: A drain stop lets frames stamped by P finish and drops later FRAME_STARTs. -/
  | streamStopDrain (dt : Nat) (r : CmdName)
  /-- R164: An abort stop makes every non-final frame DROPPED and withdraws its work. -/
  | streamStopAbort (dt : Nat) (r : CmdName)
  /-- R164: Once all entries are final, writes complete and the group barrier has advanced, the stream becomes stopped and each stop replies. -/
  | streamStopped (dt : Nat) (n : Fin 512)
  /-- R258: Firmware queues a stripe's share on its stage counter once it is eligible and its hand-off slot is free. -/
  | workShareQueue (dt : Nat) (g : Fin 16) (w : Fin 32) (n : Fin 512) (q : Word) (k : Byte)
  /-- R102: A stripe with a launch time becomes eligible at L. -/
  | stripeLaunch (dt : Nat) (g : Fin 16) (w : Fin 32) (n : Fin 512) (q : Word) (k : Byte) (at_ : BitVec 64)
  /-- R85: At a core's stripe boundary it picks the next eligible stripe and binds its contexts. -/
  | stripeBoundary (dt : Nat) (i : Fin 16)
  /-- R146: The print unit applies white balance, colour matrix, tone curves and scalers to the final stage output. -/
  | printStripe (dt : Nat) (n : Fin 512) (q : Word) (k : Byte) (core : Fin 16)
  /-- R161: The output writer takes pool space, takes a slot if needed, enforces privacy and issues a row with BARRIER. -/
  | outputRowWrite (dt : Nat) (n : Fin 512) (q : Word) (o : Byte) (core : Fin 16)
  /-- R161: A frame's wait for pool space exceeds 2 ms, so its display and coding outputs are shed. -/
  | outputPoolTimeout (dt : Nat) (n : Fin 512) (q : Word)
  /-- R87: The BARRIER completion of an output row returns, LATE is set if the bound passed, and after the last row the header is issued. -/
  | outputRowComplete (dt : Nat) (n : Fin 512) (q : Word)
  /-- R153: The slot header's BARRIER completion returns, so the frame enters DONE and its ledger entry is mirrored. -/
  | slotHeaderComplete (dt : Nat) (n : Fin 512) (q : Word)
  /-- R182: An array tile instruction issues, checks its plan and runs with fixed timing from wheel position 0. -/
  | arrayTile (dt : Nat) (i : Fin 16) (c : Fin 8) (o : TileOp)
  /-- R182: An array instruction completes, its results are written and counted, and waits on it release. -/
  | arrayComplete (dt : Nat) (i : Fin 16)
  /-- R184: A vector instruction issues and computes over its lines in FP32 or INT32. -/
  | vectorOp (dt : Nat) (i : Fin 16) (c : Fin 8) (f : VFun) (srcs : List VSrc) (dst : VDst) (lines : BitVec 16) (record : Option Byte)
  /-- R221: A vector conversion converts elements between formats, counting clipped results. -/
  | vectorConvert (dt : Nat) (i : Fin 16) (c : Fin 8) (o : ConvertOp)
  /-- R184: A vector reduction folds n source lines into one line. -/
  | vectorReduction (dt : Nat) (i : Fin 16) (c : Fin 8) (f : VFold) (src : VSrc) (dst : VDst) (lines : BitVec 16)
  /-- R184: A vector instruction completes and its counts are added. -/
  | vectorComplete (dt : Nat) (i : Fin 16)
  /-- R186: A rescale-table load copies entries through SR once no earlier array instruction uses them. -/
  | rescaleLoad (dt : Nat) (i : Fin 16) (c : Fin 8) (src : Word) (e : BitVec 10) (n : BitVec 11)
  /-- R245: A GRID instruction checks its record, reads run-time bounds and plans its tiles. -/
  | grid (dt : Nat) (i : Fin 16) (c : Fin 8) (g : Byte) (p : BitVec 16) (r : BitVec 5)
  /-- R245: A GRID tile issues once its fetched operands are delivered, and the next fetch starts. -/
  | gridTileIssue (dt : Nat) (i : Fin 16) (c : Fin 8)
  /-- R234: The Retake check evaluates a record and jumps to the Retake path or marks the Retake skipped. -/
  | rchk (dt : Nat) (i : Fin 16) (c : Fin 8) (record : Byte)
  /-- R170: A control wait makes the context wait for one of its own instructions or a DMA row count. -/
  | controlWait (dt : Nat) (i : Fin 16) (c : Fin 8) (w : WaitFor)
  /-- R187: An arrival is counted once its writes are visible, and at the expected count the phase advances. -/
  | barrierArrive (dt : Nat) (i : Fin 16) (c : Fin 8) (b : BarScope)
  /-- R188: A context waits at a barrier phase and becomes ready when the phase is reached. -/
  | barrierWait (dt : Nat) (i : Fin 16) (c : Fin 8) (b : BarScope) (phase : Nat)
  /-- R190: A barrier wait longer than 10 ms faults BARRIER_TIMEOUT. -/
  | barrierTimeout (dt : Nat) (i : Fin 16) (c : Fin 8)
  /-- R192: A context posts a ring receive for a range of its scratchpad. -/
  | ringReceivePost (dt : Nat) (i : Fin 16) (c : Fin 8) (a : Word) (len : Word)
  /-- R192: A ring send waits for posted receives and free links, then sends weights downstream. -/
  | ringSend (dt : Nat) (i : Fin 16) (c : Fin 8) (a : Word) (len : Word) (mask : BitVec 16)
  /-- R192: A ring send and its receives complete. -/
  | ringComplete (dt : Nat) (i : Fin 16)
  /-- R192: A wait longer than 1 ms to start a send or complete a receive faults RING_TIMEOUT. -/
  | ringTimeout (dt : Nat) (i : Fin 16) (c : Fin 8)
  /-- R259: A draw atomically takes the head share with a token and grants a lease. -/
  | wcDraw (dt : Nat) (i : Fin 16) (c : Fin 8) (w : Fin 32)
  /-- R262: A commit with a current token completes the share and arrives at the stage barrier, or is discarded. -/
  | wcCommit (dt : Nat) (i : Fin 16) (t : CommitOp)
  /-- R260: Every 1 µs a live core renews the leases it holds. -/
  | leaseRenew (dt : Nat) (i : Fin 16)
  /-- R260: An expired lease reissues its share with the next generation. -/
  | leaseExpiry (dt : Nat) (g : Fin 16) (w : Fin 32) (idx : Word)
  /-- R177: An uncorrectable scratchpad error faults SPAD_ECC, and a single-bit error is corrected and counted. -/
  | spadEccError (dt : Nat) (i : Fin 16) (c : Fin 8) (pc : BitVec 12) (uncorrectable : Bool)
  /-- R197: A cleared and reloaded core is IDLE again and resumes live shares or reruns the stage. -/
  | coreRestoreComplete (dt : Nat) (i : Fin 16)
  /-- R270: A DMA instruction issues after its descriptor, encoding and scratchpad extent are checked. -/
  | dmaInstruction (dt : Nat) (i : Fin 16) (c : Fin 8) (o : DmaOp)
  /-- R271: The engine places the transfer in its DMA queue once the queue has room. -/
  | dmaTransferPlace (dt : Nat) (i : Fin 16)
  /-- R283: The arbitration winner translates and issues its next piece, once tokens and slots allow. -/
  | dmaPieceIssue (dt : Nat) (i : Fin 16) (write : Bool) (returned : List (Fin 16 × Byte))
  /-- R277: A row is delivered and the queue's in-order count advances. -/
  | dmaRowDelivered (dt : Nat) (i : Fin 16) (q : Fin 16) (k : Byte) (row : Word) (host : List Byte)
  /-- R288: Firmware walks the tables again, then resumes the transfer, notifies the holder or declares the fault unresolved. -/
  | faultWalk (dt : Nat) (i : Fin 16) (q : Fin 16)
  /-- R288: With no resume by the record's stamp plus wait_us, the fault becomes unresolved. -/
  | faultWaitExpiry (dt : Nat) (i : Fin 16) (q : Fin 16)
  /-- R298: A slice serves a device-memory access by hit, allocation or pass-through, under the way masks. -/
  | holdCacheRequest (dt : Nat) (x : Fin 9) (line : BitVec 32) (acc : MemAcc) (noAlloc : Bool) (key : BitVec 64) (o : HoldFrom)
  /-- R312: A block read from DDR5 is checked by CRC and MAC, and is delivered, re-read or poisoned. -/
  | ddr5ReadReturn (dt : Nat) (c : Fin 8) (cipher : List Byte) (side : List Byte)
  /-- R305: A channel controller serves the eligible request with the least key. -/
  | ddr5RequestServe (dt : Nat) (c : Fin 8) (held : List (BitVec 32))
  /-- R311: A block write takes the next version of its region, encrypts it and stores its sideband. -/
  | ddr5BlockWrite (dt : Nat) (line : BitVec 32)
  /-- R306: At each refresh interval the controller refreshes a bank. -/
  | refreshInterval (dt : Nat) (c : Fin 8)
  /-- R306: A DRAM temperature sensor above 85 °C halves the refresh interval and sets MEM_STATUS.hot. -/
  | dramHot (dt : Nat)
  /-- R322: On a drawn frame a self pair is kept or discarded by the stillness tests. -/
  | trainingPair (dt : Nat) (n : Fin 512) (q : Word) (input : List Byte)
  /-- R325: Context 6 builds synthetic raw codes of a reference window as a negative. -/
  | reversePipelineRun (dt : Nat) (n : Fin 512) (q : Word)
  /-- R333: Firmware queues a training stripe once every core of the group has budget room. -/
  | trainingStripeQueue (dt : Nat) (n : Fin 512) (w : Fin 32)
  /-- R327: Context 6 runs forward, backward and momentum updates on one kept pair. -/
  | trainingStep (dt : Nat) (n : Fin 512)
  /-- R328: After steps steps a candidate is encoded from the masters and drift-tested. -/
  | candidateEncode (dt : Nat) (n : Fin 512)
  /-- R329: After four gate pairs the candidate is accepted or rejected by its loss. -/
  | gateDecision (dt : Nat) (n : Fin 512)
  /-- R330: An accepted set is written into a free adapted slot, digested and staged. -/
  | headSetStage (dt : Nat) (n : Fin 512)
  /-- R333: At each 10 ms window end the Retouch cycle count is reduced by the budget. -/
  | adaptBudgetWindowEnd (dt : Nat) (i : Fin 16)
  /-- R346: Writing CQ_CFG.en to 1 resets the queue indices and phase, or fails with cfg_err. -/
  | cqEnable (dt : Nat) (f : Fin 9) (q : Fin 4) (v : Word)
  /-- R346: Writing CQ_CFG.en to 0 stops fetching, and idle sets when the last reply is written. -/
  | cqDisable (dt : Nat) (f : Fin 9) (q : Fin 4) (v : Word)
  /-- R346: A CQ_TAIL write sets the command tail, or is ignored with tail_err. -/
  | cqTailDoorbell (dt : Nat) (f : Fin 9) (q : Fin 4) (v : Word)
  /-- R346: An RQ_HEAD write consumes replies, or is ignored with tail_err. -/
  | rqHeadDoorbell (dt : Nat) (f : Fin 9) (q : Fin 4) (v : Word)
  /-- R346: The device fetches and copies a command packet while the fetch limit allows. -/
  | commandFetch (dt : Nat) (f : Fin 9) (q : Fin 4) (bytes : List Byte)
  /-- R347: Firmware starts a fetched command in round-robin order, subject to ORDER. -/
  | commandStart (dt : Nat)
  /-- R345: mod_us after the first unsignalled reply the queue interrupt is raised. -/
  | interruptModerationTimer (dt : Nat) (f : Fin 9) (q : Fin 4)
  /-- R356: Writing EVQ_CFG.en to 1 enables the event ring and resets the event number. -/
  | evqEnable (dt : Nat) (f : Fin 9) (v : Word)
  /-- R360: Writing send copies the message to the receiver and raises its vector, or is refused. -/
  | mailboxSend (dt : Nat) (f : Fin 9) (sfl : Bool) (v : Word)
  /-- R360: The receiver's read of word len − 1 clears full and raises the sender's space vector. -/
  | mailboxReadLast (dt : Nat) (f : Fin 9) (ch : Fin 5)
  /-- R361: Firmware answers PING with PONG within 1 ms, and other types with 0x80FF. -/
  | ping (dt : Nat) (f : Fin 9) (cp : Fin 4)
  /-- R405: Safelight accepts or refuses a new board power limit and answers LIMIT_ACK. -/
  | limitSet (dt : Nat)
  /-- R405: Safelight answers with GOV_STATE giving G, P_avg and Tj. -/
  | govQuery (dt : Nat)
  /-- R363: A PIN_CLAIM write with release 0 claims a free resource, or is refused. -/
  | pinClaim (dt : Nat) (v : Word)
  /-- R363: A PIN_CLAIM write with release 1 frees a resource held by the feature, or is refused. -/
  | pinRelease (dt : Nat) (v : Word)
  /-- R115: The command loads a sensor profile for a stopped camera. -/
  | profileLoad (dt : Nat) (r : CmdName) (bytes : List Byte)
  /-- R352: The command runs one tunnelled sensor transaction and returns its data and status. -/
  | sensorXfer (dt : Nat) (r : CmdName)
  /-- R352: The command sets the holder of a stopped camera. -/
  | camGrant (dt : Nat) (r : CmdName)
  /-- R479: The command sets and locks the host ring addresses and enables of a stopped camera. -/
  | camRings (dt : Nat) (r : CmdName)
  /-- R375: The command loads, decrypts and measures a Queken image and loads core tables and pins. -/
  | modelLoad (dt : Nat) (r : CmdName) (img : ModelImg)
  /-- R376: The command removes a model's programs and clears its sealed pages. -/
  | modelUnload (dt : Nat) (r : CmdName)
  /-- R142: The command binds a graph to a stopped camera. -/
  | modelBind (dt : Nat) (r : CmdName)
  /-- R240: The command records per-channel ranges on the camera's next n frames. -/
  | calibCapture (dt : Nat) (r : CmdName)
  /-- R352: The command returns a model's cores, head layers and measurement bytes. -/
  | modelInfo (dt : Nat) (r : CmdName)
  /-- R354: The command adds page-table entries in a DEV or HOST space. -/
  | map_ (dt : Nat) (r : CmdName)
  /-- R355: The command removes entries and waits for transactions under them. -/
  | unmap (dt : Nat) (r : CmdName)
  /-- R355: The command moves DEV pages, clears the old ones and maps the new. -/
  | move_ (dt : Nat) (r : CmdName)
  /-- R352: The command grants a tenant a device-memory range. -/
  | memGrant (dt : Nat) (r : CmdName)
  /-- R382: The command removes a grant's mappings and clears the range. -/
  | memRevoke (dt : Nat) (r : CmdName)
  /-- R289: The command resumes a faulted transfer from its faulting row. -/
  | faultResume (dt : Nat) (r : CmdName)
  /-- R352: The command sets the firmware pool. -/
  | fwPool (dt : Nat) (r : CmdName)
  /-- R370: The command writes a signed snapshot report of measurements, models and cameras. -/
  | attest (dt : Nat) (r : CmdName)
  /-- R373: The command makes a fresh ephemeral SM2 key pair for the issuer. -/
  | keyEphemeral (dt : Nat) (r : CmdName)
  /-- R374: The command unwraps a key record into a key slot, or refuses it. -/
  | keyImport (dt : Nat) (r : CmdName) (blob : List Byte)
  /-- R373: A pending ephemeral key is destroyed 60 s after it was made. -/
  | ephemeralKeyExpiry (dt : Nat) (f : Fin 9)
  /-- R352: The command makes a tenant ACTIVE. -/
  | tenantEnable (dt : Nat) (r : CmdName)
  /-- R383: The command starts a scrub of the tenant and replies when it ends. -/
  | tenantKill (dt : Nat) (r : CmdName)
  /-- R383: The tenant's scratchpads, ways and control-region objects are cleared. -/
  | scrubOnchipComplete (dt : Nat) (k : Fin 8)
  /-- R383: The memory phase ends, so the tenant becomes DISABLED and SCRUB_DONE is written. -/
  | scrubMemoryComplete (dt : Nat) (k : Fin 8)
  /-- R382: A snuffer clear completes and the memory it covers may be reused. -/
  | snufferClearComplete (dt : Nat)
  /-- R394: Safelight checks a signed policy packet and accepts it into the policy table or refuses it. -/
  | policySubmit (dt : Nat) (r : CmdName) (bytes : List Byte)
  /-- R391: The command enrols the privacy public key into the fuses once. -/
  | privEnrol (dt : Nat) (r : CmdName) (key : List Byte)
  /-- R368: The command verifies an image and writes it to the idle flash slot. -/
  | fwStage (dt : Nat) (r : CmdName) (img : FwImage)
  /-- R444: The command requests an in-service firmware switch, which waits for its conditions. -/
  | fwSwitch (dt : Nat) (r : CmdName)
  /-- R445: Once the conditions hold, firmware sends NOTICE, pauses Retouch and starts reloading. -/
  | fwSwitchBegin (dt : Nat)
  /-- R445: A control processor or Safelight finishes loading and checking its new section. -/
  | cpReloadComplete (dt : Nat) (ok : Bool)
  /-- R448: A part not resumed within 5 ms fails the switch, and the running image is reloaded. -/
  | fwResumeTimeout (dt : Nat)
  /-- R447: The active mark is written, measurements update, keys clear and waiting commands start. -/
  | fwSwitchComplete (dt : Nat)
  /-- R352: The command returns device time and the time state. -/
  | timeGet (dt : Nat) (r : CmdName)
  /-- R415: The master distributes a schedule, or its end, to every present device. -/
  | schedApply (dt : Nat) (r : CmdName)
  /-- R320: Retouch starts on a camera with a reserved work area. -/
  | adaptStart (dt : Nat) (r : CmdName)
  /-- R320: Retouch ends and its work area is released and cleared. -/
  | adaptStop (dt : Nat) (r : CmdName)
  /-- R320: Retouch pauses with cause HOST. -/
  | adaptPause (dt : Nat) (r : CmdName)
  /-- R320: A cause of HOST, FAULT, POISON or DRIFT is cleared. -/
  | adaptResume (dt : Nat) (r : CmdName)
  /-- R320: The base set is staged from the next frame. -/
  | adaptRevert (dt : Nat) (r : CmdName)
  /-- R324: The command names reference pictures for reverse pairs. -/
  | adaptRefs (dt : Nat) (r : CmdName) (refs : List (BitVec 64 × BitVec 32 × BitVec 32))
  /-- R320: The bound head set is copied to a host buffer. -/
  | adaptExport (dt : Nat) (r : CmdName)
  /-- R320: A host head set is written, measured and staged. -/
  | adaptImport (dt : Nat) (r : CmdName) (bytes : List Byte)
  /-- R453: The command writes a run of 64-bit counters to the host. -/
  | counterRead (dt : Nat) (r : CmdName)
  /-- R451: The command writes the contact sheet events, oldest first. -/
  | traceRead (dt : Nat) (r : CmdName)
  /-- R232: The command writes the latest frame's per-record totals. -/
  | layerTotals (dt : Nat) (r : CmdName)
  /-- R433: The command writes unread error log entries and advances ERR_TAIL. -/
  | errlogRead (dt : Nat) (r : CmdName)
  /-- R441: One core is reset and restored under R197. -/
  | unitResetCore (dt : Nat) (r : CmdName)
  /-- R440: One IXL port is disabled and re-enabled. -/
  | unitResetPort (dt : Nat) (r : CmdName)
  /-- R442: A stage group is stopped, its frames dropped, and its cores and counters restored. -/
  | unitResetStageGroup (dt : Nat) (r : CmdName)
  /-- R443: A tenant is scrubbed and its window returned to reset state. -/
  | unitResetTenant (dt : Nat) (r : CmdName)
  /-- R352: The command echoes P0 and P1. -/
  | echo (dt : Nat) (r : CmdName)
  /-- R352: The command returns the present positions and the device's own position. -/
  | chainStatus (dt : Nat) (r : CmdName)
  /-- R416: The command forwards an IXL port's traffic to a target device. -/
  | portForward (dt : Nat) (r : CmdName) (targetOk : Bool) (pathOk : Bool)
  /-- R416: The command undoes a port forward. -/
  | portReturn (dt : Nat) (r : CmdName) (targetOk : Bool)
  /-- R419: The command opens a remote write window for a peer. -/
  | windowOpen (dt : Nat) (r : CmdName)
  /-- R422: The command closes a window at one cycle and replies after the fence. -/
  | windowClose (dt : Nat) (r : CmdName)
  /-- R410: A POS block makes a chain port ACTIVE, or puts it in FAULT on a mismatch. -/
  | posBlockReceived (dt : Nat) (chd : Bool) (q : BitVec 3)
  /-- R417: A forwarded camera packet reaches the target's intake with its source stamp. -/
  | fwdPkt (dt : Nat) (q : BitVec 3) (d : BitVec 3) (p : Fin 16) (stamp : BitVec 64) (k : Packet)
  /-- R417: Forwarded link events, caps or trigger reports are applied at the target. -/
  | fwdCtl (dt : Nat) (q : BitVec 3) (d : BitVec 3) (p : Fin 16) (len : BitVec 12) (x : FwdCtl)
  /-- R421: A peer write is performed through its window, or dropped. -/
  | peerWr (dt : Nat) (q : BitVec 3) (d : BitVec 3) (info : BitVec 64) (bytes : List Byte)
  /-- R422: A peer acknowledgement delivers rows or completes the transfer CLOSED. -/
  | peerAck (dt : Nat) (q : BitVec 3) (d : BitVec 3) (info : BitVec 64)
  /-- R412: A firmware message such as a schedule, trigger request or window notice arrives. -/
  | chainMsg (dt : Nat) (q : BitVec 3) (d : BitVec 3) (len : BitVec 12) (m : ChainMsg)
  /-- R423: A STATUS packet refreshes a position's presence, time state and policy. -/
  | chainStatusPacket (dt : Nat) (q : BitVec 3) (len : BitVec 12) (reach : Byte) (timeState : BitVec 2) (enrol : Option (List Byte)) (seq : BitVec 32)
  /-- R423: Every 65,536 ns the device sends a STATUS packet to every position. -/
  | statusSendTimer (dt : Nat)
  /-- R423: No STATUS within 262,144 ns makes a position absent. -/
  | presenceTimeout (dt : Nat) (q : BitVec 3)
  /-- R425: 262,144 ns after the target is absent the source takes the port back. -/
  | forwardTakeback (dt : Nat) (p : Fin 16)
  /-- R414: Every 1,048,576 ns the device sends DELAY_REQ on CHU. -/
  | delayReqTimer (dt : Nat)
  /-- R414: The upstream device answers with a DELAY_RESP. -/
  | delayReq (dt : Nat)
  /-- R414: The requester computes a cable-delay measurement. -/
  | delayResp (dt : Nat) (turn : BitVec 32)
  /-- R390: Safelight's clock stops and the output writers fail closed. -/
  | sclkStop (dt : Nat)
  /-- R390: VDD_SFL leaves range and the output writers fail closed. -/
  | vddSflOutOfRange (dt : Nat)
  /-- R390: Safelight's watchdog expires, outputs fail closed and Safelight restarts. -/
  | sflWatchdogExpiry (dt : Nat)
  /-- R396: Safelight restarts with no policy, blanking every output until a packet is accepted. -/
  | safelightRestartComplete (dt : Nat)
  /-- R400: Display and coding beats are blanked from 8 ns after assertion. -/
  | privHoldAssert (dt : Nat)
  /-- R400: Blanking ends for frames with no blanked beat from 8 ns after deassertion. -/
  | privHoldDeassert (dt : Nat)
  /-- R401: Every 10 µs Safelight samples rail currents and updates P_avg. -/
  | powerSample (dt : Nat) (mw : BitVec 32)
  /-- R401: Every 100 µs Safelight reads the junction sensors for Tj. -/
  | junctionRead (dt : Nat) (temps : List (BitVec 12))
  /-- R403: Every 100 µs Safelight raises, lowers or holds the step G. -/
  | governorEvaluation (dt : Nat)
  /-- R404: The analog comparator asserts THERM_TRIP# at 115 °C. -/
  | thermComparatorTrip (dt : Nat)
  /-- R381: An uncorrectable error makes the security engine reset itself. -/
  | engineMemoryError (dt : Nat)
  /-- R381: The engine re-derives its identity and restores its measurements. -/
  | engineResetComplete (dt : Nat)
  /-- R433: A write releases n error log entries. -/
  | errRelease (dt : Nat) (v : Word)
  /-- R434: Clearing ERR_FIRST_CTL.valid rearms first-event capture. -/
  | errFirstClear (dt : Nat)
  /-- R30: A core clock loses lock, which is fatal. -/
  | clockLossOfLock (dt : Nat) (k : Fin 5)
  /-- R435: An uncorrectable control-complex memory error is fatal. -/
  | controlMemoryError (dt : Nat) (cp : Fin 4)
  /-- R435: A control processor watchdog expires and it restarts, or a second expiry within 100 ms is fatal. -/
  | cpWatchdogExpiry (dt : Nat) (cp : Fin 4)
  /-- R341: FLR of the PF stops streams, kills tenants and disables queues. -/
  | flrPf (dt : Nat)
  /-- R341: FLR of a VF kills that tenant. -/
  | flrVf (dt : Nat) (k : Fin 8)
  /-- R341: Clearing VF Enable kills every tenant. -/
  | vfEnableClear (dt : Nat)
  /-- R341: A poisoned host write to a register is discarded and reported. -/
  | poisonedTlpWrite (dt : Nat) (f : Fin 9)
  /-- R438: PERST# resets the whole device, except device time and latched state. -/
  | perstAssert (dt : Nat)
  /-- R437: A PCIe Hot Reset resets the whole device. -/
  | hotReset (dt : Nat)
  /-- R462: Deassertion of PORST# and PERST# begins start-up. -/
  | startupBegin (dt : Nat) (pos : BitVec 3)
  /-- R469: The PLLs lock and start-up enters the ROM stage. -/
  | clocksLocked (dt : Nat)
  /-- R471: A PLL not locked within 500 µs fails start-up. -/
  | pllLockTimeout (dt : Nat)
  /-- R365: The boot ROM verifies an image, or refuses both slots. -/
  | imageAccepted (dt : Nat) (a : FwImage) (b : FwImage) (selfTest : Bool)
  /-- R307: DDR5 training completes, or a failed channel fails start-up. -/
  | memTrainingDone (dt : Nat) (failed : Byte)
  /-- R307: Every block is written with zero plaintext. -/
  | memInitDone (dt : Nat) (err : Option (Fin 8))
  /-- R469: The units are ready and the owner function becomes ACTIVE. -/
  | startupReady (dt : Nat)
  /-- R463: A rail below its range for 2 µs causes a power-on reset. -/
  | railDip (dt : Nat)
  /-- R456: The TAP selects the bypass register while PERST# is asserted. -/
  | bypass (dt : Nat)
  /-- R456: The TAP returns the identity code. -/
  | idcode (dt : Nat)
  /-- R456: The TAP samples or preloads the boundary cells. -/
  | samplePreload (dt : Nat) (levels : List Bool) (preload : List Bool)
  /-- R456: The TAP drives pins from the boundary cells. -/
  | extest (dt : Nat)
  /-- R456: The TAP tests AC-coupled SerDes lanes with a pulse under IEEE 1149.6. -/
  | extestPulse (dt : Nat)
  /-- R456: The TAP tests AC-coupled SerDes lanes with a pulse train under IEEE 1149.6. -/
  | extestTrain (dt : Nat)
  /-- R459: SMBus command 0x00 returns 0x5120. -/
  | smbPartId (dt : Nat)
  /-- R459: SMBus command 0x01 returns the boot stage and failure code. -/
  | smbBootStatus (dt : Nat)
  /-- R459: SMBus command 0x02 returns Tj. -/
  | smbTemperature (dt : Nat)
  /-- R459: SMBus command 0x03 returns P_avg. -/
  | smbPower (dt : Nat)
  /-- R459: SMBus command 0x04 returns the trip bit and the governor step. -/
  | smbGovernor (dt : Nat)
  /-- R459: SMBus command 0x05 returns the fatal state and cause. -/
  | smbFatal (dt : Nat)
  /-- R463: Assertion of PORST# puts the device in its reset state, as at power-down, and its next deassertion starts a power-on reset. -/
  | porstAssert (dt : Nat)
  /-- R341: A device read over PCIe completes with an error status or Poisoned TLP, or its completion times out, so the read fails: a DMA read faults with cause HOST_ERROR and a command read fails with FAULT. -/
  | hostErrorCompletion (dt : Nat) (w : HostRead)
  /-- R30: An IXL port loses its recovered word clock, a link fault that takes the port out of ACTIVE, or sends a retrain back to CDR. -/
  | ixlWordClockLoss (dt : Nat) (p : Fin 16)
  /-- R415: Device time reaches the apply time of SCHED_APPLY, and each device enables the distributed schedule or disables and releases it. -/
  | scheduleApplyTime (dt : Nat) (g : Fin 32)
  /-- R306: No DRAM temperature sensor reads above 85 °C any longer, so the refresh interval returns to 3.9 µs and MEM_STATUS.hot clears. -/
  | dramHotEnd (dt : Nat)
  /-- R470: A PCIe configuration request is answered with Configuration Request Retry Status from the start of link training until READY, and is completed normally from READY on or after a failed start-up. -/
  | configurationRequest (dt : Nat) (req : BitVec 64) (w : Option CfgWrite)
  /-- R471: A control processor has not started within 5 ms of image acceptance, which fails start-up with code 0x07 and enters the fatal state. -/
  | cpStartTimeout (dt : Nat) (cp : Fin 4)
deriving DecidableEq, Repr

end Sys2Proof
end

