-- ==== Sys2Proof/Decode.lean ====
section
/-! DEFINITION. The rows of the opcode table give their commands no bits, so no word spells a command. -/
namespace Sys2Proof

/-- The command that a word of the opcode table spells: none, since no row gives bits. -/
def decodeTableWord (_nbits _w : Nat) : Option Instr := none

end Sys2Proof
end

