-- ==== Sys2Proof/Machine/Bits.lean ====
section
/-! DEFINITION. Bit fields, signed numbers, little-endian bytes, rounding, and keyed tables: the helpers every
meaning uses. -/
namespace Sys2Proof.Machine

/-- R12: x[lo+width−1 : lo] as an unsigned number. -/
def getBits (x lo width : Nat) : Nat := x / 2 ^ lo % 2 ^ width

/-- x with bits [lo+width−1 : lo] replaced by v (taken modulo 2^width). -/
def putBits (x lo width v : Nat) : Nat :=
  x - getBits x lo width * 2 ^ lo + v % 2 ^ width * 2 ^ lo

/-- Bit k of x. -/
def bit (x k : Nat) : Bool := x / 2 ^ k % 2 == 1

/-- A truth value as a one-bit field. -/
def b2n (b : Bool) : Nat := if b then 1 else 0

/-- x with bit k set. -/
def setBit (x k : Nat) : Nat := if bit x k then x else x + 2 ^ k

/-- The signed reading of a w-bit number. -/
def toSigned (w x : Nat) : Int := if x % 2 ^ w < 2 ^ (w - 1) then (x % 2 ^ w : Nat) else (x % 2 ^ w : Nat) - (2 ^ w : Nat)

/-- The w-bit two's complement of an integer. -/
def ofSigned (w : Nat) (i : Int) : Nat := (i % (2 ^ w : Nat)).toNat

/-- clamp of R96 and R126: lo if x < lo, hi if x > hi, x otherwise. -/
def clampI (x lo hi : Int) : Int := if x < lo then lo else if hi < x then hi else x

/-- clamp over natural numbers. -/
def clampN (x lo hi : Nat) : Nat := if x < lo then lo else if hi < x then hi else x

/-- rne_div of R121: a / b rounded to the nearest integer, ties to even (b > 0). -/
def rneDiv (a : Int) (b : Nat) : Int :=
  let q := a / (b : Int)
  let r := a % (b : Int)
  if 2 * r < b then q else if (b : Int) < 2 * r then q + 1 else if q % 2 = 0 then q else q + 1

/-- rne_div over natural numbers. -/
def rneDivN (a b : Nat) : Nat :=
  let q := a / b
  let r := a % b
  if 2 * r < b then q else if b < 2 * r then q + 1 else if q % 2 = 0 then q else q + 1

/-- a / b rounded up. -/
def ceilDiv (a b : Nat) : Nat := (a + b - 1) / b

/-- An exact fraction: numerator and denominator. -/
abbrev Frac := Nat × Nat
def Frac.add (a b : Frac) : Frac := (a.1 * b.2 + b.1 * a.2, a.2 * b.2)
def Frac.le (a b : Frac) : Bool := decide (a.1 * b.2 ≤ b.1 * a.2)
def Frac.sum (l : List Frac) : Frac := l.foldl Frac.add (0, 1)
def Frac.max (a b : Frac) : Frac := if Frac.le a b then b else a

/-- A counter of w bits that saturates. -/
def satAdd (w x n : Nat) : Nat := min (x + n) (2 ^ w - 1)

/-- R4: n bytes of x, least significant first. -/
def leBytes : Nat → Nat → List Byte
  | 0, _ => []
  | n + 1, x => BitVec.ofNat 8 x :: leBytes n (x / 256)

/-- R4: the number whose bytes these are, least significant first. -/
def ofLE : List Byte → Nat
  | [] => 0
  | b :: bs => b.toNat + 256 * ofLE bs

/-- The n-byte little-endian number at offset off of a byte string. -/
def leAt (bs : List Byte) (off n : Nat) : Nat := ofLE ((bs.drop off).take n)

/-- Bytes [off, off + n), zero beyond the end. -/
def bytesAt (bs : List Byte) (off n : Nat) : List Byte :=
  let t := (bs.drop off).take n
  t ++ List.replicate (n - t.length) 0

/-! Keyed tables: a list of pairs; an unlisted key reads as a default value. -/

/-- The value at a key, or the default. -/
def lookupD {κ α : Type} [DecidableEq κ] : List (κ × α) → κ → α → α
  | [], _, d => d
  | (k', v) :: t, k, d => if k' = k then v else lookupD t k d

/-- Sets the value at a key. -/
def insertAt {κ α : Type} [DecidableEq κ] (t : List (κ × α)) (k : κ) (v : α) : List (κ × α) :=
  (k, v) :: t.filter fun e => e.1 ≠ k

/-- Removes a key. -/
def eraseAt {κ α : Type} [DecidableEq κ] (t : List (κ × α)) (k : κ) : List (κ × α) :=
  t.filter fun e => e.1 ≠ k

/-- A table keyed by number. -/
abbrev Tab (α : Type) := List (Nat × α)

/-- The value at a key; the type's default where none is listed. -/
def Tab.get {α : Type} [Inhabited α] (t : Tab α) (k : Nat) : α := lookupD t k default

/-- Sets the value at a key. -/
def Tab.set {α : Type} (t : Tab α) (k : Nat) (v : α) : Tab α := insertAt t k v

/-- Changes the value at a key. -/
def Tab.modify {α : Type} [Inhabited α] (t : Tab α) (k : Nat) (f : α → α) : Tab α := t.set k (f (t.get k))

/-- Adds n to the number at a key. -/
def Tab.bump (t : Tab Nat) (k n : Nat) : Tab Nat := t.set k (t.get k + n)

/-- Sets element i of a list; the list is unchanged where it has none. -/
def setAt {α : Type} : List α → Nat → α → List α
  | [], _, _ => []
  | _ :: t, 0, v => v :: t
  | h :: t, i + 1, v => h :: setAt t i v

end Sys2Proof.Machine
end

