-- ==== Sys2Proof/Machine/RegName.lean ====
section
/-! DEFINITION. The names of the registers the spec gives the device, one constructor for each register table. -/
namespace Sys2Proof.Machine

/-- The register blocks of R16; FN is a function window (R342, R343), repeated for the owner and T0 to T7. -/
inductive Block
  | GLB
  | SYN
  | IXL
  | CAM
  | LC
  | HLD
  | MEM
  | DMA
  | SEC
  | SFL
  | CHN
  | ERR
  | OBS
  | PIN
  | PWR
  | FN
deriving DecidableEq, Repr, Inhabited

/-- Every register of the spec, by the spec's own name. A register that the spec repeats (for each port, camera,
core, function, or index) is one name with an instance number; an 8-word or longer array is one name as well. -/
inductive RegName
  /-- R17, GLB. -/
  | GLB_ID
  /-- R18, GLB. -/
  | GLB_SG_BOUNDARY
  /-- R20, GLB. -/
  | GLB_SG_STATUS
  /-- R29, GLB. -/
  | GLB_CLK_STATUS
  /-- R30, GLB. -/
  | GLB_CLK_LOST
  /-- R450, GLB. -/
  | GLB_ADMIT
  /-- R450, GLB. -/
  | GLB_ADMIT_STATUS
  /-- R438, GLB. -/
  | GLB_RESET_CAUSE
  /-- R471, GLB. -/
  | GLB_BOOT_STATUS
  /-- R94, SYN. -/
  | SYN_CFG
  /-- R99, SYN. -/
  | SYN_CTL
  /-- R100, SYN. -/
  | SYN_STATUS
  /-- R92, SYN. -/
  | SYN_TIME_LO
  /-- R92, SYN. -/
  | SYN_TIME_HI
  /-- R99, SYN. -/
  | SYN_SET_LO
  /-- R99, SYN. -/
  | SYN_SET_HI
  /-- R95, SYN. -/
  | SYN_PTM_OFFSET_LO
  /-- R95, SYN. -/
  | SYN_PTM_OFFSET_HI
  /-- R96, SYN. -/
  | SYN_OFFSET_LAST
  /-- R96, SYN. -/
  | SYN_RATE_ADJ
  /-- R101, SYN. -/
  | SYN_LAST_STEP_LO
  /-- R101, SYN. -/
  | SYN_LAST_STEP_HI
  /-- R101, SYN. -/
  | SYN_LAST_STEP_NS
  /-- R110, SYN. -/
  | SYN_SNAP_LO
  /-- R110, SYN. -/
  | SYN_SNAP_HI
  /-- R110, SYN. -/
  | SYN_SNAP_STATUS
  /-- R112, SYN. -/
  | SYN_CNT_STEP
  /-- R112, SYN. -/
  | SYN_CNT_SKIPPED
  /-- R112, SYN. -/
  | SYN_CNT_MEAS_FAIL
  /-- R112, SYN. -/
  | SYN_CNT_HOLDOVER
  /-- R112, SYN. -/
  | SYN_CNT_TRIG_NOLINK
  /-- R112, SYN. -/
  | SYN_CNT_LATE_TICK
  /-- R106, SYN. -/
  | SYN_PORT_DELAY
  /-- R103, SYN. -/
  | SYN_SCHED_BASE_LO
  /-- R103, SYN. -/
  | SYN_SCHED_BASE_HI
  /-- R103, SYN. -/
  | SYN_SCHED_PERIOD
  /-- R103, SYN. -/
  | SYN_SCHED_CTL
  /-- R111, SYN. -/
  | SYN_OUT_T_LO
  /-- R111, SYN. -/
  | SYN_OUT_T_HI
  /-- R111, SYN. -/
  | SYN_OUT_PERIOD
  /-- R111, SYN. -/
  | SYN_OUT_CTL
  /-- R37, IXL. -/
  | IXL_PORT_CFG
  /-- R38, IXL. -/
  | IXL_PORT_STATUS
  /-- R60, IXL. -/
  | IXL_SLOTS_PRESENT
  /-- R61, IXL. -/
  | IXL_HUB_CAPS
  /-- R60, IXL. -/
  | IXL_HUB_ID
  /-- R62, IXL. -/
  | IXL_LINK_EVT
  /-- R60, IXL. -/
  | IXL_CNT_CRC
  /-- R60, IXL. -/
  | IXL_CNT_NAK
  /-- R60, IXL. -/
  | IXL_CNT_LOST
  /-- R60, IXL. -/
  | IXL_CNT_DROP
  /-- R60, IXL. -/
  | IXL_CNT_RETRAIN
  /-- R60, IXL. -/
  | IXL_CNT_CREDIT_OVF
  /-- R46, IXL. -/
  | IXL_SLOT_CFG
  /-- R64, CAM. -/
  | CAM_CFG
  /-- R65, CAM. -/
  | CAM_GEOM
  /-- R66, CAM. -/
  | CAM_PERIOD
  /-- R67, CAM. -/
  | CAM_TIMEOUT
  /-- R68, CAM. -/
  | CAM_GROUP
  /-- R72, CAM. -/
  | CAM_NEG_BASE_LO
  /-- R72, CAM. -/
  | CAM_NEG_BASE_HI
  /-- R72, CAM. -/
  | CAM_NEG_CFG
  /-- R77, CAM. -/
  | CAM_LEDGER_HOST_LO
  /-- R77, CAM. -/
  | CAM_LEDGER_HOST_HI
  /-- R88, CAM. -/
  | CAM_STATUS
  /-- R89, CAM. -/
  | CAM_SEQ
  /-- R90, CAM. -/
  | CAM_CNT_MISSED
  /-- R90, CAM. -/
  | CAM_CNT_STALE
  /-- R90, CAM. -/
  | CAM_CNT_MALFORMED
  /-- R90, CAM. -/
  | CAM_CNT_FILLED
  /-- R90, CAM. -/
  | CAM_CNT_DIVERT
  /-- R90, CAM. -/
  | CAM_CNT_NOSLOT
  /-- R104, CAM. -/
  | CAM_TRIG_CFG
  /-- R113, CAM. -/
  | CAM_EXPO_CFG
  /-- R114, CAM. -/
  | CAM_EXPO_NEXT0
  /-- R114, CAM. -/
  | CAM_EXPO_NEXT1
  /-- R114, CAM. -/
  | CAM_EXPO_NEXT2
  /-- R118, CAM. -/
  | CAM_EXPO_STATUS
  /-- R115, CAM. -/
  | CAM_EXPO_TARGET
  /-- R128, CAM. -/
  | CAM_WB_GAIN
  /-- R123, CAM. -/
  | CAM_STATS_CFG
  /-- R124, CAM. -/
  | CAM_STATS_HOST_LO
  /-- R124, CAM. -/
  | CAM_STATS_HOST_HI
  /-- R127, CAM. -/
  | CAM_AE_CFG
  /-- R127, CAM. -/
  | CAM_AE_LIM_EXPO
  /-- R127, CAM. -/
  | CAM_AE_LIM_GAIN
  /-- R129, CAM. -/
  | CAM_AWB_CFG
  /-- R130, CAM. -/
  | CAM_CNT_EXPO_MISMATCH
  /-- R130, CAM. -/
  | CAM_CNT_EXPO_LATE
  /-- R130, CAM. -/
  | CAM_CNT_EMBED_MISSING
  /-- R130, CAM. -/
  | CAM_CNT_AE_UPDATE
  /-- R127, CAM. -/
  | CAM_AE_WEIGHT
  /-- R135, CAM. -/
  | CAM_PPB_BASE_LO
  /-- R135, CAM. -/
  | CAM_PPB_BASE_HI
  /-- R136, CAM. -/
  | CAM_PPB_SEL
  /-- R144, CAM. -/
  | CAM_TSTATE_BASE_LO
  /-- R144, CAM. -/
  | CAM_TSTATE_BASE_HI
  /-- R144, CAM. -/
  | CAM_TSTATE_CFG
  /-- R154, CAM. -/
  | CAM_OUT_BASE_LO
  /-- R154, CAM. -/
  | CAM_OUT_BASE_HI
  /-- R155, CAM. -/
  | CAM_OUT_RING
  /-- R157, CAM. -/
  | CAM_OUT_CREDIT
  /-- R159, CAM. -/
  | CAM_OUT_DISP
  /-- R159, CAM. -/
  | CAM_OUT_CODE
  /-- R159, CAM. -/
  | CAM_OUT_CODE_DIV
  /-- R159, CAM. -/
  | CAM_OUT_MV
  /-- R160, CAM. -/
  | CAM_OUT_POLICY
  /-- R158, CAM. -/
  | CAM_OUT_STATUS
  /-- R166, CAM. -/
  | CAM_CNT_OUT_NOSLOT
  /-- R166, CAM. -/
  | CAM_CNT_OUT_SHED
  /-- R166, CAM. -/
  | CAM_CNT_TSTATE_RESET
  /-- R337, CAM. -/
  | CAM_ADAPT_CFG
  /-- R337, CAM. -/
  | CAM_ADAPT_OPT
  /-- R337, CAM. -/
  | CAM_ADAPT_STATUS
  /-- R337, CAM. -/
  | CAM_ADAPT_AUDIT_LO
  /-- R337, CAM. -/
  | CAM_ADAPT_AUDIT_HI
  /-- R335, CAM. -/
  | CAM_ADAPT_NUM
  /-- R336, CAM. -/
  | CAM_ADAPT_DIGEST
  /-- R337, CAM. -/
  | CAM_NOISE
  /-- R337, CAM. -/
  | CAM_REV_CFG
  /-- R337, CAM. -/
  | CAM_CNT_ADAPT_PAIR
  /-- R337, CAM. -/
  | CAM_CNT_ADAPT_NOTSTILL
  /-- R337, CAM. -/
  | CAM_CNT_ADAPT_REJECT
  /-- R337, CAM. -/
  | CAM_CNT_ADAPT_PAUSE
  /-- R175, LC. -/
  | LC_SPAD_SIZE
  /-- R193, LC. -/
  | LC_STATUS
  /-- R194, LC. -/
  | LC_FAULT
  /-- R177, LC. -/
  | LC_ECC_CNT
  /-- R238, LC. -/
  | LC_RETAKE_CFG
  /-- R239, LC. -/
  | LC_CNT_RETAKE
  /-- R239, LC. -/
  | LC_CNT_SKIP_OFF
  /-- R239, LC. -/
  | LC_CNT_SKIP_GOV
  /-- R239, LC. -/
  | LC_CNT_SKIP_LIMIT
  /-- R239, LC. -/
  | LC_CNT_SKIP_SLACK
  /-- R239, LC. -/
  | LC_CNT_CLIP_HIGH
  /-- R272, LC. -/
  | LC_DESC_COUNT
  /-- R338, LC. -/
  | LC_ADAPT_CFG
  /-- R338, LC. -/
  | LC_ADAPT_USED
  /-- R174, LC. -/
  | LC_CTX_STATUS
  /-- R255, LC. -/
  | LC_PAD
  /-- R254, LC. -/
  | LC_SHAPE_WORD
  /-- R281, LC. -/
  | LC_DMAQ_CFG
  /-- R281, LC. -/
  | LC_DMAQ_ROWS
  /-- R281, LC. -/
  | LC_DMAQ_STATUS
  /-- R281, LC. -/
  | LC_DMAQ_OUT
  /-- R282, LC. -/
  | LC_DMA_REG
  /-- R287, LC. -/
  | LC_DMAF_INFO
  /-- R287, LC. -/
  | LC_DMAF_COORD
  /-- R287, LC. -/
  | LC_DMAF_COORD3
  /-- R287, LC. -/
  | LC_DMAF_ADDR_LO
  /-- R287, LC. -/
  | LC_DMAF_ADDR_HI
  /-- R287, LC. -/
  | LC_DMAF_CRC
  /-- R294, LC. -/
  | LC_CNT_DMA_FAULT
  /-- R294, LC. -/
  | LC_CNT_DMA_RESUME
  /-- R294, LC. -/
  | LC_CNT_DMA_POISON
  /-- R294, LC. -/
  | LC_CNT_DMA_POISON_DATA
  /-- R294, LC. -/
  | LC_CNT_DMA_CLOSED
  /-- R299, HLD. -/
  | HLD_WAYMASK
  /-- R301, HLD. -/
  | HLD_PIN_BASE
  /-- R301, HLD. -/
  | HLD_PIN_SIZE
  /-- R301, HLD. -/
  | HLD_PIN_WAYS
  /-- R302, HLD. -/
  | HLD_ECC_CNT
  /-- R265, HLD. -/
  | HLD_WC_CFG
  /-- R265, HLD. -/
  | HLD_WC_NEXT
  /-- R265, HLD. -/
  | HLD_WC_OCC
  /-- R266, HLD. -/
  | HLD_WC_CNT_REISSUE
  /-- R266, HLD. -/
  | HLD_WC_CNT_LATE_COMMIT
  /-- R266, HLD. -/
  | HLD_WC_CNT_STALE_WR
  /-- R315, MEM. -/
  | MEM_STATUS
  /-- R315, MEM. -/
  | MEM_GEOM
  /-- R314, MEM. -/
  | MEM_POISON_ADDR_LO
  /-- R314, MEM. -/
  | MEM_POISON_ADDR_HI
  /-- R316, MEM. -/
  | MEM_CNT_CRC_RETRY
  /-- R316, MEM. -/
  | MEM_CNT_CRC_POISON
  /-- R316, MEM. -/
  | MEM_CNT_MAC_FAIL
  /-- R316, MEM. -/
  | MEM_CNT_POISON_READ
  /-- R316, MEM. -/
  | MEM_CNT_SWEEP
  /-- R288, DMA. -/
  | DMA_FAULT_CFG
  /-- R342, FN. -/
  | FN_ID
  /-- R342, FN. -/
  | FN_CNT_BME_DROP
  /-- R344, FN. -/
  | CQ_BASE_LO
  /-- R344, FN. -/
  | CQ_BASE_HI
  /-- R344, FN. -/
  | RQ_BASE_LO
  /-- R344, FN. -/
  | RQ_BASE_HI
  /-- R345, FN. -/
  | CQ_CFG
  /-- R345, FN. -/
  | CQ_STATUS
  /-- R356, FN. -/
  | EVQ_BASE_LO
  /-- R356, FN. -/
  | EVQ_BASE_HI
  /-- R356, FN. -/
  | EVQ_CFG
  /-- R356, FN. -/
  | EVQ_STATUS
  /-- R345, FN. -/
  | CQ_TAIL
  /-- R345, FN. -/
  | RQ_HEAD
  /-- R359, FN. -/
  | MBX_FW_DATA
  /-- R359, FN. -/
  | MBX_FW_CTL
  /-- R359, FN. -/
  | MBX_SFL_DATA
  /-- R359, FN. -/
  | MBX_SFL_CTL
  /-- R359, FN. -/
  | MBX_CP0_DATA
  /-- R359, FN. -/
  | MBX_CP0_CTL
  /-- R359, FN. -/
  | MBX_CP1_DATA
  /-- R359, FN. -/
  | MBX_CP1_CTL
  /-- R359, FN. -/
  | MBX_CP2_DATA
  /-- R359, FN. -/
  | MBX_CP2_CTL
  /-- R359, FN. -/
  | MBX_CP3_DATA
  /-- R359, FN. -/
  | MBX_CP3_CTL
  /-- R359, FN. -/
  | MBX_RSFL_DATA
  /-- R359, FN. -/
  | MBX_RSFL_CTL
  /-- R359, FN. -/
  | FN_MBX_VEC
  /-- R342, FN. -/
  | MSIX_TABLE
  /-- R342, FN. -/
  | MSIX_PBA
  /-- R387, SEC. -/
  | SEC_STATUS
  /-- R386, SEC. -/
  | SEC_SNUF_CFG
  /-- R386, SEC. -/
  | SEC_SNUF_STATUS
  /-- R367, SEC. -/
  | SEC_MEAS
  /-- R369, SEC. -/
  | SEC_ID_PUB
  /-- R388, SEC. -/
  | SEC_CNT_ATTEST
  /-- R388, SEC. -/
  | SEC_CNT_KEY_IMPORT
  /-- R388, SEC. -/
  | SEC_CNT_KEY_DENIED
  /-- R388, SEC. -/
  | SEC_CNT_SCRUB
  /-- R388, SEC. -/
  | SEC_CNT_ENGINE_RESET
  /-- R388, SEC. -/
  | SEC_CNT_SEALED_DENY
  /-- R406, SFL. -/
  | SFL_STATUS
  /-- R407, SFL. -/
  | SFL_POLICY_SEQ
  /-- R407, SFL. -/
  | SFL_LIMIT
  /-- R407, SFL. -/
  | SFL_POWER
  /-- R407, SFL. -/
  | SFL_THERM
  /-- R407, SFL. -/
  | SFL_GOV
  /-- R408, SFL. -/
  | SFL_CNT_POLICY_REJECT
  /-- R408, SFL. -/
  | SFL_CNT_RESTART
  /-- R408, SFL. -/
  | SFL_CNT_GOV_STEP
  /-- R408, SFL. -/
  | SFL_CNT_HOLD
  /-- R426, CHN. -/
  | CHN_STATUS
  /-- R426, CHN. -/
  | CHN_CABLE
  /-- R426, CHN. -/
  | CHN_DELAY_ADJ
  /-- R426, CHN. -/
  | CHN_FWD
  /-- R426, CHN. -/
  | CHN_FWD_PEER
  /-- R426, CHN. -/
  | CHN_WIN_BASE_LO
  /-- R426, CHN. -/
  | CHN_WIN_BASE_HI
  /-- R426, CHN. -/
  | CHN_WIN_LEN
  /-- R426, CHN. -/
  | CHN_WIN_CTL
  /-- R426, CHN. -/
  | CHN_RWIN
  /-- R426, CHN. -/
  | CHN_CNT_CRC
  /-- R426, CHN. -/
  | CHN_CNT_RETRAIN
  /-- R426, CHN. -/
  | CHN_CNT_WIN_DROP
  /-- R426, CHN. -/
  | CHN_CNT_CLOSED_LATE
  /-- R426, CHN. -/
  | CHN_CNT_FWD_DROP
  /-- R426, CHN. -/
  | CHN_CNT_PEER_LOST
  /-- R434, ERR. -/
  | ERR_CFG
  /-- R434, ERR. -/
  | ERR_HEAD
  /-- R434, ERR. -/
  | ERR_TAIL
  /-- R434, ERR. -/
  | ERR_RELEASE
  /-- R434, ERR. -/
  | ERR_FIRST
  /-- R434, ERR. -/
  | ERR_FIRST_CTL
  /-- R436, ERR. -/
  | ERR_FATAL
  /-- R436, ERR. -/
  | ERR_FATAL_TIME_LO
  /-- R436, ERR. -/
  | ERR_FATAL_TIME_HI
  /-- R434, ERR. -/
  | ERR_DROP
  /-- R429, ERR. -/
  | ERR_ENTRY
  /-- R452, OBS. -/
  | OBS_TRACE_CFG
  /-- R451, OBS. -/
  | OBS_TRACE_HEAD
  /-- R453, OBS. -/
  | OBS_CNT_LO
  /-- R453, OBS. -/
  | OBS_CNT_HI
  /-- R363, PIN. -/
  | PIN_OWN
  /-- R363, PIN. -/
  | PIN_CLAIM
  /-- R363, PIN. -/
  | PIN_CLAIM_STATUS
  /-- R458, PIN. -/
  | PIN_GPIO_DIR
  /-- R458, PIN. -/
  | PIN_GPIO_OUT
  /-- R458, PIN. -/
  | PIN_GPIO_IN
  /-- R408, SFL. -/
  | SFL_POLICY
deriving DecidableEq, Repr, Inhabited

end Sys2Proof.Machine
end

