-- ==== Sys2Proof/Machine/RegMap.lean ====
section
/-! DEFINITION. The register map: address, fields, access types and reset values of every register, from the
register tables of the spec. -/
namespace Sys2Proof.Machine

/-- Access types of R9. WL stands in R9 only: no register table of the spec uses it. -/
inductive Acc
  | RW | RO | W1C | WO | WL | SO
deriving DecidableEq, Repr

/-- A field: lowest bit, width, access type and reset value. -/
structure FieldInfo where
  lo : Nat
  width : Nat
  acc : Acc
  reset : Nat
deriving DecidableEq, Repr

/-- R7: which half of a 64-bit pair a register is. -/
inductive Half
  | single | low | high
deriving DecidableEq, Repr

/-- Where a register lies and what it holds. Instance i of a register lies at
base + stride · (i % sub) in its unit's window; the unit is i / sub. -/
structure RegInfo where
  block : Block
  base : Nat
  sub : Nat
  stride : Nat
  half : Half
  fields : List FieldInfo
deriving DecidableEq, Repr

/-- The register map. -/
def RegName.info : RegName → RegInfo
  | .GLB_ID => ⟨.GLB, 0, 1, 4, .single,
      [⟨16, 16, .RO, 0x5120⟩, ⟨8, 8, .RO, 0x4C⟩, ⟨4, 4, .RO, 1⟩, ⟨0, 4, .RO, 0⟩]⟩
  | .GLB_SG_BOUNDARY => ⟨.GLB, 0x40, 1, 4, .single,
      [⟨0, 16, .RW, 0x1111⟩]⟩
  | .GLB_SG_STATUS => ⟨.GLB, 0x44, 1, 4, .single,
      [⟨16, 1, .W1C, 0⟩, ⟨8, 4, .RO, 3⟩, ⟨0, 5, .RO, 4⟩]⟩
  | .GLB_CLK_STATUS => ⟨.GLB, 0x80, 1, 4, .single,
      [⟨5, 1, .RO, 0⟩, ⟨4, 1, .RO, 0⟩, ⟨3, 1, .RO, 0⟩, ⟨2, 1, .RO, 0⟩, ⟨1, 1, .RO, 0⟩, ⟨0, 1, .RO, 0⟩]⟩
  | .GLB_CLK_LOST => ⟨.GLB, 0x84, 1, 4, .single,
      [⟨5, 1, .W1C, 0⟩, ⟨4, 1, .W1C, 0⟩, ⟨3, 1, .W1C, 0⟩, ⟨2, 1, .W1C, 0⟩, ⟨1, 1, .W1C, 0⟩, ⟨0, 1, .W1C, 0⟩]⟩
  | .GLB_ADMIT => ⟨.GLB, 0x100, 1, 4, .single,
      [⟨24, 8, .RW, 0x58⟩, ⟨16, 8, .RW, 0x4B⟩, ⟨8, 8, .RW, 0x30⟩]⟩
  | .GLB_ADMIT_STATUS => ⟨.GLB, 0x104, 1, 4, .single,
      [⟨28, 4, .RO, 0⟩, ⟨0, 9, .RO, 0⟩]⟩
  | .GLB_RESET_CAUSE => ⟨.GLB, 0x120, 1, 4, .single,
      [⟨8, 8, .RO, 0⟩, ⟨0, 2, .RO, 0⟩]⟩
  | .GLB_BOOT_STATUS => ⟨.GLB, 0x140, 1, 4, .single,
      [⟨8, 8, .RO, 0⟩, ⟨4, 1, .RO, 0⟩, ⟨0, 4, .RO, 0⟩]⟩
  | .SYN_CFG => ⟨.SYN, 0, 1, 4, .single,
      [⟨16, 10, .RW, 0xA⟩, ⟨8, 4, .RW, 3⟩, ⟨0, 2, .RW, 0⟩]⟩
  | .SYN_CTL => ⟨.SYN, 4, 1, 4, .single,
      [⟨0, 1, .WO, 0⟩]⟩
  | .SYN_STATUS => ⟨.SYN, 8, 1, 4, .single,
      [⟨19, 1, .W1C, 0⟩, ⟨18, 1, .RO, 0⟩, ⟨17, 1, .RO, 0⟩, ⟨16, 1, .W1C, 0⟩, ⟨8, 2, .RO, 0⟩, ⟨0, 3, .RO, 0⟩]⟩
  | .SYN_TIME_LO => ⟨.SYN, 0x10, 1, 4, .low,
      [⟨0, 32, .RO, 0⟩]⟩
  | .SYN_TIME_HI => ⟨.SYN, 0x14, 1, 4, .high,
      [⟨0, 32, .RO, 0⟩]⟩
  | .SYN_SET_LO => ⟨.SYN, 0x18, 1, 4, .low,
      [⟨0, 32, .RW, 0⟩]⟩
  | .SYN_SET_HI => ⟨.SYN, 0x1C, 1, 4, .high,
      [⟨0, 32, .RW, 0⟩]⟩
  | .SYN_PTM_OFFSET_LO => ⟨.SYN, 0x20, 1, 4, .low,
      [⟨0, 32, .RW, 0⟩]⟩
  | .SYN_PTM_OFFSET_HI => ⟨.SYN, 0x24, 1, 4, .high,
      [⟨0, 32, .RW, 0⟩]⟩
  | .SYN_OFFSET_LAST => ⟨.SYN, 0x28, 1, 4, .single,
      [⟨0, 32, .RO, 0⟩]⟩
  | .SYN_RATE_ADJ => ⟨.SYN, 0x2C, 1, 4, .single,
      [⟨0, 32, .RO, 0⟩]⟩
  | .SYN_LAST_STEP_LO => ⟨.SYN, 0x30, 1, 4, .low,
      [⟨0, 32, .RO, 0⟩]⟩
  | .SYN_LAST_STEP_HI => ⟨.SYN, 0x34, 1, 4, .high,
      [⟨0, 32, .RO, 0⟩]⟩
  | .SYN_LAST_STEP_NS => ⟨.SYN, 0x38, 1, 4, .single,
      [⟨0, 32, .RO, 0⟩]⟩
  | .SYN_SNAP_LO => ⟨.SYN, 0x40, 1, 4, .low,
      [⟨0, 32, .RO, 0⟩]⟩
  | .SYN_SNAP_HI => ⟨.SYN, 0x44, 1, 4, .high,
      [⟨0, 32, .RO, 0⟩]⟩
  | .SYN_SNAP_STATUS => ⟨.SYN, 0x48, 1, 4, .single,
      [⟨16, 16, .RO, 0⟩, ⟨0, 5, .RO, 0⟩]⟩
  | .SYN_CNT_STEP => ⟨.SYN, 0x80, 1, 4, .single,
      [⟨0, 32, .RO, 0⟩]⟩
  | .SYN_CNT_SKIPPED => ⟨.SYN, 0x84, 1, 4, .single,
      [⟨0, 32, .RO, 0⟩]⟩
  | .SYN_CNT_MEAS_FAIL => ⟨.SYN, 0x88, 1, 4, .single,
      [⟨0, 32, .RO, 0⟩]⟩
  | .SYN_CNT_HOLDOVER => ⟨.SYN, 0x8C, 1, 4, .single,
      [⟨0, 32, .RO, 0⟩]⟩
  | .SYN_CNT_TRIG_NOLINK => ⟨.SYN, 0x90, 1, 4, .single,
      [⟨0, 32, .RO, 0⟩]⟩
  | .SYN_CNT_LATE_TICK => ⟨.SYN, 0x94, 1, 4, .single,
      [⟨0, 32, .RO, 0⟩]⟩
  | .SYN_PORT_DELAY => ⟨.SYN, 0x100, 16, 4, .single,
      [⟨0, 11, .RW, 0⟩]⟩
  | .SYN_SCHED_BASE_LO => ⟨.SYN, 0x200, 32, 16, .low,
      [⟨0, 32, .RW, 0⟩]⟩
  | .SYN_SCHED_BASE_HI => ⟨.SYN, 0x204, 32, 16, .high,
      [⟨0, 32, .RW, 0⟩]⟩
  | .SYN_SCHED_PERIOD => ⟨.SYN, 0x208, 32, 16, .single,
      [⟨0, 32, .RW, 0x17D7840⟩]⟩
  | .SYN_SCHED_CTL => ⟨.SYN, 0x20C, 32, 16, .single,
      [⟨0, 1, .RW, 0⟩]⟩
  | .SYN_OUT_T_LO => ⟨.SYN, 0x400, 4, 16, .low,
      [⟨0, 32, .RW, 0⟩]⟩
  | .SYN_OUT_T_HI => ⟨.SYN, 0x404, 4, 16, .high,
      [⟨0, 32, .RW, 0⟩]⟩
  | .SYN_OUT_PERIOD => ⟨.SYN, 0x408, 4, 16, .single,
      [⟨0, 32, .RW, 0⟩]⟩
  | .SYN_OUT_CTL => ⟨.SYN, 0x40C, 4, 16, .single,
      [⟨31, 1, .RW, 0⟩, ⟨0, 16, .RW, 0x64⟩]⟩
  | .IXL_PORT_CFG => ⟨.IXL, 0, 1, 4, .single,
      [⟨8, 2, .RW, 0⟩, ⟨1, 1, .WO, 0⟩, ⟨0, 1, .RW, 0⟩]⟩
  | .IXL_PORT_STATUS => ⟨.IXL, 4, 1, 4, .single,
      [⟨24, 8, .RO, 0⟩, ⟨16, 4, .RO, 0⟩, ⟨8, 2, .RO, 0⟩, ⟨4, 1, .RO, 0⟩, ⟨0, 4, .RO, 0⟩]⟩
  | .IXL_SLOTS_PRESENT => ⟨.IXL, 8, 1, 4, .single,
      [⟨0, 32, .RO, 0⟩]⟩
  | .IXL_HUB_CAPS => ⟨.IXL, 0xC, 1, 4, .single,
      [⟨24, 8, .RO, 0⟩, ⟨16, 8, .RO, 0⟩, ⟨0, 16, .RO, 0⟩]⟩
  | .IXL_HUB_ID => ⟨.IXL, 0x10, 1, 4, .single,
      [⟨0, 32, .RO, 0⟩]⟩
  | .IXL_LINK_EVT => ⟨.IXL, 0x14, 1, 4, .single,
      [⟨5, 1, .W1C, 0⟩, ⟨4, 1, .W1C, 0⟩, ⟨3, 1, .W1C, 0⟩, ⟨2, 1, .W1C, 0⟩, ⟨1, 1, .W1C, 0⟩, ⟨0, 1, .W1C, 0⟩]⟩
  | .IXL_CNT_CRC => ⟨.IXL, 0x20, 1, 4, .single,
      [⟨0, 32, .RO, 0⟩]⟩
  | .IXL_CNT_NAK => ⟨.IXL, 0x24, 1, 4, .single,
      [⟨0, 32, .RO, 0⟩]⟩
  | .IXL_CNT_LOST => ⟨.IXL, 0x28, 1, 4, .single,
      [⟨0, 32, .RO, 0⟩]⟩
  | .IXL_CNT_DROP => ⟨.IXL, 0x2C, 1, 4, .single,
      [⟨0, 32, .RO, 0⟩]⟩
  | .IXL_CNT_RETRAIN => ⟨.IXL, 0x30, 1, 4, .single,
      [⟨0, 32, .RO, 0⟩]⟩
  | .IXL_CNT_CREDIT_OVF => ⟨.IXL, 0x34, 1, 4, .single,
      [⟨0, 32, .RO, 0⟩]⟩
  | .IXL_SLOT_CFG => ⟨.IXL, 0x100, 32, 4, .single,
      [⟨8, 6, .RW, 0x2C⟩, ⟨1, 1, .RW, 0⟩, ⟨0, 1, .RW, 0⟩]⟩
  | .CAM_CFG => ⟨.CAM, 0, 1, 4, .single,
      [⟨20, 4, .RW, 0⟩, ⟨16, 1, .RW, 0⟩, ⟨8, 1, .RW, 0⟩]⟩
  | .CAM_GEOM => ⟨.CAM, 4, 1, 4, .single,
      [⟨28, 4, .RW, 0⟩, ⟨16, 12, .RW, 0x3C0⟩, ⟨0, 13, .RW, 0x500⟩]⟩
  | .CAM_PERIOD => ⟨.CAM, 8, 1, 4, .single,
      [⟨0, 24, .RW, 0x61A8⟩]⟩
  | .CAM_TIMEOUT => ⟨.CAM, 0xC, 1, 4, .single,
      [⟨16, 16, .RW, 0x753⟩, ⟨0, 16, .RW, 0x271⟩]⟩
  | .CAM_GROUP => ⟨.CAM, 0x10, 1, 4, .single,
      [⟨0, 5, .RW, 0⟩]⟩
  | .CAM_NEG_BASE_LO => ⟨.CAM, 0x18, 1, 4, .low,
      [⟨12, 20, .RW, 0⟩]⟩
  | .CAM_NEG_BASE_HI => ⟨.CAM, 0x1C, 1, 4, .high,
      [⟨0, 4, .RW, 0⟩]⟩
  | .CAM_NEG_CFG => ⟨.CAM, 0x20, 1, 4, .single,
      [⟨0, 4, .RW, 0⟩]⟩
  | .CAM_LEDGER_HOST_LO => ⟨.CAM, 0x28, 1, 4, .low,
      [⟨12, 20, .RW, 0⟩, ⟨0, 1, .RW, 0⟩]⟩
  | .CAM_LEDGER_HOST_HI => ⟨.CAM, 0x2C, 1, 4, .high,
      [⟨0, 32, .RW, 0⟩]⟩
  | .CAM_STATUS => ⟨.CAM, 0x30, 1, 4, .single,
      [⟨8, 12, .RO, 0⟩, ⟨4, 1, .RO, 0⟩, ⟨3, 1, .RO, 0⟩, ⟨0, 3, .RO, 0⟩]⟩
  | .CAM_SEQ => ⟨.CAM, 0x34, 1, 4, .single,
      [⟨0, 32, .RO, 0⟩]⟩
  | .CAM_CNT_MISSED => ⟨.CAM, 0x40, 1, 4, .single,
      [⟨0, 32, .RO, 0⟩]⟩
  | .CAM_CNT_STALE => ⟨.CAM, 0x44, 1, 4, .single,
      [⟨0, 32, .RO, 0⟩]⟩
  | .CAM_CNT_MALFORMED => ⟨.CAM, 0x48, 1, 4, .single,
      [⟨0, 32, .RO, 0⟩]⟩
  | .CAM_CNT_FILLED => ⟨.CAM, 0x4C, 1, 4, .single,
      [⟨0, 32, .RO, 0⟩]⟩
  | .CAM_CNT_DIVERT => ⟨.CAM, 0x50, 1, 4, .single,
      [⟨0, 32, .RO, 0⟩]⟩
  | .CAM_CNT_NOSLOT => ⟨.CAM, 0x54, 1, 4, .single,
      [⟨0, 32, .RO, 0⟩]⟩
  | .CAM_TRIG_CFG => ⟨.CAM, 0x100, 1, 4, .single,
      [⟨12, 20, .RW, 0⟩, ⟨8, 4, .RW, 0⟩, ⟨0, 5, .RW, 0⟩]⟩
  | .CAM_EXPO_CFG => ⟨.CAM, 0x110, 1, 4, .single,
      [⟨16, 16, .RW, 0x3E8⟩, ⟨10, 1, .RW, 0⟩, ⟨9, 1, .RW, 0⟩, ⟨8, 1, .RW, 0⟩, ⟨4, 2, .RW, 0⟩, ⟨2, 2, .RW, 0⟩, ⟨0, 2, .RW, 2⟩]⟩
  | .CAM_EXPO_NEXT0 => ⟨.CAM, 0x114, 1, 4, .single,
      [⟨20, 12, .RW, 0x40⟩, ⟨0, 20, .RW, 0x2710⟩]⟩
  | .CAM_EXPO_NEXT1 => ⟨.CAM, 0x118, 1, 4, .single,
      [⟨20, 12, .RW, 0x40⟩, ⟨0, 20, .RW, 0x2710⟩]⟩
  | .CAM_EXPO_NEXT2 => ⟨.CAM, 0x11C, 1, 4, .single,
      [⟨20, 12, .RW, 0x40⟩, ⟨0, 20, .RW, 0x2710⟩]⟩
  | .CAM_EXPO_STATUS => ⟨.CAM, 0x120, 1, 4, .single,
      [⟨4, 4, .RO, 0⟩, ⟨3, 1, .W1C, 0⟩, ⟨2, 1, .W1C, 0⟩, ⟨1, 1, .W1C, 0⟩, ⟨0, 1, .RO, 0⟩]⟩
  | .CAM_EXPO_TARGET => ⟨.CAM, 0x124, 1, 4, .single,
      [⟨0, 32, .RO, 0⟩]⟩
  | .CAM_WB_GAIN => ⟨.CAM, 0x128, 1, 4, .single,
      [⟨20, 10, .RW, 0x100⟩, ⟨10, 10, .RW, 0x100⟩, ⟨0, 10, .RW, 0x100⟩]⟩
  | .CAM_STATS_CFG => ⟨.CAM, 0x130, 1, 4, .single,
      [⟨16, 16, .RW, 0xFF00⟩]⟩
  | .CAM_STATS_HOST_LO => ⟨.CAM, 0x138, 1, 4, .low,
      [⟨12, 20, .RW, 0⟩, ⟨0, 1, .RW, 0⟩]⟩
  | .CAM_STATS_HOST_HI => ⟨.CAM, 0x13C, 1, 4, .high,
      [⟨0, 32, .RW, 0⟩]⟩
  | .CAM_AE_CFG => ⟨.CAM, 0x140, 1, 4, .single,
      [⟨16, 16, .RW, 0x3000⟩, ⟨8, 8, .RW, 4⟩, ⟨0, 8, .RW, 8⟩]⟩
  | .CAM_AE_LIM_EXPO => ⟨.CAM, 0x144, 1, 4, .single,
      [⟨16, 16, .RW, 0x61A⟩, ⟨0, 16, .RW, 0xA⟩]⟩
  | .CAM_AE_LIM_GAIN => ⟨.CAM, 0x148, 1, 4, .single,
      [⟨16, 12, .RW, 0x400⟩, ⟨0, 12, .RW, 0x40⟩]⟩
  | .CAM_AWB_CFG => ⟨.CAM, 0x14C, 1, 4, .single,
      [⟨24, 8, .RW, 0xE0⟩, ⟨16, 8, .RW, 8⟩, ⟨0, 4, .RW, 2⟩]⟩
  | .CAM_CNT_EXPO_MISMATCH => ⟨.CAM, 0x160, 1, 4, .single,
      [⟨0, 32, .RO, 0⟩]⟩
  | .CAM_CNT_EXPO_LATE => ⟨.CAM, 0x164, 1, 4, .single,
      [⟨0, 32, .RO, 0⟩]⟩
  | .CAM_CNT_EMBED_MISSING => ⟨.CAM, 0x168, 1, 4, .single,
      [⟨0, 32, .RO, 0⟩]⟩
  | .CAM_CNT_AE_UPDATE => ⟨.CAM, 0x16C, 1, 4, .single,
      [⟨0, 32, .RO, 0⟩]⟩
  | .CAM_AE_WEIGHT => ⟨.CAM, 0x180, 12, 4, .single,
      [⟨0, 32, .RW, 0x55555555⟩]⟩
  | .CAM_PPB_BASE_LO => ⟨.CAM, 0x200, 1, 4, .low,
      [⟨12, 20, .RW, 0⟩]⟩
  | .CAM_PPB_BASE_HI => ⟨.CAM, 0x204, 1, 4, .high,
      [⟨0, 4, .RW, 0⟩]⟩
  | .CAM_PPB_SEL => ⟨.CAM, 0x208, 1, 4, .single,
      [⟨16, 2, .RO, 0⟩, ⟨8, 1, .RO, 0⟩, ⟨0, 1, .RW, 0⟩]⟩
  | .CAM_TSTATE_BASE_LO => ⟨.CAM, 0x210, 1, 4, .low,
      [⟨12, 20, .RW, 0⟩]⟩
  | .CAM_TSTATE_BASE_HI => ⟨.CAM, 0x214, 1, 4, .high,
      [⟨0, 4, .RW, 0⟩]⟩
  | .CAM_TSTATE_CFG => ⟨.CAM, 0x218, 1, 4, .single,
      [⟨8, 1, .RW, 0⟩, ⟨0, 6, .RW, 0x10⟩]⟩
  | .CAM_OUT_BASE_LO => ⟨.CAM, 0x220, 1, 4, .low,
      [⟨12, 20, .RW, 0⟩]⟩
  | .CAM_OUT_BASE_HI => ⟨.CAM, 0x224, 1, 4, .high,
      [⟨0, 32, .RW, 0⟩]⟩
  | .CAM_OUT_RING => ⟨.CAM, 0x228, 1, 4, .single,
      [⟨12, 20, .RW, 0⟩, ⟨0, 8, .RW, 0⟩]⟩
  | .CAM_OUT_CREDIT => ⟨.CAM, 0x22C, 1, 4, .single,
      [⟨0, 8, .WO, 0⟩]⟩
  | .CAM_OUT_DISP => ⟨.CAM, 0x230, 1, 4, .single,
      [⟨31, 1, .RW, 0⟩, ⟨30, 1, .RW, 0⟩, ⟨16, 12, .RW, 0xF0⟩, ⟨0, 13, .RW, 0x140⟩]⟩
  | .CAM_OUT_CODE => ⟨.CAM, 0x234, 1, 4, .single,
      [⟨31, 1, .RW, 0⟩, ⟨30, 1, .RW, 1⟩, ⟨16, 12, .RW, 0x2A0⟩, ⟨0, 13, .RW, 0x380⟩]⟩
  | .CAM_OUT_CODE_DIV => ⟨.CAM, 0x238, 1, 4, .single,
      [⟨0, 4, .RW, 3⟩]⟩
  | .CAM_OUT_MV => ⟨.CAM, 0x23C, 1, 4, .single,
      [⟨31, 1, .RW, 0⟩, ⟨30, 1, .RW, 0⟩, ⟨29, 1, .RW, 0⟩, ⟨28, 1, .RW, 0⟩, ⟨0, 8, .RW, 0x20⟩]⟩
  | .CAM_OUT_POLICY => ⟨.CAM, 0x240, 1, 4, .single,
      [⟨4, 1, .RW, 0⟩, ⟨0, 2, .RW, 0⟩]⟩
  | .CAM_OUT_STATUS => ⟨.CAM, 0x248, 1, 4, .single,
      [⟨8, 8, .RO, 0⟩, ⟨0, 8, .RO, 0⟩]⟩
  | .CAM_CNT_OUT_NOSLOT => ⟨.CAM, 0x250, 1, 4, .single,
      [⟨0, 32, .RO, 0⟩]⟩
  | .CAM_CNT_OUT_SHED => ⟨.CAM, 0x254, 1, 4, .single,
      [⟨0, 32, .RO, 0⟩]⟩
  | .CAM_CNT_TSTATE_RESET => ⟨.CAM, 0x258, 1, 4, .single,
      [⟨0, 32, .RO, 0⟩]⟩
  | .CAM_ADAPT_CFG => ⟨.CAM, 0x300, 1, 4, .single,
      [⟨30, 2, .RW, 0⟩, ⟨16, 8, .RW, 0x40⟩, ⟨8, 8, .RW, 0x28⟩, ⟨0, 8, .RW, 2⟩]⟩
  | .CAM_ADAPT_OPT => ⟨.CAM, 0x304, 1, 4, .single,
      [⟨24, 8, .RW, 0x40⟩, ⟨16, 8, .RW, 4⟩, ⟨8, 5, .RW, 0xE⟩, ⟨0, 4, .RW, 0xE⟩]⟩
  | .CAM_ADAPT_STATUS => ⟨.CAM, 0x308, 1, 4, .single,
      [⟨20, 4, .RO, 0⟩, ⟨16, 2, .RO, 0⟩, ⟨8, 2, .RO, 0⟩, ⟨4, 1, .RO, 0⟩, ⟨0, 2, .RO, 0⟩]⟩
  | .CAM_ADAPT_AUDIT_LO => ⟨.CAM, 0x310, 1, 4, .low,
      [⟨12, 20, .RW, 0⟩, ⟨0, 1, .RW, 0⟩]⟩
  | .CAM_ADAPT_AUDIT_HI => ⟨.CAM, 0x314, 1, 4, .high,
      [⟨0, 32, .RW, 0⟩]⟩
  | .CAM_ADAPT_NUM => ⟨.CAM, 0x318, 1, 4, .single,
      [⟨0, 32, .RO, 0⟩]⟩
  | .CAM_ADAPT_DIGEST => ⟨.CAM, 0x320, 8, 4, .single,
      [⟨0, 32, .RO, 0⟩]⟩
  | .CAM_NOISE => ⟨.CAM, 0x340, 1, 4, .single,
      [⟨20, 12, .RW, 0x100⟩, ⟨0, 20, .RW, 0⟩]⟩
  | .CAM_REV_CFG => ⟨.CAM, 0x344, 1, 4, .single,
      [⟨0, 8, .RW, 0⟩]⟩
  | .CAM_CNT_ADAPT_PAIR => ⟨.CAM, 0x350, 1, 4, .single,
      [⟨0, 32, .RO, 0⟩]⟩
  | .CAM_CNT_ADAPT_NOTSTILL => ⟨.CAM, 0x354, 1, 4, .single,
      [⟨0, 32, .RO, 0⟩]⟩
  | .CAM_CNT_ADAPT_REJECT => ⟨.CAM, 0x358, 1, 4, .single,
      [⟨0, 32, .RO, 0⟩]⟩
  | .CAM_CNT_ADAPT_PAUSE => ⟨.CAM, 0x35C, 1, 4, .single,
      [⟨0, 32, .RO, 0⟩]⟩
  | .LC_SPAD_SIZE => ⟨.LC, 0, 1, 4, .single,
      [⟨0, 32, .RO, 0x600000⟩]⟩
  | .LC_STATUS => ⟨.LC, 4, 1, 4, .single,
      [⟨16, 8, .RO, 0⟩, ⟨0, 4, .RO, 0⟩]⟩
  | .LC_FAULT => ⟨.LC, 8, 1, 4, .single,
      [⟨20, 12, .RO, 0⟩, ⟨12, 3, .RO, 0⟩, ⟨8, 3, .RO, 0⟩, ⟨0, 8, .RO, 0⟩]⟩
  | .LC_ECC_CNT => ⟨.LC, 0xC, 1, 4, .single,
      [⟨0, 32, .RO, 0⟩]⟩
  | .LC_RETAKE_CFG => ⟨.LC, 0x10, 1, 4, .single,
      [⟨31, 1, .RW, 1⟩, ⟨16, 4, .RW, 4⟩, ⟨0, 12, .RW, 0xFA⟩]⟩
  | .LC_CNT_RETAKE => ⟨.LC, 0x20, 1, 4, .single,
      [⟨0, 32, .RO, 0⟩]⟩
  | .LC_CNT_SKIP_OFF => ⟨.LC, 0x24, 1, 4, .single,
      [⟨0, 32, .RO, 0⟩]⟩
  | .LC_CNT_SKIP_GOV => ⟨.LC, 0x28, 1, 4, .single,
      [⟨0, 32, .RO, 0⟩]⟩
  | .LC_CNT_SKIP_LIMIT => ⟨.LC, 0x2C, 1, 4, .single,
      [⟨0, 32, .RO, 0⟩]⟩
  | .LC_CNT_SKIP_SLACK => ⟨.LC, 0x30, 1, 4, .single,
      [⟨0, 32, .RO, 0⟩]⟩
  | .LC_CNT_CLIP_HIGH => ⟨.LC, 0x34, 1, 4, .single,
      [⟨0, 32, .RO, 0⟩]⟩
  | .LC_DESC_COUNT => ⟨.LC, 0x40, 1, 4, .single,
      [⟨0, 11, .RO, 0⟩]⟩
  | .LC_ADAPT_CFG => ⟨.LC, 0x50, 1, 4, .single,
      [⟨0, 4, .RW, 8⟩]⟩
  | .LC_ADAPT_USED => ⟨.LC, 0x54, 1, 4, .single,
      [⟨0, 32, .RO, 0⟩]⟩
  | .LC_CTX_STATUS => ⟨.LC, 0x100, 8, 4, .single,
      [⟨16, 12, .RO, 0⟩, ⟨8, 2, .RO, 0⟩, ⟨4, 4, .RO, 0⟩, ⟨0, 3, .RO, 0⟩]⟩
  | .LC_PAD => ⟨.LC, 0x200, 16, 4, .single,
      [⟨0, 32, .RO, 0⟩]⟩
  | .LC_SHAPE_WORD => ⟨.LC, 0x300, 64, 4, .single,
      [⟨0, 32, .RO, 0⟩]⟩
  | .LC_DMAQ_CFG => ⟨.LC, 0x400, 16, 16, .single,
      [⟨20, 12, .RO, 0⟩, ⟨12, 8, .RO, 0⟩, ⟨0, 11, .RO, 0x100⟩]⟩
  | .LC_DMAQ_ROWS => ⟨.LC, 0x404, 16, 16, .single,
      [⟨0, 32, .RO, 0⟩]⟩
  | .LC_DMAQ_STATUS => ⟨.LC, 0x408, 16, 16, .single,
      [⟨16, 16, .RO, 0⟩, ⟨8, 5, .RO, 0⟩, ⟨4, 1, .RO, 0⟩, ⟨0, 4, .RO, 0⟩]⟩
  | .LC_DMAQ_OUT => ⟨.LC, 0x40C, 16, 16, .single,
      [⟨0, 11, .RO, 0⟩]⟩
  | .LC_DMA_REG => ⟨.LC, 0x500, 1, 4, .single,
      [⟨24, 8, .RW, 0x10⟩, ⟨0, 12, .RW, 0x100⟩]⟩
  | .LC_DMAF_INFO => ⟨.LC, 0x600, 16, 32, .single,
      [⟨31, 1, .RO, 0⟩, ⟨28, 3, .RO, 0⟩, ⟨27, 1, .RO, 0⟩, ⟨16, 8, .RO, 0⟩, ⟨0, 10, .RO, 0⟩]⟩
  | .LC_DMAF_COORD => ⟨.LC, 0x604, 16, 32, .single,
      [⟨16, 16, .RO, 0⟩, ⟨0, 16, .RO, 0⟩]⟩
  | .LC_DMAF_COORD3 => ⟨.LC, 0x608, 16, 32, .single,
      [⟨0, 16, .RO, 0⟩]⟩
  | .LC_DMAF_ADDR_LO => ⟨.LC, 0x610, 16, 32, .low,
      [⟨0, 32, .RO, 0⟩]⟩
  | .LC_DMAF_ADDR_HI => ⟨.LC, 0x614, 16, 32, .high,
      [⟨0, 32, .RO, 0⟩]⟩
  | .LC_DMAF_CRC => ⟨.LC, 0x618, 16, 32, .single,
      [⟨0, 32, .RO, 0⟩]⟩
  | .LC_CNT_DMA_FAULT => ⟨.LC, 0x800, 1, 4, .single,
      [⟨0, 32, .RO, 0⟩]⟩
  | .LC_CNT_DMA_RESUME => ⟨.LC, 0x804, 1, 4, .single,
      [⟨0, 32, .RO, 0⟩]⟩
  | .LC_CNT_DMA_POISON => ⟨.LC, 0x808, 1, 4, .single,
      [⟨0, 32, .RO, 0⟩]⟩
  | .LC_CNT_DMA_POISON_DATA => ⟨.LC, 0x80C, 1, 4, .single,
      [⟨0, 32, .RO, 0⟩]⟩
  | .LC_CNT_DMA_CLOSED => ⟨.LC, 0x810, 1, 4, .single,
      [⟨0, 32, .RO, 0⟩]⟩
  | .HLD_WAYMASK => ⟨.HLD, 0, 9, 4, .single,
      [⟨0, 16, .RW, 0⟩]⟩
  | .HLD_PIN_BASE => ⟨.HLD, 0x100, 8, 16, .single,
      [⟨21, 11, .RO, 0⟩, ⟨0, 1, .RO, 0⟩]⟩
  | .HLD_PIN_SIZE => ⟨.HLD, 0x104, 8, 16, .single,
      [⟨0, 4, .RO, 0⟩]⟩
  | .HLD_PIN_WAYS => ⟨.HLD, 0x108, 8, 16, .single,
      [⟨0, 15, .RO, 0⟩]⟩
  | .HLD_ECC_CNT => ⟨.HLD, 0x300, 1, 4, .single,
      [⟨0, 32, .RO, 0⟩]⟩
  | .HLD_WC_CFG => ⟨.HLD, 0x10000, 512, 32, .single,
      [⟨16, 16, .RO, 0x64⟩, ⟨6, 6, .RO, 0⟩, ⟨0, 1, .RO, 0⟩]⟩
  | .HLD_WC_NEXT => ⟨.HLD, 0x10004, 512, 32, .single,
      [⟨0, 32, .RO, 0⟩]⟩
  | .HLD_WC_OCC => ⟨.HLD, 0x10008, 512, 32, .single,
      [⟨16, 16, .RO, 0⟩, ⟨0, 16, .RO, 0⟩]⟩
  | .HLD_WC_CNT_REISSUE => ⟨.HLD, 0x1000C, 512, 32, .single,
      [⟨0, 32, .RO, 0⟩]⟩
  | .HLD_WC_CNT_LATE_COMMIT => ⟨.HLD, 0x10010, 512, 32, .single,
      [⟨0, 32, .RO, 0⟩]⟩
  | .HLD_WC_CNT_STALE_WR => ⟨.HLD, 0x10014, 512, 32, .single,
      [⟨0, 32, .RO, 0⟩]⟩
  | .MEM_STATUS => ⟨.MEM, 0, 1, 4, .single,
      [⟨24, 8, .RO, 0⟩, ⟨18, 1, .RO, 0⟩, ⟨17, 1, .RO, 0⟩, ⟨16, 1, .RO, 0⟩, ⟨0, 8, .RO, 0⟩]⟩
  | .MEM_GEOM => ⟨.MEM, 4, 1, 4, .single,
      [⟨16, 8, .RO, 0⟩, ⟨8, 2, .RO, 0⟩, ⟨0, 2, .RO, 0⟩]⟩
  | .MEM_POISON_ADDR_LO => ⟨.MEM, 0x10, 1, 4, .low,
      [⟨0, 32, .RO, 0⟩]⟩
  | .MEM_POISON_ADDR_HI => ⟨.MEM, 0x14, 1, 4, .high,
      [⟨0, 32, .RO, 0⟩]⟩
  | .MEM_CNT_CRC_RETRY => ⟨.MEM, 0x100, 1, 4, .single,
      [⟨0, 32, .RO, 0⟩]⟩
  | .MEM_CNT_CRC_POISON => ⟨.MEM, 0x104, 1, 4, .single,
      [⟨0, 32, .RO, 0⟩]⟩
  | .MEM_CNT_MAC_FAIL => ⟨.MEM, 0x108, 1, 4, .single,
      [⟨0, 32, .RO, 0⟩]⟩
  | .MEM_CNT_POISON_READ => ⟨.MEM, 0x10C, 1, 4, .single,
      [⟨0, 32, .RO, 0⟩]⟩
  | .MEM_CNT_SWEEP => ⟨.MEM, 0x110, 1, 4, .single,
      [⟨0, 32, .RO, 0⟩]⟩
  | .DMA_FAULT_CFG => ⟨.DMA, 0, 1, 4, .single,
      [⟨0, 16, .RW, 0x1F4⟩]⟩
  | .FN_ID => ⟨.FN, 0, 1, 4, .single,
      [⟨16, 2, .RO, 0⟩, ⟨0, 4, .RO, 0⟩]⟩
  | .FN_CNT_BME_DROP => ⟨.FN, 4, 1, 4, .single,
      [⟨0, 32, .RO, 0⟩]⟩
  | .CQ_BASE_LO => ⟨.FN, 0x100, 4, 64, .low,
      [⟨12, 20, .RW, 0⟩]⟩
  | .CQ_BASE_HI => ⟨.FN, 0x104, 4, 64, .high,
      [⟨0, 32, .RW, 0⟩]⟩
  | .RQ_BASE_LO => ⟨.FN, 0x108, 4, 64, .low,
      [⟨12, 20, .RW, 0⟩]⟩
  | .RQ_BASE_HI => ⟨.FN, 0x10C, 4, 64, .high,
      [⟨0, 32, .RW, 0⟩]⟩
  | .CQ_CFG => ⟨.FN, 0x110, 4, 64, .single,
      [⟨31, 1, .RW, 0⟩, ⟨24, 4, .RW, 4⟩, ⟨16, 8, .RW, 1⟩, ⟨10, 6, .RW, 0⟩, ⟨0, 10, .RW, 0⟩]⟩
  | .CQ_STATUS => ⟨.FN, 0x114, 4, 64, .single,
      [⟨31, 1, .RO, 1⟩, ⟨30, 1, .W1C, 0⟩, ⟨29, 1, .W1C, 0⟩, ⟨28, 1, .RO, 1⟩, ⟨16, 12, .RO, 0⟩, ⟨0, 12, .RO, 0⟩]⟩
  | .EVQ_BASE_LO => ⟨.FN, 0x200, 1, 4, .low,
      [⟨12, 20, .RW, 0⟩]⟩
  | .EVQ_BASE_HI => ⟨.FN, 0x204, 1, 4, .high,
      [⟨0, 32, .RW, 0⟩]⟩
  | .EVQ_CFG => ⟨.FN, 0x208, 1, 4, .single,
      [⟨31, 1, .RW, 0⟩, ⟨24, 4, .RW, 4⟩, ⟨0, 10, .RW, 0⟩]⟩
  | .EVQ_STATUS => ⟨.FN, 0x20C, 1, 4, .single,
      [⟨16, 16, .RO, 0⟩, ⟨0, 16, .RO, 0⟩]⟩
  | .CQ_TAIL => ⟨.FN, 0x1000, 4, 8, .single,
      [⟨0, 12, .WO, 0⟩]⟩
  | .RQ_HEAD => ⟨.FN, 0x1004, 4, 8, .single,
      [⟨0, 12, .WO, 0⟩]⟩
  | .MBX_FW_DATA => ⟨.FN, 0x2000, 16, 4, .single,
      [⟨0, 32, .RW, 0⟩]⟩
  | .MBX_FW_CTL => ⟨.FN, 0x2040, 1, 4, .single,
      [⟨31, 1, .RO, 0⟩, ⟨30, 1, .W1C, 0⟩, ⟨8, 1, .WO, 0⟩, ⟨0, 4, .RW, 0⟩]⟩
  | .MBX_SFL_DATA => ⟨.FN, 0x2080, 16, 4, .single,
      [⟨0, 32, .RW, 0⟩]⟩
  | .MBX_SFL_CTL => ⟨.FN, 0x20C0, 1, 4, .single,
      [⟨31, 1, .RO, 0⟩, ⟨30, 1, .W1C, 0⟩, ⟨8, 1, .WO, 0⟩, ⟨0, 4, .RW, 0⟩]⟩
  | .MBX_CP0_DATA => ⟨.FN, 0x2100, 16, 4, .single,
      [⟨0, 32, .RO, 0⟩]⟩
  | .MBX_CP0_CTL => ⟨.FN, 0x2140, 1, 4, .single,
      [⟨31, 1, .RO, 0⟩, ⟨0, 4, .RO, 0⟩]⟩
  | .MBX_CP1_DATA => ⟨.FN, 0x2180, 16, 4, .single,
      [⟨0, 32, .RO, 0⟩]⟩
  | .MBX_CP1_CTL => ⟨.FN, 0x21C0, 1, 4, .single,
      [⟨31, 1, .RO, 0⟩, ⟨0, 4, .RO, 0⟩]⟩
  | .MBX_CP2_DATA => ⟨.FN, 0x2200, 16, 4, .single,
      [⟨0, 32, .RO, 0⟩]⟩
  | .MBX_CP2_CTL => ⟨.FN, 0x2240, 1, 4, .single,
      [⟨31, 1, .RO, 0⟩, ⟨0, 4, .RO, 0⟩]⟩
  | .MBX_CP3_DATA => ⟨.FN, 0x2280, 16, 4, .single,
      [⟨0, 32, .RO, 0⟩]⟩
  | .MBX_CP3_CTL => ⟨.FN, 0x22C0, 1, 4, .single,
      [⟨31, 1, .RO, 0⟩, ⟨0, 4, .RO, 0⟩]⟩
  | .MBX_RSFL_DATA => ⟨.FN, 0x2300, 16, 4, .single,
      [⟨0, 32, .RO, 0⟩]⟩
  | .MBX_RSFL_CTL => ⟨.FN, 0x2340, 1, 4, .single,
      [⟨31, 1, .RO, 0⟩, ⟨0, 4, .RO, 0⟩]⟩
  | .FN_MBX_VEC => ⟨.FN, 0x2400, 1, 4, .single,
      [⟨16, 10, .RW, 0⟩, ⟨0, 10, .RW, 0⟩]⟩
  | .MSIX_TABLE => ⟨.FN, 0x8000, 4096, 4, .single,
      [⟨0, 32, .RW, 0⟩]⟩
  | .MSIX_PBA => ⟨.FN, 0xC000, 32, 4, .single,
      [⟨0, 32, .RO, 0⟩]⟩
  | .SEC_STATUS => ⟨.SEC, 0, 1, 4, .single,
      [⟨20, 6, .RO, 0⟩, ⟨14, 6, .RO, 0⟩, ⟨8, 1, .RO, 0⟩, ⟨4, 1, .RO, 0⟩, ⟨0, 2, .RO, 0⟩]⟩
  | .SEC_SNUF_CFG => ⟨.SEC, 0x40, 1, 4, .single,
      [⟨0, 7, .RW, 0x20⟩]⟩
  | .SEC_SNUF_STATUS => ⟨.SEC, 0x44, 1, 4, .single,
      [⟨31, 1, .RO, 0⟩, ⟨24, 4, .RO, 0⟩, ⟨0, 16, .RO, 0⟩]⟩
  | .SEC_MEAS => ⟨.SEC, 0x100, 40, 4, .single,
      [⟨0, 32, .RO, 0⟩]⟩
  | .SEC_ID_PUB => ⟨.SEC, 0x200, 16, 4, .single,
      [⟨0, 32, .RO, 0⟩]⟩
  | .SEC_CNT_ATTEST => ⟨.SEC, 0x300, 1, 4, .single,
      [⟨0, 32, .RO, 0⟩]⟩
  | .SEC_CNT_KEY_IMPORT => ⟨.SEC, 0x304, 1, 4, .single,
      [⟨0, 32, .RO, 0⟩]⟩
  | .SEC_CNT_KEY_DENIED => ⟨.SEC, 0x308, 1, 4, .single,
      [⟨0, 32, .RO, 0⟩]⟩
  | .SEC_CNT_SCRUB => ⟨.SEC, 0x30C, 1, 4, .single,
      [⟨0, 32, .RO, 0⟩]⟩
  | .SEC_CNT_ENGINE_RESET => ⟨.SEC, 0x310, 1, 4, .single,
      [⟨0, 32, .RO, 0⟩]⟩
  | .SEC_CNT_SEALED_DENY => ⟨.SEC, 0x314, 1, 4, .single,
      [⟨0, 32, .RO, 0⟩]⟩
  | .SFL_STATUS => ⟨.SFL, 0, 1, 4, .single,
      [⟨7, 1, .SO, 0⟩, ⟨6, 1, .SO, 0⟩, ⟨4, 2, .SO, 0⟩, ⟨0, 2, .SO, 0⟩]⟩
  | .SFL_POLICY_SEQ => ⟨.SFL, 4, 1, 4, .single,
      [⟨0, 32, .SO, 0⟩]⟩
  | .SFL_LIMIT => ⟨.SFL, 0x10, 1, 4, .single,
      [⟨0, 17, .SO, 0x124F8⟩]⟩
  | .SFL_POWER => ⟨.SFL, 0x14, 1, 4, .single,
      [⟨0, 17, .SO, 0⟩]⟩
  | .SFL_THERM => ⟨.SFL, 0x18, 1, 4, .single,
      [⟨16, 12, .SO, 0⟩, ⟨8, 4, .SO, 0⟩]⟩
  | .SFL_GOV => ⟨.SFL, 0x1C, 1, 4, .single,
      [⟨16, 9, .SO, 0xE2⟩, ⟨0, 4, .SO, 0⟩]⟩
  | .SFL_CNT_POLICY_REJECT => ⟨.SFL, 0x40, 1, 4, .single,
      [⟨0, 32, .SO, 0⟩]⟩
  | .SFL_CNT_RESTART => ⟨.SFL, 0x44, 1, 4, .single,
      [⟨0, 32, .SO, 0⟩]⟩
  | .SFL_CNT_GOV_STEP => ⟨.SFL, 0x48, 1, 4, .single,
      [⟨0, 32, .SO, 0⟩]⟩
  | .SFL_CNT_HOLD => ⟨.SFL, 0x4C, 1, 4, .single,
      [⟨0, 32, .SO, 0⟩]⟩
  | .CHN_STATUS => ⟨.CHN, 0, 1, 4, .single,
      [⟨24, 8, .RO, 0⟩, ⟨16, 3, .RO, 0⟩, ⟨8, 4, .RO, 0⟩, ⟨0, 4, .RO, 0⟩]⟩
  | .CHN_CABLE => ⟨.CHN, 8, 1, 4, .single,
      [⟨0, 20, .RO, 0⟩]⟩
  | .CHN_DELAY_ADJ => ⟨.CHN, 0xC, 1, 4, .single,
      [⟨0, 12, .RW, 0⟩]⟩
  | .CHN_FWD => ⟨.CHN, 0x10, 1, 4, .single,
      [⟨16, 16, .RO, 0⟩, ⟨0, 16, .RO, 0⟩]⟩
  | .CHN_FWD_PEER => ⟨.CHN, 0x40, 16, 4, .single,
      [⟨0, 3, .RO, 0⟩]⟩
  | .CHN_WIN_BASE_LO => ⟨.CHN, 0x100, 16, 16, .low,
      [⟨0, 32, .RO, 0⟩]⟩
  | .CHN_WIN_BASE_HI => ⟨.CHN, 0x104, 16, 16, .high,
      [⟨0, 32, .RO, 0⟩]⟩
  | .CHN_WIN_LEN => ⟨.CHN, 0x108, 16, 16, .single,
      [⟨0, 32, .RO, 0⟩]⟩
  | .CHN_WIN_CTL => ⟨.CHN, 0x10C, 16, 16, .single,
      [⟨31, 1, .RO, 0⟩, ⟨0, 3, .RO, 0⟩]⟩
  | .CHN_RWIN => ⟨.CHN, 0x200, 8, 4, .single,
      [⟨0, 16, .RO, 0⟩]⟩
  | .CHN_CNT_CRC => ⟨.CHN, 0x300, 1, 4, .single,
      [⟨0, 32, .RO, 0⟩]⟩
  | .CHN_CNT_RETRAIN => ⟨.CHN, 0x304, 1, 4, .single,
      [⟨0, 32, .RO, 0⟩]⟩
  | .CHN_CNT_WIN_DROP => ⟨.CHN, 0x308, 1, 4, .single,
      [⟨0, 32, .RO, 0⟩]⟩
  | .CHN_CNT_CLOSED_LATE => ⟨.CHN, 0x30C, 1, 4, .single,
      [⟨0, 32, .RO, 0⟩]⟩
  | .CHN_CNT_FWD_DROP => ⟨.CHN, 0x310, 1, 4, .single,
      [⟨0, 32, .RO, 0⟩]⟩
  | .CHN_CNT_PEER_LOST => ⟨.CHN, 0x314, 1, 4, .single,
      [⟨0, 32, .RO, 0⟩]⟩
  | .ERR_CFG => ⟨.ERR, 0, 1, 4, .single,
      [⟨17, 15, .RW, 0⟩, ⟨0, 10, .RW, 0⟩]⟩
  | .ERR_HEAD => ⟨.ERR, 4, 1, 4, .single,
      [⟨0, 32, .RO, 0⟩]⟩
  | .ERR_TAIL => ⟨.ERR, 8, 1, 4, .single,
      [⟨0, 32, .RO, 0⟩]⟩
  | .ERR_RELEASE => ⟨.ERR, 0xC, 1, 4, .single,
      [⟨0, 11, .WO, 0⟩]⟩
  | .ERR_FIRST => ⟨.ERR, 0x40, 8, 4, .single,
      [⟨0, 32, .RO, 0⟩]⟩
  | .ERR_FIRST_CTL => ⟨.ERR, 0x60, 1, 4, .single,
      [⟨0, 1, .W1C, 0⟩]⟩
  | .ERR_FATAL => ⟨.ERR, 0x80, 1, 4, .single,
      [⟨31, 1, .W1C, 0⟩, ⟨8, 16, .RO, 0⟩, ⟨0, 4, .RO, 0⟩]⟩
  | .ERR_FATAL_TIME_LO => ⟨.ERR, 0x88, 1, 4, .low,
      [⟨0, 32, .RO, 0⟩]⟩
  | .ERR_FATAL_TIME_HI => ⟨.ERR, 0x8C, 1, 4, .high,
      [⟨0, 32, .RO, 0⟩]⟩
  | .ERR_DROP => ⟨.ERR, 0x100, 16, 4, .single,
      [⟨0, 32, .RO, 0⟩]⟩
  | .ERR_ENTRY => ⟨.ERR, 0x10000, 8192, 4, .single,
      [⟨0, 32, .RO, 0⟩]⟩
  | .OBS_TRACE_CFG => ⟨.OBS, 0, 1, 4, .single,
      [⟨1, 3, .RW, 0⟩]⟩
  | .OBS_TRACE_HEAD => ⟨.OBS, 4, 1, 4, .single,
      [⟨0, 32, .RO, 0⟩]⟩
  | .OBS_CNT_LO => ⟨.OBS, 0x10000, 4096, 8, .low,
      [⟨0, 32, .RO, 0⟩]⟩
  | .OBS_CNT_HI => ⟨.OBS, 0x10004, 4096, 8, .high,
      [⟨0, 32, .RO, 0⟩]⟩
  | .PIN_OWN => ⟨.PIN, 0, 79, 4, .single,
      [⟨0, 8, .RO, 0⟩]⟩
  | .PIN_CLAIM => ⟨.PIN, 0x400, 1, 4, .single,
      [⟨31, 1, .WO, 0⟩, ⟨8, 8, .WO, 0⟩, ⟨0, 8, .WO, 0⟩]⟩
  | .PIN_CLAIM_STATUS => ⟨.PIN, 0x404, 1, 4, .single,
      [⟨31, 1, .W1C, 0⟩, ⟨8, 8, .RO, 0⟩, ⟨0, 8, .RO, 0⟩]⟩
  | .PIN_GPIO_DIR => ⟨.PIN, 0x500, 1, 4, .single,
      [⟨0, 16, .RW, 0⟩]⟩
  | .PIN_GPIO_OUT => ⟨.PIN, 0x504, 1, 4, .single,
      [⟨0, 16, .RW, 0⟩]⟩
  | .PIN_GPIO_IN => ⟨.PIN, 0x508, 1, 4, .single,
      [⟨0, 16, .RO, 0⟩]⟩
  | .SFL_POLICY => ⟨.SFL, 0x10000, 65536, 4, .single,
      [⟨0, 32, .SO, 0⟩]⟩

/-- R63: the context and slot registers that only a stopped camera takes. CAM_EXPO_CFG is partly so (R113). -/
def RegName.stopOnly : RegName → Bool
  | .IXL_SLOT_CFG => true
  | .CAM_CFG => true
  | .CAM_GEOM => true
  | .CAM_PERIOD => true
  | .CAM_TIMEOUT => true
  | .CAM_NEG_BASE_LO => true
  | .CAM_NEG_BASE_HI => true
  | .CAM_NEG_CFG => true
  | .CAM_TRIG_CFG => true
  | .CAM_PPB_BASE_LO => true
  | .CAM_PPB_BASE_HI => true
  | .CAM_TSTATE_BASE_LO => true
  | .CAM_TSTATE_BASE_HI => true
  | .CAM_TSTATE_CFG => true
  | .CAM_OUT_BASE_LO => true
  | .CAM_OUT_BASE_HI => true
  | .CAM_OUT_RING => true
  | .CAM_OUT_DISP => true
  | .CAM_OUT_CODE => true
  | .CAM_OUT_CODE_DIV => true
  | .CAM_OUT_MV => true
  | _ => false

/-- The registers of block GLB, in the order of the spec. -/
def regsOfGLB : List RegName :=
  [.GLB_ID, .GLB_SG_BOUNDARY, .GLB_SG_STATUS, .GLB_CLK_STATUS, .GLB_CLK_LOST, .GLB_ADMIT,
   .GLB_ADMIT_STATUS, .GLB_RESET_CAUSE, .GLB_BOOT_STATUS]

/-- The registers of block SYN, in the order of the spec. -/
def regsOfSYN : List RegName :=
  [.SYN_CFG, .SYN_CTL, .SYN_STATUS, .SYN_TIME_LO, .SYN_TIME_HI, .SYN_SET_LO,
   .SYN_SET_HI, .SYN_PTM_OFFSET_LO, .SYN_PTM_OFFSET_HI, .SYN_OFFSET_LAST, .SYN_RATE_ADJ, .SYN_LAST_STEP_LO,
   .SYN_LAST_STEP_HI, .SYN_LAST_STEP_NS, .SYN_SNAP_LO, .SYN_SNAP_HI, .SYN_SNAP_STATUS, .SYN_CNT_STEP,
   .SYN_CNT_SKIPPED, .SYN_CNT_MEAS_FAIL, .SYN_CNT_HOLDOVER, .SYN_CNT_TRIG_NOLINK, .SYN_CNT_LATE_TICK, .SYN_PORT_DELAY,
   .SYN_SCHED_BASE_LO, .SYN_SCHED_BASE_HI, .SYN_SCHED_PERIOD, .SYN_SCHED_CTL, .SYN_OUT_T_LO, .SYN_OUT_T_HI,
   .SYN_OUT_PERIOD, .SYN_OUT_CTL]

/-- The registers of block IXL, in the order of the spec. -/
def regsOfIXL : List RegName :=
  [.IXL_PORT_CFG, .IXL_PORT_STATUS, .IXL_SLOTS_PRESENT, .IXL_HUB_CAPS, .IXL_HUB_ID, .IXL_LINK_EVT,
   .IXL_CNT_CRC, .IXL_CNT_NAK, .IXL_CNT_LOST, .IXL_CNT_DROP, .IXL_CNT_RETRAIN, .IXL_CNT_CREDIT_OVF,
   .IXL_SLOT_CFG]

/-- The registers of block CAM, in the order of the spec. -/
def regsOfCAM : List RegName :=
  [.CAM_CFG, .CAM_GEOM, .CAM_PERIOD, .CAM_TIMEOUT, .CAM_GROUP, .CAM_NEG_BASE_LO,
   .CAM_NEG_BASE_HI, .CAM_NEG_CFG, .CAM_LEDGER_HOST_LO, .CAM_LEDGER_HOST_HI, .CAM_STATUS, .CAM_SEQ,
   .CAM_CNT_MISSED, .CAM_CNT_STALE, .CAM_CNT_MALFORMED, .CAM_CNT_FILLED, .CAM_CNT_DIVERT, .CAM_CNT_NOSLOT,
   .CAM_TRIG_CFG, .CAM_EXPO_CFG, .CAM_EXPO_NEXT0, .CAM_EXPO_NEXT1, .CAM_EXPO_NEXT2, .CAM_EXPO_STATUS,
   .CAM_EXPO_TARGET, .CAM_WB_GAIN, .CAM_STATS_CFG, .CAM_STATS_HOST_LO, .CAM_STATS_HOST_HI, .CAM_AE_CFG,
   .CAM_AE_LIM_EXPO, .CAM_AE_LIM_GAIN, .CAM_AWB_CFG, .CAM_CNT_EXPO_MISMATCH, .CAM_CNT_EXPO_LATE, .CAM_CNT_EMBED_MISSING,
   .CAM_CNT_AE_UPDATE, .CAM_AE_WEIGHT, .CAM_PPB_BASE_LO, .CAM_PPB_BASE_HI, .CAM_PPB_SEL, .CAM_TSTATE_BASE_LO,
   .CAM_TSTATE_BASE_HI, .CAM_TSTATE_CFG, .CAM_OUT_BASE_LO, .CAM_OUT_BASE_HI, .CAM_OUT_RING, .CAM_OUT_CREDIT,
   .CAM_OUT_DISP, .CAM_OUT_CODE, .CAM_OUT_CODE_DIV, .CAM_OUT_MV, .CAM_OUT_POLICY, .CAM_OUT_STATUS,
   .CAM_CNT_OUT_NOSLOT, .CAM_CNT_OUT_SHED, .CAM_CNT_TSTATE_RESET, .CAM_ADAPT_CFG, .CAM_ADAPT_OPT, .CAM_ADAPT_STATUS,
   .CAM_ADAPT_AUDIT_LO, .CAM_ADAPT_AUDIT_HI, .CAM_ADAPT_NUM, .CAM_ADAPT_DIGEST, .CAM_NOISE, .CAM_REV_CFG,
   .CAM_CNT_ADAPT_PAIR, .CAM_CNT_ADAPT_NOTSTILL, .CAM_CNT_ADAPT_REJECT, .CAM_CNT_ADAPT_PAUSE]

/-- The registers of block LC, in the order of the spec. -/
def regsOfLC : List RegName :=
  [.LC_SPAD_SIZE, .LC_STATUS, .LC_FAULT, .LC_ECC_CNT, .LC_RETAKE_CFG, .LC_CNT_RETAKE,
   .LC_CNT_SKIP_OFF, .LC_CNT_SKIP_GOV, .LC_CNT_SKIP_LIMIT, .LC_CNT_SKIP_SLACK, .LC_CNT_CLIP_HIGH, .LC_DESC_COUNT,
   .LC_ADAPT_CFG, .LC_ADAPT_USED, .LC_CTX_STATUS, .LC_PAD, .LC_SHAPE_WORD, .LC_DMAQ_CFG,
   .LC_DMAQ_ROWS, .LC_DMAQ_STATUS, .LC_DMAQ_OUT, .LC_DMA_REG, .LC_DMAF_INFO, .LC_DMAF_COORD,
   .LC_DMAF_COORD3, .LC_DMAF_ADDR_LO, .LC_DMAF_ADDR_HI, .LC_DMAF_CRC, .LC_CNT_DMA_FAULT, .LC_CNT_DMA_RESUME,
   .LC_CNT_DMA_POISON, .LC_CNT_DMA_POISON_DATA, .LC_CNT_DMA_CLOSED]

/-- The registers of block HLD, in the order of the spec. -/
def regsOfHLD : List RegName :=
  [.HLD_WAYMASK, .HLD_PIN_BASE, .HLD_PIN_SIZE, .HLD_PIN_WAYS, .HLD_ECC_CNT, .HLD_WC_CFG,
   .HLD_WC_NEXT, .HLD_WC_OCC, .HLD_WC_CNT_REISSUE, .HLD_WC_CNT_LATE_COMMIT, .HLD_WC_CNT_STALE_WR]

/-- The registers of block MEM, in the order of the spec. -/
def regsOfMEM : List RegName :=
  [.MEM_STATUS, .MEM_GEOM, .MEM_POISON_ADDR_LO, .MEM_POISON_ADDR_HI, .MEM_CNT_CRC_RETRY, .MEM_CNT_CRC_POISON,
   .MEM_CNT_MAC_FAIL, .MEM_CNT_POISON_READ, .MEM_CNT_SWEEP]

/-- The registers of block DMA, in the order of the spec. -/
def regsOfDMA : List RegName :=
  [.DMA_FAULT_CFG]

/-- The registers of block SEC, in the order of the spec. -/
def regsOfSEC : List RegName :=
  [.SEC_STATUS, .SEC_SNUF_CFG, .SEC_SNUF_STATUS, .SEC_MEAS, .SEC_ID_PUB, .SEC_CNT_ATTEST,
   .SEC_CNT_KEY_IMPORT, .SEC_CNT_KEY_DENIED, .SEC_CNT_SCRUB, .SEC_CNT_ENGINE_RESET, .SEC_CNT_SEALED_DENY]

/-- The registers of block SFL, in the order of the spec. -/
def regsOfSFL : List RegName :=
  [.SFL_STATUS, .SFL_POLICY_SEQ, .SFL_LIMIT, .SFL_POWER, .SFL_THERM, .SFL_GOV,
   .SFL_CNT_POLICY_REJECT, .SFL_CNT_RESTART, .SFL_CNT_GOV_STEP, .SFL_CNT_HOLD, .SFL_POLICY]

/-- The registers of block CHN, in the order of the spec. -/
def regsOfCHN : List RegName :=
  [.CHN_STATUS, .CHN_CABLE, .CHN_DELAY_ADJ, .CHN_FWD, .CHN_FWD_PEER, .CHN_WIN_BASE_LO,
   .CHN_WIN_BASE_HI, .CHN_WIN_LEN, .CHN_WIN_CTL, .CHN_RWIN, .CHN_CNT_CRC, .CHN_CNT_RETRAIN,
   .CHN_CNT_WIN_DROP, .CHN_CNT_CLOSED_LATE, .CHN_CNT_FWD_DROP, .CHN_CNT_PEER_LOST]

/-- The registers of block ERR, in the order of the spec. -/
def regsOfERR : List RegName :=
  [.ERR_CFG, .ERR_HEAD, .ERR_TAIL, .ERR_RELEASE, .ERR_FIRST, .ERR_FIRST_CTL,
   .ERR_FATAL, .ERR_FATAL_TIME_LO, .ERR_FATAL_TIME_HI, .ERR_DROP, .ERR_ENTRY]

/-- The registers of block OBS, in the order of the spec. -/
def regsOfOBS : List RegName :=
  [.OBS_TRACE_CFG, .OBS_TRACE_HEAD, .OBS_CNT_LO, .OBS_CNT_HI]

/-- The registers of block PIN, in the order of the spec. -/
def regsOfPIN : List RegName :=
  [.PIN_OWN, .PIN_CLAIM, .PIN_CLAIM_STATUS, .PIN_GPIO_DIR, .PIN_GPIO_OUT, .PIN_GPIO_IN]

/-- The registers of block PWR, in the order of the spec. -/
def regsOfPWR : List RegName :=
  []

/-- The registers of block FN, in the order of the spec. -/
def regsOfFN : List RegName :=
  [.FN_ID, .FN_CNT_BME_DROP, .CQ_BASE_LO, .CQ_BASE_HI, .RQ_BASE_LO, .RQ_BASE_HI,
   .CQ_CFG, .CQ_STATUS, .EVQ_BASE_LO, .EVQ_BASE_HI, .EVQ_CFG, .EVQ_STATUS,
   .CQ_TAIL, .RQ_HEAD, .MBX_FW_DATA, .MBX_FW_CTL, .MBX_SFL_DATA, .MBX_SFL_CTL,
   .MBX_CP0_DATA, .MBX_CP0_CTL, .MBX_CP1_DATA, .MBX_CP1_CTL, .MBX_CP2_DATA, .MBX_CP2_CTL,
   .MBX_CP3_DATA, .MBX_CP3_CTL, .MBX_RSFL_DATA, .MBX_RSFL_CTL, .FN_MBX_VEC, .MSIX_TABLE,
   .MSIX_PBA]

/-- Every register name, block by block. -/
def RegName.all : List RegName :=
  List.flatten [regsOfGLB, regsOfSYN, regsOfIXL, regsOfCAM, regsOfLC, regsOfHLD, regsOfMEM, regsOfDMA, regsOfSEC, regsOfSFL, regsOfCHN, regsOfERR, regsOfOBS, regsOfPIN, regsOfPWR, regsOfFN]

/-- A field of a register, named by the register, its lowest bit and its width. -/
structure Fld where
  reg : RegName
  lo : Nat
  width : Nat
deriving DecidableEq, Repr

/-- The value of a register after reset: the fields' reset values; HLD_WAYMASK 0 alone gives every way to allocation (R299),
MSI-X vectors are masked (PRESUMED, PCIe), and FN_ID
names its function (R342). -/
def RegName.reset (r : RegName) (i : Nat) : Word :=
  match r with
  | .HLD_WAYMASK => if i = 0 then 0x7FFF else 0
  | .MSIX_TABLE => if i % 4 = 3 then 1 else 0
  | .FN_ID => BitVec.ofNat 32 i
  | r => BitVec.ofNat 32 ((r.info.fields.map fun f => f.reset * 2 ^ f.lo).sum)

end Sys2Proof.Machine

/-! Field names: F.<REGISTER>_<field>. -/
namespace Sys2Proof.Machine.F

def GLB_ID_part : Fld := ⟨.GLB_ID, 16, 16⟩
def GLB_ID_family : Fld := ⟨.GLB_ID, 8, 8⟩
def GLB_ID_step_major : Fld := ⟨.GLB_ID, 4, 4⟩
def GLB_ID_step_minor : Fld := ⟨.GLB_ID, 0, 4⟩
def GLB_SG_BOUNDARY_first : Fld := ⟨.GLB_SG_BOUNDARY, 0, 16⟩
def GLB_SG_STATUS_refused : Fld := ⟨.GLB_SG_STATUS, 16, 1⟩
def GLB_SG_STATUS_groups_minus1 : Fld := ⟨.GLB_SG_STATUS, 8, 4⟩
def GLB_SG_STATUS_inline_max : Fld := ⟨.GLB_SG_STATUS, 0, 5⟩
def GLB_CLK_STATUS_sclk_run : Fld := ⟨.GLB_CLK_STATUS, 5, 1⟩
def GLB_CLK_STATUS_tclk_lock : Fld := ⟨.GLB_CLK_STATUS, 4, 1⟩
def GLB_CLK_STATUS_pcie_lock : Fld := ⟨.GLB_CLK_STATUS, 3, 1⟩
def GLB_CLK_STATUS_dclk_lock : Fld := ⟨.GLB_CLK_STATUS, 2, 1⟩
def GLB_CLK_STATUS_cclk_lock : Fld := ⟨.GLB_CLK_STATUS, 1, 1⟩
def GLB_CLK_STATUS_aclk_lock : Fld := ⟨.GLB_CLK_STATUS, 0, 1⟩
def GLB_CLK_LOST_sclk_run : Fld := ⟨.GLB_CLK_LOST, 5, 1⟩
def GLB_CLK_LOST_tclk_lock : Fld := ⟨.GLB_CLK_LOST, 4, 1⟩
def GLB_CLK_LOST_pcie_lock : Fld := ⟨.GLB_CLK_LOST, 3, 1⟩
def GLB_CLK_LOST_dclk_lock : Fld := ⟨.GLB_CLK_LOST, 2, 1⟩
def GLB_CLK_LOST_cclk_lock : Fld := ⟨.GLB_CLK_LOST, 1, 1⟩
def GLB_CLK_LOST_aclk_lock : Fld := ⟨.GLB_CLK_LOST, 0, 1⟩
def GLB_ADMIT_core_pct : Fld := ⟨.GLB_ADMIT, 24, 8⟩
def GLB_ADMIT_mem_pct : Fld := ⟨.GLB_ADMIT, 16, 8⟩
def GLB_ADMIT_host_gbs : Fld := ⟨.GLB_ADMIT, 8, 8⟩
def GLB_ADMIT_STATUS_check : Fld := ⟨.GLB_ADMIT_STATUS, 28, 4⟩
def GLB_ADMIT_STATUS_cam : Fld := ⟨.GLB_ADMIT_STATUS, 0, 9⟩
def GLB_RESET_CAUSE_count : Fld := ⟨.GLB_RESET_CAUSE, 8, 8⟩
def GLB_RESET_CAUSE_cause : Fld := ⟨.GLB_RESET_CAUSE, 0, 2⟩
def GLB_BOOT_STATUS_fail : Fld := ⟨.GLB_BOOT_STATUS, 8, 8⟩
def GLB_BOOT_STATUS_slot : Fld := ⟨.GLB_BOOT_STATUS, 4, 1⟩
def GLB_BOOT_STATUS_stage : Fld := ⟨.GLB_BOOT_STATUS, 0, 4⟩
def SYN_CFG_step_us : Fld := ⟨.SYN_CFG, 16, 10⟩
def SYN_CFG_ptm_interval : Fld := ⟨.SYN_CFG, 8, 4⟩
def SYN_CFG_source : Fld := ⟨.SYN_CFG, 0, 2⟩
def SYN_CTL_hard_set : Fld := ⟨.SYN_CTL, 0, 1⟩
def SYN_STATUS_set_refused : Fld := ⟨.SYN_STATUS, 19, 1⟩
def SYN_STATUS_upstream_holdover : Fld := ⟨.SYN_STATUS, 18, 1⟩
def SYN_STATUS_slewing : Fld := ⟨.SYN_STATUS, 17, 1⟩
def SYN_STATUS_stepped : Fld := ⟨.SYN_STATUS, 16, 1⟩
def SYN_STATUS_source_in_force : Fld := ⟨.SYN_STATUS, 8, 2⟩
def SYN_STATUS_state : Fld := ⟨.SYN_STATUS, 0, 3⟩
def SYN_TIME_LO_lo : Fld := ⟨.SYN_TIME_LO, 0, 32⟩
def SYN_TIME_HI_hi : Fld := ⟨.SYN_TIME_HI, 0, 32⟩
def SYN_SET_LO_lo : Fld := ⟨.SYN_SET_LO, 0, 32⟩
def SYN_SET_HI_hi : Fld := ⟨.SYN_SET_HI, 0, 32⟩
def SYN_PTM_OFFSET_LO_lo : Fld := ⟨.SYN_PTM_OFFSET_LO, 0, 32⟩
def SYN_PTM_OFFSET_HI_hi : Fld := ⟨.SYN_PTM_OFFSET_HI, 0, 32⟩
def SYN_OFFSET_LAST_e : Fld := ⟨.SYN_OFFSET_LAST, 0, 32⟩
def SYN_RATE_ADJ_ppb : Fld := ⟨.SYN_RATE_ADJ, 0, 32⟩
def SYN_LAST_STEP_LO_lo : Fld := ⟨.SYN_LAST_STEP_LO, 0, 32⟩
def SYN_LAST_STEP_HI_hi : Fld := ⟨.SYN_LAST_STEP_HI, 0, 32⟩
def SYN_LAST_STEP_NS_ns : Fld := ⟨.SYN_LAST_STEP_NS, 0, 32⟩
def SYN_SNAP_LO_lo : Fld := ⟨.SYN_SNAP_LO, 0, 32⟩
def SYN_SNAP_HI_hi : Fld := ⟨.SYN_SNAP_HI, 0, 32⟩
def SYN_SNAP_STATUS_dropped : Fld := ⟨.SYN_SNAP_STATUS, 16, 16⟩
def SYN_SNAP_STATUS_depth : Fld := ⟨.SYN_SNAP_STATUS, 0, 5⟩
def SYN_CNT_STEP_count : Fld := ⟨.SYN_CNT_STEP, 0, 32⟩
def SYN_CNT_SKIPPED_count : Fld := ⟨.SYN_CNT_SKIPPED, 0, 32⟩
def SYN_CNT_MEAS_FAIL_count : Fld := ⟨.SYN_CNT_MEAS_FAIL, 0, 32⟩
def SYN_CNT_HOLDOVER_count : Fld := ⟨.SYN_CNT_HOLDOVER, 0, 32⟩
def SYN_CNT_TRIG_NOLINK_count : Fld := ⟨.SYN_CNT_TRIG_NOLINK, 0, 32⟩
def SYN_CNT_LATE_TICK_count : Fld := ⟨.SYN_CNT_LATE_TICK, 0, 32⟩
def SYN_PORT_DELAY_delay_ns : Fld := ⟨.SYN_PORT_DELAY, 0, 11⟩
def SYN_SCHED_BASE_LO_lo : Fld := ⟨.SYN_SCHED_BASE_LO, 0, 32⟩
def SYN_SCHED_BASE_HI_hi : Fld := ⟨.SYN_SCHED_BASE_HI, 0, 32⟩
def SYN_SCHED_PERIOD_period : Fld := ⟨.SYN_SCHED_PERIOD, 0, 32⟩
def SYN_SCHED_CTL_enable : Fld := ⟨.SYN_SCHED_CTL, 0, 1⟩
def SYN_OUT_T_LO_lo : Fld := ⟨.SYN_OUT_T_LO, 0, 32⟩
def SYN_OUT_T_HI_hi : Fld := ⟨.SYN_OUT_T_HI, 0, 32⟩
def SYN_OUT_PERIOD_period : Fld := ⟨.SYN_OUT_PERIOD, 0, 32⟩
def SYN_OUT_CTL_enable : Fld := ⟨.SYN_OUT_CTL, 31, 1⟩
def SYN_OUT_CTL_width : Fld := ⟨.SYN_OUT_CTL, 0, 16⟩
def IXL_PORT_CFG_rate : Fld := ⟨.IXL_PORT_CFG, 8, 2⟩
def IXL_PORT_CFG_retrain : Fld := ⟨.IXL_PORT_CFG, 1, 1⟩
def IXL_PORT_CFG_enable : Fld := ⟨.IXL_PORT_CFG, 0, 1⟩
def IXL_PORT_STATUS_attempts : Fld := ⟨.IXL_PORT_STATUS, 24, 8⟩
def IXL_PORT_STATUS_last_fault : Fld := ⟨.IXL_PORT_STATUS, 16, 4⟩
def IXL_PORT_STATUS_rate_in_force : Fld := ⟨.IXL_PORT_STATUS, 8, 2⟩
def IXL_PORT_STATUS_wclk_lock : Fld := ⟨.IXL_PORT_STATUS, 4, 1⟩
def IXL_PORT_STATUS_state : Fld := ⟨.IXL_PORT_STATUS, 0, 4⟩
def IXL_SLOTS_PRESENT_slots : Fld := ⟨.IXL_SLOTS_PRESENT, 0, 32⟩
def IXL_HUB_CAPS_version : Fld := ⟨.IXL_HUB_CAPS, 24, 8⟩
def IXL_HUB_CAPS_replay_kib : Fld := ⟨.IXL_HUB_CAPS, 16, 8⟩
def IXL_HUB_CAPS_trig_latency : Fld := ⟨.IXL_HUB_CAPS, 0, 16⟩
def IXL_HUB_ID_id : Fld := ⟨.IXL_HUB_ID, 0, 32⟩
def IXL_LINK_EVT_overload : Fld := ⟨.IXL_LINK_EVT, 5, 1⟩
def IXL_LINK_EVT_slot_change : Fld := ⟨.IXL_LINK_EVT, 4, 1⟩
def IXL_LINK_EVT_replay_gone : Fld := ⟨.IXL_LINK_EVT, 3, 1⟩
def IXL_LINK_EVT_caps_refused : Fld := ⟨.IXL_LINK_EVT, 2, 1⟩
def IXL_LINK_EVT_fault : Fld := ⟨.IXL_LINK_EVT, 1, 1⟩
def IXL_LINK_EVT_retrain : Fld := ⟨.IXL_LINK_EVT, 0, 1⟩
def IXL_CNT_CRC_count : Fld := ⟨.IXL_CNT_CRC, 0, 32⟩
def IXL_CNT_NAK_count : Fld := ⟨.IXL_CNT_NAK, 0, 32⟩
def IXL_CNT_LOST_count : Fld := ⟨.IXL_CNT_LOST, 0, 32⟩
def IXL_CNT_DROP_count : Fld := ⟨.IXL_CNT_DROP, 0, 32⟩
def IXL_CNT_RETRAIN_count : Fld := ⟨.IXL_CNT_RETRAIN, 0, 32⟩
def IXL_CNT_CREDIT_OVF_count : Fld := ⟨.IXL_CNT_CREDIT_OVF, 0, 32⟩
def IXL_SLOT_CFG_dt : Fld := ⟨.IXL_SLOT_CFG, 8, 6⟩
def IXL_SLOT_CFG_embed_en : Fld := ⟨.IXL_SLOT_CFG, 1, 1⟩
def IXL_SLOT_CFG_en : Fld := ⟨.IXL_SLOT_CFG, 0, 1⟩
def CAM_CFG_sg : Fld := ⟨.CAM_CFG, 20, 4⟩
def CAM_CFG_inline : Fld := ⟨.CAM_CFG, 16, 1⟩
def CAM_CFG_free_run : Fld := ⟨.CAM_CFG, 8, 1⟩
def CAM_GEOM_embed_lines : Fld := ⟨.CAM_GEOM, 28, 4⟩
def CAM_GEOM_height : Fld := ⟨.CAM_GEOM, 16, 12⟩
def CAM_GEOM_width : Fld := ⟨.CAM_GEOM, 0, 13⟩
def CAM_PERIOD_period_us : Fld := ⟨.CAM_PERIOD, 0, 24⟩
def CAM_TIMEOUT_close : Fld := ⟨.CAM_TIMEOUT, 16, 16⟩
def CAM_TIMEOUT_start : Fld := ⟨.CAM_TIMEOUT, 0, 16⟩
def CAM_GROUP_group : Fld := ⟨.CAM_GROUP, 0, 5⟩
def CAM_NEG_BASE_LO_page : Fld := ⟨.CAM_NEG_BASE_LO, 12, 20⟩
def CAM_NEG_BASE_HI_page : Fld := ⟨.CAM_NEG_BASE_HI, 0, 4⟩
def CAM_NEG_CFG_count : Fld := ⟨.CAM_NEG_CFG, 0, 4⟩
def CAM_LEDGER_HOST_LO_addr : Fld := ⟨.CAM_LEDGER_HOST_LO, 12, 20⟩
def CAM_LEDGER_HOST_LO_enable : Fld := ⟨.CAM_LEDGER_HOST_LO, 0, 1⟩
def CAM_LEDGER_HOST_HI_addr : Fld := ⟨.CAM_LEDGER_HOST_HI, 0, 32⟩
def CAM_STATUS_rows_open : Fld := ⟨.CAM_STATUS, 8, 12⟩
def CAM_STATUS_inline_active : Fld := ⟨.CAM_STATUS, 4, 1⟩
def CAM_STATUS_frame_open : Fld := ⟨.CAM_STATUS, 3, 1⟩
def CAM_STATUS_stream : Fld := ⟨.CAM_STATUS, 0, 3⟩
def CAM_SEQ_seq : Fld := ⟨.CAM_SEQ, 0, 32⟩
def CAM_CNT_MISSED_count : Fld := ⟨.CAM_CNT_MISSED, 0, 32⟩
def CAM_CNT_STALE_count : Fld := ⟨.CAM_CNT_STALE, 0, 32⟩
def CAM_CNT_MALFORMED_count : Fld := ⟨.CAM_CNT_MALFORMED, 0, 32⟩
def CAM_CNT_FILLED_count : Fld := ⟨.CAM_CNT_FILLED, 0, 32⟩
def CAM_CNT_DIVERT_count : Fld := ⟨.CAM_CNT_DIVERT, 0, 32⟩
def CAM_CNT_NOSLOT_count : Fld := ⟨.CAM_CNT_NOSLOT, 0, 32⟩
def CAM_TRIG_CFG_phase : Fld := ⟨.CAM_TRIG_CFG, 12, 20⟩
def CAM_TRIG_CFG_div_minus1 : Fld := ⟨.CAM_TRIG_CFG, 8, 4⟩
def CAM_TRIG_CFG_sched : Fld := ⟨.CAM_TRIG_CFG, 0, 5⟩
def CAM_EXPO_CFG_guard_us : Fld := ⟨.CAM_EXPO_CFG, 16, 16⟩
def CAM_EXPO_CFG_check_en : Fld := ⟨.CAM_EXPO_CFG, 10, 1⟩
def CAM_EXPO_CFG_awb_en : Fld := ⟨.CAM_EXPO_CFG, 9, 1⟩
def CAM_EXPO_CFG_ae_en : Fld := ⟨.CAM_EXPO_CFG, 8, 1⟩
def CAM_EXPO_CFG_cfa : Fld := ⟨.CAM_EXPO_CFG, 4, 2⟩
def CAM_EXPO_CFG_n_expo_minus1 : Fld := ⟨.CAM_EXPO_CFG, 2, 2⟩
def CAM_EXPO_CFG_delay : Fld := ⟨.CAM_EXPO_CFG, 0, 2⟩
def CAM_EXPO_NEXT0_gain : Fld := ⟨.CAM_EXPO_NEXT0, 20, 12⟩
def CAM_EXPO_NEXT0_expo_us : Fld := ⟨.CAM_EXPO_NEXT0, 0, 20⟩
def CAM_EXPO_NEXT1_gain : Fld := ⟨.CAM_EXPO_NEXT1, 20, 12⟩
def CAM_EXPO_NEXT1_expo_us : Fld := ⟨.CAM_EXPO_NEXT1, 0, 20⟩
def CAM_EXPO_NEXT2_gain : Fld := ⟨.CAM_EXPO_NEXT2, 20, 12⟩
def CAM_EXPO_NEXT2_expo_us : Fld := ⟨.CAM_EXPO_NEXT2, 0, 20⟩
def CAM_EXPO_STATUS_last_resp : Fld := ⟨.CAM_EXPO_STATUS, 4, 4⟩
def CAM_EXPO_STATUS_clamped : Fld := ⟨.CAM_EXPO_STATUS, 3, 1⟩
def CAM_EXPO_STATUS_host_ignored : Fld := ⟨.CAM_EXPO_STATUS, 2, 1⟩
def CAM_EXPO_STATUS_late : Fld := ⟨.CAM_EXPO_STATUS, 1, 1⟩
def CAM_EXPO_STATUS_pending : Fld := ⟨.CAM_EXPO_STATUS, 0, 1⟩
def CAM_EXPO_TARGET_f : Fld := ⟨.CAM_EXPO_TARGET, 0, 32⟩
def CAM_WB_GAIN_blue : Fld := ⟨.CAM_WB_GAIN, 20, 10⟩
def CAM_WB_GAIN_green : Fld := ⟨.CAM_WB_GAIN, 10, 10⟩
def CAM_WB_GAIN_red : Fld := ⟨.CAM_WB_GAIN, 0, 10⟩
def CAM_STATS_CFG_clip_level : Fld := ⟨.CAM_STATS_CFG, 16, 16⟩
def CAM_STATS_HOST_LO_addr : Fld := ⟨.CAM_STATS_HOST_LO, 12, 20⟩
def CAM_STATS_HOST_LO_enable : Fld := ⟨.CAM_STATS_HOST_LO, 0, 1⟩
def CAM_STATS_HOST_HI_addr : Fld := ⟨.CAM_STATS_HOST_HI, 0, 32⟩
def CAM_AE_CFG_target : Fld := ⟨.CAM_AE_CFG, 16, 16⟩
def CAM_AE_CFG_tol : Fld := ⟨.CAM_AE_CFG, 8, 8⟩
def CAM_AE_CFG_step : Fld := ⟨.CAM_AE_CFG, 0, 8⟩
def CAM_AE_LIM_EXPO_expo_max : Fld := ⟨.CAM_AE_LIM_EXPO, 16, 16⟩
def CAM_AE_LIM_EXPO_expo_min : Fld := ⟨.CAM_AE_LIM_EXPO, 0, 16⟩
def CAM_AE_LIM_GAIN_gain_max : Fld := ⟨.CAM_AE_LIM_GAIN, 16, 12⟩
def CAM_AE_LIM_GAIN_gain_min : Fld := ⟨.CAM_AE_LIM_GAIN, 0, 12⟩
def CAM_AWB_CFG_hi : Fld := ⟨.CAM_AWB_CFG, 24, 8⟩
def CAM_AWB_CFG_lo : Fld := ⟨.CAM_AWB_CFG, 16, 8⟩
def CAM_AWB_CFG_k : Fld := ⟨.CAM_AWB_CFG, 0, 4⟩
def CAM_CNT_EXPO_MISMATCH_count : Fld := ⟨.CAM_CNT_EXPO_MISMATCH, 0, 32⟩
def CAM_CNT_EXPO_LATE_count : Fld := ⟨.CAM_CNT_EXPO_LATE, 0, 32⟩
def CAM_CNT_EMBED_MISSING_count : Fld := ⟨.CAM_CNT_EMBED_MISSING, 0, 32⟩
def CAM_CNT_AE_UPDATE_count : Fld := ⟨.CAM_CNT_AE_UPDATE, 0, 32⟩
def CAM_AE_WEIGHT_w : Fld := ⟨.CAM_AE_WEIGHT, 0, 32⟩
def CAM_PPB_BASE_LO_page : Fld := ⟨.CAM_PPB_BASE_LO, 12, 20⟩
def CAM_PPB_BASE_HI_page : Fld := ⟨.CAM_PPB_BASE_HI, 0, 4⟩
def CAM_PPB_SEL_in_use : Fld := ⟨.CAM_PPB_SEL, 16, 2⟩
def CAM_PPB_SEL_bound : Fld := ⟨.CAM_PPB_SEL, 8, 1⟩
def CAM_PPB_SEL_copy : Fld := ⟨.CAM_PPB_SEL, 0, 1⟩
def CAM_TSTATE_BASE_LO_page : Fld := ⟨.CAM_TSTATE_BASE_LO, 12, 20⟩
def CAM_TSTATE_BASE_HI_page : Fld := ⟨.CAM_TSTATE_BASE_HI, 0, 4⟩
def CAM_TSTATE_CFG_factor : Fld := ⟨.CAM_TSTATE_CFG, 8, 1⟩
def CAM_TSTATE_CFG_channels : Fld := ⟨.CAM_TSTATE_CFG, 0, 6⟩
def CAM_OUT_BASE_LO_addr : Fld := ⟨.CAM_OUT_BASE_LO, 12, 20⟩
def CAM_OUT_BASE_HI_addr : Fld := ⟨.CAM_OUT_BASE_HI, 0, 32⟩
def CAM_OUT_RING_slot_pages : Fld := ⟨.CAM_OUT_RING, 12, 20⟩
def CAM_OUT_RING_count : Fld := ⟨.CAM_OUT_RING, 0, 8⟩
def CAM_OUT_CREDIT_n : Fld := ⟨.CAM_OUT_CREDIT, 0, 8⟩
def CAM_OUT_DISP_en : Fld := ⟨.CAM_OUT_DISP, 31, 1⟩
def CAM_OUT_DISP_fmt : Fld := ⟨.CAM_OUT_DISP, 30, 1⟩
def CAM_OUT_DISP_height : Fld := ⟨.CAM_OUT_DISP, 16, 12⟩
def CAM_OUT_DISP_width : Fld := ⟨.CAM_OUT_DISP, 0, 13⟩
def CAM_OUT_CODE_en : Fld := ⟨.CAM_OUT_CODE, 31, 1⟩
def CAM_OUT_CODE_fmt : Fld := ⟨.CAM_OUT_CODE, 30, 1⟩
def CAM_OUT_CODE_height : Fld := ⟨.CAM_OUT_CODE, 16, 12⟩
def CAM_OUT_CODE_width : Fld := ⟨.CAM_OUT_CODE, 0, 13⟩
def CAM_OUT_CODE_DIV_div_minus1 : Fld := ⟨.CAM_OUT_CODE_DIV, 0, 4⟩
def CAM_OUT_MV_en : Fld := ⟨.CAM_OUT_MV, 31, 1⟩
def CAM_OUT_MV_fmt : Fld := ⟨.CAM_OUT_MV, 30, 1⟩
def CAM_OUT_MV_rgb_en : Fld := ⟨.CAM_OUT_MV, 29, 1⟩
def CAM_OUT_MV_factor : Fld := ⟨.CAM_OUT_MV, 28, 1⟩
def CAM_OUT_MV_channels : Fld := ⟨.CAM_OUT_MV, 0, 8⟩
def CAM_OUT_POLICY_sheddable : Fld := ⟨.CAM_OUT_POLICY, 4, 1⟩
def CAM_OUT_POLICY_prio : Fld := ⟨.CAM_OUT_POLICY, 0, 2⟩
def CAM_OUT_STATUS_next : Fld := ⟨.CAM_OUT_STATUS, 8, 8⟩
def CAM_OUT_STATUS_free : Fld := ⟨.CAM_OUT_STATUS, 0, 8⟩
def CAM_CNT_OUT_NOSLOT_count : Fld := ⟨.CAM_CNT_OUT_NOSLOT, 0, 32⟩
def CAM_CNT_OUT_SHED_count : Fld := ⟨.CAM_CNT_OUT_SHED, 0, 32⟩
def CAM_CNT_TSTATE_RESET_count : Fld := ⟨.CAM_CNT_TSTATE_RESET, 0, 32⟩
def CAM_ADAPT_CFG_source : Fld := ⟨.CAM_ADAPT_CFG, 30, 2⟩
def CAM_ADAPT_CFG_steps : Fld := ⟨.CAM_ADAPT_CFG, 16, 8⟩
def CAM_ADAPT_CFG_pair_div : Fld := ⟨.CAM_ADAPT_CFG, 8, 8⟩
def CAM_ADAPT_CFG_still_tol : Fld := ⟨.CAM_ADAPT_CFG, 0, 8⟩
def CAM_ADAPT_OPT_drift_max : Fld := ⟨.CAM_ADAPT_OPT, 24, 8⟩
def CAM_ADAPT_OPT_gate : Fld := ⟨.CAM_ADAPT_OPT, 16, 8⟩
def CAM_ADAPT_OPT_lr_exp : Fld := ⟨.CAM_ADAPT_OPT, 8, 5⟩
def CAM_ADAPT_OPT_beta : Fld := ⟨.CAM_ADAPT_OPT, 0, 4⟩
def CAM_ADAPT_STATUS_cause : Fld := ⟨.CAM_ADAPT_STATUS, 20, 4⟩
def CAM_ADAPT_STATUS_in_use : Fld := ⟨.CAM_ADAPT_STATUS, 16, 2⟩
def CAM_ADAPT_STATUS_bound : Fld := ⟨.CAM_ADAPT_STATUS, 8, 2⟩
def CAM_ADAPT_STATUS_pending : Fld := ⟨.CAM_ADAPT_STATUS, 4, 1⟩
def CAM_ADAPT_STATUS_state : Fld := ⟨.CAM_ADAPT_STATUS, 0, 2⟩
def CAM_ADAPT_AUDIT_LO_addr : Fld := ⟨.CAM_ADAPT_AUDIT_LO, 12, 20⟩
def CAM_ADAPT_AUDIT_LO_enable : Fld := ⟨.CAM_ADAPT_AUDIT_LO, 0, 1⟩
def CAM_ADAPT_AUDIT_HI_addr : Fld := ⟨.CAM_ADAPT_AUDIT_HI, 0, 32⟩
def CAM_ADAPT_NUM_a : Fld := ⟨.CAM_ADAPT_NUM, 0, 32⟩
def CAM_ADAPT_DIGEST_digest : Fld := ⟨.CAM_ADAPT_DIGEST, 0, 32⟩
def CAM_NOISE_shot : Fld := ⟨.CAM_NOISE, 20, 12⟩
def CAM_NOISE_read : Fld := ⟨.CAM_NOISE, 0, 20⟩
def CAM_REV_CFG_k1 : Fld := ⟨.CAM_REV_CFG, 0, 8⟩
def CAM_CNT_ADAPT_PAIR_count : Fld := ⟨.CAM_CNT_ADAPT_PAIR, 0, 32⟩
def CAM_CNT_ADAPT_NOTSTILL_count : Fld := ⟨.CAM_CNT_ADAPT_NOTSTILL, 0, 32⟩
def CAM_CNT_ADAPT_REJECT_count : Fld := ⟨.CAM_CNT_ADAPT_REJECT, 0, 32⟩
def CAM_CNT_ADAPT_PAUSE_count : Fld := ⟨.CAM_CNT_ADAPT_PAUSE, 0, 32⟩
def LC_SPAD_SIZE_bytes : Fld := ⟨.LC_SPAD_SIZE, 0, 32⟩
def LC_STATUS_ctx_active : Fld := ⟨.LC_STATUS, 16, 8⟩
def LC_STATUS_state : Fld := ⟨.LC_STATUS, 0, 4⟩
def LC_FAULT_pc : Fld := ⟨.LC_FAULT, 20, 12⟩
def LC_FAULT_engine : Fld := ⟨.LC_FAULT, 12, 3⟩
def LC_FAULT_ctx : Fld := ⟨.LC_FAULT, 8, 3⟩
def LC_FAULT_code : Fld := ⟨.LC_FAULT, 0, 8⟩
def LC_ECC_CNT_count : Fld := ⟨.LC_ECC_CNT, 0, 32⟩
def LC_RETAKE_CFG_en : Fld := ⟨.LC_RETAKE_CFG, 31, 1⟩
def LC_RETAKE_CFG_max_per_stripe : Fld := ⟨.LC_RETAKE_CFG, 16, 4⟩
def LC_RETAKE_CFG_reserve_us : Fld := ⟨.LC_RETAKE_CFG, 0, 12⟩
def LC_CNT_RETAKE_count : Fld := ⟨.LC_CNT_RETAKE, 0, 32⟩
def LC_CNT_SKIP_OFF_count : Fld := ⟨.LC_CNT_SKIP_OFF, 0, 32⟩
def LC_CNT_SKIP_GOV_count : Fld := ⟨.LC_CNT_SKIP_GOV, 0, 32⟩
def LC_CNT_SKIP_LIMIT_count : Fld := ⟨.LC_CNT_SKIP_LIMIT, 0, 32⟩
def LC_CNT_SKIP_SLACK_count : Fld := ⟨.LC_CNT_SKIP_SLACK, 0, 32⟩
def LC_CNT_CLIP_HIGH_count : Fld := ⟨.LC_CNT_CLIP_HIGH, 0, 32⟩
def LC_DESC_COUNT_count : Fld := ⟨.LC_DESC_COUNT, 0, 11⟩
def LC_ADAPT_CFG_budget : Fld := ⟨.LC_ADAPT_CFG, 0, 4⟩
def LC_ADAPT_USED_cycles : Fld := ⟨.LC_ADAPT_USED, 0, 32⟩
def LC_CTX_STATUS_pc : Fld := ⟨.LC_CTX_STATUS, 16, 12⟩
def LC_CTX_STATUS_prio : Fld := ⟨.LC_CTX_STATUS, 8, 2⟩
def LC_CTX_STATUS_wait : Fld := ⟨.LC_CTX_STATUS, 4, 4⟩
def LC_CTX_STATUS_state : Fld := ⟨.LC_CTX_STATUS, 0, 3⟩
def LC_PAD_value : Fld := ⟨.LC_PAD, 0, 32⟩
def LC_SHAPE_WORD_value : Fld := ⟨.LC_SHAPE_WORD, 0, 32⟩
def LC_DMAQ_CFG_lead : Fld := ⟨.LC_DMAQ_CFG, 20, 12⟩
def LC_DMAQ_CFG_ahead_max : Fld := ⟨.LC_DMAQ_CFG, 12, 8⟩
def LC_DMAQ_CFG_max_out : Fld := ⟨.LC_DMAQ_CFG, 0, 11⟩
def LC_DMAQ_ROWS_rows : Fld := ⟨.LC_DMAQ_ROWS, 0, 32⟩
def LC_DMAQ_STATUS_done : Fld := ⟨.LC_DMAQ_STATUS, 16, 16⟩
def LC_DMAQ_STATUS_pending : Fld := ⟨.LC_DMAQ_STATUS, 8, 5⟩
def LC_DMAQ_STATUS_faulted : Fld := ⟨.LC_DMAQ_STATUS, 4, 1⟩
def LC_DMAQ_STATUS_last : Fld := ⟨.LC_DMAQ_STATUS, 0, 4⟩
def LC_DMAQ_OUT_slots : Fld := ⟨.LC_DMAQ_OUT, 0, 11⟩
def LC_DMA_REG_depth : Fld := ⟨.LC_DMA_REG, 24, 8⟩
def LC_DMA_REG_rate : Fld := ⟨.LC_DMA_REG, 0, 12⟩
def LC_DMAF_INFO_valid : Fld := ⟨.LC_DMAF_INFO, 31, 1⟩
def LC_DMAF_INFO_cause : Fld := ⟨.LC_DMAF_INFO, 28, 3⟩
def LC_DMAF_INFO_side : Fld := ⟨.LC_DMAF_INFO, 27, 1⟩
def LC_DMAF_INFO_resumes : Fld := ⟨.LC_DMAF_INFO, 16, 8⟩
def LC_DMAF_INFO_desc : Fld := ⟨.LC_DMAF_INFO, 0, 10⟩
def LC_DMAF_COORD_i2 : Fld := ⟨.LC_DMAF_COORD, 16, 16⟩
def LC_DMAF_COORD_i1 : Fld := ⟨.LC_DMAF_COORD, 0, 16⟩
def LC_DMAF_COORD3_i3 : Fld := ⟨.LC_DMAF_COORD3, 0, 16⟩
def LC_DMAF_ADDR_LO_lo : Fld := ⟨.LC_DMAF_ADDR_LO, 0, 32⟩
def LC_DMAF_ADDR_HI_hi : Fld := ⟨.LC_DMAF_ADDR_HI, 0, 32⟩
def LC_DMAF_CRC_crc : Fld := ⟨.LC_DMAF_CRC, 0, 32⟩
def LC_CNT_DMA_FAULT_count : Fld := ⟨.LC_CNT_DMA_FAULT, 0, 32⟩
def LC_CNT_DMA_RESUME_count : Fld := ⟨.LC_CNT_DMA_RESUME, 0, 32⟩
def LC_CNT_DMA_POISON_count : Fld := ⟨.LC_CNT_DMA_POISON, 0, 32⟩
def LC_CNT_DMA_POISON_DATA_count : Fld := ⟨.LC_CNT_DMA_POISON_DATA, 0, 32⟩
def LC_CNT_DMA_CLOSED_count : Fld := ⟨.LC_CNT_DMA_CLOSED, 0, 32⟩
def HLD_WAYMASK_ways : Fld := ⟨.HLD_WAYMASK, 0, 16⟩
def HLD_PIN_BASE_base : Fld := ⟨.HLD_PIN_BASE, 21, 11⟩
def HLD_PIN_BASE_valid : Fld := ⟨.HLD_PIN_BASE, 0, 1⟩
def HLD_PIN_SIZE_size : Fld := ⟨.HLD_PIN_SIZE, 0, 4⟩
def HLD_PIN_WAYS_ways : Fld := ⟨.HLD_PIN_WAYS, 0, 15⟩
def HLD_ECC_CNT_count : Fld := ⟨.HLD_ECC_CNT, 0, 32⟩
def HLD_WC_CFG_lease_us : Fld := ⟨.HLD_WC_CFG, 16, 16⟩
def HLD_WC_CFG_barrier : Fld := ⟨.HLD_WC_CFG, 6, 6⟩
def HLD_WC_CFG_active : Fld := ⟨.HLD_WC_CFG, 0, 1⟩
def HLD_WC_NEXT_index : Fld := ⟨.HLD_WC_NEXT, 0, 32⟩
def HLD_WC_OCC_held : Fld := ⟨.HLD_WC_OCC, 16, 16⟩
def HLD_WC_OCC_queued : Fld := ⟨.HLD_WC_OCC, 0, 16⟩
def HLD_WC_CNT_REISSUE_count : Fld := ⟨.HLD_WC_CNT_REISSUE, 0, 32⟩
def HLD_WC_CNT_LATE_COMMIT_count : Fld := ⟨.HLD_WC_CNT_LATE_COMMIT, 0, 32⟩
def HLD_WC_CNT_STALE_WR_count : Fld := ⟨.HLD_WC_CNT_STALE_WR, 0, 32⟩
def MEM_STATUS_train_fail : Fld := ⟨.MEM_STATUS, 24, 8⟩
def MEM_STATUS_hot : Fld := ⟨.MEM_STATUS, 18, 1⟩
def MEM_STATUS_sweeping : Fld := ⟨.MEM_STATUS, 17, 1⟩
def MEM_STATUS_ready : Fld := ⟨.MEM_STATUS, 16, 1⟩
def MEM_STATUS_trained : Fld := ⟨.MEM_STATUS, 0, 8⟩
def MEM_GEOM_gib : Fld := ⟨.MEM_GEOM, 16, 8⟩
def MEM_GEOM_speed : Fld := ⟨.MEM_GEOM, 8, 2⟩
def MEM_GEOM_config : Fld := ⟨.MEM_GEOM, 0, 2⟩
def MEM_POISON_ADDR_LO_lo : Fld := ⟨.MEM_POISON_ADDR_LO, 0, 32⟩
def MEM_POISON_ADDR_HI_hi : Fld := ⟨.MEM_POISON_ADDR_HI, 0, 32⟩
def MEM_CNT_CRC_RETRY_count : Fld := ⟨.MEM_CNT_CRC_RETRY, 0, 32⟩
def MEM_CNT_CRC_POISON_count : Fld := ⟨.MEM_CNT_CRC_POISON, 0, 32⟩
def MEM_CNT_MAC_FAIL_count : Fld := ⟨.MEM_CNT_MAC_FAIL, 0, 32⟩
def MEM_CNT_POISON_READ_count : Fld := ⟨.MEM_CNT_POISON_READ, 0, 32⟩
def MEM_CNT_SWEEP_count : Fld := ⟨.MEM_CNT_SWEEP, 0, 32⟩
def DMA_FAULT_CFG_wait_us : Fld := ⟨.DMA_FAULT_CFG, 0, 16⟩
def FN_ID_state : Fld := ⟨.FN_ID, 16, 2⟩
def FN_ID_fn : Fld := ⟨.FN_ID, 0, 4⟩
def FN_CNT_BME_DROP_count : Fld := ⟨.FN_CNT_BME_DROP, 0, 32⟩
def CQ_BASE_LO_addr : Fld := ⟨.CQ_BASE_LO, 12, 20⟩
def CQ_BASE_HI_addr : Fld := ⟨.CQ_BASE_HI, 0, 32⟩
def RQ_BASE_LO_addr : Fld := ⟨.RQ_BASE_LO, 12, 20⟩
def RQ_BASE_HI_addr : Fld := ⟨.RQ_BASE_HI, 0, 32⟩
def CQ_CFG_en : Fld := ⟨.CQ_CFG, 31, 1⟩
def CQ_CFG_log2_size : Fld := ⟨.CQ_CFG, 24, 4⟩
def CQ_CFG_mod_count : Fld := ⟨.CQ_CFG, 16, 8⟩
def CQ_CFG_mod_us : Fld := ⟨.CQ_CFG, 10, 6⟩
def CQ_CFG_vector : Fld := ⟨.CQ_CFG, 0, 10⟩
def CQ_STATUS_idle : Fld := ⟨.CQ_STATUS, 31, 1⟩
def CQ_STATUS_cfg_err : Fld := ⟨.CQ_STATUS, 30, 1⟩
def CQ_STATUS_tail_err : Fld := ⟨.CQ_STATUS, 29, 1⟩
def CQ_STATUS_phase : Fld := ⟨.CQ_STATUS, 28, 1⟩
def CQ_STATUS_head : Fld := ⟨.CQ_STATUS, 16, 12⟩
def CQ_STATUS_rq_tail : Fld := ⟨.CQ_STATUS, 0, 12⟩
def EVQ_BASE_LO_addr : Fld := ⟨.EVQ_BASE_LO, 12, 20⟩
def EVQ_BASE_HI_addr : Fld := ⟨.EVQ_BASE_HI, 0, 32⟩
def EVQ_CFG_en : Fld := ⟨.EVQ_CFG, 31, 1⟩
def EVQ_CFG_log2_size : Fld := ⟨.EVQ_CFG, 24, 4⟩
def EVQ_CFG_vector : Fld := ⟨.EVQ_CFG, 0, 10⟩
def EVQ_STATUS_lost : Fld := ⟨.EVQ_STATUS, 16, 16⟩
def EVQ_STATUS_num : Fld := ⟨.EVQ_STATUS, 0, 16⟩
def CQ_TAIL_index : Fld := ⟨.CQ_TAIL, 0, 12⟩
def RQ_HEAD_index : Fld := ⟨.RQ_HEAD, 0, 12⟩
def MBX_FW_DATA_word : Fld := ⟨.MBX_FW_DATA, 0, 32⟩
def MBX_FW_CTL_full : Fld := ⟨.MBX_FW_CTL, 31, 1⟩
def MBX_FW_CTL_refused : Fld := ⟨.MBX_FW_CTL, 30, 1⟩
def MBX_FW_CTL_send : Fld := ⟨.MBX_FW_CTL, 8, 1⟩
def MBX_FW_CTL_len_minus1 : Fld := ⟨.MBX_FW_CTL, 0, 4⟩
def MBX_SFL_DATA_word : Fld := ⟨.MBX_SFL_DATA, 0, 32⟩
def MBX_SFL_CTL_full : Fld := ⟨.MBX_SFL_CTL, 31, 1⟩
def MBX_SFL_CTL_refused : Fld := ⟨.MBX_SFL_CTL, 30, 1⟩
def MBX_SFL_CTL_send : Fld := ⟨.MBX_SFL_CTL, 8, 1⟩
def MBX_SFL_CTL_len_minus1 : Fld := ⟨.MBX_SFL_CTL, 0, 4⟩
def MBX_CP0_DATA_word : Fld := ⟨.MBX_CP0_DATA, 0, 32⟩
def MBX_CP0_CTL_full : Fld := ⟨.MBX_CP0_CTL, 31, 1⟩
def MBX_CP0_CTL_len_minus1 : Fld := ⟨.MBX_CP0_CTL, 0, 4⟩
def MBX_CP1_DATA_word : Fld := ⟨.MBX_CP1_DATA, 0, 32⟩
def MBX_CP1_CTL_full : Fld := ⟨.MBX_CP1_CTL, 31, 1⟩
def MBX_CP1_CTL_len_minus1 : Fld := ⟨.MBX_CP1_CTL, 0, 4⟩
def MBX_CP2_DATA_word : Fld := ⟨.MBX_CP2_DATA, 0, 32⟩
def MBX_CP2_CTL_full : Fld := ⟨.MBX_CP2_CTL, 31, 1⟩
def MBX_CP2_CTL_len_minus1 : Fld := ⟨.MBX_CP2_CTL, 0, 4⟩
def MBX_CP3_DATA_word : Fld := ⟨.MBX_CP3_DATA, 0, 32⟩
def MBX_CP3_CTL_full : Fld := ⟨.MBX_CP3_CTL, 31, 1⟩
def MBX_CP3_CTL_len_minus1 : Fld := ⟨.MBX_CP3_CTL, 0, 4⟩
def MBX_RSFL_DATA_word : Fld := ⟨.MBX_RSFL_DATA, 0, 32⟩
def MBX_RSFL_CTL_full : Fld := ⟨.MBX_RSFL_CTL, 31, 1⟩
def MBX_RSFL_CTL_len_minus1 : Fld := ⟨.MBX_RSFL_CTL, 0, 4⟩
def FN_MBX_VEC_space : Fld := ⟨.FN_MBX_VEC, 16, 10⟩
def FN_MBX_VEC_receive : Fld := ⟨.FN_MBX_VEC, 0, 10⟩
def MSIX_TABLE_word : Fld := ⟨.MSIX_TABLE, 0, 32⟩
def MSIX_PBA_bits : Fld := ⟨.MSIX_PBA, 0, 32⟩
def SEC_STATUS_svn_run : Fld := ⟨.SEC_STATUS, 20, 6⟩
def SEC_STATUS_svn_min : Fld := ⟨.SEC_STATUS, 14, 6⟩
def SEC_STATUS_boot_slot : Fld := ⟨.SEC_STATUS, 8, 1⟩
def SEC_STATUS_update_pending : Fld := ⟨.SEC_STATUS, 4, 1⟩
def SEC_STATUS_engine : Fld := ⟨.SEC_STATUS, 0, 2⟩
def SEC_SNUF_CFG_rate : Fld := ⟨.SEC_SNUF_CFG, 0, 7⟩
def SEC_SNUF_STATUS_busy : Fld := ⟨.SEC_SNUF_STATUS, 31, 1⟩
def SEC_SNUF_STATUS_fn : Fld := ⟨.SEC_SNUF_STATUS, 24, 4⟩
def SEC_SNUF_STATUS_units_left : Fld := ⟨.SEC_SNUF_STATUS, 0, 16⟩
def SEC_MEAS_digest : Fld := ⟨.SEC_MEAS, 0, 32⟩
def SEC_ID_PUB_digest : Fld := ⟨.SEC_ID_PUB, 0, 32⟩
def SEC_CNT_ATTEST_count : Fld := ⟨.SEC_CNT_ATTEST, 0, 32⟩
def SEC_CNT_KEY_IMPORT_count : Fld := ⟨.SEC_CNT_KEY_IMPORT, 0, 32⟩
def SEC_CNT_KEY_DENIED_count : Fld := ⟨.SEC_CNT_KEY_DENIED, 0, 32⟩
def SEC_CNT_SCRUB_count : Fld := ⟨.SEC_CNT_SCRUB, 0, 32⟩
def SEC_CNT_ENGINE_RESET_count : Fld := ⟨.SEC_CNT_ENGINE_RESET, 0, 32⟩
def SEC_CNT_SEALED_DENY_count : Fld := ⟨.SEC_CNT_SEALED_DENY, 0, 32⟩
def SFL_STATUS_trip : Fld := ⟨.SFL_STATUS, 7, 1⟩
def SFL_STATUS_hold : Fld := ⟨.SFL_STATUS, 6, 1⟩
def SFL_STATUS_policy : Fld := ⟨.SFL_STATUS, 4, 2⟩
def SFL_STATUS_proc : Fld := ⟨.SFL_STATUS, 0, 2⟩
def SFL_POLICY_SEQ_seq : Fld := ⟨.SFL_POLICY_SEQ, 0, 32⟩
def SFL_LIMIT_limit_mw : Fld := ⟨.SFL_LIMIT, 0, 17⟩
def SFL_POWER_p_avg_mw : Fld := ⟨.SFL_POWER, 0, 17⟩
def SFL_THERM_tj : Fld := ⟨.SFL_THERM, 16, 12⟩
def SFL_THERM_sensor : Fld := ⟨.SFL_THERM, 8, 4⟩
def SFL_GOV_duty_cap : Fld := ⟨.SFL_GOV, 16, 9⟩
def SFL_GOV_step : Fld := ⟨.SFL_GOV, 0, 4⟩
def SFL_CNT_POLICY_REJECT_count : Fld := ⟨.SFL_CNT_POLICY_REJECT, 0, 32⟩
def SFL_CNT_RESTART_count : Fld := ⟨.SFL_CNT_RESTART, 0, 32⟩
def SFL_CNT_GOV_STEP_count : Fld := ⟨.SFL_CNT_GOV_STEP, 0, 32⟩
def SFL_CNT_HOLD_count : Fld := ⟨.SFL_CNT_HOLD, 0, 32⟩
def CHN_STATUS_present : Fld := ⟨.CHN_STATUS, 24, 8⟩
def CHN_STATUS_pos : Fld := ⟨.CHN_STATUS, 16, 3⟩
def CHN_STATUS_chd_state : Fld := ⟨.CHN_STATUS, 8, 4⟩
def CHN_STATUS_chu_state : Fld := ⟨.CHN_STATUS, 0, 4⟩
def CHN_CABLE_delay : Fld := ⟨.CHN_CABLE, 0, 20⟩
def CHN_DELAY_ADJ_adj : Fld := ⟨.CHN_DELAY_ADJ, 0, 12⟩
def CHN_FWD_in : Fld := ⟨.CHN_FWD, 16, 16⟩
def CHN_FWD_out : Fld := ⟨.CHN_FWD, 0, 16⟩
def CHN_FWD_PEER_peer : Fld := ⟨.CHN_FWD_PEER, 0, 3⟩
def CHN_WIN_BASE_LO_lo : Fld := ⟨.CHN_WIN_BASE_LO, 0, 32⟩
def CHN_WIN_BASE_HI_hi : Fld := ⟨.CHN_WIN_BASE_HI, 0, 32⟩
def CHN_WIN_LEN_bytes : Fld := ⟨.CHN_WIN_LEN, 0, 32⟩
def CHN_WIN_CTL_open : Fld := ⟨.CHN_WIN_CTL, 31, 1⟩
def CHN_WIN_CTL_peer : Fld := ⟨.CHN_WIN_CTL, 0, 3⟩
def CHN_RWIN_open : Fld := ⟨.CHN_RWIN, 0, 16⟩
def CHN_CNT_CRC_count : Fld := ⟨.CHN_CNT_CRC, 0, 32⟩
def CHN_CNT_RETRAIN_count : Fld := ⟨.CHN_CNT_RETRAIN, 0, 32⟩
def CHN_CNT_WIN_DROP_count : Fld := ⟨.CHN_CNT_WIN_DROP, 0, 32⟩
def CHN_CNT_CLOSED_LATE_count : Fld := ⟨.CHN_CNT_CLOSED_LATE, 0, 32⟩
def CHN_CNT_FWD_DROP_count : Fld := ⟨.CHN_CNT_FWD_DROP, 0, 32⟩
def CHN_CNT_PEER_LOST_count : Fld := ⟨.CHN_CNT_PEER_LOST, 0, 32⟩
def ERR_CFG_irq_class : Fld := ⟨.ERR_CFG, 17, 15⟩
def ERR_CFG_vector : Fld := ⟨.ERR_CFG, 0, 10⟩
def ERR_HEAD_num : Fld := ⟨.ERR_HEAD, 0, 32⟩
def ERR_TAIL_num : Fld := ⟨.ERR_TAIL, 0, 32⟩
def ERR_RELEASE_n : Fld := ⟨.ERR_RELEASE, 0, 11⟩
def ERR_FIRST_word : Fld := ⟨.ERR_FIRST, 0, 32⟩
def ERR_FIRST_CTL_valid : Fld := ⟨.ERR_FIRST_CTL, 0, 1⟩
def ERR_FATAL_valid : Fld := ⟨.ERR_FATAL, 31, 1⟩
def ERR_FATAL_count : Fld := ⟨.ERR_FATAL, 8, 16⟩
def ERR_FATAL_cause : Fld := ⟨.ERR_FATAL, 0, 4⟩
def ERR_FATAL_TIME_LO_lo : Fld := ⟨.ERR_FATAL_TIME_LO, 0, 32⟩
def ERR_FATAL_TIME_HI_hi : Fld := ⟨.ERR_FATAL_TIME_HI, 0, 32⟩
def ERR_DROP_count : Fld := ⟨.ERR_DROP, 0, 32⟩
def ERR_ENTRY_word : Fld := ⟨.ERR_ENTRY, 0, 32⟩
def OBS_TRACE_CFG_groups : Fld := ⟨.OBS_TRACE_CFG, 1, 3⟩
def OBS_TRACE_HEAD_events : Fld := ⟨.OBS_TRACE_HEAD, 0, 32⟩
def OBS_CNT_LO_lo : Fld := ⟨.OBS_CNT_LO, 0, 32⟩
def OBS_CNT_HI_hi : Fld := ⟨.OBS_CNT_HI, 0, 32⟩
def PIN_OWN_holder : Fld := ⟨.PIN_OWN, 0, 8⟩
def PIN_CLAIM_release : Fld := ⟨.PIN_CLAIM, 31, 1⟩
def PIN_CLAIM_feature : Fld := ⟨.PIN_CLAIM, 8, 8⟩
def PIN_CLAIM_resource : Fld := ⟨.PIN_CLAIM, 0, 8⟩
def PIN_CLAIM_STATUS_refused : Fld := ⟨.PIN_CLAIM_STATUS, 31, 1⟩
def PIN_CLAIM_STATUS_holder : Fld := ⟨.PIN_CLAIM_STATUS, 8, 8⟩
def PIN_CLAIM_STATUS_resource : Fld := ⟨.PIN_CLAIM_STATUS, 0, 8⟩
def PIN_GPIO_DIR_oe : Fld := ⟨.PIN_GPIO_DIR, 0, 16⟩
def PIN_GPIO_OUT_value : Fld := ⟨.PIN_GPIO_OUT, 0, 16⟩
def PIN_GPIO_IN_level : Fld := ⟨.PIN_GPIO_IN, 0, 16⟩
def SFL_POLICY_word : Fld := ⟨.SFL_POLICY, 0, 32⟩

end Sys2Proof.Machine.F
end

