-- ==== Sys2Proof/Machine/State.lean ====
section
/-! DEFINITION. The state of the block: plain data, holding every piece of state the spec gives it. -/
namespace Sys2Proof.Machine

/-! ### Commands (chapter 14) -/

/-- Names a command: the function, its queue and the command slot of its packet (R349). -/
structure CmdRef where
  /-- 0 the owner, k + 1 tenant Tk. -/
  fn : Nat := 0
  /-- Queue j, 0 to 3. -/
  q : Nat := 0
  /-- Command slot. -/
  slot : Nat := 0
deriving DecidableEq, Repr, Inhabited

/-- A command packet as the device copied it at fetch (R346, R348). -/
structure Cmd where
  /-- R349: command slot of the packet. -/
  slot : Nat := 0
  /-- R348: opcode. -/
  opcode : Nat := 0
  /-- R348: flags; bit 0 ORDER, bit 1 QUIET. -/
  flags : Nat := 0
  /-- R348: seq, echoed in the reply. -/
  seq : Nat := 0
  /-- R348: parameter words P0 to P6. -/
  p : List Nat := []
  /-- R347, R352: firmware is carrying the command out and its reply waits for an event. -/
  taken : Bool := false
  /-- R372, R444: its place in the order in which commands are started, across all queues; before it starts, the place of the
  command that started last before its fetch. -/
  order : Nat := 0
deriving DecidableEq, Repr, Inhabited


/-- A page of a DEV or HOST space (R354). -/
structure Page where
  /-- Virtual page address. -/
  va : Nat
  /-- Physical page address. -/
  pa : Nat
  /-- 2 MiB page. -/
  big : Bool
  writable : Bool
  /-- R355: present; a page being unmapped or moved is not. -/
  present : Bool := true
deriving DecidableEq, Repr



/-! ### Lantern cores (chapters 07, 09, 10, 11, 13) -/

/-- What a context waits for (R173). -/
inductive WaitS
  | none
  | dmaRows (q v : Nat)
  | barrier (b : BarScope) (phase : Nat)
  | counter (w : Nat)
  | ring
  | own (pc : Nat)
  | rescale (pc : Nat)
  | queueFull (engine : Nat)
deriving DecidableEq, Repr, Inhabited

/-- A GRID in progress (R245). -/
structure GridS where
  /-- Instruction index of the GRID. -/
  pc : Nat
  /-- Grid record. -/
  g : Nat
  /-- Problem index. -/
  p : Nat
  /-- Scalar register that receives the number of tiles. -/
  c : Nat
  mRt : Nat
  nRt : Nat
  /-- R247: tiles (i, j) not yet issued, in order. -/
  todo : List (Nat × Nat)
  /-- Tiles issued. -/
  issued : Nat := 0
  /-- Tiles completed. -/
  done : Nat := 0
  /-- ACLK cycle of the core at which the GRID issued. -/
  at_ : Nat := 0
  /-- R245: slots the current tile uses: bit 0 A, bit 1 B, bit 2 results. -/
  turn : Nat := 0
  /-- R187: its place among the core's DMA and GRID instructions. -/
  num : Nat := 0
deriving DecidableEq, Repr, Inhabited

/-- A stream context beyond LC_CTX_STATUS (R171 to R174). -/
structure CtxS where
  /-- R245, R249, R270: the 32 scalar registers. -/
  sregs : Tab Nat := []
  /-- R173: what it waits for. -/
  wait : WaitS := .none
  /-- R190, R192: device time at which the wait began. -/
  since : Nat := 0
  /-- R233: the Retake path that it runs: the record, and the instruction index it returns to. -/
  retake : Option (Nat × Nat) := none
  /-- R172: ACLK cycle from which it is ready again after its last wait. -/
  readyAt : Nat := 0
  /-- GRIDs in progress, the latest first. -/
  grids : List GridS := []
deriving DecidableEq, Repr, Inhabited

/-- An array tile with its place in a grid (R182, R245, R250). -/
structure Tile where
  m : Nat
  k : Nat
  n : Nat
  fa : Nat
  fb : Nat
  fo : Nat
  ovfInf : Bool
  record : Nat
  /-- R233: the record under which its output counts. -/
  stat : Nat
  pad : Nat
  pitch : Nat
  c0 : Nat
  c1 : Nat
  eBase : Nat
  aBase : Nat
  bBase : Nat
  oBase : Nat
  /-- Position of the tile's first row in the problem. -/
  pos0 : Nat := 0
  /-- Positions at or beyond it read the pad value. -/
  mRt : Nat
  /-- Positions and channels of the tile that are written. -/
  mOut : Nat
  nOut : Nat
  /-- The tile's indices, for a GRID. -/
  grid : Option (Nat × Nat) := none
deriving DecidableEq, Repr, Inhabited

/-- An instruction in an array queue (R169, R182, R186, R252). -/
inductive ArrayJob
  | tile (t : Tile)
  | load (src e n : Nat)
  | emptyGrid (c : Nat)
deriving DecidableEq, Repr, Inhabited

/-- A vector source as the vector unit reads it. -/
inductive VectorJob
  | op (f : VFun) (srcs : List VSrc) (dst : VDst) (lines : Nat) (record : Option Nat)
  | convert (src dst : Nat) (ovfInf : Bool) (scale : Nat) (from_ : VSrc) (to_ : VDst) (count : Nat) (record : Nat)
  | fold (f : VFold) (src : VSrc) (dst : VDst) (lines : Nat)
deriving DecidableEq, Repr, Inhabited

/-- An entry of the array queue, with its timeline in ACLK cycles (R169, R182). -/
structure AEntry where
  ctx : Nat
  pc : Nat
  start : Nat
  complete : Nat
  job : ArrayJob
deriving DecidableEq, Repr, Inhabited

/-- An entry of the vector queue (R169). -/
structure VEntry where
  ctx : Nat
  pc : Nat
  start : Nat
  complete : Nat
  job : VectorJob
deriving DecidableEq, Repr, Inhabited

/-- A DMA instruction, or a transfer of a DMA queue (R270, R271, R275). -/
structure Xfer where
  ctx : Nat := 0
  pc : Nat := 0
  queue : Nat := 0
  desc : Nat := 0
  /-- R273: the descriptor's bytes, as at issue. -/
  bytes : List Byte := []
  addSrc : Nat := 0
  addDst : Nat := 0
  fix3 : Option Nat := none
  fix2 : Option Nat := none
  launch : Option Nat := none
  /-- R245: the GRID operand it serves: 0 A, 1 B, 2 results, with the tile indices. -/
  grid : Option (Nat × Nat × Nat) := none
  /-- R245: scratchpad slot that takes the place of the descriptor's scratchpad address. -/
  spadAt : Option Nat := none
  /-- R187: its place among the core's DMA and GRID instructions. -/
  num : Nat := 0
  /-- R169: ACLK cycle of the core at which it issued. -/
  at_ : Nat := 0
  /-- R261: the token it carries: work counter, index, generation. -/
  token : Option (Nat × Nat × Nat) := none
  /-- R86, R292: the frame, as (camera, sequence number), of the stripe that it serves. -/
  frame : Option (Nat × Nat) := none
  /-- R291: once its queue has been emptied, the function and the pages through which its issued rows were translated. -/
  pages : Option (Nat × List Page × List Page) := none
  /-- R283: device time at which it was placed. -/
  placed : Nat := 0
  /-- Rows all of whose requests have issued. -/
  issued : Nat := 0
  /-- Pieces of the row in progress that have issued, and lines of the piece in progress that have. -/
  pieces : Nat := 0
  lines : Nat := 0
  /-- R277, R279: rows delivered ahead of an undelivered earlier row, with their bytes. -/
  early : List (Nat × List Byte) := []
  /-- Rows delivered with no gap. -/
  rows : Nat := 0
  /-- R279: CRC-32C register over the rows so far. -/
  crc : Nat := 0xFFFFFFFF
  /-- R289: resumes so far. -/
  resumes : Nat := 0
  /-- R278: status so far: 0 OK, 1 POISON, 2 POISON_DATA, 3 CLOSED. -/
  status : Nat := 0
  /-- R288: device time of the pending fault record. -/
  faultAt : Option Nat := none
  /-- R288: the wait of DMA_FAULT_CFG when the fault was recorded, in ns. -/
  faultWait : Nat := 0
  /-- R288: an event has told the holder of the space. -/
  notified : Bool := false
  /-- R421: rows sent to a peer whose acknowledgements are awaited: (row, PEER_WR packets unanswered, bytes). -/
  unacked : List (Nat × Nat × List Byte) := []
deriving DecidableEq, Repr, Inhabited

/-- Counts of a layer record on a stripe, or their totals over a frame (R230, R232). -/
structure RecCnt where
  produced : Nat := 0
  clipped : Nat := 0
  /-- Bit 0 CONST, bit 1 RETAKEN, bit 2 SKIPPED. -/
  flags : Nat := 0
deriving DecidableEq, Repr, Inhabited

/-- The stripe bound to a core (R171, R258, R259). -/
structure BoundS where
  cam : Nat
  seq : Nat
  stripe : Nat
  /-- Work counter of its stage. -/
  w : Nat
  idx : Nat
  gen : Nat
  /-- R83: deadline of the stripe. -/
  deadline : Nat
  inl : Bool
  /-- Contexts named by the stage program, as a mask. -/
  ctxs : Nat
  /-- R234: Retakes taken. -/
  retakes : Nat := 0
  /-- R262: its share is committed. -/
  committed : Bool := false
  /-- R324: a training stripe. -/
  training : Bool := false
  /-- R145: of a temporal stage, the buffer it writes and the buffer it reads; none: it reads zeros, with the reset flag. -/
  temporal : Option (Nat × Option Nat) := none
deriving DecidableEq, Repr, Inhabited

/-- R187: an arrival that waits until the earlier writes of its context are visible. -/
structure ArriveS where
  ctx : Nat
  scope : BarScope
  /-- The DMA and GRID instructions of the context before this number count as earlier. -/
  before : Nat
deriving DecidableEq, Repr

/-- A posted ring receive (R192). -/
structure RecvS where
  ctx : Nat
  addr : Nat
  len : Nat
  /-- A started send writes to it. -/
  taken : Bool := false
deriving DecidableEq, Repr, Inhabited

/-- A ring send (R191, R192). -/
structure SendS where
  ctx : Nat
  pc : Nat
  addr : Nat
  len : Nat
  targets : List Nat
  /-- ACLK cycle at which the send and each receive complete, once started. -/
  complete : Option Nat := none
deriving DecidableEq, Repr, Inhabited

/-- R378: a core's user: the holding function, and the handle of an encrypted model. -/
structure UserS where
  fn : Nat := 0
  handle : Option Nat := none
deriving DecidableEq, Repr, Inhabited

/-- A Lantern core beyond its registers. -/
structure CoreS where
  /-- R178: ACLK count at which it left reset; cycles are counted from there. -/
  from_ : Nat := 0
  /-- R171: contexts 0 to 7. -/
  ctxs : Tab CtxS := []
  /-- R172: contexts that have issued, the latest first. -/
  lastIssue : List Nat := []
  /-- R169: ACLK cycle of the latest issue. -/
  issuedAt : Option Nat := none
  /-- R175: the scratchpad; addresses rising, zero bytes unlisted. -/
  spad : List Host.Cell := []
  /-- R178: bytes that the scratchpad held before its latest writes, newest first, while an instruction in progress may
  read earlier cycles: (ACLK cycle of the write, address, byte). -/
  past : List (Nat × Nat × Byte) := []
  /-- R168: the instruction store, 16 bytes an instruction. -/
  store : Tab (List Byte) := []
  /-- R185: rescale entries, 8 bytes each. -/
  rescale : Tab Nat := []
  /-- R226: layer records. -/
  layers : Tab (List Byte) := []
  /-- R243: grid records. -/
  grids : Tab (List Byte) := []
  /-- R272: descriptors. -/
  descs : Tab (List Byte) := []
  /-- R183: vector registers: lanes of each. -/
  vregs : Tab (List Nat) := []
  /-- R169: array, vector and DMA instruction queues, oldest first. -/
  aq : List AEntry := []
  vq : List VEntry := []
  dq : List Xfer := []
  /-- R169: ACLK cycle of the last completion on the array and on the vector unit. -/
  aDone : Nat := 0
  vDone : Nat := 0
  /-- R169: ACLK cycle at which the DMA engine last took an instruction. -/
  dDone : Nat := 0
  /-- R187: DMA and GRID instructions issued, and arrivals that wait for the writes of some. -/
  serial : Nat := 0
  arrivals : List ArriveS := []
  /-- R189: ACLK cycles of its last arrivals at the group and device barriers. -/
  groupAt : Option Nat := none
  devAt : Option Nat := none
  /-- R249: shape words written, each with the ACLK cycle of the write and the value before that cycle. -/
  shapeOld : Tab (Option (Nat × Nat)) := []
  /-- R260: ACLK cycle of the last renewal of its leases. -/
  renewAt : Nat := 0
  /-- R269: the 16 DMA queues, oldest transfer first. -/
  dmaq : Tab (List Xfer) := []
  /-- R291: transfers of emptied queues with rows issued and not delivered: (queue, transfer). -/
  flying : List (Nat × Xfer) := []
  /-- R280: slots of each queue given back ahead of the delivery of their rows. -/
  returned : Tab Nat := []
  /-- R283: greatest count awaited on each queue since the binding. -/
  awaited : Tab Nat := []
  /-- R282: tokens in sixteenths of a byte, and the ACLK cycle they were counted at. -/
  tau : Nat := 1048576
  tauAt : Nat := 0
  /-- R401: duty credit in 1/256 cycle, and the ACLK cycle it was counted at. -/
  duty : Int := 0
  dutyAt : Nat := 0
  /-- R230: counts of the stripe in progress, by record. -/
  counts : Tab RecCnt := []
  /-- R240: ranges of the stripe in progress, keyed 1,024 · record + entry: least x, greatest x, produced, clipped. -/
  ranges : List (Nat × (Int × Int × Nat × Nat)) := []
  /-- R171, R258: the stripe bound to the core. -/
  bound : Option BoundS := none
  /-- R137: the developed plane of the bound stripe, on a group's first core, as the develop unit delivered it. -/
  plane : List (List Nat) := []
  /-- R259, R260: shares drawn since the last reset: (counter, cam, seq, stripe). -/
  drawn : List (Nat × Nat × Nat × Nat) := []
  /-- R192: posted receives and the sends that have not completed. -/
  recvs : List RecvS := []
  sends : List SendS := []
  /-- R378. -/
  user : UserS := {}
  /-- R168: handles of the models whose programs are resident. -/
  resident : List Nat := []
  /-- R197: firmware restores the core; R441: for this command. -/
  restoring : Bool := false
  /-- R180: ACLK cycle at which the clear of a core in reset, or that for a new user, ends. -/
  clearAt : Option Nat := none
  userClear : Option Nat := none
  resetBy : Option CmdRef := none
  /-- R198: a transient fault left the bound stripe to be run once more. -/
  rerun : Option BoundS := none
  /-- R196: the camera for which context 6 last worked. -/
  sixCam : Option Nat := none
  /-- R333: ACLK cycle, from the core's reset, at which the present 10 ms window began. -/
  window : Nat := 0
deriving DecidableEq, Repr, Inhabited

/-- A work share (R258, R259). -/
structure Share where
  cam : Nat
  seq : Nat
  stripe : Nat
  idx : Nat
  gen : Nat
  deadline : Nat
  inl : Bool
  /-- R198, R263: transient faults so far. -/
  faults : Nat := 0
  /-- Drawn by this core, with the device time at which its lease expires. -/
  held : Option (Nat × Nat) := none
  /-- R324: a training stripe. -/
  training : Bool := false
deriving DecidableEq, Repr, Inhabited

/-- A barrier object (R187). -/
structure BarS where
  phase : Nat := 0
  count : Nat := 0
  expected : Nat := 1
deriving DecidableEq, Repr, Inhabited

/-- A work counter beyond its registers, with the stage it serves (R258, R267). -/
structure CounterS where
  /-- The model whose stage it serves. -/
  handle : Nat := 0
  /-- Cores that own the stage. -/
  cores : List Nat := []
  /-- R171: contexts that the stage program names. -/
  ctxs : Nat := 1
  /-- Instruction indices at which the stage program begins and ends. -/
  entry : Nat := 0
  stop : Nat := 4096
  /-- R137, R143: scratchpad addresses of the developed plane it reads, and of what it leaves for print or output. -/
  plane : Nat := 0
  out : Nat := 0
  /-- Position of the stage in the graph, from 0. -/
  stage : Nat := 0
  /-- R145: the temporal stage; R143: the final image stage; the source of the machine-vision encoder. -/
  temporal : Bool := false
  final : Bool := false
  encoder : Bool := false
  /-- Counters of the stages whose output this stage reads. -/
  inputs : List Nat := []
  /-- R267: hand-off slots of its output; 0 where it has no consumer. -/
  slots : Nat := 0
  /-- Shares queued or held, in the order of R85 among those queued. -/
  shares : List Share := []
  /-- Stripes committed: (cam, seq, stripe), the latest first. -/
  done : List (Nat × Nat × Nat) := []
  /-- R261: generations above 0, by index. -/
  gens : Tab Nat := []
  /-- R259: ACLK cycle of the last draw. -/
  drawAt : Option Nat := none
deriving DecidableEq, Repr, Inhabited

/-! ### Hold cache and DDR5 (chapter 12) -/

/-- A hold-cache line (R295 to R302). -/
structure HLine where
  /-- Line address. -/
  line : Nat
  way : Nat
  dirty : Bool
  poison : Bool
deriving DecidableEq, Repr, Inhabited

/-- R284, R298, R299: on whose behalf an access reaches the hold cache: the agent of its way mask, its flag no_alloc, its key,
its core, and whether the key is a stripe's deadline. -/
structure MemWho where
  agent : Nat := 0
  noAlloc : Bool := false
  key : Int := 0
  core : Nat := 0
  stripe : Bool := false
deriving DecidableEq, Repr, Inhabited

/-- A request in a channel controller's window (R284, R305). -/
structure MemReq where
  line : Nat
  write : Bool
  key : Int
  /-- Device time at which it reached the window. -/
  at_ : Nat
  core : Nat
  noAlloc : Bool
  /-- R312: re-reads made. -/
  rereads : Nat := 0
  /-- R311: the request belongs to a sweep. -/
  sweep : Bool := false
  /-- R298: the read of a partial write that allocates no line: its block is merged and written. -/
  merge : Bool := false
  /-- R284: its key is a stripe's deadline, and moves with it. -/
  stripe : Bool := false
  /-- R313: the write of a poisoned line. -/
  poison : Bool := false
  /-- R297, R313: of a read: since it was made its line has been written in full, or DDR5 has been written with it. -/
  superseded : Bool := false
  old : Bool := false
deriving DecidableEq, Repr, Inhabited

/-- The hold cache and the channel controllers. -/
structure HoldS where
  /-- R295: the lines held. -/
  lines : List HLine := []
  /-- R299: tree pseudo-LRU bits of each set, keyed 2,048 · slice + set. -/
  plru : Tab Nat := []
  /-- R297, R298: of a line that memory has newer than DDR5, the bytes that are newer, as a mask of 64. -/
  fresh : Tab Nat := []
  /-- R302, R313: poisoned lines of the control region, by 2,048 · slice + set. -/
  control : List Nat := []
  /-- R300: base of each pinned region, in 2 MiB units. -/
  pinBase : Tab Nat := []
  /-- R313: blocks that DDR5 holds as stored poison. -/
  stored : List Nat := []
  /-- R313: blocks whose last no_alloc read was delivered as poisoned. -/
  poisonRead : List Nat := []
  /-- R305: requests waiting in each channel's window, oldest first. -/
  window : Tab (List MemReq) := []
  /-- R312: reads served whose data has not returned, oldest first. -/
  inFlight : Tab (List MemReq) := []
  /-- R307, R311: writes of each region at initialisation, on which every version counter stands. -/
  initWrites : Nat := 0
  /-- R311: version counter R of each 2 MiB region, counted from there. -/
  version : Tab Nat := []
  /-- R311: blocks of each swept region still to be rewritten. -/
  sweeps : Tab Nat := []
  /-- R309: keys Ke and Ki. -/
  ke : Nat := 0
  ki : Nat := 0
  /-- R306: TCLK cycle from which each bank is due for refresh, keyed 256 · channel + bank, and the bank each channel refreshes
  next. -/
  refreshAt : Tab Nat := []
  bank : Tab Nat := []
deriving DecidableEq, Repr, Inhabited


/-! ### Retouch (chapter 13), models and security (chapters 14 and 15), start-up and update (chapters 18 and 19) -/

/-- A training pair (R321, R322, R324). -/
structure PairS where
  seq : Nat := 0
  stripe : Nat := 0
  col0 : Nat := 0
  reverse : Bool := false
  /-- Head input in INT8, and targets: U16 values of the three planes. -/
  input : List Byte := []
  target : List Nat := []
deriving DecidableEq, Repr, Inhabited

/-- A candidate head set (R328, R329). -/
structure CandS where
  /-- The bytes of its head slot (R318). -/
  slot : List Byte := []
  /-- Its masters. -/
  weights : List Nat := []
  /-- Drift d, as FP32 bits. -/
  drift : Nat := 0
  /-- The losses of the gate, FP32 bits, once decided. -/
  lk : Nat := 0
  lc : Nat := 0
  accepted : Bool := false
deriving DecidableEq, Repr, Inhabited

/-- Retouch on a camera, beyond its registers (R319 to R336). -/
structure AdaptS where
  /-- R319: device address of the work area. -/
  area : Option Nat := none
  /-- R319: the FP32 masters, momentum and snapshot, as bits, in the order of the head descriptor. -/
  masters : List Nat := []
  mom : List Nat := []
  snapshot : List Nat := []
  /-- R334: pause causes that hold, by code − 1. -/
  causes : Nat := 0
  /-- Queued pairs and gate pairs, oldest first, at most four each. -/
  pairs : List PairS := []
  gate : List PairS := []
  /-- R328: steps since the last candidate. -/
  steps : Nat := 0
  /-- R328: the candidate. -/
  cand : Option CandS := none
  /-- R335: swaps accepted so far. -/
  swaps : Nat := 0
  /-- R318: head slots A and B, and the SM3 digests of base, A and B. -/
  slotA : List Byte := []
  slotB : List Byte := []
  digests : Tab (List Byte) := []
  /-- R324: device addresses of the reference pictures, with exposure scale and seed; pairs made from them. -/
  refs : List (Nat × Nat × Nat) := []
  reversePairs : Nat := 0
  /-- R324: a reverse pair that waits for its training stripe, and the counters of the stages that the stripe has been through. -/
  building : Option PairS := none
  trained : List Nat := []
  /-- R321: the drawn frame from which a pair was last made or discarded. -/
  lastPair : Option Nat := none
  /-- R332: measurement of the graph bound when Retouch last ran. -/
  meas : List Byte := []
  /-- R325: rows of raw codes that the reverse pipeline packed, as (input row, bytes). -/
  codes : List (Nat × List Byte) := []
deriving DecidableEq, Repr, Inhabited

/-- A loaded model (R375, R376). -/
structure ModelS where
  /-- Holding function: 0 owner, k + 1 tenant Tk. -/
  fn : Nat
  /-- First core of its stage group, and its cores. -/
  first : Nat
  cores : Nat
  encrypted : Bool
  meas : List Byte
  img : ModelImg
  /-- R376: sealed pages: (device address, bytes). -/
  sealed_ : List (Nat × Nat)
  /-- R300: pinned regions it uses. -/
  pins : List Nat
  /-- Work counters it uses, in its group. -/
  counters : List Nat
  /-- R336: digest of its base set. -/
  headMeas : List Byte := []
deriving DecidableEq, Repr, Inhabited

/-- Calibration capture on a camera (R240, R241). -/
structure CaptureS where
  cmd : CmdRef := {}
  /-- Frames still to take a number; frames captured whose record is not written. -/
  left : Nat := 0
  frames : List Nat := []
  addr : Nat := 0
  bytes : Nat := 0
  /-- Bytes and records written; a frame was cut. -/
  used : Nat := 0
  records : Nat := 0
  cut : Bool := false
deriving DecidableEq, Repr, Inhabited

/-- A key slot of the security engine (R374). -/
structure KeyS where
  key : List Byte
  meas : List Byte
  id : Nat
deriving DecidableEq, Repr, Inhabited

/-- An image in the flash or staged (R365, R368): its measurement, security version and commit flag, and the memory
record it carries (R468). -/
structure ImageS where
  meas : List Byte := []
  svn : Nat := 0
  commit : Bool := false
  record : List Byte := []
deriving DecidableEq, Repr, Inhabited

/-- A tenant scrub in progress (R383). -/
structure ScrubS where
  /-- TENANT_KILL and UNIT_RESET commands that wait for it. -/
  waiters : List CmdRef := []
  /-- R443: the tenant becomes ACTIVE at the end. -/
  reset : Bool := false
  /-- Cores whose scratchpads are cleared in it, and the on-chip phase is over. -/
  cores : List Nat := []
  onchip : Bool := false
  /-- Ranges of its grants at the stop phase, as (base, count) in 2 MiB units. -/
  ranges : List (Nat × Nat) := []
  /-- R383: TCLK count at the end of the stop phase. -/
  since : Nat := 0
  /-- R386: bytes still to be written in its memory phase. -/
  left : Nat := 0
deriving DecidableEq, Repr, Inhabited

/-- A snuffer clear of device memory that a command or camera waits for (R382): the range, and the command. -/
structure ClearS where
  addr : Nat
  bytes : Nat
  cmd : Option CmdRef
  /-- R355: pages to map in their place once clear: function, virtual address, physical addresses of the new pages. -/
  remap : List (Nat × Page) := []
  /-- Result word and status of the reply. -/
  q0 : Nat := 0
  status : Nat := 0
  /-- R319: the memory is a work area. -/
  work : Bool := false
  /-- R386: the function whose memory it is, and the bytes still to be written. -/
  fn : Nat := 0
  left : Nat := 0
deriving DecidableEq, Repr, Inhabited

/-- The snuffer's progress through device memory (R385, R386). -/
structure SnufS where
  /-- TCLK count up to which the progress is worked out. -/
  at_ : Nat := 0
  /-- Bytes written of the unit in progress. -/
  done : Nat := 0
  /-- R386: the rate in force for that unit, in bytes per ns. -/
  rate : Nat := 32
  /-- R385: whose unit it is: 0 the clears that commands and cameras wait for, k + 1 the scrub of tenant k. -/
  turn : Nat := 0
deriving DecidableEq, Repr, Inhabited

/-- The security engine and the snuffer (chapter 15). -/
structure SecS where
  /-- R373: pending ephemeral keys by function: (device time made, key). -/
  eph : Tab (Option (Nat × Nat)) := []
  /-- R374: key slots 8·f + i. -/
  keys : Tab (Option KeyS) := []
  /-- R366, R381: firmware's copy of the measurements, by m. -/
  meas : Tab (List Byte) := []
  /-- R370: the engine has been reset since the issuer's last report. -/
  recovered : List Nat := []
  /-- R381: device time at which the engine's reset ends at the latest. -/
  resetEnd : Nat := 0
  /-- R381: MODEL_LOAD commands that wait for the engine. -/
  waiting : List CmdRef := []
  /-- R364, R368: fused minimum security version. -/
  svnMin : Nat := 0
  /-- R368: the staged image. -/
  staged : Option ImageS := none
  /-- R365: the image that runs. -/
  running : ImageS := {}
  /-- R383: scrubs, by tenant k. -/
  scrubs : Tab (Option ScrubS) := []
  /-- R382: clears in progress, oldest first. -/
  clears : List ClearS := []
  /-- R386: how far they have come. -/
  snuf : SnufS := {}
deriving DecidableEq, Repr, Inhabited

/-- A firmware switch (R444 to R448). -/
structure SwitchS where
  cmd : CmdRef := {}
  /-- It has begun, at this device time. -/
  began : Option Nat := none
  /-- Parts that have reloaded: CP3, CP2, CP1, CP0, Safelight. -/
  done : Nat := 0
  /-- Device time at which the part in turn began to reload. -/
  since : Nat := 0
deriving DecidableEq, Repr, Inhabited

/-- Start-up, flash and pins (chapter 19). -/
structure BootS where
  /-- R469: start-up is in progress. -/
  starting : Bool := false
  /-- R455, R462: levels of PORST# and PERST# (true: deasserted). -/
  porst : Bool := false
  perst : Bool := false
  /-- R409, R462: CHAIN_POS as sampled. -/
  pos : Nat := 0
  /-- R466, R467: images of slots A and B, the active slot. -/
  slots : Tab (Option ImageS) := []
  active : Nat := 0
  /-- R467: the valid directory copy in force, and its sequence number. -/
  dirCopy : Nat := 0
  dirSeq : Nat := 0
  /-- R471: device time at which the image was accepted. -/
  acceptedAt : Nat := 0
  /-- R468: the memory record in force. -/
  record : List Byte := []
  /-- R456: the TAP's instruction: 0 none or reset, else 1 BYPASS, 2 IDCODE, 3 SAMPLE/PRELOAD, 4 EXTEST, 5 EXTEST_PULSE,
  6 EXTEST_TRAIN; and the boundary cells preloaded. -/
  tap : Nat := 0
  cells : List Bool := []
  /-- R439: the unit reset in progress: (scope, index, command, device time it began). -/
  unit : Option (Nat × Nat × CmdRef × Nat) := none
  /-- R444: a firmware switch. -/
  sw : Option SwitchS := none
  /-- R352: the firmware pool, (base, count) in 2 MiB units. -/
  pool : Option (Nat × Nat) := none
  /-- R352: loaded models by handle. -/
  models : Tab (Option ModelS) := []
deriving DecidableEq, Repr, Inhabited

/-! ### Time (chapter 04) -/

/-- A schedule beyond its registers (R103, R415). -/
structure SchedS where
  /-- R103: index of the next tick. -/
  next : Nat := 0
  /-- R103: index k0 of the first tick used since the enable. -/
  first : Nat := 0
  /-- R415: a distributed schedule waits for its apply time: (apply time, base, period); period 0 ends it. -/
  apply : Option (Nat × Nat × Nat) := none
deriving DecidableEq, Repr, Inhabited

/-- A SYNC_OUT output beyond its registers (R111). -/
structure SyncOutS where
  /-- R111: index j of the next edge. -/
  next : Nat := 0
  /-- R111: level driven on the pin; low after reset (R455). -/
  level : Bool := false
  /-- R111: the pulse of an edge has not ended. -/
  pulse : Bool := false
  /-- R111: device time at which the pulse ends. -/
  fallAt : Nat := 0
deriving DecidableEq, Repr, Inhabited

/-- Device time and Wick (R91 to R112). -/
structure TimeS where
  /-- R91: device time in ns, 64 bits; 0 when TCLK first locks. -/
  now : Nat := 0
  /-- R91: the 32 fraction bits of the rate adjustment. -/
  frac : Nat := 0
  /-- R91: TCLK cycles counted; the other clocks are counted from it. -/
  tclk : Nat := 0
  /-- R9: the W1C registers as they stood when the present CCLK cycle began. -/
  w1c : List ((RegName × Nat) × Word) := []
  /-- R91: TCLK has locked, so device time runs. -/
  running : Bool := false
  /-- R96: held rate f in ppb; 0 at power-on reset. -/
  heldF : Int := 0
  /-- R96: TCLK count at which a −500 ppm slew has corrected e. -/
  slewEnd : Option Nat := none
  /-- R96: a good measurement has been taken since source_in_force last changed from FREE. -/
  firstDone : Bool := false
  /-- R93: consecutive measurements within the lock window. -/
  goodRun : Nat := 0
  /-- R93: consecutive failed measurements. -/
  failRun : Nat := 0
  /-- R95: device time at which the PTM dialogue in progress began. -/
  ptm : Option Nat := none
  /-- R95: enable of the PTM Control register. -/
  ptmOn : Bool := false
  /-- R95: device time at which the next PTM dialogue starts. -/
  ptmNext : Nat := 0
  /-- R93, R97: receipt stamp of the last valid sync symbol on CHU, or of the last miss. -/
  lastSym : Nat := 0
  /-- R98: own sync symbols go out in HOLDOVER, up to the first valid symbol on CHU. -/
  ownSym : Bool := false
  /-- R97: the next multiple of 1,024 ns at which an own sync symbol is due. -/
  emitNext : Nat := 0
  /-- R110: the TIME_SNAP queue, oldest first, at most 16. -/
  snaps : List Nat := []
  /-- R101: the last forward step (t0, t0 + D], whose launches and edges are cancelled. -/
  jump : Option (Nat × Nat) := none
  /-- R110: device time of the last TIME_SNAP edge. -/
  lastEdge : Option Nat := none
  /-- R103: schedules 0 to 31. -/
  sched : Tab SchedS := []
  /-- R111: SYNC_OUT[3:0]. -/
  outs : Tab SyncOutS := []
deriving DecidableEq, Repr, Inhabited

/-! ### Links (chapters 02 and 17): ports 0 to 15 are IXL0 to IXL15, 16 is CHU, 17 is CHD -/

/-- On whose behalf a tunnelled transaction runs (R58, R115, R117, R352). -/
inductive TunnelFor
  /-- R115: a settings write of the commit of this camera. -/
  | commit (cam : Nat)
  /-- R117: a settings write of this camera's stream start. -/
  | start (cam : Nat)
  /-- R352: a SENSOR_XFER command. -/
  | xfer (c : CmdRef)
  /-- R416: a position that serves the forwarded port, and its tag. -/
  | remote (pos tag : Nat)
  /-- R58: any other use by firmware. -/
  | firmware
deriving DecidableEq, Repr

/-- A tunnelled transaction request (R56). -/
structure TunnelReq where
  /-- Sensor slot. -/
  slot : Nat := 0
  /-- 0 I²C, 1 I3C SDR. -/
  bus : Nat := 0
  combined : Nat := 0
  addr : Nat := 0
  ccc : Nat := 0
  wdata : List Byte := []
  rlen : Nat := 0
deriving DecidableEq, Repr, Inhabited

/-- A tunnelled transaction, outstanding or held (R57, R58). -/
structure Tunnel where
  tag : Nat
  req : TunnelReq
  /-- R57: device time at which it began; the 5 ms run from it. -/
  began : Nat
  who : TunnelFor
deriving DecidableEq, Repr

/-- The receiver waits for packet q with replay = 1 (R52, R53). -/
structure ReplayS where
  q : Nat
  /-- Cause code of the NAK (R54). -/
  cause : Nat
  /-- Attempt number of the last NAK, 0 to 3. -/
  attempt : Nat
  /-- Device time at which the replay timer expires; none once a REPLAY_GONE cleared it. -/
  deadline : Option Nat
deriving DecidableEq, Repr

/-- A backchannel block waiting for its slot (R54). -/
structure TxBlock where
  prio : Nat
  typ : Nat
  payload : Nat
deriving DecidableEq, Repr

/-- The transmit side of a port (R54). -/
structure TxS where
  /-- R54: blocks waiting, in the order queued. -/
  queue : List TxBlock := []
  /-- R54: blocks sent since the last SKIP. -/
  sinceSkip : Nat := 0
  /-- R31: hundredths of a ns of the block slot in progress. -/
  phase : Nat := 0
deriving DecidableEq, Repr, Inhabited

/-- A link port beyond its registers. -/
structure PortS where
  /-- R34: attempt number within the present bring-up; 0 before the first. -/
  attempt : Nat := 0
  /-- R37: IXL_PORT_CFG.rate as the present bring-up found it. -/
  rateCfg : Nat := 0
  /-- R34: the port is in the 1 ms wait after a failed attempt. -/
  waiting : Bool := false
  /-- R34: device time at which the present state or wait began. -/
  since : Nat := 0
  /-- R33: block lock held. -/
  locked : Bool := false
  /-- R41, R42: pseq expected next. -/
  expect : Nat := 0
  /-- R52: the replay wait, if any. -/
  replay : Option ReplayS := none
  /-- R51: pseq of the last packet accepted in order. -/
  lastAcc : Nat := 0
  /-- R51: packets accepted since the last ACK. -/
  accSince : Nat := 0
  /-- R51: device time of the first packet accepted since the last ACK. -/
  ackFrom : Nat := 0
  /-- R49: cumulative credits granted, modulo 65,536; 256 after a CAPS exchange. -/
  cumCredit : Nat := 256
  /-- R50: credits freed since the last CREDIT block. -/
  freed : Nat := 0
  /-- R50: device time at which the first of them was freed. -/
  freedFrom : Nat := 0
  /-- R49, R50: credits granted to the hub that it has not yet spent; negative where it has overspent them. -/
  hubCredit : Int := 256
  /-- R55: trig_seq of the next TRIGGER block. -/
  trigSeq : Nat := 0
  /-- R58: outstanding transactions, oldest first, at most 16. -/
  tunnels : List Tunnel := []
  /-- R58: requests held until one completes, oldest first. -/
  held : List Tunnel := []
  /-- R58: the tag the device tries next. -/
  nextTag : Nat := 0
  /-- R440: the UNIT_RESET that waits for ACTIVE or FAULT. -/
  resetBy : Option CmdRef := none
deriving DecidableEq, Repr, Inhabited

/-! ### Cameras and frames (chapters 03, 05, 06) -/

/-- A settings set: the words of CAM_EXPO_NEXT0 to 2 (R114). -/
structure ExpoSet where
  e0 : Nat := 0x04002710
  e1 : Nat := 0x04002710
  e2 : Nat := 0x04002710
  /-- R119: staged by the exposure loop. -/
  byLoop : Bool := false
deriving DecidableEq, Repr, Inhabited

/-- A commit whose transactions are outstanding (R115, R116). -/
structure Commit where
  /-- Sequence number of the commit point's frame. -/
  s : Nat
  /-- Target frame f = s + d. -/
  f : Nat
  /-- Commit deadline. -/
  deadline : Nat
  /-- R101: the deadline is a schedule instant less guard_us, which a step leaves in place. -/
  fromSched : Bool
  /-- Transactions without a response. -/
  left : Nat
  /-- Worst tunnel status so far. -/
  worst : Nat
  /-- The limited set sent. -/
  set : ExpoSet
  /-- The set as it was staged. -/
  orig : ExpoSet
deriving DecidableEq, Repr

/-- From frame `frm` on, the set of the commit at frame `commitSeq` is bound (R115). -/
structure Bind where
  frm : Nat
  set : ExpoSet
  /-- 0xFFFF_FFFF for the start set. -/
  commitSeq : Nat
deriving DecidableEq, Repr

/-- An EXPOSE trigger whose launch time has been computed (R105). -/
structure Launch where
  /-- Launch time L. -/
  l : Nat
  /-- Schedule instant S. -/
  s : Nat
deriving DecidableEq, Repr

/-- A launched EXPOSE trigger not yet answered (R78). -/
structure Trig where
  /-- trig_seq of its block. -/
  seq : Nat
  /-- Start deadline: S plus the start timeout. -/
  deadline : Nat
deriving DecidableEq, Repr

/-- A stop in progress (R164). -/
structure StopS where
  /-- P: device time of the first stop. -/
  p : Nat := 0
  /-- Abort rules apply. -/
  abort : Bool := false
  /-- The STREAM_STOP commands accepted for it, each with its acceptance time. -/
  waiters : List (CmdRef × Nat) := []
  /-- R357: reason of the STREAM_ENDED event; 0 for none. -/
  reason : Nat := 0
  /-- R188: cores that have arrived in the group barrier's phase with no more work of the stream; and the barrier has
  advanced with them. -/
  arrived : List Nat := []
  closed : Bool := false
deriving DecidableEq, Repr, Inhabited

/-- A start in progress (R163). -/
structure StartS where
  /-- The STREAM_START command. -/
  cmd : CmdRef := {}
  /-- Settings transactions of R117 without a response. -/
  left : Nat := 0
  /-- Worst tunnel status so far. -/
  worst : Nat := 0
deriving DecidableEq, Repr, Inhabited

/-- A privacy zone (R393). -/
structure Zone where
  /-- Its four vertices (x, y). -/
  v : List (Nat × Nat) := []
  act : Nat := 0
  cell : Nat := 0
deriving DecidableEq, Repr, Inhabited

/-- A camera's entry of the policy table (R392). -/
structure CamPolicy where
  /-- Its zones. -/
  zones : List Zone := []
  /-- Actions outside every zone, coded as a zone's act byte. -/
  outside : Nat := 0
  /-- Cell size of the outside action. -/
  cell : Nat := 0
deriving DecidableEq, Repr, Inhabited

/-- An output row issued with BARRIER whose completion has not returned (R161). -/
structure RowOut where
  /-- 0 display, 1 coding, 2 machine vision. -/
  out : Nat
  row : Nat
  /-- Pool bytes held. -/
  bytes : Nat
  /-- The row's bound of R87. -/
  bound : Nat
  /-- The row is the output's last. -/
  last : Bool
deriving DecidableEq, Repr

/-- Statistics of one exposure of one open frame (R121). -/
structure StatS where
  /-- R121: counts keyed by 256·c + bin. -/
  hist : Tab Nat := []
  /-- R121: sums keyed by 4·(16·j + k) + c. -/
  sum : Tab Nat := []
  /-- R121: pixels counted, under the same key. -/
  cnt : Tab Nat := []
  /-- R121: pixels clipped, keyed by c. -/
  clip : Tab Nat := []
deriving DecidableEq, Repr, Inhabited

/-- A frame: its ledger entry (R75), its settings record (R119), what was bound to it, and its progress. -/
structure FrameS where
  /-- R86: frame mark word. -/
  mark : Nat := 0
  /-- R74: sequence number. -/
  seq : Nat := 0
  /-- R75: arrival stamp of the first row. -/
  tFirst : Nat := 0
  /-- R75: arrival stamp of the last row. -/
  tLast : Nat := 0
  /-- R75: frame_seq of the FRAME_START. -/
  sensorSeq : Nat := 0
  /-- R75: rows received or filled. -/
  rows : Nat := 0
  /-- R76: entry state: 0 FREE, 1 OPEN, 2 CLOSED, 3 DONE, 4 MISSED, 5 DROPPED. -/
  st : Nat := 0
  /-- R75: negative slot, 0xFF for none. -/
  negSlot : Nat := 255
  /-- R75: output slot, 0xFF for none. -/
  outSlot : Nat := 255
  /-- R119: settings bound to the frame. -/
  set : ExpoSet := {}
  /-- R119: sequence number of the commit bound. -/
  commitSeq : Nat := 0
  /-- R119, R128: white-balance gains bound. -/
  wb : Nat := 0
  /-- R119: trig_seq of the frame's trigger. -/
  trigSeq : Nat := 0
  /-- R119: uncertain flag. -/
  uncertain : Bool := false
  /-- R119: mismatch flag. -/
  mismatch : Bool := false
  /-- R119: unverified flag. -/
  unverified : Bool := false
  /-- R67: arrival stamp of the FRAME_START. -/
  startStamp : Nat := 0
  /-- R67: device time at which the close timeout expires. -/
  closeAt : Nat := 0
  /-- R71: the frame's rows go to the line buffer. -/
  inlinePath : Bool := false
  /-- R136: parameter block copy bound. -/
  ppb : Nat := 0
  /-- R330: head set bound: 0 base, 1 slot A, 2 slot B. -/
  head : Nat := 0
  /-- R395: policy entry bound. -/
  pol : CamPolicy := {}
  /-- R402, R160: outputs the governor sheds: bit 0 display, bit 1 coding. -/
  govShed : Nat := 0
  /-- R123: clip level in force when the frame opened. -/
  clipLevel : Nat := 0
  /-- R83: arrival stamps of the rows, as deadlines count from them (R101 moves these). -/
  stamps : List Nat := []
  /-- R122: rows counted by the statistics. -/
  counted : Nat := 0
  /-- R121: statistics per exposure. -/
  stats : Tab StatS := []
  /-- R120: embedded lines received, oldest first. -/
  embed : List (List Byte) := []
  /-- R43, R80: the row being received: its index and bytes so far. -/
  cur : Option (Nat × List Byte) := none
  /-- R81: bytes of the last row received, for fills. -/
  lastRow : Option (List Byte) := none
  /-- R258: stripes queued so far on the first stage. -/
  queued : Nat := 0
  /-- R83, R85: stripes whose first stage has completed. -/
  firstDone : Nat := 0
  /-- R145: stripes whose temporal stage has completed. -/
  tsDone : List Nat := []
  /-- R145: the frame was counted in CAM_CNT_TSTATE_RESET. -/
  tsReset : Bool := false
  /-- R148, R152: rows of each output written so far, keyed as RowOut.out. -/
  written : Tab Nat := []
  /-- R152: shed bits. -/
  shed : Nat := 0
  /-- R161: nanoseconds the frame has waited for pool space. -/
  poolWait : Nat := 0
  /-- R161: device time at which the present wait for pool space began. -/
  waitFrom : Option Nat := none
  /-- R161: outputs (0 display, 1 coding) whose next row waits for pool space. -/
  waits : List Nat := []
  /-- R71: stripes below this one started before the frame was diverted, and keep their inline path. -/
  inlineTo : Nat := 0
  /-- R161: rows issued, completion outstanding. -/
  rowsOut : List RowOut := []
  /-- R156: no output slot was free; the outputs are discarded. -/
  noSlot : Bool := false
  /-- R153: the slot header has been issued. -/
  hdr : Bool := false
  /-- R400: a beat of the frame was blanked by PRIV_HOLD. -/
  holdHit : Bool := false
  /-- R146, R147, R398: tone rows (R, G, B of each pixel) printed so far, from which the scalers and the cells' samples
  are taken. -/
  tone : List (List (Nat × Nat × Nat)) := []
  /-- R143: stripes of the final image, and rows of the machine-vision encoder, that wait for the print stage and the output
  writer. -/
  image : Tab (List (List (Nat × Nat × Nat))) := []
  enc : Tab (List Byte) := []
  /-- R150: print-stage input rows so far. -/
  lin : List (List (Nat × Nat × Nat)) := []
  /-- R232: totals of each layer record, keyed 256 · core + record. -/
  totals : Tab RecCnt := []
  /-- R240: captured ranges, keyed 1,024 · (256 · core + record) + entry. -/
  ranges : List (Nat × (Int × Int × Nat × Nat)) := []
  /-- R240: the frame is captured. -/
  captured : Bool := false
deriving DecidableEq, Repr, Inhabited


/-- A camera beyond its registers. -/
structure CamS where
  /-- R114: the staged set awaiting a commit point. -/
  staged : Option ExpoSet := none
  /-- R115: stamp at which it was staged. -/
  stagedAt : Nat := 0
  /-- R113: bits of CAM_EXPO_CFG in force since the last commit point or start; none while the stream is stopped. -/
  enForce : Option Nat := none
  /-- R115: the commit whose transactions are outstanding. -/
  commit : Option Commit := none
  /-- R115: bindings, latest first. -/
  binds : List Bind := []
  /-- R116: frames from a target (to a later target, once known) are uncertain; latest first. -/
  uncertain : List (Nat × Option Nat) := []
  /-- R105: computed launches not yet sent, oldest first. -/
  launches : List Launch := []
  /-- R418: requested from the source of the forward, oldest first, and not yet reported. -/
  asked : List Launch := []
  /-- R78: triggers launched and not answered, oldest first. -/
  expect : List Trig := []
  /-- R79: trig_seq values recorded as missed. -/
  missed : List Nat := []
  /-- R78: start deadline of a free-running camera. -/
  freeRun : Option Nat := none
  /-- R76, R79, R80: packets of the slot are discarded up to the next FRAME_START. -/
  discard : Bool := false
  /-- R76: sequence number of the frame in state OPEN. -/
  openSeq : Option Nat := none
  /-- R163: the start in progress. -/
  start : Option StartS := none
  /-- R164: the stop in progress. -/
  stop : Option StopS := none
  /-- R115: bytes of the sensor profile loaded. -/
  profile : Option (List Byte) := none
  /-- R142: handle of the graph bound. -/
  model : Option Nat := none
  /-- R352: holder, 0 the owner, k + 1 tenant Tk. -/
  holder : Nat := 0
  /-- R354, R479: ranges of the holder's HOST space locked until the stream next stops: (address, bytes). -/
  locks : List (Nat × Nat) := []
  /-- R330: head set in use: 0 base, 1 slot A, 2 slot B. -/
  headNow : Nat := 0
  /-- R330: head set that takes effect at the next frame. -/
  headStaged : Option Nat := none
  /-- R331: head set bound to the last frame that opened. -/
  headOpen : Nat := 0
  /-- R26: overlap slot held, and the frame, the stripe and the raw rows, by index, that are in it. -/
  ovlSlot : Option Nat := none
  ovl : Option (Nat × Nat × List (Nat × List Byte)) := none
  /-- R125, R130: the frame on which the exposure loop may next step. -/
  aeDue : Option Nat := none
  /-- R129: the frame on which the white-balance loop may next step. -/
  awbDue : Option Nat := none
  /-- R240: calibration capture. -/
  capture : Option CaptureS := none
deriving DecidableEq, Repr, Inhabited

/-! ### Errors and observation (chapter 18) -/

/-- An error log entry (R429). -/
structure ErrEntry where
  num : Nat := 0
  cls : Nat := 0
  /-- Bit 0 FATAL, bit 1 COUNTER. -/
  flags : Nat := 0
  src : Nat := 0
  tFirst : Nat := 0
  span : Nat := 0
  count : Nat := 1
  code : Nat := 0
  info : Nat := 0xFFFFFFFF
deriving DecidableEq, Repr, Inhabited

/-- A contact sheet event (R451). -/
structure TraceEv where
  t : Nat
  typ : Nat
  src : Nat
  arg : Nat
deriving DecidableEq, Repr

/-- The error log, contact sheet and counters. -/
structure LogS where
  /-- R429: ring entries, newest first, at most 1,024. -/
  ring : List ErrEntry := []
  /-- R451: contact sheet events, newest first, at most 65,536. -/
  trace : List TraceEv := []
  /-- R453: OBS counters, 64 bits. -/
  obs : Tab Nat := []
  /-- R453: TCLK count at the last reset of the whole device; counter 1,667 is counted from it. -/
  obsFrom : Nat := 0
  /-- R435: device time of the last watchdog expiry of each control processor. -/
  wdt : Tab (Option Nat) := []
deriving DecidableEq, Repr, Inhabited

/-! ### Functions (chapter 14) -/

/-- A command queue beyond its registers (R346). -/
structure QueueS where
  /-- R346: command tail. -/
  tail : Nat := 0
  /-- R346: reply head. -/
  rhead : Nat := 0
  /-- R346: replies written and not consumed. -/
  unread : Nat := 0
  /-- R346: commands fetched and not started, oldest first. -/
  fetched : List Cmd := []
  /-- R347: commands started and not replied to, oldest first. -/
  started : List Cmd := []
  /-- R345: replies written since the last interrupt. -/
  unsig : Nat := 0
  /-- R345: device time of the first of them. -/
  unsigFrom : Nat := 0
deriving DecidableEq, Repr, Inhabited

/-- A PCIe function beyond its window's registers. -/
structure FnS where
  /-- R344: queues 0 to 3. -/
  queues : Tab QueueS := []
  /-- R347: the queue round robin takes next. -/
  rrQueue : Nat := 0
  /-- R341: Bus Master Enable of the function's PCI configuration. -/
  bme : Bool := false
  /-- R354: DEV pages. -/
  dev : List Page := []
  /-- R354: HOST pages. -/
  host : List Page := []
  /-- R352, R354: grants of device memory, (base, count) in 2 MiB units. -/
  grants : List (Nat × Nat) := []
  /-- R360: the message firmware holds from this function. -/
  fwMsg : Option (List Word) := none
  /-- R352: control-processor channel whose message waits for the receiver, newest last. -/
  fwOut : List (Nat × List Word) := []
deriving DecidableEq, Repr, Inhabited

/-! ### What the block sends -/

/-- What the block has sent to the outside: on the backchannels, over PCIe, on the chain, pins, SMBus and TAP. -/
inductive Out
  /-- R54: a block left on the backchannel of an IXL port, or R410: of a chain port. -/
  | block (port typ payload : Nat)
  /-- R54: n block slots of an IXL port's backchannel in which nothing was ready, each with an IDLE block (0x1E). -/
  | idle (port n : Nat)
  /-- R341: a memory write with the Requester ID of a function, at a host bus address. -/
  | hostWrite (fn addr : Nat) (bytes : List Byte)
  /-- R161: the zero-length read of a BARRIER, issued by a function. -/
  | barrier (fn : Nat)
  /-- R343: an MSI-X vector of a function raised. -/
  | msix (fn vector : Nat)
  /-- R341, R436: an error reported through AER on a function; fatal for an Uncorrectable Internal Error. -/
  | aer (fn : Nat) (fatal : Bool)
  /-- R412: a chain packet of a layout the spec gives, for a position (7 for every one with STATUS). -/
  | chainPkt (dst ctype flow info : Nat) (payload : List Byte)
  /-- R412, R417: an FWD_CTL packet. -/
  | chainCtl (dst port : Nat) (c : FwdCtl)
  /-- R412: an MSG packet; its payload is defined by the firmware image. -/
  | chainMsg (dst : Nat) (m : ChainMsg)
  /-- R423: a STATUS packet to every position: reach, time state, enrolment digest, policy seq. -/
  | chainStatus (reach timeState : Nat) (enrol : Option (List Byte)) (policySeq : Nat)
  /-- R411: a packet of position src that passes through this device on its way to a further one. -/
  | transit (src : Nat) (o : Out)
  /-- R410: a POS block on a chain port. -/
  | posBlock (port pos : Nat)
  /-- R413: a sync symbol on CHD: device time bits [63:10], holdover flag, accumulated delay in 1/16 ns, early in 125 ps, the
  sending position. -/
  | syncSymbol (time : Nat) (holdover : Bool) (acc early pos : Nat)
  /-- R414: DELAY_REQ on CHU, and DELAY_RESP on CHD with t3 − t2 in 1/16 ns. -/
  | delayReq
  | delayResp (t : Nat)
  /-- R111: a SYNC_OUT pin driven. -/
  | syncOut (i : Nat) (level : Bool)
  /-- R95: a PTM request. -/
  | ptmRequest
  /-- R309, R311: a block written to DDR5 on a channel: line address, 64 bytes of ciphertext, 16 of sideband. -/
  | ddrWrite (chan line : Nat) (cipher side : List Byte)
  /-- R306: a bank of a channel refreshed. -/
  | refresh (chan bank : Nat)
  /-- R459: an SMBus answer: bytes. -/
  | smbus (bytes : List Byte)
  /-- R456: what the TAP shifts out. -/
  | tapOut (bits : List Bool)
  /-- R456: the TAP drives the pins from the boundary cells: 4 EXTEST, 5 EXTEST_PULSE, 6 EXTEST_TRAIN. -/
  | tapDrive (mode : Nat) (cells : List Bool)
  /-- R470: a configuration request's completion; none: Configuration Request Retry Status. -/
  | config (data : Option Nat)
  /-- R458: the level driven on a GPIO pin; none: the device no longer drives it. -/
  | gpio (i : Nat) (level : Option Bool)
  /-- R404: THERM_TRIP# asserted. -/
  | thermTrip
  /-- R368, R445: the flash written: an image in a slot (0 A, 1 B), or the active mark. -/
  | flashImage (slot : Nat) (bytes : List Byte)
  | flashMark (copy : Nat) (bytes : List Byte)
  /-- R391: the enrolment fuses blown with a digest. -/
  | fuse (digest : List Byte)
  /-- R6: the value a register read returns to a function. -/
  | readData (fn : Nat) (value : Word)
deriving DecidableEq, Repr


/-! ### Stage groups (chapters 01, 03, 07, 10), keyed by their first core -/

/-- A row in the intake line buffer of a stage group (R70). -/
structure LineRow where
  seq : Nat
  row : Nat
  bytes : List Byte
  /-- R284: when the row arrived. -/
  at_ : Nat := 0
deriving DecidableEq, Repr

/-- A stage group beyond its registers. -/
structure GroupS where
  /-- R70: the camera bound inline. -/
  inlineCam : Option Nat := none
  /-- R70, R71: unconsumed rows of the line buffer, oldest first, at most 96. -/
  line : List LineRow := []
  /-- R26: the inline carry: (sequence number, next stripe). -/
  carryInline : Option (Nat × Nat) := none
  /-- R26: the 16 developed rows of the inline carry. -/
  carryRows : List (List Nat) := []
  /-- R26: those of the memory-path carry. -/
  carryMemRows : List (List Nat) := []
  /-- R26: the memory-path carry: (camera, sequence number, next stripe). -/
  carryMem : Option (Nat × Nat × Nat) := none
  /-- R258: work counters 0 to 31. -/
  counters : Tab CounterS := []
  /-- R187: stage barriers 0 to 63. -/
  bars : Tab BarS := []
  /-- R187: the group barrier: its phase, and the cores that have arrived in it. -/
  groupPhase : Nat := 0
  groupArrived : List Nat := []
  /-- R189: the cores that count in this phase. -/
  groupMembers : List Nat := []
  /-- R442: a stage-group reset runs, for this command. -/
  resetBy : Option CmdRef := none
deriving DecidableEq, Repr, Inhabited

/-! ### Safelight (chapter 16) -/

/-- Safelight beyond its registers. -/
structure SflS where
  /-- R391: SM3 digest of the enrolled privacy key, in the enrolment fuses. -/
  enrol : Option (List Byte) := none
  /-- R395, R396: the entry of a camera that the table does not list. -/
  base : CamPolicy := {}
  /-- R395: the policy table. -/
  table : Tab (Option CamPolicy) := []
  /-- R394: greatest seq accepted since Safelight last restarted. -/
  seqMax : Nat := 0
  /-- R390: why the output writers fail closed: 1 SCLK stopped, 2 VDD_SFL out of range, 3 watchdog expiry. -/
  failClosed : Option Nat := none
  /-- R400: level of PRIV_HOLD. -/
  hold : Bool := false
  /-- R400: device time of the last assertion. -/
  holdAt : Nat := 0
  /-- R400: device time of the last deassertion. -/
  freeAt : Nat := 0
  /-- R401: power samples in mW, newest first, at most 100. -/
  samples : List Nat := []
  /-- R453: energy sampled and not yet counted, in pJ. -/
  energy : Nat := 0
  /-- R403: device time of the last change of G. -/
  lastStep : Nat := 0
  /-- R403: device time since which every evaluation has found P_avg and Tj low. -/
  quietFrom : Option Nat := none
  /-- R405: accepted limit that applies at the next evaluation. -/
  newLimit : Option Nat := none
  /-- R405: messages from the owner that Safelight has not answered, oldest first. -/
  inbox : List (List Word) := []
deriving DecidableEq, Repr, Inhabited

/-! ### The chain (chapter 17) -/

/-- What the last STATUS packet of a position said (R423). -/
structure PeerS where
  /-- R423: its arrival. -/
  at_ : Option Nat := none
  /-- R423: positions it can reach. -/
  reach : Nat := 0
  timeState : Nat := 0
  /-- R421, R423: its enrolment digest. -/
  enrol : Option (List Byte) := none
  policySeq : Nat := 0
  /-- R425: device time at which it became absent. -/
  absentAt : Option Nat := none
deriving DecidableEq, Repr, Inhabited

/-- A trigger that a target asked for (R418). -/
structure TrigReq where
  port : Nat
  slotMask : Nat
  launch : Nat
  inst : Nat
  /-- The target's position. -/
  from_ : Nat
deriving DecidableEq, Repr

/-- A SCHED_APPLY in progress at the master (R415). -/
structure SchedReq where
  cmd : CmdRef
  g : Nat
  base : Nat
  period : Nat
  apply : Nat
  /-- Positions that have not answered. -/
  waiting : List Nat
  /-- Some device found g held or enabled. -/
  refused : Bool
deriving DecidableEq, Repr

/-- The chain ports beyond their registers. -/
structure ChnS where
  /-- R414: the last 8 measurements in 1/32 ns (twice the delay in 1/16 ns), newest first. -/
  meas : List Int := []
  /-- R414: stamp t1, in 1/16 ns, of the DELAY_REQ that has no answer. -/
  t1 : Option Nat := none
  /-- R414: device time of the next DELAY_REQ. -/
  delayNext : Nat := 0
  /-- R423: device time of the next STATUS. -/
  statusNext : Nat := 0
  /-- R423: the other positions. -/
  peers : Tab PeerS := []
  /-- R418: triggers to launch for targets. -/
  trigs : List TrigReq := []
  /-- R415: a SCHED_APPLY in progress. -/
  sched : Option SchedReq := none
  /-- R419, R420: lengths of the windows that peers have opened for this device, keyed 16 · position + window. -/
  rwin : Tab Nat := []
  /-- R425: device time at which the target of a forwarded port became absent. -/
  lostAt : Tab (Option Nat) := []
deriving DecidableEq, Repr, Inhabited


/-- The reasons the machine stops with a fault. No meaning raises one: every condition the spec calls a fault of the
device is an effect on State (an LC_FAULT, an error log entry, a reply), and the machine goes on. -/
inductive Fault
  /-- Raised by nothing; safe. -/
  | unreachable
deriving DecidableEq, Repr

/-- The reasons a command has no meaning. -/
inductive Refusal
  /-- Raised by the arm of a command that is not modelled; safe. -/
  | notModelled (mnemonic : String)
deriving DecidableEq, Repr

/-- The block. -/
structure State where
  /-- The register file: every register of the register map; an unlisted register holds its reset value. -/
  regs : List ((RegName × Nat) × Word) := []
  /-- R7: high words latched by low-word reads, for each requester: (requester, high register, instance). -/
  rdShadow : List ((Nat × RegName × Nat) × Word) := []
  /-- R7: low words held for each requester: (requester, low register, instance). -/
  wrShadow : List ((Nat × RegName × Nat) × Word) := []
  /-- Chapter 04. -/
  time : TimeS := {}
  /-- Chapters 02 and 17: link ports. -/
  ports : Tab PortS := []
  /-- R54: their transmit sides. -/
  tx : Tab TxS := []
  /-- Chapters 03, 05, 06: cameras. -/
  cams : Tab CamS := []
  /-- R74: the Frame Ledger, keyed 128·n + q % 128. -/
  frames : Tab FrameS := []
  /-- Chapters 07, 09, 10, 11: Lantern cores. -/
  cores : Tab CoreS := []
  /-- R187: the phase of the device barrier. -/
  devPhase : Nat := 0
  /-- R187: the cores that have arrived in the device barrier's phase. -/
  devArrived : List Nat := []
  /-- R189: the cores that count in this phase. -/
  devMembers : List Nat := []
  /-- Chapter 12. -/
  hold : HoldS := {}
  /-- Chapter 13, by camera. -/
  adapt : Tab AdaptS := []
  /-- Chapter 15. -/
  sec : SecS := {}
  /-- Chapters 18 and 19. -/
  boot : BootS := {}
  /-- Stage groups, keyed by first core. -/
  groups : Tab GroupS := []
  /-- Chapter 14: functions, 0 the owner, k + 1 tenant Tk. -/
  fns : Tab FnS := []
  /-- R347: the function round robin takes next. -/
  rrFn : Nat := 0
  /-- Chapter 16. -/
  sfl : SflS := {}
  /-- Chapter 17. -/
  chn : ChnS := {}
  /-- Chapter 18. -/
  log : LogS := {}
  /-- R436: the device is in the fatal state. -/
  fatal : Bool := false
  /-- Device memory: (address, byte), addresses rising, no zero byte listed; an unlisted address reads 0. -/
  mem : List Host.Cell := []
  /-- What the block has sent, newest first. -/
  out : List Out := []
  /-- Free values taken so far: a field of the model, not of the spec. -/
  free : Nat := 0
  /-- The commands that are waiting, first in, first out. -/
  pending : List Instr := []
deriving DecidableEq, Repr, Inhabited

/-- The block when power is good and PORST# and PERST# are asserted (R437, R455, R462): every register at its reset
value (R10), start-up not begun, device time 0 and not running (R91), memory, queues, FIFOs and tables empty. -/
def State.reset : State := {}


/-- The outcome of a command. -/
abbrev Result := Host.Outcome State Fault Refusal

end Sys2Proof.Machine
end

