-- ==== Sys2Proof/Machine/Descriptors.lean ====
section
/-! DEFINITION. DMA descriptors (R273, R274). -/
namespace Sys2Proof.Machine

/-- R273: a descriptor. -/
structure Desc where
  src : Nat
  dst : Nat
  cnt0 : Nat
  cnt1 : Nat
  cnt2 : Nat
  cnt3 : Nat
  barrier : Bool
  crc : Bool
  noAlloc : Bool
  srcSp : Nat
  dstSp : Nat
  crcSp : Nat
  s1 : Int
  s2 : Int
  s3 : Int
  d1 : Int
  d2 : Int
  d3 : Int
  crcAddr : Nat
deriving DecidableEq, Repr

/-- R273: the descriptor whose 64 bytes these are. -/
def descOf (b : List Byte) : Desc :=
  let i32 := fun o => toSigned 32 (leAt b o 4)
  { src := leAt b 0 8, dst := leAt b 8 8, cnt0 := getBits (leAt b 16 4) 0 24, cnt1 := leAt b 20 2, cnt2 := leAt b 22 2
    cnt3 := leAt b 24 2, barrier := bit (leAt b 26 2) 0, crc := bit (leAt b 26 2) 1, noAlloc := bit (leAt b 26 2) 2
    srcSp := getBits (leAt b 28 1) 0 4, dstSp := getBits (leAt b 28 1) 4 4, crcSp := getBits (leAt b 29 1) 0 4
    s1 := i32 32, s2 := i32 36, s3 := i32 40, d1 := i32 44, d2 := i32 48, d3 := i32 52, crcAddr := leAt b 56 8 }

/-- R274: address spaces. -/
def spSpad : Nat := 0
def spDev : Nat := 1
def spHost : Nat := 2
def spShape : Nat := 3
def spPeer : Nat := 4

/-- R273: the descriptor of a transfer, as at its issue. -/
def Xfer.d (x : Xfer) : Desc := descOf x.bytes

/-- R187, R274: the transfer writes device memory: its rows or its CRC. -/
def Xfer.writesDev (x : Xfer) : Bool := x.d.dstSp == spDev || (x.d.crc && x.d.crcSp == spDev)

/-- R274: one side of the transfer is in the core: its scratchpad or its shape words. -/
def Xfer.inCore (x : Xfer) : Bool :=
  x.d.srcSp == spSpad || x.d.dstSp == spSpad || x.d.dstSp == spShape

/-! ### Rows (R270, R275) -/

/-- R270: a fixed index takes the place of a dimension's loop. -/
def Xfer.n2 (x : Xfer) : Nat := if x.fix2.isSome then 1 else x.d.cnt2
def Xfer.n3 (x : Xfer) : Nat := if x.fix3.isSome then 1 else x.d.cnt3
/-- R275: rows of a transfer. -/
def Xfer.total (x : Xfer) : Nat := x.d.cnt1 * x.n2 * x.n3

/-- R275: indices (i1, i2, i3) of row r. -/
def Xfer.coord (x : Xfer) (r : Nat) : Nat × Nat × Nat :=
  let n1 := max 1 x.d.cnt1
  let n2 := max 1 x.n2
  (r % n1, (match x.fix2 with | some k => k | none => r / n1 % n2), (match x.fix3 with | some k => k | none => r / n1 / n2))

/-- R245, R270: base addresses: the descriptor's, with the added registers, or a GRID slot on the scratchpad side. -/
def Xfer.srcBase (x : Xfer) : Int :=
  match x.spadAt with
  | some a => if x.d.srcSp = spSpad then a else x.d.src + x.addSrc
  | none => x.d.src + x.addSrc
def Xfer.dstBase (x : Xfer) : Int :=
  match x.spadAt with
  | some a => if x.d.dstSp = spSpad then a else x.d.dst + x.addDst
  | none => x.d.dst + x.addDst

/-- R245: a GRID slot replaces the scratchpad address, strides of the fixed dimensions included. -/
def Xfer.onSlot (x : Xfer) (sp : Nat) : Bool := x.spadAt.isSome && sp == spSpad

/-- R275: source and destination address of row r, modulo 2^64. -/
def Xfer.srcAt (x : Xfer) (r : Nat) : Nat :=
  let c := x.coord r
  let k := x.onSlot x.d.srcSp
  let i2 : Nat := if k && x.fix2.isSome then 0 else c.2.1
  let i3 : Nat := if k && x.fix3.isSome then 0 else c.2.2
  ofSigned 64 (x.srcBase + c.1 * x.d.s1 + i2 * x.d.s2 + i3 * x.d.s3)
def Xfer.dstAt (x : Xfer) (r : Nat) : Nat :=
  let c := x.coord r
  let k := x.onSlot x.d.dstSp
  let i2 : Nat := if k && x.fix2.isSome then 0 else c.2.1
  let i3 : Nat := if k && x.fix3.isSome then 0 else c.2.2
  ofSigned 64 (x.dstBase + c.1 * x.d.d1 + i2 * x.d.d2 + i3 * x.d.d3)

/-- Least and greatest offset that a dimension adds. -/
def dimSpan (count : Nat) (fix : Option Nat) (stride : Int) : Int × Int :=
  match fix with
  | some k => (k * stride, k * stride)
  | none => let e := ((count - 1 : Nat) : Int) * stride; if e < 0 then (e, 0) else (0, e)

/-- The extent [lo, hi) of a side, from its base and strides. -/
def Xfer.extent (x : Xfer) (base a b c : Int) : Int × Int :=
  let p := dimSpan x.d.cnt1 none a
  let q := dimSpan x.d.cnt2 x.fix2 b
  let r := dimSpan x.d.cnt3 x.fix3 c
  (base + p.1 + q.1 + r.1, base + p.2 + q.2 + r.2 + x.d.cnt0)

def Xfer.srcExtent (x : Xfer) : Int × Int := x.extent x.srcBase x.d.s1 x.d.s2 x.d.s3
def Xfer.dstExtent (x : Xfer) : Int × Int := x.extent x.dstBase x.d.d1 x.d.d2 x.d.d3

/-- R275: the destination address of a SHAPE row is a multiple of 4, whatever its indices. -/
def Xfer.wordRows (x : Xfer) : Bool :=
  let d := x.d
  let at_ := fun (fix : Option Nat) (stride : Int) => match fix with | some k => k * stride | none => 0
  let steps := fun (fix : Option Nat) (count : Nat) (stride : Int) => fix.isSome || decide (count ≤ 1) || stride % 4 == 0
  (x.dstBase + at_ x.fix2 d.d2 + at_ x.fix3 d.d3) % 4 == 0 &&
  steps none d.cnt1 d.d1 && steps x.fix2 d.cnt2 d.d2 && steps x.fix3 d.cnt3 d.d3

/-- R275: encodings that are defined. -/
def Xfer.legal (x : Xfer) : Bool :=
  let d := x.d
  decide (d.srcSp ≤ 2) && decide (d.dstSp ≤ 4) && decide (d.crcSp ≤ 1) && !(d.srcSp == 0 && d.dstSp == 0) && d.cnt0 != 0 &&
  d.crcAddr % 4 == 0 &&
  (d.dstSp != spShape ||
    (d.cnt0 % 4 == 0 &&
      (x.total == 0 || (x.wordRows && decide (0 ≤ x.dstExtent.1) && decide (x.dstExtent.2 ≤ 256)))))

/-- R275: every scratchpad side lies within LC_SPAD_SIZE. -/
def Xfer.fits (x : Xfer) (size : Nat) : Bool :=
  let ok := fun (e : Int × Int) => decide (0 ≤ e.1) && decide (e.2 ≤ (size : Int))
  (x.d.srcSp != spSpad || x.total == 0 || ok x.srcExtent) && (x.d.dstSp != spSpad || x.total == 0 || ok x.dstExtent) &&
  (!x.d.crc || x.d.crcSp != 0 || decide (x.d.crcAddr + 4 ≤ size))

end Sys2Proof.Machine
end

