-- ==== Sys2Proof/Config.lean ====
section
/-! DEFINITION. What an implementation or an outside party fixes, and the free values: constants with no body. -/
namespace Sys2Proof.Config

/-- A free value: the value the device takes where the spec leaves it open, the n-th time one is taken. -/
opaque freeNat : Nat → Nat

/-- R115: the tunnelled writes into which firmware translates a settings set, given the sensor profile and the number
of exposures: (I3C bus?, target address, CCC, write data). The profile's format is not in the spec. -/
opaque profileWrites : List Byte → List Nat → List (Nat × Nat × Nat × List Byte)

/-- R183, R222: where within its one unit in the last place the result of approximate function f (0 exp2, 1 log2, 2 reciprocal,
3 reciprocal square root) lies for an input, as FP32 bits. -/
opaque lastPlace : Nat → Nat → Nat

/-- R120: the exposure code and gain code that firmware sends for exposure e of a bound set, given the profile. -/
opaque sentCodes : List Byte → List Nat → Nat → Nat × Nat

/-- R120: the exposure code and gain code of exposure e in a frame's embedded lines, given the profile's layout. -/
opaque embedCodes : List Byte → List (List Byte) → Nat → Nat × Nat

/-- R126: the 20-bit exposure that a step stages for exposure 1 or 2 where the computed value does not fit the field. -/
opaque wideExposure : Nat → Nat

/-- R475: whether the CSI-2 byte order of RAW16 sends a pixel's high byte first. -/
opaque raw16HighFirst : Bool

/-- Where element (position m, channel k) of operand A lies in a tile of M × K, counted in elements. The spec gives the
operands' sizes and not their layout. -/
opaque layoutA : Nat → Nat → Nat → Nat → Nat

/-- Where weight (k, n) lies in operand B of K × N, given the channels of one K block, counted in elements. -/
opaque layoutB : Nat → Nat → Nat → Nat → Nat → Nat

/-- Where result (m, n) lies in a result tile of M × N, counted in elements. -/
opaque layoutO : Nat → Nat → Nat → Nat → Nat

/-- The word a vector comparison writes in a lane where it holds, and where it does not. -/
opaque cmpTrue : Nat
opaque cmpFalse : Nat

/-- SM3 of a byte string (R365). -/
opaque sm3 : List Byte → List Byte

/-- SM4 of a 16-byte block under a key (R309, R310). -/
opaque sm4 : Nat → Nat → Nat

/-- R310: CMAC with SM4 under a key. -/
opaque cmac : Nat → List Byte → List Byte

/-- R365: an SM2 signature verifies: public key, message, signature. -/
opaque sm2Verify : List Byte → List Byte → List Byte → Bool

/-- R370: an SM2 signature with a private key, named by a number. -/
opaque sm2Sign : Nat → List Byte → List Byte

/-- R369, R373: the public key, x then y, of a private key. -/
opaque sm2Public : Nat → List Byte

/-- R391: a public key is a valid point on the curve. -/
opaque sm2Valid : List Byte → Bool

/-- R374: decryption of an SM2 ciphertext with a private key; none where C3 does not verify. -/
opaque sm2Decrypt : Nat → List Byte → Option (List Byte)

/-- R375: every tag of an encrypted image verifies under a model key. -/
opaque gcmOk : List Byte → List Byte → Bool

/-- R364: the unique device secret. -/
opaque deviceSecret : Nat

/-- R369: the identity private key derived from the unique device secret. -/
opaque identityKey : Nat → Nat

/-- R364, R366: the fused digest of the firmware key, the ROM version and the fuse configuration word. -/
opaque fusedKeyDigest : List Byte
opaque romVersion : Nat
opaque fuseConfig : Nat

/-- R369: the certificate chain in the flash, at most 2,048 bytes. -/
opaque certificate : List Byte

/-- R456: Kalinjo's 11-bit manufacturer identity. -/
opaque manufacturer : Nat

/-- R306: banks of a DDR5 channel, a property of the devices on the card. -/
opaque dramBanks : Nat

/-- R327: the outputs of the head layers, as FP32 bits: the layers, and, in the training precision, weights and head input.
The spec leaves the graph of the layers to the head descriptor, whose format it does not give. -/
opaque headForward : Nat → List Nat → List Nat → List Nat

/-- R327: the gradient of each parameter, as FP32 bits: the layers, and, in the training precision, weights, head input and
output gradient. -/
opaque headBackward : Nat → List Nat → List Nat → List Nat → List Nat

/-- R318: the class 4 layout of R216 of weight codes. -/
opaque classFour : List Nat → List Byte

/-- R340: a PCIe configuration request's completion, from READY on, when it succeeds. -/
opaque configData : Nat → Nat

/-- R352: the bytes in which LAYER_TOTALS writes the totals of the latest frame: core, record, produced, clipped and
flags of each. The spec gives no layout. -/
opaque layerTotals : List (Nat × Nat × Nat × Nat × Nat) → List (BitVec 8)

end Sys2Proof.Config
end

