-- ==== Sys2Proof/Machine/Ops.lean ====
section
/-! DEFINITION. The named operations over registers, time, memory, the error log and the host that every meaning
calls. -/
namespace Sys2Proof.Machine

/-! ### Registers (R6 to R10) -/

/-- The value of instance i of a register. -/
def State.reg (s : State) (r : RegName) (i : Nat := 0) : Word := lookupD s.regs (r, i) (r.reset i)

/-- Sets instance i of a register. -/
def State.setReg (s : State) (r : RegName) (i : Nat) (w : Word) : State := { s with regs := insertAt s.regs (r, i) w }

/-- The value of a register as a number. -/
def State.regN (s : State) (r : RegName) (i : Nat := 0) : Nat := (s.reg r i).toNat

/-- Sets a register to a number modulo 2^32. -/
def State.setRegN (s : State) (r : RegName) (i v : Nat) : State := s.setReg r i (BitVec.ofNat 32 v)

/-- The value of a field of instance i of its register. -/
def State.fld (s : State) (f : Fld) (i : Nat := 0) : Nat := getBits (s.regN f.reg i) f.lo f.width

/-- Sets a field of instance i of its register. -/
def State.setFld (s : State) (f : Fld) (i v : Nat) : State :=
  s.setRegN f.reg i (putBits (s.regN f.reg i) f.lo f.width v)

/-- The field reads 1. -/
def State.flag (s : State) (f : Fld) (i : Nat := 0) : Bool := s.fld f i == 1

/-- The 64-bit value of a register pair, named by its low and high registers. -/
def State.pair (s : State) (lo hi : RegName) (i : Nat := 0) : Nat := s.regN lo i + s.regN hi i * 2 ^ 32

/-- Sets a register pair. -/
def State.setPair (s : State) (lo hi : RegName) (i v : Nat) : State :=
  (s.setRegN lo i v).setRegN hi i (v / 2 ^ 32)

/-- R10: the registers that a test picks take their reset values. -/
def State.resetRegs (s : State) (p : RegName → Nat → Bool) : State :=
  { s with regs := s.regs.filter fun e => !p e.1.1 e.1.2 }

/-! ### Keyed parts of the state -/

def State.port (s : State) (p : Nat) : PortS := s.ports.get p
def State.setPort (s : State) (p : Nat) (x : PortS) : State := { s with ports := s.ports.set p x }
def State.modPort (s : State) (p : Nat) (f : PortS → PortS) : State := s.setPort p (f (s.port p))
def State.cam (s : State) (n : Nat) : CamS := s.cams.get n
def State.setCam (s : State) (n : Nat) (x : CamS) : State := { s with cams := s.cams.set n x }
def State.modCam (s : State) (n : Nat) (f : CamS → CamS) : State := s.setCam n (f (s.cam n))
/-- R74: the entry that frame q of cam n uses. -/
def frameKey (n q : Nat) : Nat := 128 * n + q % 128
def State.frame (s : State) (n q : Nat) : FrameS := s.frames.get (frameKey n q)
def State.setFrame (s : State) (n q : Nat) (x : FrameS) : State := { s with frames := s.frames.set (frameKey n q) x }
def State.modFrame (s : State) (n q : Nat) (f : FrameS → FrameS) : State := s.setFrame n q (f (s.frame n q))
def State.fn (s : State) (f : Nat) : FnS := s.fns.get f
def State.setFn (s : State) (f : Nat) (x : FnS) : State := { s with fns := s.fns.set f x }
def State.modFn (s : State) (f : Nat) (g : FnS → FnS) : State := s.setFn f (g (s.fn f))
def State.modTime (s : State) (f : TimeS → TimeS) : State := { s with time := f s.time }

/-- Something goes out. -/
def State.emit (s : State) (o : Out) : State := { s with out := o :: s.out }

/-- The next free value, and the state that has taken it. -/
def State.takeFree (s : State) : Nat × State := (Config.freeNat s.free, { s with free := s.free + 1 })

/-- n free values are taken. -/
def State.spend (s : State) (n : Nat) : State := { s with free := s.free + n }

/-! ### Device time (R91) and the backchannel (R54) -/

/-- R91: device time, a 64-bit count of nanoseconds. -/
def State.now (s : State) : Nat := s.time.now

/-- R31: hundredths of a nanosecond in one block slot of a port. -/
def State.slotTime (s : State) (p : Nat) : Nat := if s.fld F.IXL_PORT_STATUS_rate_in_force p = 1 then 640 else 256

/-- R54: the waiting block that goes next: the first of the highest priority (the least number). -/
def nextBlock : List TxBlock → Option TxBlock
  | [] => none
  | b :: bs =>
    match nextBlock bs with
    | none => some b
    | some c => if c.prio < b.prio then some c else some b

/-- R54: sends up to k waiting blocks, the highest priority first, in the order queued among equals. -/
def sendBlocks (p : Nat) : Nat → List TxBlock → List Out → List TxBlock × List Out
  | 0, q, o => (q, o)
  | k + 1, q, o =>
    match nextBlock q with
    | none => (q, o)
    | some b => sendBlocks p k (q.erase b) (.block p b.typ b.payload :: o)

/-- R54: the block slots that pass on a port in dt ns carry its waiting blocks; on an Isarex port every other one
carries IDLE. -/
def drainPort (slot dt p : Nat) (t : TxS) (o : List Out) : TxS × List Out :=
  let n := (t.phase + 100 * dt) / slot
  let r := sendBlocks p (min n t.queue.length) t.queue o
  let idle := n - t.queue.length
  ({ t with queue := r.1, sinceSkip := t.sinceSkip + n, phase := (t.phase + 100 * dt) % slot },
    if 0 < idle ∧ p < 16 then .idle p idle :: r.2 else r.2)

/-- R54: the block slots that pass on every port in dt ns. -/
def State.drainAll (s : State) (dt : Nat) : List (Nat × TxS) → List Out → List (Nat × TxS) × List Out
  | [], o => ([], o)
  | (p, t) :: rest, o =>
    let r := drainPort (s.slotTime p) dt p t o
    let q := s.drainAll dt rest r.2
    ((p, r.1) :: q.1, q.2)

/-- R91: dt TCLK cycles pass at the rate in force (SYN_RATE_ADJ, in ppb), accumulated with 32 fraction bits. -/
def TimeS.advance (t : TimeS) (ppb : Int) (dt : Nat) : TimeS :=
  let total := t.frac + ((dt : Int) * ((1000000000 + ppb) * 2 ^ 32 / 1000000000)).toNat
  { t with now := t.now + total / 2 ^ 32, frac := total % 2 ^ 32, tclk := t.tclk + dt }

/-- R9, R82: the bits of a W1C register that the device has set in the present CCLK cycle, which a clear in it leaves set. -/
def State.sameCycle (s : State) (r : RegName) (i : Nat) : Nat :=
  let old := (lookupD s.time.w1c (r, i) (r.reset i)).toNat
  Nat.xor (s.regN r i) (Nat.land (s.regN r i) old)

/-- R29: CCLK cycles, 350 MHz, counted from TCLK. -/
def cclkOf (tclk : Nat) : Nat := tclk * 7 / 20

/-- R9: a register with a W1C field. -/
def RegName.isW1C (r : RegName) : Bool := r.info.fields.any fun f => f.acc == .W1C

/-- R9: the W1C registers as they stood when the CCLK cycle began that is present dt TCLK cycles from now. -/
def State.w1cAfter (s : State) (dt : Nat) : List ((RegName × Nat) × Word) :=
  if cclkOf (s.time.tclk + dt) = cclkOf s.time.tclk then s.time.w1c
  else s.regs.filter fun (e : (RegName × Nat) × Word) => e.1.1.isW1C

/-- dt TCLK cycles pass before a command takes place: device time advances and the block slots of the backchannels
carry what waits in them. Everything else that time brings about is a command of its own. -/
def State.elapse (s : State) (dt : Nat) : State :=
  if s.time.running then
    let r := s.drainAll dt s.tx s.out
    { s with time := { s.time.advance (toSigned 32 (s.regN .SYN_RATE_ADJ)) dt with w1c := s.w1cAfter dt }, tx := r.1, out := r.2 }
  else s

/-- R54: queues a block for a port's backchannel. -/
def State.queueBlock (s : State) (p prio typ payload : Nat) : State :=
  { s with tx := s.tx.modify p fun t => { t with queue := t.queue ++ [⟨prio, typ, payload⟩] } }

/-! ### PCIe (R340, R341, R343) and the contact sheet (R451, R452) -/

/-- R343: raises an MSI-X vector of a function. -/
def State.raise (s : State) (fn vector : Nat) : State := s.emit (.msix fn (vector % (if fn = 0 then 1024 else 128)))

/-- R453: adds n to OBS counter i, modulo 2^64. -/
def State.obsAdd (s : State) (i n : Nat) : State :=
  { s with log := { s.log with obs := s.log.obs.set i ((s.log.obs.get i + n) % 2 ^ 64) } }

/-- R452: a scrub of the tenant that a core, queue or camera serves runs, so its events are not recorded. -/
def State.hushed (s : State) (src : Nat) : Bool :=
  let f := if 0x2000 ≤ src ∧ src < 0x3000 then (s.cams.get (src - 0x2000)).holder
    else if 0x3000 ≤ src ∧ src < 0x4000 then (s.cores.get (src - 0x3000)).user.fn
    else if 0x4000 ≤ src ∧ src < 0x5000 then (s.cores.get ((src - 0x4000) / 16)).user.fn else 0
  0 < f && (s.sec.scrubs.get (f - 1)).isSome

/-- R451, R452: records an event of a group on the contact sheet. -/
def State.traceEv (s : State) (group typ src arg : Nat) : State :=
  if (group = 0 ∨ bit (s.fld F.OBS_TRACE_CFG_groups) (group - 1)) ∧ s.hushed src = false then
    let s := { s with log := { s.log with trace := (({ t := s.now, typ := typ, src := src, arg := arg % 2 ^ 32 } : TraceEv) :: s.log.trace).take 65536 } }
    s.setRegN .OBS_TRACE_HEAD 0 (s.regN .OBS_TRACE_HEAD + 1)
  else s

/-! ### The error log (R427 to R434) -/

/-- R428: source words. -/
def srcBlock (b : Nat) : Nat := b
def srcPort (p : Nat) : Nat := 0x1000 + p
def srcCam (n : Nat) : Nat := 0x2000 + n
def srcCore (i : Nat) : Nat := 0x3000 + i
def srcQueue (i q : Nat) : Nat := 0x4000 + 16 * i + q
def srcChan (c : Nat) : Nat := 0x5000 + c
def srcFn (f : Nat) : Nat := 0x6000 + f
def srcCp (i : Nat) : Nat := 0x7000 + i

/-- R427: classes. -/
def clsLink : Nat := 1
def clsIntake : Nat := 2
def clsSync : Nat := 3
def clsExpo : Nat := 4
def clsOutput : Nat := 5
def clsCore : Nat := 6
def clsDma : Nat := 7
def clsMem : Nat := 8
def clsAdapt : Nat := 9
def clsSec : Nat := 10
def clsSfl : Nat := 11
def clsChain : Nat := 12
def clsPcie : Nat := 13
def clsClock : Nat := 14
def clsFw : Nat := 15

/-- The number of unread entries (R429). -/
def State.errUnread (s : State) : Nat := (s.regN .ERR_HEAD + 2 ^ 32 - s.regN .ERR_TAIL) % 2 ^ 32

/-- R430: entry e is unread. -/
def State.isUnread (s : State) (e : ErrEntry) : Bool :=
  (s.regN .ERR_HEAD + 2 ^ 32 - e.num) % 2 ^ 32 ≤ s.errUnread && e.num != s.regN .ERR_HEAD

/-- R434: captures the image of an event while ERR_FIRST_CTL.valid is 0; valid sets. -/
def State.captureFirst (s : State) (e : ErrEntry) : State :=
  if s.flag F.ERR_FIRST_CTL_valid then s
  else
    let w : List Nat := [e.num, e.cls + 256 * e.flags + 65536 * e.src, e.tFirst, e.tFirst / 2 ^ 32, 0, 1, e.code, e.info]
    let s := (List.range 8).foldl (fun s i => s.setRegN .ERR_FIRST i (w.getD i 0)) s
    s.setFld F.ERR_FIRST_CTL_valid 0 1

/-- Adds one event to the entry numbered num (R430). -/
def coalesceInto (num stamp : Nat) : List ErrEntry → List ErrEntry
  | [] => []
  | e :: es =>
    if e.num = num then { e with count := satAdd 32 e.count 1, span := stamp - e.tFirst } :: es
    else e :: coalesceInto num stamp es

/-- R430: the entry an event of a class and source coalesces into: the newest of that class and source, if it is
unread, not FATAL, and its window of 1,000 ns has not passed. -/
def State.coalesceTarget (s : State) (cls src : Nat) : Option ErrEntry :=
  match s.log.ring.find? fun e => e.cls == cls && e.src == src with
  | some e => if s.isUnread e && !bit e.flags 0 && s.now ≤ e.tFirst + 1000 then some e else none
  | none => none

/-- R429, R432: writes a new entry, or drops and counts it while 1,024 entries are unread. -/
def State.newEntry (s : State) (e : ErrEntry) : State :=
  let num := s.regN .ERR_HEAD
  let e := { e with num := num }
  if 1024 ≤ s.errUnread then
    (s.setRegN .ERR_DROP e.cls (satAdd 32 (s.regN .ERR_DROP e.cls) 1)).captureFirst { e with flags := setBit e.flags 3 }
  else
    let s := { s with log := { s.log with ring := (e :: s.log.ring).take 1024 } }
    let s := (s.setRegN .ERR_HEAD 0 (num + 1)).captureFirst e
    let s := s.traceEv 0 0x07 e.src num
    if bit (s.fld F.ERR_CFG_irq_class) (e.cls - 1) then s.raise 0 (s.fld F.ERR_CFG_vector) else s

/-- R430 to R434: logs an event. -/
def State.logEvent (s : State) (cls src code : Nat) (info : Nat := 0xFFFFFFFF) (flags : Nat := 0) : State :=
  let e : ErrEntry := { num := 0, cls := cls, flags := flags, src := src, tFirst := s.now, code := code, info := info }
  match (if bit flags 0 then none else s.coalesceTarget cls src) with
  | some t =>
    let s := { s with log := { s.log with ring := coalesceInto t.num s.now s.log.ring } }
    s.captureFirst { e with num := t.num, flags := setBit flags 2 }
  | none => s.newEntry e

/-- R431: a counter counts n events of a class and source. The first increment after a reset is logged with the
COUNTER flag and the counter's offset; a later one coalesces when it can, and otherwise the counter alone records it. -/
def State.bump (s : State) (r : RegName) (i cls src : Nat) (n : Nat := 1) (info : Nat := 0xFFFFFFFF) : State :=
  let old := s.regN r i
  let s := s.setRegN r i (satAdd 32 old n)
  let off := r.info.base + r.info.stride * (i % r.info.sub)
  if n = 0 then s
  else if old = 0 then s.logEvent cls src off info 2
  else
    match s.coalesceTarget cls src with
    | some t =>
      if bit t.flags 1 && t.code == off then
        let s := { s with log := { s.log with ring := coalesceInto t.num s.now s.log.ring } }
        s.captureFirst { num := t.num, cls := cls, flags := 6, src := src, tFirst := s.now, code := off, info := info }
      else s
    | none => s

/-- R9: the device sets a W1C or status bit. -/
def State.setEvt (s : State) (f : Fld) (i : Nat := 0) : State := s.setFld f i 1

/-- R341, R476: an error is reported through AER on a function. -/
def State.aerError (s : State) (fn : Nat) : State := (s.emit (.aer fn false)).logEvent clsPcie (srcFn fn) 0x01

/-! ### Host-bound writes (R340, R341, R354) -/

/-- R341: a memory write with a function's Requester ID at a host bus address; discarded, counted and logged while
the function's Bus Master Enable is 0. -/
def State.hostWrite (s : State) (fn addr : Nat) (bytes : List Byte) : State :=
  if (s.fn fn).bme then (s.emit (.hostWrite fn addr bytes)).obsAdd 1664 bytes.length
  else
    (s.setRegN .FN_CNT_BME_DROP fn (satAdd 32 (s.regN .FN_CNT_BME_DROP fn) 1)).logEvent clsPcie (srcFn fn) 0x02

/-- R161, R276, R341: a BARRIER issues its zero-length read; while the function's Bus Master Enable is 0 it counts as completed
without one. -/
def State.barrierRead (s : State) (fn : Nat) : State := if (s.fn fn).bme then s.emit (.barrier fn) else s

/-- R354: bytes of a page. -/
def Page.size (p : Page) : Nat := if p.big then 0x200000 else 0x1000

/-- R354: the page of a space that holds a virtual address. -/
def findPage (ps : List Page) (va : Nat) : Option Page := ps.find? fun p => p.va ≤ va && va < p.va + p.size

/-- R354: the physical address behind a virtual address. -/
def translate (ps : List Page) (va : Nat) : Option Nat := (findPage ps va).map fun p => p.pa + (va - p.va)

/-- R354: splits a write at 4 KiB boundaries: the chunks of n bytes from address a. -/
def chunks : Nat → Nat → List Byte → List (Nat × List Byte)
  | 0, _, _ => []
  | k + 1, a, bs =>
    if bs.isEmpty then []
    else
      let n := 0x1000 - a % 0x1000
      (a, bs.take n) :: chunks k (a + n) (bs.drop n)

/-- R354, R479: a write to a ring of a camera: at a host bus address for the owner, and through the holder's HOST space,
with its Requester ID, for a tenant. -/
def State.ringWrite (s : State) (fn addr : Nat) (bytes : List Byte) : State :=
  if fn = 0 then s.hostWrite 0 addr bytes
  else
    (chunks (bytes.length + 1) addr bytes).foldl (fun s c =>
      match translate (s.fn fn).host c.1 with
      | some a => s.hostWrite fn a c.2
      | none => s) s

/-! ### Device memory -/

/-- One byte of device memory; an unlisted byte reads zero (R307). -/
def memRead (m : List Host.Cell) (a : Nat) : Byte := lookupD m a 0

/-- Writes one byte, keeping addresses rising and zero bytes unlisted. -/
def memWrite : List Host.Cell → Nat → Byte → List Host.Cell
  | [], a, b => if b = 0 then [] else [(a, b)]
  | (a', b') :: t, a, b =>
    if a < a' then (if b = 0 then (a', b') :: t else (a, b) :: (a', b') :: t)
    else if a = a' then (if b = 0 then t else (a, b) :: t)
    else (a', b') :: memWrite t a b

/-- Writes bytes from an address. -/
def memWrites : List Host.Cell → Nat → List Byte → List Host.Cell
  | m, _, [] => m
  | m, a, b :: bs => memWrites (memWrite m a b) (a + 1) bs

/-- Reads n bytes from an address. -/
def memReads (m : List Host.Cell) (a n : Nat) : List Byte := (List.range n).map fun i => memRead m (a + i)

/-- The canonical form: addresses rising, no zero byte listed. -/
def Memory.wf : List Host.Cell → Bool
  | [] => true
  | [(_, b)] => b != 0
  | (a, b) :: (a', b') :: t => b != 0 && a < a' && Memory.wf ((a', b') :: t)

/-- R297: the hold-cache line that holds a line address. -/
def HoldS.find (h : HoldS) (l : Nat) : Option HLine := h.lines.find? fun x => x.line == l

/-- R313: a write of line l that waits for its channel, the latest. -/
def HoldS.waiting (h : HoldS) (l : Nat) : Option MemReq :=
  (h.window.flatMap fun e => e.2.filter fun r => r.write && r.line == l).getLast?

/-- R313: a read of line l finds poison: in the line held, in a write that waits, or in what DDR5 gave or holds. -/
def State.poisonedLine (s : State) (l : Nat) : Bool :=
  s.hold.poisonRead.contains l ||
  (match s.hold.find l with
   | some x => x.poison
   | none => match s.hold.waiting l with
     | some r => r.poison
     | none => s.hold.stored.contains l)

/-- R313: nothing is poisoned. -/
def HoldS.clean (h : HoldS) : Bool :=
  h.poisonRead.isEmpty && h.stored.isEmpty && !h.lines.any (·.poison) && !h.window.any fun e => e.2.any (·.poison)

/-- R313: device memory as reads find it: a poisoned line reads zero. -/
def State.visibleMem (s : State) : List Host.Cell :=
  if s.hold.clean then s.mem else s.mem.filter fun c => !s.poisonedLine (c.1 / 64)

/-- R313: a write covers line l whole. -/
def covers (a n l : Nat) : Bool := decide (a ≤ 64 * l) && decide (64 * l + 64 ≤ a + n)

/-- Changes the requests, waiting and served, that a predicate names. -/
def HoldS.modReqs (h : HoldS) (p : MemReq → Bool) (f : MemReq → MemReq) : HoldS :=
  let g := fun (t : Tab (List MemReq)) => t.map fun e => (e.1, e.2.map fun r => if p r then f r else r)
  { h with window := g h.window, inFlight := g h.inFlight }

/-- R297, R313: the lines that a predicate names have been written in full: their poison is cleared, and a block that a read
made before brings later says nothing of them. -/
def HoldS.renew (h : HoldS) (p : Nat → Bool) : HoldS :=
  { h with stored := h.stored.filter (fun l => !p l), poisonRead := h.poisonRead.filter (fun l => !p l)
           lines := h.lines.map fun (x : HLine) => if p x.line then { x with poison := false } else x }.modReqs
    (fun r => p r.line) fun r => if r.write then { r with poison := false } else { r with superseded := true }

/-- R313: bytes of device memory as a read delivers them. -/
def State.memR (s : State) (a n : Nat) : List Byte := memReads s.visibleMem a n

/-- Device memory takes bytes, whatever the poison of their lines. -/
def State.memPut (s : State) (a : Nat) (bs : List Byte) : State := { s with mem := memWrites s.mem a bs }
/-- R307: all of device memory reads zero. -/
def State.memZero (s : State) : State := { s with mem := [] }

/-- Memory between two addresses cleared (R382). -/
def State.memClear (s : State) (a n : Nat) : State :=
  { s with mem := s.mem.filter fun c => !(a ≤ c.1 && c.1 < a + n) }

/-! ### Events (R356, R357) and command replies (R345, R349) -/

/-- R356: records in a function's event ring. -/
def State.evqSize (s : State) (fn : Nat) : Nat :=
  let l := s.fld F.EVQ_CFG_log2_size fn
  if 4 ≤ l ∧ l ≤ 8 then 2 ^ l else 16

/-- R357: writes an event to a function's event ring: bytes 4 to 31 first, then bytes 0 to 3; counted in lost while
en is 0. -/
def State.event (s : State) (fn typ a b : Nat) : State :=
  if s.flag F.EVQ_CFG_en fn then
    let e := s.fld F.EVQ_STATUS_num fn
    let at0 := s.pair .EVQ_BASE_LO .EVQ_BASE_HI fn / 4096 * 4096 + 32 * (e % s.evqSize fn)
    let s := s.hostWrite fn (at0 + 4) (leBytes 4 typ ++ leBytes 8 a ++ leBytes 8 b ++ leBytes 8 s.now)
    let s := s.hostWrite fn at0 (leBytes 4 e)
    (s.setFld F.EVQ_STATUS_num fn ((e + 1) % 65536)).raise fn (s.fld F.EVQ_CFG_vector fn)
  else s.setFld F.EVQ_STATUS_lost fn (satAdd 16 (s.fld F.EVQ_STATUS_lost fn) 1)

/-- Status codes (R350). -/
def stOk : Nat := 0
def stBusy : Nat := 1
def stConflict : Nat := 2
def stDenied : Nat := 3
def stBadParam : Nat := 4
def stNoResource : Nat := 5
def stFault : Nat := 6
def stUpdatePending : Nat := 7
def stClosed : Nat := 8
def stScrubbing : Nat := 9

def State.queue (s : State) (fn q : Nat) : QueueS := (s.fn fn).queues.get q
def State.setQueue (s : State) (fn q : Nat) (x : QueueS) : State :=
  s.modFn fn fun f => { f with queues := f.queues.set q x }

/-- R346: slots of a queue. -/
def State.qSlots (s : State) (fn q : Nat) : Nat := 2 ^ s.fld F.CQ_CFG_log2_size (4 * fn + q)

/-- R345: idle reads 1 while no command is fetched and unreplied and en is 0. -/
def State.setIdle (s : State) (f q : Nat) : State :=
  let u := s.queue f q
  s.setFld F.CQ_STATUS_idle (4 * f + q) (b2n (u.fetched.isEmpty && u.started.isEmpty && !s.flag F.CQ_CFG_en (4 * f + q)))

/-- The started command a reference names. -/
def State.command (s : State) (c : CmdRef) : Option Cmd := (s.queue c.fn c.q).started.find? fun x => x.slot == c.slot

/-- R345, R346, R349: a command completes: its reply is written in the next reply slot, in one 32-byte write, and
counts toward the interrupt unless QUIET. -/
def State.reply (s : State) (c : CmdRef) (status : Nat) (detail : Nat := 0) (q0 : Nat := 0) (q1 : Nat := 0) : State :=
  match s.command c with
  | none => s
  | some k =>
    let i := 4 * c.fn + c.q
    let u := s.queue c.fn c.q
    let tail := s.fld F.CQ_STATUS_rq_tail i
    let ph := s.fld F.CQ_STATUS_phase i
    let size := s.qSlots c.fn c.q
    let bytes := leBytes 4 k.seq ++ leBytes 2 k.opcode ++ leBytes 1 status ++ leBytes 1 ph ++ leBytes 2 k.slot ++
      leBytes 2 (s.fld F.CQ_STATUS_head i) ++ leBytes 4 detail ++ leBytes 8 q0 ++ leBytes 8 q1
    let s := s.hostWrite c.fn (s.pair .RQ_BASE_LO .RQ_BASE_HI i / 4096 * 4096 + 32 * tail) bytes
    let tail' := (tail + 1) % size
    let s := s.setFld F.CQ_STATUS_rq_tail i tail'
    let s := if tail' = 0 then s.setFld F.CQ_STATUS_phase i (1 - ph) else s
    let u := { u with started := u.started.filter (fun x => x.slot != k.slot), unread := u.unread + 1 }
    let s := if s.boot.unit.any fun x => decide (x.2.2.1 = c) then { s with boot := { s.boot with unit := none } } else s
    if bit k.flags 1 then (s.setQueue c.fn c.q u).setIdle c.fn c.q
    else if max 1 (s.fld F.CQ_CFG_mod_count i) ≤ u.unsig + 1 then
      ((s.setQueue c.fn c.q { u with unsig := 0 }).setIdle c.fn c.q).raise c.fn (s.fld F.CQ_CFG_vector i)
    else
      let from_ := if u.unsig = 0 then s.now else u.unsigFrom
      (s.setQueue c.fn c.q { u with unsig := u.unsig + 1, unsigFrom := from_ }).setIdle c.fn c.q

end Sys2Proof.Machine
end

