-- ==== Sys2Proof/Machine/Ledger.lean ====
section
/-! DEFINITION. The Frame Ledger (R74 to R77), the frame mark word (R86), camera geometry (R65, R133) and the outcome of
settings transactions (R116, R117). -/
namespace Sys2Proof.Machine

/-! ### Cameras (R13, R64 to R67, R133) -/

/-- R13: the port of a camera. -/
def camPort (n : Nat) : Nat := n / 32
/-- R13: the sensor slot of a camera. -/
def camSlot (n : Nat) : Nat := n % 32
/-- R13: the cameras of a port. -/
def portCams (p : Nat) : List Nat := (List.range 32).map fun s => 32 * p + s

/-- R88: stopped 0, starting 1, running 2, stopping 3. -/
def State.stream (s : State) (n : Nat) : Nat := s.fld F.CAM_STATUS_stream n
/-- R163: the stream is not stopped. -/
def State.started (s : State) (n : Nat) : Bool := s.stream n != 0
/-- Every started camera. -/
def State.startedCams (s : State) : List Nat := (List.range 512).filter s.started

def State.width (s : State) (n : Nat) : Nat := s.fld F.CAM_GEOM_width n
def State.height (s : State) (n : Nat) : Nat := s.fld F.CAM_GEOM_height n
/-- R133: number of staggered exposures N. -/
def State.nExpo (s : State) (n : Nat) : Nat := s.fld F.CAM_EXPO_CFG_n_expo_minus1 n + 1
/-- R133: output height H. -/
def State.outH (s : State) (n : Nat) : Nat := s.height n / s.nExpo n
/-- R65, R121: bits of a code by data type; 0 outside the supported types. -/
def dtBits (dt : Nat) : Nat :=
  if dt = 0x2B then 10 else if dt = 0x2C then 12 else if dt = 0x2D then 14 else if dt = 0x2E then 16 else 0
def State.codeBits (s : State) (n : Nat) : Nat := dtBits (s.fld F.IXL_SLOT_CFG_dt n)
/-- R65: bytes in a row. -/
def State.rowBytes (s : State) (n : Nat) : Nat := s.width n * s.codeBits n / 8
/-- R66: frame time in ns. -/
def State.periodNs (s : State) (n : Nat) : Nat := s.fld F.CAM_PERIOD_period_us n * 1000
/-- R67: start timeout in ns. -/
def State.startTimeout (s : State) (n : Nat) : Nat := max 1 (s.fld F.CAM_TIMEOUT_start n) * 16000
/-- R67: close timeout in ns. -/
def State.closeTimeout (s : State) (n : Nat) : Nat := max 1 (s.fld F.CAM_TIMEOUT_close n) * 16000
/-- R131: stripes of a frame. -/
def State.stripes (s : State) (n : Nat) : Nat := ceilDiv (s.outH n) 32
/-- R64: first core of the camera's stage group. -/
def State.camSg (s : State) (n : Nat) : Nat := s.fld F.CAM_CFG_sg n

/-! ### Stage groups (R18 to R20) -/

/-- R18: core i begins a stage group. -/
def State.isFirst (s : State) (i : Nat) : Bool := bit (s.regN .GLB_SG_BOUNDARY) i

/-- R18: the cores from i on in ring order up to the next first core. -/
def groupFrom (v i : Nat) : Nat → List Nat
  | 0 => []
  | k + 1 => if bit v (i % 16) then [] else i % 16 :: groupFrom v (i + 1) k

/-- R18: the cores of the stage group whose first core is g. -/
def coresOf (v g : Nat) : List Nat := g :: groupFrom v (g + 1) 15

def State.groupCores (s : State) (g : Nat) : List Nat := coresOf (s.regN .GLB_SG_BOUNDARY) g

/-- R18: the first core of the group that holds core i. -/
def firstOf (v i : Nat) : Nat → Nat
  | 0 => i % 16
  | k + 1 => if bit v (i % 16) then i % 16 else firstOf v (i + 15) k

def State.groupOf (s : State) (i : Nat) : Nat := firstOf (s.regN .GLB_SG_BOUNDARY) i 15

def State.group (s : State) (g : Nat) : GroupS := s.groups.get g
def State.setGroup (s : State) (g : Nat) (x : GroupS) : State := { s with groups := s.groups.set g x }
def State.modGroup (s : State) (g : Nat) (f : GroupS → GroupS) : State := s.setGroup g (f (s.group g))

/-- R164: the started cameras of a stage group. -/
def State.groupCams (s : State) (g : Nat) : List Nat := s.startedCams.filter fun n => s.camSg n == g

/-! ### Stripe deadlines and the order of shares (R71, R83, R85) -/

/-- R71, R83: stripe k of frame q takes the inline path. -/
def State.stripeInline (s : State) (n q k : Nat) : Bool := (s.frame n q).inlinePath || decide (k < (s.frame n q).inlineTo)

/-- R83: what the deadline of stripe k adds to the stamp of its last input row. -/
def State.stripeAllowance (s : State) (n q k : Nat) : Nat :=
  if s.stripeInline n q k then rneDivN (2 * s.periodNs n * 32) (s.height n) + 300000 else s.periodNs n + 3000000

/-- R131: the last received row that stripe k needs. -/
def State.lastRowOf (s : State) (n k : Nat) : Nat := min ((32 * k + 40) * s.nExpo n) (s.height n) - 1

/-- R83: deadline of stripe k. -/
def State.stripeDeadline (s : State) (n q k : Nat) : Nat :=
  (s.frame n q).stamps.getD (s.lastRowOf n k) 0 + s.stripeAllowance n q k

/-- R85, R268: the order of shares: inline, then deadline, then camera, then stripe. -/
def Share.before (a b : Share) : Bool :=
  if a.inl != b.inl then a.inl
  else if a.deadline != b.deadline then decide (a.deadline < b.deadline)
  else if a.cam != b.cam then decide (a.cam < b.cam)
  else if a.seq != b.seq then decide (a.seq < b.seq) else decide (a.stripe < b.stripe)

/-- Puts a share in its place (R85). -/
def insertShare (x : Share) : List Share → List Share
  | [] => [x]
  | y :: ys => if x.before y then x :: y :: ys else y :: insertShare x ys

/-- R71: stripes of frame q that a first core has drawn: those below this one have started. -/
def GroupS.startedTo (x : GroupS) (n q : Nat) : Nat :=
  let ks := (x.counters.map fun e =>
    if e.2.inputs.isEmpty then
      ((e.2.done.filter fun d => d.1 == n && d.2.1 == q).map (·.2.2)) ++
        ((e.2.shares.filter fun h => h.cam == n && h.seq == q && h.held.isSome).map (·.stripe))
    else []).flatten
  (ks.map (· + 1)).foldl max 0

/-! ### Counters of a camera (R90, R130, R166) -/

/-- R90, R130, R166, R429: a counter of a camera counts; the class is that of its chapter, and info the frame concerned. -/
def State.camCount (s : State) (r : RegName) (n cls : Nat) (info : Nat := 0xFFFFFFFF) : State :=
  s.bump r n cls (srcCam n) 1 info

/-! ### The mark word (R86) -/

def markLinkCrc : Nat := 0
def markReplayed : Nat := 1
def markLate : Nat := 2
def markLinesFilled : Nat := 3
def markExpoMismatch : Nat := 4
def markStatsPartial : Nat := 5
def markRetake : Nat := 6
def markRetakeSkipped : Nat := 7
def markOutputShed : Nat := 8
def markMemPoison : Nat := 9
def markDmaFaulted : Nat := 10
def markPrivApplied : Nat := 11
def markPrivHold : Nat := 12
def markAdaptSwap : Nat := 13
def markInline : Nat := 14
def markClipHigh : Nat := 15

/-- R86: the device sets a mark on frame q of camera n. -/
def State.setMark (s : State) (n q k : Nat) : State := s.modFrame n q fun f => { f with mark := setBit f.mark k }

/-! ### Entries (R75, R119) -/

/-- R76: a final state, or FREE. -/
def FrameS.isFinal (f : FrameS) : Bool := f.st == 0 || f.st == 3 || f.st == 4 || f.st == 5

/-- R76: the frame is OPEN or CLOSED. -/
def FrameS.live (f : FrameS) : Bool := !f.isFinal

/-- R75: the 32 bytes of a ledger entry. -/
def FrameS.entryBytes (f : FrameS) (key : Nat) : List Byte :=
  leBytes 4 f.mark ++ leBytes 4 f.seq ++ leBytes 8 (if f.st = 4 then 0 else f.tFirst) ++ leBytes 4 (f.tLast - f.tFirst) ++
  leBytes 4 f.set.e0 ++ leBytes 2 key ++ leBytes 2 f.sensorSeq ++
  leBytes 4 (f.rows % 4096 + f.st * 2 ^ 12 + f.negSlot * 2 ^ 16 + f.outSlot * 2 ^ 24)

/-- R119: the 32 bytes of a settings record, for n exposures. -/
def FrameS.recordBytes (f : FrameS) (n : Nat) : List Byte :=
  leBytes 4 f.set.e0 ++ leBytes 4 (if n < 2 then 0 else f.set.e1) ++ leBytes 4 (if n < 3 then 0 else f.set.e2) ++
  leBytes 4 f.commitSeq ++ leBytes 4 f.wb ++ leBytes 2 f.trigSeq ++
  leBytes 1 (b2n f.uncertain + 2 * b2n f.mismatch + 4 * b2n f.unverified + 8 * b2n f.set.byLoop) ++ leBytes 9 0

/-- R77: mirrors a final entry: bytes 0 to 27, then bytes 28 to 31. -/
def State.mirror (s : State) (n q : Nat) : State :=
  if s.flag F.CAM_LEDGER_HOST_LO_enable n then
    let a := s.pair .CAM_LEDGER_HOST_LO .CAM_LEDGER_HOST_HI n / 4096 * 4096 + 32 * (q % 128)
    let bs := (s.frame n q).entryBytes (frameKey n q)
    (s.ringWrite (s.cam n).holder a (bs.take 28)).ringWrite (s.cam n).holder (a + 28) (bs.drop 28)
  else s

/-- R240: a captured frame that ends without a slot header has no record; with the last frame the command ends. -/
def State.captureGone (s : State) (n q : Nat) : State :=
  match (s.cam n).capture with
  | none => s
  | some c =>
    if !c.frames.contains q then s
    else
      let c := { c with frames := c.frames.filter (· != q) }
      if c.left = 0 ∧ c.frames = [] then
        (s.modCam n fun x => { x with capture := none }).reply c.cmd (if c.cut then stNoResource else stOk) 0 c.records
      else s.modCam n fun x => { x with capture := some c }

/-- R76, R156: frame q of camera n reaches a final state: DONE 3, MISSED 4 or DROPPED 5. A DROPPED frame gives back its
output slot, and if it was open its packets are discarded up to the next FRAME_START (R80). -/
def State.finalize (s : State) (n q st : Nat) : State :=
  let f := s.frame n q
  let s := s.setFrame n q { f with st := st }
  let s := if st = 5 ∧ f.outSlot ≠ 255 then
      s.setFld F.CAM_OUT_STATUS_free n (min (s.fld F.CAM_OUT_STATUS_free n + 1) (s.fld F.CAM_OUT_RING_count n)) else s
  let s := if (s.cam n).openSeq = some q then s.modCam n fun c => { c with openSeq := none, discard := true } else s
  let s := if st = 3 then s.obsAdd n 1 else s
  let s := if bit f.mark markLate then s.obsAdd (512 + n) 1 else s
  let s := (s.traceEv 1 0x09 (srcCam n) q).mirror n q
  if st = 3 ∧ f.hdr then s else s.captureGone n q

/-- Puts a number in its place among rising ones. -/
def insertNat (x : Nat) : List Nat → List Nat
  | [] => [x]
  | y :: ys => if x < y then x :: y :: ys else if x = y then y :: ys else y :: insertNat x ys

/-- R76: the sequence numbers of a camera's frames that are not final, in ascending order, however far back. -/
def State.liveFrames (s : State) (n : Nat) : List Nat :=
  ((s.frames.filter fun e => e.1 / 128 == n && e.2.live).map fun e => e.2.seq).foldr insertNat []

/-- R73: the negative slots held by non-final frames of a camera. -/
def State.negHeld (s : State) (n : Nat) : List Nat :=
  ((s.liveFrames n).map fun q => (s.frame n q).negSlot).filter (· != 255)

/-- R73: the lowest free slot of the camera's negative ring. -/
def State.negFree (s : State) (n : Nat) : Option Nat :=
  (List.range (s.fld F.CAM_NEG_CFG_count n)).find? fun i => !(s.negHeld n).contains i

/-- R72: bytes of a negative slot: height × row bytes rounded up to 4 KiB. -/
def State.negSlotBytes (s : State) (n : Nat) : Nat := ceilDiv (s.height n * s.rowBytes n) 4096 * 4096

/-- R72: device address of row r of a negative slot. -/
def State.negAddr (s : State) (n slot r : Nat) : Nat :=
  s.pair .CAM_NEG_BASE_LO .CAM_NEG_BASE_HI n / 4096 * 4096 + slot * s.negSlotBytes n + r * s.rowBytes n

/-! ### Ticks and launch times (R104, R105, R402) -/

/-- R105: the exposure instant of tick k of the camera's schedule, S = B + k · period + phase. -/
def State.instantOf (s : State) (n k : Nat) : Nat :=
  let g := s.fld F.CAM_TRIG_CFG_sched n
  let b := s.pair .SYN_SCHED_BASE_LO .SYN_SCHED_BASE_HI g + k * s.fld F.SYN_SCHED_PERIOD_period g
  ((b : Int) + toSigned 20 (s.fld F.CAM_TRIG_CFG_phase n)).toNat

/-- R104: the camera takes tick k. -/
def State.takesTick (s : State) (n k : Nat) : Bool := k % (s.fld F.CAM_TRIG_CFG_div_minus1 n + 1) == 0

/-- R402: the governor step G. -/
def State.govG (s : State) : Nat := s.fld F.SFL_GOV_step

/-- R402, R105: the governor withholds tick k from camera n. -/
def State.withheld (s : State) (n k : Nat) : Bool :=
  let i := k / (s.fld F.CAM_TRIG_CFG_div_minus1 n + 1)
  s.flag F.CAM_OUT_POLICY_sheddable n &&
    ((s.govG == 11 && i % 2 != 0) || (decide (12 ≤ s.govG) && i % 4 != 0))

/-- R105: launch time of a camera for the instant S. -/
def State.launchTime (s : State) (n inst : Nat) : Nat :=
  inst - s.fld F.IXL_HUB_CAPS_trig_latency (camPort n) - s.fld F.SYN_PORT_DELAY_delay_ns (camPort n)

/-- R105: a camera that starts to run takes the ticks already worked out whose launch time lies ahead. -/
def State.takeTicks (s : State) (n : Nat) : State :=
  let g := s.fld F.CAM_TRIG_CFG_sched n
  let x := s.time.sched.get g
  if s.flag F.CAM_CFG_free_run n || !s.flag F.SYN_SCHED_CTL_enable g then s
  else
    let ks := ((List.range 2).map fun i => x.first + (x.next - x.first - 2) + i).filter fun k =>
      decide (k < x.next) && s.takesTick n k && !s.withheld n k && decide (s.now < s.launchTime n (s.instantOf n k))
    s.modCam n fun c => { c with
      launches := c.launches ++ ks.map fun k => { l := s.launchTime n (s.instantOf n k), s := s.instantOf n k } }

/-! ### Settings in force (R113 to R116) -/

/-- R113: a loop or check enable of CAM_EXPO_CFG (bit 8 ae_en, 9 awb_en, 10 check_en) in force: as at the last commit point
or start, and as it stands while the stream is stopped. -/
def State.loopOn (s : State) (n b : Nat) : Bool := bit ((s.cam n).enForce.getD (s.regN .CAM_EXPO_CFG n)) b

/-- R113: the enables as they stand come into force. -/
def State.enablesNow (s : State) (n : Nat) : State :=
  s.modCam n fun c => { c with enForce := some (s.regN .CAM_EXPO_CFG n) }

/-- R115: the binding in force for frame q. -/
def CamS.bindFor (c : CamS) (q : Nat) : Bind :=
  (c.binds.find? fun b => b.frm ≤ q).getD { frm := 0, set := {}, commitSeq := 0xFFFFFFFF }

/-- R116: frame q is uncertain. -/
def CamS.isUncertain (c : CamS) (q : Nat) : Bool :=
  c.uncertain.any fun u => decide (u.1 ≤ q) && (match u.2 with | some e => decide (q < e) | none => true)

/-- R116: frames from `frm` on that took their number already and are not CLOSED are flagged uncertain. -/
def State.flagUncertain (s : State) (n frm : Nat) (upto : Option Nat) : State :=
  (s.liveFrames n).foldl (fun s q =>
    if decide (frm ≤ q) && (match upto with | some e => decide (q < e) | none => true) && (s.frame n q).st == 1 then
      s.modFrame n q fun f => { f with uncertain := true } else s) s

/-- R116: the outcome of a commit, when its last response has arrived at device time now. -/
def State.commitOutcome (s : State) (n : Nat) (c : Commit) : State :=
  let s := s.modCam n fun x => { x with commit := none }
  let s := s.setFld F.CAM_EXPO_STATUS_last_resp n c.worst
  let b : Bind := { frm := c.f, set := c.set, commitSeq := c.s }
  if c.worst = 0 then
    if s.now ≤ c.deadline then
      s.modCam n fun x => { x with
        binds := b :: x.binds
        uncertain := x.uncertain.map fun u => if u.2.isNone then (u.1, some c.f) else u }
    else
      let s := s.modCam n fun x => { x with binds := b :: x.binds, uncertain := (c.f, some (c.f + 1)) :: x.uncertain }
      let s := s.flagUncertain n c.f (some (c.f + 1))
      (s.setEvt F.CAM_EXPO_STATUS_late n).camCount .CAM_CNT_EXPO_LATE n clsExpo c.s
  else
    let s := s.modCam n fun x => { x with
      uncertain := if x.uncertain.any (fun u => u.2.isNone) then x.uncertain else (c.f, none) :: x.uncertain
      staged := match x.staged with | some t => some t | none => if s.started n then some c.orig else none
      stagedAt := if x.staged.isSome then x.stagedAt else s.now }
    let s := s.flagUncertain n c.f none
    let s := (s.setEvt F.CAM_EXPO_STATUS_late n).camCount .CAM_CNT_EXPO_LATE n clsExpo c.s
    s.logEvent clsExpo (srcCam n) c.worst c.s

/-- R115, R116: a settings transaction of a commit ends with a tunnel status. -/
def State.commitResp (s : State) (n status : Nat) : State :=
  match (s.cam n).commit with
  | none => s
  | some c =>
    let c := { c with left := c.left - 1, worst := max c.worst status }
    if c.left = 0 then s.commitOutcome n c else s.modCam n fun x => { x with commit := some c }

/-- R164: what a stream holds is released, and the stream is stopped: the group's inline binding, the overlap slot and
the locked pages. -/
def State.releaseStream (s : State) (n : Nat) : State :=
  let g := s.camSg n
  let s := if (s.group g).inlineCam = some n then s.modGroup g fun x => { x with inlineCam := none, line := [] } else s
  let s := s.modCam n fun c => { c with ovlSlot := none, locks := [], start := none, stop := none, staged := none, enForce := none,
                                        launches := [], asked := [], expect := [], freeRun := none }
  s.setFld F.CAM_STATUS_stream n 0

/-- R117, R163: the settings transactions of a start have all ended. -/
def State.startOutcome (s : State) (n : Nat) (t : StartS) : State :=
  match (s.cam n).stop with
  | some _ => (s.modCam n fun c => { c with start := none }).reply t.cmd stClosed
  | none =>
    if t.worst = 0 then
      let s := s.modCam n fun c => { c with start := none }
      (((s.setFld F.CAM_STATUS_stream n 2).takeTicks n).traceEv 0 0x01 (srcCam n) n).reply t.cmd stOk
    else (s.releaseStream n).reply t.cmd stFault

/-- R117: a settings transaction of a start ends with a tunnel status. -/
def State.startResp (s : State) (n status : Nat) : State :=
  match (s.cam n).start with
  | none => s
  | some t =>
    let t := { t with left := t.left - 1, worst := max t.worst status }
    if t.left = 0 then s.startOutcome n t else s.modCam n fun x => { x with start := some t }

end Sys2Proof.Machine
end

