-- ==== Sys2Proof/Machine/Slices.lean ====
section
/-! DEFINITION. The slices of the hold cache (R295 to R301): where a line is held, and what an access to it does. -/
namespace Sys2Proof.Machine

def xor4 (l : List Nat) : Nat := l.foldl Nat.xor 0

/-- R296: slice and set of a line address. -/
def sliceOf (l : Nat) : Nat :=
  xor4 [getBits l 0 4, getBits l 15 4, getBits l 19 4, getBits l 23 4, getBits l 27 3]
def setOf (l : Nat) : Nat := getBits l 4 11

/-- R304: channel of an address. -/
def chanOf64 (a : Nat) : Nat := xor4 [getBits a 8 3, getBits a 13 3, getBits a 18 3]

def State.modHold (s : State) (f : HoldS → HoldS) : State := { s with hold := f s.hold }

/-! ### Allocation (R299 to R301) -/

/-- R301: ways pinned by region r. -/
def State.pinWays (s : State) (r : Nat) : Nat := if s.flag F.HLD_PIN_BASE_valid r then s.fld F.HLD_PIN_WAYS_ways r else 0

/-- R300: every pinned way. -/
def State.allPinned (s : State) : Nat := (List.range 8).foldl (fun m r => Nat.lor m (s.pinWays r)) 0

/-- R300: the pinned region that holds an address, with the 2 MiB unit. -/
def State.pinOf (s : State) (a : Nat) : Option (Nat × Nat) :=
  ((List.range 8).map fun r => (r, a / 2 ^ 21 - s.hold.pinBase.get r)).find? fun x =>
    s.flag F.HLD_PIN_BASE_valid x.1 && decide (s.hold.pinBase.get x.1 ≤ a / 2 ^ 21) &&
    decide (x.2 ≤ s.fld F.HLD_PIN_SIZE_size x.1)

/-- The k-th set bit of a mask of 16. -/
def nthBit (m k : Nat) : Nat := (((List.range 16).filter (bit m)).getD k 15)

/-- R299, R300: ways into which agent x may allocate line l. -/
def State.waysFor (s : State) (x l : Nat) : List Nat :=
  match s.pinOf (64 * l) with
  | some p => [nthBit (s.pinWays p.1) p.2]
  | none => (List.range 15).filter fun w => bit (s.fld F.HLD_WAYMASK_ways x) w && !bit s.allPinned w

/-- R299: the way that the tree of a set names among the allowed ones: node n covers 2^k ways from w. -/
def plruWalk (bits : Nat) (ok : List Nat) : Nat → Nat → Nat → Nat
  | 0, _, w => w
  | k + 1, n, w =>
    let left := ok.any fun v => decide (w ≤ v) && decide (v < w + 2 ^ k)
    let right := ok.any fun v => decide (w + 2 ^ k ≤ v) && decide (v < w + 2 ^ (k + 1))
    if (bit bits n && right) || !left then plruWalk bits ok k (2 * n + 2) (w + 2 ^ k) else plruWalk bits ok k (2 * n + 1) w

/-- R299: the tree after way v is used: each node on its path points away from it. -/
def plruTouch (v : Nat) : Nat → Nat → Nat → Nat → Nat
  | 0, _, _, bits => bits
  | k + 1, n, w, bits =>
    if v < w + 2 ^ k then plruTouch v k (2 * n + 1) w (setBit bits n)
    else plruTouch v k (2 * n + 2) (w + 2 ^ k) (if bit bits n then bits - 2 ^ n else bits)

def plruKey (l : Nat) : Nat := 2048 * sliceOf l + setOf l

def HoldS.touch (h : HoldS) (l way : Nat) : HoldS :=
  { h with plru := h.plru.modify (plruKey l) (plruTouch way 4 0 0) }

/-! ### Accesses (R298) -/

/-- R305: a request enters its channel's window. -/
def State.ddrRequest (s : State) (r : MemReq) : State :=
  s.modHold fun h => { h with window := h.window.modify (chanOf64 (64 * r.line)) fun w => w ++ [r] }

/-- R298, R313: the line is dropped; a dirty one is written back, and so is a poisoned one. -/
def State.evict (s : State) (x : HLine) : State :=
  let s := if x.dirty || x.poison then s.ddrRequest
      { line := x.line, write := true, key := 0, at_ := s.now, core := 0, noAlloc := true, poison := x.poison } else s
  s.modHold fun h => { h with lines := h.lines.filter fun y => y.line ≠ x.line }

/-- R298, R299: agent x's miss on line l allocates it, where it may: a free way, or the way the tree names. -/
def State.allocate (s : State) (x l : Nat) (dirty : Bool) : State :=
  let ok := s.waysFor x l
  let inSet := s.hold.lines.filter fun y => plruKey y.line == plruKey l
  let way := match ok.find? fun w => !inSet.any fun y => y.way == w with
    | some w => w
    | none => plruWalk (s.hold.plru.get (plruKey l)) ok 4 0 0
  let bad := s.poisonedLine l
  let s := match inSet.find? fun y => y.way == way with
    | some y => s.evict y
    | none => s
  s.modHold fun h => ({ h with lines := ⟨l, way, dirty, bad⟩ :: h.lines }).touch l way

/-- R298: an access to line l that the hold cache does not hold: allocation or pass-through. -/
def State.holdMiss (s : State) (w : MemWho) (l : Nat) (acc : MemAcc) : State :=
  let req : MemReq := { line := l, write := false, key := w.key, at_ := s.now, core := w.core, noAlloc := w.noAlloc, stripe := w.stripe }
  if (w.noAlloc && (s.pinOf (64 * l)).isNone) || (s.waysFor w.agent l).isEmpty then
    s.ddrRequest (match acc with
      | .read => { req with noAlloc := true }
      | .fullWrite => { req with write := true, noAlloc := true }
      | .partWrite => { req with noAlloc := true, merge := true })
  else
    match acc with
    | .read => (s.allocate w.agent l false).ddrRequest req
    | .fullWrite => s.allocate w.agent l true
    | .partWrite => (s.allocate w.agent l true).ddrRequest req

/-- R298, R313: a slice serves an access to line l: hit, allocation or pass-through. A full-line write clears the line's
poison. -/
def State.holdAccess (s : State) (w : MemWho) (l : Nat) (acc : MemAcc) : State :=
  let s := if acc = .fullWrite then s.modHold fun h => h.renew fun m => m == l else s
  match s.hold.find l with
  | some y =>
    (s.obsAdd (1632 + sliceOf l) 1).modHold fun h => ({ h with lines := h.lines.map fun (z : HLine) =>
      if z.line = l then { z with dirty := z.dirty || decide (acc ≠ MemAcc.read) } else z }).touch l y.way
  | none => (s.obsAdd (1648 + sliceOf l) 1).holdMiss w l acc

/-! ### Reads and writes (R297, R298) -/

/-- Lines that a run of bytes touches. -/
def linesOf (a n : Nat) : Nat := if n = 0 then 0 else (a + n - 1) / 64 - a / 64 + 1

/-- The bytes of line l in a run of n bytes from a, as a mask. -/
def lineMask (a n l : Nat) : Nat :=
  let lo := max a (64 * l) - 64 * l
  2 ^ (min (a + n) (64 * l + 64) - 64 * l) - 2 ^ lo

/-- Lines are dropped, and what was written to them with them. -/
def HoldS.drop (h : HoldS) (p : HLine → Bool) : HoldS :=
  { h with lines := h.lines.filter fun x => !p x, fresh := h.fresh.filter fun e => !h.lines.any fun x => x.line == e.1 && p x }

/-- R297, R298: the lines of a run of bytes are accessed, lowest first; the bytes of a write are newer than what DDR5 holds. -/
def State.holdRun (s : State) (w : MemWho) (write : Bool) (a n : Nat) : State :=
  (List.range (linesOf a n)).foldl (fun s k =>
    let l := a / 64 + k
    if write then (s.holdAccess w l (if covers a n l then .fullWrite else .partWrite)).modHold fun h =>
      { h with fresh := h.fresh.modify l fun m => Nat.lor m (lineMask a n l) }
    else s.holdAccess w l .read) s

/-- R313: some line of a range is poisoned. -/
def State.poisonedRange (s : State) (a n : Nat) : Bool :=
  !s.hold.clean && (List.range (linesOf a n)).any fun k => s.poisonedLine (a / 64 + k)

/-- R297: a write to device memory, through the hold cache. -/
def State.memW (s : State) (w : MemWho) (a : Nat) (bs : List Byte) : State :=
  let s := s.holdRun w true a bs.length
  { s with mem := memWrites s.mem a bs }

/-- An agent that is no DMA queue and no intake: firmware, the fixed-function units and peers. -/
def State.asOwner (s : State) : MemWho := { key := s.now }

end Sys2Proof.Machine
end

