-- ==== Sys2Proof/Machine/Tunnel.lean ====
section
/-! DEFINITION. Tunnelled sensor control (R56 to R58) and the backchannel's own blocks (R49 to R54). -/
namespace Sys2Proof.Machine

/-! ### Backchannel blocks (R54) -/

/-- R54: NAK for q, with cause and attempt; counted in IXL_CNT_NAK, repeats included. -/
def State.sendNak (s : State) (p q cause attempt : Nat) : State :=
  let s := s.queueBlock p 3 0xD2 (q + cause * 2 ^ 16 + attempt * 2 ^ 18)
  if p < 16 then s.bump .IXL_CNT_NAK p clsLink (srcPort p) else s

/-- R51, R54: ACK of the last packet accepted in order. -/
def State.sendAck (s : State) (p : Nat) : State :=
  (s.queueBlock p 5 0x2D (s.port p).lastAcc).modPort p fun x => { x with accSince := 0 }

/-- R49, R50, R54: CREDIT with the cumulative credits; the freed credits are granted. -/
def State.sendCredit (s : State) (p : Nat) : State :=
  let x := s.port p
  let cum := (x.cumCredit + x.freed) % 65536
  (s.queueBlock p 6 0x66 cum).setPort p { x with cumCredit := cum, hubCredit := x.hubCredit + x.freed, freed := 0 }

/-- R50: credits of a packet are freed; eight or more are granted at once. -/
def State.freeCredits (s : State) (p n : Nat) : State :=
  let x := s.port p
  let s := s.setPort p { x with freed := x.freed + n, freedFrom := if x.freed = 0 then s.now else x.freedFrom }
  if 8 ≤ x.freed + n then s.sendCredit p else s

/-- R35, R50: the hub has spent n credits on a packet that is discarded, which frees them. -/
def State.discardPkt (s : State) (p n : Nat) : State :=
  (s.modPort p fun x => { x with hubCredit := x.hubCredit - n }).freeCredits p n

/-- R54: CAPS block of the device: version 0x01, credit unit 2^8 bytes, 256 initial credits. -/
def State.sendCaps (s : State) (p : Nat) : State := s.queueBlock p 4 0xAA (1 + 8 * 2 ^ 8 + 256 * 2 ^ 16)

/-! ### Transactions (R56 to R58) -/

/-- R56: payload of the CTL_BEGIN block. -/
def ctlBegin (tag : Nat) (r : TunnelReq) : Nat :=
  tag + r.slot * 2 ^ 8 + r.bus * 2 ^ 13 + r.combined * 2 ^ 14 + r.addr * 2 ^ 16 + r.ccc * 2 ^ 24 +
    r.wdata.length * 2 ^ 32 + r.rlen * 2 ^ 40

/-- R56: payloads of the CTL_DATA blocks, five bytes each. -/
def ctlData (tag : Nat) : Nat → List Byte → List Nat
  | 0, _ => []
  | k + 1, bs =>
    if bs.isEmpty then []
    else (tag + (bs.take 5).length * 2 ^ 8 + ofLE (bs.take 5) * 2 ^ 16) :: ctlData tag k (bs.drop 5)

/-- R58: a tag from t on that no outstanding transaction holds. -/
def freeTag (used : List Nat) : Nat → Nat → Nat
  | 0, t => t
  | k + 1, t => if used.contains (t % 256) then freeTag used k (t + 1) else t % 256

/-- R56, R58: begins a transaction on the backchannel. -/
def State.beginTunnel (s : State) (p : Nat) (r : TunnelReq) (who : TunnelFor) : State :=
  let x := s.port p
  let tag := freeTag (x.tunnels.map (·.tag)) 256 x.nextTag
  let s := s.queueBlock p 7 0x99 (ctlBegin tag r)
  let s := (ctlData tag (r.wdata.length + 1) r.wdata).foldl (fun s d => s.queueBlock p 7 0xA5 d) s
  s.setPort p { x with nextTag := (tag + 1) % 256
                       tunnels := x.tunnels ++ [{ tag := tag, req := r, began := s.now, who := who }] }

/-- R57: a transaction ends with a status and read data, and whoever asked for it learns. -/
def State.tunnelDone (s : State) (p : Nat) (who : TunnelFor) (status : Nat) (data : List Byte) : State :=
  match who with
  | .commit n => s.commitResp n status
  | .start n => s.startResp n status
  | .xfer c =>
    let d := bytesAt data 0 16
    if status = 0 then s.reply c stOk 0 (leAt d 0 8) (leAt d 8 8)
    else s.reply c stFault status (leAt d 0 8) (leAt d 8 8)
  | .remote pos tag => s.emit (.chainMsg pos (.tunnelResp (BitVec.ofNat 4 p)
      (leBytes 1 tag ++ leBytes 1 status ++ leBytes 1 data.length ++ leBytes 5 0 ++ data)))
  | .firmware => s

/-- R416: port p of another device is served here. -/
def State.isIn (s : State) (p : Nat) : Bool := bit (s.fld F.CHN_FWD_in) p
/-- R416: the other position of a port's forward. -/
def State.fwdPeer (s : State) (p : Nat) : Nat := s.fld F.CHN_FWD_PEER_peer p

/-- R416: a transaction for the backchannel of a port of another device. -/
def State.remoteTunnel (s : State) (p : Nat) (r : TunnelReq) (who : TunnelFor) : State :=
  let x := s.port p
  let tag := freeTag (x.tunnels.map (·.tag)) 256 x.nextTag
  let s := s.setPort p { x with nextTag := (tag + 1) % 256
                                tunnels := x.tunnels ++ [{ tag := tag, req := r, began := s.now, who := who }] }
  s.emit (.chainMsg (s.fwdPeer p) (.tunnel (BitVec.ofNat 4 p) tag r.slot r.bus r.combined r.addr r.ccc r.wdata r.rlen))

/-- R58: a request: it begins, is held while 16 are outstanding or others wait, or ends at once with LINK_LOST while
the port is not ACTIVE. -/
def State.tunnelRequest (s : State) (p : Nat) (r : TunnelReq) (who : TunnelFor) : State :=
  if s.isIn p then s.remoteTunnel p r who
  else if s.fld F.IXL_PORT_STATUS_state p ≠ 4 then s.tunnelDone p who 7 []
  else
    let x := s.port p
    if x.tunnels.length < 16 ∧ x.held = [] then s.beginTunnel p r who
    else s.setPort p { x with held := x.held ++ [{ tag := 0, req := r, began := 0, who := who }] }

/-- R36: every transaction outstanding or held ends with LINK_LOST. -/
def State.tunnelsLost (s : State) (p : Nat) : State :=
  let x := s.port p
  let s := s.setPort p { x with tunnels := [], held := [] }
  (x.tunnels ++ x.held).foldl (fun s t => s.tunnelDone p t.who 7 []) s

/-- R57, R58: a response: it ends its transaction, or is discarded and counted if no outstanding one has its tag. -/
def State.tunnelResponse (s : State) (p : Nat) (payload : List Byte) : State :=
  let tag := leAt payload 0 1
  match (s.port p).tunnels.find? fun t => t.tag == tag with
  | some t =>
    let s := s.modPort p fun x => { x with tunnels := x.tunnels.filter fun u => u.tag != tag }
    s.tunnelDone p t.who (leAt payload 1 1) (bytesAt payload 8 (leAt payload 2 1))
  | none => s.bump .IXL_CNT_DROP p clsLink (srcPort p)

/-- R115, R117: the transactions that carry a settings set to a camera's sensor. -/
def State.settingsReqs (s : State) (n : Nat) (t : ExpoSet) : List TunnelReq :=
  let ws := Config.profileWrites ((s.cam n).profile.getD []) ([t.e0, t.e1, t.e2].take (s.nExpo n))
  ws.map fun w => { slot := camSlot n, bus := w.1 % 2, combined := 0, addr := w.2.1 % 128, ccc := w.2.2.1 % 256,
                    wdata := w.2.2.2.take 255, rlen := 0 }

/-- Sends a camera's settings transactions in order. -/
def State.sendSettings (s : State) (n : Nat) (rs : List TunnelReq) (who : TunnelFor) : State :=
  rs.foldl (fun s r => s.tunnelRequest (camPort n) r who) s

end Sys2Proof.Machine
end

