-- ==== Sys2Proof/Machine/Exposure.lean ====
section
/-! DEFINITION. Exposure control and statistics (chapter 05): commits, the statistics block, the exposure and
white-balance loops. -/
namespace Sys2Proof.Machine

/-! ### Settings (R113 to R118) -/

/-- R113: guard in µs; a value below 100 is treated as 100. -/
def State.guardUs (s : State) (n : Nat) : Nat := max 100 (s.fld F.CAM_EXPO_CFG_guard_us n)

/-- R114: a settings word as it is treated: an exposure of 0 as 1 µs, a gain below 0x040 as 0x040. -/
def treatWord (w : Nat) : Nat := max 1 (getBits w 0 20) + max 0x40 (getBits w 20 12) * 2 ^ 20

/-- R118: a settings word with its exposure limited to lim µs. -/
def limitWord (w lim : Nat) : Nat :=
  let w := treatWord w
  min (getBits w 0 20) lim + getBits w 20 12 * 2 ^ 20

/-- R118: the greatest exposure a commit binds. -/
def State.expoLimit (s : State) (n : Nat) : Nat := max (s.fld F.CAM_PERIOD_period_us n - s.guardUs n) 1

/-- R118: the limited set. -/
def State.limitSet (s : State) (n : Nat) (t : ExpoSet) : ExpoSet :=
  let l := s.expoLimit n
  { t with e0 := limitWord t.e0 l, e1 := limitWord t.e1 l, e2 := limitWord t.e2 l }

/-- R118: some exposure of the set is above the limit. -/
def State.overLimit (s : State) (n : Nat) (t : ExpoSet) : Bool :=
  ([t.e0, t.e1, t.e2].take (s.nExpo n)).any fun w => decide (s.expoLimit n < getBits (treatWord w) 0 20)

/-- R104: the first tick from k on that the camera takes. -/
def State.nextTick (s : State) (n k : Nat) : Nat := ceilDiv k (s.fld F.CAM_TRIG_CFG_div_minus1 n + 1) * (s.fld F.CAM_TRIG_CFG_div_minus1 n + 1)

/-- R105: the camera's first schedule instant after the stamp st, while its schedule runs. -/
def State.nextInstant (s : State) (n st : Nat) : Option Nat :=
  let g := s.fld F.CAM_TRIG_CFG_sched n
  if s.flag F.CAM_CFG_free_run n ∨ s.flag F.SYN_SCHED_CTL_enable g = false then none
  else
    let k := s.nextTick n (s.time.sched.get g).first
    let i := s.instantOf n k
    let d := s.fld F.CAM_TRIG_CFG_div_minus1 n + 1
    if st < i then some i
    else some (s.instantOf n (k + ((st - i) / (s.fld F.SYN_SCHED_PERIOD_period g * d) + 1) * d))

/-- R116: the commit deadline of a commit at a frame whose FRAME_START (or start deadline) is stamped st; true with a
deadline that follows the schedule. -/
def State.commitDeadline (s : State) (n st : Nat) : Nat × Bool :=
  match s.nextInstant n st with
  | some t => (t - s.guardUs n * 1000, true)
  | none => (st + s.periodNs n - s.guardUs n * 1000, false)

/-- R115: the staged set that a commit point with stamp st takes. -/
def State.commitsNow (s : State) (n st : Nat) : Option ExpoSet :=
  match (s.cam n).commit, (s.cam n).staged with
  | none, some t => if st < (s.cam n).stagedAt then none else some t
  | _, _ => none

/-- R113, R115: the commit point of frame q, stamped st: the enables as they stand come into force, and the set staged by
then, if any, is committed unless transactions of an earlier commit are outstanding. -/
def State.commitPoint (s : State) (n q st : Nat) : State :=
  let s := s.enablesNow n
  match s.commitsNow n st with
  | none => s
  | some t =>
      let f := q + s.fld F.CAM_EXPO_CFG_delay n
      let u := s.limitSet n t
      let dl := s.commitDeadline n st
      let s := if s.overLimit n t then s.setEvt F.CAM_EXPO_STATUS_clamped n else s
      let rs := s.settingsReqs n u
      let c : Commit := { s := q, f := f, deadline := dl.1, fromSched := dl.2, left := rs.length, worst := 0, set := u, orig := t }
      let s := (s.modCam n fun x => { x with staged := none, commit := some c }).setRegN .CAM_EXPO_TARGET n f
      if rs = [] then s.commitOutcome n c else s.sendSettings n rs (.commit n)

/-- R114, R126: a set is staged, and the registers read it back. -/
def State.stageSet (s : State) (n : Nat) (t : ExpoSet) : State :=
  (((s.setRegN .CAM_EXPO_NEXT0 n t.e0).setRegN .CAM_EXPO_NEXT1 n t.e1).setRegN .CAM_EXPO_NEXT2 n t.e2).modCam n
    fun c => { c with staged := some t, stagedAt := s.now }

/-- R114: a host write to CAM_EXPO_NEXTj: ignored with host_ignored while ae_en is 1; a write to NEXT0 stages the
three registers. -/
def State.expoWrite (s : State) (n j v : Nat) : State :=
  if s.loopOn n 8 then s.setEvt F.CAM_EXPO_STATUS_host_ignored n
  else if j = 0 then
    let s := s.setRegN .CAM_EXPO_NEXT0 n v
    s.modCam n fun c => { c with
      stagedAt := s.now
      staged := some { e0 := s.regN .CAM_EXPO_NEXT0 n, e1 := s.regN .CAM_EXPO_NEXT1 n, e2 := s.regN .CAM_EXPO_NEXT2 n } }
  else if j = 1 then s.setRegN .CAM_EXPO_NEXT1 n v
  else s.setRegN .CAM_EXPO_NEXT2 n v

/-- R128: a host write to CAM_WB_GAIN, ignored with host_ignored while awb_en is 1. -/
def State.wbWrite (s : State) (n v : Nat) : State :=
  if s.loopOn n 9 then s.setEvt F.CAM_EXPO_STATUS_host_ignored n
  else s.setRegN .CAM_WB_GAIN n (v % 2 ^ 30)

/-! ### Pixels (R121, R475) -/

/-- A byte of a row. -/
def byteAt (bs : List Byte) (i : Nat) : Nat := (bs.getD i 0).toNat

/-- R475: the code of pixel x in a row in CSI-2 packing, for b bits a code. -/
def pixelCode (b : Nat) (row : List Byte) (x : Nat) : Nat :=
  if b = 10 then
    byteAt row (5 * (x / 4) + x % 4) * 4 + byteAt row (5 * (x / 4) + 4) / 4 ^ (x % 4) % 4
  else if b = 12 then
    byteAt row (3 * (x / 2) + x % 2) * 16 + byteAt row (3 * (x / 2) + 2) / 16 ^ (x % 2) % 16
  else if b = 14 then
    let lows := byteAt row (7 * (x / 4) + 4) + byteAt row (7 * (x / 4) + 5) * 256 + byteAt row (7 * (x / 4) + 6) * 65536
    byteAt row (7 * (x / 4) + x % 4) * 64 + lows / 64 ^ (x % 4) % 64
  else if Config.raw16HighFirst then byteAt row (2 * x) * 256 + byteAt row (2 * x + 1)
  else byteAt row (2 * x) + byteAt row (2 * x + 1) * 256

/-- R121: a code left-aligned to 16 bits. -/
def v16 (b code : Nat) : Nat := code * 2 ^ (16 - b)

/-- R121: zone row of output row y: (j · H) // 12 ≤ y < ((j + 1) · H) // 12. -/
def zoneRow (h y : Nat) : Nat := ((List.range 12).find? fun j => decide (y < (j + 1) * h / 12)).getD 11

/-- R121: counts one pixel: row y, column x, value v. -/
def StatS.pixel (t : StatS) (w h clip y x v : Nat) : StatS :=
  let c := 2 * (y % 2) + x % 2
  let z := 4 * (16 * zoneRow h y + x * 16 / w) + c
  { hist := t.hist.bump (256 * c + v / 256) 1, sum := t.sum.bump z v, cnt := t.cnt.bump z 1,
    clip := if clip ≤ v then t.clip.bump c 1 else t.clip }

/-- R121: counts one received row under the exposure to which intake assigns it. -/
def State.statsRow (s : State) (n : Nat) (f : FrameS) (r : Nat) (bytes : List Byte) : FrameS :=
  let b := s.codeBits n
  let e := r % s.nExpo n
  let t := (List.range (s.width n)).foldl (fun (t : StatS) x =>
    t.pixel (s.width n) (s.outH n) f.clipLevel (r / s.nExpo n) x (v16 b (pixelCode b bytes x))) (f.stats.get e)
  { f with stats := f.stats.set e t, counted := f.counted + 1 }

/-! ### The statistics record (R121, R122, R124) -/

/-- R121: mean of channel c in zone z = 16·j + k; none where no pixel was counted. -/
def StatS.mean (t : StatS) (z c : Nat) : Option Nat :=
  let k := t.cnt.get (4 * z + c)
  if k = 0 then none else some (rneDivN (t.sum.get (4 * z + c)) k)

/-- R122: the zone is valid in every channel. -/
def StatS.zoneValid (t : StatS) (z : Nat) : Bool := (List.range 4).all fun c => t.cnt.get (4 * z + c) != 0

/-- R121: pixels counted in channel c. -/
def StatS.counted (t : StatS) (c : Nat) : Nat := ((List.range 192).map fun z => t.cnt.get (4 * z + c)).sum

/-- R122: the 5,696-byte block of an exposure. -/
def StatS.block (t : StatS) : List Byte :=
  ((List.range 1024).map fun i => leBytes 4 (t.hist.get i)).flatten ++
  ((List.range 768).map fun i => leBytes 2 ((t.mean (i / 4) (i % 4)).getD 0)).flatten ++
  ((List.range 4).map fun c => leBytes 4 (t.counted c)).flatten ++
  ((List.range 4).map fun c => leBytes 4 (t.clip.get c)).flatten ++ leBytes 32 0

/-- R122: the 96-byte header. -/
def State.statsHeader (s : State) (n : Nat) (f : FrameS) : List Byte :=
  let codes := fun e => Config.embedCodes ((s.cam n).profile.getD []) f.embed e
  let emb := ((List.range (s.nExpo n)).map fun e => leBytes 1 (codes e).1 ++ leBytes 1 (codes e).2).flatten
  leBytes 4 f.seq ++ leBytes 4 f.mark ++ leBytes 8 f.tFirst ++ leBytes 4 (f.tLast - f.tFirst) ++
  leBytes 4 (f.counted % 4096 + (s.nExpo n - 1) * 2 ^ 12) ++ f.recordBytes (s.nExpo n) ++
  leBytes 24 ((List.range 192).foldl (fun v z => if (f.stats.get 0).zoneValid z then v + 2 ^ z else v) 0) ++
  bytesAt (if f.embed = [] then [] else emb) 0 8 ++ leBytes 8 0

/-- R122: the whole statistics record. -/
def State.statsRecord (s : State) (n : Nat) (f : FrameS) : List Byte :=
  s.statsHeader n f ++ ((List.range (s.nExpo n)).map fun e => (f.stats.get e).block).flatten

/-- R124: mirrors the statistics record of a closed frame: bytes 4 onward, then bytes 0 to 3. -/
def State.statsMirror (s : State) (n q : Nat) : State :=
  if s.flag F.CAM_STATS_HOST_LO_enable n then
    let slot := if s.nExpo n = 1 then 8192 else if s.nExpo n = 2 then 12288 else 20480
    let a := s.pair .CAM_STATS_HOST_LO .CAM_STATS_HOST_HI n / 4096 * 4096 + slot * (q % 16)
    let bs := s.statsRecord n (s.frame n q)
    (s.ringWrite (s.cam n).holder (a + 4) (bs.drop 4)).ringWrite (s.cam n).holder a (bs.take 4)
  else s

/-- R120: the cross-check of embedded data, complete before the frame is CLOSED. -/
def State.crossCheck (s : State) (n q : Nat) : State :=
  let f := s.frame n q
  if s.loopOn n 10 ∧ s.flag F.IXL_SLOT_CFG_embed_en n then
    if (f.embed.filter (· != [])).length < s.fld F.CAM_GEOM_embed_lines n ∨ f.embed = [] then
      (s.setFrame n q { f with unverified := true }).camCount .CAM_CNT_EMBED_MISSING n clsExpo q
    else
      let pr := (s.cam n).profile.getD []
      let set := [f.set.e0, f.set.e1, f.set.e2].take (s.nExpo n)
      if (List.range (s.nExpo n)).all fun e => Config.embedCodes pr f.embed e == Config.sentCodes pr set e then s
      else (s.setFrame n q { f with mismatch := true, mark := setBit f.mark markExpoMismatch }).camCount
        .CAM_CNT_EXPO_MISMATCH n clsExpo q
  else s

/-! ### The loops (R125 to R129) -/

/-- R127: weight of zone (k, j). -/
def State.aeWeight (s : State) (n z : Nat) : Nat := getBits (s.regN .CAM_AE_WEIGHT (12 * n + z / 16)) (2 * (z % 16)) 2

/-- R126: the sums sw and sm over the valid zones of exposure 0. -/
def State.aeSums (s : State) (n : Nat) (t : StatS) : Nat × Nat :=
  (List.range 192).foldl (fun (a : Nat × Nat) z =>
    if t.zoneValid z then
      let m := fun c => (t.mean z c).getD 0
      let w := s.aeWeight n z
      (a.1 + w, a.2 + w * ((m 0 + m 1 + m 2 + m 3) / 4))
    else a) (0, 0)

/-- R126: the exposure and gain of exposure 0 that a step computes from the weighted mean m. -/
def State.aeSolve (s : State) (n m expo0 gain0 : Nat) : Nat × Nat :=
  let step := s.fld F.CAM_AE_CFG_step n
  let t := expo0 * gain0
  let tn := clampN (t * s.fld F.CAM_AE_CFG_target n / max m 1) (t * 16 / (16 + step)) (t * (16 + step) / 16)
  let gmin := max 0x40 (s.fld F.CAM_AE_LIM_GAIN_gain_min n)
  let eLo := max (s.fld F.CAM_AE_LIM_EXPO_expo_min n) 1
  let eHi := max (min (16 * s.fld F.CAM_AE_LIM_EXPO_expo_max n) (s.fld F.CAM_PERIOD_period_us n - s.guardUs n)) eLo
  let gHi := max (s.fld F.CAM_AE_LIM_GAIN_gain_max n) gmin
  let e0 := clampN (tn / gmin) eLo eHi
  (e0, clampN (tn / e0) gmin gHi)

/-- R126: one step of the exposure loop on frame q: the set to stage, if the step changes anything. -/
def State.aeStep (s : State) (n q : Nat) : Option ExpoSet :=
  let f := s.frame n q
  let sums := s.aeSums n (f.stats.get 0)
  if sums.1 = 0 then none
  else
    let m := rneDivN sums.2 sums.1
    let target := s.fld F.CAM_AE_CFG_target n
    if max m target - min m target ≤ s.fld F.CAM_AE_CFG_tol n * 64 then none
    else
      let x0 := getBits f.set.e0 0 20
      let eg := s.aeSolve n m x0 (getBits f.set.e0 20 12)
      let other := fun w =>
        let x := rneDivN (getBits w 0 20 * eg.1) (max x0 1)
        (if x < 2 ^ 20 then x else Config.wideExposure x % 2 ^ 20) + eg.2 * 2 ^ 20
      some { e0 := eg.1 % 2 ^ 20 + eg.2 * 2 ^ 20, e1 := if s.nExpo n < 2 then s.regN .CAM_EXPO_NEXT1 n else other f.set.e1,
             e2 := if s.nExpo n < 3 then s.regN .CAM_EXPO_NEXT2 n else other f.set.e2, byLoop := true }

/-- R125: at least half of height was counted, and the record carries no flag. -/
def State.statsUsable (s : State) (n q : Nat) : Bool :=
  let f := s.frame n q
  !f.uncertain && !f.mismatch && !f.unverified && decide (s.height n ≤ 2 * f.counted)

/-- R121: CFA channel (0 to 3) of the first red and of the first blue pixel; the others are green. -/
def State.redChan (s : State) (n : Nat) : Nat := s.fld F.CAM_EXPO_CFG_cfa n

/-- R129: the sums Sr, Sg and Sb over the neutral zones of exposure 0. -/
def State.awbSums (s : State) (n : Nat) (t : StatS) : Nat × Nat × Nat :=
  let lo := s.fld F.CAM_AWB_CFG_lo n * 256
  let hi := s.fld F.CAM_AWB_CFG_hi n * 256
  let red := s.redChan n
  let a := (List.range 192).foldl (fun (a : Nat × Nat × Nat) z =>
    let m := fun c => (t.mean z c).getD 0
    if t.zoneValid z && (List.range 4).all (fun c => decide (lo ≤ m c) && decide (m c ≤ hi)) then
      (a.1 + m red, a.2.1 + (m 0 + m 1 + m 2 + m 3 - m red - m (3 - red)), a.2.2 + m (3 - red))
    else a) (0, 0, 0)
  (a.1, a.2.1 / 2, a.2.2)

/-- R129: a gain moves toward its target. -/
def awbMove (old target k : Nat) : Nat := (clampI ((old : Int) + ((target : Int) - old) / 2 ^ k) 0x40 0x3FF).toNat

/-- R129: one step of the white-balance loop on frame q: the new CAM_WB_GAIN. -/
def State.awbStep (s : State) (n q : Nat) : Option Nat :=
  let a := s.awbSums n ((s.frame n q).stats.get 0)
  if a.1 = 0 ∨ a.2.1 = 0 ∨ a.2.2 = 0 then none
  else
    let k := s.fld F.CAM_AWB_CFG_k n
    let r := awbMove (max 0x40 (s.fld F.CAM_WB_GAIN_red n)) (rneDivN (256 * a.2.1) a.1) k
    let b := awbMove (max 0x40 (s.fld F.CAM_WB_GAIN_blue n)) (rneDivN (256 * a.2.1) a.2.2) k
    some (r + 0x100 * 2 ^ 10 + b * 2 ^ 20)

end Sys2Proof.Machine
end

