-- ==== Sys2Proof/Machine/Intake.lean ====
section
/-! DEFINITION. Frame intake (chapter 03): opening, filling, closing and missing frames; the line buffer, negatives and
ties. What a frame is bound to when it takes its number (R115, R128, R136, R160, R330, R395). -/
namespace Sys2Proof.Machine

/-! ### What is bound to a frame -/

/-- R395, R396: the policy entry of a camera in force. -/
def State.policyOf (s : State) (n : Nat) : CamPolicy := (s.sfl.table.get n).getD s.sfl.base

/-- R402: outputs of camera n that step G sheds: bit 0 display, bit 1 coding. -/
def State.govSheds (s : State) (n : Nat) : Nat :=
  let p := s.fld F.CAM_OUT_POLICY_prio n
  b2n (decide (3 + 2 * p ≤ s.govG)) + 2 * b2n (decide (4 + 2 * p ≤ s.govG))

/-- R74, R89: the next frame takes its sequence number; R240: it is captured while a calibration capture wants frames;
R330: a staged head set binds to it. -/
def State.takeSeq (s : State) (n : Nat) : Nat × State :=
  let q := s.regN .CAM_SEQ n
  let s := match (s.cam n).capture with
    | some k =>
      if 0 < k.left then
        s.modCam n fun c => { c with capture := some { k with left := k.left - 1, frames := k.frames ++ [q] } }
      else s
    | none => s
  let s := s.modCam n fun c => { c with headNow := c.headStaged.getD c.headNow, headStaged := none }
  (q, s.setRegN .CAM_SEQ n (q + 1))

/-- R119: what frame q is bound to when it takes its number. -/
def State.boundFrame (s : State) (n q trigSeq : Nat) : FrameS :=
  let c := s.cam n
  let b := c.bindFor q
  { seq := q, set := b.set, commitSeq := b.commitSeq, wb := s.regN .CAM_WB_GAIN n, trigSeq := trigSeq,
    uncertain := c.isUncertain q, ppb := s.fld F.CAM_PPB_SEL_copy n, head := c.headNow,
    pol := s.policyOf n, govShed := s.govSheds n, clipLevel := s.fld F.CAM_STATS_CFG_clip_level n,
    captured := match c.capture with | some k => k.frames.contains q | none => false }

/-- R115: what frame q is bound to where its number is a commit point with stamp st: with a settings delay of 0, the set
that it commits. -/
def State.boundAt (s : State) (n q trigSeq st : Nat) : FrameS :=
  let b := s.boundFrame n q trigSeq
  match s.commitsNow n st with
  | some t => if s.fld F.CAM_EXPO_CFG_delay n = 0 then { b with set := s.limitSet n t, commitSeq := q } else b
  | none => b

/-! ### Rows -/

/-- R284, R298: intake writes a negative's rows with no_alloc, and the key of the row's arrival stamp plus 50 µs. -/
def intakeWho (arrived : Nat) : MemWho := { noAlloc := true, key := arrived + 50000 }

/-- R70, R73: a row goes to the line buffer of an inline frame, or to the negative. -/
def State.storeRow (s : State) (n q r : Nat) (bytes : List Byte) : State :=
  let f := s.frame n q
  if f.inlinePath then
    s.modGroup (s.camSg n) fun g => { g with line := g.line ++ [{ seq := q, row := r, bytes := bytes, at_ := s.now }] }
  else if f.negSlot = 255 then s
  else s.memW (intakeWho s.now) (s.negAddr n f.negSlot r) bytes

/-- R75, R83: a row, received or filled, counts in the frame with an arrival stamp. -/
def FrameS.addRow (f : FrameS) (stamp : Nat) : FrameS :=
  { f with rows := f.rows + 1, tFirst := if f.rows = 0 then stamp else f.tFirst, tLast := stamp,
           stamps := f.stamps ++ [stamp] }

/-- R81: fills k missing rows: each copies the nearest earlier row received, else the row that revealed the gap, else
holds code 0. -/
def State.fillRows (s : State) (n q stamp : Nat) (reveal : List Byte) : Nat → State
  | 0 => s
  | k + 1 =>
    let f := s.frame n q
    let s := s.storeRow n q f.rows (f.lastRow.getD reveal)
    let s := s.modFrame n q fun f => { f.addRow stamp with
      mark := setBit (setBit f.mark markLinesFilled) markStatsPartial }
    (s.camCount .CAM_CNT_FILLED n clsIntake q).fillRows n q stamp reveal k

/-- R81: a row of code 0. -/
def State.zeroRow (s : State) (n : Nat) : List Byte := List.replicate (s.rowBytes n) 0

/-- R80, R122: the open frame closes as by FRAME_END, at an event with a stamp: missing rows are filled, the cross-check of
R120 is made, and the statistics record is complete. -/
def State.closeFrame (s : State) (n q stamp : Nat) : State :=
  let f := s.frame n q
  let s := s.fillRows n q stamp (s.zeroRow n) (s.height n - f.rows)
  let s := s.crossCheck n q
  let s := s.modFrame n q fun f => { f with st := 2, cur := none }
  let s := s.modCam n fun c => { c with
    openSeq := none
    aeDue := if s.loopOn n 8 then some q else c.aeDue
    awbDue := if s.loopOn n 9 then some q else c.awbDue }
  s.statsMirror n q

/-- Closes the camera's open frame, if any. -/
def State.closeOpen (s : State) (n : Nat) : State :=
  match (s.cam n).openSeq with
  | some q => s.closeFrame n q s.now
  | none => s

/-- R67, R80, R82: the close timeout of the open frame has passed: it closes as a FRAME_END would close it, at the instant
of the timeout. -/
def State.closeExpiry (s : State) (n : Nat) : State :=
  match (s.cam n).openSeq with
  | some q => if (s.frame n q).closeAt < s.now then s.closeFrame n q (s.frame n q).closeAt else s
  | none => s

/-- R71: the shares of frame q take the path and deadline of their stripes, and their place in the order. -/
def State.rePath (s : State) (n q : Nat) (l : List Share) : List Share :=
  (l.map fun (h : Share) =>
    if h.cam = n ∧ h.seq = q ∧ h.training = false then
      { h with inl := s.stripeInline n q h.stripe, deadline := s.stripeDeadline n q h.stripe }
    else h).foldr insertShare []

/-- R71: the rest of an inline frame goes to negative slot k: the buffered rows are copied, INLINE clears, the stripes
not yet started take the memory path and its deadline, and the inline carry becomes the group's memory-path carry (R26). -/
def State.divert (s : State) (n q k : Nat) : State :=
  let g := s.camSg n
  let rows := (s.group g).line.filter fun r => r.seq == q
  let s := s.modFrame n q fun f => { f with
      negSlot := k, inlinePath := false, inlineTo := (s.group g).startedTo n q, mark := putBits f.mark markInline 1 0 }
  let s := rows.foldl (fun s r => s.memW (intakeWho r.at_) (s.negAddr n k r.row) r.bytes) s
  let s := s.modGroup g fun x => { x with
    line := x.line.filter fun r => r.seq != q
    carryMem := match x.carryInline with | some c => if c.1 = q then some (n, c.1, c.2) else x.carryMem | none => x.carryMem
    carryMemRows := match x.carryInline with | some c => if c.1 = q then x.carryRows else x.carryMemRows | none => x.carryMemRows
    carryInline := none
    counters := x.counters.map fun e => (e.1, { e.2 with shares := s.rePath n q e.2.shares }) }
  s.camCount .CAM_CNT_DIVERT n clsIntake q

/-- R71: the line buffer of the frame's group is full. -/
def State.lineFull (s : State) (n q : Nat) : Bool :=
  (s.frame n q).inlinePath && decide (96 ≤ (s.group (s.camSg n)).line.length)

/-- R80, R81, R121: a whole row is taken: the rows before it that are missing are filled, it is stored and measured, and
the frame closes with its last row. -/
def State.takeRow (s : State) (n q r : Nat) (bytes : List Byte) : State :=
  let f := s.frame n q
  let s := s.fillRows n q s.now bytes (r - f.rows)
  let s := s.storeRow n q r bytes
  let s := s.modFrame n q fun f => { s.statsRow n (f.addRow s.now) r bytes with lastRow := some bytes }
  let s := if f.rows = 0 then s.modFrame n q fun f => { f with closeAt := f.tFirst + s.closeTimeout n } else s
  if r + 1 = s.height n then s.closeFrame n q s.now else s

/-- R71: a row of the frame arrives: an overrun of the line buffer diverts the frame, or, where no negative slot is free,
clears INLINE; then this row and each later one that finds the buffer full is lost. -/
def State.arriveRow (s : State) (n q r : Nat) (bytes : List Byte) : State :=
  if s.lineFull n q then
    if bit (s.frame n q).mark markInline = false then s
    else
      match s.negFree n with
      | some k => (s.divert n q k).takeRow n q r bytes
      | none =>
        (s.modFrame n q fun f => { f with mark := putBits f.mark markInline 1 0 }).camCount .CAM_CNT_DIVERT n clsIntake q
  else s.takeRow n q r bytes

/-! ### Packets (R79, R80) -/

/-- R79, R80: a packet or row is discarded and counted in CAM_CNT_MALFORMED. -/
def State.malformed (s : State) (n : Nat) : State := s.camCount .CAM_CNT_MALFORMED n clsIntake

/-- R80: a VIDEO packet of camera n: a segment of row `line`. -/
def State.intakeVideo (s : State) (n line : Nat) (last : Bool) (payload : List Byte) : State :=
  if (s.cam n).discard then s
  else
    match (s.cam n).openSeq with
    | none => s.malformed n
    | some q =>
      let f := s.frame n q
      if s.height n ≤ line ∨ line < f.rows then s.malformed n
      else
        let seg := match f.cur with
          | some c => if c.1 = line then c.2 ++ payload else payload
          | none => payload
        if last then
          let s := s.modFrame n q fun f => { f with cur := none }
          if seg.length = s.rowBytes n then s.arriveRow n q line seg else s.malformed n
        else s.modFrame n q fun f => { f with cur := some (line, seg) }

/-- R80, R120: an EMBED packet of camera n. -/
def State.intakeEmbed (s : State) (n line : Nat) (payload : List Byte) : State :=
  if (s.cam n).discard then s
  else
    match (s.cam n).openSeq with
    | none => s.malformed n
    | some q => s.modFrame n q fun f => 
        { f with embed := (setAt (f.embed ++ List.replicate (line + 1 - f.embed.length) []) line
                            ((f.embed.getD line []) ++ payload)) }

/-- R80: a FRAME_END of camera n. -/
def State.intakeEnd (s : State) (n : Nat) : State :=
  if (s.cam n).discard then s
  else
    match (s.cam n).openSeq with
    | none => s.malformed n
    | some q => s.closeFrame n q s.now

/-- R76, R79: the packets of the slot are discarded up to the next FRAME_START. -/
def State.discardSlot (s : State) (n : Nat) : State := s.modCam n fun c => { c with discard := true }

/-- R331: ADAPT_SWAP marks a frame whose head set differs from that of the frame opened before it. -/
def State.swapHead (s : State) (n q : Nat) : State :=
  let h := (s.frame n q).head
  let s := if (s.cam n).headOpen = h then s else s.setMark n q markAdaptSwap
  s.modCam n fun c => { c with headOpen := h }

/-- R159: outputs frame q carries: bit 0 display, 1 coding, 2 machine vision. -/
def State.carried (s : State) (n q : Nat) : Nat :=
  s.fld F.CAM_OUT_DISP_en n +
  2 * (if q % (s.fld F.CAM_OUT_CODE_DIV_div_minus1 n + 1) = 0 then s.fld F.CAM_OUT_CODE_en n else 0) +
  4 * s.fld F.CAM_OUT_MV_en n

/-- R161, R162, R402: outputs of frame q are shed: their bits, the mark and the counter. -/
def State.shedOutputs (s : State) (n q bits : Nat) : State :=
  let f := s.frame n q
  let new := Nat.land bits (s.carried n q)
  if new = 0 then s
  else
    let s := s.setFrame n q { f with shed := Nat.lor f.shed new, mark := setBit f.mark markOutputShed }
    if Nat.land f.shed 3 = 0 then s.camCount .CAM_CNT_OUT_SHED n clsOutput q else s

/-- R136: the copy in force is bound to the frame that has just taken its number. -/
def State.bindCopy (s : State) (n : Nat) : State := s.setFld F.CAM_PPB_SEL_bound n (s.fld F.CAM_PPB_SEL_copy n)

/-- R70, R73, R76, R442: a FRAME_START that is accepted opens a frame. -/
def State.openFrame (s : State) (n trigSeq sensorSeq : Nat) : State :=
  let s := s.closeOpen n
  let t := s.takeSeq n
  let q := t.1
  let s := t.2.modCam n fun c => { c with
    freeRun := if t.2.flag F.CAM_CFG_free_run n then some (s.now + s.periodNs n + s.startTimeout n) else c.freeRun }
  if !(s.frame n q).isFinal then (((s.camCount .CAM_CNT_NOSLOT n clsIntake q).discardSlot n).bindCopy n).captureGone n q
  else
    let b := s.boundAt n q trigSeq s.now
    let f := { b with sensorSeq := sensorSeq, startStamp := s.now, closeAt := s.now + s.closeTimeout n }
    let s := s.bindCopy n
    let s := s.modCam n fun c => { c with discard := false }
    let inl := s.flag F.CAM_CFG_inline n
    if inl ∧ (s.group (s.camSg n)).resetBy = none then
      let s := s.setFrame n q { f with st := 1, inlinePath := true, mark := 0x4000 }
      (((s.modCam n fun c => { c with openSeq := some q }).swapHead n q).shedOutputs n q f.govShed).commitPoint n q s.now
    else
      match s.negFree n with
      | some k =>
        let s := if inl then s.camCount .CAM_CNT_DIVERT n clsIntake q else s
        let s := s.setFrame n q { f with st := 1, negSlot := k }
        (((s.modCam n fun c => { c with openSeq := some q }).swapHead n q).shedOutputs n q f.govShed).commitPoint n q s.now
      | none =>
        let s := s.setFrame n q { f with st := 1 }
        let s := ((s.finalize n q 5).camCount .CAM_CNT_NOSLOT n clsIntake q).discardSlot n
        s.commitPoint n q s.now

/-- R76, R78: the next frame is recorded as missed, or only counted while its entry is not final. R79: a trigger recorded as
missed is remembered. -/
def State.missFrame (s : State) (n trigSeq stamp : Nat) : State :=
  let t := s.takeSeq n
  let q := t.1
  let s := t.2.camCount .CAM_CNT_MISSED n clsIntake q
  if !(s.frame n q).isFinal then ((s.camCount .CAM_CNT_NOSLOT n clsIntake q).bindCopy n).captureGone n q
  else
    let s := s.setFrame n q { s.boundAt n q trigSeq stamp with mark := 4 }
    let s := s.modCam n fun c => { c with missed := if trigSeq = 0x3FFF then c.missed else trigSeq :: c.missed }
    let s := s.bindCopy n
    (s.finalize n q 4).commitPoint n q stamp

/-- R78: the start deadline of the oldest expected trigger, or of a free-running camera, has passed: a frame is missed.
The next trigger's deadline is a command of its own. -/
def State.missDeadline (s : State) (n : Nat) : State :=
  if s.stream n ≠ 2 then s
  else if s.flag F.CAM_CFG_free_run n then
    match (s.cam n).freeRun with
    | some d =>
      if d < s.now then
        (s.modCam n fun c => { c with freeRun := some (d + s.periodNs n + s.startTimeout n) }).missFrame n 0x3FFF d
      else s
    | none => s
  else
    match (s.cam n).expect with
    | t :: ts =>
      if t.deadline < s.now then
        (s.modCam n fun c => { c with expect := ts }).missFrame n t.seq t.deadline
      else s
    | [] => s

/-- R78, R82: the close timeout and the start deadlines that passed before a packet of the slot arrives take effect first. -/
def State.overdue (s : State) (n : Nat) : State :=
  let s := s.closeExpiry n
  let k := if s.flag F.CAM_CFG_free_run n then
      match (s.cam n).freeRun with
      | some d => (s.now - d) / max 1 (s.periodNs n + s.startTimeout n) + 1
      | none => 0
    else (s.cam n).expect.length
  (List.range k).foldl (fun s _ => s.missDeadline n) s

/-- R79: a FRAME_START that opens nothing: the open frame closes (the hub has left it), and the slot's packets are
discarded. -/
def State.refuseStart (s : State) (n : Nat) (r : RegName) : State :=
  (((s.closeOpen n).camCount r n clsIntake)).discardSlot n

/-- R79, R164: a FRAME_START of a camera that takes none: it is dropped, and the discard of R80 ends with it. -/
def State.strayStart (s : State) (n : Nat) : State :=
  ((s.closeOpen n).modCam n fun c => { c with discard := false }).malformed n

/-- R79: a FRAME_START that names no trigger still expected: stale if that was recorded as missed. -/
def State.refuseLate (s : State) (n trigSeq : Nat) : State :=
  s.refuseStart n (if (s.cam n).missed.contains trigSeq then .CAM_CNT_STALE else .CAM_CNT_MALFORMED)

/-- R79, R80, R164: a FRAME_START of camera n. -/
def State.intakeStart (s : State) (n trigSeq sensorSeq : Nat) : State :=
  let st := s.stream n
  let takes := st == 2 || (st == 3 && (match (s.cam n).stop with
    | some t => !t.abort && decide (s.now ≤ t.p)
    | none => false))
  if !takes then s.strayStart n
  else if s.flag F.CAM_CFG_free_run n then s.openFrame n 0x3FFF sensorSeq
  else if trigSeq = 0x3FFF then s.refuseStart n .CAM_CNT_MALFORMED
  else
    match (s.cam n).expect.find? fun t => t.seq == trigSeq with
    | some t =>
      let s := s.modCam n fun c => { c with expect := c.expect.filter fun u => u.seq != trigSeq }
      if s.now ≤ t.deadline then s.openFrame n trigSeq sensorSeq
      else (s.missFrame n trigSeq t.deadline).refuseLate n trigSeq
    | none => s.refuseLate n trigSeq

/-- R59: a mark and its fills on every open frame of a port that a retrain or disable closes. -/
def State.closeByLink (s : State) (n : Nat) : State :=
  match (s.cam n).openSeq with
  | some q =>
    (s.modFrame n q fun f => { f with
      mark := setBit (setBit (setBit f.mark markLinkCrc) markLinesFilled) markStatsPartial }).closeFrame n q s.now
  | none => s

end Sys2Proof.Machine
end

