-- ==== Sys2Proof/Machine/Link.lean ====
section
/-! DEFINITION. Isarex link ports and the bring-up that chain ports share (chapter 02, R410, R411): bring-up, packets,
credits, acknowledgement, replay, retrain, wire load. Ports 0 to 15 are IXL0 to IXL15, 16 is CHU, 17 is CHD. -/
namespace Sys2Proof.Machine

/-! ### Port state (R34, R38, R426) -/

def pDown : Nat := 0
def pCdr : Nat := 1
def pBlockLock : Nat := 2
def pCaps : Nat := 3
def pActive : Nat := 4
def pFault : Nat := 6

/-- R34, R426: state code of a port; state 3 of a chain port is POS. -/
def State.portState (s : State) (p : Nat) : Nat :=
  if p < 16 then s.fld F.IXL_PORT_STATUS_state p
  else if p = 16 then s.fld F.CHN_STATUS_chu_state else s.fld F.CHN_STATUS_chd_state

def State.setPortState (s : State) (p v : Nat) : State :=
  if p < 16 then s.setFld F.IXL_PORT_STATUS_state p v
  else if p = 16 then s.setFld F.CHN_STATUS_chu_state 0 v else s.setFld F.CHN_STATUS_chd_state 0 v

/-- R60, R426: counts on the port's own register or on the chain's. -/
def State.portCount (s : State) (p : Nat) (ixl chn : RegName) : State :=
  if p < 16 then s.bump ixl p clsLink (srcPort p) else s.bump chn 0 clsChain (srcBlock 0x12)

/-- R59, R476: a link event: its bit sets and it is logged with its code. -/
def State.linkEvt (s : State) (p : Nat) (f : Fld) (code : Nat) : State :=
  if p < 16 then (s.setEvt f p).logEvent clsLink (srcPort p) code else s

/-- R33: the receive word clock is recovered. -/
def State.setWclk (s : State) (p v : Nat) : State := if p < 16 then s.setFld F.IXL_PORT_STATUS_wclk_lock p v else s

/-! ### Wire load (R47, R48) -/

/-- R47: wire bytes of a packet with b payload bytes. -/
def wireBytes (b : Nat) : Nat := ceilDiv b 8 * 8 + 32

/-- R43, R47: wire bytes of a row of b bytes in segments of 2,048. -/
def wireRow (b : Nat) : Nat := b / 2048 * wireBytes 2048 + (if b % 2048 = 0 then 0 else wireBytes (b % 2048))

/-- R47: wire bytes of one frame of a camera. -/
def State.wireFrame (s : State) (n : Nat) : Nat :=
  let lines := if s.flag F.IXL_SLOT_CFG_embed_en n then s.fld F.CAM_GEOM_embed_lines n else 0
  2 * wireBytes 0 + (s.height n + lines) * wireRow (s.rowBytes n)

/-- R47: a camera's wire load in bit/s. -/
def State.wireLoad1 (s : State) (n : Nat) : Frac := (s.wireFrame n * 8 * 1000000, max 1 (s.fld F.CAM_PERIOD_period_us n))

/-- R47: wire load of the given cameras. -/
def State.wireLoad (s : State) (ns : List Nat) : Frac := Frac.sum (ns.map s.wireLoad1)

/-- R47: the limit at a lane rate code. -/
def rateLimit (rate : Nat) : Frac := if rate = 1 then (9680000000, 1) else (24200000000, 1)

/-- R48: the limit admission applies to a port. -/
def State.portLimit (s : State) (p : Nat) : Frac :=
  if s.portState p = pActive then rateLimit (s.fld F.IXL_PORT_STATUS_rate_in_force p)
  else rateLimit (s.fld F.IXL_PORT_CFG_rate p)

/-! ### Forwarded ports (R416, R417) -/

/-- R416: port p is forwarded to another device. -/
def State.isOut (s : State) (p : Nat) : Bool := bit (s.fld F.CHN_FWD_out) p
/-- R59: a link event reaches the frames of a port. -/
def State.frameEffect (s : State) (p : Nat) (c : FwdCtl) : State :=
  match c with
  | .linkDown => (portCams p).foldl (fun s n => s.closeByLink n) s
  | .packetsLost => (portCams p).foldl (fun s n =>
      match (s.cam n).openSeq with | some q => s.setMark n q markLinkCrc | none => s) s
  | .replayed slot =>
      match (s.cam (32 * p + slot.toNat)).openSeq with
      | some q => s.setMark (32 * p + slot.toNat) q markReplayed
      | none => s
  | .caps hub slots => (s.setReg .IXL_HUB_CAPS p hub).setReg .IXL_SLOTS_PRESENT p slots
  | .trigger _ _ _ => s

/-- R59, R417: a link event takes effect on the frames here, or is sent to the device that serves the port. -/
def State.linkEffect (s : State) (p : Nat) (c : FwdCtl) : State :=
  if p < 16 then (if s.isOut p then s.emit (.chainCtl (s.fwdPeer p) p c) else s.frameEffect p c) else s

/-! ### Leaving ACTIVE, retrain and bring-up (R34, R36, R37) -/

/-- R36: the blocks that wait for the backchannel end with the replay and credit state and the transactions they belong to. -/
def State.dropBlocks (s : State) (p : Nat) : State := { s with tx := s.tx.modify p fun t => { t with queue := [] } }

/-- R36: what leaving ACTIVE does at once. -/
def State.leaveActive (s : State) (p : Nat) : State :=
  let s := s.linkEffect p .linkDown
  let s := s.dropBlocks p
  let s := s.modPort p fun x => { x with replay := none, freed := 0, accSince := 0, cumCredit := 256, hubCredit := 256 }
  s.tunnelsLost p

/-- R34: lane rate of attempt k. -/
def attemptRate (cfg k : Nat) : Nat := if cfg = 1 then 1 else if cfg = 2 ∧ 4 ≤ k then 1 else 0

/-- R34: attempt k of a bring-up begins, from CDR, or from BLOCK_LOCK at the lane rate in use. The first takes the rate
written last (R37). -/
def State.beginAttempt (s : State) (p k : Nat) (fromLock : Bool) : State :=
  let s := s.modPort p fun x => { x with
    attempt := k, waiting := false, since := s.now, locked := false,
    rateCfg := if k = 1 then s.fld F.IXL_PORT_CFG_rate p else x.rateCfg }
  let s := if p < 16 then
      let s := s.setFld F.IXL_PORT_STATUS_attempts p (satAdd 8 (s.fld F.IXL_PORT_STATUS_attempts p) 1)
      if fromLock then s
      else s.setFld F.IXL_PORT_STATUS_rate_in_force p (attemptRate (s.port p).rateCfg k)
    else s
  if fromLock then s.setPortState p pBlockLock else (s.setWclk p 0).setPortState p pCdr

/-- R410: a chain port enters FAULT, which is logged. -/
def State.portFault (s : State) (p code : Nat) : State :=
  let s := s.setPortState p pFault
  if p < 16 then
    let s := s.linkEvt p F.IXL_LINK_EVT_fault code
    match (s.port p).resetBy with
    | some c => (s.modPort p fun x => { x with resetBy := none }).reply c stFault
    | none => s
  else s.logEvent clsChain (srcBlock 0x12) 0x01

/-- R34: an attempt fails with a fault code: the port waits 1 ms, or after 8 attempts enters FAULT. -/
def State.attemptFail (s : State) (p code : Nat) : State :=
  let s := if p < 16 then s.setFld F.IXL_PORT_STATUS_last_fault p code else s
  let s := s.portCount p .IXL_CNT_RETRAIN .CHN_CNT_RETRAIN
  let s := s.modPort p fun x => { x with since := s.now, locked := false }
  if 8 ≤ (s.port p).attempt then s.portFault p code
  else (s.modPort p fun x => { x with waiting := true }).setPortState p pCdr

/-- R34, R36: an active port retrains, with a fault code; the bring-up continues at BLOCK_LOCK if the receive clock stays
recovered. -/
def State.retrain (s : State) (p code : Nat) (clock : Bool) : State :=
  let s := s.leaveActive p
  let s := if p < 16 then s.setFld F.IXL_PORT_STATUS_last_fault p code else s
  let s := s.portCount p .IXL_CNT_RETRAIN .CHN_CNT_RETRAIN
  (s.linkEvt p F.IXL_LINK_EVT_retrain code).beginAttempt p 1 clock

/-- R37: enable written to 0: DOWN at once, with the effects of R36. -/
def State.portDown (s : State) (p : Nat) : State :=
  let s := if s.portState p = pActive then s.leaveActive p else s
  let s := s.modPort p fun x => { x with attempt := 0, waiting := false, locked := false, since := s.now }
  (s.setWclk p 0).setPortState p pDown

/-- R37: a write of IXL_PORT_CFG. -/
def State.portCfgWrite (s : State) (p v : Nat) : State :=
  let was := s.fld F.IXL_PORT_CFG_enable p
  let s := if getBits v 8 2 = 3 then s else s.setFld F.IXL_PORT_CFG_rate p (getBits v 8 2)
  let s := s.setFld F.IXL_PORT_CFG_enable p (getBits v 0 1)
  if getBits v 0 1 = 0 then (if was = 1 then s.portDown p else s)
  else if was = 0 then
    (s.setFld F.IXL_PORT_STATUS_attempts p 0).beginAttempt p 1 false
  else if getBits v 1 1 = 1 ∧ s.portState p = pActive then s.retrain p 0x9 true
  else s

/-- R34: limit of a bring-up state in ns. -/
def stateLimit (st : Nat) : Nat := if st = pCdr then 1000000 else if st = pBlockLock then 100000 else 500000

/-- R34: code of a missed limit. -/
def limitCode (st : Nat) : Nat := if st = pCdr then 1 else if st = pBlockLock then 2 else 4

/-- R34: the port is in a bring-up state with a limit. -/
def State.inBringup (s : State) (p : Nat) : Bool :=
  let st := s.portState p
  (st == pCdr || st == pBlockLock || st == pCaps) && !(s.port p).waiting

/-- R34, R82: the limit of the present state has passed; an event at the limit is in time. -/
def State.limitPassed (s : State) (p : Nat) : Bool :=
  decide ((s.port p).since + stateLimit (s.portState p) < s.now)

/-- R34: a bring-up step is reached: the next state begins, or the attempt has ended because the limit has passed. -/
def State.bringupStep (s : State) (p : Nat) (next : State → State) : State :=
  if s.limitPassed p then s.attemptFail p (limitCode (s.portState p))
  else next (s.modPort p fun x => { x with since := s.now })

/-- R34: CDR: signal detected and receive clock recovered. -/
def State.signalDetected (s : State) (p : Nat) : State :=
  if s.portState p = pCdr ∧ (s.port p).waiting = false then
    s.bringupStep p fun s => (s.setWclk p 1).setPortState p pBlockLock
  else s

/-- R33, R34, R410: block lock is gained: CAPS is entered and the CAPS block sent, or POS and the POS block. -/
def State.blockLockGained (s : State) (p : Nat) : State :=
  if s.portState p = pBlockLock ∧ (s.port p).waiting = false then
    s.bringupStep p fun s =>
      let s := (s.modPort p fun x => { x with locked := true }).setPortState p pCaps
      if p < 16 then s.sendCaps p else s.emit (.posBlock p (s.fld F.CHN_STATUS_pos))
  else s

/-- R33, R411: block lock is lost. -/
def State.blockLockLost (s : State) (p : Nat) : State :=
  if s.portState p = pActive then s.retrain p 0x3 true
  else s.modPort p fun x => { x with locked := false }

/-- R34: the 1 ms wait after a failed attempt ends. -/
def State.retryWaitEnd (s : State) (p : Nat) : State :=
  if (s.port p).waiting ∧ (s.port p).since + 1000000 ≤ s.now then s.beginAttempt p ((s.port p).attempt + 1) false else s

/-- R30, R36: the recovered word clock is lost. -/
def State.wordClockLoss (s : State) (p : Nat) : State :=
  if s.portState p = pActive then (s.setWclk p 0).retrain p 0x3 false
  else if s.inBringup p ∧ s.portState p ≠ pCdr then
    ((s.setWclk p 0).modPort p fun x => { x with locked := false, since := s.now }).setPortState p pCdr
  else s

/-- R48: a bring-up ends ACTIVE: overload sets and is logged where the rate's limit is below the wire load. -/
def State.checkOverload (s : State) (p : Nat) : State :=
  if Frac.le (s.wireLoad ((portCams p).filter s.started)) (rateLimit (s.fld F.IXL_PORT_STATUS_rate_in_force p)) then s
  else s.linkEvt p F.IXL_LINK_EVT_overload 0x0A

/-! ### Packets (R35, R40 to R45, R49 to R53) -/

/-- R42: one step of CRC-32C over a bit. -/
def crcBit (c : Nat) : Nat := if c % 2 = 1 then Nat.xor (c / 2) 0x82F63B78 else c / 2
/-- R42: CRC-32C register after a byte. -/
def crcByte (c : Nat) (b : Byte) : Nat :=
  crcBit (crcBit (crcBit (crcBit (crcBit (crcBit (crcBit (crcBit (Nat.xor c b.toNat))))))))
/-- R42: CRC-32C: polynomial 0x1EDC6F41 reflected, initial value and final exclusive-or 0xFFFFFFFF. -/
def crc32c (bs : List Byte) : Nat := Nat.xor (bs.foldl crcByte 0xFFFFFFFF) 0xFFFFFFFF

/-- R41: header word 0. -/
def pktWord0 (k : Packet) : Nat :=
  k.ptype.toNat + 1 * 2 ^ 4 + k.slot.toNat * 2 ^ 8 + k.dt.toNat * 2 ^ 16 + k.line.toNat * 2 ^ 24 + k.len.toNat * 2 ^ 36 +
    k.frameSeq.toNat * 2 ^ 48
/-- R41: header word 1. -/
def pktWord1 (k : Packet) : Nat :=
  k.pseq.toNat + k.segOffset.toNat * 2 ^ 16 + b2n k.lastSeg * 2 ^ 32 + b2n k.replay * 2 ^ 33 + k.trigSeq.toNat * 2 ^ 34
/-- R40, R41: header and padded payload, as the CRC covers them. -/
def pktBytes (k : Packet) : List Byte :=
  leBytes 8 (pktWord0 k) ++ leBytes 8 (pktWord1 k) ++ bytesAt k.payload 0 (ceilDiv k.len.toNat 8 * 8)

/-- R42: the CRC of the EOP block is the packet's. -/
def pktCrcOk (k : Packet) : Bool := k.crc.toNat == crc32c (pktBytes k)

/-- R33, R40: the packet is well framed. -/
def pktFramed (k : Packet) : Bool :=
  !k.badBlock && k.blocks == 2 + ceilDiv k.len.toNat 8 && decide (k.len.toNat ≤ 2048)

/-- R49: cost of a packet in credits. -/
def pktCost (k : Packet) : Nat := ceilDiv (16 + ceilDiv k.len.toNat 8 * 8) 256

/-- R44: subtype of a hub status packet. -/
def hubSubtype (k : Packet) : Nat := leAt k.payload 0 1
/-- R44: word 1 of a hub status packet. -/
def hubWord1 (k : Packet) : Nat := leAt k.payload 8 8

/-- R35, R45, R60: a packet or response is dropped and counted. -/
def State.dropPkt (s : State) (p : Nat) : State := s.portCount p .IXL_CNT_DROP .CHN_CNT_CRC

/-- R45: an accepted VIDEO packet passes the slot's filter. -/
def State.videoOk (s : State) (p : Nat) (k : Packet) : Bool :=
  let n := 32 * p + k.slot.toNat
  s.flag F.IXL_SLOT_CFG_en n && k.dt.toNat == s.fld F.IXL_SLOT_CFG_dt n

/-- R45: an accepted EMBED packet passes the slot's filter. -/
def State.embedOk (s : State) (p : Nat) (k : Packet) : Bool :=
  let n := 32 * p + k.slot.toNat
  s.flag F.IXL_SLOT_CFG_en n && s.flag F.IXL_SLOT_CFG_embed_en n && k.dt.toNat == 0x12

/-- R45, R57, R80: a camera packet reaches intake, stamped now. Deadlines that passed before it come first (R82). -/
def State.cameraPacket (s : State) (p : Nat) (k : Packet) : State :=
  let n := 32 * p + k.slot.toNat
  let t := k.ptype.toNat
  let s := if t = 5 then s else s.overdue n
  if t = 1 then
    if s.videoOk p k then s.intakeVideo n k.line.toNat k.lastSeg (bytesAt k.payload 0 k.len.toNat) else s.dropPkt p
  else if t = 2 then
    if s.embedOk p k then s.intakeEmbed n k.line.toNat (bytesAt k.payload 0 k.len.toNat) else s.dropPkt p
  else if t = 3 then s.intakeStart n k.trigSeq.toNat k.frameSeq.toNat
  else if t = 4 then s.intakeEnd n
  else s.tunnelResponse p (bytesAt k.payload 0 k.len.toNat)

/-- R416, R417, R425: a camera packet of a forwarded port goes to its target, or is discarded while the target is
absent. -/
def State.forwardPacket (s : State) (p : Nat) (k : Packet) : State :=
  if bit (s.fld F.CHN_STATUS_present) (s.fwdPeer p) && (s.chn.lostAt.get p).isNone then
    s.emit (.chainPkt (s.fwdPeer p) 1 p s.now (pktBytes k))
  else s.bump .CHN_CNT_FWD_DROP 0 clsChain (srcBlock 0x12)

/-- R35: the hub's CAPS fields: protocol version, replay buffer in KiB, trigger latency. -/
def capsFields (k : Packet) : Nat × Nat × Nat := (leAt k.payload 1 1, leAt k.payload 2 1, leAt k.payload 3 2)

/-- R34 to R36, R55: the hub's CAPS packet is accepted: the port is ACTIVE, with the initial credits, so a CREDIT block
of the credits before them goes no more. -/
def State.enterActive (s : State) (p : Nat) (k : Packet) : State :=
  let c := capsFields k
  let s := s.setRegN .IXL_HUB_CAPS p (c.2.2 + c.2.1 * 2 ^ 16 + c.1 * 2 ^ 24)
  let s := s.setRegN .IXL_HUB_ID p (hubWord1 k / 2 ^ 32)
  let s := s.setRegN .IXL_SLOTS_PRESENT p (hubWord1 k)
  let s := if s.isOut p then s.linkEffect p (.caps (s.reg .IXL_HUB_CAPS p) (s.reg .IXL_SLOTS_PRESENT p)) else s
  let s := s.modPort p fun x => { x with
    expect := 1, lastAcc := 0, accSince := 1, ackFrom := s.now, replay := none, trigSeq := 0, cumCredit := 256,
    hubCredit := 256 - pktCost k, freed := 0 }
  let s := { s with tx := s.tx.modify p fun t => { t with queue := t.queue.filter fun b => b.typ != 0x66 } }
  let s := (s.setPortState p pActive).freeCredits p (pktCost k)
  let s := s.checkOverload p
  match (s.port p).resetBy with
  | some c => (s.modPort p fun x => { x with resetBy := none }).reply c stOk
  | none => s

/-- R35: a packet in state CAPS: the hub's CAPS is accepted or refused; anything else is discarded and counted, and its
credits are free at once. -/
def State.capsState (s : State) (p : Nat) (k : Packet) : State :=
  if k.ptype = 6 ∧ hubSubtype k = 1 ∧ k.pseq = 0 ∧ pktCrcOk k ∧ pktFramed k then
    s.bringupStep p fun s =>
      if (capsFields k).1 ≠ 1 then (s.linkEvt p F.IXL_LINK_EVT_caps_refused 0x6).attemptFail p 0x6
      else if (capsFields k).2.1 < 64 then (s.linkEvt p F.IXL_LINK_EVT_caps_refused 0x5).attemptFail p 0x5
      else s.enterActive p k
  else (s.discardPkt p (pktCost k)).dropPkt p

/-- R44, R53: a hub status packet accepted while ACTIVE. -/
def State.hubStatus (s : State) (p : Nat) (k : Packet) : State :=
  let t := hubSubtype k
  if t = 1 then s.retrain p 0xB true
  else if t = 2 then
    let s := (s.setRegN .IXL_SLOTS_PRESENT p (hubWord1 k)).linkEvt p F.IXL_LINK_EVT_slot_change 0x0D
    if s.isOut p then s.linkEffect p (.caps (s.reg .IXL_HUB_CAPS p) (s.reg .IXL_SLOTS_PRESENT p)) else s
  else if t = 4 then (s.logEvent clsLink (srcPort p) (hubWord1 k % 2 ^ 32)).retrain p 0x8 true
  else s.dropPkt p

/-- R41, R44, R45: a packet accepted in sequence is handed on by its type. On a chain port what it carries is a command of
its own, and a reserved ctype is dropped (R412). -/
def State.dispatchPkt (s : State) (p : Nat) (k : Packet) : State :=
  let t := k.ptype.toNat
  if 16 ≤ p then (if 1 ≤ t ∧ t ≤ 6 then s else s.dropPkt p)
  else if t = 6 then s.hubStatus p k
  else if 1 ≤ t ∧ t ≤ 5 then (if s.isOut p ∧ t ≠ 5 then s.forwardPacket p k else s.cameraPacket p k)
  else s.dropPkt p

/-- R42, R51: the packet is accepted: the next pseq is expected, credits are freed, and every 16th is acknowledged. -/
def State.acceptPkt (s : State) (p : Nat) (k : Packet) : State :=
  let x := s.port p
  let s := s.setPort p { x with
    expect := (k.pseq.toNat + 1) % 65536, lastAcc := k.pseq.toNat, accSince := x.accSince + 1,
    ackFrom := if x.accSince = 0 then s.now else x.ackFrom }
  let s := s.freeCredits p (pktCost k)
  let s := if 16 ≤ x.accSince + 1 then s.sendAck p else s
  s.dispatchPkt p k

/-- R52: a packet fails with a cause while pseq q is expected: it is discarded, and on the first failure a NAK is sent
and the 10 µs replay timer starts. -/
def State.failPkt (s : State) (p cost cause : Nat) : State :=
  let s := if cause = 2 then s.portCount p .IXL_CNT_CREDIT_OVF .CHN_CNT_CRC
    else if cause = 1 then s else s.portCount p .IXL_CNT_CRC .CHN_CNT_CRC
  let s := s.freeCredits p cost
  let x := s.port p
  let waits := match x.replay with | some r => r.deadline.isSome | none => false
  if waits then s
  else
    let s := s.setPort p { x with replay := some { q := x.expect, cause := cause, attempt := 0, deadline := some (s.now + 10000) } }
    s.sendNak p x.expect cause 0

/-- R53: a REPLAY_GONE is accepted: the packets from q up to the oldest held are lost. -/
def State.replayGone (s : State) (p q : Nat) (k : Packet) : State :=
  let oldest := hubWord1 k % 65536
  let lost := (oldest + 65536 - q) % 65536
  let s := s.freeCredits p (pktCost k)
  let s := s.modPort p fun x => { x with
    expect := oldest, replay := some { q := oldest, cause := 0, attempt := 0, deadline := none } }
  if lost = 0 then s
  else
    let s := s.bump .IXL_CNT_LOST p clsLink (srcPort p) lost
    (s.linkEvt p F.IXL_LINK_EVT_replay_gone 0x0C).linkEffect p .packetsLost

/-- R52: pseq a is below pseq b, modulo 65,536. -/
def pseqBelow (a b : Nat) : Bool := let d := (b + 65536 - a) % 65536; decide (0 < d) && decide (d ≤ 32768)

/-- R52: a duplicate is discarded and counted. -/
def State.duplicatePkt (s : State) (p : Nat) (k : Packet) : State := (s.freeCredits p (pktCost k)).dropPkt p

/-- R42, R44, R52, R53: an intact packet within its credits, on an active port. A REPLAY_GONE takes no pseq of its own: one
that answers no NAK is dropped. -/
def State.sequencePkt (s : State) (p : Nat) (k : Packet) : State :=
  let x := s.port p
  match x.replay with
  | some r =>
    if k.pseq.toNat = r.q ∧ k.replay then
      if p < 16 ∧ k.ptype = 6 ∧ hubSubtype k = 3 then s.replayGone p r.q k
      else
        let s := s.modPort p fun x => { x with replay := none }
        if r.deadline.isNone then s.acceptPkt p k
        else if k.ptype = 3 then (s.acceptPkt p k).linkEffect p (.replayed k.slot)
        else if k.ptype = 1 ∨ k.ptype = 2 ∨ k.ptype = 4 then (s.linkEffect p (.replayed k.slot)).acceptPkt p k
        else s.acceptPkt p k
    else if pseqBelow k.pseq.toNat r.q then s.duplicatePkt p k
    else if r.deadline.isSome then s.freeCredits p (pktCost k)
    else s.failPkt p (pktCost k) 1
  | none =>
    if p < 16 ∧ k.ptype = 6 ∧ hubSubtype k = 3 then s.duplicatePkt p k
    else if k.pseq.toNat = x.expect then s.acceptPkt p k
    else if pseqBelow k.pseq.toNat x.expect then s.duplicatePkt p k
    else s.failPkt p (pktCost k) 1

/-- R39: control block types that the device recognises outside a packet: IDLE, SKIP, SOP and EOP. -/
def knownBlock (t : Byte) : Bool := t == 0x1E || t == 0x33 || t == 0x78 || t == 0x87

/-- R39: a control block outside any packet, once blocks are aligned: an unknown one is discarded and counted. -/
def State.strayBlock (s : State) (p : Nat) (t : Byte) : State :=
  if knownBlock t || !(s.portState p == pCaps || s.portState p == pActive) then s else s.dropPkt p

/-- A packet arrives on a port: R35 in state CAPS; R49 to R53 while ACTIVE; nothing is taken in other states. -/
def State.receive (s : State) (p : Nat) (k : Packet) : State :=
  let s := if p < 16 then s.obsAdd (1600 + p) (wireBytes k.len.toNat) else s
  if s.portState p = pCaps then (if p < 16 then s.capsState p k else s)
  else if s.portState p = pActive then
    let room := (s.port p).hubCredit
    let s := s.modPort p fun x => { x with hubCredit := x.hubCredit - pktCost k }
    if room < pktCost k then s.failPkt p (pktCost k) 2
    else
      if !pktCrcOk k then s.failPkt p (pktCost k) 0
      else if !pktFramed k then s.failPkt p (pktCost k) (if k.badBlock then 0 else 3)
      else s.sequencePkt p k
  else s

/-- R53, R82: the replay timer expires: the NAK is repeated, and after the fourth the port retrains. -/
def State.replayExpiry (s : State) (p : Nat) : State :=
  match (s.port p).replay with
  | some r =>
    match r.deadline with
    | some d =>
      if s.now ≤ d then s
      else if 3 ≤ r.attempt then s.retrain p 0x7 true
      else
        let s := s.modPort p fun x => { x with
          replay := some { r with attempt := r.attempt + 1, deadline := some (s.now + 10000) } }
        s.sendNak p r.q r.cause (r.attempt + 1)
    | none => s
  | none => s

end Sys2Proof.Machine
end

