-- ==== Sys2Proof/Machine/HoldCache.lean ====
section
/-! DEFINITION. The hold cache and the DDR5 controllers (R295 to R316). Device memory has one copy of every byte for every
agent of the device (R297), State.mem; here are where its lines are held, what leaves for DDR5, and what comes back. -/
namespace Sys2Proof.Machine

/-! ### DDR5 requests (R284, R305) -/

/-- R305: the choice between two requests: re-reads and sweeps, then those that have waited 20 µs, oldest first, then
the least key, then the first to arrive, then the lower core. -/
def MemReq.before (now : Nat) (a b : MemReq) : Bool :=
  let urgent := fun (r : MemReq) => r.sweep || decide (0 < r.rereads)
  let old := fun (r : MemReq) => decide (r.at_ + 20000 ≤ now)
  if urgent a != urgent b then urgent a
  else if old a != old b then old a
  else if old a then decide (a.at_ ≤ b.at_)
  else if a.key != b.key then decide (a.key < b.key)
  else if a.at_ != b.at_ then decide (a.at_ < b.at_) else decide (a.core ≤ b.core)

/-- The request that comes first. -/
def bestReq (now : Nat) : List MemReq → Option MemReq
  | [] => none
  | r :: rs => match bestReq now rs with
    | none => some r
    | some b => if r.before now b then some r else some b

/-! ### Block protection (R308 to R313) -/

/-- Big-endian bytes of a number. -/
def beBytes (n x : Nat) : List Byte := (leBytes n x).reverse

/-- R309: keystream of block l at version v, and the exclusive-or with 64 bytes. -/
def State.crypt (s : State) (l v : Nat) (bs : List Byte) : List Byte :=
  let ks := ((List.range 4).map fun j => beBytes 16 (Config.sm4 s.hold.ke (v * 2 ^ 64 + l * 2 ^ 8 + j))).flatten
  (bytesAt bs 0 64).zipWith (· ^^^ ·) ks

/-- R310: the first 8 bytes of a block's MAC tag. -/
def State.blockMac (s : State) (l v : Nat) (cipher : List Byte) : List Byte :=
  bytesAt (Config.cmac s.hold.ki (beBytes 16 (v * 2 ^ 64 + l) ++ cipher)) 0 8

/-- R310: the crc field of a block. -/
def blockCrc (cipher mac tag : List Byte) : Nat := crc32c (cipher ++ mac ++ tag)

def srcMem (l : Nat) : Nat := srcChan (chanOf64 (64 * l))

/-- R297, R311: DDR5 has been written with line l as memory has it: reads that were served before bring older bytes. -/
def HoldS.wrote (h : HoldS) (l : Nat) : HoldS :=
  { h with fresh := eraseAt h.fresh l, lines := h.lines.map fun x => if x.line = l then { x with dirty := false } else x
           inFlight := h.inFlight.map fun e => (e.1, e.2.map fun r => if r.line = l then { r with old := true } else r) }

/-- R311, R313: a block is written to DDR5 with the next version of its region; bad: as stored poison. -/
def State.ddrWrite (s : State) (l : Nat) (bad : Bool) : State :=
  let region := 64 * l / 2 ^ 21
  let k := s.hold.version.get region + 1
  let v := (s.hold.initWrites + k) % 2 ^ 64
  let cipher := s.crypt l v (memReads s.mem (64 * l) 64)
  let mac := s.blockMac l v cipher
  let mac := if bad then mac.map fun b => ~~~ b else mac
  let tag := leBytes 4 v
  let side := mac ++ leBytes 4 (blockCrc cipher mac tag) ++ tag
  let c := chanOf64 (64 * l)
  let s := (s.emit (.ddrWrite c l cipher side)).obsAdd (1624 + c) 64
  let s := s.modHold fun h => { h.wrote l with
    version := h.version.set region k
    stored := if bad then (if h.stored.contains l then h.stored else l :: h.stored) else h.stored.filter (· ≠ l) }
  if v % 2 ^ 31 = 0 then
    let s := s.modHold fun h => { h with sweeps := h.sweeps.set region 32768 }
    let s := s.setFld F.MEM_STATUS_sweeping 0 1
    s.ddrRequest { line := region * 32768, write := false, key := 0, at_ := s.now, core := 0, noAlloc := true, sweep := true }
  else s

/-- R311: the next block of a sweep, after block l has been rewritten, or the sweep's end. -/
def State.sweepNext (s : State) (l : Nat) : State :=
  let region := 64 * l / 2 ^ 21
  let left := s.hold.sweeps.get region - 1
  let s := s.modHold fun h => { h with sweeps := if left = 0 then eraseAt h.sweeps region else h.sweeps.set region left }
  if left = 0 then
    let s := s.bump .MEM_CNT_SWEEP 0 clsMem (srcMem l)
    if s.hold.sweeps.isEmpty then s.setFld F.MEM_STATUS_sweeping 0 0 else s
  else s.ddrRequest { line := l + 1, write := false, key := 0, at_ := s.now, core := 0, noAlloc := true, sweep := true }

/-- R311: a write of line l waits: a sweep has read it and not yet rewritten it, or the region's version would advance
2^30 beyond the start of its sweep, which has this many blocks left. -/
def State.sweepHolds (s : State) (l : Nat) : Bool :=
  let region := 64 * l / 2 ^ 21
  let left := s.hold.sweeps.get region
  (s.hold.inFlight.get (chanOf64 (64 * l))).any (fun r => r.sweep && r.line == l) ||
  (left != 0 && decide (2 ^ 30 ≤ (s.hold.initWrites + s.hold.version.get region) % 2 ^ 31 + left + 1))

/-- R311: a block is written to DDR5, once no sweep holds it back. -/
def State.writeBlock (s : State) (l : Nat) : State := if s.sweepHolds l then s else s.ddrWrite l (s.poisonedLine l)

/-- R305: channel c serves the eligible request that comes first, of the 64 reads and 64 writes of its window; timing names
the lines that DRAM timing holds back. -/
def State.ddrServe (s : State) (c : Nat) (timing : List Nat) : State :=
  let w := s.hold.window.get c
  let ok := fun (r : MemReq) => !timing.contains r.line && !(r.write && s.sweepHolds r.line)
  let urgent := w.filter fun r => !r.write && (r.sweep || decide (0 < r.rereads)) && ok r
  let reads := ((w.filter fun r => !r.write).take 64).filter ok
  let waiting := (w.filter fun r => r.write).take 64
  let writes := waiting.filter ok
  let old := (reads ++ writes).filter fun r => decide (r.at_ + 20000 ≤ s.now)
  let from_ :=
    if !urgent.isEmpty then urgent
    else if !old.isEmpty then old
    else if reads.isEmpty || (decide (48 ≤ waiting.length) && !writes.isEmpty) then writes else reads
  match bestReq s.now from_ with
  | none => s
  | some r =>
    let s := s.modHold fun h => { h with window := h.window.set c (w.erase r) }
    if r.write then s.ddrWrite r.line (r.poison || (s.hold.find r.line).any (·.poison))
    else s.modHold fun h => { h with inFlight := h.inFlight.modify c fun l => l ++ [r] }

/-- R313: the block that a read brings is poisoned: in the line held, or in the write of the line that waits; else a no_alloc
read delivers it so, or DDR5 holds it so. A line written in full since the read is none the worse. -/
def HoldS.taint (h : HoldS) (r : MemReq) (atDdr : Bool) : HoldS :=
  if r.superseded then h
  else if (h.find r.line).isSome then { h with lines := h.lines.map fun x => if x.line = r.line then { x with poison := true } else x }
  else if (h.waiting r.line).isSome then
    { h with window := h.window.map fun e => (e.1, e.2.map fun q => if q.write ∧ q.line = r.line then { q with poison := true } else q) }
  else if atDdr then { h with stored := if h.stored.contains r.line then h.stored else r.line :: h.stored }
  else { h with poisonRead := r.line :: h.poisonRead }

/-- R312 to R314: a block is poisoned anew, with a cause (1 CRC, 2 INTEGRITY). -/
def State.poisonBlock (s : State) (r : MemReq) (cause : Nat) : State :=
  let s := s.bump (if cause = 1 then .MEM_CNT_CRC_POISON else .MEM_CNT_MAC_FAIL) 0 clsMem (srcMem r.line)
  let s := s.logEvent clsMem (srcMem r.line) cause
  let s := s.setPair .MEM_POISON_ADDR_LO .MEM_POISON_ADDR_HI 0 (64 * r.line)
  s.modHold fun h => h.taint r (r.sweep || r.merge)

/-- A line's bytes, but for those of a mask, become what DDR5 returned. -/
def mergeLine (m : List Host.Cell) (l mask : Nat) (bs : List Byte) : List Host.Cell :=
  ((List.range 64).zip bs).foldl (fun m e => if bit mask e.1 then m else memWrite m (64 * l + e.1) e.2) m

/-- R297, R298: the block that a read brings: its bytes are memory's, but for those that have been written since. -/
def State.fill (s : State) (r : MemReq) (bs : List Byte) : State :=
  if r.superseded || r.old then s else { s with mem := mergeLine s.mem r.line (s.hold.fresh.get r.line) bs }

/-- R312, R313: a checked block is delivered, or found as stored poison. -/
def State.deliverBlock (s : State) (r : MemReq) (v : Nat) (cipher mac : List Byte) : State :=
  let m := s.blockMac r.line v cipher
  if mac = m then
    let s := if r.superseded || r.old then s else s.modHold fun h => { h with
      poisonRead := h.poisonRead.filter (· ≠ r.line), stored := h.stored.filter (· ≠ r.line) }
    s.fill r (s.crypt r.line v cipher)
  else if mac = m.map fun b => ~~~ b then
    (s.bump .MEM_CNT_POISON_READ 0 clsMem (srcMem r.line)).modHold fun h => h.taint r true
  else s.poisonBlock r 2

/-- R298, R311: after its read, a sweep's block is written again, and a partial write's is written merged. -/
def State.afterRead (s : State) (r : MemReq) : State :=
  if r.sweep then (s.ddrWrite r.line (s.poisonedLine r.line)).sweepNext r.line
  else if r.merge then s.ddrRequest { r with write := true, merge := false, rereads := 0, at_ := s.now, superseded := false, old := false
                                             poison := s.poisonedLine r.line }
  else s

/-- R312: a block read from DDR5 returns on channel c. -/
def State.ddrReturn (s : State) (c : Nat) (cipher side : List Byte) : State :=
  match s.hold.inFlight.get c with
  | [] => s
  | r :: rest =>
    let s := (s.modHold fun h => { h with inFlight := h.inFlight.set c rest }).obsAdd (1616 + c) 64
    let cipher := bytesAt cipher 0 64
    let mac := bytesAt side 0 8
    let tag := bytesAt side 12 4
    if leAt side 8 4 ≠ blockCrc cipher mac tag then
      if r.rereads < 3 then
        (s.bump .MEM_CNT_CRC_RETRY 0 clsMem (srcMem r.line)).ddrRequest { r with rereads := r.rereads + 1 }
      else
        (s.poisonBlock r 1).afterRead r
    else
      let ver := s.hold.initWrites + s.hold.version.get (64 * r.line / 2 ^ 21)
      let v := ver - (ver % 2 ^ 32 + 2 ^ 32 - ofLE tag) % 2 ^ 32
      (s.deliverBlock r v cipher mac).afterRead r

/-- R306: banks of a channel, which the spec does not count. -/
def dramBanks : Nat := max 1 Config.dramBanks

/-- R306: the controller refreshes the bank whose turn it is, at that bank's interval. -/
def State.refresh (s : State) (c : Nat) : State :=
  let b := s.hold.bank.get c
  let k := 8 * b + c
  if s.hold.refreshAt.get k ≤ s.time.tclk then
    let step := if s.flag F.MEM_STATUS_hot then 1950 else 3900
    let s := s.modHold fun h => { h with
      bank := h.bank.set c ((b + 1) % dramBanks), refreshAt := h.refreshAt.set k (h.refreshAt.get k + step) }
    s.emit (.refresh c b)
  else s

/-- R302: an error in the SRAM counts. -/
def State.countEcc (s : State) : State := s.setRegN .HLD_ECC_CNT 0 (satAdd 32 (s.regN .HLD_ECC_CNT) 1)

/-- R302, R313, R314: an access to line l finds an error in the line it hits. A clean line is dropped, so that the access is
served from DDR5; a dirty one is poisoned. -/
def State.holdEcc (s : State) (l : Nat) (err : SramErr) : State :=
  match err, s.hold.find l with
  | .corrected, some _ => s.countEcc
  | .uncorrectable, some x =>
    if x.dirty || x.poison then
      (s.countEcc.setPair .MEM_POISON_ADDR_LO .MEM_POISON_ADDR_HI 0 (64 * l)).modHold fun h => { h with
        lines := h.lines.map fun y => if y.line = l then { y with poison := true } else y }
    else s.countEcc.modHold fun h => { h with lines := h.lines.filter fun y => y.line ≠ l }
  | _, _ => s

/-- R300, R302, R313: an access to a line of the control region, named by its place in way 15, always hits; an uncorrectable
error poisons the line. -/
def State.controlAccess (s : State) (l : Nat) (err : SramErr) : State :=
  let s := s.obsAdd (1632 + sliceOf l) 1
  match err with
  | .none => s
  | .corrected => s.countEcc
  | .uncorrectable => s.countEcc.modHold fun h => { h with
      control := if h.control.contains (plruKey l) then h.control else plruKey l :: h.control }

/-- R298, R300, R302: an access reaches its slice. -/
def State.holdRequest (s : State) (w : MemWho) (l : Nat) (acc : MemAcc) (o : HoldFrom) : State :=
  if o.control then s.controlAccess l o.err else (s.holdEcc l o.err).holdAccess w l acc

end Sys2Proof.Machine
end

