-- ==== Sys2Proof/Machine/Formats.lean ====
section
/-! DEFINITION. Number formats and conversion (chapter 08): the twelve formats bit for bit, rounding, BG4 and its
products, array accumulation, and FP32 arithmetic. Real values are exact: a sign, a significand and a power of two. -/
namespace Sys2Proof.Machine

/-- R200: the formats, by code. -/
inductive Fmt
  | u12 | u16 | int4 | int8 | int16 | int32 | e4m3 | e5m2 | fp16 | bf16 | fp32 | bg4
deriving DecidableEq, Repr, Inhabited

/-- R200: the format of a 4-bit code; codes 0xC to 0xF name none. -/
def fmtOf (c : Nat) : Option Fmt :=
  [Fmt.u12, .u16, .int4, .int8, .int16, .int32, .e4m3, .e5m2, .fp16, .bf16, .fp32, .bg4][c]?

/-- R200: bits of an element. -/
def Fmt.bits : Fmt → Nat
  | .int4 | .bg4 => 4
  | .int8 | .e4m3 | .e5m2 => 8
  | .int32 | .fp32 => 32
  | _ => 16

/-- An exact value: NaN, an infinity, or (−1)^neg · m · 2^e, with a signed zero at m = 0. -/
inductive Num
  | nan
  | inf (neg : Bool)
  | num (neg : Bool) (m : Nat) (e : Int)
deriving DecidableEq, Repr, Inhabited

/-- R203: the parameters of a floating format. -/
structure FloatFmt where
  expBits : Nat
  man : Nat
  bias : Nat
  emax : Int
  qmax : Nat
  hasInf : Bool
  nanBits : Nat

/-- R203: the floating formats. -/
def Fmt.float : Fmt → Option FloatFmt
  | .e4m3 => some ⟨4, 3, 7, 8, 14, false, 0x7F⟩
  | .e5m2 => some ⟨5, 2, 15, 15, 7, true, 0x7E⟩
  | .fp16 => some ⟨5, 10, 15, 15, 2047, true, 0x7E00⟩
  | .bf16 => some ⟨8, 7, 127, 127, 255, true, 0x7FC0⟩
  | .fp32 => some ⟨8, 23, 127, 127, 16777215, true, 0x7FC00000⟩
  | _ => none

/-- R202: range of an integer format. -/
def Fmt.range : Fmt → Int × Int
  | .u12 => (0, 4095)
  | .u16 => (0, 65535)
  | .int4 => (-8, 7)
  | .int8 => (-128, 127)
  | .int16 => (-32768, 32767)
  | _ => (-2147483648, 2147483647)

/-! ### Decoding (R202 to R204, R211) -/

/-- R211: BG4 grid values by code; 0xF decodes to zero. -/
def bg4Grid (c : Nat) : Int :=
  [-128, -96, -72, -54, -38, -24, -11, 0, 11, 24, 38, 54, 72, 96, 128, 0].getD (c % 16) 0

/-- An integer as an exact value. -/
def Num.ofInt (i : Int) : Num := .num (decide (i < 0)) i.natAbs 0

/-- R203: the value of a floating encoding. -/
def FloatFmt.decode (f : FloatFmt) (b : Nat) : Num :=
  let s := bit b (f.expBits + f.man)
  let e := getBits b f.man f.expBits
  let m := getBits b 0 f.man
  let top := 2 ^ f.expBits - 1
  if f.hasInf ∧ e = top then (if m = 0 then .inf s else .nan)
  else if f.hasInf = false ∧ e = top ∧ m = 2 ^ f.man - 1 then .nan
  else if e = 0 then .num s m (1 - (f.bias : Int) - f.man)
  else .num s (2 ^ f.man + m) ((e : Int) - f.bias - f.man)

/-- R202, R203: the value of an element's bits; BG4 gives its grid value. -/
def Fmt.decode (f : Fmt) (b : Nat) : Num :=
  match f.float with
  | some g => g.decode b
  | none =>
    match f with
    | .u12 => .ofInt (b % 4096 : Nat)
    | .u16 => .ofInt (b % 65536 : Nat)
    | .bg4 => .ofInt (bg4Grid b)
    | f => .ofInt (toSigned f.bits b)

/-! ### Rounding (R205, R206, R210) -/

/-- rne(m · 2^e) for m ≥ 0. -/
def rneScaled (m : Nat) (e : Int) : Nat :=
  if 0 ≤ e then m * 2 ^ e.toNat
  else
    let k := (-e).toNat
    let q := m / 2 ^ k
    let r := m % 2 ^ k
    let h := 2 ^ k
    if h < 2 * r ∨ (2 * r = h ∧ q % 2 = 1) then q + 1 else q

/-- floor(log2 m) for m ≥ 1. -/
def ilog2 (m : Nat) : Nat := Nat.log2 m

/-- R206: (−1)^neg · m · 2^e, m > 0, converted to a floating format: the encoding and the clipped flag. -/
def FloatFmt.round (f : FloatFmt) (ovfInf neg : Bool) (m : Nat) (e : Int) : Nat × Bool :=
  let sgn := b2n neg * 2 ^ (f.expBits + f.man)
  let emin : Int := 1 - (f.bias : Int)
  let ex := max ((ilog2 m : Int) + e) emin
  let q := rneScaled m (e - (ex - f.man))
  let ex' := if q = 2 ^ (f.man + 1) then ex + 1 else ex
  let q' := if q = 2 ^ (f.man + 1) then 2 ^ f.man else q
  if f.emax < ex' ∨ (ex' = f.emax ∧ f.qmax < q') then
    if f.hasInf ∧ ovfInf then (sgn + (2 ^ f.expBits - 1) * 2 ^ f.man, true)
    else (sgn + (f.emax + f.bias).toNat * 2 ^ f.man + (f.qmax - 2 ^ f.man), true)
  else if q' < 2 ^ f.man then (sgn + q', false)
  else (sgn + (ex' + f.bias).toNat * 2 ^ f.man + (q' - 2 ^ f.man), false)

/-- R206, R207: conversion of an exact value to a floating format. -/
def FloatFmt.encode (f : FloatFmt) (ovfInf : Bool) : Num → Nat × Bool
  | .nan => (f.nanBits, false)
  | .inf neg =>
    let sgn := b2n neg * 2 ^ (f.expBits + f.man)
    if f.hasInf then (sgn + (2 ^ f.expBits - 1) * 2 ^ f.man, false)
    else (sgn + (f.emax + f.bias).toNat * 2 ^ f.man + (f.qmax - 2 ^ f.man), true)
  | .num neg m e => if m = 0 then (b2n neg * 2 ^ (f.expBits + f.man), false) else f.round ovfInf neg m e

/-- R210: sat(rne(x)) in an integer format: the value and the clipped flag. -/
def intOf (r : Int × Int) : Num → Int × Bool
  | .nan => (0, true)
  | .inf neg => (if neg then r.1 else r.2, true)
  | .num neg m e =>
    let v : Int := if neg then -(rneScaled m e : Int) else rneScaled m e
    if v < r.1 then (r.1, true) else if r.2 < v then (r.2, true) else (v, false)

/-- R206 to R210: conversion of an exact value to a format other than BG4: the element's bits and the clipped flag. -/
def Fmt.encode (f : Fmt) (ovfInf : Bool) (x : Num) : Nat × Bool :=
  match f.float with
  | some g => g.encode ovfInf x
  | none => let v := intOf f.range x; (ofSigned f.bits v.1, v.2)

/-! ### BG4 (R211, R212) -/

/-- m · 2^e ≤ n · 2^g, exactly. -/
def dyadicLe (m : Nat) (e : Int) (n : Nat) (g : Int) : Bool :=
  if e ≤ g then decide (m ≤ n * 2 ^ (g - e).toNat) else decide (m * 2 ^ (e - g).toNat ≤ n)

/-- R212: an FP32 value converted to BG4 with an FP32 scale: the code and the clipped flag. The comparisons are of
256 · |w| with 2 · |midpoint| · s. -/
def toBg4 (w s : Num) : Nat × Bool :=
  match s with
  | .num false sm se =>
    if sm = 0 then (7, true)
    else
      match w with
      | .nan => (7, true)
      | .inf neg => (if neg then 0x0 else 0xE, true)
      | .num neg m e =>
        let le := fun (mid2 : Nat) => dyadicLe (256 * m) e (mid2 * sm) se
        let k := ([11, 35, 62, 92, 126, 168, 224].filter fun t => !le t).length
        (if neg then 7 - k else 7 + k, !dyadicLe (256 * m) e (256 * sm) se)
  | _ => (7, true)

/-- R211: a BG4 code with a scale, as an exact value: v(c) · s / 128. -/
def ofBg4 (c : Nat) (s : Num) : Num :=
  let v := bg4Grid c
  match s with
  | .num neg m e => .num (neg != decide (v < 0)) (v.natAbs * m) (e - 7)
  | .inf neg => if v = 0 then .nan else .inf (neg != decide (v < 0))
  | .nan => .nan

/-- R213: the product of an activation and a grid value, built by shift and add. -/
def bg4Product (a : Int) (c : Nat) : Int :=
  let mag := fun (v : Nat) =>
    if v = 11 then a * 8 + a * 2 + a else if v = 24 then a * 16 + a * 8 else if v = 38 then a * 32 + a * 4 + a * 2
    else if v = 54 then a * 64 - a * 8 - a * 2 else if v = 72 then a * 64 + a * 8 else if v = 96 then a * 64 + a * 32
    else if v = 128 then a * 128 else 0
  let v := bg4Grid c
  if v < 0 then -(mag v.natAbs) else mag v.natAbs

/-- R221: a vector conversion of one element between formats, with the BG4 scale; none where R221 faults. -/
def convertElem (src dst : Fmt) (ovfInf : Bool) (scale : Num) (b : Nat) : Option (Nat × Bool) :=
  if src = dst then
    match src.float with
    | some g => some (if g.decode b = .nan then g.nanBits else b % 2 ^ src.bits, false)
    | none => some (if src = .u12 then b % 4096 else b % 2 ^ src.bits, false)
  else if dst = .bg4 then (if src = .fp32 then some (toBg4 (src.decode b) scale) else none)
  else if src = .bg4 then (if dst = .fp32 then some (dst.encode true (ofBg4 b scale)) else none)
  else some (dst.encode ovfInf (src.decode b))

/-! ### Exact arithmetic and FP32 (R218, R220) -/

/-- The exact product. -/
def Num.mul : Num → Num → Num
  | .nan, _ => .nan
  | _, .nan => .nan
  | .inf a, .inf b => .inf (a != b)
  | .inf a, .num b m _ => if m = 0 then .nan else .inf (a != b)
  | .num a m _, .inf b => if m = 0 then .nan else .inf (a != b)
  | .num a m e, .num b n g => .num (a != b) (m * n) (e + g)

/-- The exact sum; a zero sum is +0 unless both terms are −0. -/
def Num.add : Num → Num → Num
  | .nan, _ => .nan
  | _, .nan => .nan
  | .inf a, .inf b => if a = b then .inf a else .nan
  | .inf a, _ => .inf a
  | _, .inf b => .inf b
  | .num a m e, .num b n g =>
    let l := min e g
    let x : Int := (m * 2 ^ (e - l).toNat : Nat)
    let y : Int := (n * 2 ^ (g - l).toNat : Nat)
    let v := (if a then -x else x) + (if b then -y else y)
    if v = 0 then .num (a && b) 0 0 else .num (decide (v < 0)) v.natAbs l

/-- The negation. -/
def Num.neg : Num → Num
  | .nan => .nan
  | .inf a => .inf (!a)
  | .num a m e => .num (!a) m e

/-- x < y, for values that are not NaN. -/
def Num.lt (x y : Num) : Bool :=
  match Num.add x y.neg with
  | .nan => (match x, y with | .inf a, .inf b => a && !b | _, _ => false)
  | .inf a => a
  | .num a m _ => a && m != 0

/-- FP32 bits of an exact value; overflow gives infinity (R220). -/
def fp32Of (x : Num) : Nat := (Fmt.fp32.encode true x).1

/-- The exact value of FP32 bits. -/
def ofFp32 (b : Nat) : Num := Fmt.fp32.decode b

/-- R220: FP32 addition, subtraction, multiplication and fused multiply-add, each rounded once. -/
def fAdd (a b : Nat) : Nat := fp32Of ((ofFp32 a).add (ofFp32 b))
def fSub (a b : Nat) : Nat := fp32Of ((ofFp32 a).add (ofFp32 b).neg)
def fMul (a b : Nat) : Nat := fp32Of ((ofFp32 a).mul (ofFp32 b))
def fFma (a b c : Nat) : Nat := fp32Of (((ofFp32 a).mul (ofFp32 b)).add (ofFp32 c))

/-- R217: INT32 saturation of an exact integer, with its flag. -/
def satI32 (x : Int) : Int × Bool :=
  if x < -2147483648 then (-2147483648, true) else if 2147483647 < x then (2147483647, true) else (x, false)

/-- R217: accumulation of exact integer products: each addition saturates, and a saturation stays flagged. -/
def accInt (ps : List Int) : Int × Bool :=
  ps.foldl (fun a p => let r := satI32 (a.1 + p); (r.1, a.2 || r.2)) (0, false)

/-- R218: the exact sum of the products of one K block. -/
def blockSum (ps : List Num) : Num :=
  match ps with
  | [] => .num false 0 0
  | p :: t => t.foldl Num.add p

/-- R218: FP32 accumulation of the block sums in ascending order of K. -/
def accFloat (blocks : List (List Num)) : Nat :=
  blocks.foldl (fun acc ps => fp32Of ((ofFp32 acc).add (blockSum ps))) 0

/-! ### Array operand pairs (R181, R216, R219) -/

/-- R181: rate classes. -/
inductive Rate
  | c1 | c1B | c1Q | c4 | c16
deriving DecidableEq, Repr, Inhabited

/-- R216: rate class of a pair of activation and weight formats; none where the pair faults. -/
def pairRate : Fmt → Fmt → Option Rate
  | .int8, .int8 => some .c1
  | .int8, .int4 => some .c1
  | .int8, .bg4 => some .c1B
  | .int4, .int4 => some .c1Q
  | .e4m3, .e4m3 | .e4m3, .e5m2 | .e5m2, .e4m3 | .e5m2, .e5m2 => some .c1
  | .int16, .int16 | .int16, .int8 | .int16, .bg4 => some .c4
  | .int8, .int16 => some .c4
  | .fp16, .fp16 => some .c4
  | .bf16, .bf16 => some .c4
  | .fp32, .fp32 => some .c16
  | _, _ => none

/-- R216: the pair accumulates in FP32. -/
def pairFloat : Fmt → Bool
  | .e4m3 | .e5m2 | .fp16 | .bf16 | .fp32 => true
  | _ => false

/-- R181: cycles per position, K per block, weight bytes per block. -/
def Rate.cp : Rate → Nat
  | .c4 => 4
  | .c16 => 16
  | _ => 1
def Rate.kbk : Rate → Nat
  | .c1Q => 256
  | _ => 128
def Rate.wb : Rate → Nat
  | .c1B => 6144
  | .c4 => 24576
  | .c16 => 49152
  | _ => 12288

/-- R219: width of a result, by accumulator and output format; none where it faults. -/
def outWidth (isFloat : Bool) : Fmt → Option Nat
  | .int8 => if isFloat then none else some 1
  | .int16 => if isFloat then none else some 2
  | .int32 => if isFloat then none else some 4
  | .fp16 | .bf16 => some 2
  | .e4m3 | .e5m2 => some 1
  | .fp32 => if isFloat then some 4 else none
  | _ => none

/-- R213 to R215: product of one activation and one weight on the integer array. -/
def intProduct (wf : Fmt) (a : Int) (wbits : Nat) : Int :=
  if wf = .bg4 then bg4Product a wbits else a * toSigned wf.bits wbits

end Sys2Proof.Machine
end

