-- ==== Sys2Proof/Machine/Image.lean ====
section
/-! DEFINITION. The arithmetic of the fixed-function stages (chapter 06): develop, print, scalers, output formats, and the
layout of output slots. -/
namespace Sys2Proof.Machine

/-- rne_shr: shift right k ≥ 1 bits, rounding half to even. -/
def rneShr (x : Int) (k : Nat) : Int :=
  let q := x / 2 ^ k
  let r := x - q * 2 ^ k
  let h : Int := 2 ^ (k - 1)
  if h < r ∨ (r = h ∧ q % 2 = 1) then q + 1 else q

/-- sat_u16. -/
def satU16 (x : Int) : Nat := (clampI x 0 65535).toNat

/-! ### The parameter block (R134) -/

/-- R134: the parameter block copy bound to a frame: entries are read by offset. -/
structure Ppb where
  at_ : Nat
  mem : List Host.Cell

/-- R134: the copy c of a camera's parameter block. -/
def State.ppbOf (s : State) (n c : Nat) : Ppb :=
  { at_ := s.pair .CAM_PPB_BASE_LO .CAM_PPB_BASE_HI n / 4096 * 4096 + c * 0x5000, mem := s.visibleMem }

def Ppb.u16 (t : Ppb) (off : Nat) : Nat := ofLE (memReads t.mem (t.at_ + off) 2)
def Ppb.i16 (t : Ppb) (off : Nat) : Int := toSigned 16 (t.u16 off)
def Ppb.i32 (t : Ppb) (off : Nat) : Int := toSigned 32 (ofLE (memReads t.mem (t.at_ + off) 4))
def Ppb.lin (t : Ppb) (i : Nat) : Nat := t.u16 (2 * i)
def Ppb.grid (t : Ppb) (c j k : Nat) : Nat := t.u16 (0x2000 + 2 * (221 * c + 17 * j + k))
def Ppb.bl (t : Ppb) (c : Nat) : Nat := t.u16 (0x2800 + 2 * c)
def Ppb.norm (t : Ppb) (c : Nat) : Nat := t.u16 (0x2808 + 2 * c)
def Ppb.kneeLo (t : Ppb) : Nat := t.u16 0x2810
def Ppb.kneeHi (t : Ppb) : Nat := t.u16 0x2812
def Ppb.mergeShift (t : Ppb) : Nat := min 8 (memRead t.mem (t.at_ + 0x2814)).toNat
def Ppb.ccm (t : Ppb) (i j : Nat) : Int := t.i16 (0x2818 + 2 * (3 * i + j))
def Ppb.off (t : Ppb) (i : Nat) : Int := t.i32 (0x282C + 4 * i)
def Ppb.curve (t : Ppb) (ch p : Nat) : Nat := t.u16 (0x3000 + 2 * (1024 * ch + p))
def Ppb.coef (t : Ppb) (tab ph k : Nat) : Int := t.i16 (0x4800 + 512 * tab + 8 * ph + 2 * k)

/-! ### Develop (R132, R137 to R141) -/

/-- R138: linearisation of a code of b bits. -/
def linearise (t : Ppb) (b code : Nat) : Int :=
  let v := v16 b code
  let i := v / 16
  let f := v % 16
  let a : Int := t.lin i
  let n : Int := t.lin (min (i + 1) 4095)
  a + rneShr ((n - a) * f) 4

/-- R139: black level of channel c. -/
def blackLevel (t : Ppb) (c : Nat) (y : Int) : Nat :=
  let x := max (y - t.bl c) 0
  satU16 (rneShr (x * t.norm c) 12)

/-- R140: alpha of a value between the knees. -/
def kneeAlpha (t : Ppb) (v : Nat) : Int :=
  if v ≤ t.kneeLo then 256 else if t.kneeHi ≤ v then 0
  else rneDiv (((t.kneeHi : Int) - v) * 256) (t.kneeHi - t.kneeLo)

/-- R140: the exposures by ascending time, ties to the lower exposure first. -/
def insertExpo (t : Nat → Nat) (e : Nat) : List Nat → List Nat
  | [] => [e]
  | x :: xs => if t e < t x then e :: x :: xs else x :: insertExpo t e xs

/-- R140: exposure merge of the values z of n exposures with times t. -/
def mergeExpo (p : Ppb) (n : Nat) (z t : Nat → Nat) : Nat :=
  if n ≤ 1 then z 0
  else
    let order := (List.range n).foldl (fun l e => insertExpo t e l) []
    let top := t (order.getLastD 0)
    let ratio := fun e => rneDiv ((top : Int) * 256) (max 1 (t e))
    let sv := fun e => (satU16 (rneShr ((z e : Int) * ratio e) (8 + p.mergeShift)) : Int)
    let acc := (order.drop 1).foldl (fun (acc : Int) e =>
      let a := kneeAlpha p (z e)
      rneShr (a * sv e + (256 - a) * acc) 8) (sv (order.headD 0))
    acc.toNat

/-- R141: shading gain of channel c at column x, output row y (which may lie beyond the frame). -/
def shadeGain (p : Ppb) (w h c x : Nat) (y : Int) : Int :=
  let u := x * 4096 / w
  let k := u / 256
  let fx : Int := (u % 256 : Nat)
  let v := (clampI (y * 3072 / h) 0 3071).toNat
  let j := v / 256
  let fy : Int := (v % 256 : Nat)
  let top := p.grid c j k * (256 - fx) + p.grid c j (k + 1) * fx
  let bot := p.grid c (j + 1) k * (256 - fx) + p.grid c (j + 1) (k + 1) * fx
  rneShr (top * (256 - fy) + bot * fy) 16

/-- R132: the row that supplies input row y of a frame of h rows. -/
def reflectRow (h : Nat) (y : Int) : Nat :=
  if y < 0 then (-y).toNat else if (h : Int) ≤ y then (2 * ((h : Int) - 1) - y).toNat else y.toNat

/-- R26, R71, R73: the bytes of received row r of a frame, from the line buffer, the overlap slot or the negative. -/
def State.rawRow (s : State) (n q r : Nat) : List Byte :=
  let f := s.frame n q
  match (s.group (s.camSg n)).line.find? fun l => l.seq == q && l.row == r && f.inlinePath with
  | some l => l.bytes
  | none =>
    match (s.cam n).ovl.bind fun o => if o.1 = q then o.2.2.find? fun e => e.1 == r else none with
    | some e => e.2
    | none => if f.negSlot = 255 then [] else s.memR (s.negAddr n f.negSlot r) (s.rowBytes n)

/-- R140: exposure e's time, expo_us · gain, of a settings set. -/
def ExpoSet.time (t : ExpoSet) (e : Nat) : Nat :=
  let w := if e = 0 then t.e0 else if e = 1 then t.e1 else t.e2
  getBits w 0 20 * getBits w 20 12

/-- R137 to R141: one row of the developed plane, from the raw rows of a frame of e exposures taken with these times. -/
def State.developLine (s : State) (n e : Nat) (p : Ppb) (time : Nat → Nat) (raw : Nat → List Byte) (y : Int) : List Nat :=
  let src := reflectRow (s.outH n) y
  let rows := (List.range e).map fun j => raw (src * e + j)
  (List.range (s.width n)).map fun x =>
    let c := 2 * (src % 2) + x % 2
    let z := fun j => blackLevel p c (linearise p (s.codeBits n) (pixelCode (s.codeBits n) (rows.getD j []) x))
    let m := mergeExpo p e z time
    satU16 (rneShr ((m : Int) * shadeGain p (s.width n) (s.outH n) c x y) 12)

/-- R137 to R141: one developed row of a frame: output row y, reflected where it lies beyond the frame. -/
def State.developRow (s : State) (n q : Nat) (y : Int) : List Nat :=
  let f := s.frame n q
  s.developLine n (s.nExpo n) (s.ppbOf n f.ppb) f.set.time (s.rawRow n q) y

/-- R131, R137: the developed plane of stripe k: input rows 32k − 8 to 32k + 39. -/
def State.developStripe (s : State) (n q k : Nat) : List (List Nat) :=
  (List.range 48).map fun i => s.developRow n q (32 * (k : Int) - 8 + (i : Nat))

/-! ### Print (R146) -/

/-- R128: a gain below 0x040 is treated as 0x040. -/
def wbGain (w lo : Nat) : Nat := max 0x40 (getBits w lo 10)

/-- R146: tone curve of channel ch. -/
def toneCurve (p : Ppb) (ch x : Nat) : Nat :=
  let i := x / 64
  let f := x % 64
  let a : Int := p.curve ch i
  let n : Int := p.curve ch (min (i + 1) 1023)
  (a + rneShr ((n - a) * f) 6).toNat

/-- R146: one pixel through white balance, colour matrix and tone curves. -/
def printPixel (p : Ppb) (wb : Nat) (px : Nat × Nat × Nat) : Nat × Nat × Nat :=
  let r : Int := satU16 (rneShr ((px.1 : Int) * wbGain wb 0) 8)
  let g : Int := satU16 (rneShr ((px.2.1 : Int) * wbGain wb 10) 8)
  let b : Int := satU16 (rneShr ((px.2.2 : Int) * wbGain wb 20) 8)
  let o := fun i => satU16 (rneShr (p.ccm i 0 * r + p.ccm i 1 * g + p.ccm i 2 * b) 12 + p.off i)
  (toneCurve p 0 (o 0), toneCurve p 1 (o 1), toneCurve p 2 (o 2))

/-! ### Scalers (R147) -/

/-- R147: source position and phase of output sample o: (i, ph). -/
def scalePos (sN dN o : Nat) : Int × Nat :=
  let p : Int := ((2 * o + 1) * sN * 64 / (2 * dN) : Nat) - (32 : Int)
  (p / 64, (p % 64).toNat)

/-- R147: the four taps over a line. -/
def scaleSample (p : Ppb) (tab sN dN o : Nat) (v : Nat → Nat) : Nat :=
  let ip := scalePos sN dN o
  let tap := fun (t : Nat) => p.coef tab ip.2 t * v (clampI (ip.1 - 1 + (t : Int)) 0 (sN - 1)).toNat
  satU16 (rneShr (tap 0 + tap 1 + tap 2 + tap 3) 8)

/-- A channel of a pixel. -/
def chanOf (ch : Nat) (px : Nat × Nat × Nat) : Nat := if ch = 0 then px.1 else if ch = 1 then px.2.1 else px.2.2

/-- R147: horizontal pass over one tone row, for channel ch. -/
def scaleH (p : Ppb) (tab w d ch : Nat) (row : List (Nat × Nat × Nat)) (o : Nat) : Nat :=
  scaleSample p tab w d o fun i => chanOf ch (row.getD i (0, 0, 0))

/-- R147: pixel (ox, oy) of a d × e output of a w × h tone picture, whose scaler tables are tab and tab + 1. -/
def scaledPixel (p : Ppb) (tab w h d e : Nat) (tone : List (List (Nat × Nat × Nat))) (ox oy : Nat) : Nat × Nat × Nat :=
  let v := fun ch => scaleSample p (tab + 1) h e oy fun j => scaleH p tab w d ch (tone.getD j []) ox
  (v 0, v 1, v 2)

/-- R147: the last source row that output row oy needs, within the frame. -/
def lastSource (h e oy : Nat) : Nat := (clampI ((scalePos h e oy).1 + 2) 0 (h - 1)).toNat

/-! ### Formats (R148 to R150) -/

/-- R148: an 8-bit display sample. -/
def dispSample (v : Nat) : Nat := (clampI (rneShr v 8) 0 255).toNat

/-- R148: the bytes of a display pixel. -/
def dispBytes (fmt : Nat) (px : Nat × Nat × Nat) : List Byte :=
  let b := fun v => BitVec.ofNat 8 (dispSample v)
  if fmt = 0 then [b px.1, b px.2.1, b px.2.2] else [b px.2.2, b px.2.1, b px.1, 0xFF]

/-- R149: luma and chroma of a pixel, at 10 bits. -/
def lumaOf (px : Nat × Nat × Nat) : Nat :=
  (clampI (64 + rneShr (47678 * (px.1 : Int) + 160390 * px.2.1 + 16191 * px.2.2) 24) 0 1023).toNat
def cbOf (px : Nat × Nat × Nat) : Nat :=
  (clampI (512 + rneShr (-26281 * (px.1 : Int) - 88411 * px.2.1 + 114692 * px.2.2) 24) 0 1023).toNat
def crOf (px : Nat × Nat × Nat) : Nat :=
  (clampI (512 + rneShr (114692 * (px.1 : Int) - 104175 * px.2.1 - 10517 * px.2.2) 24) 0 1023).toNat

/-- R148: a coding sample: P010 in bits [15:6], or an NV12 byte. -/
def codeBytes (fmt v : Nat) : List Byte :=
  if fmt = 1 then leBytes 2 (v * 64) else leBytes 1 (clampI (rneShr v 2) 0 255).toNat

/-- R149: the chroma samples of the 2 × 2 block of four pixels. -/
def chromaOf (a b c d : Nat × Nat × Nat) : Nat × Nat :=
  ((rneShr (cbOf a + cbOf b + cbOf c + cbOf d : Nat) 2).toNat, (rneShr (crOf a + crOf b + crOf c + crOf d : Nat) 2).toNat)

/-- The exponent of the highest bit of x > 0. -/
def log2Floor : Nat → Nat → Nat
  | 0, _ => 0
  | k + 1, x => if x < 2 then 0 else 1 + log2Floor k (x / 2)

/-- R150: num / den · 2^−16 as FP16 bits, rounded to nearest even. -/
def fp16Of (v : Nat) : Nat :=
  if v = 0 then 0
  else
    let e := log2Floor 32 v
    if e ≤ 10 then
      -- exponent e − 16 ≥ −14 when e ≥ 2; below, subnormal: v · 2^−16 = (v · 2^8) · 2^−24
      if e < 2 then v * 256 else (e - 1) * 1024 + (v * 2 ^ (10 - e) - 1024)
    else
      let m := (rneShr v (e - 10)).toNat
      if m = 2048 then e * 1024 else (e - 1) * 1024 + (m - 1024)

/-- R150: a sample of an RGB plane: the mean of an f × f block of the print-stage input. -/
def rgbMean (lin : List (List (Nat × Nat × Nat))) (f h ch bx bby : Nat) : Nat :=
  let ys := (List.range f).filter fun i => decide (bby * f + i < h)
  let sum := (ys.map fun i => ((List.range f).map fun j => chanOf ch ((lin.getD (bby * f + i) []).getD (bx * f + j) (0, 0, 0))).sum).sum
  rneDivN sum (max 1 (ys.length * f))

/-! ### Slots (R151, R155, R159) -/

def State.dispBpp (s : State) (n : Nat) : Nat := if s.flag F.CAM_OUT_DISP_fmt n then 4 else 3
def State.codeBps (s : State) (n : Nat) : Nat := if s.flag F.CAM_OUT_CODE_fmt n then 2 else 1
def State.mvFactor (s : State) (n : Nat) : Nat := if s.flag F.CAM_OUT_MV_factor n then 4 else 8
def State.mvCols (s : State) (n : Nat) : Nat := s.width n / s.mvFactor n
def State.mvRows (s : State) (n : Nat) : Nat := ceilDiv (s.outH n) (s.mvFactor n)
def State.mvBps (s : State) (n : Nat) : Nat := if s.flag F.CAM_OUT_MV_fmt n then 2 else 1

/-- R144: bytes of one temporal-state buffer. -/
def State.tstateBytes (s : State) (n : Nat) : Nat :=
  let f := if s.flag F.CAM_TSTATE_CFG_factor n then 4 else 8
  ceilDiv (s.fld F.CAM_TSTATE_CFG_channels n * (s.width n / f) * ceilDiv (s.outH n) f) 4096 * 4096

/-- R148, R151: bytes of each output: display, coding, machine vision. -/
def State.outBytes (s : State) (n o : Nat) : Nat :=
  if o = 0 then (if s.flag F.CAM_OUT_DISP_en n then s.fld F.CAM_OUT_DISP_width n * s.fld F.CAM_OUT_DISP_height n * s.dispBpp n else 0)
  else if o = 1 then
    (if s.flag F.CAM_OUT_CODE_en n then s.fld F.CAM_OUT_CODE_width n * s.fld F.CAM_OUT_CODE_height n * 3 / 2 * s.codeBps n else 0)
  else
    (if s.flag F.CAM_OUT_MV_en n then
      s.mvCols n * s.mvRows n * (s.fld F.CAM_OUT_MV_channels n * s.mvBps n + (if s.flag F.CAM_OUT_MV_rgb_en n then 6 else 0))
    else 0)

/-- R151: offset of output o in a slot. -/
def State.outOffset (s : State) (n : Nat) : Nat → Nat
  | 0 => 4096
  | o + 1 => s.outOffset n o + ceilDiv (s.outBytes n o) 4096 * 4096

/-- R151: pages that the enabled outputs need. -/
def State.slotPages (s : State) (n : Nat) : Nat := s.outOffset n 3 / 4096

/-- R154, R155: host address of slot i. -/
def State.slotAddr (s : State) (n i : Nat) : Nat :=
  s.pair .CAM_OUT_BASE_LO .CAM_OUT_BASE_HI n / 4096 * 4096 + i * s.fld F.CAM_OUT_RING_slot_pages n * 4096

/-- Rows of output o. -/
def State.outRows (s : State) (n o : Nat) : Nat :=
  if o = 0 then s.fld F.CAM_OUT_DISP_height n else if o = 1 then s.fld F.CAM_OUT_CODE_height n else s.mvRows n

/-- R161: pool bytes of one row of output o: the floor's row. -/
def State.rowPool (s : State) (n o : Nat) : Nat :=
  if o = 0 then s.fld F.CAM_OUT_DISP_width n * s.dispBpp n
  else if o = 1 then s.fld F.CAM_OUT_CODE_width n * s.codeBps n * 3 / 2
  else s.mvCols n * (s.fld F.CAM_OUT_MV_channels n * s.mvBps n + (if s.flag F.CAM_OUT_MV_rgb_en n then 6 else 0))

/-- R161: the floor of a stream: one row of each enabled output. -/
def State.poolFloor (s : State) (n : Nat) : Nat :=
  (if s.flag F.CAM_OUT_DISP_en n then s.rowPool n 0 else 0) + (if s.flag F.CAM_OUT_CODE_en n then s.rowPool n 1 else 0) +
  (if s.flag F.CAM_OUT_MV_en n then s.rowPool n 2 else 0)

end Sys2Proof.Machine
end

