-- ==== Sys2Proof/Machine/ArrayUnit.lean ====
section
/-! DEFINITION. The array: timing, operands, requantisation and results (R181, R182, R185, R226 to R230, R256), over a
scratchpad as plain data. -/
namespace Sys2Proof.Machine

/-! ### Records (R185, R226) -/

/-- R185: a rescale entry. -/
structure Rescale where
  bias : Int
  mult : Nat
  shift : Nat
deriving DecidableEq, Repr

def rescaleOf (e : Nat) : Rescale := ⟨toSigned 32 (getBits e 0 32), getBits e 32 16, getBits e 48 6⟩

/-- R226: a layer record. -/
structure Layer where
  lmult : Nat
  lshift : Nat
  policy : Nat
  actEn : Bool
  zpOut : Int
  actLo : Int
  actHi : Int
  thr : Nat
  retakeNs : Nat
  remNs : Nat
  retakePc : Nat
  eBase : Nat
  nCh : Nat
deriving DecidableEq, Repr

def layerOf (b : List Byte) : Layer :=
  { lmult := leAt b 0 4, lshift := getBits (leAt b 4 1) 0 6, policy := getBits (leAt b 4 1) 6 2
    actEn := bit (leAt b 5 1) 0, zpOut := toSigned 16 (leAt b 6 2), actLo := toSigned 16 (leAt b 8 2)
    actHi := toSigned 16 (leAt b 10 2), thr := leAt b 12 4, retakeNs := leAt b 16 4, remNs := leAt b 20 4
    retakePc := getBits (leAt b 24 2) 0 12, eBase := getBits (leAt b 26 2) 0 10, nCh := getBits (leAt b 28 2) 0 11 }

/-! ### Timing (R182) -/

/-- R179: cycles to wheel position 0 from cycle t of the core. -/
def wheelAlign (t : Nat) : Nat := (8 - t % 8) % 8

/-- R182: weight blocks along K and along N. -/
def kBlocks (r : Rate) (k : Nat) : Nat := ceilDiv k r.kbk
def nBlocks (n : Nat) : Nat := n / 96

/-- R182: cycles of block j. -/
def blockLen (r : Rate) (m kb blocks ob j : Nat) : Nat :=
  let len := m * r.cp
  let len := if j % kb = kb - 1 then max len (ceilDiv (m * 96 * ob) 256) else len
  if j < blocks - 1 then max len (r.wb / 256) else len

/-- R182: cycles of a tile beyond the wheel alignment. -/
def tileCycles (r : Rate) (m k n ob : Nat) : Nat :=
  let kb := kBlocks r k
  let blocks := kb * nBlocks n
  r.wb / 256 + 24 + ((List.range blocks).map (blockLen r m kb blocks ob)).sum

/-! ### The scratchpad by cycle (R176, R178, R182) -/

/-- R178: slots of the wheel. -/
def slDI : Nat := 0
def slDO : Nat := 1
def slAA : Nat := 2
def slAB : Nat := 3
def slAR : Nat := 4
def slVR : Nat := 5
def slVW : Nat := 6
def slSR : Nat := 7

/-- R178: slot that the banks of a phase serve in cycle t. -/
def slotOf (phase t : Nat) : Nat := (t % 8 + 8 - phase % 8) % 8

/-- R178: the first cycle from t in which a slot reaches a line. -/
def reach (slot line t : Nat) : Nat := t + ((slot + line) % 8 + 8 - t % 8) % 8

/-- The scratchpad now, and the bytes it held before its latest writes, newest first: (cycle of the write, address, byte). -/
structure Spad where
  now : List Host.Cell
  past : List (Nat × Nat × Byte) := []
deriving DecidableEq, Repr

/-- The scratchpad as a read in cycle t finds it: writes of that cycle and of later ones have not taken place. -/
def Spad.on (s : Spad) (t : Unit → Nat) : List Host.Cell :=
  if s.past.isEmpty then s.now
  else s.past.foldl (fun m e => if t () ≤ e.1 then memWrite m e.2.1 e.2.2 else m) s.now

/-! ### Operands -/

/-- R201: the bits of element i of a format from a scratchpad base. -/
def readElem (m : List Host.Cell) (base bits i : Nat) : Nat :=
  if bits = 4 then getBits (memRead m (base + i / 2)).toNat (4 * (i % 2)) 4
  else ofLE (memReads m (base + i * (bits / 8)) (bits / 8))

/-- R201: writes element i. -/
def writeElem (m : List Host.Cell) (base bits i v : Nat) : List Host.Cell :=
  if bits = 4 then
    let a := base + i / 2
    memWrite m a (BitVec.ofNat 8 (putBits (memRead m a).toNat (4 * (i % 2)) 4 v))
  else memWrites m (base + i * (bits / 8)) (leBytes (bits / 8) v)

/-- R256: operand A reads the pad value at a position. -/
def padded (mRt pitch c0 c1 pos : Nat) : Bool :=
  decide (mRt ≤ pos) || (pitch != 0 && !(decide (c0 ≤ pos % pitch) && decide (pos % pitch < c1)))

/-- R182: the cycle in which the compute of block j starts, of a tile that starts at wheel position 0 in cycle w0. -/
def Tile.blockAt (t : Tile) (r : Rate) (ob w0 j : Nat) : Nat :=
  let kb := kBlocks r t.k
  w0 + r.wb / 256 + 8 + ((List.range j).map (blockLen r t.m kb (kb * nBlocks t.n) ob)).sum

/-- R182: the cycle in which AA reads byte `off` of operand A for block j: one line a cycle once the block's compute
starts. -/
def Tile.cycleA (t : Tile) (r : Rate) (ob bits w0 j off : Nat) : Nat :=
  let lines := max 1 (ceilDiv (t.m * r.kbk * bits / 8) 256)
  reach slAA ((t.aBase + off) / 256) (t.blockAt r ob w0 j + off / 256 % lines)

/-- R182: the cycle in which AB reads byte `off` of the weights: block 0 from cycle w0 + 3, each later one while the block
before it computes. -/
def Tile.cycleB (t : Tile) (r : Rate) (ob w0 off : Nat) : Nat :=
  let j := off / max 1 r.wb
  let i := off % max 1 r.wb / 256
  reach slAB ((t.bBase + off) / 256) (if j = 0 then w0 + 3 + i else t.blockAt r ob w0 (j - 1) + i)

/-- R181, R256: operand A at position m, channel k of a tile, for block j; pad holds the pad entries. -/
def Tile.elemA (t : Tile) (sp : Spad) (r : Rate) (ob w0 j pad bits m k : Nat) : Nat :=
  if padded t.mRt t.pitch t.c0 t.c1 (t.pos0 + m) then pad % 2 ^ bits
  else
    let i := Config.layoutA t.m t.k m k
    readElem (sp.on fun _ => t.cycleA r ob bits w0 j (i * bits / 8)) t.aBase bits i

/-- R181, R216: bits that a weight takes in the blocks of a rate class: each cell holds one weight, in its low bits. -/
def Rate.cell (r : Rate) : Nat := r.wb * 8 / (r.kbk * 96)

/-- R181: weight (k, n), zero beyond K where a block of class 1Q is completed. -/
def Tile.elemB (t : Tile) (sp : Spad) (r : Rate) (ob w0 bits k n : Nat) : Nat :=
  if k < t.k then
    let i := Config.layoutB r.kbk t.k t.n k n
    readElem (sp.on fun _ => t.cycleB r ob w0 (i * r.cell / 8)) t.bBase r.cell i % 2 ^ bits
  else 0

/-- R182: the block of weights that holds weight (k, n). -/
def Tile.blockOf (t : Tile) (r : Rate) (k n : Nat) : Nat := n / 96 * kBlocks r t.k + k / max 1 r.kbk

/-! ### Results (R217 to R219, R227 to R229) -/

/-- R227: rounding shift, half to even. -/
def rshift (x : Int) (k : Nat) : Int := if k = 0 then x else rneShr x k

/-- sat() of R205 over a range: the value and whether it was limited. -/
def satTo (x lo hi : Int) : Int × Bool := (clampI x lo hi, decide (x < lo) || decide (hi < x))

/-- R227: the value before the output zero point, and c1. -/
def requantY (acc : Int) (e : Rescale) (r : Layer) : Int × Bool :=
  if e.mult = 0 then (e.bias, false)
  else
    let y := satTo (rshift ((acc + e.bias) * e.mult) e.shift) (-2147483648) 2147483647
    (rshift (y.1 * r.lmult) r.lshift, y.2)

/-- R227: requantisation to an integer output format. -/
def requant (acc : Int) (accSat : Bool) (e : Rescale) (r : Layer) (f : Fmt) : Int × Bool :=
  let y := requantY acc e r
  let z := y.1 + r.zpOut
  let z := if r.actEn then clampI z r.actLo r.actHi else z
  let q := satTo z f.range.1 f.range.2
  (q.1, (accSat && e.mult != 0) || y.2 || q.2)

/-- R228: an INT32 accumulator to a floating output format. -/
def requantFloat (acc : Int) (accSat : Bool) (e : Rescale) (r : Layer) (f : Fmt) (ovfInf : Bool) : Nat × Bool :=
  if e.mult = 0 then f.encode ovfInf (Num.ofInt e.bias)
  else
    let y := satTo (rshift ((acc + e.bias) * e.mult) e.shift) (-2147483648) 2147483647
    let v := y.1 * r.lmult
    let q := f.encode ovfInf (.num (decide (v < 0)) v.natAbs (-(r.lshift : Int)))
    (q.1, accSat || y.2 || q.2)

/-- R217, R219, R227, R228: output element of an INT32 accumulator. -/
def intResult (acc : Int) (accSat : Bool) (e : Rescale) (r : Layer) (f : Fmt) (ovfInf : Bool) : Nat × Bool :=
  if f = .int32 then (ofSigned 32 acc, accSat)
  else if f.float.isSome then requantFloat acc accSat e r f ovfInf
  else let q := requant acc accSat e r f; (ofSigned f.bits q.1, q.2)

/-- R217: accumulator of output (m, n) over integer products. -/
def Tile.accI (t : Tile) (sp : Spad) (ob w0 pad : Nat) (fa fb : Fmt) (r : Rate) (m n : Nat) : Int × Bool :=
  accInt ((List.range (kBlocks r t.k * r.kbk)).map fun k =>
    if k < t.k then
      intProduct fb (toSigned fa.bits (t.elemA sp r ob w0 (t.blockOf r k n) pad fa.bits m k)) (t.elemB sp r ob w0 fb.bits k n)
    else 0)

/-- R218: accumulator of output (m, n) over floating products, FP32 bits. -/
def Tile.accF (t : Tile) (sp : Spad) (ob w0 pad : Nat) (fa fb : Fmt) (r : Rate) (m n : Nat) : Nat :=
  accFloat ((List.range (kBlocks r t.k)).map fun b => (List.range r.kbk).map fun i =>
    let k := b * r.kbk + i
    (fa.decode (t.elemA sp r ob w0 (t.blockOf r k n) pad fa.bits m k)).mul (fb.decode (t.elemB sp r ob w0 fb.bits k n)))

/-- What one output element leaves: its bits, whether it was clipped, and for the rescale path the value x of R227. -/
structure Elem where
  bits : Nat
  clipped : Bool
  x : Option Int
deriving DecidableEq, Repr

/-- Bytes of a result element (R219). -/
def Tile.ob (t : Tile) : Nat := ((fmtOf t.fo).map fun f => f.bits / 8).getD 1

/-- R216 to R219: output element (m, n) of a tile. -/
def Tile.result (t : Tile) (sp : Spad) (w0 pad : Nat) (ents : Tab Nat) (lay : Layer) (m n : Nat) : Elem :=
  match fmtOf t.fa, fmtOf t.fb, fmtOf t.fo with
  | some fa, some fb, some fo =>
    match pairRate fa fb with
    | some r =>
      if pairFloat fa then
        let q := fo.encode t.ovfInf (ofFp32 (t.accF sp t.ob w0 pad fa fb r m n))
        ⟨q.1, q.2, none⟩
      else
        let a := t.accI sp t.ob w0 pad fa fb r m n
        let e := rescaleOf (ents.get (t.eBase + n))
        let q := intResult a.1 a.2 e lay fo t.ovfInf
        ⟨q.1, q.2, if fo = .int32 then none else some (satI32 (a.1 + e.bias)).1⟩
    | none => ⟨0, false, none⟩
  | _, _, _ => ⟨0, false, none⟩

/-- R177, R182, R250, R251: the scratchpad after the results of a tile that started in cycle w0 are written, with the elements
written. -/
def Tile.write (t : Tile) (sp : Spad) (w0 pad : Nat) (ents : Tab Nat) (lay : Layer) :
    List Host.Cell × List (Nat × Elem) :=
  let es := ((List.range t.mOut).map fun m => (List.range t.nOut).map fun n => (m, n, t.result sp w0 pad ents lay m n)).flatten
  (es.foldl (fun sp' e => writeElem sp' t.oBase (8 * t.ob) (Config.layoutO t.m t.n e.1 e.2.1) e.2.2.bits) sp.now,
   es.map fun e => (t.eBase + e.2.1, e.2.2))

/-- R229: some entry that the tile uses has mult 0, on the rescale path. -/
def Tile.usesConst (t : Tile) (ents : Tab Nat) : Bool :=
  !((fmtOf t.fa).map pairFloat).getD true && t.fo != 5 &&
  (List.range t.n).any fun n => (rescaleOf (ents.get (t.eBase + n))).mult == 0

/-- R240: the range of an entry widened by an element. -/
def widen (l : List (Nat × (Int × Int × Nat × Nat))) (k : Nat) (x : Int) (clipped : Bool) :
    List (Nat × (Int × Int × Nat × Nat)) :=
  let o := lookupD l k (0x7FFFFFFF, -0x80000000, 0, 0)
  insertAt l k (if x < o.1 then x else o.1, if o.2.1 < x then x else o.2.1, o.2.2.1 + 1, o.2.2.2 + b2n clipped)

/-! ### Grids (R242 to R257) -/

/-- R244: a grid record. -/
structure Grid where
  valid : Bool
  skip : Bool
  mSrc : Nat
  nSrc : Nat
  mIdx : Nat
  nIdx : Nat
  mPlan : Nat
  mt : Nat
  k : Nat
  nt : Nat
  nPlan : Nat
  fa : Nat
  fb : Nat
  fo : Nat
  ovfInf : Bool
  record : Nat
  padA : Nat
  eBase : Nat
  pitch : Nat
  c0 : Nat
  c1 : Nat
  descA : Nat
  descB : Nat
  descO : Nat
  aBase : Nat
  bBase : Nat
  oBase : Nat
  aStride : Nat
  bStride : Nat
  oStride : Nat
deriving DecidableEq, Repr

def gridOf (b : List Byte) : Grid :=
  let w := leAt b 0 2
  { valid := bit w 0, skip := bit w 1, mSrc := getBits w 2 2, nSrc := getBits w 4 2, mIdx := leAt b 2 1, nIdx := leAt b 3 1
    mPlan := leAt b 4 4, mt := leAt b 8 2, k := leAt b 10 2, nt := leAt b 12 2, nPlan := leAt b 14 2
    fa := getBits (leAt b 16 1) 0 4, fb := getBits (leAt b 16 1) 4 4, fo := getBits (leAt b 17 1) 0 4
    ovfInf := bit (leAt b 17 1) 4, record := leAt b 18 1, padA := getBits (leAt b 19 1) 0 4
    eBase := getBits (leAt b 20 2) 0 10, pitch := leAt b 22 2, c0 := leAt b 24 2, c1 := leAt b 26 2
    descA := leAt b 28 2, descB := leAt b 30 2, descO := leAt b 32 2, aBase := leAt b 36 4, bBase := leAt b 40 4
    oBase := leAt b 44 4, aStride := leAt b 48 4, bStride := leAt b 52 4, oStride := leAt b 56 4 }

/-- R247: point d of the Hilbert curve on a square of side 2^n. -/
def hilbertPoint : Nat → Nat → Nat → Nat → Nat → Nat × Nat
  | 0, _, _, x, y => (x, y)
  | n + 1, s, t, x, y =>
    let rx := t / 2 % 2
    let ry := (t + rx) % 2
    let p : Nat × Nat := if ry = 0 then (if rx = 1 then (s - 1 - y, s - 1 - x) else (y, x)) else (x, y)
    hilbertPoint n (2 * s) (t / 4) (p.1 + s * rx) (p.2 + s * ry)

/-- The least n with side ≤ 2^n. -/
def sideLog : Nat → Nat → Nat
  | 0, _ => 0
  | f + 1, side => if side ≤ 1 then 0 else 1 + sideLog f (ceilDiv side 2)

/-- R247: the visit order of a grid of gm × gn tiles. -/
def hilbertOrder (gm gn : Nat) : List (Nat × Nat) :=
  let n := sideLog 21 (max gm gn)
  ((List.range (4 ^ n)).map fun d => hilbertPoint n 1 d 0 0).filter fun p => decide (p.1 < gm) && decide (p.2 < gn)

/-- R242, R216, R219: shape and formats of a tile: none when legal, else the fault code (0x07 ILLEGAL_OP, 0x05
ACC_RANGE). -/
def tileFault (m k n fa fb fo : Nat) : Option Nat :=
  if 1024 < m then some 5
  else if m = 0 ∨ m % 32 ≠ 0 ∨ k = 0 ∨ k % 128 ≠ 0 ∨ 16384 < k ∨ n = 0 ∨ n % 96 ≠ 0 ∨ 960 < n then some 7
  else
    match fmtOf fa, fmtOf fb, fmtOf fo with
    | some a, some b, some o =>
      if (pairRate a b).isNone ∨ (outWidth (pairFloat a) o).isNone then some 7 else none
    | _, _, _ => some 7

/-- R244, R257: fields of a grid record beyond the shape. -/
def Grid.fault (g : Grid) : Option Nat :=
  if !g.valid then some 7
  else
    match tileFault g.mt g.k g.nt g.fa g.fb g.fo with
    | some c => some c
    | none =>
      if g.mSrc = 3 ∨ g.nSrc = 3 ∨ g.mPlan = 0 ∨ 1048576 < g.mPlan ∨ g.nPlan = 0 ∨ 960 < g.nPlan ∨
         (g.mSrc = 1 ∧ 32 ≤ g.mIdx) ∨ (g.mSrc = 2 ∧ 64 ≤ g.mIdx) ∨ (g.nSrc = 1 ∧ 32 ≤ g.nIdx) ∨
         (g.nSrc = 2 ∧ 64 ≤ g.nIdx) then some 7
      else none

/-- The rate class of a legal grid or tile. -/
def rateOf (fa fb : Nat) : Rate :=
  match fmtOf fa, fmtOf fb with
  | some a, some b => (pairRate a b).getD .c1
  | _, _ => .c1

/-- R245: slot sizes of the operands: bytes rounded up to 2 KiB. -/
def slot2k (b : Nat) : Nat := ceilDiv b 2048 * 2048
def fmtBits (c : Nat) : Nat := ((fmtOf c).map Fmt.bits).getD 8
def Grid.slotA (g : Grid) : Nat := slot2k (g.mt * g.k * fmtBits g.fa / 8)
def Grid.slotB (g : Grid) : Nat := slot2k (kBlocks (rateOf g.fa g.fb) g.k * nBlocks g.nt * (rateOf g.fa g.fb).wb)
def Grid.slotO (g : Grid) : Nat := slot2k (g.mt * g.nt * fmtBits g.fo / 8)

/-- R245: planned M tiles. -/
def Grid.gm (g : Grid) : Nat := ceilDiv g.mPlan g.mt
def Grid.gn (g : Grid) : Nat := ceilDiv g.nPlan g.nt

/-- R250, R251: tiles to run, in order. -/
def Grid.order (g : Grid) (mRt nRt : Nat) : List (Nat × Nat) :=
  if mRt = 0 ∨ nRt = 0 then []
  else if g.skip then (hilbertOrder g.gm g.gn).filter fun p => decide (p.1 * g.mt < mRt) && decide (p.2 * g.nt < nRt)
  else hilbertOrder (ceilDiv mRt g.mt) (ceilDiv nRt g.nt)

/-- R245, R248, R250, R251: tile (i, j) of problem p. -/
def Grid.tile (g : Grid) (p mRt nRt turn : Nat) (ij : Nat × Nat) : Tile :=
  let i := ij.1
  let j := ij.2
  let mLeft := mRt - i * g.mt
  let nLeft := nRt - j * g.nt
  let m := if g.skip then g.mt else min g.mt (ceilDiv mLeft 32 * 32)
  let n := if g.skip then g.nt else min g.nt (ceilDiv nLeft 96 * 96)
  { m := m, k := g.k, n := n, fa := g.fa, fb := g.fb, fo := g.fo, ovfInf := g.ovfInf, record := g.record, stat := g.record, pad := g.padA
    pitch := g.pitch, c0 := g.c0, c1 := g.c1, eBase := g.eBase + j * g.nt
    aBase := g.aBase + p * g.aStride + (if g.descA = 0xFFFF then i else turn % 2) * g.slotA
    bBase := g.bBase + p * g.bStride + (if g.descB = 0xFFFF then j else turn / 2 % 2) * g.slotB
    oBase := g.oBase + p * g.oStride + (if g.descO = 0xFFFF then j * g.gm + i else turn / 4 % 2) * g.slotO
    pos0 := i * g.mt, mRt := mRt
    mOut := if g.skip then m else min m mLeft, nOut := if g.skip then n else min n nLeft, grid := some ij }

end Sys2Proof.Machine
end

