-- ==== Sys2Proof/Machine/Writer.lean ====
section
/-! DEFINITION. The output writers: privacy enforcement (R390, R396 to R400), output rows, the output pool, slots and
headers (R151 to R162). -/
namespace Sys2Proof.Machine

/-! ### Enforcement (R397, R398) -/

/-- R397: the edge from (x1, y1) to (x2, y2) is crossed by the ray from the test point (cxn/cxd, cyn/cyd). -/
def edgeCrossed (cxn cxd cyn cyd x1 y1 x2 y2 : Int) : Bool :=
  let a := decide (cyn < y1 * cyd)
  let b := decide (cyn < y2 * cyd)
  -- cx < x1 + (cy − y1)(x2 − x1)/(y2 − y1), multiplied out by cxd · cyd · (y2 − y1)
  let lhs := (cxn * cyd - x1 * cxd * cyd) * (y2 - y1)
  let rhs := (cyn - y1 * cyd) * (x2 - x1) * cxd
  a != b && (if 0 < y2 - y1 then decide (lhs < rhs) else decide (rhs < lhs))

/-- R397: the test point lies inside a zone. -/
def insideZone (z : Zone) (cxn cxd cyn cyd : Nat) : Bool :=
  let v := fun i => z.v.getD (i % 4) (0, 0)
  ((List.range 4).filter fun i =>
    edgeCrossed cxn cxd cyn cyd (v i).1 (v i).2 (v (i + 1)).1 (v (i + 1)).2).length % 2 == 1

/-- R393: action of an act byte for output o: 0 pass, 1 blank, 2 pixelate. -/
def actOf (act o : Nat) : Nat := getBits act (2 * o) 2

/-- R392, R393: a pixelate cell size, in output pixels; 0 counts as 3. -/
def cellOf (cell : Nat) : Nat := 2 ^ (if cell = 0 then 3 else cell)

/-- R397: the more restrictive of two actions with their cells: blank, then pixelate, then pass; the larger cell. -/
def stricter (a b : Nat × Nat) : Nat × Nat :=
  if a.1 = 1 ∨ b.1 = 1 then (1, 1)
  else if a.1 = 2 ∧ b.1 = 2 then (2, max a.2 b.2)
  else if a.1 = 2 then a else if b.1 = 2 then b else (0, 1)

/-- R397: action and cell of a policy entry at a test point, for output o. -/
def CamPolicy.action (p : CamPolicy) (o cxn cxd cyn cyd : Nat) : Nat × Nat :=
  let zs := p.zones.filter fun z => insideZone z cxn cxd cyn cyd
  if zs = [] then (actOf p.outside o, cellOf p.cell)
  else (zs.map fun z => (actOf z.act o, cellOf z.cell)).foldl stricter (0, 1)

/-- R397: action at pixel (ox, oy) of a d × e display or coding output of a w × h frame. -/
def CamPolicy.pixel (p : CamPolicy) (o w h d e ox oy : Nat) : Nat × Nat :=
  p.action o ((2 * ox + 1) * w) (2 * d) ((2 * oy + 1) * h) (2 * e)

/-- R397, R398: action at position (ox, oy) of the machine-vision output of factor f: pixelate acts as blank. -/
def CamPolicy.mv (p : CamPolicy) (f ox oy : Nat) : Nat :=
  if (p.action 2 ((2 * ox + 1) * f) 2 ((2 * oy + 1) * f) 2).1 = 0 then 0 else 1

/-! ### What blanks whole rows (R390, R400, R404, R436) -/

/-- R390, R404, R436: the output writers fail closed. -/
def State.writersClosed (s : State) : Bool := s.sfl.failClosed.isSome || s.flag F.SFL_STATUS_trip || s.fatal

/-- R400: a display or coding beat that leaves now is blanked by PRIV_HOLD. -/
def State.holdNow (s : State) : Bool :=
  if s.sfl.hold then decide (s.sfl.holdAt + 8 ≤ s.now)
  else decide (s.sfl.holdAt < s.sfl.freeAt) && decide (s.now ≤ s.sfl.freeAt + 8) && decide (s.sfl.holdAt + 8 ≤ s.now)

/-! ### Pixels of a row -/

/-- Tone pixel (ox, oy) of output o (0 display, 1 coding) of frame q, scaled. -/
def State.outPixel (s : State) (n q o ox oy : Nat) : Nat × Nat × Nat :=
  let f := s.frame n q
  let d := if o = 0 then s.fld F.CAM_OUT_DISP_width n else s.fld F.CAM_OUT_CODE_width n
  let e := if o = 0 then s.fld F.CAM_OUT_DISP_height n else s.fld F.CAM_OUT_CODE_height n
  scaledPixel (s.ppbOf n f.ppb) (2 * o) (s.width n) (s.outH n) d e f.tone ox oy

/-- R398: an action applied: blank, the cell's sample, or the pixel itself. -/
def enforceWith (a : Nat × Nat) (ox oy : Nat) (sample : Nat → Nat → List Byte) (width : Nat) : List Byte :=
  if a.1 = 1 then List.replicate width 0
  else if a.1 = 2 then sample (a.2 * (ox / a.2)) (a.2 * (oy / a.2))
  else sample ox oy

/-- R148, R397, R398: a display row, enforced: its bytes, and whether an action other than pass applied. -/
def State.dispRow (s : State) (n q oy : Nat) : List Byte × Bool :=
  let f := s.frame n q
  let d := s.fld F.CAM_OUT_DISP_width n
  let e := s.fld F.CAM_OUT_DISP_height n
  let fmt := s.fld F.CAM_OUT_DISP_fmt n
  let act := fun ox => f.pol.pixel 0 (s.width n) (s.outH n) d e ox oy
  (((List.range d).map fun ox =>
      enforceWith (act ox) ox oy (fun x y => dispBytes fmt (s.outPixel n q 0 x y)) (s.dispBpp n)).flatten,
   (List.range d).any fun ox => (act ox).1 != 0)

/-- R149, R397, R398: a coding luma row, enforced. -/
def State.lumaRow (s : State) (n q oy : Nat) : List Byte × Bool :=
  let f := s.frame n q
  let d := s.fld F.CAM_OUT_CODE_width n
  let e := s.fld F.CAM_OUT_CODE_height n
  let fmt := s.fld F.CAM_OUT_CODE_fmt n
  let act := fun ox => f.pol.pixel 1 (s.width n) (s.outH n) d e ox oy
  (((List.range d).map fun ox =>
      enforceWith (act ox) ox oy (fun x y => codeBytes fmt (lumaOf (s.outPixel n q 1 x y))) (s.codeBps n)).flatten,
   (List.range d).any fun ox => (act ox).1 != 0)

/-- R149: the chroma sample of block (bx, by): Cb then Cr. -/
def State.chromaSample (s : State) (n q bx bby : Nat) : List Byte :=
  let fmt := s.fld F.CAM_OUT_CODE_fmt n
  let px := fun i j => s.outPixel n q 1 (2 * bx + i) (2 * bby + j)
  let c := chromaOf (px 0 0) (px 1 0) (px 0 1) (px 1 1)
  codeBytes fmt c.1 ++ codeBytes fmt c.2

/-- R149, R398: a chroma row, enforced by the most restrictive action of each block's four luma pixels. -/
def State.chromaRow (s : State) (n q bby : Nat) : List Byte :=
  let f := s.frame n q
  let d := s.fld F.CAM_OUT_CODE_width n
  let e := s.fld F.CAM_OUT_CODE_height n
  let act := fun ox oy => f.pol.pixel 1 (s.width n) (s.outH n) d e ox oy
  ((List.range (d / 2)).map fun bx =>
    let a := stricter (stricter (act (2 * bx) (2 * bby)) (act (2 * bx + 1) (2 * bby)))
      (stricter (act (2 * bx) (2 * bby + 1)) (act (2 * bx + 1) (2 * bby + 1)))
    if a.1 = 1 then List.replicate (2 * s.codeBps n) 0
    else if a.1 = 2 then s.chromaSample n q (a.2 * (2 * bx / a.2) / 2) (a.2 * (2 * bby / a.2) / 2)
    else s.chromaSample n q bx bby).flatten

/-- R148, R398: the bytes of row r of feature plane c, from the encoder's row (C planes one after another), enforced. -/
def State.featureRow (s : State) (n q r c : Nat) (row : List Byte) : List Byte :=
  let f := s.frame n q
  let w := s.mvCols n * s.mvBps n
  ((List.range (s.mvCols n)).map fun x =>
    if f.pol.mv (s.mvFactor n) x r = 0 then bytesAt row (c * w + x * s.mvBps n) (s.mvBps n)
    else List.replicate (s.mvBps n) 0).flatten

/-- R150, R398: row r of RGB plane ch, enforced. -/
def State.rgbRow (s : State) (n q r ch : Nat) : List Byte :=
  let f := s.frame n q
  ((List.range (s.mvCols n)).map fun x =>
    if f.pol.mv (s.mvFactor n) x r = 0 then leBytes 2 (fp16Of (rgbMean f.lin (s.mvFactor n) (s.outH n) ch x r))
    else [0, 0]).flatten

/-- R397: an action other than pass applies to some position of machine-vision row r. -/
def State.mvRowActs (s : State) (n q r : Nat) : Bool :=
  (List.range (s.mvCols n)).any fun x => (s.frame n q).pol.mv (s.mvFactor n) x r != 0

/-- Where the rows of an output row go, and their bytes before PRIV_HOLD and fail-closed: (offset in the slot, bytes),
and whether a privacy action applied. -/
def State.rowWrites (s : State) (n q o r : Nat) : List (Nat × List Byte) × Bool :=
  let base := s.outOffset n o
  if o = 0 then
    let d := s.dispRow n q r
    ([(base + r * s.rowPool n 0, d.1)], d.2)
  else if o = 1 then
    let w := s.fld F.CAM_OUT_CODE_width n * s.codeBps n
    let y := s.lumaRow n q r
    let luma := [(base + r * w, y.1)]
    (if r % 2 = 1 then luma ++ [(base + s.fld F.CAM_OUT_CODE_height n * w + r / 2 * w, s.chromaRow n q (r / 2))] else luma, y.2)
  else
    let w := s.mvCols n * s.mvBps n
    let c := s.fld F.CAM_OUT_MV_channels n
    let plane := w * s.mvRows n
    let feats := (List.range c).map fun i => (base + i * plane + r * w, s.featureRow n q r i ((s.frame n q).enc.get r))
    let w2 := s.mvCols n * 2
    let rgb := (List.range 3).map fun i => (base + c * plane + i * (w2 * s.mvRows n) + r * w2, s.rgbRow n q r i)
    (if s.flag F.CAM_OUT_MV_rgb_en n then feats ++ rgb else feats, s.mvRowActs n q r)

/-! ### The pool (R161) -/

/-- R161: pool bytes that output o of a stream holds. -/
def State.poolUsed (s : State) (n o : Nat) : Nat :=
  ((s.frames.filter fun e => e.1 / 128 == n).map fun e => ((e.2.rowsOut.filter fun r => r.out == o).map (·.bytes)).sum).sum

/-- R161: the floor of output o of a stream. -/
def State.outFloor (s : State) (n o : Nat) : Nat :=
  if s.flag (if o = 0 then F.CAM_OUT_DISP_en else if o = 1 then F.CAM_OUT_CODE_en else F.CAM_OUT_MV_en) n then s.rowPool n o else 0

/-- R161: pool bytes taken, or held as a floor, by every started stream. -/
def State.poolTaken (s : State) : Nat :=
  (s.startedCams.map fun n => ((List.range 3).map fun o => max (s.outFloor n o) (s.poolUsed n o)).sum).sum

/-- R161: a row of output o finds space: within its floor, or, for display and coding, beyond it. -/
def State.poolFits (s : State) (n o : Nat) : Bool :=
  let b := s.rowPool n o
  let u := s.poolUsed n o
  let fl := s.outFloor n o
  decide (u + b ≤ fl) || (decide (o ≤ 1) && decide (s.poolTaken + (max fl (u + b) - max fl u) ≤ 8 * 1024 * 1024))

/-! ### Bounds (R87, R147) -/

/-- R147: the stripe with which row r of output o is written. -/
def State.rowStripe (s : State) (n o r : Nat) : Nat :=
  if o = 0 then lastSource (s.outH n) (s.fld F.CAM_OUT_DISP_height n) r / 32
  else if o = 1 then lastSource (s.outH n) (s.fld F.CAM_OUT_CODE_height n) r / 32
  else min ((r + 1) * s.mvFactor n - 1) (s.outH n - 1) / 32

/-! ### Rows, slots and headers (R152, R153, R156, R161, R162) -/

/-- R159, R162: output o of frame q is to be written: it is carried and not shed. -/
def State.toWrite (s : State) (n q o : Nat) : Bool := bit (s.carried n q) o && !bit (s.frame n q).shed o

/-- R153: every carried output of the frame is written or shed, every stripe is printed, and no row is outstanding. -/
def State.outputsEnded (s : State) (n q : Nat) : Bool :=
  let f := s.frame n q
  f.st == 2 && decide (s.outH n ≤ f.tone.length) && f.rowsOut.isEmpty &&
    (List.range 3).all fun o => !s.toWrite n q o || decide (s.outRows n o ≤ f.written.get o)

/-- R156: the frame takes the next output slot when it first needs one, or finds none free. -/
def State.takeSlot (s : State) (n q : Nat) : State :=
  let f := s.frame n q
  if f.outSlot ≠ 255 ∨ f.noSlot then s
  else
    let free := s.fld F.CAM_OUT_STATUS_free n
    let next := s.fld F.CAM_OUT_STATUS_next n
    if free = 0 then
      (s.setFrame n q { f with noSlot := true, mark := setBit f.mark markOutputShed }).camCount .CAM_CNT_OUT_NOSLOT n clsOutput q
    else
      let s := s.setFld F.CAM_OUT_STATUS_free n (free - 1)
      let s := s.setFld F.CAM_OUT_STATUS_next n ((next + 1) % max 1 (s.fld F.CAM_OUT_RING_count n))
      s.setFrame n q { f with outSlot := next }

/-- R152: the slot header. -/
def State.headerBytes (s : State) (n q : Nat) : List Byte :=
  let f := s.frame n q
  let done := fun o => b2n (s.toWrite n q o && decide (s.outRows n o ≤ f.written.get o))
  let rgb := s.fld F.CAM_OUT_MV_rgb_en n
  leBytes 4 f.seq ++ leBytes 4 f.mark ++ leBytes 8 f.tFirst ++
  leBytes 1 (done 0 + 2 * done 1 + 4 * done 2 + 8 * (done 2 * rgb)) ++
  leBytes 1 (f.shed % 8 + 8 * (getBits f.shed 2 1 * rgb)) ++ leBytes 46 0

/-- R153, R156: once its outputs have ended, the frame issues its header, or enters DONE where it holds no slot. -/
def State.finishFrame (s : State) (n q : Nat) : State :=
  if s.outputsEnded n q ∧ (s.frame n q).hdr = false then
    let s := s.takeSlot n q
    let f := s.frame n q
    if f.noSlot then s.finalize n q 3
    else
      let s := s.setFrame n q { f with hdr := true }
      (s.ringWrite (s.cam n).holder (s.slotAddr n f.outSlot) (s.headerBytes n q)).barrierRead (s.cam n).holder
  else s

/-- R397 to R400, R390: a row leaves the writer: its bytes, blanked where PRIV_HOLD or fail-closed blanks them, and the
marks they bring. -/
def State.issueRow (s : State) (n q o r : Nat) : State :=
  let w := s.rowWrites n q o r
  let closed := s.writersClosed
  let held := decide (o ≤ 1) && (s.holdNow || (s.frame n q).holdHit)
  let s := if w.2 || closed then s.setMark n q markPrivApplied else s
  let s := if held then (s.setMark n q markPrivHold).modFrame n q fun f => { f with holdHit := true } else s
  let f := s.frame n q
  let bytes := (w.1.map fun x => x.2.length).sum
  let row : RowOut := { out := o, row := r, bytes := s.rowPool n o, bound := s.stripeDeadline n q (s.rowStripe n o r),
                        last := decide (s.outRows n o ≤ r + 1) }
  let s := s.setFrame n q { f with rowsOut := f.rowsOut ++ [row] }
  let h := (s.cam n).holder
  let s := w.1.foldl (fun s x =>
    s.ringWrite h (s.slotAddr n f.outSlot + x.1) (if closed || held then List.replicate x.2.length 0 else x.2)) s
  (s.barrierRead h).obsAdd (1024 + n) bytes

/-- R161: the display and coding outputs that still have rows to write are shed for the rest of the frame. -/
def State.shedForPool (s : State) (n q : Nat) : State :=
  let rest := fun o => b2n (s.toWrite n q o && decide ((s.frame n q).written.get o < s.outRows n o))
  ((s.shedOutputs n q (rest 0 + 2 * rest 1)).modFrame n q fun f => { f with waits := [], waitFrom := none }).finishFrame n q

/-- R161: how long frame q has waited for pool space. -/
def State.waited (s : State) (n q : Nat) : Nat :=
  let f := s.frame n q
  f.poolWait + (match f.waitFrom with | some t => s.now - t | none => 0)

/-- R161: output o of frame q waits for pool space from now on. -/
def State.beginWait (s : State) (n q o : Nat) : State :=
  s.modFrame n q fun f =>
    if f.waits.contains o then f else { f with waits := o :: f.waits, waitFrom := if f.waits = [] then some s.now else f.waitFrom }

/-- R161: output o of frame q waits no longer; with the last of them the frame's wait ends. -/
def State.endWait (s : State) (n q o : Nat) : State :=
  let w := s.waited n q
  s.modFrame n q fun f =>
    let rest := f.waits.erase o
    if f.waits = [] then f
    else if rest = [] then { f with waits := [], waitFrom := none, poolWait := w } else { f with waits := rest }

/-- R143, R147: the sources of row r of output o of frame q are there: its stripes are printed, and for the machine-vision output
the encoder's row has come. -/
def State.rowSourced (s : State) (n q o r : Nat) : Bool :=
  let f := s.frame n q
  decide (min (s.outH n - 1) (32 * s.rowStripe n o r) < f.tone.length) && (o != 2 || f.enc.any fun e => e.1 == r)

/-- R22: core i is the last of camera n's stage group, which has the print unit and the output writer. -/
def State.isLast (s : State) (n i : Nat) : Bool := (s.groupCores (s.camSg n)).getLast? == some i

/-- R22, R147, R156, R161: the output writer beside core i, the last of its group, writes the next row of output o of frame q,
once its source rows are there: it takes a slot and pool space, or begins to wait for space. -/
def State.writeRow (s : State) (n q o i : Nat) : State :=
  let f := s.frame n q
  let r := f.written.get o
  if f.live = false ∨ s.toWrite n q o = false ∨ s.outRows n o ≤ r ∨ s.isLast n i = false ∨ s.rowSourced n q o r = false then s
  else
    let s := s.takeSlot n q
    if (s.frame n q).noSlot then
      (s.modFrame n q fun f => { f with written := f.written.set o (r + 1) }).finishFrame n q
    else if o ≤ 1 ∧ 2000000 < s.waited n q then s.shedForPool n q
    else if s.poolFits n o then
      let s := (s.endWait n q o).modFrame n q fun f => { f with written := f.written.set o (r + 1) }
      s.issueRow n q o r
    else if o ≤ 1 then s.beginWait n q o else s

/-- R87, R153: the BARRIER completion of the frame's oldest outstanding row returns. -/
def State.rowComplete (s : State) (n q : Nat) : State :=
  match (s.frame n q).rowsOut with
  | [] => s
  | r :: rs =>
    let s := s.modFrame n q fun f => { f with rowsOut := rs }
    let s := if r.bound < s.now then s.setMark n q markLate else s
    s.finishFrame n q

end Sys2Proof.Machine
end

