-- ==== Sys2Proof/Machine/Context.lean ====
section
/-! DEFINITION. Lantern cores and their contexts: waiting, waking, presence, and the barriers (R171 to R174, R187 to
R190, R193). -/
namespace Sys2Proof.Machine

/-- R167: ACLK cycles, 700 MHz, counted with TCLK. -/
def State.aclk (s : State) : Nat := s.time.tclk * 7 / 10

def State.core (s : State) (i : Nat) : CoreS := s.cores.get i
def State.setCore (s : State) (i : Nat) (x : CoreS) : State := { s with cores := s.cores.set i x }
def State.modCore (s : State) (i : Nat) (f : CoreS → CoreS) : State := s.setCore i (f (s.core i))
def State.ctx (s : State) (i c : Nat) : CtxS := (s.core i).ctxs.get c
def State.modCtx (s : State) (i c : Nat) (f : CtxS → CtxS) : State :=
  s.modCore i fun x => { x with ctxs := x.ctxs.modify c f }

/-- R429: the sequence number of the frame whose stripe core i has bound; 0xFFFFFFFF where it has none. -/
def State.boundSeq (s : State) (i : Nat) : Nat :=
  match (s.core i).bound with
  | some b => if b.training then 0xFFFFFFFF else b.seq
  | none => 0xFFFFFFFF

/-- R193: RESET 0, CLEARING 1, IDLE 2, RUNNING 3, FAULTED 4. -/
def State.coreState (s : State) (i : Nat) : Nat := s.fld F.LC_STATUS_state i
def State.setCoreState (s : State) (i v : Nat) : State := s.setFld F.LC_STATUS_state i v

/-- R174: IDLE 0, READY 1, WAIT 2, FAULT 3. -/
def State.ctxState (s : State) (i c : Nat) : Nat := s.fld F.LC_CTX_STATUS_state (8 * i + c)

/-- R174, R193: a context takes a state; LC_STATUS.ctx_active shows whether it is IDLE. -/
def State.setCtxState (s : State) (i c v : Nat) : State :=
  let s := s.setFld F.LC_CTX_STATUS_state (8 * i + c) v
  s.setFld F.LC_STATUS_ctx_active i
    (((List.range 8).map fun d => if s.ctxState i d = 0 then 0 else 2 ^ d).sum)

/-- R174: code of a wait. -/
def WaitS.code : WaitS → Nat
  | .none => 0
  | .dmaRows _ _ => 1
  | .barrier _ _ => 2
  | .counter _ => 3
  | .ring => 4
  | .own _ => 5
  | .rescale _ => 7
  | .queueFull _ => 6

/-- R173: a context begins to wait. -/
def State.setWait (s : State) (i c : Nat) (w : WaitS) : State :=
  let s := s.modCtx i c fun x => { x with wait := w, since := s.now }
  let s := s.setFld F.LC_CTX_STATUS_wait (8 * i + c) w.code
  s.setCtxState i c (if w = .none then 1 else 2)

/-- R172: a context whose wait condition holds becomes ready, from the next cycle. -/
def State.wake (s : State) (i c : Nat) : State :=
  if s.ctxState i c = 2 then (s.modCtx i c fun x => { x with readyAt := s.aclk + 1 }).setWait i c .none else s

/-- R172: a context is ready. -/
def State.ready (s : State) (i c : Nat) : Bool := s.ctxState i c == 1 && decide ((s.ctx i c).readyAt ≤ s.aclk)

/-- Wakes every context of core i whose wait satisfies p. -/
def State.wakeIf (s : State) (i : Nat) (p : Nat → WaitS → Bool) : State :=
  (List.range 8).foldl (fun s c => if s.ctxState i c == 2 && p c (s.ctx i c).wait then s.wake i c else s) s

/-- R171: priority of a context: 7 always 3, 6 always 1, a stage context 3 for an inline stripe and 2 otherwise. -/
def ctxPrio (c : Nat) (inl : Bool) : Nat := if c = 7 then 3 else if c = 6 then 1 else if inl then 3 else 2

/-- R171: a context leaves IDLE, from an instruction index. -/
def State.startCtx (s : State) (i c pc : Nat) (inl : Bool) : State :=
  let s := s.modCtx i c fun x => { x with wait := .none, readyAt := 0, retake := none, grids := [] }
  let s := s.setFld F.LC_CTX_STATUS_pc (8 * i + c) pc
  let s := s.setFld F.LC_CTX_STATUS_prio (8 * i + c) (ctxPrio c inl)
  (s.setFld F.LC_CTX_STATUS_wait (8 * i + c) 0).setCtxState i c 1

/-- R171: a context returns to IDLE, with no priority. -/
def State.idleCtx (s : State) (i c : Nat) : State :=
  let s := s.modCtx i c fun x => { x with wait := .none, grids := [] }
  let s := s.setFld F.LC_CTX_STATUS_prio (8 * i + c) 0
  (s.setFld F.LC_CTX_STATUS_wait (8 * i + c) 0).setCtxState i c 0

/-- R189: a core is present from the end of its reset until the next begins: it is IDLE, RUNNING or FAULTED. -/
def State.present (s : State) (i : Nat) : Bool := decide (2 ≤ s.coreState i)

/-! ### Work counters (R258 to R268) -/

def State.counter (s : State) (g w : Nat) : CounterS := (s.group g).counters.get w

/-- R265: HLD_WC_OCC shows the shares held and queued. -/
def State.setCounter (s : State) (g w : Nat) (x : CounterS) : State :=
  let s := s.modGroup g fun y => { y with counters := y.counters.set w x }
  let held := (x.shares.filter fun h => h.held.isSome).length
  (s.setFld F.HLD_WC_OCC_held (32 * g + w) held).setFld F.HLD_WC_OCC_queued (32 * g + w) (x.shares.length - held)

/-- The counter has this stripe queued, held or committed. -/
def CounterS.has (c : CounterS) (n q k : Nat) : Bool :=
  c.shares.any (fun h => h.cam == n && h.seq == q && h.stripe == k && !h.training) || c.done.contains (n, q, k)

/-- R267: counters of the stages that read the output of stage w. -/
def GroupS.consumers (x : GroupS) (w : Nat) : List Nat :=
  (List.range 32).filter fun v => (x.counters.get v).inputs.contains w && (x.counters.get v).handle == (x.counters.get w).handle

/-- R267: hand-off slots of counter w in use: stripes queued, held or committed that some consumer has not committed. -/
def GroupS.slotsUsed (x : GroupS) (w : Nat) : Nat :=
  let c := x.counters.get w
  c.shares.length + (c.done.filter fun d => (x.consumers w).any fun v => !(x.counters.get v).done.contains d).length

/-- R83, R258: stripe k of frame q of camera n may be queued on counter w: every input is in place, earlier stripes and
earlier frames of the camera have been queued there (R84), and the hand-off slot is free. -/
def State.shareReady (s : State) (g w n q k : Nat) : Bool :=
  let x := s.group g
  let c := x.counters.get w
  s.flag F.HLD_WC_CFG_active (32 * g + w) && decide ((s.cam n).model = some c.handle) && s.camSg n == g &&
  (s.frame n q).seq == q && (s.frame n q).live && decide (k < s.stripes n) && !c.has n q k &&
  (if c.inputs.isEmpty then decide (s.lastRowOf n k < (s.frame n q).rows)
   else c.inputs.all fun v => (x.counters.get v).done.contains (n, q, k)) &&
  (List.range k).all (fun j => c.has n q j) &&
  ((s.liveFrames n).filter (· < q)).all (fun p => (List.range (s.stripes n)).all fun j => c.has n p j) &&
  (c.slots == 0 || decide (x.slotsUsed w < c.slots))

/-- R258, R259: a share is queued, with the counter's next index and generation 0. -/
def State.pushShare (s : State) (g w n q k deadline : Nat) (inl training : Bool) : State :=
  let c := s.counter g w
  let idx := s.regN .HLD_WC_NEXT (32 * g + w)
  let s := s.setRegN .HLD_WC_NEXT (32 * g + w) (idx + 1)
  let h : Share := { cam := n, seq := q, stripe := k, idx := idx, gen := 0, deadline := deadline, inl := inl, training := training }
  s.setCounter g w { c with shares := insertShare h c.shares }

/-- R258: firmware queues a stripe's share. -/
def State.queueShare (s : State) (g w n q k : Nat) : State :=
  if s.shareReady g w n q k then
    let s := s.pushShare g w n q k (s.stripeDeadline n q k) (s.stripeInline n q k) false
    if (s.counter g w).inputs.isEmpty then s.modFrame n q fun f => { f with queued := f.queued + 1 } else s
  else s

/-- R259, R260: share h of counter w may be offered to core i: no later stripe of its frame has been drawn there, once
reissued. -/
def State.offered (s : State) (i w : Nat) (h : Share) : Bool :=
  h.held.isNone && (h.gen == 0 ||
    !(s.core i).drawn.any fun d => d.1 == w && d.2.1 == h.cam && d.2.2.1 == h.seq && decide (h.stripe < d.2.2.2))

/-- R84: of the shares l, one of an earlier frame or stripe of the same camera stands before h. -/
def Share.behind (h : Share) (l : List Share) : Bool :=
  !h.training && l.any fun x => !x.training && x.cam == h.cam && (decide (x.seq < h.seq) || (x.seq == h.seq && decide (x.stripe < h.stripe)))

/-- R334: a training share does not start while Retouch of its camera is paused or off. -/
def State.mayStart (s : State) (h : Share) : Bool := !h.training || s.fld F.CAM_ADAPT_STATUS_state h.cam == 1

/-- R259: a draw has been served from counter w of group g in this ACLK cycle. -/
def State.drawnNow (s : State) (g w : Nat) : Bool := (s.counter g w).drawAt == some s.aclk

/-- R84, R259: the share that core i would draw from counter w. -/
def State.headShare (s : State) (i w : Nat) : Option Share :=
  let c := s.counter (s.groupOf i) w
  let l := c.shares.filter fun h => s.offered i w h && s.mayStart h
  if c.cores.contains i && !s.drawnNow (s.groupOf i) w then l.find? fun h => !h.behind l else none

/-- R260: lease of counter w in ns. -/
def State.leaseNs (s : State) (g w : Nat) : Nat := s.fld F.HLD_WC_CFG_lease_us (32 * g + w) * 1000

/-- R259, R260: core i takes share h of counter w, with a lease. -/
def State.takeShare (s : State) (i w : Nat) (h : Share) : State :=
  let g := s.groupOf i
  let c := s.counter g w
  let s := s.setCounter g w { c with drawAt := some s.aclk, shares := c.shares.map fun x =>
    if x.idx = h.idx ∧ x.gen = h.gen then { x with held := some (i, s.now + s.leaseNs g w) } else x }
  s.modCore i fun x => { x with drawn := (w, h.cam, h.seq, h.stripe) :: x.drawn }

/-- R260: a live core renews the leases it holds, 1 µs (700 ACLK cycles) or more after the last renewal. -/
def State.renewLeases (s : State) (i : Nat) : State :=
  if s.present i && s.coreState i != 4 && decide ((s.core i).renewAt + 700 ≤ s.aclk) then
    let g := s.groupOf i
    let s := s.modCore i fun x => { x with renewAt := s.aclk }
    (List.range 32).foldl (fun s w =>
      let c := s.counter g w
      if c.shares.any fun h => h.held.any fun e => e.1 == i then
        s.setCounter g w { c with shares := c.shares.map fun h => match h.held with
          | some e => if e.1 = i then { h with held := some (i, s.now + s.leaseNs g w) } else h
          | none => h }
      else s) s
  else s

/-- R264: a share of camera n that its lease gives back is withdrawn: its stream stops in abort mode, or is stopped; a
training share, in either mode. -/
def State.withdrawn (s : State) (h : Share) : Bool :=
  s.stream h.cam == 0 || (s.stream h.cam == 3 && (h.training || (s.cam h.cam).stop.any (·.abort)))

/-- R260, R82, R264: an expired lease reissues its share with the next generation, or a withdrawn one is dropped. -/
def State.expireLease (s : State) (g w idx : Nat) : State :=
  let c := s.counter g w
  match c.shares.find? fun h => h.idx == idx && h.held.any fun e => decide (e.2 < s.now) with
  | none => s
  | some h =>
    let rest := c.shares.filter fun x => x.idx != idx
    let c := { c with gens := c.gens.set idx (h.gen + 1) }
    if s.withdrawn h then s.setCounter g w { c with shares := rest }
    else
      let s := s.setCounter g w { c with shares := insertShare { h with gen := h.gen + 1, held := none } rest }
      s.bump .HLD_WC_CNT_REISSUE (32 * g + w) clsCore (srcCore g)

/-- R264: the counters withdraw a camera's queued shares: all, or only those of training stripes. -/
def State.withdraw (s : State) (n : Nat) (all : Bool) : State :=
  let p := fun (h : Share) => h.cam == n && h.held.isNone && (all || h.training)
  (List.range 16).foldl (fun s g => (List.range 32).foldl (fun s w =>
    let c := s.counter g w
    if c.shares.any p then s.setCounter g w { c with shares := c.shares.filter fun h => !p h } else s) s) s

/-- A camera's committed stripes are forgotten, once its stream has stopped. -/
def State.forgetDone (s : State) (n : Nat) : State :=
  (List.range 16).foldl (fun s g => s.modGroup g fun x => { x with
    counters := x.counters.map fun e => (e.1, { e.2 with done := e.2.done.filter fun d => d.1 != n }) }) s

/-- R260: the draws of a camera's earlier stream no longer count. -/
def State.forgetDrawn (s : State) (n : Nat) : State :=
  { s with cores := s.cores.map fun e => (e.1, { e.2 with drawn := e.2.drawn.filter fun d => d.2.1 != n }) }

/-- A camera holds a share that some core has drawn. -/
def State.holdsShare (s : State) (n : Nat) : Bool :=
  s.groups.any fun x => x.2.counters.any fun e => e.2.shares.any fun h => h.cam == n && h.held.isSome

/-! ### Barriers (R187 to R190) -/

/-- R188: the phase of a barrier, as core i reaches it. -/
def State.barPhase (s : State) (i : Nat) : BarScope → Nat
  | .stage b => ((s.group (s.groupOf i)).bars.get b.toNat).phase
  | .group => (s.group (s.groupOf i)).groupPhase
  | .device => s.devPhase

/-- R187: contexts of the given cores whose awaited phase of b is reached become ready. -/
def State.wakeBarrier (s : State) (b : BarScope) (cores : List Nat) : State :=
  cores.foldl (fun s i => s.wakeIf i fun _ w => match w with
    | .barrier b' p => decide (b' = b) && decide (p ≤ s.barPhase i b)
    | _ => false) s

/-- R187: an arrival at stage barrier b of group g is performed: at the expected count the phase advances. -/
def State.arriveStage (s : State) (g b : Nat) : State :=
  let x := (s.group g).bars.get b
  if x.expected ≤ x.count + 1 then
    let s := s.modGroup g fun y => { y with bars := y.bars.set b { x with phase := x.phase + 1, count := 0 } }
    s.wakeBarrier (.stage (BitVec.ofNat 6 b)) (s.groupCores g)
  else s.modGroup g fun y => { y with bars := y.bars.set b { x with count := x.count + 1 } }

/-- R188: core i still has work of camera n to do: it has a stripe of it bound, or a stage that it owns has shares of it, or
has not committed every stripe of a frame that is not final. -/
def State.coreWorks (s : State) (i n : Nat) : Bool :=
  let g := s.groupOf i
  (s.core i).bound.any (fun b => b.cam == n && !b.committed) ||
  (List.range 32).any fun w =>
    let c := s.counter g w
    c.cores.contains i && (c.shares.any (fun h => h.cam == n) ||
      (decide ((s.cam n).model = some c.handle) &&
        (s.liveFrames n).any fun q => (List.range (s.stripes n)).any fun k => !c.done.contains (n, q, k)))

/-- R188: core i arrives for each stream of its group that stops and of which it holds no more work. -/
def State.arriveStops (s : State) (i : Nat) : State :=
  { s with cams := s.cams.map fun e =>
      if s.camSg e.1 = s.groupOf i ∧ s.stream e.1 = 3 ∧ s.coreWorks i e.1 = false then
        (e.1, { e.2 with stop := e.2.stop.map fun p => { p with arrived := i :: p.arrived } })
      else e }

/-- R188: the group barrier advances: a stop for which every core that counted has arrived is closed. -/
def State.closeStops (s : State) (g : Nat) : State :=
  { s with cams := s.cams.map fun e =>
      if s.camSg e.1 = g then
        (e.1, { e.2 with stop := e.2.stop.map fun p =>
          { p with closed := p.closed || (s.group g).groupMembers.all p.arrived.contains, arrived := [] } })
      else e }

/-- R187, R189: the group barrier advances once its arrivals reach the cores that count; those present count in the next
phase. -/
def State.checkGroup (s : State) (g : Nat) : State :=
  let x := s.group g
  if x.groupMembers.length ≤ x.groupArrived.length then
    let s := (s.closeStops g).modGroup g fun y => { y with
      groupPhase := y.groupPhase + 1, groupArrived := [], groupMembers := (s.groupCores g).filter s.present }
    s.wakeBarrier .group (s.groupCores g)
  else s

/-- R187, R189: the same for the device barrier. -/
def State.checkDevice (s : State) : State :=
  if s.devMembers.length ≤ s.devArrived.length then
    let s := { s with devPhase := s.devPhase + 1, devArrived := [], devMembers := (List.range 16).filter s.present }
    s.wakeBarrier .device (List.range 16)
  else s

/-- R187: core i arrives at its group barrier, once in a phase. -/
def State.arriveGroup (s : State) (i : Nat) : State :=
  let g := s.groupOf i
  if (s.group g).groupMembers.contains i && !(s.group g).groupArrived.contains i then
    let s := (s.modCore i fun x => { x with groupAt := some s.aclk }).arriveStops i
    (s.modGroup g fun x => { x with groupArrived := i :: x.groupArrived }).checkGroup g
  else s

/-- R187: core i arrives at the device barrier, once in a phase. -/
def State.arriveDevice (s : State) (i : Nat) : State :=
  if s.devMembers.contains i && !s.devArrived.contains i then
    let s := s.modCore i fun x => { x with devAt := some s.aclk }
    { s with devArrived := i :: s.devArrived }.checkDevice
  else s

/-- R189: a core becomes absent: the counts of the group and device barriers fall by one; from the next phase where it has
arrived in this cycle. -/
def State.leaveBarriers (s : State) (i : Nat) : State :=
  let g := s.groupOf i
  let x := s.core i
  let s := if (s.group g).groupMembers.contains i && !((s.group g).groupArrived.contains i && x.groupAt == some s.aclk) then
      (s.modGroup g fun x => { x with groupMembers := x.groupMembers.erase i }).checkGroup g else s
  if s.devMembers.contains i && !(s.devArrived.contains i && x.devAt == some s.aclk) then
    { s with devMembers := s.devMembers.erase i }.checkDevice else s

/-- R189: a core returns from reset: it counts from the next phase, which begins at once where no core counts. -/
def State.joinBarriers (s : State) (i : Nat) : State :=
  let g := s.groupOf i
  let s := if (s.group g).groupMembers.isEmpty then s.checkGroup g else s
  if s.devMembers.isEmpty then s.checkDevice else s

/-- R187: a write to the hold cache or device memory that context c issued before a point of its program is not yet visible
to every core. -/
def State.writesBefore (s : State) (i c before : Nat) : Bool :=
  let x := s.core i
  let p := fun (e : Xfer) => e.ctx == c && decide (e.num < before) && e.writesDev
  x.dq.any p || x.dmaq.any (fun q => q.2.any p) || ((x.ctxs.get c).grids.any fun g => decide (g.num < before) &&
    leAt (x.grids.get g.g) 32 2 != 0xFFFF)

/-- R187: an arrival is performed. -/
def State.performArrival (s : State) (i : Nat) : BarScope → State
  | .group => s.arriveGroup i
  | .device => s.arriveDevice i
  | .stage b => s.arriveStage (s.groupOf i) b.toNat

/-- R187: context c of core i arrives at a barrier, once its earlier writes are visible. -/
def State.arriveWhenSeen (s : State) (i c : Nat) (b : BarScope) : State :=
  let n := (s.core i).serial
  if s.writesBefore i c n then s.modCore i fun x => { x with arrivals := x.arrivals ++ [{ ctx := c, scope := b, before := n }] }
  else s.performArrival i b

/-- R187: the arrivals of core i whose earlier writes have become visible are performed. -/
def State.settleArrivals (s : State) (i : Nat) : State :=
  let seen := (s.core i).arrivals.filter fun a => !s.writesBefore i a.ctx a.before
  let s := s.modCore i fun x => { x with arrivals := x.arrivals.filter fun a => !seen.contains a }
  seen.foldl (fun s a => s.performArrival i a.scope) s

end Sys2Proof.Machine
end

