-- ==== Sys2Proof/Machine/Wick.lean ====
section
/-! DEFINITION. Device time and the sync fabric (chapter 04, R413): sources, measurements, steps, schedules, triggers,
time pins. -/
namespace Sys2Proof.Machine

/-- A time moved by a step of d ns. -/
def addI (x : Nat) (d : Int) : Nat := ((x : Int) + d).toNat

/-! ### State and measurements (R93 to R98) -/

def tFree : Nat := 0
def tAcquire : Nat := 1
def tLocked : Nat := 2
def tHoldover : Nat := 3

/-- R428: the SYN block as a source. -/
def srcSyn : Nat := srcBlock 0x001

/-- R93, R452: the time state changes. -/
def State.setTimeState (s : State) (v : Nat) : State :=
  if s.fld F.SYN_STATUS_state = v then s
  else (s.setFld F.SYN_STATUS_state 0 v).traceEv 0 0x08 srcSyn v

/-- R112: a sync counter counts. -/
def State.synCount (s : State) (r : RegName) (n : Nat := 1) : State := s.bump r 0 clsSync srcSyn n

/-- R96, R100: the rate adjustment in force; a slew of ±500 ppm shows. -/
def State.setRate (s : State) (r : Int) : State :=
  (s.setRegN .SYN_RATE_ADJ 0 (ofSigned 32 r)).setFld F.SYN_STATUS_slewing 0 (b2n (decide (r = 500000 ∨ r = -500000)))

/-- R96: a slew that is under way ends, and the rate returns to f. -/
def State.endSlew (s : State) : State :=
  if s.time.slewEnd.isNone then s else (s.setRate s.time.heldF).modTime fun t => { t with slewEnd := none }

/-- R94: the source in force. -/
def State.source (s : State) : Nat := s.fld F.SYN_STATUS_source_in_force

/-- R93: the lock window in 1/16 ns: 50 ns for PTM, 4 ns for CASCADE. -/
def State.lockWindow (s : State) : Int := if s.source = 2 then 64 else 800

/-- R96: the measurement interval T in ns. -/
def State.measInterval (s : State) : Nat :=
  if s.source = 2 then 1024 else 2 ^ min 10 (s.fld F.SYN_CFG_ptm_interval) * 1000000

/-- A signed quantity that saturates at ±(2^31 − 1). -/
def sat32 (x : Int) : Nat := ofSigned 32 (clampI x (-2147483647) 2147483647)

/-- R101: a pending deadline of a frame moves. -/
def FrameS.shift (f : FrameS) (d : Int) : FrameS :=
  { f with closeAt := addI f.closeAt d, stamps := f.stamps.map fun x => addI x d,
           waitFrom := f.waitFrom.map fun x => addI x d,
           rowsOut := f.rowsOut.map fun r => { r with bound := addI r.bound d } }

/-- R101: the pending deadlines of a camera move; schedule instants keep their place. -/
def CamS.shift (c : CamS) (d : Int) : CamS :=
  { c with commit := c.commit.map fun k => if k.fromSched then k else { k with deadline := addI k.deadline d }
           expect := c.expect.map fun t => { t with deadline := addI t.deadline d }
           freeRun := c.freeRun.map fun x => addI x d }

/-- R101: the pending timeouts of a port move. -/
def PortS.shift (x : PortS) (d : Int) : PortS :=
  { x with since := addI x.since d, ackFrom := addI x.ackFrom d, freedFrom := addI x.freedFrom d,
           replay := x.replay.map fun r => { r with deadline := r.deadline.map fun t => addI t d }
           tunnels := x.tunnels.map fun t => { t with began := addI t.began d } }

/-- R101: a device time moved by d; the deadline 2^64 − 1 of a training stripe stays. -/
def moved (t : Nat) (d : Int) : Nat := if 2 ^ 64 - 1 ≤ t then t else addI t d

/-- R101: DMA fault waits and start times move. -/
def Xfer.shift (x : Xfer) (d : Int) : Xfer := { x with faultAt := x.faultAt.map (moved · d), launch := x.launch.map (moved · d) }

/-- R101: a core's waits, stripe deadline and fault waits move. -/
def CoreS.shift (x : CoreS) (d : Int) : CoreS :=
  { x with ctxs := x.ctxs.map fun e => (e.1, { e.2 with since := moved e.2.since d })
           dq := x.dq.map fun y => y.shift d
           dmaq := x.dmaq.map fun e => (e.1, e.2.map fun y => y.shift d)
           bound := x.bound.map fun b => { b with deadline := moved b.deadline d }
           rerun := x.rerun.map fun b => { b with deadline := moved b.deadline d } }

/-- R101: stripe deadlines and leases of a stage group move. -/
def GroupS.shift (g : GroupS) (d : Int) : GroupS :=
  { g with counters := g.counters.map fun e => (e.1, { e.2 with
      shares := e.2.shares.map fun h => { h with deadline := moved h.deadline d, held := h.held.map fun l => (l.1, moved l.2 d) } }) }

/-- R101: interrupt moderation moves. -/
def FnS.shift (f : FnS) (d : Int) : FnS :=
  { f with queues := f.queues.map fun e => (e.1, { e.2 with unsigFrom := moved e.2.unsigFrom d }) }

/-- R101: the timeouts of the security engine, Safelight, the chain, unit resets and updates move. -/
def SecS.shift (x : SecS) (d : Int) : SecS :=
  { x with eph := x.eph.map fun e => (e.1, e.2.map fun k => (moved k.1 d, k.2)), resetEnd := moved x.resetEnd d }
def SflS.shift (x : SflS) (d : Int) : SflS :=
  { x with holdAt := moved x.holdAt d, freeAt := moved x.freeAt d, lastStep := moved x.lastStep d, quietFrom := x.quietFrom.map (moved · d) }
def ChnS.shift (x : ChnS) (d : Int) : ChnS :=
  { x with delayNext := moved x.delayNext d, statusNext := moved x.statusNext d
           peers := x.peers.map fun e => (e.1, { e.2 with at_ := e.2.at_.map (moved · d), absentAt := e.2.absentAt.map (moved · d) })
           lostAt := x.lostAt.map fun e => (e.1, e.2.map (moved · d)) }
def BootS.shift (x : BootS) (d : Int) : BootS :=
  { x with unit := x.unit.map fun u => (u.1, u.2.1, u.2.2.1, moved u.2.2.2 d)
           sw := x.sw.map fun w => { w with began := w.began.map (moved · d), since := moved w.since d } }
def HoldS.shift (x : HoldS) (d : Int) : HoldS :=
  { x with window := x.window.map fun e => (e.1, e.2.map fun r => { r with at_ := moved r.at_ d, key := if r.stripe then r.key + d else r.key }) }

/-- R101: every pending deadline and timeout held in device time moves by d. -/
def State.shiftDeadlines (s : State) (d : Int) : State :=
  { s with frames := s.frames.map fun e => (e.1, e.2.shift d)
           cams := s.cams.map fun e => (e.1, e.2.shift d)
           ports := s.ports.map fun e => (e.1, e.2.shift d)
           cores := s.cores.map fun e => (e.1, e.2.shift d)
           groups := s.groups.map fun e => (e.1, e.2.shift d)
           fns := s.fns.map fun e => (e.1, e.2.shift d)
           sec := s.sec.shift d, sfl := s.sfl.shift d, chn := s.chn.shift d, boot := s.boot.shift d, hold := s.hold.shift d
           log := { s.log with wdt := s.log.wdt.map fun e => (e.1, e.2.map (moved · d)) } }

/-- R101: how many slots a mask names. -/
def slotCount (m : Nat) : Nat := ((List.range 32).filter fun k => bit m k).length

/-- R101, R418: triggers that the source of a forward was to launch in (t0, t0 + D) are cancelled, and counted for each
camera of their slots. -/
def State.cancelForwarded (s : State) (t0 t1 : Nat) : State :=
  let gone := s.chn.trigs.filter fun r => decide (t0 < r.launch) && decide (r.launch < t1)
  let s := { s with chn := { s.chn with trigs := s.chn.trigs.filter fun r => !(decide (t0 < r.launch) && decide (r.launch < t1)) } }
  s.synCount .SYN_CNT_SKIPPED ((gone.map fun r => slotCount r.slotMask).sum)

/-- R101: triggers launched in (t0, t0 + D) by a camera are cancelled and counted; one at t0 + D is sent. -/
def State.cancelLaunches (s : State) (t0 t1 : Nat) : State :=
  s.cams.foldl (fun s e =>
    let gone := e.2.launches.filter fun l => decide (t0 < l.l) && decide (l.l < t1)
    let s := s.modCam e.1 fun c => { c with launches := c.launches.filter fun l => !(decide (t0 < l.l) && decide (l.l < t1)) }
    s.synCount .SYN_CNT_SKIPPED gone.length) s

/-- R101: device time and what Wick waits for in it move: the sync symbol and PTM intervals and the spacing of
TIME_SNAP edges. -/
def TimeS.shift (t : TimeS) (d : Int) : TimeS :=
  { t with now := addI t.now d, lastSym := addI t.lastSym d, ptm := t.ptm.map (addI · d), ptmNext := addI t.ptmNext d,
           lastEdge := t.lastEdge.map (addI · d) }

/-- R97: the next own sync symbol is due at the next multiple of 1,024 ns. -/
def TimeS.nextEmit (t : TimeS) : TimeS := { t with emitNext := ceilDiv t.now 1024 * 1024 }

/-- R101: device time steps by d ns; the event is logged with a code. -/
def State.stepTime (s : State) (d : Int) (code : Nat) : State :=
  let t0 := s.now
  let t1 := addI t0 d
  let s := s.endSlew
  let s := if 0 < d then (s.cancelLaunches t0 t1).cancelForwarded t0 t1 else s
  let s := (s.shiftDeadlines d).modTime fun t => { (t.shift d) with jump := if 0 < d then some (t0, t1) else none }
  let s := s.modTime TimeS.nextEmit
  let s := s.setPair .SYN_LAST_STEP_LO .SYN_LAST_STEP_HI 0 t1
  let s := (s.setRegN .SYN_LAST_STEP_NS 0 (sat32 d)).setEvt F.SYN_STATUS_stepped
  let s := s.synCount .SYN_CNT_STEP
  (s.logEvent clsSync srcSyn code).traceEv 0 0x08 srcSyn (s.fld F.SYN_STATUS_state + 8)

/-- R96, R99: every camera stream is stopped and every schedule disabled. -/
def State.timeIdle (s : State) : Bool :=
  (List.range 512).all (fun n => s.stream n == 0) && (List.range 32).all fun g => !s.flag F.SYN_SCHED_CTL_enable g

/-- R96: f after a measurement of e (in 1/16 ns) over T ns. -/
def newHeld (f e : Int) (t : Nat) : Int := clampI (f + rneDiv (1000000000 * e) (16 * 32 * t)) (-500000) 500000
/-- R96: r after a measurement of e (in 1/16 ns) over T ns, from the new f. -/
def newRate (f e : Int) (t : Nat) : Int := clampI (f + rneDiv (1000000000 * e) (16 * 4 * t)) (-500000) 500000

/-- R96: the correction that a good measurement of e (in 1/16 ns) brings. -/
def State.correct (s : State) (e : Int) : State :=
  let thr : Int := max 1 (s.fld F.SYN_CFG_step_us) * 1000 * 16
  let ns := rneDiv e 16
  if s.time.firstDone = false ∧ s.timeIdle then (if ns = 0 then s else s.stepTime ns 0x01)
  else if thr < e then s.stepTime ns 0x01
  else if e < -thr then
    (s.setRate (-500000)).modTime fun t => { t with slewEnd := some (t.tclk + (-e).toNat * 125) }
  else
    let f := newHeld s.time.heldF e s.measInterval
    (s.setRate (newRate f e s.measInterval)).modTime fun t =>
      { t with heldF := f, slewEnd := none }

/-- R93: the time state after a good measurement of e (in 1/16 ns). -/
def State.advanceState (s : State) (e : Int) : State :=
  let inW := decide (-s.lockWindow ≤ e) && decide (e ≤ s.lockWindow)
  let run := if inW then s.time.goodRun + 1 else 0
  let s := s.modTime fun t => { t with goodRun := run, failRun := 0, firstDone := true }
  let st := s.fld F.SYN_STATUS_state
  let s := if st = tHoldover then (s.setTimeState tAcquire).logEvent clsSync srcSyn 0x04 else s
  let st := s.fld F.SYN_STATUS_state
  if st = tAcquire ∧ 8 ≤ run then s.setTimeState tLocked
  else if st = tLocked ∧ (4 * s.lockWindow < e ∨ e < -(4 * s.lockWindow)) then s.setTimeState tAcquire
  else s

/-- R96: a good measurement of e, in 1/16 ns. -/
def State.measure (s : State) (e : Int) : State :=
  let s := s.setRegN .SYN_OFFSET_LAST 0 (sat32 (rneDiv e 16))
  (s.correct e).advanceState e

/-- R93, R98: a measurement fails; after 4 in LOCKED, HOLDOVER at the held rate. -/
def State.measureFail (s : State) : State :=
  let s := s.synCount .SYN_CNT_MEAS_FAIL
  let s := s.modTime fun t => { t with goodRun := 0, failRun := t.failRun + 1 }
  if s.fld F.SYN_STATUS_state = tLocked ∧ 4 ≤ s.time.failRun then
    let s := (s.setTimeState tHoldover).synCount .SYN_CNT_HOLDOVER
    ((s.logEvent clsSync srcSyn 0x03).modTime fun t => { t.nextEmit with slewEnd := none, ownSym := true }).setRate s.time.heldF
  else s

/-- R94: the source in force becomes v; R112: leaving HOLDOVER is logged. -/
def State.setSource (s : State) (v : Nat) : State :=
  if s.source = v then s
  else
    let old := s.source
    let s := s.endSlew.setFld F.SYN_STATUS_source_in_force 0 v
    let s := if s.fld F.SYN_STATUS_state = tHoldover then s.logEvent clsSync srcSyn 0x04 else s
    let s := s.modTime fun t => { t with goodRun := 0, failRun := 0, firstDone := if old = 0 then false else t.firstDone
                                         ptm := none, ptmNext := t.now, lastSym := t.now }
    if v = 0 then (s.setRate 0).setTimeState tFree else s.setTimeState tAcquire

/-- R94: a write of SYN_CFG. -/
def State.synCfgWrite (s : State) (v : Nat) : State :=
  let s := s.setFld F.SYN_CFG_step_us 0 (getBits v 16 10)
  let s := s.setFld F.SYN_CFG_ptm_interval 0 (getBits v 8 4)
  let src := getBits v 0 2
  let pos := s.fld F.CHN_STATUS_pos
  if src = 3 ∨ (pos = 0 ∧ src = 2) then s
  else
    let s := s.setFld F.SYN_CFG_source 0 src
    if pos = 0 then s.setSource src else s

/-- R111: the pulse of an output ends: a pin that is high is deasserted. -/
def State.syncOutLow (s : State) (i : Nat) : State :=
  if (s.time.outs.get i).level then
    (s.modTime fun t => { t with outs := t.outs.modify i fun o => { o with level := false, pulse := false } }).emit (.syncOut i false)
  else s.modTime fun t => { t with outs := t.outs.modify i fun o => { o with pulse := false } }

/-- R99: a hard set, or its refusal. -/
def State.hardSet (s : State) : State :=
  if s.source = 0 ∧ s.timeIdle then
    let d : Int := (s.pair .SYN_SET_LO .SYN_SET_HI : Int) - s.now
    let s := s.stepTime d 0x02
    (List.range 4).foldl (fun s i =>
      (s.setFld F.SYN_OUT_CTL_enable i 0).syncOutLow i) s
  else s.setEvt F.SYN_STATUS_set_refused

/-! ### Schedules (R103 to R105) and triggers (R55, R78, R107 to R109) -/

/-- R363: feature code that holds a resource. -/
def State.owner (s : State) (r : Nat) : Nat := s.fld F.PIN_OWN_holder r

/-- Changes the context of every camera. -/
def State.mapCams (s : State) (f : Nat → CamS → CamS) : State := { s with cams := s.cams.map fun e => (e.1, f e.1 e.2) }

/-- R103: the period of schedule g is in range. -/
def State.schedPeriodOk (s : State) (g : Nat) : Bool :=
  let p := s.fld F.SYN_SCHED_PERIOD_period g
  decide (1000000 ≤ p) && decide (p ≤ 1000000000)

/-- R103: the first tick whose instant lies at least 1 ms after t. -/
def firstTick (b period t : Nat) : Nat := ceilDiv (t + 1000000 - b) period

/-- R103: schedule g starts. -/
def State.schedStart (s : State) (g : Nat) : State :=
  if s.flag F.SYN_SCHED_CTL_enable g ∨ s.schedPeriodOk g = false then s
  else
    let k := firstTick (s.pair .SYN_SCHED_BASE_LO .SYN_SCHED_BASE_HI g) (s.fld F.SYN_SCHED_PERIOD_period g) s.now
    let s := (s.setFld F.SYN_SCHED_CTL_enable g 1).modTime fun t => { t with sched := t.sched.modify g fun x => { x with next := k, first := k } }
    s.synCount .SYN_CNT_LATE_TICK k

/-- R103: schedule g stops: no further tick comes, and triggers worked out for a tick still ahead are not launched. -/
def State.schedStop (s : State) (g : Nat) : State :=
  (s.setFld F.SYN_SCHED_CTL_enable g 0).mapCams fun n c =>
    if s.fld F.CAM_TRIG_CFG_sched n = g then
      { c with launches := c.launches.filter fun l => decide ((l.s : Int) - toSigned 20 (s.fld F.CAM_TRIG_CFG_phase n) ≤ s.now) }
    else c

/-- R103, R415: a write of SYN_SCHED_CTL by a register access. -/
def State.schedCtlWrite (s : State) (g v : Nat) : State :=
  if s.owner (32 + g) = 0x05 then s else if getBits v 0 1 = 1 then s.schedStart g else s.schedStop g

/-- R404, R436: triggers are launched. -/
def State.triggersOn (s : State) : Bool := !s.fatal && !s.flag F.SFL_STATUS_trip

/-- R101: a launch or edge at time t was jumped over by the last forward step. -/
def State.jumped (s : State) (t : Nat) : Bool :=
  match s.time.jump with | some j => decide (j.1 < t) && decide (t < j.2) | none => false

/-- R104, R105, R402: the running triggered cameras that take tick k of schedule g. -/
def State.tickCams (s : State) (g k : Nat) : List Nat :=
  (List.range 512).filter fun n => s.stream n == 2 && !s.flag F.CAM_CFG_free_run n && s.fld F.CAM_TRIG_CFG_sched n == g &&
    s.takesTick n k && !s.withheld n k

/-- R105: tick k of schedule g: the launch time of every camera that takes it. -/
def State.schedTick (s : State) (g : Nat) : State :=
  let k := (s.time.sched.get g).next
  let inst := s.pair .SYN_SCHED_BASE_LO .SYN_SCHED_BASE_HI g + k * s.fld F.SYN_SCHED_PERIOD_period g
  if s.flag F.SYN_SCHED_CTL_enable g ∧ inst ≤ s.now + 1000000 then
    let s := s.modTime fun t => { t with sched := t.sched.modify g fun x => { x with next := k + 1 } }
    if s.triggersOn then
      (s.tickCams g k).foldl (fun s n =>
        let si := s.instantOf n k
        let l := s.launchTime n si
        if s.jumped l then s.synCount .SYN_CNT_SKIPPED
        else s.modCam n fun c => { c with launches := c.launches ++ [{ l := l, s := si }] }) s
    else s
  else s

/-- R55: the mask of sensor slots of a list of cameras of one port. -/
def slotMask (ns : List Nat) : Nat := ns.foldl (fun m n => setBit m (camSlot n)) 0

/-- R55: the start of the first block slot of a port that starts at or after device time l, both in hundredths of a
nanosecond. -/
def State.slotFrom (s : State) (p : Nat) (l : Int) : Int :=
  let begun : Int := 100 * (s.now : Int) - (s.tx.get p).phase
  begun - (begun - l) / (s.slotTime p : Int) * (s.slotTime p : Int)

/-- R55, R102, R413: early of a block whose instant is l, in hundredths of a nanosecond: how far after l its slot starts, in
units of 125 ps. -/
def State.earlyAt (s : State) (p : Nat) (l : Int) : Nat := ((s.slotFrom p l - l) * 2 / 25).toNat

/-- R55: the start, in hundredths of a nanosecond, of the first block slot of a port that starts at or after device time
l. -/
def State.slotStart (s : State) (p l : Nat) : Int := s.slotFrom p (100 * (l : Int))

/-- R55, R102: early of a trigger launched at l. -/
def State.earlyOf (s : State) (p l : Nat) : Nat := s.earlyAt p (100 * (l : Int))

/-- R55, R107: launches at l and m leave in one block slot of the port. -/
def State.sameSlot (s : State) (p l m : Nat) : Bool := s.slotStart p l == s.slotStart p m

/-- R55, R108: queues a TRIGGER block on a port for launch time l: it takes the next trig_seq, modulo 16,383, as a launch
does on a port that is not ACTIVE; an ABORT takes none there, for no block is sent. -/
def State.sendTrigger (s : State) (p mask kind l : Nat) : Nat × State :=
  let q := (s.port p).trigSeq
  let s := if kind = 1 ∧ s.portState p ≠ pActive then s else s.modPort p fun x => { x with trigSeq := (q + 1) % 16383 }
  (q, if s.portState p = pActive then s.queueBlock p 1 0x4B (mask + kind * 2 ^ 32 + s.earlyOf p l * 2 ^ 34 + q * 2 ^ 42) else s)

/-- R78: a launched EXPOSE trigger is expected to be answered. -/
def State.expectTrig (s : State) (n seq inst : Nat) : State :=
  s.modCam n fun c => { c with expect := c.expect ++ [{ seq := seq, deadline := inst + s.startTimeout n }]
                               missed := c.missed.filter (· != seq) }

/-- R55, R105, R107, R108: the launches of a port that fall in the block slot of launch time l, once that has come, share
one TRIGGER block, whose early counts from the earliest; on a port that is not ACTIVE no block is sent, and each camera is
counted. -/
def State.launchPort (s : State) (p l : Nat) : State :=
  let heads := (portCams p).filterMap fun n => (s.cam n).launches.head?.map fun x => (n, x)
  let due := heads.filter fun e => s.sameSlot p e.2.l l
  if s.now < l ∨ !(heads.any fun e => e.2.l == l) then s
  else
    let t := s.sendTrigger p (slotMask (due.map (·.1))) 0 (due.foldl (fun m e => min m e.2.l) l)
    let s := if t.2.portState p = pActive then t.2 else t.2.synCount .SYN_CNT_TRIG_NOLINK due.length
    due.foldl (fun s e => (s.modCam e.1 fun c => { c with launches := c.launches.tail }).expectTrig e.1 t.1 e.2.s) s

/-- R418: the target of a forward asks the source to launch the triggers whose launch time lies within 1 ms. -/
def State.requestRemote (s : State) (p : Nat) : State :=
  (portCams p).foldl (fun s n =>
    match (s.cam n).launches with
    | l :: ls =>
      if l.l ≤ s.now + 1000000 then
        (s.modCam n fun c => { c with launches := ls, asked := c.asked ++ [l] }).emit (.chainMsg (s.fwdPeer p)
          (.trigger (BitVec.ofNat 4 p) (BitVec.ofNat 32 (2 ^ camSlot n)) l.l l.s false))
      else s
    | [] => s) s

/-- R107, R418: the source launches the triggers that a target asked for and that fall in the block slot of launch time l,
once that has come, in one block, and reports each. -/
def State.launchForTarget (s : State) (p l : Nat) : State :=
  let due := s.chn.trigs.filter fun r => r.port == p && s.sameSlot p r.launch l
  if s.now < l ∨ !(due.any fun r => r.launch == l) then s
  else
    let u := { s with chn := { s.chn with trigs := s.chn.trigs.filter fun r => !(r.port == p && s.sameSlot p r.launch l) } }
    let mask := due.foldl (fun m r => Nat.lor m r.slotMask) 0
    let t := u.sendTrigger p mask 0 (due.foldl (fun m r => min m r.launch) l)
    let u := if t.2.portState p = pActive then t.2 else t.2.synCount .SYN_CNT_TRIG_NOLINK (slotCount mask)
    due.foldl (fun s r => s.emit (.chainCtl r.from_ p (.trigger (BitVec.ofNat 32 r.slotMask) (BitVec.ofNat 14 t.1) r.inst))) u

/-- R55, R418: the launch of a port at launch time l, or the requests for it. -/
def State.triggerLaunch (s : State) (p l : Nat) : State :=
  if s.triggersOn = false then s
  else if s.isIn p then s.requestRemote p
  else if s.isOut p then s.launchForTarget p l
  else s.launchPort p l

/-- R109: a trigger launched for the camera has had no FRAME_START accepted: it is expected, was recorded as missed, or was
asked of the source of the port's forward. -/
def State.unanswered (s : State) (n : Nat) : Bool :=
  !(s.cam n).expect.isEmpty || !(s.cam n).missed.isEmpty || !(s.cam n).asked.isEmpty

/-- R109: a stop sends an ABORT trigger for a camera with an unanswered EXPOSE. -/
def State.sendAbort (s : State) (n : Nat) : State :=
  if s.unanswered n = false then s
  else
    let s := s.modCam n fun c => { c with asked := [] }
    if s.isIn (camPort n) then
      s.emit (.chainMsg (s.fwdPeer (camPort n)) (.trigger (BitVec.ofNat 4 (camPort n)) (BitVec.ofNat 32 (2 ^ camSlot n)) s.now s.now true))
    else (s.sendTrigger (camPort n) (2 ^ camSlot n) 1 s.now).2

/-! ### Time pins (R110, R111) -/

/-- R111: time of edge j of an output. -/
def State.edgeTime (s : State) (i j : Nat) : Nat := s.pair .SYN_OUT_T_LO .SYN_OUT_T_HI i + j * s.fld F.SYN_OUT_PERIOD_period i

/-- R111: pulse width of an output. -/
def State.pulseWidth (s : State) (i : Nat) : Nat :=
  let w := max 1 (s.fld F.SYN_OUT_CTL_width i)
  let p := s.fld F.SYN_OUT_PERIOD_period i
  if p = 0 then w else if p ≤ w then p - 1 else w

/-- R111: a write of the control word: enabling arms the train from the first edge at least 1 µs ahead. -/
def State.syncOutWrite (s : State) (i v : Nat) : State :=
  let was := s.flag F.SYN_OUT_CTL_enable i
  let s := s.setFld F.SYN_OUT_CTL_width i (getBits v 0 16)
  let s := s.setFld F.SYN_OUT_CTL_enable i (getBits v 31 1)
  if getBits v 31 1 = 1 ∧ was = false then
    let t := s.pair .SYN_OUT_T_LO .SYN_OUT_T_HI i
    let p := s.fld F.SYN_OUT_PERIOD_period i
    let j := if p = 0 then (if s.now + 1000 ≤ t then 0 else 1) else ceilDiv (s.now + 1000 - t) p
    s.modTime fun x => { x with outs := x.outs.modify i fun o => { o with next := j } }
  else if getBits v 31 1 = 0 then s.syncOutLow i
  else s

/-- R111: the pin is granted to the sync function. -/
def State.syncGranted (s : State) (i : Nat) : Bool := s.owner (16 + i) == 0x02

/-- R111: the next edge of an output has come: the pin is asserted, or the edge is skipped after a forward step. -/
def State.syncOutEdge (s : State) (i : Nat) : State :=
  let o := s.time.outs.get i
  let e := s.edgeTime i o.next
  let single := s.fld F.SYN_OUT_PERIOD_period i == 0
  let jumped := match s.time.jump with | some j => decide (j.1 < e) && decide (e ≤ j.2) | none => false
  if s.flag F.SYN_OUT_CTL_enable i ∧ e ≤ s.now ∧ ¬ (single ∧ 0 < o.next) then
    let s := s.modTime fun x => { x with outs := x.outs.modify i fun o => { o with next := o.next + 1 } }
    if s.syncGranted i ∧ jumped = false then
      (s.modTime fun x => { x with outs := x.outs.modify i fun o => { o with level := true, pulse := true, fallAt := e + s.pulseWidth i } }).emit
        (.syncOut i true)
    else s
  else s

/-- R111: width ns after an edge the pin is deasserted; after a single pulse enable clears. -/
def State.syncOutEnd (s : State) (i : Nat) : State :=
  let o := s.time.outs.get i
  if o.pulse ∧ o.fallAt ≤ s.now then
    let s := s.syncOutLow i
    if s.fld F.SYN_OUT_PERIOD_period i = 0 then s.setFld F.SYN_OUT_CTL_enable i 0 else s
  else s

/-- R110: a rising edge on TIME_SNAP. -/
def State.snapEdge (s : State) : State :=
  let t := s.now
  let close := match s.time.lastEdge with | some e => decide (t < e + 10) | none => false
  let s := s.modTime fun x => { x with lastEdge := some t }
  if close = true ∨ 16 ≤ s.time.snaps.length then
    s.setFld F.SYN_SNAP_STATUS_dropped 0 (satAdd 16 (s.fld F.SYN_SNAP_STATUS_dropped) 1)
  else s.modTime fun x => { x with snaps := x.snaps ++ [t] }

end Sys2Proof.Machine
end

