-- ==== Sys2Proof/Machine/Stop.lean ====
section
/-! DEFINITION. Stopping a stream (R164, R264, R291, R332). -/
namespace Sys2Proof.Machine

def State.adaptOf (s : State) (n : Nat) : AdaptS := s.adapt.get n
def State.modAdapt (s : State) (n : Nat) (f : AdaptS → AdaptS) : State := { s with adapt := s.adapt.modify n f }

/-- R332: queued and gate pairs and any work in progress are discarded. -/
def State.dropPairs (s : State) (n : Nat) : State :=
  s.modAdapt n fun a => { a with pairs := [], gate := [], building := none, trained := [], lastPair := none }

/-! ### The snuffer (R382, R386) -/

/-- 2 MiB units of a range. -/
def units (n : Nat) : Nat := ceilDiv n (2 ^ 21)

/-- R386: the memory clear rate in force, in GB/s, which is bytes per ns. -/
def State.snufRate (s : State) : Nat := max 1 (min 64 (s.fld F.SEC_SNUF_CFG_rate))

/-- R385, R386: bytes that participant w of the snuffer still has to write: 0 the oldest unfinished clear, k + 1 the memory
phase of the scrub of tenant k. -/
def SecS.owed (x : SecS) (w : Nat) : Nat :=
  if w = 0 then (x.clears.find? fun c => decide (0 < c.left)).elim 0 (·.left)
  else ((x.scrubs.get (w - 1)).filter (·.onchip)).elim 0 (·.left)

/-- R385: who is served after w, in ascending order and round to w itself. -/
def SecS.nextTurn (x : SecS) (w : Nat) : Option Nat :=
  ((List.range 9).map fun k => (w + 1 + k) % 9).find? fun v => decide (0 < x.owed v)

/-- The first clear with bytes left has n of them written. -/
def writeClear (n : Nat) : List ClearS → List ClearS
  | [] => []
  | c :: l => if 0 < c.left then { c with left := c.left - n } :: l else c :: writeClear n l

/-- R386: n bytes of participant w have been written. -/
def SecS.wrote (x : SecS) (w n : Nat) : SecS :=
  if w = 0 then { x with clears := writeClear n x.clears }
  else { x with scrubs := x.scrubs.set (w - 1) ((x.scrubs.get (w - 1)).map fun y => { y with left := y.left - n }) }

/-- R385, R386: the units that the bytes written so far complete, one 2 MiB unit of each participant in turn; a rate r that has
been written takes effect with the next unit. -/
def snufUnits : Nat → Nat → SecS → SecS
  | 0, _, x => x
  | n + 1, r, x =>
    let w := x.snuf.turn
    let u := min (2 ^ 21) (x.owed w)
    if u = 0 then
      match x.nextTurn w with
      | none => { x with snuf := { x.snuf with done := 0 } }
      | some v => snufUnits n r { x with snuf := { x.snuf with turn := v } }
    else if x.snuf.done < u then x
    else
      let x := x.wrote w u
      let d := (x.snuf.done - u) * r / x.snuf.rate
      snufUnits n r { x with snuf := { x.snuf with done := d, rate := r, turn := (x.nextTurn w).getD w } }

/-- R386: the snuffer has some memory to clear. -/
def SecS.snufBusy (x : SecS) : Bool := (List.range 9).any fun w => decide (0 < x.owed w)

/-- R386: units, whole or begun, that all participants have left. -/
def SecS.unitsOwed (x : SecS) : Nat :=
  ((x.clears.map fun c => units c.left) ++ (List.range 8).map fun k => (x.scrubs.get k).elim 0 fun y => units y.left).sum

/-- R386: the snuffer's progress up to now. -/
def State.snufRun (s : State) : State :=
  let x := s.sec
  let y : SnufS := if x.snufBusy then { x.snuf with at_ := s.time.tclk, done := x.snuf.done + x.snuf.rate * (s.time.tclk - x.snuf.at_) }
    else { x.snuf with at_ := s.time.tclk, done := 0, rate := s.snufRate }
  { s with sec := snufUnits (2 * x.unitsOwed + 2) s.snufRate { x with snuf := y } }

/-- R386: SEC_SNUF_STATUS: the clear in progress, the function whose memory it is, and its units left. -/
def State.snufWord (s : State) : Nat :=
  let x := s.snufRun.sec
  let w := x.snuf.turn
  let f := if w = 0 then (x.clears.find? fun c => decide (0 < c.left)).elim 0 (·.fn) else w
  if x.owed w = 0 then 0 else min 65535 (units (x.owed w)) + f * 2 ^ 24 + 2 ^ 31

/-- R382: the snuffer is to clear ranges of device memory; the last of them ends a command. -/
def State.clearFor (s : State) (l : List ClearS) : State :=
  let s := s.snufRun
  { s with sec := { s.sec with clears := s.sec.clears ++ l.map fun (c : ClearS) => { c with left := c.bytes } } }

/-! ### Emptied DMA queues (R291) -/

/-- R291: rows of a transfer have been issued and not delivered. -/
def Xfer.inFlight (x : Xfer) : Bool := decide (x.rows + x.early.length + x.unacked.length < x.issued)

/-- R291: a DMA queue is emptied: its pending fault record is discarded, and rows whose requests have issued stay to be
delivered. -/
def State.emptyQueue (s : State) (i q : Nat) : State :=
  let f := (s.core i).user.fn
  let late := (((s.core i).dmaq.get q).filter fun x => x.inFlight).map fun x =>
    { x with pages := some (f, (s.fn f).dev, (s.fn f).host) }
  let s := s.modCore i fun x => { x with dmaq := x.dmaq.set q [], flying := x.flying ++ late.map fun y => (q, y) }
  let s := s.setFld F.LC_DMAQ_STATUS_pending (16 * i + q) 0
  let s := s.setFld F.LC_DMAQ_STATUS_faulted (16 * i + q) 0
  let s := s.setFld F.LC_DMAF_INFO_valid (16 * i + q) 0
  if late.isEmpty then s.setRegN .LC_DMAQ_OUT (16 * i + q) 0 else s

/-- R170: context c has an instruction with this index in an engine queue or a DMA queue. -/
def State.outstanding (s : State) (i c pc : Nat) : Bool :=
  let x := s.core i
  x.aq.any (fun e => e.ctx == c && e.pc == pc) || x.vq.any (fun e => e.ctx == c && e.pc == pc) ||
  x.dq.any (fun e => e.ctx == c && e.pc == pc) || x.dmaq.any (fun q => q.2.any fun e => e.ctx == c && e.pc == pc) ||
  (s.ctx i c).grids.any fun g => g.pc == pc

/-- R172, R173: contexts of core i whose own instruction has completed become ready. -/
def State.wakeOwn (s : State) (i : Nat) : State :=
  s.wakeIf i fun c w => match w with
    | .own pc => !s.outstanding i c pc
    | .rescale pc => !s.outstanding i c pc
    | _ => false

/-- R164, R291: an abort stop empties the DMA queues of contexts 0 to 5 of a core. The stage in progress goes on with what
has been delivered: its waits for rows, and for transfers that are no more, end. -/
def State.emptyStage (s : State) (i : Nat) : State :=
  let s := (List.range 12).foldl (fun s q => s.emptyQueue i q) s
  ((s.settleArrivals i).wakeOwn i).wakeIf i fun c w => match w with
    | .dmaRows _ _ => decide (c < 6)
    | _ => false

/-! ### Stops -/

/-- R164, R291: abort rules: every non-final frame becomes DROPPED, queued shares are withdrawn, and the DMA queues of the
stages in progress are emptied. -/
def State.abortFrames (s : State) (n : Nat) : State :=
  let s := ((s.liveFrames n).foldl (fun s q => s.finalize n q 5) s).withdraw n true
  ((List.range 16).filter fun i => (s.core i).bound.any fun b => b.cam == n).foldl (fun s i => s.emptyStage i) s

/-- R164: a stop of camera n is accepted now, for a command (or none), in abort or drain mode. -/
def State.stopStream (s : State) (n : Nat) (abort : Bool) (by_ : Option CmdRef) (reason : Nat) : State :=
  let who := by_.toList.map fun c => (c, s.now)
  match s.stream n with
  | 0 => s
  | 3 =>
    let p := ((s.cam n).stop.getD {})
    let s := s.modCam n fun c => { c with stop := some { p with
      waiters := p.waiters ++ who, abort := p.abort || abort, reason := if p.reason = 0 then reason else p.reason } }
    if abort && !p.abort then s.abortFrames n else s
  | st =>
    let aborts := abort || st == 1
    let stop : StopS := { p := s.now, abort := aborts, waiters := who, reason := reason }
    let s := s.sendAbort n
    let s := s.modCam n fun c => { c with stop := some stop, launches := [], freeRun := none, headStaged := none }
    let s := ((s.setFld F.CAM_STATUS_stream n 3).traceEv 0 0x01 (srcCam n) (n + 2 ^ 16)).dropPairs n
    if aborts then s.abortFrames n else s.withdraw n false

/-- R164: the stop of camera n may end: every entry is final, every output write has completed, no core holds its work,
and the group barrier has advanced with the arrival of every core after its last work (R188). -/
def State.stopDone (s : State) (n : Nat) : Bool :=
  match (s.cam n).stop with
  | none => false
  | some p =>
    s.stream n == 3 && (s.cam n).start.isNone && (s.liveFrames n).isEmpty &&
    !(s.frames.any fun e => e.1 / 128 == n && !e.2.rowsOut.isEmpty) && !s.holdsShare n &&
    p.closed

/-- R164, R357: the stream becomes stopped: its reservations are released, and every STREAM_STOP replies with its own
acceptance time. -/
def State.streamStopped (s : State) (n : Nat) : State :=
  if s.stopDone n then
    let p := (s.cam n).stop.getD {}
    let s := (s.releaseStream n).forgetDone n
    let s := p.waiters.foldl (fun s w => s.reply w.1 stOk 0 w.2) s
    if p.reason = 0 then s else s.event (s.cam n).holder 0x0002 (n + p.reason * 2 ^ 16) 0
  else s

end Sys2Proof.Machine
end

