-- ==== Sys2Proof/Machine/Lantern.lean ====
section
/-! DEFINITION. Issue, faults, the engine queues and stripe stages of a Lantern core (R168 to R173, R193 to R199, R230 to
R236, R333, R401). -/
namespace Sys2Proof.Machine

/-- R333: array cycles that context 6 may use in a window. -/
def State.adaptBudget (s : State) (i : Nat) : Nat := min 8 (s.fld F.LC_ADAPT_CFG_budget i) * 70000

/-- R171, R172: the priority with which context c competes: an IDLE context 6 or 7 with that of its role. -/
def State.issuePrio (s : State) (i c : Nat) : Nat :=
  if s.ctxState i c = 0 then ctxPrio c false else s.fld F.LC_CTX_STATUS_prio (8 * i + c)

/-- R172: how recently a context issued: 0 for the latest; 8 and more for one that never issued, the lowest index highest. -/
def State.issueAge (s : State) (i c : Nat) : Nat :=
  ((s.core i).lastIssue.findIdx? (· == c)).getD (16 - c)

/-- R172: the issue unit prefers context c to the ready context d. -/
def State.prefers (s : State) (i c d : Nat) : Bool :=
  decide (s.issuePrio i d < s.issuePrio i c) || (s.issuePrio i d == s.issuePrio i c && decide (s.issueAge i d < s.issueAge i c))

/-- The index of the instruction that context c issues. -/
def State.pcOf (s : State) (i c : Nat) : Nat := s.fld F.LC_CTX_STATUS_pc (8 * i + c)

/-- R171: a context bound to the stripe has reached the end of the stage program. -/
def State.finished (s : State) (i c : Nat) : Bool :=
  match (s.core i).bound with
  | some b => decide (c < 6) && bit b.ctxs c && s.pcOf i c == (s.counter (s.groupOf i) b.w).stop
  | none => false

/-- R172: no other ready context of core i comes before context c. -/
def State.issueTurn (s : State) (i c : Nat) : Bool :=
  (List.range 8).all fun d => d == c || !s.ready i d || s.finished i d || s.prefers i c d

/-- R169, R172: the issue unit of core i has not issued in this cycle, and context c has its turn. -/
def State.issueSlot (s : State) (i c : Nat) : Bool :=
  s.issueTurn i c && decide ((s.core i).issuedAt ≠ some s.aclk) && !s.fatal && !s.flag F.SFL_STATUS_trip &&
  (c != 6 || (decide (s.regN .LC_ADAPT_USED i < s.adaptBudget i) && s.fld F.SFL_GOV_step == 0))

/-- R169, R172: context c of core i may issue now: the core runs and has not issued in this cycle, the context is ready, and
no ready context comes before it. A context 6 or 7 that is IDLE is started by firmware with its first instruction. -/
def State.canIssue (s : State) (i c : Nat) : Bool :=
  s.issueSlot i c && (s.coreState i == 2 || s.coreState i == 3) && !s.finished i c &&
  (s.ready i c || (decide (6 ≤ c) && s.ctxState i c == 0))

/-- R172: context c takes this cycle's issue. -/
def State.tookTurn (s : State) (i c : Nat) : State :=
  s.modCore i fun x => { x with lastIssue := c :: x.lastIssue.filter (· ≠ c), issuedAt := some s.aclk }

/-- R172: context c issues the instruction at its pc, and moves to the next. -/
def State.advance (s : State) (i c : Nat) : State :=
  let s := if s.ctxState i c = 0 then s.startCtx i c 0 false else s
  let s := (s.setCoreState i 3).tookTurn i c
  s.setFld F.LC_CTX_STATUS_pc (8 * i + c) ((s.fld F.LC_CTX_STATUS_pc (8 * i + c) + 1) % 4096)

/-- R169, R172: an instruction of context c issues, if it can; body receives its instruction index. -/
def State.issue (s : State) (i c : Nat) (body : State → Nat → State) : State :=
  if s.canIssue i c then body (s.advance i c) (s.pcOf i c) else s

/-! ### Faults (R194 to R198) -/

/-- R195: fault codes. -/
def fShapeOver : Nat := 1
def fSpadRange : Nat := 2
def fTableRange : Nat := 3
def fDescRange : Nat := 4
def fAccRange : Nat := 5
def fAlign : Nat := 6
def fIllegalOp : Nat := 7
def fSpadEcc : Nat := 8
def fRingTimeout : Nat := 9
def fBarrierTimeout : Nat := 10
def fKilled : Nat := 11

/-- R195: a transient fault. -/
def isTransient (code : Nat) : Bool := code == 8 || code == 9 || code == 10

/-- R194: LC_FAULT records the first fault since the core's last reset. -/
def State.recordFault (s : State) (i c pc engine code : Nat) : State :=
  if s.fld F.LC_FAULT_code i = 0 then s.setRegN .LC_FAULT i (pc * 2 ^ 20 + engine * 2 ^ 12 + c * 2 ^ 8 + code) else s

/-- R178: ACLK cycle of core i, counted from the cycle after it left reset. -/
def State.coreCycle (s : State) (i : Nat) : Nat := s.aclk - (s.core i).from_

/-! ### The scratchpad's slots and the ring (R178, R191, R192) -/

/-- R178: nothing that is in progress on the core can still read the scratchpad as it was. -/
def CoreS.still (x : CoreS) : Bool := x.aq.isEmpty && x.vq.isEmpty && !x.sends.any (·.complete.isSome)

/-- R176, R178: the scratchpad becomes m, by a slot that writes the lines of a run of bytes from cycle t on. What those bytes
held before stays known while an instruction in progress may have read them earlier. -/
def CoreS.putSpad (x : CoreS) (slot t : Nat) (run : Nat × Nat) (m : List Host.Cell) : CoreS :=
  { x with
    spad := m
    past := if x.still then [] else
      ((List.range run.2).map fun k => (reach slot ((run.1 + k) / 256) t, run.1 + k, memRead x.spad (run.1 + k))) ++ x.past }

/-- R178: the scratchpad as the reads of a cycle find it. -/
def CoreS.seen (x : CoreS) : Spad := { now := x.spad, past := x.past }

/-- The place of core j downstream of core i in their stage group; none where it does not lie there. -/
def State.hops (s : State) (i j : Nat) : Option Nat :=
  let cs := s.groupCores (s.groupOf i)
  match cs.findIdx? (· == i), cs.findIdx? (· == j) with
  | some a, some b => if a < b then some (b - a) else none
  | _, _ => none

/-- R192: hops of a send from core i to its farthest target. -/
def State.ringHops (s : State) (i : Nat) (x : SendS) : Nat := (x.targets.map fun j => (s.hops i j).getD 0).foldl max 0

/-- R192: links that a send from core i uses, each named by the core it leaves. -/
def State.ringLinks (s : State) (i : Nat) (x : SendS) : List Nat := (List.range (s.ringHops i x)).map fun k => (i + k) % 16

/-- R192: links that carry a transfer. -/
def State.busyLinks (s : State) : List Nat :=
  ((List.range 16).map fun i => (((s.core i).sends.filter (·.complete.isSome)).map (s.ringLinks i)).flatten).flatten

/-- R192: core j has a receive posted that no send has taken. -/
def State.hasReceive (s : State) (j : Nat) : Bool := (s.core j).recvs.any fun r => !r.taken

/-- The first receive that is not taken becomes taken. -/
def takeRecv : List RecvS → List RecvS
  | [] => []
  | r :: rs => if r.taken then r :: takeRecv rs else { r with taken := true } :: rs

/-- R192: the first waiting send of core i starts, if every target has posted a receive and its path is free. -/
def State.ringStart (s : State) (i : Nat) : State :=
  match (s.core i).sends.find? fun x => x.complete.isNone with
  | none => s
  | some x =>
    if x.targets.all s.hasReceive && !(s.ringLinks i x).any s.busyLinks.contains then
      let t := s.coreCycle i
      let done := t + wheelAlign t + ceilDiv x.len 256 + 8 * s.ringHops i x + 8
      let s := s.modCore i fun y => { y with sends := y.sends.map fun z =>
        if z.ctx = x.ctx ∧ z.pc = x.pc then { z with complete := some done } else z }
      x.targets.foldl (fun s j => s.modCore j fun y => { y with recvs := takeRecv y.recvs }) s
    else s

/-- R192: the waiting sends of every core start where they can. -/
def State.ringTry (s : State) : State := (List.range 16).foldl (fun s i => s.ringStart i) s

/-- R453: cycles for which an instruction of an engine has run, from its start to now. -/
def ranFor (now start complete : Nat) : Nat := min now complete - start

/-- R196: the array, vector and DMA work of the contexts that p names is abandoned, and their DMA queues are emptied. -/
def State.abandon (s : State) (i : Nat) (p : Nat → Bool) : State :=
  let t := s.coreCycle i
  let s := s.obsAdd (1536 + i) (((s.core i).aq.filter fun e => p e.ctx).map fun e => ranFor t e.start e.complete).sum
  let s := s.obsAdd (1552 + i) (((s.core i).vq.filter fun e => p e.ctx).map fun e => ranFor t e.start e.complete).sum
  let s := s.modCore i fun x => { x with
    aq := x.aq.filter fun e => !p e.ctx, vq := x.vq.filter fun e => !p e.ctx, dq := x.dq.filter fun e => !p e.ctx
    recvs := x.recvs.filter fun r => !p r.ctx, sends := x.sends.filter fun r => !p r.ctx
    arrivals := x.arrivals.filter fun a => !p a.ctx }
  ((List.range 16).foldl (fun s q => if p (q / 2) then s.emptyQueue i q else s) s).ringTry

/-- R334: codes of pause causes. -/
def cHost : Nat := 1
def cGovernor : Nat := 2
def cFault : Nat := 3
def cPoison : Nat := 4
def cDrift : Nat := 5
def cUpdate : Nat := 6

/-- R334: the lowest code among the causes that hold; 0 where none does. -/
def lowestCause (m : Nat) : Nat := ((List.range 6).find? fun k => bit m k).elim 0 (· + 1)

/-- R335: the audit entry and its number. -/
def State.audit (s : State) (n ev first lk lc drift : Nat) : State :=
  let a := s.regN .CAM_ADAPT_NUM n
  let s := s.setRegN .CAM_ADAPT_NUM n (a + 1)
  let s := s.traceEv 3 0x0C (srcCam n) (n + a % 2 ^ 23 * 2 ^ 9)
  if s.flag F.CAM_ADAPT_AUDIT_LO_enable n then
    let d := s.adaptOf n
    let at0 := s.pair .CAM_ADAPT_AUDIT_LO .CAM_ADAPT_AUDIT_HI n / 4096 * 4096 + 64 * (a % 64)
    let rest := leBytes 4 ev ++ leBytes 4 first ++ leBytes 4 d.swaps ++ leBytes 4 lk ++ leBytes 4 lc ++ leBytes 4 drift ++
      leBytes 4 (s.fld F.CAM_ADAPT_STATUS_cause n + d.steps * 2 ^ 8) ++ bytesAt (d.digests.get ((s.cam n).headStaged.getD (s.cam n).headNow)) 0 32
    let f := (s.cam n).holder
    (s.ringWrite f (at0 + 4) rest).ringWrite f at0 (leBytes 4 a)
  else s

/-- R334: a pause cause begins to hold for a camera whose Retouch is on. -/
def State.pauseAdapt (s : State) (n cause : Nat) : State :=
  let st := s.fld F.CAM_ADAPT_STATUS_state n
  if st = 0 then s
  else
    let s := s.modAdapt n fun a => { a with causes := setBit a.causes (cause - 1) }
    let s := s.setFld F.CAM_ADAPT_STATUS_cause n (lowestCause (s.adaptOf n).causes)
    if st = 1 then
      let s := (s.setFld F.CAM_ADAPT_STATUS_state n 2).bump .CAM_CNT_ADAPT_PAUSE n clsAdapt (srcCam n)
      s.audit n 0x6 0xFFFFFFFF 0 0 0
    else s

/-- R334: a pause cause no longer holds; RUNNING once none does. -/
def State.unpauseAdapt (s : State) (n cause : Nat) : State :=
  if s.fld F.CAM_ADAPT_STATUS_state n = 2 ∧ bit (s.adaptOf n).causes (cause - 1) then
    let s := s.modAdapt n fun a => { a with causes := a.causes - 2 ^ (cause - 1) }
    let m := (s.adaptOf n).causes
    let s := s.setFld F.CAM_ADAPT_STATUS_cause n (lowestCause m)
    if m = 0 then (s.setFld F.CAM_ADAPT_STATUS_state n 1).audit n 0x7 0xFFFFFFFF 0 0 0 else s
  else s

/-- The cameras whose Retouch is on. -/
def State.adaptCams (s : State) : List Nat := (List.range 512).filter fun n => s.fld F.CAM_ADAPT_STATUS_state n != 0

/-- R317: the head core of a camera's graph. -/
def State.headCore (s : State) (n : Nat) : Option Nat :=
  match (s.cam n).model with
  | none => none
  | some h => match s.boot.models.get h with
    | none => none
    | some m => m.img.head.bind fun d => (d.cores.head?).map fun o => (m.first + o) % 16

/-- R334: Retouch pauses for the camera that context 6 of core i works for. -/
def State.pauseSix (s : State) (i cause : Nat) : State :=
  match (s.core i).sixCam with
  | some n => s.pauseAdapt n cause
  | none => s

/-- R196: a fault of context 6 stops it alone, and Retouch for the camera it works for pauses with cause FAULT. -/
def State.faultSix (s : State) (i : Nat) : State := ((s.abandon i (· == 6)).setCtxState i 6 3).pauseSix i cFault

/-- R196, R197: a core stops, and firmware is to restore it. -/
def State.stopCore (s : State) (i : Nat) : State :=
  (s.abandon i fun _ => true).modCore i fun x => { x with restoring := true, clearAt := none, userClear := none }

/-- Registers of a core that a reset of the core leaves (R439). -/
def keptAtCore (r : RegName) : Bool := r == .LC_RETAKE_CFG || r == .LC_DMA_REG || r == .LC_ADAPT_CFG || r == .LC_SPAD_SIZE

/-- R189, R197, R439: firmware puts a core in RESET: its registers take their reset values, and it is absent from here. -/
def State.enterReset (s : State) (i : Nat) : State :=
  (s.resetRegs fun r k => r.info.block == .LC && k / r.info.sub == i && !keptAtCore r).leaveBarriers i

/-- R197, R441: a core stops and is put in RESET at once. -/
def State.haltCore (s : State) (i : Nat) : State := (s.stopCore i).enterReset i

/-- R198, R263: one transient fault is counted on the share that a core runs; true where it is the second. -/
def State.countFault (s : State) (i : Nat) (b : BoundS) : Bool × State :=
  let g := s.groupOf i
  let c := s.counter g b.w
  let n := (c.shares.find? fun h => h.idx == b.idx).elim 0 (·.faults)
  (decide (1 ≤ n), s.setCounter g b.w { c with shares := c.shares.map fun h => if h.idx = b.idx then { h with faults := h.faults + 1 } else h })

/-- R198: what becomes of the stripe stage in progress at a fault: one more run after a first transient fault, else the
stream stops in abort mode. -/
def State.afterFault (s : State) (i code : Nat) : State :=
  match (s.core i).bound with
  | none => s
  | some b =>
    let r := if isTransient code then s.countFault i b else (true, s)
    let s := r.2.modCore i fun x => { x with bound := none, rerun := if r.1 then none else some b }
    if r.1 then
      let g := s.groupOf i
      let k := s.counter g b.w
      let s := s.setCounter g b.w { k with shares := k.shares.filter fun h => !(h.idx == b.idx && h.gen == b.gen) }
      s.stopStream b.cam true none 1
    else s

/-- R196: a fault of context c of core i. -/
def State.coreFault (s : State) (i c pc engine code : Nat) : State :=
  let s := (s.recordFault i c pc engine code).logEvent clsCore (srcCore i) code (if c = 6 then 0xFFFFFFFF else s.boundSeq i)
  if c = 6 then s.faultSix i
  else (((s.setCtxState i c 3).setCoreState i 4).stopCore i).afterFault i code

/-- R194: engines. -/
def eIssue : Nat := 0
def eArray : Nat := 1
def eVector : Nat := 2
def eDma : Nat := 3
def eRing : Nat := 4
def eBarrier : Nat := 5
def eSpad : Nat := 6

/-! ### Engine queues (R169, R179, R401) -/

/-- R169: the start cycle of an instruction issued now on an engine whose last completion is given. -/
def startCycle (now done : Nat) : Nat := max (now + 2) (done + 1)

/-- R401: duty credit after idle cycles up to t, in 1/256 cycle. -/
def dutyIdle (credit : Int) (cap : Nat) (cycles : Nat) : Int := min 2097152 (credit + cap * cycles)

/-- R401: the array start no earlier than t at which the credit is not negative, and the credit there. -/
def dutyStart (credit : Int) (cap at_ t : Nat) : Nat × Int :=
  let c := dutyIdle credit cap (t - at_)
  if 0 ≤ c then (t, c)
  else
    let w := ceilDiv c.natAbs (max 1 cap)
    (t + w, c + cap * w)

/-- R169, R179, R182, R401: places a job of `body` cycles (alignment apart) in the array queue; it starts no earlier
than cycle `first`, nor before the cycle after the previous job completes. -/
def State.placeArray (s : State) (i c pc : Nat) (job : ArrayJob) (align : Bool) (body first : Nat) : State :=
  let x := s.core i
  let cap := s.fld F.SFL_GOV_duty_cap
  let r := dutyStart x.duty cap x.dutyAt (max first (x.aDone + 1))
  let t := r.1 + (if align then wheelAlign r.1 else 0) + body
  s.modCore i fun x => { x with
    aq := x.aq ++ [{ ctx := c, pc := pc, start := r.1, complete := t, job := job }], aDone := t
    duty := r.2 - (256 - (cap : Int)) * (t - r.1 : Nat), dutyAt := t }

/-- R252: places an empty GRID in the array queue: it takes 4 cycles from the head, and uses no array cycle. -/
def State.placeEmpty (s : State) (i c pc r first : Nat) : State :=
  s.modCore i fun x =>
    let t := max first (x.aDone + 1)
    { x with aq := x.aq ++ [{ ctx := c, pc := pc, start := t, complete := t + 4, job := .emptyGrid r }], aDone := t + 4 }

/-- R169, R179, R184: places a job in the vector queue. -/
def State.placeVector (s : State) (i c pc : Nat) (job : VectorJob) (body : Nat) : State :=
  let x := s.core i
  let t0 := startCycle (s.coreCycle i) x.vDone
  let t := t0 + wheelAlign t0 + body
  s.modCore i fun x => { x with
    vq := x.vq ++ [{ ctx := c, pc := pc, start := t0, complete := t, job := job }], vDone := t }

/-- R169: the queue of an engine has a free entry. -/
def State.arrayFree (s : State) (i : Nat) : Bool := decide ((s.core i).aq.length < 4)
def State.vectorFree (s : State) (i : Nat) : Bool := decide ((s.core i).vq.length < 4)
def State.dmaFree (s : State) (i : Nat) : Bool := decide ((s.core i).dq.length < 8)

/-! ### Clip counts (R230 to R232) -/

def State.layer (s : State) (i r : Nat) : Layer := layerOf ((s.core i).layers.get r)

/-- R230: adds to the counts of record r. -/
def State.addCounts (s : State) (i r produced clipped flags : Nat) : State :=
  s.modCore i fun x => { x with counts := x.counts.modify r fun c =>
    { produced := satAdd 32 c.produced produced, clipped := satAdd 32 c.clipped clipped, flags := Nat.lor c.flags flags } }

/-- R231: the clipped share exceeds the threshold. -/
def RecCnt.exceeds (c : RecCnt) (thr : Nat) : Bool := c.produced != 0 && decide (thr * c.produced < c.clipped * 2 ^ 20)

/-- R232: at the stripe boundary of core i the counts of its stripe count for the frame. -/
def State.closeCounts (s : State) (i : Nat) (b : BoundS) : State :=
  let cs := if b.training then [] else (s.core i).counts
  let rs := if b.training then [] else (s.core i).ranges
  let high := cs.any fun e => e.2.exceeds (s.layer i e.1).thr && !bit e.2.flags 1
  let s := if high then (s.setMark b.cam b.seq markClipHigh).bump .LC_CNT_CLIP_HIGH i clsCore (srcCore i) 1 b.seq else s
  let s := s.modFrame b.cam b.seq fun f => { f with
    totals := cs.foldl (fun t e => t.modify (256 * i + e.1) fun o =>
      { produced := satAdd 32 o.produced e.2.produced, clipped := satAdd 32 o.clipped e.2.clipped, flags := Nat.lor o.flags e.2.flags }) f.totals }
  if (s.frame b.cam b.seq).captured then
    s.modFrame b.cam b.seq fun f => { f with
      ranges := rs.foldl (fun t e =>
        let k := 1024 * (256 * i) + e.1
        let o := lookupD t k (0x7FFFFFFF, -0x80000000, 0, 0)
        insertAt t k (min o.1 e.2.1, max o.2.1 e.2.2.1, o.2.2.1 + e.2.2.2.1, o.2.2.2 + e.2.2.2.2)) f.ranges }
  else s

/-- R171, R230, R277: contexts are bound to a share: counts, ranges and the row counts of queues 0 to 11 restart. -/
def State.bindShare (s : State) (i w : Nat) (h : Share) : State :=
  let c := s.counter (s.groupOf i) w
  let b : BoundS := { cam := h.cam, seq := h.seq, stripe := h.stripe, w := w, idx := h.idx, gen := h.gen,
                      deadline := h.deadline, inl := h.inl, ctxs := c.ctxs, training := h.training }
  let s := s.modCore i fun x => { x with bound := some b, rerun := none, counts := [], ranges := [], awaited := [] }
  let s := (List.range 12).foldl (fun s q => s.setRegN .LC_DMAQ_ROWS (16 * i + q) 0) s
  let s := (List.range 6).foldl (fun s k => if bit c.ctxs k then s.startCtx i k 0 h.inl else s) s
  s.setCoreState i 3

end Sys2Proof.Machine
end

