-- ==== Sys2Proof/WellFormed.lean ====
section
/-! DEFINITION. Well-formed commands: what the rows of the opcode table demand of the operands that their types do not
say. -/
namespace Sys2Proof

/-- R41: a packet whose payload is as long as its header says. -/
def packetSized (k : Packet) : Bool := k.payload.length == k.len.toNat && k.stray.isNone
/-- R41: a packet of a type. -/
def packetOf (t : BitVec 4) (k : Packet) : Bool := k.ptype == t && packetSized k
/-- R44: a hub status packet has 16 bytes of payload. -/
def hubPacket (k : Packet) : Bool := packetOf 6 k && k.len == 16

/-- R183: how many sources a vector operation reads. -/
def vectorSources : VFun → Nat
  | .exp2 | .log2 | .rcp | .rsqrt | .narrow _ _ _ => 1
  | .ffma | .sel _ => 3
  | _ => 2

/-- R226, R233: the operation narrows, so it names a record. -/
def vNarrows : VFun → Bool
  | .narrow _ _ _ => true
  | _ => false

/-- The operands are such as the row admits. -/
def Instr.wf : Instr → Bool
  | .ixlPortEnable _ _ v => v.getLsbD 0
  | .ixlPortDisable _ _ v => !v.getLsbD 0
  | .ixlRetrainRequest _ _ v => v.getLsbD 0 && v.getLsbD 1
  | .signalDetected .. => true
  | .blockLockGained .. => true
  | .blockLockLost .. => true
  | .bringupLimitExpiry .. => true
  | .bringupRetryWaitEnd .. => true
  | .hubCapsPacket _ _ k => hubPacket k
  | .videoPacket _ _ k => packetOf 1 k
  | .embedPacket _ _ k => packetOf 2 k
  | .frameStartPacket _ _ k => packetOf 3 k
  | .frameEndPacket _ _ k => packetOf 4 k
  | .ctrlRespPacket _ _ k => packetOf 5 k
  | .slotChange _ _ k => hubPacket k
  | .replayGone _ _ k => hubPacket k
  | .hubFault _ _ k => hubPacket k
  | .unknownHubStatus _ _ k => hubPacket k
  | .reservedPacket _ _ k => k.stray.isSome || packetSized k && (k.ptype == 0 || decide (7 ≤ k.ptype.toNat))
  | .packetFail _ _ k => packetSized k
  | .duplicatePacket _ _ k => packetSized k
  | .replayTimerExpiry .. => true
  | .ackTimer .. => true
  | .creditTimer .. => true
  | .skipSend .. => true
  | .tunnelRequest _ _ r => decide (r.wdata.length ≤ 255)
  | .tunnelHeldStart .. => true
  | .tunnelTimeout .. => true
  | .triggerLaunch .. => true
  | .missedFrameDeadline .. => true
  | .closeTimeout .. => true
  | .aliasWrite _ f a _ => f == 0 && a.toNat % 4 == 0
  | .sgBoundaryWrite .. => true
  | .sourceSelect .. => true
  | .ptmDialogueStart .. => true
  | .ptmDialogueComplete .. => true
  | .measurementFail .. => true
  | .slewEnd .. => true
  | .hardSet .. => true
  | .syncSymbolEmit .. => true
  | .syncSymbolReceived _ _ _ early _ => decide (early.toNat ≤ 20)
  | .syncSymbolMissing .. => true
  | .scheduleEnable .. => true
  | .scheduleDisable .. => true
  | .scheduleTick .. => true
  | .syncOutEnable _ _ v => v.getLsbD 31
  | .syncOutEdge .. => true
  | .syncOutPulseEnd .. => true
  | .timeSnapEdge .. => true
  | .snapRead .. => true
  | .pairLowRead _ _ a => decide (0 < a.bytes)
  | .pairLowWrite _ _ a _ => a.toNat % 8 == 0
  | .pairHighWrite _ _ a _ => a.toNat % 8 == 4
  | .registerWrite _ _ _ n v => decide (0 < n) && decide (v.toNat < 2 ^ (8 * n))
  | .expoStage .. => true
  | .wbGainWrite .. => true
  | .aeLoopStep .. => true
  | .awbLoopStep .. => true
  | .ppbSelect .. => true
  | .outCredit .. => true
  | .dmaRegulatorWrite .. => true
  | .streamStart .. => true
  | .streamStopDrain .. => true
  | .streamStopAbort .. => true
  | .streamStopped .. => true
  | .workShareQueue .. => true
  | .stripeLaunch .. => true
  | .stripeBoundary .. => true
  | .printStripe .. => true
  | .outputRowWrite .. => true
  | .outputPoolTimeout .. => true
  | .outputRowComplete .. => true
  | .slotHeaderComplete .. => true
  | .arrayTile .. => true
  | .arrayComplete .. => true
  | .vectorOp _ _ _ f srcs _ _ record => srcs.length == vectorSources f && record.isSome == vNarrows f
  | .vectorConvert .. => true
  | .vectorReduction .. => true
  | .vectorComplete .. => true
  | .rescaleLoad .. => true
  | .grid .. => true
  | .gridTileIssue .. => true
  | .rchk .. => true
  | .controlWait .. => true
  | .barrierArrive .. => true
  | .barrierWait .. => true
  | .barrierTimeout .. => true
  | .ringReceivePost .. => true
  | .ringSend _ _ _ _ _ mask => mask != 0
  | .ringComplete .. => true
  | .ringTimeout .. => true
  | .wcDraw .. => true
  | .wcCommit .. => true
  | .leaseRenew .. => true
  | .leaseExpiry .. => true
  | .spadEccError .. => true
  | .coreRestoreComplete .. => true
  | .dmaInstruction .. => true
  | .dmaTransferPlace .. => true
  | .dmaPieceIssue .. => true
  | .dmaRowDelivered .. => true
  | .faultWalk .. => true
  | .faultWaitExpiry .. => true
  | .holdCacheRequest .. => true
  | .ddr5ReadReturn _ _ cipher side => cipher.length == 64 && side.length == 16
  | .ddr5RequestServe .. => true
  | .ddr5BlockWrite .. => true
  | .refreshInterval .. => true
  | .dramHot .. => true
  | .trainingPair .. => true
  | .reversePipelineRun .. => true
  | .trainingStripeQueue .. => true
  | .trainingStep .. => true
  | .candidateEncode .. => true
  | .gateDecision .. => true
  | .headSetStage .. => true
  | .adaptBudgetWindowEnd .. => true
  | .cqEnable _ _ _ v => v.getLsbD 31
  | .cqDisable _ _ _ v => !v.getLsbD 31
  | .cqTailDoorbell .. => true
  | .rqHeadDoorbell .. => true
  | .commandFetch _ _ _ bytes => bytes.length == 64
  | .commandStart .. => true
  | .interruptModerationTimer .. => true
  | .evqEnable _ _ v => v.getLsbD 31
  | .mailboxSend _ f sfl v => v.getLsbD 8 && (!sfl || f == 0)
  | .mailboxReadLast .. => true
  | .ping .. => true
  | .limitSet .. => true
  | .govQuery .. => true
  | .pinClaim _ v => !v.getLsbD 31
  | .pinRelease _ v => v.getLsbD 31
  | .profileLoad _ _ bytes => decide (bytes.length ≤ 4096)
  | .sensorXfer .. => true
  | .camGrant .. => true
  | .camRings .. => true
  | .modelLoad .. => true
  | .modelUnload .. => true
  | .modelBind .. => true
  | .calibCapture .. => true
  | .modelInfo .. => true
  | .map_ .. => true
  | .unmap .. => true
  | .move_ .. => true
  | .memGrant .. => true
  | .memRevoke .. => true
  | .faultResume .. => true
  | .fwPool .. => true
  | .attest .. => true
  | .keyEphemeral .. => true
  | .keyImport _ _ blob => decide (blob.length ≤ 65535)
  | .ephemeralKeyExpiry .. => true
  | .tenantEnable .. => true
  | .tenantKill .. => true
  | .scrubOnchipComplete .. => true
  | .scrubMemoryComplete .. => true
  | .snufferClearComplete .. => true
  | .policySubmit _ _ bytes => decide (bytes.length ≤ 65535)
  | .privEnrol _ _ key => key.length == 64
  | .fwStage .. => true
  | .fwSwitch .. => true
  | .fwSwitchBegin .. => true
  | .cpReloadComplete .. => true
  | .fwResumeTimeout .. => true
  | .fwSwitchComplete .. => true
  | .timeGet .. => true
  | .schedApply .. => true
  | .adaptStart .. => true
  | .adaptStop .. => true
  | .adaptPause .. => true
  | .adaptResume .. => true
  | .adaptRevert .. => true
  | .adaptRefs .. => true
  | .adaptExport .. => true
  | .adaptImport .. => true
  | .counterRead .. => true
  | .traceRead .. => true
  | .layerTotals .. => true
  | .errlogRead .. => true
  | .unitResetCore .. => true
  | .unitResetPort .. => true
  | .unitResetStageGroup .. => true
  | .unitResetTenant .. => true
  | .echo .. => true
  | .chainStatus .. => true
  | .portForward .. => true
  | .portReturn .. => true
  | .windowOpen .. => true
  | .windowClose .. => true
  | .posBlockReceived .. => true
  | .fwdPkt _ q d _ _ k => packetSized k && decide (1 ≤ k.ptype.toNat) && decide (k.ptype.toNat ≤ 4) && q != d
  | .fwdCtl _ q d _ len _ => q != d && decide (len.toNat ≤ 2080)
  | .peerWr _ q d _ bytes => decide (1 ≤ bytes.length) && decide (bytes.length ≤ 2048) && q != d
  | .peerAck _ q d _ => q != d
  | .chainMsg _ q d len _ => q != d && decide (len.toNat ≤ 2080)
  | .chainStatusPacket _ _ len _ _ _ _ => decide (len.toNat ≤ 2080)
  | .statusSendTimer .. => true
  | .presenceTimeout .. => true
  | .forwardTakeback .. => true
  | .delayReqTimer .. => true
  | .delayReq .. => true
  | .delayResp .. => true
  | .sclkStop .. => true
  | .vddSflOutOfRange .. => true
  | .sflWatchdogExpiry .. => true
  | .safelightRestartComplete .. => true
  | .privHoldAssert .. => true
  | .privHoldDeassert .. => true
  | .powerSample .. => true
  | .junctionRead _ temps => temps.length == 16
  | .governorEvaluation .. => true
  | .thermComparatorTrip .. => true
  | .engineMemoryError .. => true
  | .engineResetComplete .. => true
  | .errRelease .. => true
  | .errFirstClear .. => true
  | .clockLossOfLock .. => true
  | .controlMemoryError .. => true
  | .cpWatchdogExpiry .. => true
  | .flrPf .. => true
  | .flrVf .. => true
  | .vfEnableClear .. => true
  | .poisonedTlpWrite .. => true
  | .perstAssert .. => true
  | .hotReset .. => true
  | .startupBegin .. => true
  | .clocksLocked .. => true
  | .pllLockTimeout .. => true
  | .imageAccepted .. => true
  | .memTrainingDone .. => true
  | .memInitDone .. => true
  | .startupReady .. => true
  | .railDip .. => true
  | .bypass .. => true
  | .idcode .. => true
  | .samplePreload .. => true
  | .extest .. => true
  | .extestPulse .. => true
  | .extestTrain .. => true
  | .smbPartId .. => true
  | .smbBootStatus .. => true
  | .smbTemperature .. => true
  | .smbPower .. => true
  | .smbGovernor .. => true
  | .smbFatal .. => true
  | .porstAssert .. => true
  | .hostErrorCompletion .. => true
  | .ixlWordClockLoss .. => true
  | .scheduleApplyTime .. => true
  | .dramHotEnd .. => true
  | .configurationRequest .. => true
  | .cpStartTimeout .. => true

end Sys2Proof
end

