-- ==== Sys2Proof/Machine/VectorUnit.lean ====
section
/-! DEFINITION. The vector unit: lane operations, the approximate functions, conversions and reductions (R183, R184, R220,
R221, R233, R256), over a scratchpad and vector registers as plain data. -/
namespace Sys2Proof.Machine

/-! ### Approximate functions (R183, R220): the FP32 number at or below the exact result, by comparison with exact
quantities; the value delivered lies within one unit in the last place of the exact result -/

/-- The greatest x in [lo, lo + 2^n) with p x, p being true at lo and downward closed. -/
def searchMax (p : Nat → Bool) : Nat → Nat → Nat
  | 0, lo => lo
  | n + 1, lo => if p (lo + 2 ^ n) then searchMax p n (lo + 2 ^ n) else searchMax p n lo

/-- m · 2^e of positive FP32 bits. -/
def posVal (b : Nat) : Nat × Int :=
  match ofFp32 b with
  | .num _ m e => (m, e)
  | _ => (0, 0)

/-- m · 2^e ≤ n · 2^g. -/
def leDy (a b : Nat × Int) : Bool := dyadicLe a.1 a.2 b.1 b.2

/-- The greatest finite positive FP32 encoding that satisfies p. -/
def floorFp (p : Nat → Bool) : Nat := searchMax (fun b => decide (b ≤ 0x7F7FFFFF) && p b) 31 0

/-- R183: one of the results within one unit in the last place of an exact value whose floor is b. -/
def nearUlp (b : Nat) (exact : Bool) (pick : Nat) : Nat :=
  if pick % 3 = 0 then b
  else if pick % 3 = 1 then (if b = 0x7F7FFFFF then 0x7F800000 else b + 1)
  else if exact ∧ b ≠ 0 then b - 1 else b

/-- a^(2^k). -/
def powPow (a : Nat) : Nat → Nat
  | 0 => a
  | k + 1 => powPow a k * powPow a k

/-- 2^(n / 2^k) compared with m · 2^e: (m · 2^e)^(2^k) ≤ 2^n. -/
def rootLe (n : Int) (k m : Nat) (e : Int) : Bool := dyadicLe (powPow m k) (e * (2 ^ k : Nat)) 1 n

/-- R183, R220: exp2 of FP32 bits. -/
def vExp2 (b pick : Nat) : Nat :=
  match ofFp32 b with
  | .nan => 0x7FC00000
  | .inf neg => if neg then 0 else 0x7F800000
  | .num neg m e =>
    if m = 0 then 0x3F800000
    else
      let k := (-e).toNat
      let n : Int := (if neg then -1 else 1) * (m * 2 ^ e.toNat : Nat)
      if (128 : Int) * (2 ^ k : Nat) ≤ n then 0x7F800000
      else if n < -151 * (2 ^ k : Nat) then nearUlp 0 false pick
      else
        let f := floorFp fun x => x == 0 || rootLe n k (posVal x).1 (posVal x).2
        nearUlp f (decide (n % (2 ^ k : Nat) = 0)) pick

/-- R183, R220: log2 of FP32 bits. -/
def vLog2 (b pick : Nat) : Nat :=
  match ofFp32 b with
  | .nan => 0x7FC00000
  | .inf neg => if neg then 0x7FC00000 else 0x7F800000
  | .num neg m e =>
    if m = 0 then 0xFF800000
    else if neg then 0x7FC00000
    else
      let one := dyadicLe 1 0 m e
      -- |log2 x| ≥ y, for y = p · 2^q: 2^y ≤ x, or 2^y ≤ 1 / x
      let f := floorFp fun y =>
        let v := posVal y
        let k := (-v.2).toNat
        let n : Nat := v.1 * 2 ^ v.2.toNat
        y == 0 || (if one then dyadicLe 1 n (powPow m k) (e * (2 ^ k : Nat))
                   else dyadicLe (powPow m k) (e * (2 ^ k : Nat)) 1 (-(n : Int)))
      let r := nearUlp f (decide (m = 2 ^ ilog2 m)) pick
      if one ∨ r = 0 then r else r + 2 ^ 31

/-- R183, R220: reciprocal of FP32 bits. -/
def vRcp (b pick : Nat) : Nat :=
  match ofFp32 b with
  | .nan => 0x7FC00000
  | .inf neg => b2n neg * 2 ^ 31
  | .num neg m e =>
    b2n neg * 2 ^ 31 +
    (if m = 0 ∨ dyadicLe m e 1 (-128) then 0x7F800000
     else
       let f := floorFp fun x => let v := posVal x; dyadicLe (v.1 * m) (v.2 + e) 1 0
       nearUlp f (let v := posVal f; dyadicLe 1 0 (v.1 * m) (v.2 + e)) pick)

/-- R183, R220: reciprocal square root of FP32 bits. -/
def vRsqrt (b pick : Nat) : Nat :=
  match ofFp32 b with
  | .nan => 0x7FC00000
  | .inf neg => if neg then 0x7FC00000 else 0
  | .num neg m e =>
    if m = 0 then b2n neg * 2 ^ 31 + 0x7F800000
    else if neg then 0x7FC00000
    else
      let f := floorFp fun x => let v := posVal x; dyadicLe (v.1 * v.1 * m) (2 * v.2 + e) 1 0
      nearUlp f (let v := posVal f; dyadicLe 1 0 (v.1 * v.1 * m) (2 * v.2 + e)) pick

/-! ### Lanes -/

/-- R220: a saturating INT32 result. -/
def satLane (x : Int) : Nat × Bool := let r := satI32 x; (ofSigned 32 r.1, r.2)

/-- The word of a comparison. -/
def cmpWord (b : Bool) : Nat := if b then Config.cmpTrue % 2 ^ 32 else Config.cmpFalse % 2 ^ 32

/-- a < b of FP32 bits; false with a NaN. -/
def fLt (a b : Nat) : Bool := match ofFp32 a, ofFp32 b with | .nan, _ => false | _, .nan => false | x, y => x.lt y
def fEq (a b : Nat) : Bool := match ofFp32 a, ofFp32 b with | .nan, _ => false | _, .nan => false | x, y => !x.lt y && !y.lt x

/-- R204: a lane written as FP32: every NaN is the canonical one. -/
def canonFp (b : Nat) : Nat := if ofFp32 b = .nan then 0x7FC00000 else b

/-- R183, R220, R222, R233: one lane: the result and the clipped flag. What settles the last place of an approximate function
depends on the function and its input alone. -/
def laneOp (f : VFun) (a b c : Nat) : Nat × Bool :=
  match f with
  | .fadd => (fAdd a b, false)
  | .fsub => (fSub a b, false)
  | .fmul => (fMul a b, false)
  | .ffma => (fFma a b c, false)
  | .flt => (cmpWord (fLt a b), false)
  | .fle => (cmpWord (fLt a b || fEq a b), false)
  | .feq => (cmpWord (fEq a b), false)
  | .sel float =>
    let r := if a = Config.cmpFalse % 2 ^ 32 then c else b
    (if float then canonFp r else r, false)
  | .exp2 => (vExp2 a (Config.lastPlace 0 a), false)
  | .log2 => (vLog2 a (Config.lastPlace 1 a), false)
  | .rcp => (vRcp a (Config.lastPlace 2 a), false)
  | .rsqrt => (vRsqrt a (Config.lastPlace 3 a), false)
  | .iadd => ((a + b) % 2 ^ 32, false)
  | .isub => ((a + 2 ^ 32 - b) % 2 ^ 32, false)
  | .imul => (a * b % 2 ^ 32, false)
  | .ilt => (cmpWord (decide (toSigned 32 a < toSigned 32 b)), false)
  | .ieq => (cmpWord (a == b), false)
  | .isadd => satLane (toSigned 32 a + toSigned 32 b)
  | .issub => satLane (toSigned 32 a - toSigned 32 b)
  | .narrow k from16 wide =>
    let r := satTo (rshift (toSigned (if from16 then 16 else 32) a) k.toNat) (if wide then -32768 else -128) (if wide then 32767 else 127)
    (ofSigned (if wide then 16 else 8) r.1, r.2)

/-- Bytes of a result lane. -/
def vOutBytes : VFun → Nat
  | .narrow _ _ wide => if wide then 2 else 1
  | _ => 4

/-- Bytes of a source lane. -/
def vInBytes : VFun → Nat
  | .narrow _ from16 _ => if from16 then 2 else 4
  | _ => 4

/-- R256: the element of a scratchpad source at lane index x, of `bits` bits, with its padding rule; pads holds the pad
entries, and at_ gives the cycle of the read. -/
def srcElem (sp : Spad) (pads : Nat → Nat) (addr bits : Nat) (pad : Option PadRule) (at_ : Unit → Nat) (x : Nat) : Nat :=
  match pad with
  | some r =>
    if padded r.mRt.toNat r.pitch.toNat r.c0.toNat r.c1.toNat (x / max 1 r.perPos.toNat) then pads r.entry.toNat % 2 ^ bits
    else readElem (sp.on at_) addr bits x
  | none => readElem (sp.on at_) addr bits x

/-- R178, R184: the cycle in which VR reads line l of the k-th of r sources from an address, of an instruction that starts at
wheel position 0 in cycle w0. -/
def cycleV (w0 r k addr l : Nat) : Nat := reach slVR (addr / 256 + l) (w0 + l * max 1 r + k)

/-- R183: element x of a source, of `bits` bits; a vector register serves its 64 lanes again and again. -/
def srcLane (sp : Spad) (pads : Nat → Nat) (regs : Tab (List Nat)) (w0 r k bits : Nat) (v : VSrc) (x : Nat) : Nat :=
  match v with
  | .spad a pad => srcElem sp pads a.toNat bits pad (fun _ => cycleV w0 r k a.toNat (x * bits / 2048)) x
  | .vreg r => (regs.get r.toNat).getD (x % 64) 0 % 2 ^ bits

/-- The sources that are read from the scratchpad. -/
def spadSources (srcs : List VSrc) : Nat := (srcs.filter fun v => match v with | .spad _ _ => true | .vreg _ => false).length

/-- R183: the results of an operation over n lines of 64 lanes. -/
def opLanes (sp : Spad) (pads : Nat → Nat) (regs : Tab (List Nat)) (w0 : Nat) (f : VFun) (srcs : List VSrc) (n : Nat) :
    List (Nat × Bool) :=
  let g := fun (k x : Nat) => ((srcs[k]?).map fun v => srcLane sp pads regs w0 (spadSources srcs) k (8 * vInBytes f) v x).getD 0
  (List.range (64 * n)).map fun x => laneOp f (g 0 x) (g 1 x) (g 2 x)

/-- R184: one step of a fold. -/
def foldStep : VFold → Nat → Nat → Nat
  | .fadd, a, b => fAdd a b
  | .iadd, a, b => (a + b) % 2 ^ 32
  | .fmax, a, b => if ofFp32 a = .nan ∨ ofFp32 b = .nan then 0x7FC00000 else if fLt a b then b else a
  | .imax, a, b => if toSigned 32 a < toSigned 32 b then b else a

/-- R204: the first line of a fold, as its result is written. -/
def foldFirst : VFold → Nat → Nat
  | .fadd, a | .fmax, a => canonFp a
  | _, a => a

/-- R184: a fold of n source lines into one. -/
def foldLanes (sp : Spad) (pads : Nat → Nat) (regs : Tab (List Nat)) (w0 : Nat) (f : VFold) (src : VSrc) (n : Nat) : List Nat :=
  let g := srcLane sp pads regs w0 1 0 32 src
  (List.range 64).map fun x => (List.range (n - 1)).foldl (fun acc k => foldStep f acc (g (64 * (k + 1) + x))) (foldFirst f (g x))

/-- R201: the pad element of a row of 4-bit elements: none where the row needs none. -/
def padElem (f : Fmt) (k : Nat) : Option Nat :=
  if f.bits = 4 ∧ k % 2 = 1 then some (if f = .bg4 then 0xF else 0x0) else none

/-- R221: a conversion of k elements: each with its clipped flag. -/
def convertLanes (sp : Spad) (pads : Nat → Nat) (regs : Tab (List Nat)) (w0 : Nat) (a b : Fmt) (ovfInf : Bool) (scale : Nat)
    (src : VSrc) (k : Nat) : List (Nat × Bool) :=
  (List.range k).map fun j => (convertElem a b ovfInf (ofFp32 scale) (srcLane sp pads regs w0 1 0 a.bits src j)).getD (0, false)

/-- R201: elements, with the pad that their row needs, written from a scratchpad address. -/
def writeElems (m : List Host.Cell) (base : Nat) (f : Fmt) (vs : List Nat) : List Host.Cell :=
  let vs := vs ++ (padElem f vs.length).toList
  (List.range vs.length).foldl (fun m j => writeElem m base f.bits j (vs.getD j 0)) m

end Sys2Proof.Machine
end

