-- ==== Sys2Proof/Machine/LanternOps.lean ====
section
/-! DEFINITION. Array, vector, grid and control instructions of a Lantern core (R169 to R192, R221, R234 to R257). -/
namespace Sys2Proof.Machine

/-! ### Issue to an engine (R169, R172) -/

/-- R172, R174: an instruction issues to an engine whose queue has a free entry; while it has none, the context waits
(code 6). -/
def State.issueTo (s : State) (i c : Nat) (engine : Nat) (free : Bool) (body : State → Nat → State) : State :=
  if s.canIssue i c then
    if free then s.issue i c body
    else if s.ctxState i c = 1 then s.setWait i c (.queueFull engine) else s
  else s

/-- R172: an entry of an engine's queue has become free. -/
def State.wakeFull (s : State) (i engine : Nat) : State :=
  s.wakeIf i fun _ w => match w with | .queueFull e => e == engine | _ => false

/-- R176: a scratchpad range lies within LC_SPAD_SIZE. -/
def State.spadFits (s : State) (i a n : Nat) : Bool := decide (a + n ≤ s.regN .LC_SPAD_SIZE i)

/-- R255: pad entry k of a core. -/
def State.padOf (s : State) (i k : Nat) : Nat := s.regN .LC_PAD (16 * i + k % 16)

/-- R179: every base is a multiple of 2 KiB. -/
def aligned (bases : List Nat) : Bool := bases.all fun a => a % 2048 == 0

/-! ### Array tiles (R182, R216 to R219, R226) -/

def Tile.aBytes (t : Tile) : Nat := t.m * t.k * fmtBits t.fa / 8
def Tile.bBytes (t : Tile) : Nat := kBlocks (rateOf t.fa t.fb) t.k * nBlocks t.n * (rateOf t.fa t.fb).wb
def Tile.oBytes (t : Tile) : Nat := t.m * t.n * t.ob

/-- R257: the checks of a tile at its issue, in order: ALIGN, SPAD_RANGE, TABLE_RANGE. -/
def State.tileChecks (s : State) (i : Nat) (t : Tile) : Option Nat :=
  if !aligned [t.aBase, t.bBase, t.oBase] then some fAlign
  else if !(s.spadFits i t.aBase t.aBytes && s.spadFits i t.bBase t.bBytes && s.spadFits i t.oBase t.oBytes) then some fSpadRange
  else if 1024 < t.eBase + t.n then some fTableRange
  else none

/-- R182: cycles of a tile. -/
def Tile.cycles (t : Tile) : Nat := tileCycles (rateOf t.fa t.fb) t.m t.k t.n t.ob

/-- The tile an array tile instruction names. -/
def tileOf (o : TileOp) : Tile :=
  { m := o.m.toNat, k := o.k.toNat, n := o.n.toNat, fa := o.fmtA.toNat, fb := o.fmtB.toNat, fo := o.fmtO.toNat
    ovfInf := o.ovfInf, record := o.record.toNat, stat := o.stat.toNat, pad := o.padA.toNat, pitch := o.pitch.toNat, c0 := o.c0.toNat
    c1 := o.c1.toNat, eBase := o.eBase.toNat, aBase := o.aBase.toNat, bBase := o.bBase.toNat, oBase := o.oBase.toNat
    mRt := o.m.toNat, mOut := o.m.toNat, nOut := o.n.toNat }

/-- R182, R195: an array tile instruction issues. -/
def State.arrayTile (s : State) (i c : Nat) (o : TileOp) : State :=
  s.issueTo i c eArray (s.arrayFree i) fun s pc =>
    let t := tileOf o
    match tileFault t.m t.k t.n t.fa t.fb t.fo with
    | some code => s.coreFault i c pc eArray code
    | none =>
      match s.tileChecks i t with
      | some code => s.coreFault i c pc eArray code
      | none => s.placeArray i c pc (.tile t) true t.cycles (s.coreCycle i + 2)

/-- R186: a rescale-table load issues. -/
def State.rescaleLoad (s : State) (i c src e n : Nat) : State :=
  s.issueTo i c eArray (s.arrayFree i) fun s pc =>
    if !aligned [src] then s.coreFault i c pc eArray fAlign
    else if !s.spadFits i src (8 * n) then s.coreFault i c pc eArray fSpadRange
    else if 1024 < e + n then s.coreFault i c pc eArray fTableRange
    else s.placeArray i c pc (.load src e n) true (ceilDiv n 32 + 8) (s.coreCycle i + 2)

/-- R333: the array cycles of context 6, and of a training stripe, count in the window. -/
def State.countAdapt (s : State) (i c cycles : Nat) : State :=
  if c = 6 ∨ (s.core i).bound.any (·.training) then s.setRegN .LC_ADAPT_USED i (s.regN .LC_ADAPT_USED i + cycles) else s

/-- R230, R233, R240: a tile's elements count under its statistics record, and widen the captured ranges of its layer. -/
def State.countTile (s : State) (i : Nat) (t : Tile) (es : List (Nat × Elem)) : State :=
  let ents := (s.core i).rescale
  let r := s.layer i t.record
  let s := s.addCounts i t.stat es.length (es.filter fun e => e.2.clipped).length (b2n (t.usesConst ents))
  let add := fun l (e : Nat × Elem) =>
    match e.2.x with
    | some v => if r.eBase ≤ e.1 ∧ e.1 < r.eBase + r.nCh then widen l (1024 * t.record + e.1) v e.2.clipped else l
    | none => l
  s.modCore i fun x => { x with ranges := es.foldl add x.ranges }

/-- R261: the token that writes of core i carry while it holds the share it has bound. -/
def State.tokenOf (s : State) (i : Nat) : Option (Nat × Nat × Nat) :=
  match (s.core i).bound with
  | some b => if b.committed then none else some (b.w, b.idx, b.gen)
  | none => none

/-- R86: the frame that context c of core i serves. -/
def State.frameOf (s : State) (i c : Nat) : Option (Nat × Nat) :=
  match (s.core i).bound with
  | some b => if c < 6 ∧ b.training = false then some (b.cam, b.seq) else none
  | none => none

/-- R169, R187, R261: a transfer as it issues now, as the core's instruction `num`. -/
def State.issued (s : State) (i num : Nat) (x : Xfer) : Xfer :=
  { x with num := num, at_ := s.coreCycle i, token := s.tokenOf i, frame := s.frameOf i x.ctx }

/-- R245: the transfer that fetches a GRID operand (0 A, 1 B) for one tile to a slot: queue 2c, dimension 3 at the index. -/
def State.inXfer (s : State) (i c pc which desc slot idx : Nat) : Xfer :=
  { ctx := c, pc := pc, queue := 2 * c, desc := desc, bytes := (s.core i).descs.get desc, fix3 := some idx
    grid := some (which, idx, 0), spadAt := some slot }

/-- R245: the transfer by which one result tile leaves: queue 2c + 1, dimension 3 at i and dimension 2 at j. -/
def State.outXfer (s : State) (i c pc desc slot : Nat) (ij : Nat × Nat) : Xfer :=
  { ctx := c, pc := pc, queue := 2 * c + 1, desc := desc, bytes := (s.core i).descs.get desc, fix3 := some ij.1
    fix2 := some ij.2, grid := some (2, ij.1, ij.2), spadAt := some slot }

/-- R245: one result tile of a GRID leaves under its descriptor. -/
def State.writeOut (s : State) (i c pc num desc slot : Nat) (ij : Nat × Nat) : State :=
  s.modCore i fun x => { x with dq := x.dq ++ [s.issued i num (s.outXfer i c pc desc slot ij)] }

/-- R245: a tile of a GRID has completed; the last one completes the GRID and writes register c. -/
def State.gridTileDone (s : State) (i c pc : Nat) (t : Tile) (ij : Nat × Nat) : State :=
  match (s.ctx i c).grids.find? fun g => g.pc == pc with
  | none => s
  | some g =>
    let rec_ := gridOf ((s.core i).grids.get g.g)
    let s := if rec_.descO ≠ 0xFFFF then s.writeOut i c pc g.num rec_.descO t.oBase ij else s
    let s := s.modCtx i c fun x => { x with readyAt := s.aclk + 1 }
    let g' := { g with done := g.done + 1 }
    if g.todo.isEmpty ∧ g.issued ≤ g.done + 1 then
      s.modCtx i c fun x => { x with grids := x.grids.filter (fun h => h.pc != pc), sregs := x.sregs.set g.c g.issued }
    else s.modCtx i c fun x => { x with grids := x.grids.map fun h => if h.pc = pc then g' else h }

/-- R177, R182, R230, R252: the array's running instruction completes, if its completion cycle has come: its results are
written and counted, and waits on it release. -/
def State.arrayComplete (s : State) (i : Nat) : State :=
  match (s.core i).aq with
  | [] => s
  | e :: es =>
    if e.complete ≤ s.coreCycle i ∧ s.coreState i ≠ 4 then
      let sp := (s.core i).seen
      let w0 := e.start + wheelAlign e.start
      let s := (s.modCore i fun x => { x with aq := es }).obsAdd (1536 + i) (e.complete - e.start)
      let s := s.countAdapt i e.ctx (e.complete - e.start)
      let s := match e.job with
        | .tile t =>
          let x := s.core i
          let w := t.write sp w0 (s.padOf i t.pad) x.rescale (s.layer i t.record)
          let s := (s.modCore i fun x => x.putSpad slAR (e.complete - 8) (t.oBase, t.oBytes) w.1).countTile i t w.2
          (match t.grid with | some ij => s.gridTileDone i e.ctx e.pc t ij | none => s)
        | .load src e0 n => s.modCore i fun x => { x with
            rescale := (List.range n).foldl (fun r k =>
              r.set (e0 + k) (ofLE (memReads (sp.on fun _ => reach slSR (src / 256 + k / 32) (w0 + k / 32)) (src + 8 * k) 8))) x.rescale }
        | .emptyGrid r => s.modCtx i e.ctx fun x => { x with sregs := x.sregs.set r 0 }
      ((s.settleArrivals i).wakeOwn i).wakeFull i eArray
    else s

/-! ### GRID (R242 to R257) -/

/-- R249: shape word k as an instruction that issues now reads it: a write in this cycle is not seen. -/
def State.shapeSeen (s : State) (i k : Nat) : Nat :=
  match (s.core i).shapeOld.get k with
  | some w => if w.1 = s.aclk then w.2 else s.regN .LC_SHAPE_WORD (64 * i + k)
  | none => s.regN .LC_SHAPE_WORD (64 * i + k)

/-- R249: the run-time bound of a dimension; none where it takes the plan. -/
def State.gridBound (s : State) (i c src idx plan : Nat) : Nat :=
  if src = 1 then (s.ctx i c).sregs.get idx % 2 ^ 32
  else if src = 2 then s.shapeSeen i (idx % 64)
  else plan

/-- R257: descriptor d of core i is in its table. -/
def State.descIn (s : State) (i d : Nat) : Bool := decide (d < s.fld F.LC_DESC_COUNT_count i)

/-- R176, R275: a transfer of a GRID has a defined encoding and lies within LC_SPAD_SIZE. -/
def State.xferFits (s : State) (i : Nat) (x : Xfer) : Bool := x.legal && x.fits (s.regN .LC_SPAD_SIZE i)

/-- R176, R245: the device issues a fetched operand's descriptor for one tile, to a slot, where it can run. -/
def State.fetchTile (s : State) (i c pc num which desc slot idx : Nat) : State :=
  let x := s.inXfer i c pc which desc slot idx
  if desc = 0xFFFF ∨ s.descIn i desc = false ∨ s.xferFits i x = false then s
  else s.modCore i fun y => { y with dq := y.dq ++ [s.issued i num x] }

/-- R245: the fetches of a tile whose operands differ from those of the tile before. -/
def State.fetchOperands (s : State) (i c pc num : Nat) (g : Grid) (t : Tile) (ij : Nat × Nat) (newA newB : Bool) : State :=
  let s := if newA then s.fetchTile i c pc num 0 g.descA t.aBase ij.1 else s
  if newB then s.fetchTile i c pc num 1 g.descB t.bBase ij.2 else s

/-- R245: the slots that the tile after ij uses. -/
def nextTurn (turn : Nat) (ij kl : Nat × Nat) : Nat :=
  (turn % 2 + b2n (ij.1 != kl.1)) % 2 + 2 * ((turn / 2 % 2 + b2n (ij.2 != kl.2)) % 2) + 4 * ((turn / 4 + 1) % 2)

/-- R245, R249 to R253, R257: a GRID instruction issues: its record and bounds are checked, its tiles planned, and the
fetches of the first tile issued. -/
def State.gridIssue (s : State) (i c gi p r : Nat) : State :=
  s.issueTo i c eArray (s.arrayFree i) fun s pc =>
    let g := gridOf ((s.core i).grids.get gi)
    match g.fault with
    | some code => s.coreFault i c pc eArray code
    | none =>
      let mRt := s.gridBound i c g.mSrc g.mIdx g.mPlan
      let nRt := s.gridBound i c g.nSrc g.nIdx g.nPlan
      if g.mPlan < mRt ∨ g.nPlan < nRt then s.coreFault i c pc eArray fShapeOver
      else
        match g.order mRt nRt with
        | [] => s.placeEmpty i c pc r (s.coreCycle i + 2)
        | ij :: rest =>
          let n := (s.core i).serial
          let s := (s.modCore i fun x => { x with serial := n + 1 }).modCtx i c fun x => { x with grids :=
            { pc := pc, g := gi, p := p, c := r, mRt := mRt, nRt := nRt, todo := ij :: rest, at_ := s.coreCycle i, num := n } :: x.grids }
          (s.fetchOperands i c pc n g (g.tile p mRt nRt 0 ij) ij true true).setWait i c (.own pc)

/-- R245: some transfer of the GRID at pc serves operand `which` and has not completed. -/
def State.gridTransfer (s : State) (i c pc : Nat) (p : Nat → Nat → Option Nat → Bool) : Bool :=
  let ok := fun (e : Xfer) => e.ctx == c && e.pc == pc && (match e.grid with | some w => p w.1 w.2.1 e.spadAt | none => false)
  (s.core i).dq.any ok || (s.core i).dmaq.any fun q => q.2.any ok

/-- R245: the tile may issue: its fetched operands have delivered, and its result slot is free. -/
def State.gridReady (s : State) (i c pc : Nat) (g : Grid) (t : Tile) (ij : Nat × Nat) : Bool :=
  !s.gridTransfer i c pc (fun w k _ => (w == 0 && k == ij.1) || (w == 1 && k == ij.2)) &&
  (g.descO == 0xFFFF ||
    (!s.gridTransfer i c pc (fun w _ a => w == 2 && a == some t.oBase) &&
     !(s.core i).aq.any fun e => e.ctx == c && e.pc == pc && (match e.job with | .tile u => u.oBase == t.oBase | _ => false)))

/-- R257: the descriptor indices that a tile issues are in the table. -/
def State.gridDescs (s : State) (i : Nat) (g : Grid) : Bool :=
  [g.descA, g.descB, g.descO].all fun d => d == 0xFFFF || s.descIn i d

/-- R245: the transfers of a tile: of those operands that are fetched, and of the result that is written out. -/
def State.tileXfers (s : State) (i c pc : Nat) (g : Grid) (t : Tile) (ij : Nat × Nat) : List Xfer :=
  (if g.descA = 0xFFFF then [] else [s.inXfer i c pc 0 g.descA t.aBase ij.1]) ++
  (if g.descB = 0xFFFF then [] else [s.inXfer i c pc 1 g.descB t.bBase ij.2]) ++
  (if g.descO = 0xFFFF then [] else [s.outXfer i c pc g.descO t.oBase ij])

/-- R176, R257, R275: the checks of a GRID's tile at its issue, in order: none where it may run. -/
def State.gridFault (s : State) (i c pc : Nat) (g : Grid) (t : Tile) (ij : Nat × Nat) : Option Nat :=
  let xs := s.tileXfers i c pc g t ij
  let size := s.regN .LC_SPAD_SIZE i
  if !aligned [t.aBase, t.bBase, t.oBase] then some fAlign
  else if s.gridDescs i g && !xs.all (·.fits size) then some fSpadRange
  else
    match s.tileChecks i t with
    | some code => some code
    | none => if !s.gridDescs i g then some fDescRange else if xs.all (·.legal) then none else some fIllegalOp

/-- R245: the next tile of context c's GRID may issue: the core runs, the context has its turn and waits for its GRID, the tile
before has completed, and its operands are delivered. -/
def State.tileTurn (s : State) (i c : Nat) (g : GridS) (r : Grid) (t : Tile) (ij : Nat × Nat) : Bool :=
  s.issueSlot i c && s.coreState i == 3 && s.ctxState i c == 2 && decide ((s.ctx i c).readyAt ≤ s.aclk) &&
  s.arrayFree i && g.issued == g.done && s.gridReady i c g.pc r t ij

/-- R245, R246, R257: the next tile of context c's GRID issues, once its operands are delivered; the next fetch starts. -/
def State.gridTileIssue (s : State) (i c : Nat) : State :=
  match (s.ctx i c).grids with
  | [] => s
  | g :: _ =>
    match g.todo with
    | [] => s
    | ij :: rest =>
      let r := gridOf ((s.core i).grids.get g.g)
      let t := r.tile g.p g.mRt g.nRt g.turn ij
      if s.tileTurn i c g r t ij then
        let s := s.tookTurn i c
        match s.gridFault i c g.pc r t ij with
        | some code => s.coreFault i c g.pc eArray code
        | none =>
          let s := s.placeArray i c g.pc (.tile t) true t.cycles (s.coreCycle i + 2)
          let turn := match rest with | kl :: _ => nextTurn g.turn ij kl | [] => g.turn
          let s := s.modCtx i c fun x => { x with grids := x.grids.map fun h =>
            if h.pc = g.pc then { h with todo := rest, issued := h.issued + 1, turn := turn } else h }
          match rest with
          | kl :: _ => s.fetchOperands i c g.pc g.num r (r.tile g.p g.mRt g.nRt turn kl) kl (ij.1 != kl.1) (ij.2 != kl.2)
          | [] => s.wake i c
      else s

/-! ### Vector instructions (R183, R184, R220, R221) -/

/-- Scratchpad ranges of vector sources of n lines. -/
def srcRanges (srcs : List VSrc) (bytes : Nat) : List (Nat × Nat) :=
  srcs.filterMap fun v => match v with | .spad a _ => some (a.toNat, bytes) | .vreg _ => none

def dstRanges (d : VDst) (bytes : Nat) : List (Nat × Nat) :=
  match d with | .spad a => [(a.toNat, bytes)] | .vreg _ => []

/-- R179, R183, R195: checks of a vector instruction over its scratchpad ranges. -/
def State.vectorChecks (s : State) (i : Nat) (nSrc : Nat) (rs : List (Nat × Nat)) : Option Nat :=
  if 2 < nSrc then some fIllegalOp
  else if !aligned (rs.map (·.1)) then some fAlign
  else if !rs.all (fun r => s.spadFits i r.1 r.2) then some fSpadRange
  else none

/-- R184: a vector operation over n lines issues. -/
def State.vectorIssue (s : State) (i c : Nat) (f : VFun) (srcs : List VSrc) (dst : VDst) (n : Nat) (rec_ : Option Nat) : State :=
  s.issueTo i c eVector (s.vectorFree i) fun s pc =>
    let rs := srcRanges srcs (64 * vInBytes f * n)
    let out := 64 * vOutBytes f * n
    match s.vectorChecks i rs.length (rs ++ dstRanges dst out) with
    | some code => s.coreFault i c pc eVector code
    | none => s.placeVector i c pc (.op f srcs dst n rec_) (ceilDiv out 256 * max rs.length 1 + 12)

/-- R221: the conversion between two formats is defined. -/
def convertible (src dst : Nat) : Bool :=
  match fmtOf src, fmtOf dst with
  | some a, some b => (a == b) || (if b = .bg4 then a == .fp32 else if a = .bg4 then b == .fp32 else true)
  | _, _ => false

/-- Bytes of k elements of a format. -/
def elemBytes (f k : Nat) : Nat := ceilDiv (k * fmtBits f) 8

/-- R184, R221: a vector conversion of k elements issues. -/
def State.convertIssue (s : State) (i c src dst : Nat) (ovfInf : Bool) (scale : Nat) (from_ : VSrc) (to_ : VDst) (k rec_ : Nat) :
    State :=
  s.issueTo i c eVector (s.vectorFree i) fun s pc =>
    if !convertible src dst then s.coreFault i c pc eVector fIllegalOp
    else
      let rs := srcRanges [from_] (elemBytes src k)
      match s.vectorChecks i rs.length (rs ++ dstRanges to_ (elemBytes dst k)) with
      | some code => s.coreFault i c pc eVector code
      | none => s.placeVector i c pc (.convert src dst ovfInf scale from_ to_ k rec_) (ceilDiv (elemBytes dst k) 256 + 12)

/-- R184: a vector reduction of n source lines issues. -/
def State.reduceIssue (s : State) (i c : Nat) (f : VFold) (src : VSrc) (dst : VDst) (n : Nat) : State :=
  s.issueTo i c eVector (s.vectorFree i) fun s pc =>
    let rs := srcRanges [src] (256 * n)
    match s.vectorChecks i rs.length (rs ++ dstRanges dst 256) with
    | some code => s.coreFault i c pc eVector code
    | none => s.placeVector i c pc (.fold f src dst n) (n + 20)

/-- R183: result elements of a format, written from cycle t on, go to their destination; a vector register keeps the last
line of 64. -/
def CoreS.putLanes (x : CoreS) (t : Nat) (dst : VDst) (f : Fmt) (vs : List Nat) : CoreS :=
  match dst with
  | .spad a => x.putSpad slVW t (a.toNat, ceilDiv (vs.length * f.bits) 8) (writeElems x.spad a.toNat f vs)
  | .vreg r => { x with vregs := x.vregs.set r.toNat (vs.drop (vs.length - 64)) }

/-- The format of the lanes that an operation writes, by their bytes. -/
def laneFmt (bytes : Nat) : Fmt := if bytes = 1 then .int8 else if bytes = 2 then .int16 else .int32

/-- R230: elements written under a record, if the instruction names one. -/
def State.countUnder (s : State) (i : Nat) (rec_ : Option Nat) (fs : List Bool) : State :=
  match rec_ with
  | some r => s.addCounts i r fs.length (fs.filter id).length 0
  | none => s

/-- R184, R230: the vector unit's running instruction completes, if its completion cycle has come. -/
def State.vectorComplete (s : State) (i : Nat) : State :=
  match (s.core i).vq with
  | [] => s
  | e :: es =>
    if e.complete ≤ s.coreCycle i ∧ s.coreState i ≠ 4 then
      let x := s.core i
      let s := (s.modCore i fun x => { x with vq := es }).obsAdd (1552 + i) (e.complete - e.start)
      let w0 := e.start + wheelAlign e.start
      let at_ := e.complete - 8
      let s := match e.job with
        | .op f srcs dst n rec_ =>
          let r : List (Nat × Bool) := opLanes x.seen (s.padOf i) x.vregs w0 f srcs n
          (s.modCore i fun x => x.putLanes at_ dst (laneFmt (vOutBytes f)) (r.map Prod.fst)).countUnder i rec_ (r.map Prod.snd)
        | .convert a b ovfInf scale from_ to_ k rec_ =>
          match fmtOf a, fmtOf b with
          | some fa, some fb =>
            let r := convertLanes x.seen (s.padOf i) x.vregs w0 fa fb ovfInf scale from_ k
            (s.modCore i fun x => x.putLanes at_ to_ fb (r.map Prod.fst)).countUnder i (some rec_) (r.map Prod.snd)
          | _, _ => s
        | .fold f src dst n => s.modCore i fun y => y.putLanes at_ dst .int32 (foldLanes x.seen (s.padOf i) x.vregs w0 f src n)
      (s.wakeOwn i).wakeFull i eVector
    else s

/-! ### Control instructions (R170, R173, R187 to R190, R234) -/

/-- R277: the delivered count of queue q has reached v. -/
def State.rowsReached (s : State) (i q v : Nat) : Bool :=
  decide ((s.regN .LC_DMAQ_ROWS (16 * i + q) + 2 ^ 32 - v % 2 ^ 32) % 2 ^ 32 < 2 ^ 31)

/-- R283: the greatest count awaited on a queue since the binding. -/
def State.await (s : State) (i q v : Nat) : State :=
  s.modCore i fun x => { x with awaited := x.awaited.modify q fun o => max o v }

/-- The own instruction at pc is a rescale-table load. -/
def State.isLoad (s : State) (i c pc : Nat) : Bool :=
  (s.core i).aq.any fun e => e.ctx == c && e.pc == pc && (match e.job with | .load _ _ _ => true | _ => false)

/-- R170, R173: a control wait. -/
def State.controlWait (s : State) (i c : Nat) (w : WaitFor) : State :=
  s.issue i c fun s _ =>
    match w with
    | .own pc =>
      if s.outstanding i c pc.toNat then
        s.setWait i c (if s.isLoad i c pc.toNat then .rescale pc.toNat else .own pc.toNat)
      else s
    | .dmaRows second v =>
      let q := 2 * c + b2n second
      let s := s.await i q v.toNat
      if s.rowsReached i q v.toNat then s else s.setWait i c (.dmaRows q v.toNat)

/-- R277: contexts of core i whose awaited row count is reached become ready. -/
def State.wakeRows (s : State) (i : Nat) : State :=
  s.wakeIf i fun _ w => match w with | .dmaRows q v => s.rowsReached i q v | _ => false

/-- R187: a context arrives at the group barrier, or context 7 at the device barrier. Arrivals at a stage barrier are
commits. -/
def State.barrierArrive (s : State) (i c : Nat) (b : BarScope) : State :=
  s.issue i c fun s _ =>
    match b with
    | .group => s.arriveWhenSeen i c .group
    | .device => if c = 7 then s.arriveWhenSeen i c .device else s
    | .stage _ => s

/-- R188: a context waits until a barrier has reached a phase; at the device barrier only context 7 waits. -/
def State.barrierWait (s : State) (i c : Nat) (b : BarScope) (phase : Nat) : State :=
  s.issue i c fun s _ =>
    if phase ≤ s.barPhase i b ∨ (b = .device ∧ c ≠ 7) then s else s.setWait i c (.barrier b phase)

/-- R190: a wait at one barrier phase for more than 10 ms faults. -/
def State.barrierTimeout (s : State) (i c : Nat) : State :=
  match (s.ctx i c).wait with
  | .barrier _ _ =>
    if s.ctxState i c = 2 ∧ (s.ctx i c).since + 10000000 < s.now then
      s.coreFault i c ((s.pcOf i c + 4095) % 4096) eBarrier fBarrierTimeout
    else s
  | _ => s

/-- R234: what an RCHK decides: none where no Retake is due, else the counter of the first condition that fails, or
LC_CNT_RETAKE. -/
def State.rchkOutcome (s : State) (i r : Nat) (b : BoundS) : Option RegName :=
  let l := s.layer i r
  if l.policy = 1 ∧ ((s.core i).counts.get r).exceeds l.thr then
    if !s.flag F.LC_RETAKE_CFG_en i then some .LC_CNT_SKIP_OFF
    else if 2 ≤ s.fld F.SFL_GOV_step then some .LC_CNT_SKIP_GOV
    else if s.fld F.LC_RETAKE_CFG_max_per_stripe i ≤ b.retakes then some .LC_CNT_SKIP_LIMIT
    else if s.now + l.retakeNs + l.remNs + 1000 * s.fld F.LC_RETAKE_CFG_reserve_us i ≤ b.deadline then some .LC_CNT_RETAKE
    else some .LC_CNT_SKIP_SLACK
  else none

/-- R233, R234, R235: the Retake check. Of the record whose Retake path the context runs, it is the path's return, to the
instruction after the check. -/
def State.rchk (s : State) (i c r : Nat) : State :=
  s.issue i c fun s pc =>
    match (s.core i).bound with
    | none => s
    | some b =>
      if b.training then s
      else if ((s.ctx i c).retake.map Prod.fst) = some r then
        let back := ((s.ctx i c).retake.map Prod.snd).getD 0
        (s.modCtx i c fun x => { x with retake := none }).setFld F.LC_CTX_STATUS_pc (8 * i + c) back
      else
        match s.rchkOutcome i r b with
        | none => s
        | some .LC_CNT_RETAKE =>
          let s := (s.addCounts i r 0 0 2).setMark b.cam b.seq markRetake
          let s := (s.modCore i fun x => { x with bound := some { b with retakes := b.retakes + 1 } }).modCtx i c fun x =>
            { x with retake := some (r, (pc + 1) % 4096) }
          ((s.traceEv 2 0x0B (srcCore i) r).bump .LC_CNT_RETAKE i clsCore (srcCore i) 1 b.seq).setFld F.LC_CTX_STATUS_pc (8 * i + c) (s.layer i r).retakePc
        | some k =>
          let s := (s.addCounts i r 0 0 4).setMark b.cam b.seq markRetakeSkipped
          (s.traceEv 2 0x0B (srcCore i) (r + 256)).bump k i clsCore (srcCore i) 1 b.seq

end Sys2Proof.Machine
end

