-- ==== Sys2Proof/Machine/Stripes.lean ====
section
/-! DEFINITION. The ring, work shares, stripe boundaries, the develop and print units' stripes, and the restoring of a core
(R26, R83 to R85, R137, R145, R146, R177, R191, R192, R197, R198, R258 to R268). -/
namespace Sys2Proof.Machine

/-! ### The ring (R191, R192) -/

/-- R192: a context posts a receive and waits for it. -/
def State.ringReceivePost (s : State) (i c addr len : Nat) : State :=
  s.issue i c fun s pc =>
    if !s.spadFits i addr len then s.coreFault i c pc eRing fSpadRange
    else
      let s := s.modCore i fun x => { x with recvs := x.recvs ++ [{ ctx := c, addr := addr, len := len }] }
      (s.setWait i c .ring).ringTry

/-- R191, R192: a context sends a range to cores downstream, and waits. -/
def State.ringSend (s : State) (i c addr len mask : Nat) : State :=
  s.issue i c fun s pc =>
    let ts := (List.range 16).filter (bit mask)
    if ts.any fun j => (s.hops i j).isNone then s.coreFault i c pc eRing fIllegalOp
    else if !s.spadFits i addr len then s.coreFault i c pc eRing fSpadRange
    else
      let s := s.modCore i fun x => { x with sends := x.sends ++ [{ ctx := c, pc := pc, addr := addr, len := len, targets := ts }] }
      (s.setWait i c .ring).ringTry

/-- R191, R192: data reaches the taken receive of a target, and its context becomes ready. -/
def State.ringDeliver (s : State) (j : Nat) (bs : List Byte) : State :=
  match (s.core j).recvs.find? (·.taken) with
  | none => s
  | some r =>
    let s := s.modCore j fun y => { y.putSpad slDI (s.coreCycle j) (r.addr, (bs.take r.len).length) (memWrites y.spad r.addr (bs.take r.len)) with recvs := y.recvs.erase r }
    match (s.ctx j r.ctx).wait with | .ring => s.wake j r.ctx | _ => s

/-- R178, R192: the bytes of a send that completes in cycle t, each line as DO read it. -/
def State.sentBytes (s : State) (i t : Nat) (x : SendS) : List Byte :=
  let t0 := t - (ceilDiv x.len 256 + 8 * s.ringHops i x + 8)
  (List.range x.len).map fun k =>
    memRead ((s.core i).seen.on fun _ => reach slDO ((x.addr + k) / 256) (t0 + k / 256)) (x.addr + k)

/-- R192: the send of core i whose completion cycle has come completes, with its receives. -/
def State.ringComplete (s : State) (i : Nat) : State :=
  match (s.core i).sends.find? fun x => x.complete.any fun t => decide (t ≤ s.coreCycle i) with
  | none => s
  | some x =>
    let bs := s.sentBytes i (x.complete.getD 0) x
    let s := s.modCore i fun y => { y with sends := y.sends.erase x }
    let s := x.targets.foldl (fun s j => s.ringDeliver j bs) s
    let s := match (s.ctx i x.ctx).wait with | .ring => s.wake i x.ctx | _ => s
    s.ringTry

/-- R192: a context has waited for more than 1 ms to start a send or to complete a receive. -/
def State.ringTimeout (s : State) (i c : Nat) : State :=
  match (s.ctx i c).wait with
  | .ring =>
    if s.ctxState i c = 2 ∧ (s.ctx i c).since + 1000000 < s.now ∧
       ¬ (s.core i).sends.any (fun x => x.ctx == c && x.complete.isSome) then
      s.coreFault i c ((s.pcOf i c + 4095) % 4096) eRing fRingTimeout
    else s
  | _ => s

/-! ### Shares (R258 to R263) -/

/-- R173: contexts of a group that wait to draw from counter w become ready. -/
def State.wakeCounter (s : State) (g w : Nat) : State :=
  (s.groupCores g).foldl (fun s i => s.wakeIf i fun _ x => match x with | .counter v => v == w | _ => false) s

/-- R258: firmware queues the share of a stripe. -/
def State.workShareQueue (s : State) (g w n q k : Nat) : State := (s.queueShare g w n q k).wakeCounter g w

/-- R102: a stripe with launch time L becomes eligible at L. -/
def State.stripeLaunch (s : State) (g w n q k l : Nat) : State := if l ≤ s.now then s.workShareQueue g w n q k else s

/-- R260: a lease expires. -/
def State.leaseExpiry (s : State) (g w idx : Nat) : State := (s.expireLease g w idx).wakeCounter g w

/-- R145: at the binding of the temporal stage of frame q it is given the buffer it writes, q % 2, and the buffer it reads,
(q − 1) % 2; where the frame before did not complete the stage for this stripe, it reads zeros with the reset flag, and the
frame is counted once. -/
def State.temporalBind (s : State) (i n q k : Nat) : State :=
  let p := s.frame n (q - 1)
  let kept := decide (0 < q) && p.seq == q - 1 && p.tsDone.contains k
  let t : Nat × Option Nat := (q % 2, if kept then some ((q + 1) % 2) else none)
  let s := s.modCore i fun x => { x with bound := x.bound.map fun b => { b with temporal := some t } }
  if kept ∨ (s.frame n q).tsReset then s
  else (s.modFrame n q fun f => { f with tsReset := true }).camCount .CAM_CNT_TSTATE_RESET n clsOutput q

/-- R26, R131, R137: the developed plane of stripe k: its first 16 rows are those carried, where the group carries them. -/
def State.developPlane (s : State) (n q k : Nat) : List (List Nat) :=
  let g := s.group (s.camSg n)
  let rows := fun (a m : Nat) => (List.range m).map fun i => s.developRow n q (32 * (k : Int) - 8 + (a + i : Nat))
  if g.carryInline = some (q, k) ∧ g.inlineCam = some n then g.carryRows ++ rows 16 32
  else if g.carryMem = some (n, q, k) then g.carryMemRows ++ rows 16 32
  else rows 0 48

/-- R324: the developed plane of a training stripe: one exposure, the negative that the reverse pipeline packed, and the
parameter block copy in force. -/
def State.trainPlane (s : State) (n k : Nat) : List (List Nat) :=
  let raw := fun (r : Nat) => (((s.adaptOf n).codes.find? fun e => e.1 == r).map (·.2)).getD []
  (List.range 48).map fun i =>
    s.developLine n 1 (s.ppbOf n (s.fld F.CAM_PPB_SEL_copy n)) (fun _ => 1) raw (32 * (k : Int) - 8 + (i : Nat))

/-- R145, R314: a develop or print unit reads a parameter block that holds poison. -/
def State.ppbPoison (s : State) (n q : Nat) : State :=
  if s.poisonedRange (s.ppbOf n (s.frame n q).ppb).at_ 0x5000 then s.setMark n q markMemPoison else s

/-- R26: the 16 rows that stripe k shares with the stripe before it come from the carry buffer, or from the overlap slot. -/
def State.overlapHeld (s : State) (n q k : Nat) : Bool :=
  let g := s.group (s.camSg n)
  (g.carryInline == some (q, k) && g.inlineCam == some n) || g.carryMem == some (n, q, k) ||
  (s.cam n).ovl.any fun o => o.1 == q && o.2.1 + 1 == k

/-- R26, R314: a row that stripe k reads from the negative holds poison. -/
def State.negPoison (s : State) (n q k : Nat) : State :=
  let f := s.frame n q
  let lo := (if s.overlapHeld n q k then 32 * k + 8 else 32 * k - 8) * s.nExpo n
  if f.negSlot ≠ 255 ∧ s.poisonedRange (s.negAddr n f.negSlot lo) ((s.lastRowOf n k + 1 - lo) * s.rowBytes n) then
    s.setMark n q markMemPoison else s

/-- R137: the bytes of a developed plane: rows of U16 values. -/
def planeBytes (p : List (List Nat)) : List Byte := (p.map fun r => (r.map (leBytes 2)).flatten).flatten

/-- R22, R137: the develop unit beside a group's first core delivers the plane of a stripe to its scratchpad. -/
def State.deliverPlane (s : State) (i at_ : Nat) (p : List (List Nat)) : State :=
  let bs := planeBytes p
  s.modCore i fun x => { x.putSpad slDI (s.coreCycle i) (at_, bs.length) (memWrites x.spad at_ bs) with plane := p }

/-- R22, R137, R145, R171, R259, R324: core i binds its contexts to a share it has drawn; the develop unit, which only a group's first
core has, makes the first stage's plane. -/
def State.startShare (s : State) (i w : Nat) (h : Share) : State :=
  let c := s.counter (s.groupOf i) w
  let s := s.bindShare i w h
  let s := (List.range 6).foldl (fun s k => if bit c.ctxs k then s.setFld F.LC_CTX_STATUS_pc (8 * i + k) c.entry else s) s
  let s := if c.temporal ∧ !h.training then s.temporalBind i h.cam h.seq h.stripe else s
  if !c.inputs.isEmpty ∨ i ≠ s.groupOf i then s
  else if h.training then s.deliverPlane i c.plane (s.trainPlane h.cam h.stripe)
  else
    let p := s.developPlane h.cam h.seq h.stripe
    ((s.ppbPoison h.cam h.seq).negPoison h.cam h.seq h.stripe).deliverPlane i c.plane p

/-- R85, R268: of two shares with the stages they belong to, the one that a core takes first. -/
def shareFirst (a b : Nat × Share × Nat) : Bool :=
  let x := a.2.1
  let y := b.2.1
  if x.inl == y.inl && x.deadline == y.deadline && x.cam == y.cam && a.2.2 != b.2.2 then decide (b.2.2 < a.2.2)
  else x.before y

def bestShare : List (Nat × Share × Nat) → Option (Nat × Share × Nat)
  | [] => none
  | a :: t => match bestShare t with
    | none => some a
    | some b => if shareFirst b a then some b else some a

/-- R85, R259, R268: the share that core i takes next: one it holds already, else the first over its counters. -/
def State.nextShare (s : State) (i : Nat) : Option (Nat × Share × Nat) :=
  let g := s.groupOf i
  let mine := fun (w : Nat) => ((s.counter g w).shares.filter fun h => h.held.any fun e => e.1 == i).map fun h => (w, h, (s.counter g w).stage)
  let heads := fun (w : Nat) => ((s.headShare i w).toList).map fun h => (w, h, (s.counter g w).stage)
  match ((List.range 32).map mine).flatten with
  | [] => bestShare ((List.range 32).map heads).flatten
  | l => bestShare l

/-- R378: the user of the core that a share of counter w needs. -/
def State.userOf (s : State) (i w : Nat) (h : Share) : UserS :=
  let k := (s.counter (s.groupOf i) w).handle
  { fn := (s.cam h.cam).holder, handle := if (s.boot.models.get k).any (·.encrypted) then some k else none }

/-- R259: a context draws from counter w; from an empty queue it waits, and draws again when it is ready. While the counter has
served another draw in this cycle, the draw has still to be served. -/
def State.wcDraw (s : State) (i c w : Nat) : State :=
  if s.drawnNow (s.groupOf i) w then s
  else s.issue i c fun s pc =>
    match s.headShare i w with
    | some h =>
      let s := s.takeShare i w h
      if (s.core i).bound.isNone ∧ 6 ≤ c ∧ (s.core i).user = s.userOf i w h then s.startShare i w h else s
    | none => (s.setFld F.LC_CTX_STATUS_pc (8 * i + c) pc).setWait i c (.counter w)

/-- R71: the first output row that a later stripe than k of the frame still reads. -/
def State.firstNeeded (s : State) (n k : Nat) : Nat :=
  let h := s.outH n
  let last := s.stripes n - 1
  if last ≤ k then h else min (32 * k + 24) (2 * (h - 1) - (32 * last + 39))

/-- R26: the last 16 raw input rows of a memory-path stripe stay in the camera's overlap slot. -/
def State.keepOverlap (s : State) (n q k : Nat) : State :=
  if (s.cam n).ovlSlot.isNone then s
  else
    let e := s.nExpo n
    let rows := (List.range (16 * e)).map fun j => (32 * k + 24) * e + j
    let held := (rows.filter fun r => decide (r < s.height n)).map fun r => (r, s.rawRow n q r)
    s.modCam n fun c => { c with ovl := some (q, k, held) }

/-- R26, R71: the group's first core has completed its stage on stripe k: rows are consumed, and the overlap is carried. -/
def State.firstStageDone (s : State) (i n q k : Nat) : State :=
  let g := s.camSg n
  let inl := (s.frame n q).inlinePath
  let rows := ((s.core i).plane.drop 32)
  let s := s.modFrame n q fun f => { f with firstDone := f.firstDone + 1 }
  let s := s.modGroup g fun x => { x with
    line := x.line.filter fun r => !(r.seq == q && inl && decide (r.row / s.nExpo n < s.firstNeeded n k)) }
  let more := decide (k + 1 < s.stripes n)
  let s := if inl then s else s.keepOverlap n q k
  if inl then s.modGroup g fun x => { x with carryInline := if more then some (q, k + 1) else none, carryRows := rows }
  else s.modGroup g fun x => { x with carryMem := if more then some (n, q, k + 1) else none, carryMemRows := rows }

/-- R261, R262: the share of core i is held with the bound generation. -/
def State.tokenCurrent (s : State) (i : Nat) (b : BoundS) : Bool :=
  (s.counter (s.groupOf i) b.w).shares.any fun h => h.idx == b.idx && h.gen == b.gen

/-- R143: three planes of U16 values, rows by W, in a scratchpad: rows of R, G, B values. -/
def planeRows (m : List Host.Cell) (at_ rows w : Nat) : List (List (Nat × Nat × Nat)) :=
  let v := fun (p y x : Nat) => ofLE (memReads m (at_ + 2 * ((p * rows + y) * w + x)) 2)
  (List.range rows).map fun y => (List.range w).map fun x => (v 0 y x, v 1 y x, v 2 y x)

/-- R143: machine-vision rows of stripe k: the first, and how many. -/
def State.encRows (s : State) (n k : Nat) : Nat × Nat :=
  let r := 32 / s.mvFactor n
  (r * k, min r (s.mvRows n - r * k))

/-- R143: the final image stage hands its planes of stripe k to the print stage; the source of the machine-vision encoder hands
its rows, each of C planes, to the output writer. -/
def State.handOn (s : State) (i : Nat) (c : CounterS) (n q k : Nat) : State :=
  let m := (s.core i).spad
  let s := if c.final then
      let p := planeRows m c.out (min 32 (s.outH n - 32 * k)) (s.width n)
      s.modFrame n q fun f => { f with image := f.image.set k p }
    else s
  if c.encoder then
    let e := s.encRows n k
    let w := s.fld F.CAM_OUT_MV_channels n * s.mvCols n * s.mvBps n
    (List.range e.2).foldl (fun s j => s.modFrame n q fun f => { f with enc := f.enc.set (e.1 + j) (memReads m (c.out + j * w) w) }) s
  else s

/-- R71, R143, R145, R324: what the completion of stage c, of counter w, on the stripe of share h brings. -/
def State.stageCommitted (s : State) (i w : Nat) (c : CounterS) (h : Share) : State :=
  if h.training then s.modAdapt h.cam fun a => { a with trained := w :: a.trained }
  else if (s.frame h.cam h.seq).seq == h.seq then
    let s := if c.inputs.isEmpty then s.firstStageDone i h.cam h.seq h.stripe else s
    let s := if c.temporal then s.modFrame h.cam h.seq fun f => { f with tsDone := h.stripe :: f.tsDone } else s
    s.handOn i c h.cam h.seq h.stripe
  else s

/-- R262: a commit of context c of core i that names token (w, idx, gen): accepted where a drawn share has that index and
generation and is not committed; else discarded and counted. -/
def State.commitShare (s : State) (i c w idx gen : Nat) : State :=
  let g := s.groupOf i
  let k := s.counter g w
  match k.shares.find? fun h => h.idx == idx && h.gen == gen && h.held.isSome with
  | some h =>
    let done := if h.training then k.done else (h.cam, h.seq, h.stripe) :: k.done
    let s := s.setCounter g w { k with shares := k.shares.filter (fun h => h.idx != idx), done := done }
    let s := s.modCore i fun x => { x with bound := x.bound.map fun b =>
      if b.w = w ∧ b.idx = idx ∧ b.gen = gen then { b with committed := true } else b }
    let s := (s.stageCommitted i w k h).traceEv 2 0x0A (srcCore i) (h.cam + h.stripe * 2 ^ 9 + k.stage * 2 ^ 16)
    s.arriveWhenSeen i c (.stage (BitVec.ofNat 6 (s.fld F.HLD_WC_CFG_barrier (32 * g + w))))
  | none => s.bump .HLD_WC_CNT_LATE_COMMIT (32 * g + w) clsCore (srcCore g) 1 (s.boundSeq i)

/-- R262: the commit instruction. -/
def State.wcCommit (s : State) (i : Nat) (t : CommitOp) : State :=
  s.issue i t.ctx.val fun s _ => s.commitShare i t.ctx.val t.w.val t.idx.toNat t.gen.toNat

/-! ### Stripe boundaries (R84, R85, R171, R232) -/

/-- R171, R277: every context bound to the stripe has finished: it has reached the end of the stage program, the share is
committed or reissued, and the queues of contexts 0 to 5 are empty. -/
def State.stageDone (s : State) (i : Nat) : Bool :=
  let x := s.core i
  (match x.bound with
    | some b => (b.committed || !s.tokenCurrent i b) &&
        (List.range 6).all fun c => !bit b.ctxs c || (s.ready i c && s.finished i c)
    | none => false) &&
  !x.aq.any (fun e => decide (e.ctx < 6)) && !x.vq.any (fun e => decide (e.ctx < 6)) && !x.dq.any (fun e => decide (e.ctx < 6)) &&
  (List.range 12).all fun q => (x.dmaq.get q).isEmpty

/-- R171, R232: the stripe in progress is left: its counts are closed and its contexts released. -/
def State.leaveStripe (s : State) (i : Nat) (b : BoundS) : State :=
  let s := if b.committed then s.closeCounts i b else s
  let s := s.modCore i fun x => { x with bound := none }
  let s := (List.range 6).foldl (fun s k => s.idleCtx i k) s
  if s.ctxState i 6 = 0 ∧ s.ctxState i 7 = 0 then s.setCoreState i 2 else s

/-- R180, R378: the core's next stripe belongs to another user: the snuffer clears its scratchpad in the background, 256 bytes a
cycle through SR, and firmware its rescale table. True once that is over. -/
def State.changeUser (s : State) (i : Nat) (u : UserS) : Bool × State :=
  let x := s.core i
  match x.userClear with
  | none =>
    if x.user = u then (true, s)
    else (false, s.modCore i fun x => { x with userClear := some (s.aclk + s.regN .LC_SPAD_SIZE i / 256) })
  | some t =>
    if t ≤ s.aclk then (true, s.modCore i fun x => { x with user := u, userClear := none, spad := [], past := [], rescale := [] })
    else (false, s)

/-- R84, R85, R171, R259: a core at its stripe boundary takes the next eligible stripe and binds its contexts. -/
def State.takeStripe (s : State) (i : Nat) : State :=
  match s.nextShare i with
  | none => s
  | some (w, h, _) =>
    let r := s.changeUser i (s.userOf i w h)
    if r.1 then
      let s := if h.held.isNone then r.2.takeShare i w h else r.2
      s.startShare i w h
    else r.2

/-- R85, R232: the stripe boundary of core i. -/
def State.stripeBoundary (s : State) (i : Nat) : State :=
  if s.coreState i ≠ 2 ∧ s.coreState i ≠ 3 ∨ s.fatal ∨ s.flag F.SFL_STATUS_trip then s
  else
    match (s.core i).bound with
    | none => s.takeStripe i
    | some b => if s.stageDone i then (s.leaveStripe i b).takeStripe i else s

/-! ### Print (R146) -/

/-- R143: the final image stage of camera n's graph has committed stripe k of frame q. -/
def State.finalDone (s : State) (n q k : Nat) : Bool :=
  (s.group (s.camSg n)).counters.any fun e =>
    e.2.final && decide (some e.2.handle = (s.cam n).model) && e.2.done.contains (n, q, k)

/-- R22, R143, R146, R153: the print unit beside core i, the last of its group, takes stripe k of the final image, which may be
all that the frame's slot header waited for. -/
def State.printStripe (s : State) (n q k i : Nat) : State :=
  let f := s.frame n q
  if f.seq = q ∧ f.live ∧ s.isLast n i ∧ f.tone.length = 32 * k ∧ k < s.stripes n ∧ s.finalDone n q k then
    let rows := f.image.get k
    let p := s.ppbOf n f.ppb
    let tone := rows.map fun r => r.map (printPixel p f.wb)
    ((s.ppbPoison n q).modFrame n q fun f =>
      { f with tone := f.tone ++ tone, lin := f.lin ++ rows, image := f.image.filter fun e => e.1 != k }).finishFrame n q
  else s

/-! ### Cores: SPAD_ECC and restoring (R177, R193, R197, R198, R263) -/

/-- R177: a scratchpad error that an instruction of context c finds: corrected and counted, or a fault. -/
def State.spadEcc (s : State) (i c pc : Nat) (uncorrectable : Bool) : State :=
  if s.coreState i ≠ 2 ∧ s.coreState i ≠ 3 then s
  else if uncorrectable then s.coreFault i c pc eSpad fSpadEcc
  else s.setRegN .LC_ECC_CNT i (satAdd 32 (s.regN .LC_ECC_CNT i) 1)

/-- R168, R226, R243, R255, R272, R281: the tables of a program join those that a core holds. -/
def State.loadProg (s : State) (i : Nat) (p : CoreProg) : State :=
  let add := fun (t : Tab (List Byte)) (l : List (List Byte)) =>
    let n := t.length
    (List.range l.length).foldl (fun t k => Tab.set t (n + k) (l.getD k [])) t
  let x := s.core i
  let s := s.setCore i { x with store := add x.store p.instrs, layers := add x.layers p.layers, grids := add x.grids p.grids,
                                descs := add x.descs p.descs }
  let s := s.setFld F.LC_DESC_COUNT_count i (s.core i).descs.length
  let s := (List.range (min 16 p.pads.length)).foldl (fun s k => s.setReg .LC_PAD (16 * i + k) (p.pads.getD k 0)) s
  (List.range (min 16 p.dmaq.length)).foldl (fun s q => s.setReg .LC_DMAQ_CFG (16 * i + q) (p.dmaq.getD q 0)) s

/-- R197: the programs of the models resident on a core are loaded again. -/
def State.reloadCore (s : State) (i : Nat) : State :=
  (s.core i).resident.foldl (fun s h =>
    match s.boot.models.get h with
    | some m => s.loadProg i (m.img.cores.getD ((i + 16 - m.first) % 16) ⟨[], [], [], [], [], [], 0⟩)
    | none => s) s

/-- R282: rate and depth of core i, in 1/16 byte. -/
def State.dmaRate (s : State) (i : Nat) : Nat := max 1 (s.fld F.LC_DMA_REG_rate i)
def State.dmaDepth (s : State) (i : Nat) : Nat := max 1 (s.fld F.LC_DMA_REG_depth i) * 65536

/-- R177, R180, R197: a core that has been in reset leaves it cleared and reloaded, and is IDLE and present. Rows in flight
between the core and elsewhere have landed before it is cleared. -/
def State.clearCore (s : State) (i : Nat) : State :=
  let x := s.core i
  let s := s.setCore i { user := x.user, resident := x.resident, rerun := x.rerun, resetBy := x.resetBy, from_ := s.aclk
                         tau := s.dmaDepth i, flying := x.flying.filter fun e => !e.2.inCore }
  let s := s.resetRegs fun r k => r.info.block == .LC && k / r.info.sub == i && !keptAtCore r
  ((s.reloadCore i).setCoreState i 2).joinBarriers i

/-- R180, R197: the snuffer begins to clear the scratchpad of a core in reset, 2,048 bytes a cycle, and its rescale table is
cleared. -/
def State.beginClear (s : State) (i : Nat) : State :=
  (s.setCoreState i 1).modCore i fun x => { x with
    spad := [], past := [], rescale := [], clearAt := some (s.aclk + s.regN .LC_SPAD_SIZE i / 2048) }

/-- R265, R442: firmware sets the configuration of the work counters of group g's loaded stages. -/
def State.configStage (s : State) (g w : Nat) (d : StageDecl) : State :=
  let k := 32 * g + w
  ((s.setFld F.HLD_WC_CFG_lease_us k (clampN d.leaseUs 10 65535)).setFld F.HLD_WC_CFG_barrier k d.barrier).setFld F.HLD_WC_CFG_active k 1
def State.configBarrier (s : State) (g : Nat) (d : StageDecl) : State :=
  s.modGroup g fun x => { x with bars := x.bars.modify d.barrier fun b => { b with expected := max 1 d.expected } }
def State.configCounters (s : State) (g : Nat) : State :=
  s.boot.models.foldl (fun s e => match e.2 with
    | some m => if m.first = g then
        (m.counters.zip m.img.stages).foldl (fun s d => (s.configStage g d.1 d.2).configBarrier g d.2) s else s
    | none => s) s

/-- R442: a stage-group reset that waits for its cores returns the group to service and replies, once all of them are IDLE. -/
def State.groupRestored (s : State) (g : Nat) : State :=
  match (s.group g).resetBy with
  | some c =>
    if (s.groupCores g).all fun i => s.present i && !(s.core i).restoring then ((s.configCounters g).modGroup g fun x => { x with resetBy := none }).reply c stOk else s
  | none => s

/-- R263: a core that is IDLE again resumes the share it held, if its lease has not expired. -/
def State.resumeShare (s : State) (i : Nat) : State :=
  match (s.core i).rerun with
  | none => s
  | some b =>
    let s := s.modCore i fun x => { x with rerun := none }
    match (s.counter (s.groupOf i) b.w).shares.find? fun h => h.idx == b.idx && h.gen == b.gen && h.held.any fun e => e.1 == i with
    | some h => s.startShare i b.w h
    | none => s

/-- R197, R263, R441: core i is IDLE again, its share resumes, and its commands are answered. -/
def State.backIdle (s : State) (i : Nat) : State :=
  let s := (s.clearCore i).resumeShare i
  let s := match (s.core i).resetBy with
    | some c => (s.modCore i fun x => { x with resetBy := none }).reply c stOk
    | none => s
  s.groupRestored (s.groupOf i)

/-- R197: the next step of the restoring of core i, once it can be taken: a FAULTED core enters RESET; one in RESET is CLEARING;
one whose clear has ended is reloaded and IDLE. -/
def State.coreRestored (s : State) (i : Nat) : State :=
  if (s.core i).restoring && !s.flag F.SFL_STATUS_trip then
    if s.coreState i = 4 then s.enterReset i
    else match (s.core i).clearAt with
      | none => s.beginClear i
      | some t => if t ≤ s.aclk then s.backIdle i else s
  else s

end Sys2Proof.Machine
end

