-- ==== Sys2Proof/Machine/DmaEngine.lean ====
section
/-! DEFINITION. The DMA engines (R269 to R294). -/
namespace Sys2Proof.Machine

/-! ### Instructions (R270, R275) -/

/-- The value of a scalar register. -/
def State.sreg (s : State) (i c r : Nat) : Nat := (s.ctx i c).sregs.get (r % 32) % 2 ^ 32

/-- R270, R275: a DMA instruction issues. -/
def State.dmaInstruction (s : State) (i c : Nat) (o : DmaOp) : State :=
  s.issueTo i c eDma (s.dmaFree i) fun s pc =>
    let x : Xfer :=
      { ctx := c, pc := pc, queue := o.queue.toNat, desc := o.desc.toNat, bytes := (s.core i).descs.get o.desc.toNat
        addSrc := o.addSrc.elim 0 fun r => s.sreg i c r.toNat, addDst := o.addDst.elim 0 fun r => s.sreg i c r.toNat
        fix3 := o.fix3.map BitVec.toNat, fix2 := if o.fix3.isSome then o.fix2.map BitVec.toNat else none
        launch := o.launch.map fun r => s.sreg i c r.toNat + s.sreg i c (r.toNat + 1) * 2 ^ 32 }
    if s.fld F.LC_DESC_COUNT_count i ≤ x.desc then s.coreFault i c pc eDma fDescRange
    else if x.queue / 2 ≠ c ∨ !x.legal then s.coreFault i c pc eDma fIllegalOp
    else if !x.fits (s.regN .LC_SPAD_SIZE i) then s.coreFault i c pc eDma fSpadRange
    else s.modCore i fun y => { y with dq := y.dq ++ [s.issued i y.serial x], serial := y.serial + 1 }

/-! ### Queues (R269, R271, R277, R278) -/

def State.dmaQ (s : State) (i q : Nat) : List Xfer := (s.core i).dmaq.get q
/-- R281: LC_DMAQ_STATUS.pending shows the transfers in the queue. -/
def State.setDmaQ (s : State) (i q : Nat) (l : List Xfer) : State :=
  (s.modCore i fun x => { x with dmaq := x.dmaq.set q l }).setFld F.LC_DMAQ_STATUS_pending (16 * i + q) l.length

/-- Changes transfer k of a queue. -/
def State.modXfer (s : State) (i q k : Nat) (f : Xfer → Xfer) : State :=
  match (s.dmaQ i q)[k]? with
  | some x => s.setDmaQ i q (setAt (s.dmaQ i q) k (f x))
  | none => s

/-- R86, R290, R292: a mark on the frame that a transfer serves. -/
def State.markFor (s : State) (x : Xfer) (k : Nat) : State :=
  match x.frame with
  | some f => s.setMark f.1 f.2 k
  | none => s

/-- R429: the sequence number of the frame that queue q of core i serves. -/
def State.queueSeq (s : State) (i q : Nat) : Nat := if q < 12 then s.boundSeq i else 0xFFFFFFFF

/-- R290, R334: a transfer of context 6 ends poisoned: Retouch of its camera pauses. -/
def State.poisonSix (s : State) (i q : Nat) : State := if q / 2 = 6 then s.pauseSix i cPoison else s

/-- R378: the function whose spaces core i translates through. -/
def State.userFn (s : State) (i : Nat) : Nat := (s.core i).user.fn

/-! ### Translation (R286, R376, R399, R420) -/

def cNotPresent : Nat := 1
def cWriteProtect : Nat := 2
def cNoAccess : Nat := 3
def cHostError : Nat := 4

/-- R354: a page's translation; the cause where it fails. -/
def pageWalk (ps : List Page) (va : Nat) (write : Bool) : Nat × Nat :=
  if 2 ^ 48 ≤ va then (cNoAccess, 0)
  else
    match findPage ps va with
    | none => (cNotPresent, 0)
    | some p =>
      if !p.present then (cNotPresent, 0)
      else if write && !p.writable then (cWriteProtect, 0) else (0, p.pa + (va - p.va))

/-- R376: a sealed page that holds a device address, with its model's handle. -/
def State.sealedAt (s : State) (a : Nat) : Option Nat :=
  (s.boot.models.find? fun e => e.2.any fun m => m.sealed_.any fun r => decide (r.1 ≤ a) && decide (a < r.1 + r.2)).map (·.1)

/-- R376: the transfer may touch a sealed page of model h: a read into the scratchpad, by firmware's contexts or by a
stage program of the same handle. -/
def State.sealOk (s : State) (i : Nat) (x : Xfer) (h : Nat) (write : Bool) : Bool :=
  !write && x.d.dstSp == spSpad &&
  (decide (6 ≤ x.ctx) || (match (s.core i).bound with | some b => (s.counter (s.groupOf i) b.w).handle == h | none => false))

/-- R286: one memory-side piece at va: the cause, or 0 with the physical address. -/
def State.translatePiece (s : State) (i : Nat) (x : Xfer) (sp va : Nat) (write : Bool) : Nat × Nat :=
  if sp = spDev then
    let r := pageWalk (s.fn (s.userFn i)).dev va write
    if r.1 ≠ 0 then r
    else match s.sealedAt r.2 with
      | some h => if s.sealOk i x h write then r else (cNoAccess, 0)
      | none => r
  else if write && s.sfl.enrol.isSome then (cNoAccess, 0)
  else pageWalk (s.fn (s.userFn i)).host va write

/-- R376, R388: a failed translation (cause, side, address) was the refusal of a sealed page: the page tables alone would
have given an address in device memory. -/
def State.sealDenied (s : State) (i : Nat) (x : Xfer) (w : Nat × Nat × Nat) : Bool :=
  w.1 == cNoAccess && (if w.2.1 = 1 then x.d.dstSp else x.d.srcSp) == spDev &&
  (pageWalk (s.fn (s.userFn i)).dev w.2.2 (w.2.1 == 1)).1 == 0

/-- R281: a run of n bytes from a cut at 4 KiB boundaries: (address, bytes) of each piece. -/
def cutPieces (a n : Nat) : List (Nat × Nat) :=
  (List.range ((a % 4096 + n + 4095) / 4096)).map fun k =>
    let lo := max a (a / 4096 * 4096 + 4096 * k)
    (lo, min (a + n) (a / 4096 * 4096 + 4096 * (k + 1)) - lo)

/-- R420: a PEER row is refused: (cause). -/
def State.peerCause (s : State) (i : Nat) (va n : Nat) : Nat :=
  let t := getBits va 40 3
  let w := getBits va 32 8
  let p := s.chn.peers.get t
  if 2 ^ 43 ≤ va ∨ s.userFn i ≠ 0 ∨ t = s.fld F.CHN_STATUS_pos ∨ !bit (s.fld F.CHN_STATUS_present) t then cNoAccess
  else if p.enrol ≠ s.sfl.enrol ∨ p.policySeq ≠ s.regN .SFL_POLICY_SEQ then cNoAccess
  else if 16 ≤ w ∨ s.chn.rwin.get (16 * t + w) < va % 2 ^ 32 + n then cNoAccess
  else 0

/-- R286: translation of the address of a CRC that is to be stored in device memory: its failure. -/
def State.crcFault (s : State) (i : Nat) (x : Xfer) : Option (Nat × Nat × Nat) :=
  if x.d.crc && x.d.crcSp == spDev && x.status != 1 then
    let t := s.translatePiece i x spDev x.d.crcAddr true
    if t.1 = 0 then none else some (t.1, 1, x.d.crcAddr)
  else none

/-- R286: translation of row r: the first failure (cause, side, address), source side first. Beyond the last row it is that of
the CRC. -/
def State.rowFault (s : State) (i : Nat) (x : Xfer) (r : Nat) : Option (Nat × Nat × Nat) :=
  if x.total ≤ r then s.crcFault i x
  else
    let side := fun (sp va : Nat) (write : Bool) =>
      if sp = spDev ∨ sp = spHost then
        (cutPieces va x.d.cnt0).findSome? fun p =>
          let t := s.translatePiece i x sp p.1 write
          if t.1 = 0 then none else some (t.1, b2n write, p.1)
      else if sp = spPeer then
        let c := s.peerCause i va x.d.cnt0
        if c = 0 then none else some (c, 1, va)
      else none
    match side x.d.srcSp (x.srcAt r) false with
    | some f => some f
    | none => side x.d.dstSp (x.dstAt r) true

/-! ### Issue (R280 to R284) -/

/-- R281: the pieces of row r: (writes, charged space, address, bytes). -/
def Xfer.rowPieces (x : Xfer) (r : Nat) : List (Bool × Nat × Nat × Nat) :=
  let side := fun (sp va : Nat) (write : Bool) =>
    if sp = spDev ∨ sp = spHost ∨ sp = spPeer then (cutPieces va x.d.cnt0).map fun p => (write, sp, p.1, p.2) else []
  side x.d.srcSp (x.srcAt r) false ++ side x.d.dstSp (x.dstAt r) true

/-- R281: cost of a piece in bytes. -/
def pieceCost (a n : Nat) : Nat := 64 * max (linesOf a n) 8

/-- R282: tokens of core i now, in 1/16 byte. -/
def State.tokens (s : State) (i : Nat) : Nat :=
  min ((s.core i).tau + s.dmaRate i * (s.coreCycle i - (s.core i).tauAt)) (s.dmaDepth i)

/-- R282: an owner's write of LC_DMA_REG. -/
def State.regulatorWrite (s : State) (i v : Nat) : State :=
  let t := s.tokens i
  let s := s.setFld F.LC_DMA_REG_depth i (getBits v 24 8)
  let s := s.setFld F.LC_DMA_REG_rate i (getBits v 0 12)
  s.modCore i fun x => { x with tau := min t (s.dmaDepth i), tauAt := s.coreCycle i }

/-- R282: a piece is charged. -/
def State.charged (s : State) (i : Nat) (x : Xfer) (p : Bool × Nat × Nat × Nat) : Bool :=
  if p.2.1 = spHost then true
  else if p.2.1 = spDev then
    let t := s.translatePiece i x spDev p.2.2.1 p.1
    t.1 != 0 || (s.pinOf t.2).isNone
  else false

/-- R280: the most slots of queue q. -/
def State.maxOut (s : State) (i q : Nat) : Nat := clampN (s.fld F.LC_DMAQ_CFG_max_out (16 * i + q)) 1 1024

/-- R280: slots that the engine of core i holds. -/
def State.engineOut (s : State) (i : Nat) : Nat := ((List.range 16).map fun q => s.regN .LC_DMAQ_OUT (16 * i + q)).sum

/-- R283: the transfer of queue q with a row to issue, and its place: the first whose rows have not all issued. -/
def State.issuing (s : State) (i q : Nat) : Option (Nat × Xfer) :=
  let l := s.dmaQ i q
  (((List.range l.length).zip l).find? fun e => decide (e.2.issued < e.2.total))

/-- R283: the piece that queue q would issue next; none for a row with no memory side. -/
def Xfer.nextPiece (x : Xfer) : Option (Bool × Nat × Nat × Nat) := (x.rowPieces x.issued)[x.pieces]?

/-- R283: queue q may issue in a direction. -/
def State.eligible (s : State) (i q : Nat) (write : Bool) : Bool :=
  match s.issuing i q with
  | none => false
  | some (_, x) =>
    let ready := (match x.launch with | some l => decide (l ≤ s.now) | none => true) &&
      decide (s.regN .LC_DMAQ_OUT (16 * i + q) < s.maxOut i q) && decide (s.engineOut i < 1024) &&
      !s.flag F.LC_DMAQ_STATUS_faulted (16 * i + q)
    match x.nextPiece with
    | none => ready && write
    | some p => ready && p.1 == write &&
        (x.lines != 0 || !s.charged i x p || decide (pieceCost p.2.2.1 p.2.2.2 * 16 ≤ s.tokens i))

/-- R283: the key of queue q. -/
def State.dmaKey (s : State) (i q : Nat) : Int :=
  if q / 2 = 6 then 2 ^ 64 - 1
  else if q / 2 = 7 then (((s.issuing i q).map fun e => e.2.placed).getD 0 : Nat)
  else match (s.core i).bound with
    | some b => (b.deadline : Int) - 16000 * s.fld F.LC_DMAQ_CFG_lead (16 * i + q)
    | none => 2 ^ 64 - 1

/-- R286, R291: the function on whose behalf a transfer of core i runs. -/
def State.xferFn (s : State) (i : Nat) (x : Xfer) : Nat := x.pages.elim (s.userFn i) (·.1)

/-- R273, R284, R299: on whose behalf a transfer of queue q reaches the hold cache. -/
def State.dmaWho (s : State) (i q : Nat) (x : Xfer) : MemWho :=
  { agent := s.xferFn i x, noAlloc := x.d.noAlloc, key := s.dmaKey i q, core := i, stripe := decide (q < 12) && (s.core i).bound.isSome }

/-- R283: queue q is far enough ahead of its consumer. -/
def State.heldBack (s : State) (i q : Nat) : Bool :=
  let m := s.fld F.LC_DMAQ_CFG_ahead_max (16 * i + q)
  m != 0 && decide ((m : Int) ≤ (s.regN .LC_DMAQ_ROWS (16 * i + q) : Int) - (s.core i).awaited.get q)

/-- R283: the winner in a direction: the eligible queue with the least (held, key, number). -/
def State.dmaWinner (s : State) (i : Nat) (write : Bool) : Option Nat :=
  ((List.range 16).filter fun q => s.eligible i q write).foldl (fun (b : Option Nat) q =>
    match b with
    | none => some q
    | some w =>
      if s.heldBack i w != s.heldBack i q then (if s.heldBack i w then some q else b)
      else if s.dmaKey i q < s.dmaKey i w then some q else b) none

/-- R280: lines of a row. -/
def Xfer.rowLines (x : Xfer) (r : Nat) : Nat := ((x.rowPieces r).map fun p => linesOf p.2.2.1 p.2.2.2).sum

/-- R453: the bytes of a row of core i count: read from memory or the host, and written to them or to a peer. -/
def State.countBytes (s : State) (i : Nat) (x : Xfer) : State :=
  let s := if x.d.srcSp = spHost then s.obsAdd 1665 x.d.cnt0 else s
  let s := if x.d.srcSp = spSpad then s else s.obsAdd (1568 + i) x.d.cnt0
  if x.d.dstSp = spSpad ∨ x.d.dstSp = spShape then s else s.obsAdd (1584 + i) x.d.cnt0

/-- R277: row r of a transfer is issued and not yet delivered. -/
def Xfer.awaits (x : Xfer) (r : Nat) : Bool :=
  decide (r < x.issued) && decide (x.rows ≤ r) && !x.early.any (fun e => e.1 == r) && !x.unacked.any (fun e => e.1 == r)

/-- R280: slots that rows f onward hold, a row in progress included. -/
def Xfer.slotsFrom (x : Xfer) (f : Nat) : Nat :=
  ((List.range (x.issued - f)).map fun j => if x.awaits (f + j) then x.rowLines (f + j) else 0).sum +
  (((x.rowPieces x.issued).take x.pieces).map fun p => linesOf p.2.2.1 p.2.2.2).sum + x.lines

/-- R287: a fault record is written for row f of transfer k of a queue. What rows f onward still hold of its slots comes back. -/
def State.dmaFault (s : State) (i q k f : Nat) (x : Xfer) (w : Nat × Nat × Nat) : State :=
  let n := 16 * i + q
  let c := x.coord f
  let s := s.setRegN .LC_DMAF_INFO n (2 ^ 31 + w.1 * 2 ^ 28 + w.2.1 * 2 ^ 27 + min 255 x.resumes * 2 ^ 16 + x.desc % 1024)
  let s := s.setRegN .LC_DMAF_COORD n (c.2.1 % 65536 * 2 ^ 16 + c.1 % 65536)
  let s := s.setRegN .LC_DMAF_COORD3 n (c.2.2 % 65536)
  let s := (s.setPair .LC_DMAF_ADDR_LO .LC_DMAF_ADDR_HI n w.2.2).setRegN .LC_DMAF_CRC n x.crc
  let s := (s.setFld F.LC_DMAQ_STATUS_faulted n 1).bump .LC_CNT_DMA_FAULT i clsDma (srcCore i) 1 (s.queueSeq i q)
  let s := if s.sealDenied i x w then s.bump .SEC_CNT_SEALED_DENY 0 clsSec (srcBlock 0x0010) else s
  let s := s.setRegN .LC_DMAQ_OUT n (s.regN .LC_DMAQ_OUT n - x.slotsFrom f)
  let wait := max 1 (s.fld F.DMA_FAULT_CFG_wait_us) * 1000
  s.modXfer i q k fun x => { x with issued := f, pieces := 0, lines := 0, faultAt := some s.now, faultWait := wait, notified := false }

/-- R261: a write that carries a token is dropped and counted, where the share's generation has risen since. -/
def State.staleWrite (s : State) (i : Nat) (x : Xfer) : Bool :=
  x.token.any fun t => decide (t.2.2 < (s.counter (s.groupOf i) t.1).gens.get t.2.1)

/-- R261: the count of a dropped write. -/
def State.countStale (s : State) (i : Nat) (x : Xfer) : State :=
  match x.token with
  | some t => s.bump .HLD_WC_CNT_STALE_WR (32 * s.groupOf i + t.1) clsCore (srcCore (s.groupOf i)) 1 (s.boundSeq i)
  | none => s

/-- R279: the 4 bytes of the CRC are stored. -/
def State.storeCrc (s : State) (i q : Nat) (x : Xfer) : State :=
  let bs := leBytes 4 (if x.total = 0 then 0 else Nat.xor x.crc 0xFFFFFFFF)
  if !x.d.crc || x.status == 1 then s
  else if x.d.crcSp = spSpad then
    s.modCore i fun y => y.putSpad slDI (s.coreCycle i) (x.d.crcAddr, 4) (memWrites y.spad x.d.crcAddr bs)
  else if s.staleWrite i x then s.countStale i x
  else s.memW (s.dmaWho i q x) (s.translatePiece i x spDev x.d.crcAddr true).2 bs

/-- R278, R294: the head transfer of queue q completes. -/
def State.completeXfer (s : State) (i q : Nat) : State :=
  match s.dmaQ i q with
  | [] => s
  | x :: rest =>
    let k := 16 * i + q
    let s := (s.storeCrc i q x).setDmaQ i q rest
    let s := s.setFld F.LC_DMAQ_STATUS_done k ((s.fld F.LC_DMAQ_STATUS_done k + 1) % 65536)
    let s := s.setFld F.LC_DMAQ_STATUS_last k x.status
    let s := if rest.isEmpty then s.setRegN .LC_DMAQ_OUT k 0 else s
    if x.status = 0 then s
    else
      let s := s.bump (if x.status = 1 then .LC_CNT_DMA_POISON else if x.status = 2 then .LC_CNT_DMA_POISON_DATA else .LC_CNT_DMA_CLOSED)
        i clsDma (srcCore i) 1 (s.queueSeq i q)
      if x.status ≤ 2 then s.poisonSix i q else s

/-- R275, R278, R286: transfers at the head of queue q with every row delivered complete, in order; one whose CRC cannot be
stored faults. -/
def State.settleQueue (s : State) (i q : Nat) : Nat → State
  | 0 => s
  | k + 1 =>
    match s.dmaQ i q with
    | x :: _ =>
      if x.total ≤ x.rows ∧ x.faultAt.isNone then
        match s.crcFault i x with
        | some f => s.dmaFault i q 0 x.total x f
        | none => (s.completeXfer i q).settleQueue i q k
      else s
    | [] => s

/-- R170, R173, R187: arrivals, and waits on rows and transfers, of core i end where they are satisfied. -/
def State.settle (s : State) (i q : Nat) : State := (((s.settleQueue i q 17).settleArrivals i).wakeOwn i).wakeRows i

/-- R169: the DMA engine may start instruction x now: two cycles after its issue and the cycle after the previous one. -/
def State.dmaStarts (s : State) (i : Nat) (x : Xfer) : Bool :=
  decide (x.at_ + 2 ≤ s.coreCycle i) && decide ((s.core i).dDone < s.coreCycle i)

/-- R169, R271: the engine places the next transfer in its DMA queue, once that has room. -/
def State.transferPlace (s : State) (i : Nat) : State :=
  match (s.core i).dq with
  | [] => s
  | x :: rest =>
    if (s.dmaQ i x.queue).length < 16 ∧ s.coreState i ≠ 4 ∧ s.dmaStarts i x then
      let s := s.modCore i fun y => { y with dq := rest, dDone := s.coreCycle i }
      ((s.setDmaQ i x.queue (s.dmaQ i x.queue ++ [{ x with placed := s.now }])).settle i x.queue).wakeFull i eDma
    else s

/-- R283, R298: queue q issues its next piece, or continues the piece in progress, within the slots it may hold. A read of
device memory reaches its slices. -/
def State.issuePiece (s : State) (i q k : Nat) (x : Xfer) : State :=
  match x.nextPiece with
  | none => s.modXfer i q k fun x => { x with issued := x.issued + 1, pieces := 0, lines := 0 }
  | some p =>
    let n := 16 * i + q
    let need := linesOf p.2.2.1 p.2.2.2 - x.lines
    let room := min (s.maxOut i q - s.regN .LC_DMAQ_OUT n) (1024 - s.engineOut i)
    let now := min need room
    let s := if x.lines = 0 ∧ s.charged i x p then
        s.modCore i fun y => { y with tau := s.tokens i - 16 * pieceCost p.2.2.1 p.2.2.2, tauAt := s.coreCycle i }
      else s
    let s := if x.lines = 0 ∧ p.2.1 = spDev ∧ p.1 = false then
        s.holdRun (s.dmaWho i q x) false (s.translatePiece i x spDev p.2.2.1 false).2 p.2.2.2
      else s
    let s := s.setRegN .LC_DMAQ_OUT n (s.regN .LC_DMAQ_OUT n + now)
    if now < need then s.modXfer i q k fun x => { x with lines := x.lines + now }
    else if x.pieces + 1 < (x.rowPieces x.issued).length then s.modXfer i q k fun x => { x with pieces := x.pieces + 1, lines := 0 }
    else s.modXfer i q k fun x => { x with issued := x.issued + 1, pieces := 0, lines := 0 }

/-- R280: transactions whose data or acceptance has returned give back their slots. -/
def State.returnSlots (s : State) (i : Nat) (l : List (Nat × Nat)) : State :=
  l.foldl (fun s r =>
    let n := 16 * i + r.1 % 16
    let k := min r.2 (s.regN .LC_DMAQ_OUT n)
    (s.setRegN .LC_DMAQ_OUT n (s.regN .LC_DMAQ_OUT n - k)).modCore i fun y => { y with returned := y.returned.modify (r.1 % 16) (· + k) }) s

/-- R283, R286: the winner of a direction translates a row that it begins, and issues its next piece. -/
def State.pieceIssue (s : State) (i : Nat) (write : Bool) (returned : List (Nat × Nat)) : State :=
  let s := s.returnSlots i returned
  match s.dmaWinner i write with
  | none => s
  | some q =>
    match s.issuing i q with
    | none => s
    | some (k, x) =>
      if x.pieces = 0 ∧ x.lines = 0 then
        match s.rowFault i x x.issued with
        | some f => s.dmaFault i q k x.issued x f
        | none => s.issuePiece i q k x
      else s.issuePiece i q k x

/-! ### Delivery (R276, R277, R279, R285, R292) -/

/-- R286, R291: an access through the page tables, in 4 KiB chunks: the physical runs. -/
def State.physRuns (s : State) (i : Nat) (x : Xfer) (sp va n : Nat) : List (Nat × Nat) :=
  let f := s.fn (s.userFn i)
  let t := x.pages.elim (f.dev, f.host) (·.2)
  let ps := if sp = spDev then t.1 else t.2
  (cutPieces va n).filterMap fun p => (translate ps p.1).map fun a => (a, p.2)

/-- Splits bytes over runs. -/
def splitRuns : List (Nat × Nat) → List Byte → List (Nat × List Byte)
  | [], _ => []
  | (a, n) :: t, bs => (a, bs.take n) :: splitRuns t (bs.drop n)

/-- R421: the packets of a row to a peer: 2,048 bytes each at most. -/
def peerChunks : Nat → Nat → List Byte → List (Nat × List Byte)
  | 0, _, _ => []
  | k + 1, off, bs => if bs.isEmpty then [] else (off, bs.take 2048) :: peerChunks k (off + 2048) (bs.drop 2048)

/-- R421: info word of a PEER_WR. -/
def peerInfo (off w i q : Nat) (ack : Bool) : Nat := off % 2 ^ 32 + w * 2 ^ 32 + i * 2 ^ 40 + q * 2 ^ 44 + b2n ack * 2 ^ 48

/-- R249: shape word k of core i is written. -/
def State.setShape (s : State) (i k v : Nat) : State :=
  let old := s.shapeSeen i k
  (s.modCore i fun x => { x with shapeOld := x.shapeOld.set k (some (s.aclk, old)) }).setRegN .LC_SHAPE_WORD (64 * i + k) v

/-- R324: an address lies in the temporal state of the camera whose training stripe core i runs. -/
def State.trainState (s : State) (i : Nat) (x : Xfer) (a : Nat) : Bool :=
  (s.core i).bound.any fun b =>
    let base := s.pair .CAM_TSTATE_BASE_LO .CAM_TSTATE_BASE_HI b.cam / 4096 * 4096
    b.training && decide (x.ctx < 6) && decide (base ≤ a) && decide (a < base + 2 * s.tstateBytes b.cam)

/-- R276: a row's bytes reach its destination. -/
def State.putRow (s : State) (i q : Nat) (x : Xfer) (r : Nat) (bs : List Byte) : State :=
  let a := x.dstAt r
  if x.d.dstSp = spSpad then
    s.modCore i fun y => y.putSpad slDI (s.coreCycle i) (a, bs.length) (memWrites y.spad a bs)
  else if x.d.dstSp = spDev then
    if s.staleWrite i x then s.countStale i x
    else (splitRuns (s.physRuns i x spDev a x.d.cnt0) bs).foldl (fun s w =>
        if s.trainState i x w.1 then s else s.memW (s.dmaWho i q x) w.1 w.2) s
  else if x.d.dstSp = spHost then
    let s := (splitRuns (s.physRuns i x spHost a x.d.cnt0) bs).foldl (fun s w => s.hostWrite (s.xferFn i x) w.1 w.2) s
    if x.d.barrier then s.barrierRead (s.xferFn i x) else s
  else if x.d.dstSp = spShape then
    (List.range (bs.length / 4)).foldl (fun s k => s.setShape i ((a / 4 + k) % 64) (leAt bs (4 * k) 4)) s
  else
    (peerChunks (bs.length + 1) (a % 2 ^ 32) bs).foldl (fun s c =>
      s.emit (.chainPkt (getBits a 40 3) 3 (getBits a 32 4) (peerInfo c.1 (getBits a 32 8) i q x.d.barrier) c.2)) s

/-- R277, R279: row r of a transfer has been delivered: rows with no gap are counted and enter the CRC in row order. -/
def Xfer.fold (x : Xfer) : Nat → Xfer
  | 0 => x
  | k + 1 =>
    match x.early.find? fun e => e.1 == x.rows with
    | some e => ({ x with rows := x.rows + 1, early := x.early.filter (fun f => f.1 != e.1), crc := e.2.foldl crcByte x.crc } : Xfer).fold k
    | none => x

/-- R277: rows delivered before transfer k of a queue have all been: LC_DMAQ_ROWS advances over the run with no gap. -/
def gapless : List Xfer → Nat
  | [] => 0
  | x :: t => if x.total ≤ x.rows then x.rows + gapless t else x.rows

/-- R277: after a delivery in queue q, which had `before` rows counted among its transfers. -/
def State.countRows (s : State) (i q before : Nat) : State :=
  let n := 16 * i + q
  s.setRegN .LC_DMAQ_ROWS n (s.regN .LC_DMAQ_ROWS n + (gapless (s.dmaQ i q) - before))

/-- R277, R287: a row of transfer k counts as delivered; while a fault record is pending, its CRC follows. -/
def State.rowCounts (s : State) (i q k r : Nat) (bs : List Byte) : State :=
  let before := gapless (s.dmaQ i q)
  let s := s.modXfer i q k fun x => ({ x with early := (r, bs) :: x.early } : Xfer).fold (x.early.length + 1)
  let s := match (s.dmaQ i q)[k]? with
    | some x => if x.faultAt.isSome then s.setRegN .LC_DMAF_CRC (16 * i + q) x.crc else s
    | none => s
  (s.countRows i q before).settle i q

/-! ### The head set of a frame (R318, R331) -/

def State.camModel (s : State) (n : Nat) : Option ModelS := (s.cam n).model.bind fun h => s.boot.models.get h
def State.headOf (s : State) (n : Nat) : Option HeadDecl := (s.camModel n).bind fun m => m.img.head

/-- R318: bytes of a head slot. -/
def headBytes : Nat := 0x60000

/-- R318: the bytes of head set h: 0 base, 1 slot A, 2 slot B. -/
def State.headSet (s : State) (n h : Nat) : List Byte :=
  if h = 1 then (s.adaptOf n).slotA else if h = 2 then (s.adaptOf n).slotB
  else match s.headOf n with | some d => d.base | none => []

/-- R352: the firmware pool, as (address, bytes). -/
def State.poolRange (s : State) : Nat × Nat := match s.boot.pool with | some p => (p.1 * 2 ^ 21, p.2 * 2 ^ 21) | none => (0, 0)

/-- R237, R331: n bytes of device memory at a, as a transfer made for a frame reads them: where the base set of its graph lies,
the set that is bound to the frame. -/
def State.headR (s : State) (x : Xfer) (a n : Nat) : List Byte :=
  match x.frame.bind fun f => (s.headOf f.1).map fun d => (f, d) with
  | some (f, d) =>
    let h := (s.frame f.1 f.2).head
    let base := s.poolRange.1 + ((s.camModel f.1).elim 0 (·.img.weightBase)) + d.at_
    if h = 0 ∨ a + n ≤ base ∨ base + headBytes ≤ a then s.memR a n
    else ((s.memR a n).zip (List.range n)).map fun e =>
      if base ≤ a + e.2 ∧ a + e.2 < base + headBytes then (s.headSet f.1 h).getD (a + e.2 - base) 0 else e.1
  | none => s.memR a n

/-- R145: a stage program of the temporal stage that was given no buffer to read reads zeros from the one it would have read. -/
def State.tstateGone (s : State) (i : Nat) (x : Xfer) (a : Nat) : Bool :=
  match (s.core i).bound with
  | some b =>
    let size := s.tstateBytes b.cam
    let at_ := s.pair .CAM_TSTATE_BASE_LO .CAM_TSTATE_BASE_HI b.cam / 4096 * 4096 + (b.seq + 1) % 2 * size
    decide (x.ctx < 6) && b.temporal.any (fun t => t.2.isNone) && decide (at_ ≤ a) && decide (a < at_ + size)
  | none => false

/-- R314: row r of a transfer reads a poisoned block. -/
def State.rowPoison (s : State) (i : Nat) (x : Xfer) (r : Nat) : Bool :=
  x.d.srcSp == spDev && (s.physRuns i x spDev (x.srcAt r) x.d.cnt0).any fun w => s.poisonedRange w.1 w.2

/-- R192: ring data holds the DI slots of core i. -/
def State.ringHolds (s : State) (i : Nat) : Bool :=
  (List.range 16).any fun j => (s.core j).sends.any fun x => x.targets.contains i && x.complete.any fun t => decide (s.coreCycle j < t)

/-- R192: a row that goes to the scratchpad of core i waits in the DMA engine while ring data holds DI. -/
def State.rowHeld (s : State) (i : Nat) (x : Xfer) : Bool := x.d.dstSp == spSpad && s.ringHolds i

/-- The bytes of row r of a transfer; host carries what a HOST source returned. -/
def State.rowData (s : State) (i : Nat) (x : Xfer) (r : Nat) (host : List Byte) : List Byte :=
  let n := x.d.cnt0
  if x.d.srcSp = spSpad then memReads (s.core i).spad (x.srcAt r) n
  else if x.d.srcSp = spDev then
    ((s.physRuns i x spDev (x.srcAt r) n).map fun w => if s.tstateGone i x w.1 || s.trainState i x w.1 then List.replicate w.2 0 else s.headR x w.1 w.2).flatten
  else bytesAt host 0 n

/-- R280: those slots of row r come back that have not come back before. -/
def State.rowSlots (s : State) (i q : Nat) (x : Xfer) (r : Nat) : State :=
  let out := s.regN .LC_DMAQ_OUT (16 * i + q)
  let back := min (x.rowLines r) ((s.core i).returned.get q)
  let s := s.modCore i fun y => { y with returned := y.returned.set q (y.returned.get q - back) }
  s.setRegN .LC_DMAQ_OUT (16 * i + q) (out - min out (x.rowLines r - back))

/-- R291: row r of the j-th transfer of queue q that is in flight after its queue was emptied is delivered. A HOST read
fails while the function's Bus Master Enable is 0 (R341), and there is no record left to write. -/
def State.lateRow (s : State) (i q j r : Nat) (host : List Byte) : State :=
  match ((s.core i).flying.filter fun e => e.1 == q)[j]? with
  | none => s
  | some e =>
    let x := e.2
    if !x.awaits r || s.rowHeld i x then s
    else
      let dead := x.d.srcSp = spHost ∧ (s.fn (s.xferFn i x)).bme = false
      let s := if s.rowPoison i x r then s.markFor x markMemPoison else s
      let x' := ({ x with early := (r, []) :: x.early } : Xfer)
      let bs := s.rowData i x r host
      let s := s.modCore i fun y => { y with flying := (y.flying.erase e) ++ (if x'.inFlight then [(q, x')] else []) }
      let s := s.rowSlots i q x r
      if dead then s.aerError (s.xferFn i x) else (s.countBytes i x).putRow i q x r bs

/-- R420: the position that a transfer with a PEER destination writes to. -/
def Xfer.toPeer (x : Xfer) : Option Nat := if x.d.dstSp = spPeer then some (getBits (x.dstAt 0) 40 3) else none

/-- R276, R280: the zero-length read of row r of transfer k completes, and gives back its slot: the row is delivered. -/
def State.barrierReturned (s : State) (i q k r : Nat) : State :=
  let bs := (((s.dmaQ i q)[k]?).bind fun x => (x.unacked.find? fun e => e.1 == r).map fun e => e.2.2).getD []
  let s := s.modXfer i q k fun x => { x with unacked := x.unacked.filter fun e => e.1 != r }
  (s.setRegN .LC_DMAQ_OUT (16 * i + q) (s.regN .LC_DMAQ_OUT (16 * i + q) - 1)).rowCounts i q k r bs

/-- R276 to R279, R292, R424: row r of transfer k of queue q is delivered; of a row to the host with BARRIER, whose writes went
out before, the zero-length read completes; host carries what a HOST source returned. A HOST read
fails while the function's Bus Master Enable is 0, and a zero-length read counts as completed (R341). A k beyond the queue's transfers counts those in flight after the
queue was emptied (R291). -/
def State.rowDelivered (s : State) (i q k r : Nat) (host : List Byte) : State :=
  match (s.dmaQ i q)[k]? with
  | none => s.lateRow i q (k - (s.dmaQ i q).length) r host
  | some x =>
    if x.d.dstSp = spHost ∧ x.unacked.any (fun e => e.1 == r) then s.barrierReturned i q k r
    else if !x.awaits r || s.rowHeld i x then s
    else if x.d.srcSp = spHost ∧ (s.fn (s.userFn i)).bme = false then
      if x.faultAt.isNone then (s.dmaFault i q k r x (cHostError, 0, x.srcAt r)).aerError (s.userFn i) else s
    else
      let bs := s.rowData i x r host
      let s := if s.rowPoison i x r then
          (s.markFor x markMemPoison).modXfer i q k fun x => { x with status := if x.status = 0 then 2 else x.status }
        else s
      let s := (s.rowSlots i q x r).countBytes i x
      if x.toPeer.any fun t => !bit (s.fld F.CHN_STATUS_present) t then
        (s.modXfer i q k fun x => { x with status := if x.status = 0 then 3 else x.status }).rowCounts i q k r bs
      else
      let s := s.putRow i q x r bs
      if x.d.dstSp = spPeer ∧ x.d.barrier then
        s.modXfer i q k fun x => { x with unacked := x.unacked ++ [(r, ceilDiv x.d.cnt0 2048, bs)] }
      else if x.d.dstSp = spHost ∧ x.d.barrier ∧ (s.fn (s.xferFn i x)).bme then
        (s.setRegN .LC_DMAQ_OUT (16 * i + q) (s.regN .LC_DMAQ_OUT (16 * i + q) + 1)).modXfer i q k fun x =>
          { x with unacked := x.unacked ++ [(r, 1, bs)] }
      else s.rowCounts i q k r bs

/-! ### Faults (R287 to R291) -/

/-- The transfer of queue q with a pending fault record. -/
def State.faulted (s : State) (i q : Nat) : Option (Nat × Xfer) :=
  let l := s.dmaQ i q
  ((List.range l.length).zip l).find? fun e => e.2.faultAt.isSome

/-- R287: the record of queue q is cleared. -/
def State.clearRecord (s : State) (i q : Nat) : State :=
  (s.setFld F.LC_DMAF_INFO_valid (16 * i + q) 0).setFld F.LC_DMAQ_STATUS_faulted (16 * i + q) 0

/-- R288, R289: the holder may still resume transfer x of queue q: a page was not present, this is not the sixteenth
failure, and the wait has not run out. -/
def State.resumable (s : State) (i q : Nat) (x : Xfer) : Bool :=
  s.fld F.LC_DMAF_INFO_cause (16 * i + q) == cNotPresent && decide (x.resumes < 15) &&
  x.faultAt.any fun t => decide (s.now ≤ t + x.faultWait)

/-- R289: a resume: the engine goes on at the faulting row. -/
def State.resumeXfer (s : State) (i q k : Nat) : State :=
  let s := s.modXfer i q k fun x => { x with faultAt := none, resumes := x.resumes + 1 }
  (s.clearRecord i q).bump .LC_CNT_DMA_RESUME i clsDma (srcCore i) 1 (s.queueSeq i q)

/-- R290: a transfer that its unresolved fault has poisoned: rows from the faulting one on count as delivered, and those
before it as they arrive. -/
def Xfer.poisoned (x : Xfer) : Xfer :=
  let f := x.issued
  let rest := (List.range (x.total - f)).map fun j => ((f + j, []) : Nat × List Byte)
  ({ x with faultAt := none, issued := x.total, early := x.early.filter (fun e => decide (e.1 < f)) ++ rest
            unacked := x.unacked.filter (fun e => decide (e.1 < f)), status := 1 } : Xfer).fold x.total

/-- R290: an unresolved fault ends the transfer with a poisoned completion. -/
def State.poisonXfer (s : State) (i q k : Nat) (x : Xfer) (cause : Nat) : State :=
  let before := gapless (s.dmaQ i q)
  let zeros := List.replicate x.d.cnt0 (0 : Byte)
  let s := if x.d.dstSp = spSpad then
      (List.range (x.total - x.issued)).foldl (fun s j => s.modCore i fun y =>
        y.putSpad slDI (s.coreCycle i) (x.dstAt (x.issued + j), zeros.length) (memWrites y.spad (x.dstAt (x.issued + j)) zeros)) s
    else s
  let s := (s.clearRecord i q).markFor x markDmaFaulted
  let s := s.logEvent clsDma (srcCore i) cause (s.queueSeq i q)
  let s := s.modXfer i q k Xfer.poisoned
  (s.countRows i q before).settle i q

/-- R288: firmware walks the tables again: it resumes the transfer, tells the holder of the space, or declares the fault
unresolved. -/
def State.faultWalk (s : State) (i q : Nat) : State :=
  match s.faulted i q with
  | none => s
  | some (k, x) =>
    let cause := s.fld F.LC_DMAF_INFO_cause (16 * i + q)
    if (cause = cNotPresent ∨ cause = cWriteProtect) ∧ x.resumes < 15 then
      match s.rowFault i x x.issued with
      | none => s.resumeXfer i q k
      | some _ =>
        if cause = cNotPresent then
          if x.notified then s
          else
            (s.event (s.userFn i) 0x0001 (i + q * 2 ^ 8 + cause * 2 ^ 16) (s.pair .LC_DMAF_ADDR_LO .LC_DMAF_ADDR_HI (16 * i + q))).modXfer i q k
              fun x => { x with notified := true }
        else s.poisonXfer i q k x cause
    else s.poisonXfer i q k x cause

/-- R288: no resume has come by the record's stamp plus the wait. -/
def State.faultExpiry (s : State) (i q : Nat) : State :=
  match s.faulted i q with
  | none => s
  | some (k, x) =>
    if x.faultAt.any fun t => decide (t + x.faultWait < s.now) then
      s.poisonXfer i q k x (s.fld F.LC_DMAF_INFO_cause (16 * i + q))
    else s

/-- R286, R341: a HOST read of row r of transfer k of queue q completes with an error, at one of its pieces. -/
def State.hostReadError (s : State) (i q k r piece : Nat) : State :=
  match (s.dmaQ i q)[k]? with
  | none => s
  | some x =>
    if x.d.srcSp = spHost ∧ x.awaits r ∧ x.faultAt.isNone then
      let at_ := ((cutPieces (x.srcAt r) x.d.cnt0).getD piece (x.srcAt r, 0)).1
      (s.dmaFault i q k r x (cHostError, 0, at_)).aerError (s.userFn i)
    else s

end Sys2Proof.Machine
end

