-- ==== Sys2Proof/Machine/Retouch.lean ====
section
/-! DEFINITION. Retouch and the Reverse Pipeline (chapter 13). -/
namespace Sys2Proof.Machine

/-! ### The head of a graph (R317, R318) -/

/-- Splits a list by counts. -/
def splitBy : List Nat → List Nat → List (List Nat)
  | [], _ => []
  | n :: ns, l => l.take n :: splitBy ns (l.drop n)

/-- R317: the values of each output channel, from a flat list in the order of the head descriptor. -/
def headByChannel (d : HeadDecl) (l : List Nat) : List (List Nat) := splitBy (d.channels.map (·.count)) l

/-! ### Exact quotients -/

/-- An exact non-negative value as a fraction; none for NaN and infinities. -/
def Num.frac : Num → Option Frac
  | .num _ m e => if 0 ≤ e then some (m * 2 ^ e.toNat, 1) else some (m, 2 ^ (-e).toNat)
  | _ => none

/-- rne of a · 2^k / b for an FP32 value's magnitude: numerator and denominator of |x|. -/
def absFrac (x : Nat) : Frac := ((ofFp32 x).frac).getD (0, 1)

/-- The sign of FP32 bits. -/
def fNeg (x : Nat) : Bool := bit x 31

/-- FP32 bits of a fraction, rounded to nearest even. -/
def fracFp32 (f : Frac) : Nat :=
  if f.1 = 0 ∨ f.2 = 0 then 0
  else
    let q := f.1 * 2 ^ 200 / f.2
    let m := 2 * q + b2n (f.1 * 2 ^ 200 % f.2 != 0)
    fp32Of (.num false m (-201))

/-! ### Encoding a set (R211, R212, R328) -/

/-- R328: the greatest magnitude among the weights of a channel, as FP32 bits. -/
def maxAbs (ws : List Nat) : Nat := ws.foldl (fun m w => if fLt m (w % 2 ^ 31) then w % 2 ^ 31 else m) 0

/-- R328: the integer code of a weight, with scale s ≠ 0. -/
def headCode (d : HeadDecl) (s w : Nat) : Nat :=
  if d.int8 then
    let a := absFrac w
    let b := absFrac s
    let v : Int := rneDivN (127 * a.1 * b.2) (max 1 (a.2 * b.1))
    ofSigned 8 (clampI (if fNeg w then -v else v) (-127) 127)
  else (toBg4 (ofFp32 w) (ofFp32 s)).1

/-- The integer weight of a code. -/
def headCodeVal (d : HeadDecl) (c : Nat) : Int := if d.int8 then toSigned 8 c else bg4Grid c

/-- R211, R328: a code decoded with scale s, as FP32 bits. -/
def headDecode (d : HeadDecl) (s c : Nat) : Nat :=
  if d.int8 then
    let v := toSigned 8 c
    let b := absFrac s
    let r := fracFp32 (v.natAbs * b.1, 127 * b.2)
    if v < 0 then r + 2 ^ 31 else r
  else fp32Of (ofBg4 c (ofFp32 s))

/-- R328: shift and mult of a positive factor t: the largest shift with rne(t · 2^shift) ≤ 65,535. -/
def entryScale (t : Frac) : Nat × Nat :=
  let r := fun (k : Nat) => rneDivN (t.1 * 2 ^ k) (max 1 t.2)
  let k := ((List.range 64).reverse.find? fun k => decide (r k ≤ 65535)).getD 0
  (min (r k) 65535, k)

/-- R185: a rescale entry's 8 bytes as a number. -/
def packEntry (bias : Int) (mult shift : Nat) : Nat := ofSigned 32 bias + mult % 65536 * 2 ^ 32 + shift % 64 * 2 ^ 48

/-- R229, R328: the rescale entry of a channel with scale s, its codes, and the Retake finer by 2^k0. A bias-only channel's bias
is the constant in output codes, which is what the entries of the others make of their bias. -/
def headEntry (d : HeadDecl) (c : HeadCh) (s : Nat) (codes : List Nat) (k0 : Nat) : Nat :=
  let one := if d.int8 then 127 else 128
  let b := absFrac c.beta.toNat
  let f := absFrac c.f.toNat
  if s = 0 then
    let v : Int := rneDivN (one * b.1 * f.1) (max 1 (b.2 * f.2))
    packEntry (if fNeg c.beta.toNat then -v else v) 0 0
  else
    let sc := absFrac s
    let e := entryScale (f.1 * sc.1, f.2 * sc.2 * 2 ^ k0)
    let q : Int := rneDivN (one * 2 ^ k0 * b.1 * sc.2) (max 1 (b.2 * sc.1))
    packEntry ((if fNeg c.beta.toNat then -q else q) - d.zpA * 2 ^ k0 * (codes.map (headCodeVal d)).foldl (· + ·) 0) e.1 e.2

/-- R201: codes packed as bytes: INT8, or two BG4 codes a byte, with the pad 0xF after an odd last one. -/
def packCodes (int8 : Bool) : Nat → List Nat → List Byte
  | 0, _ => []
  | k + 1, cs =>
    match cs with
    | [] => []
    | [a] => [BitVec.ofNat 8 (if int8 then a else a % 16 + 0xF0)]
    | a :: b :: t =>
      if int8 then BitVec.ofNat 8 a :: packCodes int8 k (b :: t) else BitVec.ofNat 8 (a % 16 + 16 * (b % 16)) :: packCodes int8 k t

/-- R211, R318, R328: the head slot made from masters. -/
def headEncode (d : HeadDecl) (masters : List Nat) : List Byte :=
  let chans := (d.channels.zip (headByChannel d masters)).map fun x =>
    let s := maxAbs x.2
    (x.1, s, if s = 0 then x.2.map (fun _ => if d.int8 then 0 else 7) else x.2.map (headCode d s))
  let codes := (chans.map fun x => x.2.2).flatten
  let ents := fun (k0 : Nat) => (chans.map fun x => leBytes 8 (headEntry d x.1 x.2.1 x.2.2 k0)).flatten
  bytesAt (packCodes d.int8 (codes.length + 1) codes) 0 0x10000 ++ bytesAt (ents 0) 0 0x2000 ++ bytesAt (ents d.k0) 0 0x2000 ++
    leBytes 0xC000 0 ++ bytesAt (Config.classFour codes) 0 0x40000

/-- R329: the weights of a head slot, decoded: codes with the scale that its entry's factor gives, t / f_n. -/
def headDecodeSlot (d : HeadDecl) (slot : List Byte) : List Nat :=
  ((List.range d.channels.length).map fun j =>
    let c := d.channels.getD j ⟨0, 0, 0, 0⟩
    let e := rescaleOf (leAt slot (0x10000 + 8 * j) 8)
    let f := absFrac c.f.toNat
    let s := fracFp32 (e.mult * f.2, 2 ^ e.shift * max 1 f.1)
    (List.range c.count).map fun i =>
      let x := c.first + i
      headDecode d s (if d.int8 then leAt slot x 1 else getBits (leAt slot (x / 2) 1) (4 * (x % 2)) 4)).flatten

/-! ### The sets of a camera (R318, R330, R331, R336) -/

/-- R330: some non-final frame is bound to head set h. -/
def State.headInUse (s : State) (n h : Nat) : Bool := (s.liveFrames n).any fun q => (s.frame n q).head == h

/-- R330: an adapted slot that may be written. -/
def State.freeHead (s : State) (n : Nat) : Option Nat :=
  [1, 2].find? fun h => (s.cam n).headNow != h && !s.headInUse n h

/-- R330, R336: head set h, with these bytes, is staged: it binds to the frames that take a number from now on, and the
masters are copied to the snapshot. -/
def State.stageHead (s : State) (n h : Nat) (slot : List Byte) : State :=
  let s := s.modAdapt n fun a => { a with
    slotA := if h = 1 then slot else a.slotA, slotB := if h = 2 then slot else a.slotB
    digests := a.digests.set h (Config.sm3 slot), snapshot := a.masters }
  s.modCam n fun c => { c with headStaged := some h }

/-- R337: CAM_ADAPT_STATUS as it reads. -/
def State.adaptStatus (s : State) (n : Nat) : Nat :=
  s.fld F.CAM_ADAPT_STATUS_state n + b2n (s.cam n).headStaged.isSome * 2 ^ 4 + (s.cam n).headNow % 4 * 2 ^ 8 +
  b2n (s.headInUse n 1) * 2 ^ 16 + b2n (s.headInUse n 2) * 2 ^ 17 + s.fld F.CAM_ADAPT_STATUS_cause n * 2 ^ 20

/-- R336: word j of CAM_ADAPT_DIGEST. -/
def State.adaptDigest (s : State) (n j : Nat) : Nat := leAt ((s.adaptOf n).digests.get (s.cam n).headNow) (4 * j) 4

/-! ### Start and stop (R319, R320, R332) -/

/-- Two ranges of addresses overlap. -/
def overlaps (a n b m : Nat) : Bool := decide (a < b + m) && decide (b < a + n)

/-- R319: work areas in use or not yet cleared, 6 MiB each. -/
def State.workAreas (s : State) : List Nat :=
  (s.adapt.filterMap fun e => e.2.area) ++ ((s.sec.clears.filter (·.work)).map (·.addr))

/-- Bytes of device memory (R303, R315). -/
def State.memBytes (s : State) : Nat := s.fld F.MEM_GEOM_gib * 2 ^ 30

/-- R352, R354: a range lies in memory granted to the owner: outside every tenant grant, the firmware pool and every work
area. -/
def State.ownerMemory (s : State) (a n : Nat) : Bool :=
  decide (a + n ≤ s.memBytes) && !overlaps a n s.poolRange.1 s.poolRange.2 &&
  !(s.fns.any fun e => decide (0 < e.1) && e.2.grants.any fun g => overlaps a n (g.1 * 2 ^ 21) (g.2 * 2 ^ 21)) &&
  !(s.workAreas.any fun w => overlaps a n w 0x600000)

/-- R319: of n bases, 2 MiB apart, from a on, those at which a work area can be reserved: owner memory that no page maps. -/
def State.areasFrom (s : State) : Nat → Nat → List Nat
  | 0, _ => []
  | n + 1, a =>
    if s.ownerMemory a 0x600000 && !((s.fn 0).dev.any fun p => overlaps a 0x600000 p.pa p.size) then
      a :: s.areasFrom n (a + 2 ^ 21)
    else s.areasFrom n (a + 2 ^ 21)

/-- R319: bases at which a work area can be reserved. -/
def State.areaBases (s : State) : List Nat := s.areasFrom (s.memBytes / 2 ^ 21) 0

/-- R336: the digest of a camera's base set, taken when its graph was loaded. -/
def State.baseDigest (s : State) (n : Nat) : List Byte := (s.camModel n).elim [] (·.headMeas)

/-- R335: the first frame that a set staged now binds: the next of a running stream, else frame 0 of the next one. -/
def State.firstBound (s : State) (n : Nat) : Nat := if s.stream n = 2 then s.regN .CAM_SEQ n else 0

/-- R319, R332, R334: Retouch begins on a camera, in a work area: masters from the head set in use, no pairs, no pause
cause but those that hold already. -/
def State.adaptBegin (s : State) (n : Nat) (d : HeadDecl) (area : Nat) : State :=
  let ms := headDecodeSlot d (s.headSet n (s.cam n).headNow)
  let s := s.modAdapt n fun x => { x with
    area := some area, masters := ms, mom := ms.map fun _ => 0, snapshot := ms, causes := 0, pairs := [], gate := []
    steps := 0, cand := none, reversePairs := 0, building := none, trained := [], lastPair := none, codes := []
    digests := x.digests.set 0 (s.baseDigest n), meas := (s.camModel n).elim [] (·.meas) }
  let s := (s.setFld F.CAM_ADAPT_STATUS_state n 1).setFld F.CAM_ADAPT_STATUS_cause n 0
  let s := if 1 ≤ s.govG then s.pauseAdapt n cGovernor else s
  if s.boot.sw.any (·.began.isSome) then s.pauseAdapt n cUpdate else s

/-- R320: Start. -/
def State.adaptStart (s : State) (n : Nat) (r : CmdRef) : State :=
  if s.fld F.CAM_ADAPT_STATUS_state n ≠ 0 then s.reply r stConflict
  else
    match s.headOf n with
    | none => s.reply r stBadParam
    | some d =>
      if s.areaBases.isEmpty then s.reply r stNoResource
      else
        let pick := s.takeFree
        (pick.2.adaptBegin n d (s.areaBases.getD (pick.1 % s.areaBases.length) 0)).reply r stOk

/-- R319, R320: Retouch ends: its work area is released and cleared. -/
def State.adaptEnd (s : State) (n : Nat) : State :=
  let s := match (s.adaptOf n).area with
    | some a => s.clearFor [{ addr := a, bytes := 0x600000, cmd := none, work := true, fn := (s.cam n).holder }]
    | none => s
  let s := (s.dropPairs n).modAdapt n fun x => { x with area := none, causes := 0, cand := none, masters := [], mom := [], snapshot := [] }
  (s.setFld F.CAM_ADAPT_STATUS_state n 0).setFld F.CAM_ADAPT_STATUS_cause n 0

/-- R320: Stop. -/
def State.adaptStop (s : State) (n : Nat) (r : CmdRef) : State :=
  if s.fld F.CAM_ADAPT_STATUS_state n = 0 then s.reply r stClosed else (s.adaptEnd n).reply r stOk

/-- R320: Pause. -/
def State.adaptPause (s : State) (n : Nat) (r : CmdRef) : State :=
  if s.fld F.CAM_ADAPT_STATUS_state n = 0 then s.reply r stClosed else (s.pauseAdapt n cHost).reply r stOk

/-- R320, R334: Resume clears the lowest cause that holds among HOST, FAULT, POISON and DRIFT. -/
def State.adaptResume (s : State) (n : Nat) (r : CmdRef) : State :=
  match [cHost, cFault, cPoison, cDrift].find? fun c => bit (s.adaptOf n).causes (c - 1) with
  | some c => (s.unpauseAdapt n c).reply r stOk
  | none => s.reply r stBadParam

/-- R320, R330: Revert stages the base set. -/
def State.adaptRevert (s : State) (n : Nat) (r : CmdRef) : State :=
  let s := s.modCam n fun c => { c with headStaged := some 0 }
  let s := s.modAdapt n fun a => { a with snapshot := a.masters }
  (s.audit n 0x4 (s.firstBound n) 0 0 0).reply r stOk

/-- R320, R324: Load references: 1 to 16 pictures, each (address, scale, seed). -/
def State.adaptRefs (s : State) (n : Nat) (refs : List (Nat × Nat × Nat)) (r : CmdRef) : State :=
  let bytes := 6 * s.width n * s.outH n
  if refs.all fun x => s.ownerMemory x.1 bytes then (s.modAdapt n fun a => { a with refs := refs }).reply r stOk
  else s.reply r stNoResource

/-- R320, R376: Export writes the head set bound to the latest frame to a host buffer. -/
def State.adaptExport (s : State) (n at_ : Nat) (r : CmdRef) : State :=
  if (s.camModel n).any fun m => m.encrypted && m.fn != 0 then s.reply r stDenied
  else (s.hostWrite r.fn at_ (bytesAt (s.headSet n (s.cam n).headNow) 0 headBytes)).reply r stOk

/-- R318, R320: a head set's layout agrees with the head descriptor: its zero ranges and the primary image's end. -/
def headFits (d : HeadDecl) (slot : List Byte) : Bool :=
  slot.length == headBytes && (slot.drop d.primary).take (0x10000 - d.primary) == List.replicate (0x10000 - d.primary) 0 &&
  (slot.drop 0x14000).take 0xC000 == List.replicate 0xC000 0

/-- R320, R330: Import writes a host's head set into a free slot and stages it. -/
def State.adaptImport (s : State) (n : Nat) (slot : List Byte) (r : CmdRef) : State :=
  match s.headOf n with
  | none => s.reply r stBadParam
  | some d =>
    if !headFits d slot then s.reply r stBadParam
    else
      match s.freeHead n with
      | some h => ((s.stageHead n h slot).audit n 0x5 (s.firstBound n) 0 0 0).reply r stOk
      | none => s.reply r stNoResource

/-- R332, R335: at the start of a stream: the set stays bound and Retouch goes on where the graph has the same measurement as
at the stop; otherwise the base set is bound, Retouch ends, and BASE_RESET is audited, with frame 0 the first frame bound. -/
def State.adaptAtStart (s : State) (n : Nat) : State :=
  if (s.camModel n).elim [] (·.meas) = (s.adaptOf n).meas then s
  else
    let was := !(s.adaptOf n).meas.isEmpty && ((s.headOf n).isSome || !((s.adaptOf n).digests.get 0).isEmpty)
    let s := if s.fld F.CAM_ADAPT_STATUS_state n ≠ 0 then s.adaptEnd n else s
    let s := s.modCam n fun c => { c with headNow := 0, headStaged := none }
    let s := s.modAdapt n fun a => { a with meas := (s.camModel n).elim [] (·.meas), digests := [(0, s.baseDigest n)] }
    if was then s.audit n 0x8 0 0 0 0 else s

/-! ### Pairs (R321 to R324) -/

/-- R337: frames a pair. -/
def State.pairDiv (s : State) (n : Nat) : Nat := max 2 (s.fld F.CAM_ADAPT_CFG_pair_div n)

/-- R321: frame q is drawn. -/
def State.drawn (s : State) (n q : Nat) : Bool := q % s.pairDiv n == 0 && decide (s.pairDiv n ≤ q)

/-- R321: window width, stripe and first column of the pair of frame q. -/
def State.pairWin (s : State) (n : Nat) : Nat := min 320 (s.width n)
def State.pairStripe (s : State) (n q : Nat) : Nat := q / s.pairDiv n % max 1 (s.stripes n)
def State.pairCol (s : State) (n q : Nat) : Nat :=
  let w := q / s.pairDiv n
  (w / max 1 (s.stripes n) * s.pairWin n) % (s.width n - s.pairWin n + 16) / 16 * 16

/-- R321: the pair of frame q is a reverse pair. -/
def State.reverseDue (s : State) (n q : Nat) : Bool :=
  let src := s.fld F.CAM_ADAPT_CFG_source n
  (src == 1 || (src == 2 && q / s.pairDiv n % 2 == 1)) && !(s.adaptOf n).refs.isEmpty

/-- R322: the stillness tests between frames q − 1 and q. -/
def State.still (s : State) (n q : Nat) : Bool :=
  let a := s.frame n (q - 1)
  let b := s.frame n q
  let ok := fun (f : FrameS) (k : Nat) => f.seq == k && (f.st == 2 || f.st == 3) && !bit f.mark markLinesFilled && !f.uncertain && !f.mismatch
  ok a (q - 1) && ok b q && a.set.e0 == b.set.e0 &&
  (List.range 192).all fun z =>
    let x := a.stats.get 0
    let y := b.stats.get 0
    !(x.zoneValid z && y.zoneValid z) || (List.range 4).all fun c =>
      let u := (x.mean z c).getD 0
      let v := (y.mean z c).getD 0
      decide (max u v - min u v ≤ s.fld F.CAM_ADAPT_CFG_still_tol n * 64)

/-- The window of three planes of a picture given by rows: plane by plane, row by row. -/
def windowOf (rows : List (List (Nat × Nat × Nat))) (col0 win : Nat) : List Nat :=
  ((List.range 3).map fun p => (rows.map fun r => ((r.drop col0).take win).map fun px => if p = 0 then px.1 else if p = 1 then px.2.1 else px.2.2).flatten).flatten

/-- R329, R322: a kept pair is queued, or held back for the gate. -/
def State.keepPair (s : State) (n : Nat) (p : PairS) : State :=
  let a := s.adaptOf n
  let gate := a.cand.any (fun c => !c.accepted) && decide (a.gate.length < 4)
  let s := s.modAdapt n fun a => if gate then { a with gate := a.gate ++ [p] } else { a with pairs := a.pairs ++ [p] }
  s.bump .CAM_CNT_ADAPT_PAIR n clsAdapt (srcCam n) 1 p.seq

/-- R323: the buffer that the next pair goes to is full. -/
def State.pairsFull (s : State) (n : Nat) : Bool :=
  let a := s.adaptOf n
  (!a.cand.any (fun c => !c.accepted) || decide (4 ≤ a.gate.length)) && decide (4 ≤ a.pairs.length)

/-- R143, R323: the rows of stripe k of the final image of frame q, before or after the print stage has taken them. -/
def State.finalRows (s : State) (n q k : Nat) : List (List (Nat × Nat × Nat)) :=
  let f := s.frame n q
  match f.image.find? fun e => e.1 == k with
  | some e => e.2
  | none => (f.lin.drop (32 * k)).take 32

/-- R322: what a self pair of frame q needs has come: both frames are closed to packets or final, and the final image of the
frame before has the window's rows, where it opened. -/
def State.pairReady (s : State) (n q : Nat) : Bool :=
  let a := s.frame n (q - 1)
  let b := s.frame n q
  decide (q < s.regN .CAM_SEQ n) && a.seq == q - 1 && b.seq == q && !(a.st == 1) && !(b.st == 1) &&
  (!s.still n q || !(s.finalRows n (q - 1) (s.pairStripe n q)).isEmpty)

/-- R324: the training stripe of the reverse pair has been through a stage of the head core, whose program writes the tap. -/
def State.tapped (s : State) (n : Nat) : Bool :=
  (s.adaptOf n).trained.any fun w =>
    match s.headCore n with | some i => (s.counter (s.camSg n) w).cores.contains i | none => false

/-- R323: the head input of a pair: C_h · 32 · win bytes. -/
def State.tapInput (s : State) (n : Nat) (input : List Byte) : List Byte :=
  bytesAt input 0 ((s.headOf n).elim 0 (·.chans) * 32 * s.pairWin n)

/-- R322 to R324: the tap of the head input of drawn frame q is complete: the pair is kept or discarded, once. -/
def State.trainingPair (s : State) (n q : Nat) (input : List Byte) : State :=
  let a := s.adaptOf n
  if s.fld F.CAM_ADAPT_STATUS_state n ≠ 1 ∨ !s.drawn n q then s
  else
    match a.building with
    | some b =>
      if b.seq = q ∧ s.tapped n then
        let s := s.modAdapt n fun a => { a with
          building := none, trained := [], codes := [], reversePairs := a.reversePairs + 1, lastPair := some q }
        if s.pairsFull n then s else s.keepPair n { b with input := s.tapInput n input }
      else s
    | none =>
      if s.reverseDue n q ∨ a.lastPair.any (fun p => decide (q ≤ p)) ∨ !s.pairReady n q then s
      else
        let s := s.modAdapt n fun a => { a with lastPair := some q }
        if s.pairsFull n then s
        else if s.still n q then
          let k := s.pairStripe n q
          let rows := s.finalRows n (q - 1) k
          s.keepPair n { seq := q, stripe := k, col0 := s.pairCol n q, input := s.tapInput n input
                         target := windowOf rows (s.pairCol n q) (s.pairWin n) }
        else s.bump .CAM_CNT_ADAPT_NOTSTILL n clsAdapt (srcCam n) 1 q

/-! ### The reverse pipeline (R325, R326) -/

def xs32 (z : Nat) : Nat :=
  let z := Nat.xor z (z * 2 ^ 13 % 2 ^ 32)
  let z := Nat.xor z (z / 2 ^ 17)
  Nat.xor z (z * 2 ^ 5 % 2 ^ 32)

/-- R325: the greatest r with r · r ≤ v, for v < 2^64. -/
def isqrt (v : Nat) : Nat := searchMax (fun r => decide (r * r ≤ v)) 32 0

/-- R326: the generator's state after a pixel, and its draw. -/
def noiseDraw (z : Nat) : Nat × Int :=
  let a := xs32 z
  let d := xs32 a
  (d, toSigned 16 (getBits a 0 16) + toSigned 16 (getBits a 16 16) + toSigned 16 (getBits d 0 16))

/-- R326: the draws of a row, given the generator's state. -/
def rowDraws : Nat → Nat → List Int
  | 0, _ => []
  | k + 1, z => let r := noiseDraw z; r.2 :: rowDraws k r.1

/-- R326: the generator's state at the start of row y. -/
def rowSeed (seed pair y : Nat) : Nat :=
  let z := (seed + pair * 0x9E3779B9 + y * 0x85EBCA6B) % 2 ^ 32
  if z = 0 then 1 else z

/-- R324: sample (r, col) of plane p of a reference picture at a device address: planes of U16 at W × H. -/
def State.refAt (s : State) (n base p r col : Nat) : Nat := ofLE (s.memR (base + 2 * (p * s.width n * s.outH n + r * s.width n + col)) 2)

/-- R325: the lens blur along a row, and then across rows. -/
def blurTap (k1 : Nat) (a b c : Int) : Int := rneShr ((256 - 2 * (k1 : Int)) * b + k1 * (a + c)) 8

/-- R121, R325: plane of CFA channel c: 0 red, 1 green, 2 blue. -/
def State.planeOf (s : State) (n c : Nat) : Nat := if c = s.redChan n then 0 else if c = 3 - s.redChan n then 2 else 1

/-- R325: the linear signal of pixel (y, x), given its noise draw. -/
def State.reversePixel (s : State) (n base scale y x : Nat) (g : Int) : Nat :=
  let w := s.width n
  let h := s.outH n
  let p := s.ppbOf n (s.fld F.CAM_PPB_SEL_copy n)
  let c := 2 * (y % 2) + x % 2
  let k1 := min 0x80 (s.fld F.CAM_REV_CFG_k1 n)
  let at_ := fun (r col : Nat) => (s.refAt n base (s.planeOf n c) r col : Int)
  let hz := fun (r : Nat) => blurTap k1 (at_ r (x - 1)) (at_ r x) (at_ r (min (x + 1) (w - 1)))
  let v := blurTap k1 (hz (y - 1)) (hz y) (hz (min (y + 1) (h - 1)))
  let v := satU16 (rneShr (v * scale) 8)
  let gain := (shadeGain p w h c x y).toNat
  let m := if gain = 0 then 65535 else satU16 (rneDiv (v * 4096 : Nat) gain)
  let sd := isqrt ((rneShr (s.fld F.CAM_NOISE_shot n * m : Nat) 8).toNat + s.fld F.CAM_NOISE_read n)
  let sig := (clampI (m + rneShr (g * sd) 15) 0 65535).toNat
  let yl := if p.norm c = 0 then p.bl c else min (p.bl c + rneDivN (sig * 4096) (p.norm c)) 65535
  let i := ((List.range 4096).find? fun i => decide (yl ≤ p.lin i)).getD 4095
  i * 16 / 2 ^ (16 - s.codeBits n)

/-- R475: codes packed in CSI-2 order: a group of four (RAW10, RAW14), two (RAW12) or one (RAW16). -/
def packGroup (b : Nat) (cs : List Nat) : List Byte :=
  let c := fun i => cs.getD i 0
  if b = 10 then ((List.range 4).map fun i => BitVec.ofNat 8 (c i / 4)) ++ leBytes 1 (c 0 % 4 + c 1 % 4 * 4 + c 2 % 4 * 16 + c 3 % 4 * 64)
  else if b = 12 then ((List.range 2).map fun i => BitVec.ofNat 8 (c i / 16)) ++ leBytes 1 (c 0 % 16 + c 1 % 16 * 16)
  else if b = 14 then ((List.range 4).map fun i => BitVec.ofNat 8 (c i / 64)) ++
    leBytes 3 (c 0 % 64 + c 1 % 64 * 2 ^ 6 + c 2 % 64 * 2 ^ 12 + c 3 % 64 * 2 ^ 18)
  else if Config.raw16HighFirst then [BitVec.ofNat 8 (c 0 / 256), BitVec.ofNat 8 (c 0)] else leBytes 2 (c 0)

def packRow (b : Nat) : Nat → List Nat → List Byte
  | 0, _ => []
  | k + 1, cs =>
    if cs.isEmpty then []
    else
      let g := if b = 12 then 2 else if b = 16 then 1 else 4
      packGroup b (cs.take g) ++ packRow b k (cs.drop g)

/-- R333: context 6 of a core may run. -/
def State.sixReady (s : State) (i : Nat) : Bool := decide (s.regN .LC_ADAPT_USED i < s.adaptBudget i) && s.fld F.SFL_GOV_step == 0 && s.present i

/-- R324, R325: context 6 of the group's first core builds the raw codes of a reverse pair of drawn frame q. -/
def State.reversePipeline (s : State) (n q : Nat) : State :=
  let a := s.adaptOf n
  if s.fld F.CAM_ADAPT_STATUS_state n ≠ 1 ∨ !s.drawn n q ∨ !s.reverseDue n q ∨ a.building.isSome ∨
    a.lastPair.any (fun p => decide (q ≤ p)) ∨ !s.sixReady (s.camSg n) then s
  else
    let ref := a.refs.getD (q / s.pairDiv n / 2 % a.refs.length) (0, 0, 0)
    let k := s.pairStripe n q
    let ys : List Int := ((List.range 48).map fun i => (32 * (k : Int) - 8 + (i : Nat) : Int)).filter fun y => decide (0 ≤ y) && decide (y < s.outH n)
    let codes := ys.map fun y =>
      let y := y.toNat
      let ds := rowDraws (s.width n) (rowSeed ref.2.2 a.reversePairs y)
      (y, packRow (s.codeBits n) (s.width n) ((List.range (s.width n)).map fun x => s.reversePixel n ref.1 ref.2.1 y x (ds.getD x 0)))
    let rows := (List.range (min 32 (s.outH n - 32 * k))).map fun y =>
      (List.range (s.width n)).map fun x => (s.refAt n ref.1 0 (32 * k + y) x, s.refAt n ref.1 1 (32 * k + y) x, s.refAt n ref.1 2 (32 * k + y) x)
    let p : PairS := { seq := q, stripe := k, col0 := s.pairCol n q, reverse := true, target := windowOf rows (s.pairCol n q) (s.pairWin n) }
    (s.modAdapt n fun a => { a with building := some p, trained := [], codes := codes }).modCore (s.camSg n) fun x => { x with sixCam := some n }

/-- R333: array cycles that a training stripe costs core i of a camera's group. -/
def State.trainCycles (s : State) (n i : Nat) : Nat :=
  (((s.camModel n).elim [] (·.img.stages)).map fun t =>
    if t.cores.contains ((i + 16 - s.camSg n) % 16) then t.arrayCycles else 0).sum

/-- R324, R333: firmware queues a training stripe once every core of the group has room for its array cycles: on the counter of
its first stage, and on each later stage's when the stages whose output it reads are done. -/
def State.trainingStripe (s : State) (n w : Nat) : State :=
  let g := s.camSg n
  let c := s.counter g w
  match (s.adaptOf n).building with
  | none => s
  | some b =>
    let room := (s.groupCores g).all fun i => decide (s.regN .LC_ADAPT_USED i + s.trainCycles n i ≤ s.adaptBudget i)
    let next := if c.inputs.isEmpty then room else c.inputs.all (s.adaptOf n).trained.contains
    let queued := (s.adaptOf n).trained.contains w || c.shares.any fun h => h.training && h.cam == n
    if s.fld F.CAM_ADAPT_STATUS_state n = 1 ∧ next ∧ !queued ∧ s.flag F.HLD_WC_CFG_active (32 * g + w) ∧
       (s.cam n).model = some c.handle then
      (s.pushShare g w n b.seq b.stripe (2 ^ 64 - 1) false true).wakeCounter g w
    else s

/-! ### Training (R327 to R330, R333) -/

/-- FP32 bits of β = beta / 16, and of 2^(−lr_exp). -/
def State.betaBits (s : State) (n : Nat) : Nat := fp32Of (.num false (s.fld F.CAM_ADAPT_OPT_beta n) (-4))
def State.rateBits (s : State) (n : Nat) : Nat := fp32Of (.num false 1 (-(s.fld F.CAM_ADAPT_OPT_lr_exp n : Int)))

/-- R206, R327: an exact value in the training precision, with ovf_inf 0. -/
def trainCode (d : HeadDecl) (x : Num) : Nat := ((if d.bf16 then Fmt.bf16 else Fmt.fp16).encode false x).1

/-- R327: the head input in the training precision: s_a · (q − zp_a). -/
def trainInput (d : HeadDecl) (input : List Byte) : List Nat :=
  input.map fun q =>
    let v : Int := toSigned 8 q.toNat - d.zpA
    trainCode d ((ofFp32 d.sA.toNat).mul (.num (decide (v < 0)) v.natAbs 0))

/-- R327: the head layers run forward from weights given as FP32 bits. -/
def headRun (d : HeadDecl) (ws : List Nat) (input : List Byte) : List Nat :=
  Config.headForward d.layers (ws.map fun w => trainCode d (ofFp32 w)) (trainInput d input)

/-- R327: the exact error of an output against a target taken as U16 / 65,536. -/
def outError (y t : Nat) : Num := (ofFp32 y).add (.num true t (-16))

/-- R327: the output gradient 2 · (y − t) / n in FP32. -/
def outGrad (n y t : Nat) : Num :=
  match outError y t with
  | .num neg m e =>
    let f := ((Num.num neg m e).frac).getD (0, 1)
    ofFp32 (fracFp32 (2 * f.1, f.2 * max 1 n) + b2n neg * 2 ^ 31)
  | x => x

/-- R327: the gradients of a pair, as FP32 bits. -/
def headGrads (d : HeadDecl) (ws : List Nat) (p : PairS) : List Nat :=
  let ys := headRun d ws p.input
  let gs := (ys.zip p.target).map fun x => trainCode d (outGrad p.target.length x.1 x.2)
  Config.headBackward d.layers (ws.map fun w => trainCode d (ofFp32 w)) (trainInput d p.input) gs

/-- R327: one training step on the oldest queued pair, unless a candidate awaits its gate (R329). The command stands for the
write-back of step 6. -/
def State.trainingStep (s : State) (n : Nat) : State :=
  let a := s.adaptOf n
  match s.headOf n, s.headCore n, a.pairs with
  | some d, some i, p :: rest =>
    if s.fld F.CAM_ADAPT_STATUS_state n = 1 ∧ s.sixReady i ∧ a.cand.all (·.accepted) then
      let mom := (a.mom.zip (headGrads d a.masters p)).map fun x => fAdd (fMul (s.betaBits n) x.1) x.2
      let ws := (a.masters.zip mom).map fun x => fSub x.1 (fMul (s.rateBits n) x.2)
      (s.modAdapt n fun a => { a with pairs := rest, mom := mom, masters := ws, steps := a.steps + 1 }).modCore i fun x =>
        { x with sixCam := some n }
    else s
  | _, _, _ => s

/-- R329: exact Σ(w − v)² of two lists of FP32 bits. -/
def sumSq (ws vs : List Nat) : Num :=
  ((ws.zip vs).map fun x => let e := (ofFp32 x.1).add (ofFp32 x.2).neg; e.mul e).foldl Num.add (.num false 0 0)

/-- R329: FP32 bits of the square root of a fraction, rounded to nearest. -/
def sqrtFp32 (f : Frac) : Nat :=
  if f.1 = 0 ∨ f.2 = 0 then 0
  else
    let lo := floorFp fun x => let v := absFrac x; decide (v.1 * v.1 * f.2 ≤ f.1 * (v.2 * v.2))
    let a := absFrac lo
    let b := absFrac (lo + 1)
    -- midpoint (a + b) / 2
    let m : Frac := (a.1 * b.2 + b.1 * a.2, 2 * a.2 * b.2)
    if m.1 * m.1 * f.2 < f.1 * (m.2 * m.2) then lo + 1 else lo

/-- R329: the drift test of masters against base weights: whether it passes, and d. -/
def driftTest (ws w0 : List Nat) (max_ : Nat) : Bool × Nat :=
  match (sumSq ws w0).frac, (sumSq w0 (w0.map fun _ => 0)).frac with
  | some a, some b =>
    if b.1 = 0 then (a.1 = 0, 0)
    else
      let r : Frac := (a.1 * b.2, a.2 * b.1)
      (decide (r.1 * 65536 ≤ max_ * max_ * r.2), sqrtFp32 r)
  | _, _ => (false, 0x7FC00000)

/-- R328, R329: after `steps` steps a candidate is encoded and drift-tested. -/
def State.candidateEncode (s : State) (n : Nat) : State :=
  let a := s.adaptOf n
  match s.headOf n with
  | none => s
  | some d =>
    if s.fld F.CAM_ADAPT_STATUS_state n = 1 ∧ a.cand.isNone ∧ max 1 (s.fld F.CAM_ADAPT_CFG_steps n) ≤ a.steps then
      let t := driftTest a.masters (headDecodeSlot d d.base) (s.fld F.CAM_ADAPT_OPT_drift_max n)
      if t.1 then
        s.modAdapt n fun a => { a with steps := 0, cand := some { slot := headEncode d a.masters, weights := a.masters, drift := t.2 } }
      else
        let s := (s.modAdapt n fun a => { a with steps := 0 }).audit n 0x3 0xFFFFFFFF 0 0 t.2
        (s.modAdapt n fun a => { a with masters := a.snapshot, mom := a.snapshot.map (fun _ => 0) }).pauseAdapt n cDrift
    else s

/-- R327: the loss of a set on a pair: the mean of (y − t)² with t = U16 / 65,536, exactly. -/
def pairLoss (d : HeadDecl) (ws : List Nat) (p : PairS) : Option Frac :=
  let sum := (((headRun d ws p.input).zip p.target).map fun x => let e := outError x.1 x.2; e.mul e).foldl Num.add (.num false 0 0)
  sum.frac.map fun f => (f.1, f.2 * max 1 p.target.length)

/-- The mean of losses; none where one is not a number. -/
def meanLoss (ls : List (Option Frac)) : Option Frac :=
  if ls.any Option.isNone then none
  else let t := Frac.sum (ls.map fun x => x.getD (0, 1)); some (t.1, t.2 * max 1 ls.length)

/-- FP32 bits of a loss. -/
def lossBits (l : Option Frac) : Nat := match l with | some f => fracFp32 f | none => 0x7FC00000

/-- R329: after four gate pairs the candidate is accepted or rejected; the pairs are then trained on. -/
def State.gateDecision (s : State) (n : Nat) : State :=
  let a := s.adaptOf n
  match s.headOf n, a.cand with
  | some d, some c =>
    if s.fld F.CAM_ADAPT_STATUS_state n = 1 ∧ a.gate.length = 4 ∧ !c.accepted then
      let lc := meanLoss (a.gate.map (pairLoss d (headDecodeSlot d c.slot)))
      let lk := meanLoss (a.gate.map (pairLoss d (headDecodeSlot d (s.headSet n (s.cam n).headNow))))
      let ok := match lc, lk with
        | some x, some y => decide (x.1 * 256 * y.2 ≤ y.1 * (256 - s.fld F.CAM_ADAPT_OPT_gate n) * x.2)
        | _, _ => false
      let s := s.modAdapt n fun a => { a with pairs := a.pairs ++ a.gate, gate := [] }
      if ok then s.modAdapt n fun a => { a with cand := some { c with accepted := true, lk := lossBits lk, lc := lossBits lc } }
      else
        let s := (s.bump .CAM_CNT_ADAPT_REJECT n clsAdapt (srcCam n)).audit n 0x2 0xFFFFFFFF (lossBits lk) (lossBits lc) c.drift
        s.modAdapt n fun a => { a with cand := none }
    else s
  | _, _ => s

/-- R330, R336: an accepted candidate is written into a free slot, measured and staged. -/
def State.headSetStage (s : State) (n : Nat) : State :=
  match (s.adaptOf n).cand, s.freeHead n with
  | some c, some h =>
    if c.accepted then
      let s := s.stageHead n h c.slot
      let s := s.modAdapt n fun a => { a with swaps := a.swaps + 1 }
      let s := s.audit n 0x1 (s.firstBound n) c.lk c.lc c.drift
      s.modAdapt n fun a => { a with cand := none }
    else s
  | _, _ => s

/-- R333: at the end of a 10 ms window of core i the count falls by the budget. -/
def State.adaptWindow (s : State) (i : Nat) : State :=
  if (s.core i).window + 7000000 ≤ s.coreCycle i then
    (s.setRegN .LC_ADAPT_USED i (s.regN .LC_ADAPT_USED i - s.adaptBudget i)).modCore i fun x => { x with window := x.window + 7000000 }
  else s

end Sys2Proof.Machine
end

