-- ==== Sys2Proof/Machine/Commands.lean ====
section
/-! DEFINITION. Command queues, command packets, events and interrupts (R342 to R353, R356). -/
namespace Sys2Proof.Machine

/-! ### Parameters of a packet (R348) -/

/-- Parameter word Pi. -/
def Cmd.w (k : Cmd) (i : Nat) : Nat := k.p.getD i 0

/-- R352: cam is P0[8:0]. -/
def Cmd.cam (k : Cmd) : Nat := getBits (k.w 0) 0 9

/-- R348: a command packet of 64 bytes, copied at fetch from command slot n. -/
def cmdOf (n : Nat) (b : List Byte) : Cmd :=
  { slot := n, opcode := leAt b 0 2, flags := leAt b 2 2, seq := leAt b 4 4, p := (List.range 7).map fun i => leAt b (8 + 8 * i) 8 }

/-- Bits [hi:lo]. -/
def bits (hi lo : Nat) : Nat := 2 ^ (hi + 1) - 2 ^ lo

/-- All 64 bits of a parameter word. -/
def full64 : Nat := bits 63 0

/-- R352: the bits of P0 to P6 that an opcode's row names; none for an unknown opcode. -/
def paramMask (op : Nat) : Option (List Nat) :=
  match op with
  | 0x0101 => some [bits 8 0]
  | 0x0102 => some [bits 8 0 + bits 16 16]
  | 0x0103 => some [bits 8 0, full64, bits 15 0]
  | 0x0104 => some [bits 8 0 + bits 17 16 + bits 30 24 + bits 39 32 + bits 47 40 + bits 55 48, full64, full64, full64, full64]
  | 0x0105 => some [bits 8 0 + bits 19 16]
  | 0x0106 => some [bits 8 0, full64, full64, full64, full64, bits 3 0]
  | 0x0201 => some [full64, bits 31 0 + bits 35 32 + bits 47 40]
  | 0x0202 => some [bits 15 0]
  | 0x0203 => some [bits 8 0 + bits 31 16]
  | 0x0204 => some [bits 8 0 + bits 23 16, full64, bits 31 0]
  | 0x0205 => some [bits 15 0]
  | 0x0301 => some [bits 2 0 + bits 63 32, full64, full64]
  | 0x0302 => some [bits 1 0 + bits 63 32, full64]
  | 0x0303 => some [bits 63 32, full64, full64]
  | 0x0304 => some [bits 3 0, full64, full64]
  | 0x0305 => some [bits 3 0, full64, full64]
  | 0x0306 => some [bits 3 0 + bits 11 8]
  | 0x0307 => some [0, full64, full64]
  | 0x0401 => some [full64, full64, bits 15 0]
  | 0x0402 => some [0, full64]
  | 0x0403 => some [0, full64, bits 15 0]
  | 0x0404 => some [bits 3 0]
  | 0x0405 => some [bits 3 0]
  | 0x0406 => some [0, full64, bits 15 0]
  | 0x0407 => some [0, full64]
  | 0x0408 => some [0, full64, bits 31 0]
  | 0x0409 => some []
  | 0x0501 => some []
  | 0x0502 => some [bits 4 0, full64, bits 31 0, full64]
  | 0x0601 => some [bits 8 0]
  | 0x0602 => some [bits 8 0]
  | 0x0603 => some [bits 8 0]
  | 0x0604 => some [bits 8 0]
  | 0x0605 => some [bits 8 0]
  | 0x0606 => some [bits 8 0, full64, bits 4 0]
  | 0x0607 => some [bits 8 0, full64]
  | 0x0608 => some [bits 8 0, full64]
  | 0x0701 => some [bits 11 0 + bits 27 16, full64]
  | 0x0702 => some [0, full64, bits 31 0]
  | 0x0703 => some [bits 8 0, full64, bits 31 0]
  | 0x0704 => some [0, full64, bits 31 0]
  | 0x0705 => some [bits 3 0 + bits 15 8]
  | 0x0706 => some [full64, full64, full64, full64, full64, full64, full64]
  | 0x0801 => some []
  | 0x0802 => some [bits 3 0 + bits 10 8 + bits 16 16]
  | 0x0803 => some [bits 2 0, full64, bits 31 0]
  | 0x0804 => some [bits 7 0]
  | _ => none

/-- R351, check 1: the detail of BAD_PARAM for an unknown opcode, flags or reserved bits that are not zero. -/
def Cmd.malformed (k : Cmd) : Option Nat :=
  match paramMask k.opcode with
  | none => some 0xFF
  | some m => if 4 ≤ k.flags then some 0xFF else (List.range 7).find? fun i => Nat.land (k.w i) (m.getD i 0) != k.w i

/-- R352: opcodes that only the owner may send. -/
def ownerOnly (op : Nat) : Bool :=
  [0x0103, 0x0104, 0x0105, 0x0304, 0x0305, 0x0307, 0x0404, 0x0405, 0x0406, 0x0407, 0x0408, 0x0409, 0x0502, 0x0701, 0x0702,
   0x0704, 0x0705, 0x0801, 0x0802, 0x0803, 0x0804].contains op

/-- R353: opcodes whose parameters name a camera that the issuer must hold. CAM_GRANT, which moves cameras between
holders, is not among them. -/
def namesCam (op : Nat) : Bool :=
  [0x0101, 0x0102, 0x0103, 0x0104, 0x0106, 0x0203, 0x0204, 0x0601, 0x0602, 0x0603, 0x0604, 0x0605, 0x0606, 0x0607, 0x0608,
   0x0703].contains op

/-- R352, R353: handle h is the issuer's. -/
def State.ownsModel (s : State) (f h : Nat) : Bool := (s.boot.models.get h).any fun m => m.fn == f

/-- R351, check 2: the issuer may send this command and holds the objects it names. -/
def State.permitted (s : State) (f : Nat) (k : Cmd) : Bool :=
  (f == 0 || !ownerOnly k.opcode) && (!namesCam k.opcode || (s.cam k.cam).holder == f) &&
  (if k.opcode = 0x0202 ∨ k.opcode = 0x0205 then s.ownsModel f (getBits (k.w 0) 0 16)
   else if k.opcode = 0x0203 then s.ownsModel f (getBits (k.w 0) 16 16)
   else if k.opcode = 0x0306 then s.userFn (getBits (k.w 0) 0 4) == f else true)

/-! ### Fetch and start (R346, R347, R351) -/

def State.modQueue (s : State) (f q : Nat) (g : QueueS → QueueS) : State := s.setQueue f q (g (s.queue f q))

/-- R469, R436: start-up has ended and the device is in service. -/
def State.inService (s : State) : Bool := s.fld F.GLB_BOOT_STATUS_stage == 7 && !s.fatal

/-- R346: a queue may fetch its next packet. -/
def State.canFetch (s : State) (f q : Nat) : Bool :=
  let i := 4 * f + q
  let u := s.queue f q
  s.inService && (s.fn f).bme && s.flag F.CQ_CFG_en i && s.fld F.CQ_STATUS_head i != u.tail &&
  decide (u.fetched.length + u.started.length + u.unread < s.qSlots f q)

/-- R372, R444: the latest place that a command has taken in the order of starting. -/
def State.lastOrder (s : State) : Nat :=
  ((s.fns.flatMap fun e => e.2.queues.flatMap fun u => (u.2.fetched ++ u.2.started).map (·.order)).foldl max 0)

/-- R346: the packet in the next command slot, of these bytes, is fetched and copied. -/
def State.fetch (s : State) (f q : Nat) (bytes : List Byte) : State :=
  if s.canFetch f q then
    let i := 4 * f + q
    let head := s.fld F.CQ_STATUS_head i
    let s := s.modQueue f q fun u => { u with fetched := u.fetched ++ [{ cmdOf head bytes with order := s.lastOrder }] }
    let s := s.obsAdd 1665 64
    (s.setFld F.CQ_STATUS_head i ((head + 1) % s.qSlots f q)).setIdle f q
  else s

/-- The commands of every queue that have started and not replied. -/
def State.startedCmds (s : State) : List Cmd := s.fns.flatMap fun e => e.2.queues.flatMap fun u => u.2.started

/-- R444: a command fetched after an FW_SWITCH has started does not start until the switch has ended. -/
def State.heldBySwitch (s : State) (k : Cmd) : Bool := s.startedCmds.any fun x => x.opcode == 0x0409 && decide (x.order ≤ k.order)

/-- R372: the commands that the security engine carries out; of MODEL_LOAD, those with a key slot. -/
def Cmd.forEngine (k : Cmd) : Bool :=
  [0x0401, 0x0402, 0x0403, 0x0406, 0x0407, 0x0408, 0x0409].contains k.opcode || (k.opcode == 0x0201 && getBits (k.w 1) 40 8 != 0xFF)

/-- R372: no command of the security engine that started before k is still to be replied to. While the engine resets itself it
holds none of them (R381). -/
def State.engineTurn (s : State) (k : Cmd) : Bool :=
  !k.forEngine || s.fld F.SEC_STATUS_engine == 2 || s.startedCmds.all fun x => !x.forEngine || decide (k.order ≤ x.order)

/-- R347: the command of a queue that may start now: the oldest fetched, where its ORDER flag lets it. -/
def State.readyCmd (s : State) (f q : Nat) : Option Cmd :=
  match (s.queue f q).fetched with
  | [] => none
  | k :: _ => if (bit k.flags 0 && !(s.queue f q).started.isEmpty) || s.heldBySwitch k then none else some k

/-- R347: the queue of function f that round robin takes, from its turn on. -/
def State.readyQueue (s : State) (f : Nat) : Option Nat :=
  ((List.range 4).map fun k => ((s.fn f).rrQueue + k) % 4).find? fun q => (s.readyCmd f q).isSome

/-- R347: the function and queue that round robin takes. -/
def State.roundRobin (s : State) : Option (Nat × Nat) :=
  ((List.range 9).map fun k => (s.rrFn + k) % 9).findSome? fun f => (s.readyQueue f).map fun q => (f, q)

/-- R351: the status and detail of checks 1 to 3; 0 where they pass. -/
def State.startChecks (s : State) (f : Nat) (k : Cmd) : Nat × Nat :=
  match k.malformed with
  | some d => (stBadParam, d)
  | none =>
    if !s.permitted f k then (stDenied, 0)
    else if s.fld F.FN_ID_state f = 2 then (stScrubbing, 0) else (stOk, 0)

/-- R347, R351: firmware starts the command that round robin takes; one that fails a check is answered at once. -/
def State.startCommand (s : State) : State :=
  if !s.inService then s
  else
    match s.roundRobin with
    | none => s
    | some (f, q) =>
      match s.readyCmd f q with
      | none => s
      | some k =>
        let k := { k with order := s.lastOrder + 1 }
        let s := s.modQueue f q fun u => { u with fetched := u.fetched.drop 1, started := u.started ++ [k] }
        let s := { s.modFn f fun x => { x with rrQueue := (q + 1) % 4 } with rrFn := (f + 1) % 9 }
        let c := s.startChecks f k
        if c.1 = stOk then s else s.reply ⟨f, q, k.slot⟩ c.1 c.2

/-- R347: whether firmware has begun to carry out a started command. -/
def State.setTaken (s : State) (r : CmdRef) (b : Bool) : State :=
  s.modQueue r.fn r.q fun u => { u with started := u.started.map fun k => if k.slot = r.slot then { k with taken := b } else k }

/-- R352, R372: a started command is carried out, once, where it has this opcode, in its turn where it is the security
engine's. -/
def State.onCmd (s : State) (r : CmdRef) (op : Nat) (body : Cmd → State → State) : State :=
  match s.command r with
  | some k => if k.opcode = op ∧ k.taken = false ∧ s.engineTurn k = true then body k (s.setTaken r true) else s
  | none => s

/-- R341, R352: a command's read of host memory fails: the command ends with FAULT, and the error is reported. -/
def State.readFailed (s : State) (r : CmdRef) : State := (s.reply r stFault).aerError r.fn

/-- R341, R453: what a command does with the n bytes of host memory it reads: nothing while the function's Bus Master Enable
is 0. -/
def State.withRead (s : State) (r : CmdRef) (n : Nat) (body : State → State) : State :=
  if (s.fn r.fn).bme then body (s.obsAdd 1665 n) else s.readFailed r

/-- R341: a completion with an error, or a timeout, for the read of a started command. -/
def State.cmdReadError (s : State) (r : CmdRef) : State :=
  match s.command r with
  | some _ => s.readFailed r
  | none => s

/-! ### Queue registers (R345, R346) -/

/-- R345: the fields of CQ_CFG other than en, which change only while en is 0. -/
def State.cqConfig (s : State) (f q v : Nat) : State :=
  let i := 4 * f + q
  if s.flag F.CQ_CFG_en i then s
  else
    let s := (s.setFld F.CQ_CFG_log2_size i (getBits v 24 4)).setFld F.CQ_CFG_mod_count i (getBits v 16 8)
    (s.setFld F.CQ_CFG_mod_us i (getBits v 10 6)).setFld F.CQ_CFG_vector i (getBits v 0 10)

/-- R346: en goes from 0 to 1. -/
def State.cqEnable (s : State) (f q : Nat) : State :=
  let i := 4 * f + q
  if s.flag F.CQ_CFG_en i then s
  else if s.fld F.CQ_CFG_log2_size i < 4 ∨ 12 < s.fld F.CQ_CFG_log2_size i then s.setEvt F.CQ_STATUS_cfg_err i
  else
    let s := s.modQueue f q fun u => { u with tail := 0, rhead := 0, unread := 0, unsig := 0 }
    let s := (s.setFld F.CQ_STATUS_head i 0).setFld F.CQ_STATUS_rq_tail i 0
    ((s.setFld F.CQ_STATUS_phase i 1).setFld F.CQ_CFG_en i 1).setIdle f q

/-- R346: en goes to 0. -/
def State.cqDisable (s : State) (f q : Nat) : State := (s.setFld F.CQ_CFG_en (4 * f + q) 0).setIdle f q

/-- R345, R346: a write of CQ_CFG. -/
def State.cqCfgWrite (s : State) (f q v : Nat) : State :=
  let s := s.cqConfig f q v
  if bit v 31 then s.cqEnable f q else s.cqDisable f q

/-- R346: a write of CQ_TAIL. -/
def State.cqTailWrite (s : State) (f q v : Nat) : State :=
  let t := getBits v 0 12
  if s.qSlots f q ≤ t then s.setEvt F.CQ_STATUS_tail_err (4 * f + q) else s.modQueue f q fun u => { u with tail := t }

/-- R346: a write of RQ_HEAD. -/
def State.rqHeadWrite (s : State) (f q v : Nat) : State :=
  let h := getBits v 0 12
  let n := s.qSlots f q
  let u := s.queue f q
  let d := (h + n - u.rhead) % n
  if n ≤ h ∨ u.unread < d then s.setEvt F.CQ_STATUS_tail_err (4 * f + q)
  else s.setQueue f q { u with rhead := h, unread := u.unread - d }

/-- R345: mod_us after the first unsignalled reply the interrupt is raised. -/
def State.moderation (s : State) (f q : Nat) : State :=
  let i := 4 * f + q
  let u := s.queue f q
  let us := s.fld F.CQ_CFG_mod_us i
  if us ≠ 0 ∧ u.unsig ≠ 0 ∧ u.unsigFrom + 1000 * us ≤ s.now then
    (s.setQueue f q { u with unsig := 0 }).raise f (s.fld F.CQ_CFG_vector i)
  else s

/-! ### The event ring (R356) -/

/-- R356: a write of EVQ_CFG. -/
def State.evqCfgWrite (s : State) (f v : Nat) : State :=
  let was := s.flag F.EVQ_CFG_en f
  let s := (s.setFld F.EVQ_CFG_log2_size f (getBits v 24 4)).setFld F.EVQ_CFG_vector f (getBits v 0 10)
  let s := s.setFld F.EVQ_CFG_en f (getBits v 31 1)
  if bit v 31 && !was then s.setFld F.EVQ_STATUS_num f 0 else s

/-! ### Simple commands (R352) -/

/-- R352: ECHO. -/
def State.echo (s : State) (r : CmdRef) : State := s.onCmd r 0x0706 fun k s => s.reply r stOk 0 (k.w 0) (k.w 1)

/-- R352: TIME_GET. -/
def State.timeGet (s : State) (r : CmdRef) : State :=
  s.onCmd r 0x0501 fun _ s => s.reply r stOk 0 s.now (s.fld F.SYN_STATUS_state)

/-- R353, R352: CAM_GRANT. -/
def State.camGrant (s : State) (r : CmdRef) : State :=
  s.onCmd r 0x0105 fun k s =>
    let h := getBits (k.w 0) 16 4
    if 8 < h then s.reply r stBadParam 0
    else if s.stream k.cam ≠ 0 then s.reply r stConflict
    else (s.modCam k.cam fun c => { c with holder := h }).reply r stOk

/-- R352, R288, R289: FAULT_RESUME; a record that is gone, or that no resume can answer any more, is CLOSED. -/
def State.faultResume (s : State) (r : CmdRef) : State :=
  s.onCmd r 0x0306 fun k s =>
    let i := getBits (k.w 0) 0 4
    let q := getBits (k.w 0) 8 4
    match s.faulted i q with
    | none => s.reply r stClosed
    | some x => if s.resumable i q x.2 then (s.resumeXfer i q x.1).reply r stOk else s.reply r stClosed

/-- R115, R352: PROFILE_LOAD, with the bytes read from the host. -/
def State.profileLoad (s : State) (r : CmdRef) (bytes : List Byte) : State :=
  s.onCmd r 0x0103 fun k s =>
    if s.stream k.cam ≠ 0 then s.reply r stConflict
    else if k.w 2 < 64 ∨ 4096 < k.w 2 then s.reply r stBadParam 2
    else s.withRead r (k.w 2) fun s => (s.modCam k.cam fun c => { c with profile := some (bytes.take (k.w 2)) }).reply r stOk

/-- R352, R58: SENSOR_XFER. -/
def State.sensorXfer (s : State) (r : CmdRef) : State :=
  s.onCmd r 0x0104 fun k s =>
    let p := camPort k.cam
    let wlen := getBits (k.w 0) 40 8
    let rlen := getBits (k.w 0) 48 8
    let data := (leBytes 8 (k.w 1) ++ leBytes 8 (k.w 2) ++ leBytes 8 (k.w 3) ++ leBytes 8 (k.w 4)).take wlen
    let t : TunnelReq := { slot := camSlot k.cam, bus := getBits (k.w 0) 16 1, combined := getBits (k.w 0) 17 1
                           addr := getBits (k.w 0) 24 7, ccc := getBits (k.w 0) 32 8, wdata := data, rlen := rlen }
    if 32 < wlen ∨ 16 < rlen then s.reply r stBadParam 0
    else if s.isIn p = false ∧ s.fld F.IXL_PORT_STATUS_state p ≠ 4 then s.reply r stClosed
    else s.tunnelRequest p t (.xfer r)

end Sys2Proof.Machine
end

