-- ==== Sys2Proof/Machine/Spaces.lean ====
section
/-! DEFINITION. Translated spaces, grants, host rings and the snuffer's clears of device memory (R352 to R355, R382,
R386, R479). -/
namespace Sys2Proof.Machine

/-! ### The snuffer (R382, R386) -/

/-- R297: the lines of a range are written in full in a sweep of whole units: in the lines held, and past them in DDR5. -/
def HoldS.rewrite (h : HoldS) (a n : Nat) : HoldS :=
  let h := h.renew (covers a n)
  { h with lines := h.lines.map fun (x : HLine) => if covers a n x.line then { x with dirty := true } else x
           fresh := (h.fresh.filter fun e => !covers a n e.1) ++
             ((h.lines.filter fun x => covers a n x.line).map fun x => (x.line, 2 ^ 64 - 1)) }

/-- R382, R313: a range of device memory reads zero; full-line writes of zero plaintext clear its poison. -/
def State.zeroRange (s : State) (a n : Nat) : State := { s.memClear a n with hold := s.hold.rewrite a n }

/-- R355: pages that a clear lets firmware map take the place of the entries marked not present. -/
def State.remap (s : State) (l : List (Nat × Page)) : State :=
  l.foldl (fun s e => s.modFn e.1 fun f => { f with dev := f.dev.map fun p => if p.va = e.2.va then e.2 else p }) s

/-- R382, R386: the oldest clear completes, once its last byte has been written: its memory may be reused, and whoever waited
for it goes on. -/
def State.clearComplete (s : State) : State :=
  let s := s.snufRun
  match s.sec.clears with
  | [] => s
  | c :: rest =>
    if 0 < c.left then s
    else
    let s := ({ s with sec := { s.sec with clears := rest } }.zeroRange c.addr c.bytes).remap c.remap
    match c.cmd with
    | some r => s.reply r c.status 0 c.q0
    | none => s

/-! ### Pages (R354, R355) -/

/-- The pages of a function's space: 0 DEV, 1 HOST. -/
def FnS.pages (f : FnS) (sp : Nat) : List Page := if sp = 0 then f.dev else f.host
def FnS.setPages (f : FnS) (sp : Nat) (l : List Page) : FnS := if sp = 0 then { f with dev := l } else { f with host := l }

/-- R354: bytes of a page of the smaller or larger size. -/
def pageBytes (big : Bool) : Nat := if big then 0x200000 else 0x1000

/-- R354: the count pages of a MAP. -/
def mapPages (big writable : Bool) (count va pa : Nat) : List Page :=
  (List.range count).map fun i => { va := va + i * pageBytes big, pa := pa + i * pageBytes big, big := big, writable := writable }

/-- R354: tables of 512 entries that a space's pages need: a root, and those of the second, third and fourth level. -/
def tablesOf (ps : List Page) : Nat :=
  if ps.isEmpty then 0
  else 1 + (ps.map fun p => p.va / 2 ^ 39).eraseDups.length + (ps.map fun p => p.va / 2 ^ 30).eraseDups.length +
    ((ps.filter fun p => !p.big).map fun p => p.va / 2 ^ 21).eraseDups.length

/-- R354: table memory of every function, 4 KiB a table. -/
def State.tableBytes (s : State) : Nat := (s.fns.map fun e => 4096 * (tablesOf e.2.dev + tablesOf e.2.host)).sum

/-- R354: bytes mapped in a space. -/
def mapped (ps : List Page) : Nat := (ps.map (·.size)).sum

/-- R354: bytes of a space that a function may map. -/
def spaceLimit (sp : Nat) : Nat := if sp = 0 then 2 ^ 36 else 2 ^ 32

/-- R352, R354, R319: device memory a..a+n is the function's to map. -/
def State.mayMap (s : State) (f a n : Nat) : Bool :=
  if f = 0 then s.ownerMemory a n
  else (List.range (units (a % 2 ^ 21 + n))).all (fun u => (s.fn f).grants.any fun g =>
    decide (g.1 ≤ a / 2 ^ 21 + u) && decide (a / 2 ^ 21 + u < g.1 + g.2)) && !(s.workAreas.any fun w => overlaps a n w 0x600000)

/-- R354: MAP. -/
def State.map (s : State) (r : CmdRef) : State :=
  s.onCmd r 0x0301 fun k s =>
    let sp := getBits (k.w 0) 0 1
    let big := bit (k.w 0) 1
    let count := getBits (k.w 0) 32 32
    let size := pageBytes big
    let ps := (s.fn r.fn).pages sp
    if count = 0 then s.reply r stBadParam 0
    else if k.w 1 % size ≠ 0 ∨ 2 ^ 48 < k.w 1 + count * size then s.reply r stBadParam 1
    else if k.w 2 % size ≠ 0 ∨ 2 ^ 64 < k.w 2 + count * size then s.reply r stBadParam 2
    else if sp = 0 ∧ s.mayMap r.fn (k.w 2) (count * size) = false then s.reply r stDenied
    else if ps.any fun p => overlaps p.va p.size (k.w 1) (count * size) then s.reply r stConflict
    else if spaceLimit sp < mapped ps + count * size then s.reply r stNoResource
    else
      let t := s.modFn r.fn fun f => f.setPages sp (f.pages sp ++ mapPages big (bit (k.w 0) 2) count (k.w 1) (k.w 2))
      if s.poolRange.2 < t.tableBytes then s.reply r stNoResource else t.reply r stOk

/-- R355: rows of a transfer that have issued, whole or in part, and are not delivered. -/
def Xfer.openRows (x : Xfer) : List Nat :=
  ((List.range (x.issued + (if 0 < x.pieces then 1 else 0) - x.rows)).map fun i => x.rows + i).filter fun r =>
    !x.early.any fun e => e.1 == r

/-- R355: a transaction issued under entries of function f's space, from va for n bytes, has not completed. -/
def State.inFlight (s : State) (f sp va n : Nat) : Bool :=
  (List.range 16).any fun i =>
    ((List.range 16).flatMap (s.dmaQ i) ++ (s.core i).flying.map (·.2)).any fun x => s.xferFn i x == f &&
      x.openRows.any fun r => (x.rowPieces r).any fun p => p.2.1 == sp + 1 && overlaps p.2.2.1 p.2.2.2 va n

/-- R354: a page of function f's HOST space is locked by the rings of a camera it holds. -/
def State.locked (s : State) (f va n : Nat) : Bool :=
  s.cams.any fun e => e.2.holder == f && e.2.locks.any fun l => overlaps l.1 l.2 va n

/-- R355: entries between two virtual addresses are marked not present. -/
def hide (va n : Nat) (ps : List Page) : List Page :=
  ps.map fun (p : Page) => if overlaps p.va p.size va n then { p with present := false } else p

/-- R376: some page between two virtual addresses of a DEV space is sealed. -/
def State.sealedIn (s : State) (ps : List Page) (va n : Nat) : Bool :=
  (ps.filter fun p => overlaps p.va p.size va n).any fun p =>
    s.boot.models.any fun e => e.2.any fun m => m.sealed_.any fun x => overlaps x.1 x.2 p.pa p.size

/-- R355: UNMAP: the entries stop answering at once; the command ends, and the entries go, once no transaction issued
under them is open. Until then it waits and may be carried out again. -/
def State.unmap (s : State) (r : CmdRef) : State :=
  s.onCmd r 0x0302 fun k s =>
    let sp := getBits (k.w 0) 0 1
    let big := bit (k.w 0) 1
    let count := getBits (k.w 0) 32 32
    let size := pageBytes big
    let n := count * size
    let ps := (s.fn r.fn).pages sp
    if count = 0 then s.reply r stBadParam 0
    else if !(List.range count).all (fun i => ps.any fun p => p.va == k.w 1 + i * size && p.big == big) then s.reply r stBadParam 1
    else if sp = 1 ∧ s.locked r.fn (k.w 1) n = true then s.reply r stConflict
    else if sp = 0 ∧ s.sealedIn ps (k.w 1) n = true then s.reply r stConflict
    else
      let s := s.modFn r.fn fun f => f.setPages sp (hide (k.w 1) n (f.pages sp))
      if s.inFlight r.fn sp (k.w 1) n then s.setTaken r false
      else (s.modFn r.fn fun f => f.setPages sp ((f.pages sp).filter fun p => !overlaps p.va p.size (k.w 1) n)).reply r stOk

/-- A copy of n bytes of device memory. -/
def State.memCopy (s : State) (src dst n : Nat) : State :=
  let cells := s.visibleMem.filter fun c => decide (src ≤ c.1) && decide (c.1 < src + n)
  let s := s.zeroRange dst n
  { s with mem := cells.foldl (fun m c => memWrite m (c.1 - src + dst) c.2) s.mem }

/-- R355: MOVE: as UNMAP, then the pages are copied, the old ones cleared, and the new ones mapped. A poisoned line among the
old ones fails the command (R314), and the pages stay as they were. -/
def State.move (s : State) (r : CmdRef) : State :=
  s.onCmd r 0x0303 fun k s =>
    let n := getBits (k.w 0) 32 32 * 0x1000
    let old := (s.fn r.fn).dev.filter fun p => overlaps p.va p.size (k.w 1) n
    let new := old.map fun (p : Page) => { p with pa := k.w 2 + (p.va - k.w 1), present := true }
    if n = 0 then s.reply r stBadParam 0
    else if mapped old ≠ n ∨ !old.all (fun p => decide (k.w 1 ≤ p.va) && decide (p.va + p.size ≤ k.w 1 + n)) then s.reply r stBadParam 1
    else if !new.all (fun p => p.pa % p.size == 0) then s.reply r stBadParam 2
    else if s.mayMap r.fn (k.w 2) n = false then s.reply r stDenied
    else if s.sealedIn (s.fn r.fn).dev (k.w 1) n then s.reply r stConflict
    else
      let s := s.modFn r.fn fun f => { f with dev := hide (k.w 1) n f.dev }
      if s.inFlight r.fn 0 (k.w 1) n then s.setTaken r false
      else if (old.any fun p => s.poisonedRange p.pa p.size) then
        let back := fun (p : Page) => if overlaps p.va p.size (k.w 1) n then { p with present := true } else p
        (s.modFn r.fn fun f => { f with dev := f.dev.map back }).reply r stFault
      else
        let s := (old.zip new).foldl (fun s e => s.memCopy e.1.pa e.2.pa e.1.size) s
        let ends : List ClearS := old.map fun p => { addr := p.pa, bytes := p.size, cmd := none, fn := r.fn }
        s.clearFor (ends.dropLast ++ (ends.drop (ends.length - 1)).map fun (c : ClearS) =>
          { c with cmd := some r, remap := new.map fun p => (r.fn, p) })

/-! ### Grants and the firmware pool (R352) -/

/-- R319, R352: MEM_GRANT. -/
def State.memGrant (s : State) (r : CmdRef) : State :=
  s.onCmd r 0x0304 fun k s =>
    let t := getBits (k.w 0) 0 4
    let clash := (s.fns.any fun e => e.2.grants.any fun g => overlaps g.1 g.2 (k.w 1) (k.w 2)) ||
      s.boot.pool.any fun p => overlaps p.1 p.2 (k.w 1) (k.w 2)
    if 8 ≤ t then s.reply r stBadParam 0
    else if k.w 2 = 0 ∨ s.memBytes < (k.w 1 + k.w 2) * 2 ^ 21 then s.reply r stBadParam 1
    else if (s.workAreas.any fun w => overlaps w 0x600000 (k.w 1 * 2 ^ 21) (k.w 2 * 2 ^ 21)) then s.reply r stDenied
    else if clash then s.reply r stConflict
    else (s.modFn (t + 1) fun f => { f with grants := f.grants ++ [(k.w 1, k.w 2)] }).reply r stOk

/-- R352, R382, R385: MEM_REVOKE: it waits for a scrub of the tenant, removes the mappings, and ends once the range is
clear. -/
def State.memRevoke (s : State) (r : CmdRef) : State :=
  s.onCmd r 0x0305 fun k s =>
    let t := getBits (k.w 0) 0 4
    let a := k.w 1 * 2 ^ 21
    let n := k.w 2 * 2 ^ 21
    let hit := fun (p : Page) => overlaps p.pa p.size a n
    if 8 ≤ t then s.reply r stBadParam 0
    else if !(s.fn (t + 1)).grants.contains (k.w 1, k.w 2) then s.reply r stClosed
    else if (s.sec.scrubs.get t).isSome then s.setTaken r false
    else
      let s := s.modFn (t + 1) fun f => { f with dev := f.dev.map fun (p : Page) => if hit p then { p with present := false } else p }
      if ((s.fn (t + 1)).dev.filter hit).any fun p => s.inFlight (t + 1) 0 p.va p.size then s.setTaken r false
      else
        let s := s.modFn (t + 1) fun f => { f with
          dev := f.dev.filter fun p => !hit p, grants := f.grants.filter fun g => g != (k.w 1, k.w 2) }
        s.clearFor [{ addr := a, bytes := n, cmd := some r, fn := t + 1 }]

/-- R352: FW_POOL. -/
def State.fwPool (s : State) (r : CmdRef) : State :=
  s.onCmd r 0x0307 fun k s =>
    if k.w 2 < 32 ∨ s.memBytes < (k.w 1 + k.w 2) * 2 ^ 21 then s.reply r stBadParam 2
    else if s.boot.models.any (·.2.isSome) || !s.startedCams.isEmpty || s.fns.any (fun e => !e.2.grants.isEmpty) then s.reply r stConflict
    else { s with boot := { s.boot with pool := some (k.w 1, k.w 2) } }.reply r stOk

/-! ### Host rings of a camera (R479) -/

/-- R156, R77, R124, R337: bytes of a camera's host rings: output, ledger mirror, statistics mirror, audit. -/
def State.ringBytes (s : State) (n i : Nat) : Nat :=
  if i = 0 then s.fld F.CAM_OUT_RING_count n * s.fld F.CAM_OUT_RING_slot_pages n * 4096
  else if i = 2 then 16 * (if s.nExpo n = 1 then 8192 else if s.nExpo n = 2 then 12288 else 20480)
  else 4096

/-- R354, R479: a range of a tenant's HOST space is mapped. -/
def State.hostMapped (s : State) (f a n : Nat) : Bool :=
  f == 0 || (cutPieces a n).all fun p => ((findPage (s.fn f).host p.1).any (·.present))

/-- R479: CAM_RINGS. -/
def State.camRings (s : State) (r : CmdRef) : State :=
  s.onCmd r 0x0106 fun k s =>
    let n := k.cam
    let chosen := (List.range 4).filter fun i => bit (k.w 5) i
    let addr := fun i => k.w (i + 1) / 4096 * 4096
    if s.stream n ≠ 0 then s.reply r stConflict
    else
      match chosen.find? fun i => !s.hostMapped r.fn (addr i) (s.ringBytes n i) with
      | some i => s.reply r stBadParam (i + 1)
      | none =>
        let put := fun (s : State) (lo hi : RegName) (i : Nat) =>
          if bit (k.w 5) i then s.setPair lo hi n (addr i + 1) else s.setRegN lo n (s.regN lo n / 2 * 2)
        let s := if bit (k.w 5) 0 then s.setPair .CAM_OUT_BASE_LO .CAM_OUT_BASE_HI n (addr 0) else s
        let s := put s .CAM_LEDGER_HOST_LO .CAM_LEDGER_HOST_HI 1
        let s := put s .CAM_STATS_HOST_LO .CAM_STATS_HOST_HI 2
        let s := put s .CAM_ADAPT_AUDIT_LO .CAM_ADAPT_AUDIT_HI 3
        let locks := if r.fn = 0 then [] else chosen.map fun i => (addr i, s.ringBytes n i)
        (s.modCam n fun c => { c with locks := c.locks ++ locks }).reply r stOk

end Sys2Proof.Machine
end

