-- ==== Sys2Proof/Machine/Models.lean ====
section
/-! DEFINITION. Models: load, unload, bind, the tables they fill, pinned regions, and calibration capture (R142, R168,
R226, R240, R241, R243, R255, R258, R267, R272, R300, R301, R317, R352, R366, R375, R376). -/
namespace Sys2Proof.Machine

/-- R388: a security counter. -/
def State.secCount (s : State) (r : RegName) : State := s.bump r 0 clsSec (srcBlock 0x0010)

/-! ### Load rules -/

/-- Cores of a stage group that an image's programs go to. -/
def State.imageCores (s : State) (g : Nat) (m : ModelImg) : List (Nat × CoreProg) := (s.groupCores g).zip m.cores

/-- R168, R175, R226, R243, R272: core i has room for a program beside those resident on it. -/
def State.coreFits (s : State) (i : Nat) (p : CoreProg) : Bool :=
  let x := s.core i
  decide (x.store.length + p.instrs.length ≤ 4096) && decide (x.layers.length + p.layers.length ≤ 256) &&
  decide (x.grids.length + p.grids.length ≤ 128) && decide (x.descs.length + p.descs.length ≤ 1024) &&
  decide (p.spad ≤ s.regN .LC_SPAD_SIZE i)

/-- R226: a layer record's policy is OFF or AUTO. -/
def policyOk (rec_ : List Byte) : Bool := decide (leAt rec_ 4 1 < 128)

/-- R317: the head layers run on one core and their primary weights total at most 64 KiB. -/
def HeadDecl.ok (d : HeadDecl) : Bool := decide (d.cores.length ≤ 1) && decide (d.primary ≤ 0x10000)

/-- R300, R301: the ways a mask names. -/
def waysOf (m : Nat) : List Nat := (List.range 16).filter (bit m)

/-- R301: a region may be pinned: as many ways as 2 MiB units, inside the memory, every way free, and none of them way 15. -/
def State.pinOk (s : State) (p : Nat × Nat × BitVec 16) : Bool :=
  let ws := waysOf p.2.2.toNat
  decide (ws.length = p.2.1) && decide (1 ≤ p.2.1) && decide ((p.1 + p.2.1) * 2 ^ 21 ≤ s.memBytes) &&
  !ws.contains 15 && ws.all fun w => s.owner (64 + w) == 0

/-- R301: regions not in use. -/
def State.freePins (s : State) : List Nat := (List.range 8).filter fun i => !s.flag F.HLD_PIN_BASE_valid i

/-- R258: work counters of a group that no loaded stage uses. -/
def State.freeCounters (s : State) (g : Nat) : List Nat :=
  (List.range 32).filter fun w => !s.flag F.HLD_WC_CFG_active (32 * g + w)

/-- R142, R168 to R317: the load rules: the status, and the parameter at fault. -/
def State.loadRules (s : State) (g : Nat) (m : ModelImg) : Nat × Nat :=
  if !s.isFirst g || decide ((s.groupCores g).length ≠ m.size) || decide (m.cores.length ≠ m.size) then (stBadParam, 1)
  else if !m.cores.all (fun p => p.layers.all policyOk) || !m.head.all HeadDecl.ok then (stBadParam, 0)
  else if !(s.imageCores g m).all (fun e => s.coreFits e.1 e.2) then (stNoResource, 0)
  else if (s.freeCounters g).length < m.stages.length ∨ (s.freePins).length < m.pins.length then (stNoResource, 0)
  else if s.poolRange.2 < m.weightBase + m.weights.length then (stNoResource, 0)
  else if !m.pins.all s.pinOk || decide ((m.pins.map fun p => waysOf p.2.2.toNat).flatten.eraseDups.length ≠
    (m.pins.map fun p => waysOf p.2.2.toNat).flatten.length) then (stConflict, 0)
  else (stOk, 0)

/-! ### Pinned regions (R300, R301, R363) -/

/-- R301: a region is pinned: every line held in its ways is written back and dropped, and it holds the ways. Its base field
shows the low 11 bits of the base. -/
def State.pin (s : State) (i : Nat) (p : Nat × Nat × BitVec 16) : State :=
  let ws := waysOf p.2.2.toNat
  let s := (s.hold.lines.filter fun x => ws.contains x.way).foldl (fun s x => s.evict x) s
  let s := s.modHold fun h => { h with pinBase := h.pinBase.set i p.1 }
  let s := (s.setFld F.HLD_PIN_BASE_base i (p.1 % 2 ^ 11)).setFld F.HLD_PIN_BASE_valid i 1
  let s := (s.setFld F.HLD_PIN_SIZE_size i (p.2.1 - 1)).setFld F.HLD_PIN_WAYS_ways i p.2.2.toNat
  ws.foldl (fun s w => s.setFld F.PIN_OWN_holder (64 + w) (0x10 + i)) s

/-- R300: a region is unpinned: its dirty lines are written back, or dropped with what a scrub clears, and its ways are free. -/
def State.unpin (s : State) (i : Nat) (writeBack : Bool) : State :=
  let ws := waysOf (s.fld F.HLD_PIN_WAYS_ways i)
  let gone := s.hold.lines.filter fun x => ws.contains x.way
  let s := if writeBack then gone.foldl (fun s x => s.evict x) s
    else s.modHold fun h => h.drop fun x => ws.contains x.way
  let s := ((s.setRegN .HLD_PIN_BASE i 0).setRegN .HLD_PIN_SIZE i 0).setRegN .HLD_PIN_WAYS i 0
  ws.foldl (fun s w => s.setFld F.PIN_OWN_holder (64 + w) 0) s

/-! ### Load (R352, R366, R375) -/

/-- R258, R265, R267: a stage's work counter and barrier are configured. -/
def State.putStage (s : State) (g h : Nat) (ws : List Nat) (t : Nat) (d : StageDecl) : State :=
  let w := ws.getD t 0
  let s := s.setCounter g w { handle := h, cores := d.cores.map fun o => (g + o) % 16, ctxs := d.ctxs, entry := d.entry, stop := d.stop
                              plane := d.plane, out := d.out, stage := t
                              temporal := d.temporal, final := d.final, encoder := d.encoder
                              inputs := d.inputs.map fun v => ws.getD v 0, slots := d.slots }
  ((s.configStage g w d).setRegN .HLD_WC_NEXT (32 * g + w) 0).configBarrier g d

/-- A list turned so that it begins at place k: firmware's free choice among equals. -/
def turned {α : Type} (l : List α) (k : Nat) : List α := l.drop (k % max 1 l.length) ++ l.take (k % max 1 l.length)

/-- R352: the handle firmware gives: the first from h on that no loaded model has. -/
def freeHandle (ms : Tab (Option ModelS)) (h : Nat) : Nat → Nat
  | 0 => h
  | k + 1 => if (ms.get h).isSome then freeHandle ms ((h + 1) % 65536) k else h

/-- R376: what is sealed of an encrypted model: its weights, and the pinned regions. -/
def State.sealsOf (s : State) (m : ModelImg) : List (Nat × Nat) :=
  (s.poolRange.1 + m.weightBase, m.weights.length) :: m.pins.map fun p => (p.1 * 2 ^ 21, p.2.1 * 2 ^ 21)

/-- R142, R366, R375: the programs, tables, weights, counters and regions of an image are put in place, under a handle
firmware chooses; the answer is the handle. -/
def State.putModel (s : State) (f g : Nat) (m : ModelImg) (encrypted : Bool) : Nat × State :=
  let a := s.takeFree
  let b := a.2.takeFree
  let c := b.2.takeFree
  let s := c.2
  let h := freeHandle s.boot.models (a.1 % 65536) (s.boot.models.length + 1)
  let ws := (turned (s.freeCounters g) b.1).take m.stages.length
  let ps := (turned s.freePins c.1).take m.pins.length
  let x : ModelS := { fn := f, first := g, cores := m.size, encrypted := encrypted, meas := Config.sm3 m.plain, img := m
                      sealed_ := if encrypted then s.sealsOf m else [], pins := ps, counters := ws
                      headMeas := m.head.elim [] fun d => Config.sm3 d.base }
  let s := { s with boot := { s.boot with models := s.boot.models.set h (some x) } }
  let s := s.memW s.asOwner (s.poolRange.1 + m.weightBase) m.weights
  let s := match m.head with
    | some d => s.memW s.asOwner (s.poolRange.1 + m.weightBase + d.at_) d.base
    | none => s
  let s := (s.imageCores g m).foldl (fun s e => (s.loadProg e.1 e.2).modCore e.1 fun y => { y with resident := y.resident ++ [h] }) s
  let s := (List.range m.stages.length).foldl (fun s t => s.putStage g h ws t (m.stages.getD t default)) s
  (h, (ps.zip m.pins).foldl (fun s e => s.pin e.1 e.2) s)

/-- R352, R366: the load rules are applied, and the model is loaded or refused. -/
def State.loadModel (s : State) (r : CmdRef) (g : Nat) (m : ModelImg) (encrypted : Bool) : State :=
  let c := s.loadRules g m
  if c.1 = stOk then
    let x := s.putModel r.fn g m encrypted
    x.2.reply r stOk 0 x.1 (leAt (Config.sm3 m.plain) 0 8)
  else s.reply r c.1 c.2

/-- R374, R375: key slot 8 · f + i is the issuer's and holds a key. -/
def State.keyFor (s : State) (f slot : Nat) : Option KeyS := if slot / 8 = f then s.sec.keys.get slot else none

/-- R375: the record accepts the image: its tags verify, and the measurement agrees. -/
def KeyS.accepts (k : KeyS) (m : ModelImg) : Bool :=
  Config.gcmOk k.key m.raw && (k.meas == List.replicate 32 0 || k.meas == Config.sm3 m.plain)

/-- R375: an encrypted image: the slot is consumed; the load goes on, or the pages it wrote are cleared before DENIED. -/
def State.loadEncrypted (s : State) (r : CmdRef) (g slot : Nat) (k : KeyS) (m : ModelImg) : State :=
  let s := { s with sec := { s.sec with keys := s.sec.keys.set slot none } }
  if k.accepts m then s.loadModel r g m true
  else
    let n := min m.weights.length (s.poolRange.2 - m.weightBase)
    (s.secCount .SEC_CNT_KEY_DENIED).clearFor
      [{ addr := s.poolRange.1 + m.weightBase, bytes := n, cmd := some r, status := stDenied, fn := r.fn }]

/-- R352, R375, R381: MODEL_LOAD, with the image that firmware reads at the address given. A load with a key slot waits
for the security engine while it resets. -/
def State.modelLoad (s : State) (r : CmdRef) (m : ModelImg) : State :=
  s.onCmd r 0x0201 fun k s =>
    let g := getBits (k.w 1) 32 4
    let slot := getBits (k.w 1) 40 8
    if slot = 0xFF then s.withRead r (getBits (k.w 1) 0 32) fun s => s.loadModel r g m false
    else if s.fld F.SEC_STATUS_engine = 2 then { s with sec := { s.sec with waiting := s.sec.waiting ++ [r] } }
    else
      match s.keyFor r.fn slot with
      | none => (s.secCount .SEC_CNT_KEY_DENIED).reply r stDenied
      | some x => s.withRead r (getBits (k.w 1) 0 32) fun s => s.loadEncrypted r g slot x m

/-! ### Unload, bind, info -/

/-- R168, R197: the tables of core i hold the programs of its resident models and nothing else. -/
def State.rebuildCore (s : State) (i : Nat) : State :=
  let s := s.modCore i fun x => { x with store := [], layers := [], grids := [], descs := [] }
  let s := s.resetRegs fun r k => (r == .LC_PAD || r == .LC_DMAQ_CFG || r == .LC_DESC_COUNT) && k / r.info.sub == i
  s.reloadCore i

/-- R352, R300: a model's programs, counters and regions are removed, and cameras bound to it have no graph. -/
def State.dropModel (s : State) (h : Nat) (m : ModelS) (writeBack : Bool) : State :=
  let s := { s with boot := { s.boot with models := s.boot.models.set h none } }
  let cores := (List.range m.cores).map fun k => (m.first + k) % 16
  let s := cores.foldl (fun s i => (s.modCore i fun x => { x with resident := x.resident.filter (· != h) }).rebuildCore i) s
  let s := m.counters.foldl (fun s w => (s.setCounter m.first w {}).setRegN .HLD_WC_CFG (32 * m.first + w) 0x640000) s
  let s := m.pins.foldl (fun s i => s.unpin i writeBack) s
  { s with cams := s.cams.map fun e => if e.2.model = some h then (e.1, { e.2 with model := none }) else e }

/-- R352: some camera that is not stopped has this graph. -/
def State.modelBusy (s : State) (h : Nat) : Bool := s.cams.any fun e => e.2.model == some h && s.stream e.1 != 0

/-- R352, R376: MODEL_UNLOAD: an encrypted model's pages are cleared before the reply. -/
def State.modelUnload (s : State) (r : CmdRef) : State :=
  s.onCmd r 0x0202 fun k s =>
    let h := getBits (k.w 0) 0 16
    match s.boot.models.get h with
    | none => s.reply r stDenied
    | some m =>
      if s.modelBusy h then s.reply r stConflict
      else
        let s := s.dropModel h m true
        match m.sealed_.reverse with
        | [] => s.reply r stOk
        | l :: rest =>
          let c := fun (x : Nat × Nat) (w : Option CmdRef) => ({ addr := x.1, bytes := x.2, cmd := w, fn := r.fn } : ClearS)
          s.clearFor ((rest.reverse.map fun x => c x none) ++ [c l (some r)])

/-- R352, R165: MODEL_BIND. -/
def State.modelBind (s : State) (r : CmdRef) : State :=
  s.onCmd r 0x0203 fun k s =>
    if s.stream k.cam ≠ 0 then s.reply r stConflict
    else (s.modCam k.cam fun c => { c with model := some (getBits (k.w 0) 16 16) }).reply r stOk

/-- R352: MODEL_INFO. -/
def State.modelInfo (s : State) (r : CmdRef) : State :=
  s.onCmd r 0x0205 fun k s =>
    match s.boot.models.get (getBits (k.w 0) 0 16) with
    | none => s.reply r stDenied
    | some m => s.reply r stOk 0 (m.cores + m.img.head.elim 0 (·.layers) * 2 ^ 16) (leAt m.meas 8 8)

/-! ### Calibration capture (R240, R241) -/

/-- R240: CALIB_CAPTURE. -/
def State.calibCapture (s : State) (r : CmdRef) : State :=
  s.onCmd r 0x0204 fun k s =>
    let n := k.cam
    if getBits (k.w 0) 16 8 = 0 then s.reply r stBadParam 0
    else if (s.cam n).capture.isSome then s.reply r stConflict
    else s.modCam n fun c => { c with
      capture := some { cmd := r, left := getBits (k.w 0) 16 8, addr := k.w 1, bytes := getBits (k.w 2) 0 32 } }

/-- R241: one layer block: record r of core i on frame f, whose layer record is l. -/
def layerBlock (f : FrameS) (i r : Nat) (l : Layer) : List Byte :=
  let t := f.totals.get (256 * i + r)
  let chan := fun (e : Nat) =>
    let v := lookupD f.ranges (1024 * (256 * i + r) + (l.eBase + e) % 1024) (0x7FFFFFFF, -0x80000000, 0, 0)
    leBytes 4 (ofSigned 32 v.1) ++ leBytes 4 (ofSigned 32 v.2.1) ++ leBytes 4 v.2.2.1 ++ leBytes 4 v.2.2.2
  leBytes 1 r ++ leBytes 1 i ++ leBytes 2 l.nCh ++ leBytes 4 t.produced ++ leBytes 4 t.clipped ++ leBytes 1 t.flags ++
  leBytes 19 0 ++ ((List.range l.nCh).map chan).flatten

/-- R241: the layer blocks of a frame, in ascending order of core and record. -/
def State.layerBlocks (s : State) (n q : Nat) : List (List Byte) :=
  let f := s.frame n q
  ((List.range 4096).filter fun k => f.totals.any fun e => e.1 == k).map fun k =>
    layerBlock f (k / 256) (k % 256) (s.layer (k / 256) (k % 256))

/-- Whole blocks that fit in n bytes. -/
def fitBlocks : Nat → List (List Byte) → List (List Byte)
  | _, [] => []
  | n, b :: bs => if b.length ≤ n then b :: fitBlocks (n - b.length) bs else []

/-- R240, R241: after the slot header of a captured frame its record is written; after the last, the command ends. -/
def State.captureRecord (s : State) (n q : Nat) : State :=
  match (s.cam n).capture with
  | none => s
  | some c =>
    if !c.frames.contains q then s
    else
      let all := s.layerBlocks n q
      let room := c.bytes - c.used
      let fit := if room < 32 then [] else fitBlocks (room - 32) all
      let rec_ := leBytes 4 q ++ leBytes 4 n ++ leBytes 4 fit.length ++ leBytes 20 0 ++ fit.flatten
      let wrote := decide (32 ≤ room)
      let c := { c with frames := c.frames.filter (· != q), used := if wrote then c.used + rec_.length else c.used
                        records := c.records + b2n wrote, cut := c.cut || decide (fit.length < all.length) || !wrote }
      let s := if wrote then s.hostWrite c.cmd.fn (c.addr + c.used - rec_.length) rec_ else s
      if c.left = 0 ∧ c.frames = [] then
        (s.modCam n fun x => { x with capture := none }).reply c.cmd (if c.cut then stNoResource else stOk) 0 c.records
      else s.modCam n fun x => { x with capture := some c }

/-- R153, R240: the slot header's BARRIER completion returns: the frame is DONE. -/
def State.headerComplete (s : State) (n q : Nat) : State :=
  if (s.frame n q).seq = q ∧ (s.frame n q).live ∧ (s.frame n q).hdr then (s.finalize n q 3).captureRecord n q else s

end Sys2Proof.Machine
end

