-- ==== Sys2Proof/Machine/Mailbox.lean ====
section
/-! DEFINITION. Mailboxes, pin claims and GPIO (R358 to R363, R458). -/
namespace Sys2Proof.Machine

/-! ### Mailboxes (R358 to R361) -/

/-- R359: data words and control word of a receiver end in a function window: channel 0 to 3 from CP0 to CP3, 4 from
Safelight. -/
def rxData (c : Nat) : RegName :=
  if c = 0 then .MBX_CP0_DATA else if c = 1 then .MBX_CP1_DATA else if c = 2 then .MBX_CP2_DATA
  else if c = 3 then .MBX_CP3_DATA else .MBX_RSFL_DATA
def rxCtl (c : Nat) : RegName :=
  if c = 0 then .MBX_CP0_CTL else if c = 1 then .MBX_CP1_CTL else if c = 2 then .MBX_CP2_CTL
  else if c = 3 then .MBX_CP3_CTL else .MBX_RSFL_CTL

/-- R359: full of a receiver end. -/
def State.rxFull (s : State) (f c : Nat) : Bool := bit (s.regN (rxCtl c) f) 31

/-- R360: a message is copied into a receiver end of function f, full sets and the receive vector is raised. -/
def State.deliverMsg (s : State) (f c : Nat) (m : List Word) : State :=
  let s := (List.range m.length).foldl (fun s j => s.setReg (rxData c) (16 * f + j) (m.getD j 0)) s
  (s.setRegN (rxCtl c) f (2 ^ 31 + (m.length - 1) % 16)).raise f (s.fld F.FN_MBX_VEC_receive f)

/-- R358, R360: firmware (channels 0 to 3) or Safelight (4) sends a message to function f; while the channel is full the
message waits. -/
def State.sendTo (s : State) (f c : Nat) (m : List Word) : State :=
  if s.rxFull f c then s.modFn f fun x => { x with fwOut := x.fwOut ++ [(c, m)] } else s.deliverMsg f c m

/-- R360: the receiver's read of word len − 1 clears full; the sender may send what waits. -/
def State.rxTaken (s : State) (f c : Nat) : State :=
  let s := s.setRegN (rxCtl c) f (s.regN (rxCtl c) f % 2 ^ 31)
  match (s.fn f).fwOut.find? fun e => e.1 == c with
  | none => s
  | some e => (s.modFn f fun x => { x with fwOut := x.fwOut.erase e }).deliverMsg f c e.2

/-- R360: function f reads word j of receiver end c: the value, and what the read does. -/
def State.rxRead (s : State) (f c j : Nat) : Nat × State :=
  let len := s.regN (rxCtl c) f % 16 + 1
  if len ≤ j then (0, s)
  else
    let v := s.regN (rxData c) (16 * f + j)
    (v, if j + 1 = len && s.rxFull f c then s.rxTaken f c else s)

/-- R360: the read of the last word of the message that a receiver end holds. -/
def State.rxReadLast (s : State) (f c : Nat) : State :=
  let r := s.rxRead f c (s.regN (rxCtl c) f % 16)
  r.2.emit (.readData f (BitVec.ofNat 32 r.1))

/-- R359: sender ends of a window: the channel to firmware, and the owner's to Safelight. -/
def txData (sfl : Bool) : RegName := if sfl then .MBX_SFL_DATA else .MBX_FW_DATA
def txCtl (sfl : Bool) : RegName := if sfl then .MBX_SFL_CTL else .MBX_FW_CTL

/-- R359: a write of a sender's control word that does not send: len_minus1 is RW and refused W1C. -/
def State.txConfig (s : State) (f : Nat) (sfl : Bool) (v : Nat) : State :=
  let w := putBits (s.regN (txCtl sfl) f) 0 4 (getBits v 0 4)
  s.setRegN (txCtl sfl) f (if bit v 30 then putBits w 30 1 0 else w)

/-- R360: a write with send = 1: refused while full is 1, else the message goes to firmware or Safelight. -/
def State.txSend (s : State) (f : Nat) (sfl : Bool) (v : Nat) : State :=
  if bit (s.regN (txCtl sfl) f) 31 then s.setRegN (txCtl sfl) f (setBit (s.regN (txCtl sfl) f) 30)
  else
    let s := s.txConfig f sfl v
    let m := (List.range (getBits v 0 4 + 1)).map fun j => s.reg (txData sfl) (16 * f + j)
    let s := s.setRegN (txCtl sfl) f (setBit (s.regN (txCtl sfl) f) 31)
    if sfl then { s with sfl := { s.sfl with inbox := s.sfl.inbox ++ [m] } } else s.modFn f fun x => { x with fwMsg := some m }

/-- R359, R360: a write of a sender's control word. -/
def State.txWrite (s : State) (f : Nat) (sfl : Bool) (v : Nat) : State :=
  if bit v 8 then s.txSend f sfl v else s.txConfig f sfl v

/-- R360: the receiver has read the message: full clears and the sender's space vector is raised. -/
def State.txTaken (s : State) (f : Nat) (sfl : Bool) : State :=
  (s.setRegN (txCtl sfl) f (s.regN (txCtl sfl) f % 2 ^ 31)).raise f (s.fld F.FN_MBX_VEC_space f)

/-- R361: an answer: its type, the tag of the message, and further words. -/
def answer (typ : Nat) (m : List Word) (rest : List Word) : List Word :=
  BitVec.ofNat 32 (typ + (m.getD 0 0).toNat / 2 ^ 16 * 2 ^ 16) :: rest

/-- R361: the type of a message. -/
def msgType (m : List Word) : Nat := (m.getD 0 0).toNat % 2 ^ 16

/-- R361: firmware, on control processor cp, reads the message of function f and answers PONG, or 0x80FF. -/
def State.ping (s : State) (f cp : Nat) : State :=
  match (s.fn f).fwMsg with
  | none => s
  | some m =>
    let s := (s.modFn f fun x => { x with fwMsg := none }).txTaken f false
    if msgType m = 1 then s.sendTo f cp (answer 0x8001 m (m.drop 1)) else s.sendTo f cp (answer 0x80FF m [])

/-- R361, R445: functions in service: the owner, and the tenants that are ACTIVE. -/
def State.activeFns (s : State) : List Nat := (List.range 9).filter fun f => f == 0 || s.fld F.FN_ID_state f == 1

/-- R361: NOTICE to every active function, with the expected duration in µs, from a control processor of firmware's
choice. -/
def State.notice (s : State) (us : Nat) : State :=
  s.activeFns.foldl (fun s f =>
    let a := s.takeFree
    a.2.sendTo f (a.1 % 4) [0x8002, BitVec.ofNat 32 us]) s

/-! ### GPIO (R458) -/

/-- R458: the level the device drives on GPIO[i]. -/
def State.driven (s : State) (i : Nat) : Option Bool :=
  if s.owner i = 1 ∧ bit (s.fld F.PIN_GPIO_DIR_oe) i then some (bit (s.fld F.PIN_GPIO_OUT_value) i) else none

/-- R458: pins whose driven level differs from an earlier state's. -/
def State.driveFrom (s old : State) : State :=
  (List.range 16).foldl (fun s i => if s.driven i = old.driven i then s else s.emit (.gpio i (s.driven i))) s

/-! ### Claims (R362, R363) -/

/-- R362: a claimable resource. -/
def claimable (r : Nat) : Bool := decide (r ≤ 20) || (decide (32 ≤ r) && decide (r ≤ 78))

/-- R363: a register claim or release is refused. -/
def State.claimRefused (s : State) (r : Nat) : State :=
  ((s.setFld F.PIN_CLAIM_STATUS_refused 0 1).setFld F.PIN_CLAIM_STATUS_holder 0 (if r < 128 then s.owner r else 0)).setFld
    F.PIN_CLAIM_STATUS_resource 0 r

/-- R363: a write of PIN_CLAIM with release 0. -/
def State.pinClaim (s : State) (v : Nat) : State :=
  let r := getBits v 0 8
  let c := getBits v 8 8
  if claimable r && decide (1 ≤ c) && decide (c ≤ 4) && s.owner r == 0 then (s.setFld F.PIN_OWN_holder r c).driveFrom s
  else s.claimRefused r

/-- R111: a SYNC_OUT pin that is no longer granted is driven no more; a pulse under way still ends in its time. -/
def State.syncUngrant (s : State) (r : Nat) : State :=
  if 16 ≤ r ∧ r < 20 ∧ (s.time.outs.get (r - 16)).level then
    (s.modTime fun t => { t with outs := t.outs.modify (r - 16) fun o => { o with level := false } }).emit (.syncOut (r - 16) false)
  else s

/-- R363: a write of PIN_CLAIM with release 1. -/
def State.pinRelease (s : State) (v : Nat) : State :=
  let r := getBits v 0 8
  let c := getBits v 8 8
  if claimable r && decide (1 ≤ c) && decide (c ≤ 4) && s.owner r == c then ((s.setFld F.PIN_OWN_holder r 0).driveFrom s).syncUngrant r
  else s.claimRefused r

/-- R363: a write of PIN_CLAIM. -/
def State.pinClaimWrite (s : State) (v : Nat) : State := if bit v 31 then s.pinRelease v else s.pinClaim v

end Sys2Proof.Machine
end

