-- ==== Sys2Proof/Machine/Security.lean ====
section
/-! DEFINITION. The security engine, key release, attestation, tenants and scrubs, and the firmware switch (R364 to
R388, R443 to R448). -/
namespace Sys2Proof.Machine

def State.modSec (s : State) (f : SecS → SecS) : State := { s with sec := f s.sec }
def State.modBoot (s : State) (f : BootS → BootS) : State := { s with boot := f s.boot }

/-! ### Measurements (R366, R367) -/

/-- R366: measurement indices. -/
def mRom : Nat := 0
def mFw : Nat := 1
def mStaged : Nat := 2
def mSfl : Nat := 3
def mPriv : Nat := 4

/-- R367: SEC_MEAS shows a digest, byte 4j lowest in word j. -/
def State.showMeas (s : State) (m : Nat) (d : List Byte) : State :=
  (List.range 8).foldl (fun s j => s.setRegN .SEC_MEAS (8 * m + j) (leAt d (4 * j) 4)) s

/-- R366: measurement m takes a digest, and firmware keeps its copy (R381). -/
def State.setMeas (s : State) (m : Nat) (d : List Byte) : State :=
  (s.modSec fun x => { x with meas := x.meas.set m d }).showMeas m d

/-- R370: 32 bytes of a measurement in force. -/
def State.measBytes (s : State) (m : Nat) : List Byte := ((List.range 8).map fun j => leBytes 4 (s.regN .SEC_MEAS (8 * m + j))).flatten

/-- R369: the identity key is derived, and SEC_ID_PUB shows its public key. -/
def State.deriveIdentity (s : State) : State :=
  let p := Config.sm2Public (Config.identityKey Config.deviceSecret)
  (List.range 16).foldl (fun s j => s.setRegN .SEC_ID_PUB j (leAt p (4 * j) 4)) s

/-! ### Keys (R373, R374) -/

/-- R381: the engine resets itself; its commands reply BUSY meanwhile. -/
def State.resetting (s : State) : Bool := s.fld F.SEC_STATUS_engine == 2

/-- R381: BUSY with the remaining time in µs, rounded up, at least 1. -/
def State.engineBusy (s : State) (r : CmdRef) : State := s.reply r stBusy (max 1 (ceilDiv (s.sec.resetEnd - s.now) 1000))

/-- R373: the pending ephemeral key of a function, until 60 s have passed since it was made. -/
def State.ephOf (s : State) (f : Nat) : Option (Nat × Nat) := (s.sec.eph.get f).filter fun e => decide (s.now ≤ e.1 + 60000000000)

/-- R373: KEY_EPHEMERAL. -/
def State.keyEphemeral (s : State) (r : CmdRef) : State :=
  s.onCmd r 0x0402 fun k s =>
    if s.resetting then s.engineBusy r
    else
      let a := s.takeFree
      let s := a.2.modSec fun x => { x with eph := x.eph.set r.fn (some (a.2.now, a.1)) }
      (s.hostWrite r.fn (k.w 1) (bytesAt (Config.sm2Public a.1) 0 64)).reply r stOk

/-- R373: a pending ephemeral key is destroyed once 60 s have passed. -/
def State.keyExpiry (s : State) (f : Nat) : State :=
  match s.sec.eph.get f with
  | some e => if e.1 + 60000000000 < s.now then s.modSec fun x => { x with eph := x.eph.set f none } else s
  | none => s

/-- R374: the free key slots of a function. -/
def State.freeSlots (s : State) (f : Nat) : List Nat :=
  ((List.range 8).map (8 * f + ·)).filter fun i => (s.sec.keys.get i).isNone

/-- R374: KEY_IMPORT is refused. -/
def State.keyDenied (s : State) (r : CmdRef) : State := (s.secCount .SEC_CNT_KEY_DENIED).reply r stDenied

/-- R374: KEY_IMPORT, with the blob that the host gives: it is decrypted with the issuer's ephemeral key, which is
destroyed, and the record goes into a free slot. -/
def State.keyImport (s : State) (r : CmdRef) (blob : List Byte) : State :=
  s.onCmd r 0x0403 fun k s =>
    if s.resetting then s.engineBusy r
    else if s.flag F.SEC_STATUS_update_pending then s.reply r stUpdatePending
    else s.withRead r (k.w 2) fun s =>
      match s.ephOf r.fn with
      | none => s.keyDenied r
      | some e =>
        if k.w 2 ≠ 161 ∨ blob.length ≠ 161 then s.keyDenied r
        else
          let s := s.modSec fun x => { x with eph := x.eph.set r.fn none }
          match Config.sm2Decrypt e.2 blob, s.freeSlots r.fn with
          | some p, i :: _ =>
            if bytesAt p 52 12 = List.replicate 12 0 then
              let x : KeyS := { key := bytesAt p 0 16, meas := bytesAt p 16 32, id := leAt p 48 4 }
              let s := s.modSec fun y => { y with keys := y.keys.set i (some x) }
              (s.secCount .SEC_CNT_KEY_IMPORT).reply r stOk 0 i
            else s.keyDenied r
          | _, _ => s.keyDenied r

/-- R379, R381: a function holds an unused key slot or a pending ephemeral key. -/
def State.holdsKey (s : State) (f : Nat) : Bool := (s.ephOf f).isSome || decide ((s.freeSlots f).length < 8)

/-- R379, R381: every unused key slot and ephemeral key is cleared, and each function that held one gets KEY_REVOKED. -/
def State.revokeKeys (s : State) : State :=
  let fs := (List.range 9).filter s.holdsKey
  let s := s.modSec fun x => { x with eph := [], keys := [] }
  fs.foldl (fun s f => s.event f 0x0004 0 0) s

/-- R383: a function's key slots and ephemeral key are cleared. -/
def State.clearKeys (s : State) (f : Nat) : State :=
  s.modSec fun x => { x with eph := x.eph.set f none, keys := x.keys.filter fun e => e.1 / 8 ≠ f }

/-! ### Attestation (R370, R371) -/

/-- Ascending order of a list of numbers, without repeats. -/
def sortNat (l : List Nat) : List Nat := l.foldr insertNat []

/-- R370: the entry of a loaded model. -/
def ModelS.entry (m : ModelS) (h : Nat) : List Byte :=
  leBytes 2 h ++ leBytes 1 m.fn ++ leBytes 1 (b2n m.encrypted + 2 * b2n m.img.head.isSome) ++ leBytes 1 m.first ++
  leBytes 1 m.cores ++ leBytes 10 0 ++ bytesAt m.meas 0 32

/-- R336, R370: the head-set digest bound to a camera's latest frame; without a head descriptor, the model's measurement. -/
def State.headDigest (s : State) (n : Nat) (m : ModelS) : List Byte :=
  match m.img.head with
  | none => bytesAt m.meas 0 32
  | some _ =>
    let x := (s.adaptOf n).digests.get (s.cam n).headNow
    bytesAt (if x.isEmpty then m.headMeas else x) 0 32

/-- R370: the entry of a camera with a bound graph. -/
def State.camEntry (s : State) (n h : Nat) (m : ModelS) : List Byte :=
  leBytes 2 n ++ leBytes 1 (s.cam n).holder ++ leBytes 1 (s.stream n) ++ leBytes 2 h ++ leBytes 2 0 ++ s.headDigest n m

/-- R370: loaded models by handle, in ascending order. -/
def State.loaded (s : State) : List (Nat × ModelS) :=
  (sortNat (s.boot.models.map (·.1))).filterMap fun h => (s.boot.models.get h).map fun m => (h, m)

/-- R370: cameras with a bound graph, ascending. -/
def State.boundCams (s : State) : List (Nat × Nat × ModelS) :=
  (sortNat (s.cams.map (·.1))).filterMap fun n => (s.cam n).model.bind fun h => (s.boot.models.get h).map fun m => (n, h, m)

/-- R370, R371: the report, taken now for an issuer with a nonce, without its signature. -/
def State.reportBody (s : State) (f nonce : Nat) : List Byte :=
  let ms := s.loaded
  let cs := s.boundCams
  let cert := Config.certificate.take 2048
  let total := 320 + 48 * ms.length + 40 * cs.length + cert.length + 64
  let eph := match s.ephOf f with
    | some e => bytesAt (Config.sm3 (bytesAt (Config.sm2Public e.2) 0 64)) 0 32
    | none => leBytes 32 0
  leBytes 4 0x54415A4C ++ leBytes 2 1 ++
  leBytes 2 (s.fld F.SEC_STATUS_update_pending + 2 * b2n (s.sec.recovered.contains f)) ++ leBytes 8 nonce ++ leBytes 8 s.now ++
  leBytes 1 f ++ leBytes 1 (s.fld F.SYN_STATUS_state) ++ leBytes 2 0 ++ leBytes 2 (s.fld F.SEC_STATUS_svn_run) ++
  leBytes 2 (s.fld F.SEC_STATUS_svn_min) ++ ((List.range 16).map fun j => leBytes 4 (s.regN .SEC_ID_PUB j)).flatten ++
  ((List.range 5).map s.measBytes).flatten ++ leBytes 4 ms.length ++ leBytes 4 cs.length ++ leBytes 4 cert.length ++
  leBytes 4 total ++ eph ++ leBytes 16 0 ++ (ms.map fun e => e.2.entry e.1).flatten ++
  (cs.map fun e => s.camEntry e.1 e.2.1 e.2.2).flatten ++ cert

/-- R370, R371, R379, R381: ATTEST. -/
def State.attest (s : State) (r : CmdRef) : State :=
  s.onCmd r 0x0401 fun k s =>
    if s.resetting then s.engineBusy r
    else
      let body := s.reportBody r.fn (k.w 0)
      let total := body.length + 64
      if k.w 2 < total then s.reply r stNoResource 0 total
      else
        let sig := bytesAt (Config.sm2Sign (Config.identityKey Config.deviceSecret) body) 0 64
        let st := if s.flag F.SEC_STATUS_update_pending then stUpdatePending else stOk
        let s := (s.hostWrite r.fn (k.w 1) (body ++ sig)).modSec fun x => { x with recovered := x.recovered.filter (· != r.fn) }
        (s.secCount .SEC_CNT_ATTEST).reply r st 0 total

/-! ### Tenants and scrubs (R383 to R385) -/

/-- R352: TENANT_ENABLE. -/
def State.tenantEnable (s : State) (r : CmdRef) : State :=
  s.onCmd r 0x0404 fun k s =>
    let f := getBits (k.w 0) 0 4 + 1
    if 8 < f then s.reply r stBadParam 0
    else if s.fld F.FN_ID_state f = 1 then s.reply r stConflict
    else if s.fld F.FN_ID_state f = 2 then s.reply r stScrubbing
    else (s.setFld F.FN_ID_state f 1).reply r stOk

/-- R383: a core whose user is scrubbed stops with LC_FAULT code KILLED; kills are not logged (R384). -/
def State.killCore (s : State) (i : Nat) : State :=
  let s := ((s.recordFault i 0 0 0 fKilled).setCoreState i 4).stopCore i
  match (s.core i).bound with
  | none => s
  | some b =>
    let g := s.groupOf i
    let k := s.counter g b.w
    let s := s.setCounter g b.w { k with shares := k.shares.filter fun h => !(h.idx == b.idx && h.gen == b.gen) }
    s.modCore i fun x => { x with bound := none, rerun := none }

/-- R383: the cores whose user is function f. -/
def State.coresOfFn (s : State) (f : Nat) : List Nat := (s.cores.map (·.1)).filter fun i => decide (i < 16) && s.userFn i == f

/-- R384: every command of a function that had started ends with SCRUBBING. -/
def State.endCommands (s : State) (f : Nat) : State :=
  (List.range 4).foldl (fun s q => (s.queue f q).started.foldl (fun s k => s.reply ⟨f, q, k.slot⟩ stScrubbing) s) s

/-- R383, R382: a model of a scrubbed tenant is unloaded, and what was sealed of it is cleared. -/
def State.scrubModel (s : State) (h : Nat) (m : ModelS) : State :=
  (s.dropModel h m false).clearFor (m.sealed_.map fun x => { addr := x.1, bytes := x.2, cmd := none, fn := m.fn })

/-- R383: the stop phase of a scrub of tenant k. -/
def State.scrubStop (s : State) (k : Nat) : State :=
  let f := k + 1
  let cores := s.coresOfFn f
  let s := s.setFld F.FN_ID_state f 2
  let s := s.modSec fun x => { x with scrubs := x.scrubs.set k (some { cores := cores, ranges := (s.fn f).grants, since := s.time.tclk }) }
  let s := s.traceEv 0 0x03 (srcFn f) k
  let s := s.endCommands f
  let cams := (s.cams.map (·.1)).filter fun n => (s.cam n).holder == f
  let s := cams.foldl (fun s n => s.stopStream n true none 2) s
  let s := cores.foldl (fun s i => s.killCore i) s
  let s := s.modFn f fun x => { x with dev := [], host := [] }
  let s := (s.loaded.filter fun e => e.2.fn == f).foldl (fun s e => s.scrubModel e.1 e.2) s
  let s := cams.foldl (fun s n => if s.fld F.CAM_ADAPT_STATUS_state n = 0 then s else s.adaptEnd n) s
  s.clearKeys f

/-- R383, R385: a scrub of tenant k is asked for, by a command or an event; a scrub that runs already is joined. -/
def State.scrub (s : State) (k : Nat) (r : Option CmdRef) (reset : Bool) : State :=
  let s := if (s.sec.scrubs.get k).isSome then s else s.scrubStop k
  s.modSec fun x => { x with scrubs := x.scrubs.set k ((x.scrubs.get k).map fun y =>
    { y with waiters := y.waiters ++ r.toList, reset := y.reset || reset }) }

/-- R352, R383: TENANT_KILL. -/
def State.tenantKill (s : State) (r : CmdRef) : State :=
  s.onCmd r 0x0405 fun k s =>
    let t := getBits (k.w 0) 0 4
    if 8 ≤ t then s.reply r stBadParam 0
    else if s.fld F.FN_ID_state (t + 1) = 0 then s.reply r stClosed else s.scrub t (some r) false

/-- R383: lines of ways of a mask leave the hold cache without being written back. Where such a line was dirty and lies
outside the tenant's ranges, which are cleared, its bytes are left open. -/
def State.dropWays (s : State) (mask : Nat) (ranges : List (Nat × Nat)) : State :=
  let gone := s.hold.lines.filter fun x => bit mask x.way
  let s := s.modHold fun h => h.drop fun x => bit mask x.way
  gone.foldl (fun s x =>
    if x.dirty && !ranges.any (fun g => overlaps (64 * x.line) 64 (g.1 * 2 ^ 21) (g.2 * 2 ^ 21)) then
      let a := s.takeFree
      a.2.memPut (64 * x.line) (leBytes 64 a.1)
    else s) s

/-- R383: ACLK cycles that the on-chip phase of tenant k's scrub takes: those of a scratchpad and of a way, all in parallel. -/
def State.onchipCycles (s : State) (k : Nat) (x : ScrubS) : Nat :=
  max (if x.cores.isEmpty then 0 else 3072) (if s.regN .HLD_WAYMASK (k + 1) = 0 then 0 else 2048)

/-- R383: the on-chip phase of tenant k's scrub ends, once its cycles have passed: scratchpads, ways, counters and barriers are
clear, and the cores are IDLE and free for the owner's work. -/
def State.scrubOnchip (s : State) (k : Nat) : State :=
  match s.sec.scrubs.get k with
  | none => s
  | some x =>
    if x.onchip ∨ (s.time.tclk - x.since) * 7 < s.onchipCycles k x * 10 then s
    else
      let s := s.snufRun
      let s := x.cores.foldl (fun s i => ((s.modCore i fun y => { y with user := {} }).haltCore i).clearCore i) s
      let s := (x.cores.map s.groupOf).eraseDups.foldl (fun s g => s.modGroup g fun y => { y with bars := [] }) s
      let s := s.dropWays (s.regN .HLD_WAYMASK (k + 1)) x.ranges
      s.modSec fun y => { y with scrubs := y.scrubs.set k (some { x with onchip := true, left := (x.ranges.map (·.2)).sum * 2 ^ 21 }) }

/-- R443: every register of tenant k's function window takes its reset value, and its queues are as after reset. -/
def State.resetWindow (s : State) (f : Nat) : State :=
  let s := s.resetRegs fun r i => r.info.block == .FN && i / r.info.sub == f
  let s := { s with rdShadow := s.rdShadow.filter fun e => e.1.1 ≠ f, wrShadow := s.wrShadow.filter fun e => e.1.1 ≠ f }
  s.modFn f fun x => { x with queues := [], rrQueue := 0, fwMsg := none, fwOut := [] }

/-- R383: the memory phase of tenant k's scrub has written its last byte, and the work areas of its cameras are clear. -/
def State.scrubClear (s : State) (k : Nat) (x : ScrubS) : Bool :=
  x.onchip && x.left == 0 && !s.sec.clears.any fun c => c.work && c.fn == k + 1

/-- R383, R443: the memory phase of tenant k's scrub ends. -/
def State.scrubMemory (s : State) (k : Nat) : State :=
  let s := s.snufRun
  match s.sec.scrubs.get k with
  | none => s
  | some x =>
    if !s.scrubClear k x then s
    else
      let f := k + 1
      let s := x.ranges.foldl (fun s g => s.zeroRange (g.1 * 2 ^ 21) (g.2 * 2 ^ 21)) s
      let s := s.modSec fun y => { y with scrubs := y.scrubs.set k none }
      let s := if x.reset then (s.resetWindow f).setFld F.FN_ID_state f 1 else s.setFld F.FN_ID_state f 0
      let s := ((s.traceEv 0 0x04 (srcFn f) k).event 0 0x0003 k 0).secCount .SEC_CNT_SCRUB
      x.waiters.foldl (fun s r => s.reply r stOk) s

/-- R341: FLR of VF k + 1. -/
def State.flrVf (s : State) (k : Nat) : State := s.scrub k none false

/-- R341: VF Enable is cleared: every tenant is scrubbed. -/
def State.vfClear (s : State) : State := (List.range 8).foldl (fun s k => s.scrub k none false) s

/-- R341: a function's queues, mailboxes and event ring are disabled. -/
def State.disableFn (s : State) (f : Nat) : State :=
  let s := (List.range 4).foldl (fun s q => s.cqDisable f q) s
  let s := s.setFld F.EVQ_CFG_en f 0
  let s := (List.range 5).foldl (fun s c => s.setRegN (rxCtl c) f 0) s
  let s := (s.setRegN .MBX_FW_CTL f 0).setRegN .MBX_SFL_CTL f 0
  s.modFn f fun x => { x with fwMsg := none, fwOut := [] }

/-- R341: FLR of the PF. -/
def State.flrPf (s : State) : State :=
  let s := s.startedCams.foldl (fun s n => s.stopStream n true none 2) s
  let s := s.vfClear
  let s := (List.range 9).foldl (fun s f => s.disableFn f) s
  let s := { s with sfl := { s.sfl with inbox := [] } }
  { s with fns := s.fns.map fun e => (e.1, { e.2 with dev := [], host := [], grants := [] }) }

/-! ### The engine's reset (R381) -/

/-- R381: an uncorrectable error in the engine's memory, once it has left BOOT: it resets itself. -/
def State.engineError (s : State) : State :=
  if s.fld F.SEC_STATUS_engine = 0 then s
  else
  let s := s.setFld F.SEC_STATUS_engine 0 2
  let s := s.modSec fun x => { x with resetEnd := s.now + 2000000, recovered := List.range 9 }
  let s := (s.secCount .SEC_CNT_ENGINE_RESET).logEvent clsSec (srcBlock 0x0010) 0x01
  (s.revokeKeys).notice 2000

/-- R381: the engine is READY again: identity and measurements are restored, and the loads that waited are refused. -/
def State.engineReady (s : State) : State :=
  if s.resetting then
    let s := (s.setFld F.SEC_STATUS_engine 0 1).deriveIdentity
    let s := s.sec.meas.foldl (fun s e => s.showMeas e.1 e.2) s
    let ws := s.sec.waiting
    let s := s.modSec fun x => { x with waiting := [] }
    ws.foldl (fun s r => s.keyDenied r) s
  else s

/-! ### Firmware update (R365, R368, R444 to R448) -/

/-- R365: an image is accepted: the key, the signature and the security version. -/
def State.imageOk (s : State) (x : FwImage) : Bool :=
  Config.sm3 x.key == Config.fusedKeyDigest && Config.sm2Verify x.key x.bytes x.sig && decide (s.sec.svnMin ≤ x.svn.toNat)

/-- R366: what is kept of an image: its measurement, version, commit flag and memory record. -/
def imageOf (x : FwImage) : ImageS := { meas := Config.sm3 x.bytes, svn := x.svn.toNat, commit := x.commit, record := x.record }

/-- R368, R466: FW_STAGE, with the image that the host gives. -/
def State.fwStage (s : State) (r : CmdRef) (x : FwImage) : State :=
  s.onCmd r 0x0408 fun k s =>
    if s.resetting then s.engineBusy r
    else if 0x800000 < k.w 2 then s.reply r stBadParam 2
    else s.withRead r (k.w 2) fun s =>
      if !s.imageOk x then s.reply r stDenied
      else
        let idle := 1 - s.boot.active
        let s := s.modSec fun y => { y with staged := some (imageOf x) }
        let s := (s.modBoot fun b => { b with slots := b.slots.set idle (some (imageOf x)) }).emit (.flashImage idle x.bytes)
        ((s.setMeas mStaged (Config.sm3 x.bytes)).setFld F.SEC_STATUS_update_pending 0 1).reply r stOk 0 (leAt (Config.sm3 x.bytes) 0 8)

/-- R352, R444: FW_SWITCH waits for its conditions. -/
def State.fwSwitch (s : State) (r : CmdRef) : State :=
  s.onCmd r 0x0409 fun _ s =>
    if s.sec.staged.isNone then s.reply r stClosed else s.modBoot fun b => { b with sw := some { cmd := r } }

/-- R444: every command that started before this one has replied. -/
def State.onlyStarted (s : State) (r : CmdRef) : Bool :=
  let n := (s.command r).elim 0 (·.order)
  (List.range 9).all fun f => (List.range 4).all fun q => (s.queue f q).started.all fun k => decide (⟨f, q, k.slot⟩ = r) || decide (n < k.order)

/-- R444, R445: the switch begins once its conditions hold. -/
def State.switchBegin (s : State) : State :=
  match s.boot.sw with
  | none => s
  | some w =>
    if w.began.isNone && (List.range 8).all (fun k => (s.sec.scrubs.get k).isNone) && s.boot.unit.isNone && s.onlyStarted w.cmd &&
        !s.resetting && s.sec.waiting.isEmpty then
      let s := s.modBoot fun b => { b with sw := some { w with began := some s.now, since := s.now } }
      let s := s.notice 60000
      let s := s.adaptCams.foldl (fun s n => s.pauseAdapt n cUpdate) s
      s.traceEv 0 0x05 (srcBlock 0) 0
    else s

/-- R447, R448: Retouch resumes from cause UPDATE, and the switch is over. -/
def State.switchEnd (s : State) (w : SwitchS) (arg status : Nat) : State :=
  let s := s.adaptCams.foldl (fun s n => s.unpauseAdapt n cUpdate) s
  (((s.modBoot fun b => { b with sw := none }).traceEv 0 0x06 (srcBlock 0) arg)).reply w.cmd status

/-- R445, R476: the part that reloads after d others: control processors 3 to 0, then Safelight. -/
def partSrc (d : Nat) : Nat := if d < 4 then srcCp (3 - d) else srcBlock 0x0011

/-- R448: the switch fails: the running image is reloaded, and the update stays pending. -/
def State.switchFail (s : State) (w : SwitchS) : State := (s.logEvent clsFw (partSrc w.done) 0x02).switchEnd w 1 stFault

/-- R445, R448: the part in turn has loaded its section; its check passes or fails. -/
def State.reloaded (s : State) (ok : Bool) : State :=
  match s.boot.sw with
  | none => s
  | some w =>
    if w.began.isNone ∨ 5 ≤ w.done then s
    else if ok then s.modBoot fun b => { b with sw := some { w with done := w.done + 1, since := s.now } }
    else s.switchFail w

/-- R448: the part in turn has not resumed within 5 ms. -/
def State.resumeTimeout (s : State) : State :=
  match s.boot.sw with
  | none => s
  | some w => if w.began.isSome ∧ w.done < 5 ∧ w.since + 5000000 < s.now then s.switchFail w else s

/-- R467: the 32 bytes at the start of a directory copy: its sequence number and the active slot. -/
def directory (seq slot : Nat) : List Byte :=
  let b := leBytes 4 0x4B444952 ++ leBytes 4 seq ++ leBytes 1 slot ++ leBytes 19 0
  b ++ leBytes 4 (crc32c b)

/-- R447, R467: every part runs the new image: the active mark is written, and the switch completes. -/
def State.switchComplete (s : State) : State :=
  match s.boot.sw, s.sec.staged with
  | some w, some x =>
    if w.began.isNone ∨ w.done < 5 then s
    else
      let slot := 1 - s.boot.active
      let s := (s.modBoot fun b => { b with active := slot, dirCopy := 1 - b.dirCopy, dirSeq := (b.dirSeq + 1) % 2 ^ 32 }).emit (.flashMark (1 - s.boot.dirCopy) (directory (s.boot.dirSeq + 1) slot))
      let s := (s.setMeas mFw x.meas).setMeas mStaged (List.replicate 32 0)
      let svn := if x.commit then max s.sec.svnMin x.svn else s.sec.svnMin
      let s := s.modSec fun y => { y with staged := none, running := x, svnMin := svn }
      let s := ((s.setFld F.SEC_STATUS_update_pending 0 0).setFld F.SEC_STATUS_svn_run 0 x.svn).setFld F.SEC_STATUS_svn_min 0 svn
      s.revokeKeys.switchEnd w 0 stOk
  | _, _ => s

end Sys2Proof.Machine
end

