-- ==== Sys2Proof/Machine/StreamOps.lean ====
section
/-! DEFINITION. Starting and stopping a stream by command: checks, admission, reservation (R21, R26, R47, R64 to R72,
R85, R104, R113, R117, R133 to R165, R352, R378, R449, R450, R478). -/
namespace Sys2Proof.Machine

/-! ### Checks of earlier chapters -/

/-- R142: the graph of the camera fits its stage group, its reach, and its temporal state. -/
def State.graphOk (s : State) (n : Nat) : Bool :=
  match s.camModel n with
  | none => false
  | some m =>
    let c := s.fld F.CAM_TSTATE_CFG_channels n
    m.first == s.camSg n && m.img.size == (s.groupCores (s.camSg n)).length && decide (m.img.up ≤ 8) && decide (m.img.down ≤ 8) &&
    m.img.tChannels == c && (c == 0 || m.img.tFactor == s.flag F.CAM_TSTATE_CFG_factor n)

/-- R147: the scaler's limits in one direction. -/
def scaleOk (src dst : Nat) : Bool := decide (16 ≤ dst) && decide (dst ≤ src) && decide (src ≤ 4 * dst)

/-- R147, R149: the display and coding outputs. -/
def State.picturesOk (s : State) (n : Nat) : Bool :=
  let w := s.width n
  let h := s.outH n
  (!s.flag F.CAM_OUT_DISP_en n || (scaleOk w (s.fld F.CAM_OUT_DISP_width n) && scaleOk h (s.fld F.CAM_OUT_DISP_height n))) &&
  (!s.flag F.CAM_OUT_CODE_en n || (scaleOk w (s.fld F.CAM_OUT_CODE_width n) && scaleOk h (s.fld F.CAM_OUT_CODE_height n) &&
    s.fld F.CAM_OUT_CODE_width n % 2 == 0 && s.fld F.CAM_OUT_CODE_height n % 2 == 0))

/-- R159: the machine-vision output agrees with the encoder. -/
def State.visionOk (s : State) (n : Nat) : Bool :=
  let c := s.fld F.CAM_OUT_MV_channels n
  !s.flag F.CAM_OUT_MV_en n ||
  (decide (16 ≤ c) && decide (c ≤ 128) && ((s.camModel n).bind (·.img.enc)) == some (c, s.flag F.CAM_OUT_MV_fmt n))

/-- R104: a triggered camera's period agrees with its schedule. -/
def State.scheduleOk (s : State) (n : Nat) : Bool :=
  s.flag F.CAM_CFG_free_run n ||
  s.fld F.SYN_SCHED_PERIOD_period (s.fld F.CAM_TRIG_CFG_sched n) * (s.fld F.CAM_TRIG_CFG_div_minus1 n + 1) == s.periodNs n

/-- R140: with several exposures the knees of the copy in force are in order. -/
def State.kneesOk (s : State) (n : Nat) : Bool :=
  let p := s.ppbOf n (s.fld F.CAM_PPB_SEL_copy n)
  s.nExpo n == 1 || decide (p.kneeLo < p.kneeHi)

/-- R46, R64, R65, R66, R72, R104, R113, R133, R140, R142, R147, R149, R151, R155, R159: the checks that a start fails
with BAD_PARAM. -/
def State.startParamsOk (s : State) (n : Nat) : Bool :=
  let w := s.width n
  let h := s.height n
  let per := s.fld F.CAM_PERIOD_period_us n
  let cnt := s.fld F.CAM_OUT_RING_count n
  (dtBits (s.fld F.IXL_SLOT_CFG_dt n) != 0) && s.isFirst (s.camSg n) &&
  (w % 16 == 0 && decide (64 ≤ w) && decide (w ≤ 4096) && decide (64 ≤ h) && decide (h ≤ 3072)) &&
  (decide (1000 ≤ per) && decide (per ≤ 1000000)) && decide (2 ≤ s.fld F.CAM_NEG_CFG_count n) && s.scheduleOk n &&
  (s.fld F.CAM_EXPO_CFG_n_expo_minus1 n != 3) &&
  (h % s.nExpo n == 0 && decide (64 ≤ s.outH n) && !(s.flag F.CAM_CFG_inline n && s.nExpo n != 1)) &&
  s.kneesOk n && s.graphOk n && s.picturesOk n && s.visionOk n && decide (s.slotPages n ≤ s.fld F.CAM_OUT_RING_slot_pages n) &&
  (decide (2 ≤ cnt) && decide (cnt ≤ 254))

/-- R378: two streams of one stage group may run together. -/
def State.agree (s : State) (n m : Nat) : Bool :=
  let enc := fun k => (s.camModel k).any (·.encrypted)
  (s.cam n).holder == (s.cam m).holder && (!(enc n || enc m) || (s.cam n).model == (s.cam m).model)

/-- R70, R378: the checks that a start fails with CONFLICT. -/
def State.startConflict (s : State) (n : Nat) : Bool :=
  let g := s.camSg n
  (s.flag F.CAM_CFG_inline n && (s.group g).inlineCam.isSome) || !(s.groupCams g).all fun m => s.agree n m

/-! ### Admission (R449, R478) -/

/-- A sum of fractions is at most a ceiling. -/
def fits (l : List Frac) (ceiling : Frac) : Bool := Frac.le (Frac.sum l) ceiling

/-- R449, check 1: wire load of the port. -/
def State.admitWire (s : State) (n : Nat) (ns : List Nat) : Bool :=
  fits ((ns.filter fun m => camPort m == camPort n).map s.wireLoad1) (s.portLimit (camPort n))

/-- R449: stages of a camera's graph that core i of its group owns. -/
def State.ownStages (s : State) (n i : Nat) : List StageDecl :=
  ((s.camModel n).elim [] (·.img.stages)).filter fun t => t.cores.contains ((i + 16 - s.camSg n) % 16)

/-- R449: array cycles per stripe that a camera's graph declares on core i. -/
def State.ownCycles (s : State) (n i : Nat) : Nat := ((s.ownStages n i).map (·.arrayCycles)).sum

/-- R478: the duty term in ACLK cycles; none where the cap admits no array cycle. -/
def dutyTerm (cap cycles : Nat) : Option Frac :=
  if 256 ≤ cap ∨ cycles = 0 then some (0, 1) else if cap = 0 then none else some (cycles * (256 - cap), cap)

/-- R478: core time of a camera on core i, in ns; none where no finite time serves it. -/
def State.coreTime (s : State) (n i : Nat) : Option Frac :=
  (dutyTerm (s.fld F.SFL_GOV_duty_cap) (s.ownCycles n i)).map fun d =>
    Frac.sum [(((s.ownStages n i).map (·.worstNs)).sum, 1), (if i = s.camSg n then (s.width n * s.nExpo n * 10, 7) else (0, 1)),
      (if s.fld F.LC_ADAPT_CFG_budget i = 0 then (0, 1) else (5850, 1)), (d.1 * 10, d.2 * 7), (10000, 1)]

/-- R478: the longest core time among cameras on core i. -/
def State.longestCore (s : State) (ns : List Nat) (i : Nat) : Option Frac :=
  ns.foldl (fun a n => a.bind fun x => (s.coreTime n i).map fun y => x.max y) (some (0, 1))

/-- R85: the stripe time of a camera in ns. -/
def State.stripeTime (s : State) (n : Nat) : Frac := (s.periodNs n * 32, max 1 (s.height n))

/-- R85: the reference stripe time of a stage group's cameras. -/
def State.refStripe (s : State) (ns : List Nat) : Frac :=
  match ns.find? fun n => s.flag F.CAM_CFG_inline n with
  | some n => s.stripeTime n
  | none =>
    match ns.map s.stripeTime with
    | [] => (0, 1)
    | t :: ts => ts.foldl (fun a b => if Frac.le a b then a else b) t

/-- R449, check 2: stage time along the group. -/
def State.admitStage (s : State) (g : Nat) (ns : List Nat) : Bool :=
  match (s.groupCores g).foldl (fun a i => a.bind fun l => (s.longestCore ns i).map (· :: l)) (some []) with
  | none => false
  | some l => fits l (s.refStripe ns)

/-- R449, check 3: array load on each core of the group. -/
def State.admitArray (s : State) (g : Nat) (ns : List Nat) : Bool :=
  (s.groupCores g).all fun i =>
    fits (ns.map fun n => (s.ownCycles n i * s.stripes n * 1000000, max 1 (s.fld F.CAM_PERIOD_period_us n) * 700000000))
      (s.fld F.GLB_ADMIT_core_pct - s.fld F.LC_ADAPT_CFG_budget i, 100)

/-- R26: the lowest overlap slot of a stage group that no started camera holds. -/
def State.freeOverlap (s : State) (n : Nat) : Option Nat :=
  if s.flag F.CAM_CFG_inline n then none
  else
    (List.range ((s.camModel n).elim 0 (·.img.overlap))).find? fun k =>
      !(s.groupCams (s.camSg n)).any fun m => (s.cam m).ovlSlot == some k

/-- R449, check 4: DDR5 bytes per second of a camera; slot: it holds an overlap slot. -/
def State.ddrLoad (s : State) (n : Nat) (slot : Bool) : Frac :=
  let neg := if s.flag F.CAM_CFG_inline n then 0 else s.height n * s.rowBytes n * (if slot then 4 else 5)
  ((neg + 4 * s.tstateBytes n) * 1000000, 2 * max 1 (s.fld F.CAM_PERIOD_period_us n))

/-- R449, check 4. -/
def State.admitDdr (s : State) (n : Nat) (others : List Nat) : Bool :=
  fits (s.ddrLoad n (s.freeOverlap n).isSome :: others.map fun m => s.ddrLoad m (s.cam m).ovlSlot.isSome)
    (s.fld F.GLB_ADMIT_mem_pct * 1740000000, 1)

/-- R449, check 5: host-bound bytes per second of a camera. -/
def State.hostLoad (s : State) (n : Nat) : Frac :=
  let d := s.fld F.CAM_OUT_CODE_DIV_div_minus1 n + 1
  (((s.outBytes n 0 + s.outBytes n 2) * d + s.outBytes n 1) * 1000000, d * max 1 (s.fld F.CAM_PERIOD_period_us n))

/-- R72, R135, R144: the ranges of device memory that a stream uses. -/
def State.streamRanges (s : State) (n : Nat) : List (Nat × Nat) :=
  let at_ := fun lo hi => s.pair lo hi n / 4096 * 4096
  [(at_ .CAM_NEG_BASE_LO .CAM_NEG_BASE_HI, s.fld F.CAM_NEG_CFG_count n * s.negSlotBytes n),
   (at_ .CAM_PPB_BASE_LO .CAM_PPB_BASE_HI, 0xA000)] ++
  (if s.tstateBytes n = 0 then [] else [(at_ .CAM_TSTATE_BASE_LO .CAM_TSTATE_BASE_HI, 2 * s.tstateBytes n)])

/-- R449, check 7. -/
def State.admitRanges (s : State) (n : Nat) (others : List Nat) : Bool :=
  (s.streamRanges n).all fun r => s.mayMap (s.cam n).holder r.1 r.2 &&
    !others.any fun m => (s.streamRanges m).any fun t => overlaps r.1 r.2 t.1 t.2

/-- R449: the first admission check that the start of camera n fails, 1 to 7; 0 where all pass. -/
def State.admission (s : State) (n : Nat) : Nat :=
  let others := s.startedCams
  let g := s.camSg n
  let ns := n :: s.groupCams g
  if !s.admitWire n (n :: others) then 1
  else if !s.admitStage g ns then 2
  else if !s.admitArray g ns then 3
  else if !s.admitDdr n others then 4
  else if !fits ((n :: others).map s.hostLoad) (s.fld F.GLB_ADMIT_host_gbs * 1000000000, 1) then 5
  else if 2 ^ 23 < ((n :: others).map s.poolFloor).sum then 6
  else if !s.admitRanges n others then 7 else 0

/-! ### Reservation and start (R163, R117) -/

/-- The counters of a camera context (R63). -/
def camCounters : List RegName :=
  [.CAM_CNT_MISSED, .CAM_CNT_STALE, .CAM_CNT_MALFORMED, .CAM_CNT_FILLED, .CAM_CNT_DIVERT, .CAM_CNT_NOSLOT, .CAM_CNT_EXPO_MISMATCH,
   .CAM_CNT_EXPO_LATE, .CAM_CNT_EMBED_MISSING, .CAM_CNT_AE_UPDATE, .CAM_CNT_OUT_NOSLOT, .CAM_CNT_OUT_SHED, .CAM_CNT_TSTATE_RESET,
   .CAM_CNT_ADAPT_PAIR, .CAM_CNT_ADAPT_NOTSTILL, .CAM_CNT_ADAPT_REJECT, .CAM_CNT_ADAPT_PAUSE]

/-- R163: the sequence number, ledger entries, counters, output ring and temporal state start afresh. -/
def State.freshStream (s : State) (n : Nat) : State :=
  let s := s.forgetDrawn n
  let s := { s with frames := s.frames.filter fun e => e.1 / 128 != n }
  let s := camCounters.foldl (fun s r => s.setRegN r n 0) s
  let s := ((s.setRegN .CAM_SEQ n 0).setRegN .CAM_EXPO_TARGET n 0).setFld F.CAM_OUT_STATUS_free n (s.fld F.CAM_OUT_RING_count n)
  s.setFld F.CAM_OUT_STATUS_next n 0

/-- R117: nothing waits any longer for the transactions of the camera's last commit. -/
def State.forgetCommit (s : State) (n : Nat) : State :=
  let f := fun (t : Tunnel) => if t.who = .commit n then { t with who := .firmware } else t
  s.modPort (camPort n) fun x => { x with tunnels := x.tunnels.map f, held := x.held.map f }

/-- R163, R26, R70, R115: camera n is starting: its reservations are held, and its start set binds from frame 0. -/
def State.reserve (s : State) (n : Nat) (set : ExpoSet) : State :=
  let slot := s.freeOverlap n
  let s := if s.flag F.CAM_CFG_inline n then s.modGroup (s.camSg n) fun x => { x with inlineCam := some n, line := [] } else s
  let s := s.modCam n fun c => { c with
    staged := none, commit := none, binds := [⟨0, set, 0xFFFFFFFF⟩], uncertain := [], launches := [], asked := [], expect := [], missed := []
    freeRun := none, discard := false, openSeq := none, stop := none, ovlSlot := slot, ovl := none, aeDue := none, awbDue := none }
  (((s.forgetCommit n).freshStream n).enablesNow n).setFld F.CAM_STATUS_stream n 1

/-- R163, R117, R332: an admitted start goes ahead for a command. -/
def State.beginStream (s : State) (n : Nat) (r : CmdRef) : State :=
  let t := (s.cam n).staged.getD {}
  let u := s.limitSet n t
  let s := if s.overLimit n t then s.setEvt F.CAM_EXPO_STATUS_clamped n else s
  let rs := s.settingsReqs n u
  let s := (s.adaptAtStart n).reserve n u
  let st : StartS := { cmd := r, left := rs.length }
  let s := s.modCam n fun c => { c with start := some st }
  if rs = [] then s.startOutcome n st else s.sendSettings n rs (.start n)

/-- R163, R352, R449: STREAM_START. -/
def State.streamStart (s : State) (r : CmdRef) : State :=
  s.onCmd r 0x0101 fun k s =>
    let n := k.cam
    if s.stream n ≠ 0 then s.reply r stConflict
    else if !s.startParamsOk n then s.reply r stBadParam 0
    else if s.startConflict n then s.reply r stConflict
    else if s.admission n ≠ 0 then
      ((s.setFld F.GLB_ADMIT_STATUS_check 0 (s.admission n)).setFld F.GLB_ADMIT_STATUS_cam 0 n).reply r stNoResource
    else s.beginStream n r

/-! ### STREAM_STOP (R164, R352) -/

/-- R164: a stop command of one mode: P0[16] is 0 for drain, 1 for abort. -/
def State.streamStop (s : State) (r : CmdRef) (abort : Bool) : State :=
  match s.command r with
  | none => s
  | some k =>
    if bit (k.w 0) 16 = abort then
      s.onCmd r 0x0102 fun k s =>
        if s.stream k.cam = 0 then s.reply r stClosed else s.stopStream k.cam abort (some r) 0
    else s

/-! ### Retouch commands (R320, R352) -/

/-- R320: a Retouch command on camera P0[8:0]. -/
def State.onAdapt (s : State) (r : CmdRef) (op : Nat) (body : Nat → State → State) : State :=
  s.onCmd r op fun k s => body k.cam s

/-- R320, R324, R352: ADAPT_REFS, with the entries that the host gives: (address, scale, seed) of each picture; P2[4:0]
of them, 1 to 16. -/
def State.adaptRefsCmd (s : State) (r : CmdRef) (refs : List (Nat × Nat × Nat)) : State :=
  s.onCmd r 0x0606 fun k s =>
    let n := getBits (k.w 2) 0 5
    if n = 0 ∨ 16 < n then s.reply r stBadParam 2
    else s.withRead r (16 * n) fun s => s.adaptRefs k.cam (refs.take n) r

/-- R352: ADAPT_EXPORT to the host buffer at P1. -/
def State.adaptExportCmd (s : State) (r : CmdRef) : State := s.onCmd r 0x0607 fun k s => s.adaptExport k.cam (k.w 1) r

/-- R352: ADAPT_IMPORT of the head slot read from the host at P1. -/
def State.adaptImportCmd (s : State) (r : CmdRef) (bytes : List Byte) : State :=
  s.onCmd r 0x0608 fun k s => s.withRead r headBytes fun s => s.adaptImport k.cam bytes r

end Sys2Proof.Machine
end

