-- ==== Sys2Proof/Machine/Diagnostics.lean ====
section
/-! DEFINITION. Reading counters, contact sheet, layer totals and error log; releasing log entries (R232, R352, R429,
R433, R434, R451, R453). -/
namespace Sys2Proof.Machine

/-! ### Counters (R453) -/

/-- R453: OBS counter i. -/
def State.obsRead (s : State) (i : Nat) : Nat :=
  if i = 1667 then (s.time.tclk - s.log.obsFrom) * 7 / 10 % 2 ^ 64 else if 1668 ≤ i then 0 else s.log.obs.get i

/-- R453: COUNTER_READ. -/
def State.counterRead (s : State) (r : CmdRef) : State :=
  s.onCmd r 0x0701 fun k s =>
    let first := getBits (k.w 0) 0 12
    let count := getBits (k.w 0) 16 12
    if 4096 < first + count then s.reply r stBadParam 0
    else (s.hostWrite r.fn (k.w 1) (((List.range count).map fun i => leBytes 8 (s.obsRead (first + i))).flatten)).reply r stOk

/-! ### Contact sheet (R451) -/

/-- R451: the 16 bytes of an event. -/
def TraceEv.bytes (e : TraceEv) : List Byte := leBytes 8 e.t ++ leBytes 2 e.typ ++ leBytes 2 e.src ++ leBytes 4 e.arg

/-- R451: TRACE_READ: the events present, oldest first, that fit whole in the buffer. -/
def State.traceRead (s : State) (r : CmdRef) : State :=
  s.onCmd r 0x0702 fun k s =>
    let bs := ((s.log.trace.reverse.take (getBits (k.w 2) 0 32 / 16)).map TraceEv.bytes).flatten
    (s.hostWrite r.fn (k.w 1) bs).reply r stOk 0 bs.length

/-! ### Layer totals (R232) -/

/-- R232: totals of each record of the latest frame of a camera. -/
def State.totalsOf (s : State) (n : Nat) : List (Nat × Nat × Nat × Nat × Nat) :=
  let f := s.frame n (s.regN .CAM_SEQ n - 1)
  if s.regN .CAM_SEQ n = 0 then []
  else ((List.range 4096).filter fun k => f.totals.any fun e => e.1 == k).map fun k =>
    (k / 256, k % 256, (f.totals.get k).produced, (f.totals.get k).clipped, (f.totals.get k).flags)

/-- R352: LAYER_TOTALS. -/
def State.layerTotals (s : State) (r : CmdRef) : State :=
  s.onCmd r 0x0703 fun k s =>
    let bs := Config.layerTotals (s.totalsOf k.cam)
    if getBits (k.w 2) 0 32 < bs.length then s.reply r stNoResource else (s.hostWrite r.fn (k.w 1) bs).reply r stOk

/-! ### Error log (R429, R433, R434) -/

/-- R429: the 32 bytes of an entry. -/
def ErrEntry.bytes (e : ErrEntry) : List Byte :=
  leBytes 4 e.num ++ leBytes 1 e.cls ++ leBytes 1 e.flags ++ leBytes 2 e.src ++ leBytes 8 e.tFirst ++ leBytes 4 e.span ++
  leBytes 4 e.count ++ leBytes 4 e.code ++ leBytes 4 e.info

/-- R429: the entry that ERR slot i holds: the newest whose number agrees modulo 1,024. -/
def State.errSlot (s : State) (i : Nat) : Option ErrEntry := s.log.ring.find? fun e => e.num % 1024 == i

/-- R429: word j of slot i of the ring as a register. -/
def State.errWord (s : State) (i j : Nat) : Nat :=
  match s.errSlot i with
  | some e => leAt e.bytes (4 * j) 4
  | none => 0

/-- R433: n entries are released. -/
def State.errRelease (s : State) (n : Nat) : State :=
  s.setRegN .ERR_TAIL 0 (s.regN .ERR_TAIL + min (min n 1024) s.errUnread)

/-- R433: a write of ERR_RELEASE. -/
def State.errReleaseWrite (s : State) (v : Nat) : State := s.errRelease (getBits v 0 11)

/-- R434: a write of ERR_FIRST_CTL. -/
def State.errFirstWrite (s : State) (v : Nat) : State := if bit v 0 ∧ s.sameCycle .ERR_FIRST_CTL 0 = 0 then s.setFld F.ERR_FIRST_CTL_valid 0 0 else s

/-- R433: ERRLOG_READ. -/
def State.errlogRead (s : State) (r : CmdRef) : State :=
  s.onCmd r 0x0704 fun k s =>
    let n := min (getBits (k.w 2) 0 32 / 32) s.errUnread
    let es := (List.range n).filterMap fun i => s.errSlot ((s.regN .ERR_TAIL + i) % 1024)
    ((s.hostWrite r.fn (k.w 1) (es.map ErrEntry.bytes).flatten).errRelease n).reply r stOk 0 n

end Sys2Proof.Machine
end

