-- ==== Sys2Proof/Machine/Safelight.lean ====
section
/-! DEFINITION. Safelight: fail-closed outputs and restart, enrolment, privacy policy, PRIV_HOLD, power and heat, the
governor, its messages; and the fatal state, which the thermal trip enters (R389 to R408, R435, R436). -/
namespace Sys2Proof.Machine

def State.modSfl (s : State) (f : SflS → SflS) : State := { s with sfl := f s.sfl }

/-- R428: the SFL block as a source. -/
def srcSfl : Nat := srcBlock 0x0011

/-- R408: a counter of the SFL block. -/
def State.sflCount (s : State) (r : RegName) : State := s.bump r 0 clsSfl srcSfl

/-- R406: Safelight's processor runs. -/
def State.sflRuns (s : State) : Bool := s.fld F.SFL_STATUS_proc == 1

/-- R445, R446: Safelight's processor runs, and is not loading a new section in a firmware switch. -/
def State.sflServes (s : State) : Bool := s.sflRuns && !s.boot.sw.any fun w => w.began.isSome && w.done == 4

/-! ### The fatal state (R436) -/

/-- R436: class and source of the FATAL entry of a cause; unit: the control processor or DDR5 channel concerned. -/
def fatalWhere (cause fail unit : Nat) : Nat × Nat :=
  if cause ≤ 5 then (clsClock, srcBlock 0)
  else if cause ≤ 7 then (clsFw, srcCp unit)
  else if cause = 8 then (clsSfl, srcSfl)
  else if fail = 1 then (clsClock, srcBlock 0)
  else if fail = 2 ∨ fail = 6 then (clsSec, srcBlock 0x0010)
  else if fail = 3 then (clsMem, srcBlock 0x000D)
  else if fail = 4 ∨ fail = 5 then (clsMem, srcChan unit) else (clsFw, srcCp unit)

/-- R435, R436: a fatal cause: issue, triggers, outputs and fetching stop, which `fatal` rules; the cause is recorded,
logged and reported through AER on the owner. -/
def State.fatalError (s : State) (cause unit : Nat) : State :=
  let fail := s.fld F.GLB_BOOT_STATUS_fail
  let w := fatalWhere cause fail unit
  let s := { s with fatal := true }.emit (.aer 0 true)
  let s := (s.setFld F.ERR_FATAL_valid 0 1).setFld F.ERR_FATAL_cause 0 cause
  let s := s.setFld F.ERR_FATAL_count 0 (satAdd 16 (s.fld F.ERR_FATAL_count) 1)
  let s := s.setPair .ERR_FATAL_TIME_LO .ERR_FATAL_TIME_HI 0 s.now
  s.logEvent w.1 w.2 (cause + if cause = 9 then fail * 256 else 0) 0xFFFFFFFF 1

/-- R404: THERM_TRIP# is asserted: it latches, every core is held in reset, and the trip is fatal. -/
def State.thermTrip (s : State) : State :=
  if s.flag F.SFL_STATUS_trip then s
  else
    let s := (s.setFld F.SFL_STATUS_trip 0 1).emit .thermTrip
    let s := (List.range 16).foldl (fun s i => s.haltCore i) s
    s.fatalError 8 0

/-! ### Fail-closed and restart (R390, R396) -/

/-- R390: the output writers fail closed; cause: 1 SCLK stopped, 2 VDD_SFL out of range, 3 watchdog expiry. -/
def State.failClosed (s : State) (cause : Nat) : State :=
  let s := s.modSfl fun x => { x with failClosed := some cause }
  (s.setFld F.SFL_STATUS_proc 0 2).logEvent clsSfl srcSfl cause

/-- R390, R30: SCLK stops. -/
def State.sclkStop (s : State) : State :=
  ((s.setFld F.GLB_CLK_STATUS_sclk_run 0 0).setFld F.GLB_CLK_LOST_sclk_run 0 1).failClosed 1

/-- R396: while a key is enrolled, every output of every camera is blanked until a packet says otherwise. -/
def State.noPolicy (s : State) : State :=
  let on := s.sfl.enrol.isSome
  let s := s.modSfl fun x => { x with base := { outside := if on then 0x15 else 0 }, table := [], seqMax := 0 }
  (s.setFld F.SFL_STATUS_policy 0 (b2n on)).setRegN .SFL_POLICY_SEQ 0 0

/-- R390, R396: Safelight runs again, without a policy; the governor, limit and cap keep their values. -/
def State.sflRestarted (s : State) : State :=
  if s.fld F.SFL_STATUS_proc = 2 then
    let s := s.modSfl fun x => { x with failClosed := none, quietFrom := none }
    let s := (s.setFld F.SFL_STATUS_proc 0 1).setFld F.GLB_CLK_STATUS_sclk_run 0 1
    (s.noPolicy.setMeas mSfl (List.replicate 32 0)).sflCount .SFL_CNT_RESTART
  else s

/-! ### Enrolment (R391) -/

/-- R391: the enrolment fuses take a digest, once. -/
def State.blowEnrol (s : State) (d : List Byte) : State :=
  if s.sfl.enrol.isSome then s else { s with sfl := { s.sfl with enrol := some d }, out := .fuse d :: s.out }

/-- R391: PRIV_ENROL, with the 64 bytes of the key that the host gives; it waits while Safelight does not run. -/
def State.privEnrol (s : State) (r : CmdRef) (key : List Byte) : State :=
  s.onCmd r 0x0407 fun _ s =>
    if s.resetting then s.engineBusy r
    else if !s.sflServes then s.setTaken r false
    else s.withRead r 64 fun s =>
      if s.sfl.enrol.isSome || !Config.sm2Valid key then s.reply r stDenied
      else
        let d := Config.sm3 key
        ((s.blowEnrol d).noPolicy.setMeas mPriv d).reply r stOk

/-! ### Policy packets (R392 to R395) -/

/-- R393: an act byte is valid. -/
def actValid (a : Nat) : Bool := decide (a < 64) && (List.range 3).all fun o => actOf a o != 3

/-- R393: some action of an act byte is pixelate. -/
def pixelates (a : Nat) : Bool := (List.range 3).any fun o => actOf a o == 2

/-- R392, R393: a range of bytes is zero. -/
def zeros (b : List Byte) (off n : Nat) : Bool := bytesAt b off n == List.replicate n 0

/-- R393: a zone of 24 bytes, and whether its fields are as they must be. -/
def zoneAt (b : List Byte) : Zone × Bool :=
  let act := leAt b 16 1
  let cell := leAt b 17 1
  ({ v := (List.range 4).map fun i => (leAt b (4 * i) 2, leAt b (4 * i + 2) 2), act := act, cell := cell },
   actValid act && zeros b 18 6 && (!pixelates act || (decide (3 ≤ cell) && decide (cell ≤ 6))))

/-- R392: n camera entries of a packet's bytes: each camera, its entry and whether its fields are as they must be, with
the bytes left; none where the bytes end too soon. -/
def camEntries : Nat → List Byte → Option (List (Nat × CamPolicy × Bool) × List Byte)
  | 0, b => some ([], b)
  | n + 1, b =>
    let nz := leAt b 2 1
    let len := 8 + 24 * nz
    if b.length < len ∨ 16 < nz then none
    else
      let zs := (List.range nz).map fun i => zoneAt (bytesAt b (8 + 24 * i) 24)
      let out := leAt b 3 1
      let cell := leAt b 4 1
      let ok := decide (leAt b 0 2 < 512) && actValid out && zeros b 5 3 && zs.all (·.2) &&
        (!pixelates out || cell == 0 || (decide (3 ≤ cell) && decide (cell ≤ 6)))
      match camEntries n (b.drop len) with
      | none => none
      | some r => some ((leAt b 0 2, { zones := zs.map (·.1), outside := out, cell := cell }, ok) :: r.1, r.2)

/-- A policy packet as Safelight reads it (R392). -/
structure PolicyPkt where
  seq : Nat
  full : Bool
  dflt : Nat
  device : List Byte
  key : List Byte
  cams : List (Nat × CamPolicy)
  /-- What the signature covers, and the signature. -/
  body : List Byte
  sig : List Byte
deriving DecidableEq, Repr

/-- R392, R393, R394, check 0x02: the packet, where its size and every field are as they must be. -/
def policyPkt (b : List Byte) : Option PolicyPkt :=
  match camEntries (leAt b 6 2) (b.drop 128) with
  | none => none
  | some r =>
    if leAt b 0 4 = 0x4C4F5053 ∧ leAt b 4 2 = 1 ∧ leAt b 6 2 ≤ 512 ∧ leAt b 12 1 < 2 ∧ actValid (leAt b 13 1) = true ∧
        zeros b 14 2 = true ∧ zeros b 112 16 = true ∧ r.2.length = 64 ∧ (r.1.all fun e => e.2.2) = true ∧ b.length ≤ 65535 then
      some { seq := leAt b 8 4, full := bit (leAt b 12 1) 0, dflt := leAt b 13 1, device := bytesAt b 16 32, key := bytesAt b 48 64
             cams := r.1.map fun e => (e.1, e.2.1), body := b.take (b.length - 64), sig := r.2 }
    else none

/-- R394, check 0x07: each camera once, and every vertex within its W × H. -/
def State.policyFits (s : State) (l : List (Nat × CamPolicy)) : Bool :=
  decide (l.map (·.1)).Nodup && l.all fun e => e.2.zones.all fun z => z.v.all fun v =>
    decide (v.1 ≤ s.width e.1) && decide (v.2 ≤ s.outH e.1)

/-- R369, R394: the digest of this device's identity key. -/
def deviceDigest : List Byte := bytesAt (Config.sm3 (bytesAt (Config.sm2Public (Config.identityKey Config.deviceSecret)) 0 64)) 0 32

/-- R394: the result of the checks on a packet of these bytes: 0, with the packet, where it is accepted. -/
def State.policyCheck (s : State) (b : List Byte) : Nat × Option PolicyPkt :=
  match s.sfl.enrol with
  | none => (1, none)
  | some d =>
    match policyPkt b with
    | none => (2, none)
    | some p =>
      if Config.sm3 p.key ≠ d then (3, none)
      else if !Config.sm2Verify p.key p.body p.sig then (4, none)
      else if p.device ≠ deviceDigest then (5, none)
      else if p.seq ≤ s.sfl.seqMax then (6, none)
      else if !s.policyFits p.cams then (7, none) else (0, some p)

/-- R393: the 24 bytes of a zone. -/
def Zone.bytes (z : Zone) : List Byte :=
  ((List.range 4).map fun i => leBytes 2 (z.v.getD i (0, 0)).1 ++ leBytes 2 (z.v.getD i (0, 0)).2).flatten ++
  leBytes 1 z.act ++ leBytes 1 z.cell ++ leBytes 6 0

/-- R392, R395: a camera's entry in its 392-byte form. -/
def CamPolicy.bytes (p : CamPolicy) (n : Nat) : List Byte :=
  bytesAt (leBytes 2 n ++ leBytes 1 p.zones.length ++ leBytes 1 p.outside ++ leBytes 1 p.cell ++ leBytes 3 0 ++
    (p.zones.map Zone.bytes).flatten) 0 392

/-- R395: an accepted packet is in force. -/
def State.acceptPolicy (s : State) (p : PolicyPkt) : State :=
  let s := s.modSfl fun x =>
    let t := p.cams.foldl (fun (t : Tab (Option CamPolicy)) e => t.set e.1 (some e.2)) (if p.full then [] else x.table)
    { x with base := if p.full then { outside := p.dflt } else x.base, table := t, seqMax := p.seq }
  let s := (s.setRegN .SFL_POLICY_SEQ 0 p.seq).setFld F.SFL_STATUS_policy 0 2
  s.setMeas mSfl (Config.sm3 (leBytes 4 p.seq ++ ((List.range 512).map fun n => (s.policyOf n).bytes n).flatten))

/-- R394, R352: POLICY_SUBMIT, with the bytes that the host gives; it waits while Safelight does not run. -/
def State.policySubmit (s : State) (r : CmdRef) (bytes : List Byte) : State :=
  s.onCmd r 0x0406 fun k s =>
    if s.resetting then s.engineBusy r
    else if !s.sflServes then s.setTaken r false
    else s.withRead r (getBits (k.w 2) 0 16) fun s =>
      let c := s.policyCheck (bytes.take (getBits (k.w 2) 0 16))
      match c.2 with
      | some p => (s.acceptPolicy p).reply r stOk 0 0
      | none => (s.sflCount .SFL_CNT_POLICY_REJECT).reply r stDenied 0 c.1

/-- R408: word j of the policy table of cam n. -/
def State.policyWord (s : State) (n j : Nat) : Nat := leAt ((s.policyOf n).bytes n) (4 * j) 4

/-! ### PRIV_HOLD (R400) -/

/-- R400: PRIV_HOLD rises. -/
def State.holdAssert (s : State) : State :=
  if s.sfl.hold then s
  else
    let s := s.modSfl fun x => { x with hold := true, holdAt := s.now }
    (s.setFld F.SFL_STATUS_hold 0 1).sflCount .SFL_CNT_HOLD

/-- R400: PRIV_HOLD falls. -/
def State.holdRelease (s : State) : State :=
  if s.sfl.hold then (s.modSfl fun x => { x with hold := false, freeAt := s.now }).setFld F.SFL_STATUS_hold 0 0 else s

/-! ### Power, heat and the governor (R401 to R405) -/

/-- R401, R453: a power sample: P_avg is the mean of the last 100, and the device's energy counter takes it. Where the
mean is no whole number of mW, the register holds one of its two neighbours. -/
def State.powerSample (s : State) (mw : Nat) : State :=
  if s.sflRuns then
    let l := (mw :: s.sfl.samples).take 100
    let e := s.sfl.energy + 10000 * mw
    let s := (s.modSfl fun x => { x with samples := l, energy := e % 1000000000 }).obsAdd 1666 (e / 1000000000)
    let a := s.takeFree
    let up := if l.sum % l.length = 0 then 0 else a.1 % 2
    a.2.setFld F.SFL_POWER_p_avg_mw 0 (l.sum / l.length + up)
  else s

/-- The index of the greatest element of a list of integers, the first among equals. -/
def argMax : List Int → Nat → Nat × Int → Nat
  | [], _, b => b.1
  | x :: xs, i, b => argMax xs (i + 1) (if b.2 < x then (i, x) else b)

/-- R401: the 16 junction sensors are read, in 1/16 °C. -/
def State.junctionRead (s : State) (temps : List Int) : State :=
  if s.sflRuns then
    let k := argMax temps 0 (0, temps.getD 0 0)
    (s.setFld F.SFL_THERM_tj 0 (ofSigned 12 (temps.getD k 0))).setFld F.SFL_THERM_sensor 0 k
  else s

/-- R401: Tj in 1/16 °C. -/
def State.tj (s : State) : Int := toSigned 12 (s.fld F.SFL_THERM_tj)

/-- R401: the duty cap for a board power limit. -/
def capOf (limit : Nat) : Nat := min 256 (256 * (limit - 5100) / 78900)

/-- R405: GOV_STATE, or GOV_CHANGE. -/
def State.govWords (s : State) : List Word :=
  [BitVec.ofNat 32 s.govG, BitVec.ofNat 32 (s.fld F.SFL_POWER_p_avg_mw), BitVec.ofInt 32 s.tj]

/-- R402, R403: the governor's step becomes g. -/
def State.setG (s : State) (g : Nat) : State :=
  let was := s.govG
  if was = g then s
  else
    let s := ((s.setFld F.SFL_GOV_step 0 g).modSfl fun x => { x with lastStep := s.now }).sflCount .SFL_CNT_GOV_STEP
    let s := (s.logEvent clsSfl srcSfl (0x10 + g)).traceEv 3 0x0D srcSfl g
    let s := if was = 0 then s.adaptCams.foldl (fun s n => s.pauseAdapt n cGovernor) s else s
    let s := if g = 0 then s.adaptCams.foldl (fun s n => s.unpauseAdapt n cGovernor) s else s
    let s := if s.rxFull 0 4 then s else s.sendTo 0 4 (0x8103 :: s.govWords)
    if g = 13 then s.thermTrip else s

/-- R405, R401: an accepted limit applies, and with it the duty cap. -/
def State.applyLimit (s : State) : State :=
  match s.sfl.newLimit with
  | none => s
  | some l =>
    let s := (s.modSfl fun x => { x with newLimit := none }).setFld F.SFL_LIMIT_limit_mw 0 l
    s.setFld F.SFL_GOV_duty_cap 0 (capOf l)

/-- R403: power and heat are low at this evaluation: since when they have been. -/
def State.quietSince (s : State) : Option Nat :=
  if s.fld F.SFL_POWER_p_avg_mw + 5000 ≤ s.fld F.SFL_LIMIT_limit_mw ∧ s.tj ≤ 1520 then some (s.sfl.quietFrom.getD s.now) else none

/-- R403: the step that an evaluation gives. -/
def State.govNext (s : State) : Nat :=
  let g := s.govG
  let since := s.now - s.sfl.lastStep
  if 1840 ≤ s.tj then 13
  else if (s.fld F.SFL_LIMIT_limit_mw < s.fld F.SFL_POWER_p_avg_mw ∨ 1600 < s.tj) ∧ 1000000 ≤ since then min 13 (g + 1)
  else if (s.sfl.quietFrom.any fun t => decide (t + 100000000 ≤ s.now)) ∧ 100000000 ≤ since ∧ 1 ≤ g ∧ g ≤ 12 then g - 1
  else g

/-- R403, R446: an evaluation of the governor; none while Safelight loads its section in a firmware switch. -/
def State.governor (s : State) : State :=
  if s.sflServes then
    let s := s.applyLimit
    let s := s.modSfl fun x => { x with quietFrom := s.quietSince }
    s.setG s.govNext
  else s

/-- R405: Safelight answers the owner's oldest message where its type is `typ`. -/
def State.onSflMsg (s : State) (p : Nat → Bool) (body : List Word → State → State) : State :=
  match s.sfl.inbox with
  | m :: rest =>
    if s.sflRuns && p (msgType m) then body m (((s.modSfl fun x => { x with inbox := rest }).txTaken 0 true)) else s
  | [] => s

/-- R405: LIMIT_SET. -/
def State.limitSetMsg (s : State) : State :=
  s.onSflMsg (· == 0x0101) fun m s =>
    let l := (m.getD 1 0).toNat
    if 20000 ≤ l ∧ l ≤ 75000 then (s.modSfl fun x => { x with newLimit := some l }).sendTo 0 4 (answer 0x8101 m [0])
    else s.sendTo 0 4 (answer 0x8101 m [1])

/-- R405: GOV_QUERY; a message of a type that Safelight does not know is answered with 0x80FF. -/
def State.govQueryMsg (s : State) : State :=
  s.onSflMsg (· != 0x0101) fun m s =>
    if msgType m = 0x0102 then s.sendTo 0 4 (answer 0x8102 m s.govWords) else s.sendTo 0 4 (answer 0x80FF m [])

end Sys2Proof.Machine
end

