-- ==== Sys2Proof/Machine/Chain.lean ====
section
/-! DEFINITION. PTM and the sync symbols of the chain (R95 to R98, R413, R414), and the cascade: positions, presence,
schedules, forwarded ports, windows (R409 to R426). -/
namespace Sys2Proof.Machine

def State.modChn (s : State) (f : ChnS → ChnS) : State := { s with chn := f s.chn }

/-- R428: the CHN block as a source. -/
def srcChn : Nat := srcBlock 0x12

/-- R426: a counter of the CHN block. -/
def State.chnCount (s : State) (r : RegName) : State := s.bump r 0 clsChain srcChn

/-- R409: this device's position. -/
def State.pos (s : State) : Nat := s.fld F.CHN_STATUS_pos

/-- R423: position q is present. -/
def State.presentPos (s : State) (q : Nat) : Bool := bit (s.fld F.CHN_STATUS_present) q

/-- R409: the chain port toward position q: 16 CHU, 17 CHD. -/
def State.portToward (s : State) (q : Nat) : Nat := if q < s.pos then 16 else 17

/-- R102: device time in 1/16 ns. -/
def State.now16 (s : State) : Nat := 16 * s.now + s.time.frac / 2 ^ 28

/-! ### PTM (R95, R96) -/

/-- R94: the PTM dialogue interval in ns. -/
def State.ptmNs (s : State) : Nat := 2 ^ min 10 (s.fld F.SYN_CFG_ptm_interval) * 1000000

/-- R95: a PTM dialogue starts when one is due. -/
def State.ptmStart (s : State) : State :=
  if s.source = 1 ∧ s.time.ptm.isNone ∧ s.time.ptmNext ≤ s.now then
    let s := s.modTime fun t => { t with ptmNext := t.now + s.ptmNs }
    if s.time.ptmOn then (s.modTime fun t => { t with ptm := some t.now }).emit .ptmRequest else s.measureFail
  else s

/-- R95: twice the PTM Master Time at t1: t2 less the link delay, which is half of (t4 − t1) − (t3 − t2). -/
def ptmMaster2 (m : PtmMaster) (t : PtmLocal) : Int :=
  2 * (m.t2.toNat : Int) - (((t.t4.toNat : Int) - t.t1.toNat) - ((m.t3.toNat : Int) - m.t2.toNat))

/-- R95, R96: the dialogue completes within its interval: PTM Master Time at local time t1. -/
def State.ptmComplete (s : State) (m : PtmMaster) (t : PtmLocal) : State :=
  match s.time.ptm with
  | none => s
  | some b =>
    if b + s.ptmNs < s.now then s
    else
      let target := ptmMaster2 m t + 2 * toSigned 64 (s.pair .SYN_PTM_OFFSET_LO .SYN_PTM_OFFSET_HI)
      (s.modTime fun t => { t with ptm := none }).measure (8 * (target - 2 * (t.t1.toNat : Int)))

/-- R95: the dialogue does not complete within its interval. -/
def State.ptmFail (s : State) : State :=
  match s.time.ptm with
  | none => s
  | some b => if b + s.ptmNs < s.now then (s.modTime fun t => { t with ptm := none }).measureFail else s

/-- R96: a slew of −500 ppm has corrected its offset. -/
def State.slewDone (s : State) : State :=
  match s.time.slewEnd with
  | none => s
  | some c =>
    if c ≤ s.time.tclk then
      s.endSlew
    else s

/-! ### Sync symbols (R97, R98, R413) -/

/-- R98: this device is in HOLDOVER. -/
def State.inHoldover (s : State) : Bool := s.fld F.SYN_STATUS_state == tHoldover

/-- R97, R98: the master, or a device in HOLDOVER with source CASCADE, emits its own symbol on CHD when one is due. -/
def State.syncEmit (s : State) : State :=
  if (s.pos = 0 ∨ (s.source = 2 ∧ s.inHoldover ∧ s.time.ownSym)) ∧ s.portState 17 = pActive ∧ s.time.emitNext ≤ s.now then
    (s.modTime fun x => { x with emitNext := x.emitNext + 1024 }).emit (.syncSymbol (s.time.emitNext / 1024) s.inHoldover 0 (s.earlyOf 17 s.time.emitNext) s.pos)
  else s

/-- R97, R413, R414: a valid symbol on CHU, whose receipt instant is now less early times 125 ps: it is re-emitted on CHD, and gives a measurement once eight cable delays are
known. -/
def State.syncReceived (s : State) (time acc early : Nat) (held : Bool) : State :=
  if s.source = 2 ∧ s.portState 16 = pActive then
    let d := s.fld F.CHN_CABLE_delay
    let s := (s.setFld F.SYN_STATUS_upstream_holdover 0 (b2n held)).modTime fun t => { t with lastSym := t.now, ownSym := false }
    let s := if s.portState 17 = pActive then s.emit (.syncSymbol time (held || s.inHoldover) (acc + d + 384) (s.earlyAt 17 (100 * s.now + 2400 - early * 25 / 2)) s.pos) else s
    if s.chn.meas.length < 8 then s.measureFail
    else s.measure ((16384 * time + acc + d : Nat) - ((s.now16 : Int) - 2 * early))
  else s

/-- R93: no valid symbol within 1,024 ns of the last one. -/
def State.syncMissing (s : State) : State :=
  if s.source = 2 ∧ s.time.lastSym + 1024 < s.now then (s.modTime fun t => { t with lastSym := t.now }).measureFail else s

/-! ### Cable delay (R414) -/

/-- R414: DELAY_REQ leaves on CHU when one is due. -/
def State.delayReqSend (s : State) : State :=
  if 1 ≤ s.pos ∧ s.portState 16 = pActive ∧ s.chn.delayNext ≤ s.now then
    (s.modChn fun x => { x with t1 := some s.now16, delayNext := s.now + 1048576 }).emit .delayReq
  else s

/-- R414: DELAY_REQ arrives on CHD; the answer carries the time between its arrival and the answer, which is the
device's. -/
def State.delayAnswer (s : State) : State :=
  if s.portState 17 = pActive then
    let a := s.takeFree
    a.2.emit (.delayResp (a.1 % 2 ^ 32))
  else s

/-- R414: DELAY_RESP arrives with t3 − t2. Where the mean of eight measurements is no whole number of 1/16 ns, the delay
in force is one of its two neighbours. -/
def State.delayMeasured (s : State) (turn : Nat) : State :=
  match s.chn.t1 with
  | none => s
  | some t1 =>
    let m : Int := (s.now16 : Int) - t1 - turn
    let s := s.modChn fun x => { x with t1 := none, meas := (m :: x.meas).take 8 }
    if s.chn.meas.length < 8 then s
    else
      let sum := s.chn.meas.sum
      let a := s.takeFree
      let up : Int := if sum % 16 = 0 then 0 else (a.1 % 2 : Nat)
      a.2.setFld F.CHN_CABLE_delay 0 (ofSigned 20 (sum / 16 + up + toSigned 12 (s.fld F.CHN_DELAY_ADJ_adj)))

/-! ### Positions and presence (R410, R423 to R425) -/

/-- R97: CHD becomes ACTIVE: the first own symbol is due at the next multiple of 1,024 ns. -/
def State.chdActive (s : State) (p : Nat) : State := if p = 17 then s.modTime TimeS.nextEmit else s

/-- R410: a POS block arrives on a chain port in state POS: ACTIVE where the positions follow each other, else FAULT. -/
def State.posReceived (s : State) (p q : Nat) : State :=
  if (p = 16 ∨ p = 17) ∧ s.portState p = pCaps ∧ (s.port p).waiting = false then
    s.bringupStep p fun s =>
      if (p = 16 ∧ q + 1 = s.pos) ∨ (p = 17 ∧ s.pos + 1 = q) then (s.setPortState p pActive).chdActive p else s.portFault p 0
  else s

/-- R293, R424: rows of a transfer that have issued to a lost position and are not delivered count as delivered, and the
transfer will complete as CLOSED. -/
def State.closeRows (s : State) (i : Nat) (x : Xfer) : Xfer :=
  let lost := ((List.range (x.issued - x.rows)).map (x.rows + ·)).filter x.awaits
  if lost.isEmpty && x.unacked.isEmpty then x
  else
    let got := lost.map (fun r => (r, s.rowData i x r [])) ++ x.unacked.map (fun e => (e.1, e.2.2))
    ({ x with early := x.early ++ got, unacked := [], status := if x.status = 0 then 3 else x.status } : Xfer).fold (x.early.length + got.length)

/-- R424: every write of queue q outstanding to a position that becomes absent completes as CLOSED. -/
def State.closePeerQueue (s : State) (i q target : Nat) : State :=
  let hit := fun (x : Xfer) => x.toPeer == some target
  if (s.dmaQ i q).any hit then
    let before := gapless (s.dmaQ i q)
    let old := s
    let s := s.setDmaQ i q ((s.dmaQ i q).map fun x => if hit x then old.closeRows i x else x)
    (s.countRows i q before).settle i q
  else s

/-- R419, R422: window w closes; the peer is told. -/
def State.closeWindow (s : State) (w : Nat) : State :=
  (s.setFld F.CHN_WIN_CTL_open w 0).emit (.chainMsg (s.fld F.CHN_WIN_CTL_peer w) (.window (BitVec.ofNat 4 w) false 0))

/-- Sets bit k of a register field to a truth value. -/
def State.putFldBit (s : State) (f : Fld) (i k : Nat) (b : Bool) : State :=
  s.setFld f i (putBits (s.fld f i) k 1 (b2n b))

/-- R415: the master's command ends once every position has answered. -/
def State.schedAnswered (s : State) : State :=
  match s.chn.sched with
  | none => s
  | some q =>
    if q.waiting ≠ [] then s
    else
      let s := s.modChn fun x => { x with sched := none }
      if q.refused then
        let s := s.modTime fun t => { t with sched := t.sched.modify q.g fun x => { x with apply := none } }
        let s := if q.period = 0 then s else s.setFld F.PIN_OWN_holder (32 + q.g) 0
        let s := ((List.range 8).filter fun p => p != s.pos && s.presentPos p).foldl
          (fun s p => s.emit (.chainMsg p (.scheduleRelease (BitVec.ofNat 5 q.g)))) s
        s.reply q.cmd stConflict
      else s.reply q.cmd stOk

/-- R424, R425: a position becomes absent. -/
def State.positionAbsent (s : State) (q : Nat) : State :=
  if !s.presentPos q || q == s.pos then s
  else
    let s := s.putFldBit F.CHN_STATUS_present 0 q false
    let s := (List.range 256).foldl (fun s k => s.closePeerQueue (k / 16) (k % 16) q) s
    let s := ((List.range 16).filter fun w => s.flag F.CHN_WIN_CTL_open w && s.fld F.CHN_WIN_CTL_peer w == q).foldl
      (fun s w => s.setFld F.CHN_WIN_CTL_open w 0) s
    let s := (s.setRegN .CHN_RWIN q 0).modChn fun x => { x with
      rwin := x.rwin.filter fun e => e.1 / 16 != q, peers := x.peers.modify q fun y => { y with absentAt := some s.now } }
    let s := (List.range 16).foldl (fun s p =>
      if s.isIn p && s.fwdPeer p == q then (s.frameEffect p .linkDown).putFldBit F.CHN_FWD_in 0 p false
      else if s.isOut p && s.fwdPeer p == q then s.modChn fun x => { x with lostAt := x.lostAt.set p (some s.now) }
      else s) s
    let s := (s.chnCount .CHN_CNT_PEER_LOST).logEvent clsChain srcChn 0x04
    let s := s.modChn fun x => { x with sched := x.sched.map fun r => { r with waiting := r.waiting.filter (· != q) } }
    s.schedAnswered

/-- R423: positions beyond a chain port that is not ACTIVE are absent. -/
def State.chainCheck (s : State) : State :=
  (List.range 8).foldl (fun s q => if q ≠ s.pos ∧ s.portState (s.portToward q) ≠ pActive then s.positionAbsent q else s) s

/-- R423: no STATUS from q within 262,144 ns. -/
def State.presenceTimeout (s : State) (q : Nat) : State :=
  match (s.chn.peers.get q).at_ with
  | some t => if t + 262144 < s.now then s.positionAbsent q else s
  | none => s

/-- R415: the master sends each schedule that it holds to a device that has become present, with an apply time of its
choice at least 1 ms ahead. -/
def State.sendSchedules (s : State) (q : Nat) : State :=
  ((List.range 32).filter fun g => s.owner (32 + g) == 5 && s.flag F.SYN_SCHED_CTL_enable g).foldl (fun s g =>
    let a := s.takeFree
    a.2.emit (.chainMsg q (.schedule (BitVec.ofNat 5 g) (BitVec.ofNat 64 (s.pair .SYN_SCHED_BASE_LO .SYN_SCHED_BASE_HI g))
      (BitVec.ofNat 32 (s.fld F.SYN_SCHED_PERIOD_period g)) (BitVec.ofNat 64 (s.now + 1000000 + a.1))))) s

/-- R409: the way to position j leads through position q. -/
def State.beyond (s : State) (q j : Nat) : Bool := (decide (s.pos < q) && decide (q < j)) || (decide (q < s.pos) && decide (j < q))

/-- R423: a STATUS packet of position q arrives over an ACTIVE path. Positions beyond q that q cannot reach are absent, for a
link of the path to them is not ACTIVE. -/
def State.statusReceived (s : State) (q reach timeState : Nat) (enrol : Option (List Byte)) (seq : Nat) : State :=
  if q = s.pos ∨ s.portState (s.portToward q) ≠ pActive then s
  else
    let p : PeerS := { at_ := some s.now, reach := reach, timeState := timeState, enrol := enrol, policySeq := seq }
    let new := !s.presentPos q
    let s := (s.modChn fun x => { x with peers := x.peers.set q p }).putFldBit F.CHN_STATUS_present 0 q true
    let s := ((List.range 8).filter fun j => s.beyond q j && !bit reach j).foldl (fun s j => s.positionAbsent j) s
    if new ∧ s.pos = 0 then s.sendSchedules q else s

/-- R423: a STATUS packet leaves for every position when one is due. -/
def State.statusSend (s : State) : State :=
  if (s.portState 16 = pActive ∨ s.portState 17 = pActive) ∧ s.chn.statusNext ≤ s.now then
    (s.modChn fun x => { x with statusNext := s.now + 65536 }).emit
      (.chainStatus (s.fld F.CHN_STATUS_present) (s.fld F.SYN_STATUS_state) s.sfl.enrol (s.regN .SFL_POLICY_SEQ))
  else s

/-- R425: the source takes port p back 262,144 ns after its target became absent. -/
def State.takeback (s : State) (p : Nat) : State :=
  match s.chn.lostAt.get p with
  | some t =>
    if t + 262144 ≤ s.now then
      (s.putFldBit F.CHN_FWD_out 0 p false).modChn fun x => { x with
        lostAt := x.lostAt.set p none, trigs := x.trigs.filter fun r => r.port != p }
    else s
  | none => s

/-! ### Schedules (R415) -/

/-- R415: this device takes a schedule: it claims g and waits for the apply time; or is asked to end it. True where it
does not refuse. -/
def State.takeSchedule (s : State) (g base period apply : Nat) : Bool × State :=
  let o := s.owner (32 + g)
  let wait := fun (s : State) => s.modTime fun t => { t with sched := t.sched.modify g fun x => { x with apply := some (apply, base, period) } }
  if period = 0 then (o != 4, if o = 5 then wait s else s)
  else if o ≠ 0 ∨ s.flag F.SYN_SCHED_CTL_enable g then (false, s)
  else (true, wait (s.setFld F.PIN_OWN_holder (32 + g) 5))

/-- R415, R352: SCHED_APPLY. -/
def State.schedApply (s : State) (r : CmdRef) : State :=
  s.onCmd r 0x0502 fun k s =>
    let g := getBits (k.w 0) 0 5
    let period := getBits (k.w 2) 0 32
    let others := (List.range 8).filter fun p => p != s.pos && s.presentPos p
    if s.pos ≠ 0 then s.reply r stDenied
    else if period ≠ 0 ∧ (period < 1000000 ∨ 1000000000 < period) then s.reply r stBadParam 2
    else if k.w 3 < s.now + 1000000 then s.reply r stBadParam 3
    else if s.chn.sched.isSome then s.setTaken r false
    else
      let t := s.takeSchedule g (k.w 1) period (k.w 3)
      if t.1 = false then t.2.reply r stConflict
      else
        let s := others.foldl (fun s p => s.emit (.chainMsg p
          (.schedule (BitVec.ofNat 5 g) (BitVec.ofNat 64 (k.w 1)) (BitVec.ofNat 32 period) (BitVec.ofNat 64 (k.w 3))))) t.2
        (s.modChn fun x => { x with sched := some { cmd := r, g := g, base := k.w 1, period := period, apply := k.w 3,
                                                     waiting := others, refused := false } }).schedAnswered

/-- R415, R103: the apply time of a distributed schedule has come. -/
def State.schedApplyTime (s : State) (g : Nat) : State :=
  match (s.time.sched.get g).apply with
  | none => s
  | some (at_, base, period) =>
    if s.now < at_ then s
    else
      let s := s.modTime fun t => { t with sched := t.sched.modify g fun x => { x with apply := none } }
      if period = 0 then (s.schedStop g).setFld F.PIN_OWN_holder (32 + g) 0
      else ((s.setPair .SYN_SCHED_BASE_LO .SYN_SCHED_BASE_HI g base).setFld F.SYN_SCHED_PERIOD_period g period).schedStart g

/-! ### Forwarded ports (R416 to R418) -/

/-- R416: the cameras of port p are stopped here. -/
def State.portStopped (s : State) (p : Nat) : Bool := (portCams p).all fun n => s.stream n == 0

/-- R416: PORT_FORWARD; what the target's firmware answers: its port p is disabled and its cameras are stopped; and
whether the wire load fits on every link of the path. -/
def State.portForward (s : State) (r : CmdRef) (targetOk pathOk : Bool) : State :=
  s.onCmd r 0x0802 fun k s =>
    let p := getBits (k.w 0) 0 4
    let q := getBits (k.w 0) 8 3
    if q = s.pos ∨ !s.presentPos q then s.reply r stClosed
    else if !s.portStopped p || s.isOut p || s.isIn p || !targetOk || !pathOk || decide ((s.chn.peers.get q).enrol ≠ s.sfl.enrol) then
      s.reply r stConflict
    else
      let s := (s.putFldBit F.CHN_FWD_out 0 p true).setFld F.CHN_FWD_PEER_peer p q
      let s := s.modChn fun x => { x with lostAt := x.lostAt.set p none }
      let s := s.emit (.chainMsg q (.forward (BitVec.ofNat 4 p) true))
      (s.linkEffect p (.caps (s.reg .IXL_HUB_CAPS p) (s.reg .IXL_SLOTS_PRESENT p))).reply r stOk

/-- R416: a return; whether the cameras of the port are stopped on the target, as its firmware answers. -/
def State.portReturn (s : State) (r : CmdRef) (targetOk : Bool) : State :=
  s.onCmd r 0x0802 fun k s =>
    let p := getBits (k.w 0) 0 4
    let q := s.fwdPeer p
    if !s.isOut p || !s.presentPos q then s.reply r stClosed
    else if !targetOk then s.reply r stConflict
    else
      let s := (s.putFldBit F.CHN_FWD_out 0 p false).modChn fun x => { x with trigs := x.trigs.filter fun t => t.port != p }
      (s.emit (.chainMsg q (.forward (BitVec.ofNat 4 p) false))).reply r stOk

/-- R352: a command of opcode 0x0802 forwards where P0[16] is 1. -/
def State.portMove (s : State) (r : CmdRef) (forward : Bool) (body : State → State) : State :=
  match s.command r with
  | some k => if bit (k.w 0) 16 = forward then body s else s
  | none => s

/-- R417: what happens as of an earlier stamp. -/
def State.asOf (s : State) (t : Nat) (f : State → State) : State :=
  (f (s.modTime fun x => { x with now := t })).modTime fun x => { x with now := s.time.now }

/-- R417: a forwarded packet of port p from position q, with its arrival stamp, reaches intake here. -/
def State.fwdPacket (s : State) (q p stamp : Nat) (k : Packet) : State :=
  if s.isIn p ∧ s.fwdPeer p = q ∧ 1 ≤ k.ptype.toNat ∧ k.ptype.toNat ≤ 4 then s.asOf stamp fun s => s.cameraPacket p k else s

/-- R417, R418: link events, capabilities and trigger reports of a forwarded port. -/
def State.fwdControl (s : State) (q p : Nat) (c : FwdCtl) : State :=
  if s.isIn p ∧ s.fwdPeer p = q then
    match c with
    | .trigger mask seq inst =>
      ((portCams p).filter fun n => bit mask.toNat (camSlot n) && (s.cam n).asked.any fun l => l.s == inst).foldl (fun s n =>
        (s.modCam n fun c => { c with asked := c.asked.filter fun l => l.s != inst }).expectTrig n seq.toNat inst) s
    | c => s.frameEffect p c
  else s

/-! ### Windows (R419 to R422) -/

/-- R419: WINDOW_OPEN. -/
def State.windowOpen (s : State) (r : CmdRef) : State :=
  s.onCmd r 0x0803 fun k s =>
    let q := getBits (k.w 0) 0 3
    let n := getBits (k.w 2) 0 32
    if k.w 1 % 64 ≠ 0 then s.reply r stBadParam 1
    else if n % 64 ≠ 0 ∨ n = 0 ∨ 0x1000000 < n then s.reply r stBadParam 2
    else if s.ownerMemory (k.w 1) n = false then s.reply r stDenied
    else
      match (List.range 16).find? fun w => !s.flag F.CHN_WIN_CTL_open w with
      | none => s.reply r stNoResource
      | some w =>
        let s := (s.setPair .CHN_WIN_BASE_LO .CHN_WIN_BASE_HI w (k.w 1)).setRegN .CHN_WIN_LEN w n
        let s := (s.setFld F.CHN_WIN_CTL_peer w q).setFld F.CHN_WIN_CTL_open w 1
        (s.emit (.chainMsg q (.window (BitVec.ofNat 4 w) true (BitVec.ofNat 32 n)))).reply r stOk 0 w

/-- R422: WINDOW_CLOSE. -/
def State.windowClose (s : State) (r : CmdRef) : State :=
  s.onCmd r 0x0804 fun k s =>
    let w := getBits (k.w 0) 0 8
    if 16 ≤ w ∨ !s.flag F.CHN_WIN_CTL_open w then s.reply r stClosed else (s.closeWindow w).reply r stOk

/-- R352: CHAIN_STATUS. -/
def State.chainStatus (s : State) (r : CmdRef) : State :=
  s.onCmd r 0x0801 fun _ s => s.reply r stOk 0 (s.fld F.CHN_STATUS_present + s.pos * 2 ^ 8)

/-- R421: the acknowledgement of a peer write. -/
def State.ackPeer (s : State) (q info status : Nat) : State :=
  s.emit (.chainPkt q 4 (getBits info 32 4) (getBits info 0 49 + status * 2 ^ 49) [])

/-- R419, R421, R422: a peer write from position q: performed through its window, or dropped. -/
def State.peerWrite (s : State) (q info : Nat) (bytes : List Byte) : State :=
  let w := getBits info 32 8
  let off := getBits info 0 32
  if w < 16 ∧ s.flag F.CHN_WIN_CTL_open w ∧ s.fld F.CHN_WIN_CTL_peer w = q ∧ off + bytes.length ≤ s.regN .CHN_WIN_LEN w then
    let s := s.memW s.asOwner (s.pair .CHN_WIN_BASE_LO .CHN_WIN_BASE_HI w + off) bytes
    if bit info 48 then s.ackPeer q info 0 else s
  else (s.chnCount .CHN_CNT_WIN_DROP).ackPeer q info 1

/-- R421, R422: the row of a transfer that a peer write at an offset belongs to. -/
def Xfer.rowOfPeer (x : Xfer) (q w off : Nat) : Option Nat :=
  (List.range x.issued).find? fun r =>
    x.d.dstSp == spPeer && getBits (x.dstAt r) 40 3 == q && getBits (x.dstAt r) 32 8 == w &&
    decide (x.dstAt r % 2 ^ 32 ≤ off) && decide (off < x.dstAt r % 2 ^ 32 + x.d.cnt0)

/-- R421, R422: one more packet of row r of transfer k is acknowledged; after its last the row counts as delivered. -/
def State.ackRow (s : State) (i q k r : Nat) : State :=
  match ((s.dmaQ i q)[k]?).bind fun x => x.unacked.find? fun e => e.1 == r with
  | none => s
  | some e =>
    if 1 < e.2.1 then
      s.modXfer i q k fun x => { x with unacked := x.unacked.map fun f => if f.1 = r then (r, e.2.1 - 1, e.2.2) else f }
    else (s.modXfer i q k fun x => { x with unacked := x.unacked.filter fun f => f.1 != r }).rowCounts i q k r e.2.2

/-- R421, R422, R293: a PEER_ACK from position q. -/
def State.peerAck (s : State) (q info : Nat) : State :=
  let i := getBits info 40 4
  let j := getBits info 44 4
  let closed := getBits info 49 2 == 1
  let l := s.dmaQ i j
  match ((List.range l.length).zip l).findSome? fun e => (e.2.rowOfPeer q (getBits info 32 8) (getBits info 0 32)).map fun r => (e.1, r) with
  | some (k, r) =>
    let s := if closed then s.modXfer i j k fun x => { x with status := if x.status = 0 then 3 else x.status } else s
    s.ackRow i j k r
  | none => if closed then (s.chnCount .CHN_CNT_CLOSED_LATE).logEvent clsChain (srcQueue i j) 0x03 else s

/-! ### Messages (R412, R415 to R419) -/

/-- R415: the answer of position q about schedule g. -/
def State.schedAnswer (s : State) (q g : Nat) (taken : Bool) : State :=
  match s.chn.sched with
  | none => s
  | some r =>
    if r.g = g ∧ r.waiting.contains q then
      (s.modChn fun x => { x with sched := some { r with waiting := r.waiting.filter (· != q), refused := r.refused || !taken } }).schedAnswered
    else s

/-- R415: what was taken of schedule g for a command is undone. -/
def State.schedRelease (s : State) (g : Nat) : State :=
  match (s.time.sched.get g).apply with
  | none => s
  | some a =>
    let s := s.modTime fun t => { t with sched := t.sched.modify g fun x => { x with apply := none } }
    if a.2.2 = 0 then s else s.setFld F.PIN_OWN_holder (32 + g) 0

/-- R416: position q forwards its port p here, or takes it back. -/
def State.forwardNotice (s : State) (q p : Nat) (on : Bool) : State :=
  (s.putFldBit F.CHN_FWD_in 0 p on).setFld F.CHN_FWD_PEER_peer p q

/-- R418: a trigger that the target q of port p asks for; one that comes after L is reported as not launched. R109: an
ABORT goes at once, and takes back what its slots still wait for. -/
def State.triggerRequest (s : State) (q p mask launch inst : Nat) (abort : Bool) : State :=
  if s.isOut p ∧ s.fwdPeer p = q then
    if abort then
      let s := s.modChn fun x => { x with trigs := x.trigs.filter fun r => !(r.port == p && r.from_ == q && Nat.land r.slotMask mask != 0) }
      (s.sendTrigger p mask 1 s.now).2
    else if launch < s.now then s.emit (.chainCtl q p (.trigger (BitVec.ofNat 32 mask) 0x3FFF inst))
    else s.modChn fun x => { x with trigs := x.trigs ++ [{ port := p, slotMask := mask, launch := launch, inst := inst, from_ := q }] }
  else s

/-- R419, R422: position q opens or closes window w for this device. -/
def State.windowNotice (s : State) (q w : Nat) (open_ : Bool) (len : Nat) : State :=
  (s.putFldBit F.CHN_RWIN_open q w open_).modChn fun x => { x with rwin := x.rwin.set (16 * q + w) (if open_ then len else 0) }

/-- R412: a message from the firmware of position q. -/
def State.chainMessage (s : State) (q : Nat) : ChainMsg → State
  | .schedule g base period apply =>
    let t := s.takeSchedule g.toNat base.toNat period.toNat apply.toNat
    let t := if period ≠ 0 ∧ s.owner (32 + g.toNat) = 4 then (t.1, t.2.logEvent clsChain srcChn 0x02) else t
    t.2.emit (.chainMsg q (.scheduleAnswer g t.1))
  | .scheduleAnswer g taken => s.schedAnswer q g.toNat taken
  | .scheduleRelease g => s.schedRelease g.toNat
  | .forward p on => s.forwardNotice q p.toNat on
  | .trigger p mask launch inst abort => s.triggerRequest q p.toNat mask.toNat launch inst abort
  | .window w o len => s.windowNotice q w.toNat o len.toNat
  | .tunnel p tag slot bus combined addr ccc wdata rlen =>
    if s.isOut p.toNat ∧ s.fwdPeer p.toNat = q then
      s.tunnelRequest p.toNat { slot := slot, bus := bus, combined := combined, addr := addr, ccc := ccc, wdata := wdata, rlen := rlen } (.remote q tag)
    else s
  | .tunnelResp p payload => if s.isIn p.toNat ∧ s.fwdPeer p.toNat = q then s.tunnelResponse p.toNat payload else s

/-! ### The chain link (R411, R412) -/

/-- R49, R51, R411: a chain packet of len payload bytes is accepted on chain port p in sequence, or as the packet that a
NAK asked for. -/
def State.chainAccept (s : State) (p len : Nat) : State :=
  let c := ceilDiv (16 + ceilDiv len 8 * 8) 256
  let x := s.port p
  let s := s.setPort p { x with
    replay := none, hubCredit := x.hubCredit - c, expect := (x.expect + 1) % 65536, lastAcc := x.expect,
    accSince := x.accSince + 1, ackFrom := if x.accSince = 0 then s.now else x.ackFrom }
  let s := s.freeCredits p c
  if 16 ≤ x.accSince + 1 then s.sendAck p else s

/-- R411: a packet for position d (none: every position) goes on at the other chain port, where its way leads there. -/
def State.passOn (s : State) (p q : Nat) (d : Option Nat) (o : Out) : State :=
  let far := 33 - p
  let on := match d with | none => true | some d => d != s.pos && s.portToward d == far
  if on && s.portState far == pActive then s.emit (.transit q o) else s

/-- R411, R412: a chain packet of len payload bytes from position q for position d (none: every position) arrives: it
passes on, and acts where it is for this device. Nothing arrives over a port that is not ACTIVE. -/
def State.chainPacket (s : State) (q : Nat) (d : Option Nat) (len : Nat) (o : Out) (act : State → State) : State :=
  let p := s.portToward q
  if q = s.pos ∨ s.portState p ≠ pActive then s
  else
    let s := (s.chainAccept p len).passOn p q d o
    if d = none ∨ d = some s.pos then act s else s

/-- R417: a FWD_PKT packet. -/
def State.onFwdPacket (s : State) (q d p stamp : Nat) (k : Packet) : State :=
  s.chainPacket q (some d) (pktBytes k).length (.chainPkt d 1 p stamp (pktBytes k)) fun s => s.fwdPacket q p stamp k
/-- R417, R418: an FWD_CTL packet of len payload bytes. -/
def State.onFwdControl (s : State) (q d p len : Nat) (c : FwdCtl) : State :=
  s.chainPacket q (some d) len (.chainCtl d p c) fun s => s.fwdControl q p c
/-- R421: a PEER_WR packet. -/
def State.onPeerWrite (s : State) (q d info : Nat) (bytes : List Byte) : State :=
  s.chainPacket q (some d) bytes.length (.chainPkt d 3 (getBits info 32 4) info bytes) fun s => s.peerWrite q info bytes
/-- R421: a PEER_ACK packet. -/
def State.onPeerAck (s : State) (q d info : Nat) : State :=
  s.chainPacket q (some d) 0 (.chainPkt d 4 (getBits info 32 4) info []) fun s => s.peerAck q info
/-- R412: an MSG packet of len payload bytes. -/
def State.onMessage (s : State) (q d len : Nat) (m : ChainMsg) : State :=
  s.chainPacket q (some d) len (.chainMsg d m) fun s => s.chainMessage q m
/-- R423: a STATUS packet of len payload bytes. -/
def State.onStatus (s : State) (q len reach timeState : Nat) (enrol : Option (List Byte)) (seq : Nat) : State :=
  s.chainPacket q none len (.chainStatus reach timeState enrol seq) fun s => s.statusReceived q reach timeState enrol seq

end Sys2Proof.Machine
end

