-- ==== Sys2Proof/Machine/Resets.lean ====
section
/-! DEFINITION. Unit resets, resets of the whole device, start-up, the pins of the TAP and the SMBus, and PCIe
configuration (R30, R435 to R443, R455 to R471). -/
namespace Sys2Proof.Machine

/-! ### Unit resets (R439 to R443) -/

/-- R352: scope of a UNIT_RESET; an unknown scope is answered as scope 1 is. -/
def unitScope (k : Cmd) : Nat := let x := getBits (k.w 0) 0 4; if 2 ≤ x ∧ x ≤ 4 then x else 1

/-- R437: µs within which the unit of a scope is back in service. -/
def resetWithin (scope : Nat) : Nat := if scope = 1 then 50 else if scope = 2 then 21000 else if scope = 3 then 100 else 2 ^ 32 - 1

/-- R439: a UNIT_RESET of a scope, on one of n units: one unit reset at a time, and none during a switch. The time that the
reset in progress has left, which BUSY carries, is a free value within the bound of its scope. -/
def State.unitReset (s : State) (r : CmdRef) (scope n : Nat) (ok : State → Nat → Bool) (body : Nat → State → State) : State :=
  match s.command r with
  | none => s
  | some k =>
    if unitScope k ≠ scope then s
    else s.onCmd r 0x0705 fun k s =>
      let i := getBits (k.w 0) 8 8
      if n ≤ i ∨ getBits (k.w 0) 0 4 ≠ scope ∨ ok s i = false then s.reply r stBadParam 0
      else if s.boot.unit.isSome ∨ s.boot.sw.any (·.began.isSome) then
        let t := s.takeFree
        t.2.reply r stBusy (t.1 % ((s.boot.unit.elim (2 ^ 32 - 1) fun x => resetWithin x.1) + 1))
      else
        let s := s.traceEv 0 0x02 (srcBlock 0) (scope + i * 256)
        body i (s.modBoot fun b => { b with unit := some (scope, i, r, s.now) })

/-- R441: a core reset. The stage in progress runs again, which counts as no fault, and the shares it holds stay leased;
a restoration in progress is joined. -/
def State.resetCore (s : State) (i : Nat) (r : CmdRef) : State :=
  let s := s.modCore i fun x => { x with resetBy := some r }
  if (s.core i).restoring then s
  else
    let b := (s.core i).bound
    (s.haltCore i).modCore i fun x => { x with bound := none, rerun := b }

def State.unitResetCore (s : State) (r : CmdRef) : State :=
  s.unitReset r 1 16 (fun _ _ => true) fun i s => s.resetCore i r

/-- R439, R440: a port reset: enable as if written to 0 and then to 1, and the port's registers at their reset values,
but for IXL_PORT_CFG and IXL_SLOT_CFG. -/
def State.resetPort (s : State) (p : Nat) (r : CmdRef) : State :=
  let s := (s.portDown p).resetRegs fun x i =>
    x.info.block == .IXL && i / x.info.sub == p && x != .IXL_PORT_CFG && x != .IXL_SLOT_CFG
  let s := (s.setFld F.IXL_PORT_CFG_enable p 1).modPort p fun x => { x with resetBy := some r }
  s.beginAttempt p 1 false

def State.unitResetPort (s : State) (r : CmdRef) : State :=
  s.unitReset r 2 16 (fun _ _ => true) fun p s => s.resetPort p r

/-- R442: frame q of camera n has a stripe queued, drawn or in flight in group g. -/
def State.inGroup (s : State) (g n q : Nat) : Bool :=
  ((s.group g).counters.any fun e => e.2.shares.any fun h => h.cam == n && h.seq == q) ||
  (List.range (s.frame n q).queued).any fun k => !s.finalDone n q k

/-- R439: the registers of a stage group's work counters, all of which its reset covers (R10). Firmware configures the
counters of the group's models again when the group returns to service (`State.configCounters`). -/
def countsShares (r : RegName) : Bool :=
  r == .HLD_WC_CFG || r == .HLD_WC_NEXT || r == .HLD_WC_OCC || r == .HLD_WC_CNT_REISSUE || r == .HLD_WC_CNT_LATE_COMMIT ||
    r == .HLD_WC_CNT_STALE_WR

/-- R442: the frames of camera n that a reset of group g drops. -/
def State.dropGroupFrames (s : State) (g n : Nat) : State :=
  let s := ((s.liveFrames n).filter fun q => s.inGroup g n q).foldl (fun s q => s.finalize n q 5) s
  { s with frames := s.frames.map fun e => if e.1 / 128 = n then (e.1, { e.2 with tsDone := [] }) else e }

/-- R439, R442: a stage-group reset. -/
def State.resetGroup (s : State) (g : Nat) (r : CmdRef) : State :=
  let cams := s.groupCams g
  let s := (s.groupCores g).foldl (fun s i => (s.haltCore i).modCore i fun x => { x with bound := none, rerun := none }) s
  let s := cams.foldl (fun s n => s.dropGroupFrames g n) s
  let s := s.resetRegs fun x i => countsShares x && i / 32 == g
  s.modGroup g fun x => { x with
    counters := x.counters.map fun e => (e.1, { e.2 with shares := [], done := [], gens := [], drawAt := none }), bars := []
    line := x.line.filter fun l => x.inlineCam.any fun n => !(s.frame n l.seq).isFinal && (s.frame n l.seq).seq == l.seq
    carryInline := none, carryMem := none, resetBy := some r }

def State.unitResetGroup (s : State) (r : CmdRef) : State :=
  s.unitReset r 3 16 (fun s g => s.isFirst g) fun g s => s.resetGroup g r

/-- R443: a tenant reset. -/
def State.unitResetTenant (s : State) (r : CmdRef) : State :=
  s.unitReset r 4 8 (fun _ _ => true) fun k s => s.scrub k (some r) true

/-! ### Resets of the device (R437, R438, R462, R463) -/

/-- R438: registers that a reset of the whole device leaves unchanged. -/
def keptAtReset (r : RegName) : Bool :=
  r == .ERR_FATAL || r == .ERR_FATAL_TIME_LO || r == .ERR_FATAL_TIME_HI || r == .GLB_RESET_CAUSE

/-- R455: the pins that an earlier state drove return to their reset state. -/
def State.pinsFrom (s old : State) : State :=
  ((List.range 4).foldl (fun s i => if (old.time.outs.get i).level then s.emit (.syncOut i false) else s) s).driveFrom old

/-- What no reset reaches: the flash, the fuses, the levels of input pins, and the model's own fields. -/
def State.bare (s : State) : State :=
  let b : State := {
    sec := { svnMin := s.sec.svnMin }
    sfl := { enrol := s.sfl.enrol, hold := s.sfl.hold, holdAt := s.sfl.holdAt, freeAt := s.sfl.freeAt }
    boot := { porst := s.boot.porst, perst := s.boot.perst, pos := s.boot.pos, slots := s.boot.slots, active := s.boot.active, dirCopy := s.boot.dirCopy
              dirSeq := s.boot.dirSeq
              tap := s.boot.tap, cells := s.boot.cells }
    out := s.out, free := s.free, pending := s.pending }
  (b.setFld F.CHN_STATUS_pos 0 s.boot.pos).setFld F.SFL_STATUS_hold 0 (b2n s.sfl.hold)

/-- R438: a reset of the whole device, with its cause. -/
def State.wholeReset (s : State) (cause : Nat) : State :=
  let b := s.bare
  let b := { b with regs := b.regs ++ s.regs.filter (fun (e : (RegName × Nat) × Word) => keptAtReset e.1.1)
                    time := { now := s.time.now, frac := s.time.frac, tclk := s.time.tclk, running := s.time.running, heldF := s.time.heldF }
                    log := { obsFrom := s.time.tclk } }
  let b := (b.setFld F.SFL_STATUS_trip 0 (s.fld F.SFL_STATUS_trip)).setFld F.GLB_RESET_CAUSE_cause 0 cause
  (b.setFld F.GLB_RESET_CAUSE_count 0 (satAdd 8 (b.fld F.GLB_RESET_CAUSE_count) 1)).pinsFrom s

/-- R437, R463: a power-on reset: device time restarts at 0 when TCLK locks. -/
def State.powerReset (s : State) : State := s.bare.pinsFrom s

/-- R462, R469: start-up begins, once PORST# and PERST# are both deasserted: stage CLOCKS. -/
def State.startUp (s : State) : State :=
  if s.boot.porst && s.boot.perst then s.modBoot fun b => { b with starting := true, tap := 0, cells := [] } else s

/-- R438, R470: PERST# is asserted. -/
def State.perstAssert (s : State) : State :=
  if s.boot.porst && s.boot.perst then (s.wholeReset 1).modBoot fun b => { b with perst := false }
  else s.modBoot fun b => { b with perst := false }

/-- R437: a PCIe Hot Reset, while the link can carry one. -/
def State.hotReset (s : State) : State := if s.boot.porst && s.boot.perst then (s.wholeReset 2).startUp else s

/-- R463: PORST# is asserted. -/
def State.porstAssert (s : State) : State := if s.boot.porst then s.powerReset.modBoot fun b => { b with porst := false } else s

/-- R463: a rail dips for 2 µs or longer while PORST# is deasserted. -/
def State.railDip (s : State) : State := if s.boot.porst then s.powerReset.startUp else s

/-- R409, R462: the later of PORST# and PERST# is deasserted; CHAIN_POS is sampled with PORST#. -/
def State.startupBegin (s : State) (pos : Nat) : State :=
  if s.boot.porst && s.boot.perst then s
  else
    let p := if s.boot.porst then s.boot.pos else pos
    ((s.modBoot fun b => { b with porst := true, perst := true, pos := p }).setFld F.CHN_STATUS_pos 0 p).startUp

/-! ### Start-up (R465 to R471) -/

def State.bootStage (s : State) : Nat := s.fld F.GLB_BOOT_STATUS_stage

/-- R469: start-up is at a stage. -/
def State.atStage (s : State) (k : Nat) : Bool := s.boot.starting && !s.fatal && s.bootStage == k

def State.setStage (s : State) (k : Nat) : State := s.setFld F.GLB_BOOT_STATUS_stage 0 k

/-- R471: the stage fails with a code; unit: the control processor or DDR5 channel concerned. -/
def State.startupFail (s : State) (code unit : Nat) : State :=
  ((s.modBoot fun b => { b with starting := false }).setFld F.GLB_BOOT_STATUS_fail 0 code).fatalError 9 unit

/-- R29, R94, R469: the PLLs have locked: TCLK counts, and stage ROM begins. Beyond position 0 the source is CASCADE. -/
def State.clocksLocked (s : State) : State :=
  if s.atStage 0 then
    let s := ((s.setRegN .GLB_CLK_STATUS 0 0x3F).modTime fun t => { t with running := true }).setStage 1
    if s.boot.pos = 0 then s else s.setSource 2
  else s

/-- R471: a PLL has not locked within 500 µs. -/
def State.pllTimeout (s : State) : State := if s.atStage 0 then s.startupFail 1 0 else s

/-- R468: a memory record is valid. -/
def recordOk (b : List Byte) : Bool :=
  decide (leAt b 0 1 ≤ 2) && decide (leAt b 1 1 ≤ 2) && bytesAt b 2 62 == List.replicate 62 0

/-- R365: the slot whose image the boot ROM accepts: the active one, else the other. -/
def State.bootSlot (s : State) (a b : FwImage) : Option (Nat × FwImage) :=
  let of := fun k => if k = 0 then a else b
  if s.imageOk (of s.boot.active) then some (s.boot.active, of s.boot.active)
  else if s.imageOk (of (1 - s.boot.active)) then some (1 - s.boot.active, of (1 - s.boot.active))
  else none

/-- R303, R315: MEM_GEOM shows what the memory record says. -/
def State.memGeom (s : State) (b : List Byte) : State :=
  let s := (s.setFld F.MEM_GEOM_config 0 (leAt b 0 1)).setFld F.MEM_GEOM_speed 0 (leAt b 1 1)
  s.setFld F.MEM_GEOM_gib 0 (if leAt b 0 1 = 1 then 32 else 64)

/-- R309, R366, R369, R387, R396, R469: the accepted image runs: identity and measurements are set, Ke and Ki are drawn,
and Safelight's processor starts without a policy. -/
def State.runImage (s : State) (slot : Nat) (x : FwImage) : State :=
  let m := imageOf x
  let s := s.modBoot fun b => { b with slots := b.slots.set slot (some m), record := m.record, acceptedAt := s.now }
  let s := s.modSec fun y => { y with running := m }
  let s := (s.setFld F.GLB_BOOT_STATUS_slot 0 slot).setFld F.SEC_STATUS_boot_slot 0 slot
  let s := ((s.setFld F.SEC_STATUS_engine 0 1).setFld F.SEC_STATUS_svn_run 0 m.svn).setFld F.SEC_STATUS_svn_min 0 s.sec.svnMin
  let s := s.setMeas mRom (Config.sm3 (leBytes 4 Config.romVersion ++ leBytes 4 Config.fuseConfig ++ Config.fusedKeyDigest))
  let s := (s.setMeas mFw m.meas).setMeas mPriv (s.sfl.enrol.getD (List.replicate 32 0))
  let s := s.deriveIdentity
  let e := s.takeFree
  let i := e.2.takeFree
  let s := i.2.modHold fun h => { h with ke := e.1 % 2 ^ 128, ki := i.1 % 2 ^ 128 }
  ((s.setFld F.SFL_STATUS_proc 0 1).noPolicy).memGeom m.record

/-- R365, R468, R471: the boot ROM has read and judged the images of slots A and B; the security engine has passed its
self-test or not. -/
def State.imageAccepted (s : State) (a b : FwImage) (selfTest : Bool) : State :=
  if s.atStage 1 then
    match s.bootSlot a b with
    | none => (s.setStage 2).startupFail 2 0
    | some (slot, x) =>
      let s := (s.setStage 3).setFld F.GLB_BOOT_STATUS_slot 0 slot
      if !selfTest then s.startupFail 6 0
      else if !recordOk x.record then s.startupFail 3 0
      else s.runImage slot x
  else s

/-- R471: a control processor has not started within 5 ms of image acceptance. -/
def State.cpStartTimeout (s : State) (cp : Nat) : State :=
  if s.atStage 3 && decide (s.boot.acceptedAt + 5000000 < s.now) then s.startupFail 7 cp else s

/-- R307, R471: training is over; the channels of a mask failed. -/
def State.trainingDone (s : State) (failed : Nat) : State :=
  if s.atStage 3 then
    let s := (s.setStage 4).setFld F.MEM_STATUS_trained 0 (255 - failed % 256)
    if failed % 256 = 0 then
      (s.setStage 5).modHold fun h => { h with refreshAt := (List.range 8).map fun c => (c, s.time.tclk) }
    else (s.setFld F.MEM_STATUS_train_fail 0 (failed % 256)).startupFail 4 (((List.range 8).find? fun c => bit failed c).getD 0)
  else s

/-- R307, R311, R471: every block has been written once with zero plaintext, or a channel met an uncorrectable error. -/
def State.memInitDone (s : State) (err : Option Nat) : State :=
  if s.atStage 5 then
    match err with
    | some c => s.startupFail 5 c
    | none => ((s.memZero.modHold fun h => { h with initWrites := 32768 }).setFld F.MEM_STATUS_ready 0 1).setStage 6
  else s

/-- R187, R189, R404, R410, R469: the units are ready: the cores, unless a trip holds them, are IDLE and count at the
barriers, the chain ports begin bring-up, and the owner is ACTIVE. -/
def State.startupReady (s : State) : State :=
  if s.atStage 6 then
    let s := (s.setStage 7).modBoot fun b => { b with starting := false }
    let s := if s.flag F.SFL_STATUS_trip then s
      else
        let s := (List.range 16).foldl (fun s i => s.clearCore i) s
        let s := ((List.range 16).filter s.isFirst).foldl (fun s g => s.modGroup g fun x => { x with groupMembers := s.groupCores g }) s
        { s with devMembers := List.range 16 }
    let s := (s.beginAttempt 16 1 false).beginAttempt 17 1 false
    (s.putFldBit F.CHN_STATUS_present 0 s.pos true).setFld F.FN_ID_state 0 1
  else s

/-! ### Fatal causes (R30, R435) -/

/-- R30, R435: clock k of GLB_CLK_STATUS (0 ACLK to 4 TCLK) loses lock. -/
def State.clockLost (s : State) (k : Nat) : State :=
  if bit (s.regN .GLB_CLK_STATUS) k then
    let s := s.setRegN .GLB_CLK_STATUS 0 (putBits (s.regN .GLB_CLK_STATUS) k 1 0)
    (s.setRegN .GLB_CLK_LOST 0 (setBit (s.regN .GLB_CLK_LOST) k)).fatalError (k + 1) 0
  else s

/-- R469: the control processors run. -/
def State.cpRuns (s : State) : Bool := decide (3 ≤ s.bootStage)

/-- R435: an uncorrectable error in control-complex memory, which a control processor found. -/
def State.controlMemoryError (s : State) (cp : Nat) : State := if s.cpRuns then s.fatalError 6 cp else s

/-- R435: a control processor's watchdog expires: it restarts, or with another's within 100 ms it is fatal. -/
def State.cpWatchdog (s : State) (cp : Nat) : State :=
  if !s.cpRuns then s
  else
    let near := (List.range 4).any fun i => i != cp && (s.log.wdt.get i).any fun t => decide (s.now ≤ t + 100000000)
    let s := { s with log := { s.log with wdt := s.log.wdt.set cp (some s.now) } }
    if near then s.fatalError 7 cp else s.logEvent clsFw (srcCp cp) 0x01

/-! ### PCIe (R341, R470) -/

/-- R341: a poisoned host write to a register of a function is discarded and reported. -/
def State.poisonedWrite (s : State) (fn : Nat) : State := s.aerError fn

/-- R470, R471: a configuration request: Retry Status while start-up runs, then completed normally; a completed write may
set a function's Bus Master Enable, or the enable of PTM Control (R95). -/
def State.configRequest (s : State) (req : Nat) (w : Option CfgWrite) : State :=
  if s.boot.starting && decide (1 ≤ s.bootStage) then s.emit (.config none)
  else if s.boot.porst && s.boot.perst && (s.bootStage == 7 || s.fld F.GLB_BOOT_STATUS_fail != 0) then
    let s := match w with
      | some (.bme f b) => s.modFn f.val fun x => { x with bme := b }
      | some (.ptm b) => s.modTime fun t => { t with ptmOn := b }
      | none => s
    s.emit (.config (some (Config.configData req)))
  else s

/-- R341: a device read over PCIe fails: the read of a DMA transfer of queue q of core i, or that of a command. -/
def State.hostError (s : State) : (Nat × Nat × Nat × Nat × Nat) ⊕ CmdRef → State
  | .inl (i, q, k, r, p) => s.hostReadError i q k r p
  | .inr c => s.cmdReadError c

/-! ### The TAP (R456) -/

/-- R456: the TAP takes an instruction only while PERST# is asserted. -/
def State.tap (s : State) (mode : Nat) (body : State → State) : State :=
  if s.boot.perst then s else body (s.modBoot fun b => { b with tap := mode })

/-- R456: the identity code. -/
def State.idcode (s : State) : Nat :=
  1 + Config.manufacturer % 2048 * 2 + 0x5120 * 2 ^ 12 + s.fld F.GLB_ID_step_minor % 4 * 2 ^ 28 + s.fld F.GLB_ID_step_major % 4 * 2 ^ 30

/-- The low n bits of x, least significant first. -/
def bitList (x n : Nat) : List Bool := (List.range n).map fun k => bit x k

def State.tapBypass (s : State) : State := s.tap 1 fun s => s
def State.tapIdcode (s : State) : State := s.tap 2 fun s => s.emit (.tapOut (bitList s.idcode 32))
/-- R456: the boundary cells sample the pins, and take preloaded values. -/
def State.tapSample (s : State) (levels preload : List Bool) : State :=
  s.tap 3 fun s => (s.modBoot fun b => { b with cells := preload }).emit (.tapOut levels)
/-- R456: the pins are driven from the cells: 4 EXTEST, 5 EXTEST_PULSE, 6 EXTEST_TRAIN. -/
def State.tapExtest (s : State) (mode : Nat) : State := s.tap mode fun s => s.emit (.tapDrive mode s.boot.cells)

/-! ### The SMBus (R459) -/

/-- R390, R459: the responder answers unless SCLK has stopped or VDD_SFL is out of range. -/
def State.smb (s : State) (n v : Nat) : State :=
  if s.sfl.failClosed = some 1 ∨ s.sfl.failClosed = some 2 then s else s.emit (.smbus (leBytes n v))

/-- R459: a value that Safelight's processor supplies: zero until it runs. -/
def State.sflValue (s : State) (v : Nat) : Nat := if s.fld F.SFL_STATUS_proc = 0 then 0 else v

def State.smbPart (s : State) : State := s.smb 2 0x5120
def State.smbBoot (s : State) : State := s.smb 2 (s.fld F.GLB_BOOT_STATUS_fail * 256 + s.bootStage)
def State.smbTemp (s : State) : State := s.smb 2 (s.sflValue (ofSigned 16 s.tj))
/-- R455: SMB_ALERT# is asserted. Its other end, the SMBus host, is told nothing else by the pin. -/
def State.smbAlert (s : State) : Bool := s.flag F.ERR_FATAL_valid || s.flag F.SFL_STATUS_trip

/-- R459: P_avg in units of 10 mW; the rounding is a free choice of its two neighbours. -/
def State.smbPower (s : State) : State :=
  let p := s.fld F.SFL_POWER_p_avg_mw
  if p % 10 = 0 then s.smb 2 (s.sflValue (min 65535 (p / 10)))
  else
    let t := s.takeFree
    t.2.smb 2 (s.sflValue (min 65535 (p / 10 + t.1 % 2)))
def State.smbGov (s : State) : State := s.smb 1 (s.fld F.SFL_STATUS_trip * 128 + s.sflValue s.govG)
def State.smbFatal (s : State) : State := s.smb 2 (s.fld F.ERR_FATAL_valid * 2 ^ 15 + s.fld F.ERR_FATAL_cause)

end Sys2Proof.Machine
end

