-- ==== Sys2Proof/Machine/Registers.lean ====
section
/-! DEFINITION. Register accesses of the functions: where an address lies, what a read returns and does, and what a write
does (R6 to R10, R16, R63, R69, R342, and the rules of each register). -/
namespace Sys2Proof.Machine

/-! ### Addresses (R13, R16, R69, R342) -/

/-- R16: the block, unit and offset of an address of the owner's BAR0; the alias space of the cameras is apart. -/
def blockAt (a : Nat) : Option (Block × Nat × Nat) :=
  if a < 0x100000 then some (.GLB, 0, a)
  else if a < 0x200000 then some (.SYN, 0, a - 0x100000)
  else if a < 0x300000 then some (.IXL, (a - 0x200000) / 0x10000, (a - 0x200000) % 0x10000)
  else if a < 0x400000 then none
  else if a < 0x600000 then some (.CAM, (a - 0x400000) / 0x1000, (a - 0x400000) % 0x1000)
  else if a < 0x800000 then none
  else if a < 0xC00000 then some (.LC, (a - 0x800000) / 0x40000, (a - 0x800000) % 0x40000)
  else if a < 0xD00000 then some (.HLD, 0, a - 0xC00000)
  else if a < 0xE00000 then some (.MEM, 0, a - 0xD00000)
  else if a < 0xF00000 then some (.DMA, 0, a - 0xE00000)
  else if a < 0xF10000 then some (.FN, 0, a - 0xF00000)
  else if a < 0x1000000 then none
  else if a < 0x1100000 then some (.SEC, 0, a - 0x1000000)
  else if a < 0x1200000 then some (.SFL, 0, a - 0x1100000)
  else if a < 0x1300000 then some (.CHN, 0, a - 0x1200000)
  else if a < 0x1400000 then some (.ERR, 0, a - 0x1300000)
  else if a < 0x1500000 then some (.OBS, 0, a - 0x1400000)
  else if a < 0x1600000 then some (.PIN, 0, a - 0x1500000)
  else if a < 0x1700000 then some (.PWR, 0, a - 0x1600000)
  else none

/-- The number within its unit of the register that lies at an offset. -/
def RegName.indexAt (r : RegName) (off : Nat) : Option Nat :=
  let x := r.info
  if x.base ≤ off ∧ (off - x.base) % x.stride = 0 ∧ (off - x.base) / x.stride < x.sub then some ((off - x.base) / x.stride) else none

/-- R359, R339: registers that a tenant's window does not hold: the ends of the Safelight channels, and MSI-X vectors
beyond 128. -/
def notInTenant (r : RegName) (k : Nat) : Bool :=
  r == .MBX_SFL_DATA || r == .MBX_SFL_CTL || r == .MBX_RSFL_DATA || r == .MBX_RSFL_CTL || (r == .MSIX_TABLE && decide (512 ≤ k)) ||
  (r == .MSIX_PBA && decide (4 ≤ k))

/-- The register and instance at an offset of a unit of a block. -/
def regIn (b : Block) (unit off : Nat) : Option (RegName × Nat) :=
  (RegName.all.filter fun r => r.info.block == b).findSome? fun r =>
    (r.indexAt off).bind fun k => if b = .FN ∧ 0 < unit ∧ notInTenant r k then none else some (r, unit * r.info.sub + k)

/-- The register and instance that a function reaches at an address of its BAR0. -/
def regAt (f a : Nat) : Option (RegName × Nat) :=
  if a % 4 ≠ 0 then none
  else if f = 0 then (blockAt a).bind fun x => regIn x.1 x.2.1 x.2.2
  else if a < 0x10000 then regIn .FN f a else none

/-- R69: the alias that an address names (none the broadcast alias, else a group alias), and the offset in a context. -/
def aliasAt (a : Nat) : Option (Option Nat × Nat) :=
  if a < 0x600000 ∨ 0x621000 ≤ a then none
  else if a < 0x601000 then some (none, a - 0x600000)
  else some (some ((a - 0x601000) / 0x1000), (a - 0x601000) % 0x1000)

/-- R69: the cameras that an alias reaches. -/
def State.aliasCams (s : State) (g : Option Nat) : List Nat :=
  match g with
  | none => List.range 512
  | some g => (List.range 512).filter fun n => s.fld F.CAM_GROUP_group n == g

/-- R7: the high register of a pair. -/
def RegName.high (r : RegName) : RegName :=
  (RegName.all.find? fun x => x.info.block == r.info.block && x.info.base == r.info.base + 4).getD r
/-- R7: the low register of a pair. -/
def RegName.low (r : RegName) : RegName :=
  (RegName.all.find? fun x => x.info.block == r.info.block && x.info.base + 4 == r.info.base).getD r

/-- R470, R471: a block answers the host: from READY on, or, after a failed start-up, GLB, MEM, SEC and ERR alone. -/
def State.answers (s : State) (b : Block) : Bool :=
  s.bootStage == 7 || (s.fld F.GLB_BOOT_STATUS_fail != 0 && (b == .GLB || b == .MEM || b == .SEC || b == .ERR))

/-- What a register access does where its block answers. -/
def State.onBus (s : State) (b : Block) (body : State → State) : State := if s.answers b then body s else s

/-! ### Reads (R6 to R9) -/

/-- R8, R9: the bits of a register that a read returns: those of its fields that are not write-only. -/
def RegName.readMask (r : RegName) : Nat :=
  (r.info.fields.map fun f => if f.acc = .WO then 0 else (2 ^ f.width - 1) * 2 ^ f.lo).sum

/-- R136: copies in use. -/
def State.ppbInUse (s : State) (n : Nat) : Nat :=
  let used := fun c => (s.liveFrames n).any (fun q => (s.frame n q).ppb == c) || (s.started n && s.fld F.CAM_PPB_SEL_copy n == c)
  b2n (used 0) + 2 * b2n (used 1)

/-- R88: CAM_STATUS as it reads. -/
def State.camStatus (s : State) (n : Nat) : Nat :=
  match (s.cam n).openSeq with
  | none => s.stream n
  | some q => s.stream n + 8 + b2n (s.frame n q).inlinePath * 16 + (s.frame n q).rows % 4096 * 256

/-- R458: PIN_GPIO_IN: the level the device drives, or that of the input. -/
def State.gpioIn (s : State) : Nat :=
  (List.range 16).foldl (fun v i => putBits v i 1 (b2n ((s.driven i).getD (bit (s.regN .PIN_GPIO_IN) i)))) 0

/-- A register as it stands, whoever reads it. -/
def State.live (s : State) (r : RegName) (i : Nat) : Nat :=
  match r with
  | .CAM_STATUS => s.camStatus i
  | .CAM_EXPO_STATUS => putBits (s.regN r i) 0 1 (b2n (s.cam i).staged.isSome)
  | .CAM_PPB_SEL => putBits (s.regN r i) 16 2 (s.ppbInUse i)
  | .CAM_ADAPT_STATUS => s.adaptStatus i
  | .CAM_ADAPT_DIGEST => s.adaptDigest (i / 8) (i % 8)
  | .ERR_ENTRY => s.errWord (i / 8) (i % 8)
  | .OBS_CNT_LO => s.obsRead i % 2 ^ 32
  | .OBS_CNT_HI => s.obsRead i / 2 ^ 32
  | .OBS_TRACE_CFG => s.regN r i + 1 - s.regN r i % 2
  | .SFL_POLICY => s.policyWord (i / 128) (i % 128)
  | .SYN_TIME_LO => s.now % 2 ^ 32
  | .SYN_TIME_HI => s.now / 2 ^ 32
  | .SYN_SNAP_LO => s.time.snaps.headD 0 % 2 ^ 32
  | .SYN_SNAP_HI => s.time.snaps.headD 0 / 2 ^ 32
  | .SYN_SNAP_STATUS => putBits (s.regN r i) 0 5 s.time.snaps.length
  | .PIN_GPIO_IN => s.gpioIn
  | .SEC_SNUF_STATUS => s.snufWord
  | r => if countsShares r && !s.isFirst (i / 32) then 0 else s.regN r i

/-- R7: a low-word read latches the high word in the requester's shadow. -/
def State.latch (s : State) (f : Nat) (r : RegName) (i v : Nat) : State :=
  { s with rdShadow := insertAt s.rdShadow (f, r, i) (BitVec.ofNat 32 v) }

/-- R110: a read of SYN_SNAP_LO removes the oldest entry. -/
def State.snapRead (s : State) (f : Nat) : Nat × State :=
  let t := s.time.snaps.headD 0
  (t % 2 ^ 32, (s.modTime fun x => { x with snaps := x.snaps.tail }).latch f .SYN_SNAP_HI 0 (t / 2 ^ 32))

/-- R92: the two words of SYN_TIME come from one instant of the 20 ns that follow the read. -/
def State.timeRead (s : State) (f : Nat) : Nat × State :=
  let e := s.takeFree
  let t := s.now + e.1 % 21
  (t % 2 ^ 32, e.2.latch f .SYN_TIME_HI 0 (t / 2 ^ 32))

/-- R359: the receiver end that a data register belongs to. -/
def rxChannel (r : RegName) : Option Nat := (List.range 5).find? fun c => rxData c == r

/-- R7 to R9, R110, R360: function f reads instance i of a register: the value, and what the read does. -/
def State.readReg (s : State) (f : Nat) (r : RegName) (i : Nat) : Nat × State :=
  match rxChannel r with
  | some c => s.rxRead f c (i % 16)
  | none =>
    if r = .SYN_SNAP_LO then s.snapRead f
    else if r = .SYN_TIME_LO then s.timeRead f
    else match r.info.half with
      | .low => (s.live r i, s.latch f r.high i (s.live r.high i))
      | .high =>
        let v := lookupD s.rdShadow (f, r, i) (BitVec.ofNat 32 (s.live r i))
        (v.toNat, { s with rdShadow := eraseAt s.rdShadow (f, r, i) })
      | .single => (Nat.land (s.live r i) (if r = .OBS_TRACE_CFG then 15 else r.readMask), s)

/-- R6, R8, R69: function f reads at an address: a read that finds no register, and one of an alias, return zero. -/
def State.readAt (s : State) (f a : Nat) : State :=
  match regAt f a with
  | some (r, i) =>
    if s.answers r.info.block then
      let x := s.readReg f r i
      x.2.emit (.readData f (BitVec.ofNat 32 x.1))
    else s.emit (.readData f 0)
  | none => s.emit (.readData f 0)

/-! ### The partition (R18 to R20, R264) -/

/-- R18: stage groups of a partition. -/
def groupCount (v : Nat) : Nat := ((List.range 16).filter (bit v)).length

/-- R19: the cores whose stage group would change under partition v. -/
def State.changedCores (s : State) (v : Nat) : List Nat :=
  let old := s.regN .GLB_SG_BOUNDARY
  (List.range 16).filter fun i => coresOf old (firstOf old i 15) != coresOf v (firstOf v i 15)

/-- R19: a core has a stream bound to its stage group, or a stage program resident. -/
def State.coreTied (s : State) (i : Nat) : Bool := !(s.groupCams (s.groupOf i)).isEmpty || !(s.core i).resident.isEmpty

/-- R19, R264: partition v takes effect: the groups that change start empty, with the cores that are present. -/
def State.repartition (s : State) (v : Nat) : State :=
  let changed := s.changedCores v
  let s := s.setRegN .GLB_SG_BOUNDARY 0 v
  let s := (s.setFld F.GLB_SG_STATUS_groups_minus1 0 (groupCount v - 1)).setFld F.GLB_SG_STATUS_inline_max 0 (groupCount v)
  let s := s.resetRegs fun r i => countsShares r && changed.contains (i / 32)
  changed.foldl (fun s g => s.setGroup g { groupMembers := if bit v g then (coresOf v g).filter s.present else [] }) s

/-- R19: a write of GLB_SG_BOUNDARY. -/
def State.sgBoundaryWrite (s : State) (w : Nat) : State :=
  let v := w % 65536
  if v = 0 ∨ (s.changedCores v).any s.coreTied then s.setFld F.GLB_SG_STATUS_refused 0 1 else s.repartition v

/-! ### Writes (R7 to R9) -/

/-- R9: v written into a register of value old: each field by its access type. The device has set the bits `now` in this very
cycle; locked: the register has been written since its last reset. -/
def writeFields (fs : List FieldInfo) (old v now : Nat) (locked : Bool) : Nat :=
  fs.foldl (fun w f =>
    match f.acc with
    | .RW => putBits w f.lo f.width (getBits v f.lo f.width)
    | .WL => if locked then w else putBits w f.lo f.width (getBits v f.lo f.width)
    | .W1C => putBits w f.lo f.width
        (Nat.lor (getBits now f.lo f.width) (Nat.land (getBits w f.lo f.width) (2 ^ f.width - 1 - getBits v f.lo f.width)))
    | .RO | .WO | .SO => w) old

/-- R9: a register has been written since its last reset. -/
def State.written (s : State) (r : RegName) (i : Nat) : Bool := s.regs.any fun e => e.1 == (r, i)

/-- R9: the value that a write by access type alone leaves. -/
def State.writtenValue (s : State) (r : RegName) (i v : Nat) : Nat :=
  writeFields r.info.fields (s.regN r i) v (s.sameCycle r i) (s.written r i)

/-- R9: a write by access type alone. -/
def State.plainWrite (s : State) (r : RegName) (i v : Nat) : State := s.setRegN r i (s.writtenValue r i v)

/-- R7: a pair that a write can change. -/
def RegName.writable (r : RegName) : Bool := r.info.fields.any fun f => f.acc == .RW || f.acc == .W1C

/-- R46, R63, R103, R415: a write of the register has an effect now. -/
def State.writeTaken (s : State) (r : RegName) (i : Nat) : Bool :=
  if r.stopOnly then s.stream i == 0
  else if r = .SYN_SCHED_PERIOD ∨ r = .SYN_SCHED_BASE_LO ∨ r = .SYN_SCHED_BASE_HI then
    !s.flag F.SYN_SCHED_CTL_enable i && s.owner (32 + i) != 0x05
  else true

/-- R113: a write of CAM_EXPO_CFG: while the stream runs, only the three enables change. -/
def State.expoCfgWrite (s : State) (n v : Nat) : State :=
  if s.stream n = 0 then s.plainWrite .CAM_EXPO_CFG n v
  else s.setRegN .CAM_EXPO_CFG n (putBits (s.regN .CAM_EXPO_CFG n) 8 3 (getBits v 8 3))

/-- R157: a write of CAM_OUT_CREDIT. -/
def State.outCredit (s : State) (n v : Nat) : State :=
  let free := s.fld F.CAM_OUT_STATUS_free n + getBits v 0 8
  let count := s.fld F.CAM_OUT_RING_count n
  let s := s.setFld F.CAM_OUT_STATUS_free n (min free count)
  if count < free then s.logEvent clsOutput (srcCam n) 0x01 else s

/-- R136: a write of CAM_PPB_SEL. -/
def State.ppbSelect (s : State) (n v : Nat) : State := s.setFld F.CAM_PPB_SEL_copy n (getBits v 0 1)

/-- R99: a write of SYN_CTL. -/
def State.synCtlWrite (s : State) (v : Nat) : State := if bit v 0 then s.hardSet else s

/-- R337: a write of CAM_ADAPT_CFG: source 0b11 leaves that field unchanged. -/
def State.adaptCfgWrite (s : State) (n v : Nat) : State :=
  s.plainWrite .CAM_ADAPT_CFG n (if getBits v 30 2 = 3 then putBits v 30 2 (s.fld F.CAM_ADAPT_CFG_source n) else v)

/-- R345, R359: the queue or channel registers of a function, which have rules of their own; i is the instance. -/
def State.windowWrite (s : State) (r : RegName) (i v : Nat) : Option State :=
  match r with
  | .CQ_CFG => some (s.cqCfgWrite (i / 4) (i % 4) v)
  | .CQ_TAIL => some (s.cqTailWrite (i / 4) (i % 4) v)
  | .RQ_HEAD => some (s.rqHeadWrite (i / 4) (i % 4) v)
  | .EVQ_CFG => some (s.evqCfgWrite i v)
  | .MBX_FW_CTL => some (s.txWrite i false v)
  | .MBX_SFL_CTL => some (s.txWrite i true v)
  | _ => none

/-- The registers of a camera context whose writes have rules of their own. -/
def State.contextWrite (s : State) (r : RegName) (n v : Nat) : Option State :=
  match r with
  | .CAM_EXPO_CFG => some (s.expoCfgWrite n v)
  | .CAM_EXPO_NEXT0 => some (s.expoWrite n 0 v)
  | .CAM_EXPO_NEXT1 => some (s.expoWrite n 1 v)
  | .CAM_EXPO_NEXT2 => some (s.expoWrite n 2 v)
  | .CAM_WB_GAIN => some (s.wbWrite n v)
  | .CAM_PPB_SEL => some (s.ppbSelect n v)
  | .CAM_OUT_CREDIT => some (s.outCredit n v)
  | .CAM_ADAPT_CFG => some (s.adaptCfgWrite n v)
  | _ => none

/-- The other registers whose writes have rules of their own. -/
def State.blockWrite (s : State) (r : RegName) (i v : Nat) : Option State :=
  match r with
  | .GLB_SG_BOUNDARY => some (s.sgBoundaryWrite v)
  | .SYN_CFG => some (s.synCfgWrite v)
  | .SYN_CTL => some (s.synCtlWrite v)
  | .SYN_SCHED_CTL => some (s.schedCtlWrite i v)
  | .SYN_OUT_CTL => some (s.syncOutWrite i v)
  | .IXL_PORT_CFG => some (s.portCfgWrite i v)
  | .LC_DMA_REG => some (s.regulatorWrite i v)
  | .ERR_RELEASE => some (s.errReleaseWrite v)
  | .ERR_FIRST_CTL => some (s.errFirstWrite v)
  | .PIN_CLAIM => some (s.pinClaimWrite v)
  | .SEC_SNUF_CFG => some (s.snufRun.plainWrite r i v)
  | .PIN_GPIO_DIR => some ((s.plainWrite r i v).driveFrom s)
  | .PIN_GPIO_OUT => some ((s.plainWrite r i v).driveFrom s)
  | _ => none

/-- R9: a write of a whole register takes effect. -/
def State.applyWrite (s : State) (r : RegName) (i v : Nat) : State :=
  if !s.writeTaken r i then s
  else ((s.windowWrite r i v).orElse fun _ => (s.contextWrite r i v).orElse fun _ => s.blockWrite r i v).getD (s.plainWrite r i v)

/-- R7: the low word of a pair is held in function f's write shadow. -/
def State.pairLowWrite (s : State) (f : Nat) (r : RegName) (i v : Nat) : State :=
  if r.writable then { s with wrShadow := insertAt s.wrShadow (f, r, i) (BitVec.ofNat 32 v) } else s

/-- R7: the high word of a pair takes effect together with the low word that function f's shadow holds, or else with the
current one. -/
def State.pairHighWrite (s : State) (f : Nat) (r : RegName) (i v : Nat) : State :=
  let lo := r.low
  let held := (lookupD s.wrShadow (f, lo, i) (s.reg lo i)).toNat
  let s := { s with wrShadow := eraseAt s.wrShadow (f, lo, i) }
  if r.writable then (s.applyWrite lo i held).applyWrite r i v else s

/-- R7, R9: function f writes instance i of a register. -/
def State.writeReg (s : State) (f : Nat) (r : RegName) (i v : Nat) : State :=
  match r.info.half with
  | .low => s.pairLowWrite f r i v
  | .high => s.pairHighWrite f r i v
  | .single => s.applyWrite r i v

/-- R69: a write to an alias acts on every context it reaches. -/
def State.aliasWrite (s : State) (f a v : Nat) : State :=
  match aliasAt a with
  | none => s
  | some (g, off) =>
    if f = 0 ∧ a % 4 = 0 then
      s.onBus .CAM fun s => (s.aliasCams g).foldl (fun s n =>
        match regIn .CAM n off with
        | some (r, i) => s.writeReg f r i v
        | none => s) s
    else s

/-- R6, R8: a 32-bit write by function f at an address. -/
def State.writeAt (s : State) (f a v : Nat) : State :=
  match regAt f a with
  | some (r, i) => s.onBus r.info.block fun s => s.writeReg f r i v
  | none => s.aliasWrite f a v

/-- R6: the address is the first of a register pair. -/
def pairAt (f a : Nat) : Bool :=
  match regAt f a with
  | some (r, _) => r.info.half == .low
  | none => f == 0 && (match aliasAt a with
      | some (_, off) => (regIn .CAM 0 off).any fun x => x.1.info.half == .low
      | none => false)

/-- R6: a write of n bytes: 32 bits at a multiple of four, or 64 bits at an aligned pair, low word first; any other has
no effect. -/
def State.busWrite (s : State) (f a n v : Nat) : State :=
  if n = 4 ∧ a % 4 = 0 then s.writeAt f a v
  else if n = 8 ∧ a % 8 = 0 ∧ pairAt f a then (s.writeAt f a v).writeAt f (a + 4) (v / 2 ^ 32)
  else s

/-- R6: a read of n bytes: 32 bits at a multiple of four, or 64 bits at an aligned pair, low word first; any other returns
zero. -/
def State.busRead (s : State) (f a n : Nat) : State :=
  if n = 4 ∧ a % 4 = 0 then s.readAt f a
  else if n = 8 ∧ a % 8 = 0 ∧ pairAt f a then (s.readAt f a).readAt f (a + 4)
  else s.emit (.readData f 0)

/-- R7: a write by function f at an address that is one half of a pair. -/
def State.halfWrite (s : State) (f a : Nat) (h : Half) (v : Nat) : State :=
  match regAt f a with
  | some (r, i) => if r.info.half = h then s.onBus r.info.block fun s => s.writeReg f r i v else s
  | none => s

/-! ### The exposure and white-balance loops (R125, R126, R129) -/

/-- R125, R126: a step of the exposure loop on the last frame that closed. -/
def State.aeLoop (s : State) (n : Nat) : State :=
  match (s.cam n).aeDue with
  | none => s
  | some q =>
    let s := s.modCam n fun c => { c with aeDue := none }
    if s.loopOn n 8 && decide (s.regN .CAM_EXPO_TARGET n ≤ q) && (s.frame n q).seq == q && s.statsUsable n q then
      match s.aeStep n q with
      | some t => (s.stageSet n t).camCount .CAM_CNT_AE_UPDATE n clsExpo q
      | none => s
    else s

/-- R129: a step of the white-balance loop on the last frame that closed. -/
def State.awbLoop (s : State) (n : Nat) : State :=
  match (s.cam n).awbDue with
  | none => s
  | some q =>
    let s := s.modCam n fun c => { c with awbDue := none }
    if s.loopOn n 9 && (s.frame n q).seq == q && s.statsUsable n q then
      match s.awbStep n q with
      | some v => s.setRegN .CAM_WB_GAIN n v
      | none => s
    else s

/-! ### Memory temperature (R306) -/

/-- R306: a DRAM temperature sensor reads above 85 °C. -/
def State.dramHot (s : State) : State := s.setFld F.MEM_STATUS_hot 0 1
/-- R306: none reads above 85 °C any longer. -/
def State.dramCool (s : State) : State := s.setFld F.MEM_STATUS_hot 0 0

end Sys2Proof.Machine
end

