-- ==== Sys2Proof/Machine/Timers.lean ====
section
/-! DEFINITION. What the timers of the links, of the tunnel and of intake do when they are due (R34, R50, R51, R54,
R57, R58, R67), and the operands of commands as the operations take them. A command that says a timer fires, when it is
not due, changes nothing. -/
namespace Sys2Proof.Machine

/-- A command arrives dt TCLK cycles after the one before, and has its effect. -/
def after (dt : Nat) (s : State) (f : State → State) : Result := .next (f (s.elapse dt))

/-- R34: a bring-up state misses its limit: the attempt ends. -/
def State.bringupExpiry (s : State) (p : Nat) : State :=
  if s.inBringup p && s.limitPassed p then s.attemptFail p (limitCode (s.portState p)) else s

/-- R51: an ACK, 1 µs after the first packet accepted since the last one. -/
def State.ackTimer (s : State) (p : Nat) : State :=
  let x := s.port p
  if s.portState p = pActive ∧ 0 < x.accSince ∧ x.ackFrom + 1000 ≤ s.now then s.sendAck p else s

/-- R50: a CREDIT block, 1 µs after the first credit freed since the last one. -/
def State.creditTimer (s : State) (p : Nat) : State :=
  let x := s.port p
  if (s.portState p = pActive ∨ s.portState p = pCaps) ∧ 0 < x.freed ∧ x.freedFrom + 1000 ≤ s.now then s.sendCredit p else s

/-- R54: a SKIP is queued; the blocks since the last SKIP count from it. -/
def State.skipSend (s : State) (p : Nat) : State :=
  let s := s.queueBlock p 2 0x33 0
  { s with tx := s.tx.modify p fun t => { t with sinceSkip := 0 } }

/-- R58: a held request begins once fewer than 16 transactions are outstanding. -/
def State.heldStart (s : State) (p : Nat) : State :=
  let x := s.port p
  match x.held with
  | [] => s
  | t :: rest => if x.tunnels.length < 16 then (s.setPort p { x with held := rest }).beginTunnel p t.req t.who else s

/-- R57, R82: a transaction ends with TIMEOUT once no response has come within 5 ms. -/
def State.tunnelTimeout (s : State) (p tag : Nat) : State :=
  match (s.port p).tunnels.find? fun t => t.tag == tag with
  | some t =>
    if t.began + 5000000 < s.now then
      (s.modPort p fun x => { x with tunnels := x.tunnels.filter fun u => u.tag != tag }).tunnelDone p t.who 6 []
    else s
  | none => s

/-- R37: IXL_PORT_CFG written with enable 1. -/
def State.portEnable (s : State) (p v : Nat) : State := s.portCfgWrite p (putBits v 0 1 1)
/-- R37: IXL_PORT_CFG written with enable 0. -/
def State.portDisable (s : State) (p v : Nat) : State := s.portCfgWrite p (putBits v 0 1 0)
/-- R37: IXL_PORT_CFG written with enable and retrain 1. -/
def State.retrainRequest (s : State) (p v : Nat) : State := s.portCfgWrite p (putBits v 0 2 3)
/-- R345, R346: CQ_CFG written with en 1, or 0. -/
def State.cqOn (s : State) (f q v : Nat) : State := s.cqCfgWrite f q (putBits v 31 1 1)
def State.cqOff (s : State) (f q v : Nat) : State := s.cqCfgWrite f q (putBits v 31 1 0)
/-- R356: EVQ_CFG written with en 1. -/
def State.evqOn (s : State) (f v : Nat) : State := s.evqCfgWrite f (putBits v 31 1 1)
/-- R103: SYN_SCHED_CTL written with enable 1, or 0. -/
def State.schedOn (s : State) (g : Nat) : State := s.schedCtlWrite g 1
def State.schedOff (s : State) (g : Nat) : State := s.schedCtlWrite g 0
/-- R111: SYN_OUT_CTL written with enable 1. -/
def State.syncOutOn (s : State) (i v : Nat) : State := s.syncOutWrite i (putBits v 31 1 1)

/-- R110: function f reads SYN_SNAP_LO, and the value goes out. -/
def State.snapReadBy (s : State) (f : Nat) : State :=
  s.onBus .SYN fun s => let x := s.snapRead f; x.2.emit (.readData f (BitVec.ofNat 32 x.1))

/-! ### Packets by the row that names them (R41, R44, R52) -/

/-- R44: a hub status packet of a subtype. -/
def isHub (k : Packet) (p : Nat → Bool) : Bool := k.ptype == 6 && p (hubSubtype k)
/-- R44: a subtype with no meaning. -/
def unknownHub (t : Nat) : Bool := decide (t = 0) || decide (5 ≤ t)
/-- R41: a reserved ptype. -/
def reservedPkt (k : Packet) : Bool := k.ptype == 0 || decide (7 ≤ k.ptype.toNat)

/-- R52: pseq is neither the one expected nor below it. -/
def State.sequenceGap (s : State) (p : Nat) (k : Packet) : Bool :=
  let x := s.port p
  match x.replay with
  | some r => !(k.pseq.toNat == r.q && k.replay) && !pseqBelow k.pseq.toNat r.q
  | none => k.pseq.toNat != x.expect && !pseqBelow k.pseq.toNat x.expect

/-- R42, R50, R52: the packet fails: on its CRC or framing, and while ACTIVE on its credits or sequence too. -/
def State.packetFails (s : State) (p : Nat) (k : Packet) : Bool :=
  !pktCrcOk k || !pktFramed k || (s.portState p == pActive && (decide ((s.port p).hubCredit < pktCost k) || s.sequenceGap p k))

/-- R52: the packet is intact and its pseq is below the one expected. -/
def State.isDuplicate (s : State) (p : Nat) (k : Packet) : Bool :=
  pktCrcOk k && pktFramed k &&
  pseqBelow k.pseq.toNat (match (s.port p).replay with | some r => r.q | none => (s.port p).expect)

/-- A packet arrives, where it is of the kind that the row names. -/
def State.arrive (s : State) (p : Nat) (ok : Bool) (k : Packet) : State := if ok then s.receive p k else s

/-- R41: a packet of reserved ptype; R39: a control block outside any packet. -/
def State.reservedArrives (s : State) (p : Nat) (k : Packet) : State :=
  match k.stray with
  | some t => s.strayBlock p t
  | none => s.arrive p (reservedPkt k) k

/-- R423, R424: what a chain port's loss of its link makes absent. -/
def State.checkChain (s : State) (p : Nat) : State := if 16 ≤ p then s.chainCheck else s

/-! ### Outputs and mailboxes -/

/-- R161: a frame has waited more than 2 ms in all for pool space: its display and coding outputs are shed. -/
def State.poolTimeout (s : State) (n q : Nat) : State :=
  if (s.frame n q).live && (s.frame n q).waitFrom.isSome && decide (2000000 < s.waited n q) then s.shedForPool n q else s

/-- R359, R360: send written in a channel of function f: to firmware, or the owner's to Safelight. -/
def State.mailboxSend (s : State) (f : Nat) (sfl : Bool) (v : Nat) : State :=
  if sfl && f != 0 then s else s.onBus .FN fun s => s.txSend f sfl v

/-! ### Operands -/

/-- The command that an operand names. -/
def cmdRef (r : CmdName) : CmdRef := { fn := r.fn, q := r.q, slot := r.slot.toNat }

/-- R56: a request of firmware. -/
def tunnelReq (r : TunnelOp) : TunnelReq :=
  { slot := r.slot.toNat, bus := r.bus.toNat, combined := r.combined.toNat, addr := r.addr.toNat, ccc := r.ccc.toNat,
    wdata := r.wdata, rlen := r.rlen.toNat }

/-- R341: the read that failed. -/
def hostRead : HostRead → (Nat × Nat × Nat × Nat × Nat) ⊕ CmdRef
  | .dma i q x => .inl (i.val, q.val, x.k.toNat, x.row.toNat, x.piece.toNat)
  | .command r => .inr (cmdRef r)

/-- R184, R221: a vector conversion issues. -/
def State.convertOp (s : State) (i c : Nat) (o : ConvertOp) : State :=
  s.convertIssue i c o.src.toNat o.dst.toNat o.ovfInf o.scale.toNat o.from_ o.to_ o.count.toNat o.record.toNat

end Sys2Proof.Machine
end

