-- ==== Sys2Proof/Machine/CmdChain.lean ====
section
/-! DEFINITION. The chain (chapter 17): the meaning of each command, one definition each. -/
namespace Sys2Proof.Machine

/-- R352, CHAIN_STATUS. -/
def execChainStatus (dt : Nat) (r : CmdName) (s : State) : Result :=
  after dt s fun s => s.chainStatus (cmdRef r)

/-- R416, PORT_FORWARD. -/
def execPortForward (dt : Nat) (r : CmdName) (targetOk : Bool) (pathOk : Bool) (s : State) : Result :=
  after dt s fun s => s.portForward (cmdRef r) targetOk pathOk

/-- R416, PORT_RETURN. -/
def execPortReturn (dt : Nat) (r : CmdName) (targetOk : Bool) (s : State) : Result :=
  after dt s fun s => s.portReturn (cmdRef r) targetOk

/-- R419, WINDOW_OPEN. -/
def execWindowOpen (dt : Nat) (r : CmdName) (s : State) : Result :=
  after dt s fun s => s.windowOpen (cmdRef r)

/-- R422, WINDOW_CLOSE. -/
def execWindowClose (dt : Nat) (r : CmdName) (s : State) : Result :=
  after dt s fun s => s.windowClose (cmdRef r)

/-- R410, POS_BLOCK_RECEIVED. -/
def execPosBlockReceived (dt : Nat) (chd : Bool) (q : BitVec 3) (s : State) : Result :=
  after dt s fun s => s.posReceived (if chd then 17 else 16) q.toNat

/-- R417, FWD_PKT. -/
def execFwdPkt (dt : Nat) (q : BitVec 3) (d : BitVec 3) (p : Fin 16) (stamp : BitVec 64) (k : Packet) (s : State) : Result :=
  after dt s fun s => s.onFwdPacket q.toNat d.toNat p.val stamp.toNat k

/-- R417, FWD_CTL. -/
def execFwdCtl (dt : Nat) (q : BitVec 3) (d : BitVec 3) (p : Fin 16) (len : BitVec 12) (x : FwdCtl) (s : State) : Result :=
  after dt s fun s => s.onFwdControl q.toNat d.toNat p.val len.toNat x

/-- R421, PEER_WR. -/
def execPeerWr (dt : Nat) (q : BitVec 3) (d : BitVec 3) (info : BitVec 64) (bytes : List Byte) (s : State) : Result :=
  after dt s fun s => s.onPeerWrite q.toNat d.toNat info.toNat bytes

/-- R422, PEER_ACK. -/
def execPeerAck (dt : Nat) (q : BitVec 3) (d : BitVec 3) (info : BitVec 64) (s : State) : Result :=
  after dt s fun s => s.onPeerAck q.toNat d.toNat info.toNat

/-- R412, CHAIN_MSG. -/
def execChainMsg (dt : Nat) (q : BitVec 3) (d : BitVec 3) (len : BitVec 12) (m : ChainMsg) (s : State) : Result :=
  after dt s fun s => s.onMessage q.toNat d.toNat len.toNat m

/-- R423, CHAIN_STATUS_PACKET. -/
def execChainStatusPacket (dt : Nat) (q : BitVec 3) (len : BitVec 12) (reach : Byte) (timeState : BitVec 2) (enrol : Option (List Byte)) (seq : BitVec 32) (s : State) : Result :=
  after dt s fun s => s.onStatus q.toNat len.toNat reach.toNat timeState.toNat enrol seq.toNat

/-- R423, STATUS_SEND_TIMER. -/
def execStatusSendTimer (dt : Nat) (s : State) : Result :=
  after dt s fun s => s.statusSend

/-- R423, PRESENCE_TIMEOUT. -/
def execPresenceTimeout (dt : Nat) (q : BitVec 3) (s : State) : Result :=
  after dt s fun s => s.presenceTimeout q.toNat

/-- R425, FORWARD_TAKEBACK. -/
def execForwardTakeback (dt : Nat) (p : Fin 16) (s : State) : Result :=
  after dt s fun s => s.takeback p.val

/-- R414, DELAY_REQ_TIMER. -/
def execDelayReqTimer (dt : Nat) (s : State) : Result :=
  after dt s fun s => s.delayReqSend

/-- R414, DELAY_REQ. -/
def execDelayReq (dt : Nat) (s : State) : Result :=
  after dt s fun s => s.delayAnswer

/-- R414, DELAY_RESP. -/
def execDelayResp (dt : Nat) (turn : BitVec 32) (s : State) : Result :=
  after dt s fun s => s.delayMeasured turn.toNat

end Sys2Proof.Machine
end

