-- ==== Sys2Proof/Machine/CmdDma.lean ====
section
/-! DEFINITION. DMA engines (chapter 11): the meaning of each command, one definition each. -/
namespace Sys2Proof.Machine

/-- R270, DMA_INSTRUCTION. -/
def execDmaInstruction (dt : Nat) (i : Fin 16) (c : Fin 8) (o : DmaOp) (s : State) : Result :=
  after dt s fun s => s.dmaInstruction i.val c.val o

/-- R271, DMA_TRANSFER_PLACE. -/
def execDmaTransferPlace (dt : Nat) (i : Fin 16) (s : State) : Result :=
  after dt s fun s => s.transferPlace i.val

/-- R283, DMA_PIECE_ISSUE. -/
def execDmaPieceIssue (dt : Nat) (i : Fin 16) (write : Bool) (returned : List (Fin 16 × Byte)) (s : State) : Result :=
  after dt s fun s => s.pieceIssue i.val write (returned.map fun e => (e.1.val, e.2.toNat))

/-- R277, DMA_ROW_DELIVERED. -/
def execDmaRowDelivered (dt : Nat) (i : Fin 16) (q : Fin 16) (k : Byte) (row : Word) (host : List Byte) (s : State) : Result :=
  after dt s fun s => s.rowDelivered i.val q.val k.toNat row.toNat host

/-- R288, FAULT_WALK. -/
def execFaultWalk (dt : Nat) (i : Fin 16) (q : Fin 16) (s : State) : Result :=
  after dt s fun s => s.faultWalk i.val q.val

/-- R288, FAULT_WAIT_EXPIRY. -/
def execFaultWaitExpiry (dt : Nat) (i : Fin 16) (q : Fin 16) (s : State) : Result :=
  after dt s fun s => s.faultExpiry i.val q.val

end Sys2Proof.Machine
end

