-- ==== Sys2Proof/Machine/CmdHost.lean ====
section
/-! DEFINITION. Command packets (chapter 14): the meaning of each command, one definition each. -/
namespace Sys2Proof.Machine

/-- R115, PROFILE_LOAD. -/
def execProfileLoad (dt : Nat) (r : CmdName) (bytes : List Byte) (s : State) : Result :=
  after dt s fun s => s.profileLoad (cmdRef r) bytes

/-- R352, SENSOR_XFER. -/
def execSensorXfer (dt : Nat) (r : CmdName) (s : State) : Result :=
  after dt s fun s => s.sensorXfer (cmdRef r)

/-- R352, CAM_GRANT. -/
def execCamGrant (dt : Nat) (r : CmdName) (s : State) : Result :=
  after dt s fun s => s.camGrant (cmdRef r)

/-- R479, CAM_RINGS. -/
def execCamRings (dt : Nat) (r : CmdName) (s : State) : Result :=
  after dt s fun s => s.camRings (cmdRef r)

/-- R375, MODEL_LOAD. -/
def execModelLoad (dt : Nat) (r : CmdName) (img : ModelImg) (s : State) : Result :=
  after dt s fun s => s.modelLoad (cmdRef r) img

/-- R376, MODEL_UNLOAD. -/
def execModelUnload (dt : Nat) (r : CmdName) (s : State) : Result :=
  after dt s fun s => s.modelUnload (cmdRef r)

/-- R142, MODEL_BIND. -/
def execModelBind (dt : Nat) (r : CmdName) (s : State) : Result :=
  after dt s fun s => s.modelBind (cmdRef r)

/-- R240, CALIB_CAPTURE. -/
def execCalibCapture (dt : Nat) (r : CmdName) (s : State) : Result :=
  after dt s fun s => s.calibCapture (cmdRef r)

/-- R352, MODEL_INFO. -/
def execModelInfo (dt : Nat) (r : CmdName) (s : State) : Result :=
  after dt s fun s => s.modelInfo (cmdRef r)

/-- R354, MAP. -/
def execMap (dt : Nat) (r : CmdName) (s : State) : Result :=
  after dt s fun s => s.map (cmdRef r)

/-- R355, UNMAP. -/
def execUnmap (dt : Nat) (r : CmdName) (s : State) : Result :=
  after dt s fun s => s.unmap (cmdRef r)

/-- R355, MOVE. -/
def execMove (dt : Nat) (r : CmdName) (s : State) : Result :=
  after dt s fun s => s.move (cmdRef r)

/-- R352, MEM_GRANT. -/
def execMemGrant (dt : Nat) (r : CmdName) (s : State) : Result :=
  after dt s fun s => s.memGrant (cmdRef r)

/-- R382, MEM_REVOKE. -/
def execMemRevoke (dt : Nat) (r : CmdName) (s : State) : Result :=
  after dt s fun s => s.memRevoke (cmdRef r)

/-- R289, FAULT_RESUME. -/
def execFaultResume (dt : Nat) (r : CmdName) (s : State) : Result :=
  after dt s fun s => s.faultResume (cmdRef r)

/-- R352, FW_POOL. -/
def execFwPool (dt : Nat) (r : CmdName) (s : State) : Result :=
  after dt s fun s => s.fwPool (cmdRef r)

/-- R352, TIME_GET. -/
def execTimeGet (dt : Nat) (r : CmdName) (s : State) : Result :=
  after dt s fun s => s.timeGet (cmdRef r)

/-- R415, SCHED_APPLY. -/
def execSchedApply (dt : Nat) (r : CmdName) (s : State) : Result :=
  after dt s fun s => s.schedApply (cmdRef r)

/-- R453, COUNTER_READ. -/
def execCounterRead (dt : Nat) (r : CmdName) (s : State) : Result :=
  after dt s fun s => s.counterRead (cmdRef r)

/-- R451, TRACE_READ. -/
def execTraceRead (dt : Nat) (r : CmdName) (s : State) : Result :=
  after dt s fun s => s.traceRead (cmdRef r)

/-- R232, LAYER_TOTALS. -/
def execLayerTotals (dt : Nat) (r : CmdName) (s : State) : Result :=
  after dt s fun s => s.layerTotals (cmdRef r)

/-- R433, ERRLOG_READ. -/
def execErrlogRead (dt : Nat) (r : CmdName) (s : State) : Result :=
  after dt s fun s => s.errlogRead (cmdRef r)

/-- R352, ECHO. -/
def execEcho (dt : Nat) (r : CmdName) (s : State) : Result :=
  after dt s fun s => s.echo (cmdRef r)

end Sys2Proof.Machine
end

