-- ==== Sys2Proof/Machine/CmdLantern.lean ====
section
/-! DEFINITION. Instructions of the Lantern cores (chapters 07 to 10): the meaning of each command, one definition each. -/
namespace Sys2Proof.Machine

/-- R182, ARRAY_TILE. -/
def execArrayTile (dt : Nat) (i : Fin 16) (c : Fin 8) (o : TileOp) (s : State) : Result :=
  after dt s fun s => s.arrayTile i.val c.val o

/-- R182, ARRAY_COMPLETE. -/
def execArrayComplete (dt : Nat) (i : Fin 16) (s : State) : Result :=
  after dt s fun s => s.arrayComplete i.val

/-- R184, VECTOR_OP. -/
def execVectorOp (dt : Nat) (i : Fin 16) (c : Fin 8) (f : VFun) (srcs : List VSrc) (dst : VDst) (lines : BitVec 16) (record : Option Byte) (s : State) : Result :=
  after dt s fun s => s.vectorIssue i.val c.val f srcs dst lines.toNat (record.map (·.toNat))

/-- R221, VECTOR_CONVERT. -/
def execVectorConvert (dt : Nat) (i : Fin 16) (c : Fin 8) (o : ConvertOp) (s : State) : Result :=
  after dt s fun s => s.convertOp i.val c.val o

/-- R184, VECTOR_REDUCTION. -/
def execVectorReduction (dt : Nat) (i : Fin 16) (c : Fin 8) (f : VFold) (src : VSrc) (dst : VDst) (lines : BitVec 16) (s : State) : Result :=
  after dt s fun s => s.reduceIssue i.val c.val f src dst lines.toNat

/-- R184, VECTOR_COMPLETE. -/
def execVectorComplete (dt : Nat) (i : Fin 16) (s : State) : Result :=
  after dt s fun s => s.vectorComplete i.val

/-- R186, RESCALE_LOAD. -/
def execRescaleLoad (dt : Nat) (i : Fin 16) (c : Fin 8) (src : Word) (e : BitVec 10) (n : BitVec 11) (s : State) : Result :=
  after dt s fun s => s.rescaleLoad i.val c.val src.toNat e.toNat n.toNat

/-- R245, GRID. -/
def execGrid (dt : Nat) (i : Fin 16) (c : Fin 8) (g : Byte) (p : BitVec 16) (r : BitVec 5) (s : State) : Result :=
  after dt s fun s => s.gridIssue i.val c.val g.toNat p.toNat r.toNat

/-- R245, GRID_TILE_ISSUE. -/
def execGridTileIssue (dt : Nat) (i : Fin 16) (c : Fin 8) (s : State) : Result :=
  after dt s fun s => s.gridTileIssue i.val c.val

/-- R234, RCHK. -/
def execRchk (dt : Nat) (i : Fin 16) (c : Fin 8) (record : Byte) (s : State) : Result :=
  after dt s fun s => s.rchk i.val c.val record.toNat

/-- R170, CONTROL_WAIT. -/
def execControlWait (dt : Nat) (i : Fin 16) (c : Fin 8) (w : WaitFor) (s : State) : Result :=
  after dt s fun s => s.controlWait i.val c.val w

/-- R187, BARRIER_ARRIVE. -/
def execBarrierArrive (dt : Nat) (i : Fin 16) (c : Fin 8) (b : BarScope) (s : State) : Result :=
  after dt s fun s => s.barrierArrive i.val c.val b

/-- R188, BARRIER_WAIT. -/
def execBarrierWait (dt : Nat) (i : Fin 16) (c : Fin 8) (b : BarScope) (phase : Nat) (s : State) : Result :=
  after dt s fun s => s.barrierWait i.val c.val b phase

/-- R190, BARRIER_TIMEOUT. -/
def execBarrierTimeout (dt : Nat) (i : Fin 16) (c : Fin 8) (s : State) : Result :=
  after dt s fun s => s.barrierTimeout i.val c.val

/-- R192, RING_RECEIVE_POST. -/
def execRingReceivePost (dt : Nat) (i : Fin 16) (c : Fin 8) (a : Word) (len : Word) (s : State) : Result :=
  after dt s fun s => s.ringReceivePost i.val c.val a.toNat len.toNat

/-- R192, RING_SEND. -/
def execRingSend (dt : Nat) (i : Fin 16) (c : Fin 8) (a : Word) (len : Word) (mask : BitVec 16) (s : State) : Result :=
  after dt s fun s => s.ringSend i.val c.val a.toNat len.toNat mask.toNat

/-- R192, RING_COMPLETE. -/
def execRingComplete (dt : Nat) (i : Fin 16) (s : State) : Result :=
  after dt s fun s => s.ringComplete i.val

/-- R192, RING_TIMEOUT. -/
def execRingTimeout (dt : Nat) (i : Fin 16) (c : Fin 8) (s : State) : Result :=
  after dt s fun s => s.ringTimeout i.val c.val

/-- R177, SPAD_ECC_ERROR. -/
def execSpadEccError (dt : Nat) (i : Fin 16) (c : Fin 8) (pc : BitVec 12) (uncorrectable : Bool) (s : State) : Result :=
  after dt s fun s => s.spadEcc i.val c.val pc.toNat uncorrectable

end Sys2Proof.Machine
end

