-- ==== Sys2Proof/Machine/CmdMemory.lean ====
section
/-! DEFINITION. Hold cache and DDR5 (chapter 12): the meaning of each command, one definition each. -/
namespace Sys2Proof.Machine

/-- R298, HOLD_CACHE_REQUEST. -/
def execHoldCacheRequest (dt : Nat) (x : Fin 9) (line : BitVec 32) (acc : MemAcc) (noAlloc : Bool) (key : BitVec 64) (o : HoldFrom) (s : State) : Result :=
  after dt s fun s =>
    s.holdRequest { agent := x.val, noAlloc := noAlloc, key := key.toNat, core := o.core.val } line.toNat acc o

/-- R312, DDR5_READ_RETURN. -/
def execDdr5ReadReturn (dt : Nat) (c : Fin 8) (cipher : List Byte) (side : List Byte) (s : State) : Result :=
  after dt s fun s => s.ddrReturn c.val cipher side

/-- R305, DDR5_REQUEST_SERVE. -/
def execDdr5RequestServe (dt : Nat) (c : Fin 8) (held : List (BitVec 32)) (s : State) : Result :=
  after dt s fun s => s.ddrServe c.val (held.map (·.toNat))

/-- R311, DDR5_BLOCK_WRITE. -/
def execDdr5BlockWrite (dt : Nat) (line : BitVec 32) (s : State) : Result :=
  after dt s fun s => s.writeBlock line.toNat

/-- R306, REFRESH_INTERVAL. -/
def execRefreshInterval (dt : Nat) (c : Fin 8) (s : State) : Result :=
  after dt s fun s => s.refresh c.val

/-- R306, DRAM_HOT. -/
def execDramHot (dt : Nat) (s : State) : Result :=
  after dt s fun s => s.dramHot

/-- R306, DRAM_HOT_END. -/
def execDramHotEnd (dt : Nat) (s : State) : Result :=
  after dt s fun s => s.dramCool

end Sys2Proof.Machine
end

