-- ==== Sys2Proof/Machine/CmdPorts.lean ====
section
/-! DEFINITION. Camera link ports (chapter 02): the meaning of each command, one definition each. -/
namespace Sys2Proof.Machine

/-- R34, IXL_PORT_ENABLE. -/
def execIxlPortEnable (dt : Nat) (p : Fin 16) (v : Word) (s : State) : Result :=
  after dt s fun s => s.onBus .IXL fun s => s.portEnable p.val v.toNat

/-- R37, IXL_PORT_DISABLE. -/
def execIxlPortDisable (dt : Nat) (p : Fin 16) (v : Word) (s : State) : Result :=
  after dt s fun s => s.onBus .IXL fun s => s.portDisable p.val v.toNat

/-- R37, IXL_RETRAIN_REQUEST. -/
def execIxlRetrainRequest (dt : Nat) (p : Fin 16) (v : Word) (s : State) : Result :=
  after dt s fun s => s.onBus .IXL fun s => s.retrainRequest p.val v.toNat

/-- R34, SIGNAL_DETECTED. -/
def execSignalDetected (dt : Nat) (p : Fin 18) (s : State) : Result :=
  after dt s fun s => s.signalDetected p.val

/-- R33, BLOCK_LOCK_GAINED. -/
def execBlockLockGained (dt : Nat) (p : Fin 18) (s : State) : Result :=
  after dt s fun s => s.blockLockGained p.val

/-- R33, BLOCK_LOCK_LOST. -/
def execBlockLockLost (dt : Nat) (p : Fin 18) (s : State) : Result :=
  after dt s fun s => (s.blockLockLost p.val).checkChain p.val

/-- R34, BRINGUP_LIMIT_EXPIRY. -/
def execBringupLimitExpiry (dt : Nat) (p : Fin 18) (s : State) : Result :=
  after dt s fun s => (s.bringupExpiry p.val).checkChain p.val

/-- R34, BRINGUP_RETRY_WAIT_END. -/
def execBringupRetryWaitEnd (dt : Nat) (p : Fin 18) (s : State) : Result :=
  after dt s fun s => s.retryWaitEnd p.val

/-- R35, HUB_CAPS_PACKET. -/
def execHubCapsPacket (dt : Nat) (p : Fin 16) (k : Packet) (s : State) : Result :=
  after dt s fun s => s.arrive p.val (isHub k (· == 1)) k

/-- R45, VIDEO_PACKET. -/
def execVideoPacket (dt : Nat) (p : Fin 16) (k : Packet) (s : State) : Result :=
  after dt s fun s => s.arrive p.val (k.ptype == 1) k

/-- R45, EMBED_PACKET. -/
def execEmbedPacket (dt : Nat) (p : Fin 16) (k : Packet) (s : State) : Result :=
  after dt s fun s => s.arrive p.val (k.ptype == 2) k

/-- R76, FRAME_START_PACKET. -/
def execFrameStartPacket (dt : Nat) (p : Fin 16) (k : Packet) (s : State) : Result :=
  after dt s fun s => s.arrive p.val (k.ptype == 3) k

/-- R80, FRAME_END_PACKET. -/
def execFrameEndPacket (dt : Nat) (p : Fin 16) (k : Packet) (s : State) : Result :=
  after dt s fun s => s.arrive p.val (k.ptype == 4) k

/-- R57, CTRL_RESP_PACKET. -/
def execCtrlRespPacket (dt : Nat) (p : Fin 16) (k : Packet) (s : State) : Result :=
  after dt s fun s => s.arrive p.val (k.ptype == 5) k

/-- R44, SLOT_CHANGE. -/
def execSlotChange (dt : Nat) (p : Fin 16) (k : Packet) (s : State) : Result :=
  after dt s fun s => s.arrive p.val (isHub k (· == 2)) k

/-- R53, REPLAY_GONE. -/
def execReplayGone (dt : Nat) (p : Fin 16) (k : Packet) (s : State) : Result :=
  after dt s fun s => s.arrive p.val (isHub k (· == 3)) k

/-- R44, HUB_FAULT. -/
def execHubFault (dt : Nat) (p : Fin 16) (k : Packet) (s : State) : Result :=
  after dt s fun s => s.arrive p.val (isHub k (· == 4)) k

/-- R44, UNKNOWN_HUB_STATUS. -/
def execUnknownHubStatus (dt : Nat) (p : Fin 16) (k : Packet) (s : State) : Result :=
  after dt s fun s => s.arrive p.val (isHub k unknownHub) k

/-- R41, RESERVED_PACKET. -/
def execReservedPacket (dt : Nat) (p : Fin 18) (k : Packet) (s : State) : Result :=
  after dt s fun s => s.reservedArrives p.val k

/-- R52, PACKET_FAIL. -/
def execPacketFail (dt : Nat) (p : Fin 18) (k : Packet) (s : State) : Result :=
  after dt s fun s => s.arrive p.val (s.packetFails p.val k) k

/-- R52, DUPLICATE_PACKET. -/
def execDuplicatePacket (dt : Nat) (p : Fin 18) (k : Packet) (s : State) : Result :=
  after dt s fun s => s.arrive p.val (s.isDuplicate p.val k) k

/-- R53, REPLAY_TIMER_EXPIRY. -/
def execReplayTimerExpiry (dt : Nat) (p : Fin 18) (s : State) : Result :=
  after dt s fun s => (s.replayExpiry p.val).checkChain p.val

/-- R51, ACK_TIMER. -/
def execAckTimer (dt : Nat) (p : Fin 18) (s : State) : Result :=
  after dt s fun s => s.ackTimer p.val

/-- R50, CREDIT_TIMER. -/
def execCreditTimer (dt : Nat) (p : Fin 18) (s : State) : Result :=
  after dt s fun s => s.creditTimer p.val

/-- R54, SKIP_SEND. -/
def execSkipSend (dt : Nat) (p : Fin 18) (s : State) : Result :=
  after dt s fun s => s.skipSend p.val

/-- R58, TUNNEL_REQUEST. -/
def execTunnelRequest (dt : Nat) (p : Fin 16) (r : TunnelOp) (s : State) : Result :=
  after dt s fun s => s.tunnelRequest p.val (tunnelReq r) .firmware

/-- R58, TUNNEL_HELD_START. -/
def execTunnelHeldStart (dt : Nat) (p : Fin 16) (s : State) : Result :=
  after dt s fun s => s.heldStart p.val

/-- R57, TUNNEL_TIMEOUT. -/
def execTunnelTimeout (dt : Nat) (p : Fin 16) (tag : Byte) (s : State) : Result :=
  after dt s fun s => s.tunnelTimeout p.val tag.toNat

/-- R30, IXL_WORD_CLOCK_LOSS. -/
def execIxlWordClockLoss (dt : Nat) (p : Fin 16) (s : State) : Result :=
  after dt s fun s => s.wordClockLoss p.val

end Sys2Proof.Machine
end

