-- ==== Sys2Proof/Machine/CmdQueues.lean ====
section
/-! DEFINITION. Command queues, events, mailboxes and pins (chapter 14): the meaning of each command, one definition each. -/
namespace Sys2Proof.Machine

/-- R346, CQ_ENABLE. -/
def execCqEnable (dt : Nat) (f : Fin 9) (q : Fin 4) (v : Word) (s : State) : Result :=
  after dt s fun s => s.onBus .FN fun s => s.cqOn f.val q.val v.toNat

/-- R346, CQ_DISABLE. -/
def execCqDisable (dt : Nat) (f : Fin 9) (q : Fin 4) (v : Word) (s : State) : Result :=
  after dt s fun s => s.onBus .FN fun s => s.cqOff f.val q.val v.toNat

/-- R346, CQ_TAIL_DOORBELL. -/
def execCqTailDoorbell (dt : Nat) (f : Fin 9) (q : Fin 4) (v : Word) (s : State) : Result :=
  after dt s fun s => s.onBus .FN fun s => s.cqTailWrite f.val q.val v.toNat

/-- R346, RQ_HEAD_DOORBELL. -/
def execRqHeadDoorbell (dt : Nat) (f : Fin 9) (q : Fin 4) (v : Word) (s : State) : Result :=
  after dt s fun s => s.onBus .FN fun s => s.rqHeadWrite f.val q.val v.toNat

/-- R346, COMMAND_FETCH. -/
def execCommandFetch (dt : Nat) (f : Fin 9) (q : Fin 4) (bytes : List Byte) (s : State) : Result :=
  after dt s fun s => s.fetch f.val q.val bytes

/-- R347, COMMAND_START. -/
def execCommandStart (dt : Nat) (s : State) : Result :=
  after dt s fun s => s.startCommand

/-- R345, INTERRUPT_MODERATION_TIMER. -/
def execInterruptModerationTimer (dt : Nat) (f : Fin 9) (q : Fin 4) (s : State) : Result :=
  after dt s fun s => s.moderation f.val q.val

/-- R356, EVQ_ENABLE. -/
def execEvqEnable (dt : Nat) (f : Fin 9) (v : Word) (s : State) : Result :=
  after dt s fun s => s.onBus .FN fun s => s.evqOn f.val v.toNat

/-- R360, MAILBOX_SEND. -/
def execMailboxSend (dt : Nat) (f : Fin 9) (sfl : Bool) (v : Word) (s : State) : Result :=
  after dt s fun s => s.mailboxSend f.val sfl v.toNat

/-- R360, MAILBOX_READ_LAST. -/
def execMailboxReadLast (dt : Nat) (f : Fin 9) (ch : Fin 5) (s : State) : Result :=
  after dt s fun s => s.onBus .FN fun s => s.rxReadLast f.val ch.val

/-- R361, PING. -/
def execPing (dt : Nat) (f : Fin 9) (cp : Fin 4) (s : State) : Result :=
  after dt s fun s => s.ping f.val cp.val

/-- R363, PIN_CLAIM. -/
def execPinClaim (dt : Nat) (v : Word) (s : State) : Result :=
  after dt s fun s => s.onBus .PIN fun s => s.pinClaim v.toNat

/-- R363, PIN_RELEASE. -/
def execPinRelease (dt : Nat) (v : Word) (s : State) : Result :=
  after dt s fun s => s.onBus .PIN fun s => s.pinRelease v.toNat

end Sys2Proof.Machine
end

