-- ==== Sys2Proof/Machine/CmdRegs.lean ====
section
/-! DEFINITION. Register accesses (chapters 00, 01, 05, 06, 11): the meaning of each command, one definition each. -/
namespace Sys2Proof.Machine

/-- R69, ALIAS_WRITE. -/
def execAliasWrite (dt : Nat) (f : Fin 9) (a : Word) (v : Word) (s : State) : Result :=
  after dt s fun s => s.aliasWrite f.val a.toNat v.toNat

/-- R19, SG_BOUNDARY_WRITE. -/
def execSgBoundaryWrite (dt : Nat) (v : Word) (s : State) : Result :=
  after dt s fun s => s.onBus .GLB fun s => s.sgBoundaryWrite v.toNat

/-- R6, R7, PAIR_LOW_READ. -/
def execPairLowRead (dt : Nat) (f : Fin 9) (a : BusRead) (s : State) : Result :=
  after dt s fun s => s.busRead f.val a.at_.toNat a.bytes

/-- R7, PAIR_LOW_WRITE. -/
def execPairLowWrite (dt : Nat) (f : Fin 9) (a : Word) (v : Word) (s : State) : Result :=
  after dt s fun s => s.halfWrite f.val a.toNat .low v.toNat

/-- R7, PAIR_HIGH_WRITE. -/
def execPairHighWrite (dt : Nat) (f : Fin 9) (a : Word) (v : Word) (s : State) : Result :=
  after dt s fun s => s.halfWrite f.val a.toNat .high v.toNat

/-- R6, R9, REGISTER_WRITE. -/
def execRegisterWrite (dt : Nat) (f : Fin 9) (a : Word) (n : Nat) (v : BitVec 64) (s : State) : Result :=
  after dt s fun s => s.busWrite f.val a.toNat n v.toNat

/-- R114, EXPO_STAGE. -/
def execExpoStage (dt : Nat) (n : Fin 512) (v : Word) (s : State) : Result :=
  after dt s fun s => s.onBus .CAM fun s => s.expoWrite n.val 0 v.toNat

/-- R128, WB_GAIN_WRITE. -/
def execWbGainWrite (dt : Nat) (n : Fin 512) (v : Word) (s : State) : Result :=
  after dt s fun s => s.onBus .CAM fun s => s.wbWrite n.val v.toNat

/-- R126, AE_LOOP_STEP. -/
def execAeLoopStep (dt : Nat) (n : Fin 512) (s : State) : Result :=
  after dt s fun s => s.aeLoop n.val

/-- R129, AWB_LOOP_STEP. -/
def execAwbLoopStep (dt : Nat) (n : Fin 512) (s : State) : Result :=
  after dt s fun s => s.awbLoop n.val

/-- R136, PPB_SELECT. -/
def execPpbSelect (dt : Nat) (n : Fin 512) (v : Word) (s : State) : Result :=
  after dt s fun s => s.onBus .CAM fun s => s.ppbSelect n.val v.toNat

/-- R157, OUT_CREDIT. -/
def execOutCredit (dt : Nat) (n : Fin 512) (v : Word) (s : State) : Result :=
  after dt s fun s => s.onBus .CAM fun s => s.outCredit n.val v.toNat

/-- R282, DMA_REGULATOR_WRITE. -/
def execDmaRegulatorWrite (dt : Nat) (i : Fin 16) (v : Word) (s : State) : Result :=
  after dt s fun s => s.onBus .LC fun s => s.regulatorWrite i.val v.toNat

end Sys2Proof.Machine
end

