-- ==== Sys2Proof/Machine/CmdResets.lean ====
section
/-! DEFINITION. Resets, errors and PCIe (chapters 14, 18 and 19): the meaning of each command, one definition each. -/
namespace Sys2Proof.Machine

/-- R441, UNIT_RESET_CORE. -/
def execUnitResetCore (dt : Nat) (r : CmdName) (s : State) : Result :=
  after dt s fun s => s.unitResetCore (cmdRef r)

/-- R440, UNIT_RESET_PORT. -/
def execUnitResetPort (dt : Nat) (r : CmdName) (s : State) : Result :=
  after dt s fun s => s.unitResetPort (cmdRef r)

/-- R442, UNIT_RESET_STAGE_GROUP. -/
def execUnitResetStageGroup (dt : Nat) (r : CmdName) (s : State) : Result :=
  after dt s fun s => s.unitResetGroup (cmdRef r)

/-- R443, UNIT_RESET_TENANT. -/
def execUnitResetTenant (dt : Nat) (r : CmdName) (s : State) : Result :=
  after dt s fun s => s.unitResetTenant (cmdRef r)

/-- R433, ERR_RELEASE. -/
def execErrRelease (dt : Nat) (v : Word) (s : State) : Result :=
  after dt s fun s => s.onBus .ERR fun s => s.errReleaseWrite v.toNat

/-- R434, ERR_FIRST_CLEAR. -/
def execErrFirstClear (dt : Nat) (s : State) : Result :=
  after dt s fun s => s.onBus .ERR fun s => s.errFirstWrite 1

/-- R30, CLOCK_LOSS_OF_LOCK. -/
def execClockLossOfLock (dt : Nat) (k : Fin 5) (s : State) : Result :=
  after dt s fun s => s.clockLost k.val

/-- R435, CONTROL_MEMORY_ERROR. -/
def execControlMemoryError (dt : Nat) (cp : Fin 4) (s : State) : Result :=
  after dt s fun s => s.controlMemoryError cp.val

/-- R435, CP_WATCHDOG_EXPIRY. -/
def execCpWatchdogExpiry (dt : Nat) (cp : Fin 4) (s : State) : Result :=
  after dt s fun s => s.cpWatchdog cp.val

/-- R341, FLR_PF. -/
def execFlrPf (dt : Nat) (s : State) : Result :=
  after dt s fun s => s.flrPf

/-- R341, FLR_VF. -/
def execFlrVf (dt : Nat) (k : Fin 8) (s : State) : Result :=
  after dt s fun s => s.flrVf k.val

/-- R341, VF_ENABLE_CLEAR. -/
def execVfEnableClear (dt : Nat) (s : State) : Result :=
  after dt s fun s => s.vfClear

/-- R341, POISONED_TLP_WRITE. -/
def execPoisonedTlpWrite (dt : Nat) (f : Fin 9) (s : State) : Result :=
  after dt s fun s => s.poisonedWrite f.val

/-- R341, HOST_ERROR_COMPLETION. -/
def execHostErrorCompletion (dt : Nat) (w : HostRead) (s : State) : Result :=
  after dt s fun s => s.hostError (hostRead w)

/-- R470, CONFIGURATION_REQUEST. -/
def execConfigurationRequest (dt : Nat) (req : BitVec 64) (w : Option CfgWrite) (s : State) : Result :=
  after dt s fun s => s.configRequest req.toNat w

end Sys2Proof.Machine
end

