-- ==== Sys2Proof/Machine/CmdRetouch.lean ====
section
/-! DEFINITION. Retouch (chapter 13): the meaning of each command, one definition each. -/
namespace Sys2Proof.Machine

/-- R322, TRAINING_PAIR. -/
def execTrainingPair (dt : Nat) (n : Fin 512) (q : Word) (input : List Byte) (s : State) : Result :=
  after dt s fun s => s.trainingPair n.val q.toNat input

/-- R325, REVERSE_PIPELINE_RUN. -/
def execReversePipelineRun (dt : Nat) (n : Fin 512) (q : Word) (s : State) : Result :=
  after dt s fun s => s.reversePipeline n.val q.toNat

/-- R333, TRAINING_STRIPE_QUEUE. -/
def execTrainingStripeQueue (dt : Nat) (n : Fin 512) (w : Fin 32) (s : State) : Result :=
  after dt s fun s => s.trainingStripe n.val w.val

/-- R327, TRAINING_STEP. -/
def execTrainingStep (dt : Nat) (n : Fin 512) (s : State) : Result :=
  after dt s fun s => s.trainingStep n.val

/-- R328, CANDIDATE_ENCODE. -/
def execCandidateEncode (dt : Nat) (n : Fin 512) (s : State) : Result :=
  after dt s fun s => s.candidateEncode n.val

/-- R329, GATE_DECISION. -/
def execGateDecision (dt : Nat) (n : Fin 512) (s : State) : Result :=
  after dt s fun s => s.gateDecision n.val

/-- R330, HEAD_SET_STAGE. -/
def execHeadSetStage (dt : Nat) (n : Fin 512) (s : State) : Result :=
  after dt s fun s => s.headSetStage n.val

/-- R333, ADAPT_BUDGET_WINDOW_END. -/
def execAdaptBudgetWindowEnd (dt : Nat) (i : Fin 16) (s : State) : Result :=
  after dt s fun s => s.adaptWindow i.val

/-- R320, ADAPT_START. -/
def execAdaptStart (dt : Nat) (r : CmdName) (s : State) : Result :=
  after dt s fun s => s.onAdapt (cmdRef r) 0x0601 fun n s => s.adaptStart n (cmdRef r)

/-- R320, ADAPT_STOP. -/
def execAdaptStop (dt : Nat) (r : CmdName) (s : State) : Result :=
  after dt s fun s => s.onAdapt (cmdRef r) 0x0602 fun n s => s.adaptStop n (cmdRef r)

/-- R320, ADAPT_PAUSE. -/
def execAdaptPause (dt : Nat) (r : CmdName) (s : State) : Result :=
  after dt s fun s => s.onAdapt (cmdRef r) 0x0603 fun n s => s.adaptPause n (cmdRef r)

/-- R320, ADAPT_RESUME. -/
def execAdaptResume (dt : Nat) (r : CmdName) (s : State) : Result :=
  after dt s fun s => s.onAdapt (cmdRef r) 0x0604 fun n s => s.adaptResume n (cmdRef r)

/-- R320, ADAPT_REVERT. -/
def execAdaptRevert (dt : Nat) (r : CmdName) (s : State) : Result :=
  after dt s fun s => s.onAdapt (cmdRef r) 0x0605 fun n s => s.adaptRevert n (cmdRef r)

/-- R324, ADAPT_REFS. -/
def execAdaptRefs (dt : Nat) (r : CmdName) (refs : List (BitVec 64 × BitVec 32 × BitVec 32)) (s : State) : Result :=
  after dt s fun s => s.adaptRefsCmd (cmdRef r) (refs.map fun e => (e.1.toNat, e.2.1.toNat, e.2.2.toNat))

/-- R320, ADAPT_EXPORT. -/
def execAdaptExport (dt : Nat) (r : CmdName) (s : State) : Result :=
  after dt s fun s => s.adaptExportCmd (cmdRef r)

/-- R320, ADAPT_IMPORT. -/
def execAdaptImport (dt : Nat) (r : CmdName) (bytes : List Byte) (s : State) : Result :=
  after dt s fun s => s.adaptImportCmd (cmdRef r) bytes

end Sys2Proof.Machine
end

