-- ==== Sys2Proof/Machine/CmdSafelight.lean ====
section
/-! DEFINITION. Safelight (chapter 16): the meaning of each command, one definition each. -/
namespace Sys2Proof.Machine

/-- R405, LIMIT_SET. -/
def execLimitSet (dt : Nat) (s : State) : Result :=
  after dt s fun s => s.limitSetMsg

/-- R405, GOV_QUERY. -/
def execGovQuery (dt : Nat) (s : State) : Result :=
  after dt s fun s => s.govQueryMsg

/-- R394, POLICY_SUBMIT. -/
def execPolicySubmit (dt : Nat) (r : CmdName) (bytes : List Byte) (s : State) : Result :=
  after dt s fun s => s.policySubmit (cmdRef r) bytes

/-- R391, PRIV_ENROL. -/
def execPrivEnrol (dt : Nat) (r : CmdName) (key : List Byte) (s : State) : Result :=
  after dt s fun s => s.privEnrol (cmdRef r) key

/-- R390, SCLK_STOP. -/
def execSclkStop (dt : Nat) (s : State) : Result :=
  after dt s fun s => s.sclkStop

/-- R390, VDD_SFL_OUT_OF_RANGE. -/
def execVddSflOutOfRange (dt : Nat) (s : State) : Result :=
  after dt s fun s => s.failClosed 2

/-- R390, SFL_WATCHDOG_EXPIRY. -/
def execSflWatchdogExpiry (dt : Nat) (s : State) : Result :=
  after dt s fun s => s.failClosed 3

/-- R396, SAFELIGHT_RESTART_COMPLETE. -/
def execSafelightRestartComplete (dt : Nat) (s : State) : Result :=
  after dt s fun s => s.sflRestarted

/-- R400, PRIV_HOLD_ASSERT. -/
def execPrivHoldAssert (dt : Nat) (s : State) : Result :=
  after dt s fun s => s.holdAssert

/-- R400, PRIV_HOLD_DEASSERT. -/
def execPrivHoldDeassert (dt : Nat) (s : State) : Result :=
  after dt s fun s => s.holdRelease

/-- R401, POWER_SAMPLE. -/
def execPowerSample (dt : Nat) (mw : BitVec 32) (s : State) : Result :=
  after dt s fun s => s.powerSample mw.toNat

/-- R401, JUNCTION_READ. -/
def execJunctionRead (dt : Nat) (temps : List (BitVec 12)) (s : State) : Result :=
  after dt s fun s => s.junctionRead (temps.map (·.toInt))

/-- R403, GOVERNOR_EVALUATION. -/
def execGovernorEvaluation (dt : Nat) (s : State) : Result :=
  after dt s fun s => s.governor

/-- R404, THERM_COMPARATOR_TRIP. -/
def execThermComparatorTrip (dt : Nat) (s : State) : Result :=
  after dt s fun s => s.thermTrip

end Sys2Proof.Machine
end

