-- ==== Sys2Proof/Machine/CmdSecurity.lean ====
section
/-! DEFINITION. Security, tenancy and firmware update (chapters 15 and 19): the meaning of each command, one definition each. -/
namespace Sys2Proof.Machine

/-- R370, ATTEST. -/
def execAttest (dt : Nat) (r : CmdName) (s : State) : Result :=
  after dt s fun s => s.attest (cmdRef r)

/-- R373, KEY_EPHEMERAL. -/
def execKeyEphemeral (dt : Nat) (r : CmdName) (s : State) : Result :=
  after dt s fun s => s.keyEphemeral (cmdRef r)

/-- R374, KEY_IMPORT. -/
def execKeyImport (dt : Nat) (r : CmdName) (blob : List Byte) (s : State) : Result :=
  after dt s fun s => s.keyImport (cmdRef r) blob

/-- R373, EPHEMERAL_KEY_EXPIRY. -/
def execEphemeralKeyExpiry (dt : Nat) (f : Fin 9) (s : State) : Result :=
  after dt s fun s => s.keyExpiry f.val

/-- R352, TENANT_ENABLE. -/
def execTenantEnable (dt : Nat) (r : CmdName) (s : State) : Result :=
  after dt s fun s => s.tenantEnable (cmdRef r)

/-- R383, TENANT_KILL. -/
def execTenantKill (dt : Nat) (r : CmdName) (s : State) : Result :=
  after dt s fun s => s.tenantKill (cmdRef r)

/-- R383, SCRUB_ONCHIP_COMPLETE. -/
def execScrubOnchipComplete (dt : Nat) (k : Fin 8) (s : State) : Result :=
  after dt s fun s => s.scrubOnchip k.val

/-- R383, SCRUB_MEMORY_COMPLETE. -/
def execScrubMemoryComplete (dt : Nat) (k : Fin 8) (s : State) : Result :=
  after dt s fun s => s.scrubMemory k.val

/-- R382, SNUFFER_CLEAR_COMPLETE. -/
def execSnufferClearComplete (dt : Nat) (s : State) : Result :=
  after dt s fun s => s.clearComplete

/-- R368, FW_STAGE. -/
def execFwStage (dt : Nat) (r : CmdName) (img : FwImage) (s : State) : Result :=
  after dt s fun s => s.fwStage (cmdRef r) img

/-- R444, FW_SWITCH. -/
def execFwSwitch (dt : Nat) (r : CmdName) (s : State) : Result :=
  after dt s fun s => s.fwSwitch (cmdRef r)

/-- R445, FW_SWITCH_BEGIN. -/
def execFwSwitchBegin (dt : Nat) (s : State) : Result :=
  after dt s fun s => s.switchBegin

/-- R445, CP_RELOAD_COMPLETE. -/
def execCpReloadComplete (dt : Nat) (ok : Bool) (s : State) : Result :=
  after dt s fun s => s.reloaded ok

/-- R448, FW_RESUME_TIMEOUT. -/
def execFwResumeTimeout (dt : Nat) (s : State) : Result :=
  after dt s fun s => s.resumeTimeout

/-- R447, FW_SWITCH_COMPLETE. -/
def execFwSwitchComplete (dt : Nat) (s : State) : Result :=
  after dt s fun s => s.switchComplete

/-- R381, ENGINE_MEMORY_ERROR. -/
def execEngineMemoryError (dt : Nat) (s : State) : Result :=
  after dt s fun s => s.engineError

/-- R381, ENGINE_RESET_COMPLETE. -/
def execEngineResetComplete (dt : Nat) (s : State) : Result :=
  after dt s fun s => s.engineReady

end Sys2Proof.Machine
end

