-- ==== Sys2Proof/Machine/CmdShares.lean ====
section
/-! DEFINITION. Work shares, leases and stripes (chapter 10): the meaning of each command, one definition each. -/
namespace Sys2Proof.Machine

/-- R258, WORK_SHARE_QUEUE. -/
def execWorkShareQueue (dt : Nat) (g : Fin 16) (w : Fin 32) (n : Fin 512) (q : Word) (k : Byte) (s : State) : Result :=
  after dt s fun s => s.workShareQueue g.val w.val n.val q.toNat k.toNat

/-- R102, STRIPE_LAUNCH. -/
def execStripeLaunch (dt : Nat) (g : Fin 16) (w : Fin 32) (n : Fin 512) (q : Word) (k : Byte) (at_ : BitVec 64) (s : State) : Result :=
  after dt s fun s => s.stripeLaunch g.val w.val n.val q.toNat k.toNat at_.toNat

/-- R85, STRIPE_BOUNDARY. -/
def execStripeBoundary (dt : Nat) (i : Fin 16) (s : State) : Result :=
  after dt s fun s => s.stripeBoundary i.val

/-- R259, WC_DRAW. -/
def execWcDraw (dt : Nat) (i : Fin 16) (c : Fin 8) (w : Fin 32) (s : State) : Result :=
  after dt s fun s => s.wcDraw i.val c.val w.val

/-- R262, WC_COMMIT. -/
def execWcCommit (dt : Nat) (i : Fin 16) (o : CommitOp) (s : State) : Result :=
  after dt s fun s => s.wcCommit i.val o

/-- R260, LEASE_RENEW. -/
def execLeaseRenew (dt : Nat) (i : Fin 16) (s : State) : Result :=
  after dt s fun s => s.renewLeases i.val

/-- R260, LEASE_EXPIRY. -/
def execLeaseExpiry (dt : Nat) (g : Fin 16) (w : Fin 32) (idx : Word) (s : State) : Result :=
  after dt s fun s => s.leaseExpiry g.val w.val idx.toNat

/-- R197, CORE_RESTORE_COMPLETE. -/
def execCoreRestoreComplete (dt : Nat) (i : Fin 16) (s : State) : Result :=
  after dt s fun s => s.coreRestored i.val

end Sys2Proof.Machine
end

