-- ==== Sys2Proof/Machine/CmdStartup.lean ====
section
/-! DEFINITION. Start-up (chapters 18 and 19): the meaning of each command, one definition each. -/
namespace Sys2Proof.Machine

/-- R438, PERST_ASSERT. -/
def execPerstAssert (dt : Nat) (s : State) : Result :=
  after dt s fun s => s.perstAssert

/-- R437, HOT_RESET. -/
def execHotReset (dt : Nat) (s : State) : Result :=
  after dt s fun s => s.hotReset

/-- R463, PORST_ASSERT. -/
def execPorstAssert (dt : Nat) (s : State) : Result :=
  after dt s fun s => s.porstAssert

/-- R463, RAIL_DIP. -/
def execRailDip (dt : Nat) (s : State) : Result :=
  after dt s fun s => s.railDip

/-- R462, STARTUP_BEGIN. -/
def execStartupBegin (dt : Nat) (pos : BitVec 3) (s : State) : Result :=
  after dt s fun s => s.startupBegin pos.toNat

/-- R469, CLOCKS_LOCKED. -/
def execClocksLocked (dt : Nat) (s : State) : Result :=
  after dt s fun s => s.clocksLocked

/-- R471, PLL_LOCK_TIMEOUT. -/
def execPllLockTimeout (dt : Nat) (s : State) : Result :=
  after dt s fun s => s.pllTimeout

/-- R365, IMAGE_ACCEPTED. -/
def execImageAccepted (dt : Nat) (a : FwImage) (b : FwImage) (selfTest : Bool) (s : State) : Result :=
  after dt s fun s => s.imageAccepted a b selfTest

/-- R471, CP_START_TIMEOUT. -/
def execCpStartTimeout (dt : Nat) (cp : Fin 4) (s : State) : Result :=
  after dt s fun s => s.cpStartTimeout cp.val

/-- R307, MEM_TRAINING_DONE. -/
def execMemTrainingDone (dt : Nat) (failed : Byte) (s : State) : Result :=
  after dt s fun s => s.trainingDone failed.toNat

/-- R307, MEM_INIT_DONE. -/
def execMemInitDone (dt : Nat) (err : Option (Fin 8)) (s : State) : Result :=
  after dt s fun s => s.memInitDone (err.map (·.val))

/-- R469, STARTUP_READY. -/
def execStartupReady (dt : Nat) (s : State) : Result :=
  after dt s fun s => s.startupReady

end Sys2Proof.Machine
end

