-- ==== Sys2Proof/Machine/CmdStream.lean ====
section
/-! DEFINITION. Streams and outputs (chapters 06 and 07): the meaning of each command, one definition each. -/
namespace Sys2Proof.Machine

/-- R163, STREAM_START. -/
def execStreamStart (dt : Nat) (r : CmdName) (s : State) : Result :=
  after dt s fun s => s.streamStart (cmdRef r)

/-- R164, STREAM_STOP_DRAIN. -/
def execStreamStopDrain (dt : Nat) (r : CmdName) (s : State) : Result :=
  after dt s fun s => s.streamStop (cmdRef r) false

/-- R164, STREAM_STOP_ABORT. -/
def execStreamStopAbort (dt : Nat) (r : CmdName) (s : State) : Result :=
  after dt s fun s => s.streamStop (cmdRef r) true

/-- R164, STREAM_STOPPED. -/
def execStreamStopped (dt : Nat) (n : Fin 512) (s : State) : Result :=
  after dt s fun s => s.streamStopped n.val

/-- R146, PRINT_STRIPE. -/
def execPrintStripe (dt : Nat) (n : Fin 512) (q : Word) (k : Byte) (core : Fin 16) (s : State) : Result :=
  after dt s fun s => s.printStripe n.val q.toNat k.toNat core.val

/-- R161, OUTPUT_ROW_WRITE. -/
def execOutputRowWrite (dt : Nat) (n : Fin 512) (q : Word) (o : Byte) (core : Fin 16) (s : State) : Result :=
  after dt s fun s => s.writeRow n.val q.toNat o.toNat core.val

/-- R161, OUTPUT_POOL_TIMEOUT. -/
def execOutputPoolTimeout (dt : Nat) (n : Fin 512) (q : Word) (s : State) : Result :=
  after dt s fun s => s.poolTimeout n.val q.toNat

/-- R87, OUTPUT_ROW_COMPLETE. -/
def execOutputRowComplete (dt : Nat) (n : Fin 512) (q : Word) (s : State) : Result :=
  after dt s fun s => s.rowComplete n.val q.toNat

/-- R153, SLOT_HEADER_COMPLETE. -/
def execSlotHeaderComplete (dt : Nat) (n : Fin 512) (q : Word) (s : State) : Result :=
  after dt s fun s => s.headerComplete n.val q.toNat

end Sys2Proof.Machine
end

