-- ==== Sys2Proof/Machine/CmdTap.lean ====
section
/-! DEFINITION. The test access port and the SMBus (chapter 19): the meaning of each command, one definition each. -/
namespace Sys2Proof.Machine

/-- R456, BYPASS. -/
def execBypass (dt : Nat) (s : State) : Result :=
  after dt s fun s => s.tapBypass

/-- R456, IDCODE. -/
def execIdcode (dt : Nat) (s : State) : Result :=
  after dt s fun s => s.tapIdcode

/-- R456, SAMPLE_PRELOAD. -/
def execSamplePreload (dt : Nat) (levels : List Bool) (preload : List Bool) (s : State) : Result :=
  after dt s fun s => s.tapSample levels preload

/-- R456, EXTEST. -/
def execExtest (dt : Nat) (s : State) : Result :=
  after dt s fun s => s.tapExtest 4

/-- R456, EXTEST_PULSE. -/
def execExtestPulse (dt : Nat) (s : State) : Result :=
  after dt s fun s => s.tapExtest 5

/-- R456, EXTEST_TRAIN. -/
def execExtestTrain (dt : Nat) (s : State) : Result :=
  after dt s fun s => s.tapExtest 6

/-- R459, SMB_PART_ID. -/
def execSmbPartId (dt : Nat) (s : State) : Result :=
  after dt s fun s => s.smbPart

/-- R459, SMB_BOOT_STATUS. -/
def execSmbBootStatus (dt : Nat) (s : State) : Result :=
  after dt s fun s => s.smbBoot

/-- R459, SMB_TEMPERATURE. -/
def execSmbTemperature (dt : Nat) (s : State) : Result :=
  after dt s fun s => s.smbTemp

/-- R459, SMB_POWER. -/
def execSmbPower (dt : Nat) (s : State) : Result :=
  after dt s fun s => s.smbPower

/-- R459, SMB_GOVERNOR. -/
def execSmbGovernor (dt : Nat) (s : State) : Result :=
  after dt s fun s => s.smbGov

/-- R459, SMB_FATAL. -/
def execSmbFatal (dt : Nat) (s : State) : Result :=
  after dt s fun s => s.smbFatal

end Sys2Proof.Machine
end

