-- ==== Sys2Proof/Machine/CmdTime.lean ====
section
/-! DEFINITION. Triggers, intake timers and device time (chapters 03 and 04): the meaning of each command, one definition each. -/
namespace Sys2Proof.Machine

/-- R55, TRIGGER_LAUNCH. -/
def execTriggerLaunch (dt : Nat) (p : Fin 16) (l : BitVec 64) (s : State) : Result :=
  after dt s fun s => s.triggerLaunch p.val l.toNat

/-- R78, MISSED_FRAME_DEADLINE. -/
def execMissedFrameDeadline (dt : Nat) (n : Fin 512) (s : State) : Result :=
  after dt s fun s => s.missDeadline n.val

/-- R67, CLOSE_TIMEOUT. -/
def execCloseTimeout (dt : Nat) (n : Fin 512) (s : State) : Result :=
  after dt s fun s => s.closeExpiry n.val

/-- R94, SOURCE_SELECT. -/
def execSourceSelect (dt : Nat) (v : Word) (s : State) : Result :=
  after dt s fun s => s.onBus .SYN fun s => s.synCfgWrite v.toNat

/-- R95, PTM_DIALOGUE_START. -/
def execPtmDialogueStart (dt : Nat) (s : State) : Result :=
  after dt s fun s => s.ptmStart

/-- R96, PTM_DIALOGUE_COMPLETE. -/
def execPtmDialogueComplete (dt : Nat) (master : PtmMaster) (loc : PtmLocal) (s : State) : Result :=
  after dt s fun s => s.ptmComplete master loc

/-- R93, MEASUREMENT_FAIL. -/
def execMeasurementFail (dt : Nat) (s : State) : Result :=
  after dt s fun s => s.ptmFail

/-- R96, SLEW_END. -/
def execSlewEnd (dt : Nat) (s : State) : Result :=
  after dt s fun s => s.slewDone

/-- R99, HARD_SET. -/
def execHardSet (dt : Nat) (s : State) : Result :=
  after dt s fun s => s.onBus .SYN fun s => s.synCtlWrite 1

/-- R97, SYNC_SYMBOL_EMIT. -/
def execSyncSymbolEmit (dt : Nat) (s : State) : Result :=
  after dt s fun s => s.syncEmit

/-- R413, SYNC_SYMBOL_RECEIVED. -/
def execSyncSymbolReceived (dt : Nat) (time : BitVec 54) (acc : BitVec 20) (early : Byte) (held : Bool) (s : State) : Result :=
  after dt s fun s => s.syncReceived time.toNat acc.toNat early.toNat held

/-- R93, SYNC_SYMBOL_MISSING. -/
def execSyncSymbolMissing (dt : Nat) (s : State) : Result :=
  after dt s fun s => s.syncMissing

/-- R103, SCHEDULE_ENABLE. -/
def execScheduleEnable (dt : Nat) (g : Fin 32) (s : State) : Result :=
  after dt s fun s => s.onBus .SYN fun s => s.schedOn g.val

/-- R103, SCHEDULE_DISABLE. -/
def execScheduleDisable (dt : Nat) (g : Fin 32) (s : State) : Result :=
  after dt s fun s => s.onBus .SYN fun s => s.schedOff g.val

/-- R105, SCHEDULE_TICK. -/
def execScheduleTick (dt : Nat) (g : Fin 32) (s : State) : Result :=
  after dt s fun s => s.schedTick g.val

/-- R111, SYNC_OUT_ENABLE. -/
def execSyncOutEnable (dt : Nat) (i : Fin 4) (v : Word) (s : State) : Result :=
  after dt s fun s => s.onBus .SYN fun s => s.syncOutOn i.val v.toNat

/-- R111, SYNC_OUT_EDGE. -/
def execSyncOutEdge (dt : Nat) (i : Fin 4) (s : State) : Result :=
  after dt s fun s => s.syncOutEdge i.val

/-- R111, SYNC_OUT_PULSE_END. -/
def execSyncOutPulseEnd (dt : Nat) (i : Fin 4) (s : State) : Result :=
  after dt s fun s => s.syncOutEnd i.val

/-- R110, TIME_SNAP_EDGE. -/
def execTimeSnapEdge (dt : Nat) (s : State) : Result :=
  after dt s fun s => s.snapEdge

/-- R110, SNAP_READ. -/
def execSnapRead (dt : Nat) (f : Fin 9) (s : State) : Result :=
  after dt s fun s => s.snapReadBy f.val

/-- R415, SCHEDULE_APPLY_TIME. -/
def execScheduleApplyTime (dt : Nat) (g : Fin 32) (s : State) : Result :=
  after dt s fun s => s.schedApplyTime g.val

end Sys2Proof.Machine
end

