-- ==== Sys2Proof/Machine/Dispatch.lean ====
section
/-! DEFINITION. The command to its meaning. -/
namespace Sys2Proof.Machine

def exec (i : Instr) (s : State) : Host.Outcome State Fault Refusal :=
  match i with
  | .ixlPortEnable dt p v => Sys2Proof.Machine.execIxlPortEnable dt p v s
  | .ixlPortDisable dt p v => Sys2Proof.Machine.execIxlPortDisable dt p v s
  | .ixlRetrainRequest dt p v => Sys2Proof.Machine.execIxlRetrainRequest dt p v s
  | .signalDetected dt p => Sys2Proof.Machine.execSignalDetected dt p s
  | .blockLockGained dt p => Sys2Proof.Machine.execBlockLockGained dt p s
  | .blockLockLost dt p => Sys2Proof.Machine.execBlockLockLost dt p s
  | .bringupLimitExpiry dt p => Sys2Proof.Machine.execBringupLimitExpiry dt p s
  | .bringupRetryWaitEnd dt p => Sys2Proof.Machine.execBringupRetryWaitEnd dt p s
  | .hubCapsPacket dt p k => Sys2Proof.Machine.execHubCapsPacket dt p k s
  | .videoPacket dt p k => Sys2Proof.Machine.execVideoPacket dt p k s
  | .embedPacket dt p k => Sys2Proof.Machine.execEmbedPacket dt p k s
  | .frameStartPacket dt p k => Sys2Proof.Machine.execFrameStartPacket dt p k s
  | .frameEndPacket dt p k => Sys2Proof.Machine.execFrameEndPacket dt p k s
  | .ctrlRespPacket dt p k => Sys2Proof.Machine.execCtrlRespPacket dt p k s
  | .slotChange dt p k => Sys2Proof.Machine.execSlotChange dt p k s
  | .replayGone dt p k => Sys2Proof.Machine.execReplayGone dt p k s
  | .hubFault dt p k => Sys2Proof.Machine.execHubFault dt p k s
  | .unknownHubStatus dt p k => Sys2Proof.Machine.execUnknownHubStatus dt p k s
  | .reservedPacket dt p k => Sys2Proof.Machine.execReservedPacket dt p k s
  | .packetFail dt p k => Sys2Proof.Machine.execPacketFail dt p k s
  | .duplicatePacket dt p k => Sys2Proof.Machine.execDuplicatePacket dt p k s
  | .replayTimerExpiry dt p => Sys2Proof.Machine.execReplayTimerExpiry dt p s
  | .ackTimer dt p => Sys2Proof.Machine.execAckTimer dt p s
  | .creditTimer dt p => Sys2Proof.Machine.execCreditTimer dt p s
  | .skipSend dt p => Sys2Proof.Machine.execSkipSend dt p s
  | .tunnelRequest dt p r => Sys2Proof.Machine.execTunnelRequest dt p r s
  | .tunnelHeldStart dt p => Sys2Proof.Machine.execTunnelHeldStart dt p s
  | .tunnelTimeout dt p tag => Sys2Proof.Machine.execTunnelTimeout dt p tag s
  | .triggerLaunch dt p l => Sys2Proof.Machine.execTriggerLaunch dt p l s
  | .missedFrameDeadline dt n => Sys2Proof.Machine.execMissedFrameDeadline dt n s
  | .closeTimeout dt n => Sys2Proof.Machine.execCloseTimeout dt n s
  | .aliasWrite dt f a v => Sys2Proof.Machine.execAliasWrite dt f a v s
  | .sgBoundaryWrite dt v => Sys2Proof.Machine.execSgBoundaryWrite dt v s
  | .sourceSelect dt v => Sys2Proof.Machine.execSourceSelect dt v s
  | .ptmDialogueStart dt => Sys2Proof.Machine.execPtmDialogueStart dt s
  | .ptmDialogueComplete dt master loc => Sys2Proof.Machine.execPtmDialogueComplete dt master loc s
  | .measurementFail dt => Sys2Proof.Machine.execMeasurementFail dt s
  | .slewEnd dt => Sys2Proof.Machine.execSlewEnd dt s
  | .hardSet dt => Sys2Proof.Machine.execHardSet dt s
  | .syncSymbolEmit dt => Sys2Proof.Machine.execSyncSymbolEmit dt s
  | .syncSymbolReceived dt time acc early held => Sys2Proof.Machine.execSyncSymbolReceived dt time acc early held s
  | .syncSymbolMissing dt => Sys2Proof.Machine.execSyncSymbolMissing dt s
  | .scheduleEnable dt g => Sys2Proof.Machine.execScheduleEnable dt g s
  | .scheduleDisable dt g => Sys2Proof.Machine.execScheduleDisable dt g s
  | .scheduleTick dt g => Sys2Proof.Machine.execScheduleTick dt g s
  | .syncOutEnable dt ix v => Sys2Proof.Machine.execSyncOutEnable dt ix v s
  | .syncOutEdge dt ix => Sys2Proof.Machine.execSyncOutEdge dt ix s
  | .syncOutPulseEnd dt ix => Sys2Proof.Machine.execSyncOutPulseEnd dt ix s
  | .timeSnapEdge dt => Sys2Proof.Machine.execTimeSnapEdge dt s
  | .snapRead dt f => Sys2Proof.Machine.execSnapRead dt f s
  | .pairLowRead dt f a => Sys2Proof.Machine.execPairLowRead dt f a s
  | .pairLowWrite dt f a v => Sys2Proof.Machine.execPairLowWrite dt f a v s
  | .pairHighWrite dt f a v => Sys2Proof.Machine.execPairHighWrite dt f a v s
  | .registerWrite dt f a wide v => Sys2Proof.Machine.execRegisterWrite dt f a wide v s
  | .expoStage dt n v => Sys2Proof.Machine.execExpoStage dt n v s
  | .wbGainWrite dt n v => Sys2Proof.Machine.execWbGainWrite dt n v s
  | .aeLoopStep dt n => Sys2Proof.Machine.execAeLoopStep dt n s
  | .awbLoopStep dt n => Sys2Proof.Machine.execAwbLoopStep dt n s
  | .ppbSelect dt n v => Sys2Proof.Machine.execPpbSelect dt n v s
  | .outCredit dt n v => Sys2Proof.Machine.execOutCredit dt n v s
  | .dmaRegulatorWrite dt ix v => Sys2Proof.Machine.execDmaRegulatorWrite dt ix v s
  | .streamStart dt r => Sys2Proof.Machine.execStreamStart dt r s
  | .streamStopDrain dt r => Sys2Proof.Machine.execStreamStopDrain dt r s
  | .streamStopAbort dt r => Sys2Proof.Machine.execStreamStopAbort dt r s
  | .streamStopped dt n => Sys2Proof.Machine.execStreamStopped dt n s
  | .workShareQueue dt g w n q k => Sys2Proof.Machine.execWorkShareQueue dt g w n q k s
  | .stripeLaunch dt g w n q k at_ => Sys2Proof.Machine.execStripeLaunch dt g w n q k at_ s
  | .stripeBoundary dt ix => Sys2Proof.Machine.execStripeBoundary dt ix s
  | .printStripe dt n q k rows => Sys2Proof.Machine.execPrintStripe dt n q k rows s
  | .outputRowWrite dt n q o features => Sys2Proof.Machine.execOutputRowWrite dt n q o features s
  | .outputPoolTimeout dt n q => Sys2Proof.Machine.execOutputPoolTimeout dt n q s
  | .outputRowComplete dt n q => Sys2Proof.Machine.execOutputRowComplete dt n q s
  | .slotHeaderComplete dt n q => Sys2Proof.Machine.execSlotHeaderComplete dt n q s
  | .arrayTile dt ix c o => Sys2Proof.Machine.execArrayTile dt ix c o s
  | .arrayComplete dt ix => Sys2Proof.Machine.execArrayComplete dt ix s
  | .vectorOp dt ix c f srcs dst lines record => Sys2Proof.Machine.execVectorOp dt ix c f srcs dst lines record s
  | .vectorConvert dt ix c o => Sys2Proof.Machine.execVectorConvert dt ix c o s
  | .vectorReduction dt ix c f src dst lines => Sys2Proof.Machine.execVectorReduction dt ix c f src dst lines s
  | .vectorComplete dt ix => Sys2Proof.Machine.execVectorComplete dt ix s
  | .rescaleLoad dt ix c src e n => Sys2Proof.Machine.execRescaleLoad dt ix c src e n s
  | .grid dt ix c g p r => Sys2Proof.Machine.execGrid dt ix c g p r s
  | .gridTileIssue dt ix c => Sys2Proof.Machine.execGridTileIssue dt ix c s
  | .rchk dt ix c record => Sys2Proof.Machine.execRchk dt ix c record s
  | .controlWait dt ix c w => Sys2Proof.Machine.execControlWait dt ix c w s
  | .barrierArrive dt ix c b => Sys2Proof.Machine.execBarrierArrive dt ix c b s
  | .barrierWait dt ix c b phase => Sys2Proof.Machine.execBarrierWait dt ix c b phase s
  | .barrierTimeout dt ix c => Sys2Proof.Machine.execBarrierTimeout dt ix c s
  | .ringReceivePost dt ix c a len => Sys2Proof.Machine.execRingReceivePost dt ix c a len s
  | .ringSend dt ix c a len mask => Sys2Proof.Machine.execRingSend dt ix c a len mask s
  | .ringComplete dt ix => Sys2Proof.Machine.execRingComplete dt ix s
  | .ringTimeout dt ix c => Sys2Proof.Machine.execRingTimeout dt ix c s
  | .wcDraw dt ix c w => Sys2Proof.Machine.execWcDraw dt ix c w s
  | .wcCommit dt ix c => Sys2Proof.Machine.execWcCommit dt ix c s
  | .leaseRenew dt ix => Sys2Proof.Machine.execLeaseRenew dt ix s
  | .leaseExpiry dt g w idx => Sys2Proof.Machine.execLeaseExpiry dt g w idx s
  | .spadEccError dt ix c pc uncorrectable => Sys2Proof.Machine.execSpadEccError dt ix c pc uncorrectable s
  | .coreRestoreComplete dt ix => Sys2Proof.Machine.execCoreRestoreComplete dt ix s
  | .dmaInstruction dt ix c o => Sys2Proof.Machine.execDmaInstruction dt ix c o s
  | .dmaTransferPlace dt ix => Sys2Proof.Machine.execDmaTransferPlace dt ix s
  | .dmaPieceIssue dt ix write returned => Sys2Proof.Machine.execDmaPieceIssue dt ix write returned s
  | .dmaRowDelivered dt ix q k row host => Sys2Proof.Machine.execDmaRowDelivered dt ix q k row host s
  | .faultWalk dt ix q => Sys2Proof.Machine.execFaultWalk dt ix q s
  | .faultWaitExpiry dt ix q => Sys2Proof.Machine.execFaultWaitExpiry dt ix q s
  | .holdCacheRequest dt x line acc noAlloc key o => Sys2Proof.Machine.execHoldCacheRequest dt x line acc noAlloc key o s
  | .ddr5ReadReturn dt c cipher side => Sys2Proof.Machine.execDdr5ReadReturn dt c cipher side s
  | .ddr5RequestServe dt c held => Sys2Proof.Machine.execDdr5RequestServe dt c held s
  | .ddr5BlockWrite dt line => Sys2Proof.Machine.execDdr5BlockWrite dt line s
  | .refreshInterval dt c => Sys2Proof.Machine.execRefreshInterval dt c s
  | .dramHot dt => Sys2Proof.Machine.execDramHot dt s
  | .trainingPair dt n q input => Sys2Proof.Machine.execTrainingPair dt n q input s
  | .reversePipelineRun dt n q => Sys2Proof.Machine.execReversePipelineRun dt n q s
  | .trainingStripeQueue dt n w => Sys2Proof.Machine.execTrainingStripeQueue dt n w s
  | .trainingStep dt n => Sys2Proof.Machine.execTrainingStep dt n s
  | .candidateEncode dt n => Sys2Proof.Machine.execCandidateEncode dt n s
  | .gateDecision dt n => Sys2Proof.Machine.execGateDecision dt n s
  | .headSetStage dt n => Sys2Proof.Machine.execHeadSetStage dt n s
  | .adaptBudgetWindowEnd dt ix => Sys2Proof.Machine.execAdaptBudgetWindowEnd dt ix s
  | .cqEnable dt f q v => Sys2Proof.Machine.execCqEnable dt f q v s
  | .cqDisable dt f q v => Sys2Proof.Machine.execCqDisable dt f q v s
  | .cqTailDoorbell dt f q v => Sys2Proof.Machine.execCqTailDoorbell dt f q v s
  | .rqHeadDoorbell dt f q v => Sys2Proof.Machine.execRqHeadDoorbell dt f q v s
  | .commandFetch dt f q bytes => Sys2Proof.Machine.execCommandFetch dt f q bytes s
  | .commandStart dt => Sys2Proof.Machine.execCommandStart dt s
  | .interruptModerationTimer dt f q => Sys2Proof.Machine.execInterruptModerationTimer dt f q s
  | .evqEnable dt f v => Sys2Proof.Machine.execEvqEnable dt f v s
  | .mailboxSend dt f sfl v => Sys2Proof.Machine.execMailboxSend dt f sfl v s
  | .mailboxReadLast dt f ch => Sys2Proof.Machine.execMailboxReadLast dt f ch s
  | .ping dt f cp => Sys2Proof.Machine.execPing dt f cp s
  | .limitSet dt => Sys2Proof.Machine.execLimitSet dt s
  | .govQuery dt => Sys2Proof.Machine.execGovQuery dt s
  | .pinClaim dt v => Sys2Proof.Machine.execPinClaim dt v s
  | .pinRelease dt v => Sys2Proof.Machine.execPinRelease dt v s
  | .profileLoad dt r bytes => Sys2Proof.Machine.execProfileLoad dt r bytes s
  | .sensorXfer dt r => Sys2Proof.Machine.execSensorXfer dt r s
  | .camGrant dt r => Sys2Proof.Machine.execCamGrant dt r s
  | .camRings dt r => Sys2Proof.Machine.execCamRings dt r s
  | .modelLoad dt r img => Sys2Proof.Machine.execModelLoad dt r img s
  | .modelUnload dt r => Sys2Proof.Machine.execModelUnload dt r s
  | .modelBind dt r => Sys2Proof.Machine.execModelBind dt r s
  | .calibCapture dt r => Sys2Proof.Machine.execCalibCapture dt r s
  | .modelInfo dt r => Sys2Proof.Machine.execModelInfo dt r s
  | .map_ dt r => Sys2Proof.Machine.execMap dt r s
  | .unmap dt r => Sys2Proof.Machine.execUnmap dt r s
  | .move_ dt r => Sys2Proof.Machine.execMove dt r s
  | .memGrant dt r => Sys2Proof.Machine.execMemGrant dt r s
  | .memRevoke dt r => Sys2Proof.Machine.execMemRevoke dt r s
  | .faultResume dt r => Sys2Proof.Machine.execFaultResume dt r s
  | .fwPool dt r => Sys2Proof.Machine.execFwPool dt r s
  | .attest dt r => Sys2Proof.Machine.execAttest dt r s
  | .keyEphemeral dt r => Sys2Proof.Machine.execKeyEphemeral dt r s
  | .keyImport dt r blob => Sys2Proof.Machine.execKeyImport dt r blob s
  | .ephemeralKeyExpiry dt f => Sys2Proof.Machine.execEphemeralKeyExpiry dt f s
  | .tenantEnable dt r => Sys2Proof.Machine.execTenantEnable dt r s
  | .tenantKill dt r => Sys2Proof.Machine.execTenantKill dt r s
  | .scrubOnchipComplete dt k => Sys2Proof.Machine.execScrubOnchipComplete dt k s
  | .scrubMemoryComplete dt k => Sys2Proof.Machine.execScrubMemoryComplete dt k s
  | .snufferClearComplete dt => Sys2Proof.Machine.execSnufferClearComplete dt s
  | .policySubmit dt r bytes => Sys2Proof.Machine.execPolicySubmit dt r bytes s
  | .privEnrol dt r key => Sys2Proof.Machine.execPrivEnrol dt r key s
  | .fwStage dt r img => Sys2Proof.Machine.execFwStage dt r img s
  | .fwSwitch dt r => Sys2Proof.Machine.execFwSwitch dt r s
  | .fwSwitchBegin dt => Sys2Proof.Machine.execFwSwitchBegin dt s
  | .cpReloadComplete dt ok => Sys2Proof.Machine.execCpReloadComplete dt ok s
  | .fwResumeTimeout dt => Sys2Proof.Machine.execFwResumeTimeout dt s
  | .fwSwitchComplete dt => Sys2Proof.Machine.execFwSwitchComplete dt s
  | .timeGet dt r => Sys2Proof.Machine.execTimeGet dt r s
  | .schedApply dt r => Sys2Proof.Machine.execSchedApply dt r s
  | .adaptStart dt r => Sys2Proof.Machine.execAdaptStart dt r s
  | .adaptStop dt r => Sys2Proof.Machine.execAdaptStop dt r s
  | .adaptPause dt r => Sys2Proof.Machine.execAdaptPause dt r s
  | .adaptResume dt r => Sys2Proof.Machine.execAdaptResume dt r s
  | .adaptRevert dt r => Sys2Proof.Machine.execAdaptRevert dt r s
  | .adaptRefs dt r refs => Sys2Proof.Machine.execAdaptRefs dt r refs s
  | .adaptExport dt r => Sys2Proof.Machine.execAdaptExport dt r s
  | .adaptImport dt r bytes => Sys2Proof.Machine.execAdaptImport dt r bytes s
  | .counterRead dt r => Sys2Proof.Machine.execCounterRead dt r s
  | .traceRead dt r => Sys2Proof.Machine.execTraceRead dt r s
  | .layerTotals dt r => Sys2Proof.Machine.execLayerTotals dt r s
  | .errlogRead dt r => Sys2Proof.Machine.execErrlogRead dt r s
  | .unitResetCore dt r => Sys2Proof.Machine.execUnitResetCore dt r s
  | .unitResetPort dt r => Sys2Proof.Machine.execUnitResetPort dt r s
  | .unitResetStageGroup dt r => Sys2Proof.Machine.execUnitResetStageGroup dt r s
  | .unitResetTenant dt r => Sys2Proof.Machine.execUnitResetTenant dt r s
  | .echo dt r => Sys2Proof.Machine.execEcho dt r s
  | .chainStatus dt r => Sys2Proof.Machine.execChainStatus dt r s
  | .portForward dt r targetOk pathOk => Sys2Proof.Machine.execPortForward dt r targetOk pathOk s
  | .portReturn dt r targetOk => Sys2Proof.Machine.execPortReturn dt r targetOk s
  | .windowOpen dt r => Sys2Proof.Machine.execWindowOpen dt r s
  | .windowClose dt r => Sys2Proof.Machine.execWindowClose dt r s
  | .posBlockReceived dt chd q => Sys2Proof.Machine.execPosBlockReceived dt chd q s
  | .fwdPkt dt q d p stamp k => Sys2Proof.Machine.execFwdPkt dt q d p stamp k s
  | .fwdCtl dt q d p len x => Sys2Proof.Machine.execFwdCtl dt q d p len x s
  | .peerWr dt q d info bytes => Sys2Proof.Machine.execPeerWr dt q d info bytes s
  | .peerAck dt q d info => Sys2Proof.Machine.execPeerAck dt q d info s
  | .chainMsg dt q d len m => Sys2Proof.Machine.execChainMsg dt q d len m s
  | .chainStatusPacket dt q len reach timeState enrol seq => Sys2Proof.Machine.execChainStatusPacket dt q len reach timeState enrol seq s
  | .statusSendTimer dt => Sys2Proof.Machine.execStatusSendTimer dt s
  | .presenceTimeout dt q => Sys2Proof.Machine.execPresenceTimeout dt q s
  | .forwardTakeback dt p => Sys2Proof.Machine.execForwardTakeback dt p s
  | .delayReqTimer dt => Sys2Proof.Machine.execDelayReqTimer dt s
  | .delayReq dt => Sys2Proof.Machine.execDelayReq dt s
  | .delayResp dt turn => Sys2Proof.Machine.execDelayResp dt turn s
  | .sclkStop dt => Sys2Proof.Machine.execSclkStop dt s
  | .vddSflOutOfRange dt => Sys2Proof.Machine.execVddSflOutOfRange dt s
  | .sflWatchdogExpiry dt => Sys2Proof.Machine.execSflWatchdogExpiry dt s
  | .safelightRestartComplete dt => Sys2Proof.Machine.execSafelightRestartComplete dt s
  | .privHoldAssert dt => Sys2Proof.Machine.execPrivHoldAssert dt s
  | .privHoldDeassert dt => Sys2Proof.Machine.execPrivHoldDeassert dt s
  | .powerSample dt mw => Sys2Proof.Machine.execPowerSample dt mw s
  | .junctionRead dt temps => Sys2Proof.Machine.execJunctionRead dt temps s
  | .governorEvaluation dt => Sys2Proof.Machine.execGovernorEvaluation dt s
  | .thermComparatorTrip dt => Sys2Proof.Machine.execThermComparatorTrip dt s
  | .engineMemoryError dt => Sys2Proof.Machine.execEngineMemoryError dt s
  | .engineResetComplete dt => Sys2Proof.Machine.execEngineResetComplete dt s
  | .errRelease dt v => Sys2Proof.Machine.execErrRelease dt v s
  | .errFirstClear dt => Sys2Proof.Machine.execErrFirstClear dt s
  | .clockLossOfLock dt k => Sys2Proof.Machine.execClockLossOfLock dt k s
  | .controlMemoryError dt cp => Sys2Proof.Machine.execControlMemoryError dt cp s
  | .cpWatchdogExpiry dt cp => Sys2Proof.Machine.execCpWatchdogExpiry dt cp s
  | .flrPf dt => Sys2Proof.Machine.execFlrPf dt s
  | .flrVf dt k => Sys2Proof.Machine.execFlrVf dt k s
  | .vfEnableClear dt => Sys2Proof.Machine.execVfEnableClear dt s
  | .poisonedTlpWrite dt f => Sys2Proof.Machine.execPoisonedTlpWrite dt f s
  | .perstAssert dt => Sys2Proof.Machine.execPerstAssert dt s
  | .hotReset dt => Sys2Proof.Machine.execHotReset dt s
  | .startupBegin dt pos => Sys2Proof.Machine.execStartupBegin dt pos s
  | .clocksLocked dt => Sys2Proof.Machine.execClocksLocked dt s
  | .pllLockTimeout dt => Sys2Proof.Machine.execPllLockTimeout dt s
  | .imageAccepted dt a b selfTest => Sys2Proof.Machine.execImageAccepted dt a b selfTest s
  | .memTrainingDone dt failed => Sys2Proof.Machine.execMemTrainingDone dt failed s
  | .memInitDone dt err => Sys2Proof.Machine.execMemInitDone dt err s
  | .startupReady dt => Sys2Proof.Machine.execStartupReady dt s
  | .railDip dt => Sys2Proof.Machine.execRailDip dt s
  | .bypass dt => Sys2Proof.Machine.execBypass dt s
  | .idcode dt => Sys2Proof.Machine.execIdcode dt s
  | .samplePreload dt levels preload => Sys2Proof.Machine.execSamplePreload dt levels preload s
  | .extest dt => Sys2Proof.Machine.execExtest dt s
  | .extestPulse dt => Sys2Proof.Machine.execExtestPulse dt s
  | .extestTrain dt => Sys2Proof.Machine.execExtestTrain dt s
  | .smbPartId dt => Sys2Proof.Machine.execSmbPartId dt s
  | .smbBootStatus dt => Sys2Proof.Machine.execSmbBootStatus dt s
  | .smbTemperature dt => Sys2Proof.Machine.execSmbTemperature dt s
  | .smbPower dt => Sys2Proof.Machine.execSmbPower dt s
  | .smbGovernor dt => Sys2Proof.Machine.execSmbGovernor dt s
  | .smbFatal dt => Sys2Proof.Machine.execSmbFatal dt s
  | .porstAssert dt => Sys2Proof.Machine.execPorstAssert dt s
  | .hostErrorCompletion dt w => Sys2Proof.Machine.execHostErrorCompletion dt w s
  | .ixlWordClockLoss dt p => Sys2Proof.Machine.execIxlWordClockLoss dt p s
  | .scheduleApplyTime dt g => Sys2Proof.Machine.execScheduleApplyTime dt g s
  | .dramHotEnd dt => Sys2Proof.Machine.execDramHotEnd dt s
  | .configurationRequest dt req w => Sys2Proof.Machine.execConfigurationRequest dt req w s
  | .cpStartTimeout dt cp => Sys2Proof.Machine.execCpStartTimeout dt cp s

end Sys2Proof.Machine
end

