-- ==== Sys2Proof/Safety.lean ====
section
/-! DEFINITION. What claims about the block's runs are stated in: canonical memory, waiting commands, and the parts of the
state that a command may touch. -/
namespace Sys2Proof.Machine

/-- Device memory keeps its canonical form: addresses rising, no zero byte listed. -/
def State.memOk (s : State) : Prop := Memory.wf s.mem = true

/-- The next state of an outcome, if it is one. -/
def nextOf : Result → Option State
  | .next s => some s
  | _ => none

/-- Every waiting command has operands that its row admits. -/
def State.queueOk (s : State) : Prop := s.pending.all Instr.wf = true

/-- A part of the state: one register of the spec (all its instances), or one field of State. -/
inductive Part
  | reg (r : RegName)
  | rdShadow
  | wrShadow
  | time
  | ports
  | tx
  | cams
  | frames
  | cores
  | devBarrier
  | hold
  | adapt
  | sec
  | boot
  | groups
  | fns
  | rrFn
  | sfl
  | chn
  | log
  | fatal
  | mem
  | out
  | free
deriving DecidableEq, Repr

/-- A part of t holds what it held in s: every instance of a register reads the same, or a field is the same. -/
def Same : Part → State → State → Prop
  | .reg r, s, t => ∀ i, t.reg r i = s.reg r i
  | .rdShadow, s, t => t.rdShadow = s.rdShadow
  | .wrShadow, s, t => t.wrShadow = s.wrShadow
  | .time, s, t => t.time = s.time
  | .ports, s, t => t.ports = s.ports
  | .tx, s, t => t.tx = s.tx
  | .cams, s, t => t.cams = s.cams
  | .frames, s, t => t.frames = s.frames
  | .cores, s, t => t.cores = s.cores
  | .devBarrier, s, t => t.devPhase = s.devPhase ∧ t.devArrived = s.devArrived ∧ t.devMembers = s.devMembers
  | .hold, s, t => t.hold = s.hold
  | .adapt, s, t => t.adapt = s.adapt
  | .sec, s, t => t.sec = s.sec
  | .boot, s, t => t.boot = s.boot
  | .groups, s, t => t.groups = s.groups
  | .fns, s, t => t.fns = s.fns
  | .rrFn, s, t => t.rrFn = s.rrFn
  | .sfl, s, t => t.sfl = s.sfl
  | .chn, s, t => t.chn = s.chn
  | .log, s, t => t.log = s.log
  | .fatal, s, t => t.fatal = s.fatal
  | .mem, s, t => t.mem = s.mem
  | .out, s, t => t.out = s.out
  | .free, s, t => t.free = s.free

-- what the statements say of a state
/-- R52, R53: the pseq a port waits for. -/
def State.awaited (s : State) (p : Nat) : Nat :=
  match (s.port p).replay with
  | none => (s.port p).expect
  | some r => r.q


/-- R42, R49 to R53: on an ACTIVE port, packet k is within the hub's credits, intact, and the one expected next: in a replay wait,
the packet waited for, sent with replay 1. -/
def State.inSequence (s : State) (p : Nat) (k : Packet) : Prop :=
  s.portState p = 4 ∧ pktCost k ≤ (s.port p).hubCredit ∧ pktCrcOk k = true ∧ pktFramed k = true ∧
  k.pseq.toNat = s.awaited p ∧ ((s.port p).replay.isSome = true → k.replay = true)


/-- R33, R40, R50, R52: why packet k fails on an ACTIVE port: 2 credits, 0 CRC or a block of no type, 3 framing, 1 a gap. -/
def State.failCause (s : State) (p : Nat) (k : Packet) : Nat :=
  if (s.port p).hubCredit < pktCost k then 2 else if pktCrcOk k = false ∨ k.badBlock = true then 0 else if pktFramed k = false then 3 else 1


/-- R67, R78, R82: no close timeout and no start deadline of camera n has passed. -/
def State.onTime (s : State) (n : Nat) : Prop :=
  (∀ q, (s.cam n).openSeq = some q → s.now ≤ (s.frame n q).closeAt) ∧
  (∀ t ∈ (s.cam n).expect, s.now ≤ t.deadline) ∧ (∀ d, (s.cam n).freeRun = some d → s.now ≤ d)


/-- R45, R76, R80: camera n, whose slot takes packets, has frame q open and in time, and is not discarding. -/
def State.takesInto (s : State) (n q : Nat) : Prop :=
  s.onTime n ∧ (s.cam n).openSeq = some q ∧ (s.cam n).discard = false ∧ s.flag F.IXL_SLOT_CFG_en n = true


/-- R45, R72: the bytes kept of row r of a frame. -/
def FrameS.rowSoFar (f : FrameS) (r : Nat) : List Byte :=
  match f.cur with
  | some c => if c.1 = r then c.2 else []
  | none => []


/-- R76, R80: an open frame of camera n, if there is one, lies in another slot of the ledger than frame q will. -/
def State.noneOpen (s : State) (n q : Nat) : Prop :=
  ∀ x, (s.cam n).openSeq = some x → x % 128 ≠ q % 128 ∧ (s.frame n x).isFinal = false


/-- R72 to R74, R76: frame q of camera n is open in t, with this trigger number: inline where the camera is and its group is not
being reset, else with negative slot j. -/
def State.opened (s t : State) (n q trigSeq j : Nat) : Prop :=
  t.regN .CAM_SEQ n = (q + 1) % 2 ^ 32 ∧ (t.cam n).openSeq = some q ∧ (t.frame n q).st = 1 ∧ (t.frame n q).seq = q ∧
  (t.frame n q).trigSeq = trigSeq ∧ (t.frame n q).startStamp = s.now ∧
  (if s.flag F.CAM_CFG_inline n = true ∧ (s.group (s.camSg n)).resetBy = none then (t.frame n q).inlinePath = true
   else (t.frame n q).negSlot = j ∧ (t.frame n q).inlinePath = false)


/-- R55, R102: the cameras of port p whose next launch falls in the block slot of L, with those launches. -/
def State.dueAt (s : State) (p l : Nat) : List (Nat × Launch) :=
  ((portCams p).filterMap fun n => (s.cam n).launches.head?.map fun x => (n, x)).filter fun e => s.sameSlot p e.2.l l

/-- R9: a write of instance i of register r is taken, and does nothing but change the register's fields by their types. -/
def State.plainAt (s : State) (r : RegName) (i v : Nat) : Prop :=
  s.writeTaken r i = true ∧ s.windowWrite r i v = none ∧ s.contextWrite r i v = none ∧ s.blockWrite r i v = none

/-- R347, R349, R372: command c is started, not yet carried out, its opcode is op, and where the security engine carries it out it
is its turn. -/
def State.asked (s : State) (c : CmdRef) (op : Nat) (k : Cmd) : Prop :=
  s.command c = some k ∧ k.opcode = op ∧ k.taken = false ∧ s.engineTurn k = true

/-- R349: command c, which was k, is no longer started in t, and where its function is a bus master its reply was written with
this status. -/
def State.replied (s t : State) (c : CmdRef) (k : Cmd) (status : Nat) : Prop :=
  t.command c = none ∧
  ((s.fn c.fn).bme = true → ∃ a b, Out.hostWrite c.fn a (leBytes 4 k.seq ++ leBytes 2 k.opcode ++ leBytes 1 status ++ b) ∈ t.out)

/-- R349: as State.replied with status OK and detail 0, and the reply carries the results q0 and q1. -/
def State.answered (s t : State) (c : CmdRef) (k : Cmd) (q0 q1 : Nat) : Prop :=
  t.command c = none ∧
  ((s.fn c.fn).bme = true → ∃ a m, m.length = 5 ∧ Out.hostWrite c.fn a (leBytes 4 k.seq ++ leBytes 2 k.opcode ++ leBytes 1 stOk ++ m ++
    leBytes 4 0 ++ leBytes 8 q0 ++ leBytes 8 q1) ∈ t.out)


/-- R418: a trigger report. -/
def triggerReport : FwdCtl → Bool
  | .trigger _ _ _ => true
  | _ => false


/-- R359, R360, R407: message a of Safelight lies in the owner's channel 4 of t, or waits for it where it was full. -/
def State.told (s t : State) (a : List Word) : Prop :=
  (s.rxFull 0 4 = false → t.rxFull 0 4 = true ∧ ∀ j < a.length, t.reg (rxData 4) j = a.getD j 0) ∧
  (s.rxFull 0 4 = true → (t.fn 0).fwOut = (s.fn 0).fwOut ++ [(4, a)])

/-- R412, R417: an ACTIVE chain port takes a packet from position q for position d, which is this device. -/
def State.fromChain (s : State) (q d : Nat) : Prop := q ≠ s.pos ∧ s.portState (s.portToward q) = 4 ∧ d = s.pos

/-- R169 to R172: context c of core i is RUN and it is its turn to issue. -/
def State.itsTurn (s : State) (i c : Nat) : Prop := s.canIssue i c = true ∧ s.ctxState i c = 1

/-- These registers, as parts. -/
def regParts (l : List RegName) : List Part := l.map Part.reg
/-- What the passing of time touches: device time and the backchannels. -/
def elapsedParts : List Part := [.time, .tx, .out]
/-- What a command that logs an error may touch besides: the error log and the trace. -/
def loggedParts : List Part := elapsedParts ++ [Part.log] ++ regParts [.ERR_HEAD, .ERR_FIRST, .ERR_FIRST_CTL, .ERR_DROP, .OBS_TRACE_HEAD]
/-- What a command that replies to a command packet may touch besides. -/
def repliedParts : List Part := loggedParts ++ [Part.boot, Part.fns] ++ regParts [.FN_CNT_BME_DROP, .CQ_STATUS]
/-- What the operation receive may touch, and time. -/
def receiveParts : List Part := repliedParts ++ [Part.ports, Part.cams, Part.frames, Part.hold, Part.groups, Part.mem] ++ regParts
    [.IXL_PORT_STATUS, .IXL_SLOTS_PRESENT, .IXL_HUB_CAPS, .IXL_HUB_ID, .IXL_LINK_EVT, .IXL_CNT_CRC, .IXL_CNT_NAK, .IXL_CNT_LOST,
    .IXL_CNT_DROP, .IXL_CNT_RETRAIN, .IXL_CNT_CREDIT_OVF, .CAM_STATUS, .CAM_SEQ, .CAM_CNT_MISSED, .CAM_CNT_STALE, .CAM_CNT_MALFORMED,
    .CAM_CNT_FILLED, .CAM_CNT_DIVERT, .CAM_CNT_NOSLOT, .CAM_EXPO_STATUS, .CAM_EXPO_TARGET, .CAM_CNT_EXPO_MISMATCH, .CAM_CNT_EXPO_LATE,
    .CAM_CNT_EMBED_MISSING, .CAM_PPB_SEL, .CAM_OUT_STATUS, .CAM_CNT_OUT_SHED, .CHN_STATUS, .CHN_CNT_CRC, .CHN_CNT_RETRAIN,
    .CHN_CNT_FWD_DROP]
/-- What the operation stopStream may touch, and time. -/
def stopStreamParts : List Part := repliedParts ++ [Part.ports, Part.cams, Part.frames, Part.cores, Part.devBarrier, Part.adapt,
    Part.groups] ++ regParts [.CAM_STATUS, .CAM_OUT_STATUS, .LC_STATUS, .LC_CTX_STATUS, .LC_DMAQ_STATUS, .LC_DMAQ_OUT, .LC_DMAF_INFO,
    .HLD_WC_OCC]
/-- What the operation settle may touch, and time. -/
def settleParts : List Part := loggedParts ++ [Part.cams, Part.cores, Part.devBarrier, Part.hold, Part.adapt, Part.groups, Part.mem] ++
    regParts [.CAM_ADAPT_STATUS, .CAM_ADAPT_NUM, .CAM_CNT_ADAPT_PAUSE, .LC_STATUS, .LC_CTX_STATUS, .LC_DMAQ_STATUS, .LC_DMAQ_OUT,
    .LC_DMAF_INFO, .LC_DMAF_COORD, .LC_DMAF_COORD3, .LC_DMAF_ADDR_LO, .LC_DMAF_ADDR_HI, .LC_DMAF_CRC, .LC_CNT_DMA_FAULT,
    .LC_CNT_DMA_POISON, .LC_CNT_DMA_POISON_DATA, .LC_CNT_DMA_CLOSED, .HLD_WC_CNT_STALE_WR, .FN_CNT_BME_DROP, .SEC_CNT_SEALED_DENY]
/-- What the operation enterReset may touch, and time. -/
def enterResetParts : List Part := elapsedParts ++ [Part.cams, Part.cores, Part.devBarrier, Part.groups] ++ regParts [.LC_STATUS,
    .LC_FAULT, .LC_ECC_CNT, .LC_CNT_RETAKE, .LC_CNT_SKIP_OFF, .LC_CNT_SKIP_GOV, .LC_CNT_SKIP_LIMIT, .LC_CNT_SKIP_SLACK, .LC_CNT_CLIP_HIGH,
    .LC_DESC_COUNT, .LC_ADAPT_USED, .LC_CTX_STATUS, .LC_PAD, .LC_SHAPE_WORD, .LC_DMAQ_CFG, .LC_DMAQ_ROWS, .LC_DMAQ_STATUS, .LC_DMAQ_OUT,
    .LC_DMAF_INFO, .LC_DMAF_COORD, .LC_DMAF_COORD3, .LC_DMAF_ADDR_LO, .LC_DMAF_ADDR_HI, .LC_DMAF_CRC, .LC_CNT_DMA_FAULT,
    .LC_CNT_DMA_RESUME, .LC_CNT_DMA_POISON, .LC_CNT_DMA_POISON_DATA, .LC_CNT_DMA_CLOSED]
/-- What the operation tunnelsLost may touch, and time. -/
def tunnelsLostParts : List Part := repliedParts ++ [Part.ports, Part.cams, Part.frames, Part.groups] ++ regParts [.CAM_STATUS,
    .CAM_EXPO_STATUS, .CAM_CNT_EXPO_LATE]
/-- What the operation sendTo may touch, and time. -/
def sendToParts : List Part := elapsedParts ++ [Part.fns] ++ regParts [.MBX_CP0_DATA, .MBX_CP0_CTL, .MBX_CP1_DATA, .MBX_CP1_CTL,
    .MBX_CP2_DATA, .MBX_CP2_CTL, .MBX_CP3_DATA, .MBX_CP3_CTL, .MBX_RSFL_DATA, .MBX_RSFL_CTL]
/-- What the operation coreFault may touch, and time. -/
def coreFaultParts : List Part := stopStreamParts ++ regParts [.CAM_ADAPT_STATUS, .CAM_ADAPT_NUM, .CAM_CNT_ADAPT_PAUSE, .LC_FAULT]
/-- What the operation positionAbsent may touch, and time. -/
def positionAbsentParts : List Part := settleParts ++ [Part.frames, Part.boot, Part.fns, Part.chn] ++ regParts [.IXL_SLOTS_PRESENT,
    .IXL_HUB_CAPS, .CAM_CNT_FILLED, .CAM_CNT_EXPO_MISMATCH, .CAM_CNT_EMBED_MISSING, .LC_DMAQ_ROWS, .CQ_STATUS, .CHN_STATUS, .CHN_FWD,
    .CHN_WIN_CTL, .CHN_RWIN, .CHN_CNT_PEER_LOST, .PIN_OWN]
/-- Every part. -/
def allPartsList : List Part :=
  [Part.rdShadow, Part.wrShadow, Part.time, Part.ports, Part.tx, Part.cams, Part.frames, Part.cores, Part.devBarrier, Part.hold, Part.adapt, Part.sec, Part.boot, Part.groups, Part.fns, Part.rrFn, Part.sfl, Part.chn, Part.log, Part.fatal, Part.mem, Part.out, Part.free] ++ regParts RegName.all

/-- The parts of the state that a command may touch; it leaves every other part as it is. -/
def commandParts : Instr → List Part
  | .ixlPortEnable .. => tunnelsLostParts ++ [Part.hold, Part.mem] ++ regParts [.IXL_PORT_CFG, .IXL_PORT_STATUS, .IXL_SLOTS_PRESENT,
    .IXL_HUB_CAPS, .IXL_LINK_EVT, .IXL_CNT_RETRAIN, .CAM_CNT_FILLED, .CAM_CNT_EXPO_MISMATCH, .CAM_CNT_EMBED_MISSING, .CHN_STATUS,
    .CHN_CNT_RETRAIN]
  | .ixlPortDisable .. => tunnelsLostParts ++ [Part.hold, Part.mem] ++ regParts [.IXL_PORT_CFG, .IXL_PORT_STATUS, .IXL_SLOTS_PRESENT,
    .IXL_HUB_CAPS, .IXL_LINK_EVT, .IXL_CNT_RETRAIN, .CAM_CNT_FILLED, .CAM_CNT_EXPO_MISMATCH, .CAM_CNT_EMBED_MISSING, .CHN_STATUS,
    .CHN_CNT_RETRAIN]
  | .ixlRetrainRequest .. => tunnelsLostParts ++ [Part.hold, Part.mem] ++ regParts [.IXL_PORT_CFG, .IXL_PORT_STATUS, .IXL_SLOTS_PRESENT,
    .IXL_HUB_CAPS, .IXL_LINK_EVT, .IXL_CNT_RETRAIN, .CAM_CNT_FILLED, .CAM_CNT_EXPO_MISMATCH, .CAM_CNT_EMBED_MISSING, .CHN_STATUS,
    .CHN_CNT_RETRAIN]
  | .signalDetected .. => repliedParts ++ [Part.ports] ++ regParts [.IXL_PORT_STATUS, .IXL_LINK_EVT, .IXL_CNT_RETRAIN, .CHN_STATUS,
    .CHN_CNT_RETRAIN]
  | .blockLockGained .. => repliedParts ++ [Part.ports] ++ regParts [.IXL_PORT_STATUS, .IXL_LINK_EVT, .IXL_CNT_RETRAIN, .CHN_STATUS,
    .CHN_CNT_RETRAIN]
  | .blockLockLost .. => positionAbsentParts ++ [Part.ports] ++ regParts [.IXL_PORT_STATUS, .IXL_LINK_EVT, .IXL_CNT_RETRAIN, .CAM_STATUS,
    .CAM_EXPO_STATUS, .CAM_CNT_EXPO_LATE, .CHN_CNT_RETRAIN]
  | .bringupLimitExpiry .. => positionAbsentParts ++ [Part.ports] ++ regParts [.IXL_PORT_STATUS, .IXL_LINK_EVT, .IXL_CNT_RETRAIN,
    .CHN_CNT_RETRAIN]
  | .bringupRetryWaitEnd .. => elapsedParts ++ [Part.ports] ++ regParts [.IXL_PORT_STATUS, .CHN_STATUS]
  | .hubCapsPacket .. => receiveParts
  | .videoPacket .. => receiveParts
  | .embedPacket .. => receiveParts
  | .frameStartPacket .. => receiveParts
  | .frameEndPacket .. => receiveParts
  | .ctrlRespPacket .. => receiveParts
  | .slotChange .. => receiveParts
  | .replayGone .. => receiveParts
  | .hubFault .. => receiveParts
  | .unknownHubStatus .. => receiveParts
  | .reservedPacket .. => receiveParts
  | .packetFail .. => receiveParts
  | .duplicatePacket .. => receiveParts
  | .replayTimerExpiry .. => positionAbsentParts ++ [Part.ports] ++ regParts [.IXL_PORT_STATUS, .IXL_LINK_EVT, .IXL_CNT_NAK,
    .IXL_CNT_RETRAIN, .CAM_STATUS, .CAM_EXPO_STATUS, .CAM_CNT_EXPO_LATE, .CHN_CNT_RETRAIN]
  | .ackTimer .. => elapsedParts ++ [Part.ports]
  | .creditTimer .. => elapsedParts ++ [Part.ports]
  | .skipSend .. => elapsedParts
  | .tunnelRequest .. => tunnelsLostParts
  | .tunnelHeldStart .. => elapsedParts ++ [Part.ports]
  | .tunnelTimeout .. => tunnelsLostParts
  | .ixlWordClockLoss .. => tunnelsLostParts ++ [Part.hold, Part.mem] ++ regParts [.IXL_PORT_STATUS, .IXL_SLOTS_PRESENT, .IXL_HUB_CAPS,
    .IXL_LINK_EVT, .IXL_CNT_RETRAIN, .CAM_CNT_FILLED, .CAM_CNT_EXPO_MISMATCH, .CAM_CNT_EMBED_MISSING, .CHN_STATUS, .CHN_CNT_RETRAIN]
  | .triggerLaunch .. => loggedParts ++ [Part.ports, Part.cams, Part.chn] ++ regParts [.SYN_CNT_TRIG_NOLINK]
  | .missedFrameDeadline .. => tunnelsLostParts ++ regParts [.CAM_SEQ, .CAM_CNT_MISSED, .CAM_CNT_NOSLOT, .CAM_EXPO_TARGET, .CAM_PPB_SEL,
    .CAM_OUT_STATUS]
  | .closeTimeout .. => loggedParts ++ [Part.cams, Part.frames, Part.hold, Part.groups, Part.mem] ++ regParts [.CAM_CNT_FILLED,
    .CAM_CNT_EXPO_MISMATCH, .CAM_CNT_EMBED_MISSING, .FN_CNT_BME_DROP]
  | .sourceSelect .. => loggedParts ++ regParts [.SYN_CFG, .SYN_STATUS, .SYN_RATE_ADJ]
  | .ptmDialogueStart .. => loggedParts ++ regParts [.SYN_STATUS, .SYN_RATE_ADJ, .SYN_CNT_MEAS_FAIL, .SYN_CNT_HOLDOVER]
  | .ptmDialogueComplete .. => loggedParts ++ [Part.ports, Part.cams, Part.frames, Part.cores, Part.hold, Part.sec, Part.boot,
    Part.groups, Part.fns, Part.sfl, Part.chn] ++ regParts [.SYN_STATUS, .SYN_OFFSET_LAST, .SYN_RATE_ADJ, .SYN_LAST_STEP_LO,
    .SYN_LAST_STEP_HI, .SYN_LAST_STEP_NS, .SYN_CNT_STEP, .SYN_CNT_SKIPPED]
  | .measurementFail .. => loggedParts ++ regParts [.SYN_STATUS, .SYN_RATE_ADJ, .SYN_CNT_MEAS_FAIL, .SYN_CNT_HOLDOVER]
  | .slewEnd .. => elapsedParts ++ regParts [.SYN_STATUS, .SYN_RATE_ADJ]
  | .hardSet .. => loggedParts ++ [Part.ports, Part.cams, Part.frames, Part.cores, Part.hold, Part.sec, Part.boot, Part.groups, Part.fns,
    Part.sfl, Part.chn] ++ regParts [.SYN_STATUS, .SYN_RATE_ADJ, .SYN_LAST_STEP_LO, .SYN_LAST_STEP_HI, .SYN_LAST_STEP_NS, .SYN_CNT_STEP,
    .SYN_CNT_SKIPPED, .SYN_OUT_CTL]
  | .syncSymbolEmit .. => elapsedParts
  | .syncSymbolReceived .. => loggedParts ++ [Part.ports, Part.cams, Part.frames, Part.cores, Part.hold, Part.sec, Part.boot, Part.groups,
    Part.fns, Part.sfl, Part.chn] ++ regParts [.SYN_STATUS, .SYN_OFFSET_LAST, .SYN_RATE_ADJ, .SYN_LAST_STEP_LO, .SYN_LAST_STEP_HI,
    .SYN_LAST_STEP_NS, .SYN_CNT_STEP, .SYN_CNT_SKIPPED, .SYN_CNT_MEAS_FAIL, .SYN_CNT_HOLDOVER]
  | .syncSymbolMissing .. => loggedParts ++ regParts [.SYN_STATUS, .SYN_RATE_ADJ, .SYN_CNT_MEAS_FAIL, .SYN_CNT_HOLDOVER]
  | .scheduleEnable .. => loggedParts ++ [Part.cams] ++ regParts [.SYN_CNT_LATE_TICK, .SYN_SCHED_CTL]
  | .scheduleDisable .. => loggedParts ++ [Part.cams] ++ regParts [.SYN_CNT_LATE_TICK, .SYN_SCHED_CTL]
  | .scheduleTick .. => loggedParts ++ [Part.cams] ++ regParts [.SYN_CNT_SKIPPED]
  | .syncOutEnable .. => elapsedParts ++ regParts [.SYN_OUT_CTL]
  | .syncOutEdge .. => elapsedParts
  | .syncOutPulseEnd .. => elapsedParts ++ regParts [.SYN_OUT_CTL]
  | .timeSnapEdge .. => elapsedParts ++ regParts [.SYN_SNAP_STATUS]
  | .snapRead .. => elapsedParts ++ [Part.rdShadow]
  | .scheduleApplyTime .. => loggedParts ++ [Part.cams] ++ regParts [.SYN_CNT_LATE_TICK, .SYN_SCHED_BASE_LO, .SYN_SCHED_BASE_HI,
    .SYN_SCHED_PERIOD, .SYN_SCHED_CTL, .PIN_OWN]
  | .aliasWrite .. => allPartsList.filter fun p => not (List.contains [Part.rdShadow, Part.devBarrier, Part.adapt, Part.rrFn, Part.fatal,
    Part.free] p)
  | .sgBoundaryWrite .. => elapsedParts ++ [Part.groups] ++ regParts [.GLB_SG_BOUNDARY, .GLB_SG_STATUS, .HLD_WC_CFG, .HLD_WC_NEXT,
    .HLD_WC_OCC, .HLD_WC_CNT_REISSUE, .HLD_WC_CNT_LATE_COMMIT, .HLD_WC_CNT_STALE_WR]
  | .pairLowRead .. => sendToParts ++ [Part.rdShadow, Part.free]
  | .pairLowWrite .. => allPartsList.filter fun p => not (List.contains [Part.rdShadow, Part.devBarrier, Part.adapt, Part.rrFn,
    Part.fatal, Part.free] p)
  | .pairHighWrite .. => allPartsList.filter fun p => not (List.contains [Part.rdShadow, Part.devBarrier, Part.adapt, Part.rrFn,
    Part.fatal, Part.free] p)
  | .registerWrite .. => allPartsList.filter fun p => not (List.contains [Part.rdShadow, Part.devBarrier, Part.adapt, Part.rrFn,
    Part.fatal, Part.free] p)
  | .expoStage .. => elapsedParts ++ [Part.cams] ++ regParts [.CAM_EXPO_NEXT0, .CAM_EXPO_NEXT1, .CAM_EXPO_NEXT2, .CAM_EXPO_STATUS]
  | .wbGainWrite .. => elapsedParts ++ regParts [.CAM_EXPO_STATUS, .CAM_WB_GAIN]
  | .aeLoopStep .. => loggedParts ++ [Part.cams] ++ regParts [.CAM_EXPO_NEXT0, .CAM_EXPO_NEXT1, .CAM_EXPO_NEXT2, .CAM_CNT_AE_UPDATE]
  | .awbLoopStep .. => elapsedParts ++ [Part.cams] ++ regParts [.CAM_WB_GAIN]
  | .ppbSelect .. => elapsedParts ++ regParts [.CAM_PPB_SEL]
  | .outCredit .. => loggedParts ++ regParts [.CAM_OUT_STATUS]
  | .dmaRegulatorWrite .. => elapsedParts ++ [Part.cores] ++ regParts [.LC_DMA_REG]
  | .streamStart .. => tunnelsLostParts ++ [Part.cores, Part.adapt, Part.sec] ++ regParts [.GLB_ADMIT_STATUS, .CAM_SEQ, .CAM_CNT_MISSED,
    .CAM_CNT_STALE, .CAM_CNT_MALFORMED, .CAM_CNT_FILLED, .CAM_CNT_DIVERT, .CAM_CNT_NOSLOT, .CAM_EXPO_TARGET, .CAM_CNT_EXPO_MISMATCH,
    .CAM_CNT_EMBED_MISSING, .CAM_CNT_AE_UPDATE, .CAM_OUT_STATUS, .CAM_CNT_OUT_NOSLOT, .CAM_CNT_OUT_SHED, .CAM_CNT_TSTATE_RESET,
    .CAM_ADAPT_STATUS, .CAM_ADAPT_NUM, .CAM_CNT_ADAPT_PAIR, .CAM_CNT_ADAPT_NOTSTILL, .CAM_CNT_ADAPT_REJECT, .CAM_CNT_ADAPT_PAUSE]
  | .streamStopDrain .. => stopStreamParts
  | .streamStopAbort .. => stopStreamParts
  | .streamStopped .. => repliedParts ++ [Part.cams, Part.groups] ++ regParts [.CAM_STATUS, .EVQ_STATUS]
  | .printStripe .. => repliedParts ++ [Part.cams, Part.frames] ++ regParts [.CAM_OUT_STATUS, .CAM_CNT_OUT_NOSLOT]
  | .outputRowWrite .. => repliedParts ++ [Part.cams, Part.frames] ++ regParts [.CAM_OUT_STATUS, .CAM_CNT_OUT_NOSLOT, .CAM_CNT_OUT_SHED]
  | .outputPoolTimeout .. => repliedParts ++ [Part.cams, Part.frames] ++ regParts [.CAM_OUT_STATUS, .CAM_CNT_OUT_NOSLOT, .CAM_CNT_OUT_SHED]
  | .outputRowComplete .. => repliedParts ++ [Part.cams, Part.frames] ++ regParts [.CAM_OUT_STATUS, .CAM_CNT_OUT_NOSLOT]
  | .slotHeaderComplete .. => repliedParts ++ [Part.cams, Part.frames] ++ regParts [.CAM_OUT_STATUS]
  | .workShareQueue .. => elapsedParts ++ [Part.frames, Part.cores, Part.groups] ++ regParts [.LC_STATUS, .LC_CTX_STATUS, .HLD_WC_NEXT,
    .HLD_WC_OCC]
  | .stripeLaunch .. => elapsedParts ++ [Part.frames, Part.cores, Part.groups] ++ regParts [.LC_STATUS, .LC_CTX_STATUS, .HLD_WC_NEXT,
    .HLD_WC_OCC]
  | .stripeBoundary .. => loggedParts ++ [Part.frames, Part.cores, Part.groups] ++ regParts [.CAM_CNT_TSTATE_RESET, .LC_STATUS,
    .LC_CNT_CLIP_HIGH, .LC_CTX_STATUS, .LC_DMAQ_ROWS, .HLD_WC_OCC]
  | .wcDraw .. => loggedParts ++ [Part.frames, Part.cores, Part.groups] ++ regParts [.CAM_CNT_TSTATE_RESET, .LC_STATUS, .LC_CTX_STATUS,
    .LC_DMAQ_ROWS, .HLD_WC_OCC]
  | .wcCommit .. => loggedParts ++ [Part.cams, Part.frames, Part.cores, Part.devBarrier, Part.adapt, Part.groups] ++ regParts [.LC_STATUS,
    .LC_CTX_STATUS, .HLD_WC_OCC, .HLD_WC_CNT_LATE_COMMIT]
  | .leaseRenew .. => elapsedParts ++ [Part.cores, Part.groups] ++ regParts [.HLD_WC_OCC]
  | .leaseExpiry .. => loggedParts ++ [Part.cores, Part.groups] ++ regParts [.LC_STATUS, .LC_CTX_STATUS, .HLD_WC_OCC, .HLD_WC_CNT_REISSUE]
  | .coreRestoreComplete .. => enterResetParts ++ [Part.frames, Part.boot, Part.fns, Part.log] ++ regParts [.CAM_CNT_TSTATE_RESET,
    .HLD_WC_CFG, .FN_CNT_BME_DROP, .CQ_STATUS, .ERR_HEAD, .ERR_FIRST, .ERR_FIRST_CTL, .ERR_DROP, .OBS_TRACE_HEAD]
  | .arrayTile .. => coreFaultParts
  | .arrayComplete .. => elapsedParts ++ [Part.cams, Part.cores, Part.devBarrier, Part.groups, Part.log] ++ regParts [.LC_STATUS,
    .LC_ADAPT_USED, .LC_CTX_STATUS]
  | .vectorOp .. => coreFaultParts
  | .vectorConvert .. => coreFaultParts
  | .vectorReduction .. => coreFaultParts
  | .vectorComplete .. => elapsedParts ++ [Part.cores, Part.log] ++ regParts [.LC_STATUS, .LC_CTX_STATUS]
  | .rescaleLoad .. => coreFaultParts
  | .grid .. => coreFaultParts
  | .gridTileIssue .. => coreFaultParts
  | .rchk .. => loggedParts ++ [Part.frames, Part.cores] ++ regParts [.LC_STATUS, .LC_CNT_RETAKE, .LC_CNT_SKIP_OFF, .LC_CNT_SKIP_GOV,
    .LC_CNT_SKIP_LIMIT, .LC_CNT_SKIP_SLACK, .LC_CTX_STATUS]
  | .controlWait .. => elapsedParts ++ [Part.cores] ++ regParts [.LC_STATUS, .LC_CTX_STATUS]
  | .barrierArrive .. => elapsedParts ++ [Part.cams, Part.cores, Part.devBarrier, Part.groups] ++ regParts [.LC_STATUS, .LC_CTX_STATUS]
  | .barrierWait .. => elapsedParts ++ [Part.cores] ++ regParts [.LC_STATUS, .LC_CTX_STATUS]
  | .barrierTimeout .. => coreFaultParts
  | .ringReceivePost .. => coreFaultParts
  | .ringSend .. => coreFaultParts
  | .ringComplete .. => elapsedParts ++ [Part.cores] ++ regParts [.LC_STATUS, .LC_CTX_STATUS]
  | .ringTimeout .. => coreFaultParts
  | .spadEccError .. => coreFaultParts ++ regParts [.LC_ECC_CNT]
  | .dmaInstruction .. => coreFaultParts
  | .dmaTransferPlace .. => settleParts
  | .dmaPieceIssue .. => repliedParts ++ [Part.cores, Part.hold] ++ regParts [.LC_DMAQ_STATUS, .LC_DMAQ_OUT, .LC_DMAF_INFO,
    .LC_DMAF_COORD, .LC_DMAF_COORD3, .LC_DMAF_ADDR_LO, .LC_DMAF_ADDR_HI, .LC_DMAF_CRC, .LC_CNT_DMA_FAULT, .SEC_CNT_SEALED_DENY]
  | .dmaRowDelivered .. => settleParts ++ [Part.frames] ++ regParts [.LC_SHAPE_WORD, .LC_DMAQ_ROWS]
  | .faultWalk .. => settleParts ++ [Part.frames] ++ regParts [.LC_DMAQ_ROWS, .LC_CNT_DMA_RESUME, .EVQ_STATUS]
  | .faultWaitExpiry .. => settleParts ++ [Part.frames] ++ regParts [.LC_DMAQ_ROWS]
  | .holdCacheRequest .. => elapsedParts ++ [Part.hold, Part.log] ++ regParts [.HLD_ECC_CNT, .MEM_POISON_ADDR_LO, .MEM_POISON_ADDR_HI]
  | .ddr5ReadReturn .. => loggedParts ++ [Part.hold, Part.mem] ++ regParts [.MEM_STATUS, .MEM_POISON_ADDR_LO, .MEM_POISON_ADDR_HI,
    .MEM_CNT_CRC_RETRY, .MEM_CNT_CRC_POISON, .MEM_CNT_MAC_FAIL, .MEM_CNT_POISON_READ, .MEM_CNT_SWEEP]
  | .ddr5RequestServe .. => repliedParts ++ [Part.hold] ++ regParts [.MEM_STATUS]
  | .ddr5BlockWrite .. => elapsedParts ++ [Part.hold, Part.log] ++ regParts [.MEM_STATUS]
  | .refreshInterval .. => elapsedParts ++ [Part.hold]
  | .dramHot .. => elapsedParts ++ regParts [.MEM_STATUS]
  | .dramHotEnd .. => elapsedParts ++ regParts [.MEM_STATUS]
  | .trainingPair .. => loggedParts ++ [Part.adapt] ++ regParts [.CAM_CNT_ADAPT_PAIR, .CAM_CNT_ADAPT_NOTSTILL]
  | .reversePipelineRun .. => elapsedParts ++ [Part.cores, Part.adapt]
  | .trainingStripeQueue .. => elapsedParts ++ [Part.cores, Part.groups] ++ regParts [.LC_STATUS, .LC_CTX_STATUS, .HLD_WC_NEXT, .HLD_WC_OCC]
  | .trainingStep .. => elapsedParts ++ [Part.cores, Part.adapt]
  | .candidateEncode .. => loggedParts ++ [Part.adapt] ++ regParts [.CAM_ADAPT_STATUS, .CAM_ADAPT_NUM, .CAM_CNT_ADAPT_PAUSE,
    .FN_CNT_BME_DROP]
  | .gateDecision .. => loggedParts ++ [Part.adapt] ++ regParts [.CAM_ADAPT_NUM, .CAM_CNT_ADAPT_REJECT, .FN_CNT_BME_DROP]
  | .headSetStage .. => loggedParts ++ [Part.cams, Part.adapt] ++ regParts [.CAM_ADAPT_NUM, .FN_CNT_BME_DROP]
  | .adaptBudgetWindowEnd .. => elapsedParts ++ [Part.cores] ++ regParts [.LC_ADAPT_USED]
  | .adaptStart .. => repliedParts ++ [Part.adapt, Part.free] ++ regParts [.CAM_ADAPT_STATUS, .CAM_ADAPT_NUM, .CAM_CNT_ADAPT_PAUSE]
  | .adaptStop .. => repliedParts ++ [Part.adapt, Part.sec] ++ regParts [.CAM_ADAPT_STATUS]
  | .adaptPause .. => repliedParts ++ [Part.adapt] ++ regParts [.CAM_ADAPT_STATUS, .CAM_ADAPT_NUM, .CAM_CNT_ADAPT_PAUSE]
  | .adaptResume .. => repliedParts ++ [Part.adapt] ++ regParts [.CAM_ADAPT_STATUS, .CAM_ADAPT_NUM]
  | .adaptRevert .. => repliedParts ++ [Part.cams, Part.adapt] ++ regParts [.CAM_ADAPT_NUM]
  | .adaptRefs .. => repliedParts ++ [Part.adapt]
  | .adaptExport .. => repliedParts
  | .adaptImport .. => repliedParts ++ [Part.cams, Part.adapt] ++ regParts [.CAM_ADAPT_NUM]
  | .cqEnable .. => elapsedParts ++ [Part.fns] ++ regParts [.CQ_CFG, .CQ_STATUS]
  | .cqDisable .. => elapsedParts ++ [Part.fns] ++ regParts [.CQ_CFG, .CQ_STATUS]
  | .cqTailDoorbell .. => elapsedParts ++ [Part.fns] ++ regParts [.CQ_STATUS]
  | .rqHeadDoorbell .. => elapsedParts ++ [Part.fns] ++ regParts [.CQ_STATUS]
  | .commandFetch .. => elapsedParts ++ [Part.fns, Part.log] ++ regParts [.CQ_STATUS]
  | .commandStart .. => repliedParts ++ [Part.rrFn]
  | .interruptModerationTimer .. => elapsedParts ++ [Part.fns]
  | .evqEnable .. => elapsedParts ++ regParts [.EVQ_CFG, .EVQ_STATUS]
  | .mailboxSend .. => repliedParts ++ [Part.sfl] ++ regParts [.MBX_FW_CTL, .MBX_SFL_CTL]
  | .mailboxReadLast .. => sendToParts
  | .ping .. => sendToParts ++ regParts [.MBX_FW_CTL, .MBX_SFL_CTL]
  | .pinClaim .. => elapsedParts ++ regParts [.PIN_OWN, .PIN_CLAIM_STATUS]
  | .pinRelease .. => elapsedParts ++ regParts [.PIN_OWN, .PIN_CLAIM_STATUS]
  | .profileLoad .. => repliedParts ++ [Part.cams]
  | .sensorXfer .. => tunnelsLostParts
  | .camGrant .. => repliedParts ++ [Part.cams]
  | .camRings .. => repliedParts ++ [Part.cams] ++ regParts [.CAM_LEDGER_HOST_LO, .CAM_LEDGER_HOST_HI, .CAM_STATS_HOST_LO,
    .CAM_STATS_HOST_HI, .CAM_OUT_BASE_LO, .CAM_OUT_BASE_HI, .CAM_ADAPT_AUDIT_LO, .CAM_ADAPT_AUDIT_HI]
  | .modelLoad .. => repliedParts ++ [Part.cores, Part.hold, Part.sec, Part.groups, Part.mem, Part.free] ++ regParts [.LC_DESC_COUNT,
    .LC_PAD, .LC_DMAQ_CFG, .HLD_PIN_BASE, .HLD_PIN_SIZE, .HLD_PIN_WAYS, .HLD_WC_CFG, .HLD_WC_NEXT, .HLD_WC_OCC, .SEC_CNT_KEY_DENIED,
    .PIN_OWN]
  | .modelUnload .. => repliedParts ++ [Part.cams, Part.cores, Part.hold, Part.sec, Part.groups] ++ regParts [.LC_DESC_COUNT, .LC_PAD,
    .LC_DMAQ_CFG, .HLD_PIN_BASE, .HLD_PIN_SIZE, .HLD_PIN_WAYS, .HLD_WC_CFG, .HLD_WC_OCC, .PIN_OWN]
  | .modelBind .. => repliedParts ++ [Part.cams]
  | .calibCapture .. => repliedParts ++ [Part.cams]
  | .modelInfo .. => repliedParts
  | .map_ .. => repliedParts
  | .unmap .. => repliedParts
  | .move_ .. => repliedParts ++ [Part.hold, Part.sec, Part.mem]
  | .memGrant .. => repliedParts
  | .memRevoke .. => repliedParts ++ [Part.sec]
  | .faultResume .. => repliedParts ++ [Part.cores] ++ regParts [.LC_DMAQ_STATUS, .LC_DMAF_INFO, .LC_CNT_DMA_RESUME]
  | .fwPool .. => repliedParts
  | .timeGet .. => repliedParts
  | .schedApply .. => repliedParts ++ [Part.chn] ++ regParts [.PIN_OWN]
  | .counterRead .. => repliedParts
  | .traceRead .. => repliedParts
  | .layerTotals .. => repliedParts
  | .errlogRead .. => repliedParts ++ regParts [.ERR_TAIL]
  | .echo .. => repliedParts
  | .attest .. => repliedParts ++ [Part.sec] ++ regParts [.SEC_CNT_ATTEST]
  | .keyEphemeral .. => repliedParts ++ [Part.sec, Part.free]
  | .keyImport .. => repliedParts ++ [Part.sec] ++ regParts [.SEC_CNT_KEY_IMPORT, .SEC_CNT_KEY_DENIED]
  | .ephemeralKeyExpiry .. => elapsedParts ++ [Part.sec]
  | .tenantEnable .. => repliedParts ++ regParts [.FN_ID]
  | .tenantKill .. => stopStreamParts ++ [Part.hold, Part.sec] ++ regParts [.CAM_ADAPT_STATUS, .LC_FAULT, .LC_DESC_COUNT, .LC_PAD,
    .LC_DMAQ_CFG, .HLD_PIN_BASE, .HLD_PIN_SIZE, .HLD_PIN_WAYS, .HLD_WC_CFG, .FN_ID, .PIN_OWN]
  | .scrubOnchipComplete .. => enterResetParts ++ [Part.hold, Part.sec, Part.boot, Part.fns, Part.log, Part.mem, Part.free] ++ regParts
    [.FN_CNT_BME_DROP, .CQ_STATUS, .ERR_HEAD, .ERR_FIRST, .ERR_FIRST_CTL, .ERR_DROP, .OBS_TRACE_HEAD]
  | .scrubMemoryComplete .. => sendToParts ++ [Part.rdShadow, Part.wrShadow, Part.hold, Part.sec, Part.boot, Part.log, Part.mem] ++
    regParts [.FN_ID, .FN_CNT_BME_DROP, .CQ_BASE_LO, .CQ_BASE_HI, .RQ_BASE_LO, .RQ_BASE_HI, .CQ_CFG, .CQ_STATUS, .EVQ_BASE_LO,
    .EVQ_BASE_HI, .EVQ_CFG, .EVQ_STATUS, .CQ_TAIL, .RQ_HEAD, .MBX_FW_DATA, .MBX_FW_CTL, .MBX_SFL_DATA, .MBX_SFL_CTL, .FN_MBX_VEC,
    .MSIX_TABLE, .MSIX_PBA, .SEC_CNT_SCRUB, .ERR_HEAD, .ERR_FIRST, .ERR_FIRST_CTL, .ERR_DROP, .OBS_TRACE_HEAD]
  | .snufferClearComplete .. => repliedParts ++ [Part.hold, Part.sec, Part.mem]
  | .fwStage .. => repliedParts ++ [Part.sec] ++ regParts [.SEC_STATUS, .SEC_MEAS]
  | .fwSwitch .. => repliedParts
  | .fwSwitchBegin .. => sendToParts ++ [Part.adapt, Part.boot, Part.log, Part.free] ++ regParts [.CAM_ADAPT_STATUS, .CAM_ADAPT_NUM,
    .CAM_CNT_ADAPT_PAUSE, .FN_CNT_BME_DROP, .ERR_HEAD, .ERR_FIRST, .ERR_FIRST_CTL, .ERR_DROP, .OBS_TRACE_HEAD]
  | .cpReloadComplete .. => repliedParts ++ [Part.adapt] ++ regParts [.CAM_ADAPT_STATUS, .CAM_ADAPT_NUM]
  | .fwResumeTimeout .. => repliedParts ++ [Part.adapt] ++ regParts [.CAM_ADAPT_STATUS, .CAM_ADAPT_NUM]
  | .fwSwitchComplete .. => repliedParts ++ [Part.adapt, Part.sec] ++ regParts [.CAM_ADAPT_STATUS, .CAM_ADAPT_NUM, .EVQ_STATUS,
    .SEC_STATUS, .SEC_MEAS]
  | .engineMemoryError .. => sendToParts ++ [Part.sec, Part.log, Part.free] ++ regParts [.FN_CNT_BME_DROP, .EVQ_STATUS, .SEC_STATUS,
    .SEC_CNT_ENGINE_RESET, .ERR_HEAD, .ERR_FIRST, .ERR_FIRST_CTL, .ERR_DROP, .OBS_TRACE_HEAD]
  | .engineResetComplete .. => repliedParts ++ [Part.sec] ++ regParts [.SEC_STATUS, .SEC_MEAS, .SEC_ID_PUB, .SEC_CNT_KEY_DENIED]
  | .limitSet .. => sendToParts ++ [Part.sfl] ++ regParts [.MBX_FW_CTL, .MBX_SFL_CTL]
  | .govQuery .. => sendToParts ++ [Part.sfl] ++ regParts [.MBX_FW_CTL, .MBX_SFL_CTL]
  | .policySubmit .. => repliedParts ++ [Part.sec, Part.sfl] ++ regParts [.SEC_MEAS, .SFL_STATUS, .SFL_POLICY_SEQ, .SFL_CNT_POLICY_REJECT]
  | .privEnrol .. => repliedParts ++ [Part.sec, Part.sfl] ++ regParts [.SEC_MEAS, .SFL_STATUS, .SFL_POLICY_SEQ]
  | .sclkStop .. => loggedParts ++ [Part.sfl] ++ regParts [.GLB_CLK_STATUS, .GLB_CLK_LOST, .SFL_STATUS]
  | .vddSflOutOfRange .. => loggedParts ++ [Part.sfl] ++ regParts [.SFL_STATUS]
  | .sflWatchdogExpiry .. => loggedParts ++ [Part.sfl] ++ regParts [.SFL_STATUS]
  | .safelightRestartComplete .. => loggedParts ++ [Part.sec, Part.sfl] ++ regParts [.GLB_CLK_STATUS, .SEC_MEAS, .SFL_STATUS,
    .SFL_POLICY_SEQ, .SFL_CNT_RESTART]
  | .privHoldAssert .. => loggedParts ++ [Part.sfl] ++ regParts [.SFL_STATUS, .SFL_CNT_HOLD]
  | .privHoldDeassert .. => elapsedParts ++ [Part.sfl] ++ regParts [.SFL_STATUS]
  | .powerSample .. => elapsedParts ++ [Part.sfl, Part.log, Part.free] ++ regParts [.SFL_POWER]
  | .junctionRead .. => repliedParts ++ regParts [.SFL_THERM]
  | .governorEvaluation .. => enterResetParts ++ [Part.adapt, Part.fns, Part.sfl, Part.log, Part.fatal] ++ regParts [.CAM_ADAPT_STATUS,
    .CAM_ADAPT_NUM, .CAM_CNT_ADAPT_PAUSE, .FN_CNT_BME_DROP, .MBX_CP0_DATA, .MBX_CP0_CTL, .MBX_CP1_DATA, .MBX_CP1_CTL, .MBX_CP2_DATA,
    .MBX_CP2_CTL, .MBX_CP3_DATA, .MBX_CP3_CTL, .MBX_RSFL_DATA, .MBX_RSFL_CTL, .SFL_STATUS, .SFL_LIMIT, .SFL_GOV, .SFL_CNT_GOV_STEP,
    .ERR_HEAD, .ERR_FIRST, .ERR_FIRST_CTL, .ERR_FATAL, .ERR_FATAL_TIME_LO, .ERR_FATAL_TIME_HI, .ERR_DROP, .OBS_TRACE_HEAD]
  | .thermComparatorTrip .. => enterResetParts ++ [Part.log, Part.fatal] ++ regParts [.SFL_STATUS, .ERR_HEAD, .ERR_FIRST, .ERR_FIRST_CTL,
    .ERR_FATAL, .ERR_FATAL_TIME_LO, .ERR_FATAL_TIME_HI, .ERR_DROP, .OBS_TRACE_HEAD]
  | .chainStatus .. => repliedParts
  | .portForward .. => repliedParts ++ [Part.cams, Part.frames, Part.hold, Part.groups, Part.chn, Part.mem] ++ regParts
    [.IXL_SLOTS_PRESENT, .IXL_HUB_CAPS, .CAM_CNT_FILLED, .CAM_CNT_EXPO_MISMATCH, .CAM_CNT_EMBED_MISSING, .CHN_FWD, .CHN_FWD_PEER]
  | .portReturn .. => repliedParts ++ [Part.chn] ++ regParts [.CHN_FWD]
  | .windowOpen .. => repliedParts ++ regParts [.CHN_WIN_BASE_LO, .CHN_WIN_BASE_HI, .CHN_WIN_LEN, .CHN_WIN_CTL]
  | .windowClose .. => repliedParts ++ regParts [.CHN_WIN_CTL]
  | .posBlockReceived .. => repliedParts ++ [Part.ports] ++ regParts [.IXL_PORT_STATUS, .IXL_LINK_EVT, .IXL_CNT_RETRAIN, .CHN_STATUS,
    .CHN_CNT_RETRAIN]
  | .fwdPkt .. => tunnelsLostParts ++ [Part.hold, Part.mem] ++ regParts [.IXL_CNT_DROP, .CAM_SEQ, .CAM_CNT_MISSED, .CAM_CNT_STALE,
    .CAM_CNT_MALFORMED, .CAM_CNT_FILLED, .CAM_CNT_DIVERT, .CAM_CNT_NOSLOT, .CAM_EXPO_TARGET, .CAM_CNT_EXPO_MISMATCH,
    .CAM_CNT_EMBED_MISSING, .CAM_PPB_SEL, .CAM_OUT_STATUS, .CAM_CNT_OUT_SHED, .CHN_CNT_CRC]
  | .fwdCtl .. => loggedParts ++ [Part.ports, Part.cams, Part.frames, Part.hold, Part.groups, Part.mem] ++ regParts [.IXL_SLOTS_PRESENT,
    .IXL_HUB_CAPS, .CAM_CNT_FILLED, .CAM_CNT_EXPO_MISMATCH, .CAM_CNT_EMBED_MISSING, .FN_CNT_BME_DROP]
  | .peerWr .. => loggedParts ++ [Part.ports, Part.hold, Part.mem] ++ regParts [.CHN_CNT_WIN_DROP]
  | .peerAck .. => settleParts ++ [Part.ports, Part.boot, Part.fns] ++ regParts [.LC_DMAQ_ROWS, .CQ_STATUS, .CHN_CNT_CLOSED_LATE]
  | .chainMsg .. => tunnelsLostParts ++ [Part.chn] ++ regParts [.IXL_CNT_DROP, .CHN_FWD, .CHN_FWD_PEER, .CHN_RWIN, .PIN_OWN]
  | .chainStatusPacket .. => positionAbsentParts ++ [Part.ports, Part.free]
  | .statusSendTimer .. => elapsedParts ++ [Part.chn]
  | .presenceTimeout .. => positionAbsentParts
  | .forwardTakeback .. => elapsedParts ++ [Part.chn] ++ regParts [.CHN_FWD]
  | .delayReqTimer .. => elapsedParts ++ [Part.chn]
  | .delayReq .. => elapsedParts ++ [Part.free]
  | .delayResp .. => elapsedParts ++ [Part.chn, Part.free] ++ regParts [.CHN_CABLE]
  | .unitResetCore .. => enterResetParts ++ [Part.boot, Part.fns, Part.log, Part.free] ++ regParts [.FN_CNT_BME_DROP, .CQ_STATUS,
    .ERR_HEAD, .ERR_FIRST, .ERR_FIRST_CTL, .ERR_DROP, .OBS_TRACE_HEAD]
  | .unitResetPort .. => tunnelsLostParts ++ [Part.hold, Part.mem, Part.free] ++ regParts [.IXL_PORT_CFG, .IXL_PORT_STATUS,
    .IXL_SLOTS_PRESENT, .IXL_HUB_CAPS, .IXL_HUB_ID, .IXL_LINK_EVT, .IXL_CNT_CRC, .IXL_CNT_NAK, .IXL_CNT_LOST, .IXL_CNT_DROP,
    .IXL_CNT_RETRAIN, .IXL_CNT_CREDIT_OVF, .IXL_SLOT_CFG, .CAM_CNT_FILLED, .CAM_CNT_EXPO_MISMATCH, .CAM_CNT_EMBED_MISSING, .CHN_STATUS]
  | .unitResetStageGroup .. => enterResetParts ++ [Part.frames, Part.boot, Part.fns, Part.log, Part.free] ++ regParts [.CAM_OUT_STATUS,
    .HLD_WC_CFG, .HLD_WC_NEXT, .HLD_WC_OCC, .HLD_WC_CNT_REISSUE, .HLD_WC_CNT_LATE_COMMIT, .HLD_WC_CNT_STALE_WR, .FN_CNT_BME_DROP,
    .CQ_STATUS, .ERR_HEAD, .ERR_FIRST, .ERR_FIRST_CTL, .ERR_DROP, .OBS_TRACE_HEAD]
  | .unitResetTenant .. => stopStreamParts ++ [Part.hold, Part.sec, Part.free] ++ regParts [.CAM_ADAPT_STATUS, .LC_FAULT, .LC_DESC_COUNT,
    .LC_PAD, .LC_DMAQ_CFG, .HLD_PIN_BASE, .HLD_PIN_SIZE, .HLD_PIN_WAYS, .HLD_WC_CFG, .FN_ID, .PIN_OWN]
  | .errRelease .. => elapsedParts ++ regParts [.ERR_TAIL]
  | .errFirstClear .. => elapsedParts ++ regParts [.ERR_FIRST_CTL]
  | .clockLossOfLock .. => loggedParts ++ [Part.fatal] ++ regParts [.GLB_CLK_STATUS, .GLB_CLK_LOST, .ERR_FATAL, .ERR_FATAL_TIME_LO,
    .ERR_FATAL_TIME_HI]
  | .controlMemoryError .. => loggedParts ++ [Part.fatal] ++ regParts [.ERR_FATAL, .ERR_FATAL_TIME_LO, .ERR_FATAL_TIME_HI]
  | .cpWatchdogExpiry .. => loggedParts ++ [Part.fatal] ++ regParts [.ERR_FATAL, .ERR_FATAL_TIME_LO, .ERR_FATAL_TIME_HI]
  | .flrPf .. => stopStreamParts ++ [Part.hold, Part.sec, Part.sfl] ++ regParts [.CAM_ADAPT_STATUS, .LC_FAULT, .LC_DESC_COUNT, .LC_PAD,
    .LC_DMAQ_CFG, .HLD_PIN_BASE, .HLD_PIN_SIZE, .HLD_PIN_WAYS, .HLD_WC_CFG, .FN_ID, .CQ_CFG, .EVQ_CFG, .MBX_FW_CTL, .MBX_SFL_CTL,
    .MBX_CP0_CTL, .MBX_CP1_CTL, .MBX_CP2_CTL, .MBX_CP3_CTL, .MBX_RSFL_CTL, .PIN_OWN]
  | .flrVf .. => stopStreamParts ++ [Part.hold, Part.sec] ++ regParts [.CAM_ADAPT_STATUS, .LC_FAULT, .LC_DESC_COUNT, .LC_PAD,
    .LC_DMAQ_CFG, .HLD_PIN_BASE, .HLD_PIN_SIZE, .HLD_PIN_WAYS, .HLD_WC_CFG, .FN_ID, .PIN_OWN]
  | .vfEnableClear .. => stopStreamParts ++ [Part.hold, Part.sec] ++ regParts [.CAM_ADAPT_STATUS, .LC_FAULT, .LC_DESC_COUNT, .LC_PAD,
    .LC_DMAQ_CFG, .HLD_PIN_BASE, .HLD_PIN_SIZE, .HLD_PIN_WAYS, .HLD_WC_CFG, .FN_ID, .PIN_OWN]
  | .poisonedTlpWrite .. => loggedParts
  | .hostErrorCompletion .. => repliedParts ++ [Part.cores] ++ regParts [.LC_DMAQ_STATUS, .LC_DMAQ_OUT, .LC_DMAF_INFO, .LC_DMAF_COORD,
    .LC_DMAF_COORD3, .LC_DMAF_ADDR_LO, .LC_DMAF_ADDR_HI, .LC_DMAF_CRC, .LC_CNT_DMA_FAULT, .SEC_CNT_SEALED_DENY]
  | .configurationRequest .. => elapsedParts ++ [Part.fns]
  | .perstAssert .. => allPartsList
  | .hotReset .. => allPartsList
  | .porstAssert .. => allPartsList
  | .railDip .. => allPartsList
  | .startupBegin .. => elapsedParts ++ [Part.boot] ++ regParts [.CHN_STATUS]
  | .clocksLocked .. => loggedParts ++ regParts [.GLB_CLK_STATUS, .GLB_BOOT_STATUS, .SYN_STATUS, .SYN_RATE_ADJ]
  | .pllLockTimeout .. => loggedParts ++ [Part.boot, Part.fatal] ++ regParts [.GLB_BOOT_STATUS, .ERR_FATAL, .ERR_FATAL_TIME_LO,
    .ERR_FATAL_TIME_HI]
  | .imageAccepted .. => loggedParts ++ [Part.hold, Part.sec, Part.boot, Part.sfl, Part.fatal, Part.free] ++ regParts [.GLB_BOOT_STATUS,
    .MEM_GEOM, .SEC_STATUS, .SEC_MEAS, .SEC_ID_PUB, .SFL_STATUS, .SFL_POLICY_SEQ, .ERR_FATAL, .ERR_FATAL_TIME_LO, .ERR_FATAL_TIME_HI]
  | .cpStartTimeout .. => loggedParts ++ [Part.boot, Part.fatal] ++ regParts [.GLB_BOOT_STATUS, .ERR_FATAL, .ERR_FATAL_TIME_LO,
    .ERR_FATAL_TIME_HI]
  | .memTrainingDone .. => repliedParts ++ [Part.hold, Part.fatal] ++ regParts [.GLB_BOOT_STATUS, .MEM_STATUS, .ERR_FATAL,
    .ERR_FATAL_TIME_LO, .ERR_FATAL_TIME_HI]
  | .memInitDone .. => repliedParts ++ [Part.hold, Part.fatal, Part.mem] ++ regParts [.GLB_BOOT_STATUS, .MEM_STATUS, .ERR_FATAL,
    .ERR_FATAL_TIME_LO, .ERR_FATAL_TIME_HI]
  | .startupReady .. => enterResetParts ++ [Part.ports, Part.boot] ++ regParts [.GLB_BOOT_STATUS, .IXL_PORT_STATUS, .FN_ID, .CHN_STATUS]
  | .bypass .. => elapsedParts ++ [Part.boot]
  | .idcode .. => elapsedParts ++ [Part.boot]
  | .samplePreload .. => elapsedParts ++ [Part.boot]
  | .extest .. => elapsedParts ++ [Part.boot]
  | .extestPulse .. => elapsedParts ++ [Part.boot]
  | .extestTrain .. => elapsedParts ++ [Part.boot]
  | .smbPartId .. => loggedParts ++ [Part.sfl] ++ regParts [.SFL_STATUS]
  | .smbBootStatus .. => loggedParts ++ [Part.sfl] ++ regParts [.SFL_STATUS]
  | .smbTemperature .. => loggedParts ++ [Part.sfl] ++ regParts [.SFL_STATUS]
  | .smbPower .. => loggedParts ++ [Part.sfl, Part.free] ++ regParts [.SFL_STATUS]
  | .smbGovernor .. => loggedParts ++ [Part.sfl] ++ regParts [.SFL_STATUS]
  | .smbFatal .. => loggedParts ++ [Part.sfl] ++ regParts [.SFL_STATUS]
end Sys2Proof.Machine
end

