-- ==== Sys2Proof/Certificates/Slice0/Obligations.lean ====
section
/-! DEFINITION. The statements for the provers: the general ones, then for every command of the table a clause that says where
it completes and with what effect. -/
open Sys2Proof Sys2Proof.Machine

/-- R347: One sender gives commands, carried out first in, first out: a step with command c at the front of the queue is exec c on the
state with the queue's rest. On an empty queue the block idles: a step answers the same state. The queue, its order and the idling
are the model's choice (log 1); R347 takes commands in slot order within a queue. -/
def Obligations.StepRunsTheFrontCommand : Prop :=
  (∀ (c : Instr) (rest : List Instr) (s : State), s.pending = c :: rest → step s = exec c { s with pending := rest }) ∧
  (∀ s : State, s.pending = [] → step s = .next s)

/-- R3: Every command answers a next state in every state: a command that the rules give no effect there only lets its time pass. No
command stops the block (that an event not due changes nothing but time is the model's choice, log 3). -/
def Obligations.EveryCommandAnswersANextState : Prop :=
  ∀ (i : Instr) (s : State), ∃ t, exec i s = .next t

/-- R91: dt TCLK cycles add dt times the adjusted nanosecond to device time, with 32 fraction bits; device time never decreases, and
does not move before TCLK has locked. Besides device time, only the backchannels and what they send change. -/
def Obligations.TimeNeverDecreases : Prop :=
  ∀ (s : State) (dt : Nat), let u := s.elapse dt
    s.now ≤ u.now ∧ (s.time.running = false → u = s) ∧
    (s.time.running = true →
      u.time.now * 2 ^ 32 + u.time.frac = s.time.now * 2 ^ 32 + s.time.frac +
        ((dt : Int) * ((1000000000 + toSigned 32 (s.regN .SYN_RATE_ADJ)) * 2 ^ 32 / 1000000000)).toNat) ∧
    ∀ p, p ∉ elapsedParts → Same p s u

/-- R10, R16: For every command of the table: each part of the state (each of the spec's registers, the ports, the cameras, the
frames, the cores, the hold cache, the keys, the functions, Safelight, the chain, the log, the free values, all of device memory,
...) that is not among the command's parts is the same in the next state. commandParts lists, register by register, the parts that
each command may touch; Same says of a register that every instance reads as before, and of device memory that it is the same
memory, byte for byte. -/
def Obligations.CommandsLeaveTheRestAsItIs : Prop :=
  ∀ (i : Instr) (s t : State), exec i s = .next t → ∀ p, p ∉ commandParts i → Same p s t

/-- R297: From every state in which device memory is canonical (addresses strictly rising, no zero byte listed) and every waiting
command is well formed, a step gives a state of which the same holds. -/
def Obligations.StepKeepsMemoryCanonical : Prop :=
  ∀ s t : State, s.memOk → s.queueOk → step s = .next t → t.memOk ∧ t.queueOk

/-- R349, R4: For every command: what the block has sent stays sent, in its order (the outputs after begin with new ones and end with
those before), the queue of waiting commands is the same, and the counter of free values (the model's own field, log 5) does not
go back. -/
def Obligations.CommandsKeepWhatWasSent : Prop :=
  ∀ (i : Instr) (s t : State), exec i s = .next t →
    s.out <:+ t.out ∧ t.pending = s.pending ∧ s.free ≤ t.free

/-- R391: The digest of the privacy key is held in a fuse: once it is enrolled, no command, no reset among them, changes it. -/
def Obligations.EnrolmentIsPermanent : Prop :=
  ∀ (i : Instr) (s t : State) (d : List Byte), exec i s = .next t → s.sfl.enrol = some d → t.sfl.enrol = some d

/-- R17, R91, R92, R100, R238, R429: Right after reset the invariants of StepKeepsMemoryCanonical hold, nothing waits and nothing has
been sent, device time is 0, and the registers read as their tables give: GLB_ID 0x51204C10, LC_RETAKE_CFG with en 1,
max_per_stripe 4 and reserve 250, ports DOWN, no error entry, no start-up stage passed. Memory reads zero at every address, which
is the model's choice (log 10). -/
def Obligations.ResetState : Prop :=
  State.reset.memOk ∧ State.reset.queueOk ∧ State.reset.pending = [] ∧ State.reset.out = [] ∧ State.reset.now = 0 ∧
  State.reset.regN .GLB_ID = 0x51204C10 ∧ (∀ i, i < 16 → State.reset.regN .LC_RETAKE_CFG i = 0x800400FA) ∧
  (∀ p, p < 18 → State.reset.portState p = 0) ∧ State.reset.regN .ERR_HEAD = 0 ∧ State.reset.regN .ERR_TAIL = 0 ∧
  State.reset.fld F.GLB_BOOT_STATUS_stage = 0 ∧ State.reset.fld F.SYN_STATUS_state = 0 ∧
  (∀ a, memRead State.reset.mem a = 0)

/-- R8, R6: At an offset that holds no register and lies in no alias, a write of any width changes nothing (the next state is that of
the time passed), and a read of any width gives zero and changes nothing else. -/
def Obligations.UnusedOffsetsReadZero : Prop :=
  ∀ (s : State) (dt : Nat) (f : Fin 9) (a : Word) (n : Nat) (v : BitVec 64), let u := s.elapse dt
    regAt f a.toNat = none → aliasAt a.toNat = none →
    exec (.registerWrite dt f a n v) s = .next u ∧ exec (.pairLowRead dt f ⟨a, n⟩) s = .next (u.emit (.readData f 0))

/-- R231: a record's share exceeds its threshold exactly when clipped · 2^20 > thr · produced and produced is not 0; a record with
produced 0 never exceeds, and an equal share does not. -/
def Obligations.ClippedShareExceedsThreshold : Prop :=
  ∀ (c : RecCnt) (thr : Nat),
    (c.produced ≠ 0 → (c.exceeds thr = true ↔ thr * c.produced < c.clipped * 2 ^ 20)) ∧
    (c.produced = 0 → c.exceeds thr = false) ∧ (c.clipped * 2 ^ 20 = thr * c.produced → c.exceeds thr = false)

/-- R343: raising the vector written in a field sends the message of that vector modulo 1,024 in the owner's window and modulo 128 in
a tenant's, and changes nothing else. -/
def Obligations.VectorFieldsWrap : Prop :=
  ∀ (s : State) (fn vector : Nat),
    (fn = 0 → s.raise fn vector = s.emit (.msix 0 (vector % 1024))) ∧
    (fn ≠ 0 → s.raise fn vector = s.emit (.msix fn (vector % 128)))

/-- R253: a GRID in turn, of a valid record, whose m_rt exceeds m_plan or whose n_rt exceeds n_plan faults SHAPE_OVER at issue: no
array instruction joins the queue, register c (every scalar register of the context) is as before, and the core stops under R196:
it is FAULTED (4), or, in context 6, that context alone is (3). LC_FAULT keeps the code where no earlier fault is recorded. -/
def Obligations.GridBeyondItsPlanFaults : Prop :=
  ∀ (s : State) (dt : Nat) (i : Fin 16) (c : Fin 8) (gi : Byte) (p : BitVec 16) (r : BitVec 5), let u := s.elapse dt
    let g := gridOf ((u.core i).grids.get gi.toNat)
    u.itsTurn i c → u.arrayFree i = true → g.fault = none →
    (g.mPlan < u.gridBound i c g.mSrc g.mIdx g.mPlan ∨ g.nPlan < u.gridBound i c g.nSrc g.nIdx g.nPlan) →
    ∃ t, exec (.grid dt i c gi p r) s = .next t ∧ (∀ e ∈ (t.core i).aq, e ∈ (u.core i).aq) ∧
      (∀ k, (t.ctx i c).sregs.get k = (u.ctx i c).sregs.get k) ∧ t.ctxState i c = 3 ∧
      (c.val ≠ 6 → t.coreState i = 4) ∧ (u.fld F.LC_FAULT_code i = 0 → t.fld F.LC_FAULT_code i = fShapeOver)

/-- R432: with 1,024 entries unread, an event that has no entry to coalesce into writes no entry and is counted in ERR_DROP of its
class; an event that has one coalesces as ever and is not counted there; either is captured in ERR_FIRST while its valid bit is 0. -/
def Obligations.FullErrorLogDrops : Prop :=
  ∀ (s : State) (cls src code info flags : Nat), 1 ≤ cls → cls ≤ 15 → s.errUnread = 1024 →
    let t := s.logEvent cls src code info flags
    ((bit flags 0 = true ∨ s.coalesceTarget cls src = none) →
      t.log.ring = s.log.ring ∧ t.regN .ERR_HEAD = s.regN .ERR_HEAD ∧
      t.regN .ERR_DROP cls = satAdd 32 (s.regN .ERR_DROP cls) 1) ∧
    (∀ x, bit flags 0 = false → s.coalesceTarget cls src = some x →
      t.log.ring = coalesceInto x.num s.now s.log.ring ∧ t.regN .ERR_DROP cls = s.regN .ERR_DROP cls) ∧
    (s.flag F.ERR_FIRST_CTL_valid = false →
      t.flag F.ERR_FIRST_CTL_valid = true ∧ t.regN .ERR_FIRST 6 = code % 2 ^ 32 ∧ t.regN .ERR_FIRST 7 = info % 2 ^ 32)

/-- R139: the value over the channel's black level, 0 where it is below, times the channel's norm, divided by 4,096, rounded to the
nearest integer (to the even one where two are as near) and held to at most 65,535. -/
def Obligations.BlackLevelRoundsToEven : Prop :=
  ∀ (t : Ppb) (c : Nat) (y q : Int), let p := max (y - t.bl c) 0 * t.norm c
    ((-2048 < p - 4096 * q ∧ p - 4096 * q < 2048) ∨ ((p - 4096 * q = 2048 ∨ p - 4096 * q = -2048) ∧ q % 2 = 0)) →
    ((blackLevel t c y : Nat) : Int) = min q 65535

/-- R16, R34, R54, R67, R114, R126, R161, R187, R190, R282, R347, R361: Commands that concern one unit alone leave the state of every
other unit of its kind. Ports: a step of bring-up in time or not, the end of a retry wait, the ACK and CREDIT timers, a held
tunnel request. Cameras: an exposure word, a white balance word, a step of either loop, a parameter copy, output credits. Cores: a
write of the regulator, a wait, a wait for a barrier, the completion of a vector operation. Functions: a reply queue's head, a
message sent, a command packet fetched. Of another unit neither its own state changes nor any instance of a register of its block
that belongs to it (instance k of register r belongs to unit k / r.info.sub). -/
def Obligations.OneUnitAlone : Prop :=
  ∀ (s t : State) (dt : Nat),
    (∀ (p q : Fin 18), q ≠ p →
      exec (.signalDetected dt p) s = .next t ∨ exec (.blockLockGained dt p) s = .next t ∨
        exec (.bringupRetryWaitEnd dt p) s = .next t ∨ exec (.ackTimer dt p) s = .next t ∨ exec (.creditTimer dt p) s = .next t →
      t.port q = s.port q ∧ t.portState q = s.portState q) ∧
    (∀ (p q : Fin 16), q ≠ p → exec (.tunnelHeldStart dt p) s = .next t → t.port q = s.port q ∧ t.portState q = s.portState q) ∧
    (∀ (n m : Fin 512) (v : Word), m ≠ n →
      exec (.expoStage dt n v) s = .next t ∨ exec (.wbGainWrite dt n v) s = .next t ∨ exec (.aeLoopStep dt n) s = .next t ∨
        exec (.awbLoopStep dt n) s = .next t ∨ exec (.ppbSelect dt n v) s = .next t ∨ exec (.outCredit dt n v) s = .next t →
      t.cam m = s.cam m ∧ ∀ r k, r.info.block = .CAM → k / r.info.sub = m.val → t.reg r k = s.reg r k) ∧
    (∀ (i j : Fin 16) (c : Fin 8) (v : Word) (w : WaitFor) (b : BarScope) (phase : Nat), j ≠ i →
      exec (.dmaRegulatorWrite dt i v) s = .next t ∨ exec (.controlWait dt i c w) s = .next t ∨
        exec (.barrierWait dt i c b phase) s = .next t ∨ exec (.vectorComplete dt i) s = .next t →
      t.core j = s.core j ∧ ∀ r k, r.info.block = .LC → k / r.info.sub = j.val → t.reg r k = s.reg r k) ∧
    (∀ (f g : Fin 9) (q : Fin 4) (v : Word) (sfl : Bool) (bytes : List Byte), g ≠ f →
      exec (.rqHeadDoorbell dt f q v) s = .next t ∨ exec (.mailboxSend dt f sfl v) s = .next t ∨
        exec (.commandFetch dt f q bytes) s = .next t →
      t.fn g = s.fn g ∧ ∀ r k, r.info.block = .FN → k / r.info.sub = g.val → t.reg r k = s.reg r k)

/-- R33, R34, R37: An enable starts attempt 1 in CDR (1); a disable leads to DOWN (0); a requested retrain leaves ACTIVE (4) for
BLOCK_LOCK (2) with fault code 9; signal and block lock reached within their limits lead on to BLOCK_LOCK (2) and CAPS (3), a
camera port queuing its CAPS block and a chain port sending its position. That the RETRAIN state (5) is passed within the command
is the model's choice (log 141). Each clause says that the command named, in a state u (the state once its dt cycles have passed)
that meets the conditions on the left of the last arrow, answers a next state with that effect. -/
def Obligations.BringUpSteps : Prop :=
  (∀ (s : State) (dt : Nat) (p : Fin 16) (v : Word), let u := s.elapse dt
    u.answers .IXL = true → u.fld F.IXL_PORT_CFG_enable p = 0 →
    ∃ t, exec (.ixlPortEnable dt p v) s = .next t ∧ t.fld F.IXL_PORT_CFG_enable p = 1 ∧ t.portState p = 1 ∧
      t.fld F.IXL_PORT_STATUS_attempts p = 1 ∧ (t.port p).attempt = 1 ∧ (t.port p).since = u.now) ∧
  (∀ (s : State) (dt : Nat) (p : Fin 16) (v : Word), let u := s.elapse dt
    u.answers .IXL = true → u.fld F.IXL_PORT_CFG_enable p = 1 →
    ∃ t, exec (.ixlPortDisable dt p v) s = .next t ∧ t.portState p = 0 ∧
      t.fld F.IXL_PORT_STATUS_wclk_lock p = 0) ∧
  (∀ (s : State) (dt : Nat) (p : Fin 16) (v : Word), let u := s.elapse dt
    u.answers .IXL = true → u.fld F.IXL_PORT_CFG_enable p = 1 → u.portState p = 4 →
    ∃ t, exec (.ixlRetrainRequest dt p v) s = .next t ∧ t.portState p = 2 ∧ t.fld F.IXL_PORT_STATUS_last_fault p = 9 ∧
      t.fld F.IXL_LINK_EVT_retrain p = 1 ∧ (t.port p).attempt = 1) ∧
  (∀ (s : State) (dt : Nat) (p : Fin 18), let u := s.elapse dt
    u.portState p = 1 → (u.port p).waiting = false → u.now ≤ (u.port p).since + 1000000 →
    ∃ t, exec (.signalDetected dt p) s = .next t ∧ t.portState p = 2 ∧ (t.port p).since = u.now ∧
      (p.val < 16 → t.fld F.IXL_PORT_STATUS_wclk_lock p = 1)) ∧
  (∀ (s : State) (dt : Nat) (p : Fin 18), let u := s.elapse dt
    u.portState p = 2 → (u.port p).waiting = false → u.now ≤ (u.port p).since + 100000 →
    ∃ t, exec (.blockLockGained dt p) s = .next t ∧ t.portState p = 3 ∧ (t.port p).locked = true ∧
      (p.val < 16 → (t.tx.get p).queue = (u.tx.get p).queue ++ [⟨4, 0xAA, 1 + 8 * 2 ^ 8 + 256 * 2 ^ 16⟩]) ∧
      (16 ≤ p.val → t.out = .posBlock p (u.fld F.CHN_STATUS_pos) :: u.out))

/-- R34, R36, R37, R38: A loss of block lock in ACTIVE starts attempt 1 anew (a camera port with fault code 3), as a loss of the word
clock does, from CDR; a limit missed ends the attempt (a camera port records the code of its state), and the eighth leads a camera
port that no UNIT_RESET is bringing up to FAULT (6); after the wait of 1 ms the next attempt starts in CDR. Each clause says that
the command named, in a state u (the state once its dt cycles have passed) that meets the conditions on the left of the last
arrow, answers a next state with that effect. -/
def Obligations.BringUpFailures : Prop :=
  (∀ (s : State) (dt : Nat) (p : Fin 18), let u := s.elapse dt
    u.portState p = 4 →
    ∃ t, exec (.blockLockLost dt p) s = .next t ∧ (t.port p).attempt = 1 ∧ (t.port p).since = u.now ∧
      (p.val < 16 → t.portState p = 2 ∧ t.fld F.IXL_PORT_STATUS_last_fault p = 3)) ∧
  (∀ (s : State) (dt : Nat) (p : Fin 18), let u := s.elapse dt
    1 ≤ u.portState p → u.portState p ≤ 3 → (u.port p).waiting = false →
    (u.port p).since + stateLimit (u.portState p) < u.now → (u.port p).attempt < 8 →
    ∃ t, exec (.bringupLimitExpiry dt p) s = .next t ∧ (t.port p).waiting = true ∧ (t.port p).since = u.now ∧
      (p.val < 16 → t.fld F.IXL_PORT_STATUS_last_fault p = limitCode (u.portState p))) ∧
  (∀ (s : State) (dt : Nat) (p : Fin 16), let u := s.elapse dt
    1 ≤ u.portState p → u.portState p ≤ 3 → (u.port p).waiting = false → (u.port p).resetBy = none →
    (u.port p).since + stateLimit (u.portState p) < u.now → 8 ≤ (u.port p).attempt →
    ∃ t, exec (.bringupLimitExpiry dt (p.castLE (by decide))) s = .next t ∧ t.portState p = 6 ∧ t.fld F.IXL_LINK_EVT_fault p = 1) ∧
  (∀ (s : State) (dt : Nat) (p : Fin 18), let u := s.elapse dt
    (u.port p).waiting = true → (u.port p).since + 1000000 ≤ u.now →
    ∃ t, exec (.bringupRetryWaitEnd dt p) s = .next t ∧ t.portState p = 1 ∧ (t.port p).waiting = false ∧
      (t.port p).attempt = (u.port p).attempt + 1) ∧
  (∀ (s : State) (dt : Nat) (p : Fin 16), let u := s.elapse dt
    u.portState p = 4 →
    ∃ t, exec (.ixlWordClockLoss dt p) s = .next t ∧ t.portState p = 1 ∧ t.fld F.IXL_PORT_STATUS_wclk_lock p = 0 ∧
      t.fld F.IXL_PORT_STATUS_last_fault p = 3)

/-- R35, R42, R44, R50, R51, R52, R53: A CAPS packet that is accepted in its state makes a port ACTIVE, its sequence numbers starting
again, and gives the hub's mask of slots and its identity; while ACTIVE, SLOT_CHANGE renews the mask, HUB_FAULT retrains with
fault code 8, and REPLAY_GONE moves the expected number to the oldest packet held, whose replay is then awaited; a subtype with no
meaning is dropped and counted, as is a reserved packet type (at a chain port in CHN_CNT_CRC); a packet that fails its CRC, its
frame, its credit or its number is not taken, asks for a replay with its cause and is counted by cause; a packet already taken is
dropped. Each clause says that the command named, in a state u (the state once its dt cycles have passed) that meets the
conditions on the left of the last arrow, answers a next state with that effect. -/
def Obligations.HubStatusPackets : Prop :=
  (∀ (s : State) (dt : Nat) (p : Fin 16) (k : Packet), let u := s.elapse dt
    u.portState p = 3 → u.now ≤ (u.port p).since + 500000 → k.ptype = 6 → hubSubtype k = 1 → k.pseq = 0 →
    pktCrcOk k = true → pktFramed k = true → (capsFields k).1 = 1 → 64 ≤ (capsFields k).2.1 →
    ∃ t, exec (.hubCapsPacket dt p k) s = .next t ∧ t.portState p = 4 ∧ (t.port p).expect = 1 ∧ (t.port p).lastAcc = 0 ∧
      (t.port p).trigSeq = 0 ∧ t.regN .IXL_SLOTS_PRESENT p = hubWord1 k % 2 ^ 32 ∧ t.regN .IXL_HUB_ID p = hubWord1 k / 2 ^ 32) ∧
  (∀ (s : State) (dt : Nat) (p : Fin 16) (k : Packet), let u := s.elapse dt
    u.inSequence p k → k.ptype = 6 → hubSubtype k = 2 →
    ∃ t, exec (.slotChange dt p k) s = .next t ∧ t.regN .IXL_SLOTS_PRESENT p = hubWord1 k % 2 ^ 32 ∧
      t.fld F.IXL_LINK_EVT_slot_change p = 1 ∧ (t.port p).expect = (k.pseq.toNat + 1) % 65536) ∧
  (∀ (s : State) (dt : Nat) (p : Fin 16) (k : Packet), let u := s.elapse dt
    u.inSequence p k → k.ptype = 6 → hubSubtype k = 4 →
    ∃ t, exec (.hubFault dt p k) s = .next t ∧ t.portState p = 2 ∧ t.fld F.IXL_PORT_STATUS_last_fault p = 8) ∧
  (∀ (s : State) (dt : Nat) (p : Fin 16) (k : Packet) (r : ReplayS), let u := s.elapse dt
    u.portState p = 4 → pktCost k ≤ (u.port p).hubCredit → pktCrcOk k = true → pktFramed k = true →
    k.ptype = 6 → hubSubtype k = 3 → (u.port p).replay = some r → k.pseq.toNat = r.q → k.replay = true →
    ∃ t, exec (.replayGone dt p k) s = .next t ∧ (t.port p).expect = hubWord1 k % 65536 ∧
      (∃ x, (t.port p).replay = some x ∧ x.q = hubWord1 k % 65536 ∧ x.deadline = none)) ∧
  (∀ (s : State) (dt : Nat) (p : Fin 16) (k : Packet), let u := s.elapse dt
    u.inSequence p k → k.ptype = 6 → unknownHub (hubSubtype k) = true →
    ∃ t, exec (.unknownHubStatus dt p k) s = .next t ∧
      t.regN .IXL_CNT_DROP p = satAdd 32 (u.regN .IXL_CNT_DROP p) 1 ∧ (t.port p).expect = (k.pseq.toNat + 1) % 65536) ∧
  (∀ (s : State) (dt : Nat) (p : Fin 16) (k : Packet), let u := s.elapse dt
    u.inSequence p k → reservedPkt k = true →
    ∃ t, exec (.reservedPacket dt (p.castLE (by decide)) k) s = .next t ∧
      t.regN .IXL_CNT_DROP p = satAdd 32 (u.regN .IXL_CNT_DROP p) 1 ∧ (t.port p).expect = (k.pseq.toNat + 1) % 65536) ∧
  (∀ (s : State) (dt : Nat) (p : Fin 18) (k : Packet), let u := s.elapse dt
    16 ≤ p.val → u.inSequence p k → reservedPkt k = true →
    ∃ t, exec (.reservedPacket dt p k) s = .next t ∧
      t.regN .CHN_CNT_CRC = satAdd 32 (u.regN .CHN_CNT_CRC) 1 ∧ (t.port p).expect = (k.pseq.toNat + 1) % 65536) ∧
  (∀ (s : State) (dt : Nat) (p : Fin 18) (k : Packet), let u := s.elapse dt
    u.portState p = 4 → (u.port p).replay = none → k.stray = none →
    ((u.port p).hubCredit < pktCost k ∨ pktCrcOk k = false ∨ pktFramed k = false ∨
      (k.pseq.toNat ≠ (u.port p).expect ∧ pseqBelow k.pseq.toNat (u.port p).expect = false ∧ ¬ (k.ptype = 6 ∧ hubSubtype k = 3))) →
    ∃ t, exec (.packetFail dt p k) s = .next t ∧ (t.port p).expect = (u.port p).expect ∧
      (t.port p).replay = some ⟨(u.port p).expect, u.failCause p k, 0, some (u.now + 10000)⟩ ∧
      ⟨3, 0xD2, (u.port p).expect + u.failCause p k * 2 ^ 16⟩ ∈ (t.tx.get p).queue ∧
      (p.val < 16 → u.failCause p k = 0 ∨ u.failCause p k = 3 → t.regN .IXL_CNT_CRC p = satAdd 32 (u.regN .IXL_CNT_CRC p) 1) ∧
      (p.val < 16 → u.failCause p k = 2 → t.regN .IXL_CNT_CREDIT_OVF p = satAdd 32 (u.regN .IXL_CNT_CREDIT_OVF p) 1)) ∧
  (∀ (s : State) (dt : Nat) (p : Fin 18) (k : Packet), let u := s.elapse dt
    u.portState p = 4 → pktCost k ≤ (u.port p).hubCredit → pktCrcOk k = true → pktFramed k = true →
    pseqBelow k.pseq.toNat (u.awaited p) = true →
    ∃ t, exec (.duplicatePacket dt p k) s = .next t ∧ (t.port p).expect = (u.port p).expect ∧
      (p.val < 16 → t.regN .IXL_CNT_DROP p = satAdd 32 (u.regN .IXL_CNT_DROP p) 1))

/-- R45, R57, R72, R74, R76, R80, R416: A segment that does not end its row is kept with the row; a whole row that comes next is
written to the frame's negative, and no other byte of memory changes, or on the inline path to the line buffer; embedded lines are
kept; a FRAME_START that answers an expected trigger, or any one of a free-running camera, opens frame CAM_SEQ with a free
negative slot; a FRAME_END closes the open frame; a CTRL_RESP ends its transaction. Packets of a port lent to another device go on
to it. Each clause says that the command named, in a state u (the state once its dt cycles have passed) that meets the conditions
on the left of the last arrow, answers a next state with that effect. -/
def Obligations.CameraPackets : Prop :=
  (∀ (s : State) (dt : Nat) (p : Fin 16) (k : Packet) (q : Nat), let u := s.elapse dt
    let n := 32 * p.val + k.slot.toNat
    u.inSequence p k → k.ptype = 1 → u.isOut p = false → u.takesInto n q → k.dt.toNat = u.fld F.IXL_SLOT_CFG_dt n →
    k.line.toNat < u.height n → (u.frame n q).rows ≤ k.line.toNat → k.lastSeg = false →
    ∃ t, exec (.videoPacket dt p k) s = .next t ∧
      (t.frame n q).cur = some (k.line.toNat, (u.frame n q).rowSoFar k.line.toNat ++ bytesAt k.payload 0 k.len.toNat) ∧
      (t.frame n q).rows = (u.frame n q).rows ∧ t.mem = u.mem ∧ (t.port p).expect = (k.pseq.toNat + 1) % 65536) ∧
  (∀ (s : State) (dt : Nat) (p : Fin 16) (k : Packet) (q : Nat), let u := s.elapse dt
    let n := 32 * p.val + k.slot.toNat
    let row := (u.frame n q).rowSoFar k.line.toNat ++ bytesAt k.payload 0 k.len.toNat
    u.inSequence p k → k.ptype = 1 → u.isOut p = false → u.takesInto n q → k.dt.toNat = u.fld F.IXL_SLOT_CFG_dt n →
    k.line.toNat + 1 < u.height n → (u.frame n q).rows = k.line.toNat → k.lastSeg = true → row.length = u.rowBytes n →
    u.lineFull n q = false →
    ∃ t, exec (.videoPacket dt p k) s = .next t ∧ (t.frame n q).rows = k.line.toNat + 1 ∧ (t.frame n q).cur = none ∧
      (t.port p).expect = (k.pseq.toNat + 1) % 65536 ∧
      ((u.frame n q).inlinePath = false → (u.frame n q).negSlot ≠ 255 →
        t.mem = memWrites u.mem (u.negAddr n (u.frame n q).negSlot k.line.toNat) row) ∧
      ((u.frame n q).inlinePath = true → t.mem = u.mem ∧
        (t.group (u.camSg n)).line = (u.group (u.camSg n)).line ++ [⟨q, k.line.toNat, row, u.now⟩])) ∧
  (∀ (s : State) (dt : Nat) (p : Fin 16) (k : Packet) (q : Nat), let u := s.elapse dt
    let n := 32 * p.val + k.slot.toNat
    u.inSequence p k → k.ptype = 2 → u.isOut p = false → u.takesInto n q → u.flag F.IXL_SLOT_CFG_embed_en n = true → k.dt = 0x12 →
    ∃ t, exec (.embedPacket dt p k) s = .next t ∧
      (t.frame n q).embed.getD k.line.toNat [] =
        (u.frame n q).embed.getD k.line.toNat [] ++ bytesAt k.payload 0 k.len.toNat ∧
      t.mem = u.mem ∧ (t.port p).expect = (k.pseq.toNat + 1) % 65536) ∧
  (∀ (s : State) (dt : Nat) (p : Fin 16) (k : Packet) (x : Trig) (j : Nat), let u := s.elapse dt
    let n := 32 * p.val + k.slot.toNat
    let q := u.regN .CAM_SEQ n
    u.inSequence p k → k.ptype = 3 → u.isOut p = false → u.onTime n → u.noneOpen n q → u.stream n = 2 →
    u.flag F.CAM_CFG_free_run n = false → k.trigSeq.toNat ≠ 0x3FFF →
    (u.cam n).expect.find? (fun y => y.seq == k.trigSeq.toNat) = some x → (u.frame n q).isFinal = true →
    (u.setRegN .CAM_SEQ n (q + 1)).negFree n = some j →
    ∃ t, exec (.frameStartPacket dt p k) s = .next t ∧ u.opened t n q k.trigSeq.toNat j) ∧
  (∀ (s : State) (dt : Nat) (p : Fin 16) (k : Packet) (j : Nat), let u := s.elapse dt
    let n := 32 * p.val + k.slot.toNat
    let q := u.regN .CAM_SEQ n
    u.inSequence p k → k.ptype = 3 → u.isOut p = false → u.onTime n → u.noneOpen n q → u.stream n = 2 →
    u.flag F.CAM_CFG_free_run n = true → (u.frame n q).isFinal = true → (u.setRegN .CAM_SEQ n (q + 1)).negFree n = some j →
    ∃ t, exec (.frameStartPacket dt p k) s = .next t ∧ u.opened t n q 0x3FFF j) ∧
  (∀ (s : State) (dt : Nat) (p : Fin 16) (k : Packet) (q : Nat), let u := s.elapse dt
    let n := 32 * p.val + k.slot.toNat
    u.inSequence p k → k.ptype = 4 → u.isOut p = false → u.takesInto n q →
    ∃ t, exec (.frameEndPacket dt p k) s = .next t ∧ (t.frame n q).st = 2 ∧ (t.cam n).openSeq = none ∧
      ((u.frame n q).rows ≤ u.height n → (t.frame n q).rows = u.height n)) ∧
  (∀ (s : State) (dt : Nat) (p : Fin 16) (k : Packet) (x : Tunnel), let u := s.elapse dt
    u.inSequence p k → k.ptype = 5 →
    (u.port p).tunnels.find? (fun y => y.tag == leAt (bytesAt k.payload 0 k.len.toNat) 0 1) = some x →
    ∃ t, exec (.ctrlRespPacket dt p k) s = .next t ∧ (t.port p).expect = (k.pseq.toNat + 1) % 65536 ∧
      (t.port p).tunnels = (u.port p).tunnels.filter (fun y => y.tag != leAt (bytesAt k.payload 0 k.len.toNat) 0 1)) ∧
  (∀ (s : State) (dt : Nat) (p : Fin 16) (k : Packet), let u := s.elapse dt
    u.inSequence p k → u.isOut p = true → bit (u.fld F.CHN_STATUS_present) (u.fwdPeer p) = true → u.chn.lostAt.get p = none →
    (k.ptype = 1 → ∃ t, exec (.videoPacket dt p k) s = .next t ∧ .chainPkt (u.fwdPeer p) 1 p u.now (pktBytes k) ∈ t.out) ∧
    (k.ptype = 2 → ∃ t, exec (.embedPacket dt p k) s = .next t ∧ .chainPkt (u.fwdPeer p) 1 p u.now (pktBytes k) ∈ t.out) ∧
    (k.ptype = 3 → ∃ t, exec (.frameStartPacket dt p k) s = .next t ∧ .chainPkt (u.fwdPeer p) 1 p u.now (pktBytes k) ∈ t.out) ∧
    (k.ptype = 4 → ∃ t, exec (.frameEndPacket dt p k) s = .next t ∧ .chainPkt (u.fwdPeer p) 1 p u.now (pktBytes k) ∈ t.out))

/-- R50, R51, R52, R54, R57, R58, R416: The replay timer repeats the NAK, and after the fourth a camera port retrains with fault code
7; an ACK carries the last packet taken in order and a CREDIT the cumulative credits; a SKIP is queued; a tunnelled request begins
with a free tag, or is held while 16 are under way or others wait, and a held one begins when a tag is free; a request on a port
lent to this device goes to its hub's device; a transaction with no response for 5 ms ends. Each clause says that the command
named, in a state u (the state once its dt cycles have passed) that meets the conditions on the left of the last arrow, answers a
next state with that effect. -/
def Obligations.LinkTimers : Prop :=
  (∀ (s : State) (dt : Nat) (p : Fin 18) (r : ReplayS) (d : Nat), let u := s.elapse dt
    (u.port p).replay = some r → r.deadline = some d → d < u.now → r.attempt < 3 →
    ∃ t, exec (.replayTimerExpiry dt p) s = .next t ∧
      (t.port p).replay = some { r with attempt := r.attempt + 1, deadline := some (u.now + 10000) } ∧
      (t.tx.get p).queue = (u.tx.get p).queue ++ [⟨3, 0xD2, r.q + r.cause * 2 ^ 16 + (r.attempt + 1) * 2 ^ 18⟩]) ∧
  (∀ (s : State) (dt : Nat) (p : Fin 16) (r : ReplayS) (d : Nat), let u := s.elapse dt
    (u.port p).replay = some r → r.deadline = some d → d < u.now → 3 ≤ r.attempt →
    ∃ t, exec (.replayTimerExpiry dt (p.castLE (by decide))) s = .next t ∧ t.portState p = 2 ∧ (t.port p).replay = none ∧
      t.fld F.IXL_PORT_STATUS_last_fault p = 7) ∧
  (∀ (s : State) (dt : Nat) (p : Fin 18), let u := s.elapse dt
    u.portState p = 4 → 0 < (u.port p).accSince → (u.port p).ackFrom + 1000 ≤ u.now →
    ∃ t, exec (.ackTimer dt p) s = .next t ∧ (t.port p).accSince = 0 ∧
      (t.tx.get p).queue = (u.tx.get p).queue ++ [⟨5, 0x2D, (u.port p).lastAcc⟩]) ∧
  (∀ (s : State) (dt : Nat) (p : Fin 18), let u := s.elapse dt
    (u.portState p = 4 ∨ u.portState p = 3) → 0 < (u.port p).freed → (u.port p).freedFrom + 1000 ≤ u.now →
    ∃ t, exec (.creditTimer dt p) s = .next t ∧ (t.port p).freed = 0 ∧
      (t.port p).hubCredit = (u.port p).hubCredit + (u.port p).freed ∧
      (t.tx.get p).queue = (u.tx.get p).queue ++ [⟨6, 0x66, ((u.port p).cumCredit + (u.port p).freed) % 65536⟩]) ∧
  (∀ (s : State) (dt : Nat) (p : Fin 18), let u := s.elapse dt
    ∃ t, exec (.skipSend dt p) s = .next t ∧ (t.tx.get p).queue = (u.tx.get p).queue ++ [⟨2, 0x33, 0⟩] ∧ (t.tx.get p).sinceSkip = 0) ∧
  (∀ (s : State) (dt : Nat) (p : Fin 16) (r : TunnelOp), let u := s.elapse dt
    u.isIn p = false → u.fld F.IXL_PORT_STATUS_state p = 4 → (u.port p).tunnels.length < 16 → (u.port p).held = [] →
    ∃ t tag, exec (.tunnelRequest dt p r) s = .next t ∧ (∀ y ∈ (u.port p).tunnels, y.tag ≠ tag) ∧
      (t.port p).tunnels = (u.port p).tunnels ++ [⟨tag, tunnelReq r, u.now, .firmware⟩] ∧
      ⟨7, 0x99, ctlBegin tag (tunnelReq r)⟩ ∈ (t.tx.get p).queue) ∧
  (∀ (s : State) (dt : Nat) (p : Fin 16) (r : TunnelOp), let u := s.elapse dt
    u.isIn p = false → u.fld F.IXL_PORT_STATUS_state p = 4 → (16 ≤ (u.port p).tunnels.length ∨ (u.port p).held ≠ []) →
    ∃ t, exec (.tunnelRequest dt p r) s = .next t ∧ (t.port p).tunnels = (u.port p).tunnels ∧
      (t.port p).held = (u.port p).held ++ [⟨0, tunnelReq r, 0, .firmware⟩]) ∧
  (∀ (s : State) (dt : Nat) (p : Fin 16) (r : TunnelOp), let u := s.elapse dt
    u.isIn p = true →
    ∃ t tag, exec (.tunnelRequest dt p r) s = .next t ∧
      (t.port p).tunnels = (u.port p).tunnels ++ [⟨tag, tunnelReq r, u.now, .firmware⟩] ∧
      t.out = .chainMsg (u.fwdPeer p) (.tunnel (BitVec.ofNat 4 p) tag (tunnelReq r).slot (tunnelReq r).bus (tunnelReq r).combined
        (tunnelReq r).addr (tunnelReq r).ccc (tunnelReq r).wdata (tunnelReq r).rlen) :: u.out) ∧
  (∀ (s : State) (dt : Nat) (p : Fin 16) (x : Tunnel) (l : List Tunnel), let u := s.elapse dt
    (u.port p).held = x :: l → (u.port p).tunnels.length < 16 →
    ∃ t tag, exec (.tunnelHeldStart dt p) s = .next t ∧ (∀ y ∈ (u.port p).tunnels, y.tag ≠ tag) ∧ (t.port p).held = l ∧
      (t.port p).tunnels = (u.port p).tunnels ++ [⟨tag, x.req, u.now, x.who⟩] ∧ ⟨7, 0x99, ctlBegin tag x.req⟩ ∈ (t.tx.get p).queue) ∧
  (∀ (s : State) (dt : Nat) (p : Fin 16) (tag : Byte) (x : Tunnel), let u := s.elapse dt
    (u.port p).tunnels.find? (fun y => y.tag == tag.toNat) = some x → x.began + 5000000 < u.now →
    ∃ t, exec (.tunnelTimeout dt p tag) s = .next t ∧
      (t.port p).tunnels = (u.port p).tunnels.filter (fun y => y.tag != tag.toNat))

/-- R55, R67, R78, R101, R103, R104, R105, R108, R415, R418: The launches of a port that are due share one TRIGGER block with the
port's trig_seq and become expected, or are counted while the port is not ACTIVE; a launch for a port that this device lends
reports its trig_seq to the one that asked; launches on a lent port are asked of its device. A start deadline that has passed
records a missed frame, of a triggered and of a free-running camera; a close timeout closes the open frame. An enabled schedule
starts at its first tick at least 1 ms ahead, each tick gives its cameras their launch times, a disabled one stops; a distributed
schedule starts at its apply time, and one with period 0 ends the group's. Each clause says that the command named, in a state u
(the state once its dt cycles have passed) that meets the conditions on the left of the last arrow, answers a next state with that
effect. -/
def Obligations.TriggersAndSchedules : Prop :=
  (∀ (s : State) (dt : Nat) (p : Fin 16) (l : BitVec 64), let u := s.elapse dt
    let due := u.dueAt p l.toNat
    let q := (u.port p).trigSeq
    u.triggersOn = true → u.isIn p = false → u.isOut p = false → l.toNat ≤ u.now → (∃ e ∈ due, e.2.l = l.toNat) →
    ∃ t, exec (.triggerLaunch dt p l) s = .next t ∧ (t.port p).trigSeq = (q + 1) % 16383 ∧
      (∀ e ∈ due, (t.cam e.1).launches = (u.cam e.1).launches.tail ∧
        (t.cam e.1).expect = (u.cam e.1).expect ++ [⟨q, e.2.s + u.startTimeout e.1⟩]) ∧
      (u.portState p = 4 → (t.tx.get p).queue = (u.tx.get p).queue ++
        [⟨1, 0x4B, slotMask (due.map (·.1)) + u.earlyOf p (due.foldl (fun m e => min m e.2.l) l.toNat) * 2 ^ 34 + q * 2 ^ 42⟩]) ∧
      (u.portState p ≠ 4 → t.tx = u.tx ∧
        t.regN .SYN_CNT_TRIG_NOLINK = satAdd 32 (u.regN .SYN_CNT_TRIG_NOLINK) due.length)) ∧
  (∀ (s : State) (dt : Nat) (p : Fin 16) (l : BitVec 64) (r : TrigReq), let u := s.elapse dt
    let q := (u.port p).trigSeq
    u.triggersOn = true → u.isIn p = false → u.isOut p = true → l.toNat ≤ u.now → u.chn.trigs = [r] → r.port = p →
    r.launch = l.toNat →
    ∃ t, exec (.triggerLaunch dt p l) s = .next t ∧ (t.port p).trigSeq = (q + 1) % 16383 ∧ t.chn.trigs = [] ∧
      .chainCtl r.from_ p (.trigger (BitVec.ofNat 32 r.slotMask) (BitVec.ofNat 14 q) r.inst) ∈ t.out ∧
      (u.portState p = 4 → (t.tx.get p).queue = (u.tx.get p).queue ++
        [⟨1, 0x4B, r.slotMask + u.earlyOf p r.launch * 2 ^ 34 + q * 2 ^ 42⟩])) ∧
  (∀ (s : State) (dt : Nat) (p : Fin 16) (l : BitVec 64), let u := s.elapse dt
    u.triggersOn = true → u.isIn p = true →
    ∃ t, exec (.triggerLaunch dt p l) s = .next t ∧
      ∀ n ∈ portCams p, ∀ x ∈ (u.cam n).launches.head?, x.l ≤ u.now + 1000000 →
        (t.cam n).launches = (u.cam n).launches.tail ∧ (t.cam n).asked = (u.cam n).asked ++ [x] ∧
        Out.chainMsg (u.fwdPeer p) (.trigger (BitVec.ofNat 4 p) (BitVec.ofNat 32 (2 ^ camSlot n)) x.l x.s false) ∈ t.out) ∧
  (∀ (s : State) (dt : Nat) (n : Fin 512) (x : Trig) (xs : List Trig), let u := s.elapse dt
    let q := u.regN .CAM_SEQ n
    u.stream n = 2 → u.flag F.CAM_CFG_free_run n = false → (u.cam n).expect = x :: xs → x.deadline < u.now →
    (u.frame n q).isFinal = true →
    ∃ t, exec (.missedFrameDeadline dt n) s = .next t ∧ t.regN .CAM_SEQ n = (q + 1) % 2 ^ 32 ∧ (t.frame n q).st = 4 ∧
      (t.frame n q).trigSeq = x.seq ∧ (t.cam n).expect = xs ∧
      t.regN .CAM_CNT_MISSED n = satAdd 32 (u.regN .CAM_CNT_MISSED n) 1) ∧
  (∀ (s : State) (dt : Nat) (n : Fin 512) (d : Nat), let u := s.elapse dt
    let q := u.regN .CAM_SEQ n
    u.stream n = 2 → u.flag F.CAM_CFG_free_run n = true → (u.cam n).freeRun = some d → d < u.now → (u.frame n q).isFinal = true →
    ∃ t, exec (.missedFrameDeadline dt n) s = .next t ∧ t.regN .CAM_SEQ n = (q + 1) % 2 ^ 32 ∧ (t.frame n q).st = 4 ∧
      (t.frame n q).trigSeq = 0x3FFF ∧ (t.cam n).freeRun = some (d + u.periodNs n + u.startTimeout n) ∧
      t.regN .CAM_CNT_MISSED n = satAdd 32 (u.regN .CAM_CNT_MISSED n) 1) ∧
  (∀ (s : State) (dt : Nat) (n : Fin 512) (q : Nat), let u := s.elapse dt
    (u.cam n).openSeq = some q → (u.frame n q).closeAt < u.now →
    ∃ t, exec (.closeTimeout dt n) s = .next t ∧ (t.frame n q).st = 2 ∧ (t.cam n).openSeq = none) ∧
  (∀ (s : State) (dt : Nat) (g : Fin 32), let u := s.elapse dt
    u.answers .SYN = true → u.owner (32 + g) ≠ 5 → u.flag F.SYN_SCHED_CTL_enable g = false → u.schedPeriodOk g = true →
    ∃ t, exec (.scheduleEnable dt g) s = .next t ∧ t.flag F.SYN_SCHED_CTL_enable g = true ∧
      (t.time.sched.get g).next =
        firstTick (u.pair .SYN_SCHED_BASE_LO .SYN_SCHED_BASE_HI g) (u.fld F.SYN_SCHED_PERIOD_period g) u.now) ∧
  (∀ (s : State) (dt : Nat) (g : Fin 32), let u := s.elapse dt
    u.answers .SYN = true → u.owner (32 + g) ≠ 5 →
    ∃ t, exec (.scheduleDisable dt g) s = .next t ∧ t.flag F.SYN_SCHED_CTL_enable g = false) ∧
  (∀ (s : State) (dt : Nat) (g : Fin 32) (k : Nat), let u := s.elapse dt
    k = (u.time.sched.get g).next → u.flag F.SYN_SCHED_CTL_enable g = true →
    u.pair .SYN_SCHED_BASE_LO .SYN_SCHED_BASE_HI g + k * u.fld F.SYN_SCHED_PERIOD_period g ≤ u.now + 1000000 →
    u.triggersOn = true →
    ∃ t, exec (.scheduleTick dt g) s = .next t ∧ (t.time.sched.get g).next = k + 1 ∧
      ∀ n ∈ u.tickCams g k, (t.cam n).launches = (u.cam n).launches ++
        (if u.jumped (u.launchTime n (u.instantOf n k)) = true then [] else [⟨u.launchTime n (u.instantOf n k), u.instantOf n k⟩])) ∧
  (∀ (s : State) (dt : Nat) (g : Fin 32) (a b : Nat) (per : Nat), let u := s.elapse dt
    (u.time.sched.get g).apply = some (a, b, per) → a ≤ u.now → u.flag F.SYN_SCHED_CTL_enable g = false →
    1000000 ≤ per → per ≤ 1000000000 → b < 2 ^ 64 →
    ∃ t, exec (.scheduleApplyTime dt g) s = .next t ∧ (t.time.sched.get g).apply = none ∧
      t.flag F.SYN_SCHED_CTL_enable g = true ∧ t.fld F.SYN_SCHED_PERIOD_period g = per ∧
      t.pair .SYN_SCHED_BASE_LO .SYN_SCHED_BASE_HI g = b) ∧
  (∀ (s : State) (dt : Nat) (g : Fin 32) (a b : Nat), let u := s.elapse dt
    (u.time.sched.get g).apply = some (a, b, 0) → a ≤ u.now →
    ∃ t, exec (.scheduleApplyTime dt g) s = .next t ∧ (t.time.sched.get g).apply = none ∧
      t.flag F.SYN_SCHED_CTL_enable g = false ∧ t.fld F.PIN_OWN_holder (32 + g) = 0)

/-- R93, R94, R95, R96, R98, R101: Selecting PTM at chain position 0 leads to ACQUIRE, and selecting none to FREE at rate 0; a
dialogue is begun at its time, or fails where PTM is not enabled; completed within its time, with the offset e in 1/16 ns, it
corrects the rate, or slews back an offset below the step limit, or steps device time by one above it (the first good one by any).
The rounding of e to whole ns is the model's choice (log 149). A failed measurement is counted, and the fourth in LOCKED leads to
HOLDOVER at the held rate; a slew that has ended returns to the held rate. Each clause says that the command named, in a state u
(the state once its dt cycles have passed) that meets the conditions on the left of the last arrow, answers a next state with that
effect. -/
def Obligations.TimeSources : Prop :=
  (∀ (s : State) (dt : Nat) (v : Word), let u := s.elapse dt
    u.answers .SYN = true → u.fld F.CHN_STATUS_pos = 0 → getBits v.toNat 0 2 = 1 → u.source ≠ 1 →
    ∃ t, exec (.sourceSelect dt v) s = .next t ∧ t.fld F.SYN_CFG_source = 1 ∧ t.source = 1 ∧ t.fld F.SYN_STATUS_state = 1) ∧
  (∀ (s : State) (dt : Nat) (v : Word), let u := s.elapse dt
    u.answers .SYN = true → u.fld F.CHN_STATUS_pos = 0 → getBits v.toNat 0 2 = 0 → u.source ≠ 0 →
    ∃ t, exec (.sourceSelect dt v) s = .next t ∧ t.fld F.SYN_CFG_source = 0 ∧ t.source = 0 ∧ t.fld F.SYN_STATUS_state = 0 ∧
      t.regN .SYN_RATE_ADJ = 0) ∧
  (∀ (s : State) (dt : Nat), let u := s.elapse dt
    u.source = 1 → u.time.ptm = none → u.time.ptmNext ≤ u.now →
    ∃ t, exec (.ptmDialogueStart dt) s = .next t ∧ t.time.ptmNext = u.now + u.ptmNs ∧
      (u.time.ptmOn = true → t.time.ptm = some u.now ∧ t.out = .ptmRequest :: u.out) ∧
      (u.time.ptmOn = false → t.time.ptm = none ∧ t.time.failRun = u.time.failRun + 1)) ∧
  (∀ (s : State) (dt : Nat) (m : PtmMaster) (l : PtmLocal) (b : Nat) (e : Int), let u := s.elapse dt
    u.time.ptm = some b → u.now ≤ b + u.ptmNs → (u.time.firstDone = true ∨ u.timeIdle = false) →
    e = 8 * (ptmMaster2 m l + 2 * toSigned 64 (u.pair .SYN_PTM_OFFSET_LO .SYN_PTM_OFFSET_HI) - 2 * (l.t1.toNat : Int)) →
    e ≤ max 1 (u.fld F.SYN_CFG_step_us) * 1000 * 16 → -(max 1 (u.fld F.SYN_CFG_step_us) * 1000 * 16 : Int) ≤ e →
    ∃ t, exec (.ptmDialogueComplete dt m l) s = .next t ∧ t.time.ptm = none ∧ t.time.failRun = 0 ∧
      t.regN .SYN_OFFSET_LAST = sat32 (rneDiv e 16) ∧ t.time.heldF = newHeld u.time.heldF e u.measInterval ∧
      t.regN .SYN_RATE_ADJ = ofSigned 32 (newRate (newHeld u.time.heldF e u.measInterval) e u.measInterval)) ∧
  (∀ (s : State) (dt : Nat) (m : PtmMaster) (l : PtmLocal) (b : Nat) (e : Int), let u := s.elapse dt
    u.time.ptm = some b → u.now ≤ b + u.ptmNs → (u.time.firstDone = true ∨ u.timeIdle = false) →
    e = 8 * (ptmMaster2 m l + 2 * toSigned 64 (u.pair .SYN_PTM_OFFSET_LO .SYN_PTM_OFFSET_HI) - 2 * (l.t1.toNat : Int)) →
    e < -(max 1 (u.fld F.SYN_CFG_step_us) * 1000 * 16 : Int) →
    ∃ t, exec (.ptmDialogueComplete dt m l) s = .next t ∧ t.time.ptm = none ∧ t.now = u.now ∧ t.time.heldF = u.time.heldF ∧
      t.regN .SYN_RATE_ADJ = ofSigned 32 (-500000) ∧ t.time.slewEnd = some (u.time.tclk + (-e).toNat * 125)) ∧
  (∀ (s : State) (dt : Nat) (m : PtmMaster) (l : PtmLocal) (b : Nat) (e : Int), let u := s.elapse dt
    u.time.ptm = some b → u.now ≤ b + u.ptmNs →
    e = 8 * (ptmMaster2 m l + 2 * toSigned 64 (u.pair .SYN_PTM_OFFSET_LO .SYN_PTM_OFFSET_HI) - 2 * (l.t1.toNat : Int)) →
    (max 1 (u.fld F.SYN_CFG_step_us) * 1000 * 16 < e ∨ (u.time.firstDone = false ∧ u.timeIdle = true ∧ rneDiv e 16 ≠ 0)) →
    ∃ t, exec (.ptmDialogueComplete dt m l) s = .next t ∧ t.time.ptm = none ∧ t.now = addI u.now (rneDiv e 16) ∧
      t.time.heldF = u.time.heldF ∧ t.time.firstDone = true ∧ t.regN .SYN_LAST_STEP_NS = sat32 (rneDiv e 16) ∧
      t.fld F.SYN_STATUS_stepped = 1) ∧
  (∀ (s : State) (dt : Nat) (b : Nat), let u := s.elapse dt
    u.time.ptm = some b → b + u.ptmNs < u.now →
    ∃ t, exec (.measurementFail dt) s = .next t ∧ t.time.ptm = none ∧ t.time.goodRun = 0 ∧ t.time.failRun = u.time.failRun + 1 ∧
      t.regN .SYN_CNT_MEAS_FAIL = satAdd 32 (u.regN .SYN_CNT_MEAS_FAIL) 1 ∧
      (u.fld F.SYN_STATUS_state = 2 → 3 ≤ u.time.failRun →
        t.fld F.SYN_STATUS_state = 3 ∧ t.regN .SYN_RATE_ADJ = ofSigned 32 u.time.heldF)) ∧
  (∀ (s : State) (dt : Nat) (c : Nat), let u := s.elapse dt
    u.time.slewEnd = some c → c ≤ u.time.tclk →
    ∃ t, exec (.slewEnd dt) s = .next t ∧ t.time.slewEnd = none ∧ t.regN .SYN_RATE_ADJ = ofSigned 32 u.time.heldF ∧ t.now = u.now)

/-- R97, R99, R100: A hard set is taken when the source is FREE and streams and schedules are idle, and refused otherwise; sync
symbols are sent at their times, and received ones measured and passed on with the delay added: a symbol without eight delay
measurements is a failed measurement, one with eight gives a measurement; a missing symbol is a failed one. Each clause says that
the command named, in a state u (the state once its dt cycles have passed) that meets the conditions on the left of the last
arrow, answers a next state with that effect. -/
def Obligations.HardSetAndSyncSymbols : Prop :=
  (∀ (s : State) (dt : Nat), let u := s.elapse dt
    u.answers .SYN = true → u.source = 0 → u.timeIdle = true →
    ∃ t, exec (.hardSet dt) s = .next t ∧ t.now = u.pair .SYN_SET_LO .SYN_SET_HI ∧ t.fld F.SYN_STATUS_stepped = 1) ∧
  (∀ (s : State) (dt : Nat), let u := s.elapse dt
    u.answers .SYN = true → (u.source ≠ 0 ∨ u.timeIdle = false) →
    ∃ t, exec (.hardSet dt) s = .next t ∧ t.now = u.now ∧ t.fld F.SYN_STATUS_set_refused = 1) ∧
  (∀ (s : State) (dt : Nat), let u := s.elapse dt
    (u.pos = 0 ∨ (u.source = 2 ∧ u.inHoldover = true ∧ u.time.ownSym = true)) → u.portState 17 = 4 → u.time.emitNext ≤ u.now →
    ∃ t, exec (.syncSymbolEmit dt) s = .next t ∧ t.out = .syncSymbol (u.time.emitNext / 1024) u.inHoldover 0 (u.earlyOf 17 u.time.emitNext) u.pos :: u.out ∧
      t.time.emitNext = u.time.emitNext + 1024) ∧
  (∀ (s : State) (dt : Nat) (time : BitVec 54) (acc : BitVec 20) (early : Byte) (held : Bool), let u := s.elapse dt
    let d := u.fld F.CHN_CABLE_delay
    u.source = 2 → u.portState 16 = 4 → u.chn.meas.length < 8 →
    ∃ t, exec (.syncSymbolReceived dt time acc early held) s = .next t ∧ t.time.lastSym = u.now ∧
      t.time.failRun = u.time.failRun + 1 ∧
      (u.portState 17 = 4 → Out.syncSymbol time.toNat (held || u.inHoldover) (acc.toNat + d + 384)
        (u.earlyAt 17 (100 * (u.now : Int) + 2400 - ((early.toNat * 25 / 2 : Nat) : Int))) u.pos ∈ t.out)) ∧
  (∀ (s : State) (dt : Nat) (time : BitVec 54) (acc : BitVec 20) (early : Byte) (held : Bool), let u := s.elapse dt
    let d := u.fld F.CHN_CABLE_delay
    u.source = 2 → u.portState 16 = 4 → 8 ≤ u.chn.meas.length →
    ∃ t, exec (.syncSymbolReceived dt time acc early held) s = .next t ∧ t.time.firstDone = true ∧ t.time.failRun = 0 ∧
      t.regN .SYN_OFFSET_LAST = sat32 (rneDiv ((16384 * time.toNat + acc.toNat + d : Nat) - ((u.now16 : Int) - 2 * early.toNat)) 16) ∧
      (u.portState 17 = 4 → Out.syncSymbol time.toNat (held || u.inHoldover) (acc.toNat + d + 384)
        (u.earlyAt 17 (100 * (u.now : Int) + 2400 - ((early.toNat * 25 / 2 : Nat) : Int))) u.pos ∈ t.out)) ∧
  (∀ (s : State) (dt : Nat), let u := s.elapse dt
    u.source = 2 → u.time.lastSym + 1024 < u.now →
    ∃ t, exec (.syncSymbolMissing dt) s = .next t ∧ t.time.lastSym = u.now ∧ t.time.failRun = u.time.failRun + 1 ∧
      t.regN .SYN_CNT_MEAS_FAIL = satAdd 32 (u.regN .SYN_CNT_MEAS_FAIL) 1)

/-- R101, R110, R111: A pulse train is armed with its width and its first edge at least 1 µs ahead; each edge raises a granted pin,
leaves another as it is, and moves the train on; a pulse ends, and that of a single pulse clears enable; a TIME_SNAP edge queues
its time, or is dropped and counted while 16 wait or within 10 ns of the last; a read takes the oldest. Each clause says that the
command named, in a state u (the state once its dt cycles have passed) that meets the conditions on the left of the last arrow,
answers a next state with that effect. -/
def Obligations.TimePins : Prop :=
  (∀ (s : State) (dt : Nat) (i : Fin 4) (v : Word), let u := s.elapse dt
    u.answers .SYN = true → u.flag F.SYN_OUT_CTL_enable i = false →
    ∃ t, exec (.syncOutEnable dt i v) s = .next t ∧ t.flag F.SYN_OUT_CTL_enable i = true ∧
      t.fld F.SYN_OUT_CTL_width i = getBits v.toNat 0 16 ∧
      (u.fld F.SYN_OUT_PERIOD_period i = 0 → (t.time.outs.get i).next =
        if u.now + 1000 ≤ u.pair .SYN_OUT_T_LO .SYN_OUT_T_HI i then 0 else 1) ∧
      (u.fld F.SYN_OUT_PERIOD_period i ≠ 0 → (t.time.outs.get i).next =
        ceilDiv (u.now + 1000 - u.pair .SYN_OUT_T_LO .SYN_OUT_T_HI i) (u.fld F.SYN_OUT_PERIOD_period i))) ∧
  (∀ (s : State) (dt : Nat) (i : Fin 4), let u := s.elapse dt
    let j := (u.time.outs.get i).next
    u.flag F.SYN_OUT_CTL_enable i = true → u.edgeTime i j ≤ u.now → (u.fld F.SYN_OUT_PERIOD_period i = 0 → j = 0) →
    (u.time.jump.all fun x => !(decide (x.1 < u.edgeTime i j) && decide (u.edgeTime i j ≤ x.2))) = true →
    ∃ t, exec (.syncOutEdge dt i) s = .next t ∧ (t.time.outs.get i).next = j + 1 ∧
      (u.syncGranted i = true → t.out = .syncOut i true :: u.out ∧ (t.time.outs.get i).level = true ∧
        (t.time.outs.get i).fallAt = u.edgeTime i j + u.pulseWidth i) ∧
      (u.syncGranted i = false → t.out = u.out ∧ (t.time.outs.get i).level = (u.time.outs.get i).level)) ∧
  (∀ (s : State) (dt : Nat) (i : Fin 4), let u := s.elapse dt
    (u.time.outs.get i).pulse = true → (u.time.outs.get i).fallAt ≤ u.now →
    ∃ t, exec (.syncOutPulseEnd dt i) s = .next t ∧ (t.time.outs.get i).level = false ∧ (t.time.outs.get i).pulse = false ∧
      ((u.time.outs.get i).level = true → t.out = .syncOut i false :: u.out) ∧
      (u.fld F.SYN_OUT_PERIOD_period i = 0 → t.flag F.SYN_OUT_CTL_enable i = false)) ∧
  (∀ (s : State) (dt : Nat), let u := s.elapse dt
    (∀ e, u.time.lastEdge = some e → e + 10 ≤ u.now) → u.time.snaps.length < 16 →
    ∃ t, exec (.timeSnapEdge dt) s = .next t ∧ t.time.snaps = u.time.snaps ++ [u.now] ∧ t.time.lastEdge = some u.now) ∧
  (∀ (s : State) (dt : Nat), let u := s.elapse dt
    (16 ≤ u.time.snaps.length ∨ (u.time.lastEdge.any fun e => decide (u.now < e + 10)) = true) →
    ∃ t, exec (.timeSnapEdge dt) s = .next t ∧ t.time.snaps = u.time.snaps ∧
      t.fld F.SYN_SNAP_STATUS_dropped = satAdd 16 (u.fld F.SYN_SNAP_STATUS_dropped) 1) ∧
  (∀ (s : State) (dt : Nat) (f : Fin 9) (x : Nat) (xs : List Nat), let u := s.elapse dt
    u.answers .SYN = true → u.time.snaps = x :: xs →
    ∃ t, exec (.snapRead dt f) s = .next t ∧ t.out = .readData f (BitVec.ofNat 32 x) :: u.out ∧ t.time.snaps = xs ∧
      lookupD t.rdShadow (f.val, .SYN_SNAP_HI, 0) 0 = BitVec.ofNat 32 (x / 2 ^ 32))

/-- R6, R7, R9, R18, R19, R69: A 32-bit write of a register with no effect of its own changes its fields by their access types, and no
other register, no byte of memory; a 32-bit read of a pair's low half latches its high half; a write of its low half is held until
the high half is written, and both then take effect; an alias write reaches the cameras of its group and no other; a legal
boundary word repartitions the stage groups, and an illegal one is refused. Each clause says that the command named, in a state u
(the state once its dt cycles have passed) that meets the conditions on the left of the last arrow, answers a next state with that
effect. -/
def Obligations.RegisterAccesses : Prop :=
  (∀ (s : State) (dt : Nat) (f : Fin 9) (a : Word) (v : BitVec 64) (r : RegName) (i : Nat), let u := s.elapse dt
    regAt f a.toNat = some (r, i) → r.info.half = .single → u.answers r.info.block = true → u.plainAt r i v.toNat →
    ∃ t, exec (.registerWrite dt f a 4 v) s = .next t ∧
      t.regN r i = u.writtenValue r i v.toNat % 2 ^ 32 ∧
      (∀ r' i', (r', i') ≠ (r, i) → t.reg r' i' = u.reg r' i') ∧ t.mem = u.mem ∧ t.out = u.out) ∧
  (∀ (s : State) (dt : Nat) (f : Fin 9) (a : Word) (r : RegName) (i : Nat), let u := s.elapse dt
    regAt f a.toNat = some (r, i) → r.info.half = .low → u.answers r.info.block = true → rxChannel r = none →
    r ≠ .SYN_SNAP_LO → r ≠ .SYN_TIME_LO →
    ∃ t, exec (.pairLowRead dt f ⟨a, 4⟩) s = .next t ∧ t.out = .readData f (BitVec.ofNat 32 (u.live r i)) :: u.out ∧
      lookupD t.rdShadow (f.val, r.high, i) 0 = BitVec.ofNat 32 (u.live r.high i) ∧ t.regs = u.regs) ∧
  (∀ (s : State) (dt : Nat) (f : Fin 9) (a v : Word) (r : RegName) (i : Nat), let u := s.elapse dt
    regAt f a.toNat = some (r, i) → r.info.half = .low → u.answers r.info.block = true → r.writable = true →
    ∃ t, exec (.pairLowWrite dt f a v) s = .next t ∧ lookupD t.wrShadow (f.val, r, i) 0 = v ∧ t.regs = u.regs) ∧
  (∀ (s : State) (dt : Nat) (f : Fin 9) (a v : Word) (r : RegName) (i : Nat), let u := s.elapse dt
    let lo := lookupD u.wrShadow (f.val, r.low, i) (u.reg r.low i)
    regAt f a.toNat = some (r, i) → r.info.half = .high → u.answers r.info.block = true → r.writable = true → r.low ≠ r →
    u.plainAt r.low i lo.toNat → u.plainAt r i v.toNat →
    ∃ t, exec (.pairHighWrite dt f a v) s = .next t ∧
      t.regN r.low i = u.writtenValue r.low i lo.toNat % 2 ^ 32 ∧ t.regN r i = u.writtenValue r i v.toNat % 2 ^ 32) ∧
  (∀ (s : State) (dt : Nat) (a v : Word) (g : Option Nat) (off d : Nat) (r : RegName) (n : Fin 512), let u := s.elapse dt
    let k := n * r.info.sub + d
    aliasAt a.toNat = some (g, off) → a.toNat % 4 = 0 → u.answers .CAM = true → regIn .CAM 0 off = some (r, d) → r.info.half = .single →
    (∀ m, m < 512 → u.plainAt r (m * r.info.sub + d) v.toNat) →
    ∃ t, exec (.aliasWrite dt 0 a v) s = .next t ∧
      (n.val ∈ u.aliasCams g → t.regN r k = u.writtenValue r k v.toNat % 2 ^ 32) ∧
      (n.val ∉ u.aliasCams g → t.reg r k = u.reg r k) ∧ (∀ r' i', r' ≠ r → t.reg r' i' = u.reg r' i')) ∧
  (∀ (s : State) (dt : Nat) (v : Word), let u := s.elapse dt
    u.answers .GLB = true → v.toNat % 65536 ≠ 0 → (u.changedCores (v.toNat % 65536)).any u.coreTied = false →
    ∃ t, exec (.sgBoundaryWrite dt v) s = .next t ∧ t.regN .GLB_SG_BOUNDARY = v.toNat % 65536) ∧
  (∀ (s : State) (dt : Nat) (v : Word), let u := s.elapse dt
    u.answers .GLB = true → (v.toNat % 65536 = 0 ∨ (u.changedCores (v.toNat % 65536)).any u.coreTied = true) →
    ∃ t, exec (.sgBoundaryWrite dt v) s = .next t ∧ t.regN .GLB_SG_BOUNDARY = u.regN .GLB_SG_BOUNDARY ∧
      t.fld F.GLB_SG_STATUS_refused = 1)

/-- R114, R126, R128, R129, R136, R157, R282: An exposure word is staged, and white balance gains are written, or ignored and marked
while the loop holds them; each loop stages its result once, and drops a record that it may not use; a parameter copy is selected;
output credits return slots up to the ring's count; the regulator takes its rate and depth, its tokens being held to the new
depth. Each clause says that the command named, in a state u (the state once its dt cycles have passed) that meets the conditions
on the left of the last arrow, answers a next state with that effect. -/
def Obligations.CameraSettings : Prop :=
  (∀ (s : State) (dt : Nat) (n : Fin 512) (v : Word), let u := s.elapse dt
    u.answers .CAM = true → u.loopOn n 8 = false →
    ∃ t, exec (.expoStage dt n v) s = .next t ∧ t.regN .CAM_EXPO_NEXT0 n = v.toNat ∧
      (t.cam n).staged = some { e0 := v.toNat, e1 := u.regN .CAM_EXPO_NEXT1 n, e2 := u.regN .CAM_EXPO_NEXT2 n }) ∧
  (∀ (s : State) (dt : Nat) (n : Fin 512) (v : Word), let u := s.elapse dt
    u.answers .CAM = true → u.loopOn n 8 = true →
    ∃ t, exec (.expoStage dt n v) s = .next t ∧ t.regN .CAM_EXPO_NEXT0 n = u.regN .CAM_EXPO_NEXT0 n ∧
      t.fld F.CAM_EXPO_STATUS_host_ignored n = 1 ∧ t.cam n = u.cam n) ∧
  (∀ (s : State) (dt : Nat) (n : Fin 512) (v : Word), let u := s.elapse dt
    u.answers .CAM = true → u.loopOn n 9 = false →
    ∃ t, exec (.wbGainWrite dt n v) s = .next t ∧ t.regN .CAM_WB_GAIN n = v.toNat % 2 ^ 30) ∧
  (∀ (s : State) (dt : Nat) (n : Fin 512) (v : Word), let u := s.elapse dt
    u.answers .CAM = true → u.loopOn n 9 = true →
    ∃ t, exec (.wbGainWrite dt n v) s = .next t ∧ t.regN .CAM_WB_GAIN n = u.regN .CAM_WB_GAIN n ∧
      t.fld F.CAM_EXPO_STATUS_host_ignored n = 1) ∧
  (∀ (s : State) (dt : Nat) (n : Fin 512) (q : Nat) (x : ExpoSet), let u := s.elapse dt
    (u.cam n).aeDue = some q → u.loopOn n 8 = true → u.regN .CAM_EXPO_TARGET n ≤ q → (u.frame n q).seq = q →
    u.statsUsable n q = true → u.aeStep n q = some x →
    ∃ t, exec (.aeLoopStep dt n) s = .next t ∧ (t.cam n).aeDue = none ∧ (t.cam n).staged = some x ∧
      t.regN .CAM_EXPO_NEXT0 n = x.e0 % 2 ^ 32 ∧ t.regN .CAM_EXPO_NEXT1 n = x.e1 % 2 ^ 32 ∧ t.regN .CAM_EXPO_NEXT2 n = x.e2 % 2 ^ 32 ∧
      t.regN .CAM_CNT_AE_UPDATE n = satAdd 32 (u.regN .CAM_CNT_AE_UPDATE n) 1) ∧
  (∀ (s : State) (dt : Nat) (n : Fin 512) (q : Nat), let u := s.elapse dt
    (u.cam n).aeDue = some q → (u.loopOn n 8 = false ∨ q < u.regN .CAM_EXPO_TARGET n ∨ u.statsUsable n q = false ∨ u.aeStep n q = none) →
    ∃ t, exec (.aeLoopStep dt n) s = .next t ∧ (t.cam n).aeDue = none ∧ (t.cam n).staged = (u.cam n).staged ∧ t.regs = u.regs) ∧
  (∀ (s : State) (dt : Nat) (n : Fin 512) (q v : Nat), let u := s.elapse dt
    (u.cam n).awbDue = some q → u.loopOn n 9 = true → (u.frame n q).seq = q → u.statsUsable n q = true → u.awbStep n q = some v →
    ∃ t, exec (.awbLoopStep dt n) s = .next t ∧ (t.cam n).awbDue = none ∧ t.regN .CAM_WB_GAIN n = v % 2 ^ 32 ∧ t.cam n = { u.cam n with awbDue := none }) ∧
  (∀ (s : State) (dt : Nat) (n : Fin 512) (v : Word), let u := s.elapse dt
    u.answers .CAM = true →
    ∃ t, exec (.ppbSelect dt n v) s = .next t ∧ t.fld F.CAM_PPB_SEL_copy n = getBits v.toNat 0 1) ∧
  (∀ (s : State) (dt : Nat) (n : Fin 512) (v : Word), let u := s.elapse dt
    u.answers .CAM = true →
    ∃ t, exec (.outCredit dt n v) s = .next t ∧ t.fld F.CAM_OUT_STATUS_free n =
      min (u.fld F.CAM_OUT_STATUS_free n + getBits v.toNat 0 8) (u.fld F.CAM_OUT_RING_count n)) ∧
  (∀ (s : State) (dt : Nat) (i : Fin 16) (v : Word), let u := s.elapse dt
    u.answers .LC = true →
    ∃ t, exec (.dmaRegulatorWrite dt i v) s = .next t ∧ t.fld F.LC_DMA_REG_rate i = getBits v.toNat 0 12 ∧
      t.fld F.LC_DMA_REG_depth i = getBits v.toNat 24 8 ∧ (t.core i).tau = min (u.tokens i) (t.dmaDepth i))

/-- R437, R438, R462, R463: PERST# keeps device time and the fatal record, forgets device memory and holds the block; a Hot Reset
starts it up again; PORST# and a rail dip restart device time at 0; start-up begins at the deassertion of PORST# with the position
sampled, or at that of PERST# with the position kept. Each clause says that the command named, in a state u (the state once its dt
cycles have passed) that meets the conditions on the left of the last arrow, answers a next state with that effect. -/
def Obligations.DeviceResets : Prop :=
  (∀ (s : State) (dt : Nat), let u := s.elapse dt
    u.boot.porst = true → u.boot.perst = true →
    ∃ t, exec (.perstAssert dt) s = .next t ∧ t.boot.perst = false ∧ t.boot.starting = false ∧ t.mem = [] ∧ t.now = u.now ∧
      t.fld F.GLB_RESET_CAUSE_cause = 1 ∧ t.fld F.GLB_RESET_CAUSE_count = satAdd 8 (u.fld F.GLB_RESET_CAUSE_count) 1 ∧
      t.regN .ERR_FATAL = u.regN .ERR_FATAL ∧ t.fld F.SFL_STATUS_trip = u.fld F.SFL_STATUS_trip) ∧
  (∀ (s : State) (dt : Nat), let u := s.elapse dt
    u.boot.porst = true → u.boot.perst = true →
    ∃ t, exec (.hotReset dt) s = .next t ∧ t.boot.starting = true ∧ t.mem = [] ∧ t.now = u.now ∧
      t.fld F.GLB_RESET_CAUSE_cause = 2) ∧
  (∀ (s : State) (dt : Nat), let u := s.elapse dt
    u.boot.porst = true →
    ∃ t, exec (.porstAssert dt) s = .next t ∧ t.boot.porst = false ∧ t.boot.starting = false ∧ t.mem = [] ∧ t.now = 0 ∧
      t.fld F.GLB_RESET_CAUSE_cause = 0 ∧ t.fld F.GLB_RESET_CAUSE_count = 0) ∧
  (∀ (s : State) (dt : Nat), let u := s.elapse dt
    u.boot.porst = true → u.boot.perst = true →
    ∃ t, exec (.railDip dt) s = .next t ∧ t.boot.starting = true ∧ t.mem = [] ∧ t.now = 0 ∧ t.fld F.GLB_RESET_CAUSE_cause = 0) ∧
  (∀ (s : State) (dt : Nat) (pos : BitVec 3), let u := s.elapse dt
    u.boot.porst = false →
    ∃ t, exec (.startupBegin dt pos) s = .next t ∧ t.boot.porst = true ∧ t.boot.perst = true ∧ t.boot.starting = true ∧
      t.boot.pos = pos.toNat ∧ t.fld F.CHN_STATUS_pos = pos.toNat ∧ t.boot.tap = 0) ∧
  (∀ (s : State) (dt : Nat) (pos : BitVec 3), let u := s.elapse dt
    u.boot.porst = true → u.boot.perst = false → u.boot.pos < 8 →
    ∃ t, exec (.startupBegin dt pos) s = .next t ∧ t.boot.perst = true ∧ t.boot.starting = true ∧
      t.fld F.CHN_STATUS_pos = u.boot.pos)

/-- R365, R468, R469, R471: Each stage follows the one before: clocks, image, training, memory initialisation, units, READY; and a
stage that fails stops start-up with its own code and the fatal state: clocks 1, no image 2, a record 3, training 4,
initialisation 5, fuses 6, a control processor 7. Which image the boot ROM takes is what bootSlot answers from Config's signature
functions. Each clause says that the command named, in a state u (the state once its dt cycles have passed) that meets the
conditions on the left of the last arrow, answers a next state with that effect. -/
def Obligations.StartUpStages : Prop :=
  (∀ (s : State) (dt : Nat), let u := s.elapse dt
    u.atStage 0 = true →
    ∃ t, exec (.clocksLocked dt) s = .next t ∧ t.fld F.GLB_BOOT_STATUS_stage = 1 ∧ t.time.running = true ∧
      t.regN .GLB_CLK_STATUS = 0x3F ∧ (u.boot.pos ≠ 0 → t.fld F.SYN_STATUS_source_in_force = 2)) ∧
  (∀ (s : State) (dt : Nat), let u := s.elapse dt
    u.atStage 0 = true →
    ∃ t, exec (.pllLockTimeout dt) s = .next t ∧ t.boot.starting = false ∧ t.fatal = true ∧
      t.fld F.GLB_BOOT_STATUS_fail = 1 ∧ t.fld F.GLB_BOOT_STATUS_stage = 0) ∧
  (∀ (s : State) (dt : Nat) (a b : FwImage), let u := s.elapse dt
    u.atStage 1 = true →
    ∃ t, exec (.imageAccepted dt a b true) s = .next t ∧
      (∀ slot x, u.bootSlot a b = some (slot, x) → slot < 2 → recordOk x.record = true →
        t.fld F.GLB_BOOT_STATUS_stage = 3 ∧ t.fld F.GLB_BOOT_STATUS_slot = slot ∧ t.sec.running = imageOf x ∧
        t.fld F.SFL_STATUS_proc = 1 ∧ t.boot.starting = true ∧ t.boot.acceptedAt = u.now) ∧
      (u.bootSlot a b = none → t.boot.starting = false ∧ t.fatal = true ∧ t.fld F.GLB_BOOT_STATUS_fail = 2 ∧
        t.fld F.GLB_BOOT_STATUS_stage = 2)) ∧
  (∀ (s : State) (dt : Nat) (a b : FwImage) (ok : Bool), let u := s.elapse dt
    u.atStage 1 = true →
    ∃ t, exec (.imageAccepted dt a b ok) s = .next t ∧
      ∀ slot x, u.bootSlot a b = some (slot, x) → (ok = false ∨ recordOk x.record = false) →
        t.boot.starting = false ∧ t.fatal = true ∧ t.fld F.GLB_BOOT_STATUS_stage = 3 ∧
        t.fld F.GLB_BOOT_STATUS_fail = if ok = false then 6 else 3) ∧
  (∀ (s : State) (dt : Nat) (cp : Fin 4), let u := s.elapse dt
    u.atStage 3 = true → u.boot.acceptedAt + 5000000 < u.now →
    ∃ t, exec (.cpStartTimeout dt cp) s = .next t ∧ t.boot.starting = false ∧ t.fatal = true ∧
      t.fld F.GLB_BOOT_STATUS_fail = 7) ∧
  (∀ (s : State) (dt : Nat), let u := s.elapse dt
    u.atStage 3 = true →
    ∃ t, exec (.memTrainingDone dt 0) s = .next t ∧ t.fld F.GLB_BOOT_STATUS_stage = 5 ∧ t.fld F.MEM_STATUS_trained = 255 ∧
      t.boot.starting = true) ∧
  (∀ (s : State) (dt : Nat) (failed : Byte), let u := s.elapse dt
    u.atStage 3 = true → failed ≠ 0 →
    ∃ t, exec (.memTrainingDone dt failed) s = .next t ∧ t.fld F.GLB_BOOT_STATUS_stage = 4 ∧
      t.fld F.MEM_STATUS_trained = 255 - failed.toNat ∧ t.fld F.MEM_STATUS_train_fail = failed.toNat ∧
      t.fld F.GLB_BOOT_STATUS_fail = 4 ∧ t.fatal = true) ∧
  (∀ (s : State) (dt : Nat), let u := s.elapse dt
    u.atStage 5 = true →
    ∃ t, exec (.memInitDone dt none) s = .next t ∧ t.mem = [] ∧ t.fld F.MEM_STATUS_ready = 1 ∧ t.fld F.GLB_BOOT_STATUS_stage = 6) ∧
  (∀ (s : State) (dt : Nat) (c : Fin 8), let u := s.elapse dt
    u.atStage 5 = true →
    ∃ t, exec (.memInitDone dt (some c)) s = .next t ∧ t.boot.starting = false ∧ t.fatal = true ∧
      t.fld F.GLB_BOOT_STATUS_fail = 5 ∧ t.fld F.MEM_STATUS_ready = u.fld F.MEM_STATUS_ready) ∧
  (∀ (s : State) (dt : Nat), let u := s.elapse dt
    u.atStage 6 = true →
    ∃ t, exec (.startupReady dt) s = .next t ∧ t.fld F.GLB_BOOT_STATUS_stage = 7 ∧ t.boot.starting = false ∧
      t.fld F.FN_ID_state 0 = 1)

/-- R456, R459: An instruction of the test access port acts while PERST# is asserted and does nothing else; while Safelight is not
failed closed for its clock or supply, the SMBus reads answer the part, the start-up stage, the temperature, the power, the
governor and the fatal cause, Safelight's values being zero until its processor runs. Where P_avg is no multiple of 10 mW its
rounding is a free value (log 31). Each clause says that the command named, in a state u (the state once its dt cycles have
passed) that meets the conditions on the left of the last arrow, answers a next state with that effect. -/
def Obligations.TapAndSmbus : Prop :=
  (∀ (s : State) (dt : Nat), let u := s.elapse dt
    u.boot.perst = false →
    ∃ t, exec (.bypass dt) s = .next t ∧ t.boot.tap = 1 ∧ t.out = u.out) ∧
  (∀ (s : State) (dt : Nat), let u := s.elapse dt
    u.boot.perst = false →
    ∃ t, exec (.idcode dt) s = .next t ∧ t.boot.tap = 2 ∧ t.out = .tapOut (bitList u.idcode 32) :: u.out) ∧
  (∀ (s : State) (dt : Nat) (levels preload : List Bool), let u := s.elapse dt
    u.boot.perst = false →
    ∃ t, exec (.samplePreload dt levels preload) s = .next t ∧ t.boot.tap = 3 ∧ t.boot.cells = preload ∧
      t.out = .tapOut levels :: u.out) ∧
  (∀ (s : State) (dt : Nat), let u := s.elapse dt
    u.boot.perst = false →
    (∃ t, exec (.extest dt) s = .next t ∧ t.boot.tap = 4 ∧ t.out = .tapDrive 4 u.boot.cells :: u.out) ∧
    (∃ t, exec (.extestPulse dt) s = .next t ∧ t.boot.tap = 5 ∧ t.out = .tapDrive 5 u.boot.cells :: u.out) ∧
    (∃ t, exec (.extestTrain dt) s = .next t ∧ t.boot.tap = 6 ∧ t.out = .tapDrive 6 u.boot.cells :: u.out)) ∧
  (∀ (s : State) (dt : Nat) (levels preload : List Bool), let u := s.elapse dt
    u.boot.perst = true →
    exec (.bypass dt) s = .next u ∧ exec (.idcode dt) s = .next u ∧ exec (.samplePreload dt levels preload) s = .next u ∧
    exec (.extest dt) s = .next u ∧ exec (.extestPulse dt) s = .next u ∧ exec (.extestTrain dt) s = .next u) ∧
  (∀ (s : State) (dt : Nat), let u := s.elapse dt
    u.sfl.failClosed ≠ some 1 → u.sfl.failClosed ≠ some 2 →
    exec (.smbPartId dt) s = .next (u.emit (.smbus [0x20, 0x51])) ∧
    exec (.smbBootStatus dt) s = .next (u.emit (.smbus [(u.fld F.GLB_BOOT_STATUS_stage : Byte), (u.fld F.GLB_BOOT_STATUS_fail : Byte)])) ∧
    (u.fld F.SFL_STATUS_proc ≠ 0 → exec (.smbTemperature dt) s = .next (u.emit (.smbus (leBytes 2 (ofSigned 16 u.tj))))) ∧
    (u.fld F.SFL_STATUS_proc = 0 → exec (.smbTemperature dt) s = .next (u.emit (.smbus [0, 0]))) ∧
    (u.fld F.SFL_STATUS_proc = 0 → ∃ t, exec (.smbPower dt) s = .next t ∧ t.out = .smbus [0, 0] :: u.out) ∧
    (u.fld F.SFL_POWER_p_avg_mw % 10 = 0 → u.fld F.SFL_STATUS_proc ≠ 0 →
      exec (.smbPower dt) s = .next (u.emit (.smbus (leBytes 2 (min 65535 (u.fld F.SFL_POWER_p_avg_mw / 10)))))) ∧
    (u.fld F.SFL_POWER_p_avg_mw % 10 ≠ 0 → u.fld F.SFL_STATUS_proc ≠ 0 →
      ∃ t d, exec (.smbPower dt) s = .next t ∧ d ≤ 1 ∧
        t.out = .smbus (leBytes 2 (min 65535 (u.fld F.SFL_POWER_p_avg_mw / 10 + d))) :: u.out) ∧
    exec (.smbGovernor dt) s = .next (u.emit (.smbus (leBytes 1 (u.fld F.SFL_STATUS_trip * 128 + u.sflValue u.govG)))) ∧
    exec (.smbFatal dt) s = .next (u.emit (.smbus (leBytes 2 (u.fld F.ERR_FATAL_valid * 2 ^ 15 + u.fld F.ERR_FATAL_cause)))))

/-- R439, R440, R441: A started UNIT_RESET, with no other under way and no firmware switch begun, begins the reset of its unit: the
core drops its work and restores; the port starts a bring-up; the stage group drops its carried state, its shares and its
barriers, and its cores restore; the tenant is scrubbed with a reset. Each clause says that the command named, in a state u (the
state once its dt cycles have passed) that meets the conditions on the left of the last arrow, answers a next state with that
effect. -/
def Obligations.UnitResets : Prop :=
  (∀ (s : State) (dt : Nat) (r : CmdName) (k : Cmd), let u := s.elapse dt; let i := getBits (k.w 0) 8 8
    u.asked (cmdRef r) 0x0705 k → getBits (k.w 0) 0 4 = 1 → i < 16 → u.boot.unit = none → u.boot.sw.any (·.began.isSome) = false →
    ∃ t, exec (.unitResetCore dt r) s = .next t ∧ (t.core i).resetBy = some (cmdRef r) ∧ (t.core i).restoring = true ∧
      ((u.core i).restoring = false → (t.core i).bound = none ∧ (t.core i).rerun = (u.core i).bound)) ∧
  (∀ (s : State) (dt : Nat) (r : CmdName) (k : Cmd), let u := s.elapse dt; let p := getBits (k.w 0) 8 8
    u.asked (cmdRef r) 0x0705 k → getBits (k.w 0) 0 4 = 2 → p < 16 → u.boot.unit = none → u.boot.sw.any (·.began.isSome) = false →
    ∃ t, exec (.unitResetPort dt r) s = .next t ∧ t.portState p = 1 ∧ t.fld F.IXL_PORT_CFG_enable p = 1 ∧
      (t.port p).resetBy = some (cmdRef r) ∧ (t.port p).attempt = 1 ∧ t.fld F.IXL_PORT_STATUS_attempts p = 1) ∧
  (∀ (s : State) (dt : Nat) (r : CmdName) (k : Cmd), let u := s.elapse dt; let g := getBits (k.w 0) 8 8
    u.asked (cmdRef r) 0x0705 k → getBits (k.w 0) 0 4 = 3 → g < 16 → u.isFirst g = true → u.boot.unit = none → u.boot.sw.any (·.began.isSome) = false →
    ∃ t, exec (.unitResetStageGroup dt r) s = .next t ∧ (t.group g).resetBy = some (cmdRef r) ∧ (t.group g).carryInline = none ∧
      (t.group g).carryMem = none ∧ (t.group g).bars = [] ∧ (∀ e ∈ (t.group g).counters, e.2.shares = []) ∧
      (∀ i ∈ u.groupCores g, (t.core i).bound = none ∧ (t.core i).restoring = true)) ∧
  (∀ (s : State) (dt : Nat) (r : CmdName) (k : Cmd), let u := s.elapse dt; let n := getBits (k.w 0) 8 8
    u.asked (cmdRef r) 0x0705 k → getBits (k.w 0) 0 4 = 4 → n < 8 → u.boot.unit = none → u.boot.sw.any (·.began.isSome) = false →
    ∃ t y, exec (.unitResetTenant dt r) s = .next t ∧ t.sec.scrubs.get n = some y ∧ y.reset = true ∧ cmdRef r ∈ y.waiters)

/-- R9, R30, R433, R434, R435, R436: A release advances ERR_TAIL over unread entries only; ERR_FIRST is rearmed, but not by a write in
the cycle that captures; a loss of lock and an uncorrectable error of control memory are fatal with their causes, the loss
counted; a watchdog expiry is fatal only within 100 ms of another processor's. Each clause says that the command named, in a state
u (the state once its dt cycles have passed) that meets the conditions on the left of the last arrow, answers a next state with
that effect. -/
def Obligations.ErrorsAndFatalCauses : Prop :=
  (∀ (s : State) (dt : Nat) (v : Word), let u := s.elapse dt
    u.answers .ERR = true →
    ∃ t, exec (.errRelease dt v) s = .next t ∧
      t.regN .ERR_TAIL = (u.regN .ERR_TAIL + min (min (v.toNat % 2048) 1024) u.errUnread) % 2 ^ 32) ∧
  (∀ (s : State) (dt : Nat), let u := s.elapse dt
    u.answers .ERR = true →
    ∃ t, exec (.errFirstClear dt) s = .next t ∧
      (u.sameCycle .ERR_FIRST_CTL 0 = 0 → t.fld F.ERR_FIRST_CTL_valid = 0) ∧
      (u.sameCycle .ERR_FIRST_CTL 0 ≠ 0 → t.fld F.ERR_FIRST_CTL_valid = u.fld F.ERR_FIRST_CTL_valid)) ∧
  (∀ (s : State) (dt : Nat) (k : Fin 5), let u := s.elapse dt
    bit (u.regN .GLB_CLK_STATUS) k = true →
    ∃ t, exec (.clockLossOfLock dt k) s = .next t ∧ bit (t.regN .GLB_CLK_STATUS) k = false ∧ bit (t.regN .GLB_CLK_LOST) k = true ∧
      t.fatal = true ∧ t.fld F.ERR_FATAL_valid = 1 ∧ t.fld F.ERR_FATAL_cause = k.val + 1 ∧
      t.fld F.ERR_FATAL_count = satAdd 16 (u.fld F.ERR_FATAL_count) 1) ∧
  (∀ (s : State) (dt : Nat) (cp : Fin 4), let u := s.elapse dt
    u.cpRuns = true →
    ∃ t, exec (.controlMemoryError dt cp) s = .next t ∧ t.fatal = true ∧ t.fld F.ERR_FATAL_valid = 1 ∧ t.fld F.ERR_FATAL_cause = 6) ∧
  (∀ (s : State) (dt : Nat) (cp : Fin 4), let u := s.elapse dt
    u.cpRuns = true → (∀ i a, i < 4 → i ≠ cp.val → u.log.wdt.get i = some a → a + 100000000 < u.now) →
    ∃ t, exec (.cpWatchdogExpiry dt cp) s = .next t ∧ t.fatal = u.fatal ∧ t.log.wdt.get cp = some u.now) ∧
  (∀ (s : State) (dt : Nat) (cp : Fin 4) (i a : Nat), let u := s.elapse dt
    u.cpRuns = true → i < 4 → i ≠ cp.val → u.log.wdt.get i = some a → u.now ≤ a + 100000000 →
    ∃ t, exec (.cpWatchdogExpiry dt cp) s = .next t ∧ t.fatal = true ∧ t.fld F.ERR_FATAL_cause = 7)

/-- R286, R341, R470, R383: A reset of the physical function clears every function's pages and grants; one of a virtual function, or
the clearing of VF Enable, scrubs the tenants; a poisoned write is dropped with an AER error; an error completion faults the
transfer at its row, or fails the command; configuration requests are retried during start-up and then answered (the data being
Config's), bus mastering and PTM being enabled so. Each clause says that the command named, in a state u (the state once its dt
cycles have passed) that meets the conditions on the left of the last arrow, answers a next state with that effect. -/
def Obligations.PcieEvents : Prop :=
  (∀ (s : State) (dt : Nat),
    ∃ t, exec (.flrPf dt) s = .next t ∧ t.sfl.inbox = [] ∧ t.now = (s.elapse dt).now ∧
      ∀ f, (t.fn f).dev = [] ∧ (t.fn f).host = [] ∧ (t.fn f).grants = []) ∧
  (∀ (s : State) (dt : Nat) (k : Fin 8), let u := s.elapse dt
    ∃ t y, exec (.flrVf dt k) s = .next t ∧ t.sec.scrubs.get k = some y ∧
      (u.sec.scrubs.get k = none → t.fld F.FN_ID_state (k.val + 1) = 2)) ∧
  (∀ (s : State) (dt : Nat),
    ∃ t, exec (.vfEnableClear dt) s = .next t ∧ ∀ k : Fin 8, (t.sec.scrubs.get k).isSome = true) ∧
  (∀ (s : State) (dt : Nat) (f : Fin 9),
    ∃ t, exec (.poisonedTlpWrite dt f) s = .next t ∧ t.mem = (s.elapse dt).mem ∧ Out.aer f false ∈ t.out) ∧
  (∀ (s : State) (dt : Nat) (i q : Fin 16) (k : Byte) (row piece : Word) (x : Xfer), let u := s.elapse dt
    (u.dmaQ i q)[k.toNat]? = some x → x.d.srcSp = spHost → x.awaits row.toNat = true → x.faultAt = none →
    ∃ t y, exec (.hostErrorCompletion dt (.dma i q ⟨k, row, piece⟩)) s = .next t ∧ (t.dmaQ i q)[k.toNat]? = some y ∧
      y.faultAt = some u.now ∧ y.issued = row.toNat ∧ t.fld F.LC_DMAQ_STATUS_faulted (16 * i.val + q.val) = 1 ∧
      Out.aer (u.userFn i) false ∈ t.out) ∧
  (∀ (s : State) (dt : Nat) (r : CmdName) (k : Cmd), let u := s.elapse dt
    u.command (cmdRef r) = some k →
    ∃ t, exec (.hostErrorCompletion dt (.command r)) s = .next t ∧ u.replied t (cmdRef r) k stFault ∧ Out.aer r.fn false ∈ t.out) ∧
  (∀ (s : State) (dt : Nat) (req : BitVec 64) (w : Option CfgWrite), let u := s.elapse dt
    u.boot.starting = true → 1 ≤ u.fld F.GLB_BOOT_STATUS_stage →
    ∃ t, exec (.configurationRequest dt req w) s = .next t ∧ t.out = .config none :: u.out ∧ t.fns = u.fns ∧ t.time = u.time) ∧
  (∀ (s : State) (dt : Nat) (req : BitVec 64) (f : Fin 9) (b : Bool), let u := s.elapse dt
    u.boot.starting = false → u.boot.porst = true → u.boot.perst = true →
    (u.fld F.GLB_BOOT_STATUS_stage = 7 ∨ u.fld F.GLB_BOOT_STATUS_fail ≠ 0) →
    (∃ t, exec (.configurationRequest dt req none) s = .next t ∧ t.out = .config (some (Config.configData req.toNat)) :: u.out ∧
      t.fns = u.fns ∧ t.time = u.time) ∧
    (∃ t, exec (.configurationRequest dt req (some (.bme f b))) s = .next t ∧
      t.out = .config (some (Config.configData req.toNat)) :: u.out ∧ (t.fn f).bme = b) ∧
    (∃ t, exec (.configurationRequest dt req (some (.ptm b))) s = .next t ∧
      t.out = .config (some (Config.configData req.toNat)) :: u.out ∧ t.time.ptmOn = b))

/-- R345, R346, R347, R350, R351: A queue is enabled with a legal size and refused otherwise; it is disabled, and idle once nothing is
fetched or started; a tail doorbell within the queue is taken and another is an error; a head doorbell frees replies, and one
beyond them is an error; a fetched packet is appended; the command whose turn it is starts, or is refused with its reply; the
moderation timer raises the queue's vector. Each clause says that the command named, in a state u (the state once its dt cycles
have passed) that meets the conditions on the left of the last arrow, answers a next state with that effect. -/
def Obligations.CommandQueues : Prop :=
  (∀ (s : State) (dt : Nat) (f : Fin 9) (q : Fin 4) (v : Word), let u := s.elapse dt; let i := 4 * f.val + q.val
    u.answers .FN = true → u.flag F.CQ_CFG_en i = false → 4 ≤ getBits v.toNat 24 4 → getBits v.toNat 24 4 ≤ 12 →
    ∃ t, exec (.cqEnable dt f q v) s = .next t ∧ t.fld F.CQ_CFG_en i = 1 ∧ t.fld F.CQ_CFG_log2_size i = getBits v.toNat 24 4 ∧
      t.fld F.CQ_STATUS_head i = 0 ∧ t.fld F.CQ_STATUS_rq_tail i = 0 ∧ t.fld F.CQ_STATUS_phase i = 1 ∧
      (t.queue f q).tail = 0 ∧ (t.queue f q).rhead = 0 ∧ (t.queue f q).unread = 0) ∧
  (∀ (s : State) (dt : Nat) (f : Fin 9) (q : Fin 4) (v : Word), let u := s.elapse dt; let i := 4 * f.val + q.val
    u.answers .FN = true → u.flag F.CQ_CFG_en i = false → (getBits v.toNat 24 4 < 4 ∨ 12 < getBits v.toNat 24 4) →
    ∃ t, exec (.cqEnable dt f q v) s = .next t ∧ t.fld F.CQ_CFG_en i = 0 ∧ t.fld F.CQ_STATUS_cfg_err i = 1) ∧
  (∀ (s : State) (dt : Nat) (f : Fin 9) (q : Fin 4) (v : Word), let u := s.elapse dt; let i := 4 * f.val + q.val
    u.answers .FN = true →
    ∃ t, exec (.cqDisable dt f q v) s = .next t ∧ t.fld F.CQ_CFG_en i = 0 ∧
      t.fld F.CQ_STATUS_idle i = b2n ((u.queue f q).fetched.isEmpty && (u.queue f q).started.isEmpty)) ∧
  (∀ (s : State) (dt : Nat) (f : Fin 9) (q : Fin 4) (v : Word), let u := s.elapse dt
    u.answers .FN = true → getBits v.toNat 0 12 < u.qSlots f q →
    ∃ t, exec (.cqTailDoorbell dt f q v) s = .next t ∧ (t.queue f q).tail = getBits v.toNat 0 12) ∧
  (∀ (s : State) (dt : Nat) (f : Fin 9) (q : Fin 4) (v : Word), let u := s.elapse dt
    u.answers .FN = true → u.qSlots f q ≤ getBits v.toNat 0 12 →
    ∃ t, exec (.cqTailDoorbell dt f q v) s = .next t ∧ t.queue f q = u.queue f q ∧ t.fld F.CQ_STATUS_tail_err (4 * f.val + q.val) = 1) ∧
  (∀ (s : State) (dt : Nat) (f : Fin 9) (q : Fin 4) (v : Word), let u := s.elapse dt
    let h := getBits v.toNat 0 12; let d := (h + u.qSlots f q - (u.queue f q).rhead) % u.qSlots f q
    u.answers .FN = true → h < u.qSlots f q → d ≤ (u.queue f q).unread →
    ∃ t, exec (.rqHeadDoorbell dt f q v) s = .next t ∧ (t.queue f q).rhead = h ∧ (t.queue f q).unread = (u.queue f q).unread - d) ∧
  (∀ (s : State) (dt : Nat) (f : Fin 9) (q : Fin 4) (v : Word), let u := s.elapse dt
    let h := getBits v.toNat 0 12; let d := (h + u.qSlots f q - (u.queue f q).rhead) % u.qSlots f q
    u.answers .FN = true → (u.qSlots f q ≤ h ∨ (u.queue f q).unread < d) →
    ∃ t, exec (.rqHeadDoorbell dt f q v) s = .next t ∧ t.queue f q = u.queue f q ∧ t.fld F.CQ_STATUS_tail_err (4 * f.val + q.val) = 1) ∧
  (∀ (s : State) (dt : Nat) (f : Fin 9) (q : Fin 4) (bytes : List Byte), let u := s.elapse dt; let i := 4 * f.val + q.val
    u.canFetch f q = true → u.fld F.CQ_CFG_log2_size i ≤ 12 →
    ∃ t, exec (.commandFetch dt f q bytes) s = .next t ∧
      (t.queue f q).fetched = (u.queue f q).fetched ++ [{ cmdOf (u.fld F.CQ_STATUS_head i) bytes with order := u.lastOrder }] ∧
      t.fld F.CQ_STATUS_head i = (u.fld F.CQ_STATUS_head i + 1) % u.qSlots f q) ∧
  (∀ (s : State) (dt : Nat) (f q : Nat) (k : Cmd), let u := s.elapse dt
    u.inService = true → u.roundRobin = some (f, q) → u.readyCmd f q = some k → (u.startChecks f k).1 = stOk →
    ∃ t, exec (.commandStart dt) s = .next t ∧ (t.queue f q).fetched = (u.queue f q).fetched.drop 1 ∧
      (t.queue f q).started = (u.queue f q).started ++ [{ k with order := u.lastOrder + 1 }] ∧ t.rrFn = (f + 1) % 9 ∧ (t.fn f).rrQueue = (q + 1) % 4) ∧
  (∀ (s : State) (dt : Nat) (f q : Nat) (k : Cmd), let u := s.elapse dt
    u.inService = true → u.roundRobin = some (f, q) → u.readyCmd f q = some k → (u.startChecks f k).1 ≠ stOk →
    u.command ⟨f, q, k.slot⟩ = none →
    ∃ t, exec (.commandStart dt) s = .next t ∧ (t.queue f q).fetched = (u.queue f q).fetched.drop 1 ∧
      u.replied t ⟨f, q, k.slot⟩ k (u.startChecks f k).1) ∧
  (∀ (s : State) (dt : Nat) (f : Fin 9) (q : Fin 4), let u := s.elapse dt; let i := 4 * f.val + q.val
    u.fld F.CQ_CFG_mod_us i ≠ 0 → (u.queue f q).unsig ≠ 0 → (u.queue f q).unsigFrom + 1000 * u.fld F.CQ_CFG_mod_us i ≤ u.now →
    ∃ t, exec (.interruptModerationTimer dt f q) s = .next t ∧ (t.queue f q).unsig = 0 ∧
      t.out = .msix f (u.fld F.CQ_CFG_vector i % (if f.val = 0 then 1024 else 128)) :: u.out)

/-- R356, R360, R361, R363: The event ring is enabled; a message is handed over with its words and the channel reads busy, and one
sent while it is busy is refused; reading the last word frees the channel or brings the next message; PING is answered with its
tag, and another message as unknown; a claimable resource that is free is claimed, its holder releases it, and any other claim or
release is refused. Each clause says that the command named, in a state u (the state once its dt cycles have passed) that meets
the conditions on the left of the last arrow, answers a next state with that effect. -/
def Obligations.EventsMailboxesPins : Prop :=
  (∀ (s : State) (dt : Nat) (f : Fin 9) (v : Word), let u := s.elapse dt
    u.answers .FN = true →
    ∃ t, exec (.evqEnable dt f v) s = .next t ∧ t.fld F.EVQ_CFG_en f = 1 ∧ t.fld F.EVQ_CFG_log2_size f = getBits v.toNat 24 4 ∧
      (u.flag F.EVQ_CFG_en f = false → t.fld F.EVQ_STATUS_num f = 0)) ∧
  (∀ (s : State) (dt : Nat) (f : Fin 9) (v : Word), let u := s.elapse dt
    u.answers .FN = true → bit (u.regN .MBX_FW_CTL f) 31 = false →
    ∃ t, exec (.mailboxSend dt f false v) s = .next t ∧ bit (t.regN .MBX_FW_CTL f) 31 = true ∧
      (t.fn f).fwMsg = some ((List.range (getBits v.toNat 0 4 + 1)).map fun j => u.reg .MBX_FW_DATA (16 * f.val + j))) ∧
  (∀ (s : State) (dt : Nat) (f : Fin 9) (v : Word), let u := s.elapse dt
    u.answers .FN = true → bit (u.regN .MBX_FW_CTL f) 31 = true →
    ∃ t, exec (.mailboxSend dt f false v) s = .next t ∧ t.fld F.MBX_FW_CTL_refused f = 1 ∧ t.fn f = u.fn f ∧ t.sfl = u.sfl) ∧
  (∀ (s : State) (dt : Nat) (v : Word), let u := s.elapse dt
    u.answers .FN = true → bit (u.regN .MBX_SFL_CTL 0) 31 = true →
    ∃ t, exec (.mailboxSend dt 0 true v) s = .next t ∧ t.fld F.MBX_SFL_CTL_refused 0 = 1 ∧ t.sfl = u.sfl) ∧
  (∀ (s : State) (dt : Nat) (v : Word), let u := s.elapse dt
    u.answers .FN = true → bit (u.regN .MBX_SFL_CTL 0) 31 = false →
    ∃ t, exec (.mailboxSend dt 0 true v) s = .next t ∧ bit (t.regN .MBX_SFL_CTL 0) 31 = true ∧
      t.sfl.inbox = u.sfl.inbox ++ [(List.range (getBits v.toNat 0 4 + 1)).map fun j => u.reg .MBX_SFL_DATA j]) ∧
  (∀ (s : State) (dt : Nat) (f : Fin 9) (ch : Fin 5), let u := s.elapse dt; let j := u.regN (rxCtl ch) f % 16
    u.answers .FN = true → bit (u.regN (rxCtl ch) f) 31 = true → ((u.fn f).fwOut.find? fun e => e.1 == ch.val) = none →
    ∃ t, exec (.mailboxReadLast dt f ch) s = .next t ∧ t.regN (rxCtl ch) f = u.regN (rxCtl ch) f % 2 ^ 31 ∧
      t.out = .readData f (BitVec.ofNat 32 (u.regN (rxData ch) (16 * f.val + j))) :: u.out) ∧
  (∀ (s : State) (dt : Nat) (f : Fin 9) (ch : Fin 5) (e : Nat × List Word), let u := s.elapse dt; let j := u.regN (rxCtl ch) f % 16
    u.answers .FN = true → bit (u.regN (rxCtl ch) f) 31 = true → ((u.fn f).fwOut.find? fun e => e.1 == ch.val) = some e →
    ∃ t, exec (.mailboxReadLast dt f ch) s = .next t ∧ bit (t.regN (rxCtl ch) f) 31 = true ∧ (t.fn f).fwOut = (u.fn f).fwOut.erase e ∧
      (e.2 ≠ [] → t.reg (rxData ch) (16 * f.val) = e.2.headD 0) ∧
      .readData f (BitVec.ofNat 32 (u.regN (rxData ch) (16 * f.val + j))) ∈ t.out) ∧
  (∀ (s : State) (dt : Nat) (f : Fin 9) (cp : Fin 4) (m : List Word), let u := s.elapse dt
    let a := if msgType m = 1 then answer 0x8001 m (m.drop 1) else answer 0x80FF m []
    (u.fn f).fwMsg = some m →
    ∃ t, exec (.ping dt f cp) s = .next t ∧ (t.fn f).fwMsg = none ∧ bit (t.regN .MBX_FW_CTL f) 31 = false ∧
      (u.rxFull f cp = false → t.rxFull f cp = true ∧ t.reg (rxData cp) (16 * f.val) = a.headD 0) ∧
      (u.rxFull f cp = true → (t.fn f).fwOut = (u.fn f).fwOut ++ [(cp.val, a)])) ∧
  (∀ (s : State) (dt : Nat) (v : Word), let u := s.elapse dt; let r := getBits v.toNat 0 8; let c := getBits v.toNat 8 8
    u.answers .PIN = true →
    (claimable r = true → 1 ≤ c → c ≤ 4 → u.owner r = 0 → ∃ t, exec (.pinClaim dt v) s = .next t ∧ t.owner r = c) ∧
    (claimable r = true → 1 ≤ c → c ≤ 4 → u.owner r = c → ∃ t, exec (.pinRelease dt v) s = .next t ∧ t.owner r = 0) ∧
    (claimable r = false ∨ c < 1 ∨ 4 < c ∨ u.owner r ≠ 0 → ∃ t, exec (.pinClaim dt v) s = .next t ∧ t.owner r = u.owner r ∧
      t.fld F.PIN_CLAIM_STATUS_refused = 1 ∧ t.fld F.PIN_CLAIM_STATUS_resource = r) ∧
    (claimable r = false ∨ c < 1 ∨ 4 < c ∨ u.owner r ≠ c → ∃ t, exec (.pinRelease dt v) s = .next t ∧ t.owner r = u.owner r ∧
      t.fld F.PIN_CLAIM_STATUS_refused = 1 ∧ t.fld F.PIN_CLAIM_STATUS_resource = r))

/-- R115, R142, R232, R352, R479: PROFILE_LOAD, SENSOR_XFER, CAM_GRANT, CAM_RINGS, MODEL_BIND and CALIB_CAPTURE, started, have the
effect the table of R352 gives and reply, the transfer when it ends and the capture when it is full; a SENSOR_XFER on a port that
is not ACTIVE replies CLOSED. Each clause says that the command named, in a state u (the state once its dt cycles have passed)
that meets the conditions on the left of the last arrow, answers a next state with that effect. -/
def Obligations.CameraCommands : Prop :=
  (∀ (s : State) (dt : Nat) (r : CmdName) (k : Cmd) (bytes : List Byte), let u := s.elapse dt
    u.asked (cmdRef r) 0x0103 k → u.stream k.cam = 0 → 64 ≤ k.w 2 → k.w 2 ≤ 4096 → (u.fn r.fn).bme = true →
    ∃ t, exec (.profileLoad dt r bytes) s = .next t ∧ (t.cam k.cam).profile = some (bytes.take (k.w 2)) ∧ u.replied t (cmdRef r) k stOk) ∧
  (∀ (s : State) (dt : Nat) (r : CmdName) (k : Cmd), let u := s.elapse dt; let p := camPort k.cam
    u.asked (cmdRef r) 0x0104 k → getBits (k.w 0) 40 8 ≤ 32 → getBits (k.w 0) 48 8 ≤ 16 → u.isIn p = false →
    u.fld F.IXL_PORT_STATUS_state p = 4 →
    ∃ t x, exec (.sensorXfer dt r) s = .next t ∧
      x.who = .xfer (cmdRef r) ∧ x.req.slot = camSlot k.cam ∧ x.req.addr = getBits (k.w 0) 24 7 ∧ x.req.rlen = getBits (k.w 0) 48 8 ∧
      ((u.port p).tunnels.length < 16 ∧ (u.port p).held = [] →
        (t.port p).tunnels = (u.port p).tunnels ++ [x] ∧ x.began = u.now) ∧
      (16 ≤ (u.port p).tunnels.length ∨ (u.port p).held ≠ [] → (t.port p).held = (u.port p).held ++ [x])) ∧
  (∀ (s : State) (dt : Nat) (r : CmdName) (k : Cmd), let u := s.elapse dt; let p := camPort k.cam
    u.asked (cmdRef r) 0x0104 k → getBits (k.w 0) 40 8 ≤ 32 → getBits (k.w 0) 48 8 ≤ 16 → u.isIn p = false →
    u.fld F.IXL_PORT_STATUS_state p ≠ 4 →
    ∃ t, exec (.sensorXfer dt r) s = .next t ∧ u.replied t (cmdRef r) k stClosed) ∧
  (∀ (s : State) (dt : Nat) (r : CmdName) (k : Cmd), let u := s.elapse dt
    u.asked (cmdRef r) 0x0105 k → getBits (k.w 0) 16 4 ≤ 8 → u.stream k.cam = 0 →
    ∃ t, exec (.camGrant dt r) s = .next t ∧ (t.cam k.cam).holder = getBits (k.w 0) 16 4 ∧ u.replied t (cmdRef r) k stOk) ∧
  (∀ (s : State) (dt : Nat) (r : CmdName) (k : Cmd), let u := s.elapse dt; let n := k.cam
    u.asked (cmdRef r) 0x0106 k → u.stream n = 0 →
    (∀ i < 4, bit (k.w 5) i = true → u.hostMapped r.fn (k.w (i + 1) / 4096 * 4096) (u.ringBytes n i) = true) →
    ∃ t, exec (.camRings dt r) s = .next t ∧ u.replied t (cmdRef r) k stOk ∧
      (bit (k.w 5) 0 = true → t.pair .CAM_OUT_BASE_LO .CAM_OUT_BASE_HI n = k.w 1 / 4096 * 4096 % 2 ^ 64) ∧
      (bit (k.w 5) 1 = true → t.pair .CAM_LEDGER_HOST_LO .CAM_LEDGER_HOST_HI n = (k.w 2 / 4096 * 4096 + 1) % 2 ^ 64) ∧
      (bit (k.w 5) 1 = false → t.regN .CAM_LEDGER_HOST_LO n % 2 = 0) ∧
      (bit (k.w 5) 2 = true → t.pair .CAM_STATS_HOST_LO .CAM_STATS_HOST_HI n = (k.w 3 / 4096 * 4096 + 1) % 2 ^ 64) ∧
      (bit (k.w 5) 3 = true → t.pair .CAM_ADAPT_AUDIT_LO .CAM_ADAPT_AUDIT_HI n = (k.w 4 / 4096 * 4096 + 1) % 2 ^ 64)) ∧
  (∀ (s : State) (dt : Nat) (r : CmdName) (k : Cmd), let u := s.elapse dt
    u.asked (cmdRef r) 0x0203 k → u.stream k.cam = 0 →
    ∃ t, exec (.modelBind dt r) s = .next t ∧ (t.cam k.cam).model = some (getBits (k.w 0) 16 16) ∧ u.replied t (cmdRef r) k stOk) ∧
  (∀ (s : State) (dt : Nat) (r : CmdName) (k : Cmd), let u := s.elapse dt
    u.asked (cmdRef r) 0x0204 k → getBits (k.w 0) 16 8 ≠ 0 → (u.cam k.cam).capture = none →
    ∃ t, exec (.calibCapture dt r) s = .next t ∧
      (t.cam k.cam).capture = some { cmd := cmdRef r, left := getBits (k.w 0) 16 8, addr := k.w 1, bytes := getBits (k.w 2) 0 32 })

/-- R352, R372, R375, R376: MODEL_LOAD takes a checked image under a free handle and answers it with the measurement; an encrypted one
uses up its key, waits for the engine while it resets, and is denied without a key of its function or where the key does not
accept it; MODEL_UNLOAD drops a model that is not bound, its sealed pages being cleared first; MODEL_INFO answers its cores,
layers and measurement. The handle itself is a free value (R352, log 66). Each clause says that the command named, in a state u
(the state once its dt cycles have passed) that meets the conditions on the left of the last arrow, answers a next state with that
effect. -/
def Obligations.ModelCommands : Prop :=
  (∀ (s : State) (dt : Nat) (r : CmdName) (k : Cmd) (img : ModelImg), let u := s.elapse dt
    u.asked (cmdRef r) 0x0201 k → getBits (k.w 1) 40 8 = 0xFF → (u.fn r.fn).bme = true →
    (u.loadRules (getBits (k.w 1) 32 4) img).1 = stOk →
    ∃ t h x, exec (.modelLoad dt r img) s = .next t ∧ t.boot.models.get h = some x ∧ x.fn = r.fn ∧ x.img = img ∧
      x.first = getBits (k.w 1) 32 4 ∧ x.encrypted = false ∧ u.answered t (cmdRef r) k h (leAt (Config.sm3 img.plain) 0 8)) ∧
  (∀ (s : State) (dt : Nat) (r : CmdName) (k : Cmd) (img : ModelImg), let u := s.elapse dt
    let slot := getBits (k.w 1) 40 8
    u.asked (cmdRef r) 0x0201 k → slot ≠ 0xFF →
    (u.fld F.SEC_STATUS_engine = 2 → ∃ t, exec (.modelLoad dt r img) s = .next t ∧ t.sec.waiting = u.sec.waiting ++ [cmdRef r]) ∧
    (u.fld F.SEC_STATUS_engine ≠ 2 → u.keyFor r.fn slot = none →
      ∃ t, exec (.modelLoad dt r img) s = .next t ∧ t.boot.models = u.boot.models ∧ u.replied t (cmdRef r) k stDenied ∧
        t.regN .SEC_CNT_KEY_DENIED = satAdd 32 (u.regN .SEC_CNT_KEY_DENIED) 1) ∧
    (u.fld F.SEC_STATUS_engine ≠ 2 → (u.keyFor r.fn slot).isSome = true → (u.fn r.fn).bme = true →
      ∃ t, exec (.modelLoad dt r img) s = .next t ∧ t.sec.keys.get slot = none ∧
        (∀ x, u.keyFor r.fn slot = some x → x.accepts img = false → t.boot.models = u.boot.models ∧
          ∃ c ∈ t.sec.clears, c.cmd = some (cmdRef r) ∧ c.status = stDenied))) ∧
  (∀ (s : State) (dt : Nat) (r : CmdName) (k : Cmd) (m : ModelS), let u := s.elapse dt; let h := getBits (k.w 0) 0 16
    u.asked (cmdRef r) 0x0202 k → u.boot.models.get h = some m → u.modelBusy h = false →
    ∃ t, exec (.modelUnload dt r) s = .next t ∧ t.boot.models.get h = none ∧
      (m.sealed_ = [] → u.replied t (cmdRef r) k stOk) ∧
      (m.sealed_ ≠ [] → ∃ c ∈ t.sec.clears, c.cmd = some (cmdRef r))) ∧
  (∀ (s : State) (dt : Nat) (r : CmdName) (k : Cmd) (m : ModelS), let u := s.elapse dt
    u.asked (cmdRef r) 0x0205 k → u.boot.models.get (getBits (k.w 0) 0 16) = some m →
    ∃ t, exec (.modelInfo dt r) s = .next t ∧
      u.answered t (cmdRef r) k (m.cores + m.img.head.elim 0 (·.layers) * 2 ^ 16) (leAt m.meas 8 8))

/-- R289, R319, R352, R354, R355, R382: MAP adds pages, UNMAP removes them, MOVE hides them and clears their memory before they show
again at the new place, MEM_GRANT and MEM_REVOKE give and take ranges (a revoked range is cleared, and a range that meets a work
area is denied), FAULT_RESUME resumes a faulted transfer, FW_POOL sets the pool. Each clause says that the command named, in a
state u (the state once its dt cycles have passed) that meets the conditions on the left of the last arrow, answers a next state
with that effect. -/
def Obligations.AddressSpaceCommands : Prop :=
  (∀ (s : State) (dt : Nat) (r : CmdName) (k : Cmd), let u := s.elapse dt
    let sp := getBits (k.w 0) 0 1; let big := bit (k.w 0) 1; let count := getBits (k.w 0) 32 32; let size := pageBytes big
    let ps := (u.fn r.fn).pages sp; let new := mapPages big (bit (k.w 0) 2) count (k.w 1) (k.w 2)
    u.asked (cmdRef r) 0x0301 k → count ≠ 0 → k.w 1 % size = 0 → k.w 1 + count * size ≤ 2 ^ 48 → k.w 2 % size = 0 →
    k.w 2 + count * size ≤ 2 ^ 64 → (sp = 0 → u.mayMap r.fn (k.w 2) (count * size) = true) →
    (ps.any fun p => overlaps p.va p.size (k.w 1) (count * size)) = false → mapped ps + count * size ≤ spaceLimit sp →
    (u.modFn r.fn fun f => f.setPages sp (f.pages sp ++ new)).tableBytes ≤ u.poolRange.2 →
    ∃ t, exec (.map_ dt r) s = .next t ∧ (t.fn r.fn).pages sp = ps ++ new ∧ u.replied t (cmdRef r) k stOk) ∧
  (∀ (s : State) (dt : Nat) (r : CmdName) (k : Cmd), let u := s.elapse dt
    let sp := getBits (k.w 0) 0 1; let big := bit (k.w 0) 1; let count := getBits (k.w 0) 32 32; let n := count * pageBytes big
    let ps := (u.fn r.fn).pages sp
    u.asked (cmdRef r) 0x0302 k → count ≠ 0 → (∀ i < count, ∃ p ∈ ps, p.va = k.w 1 + i * pageBytes big ∧ p.big = big) →
    (sp = 1 → u.locked r.fn (k.w 1) n = false) → (sp = 0 → u.sealedIn ps (k.w 1) n = false) → u.inFlight r.fn sp (k.w 1) n = false →
    ∃ t, exec (.unmap dt r) s = .next t ∧ (t.fn r.fn).pages sp = ps.filter (fun p => !overlaps p.va p.size (k.w 1) n) ∧
      u.replied t (cmdRef r) k stOk) ∧
  (∀ (s : State) (dt : Nat) (r : CmdName) (k : Cmd), let u := s.elapse dt; let n := getBits (k.w 0) 32 32 * 0x1000
    let old := (u.fn r.fn).dev.filter fun p => overlaps p.va p.size (k.w 1) n
    u.asked (cmdRef r) 0x0303 k → n ≠ 0 → mapped old = n → (∀ p ∈ old, k.w 1 ≤ p.va ∧ p.va + p.size ≤ k.w 1 + n) →
    (∀ p ∈ old, (k.w 2 + (p.va - k.w 1)) % p.size = 0) → u.mayMap r.fn (k.w 2) n = true →
    u.sealedIn (u.fn r.fn).dev (k.w 1) n = false → u.inFlight r.fn 0 (k.w 1) n = false →
    ∃ t c, exec (.move_ dt r) s = .next t ∧ (t.fn r.fn).dev = hide (k.w 1) n (u.fn r.fn).dev ∧ c ∈ t.sec.clears ∧
      c.cmd = some (cmdRef r) ∧
      c.remap = old.map (fun p => ((r.fn : Nat), { p with pa := k.w 2 + (p.va - k.w 1), present := true }))) ∧
  (∀ (s : State) (dt : Nat) (r : CmdName) (k : Cmd), let u := s.elapse dt; let j := getBits (k.w 0) 0 4
    u.asked (cmdRef r) 0x0304 k → j < 8 → k.w 2 ≠ 0 → (k.w 1 + k.w 2) * 2 ^ 21 ≤ u.memBytes →
    (u.fns.any fun e => e.2.grants.any fun g => overlaps g.1 g.2 (k.w 1) (k.w 2)) = false →
    (u.boot.pool.any fun p => overlaps p.1 p.2 (k.w 1) (k.w 2)) = false →
    (u.workAreas.any fun w => overlaps w 0x600000 (k.w 1 * 2 ^ 21) (k.w 2 * 2 ^ 21)) = false →
    ∃ t, exec (.memGrant dt r) s = .next t ∧ (t.fn (j + 1)).grants = (u.fn (j + 1)).grants ++ [(k.w 1, k.w 2)] ∧
      u.replied t (cmdRef r) k stOk) ∧
  (∀ (s : State) (dt : Nat) (r : CmdName) (k : Cmd), let u := s.elapse dt; let j := getBits (k.w 0) 0 4
    u.asked (cmdRef r) 0x0304 k → j < 8 → k.w 2 ≠ 0 → (k.w 1 + k.w 2) * 2 ^ 21 ≤ u.memBytes →
    (u.workAreas.any fun w => overlaps w 0x600000 (k.w 1 * 2 ^ 21) (k.w 2 * 2 ^ 21)) = true →
    ∃ t, exec (.memGrant dt r) s = .next t ∧ (t.fn (j + 1)).grants = (u.fn (j + 1)).grants ∧ u.replied t (cmdRef r) k stDenied) ∧
  (∀ (s : State) (dt : Nat) (r : CmdName) (k : Cmd), let u := s.elapse dt; let j := getBits (k.w 0) 0 4
    let a := k.w 1 * 2 ^ 21; let n := k.w 2 * 2 ^ 21
    u.asked (cmdRef r) 0x0305 k → j < 8 → (k.w 1, k.w 2) ∈ (u.fn (j + 1)).grants → u.sec.scrubs.get j = none →
    (∀ p ∈ (u.fn (j + 1)).dev, overlaps p.pa p.size a n = true → u.inFlight (j + 1) 0 p.va p.size = false) →
    ∃ t, exec (.memRevoke dt r) s = .next t ∧ (t.fn (j + 1)).grants = (u.fn (j + 1)).grants.filter (fun g => g != (k.w 1, k.w 2)) ∧
      (t.fn (j + 1)).dev = (u.fn (j + 1)).dev.filter (fun p => !overlaps p.pa p.size a n) ∧
      t.sec.clears = u.snufRun.sec.clears ++ [{ addr := a, bytes := n, cmd := some (cmdRef r), fn := j + 1, left := n }]) ∧
  (∀ (s : State) (dt : Nat) (r : CmdName) (k : Cmd) (j : Nat) (x : Xfer), let u := s.elapse dt
    let i := getBits (k.w 0) 0 4; let q := getBits (k.w 0) 8 4
    u.asked (cmdRef r) 0x0306 k → u.faulted i q = some (j, x) → u.resumable i q x = true →
    ∃ t y, exec (.faultResume dt r) s = .next t ∧ (t.dmaQ i q)[j]? = some y ∧ y.faultAt = none ∧ y.resumes = x.resumes + 1 ∧
      u.replied t (cmdRef r) k stOk) ∧
  (∀ (s : State) (dt : Nat) (r : CmdName) (k : Cmd), let u := s.elapse dt
    u.asked (cmdRef r) 0x0307 k → 32 ≤ k.w 2 → (k.w 1 + k.w 2) * 2 ^ 21 ≤ u.memBytes → (u.boot.models.any (·.2.isSome)) = false →
    u.startedCams = [] → (u.fns.any fun e => !e.2.grants.isEmpty) = false →
    ∃ t, exec (.fwPool dt r) s = .next t ∧ t.boot.pool = some (k.w 1, k.w 2) ∧ u.replied t (cmdRef r) k stOk)

/-- R352, R415, R433, R451, R453: TIME_GET, SCHED_APPLY (to set a schedule and to end one), COUNTER_READ, TRACE_READ, LAYER_TOTALS,
ERRLOG_READ and ECHO answer what the table of R352 gives, writing to host memory where the function is a bus master. The layout of
LAYER_TOTALS is Config's (log 74). Each clause says that the command named, in a state u (the state once its dt cycles have
passed) that meets the conditions on the left of the last arrow, answers a next state with that effect. -/
def Obligations.DiagnosticCommands : Prop :=
  (∀ (s : State) (dt : Nat) (r : CmdName) (k : Cmd), let u := s.elapse dt
    u.asked (cmdRef r) 0x0501 k →
    ∃ t, exec (.timeGet dt r) s = .next t ∧ u.answered t (cmdRef r) k u.now (u.fld F.SYN_STATUS_state)) ∧
  (∀ (s : State) (dt : Nat) (r : CmdName) (k : Cmd), let u := s.elapse dt; let g := getBits (k.w 0) 0 5; let per := getBits (k.w 2) 0 32
    u.asked (cmdRef r) 0x0502 k → u.pos = 0 → 1000000 ≤ per → per ≤ 1000000000 → u.now + 1000000 ≤ k.w 3 → u.chn.sched = none →
    u.owner (32 + g) = 0 → u.flag F.SYN_SCHED_CTL_enable g = false →
    ∃ t, exec (.schedApply dt r) s = .next t ∧ t.owner (32 + g) = 5 ∧ (t.time.sched.get g).apply = some (k.w 3, k.w 1, per) ∧
      (((List.range 8).filter fun p => p != 0 && u.presentPos p) = [] → u.replied t (cmdRef r) k stOk) ∧
      (∀ p ∈ List.range 8, (p != 0 && u.presentPos p) = true → t.chn.sched.isSome = true ∧ Out.chainMsg p
        (.schedule (BitVec.ofNat 5 g) (BitVec.ofNat 64 (k.w 1)) (BitVec.ofNat 32 per) (BitVec.ofNat 64 (k.w 3))) ∈ t.out)) ∧
  (∀ (s : State) (dt : Nat) (r : CmdName) (k : Cmd), let u := s.elapse dt; let g := getBits (k.w 0) 0 5
    u.asked (cmdRef r) 0x0502 k → u.pos = 0 → getBits (k.w 2) 0 32 = 0 → u.now + 1000000 ≤ k.w 3 → u.chn.sched = none →
    u.owner (32 + g) = 5 →
    ∃ t, exec (.schedApply dt r) s = .next t ∧ (t.time.sched.get g).apply = some (k.w 3, k.w 1, 0) ∧
      (((List.range 8).filter fun p => p != 0 && u.presentPos p) = [] → u.replied t (cmdRef r) k stOk)) ∧
  (∀ (s : State) (dt : Nat) (r : CmdName) (k : Cmd), let u := s.elapse dt
    let first := getBits (k.w 0) 0 12; let count := getBits (k.w 0) 16 12
    u.asked (cmdRef r) 0x0701 k → first + count ≤ 4096 →
    ∃ t, exec (.counterRead dt r) s = .next t ∧ u.replied t (cmdRef r) k stOk ∧ ((u.fn r.fn).bme = true →
      Out.hostWrite r.fn (k.w 1) ((List.range count).map fun i => leBytes 8 (u.obsRead (first + i))).flatten ∈ t.out)) ∧
  (∀ (s : State) (dt : Nat) (r : CmdName) (k : Cmd), let u := s.elapse dt
    let bs := ((u.log.trace.reverse.take (getBits (k.w 2) 0 32 / 16)).map TraceEv.bytes).flatten
    u.asked (cmdRef r) 0x0702 k →
    ∃ t, exec (.traceRead dt r) s = .next t ∧ u.answered t (cmdRef r) k bs.length 0 ∧
      ((u.fn r.fn).bme = true → Out.hostWrite r.fn (k.w 1) bs ∈ t.out)) ∧
  (∀ (s : State) (dt : Nat) (r : CmdName) (k : Cmd), let u := s.elapse dt; let bs := Config.layerTotals (u.totalsOf k.cam)
    u.asked (cmdRef r) 0x0703 k →
    ∃ t, exec (.layerTotals dt r) s = .next t ∧
      (getBits (k.w 2) 0 32 < bs.length → u.replied t (cmdRef r) k stNoResource) ∧
      (bs.length ≤ getBits (k.w 2) 0 32 → u.replied t (cmdRef r) k stOk ∧
        ((u.fn r.fn).bme = true → Out.hostWrite r.fn (k.w 1) bs ∈ t.out))) ∧
  (∀ (s : State) (dt : Nat) (r : CmdName) (k : Cmd), let u := s.elapse dt; let n := min (getBits (k.w 2) 0 32 / 32) u.errUnread
    u.asked (cmdRef r) 0x0704 k → (u.fn r.fn).bme = true → n ≤ 1024 →
    ∃ t, exec (.errlogRead dt r) s = .next t ∧ u.answered t (cmdRef r) k n 0 ∧ t.regN .ERR_TAIL = (u.regN .ERR_TAIL + n) % 2 ^ 32) ∧
  (∀ (s : State) (dt : Nat) (r : CmdName) (k : Cmd), let u := s.elapse dt
    u.asked (cmdRef r) 0x0706 k →
    ∃ t, exec (.echo dt r) s = .next t ∧ u.answered t (cmdRef r) k (k.w 0) (k.w 1))

/-- R366, R369, R372, R373, R374, R381: ATTEST writes the signed report, or replies NO_RESOURCE where the buffer is short, or BUSY
while the engine resets; KEY_EPHEMERAL makes a key and writes its public half; KEY_IMPORT takes the key a valid blob carries and
denies another; an ephemeral key expires after 60 s. An uncorrectable error of the engine's memory resets it: keys are lost for 2
ms; then the engine is ready and the commands that waited have their replies. The SM2 and SM3 functions are Config's; the clauses
say what follows from either answer. Each clause says that the command named, in a state u (the state once its dt cycles have
passed) that meets the conditions on the left of the last arrow, answers a next state with that effect. -/
def Obligations.AttestationAndKeys : Prop :=
  (∀ (s : State) (dt : Nat) (r : CmdName) (k : Cmd), let u := s.elapse dt; let body := u.reportBody r.fn (k.w 0)
    u.asked (cmdRef r) 0x0401 k → u.resetting = false →
    ∃ t, exec (.attest dt r) s = .next t ∧
      (k.w 2 < body.length + 64 → u.replied t (cmdRef r) k stNoResource) ∧
      (body.length + 64 ≤ k.w 2 →
        u.replied t (cmdRef r) k (if u.flag F.SEC_STATUS_update_pending then stUpdatePending else stOk) ∧
        ((u.fn r.fn).bme = true → Out.hostWrite r.fn (k.w 1)
          (body ++ bytesAt (Config.sm2Sign (Config.identityKey Config.deviceSecret) body) 0 64) ∈ t.out))) ∧
  (∀ (s : State) (dt : Nat) (r : CmdName) (k : Cmd), let u := s.elapse dt
    u.asked (cmdRef r) 0x0401 k → u.resetting = true →
    ∃ t, exec (.attest dt r) s = .next t ∧ u.replied t (cmdRef r) k stBusy) ∧
  (∀ (s : State) (dt : Nat) (r : CmdName) (k : Cmd), let u := s.elapse dt
    u.asked (cmdRef r) 0x0402 k → u.resetting = false →
    ∃ t x, exec (.keyEphemeral dt r) s = .next t ∧ t.sec.eph.get r.fn = some (u.now, x) ∧ u.replied t (cmdRef r) k stOk ∧
      ((u.fn r.fn).bme = true → Out.hostWrite r.fn (k.w 1) (bytesAt (Config.sm2Public x) 0 64) ∈ t.out)) ∧
  (∀ (s : State) (dt : Nat) (r : CmdName) (k : Cmd) (blob : List Byte) (e : Nat × Nat) (i : Nat) (l : List Nat), let u := s.elapse dt
    u.asked (cmdRef r) 0x0403 k → u.resetting = false → u.flag F.SEC_STATUS_update_pending = false → (u.fn r.fn).bme = true →
    u.ephOf r.fn = some e → k.w 2 = 161 → blob.length = 161 → u.freeSlots r.fn = i :: l →
    ∃ t, exec (.keyImport dt r blob) s = .next t ∧ t.sec.eph.get r.fn = none ∧
      (∀ p, Config.sm2Decrypt e.2 blob = some p → bytesAt p 52 12 = List.replicate 12 0 →
        t.sec.keys.get i = some { key := bytesAt p 0 16, meas := bytesAt p 16 32, id := leAt p 48 4 } ∧
        u.answered t (cmdRef r) k i 0) ∧
      (Config.sm2Decrypt e.2 blob = none → t.sec.keys = u.sec.keys ∧ u.replied t (cmdRef r) k stDenied)) ∧
  (∀ (s : State) (dt : Nat) (f : Fin 9) (e : Nat × Nat), let u := s.elapse dt
    u.sec.eph.get f = some e → e.1 + 60000000000 < u.now →
    ∃ t, exec (.ephemeralKeyExpiry dt f) s = .next t ∧ t.sec.eph.get f = none) ∧
  (∀ (s : State) (dt : Nat), let u := s.elapse dt
    u.fld F.SEC_STATUS_engine ≠ 0 →
    ∃ t, exec (.engineMemoryError dt) s = .next t ∧ t.fld F.SEC_STATUS_engine = 2 ∧ t.sec.resetEnd = u.now + 2000000 ∧
      t.sec.keys = [] ∧ t.sec.eph = []) ∧
  (∀ (s : State) (dt : Nat), let u := s.elapse dt
    u.resetting = true →
    ∃ t, exec (.engineResetComplete dt) s = .next t ∧ t.fld F.SEC_STATUS_engine = 1 ∧ t.sec.waiting = [] ∧
      ∀ r ∈ u.sec.waiting, t.command r = none)

/-- R352, R382, R383: TENANT_ENABLE makes a tenant ACTIVE; TENANT_KILL begins its scrub or joins the one under way, on chip and then
in its memory, after which every byte of its ranges reads zero and those who waited have their replies; a clear of the snuffer
leaves zeros in its range. Each clause says that the command named, in a state u (the state once its dt cycles have passed) that
meets the conditions on the left of the last arrow, answers a next state with that effect. -/
def Obligations.TenantsAndScrubs : Prop :=
  (∀ (s : State) (dt : Nat) (r : CmdName) (k : Cmd), let u := s.elapse dt; let f := getBits (k.w 0) 0 4 + 1
    u.asked (cmdRef r) 0x0404 k → f ≤ 8 → u.fld F.FN_ID_state f = 0 →
    ∃ t, exec (.tenantEnable dt r) s = .next t ∧ t.fld F.FN_ID_state f = 1 ∧ u.replied t (cmdRef r) k stOk) ∧
  (∀ (s : State) (dt : Nat) (r : CmdName) (k : Cmd), let u := s.elapse dt; let j := getBits (k.w 0) 0 4
    u.asked (cmdRef r) 0x0405 k → j < 8 → u.fld F.FN_ID_state (j + 1) ≠ 0 → u.sec.scrubs.get j = none →
    ∃ t y, exec (.tenantKill dt r) s = .next t ∧ t.sec.scrubs.get j = some y ∧ y.reset = false ∧ cmdRef r ∈ y.waiters ∧
      y.ranges = (u.fn (j + 1)).grants ∧ t.fld F.FN_ID_state (j + 1) = 2) ∧
  (∀ (s : State) (dt : Nat) (r : CmdName) (k : Cmd) (x : ScrubS), let u := s.elapse dt; let j := getBits (k.w 0) 0 4
    u.asked (cmdRef r) 0x0405 k → j < 8 → u.fld F.FN_ID_state (j + 1) ≠ 0 → u.sec.scrubs.get j = some x →
    ∃ t, exec (.tenantKill dt r) s = .next t ∧ t.sec.scrubs.get j = some { x with waiters := x.waiters ++ [cmdRef r] }) ∧
  (∀ (s : State) (dt : Nat) (k : Fin 8) (x : ScrubS), let u := s.elapse dt
    u.sec.scrubs.get k = some x → x.onchip = false → u.onchipCycles k x * 10 ≤ (u.time.tclk - x.since) * 7 →
    ∃ t, exec (.scrubOnchipComplete dt k) s = .next t ∧
      t.sec.scrubs.get k = some { x with onchip := true, left := (x.ranges.map (·.2)).sum * 2 ^ 21 }) ∧
  (∀ (s : State) (dt : Nat) (k : Fin 8) (x : ScrubS), let u := s.elapse dt
    u.snufRun.sec.scrubs.get k = some x → u.snufRun.scrubClear k x = true →
    ∃ t, exec (.scrubMemoryComplete dt k) s = .next t ∧ t.sec.scrubs.get k = none ∧
      t.fld F.FN_ID_state (k.val + 1) = (if x.reset then 1 else 0) ∧ (∀ r ∈ x.waiters, t.command r = none) ∧
      (∀ g ∈ x.ranges, ∀ a, g.1 * 2 ^ 21 ≤ a → a < g.1 * 2 ^ 21 + g.2 * 2 ^ 21 → memRead t.mem a = 0)) ∧
  (∀ (s : State) (dt : Nat) (c : ClearS) (l : List ClearS), let u := s.elapse dt
    u.snufRun.sec.clears = c :: l → c.left = 0 →
    ∃ t, exec (.snufferClearComplete dt) s = .next t ∧ t.sec.clears = l ∧ (∀ r, c.cmd = some r → t.command r = none) ∧
      (∀ a, c.addr ≤ a → a < c.addr + c.bytes → memRead t.mem a = 0))

/-- R365, R444, R445, R446, R448: FW_STAGE keeps an accepted image in the other slot and denies another; FW_SWITCH waits for its
conditions; the processors reload one after another; a failure or a missed limit replies FAULT and ends the switch; the completed
switch makes the image active, forgets the keys and raises the least version where the image commits. Each clause says that the
command named, in a state u (the state once its dt cycles have passed) that meets the conditions on the left of the last arrow,
answers a next state with that effect. -/
def Obligations.FirmwareSwitch : Prop :=
  (∀ (s : State) (dt : Nat) (r : CmdName) (k : Cmd) (img : FwImage), let u := s.elapse dt
    u.asked (cmdRef r) 0x0408 k → u.resetting = false → k.w 2 ≤ 0x800000 → (u.fn r.fn).bme = true →
    ∃ t, exec (.fwStage dt r img) s = .next t ∧
      (u.imageOk img = true → t.sec.staged = some (imageOf img) ∧ t.fld F.SEC_STATUS_update_pending = 1 ∧
        t.boot.slots.get (1 - u.boot.active) = some (imageOf img) ∧ Out.flashImage (1 - u.boot.active) img.bytes ∈ t.out ∧
        u.answered t (cmdRef r) k (leAt (Config.sm3 img.bytes) 0 8) 0) ∧
      (u.imageOk img = false → t.sec.staged = u.sec.staged ∧ u.replied t (cmdRef r) k stDenied)) ∧
  (∀ (s : State) (dt : Nat) (r : CmdName) (k : Cmd), let u := s.elapse dt
    u.asked (cmdRef r) 0x0409 k → u.sec.staged ≠ none →
    ∃ t, exec (.fwSwitch dt r) s = .next t ∧ t.boot.sw = some { cmd := cmdRef r }) ∧
  (∀ (s : State) (dt : Nat) (w : SwitchS), let u := s.elapse dt
    u.boot.sw = some w → w.began = none → (∀ k, k < 8 → u.sec.scrubs.get k = none) → u.boot.unit = none → u.onlyStarted w.cmd = true →
    u.resetting = false → u.sec.waiting = [] →
    ∃ t, exec (.fwSwitchBegin dt) s = .next t ∧ t.boot.sw = some { w with began := some u.now, since := u.now }) ∧
  (∀ (s : State) (dt : Nat) (w : SwitchS), let u := s.elapse dt
    u.boot.sw = some w → w.began ≠ none → w.done < 5 →
    ∃ t, exec (.cpReloadComplete dt true) s = .next t ∧ t.boot.sw = some { w with done := w.done + 1, since := u.now }) ∧
  (∀ (s : State) (dt : Nat) (w : SwitchS) (k : Cmd), let u := s.elapse dt
    u.boot.sw = some w → w.began ≠ none → w.done < 5 → u.command w.cmd = some k →
    (∃ t, exec (.cpReloadComplete dt false) s = .next t ∧ t.boot.sw = none ∧ u.replied t w.cmd k stFault) ∧
    (w.since + 5000000 < u.now → ∃ t, exec (.fwResumeTimeout dt) s = .next t ∧ t.boot.sw = none ∧ u.replied t w.cmd k stFault)) ∧
  (∀ (s : State) (dt : Nat) (w : SwitchS) (x : ImageS) (k : Cmd), let u := s.elapse dt
    u.boot.sw = some w → u.sec.staged = some x → w.began ≠ none → 5 ≤ w.done → u.command w.cmd = some k →
    ∃ t, exec (.fwSwitchComplete dt) s = .next t ∧ t.boot.sw = none ∧ t.boot.active = 1 - u.boot.active ∧ t.sec.running = x ∧
      t.sec.staged = none ∧ t.sec.keys = [] ∧ t.sec.svnMin = (if x.commit then max u.sec.svnMin x.svn else u.sec.svnMin) ∧
      t.fld F.SEC_STATUS_update_pending = 0 ∧ u.replied t w.cmd k stOk)

/-- R391, R394, R402, R405, R407: LIMIT_SET takes a limit of 20 to 75 W and refuses another; GOV_QUERY answers the governor's step,
the power and the temperature; POLICY_SUBMIT takes a packet that passes the checks and denies another; PRIV_ENROL blows a valid
key's digest into the fuses, once. Each clause says that the command named, in a state u (the state once its dt cycles have
passed) that meets the conditions on the left of the last arrow, answers a next state with that effect. -/
def Obligations.SafelightMessagesAndPolicy : Prop :=
  (∀ (s : State) (dt : Nat) (m : List Word) (l : List (List Word)), let u := s.elapse dt; let x := (m.getD 1 0).toNat
    let a := answer 0x8101 m [if 20000 ≤ x ∧ x ≤ 75000 then 0 else 1]
    u.sfl.inbox = m :: l → u.sflRuns = true → msgType m = 0x0101 →
    ∃ t, exec (.limitSet dt) s = .next t ∧ t.sfl.inbox = l ∧ u.told t a ∧
      (20000 ≤ x → x ≤ 75000 → t.sfl.newLimit = some x) ∧ (x < 20000 ∨ 75000 < x → t.sfl.newLimit = u.sfl.newLimit)) ∧
  (∀ (s : State) (dt : Nat) (m : List Word) (l : List (List Word)), let u := s.elapse dt
    let a := answer 0x8102 m [BitVec.ofNat 32 u.govG, BitVec.ofNat 32 (u.fld F.SFL_POWER_p_avg_mw), BitVec.ofInt 32 u.tj]
    u.sfl.inbox = m :: l → u.sflRuns = true → msgType m = 0x0102 →
    ∃ t, exec (.govQuery dt) s = .next t ∧ t.sfl.inbox = l ∧ u.told t a) ∧
  (∀ (s : State) (dt : Nat) (r : CmdName) (k : Cmd) (bytes : List Byte), let u := s.elapse dt
    let c := u.policyCheck (bytes.take (getBits (k.w 2) 0 16))
    u.asked (cmdRef r) 0x0406 k → u.resetting = false → u.sflServes = true → (u.fn r.fn).bme = true →
    ∃ t, exec (.policySubmit dt r bytes) s = .next t ∧
      (∀ p, c.2 = some p → t.sfl.seqMax = p.seq ∧ t.regN .SFL_POLICY_SEQ = p.seq % 2 ^ 32 ∧ t.fld F.SFL_STATUS_policy = 2 ∧
        u.answered t (cmdRef r) k 0 0) ∧
      (c.2 = none → t.sfl.table = u.sfl.table ∧ t.sfl.seqMax = u.sfl.seqMax ∧ u.replied t (cmdRef r) k stDenied)) ∧
  (∀ (s : State) (dt : Nat) (r : CmdName) (k : Cmd) (key : List Byte), let u := s.elapse dt
    u.asked (cmdRef r) 0x0407 k → u.resetting = false → u.sflServes = true → (u.fn r.fn).bme = true →
    ∃ t, exec (.privEnrol dt r key) s = .next t ∧
      (u.sfl.enrol = none → Config.sm2Valid key = true →
        t.sfl.enrol = some (Config.sm3 key) ∧ Out.fuse (Config.sm3 key) ∈ t.out ∧ u.replied t (cmdRef r) k stOk) ∧
      (u.sfl.enrol ≠ none ∨ Config.sm2Valid key = false → t.sfl.enrol = u.sfl.enrol ∧ u.replied t (cmdRef r) k stDenied))

/-- R390, R396, R400: A stopped clock, a supply out of range and a watchdog expiry each leave Safelight failed closed; a restart
clears its table and policy sequence; PRIV_HOLD is counted and held from its assertion to its deassertion. Each clause says that
the command named, in a state u (the state once its dt cycles have passed) that meets the conditions on the left of the last
arrow, answers a next state with that effect. -/
def Obligations.SafelightFailsClosed : Prop :=
  (∀ (s : State) (dt : Nat),
    (∃ t, exec (.sclkStop dt) s = .next t ∧ t.sfl.failClosed = some 1 ∧ t.fld F.SFL_STATUS_proc = 2 ∧
      t.fld F.GLB_CLK_STATUS_sclk_run = 0 ∧ t.fld F.GLB_CLK_LOST_sclk_run = 1) ∧
    (∃ t, exec (.vddSflOutOfRange dt) s = .next t ∧ t.sfl.failClosed = some 2 ∧ t.fld F.SFL_STATUS_proc = 2) ∧
    (∃ t, exec (.sflWatchdogExpiry dt) s = .next t ∧ t.sfl.failClosed = some 3 ∧ t.fld F.SFL_STATUS_proc = 2)) ∧
  (∀ (s : State) (dt : Nat), let u := s.elapse dt
    u.fld F.SFL_STATUS_proc = 2 →
    ∃ t, exec (.safelightRestartComplete dt) s = .next t ∧ t.fld F.SFL_STATUS_proc = 1 ∧ t.sfl.failClosed = none ∧
      t.sfl.table = [] ∧ t.sfl.seqMax = 0 ∧ t.regN .SFL_POLICY_SEQ = 0 ∧ t.fld F.SFL_STATUS_policy = b2n u.sfl.enrol.isSome) ∧
  (∀ (s : State) (dt : Nat), let u := s.elapse dt
    u.sfl.hold = false →
    ∃ t, exec (.privHoldAssert dt) s = .next t ∧ t.sfl.hold = true ∧ t.sfl.holdAt = u.now ∧ t.fld F.SFL_STATUS_hold = 1 ∧
      t.regN .SFL_CNT_HOLD = satAdd 32 (u.regN .SFL_CNT_HOLD) 1) ∧
  (∀ (s : State) (dt : Nat), let u := s.elapse dt
    u.sfl.hold = true →
    ∃ t, exec (.privHoldDeassert dt) s = .next t ∧ t.sfl.hold = false ∧ t.sfl.freeAt = u.now ∧ t.fld F.SFL_STATUS_hold = 0)

/-- R401, R402, R403, R404, R405: A sample enters the average of the last 100 (the rounding of P_avg is a free value, log 31); the
hottest sensor is reported; the governor goes to its last step on a trip temperature, one up when over a limit for its interval,
one down when well under for 100 ms, and takes a new limit; the comparator trips at once. Each clause says that the command named,
in a state u (the state once its dt cycles have passed) that meets the conditions on the left of the last arrow, answers a next
state with that effect. -/
def Obligations.PowerAndGovernor : Prop :=
  (∀ (s : State) (dt : Nat) (mw : BitVec 32), let u := s.elapse dt; let l := (mw.toNat :: u.sfl.samples).take 100
    u.sflRuns = true → l.sum / l.length + 1 < 2 ^ 17 →
    ∃ t d, exec (.powerSample dt mw) s = .next t ∧ t.sfl.samples = l ∧ d ≤ 1 ∧ (l.sum % l.length = 0 → d = 0) ∧
      t.fld F.SFL_POWER_p_avg_mw = l.sum / l.length + d) ∧
  (∀ (s : State) (dt : Nat) (temps : List (BitVec 12)), let u := s.elapse dt
    u.sflRuns = true → temps.length = 16 →
    ∃ t k, exec (.junctionRead dt temps) s = .next t ∧ t.fld F.SFL_THERM_sensor = k ∧ t.tj = (temps.getD k 0).toInt ∧
      ∀ j, j < 16 → (temps.getD j 0).toInt ≤ (temps.getD k 0).toInt) ∧
  (∀ (s : State) (dt : Nat), let u := s.elapse dt
    u.sflServes = true → 1840 ≤ u.tj →
    ∃ t, exec (.governorEvaluation dt) s = .next t ∧ t.govG = 13 ∧ (u.govG ≠ 13 → t.fld F.SFL_STATUS_trip = 1)) ∧
  (∀ (s : State) (dt : Nat), let u := s.elapse dt
    u.sflServes = true → u.tj < 1840 → u.govG ≤ 13 → u.sfl.newLimit = none → u.sfl.lastStep + 1000000 ≤ u.now →
    (u.fld F.SFL_LIMIT_limit_mw < u.fld F.SFL_POWER_p_avg_mw ∨ 1600 < u.tj) →
    ∃ t, exec (.governorEvaluation dt) s = .next t ∧ t.govG = min 13 (u.govG + 1)) ∧
  (∀ (s : State) (dt q : Nat), let u := s.elapse dt
    u.sflServes = true → u.tj ≤ 1520 → 1 ≤ u.govG → u.govG ≤ 12 → u.sfl.newLimit = none → u.sfl.quietFrom = some q → q + 100000000 ≤ u.now →
    u.sfl.lastStep + 100000000 ≤ u.now → u.fld F.SFL_POWER_p_avg_mw + 5000 ≤ u.fld F.SFL_LIMIT_limit_mw →
    ∃ t, exec (.governorEvaluation dt) s = .next t ∧ t.govG = u.govG - 1) ∧
  (∀ (s : State) (dt l : Nat), let u := s.elapse dt
    u.sflServes = true → u.sfl.newLimit = some l → l < 2 ^ 17 →
    ∃ t, exec (.governorEvaluation dt) s = .next t ∧ t.fld F.SFL_LIMIT_limit_mw = l ∧ t.sfl.newLimit = none) ∧
  (∀ (s : State) (dt : Nat), let u := s.elapse dt
    u.flag F.SFL_STATUS_trip = false →
    ∃ t, exec (.thermComparatorTrip dt) s = .next t ∧ t.fld F.SFL_STATUS_trip = 1 ∧ Out.thermTrip ∈ t.out ∧ t.fatal = true ∧
      t.fld F.ERR_FATAL_cause = 8 ∧ ∀ i : Fin 16, (t.core i).restoring = true)

/-- R352, R416, R419: CHAIN_STATUS answers who is present; PORT_FORWARD lends a stopped port to a present device of the same enrolment
and tells it the hub's words, and takes it back, or replies CLOSED or CONFLICT; WINDOW_OPEN opens the lowest closed window on an
owner's range and tells the peer, or replies BAD_PARAM, DENIED or NO_RESOURCE; WINDOW_CLOSE closes it and tells its peer, or
replies CLOSED. That the other device's answers are operands of the commands is the model's choice (log 93). Each clause says that
the command named, in a state u (the state once its dt cycles have passed) that meets the conditions on the left of the last
arrow, answers a next state with that effect. -/
def Obligations.ForwardingAndWindows : Prop :=
  (∀ (s : State) (dt : Nat) (r : CmdName) (k : Cmd), let u := s.elapse dt
    u.asked (cmdRef r) 0x0801 k →
    ∃ t, exec (.chainStatus dt r) s = .next t ∧ u.answered t (cmdRef r) k (u.fld F.CHN_STATUS_present + u.pos * 2 ^ 8) 0) ∧
  (∀ (s : State) (dt : Nat) (r : CmdName) (k : Cmd), let u := s.elapse dt; let p := getBits (k.w 0) 0 4; let q := getBits (k.w 0) 8 3
    u.asked (cmdRef r) 0x0802 k → q ≠ u.pos → u.presentPos q = true → u.portStopped p = true → u.isOut p = false → u.isIn p = false →
    (u.chn.peers.get q).enrol = u.sfl.enrol →
    ∃ t, exec (.portForward dt r true true) s = .next t ∧ t.isOut p = true ∧ t.fwdPeer p = q ∧
      Out.chainMsg q (.forward (BitVec.ofNat 4 p) true) ∈ t.out ∧
      Out.chainCtl q p (.caps (u.reg .IXL_HUB_CAPS p) (u.reg .IXL_SLOTS_PRESENT p)) ∈ t.out ∧ u.replied t (cmdRef r) k stOk) ∧
  (∀ (s : State) (dt : Nat) (r : CmdName) (k : Cmd) (targetOk pathOk : Bool), let u := s.elapse dt
    let p := getBits (k.w 0) 0 4; let q := getBits (k.w 0) 8 3
    u.asked (cmdRef r) 0x0802 k →
    ((q = u.pos ∨ u.presentPos q = false) ∨ u.portStopped p = false ∨ u.isOut p = true ∨ u.isIn p = true ∨ targetOk = false ∨
      pathOk = false ∨ (u.chn.peers.get q).enrol ≠ u.sfl.enrol) →
    exec (.portForward dt r targetOk pathOk) s =
      .next (u.reply (cmdRef r) (if q = u.pos ∨ u.presentPos q = false then stClosed else stConflict))) ∧
  (∀ (s : State) (dt : Nat) (r : CmdName) (k : Cmd), let u := s.elapse dt; let p := getBits (k.w 0) 0 4
    u.asked (cmdRef r) 0x0802 k → u.isOut p = true → u.presentPos (u.fwdPeer p) = true →
    ∃ t, exec (.portReturn dt r true) s = .next t ∧ t.isOut p = false ∧ (∀ x ∈ t.chn.trigs, x.port ≠ p) ∧
      Out.chainMsg (u.fwdPeer p) (.forward (BitVec.ofNat 4 p) false) ∈ t.out ∧ u.replied t (cmdRef r) k stOk) ∧
  (∀ (s : State) (dt : Nat) (r : CmdName) (k : Cmd) (targetOk : Bool), let u := s.elapse dt; let p := getBits (k.w 0) 0 4
    u.asked (cmdRef r) 0x0802 k → (u.isOut p = false ∨ u.presentPos (u.fwdPeer p) = false ∨ targetOk = false) →
    exec (.portReturn dt r targetOk) s =
      .next (u.reply (cmdRef r) (if u.isOut p = true ∧ u.presentPos (u.fwdPeer p) = true then stConflict else stClosed))) ∧
  (∀ (s : State) (dt : Nat) (r : CmdName) (k : Cmd) (w : Nat), let u := s.elapse dt; let n := getBits (k.w 2) 0 32
    u.asked (cmdRef r) 0x0803 k → k.w 1 % 64 = 0 → n % 64 = 0 → 0 < n → n ≤ 0x1000000 → u.ownerMemory (k.w 1) n = true →
    (List.range 16).find? (fun w => !u.flag F.CHN_WIN_CTL_open w) = some w →
    ∃ t, exec (.windowOpen dt r) s = .next t ∧ t.fld F.CHN_WIN_CTL_open w = 1 ∧ t.fld F.CHN_WIN_CTL_peer w = getBits (k.w 0) 0 3 ∧
      t.regN .CHN_WIN_LEN w = n ∧ t.pair .CHN_WIN_BASE_LO .CHN_WIN_BASE_HI w = k.w 1 % 2 ^ 64 ∧ 
      Out.chainMsg (getBits (k.w 0) 0 3) (.window (BitVec.ofNat 4 w) true (BitVec.ofNat 32 n)) ∈ t.out ∧ u.answered t (cmdRef r) k w 0) ∧
  (∀ (s : State) (dt : Nat) (r : CmdName) (k : Cmd), let u := s.elapse dt; let n := getBits (k.w 2) 0 32
    let bad := decide (k.w 1 % 64 ≠ 0 ∨ n % 64 ≠ 0 ∨ n = 0 ∨ 0x1000000 < n)
    u.asked (cmdRef r) 0x0803 k → (bad = true ∨ u.ownerMemory (k.w 1) n = false ∨ ∀ w ∈ List.range 16, u.flag F.CHN_WIN_CTL_open w = true) →
    exec (.windowOpen dt r) s = .next (u.reply (cmdRef r)
      (if bad then stBadParam else if u.ownerMemory (k.w 1) n = false then stDenied else stNoResource)
      (if k.w 1 % 64 ≠ 0 then 1 else if bad then 2 else 0))) ∧
  (∀ (s : State) (dt : Nat) (r : CmdName) (k : Cmd), let u := s.elapse dt; let w := getBits (k.w 0) 0 8
    u.asked (cmdRef r) 0x0804 k → w < 16 → u.flag F.CHN_WIN_CTL_open w = true →
    ∃ t, exec (.windowClose dt r) s = .next t ∧ t.fld F.CHN_WIN_CTL_open w = 0 ∧
      Out.chainMsg (u.fld F.CHN_WIN_CTL_peer w) (.window (BitVec.ofNat 4 w) false 0) ∈ t.out ∧ u.replied t (cmdRef r) k stOk) ∧
  (∀ (s : State) (dt : Nat) (r : CmdName) (k : Cmd), let u := s.elapse dt; let w := getBits (k.w 0) 0 8
    u.asked (cmdRef r) 0x0804 k → (16 ≤ w ∨ u.flag F.CHN_WIN_CTL_open w = false) →
    exec (.windowClose dt r) s = .next (u.reply (cmdRef r) stClosed))

/-- R410, R412, R415, R416, R417, R418, R419, R421, R422: A position block that fits makes a chain port ACTIVE and another faults it.
A packet for a device beyond goes on out of the other port. A forwarded packet is a camera packet at its stamp; forwarded control
gives the hub's words, the faults of its link and the triggers to expect. A peer write through an open window stores exactly its
bytes there and is acknowledged where it asks, and one that no window takes stores nothing, is counted and answered as refused; an
acknowledgement counts down its row, and delivers it when it is the last, a refused one leaving status 3, and one of no row in
flight is counted as late. Forward and window messages are taken; a schedule is taken by a free group and refused by another; a
trigger is kept, or answered as late, and an abort takes back the triggers kept and sends its block. Each clause says that the
command named, in a state u (the state once its dt cycles have passed) that meets the conditions on the left of the last arrow,
answers a next state with that effect. -/
def Obligations.ChainPackets : Prop :=
  (∀ (s : State) (dt : Nat) (chd : Bool) (q : BitVec 3), let u := s.elapse dt; let p := if chd then 17 else 16
    u.portState p = 3 → (u.port p).waiting = false → u.now ≤ (u.port p).since + 500000 →
    ∃ t, exec (.posBlockReceived dt chd q) s = .next t ∧
      t.portState p = if (if chd then u.pos + 1 = q.toNat else q.toNat + 1 = u.pos) then 4 else 6) ∧
  (∀ (s : State) (dt : Nat) (q d : BitVec 3) (p : Fin 16) (stamp : BitVec 64) (k : Packet), let u := s.elapse dt
    u.fromChain q.toNat d.toNat → u.isIn p = true → u.fwdPeer p = q.toNat → 1 ≤ k.ptype.toNat → k.ptype.toNat ≤ 4 →
    exec (.fwdPkt dt q d p stamp k) s =
      .next ((u.chainAccept (u.portToward q.toNat) (pktBytes k).length).asOf stamp.toNat fun s => s.cameraPacket p k)) ∧
  (∀ (s : State) (dt : Nat) (q d : BitVec 3) (p : Fin 16) (stamp : BitVec 64) (k : Packet), let u := s.elapse dt
    let a := u.portToward q.toNat
    q.toNat ≠ u.pos → u.portState a = 4 → d.toNat ≠ u.pos → u.portToward d.toNat = 33 - a → u.portState (33 - a) = 4 →
    exec (.fwdPkt dt q d p stamp k) s = .next ((u.chainAccept a (pktBytes k).length).emit
      (.transit q.toNat (.chainPkt d.toNat 1 p stamp.toNat (pktBytes k))))) ∧
  (∀ (s : State) (dt : Nat) (q d : BitVec 3) (len : BitVec 12) (m : ChainMsg), let u := s.elapse dt
    let a := u.portToward q.toNat
    q.toNat ≠ u.pos → u.portState a = 4 → d.toNat ≠ u.pos → u.portToward d.toNat = 33 - a → u.portState (33 - a) = 4 →
    exec (.chainMsg dt q d len m) s = .next ((u.chainAccept a len.toNat).emit (.transit q.toNat (.chainMsg d.toNat m)))) ∧
  (∀ (s : State) (dt : Nat) (q d : BitVec 3) (p : Fin 16) (len : BitVec 12) (hub slots : Word), let u := s.elapse dt
    u.fromChain q.toNat d.toNat → u.isIn p = true → u.fwdPeer p = q.toNat →
    ∃ t, exec (.fwdCtl dt q d p len (.caps hub slots)) s = .next t ∧ t.reg .IXL_HUB_CAPS p = hub ∧ t.reg .IXL_SLOTS_PRESENT p = slots) ∧
  (∀ (s : State) (dt : Nat) (q d : BitVec 3) (p : Fin 16) (len : BitVec 12) (c : FwdCtl), let u := s.elapse dt
    u.fromChain q.toNat d.toNat → u.isIn p = true → u.fwdPeer p = q.toNat → triggerReport c = false →
    exec (.fwdCtl dt q d p len c) s = .next ((u.chainAccept (u.portToward q.toNat) len.toNat).frameEffect p c)) ∧
  (∀ (s : State) (dt : Nat) (q d : BitVec 3) (p : Fin 16) (len : BitVec 12) (mask : Word) (seq : BitVec 14) (inst : Nat) (j : Fin 32),
    let u := s.elapse dt; let n := 32 * p.val + j.val
    u.fromChain q.toNat d.toNat → u.isIn p = true → u.fwdPeer p = q.toNat → bit mask.toNat j = true →
    (u.cam n).asked.any (fun l => l.s == inst) = true →
    ∃ t, exec (.fwdCtl dt q d p len (.trigger mask seq inst)) s = .next t ∧
      (t.cam n).expect = (u.cam n).expect ++ [⟨seq.toNat, inst + u.startTimeout n⟩] ∧
      (t.cam n).asked = (u.cam n).asked.filter (fun l => l.s != inst)) ∧
  (∀ (s : State) (dt : Nat) (q d : BitVec 3) (info : BitVec 64) (bytes : List Byte), let u := s.elapse dt
    let w := getBits info.toNat 32 8; let off := getBits info.toNat 0 32
    u.fromChain q.toNat d.toNat → w < 16 → u.flag F.CHN_WIN_CTL_open w = true → u.fld F.CHN_WIN_CTL_peer w = q.toNat →
    off + bytes.length ≤ u.regN .CHN_WIN_LEN w →
    ∃ t, exec (.peerWr dt q d info bytes) s = .next t ∧
      t.mem = memWrites u.mem (u.pair .CHN_WIN_BASE_LO .CHN_WIN_BASE_HI w + off) bytes ∧
      (bit info.toNat 48 = true →
        Out.chainPkt q.toNat 4 (getBits info.toNat 32 4) (getBits info.toNat 0 49) [] ∈ t.out)) ∧
  (∀ (s : State) (dt : Nat) (q d : BitVec 3) (info : BitVec 64) (bytes : List Byte), let u := s.elapse dt
    let w := getBits info.toNat 32 8
    u.fromChain q.toNat d.toNat → (16 ≤ w ∨ u.flag F.CHN_WIN_CTL_open w = false ∨ u.fld F.CHN_WIN_CTL_peer w ≠ q.toNat ∨
      u.regN .CHN_WIN_LEN w < getBits info.toNat 0 32 + bytes.length) →
    ∃ t, exec (.peerWr dt q d info bytes) s = .next t ∧ t.mem = u.mem ∧
      t.regN .CHN_CNT_WIN_DROP = satAdd 32 (u.regN .CHN_CNT_WIN_DROP) 1 ∧
      Out.chainPkt q.toNat 4 (getBits info.toNat 32 4) (getBits info.toNat 0 49 + 2 ^ 49) [] ∈ t.out) ∧
  (∀ (s : State) (dt : Nat) (q d : BitVec 3) (info : BitVec 64) (xs ys : List Xfer) (x : Xfer) (r m : Nat) (bs : List Byte),
    let u := s.elapse dt
    let i := getBits info.toNat 40 4; let j := getBits info.toNat 44 4; let w := getBits info.toNat 32 8; let off := getBits info.toNat 0 32
    u.fromChain q.toNat d.toNat → getBits info.toNat 49 2 = 0 → u.dmaQ i j = xs ++ x :: ys →
    (∀ y ∈ xs, y.rowOfPeer q.toNat w off = none) → x.rowOfPeer q.toNat w off = some r → x.unacked = [(r, m + 2, bs)] →
    ∃ t, exec (.peerAck dt q d info) s = .next t ∧ t.dmaQ i j = xs ++ { x with unacked := [(r, m + 1, bs)] } :: ys) ∧
  (∀ (s : State) (dt : Nat) (q d : BitVec 3) (info : BitVec 64) (x : Xfer) (r : Nat) (bs : List Byte), let u := s.elapse dt
    let i := getBits info.toNat 40 4; let j := getBits info.toNat 44 4
    u.fromChain q.toNat d.toNat → u.dmaQ i j = [x] →
    x.rowOfPeer q.toNat (getBits info.toNat 32 8) (getBits info.toNat 0 32) = some r → x.unacked = [(r, 1, bs)] →
    exec (.peerAck dt q d info) s =
      .next (((u.chainAccept (u.portToward q.toNat) 0).setDmaQ i j [{ x with unacked := [], status := if getBits info.toNat 49 2 = 1 ∧ x.status = 0 then 3 else x.status }]).rowCounts i j 0 r bs)) ∧
  (∀ (s : State) (dt : Nat) (q d : BitVec 3) (info : BitVec 64), let u := s.elapse dt
    let i := getBits info.toNat 40 4; let j := getBits info.toNat 44 4
    u.fromChain q.toNat d.toNat → getBits info.toNat 49 2 = 1 →
    (∀ x ∈ u.dmaQ i j, x.rowOfPeer q.toNat (getBits info.toNat 32 8) (getBits info.toNat 0 32) = none) →
    ∃ t, exec (.peerAck dt q d info) s = .next t ∧ t.dmaQ i j = u.dmaQ i j ∧
      t.regN .CHN_CNT_CLOSED_LATE = satAdd 32 (u.regN .CHN_CNT_CLOSED_LATE) 1) ∧
  (∀ (s : State) (dt : Nat) (q d : BitVec 3) (len : BitVec 12) (p : BitVec 4) (on : Bool), let u := s.elapse dt
    u.fromChain q.toNat d.toNat →
    ∃ t, exec (.chainMsg dt q d len (.forward p on)) s = .next t ∧ t.isIn p.toNat = on ∧ t.fwdPeer p.toNat = q.toNat) ∧
  (∀ (s : State) (dt : Nat) (q d : BitVec 3) (len : BitVec 12) (w : BitVec 4) (on : Bool) (n : Word), let u := s.elapse dt
    u.fromChain q.toNat d.toNat →
    ∃ t, exec (.chainMsg dt q d len (.window w on n)) s = .next t ∧ bit (t.fld F.CHN_RWIN_open q.toNat) w.toNat = on ∧
      t.chn.rwin.get (16 * q.toNat + w.toNat) = if on then n.toNat else 0) ∧
  (∀ (s : State) (dt : Nat) (q d : BitVec 3) (len : BitVec 12) (g : BitVec 5) (base apply : BitVec 64) (per : BitVec 32),
    let u := s.elapse dt
    u.fromChain q.toNat d.toNat → per ≠ 0 → u.owner (32 + g.toNat) = 0 → u.flag F.SYN_SCHED_CTL_enable g.toNat = false →
    ∃ t, exec (.chainMsg dt q d len (.schedule g base per apply)) s = .next t ∧ t.owner (32 + g.toNat) = 5 ∧
      (t.time.sched.get g.toNat).apply = some (apply.toNat, base.toNat, per.toNat) ∧
      Out.chainMsg q.toNat (.scheduleAnswer g true) ∈ t.out) ∧
  (∀ (s : State) (dt : Nat) (q d : BitVec 3) (len : BitVec 12) (g : BitVec 5) (base apply : BitVec 64) (per : BitVec 32),
    let u := s.elapse dt
    u.fromChain q.toNat d.toNat → per ≠ 0 → (u.owner (32 + g.toNat) ≠ 0 ∨ u.flag F.SYN_SCHED_CTL_enable g.toNat = true) →
    ∃ t, exec (.chainMsg dt q d len (.schedule g base per apply)) s = .next t ∧ t.owner (32 + g.toNat) = u.owner (32 + g.toNat) ∧
      t.time = u.time ∧ Out.chainMsg q.toNat (.scheduleAnswer g false) ∈ t.out) ∧
  (∀ (s : State) (dt : Nat) (q d : BitVec 3) (len : BitVec 12) (p : BitVec 4) (mask : Word) (launch inst : Nat),
    let u := s.elapse dt
    u.fromChain q.toNat d.toNat → u.isOut p.toNat = true → u.fwdPeer p.toNat = q.toNat → u.now ≤ launch →
    ∃ t, exec (.chainMsg dt q d len (.trigger p mask launch inst false)) s = .next t ∧ t.chn.trigs = u.chn.trigs ++
      [{ port := p.toNat, slotMask := mask.toNat, launch := launch, inst := inst, from_ := q.toNat }]) ∧
  (∀ (s : State) (dt : Nat) (q d : BitVec 3) (len : BitVec 12) (p : BitVec 4) (mask : Word) (launch inst : Nat),
    let u := s.elapse dt
    u.fromChain q.toNat d.toNat → u.isOut p.toNat = true → u.fwdPeer p.toNat = q.toNat → launch < u.now →
    ∃ t, exec (.chainMsg dt q d len (.trigger p mask launch inst false)) s = .next t ∧ t.chn.trigs = u.chn.trigs ∧
      Out.chainCtl q.toNat p.toNat (.trigger mask 0x3FFF inst) ∈ t.out) ∧
  (∀ (s : State) (dt : Nat) (q d : BitVec 3) (len : BitVec 12) (p : BitVec 4) (mask : Word) (launch inst : Nat),
    let u := s.elapse dt
    u.fromChain q.toNat d.toNat → u.isOut p.toNat = true → u.fwdPeer p.toNat = q.toNat →
    exec (.chainMsg dt q d len (.trigger p mask launch inst true)) s =
      .next (((u.chainAccept (u.portToward q.toNat) len.toNat).modChn fun x => { x with
        trigs := x.trigs.filter fun r => !(r.port == p.toNat && r.from_ == q.toNat && Nat.land r.slotMask mask.toNat != 0) }).sendTrigger
          p.toNat mask.toNat 1 u.now).2)

/-- R414, R423, R424, R425: A STATUS packet marks its sender present with its words; one is sent every 65,536 ns; a position not heard
for 262,144 ns is no longer present, its windows being closed; a port lent to a lost device is taken back. For the cable delay, a
request goes out every 1,048,576 ns; a request is answered with a turnaround (a free value, log 96); a response gives one of the
last eight measurements, of which the delay is half the mean, rounded down or up (a free value, log 31). Each clause says that the
command named, in a state u (the state once its dt cycles have passed) that meets the conditions on the left of the last arrow,
answers a next state with that effect. -/
def Obligations.ChainPresence : Prop :=
  (∀ (s : State) (dt : Nat) (q : BitVec 3) (len : BitVec 12) (reach : Byte) (st : BitVec 2) (enrol : Option (List Byte)) (seq : Word),
    let u := s.elapse dt
    q.toNat ≠ u.pos → u.portState (u.portToward q.toNat) = 4 →
    ∃ t, exec (.chainStatusPacket dt q len reach st enrol seq) s = .next t ∧ t.presentPos q.toNat = true ∧
      (t.chn.peers.get q.toNat).at_ = some u.now ∧ (t.chn.peers.get q.toNat).enrol = enrol ∧
      (t.chn.peers.get q.toNat).policySeq = seq.toNat ∧ (t.chn.peers.get q.toNat).timeState = st.toNat) ∧
  (∀ (s : State) (dt : Nat), let u := s.elapse dt
    (u.portState 16 = 4 ∨ u.portState 17 = 4) → u.chn.statusNext ≤ u.now →
    ∃ t, exec (.statusSendTimer dt) s = .next t ∧ t.chn.statusNext = u.now + 65536 ∧
      t.out = .chainStatus (u.fld F.CHN_STATUS_present) (u.fld F.SYN_STATUS_state) u.sfl.enrol (u.regN .SFL_POLICY_SEQ) :: u.out) ∧
  (∀ (s : State) (dt a : Nat) (q : BitVec 3), let u := s.elapse dt
    (u.chn.peers.get q.toNat).at_ = some a → a + 262144 < u.now → u.presentPos q.toNat = true → q.toNat ≠ u.pos →
    ∃ t, exec (.presenceTimeout dt q) s = .next t ∧ t.presentPos q.toNat = false ∧ t.regN .CHN_RWIN q.toNat = 0 ∧
      t.regN .CHN_CNT_PEER_LOST = satAdd 32 (u.regN .CHN_CNT_PEER_LOST) 1 ∧
      (∀ w ∈ List.range 16, u.fld F.CHN_WIN_CTL_peer w = q.toNat → t.flag F.CHN_WIN_CTL_open w = false)) ∧
  (∀ (s : State) (dt a : Nat) (p : Fin 16), let u := s.elapse dt
    u.chn.lostAt.get p = some a → a + 262144 ≤ u.now →
    ∃ t, exec (.forwardTakeback dt p) s = .next t ∧ t.isOut p = false ∧ t.chn.lostAt.get p = none ∧ (∀ x ∈ t.chn.trigs, x.port ≠ p.val)) ∧
  (∀ (s : State) (dt : Nat), let u := s.elapse dt
    1 ≤ u.pos → u.portState 16 = 4 → u.chn.delayNext ≤ u.now →
    ∃ t, exec (.delayReqTimer dt) s = .next t ∧ t.out = .delayReq :: u.out ∧ t.chn.t1 = some u.now16 ∧
      t.chn.delayNext = u.now + 1048576) ∧
  (∀ (s : State) (dt : Nat), let u := s.elapse dt
    u.portState 17 = 4 →
    ∃ t x, exec (.delayReq dt) s = .next t ∧ t.out = .delayResp x :: u.out ∧ x < 2 ^ 32) ∧
  (∀ (s : State) (dt a : Nat) (turn : Word), let u := s.elapse dt
    let m := (((u.now16 : Int) - a - turn.toNat) :: u.chn.meas).take 8
    u.chn.t1 = some a →
    ∃ t, exec (.delayResp dt turn) s = .next t ∧ t.chn.t1 = none ∧
      t.chn.meas = m ∧
      (m.length = 8 → let adj := toSigned 12 (u.fld F.CHN_DELAY_ADJ_adj); let d := t.fld F.CHN_CABLE_delay;
        d = ofSigned 20 (m.sum / 16 + adj) ∨ m.sum % 16 ≠ 0 ∧ d = ofSigned 20 (m.sum / 16 + 1 + adj)))

/-- R297, R298, R299, R302, R305, R306, R308, R309, R311, R312, R313: A hit keeps its line, dirty after a write; an error of its
memory is corrected and counted, poisons a dirty line, and drops a clean one, which is asked for again; the control region has
lines of its own. A miss takes a way of its core where it has one, and else goes to DDR5 alone. A returned block is read again
after a CRC error, and poisons its line after the third; one that decrypts fills memory save where newer bytes stand; one whose
MAC is of poison or of nothing poisons the line and is counted. A channel serves its window by the queue's key, the arrival and
the core; a written block leaves for DDR5 with its version, device memory staying as it is; refresh goes round the banks, and
faster while hot. The number of banks is a free value (Config.dramBanks, log 184). Each clause says that the command named, in a
state u (the state once its dt cycles have passed) that meets the conditions on the left of the last arrow, answers a next state
with that effect. -/
def Obligations.MemorySystem : Prop :=
  (∀ (s : State) (dt : Nat) (x : Fin 9) (l : BitVec 32) (acc : MemAcc) (na : Bool) (key : BitVec 64) (i : Fin 16) (err : SramErr) (y : HLine),
    let u := s.elapse dt
    u.hold.find l.toNat = some y → err ≠ .uncorrectable →
    ∃ t, exec (.holdCacheRequest dt x l acc na key ⟨i, err, false⟩) s = .next t ∧
      t.hold.find l.toNat = some { y with dirty := y.dirty || decide (acc ≠ .read), poison := y.poison && decide (acc ≠ .fullWrite) } ∧
      t.hold.lines.length = u.hold.lines.length ∧ t.mem = u.mem ∧
      t.regN .HLD_ECC_CNT = if err = .corrected then satAdd 32 (u.regN .HLD_ECC_CNT) 1 else u.regN .HLD_ECC_CNT) ∧
  (∀ (s : State) (dt : Nat) (x : Fin 9) (l : BitVec 32) (acc : MemAcc) (na : Bool) (key : BitVec 64) (i : Fin 16) (y : HLine),
    let u := s.elapse dt
    u.hold.find l.toNat = some y → (y.dirty = true ∨ y.poison = true) →
    ∃ t, exec (.holdCacheRequest dt x l acc na key ⟨i, .uncorrectable, false⟩) s = .next t ∧
      t.hold.find l.toNat = some { y with dirty := y.dirty || decide (acc ≠ .read), poison := decide (acc ≠ .fullWrite) } ∧
      t.regN .HLD_ECC_CNT = satAdd 32 (u.regN .HLD_ECC_CNT) 1) ∧
  (∀ (s : State) (dt : Nat) (x : Fin 9) (l : BitVec 32) (acc : MemAcc) (na : Bool) (key : BitVec 64) (i : Fin 16) (y : HLine),
    let u := s.elapse dt
    u.hold.find l.toNat = some y → y.dirty = false → y.poison = false →
    ∃ t, exec (.holdCacheRequest dt x l acc na key ⟨i, .uncorrectable, false⟩) s = .next t ∧
      (acc ≠ .fullWrite →
        ((t.hold.window.get (chanOf64 (64 * l.toNat))).any fun q => !q.write && q.line == l.toNat && q.at_ == u.now) = true) ∧
      t.regN .HLD_ECC_CNT = satAdd 32 (u.regN .HLD_ECC_CNT) 1) ∧
  (∀ (s : State) (dt : Nat) (x : Fin 9) (l : BitVec 32) (acc : MemAcc) (na : Bool) (key : BitVec 64) (i : Fin 16) (err : SramErr),
    let u := s.elapse dt
    ∃ t, exec (.holdCacheRequest dt x l acc na key ⟨i, err, true⟩) s = .next t ∧ t.hold.lines = u.hold.lines ∧
      t.hold.window = u.hold.window ∧
      (err = .uncorrectable → t.hold.control.contains (2048 * sliceOf l.toNat + setOf l.toNat) = true) ∧
      t.regN .HLD_ECC_CNT = if err = .none then u.regN .HLD_ECC_CNT else satAdd 32 (u.regN .HLD_ECC_CNT) 1) ∧
  (∀ (s : State) (dt : Nat) (x : Fin 9) (l : BitVec 32) (part na : Bool) (key : BitVec 64) (i : Fin 16) (err : SramErr), let u := s.elapse dt
    u.hold.find l.toNat = none → (na = true ∧ u.pinOf (64 * l.toNat) = none ∨ u.waysFor x l.toNat = []) →
    ∃ t, exec (.holdCacheRequest dt x l (if part then .partWrite else .read) na key ⟨i, err, false⟩) s = .next t ∧
      t.hold.lines = u.hold.lines ∧ t.hold.window.get (chanOf64 (64 * l.toNat)) = u.hold.window.get (chanOf64 (64 * l.toNat)) ++
        [{ line := l.toNat, write := false, key := key.toNat, at_ := u.now, core := i, noAlloc := true, merge := part }]) ∧
  (∀ (s : State) (dt : Nat) (x : Fin 9) (l : BitVec 32) (na : Bool) (key : BitVec 64) (i : Fin 16) (err : SramErr), let u := s.elapse dt
    u.hold.find l.toNat = none → (na = true ∧ u.pinOf (64 * l.toNat) = none ∨ u.waysFor x l.toNat = []) →
    ∃ t, exec (.holdCacheRequest dt x l .fullWrite na key ⟨i, err, false⟩) s = .next t ∧ t.hold.lines = u.hold.lines ∧
      (t.hold.window.get (chanOf64 (64 * l.toNat))).getLast? =
        some { line := l.toNat, write := true, key := key.toNat, at_ := u.now, core := i, noAlloc := true }) ∧
  (∀ (s : State) (dt : Nat) (x : Fin 9) (l : BitVec 32) (acc : MemAcc) (na : Bool) (key : BitVec 64) (i : Fin 16) (err : SramErr),
    let u := s.elapse dt
    u.hold.find l.toNat = none → (na = false ∨ u.pinOf (64 * l.toNat) ≠ none) → u.waysFor x l.toNat ≠ [] →
    ∃ t, exec (.holdCacheRequest dt x l acc na key ⟨i, err, false⟩) s = .next t ∧
      (t.hold.find l.toNat).any (fun y => y.dirty == decide (acc ≠ .read) && (u.waysFor x l.toNat).contains y.way) = true ∧
      (acc ≠ .fullWrite → (t.hold.window.get (chanOf64 (64 * l.toNat))).getLast? =
        some { line := l.toNat, write := false, key := key.toNat, at_ := u.now, core := i.val, noAlloc := na }) ∧
      (acc = .fullWrite → (t.hold.window.get (chanOf64 (64 * l.toNat))).filter (fun r => !r.write && r.line != l.toNat) =
        (u.hold.window.get (chanOf64 (64 * l.toNat))).filter fun r => !r.write && r.line != l.toNat)) ∧
  (∀ (s : State) (dt : Nat) (c : Fin 8) (cipher side : List Byte) (r : MemReq) (rs : List MemReq), let u := s.elapse dt
    u.hold.inFlight.get c = r :: rs → leAt side 8 4 ≠ blockCrc (bytesAt cipher 0 64) (bytesAt side 0 8) (bytesAt side 12 4) →
    r.rereads < 3 →
    ∃ t, exec (.ddr5ReadReturn dt c cipher side) s = .next t ∧ t.hold.inFlight.get c = rs ∧ t.mem = u.mem ∧
      t.regN .MEM_CNT_CRC_RETRY = satAdd 32 (u.regN .MEM_CNT_CRC_RETRY) 1 ∧
      t.hold.window.get (chanOf64 (64 * r.line)) = u.hold.window.get (chanOf64 (64 * r.line)) ++ [{ r with rereads := r.rereads + 1 }]) ∧
  (∀ (s : State) (dt : Nat) (c : Fin 8) (cipher side : List Byte) (r : MemReq) (rs : List MemReq), let u := s.elapse dt
    u.hold.inFlight.get c = r :: rs → leAt side 8 4 ≠ blockCrc (bytesAt cipher 0 64) (bytesAt side 0 8) (bytesAt side 12 4) →
    3 ≤ r.rereads →
    ∃ t, exec (.ddr5ReadReturn dt c cipher side) s = .next t ∧ t.hold.inFlight.get c = rs ∧ t.mem = u.mem ∧
      t.regN .MEM_CNT_CRC_POISON = satAdd 32 (u.regN .MEM_CNT_CRC_POISON) 1 ∧
      t.pair .MEM_POISON_ADDR_LO .MEM_POISON_ADDR_HI 0 = 64 * r.line % 2 ^ 64) ∧
  (∀ (s : State) (dt : Nat) (c : Fin 8) (cipher side : List Byte) (r : MemReq) (rs : List MemReq), let u := s.elapse dt
    let b := bytesAt cipher 0 64; let mac := bytesAt side 0 8
    let ver := u.hold.initWrites + u.hold.version.get (64 * r.line / 2 ^ 21)
    let v := ver - (ver % 2 ^ 32 + 2 ^ 32 - leAt side 12 4) % 2 ^ 32
    u.hold.inFlight.get c = r :: rs → leAt side 8 4 = blockCrc b mac (bytesAt side 12 4) → mac = u.blockMac r.line v b →
    ∃ t, exec (.ddr5ReadReturn dt c cipher side) s = .next t ∧ t.hold.inFlight.get c = rs ∧
      t.mem = (if r.superseded || r.old then u.mem else mergeLine u.mem r.line (u.hold.fresh.get r.line) (u.crypt r.line v b)) ∧
      (r.merge = true → r.sweep = false → ((t.hold.window.get (chanOf64 (64 * r.line))).any fun q => q.write && q.line == r.line) = true)) ∧
  (∀ (s : State) (dt : Nat) (c : Fin 8) (cipher side : List Byte) (r : MemReq) (rs : List MemReq), let u := s.elapse dt
    let b := bytesAt cipher 0 64; let mac := bytesAt side 0 8
    let ver := u.hold.initWrites + u.hold.version.get (64 * r.line / 2 ^ 21)
    let v := ver - (ver % 2 ^ 32 + 2 ^ 32 - leAt side 12 4) % 2 ^ 32
    u.hold.inFlight.get c = r :: rs → leAt side 8 4 = blockCrc b mac (bytesAt side 12 4) → mac ≠ u.blockMac r.line v b →
    ∃ t, exec (.ddr5ReadReturn dt c cipher side) s = .next t ∧ t.hold.inFlight.get c = rs ∧ t.mem = u.mem ∧
      (mac = (u.blockMac r.line v b).map (fun y => ~~~ y) →
        t.regN .MEM_CNT_POISON_READ = satAdd 32 (u.regN .MEM_CNT_POISON_READ) 1 ∧ t.regN .MEM_CNT_MAC_FAIL = u.regN .MEM_CNT_MAC_FAIL) ∧
      (mac ≠ (u.blockMac r.line v b).map (fun y => ~~~ y) →
        t.regN .MEM_CNT_MAC_FAIL = satAdd 32 (u.regN .MEM_CNT_MAC_FAIL) 1 ∧
        t.pair .MEM_POISON_ADDR_LO .MEM_POISON_ADDR_HI 0 = 64 * r.line % 2 ^ 64)) ∧
  (∀ (s : State) (dt : Nat) (c : Fin 8) (held : List (BitVec 32)) (r : MemReq), let u := s.elapse dt; let w := u.hold.window.get c
    r ∈ w → r.line ∉ held.map (·.toNat) → w.length ≤ 64 →
    (∀ x ∈ w, x.write = false ∧ x.sweep = false ∧ x.rereads = 0 ∧ u.now < x.at_ + 20000) →
    (∀ x ∈ w, x = r ∨ x.line ∈ held.map (·.toNat) ∨ r.key < x.key ∨
      r.key = x.key ∧ (r.at_ < x.at_ ∨ r.at_ = x.at_ ∧ r.core < x.core)) →
    ∃ t, exec (.ddr5RequestServe dt c held) s = .next t ∧ t.hold.window.get c = w.erase r ∧
      t.hold.inFlight.get c = u.hold.inFlight.get c ++ [r] ∧ t.out = u.out) ∧
  (∀ (s : State) (dt : Nat) (c : Fin 8) (held : List (BitVec 32)) (r : MemReq), let u := s.elapse dt
    u.hold.window.get c = [r] → r.write = true → r.line ∉ held.map (·.toNat) → u.sweepHolds r.line = false →
    ∃ t cipher side, exec (.ddr5RequestServe dt c held) s = .next t ∧
      t.out = .ddrWrite (chanOf64 (64 * r.line)) r.line cipher side :: u.out ∧
      t.hold.inFlight.get c = (u.hold.inFlight.get c).map fun q => if q.line = r.line then { q with old := true } else q) ∧
  (∀ (s : State) (dt : Nat) (l : BitVec 32), let u := s.elapse dt; let g := 64 * l.toNat / 2 ^ 21
    u.sweepHolds l.toNat = false →
    ∃ t cipher side, exec (.ddr5BlockWrite dt l) s = .next t ∧ t.hold.version.get g = u.hold.version.get g + 1 ∧ t.mem = u.mem ∧
      t.out = .ddrWrite (chanOf64 (64 * l.toNat)) l.toNat cipher side :: u.out) ∧
  (∀ (s : State) (dt : Nat) (l : BitVec 32), let u := s.elapse dt
    u.sweepHolds l.toNat = true → exec (.ddr5BlockWrite dt l) s = .next u) ∧
  (∀ (s : State) (dt : Nat) (c : Fin 8), let u := s.elapse dt; let b := u.hold.bank.get c; let k := 8 * b + c.val
    u.hold.refreshAt.get k ≤ u.time.tclk →
    ∃ t, exec (.refreshInterval dt c) s = .next t ∧ t.out = .refresh c b :: u.out ∧
      t.hold.bank.get c = (b + 1) % max 1 Config.dramBanks ∧
      t.hold.refreshAt.get k = u.hold.refreshAt.get k + if u.flag F.MEM_STATUS_hot then 1950 else 3900) ∧
  (∀ (s : State) (dt : Nat), ∃ t, exec (.dramHot dt) s = .next t ∧ t.fld F.MEM_STATUS_hot = 1) ∧
  (∀ (s : State) (dt : Nat), ∃ t, exec (.dramHotEnd dt) s = .next t ∧ t.fld F.MEM_STATUS_hot = 0)

/-- R270, R271, R275, R276, R277, R280, R285, R286, R287, R288, R289: An instruction in turn that is in range, of its context, legal
and fits queues its transfer, faults otherwise, and waits while the queue is full; it is placed in its DMA queue. The engine
issues pieces within its limits and rows with none, or records a row's fault with its cause, side, address, coordinates and CRC. A
delivered row lands in the scratchpad, the shape words or device memory at its place, or leaves for the host or a peer, and with a
barrier waits for its acknowledgement; a HOST row of a function that is no bus master faults; the last row completes the transfer
with its status. A page that has become present resumes the transfer, firmware being told once of one that has not, and a fault
that cannot be resumed or whose wait has passed poisons it. Each clause says that the command named, in a state u (the state once
its dt cycles have passed) that meets the conditions on the left of the last arrow, answers a next state with that effect. -/
def Obligations.DmaTransfers : Prop :=
  (∀ (s : State) (dt : Nat) (i : Fin 16) (c : Fin 8) (o : DmaOp), let u := s.elapse dt
    let x : Xfer := {
        ctx := c, pc := u.pcOf i c, queue := o.queue.toNat, desc := o.desc.toNat, bytes := (u.core i).descs.get o.desc.toNat,
        addSrc := o.addSrc.elim 0 (fun r => u.sreg i c r.toNat), addDst := o.addDst.elim 0 (fun r => u.sreg i c r.toNat),
        fix3 := o.fix3.map BitVec.toNat, fix2 := if o.fix3.isSome then o.fix2.map BitVec.toNat else none,
        launch := o.launch.map (fun r => u.sreg i c r.toNat + u.sreg i c (r.toNat + 1) * 2 ^ 32) }
    u.itsTurn i c → u.dmaFree i = true → o.desc.toNat < u.fld F.LC_DESC_COUNT_count i →
    o.queue.toNat / 2 = c.val → x.legal = true → x.fits (u.regN .LC_SPAD_SIZE i) = true →
    ∃ t, exec (.dmaInstruction dt i c o) s = .next t ∧ (t.core i).dq = (u.core i).dq ++ [u.issued i (u.core i).serial x] ∧
      t.pcOf i c = (u.pcOf i c + 1) % 4096) ∧
  (∀ (s : State) (dt : Nat) (i : Fin 16) (c : Fin 8) (o : DmaOp), let u := s.elapse dt
    let x : Xfer := {
        ctx := c, pc := u.pcOf i c, queue := o.queue.toNat, desc := o.desc.toNat, bytes := (u.core i).descs.get o.desc.toNat,
        addSrc := o.addSrc.elim 0 (fun r => u.sreg i c r.toNat), addDst := o.addDst.elim 0 (fun r => u.sreg i c r.toNat),
        fix3 := o.fix3.map BitVec.toNat, fix2 := if o.fix3.isSome then o.fix2.map BitVec.toNat else none,
        launch := o.launch.map (fun r => u.sreg i c r.toNat + u.sreg i c (r.toNat + 1) * 2 ^ 32) }
    let range := decide (u.fld F.LC_DESC_COUNT_count i ≤ o.desc.toNat); let bad := decide (o.queue.toNat / 2 ≠ c.val) || !x.legal
    u.itsTurn i c → u.dmaFree i = true → c.val ≠ 6 → u.fld F.LC_FAULT_code i = 0 →
    (range || bad || !x.fits (u.regN .LC_SPAD_SIZE i)) = true →
    ∃ t, exec (.dmaInstruction dt i c o) s = .next t ∧ t.coreState i = 4 ∧ (t.core i).dq = [] ∧
      t.fld F.LC_FAULT_code i = if range then fDescRange else if bad then fIllegalOp else fSpadRange) ∧
  (∀ (s : State) (dt : Nat) (i : Fin 16) (c : Fin 8) (o : DmaOp), let u := s.elapse dt
    u.itsTurn i c → u.dmaFree i = false →
    ∃ t, exec (.dmaInstruction dt i c o) s = .next t ∧ t.ctxState i c = 2 ∧ (t.core i).dq = (u.core i).dq ∧ t.pcOf i c = u.pcOf i c) ∧
  (∀ (s : State) (dt : Nat) (i : Fin 16) (x : Xfer) (l : List Xfer), let u := s.elapse dt; let d := u.dmaQ i x.queue
    (u.core i).dq = x :: l → d.length < 16 → u.coreState i ≠ 4 → u.dmaStarts i x = true →
    (d ++ [x]).head?.any (fun y => y.rows < y.total) = true →
    ∃ t, exec (.dmaTransferPlace dt i) s = .next t ∧ (t.core i).dq = l ∧ t.dmaQ i x.queue = d ++ [{ x with placed := u.now }]) ∧
  (∀ (s : State) (dt : Nat) (i : Fin 16) (write : Bool) (back : List (Fin 16 × Byte)) (q k : Nat) (x : Xfer) (p : Bool × Nat × Nat × Nat),
    let u := (s.elapse dt).returnSlots i (back.map fun e => (e.1.val, e.2.toNat)); let n := 16 * i.val + q
    let need := linesOf p.2.2.1 p.2.2.2 - x.lines
    let now := min need (min (u.maxOut i q - u.regN .LC_DMAQ_OUT n) (1024 - u.engineOut i))
    u.dmaWinner i write = some q → u.issuing i q = some (k, x) → (x.pieces ≠ 0 ∨ x.lines ≠ 0 ∨ u.rowFault i x x.issued = none) →
    x.nextPiece = some p →
    ∃ t y, exec (.dmaPieceIssue dt i write back) s = .next t ∧ t.regN .LC_DMAQ_OUT n = (u.regN .LC_DMAQ_OUT n + now) % 2 ^ 32 ∧
      (t.dmaQ i q)[k]? = some y ∧
      y = (if now < need then { x with lines := x.lines + now }
           else if x.pieces + 1 < (x.rowPieces x.issued).length then { x with pieces := x.pieces + 1, lines := 0 }
           else { x with issued := x.issued + 1, pieces := 0, lines := 0 })) ∧
  (∀ (s : State) (dt : Nat) (i : Fin 16) (write : Bool) (back : List (Fin 16 × Byte)) (q k : Nat) (x : Xfer),
    let u := (s.elapse dt).returnSlots i (back.map fun e => (e.1.val, e.2.toNat))
    u.dmaWinner i write = some q → u.issuing i q = some (k, x) → x.pieces = 0 → x.lines = 0 → u.rowFault i x x.issued = none →
    x.nextPiece = none →
    ∃ t y, exec (.dmaPieceIssue dt i write back) s = .next t ∧ (t.dmaQ i q)[k]? = some y ∧ y = { x with issued := x.issued + 1 }) ∧
  (∀ (s : State) (dt : Nat) (i : Fin 16) (write : Bool) (back : List (Fin 16 × Byte)) (q k : Nat) (x : Xfer) (f : Nat × Nat × Nat),
    let u := (s.elapse dt).returnSlots i (back.map fun e => (e.1.val, e.2.toNat)); let n := 16 * i.val + q
    u.dmaWinner i write = some q → u.issuing i q = some (k, x) → x.pieces = 0 → x.lines = 0 → u.rowFault i x x.issued = some f →
    ∃ t y, exec (.dmaPieceIssue dt i write back) s = .next t ∧ (t.dmaQ i q)[k]? = some y ∧ y.faultAt = some u.now ∧
      y.faultWait = 1000 * max 1 (u.fld F.DMA_FAULT_CFG_wait_us) ∧ y.issued = x.issued ∧
      t.fld F.LC_DMAQ_STATUS_faulted n = 1 ∧ t.fld F.LC_DMAF_INFO_valid n = 1 ∧ t.fld F.LC_DMAF_INFO_cause n = f.1 % 8 ∧
      t.fld F.LC_DMAF_INFO_side n = f.2.1 % 2 ∧ t.fld F.LC_DMAF_INFO_desc n = x.desc % 1024 ∧
      t.pair .LC_DMAF_ADDR_LO .LC_DMAF_ADDR_HI n = f.2.2 % 2 ^ 64 ∧ t.regN .LC_DMAF_CRC n = x.crc % 2 ^ 32 ∧
      t.fld F.LC_DMAF_COORD_i1 n = (x.coord x.issued).1 % 65536 ∧ t.fld F.LC_DMAF_COORD_i2 n = (x.coord x.issued).2.1 % 65536) ∧
  (∀ (s : State) (dt : Nat) (i q : Fin 16) (r : Word) (x : Xfer) (host : List Byte), let u := s.elapse dt
    let a := x.dstAt x.rows; let b := u.rowData i x x.rows host; let n := 16 * i.val + q.val
    u.dmaQ i q = [x] → r.toNat = x.rows → x.awaits x.rows = true → x.rows + 1 < x.total → x.early = [] → x.unacked = [] →
    (x.d.srcSp = spHost → (u.fn (u.userFn i)).bme = true) → x.d.dstSp ∈ [spSpad, spShape] → u.rowHeld i x = false →
    ∃ t y, exec (.dmaRowDelivered dt i q 0 r host) s = .next t ∧ t.dmaQ i q = [y] ∧ y.rows = x.rows + 1 ∧
      y.status = (if u.rowPoison i x x.rows ∧ x.status = 0 then 2 else x.status) ∧
      t.regN .LC_DMAQ_ROWS n = (u.regN .LC_DMAQ_ROWS n + 1) % 2 ^ 32 ∧
      (x.d.dstSp = spSpad → (t.core i).spad = memWrites (u.core i).spad a b) ∧
      (x.d.dstSp = spShape → b.length = 4 → t.regN .LC_SHAPE_WORD (64 * i.val + a / 4 % 64) = leAt b 0 4)) ∧
  (∀ (s : State) (dt : Nat) (i q : Fin 16) (r : Word) (x : Xfer) (host : List Byte), let u := s.elapse dt
    let a := x.dstAt x.rows; let b := u.rowData i x x.rows host; let runs := splitRuns (u.physRuns i x spDev a x.d.cnt0) b
    u.dmaQ i q = [x] → r.toNat = x.rows → x.awaits x.rows = true → x.rows + 1 < x.total → x.early = [] → x.unacked = [] →
    (x.d.srcSp = spHost → (u.fn (u.userFn i)).bme = true) → x.d.dstSp = spDev → (∀ w ∈ runs, u.trainState i x w.1 = false) →
    ∃ t y, exec (.dmaRowDelivered dt i q 0 r host) s = .next t ∧ t.dmaQ i q = [y] ∧ y.rows = x.rows + 1 ∧
      t.mem = (if u.staleWrite i x then u.mem else runs.foldl (fun m w => memWrites m w.1 w.2) u.mem)) ∧
  (∀ (s : State) (dt : Nat) (i q : Fin 16) (r : Word) (x : Xfer) (host : List Byte), let u := s.elapse dt
    let b := u.rowData i x x.rows host
    u.dmaQ i q = [x] → r.toNat = x.rows → x.awaits x.rows = true → x.rows + 1 < x.total → x.early = [] → x.unacked = [] →
    (x.d.srcSp = spHost → (u.fn (u.userFn i)).bme = true) →
    (x.d.dstSp = spHost ∨ x.d.dstSp = spPeer ∧ (x.toPeer.any fun p => bit (u.fld F.CHN_STATUS_present) p) = true) →
    ∃ t y, exec (.dmaRowDelivered dt i q 0 r host) s = .next t ∧ t.dmaQ i q = [y] ∧ t.mem = u.mem ∧
      y.rows = (if x.d.barrier ∧ (x.d.dstSp = spPeer ∨ (u.fn (u.xferFn i x)).bme = true) then x.rows else x.rows + 1) ∧
      y.unacked = (if x.d.barrier ∧ (x.d.dstSp = spPeer ∨ (u.fn (u.xferFn i x)).bme = true) then [(x.rows, if x.d.dstSp = spHost then 1 else ceilDiv x.d.cnt0 2048, b)] else [])) ∧
  (∀ (s : State) (dt : Nat) (i q : Fin 16) (r : Word) (x : Xfer) (host : List Byte), let u := s.elapse dt; let n := 16 * i.val + q.val
    u.dmaQ i q = [x] → x.awaits r.toNat = true → x.faultAt = none → u.rowHeld i x = false → x.d.srcSp = spHost →
    (u.fn (u.userFn i)).bme = false → x.d.dstSp ≠ spHost →
    ∃ t y, exec (.dmaRowDelivered dt i q 0 r host) s = .next t ∧ t.dmaQ i q = [y] ∧ y.issued = r.toNat ∧ y.faultAt = some u.now ∧
      t.fld F.LC_DMAF_INFO_cause n = cHostError ∧ t.mem = u.mem ∧ (t.core i).spad = (u.core i).spad) ∧
  (∀ (s : State) (dt : Nat) (i q : Fin 16) (r : Word) (x : Xfer) (host : List Byte), let u := s.elapse dt; let n := 16 * i.val + q.val
    u.dmaQ i q = [x] → r.toNat = x.rows → x.awaits x.rows = true → x.rows + 1 = x.total → x.early = [] → x.unacked = [] →
    x.faultAt = none → (x.d.srcSp = spHost → (u.fn (u.userFn i)).bme = true) → x.d.dstSp = spSpad → x.d.crc = false →
    u.rowHeld i x = false →
    ∃ t, exec (.dmaRowDelivered dt i q 0 r host) s = .next t ∧ t.dmaQ i q = [] ∧
      t.fld F.LC_DMAQ_STATUS_done n = (u.fld F.LC_DMAQ_STATUS_done n + 1) % 65536 ∧
      t.fld F.LC_DMAQ_STATUS_last n = (if u.rowPoison i x x.rows ∧ x.status = 0 then 2 else x.status) % 16 ∧
      (t.core i).spad = memWrites (u.core i).spad (x.dstAt x.rows) (u.rowData i x x.rows host)) ∧
  (∀ (s : State) (dt : Nat) (i q : Fin 16) (k : Nat) (x : Xfer), let u := s.elapse dt; let n := 16 * i.val + q.val
    u.faulted i q = some (k, x) → u.fld F.LC_DMAF_INFO_cause n ∈ [cNotPresent, cWriteProtect] → x.resumes < 15 →
    u.rowFault i x x.issued = none →
    ∃ t y, exec (.faultWalk dt i q) s = .next t ∧ (t.dmaQ i q)[k]? = some y ∧ y = { x with faultAt := none, resumes := x.resumes + 1 } ∧
      t.fld F.LC_DMAQ_STATUS_faulted n = 0 ∧ t.fld F.LC_DMAF_INFO_valid n = 0 ∧
      t.regN .LC_CNT_DMA_RESUME i = satAdd 32 (u.regN .LC_CNT_DMA_RESUME i) 1) ∧
  (∀ (s : State) (dt : Nat) (i q : Fin 16) (k : Nat) (x : Xfer) (f : Nat × Nat × Nat), let u := s.elapse dt; let n := 16 * i.val + q.val
    u.faulted i q = some (k, x) → u.fld F.LC_DMAF_INFO_cause n = cNotPresent → x.resumes < 15 → x.notified = false →
    u.rowFault i x x.issued = some f →
    ∃ t y, exec (.faultWalk dt i q) s = .next t ∧ (t.dmaQ i q)[k]? = some y ∧ y = { x with notified := true } ∧
      t.fld F.LC_DMAQ_STATUS_faulted n = u.fld F.LC_DMAQ_STATUS_faulted n) ∧
  (∀ (s : State) (dt : Nat) (i q : Fin 16) (x : Xfer) (cause : Nat), let u := s.elapse dt; let n := 16 * i.val + q.val
    u.dmaQ i q = [x] → x.faultAt ≠ none → x.rows = x.issued → x.early = [] → x.issued < x.total →
    u.fld F.LC_DMAF_INFO_cause n = cause →
    (cause ≠ cNotPresent ∧ cause ≠ cWriteProtect ∨ 15 ≤ x.resumes ∨ cause = cWriteProtect ∧ u.rowFault i x x.issued ≠ none) →
    ∃ t, exec (.faultWalk dt i q) s = .next t ∧ t.dmaQ i q = [] ∧ t.fld F.LC_DMAQ_STATUS_faulted n = 0 ∧
      t.fld F.LC_DMAQ_STATUS_last n = 1 ∧ t.regN .LC_DMAQ_ROWS n = (u.regN .LC_DMAQ_ROWS n + (x.total - x.rows)) % 2 ^ 32 ∧
      t.regN .LC_CNT_DMA_POISON i = satAdd 32 (u.regN .LC_CNT_DMA_POISON i) 1 ∧ t.mem = u.mem) ∧
  (∀ (s : State) (dt : Nat) (i q : Fin 16) (a : Nat) (x : Xfer), let u := s.elapse dt; let n := 16 * i.val + q.val
    u.dmaQ i q = [x] → x.faultAt = some a → a + x.faultWait < u.now → x.rows = x.issued → x.early = [] → x.issued < x.total →
    ∃ t, exec (.faultWaitExpiry dt i q) s = .next t ∧ t.dmaQ i q = [] ∧ t.fld F.LC_DMAQ_STATUS_faulted n = 0 ∧
      t.fld F.LC_DMAQ_STATUS_last n = 1 ∧ t.regN .LC_DMAQ_ROWS n = (u.regN .LC_DMAQ_ROWS n + (x.total - x.rows)) % 2 ^ 32 ∧
      t.regN .LC_CNT_DMA_POISON i = satAdd 32 (u.regN .LC_CNT_DMA_POISON i) 1 ∧ t.mem = u.mem)

/-- R20, R21, R115, R161, R163, R164: A start that passes its checks takes the stream's reservations and sends its settings (the
writes of a profile are Config's, R115), and with none to send it runs; with settings to send on a port that is not ACTIVE it
fails with FAULT; one that admission refuses says which check failed; one with wrong parameters or in conflict replies so. A drain
stop is stopping until its frames are final, an abort stop ends them; a second stop joins the first and may turn it into an abort;
a stop of a stopped stream replies CLOSED; a stream that is done stopping is stopped, and those who waited have their replies.
Each clause says that the command named, in a state u (the state once its dt cycles have passed) that meets the conditions on the
left of the last arrow, answers a next state with that effect. -/
def Obligations.Streams : Prop :=
  (∀ (s : State) (dt : Nat) (r : CmdName) (k : Cmd), let u := s.elapse dt; let n := k.cam
    let set := u.limitSet n ((u.cam n).staged.getD {}); let rs := u.settingsReqs n set
    u.asked (cmdRef r) 0x0101 k → u.stream n = 0 → u.startParamsOk n = true → u.startConflict n = false → u.admission n = 0 →
    (rs = [] ∨ u.isIn (camPort n) = true ∨ u.fld F.IXL_PORT_STATUS_state (camPort n) = 4) →
    ∃ t, exec (.streamStart dt r) s = .next t ∧ t.regN .CAM_SEQ n = 0 ∧ (t.cam n).binds = [⟨0, set, 0xFFFFFFFF⟩] ∧
      (t.cam n).staged = none ∧ t.liveFrames n = [] ∧ t.fld F.CAM_OUT_STATUS_free n = u.fld F.CAM_OUT_RING_count n ∧
      (u.flag F.CAM_CFG_inline n = true → (t.group (u.camSg n)).inlineCam = some n) ∧ (t.cam n).ovlSlot = u.freeOverlap n ∧
      (rs = [] → t.stream n = 2 ∧ u.replied t (cmdRef r) k stOk) ∧
      (rs ≠ [] → t.stream n = 1 ∧ (t.cam n).start = some { cmd := cmdRef r, left := rs.length })) ∧
  (∀ (s : State) (dt : Nat) (r : CmdName) (k : Cmd), let u := s.elapse dt; let n := k.cam
    u.asked (cmdRef r) 0x0101 k → u.stream n = 0 → u.startParamsOk n = true → u.startConflict n = false → u.admission n = 0 →
    u.isIn (camPort n) = false → u.fld F.IXL_PORT_STATUS_state (camPort n) ≠ 4 →
    ∃ t, exec (.streamStart dt r) s = .next t ∧ (u.settingsReqs n (u.limitSet n ((u.cam n).staged.getD {})) ≠ [] →
      t.stream n = 0 ∧ u.replied t (cmdRef r) k stFault)) ∧
  (∀ (s : State) (dt : Nat) (r : CmdName) (k : Cmd), let u := s.elapse dt; let n := k.cam
    u.asked (cmdRef r) 0x0101 k → u.stream n = 0 → u.startParamsOk n = true → u.startConflict n = false → u.admission n ≠ 0 →
    ∃ t, exec (.streamStart dt r) s = .next t ∧ t.stream n = 0 ∧ t.fld F.GLB_ADMIT_STATUS_check = u.admission n ∧
      t.fld F.GLB_ADMIT_STATUS_cam = n ∧ u.replied t (cmdRef r) k stNoResource) ∧
  (∀ (s : State) (dt : Nat) (r : CmdName) (k : Cmd), let u := s.elapse dt; let n := k.cam
    u.asked (cmdRef r) 0x0101 k → (u.stream n ≠ 0 ∨ u.startParamsOk n = false ∨ u.startConflict n = true) →
    exec (.streamStart dt r) s = .next (u.reply (cmdRef r) (if u.stream n = 0 ∧ u.startParamsOk n = false then stBadParam else stConflict))) ∧
  (∀ (s : State) (dt : Nat) (r : CmdName) (k : Cmd), let u := s.elapse dt; let n := k.cam
    u.asked (cmdRef r) 0x0102 k → bit (k.w 0) 16 = false → u.stream n ∈ [1, 2] →
    ∃ t, exec (.streamStopDrain dt r) s = .next t ∧ t.stream n = 3 ∧ (t.cam n).launches = [] ∧
      (t.cam n).stop = some { p := u.now, abort := decide (u.stream n = 1), waiters := [(cmdRef r, u.now)], reason := 0 } ∧
      t.liveFrames n = if u.stream n = 2 then u.liveFrames n else []) ∧
  (∀ (s : State) (dt : Nat) (r : CmdName) (k : Cmd), let u := s.elapse dt; let n := k.cam
    u.asked (cmdRef r) 0x0102 k → bit (k.w 0) 16 = true → u.stream n ∈ [1, 2] →
    ∃ t, exec (.streamStopAbort dt r) s = .next t ∧ t.stream n = 3 ∧ (t.cam n).launches = [] ∧
      (t.cam n).stop = some { p := u.now, abort := true, waiters := [(cmdRef r, u.now)], reason := 0 } ∧ t.liveFrames n = []) ∧
  (∀ (s : State) (dt : Nat) (r : CmdName) (k : Cmd) (p : StopS), let u := s.elapse dt; let n := k.cam
    u.asked (cmdRef r) 0x0102 k → bit (k.w 0) 16 = false → u.stream n = 3 → (u.cam n).stop = some p →
    ∃ t, exec (.streamStopDrain dt r) s = .next t ∧ t.stream n = 3 ∧
      (t.cam n).stop = some { p with waiters := p.waiters ++ [(cmdRef r, u.now)] } ∧ t.liveFrames n = u.liveFrames n) ∧
  (∀ (s : State) (dt : Nat) (r : CmdName) (k : Cmd) (p : StopS), let u := s.elapse dt; let n := k.cam
    u.asked (cmdRef r) 0x0102 k → bit (k.w 0) 16 = true → u.stream n = 3 → (u.cam n).stop = some p →
    ∃ t, exec (.streamStopAbort dt r) s = .next t ∧ t.stream n = 3 ∧
      (t.cam n).stop = some { p with waiters := p.waiters ++ [(cmdRef r, u.now)], abort := true } ∧
      t.liveFrames n = if p.abort then u.liveFrames n else []) ∧
  (∀ (s : State) (dt : Nat) (r : CmdName) (k : Cmd), let u := s.elapse dt
    u.asked (cmdRef r) 0x0102 k → u.stream k.cam = 0 → bit (k.w 0) 16 = false →
    exec (.streamStopDrain dt r) s = .next (u.reply (cmdRef r) stClosed)) ∧
  (∀ (s : State) (dt : Nat) (r : CmdName) (k : Cmd), let u := s.elapse dt
    u.asked (cmdRef r) 0x0102 k → u.stream k.cam = 0 → bit (k.w 0) 16 = true →
    exec (.streamStopAbort dt r) s = .next (u.reply (cmdRef r) stClosed)) ∧
  (∀ (s : State) (dt : Nat) (n : Fin 512) (p : StopS), let u := s.elapse dt
    u.stopDone n = true → (u.cam n).stop = some p →
    ∃ t, exec (.streamStopped dt n) s = .next t ∧ t.stream n = 0 ∧ (t.cam n).stop = none ∧ (t.cam n).ovlSlot = none ∧
      (t.group (u.camSg n)).inlineCam ≠ some n.val ∧ ∀ w ∈ p.waiters, t.command w.1 = none) ∧
  (∀ (s : State) (dt : Nat) (n : Fin 512) (p : StopS) (r : CmdRef) (a : Nat) (k : Cmd), let u := s.elapse dt
    u.stopDone n = true → (u.cam n).stop = some p → p.waiters = [(r, a)] → u.command r = some k →
    ∃ t, exec (.streamStopped dt n) s = .next t ∧ u.answered t r k a 0)

/-- R22, R87, R146, R147, R148, R153, R161: A printed stripe, at the group's last core and no other, adds its rows to the linear and
the tone output; an output row that is due is written to the slot, which the frame takes with its first row; with no slot free the
frame's outputs are shed and counted; a row that the pool has no place for waits, and one that has waited over 2 ms is shed; a
completed row leaves, and late marks the frame; when the outputs have ended the slot header is written, and its completion makes
the frame final. Each clause says that the command named, in a state u (the state once its dt cycles have passed) that meets the
conditions on the left of the last arrow, answers a next state with that effect. -/
def Obligations.Outputs : Prop :=
  (∀ (s : State) (dt : Nat) (n : Fin 512) (q : Word) (k : Byte) (i : Fin 16), let u := s.elapse dt; let f := u.frame n q.toNat
    let rows := f.image.get k.toNat
    f.seq = q.toNat → f.live = true → u.isLast n i = true → f.tone.length = 32 * k.toNat → k.toNat < u.stripes n →
    u.finalDone n q.toNat k.toNat = true →
    ∃ t, exec (.printStripe dt n q k i) s = .next t ∧ (t.frame n q.toNat).lin = f.lin ++ rows ∧
      (t.frame n q.toNat).tone = f.tone ++ rows.map fun r => r.map (printPixel (u.ppbOf n f.ppb) f.wb)) ∧
  (∀ (s : State) (dt : Nat) (n : Fin 512) (q : Word) (k : Byte) (i : Fin 16), let u := s.elapse dt
    u.isLast n i = false → exec (.printStripe dt n q k i) s = .next u) ∧
  (∀ (s : State) (dt : Nat) (n : Fin 512) (q : Word) (o : Byte) (i : Fin 16), let u := s.elapse dt
    let f := u.frame n q.toNat; let r := f.written.get o.toNat
    f.live = true → u.toWrite n q.toNat o.toNat = true → r < u.outRows n o.toNat → u.isLast n i = true →
    u.rowSourced n q.toNat o.toNat r = true → (f.outSlot ≠ 255 ∨ u.fld F.CAM_OUT_STATUS_free n ≠ 0) → f.noSlot = false →
    (o.toNat ≤ 1 → u.waited n q.toNat ≤ 2000000) → u.poolFits n o.toNat = true →
    ∃ t, exec (.outputRowWrite dt n q o i) s = .next t ∧ (t.frame n q.toNat).written.get o.toNat = r + 1 ∧
      (t.frame n q.toNat).outSlot = (if f.outSlot ≠ 255 then f.outSlot else u.fld F.CAM_OUT_STATUS_next n) ∧
      (t.frame n q.toNat).rowsOut = f.rowsOut ++ [{ out := o.toNat, row := r, bytes := u.rowPool n o.toNat, bound := u.stripeDeadline n q.toNat (u.rowStripe n o.toNat r), last := decide (u.outRows n o.toNat ≤ r + 1) }] ∧
      (o.toNat ∉ (t.frame n q.toNat).waits ∨ f.waits.count o.toNat ≠ 1) ∧ ((u.fn (u.cam n).holder).bme = true → t.out.head? = some (.barrier (u.cam n).holder))) ∧
  (∀ (s : State) (dt : Nat) (n : Fin 512) (q : Word) (o : Byte) (i : Fin 16), let u := s.elapse dt
    let f := u.frame n q.toNat; let r := f.written.get o.toNat
    f.live = true → u.toWrite n q.toNat o.toNat = true → r < u.outRows n o.toNat → u.isLast n i = true →
    u.rowSourced n q.toNat o.toNat r = true → f.outSlot = 255 → f.noSlot = false → u.fld F.CAM_OUT_STATUS_free n = 0 →
    ∃ t, exec (.outputRowWrite dt n q o i) s = .next t ∧ (t.frame n q.toNat).noSlot = true ∧
      bit (t.frame n q.toNat).mark markOutputShed = true ∧ (t.frame n q.toNat).written.get o.toNat = r + 1 ∧
      t.regN .CAM_CNT_OUT_NOSLOT n = satAdd 32 (u.regN .CAM_CNT_OUT_NOSLOT n) 1) ∧
  (∀ (s : State) (dt : Nat) (n : Fin 512) (q : Word) (o : Byte) (i : Fin 16), let u := s.elapse dt
    let f := u.frame n q.toNat; let r := f.written.get o.toNat
    f.live = true → u.toWrite n q.toNat o.toNat = true → r < u.outRows n o.toNat → u.isLast n i = true →
    u.rowSourced n q.toNat o.toNat r = true → (f.outSlot ≠ 255 ∨ u.fld F.CAM_OUT_STATUS_free n ≠ 0) → f.noSlot = false →
    o.toNat ≤ 1 → u.waited n q.toNat ≤ 2000000 → u.poolFits n o.toNat = false →
    ∃ t, exec (.outputRowWrite dt n q o i) s = .next t ∧ (t.frame n q.toNat).written.get o.toNat = r ∧
      (t.frame n q.toNat).waits.contains o.toNat = true ∧ (f.waits = [] → (t.frame n q.toNat).waitFrom = some u.now)) ∧
  (∀ (s : State) (dt : Nat) (n : Fin 512) (q : Word) (o : Byte) (i : Fin 16), let u := s.elapse dt
    let f := u.frame n q.toNat; let r := f.written.get o.toNat
    f.live = true → u.toWrite n q.toNat o.toNat = true → r < u.outRows n o.toNat → u.isLast n i = true →
    u.rowSourced n q.toNat o.toNat r = true → f.outSlot ≠ 255 → f.noSlot = false → o.toNat ≤ 1 → 2000000 < u.waited n q.toNat →
    ∃ t, exec (.outputRowWrite dt n q o i) s = .next t ∧ bit (t.frame n q.toNat).shed o.toNat = true ∧
      bit (t.frame n q.toNat).mark markOutputShed = true ∧ (t.frame n q.toNat).waits = [] ∧
      (f.shed % 4 = 0 → t.regN .CAM_CNT_OUT_SHED n = satAdd 32 (u.regN .CAM_CNT_OUT_SHED n) 1)) ∧
  (∀ (s : State) (dt : Nat) (n : Fin 512) (q : Word), let u := s.elapse dt; let f := u.frame n q.toNat
    f.live = true → f.waitFrom ≠ none → 2000000 < u.waited n q.toNat →
    ∃ t, exec (.outputPoolTimeout dt n q) s = .next t ∧ (t.frame n q.toNat).waits = [] ∧ (t.frame n q.toNat).waitFrom = none ∧
      ∀ o ∈ List.range 2, (u.toWrite n q.toNat o && decide (f.written.get o < u.outRows n o)) = true →
        bit (t.frame n q.toNat).shed o = true ∧ bit (t.frame n q.toNat).mark markOutputShed = true) ∧
  (∀ (s : State) (dt : Nat) (n : Fin 512) (q : Word) (r : RowOut) (l : List RowOut), let u := s.elapse dt; let f := u.frame n q.toNat
    f.rowsOut = r :: l →
    ∃ t, exec (.outputRowComplete dt n q) s = .next t ∧ (t.frame n q.toNat).rowsOut = l ∧
      (r.bound < u.now → bit (t.frame n q.toNat).mark markLate = true) ∧
      ((u.modFrame n q.toNat fun y => { y with rowsOut := l }).outputsEnded n q.toNat = true → f.hdr = false → f.outSlot ≠ 255 →
        f.noSlot = false → (t.frame n q.toNat).hdr = true ∧
        ((u.fn (u.cam n).holder).bme = true → t.out.head? = some (.barrier (u.cam n).holder)))) ∧
  (∀ (s : State) (dt : Nat) (n : Fin 512) (q : Word), let u := s.elapse dt; let f := u.frame n q.toNat
    f.seq = q.toNat → f.live = true → f.hdr = true →
    ∃ t, exec (.slotHeaderComplete dt n q) s = .next t ∧ (t.frame n q.toNat).st = 3)

/-- R85, R102, R171, R258, R259: A ready stripe's share is queued with the counter's next index and its deadline; a launch does so no
sooner than its time; a core that is idle at a stripe boundary binds the next share, with a lease, and runs, unless it must first
be cleared for another user; one whose stage is done goes on to the next share, or with none to take binds nothing and rests; one
whose stage is not done stays. Each clause says that the command named, in a state u (the state once its dt cycles have passed)
that meets the conditions on the left of the last arrow, answers a next state with that effect. -/
def Obligations.ShareQueue : Prop :=
  (∀ (s : State) (dt : Nat) (g : Fin 16) (w : Fin 32) (n : Fin 512) (q : Word) (k : Byte), let u := s.elapse dt
    u.shareReady g w n q.toNat k.toNat = true →
    ∃ t h, exec (.workShareQueue dt g w n q k) s = .next t ∧ h ∈ (t.counter g w).shares ∧
      h = { cam := n.val, seq := q.toNat, stripe := k.toNat, idx := u.regN .HLD_WC_NEXT (32 * g.val + w.val), gen := 0, deadline := u.stripeDeadline n q.toNat k.toNat, inl := u.stripeInline n q.toNat k.toNat } ∧
      t.regN .HLD_WC_NEXT (32 * g.val + w.val) = (u.regN .HLD_WC_NEXT (32 * g.val + w.val) + 1) % 2 ^ 32 ∧
      (t.counter g w).shares.length = (u.counter g w).shares.length + 1) ∧
  (∀ (s : State) (dt : Nat) (g : Fin 16) (w : Fin 32) (n : Fin 512) (q : Word) (k : Byte) (a : BitVec 64), let u := s.elapse dt
    a.toNat ≤ u.now → u.shareReady g w n q.toNat k.toNat = true →
    ∃ t h, exec (.stripeLaunch dt g w n q k a) s = .next t ∧ h ∈ (t.counter g w).shares ∧ h.cam = n ∧ h.seq = q.toNat ∧
      h.stripe = k.toNat ∧ h.held = none ∧ (t.counter g w).shares.length = (u.counter g w).shares.length + 1) ∧
  (∀ (s : State) (dt : Nat) (g : Fin 16) (w : Fin 32) (n : Fin 512) (q : Word) (k : Byte) (a : BitVec 64), let u := s.elapse dt
    u.now < a.toNat → exec (.stripeLaunch dt g w n q k a) s = .next u) ∧
  (∀ (s : State) (dt : Nat) (i : Fin 16) (w x : Nat) (h : Share), let u := s.elapse dt; let g := u.groupOf i
    u.coreState i ∈ [2, 3] → u.fatal = false → u.flag F.SFL_STATUS_trip = false → (u.core i).bound = none →
    u.nextShare i = some (w, h, x) → (u.changeUser i (u.userOf i w h)).1 = true →
    ∃ t b, exec (.stripeBoundary dt i) s = .next t ∧ (t.core i).bound = some b ∧ b.cam = h.cam ∧ b.seq = h.seq ∧ b.stripe = h.stripe ∧
      b.w = w ∧ b.idx = h.idx ∧ b.gen = h.gen ∧ b.committed = false ∧ t.coreState i = 3 ∧ (t.core i).user = u.userOf i w h ∧
      (h.held = none → ((t.counter g w).shares.any fun y => y.idx == h.idx && y.held == some (i.val, u.now + u.leaseNs g w)) = true)) ∧
  (∀ (s : State) (dt : Nat) (i : Fin 16) (w x : Nat) (h : Share), let u := s.elapse dt
    u.coreState i ∈ [2, 3] → u.fatal = false → u.flag F.SFL_STATUS_trip = false → (u.core i).bound = none →
    u.nextShare i = some (w, h, x) → (u.core i).userClear = none → (u.core i).user ≠ u.userOf i w h →
    ∃ t, exec (.stripeBoundary dt i) s = .next t ∧ (t.core i).bound = none ∧
      (t.core i).userClear = some (u.aclk + u.regN .LC_SPAD_SIZE i / 256)) ∧
  (∀ (s : State) (dt : Nat) (i : Fin 16) (b : BoundS), let u := s.elapse dt
    u.coreState i ∈ [2, 3] → u.fatal = false → u.flag F.SFL_STATUS_trip = false → (u.core i).bound = some b → u.stageDone i = true →
    (u.leaveStripe i b).nextShare i = none →
    ∃ t, exec (.stripeBoundary dt i) s = .next t ∧ (t.core i).bound = none ∧
      (u.ctxState i 6 = 0 → u.ctxState i 7 = 0 → t.coreState i = 2) ∧ ∀ c, c < 6 → t.ctxState i c = 0) ∧
  (∀ (s : State) (dt : Nat) (i : Fin 16) (b : BoundS) (w x : Nat) (h : Share), let u := s.elapse dt
    u.coreState i ∈ [2, 3] → u.fatal = false → u.flag F.SFL_STATUS_trip = false → (u.core i).bound = some b → u.stageDone i = true →
    (u.leaveStripe i b).nextShare i = some (w, h, x) → (u.core i).userClear = none →
    (u.core i).user = (u.leaveStripe i b).userOf i w h →
    ∃ t y, exec (.stripeBoundary dt i) s = .next t ∧ (t.core i).bound = some y ∧ y.cam = h.cam ∧ y.seq = h.seq ∧ y.stripe = h.stripe ∧
      y.w = w ∧ y.idx = h.idx ∧ y.gen = h.gen ∧ t.coreState i = 3) ∧
  (∀ (s : State) (dt : Nat) (i : Fin 16), let u := s.elapse dt
    (u.core i).bound ≠ none → u.stageDone i = false → exec (.stripeBoundary dt i) s = .next u)

/-- R258, R259, R262: A draw takes the head share with its index, generation and lease, and binds it where the core has none; with
none to draw the context waits; one draw of a counter is served in a cycle. A commit with a current token takes the share off its
counter, and a late one is only counted. Each clause says that the command named, in a state u (the state once its dt cycles have
passed) that meets the conditions on the left of the last arrow, answers a next state with that effect. -/
def Obligations.ShareInstructions : Prop :=
  (∀ (s : State) (dt : Nat) (i : Fin 16) (c : Fin 8) (w : Fin 32) (h : Share), let u := s.elapse dt; let g := u.groupOf i
    u.itsTurn i c → u.headShare i w = some h → ((u.core i).bound ≠ none ∨ c.val < 6) →
    ∃ t, exec (.wcDraw dt i c w) s = .next t ∧ (t.core i).drawn = (w.val, h.cam, h.seq, h.stripe) :: (u.core i).drawn ∧
      ((t.counter g w).shares.any fun y => y.idx == h.idx && y.gen == h.gen && y.held == some (i.val, u.now + u.leaseNs g w)) = true ∧
      t.pcOf i c = (u.pcOf i c + 1) % 4096) ∧
  (∀ (s : State) (dt : Nat) (i : Fin 16) (c : Fin 8) (w : Fin 32) (h : Share), let u := s.elapse dt
    u.itsTurn i c → u.headShare i w = some h → (u.core i).bound = none → 6 ≤ c.val → (u.core i).user = u.userOf i w h →
    ∃ t b, exec (.wcDraw dt i c w) s = .next t ∧ (t.core i).bound = some b ∧ b.cam = h.cam ∧ b.seq = h.seq ∧ b.stripe = h.stripe ∧
      b.w = w.val ∧ b.idx = h.idx ∧ b.gen = h.gen ∧ t.coreState i = 3 ∧ t.pcOf i c = (u.pcOf i c + 1) % 4096) ∧
  (∀ (s : State) (dt : Nat) (i : Fin 16) (c : Fin 8) (w : Fin 32), let u := s.elapse dt
    u.itsTurn i c → u.headShare i w = none → u.drawnNow (u.groupOf i) w = false →
    ∃ t, exec (.wcDraw dt i c w) s = .next t ∧ t.ctxState i c = 2 ∧ (t.ctx i c).wait = .counter w ∧ t.pcOf i c = u.pcOf i c) ∧
  (∀ (s : State) (dt : Nat) (i : Fin 16) (c : Fin 8) (w : Fin 32), let u := s.elapse dt
    u.drawnNow (u.groupOf i) w = true → exec (.wcDraw dt i c w) s = .next u) ∧
  (∀ (s : State) (dt : Nat) (i : Fin 16) (o : CommitOp) (h : Share), let u := s.elapse dt; let g := u.groupOf i
    u.itsTurn i o.ctx → (u.counter g o.w).shares.find? (fun y => y.idx == o.idx.toNat && y.gen == o.gen.toNat && y.held.isSome) = some h →
    ∃ t, exec (.wcCommit dt i o) s = .next t ∧ t.pcOf i o.ctx = (u.pcOf i o.ctx + 1) % 4096 ∧
      (t.core i).bound = (u.core i).bound.map (fun b =>
        if b.w = o.w.val ∧ b.idx = o.idx.toNat ∧ b.gen = o.gen.toNat then { b with committed := true } else b) ∧
      (h.training = false → (t.counter g o.w).done = (h.cam, h.seq, h.stripe) :: (u.counter g o.w).done) ∧
      (t.counter g o.w).shares = (u.counter g o.w).shares.filter fun y => y.idx != o.idx.toNat) ∧
  (∀ (s : State) (dt : Nat) (i : Fin 16) (o : CommitOp), let u := s.elapse dt; let g := u.groupOf i; let r := 32 * g + o.w.val
    u.itsTurn i o.ctx → ((u.counter g o.w).shares.any fun y => y.idx == o.idx.toNat && y.gen == o.gen.toNat && y.held.isSome) = false →
    ∃ t, exec (.wcCommit dt i o) s = .next t ∧ t.regN .HLD_WC_CNT_LATE_COMMIT r = satAdd 32 (u.regN .HLD_WC_CNT_LATE_COMMIT r) 1 ∧
      t.counter g o.w = u.counter g o.w ∧ (t.core i).bound = (u.core i).bound ∧ t.pcOf i o.ctx = (u.pcOf i o.ctx + 1) % 4096)

/-- R180, R193, R197, R260, R263, R264: A present core renews the leases of its shares every microsecond; a share whose lease has run
out is free again under the next generation and counted, or gone where its stream has withdrawn it. A faulted core is restored in
three steps, RESET, CLEARING for as long as its scratchpad takes, and IDLE, when whoever reset it has the reply; that three
commands take them is the model's choice (log 163). Each clause says that the command named, in a state u (the state once its dt
cycles have passed) that meets the conditions on the left of the last arrow, answers a next state with that effect. -/
def Obligations.LeasesAndRestores : Prop :=
  (∀ (s : State) (dt : Nat) (i : Fin 16) (w : Fin 32), let u := s.elapse dt; let g := u.groupOf i
    u.present i = true → u.coreState i ≠ 4 → (u.core i).renewAt + 700 ≤ u.aclk →
    ∃ t, exec (.leaseRenew dt i) s = .next t ∧ (t.core i).renewAt = u.aclk ∧
      (t.counter g w).shares = (u.counter g w).shares.map fun h =>
        if h.held.any (fun e => e.1 == i.val) then { h with held := some (i.val, u.now + u.leaseNs g w) } else h) ∧
  (∀ (s : State) (dt : Nat) (i : Fin 16), let u := s.elapse dt
    (u.present i = false ∨ u.coreState i = 4 ∨ u.aclk < (u.core i).renewAt + 700) → exec (.leaseRenew dt i) s = .next u) ∧
  (∀ (s : State) (dt : Nat) (g : Fin 16) (w : Fin 32) (idx : Word) (h : Share), let u := s.elapse dt
    let r := 32 * g.val + w.val; let rest := (u.counter g w).shares.filter fun y => y.idx != idx.toNat
    (u.counter g w).shares.find? (fun y => y.idx == idx.toNat && y.held.any fun e => decide (e.2 < u.now)) = some h →
    ∃ t, exec (.leaseExpiry dt g w idx) s = .next t ∧ (t.counter g w).gens.get idx.toNat = h.gen + 1 ∧
      (t.counter g w).shares = (if u.withdrawn h then rest else insertShare { h with gen := h.gen + 1, held := none } rest) ∧
      (u.withdrawn h = false → t.regN .HLD_WC_CNT_REISSUE r = satAdd 32 (u.regN .HLD_WC_CNT_REISSUE r) 1)) ∧
  (∀ (s : State) (dt : Nat) (g : Fin 16) (w : Fin 32) (idx : Word), let u := s.elapse dt
    ((u.counter g w).shares.any fun y => y.idx == idx.toNat && y.held.any fun e => decide (e.2 < u.now)) = false →
    ∃ t, exec (.leaseExpiry dt g w idx) s = .next t ∧ t.counter g w = u.counter g w) ∧
  (∀ (s : State) (dt : Nat) (i : Fin 16), let u := s.elapse dt
    (u.core i).restoring = true → u.flag F.SFL_STATUS_trip = false → u.coreState i = 4 →
    ∃ t, exec (.coreRestoreComplete dt i) s = .next t ∧ t.coreState i = 0 ∧ (t.core i).restoring = true) ∧
  (∀ (s : State) (dt : Nat) (i : Fin 16), let u := s.elapse dt
    (u.core i).restoring = true → u.flag F.SFL_STATUS_trip = false → u.coreState i ≠ 4 → (u.core i).clearAt = none →
    ∃ t, exec (.coreRestoreComplete dt i) s = .next t ∧ t.coreState i = 1 ∧ (t.core i).spad = [] ∧ (t.core i).rescale = [] ∧
      (t.core i).clearAt = some (u.aclk + u.regN .LC_SPAD_SIZE i / 2048)) ∧
  (∀ (s : State) (dt : Nat) (i : Fin 16) (a : Nat), let u := s.elapse dt
    (u.core i).restoring = true → u.flag F.SFL_STATUS_trip = false → u.coreState i ≠ 4 → (u.core i).clearAt = some a → a ≤ u.aclk →
    ∃ t, exec (.coreRestoreComplete dt i) s = .next t ∧ (t.core i).restoring = false ∧ (t.core i).resetBy = none ∧
      ((u.core i).rerun = none → t.coreState i = 2 ∧ (t.core i).bound = none) ∧
      ∀ r k, (u.core i).resetBy = some r → u.command r = some k → u.replied t r k stOk) ∧
  (∀ (s : State) (dt : Nat) (i : Fin 16) (a : Nat), let u := s.elapse dt
    (u.core i).restoring = true → u.coreState i ≠ 4 → (u.core i).clearAt = some a → u.aclk < a →
    exec (.coreRestoreComplete dt i) s = .next u)

/-- R169, R172, R176, R179, R182, R185, R186, R245, R247, R249, R252, R257: An instruction in turn that passes its checks joins the
array queue with its start and completion cycles, faults otherwise, and a tile waits while the queue is full; a completed tile
writes its results and counts them, a completed load its rescale entries, an empty grid 0 tiles. A grid within its plan with no
tile in it completes empty in 4 cycles, and one with tiles waits and issues them in order, one in a cycle, each faulting on its
own checks; the last one's completion writes their number. Each clause says that the command named, in a state u (the state once
its dt cycles have passed) that meets the conditions on the left of the last arrow, answers a next state with that effect. -/
def Obligations.ArrayUnit : Prop :=
  (∀ (s : State) (dt : Nat) (i : Fin 16) (c : Fin 8) (o : TileOp), let u := s.elapse dt; let x := tileOf o
    let d := dutyStart (u.core i).duty (u.fld F.SFL_GOV_duty_cap) (u.core i).dutyAt (max (u.coreCycle i + 2) ((u.core i).aDone + 1))
    u.itsTurn i c → u.arrayFree i = true → tileFault x.m x.k x.n x.fa x.fb x.fo = none → u.tileChecks i x = none →
    ∃ t, exec (.arrayTile dt i c o) s = .next t ∧ t.pcOf i c = (u.pcOf i c + 1) % 4096 ∧ (t.core i).aq = (u.core i).aq ++
      [{ ctx := c, pc := u.pcOf i c, start := d.1, complete := d.1 + wheelAlign d.1 + x.cycles, job := .tile x }]) ∧
  (∀ (s : State) (dt : Nat) (i : Fin 16) (c : Fin 8) (o : TileOp) (code : Nat), let u := s.elapse dt; let x := tileOf o
    u.itsTurn i c → u.arrayFree i = true → c.val ≠ 6 → u.fld F.LC_FAULT_code i = 0 →
    (match tileFault x.m x.k x.n x.fa x.fb x.fo with | some e => some e | none => u.tileChecks i x) = some code →
    ∃ t, exec (.arrayTile dt i c o) s = .next t ∧ t.coreState i = 4 ∧ t.fld F.LC_FAULT_code i = code ∧ (t.core i).aq = []) ∧
  (∀ (s : State) (dt : Nat) (i : Fin 16) (c : Fin 8) (o : TileOp), let u := s.elapse dt
    u.itsTurn i c → u.arrayFree i = false →
    ∃ t, exec (.arrayTile dt i c o) s = .next t ∧ t.ctxState i c = 2 ∧ (t.ctx i c).wait = .queueFull eArray ∧
      t.pcOf i c = u.pcOf i c ∧ (t.core i).aq = (u.core i).aq) ∧
  (∀ (s : State) (dt : Nat) (i : Fin 16) (e : AEntry) (l : List AEntry) (x : Tile), let u := s.elapse dt
    let w := x.write (u.core i).seen (e.start + wheelAlign e.start) (u.padOf i x.pad) (u.core i).rescale (u.layer i x.record)
    (u.core i).aq = e :: l → e.complete ≤ u.coreCycle i → u.coreState i ≠ 4 → e.job = .tile x → x.grid = none →
    ∃ t, exec (.arrayComplete dt i) s = .next t ∧ (t.core i).aq = l ∧ (t.core i).spad = w.1 ∧
      ((t.core i).counts.get x.stat).produced = satAdd 32 ((u.core i).counts.get x.stat).produced w.2.length ∧
      ((t.core i).counts.get x.stat).clipped =
        satAdd 32 ((u.core i).counts.get x.stat).clipped (w.2.filter fun y => y.2.clipped).length) ∧
  (∀ (s : State) (dt : Nat) (i : Fin 16) (e : AEntry) (l : List AEntry) (src e0 n k : Nat), let u := s.elapse dt
    let w0 := e.start + wheelAlign e.start
    (u.core i).aq = e :: l → e.complete ≤ u.coreCycle i → u.coreState i ≠ 4 → e.job = .load src e0 n → k < n →
    ∃ t, exec (.arrayComplete dt i) s = .next t ∧ (t.core i).aq = l ∧ (t.core i).rescale.get (e0 + k) =
      ofLE (memReads ((u.core i).seen.on fun _ => reach slSR (src / 256 + k / 32) (w0 + k / 32)) (src + 8 * k) 8)) ∧
  (∀ (s : State) (dt : Nat) (i : Fin 16) (e : AEntry) (l : List AEntry) (r : Nat), let u := s.elapse dt
    (u.core i).aq = e :: l → e.complete ≤ u.coreCycle i → u.coreState i ≠ 4 → e.job = .emptyGrid r →
    ∃ t, exec (.arrayComplete dt i) s = .next t ∧ (t.core i).aq = l ∧ (t.ctx i e.ctx).sregs.get r = 0 ∧
      (t.core i).spad = (u.core i).spad) ∧
  (∀ (s : State) (dt : Nat) (i : Fin 16) (e : AEntry) (l : List AEntry) (x : Tile) (ij : Nat × Nat) (g : GridS), let u := s.elapse dt
    (u.core i).aq = e :: l → e.complete ≤ u.coreCycle i → u.coreState i ≠ 4 → e.job = .tile x → x.grid = some ij →
    (u.ctx i e.ctx).grids = [g] → g.pc = e.pc → g.todo = [] → g.issued = g.done + 1 →
    ∃ t, exec (.arrayComplete dt i) s = .next t ∧ (t.core i).aq = l ∧ (t.ctx i e.ctx).grids = [] ∧
      (t.ctx i e.ctx).sregs.get g.c = g.issued) ∧
  (∀ (s : State) (dt : Nat) (i : Fin 16) (c : Fin 8) (src : Word) (e : BitVec 10) (n : BitVec 11), let u := s.elapse dt
    let d := dutyStart (u.core i).duty (u.fld F.SFL_GOV_duty_cap) (u.core i).dutyAt (max (u.coreCycle i + 2) ((u.core i).aDone + 1))
    u.itsTurn i c → u.arrayFree i = true → aligned [src.toNat] = true → u.spadFits i src.toNat (8 * n.toNat) = true →
    e.toNat + n.toNat ≤ 1024 →
    ∃ t, exec (.rescaleLoad dt i c src e n) s = .next t ∧ t.pcOf i c = (u.pcOf i c + 1) % 4096 ∧ (t.core i).aq = (u.core i).aq ++
      [{ ctx := c, pc := u.pcOf i c, start := d.1, complete := d.1 + wheelAlign d.1 + (ceilDiv n.toNat 32 + 8), job := .load src.toNat e.toNat n.toNat }]) ∧
  (∀ (s : State) (dt : Nat) (i : Fin 16) (c : Fin 8) (src : Word) (e : BitVec 10) (n : BitVec 11), let u := s.elapse dt
    let al := aligned [src.toNat]; let fit := u.spadFits i src.toNat (8 * n.toNat)
    u.itsTurn i c → u.arrayFree i = true → c.val ≠ 6 → u.fld F.LC_FAULT_code i = 0 →
    (al = false ∨ fit = false ∨ 1024 < e.toNat + n.toNat) →
    ∃ t, exec (.rescaleLoad dt i c src e n) s = .next t ∧ t.coreState i = 4 ∧
      t.fld F.LC_FAULT_code i = if al = false then fAlign else if fit = false then fSpadRange else fTableRange) ∧
  (∀ (s : State) (dt : Nat) (i : Fin 16) (c : Fin 8) (gi : Byte) (p : BitVec 16) (r : BitVec 5), let u := s.elapse dt
    let g := gridOf ((u.core i).grids.get gi.toNat)
    let m := u.gridBound i c g.mSrc g.mIdx g.mPlan; let n := u.gridBound i c g.nSrc g.nIdx g.nPlan
    let a := max (u.coreCycle i + 2) ((u.core i).aDone + 1)
    u.itsTurn i c → u.arrayFree i = true → g.fault = none → m ≤ g.mPlan → n ≤ g.nPlan → g.order m n = [] →
    ∃ t, exec (.grid dt i c gi p r) s = .next t ∧ t.pcOf i c = (u.pcOf i c + 1) % 4096 ∧ (t.core i).aq = (u.core i).aq ++
      [{ ctx := c, pc := u.pcOf i c, start := a, complete := a + 4, job := .emptyGrid r.toNat }]) ∧
  (∀ (s : State) (dt : Nat) (i : Fin 16) (c : Fin 8) (gi : Byte) (p : BitVec 16) (r : BitVec 5), let u := s.elapse dt
    let g := gridOf ((u.core i).grids.get gi.toNat)
    let m := u.gridBound i c g.mSrc g.mIdx g.mPlan; let n := u.gridBound i c g.nSrc g.nIdx g.nPlan
    u.itsTurn i c → u.arrayFree i = true → g.fault = none → m ≤ g.mPlan → n ≤ g.nPlan → g.order m n ≠ [] →
    ∃ t x, exec (.grid dt i c gi p r) s = .next t ∧ (t.ctx i c).grids = x :: (u.ctx i c).grids ∧
      x = { pc := u.pcOf i c, g := gi.toNat, p := p.toNat, c := r.toNat, mRt := m, nRt := n, todo := g.order m n, at_ := u.coreCycle i, num := (u.core i).serial } ∧ t.ctxState i c = 2 ∧ (t.ctx i c).wait = .own (u.pcOf i c)) ∧
  (∀ (s : State) (dt : Nat) (i : Fin 16) (c : Fin 8) (gi : Byte) (p : BitVec 16) (r : BitVec 5), let u := s.elapse dt
    let g := gridOf ((u.core i).grids.get gi.toNat)
    let m := u.gridBound i c g.mSrc g.mIdx g.mPlan; let n := u.gridBound i c g.nSrc g.nIdx g.nPlan
    u.itsTurn i c → u.arrayFree i = true → c.val ≠ 6 → u.fld F.LC_FAULT_code i = 0 →
    (g.fault ≠ none ∨ g.mPlan < m ∨ g.nPlan < n) →
    ∃ t, exec (.grid dt i c gi p r) s = .next t ∧ t.coreState i = 4 ∧ t.fld F.LC_FAULT_code i = g.fault.getD fShapeOver) ∧
  (∀ (s : State) (dt : Nat) (i : Fin 16) (c : Fin 8) (g : GridS) (gs : List GridS) (ij : Nat × Nat) (rest : List (Nat × Nat)),
    let u := s.elapse dt
    let r := gridOf ((u.core i).grids.get g.g); let x := r.tile g.p g.mRt g.nRt g.turn ij
    let d := dutyStart (u.core i).duty (u.fld F.SFL_GOV_duty_cap) (u.core i).dutyAt (max (u.coreCycle i + 2) ((u.core i).aDone + 1))
    (u.ctx i c).grids = g :: gs → g.todo = ij :: rest → u.tileTurn i c g r x ij = true → u.gridFault i c g.pc r x ij = none →
    ∃ t h, exec (.gridTileIssue dt i c) s = .next t ∧ (t.core i).aq = (u.core i).aq ++
        [{ ctx := c, pc := g.pc, start := d.1, complete := d.1 + wheelAlign d.1 + x.cycles, job := .tile x }] ∧
      (t.ctx i c).grids.head? = some h ∧ h.issued = g.issued + 1 ∧ h.todo = rest ∧ (t.core i).issuedAt = some u.aclk ∧
      t.ctxState i c = if rest = [] then 1 else 2) ∧
  (∀ (s : State) (dt : Nat) (i : Fin 16) (c : Fin 8) (g : GridS) (gs : List GridS) (ij : Nat × Nat) (rest : List (Nat × Nat)) (code : Nat),
    let u := s.elapse dt
    let r := gridOf ((u.core i).grids.get g.g); let x := r.tile g.p g.mRt g.nRt g.turn ij
    (u.ctx i c).grids = g :: gs → g.todo = ij :: rest → u.tileTurn i c g r x ij = true → u.gridFault i c g.pc r x ij = some code →
    c.val ≠ 6 → u.fld F.LC_FAULT_code i = 0 →
    ∃ t, exec (.gridTileIssue dt i c) s = .next t ∧ t.coreState i = 4 ∧ t.fld F.LC_FAULT_code i = code)

/-- R169, R176, R183, R184, R215, R221, R226: An operation, a conversion and a reduction in turn that pass their checks join the
vector queue with their start and completion cycles, the operation and the conversion faulting otherwise; a completed one writes
its lanes, an operation counting what it clips under its record where it names one, a conversion always. The last places of the
approximate functions are Config's. Each clause says that the command named, in a state u (the state once its dt cycles have
passed) that meets the conditions on the left of the last arrow, answers a next state with that effect. -/
def Obligations.VectorUnit : Prop :=
  (∀ (s : State) (dt : Nat) (i : Fin 16) (c : Fin 8) (f : VFun) (srcs : List VSrc) (dst : VDst) (n : BitVec 16) (rec_ : Option Byte),
    let u := s.elapse dt; let rs := srcRanges srcs (64 * vInBytes f * n.toNat); let out := 64 * vOutBytes f * n.toNat
    let a := startCycle (u.coreCycle i) (u.core i).vDone
    u.itsTurn i c → u.vectorFree i = true → u.vectorChecks i rs.length (rs ++ dstRanges dst out) = none →
    ∃ t, exec (.vectorOp dt i c f srcs dst n rec_) s = .next t ∧ t.pcOf i c = (u.pcOf i c + 1) % 4096 ∧
      (t.core i).vq = (u.core i).vq ++ [{ ctx := c, pc := u.pcOf i c, start := a, complete := a + wheelAlign a + (ceilDiv out 256 * max rs.length 1 + 12), job := .op f srcs dst n.toNat (rec_.map (·.toNat)) }]) ∧
  (∀ (s : State) (dt : Nat) (i : Fin 16) (c : Fin 8) (f : VFun) (srcs : List VSrc) (dst : VDst) (n : BitVec 16) (rec_ : Option Byte)
      (code : Nat),
    let u := s.elapse dt; let rs := srcRanges srcs (64 * vInBytes f * n.toNat); let out := 64 * vOutBytes f * n.toNat
    u.itsTurn i c → u.vectorFree i = true → c.val ≠ 6 → u.fld F.LC_FAULT_code i = 0 →
    u.vectorChecks i rs.length (rs ++ dstRanges dst out) = some code →
    ∃ t, exec (.vectorOp dt i c f srcs dst n rec_) s = .next t ∧ t.coreState i = 4 ∧ t.fld F.LC_FAULT_code i = code) ∧
  (∀ (s : State) (dt : Nat) (i : Fin 16) (c : Fin 8) (o : ConvertOp), let u := s.elapse dt
    let rs := srcRanges [o.from_] (elemBytes o.src.toNat o.count.toNat); let out := elemBytes o.dst.toNat o.count.toNat
    let a := startCycle (u.coreCycle i) (u.core i).vDone
    u.itsTurn i c → u.vectorFree i = true → convertible o.src.toNat o.dst.toNat = true →
    u.vectorChecks i rs.length (rs ++ dstRanges o.to_ out) = none →
    ∃ t, exec (.vectorConvert dt i c o) s = .next t ∧ t.pcOf i c = (u.pcOf i c + 1) % 4096 ∧
      (t.core i).vq = (u.core i).vq ++ [{ ctx := c, pc := u.pcOf i c, start := a, complete := a + wheelAlign a + (ceilDiv out 256 + 12), job := .convert o.src.toNat o.dst.toNat o.ovfInf o.scale.toNat o.from_ o.to_ o.count.toNat o.record.toNat }]) ∧
  (∀ (s : State) (dt : Nat) (i : Fin 16) (c : Fin 8) (o : ConvertOp), let u := s.elapse dt
    u.itsTurn i c → u.vectorFree i = true → c.val ≠ 6 → u.fld F.LC_FAULT_code i = 0 → convertible o.src.toNat o.dst.toNat = false →
    ∃ t, exec (.vectorConvert dt i c o) s = .next t ∧ t.coreState i = 4 ∧ t.fld F.LC_FAULT_code i = fIllegalOp) ∧
  (∀ (s : State) (dt : Nat) (i : Fin 16) (c : Fin 8) (f : VFold) (src : VSrc) (dst : VDst) (n : BitVec 16), let u := s.elapse dt
    let rs := srcRanges [src] (256 * n.toNat); let a := startCycle (u.coreCycle i) (u.core i).vDone
    u.itsTurn i c → u.vectorFree i = true → u.vectorChecks i rs.length (rs ++ dstRanges dst 256) = none →
    ∃ t, exec (.vectorReduction dt i c f src dst n) s = .next t ∧ t.pcOf i c = (u.pcOf i c + 1) % 4096 ∧
      (t.core i).vq = (u.core i).vq ++ [{ ctx := c, pc := u.pcOf i c, start := a, complete := a + wheelAlign a + (n.toNat + 20), job := .fold f src dst n.toNat }]) ∧
  (∀ (s : State) (dt : Nat) (i : Fin 16) (e : VEntry) (l : List VEntry) (f : VFun) (srcs : List VSrc) (dst : VDst) (n : Nat)
      (rec_ : Option Nat), let u := s.elapse dt
    let r := opLanes (u.core i).seen (u.padOf i) (u.core i).vregs (e.start + wheelAlign e.start) f srcs n
    let y := (u.core i).putLanes (e.complete - 8) dst (laneFmt (vOutBytes f)) (r.map (·.1))
    (u.core i).vq = e :: l → e.complete ≤ u.coreCycle i → u.coreState i ≠ 4 → e.job = .op f srcs dst n rec_ →
    ∃ t, exec (.vectorComplete dt i) s = .next t ∧ (t.core i).vq = l ∧ (t.core i).spad = y.spad ∧ (t.core i).vregs = y.vregs ∧
      ∀ k, rec_ = some k → ((t.core i).counts.get k).clipped =
        satAdd 32 ((u.core i).counts.get k).clipped (r.filter (·.2)).length) ∧
  (∀ (s : State) (dt : Nat) (i : Fin 16) (e : VEntry) (l : List VEntry) (a b : Nat) (fa fb : Fmt) (ovf : Bool) (sc : Nat) (src : VSrc)
      (dst : VDst) (k r : Nat), let u := s.elapse dt
    let v := convertLanes (u.core i).seen (u.padOf i) (u.core i).vregs (e.start + wheelAlign e.start) fa fb ovf sc src k
    let y := (u.core i).putLanes (e.complete - 8) dst fb (v.map (·.1))
    (u.core i).vq = e :: l → e.complete ≤ u.coreCycle i → u.coreState i ≠ 4 → e.job = .convert a b ovf sc src dst k r →
    fmtOf a = some fa → fmtOf b = some fb →
    ∃ t, exec (.vectorComplete dt i) s = .next t ∧ (t.core i).vq = l ∧ (t.core i).spad = y.spad ∧ (t.core i).vregs = y.vregs ∧
      ((t.core i).counts.get r).produced = satAdd 32 ((u.core i).counts.get r).produced k ∧
      ((t.core i).counts.get r).clipped = satAdd 32 ((u.core i).counts.get r).clipped (v.filter (·.2)).length) ∧
  (∀ (s : State) (dt : Nat) (i : Fin 16) (e : VEntry) (l : List VEntry) (f : VFold) (src : VSrc) (dst : VDst) (n : Nat), let u := s.elapse dt
    let v := foldLanes (u.core i).seen (u.padOf i) (u.core i).vregs (e.start + wheelAlign e.start) f src n
    let y := (u.core i).putLanes (e.complete - 8) dst .int32 v
    (u.core i).vq = e :: l → e.complete ≤ u.coreCycle i → u.coreState i ≠ 4 → e.job = .fold f src dst n →
    ∃ t, exec (.vectorComplete dt i) s = .next t ∧ (t.core i).vq = l ∧ (t.core i).spad = y.spad ∧ (t.core i).vregs = y.vregs)

/-- R173, R174, R177, R187, R188, R189, R190, R195, R233, R234: RCHK goes on, or retakes at the record's address, counted, or returns
from its Retake; in a training stripe it always goes on; a wait goes on where its condition holds and waits otherwise; arriving
members complete a barrier's phase once their earlier writes have landed; a wait for a phase ends when it has come; a barrier not
completed in 10 ms stops the core, as an uncorrectable scratchpad error does, a corrected one being counted. Each clause says that
the command named, in a state u (the state once its dt cycles have passed) that meets the conditions on the left of the last
arrow, answers a next state with that effect. -/
def Obligations.WaitsAndBarriers : Prop :=
  (∀ (s : State) (dt : Nat) (i : Fin 16) (c : Fin 8) (k : Byte) (b : BoundS), let u := s.elapse dt
    let ret := (u.ctx i c).retake
    u.itsTurn i c → (u.core i).bound = some b → b.training = false →
    ∃ t, exec (.rchk dt i c k) s = .next t ∧
      (ret.map (·.1) = some k.toNat → t.pcOf i c = ((ret.map (·.2)).getD 0) % 4096 ∧ (t.ctx i c).retake = none ∧ (t.core i).bound = some b) ∧
      (ret.map (·.1) ≠ some k.toNat → u.rchkOutcome i k.toNat b = none →
        t.pcOf i c = (u.pcOf i c + 1) % 4096 ∧ (t.core i).bound = some b) ∧
      (ret.map (·.1) ≠ some k.toNat → u.rchkOutcome i k.toNat b = some .LC_CNT_RETAKE →
        t.pcOf i c = (u.layer i k.toNat).retakePc % 4096 ∧ (t.core i).bound = some { b with retakes := b.retakes + 1 } ∧
        (t.ctx i c).retake = some (k.toNat, (u.pcOf i c + 1) % 4096) ∧
        t.regN .LC_CNT_RETAKE i = satAdd 32 (u.regN .LC_CNT_RETAKE i) 1) ∧
      (∀ x ∈ [RegName.LC_CNT_SKIP_OFF, .LC_CNT_SKIP_GOV, .LC_CNT_SKIP_LIMIT, .LC_CNT_SKIP_SLACK],
        ret.map (·.1) ≠ some k.toNat ∧ u.rchkOutcome i k.toNat b = some x →
        t.pcOf i c = (u.pcOf i c + 1) % 4096 ∧ t.regN x i = satAdd 32 (u.regN x i) 1)) ∧
  (∀ (s : State) (dt : Nat) (i : Fin 16) (c : Fin 8) (k : Byte), let u := s.elapse dt
    u.itsTurn i c → ((u.core i).bound.all fun b => b.training) = true →
    ∃ t, exec (.rchk dt i c k) s = .next t ∧ t.pcOf i c = (u.pcOf i c + 1) % 4096 ∧ (t.core i).bound = (u.core i).bound) ∧
  (∀ (s : State) (dt : Nat) (i : Fin 16) (c : Fin 8) (pc : BitVec 12), let u := s.elapse dt; let o := u.outstanding i c pc.toNat
    u.itsTurn i c →
    ∃ t, exec (.controlWait dt i c (.own pc)) s = .next t ∧ t.pcOf i c = (u.pcOf i c + 1) % 4096 ∧
      t.ctxState i c = (if o then 2 else 1) ∧
      (o = true → (t.ctx i c).wait = if u.isLoad i c pc.toNat then .rescale pc.toNat else .own pc.toNat)) ∧
  (∀ (s : State) (dt : Nat) (i : Fin 16) (c : Fin 8) (second : Bool) (v : BitVec 32), let u := s.elapse dt
    let q := 2 * c.val + b2n second
    u.itsTurn i c →
    ∃ t, exec (.controlWait dt i c (.dmaRows second v)) s = .next t ∧ t.pcOf i c = (u.pcOf i c + 1) % 4096 ∧
      t.ctxState i c = (if u.rowsReached i q v.toNat then 1 else 2) ∧
      (u.rowsReached i q v.toNat = false → (t.ctx i c).wait = .dmaRows q v.toNat)) ∧
  (∀ (s : State) (dt : Nat) (i : Fin 16) (c : Fin 8), let u := s.elapse dt; let g := u.groupOf i
    let all := decide ((u.group g).groupMembers.length ≤ (u.group g).groupArrived.length + 1)
    u.itsTurn i c → i.val ∈ (u.group g).groupMembers → i.val ∉ (u.group g).groupArrived → u.writesBefore i c (u.core i).serial = false →
    ∃ t, exec (.barrierArrive dt i c .group) s = .next t ∧ t.pcOf i c = (u.pcOf i c + 1) % 4096 ∧
      (t.group g).groupPhase = (if all then (u.group g).groupPhase + 1 else (u.group g).groupPhase) ∧
      (t.group g).groupArrived = (if all then [] else i.val :: (u.group g).groupArrived)) ∧
  (∀ (s : State) (dt : Nat) (i : Fin 16), let u := s.elapse dt
    let all := decide (u.devMembers.length ≤ u.devArrived.length + 1)
    u.itsTurn i 7 → i.val ∈ u.devMembers → i.val ∉ u.devArrived → u.writesBefore i 7 (u.core i).serial = false →
    ∃ t, exec (.barrierArrive dt i 7 .device) s = .next t ∧ t.devPhase = (if all then u.devPhase + 1 else u.devPhase) ∧
      t.devArrived = (if all then [] else i.val :: u.devArrived)) ∧
  (∀ (s : State) (dt : Nat) (i : Fin 16) (c : Fin 8) (b : BarScope), let u := s.elapse dt; let g := u.groupOf i
    u.itsTurn i c → (b = .group ∨ b = .device ∧ c.val = 7) → u.writesBefore i c (u.core i).serial = true →
    ∃ t, exec (.barrierArrive dt i c b) s = .next t ∧ t.pcOf i c = (u.pcOf i c + 1) % 4096 ∧
      (t.core i).arrivals = (u.core i).arrivals ++ [{ ctx := c, scope := b, before := (u.core i).serial }] ∧
      (t.group g).groupPhase = (u.group g).groupPhase ∧ (t.group g).groupArrived = (u.group g).groupArrived ∧
      t.devPhase = u.devPhase ∧ t.devArrived = u.devArrived) ∧
  (∀ (s : State) (dt : Nat) (i : Fin 16) (c : Fin 8) (b : BarScope) (phase : Nat), let u := s.elapse dt
    u.itsTurn i c → (b ≠ .device ∨ c.val = 7) →
    ∃ t, exec (.barrierWait dt i c b phase) s = .next t ∧ t.pcOf i c = (u.pcOf i c + 1) % 4096 ∧
      t.ctxState i c = (if phase ≤ u.barPhase i b then 1 else 2) ∧ (u.barPhase i b < phase → (t.ctx i c).wait = .barrier b phase)) ∧
  (∀ (s : State) (dt : Nat) (i : Fin 16) (c : Fin 8) (b : BarScope) (phase : Nat), let u := s.elapse dt
    c.val ≠ 6 → (u.ctx i c).wait = .barrier b phase → u.ctxState i c = 2 → (u.ctx i c).since + 10000000 < u.now →
    u.fld F.LC_FAULT_code i = 0 →
    ∃ t, exec (.barrierTimeout dt i c) s = .next t ∧ t.coreState i = 4 ∧ t.fld F.LC_FAULT_code i = fBarrierTimeout ∧
      (t.core i).bound = none) ∧
  (∀ (s : State) (dt : Nat) (i : Fin 16) (c : Fin 8) (b : BarScope) (phase : Nat), let u := s.elapse dt
    (u.ctx i c).wait = .barrier b phase → u.now ≤ (u.ctx i c).since + 10000000 → exec (.barrierTimeout dt i c) s = .next u) ∧
  (∀ (s : State) (dt : Nat) (i : Fin 16) (c : Fin 8) (pc : BitVec 12), let u := s.elapse dt
    (u.coreState i = 2 ∨ u.coreState i = 3) →
    ∃ t, exec (.spadEccError dt i c pc false) s = .next t ∧ t.regN .LC_ECC_CNT i = satAdd 32 (u.regN .LC_ECC_CNT i) 1 ∧
      t.coreState i = u.coreState i ∧ (t.core i).spad = (u.core i).spad) ∧
  (∀ (s : State) (dt : Nat) (i : Fin 16) (c : Fin 8) (pc : BitVec 12), let u := s.elapse dt
    (u.coreState i = 2 ∨ u.coreState i = 3) → c.val ≠ 6 → u.fld F.LC_FAULT_code i = 0 →
    ∃ t, exec (.spadEccError dt i c pc true) s = .next t ∧ t.coreState i = 4 ∧ t.fld F.LC_FAULT_code i = fSpadEcc ∧
      (t.core i).bound = none)

/-- R176, R191, R192, R195: A posted receive and a send whose targets can be reached are queued and wait, and one out of range or
reach faults; a completed send stores its bytes at the receiver's place and both contexts go on; a ring wait of 1 ms stops the
core. Each clause says that the command named, in a state u (the state once its dt cycles have passed) that meets the conditions
on the left of the last arrow, answers a next state with that effect. -/
def Obligations.RingTransfers : Prop :=
  (∀ (s : State) (dt : Nat) (i : Fin 16) (c : Fin 8) (a len : Word), let u := s.elapse dt
    u.itsTurn i c → u.spadFits i a.toNat len.toNat = true →
    ∃ t r, exec (.ringReceivePost dt i c a len) s = .next t ∧ r ∈ (t.core i).recvs ∧ r.ctx = c.val ∧ r.addr = a.toNat ∧ r.len = len.toNat ∧
      t.ctxState i c = 2 ∧ (t.ctx i c).wait = .ring ∧ t.pcOf i c = (u.pcOf i c + 1) % 4096) ∧
  (∀ (s : State) (dt : Nat) (i : Fin 16) (c : Fin 8) (a len : Word), let u := s.elapse dt
    u.itsTurn i c → c.val ≠ 6 → u.fld F.LC_FAULT_code i = 0 → u.spadFits i a.toNat len.toNat = false →
    ∃ t, exec (.ringReceivePost dt i c a len) s = .next t ∧ t.coreState i = 4 ∧ t.fld F.LC_FAULT_code i = fSpadRange) ∧
  (∀ (s : State) (dt : Nat) (i : Fin 16) (c : Fin 8) (a len : Word) (mask : BitVec 16), let u := s.elapse dt
    u.itsTurn i c → (∀ j, j < 16 → bit mask.toNat j = true → (u.hops i j).isSome = true) → u.spadFits i a.toNat len.toNat = true →
    ∃ t x, exec (.ringSend dt i c a len mask) s = .next t ∧ x ∈ (t.core i).sends ∧ x.ctx = c.val ∧ x.pc = u.pcOf i c ∧ x.addr = a.toNat ∧
      x.len = len.toNat ∧ x.targets = (List.range 16).filter (bit mask.toNat) ∧ t.ctxState i c = 2 ∧ (t.ctx i c).wait = .ring) ∧
  (∀ (s : State) (dt : Nat) (i : Fin 16) (c : Fin 8) (a len : Word) (mask : BitVec 16), let u := s.elapse dt
    let far := ((List.range 16).filter (bit mask.toNat)).any fun j => (u.hops i j).isNone
    u.itsTurn i c → c.val ≠ 6 → u.fld F.LC_FAULT_code i = 0 → (far || !u.spadFits i a.toNat len.toNat) = true →
    ∃ t, exec (.ringSend dt i c a len mask) s = .next t ∧ t.coreState i = 4 ∧
      t.fld F.LC_FAULT_code i = if far then fIllegalOp else fSpadRange) ∧
  (∀ (s : State) (dt : Nat) (i j : Fin 16) (x : SendS) (a : Nat) (r : RecvS), let u := s.elapse dt
    i ≠ j → (∀ k, k < 16 → k ≠ i.val → (u.core k).sends = []) → (u.core i).sends = [x] → x.complete = some a → a ≤ u.coreCycle i →
    x.targets = [j.val] → (u.core j).recvs = [r] → r.taken = true →
    ∃ t, exec (.ringComplete dt i) s = .next t ∧ (t.core i).sends = [] ∧ (t.core j).recvs = [] ∧
      (t.core j).spad = memWrites (u.core j).spad r.addr ((u.sentBytes i a x).take r.len) ∧
      ((u.ctx i x.ctx).wait = .ring → u.ctxState i x.ctx = 2 → t.ctxState i x.ctx = 1) ∧
      ((u.ctx j r.ctx).wait = .ring → u.ctxState j r.ctx = 2 → t.ctxState j r.ctx = 1)) ∧
  (∀ (s : State) (dt : Nat) (i : Fin 16) (c : Fin 8), let u := s.elapse dt
    c.val ≠ 6 → (u.ctx i c).wait = .ring → u.ctxState i c = 2 → (u.ctx i c).since + 1000000 < u.now →
    ((u.core i).sends.any fun x => x.ctx == c.val && x.complete.isSome) = false → u.fld F.LC_FAULT_code i = 0 →
    ∃ t, exec (.ringTimeout dt i c) s = .next t ∧ t.coreState i = 4 ∧ t.fld F.LC_FAULT_code i = fRingTimeout ∧ (t.core i).bound = none)

/-- R320, R321, R322, R323, R324, R325, R327, R328, R329, R330, R333, R334: A drawn still frame gives a pair, one that moved is
counted, one too many is dropped; the reverse pipeline builds a pair, its target and its raw codes, and its tap completes it; a
training stripe is queued with room in the budget, on its first stage and then on the later ones; a step of momentum consumes a
pair, and none starts while paused, over budget or with a gate undecided; a candidate is encoded when it has not drifted, and
otherwise the masters are restored and adaptation pauses; the gate accepts a candidate no worse than it must be and rejects
another; an accepted one is written to a free slot and staged, and waits while none is free; the budget's window ends. What the
head's layers compute is Config's (log 62). Each clause says that the command named, in a state u (the state once its dt cycles
have passed) that meets the conditions on the left of the last arrow, answers a next state with that effect. -/
def Obligations.RetouchTraining : Prop :=
  (∀ (s : State) (dt : Nat) (n : Fin 512) (q : Word) (input : List Byte), let u := s.elapse dt; let a := u.adaptOf n
    let g := a.cand.any (fun c => !c.accepted) && decide (a.gate.length < 4)
    let x : PairS := { seq := q.toNat, stripe := u.pairStripe n q.toNat, col0 := u.pairCol n q.toNat, input := u.tapInput n input, target := windowOf (u.finalRows n (q.toNat - 1) (u.pairStripe n q.toNat)) (u.pairCol n q.toNat) (u.pairWin n) }
    u.fld F.CAM_ADAPT_STATUS_state n = 1 → u.drawn n q.toNat = true → a.building = none → u.reverseDue n q.toNat = false →
    a.lastPair.all (· < q.toNat) = true → u.pairReady n q.toNat = true → u.pairsFull n = false → u.still n q.toNat = true →
    ∃ t, exec (.trainingPair dt n q input) s = .next t ∧ (t.adaptOf n).lastPair = some q.toNat ∧
      (t.adaptOf n).pairs = (if g then a.pairs else a.pairs ++ [x]) ∧ (t.adaptOf n).gate = (if g then a.gate ++ [x] else a.gate) ∧
      t.regN .CAM_CNT_ADAPT_PAIR n = satAdd 32 (u.regN .CAM_CNT_ADAPT_PAIR n) 1) ∧
  (∀ (s : State) (dt : Nat) (n : Fin 512) (q : Word) (input : List Byte), let u := s.elapse dt; let a := u.adaptOf n
    u.fld F.CAM_ADAPT_STATUS_state n = 1 → u.drawn n q.toNat = true → a.building = none → u.reverseDue n q.toNat = false →
    a.lastPair.all (· < q.toNat) = true → u.pairReady n q.toNat = true → u.pairsFull n = true ∨ u.still n q.toNat = false →
    ∃ t, exec (.trainingPair dt n q input) s = .next t ∧ t.adaptOf n = { a with lastPair := some q.toNat } ∧
      t.regN .CAM_CNT_ADAPT_PAIR n = u.regN .CAM_CNT_ADAPT_PAIR n ∧
      t.regN .CAM_CNT_ADAPT_NOTSTILL n = satAdd 32 (u.regN .CAM_CNT_ADAPT_NOTSTILL n) (b2n (!u.pairsFull n))) ∧
  (∀ (s : State) (dt : Nat) (n : Fin 512) (q : Word) (input : List Byte) (b : PairS), let u := s.elapse dt; let a := u.adaptOf n
    let g := a.cand.any (fun c => !c.accepted) && decide (a.gate.length < 4)
    let x : PairS := { b with input := u.tapInput n input }
    u.fld F.CAM_ADAPT_STATUS_state n = 1 → u.drawn n q.toNat = true → a.building = some b → b.seq = q.toNat → u.tapped n = true →
    u.pairsFull n = false →
    ∃ t, exec (.trainingPair dt n q input) s = .next t ∧ (t.adaptOf n).building = none ∧
      (t.adaptOf n).reversePairs = a.reversePairs + 1 ∧
      (t.adaptOf n).pairs = (if g then a.pairs else a.pairs ++ [x]) ∧ (t.adaptOf n).gate = (if g then a.gate ++ [x] else a.gate) ∧
      t.regN .CAM_CNT_ADAPT_PAIR n = satAdd 32 (u.regN .CAM_CNT_ADAPT_PAIR n) 1) ∧
  (∀ (s : State) (dt : Nat) (n : Fin 512) (q : Word), let u := s.elapse dt; let a := u.adaptOf n
    let ref := a.refs.getD (q.toNat / u.pairDiv n / 2 % a.refs.length) (0, 0, 0)
    let k := u.pairStripe n q.toNat
    let ys := ((List.range 48).filter fun i => decide (8 ≤ 32 * k + i) && decide (32 * k + i < u.outH n + 8)).map fun i => 32 * k + i - 8
    let px := fun (y x : Nat) => u.reversePixel n ref.1 ref.2.1 y x ((rowDraws (u.width n) (rowSeed ref.2.2 a.reversePairs y)).getD x 0)
    let at_ := fun (p y x : Nat) => u.refAt n ref.1 p (32 * k + y) x
    let rows := (List.range (min 32 (u.outH n - 32 * k))).map fun y => (List.range (u.width n)).map fun x => (at_ 0 y x, at_ 1 y x, at_ 2 y x)
    u.fld F.CAM_ADAPT_STATUS_state n = 1 → u.drawn n q.toNat = true → u.reverseDue n q.toNat = true → a.building = none →
    a.lastPair.all (· < q.toNat) = true → u.sixReady (u.camSg n) = true →
    ∃ t, exec (.reversePipelineRun dt n q) s = .next t ∧ (t.adaptOf n).trained = [] ∧
      (t.adaptOf n).building = some { seq := q.toNat, stripe := k, col0 := u.pairCol n q.toNat, reverse := true, target := windowOf rows (u.pairCol n q.toNat) (u.pairWin n) } ∧
      (t.adaptOf n).codes = ys.map fun y => (y, packRow (u.codeBits n) (u.width n) ((List.range (u.width n)).map (px y)))) ∧
  (∀ (s : State) (dt : Nat) (n : Fin 512) (w : Fin 32) (b : PairS), let u := s.elapse dt; let g := u.camSg n; let c := u.counter g w
    let x := u.regN .HLD_WC_NEXT (32 * g + w)
    let h : Share := { cam := n, seq := b.seq, stripe := b.stripe, idx := x, gen := 0, deadline := 2 ^ 64 - 1, inl := false, training := true }
    (u.adaptOf n).building = some b → u.fld F.CAM_ADAPT_STATUS_state n = 1 →
    (c.inputs = [] ∧ ∀ i ∈ u.groupCores g, u.regN .LC_ADAPT_USED i + u.trainCycles n i ≤ u.adaptBudget i) ∨
      (c.inputs ≠ [] ∧ ∀ i ∈ c.inputs, i ∈ (u.adaptOf n).trained) →
    w.val ∉ (u.adaptOf n).trained → (∀ h ∈ c.shares, ¬ (h.training = true ∧ h.cam = n)) →
    u.flag F.HLD_WC_CFG_active (32 * g + w) = true → (u.cam n).model = some c.handle →
    ∃ t, exec (.trainingStripeQueue dt n w) s = .next t ∧ (t.counter g w).shares = insertShare h c.shares ∧
      t.regN .HLD_WC_NEXT (32 * g + w) = (x + 1) % 2 ^ 32) ∧
  (∀ (s : State) (dt : Nat) (n : Fin 512) (w : Fin 32) (i : Nat), let u := s.elapse dt; let g := u.camSg n
    (u.counter g w).inputs = [] → i ∈ u.groupCores g → u.adaptBudget i < u.regN .LC_ADAPT_USED i + u.trainCycles n i →
    exec (.trainingStripeQueue dt n w) s = .next u) ∧
  (∀ (s : State) (dt : Nat) (n : Fin 512) (d : HeadDecl) (i : Nat) (p : PairS) (l : List PairS), let u := s.elapse dt; let a := u.adaptOf n
    let m := (a.mom.zip (headGrads d a.masters p)).map fun x => fAdd (fMul (u.betaBits n) x.1) x.2
    u.headOf n = some d → u.headCore n = some i → a.pairs = p :: l → u.fld F.CAM_ADAPT_STATUS_state n = 1 → u.sixReady i = true →
    a.cand.all (·.accepted) = true →
    ∃ t, exec (.trainingStep dt n) s = .next t ∧ (t.adaptOf n).pairs = l ∧ (t.adaptOf n).steps = a.steps + 1 ∧ (t.adaptOf n).mom = m ∧
      (t.adaptOf n).masters = (a.masters.zip m).map fun x => fSub x.1 (fMul (u.rateBits n) x.2)) ∧
  (∀ (s : State) (dt : Nat) (n : Fin 512) (i : Nat), let u := s.elapse dt
    u.headCore n = some i → u.fld F.CAM_ADAPT_STATUS_state n ≠ 1 ∨ u.sixReady i = false ∨ (u.adaptOf n).cand.all (·.accepted) = false →
    exec (.trainingStep dt n) s = .next u) ∧
  (∀ (s : State) (dt : Nat) (n : Fin 512) (d : HeadDecl), let u := s.elapse dt; let a := u.adaptOf n
    let x := driftTest a.masters (headDecodeSlot d d.base) (u.fld F.CAM_ADAPT_OPT_drift_max n)
    u.headOf n = some d → u.fld F.CAM_ADAPT_STATUS_state n = 1 → a.cand = none → max 1 (u.fld F.CAM_ADAPT_CFG_steps n) ≤ a.steps →
    ∃ t, exec (.candidateEncode dt n) s = .next t ∧ (t.adaptOf n).steps = 0 ∧
      (x.1 = true → (t.adaptOf n).cand = some { slot := headEncode d a.masters, weights := a.masters, drift := x.2 } ∧
        (t.adaptOf n).masters = a.masters ∧ (t.adaptOf n).mom = a.mom) ∧
      (x.1 = false → (t.adaptOf n).cand = none ∧ (t.adaptOf n).masters = a.snapshot ∧ (t.adaptOf n).mom = a.snapshot.map (fun _ => 0) ∧
        t.fld F.CAM_ADAPT_STATUS_state n = 2 ∧ bit (t.adaptOf n).causes (cDrift - 1) = true ∧
        t.regN .CAM_ADAPT_NUM n = (u.regN .CAM_ADAPT_NUM n + 2) % 2 ^ 32)) ∧
  (∀ (s : State) (dt : Nat) (n : Fin 512) (d : HeadDecl) (c : CandS), let u := s.elapse dt; let a := u.adaptOf n
    let lc := meanLoss (a.gate.map (pairLoss d (headDecodeSlot d c.slot)))
    let lk := meanLoss (a.gate.map (pairLoss d (headDecodeSlot d (u.headSet n (u.cam n).headNow))))
    u.headOf n = some d → a.cand = some c → u.fld F.CAM_ADAPT_STATUS_state n = 1 → a.gate.length = 4 → c.accepted = false →
    ∃ t, exec (.gateDecision dt n) s = .next t ∧ (t.adaptOf n).gate = [] ∧ (t.adaptOf n).pairs = a.pairs ++ a.gate ∧
      (lc = none ∨ lk = none → (t.adaptOf n).cand = none) ∧
      (∀ x y, lc = some x → lk = some y → x.1 * 256 * y.2 ≤ y.1 * (256 - u.fld F.CAM_ADAPT_OPT_gate n) * x.2 →
        (t.adaptOf n).cand = some { c with accepted := true, lk := lossBits lk, lc := lossBits lc }) ∧
      (∀ x y, lc = some x → lk = some y → y.1 * (256 - u.fld F.CAM_ADAPT_OPT_gate n) * x.2 < x.1 * 256 * y.2 →
        (t.adaptOf n).cand = none ∧ t.regN .CAM_CNT_ADAPT_REJECT n = satAdd 32 (u.regN .CAM_CNT_ADAPT_REJECT n) 1 ∧
        t.regN .CAM_ADAPT_NUM n = (u.regN .CAM_ADAPT_NUM n + 1) % 2 ^ 32)) ∧
  (∀ (s : State) (dt : Nat) (n : Fin 512) (c : CandS) (h : Nat), let u := s.elapse dt
    (u.adaptOf n).cand = some c → u.freeHead n = some h → c.accepted = true →
    ∃ t, exec (.headSetStage dt n) s = .next t ∧ (t.adaptOf n).cand = none ∧ (t.adaptOf n).swaps = (u.adaptOf n).swaps + 1 ∧
      (t.cam n).headStaged = some h ∧ t.headSet n h = c.slot ∧ (t.adaptOf n).digests.get h = Config.sm3 c.slot ∧
      (t.adaptOf n).snapshot = (u.adaptOf n).masters ∧ t.regN .CAM_ADAPT_NUM n = (u.regN .CAM_ADAPT_NUM n + 1) % 2 ^ 32) ∧
  (∀ (s : State) (dt : Nat) (n : Fin 512), let u := s.elapse dt
    u.freeHead n = none ∨ (u.adaptOf n).cand.any (·.accepted) = false → exec (.headSetStage dt n) s = .next u) ∧
  (∀ (s : State) (dt : Nat) (i : Fin 16), let u := s.elapse dt
    (u.core i).window + 7000000 ≤ u.coreCycle i →
    ∃ t, exec (.adaptBudgetWindowEnd dt i) s = .next t ∧ t.regN .LC_ADAPT_USED i = u.regN .LC_ADAPT_USED i - u.adaptBudget i ∧
      (t.core i).window = (u.core i).window + 7000000)

/-- R318, R319, R320, R330, R334, R335, R352: ADAPT_START, STOP, PAUSE, RESUME, REVERT, REFS, EXPORT and IMPORT, started, have the
effect the table of R320 gives and reply, or are refused as it says: a start in conflict, without a head or a work area; a stop
while off; a resume of no cause it clears; a picture outside owner memory; an export of a tenant's encrypted graph; a layout that
disagrees. Each clause says that the command named, in a state u (the state once its dt cycles have passed) that meets the
conditions on the left of the last arrow, answers a next state with that effect. -/
def Obligations.AdaptCommands : Prop :=
  (∀ (s : State) (dt : Nat) (r : CmdName) (k : Cmd) (d : HeadDecl), let u := s.elapse dt; let n := k.cam
    u.asked (cmdRef r) 0x0601 k → u.fld F.CAM_ADAPT_STATUS_state n = 0 → u.headOf n = some d → u.areaBases ≠ [] → u.govG = 0 →
    u.boot.sw.any (·.began.isSome) = false →
    ∃ t a, exec (.adaptStart dt r) s = .next t ∧ t.fld F.CAM_ADAPT_STATUS_state n = 1 ∧ (t.adaptOf n).area = some a ∧ a ∈ u.areaBases ∧
      (t.adaptOf n).masters = headDecodeSlot d (u.headSet n (u.cam n).headNow) ∧ (t.adaptOf n).mom.all (· == 0) = true ∧
      (t.adaptOf n).mom.length = (t.adaptOf n).masters.length ∧ (t.adaptOf n).steps = 0 ∧ (t.adaptOf n).pairs = [] ∧
      u.replied t (cmdRef r) k stOk) ∧
  (∀ (s : State) (dt : Nat) (r : CmdName) (k : Cmd), let u := s.elapse dt; let n := k.cam
    u.asked (cmdRef r) 0x0601 k → u.fld F.CAM_ADAPT_STATUS_state n ≠ 0 →
    ∃ t, exec (.adaptStart dt r) s = .next t ∧ t.adapt = u.adapt ∧ u.replied t (cmdRef r) k stConflict) ∧
  (∀ (s : State) (dt : Nat) (r : CmdName) (k : Cmd), let u := s.elapse dt; let n := k.cam
    u.asked (cmdRef r) 0x0601 k → u.fld F.CAM_ADAPT_STATUS_state n = 0 → u.headOf n = none ∨ u.areaBases = [] →
    ∃ t, exec (.adaptStart dt r) s = .next t ∧ t.adapt = u.adapt ∧
      u.replied t (cmdRef r) k (if u.headOf n = none then stBadParam else stNoResource)) ∧
  (∀ (s : State) (dt : Nat) (r : CmdName) (k : Cmd), let u := s.elapse dt; let n := k.cam
    u.asked (cmdRef r) 0x0602 k → u.fld F.CAM_ADAPT_STATUS_state n ≠ 0 →
    ∃ t, exec (.adaptStop dt r) s = .next t ∧ t.fld F.CAM_ADAPT_STATUS_state n = 0 ∧ (t.adaptOf n).area = none ∧
      (t.adaptOf n).masters = [] ∧ (t.adaptOf n).cand = none ∧ (t.adaptOf n).pairs = [] ∧ (t.cam n).headNow = (u.cam n).headNow ∧
      (u.adaptOf n).area.all (fun a => t.sec.clears.any fun e => e.work && e.addr == a && e.bytes == 0x600000) = true ∧
      u.replied t (cmdRef r) k stOk) ∧
  (∀ (s : State) (dt : Nat) (r : CmdName) (k : Cmd), let u := s.elapse dt; let n := k.cam
    u.asked (cmdRef r) 0x0602 k → u.fld F.CAM_ADAPT_STATUS_state n = 0 →
    ∃ t, exec (.adaptStop dt r) s = .next t ∧ t.adapt = u.adapt ∧ u.replied t (cmdRef r) k stClosed) ∧
  (∀ (s : State) (dt : Nat) (r : CmdName) (k : Cmd), let u := s.elapse dt; let n := k.cam
    u.asked (cmdRef r) 0x0603 k → u.fld F.CAM_ADAPT_STATUS_state n = 1 →
    ∃ t, exec (.adaptPause dt r) s = .next t ∧ t.fld F.CAM_ADAPT_STATUS_state n = 2 ∧ bit (t.adaptOf n).causes (cHost - 1) = true ∧
      t.regN .CAM_CNT_ADAPT_PAUSE n = satAdd 32 (u.regN .CAM_CNT_ADAPT_PAUSE n) 1 ∧
      t.fld F.CAM_ADAPT_STATUS_cause n = lowestCause (t.adaptOf n).causes ∧ u.replied t (cmdRef r) k stOk) ∧
  (∀ (s : State) (dt : Nat) (r : CmdName) (k : Cmd) (c : Nat), let u := s.elapse dt; let n := k.cam; let m := (u.adaptOf n).causes
    u.asked (cmdRef r) 0x0604 k → u.fld F.CAM_ADAPT_STATUS_state n = 2 →
    [cHost, cFault, cPoison, cDrift].find? (fun c => bit m (c - 1)) = some c →
    ∃ t, exec (.adaptResume dt r) s = .next t ∧ (t.adaptOf n).causes = m - 2 ^ (c - 1) ∧
      t.fld F.CAM_ADAPT_STATUS_state n = (if m = 2 ^ (c - 1) then 1 else 2) ∧
      t.fld F.CAM_ADAPT_STATUS_cause n = lowestCause (m - 2 ^ (c - 1)) ∧ u.replied t (cmdRef r) k stOk) ∧
  (∀ (s : State) (dt : Nat) (r : CmdName) (k : Cmd), let u := s.elapse dt; let n := k.cam
    u.asked (cmdRef r) 0x0604 k → [cHost, cFault, cPoison, cDrift].all (fun c => !bit (u.adaptOf n).causes (c - 1)) = true →
    ∃ t, exec (.adaptResume dt r) s = .next t ∧ t.adapt = u.adapt ∧ u.replied t (cmdRef r) k stBadParam) ∧
  (∀ (s : State) (dt : Nat) (r : CmdName) (k : Cmd), let u := s.elapse dt; let n := k.cam
    u.asked (cmdRef r) 0x0605 k →
    ∃ t, exec (.adaptRevert dt r) s = .next t ∧ (t.cam n).headStaged = some 0 ∧ (t.cam n).headNow = (u.cam n).headNow ∧
      (t.adaptOf n).snapshot = (u.adaptOf n).masters ∧
      t.regN .CAM_ADAPT_NUM n = (u.regN .CAM_ADAPT_NUM n + 1) % 2 ^ 32 ∧ u.replied t (cmdRef r) k stOk) ∧
  (∀ (s : State) (dt : Nat) (r : CmdName) (k : Cmd) (refs : List (BitVec 64 × BitVec 32 × BitVec 32)), let u := s.elapse dt; let n := k.cam
    let m := getBits (k.w 2) 0 5; let l := (refs.map fun e => (e.1.toNat, e.2.1.toNat, e.2.2.toNat)).take m
    u.asked (cmdRef r) 0x0606 k → 1 ≤ m → m ≤ 16 → (u.fn r.fn).bme = true →
    (∀ x ∈ l, u.ownerMemory x.1 (6 * u.width n * u.outH n) = true) →
    ∃ t, exec (.adaptRefs dt r refs) s = .next t ∧ (t.adaptOf n).refs = l ∧ u.replied t (cmdRef r) k stOk) ∧
  (∀ (s : State) (dt : Nat) (r : CmdName) (k : Cmd) (refs : List (BitVec 64 × BitVec 32 × BitVec 32)), let u := s.elapse dt; let n := k.cam
    let m := getBits (k.w 2) 0 5; let l := (refs.map fun e => (e.1.toNat, e.2.1.toNat, e.2.2.toNat)).take m
    u.asked (cmdRef r) 0x0606 k → 1 ≤ m → m ≤ 16 → (u.fn r.fn).bme = true →
    l.any (fun x => !u.ownerMemory x.1 (6 * u.width n * u.outH n)) = true →
    ∃ t, exec (.adaptRefs dt r refs) s = .next t ∧ t.adapt = u.adapt ∧ u.replied t (cmdRef r) k stNoResource) ∧
  (∀ (s : State) (dt : Nat) (r : CmdName) (k : Cmd), let u := s.elapse dt; let n := k.cam
    u.asked (cmdRef r) 0x0607 k → ((u.camModel n).any fun m => m.encrypted && m.fn != 0) = false →
    ∃ t, exec (.adaptExport dt r) s = .next t ∧ u.replied t (cmdRef r) k stOk ∧ ((u.fn r.fn).bme = true →
      Out.hostWrite r.fn (k.w 1) (bytesAt (u.headSet n (u.cam n).headNow) 0 headBytes) ∈ t.out)) ∧
  (∀ (s : State) (dt : Nat) (r : CmdName) (k : Cmd), let u := s.elapse dt; let n := k.cam
    u.asked (cmdRef r) 0x0607 k → ((u.camModel n).any fun m => m.encrypted && m.fn != 0) = true →
    ∃ t, exec (.adaptExport dt r) s = .next t ∧ u.replied t (cmdRef r) k stDenied) ∧
  (∀ (s : State) (dt : Nat) (r : CmdName) (k : Cmd) (bytes : List Byte) (d : HeadDecl) (h : Nat), let u := s.elapse dt; let n := k.cam
    u.asked (cmdRef r) 0x0608 k → (u.fn r.fn).bme = true → u.headOf n = some d → u.freeHead n = some h →
    ∃ t, exec (.adaptImport dt r bytes) s = .next t ∧
      (headFits d bytes = true → (t.cam n).headStaged = some h ∧ t.headSet n h = bytes ∧
        (t.adaptOf n).digests.get h = Config.sm3 bytes ∧ u.replied t (cmdRef r) k stOk) ∧
      (headFits d bytes = false → (t.cam n).headStaged = (u.cam n).headStaged ∧ u.replied t (cmdRef r) k stBadParam))
end

