-- ==== Sys2Proof/Laws/Tables.lean ====
section
/-! SUPPORT. Keyed tables, bit fields and registers: what a read finds after a write. -/
namespace Sys2Proof.Machine

/-! ### Tables -/

theorem lookupD_filter {κ α : Type} [DecidableEq κ] (t : List (κ × α)) (q : κ → Bool) (j : κ) (d : α) (h : q j = true) :
    lookupD (t.filter fun e => q e.1) j d = lookupD t j d := by
  induction t with
  | nil => rfl
  | cons e t ih =>
    obtain ⟨k', v'⟩ := e
    by_cases hk : k' = j
    · subst hk; simp [h, lookupD]
    · by_cases hq : q k' = true
      · simp [hq, lookupD, hk, ih]
      · simp [hq, lookupD, hk, ih]

/-- An entry left out reads as the default. -/
theorem lookupD_filter_out {κ α : Type} [DecidableEq κ] (t : List (κ × α)) (q : κ → Bool) (j : κ) (d : α) (h : q j = false) :
    lookupD (t.filter fun e => q e.1) j d = d := by
  induction t with
  | nil => rfl
  | cons e t ih =>
    obtain ⟨k', v'⟩ := e
    by_cases hq : q k' = true
    · have hk : k' ≠ j := by
        intro e; subst e; simp [h] at hq
      simp [hq, lookupD, hk, ih]
    · simp [hq, ih]

theorem lookupD_insertAt_ne {κ α : Type} [DecidableEq κ] (t : List (κ × α)) (k j : κ) (v d : α) (h : j ≠ k) :
    lookupD (insertAt t k v) j d = lookupD t j d := by
  unfold insertAt
  have h2 : ¬k = j := fun e => h e.symm
  simp only [lookupD, h2, if_false]
  exact lookupD_filter t (fun x => decide (x ≠ k)) j d (by simpa using h)

theorem lookupD_insertAt {κ α : Type} [DecidableEq κ] (t : List (κ × α)) (k : κ) (v d : α) :
    lookupD (insertAt t k v) k d = v := by
  simp only [insertAt, lookupD, if_true]

/-- An entry set reads back. -/
@[simp] theorem Tab.get_set {α : Type} [Inhabited α] (t : Tab α) (k : Nat) (v : α) : (t.set k v).get k = v :=
  lookupD_insertAt t k v default

/-- An entry set leaves every other entry. -/
theorem Tab.get_set_ne {α : Type} [Inhabited α] (t : Tab α) (k j : Nat) (v : α) (h : j ≠ k) : (t.set k v).get j = t.get j :=
  lookupD_insertAt_ne t k j v default h

/-- An entry modified reads back. -/
@[simp] theorem Tab.get_modify {α : Type} [Inhabited α] (t : Tab α) (k : Nat) (f : α → α) : (t.modify k f).get k = f (t.get k) :=
  Tab.get_set t k _

/-! ### Bit fields -/

/-- The upper bits of a number do not show in a field below them. -/
theorem getBits_mod (x lo w n : Nat) (h : lo + w ≤ n) : getBits (x % 2 ^ n) lo w = getBits x lo w := by
  unfold getBits
  apply Nat.eq_of_testBit_eq
  intro i
  simp only [Nat.testBit_mod_two_pow, Nat.testBit_div_two_pow]
  by_cases hi : i < w
  · have : i + lo < n := by omega
    simp [hi, this]
  · simp [hi]

/-- A number with a field put into it: what lies above, the field, what lies below. -/
theorem putBits_eq (x lo w v : Nat) :
    putBits x lo w v = x % 2 ^ lo + 2 ^ lo * (v % 2 ^ w + 2 ^ w * (x / 2 ^ lo / 2 ^ w)) := by
  unfold putBits getBits
  have e1 := Nat.mod_add_div x (2 ^ lo)
  have e2 := Nat.mod_add_div (x / 2 ^ lo) (2 ^ w)
  have e3 : 2 ^ lo * (x / 2 ^ lo) = 2 ^ lo * (x / 2 ^ lo % 2 ^ w) + 2 ^ lo * (2 ^ w * (x / 2 ^ lo / 2 ^ w)) := by
    rw [← Nat.mul_add, e2]
  rw [Nat.mul_comm (x / 2 ^ lo % 2 ^ w), Nat.mul_comm (v % 2 ^ w), Nat.mul_add]
  omega

/-- A field put into a number reads back. -/
theorem getBits_putBits (x lo w v : Nat) : getBits (putBits x lo w v) lo w = v % 2 ^ w := by
  have hp : 0 < 2 ^ lo := Nat.two_pow_pos lo
  rw [putBits_eq]
  unfold getBits
  rw [Nat.add_mul_div_left _ _ hp, Nat.div_eq_of_lt (Nat.mod_lt _ hp), Nat.zero_add, Nat.add_mul_mod_self_left, Nat.mod_mod]

/-- A field put into a number leaves the fields above it. -/
theorem getBits_putBits_above (x lo w v lo' w' : Nat) (h : lo + w ≤ lo') : getBits (putBits x lo w v) lo' w' = getBits x lo' w' := by
  have hp : 0 < 2 ^ lo := Nat.two_pow_pos lo
  have hw : 0 < 2 ^ w := Nat.two_pow_pos w
  have hs : 2 ^ lo' = 2 ^ lo * 2 ^ w * 2 ^ (lo' - lo - w) := by
    rw [← Nat.pow_add, ← Nat.pow_add]; congr 1; omega
  rw [putBits_eq]
  unfold getBits
  rw [hs, ← Nat.div_div_eq_div_mul, ← Nat.div_div_eq_div_mul, ← Nat.div_div_eq_div_mul, ← Nat.div_div_eq_div_mul,
    Nat.add_mul_div_left _ _ hp, Nat.div_eq_of_lt (Nat.mod_lt _ hp), Nat.zero_add, Nat.add_mul_div_left _ _ hw,
    Nat.div_eq_of_lt (Nat.mod_lt _ hw), Nat.zero_add]

/-- A field put into a number leaves the fields below it. -/
theorem getBits_putBits_below (x lo w v lo' w' : Nat) (h : lo' + w' ≤ lo) : getBits (putBits x lo w v) lo' w' = getBits x lo' w' := by
  rw [← getBits_mod (putBits x lo w v) lo' w' lo h, ← getBits_mod x lo' w' lo h, putBits_eq, Nat.add_mul_mod_self_left, Nat.mod_mod]

/-! ### Registers -/

/-- A register set reads back. -/
@[simp] theorem State.reg_setReg (s : State) (r : RegName) (i : Nat) (w : Word) : (s.setReg r i w).reg r i = w :=
  lookupD_insertAt s.regs (r, i) w _

/-- A register set leaves every other register. -/
theorem State.reg_setReg_ne (s : State) (r r' : RegName) (i i' : Nat) (w : Word) (h : (r', i') ≠ (r, i)) :
    (s.setReg r i w).reg r' i' = s.reg r' i' := lookupD_insertAt_ne s.regs (r, i) (r', i') w _ h

/-- A number set in a register reads back modulo 2^32. -/
@[simp] theorem State.regN_setRegN (s : State) (r : RegName) (i v : Nat) : (s.setRegN r i v).regN r i = v % 2 ^ 32 := by
  simp [State.setRegN, State.regN]

theorem State.regN_setRegN_ne (s : State) (r r' : RegName) (i i' v : Nat) (h : (r', i') ≠ (r, i)) :
    (s.setRegN r i v).regN r' i' = s.regN r' i' := by
  unfold State.setRegN State.regN; rw [State.reg_setReg_ne _ _ _ _ _ _ h]

/-- A field set reads back. -/
theorem State.fld_setFld (s : State) (f : Fld) (i v : Nat) (hf : f.lo + f.width ≤ 32) :
    (s.setFld f i v).fld f i = v % 2 ^ f.width := by
  unfold State.fld State.setFld
  rw [State.regN_setRegN, getBits_mod _ _ _ _ hf, getBits_putBits]

/-- A field set leaves the fields of every other register. -/
theorem State.fld_setFld_ne (s : State) (f g : Fld) (i j v : Nat) (h : (g.reg, j) ≠ (f.reg, i)) :
    (s.setFld f i v).fld g j = s.fld g j := by
  unfold State.fld State.setFld; rw [State.regN_setRegN_ne _ _ _ _ _ _ h]

/-- A field set leaves the other fields of its register. -/
theorem State.fld_setFld_field (s : State) (f g : Fld) (i v : Nat) (hr : g.reg = f.reg) (hg : g.lo + g.width ≤ 32)
    (h : f.lo + f.width ≤ g.lo ∨ g.lo + g.width ≤ f.lo) : (s.setFld f i v).fld g i = s.fld g i := by
  unfold State.fld State.setFld
  rw [hr, State.regN_setRegN, getBits_mod _ _ _ _ hg]
  exact h.elim (getBits_putBits_above _ _ _ _ _ _) (getBits_putBits_below _ _ _ _ _ _)

/-- R10: a register that takes its reset value. -/
theorem State.reg_resetRegs (s : State) (p : RegName → Nat → Bool) (r : RegName) (i : Nat) (h : p r i = true) :
    (s.resetRegs p).reg r i = r.reset i :=
  lookupD_filter_out s.regs (fun x => !p x.1 x.2) (r, i) _ (by simp [h])

/-- A register that no reset picks keeps its value. -/
theorem State.reg_resetRegs_out (s : State) (p : RegName → Nat → Bool) (r : RegName) (i : Nat) (h : p r i = false) :
    (s.resetRegs p).reg r i = s.reg r i :=
  lookupD_filter s.regs (fun x => !p x.1 x.2) (r, i) _ (by simp [h])

end Sys2Proof.Machine
end

