-- ==== Sys2Proof/Laws/State.lean ====
section
/-! SUPPORT. What each plain update of the state leaves in every field, and what the reads find after it. -/
namespace Sys2Proof.Machine

/-! ### setReg -/

@[simp] theorem State.setReg_regs (s : State) (r : RegName) (i : Nat) (w : Word) : (s.setReg r i w).regs = insertAt s.regs (r, i) w := rfl
@[simp] theorem State.setReg_rdShadow (s : State) (r : RegName) (i : Nat) (w : Word) : (s.setReg r i w).rdShadow = s.rdShadow := rfl
@[simp] theorem State.setReg_wrShadow (s : State) (r : RegName) (i : Nat) (w : Word) : (s.setReg r i w).wrShadow = s.wrShadow := rfl
@[simp] theorem State.setReg_time (s : State) (r : RegName) (i : Nat) (w : Word) : (s.setReg r i w).time = s.time := rfl
@[simp] theorem State.setReg_ports (s : State) (r : RegName) (i : Nat) (w : Word) : (s.setReg r i w).ports = s.ports := rfl
@[simp] theorem State.setReg_tx (s : State) (r : RegName) (i : Nat) (w : Word) : (s.setReg r i w).tx = s.tx := rfl
@[simp] theorem State.setReg_cams (s : State) (r : RegName) (i : Nat) (w : Word) : (s.setReg r i w).cams = s.cams := rfl
@[simp] theorem State.setReg_frames (s : State) (r : RegName) (i : Nat) (w : Word) : (s.setReg r i w).frames = s.frames := rfl
@[simp] theorem State.setReg_cores (s : State) (r : RegName) (i : Nat) (w : Word) : (s.setReg r i w).cores = s.cores := rfl
@[simp] theorem State.setReg_devPhase (s : State) (r : RegName) (i : Nat) (w : Word) : (s.setReg r i w).devPhase = s.devPhase := rfl
@[simp] theorem State.setReg_devArrived (s : State) (r : RegName) (i : Nat) (w : Word) : (s.setReg r i w).devArrived = s.devArrived := rfl
@[simp] theorem State.setReg_devMembers (s : State) (r : RegName) (i : Nat) (w : Word) : (s.setReg r i w).devMembers = s.devMembers := rfl
@[simp] theorem State.setReg_hold (s : State) (r : RegName) (i : Nat) (w : Word) : (s.setReg r i w).hold = s.hold := rfl
@[simp] theorem State.setReg_adapt (s : State) (r : RegName) (i : Nat) (w : Word) : (s.setReg r i w).adapt = s.adapt := rfl
@[simp] theorem State.setReg_sec (s : State) (r : RegName) (i : Nat) (w : Word) : (s.setReg r i w).sec = s.sec := rfl
@[simp] theorem State.setReg_boot (s : State) (r : RegName) (i : Nat) (w : Word) : (s.setReg r i w).boot = s.boot := rfl
@[simp] theorem State.setReg_groups (s : State) (r : RegName) (i : Nat) (w : Word) : (s.setReg r i w).groups = s.groups := rfl
@[simp] theorem State.setReg_fns (s : State) (r : RegName) (i : Nat) (w : Word) : (s.setReg r i w).fns = s.fns := rfl
@[simp] theorem State.setReg_rrFn (s : State) (r : RegName) (i : Nat) (w : Word) : (s.setReg r i w).rrFn = s.rrFn := rfl
@[simp] theorem State.setReg_sfl (s : State) (r : RegName) (i : Nat) (w : Word) : (s.setReg r i w).sfl = s.sfl := rfl
@[simp] theorem State.setReg_chn (s : State) (r : RegName) (i : Nat) (w : Word) : (s.setReg r i w).chn = s.chn := rfl
@[simp] theorem State.setReg_log (s : State) (r : RegName) (i : Nat) (w : Word) : (s.setReg r i w).log = s.log := rfl
@[simp] theorem State.setReg_fatal (s : State) (r : RegName) (i : Nat) (w : Word) : (s.setReg r i w).fatal = s.fatal := rfl
@[simp] theorem State.setReg_mem (s : State) (r : RegName) (i : Nat) (w : Word) : (s.setReg r i w).mem = s.mem := rfl
@[simp] theorem State.setReg_out (s : State) (r : RegName) (i : Nat) (w : Word) : (s.setReg r i w).out = s.out := rfl
@[simp] theorem State.setReg_free (s : State) (r : RegName) (i : Nat) (w : Word) : (s.setReg r i w).free = s.free := rfl
@[simp] theorem State.setReg_pending (s : State) (r : RegName) (i : Nat) (w : Word) : (s.setReg r i w).pending = s.pending := rfl
@[simp] theorem State.setReg_port (s : State) (r : RegName) (i : Nat) (w : Word) (p' : Nat) : (s.setReg r i w).port p' = s.port p' := rfl
@[simp] theorem State.setReg_cam (s : State) (r : RegName) (i : Nat) (w : Word) (n' : Nat) : (s.setReg r i w).cam n' = s.cam n' := rfl
@[simp] theorem State.setReg_frame (s : State) (r : RegName) (i : Nat) (w : Word) (n' q' : Nat) : (s.setReg r i w).frame n' q' = s.frame n' q' := rfl
@[simp] theorem State.setReg_fn (s : State) (r : RegName) (i : Nat) (w : Word) (f' : Nat) : (s.setReg r i w).fn f' = s.fn f' := rfl
@[simp] theorem State.setReg_queue (s : State) (r : RegName) (i : Nat) (w : Word) (f' q' : Nat) : (s.setReg r i w).queue f' q' = s.queue f' q' := rfl
@[simp] theorem State.setReg_core (s : State) (r : RegName) (i : Nat) (w : Word) (i' : Nat) : (s.setReg r i w).core i' = s.core i' := rfl
@[simp] theorem State.setReg_group (s : State) (r : RegName) (i : Nat) (w : Word) (g' : Nat) : (s.setReg r i w).group g' = s.group g' := rfl
@[simp] theorem State.setReg_now (s : State) (r : RegName) (i : Nat) (w : Word) : (s.setReg r i w).now = s.now := rfl

/-! ### setRegN -/

@[simp] theorem State.setRegN_rdShadow (s : State) (r : RegName) (i v : Nat) : (s.setRegN r i v).rdShadow = s.rdShadow := rfl
@[simp] theorem State.setRegN_wrShadow (s : State) (r : RegName) (i v : Nat) : (s.setRegN r i v).wrShadow = s.wrShadow := rfl
@[simp] theorem State.setRegN_time (s : State) (r : RegName) (i v : Nat) : (s.setRegN r i v).time = s.time := rfl
@[simp] theorem State.setRegN_ports (s : State) (r : RegName) (i v : Nat) : (s.setRegN r i v).ports = s.ports := rfl
@[simp] theorem State.setRegN_tx (s : State) (r : RegName) (i v : Nat) : (s.setRegN r i v).tx = s.tx := rfl
@[simp] theorem State.setRegN_cams (s : State) (r : RegName) (i v : Nat) : (s.setRegN r i v).cams = s.cams := rfl
@[simp] theorem State.setRegN_frames (s : State) (r : RegName) (i v : Nat) : (s.setRegN r i v).frames = s.frames := rfl
@[simp] theorem State.setRegN_cores (s : State) (r : RegName) (i v : Nat) : (s.setRegN r i v).cores = s.cores := rfl
@[simp] theorem State.setRegN_devPhase (s : State) (r : RegName) (i v : Nat) : (s.setRegN r i v).devPhase = s.devPhase := rfl
@[simp] theorem State.setRegN_devArrived (s : State) (r : RegName) (i v : Nat) : (s.setRegN r i v).devArrived = s.devArrived := rfl
@[simp] theorem State.setRegN_devMembers (s : State) (r : RegName) (i v : Nat) : (s.setRegN r i v).devMembers = s.devMembers := rfl
@[simp] theorem State.setRegN_hold (s : State) (r : RegName) (i v : Nat) : (s.setRegN r i v).hold = s.hold := rfl
@[simp] theorem State.setRegN_adapt (s : State) (r : RegName) (i v : Nat) : (s.setRegN r i v).adapt = s.adapt := rfl
@[simp] theorem State.setRegN_sec (s : State) (r : RegName) (i v : Nat) : (s.setRegN r i v).sec = s.sec := rfl
@[simp] theorem State.setRegN_boot (s : State) (r : RegName) (i v : Nat) : (s.setRegN r i v).boot = s.boot := rfl
@[simp] theorem State.setRegN_groups (s : State) (r : RegName) (i v : Nat) : (s.setRegN r i v).groups = s.groups := rfl
@[simp] theorem State.setRegN_fns (s : State) (r : RegName) (i v : Nat) : (s.setRegN r i v).fns = s.fns := rfl
@[simp] theorem State.setRegN_rrFn (s : State) (r : RegName) (i v : Nat) : (s.setRegN r i v).rrFn = s.rrFn := rfl
@[simp] theorem State.setRegN_sfl (s : State) (r : RegName) (i v : Nat) : (s.setRegN r i v).sfl = s.sfl := rfl
@[simp] theorem State.setRegN_chn (s : State) (r : RegName) (i v : Nat) : (s.setRegN r i v).chn = s.chn := rfl
@[simp] theorem State.setRegN_log (s : State) (r : RegName) (i v : Nat) : (s.setRegN r i v).log = s.log := rfl
@[simp] theorem State.setRegN_fatal (s : State) (r : RegName) (i v : Nat) : (s.setRegN r i v).fatal = s.fatal := rfl
@[simp] theorem State.setRegN_mem (s : State) (r : RegName) (i v : Nat) : (s.setRegN r i v).mem = s.mem := rfl
@[simp] theorem State.setRegN_out (s : State) (r : RegName) (i v : Nat) : (s.setRegN r i v).out = s.out := rfl
@[simp] theorem State.setRegN_free (s : State) (r : RegName) (i v : Nat) : (s.setRegN r i v).free = s.free := rfl
@[simp] theorem State.setRegN_pending (s : State) (r : RegName) (i v : Nat) : (s.setRegN r i v).pending = s.pending := rfl
@[simp] theorem State.setRegN_port (s : State) (r : RegName) (i v : Nat) (p' : Nat) : (s.setRegN r i v).port p' = s.port p' := rfl
@[simp] theorem State.setRegN_cam (s : State) (r : RegName) (i v : Nat) (n' : Nat) : (s.setRegN r i v).cam n' = s.cam n' := rfl
@[simp] theorem State.setRegN_frame (s : State) (r : RegName) (i v : Nat) (n' q' : Nat) : (s.setRegN r i v).frame n' q' = s.frame n' q' := rfl
@[simp] theorem State.setRegN_fn (s : State) (r : RegName) (i v : Nat) (f' : Nat) : (s.setRegN r i v).fn f' = s.fn f' := rfl
@[simp] theorem State.setRegN_queue (s : State) (r : RegName) (i v : Nat) (f' q' : Nat) : (s.setRegN r i v).queue f' q' = s.queue f' q' := rfl
@[simp] theorem State.setRegN_core (s : State) (r : RegName) (i v : Nat) (i' : Nat) : (s.setRegN r i v).core i' = s.core i' := rfl
@[simp] theorem State.setRegN_group (s : State) (r : RegName) (i v : Nat) (g' : Nat) : (s.setRegN r i v).group g' = s.group g' := rfl
@[simp] theorem State.setRegN_now (s : State) (r : RegName) (i v : Nat) : (s.setRegN r i v).now = s.now := rfl

/-! ### setFld -/

@[simp] theorem State.setFld_rdShadow (s : State) (f : Fld) (i v : Nat) : (s.setFld f i v).rdShadow = s.rdShadow := rfl
@[simp] theorem State.setFld_wrShadow (s : State) (f : Fld) (i v : Nat) : (s.setFld f i v).wrShadow = s.wrShadow := rfl
@[simp] theorem State.setFld_time (s : State) (f : Fld) (i v : Nat) : (s.setFld f i v).time = s.time := rfl
@[simp] theorem State.setFld_ports (s : State) (f : Fld) (i v : Nat) : (s.setFld f i v).ports = s.ports := rfl
@[simp] theorem State.setFld_tx (s : State) (f : Fld) (i v : Nat) : (s.setFld f i v).tx = s.tx := rfl
@[simp] theorem State.setFld_cams (s : State) (f : Fld) (i v : Nat) : (s.setFld f i v).cams = s.cams := rfl
@[simp] theorem State.setFld_frames (s : State) (f : Fld) (i v : Nat) : (s.setFld f i v).frames = s.frames := rfl
@[simp] theorem State.setFld_cores (s : State) (f : Fld) (i v : Nat) : (s.setFld f i v).cores = s.cores := rfl
@[simp] theorem State.setFld_devPhase (s : State) (f : Fld) (i v : Nat) : (s.setFld f i v).devPhase = s.devPhase := rfl
@[simp] theorem State.setFld_devArrived (s : State) (f : Fld) (i v : Nat) : (s.setFld f i v).devArrived = s.devArrived := rfl
@[simp] theorem State.setFld_devMembers (s : State) (f : Fld) (i v : Nat) : (s.setFld f i v).devMembers = s.devMembers := rfl
@[simp] theorem State.setFld_hold (s : State) (f : Fld) (i v : Nat) : (s.setFld f i v).hold = s.hold := rfl
@[simp] theorem State.setFld_adapt (s : State) (f : Fld) (i v : Nat) : (s.setFld f i v).adapt = s.adapt := rfl
@[simp] theorem State.setFld_sec (s : State) (f : Fld) (i v : Nat) : (s.setFld f i v).sec = s.sec := rfl
@[simp] theorem State.setFld_boot (s : State) (f : Fld) (i v : Nat) : (s.setFld f i v).boot = s.boot := rfl
@[simp] theorem State.setFld_groups (s : State) (f : Fld) (i v : Nat) : (s.setFld f i v).groups = s.groups := rfl
@[simp] theorem State.setFld_fns (s : State) (f : Fld) (i v : Nat) : (s.setFld f i v).fns = s.fns := rfl
@[simp] theorem State.setFld_rrFn (s : State) (f : Fld) (i v : Nat) : (s.setFld f i v).rrFn = s.rrFn := rfl
@[simp] theorem State.setFld_sfl (s : State) (f : Fld) (i v : Nat) : (s.setFld f i v).sfl = s.sfl := rfl
@[simp] theorem State.setFld_chn (s : State) (f : Fld) (i v : Nat) : (s.setFld f i v).chn = s.chn := rfl
@[simp] theorem State.setFld_log (s : State) (f : Fld) (i v : Nat) : (s.setFld f i v).log = s.log := rfl
@[simp] theorem State.setFld_fatal (s : State) (f : Fld) (i v : Nat) : (s.setFld f i v).fatal = s.fatal := rfl
@[simp] theorem State.setFld_mem (s : State) (f : Fld) (i v : Nat) : (s.setFld f i v).mem = s.mem := rfl
@[simp] theorem State.setFld_out (s : State) (f : Fld) (i v : Nat) : (s.setFld f i v).out = s.out := rfl
@[simp] theorem State.setFld_free (s : State) (f : Fld) (i v : Nat) : (s.setFld f i v).free = s.free := rfl
@[simp] theorem State.setFld_pending (s : State) (f : Fld) (i v : Nat) : (s.setFld f i v).pending = s.pending := rfl
@[simp] theorem State.setFld_port (s : State) (f : Fld) (i v : Nat) (p' : Nat) : (s.setFld f i v).port p' = s.port p' := rfl
@[simp] theorem State.setFld_cam (s : State) (f : Fld) (i v : Nat) (n' : Nat) : (s.setFld f i v).cam n' = s.cam n' := rfl
@[simp] theorem State.setFld_frame (s : State) (f : Fld) (i v : Nat) (n' q' : Nat) : (s.setFld f i v).frame n' q' = s.frame n' q' := rfl
@[simp] theorem State.setFld_fn (s : State) (f : Fld) (i v : Nat) (f' : Nat) : (s.setFld f i v).fn f' = s.fn f' := rfl
@[simp] theorem State.setFld_queue (s : State) (f : Fld) (i v : Nat) (f' q' : Nat) : (s.setFld f i v).queue f' q' = s.queue f' q' := rfl
@[simp] theorem State.setFld_core (s : State) (f : Fld) (i v : Nat) (i' : Nat) : (s.setFld f i v).core i' = s.core i' := rfl
@[simp] theorem State.setFld_group (s : State) (f : Fld) (i v : Nat) (g' : Nat) : (s.setFld f i v).group g' = s.group g' := rfl
@[simp] theorem State.setFld_now (s : State) (f : Fld) (i v : Nat) : (s.setFld f i v).now = s.now := rfl

/-! ### setEvt -/

@[simp] theorem State.setEvt_rdShadow (s : State) (f : Fld) (i : Nat) : (s.setEvt f i).rdShadow = s.rdShadow := rfl
@[simp] theorem State.setEvt_wrShadow (s : State) (f : Fld) (i : Nat) : (s.setEvt f i).wrShadow = s.wrShadow := rfl
@[simp] theorem State.setEvt_time (s : State) (f : Fld) (i : Nat) : (s.setEvt f i).time = s.time := rfl
@[simp] theorem State.setEvt_ports (s : State) (f : Fld) (i : Nat) : (s.setEvt f i).ports = s.ports := rfl
@[simp] theorem State.setEvt_tx (s : State) (f : Fld) (i : Nat) : (s.setEvt f i).tx = s.tx := rfl
@[simp] theorem State.setEvt_cams (s : State) (f : Fld) (i : Nat) : (s.setEvt f i).cams = s.cams := rfl
@[simp] theorem State.setEvt_frames (s : State) (f : Fld) (i : Nat) : (s.setEvt f i).frames = s.frames := rfl
@[simp] theorem State.setEvt_cores (s : State) (f : Fld) (i : Nat) : (s.setEvt f i).cores = s.cores := rfl
@[simp] theorem State.setEvt_devPhase (s : State) (f : Fld) (i : Nat) : (s.setEvt f i).devPhase = s.devPhase := rfl
@[simp] theorem State.setEvt_devArrived (s : State) (f : Fld) (i : Nat) : (s.setEvt f i).devArrived = s.devArrived := rfl
@[simp] theorem State.setEvt_devMembers (s : State) (f : Fld) (i : Nat) : (s.setEvt f i).devMembers = s.devMembers := rfl
@[simp] theorem State.setEvt_hold (s : State) (f : Fld) (i : Nat) : (s.setEvt f i).hold = s.hold := rfl
@[simp] theorem State.setEvt_adapt (s : State) (f : Fld) (i : Nat) : (s.setEvt f i).adapt = s.adapt := rfl
@[simp] theorem State.setEvt_sec (s : State) (f : Fld) (i : Nat) : (s.setEvt f i).sec = s.sec := rfl
@[simp] theorem State.setEvt_boot (s : State) (f : Fld) (i : Nat) : (s.setEvt f i).boot = s.boot := rfl
@[simp] theorem State.setEvt_groups (s : State) (f : Fld) (i : Nat) : (s.setEvt f i).groups = s.groups := rfl
@[simp] theorem State.setEvt_fns (s : State) (f : Fld) (i : Nat) : (s.setEvt f i).fns = s.fns := rfl
@[simp] theorem State.setEvt_rrFn (s : State) (f : Fld) (i : Nat) : (s.setEvt f i).rrFn = s.rrFn := rfl
@[simp] theorem State.setEvt_sfl (s : State) (f : Fld) (i : Nat) : (s.setEvt f i).sfl = s.sfl := rfl
@[simp] theorem State.setEvt_chn (s : State) (f : Fld) (i : Nat) : (s.setEvt f i).chn = s.chn := rfl
@[simp] theorem State.setEvt_log (s : State) (f : Fld) (i : Nat) : (s.setEvt f i).log = s.log := rfl
@[simp] theorem State.setEvt_fatal (s : State) (f : Fld) (i : Nat) : (s.setEvt f i).fatal = s.fatal := rfl
@[simp] theorem State.setEvt_mem (s : State) (f : Fld) (i : Nat) : (s.setEvt f i).mem = s.mem := rfl
@[simp] theorem State.setEvt_out (s : State) (f : Fld) (i : Nat) : (s.setEvt f i).out = s.out := rfl
@[simp] theorem State.setEvt_free (s : State) (f : Fld) (i : Nat) : (s.setEvt f i).free = s.free := rfl
@[simp] theorem State.setEvt_pending (s : State) (f : Fld) (i : Nat) : (s.setEvt f i).pending = s.pending := rfl
@[simp] theorem State.setEvt_port (s : State) (f : Fld) (i : Nat) (p' : Nat) : (s.setEvt f i).port p' = s.port p' := rfl
@[simp] theorem State.setEvt_cam (s : State) (f : Fld) (i : Nat) (n' : Nat) : (s.setEvt f i).cam n' = s.cam n' := rfl
@[simp] theorem State.setEvt_frame (s : State) (f : Fld) (i : Nat) (n' q' : Nat) : (s.setEvt f i).frame n' q' = s.frame n' q' := rfl
@[simp] theorem State.setEvt_fn (s : State) (f : Fld) (i : Nat) (f' : Nat) : (s.setEvt f i).fn f' = s.fn f' := rfl
@[simp] theorem State.setEvt_queue (s : State) (f : Fld) (i : Nat) (f' q' : Nat) : (s.setEvt f i).queue f' q' = s.queue f' q' := rfl
@[simp] theorem State.setEvt_core (s : State) (f : Fld) (i : Nat) (i' : Nat) : (s.setEvt f i).core i' = s.core i' := rfl
@[simp] theorem State.setEvt_group (s : State) (f : Fld) (i : Nat) (g' : Nat) : (s.setEvt f i).group g' = s.group g' := rfl
@[simp] theorem State.setEvt_now (s : State) (f : Fld) (i : Nat) : (s.setEvt f i).now = s.now := rfl

/-! ### setPair -/

@[simp] theorem State.setPair_rdShadow (s : State) (lo hi : RegName) (i v : Nat) : (s.setPair lo hi i v).rdShadow = s.rdShadow := rfl
@[simp] theorem State.setPair_wrShadow (s : State) (lo hi : RegName) (i v : Nat) : (s.setPair lo hi i v).wrShadow = s.wrShadow := rfl
@[simp] theorem State.setPair_time (s : State) (lo hi : RegName) (i v : Nat) : (s.setPair lo hi i v).time = s.time := rfl
@[simp] theorem State.setPair_ports (s : State) (lo hi : RegName) (i v : Nat) : (s.setPair lo hi i v).ports = s.ports := rfl
@[simp] theorem State.setPair_tx (s : State) (lo hi : RegName) (i v : Nat) : (s.setPair lo hi i v).tx = s.tx := rfl
@[simp] theorem State.setPair_cams (s : State) (lo hi : RegName) (i v : Nat) : (s.setPair lo hi i v).cams = s.cams := rfl
@[simp] theorem State.setPair_frames (s : State) (lo hi : RegName) (i v : Nat) : (s.setPair lo hi i v).frames = s.frames := rfl
@[simp] theorem State.setPair_cores (s : State) (lo hi : RegName) (i v : Nat) : (s.setPair lo hi i v).cores = s.cores := rfl
@[simp] theorem State.setPair_devPhase (s : State) (lo hi : RegName) (i v : Nat) : (s.setPair lo hi i v).devPhase = s.devPhase := rfl
@[simp] theorem State.setPair_devArrived (s : State) (lo hi : RegName) (i v : Nat) : (s.setPair lo hi i v).devArrived = s.devArrived := rfl
@[simp] theorem State.setPair_devMembers (s : State) (lo hi : RegName) (i v : Nat) : (s.setPair lo hi i v).devMembers = s.devMembers := rfl
@[simp] theorem State.setPair_hold (s : State) (lo hi : RegName) (i v : Nat) : (s.setPair lo hi i v).hold = s.hold := rfl
@[simp] theorem State.setPair_adapt (s : State) (lo hi : RegName) (i v : Nat) : (s.setPair lo hi i v).adapt = s.adapt := rfl
@[simp] theorem State.setPair_sec (s : State) (lo hi : RegName) (i v : Nat) : (s.setPair lo hi i v).sec = s.sec := rfl
@[simp] theorem State.setPair_boot (s : State) (lo hi : RegName) (i v : Nat) : (s.setPair lo hi i v).boot = s.boot := rfl
@[simp] theorem State.setPair_groups (s : State) (lo hi : RegName) (i v : Nat) : (s.setPair lo hi i v).groups = s.groups := rfl
@[simp] theorem State.setPair_fns (s : State) (lo hi : RegName) (i v : Nat) : (s.setPair lo hi i v).fns = s.fns := rfl
@[simp] theorem State.setPair_rrFn (s : State) (lo hi : RegName) (i v : Nat) : (s.setPair lo hi i v).rrFn = s.rrFn := rfl
@[simp] theorem State.setPair_sfl (s : State) (lo hi : RegName) (i v : Nat) : (s.setPair lo hi i v).sfl = s.sfl := rfl
@[simp] theorem State.setPair_chn (s : State) (lo hi : RegName) (i v : Nat) : (s.setPair lo hi i v).chn = s.chn := rfl
@[simp] theorem State.setPair_log (s : State) (lo hi : RegName) (i v : Nat) : (s.setPair lo hi i v).log = s.log := rfl
@[simp] theorem State.setPair_fatal (s : State) (lo hi : RegName) (i v : Nat) : (s.setPair lo hi i v).fatal = s.fatal := rfl
@[simp] theorem State.setPair_mem (s : State) (lo hi : RegName) (i v : Nat) : (s.setPair lo hi i v).mem = s.mem := rfl
@[simp] theorem State.setPair_out (s : State) (lo hi : RegName) (i v : Nat) : (s.setPair lo hi i v).out = s.out := rfl
@[simp] theorem State.setPair_free (s : State) (lo hi : RegName) (i v : Nat) : (s.setPair lo hi i v).free = s.free := rfl
@[simp] theorem State.setPair_pending (s : State) (lo hi : RegName) (i v : Nat) : (s.setPair lo hi i v).pending = s.pending := rfl
@[simp] theorem State.setPair_port (s : State) (lo hi : RegName) (i v : Nat) (p' : Nat) : (s.setPair lo hi i v).port p' = s.port p' := rfl
@[simp] theorem State.setPair_cam (s : State) (lo hi : RegName) (i v : Nat) (n' : Nat) : (s.setPair lo hi i v).cam n' = s.cam n' := rfl
@[simp] theorem State.setPair_frame (s : State) (lo hi : RegName) (i v : Nat) (n' q' : Nat) : (s.setPair lo hi i v).frame n' q' = s.frame n' q' := rfl
@[simp] theorem State.setPair_fn (s : State) (lo hi : RegName) (i v : Nat) (f' : Nat) : (s.setPair lo hi i v).fn f' = s.fn f' := rfl
@[simp] theorem State.setPair_queue (s : State) (lo hi : RegName) (i v : Nat) (f' q' : Nat) : (s.setPair lo hi i v).queue f' q' = s.queue f' q' := rfl
@[simp] theorem State.setPair_core (s : State) (lo hi : RegName) (i v : Nat) (i' : Nat) : (s.setPair lo hi i v).core i' = s.core i' := rfl
@[simp] theorem State.setPair_group (s : State) (lo hi : RegName) (i v : Nat) (g' : Nat) : (s.setPair lo hi i v).group g' = s.group g' := rfl
@[simp] theorem State.setPair_now (s : State) (lo hi : RegName) (i v : Nat) : (s.setPair lo hi i v).now = s.now := rfl

/-! ### resetRegs -/

@[simp] theorem State.resetRegs_rdShadow (s : State) (p : RegName → Nat → Bool) : (s.resetRegs p).rdShadow = s.rdShadow := rfl
@[simp] theorem State.resetRegs_wrShadow (s : State) (p : RegName → Nat → Bool) : (s.resetRegs p).wrShadow = s.wrShadow := rfl
@[simp] theorem State.resetRegs_time (s : State) (p : RegName → Nat → Bool) : (s.resetRegs p).time = s.time := rfl
@[simp] theorem State.resetRegs_ports (s : State) (p : RegName → Nat → Bool) : (s.resetRegs p).ports = s.ports := rfl
@[simp] theorem State.resetRegs_tx (s : State) (p : RegName → Nat → Bool) : (s.resetRegs p).tx = s.tx := rfl
@[simp] theorem State.resetRegs_cams (s : State) (p : RegName → Nat → Bool) : (s.resetRegs p).cams = s.cams := rfl
@[simp] theorem State.resetRegs_frames (s : State) (p : RegName → Nat → Bool) : (s.resetRegs p).frames = s.frames := rfl
@[simp] theorem State.resetRegs_cores (s : State) (p : RegName → Nat → Bool) : (s.resetRegs p).cores = s.cores := rfl
@[simp] theorem State.resetRegs_devPhase (s : State) (p : RegName → Nat → Bool) : (s.resetRegs p).devPhase = s.devPhase := rfl
@[simp] theorem State.resetRegs_devArrived (s : State) (p : RegName → Nat → Bool) : (s.resetRegs p).devArrived = s.devArrived := rfl
@[simp] theorem State.resetRegs_devMembers (s : State) (p : RegName → Nat → Bool) : (s.resetRegs p).devMembers = s.devMembers := rfl
@[simp] theorem State.resetRegs_hold (s : State) (p : RegName → Nat → Bool) : (s.resetRegs p).hold = s.hold := rfl
@[simp] theorem State.resetRegs_adapt (s : State) (p : RegName → Nat → Bool) : (s.resetRegs p).adapt = s.adapt := rfl
@[simp] theorem State.resetRegs_sec (s : State) (p : RegName → Nat → Bool) : (s.resetRegs p).sec = s.sec := rfl
@[simp] theorem State.resetRegs_boot (s : State) (p : RegName → Nat → Bool) : (s.resetRegs p).boot = s.boot := rfl
@[simp] theorem State.resetRegs_groups (s : State) (p : RegName → Nat → Bool) : (s.resetRegs p).groups = s.groups := rfl
@[simp] theorem State.resetRegs_fns (s : State) (p : RegName → Nat → Bool) : (s.resetRegs p).fns = s.fns := rfl
@[simp] theorem State.resetRegs_rrFn (s : State) (p : RegName → Nat → Bool) : (s.resetRegs p).rrFn = s.rrFn := rfl
@[simp] theorem State.resetRegs_sfl (s : State) (p : RegName → Nat → Bool) : (s.resetRegs p).sfl = s.sfl := rfl
@[simp] theorem State.resetRegs_chn (s : State) (p : RegName → Nat → Bool) : (s.resetRegs p).chn = s.chn := rfl
@[simp] theorem State.resetRegs_log (s : State) (p : RegName → Nat → Bool) : (s.resetRegs p).log = s.log := rfl
@[simp] theorem State.resetRegs_fatal (s : State) (p : RegName → Nat → Bool) : (s.resetRegs p).fatal = s.fatal := rfl
@[simp] theorem State.resetRegs_mem (s : State) (p : RegName → Nat → Bool) : (s.resetRegs p).mem = s.mem := rfl
@[simp] theorem State.resetRegs_out (s : State) (p : RegName → Nat → Bool) : (s.resetRegs p).out = s.out := rfl
@[simp] theorem State.resetRegs_free (s : State) (p : RegName → Nat → Bool) : (s.resetRegs p).free = s.free := rfl
@[simp] theorem State.resetRegs_pending (s : State) (p : RegName → Nat → Bool) : (s.resetRegs p).pending = s.pending := rfl
@[simp] theorem State.resetRegs_port (s : State) (p : RegName → Nat → Bool) (p' : Nat) : (s.resetRegs p).port p' = s.port p' := rfl
@[simp] theorem State.resetRegs_cam (s : State) (p : RegName → Nat → Bool) (n' : Nat) : (s.resetRegs p).cam n' = s.cam n' := rfl
@[simp] theorem State.resetRegs_frame (s : State) (p : RegName → Nat → Bool) (n' q' : Nat) : (s.resetRegs p).frame n' q' = s.frame n' q' := rfl
@[simp] theorem State.resetRegs_fn (s : State) (p : RegName → Nat → Bool) (f' : Nat) : (s.resetRegs p).fn f' = s.fn f' := rfl
@[simp] theorem State.resetRegs_queue (s : State) (p : RegName → Nat → Bool) (f' q' : Nat) : (s.resetRegs p).queue f' q' = s.queue f' q' := rfl
@[simp] theorem State.resetRegs_core (s : State) (p : RegName → Nat → Bool) (i' : Nat) : (s.resetRegs p).core i' = s.core i' := rfl
@[simp] theorem State.resetRegs_group (s : State) (p : RegName → Nat → Bool) (g' : Nat) : (s.resetRegs p).group g' = s.group g' := rfl
@[simp] theorem State.resetRegs_now (s : State) (p : RegName → Nat → Bool) : (s.resetRegs p).now = s.now := rfl

/-! ### setPort -/

@[simp] theorem State.setPort_regs (s : State) (p : Nat) (x : PortS) : (s.setPort p x).regs = s.regs := rfl
@[simp] theorem State.setPort_rdShadow (s : State) (p : Nat) (x : PortS) : (s.setPort p x).rdShadow = s.rdShadow := rfl
@[simp] theorem State.setPort_wrShadow (s : State) (p : Nat) (x : PortS) : (s.setPort p x).wrShadow = s.wrShadow := rfl
@[simp] theorem State.setPort_time (s : State) (p : Nat) (x : PortS) : (s.setPort p x).time = s.time := rfl
@[simp] theorem State.setPort_ports (s : State) (p : Nat) (x : PortS) : (s.setPort p x).ports = s.ports.set p x := rfl
@[simp] theorem State.setPort_tx (s : State) (p : Nat) (x : PortS) : (s.setPort p x).tx = s.tx := rfl
@[simp] theorem State.setPort_cams (s : State) (p : Nat) (x : PortS) : (s.setPort p x).cams = s.cams := rfl
@[simp] theorem State.setPort_frames (s : State) (p : Nat) (x : PortS) : (s.setPort p x).frames = s.frames := rfl
@[simp] theorem State.setPort_cores (s : State) (p : Nat) (x : PortS) : (s.setPort p x).cores = s.cores := rfl
@[simp] theorem State.setPort_devPhase (s : State) (p : Nat) (x : PortS) : (s.setPort p x).devPhase = s.devPhase := rfl
@[simp] theorem State.setPort_devArrived (s : State) (p : Nat) (x : PortS) : (s.setPort p x).devArrived = s.devArrived := rfl
@[simp] theorem State.setPort_devMembers (s : State) (p : Nat) (x : PortS) : (s.setPort p x).devMembers = s.devMembers := rfl
@[simp] theorem State.setPort_hold (s : State) (p : Nat) (x : PortS) : (s.setPort p x).hold = s.hold := rfl
@[simp] theorem State.setPort_adapt (s : State) (p : Nat) (x : PortS) : (s.setPort p x).adapt = s.adapt := rfl
@[simp] theorem State.setPort_sec (s : State) (p : Nat) (x : PortS) : (s.setPort p x).sec = s.sec := rfl
@[simp] theorem State.setPort_boot (s : State) (p : Nat) (x : PortS) : (s.setPort p x).boot = s.boot := rfl
@[simp] theorem State.setPort_groups (s : State) (p : Nat) (x : PortS) : (s.setPort p x).groups = s.groups := rfl
@[simp] theorem State.setPort_fns (s : State) (p : Nat) (x : PortS) : (s.setPort p x).fns = s.fns := rfl
@[simp] theorem State.setPort_rrFn (s : State) (p : Nat) (x : PortS) : (s.setPort p x).rrFn = s.rrFn := rfl
@[simp] theorem State.setPort_sfl (s : State) (p : Nat) (x : PortS) : (s.setPort p x).sfl = s.sfl := rfl
@[simp] theorem State.setPort_chn (s : State) (p : Nat) (x : PortS) : (s.setPort p x).chn = s.chn := rfl
@[simp] theorem State.setPort_log (s : State) (p : Nat) (x : PortS) : (s.setPort p x).log = s.log := rfl
@[simp] theorem State.setPort_fatal (s : State) (p : Nat) (x : PortS) : (s.setPort p x).fatal = s.fatal := rfl
@[simp] theorem State.setPort_mem (s : State) (p : Nat) (x : PortS) : (s.setPort p x).mem = s.mem := rfl
@[simp] theorem State.setPort_out (s : State) (p : Nat) (x : PortS) : (s.setPort p x).out = s.out := rfl
@[simp] theorem State.setPort_free (s : State) (p : Nat) (x : PortS) : (s.setPort p x).free = s.free := rfl
@[simp] theorem State.setPort_pending (s : State) (p : Nat) (x : PortS) : (s.setPort p x).pending = s.pending := rfl
@[simp] theorem State.setPort_reg (s : State) (p : Nat) (x : PortS) (r' : RegName) (i' : Nat) : (s.setPort p x).reg r' i' = s.reg r' i' := rfl
@[simp] theorem State.setPort_regN (s : State) (p : Nat) (x : PortS) (r' : RegName) (i' : Nat) : (s.setPort p x).regN r' i' = s.regN r' i' := rfl
@[simp] theorem State.setPort_fld (s : State) (p : Nat) (x : PortS) (f' : Fld) (i' : Nat) : (s.setPort p x).fld f' i' = s.fld f' i' := rfl
@[simp] theorem State.setPort_flag (s : State) (p : Nat) (x : PortS) (f' : Fld) (i' : Nat) : (s.setPort p x).flag f' i' = s.flag f' i' := rfl
@[simp] theorem State.setPort_pair (s : State) (p : Nat) (x : PortS) (lo' hi' : RegName) (i' : Nat) : (s.setPort p x).pair lo' hi' i' = s.pair lo' hi' i' := rfl
@[simp] theorem State.setPort_cam (s : State) (p : Nat) (x : PortS) (n' : Nat) : (s.setPort p x).cam n' = s.cam n' := rfl
@[simp] theorem State.setPort_frame (s : State) (p : Nat) (x : PortS) (n' q' : Nat) : (s.setPort p x).frame n' q' = s.frame n' q' := rfl
@[simp] theorem State.setPort_fn (s : State) (p : Nat) (x : PortS) (f' : Nat) : (s.setPort p x).fn f' = s.fn f' := rfl
@[simp] theorem State.setPort_queue (s : State) (p : Nat) (x : PortS) (f' q' : Nat) : (s.setPort p x).queue f' q' = s.queue f' q' := rfl
@[simp] theorem State.setPort_core (s : State) (p : Nat) (x : PortS) (i' : Nat) : (s.setPort p x).core i' = s.core i' := rfl
@[simp] theorem State.setPort_group (s : State) (p : Nat) (x : PortS) (g' : Nat) : (s.setPort p x).group g' = s.group g' := rfl
@[simp] theorem State.setPort_now (s : State) (p : Nat) (x : PortS) : (s.setPort p x).now = s.now := rfl

/-! ### modPort -/

@[simp] theorem State.modPort_regs (s : State) (p : Nat) (f : PortS → PortS) : (s.modPort p f).regs = s.regs := rfl
@[simp] theorem State.modPort_rdShadow (s : State) (p : Nat) (f : PortS → PortS) : (s.modPort p f).rdShadow = s.rdShadow := rfl
@[simp] theorem State.modPort_wrShadow (s : State) (p : Nat) (f : PortS → PortS) : (s.modPort p f).wrShadow = s.wrShadow := rfl
@[simp] theorem State.modPort_time (s : State) (p : Nat) (f : PortS → PortS) : (s.modPort p f).time = s.time := rfl
@[simp] theorem State.modPort_ports (s : State) (p : Nat) (f : PortS → PortS) : (s.modPort p f).ports = s.ports.modify p f := rfl
@[simp] theorem State.modPort_tx (s : State) (p : Nat) (f : PortS → PortS) : (s.modPort p f).tx = s.tx := rfl
@[simp] theorem State.modPort_cams (s : State) (p : Nat) (f : PortS → PortS) : (s.modPort p f).cams = s.cams := rfl
@[simp] theorem State.modPort_frames (s : State) (p : Nat) (f : PortS → PortS) : (s.modPort p f).frames = s.frames := rfl
@[simp] theorem State.modPort_cores (s : State) (p : Nat) (f : PortS → PortS) : (s.modPort p f).cores = s.cores := rfl
@[simp] theorem State.modPort_devPhase (s : State) (p : Nat) (f : PortS → PortS) : (s.modPort p f).devPhase = s.devPhase := rfl
@[simp] theorem State.modPort_devArrived (s : State) (p : Nat) (f : PortS → PortS) : (s.modPort p f).devArrived = s.devArrived := rfl
@[simp] theorem State.modPort_devMembers (s : State) (p : Nat) (f : PortS → PortS) : (s.modPort p f).devMembers = s.devMembers := rfl
@[simp] theorem State.modPort_hold (s : State) (p : Nat) (f : PortS → PortS) : (s.modPort p f).hold = s.hold := rfl
@[simp] theorem State.modPort_adapt (s : State) (p : Nat) (f : PortS → PortS) : (s.modPort p f).adapt = s.adapt := rfl
@[simp] theorem State.modPort_sec (s : State) (p : Nat) (f : PortS → PortS) : (s.modPort p f).sec = s.sec := rfl
@[simp] theorem State.modPort_boot (s : State) (p : Nat) (f : PortS → PortS) : (s.modPort p f).boot = s.boot := rfl
@[simp] theorem State.modPort_groups (s : State) (p : Nat) (f : PortS → PortS) : (s.modPort p f).groups = s.groups := rfl
@[simp] theorem State.modPort_fns (s : State) (p : Nat) (f : PortS → PortS) : (s.modPort p f).fns = s.fns := rfl
@[simp] theorem State.modPort_rrFn (s : State) (p : Nat) (f : PortS → PortS) : (s.modPort p f).rrFn = s.rrFn := rfl
@[simp] theorem State.modPort_sfl (s : State) (p : Nat) (f : PortS → PortS) : (s.modPort p f).sfl = s.sfl := rfl
@[simp] theorem State.modPort_chn (s : State) (p : Nat) (f : PortS → PortS) : (s.modPort p f).chn = s.chn := rfl
@[simp] theorem State.modPort_log (s : State) (p : Nat) (f : PortS → PortS) : (s.modPort p f).log = s.log := rfl
@[simp] theorem State.modPort_fatal (s : State) (p : Nat) (f : PortS → PortS) : (s.modPort p f).fatal = s.fatal := rfl
@[simp] theorem State.modPort_mem (s : State) (p : Nat) (f : PortS → PortS) : (s.modPort p f).mem = s.mem := rfl
@[simp] theorem State.modPort_out (s : State) (p : Nat) (f : PortS → PortS) : (s.modPort p f).out = s.out := rfl
@[simp] theorem State.modPort_free (s : State) (p : Nat) (f : PortS → PortS) : (s.modPort p f).free = s.free := rfl
@[simp] theorem State.modPort_pending (s : State) (p : Nat) (f : PortS → PortS) : (s.modPort p f).pending = s.pending := rfl
@[simp] theorem State.modPort_reg (s : State) (p : Nat) (f : PortS → PortS) (r' : RegName) (i' : Nat) : (s.modPort p f).reg r' i' = s.reg r' i' := rfl
@[simp] theorem State.modPort_regN (s : State) (p : Nat) (f : PortS → PortS) (r' : RegName) (i' : Nat) : (s.modPort p f).regN r' i' = s.regN r' i' := rfl
@[simp] theorem State.modPort_fld (s : State) (p : Nat) (f : PortS → PortS) (f' : Fld) (i' : Nat) : (s.modPort p f).fld f' i' = s.fld f' i' := rfl
@[simp] theorem State.modPort_flag (s : State) (p : Nat) (f : PortS → PortS) (f' : Fld) (i' : Nat) : (s.modPort p f).flag f' i' = s.flag f' i' := rfl
@[simp] theorem State.modPort_pair (s : State) (p : Nat) (f : PortS → PortS) (lo' hi' : RegName) (i' : Nat) : (s.modPort p f).pair lo' hi' i' = s.pair lo' hi' i' := rfl
@[simp] theorem State.modPort_cam (s : State) (p : Nat) (f : PortS → PortS) (n' : Nat) : (s.modPort p f).cam n' = s.cam n' := rfl
@[simp] theorem State.modPort_frame (s : State) (p : Nat) (f : PortS → PortS) (n' q' : Nat) : (s.modPort p f).frame n' q' = s.frame n' q' := rfl
@[simp] theorem State.modPort_fn (s : State) (p : Nat) (f : PortS → PortS) (f' : Nat) : (s.modPort p f).fn f' = s.fn f' := rfl
@[simp] theorem State.modPort_queue (s : State) (p : Nat) (f : PortS → PortS) (f' q' : Nat) : (s.modPort p f).queue f' q' = s.queue f' q' := rfl
@[simp] theorem State.modPort_core (s : State) (p : Nat) (f : PortS → PortS) (i' : Nat) : (s.modPort p f).core i' = s.core i' := rfl
@[simp] theorem State.modPort_group (s : State) (p : Nat) (f : PortS → PortS) (g' : Nat) : (s.modPort p f).group g' = s.group g' := rfl
@[simp] theorem State.modPort_now (s : State) (p : Nat) (f : PortS → PortS) : (s.modPort p f).now = s.now := rfl

/-! ### setCam -/

@[simp] theorem State.setCam_regs (s : State) (n : Nat) (x : CamS) : (s.setCam n x).regs = s.regs := rfl
@[simp] theorem State.setCam_rdShadow (s : State) (n : Nat) (x : CamS) : (s.setCam n x).rdShadow = s.rdShadow := rfl
@[simp] theorem State.setCam_wrShadow (s : State) (n : Nat) (x : CamS) : (s.setCam n x).wrShadow = s.wrShadow := rfl
@[simp] theorem State.setCam_time (s : State) (n : Nat) (x : CamS) : (s.setCam n x).time = s.time := rfl
@[simp] theorem State.setCam_ports (s : State) (n : Nat) (x : CamS) : (s.setCam n x).ports = s.ports := rfl
@[simp] theorem State.setCam_tx (s : State) (n : Nat) (x : CamS) : (s.setCam n x).tx = s.tx := rfl
@[simp] theorem State.setCam_cams (s : State) (n : Nat) (x : CamS) : (s.setCam n x).cams = s.cams.set n x := rfl
@[simp] theorem State.setCam_frames (s : State) (n : Nat) (x : CamS) : (s.setCam n x).frames = s.frames := rfl
@[simp] theorem State.setCam_cores (s : State) (n : Nat) (x : CamS) : (s.setCam n x).cores = s.cores := rfl
@[simp] theorem State.setCam_devPhase (s : State) (n : Nat) (x : CamS) : (s.setCam n x).devPhase = s.devPhase := rfl
@[simp] theorem State.setCam_devArrived (s : State) (n : Nat) (x : CamS) : (s.setCam n x).devArrived = s.devArrived := rfl
@[simp] theorem State.setCam_devMembers (s : State) (n : Nat) (x : CamS) : (s.setCam n x).devMembers = s.devMembers := rfl
@[simp] theorem State.setCam_hold (s : State) (n : Nat) (x : CamS) : (s.setCam n x).hold = s.hold := rfl
@[simp] theorem State.setCam_adapt (s : State) (n : Nat) (x : CamS) : (s.setCam n x).adapt = s.adapt := rfl
@[simp] theorem State.setCam_sec (s : State) (n : Nat) (x : CamS) : (s.setCam n x).sec = s.sec := rfl
@[simp] theorem State.setCam_boot (s : State) (n : Nat) (x : CamS) : (s.setCam n x).boot = s.boot := rfl
@[simp] theorem State.setCam_groups (s : State) (n : Nat) (x : CamS) : (s.setCam n x).groups = s.groups := rfl
@[simp] theorem State.setCam_fns (s : State) (n : Nat) (x : CamS) : (s.setCam n x).fns = s.fns := rfl
@[simp] theorem State.setCam_rrFn (s : State) (n : Nat) (x : CamS) : (s.setCam n x).rrFn = s.rrFn := rfl
@[simp] theorem State.setCam_sfl (s : State) (n : Nat) (x : CamS) : (s.setCam n x).sfl = s.sfl := rfl
@[simp] theorem State.setCam_chn (s : State) (n : Nat) (x : CamS) : (s.setCam n x).chn = s.chn := rfl
@[simp] theorem State.setCam_log (s : State) (n : Nat) (x : CamS) : (s.setCam n x).log = s.log := rfl
@[simp] theorem State.setCam_fatal (s : State) (n : Nat) (x : CamS) : (s.setCam n x).fatal = s.fatal := rfl
@[simp] theorem State.setCam_mem (s : State) (n : Nat) (x : CamS) : (s.setCam n x).mem = s.mem := rfl
@[simp] theorem State.setCam_out (s : State) (n : Nat) (x : CamS) : (s.setCam n x).out = s.out := rfl
@[simp] theorem State.setCam_free (s : State) (n : Nat) (x : CamS) : (s.setCam n x).free = s.free := rfl
@[simp] theorem State.setCam_pending (s : State) (n : Nat) (x : CamS) : (s.setCam n x).pending = s.pending := rfl
@[simp] theorem State.setCam_reg (s : State) (n : Nat) (x : CamS) (r' : RegName) (i' : Nat) : (s.setCam n x).reg r' i' = s.reg r' i' := rfl
@[simp] theorem State.setCam_regN (s : State) (n : Nat) (x : CamS) (r' : RegName) (i' : Nat) : (s.setCam n x).regN r' i' = s.regN r' i' := rfl
@[simp] theorem State.setCam_fld (s : State) (n : Nat) (x : CamS) (f' : Fld) (i' : Nat) : (s.setCam n x).fld f' i' = s.fld f' i' := rfl
@[simp] theorem State.setCam_flag (s : State) (n : Nat) (x : CamS) (f' : Fld) (i' : Nat) : (s.setCam n x).flag f' i' = s.flag f' i' := rfl
@[simp] theorem State.setCam_pair (s : State) (n : Nat) (x : CamS) (lo' hi' : RegName) (i' : Nat) : (s.setCam n x).pair lo' hi' i' = s.pair lo' hi' i' := rfl
@[simp] theorem State.setCam_port (s : State) (n : Nat) (x : CamS) (p' : Nat) : (s.setCam n x).port p' = s.port p' := rfl
@[simp] theorem State.setCam_frame (s : State) (n : Nat) (x : CamS) (n' q' : Nat) : (s.setCam n x).frame n' q' = s.frame n' q' := rfl
@[simp] theorem State.setCam_fn (s : State) (n : Nat) (x : CamS) (f' : Nat) : (s.setCam n x).fn f' = s.fn f' := rfl
@[simp] theorem State.setCam_queue (s : State) (n : Nat) (x : CamS) (f' q' : Nat) : (s.setCam n x).queue f' q' = s.queue f' q' := rfl
@[simp] theorem State.setCam_core (s : State) (n : Nat) (x : CamS) (i' : Nat) : (s.setCam n x).core i' = s.core i' := rfl
@[simp] theorem State.setCam_group (s : State) (n : Nat) (x : CamS) (g' : Nat) : (s.setCam n x).group g' = s.group g' := rfl
@[simp] theorem State.setCam_now (s : State) (n : Nat) (x : CamS) : (s.setCam n x).now = s.now := rfl

/-! ### modCam -/

@[simp] theorem State.modCam_regs (s : State) (n : Nat) (f : CamS → CamS) : (s.modCam n f).regs = s.regs := rfl
@[simp] theorem State.modCam_rdShadow (s : State) (n : Nat) (f : CamS → CamS) : (s.modCam n f).rdShadow = s.rdShadow := rfl
@[simp] theorem State.modCam_wrShadow (s : State) (n : Nat) (f : CamS → CamS) : (s.modCam n f).wrShadow = s.wrShadow := rfl
@[simp] theorem State.modCam_time (s : State) (n : Nat) (f : CamS → CamS) : (s.modCam n f).time = s.time := rfl
@[simp] theorem State.modCam_ports (s : State) (n : Nat) (f : CamS → CamS) : (s.modCam n f).ports = s.ports := rfl
@[simp] theorem State.modCam_tx (s : State) (n : Nat) (f : CamS → CamS) : (s.modCam n f).tx = s.tx := rfl
@[simp] theorem State.modCam_cams (s : State) (n : Nat) (f : CamS → CamS) : (s.modCam n f).cams = s.cams.modify n f := rfl
@[simp] theorem State.modCam_frames (s : State) (n : Nat) (f : CamS → CamS) : (s.modCam n f).frames = s.frames := rfl
@[simp] theorem State.modCam_cores (s : State) (n : Nat) (f : CamS → CamS) : (s.modCam n f).cores = s.cores := rfl
@[simp] theorem State.modCam_devPhase (s : State) (n : Nat) (f : CamS → CamS) : (s.modCam n f).devPhase = s.devPhase := rfl
@[simp] theorem State.modCam_devArrived (s : State) (n : Nat) (f : CamS → CamS) : (s.modCam n f).devArrived = s.devArrived := rfl
@[simp] theorem State.modCam_devMembers (s : State) (n : Nat) (f : CamS → CamS) : (s.modCam n f).devMembers = s.devMembers := rfl
@[simp] theorem State.modCam_hold (s : State) (n : Nat) (f : CamS → CamS) : (s.modCam n f).hold = s.hold := rfl
@[simp] theorem State.modCam_adapt (s : State) (n : Nat) (f : CamS → CamS) : (s.modCam n f).adapt = s.adapt := rfl
@[simp] theorem State.modCam_sec (s : State) (n : Nat) (f : CamS → CamS) : (s.modCam n f).sec = s.sec := rfl
@[simp] theorem State.modCam_boot (s : State) (n : Nat) (f : CamS → CamS) : (s.modCam n f).boot = s.boot := rfl
@[simp] theorem State.modCam_groups (s : State) (n : Nat) (f : CamS → CamS) : (s.modCam n f).groups = s.groups := rfl
@[simp] theorem State.modCam_fns (s : State) (n : Nat) (f : CamS → CamS) : (s.modCam n f).fns = s.fns := rfl
@[simp] theorem State.modCam_rrFn (s : State) (n : Nat) (f : CamS → CamS) : (s.modCam n f).rrFn = s.rrFn := rfl
@[simp] theorem State.modCam_sfl (s : State) (n : Nat) (f : CamS → CamS) : (s.modCam n f).sfl = s.sfl := rfl
@[simp] theorem State.modCam_chn (s : State) (n : Nat) (f : CamS → CamS) : (s.modCam n f).chn = s.chn := rfl
@[simp] theorem State.modCam_log (s : State) (n : Nat) (f : CamS → CamS) : (s.modCam n f).log = s.log := rfl
@[simp] theorem State.modCam_fatal (s : State) (n : Nat) (f : CamS → CamS) : (s.modCam n f).fatal = s.fatal := rfl
@[simp] theorem State.modCam_mem (s : State) (n : Nat) (f : CamS → CamS) : (s.modCam n f).mem = s.mem := rfl
@[simp] theorem State.modCam_out (s : State) (n : Nat) (f : CamS → CamS) : (s.modCam n f).out = s.out := rfl
@[simp] theorem State.modCam_free (s : State) (n : Nat) (f : CamS → CamS) : (s.modCam n f).free = s.free := rfl
@[simp] theorem State.modCam_pending (s : State) (n : Nat) (f : CamS → CamS) : (s.modCam n f).pending = s.pending := rfl
@[simp] theorem State.modCam_reg (s : State) (n : Nat) (f : CamS → CamS) (r' : RegName) (i' : Nat) : (s.modCam n f).reg r' i' = s.reg r' i' := rfl
@[simp] theorem State.modCam_regN (s : State) (n : Nat) (f : CamS → CamS) (r' : RegName) (i' : Nat) : (s.modCam n f).regN r' i' = s.regN r' i' := rfl
@[simp] theorem State.modCam_fld (s : State) (n : Nat) (f : CamS → CamS) (f' : Fld) (i' : Nat) : (s.modCam n f).fld f' i' = s.fld f' i' := rfl
@[simp] theorem State.modCam_flag (s : State) (n : Nat) (f : CamS → CamS) (f' : Fld) (i' : Nat) : (s.modCam n f).flag f' i' = s.flag f' i' := rfl
@[simp] theorem State.modCam_pair (s : State) (n : Nat) (f : CamS → CamS) (lo' hi' : RegName) (i' : Nat) : (s.modCam n f).pair lo' hi' i' = s.pair lo' hi' i' := rfl
@[simp] theorem State.modCam_port (s : State) (n : Nat) (f : CamS → CamS) (p' : Nat) : (s.modCam n f).port p' = s.port p' := rfl
@[simp] theorem State.modCam_frame (s : State) (n : Nat) (f : CamS → CamS) (n' q' : Nat) : (s.modCam n f).frame n' q' = s.frame n' q' := rfl
@[simp] theorem State.modCam_fn (s : State) (n : Nat) (f : CamS → CamS) (f' : Nat) : (s.modCam n f).fn f' = s.fn f' := rfl
@[simp] theorem State.modCam_queue (s : State) (n : Nat) (f : CamS → CamS) (f' q' : Nat) : (s.modCam n f).queue f' q' = s.queue f' q' := rfl
@[simp] theorem State.modCam_core (s : State) (n : Nat) (f : CamS → CamS) (i' : Nat) : (s.modCam n f).core i' = s.core i' := rfl
@[simp] theorem State.modCam_group (s : State) (n : Nat) (f : CamS → CamS) (g' : Nat) : (s.modCam n f).group g' = s.group g' := rfl
@[simp] theorem State.modCam_now (s : State) (n : Nat) (f : CamS → CamS) : (s.modCam n f).now = s.now := rfl

/-! ### setFrame -/

@[simp] theorem State.setFrame_regs (s : State) (n q : Nat) (x : FrameS) : (s.setFrame n q x).regs = s.regs := rfl
@[simp] theorem State.setFrame_rdShadow (s : State) (n q : Nat) (x : FrameS) : (s.setFrame n q x).rdShadow = s.rdShadow := rfl
@[simp] theorem State.setFrame_wrShadow (s : State) (n q : Nat) (x : FrameS) : (s.setFrame n q x).wrShadow = s.wrShadow := rfl
@[simp] theorem State.setFrame_time (s : State) (n q : Nat) (x : FrameS) : (s.setFrame n q x).time = s.time := rfl
@[simp] theorem State.setFrame_ports (s : State) (n q : Nat) (x : FrameS) : (s.setFrame n q x).ports = s.ports := rfl
@[simp] theorem State.setFrame_tx (s : State) (n q : Nat) (x : FrameS) : (s.setFrame n q x).tx = s.tx := rfl
@[simp] theorem State.setFrame_cams (s : State) (n q : Nat) (x : FrameS) : (s.setFrame n q x).cams = s.cams := rfl
@[simp] theorem State.setFrame_frames (s : State) (n q : Nat) (x : FrameS) : (s.setFrame n q x).frames = s.frames.set (frameKey n q) x := rfl
@[simp] theorem State.setFrame_cores (s : State) (n q : Nat) (x : FrameS) : (s.setFrame n q x).cores = s.cores := rfl
@[simp] theorem State.setFrame_devPhase (s : State) (n q : Nat) (x : FrameS) : (s.setFrame n q x).devPhase = s.devPhase := rfl
@[simp] theorem State.setFrame_devArrived (s : State) (n q : Nat) (x : FrameS) : (s.setFrame n q x).devArrived = s.devArrived := rfl
@[simp] theorem State.setFrame_devMembers (s : State) (n q : Nat) (x : FrameS) : (s.setFrame n q x).devMembers = s.devMembers := rfl
@[simp] theorem State.setFrame_hold (s : State) (n q : Nat) (x : FrameS) : (s.setFrame n q x).hold = s.hold := rfl
@[simp] theorem State.setFrame_adapt (s : State) (n q : Nat) (x : FrameS) : (s.setFrame n q x).adapt = s.adapt := rfl
@[simp] theorem State.setFrame_sec (s : State) (n q : Nat) (x : FrameS) : (s.setFrame n q x).sec = s.sec := rfl
@[simp] theorem State.setFrame_boot (s : State) (n q : Nat) (x : FrameS) : (s.setFrame n q x).boot = s.boot := rfl
@[simp] theorem State.setFrame_groups (s : State) (n q : Nat) (x : FrameS) : (s.setFrame n q x).groups = s.groups := rfl
@[simp] theorem State.setFrame_fns (s : State) (n q : Nat) (x : FrameS) : (s.setFrame n q x).fns = s.fns := rfl
@[simp] theorem State.setFrame_rrFn (s : State) (n q : Nat) (x : FrameS) : (s.setFrame n q x).rrFn = s.rrFn := rfl
@[simp] theorem State.setFrame_sfl (s : State) (n q : Nat) (x : FrameS) : (s.setFrame n q x).sfl = s.sfl := rfl
@[simp] theorem State.setFrame_chn (s : State) (n q : Nat) (x : FrameS) : (s.setFrame n q x).chn = s.chn := rfl
@[simp] theorem State.setFrame_log (s : State) (n q : Nat) (x : FrameS) : (s.setFrame n q x).log = s.log := rfl
@[simp] theorem State.setFrame_fatal (s : State) (n q : Nat) (x : FrameS) : (s.setFrame n q x).fatal = s.fatal := rfl
@[simp] theorem State.setFrame_mem (s : State) (n q : Nat) (x : FrameS) : (s.setFrame n q x).mem = s.mem := rfl
@[simp] theorem State.setFrame_out (s : State) (n q : Nat) (x : FrameS) : (s.setFrame n q x).out = s.out := rfl
@[simp] theorem State.setFrame_free (s : State) (n q : Nat) (x : FrameS) : (s.setFrame n q x).free = s.free := rfl
@[simp] theorem State.setFrame_pending (s : State) (n q : Nat) (x : FrameS) : (s.setFrame n q x).pending = s.pending := rfl
@[simp] theorem State.setFrame_reg (s : State) (n q : Nat) (x : FrameS) (r' : RegName) (i' : Nat) : (s.setFrame n q x).reg r' i' = s.reg r' i' := rfl
@[simp] theorem State.setFrame_regN (s : State) (n q : Nat) (x : FrameS) (r' : RegName) (i' : Nat) : (s.setFrame n q x).regN r' i' = s.regN r' i' := rfl
@[simp] theorem State.setFrame_fld (s : State) (n q : Nat) (x : FrameS) (f' : Fld) (i' : Nat) : (s.setFrame n q x).fld f' i' = s.fld f' i' := rfl
@[simp] theorem State.setFrame_flag (s : State) (n q : Nat) (x : FrameS) (f' : Fld) (i' : Nat) : (s.setFrame n q x).flag f' i' = s.flag f' i' := rfl
@[simp] theorem State.setFrame_pair (s : State) (n q : Nat) (x : FrameS) (lo' hi' : RegName) (i' : Nat) : (s.setFrame n q x).pair lo' hi' i' = s.pair lo' hi' i' := rfl
@[simp] theorem State.setFrame_port (s : State) (n q : Nat) (x : FrameS) (p' : Nat) : (s.setFrame n q x).port p' = s.port p' := rfl
@[simp] theorem State.setFrame_cam (s : State) (n q : Nat) (x : FrameS) (n' : Nat) : (s.setFrame n q x).cam n' = s.cam n' := rfl
@[simp] theorem State.setFrame_fn (s : State) (n q : Nat) (x : FrameS) (f' : Nat) : (s.setFrame n q x).fn f' = s.fn f' := rfl
@[simp] theorem State.setFrame_queue (s : State) (n q : Nat) (x : FrameS) (f' q' : Nat) : (s.setFrame n q x).queue f' q' = s.queue f' q' := rfl
@[simp] theorem State.setFrame_core (s : State) (n q : Nat) (x : FrameS) (i' : Nat) : (s.setFrame n q x).core i' = s.core i' := rfl
@[simp] theorem State.setFrame_group (s : State) (n q : Nat) (x : FrameS) (g' : Nat) : (s.setFrame n q x).group g' = s.group g' := rfl
@[simp] theorem State.setFrame_now (s : State) (n q : Nat) (x : FrameS) : (s.setFrame n q x).now = s.now := rfl

/-! ### modFrame -/

@[simp] theorem State.modFrame_regs (s : State) (n q : Nat) (f : FrameS → FrameS) : (s.modFrame n q f).regs = s.regs := rfl
@[simp] theorem State.modFrame_rdShadow (s : State) (n q : Nat) (f : FrameS → FrameS) : (s.modFrame n q f).rdShadow = s.rdShadow := rfl
@[simp] theorem State.modFrame_wrShadow (s : State) (n q : Nat) (f : FrameS → FrameS) : (s.modFrame n q f).wrShadow = s.wrShadow := rfl
@[simp] theorem State.modFrame_time (s : State) (n q : Nat) (f : FrameS → FrameS) : (s.modFrame n q f).time = s.time := rfl
@[simp] theorem State.modFrame_ports (s : State) (n q : Nat) (f : FrameS → FrameS) : (s.modFrame n q f).ports = s.ports := rfl
@[simp] theorem State.modFrame_tx (s : State) (n q : Nat) (f : FrameS → FrameS) : (s.modFrame n q f).tx = s.tx := rfl
@[simp] theorem State.modFrame_cams (s : State) (n q : Nat) (f : FrameS → FrameS) : (s.modFrame n q f).cams = s.cams := rfl
@[simp] theorem State.modFrame_frames (s : State) (n q : Nat) (f : FrameS → FrameS) : (s.modFrame n q f).frames = s.frames.modify (frameKey n q) f := rfl
@[simp] theorem State.modFrame_cores (s : State) (n q : Nat) (f : FrameS → FrameS) : (s.modFrame n q f).cores = s.cores := rfl
@[simp] theorem State.modFrame_devPhase (s : State) (n q : Nat) (f : FrameS → FrameS) : (s.modFrame n q f).devPhase = s.devPhase := rfl
@[simp] theorem State.modFrame_devArrived (s : State) (n q : Nat) (f : FrameS → FrameS) : (s.modFrame n q f).devArrived = s.devArrived := rfl
@[simp] theorem State.modFrame_devMembers (s : State) (n q : Nat) (f : FrameS → FrameS) : (s.modFrame n q f).devMembers = s.devMembers := rfl
@[simp] theorem State.modFrame_hold (s : State) (n q : Nat) (f : FrameS → FrameS) : (s.modFrame n q f).hold = s.hold := rfl
@[simp] theorem State.modFrame_adapt (s : State) (n q : Nat) (f : FrameS → FrameS) : (s.modFrame n q f).adapt = s.adapt := rfl
@[simp] theorem State.modFrame_sec (s : State) (n q : Nat) (f : FrameS → FrameS) : (s.modFrame n q f).sec = s.sec := rfl
@[simp] theorem State.modFrame_boot (s : State) (n q : Nat) (f : FrameS → FrameS) : (s.modFrame n q f).boot = s.boot := rfl
@[simp] theorem State.modFrame_groups (s : State) (n q : Nat) (f : FrameS → FrameS) : (s.modFrame n q f).groups = s.groups := rfl
@[simp] theorem State.modFrame_fns (s : State) (n q : Nat) (f : FrameS → FrameS) : (s.modFrame n q f).fns = s.fns := rfl
@[simp] theorem State.modFrame_rrFn (s : State) (n q : Nat) (f : FrameS → FrameS) : (s.modFrame n q f).rrFn = s.rrFn := rfl
@[simp] theorem State.modFrame_sfl (s : State) (n q : Nat) (f : FrameS → FrameS) : (s.modFrame n q f).sfl = s.sfl := rfl
@[simp] theorem State.modFrame_chn (s : State) (n q : Nat) (f : FrameS → FrameS) : (s.modFrame n q f).chn = s.chn := rfl
@[simp] theorem State.modFrame_log (s : State) (n q : Nat) (f : FrameS → FrameS) : (s.modFrame n q f).log = s.log := rfl
@[simp] theorem State.modFrame_fatal (s : State) (n q : Nat) (f : FrameS → FrameS) : (s.modFrame n q f).fatal = s.fatal := rfl
@[simp] theorem State.modFrame_mem (s : State) (n q : Nat) (f : FrameS → FrameS) : (s.modFrame n q f).mem = s.mem := rfl
@[simp] theorem State.modFrame_out (s : State) (n q : Nat) (f : FrameS → FrameS) : (s.modFrame n q f).out = s.out := rfl
@[simp] theorem State.modFrame_free (s : State) (n q : Nat) (f : FrameS → FrameS) : (s.modFrame n q f).free = s.free := rfl
@[simp] theorem State.modFrame_pending (s : State) (n q : Nat) (f : FrameS → FrameS) : (s.modFrame n q f).pending = s.pending := rfl
@[simp] theorem State.modFrame_reg (s : State) (n q : Nat) (f : FrameS → FrameS) (r' : RegName) (i' : Nat) : (s.modFrame n q f).reg r' i' = s.reg r' i' := rfl
@[simp] theorem State.modFrame_regN (s : State) (n q : Nat) (f : FrameS → FrameS) (r' : RegName) (i' : Nat) : (s.modFrame n q f).regN r' i' = s.regN r' i' := rfl
@[simp] theorem State.modFrame_fld (s : State) (n q : Nat) (f : FrameS → FrameS) (f' : Fld) (i' : Nat) : (s.modFrame n q f).fld f' i' = s.fld f' i' := rfl
@[simp] theorem State.modFrame_flag (s : State) (n q : Nat) (f : FrameS → FrameS) (f' : Fld) (i' : Nat) : (s.modFrame n q f).flag f' i' = s.flag f' i' := rfl
@[simp] theorem State.modFrame_pair (s : State) (n q : Nat) (f : FrameS → FrameS) (lo' hi' : RegName) (i' : Nat) : (s.modFrame n q f).pair lo' hi' i' = s.pair lo' hi' i' := rfl
@[simp] theorem State.modFrame_port (s : State) (n q : Nat) (f : FrameS → FrameS) (p' : Nat) : (s.modFrame n q f).port p' = s.port p' := rfl
@[simp] theorem State.modFrame_cam (s : State) (n q : Nat) (f : FrameS → FrameS) (n' : Nat) : (s.modFrame n q f).cam n' = s.cam n' := rfl
@[simp] theorem State.modFrame_fn (s : State) (n q : Nat) (f : FrameS → FrameS) (f' : Nat) : (s.modFrame n q f).fn f' = s.fn f' := rfl
@[simp] theorem State.modFrame_queue (s : State) (n q : Nat) (f : FrameS → FrameS) (f' q' : Nat) : (s.modFrame n q f).queue f' q' = s.queue f' q' := rfl
@[simp] theorem State.modFrame_core (s : State) (n q : Nat) (f : FrameS → FrameS) (i' : Nat) : (s.modFrame n q f).core i' = s.core i' := rfl
@[simp] theorem State.modFrame_group (s : State) (n q : Nat) (f : FrameS → FrameS) (g' : Nat) : (s.modFrame n q f).group g' = s.group g' := rfl
@[simp] theorem State.modFrame_now (s : State) (n q : Nat) (f : FrameS → FrameS) : (s.modFrame n q f).now = s.now := rfl

/-! ### setFn -/

@[simp] theorem State.setFn_regs (s : State) (f : Nat) (x : FnS) : (s.setFn f x).regs = s.regs := rfl
@[simp] theorem State.setFn_rdShadow (s : State) (f : Nat) (x : FnS) : (s.setFn f x).rdShadow = s.rdShadow := rfl
@[simp] theorem State.setFn_wrShadow (s : State) (f : Nat) (x : FnS) : (s.setFn f x).wrShadow = s.wrShadow := rfl
@[simp] theorem State.setFn_time (s : State) (f : Nat) (x : FnS) : (s.setFn f x).time = s.time := rfl
@[simp] theorem State.setFn_ports (s : State) (f : Nat) (x : FnS) : (s.setFn f x).ports = s.ports := rfl
@[simp] theorem State.setFn_tx (s : State) (f : Nat) (x : FnS) : (s.setFn f x).tx = s.tx := rfl
@[simp] theorem State.setFn_cams (s : State) (f : Nat) (x : FnS) : (s.setFn f x).cams = s.cams := rfl
@[simp] theorem State.setFn_frames (s : State) (f : Nat) (x : FnS) : (s.setFn f x).frames = s.frames := rfl
@[simp] theorem State.setFn_cores (s : State) (f : Nat) (x : FnS) : (s.setFn f x).cores = s.cores := rfl
@[simp] theorem State.setFn_devPhase (s : State) (f : Nat) (x : FnS) : (s.setFn f x).devPhase = s.devPhase := rfl
@[simp] theorem State.setFn_devArrived (s : State) (f : Nat) (x : FnS) : (s.setFn f x).devArrived = s.devArrived := rfl
@[simp] theorem State.setFn_devMembers (s : State) (f : Nat) (x : FnS) : (s.setFn f x).devMembers = s.devMembers := rfl
@[simp] theorem State.setFn_hold (s : State) (f : Nat) (x : FnS) : (s.setFn f x).hold = s.hold := rfl
@[simp] theorem State.setFn_adapt (s : State) (f : Nat) (x : FnS) : (s.setFn f x).adapt = s.adapt := rfl
@[simp] theorem State.setFn_sec (s : State) (f : Nat) (x : FnS) : (s.setFn f x).sec = s.sec := rfl
@[simp] theorem State.setFn_boot (s : State) (f : Nat) (x : FnS) : (s.setFn f x).boot = s.boot := rfl
@[simp] theorem State.setFn_groups (s : State) (f : Nat) (x : FnS) : (s.setFn f x).groups = s.groups := rfl
@[simp] theorem State.setFn_fns (s : State) (f : Nat) (x : FnS) : (s.setFn f x).fns = s.fns.set f x := rfl
@[simp] theorem State.setFn_rrFn (s : State) (f : Nat) (x : FnS) : (s.setFn f x).rrFn = s.rrFn := rfl
@[simp] theorem State.setFn_sfl (s : State) (f : Nat) (x : FnS) : (s.setFn f x).sfl = s.sfl := rfl
@[simp] theorem State.setFn_chn (s : State) (f : Nat) (x : FnS) : (s.setFn f x).chn = s.chn := rfl
@[simp] theorem State.setFn_log (s : State) (f : Nat) (x : FnS) : (s.setFn f x).log = s.log := rfl
@[simp] theorem State.setFn_fatal (s : State) (f : Nat) (x : FnS) : (s.setFn f x).fatal = s.fatal := rfl
@[simp] theorem State.setFn_mem (s : State) (f : Nat) (x : FnS) : (s.setFn f x).mem = s.mem := rfl
@[simp] theorem State.setFn_out (s : State) (f : Nat) (x : FnS) : (s.setFn f x).out = s.out := rfl
@[simp] theorem State.setFn_free (s : State) (f : Nat) (x : FnS) : (s.setFn f x).free = s.free := rfl
@[simp] theorem State.setFn_pending (s : State) (f : Nat) (x : FnS) : (s.setFn f x).pending = s.pending := rfl
@[simp] theorem State.setFn_reg (s : State) (f : Nat) (x : FnS) (r' : RegName) (i' : Nat) : (s.setFn f x).reg r' i' = s.reg r' i' := rfl
@[simp] theorem State.setFn_regN (s : State) (f : Nat) (x : FnS) (r' : RegName) (i' : Nat) : (s.setFn f x).regN r' i' = s.regN r' i' := rfl
@[simp] theorem State.setFn_fld (s : State) (f : Nat) (x : FnS) (f' : Fld) (i' : Nat) : (s.setFn f x).fld f' i' = s.fld f' i' := rfl
@[simp] theorem State.setFn_flag (s : State) (f : Nat) (x : FnS) (f' : Fld) (i' : Nat) : (s.setFn f x).flag f' i' = s.flag f' i' := rfl
@[simp] theorem State.setFn_pair (s : State) (f : Nat) (x : FnS) (lo' hi' : RegName) (i' : Nat) : (s.setFn f x).pair lo' hi' i' = s.pair lo' hi' i' := rfl
@[simp] theorem State.setFn_port (s : State) (f : Nat) (x : FnS) (p' : Nat) : (s.setFn f x).port p' = s.port p' := rfl
@[simp] theorem State.setFn_cam (s : State) (f : Nat) (x : FnS) (n' : Nat) : (s.setFn f x).cam n' = s.cam n' := rfl
@[simp] theorem State.setFn_frame (s : State) (f : Nat) (x : FnS) (n' q' : Nat) : (s.setFn f x).frame n' q' = s.frame n' q' := rfl
@[simp] theorem State.setFn_core (s : State) (f : Nat) (x : FnS) (i' : Nat) : (s.setFn f x).core i' = s.core i' := rfl
@[simp] theorem State.setFn_group (s : State) (f : Nat) (x : FnS) (g' : Nat) : (s.setFn f x).group g' = s.group g' := rfl
@[simp] theorem State.setFn_now (s : State) (f : Nat) (x : FnS) : (s.setFn f x).now = s.now := rfl

/-! ### modFn -/

@[simp] theorem State.modFn_regs (s : State) (f : Nat) (g : FnS → FnS) : (s.modFn f g).regs = s.regs := rfl
@[simp] theorem State.modFn_rdShadow (s : State) (f : Nat) (g : FnS → FnS) : (s.modFn f g).rdShadow = s.rdShadow := rfl
@[simp] theorem State.modFn_wrShadow (s : State) (f : Nat) (g : FnS → FnS) : (s.modFn f g).wrShadow = s.wrShadow := rfl
@[simp] theorem State.modFn_time (s : State) (f : Nat) (g : FnS → FnS) : (s.modFn f g).time = s.time := rfl
@[simp] theorem State.modFn_ports (s : State) (f : Nat) (g : FnS → FnS) : (s.modFn f g).ports = s.ports := rfl
@[simp] theorem State.modFn_tx (s : State) (f : Nat) (g : FnS → FnS) : (s.modFn f g).tx = s.tx := rfl
@[simp] theorem State.modFn_cams (s : State) (f : Nat) (g : FnS → FnS) : (s.modFn f g).cams = s.cams := rfl
@[simp] theorem State.modFn_frames (s : State) (f : Nat) (g : FnS → FnS) : (s.modFn f g).frames = s.frames := rfl
@[simp] theorem State.modFn_cores (s : State) (f : Nat) (g : FnS → FnS) : (s.modFn f g).cores = s.cores := rfl
@[simp] theorem State.modFn_devPhase (s : State) (f : Nat) (g : FnS → FnS) : (s.modFn f g).devPhase = s.devPhase := rfl
@[simp] theorem State.modFn_devArrived (s : State) (f : Nat) (g : FnS → FnS) : (s.modFn f g).devArrived = s.devArrived := rfl
@[simp] theorem State.modFn_devMembers (s : State) (f : Nat) (g : FnS → FnS) : (s.modFn f g).devMembers = s.devMembers := rfl
@[simp] theorem State.modFn_hold (s : State) (f : Nat) (g : FnS → FnS) : (s.modFn f g).hold = s.hold := rfl
@[simp] theorem State.modFn_adapt (s : State) (f : Nat) (g : FnS → FnS) : (s.modFn f g).adapt = s.adapt := rfl
@[simp] theorem State.modFn_sec (s : State) (f : Nat) (g : FnS → FnS) : (s.modFn f g).sec = s.sec := rfl
@[simp] theorem State.modFn_boot (s : State) (f : Nat) (g : FnS → FnS) : (s.modFn f g).boot = s.boot := rfl
@[simp] theorem State.modFn_groups (s : State) (f : Nat) (g : FnS → FnS) : (s.modFn f g).groups = s.groups := rfl
@[simp] theorem State.modFn_fns (s : State) (f : Nat) (g : FnS → FnS) : (s.modFn f g).fns = s.fns.modify f g := rfl
@[simp] theorem State.modFn_rrFn (s : State) (f : Nat) (g : FnS → FnS) : (s.modFn f g).rrFn = s.rrFn := rfl
@[simp] theorem State.modFn_sfl (s : State) (f : Nat) (g : FnS → FnS) : (s.modFn f g).sfl = s.sfl := rfl
@[simp] theorem State.modFn_chn (s : State) (f : Nat) (g : FnS → FnS) : (s.modFn f g).chn = s.chn := rfl
@[simp] theorem State.modFn_log (s : State) (f : Nat) (g : FnS → FnS) : (s.modFn f g).log = s.log := rfl
@[simp] theorem State.modFn_fatal (s : State) (f : Nat) (g : FnS → FnS) : (s.modFn f g).fatal = s.fatal := rfl
@[simp] theorem State.modFn_mem (s : State) (f : Nat) (g : FnS → FnS) : (s.modFn f g).mem = s.mem := rfl
@[simp] theorem State.modFn_out (s : State) (f : Nat) (g : FnS → FnS) : (s.modFn f g).out = s.out := rfl
@[simp] theorem State.modFn_free (s : State) (f : Nat) (g : FnS → FnS) : (s.modFn f g).free = s.free := rfl
@[simp] theorem State.modFn_pending (s : State) (f : Nat) (g : FnS → FnS) : (s.modFn f g).pending = s.pending := rfl
@[simp] theorem State.modFn_reg (s : State) (f : Nat) (g : FnS → FnS) (r' : RegName) (i' : Nat) : (s.modFn f g).reg r' i' = s.reg r' i' := rfl
@[simp] theorem State.modFn_regN (s : State) (f : Nat) (g : FnS → FnS) (r' : RegName) (i' : Nat) : (s.modFn f g).regN r' i' = s.regN r' i' := rfl
@[simp] theorem State.modFn_fld (s : State) (f : Nat) (g : FnS → FnS) (f' : Fld) (i' : Nat) : (s.modFn f g).fld f' i' = s.fld f' i' := rfl
@[simp] theorem State.modFn_flag (s : State) (f : Nat) (g : FnS → FnS) (f' : Fld) (i' : Nat) : (s.modFn f g).flag f' i' = s.flag f' i' := rfl
@[simp] theorem State.modFn_pair (s : State) (f : Nat) (g : FnS → FnS) (lo' hi' : RegName) (i' : Nat) : (s.modFn f g).pair lo' hi' i' = s.pair lo' hi' i' := rfl
@[simp] theorem State.modFn_port (s : State) (f : Nat) (g : FnS → FnS) (p' : Nat) : (s.modFn f g).port p' = s.port p' := rfl
@[simp] theorem State.modFn_cam (s : State) (f : Nat) (g : FnS → FnS) (n' : Nat) : (s.modFn f g).cam n' = s.cam n' := rfl
@[simp] theorem State.modFn_frame (s : State) (f : Nat) (g : FnS → FnS) (n' q' : Nat) : (s.modFn f g).frame n' q' = s.frame n' q' := rfl
@[simp] theorem State.modFn_core (s : State) (f : Nat) (g : FnS → FnS) (i' : Nat) : (s.modFn f g).core i' = s.core i' := rfl
@[simp] theorem State.modFn_group (s : State) (f : Nat) (g : FnS → FnS) (g' : Nat) : (s.modFn f g).group g' = s.group g' := rfl
@[simp] theorem State.modFn_now (s : State) (f : Nat) (g : FnS → FnS) : (s.modFn f g).now = s.now := rfl

/-! ### setQueue -/

@[simp] theorem State.setQueue_regs (s : State) (f q : Nat) (x : QueueS) : (s.setQueue f q x).regs = s.regs := rfl
@[simp] theorem State.setQueue_rdShadow (s : State) (f q : Nat) (x : QueueS) : (s.setQueue f q x).rdShadow = s.rdShadow := rfl
@[simp] theorem State.setQueue_wrShadow (s : State) (f q : Nat) (x : QueueS) : (s.setQueue f q x).wrShadow = s.wrShadow := rfl
@[simp] theorem State.setQueue_time (s : State) (f q : Nat) (x : QueueS) : (s.setQueue f q x).time = s.time := rfl
@[simp] theorem State.setQueue_ports (s : State) (f q : Nat) (x : QueueS) : (s.setQueue f q x).ports = s.ports := rfl
@[simp] theorem State.setQueue_tx (s : State) (f q : Nat) (x : QueueS) : (s.setQueue f q x).tx = s.tx := rfl
@[simp] theorem State.setQueue_cams (s : State) (f q : Nat) (x : QueueS) : (s.setQueue f q x).cams = s.cams := rfl
@[simp] theorem State.setQueue_frames (s : State) (f q : Nat) (x : QueueS) : (s.setQueue f q x).frames = s.frames := rfl
@[simp] theorem State.setQueue_cores (s : State) (f q : Nat) (x : QueueS) : (s.setQueue f q x).cores = s.cores := rfl
@[simp] theorem State.setQueue_devPhase (s : State) (f q : Nat) (x : QueueS) : (s.setQueue f q x).devPhase = s.devPhase := rfl
@[simp] theorem State.setQueue_devArrived (s : State) (f q : Nat) (x : QueueS) : (s.setQueue f q x).devArrived = s.devArrived := rfl
@[simp] theorem State.setQueue_devMembers (s : State) (f q : Nat) (x : QueueS) : (s.setQueue f q x).devMembers = s.devMembers := rfl
@[simp] theorem State.setQueue_hold (s : State) (f q : Nat) (x : QueueS) : (s.setQueue f q x).hold = s.hold := rfl
@[simp] theorem State.setQueue_adapt (s : State) (f q : Nat) (x : QueueS) : (s.setQueue f q x).adapt = s.adapt := rfl
@[simp] theorem State.setQueue_sec (s : State) (f q : Nat) (x : QueueS) : (s.setQueue f q x).sec = s.sec := rfl
@[simp] theorem State.setQueue_boot (s : State) (f q : Nat) (x : QueueS) : (s.setQueue f q x).boot = s.boot := rfl
@[simp] theorem State.setQueue_groups (s : State) (f q : Nat) (x : QueueS) : (s.setQueue f q x).groups = s.groups := rfl
@[simp] theorem State.setQueue_rrFn (s : State) (f q : Nat) (x : QueueS) : (s.setQueue f q x).rrFn = s.rrFn := rfl
@[simp] theorem State.setQueue_sfl (s : State) (f q : Nat) (x : QueueS) : (s.setQueue f q x).sfl = s.sfl := rfl
@[simp] theorem State.setQueue_chn (s : State) (f q : Nat) (x : QueueS) : (s.setQueue f q x).chn = s.chn := rfl
@[simp] theorem State.setQueue_log (s : State) (f q : Nat) (x : QueueS) : (s.setQueue f q x).log = s.log := rfl
@[simp] theorem State.setQueue_fatal (s : State) (f q : Nat) (x : QueueS) : (s.setQueue f q x).fatal = s.fatal := rfl
@[simp] theorem State.setQueue_mem (s : State) (f q : Nat) (x : QueueS) : (s.setQueue f q x).mem = s.mem := rfl
@[simp] theorem State.setQueue_out (s : State) (f q : Nat) (x : QueueS) : (s.setQueue f q x).out = s.out := rfl
@[simp] theorem State.setQueue_free (s : State) (f q : Nat) (x : QueueS) : (s.setQueue f q x).free = s.free := rfl
@[simp] theorem State.setQueue_pending (s : State) (f q : Nat) (x : QueueS) : (s.setQueue f q x).pending = s.pending := rfl
@[simp] theorem State.setQueue_reg (s : State) (f q : Nat) (x : QueueS) (r' : RegName) (i' : Nat) : (s.setQueue f q x).reg r' i' = s.reg r' i' := rfl
@[simp] theorem State.setQueue_regN (s : State) (f q : Nat) (x : QueueS) (r' : RegName) (i' : Nat) : (s.setQueue f q x).regN r' i' = s.regN r' i' := rfl
@[simp] theorem State.setQueue_fld (s : State) (f q : Nat) (x : QueueS) (f' : Fld) (i' : Nat) : (s.setQueue f q x).fld f' i' = s.fld f' i' := rfl
@[simp] theorem State.setQueue_flag (s : State) (f q : Nat) (x : QueueS) (f' : Fld) (i' : Nat) : (s.setQueue f q x).flag f' i' = s.flag f' i' := rfl
@[simp] theorem State.setQueue_pair (s : State) (f q : Nat) (x : QueueS) (lo' hi' : RegName) (i' : Nat) : (s.setQueue f q x).pair lo' hi' i' = s.pair lo' hi' i' := rfl
@[simp] theorem State.setQueue_port (s : State) (f q : Nat) (x : QueueS) (p' : Nat) : (s.setQueue f q x).port p' = s.port p' := rfl
@[simp] theorem State.setQueue_cam (s : State) (f q : Nat) (x : QueueS) (n' : Nat) : (s.setQueue f q x).cam n' = s.cam n' := rfl
@[simp] theorem State.setQueue_frame (s : State) (f q : Nat) (x : QueueS) (n' q' : Nat) : (s.setQueue f q x).frame n' q' = s.frame n' q' := rfl
@[simp] theorem State.setQueue_core (s : State) (f q : Nat) (x : QueueS) (i' : Nat) : (s.setQueue f q x).core i' = s.core i' := rfl
@[simp] theorem State.setQueue_group (s : State) (f q : Nat) (x : QueueS) (g' : Nat) : (s.setQueue f q x).group g' = s.group g' := rfl
@[simp] theorem State.setQueue_now (s : State) (f q : Nat) (x : QueueS) : (s.setQueue f q x).now = s.now := rfl

/-! ### modTime -/

@[simp] theorem State.modTime_regs (s : State) (f : TimeS → TimeS) : (s.modTime f).regs = s.regs := rfl
@[simp] theorem State.modTime_rdShadow (s : State) (f : TimeS → TimeS) : (s.modTime f).rdShadow = s.rdShadow := rfl
@[simp] theorem State.modTime_wrShadow (s : State) (f : TimeS → TimeS) : (s.modTime f).wrShadow = s.wrShadow := rfl
@[simp] theorem State.modTime_time (s : State) (f : TimeS → TimeS) : (s.modTime f).time = f s.time := rfl
@[simp] theorem State.modTime_ports (s : State) (f : TimeS → TimeS) : (s.modTime f).ports = s.ports := rfl
@[simp] theorem State.modTime_tx (s : State) (f : TimeS → TimeS) : (s.modTime f).tx = s.tx := rfl
@[simp] theorem State.modTime_cams (s : State) (f : TimeS → TimeS) : (s.modTime f).cams = s.cams := rfl
@[simp] theorem State.modTime_frames (s : State) (f : TimeS → TimeS) : (s.modTime f).frames = s.frames := rfl
@[simp] theorem State.modTime_cores (s : State) (f : TimeS → TimeS) : (s.modTime f).cores = s.cores := rfl
@[simp] theorem State.modTime_devPhase (s : State) (f : TimeS → TimeS) : (s.modTime f).devPhase = s.devPhase := rfl
@[simp] theorem State.modTime_devArrived (s : State) (f : TimeS → TimeS) : (s.modTime f).devArrived = s.devArrived := rfl
@[simp] theorem State.modTime_devMembers (s : State) (f : TimeS → TimeS) : (s.modTime f).devMembers = s.devMembers := rfl
@[simp] theorem State.modTime_hold (s : State) (f : TimeS → TimeS) : (s.modTime f).hold = s.hold := rfl
@[simp] theorem State.modTime_adapt (s : State) (f : TimeS → TimeS) : (s.modTime f).adapt = s.adapt := rfl
@[simp] theorem State.modTime_sec (s : State) (f : TimeS → TimeS) : (s.modTime f).sec = s.sec := rfl
@[simp] theorem State.modTime_boot (s : State) (f : TimeS → TimeS) : (s.modTime f).boot = s.boot := rfl
@[simp] theorem State.modTime_groups (s : State) (f : TimeS → TimeS) : (s.modTime f).groups = s.groups := rfl
@[simp] theorem State.modTime_fns (s : State) (f : TimeS → TimeS) : (s.modTime f).fns = s.fns := rfl
@[simp] theorem State.modTime_rrFn (s : State) (f : TimeS → TimeS) : (s.modTime f).rrFn = s.rrFn := rfl
@[simp] theorem State.modTime_sfl (s : State) (f : TimeS → TimeS) : (s.modTime f).sfl = s.sfl := rfl
@[simp] theorem State.modTime_chn (s : State) (f : TimeS → TimeS) : (s.modTime f).chn = s.chn := rfl
@[simp] theorem State.modTime_log (s : State) (f : TimeS → TimeS) : (s.modTime f).log = s.log := rfl
@[simp] theorem State.modTime_fatal (s : State) (f : TimeS → TimeS) : (s.modTime f).fatal = s.fatal := rfl
@[simp] theorem State.modTime_mem (s : State) (f : TimeS → TimeS) : (s.modTime f).mem = s.mem := rfl
@[simp] theorem State.modTime_out (s : State) (f : TimeS → TimeS) : (s.modTime f).out = s.out := rfl
@[simp] theorem State.modTime_free (s : State) (f : TimeS → TimeS) : (s.modTime f).free = s.free := rfl
@[simp] theorem State.modTime_pending (s : State) (f : TimeS → TimeS) : (s.modTime f).pending = s.pending := rfl
@[simp] theorem State.modTime_reg (s : State) (f : TimeS → TimeS) (r' : RegName) (i' : Nat) : (s.modTime f).reg r' i' = s.reg r' i' := rfl
@[simp] theorem State.modTime_regN (s : State) (f : TimeS → TimeS) (r' : RegName) (i' : Nat) : (s.modTime f).regN r' i' = s.regN r' i' := rfl
@[simp] theorem State.modTime_fld (s : State) (f : TimeS → TimeS) (f' : Fld) (i' : Nat) : (s.modTime f).fld f' i' = s.fld f' i' := rfl
@[simp] theorem State.modTime_flag (s : State) (f : TimeS → TimeS) (f' : Fld) (i' : Nat) : (s.modTime f).flag f' i' = s.flag f' i' := rfl
@[simp] theorem State.modTime_pair (s : State) (f : TimeS → TimeS) (lo' hi' : RegName) (i' : Nat) : (s.modTime f).pair lo' hi' i' = s.pair lo' hi' i' := rfl
@[simp] theorem State.modTime_port (s : State) (f : TimeS → TimeS) (p' : Nat) : (s.modTime f).port p' = s.port p' := rfl
@[simp] theorem State.modTime_cam (s : State) (f : TimeS → TimeS) (n' : Nat) : (s.modTime f).cam n' = s.cam n' := rfl
@[simp] theorem State.modTime_frame (s : State) (f : TimeS → TimeS) (n' q' : Nat) : (s.modTime f).frame n' q' = s.frame n' q' := rfl
@[simp] theorem State.modTime_fn (s : State) (f : TimeS → TimeS) (f' : Nat) : (s.modTime f).fn f' = s.fn f' := rfl
@[simp] theorem State.modTime_queue (s : State) (f : TimeS → TimeS) (f' q' : Nat) : (s.modTime f).queue f' q' = s.queue f' q' := rfl
@[simp] theorem State.modTime_core (s : State) (f : TimeS → TimeS) (i' : Nat) : (s.modTime f).core i' = s.core i' := rfl
@[simp] theorem State.modTime_group (s : State) (f : TimeS → TimeS) (g' : Nat) : (s.modTime f).group g' = s.group g' := rfl

/-! ### emit -/

@[simp] theorem State.emit_regs (s : State) (o : Out) : (s.emit o).regs = s.regs := rfl
@[simp] theorem State.emit_rdShadow (s : State) (o : Out) : (s.emit o).rdShadow = s.rdShadow := rfl
@[simp] theorem State.emit_wrShadow (s : State) (o : Out) : (s.emit o).wrShadow = s.wrShadow := rfl
@[simp] theorem State.emit_time (s : State) (o : Out) : (s.emit o).time = s.time := rfl
@[simp] theorem State.emit_ports (s : State) (o : Out) : (s.emit o).ports = s.ports := rfl
@[simp] theorem State.emit_tx (s : State) (o : Out) : (s.emit o).tx = s.tx := rfl
@[simp] theorem State.emit_cams (s : State) (o : Out) : (s.emit o).cams = s.cams := rfl
@[simp] theorem State.emit_frames (s : State) (o : Out) : (s.emit o).frames = s.frames := rfl
@[simp] theorem State.emit_cores (s : State) (o : Out) : (s.emit o).cores = s.cores := rfl
@[simp] theorem State.emit_devPhase (s : State) (o : Out) : (s.emit o).devPhase = s.devPhase := rfl
@[simp] theorem State.emit_devArrived (s : State) (o : Out) : (s.emit o).devArrived = s.devArrived := rfl
@[simp] theorem State.emit_devMembers (s : State) (o : Out) : (s.emit o).devMembers = s.devMembers := rfl
@[simp] theorem State.emit_hold (s : State) (o : Out) : (s.emit o).hold = s.hold := rfl
@[simp] theorem State.emit_adapt (s : State) (o : Out) : (s.emit o).adapt = s.adapt := rfl
@[simp] theorem State.emit_sec (s : State) (o : Out) : (s.emit o).sec = s.sec := rfl
@[simp] theorem State.emit_boot (s : State) (o : Out) : (s.emit o).boot = s.boot := rfl
@[simp] theorem State.emit_groups (s : State) (o : Out) : (s.emit o).groups = s.groups := rfl
@[simp] theorem State.emit_fns (s : State) (o : Out) : (s.emit o).fns = s.fns := rfl
@[simp] theorem State.emit_rrFn (s : State) (o : Out) : (s.emit o).rrFn = s.rrFn := rfl
@[simp] theorem State.emit_sfl (s : State) (o : Out) : (s.emit o).sfl = s.sfl := rfl
@[simp] theorem State.emit_chn (s : State) (o : Out) : (s.emit o).chn = s.chn := rfl
@[simp] theorem State.emit_log (s : State) (o : Out) : (s.emit o).log = s.log := rfl
@[simp] theorem State.emit_fatal (s : State) (o : Out) : (s.emit o).fatal = s.fatal := rfl
@[simp] theorem State.emit_mem (s : State) (o : Out) : (s.emit o).mem = s.mem := rfl
@[simp] theorem State.emit_out (s : State) (o : Out) : (s.emit o).out = o :: s.out := rfl
@[simp] theorem State.emit_free (s : State) (o : Out) : (s.emit o).free = s.free := rfl
@[simp] theorem State.emit_pending (s : State) (o : Out) : (s.emit o).pending = s.pending := rfl
@[simp] theorem State.emit_reg (s : State) (o : Out) (r' : RegName) (i' : Nat) : (s.emit o).reg r' i' = s.reg r' i' := rfl
@[simp] theorem State.emit_regN (s : State) (o : Out) (r' : RegName) (i' : Nat) : (s.emit o).regN r' i' = s.regN r' i' := rfl
@[simp] theorem State.emit_fld (s : State) (o : Out) (f' : Fld) (i' : Nat) : (s.emit o).fld f' i' = s.fld f' i' := rfl
@[simp] theorem State.emit_flag (s : State) (o : Out) (f' : Fld) (i' : Nat) : (s.emit o).flag f' i' = s.flag f' i' := rfl
@[simp] theorem State.emit_pair (s : State) (o : Out) (lo' hi' : RegName) (i' : Nat) : (s.emit o).pair lo' hi' i' = s.pair lo' hi' i' := rfl
@[simp] theorem State.emit_port (s : State) (o : Out) (p' : Nat) : (s.emit o).port p' = s.port p' := rfl
@[simp] theorem State.emit_cam (s : State) (o : Out) (n' : Nat) : (s.emit o).cam n' = s.cam n' := rfl
@[simp] theorem State.emit_frame (s : State) (o : Out) (n' q' : Nat) : (s.emit o).frame n' q' = s.frame n' q' := rfl
@[simp] theorem State.emit_fn (s : State) (o : Out) (f' : Nat) : (s.emit o).fn f' = s.fn f' := rfl
@[simp] theorem State.emit_queue (s : State) (o : Out) (f' q' : Nat) : (s.emit o).queue f' q' = s.queue f' q' := rfl
@[simp] theorem State.emit_core (s : State) (o : Out) (i' : Nat) : (s.emit o).core i' = s.core i' := rfl
@[simp] theorem State.emit_group (s : State) (o : Out) (g' : Nat) : (s.emit o).group g' = s.group g' := rfl
@[simp] theorem State.emit_now (s : State) (o : Out) : (s.emit o).now = s.now := rfl

/-! ### raise -/

@[simp] theorem State.raise_regs (s : State) (fn v : Nat) : (s.raise fn v).regs = s.regs := rfl
@[simp] theorem State.raise_rdShadow (s : State) (fn v : Nat) : (s.raise fn v).rdShadow = s.rdShadow := rfl
@[simp] theorem State.raise_wrShadow (s : State) (fn v : Nat) : (s.raise fn v).wrShadow = s.wrShadow := rfl
@[simp] theorem State.raise_time (s : State) (fn v : Nat) : (s.raise fn v).time = s.time := rfl
@[simp] theorem State.raise_ports (s : State) (fn v : Nat) : (s.raise fn v).ports = s.ports := rfl
@[simp] theorem State.raise_tx (s : State) (fn v : Nat) : (s.raise fn v).tx = s.tx := rfl
@[simp] theorem State.raise_cams (s : State) (fn v : Nat) : (s.raise fn v).cams = s.cams := rfl
@[simp] theorem State.raise_frames (s : State) (fn v : Nat) : (s.raise fn v).frames = s.frames := rfl
@[simp] theorem State.raise_cores (s : State) (fn v : Nat) : (s.raise fn v).cores = s.cores := rfl
@[simp] theorem State.raise_devPhase (s : State) (fn v : Nat) : (s.raise fn v).devPhase = s.devPhase := rfl
@[simp] theorem State.raise_devArrived (s : State) (fn v : Nat) : (s.raise fn v).devArrived = s.devArrived := rfl
@[simp] theorem State.raise_devMembers (s : State) (fn v : Nat) : (s.raise fn v).devMembers = s.devMembers := rfl
@[simp] theorem State.raise_hold (s : State) (fn v : Nat) : (s.raise fn v).hold = s.hold := rfl
@[simp] theorem State.raise_adapt (s : State) (fn v : Nat) : (s.raise fn v).adapt = s.adapt := rfl
@[simp] theorem State.raise_sec (s : State) (fn v : Nat) : (s.raise fn v).sec = s.sec := rfl
@[simp] theorem State.raise_boot (s : State) (fn v : Nat) : (s.raise fn v).boot = s.boot := rfl
@[simp] theorem State.raise_groups (s : State) (fn v : Nat) : (s.raise fn v).groups = s.groups := rfl
@[simp] theorem State.raise_fns (s : State) (fn v : Nat) : (s.raise fn v).fns = s.fns := rfl
@[simp] theorem State.raise_rrFn (s : State) (fn v : Nat) : (s.raise fn v).rrFn = s.rrFn := rfl
@[simp] theorem State.raise_sfl (s : State) (fn v : Nat) : (s.raise fn v).sfl = s.sfl := rfl
@[simp] theorem State.raise_chn (s : State) (fn v : Nat) : (s.raise fn v).chn = s.chn := rfl
@[simp] theorem State.raise_log (s : State) (fn v : Nat) : (s.raise fn v).log = s.log := rfl
@[simp] theorem State.raise_fatal (s : State) (fn v : Nat) : (s.raise fn v).fatal = s.fatal := rfl
@[simp] theorem State.raise_mem (s : State) (fn v : Nat) : (s.raise fn v).mem = s.mem := rfl
@[simp] theorem State.raise_free (s : State) (fn v : Nat) : (s.raise fn v).free = s.free := rfl
@[simp] theorem State.raise_pending (s : State) (fn v : Nat) : (s.raise fn v).pending = s.pending := rfl
@[simp] theorem State.raise_reg (s : State) (fn v : Nat) (r' : RegName) (i' : Nat) : (s.raise fn v).reg r' i' = s.reg r' i' := rfl
@[simp] theorem State.raise_regN (s : State) (fn v : Nat) (r' : RegName) (i' : Nat) : (s.raise fn v).regN r' i' = s.regN r' i' := rfl
@[simp] theorem State.raise_fld (s : State) (fn v : Nat) (f' : Fld) (i' : Nat) : (s.raise fn v).fld f' i' = s.fld f' i' := rfl
@[simp] theorem State.raise_flag (s : State) (fn v : Nat) (f' : Fld) (i' : Nat) : (s.raise fn v).flag f' i' = s.flag f' i' := rfl
@[simp] theorem State.raise_pair (s : State) (fn v : Nat) (lo' hi' : RegName) (i' : Nat) : (s.raise fn v).pair lo' hi' i' = s.pair lo' hi' i' := rfl
@[simp] theorem State.raise_port (s : State) (fn v : Nat) (p' : Nat) : (s.raise fn v).port p' = s.port p' := rfl
@[simp] theorem State.raise_cam (s : State) (fn v : Nat) (n' : Nat) : (s.raise fn v).cam n' = s.cam n' := rfl
@[simp] theorem State.raise_frame (s : State) (fn v : Nat) (n' q' : Nat) : (s.raise fn v).frame n' q' = s.frame n' q' := rfl
@[simp] theorem State.raise_fn (s : State) (fn v : Nat) (f' : Nat) : (s.raise fn v).fn f' = s.fn f' := rfl
@[simp] theorem State.raise_queue (s : State) (fn v : Nat) (f' q' : Nat) : (s.raise fn v).queue f' q' = s.queue f' q' := rfl
@[simp] theorem State.raise_core (s : State) (fn v : Nat) (i' : Nat) : (s.raise fn v).core i' = s.core i' := rfl
@[simp] theorem State.raise_group (s : State) (fn v : Nat) (g' : Nat) : (s.raise fn v).group g' = s.group g' := rfl
@[simp] theorem State.raise_now (s : State) (fn v : Nat) : (s.raise fn v).now = s.now := rfl

/-! ### spend -/

@[simp] theorem State.spend_regs (s : State) (n : Nat) : (s.spend n).regs = s.regs := rfl
@[simp] theorem State.spend_rdShadow (s : State) (n : Nat) : (s.spend n).rdShadow = s.rdShadow := rfl
@[simp] theorem State.spend_wrShadow (s : State) (n : Nat) : (s.spend n).wrShadow = s.wrShadow := rfl
@[simp] theorem State.spend_time (s : State) (n : Nat) : (s.spend n).time = s.time := rfl
@[simp] theorem State.spend_ports (s : State) (n : Nat) : (s.spend n).ports = s.ports := rfl
@[simp] theorem State.spend_tx (s : State) (n : Nat) : (s.spend n).tx = s.tx := rfl
@[simp] theorem State.spend_cams (s : State) (n : Nat) : (s.spend n).cams = s.cams := rfl
@[simp] theorem State.spend_frames (s : State) (n : Nat) : (s.spend n).frames = s.frames := rfl
@[simp] theorem State.spend_cores (s : State) (n : Nat) : (s.spend n).cores = s.cores := rfl
@[simp] theorem State.spend_devPhase (s : State) (n : Nat) : (s.spend n).devPhase = s.devPhase := rfl
@[simp] theorem State.spend_devArrived (s : State) (n : Nat) : (s.spend n).devArrived = s.devArrived := rfl
@[simp] theorem State.spend_devMembers (s : State) (n : Nat) : (s.spend n).devMembers = s.devMembers := rfl
@[simp] theorem State.spend_hold (s : State) (n : Nat) : (s.spend n).hold = s.hold := rfl
@[simp] theorem State.spend_adapt (s : State) (n : Nat) : (s.spend n).adapt = s.adapt := rfl
@[simp] theorem State.spend_sec (s : State) (n : Nat) : (s.spend n).sec = s.sec := rfl
@[simp] theorem State.spend_boot (s : State) (n : Nat) : (s.spend n).boot = s.boot := rfl
@[simp] theorem State.spend_groups (s : State) (n : Nat) : (s.spend n).groups = s.groups := rfl
@[simp] theorem State.spend_fns (s : State) (n : Nat) : (s.spend n).fns = s.fns := rfl
@[simp] theorem State.spend_rrFn (s : State) (n : Nat) : (s.spend n).rrFn = s.rrFn := rfl
@[simp] theorem State.spend_sfl (s : State) (n : Nat) : (s.spend n).sfl = s.sfl := rfl
@[simp] theorem State.spend_chn (s : State) (n : Nat) : (s.spend n).chn = s.chn := rfl
@[simp] theorem State.spend_log (s : State) (n : Nat) : (s.spend n).log = s.log := rfl
@[simp] theorem State.spend_fatal (s : State) (n : Nat) : (s.spend n).fatal = s.fatal := rfl
@[simp] theorem State.spend_mem (s : State) (n : Nat) : (s.spend n).mem = s.mem := rfl
@[simp] theorem State.spend_out (s : State) (n : Nat) : (s.spend n).out = s.out := rfl
@[simp] theorem State.spend_free (s : State) (n : Nat) : (s.spend n).free = s.free + n := rfl
@[simp] theorem State.spend_pending (s : State) (n : Nat) : (s.spend n).pending = s.pending := rfl
@[simp] theorem State.spend_reg (s : State) (n : Nat) (r' : RegName) (i' : Nat) : (s.spend n).reg r' i' = s.reg r' i' := rfl
@[simp] theorem State.spend_regN (s : State) (n : Nat) (r' : RegName) (i' : Nat) : (s.spend n).regN r' i' = s.regN r' i' := rfl
@[simp] theorem State.spend_fld (s : State) (n : Nat) (f' : Fld) (i' : Nat) : (s.spend n).fld f' i' = s.fld f' i' := rfl
@[simp] theorem State.spend_flag (s : State) (n : Nat) (f' : Fld) (i' : Nat) : (s.spend n).flag f' i' = s.flag f' i' := rfl
@[simp] theorem State.spend_pair (s : State) (n : Nat) (lo' hi' : RegName) (i' : Nat) : (s.spend n).pair lo' hi' i' = s.pair lo' hi' i' := rfl
@[simp] theorem State.spend_port (s : State) (n : Nat) (p' : Nat) : (s.spend n).port p' = s.port p' := rfl
@[simp] theorem State.spend_cam (s : State) (n : Nat) (n' : Nat) : (s.spend n).cam n' = s.cam n' := rfl
@[simp] theorem State.spend_frame (s : State) (n : Nat) (n' q' : Nat) : (s.spend n).frame n' q' = s.frame n' q' := rfl
@[simp] theorem State.spend_fn (s : State) (n : Nat) (f' : Nat) : (s.spend n).fn f' = s.fn f' := rfl
@[simp] theorem State.spend_queue (s : State) (n : Nat) (f' q' : Nat) : (s.spend n).queue f' q' = s.queue f' q' := rfl
@[simp] theorem State.spend_core (s : State) (n : Nat) (i' : Nat) : (s.spend n).core i' = s.core i' := rfl
@[simp] theorem State.spend_group (s : State) (n : Nat) (g' : Nat) : (s.spend n).group g' = s.group g' := rfl
@[simp] theorem State.spend_now (s : State) (n : Nat) : (s.spend n).now = s.now := rfl

/-! ### obsAdd -/

@[simp] theorem State.obsAdd_regs (s : State) (i n : Nat) : (s.obsAdd i n).regs = s.regs := rfl
@[simp] theorem State.obsAdd_rdShadow (s : State) (i n : Nat) : (s.obsAdd i n).rdShadow = s.rdShadow := rfl
@[simp] theorem State.obsAdd_wrShadow (s : State) (i n : Nat) : (s.obsAdd i n).wrShadow = s.wrShadow := rfl
@[simp] theorem State.obsAdd_time (s : State) (i n : Nat) : (s.obsAdd i n).time = s.time := rfl
@[simp] theorem State.obsAdd_ports (s : State) (i n : Nat) : (s.obsAdd i n).ports = s.ports := rfl
@[simp] theorem State.obsAdd_tx (s : State) (i n : Nat) : (s.obsAdd i n).tx = s.tx := rfl
@[simp] theorem State.obsAdd_cams (s : State) (i n : Nat) : (s.obsAdd i n).cams = s.cams := rfl
@[simp] theorem State.obsAdd_frames (s : State) (i n : Nat) : (s.obsAdd i n).frames = s.frames := rfl
@[simp] theorem State.obsAdd_cores (s : State) (i n : Nat) : (s.obsAdd i n).cores = s.cores := rfl
@[simp] theorem State.obsAdd_devPhase (s : State) (i n : Nat) : (s.obsAdd i n).devPhase = s.devPhase := rfl
@[simp] theorem State.obsAdd_devArrived (s : State) (i n : Nat) : (s.obsAdd i n).devArrived = s.devArrived := rfl
@[simp] theorem State.obsAdd_devMembers (s : State) (i n : Nat) : (s.obsAdd i n).devMembers = s.devMembers := rfl
@[simp] theorem State.obsAdd_hold (s : State) (i n : Nat) : (s.obsAdd i n).hold = s.hold := rfl
@[simp] theorem State.obsAdd_adapt (s : State) (i n : Nat) : (s.obsAdd i n).adapt = s.adapt := rfl
@[simp] theorem State.obsAdd_sec (s : State) (i n : Nat) : (s.obsAdd i n).sec = s.sec := rfl
@[simp] theorem State.obsAdd_boot (s : State) (i n : Nat) : (s.obsAdd i n).boot = s.boot := rfl
@[simp] theorem State.obsAdd_groups (s : State) (i n : Nat) : (s.obsAdd i n).groups = s.groups := rfl
@[simp] theorem State.obsAdd_fns (s : State) (i n : Nat) : (s.obsAdd i n).fns = s.fns := rfl
@[simp] theorem State.obsAdd_rrFn (s : State) (i n : Nat) : (s.obsAdd i n).rrFn = s.rrFn := rfl
@[simp] theorem State.obsAdd_sfl (s : State) (i n : Nat) : (s.obsAdd i n).sfl = s.sfl := rfl
@[simp] theorem State.obsAdd_chn (s : State) (i n : Nat) : (s.obsAdd i n).chn = s.chn := rfl
@[simp] theorem State.obsAdd_fatal (s : State) (i n : Nat) : (s.obsAdd i n).fatal = s.fatal := rfl
@[simp] theorem State.obsAdd_mem (s : State) (i n : Nat) : (s.obsAdd i n).mem = s.mem := rfl
@[simp] theorem State.obsAdd_out (s : State) (i n : Nat) : (s.obsAdd i n).out = s.out := rfl
@[simp] theorem State.obsAdd_free (s : State) (i n : Nat) : (s.obsAdd i n).free = s.free := rfl
@[simp] theorem State.obsAdd_pending (s : State) (i n : Nat) : (s.obsAdd i n).pending = s.pending := rfl
@[simp] theorem State.obsAdd_reg (s : State) (i n : Nat) (r' : RegName) (i' : Nat) : (s.obsAdd i n).reg r' i' = s.reg r' i' := rfl
@[simp] theorem State.obsAdd_regN (s : State) (i n : Nat) (r' : RegName) (i' : Nat) : (s.obsAdd i n).regN r' i' = s.regN r' i' := rfl
@[simp] theorem State.obsAdd_fld (s : State) (i n : Nat) (f' : Fld) (i' : Nat) : (s.obsAdd i n).fld f' i' = s.fld f' i' := rfl
@[simp] theorem State.obsAdd_flag (s : State) (i n : Nat) (f' : Fld) (i' : Nat) : (s.obsAdd i n).flag f' i' = s.flag f' i' := rfl
@[simp] theorem State.obsAdd_pair (s : State) (i n : Nat) (lo' hi' : RegName) (i' : Nat) : (s.obsAdd i n).pair lo' hi' i' = s.pair lo' hi' i' := rfl
@[simp] theorem State.obsAdd_port (s : State) (i n : Nat) (p' : Nat) : (s.obsAdd i n).port p' = s.port p' := rfl
@[simp] theorem State.obsAdd_cam (s : State) (i n : Nat) (n' : Nat) : (s.obsAdd i n).cam n' = s.cam n' := rfl
@[simp] theorem State.obsAdd_frame (s : State) (i n : Nat) (n' q' : Nat) : (s.obsAdd i n).frame n' q' = s.frame n' q' := rfl
@[simp] theorem State.obsAdd_fn (s : State) (i n : Nat) (f' : Nat) : (s.obsAdd i n).fn f' = s.fn f' := rfl
@[simp] theorem State.obsAdd_queue (s : State) (i n : Nat) (f' q' : Nat) : (s.obsAdd i n).queue f' q' = s.queue f' q' := rfl
@[simp] theorem State.obsAdd_core (s : State) (i n : Nat) (i' : Nat) : (s.obsAdd i n).core i' = s.core i' := rfl
@[simp] theorem State.obsAdd_group (s : State) (i n : Nat) (g' : Nat) : (s.obsAdd i n).group g' = s.group g' := rfl
@[simp] theorem State.obsAdd_now (s : State) (i n : Nat) : (s.obsAdd i n).now = s.now := rfl

/-! ### queueBlock -/

@[simp] theorem State.queueBlock_regs (s : State) (p prio typ payload : Nat) : (s.queueBlock p prio typ payload).regs = s.regs := rfl
@[simp] theorem State.queueBlock_rdShadow (s : State) (p prio typ payload : Nat) : (s.queueBlock p prio typ payload).rdShadow = s.rdShadow := rfl
@[simp] theorem State.queueBlock_wrShadow (s : State) (p prio typ payload : Nat) : (s.queueBlock p prio typ payload).wrShadow = s.wrShadow := rfl
@[simp] theorem State.queueBlock_time (s : State) (p prio typ payload : Nat) : (s.queueBlock p prio typ payload).time = s.time := rfl
@[simp] theorem State.queueBlock_ports (s : State) (p prio typ payload : Nat) : (s.queueBlock p prio typ payload).ports = s.ports := rfl
@[simp] theorem State.queueBlock_cams (s : State) (p prio typ payload : Nat) : (s.queueBlock p prio typ payload).cams = s.cams := rfl
@[simp] theorem State.queueBlock_frames (s : State) (p prio typ payload : Nat) : (s.queueBlock p prio typ payload).frames = s.frames := rfl
@[simp] theorem State.queueBlock_cores (s : State) (p prio typ payload : Nat) : (s.queueBlock p prio typ payload).cores = s.cores := rfl
@[simp] theorem State.queueBlock_devPhase (s : State) (p prio typ payload : Nat) : (s.queueBlock p prio typ payload).devPhase = s.devPhase := rfl
@[simp] theorem State.queueBlock_devArrived (s : State) (p prio typ payload : Nat) : (s.queueBlock p prio typ payload).devArrived = s.devArrived := rfl
@[simp] theorem State.queueBlock_devMembers (s : State) (p prio typ payload : Nat) : (s.queueBlock p prio typ payload).devMembers = s.devMembers := rfl
@[simp] theorem State.queueBlock_hold (s : State) (p prio typ payload : Nat) : (s.queueBlock p prio typ payload).hold = s.hold := rfl
@[simp] theorem State.queueBlock_adapt (s : State) (p prio typ payload : Nat) : (s.queueBlock p prio typ payload).adapt = s.adapt := rfl
@[simp] theorem State.queueBlock_sec (s : State) (p prio typ payload : Nat) : (s.queueBlock p prio typ payload).sec = s.sec := rfl
@[simp] theorem State.queueBlock_boot (s : State) (p prio typ payload : Nat) : (s.queueBlock p prio typ payload).boot = s.boot := rfl
@[simp] theorem State.queueBlock_groups (s : State) (p prio typ payload : Nat) : (s.queueBlock p prio typ payload).groups = s.groups := rfl
@[simp] theorem State.queueBlock_fns (s : State) (p prio typ payload : Nat) : (s.queueBlock p prio typ payload).fns = s.fns := rfl
@[simp] theorem State.queueBlock_rrFn (s : State) (p prio typ payload : Nat) : (s.queueBlock p prio typ payload).rrFn = s.rrFn := rfl
@[simp] theorem State.queueBlock_sfl (s : State) (p prio typ payload : Nat) : (s.queueBlock p prio typ payload).sfl = s.sfl := rfl
@[simp] theorem State.queueBlock_chn (s : State) (p prio typ payload : Nat) : (s.queueBlock p prio typ payload).chn = s.chn := rfl
@[simp] theorem State.queueBlock_log (s : State) (p prio typ payload : Nat) : (s.queueBlock p prio typ payload).log = s.log := rfl
@[simp] theorem State.queueBlock_fatal (s : State) (p prio typ payload : Nat) : (s.queueBlock p prio typ payload).fatal = s.fatal := rfl
@[simp] theorem State.queueBlock_mem (s : State) (p prio typ payload : Nat) : (s.queueBlock p prio typ payload).mem = s.mem := rfl
@[simp] theorem State.queueBlock_out (s : State) (p prio typ payload : Nat) : (s.queueBlock p prio typ payload).out = s.out := rfl
@[simp] theorem State.queueBlock_free (s : State) (p prio typ payload : Nat) : (s.queueBlock p prio typ payload).free = s.free := rfl
@[simp] theorem State.queueBlock_pending (s : State) (p prio typ payload : Nat) : (s.queueBlock p prio typ payload).pending = s.pending := rfl
@[simp] theorem State.queueBlock_reg (s : State) (p prio typ payload : Nat) (r' : RegName) (i' : Nat) : (s.queueBlock p prio typ payload).reg r' i' = s.reg r' i' := rfl
@[simp] theorem State.queueBlock_regN (s : State) (p prio typ payload : Nat) (r' : RegName) (i' : Nat) : (s.queueBlock p prio typ payload).regN r' i' = s.regN r' i' := rfl
@[simp] theorem State.queueBlock_fld (s : State) (p prio typ payload : Nat) (f' : Fld) (i' : Nat) : (s.queueBlock p prio typ payload).fld f' i' = s.fld f' i' := rfl
@[simp] theorem State.queueBlock_flag (s : State) (p prio typ payload : Nat) (f' : Fld) (i' : Nat) : (s.queueBlock p prio typ payload).flag f' i' = s.flag f' i' := rfl
@[simp] theorem State.queueBlock_pair (s : State) (p prio typ payload : Nat) (lo' hi' : RegName) (i' : Nat) : (s.queueBlock p prio typ payload).pair lo' hi' i' = s.pair lo' hi' i' := rfl
@[simp] theorem State.queueBlock_port (s : State) (p prio typ payload : Nat) (p' : Nat) : (s.queueBlock p prio typ payload).port p' = s.port p' := rfl
@[simp] theorem State.queueBlock_cam (s : State) (p prio typ payload : Nat) (n' : Nat) : (s.queueBlock p prio typ payload).cam n' = s.cam n' := rfl
@[simp] theorem State.queueBlock_frame (s : State) (p prio typ payload : Nat) (n' q' : Nat) : (s.queueBlock p prio typ payload).frame n' q' = s.frame n' q' := rfl
@[simp] theorem State.queueBlock_fn (s : State) (p prio typ payload : Nat) (f' : Nat) : (s.queueBlock p prio typ payload).fn f' = s.fn f' := rfl
@[simp] theorem State.queueBlock_queue (s : State) (p prio typ payload : Nat) (f' q' : Nat) : (s.queueBlock p prio typ payload).queue f' q' = s.queue f' q' := rfl
@[simp] theorem State.queueBlock_core (s : State) (p prio typ payload : Nat) (i' : Nat) : (s.queueBlock p prio typ payload).core i' = s.core i' := rfl
@[simp] theorem State.queueBlock_group (s : State) (p prio typ payload : Nat) (g' : Nat) : (s.queueBlock p prio typ payload).group g' = s.group g' := rfl
@[simp] theorem State.queueBlock_now (s : State) (p prio typ payload : Nat) : (s.queueBlock p prio typ payload).now = s.now := rfl

/-! ### memPut -/

@[simp] theorem State.memPut_regs (s : State) (a : Nat) (bs : List Byte) : (s.memPut a bs).regs = s.regs := rfl
@[simp] theorem State.memPut_rdShadow (s : State) (a : Nat) (bs : List Byte) : (s.memPut a bs).rdShadow = s.rdShadow := rfl
@[simp] theorem State.memPut_wrShadow (s : State) (a : Nat) (bs : List Byte) : (s.memPut a bs).wrShadow = s.wrShadow := rfl
@[simp] theorem State.memPut_time (s : State) (a : Nat) (bs : List Byte) : (s.memPut a bs).time = s.time := rfl
@[simp] theorem State.memPut_ports (s : State) (a : Nat) (bs : List Byte) : (s.memPut a bs).ports = s.ports := rfl
@[simp] theorem State.memPut_tx (s : State) (a : Nat) (bs : List Byte) : (s.memPut a bs).tx = s.tx := rfl
@[simp] theorem State.memPut_cams (s : State) (a : Nat) (bs : List Byte) : (s.memPut a bs).cams = s.cams := rfl
@[simp] theorem State.memPut_frames (s : State) (a : Nat) (bs : List Byte) : (s.memPut a bs).frames = s.frames := rfl
@[simp] theorem State.memPut_cores (s : State) (a : Nat) (bs : List Byte) : (s.memPut a bs).cores = s.cores := rfl
@[simp] theorem State.memPut_devPhase (s : State) (a : Nat) (bs : List Byte) : (s.memPut a bs).devPhase = s.devPhase := rfl
@[simp] theorem State.memPut_devArrived (s : State) (a : Nat) (bs : List Byte) : (s.memPut a bs).devArrived = s.devArrived := rfl
@[simp] theorem State.memPut_devMembers (s : State) (a : Nat) (bs : List Byte) : (s.memPut a bs).devMembers = s.devMembers := rfl
@[simp] theorem State.memPut_hold (s : State) (a : Nat) (bs : List Byte) : (s.memPut a bs).hold = s.hold := rfl
@[simp] theorem State.memPut_adapt (s : State) (a : Nat) (bs : List Byte) : (s.memPut a bs).adapt = s.adapt := rfl
@[simp] theorem State.memPut_sec (s : State) (a : Nat) (bs : List Byte) : (s.memPut a bs).sec = s.sec := rfl
@[simp] theorem State.memPut_boot (s : State) (a : Nat) (bs : List Byte) : (s.memPut a bs).boot = s.boot := rfl
@[simp] theorem State.memPut_groups (s : State) (a : Nat) (bs : List Byte) : (s.memPut a bs).groups = s.groups := rfl
@[simp] theorem State.memPut_fns (s : State) (a : Nat) (bs : List Byte) : (s.memPut a bs).fns = s.fns := rfl
@[simp] theorem State.memPut_rrFn (s : State) (a : Nat) (bs : List Byte) : (s.memPut a bs).rrFn = s.rrFn := rfl
@[simp] theorem State.memPut_sfl (s : State) (a : Nat) (bs : List Byte) : (s.memPut a bs).sfl = s.sfl := rfl
@[simp] theorem State.memPut_chn (s : State) (a : Nat) (bs : List Byte) : (s.memPut a bs).chn = s.chn := rfl
@[simp] theorem State.memPut_log (s : State) (a : Nat) (bs : List Byte) : (s.memPut a bs).log = s.log := rfl
@[simp] theorem State.memPut_fatal (s : State) (a : Nat) (bs : List Byte) : (s.memPut a bs).fatal = s.fatal := rfl
@[simp] theorem State.memPut_mem (s : State) (a : Nat) (bs : List Byte) : (s.memPut a bs).mem = memWrites s.mem a bs := rfl
@[simp] theorem State.memPut_out (s : State) (a : Nat) (bs : List Byte) : (s.memPut a bs).out = s.out := rfl
@[simp] theorem State.memPut_free (s : State) (a : Nat) (bs : List Byte) : (s.memPut a bs).free = s.free := rfl
@[simp] theorem State.memPut_pending (s : State) (a : Nat) (bs : List Byte) : (s.memPut a bs).pending = s.pending := rfl
@[simp] theorem State.memPut_reg (s : State) (a : Nat) (bs : List Byte) (r' : RegName) (i' : Nat) : (s.memPut a bs).reg r' i' = s.reg r' i' := rfl
@[simp] theorem State.memPut_regN (s : State) (a : Nat) (bs : List Byte) (r' : RegName) (i' : Nat) : (s.memPut a bs).regN r' i' = s.regN r' i' := rfl
@[simp] theorem State.memPut_fld (s : State) (a : Nat) (bs : List Byte) (f' : Fld) (i' : Nat) : (s.memPut a bs).fld f' i' = s.fld f' i' := rfl
@[simp] theorem State.memPut_flag (s : State) (a : Nat) (bs : List Byte) (f' : Fld) (i' : Nat) : (s.memPut a bs).flag f' i' = s.flag f' i' := rfl
@[simp] theorem State.memPut_pair (s : State) (a : Nat) (bs : List Byte) (lo' hi' : RegName) (i' : Nat) : (s.memPut a bs).pair lo' hi' i' = s.pair lo' hi' i' := rfl
@[simp] theorem State.memPut_port (s : State) (a : Nat) (bs : List Byte) (p' : Nat) : (s.memPut a bs).port p' = s.port p' := rfl
@[simp] theorem State.memPut_cam (s : State) (a : Nat) (bs : List Byte) (n' : Nat) : (s.memPut a bs).cam n' = s.cam n' := rfl
@[simp] theorem State.memPut_frame (s : State) (a : Nat) (bs : List Byte) (n' q' : Nat) : (s.memPut a bs).frame n' q' = s.frame n' q' := rfl
@[simp] theorem State.memPut_fn (s : State) (a : Nat) (bs : List Byte) (f' : Nat) : (s.memPut a bs).fn f' = s.fn f' := rfl
@[simp] theorem State.memPut_queue (s : State) (a : Nat) (bs : List Byte) (f' q' : Nat) : (s.memPut a bs).queue f' q' = s.queue f' q' := rfl
@[simp] theorem State.memPut_core (s : State) (a : Nat) (bs : List Byte) (i' : Nat) : (s.memPut a bs).core i' = s.core i' := rfl
@[simp] theorem State.memPut_group (s : State) (a : Nat) (bs : List Byte) (g' : Nat) : (s.memPut a bs).group g' = s.group g' := rfl
@[simp] theorem State.memPut_now (s : State) (a : Nat) (bs : List Byte) : (s.memPut a bs).now = s.now := rfl

/-! ### memZero -/

@[simp] theorem State.memZero_regs (s : State) : (s.memZero).regs = s.regs := rfl
@[simp] theorem State.memZero_rdShadow (s : State) : (s.memZero).rdShadow = s.rdShadow := rfl
@[simp] theorem State.memZero_wrShadow (s : State) : (s.memZero).wrShadow = s.wrShadow := rfl
@[simp] theorem State.memZero_time (s : State) : (s.memZero).time = s.time := rfl
@[simp] theorem State.memZero_ports (s : State) : (s.memZero).ports = s.ports := rfl
@[simp] theorem State.memZero_tx (s : State) : (s.memZero).tx = s.tx := rfl
@[simp] theorem State.memZero_cams (s : State) : (s.memZero).cams = s.cams := rfl
@[simp] theorem State.memZero_frames (s : State) : (s.memZero).frames = s.frames := rfl
@[simp] theorem State.memZero_cores (s : State) : (s.memZero).cores = s.cores := rfl
@[simp] theorem State.memZero_devPhase (s : State) : (s.memZero).devPhase = s.devPhase := rfl
@[simp] theorem State.memZero_devArrived (s : State) : (s.memZero).devArrived = s.devArrived := rfl
@[simp] theorem State.memZero_devMembers (s : State) : (s.memZero).devMembers = s.devMembers := rfl
@[simp] theorem State.memZero_hold (s : State) : (s.memZero).hold = s.hold := rfl
@[simp] theorem State.memZero_adapt (s : State) : (s.memZero).adapt = s.adapt := rfl
@[simp] theorem State.memZero_sec (s : State) : (s.memZero).sec = s.sec := rfl
@[simp] theorem State.memZero_boot (s : State) : (s.memZero).boot = s.boot := rfl
@[simp] theorem State.memZero_groups (s : State) : (s.memZero).groups = s.groups := rfl
@[simp] theorem State.memZero_fns (s : State) : (s.memZero).fns = s.fns := rfl
@[simp] theorem State.memZero_rrFn (s : State) : (s.memZero).rrFn = s.rrFn := rfl
@[simp] theorem State.memZero_sfl (s : State) : (s.memZero).sfl = s.sfl := rfl
@[simp] theorem State.memZero_chn (s : State) : (s.memZero).chn = s.chn := rfl
@[simp] theorem State.memZero_log (s : State) : (s.memZero).log = s.log := rfl
@[simp] theorem State.memZero_fatal (s : State) : (s.memZero).fatal = s.fatal := rfl
@[simp] theorem State.memZero_mem (s : State) : (s.memZero).mem = [] := rfl
@[simp] theorem State.memZero_out (s : State) : (s.memZero).out = s.out := rfl
@[simp] theorem State.memZero_free (s : State) : (s.memZero).free = s.free := rfl
@[simp] theorem State.memZero_pending (s : State) : (s.memZero).pending = s.pending := rfl
@[simp] theorem State.memZero_reg (s : State) (r' : RegName) (i' : Nat) : (s.memZero).reg r' i' = s.reg r' i' := rfl
@[simp] theorem State.memZero_regN (s : State) (r' : RegName) (i' : Nat) : (s.memZero).regN r' i' = s.regN r' i' := rfl
@[simp] theorem State.memZero_fld (s : State) (f' : Fld) (i' : Nat) : (s.memZero).fld f' i' = s.fld f' i' := rfl
@[simp] theorem State.memZero_flag (s : State) (f' : Fld) (i' : Nat) : (s.memZero).flag f' i' = s.flag f' i' := rfl
@[simp] theorem State.memZero_pair (s : State) (lo' hi' : RegName) (i' : Nat) : (s.memZero).pair lo' hi' i' = s.pair lo' hi' i' := rfl
@[simp] theorem State.memZero_port (s : State) (p' : Nat) : (s.memZero).port p' = s.port p' := rfl
@[simp] theorem State.memZero_cam (s : State) (n' : Nat) : (s.memZero).cam n' = s.cam n' := rfl
@[simp] theorem State.memZero_frame (s : State) (n' q' : Nat) : (s.memZero).frame n' q' = s.frame n' q' := rfl
@[simp] theorem State.memZero_fn (s : State) (f' : Nat) : (s.memZero).fn f' = s.fn f' := rfl
@[simp] theorem State.memZero_queue (s : State) (f' q' : Nat) : (s.memZero).queue f' q' = s.queue f' q' := rfl
@[simp] theorem State.memZero_core (s : State) (i' : Nat) : (s.memZero).core i' = s.core i' := rfl
@[simp] theorem State.memZero_group (s : State) (g' : Nat) : (s.memZero).group g' = s.group g' := rfl
@[simp] theorem State.memZero_now (s : State) : (s.memZero).now = s.now := rfl

/-! ### memClear -/

@[simp] theorem State.memClear_regs (s : State) (a n : Nat) : (s.memClear a n).regs = s.regs := rfl
@[simp] theorem State.memClear_rdShadow (s : State) (a n : Nat) : (s.memClear a n).rdShadow = s.rdShadow := rfl
@[simp] theorem State.memClear_wrShadow (s : State) (a n : Nat) : (s.memClear a n).wrShadow = s.wrShadow := rfl
@[simp] theorem State.memClear_time (s : State) (a n : Nat) : (s.memClear a n).time = s.time := rfl
@[simp] theorem State.memClear_ports (s : State) (a n : Nat) : (s.memClear a n).ports = s.ports := rfl
@[simp] theorem State.memClear_tx (s : State) (a n : Nat) : (s.memClear a n).tx = s.tx := rfl
@[simp] theorem State.memClear_cams (s : State) (a n : Nat) : (s.memClear a n).cams = s.cams := rfl
@[simp] theorem State.memClear_frames (s : State) (a n : Nat) : (s.memClear a n).frames = s.frames := rfl
@[simp] theorem State.memClear_cores (s : State) (a n : Nat) : (s.memClear a n).cores = s.cores := rfl
@[simp] theorem State.memClear_devPhase (s : State) (a n : Nat) : (s.memClear a n).devPhase = s.devPhase := rfl
@[simp] theorem State.memClear_devArrived (s : State) (a n : Nat) : (s.memClear a n).devArrived = s.devArrived := rfl
@[simp] theorem State.memClear_devMembers (s : State) (a n : Nat) : (s.memClear a n).devMembers = s.devMembers := rfl
@[simp] theorem State.memClear_hold (s : State) (a n : Nat) : (s.memClear a n).hold = s.hold := rfl
@[simp] theorem State.memClear_adapt (s : State) (a n : Nat) : (s.memClear a n).adapt = s.adapt := rfl
@[simp] theorem State.memClear_sec (s : State) (a n : Nat) : (s.memClear a n).sec = s.sec := rfl
@[simp] theorem State.memClear_boot (s : State) (a n : Nat) : (s.memClear a n).boot = s.boot := rfl
@[simp] theorem State.memClear_groups (s : State) (a n : Nat) : (s.memClear a n).groups = s.groups := rfl
@[simp] theorem State.memClear_fns (s : State) (a n : Nat) : (s.memClear a n).fns = s.fns := rfl
@[simp] theorem State.memClear_rrFn (s : State) (a n : Nat) : (s.memClear a n).rrFn = s.rrFn := rfl
@[simp] theorem State.memClear_sfl (s : State) (a n : Nat) : (s.memClear a n).sfl = s.sfl := rfl
@[simp] theorem State.memClear_chn (s : State) (a n : Nat) : (s.memClear a n).chn = s.chn := rfl
@[simp] theorem State.memClear_log (s : State) (a n : Nat) : (s.memClear a n).log = s.log := rfl
@[simp] theorem State.memClear_fatal (s : State) (a n : Nat) : (s.memClear a n).fatal = s.fatal := rfl
@[simp] theorem State.memClear_out (s : State) (a n : Nat) : (s.memClear a n).out = s.out := rfl
@[simp] theorem State.memClear_free (s : State) (a n : Nat) : (s.memClear a n).free = s.free := rfl
@[simp] theorem State.memClear_pending (s : State) (a n : Nat) : (s.memClear a n).pending = s.pending := rfl
@[simp] theorem State.memClear_reg (s : State) (a n : Nat) (r' : RegName) (i' : Nat) : (s.memClear a n).reg r' i' = s.reg r' i' := rfl
@[simp] theorem State.memClear_regN (s : State) (a n : Nat) (r' : RegName) (i' : Nat) : (s.memClear a n).regN r' i' = s.regN r' i' := rfl
@[simp] theorem State.memClear_fld (s : State) (a n : Nat) (f' : Fld) (i' : Nat) : (s.memClear a n).fld f' i' = s.fld f' i' := rfl
@[simp] theorem State.memClear_flag (s : State) (a n : Nat) (f' : Fld) (i' : Nat) : (s.memClear a n).flag f' i' = s.flag f' i' := rfl
@[simp] theorem State.memClear_pair (s : State) (a n : Nat) (lo' hi' : RegName) (i' : Nat) : (s.memClear a n).pair lo' hi' i' = s.pair lo' hi' i' := rfl
@[simp] theorem State.memClear_port (s : State) (a n : Nat) (p' : Nat) : (s.memClear a n).port p' = s.port p' := rfl
@[simp] theorem State.memClear_cam (s : State) (a n : Nat) (n' : Nat) : (s.memClear a n).cam n' = s.cam n' := rfl
@[simp] theorem State.memClear_frame (s : State) (a n : Nat) (n' q' : Nat) : (s.memClear a n).frame n' q' = s.frame n' q' := rfl
@[simp] theorem State.memClear_fn (s : State) (a n : Nat) (f' : Nat) : (s.memClear a n).fn f' = s.fn f' := rfl
@[simp] theorem State.memClear_queue (s : State) (a n : Nat) (f' q' : Nat) : (s.memClear a n).queue f' q' = s.queue f' q' := rfl
@[simp] theorem State.memClear_core (s : State) (a n : Nat) (i' : Nat) : (s.memClear a n).core i' = s.core i' := rfl
@[simp] theorem State.memClear_group (s : State) (a n : Nat) (g' : Nat) : (s.memClear a n).group g' = s.group g' := rfl
@[simp] theorem State.memClear_now (s : State) (a n : Nat) : (s.memClear a n).now = s.now := rfl

/-! ### setCore -/

@[simp] theorem State.setCore_regs (s : State) (i : Nat) (x : CoreS) : (s.setCore i x).regs = s.regs := rfl
@[simp] theorem State.setCore_rdShadow (s : State) (i : Nat) (x : CoreS) : (s.setCore i x).rdShadow = s.rdShadow := rfl
@[simp] theorem State.setCore_wrShadow (s : State) (i : Nat) (x : CoreS) : (s.setCore i x).wrShadow = s.wrShadow := rfl
@[simp] theorem State.setCore_time (s : State) (i : Nat) (x : CoreS) : (s.setCore i x).time = s.time := rfl
@[simp] theorem State.setCore_ports (s : State) (i : Nat) (x : CoreS) : (s.setCore i x).ports = s.ports := rfl
@[simp] theorem State.setCore_tx (s : State) (i : Nat) (x : CoreS) : (s.setCore i x).tx = s.tx := rfl
@[simp] theorem State.setCore_cams (s : State) (i : Nat) (x : CoreS) : (s.setCore i x).cams = s.cams := rfl
@[simp] theorem State.setCore_frames (s : State) (i : Nat) (x : CoreS) : (s.setCore i x).frames = s.frames := rfl
@[simp] theorem State.setCore_cores (s : State) (i : Nat) (x : CoreS) : (s.setCore i x).cores = s.cores.set i x := rfl
@[simp] theorem State.setCore_devPhase (s : State) (i : Nat) (x : CoreS) : (s.setCore i x).devPhase = s.devPhase := rfl
@[simp] theorem State.setCore_devArrived (s : State) (i : Nat) (x : CoreS) : (s.setCore i x).devArrived = s.devArrived := rfl
@[simp] theorem State.setCore_devMembers (s : State) (i : Nat) (x : CoreS) : (s.setCore i x).devMembers = s.devMembers := rfl
@[simp] theorem State.setCore_hold (s : State) (i : Nat) (x : CoreS) : (s.setCore i x).hold = s.hold := rfl
@[simp] theorem State.setCore_adapt (s : State) (i : Nat) (x : CoreS) : (s.setCore i x).adapt = s.adapt := rfl
@[simp] theorem State.setCore_sec (s : State) (i : Nat) (x : CoreS) : (s.setCore i x).sec = s.sec := rfl
@[simp] theorem State.setCore_boot (s : State) (i : Nat) (x : CoreS) : (s.setCore i x).boot = s.boot := rfl
@[simp] theorem State.setCore_groups (s : State) (i : Nat) (x : CoreS) : (s.setCore i x).groups = s.groups := rfl
@[simp] theorem State.setCore_fns (s : State) (i : Nat) (x : CoreS) : (s.setCore i x).fns = s.fns := rfl
@[simp] theorem State.setCore_rrFn (s : State) (i : Nat) (x : CoreS) : (s.setCore i x).rrFn = s.rrFn := rfl
@[simp] theorem State.setCore_sfl (s : State) (i : Nat) (x : CoreS) : (s.setCore i x).sfl = s.sfl := rfl
@[simp] theorem State.setCore_chn (s : State) (i : Nat) (x : CoreS) : (s.setCore i x).chn = s.chn := rfl
@[simp] theorem State.setCore_log (s : State) (i : Nat) (x : CoreS) : (s.setCore i x).log = s.log := rfl
@[simp] theorem State.setCore_fatal (s : State) (i : Nat) (x : CoreS) : (s.setCore i x).fatal = s.fatal := rfl
@[simp] theorem State.setCore_mem (s : State) (i : Nat) (x : CoreS) : (s.setCore i x).mem = s.mem := rfl
@[simp] theorem State.setCore_out (s : State) (i : Nat) (x : CoreS) : (s.setCore i x).out = s.out := rfl
@[simp] theorem State.setCore_free (s : State) (i : Nat) (x : CoreS) : (s.setCore i x).free = s.free := rfl
@[simp] theorem State.setCore_pending (s : State) (i : Nat) (x : CoreS) : (s.setCore i x).pending = s.pending := rfl
@[simp] theorem State.setCore_reg (s : State) (i : Nat) (x : CoreS) (r' : RegName) (i' : Nat) : (s.setCore i x).reg r' i' = s.reg r' i' := rfl
@[simp] theorem State.setCore_regN (s : State) (i : Nat) (x : CoreS) (r' : RegName) (i' : Nat) : (s.setCore i x).regN r' i' = s.regN r' i' := rfl
@[simp] theorem State.setCore_fld (s : State) (i : Nat) (x : CoreS) (f' : Fld) (i' : Nat) : (s.setCore i x).fld f' i' = s.fld f' i' := rfl
@[simp] theorem State.setCore_flag (s : State) (i : Nat) (x : CoreS) (f' : Fld) (i' : Nat) : (s.setCore i x).flag f' i' = s.flag f' i' := rfl
@[simp] theorem State.setCore_pair (s : State) (i : Nat) (x : CoreS) (lo' hi' : RegName) (i' : Nat) : (s.setCore i x).pair lo' hi' i' = s.pair lo' hi' i' := rfl
@[simp] theorem State.setCore_port (s : State) (i : Nat) (x : CoreS) (p' : Nat) : (s.setCore i x).port p' = s.port p' := rfl
@[simp] theorem State.setCore_cam (s : State) (i : Nat) (x : CoreS) (n' : Nat) : (s.setCore i x).cam n' = s.cam n' := rfl
@[simp] theorem State.setCore_frame (s : State) (i : Nat) (x : CoreS) (n' q' : Nat) : (s.setCore i x).frame n' q' = s.frame n' q' := rfl
@[simp] theorem State.setCore_fn (s : State) (i : Nat) (x : CoreS) (f' : Nat) : (s.setCore i x).fn f' = s.fn f' := rfl
@[simp] theorem State.setCore_queue (s : State) (i : Nat) (x : CoreS) (f' q' : Nat) : (s.setCore i x).queue f' q' = s.queue f' q' := rfl
@[simp] theorem State.setCore_group (s : State) (i : Nat) (x : CoreS) (g' : Nat) : (s.setCore i x).group g' = s.group g' := rfl
@[simp] theorem State.setCore_now (s : State) (i : Nat) (x : CoreS) : (s.setCore i x).now = s.now := rfl

/-! ### modCore -/

@[simp] theorem State.modCore_regs (s : State) (i : Nat) (f : CoreS → CoreS) : (s.modCore i f).regs = s.regs := rfl
@[simp] theorem State.modCore_rdShadow (s : State) (i : Nat) (f : CoreS → CoreS) : (s.modCore i f).rdShadow = s.rdShadow := rfl
@[simp] theorem State.modCore_wrShadow (s : State) (i : Nat) (f : CoreS → CoreS) : (s.modCore i f).wrShadow = s.wrShadow := rfl
@[simp] theorem State.modCore_time (s : State) (i : Nat) (f : CoreS → CoreS) : (s.modCore i f).time = s.time := rfl
@[simp] theorem State.modCore_ports (s : State) (i : Nat) (f : CoreS → CoreS) : (s.modCore i f).ports = s.ports := rfl
@[simp] theorem State.modCore_tx (s : State) (i : Nat) (f : CoreS → CoreS) : (s.modCore i f).tx = s.tx := rfl
@[simp] theorem State.modCore_cams (s : State) (i : Nat) (f : CoreS → CoreS) : (s.modCore i f).cams = s.cams := rfl
@[simp] theorem State.modCore_frames (s : State) (i : Nat) (f : CoreS → CoreS) : (s.modCore i f).frames = s.frames := rfl
@[simp] theorem State.modCore_cores (s : State) (i : Nat) (f : CoreS → CoreS) : (s.modCore i f).cores = s.cores.modify i f := rfl
@[simp] theorem State.modCore_devPhase (s : State) (i : Nat) (f : CoreS → CoreS) : (s.modCore i f).devPhase = s.devPhase := rfl
@[simp] theorem State.modCore_devArrived (s : State) (i : Nat) (f : CoreS → CoreS) : (s.modCore i f).devArrived = s.devArrived := rfl
@[simp] theorem State.modCore_devMembers (s : State) (i : Nat) (f : CoreS → CoreS) : (s.modCore i f).devMembers = s.devMembers := rfl
@[simp] theorem State.modCore_hold (s : State) (i : Nat) (f : CoreS → CoreS) : (s.modCore i f).hold = s.hold := rfl
@[simp] theorem State.modCore_adapt (s : State) (i : Nat) (f : CoreS → CoreS) : (s.modCore i f).adapt = s.adapt := rfl
@[simp] theorem State.modCore_sec (s : State) (i : Nat) (f : CoreS → CoreS) : (s.modCore i f).sec = s.sec := rfl
@[simp] theorem State.modCore_boot (s : State) (i : Nat) (f : CoreS → CoreS) : (s.modCore i f).boot = s.boot := rfl
@[simp] theorem State.modCore_groups (s : State) (i : Nat) (f : CoreS → CoreS) : (s.modCore i f).groups = s.groups := rfl
@[simp] theorem State.modCore_fns (s : State) (i : Nat) (f : CoreS → CoreS) : (s.modCore i f).fns = s.fns := rfl
@[simp] theorem State.modCore_rrFn (s : State) (i : Nat) (f : CoreS → CoreS) : (s.modCore i f).rrFn = s.rrFn := rfl
@[simp] theorem State.modCore_sfl (s : State) (i : Nat) (f : CoreS → CoreS) : (s.modCore i f).sfl = s.sfl := rfl
@[simp] theorem State.modCore_chn (s : State) (i : Nat) (f : CoreS → CoreS) : (s.modCore i f).chn = s.chn := rfl
@[simp] theorem State.modCore_log (s : State) (i : Nat) (f : CoreS → CoreS) : (s.modCore i f).log = s.log := rfl
@[simp] theorem State.modCore_fatal (s : State) (i : Nat) (f : CoreS → CoreS) : (s.modCore i f).fatal = s.fatal := rfl
@[simp] theorem State.modCore_mem (s : State) (i : Nat) (f : CoreS → CoreS) : (s.modCore i f).mem = s.mem := rfl
@[simp] theorem State.modCore_out (s : State) (i : Nat) (f : CoreS → CoreS) : (s.modCore i f).out = s.out := rfl
@[simp] theorem State.modCore_free (s : State) (i : Nat) (f : CoreS → CoreS) : (s.modCore i f).free = s.free := rfl
@[simp] theorem State.modCore_pending (s : State) (i : Nat) (f : CoreS → CoreS) : (s.modCore i f).pending = s.pending := rfl
@[simp] theorem State.modCore_reg (s : State) (i : Nat) (f : CoreS → CoreS) (r' : RegName) (i' : Nat) : (s.modCore i f).reg r' i' = s.reg r' i' := rfl
@[simp] theorem State.modCore_regN (s : State) (i : Nat) (f : CoreS → CoreS) (r' : RegName) (i' : Nat) : (s.modCore i f).regN r' i' = s.regN r' i' := rfl
@[simp] theorem State.modCore_fld (s : State) (i : Nat) (f : CoreS → CoreS) (f' : Fld) (i' : Nat) : (s.modCore i f).fld f' i' = s.fld f' i' := rfl
@[simp] theorem State.modCore_flag (s : State) (i : Nat) (f : CoreS → CoreS) (f' : Fld) (i' : Nat) : (s.modCore i f).flag f' i' = s.flag f' i' := rfl
@[simp] theorem State.modCore_pair (s : State) (i : Nat) (f : CoreS → CoreS) (lo' hi' : RegName) (i' : Nat) : (s.modCore i f).pair lo' hi' i' = s.pair lo' hi' i' := rfl
@[simp] theorem State.modCore_port (s : State) (i : Nat) (f : CoreS → CoreS) (p' : Nat) : (s.modCore i f).port p' = s.port p' := rfl
@[simp] theorem State.modCore_cam (s : State) (i : Nat) (f : CoreS → CoreS) (n' : Nat) : (s.modCore i f).cam n' = s.cam n' := rfl
@[simp] theorem State.modCore_frame (s : State) (i : Nat) (f : CoreS → CoreS) (n' q' : Nat) : (s.modCore i f).frame n' q' = s.frame n' q' := rfl
@[simp] theorem State.modCore_fn (s : State) (i : Nat) (f : CoreS → CoreS) (f' : Nat) : (s.modCore i f).fn f' = s.fn f' := rfl
@[simp] theorem State.modCore_queue (s : State) (i : Nat) (f : CoreS → CoreS) (f' q' : Nat) : (s.modCore i f).queue f' q' = s.queue f' q' := rfl
@[simp] theorem State.modCore_group (s : State) (i : Nat) (f : CoreS → CoreS) (g' : Nat) : (s.modCore i f).group g' = s.group g' := rfl
@[simp] theorem State.modCore_now (s : State) (i : Nat) (f : CoreS → CoreS) : (s.modCore i f).now = s.now := rfl

/-! ### setGroup -/

@[simp] theorem State.setGroup_regs (s : State) (g : Nat) (x : GroupS) : (s.setGroup g x).regs = s.regs := rfl
@[simp] theorem State.setGroup_rdShadow (s : State) (g : Nat) (x : GroupS) : (s.setGroup g x).rdShadow = s.rdShadow := rfl
@[simp] theorem State.setGroup_wrShadow (s : State) (g : Nat) (x : GroupS) : (s.setGroup g x).wrShadow = s.wrShadow := rfl
@[simp] theorem State.setGroup_time (s : State) (g : Nat) (x : GroupS) : (s.setGroup g x).time = s.time := rfl
@[simp] theorem State.setGroup_ports (s : State) (g : Nat) (x : GroupS) : (s.setGroup g x).ports = s.ports := rfl
@[simp] theorem State.setGroup_tx (s : State) (g : Nat) (x : GroupS) : (s.setGroup g x).tx = s.tx := rfl
@[simp] theorem State.setGroup_cams (s : State) (g : Nat) (x : GroupS) : (s.setGroup g x).cams = s.cams := rfl
@[simp] theorem State.setGroup_frames (s : State) (g : Nat) (x : GroupS) : (s.setGroup g x).frames = s.frames := rfl
@[simp] theorem State.setGroup_cores (s : State) (g : Nat) (x : GroupS) : (s.setGroup g x).cores = s.cores := rfl
@[simp] theorem State.setGroup_devPhase (s : State) (g : Nat) (x : GroupS) : (s.setGroup g x).devPhase = s.devPhase := rfl
@[simp] theorem State.setGroup_devArrived (s : State) (g : Nat) (x : GroupS) : (s.setGroup g x).devArrived = s.devArrived := rfl
@[simp] theorem State.setGroup_devMembers (s : State) (g : Nat) (x : GroupS) : (s.setGroup g x).devMembers = s.devMembers := rfl
@[simp] theorem State.setGroup_hold (s : State) (g : Nat) (x : GroupS) : (s.setGroup g x).hold = s.hold := rfl
@[simp] theorem State.setGroup_adapt (s : State) (g : Nat) (x : GroupS) : (s.setGroup g x).adapt = s.adapt := rfl
@[simp] theorem State.setGroup_sec (s : State) (g : Nat) (x : GroupS) : (s.setGroup g x).sec = s.sec := rfl
@[simp] theorem State.setGroup_boot (s : State) (g : Nat) (x : GroupS) : (s.setGroup g x).boot = s.boot := rfl
@[simp] theorem State.setGroup_groups (s : State) (g : Nat) (x : GroupS) : (s.setGroup g x).groups = s.groups.set g x := rfl
@[simp] theorem State.setGroup_fns (s : State) (g : Nat) (x : GroupS) : (s.setGroup g x).fns = s.fns := rfl
@[simp] theorem State.setGroup_rrFn (s : State) (g : Nat) (x : GroupS) : (s.setGroup g x).rrFn = s.rrFn := rfl
@[simp] theorem State.setGroup_sfl (s : State) (g : Nat) (x : GroupS) : (s.setGroup g x).sfl = s.sfl := rfl
@[simp] theorem State.setGroup_chn (s : State) (g : Nat) (x : GroupS) : (s.setGroup g x).chn = s.chn := rfl
@[simp] theorem State.setGroup_log (s : State) (g : Nat) (x : GroupS) : (s.setGroup g x).log = s.log := rfl
@[simp] theorem State.setGroup_fatal (s : State) (g : Nat) (x : GroupS) : (s.setGroup g x).fatal = s.fatal := rfl
@[simp] theorem State.setGroup_mem (s : State) (g : Nat) (x : GroupS) : (s.setGroup g x).mem = s.mem := rfl
@[simp] theorem State.setGroup_out (s : State) (g : Nat) (x : GroupS) : (s.setGroup g x).out = s.out := rfl
@[simp] theorem State.setGroup_free (s : State) (g : Nat) (x : GroupS) : (s.setGroup g x).free = s.free := rfl
@[simp] theorem State.setGroup_pending (s : State) (g : Nat) (x : GroupS) : (s.setGroup g x).pending = s.pending := rfl
@[simp] theorem State.setGroup_reg (s : State) (g : Nat) (x : GroupS) (r' : RegName) (i' : Nat) : (s.setGroup g x).reg r' i' = s.reg r' i' := rfl
@[simp] theorem State.setGroup_regN (s : State) (g : Nat) (x : GroupS) (r' : RegName) (i' : Nat) : (s.setGroup g x).regN r' i' = s.regN r' i' := rfl
@[simp] theorem State.setGroup_fld (s : State) (g : Nat) (x : GroupS) (f' : Fld) (i' : Nat) : (s.setGroup g x).fld f' i' = s.fld f' i' := rfl
@[simp] theorem State.setGroup_flag (s : State) (g : Nat) (x : GroupS) (f' : Fld) (i' : Nat) : (s.setGroup g x).flag f' i' = s.flag f' i' := rfl
@[simp] theorem State.setGroup_pair (s : State) (g : Nat) (x : GroupS) (lo' hi' : RegName) (i' : Nat) : (s.setGroup g x).pair lo' hi' i' = s.pair lo' hi' i' := rfl
@[simp] theorem State.setGroup_port (s : State) (g : Nat) (x : GroupS) (p' : Nat) : (s.setGroup g x).port p' = s.port p' := rfl
@[simp] theorem State.setGroup_cam (s : State) (g : Nat) (x : GroupS) (n' : Nat) : (s.setGroup g x).cam n' = s.cam n' := rfl
@[simp] theorem State.setGroup_frame (s : State) (g : Nat) (x : GroupS) (n' q' : Nat) : (s.setGroup g x).frame n' q' = s.frame n' q' := rfl
@[simp] theorem State.setGroup_fn (s : State) (g : Nat) (x : GroupS) (f' : Nat) : (s.setGroup g x).fn f' = s.fn f' := rfl
@[simp] theorem State.setGroup_queue (s : State) (g : Nat) (x : GroupS) (f' q' : Nat) : (s.setGroup g x).queue f' q' = s.queue f' q' := rfl
@[simp] theorem State.setGroup_core (s : State) (g : Nat) (x : GroupS) (i' : Nat) : (s.setGroup g x).core i' = s.core i' := rfl
@[simp] theorem State.setGroup_now (s : State) (g : Nat) (x : GroupS) : (s.setGroup g x).now = s.now := rfl

/-! ### modGroup -/

@[simp] theorem State.modGroup_regs (s : State) (g : Nat) (f : GroupS → GroupS) : (s.modGroup g f).regs = s.regs := rfl
@[simp] theorem State.modGroup_rdShadow (s : State) (g : Nat) (f : GroupS → GroupS) : (s.modGroup g f).rdShadow = s.rdShadow := rfl
@[simp] theorem State.modGroup_wrShadow (s : State) (g : Nat) (f : GroupS → GroupS) : (s.modGroup g f).wrShadow = s.wrShadow := rfl
@[simp] theorem State.modGroup_time (s : State) (g : Nat) (f : GroupS → GroupS) : (s.modGroup g f).time = s.time := rfl
@[simp] theorem State.modGroup_ports (s : State) (g : Nat) (f : GroupS → GroupS) : (s.modGroup g f).ports = s.ports := rfl
@[simp] theorem State.modGroup_tx (s : State) (g : Nat) (f : GroupS → GroupS) : (s.modGroup g f).tx = s.tx := rfl
@[simp] theorem State.modGroup_cams (s : State) (g : Nat) (f : GroupS → GroupS) : (s.modGroup g f).cams = s.cams := rfl
@[simp] theorem State.modGroup_frames (s : State) (g : Nat) (f : GroupS → GroupS) : (s.modGroup g f).frames = s.frames := rfl
@[simp] theorem State.modGroup_cores (s : State) (g : Nat) (f : GroupS → GroupS) : (s.modGroup g f).cores = s.cores := rfl
@[simp] theorem State.modGroup_devPhase (s : State) (g : Nat) (f : GroupS → GroupS) : (s.modGroup g f).devPhase = s.devPhase := rfl
@[simp] theorem State.modGroup_devArrived (s : State) (g : Nat) (f : GroupS → GroupS) : (s.modGroup g f).devArrived = s.devArrived := rfl
@[simp] theorem State.modGroup_devMembers (s : State) (g : Nat) (f : GroupS → GroupS) : (s.modGroup g f).devMembers = s.devMembers := rfl
@[simp] theorem State.modGroup_hold (s : State) (g : Nat) (f : GroupS → GroupS) : (s.modGroup g f).hold = s.hold := rfl
@[simp] theorem State.modGroup_adapt (s : State) (g : Nat) (f : GroupS → GroupS) : (s.modGroup g f).adapt = s.adapt := rfl
@[simp] theorem State.modGroup_sec (s : State) (g : Nat) (f : GroupS → GroupS) : (s.modGroup g f).sec = s.sec := rfl
@[simp] theorem State.modGroup_boot (s : State) (g : Nat) (f : GroupS → GroupS) : (s.modGroup g f).boot = s.boot := rfl
@[simp] theorem State.modGroup_groups (s : State) (g : Nat) (f : GroupS → GroupS) : (s.modGroup g f).groups = s.groups.modify g f := rfl
@[simp] theorem State.modGroup_fns (s : State) (g : Nat) (f : GroupS → GroupS) : (s.modGroup g f).fns = s.fns := rfl
@[simp] theorem State.modGroup_rrFn (s : State) (g : Nat) (f : GroupS → GroupS) : (s.modGroup g f).rrFn = s.rrFn := rfl
@[simp] theorem State.modGroup_sfl (s : State) (g : Nat) (f : GroupS → GroupS) : (s.modGroup g f).sfl = s.sfl := rfl
@[simp] theorem State.modGroup_chn (s : State) (g : Nat) (f : GroupS → GroupS) : (s.modGroup g f).chn = s.chn := rfl
@[simp] theorem State.modGroup_log (s : State) (g : Nat) (f : GroupS → GroupS) : (s.modGroup g f).log = s.log := rfl
@[simp] theorem State.modGroup_fatal (s : State) (g : Nat) (f : GroupS → GroupS) : (s.modGroup g f).fatal = s.fatal := rfl
@[simp] theorem State.modGroup_mem (s : State) (g : Nat) (f : GroupS → GroupS) : (s.modGroup g f).mem = s.mem := rfl
@[simp] theorem State.modGroup_out (s : State) (g : Nat) (f : GroupS → GroupS) : (s.modGroup g f).out = s.out := rfl
@[simp] theorem State.modGroup_free (s : State) (g : Nat) (f : GroupS → GroupS) : (s.modGroup g f).free = s.free := rfl
@[simp] theorem State.modGroup_pending (s : State) (g : Nat) (f : GroupS → GroupS) : (s.modGroup g f).pending = s.pending := rfl
@[simp] theorem State.modGroup_reg (s : State) (g : Nat) (f : GroupS → GroupS) (r' : RegName) (i' : Nat) : (s.modGroup g f).reg r' i' = s.reg r' i' := rfl
@[simp] theorem State.modGroup_regN (s : State) (g : Nat) (f : GroupS → GroupS) (r' : RegName) (i' : Nat) : (s.modGroup g f).regN r' i' = s.regN r' i' := rfl
@[simp] theorem State.modGroup_fld (s : State) (g : Nat) (f : GroupS → GroupS) (f' : Fld) (i' : Nat) : (s.modGroup g f).fld f' i' = s.fld f' i' := rfl
@[simp] theorem State.modGroup_flag (s : State) (g : Nat) (f : GroupS → GroupS) (f' : Fld) (i' : Nat) : (s.modGroup g f).flag f' i' = s.flag f' i' := rfl
@[simp] theorem State.modGroup_pair (s : State) (g : Nat) (f : GroupS → GroupS) (lo' hi' : RegName) (i' : Nat) : (s.modGroup g f).pair lo' hi' i' = s.pair lo' hi' i' := rfl
@[simp] theorem State.modGroup_port (s : State) (g : Nat) (f : GroupS → GroupS) (p' : Nat) : (s.modGroup g f).port p' = s.port p' := rfl
@[simp] theorem State.modGroup_cam (s : State) (g : Nat) (f : GroupS → GroupS) (n' : Nat) : (s.modGroup g f).cam n' = s.cam n' := rfl
@[simp] theorem State.modGroup_frame (s : State) (g : Nat) (f : GroupS → GroupS) (n' q' : Nat) : (s.modGroup g f).frame n' q' = s.frame n' q' := rfl
@[simp] theorem State.modGroup_fn (s : State) (g : Nat) (f : GroupS → GroupS) (f' : Nat) : (s.modGroup g f).fn f' = s.fn f' := rfl
@[simp] theorem State.modGroup_queue (s : State) (g : Nat) (f : GroupS → GroupS) (f' q' : Nat) : (s.modGroup g f).queue f' q' = s.queue f' q' := rfl
@[simp] theorem State.modGroup_core (s : State) (g : Nat) (f : GroupS → GroupS) (i' : Nat) : (s.modGroup g f).core i' = s.core i' := rfl
@[simp] theorem State.modGroup_now (s : State) (g : Nat) (f : GroupS → GroupS) : (s.modGroup g f).now = s.now := rfl

/-! ### modHold -/

@[simp] theorem State.modHold_regs (s : State) (f : HoldS → HoldS) : (s.modHold f).regs = s.regs := rfl
@[simp] theorem State.modHold_rdShadow (s : State) (f : HoldS → HoldS) : (s.modHold f).rdShadow = s.rdShadow := rfl
@[simp] theorem State.modHold_wrShadow (s : State) (f : HoldS → HoldS) : (s.modHold f).wrShadow = s.wrShadow := rfl
@[simp] theorem State.modHold_time (s : State) (f : HoldS → HoldS) : (s.modHold f).time = s.time := rfl
@[simp] theorem State.modHold_ports (s : State) (f : HoldS → HoldS) : (s.modHold f).ports = s.ports := rfl
@[simp] theorem State.modHold_tx (s : State) (f : HoldS → HoldS) : (s.modHold f).tx = s.tx := rfl
@[simp] theorem State.modHold_cams (s : State) (f : HoldS → HoldS) : (s.modHold f).cams = s.cams := rfl
@[simp] theorem State.modHold_frames (s : State) (f : HoldS → HoldS) : (s.modHold f).frames = s.frames := rfl
@[simp] theorem State.modHold_cores (s : State) (f : HoldS → HoldS) : (s.modHold f).cores = s.cores := rfl
@[simp] theorem State.modHold_devPhase (s : State) (f : HoldS → HoldS) : (s.modHold f).devPhase = s.devPhase := rfl
@[simp] theorem State.modHold_devArrived (s : State) (f : HoldS → HoldS) : (s.modHold f).devArrived = s.devArrived := rfl
@[simp] theorem State.modHold_devMembers (s : State) (f : HoldS → HoldS) : (s.modHold f).devMembers = s.devMembers := rfl
@[simp] theorem State.modHold_hold (s : State) (f : HoldS → HoldS) : (s.modHold f).hold = f s.hold := rfl
@[simp] theorem State.modHold_adapt (s : State) (f : HoldS → HoldS) : (s.modHold f).adapt = s.adapt := rfl
@[simp] theorem State.modHold_sec (s : State) (f : HoldS → HoldS) : (s.modHold f).sec = s.sec := rfl
@[simp] theorem State.modHold_boot (s : State) (f : HoldS → HoldS) : (s.modHold f).boot = s.boot := rfl
@[simp] theorem State.modHold_groups (s : State) (f : HoldS → HoldS) : (s.modHold f).groups = s.groups := rfl
@[simp] theorem State.modHold_fns (s : State) (f : HoldS → HoldS) : (s.modHold f).fns = s.fns := rfl
@[simp] theorem State.modHold_rrFn (s : State) (f : HoldS → HoldS) : (s.modHold f).rrFn = s.rrFn := rfl
@[simp] theorem State.modHold_sfl (s : State) (f : HoldS → HoldS) : (s.modHold f).sfl = s.sfl := rfl
@[simp] theorem State.modHold_chn (s : State) (f : HoldS → HoldS) : (s.modHold f).chn = s.chn := rfl
@[simp] theorem State.modHold_log (s : State) (f : HoldS → HoldS) : (s.modHold f).log = s.log := rfl
@[simp] theorem State.modHold_fatal (s : State) (f : HoldS → HoldS) : (s.modHold f).fatal = s.fatal := rfl
@[simp] theorem State.modHold_mem (s : State) (f : HoldS → HoldS) : (s.modHold f).mem = s.mem := rfl
@[simp] theorem State.modHold_out (s : State) (f : HoldS → HoldS) : (s.modHold f).out = s.out := rfl
@[simp] theorem State.modHold_free (s : State) (f : HoldS → HoldS) : (s.modHold f).free = s.free := rfl
@[simp] theorem State.modHold_pending (s : State) (f : HoldS → HoldS) : (s.modHold f).pending = s.pending := rfl
@[simp] theorem State.modHold_reg (s : State) (f : HoldS → HoldS) (r' : RegName) (i' : Nat) : (s.modHold f).reg r' i' = s.reg r' i' := rfl
@[simp] theorem State.modHold_regN (s : State) (f : HoldS → HoldS) (r' : RegName) (i' : Nat) : (s.modHold f).regN r' i' = s.regN r' i' := rfl
@[simp] theorem State.modHold_fld (s : State) (f : HoldS → HoldS) (f' : Fld) (i' : Nat) : (s.modHold f).fld f' i' = s.fld f' i' := rfl
@[simp] theorem State.modHold_flag (s : State) (f : HoldS → HoldS) (f' : Fld) (i' : Nat) : (s.modHold f).flag f' i' = s.flag f' i' := rfl
@[simp] theorem State.modHold_pair (s : State) (f : HoldS → HoldS) (lo' hi' : RegName) (i' : Nat) : (s.modHold f).pair lo' hi' i' = s.pair lo' hi' i' := rfl
@[simp] theorem State.modHold_port (s : State) (f : HoldS → HoldS) (p' : Nat) : (s.modHold f).port p' = s.port p' := rfl
@[simp] theorem State.modHold_cam (s : State) (f : HoldS → HoldS) (n' : Nat) : (s.modHold f).cam n' = s.cam n' := rfl
@[simp] theorem State.modHold_frame (s : State) (f : HoldS → HoldS) (n' q' : Nat) : (s.modHold f).frame n' q' = s.frame n' q' := rfl
@[simp] theorem State.modHold_fn (s : State) (f : HoldS → HoldS) (f' : Nat) : (s.modHold f).fn f' = s.fn f' := rfl
@[simp] theorem State.modHold_queue (s : State) (f : HoldS → HoldS) (f' q' : Nat) : (s.modHold f).queue f' q' = s.queue f' q' := rfl
@[simp] theorem State.modHold_core (s : State) (f : HoldS → HoldS) (i' : Nat) : (s.modHold f).core i' = s.core i' := rfl
@[simp] theorem State.modHold_group (s : State) (f : HoldS → HoldS) (g' : Nat) : (s.modHold f).group g' = s.group g' := rfl
@[simp] theorem State.modHold_now (s : State) (f : HoldS → HoldS) : (s.modHold f).now = s.now := rfl

/-! ### modAdapt -/

@[simp] theorem State.modAdapt_regs (s : State) (n : Nat) (f : AdaptS → AdaptS) : (s.modAdapt n f).regs = s.regs := rfl
@[simp] theorem State.modAdapt_rdShadow (s : State) (n : Nat) (f : AdaptS → AdaptS) : (s.modAdapt n f).rdShadow = s.rdShadow := rfl
@[simp] theorem State.modAdapt_wrShadow (s : State) (n : Nat) (f : AdaptS → AdaptS) : (s.modAdapt n f).wrShadow = s.wrShadow := rfl
@[simp] theorem State.modAdapt_time (s : State) (n : Nat) (f : AdaptS → AdaptS) : (s.modAdapt n f).time = s.time := rfl
@[simp] theorem State.modAdapt_ports (s : State) (n : Nat) (f : AdaptS → AdaptS) : (s.modAdapt n f).ports = s.ports := rfl
@[simp] theorem State.modAdapt_tx (s : State) (n : Nat) (f : AdaptS → AdaptS) : (s.modAdapt n f).tx = s.tx := rfl
@[simp] theorem State.modAdapt_cams (s : State) (n : Nat) (f : AdaptS → AdaptS) : (s.modAdapt n f).cams = s.cams := rfl
@[simp] theorem State.modAdapt_frames (s : State) (n : Nat) (f : AdaptS → AdaptS) : (s.modAdapt n f).frames = s.frames := rfl
@[simp] theorem State.modAdapt_cores (s : State) (n : Nat) (f : AdaptS → AdaptS) : (s.modAdapt n f).cores = s.cores := rfl
@[simp] theorem State.modAdapt_devPhase (s : State) (n : Nat) (f : AdaptS → AdaptS) : (s.modAdapt n f).devPhase = s.devPhase := rfl
@[simp] theorem State.modAdapt_devArrived (s : State) (n : Nat) (f : AdaptS → AdaptS) : (s.modAdapt n f).devArrived = s.devArrived := rfl
@[simp] theorem State.modAdapt_devMembers (s : State) (n : Nat) (f : AdaptS → AdaptS) : (s.modAdapt n f).devMembers = s.devMembers := rfl
@[simp] theorem State.modAdapt_hold (s : State) (n : Nat) (f : AdaptS → AdaptS) : (s.modAdapt n f).hold = s.hold := rfl
@[simp] theorem State.modAdapt_adapt (s : State) (n : Nat) (f : AdaptS → AdaptS) : (s.modAdapt n f).adapt = s.adapt.modify n f := rfl
@[simp] theorem State.modAdapt_sec (s : State) (n : Nat) (f : AdaptS → AdaptS) : (s.modAdapt n f).sec = s.sec := rfl
@[simp] theorem State.modAdapt_boot (s : State) (n : Nat) (f : AdaptS → AdaptS) : (s.modAdapt n f).boot = s.boot := rfl
@[simp] theorem State.modAdapt_groups (s : State) (n : Nat) (f : AdaptS → AdaptS) : (s.modAdapt n f).groups = s.groups := rfl
@[simp] theorem State.modAdapt_fns (s : State) (n : Nat) (f : AdaptS → AdaptS) : (s.modAdapt n f).fns = s.fns := rfl
@[simp] theorem State.modAdapt_rrFn (s : State) (n : Nat) (f : AdaptS → AdaptS) : (s.modAdapt n f).rrFn = s.rrFn := rfl
@[simp] theorem State.modAdapt_sfl (s : State) (n : Nat) (f : AdaptS → AdaptS) : (s.modAdapt n f).sfl = s.sfl := rfl
@[simp] theorem State.modAdapt_chn (s : State) (n : Nat) (f : AdaptS → AdaptS) : (s.modAdapt n f).chn = s.chn := rfl
@[simp] theorem State.modAdapt_log (s : State) (n : Nat) (f : AdaptS → AdaptS) : (s.modAdapt n f).log = s.log := rfl
@[simp] theorem State.modAdapt_fatal (s : State) (n : Nat) (f : AdaptS → AdaptS) : (s.modAdapt n f).fatal = s.fatal := rfl
@[simp] theorem State.modAdapt_mem (s : State) (n : Nat) (f : AdaptS → AdaptS) : (s.modAdapt n f).mem = s.mem := rfl
@[simp] theorem State.modAdapt_out (s : State) (n : Nat) (f : AdaptS → AdaptS) : (s.modAdapt n f).out = s.out := rfl
@[simp] theorem State.modAdapt_free (s : State) (n : Nat) (f : AdaptS → AdaptS) : (s.modAdapt n f).free = s.free := rfl
@[simp] theorem State.modAdapt_pending (s : State) (n : Nat) (f : AdaptS → AdaptS) : (s.modAdapt n f).pending = s.pending := rfl
@[simp] theorem State.modAdapt_reg (s : State) (n : Nat) (f : AdaptS → AdaptS) (r' : RegName) (i' : Nat) : (s.modAdapt n f).reg r' i' = s.reg r' i' := rfl
@[simp] theorem State.modAdapt_regN (s : State) (n : Nat) (f : AdaptS → AdaptS) (r' : RegName) (i' : Nat) : (s.modAdapt n f).regN r' i' = s.regN r' i' := rfl
@[simp] theorem State.modAdapt_fld (s : State) (n : Nat) (f : AdaptS → AdaptS) (f' : Fld) (i' : Nat) : (s.modAdapt n f).fld f' i' = s.fld f' i' := rfl
@[simp] theorem State.modAdapt_flag (s : State) (n : Nat) (f : AdaptS → AdaptS) (f' : Fld) (i' : Nat) : (s.modAdapt n f).flag f' i' = s.flag f' i' := rfl
@[simp] theorem State.modAdapt_pair (s : State) (n : Nat) (f : AdaptS → AdaptS) (lo' hi' : RegName) (i' : Nat) : (s.modAdapt n f).pair lo' hi' i' = s.pair lo' hi' i' := rfl
@[simp] theorem State.modAdapt_port (s : State) (n : Nat) (f : AdaptS → AdaptS) (p' : Nat) : (s.modAdapt n f).port p' = s.port p' := rfl
@[simp] theorem State.modAdapt_cam (s : State) (n : Nat) (f : AdaptS → AdaptS) (n' : Nat) : (s.modAdapt n f).cam n' = s.cam n' := rfl
@[simp] theorem State.modAdapt_frame (s : State) (n : Nat) (f : AdaptS → AdaptS) (n' q' : Nat) : (s.modAdapt n f).frame n' q' = s.frame n' q' := rfl
@[simp] theorem State.modAdapt_fn (s : State) (n : Nat) (f : AdaptS → AdaptS) (f' : Nat) : (s.modAdapt n f).fn f' = s.fn f' := rfl
@[simp] theorem State.modAdapt_queue (s : State) (n : Nat) (f : AdaptS → AdaptS) (f' q' : Nat) : (s.modAdapt n f).queue f' q' = s.queue f' q' := rfl
@[simp] theorem State.modAdapt_core (s : State) (n : Nat) (f : AdaptS → AdaptS) (i' : Nat) : (s.modAdapt n f).core i' = s.core i' := rfl
@[simp] theorem State.modAdapt_group (s : State) (n : Nat) (f : AdaptS → AdaptS) (g' : Nat) : (s.modAdapt n f).group g' = s.group g' := rfl
@[simp] theorem State.modAdapt_now (s : State) (n : Nat) (f : AdaptS → AdaptS) : (s.modAdapt n f).now = s.now := rfl

/-! ### modSec -/

@[simp] theorem State.modSec_regs (s : State) (f : SecS → SecS) : (s.modSec f).regs = s.regs := rfl
@[simp] theorem State.modSec_rdShadow (s : State) (f : SecS → SecS) : (s.modSec f).rdShadow = s.rdShadow := rfl
@[simp] theorem State.modSec_wrShadow (s : State) (f : SecS → SecS) : (s.modSec f).wrShadow = s.wrShadow := rfl
@[simp] theorem State.modSec_time (s : State) (f : SecS → SecS) : (s.modSec f).time = s.time := rfl
@[simp] theorem State.modSec_ports (s : State) (f : SecS → SecS) : (s.modSec f).ports = s.ports := rfl
@[simp] theorem State.modSec_tx (s : State) (f : SecS → SecS) : (s.modSec f).tx = s.tx := rfl
@[simp] theorem State.modSec_cams (s : State) (f : SecS → SecS) : (s.modSec f).cams = s.cams := rfl
@[simp] theorem State.modSec_frames (s : State) (f : SecS → SecS) : (s.modSec f).frames = s.frames := rfl
@[simp] theorem State.modSec_cores (s : State) (f : SecS → SecS) : (s.modSec f).cores = s.cores := rfl
@[simp] theorem State.modSec_devPhase (s : State) (f : SecS → SecS) : (s.modSec f).devPhase = s.devPhase := rfl
@[simp] theorem State.modSec_devArrived (s : State) (f : SecS → SecS) : (s.modSec f).devArrived = s.devArrived := rfl
@[simp] theorem State.modSec_devMembers (s : State) (f : SecS → SecS) : (s.modSec f).devMembers = s.devMembers := rfl
@[simp] theorem State.modSec_hold (s : State) (f : SecS → SecS) : (s.modSec f).hold = s.hold := rfl
@[simp] theorem State.modSec_adapt (s : State) (f : SecS → SecS) : (s.modSec f).adapt = s.adapt := rfl
@[simp] theorem State.modSec_sec (s : State) (f : SecS → SecS) : (s.modSec f).sec = f s.sec := rfl
@[simp] theorem State.modSec_boot (s : State) (f : SecS → SecS) : (s.modSec f).boot = s.boot := rfl
@[simp] theorem State.modSec_groups (s : State) (f : SecS → SecS) : (s.modSec f).groups = s.groups := rfl
@[simp] theorem State.modSec_fns (s : State) (f : SecS → SecS) : (s.modSec f).fns = s.fns := rfl
@[simp] theorem State.modSec_rrFn (s : State) (f : SecS → SecS) : (s.modSec f).rrFn = s.rrFn := rfl
@[simp] theorem State.modSec_sfl (s : State) (f : SecS → SecS) : (s.modSec f).sfl = s.sfl := rfl
@[simp] theorem State.modSec_chn (s : State) (f : SecS → SecS) : (s.modSec f).chn = s.chn := rfl
@[simp] theorem State.modSec_log (s : State) (f : SecS → SecS) : (s.modSec f).log = s.log := rfl
@[simp] theorem State.modSec_fatal (s : State) (f : SecS → SecS) : (s.modSec f).fatal = s.fatal := rfl
@[simp] theorem State.modSec_mem (s : State) (f : SecS → SecS) : (s.modSec f).mem = s.mem := rfl
@[simp] theorem State.modSec_out (s : State) (f : SecS → SecS) : (s.modSec f).out = s.out := rfl
@[simp] theorem State.modSec_free (s : State) (f : SecS → SecS) : (s.modSec f).free = s.free := rfl
@[simp] theorem State.modSec_pending (s : State) (f : SecS → SecS) : (s.modSec f).pending = s.pending := rfl
@[simp] theorem State.modSec_reg (s : State) (f : SecS → SecS) (r' : RegName) (i' : Nat) : (s.modSec f).reg r' i' = s.reg r' i' := rfl
@[simp] theorem State.modSec_regN (s : State) (f : SecS → SecS) (r' : RegName) (i' : Nat) : (s.modSec f).regN r' i' = s.regN r' i' := rfl
@[simp] theorem State.modSec_fld (s : State) (f : SecS → SecS) (f' : Fld) (i' : Nat) : (s.modSec f).fld f' i' = s.fld f' i' := rfl
@[simp] theorem State.modSec_flag (s : State) (f : SecS → SecS) (f' : Fld) (i' : Nat) : (s.modSec f).flag f' i' = s.flag f' i' := rfl
@[simp] theorem State.modSec_pair (s : State) (f : SecS → SecS) (lo' hi' : RegName) (i' : Nat) : (s.modSec f).pair lo' hi' i' = s.pair lo' hi' i' := rfl
@[simp] theorem State.modSec_port (s : State) (f : SecS → SecS) (p' : Nat) : (s.modSec f).port p' = s.port p' := rfl
@[simp] theorem State.modSec_cam (s : State) (f : SecS → SecS) (n' : Nat) : (s.modSec f).cam n' = s.cam n' := rfl
@[simp] theorem State.modSec_frame (s : State) (f : SecS → SecS) (n' q' : Nat) : (s.modSec f).frame n' q' = s.frame n' q' := rfl
@[simp] theorem State.modSec_fn (s : State) (f : SecS → SecS) (f' : Nat) : (s.modSec f).fn f' = s.fn f' := rfl
@[simp] theorem State.modSec_queue (s : State) (f : SecS → SecS) (f' q' : Nat) : (s.modSec f).queue f' q' = s.queue f' q' := rfl
@[simp] theorem State.modSec_core (s : State) (f : SecS → SecS) (i' : Nat) : (s.modSec f).core i' = s.core i' := rfl
@[simp] theorem State.modSec_group (s : State) (f : SecS → SecS) (g' : Nat) : (s.modSec f).group g' = s.group g' := rfl
@[simp] theorem State.modSec_now (s : State) (f : SecS → SecS) : (s.modSec f).now = s.now := rfl

/-! ### modBoot -/

@[simp] theorem State.modBoot_regs (s : State) (f : BootS → BootS) : (s.modBoot f).regs = s.regs := rfl
@[simp] theorem State.modBoot_rdShadow (s : State) (f : BootS → BootS) : (s.modBoot f).rdShadow = s.rdShadow := rfl
@[simp] theorem State.modBoot_wrShadow (s : State) (f : BootS → BootS) : (s.modBoot f).wrShadow = s.wrShadow := rfl
@[simp] theorem State.modBoot_time (s : State) (f : BootS → BootS) : (s.modBoot f).time = s.time := rfl
@[simp] theorem State.modBoot_ports (s : State) (f : BootS → BootS) : (s.modBoot f).ports = s.ports := rfl
@[simp] theorem State.modBoot_tx (s : State) (f : BootS → BootS) : (s.modBoot f).tx = s.tx := rfl
@[simp] theorem State.modBoot_cams (s : State) (f : BootS → BootS) : (s.modBoot f).cams = s.cams := rfl
@[simp] theorem State.modBoot_frames (s : State) (f : BootS → BootS) : (s.modBoot f).frames = s.frames := rfl
@[simp] theorem State.modBoot_cores (s : State) (f : BootS → BootS) : (s.modBoot f).cores = s.cores := rfl
@[simp] theorem State.modBoot_devPhase (s : State) (f : BootS → BootS) : (s.modBoot f).devPhase = s.devPhase := rfl
@[simp] theorem State.modBoot_devArrived (s : State) (f : BootS → BootS) : (s.modBoot f).devArrived = s.devArrived := rfl
@[simp] theorem State.modBoot_devMembers (s : State) (f : BootS → BootS) : (s.modBoot f).devMembers = s.devMembers := rfl
@[simp] theorem State.modBoot_hold (s : State) (f : BootS → BootS) : (s.modBoot f).hold = s.hold := rfl
@[simp] theorem State.modBoot_adapt (s : State) (f : BootS → BootS) : (s.modBoot f).adapt = s.adapt := rfl
@[simp] theorem State.modBoot_sec (s : State) (f : BootS → BootS) : (s.modBoot f).sec = s.sec := rfl
@[simp] theorem State.modBoot_boot (s : State) (f : BootS → BootS) : (s.modBoot f).boot = f s.boot := rfl
@[simp] theorem State.modBoot_groups (s : State) (f : BootS → BootS) : (s.modBoot f).groups = s.groups := rfl
@[simp] theorem State.modBoot_fns (s : State) (f : BootS → BootS) : (s.modBoot f).fns = s.fns := rfl
@[simp] theorem State.modBoot_rrFn (s : State) (f : BootS → BootS) : (s.modBoot f).rrFn = s.rrFn := rfl
@[simp] theorem State.modBoot_sfl (s : State) (f : BootS → BootS) : (s.modBoot f).sfl = s.sfl := rfl
@[simp] theorem State.modBoot_chn (s : State) (f : BootS → BootS) : (s.modBoot f).chn = s.chn := rfl
@[simp] theorem State.modBoot_log (s : State) (f : BootS → BootS) : (s.modBoot f).log = s.log := rfl
@[simp] theorem State.modBoot_fatal (s : State) (f : BootS → BootS) : (s.modBoot f).fatal = s.fatal := rfl
@[simp] theorem State.modBoot_mem (s : State) (f : BootS → BootS) : (s.modBoot f).mem = s.mem := rfl
@[simp] theorem State.modBoot_out (s : State) (f : BootS → BootS) : (s.modBoot f).out = s.out := rfl
@[simp] theorem State.modBoot_free (s : State) (f : BootS → BootS) : (s.modBoot f).free = s.free := rfl
@[simp] theorem State.modBoot_pending (s : State) (f : BootS → BootS) : (s.modBoot f).pending = s.pending := rfl
@[simp] theorem State.modBoot_reg (s : State) (f : BootS → BootS) (r' : RegName) (i' : Nat) : (s.modBoot f).reg r' i' = s.reg r' i' := rfl
@[simp] theorem State.modBoot_regN (s : State) (f : BootS → BootS) (r' : RegName) (i' : Nat) : (s.modBoot f).regN r' i' = s.regN r' i' := rfl
@[simp] theorem State.modBoot_fld (s : State) (f : BootS → BootS) (f' : Fld) (i' : Nat) : (s.modBoot f).fld f' i' = s.fld f' i' := rfl
@[simp] theorem State.modBoot_flag (s : State) (f : BootS → BootS) (f' : Fld) (i' : Nat) : (s.modBoot f).flag f' i' = s.flag f' i' := rfl
@[simp] theorem State.modBoot_pair (s : State) (f : BootS → BootS) (lo' hi' : RegName) (i' : Nat) : (s.modBoot f).pair lo' hi' i' = s.pair lo' hi' i' := rfl
@[simp] theorem State.modBoot_port (s : State) (f : BootS → BootS) (p' : Nat) : (s.modBoot f).port p' = s.port p' := rfl
@[simp] theorem State.modBoot_cam (s : State) (f : BootS → BootS) (n' : Nat) : (s.modBoot f).cam n' = s.cam n' := rfl
@[simp] theorem State.modBoot_frame (s : State) (f : BootS → BootS) (n' q' : Nat) : (s.modBoot f).frame n' q' = s.frame n' q' := rfl
@[simp] theorem State.modBoot_fn (s : State) (f : BootS → BootS) (f' : Nat) : (s.modBoot f).fn f' = s.fn f' := rfl
@[simp] theorem State.modBoot_queue (s : State) (f : BootS → BootS) (f' q' : Nat) : (s.modBoot f).queue f' q' = s.queue f' q' := rfl
@[simp] theorem State.modBoot_core (s : State) (f : BootS → BootS) (i' : Nat) : (s.modBoot f).core i' = s.core i' := rfl
@[simp] theorem State.modBoot_group (s : State) (f : BootS → BootS) (g' : Nat) : (s.modBoot f).group g' = s.group g' := rfl
@[simp] theorem State.modBoot_now (s : State) (f : BootS → BootS) : (s.modBoot f).now = s.now := rfl

/-! ### modSfl -/

@[simp] theorem State.modSfl_regs (s : State) (f : SflS → SflS) : (s.modSfl f).regs = s.regs := rfl
@[simp] theorem State.modSfl_rdShadow (s : State) (f : SflS → SflS) : (s.modSfl f).rdShadow = s.rdShadow := rfl
@[simp] theorem State.modSfl_wrShadow (s : State) (f : SflS → SflS) : (s.modSfl f).wrShadow = s.wrShadow := rfl
@[simp] theorem State.modSfl_time (s : State) (f : SflS → SflS) : (s.modSfl f).time = s.time := rfl
@[simp] theorem State.modSfl_ports (s : State) (f : SflS → SflS) : (s.modSfl f).ports = s.ports := rfl
@[simp] theorem State.modSfl_tx (s : State) (f : SflS → SflS) : (s.modSfl f).tx = s.tx := rfl
@[simp] theorem State.modSfl_cams (s : State) (f : SflS → SflS) : (s.modSfl f).cams = s.cams := rfl
@[simp] theorem State.modSfl_frames (s : State) (f : SflS → SflS) : (s.modSfl f).frames = s.frames := rfl
@[simp] theorem State.modSfl_cores (s : State) (f : SflS → SflS) : (s.modSfl f).cores = s.cores := rfl
@[simp] theorem State.modSfl_devPhase (s : State) (f : SflS → SflS) : (s.modSfl f).devPhase = s.devPhase := rfl
@[simp] theorem State.modSfl_devArrived (s : State) (f : SflS → SflS) : (s.modSfl f).devArrived = s.devArrived := rfl
@[simp] theorem State.modSfl_devMembers (s : State) (f : SflS → SflS) : (s.modSfl f).devMembers = s.devMembers := rfl
@[simp] theorem State.modSfl_hold (s : State) (f : SflS → SflS) : (s.modSfl f).hold = s.hold := rfl
@[simp] theorem State.modSfl_adapt (s : State) (f : SflS → SflS) : (s.modSfl f).adapt = s.adapt := rfl
@[simp] theorem State.modSfl_sec (s : State) (f : SflS → SflS) : (s.modSfl f).sec = s.sec := rfl
@[simp] theorem State.modSfl_boot (s : State) (f : SflS → SflS) : (s.modSfl f).boot = s.boot := rfl
@[simp] theorem State.modSfl_groups (s : State) (f : SflS → SflS) : (s.modSfl f).groups = s.groups := rfl
@[simp] theorem State.modSfl_fns (s : State) (f : SflS → SflS) : (s.modSfl f).fns = s.fns := rfl
@[simp] theorem State.modSfl_rrFn (s : State) (f : SflS → SflS) : (s.modSfl f).rrFn = s.rrFn := rfl
@[simp] theorem State.modSfl_sfl (s : State) (f : SflS → SflS) : (s.modSfl f).sfl = f s.sfl := rfl
@[simp] theorem State.modSfl_chn (s : State) (f : SflS → SflS) : (s.modSfl f).chn = s.chn := rfl
@[simp] theorem State.modSfl_log (s : State) (f : SflS → SflS) : (s.modSfl f).log = s.log := rfl
@[simp] theorem State.modSfl_fatal (s : State) (f : SflS → SflS) : (s.modSfl f).fatal = s.fatal := rfl
@[simp] theorem State.modSfl_mem (s : State) (f : SflS → SflS) : (s.modSfl f).mem = s.mem := rfl
@[simp] theorem State.modSfl_out (s : State) (f : SflS → SflS) : (s.modSfl f).out = s.out := rfl
@[simp] theorem State.modSfl_free (s : State) (f : SflS → SflS) : (s.modSfl f).free = s.free := rfl
@[simp] theorem State.modSfl_pending (s : State) (f : SflS → SflS) : (s.modSfl f).pending = s.pending := rfl
@[simp] theorem State.modSfl_reg (s : State) (f : SflS → SflS) (r' : RegName) (i' : Nat) : (s.modSfl f).reg r' i' = s.reg r' i' := rfl
@[simp] theorem State.modSfl_regN (s : State) (f : SflS → SflS) (r' : RegName) (i' : Nat) : (s.modSfl f).regN r' i' = s.regN r' i' := rfl
@[simp] theorem State.modSfl_fld (s : State) (f : SflS → SflS) (f' : Fld) (i' : Nat) : (s.modSfl f).fld f' i' = s.fld f' i' := rfl
@[simp] theorem State.modSfl_flag (s : State) (f : SflS → SflS) (f' : Fld) (i' : Nat) : (s.modSfl f).flag f' i' = s.flag f' i' := rfl
@[simp] theorem State.modSfl_pair (s : State) (f : SflS → SflS) (lo' hi' : RegName) (i' : Nat) : (s.modSfl f).pair lo' hi' i' = s.pair lo' hi' i' := rfl
@[simp] theorem State.modSfl_port (s : State) (f : SflS → SflS) (p' : Nat) : (s.modSfl f).port p' = s.port p' := rfl
@[simp] theorem State.modSfl_cam (s : State) (f : SflS → SflS) (n' : Nat) : (s.modSfl f).cam n' = s.cam n' := rfl
@[simp] theorem State.modSfl_frame (s : State) (f : SflS → SflS) (n' q' : Nat) : (s.modSfl f).frame n' q' = s.frame n' q' := rfl
@[simp] theorem State.modSfl_fn (s : State) (f : SflS → SflS) (f' : Nat) : (s.modSfl f).fn f' = s.fn f' := rfl
@[simp] theorem State.modSfl_queue (s : State) (f : SflS → SflS) (f' q' : Nat) : (s.modSfl f).queue f' q' = s.queue f' q' := rfl
@[simp] theorem State.modSfl_core (s : State) (f : SflS → SflS) (i' : Nat) : (s.modSfl f).core i' = s.core i' := rfl
@[simp] theorem State.modSfl_group (s : State) (f : SflS → SflS) (g' : Nat) : (s.modSfl f).group g' = s.group g' := rfl
@[simp] theorem State.modSfl_now (s : State) (f : SflS → SflS) : (s.modSfl f).now = s.now := rfl

/-! ### modChn -/

@[simp] theorem State.modChn_regs (s : State) (f : ChnS → ChnS) : (s.modChn f).regs = s.regs := rfl
@[simp] theorem State.modChn_rdShadow (s : State) (f : ChnS → ChnS) : (s.modChn f).rdShadow = s.rdShadow := rfl
@[simp] theorem State.modChn_wrShadow (s : State) (f : ChnS → ChnS) : (s.modChn f).wrShadow = s.wrShadow := rfl
@[simp] theorem State.modChn_time (s : State) (f : ChnS → ChnS) : (s.modChn f).time = s.time := rfl
@[simp] theorem State.modChn_ports (s : State) (f : ChnS → ChnS) : (s.modChn f).ports = s.ports := rfl
@[simp] theorem State.modChn_tx (s : State) (f : ChnS → ChnS) : (s.modChn f).tx = s.tx := rfl
@[simp] theorem State.modChn_cams (s : State) (f : ChnS → ChnS) : (s.modChn f).cams = s.cams := rfl
@[simp] theorem State.modChn_frames (s : State) (f : ChnS → ChnS) : (s.modChn f).frames = s.frames := rfl
@[simp] theorem State.modChn_cores (s : State) (f : ChnS → ChnS) : (s.modChn f).cores = s.cores := rfl
@[simp] theorem State.modChn_devPhase (s : State) (f : ChnS → ChnS) : (s.modChn f).devPhase = s.devPhase := rfl
@[simp] theorem State.modChn_devArrived (s : State) (f : ChnS → ChnS) : (s.modChn f).devArrived = s.devArrived := rfl
@[simp] theorem State.modChn_devMembers (s : State) (f : ChnS → ChnS) : (s.modChn f).devMembers = s.devMembers := rfl
@[simp] theorem State.modChn_hold (s : State) (f : ChnS → ChnS) : (s.modChn f).hold = s.hold := rfl
@[simp] theorem State.modChn_adapt (s : State) (f : ChnS → ChnS) : (s.modChn f).adapt = s.adapt := rfl
@[simp] theorem State.modChn_sec (s : State) (f : ChnS → ChnS) : (s.modChn f).sec = s.sec := rfl
@[simp] theorem State.modChn_boot (s : State) (f : ChnS → ChnS) : (s.modChn f).boot = s.boot := rfl
@[simp] theorem State.modChn_groups (s : State) (f : ChnS → ChnS) : (s.modChn f).groups = s.groups := rfl
@[simp] theorem State.modChn_fns (s : State) (f : ChnS → ChnS) : (s.modChn f).fns = s.fns := rfl
@[simp] theorem State.modChn_rrFn (s : State) (f : ChnS → ChnS) : (s.modChn f).rrFn = s.rrFn := rfl
@[simp] theorem State.modChn_sfl (s : State) (f : ChnS → ChnS) : (s.modChn f).sfl = s.sfl := rfl
@[simp] theorem State.modChn_chn (s : State) (f : ChnS → ChnS) : (s.modChn f).chn = f s.chn := rfl
@[simp] theorem State.modChn_log (s : State) (f : ChnS → ChnS) : (s.modChn f).log = s.log := rfl
@[simp] theorem State.modChn_fatal (s : State) (f : ChnS → ChnS) : (s.modChn f).fatal = s.fatal := rfl
@[simp] theorem State.modChn_mem (s : State) (f : ChnS → ChnS) : (s.modChn f).mem = s.mem := rfl
@[simp] theorem State.modChn_out (s : State) (f : ChnS → ChnS) : (s.modChn f).out = s.out := rfl
@[simp] theorem State.modChn_free (s : State) (f : ChnS → ChnS) : (s.modChn f).free = s.free := rfl
@[simp] theorem State.modChn_pending (s : State) (f : ChnS → ChnS) : (s.modChn f).pending = s.pending := rfl
@[simp] theorem State.modChn_reg (s : State) (f : ChnS → ChnS) (r' : RegName) (i' : Nat) : (s.modChn f).reg r' i' = s.reg r' i' := rfl
@[simp] theorem State.modChn_regN (s : State) (f : ChnS → ChnS) (r' : RegName) (i' : Nat) : (s.modChn f).regN r' i' = s.regN r' i' := rfl
@[simp] theorem State.modChn_fld (s : State) (f : ChnS → ChnS) (f' : Fld) (i' : Nat) : (s.modChn f).fld f' i' = s.fld f' i' := rfl
@[simp] theorem State.modChn_flag (s : State) (f : ChnS → ChnS) (f' : Fld) (i' : Nat) : (s.modChn f).flag f' i' = s.flag f' i' := rfl
@[simp] theorem State.modChn_pair (s : State) (f : ChnS → ChnS) (lo' hi' : RegName) (i' : Nat) : (s.modChn f).pair lo' hi' i' = s.pair lo' hi' i' := rfl
@[simp] theorem State.modChn_port (s : State) (f : ChnS → ChnS) (p' : Nat) : (s.modChn f).port p' = s.port p' := rfl
@[simp] theorem State.modChn_cam (s : State) (f : ChnS → ChnS) (n' : Nat) : (s.modChn f).cam n' = s.cam n' := rfl
@[simp] theorem State.modChn_frame (s : State) (f : ChnS → ChnS) (n' q' : Nat) : (s.modChn f).frame n' q' = s.frame n' q' := rfl
@[simp] theorem State.modChn_fn (s : State) (f : ChnS → ChnS) (f' : Nat) : (s.modChn f).fn f' = s.fn f' := rfl
@[simp] theorem State.modChn_queue (s : State) (f : ChnS → ChnS) (f' q' : Nat) : (s.modChn f).queue f' q' = s.queue f' q' := rfl
@[simp] theorem State.modChn_core (s : State) (f : ChnS → ChnS) (i' : Nat) : (s.modChn f).core i' = s.core i' := rfl
@[simp] theorem State.modChn_group (s : State) (f : ChnS → ChnS) (g' : Nat) : (s.modChn f).group g' = s.group g' := rfl
@[simp] theorem State.modChn_now (s : State) (f : ChnS → ChnS) : (s.modChn f).now = s.now := rfl

end Sys2Proof.Machine
end

