-- ==== Sys2Proof/Laws/Memory.lean ====
section
/-! SUPPORT. The canonical form of a memory, what a read finds after a write, and the register file. -/
set_option linter.all false
namespace Sys2Proof.Machine

/-- The canonical form of a list with a head: the head is not zero and lies below all the rest, which is canonical. -/
theorem wf_cons (c : Host.Cell) (t : List Host.Cell) :
    Memory.wf (c :: t) = true ↔ c.2 ≠ 0 ∧ (∀ x ∈ t, c.1 < x.1) ∧ Memory.wf t = true := by
  induction t generalizing c with
  | nil => obtain ⟨a, b⟩ := c; simp [Memory.wf]
  | cons d t ih =>
    obtain ⟨a, b⟩ := c
    obtain ⟨a', b'⟩ := d
    have hd := ih (a', b')
    simp only [Memory.wf, Bool.and_eq_true, bne_iff_ne, decide_eq_true_eq, hd, List.mem_cons, forall_eq_or_imp]
    constructor
    · rintro ⟨⟨h1, h2⟩, h3, h4, h5⟩
      exact ⟨h1, ⟨h2, fun x hx => Nat.lt_trans h2 (h4 x hx)⟩, h3, h4, h5⟩
    · rintro ⟨h1, ⟨h2, _⟩, h3⟩
      exact ⟨⟨h1, h2⟩, h3⟩

/-- Writing a byte adds no address but its own. -/
theorem mem_of_memWrite (m : List Host.Cell) (a : Nat) (b : Byte) : ∀ x ∈ memWrite m a b, x = (a, b) ∨ x ∈ m := by
  induction m with
  | nil => intro x hx; unfold memWrite at hx; split at hx <;> simp_all
  | cons c t ih =>
    obtain ⟨a', b'⟩ := c
    intro x hx
    simp only [memWrite] at hx
    split at hx
    · split at hx
      · exact .inr hx
      · simpa using hx
    · split at hx
      · split at hx
        · exact .inr (.tail _ hx)
        · rcases List.mem_cons.1 hx with h | h
          · exact .inl h
          · exact .inr (.tail _ h)
      · rcases List.mem_cons.1 hx with h | h
        · exact .inr (h ▸ List.mem_cons_self ..)
        · exact (ih x h).imp_right (List.mem_cons_of_mem _)

/-- A byte written keeps the canonical form. -/
theorem memWrite_wf (m : List Host.Cell) (a : Nat) (b : Byte) (h : Memory.wf m = true) : Memory.wf (memWrite m a b) = true := by
  induction m with
  | nil => unfold memWrite; split <;> simp_all [Memory.wf]
  | cons c t ih =>
    obtain ⟨a', b'⟩ := c
    obtain ⟨h1, h2, h3⟩ := (wf_cons _ _).1 h
    simp only [memWrite]
    split
    · rename_i hlt
      split
      · exact h
      · rename_i hb
        refine (wf_cons _ _).2 ⟨hb, ?_, h⟩
        intro x hx
        rcases List.mem_cons.1 hx with e | e
        · subst e; exact hlt
        · exact Nat.lt_trans hlt (h2 x e)
    · split
      · rename_i hn he
        split
        · exact h3
        · rename_i hb
          exact (wf_cons _ _).2 ⟨hb, fun x hx => he ▸ h2 x hx, h3⟩
      · rename_i hn he
        refine (wf_cons _ _).2 ⟨h1, ?_, ih h3⟩
        intro x hx
        rcases mem_of_memWrite t a b x hx with e | e
        · subst e; simp only; omega
        · exact h2 x e

/-- Bytes written keep the canonical form. -/
theorem memWrites_wf (bs : List Byte) (m : List Host.Cell) (a : Nat) (h : Memory.wf m = true) :
    Memory.wf (memWrites m a bs) = true := by
  induction bs generalizing m a with
  | nil => exact h
  | cons b bs ih => exact ih _ _ (memWrite_wf m a b h)

/-- Leaving cells out keeps the canonical form. -/
theorem filter_wf (p : Host.Cell → Bool) (m : List Host.Cell) (h : Memory.wf m = true) : Memory.wf (m.filter p) = true := by
  induction m with
  | nil => rfl
  | cons c t ih =>
    obtain ⟨h1, h2, h3⟩ := (wf_cons _ _).1 h
    rw [List.filter_cons]
    split
    · exact (wf_cons _ _).2 ⟨h1, fun x hx => h2 x (List.mem_filter.1 hx).1, ih h3⟩
    · exact ih h3

/-- A run of single writes keeps the canonical form. -/
theorem foldl_memWrite_wf {α : Type} (l : List α) (f : α → Nat) (g : α → Byte) (m : List Host.Cell) (h : Memory.wf m = true) :
    Memory.wf (l.foldl (fun m c => memWrite m (f c) (g c)) m) = true := by
  induction l generalizing m with
  | nil => exact h
  | cons c l ih => exact ih _ (memWrite_wf m _ _ h)

/-- No cell of a canonical list lies at an address below its first. -/
theorem memRead_below (m : List Host.Cell) (a : Nat) (h : ∀ c ∈ m, a < c.1) : memRead m a = 0 := by
  induction m with
  | nil => rfl
  | cons c t ih =>
    obtain ⟨a', b'⟩ := c
    have h1 : a < a' := h _ (List.mem_cons_self ..)
    have h2 : ¬a' = a := by omega
    show (if a' = a then b' else lookupD t a 0) = 0
    rw [if_neg h2]
    exact ih fun c hc => h c (.tail _ hc)

/-- A byte reads back as it was written. -/
theorem memRead_memWrite (m : List Host.Cell) (a : Nat) (b : Byte) (h : Memory.wf m = true) : memRead (memWrite m a b) a = b := by
  induction m with
  | nil => unfold memWrite; split <;> simp_all [memRead, lookupD]
  | cons c t ih =>
    obtain ⟨a', b'⟩ := c
    obtain ⟨h1, h2, h3⟩ := (wf_cons _ _).1 h
    simp only [memWrite]
    split
    · rename_i hlt
      split
      · rename_i hb
        rw [hb]
        exact memRead_below _ _ fun c hc => by
          rcases List.mem_cons.1 hc with e | e
          · subst e; exact hlt
          · exact Nat.lt_trans hlt (h2 c e)
      · simp [memRead, lookupD]
    · rename_i hn
      split
      · rename_i he
        split
        · rename_i hb
          rw [hb]
          exact memRead_below _ _ fun c hc => by rw [he]; exact h2 c hc
        · simp [memRead, lookupD]
      · rename_i he
        have h4 : ¬a' = a := fun e => he e.symm
        have := ih h3
        simpa [memRead, lookupD, h4] using this

/-- Every other address reads as before a write. -/
theorem memRead_memWrite_ne (m : List Host.Cell) (a x : Nat) (b : Byte) (h : x ≠ a) : memRead (memWrite m a b) x = memRead m x := by
  have h' : ¬a = x := fun e => h e.symm
  induction m with
  | nil => unfold memWrite; split <;> simp [memRead, lookupD, h']
  | cons c t ih =>
    obtain ⟨a', b'⟩ := c
    simp only [memWrite]
    split
    · split
      · rfl
      · simp [memRead, lookupD, h']
    · split
      · rename_i he
        subst he
        split <;> simp [memRead, lookupD, h']
      · by_cases hx : a' = x
        · simp [memRead, lookupD, hx]
        · simpa [memRead, lookupD, hx] using ih

/-- Every address outside the bytes written reads as before. -/
theorem memRead_memWrites_out (bs : List Byte) (m : List Host.Cell) (a x : Nat) (h : x < a ∨ a + bs.length ≤ x) :
    memRead (memWrites m a bs) x = memRead m x := by
  induction bs generalizing m a with
  | nil => rfl
  | cons b bs ih =>
    simp only [List.length_cons] at h
    have h1 : x ≠ a := by omega
    exact (ih (memWrite m a b) (a + 1) (by omega)).trans (memRead_memWrite_ne m a x b h1)

/-- A byte written among others reads back. -/
theorem memRead_memWrites (bs : List Byte) (m : List Host.Cell) (a k : Nat) (h : Memory.wf m = true) (hk : k < bs.length) :
    memRead (memWrites m a bs) (a + k) = bs[k] := by
  induction bs generalizing m a k with
  | nil => cases hk
  | cons b bs ih =>
    cases k with
    | zero =>
      have h1 := memRead_memWrites_out bs (memWrite m a b) (a + 1) a (.inl (Nat.lt_succ_self a))
      exact h1.trans (memRead_memWrite m a b h)
    | succ k =>
      have h1 := ih (memWrite m a b) (a + 1) k (memWrite_wf m a b h) (by simpa using hk)
      simpa [memWrites, Nat.add_assoc, Nat.add_comm 1 k] using h1

/-- Cells left out read zero, and all others as before. -/
theorem memRead_filter (p : Nat → Bool) (m : List Host.Cell) (x : Nat) :
    memRead (m.filter fun c => p c.1) x = if p x then memRead m x else 0 := by
  induction m with
  | nil => simp [memRead, lookupD]
  | cons c t ih =>
    obtain ⟨a', b'⟩ := c
    by_cases hx : a' = x
    · subst hx
      by_cases hp : p a' = true
      · simp [memRead, lookupD, hp]
      · simp only [Bool.not_eq_true] at hp
        simp [hp] at ih ⊢
        exact ih
    · by_cases hp : p a' = true
      · simpa [memRead, lookupD, hp, hx] using ih
      · simpa [memRead, lookupD, hp, hx] using ih

/-- A range cleared reads zero, and every other address as before. -/
theorem memRead_memClear (s : State) (a n x : Nat) :
    memRead (s.memClear a n).mem x = if a ≤ x ∧ x < a + n then 0 else memRead s.mem x := by
  have h := memRead_filter (fun c => !(a ≤ c && c < a + n)) s.mem x
  refine h.trans ?_
  by_cases hx : a ≤ x ∧ x < a + n
  · have hb : (!(decide (a ≤ x) && decide (x < a + n))) = false := by simp only [hx.1, hx.2, decide_true, Bool.and_self, Bool.not_true]
    rw [if_pos hx]; simp only [hb, Bool.false_eq_true, if_false]
  · have hb : (!(decide (a ≤ x) && decide (x < a + n))) = true := by
      cases h1 : decide (a ≤ x)
      · rfl
      · cases h2 : decide (x < a + n)
        · rfl
        · exact absurd ⟨of_decide_eq_true h1, of_decide_eq_true h2⟩ hx
    rw [if_neg hx]; simp only [hb, if_true]

end Sys2Proof.Machine
end

