-- ==== Sys2Proof/Laws/Within.lean ====
section
/-! SUPPORT. What an operation leaves as it is: every part of the state outside a set of parts, and one lemma for each way of putting operations together. -/
set_option linter.all false
namespace Sys2Proof.Machine

/-- The number of a register among the parts. -/
def RegName.ix (r : RegName) : Nat := 23 + r.ctorIdx

/-- The number of a part. -/
def Part.ix : Part → Nat
  | .reg r => r.ix
  | .rdShadow => 0
  | .wrShadow => 1
  | .time => 2
  | .ports => 3
  | .tx => 4
  | .cams => 5
  | .frames => 6
  | .cores => 7
  | .devBarrier => 8
  | .hold => 9
  | .adapt => 10
  | .sec => 11
  | .boot => 12
  | .groups => 13
  | .fns => 14
  | .rrFn => 15
  | .sfl => 16
  | .chn => 17
  | .log => 18
  | .fatal => 19
  | .mem => 20
  | .out => 21
  | .free => 22

/-- a's parts are all among b's. -/
def Sub (a b : Nat) : Prop := Nat.land a b = a

/-- Part k is among m's. -/
def Has (m k : Nat) : Prop := m.testBit k = true

theorem has_of {a b k : Nat} (h : Sub a b) (hk : a.testBit k = true) : Has b k := by
  have h2 : (Nat.land a b).testBit k = true := by rw [h]; exact hk
  have h3 : (a &&& b).testBit k = true := h2
  rw [Nat.testBit_and] at h3
  simp only [Bool.and_eq_true] at h3
  exact h3.2

theorem sub_trans {a b c : Nat} (h : Sub b c) (hab : Sub a b) : Sub a c := by
  unfold Sub at *
  have h1 : a &&& b = a := hab
  have h2 : b &&& c = b := h
  show a &&& c = a
  rw [← h1, Nat.and_assoc, h2]

/-- t holds what s held, but in the parts of m. -/
structure Within (m : Nat) (s t : State) : Prop where
  same : ∀ p : Part, m.testBit p.ix = false → Same p s t

theorem within_refl (m : Nat) (s : State) : Within m s s := by
  refine ⟨fun p _ => ?_⟩
  cases p <;> first | rfl | exact fun _ => rfl | exact ⟨rfl, rfl, rfl⟩

theorem no_part {m k : Nat} {P : Prop} (h : m.testBit k = false) (hh : Has m k) : P :=
  absurd (h.symm.trans hh) (by decide)

/-- The parts of a state written field by field. -/
theorem within_mk {m : Nat} {s0 t : State} {a1 a2 a3 a4 a5 a6 a7 a8 a9 a10 a11 a12 a13 a14 a15 a16 a17 a18 a19 a20 a21 a22 a23 a24 a25 a26 a27}
    (h1 : a1 = t.regs) (h : Within m s0 t)
    (h2 : a2 = t.rdShadow ∨ Has m 0)
    (h3 : a3 = t.wrShadow ∨ Has m 1)
    (h4 : a4 = t.time ∨ Has m 2)
    (h5 : a5 = t.ports ∨ Has m 3)
    (h6 : a6 = t.tx ∨ Has m 4)
    (h7 : a7 = t.cams ∨ Has m 5)
    (h8 : a8 = t.frames ∨ Has m 6)
    (h9 : a9 = t.cores ∨ Has m 7)
    (h10 : a10 = t.devPhase ∨ Has m 8)
    (h11 : a11 = t.devArrived ∨ Has m 8)
    (h12 : a12 = t.devMembers ∨ Has m 8)
    (h13 : a13 = t.hold ∨ Has m 9)
    (h14 : a14 = t.adapt ∨ Has m 10)
    (h15 : a15 = t.sec ∨ Has m 11)
    (h16 : a16 = t.boot ∨ Has m 12)
    (h17 : a17 = t.groups ∨ Has m 13)
    (h18 : a18 = t.fns ∨ Has m 14)
    (h19 : a19 = t.rrFn ∨ Has m 15)
    (h20 : a20 = t.sfl ∨ Has m 16)
    (h21 : a21 = t.chn ∨ Has m 17)
    (h22 : a22 = t.log ∨ Has m 18)
    (h23 : a23 = t.fatal ∨ Has m 19)
    (h24 : a24 = t.mem ∨ Has m 20)
    (h25 : a25 = t.out ∨ Has m 21)
    (h26 : a26 = t.free ∨ Has m 22) :
    Within m s0 (State.mk a1 a2 a3 a4 a5 a6 a7 a8 a9 a10 a11 a12 a13 a14 a15 a16 a17 a18 a19 a20 a21 a22 a23 a24 a25 a26 a27) := by
  refine ⟨fun p hp => ?_⟩
  have hs := h.same p hp
  cases p with
  | reg r => exact fun i => (show lookupD a1 (r, i) (r.reset i) = _ by rw [h1]; exact hs i)
  | rdShadow => exact h2.elim (fun e => e.trans hs) (no_part hp)
  | wrShadow => exact h3.elim (fun e => e.trans hs) (no_part hp)
  | time => exact h4.elim (fun e => e.trans hs) (no_part hp)
  | ports => exact h5.elim (fun e => e.trans hs) (no_part hp)
  | tx => exact h6.elim (fun e => e.trans hs) (no_part hp)
  | cams => exact h7.elim (fun e => e.trans hs) (no_part hp)
  | frames => exact h8.elim (fun e => e.trans hs) (no_part hp)
  | cores => exact h9.elim (fun e => e.trans hs) (no_part hp)
  | hold => exact h13.elim (fun e => e.trans hs) (no_part hp)
  | adapt => exact h14.elim (fun e => e.trans hs) (no_part hp)
  | sec => exact h15.elim (fun e => e.trans hs) (no_part hp)
  | boot => exact h16.elim (fun e => e.trans hs) (no_part hp)
  | groups => exact h17.elim (fun e => e.trans hs) (no_part hp)
  | fns => exact h18.elim (fun e => e.trans hs) (no_part hp)
  | rrFn => exact h19.elim (fun e => e.trans hs) (no_part hp)
  | sfl => exact h20.elim (fun e => e.trans hs) (no_part hp)
  | chn => exact h21.elim (fun e => e.trans hs) (no_part hp)
  | log => exact h22.elim (fun e => e.trans hs) (no_part hp)
  | fatal => exact h23.elim (fun e => e.trans hs) (no_part hp)
  | mem => exact h24.elim (fun e => e.trans hs) (no_part hp)
  | out => exact h25.elim (fun e => e.trans hs) (no_part hp)
  | free => exact h26.elim (fun e => e.trans hs) (no_part hp)
  | devBarrier =>
    exact h10.elim (fun e1 => h11.elim (fun e2 => h12.elim (fun e3 => ⟨e1.trans hs.1, e2.trans hs.2.1, e3.trans hs.2.2⟩)
      (no_part hp)) (no_part hp)) (no_part hp)

/-- Every part. -/
def allParts : Nat := 0x7ffffffffffffffffffffffffffffffffffffffffffffffffffffffffffffffffffffffff

theorem within_all {m : Nat} {s0 t : State} (hw : Sub allParts m) : Within m s0 t := by
  refine ⟨fun p hp => ?_⟩
  cases p with
  | reg r => cases r <;> exact no_part hp (has_of hw rfl)
  | _ => exact no_part hp (has_of hw rfl)

theorem within_ite {m : Nat} {s0 a b : State} {c : Prop} [Decidable c] (ha : Within m s0 a) (hb : Within m s0 b) :
    Within m s0 (if c then a else b) := by
  split <;> assumption
theorem within_ite2 {α : Type} {m : Nat} {s0 : State} {a b : α × State} {c : Prop} [Decidable c] (ha : Within m s0 a.2)
    (hb : Within m s0 b.2) : Within m s0 (if c then a else b).2 := by
  split <;> assumption
theorem within_foldl {α : Type} {m : Nat} {s0 s : State} (l : List α) (f : State → α → State) (h : Within m s0 s)
    (hf : ∀ t x, Within m s0 t → Within m s0 (f t x)) : Within m s0 (l.foldl f s) := by
  induction l generalizing s with
  | nil => exact h
  | cons x l ih => exact ih (hf s x h)

/-- The number of a register is below the number of registers, and gives it back. -/
theorem ctorIdx_lt (r : RegName) : r.ctorIdx < 268 := by cases r <;> decide

/-- A register of a list that a set of parts has. -/
theorem has_mem {m M : Nat} {l : List RegName} (hw : Sub m M) (h : (l.all fun r => m.testBit r.ix) = true) {r : RegName}
    (hr : r ∈ l) : Has M r.ix :=
  has_of hw (List.all_eq_true.mp h r hr)

/-- A register that satisfies a test, when a set of parts has every one that does. -/
theorem has_pred {m M : Nat} {q : RegName → Bool} (hw : Sub m M)
    (h : ((List.range 268).all fun k => !q (RegName.ofNat k) || m.testBit (23 + k)) = true)
    {r : RegName} (hb : q r = true) : Has M r.ix := by
  have h1 := List.all_eq_true.mp h r.ctorIdx (List.mem_range.mpr (ctorIdx_lt r))
  rw [RegName.ofNat_ctorIdx, hb] at h1
  exact has_of hw h1

/-- A register of a block whose registers a set of parts all has. -/
theorem has_blk {m M : Nat} {b : Block} (hw : Sub m M)
    (h : ((List.range 268).all fun k => !decide ((RegName.ofNat k).info.block = b) || m.testBit (23 + k)) = true)
    {r : RegName} (hb : r.info.block = b) : Has M r.ix := by
  have h1 := List.all_eq_true.mp h r.ctorIdx (List.mem_range.mpr (ctorIdx_lt r))
  rw [RegName.ofNat_ctorIdx] at h1
  simp only [hb, decide_true, Bool.not_true, Bool.false_or] at h1
  exact has_of hw h1

theorem within_setReg {m : Nat} {s0 s : State} (r : RegName) (i : Nat) (w : Word) (hr : Has m r.ix)
    (hk : Within m s0 s) : Within m s0 (s.setReg r i w) := by
  refine ⟨fun p hp => ?_⟩
  have hs := hk.same p hp
  cases p with
  | reg r' =>
    intro i'
    refine Eq.trans (lookupD_insertAt_ne s.regs (r, i) (r', i') w _ ?_) (hs i')
    intro e2
    injection e2 with e3 _
    subst e3
    exact no_part hp hr
  | _ => exact hs

theorem within_resetRegs {m : Nat} {s0 s : State} (q : RegName → Nat → Bool) (hr : ∀ r i, q r i = true → Has m r.ix)
    (hk : Within m s0 s) : Within m s0 (s.resetRegs q) := by
  refine ⟨fun p hp => ?_⟩
  have hs := hk.same p hp
  cases p with
  | reg r' =>
    intro i'
    refine Eq.trans (lookupD_filter s.regs (fun x => !q x.1 x.2) (r', i') _ ?_) (hs i')
    cases hq : q r' i' with
    | false => simp
    | true => exact no_part hp (hr r' i' hq)
  | _ => exact hs

/-- The number of a list of parts. -/
def partsMask (l : List Part) : Nat := l.foldr (fun p m => 2 ^ p.ix ||| m) 0

theorem ix_injective {p q : Part} (h : p.ix = q.ix) : p = q := by
  have back : ∀ r r' : RegName, r.ix = r'.ix → r = r' := by
    intro r r' e
    have e2 : r.ctorIdx = r'.ctorIdx := Nat.add_left_cancel e
    rw [← RegName.ofNat_ctorIdx r, e2, RegName.ofNat_ctorIdx]
  have ge : ∀ r : RegName, 23 ≤ r.ix := fun r => Nat.le_add_right ..
  cases p with
  | reg a =>
    cases q with
    | reg b => rw [back a b h]
    | _ => exact absurd (Nat.le_trans (ge a) (Nat.le_of_eq h)) (by decide)
  | _ =>
    cases q with
    | reg b => exact absurd (Nat.le_trans (ge b) (Nat.le_of_eq h.symm)) (by decide)
    | _ => first | rfl | cases h

theorem testBit_partsMask (l : List Part) (p : Part) (h : p ∉ l) : (partsMask l).testBit p.ix = false := by
  induction l with
  | nil => simp [partsMask]
  | cons q l ih =>
    have h1 : p ≠ q := fun e => h (e ▸ List.mem_cons_self ..)
    have h2 : q.ix ≠ p.ix := fun e => h1 (ix_injective e).symm
    have h3 := ih fun e => h (List.mem_cons_of_mem _ e)
    simp only [partsMask, List.foldr_cons, Nat.testBit_or, Nat.testBit_two_pow, Bool.or_eq_false_iff, decide_eq_false_iff_not]
    exact ⟨h2, h3⟩

/-- Within the parts of a list, every other part is the same. -/
theorem same_of_within {l : List Part} {s t : State} (h : Within (partsMask l) s t) (p : Part) (hp : p ∉ l) : Same p s t :=
  h.same p (testBit_partsMask l p hp)

end Sys2Proof.Machine
end

