-- ==== Sys2Proof/Laws/WithinOps.lean ====
section
/-! SUPPORT. The parts that each operation of registers, intake, links and time may touch. -/
set_option linter.all false
namespace Sys2Proof.Machine

theorem within_setRegN {M : Nat} {s0 s : State} (r : RegName) (i : Nat) (v : Nat) (hr_r : Has M r.ix) (hk : Within M s0 s) :
   Within M s0 (State.setRegN s r i v) := by
  unfold State.setRegN
  repeat' (first | intro _ | with_reducible assumption | with_reducible exact rfl | with_reducible exact .inl rfl | exact .inl rfl | dsimp only | with_reducible apply within_setReg | exact hr_r | with_reducible apply within_ite | with_reducible apply within_ite2 | with_reducible apply within_foldl | split | ((with_reducible apply within_mk); with_reducible exact rfl))

theorem within_setFld {M : Nat} {s0 s : State} (f : Fld) (i : Nat) (v : Nat) (hr_f : Has M f.reg.ix) (hk : Within M s0 s) :
   Within M s0 (State.setFld s f i v) := by
  unfold State.setFld
  repeat' (first | intro _ | with_reducible assumption | with_reducible exact rfl | with_reducible exact .inl rfl | exact .inl rfl | dsimp only | with_reducible apply within_setRegN | exact hr_f | with_reducible apply within_ite | with_reducible apply within_ite2 | with_reducible apply within_foldl | split | ((with_reducible apply within_mk); with_reducible exact rfl))

theorem within_setPair {M : Nat} {s0 s : State} (lo : RegName) (hi : RegName) (i : Nat) (v : Nat) (hr_lo : Has M lo.ix) (hr_hi : Has M hi.ix) (hk : Within M s0 s) :
   Within M s0 (State.setPair s lo hi i v) := by
  unfold State.setPair
  repeat' (first | intro _ | with_reducible assumption | with_reducible exact rfl | with_reducible exact .inl rfl | exact .inl rfl | dsimp only | with_reducible apply within_setRegN | exact hr_hi | exact hr_lo | with_reducible apply within_ite | with_reducible apply within_ite2 | with_reducible apply within_foldl | split | ((with_reducible apply within_mk); with_reducible exact rfl))

theorem within_setPort {M : Nat} {s0 s : State} (p : Nat) (x : PortS) (hw : Sub 0x8 M) (hk : Within M s0 s) :
   Within M s0 (State.setPort s p x) := by
  unfold State.setPort
  repeat' (first | intro _ | with_reducible assumption | with_reducible exact rfl | exact sub_trans hw rfl | exact has_of hw rfl | with_reducible exact .inl rfl | exact .inr (has_of hw rfl) | exact .inl rfl | dsimp only | with_reducible apply within_ite | with_reducible apply within_ite2 | with_reducible apply within_foldl | split | ((with_reducible apply within_mk); with_reducible exact rfl))

theorem within_modPort {M : Nat} {s0 s : State} (p : Nat) (f : PortS → PortS) (hw : Sub 0x8 M) (hk : Within M s0 s) :
   Within M s0 (State.modPort s p f) := by
  unfold State.modPort
  repeat' (first | intro _ | with_reducible assumption | with_reducible exact rfl | exact sub_trans hw rfl | exact has_of hw rfl | with_reducible exact .inl rfl | exact .inr (has_of hw rfl) | exact .inl rfl | dsimp only | with_reducible apply within_setPort | with_reducible apply within_ite | with_reducible apply within_ite2 | with_reducible apply within_foldl | split | ((with_reducible apply within_mk); with_reducible exact rfl))

theorem within_setCam {M : Nat} {s0 s : State} (n : Nat) (x : CamS) (hw : Sub 0x20 M) (hk : Within M s0 s) :
   Within M s0 (State.setCam s n x) := by
  unfold State.setCam
  repeat' (first | intro _ | with_reducible assumption | with_reducible exact rfl | exact sub_trans hw rfl | exact has_of hw rfl | with_reducible exact .inl rfl | exact .inr (has_of hw rfl) | exact .inl rfl | dsimp only | with_reducible apply within_ite | with_reducible apply within_ite2 | with_reducible apply within_foldl | split | ((with_reducible apply within_mk); with_reducible exact rfl))

theorem within_modCam {M : Nat} {s0 s : State} (n : Nat) (f : CamS → CamS) (hw : Sub 0x20 M) (hk : Within M s0 s) :
   Within M s0 (State.modCam s n f) := by
  unfold State.modCam
  repeat' (first | intro _ | with_reducible assumption | with_reducible exact rfl | exact sub_trans hw rfl | exact has_of hw rfl | with_reducible exact .inl rfl | exact .inr (has_of hw rfl) | exact .inl rfl | dsimp only | with_reducible apply within_setCam | with_reducible apply within_ite | with_reducible apply within_ite2 | with_reducible apply within_foldl | split | ((with_reducible apply within_mk); with_reducible exact rfl))

theorem within_setFrame {M : Nat} {s0 s : State} (n : Nat) (q : Nat) (x : FrameS) (hw : Sub 0x40 M) (hk : Within M s0 s) :
   Within M s0 (State.setFrame s n q x) := by
  unfold State.setFrame
  repeat' (first | intro _ | with_reducible assumption | with_reducible exact rfl | exact sub_trans hw rfl | exact has_of hw rfl | with_reducible exact .inl rfl | exact .inr (has_of hw rfl) | exact .inl rfl | dsimp only | with_reducible apply within_ite | with_reducible apply within_ite2 | with_reducible apply within_foldl | split | ((with_reducible apply within_mk); with_reducible exact rfl))

theorem within_modFrame {M : Nat} {s0 s : State} (n : Nat) (q : Nat) (f : FrameS → FrameS) (hw : Sub 0x40 M) (hk : Within M s0 s) :
   Within M s0 (State.modFrame s n q f) := by
  unfold State.modFrame
  repeat' (first | intro _ | with_reducible assumption | with_reducible exact rfl | exact sub_trans hw rfl | exact has_of hw rfl | with_reducible exact .inl rfl | exact .inr (has_of hw rfl) | exact .inl rfl | dsimp only | with_reducible apply within_setFrame | with_reducible apply within_ite | with_reducible apply within_ite2 | with_reducible apply within_foldl | split | ((with_reducible apply within_mk); with_reducible exact rfl))

theorem within_setFn {M : Nat} {s0 s : State} (f : Nat) (x : FnS) (hw : Sub 0x4000 M) (hk : Within M s0 s) :
   Within M s0 (State.setFn s f x) := by
  unfold State.setFn
  repeat' (first | intro _ | with_reducible assumption | with_reducible exact rfl | exact sub_trans hw rfl | exact has_of hw rfl | with_reducible exact .inl rfl | exact .inr (has_of hw rfl) | exact .inl rfl | dsimp only | with_reducible apply within_ite | with_reducible apply within_ite2 | with_reducible apply within_foldl | split | ((with_reducible apply within_mk); with_reducible exact rfl))

theorem within_modFn {M : Nat} {s0 s : State} (f : Nat) (g : FnS → FnS) (hw : Sub 0x4000 M) (hk : Within M s0 s) :
   Within M s0 (State.modFn s f g) := by
  unfold State.modFn
  repeat' (first | intro _ | with_reducible assumption | with_reducible exact rfl | exact sub_trans hw rfl | exact has_of hw rfl | with_reducible exact .inl rfl | exact .inr (has_of hw rfl) | exact .inl rfl | dsimp only | with_reducible apply within_setFn | with_reducible apply within_ite | with_reducible apply within_ite2 | with_reducible apply within_foldl | split | ((with_reducible apply within_mk); with_reducible exact rfl))

theorem within_modTime {M : Nat} {s0 s : State} (f : TimeS → TimeS) (hw : Sub 0x4 M) (hk : Within M s0 s) :
   Within M s0 (State.modTime s f) := by
  unfold State.modTime
  repeat' (first | intro _ | with_reducible assumption | with_reducible exact rfl | exact sub_trans hw rfl | exact has_of hw rfl | with_reducible exact .inl rfl | exact .inr (has_of hw rfl) | exact .inl rfl | dsimp only | with_reducible apply within_ite | with_reducible apply within_ite2 | with_reducible apply within_foldl | split | ((with_reducible apply within_mk); with_reducible exact rfl))

theorem within_emit {M : Nat} {s0 s : State} (o : Out) (hw : Sub 0x200000 M) (hk : Within M s0 s) :
   Within M s0 (State.emit s o) := by
  unfold State.emit
  repeat' (first | intro _ | with_reducible assumption | with_reducible exact rfl | exact sub_trans hw rfl | exact has_of hw rfl | with_reducible exact .inl rfl | exact .inr (has_of hw rfl) | exact .inl rfl | dsimp only | with_reducible apply within_ite | with_reducible apply within_ite2 | with_reducible apply within_foldl | split | ((with_reducible apply within_mk); with_reducible exact rfl))

theorem within_takeFree {M : Nat} {s0 s : State} (hw : Sub 0x400000 M) (hk : Within M s0 s) :
   Within M s0 (State.takeFree s).2 := by
  unfold State.takeFree
  repeat' (first | intro _ | with_reducible assumption | with_reducible exact rfl | exact sub_trans hw rfl | exact has_of hw rfl | with_reducible exact .inl rfl | exact .inr (has_of hw rfl) | exact .inl rfl | dsimp only | with_reducible apply within_ite | with_reducible apply within_ite2 | with_reducible apply within_foldl | split | ((with_reducible apply within_mk); with_reducible exact rfl))

theorem within_spend {M : Nat} {s0 s : State} (n : Nat) (hw : Sub 0x400000 M) (hk : Within M s0 s) :
   Within M s0 (State.spend s n) := by
  unfold State.spend
  repeat' (first | intro _ | with_reducible assumption | with_reducible exact rfl | exact sub_trans hw rfl | exact has_of hw rfl | with_reducible exact .inl rfl | exact .inr (has_of hw rfl) | exact .inl rfl | dsimp only | with_reducible apply within_ite | with_reducible apply within_ite2 | with_reducible apply within_foldl | split | ((with_reducible apply within_mk); with_reducible exact rfl))

theorem within_elapse {M : Nat} {s0 s : State} (dt : Nat) (hw : Sub 0x200014 M) (hk : Within M s0 s) :
   Within M s0 (State.elapse s dt) := by
  unfold State.elapse
  repeat' (first | intro _ | with_reducible assumption | with_reducible exact rfl | exact sub_trans hw rfl | exact has_of hw rfl | with_reducible exact .inl rfl | exact .inr (has_of hw rfl) | exact .inl rfl | dsimp only | with_reducible apply within_advance | with_reducible apply within_ite | with_reducible apply within_ite2 | with_reducible apply within_foldl | split | ((with_reducible apply within_mk); with_reducible exact rfl))

theorem within_queueBlock {M : Nat} {s0 s : State} (p : Nat) (prio : Nat) (typ : Nat) (payload : Nat) (hw : Sub 0x10 M) (hk : Within M s0 s) :
   Within M s0 (State.queueBlock s p prio typ payload) := by
  unfold State.queueBlock
  repeat' (first | intro _ | with_reducible assumption | with_reducible exact rfl | exact sub_trans hw rfl | exact has_of hw rfl | with_reducible exact .inl rfl | exact .inr (has_of hw rfl) | exact .inl rfl | dsimp only | with_reducible apply within_ite | with_reducible apply within_ite2 | with_reducible apply within_foldl | split | ((with_reducible apply within_mk); with_reducible exact rfl))

theorem within_raise {M : Nat} {s0 s : State} (fn : Nat) (vector : Nat) (hw : Sub 0x200000 M) (hk : Within M s0 s) :
   Within M s0 (State.raise s fn vector) := by
  unfold State.raise
  repeat' (first | intro _ | with_reducible assumption | with_reducible exact rfl | exact sub_trans hw rfl | exact has_of hw rfl | with_reducible exact .inl rfl | exact .inr (has_of hw rfl) | exact .inl rfl | dsimp only | with_reducible apply within_emit | with_reducible apply within_ite | with_reducible apply within_ite2 | with_reducible apply within_foldl | split | ((with_reducible apply within_mk); with_reducible exact rfl))

theorem within_obsAdd {M : Nat} {s0 s : State} (i : Nat) (n : Nat) (hw : Sub 0x40000 M) (hk : Within M s0 s) :
   Within M s0 (State.obsAdd s i n) := by
  unfold State.obsAdd
  repeat' (first | intro _ | with_reducible assumption | with_reducible exact rfl | exact sub_trans hw rfl | exact has_of hw rfl | with_reducible exact .inl rfl | exact .inr (has_of hw rfl) | exact .inl rfl | dsimp only | with_reducible apply within_ite | with_reducible apply within_ite2 | with_reducible apply within_foldl | split | ((with_reducible apply within_mk); with_reducible exact rfl))

theorem within_traceEv {M : Nat} {s0 s : State} (group : Nat) (typ : Nat) (src : Nat) (arg : Nat) (hw : Sub 0x20000000000000000000000000000000000000000000000000000000000000000040000 M) (hk : Within M s0 s) :
   Within M s0 (State.traceEv s group typ src arg) := by
  unfold State.traceEv
  repeat' (first | intro _ | with_reducible assumption | with_reducible exact rfl | exact sub_trans hw rfl | exact has_of hw rfl | with_reducible exact .inl rfl | exact .inr (has_of hw rfl) | exact .inl rfl | dsimp only | with_reducible apply within_setRegN | with_reducible apply within_ite | with_reducible apply within_ite2 | with_reducible apply within_foldl | split | ((with_reducible apply within_mk); with_reducible exact rfl))

theorem within_captureFirst {M : Nat} {s0 s : State} (e : ErrEntry) (hw : Sub 0x600000000000000000000000000000000000000000000000000000000000000000000 M) (hk : Within M s0 s) :
   Within M s0 (State.captureFirst s e) := by
  unfold State.captureFirst
  repeat' (first | intro _ | with_reducible assumption | with_reducible exact rfl | exact sub_trans hw rfl | exact has_of hw rfl | with_reducible exact .inl rfl | exact .inr (has_of hw rfl) | exact .inl rfl | dsimp only | with_reducible apply within_setRegN | with_reducible apply within_setFld | with_reducible apply within_ite | with_reducible apply within_ite2 | with_reducible apply within_foldl | split | ((with_reducible apply within_mk); with_reducible exact rfl))

theorem within_newEntry {M : Nat} {s0 s : State} (e : ErrEntry) (hw : Sub 0x24640000000000000000000000000000000000000000000000000000000000000240000 M) (hk : Within M s0 s) :
   Within M s0 (State.newEntry s e) := by
  unfold State.newEntry
  repeat' (first | intro _ | with_reducible assumption | with_reducible exact rfl | exact sub_trans hw rfl | exact has_of hw rfl | with_reducible exact .inl rfl | exact .inr (has_of hw rfl) | exact .inl rfl | dsimp only | with_reducible apply within_setRegN | with_reducible apply within_captureFirst | with_reducible apply within_traceEv | with_reducible apply within_raise | with_reducible apply within_ite | with_reducible apply within_ite2 | with_reducible apply within_foldl | split | ((with_reducible apply within_mk); with_reducible exact rfl))

theorem within_logEvent {M : Nat} {s0 s : State} (cls : Nat) (src : Nat) (code : Nat) (info : Nat) (flags : Nat) (hw : Sub 0x24640000000000000000000000000000000000000000000000000000000000000240000 M) (hk : Within M s0 s) :
   Within M s0 (State.logEvent s cls src code info flags) := by
  unfold State.logEvent
  repeat' (first | intro _ | with_reducible assumption | with_reducible exact rfl | exact sub_trans hw rfl | exact has_of hw rfl | with_reducible exact .inl rfl | exact .inr (has_of hw rfl) | exact .inl rfl | dsimp only | with_reducible apply within_captureFirst | with_reducible apply within_newEntry | with_reducible apply within_ite | with_reducible apply within_ite2 | with_reducible apply within_foldl | split | ((with_reducible apply within_mk); with_reducible exact rfl))

theorem within_bump {M : Nat} {s0 s : State} (r : RegName) (i : Nat) (cls : Nat) (src : Nat) (n : Nat) (info : Nat) (hw : Sub 0x24640000000000000000000000000000000000000000000000000000000000000240000 M) (hr_r : Has M r.ix) (hk : Within M s0 s) :
   Within M s0 (State.bump s r i cls src n info) := by
  unfold State.bump
  repeat' (first | intro _ | with_reducible assumption | with_reducible exact rfl | exact sub_trans hw rfl | exact has_of hw rfl | with_reducible exact .inl rfl | exact .inr (has_of hw rfl) | exact .inl rfl | dsimp only | with_reducible apply within_setRegN | with_reducible apply within_logEvent | with_reducible apply within_captureFirst | exact hr_r | with_reducible apply within_ite | with_reducible apply within_ite2 | with_reducible apply within_foldl | split | ((with_reducible apply within_mk); with_reducible exact rfl))

theorem within_setEvt {M : Nat} {s0 s : State} (f : Fld) (i : Nat) (hr_f : Has M f.reg.ix) (hk : Within M s0 s) :
   Within M s0 (State.setEvt s f i) := by
  unfold State.setEvt
  repeat' (first | intro _ | with_reducible assumption | with_reducible exact rfl | with_reducible exact .inl rfl | exact .inl rfl | dsimp only | with_reducible apply within_setFld | exact hr_f | with_reducible apply within_ite | with_reducible apply within_ite2 | with_reducible apply within_foldl | split | ((with_reducible apply within_mk); with_reducible exact rfl))

theorem within_aerError {M : Nat} {s0 s : State} (fn : Nat) (hw : Sub 0x24640000000000000000000000000000000000000000000000000000000000000240000 M) (hk : Within M s0 s) :
   Within M s0 (State.aerError s fn) := by
  unfold State.aerError
  repeat' (first | intro _ | with_reducible assumption | with_reducible exact rfl | exact sub_trans hw rfl | exact has_of hw rfl | with_reducible exact .inl rfl | exact .inr (has_of hw rfl) | exact .inl rfl | dsimp only | with_reducible apply within_emit | with_reducible apply within_logEvent | with_reducible apply within_ite | with_reducible apply within_ite2 | with_reducible apply within_foldl | split | ((with_reducible apply within_mk); with_reducible exact rfl))

theorem within_hostWrite {M : Nat} {s0 s : State} (fn : Nat) (addr : Nat) (bytes : List Byte) (hw : Sub 0x24640000000000000000400000000000000000000000000000000000000000000240000 M) (hk : Within M s0 s) :
   Within M s0 (State.hostWrite s fn addr bytes) := by
  unfold State.hostWrite
  repeat' (first | intro _ | with_reducible assumption | with_reducible exact rfl | exact sub_trans hw rfl | exact has_of hw rfl | with_reducible exact .inl rfl | exact .inr (has_of hw rfl) | exact .inl rfl | dsimp only | with_reducible apply within_emit | with_reducible apply within_obsAdd | with_reducible apply within_setRegN | with_reducible apply within_logEvent | with_reducible apply within_ite | with_reducible apply within_ite2 | with_reducible apply within_foldl | split | ((with_reducible apply within_mk); with_reducible exact rfl))

theorem within_barrierRead {M : Nat} {s0 s : State} (fn : Nat) (hw : Sub 0x200000 M) (hk : Within M s0 s) :
   Within M s0 (State.barrierRead s fn) := by
  unfold State.barrierRead
  repeat' (first | intro _ | with_reducible assumption | with_reducible exact rfl | exact sub_trans hw rfl | exact has_of hw rfl | with_reducible exact .inl rfl | exact .inr (has_of hw rfl) | exact .inl rfl | dsimp only | with_reducible apply within_emit | with_reducible apply within_ite | with_reducible apply within_ite2 | with_reducible apply within_foldl | split | ((with_reducible apply within_mk); with_reducible exact rfl))

theorem within_ringWrite {M : Nat} {s0 s : State} (fn : Nat) (addr : Nat) (bytes : List Byte) (hw : Sub 0x24640000000000000000400000000000000000000000000000000000000000000240000 M) (hk : Within M s0 s) :
   Within M s0 (State.ringWrite s fn addr bytes) := by
  unfold State.ringWrite
  repeat' (first | intro _ | with_reducible assumption | with_reducible exact rfl | exact sub_trans hw rfl | exact has_of hw rfl | with_reducible exact .inl rfl | exact .inr (has_of hw rfl) | exact .inl rfl | dsimp only | with_reducible apply within_hostWrite | with_reducible apply within_ite | with_reducible apply within_ite2 | with_reducible apply within_foldl | split | ((with_reducible apply within_mk); with_reducible exact rfl))

theorem within_memPut {M : Nat} {s0 s : State} (a : Nat) (bs : List Byte) (hw : Sub 0x100000 M) (hk : Within M s0 s) :
   Within M s0 (State.memPut s a bs) := by
  unfold State.memPut
  repeat' (first | intro _ | with_reducible assumption | with_reducible exact rfl | exact sub_trans hw rfl | exact has_of hw rfl | with_reducible exact .inl rfl | exact .inr (has_of hw rfl) | exact .inl rfl | dsimp only | with_reducible apply within_ite | with_reducible apply within_ite2 | with_reducible apply within_foldl | split | ((with_reducible apply within_mk); with_reducible exact rfl))

theorem within_memZero {M : Nat} {s0 s : State} (hw : Sub 0x100000 M) (hk : Within M s0 s) :
   Within M s0 (State.memZero s) := by
  unfold State.memZero
  repeat' (first | intro _ | with_reducible assumption | with_reducible exact rfl | exact sub_trans hw rfl | exact has_of hw rfl | with_reducible exact .inl rfl | exact .inr (has_of hw rfl) | exact .inl rfl | dsimp only | with_reducible apply within_ite | with_reducible apply within_ite2 | with_reducible apply within_foldl | split | ((with_reducible apply within_mk); with_reducible exact rfl))

theorem within_memClear {M : Nat} {s0 s : State} (a : Nat) (n : Nat) (hw : Sub 0x100000 M) (hk : Within M s0 s) :
   Within M s0 (State.memClear s a n) := by
  unfold State.memClear
  repeat' (first | intro _ | with_reducible assumption | with_reducible exact rfl | exact sub_trans hw rfl | exact has_of hw rfl | with_reducible exact .inl rfl | exact .inr (has_of hw rfl) | exact .inl rfl | dsimp only | with_reducible apply within_ite | with_reducible apply within_ite2 | with_reducible apply within_foldl | split | ((with_reducible apply within_mk); with_reducible exact rfl))

theorem within_event {M : Nat} {s0 s : State} (fn : Nat) (typ : Nat) (a : Nat) (b : Nat) (hw : Sub 0x24640000000000000100400000000000000000000000000000000000000000000240000 M) (hk : Within M s0 s) :
   Within M s0 (State.event s fn typ a b) := by
  unfold State.event
  repeat' (first | intro _ | with_reducible assumption | with_reducible exact rfl | exact sub_trans hw rfl | exact has_of hw rfl | with_reducible exact .inl rfl | exact .inr (has_of hw rfl) | exact .inl rfl | dsimp only | with_reducible apply within_hostWrite | with_reducible apply within_setFld | with_reducible apply within_raise | with_reducible apply within_ite | with_reducible apply within_ite2 | with_reducible apply within_foldl | split | ((with_reducible apply within_mk); with_reducible exact rfl))

theorem within_setQueue {M : Nat} {s0 s : State} (fn : Nat) (q : Nat) (x : QueueS) (hw : Sub 0x4000 M) (hk : Within M s0 s) :
   Within M s0 (State.setQueue s fn q x) := by
  unfold State.setQueue
  repeat' (first | intro _ | with_reducible assumption | with_reducible exact rfl | exact sub_trans hw rfl | exact has_of hw rfl | with_reducible exact .inl rfl | exact .inr (has_of hw rfl) | exact .inl rfl | dsimp only | with_reducible apply within_modFn | with_reducible apply within_ite | with_reducible apply within_ite2 | with_reducible apply within_foldl | split | ((with_reducible apply within_mk); with_reducible exact rfl))

theorem within_setIdle {M : Nat} {s0 s : State} (f : Nat) (q : Nat) (hw : Sub 0x10000000000000000000000000000000000000000000000000000 M) (hk : Within M s0 s) :
   Within M s0 (State.setIdle s f q) := by
  unfold State.setIdle
  repeat' (first | intro _ | with_reducible assumption | with_reducible exact rfl | exact sub_trans hw rfl | exact has_of hw rfl | with_reducible exact .inl rfl | exact .inr (has_of hw rfl) | exact .inl rfl | dsimp only | with_reducible apply within_setFld | with_reducible apply within_ite | with_reducible apply within_ite2 | with_reducible apply within_foldl | split | ((with_reducible apply within_mk); with_reducible exact rfl))

theorem within_reply {M : Nat} {s0 s : State} (c : CmdRef) (status : Nat) (detail : Nat) (q0 : Nat) (q1 : Nat) (hw : Sub 0x24640000000000000010400000000000000000000000000000000000000000000245000 M) (hk : Within M s0 s) :
   Within M s0 (State.reply s c status detail q0 q1) := by
  unfold State.reply
  repeat' (first | intro _ | with_reducible assumption | with_reducible exact rfl | exact sub_trans hw rfl | exact has_of hw rfl | with_reducible exact .inl rfl | exact .inr (has_of hw rfl) | exact .inl rfl | dsimp only | with_reducible apply within_hostWrite | with_reducible apply within_setFld | with_reducible apply within_setQueue | with_reducible apply within_setIdle | with_reducible apply within_raise | with_reducible apply within_ite | with_reducible apply within_ite2 | with_reducible apply within_foldl | split | ((with_reducible apply within_mk); with_reducible exact rfl))

theorem within_setGroup {M : Nat} {s0 s : State} (g : Nat) (x : GroupS) (hw : Sub 0x2000 M) (hk : Within M s0 s) :
   Within M s0 (State.setGroup s g x) := by
  unfold State.setGroup
  repeat' (first | intro _ | with_reducible assumption | with_reducible exact rfl | exact sub_trans hw rfl | exact has_of hw rfl | with_reducible exact .inl rfl | exact .inr (has_of hw rfl) | exact .inl rfl | dsimp only | with_reducible apply within_ite | with_reducible apply within_ite2 | with_reducible apply within_foldl | split | ((with_reducible apply within_mk); with_reducible exact rfl))

theorem within_modGroup {M : Nat} {s0 s : State} (g : Nat) (f : GroupS → GroupS) (hw : Sub 0x2000 M) (hk : Within M s0 s) :
   Within M s0 (State.modGroup s g f) := by
  unfold State.modGroup
  repeat' (first | intro _ | with_reducible assumption | with_reducible exact rfl | exact sub_trans hw rfl | exact has_of hw rfl | with_reducible exact .inl rfl | exact .inr (has_of hw rfl) | exact .inl rfl | dsimp only | with_reducible apply within_setGroup | with_reducible apply within_ite | with_reducible apply within_ite2 | with_reducible apply within_foldl | split | ((with_reducible apply within_mk); with_reducible exact rfl))

theorem within_camCount {M : Nat} {s0 s : State} (r : RegName) (n : Nat) (cls : Nat) (info : Nat) (hw : Sub 0x24640000000000000000000000000000000000000000000000000000000000000240000 M) (hr_r : Has M r.ix) (hk : Within M s0 s) :
   Within M s0 (State.camCount s r n cls info) := by
  unfold State.camCount
  repeat' (first | intro _ | with_reducible assumption | with_reducible exact rfl | exact sub_trans hw rfl | exact has_of hw rfl | with_reducible exact .inl rfl | exact .inr (has_of hw rfl) | exact .inl rfl | dsimp only | with_reducible apply within_bump | exact hr_r | with_reducible apply within_ite | with_reducible apply within_ite2 | with_reducible apply within_foldl | split | ((with_reducible apply within_mk); with_reducible exact rfl))

theorem within_setMark {M : Nat} {s0 s : State} (n : Nat) (q : Nat) (k : Nat) (hw : Sub 0x40 M) (hk : Within M s0 s) :
   Within M s0 (State.setMark s n q k) := by
  unfold State.setMark
  repeat' (first | intro _ | with_reducible assumption | with_reducible exact rfl | exact sub_trans hw rfl | exact has_of hw rfl | with_reducible exact .inl rfl | exact .inr (has_of hw rfl) | exact .inl rfl | dsimp only | with_reducible apply within_modFrame | with_reducible apply within_ite | with_reducible apply within_ite2 | with_reducible apply within_foldl | split | ((with_reducible apply within_mk); with_reducible exact rfl))

theorem within_mirror {M : Nat} {s0 s : State} (n : Nat) (q : Nat) (hw : Sub 0x24640000000000000000400000000000000000000000000000000000000000000240000 M) (hk : Within M s0 s) :
   Within M s0 (State.mirror s n q) := by
  unfold State.mirror
  repeat' (first | intro _ | with_reducible assumption | with_reducible exact rfl | exact sub_trans hw rfl | exact has_of hw rfl | with_reducible exact .inl rfl | exact .inr (has_of hw rfl) | exact .inl rfl | dsimp only | with_reducible apply within_ringWrite | with_reducible apply within_ite | with_reducible apply within_ite2 | with_reducible apply within_foldl | split | ((with_reducible apply within_mk); with_reducible exact rfl))

theorem within_captureGone {M : Nat} {s0 s : State} (n : Nat) (q : Nat) (hw : Sub 0x24640000000000000010400000000000000000000000000000000000000000000245020 M) (hk : Within M s0 s) :
   Within M s0 (State.captureGone s n q) := by
  unfold State.captureGone
  repeat' (first | intro _ | with_reducible assumption | with_reducible exact rfl | exact sub_trans hw rfl | exact has_of hw rfl | with_reducible exact .inl rfl | exact .inr (has_of hw rfl) | exact .inl rfl | dsimp only | with_reducible apply within_modCam | with_reducible apply within_reply | with_reducible apply within_ite | with_reducible apply within_ite2 | with_reducible apply within_foldl | split | ((with_reducible apply within_mk); with_reducible exact rfl))

theorem within_finalize {M : Nat} {s0 s : State} (n : Nat) (q : Nat) (st : Nat) (hw : Sub 0x24640000000000000010400000000000000000400000000000000000000000000245060 M) (hk : Within M s0 s) :
   Within M s0 (State.finalize s n q st) := by
  unfold State.finalize
  repeat' (first | intro _ | with_reducible assumption | with_reducible exact rfl | exact sub_trans hw rfl | exact has_of hw rfl | with_reducible exact .inl rfl | exact .inr (has_of hw rfl) | exact .inl rfl | dsimp only | with_reducible apply within_setFrame | with_reducible apply within_setFld | with_reducible apply within_modCam | with_reducible apply within_obsAdd | with_reducible apply within_traceEv | with_reducible apply within_mirror | with_reducible apply within_captureGone | with_reducible apply within_ite | with_reducible apply within_ite2 | with_reducible apply within_foldl | split | ((with_reducible apply within_mk); with_reducible exact rfl))

theorem within_takeTicks {M : Nat} {s0 s : State} (n : Nat) (hw : Sub 0x20 M) (hk : Within M s0 s) :
   Within M s0 (State.takeTicks s n) := by
  unfold State.takeTicks
  repeat' (first | intro _ | with_reducible assumption | with_reducible exact rfl | exact sub_trans hw rfl | exact has_of hw rfl | with_reducible exact .inl rfl | exact .inr (has_of hw rfl) | exact .inl rfl | dsimp only | with_reducible apply within_map | with_reducible apply within_modCam | with_reducible apply within_ite | with_reducible apply within_ite2 | with_reducible apply within_foldl | split | ((with_reducible apply within_mk); with_reducible exact rfl))

theorem within_enablesNow {M : Nat} {s0 s : State} (n : Nat) (hw : Sub 0x20 M) (hk : Within M s0 s) :
   Within M s0 (State.enablesNow s n) := by
  unfold State.enablesNow
  repeat' (first | intro _ | with_reducible assumption | with_reducible exact rfl | exact sub_trans hw rfl | exact has_of hw rfl | with_reducible exact .inl rfl | exact .inr (has_of hw rfl) | exact .inl rfl | dsimp only | with_reducible apply within_modCam | with_reducible apply within_ite | with_reducible apply within_ite2 | with_reducible apply within_foldl | split | ((with_reducible apply within_mk); with_reducible exact rfl))

theorem within_flagUncertain {M : Nat} {s0 s : State} (n : Nat) (frm : Nat) (upto : Option Nat) (hw : Sub 0x40 M) (hk : Within M s0 s) :
   Within M s0 (State.flagUncertain s n frm upto) := by
  unfold State.flagUncertain
  repeat' (first | intro _ | with_reducible assumption | with_reducible exact rfl | exact sub_trans hw rfl | exact has_of hw rfl | with_reducible exact .inl rfl | exact .inr (has_of hw rfl) | exact .inl rfl | dsimp only | with_reducible apply within_modFrame | with_reducible apply within_ite | with_reducible apply within_ite2 | with_reducible apply within_foldl | split | ((with_reducible apply within_mk); with_reducible exact rfl))

theorem within_commitOutcome {M : Nat} {s0 s : State} (n : Nat) (c : Commit) (hw : Sub 0x24640000000000000000000000000000000000000008010000000000000000000240060 M) (hk : Within M s0 s) :
   Within M s0 (State.commitOutcome s n c) := by
  unfold State.commitOutcome
  repeat' (first | intro _ | with_reducible assumption | with_reducible exact rfl | exact sub_trans hw rfl | exact has_of hw rfl | with_reducible exact .inl rfl | exact .inr (has_of hw rfl) | exact .inl rfl | dsimp only | with_reducible apply within_modCam | with_reducible apply within_setFld | with_reducible apply within_map | with_reducible apply within_flagUncertain | with_reducible apply within_setEvt | with_reducible apply within_camCount | with_reducible apply within_logEvent | with_reducible apply within_ite | with_reducible apply within_ite2 | with_reducible apply within_foldl | split | ((with_reducible apply within_mk); with_reducible exact rfl))

theorem within_commitResp {M : Nat} {s0 s : State} (n : Nat) (status : Nat) (hw : Sub 0x24640000000000000000000000000000000000000008010000000000000000000240060 M) (hk : Within M s0 s) :
   Within M s0 (State.commitResp s n status) := by
  unfold State.commitResp
  repeat' (first | intro _ | with_reducible assumption | with_reducible exact rfl | exact sub_trans hw rfl | exact has_of hw rfl | with_reducible exact .inl rfl | exact .inr (has_of hw rfl) | exact .inl rfl | dsimp only | with_reducible apply within_commitOutcome | with_reducible apply within_modCam | with_reducible apply within_ite | with_reducible apply within_ite2 | with_reducible apply within_foldl | split | ((with_reducible apply within_mk); with_reducible exact rfl))

theorem within_releaseStream {M : Nat} {s0 s : State} (n : Nat) (hw : Sub 0x8000000000000000002020 M) (hk : Within M s0 s) :
   Within M s0 (State.releaseStream s n) := by
  unfold State.releaseStream
  repeat' (first | intro _ | with_reducible assumption | with_reducible exact rfl | exact sub_trans hw rfl | exact has_of hw rfl | with_reducible exact .inl rfl | exact .inr (has_of hw rfl) | exact .inl rfl | dsimp only | with_reducible apply within_modGroup | with_reducible apply within_modCam | with_reducible apply within_setFld | with_reducible apply within_ite | with_reducible apply within_ite2 | with_reducible apply within_foldl | split | ((with_reducible apply within_mk); with_reducible exact rfl))

theorem within_startOutcome {M : Nat} {s0 s : State} (n : Nat) (t : StartS) (hw : Sub 0x24640000000000000010400000000000000000000000000008000000000000000247020 M) (hk : Within M s0 s) :
   Within M s0 (State.startOutcome s n t) := by
  unfold State.startOutcome
  repeat' (first | intro _ | with_reducible assumption | with_reducible exact rfl | exact sub_trans hw rfl | exact has_of hw rfl | with_reducible exact .inl rfl | exact .inr (has_of hw rfl) | exact .inl rfl | dsimp only | with_reducible apply within_modCam | with_reducible apply within_reply | with_reducible apply within_setFld | with_reducible apply within_takeTicks | with_reducible apply within_traceEv | with_reducible apply within_releaseStream | with_reducible apply within_ite | with_reducible apply within_ite2 | with_reducible apply within_foldl | split | ((with_reducible apply within_mk); with_reducible exact rfl))

theorem within_startResp {M : Nat} {s0 s : State} (n : Nat) (status : Nat) (hw : Sub 0x24640000000000000010400000000000000000000000000008000000000000000247020 M) (hk : Within M s0 s) :
   Within M s0 (State.startResp s n status) := by
  unfold State.startResp
  repeat' (first | intro _ | with_reducible assumption | with_reducible exact rfl | exact sub_trans hw rfl | exact has_of hw rfl | with_reducible exact .inl rfl | exact .inr (has_of hw rfl) | exact .inl rfl | dsimp only | with_reducible apply within_startOutcome | with_reducible apply within_modCam | with_reducible apply within_ite | with_reducible apply within_ite2 | with_reducible apply within_foldl | split | ((with_reducible apply within_mk); with_reducible exact rfl))

theorem within_modHold {M : Nat} {s0 s : State} (f : HoldS → HoldS) (hw : Sub 0x200 M) (hk : Within M s0 s) :
   Within M s0 (State.modHold s f) := by
  unfold State.modHold
  repeat' (first | intro _ | with_reducible assumption | with_reducible exact rfl | exact sub_trans hw rfl | exact has_of hw rfl | with_reducible exact .inl rfl | exact .inr (has_of hw rfl) | exact .inl rfl | dsimp only | with_reducible apply within_ite | with_reducible apply within_ite2 | with_reducible apply within_foldl | split | ((with_reducible apply within_mk); with_reducible exact rfl))

theorem within_ddrRequest {M : Nat} {s0 s : State} (r : MemReq) (hw : Sub 0x200 M) (hk : Within M s0 s) :
   Within M s0 (State.ddrRequest s r) := by
  unfold State.ddrRequest
  repeat' (first | intro _ | with_reducible assumption | with_reducible exact rfl | exact sub_trans hw rfl | exact has_of hw rfl | with_reducible exact .inl rfl | exact .inr (has_of hw rfl) | exact .inl rfl | dsimp only | with_reducible apply within_modHold | with_reducible apply within_ite | with_reducible apply within_ite2 | with_reducible apply within_foldl | split | ((with_reducible apply within_mk); with_reducible exact rfl))

theorem within_evict {M : Nat} {s0 s : State} (x : HLine) (hw : Sub 0x200 M) (hk : Within M s0 s) :
   Within M s0 (State.evict s x) := by
  unfold State.evict
  repeat' (first | intro _ | with_reducible assumption | with_reducible exact rfl | exact sub_trans hw rfl | exact has_of hw rfl | with_reducible exact .inl rfl | exact .inr (has_of hw rfl) | exact .inl rfl | dsimp only | with_reducible apply within_ddrRequest | with_reducible apply within_modHold | with_reducible apply within_ite | with_reducible apply within_ite2 | with_reducible apply within_foldl | split | ((with_reducible apply within_mk); with_reducible exact rfl))

theorem within_allocate {M : Nat} {s0 s : State} (x : Nat) (l : Nat) (dirty : Bool) (hw : Sub 0x200 M) (hk : Within M s0 s) :
   Within M s0 (State.allocate s x l dirty) := by
  unfold State.allocate
  repeat' (first | intro _ | with_reducible assumption | with_reducible exact rfl | exact sub_trans hw rfl | exact has_of hw rfl | with_reducible exact .inl rfl | exact .inr (has_of hw rfl) | exact .inl rfl | dsimp only | with_reducible apply within_evict | with_reducible apply within_modHold | with_reducible apply within_ite | with_reducible apply within_ite2 | with_reducible apply within_foldl | split | ((with_reducible apply within_mk); with_reducible exact rfl))

theorem within_holdMiss {M : Nat} {s0 s : State} (w : MemWho) (l : Nat) (acc : MemAcc) (hw : Sub 0x200 M) (hk : Within M s0 s) :
   Within M s0 (State.holdMiss s w l acc) := by
  unfold State.holdMiss
  repeat' (first | intro _ | with_reducible assumption | with_reducible exact rfl | exact sub_trans hw rfl | exact has_of hw rfl | with_reducible exact .inl rfl | exact .inr (has_of hw rfl) | exact .inl rfl | dsimp only | with_reducible apply within_ddrRequest | with_reducible apply within_allocate | with_reducible apply within_ite | with_reducible apply within_ite2 | with_reducible apply within_foldl | split | ((with_reducible apply within_mk); with_reducible exact rfl))

theorem within_holdAccess {M : Nat} {s0 s : State} (w : MemWho) (l : Nat) (acc : MemAcc) (hw : Sub 0x40200 M) (hk : Within M s0 s) :
   Within M s0 (State.holdAccess s w l acc) := by
  unfold State.holdAccess
  repeat' (first | intro _ | with_reducible assumption | with_reducible exact rfl | exact sub_trans hw rfl | exact has_of hw rfl | with_reducible exact .inl rfl | exact .inr (has_of hw rfl) | exact .inl rfl | dsimp only | with_reducible apply within_modHold | with_reducible apply within_obsAdd | with_reducible apply within_map | with_reducible apply within_holdMiss | with_reducible apply within_ite | with_reducible apply within_ite2 | with_reducible apply within_foldl | split | ((with_reducible apply within_mk); with_reducible exact rfl))

theorem within_holdRun {M : Nat} {s0 s : State} (w : MemWho) (write : Bool) (a : Nat) (n : Nat) (hw : Sub 0x40200 M) (hk : Within M s0 s) :
   Within M s0 (State.holdRun s w write a n) := by
  unfold State.holdRun
  repeat' (first | intro _ | with_reducible assumption | with_reducible exact rfl | exact sub_trans hw rfl | exact has_of hw rfl | with_reducible exact .inl rfl | exact .inr (has_of hw rfl) | exact .inl rfl | dsimp only | with_reducible apply within_holdAccess | with_reducible apply within_modHold | with_reducible apply within_ite | with_reducible apply within_ite2 | with_reducible apply within_foldl | split | ((with_reducible apply within_mk); with_reducible exact rfl))

theorem within_memW {M : Nat} {s0 s : State} (w : MemWho) (a : Nat) (bs : List Byte) (hw : Sub 0x140200 M) (hk : Within M s0 s) :
   Within M s0 (State.memW s w a bs) := by
  unfold State.memW
  repeat' (first | intro _ | with_reducible assumption | with_reducible exact rfl | exact sub_trans hw rfl | exact has_of hw rfl | with_reducible exact .inl rfl | exact .inr (has_of hw rfl) | exact .inl rfl | dsimp only | with_reducible apply within_holdRun | with_reducible apply within_ite | with_reducible apply within_ite2 | with_reducible apply within_foldl | split | ((with_reducible apply within_mk); with_reducible exact rfl))

theorem within_sendNak {M : Nat} {s0 s : State} (p : Nat) (q : Nat) (cause : Nat) (attempt : Nat) (hw : Sub 0x24640000000000000000000000000000000000000000000000000800000000000240010 M) (hk : Within M s0 s) :
   Within M s0 (State.sendNak s p q cause attempt) := by
  unfold State.sendNak
  repeat' (first | intro _ | with_reducible assumption | with_reducible exact rfl | exact sub_trans hw rfl | exact has_of hw rfl | with_reducible exact .inl rfl | exact .inr (has_of hw rfl) | exact .inl rfl | dsimp only | with_reducible apply within_queueBlock | with_reducible apply within_bump | with_reducible apply within_ite | with_reducible apply within_ite2 | with_reducible apply within_foldl | split | ((with_reducible apply within_mk); with_reducible exact rfl))

theorem within_sendAck {M : Nat} {s0 s : State} (p : Nat) (hw : Sub 0x18 M) (hk : Within M s0 s) :
   Within M s0 (State.sendAck s p) := by
  unfold State.sendAck
  repeat' (first | intro _ | with_reducible assumption | with_reducible exact rfl | exact sub_trans hw rfl | exact has_of hw rfl | with_reducible exact .inl rfl | exact .inr (has_of hw rfl) | exact .inl rfl | dsimp only | with_reducible apply within_queueBlock | with_reducible apply within_modPort | with_reducible apply within_ite | with_reducible apply within_ite2 | with_reducible apply within_foldl | split | ((with_reducible apply within_mk); with_reducible exact rfl))

theorem within_sendCredit {M : Nat} {s0 s : State} (p : Nat) (hw : Sub 0x18 M) (hk : Within M s0 s) :
   Within M s0 (State.sendCredit s p) := by
  unfold State.sendCredit
  repeat' (first | intro _ | with_reducible assumption | with_reducible exact rfl | exact sub_trans hw rfl | exact has_of hw rfl | with_reducible exact .inl rfl | exact .inr (has_of hw rfl) | exact .inl rfl | dsimp only | with_reducible apply within_queueBlock | with_reducible apply within_setPort | with_reducible apply within_ite | with_reducible apply within_ite2 | with_reducible apply within_foldl | split | ((with_reducible apply within_mk); with_reducible exact rfl))

theorem within_freeCredits {M : Nat} {s0 s : State} (p : Nat) (n : Nat) (hw : Sub 0x18 M) (hk : Within M s0 s) :
   Within M s0 (State.freeCredits s p n) := by
  unfold State.freeCredits
  repeat' (first | intro _ | with_reducible assumption | with_reducible exact rfl | exact sub_trans hw rfl | exact has_of hw rfl | with_reducible exact .inl rfl | exact .inr (has_of hw rfl) | exact .inl rfl | dsimp only | with_reducible apply within_setPort | with_reducible apply within_sendCredit | with_reducible apply within_ite | with_reducible apply within_ite2 | with_reducible apply within_foldl | split | ((with_reducible apply within_mk); with_reducible exact rfl))

theorem within_discardPkt {M : Nat} {s0 s : State} (p : Nat) (n : Nat) (hw : Sub 0x18 M) (hk : Within M s0 s) :
   Within M s0 (State.discardPkt s p n) := by
  unfold State.discardPkt
  repeat' (first | intro _ | with_reducible assumption | with_reducible exact rfl | exact sub_trans hw rfl | exact has_of hw rfl | with_reducible exact .inl rfl | exact .inr (has_of hw rfl) | exact .inl rfl | dsimp only | with_reducible apply within_modPort | with_reducible apply within_freeCredits | with_reducible apply within_ite | with_reducible apply within_ite2 | with_reducible apply within_foldl | split | ((with_reducible apply within_mk); with_reducible exact rfl))

theorem within_sendCaps {M : Nat} {s0 s : State} (p : Nat) (hw : Sub 0x10 M) (hk : Within M s0 s) :
   Within M s0 (State.sendCaps s p) := by
  unfold State.sendCaps
  repeat' (first | intro _ | with_reducible assumption | with_reducible exact rfl | exact sub_trans hw rfl | exact has_of hw rfl | with_reducible exact .inl rfl | exact .inr (has_of hw rfl) | exact .inl rfl | dsimp only | with_reducible apply within_queueBlock | with_reducible apply within_ite | with_reducible apply within_ite2 | with_reducible apply within_foldl | split | ((with_reducible apply within_mk); with_reducible exact rfl))

theorem within_beginTunnel {M : Nat} {s0 s : State} (p : Nat) (r : TunnelReq) (who : TunnelFor) (hw : Sub 0x18 M) (hk : Within M s0 s) :
   Within M s0 (State.beginTunnel s p r who) := by
  unfold State.beginTunnel
  repeat' (first | intro _ | with_reducible assumption | with_reducible exact rfl | exact sub_trans hw rfl | exact has_of hw rfl | with_reducible exact .inl rfl | exact .inr (has_of hw rfl) | exact .inl rfl | dsimp only | with_reducible apply within_map | with_reducible apply within_queueBlock | with_reducible apply within_setPort | with_reducible apply within_ite | with_reducible apply within_ite2 | with_reducible apply within_foldl | split | ((with_reducible apply within_mk); with_reducible exact rfl))

theorem within_tunnelDone {M : Nat} {s0 s : State} (p : Nat) (who : TunnelFor) (status : Nat) (data : List Byte) (hw : Sub 0x24640000000000000010400000000000000000000008010008000000000000000247060 M) (hk : Within M s0 s) :
   Within M s0 (State.tunnelDone s p who status data) := by
  unfold State.tunnelDone
  repeat' (first | intro _ | with_reducible assumption | with_reducible exact rfl | exact sub_trans hw rfl | exact has_of hw rfl | with_reducible exact .inl rfl | exact .inr (has_of hw rfl) | exact .inl rfl | dsimp only | with_reducible apply within_commitResp | with_reducible apply within_startResp | with_reducible apply within_reply | with_reducible apply within_emit | with_reducible apply within_ite | with_reducible apply within_ite2 | with_reducible apply within_foldl | split | ((with_reducible apply within_mk); with_reducible exact rfl))

theorem within_remoteTunnel {M : Nat} {s0 s : State} (p : Nat) (r : TunnelReq) (who : TunnelFor) (hw : Sub 0x200008 M) (hk : Within M s0 s) :
   Within M s0 (State.remoteTunnel s p r who) := by
  unfold State.remoteTunnel
  repeat' (first | intro _ | with_reducible assumption | with_reducible exact rfl | exact sub_trans hw rfl | exact has_of hw rfl | with_reducible exact .inl rfl | exact .inr (has_of hw rfl) | exact .inl rfl | dsimp only | with_reducible apply within_map | with_reducible apply within_setPort | with_reducible apply within_emit | with_reducible apply within_ite | with_reducible apply within_ite2 | with_reducible apply within_foldl | split | ((with_reducible apply within_mk); with_reducible exact rfl))

theorem within_tunnelRequest {M : Nat} {s0 s : State} (p : Nat) (r : TunnelReq) (who : TunnelFor) (hw : Sub 0x24640000000000000010400000000000000000000008010008000000000000000247078 M) (hk : Within M s0 s) :
   Within M s0 (State.tunnelRequest s p r who) := by
  unfold State.tunnelRequest
  repeat' (first | intro _ | with_reducible assumption | with_reducible exact rfl | exact sub_trans hw rfl | exact has_of hw rfl | with_reducible exact .inl rfl | exact .inr (has_of hw rfl) | exact .inl rfl | dsimp only | with_reducible apply within_remoteTunnel | with_reducible apply within_tunnelDone | with_reducible apply within_beginTunnel | with_reducible apply within_setPort | with_reducible apply within_ite | with_reducible apply within_ite2 | with_reducible apply within_foldl | split | ((with_reducible apply within_mk); with_reducible exact rfl))

theorem within_tunnelsLost {M : Nat} {s0 s : State} (p : Nat) (hw : Sub 0x24640000000000000010400000000000000000000008010008000000000000000247068 M) (hk : Within M s0 s) :
   Within M s0 (State.tunnelsLost s p) := by
  unfold State.tunnelsLost
  repeat' (first | intro _ | with_reducible assumption | with_reducible exact rfl | exact sub_trans hw rfl | exact has_of hw rfl | with_reducible exact .inl rfl | exact .inr (has_of hw rfl) | exact .inl rfl | dsimp only | with_reducible apply within_setPort | with_reducible apply within_tunnelDone | with_reducible apply within_ite | with_reducible apply within_ite2 | with_reducible apply within_foldl | split | ((with_reducible apply within_mk); with_reducible exact rfl))

theorem within_tunnelResponse {M : Nat} {s0 s : State} (p : Nat) (payload : List Byte) (hw : Sub 0x24640000000000000010400000000000000000000008010008002000000000000247068 M) (hk : Within M s0 s) :
   Within M s0 (State.tunnelResponse s p payload) := by
  unfold State.tunnelResponse
  repeat' (first | intro _ | with_reducible assumption | with_reducible exact rfl | exact sub_trans hw rfl | exact has_of hw rfl | with_reducible exact .inl rfl | exact .inr (has_of hw rfl) | exact .inl rfl | dsimp only | with_reducible apply within_modPort | with_reducible apply within_tunnelDone | with_reducible apply within_bump | with_reducible apply within_ite | with_reducible apply within_ite2 | with_reducible apply within_foldl | split | ((with_reducible apply within_mk); with_reducible exact rfl))

theorem within_sendSettings {M : Nat} {s0 s : State} (n : Nat) (rs : List TunnelReq) (who : TunnelFor) (hw : Sub 0x24640000000000000010400000000000000000000008010008000000000000000247078 M) (hk : Within M s0 s) :
   Within M s0 (State.sendSettings s n rs who) := by
  unfold State.sendSettings
  repeat' (first | intro _ | with_reducible assumption | with_reducible exact rfl | exact sub_trans hw rfl | exact has_of hw rfl | with_reducible exact .inl rfl | exact .inr (has_of hw rfl) | exact .inl rfl | dsimp only | with_reducible apply within_tunnelRequest | with_reducible apply within_ite | with_reducible apply within_ite2 | with_reducible apply within_foldl | split | ((with_reducible apply within_mk); with_reducible exact rfl))

theorem within_commitPoint {M : Nat} {s0 s : State} (n : Nat) (q : Nat) (st : Nat) (hw : Sub 0x24640000000000000010400000000000000000000008030008000000000000000247078 M) (hk : Within M s0 s) :
   Within M s0 (State.commitPoint s n q st) := by
  unfold State.commitPoint
  repeat' (first | intro _ | with_reducible assumption | with_reducible exact rfl | exact sub_trans hw rfl | exact has_of hw rfl | with_reducible exact .inl rfl | exact .inr (has_of hw rfl) | exact .inl rfl | dsimp only | with_reducible apply within_enablesNow | with_reducible apply within_setEvt | with_reducible apply within_modCam | with_reducible apply within_setRegN | with_reducible apply within_commitOutcome | with_reducible apply within_sendSettings | with_reducible apply within_ite | with_reducible apply within_ite2 | with_reducible apply within_foldl | split | ((with_reducible apply within_mk); with_reducible exact rfl))

theorem within_stageSet {M : Nat} {s0 s : State} (n : Nat) (t : ExpoSet) (hw : Sub 0xe000000000000000000000020 M) (hk : Within M s0 s) :
   Within M s0 (State.stageSet s n t) := by
  unfold State.stageSet
  repeat' (first | intro _ | with_reducible assumption | with_reducible exact rfl | exact sub_trans hw rfl | exact has_of hw rfl | with_reducible exact .inl rfl | exact .inr (has_of hw rfl) | exact .inl rfl | dsimp only | with_reducible apply within_setRegN | with_reducible apply within_modCam | with_reducible apply within_ite | with_reducible apply within_ite2 | with_reducible apply within_foldl | split | ((with_reducible apply within_mk); with_reducible exact rfl))

theorem within_expoWrite {M : Nat} {s0 s : State} (n : Nat) (j : Nat) (v : Nat) (hw : Sub 0x1e000000000000000000000020 M) (hk : Within M s0 s) :
   Within M s0 (State.expoWrite s n j v) := by
  unfold State.expoWrite
  repeat' (first | intro _ | with_reducible assumption | with_reducible exact rfl | exact sub_trans hw rfl | exact has_of hw rfl | with_reducible exact .inl rfl | exact .inr (has_of hw rfl) | exact .inl rfl | dsimp only | with_reducible apply within_setEvt | with_reducible apply within_setRegN | with_reducible apply within_modCam | with_reducible apply within_ite | with_reducible apply within_ite2 | with_reducible apply within_foldl | split | ((with_reducible apply within_mk); with_reducible exact rfl))

theorem within_wbWrite {M : Nat} {s0 s : State} (n : Nat) (v : Nat) (hw : Sub 0x50000000000000000000000000 M) (hk : Within M s0 s) :
   Within M s0 (State.wbWrite s n v) := by
  unfold State.wbWrite
  repeat' (first | intro _ | with_reducible assumption | with_reducible exact rfl | exact sub_trans hw rfl | exact has_of hw rfl | with_reducible exact .inl rfl | exact .inr (has_of hw rfl) | exact .inl rfl | dsimp only | with_reducible apply within_setEvt | with_reducible apply within_setRegN | with_reducible apply within_ite | with_reducible apply within_ite2 | with_reducible apply within_foldl | split | ((with_reducible apply within_mk); with_reducible exact rfl))

theorem within_statsMirror {M : Nat} {s0 s : State} (n : Nat) (q : Nat) (hw : Sub 0x24640000000000000000400000000000000000000000000000000000000000000240000 M) (hk : Within M s0 s) :
   Within M s0 (State.statsMirror s n q) := by
  unfold State.statsMirror
  repeat' (first | intro _ | with_reducible assumption | with_reducible exact rfl | exact sub_trans hw rfl | exact has_of hw rfl | with_reducible exact .inl rfl | exact .inr (has_of hw rfl) | exact .inl rfl | dsimp only | with_reducible apply within_ringWrite | with_reducible apply within_ite | with_reducible apply within_ite2 | with_reducible apply within_foldl | split | ((with_reducible apply within_mk); with_reducible exact rfl))

theorem within_crossCheck {M : Nat} {s0 s : State} (n : Nat) (q : Nat) (hw : Sub 0x24640000000000000000000000000000000000000014000000000000000000000240040 M) (hk : Within M s0 s) :
   Within M s0 (State.crossCheck s n q) := by
  unfold State.crossCheck
  repeat' (first | intro _ | with_reducible assumption | with_reducible exact rfl | exact sub_trans hw rfl | exact has_of hw rfl | with_reducible exact .inl rfl | exact .inr (has_of hw rfl) | exact .inl rfl | dsimp only | with_reducible apply within_setFrame | with_reducible apply within_camCount | with_reducible apply within_ite | with_reducible apply within_ite2 | with_reducible apply within_foldl | split | ((with_reducible apply within_mk); with_reducible exact rfl))

theorem within_takeSeq {M : Nat} {s0 s : State} (n : Nat) (hw : Sub 0x10000000000000000000020 M) (hk : Within M s0 s) :
   Within M s0 (State.takeSeq s n).2 := by
  unfold State.takeSeq
  repeat' (first | intro _ | with_reducible assumption | with_reducible exact rfl | exact sub_trans hw rfl | exact has_of hw rfl | with_reducible exact .inl rfl | exact .inr (has_of hw rfl) | exact .inl rfl | dsimp only | with_reducible apply within_modCam | with_reducible apply within_setRegN | with_reducible apply within_ite | with_reducible apply within_ite2 | with_reducible apply within_foldl | split | ((with_reducible apply within_mk); with_reducible exact rfl))

theorem within_storeRow {M : Nat} {s0 s : State} (n : Nat) (q : Nat) (r : Nat) (bytes : List Byte) (hw : Sub 0x142200 M) (hk : Within M s0 s) :
   Within M s0 (State.storeRow s n q r bytes) := by
  unfold State.storeRow
  repeat' (first | intro _ | with_reducible assumption | with_reducible exact rfl | exact sub_trans hw rfl | exact has_of hw rfl | with_reducible exact .inl rfl | exact .inr (has_of hw rfl) | exact .inl rfl | dsimp only | with_reducible apply within_modGroup | with_reducible apply within_memW | with_reducible apply within_ite | with_reducible apply within_ite2 | with_reducible apply within_foldl | split | ((with_reducible apply within_mk); with_reducible exact rfl))

theorem within_fillRows {M : Nat} {s0 s : State} (n : Nat) (q : Nat) (stamp : Nat) (reveal : List Byte) (y : Nat) (hw : Sub 0x24640000000000000000000000000000000000000000000100000000000000000342240 M) (hk : Within M s0 s) :
   Within M s0 (State.fillRows s n q stamp reveal y) := by
  induction y generalizing s with
  | zero => exact hk
  | succ k ih =>
  unfold State.fillRows
  repeat' (first | intro _ | with_reducible assumption | with_reducible exact rfl | exact sub_trans hw rfl | exact has_of hw rfl | with_reducible exact .inl rfl | exact .inr (has_of hw rfl) | exact .inl rfl | dsimp only | with_reducible apply ih | with_reducible apply within_storeRow | with_reducible apply within_modFrame | with_reducible apply within_camCount | with_reducible apply within_ite | with_reducible apply within_ite2 | with_reducible apply within_foldl | split | ((with_reducible apply within_mk); with_reducible exact rfl))

theorem within_closeFrame {M : Nat} {s0 s : State} (n : Nat) (q : Nat) (stamp : Nat) (hw : Sub 0x24640000000000000000400000000000000000000014000100000000000000000342260 M) (hk : Within M s0 s) :
   Within M s0 (State.closeFrame s n q stamp) := by
  unfold State.closeFrame
  repeat' (first | intro _ | with_reducible assumption | with_reducible exact rfl | exact sub_trans hw rfl | exact has_of hw rfl | with_reducible exact .inl rfl | exact .inr (has_of hw rfl) | exact .inl rfl | dsimp only | with_reducible apply within_fillRows | with_reducible apply within_crossCheck | with_reducible apply within_modFrame | with_reducible apply within_modCam | with_reducible apply within_statsMirror | with_reducible apply within_ite | with_reducible apply within_ite2 | with_reducible apply within_foldl | split | ((with_reducible apply within_mk); with_reducible exact rfl))

theorem within_closeOpen {M : Nat} {s0 s : State} (n : Nat) (hw : Sub 0x24640000000000000000400000000000000000000014000100000000000000000342260 M) (hk : Within M s0 s) :
   Within M s0 (State.closeOpen s n) := by
  unfold State.closeOpen
  repeat' (first | intro _ | with_reducible assumption | with_reducible exact rfl | exact sub_trans hw rfl | exact has_of hw rfl | with_reducible exact .inl rfl | exact .inr (has_of hw rfl) | exact .inl rfl | dsimp only | with_reducible apply within_closeFrame | with_reducible apply within_ite | with_reducible apply within_ite2 | with_reducible apply within_foldl | split | ((with_reducible apply within_mk); with_reducible exact rfl))

theorem within_closeExpiry {M : Nat} {s0 s : State} (n : Nat) (hw : Sub 0x24640000000000000000400000000000000000000014000100000000000000000342260 M) (hk : Within M s0 s) :
   Within M s0 (State.closeExpiry s n) := by
  unfold State.closeExpiry
  repeat' (first | intro _ | with_reducible assumption | with_reducible exact rfl | exact sub_trans hw rfl | exact has_of hw rfl | with_reducible exact .inl rfl | exact .inr (has_of hw rfl) | exact .inl rfl | dsimp only | with_reducible apply within_closeFrame | with_reducible apply within_ite | with_reducible apply within_ite2 | with_reducible apply within_foldl | split | ((with_reducible apply within_mk); with_reducible exact rfl))

theorem within_divert {M : Nat} {s0 s : State} (n : Nat) (q : Nat) (k : Nat) (hw : Sub 0x24640000000000000000000000000000000000000000000200000000000000000342240 M) (hk : Within M s0 s) :
   Within M s0 (State.divert s n q k) := by
  unfold State.divert
  repeat' (first | intro _ | with_reducible assumption | with_reducible exact rfl | exact sub_trans hw rfl | exact has_of hw rfl | with_reducible exact .inl rfl | exact .inr (has_of hw rfl) | exact .inl rfl | dsimp only | with_reducible apply within_modFrame | with_reducible apply within_memW | with_reducible apply within_modGroup | with_reducible apply within_map | with_reducible apply within_camCount | with_reducible apply within_ite | with_reducible apply within_ite2 | with_reducible apply within_foldl | split | ((with_reducible apply within_mk); with_reducible exact rfl))

theorem within_takeRow {M : Nat} {s0 s : State} (n : Nat) (q : Nat) (r : Nat) (bytes : List Byte) (hw : Sub 0x24640000000000000000400000000000000000000014000100000000000000000342260 M) (hk : Within M s0 s) :
   Within M s0 (State.takeRow s n q r bytes) := by
  unfold State.takeRow
  repeat' (first | intro _ | with_reducible assumption | with_reducible exact rfl | exact sub_trans hw rfl | exact has_of hw rfl | with_reducible exact .inl rfl | exact .inr (has_of hw rfl) | exact .inl rfl | dsimp only | with_reducible apply within_fillRows | with_reducible apply within_storeRow | with_reducible apply within_modFrame | with_reducible apply within_closeFrame | with_reducible apply within_ite | with_reducible apply within_ite2 | with_reducible apply within_foldl | split | ((with_reducible apply within_mk); with_reducible exact rfl))

theorem within_arriveRow {M : Nat} {s0 s : State} (n : Nat) (q : Nat) (r : Nat) (bytes : List Byte) (hw : Sub 0x24640000000000000000400000000000000000000014000300000000000000000342260 M) (hk : Within M s0 s) :
   Within M s0 (State.arriveRow s n q r bytes) := by
  unfold State.arriveRow
  repeat' (first | intro _ | with_reducible assumption | with_reducible exact rfl | exact sub_trans hw rfl | exact has_of hw rfl | with_reducible exact .inl rfl | exact .inr (has_of hw rfl) | exact .inl rfl | dsimp only | with_reducible apply within_divert | with_reducible apply within_takeRow | with_reducible apply within_modFrame | with_reducible apply within_camCount | with_reducible apply within_ite | with_reducible apply within_ite2 | with_reducible apply within_foldl | split | ((with_reducible apply within_mk); with_reducible exact rfl))

theorem within_malformed {M : Nat} {s0 s : State} (n : Nat) (hw : Sub 0x24640000000000000000000000000000000000000000000080000000000000000240000 M) (hk : Within M s0 s) :
   Within M s0 (State.malformed s n) := by
  unfold State.malformed
  repeat' (first | intro _ | with_reducible assumption | with_reducible exact rfl | exact sub_trans hw rfl | exact has_of hw rfl | with_reducible exact .inl rfl | exact .inr (has_of hw rfl) | exact .inl rfl | dsimp only | with_reducible apply within_camCount | with_reducible apply within_ite | with_reducible apply within_ite2 | with_reducible apply within_foldl | split | ((with_reducible apply within_mk); with_reducible exact rfl))

theorem within_intakeVideo {M : Nat} {s0 s : State} (n : Nat) (line : Nat) (last : Bool) (payload : List Byte) (hw : Sub 0x24640000000000000000400000000000000000000014000380000000000000000342260 M) (hk : Within M s0 s) :
   Within M s0 (State.intakeVideo s n line last payload) := by
  unfold State.intakeVideo
  repeat' (first | intro _ | with_reducible assumption | with_reducible exact rfl | exact sub_trans hw rfl | exact has_of hw rfl | with_reducible exact .inl rfl | exact .inr (has_of hw rfl) | exact .inl rfl | dsimp only | with_reducible apply within_malformed | with_reducible apply within_modFrame | with_reducible apply within_arriveRow | with_reducible apply within_ite | with_reducible apply within_ite2 | with_reducible apply within_foldl | split | ((with_reducible apply within_mk); with_reducible exact rfl))

theorem within_intakeEmbed {M : Nat} {s0 s : State} (n : Nat) (line : Nat) (payload : List Byte) (hw : Sub 0x24640000000000000000000000000000000000000000000080000000000000000240040 M) (hk : Within M s0 s) :
   Within M s0 (State.intakeEmbed s n line payload) := by
  unfold State.intakeEmbed
  repeat' (first | intro _ | with_reducible assumption | with_reducible exact rfl | exact sub_trans hw rfl | exact has_of hw rfl | with_reducible exact .inl rfl | exact .inr (has_of hw rfl) | exact .inl rfl | dsimp only | with_reducible apply within_malformed | with_reducible apply within_modFrame | with_reducible apply within_ite | with_reducible apply within_ite2 | with_reducible apply within_foldl | split | ((with_reducible apply within_mk); with_reducible exact rfl))

theorem within_intakeEnd {M : Nat} {s0 s : State} (n : Nat) (hw : Sub 0x24640000000000000000400000000000000000000014000180000000000000000342260 M) (hk : Within M s0 s) :
   Within M s0 (State.intakeEnd s n) := by
  unfold State.intakeEnd
  repeat' (first | intro _ | with_reducible assumption | with_reducible exact rfl | exact sub_trans hw rfl | exact has_of hw rfl | with_reducible exact .inl rfl | exact .inr (has_of hw rfl) | exact .inl rfl | dsimp only | with_reducible apply within_malformed | with_reducible apply within_closeFrame | with_reducible apply within_ite | with_reducible apply within_ite2 | with_reducible apply within_foldl | split | ((with_reducible apply within_mk); with_reducible exact rfl))

theorem within_discardSlot {M : Nat} {s0 s : State} (n : Nat) (hw : Sub 0x20 M) (hk : Within M s0 s) :
   Within M s0 (State.discardSlot s n) := by
  unfold State.discardSlot
  repeat' (first | intro _ | with_reducible assumption | with_reducible exact rfl | exact sub_trans hw rfl | exact has_of hw rfl | with_reducible exact .inl rfl | exact .inr (has_of hw rfl) | exact .inl rfl | dsimp only | with_reducible apply within_modCam | with_reducible apply within_ite | with_reducible apply within_ite2 | with_reducible apply within_foldl | split | ((with_reducible apply within_mk); with_reducible exact rfl))

theorem within_swapHead {M : Nat} {s0 s : State} (n : Nat) (q : Nat) (hw : Sub 0x60 M) (hk : Within M s0 s) :
   Within M s0 (State.swapHead s n q) := by
  unfold State.swapHead
  repeat' (first | intro _ | with_reducible assumption | with_reducible exact rfl | exact sub_trans hw rfl | exact has_of hw rfl | with_reducible exact .inl rfl | exact .inr (has_of hw rfl) | exact .inl rfl | dsimp only | with_reducible apply within_setMark | with_reducible apply within_modCam | with_reducible apply within_ite | with_reducible apply within_ite2 | with_reducible apply within_foldl | split | ((with_reducible apply within_mk); with_reducible exact rfl))

theorem within_shedOutputs {M : Nat} {s0 s : State} (n : Nat) (q : Nat) (bits : Nat) (hw : Sub 0x24640000000000000000000000000000000001000000000000000000000000000240040 M) (hk : Within M s0 s) :
   Within M s0 (State.shedOutputs s n q bits) := by
  unfold State.shedOutputs
  repeat' (first | intro _ | with_reducible assumption | with_reducible exact rfl | exact sub_trans hw rfl | exact has_of hw rfl | with_reducible exact .inl rfl | exact .inr (has_of hw rfl) | exact .inl rfl | dsimp only | with_reducible apply within_setFrame | with_reducible apply within_camCount | with_reducible apply within_ite | with_reducible apply within_ite2 | with_reducible apply within_foldl | split | ((with_reducible apply within_mk); with_reducible exact rfl))

theorem within_bindCopy {M : Nat} {s0 s : State} (n : Nat) (hw : Sub 0x200000000000000000000000000000 M) (hk : Within M s0 s) :
   Within M s0 (State.bindCopy s n) := by
  unfold State.bindCopy
  repeat' (first | intro _ | with_reducible assumption | with_reducible exact rfl | exact sub_trans hw rfl | exact has_of hw rfl | with_reducible exact .inl rfl | exact .inr (has_of hw rfl) | exact .inl rfl | dsimp only | with_reducible apply within_setFld | with_reducible apply within_ite | with_reducible apply within_ite2 | with_reducible apply within_foldl | split | ((with_reducible apply within_mk); with_reducible exact rfl))

theorem within_openFrame {M : Nat} {s0 s : State} (n : Nat) (trigSeq : Nat) (sensorSeq : Nat) (hw : Sub 0x2464000000000000001040000000000000000140021c030718000000000000000347278 M) (hk : Within M s0 s) :
   Within M s0 (State.openFrame s n trigSeq sensorSeq) := by
  unfold State.openFrame
  repeat' (first | intro _ | with_reducible assumption | with_reducible exact rfl | exact sub_trans hw rfl | exact has_of hw rfl | with_reducible exact .inl rfl | exact .inr (has_of hw rfl) | exact .inl rfl | dsimp only | with_reducible apply within_closeOpen | with_reducible apply within_takeSeq | with_reducible apply within_modCam | with_reducible apply within_camCount | with_reducible apply within_discardSlot | with_reducible apply within_bindCopy | with_reducible apply within_captureGone | with_reducible apply within_setFrame | with_reducible apply within_swapHead | with_reducible apply within_shedOutputs | with_reducible apply within_commitPoint | with_reducible apply within_finalize | with_reducible apply within_ite | with_reducible apply within_ite2 | with_reducible apply within_foldl | split | ((with_reducible apply within_mk); with_reducible exact rfl))

theorem within_missFrame {M : Nat} {s0 s : State} (n : Nat) (trigSeq : Nat) (stamp : Nat) (hw : Sub 0x24640000000000000010400000000000000000400208030438000000000000000247078 M) (hk : Within M s0 s) :
   Within M s0 (State.missFrame s n trigSeq stamp) := by
  unfold State.missFrame
  repeat' (first | intro _ | with_reducible assumption | with_reducible exact rfl | exact sub_trans hw rfl | exact has_of hw rfl | with_reducible exact .inl rfl | exact .inr (has_of hw rfl) | exact .inl rfl | dsimp only | with_reducible apply within_takeSeq | with_reducible apply within_camCount | with_reducible apply within_bindCopy | with_reducible apply within_captureGone | with_reducible apply within_setFrame | with_reducible apply within_modCam | with_reducible apply within_finalize | with_reducible apply within_commitPoint | with_reducible apply within_ite | with_reducible apply within_ite2 | with_reducible apply within_foldl | split | ((with_reducible apply within_mk); with_reducible exact rfl))

theorem within_missDeadline {M : Nat} {s0 s : State} (n : Nat) (hw : Sub 0x24640000000000000010400000000000000000400208030438000000000000000247078 M) (hk : Within M s0 s) :
   Within M s0 (State.missDeadline s n) := by
  unfold State.missDeadline
  repeat' (first | intro _ | with_reducible assumption | with_reducible exact rfl | exact sub_trans hw rfl | exact has_of hw rfl | with_reducible exact .inl rfl | exact .inr (has_of hw rfl) | exact .inl rfl | dsimp only | with_reducible apply within_modCam | with_reducible apply within_missFrame | with_reducible apply within_ite | with_reducible apply within_ite2 | with_reducible apply within_foldl | split | ((with_reducible apply within_mk); with_reducible exact rfl))

theorem within_overdue {M : Nat} {s0 s : State} (n : Nat) (hw : Sub 0x2464000000000000001040000000000000000040021c030538000000000000000347278 M) (hk : Within M s0 s) :
   Within M s0 (State.overdue s n) := by
  unfold State.overdue
  repeat' (first | intro _ | with_reducible assumption | with_reducible exact rfl | exact sub_trans hw rfl | exact has_of hw rfl | with_reducible exact .inl rfl | exact .inr (has_of hw rfl) | exact .inl rfl | dsimp only | with_reducible apply within_closeExpiry | with_reducible apply within_missDeadline | with_reducible apply within_ite | with_reducible apply within_ite2 | with_reducible apply within_foldl | split | ((with_reducible apply within_mk); with_reducible exact rfl))

theorem within_refuseStart {M : Nat} {s0 s : State} (n : Nat) (r : RegName) (hw : Sub 0x24640000000000000000400000000000000000000014000100000000000000000342260 M) (hr_r : Has M r.ix) (hk : Within M s0 s) :
   Within M s0 (State.refuseStart s n r) := by
  unfold State.refuseStart
  repeat' (first | intro _ | with_reducible assumption | with_reducible exact rfl | exact sub_trans hw rfl | exact has_of hw rfl | with_reducible exact .inl rfl | exact .inr (has_of hw rfl) | exact .inl rfl | dsimp only | with_reducible apply within_closeOpen | with_reducible apply within_camCount | with_reducible apply within_discardSlot | exact hr_r | with_reducible apply within_ite | with_reducible apply within_ite2 | with_reducible apply within_foldl | split | ((with_reducible apply within_mk); with_reducible exact rfl))

theorem within_strayStart {M : Nat} {s0 s : State} (n : Nat) (hw : Sub 0x24640000000000000000400000000000000000000014000180000000000000000342260 M) (hk : Within M s0 s) :
   Within M s0 (State.strayStart s n) := by
  unfold State.strayStart
  repeat' (first | intro _ | with_reducible assumption | with_reducible exact rfl | exact sub_trans hw rfl | exact has_of hw rfl | with_reducible exact .inl rfl | exact .inr (has_of hw rfl) | exact .inl rfl | dsimp only | with_reducible apply within_closeOpen | with_reducible apply within_modCam | with_reducible apply within_malformed | with_reducible apply within_ite | with_reducible apply within_ite2 | with_reducible apply within_foldl | split | ((with_reducible apply within_mk); with_reducible exact rfl))

theorem within_refuseLate {M : Nat} {s0 s : State} (n : Nat) (trigSeq : Nat) (hw : Sub 0x246400000000000000004000000000000000000000140001c0000000000000000342260 M) (hk : Within M s0 s) :
   Within M s0 (State.refuseLate s n trigSeq) := by
  unfold State.refuseLate
  repeat' (first | intro _ | with_reducible assumption | with_reducible exact rfl | exact sub_trans hw rfl | exact has_of hw rfl | with_reducible exact .inl rfl | exact .inr (has_of hw rfl) | exact .inl rfl | dsimp only | with_reducible apply within_refuseStart | with_reducible apply within_ite | with_reducible apply within_ite2 | with_reducible apply within_foldl | split | ((with_reducible apply within_mk); with_reducible exact rfl))

theorem within_intakeStart {M : Nat} {s0 s : State} (n : Nat) (trigSeq : Nat) (sensorSeq : Nat) (hw : Sub 0x2464000000000000001040000000000000000140021c0307f8000000000000000347278 M) (hk : Within M s0 s) :
   Within M s0 (State.intakeStart s n trigSeq sensorSeq) := by
  unfold State.intakeStart
  repeat' (first | intro _ | with_reducible assumption | with_reducible exact rfl | exact sub_trans hw rfl | exact has_of hw rfl | with_reducible exact .inl rfl | exact .inr (has_of hw rfl) | exact .inl rfl | dsimp only | with_reducible apply within_strayStart | with_reducible apply within_openFrame | with_reducible apply within_refuseStart | with_reducible apply within_modCam | with_reducible apply within_missFrame | with_reducible apply within_refuseLate | with_reducible apply within_ite | with_reducible apply within_ite2 | with_reducible apply within_foldl | split | ((with_reducible apply within_mk); with_reducible exact rfl))

theorem within_closeByLink {M : Nat} {s0 s : State} (n : Nat) (hw : Sub 0x24640000000000000000400000000000000000000014000100000000000000000342260 M) (hk : Within M s0 s) :
   Within M s0 (State.closeByLink s n) := by
  unfold State.closeByLink
  repeat' (first | intro _ | with_reducible assumption | with_reducible exact rfl | exact sub_trans hw rfl | exact has_of hw rfl | with_reducible exact .inl rfl | exact .inr (has_of hw rfl) | exact .inl rfl | dsimp only | with_reducible apply within_modFrame | with_reducible apply within_closeFrame | with_reducible apply within_ite | with_reducible apply within_ite2 | with_reducible apply within_foldl | split | ((with_reducible apply within_mk); with_reducible exact rfl))

theorem within_takeSlot {M : Nat} {s0 s : State} (n : Nat) (q : Nat) (hw : Sub 0x24640000000000000000000000000000000000c00000000000000000000000000240040 M) (hk : Within M s0 s) :
   Within M s0 (State.takeSlot s n q) := by
  unfold State.takeSlot
  repeat' (first | intro _ | with_reducible assumption | with_reducible exact rfl | exact sub_trans hw rfl | exact has_of hw rfl | with_reducible exact .inl rfl | exact .inr (has_of hw rfl) | exact .inl rfl | dsimp only | with_reducible apply within_setFrame | with_reducible apply within_camCount | with_reducible apply within_setFld | with_reducible apply within_ite | with_reducible apply within_ite2 | with_reducible apply within_foldl | split | ((with_reducible apply within_mk); with_reducible exact rfl))

theorem within_finishFrame {M : Nat} {s0 s : State} (n : Nat) (q : Nat) (hw : Sub 0x24640000000000000010400000000000000000c00000000000000000000000000245060 M) (hk : Within M s0 s) :
   Within M s0 (State.finishFrame s n q) := by
  unfold State.finishFrame
  repeat' (first | intro _ | with_reducible assumption | with_reducible exact rfl | exact sub_trans hw rfl | exact has_of hw rfl | with_reducible exact .inl rfl | exact .inr (has_of hw rfl) | exact .inl rfl | dsimp only | with_reducible apply within_takeSlot | with_reducible apply within_finalize | with_reducible apply within_setFrame | with_reducible apply within_ringWrite | with_reducible apply within_barrierRead | with_reducible apply within_ite | with_reducible apply within_ite2 | with_reducible apply within_foldl | split | ((with_reducible apply within_mk); with_reducible exact rfl))

theorem within_issueRow {M : Nat} {s0 s : State} (n : Nat) (q : Nat) (o : Nat) (r : Nat) (hw : Sub 0x24640000000000000000400000000000000000000000000000000000000000000240040 M) (hk : Within M s0 s) :
   Within M s0 (State.issueRow s n q o r) := by
  unfold State.issueRow
  repeat' (first | intro _ | with_reducible assumption | with_reducible exact rfl | exact sub_trans hw rfl | exact has_of hw rfl | with_reducible exact .inl rfl | exact .inr (has_of hw rfl) | exact .inl rfl | dsimp only | with_reducible apply within_setMark | with_reducible apply within_modFrame | with_reducible apply within_map | with_reducible apply within_setFrame | with_reducible apply within_ringWrite | with_reducible apply within_barrierRead | with_reducible apply within_obsAdd | with_reducible apply within_ite | with_reducible apply within_ite2 | with_reducible apply within_foldl | split | ((with_reducible apply within_mk); with_reducible exact rfl))

theorem within_shedForPool {M : Nat} {s0 s : State} (n : Nat) (q : Nat) (hw : Sub 0x24640000000000000010400000000000000001c00000000000000000000000000245060 M) (hk : Within M s0 s) :
   Within M s0 (State.shedForPool s n q) := by
  unfold State.shedForPool
  repeat' (first | intro _ | with_reducible assumption | with_reducible exact rfl | exact sub_trans hw rfl | exact has_of hw rfl | with_reducible exact .inl rfl | exact .inr (has_of hw rfl) | exact .inl rfl | dsimp only | with_reducible apply within_shedOutputs | with_reducible apply within_modFrame | with_reducible apply within_finishFrame | with_reducible apply within_ite | with_reducible apply within_ite2 | with_reducible apply within_foldl | split | ((with_reducible apply within_mk); with_reducible exact rfl))

theorem within_beginWait {M : Nat} {s0 s : State} (n : Nat) (q : Nat) (o : Nat) (hw : Sub 0x40 M) (hk : Within M s0 s) :
   Within M s0 (State.beginWait s n q o) := by
  unfold State.beginWait
  repeat' (first | intro _ | with_reducible assumption | with_reducible exact rfl | exact sub_trans hw rfl | exact has_of hw rfl | with_reducible exact .inl rfl | exact .inr (has_of hw rfl) | exact .inl rfl | dsimp only | with_reducible apply within_modFrame | with_reducible apply within_ite | with_reducible apply within_ite2 | with_reducible apply within_foldl | split | ((with_reducible apply within_mk); with_reducible exact rfl))

theorem within_endWait {M : Nat} {s0 s : State} (n : Nat) (q : Nat) (o : Nat) (hw : Sub 0x40 M) (hk : Within M s0 s) :
   Within M s0 (State.endWait s n q o) := by
  unfold State.endWait
  repeat' (first | intro _ | with_reducible assumption | with_reducible exact rfl | exact sub_trans hw rfl | exact has_of hw rfl | with_reducible exact .inl rfl | exact .inr (has_of hw rfl) | exact .inl rfl | dsimp only | with_reducible apply within_modFrame | with_reducible apply within_ite | with_reducible apply within_ite2 | with_reducible apply within_foldl | split | ((with_reducible apply within_mk); with_reducible exact rfl))

theorem within_writeRow {M : Nat} {s0 s : State} (n : Nat) (q : Nat) (o : Nat) (i : Nat) (hw : Sub 0x24640000000000000010400000000000000001c00000000000000000000000000245060 M) (hk : Within M s0 s) :
   Within M s0 (State.writeRow s n q o i) := by
  unfold State.writeRow
  repeat' (first | intro _ | with_reducible assumption | with_reducible exact rfl | exact sub_trans hw rfl | exact has_of hw rfl | with_reducible exact .inl rfl | exact .inr (has_of hw rfl) | exact .inl rfl | dsimp only | with_reducible apply within_takeSlot | with_reducible apply within_modFrame | with_reducible apply within_finishFrame | with_reducible apply within_shedForPool | with_reducible apply within_endWait | with_reducible apply within_issueRow | with_reducible apply within_beginWait | with_reducible apply within_ite | with_reducible apply within_ite2 | with_reducible apply within_foldl | split | ((with_reducible apply within_mk); with_reducible exact rfl))

theorem within_rowComplete {M : Nat} {s0 s : State} (n : Nat) (q : Nat) (hw : Sub 0x24640000000000000010400000000000000000c00000000000000000000000000245060 M) (hk : Within M s0 s) :
   Within M s0 (State.rowComplete s n q) := by
  unfold State.rowComplete
  repeat' (first | intro _ | with_reducible assumption | with_reducible exact rfl | exact sub_trans hw rfl | exact has_of hw rfl | with_reducible exact .inl rfl | exact .inr (has_of hw rfl) | exact .inl rfl | dsimp only | with_reducible apply within_modFrame | with_reducible apply within_setMark | with_reducible apply within_finishFrame | with_reducible apply within_ite | with_reducible apply within_ite2 | with_reducible apply within_foldl | split | ((with_reducible apply within_mk); with_reducible exact rfl))

theorem within_setCore {M : Nat} {s0 s : State} (i : Nat) (x : CoreS) (hw : Sub 0x80 M) (hk : Within M s0 s) :
   Within M s0 (State.setCore s i x) := by
  unfold State.setCore
  repeat' (first | intro _ | with_reducible assumption | with_reducible exact rfl | exact sub_trans hw rfl | exact has_of hw rfl | with_reducible exact .inl rfl | exact .inr (has_of hw rfl) | exact .inl rfl | dsimp only | with_reducible apply within_ite | with_reducible apply within_ite2 | with_reducible apply within_foldl | split | ((with_reducible apply within_mk); with_reducible exact rfl))

theorem within_modCore {M : Nat} {s0 s : State} (i : Nat) (f : CoreS → CoreS) (hw : Sub 0x80 M) (hk : Within M s0 s) :
   Within M s0 (State.modCore s i f) := by
  unfold State.modCore
  repeat' (first | intro _ | with_reducible assumption | with_reducible exact rfl | exact sub_trans hw rfl | exact has_of hw rfl | with_reducible exact .inl rfl | exact .inr (has_of hw rfl) | exact .inl rfl | dsimp only | with_reducible apply within_setCore | with_reducible apply within_ite | with_reducible apply within_ite2 | with_reducible apply within_foldl | split | ((with_reducible apply within_mk); with_reducible exact rfl))

theorem within_modCtx {M : Nat} {s0 s : State} (i : Nat) (c : Nat) (f : CtxS → CtxS) (hw : Sub 0x80 M) (hk : Within M s0 s) :
   Within M s0 (State.modCtx s i c f) := by
  unfold State.modCtx
  repeat' (first | intro _ | with_reducible assumption | with_reducible exact rfl | exact sub_trans hw rfl | exact has_of hw rfl | with_reducible exact .inl rfl | exact .inr (has_of hw rfl) | exact .inl rfl | dsimp only | with_reducible apply within_modCore | with_reducible apply within_ite | with_reducible apply within_ite2 | with_reducible apply within_foldl | split | ((with_reducible apply within_mk); with_reducible exact rfl))

theorem within_setCoreState {M : Nat} {s0 s : State} (i : Nat) (v : Nat) (hw : Sub 0x10000000000000000000000000000000000000 M) (hk : Within M s0 s) :
   Within M s0 (State.setCoreState s i v) := by
  unfold State.setCoreState
  repeat' (first | intro _ | with_reducible assumption | with_reducible exact rfl | exact sub_trans hw rfl | exact has_of hw rfl | with_reducible exact .inl rfl | exact .inr (has_of hw rfl) | exact .inl rfl | dsimp only | with_reducible apply within_setFld | with_reducible apply within_ite | with_reducible apply within_ite2 | with_reducible apply within_foldl | split | ((with_reducible apply within_mk); with_reducible exact rfl))

theorem within_setCtxState {M : Nat} {s0 s : State} (i : Nat) (c : Nat) (v : Nat) (hw : Sub 0x20010000000000000000000000000000000000000 M) (hk : Within M s0 s) :
   Within M s0 (State.setCtxState s i c v) := by
  unfold State.setCtxState
  repeat' (first | intro _ | with_reducible assumption | with_reducible exact rfl | exact sub_trans hw rfl | exact has_of hw rfl | with_reducible exact .inl rfl | exact .inr (has_of hw rfl) | exact .inl rfl | dsimp only | with_reducible apply within_setFld | with_reducible apply within_map | with_reducible apply within_ite | with_reducible apply within_ite2 | with_reducible apply within_foldl | split | ((with_reducible apply within_mk); with_reducible exact rfl))

theorem within_setWait {M : Nat} {s0 s : State} (i : Nat) (c : Nat) (w : WaitS) (hw : Sub 0x20010000000000000000000000000000000000080 M) (hk : Within M s0 s) :
   Within M s0 (State.setWait s i c w) := by
  unfold State.setWait
  repeat' (first | intro _ | with_reducible assumption | with_reducible exact rfl | exact sub_trans hw rfl | exact has_of hw rfl | with_reducible exact .inl rfl | exact .inr (has_of hw rfl) | exact .inl rfl | dsimp only | with_reducible apply within_modCtx | with_reducible apply within_setFld | with_reducible apply within_setCtxState | with_reducible apply within_ite | with_reducible apply within_ite2 | with_reducible apply within_foldl | split | ((with_reducible apply within_mk); with_reducible exact rfl))

theorem within_wake {M : Nat} {s0 s : State} (i : Nat) (c : Nat) (hw : Sub 0x20010000000000000000000000000000000000080 M) (hk : Within M s0 s) :
   Within M s0 (State.wake s i c) := by
  unfold State.wake
  repeat' (first | intro _ | with_reducible assumption | with_reducible exact rfl | exact sub_trans hw rfl | exact has_of hw rfl | with_reducible exact .inl rfl | exact .inr (has_of hw rfl) | exact .inl rfl | dsimp only | with_reducible apply within_modCtx | with_reducible apply within_setWait | with_reducible apply within_ite | with_reducible apply within_ite2 | with_reducible apply within_foldl | split | ((with_reducible apply within_mk); with_reducible exact rfl))

theorem within_wakeIf {M : Nat} {s0 s : State} (i : Nat) (p : Nat → WaitS → Bool) (hw : Sub 0x20010000000000000000000000000000000000080 M) (hk : Within M s0 s) :
   Within M s0 (State.wakeIf s i p) := by
  unfold State.wakeIf
  repeat' (first | intro _ | with_reducible assumption | with_reducible exact rfl | exact sub_trans hw rfl | exact has_of hw rfl | with_reducible exact .inl rfl | exact .inr (has_of hw rfl) | exact .inl rfl | dsimp only | with_reducible apply within_wake | with_reducible apply within_ite | with_reducible apply within_ite2 | with_reducible apply within_foldl | split | ((with_reducible apply within_mk); with_reducible exact rfl))

theorem within_startCtx {M : Nat} {s0 s : State} (i : Nat) (c : Nat) (pc : Nat) (inl : Bool) (hw : Sub 0x20010000000000000000000000000000000000080 M) (hk : Within M s0 s) :
   Within M s0 (State.startCtx s i c pc inl) := by
  unfold State.startCtx
  repeat' (first | intro _ | with_reducible assumption | with_reducible exact rfl | exact sub_trans hw rfl | exact has_of hw rfl | with_reducible exact .inl rfl | exact .inr (has_of hw rfl) | exact .inl rfl | dsimp only | with_reducible apply within_modCtx | with_reducible apply within_setFld | with_reducible apply within_setCtxState | with_reducible apply within_ite | with_reducible apply within_ite2 | with_reducible apply within_foldl | split | ((with_reducible apply within_mk); with_reducible exact rfl))

theorem within_idleCtx {M : Nat} {s0 s : State} (i : Nat) (c : Nat) (hw : Sub 0x20010000000000000000000000000000000000080 M) (hk : Within M s0 s) :
   Within M s0 (State.idleCtx s i c) := by
  unfold State.idleCtx
  repeat' (first | intro _ | with_reducible assumption | with_reducible exact rfl | exact sub_trans hw rfl | exact has_of hw rfl | with_reducible exact .inl rfl | exact .inr (has_of hw rfl) | exact .inl rfl | dsimp only | with_reducible apply within_modCtx | with_reducible apply within_setFld | with_reducible apply within_setCtxState | with_reducible apply within_ite | with_reducible apply within_ite2 | with_reducible apply within_foldl | split | ((with_reducible apply within_mk); with_reducible exact rfl))

theorem within_setCounter {M : Nat} {s0 s : State} (g : Nat) (w : Nat) (x : CounterS) (hw : Sub 0x80000000000000000000000000000000000000000002000 M) (hk : Within M s0 s) :
   Within M s0 (State.setCounter s g w x) := by
  unfold State.setCounter
  repeat' (first | intro _ | with_reducible assumption | with_reducible exact rfl | exact sub_trans hw rfl | exact has_of hw rfl | with_reducible exact .inl rfl | exact .inr (has_of hw rfl) | exact .inl rfl | dsimp only | with_reducible apply within_modGroup | with_reducible apply within_setFld | with_reducible apply within_ite | with_reducible apply within_ite2 | with_reducible apply within_foldl | split | ((with_reducible apply within_mk); with_reducible exact rfl))

theorem within_pushShare {M : Nat} {s0 s : State} (g : Nat) (w : Nat) (n : Nat) (q : Nat) (k : Nat) (deadline : Nat) (inl : Bool) (training : Bool) (hw : Sub 0xc0000000000000000000000000000000000000000002000 M) (hk : Within M s0 s) :
   Within M s0 (State.pushShare s g w n q k deadline inl training) := by
  unfold State.pushShare
  repeat' (first | intro _ | with_reducible assumption | with_reducible exact rfl | exact sub_trans hw rfl | exact has_of hw rfl | with_reducible exact .inl rfl | exact .inr (has_of hw rfl) | exact .inl rfl | dsimp only | with_reducible apply within_setRegN | with_reducible apply within_setCounter | with_reducible apply within_ite | with_reducible apply within_ite2 | with_reducible apply within_foldl | split | ((with_reducible apply within_mk); with_reducible exact rfl))

theorem within_queueShare {M : Nat} {s0 s : State} (g : Nat) (w : Nat) (n : Nat) (q : Nat) (k : Nat) (hw : Sub 0xc0000000000000000000000000000000000000000002040 M) (hk : Within M s0 s) :
   Within M s0 (State.queueShare s g w n q k) := by
  unfold State.queueShare
  repeat' (first | intro _ | with_reducible assumption | with_reducible exact rfl | exact sub_trans hw rfl | exact has_of hw rfl | with_reducible exact .inl rfl | exact .inr (has_of hw rfl) | exact .inl rfl | dsimp only | with_reducible apply within_pushShare | with_reducible apply within_modFrame | with_reducible apply within_ite | with_reducible apply within_ite2 | with_reducible apply within_foldl | split | ((with_reducible apply within_mk); with_reducible exact rfl))

theorem within_takeShare {M : Nat} {s0 s : State} (i : Nat) (w : Nat) (h : Share) (hw : Sub 0x80000000000000000000000000000000000000000002080 M) (hk : Within M s0 s) :
   Within M s0 (State.takeShare s i w h) := by
  unfold State.takeShare
  repeat' (first | intro _ | with_reducible assumption | with_reducible exact rfl | exact sub_trans hw rfl | exact has_of hw rfl | with_reducible exact .inl rfl | exact .inr (has_of hw rfl) | exact .inl rfl | dsimp only | with_reducible apply within_setCounter | with_reducible apply within_map | with_reducible apply within_modCore | with_reducible apply within_ite | with_reducible apply within_ite2 | with_reducible apply within_foldl | split | ((with_reducible apply within_mk); with_reducible exact rfl))

theorem within_renewLeases {M : Nat} {s0 s : State} (i : Nat) (hw : Sub 0x80000000000000000000000000000000000000000002080 M) (hk : Within M s0 s) :
   Within M s0 (State.renewLeases s i) := by
  unfold State.renewLeases
  repeat' (first | intro _ | with_reducible assumption | with_reducible exact rfl | exact sub_trans hw rfl | exact has_of hw rfl | with_reducible exact .inl rfl | exact .inr (has_of hw rfl) | exact .inl rfl | dsimp only | with_reducible apply within_modCore | with_reducible apply within_setCounter | with_reducible apply within_map | with_reducible apply within_ite | with_reducible apply within_ite2 | with_reducible apply within_foldl | split | ((with_reducible apply within_mk); with_reducible exact rfl))

theorem within_expireLease {M : Nat} {s0 s : State} (g : Nat) (w : Nat) (idx : Nat) (hw : Sub 0x24640000000000000000000180000000000000000000000000000000000000000242000 M) (hk : Within M s0 s) :
   Within M s0 (State.expireLease s g w idx) := by
  unfold State.expireLease
  repeat' (first | intro _ | with_reducible assumption | with_reducible exact rfl | exact sub_trans hw rfl | exact has_of hw rfl | with_reducible exact .inl rfl | exact .inr (has_of hw rfl) | exact .inl rfl | dsimp only | with_reducible apply within_setCounter | with_reducible apply within_bump | with_reducible apply within_ite | with_reducible apply within_ite2 | with_reducible apply within_foldl | split | ((with_reducible apply within_mk); with_reducible exact rfl))

theorem within_withdraw {M : Nat} {s0 s : State} (n : Nat) (all : Bool) (hw : Sub 0x80000000000000000000000000000000000000000002000 M) (hk : Within M s0 s) :
   Within M s0 (State.withdraw s n all) := by
  unfold State.withdraw
  repeat' (first | intro _ | with_reducible assumption | with_reducible exact rfl | exact sub_trans hw rfl | exact has_of hw rfl | with_reducible exact .inl rfl | exact .inr (has_of hw rfl) | exact .inl rfl | dsimp only | with_reducible apply within_setCounter | with_reducible apply within_ite | with_reducible apply within_ite2 | with_reducible apply within_foldl | split | ((with_reducible apply within_mk); with_reducible exact rfl))

theorem within_forgetDone {M : Nat} {s0 s : State} (n : Nat) (hw : Sub 0x2000 M) (hk : Within M s0 s) :
   Within M s0 (State.forgetDone s n) := by
  unfold State.forgetDone
  repeat' (first | intro _ | with_reducible assumption | with_reducible exact rfl | exact sub_trans hw rfl | exact has_of hw rfl | with_reducible exact .inl rfl | exact .inr (has_of hw rfl) | exact .inl rfl | dsimp only | with_reducible apply within_modGroup | with_reducible apply within_map | with_reducible apply within_ite | with_reducible apply within_ite2 | with_reducible apply within_foldl | split | ((with_reducible apply within_mk); with_reducible exact rfl))

theorem within_forgetDrawn {M : Nat} {s0 s : State} (n : Nat) (hw : Sub 0x80 M) (hk : Within M s0 s) :
   Within M s0 (State.forgetDrawn s n) := by
  unfold State.forgetDrawn
  repeat' (first | intro _ | with_reducible assumption | with_reducible exact rfl | exact sub_trans hw rfl | exact has_of hw rfl | with_reducible exact .inl rfl | exact .inr (has_of hw rfl) | exact .inl rfl | dsimp only | with_reducible apply within_map | with_reducible apply within_ite | with_reducible apply within_ite2 | with_reducible apply within_foldl | split | ((with_reducible apply within_mk); with_reducible exact rfl))

theorem within_wakeBarrier {M : Nat} {s0 s : State} (b : BarScope) (cores : List Nat) (hw : Sub 0x20010000000000000000000000000000000000080 M) (hk : Within M s0 s) :
   Within M s0 (State.wakeBarrier s b cores) := by
  unfold State.wakeBarrier
  repeat' (first | intro _ | with_reducible assumption | with_reducible exact rfl | exact sub_trans hw rfl | exact has_of hw rfl | with_reducible exact .inl rfl | exact .inr (has_of hw rfl) | exact .inl rfl | dsimp only | with_reducible apply within_wakeIf | with_reducible apply within_ite | with_reducible apply within_ite2 | with_reducible apply within_foldl | split | ((with_reducible apply within_mk); with_reducible exact rfl))

theorem within_arriveStage {M : Nat} {s0 s : State} (g : Nat) (b : Nat) (hw : Sub 0x20010000000000000000000000000000000002080 M) (hk : Within M s0 s) :
   Within M s0 (State.arriveStage s g b) := by
  unfold State.arriveStage
  repeat' (first | intro _ | with_reducible assumption | with_reducible exact rfl | exact sub_trans hw rfl | exact has_of hw rfl | with_reducible exact .inl rfl | exact .inr (has_of hw rfl) | exact .inl rfl | dsimp only | with_reducible apply within_modGroup | with_reducible apply within_wakeBarrier | with_reducible apply within_ite | with_reducible apply within_ite2 | with_reducible apply within_foldl | split | ((with_reducible apply within_mk); with_reducible exact rfl))

theorem within_arriveStops {M : Nat} {s0 s : State} (i : Nat) (hw : Sub 0x20 M) (hk : Within M s0 s) :
   Within M s0 (State.arriveStops s i) := by
  unfold State.arriveStops
  repeat' (first | intro _ | with_reducible assumption | with_reducible exact rfl | exact sub_trans hw rfl | exact has_of hw rfl | with_reducible exact .inl rfl | exact .inr (has_of hw rfl) | exact .inl rfl | dsimp only | with_reducible apply within_map | with_reducible apply within_ite | with_reducible apply within_ite2 | with_reducible apply within_foldl | split | ((with_reducible apply within_mk); with_reducible exact rfl))

theorem within_closeStops {M : Nat} {s0 s : State} (g : Nat) (hw : Sub 0x20 M) (hk : Within M s0 s) :
   Within M s0 (State.closeStops s g) := by
  unfold State.closeStops
  repeat' (first | intro _ | with_reducible assumption | with_reducible exact rfl | exact sub_trans hw rfl | exact has_of hw rfl | with_reducible exact .inl rfl | exact .inr (has_of hw rfl) | exact .inl rfl | dsimp only | with_reducible apply within_map | with_reducible apply within_ite | with_reducible apply within_ite2 | with_reducible apply within_foldl | split | ((with_reducible apply within_mk); with_reducible exact rfl))

theorem within_checkGroup {M : Nat} {s0 s : State} (g : Nat) (hw : Sub 0x200100000000000000000000000000000000020a0 M) (hk : Within M s0 s) :
   Within M s0 (State.checkGroup s g) := by
  unfold State.checkGroup
  repeat' (first | intro _ | with_reducible assumption | with_reducible exact rfl | exact sub_trans hw rfl | exact has_of hw rfl | with_reducible exact .inl rfl | exact .inr (has_of hw rfl) | exact .inl rfl | dsimp only | with_reducible apply within_closeStops | with_reducible apply within_modGroup | with_reducible apply within_wakeBarrier | with_reducible apply within_ite | with_reducible apply within_ite2 | with_reducible apply within_foldl | split | ((with_reducible apply within_mk); with_reducible exact rfl))

theorem within_checkDevice {M : Nat} {s0 s : State} (hw : Sub 0x20010000000000000000000000000000000000180 M) (hk : Within M s0 s) :
   Within M s0 (State.checkDevice s) := by
  unfold State.checkDevice
  repeat' (first | intro _ | with_reducible assumption | with_reducible exact rfl | exact sub_trans hw rfl | exact has_of hw rfl | with_reducible exact .inl rfl | exact .inr (has_of hw rfl) | exact .inl rfl | dsimp only | with_reducible apply within_wakeBarrier | with_reducible apply within_ite | with_reducible apply within_ite2 | with_reducible apply within_foldl | split | ((with_reducible apply within_mk); with_reducible exact rfl))

theorem within_arriveGroup {M : Nat} {s0 s : State} (i : Nat) (hw : Sub 0x200100000000000000000000000000000000020a0 M) (hk : Within M s0 s) :
   Within M s0 (State.arriveGroup s i) := by
  unfold State.arriveGroup
  repeat' (first | intro _ | with_reducible assumption | with_reducible exact rfl | exact sub_trans hw rfl | exact has_of hw rfl | with_reducible exact .inl rfl | exact .inr (has_of hw rfl) | exact .inl rfl | dsimp only | with_reducible apply within_modCore | with_reducible apply within_arriveStops | with_reducible apply within_modGroup | with_reducible apply within_checkGroup | with_reducible apply within_ite | with_reducible apply within_ite2 | with_reducible apply within_foldl | split | ((with_reducible apply within_mk); with_reducible exact rfl))

theorem within_arriveDevice {M : Nat} {s0 s : State} (i : Nat) (hw : Sub 0x20010000000000000000000000000000000000180 M) (hk : Within M s0 s) :
   Within M s0 (State.arriveDevice s i) := by
  unfold State.arriveDevice
  repeat' (first | intro _ | with_reducible assumption | with_reducible exact rfl | exact sub_trans hw rfl | exact has_of hw rfl | with_reducible exact .inl rfl | exact .inr (has_of hw rfl) | exact .inl rfl | dsimp only | with_reducible apply within_modCore | with_reducible apply within_checkDevice | with_reducible apply within_ite | with_reducible apply within_ite2 | with_reducible apply within_foldl | split | ((with_reducible apply within_mk); with_reducible exact rfl))

theorem within_leaveBarriers {M : Nat} {s0 s : State} (i : Nat) (hw : Sub 0x200100000000000000000000000000000000021a0 M) (hk : Within M s0 s) :
   Within M s0 (State.leaveBarriers s i) := by
  unfold State.leaveBarriers
  repeat' (first | intro _ | with_reducible assumption | with_reducible exact rfl | exact sub_trans hw rfl | exact has_of hw rfl | with_reducible exact .inl rfl | exact .inr (has_of hw rfl) | exact .inl rfl | dsimp only | with_reducible apply within_modGroup | with_reducible apply within_checkGroup | with_reducible apply within_checkDevice | with_reducible apply within_ite | with_reducible apply within_ite2 | with_reducible apply within_foldl | split | ((with_reducible apply within_mk); with_reducible exact rfl))

theorem within_joinBarriers {M : Nat} {s0 s : State} (i : Nat) (hw : Sub 0x200100000000000000000000000000000000021a0 M) (hk : Within M s0 s) :
   Within M s0 (State.joinBarriers s i) := by
  unfold State.joinBarriers
  repeat' (first | intro _ | with_reducible assumption | with_reducible exact rfl | exact sub_trans hw rfl | exact has_of hw rfl | with_reducible exact .inl rfl | exact .inr (has_of hw rfl) | exact .inl rfl | dsimp only | with_reducible apply within_checkGroup | with_reducible apply within_checkDevice | with_reducible apply within_ite | with_reducible apply within_ite2 | with_reducible apply within_foldl | split | ((with_reducible apply within_mk); with_reducible exact rfl))

theorem within_performArrival {M : Nat} {s0 s : State} (i : Nat) (y : BarScope) (hw : Sub 0x200100000000000000000000000000000000021a0 M) (hk : Within M s0 s) :
   Within M s0 (State.performArrival s i y) := by
  unfold State.performArrival
  repeat' (first | intro _ | with_reducible assumption | with_reducible exact rfl | exact sub_trans hw rfl | exact has_of hw rfl | with_reducible exact .inl rfl | exact .inr (has_of hw rfl) | exact .inl rfl | dsimp only | with_reducible apply within_arriveGroup | with_reducible apply within_arriveDevice | with_reducible apply within_arriveStage | with_reducible apply within_ite | with_reducible apply within_ite2 | with_reducible apply within_foldl | split | ((with_reducible apply within_mk); with_reducible exact rfl))

theorem within_arriveWhenSeen {M : Nat} {s0 s : State} (i : Nat) (c : Nat) (b : BarScope) (hw : Sub 0x200100000000000000000000000000000000021a0 M) (hk : Within M s0 s) :
   Within M s0 (State.arriveWhenSeen s i c b) := by
  unfold State.arriveWhenSeen
  repeat' (first | intro _ | with_reducible assumption | with_reducible exact rfl | exact sub_trans hw rfl | exact has_of hw rfl | with_reducible exact .inl rfl | exact .inr (has_of hw rfl) | exact .inl rfl | dsimp only | with_reducible apply within_modCore | with_reducible apply within_performArrival | with_reducible apply within_ite | with_reducible apply within_ite2 | with_reducible apply within_foldl | split | ((with_reducible apply within_mk); with_reducible exact rfl))

theorem within_settleArrivals {M : Nat} {s0 s : State} (i : Nat) (hw : Sub 0x200100000000000000000000000000000000021a0 M) (hk : Within M s0 s) :
   Within M s0 (State.settleArrivals s i) := by
  unfold State.settleArrivals
  repeat' (first | intro _ | with_reducible assumption | with_reducible exact rfl | exact sub_trans hw rfl | exact has_of hw rfl | with_reducible exact .inl rfl | exact .inr (has_of hw rfl) | exact .inl rfl | dsimp only | with_reducible apply within_modCore | with_reducible apply within_performArrival | with_reducible apply within_ite | with_reducible apply within_ite2 | with_reducible apply within_foldl | split | ((with_reducible apply within_mk); with_reducible exact rfl))

theorem within_setPortState {M : Nat} {s0 s : State} (p : Nat) (v : Nat) (hw : Sub 0x2000000000000000000000000000000000000000000000020000000000000000 M) (hk : Within M s0 s) :
   Within M s0 (State.setPortState s p v) := by
  unfold State.setPortState
  repeat' (first | intro _ | with_reducible assumption | with_reducible exact rfl | exact sub_trans hw rfl | exact has_of hw rfl | with_reducible exact .inl rfl | exact .inr (has_of hw rfl) | exact .inl rfl | dsimp only | with_reducible apply within_setFld | with_reducible apply within_ite | with_reducible apply within_ite2 | with_reducible apply within_foldl | split | ((with_reducible apply within_mk); with_reducible exact rfl))

theorem within_portCount {M : Nat} {s0 s : State} (p : Nat) (ixl : RegName) (chn : RegName) (hw : Sub 0x24640000000000000000000000000000000000000000000000000000000000000240000 M) (hr_ixl : Has M ixl.ix) (hr_chn : Has M chn.ix) (hk : Within M s0 s) :
   Within M s0 (State.portCount s p ixl chn) := by
  unfold State.portCount
  repeat' (first | intro _ | with_reducible assumption | with_reducible exact rfl | exact sub_trans hw rfl | exact has_of hw rfl | with_reducible exact .inl rfl | exact .inr (has_of hw rfl) | exact .inl rfl | dsimp only | with_reducible apply within_bump | exact hr_ixl | exact hr_chn | with_reducible apply within_ite | with_reducible apply within_ite2 | with_reducible apply within_foldl | split | ((with_reducible apply within_mk); with_reducible exact rfl))

theorem within_linkEvt {M : Nat} {s0 s : State} (p : Nat) (f : Fld) (code : Nat) (hw : Sub 0x24640000000000000000000000000000000000000000000000000000000000000240000 M) (hr_f : Has M f.reg.ix) (hk : Within M s0 s) :
   Within M s0 (State.linkEvt s p f code) := by
  unfold State.linkEvt
  repeat' (first | intro _ | with_reducible assumption | with_reducible exact rfl | exact sub_trans hw rfl | exact has_of hw rfl | with_reducible exact .inl rfl | exact .inr (has_of hw rfl) | exact .inl rfl | dsimp only | with_reducible apply within_setEvt | with_reducible apply within_logEvent | exact hr_f | with_reducible apply within_ite | with_reducible apply within_ite2 | with_reducible apply within_foldl | split | ((with_reducible apply within_mk); with_reducible exact rfl))

theorem within_setWclk {M : Nat} {s0 s : State} (p : Nat) (v : Nat) (hw : Sub 0x20000000000000000 M) (hk : Within M s0 s) :
   Within M s0 (State.setWclk s p v) := by
  unfold State.setWclk
  repeat' (first | intro _ | with_reducible assumption | with_reducible exact rfl | exact sub_trans hw rfl | exact has_of hw rfl | with_reducible exact .inl rfl | exact .inr (has_of hw rfl) | exact .inl rfl | dsimp only | with_reducible apply within_setFld | with_reducible apply within_ite | with_reducible apply within_ite2 | with_reducible apply within_foldl | split | ((with_reducible apply within_mk); with_reducible exact rfl))

theorem within_frameEffect {M : Nat} {s0 s : State} (p : Nat) (c : FwdCtl) (hw : Sub 0x246400000000000000004000000000000000000000140001000000c0000000000342260 M) (hk : Within M s0 s) :
   Within M s0 (State.frameEffect s p c) := by
  unfold State.frameEffect
  repeat' (first | intro _ | with_reducible assumption | with_reducible exact rfl | exact sub_trans hw rfl | exact has_of hw rfl | with_reducible exact .inl rfl | exact .inr (has_of hw rfl) | exact .inl rfl | dsimp only | with_reducible apply within_closeByLink | with_reducible apply within_setMark | with_reducible apply within_setReg | with_reducible apply within_ite | with_reducible apply within_ite2 | with_reducible apply within_foldl | split | ((with_reducible apply within_mk); with_reducible exact rfl))

theorem within_linkEffect {M : Nat} {s0 s : State} (p : Nat) (c : FwdCtl) (hw : Sub 0x246400000000000000004000000000000000000000140001000000c0000000000342260 M) (hk : Within M s0 s) :
   Within M s0 (State.linkEffect s p c) := by
  unfold State.linkEffect
  repeat' (first | intro _ | with_reducible assumption | with_reducible exact rfl | exact sub_trans hw rfl | exact has_of hw rfl | with_reducible exact .inl rfl | exact .inr (has_of hw rfl) | exact .inl rfl | dsimp only | with_reducible apply within_emit | with_reducible apply within_frameEffect | with_reducible apply within_ite | with_reducible apply within_ite2 | with_reducible apply within_foldl | split | ((with_reducible apply within_mk); with_reducible exact rfl))

theorem within_dropBlocks {M : Nat} {s0 s : State} (p : Nat) (hw : Sub 0x10 M) (hk : Within M s0 s) :
   Within M s0 (State.dropBlocks s p) := by
  unfold State.dropBlocks
  repeat' (first | intro _ | with_reducible assumption | with_reducible exact rfl | exact sub_trans hw rfl | exact has_of hw rfl | with_reducible exact .inl rfl | exact .inr (has_of hw rfl) | exact .inl rfl | dsimp only | with_reducible apply within_ite | with_reducible apply within_ite2 | with_reducible apply within_foldl | split | ((with_reducible apply within_mk); with_reducible exact rfl))

theorem within_leaveActive {M : Nat} {s0 s : State} (p : Nat) (hw : Sub 0x2464000000000000001040000000000000000000001c0101080000c0000000000347278 M) (hk : Within M s0 s) :
   Within M s0 (State.leaveActive s p) := by
  unfold State.leaveActive
  repeat' (first | intro _ | with_reducible assumption | with_reducible exact rfl | exact sub_trans hw rfl | exact has_of hw rfl | with_reducible exact .inl rfl | exact .inr (has_of hw rfl) | exact .inl rfl | dsimp only | with_reducible apply within_linkEffect | with_reducible apply within_dropBlocks | with_reducible apply within_modPort | with_reducible apply within_tunnelsLost | with_reducible apply within_ite | with_reducible apply within_ite2 | with_reducible apply within_foldl | split | ((with_reducible apply within_mk); with_reducible exact rfl))

theorem within_beginAttempt {M : Nat} {s0 s : State} (p : Nat) (k : Nat) (fromLock : Bool) (hw : Sub 0x2000000000000000000000000000000000000000000000020000000000000008 M) (hk : Within M s0 s) :
   Within M s0 (State.beginAttempt s p k fromLock) := by
  unfold State.beginAttempt
  repeat' (first | intro _ | with_reducible assumption | with_reducible exact rfl | exact sub_trans hw rfl | exact has_of hw rfl | with_reducible exact .inl rfl | exact .inr (has_of hw rfl) | exact .inl rfl | dsimp only | with_reducible apply within_modPort | with_reducible apply within_setFld | with_reducible apply within_setPortState | with_reducible apply within_setWclk | with_reducible apply within_ite | with_reducible apply within_ite2 | with_reducible apply within_foldl | split | ((with_reducible apply within_mk); with_reducible exact rfl))

theorem within_portFault {M : Nat} {s0 s : State} (p : Nat) (code : Nat) (hw : Sub 0x24640002000000000010400000000000000000000000000000000220000000000245008 M) (hk : Within M s0 s) :
   Within M s0 (State.portFault s p code) := by
  unfold State.portFault
  repeat' (first | intro _ | with_reducible assumption | with_reducible exact rfl | exact sub_trans hw rfl | exact has_of hw rfl | with_reducible exact .inl rfl | exact .inr (has_of hw rfl) | exact .inl rfl | dsimp only | with_reducible apply within_setPortState | with_reducible apply within_linkEvt | with_reducible apply within_modPort | with_reducible apply within_reply | with_reducible apply within_logEvent | with_reducible apply within_ite | with_reducible apply within_ite2 | with_reducible apply within_foldl | split | ((with_reducible apply within_mk); with_reducible exact rfl))

theorem within_attemptFail {M : Nat} {s0 s : State} (p : Nat) (code : Nat) (hw : Sub 0x24641002000000000010400000000000000000000000000000004220000000000245008 M) (hk : Within M s0 s) :
   Within M s0 (State.attemptFail s p code) := by
  unfold State.attemptFail
  repeat' (first | intro _ | with_reducible assumption | with_reducible exact rfl | exact sub_trans hw rfl | exact has_of hw rfl | with_reducible exact .inl rfl | exact .inr (has_of hw rfl) | exact .inl rfl | dsimp only | with_reducible apply within_setFld | with_reducible apply within_portCount | with_reducible apply within_modPort | with_reducible apply within_portFault | with_reducible apply within_setPortState | with_reducible apply within_ite | with_reducible apply within_ite2 | with_reducible apply within_foldl | split | ((with_reducible apply within_mk); with_reducible exact rfl))

theorem within_retrain {M : Nat} {s0 s : State} (p : Nat) (code : Nat) (clock : Bool) (hw : Sub 0x2464100200000000001040000000000000000000001c0101080042e0000000000347278 M) (hk : Within M s0 s) :
   Within M s0 (State.retrain s p code clock) := by
  unfold State.retrain
  repeat' (first | intro _ | with_reducible assumption | with_reducible exact rfl | exact sub_trans hw rfl | exact has_of hw rfl | with_reducible exact .inl rfl | exact .inr (has_of hw rfl) | exact .inl rfl | dsimp only | with_reducible apply within_leaveActive | with_reducible apply within_setFld | with_reducible apply within_portCount | with_reducible apply within_linkEvt | with_reducible apply within_beginAttempt | with_reducible apply within_ite | with_reducible apply within_ite2 | with_reducible apply within_foldl | split | ((with_reducible apply within_mk); with_reducible exact rfl))

theorem within_portDown {M : Nat} {s0 s : State} (p : Nat) (hw : Sub 0x2464000200000000001040000000000000000000001c0101080000e0000000000347278 M) (hk : Within M s0 s) :
   Within M s0 (State.portDown s p) := by
  unfold State.portDown
  repeat' (first | intro _ | with_reducible assumption | with_reducible exact rfl | exact sub_trans hw rfl | exact has_of hw rfl | with_reducible exact .inl rfl | exact .inr (has_of hw rfl) | exact .inl rfl | dsimp only | with_reducible apply within_leaveActive | with_reducible apply within_modPort | with_reducible apply within_setWclk | with_reducible apply within_setPortState | with_reducible apply within_ite | with_reducible apply within_ite2 | with_reducible apply within_foldl | split | ((with_reducible apply within_mk); with_reducible exact rfl))

theorem within_portCfgWrite {M : Nat} {s0 s : State} (p : Nat) (v : Nat) (hw : Sub 0x2464100200000000001040000000000000000000001c0101080042f0000000000347278 M) (hk : Within M s0 s) :
   Within M s0 (State.portCfgWrite s p v) := by
  unfold State.portCfgWrite
  repeat' (first | intro _ | with_reducible assumption | with_reducible exact rfl | exact sub_trans hw rfl | exact has_of hw rfl | with_reducible exact .inl rfl | exact .inr (has_of hw rfl) | exact .inl rfl | dsimp only | with_reducible apply within_setFld | with_reducible apply within_portDown | with_reducible apply within_beginAttempt | with_reducible apply within_retrain | with_reducible apply within_ite | with_reducible apply within_ite2 | with_reducible apply within_foldl | split | ((with_reducible apply within_mk); with_reducible exact rfl))

theorem within_bringupStep {M : Nat} {s0 s : State} (p : Nat) (next : State → State) (hw : Sub 0x24641002000000000010400000000000000000000000000000004220000000000245008 M) (hk : Within M s0 s) (hnext : ∀ t, Within M s0 t → Within M s0 (next t)) :
   Within M s0 (State.bringupStep s p next) := by
  unfold State.bringupStep
  repeat' (first | intro _ | with_reducible assumption | with_reducible exact rfl | exact sub_trans hw rfl | exact has_of hw rfl | with_reducible exact .inl rfl | exact .inr (has_of hw rfl) | exact .inl rfl | dsimp only | with_reducible apply within_attemptFail | with_reducible apply within_modPort | exact hnext _ ‹_›| apply hnext | with_reducible apply within_ite | with_reducible apply within_ite2 | with_reducible apply within_foldl | split | ((with_reducible apply within_mk); with_reducible exact rfl))

theorem within_signalDetected {M : Nat} {s0 s : State} (p : Nat) (hw : Sub 0x24641002000000000010400000000000000000000000000000004220000000000245008 M) (hk : Within M s0 s) :
   Within M s0 (State.signalDetected s p) := by
  unfold State.signalDetected
  repeat' (first | intro _ | with_reducible assumption | with_reducible exact rfl | exact sub_trans hw rfl | exact has_of hw rfl | with_reducible exact .inl rfl | exact .inr (has_of hw rfl) | exact .inl rfl | dsimp only | with_reducible apply within_bringupStep | with_reducible apply within_setWclk | with_reducible apply within_setPortState | with_reducible apply within_ite | with_reducible apply within_ite2 | with_reducible apply within_foldl | split | ((with_reducible apply within_mk); with_reducible exact rfl))

theorem within_blockLockGained {M : Nat} {s0 s : State} (p : Nat) (hw : Sub 0x24641002000000000010400000000000000000000000000000004220000000000245018 M) (hk : Within M s0 s) :
   Within M s0 (State.blockLockGained s p) := by
  unfold State.blockLockGained
  repeat' (first | intro _ | with_reducible assumption | with_reducible exact rfl | exact sub_trans hw rfl | exact has_of hw rfl | with_reducible exact .inl rfl | exact .inr (has_of hw rfl) | exact .inl rfl | dsimp only | with_reducible apply within_bringupStep | with_reducible apply within_modPort | with_reducible apply within_setPortState | with_reducible apply within_sendCaps | with_reducible apply within_emit | with_reducible apply within_ite | with_reducible apply within_ite2 | with_reducible apply within_foldl | split | ((with_reducible apply within_mk); with_reducible exact rfl))

theorem within_blockLockLost {M : Nat} {s0 s : State} (p : Nat) (hw : Sub 0x2464100200000000001040000000000000000000001c0101080042e0000000000347278 M) (hk : Within M s0 s) :
   Within M s0 (State.blockLockLost s p) := by
  unfold State.blockLockLost
  repeat' (first | intro _ | with_reducible assumption | with_reducible exact rfl | exact sub_trans hw rfl | exact has_of hw rfl | with_reducible exact .inl rfl | exact .inr (has_of hw rfl) | exact .inl rfl | dsimp only | with_reducible apply within_retrain | with_reducible apply within_modPort | with_reducible apply within_ite | with_reducible apply within_ite2 | with_reducible apply within_foldl | split | ((with_reducible apply within_mk); with_reducible exact rfl))

theorem within_retryWaitEnd {M : Nat} {s0 s : State} (p : Nat) (hw : Sub 0x2000000000000000000000000000000000000000000000020000000000000008 M) (hk : Within M s0 s) :
   Within M s0 (State.retryWaitEnd s p) := by
  unfold State.retryWaitEnd
  repeat' (first | intro _ | with_reducible assumption | with_reducible exact rfl | exact sub_trans hw rfl | exact has_of hw rfl | with_reducible exact .inl rfl | exact .inr (has_of hw rfl) | exact .inl rfl | dsimp only | with_reducible apply within_beginAttempt | with_reducible apply within_ite | with_reducible apply within_ite2 | with_reducible apply within_foldl | split | ((with_reducible apply within_mk); with_reducible exact rfl))

theorem within_wordClockLoss {M : Nat} {s0 s : State} (p : Nat) (hw : Sub 0x2464100200000000001040000000000000000000001c0101080042e0000000000347278 M) (hk : Within M s0 s) :
   Within M s0 (State.wordClockLoss s p) := by
  unfold State.wordClockLoss
  repeat' (first | intro _ | with_reducible assumption | with_reducible exact rfl | exact sub_trans hw rfl | exact has_of hw rfl | with_reducible exact .inl rfl | exact .inr (has_of hw rfl) | exact .inl rfl | dsimp only | with_reducible apply within_setWclk | with_reducible apply within_retrain | with_reducible apply within_modPort | with_reducible apply within_setPortState | with_reducible apply within_ite | with_reducible apply within_ite2 | with_reducible apply within_foldl | split | ((with_reducible apply within_mk); with_reducible exact rfl))

theorem within_checkOverload {M : Nat} {s0 s : State} (p : Nat) (hw : Sub 0x24640000000000000000000000000000000000000000000000000200000000000240000 M) (hk : Within M s0 s) :
   Within M s0 (State.checkOverload s p) := by
  unfold State.checkOverload
  repeat' (first | intro _ | with_reducible assumption | with_reducible exact rfl | exact sub_trans hw rfl | exact has_of hw rfl | with_reducible exact .inl rfl | exact .inr (has_of hw rfl) | exact .inl rfl | dsimp only | with_reducible apply within_linkEvt | with_reducible apply within_ite | with_reducible apply within_ite2 | with_reducible apply within_foldl | split | ((with_reducible apply within_mk); with_reducible exact rfl))

theorem within_dropPkt {M : Nat} {s0 s : State} (p : Nat) (hw : Sub 0x24640800000000000000000000000000000000000000000000002000000000000240000 M) (hk : Within M s0 s) :
   Within M s0 (State.dropPkt s p) := by
  unfold State.dropPkt
  repeat' (first | intro _ | with_reducible assumption | with_reducible exact rfl | exact sub_trans hw rfl | exact has_of hw rfl | with_reducible exact .inl rfl | exact .inr (has_of hw rfl) | exact .inl rfl | dsimp only | with_reducible apply within_portCount | with_reducible apply within_ite | with_reducible apply within_ite2 | with_reducible apply within_foldl | split | ((with_reducible apply within_mk); with_reducible exact rfl))

theorem within_cameraPacket {M : Nat} {s0 s : State} (p : Nat) (k : Packet) (hw : Sub 0x2464080000000000001040000000000000000140021c0307f8002000000000000347278 M) (hk : Within M s0 s) :
   Within M s0 (State.cameraPacket s p k) := by
  unfold State.cameraPacket
  repeat' (first | intro _ | with_reducible assumption | with_reducible exact rfl | exact sub_trans hw rfl | exact has_of hw rfl | with_reducible exact .inl rfl | exact .inr (has_of hw rfl) | exact .inl rfl | dsimp only | with_reducible apply within_overdue | with_reducible apply within_intakeVideo | with_reducible apply within_dropPkt | with_reducible apply within_intakeEmbed | with_reducible apply within_intakeStart | with_reducible apply within_intakeEnd | with_reducible apply within_tunnelResponse | with_reducible apply within_ite | with_reducible apply within_ite2 | with_reducible apply within_foldl | split | ((with_reducible apply within_mk); with_reducible exact rfl))

theorem within_forwardPacket {M : Nat} {s0 s : State} (p : Nat) (k : Packet) (hw : Sub 0x24648000000000000000000000000000000000000000000000000000000000000240000 M) (hk : Within M s0 s) :
   Within M s0 (State.forwardPacket s p k) := by
  unfold State.forwardPacket
  repeat' (first | intro _ | with_reducible assumption | with_reducible exact rfl | exact sub_trans hw rfl | exact has_of hw rfl | with_reducible exact .inl rfl | exact .inr (has_of hw rfl) | exact .inl rfl | dsimp only | with_reducible apply within_emit | with_reducible apply within_bump | with_reducible apply within_ite | with_reducible apply within_ite2 | with_reducible apply within_foldl | split | ((with_reducible apply within_mk); with_reducible exact rfl))

theorem within_enterActive {M : Nat} {s0 s : State} (p : Nat) (k : Packet) (hw : Sub 0x246400020000000000104000000000000000000000140001000003e0000000000347278 M) (hk : Within M s0 s) :
   Within M s0 (State.enterActive s p k) := by
  unfold State.enterActive
  repeat' (first | intro _ | with_reducible assumption | with_reducible exact rfl | exact sub_trans hw rfl | exact has_of hw rfl | with_reducible exact .inl rfl | exact .inr (has_of hw rfl) | exact .inl rfl | dsimp only | with_reducible apply within_setRegN | with_reducible apply within_linkEffect | with_reducible apply within_modPort | with_reducible apply within_setPortState | with_reducible apply within_freeCredits | with_reducible apply within_checkOverload | with_reducible apply within_reply | with_reducible apply within_ite | with_reducible apply within_ite2 | with_reducible apply within_foldl | split | ((with_reducible apply within_mk); with_reducible exact rfl))

theorem within_capsState {M : Nat} {s0 s : State} (p : Nat) (k : Packet) (hw : Sub 0x246418020000000000104000000000000000000000140001000063e0000000000347278 M) (hk : Within M s0 s) :
   Within M s0 (State.capsState s p k) := by
  unfold State.capsState
  repeat' (first | intro _ | with_reducible assumption | with_reducible exact rfl | exact sub_trans hw rfl | exact has_of hw rfl | with_reducible exact .inl rfl | exact .inr (has_of hw rfl) | exact .inl rfl | dsimp only | with_reducible apply within_bringupStep | with_reducible apply within_linkEvt | with_reducible apply within_attemptFail | with_reducible apply within_enterActive | with_reducible apply within_discardPkt | with_reducible apply within_dropPkt | with_reducible apply within_ite | with_reducible apply within_ite2 | with_reducible apply within_foldl | split | ((with_reducible apply within_mk); with_reducible exact rfl))

theorem within_hubStatus {M : Nat} {s0 s : State} (p : Nat) (k : Packet) (hw : Sub 0x2464180200000000001040000000000000000000001c0101080062e0000000000347278 M) (hk : Within M s0 s) :
   Within M s0 (State.hubStatus s p k) := by
  unfold State.hubStatus
  repeat' (first | intro _ | with_reducible assumption | with_reducible exact rfl | exact sub_trans hw rfl | exact has_of hw rfl | with_reducible exact .inl rfl | exact .inr (has_of hw rfl) | exact .inl rfl | dsimp only | with_reducible apply within_retrain | with_reducible apply within_setRegN | with_reducible apply within_linkEvt | with_reducible apply within_linkEffect | with_reducible apply within_logEvent | with_reducible apply within_dropPkt | with_reducible apply within_ite | with_reducible apply within_ite2 | with_reducible apply within_foldl | split | ((with_reducible apply within_mk); with_reducible exact rfl))

theorem within_dispatchPkt {M : Nat} {s0 s : State} (p : Nat) (k : Packet) (hw : Sub 0x2464980200000000001040000000000000000140021c0307f80062e0000000000347278 M) (hk : Within M s0 s) :
   Within M s0 (State.dispatchPkt s p k) := by
  unfold State.dispatchPkt
  repeat' (first | intro _ | with_reducible assumption | with_reducible exact rfl | exact sub_trans hw rfl | exact has_of hw rfl | with_reducible exact .inl rfl | exact .inr (has_of hw rfl) | exact .inl rfl | dsimp only | with_reducible apply within_dropPkt | with_reducible apply within_hubStatus | with_reducible apply within_forwardPacket | with_reducible apply within_cameraPacket | with_reducible apply within_ite | with_reducible apply within_ite2 | with_reducible apply within_foldl | split | ((with_reducible apply within_mk); with_reducible exact rfl))

theorem within_acceptPkt {M : Nat} {s0 s : State} (p : Nat) (k : Packet) (hw : Sub 0x2464980200000000001040000000000000000140021c0307f80062e0000000000347278 M) (hk : Within M s0 s) :
   Within M s0 (State.acceptPkt s p k) := by
  unfold State.acceptPkt
  repeat' (first | intro _ | with_reducible assumption | with_reducible exact rfl | exact sub_trans hw rfl | exact has_of hw rfl | with_reducible exact .inl rfl | exact .inr (has_of hw rfl) | exact .inl rfl | dsimp only | with_reducible apply within_setPort | with_reducible apply within_freeCredits | with_reducible apply within_sendAck | with_reducible apply within_dispatchPkt | with_reducible apply within_ite | with_reducible apply within_ite2 | with_reducible apply within_foldl | split | ((with_reducible apply within_mk); with_reducible exact rfl))

theorem within_failPkt {M : Nat} {s0 s : State} (p : Nat) (cost : Nat) (cause : Nat) (hw : Sub 0x24640800000000000000000000000000000000000000000000008c00000000000240018 M) (hk : Within M s0 s) :
   Within M s0 (State.failPkt s p cost cause) := by
  unfold State.failPkt
  repeat' (first | intro _ | with_reducible assumption | with_reducible exact rfl | exact sub_trans hw rfl | exact has_of hw rfl | with_reducible exact .inl rfl | exact .inr (has_of hw rfl) | exact .inl rfl | dsimp only | with_reducible apply within_portCount | with_reducible apply within_freeCredits | with_reducible apply within_setPort | with_reducible apply within_sendNak | with_reducible apply within_ite | with_reducible apply within_ite2 | with_reducible apply within_foldl | split | ((with_reducible apply within_mk); with_reducible exact rfl))

theorem within_replayGone {M : Nat} {s0 s : State} (p : Nat) (q : Nat) (k : Packet) (hw : Sub 0x246400000000000000004000000000000000000000140001000012c0000000000342278 M) (hk : Within M s0 s) :
   Within M s0 (State.replayGone s p q k) := by
  unfold State.replayGone
  repeat' (first | intro _ | with_reducible assumption | with_reducible exact rfl | exact sub_trans hw rfl | exact has_of hw rfl | with_reducible exact .inl rfl | exact .inr (has_of hw rfl) | exact .inl rfl | dsimp only | with_reducible apply within_freeCredits | with_reducible apply within_modPort | with_reducible apply within_bump | with_reducible apply within_linkEvt | with_reducible apply within_linkEffect | with_reducible apply within_ite | with_reducible apply within_ite2 | with_reducible apply within_foldl | split | ((with_reducible apply within_mk); with_reducible exact rfl))

theorem within_duplicatePkt {M : Nat} {s0 s : State} (p : Nat) (k : Packet) (hw : Sub 0x24640800000000000000000000000000000000000000000000002000000000000240018 M) (hk : Within M s0 s) :
   Within M s0 (State.duplicatePkt s p k) := by
  unfold State.duplicatePkt
  repeat' (first | intro _ | with_reducible assumption | with_reducible exact rfl | exact sub_trans hw rfl | exact has_of hw rfl | with_reducible exact .inl rfl | exact .inr (has_of hw rfl) | exact .inl rfl | dsimp only | with_reducible apply within_freeCredits | with_reducible apply within_dropPkt | with_reducible apply within_ite | with_reducible apply within_ite2 | with_reducible apply within_foldl | split | ((with_reducible apply within_mk); with_reducible exact rfl))

theorem within_sequencePkt {M : Nat} {s0 s : State} (p : Nat) (k : Packet) (hw : Sub 0x2464980200000000001040000000000000000140021c0307f800fee0000000000347278 M) (hk : Within M s0 s) :
   Within M s0 (State.sequencePkt s p k) := by
  unfold State.sequencePkt
  repeat' (first | intro _ | with_reducible assumption | with_reducible exact rfl | exact sub_trans hw rfl | exact has_of hw rfl | with_reducible exact .inl rfl | exact .inr (has_of hw rfl) | exact .inl rfl | dsimp only | with_reducible apply within_replayGone | with_reducible apply within_modPort | with_reducible apply within_acceptPkt | with_reducible apply within_linkEffect | with_reducible apply within_duplicatePkt | with_reducible apply within_freeCredits | with_reducible apply within_failPkt | with_reducible apply within_ite | with_reducible apply within_ite2 | with_reducible apply within_foldl | split | ((with_reducible apply within_mk); with_reducible exact rfl))

theorem within_strayBlock {M : Nat} {s0 s : State} (p : Nat) (t : Byte) (hw : Sub 0x24640800000000000000000000000000000000000000000000002000000000000240000 M) (hk : Within M s0 s) :
   Within M s0 (State.strayBlock s p t) := by
  unfold State.strayBlock
  repeat' (first | intro _ | with_reducible assumption | with_reducible exact rfl | exact sub_trans hw rfl | exact has_of hw rfl | with_reducible exact .inl rfl | exact .inr (has_of hw rfl) | exact .inl rfl | dsimp only | with_reducible apply within_dropPkt | with_reducible apply within_ite | with_reducible apply within_ite2 | with_reducible apply within_foldl | split | ((with_reducible apply within_mk); with_reducible exact rfl))

theorem within_receive {M : Nat} {s0 s : State} (p : Nat) (k : Packet) (hw : Sub 0x2464980200000000001040000000000000000140021c0307f800ffe0000000000347278 M) (hk : Within M s0 s) :
   Within M s0 (State.receive s p k) := by
  unfold State.receive
  repeat' (first | intro _ | with_reducible assumption | with_reducible exact rfl | exact sub_trans hw rfl | exact has_of hw rfl | with_reducible exact .inl rfl | exact .inr (has_of hw rfl) | exact .inl rfl | dsimp only | with_reducible apply within_obsAdd | with_reducible apply within_capsState | with_reducible apply within_modPort | with_reducible apply within_failPkt | with_reducible apply within_sequencePkt | with_reducible apply within_ite | with_reducible apply within_ite2 | with_reducible apply within_foldl | split | ((with_reducible apply within_mk); with_reducible exact rfl))

theorem within_replayExpiry {M : Nat} {s0 s : State} (p : Nat) (hw : Sub 0x2464100200000000001040000000000000000000001c010108004ae0000000000347278 M) (hk : Within M s0 s) :
   Within M s0 (State.replayExpiry s p) := by
  unfold State.replayExpiry
  repeat' (first | intro _ | with_reducible assumption | with_reducible exact rfl | exact sub_trans hw rfl | exact has_of hw rfl | with_reducible exact .inl rfl | exact .inr (has_of hw rfl) | exact .inl rfl | dsimp only | with_reducible apply within_retrain | with_reducible apply within_modPort | with_reducible apply within_sendNak | with_reducible apply within_ite | with_reducible apply within_ite2 | with_reducible apply within_foldl | split | ((with_reducible apply within_mk); with_reducible exact rfl))

theorem within_setTimeState {M : Nat} {s0 s : State} (v : Nat) (hw : Sub 0x20000000000000000000000000000000000000000000000000000000000000400040000 M) (hk : Within M s0 s) :
   Within M s0 (State.setTimeState s v) := by
  unfold State.setTimeState
  repeat' (first | intro _ | with_reducible assumption | with_reducible exact rfl | exact sub_trans hw rfl | exact has_of hw rfl | with_reducible exact .inl rfl | exact .inr (has_of hw rfl) | exact .inl rfl | dsimp only | with_reducible apply within_setFld | with_reducible apply within_traceEv | with_reducible apply within_ite | with_reducible apply within_ite2 | with_reducible apply within_foldl | split | ((with_reducible apply within_mk); with_reducible exact rfl))

theorem within_synCount {M : Nat} {s0 s : State} (r : RegName) (n : Nat) (hw : Sub 0x24640000000000000000000000000000000000000000000000000000000000000240000 M) (hr_r : Has M r.ix) (hk : Within M s0 s) :
   Within M s0 (State.synCount s r n) := by
  unfold State.synCount
  repeat' (first | intro _ | with_reducible assumption | with_reducible exact rfl | exact sub_trans hw rfl | exact has_of hw rfl | with_reducible exact .inl rfl | exact .inr (has_of hw rfl) | exact .inl rfl | dsimp only | with_reducible apply within_bump | exact hr_r | with_reducible apply within_ite | with_reducible apply within_ite2 | with_reducible apply within_foldl | split | ((with_reducible apply within_mk); with_reducible exact rfl))

theorem within_setRate {M : Nat} {s0 s : State} (r : Int) (hw : Sub 0x40400000000 M) (hk : Within M s0 s) :
   Within M s0 (State.setRate s r) := by
  unfold State.setRate
  repeat' (first | intro _ | with_reducible assumption | with_reducible exact rfl | exact sub_trans hw rfl | exact has_of hw rfl | with_reducible exact .inl rfl | exact .inr (has_of hw rfl) | exact .inl rfl | dsimp only | with_reducible apply within_setRegN | with_reducible apply within_setFld | with_reducible apply within_ite | with_reducible apply within_ite2 | with_reducible apply within_foldl | split | ((with_reducible apply within_mk); with_reducible exact rfl))

theorem within_endSlew {M : Nat} {s0 s : State} (hw : Sub 0x40400000004 M) (hk : Within M s0 s) :
   Within M s0 (State.endSlew s) := by
  unfold State.endSlew
  repeat' (first | intro _ | with_reducible assumption | with_reducible exact rfl | exact sub_trans hw rfl | exact has_of hw rfl | with_reducible exact .inl rfl | exact .inr (has_of hw rfl) | exact .inl rfl | dsimp only | with_reducible apply within_setRate | with_reducible apply within_modTime | with_reducible apply within_ite | with_reducible apply within_ite2 | with_reducible apply within_foldl | split | ((with_reducible apply within_mk); with_reducible exact rfl))

theorem within_shiftDeadlines {M : Nat} {s0 s : State} (d : Int) (hw : Sub 0x77ae8 M) (hk : Within M s0 s) :
   Within M s0 (State.shiftDeadlines s d) := by
  unfold State.shiftDeadlines
  repeat' (first | intro _ | with_reducible assumption | with_reducible exact rfl | exact sub_trans hw rfl | exact has_of hw rfl | with_reducible exact .inl rfl | exact .inr (has_of hw rfl) | exact .inl rfl | dsimp only | with_reducible apply within_map | with_reducible apply within_ite | with_reducible apply within_ite2 | with_reducible apply within_foldl | split | ((with_reducible apply within_mk); with_reducible exact rfl))

theorem within_cancelForwarded {M : Nat} {s0 s : State} (t0 : Nat) (t1 : Nat) (hw : Sub 0x24640000000000000000000000000000000000000000000000000000004000000260000 M) (hk : Within M s0 s) :
   Within M s0 (State.cancelForwarded s t0 t1) := by
  unfold State.cancelForwarded
  repeat' (first | intro _ | with_reducible assumption | with_reducible exact rfl | exact sub_trans hw rfl | exact has_of hw rfl | with_reducible exact .inl rfl | exact .inr (has_of hw rfl) | exact .inl rfl | dsimp only | with_reducible apply within_synCount | with_reducible apply within_map | with_reducible apply within_ite | with_reducible apply within_ite2 | with_reducible apply within_foldl | split | ((with_reducible apply within_mk); with_reducible exact rfl))

theorem within_cancelLaunches {M : Nat} {s0 s : State} (t0 : Nat) (t1 : Nat) (hw : Sub 0x24640000000000000000000000000000000000000000000000000000004000000240020 M) (hk : Within M s0 s) :
   Within M s0 (State.cancelLaunches s t0 t1) := by
  unfold State.cancelLaunches
  repeat' (first | intro _ | with_reducible assumption | with_reducible exact rfl | exact sub_trans hw rfl | exact has_of hw rfl | with_reducible exact .inl rfl | exact .inr (has_of hw rfl) | exact .inl rfl | dsimp only | with_reducible apply within_modCam | with_reducible apply within_synCount | with_reducible apply within_ite | with_reducible apply within_ite2 | with_reducible apply within_foldl | split | ((with_reducible apply within_mk); with_reducible exact rfl))

theorem within_stepTime {M : Nat} {s0 s : State} (d : Int) (code : Nat) (hw : Sub 0x246400000000000000000000000000000000000000000000000000000063c0400277aec M) (hk : Within M s0 s) :
   Within M s0 (State.stepTime s d code) := by
  unfold State.stepTime
  repeat' (first | intro _ | with_reducible assumption | with_reducible exact rfl | exact sub_trans hw rfl | exact has_of hw rfl | with_reducible exact .inl rfl | exact .inr (has_of hw rfl) | exact .inl rfl | dsimp only | with_reducible apply within_endSlew | with_reducible apply within_cancelLaunches | with_reducible apply within_cancelForwarded | with_reducible apply within_shiftDeadlines | with_reducible apply within_modTime | with_reducible apply within_setPair | with_reducible apply within_setRegN | with_reducible apply within_setEvt | with_reducible apply within_synCount | with_reducible apply within_logEvent | with_reducible apply within_traceEv | with_reducible apply within_ite | with_reducible apply within_ite2 | with_reducible apply within_foldl | split | ((with_reducible apply within_mk); with_reducible exact rfl))

theorem within_correct {M : Nat} {s0 s : State} (e : Int) (hw : Sub 0x246400000000000000000000000000000000000000000000000000000063c0400277aec M) (hk : Within M s0 s) :
   Within M s0 (State.correct s e) := by
  unfold State.correct
  repeat' (first | intro _ | with_reducible assumption | with_reducible exact rfl | exact sub_trans hw rfl | exact has_of hw rfl | with_reducible exact .inl rfl | exact .inr (has_of hw rfl) | exact .inl rfl | dsimp only | with_reducible apply within_stepTime | with_reducible apply within_setRate | with_reducible apply within_modTime | with_reducible apply within_ite | with_reducible apply within_ite2 | with_reducible apply within_foldl | split | ((with_reducible apply within_mk); with_reducible exact rfl))

theorem within_advanceState {M : Nat} {s0 s : State} (e : Int) (hw : Sub 0x24640000000000000000000000000000000000000000000000000000000000400240004 M) (hk : Within M s0 s) :
   Within M s0 (State.advanceState s e) := by
  unfold State.advanceState
  repeat' (first | intro _ | with_reducible assumption | with_reducible exact rfl | exact sub_trans hw rfl | exact has_of hw rfl | with_reducible exact .inl rfl | exact .inr (has_of hw rfl) | exact .inl rfl | dsimp only | with_reducible apply within_modTime | with_reducible apply within_setTimeState | with_reducible apply within_logEvent | with_reducible apply within_ite | with_reducible apply within_ite2 | with_reducible apply within_foldl | split | ((with_reducible apply within_mk); with_reducible exact rfl))

theorem within_measure {M : Nat} {s0 s : State} (e : Int) (hw : Sub 0x246400000000000000000000000000000000000000000000000000000063e0400277aec M) (hk : Within M s0 s) :
   Within M s0 (State.measure s e) := by
  unfold State.measure
  repeat' (first | intro _ | with_reducible assumption | with_reducible exact rfl | exact sub_trans hw rfl | exact has_of hw rfl | with_reducible exact .inl rfl | exact .inr (has_of hw rfl) | exact .inl rfl | dsimp only | with_reducible apply within_setRegN | with_reducible apply within_correct | with_reducible apply within_advanceState | with_reducible apply within_ite | with_reducible apply within_ite2 | with_reducible apply within_foldl | split | ((with_reducible apply within_mk); with_reducible exact rfl))

theorem within_measureFail {M : Nat} {s0 s : State} (hw : Sub 0x24640000000000000000000000000000000000000000000000000000018040400240004 M) (hk : Within M s0 s) :
   Within M s0 (State.measureFail s) := by
  unfold State.measureFail
  repeat' (first | intro _ | with_reducible assumption | with_reducible exact rfl | exact sub_trans hw rfl | exact has_of hw rfl | with_reducible exact .inl rfl | exact .inr (has_of hw rfl) | exact .inl rfl | dsimp only | with_reducible apply within_synCount | with_reducible apply within_modTime | with_reducible apply within_setTimeState | with_reducible apply within_logEvent | with_reducible apply within_setRate | with_reducible apply within_ite | with_reducible apply within_ite2 | with_reducible apply within_foldl | split | ((with_reducible apply within_mk); with_reducible exact rfl))

theorem within_setSource {M : Nat} {s0 s : State} (v : Nat) (hw : Sub 0x24640000000000000000000000000000000000000000000000000000000040400240004 M) (hk : Within M s0 s) :
   Within M s0 (State.setSource s v) := by
  unfold State.setSource
  repeat' (first | intro _ | with_reducible assumption | with_reducible exact rfl | exact sub_trans hw rfl | exact has_of hw rfl | with_reducible exact .inl rfl | exact .inr (has_of hw rfl) | exact .inl rfl | dsimp only | with_reducible apply within_endSlew | with_reducible apply within_setFld | with_reducible apply within_logEvent | with_reducible apply within_modTime | with_reducible apply within_setRate | with_reducible apply within_setTimeState | with_reducible apply within_ite | with_reducible apply within_ite2 | with_reducible apply within_foldl | split | ((with_reducible apply within_mk); with_reducible exact rfl))

theorem within_synCfgWrite {M : Nat} {s0 s : State} (v : Nat) (hw : Sub 0x24640000000000000000000000000000000000000000000000000000000040500240004 M) (hk : Within M s0 s) :
   Within M s0 (State.synCfgWrite s v) := by
  unfold State.synCfgWrite
  repeat' (first | intro _ | with_reducible assumption | with_reducible exact rfl | exact sub_trans hw rfl | exact has_of hw rfl | with_reducible exact .inl rfl | exact .inr (has_of hw rfl) | exact .inl rfl | dsimp only | with_reducible apply within_setFld | with_reducible apply within_setSource | with_reducible apply within_ite | with_reducible apply within_ite2 | with_reducible apply within_foldl | split | ((with_reducible apply within_mk); with_reducible exact rfl))

theorem within_syncOutLow {M : Nat} {s0 s : State} (i : Nat) (hw : Sub 0x200004 M) (hk : Within M s0 s) :
   Within M s0 (State.syncOutLow s i) := by
  unfold State.syncOutLow
  repeat' (first | intro _ | with_reducible assumption | with_reducible exact rfl | exact sub_trans hw rfl | exact has_of hw rfl | with_reducible exact .inl rfl | exact .inr (has_of hw rfl) | exact .inl rfl | dsimp only | with_reducible apply within_modTime | with_reducible apply within_emit | with_reducible apply within_ite | with_reducible apply within_ite2 | with_reducible apply within_foldl | split | ((with_reducible apply within_mk); with_reducible exact rfl))

theorem within_hardSet {M : Nat} {s0 s : State} (hw : Sub 0x246400000000000000000000000000000000000000000000000000080063c0400277aec M) (hk : Within M s0 s) :
   Within M s0 (State.hardSet s) := by
  unfold State.hardSet
  repeat' (first | intro _ | with_reducible assumption | with_reducible exact rfl | exact sub_trans hw rfl | exact has_of hw rfl | with_reducible exact .inl rfl | exact .inr (has_of hw rfl) | exact .inl rfl | dsimp only | with_reducible apply within_stepTime | with_reducible apply within_setFld | with_reducible apply within_syncOutLow | with_reducible apply within_setEvt | with_reducible apply within_ite | with_reducible apply within_ite2 | with_reducible apply within_foldl | split | ((with_reducible apply within_mk); with_reducible exact rfl))

theorem within_mapCams {M : Nat} {s0 s : State} (f : Nat → CamS → CamS) (hw : Sub 0x20 M) (hk : Within M s0 s) :
   Within M s0 (State.mapCams s f) := by
  unfold State.mapCams
  repeat' (first | intro _ | with_reducible assumption | with_reducible exact rfl | exact sub_trans hw rfl | exact has_of hw rfl | with_reducible exact .inl rfl | exact .inr (has_of hw rfl) | exact .inl rfl | dsimp only | with_reducible apply within_map | with_reducible apply within_ite | with_reducible apply within_ite2 | with_reducible apply within_foldl | split | ((with_reducible apply within_mk); with_reducible exact rfl))

theorem within_schedStart {M : Nat} {s0 s : State} (g : Nat) (hw : Sub 0x24640000000000000000000000000000000000000000000000000000840000000240004 M) (hk : Within M s0 s) :
   Within M s0 (State.schedStart s g) := by
  unfold State.schedStart
  repeat' (first | intro _ | with_reducible assumption | with_reducible exact rfl | exact sub_trans hw rfl | exact has_of hw rfl | with_reducible exact .inl rfl | exact .inr (has_of hw rfl) | exact .inl rfl | dsimp only | with_reducible apply within_setFld | with_reducible apply within_modTime | with_reducible apply within_synCount | with_reducible apply within_ite | with_reducible apply within_ite2 | with_reducible apply within_foldl | split | ((with_reducible apply within_mk); with_reducible exact rfl))

theorem within_schedStop {M : Nat} {s0 s : State} (g : Nat) (hw : Sub 0x800000000000020 M) (hk : Within M s0 s) :
   Within M s0 (State.schedStop s g) := by
  unfold State.schedStop
  repeat' (first | intro _ | with_reducible assumption | with_reducible exact rfl | exact sub_trans hw rfl | exact has_of hw rfl | with_reducible exact .inl rfl | exact .inr (has_of hw rfl) | exact .inl rfl | dsimp only | with_reducible apply within_setFld | with_reducible apply within_mapCams | with_reducible apply within_ite | with_reducible apply within_ite2 | with_reducible apply within_foldl | split | ((with_reducible apply within_mk); with_reducible exact rfl))

theorem within_schedCtlWrite {M : Nat} {s0 s : State} (g : Nat) (v : Nat) (hw : Sub 0x24640000000000000000000000000000000000000000000000000000840000000240024 M) (hk : Within M s0 s) :
   Within M s0 (State.schedCtlWrite s g v) := by
  unfold State.schedCtlWrite
  repeat' (first | intro _ | with_reducible assumption | with_reducible exact rfl | exact sub_trans hw rfl | exact has_of hw rfl | with_reducible exact .inl rfl | exact .inr (has_of hw rfl) | exact .inl rfl | dsimp only | with_reducible apply within_schedStart | with_reducible apply within_schedStop | with_reducible apply within_ite | with_reducible apply within_ite2 | with_reducible apply within_foldl | split | ((with_reducible apply within_mk); with_reducible exact rfl))

theorem within_schedTick {M : Nat} {s0 s : State} (g : Nat) (hw : Sub 0x24640000000000000000000000000000000000000000000000000000004000000240024 M) (hk : Within M s0 s) :
   Within M s0 (State.schedTick s g) := by
  unfold State.schedTick
  repeat' (first | intro _ | with_reducible assumption | with_reducible exact rfl | exact sub_trans hw rfl | exact has_of hw rfl | with_reducible exact .inl rfl | exact .inr (has_of hw rfl) | exact .inl rfl | dsimp only | with_reducible apply within_modTime | with_reducible apply within_synCount | with_reducible apply within_modCam | with_reducible apply within_ite | with_reducible apply within_ite2 | with_reducible apply within_foldl | split | ((with_reducible apply within_mk); with_reducible exact rfl))

theorem within_sendTrigger {M : Nat} {s0 s : State} (p : Nat) (mask : Nat) (kind : Nat) (l : Nat) (hw : Sub 0x18 M) (hk : Within M s0 s) :
   Within M s0 (State.sendTrigger s p mask kind l).2 := by
  unfold State.sendTrigger
  repeat' (first | intro _ | with_reducible assumption | with_reducible exact rfl | exact sub_trans hw rfl | exact has_of hw rfl | with_reducible exact .inl rfl | exact .inr (has_of hw rfl) | exact .inl rfl | dsimp only | with_reducible apply within_modPort | with_reducible apply within_queueBlock | with_reducible apply within_ite | with_reducible apply within_ite2 | with_reducible apply within_foldl | split | ((with_reducible apply within_mk); with_reducible exact rfl))

theorem within_expectTrig {M : Nat} {s0 s : State} (n : Nat) (seq : Nat) (inst : Nat) (hw : Sub 0x20 M) (hk : Within M s0 s) :
   Within M s0 (State.expectTrig s n seq inst) := by
  unfold State.expectTrig
  repeat' (first | intro _ | with_reducible assumption | with_reducible exact rfl | exact sub_trans hw rfl | exact has_of hw rfl | with_reducible exact .inl rfl | exact .inr (has_of hw rfl) | exact .inl rfl | dsimp only | with_reducible apply within_modCam | with_reducible apply within_ite | with_reducible apply within_ite2 | with_reducible apply within_foldl | split | ((with_reducible apply within_mk); with_reducible exact rfl))

theorem within_launchPort {M : Nat} {s0 s : State} (p : Nat) (l : Nat) (hw : Sub 0x24640000000000000000000000000000000000000000000000000000020000000240038 M) (hk : Within M s0 s) :
   Within M s0 (State.launchPort s p l) := by
  unfold State.launchPort
  repeat' (first | intro _ | with_reducible assumption | with_reducible exact rfl | exact sub_trans hw rfl | exact has_of hw rfl | with_reducible exact .inl rfl | exact .inr (has_of hw rfl) | exact .inl rfl | dsimp only | with_reducible apply within_map | with_reducible apply within_sendTrigger | with_reducible apply within_synCount | with_reducible apply within_modCam | with_reducible apply within_expectTrig | with_reducible apply within_ite | with_reducible apply within_ite2 | with_reducible apply within_foldl | split | ((with_reducible apply within_mk); with_reducible exact rfl))

theorem within_requestRemote {M : Nat} {s0 s : State} (p : Nat) (hw : Sub 0x200020 M) (hk : Within M s0 s) :
   Within M s0 (State.requestRemote s p) := by
  unfold State.requestRemote
  repeat' (first | intro _ | with_reducible assumption | with_reducible exact rfl | exact sub_trans hw rfl | exact has_of hw rfl | with_reducible exact .inl rfl | exact .inr (has_of hw rfl) | exact .inl rfl | dsimp only | with_reducible apply within_modCam | with_reducible apply within_emit | with_reducible apply within_ite | with_reducible apply within_ite2 | with_reducible apply within_foldl | split | ((with_reducible apply within_mk); with_reducible exact rfl))

theorem within_launchForTarget {M : Nat} {s0 s : State} (p : Nat) (l : Nat) (hw : Sub 0x24640000000000000000000000000000000000000000000000000000020000000260018 M) (hk : Within M s0 s) :
   Within M s0 (State.launchForTarget s p l) := by
  unfold State.launchForTarget
  repeat' (first | intro _ | with_reducible assumption | with_reducible exact rfl | exact sub_trans hw rfl | exact has_of hw rfl | with_reducible exact .inl rfl | exact .inr (has_of hw rfl) | exact .inl rfl | dsimp only | with_reducible apply within_sendTrigger | with_reducible apply within_synCount | with_reducible apply within_emit | with_reducible apply within_ite | with_reducible apply within_ite2 | with_reducible apply within_foldl | split | ((with_reducible apply within_mk); with_reducible exact rfl))

theorem within_triggerLaunch {M : Nat} {s0 s : State} (p : Nat) (l : Nat) (hw : Sub 0x24640000000000000000000000000000000000000000000000000000020000000260038 M) (hk : Within M s0 s) :
   Within M s0 (State.triggerLaunch s p l) := by
  unfold State.triggerLaunch
  repeat' (first | intro _ | with_reducible assumption | with_reducible exact rfl | exact sub_trans hw rfl | exact has_of hw rfl | with_reducible exact .inl rfl | exact .inr (has_of hw rfl) | exact .inl rfl | dsimp only | with_reducible apply within_requestRemote | with_reducible apply within_launchForTarget | with_reducible apply within_launchPort | with_reducible apply within_ite | with_reducible apply within_ite2 | with_reducible apply within_foldl | split | ((with_reducible apply within_mk); with_reducible exact rfl))

theorem within_sendAbort {M : Nat} {s0 s : State} (n : Nat) (hw : Sub 0x200038 M) (hk : Within M s0 s) :
   Within M s0 (State.sendAbort s n) := by
  unfold State.sendAbort
  repeat' (first | intro _ | with_reducible assumption | with_reducible exact rfl | exact sub_trans hw rfl | exact has_of hw rfl | with_reducible exact .inl rfl | exact .inr (has_of hw rfl) | exact .inl rfl | dsimp only | with_reducible apply within_modCam | with_reducible apply within_emit | with_reducible apply within_sendTrigger | with_reducible apply within_ite | with_reducible apply within_ite2 | with_reducible apply within_foldl | split | ((with_reducible apply within_mk); with_reducible exact rfl))

theorem within_syncOutWrite {M : Nat} {s0 s : State} (i : Nat) (v : Nat) (hw : Sub 0x8000000000200004 M) (hk : Within M s0 s) :
   Within M s0 (State.syncOutWrite s i v) := by
  unfold State.syncOutWrite
  repeat' (first | intro _ | with_reducible assumption | with_reducible exact rfl | exact sub_trans hw rfl | exact has_of hw rfl | with_reducible exact .inl rfl | exact .inr (has_of hw rfl) | exact .inl rfl | dsimp only | with_reducible apply within_setFld | with_reducible apply within_modTime | with_reducible apply within_syncOutLow | with_reducible apply within_ite | with_reducible apply within_ite2 | with_reducible apply within_foldl | split | ((with_reducible apply within_mk); with_reducible exact rfl))

theorem within_syncOutEdge {M : Nat} {s0 s : State} (i : Nat) (hw : Sub 0x200004 M) (hk : Within M s0 s) :
   Within M s0 (State.syncOutEdge s i) := by
  unfold State.syncOutEdge
  repeat' (first | intro _ | with_reducible assumption | with_reducible exact rfl | exact sub_trans hw rfl | exact has_of hw rfl | with_reducible exact .inl rfl | exact .inr (has_of hw rfl) | exact .inl rfl | dsimp only | with_reducible apply within_modTime | with_reducible apply within_emit | with_reducible apply within_ite | with_reducible apply within_ite2 | with_reducible apply within_foldl | split | ((with_reducible apply within_mk); with_reducible exact rfl))

theorem within_syncOutEnd {M : Nat} {s0 s : State} (i : Nat) (hw : Sub 0x8000000000200004 M) (hk : Within M s0 s) :
   Within M s0 (State.syncOutEnd s i) := by
  unfold State.syncOutEnd
  repeat' (first | intro _ | with_reducible assumption | with_reducible exact rfl | exact sub_trans hw rfl | exact has_of hw rfl | with_reducible exact .inl rfl | exact .inr (has_of hw rfl) | exact .inl rfl | dsimp only | with_reducible apply within_syncOutLow | with_reducible apply within_setFld | with_reducible apply within_ite | with_reducible apply within_ite2 | with_reducible apply within_foldl | split | ((with_reducible apply within_mk); with_reducible exact rfl))

theorem within_snapEdge {M : Nat} {s0 s : State} (hw : Sub 0x1000000000004 M) (hk : Within M s0 s) :
   Within M s0 (State.snapEdge s) := by
  unfold State.snapEdge
  repeat' (first | intro _ | with_reducible assumption | with_reducible exact rfl | exact sub_trans hw rfl | exact has_of hw rfl | with_reducible exact .inl rfl | exact .inr (has_of hw rfl) | exact .inl rfl | dsimp only | with_reducible apply within_modTime | with_reducible apply within_setFld | with_reducible apply within_ite | with_reducible apply within_ite2 | with_reducible apply within_foldl | split | ((with_reducible apply within_mk); with_reducible exact rfl))

theorem within_modAdapt {M : Nat} {s0 s : State} (n : Nat) (f : AdaptS → AdaptS) (hw : Sub 0x400 M) (hk : Within M s0 s) :
   Within M s0 (State.modAdapt s n f) := by
  unfold State.modAdapt
  repeat' (first | intro _ | with_reducible assumption | with_reducible exact rfl | exact sub_trans hw rfl | exact has_of hw rfl | with_reducible exact .inl rfl | exact .inr (has_of hw rfl) | exact .inl rfl | dsimp only | with_reducible apply within_ite | with_reducible apply within_ite2 | with_reducible apply within_foldl | split | ((with_reducible apply within_mk); with_reducible exact rfl))

theorem within_dropPairs {M : Nat} {s0 s : State} (n : Nat) (hw : Sub 0x400 M) (hk : Within M s0 s) :
   Within M s0 (State.dropPairs s n) := by
  unfold State.dropPairs
  repeat' (first | intro _ | with_reducible assumption | with_reducible exact rfl | exact sub_trans hw rfl | exact has_of hw rfl | with_reducible exact .inl rfl | exact .inr (has_of hw rfl) | exact .inl rfl | dsimp only | with_reducible apply within_modAdapt | with_reducible apply within_ite | with_reducible apply within_ite2 | with_reducible apply within_foldl | split | ((with_reducible apply within_mk); with_reducible exact rfl))

theorem within_snufRun {M : Nat} {s0 s : State} (hw : Sub 0x800 M) (hk : Within M s0 s) :
   Within M s0 (State.snufRun s) := by
  unfold State.snufRun
  repeat' (first | intro _ | with_reducible assumption | with_reducible exact rfl | exact sub_trans hw rfl | exact has_of hw rfl | with_reducible exact .inl rfl | exact .inr (has_of hw rfl) | exact .inl rfl | dsimp only | with_reducible apply within_ite | with_reducible apply within_ite2 | with_reducible apply within_foldl | split | ((with_reducible apply within_mk); with_reducible exact rfl))

theorem within_clearFor {M : Nat} {s0 s : State} (l : List ClearS) (hw : Sub 0x800 M) (hk : Within M s0 s) :
   Within M s0 (State.clearFor s l) := by
  unfold State.clearFor
  repeat' (first | intro _ | with_reducible assumption | with_reducible exact rfl | exact sub_trans hw rfl | exact has_of hw rfl | with_reducible exact .inl rfl | exact .inr (has_of hw rfl) | exact .inl rfl | dsimp only | with_reducible apply within_snufRun | with_reducible apply within_map | with_reducible apply within_ite | with_reducible apply within_ite2 | with_reducible apply within_foldl | split | ((with_reducible apply within_mk); with_reducible exact rfl))

theorem within_emptyQueue {M : Nat} {s0 s : State} (i : Nat) (q : Nat) (hw : Sub 0x2c00000000000000000000000000000000000000080 M) (hk : Within M s0 s) :
   Within M s0 (State.emptyQueue s i q) := by
  unfold State.emptyQueue
  repeat' (first | intro _ | with_reducible assumption | with_reducible exact rfl | exact sub_trans hw rfl | exact has_of hw rfl | with_reducible exact .inl rfl | exact .inr (has_of hw rfl) | exact .inl rfl | dsimp only | with_reducible apply within_map | with_reducible apply within_modCore | with_reducible apply within_setFld | with_reducible apply within_setRegN | with_reducible apply within_ite | with_reducible apply within_ite2 | with_reducible apply within_foldl | split | ((with_reducible apply within_mk); with_reducible exact rfl))

theorem within_wakeOwn {M : Nat} {s0 s : State} (i : Nat) (hw : Sub 0x20010000000000000000000000000000000000080 M) (hk : Within M s0 s) :
   Within M s0 (State.wakeOwn s i) := by
  unfold State.wakeOwn
  repeat' (first | intro _ | with_reducible assumption | with_reducible exact rfl | exact sub_trans hw rfl | exact has_of hw rfl | with_reducible exact .inl rfl | exact .inr (has_of hw rfl) | exact .inl rfl | dsimp only | with_reducible apply within_wakeIf | with_reducible apply within_ite | with_reducible apply within_ite2 | with_reducible apply within_foldl | split | ((with_reducible apply within_mk); with_reducible exact rfl))

theorem within_emptyStage {M : Nat} {s0 s : State} (i : Nat) (hw : Sub 0x2c200100000000000000000000000000000000021a0 M) (hk : Within M s0 s) :
   Within M s0 (State.emptyStage s i) := by
  unfold State.emptyStage
  repeat' (first | intro _ | with_reducible assumption | with_reducible exact rfl | exact sub_trans hw rfl | exact has_of hw rfl | with_reducible exact .inl rfl | exact .inr (has_of hw rfl) | exact .inl rfl | dsimp only | with_reducible apply within_emptyQueue | with_reducible apply within_settleArrivals | with_reducible apply within_wakeOwn | with_reducible apply within_wakeIf | with_reducible apply within_ite | with_reducible apply within_ite2 | with_reducible apply within_foldl | split | ((with_reducible apply within_mk); with_reducible exact rfl))

theorem within_abortFrames {M : Nat} {s0 s : State} (n : Nat) (hw : Sub 0x24640000000000000010400080002c200100004000000000000000000000000002471e0 M) (hk : Within M s0 s) :
   Within M s0 (State.abortFrames s n) := by
  unfold State.abortFrames
  repeat' (first | intro _ | with_reducible assumption | with_reducible exact rfl | exact sub_trans hw rfl | exact has_of hw rfl | with_reducible exact .inl rfl | exact .inr (has_of hw rfl) | exact .inl rfl | dsimp only | with_reducible apply within_finalize | with_reducible apply within_withdraw | with_reducible apply within_emptyStage | with_reducible apply within_ite | with_reducible apply within_ite2 | with_reducible apply within_foldl | split | ((with_reducible apply within_mk); with_reducible exact rfl))

theorem within_stopStream {M : Nat} {s0 s : State} (n : Nat) (abort : Bool) (by_ : Option CmdRef) (reason : Nat) (hw : Sub 0x24640000000000000010400080002c200100004000000000080000000000000002475f8 M) (hk : Within M s0 s) :
   Within M s0 (State.stopStream s n abort by_ reason) := by
  unfold State.stopStream
  repeat' (first | intro _ | with_reducible assumption | with_reducible exact rfl | exact sub_trans hw rfl | exact has_of hw rfl | with_reducible exact .inl rfl | exact .inr (has_of hw rfl) | exact .inl rfl | dsimp only | with_reducible apply within_map | with_reducible apply within_modCam | with_reducible apply within_abortFrames | with_reducible apply within_sendAbort | with_reducible apply within_setFld | with_reducible apply within_traceEv | with_reducible apply within_dropPairs | with_reducible apply within_withdraw | with_reducible apply within_ite | with_reducible apply within_ite2 | with_reducible apply within_foldl | split | ((with_reducible apply within_mk); with_reducible exact rfl))

theorem within_streamStopped {M : Nat} {s0 s : State} (n : Nat) (hw : Sub 0x24640000000000000110400000000000000000000000000008000000000000000247020 M) (hk : Within M s0 s) :
   Within M s0 (State.streamStopped s n) := by
  unfold State.streamStopped
  repeat' (first | intro _ | with_reducible assumption | with_reducible exact rfl | exact sub_trans hw rfl | exact has_of hw rfl | with_reducible exact .inl rfl | exact .inr (has_of hw rfl) | exact .inl rfl | dsimp only | with_reducible apply within_releaseStream | with_reducible apply within_forgetDone | with_reducible apply within_reply | with_reducible apply within_event | with_reducible apply within_ite | with_reducible apply within_ite2 | with_reducible apply within_foldl | split | ((with_reducible apply within_mk); with_reducible exact rfl))

end Sys2Proof.Machine
end

