-- ==== Sys2Proof/Laws/WithinCores.lean ====
section
/-! SUPPORT. The parts that each operation of the Lantern cores, DMA, memory and Retouch may touch. -/
set_option linter.all false
namespace Sys2Proof.Machine

theorem within_tookTurn {M : Nat} {s0 s : State} (i : Nat) (c : Nat) (hw : Sub 0x80 M) (hk : Within M s0 s) :
   Within M s0 (State.tookTurn s i c) := by
  unfold State.tookTurn
  repeat' (first | intro _ | with_reducible assumption | with_reducible exact rfl | exact sub_trans hw rfl | exact has_of hw rfl | with_reducible exact .inl rfl | exact .inr (has_of hw rfl) | exact .inl rfl | dsimp only | with_reducible apply within_modCore | with_reducible apply within_ite | with_reducible apply within_ite2 | with_reducible apply within_foldl | split | ((with_reducible apply within_mk); with_reducible exact rfl))

theorem within_advance {M : Nat} {s0 s : State} (i : Nat) (c : Nat) (hw : Sub 0x20010000000000000000000000000000000000080 M) (hk : Within M s0 s) :
   Within M s0 (State.advance s i c) := by
  unfold State.advance
  repeat' (first | intro _ | with_reducible assumption | with_reducible exact rfl | exact sub_trans hw rfl | exact has_of hw rfl | with_reducible exact .inl rfl | exact .inr (has_of hw rfl) | exact .inl rfl | dsimp only | with_reducible apply within_startCtx | with_reducible apply within_setCoreState | with_reducible apply within_tookTurn | with_reducible apply within_setFld | with_reducible apply within_ite | with_reducible apply within_ite2 | with_reducible apply within_foldl | split | ((with_reducible apply within_mk); with_reducible exact rfl))

theorem within_issue {M : Nat} {s0 s : State} (i : Nat) (c : Nat) (body : State → Nat → State) (hw : Sub 0x20010000000000000000000000000000000000080 M) (hk : Within M s0 s) (hbody : ∀ t pc, Within M s0 t → Within M s0 (body t pc)) :
   Within M s0 (State.issue s i c body) := by
  unfold State.issue
  repeat' (first | intro _ | with_reducible assumption | with_reducible exact rfl | exact sub_trans hw rfl | exact has_of hw rfl | with_reducible exact .inl rfl | exact .inr (has_of hw rfl) | exact .inl rfl | dsimp only | with_reducible apply within_advance | exact hbody _ ‹_›| apply hbody | with_reducible apply within_ite | with_reducible apply within_ite2 | with_reducible apply within_foldl | split | ((with_reducible apply within_mk); with_reducible exact rfl))

theorem within_recordFault {M : Nat} {s0 s : State} (i : Nat) (c : Nat) (pc : Nat) (engine : Nat) (code : Nat) (hw : Sub 0x20000000000000000000000000000000000000 M) (hk : Within M s0 s) :
   Within M s0 (State.recordFault s i c pc engine code) := by
  unfold State.recordFault
  repeat' (first | intro _ | with_reducible assumption | with_reducible exact rfl | exact sub_trans hw rfl | exact has_of hw rfl | with_reducible exact .inl rfl | exact .inr (has_of hw rfl) | exact .inl rfl | dsimp only | with_reducible apply within_setRegN | with_reducible apply within_ite | with_reducible apply within_ite2 | with_reducible apply within_foldl | split | ((with_reducible apply within_mk); with_reducible exact rfl))

theorem within_ringStart {M : Nat} {s0 s : State} (i : Nat) (hw : Sub 0x80 M) (hk : Within M s0 s) :
   Within M s0 (State.ringStart s i) := by
  unfold State.ringStart
  repeat' (first | intro _ | with_reducible assumption | with_reducible exact rfl | exact sub_trans hw rfl | exact has_of hw rfl | with_reducible exact .inl rfl | exact .inr (has_of hw rfl) | exact .inl rfl | dsimp only | with_reducible apply within_modCore | with_reducible apply within_map | with_reducible apply within_ite | with_reducible apply within_ite2 | with_reducible apply within_foldl | split | ((with_reducible apply within_mk); with_reducible exact rfl))

theorem within_ringTry {M : Nat} {s0 s : State} (hw : Sub 0x80 M) (hk : Within M s0 s) :
   Within M s0 (State.ringTry s) := by
  unfold State.ringTry
  repeat' (first | intro _ | with_reducible assumption | with_reducible exact rfl | exact sub_trans hw rfl | exact has_of hw rfl | with_reducible exact .inl rfl | exact .inr (has_of hw rfl) | exact .inl rfl | dsimp only | with_reducible apply within_ringStart | with_reducible apply within_ite | with_reducible apply within_ite2 | with_reducible apply within_foldl | split | ((with_reducible apply within_mk); with_reducible exact rfl))

theorem within_abandon {M : Nat} {s0 s : State} (i : Nat) (p : Nat → Bool) (hw : Sub 0x2c00000000000000000000000000000000000040080 M) (hk : Within M s0 s) :
   Within M s0 (State.abandon s i p) := by
  unfold State.abandon
  repeat' (first | intro _ | with_reducible assumption | with_reducible exact rfl | exact sub_trans hw rfl | exact has_of hw rfl | with_reducible exact .inl rfl | exact .inr (has_of hw rfl) | exact .inl rfl | dsimp only | with_reducible apply within_obsAdd | with_reducible apply within_map | with_reducible apply within_modCore | with_reducible apply within_emptyQueue | with_reducible apply within_ringTry | with_reducible apply within_ite | with_reducible apply within_ite2 | with_reducible apply within_foldl | split | ((with_reducible apply within_mk); with_reducible exact rfl))

theorem within_audit {M : Nat} {s0 s : State} (n : Nat) (ev : Nat) (first : Nat) (lk : Nat) (lc : Nat) (drift : Nat) (hw : Sub 0x24640000000000000000400000000000000080000000000000000000000000000240000 M) (hk : Within M s0 s) :
   Within M s0 (State.audit s n ev first lk lc drift) := by
  unfold State.audit
  repeat' (first | intro _ | with_reducible assumption | with_reducible exact rfl | exact sub_trans hw rfl | exact has_of hw rfl | with_reducible exact .inl rfl | exact .inr (has_of hw rfl) | exact .inl rfl | dsimp only | with_reducible apply within_setRegN | with_reducible apply within_traceEv | with_reducible apply within_ringWrite | with_reducible apply within_ite | with_reducible apply within_ite2 | with_reducible apply within_foldl | split | ((with_reducible apply within_mk); with_reducible exact rfl))

theorem within_pauseAdapt {M : Nat} {s0 s : State} (n : Nat) (cause : Nat) (hw : Sub 0x24640000000000000000400000000000004090000000000000000000000000000240400 M) (hk : Within M s0 s) :
   Within M s0 (State.pauseAdapt s n cause) := by
  unfold State.pauseAdapt
  repeat' (first | intro _ | with_reducible assumption | with_reducible exact rfl | exact sub_trans hw rfl | exact has_of hw rfl | with_reducible exact .inl rfl | exact .inr (has_of hw rfl) | exact .inl rfl | dsimp only | with_reducible apply within_modAdapt | with_reducible apply within_setFld | with_reducible apply within_bump | with_reducible apply within_audit | with_reducible apply within_ite | with_reducible apply within_ite2 | with_reducible apply within_foldl | split | ((with_reducible apply within_mk); with_reducible exact rfl))

theorem within_unpauseAdapt {M : Nat} {s0 s : State} (n : Nat) (cause : Nat) (hw : Sub 0x24640000000000000000400000000000000090000000000000000000000000000240400 M) (hk : Within M s0 s) :
   Within M s0 (State.unpauseAdapt s n cause) := by
  unfold State.unpauseAdapt
  repeat' (first | intro _ | with_reducible assumption | with_reducible exact rfl | exact sub_trans hw rfl | exact has_of hw rfl | with_reducible exact .inl rfl | exact .inr (has_of hw rfl) | exact .inl rfl | dsimp only | with_reducible apply within_modAdapt | with_reducible apply within_setFld | with_reducible apply within_audit | with_reducible apply within_ite | with_reducible apply within_ite2 | with_reducible apply within_foldl | split | ((with_reducible apply within_mk); with_reducible exact rfl))

theorem within_pauseSix {M : Nat} {s0 s : State} (i : Nat) (cause : Nat) (hw : Sub 0x24640000000000000000400000000000004090000000000000000000000000000240400 M) (hk : Within M s0 s) :
   Within M s0 (State.pauseSix s i cause) := by
  unfold State.pauseSix
  repeat' (first | intro _ | with_reducible assumption | with_reducible exact rfl | exact sub_trans hw rfl | exact has_of hw rfl | with_reducible exact .inl rfl | exact .inr (has_of hw rfl) | exact .inl rfl | dsimp only | with_reducible apply within_pauseAdapt | with_reducible apply within_ite | with_reducible apply within_ite2 | with_reducible apply within_foldl | split | ((with_reducible apply within_mk); with_reducible exact rfl))

theorem within_faultSix {M : Nat} {s0 s : State} (i : Nat) (hw : Sub 0x24640000000000000000400000002c20014090000000000000000000000000000240480 M) (hk : Within M s0 s) :
   Within M s0 (State.faultSix s i) := by
  unfold State.faultSix
  repeat' (first | intro _ | with_reducible assumption | with_reducible exact rfl | exact sub_trans hw rfl | exact has_of hw rfl | with_reducible exact .inl rfl | exact .inr (has_of hw rfl) | exact .inl rfl | dsimp only | with_reducible apply within_abandon | with_reducible apply within_setCtxState | with_reducible apply within_pauseSix | with_reducible apply within_ite | with_reducible apply within_ite2 | with_reducible apply within_foldl | split | ((with_reducible apply within_mk); with_reducible exact rfl))

theorem within_stopCore {M : Nat} {s0 s : State} (i : Nat) (hw : Sub 0x2c00000000000000000000000000000000000040080 M) (hk : Within M s0 s) :
   Within M s0 (State.stopCore s i) := by
  unfold State.stopCore
  repeat' (first | intro _ | with_reducible assumption | with_reducible exact rfl | exact sub_trans hw rfl | exact has_of hw rfl | with_reducible exact .inl rfl | exact .inr (has_of hw rfl) | exact .inl rfl | dsimp only | with_reducible apply within_abandon | with_reducible apply within_modCore | with_reducible apply within_ite | with_reducible apply within_ite2 | with_reducible apply within_foldl | split | ((with_reducible apply within_mk); with_reducible exact rfl))

theorem within_enterReset {M : Nat} {s0 s : State} (i : Nat) (hw : Sub 0xffeff7f700000000000000000000000000000000021a0 M) (hk : Within M s0 s) :
   Within M s0 (State.enterReset s i) := by
  unfold State.enterReset
  repeat' (first | intro _ | with_reducible assumption | with_reducible exact rfl | exact sub_trans hw rfl | exact has_of hw rfl | with_reducible exact .inl rfl | exact .inr (has_of hw rfl) | exact .inl rfl | (rename_i h; simp only [Bool.and_eq_true, beq_iff_eq] at h; exact has_pred (q := fun r => r.info.block == .LC && !keptAtCore r) hw (by decide +kernel) (by rw [h.1.1, h.2]; rfl)) | dsimp only | with_reducible apply within_resetRegs | with_reducible apply within_leaveBarriers | with_reducible apply within_ite | with_reducible apply within_ite2 | with_reducible apply within_foldl | split | ((with_reducible apply within_mk); with_reducible exact rfl))

theorem within_haltCore {M : Nat} {s0 s : State} (i : Nat) (hw : Sub 0xffeff7f700000000000000000000000000000000421a0 M) (hk : Within M s0 s) :
   Within M s0 (State.haltCore s i) := by
  unfold State.haltCore
  repeat' (first | intro _ | with_reducible assumption | with_reducible exact rfl | exact sub_trans hw rfl | exact has_of hw rfl | with_reducible exact .inl rfl | exact .inr (has_of hw rfl) | exact .inl rfl | dsimp only | with_reducible apply within_stopCore | with_reducible apply within_enterReset | with_reducible apply within_ite | with_reducible apply within_ite2 | with_reducible apply within_foldl | split | ((with_reducible apply within_mk); with_reducible exact rfl))

theorem within_countFault {M : Nat} {s0 s : State} (i : Nat) (b : BoundS) (hw : Sub 0x80000000000000000000000000000000000000000002000 M) (hk : Within M s0 s) :
   Within M s0 (State.countFault s i b).2 := by
  unfold State.countFault
  repeat' (first | intro _ | with_reducible assumption | with_reducible exact rfl | exact sub_trans hw rfl | exact has_of hw rfl | with_reducible exact .inl rfl | exact .inr (has_of hw rfl) | exact .inl rfl | dsimp only | with_reducible apply within_setCounter | with_reducible apply within_map | with_reducible apply within_ite | with_reducible apply within_ite2 | with_reducible apply within_foldl | split | ((with_reducible apply within_mk); with_reducible exact rfl))

theorem within_afterFault {M : Nat} {s0 s : State} (i : Nat) (code : Nat) (hw : Sub 0x24640000000000000010400080002c200100004000000000080000000000000002475f8 M) (hk : Within M s0 s) :
   Within M s0 (State.afterFault s i code) := by
  unfold State.afterFault
  repeat' (first | intro _ | with_reducible assumption | with_reducible exact rfl | exact sub_trans hw rfl | exact has_of hw rfl | with_reducible exact .inl rfl | exact .inr (has_of hw rfl) | exact .inl rfl | dsimp only | with_reducible apply within_countFault | with_reducible apply within_modCore | with_reducible apply within_setCounter | with_reducible apply within_stopStream | with_reducible apply within_ite | with_reducible apply within_ite2 | with_reducible apply within_foldl | split | ((with_reducible apply within_mk); with_reducible exact rfl))

theorem within_coreFault {M : Nat} {s0 s : State} (i : Nat) (c : Nat) (pc : Nat) (engine : Nat) (code : Nat) (hw : Sub 0x24640000000000000010400080002c200340904000000000080000000000000002475f8 M) (hk : Within M s0 s) :
   Within M s0 (State.coreFault s i c pc engine code) := by
  unfold State.coreFault
  repeat' (first | intro _ | with_reducible assumption | with_reducible exact rfl | exact sub_trans hw rfl | exact has_of hw rfl | with_reducible exact .inl rfl | exact .inr (has_of hw rfl) | exact .inl rfl | dsimp only | with_reducible apply within_recordFault | with_reducible apply within_logEvent | with_reducible apply within_faultSix | with_reducible apply within_setCtxState | with_reducible apply within_setCoreState | with_reducible apply within_stopCore | with_reducible apply within_afterFault | with_reducible apply within_ite | with_reducible apply within_ite2 | with_reducible apply within_foldl | split | ((with_reducible apply within_mk); with_reducible exact rfl))

theorem within_placeArray {M : Nat} {s0 s : State} (i : Nat) (c : Nat) (pc : Nat) (job : ArrayJob) (align : Bool) (body : Nat) (first : Nat) (hw : Sub 0x80 M) (hk : Within M s0 s) :
   Within M s0 (State.placeArray s i c pc job align body first) := by
  unfold State.placeArray
  repeat' (first | intro _ | with_reducible assumption | with_reducible exact rfl | exact sub_trans hw rfl | exact has_of hw rfl | with_reducible exact .inl rfl | exact .inr (has_of hw rfl) | exact .inl rfl | dsimp only | with_reducible apply within_modCore | with_reducible apply within_ite | with_reducible apply within_ite2 | with_reducible apply within_foldl | split | ((with_reducible apply within_mk); with_reducible exact rfl))

theorem within_placeEmpty {M : Nat} {s0 s : State} (i : Nat) (c : Nat) (pc : Nat) (r : Nat) (first : Nat) (hw : Sub 0x80 M) (hk : Within M s0 s) :
   Within M s0 (State.placeEmpty s i c pc r first) := by
  unfold State.placeEmpty
  repeat' (first | intro _ | with_reducible assumption | with_reducible exact rfl | exact sub_trans hw rfl | exact has_of hw rfl | with_reducible exact .inl rfl | exact .inr (has_of hw rfl) | exact .inl rfl | dsimp only | with_reducible apply within_modCore | with_reducible apply within_ite | with_reducible apply within_ite2 | with_reducible apply within_foldl | split | ((with_reducible apply within_mk); with_reducible exact rfl))

theorem within_placeVector {M : Nat} {s0 s : State} (i : Nat) (c : Nat) (pc : Nat) (job : VectorJob) (body : Nat) (hw : Sub 0x80 M) (hk : Within M s0 s) :
   Within M s0 (State.placeVector s i c pc job body) := by
  unfold State.placeVector
  repeat' (first | intro _ | with_reducible assumption | with_reducible exact rfl | exact sub_trans hw rfl | exact has_of hw rfl | with_reducible exact .inl rfl | exact .inr (has_of hw rfl) | exact .inl rfl | dsimp only | with_reducible apply within_modCore | with_reducible apply within_ite | with_reducible apply within_ite2 | with_reducible apply within_foldl | split | ((with_reducible apply within_mk); with_reducible exact rfl))

theorem within_addCounts {M : Nat} {s0 s : State} (i : Nat) (r : Nat) (produced : Nat) (clipped : Nat) (flags : Nat) (hw : Sub 0x80 M) (hk : Within M s0 s) :
   Within M s0 (State.addCounts s i r produced clipped flags) := by
  unfold State.addCounts
  repeat' (first | intro _ | with_reducible assumption | with_reducible exact rfl | exact sub_trans hw rfl | exact has_of hw rfl | with_reducible exact .inl rfl | exact .inr (has_of hw rfl) | exact .inl rfl | dsimp only | with_reducible apply within_modCore | with_reducible apply within_ite | with_reducible apply within_ite2 | with_reducible apply within_foldl | split | ((with_reducible apply within_mk); with_reducible exact rfl))

theorem within_closeCounts {M : Nat} {s0 s : State} (i : Nat) (b : BoundS) (hw : Sub 0x24640000000000000000000000000002000000000000000000000000000000000240040 M) (hk : Within M s0 s) :
   Within M s0 (State.closeCounts s i b) := by
  unfold State.closeCounts
  repeat' (first | intro _ | with_reducible assumption | with_reducible exact rfl | exact sub_trans hw rfl | exact has_of hw rfl | with_reducible exact .inl rfl | exact .inr (has_of hw rfl) | exact .inl rfl | dsimp only | with_reducible apply within_setMark | with_reducible apply within_bump | with_reducible apply within_modFrame | with_reducible apply within_ite | with_reducible apply within_ite2 | with_reducible apply within_foldl | split | ((with_reducible apply within_mk); with_reducible exact rfl))

theorem within_bindShare {M : Nat} {s0 s : State} (i : Nat) (w : Nat) (h : Share) (hw : Sub 0x220010000000000000000000000000000000000080 M) (hk : Within M s0 s) :
   Within M s0 (State.bindShare s i w h) := by
  unfold State.bindShare
  repeat' (first | intro _ | with_reducible assumption | with_reducible exact rfl | exact sub_trans hw rfl | exact has_of hw rfl | with_reducible exact .inl rfl | exact .inr (has_of hw rfl) | exact .inl rfl | dsimp only | with_reducible apply within_modCore | with_reducible apply within_setRegN | with_reducible apply within_startCtx | with_reducible apply within_setCoreState | with_reducible apply within_ite | with_reducible apply within_ite2 | with_reducible apply within_foldl | split | ((with_reducible apply within_mk); with_reducible exact rfl))

theorem within_ddrWrite {M : Nat} {s0 s : State} (l : Nat) (bad : Bool) (hw : Sub 0x800000000000000000000000000000000000000000240200 M) (hk : Within M s0 s) :
   Within M s0 (State.ddrWrite s l bad) := by
  unfold State.ddrWrite
  repeat' (first | intro _ | with_reducible assumption | with_reducible exact rfl | exact sub_trans hw rfl | exact has_of hw rfl | with_reducible exact .inl rfl | exact .inr (has_of hw rfl) | exact .inl rfl | dsimp only | with_reducible apply within_map | with_reducible apply within_emit | with_reducible apply within_obsAdd | with_reducible apply within_modHold | with_reducible apply within_setFld | with_reducible apply within_ddrRequest | with_reducible apply within_ite | with_reducible apply within_ite2 | with_reducible apply within_foldl | split | ((with_reducible apply within_mk); with_reducible exact rfl))

theorem within_sweepNext {M : Nat} {s0 s : State} (l : Nat) (hw : Sub 0x24640000000000000000080800000000000000000000000000000000000000000240200 M) (hk : Within M s0 s) :
   Within M s0 (State.sweepNext s l) := by
  unfold State.sweepNext
  repeat' (first | intro _ | with_reducible assumption | with_reducible exact rfl | exact sub_trans hw rfl | exact has_of hw rfl | with_reducible exact .inl rfl | exact .inr (has_of hw rfl) | exact .inl rfl | dsimp only | with_reducible apply within_modHold | with_reducible apply within_bump | with_reducible apply within_setFld | with_reducible apply within_ddrRequest | with_reducible apply within_ite | with_reducible apply within_ite2 | with_reducible apply within_foldl | split | ((with_reducible apply within_mk); with_reducible exact rfl))

theorem within_writeBlock {M : Nat} {s0 s : State} (l : Nat) (hw : Sub 0x800000000000000000000000000000000000000000240200 M) (hk : Within M s0 s) :
   Within M s0 (State.writeBlock s l) := by
  unfold State.writeBlock
  repeat' (first | intro _ | with_reducible assumption | with_reducible exact rfl | exact sub_trans hw rfl | exact has_of hw rfl | with_reducible exact .inl rfl | exact .inr (has_of hw rfl) | exact .inl rfl | dsimp only | with_reducible apply within_ddrWrite | with_reducible apply within_ite | with_reducible apply within_ite2 | with_reducible apply within_foldl | split | ((with_reducible apply within_mk); with_reducible exact rfl))

theorem within_ddrServe {M : Nat} {s0 s : State} (c : Nat) (timing : List Nat) (hw : Sub 0x800000000000000000000000000000000000000000240200 M) (hk : Within M s0 s) :
   Within M s0 (State.ddrServe s c timing) := by
  unfold State.ddrServe
  repeat' (first | intro _ | with_reducible assumption | with_reducible exact rfl | exact sub_trans hw rfl | exact has_of hw rfl | with_reducible exact .inl rfl | exact .inr (has_of hw rfl) | exact .inl rfl | dsimp only | with_reducible apply within_modHold | with_reducible apply within_ddrWrite | with_reducible apply within_ite | with_reducible apply within_ite2 | with_reducible apply within_foldl | split | ((with_reducible apply within_mk); with_reducible exact rfl))

theorem within_poisonBlock {M : Nat} {s0 s : State} (r : MemReq) (cause : Nat) (hw : Sub 0x24640000000000000000036000000000000000000000000000000000000000000240200 M) (hk : Within M s0 s) :
   Within M s0 (State.poisonBlock s r cause) := by
  unfold State.poisonBlock
  repeat' (first | intro _ | with_reducible assumption | with_reducible exact rfl | exact sub_trans hw rfl | exact has_of hw rfl | with_reducible exact .inl rfl | exact .inr (has_of hw rfl) | exact .inl rfl | dsimp only | with_reducible apply within_bump | with_reducible apply within_logEvent | with_reducible apply within_setPair | with_reducible apply within_modHold | with_reducible apply within_ite | with_reducible apply within_ite2 | with_reducible apply within_foldl | split | ((with_reducible apply within_mk); with_reducible exact rfl))

theorem within_fill {M : Nat} {s0 s : State} (r : MemReq) (bs : List Byte) (hw : Sub 0x100000 M) (hk : Within M s0 s) :
   Within M s0 (State.fill s r bs) := by
  unfold State.fill
  repeat' (first | intro _ | with_reducible assumption | with_reducible exact rfl | exact sub_trans hw rfl | exact has_of hw rfl | with_reducible exact .inl rfl | exact .inr (has_of hw rfl) | exact .inl rfl | dsimp only | with_reducible apply within_ite | with_reducible apply within_ite2 | with_reducible apply within_foldl | split | ((with_reducible apply within_mk); with_reducible exact rfl))

theorem within_deliverBlock {M : Nat} {s0 s : State} (r : MemReq) (v : Nat) (cipher : List Byte) (mac : List Byte) (hw : Sub 0x24640000000000000000076000000000000000000000000000000000000000000340200 M) (hk : Within M s0 s) :
   Within M s0 (State.deliverBlock s r v cipher mac) := by
  unfold State.deliverBlock
  repeat' (first | intro _ | with_reducible assumption | with_reducible exact rfl | exact sub_trans hw rfl | exact has_of hw rfl | with_reducible exact .inl rfl | exact .inr (has_of hw rfl) | exact .inl rfl | dsimp only | with_reducible apply within_modHold | with_reducible apply within_fill | with_reducible apply within_map | with_reducible apply within_bump | with_reducible apply within_poisonBlock | with_reducible apply within_ite | with_reducible apply within_ite2 | with_reducible apply within_foldl | split | ((with_reducible apply within_mk); with_reducible exact rfl))

theorem within_afterRead {M : Nat} {s0 s : State} (r : MemReq) (hw : Sub 0x24640000000000000000080800000000000000000000000000000000000000000240200 M) (hk : Within M s0 s) :
   Within M s0 (State.afterRead s r) := by
  unfold State.afterRead
  repeat' (first | intro _ | with_reducible assumption | with_reducible exact rfl | exact sub_trans hw rfl | exact has_of hw rfl | with_reducible exact .inl rfl | exact .inr (has_of hw rfl) | exact .inl rfl | dsimp only | with_reducible apply within_ddrWrite | with_reducible apply within_sweepNext | with_reducible apply within_ddrRequest | with_reducible apply within_ite | with_reducible apply within_ite2 | with_reducible apply within_foldl | split | ((with_reducible apply within_mk); with_reducible exact rfl))

theorem within_ddrReturn {M : Nat} {s0 s : State} (c : Nat) (cipher : List Byte) (side : List Byte) (hw : Sub 0x246400000000000000000fe800000000000000000000000000000000000000000340200 M) (hk : Within M s0 s) :
   Within M s0 (State.ddrReturn s c cipher side) := by
  unfold State.ddrReturn
  repeat' (first | intro _ | with_reducible assumption | with_reducible exact rfl | exact sub_trans hw rfl | exact has_of hw rfl | with_reducible exact .inl rfl | exact .inr (has_of hw rfl) | exact .inl rfl | dsimp only | with_reducible apply within_modHold | with_reducible apply within_obsAdd | with_reducible apply within_bump | with_reducible apply within_ddrRequest | with_reducible apply within_poisonBlock | with_reducible apply within_afterRead | with_reducible apply within_deliverBlock | with_reducible apply within_ite | with_reducible apply within_ite2 | with_reducible apply within_foldl | split | ((with_reducible apply within_mk); with_reducible exact rfl))

theorem within_refresh {M : Nat} {s0 s : State} (c : Nat) (hw : Sub 0x200200 M) (hk : Within M s0 s) :
   Within M s0 (State.refresh s c) := by
  unfold State.refresh
  repeat' (first | intro _ | with_reducible assumption | with_reducible exact rfl | exact sub_trans hw rfl | exact has_of hw rfl | with_reducible exact .inl rfl | exact .inr (has_of hw rfl) | exact .inl rfl | dsimp only | with_reducible apply within_modHold | with_reducible apply within_emit | with_reducible apply within_ite | with_reducible apply within_ite2 | with_reducible apply within_foldl | split | ((with_reducible apply within_mk); with_reducible exact rfl))

theorem within_countEcc {M : Nat} {s0 s : State} (hw : Sub 0x10000000000000000000000000000000000000000000000 M) (hk : Within M s0 s) :
   Within M s0 (State.countEcc s) := by
  unfold State.countEcc
  repeat' (first | intro _ | with_reducible assumption | with_reducible exact rfl | exact sub_trans hw rfl | exact has_of hw rfl | with_reducible exact .inl rfl | exact .inr (has_of hw rfl) | exact .inl rfl | dsimp only | with_reducible apply within_setRegN | with_reducible apply within_ite | with_reducible apply within_ite2 | with_reducible apply within_foldl | split | ((with_reducible apply within_mk); with_reducible exact rfl))

theorem within_holdEcc {M : Nat} {s0 s : State} (l : Nat) (err : SramErr) (hw : Sub 0x6010000000000000000000000000000000000000000000200 M) (hk : Within M s0 s) :
   Within M s0 (State.holdEcc s l err) := by
  unfold State.holdEcc
  repeat' (first | intro _ | with_reducible assumption | with_reducible exact rfl | exact sub_trans hw rfl | exact has_of hw rfl | with_reducible exact .inl rfl | exact .inr (has_of hw rfl) | exact .inl rfl | dsimp only | with_reducible apply within_countEcc | with_reducible apply within_setPair | with_reducible apply within_modHold | with_reducible apply within_map | with_reducible apply within_ite | with_reducible apply within_ite2 | with_reducible apply within_foldl | split | ((with_reducible apply within_mk); with_reducible exact rfl))

theorem within_controlAccess {M : Nat} {s0 s : State} (l : Nat) (err : SramErr) (hw : Sub 0x10000000000000000000000000000000000000000040200 M) (hk : Within M s0 s) :
   Within M s0 (State.controlAccess s l err) := by
  unfold State.controlAccess
  repeat' (first | intro _ | with_reducible assumption | with_reducible exact rfl | exact sub_trans hw rfl | exact has_of hw rfl | with_reducible exact .inl rfl | exact .inr (has_of hw rfl) | exact .inl rfl | dsimp only | with_reducible apply within_obsAdd | with_reducible apply within_countEcc | with_reducible apply within_modHold | with_reducible apply within_ite | with_reducible apply within_ite2 | with_reducible apply within_foldl | split | ((with_reducible apply within_mk); with_reducible exact rfl))

theorem within_holdRequest {M : Nat} {s0 s : State} (w : MemWho) (l : Nat) (acc : MemAcc) (o : HoldFrom) (hw : Sub 0x6010000000000000000000000000000000000000000040200 M) (hk : Within M s0 s) :
   Within M s0 (State.holdRequest s w l acc o) := by
  unfold State.holdRequest
  repeat' (first | intro _ | with_reducible assumption | with_reducible exact rfl | exact sub_trans hw rfl | exact has_of hw rfl | with_reducible exact .inl rfl | exact .inr (has_of hw rfl) | exact .inl rfl | dsimp only | with_reducible apply within_controlAccess | with_reducible apply within_holdEcc | with_reducible apply within_holdAccess | with_reducible apply within_ite | with_reducible apply within_ite2 | with_reducible apply within_foldl | split | ((with_reducible apply within_mk); with_reducible exact rfl))

theorem rchkOutcome_mem {s : State} {i r : Nat} {b : BoundS} {k : RegName} (h : s.rchkOutcome i r b = some k) :
    k ∈ [.LC_CNT_RETAKE, .LC_CNT_SKIP_OFF, .LC_CNT_SKIP_GOV, .LC_CNT_SKIP_LIMIT, .LC_CNT_SKIP_SLACK] := by
  unfold State.rchkOutcome at h
  dsimp only at h
  repeat' split at h
  all_goals first | (injection h with h; subst h; decide) | cases h

theorem within_issueTo {M : Nat} {s0 s : State} (i : Nat) (c : Nat) (engine : Nat) (free : Bool) (body : State → Nat → State) (hw : Sub 0x20010000000000000000000000000000000000080 M) (hk : Within M s0 s) (hbody : ∀ t pc, Within M s0 t → Within M s0 (body t pc)) :
   Within M s0 (State.issueTo s i c engine free body) := by
  unfold State.issueTo
  repeat' (first | intro _ | with_reducible assumption | with_reducible exact rfl | exact sub_trans hw rfl | exact has_of hw rfl | with_reducible exact .inl rfl | exact .inr (has_of hw rfl) | exact .inl rfl | dsimp only | with_reducible apply within_issue | with_reducible apply within_setWait | exact hbody _ ‹_›| apply hbody | with_reducible apply within_ite | with_reducible apply within_ite2 | with_reducible apply within_foldl | split | ((with_reducible apply within_mk); with_reducible exact rfl))

theorem within_wakeFull {M : Nat} {s0 s : State} (i : Nat) (engine : Nat) (hw : Sub 0x20010000000000000000000000000000000000080 M) (hk : Within M s0 s) :
   Within M s0 (State.wakeFull s i engine) := by
  unfold State.wakeFull
  repeat' (first | intro _ | with_reducible assumption | with_reducible exact rfl | exact sub_trans hw rfl | exact has_of hw rfl | with_reducible exact .inl rfl | exact .inr (has_of hw rfl) | exact .inl rfl | dsimp only | with_reducible apply within_wakeIf | with_reducible apply within_ite | with_reducible apply within_ite2 | with_reducible apply within_foldl | split | ((with_reducible apply within_mk); with_reducible exact rfl))

theorem within_arrayTile {M : Nat} {s0 s : State} (i : Nat) (c : Nat) (o : TileOp) (hw : Sub 0x24640000000000000010400080002c200340904000000000080000000000000002475f8 M) (hk : Within M s0 s) :
   Within M s0 (State.arrayTile s i c o) := by
  unfold State.arrayTile
  repeat' (first | intro _ | with_reducible assumption | with_reducible exact rfl | exact sub_trans hw rfl | exact has_of hw rfl | with_reducible exact .inl rfl | exact .inr (has_of hw rfl) | exact .inl rfl | dsimp only | with_reducible apply within_issueTo | with_reducible apply within_coreFault | with_reducible apply within_placeArray | with_reducible apply within_ite | with_reducible apply within_ite2 | with_reducible apply within_foldl | split | ((with_reducible apply within_mk); with_reducible exact rfl))

theorem within_rescaleLoad {M : Nat} {s0 s : State} (i : Nat) (c : Nat) (src : Nat) (e : Nat) (n : Nat) (hw : Sub 0x24640000000000000010400080002c200340904000000000080000000000000002475f8 M) (hk : Within M s0 s) :
   Within M s0 (State.rescaleLoad s i c src e n) := by
  unfold State.rescaleLoad
  repeat' (first | intro _ | with_reducible assumption | with_reducible exact rfl | exact sub_trans hw rfl | exact has_of hw rfl | with_reducible exact .inl rfl | exact .inr (has_of hw rfl) | exact .inl rfl | dsimp only | with_reducible apply within_issueTo | with_reducible apply within_coreFault | with_reducible apply within_placeArray | with_reducible apply within_ite | with_reducible apply within_ite2 | with_reducible apply within_foldl | split | ((with_reducible apply within_mk); with_reducible exact rfl))

theorem within_countAdapt {M : Nat} {s0 s : State} (i : Nat) (c : Nat) (cycles : Nat) (hw : Sub 0x10000000000000000000000000000000000000000 M) (hk : Within M s0 s) :
   Within M s0 (State.countAdapt s i c cycles) := by
  unfold State.countAdapt
  repeat' (first | intro _ | with_reducible assumption | with_reducible exact rfl | exact sub_trans hw rfl | exact has_of hw rfl | with_reducible exact .inl rfl | exact .inr (has_of hw rfl) | exact .inl rfl | dsimp only | with_reducible apply within_setRegN | with_reducible apply within_ite | with_reducible apply within_ite2 | with_reducible apply within_foldl | split | ((with_reducible apply within_mk); with_reducible exact rfl))

theorem within_countTile {M : Nat} {s0 s : State} (i : Nat) (t : Tile) (es : List (Nat × Elem)) (hw : Sub 0x80 M) (hk : Within M s0 s) :
   Within M s0 (State.countTile s i t es) := by
  unfold State.countTile
  repeat' (first | intro _ | with_reducible assumption | with_reducible exact rfl | exact sub_trans hw rfl | exact has_of hw rfl | with_reducible exact .inl rfl | exact .inr (has_of hw rfl) | exact .inl rfl | dsimp only | with_reducible apply within_addCounts | with_reducible apply within_modCore | with_reducible apply within_ite | with_reducible apply within_ite2 | with_reducible apply within_foldl | split | ((with_reducible apply within_mk); with_reducible exact rfl))

theorem within_writeOut {M : Nat} {s0 s : State} (i : Nat) (c : Nat) (pc : Nat) (num : Nat) (desc : Nat) (slot : Nat) (ij : Nat × Nat) (hw : Sub 0x80 M) (hk : Within M s0 s) :
   Within M s0 (State.writeOut s i c pc num desc slot ij) := by
  unfold State.writeOut
  repeat' (first | intro _ | with_reducible assumption | with_reducible exact rfl | exact sub_trans hw rfl | exact has_of hw rfl | with_reducible exact .inl rfl | exact .inr (has_of hw rfl) | exact .inl rfl | dsimp only | with_reducible apply within_modCore | with_reducible apply within_ite | with_reducible apply within_ite2 | with_reducible apply within_foldl | split | ((with_reducible apply within_mk); with_reducible exact rfl))

theorem within_gridTileDone {M : Nat} {s0 s : State} (i : Nat) (c : Nat) (pc : Nat) (t : Tile) (ij : Nat × Nat) (hw : Sub 0x80 M) (hk : Within M s0 s) :
   Within M s0 (State.gridTileDone s i c pc t ij) := by
  unfold State.gridTileDone
  repeat' (first | intro _ | with_reducible assumption | with_reducible exact rfl | exact sub_trans hw rfl | exact has_of hw rfl | with_reducible exact .inl rfl | exact .inr (has_of hw rfl) | exact .inl rfl | dsimp only | with_reducible apply within_writeOut | with_reducible apply within_modCtx | with_reducible apply within_map | with_reducible apply within_ite | with_reducible apply within_ite2 | with_reducible apply within_foldl | split | ((with_reducible apply within_mk); with_reducible exact rfl))

theorem within_arrayComplete {M : Nat} {s0 s : State} (i : Nat) (hw : Sub 0x300100000000000000000000000000000000421a0 M) (hk : Within M s0 s) :
   Within M s0 (State.arrayComplete s i) := by
  unfold State.arrayComplete
  repeat' (first | intro _ | with_reducible assumption | with_reducible exact rfl | exact sub_trans hw rfl | exact has_of hw rfl | with_reducible exact .inl rfl | exact .inr (has_of hw rfl) | exact .inl rfl | dsimp only | with_reducible apply within_modCore | with_reducible apply within_obsAdd | with_reducible apply within_countAdapt | with_reducible apply within_countTile | with_reducible apply within_gridTileDone | with_reducible apply within_modCtx | with_reducible apply within_settleArrivals | with_reducible apply within_wakeOwn | with_reducible apply within_wakeFull | with_reducible apply within_ite | with_reducible apply within_ite2 | with_reducible apply within_foldl | split | ((with_reducible apply within_mk); with_reducible exact rfl))

theorem within_fetchTile {M : Nat} {s0 s : State} (i : Nat) (c : Nat) (pc : Nat) (num : Nat) (which : Nat) (desc : Nat) (slot : Nat) (idx : Nat) (hw : Sub 0x80 M) (hk : Within M s0 s) :
   Within M s0 (State.fetchTile s i c pc num which desc slot idx) := by
  unfold State.fetchTile
  repeat' (first | intro _ | with_reducible assumption | with_reducible exact rfl | exact sub_trans hw rfl | exact has_of hw rfl | with_reducible exact .inl rfl | exact .inr (has_of hw rfl) | exact .inl rfl | dsimp only | with_reducible apply within_modCore | with_reducible apply within_ite | with_reducible apply within_ite2 | with_reducible apply within_foldl | split | ((with_reducible apply within_mk); with_reducible exact rfl))

theorem within_fetchOperands {M : Nat} {s0 s : State} (i : Nat) (c : Nat) (pc : Nat) (num : Nat) (g : Grid) (t : Tile) (ij : Nat × Nat) (newA : Bool) (newB : Bool) (hw : Sub 0x80 M) (hk : Within M s0 s) :
   Within M s0 (State.fetchOperands s i c pc num g t ij newA newB) := by
  unfold State.fetchOperands
  repeat' (first | intro _ | with_reducible assumption | with_reducible exact rfl | exact sub_trans hw rfl | exact has_of hw rfl | with_reducible exact .inl rfl | exact .inr (has_of hw rfl) | exact .inl rfl | dsimp only | with_reducible apply within_fetchTile | with_reducible apply within_ite | with_reducible apply within_ite2 | with_reducible apply within_foldl | split | ((with_reducible apply within_mk); with_reducible exact rfl))

theorem within_gridIssue {M : Nat} {s0 s : State} (i : Nat) (c : Nat) (gi : Nat) (p : Nat) (r : Nat) (hw : Sub 0x24640000000000000010400080002c200340904000000000080000000000000002475f8 M) (hk : Within M s0 s) :
   Within M s0 (State.gridIssue s i c gi p r) := by
  unfold State.gridIssue
  repeat' (first | intro _ | with_reducible assumption | with_reducible exact rfl | exact sub_trans hw rfl | exact has_of hw rfl | with_reducible exact .inl rfl | exact .inr (has_of hw rfl) | exact .inl rfl | dsimp only | with_reducible apply within_issueTo | with_reducible apply within_coreFault | with_reducible apply within_placeEmpty | with_reducible apply within_modCore | with_reducible apply within_modCtx | with_reducible apply within_fetchOperands | with_reducible apply within_setWait | with_reducible apply within_ite | with_reducible apply within_ite2 | with_reducible apply within_foldl | split | ((with_reducible apply within_mk); with_reducible exact rfl))

theorem within_gridTileIssue {M : Nat} {s0 s : State} (i : Nat) (c : Nat) (hw : Sub 0x24640000000000000010400080002c200340904000000000080000000000000002475f8 M) (hk : Within M s0 s) :
   Within M s0 (State.gridTileIssue s i c) := by
  unfold State.gridTileIssue
  repeat' (first | intro _ | with_reducible assumption | with_reducible exact rfl | exact sub_trans hw rfl | exact has_of hw rfl | with_reducible exact .inl rfl | exact .inr (has_of hw rfl) | exact .inl rfl | dsimp only | with_reducible apply within_tookTurn | with_reducible apply within_coreFault | with_reducible apply within_placeArray | with_reducible apply within_modCtx | with_reducible apply within_map | with_reducible apply within_fetchOperands | with_reducible apply within_wake | with_reducible apply within_ite | with_reducible apply within_ite2 | with_reducible apply within_foldl | split | ((with_reducible apply within_mk); with_reducible exact rfl))

theorem within_vectorIssue {M : Nat} {s0 s : State} (i : Nat) (c : Nat) (f : VFun) (srcs : List VSrc) (dst : VDst) (n : Nat) (rec_ : Option Nat) (hw : Sub 0x24640000000000000010400080002c200340904000000000080000000000000002475f8 M) (hk : Within M s0 s) :
   Within M s0 (State.vectorIssue s i c f srcs dst n rec_) := by
  unfold State.vectorIssue
  repeat' (first | intro _ | with_reducible assumption | with_reducible exact rfl | exact sub_trans hw rfl | exact has_of hw rfl | with_reducible exact .inl rfl | exact .inr (has_of hw rfl) | exact .inl rfl | dsimp only | with_reducible apply within_issueTo | with_reducible apply within_coreFault | with_reducible apply within_placeVector | with_reducible apply within_ite | with_reducible apply within_ite2 | with_reducible apply within_foldl | split | ((with_reducible apply within_mk); with_reducible exact rfl))

theorem within_convertIssue {M : Nat} {s0 s : State} (i : Nat) (c : Nat) (src : Nat) (dst : Nat) (ovfInf : Bool) (scale : Nat) (from_ : VSrc) (to_ : VDst) (k : Nat) (rec_ : Nat) (hw : Sub 0x24640000000000000010400080002c200340904000000000080000000000000002475f8 M) (hk : Within M s0 s) :
   Within M s0 (State.convertIssue s i c src dst ovfInf scale from_ to_ k rec_) := by
  unfold State.convertIssue
  repeat' (first | intro _ | with_reducible assumption | with_reducible exact rfl | exact sub_trans hw rfl | exact has_of hw rfl | with_reducible exact .inl rfl | exact .inr (has_of hw rfl) | exact .inl rfl | dsimp only | with_reducible apply within_issueTo | with_reducible apply within_coreFault | with_reducible apply within_placeVector | with_reducible apply within_ite | with_reducible apply within_ite2 | with_reducible apply within_foldl | split | ((with_reducible apply within_mk); with_reducible exact rfl))

theorem within_reduceIssue {M : Nat} {s0 s : State} (i : Nat) (c : Nat) (f : VFold) (src : VSrc) (dst : VDst) (n : Nat) (hw : Sub 0x24640000000000000010400080002c200340904000000000080000000000000002475f8 M) (hk : Within M s0 s) :
   Within M s0 (State.reduceIssue s i c f src dst n) := by
  unfold State.reduceIssue
  repeat' (first | intro _ | with_reducible assumption | with_reducible exact rfl | exact sub_trans hw rfl | exact has_of hw rfl | with_reducible exact .inl rfl | exact .inr (has_of hw rfl) | exact .inl rfl | dsimp only | with_reducible apply within_issueTo | with_reducible apply within_coreFault | with_reducible apply within_placeVector | with_reducible apply within_ite | with_reducible apply within_ite2 | with_reducible apply within_foldl | split | ((with_reducible apply within_mk); with_reducible exact rfl))

theorem within_countUnder {M : Nat} {s0 s : State} (i : Nat) (rec_ : Option Nat) (fs : List Bool) (hw : Sub 0x80 M) (hk : Within M s0 s) :
   Within M s0 (State.countUnder s i rec_ fs) := by
  unfold State.countUnder
  repeat' (first | intro _ | with_reducible assumption | with_reducible exact rfl | exact sub_trans hw rfl | exact has_of hw rfl | with_reducible exact .inl rfl | exact .inr (has_of hw rfl) | exact .inl rfl | dsimp only | with_reducible apply within_addCounts | with_reducible apply within_ite | with_reducible apply within_ite2 | with_reducible apply within_foldl | split | ((with_reducible apply within_mk); with_reducible exact rfl))

theorem within_vectorComplete {M : Nat} {s0 s : State} (i : Nat) (hw : Sub 0x20010000000000000000000000000000000040080 M) (hk : Within M s0 s) :
   Within M s0 (State.vectorComplete s i) := by
  unfold State.vectorComplete
  repeat' (first | intro _ | with_reducible assumption | with_reducible exact rfl | exact sub_trans hw rfl | exact has_of hw rfl | with_reducible exact .inl rfl | exact .inr (has_of hw rfl) | exact .inl rfl | dsimp only | with_reducible apply within_modCore | with_reducible apply within_obsAdd | with_reducible apply within_map | with_reducible apply within_countUnder | with_reducible apply within_wakeOwn | with_reducible apply within_wakeFull | with_reducible apply within_ite | with_reducible apply within_ite2 | with_reducible apply within_foldl | split | ((with_reducible apply within_mk); with_reducible exact rfl))

theorem within_await {M : Nat} {s0 s : State} (i : Nat) (q : Nat) (v : Nat) (hw : Sub 0x80 M) (hk : Within M s0 s) :
   Within M s0 (State.await s i q v) := by
  unfold State.await
  repeat' (first | intro _ | with_reducible assumption | with_reducible exact rfl | exact sub_trans hw rfl | exact has_of hw rfl | with_reducible exact .inl rfl | exact .inr (has_of hw rfl) | exact .inl rfl | dsimp only | with_reducible apply within_modCore | with_reducible apply within_ite | with_reducible apply within_ite2 | with_reducible apply within_foldl | split | ((with_reducible apply within_mk); with_reducible exact rfl))

theorem within_controlWait {M : Nat} {s0 s : State} (i : Nat) (c : Nat) (w : WaitFor) (hw : Sub 0x20010000000000000000000000000000000000080 M) (hk : Within M s0 s) :
   Within M s0 (State.controlWait s i c w) := by
  unfold State.controlWait
  repeat' (first | intro _ | with_reducible assumption | with_reducible exact rfl | exact sub_trans hw rfl | exact has_of hw rfl | with_reducible exact .inl rfl | exact .inr (has_of hw rfl) | exact .inl rfl | dsimp only | with_reducible apply within_issue | with_reducible apply within_setWait | with_reducible apply within_await | with_reducible apply within_ite | with_reducible apply within_ite2 | with_reducible apply within_foldl | split | ((with_reducible apply within_mk); with_reducible exact rfl))

theorem within_wakeRows {M : Nat} {s0 s : State} (i : Nat) (hw : Sub 0x20010000000000000000000000000000000000080 M) (hk : Within M s0 s) :
   Within M s0 (State.wakeRows s i) := by
  unfold State.wakeRows
  repeat' (first | intro _ | with_reducible assumption | with_reducible exact rfl | exact sub_trans hw rfl | exact has_of hw rfl | with_reducible exact .inl rfl | exact .inr (has_of hw rfl) | exact .inl rfl | dsimp only | with_reducible apply within_wakeIf | with_reducible apply within_ite | with_reducible apply within_ite2 | with_reducible apply within_foldl | split | ((with_reducible apply within_mk); with_reducible exact rfl))

theorem within_barrierArrive {M : Nat} {s0 s : State} (i : Nat) (c : Nat) (b : BarScope) (hw : Sub 0x200100000000000000000000000000000000021a0 M) (hk : Within M s0 s) :
   Within M s0 (State.barrierArrive s i c b) := by
  unfold State.barrierArrive
  repeat' (first | intro _ | with_reducible assumption | with_reducible exact rfl | exact sub_trans hw rfl | exact has_of hw rfl | with_reducible exact .inl rfl | exact .inr (has_of hw rfl) | exact .inl rfl | dsimp only | with_reducible apply within_issue | with_reducible apply within_arriveWhenSeen | with_reducible apply within_ite | with_reducible apply within_ite2 | with_reducible apply within_foldl | split | ((with_reducible apply within_mk); with_reducible exact rfl))

theorem within_barrierWait {M : Nat} {s0 s : State} (i : Nat) (c : Nat) (b : BarScope) (phase : Nat) (hw : Sub 0x20010000000000000000000000000000000000080 M) (hk : Within M s0 s) :
   Within M s0 (State.barrierWait s i c b phase) := by
  unfold State.barrierWait
  repeat' (first | intro _ | with_reducible assumption | with_reducible exact rfl | exact sub_trans hw rfl | exact has_of hw rfl | with_reducible exact .inl rfl | exact .inr (has_of hw rfl) | exact .inl rfl | dsimp only | with_reducible apply within_issue | with_reducible apply within_setWait | with_reducible apply within_ite | with_reducible apply within_ite2 | with_reducible apply within_foldl | split | ((with_reducible apply within_mk); with_reducible exact rfl))

theorem within_barrierTimeout {M : Nat} {s0 s : State} (i : Nat) (c : Nat) (hw : Sub 0x24640000000000000010400080002c200340904000000000080000000000000002475f8 M) (hk : Within M s0 s) :
   Within M s0 (State.barrierTimeout s i c) := by
  unfold State.barrierTimeout
  repeat' (first | intro _ | with_reducible assumption | with_reducible exact rfl | exact sub_trans hw rfl | exact has_of hw rfl | with_reducible exact .inl rfl | exact .inr (has_of hw rfl) | exact .inl rfl | dsimp only | with_reducible apply within_coreFault | with_reducible apply within_ite | with_reducible apply within_ite2 | with_reducible apply within_foldl | split | ((with_reducible apply within_mk); with_reducible exact rfl))

theorem within_rchk {M : Nat} {s0 s : State} (i : Nat) (c : Nat) (r : Nat) (hw : Sub 0x24640000000000000000000000000021f100000000000000000000000000000002400c0 M) (hk : Within M s0 s) :
   Within M s0 (State.rchk s i c r) := by
  unfold State.rchk
  repeat' (first | intro _ | with_reducible assumption | with_reducible exact rfl | exact sub_trans hw rfl | exact has_of hw rfl | with_reducible exact .inl rfl | exact .inr (has_of hw rfl) | exact .inl rfl | exact has_mem hw rfl (rchkOutcome_mem ‹_›) | dsimp only | with_reducible apply within_issue | with_reducible apply within_map | with_reducible apply within_modCtx | with_reducible apply within_setFld | with_reducible apply within_addCounts | with_reducible apply within_setMark | with_reducible apply within_modCore | with_reducible apply within_traceEv | with_reducible apply within_bump | with_reducible apply within_ite | with_reducible apply within_ite2 | with_reducible apply within_foldl | split | ((with_reducible apply within_mk); with_reducible exact rfl))

theorem within_ringReceivePost {M : Nat} {s0 s : State} (i : Nat) (c : Nat) (addr : Nat) (len : Nat) (hw : Sub 0x24640000000000000010400080002c200340904000000000080000000000000002475f8 M) (hk : Within M s0 s) :
   Within M s0 (State.ringReceivePost s i c addr len) := by
  unfold State.ringReceivePost
  repeat' (first | intro _ | with_reducible assumption | with_reducible exact rfl | exact sub_trans hw rfl | exact has_of hw rfl | with_reducible exact .inl rfl | exact .inr (has_of hw rfl) | exact .inl rfl | dsimp only | with_reducible apply within_issue | with_reducible apply within_coreFault | with_reducible apply within_modCore | with_reducible apply within_setWait | with_reducible apply within_ringTry | with_reducible apply within_ite | with_reducible apply within_ite2 | with_reducible apply within_foldl | split | ((with_reducible apply within_mk); with_reducible exact rfl))

theorem within_ringSend {M : Nat} {s0 s : State} (i : Nat) (c : Nat) (addr : Nat) (len : Nat) (mask : Nat) (hw : Sub 0x24640000000000000010400080002c200340904000000000080000000000000002475f8 M) (hk : Within M s0 s) :
   Within M s0 (State.ringSend s i c addr len mask) := by
  unfold State.ringSend
  repeat' (first | intro _ | with_reducible assumption | with_reducible exact rfl | exact sub_trans hw rfl | exact has_of hw rfl | with_reducible exact .inl rfl | exact .inr (has_of hw rfl) | exact .inl rfl | dsimp only | with_reducible apply within_issue | with_reducible apply within_coreFault | with_reducible apply within_modCore | with_reducible apply within_setWait | with_reducible apply within_ringTry | with_reducible apply within_ite | with_reducible apply within_ite2 | with_reducible apply within_foldl | split | ((with_reducible apply within_mk); with_reducible exact rfl))

theorem within_ringDeliver {M : Nat} {s0 s : State} (j : Nat) (bs : List Byte) (hw : Sub 0x20010000000000000000000000000000000000080 M) (hk : Within M s0 s) :
   Within M s0 (State.ringDeliver s j bs) := by
  unfold State.ringDeliver
  repeat' (first | intro _ | with_reducible assumption | with_reducible exact rfl | exact sub_trans hw rfl | exact has_of hw rfl | with_reducible exact .inl rfl | exact .inr (has_of hw rfl) | exact .inl rfl | dsimp only | with_reducible apply within_modCore | with_reducible apply within_wake | with_reducible apply within_ite | with_reducible apply within_ite2 | with_reducible apply within_foldl | split | ((with_reducible apply within_mk); with_reducible exact rfl))

theorem within_ringComplete {M : Nat} {s0 s : State} (i : Nat) (hw : Sub 0x20010000000000000000000000000000000000080 M) (hk : Within M s0 s) :
   Within M s0 (State.ringComplete s i) := by
  unfold State.ringComplete
  repeat' (first | intro _ | with_reducible assumption | with_reducible exact rfl | exact sub_trans hw rfl | exact has_of hw rfl | with_reducible exact .inl rfl | exact .inr (has_of hw rfl) | exact .inl rfl | dsimp only | with_reducible apply within_modCore | with_reducible apply within_ringDeliver | with_reducible apply within_wake | with_reducible apply within_ringTry | with_reducible apply within_ite | with_reducible apply within_ite2 | with_reducible apply within_foldl | split | ((with_reducible apply within_mk); with_reducible exact rfl))

theorem within_ringTimeout {M : Nat} {s0 s : State} (i : Nat) (c : Nat) (hw : Sub 0x24640000000000000010400080002c200340904000000000080000000000000002475f8 M) (hk : Within M s0 s) :
   Within M s0 (State.ringTimeout s i c) := by
  unfold State.ringTimeout
  repeat' (first | intro _ | with_reducible assumption | with_reducible exact rfl | exact sub_trans hw rfl | exact has_of hw rfl | with_reducible exact .inl rfl | exact .inr (has_of hw rfl) | exact .inl rfl | dsimp only | with_reducible apply within_coreFault | with_reducible apply within_ite | with_reducible apply within_ite2 | with_reducible apply within_foldl | split | ((with_reducible apply within_mk); with_reducible exact rfl))

theorem within_wakeCounter {M : Nat} {s0 s : State} (g : Nat) (w : Nat) (hw : Sub 0x20010000000000000000000000000000000000080 M) (hk : Within M s0 s) :
   Within M s0 (State.wakeCounter s g w) := by
  unfold State.wakeCounter
  repeat' (first | intro _ | with_reducible assumption | with_reducible exact rfl | exact sub_trans hw rfl | exact has_of hw rfl | with_reducible exact .inl rfl | exact .inr (has_of hw rfl) | exact .inl rfl | dsimp only | with_reducible apply within_wakeIf | with_reducible apply within_ite | with_reducible apply within_ite2 | with_reducible apply within_foldl | split | ((with_reducible apply within_mk); with_reducible exact rfl))

theorem within_workShareQueue {M : Nat} {s0 s : State} (g : Nat) (w : Nat) (n : Nat) (q : Nat) (k : Nat) (hw : Sub 0xc00000200100000000000000000000000000000000020c0 M) (hk : Within M s0 s) :
   Within M s0 (State.workShareQueue s g w n q k) := by
  unfold State.workShareQueue
  repeat' (first | intro _ | with_reducible assumption | with_reducible exact rfl | exact sub_trans hw rfl | exact has_of hw rfl | with_reducible exact .inl rfl | exact .inr (has_of hw rfl) | exact .inl rfl | dsimp only | with_reducible apply within_queueShare | with_reducible apply within_wakeCounter | with_reducible apply within_ite | with_reducible apply within_ite2 | with_reducible apply within_foldl | split | ((with_reducible apply within_mk); with_reducible exact rfl))

theorem within_stripeLaunch {M : Nat} {s0 s : State} (g : Nat) (w : Nat) (n : Nat) (q : Nat) (k : Nat) (l : Nat) (hw : Sub 0xc00000200100000000000000000000000000000000020c0 M) (hk : Within M s0 s) :
   Within M s0 (State.stripeLaunch s g w n q k l) := by
  unfold State.stripeLaunch
  repeat' (first | intro _ | with_reducible assumption | with_reducible exact rfl | exact sub_trans hw rfl | exact has_of hw rfl | with_reducible exact .inl rfl | exact .inr (has_of hw rfl) | exact .inl rfl | dsimp only | with_reducible apply within_workShareQueue | with_reducible apply within_ite | with_reducible apply within_ite2 | with_reducible apply within_foldl | split | ((with_reducible apply within_mk); with_reducible exact rfl))

theorem within_leaseExpiry {M : Nat} {s0 s : State} (g : Nat) (w : Nat) (idx : Nat) (hw : Sub 0x24640000000000000000000180000020010000000000000000000000000000000242080 M) (hk : Within M s0 s) :
   Within M s0 (State.leaseExpiry s g w idx) := by
  unfold State.leaseExpiry
  repeat' (first | intro _ | with_reducible assumption | with_reducible exact rfl | exact sub_trans hw rfl | exact has_of hw rfl | with_reducible exact .inl rfl | exact .inr (has_of hw rfl) | exact .inl rfl | dsimp only | with_reducible apply within_expireLease | with_reducible apply within_wakeCounter | with_reducible apply within_ite | with_reducible apply within_ite2 | with_reducible apply within_foldl | split | ((with_reducible apply within_mk); with_reducible exact rfl))

theorem within_temporalBind {M : Nat} {s0 s : State} (i : Nat) (n : Nat) (q : Nat) (k : Nat) (hw : Sub 0x246400000000000000000000000000000000020000000000000000000000000002400c0 M) (hk : Within M s0 s) :
   Within M s0 (State.temporalBind s i n q k) := by
  unfold State.temporalBind
  repeat' (first | intro _ | with_reducible assumption | with_reducible exact rfl | exact sub_trans hw rfl | exact has_of hw rfl | with_reducible exact .inl rfl | exact .inr (has_of hw rfl) | exact .inl rfl | dsimp only | with_reducible apply within_modCore | with_reducible apply within_map | with_reducible apply within_modFrame | with_reducible apply within_camCount | with_reducible apply within_ite | with_reducible apply within_ite2 | with_reducible apply within_foldl | split | ((with_reducible apply within_mk); with_reducible exact rfl))

theorem within_ppbPoison {M : Nat} {s0 s : State} (n : Nat) (q : Nat) (hw : Sub 0x40 M) (hk : Within M s0 s) :
   Within M s0 (State.ppbPoison s n q) := by
  unfold State.ppbPoison
  repeat' (first | intro _ | with_reducible assumption | with_reducible exact rfl | exact sub_trans hw rfl | exact has_of hw rfl | with_reducible exact .inl rfl | exact .inr (has_of hw rfl) | exact .inl rfl | dsimp only | with_reducible apply within_setMark | with_reducible apply within_ite | with_reducible apply within_ite2 | with_reducible apply within_foldl | split | ((with_reducible apply within_mk); with_reducible exact rfl))

theorem within_negPoison {M : Nat} {s0 s : State} (n : Nat) (q : Nat) (k : Nat) (hw : Sub 0x40 M) (hk : Within M s0 s) :
   Within M s0 (State.negPoison s n q k) := by
  unfold State.negPoison
  repeat' (first | intro _ | with_reducible assumption | with_reducible exact rfl | exact sub_trans hw rfl | exact has_of hw rfl | with_reducible exact .inl rfl | exact .inr (has_of hw rfl) | exact .inl rfl | dsimp only | with_reducible apply within_setMark | with_reducible apply within_ite | with_reducible apply within_ite2 | with_reducible apply within_foldl | split | ((with_reducible apply within_mk); with_reducible exact rfl))

theorem within_deliverPlane {M : Nat} {s0 s : State} (i : Nat) (at_ : Nat) (p : List (List Nat)) (hw : Sub 0x80 M) (hk : Within M s0 s) :
   Within M s0 (State.deliverPlane s i at_ p) := by
  unfold State.deliverPlane
  repeat' (first | intro _ | with_reducible assumption | with_reducible exact rfl | exact sub_trans hw rfl | exact has_of hw rfl | with_reducible exact .inl rfl | exact .inr (has_of hw rfl) | exact .inl rfl | dsimp only | with_reducible apply within_modCore | with_reducible apply within_ite | with_reducible apply within_ite2 | with_reducible apply within_foldl | split | ((with_reducible apply within_mk); with_reducible exact rfl))

theorem within_startShare {M : Nat} {s0 s : State} (i : Nat) (w : Nat) (h : Share) (hw : Sub 0x246400000000000000000000000002200100020000000000000000000000000002400c0 M) (hk : Within M s0 s) :
   Within M s0 (State.startShare s i w h) := by
  unfold State.startShare
  repeat' (first | intro _ | with_reducible assumption | with_reducible exact rfl | exact sub_trans hw rfl | exact has_of hw rfl | with_reducible exact .inl rfl | exact .inr (has_of hw rfl) | exact .inl rfl | dsimp only | with_reducible apply within_bindShare | with_reducible apply within_setFld | with_reducible apply within_temporalBind | with_reducible apply within_deliverPlane | with_reducible apply within_ppbPoison | with_reducible apply within_negPoison | with_reducible apply within_ite | with_reducible apply within_ite2 | with_reducible apply within_foldl | split | ((with_reducible apply within_mk); with_reducible exact rfl))

theorem within_wcDraw {M : Nat} {s0 s : State} (i : Nat) (c : Nat) (w : Nat) (hw : Sub 0x246400000000000000000000800002200100020000000000000000000000000002420c0 M) (hk : Within M s0 s) :
   Within M s0 (State.wcDraw s i c w) := by
  unfold State.wcDraw
  repeat' (first | intro _ | with_reducible assumption | with_reducible exact rfl | exact sub_trans hw rfl | exact has_of hw rfl | with_reducible exact .inl rfl | exact .inr (has_of hw rfl) | exact .inl rfl | dsimp only | with_reducible apply within_issue | with_reducible apply within_takeShare | with_reducible apply within_startShare | with_reducible apply within_setFld | with_reducible apply within_setWait | with_reducible apply within_ite | with_reducible apply within_ite2 | with_reducible apply within_foldl | split | ((with_reducible apply within_mk); with_reducible exact rfl))

theorem within_keepOverlap {M : Nat} {s0 s : State} (n : Nat) (q : Nat) (k : Nat) (hw : Sub 0x20 M) (hk : Within M s0 s) :
   Within M s0 (State.keepOverlap s n q k) := by
  unfold State.keepOverlap
  repeat' (first | intro _ | with_reducible assumption | with_reducible exact rfl | exact sub_trans hw rfl | exact has_of hw rfl | with_reducible exact .inl rfl | exact .inr (has_of hw rfl) | exact .inl rfl | dsimp only | with_reducible apply within_map | with_reducible apply within_modCam | with_reducible apply within_ite | with_reducible apply within_ite2 | with_reducible apply within_foldl | split | ((with_reducible apply within_mk); with_reducible exact rfl))

theorem within_firstStageDone {M : Nat} {s0 s : State} (i : Nat) (n : Nat) (q : Nat) (k : Nat) (hw : Sub 0x2060 M) (hk : Within M s0 s) :
   Within M s0 (State.firstStageDone s i n q k) := by
  unfold State.firstStageDone
  repeat' (first | intro _ | with_reducible assumption | with_reducible exact rfl | exact sub_trans hw rfl | exact has_of hw rfl | with_reducible exact .inl rfl | exact .inr (has_of hw rfl) | exact .inl rfl | dsimp only | with_reducible apply within_modFrame | with_reducible apply within_modGroup | with_reducible apply within_keepOverlap | with_reducible apply within_ite | with_reducible apply within_ite2 | with_reducible apply within_foldl | split | ((with_reducible apply within_mk); with_reducible exact rfl))

theorem within_handOn {M : Nat} {s0 s : State} (i : Nat) (c : CounterS) (n : Nat) (q : Nat) (k : Nat) (hw : Sub 0x40 M) (hk : Within M s0 s) :
   Within M s0 (State.handOn s i c n q k) := by
  unfold State.handOn
  repeat' (first | intro _ | with_reducible assumption | with_reducible exact rfl | exact sub_trans hw rfl | exact has_of hw rfl | with_reducible exact .inl rfl | exact .inr (has_of hw rfl) | exact .inl rfl | dsimp only | with_reducible apply within_modFrame | with_reducible apply within_ite | with_reducible apply within_ite2 | with_reducible apply within_foldl | split | ((with_reducible apply within_mk); with_reducible exact rfl))

theorem within_stageCommitted {M : Nat} {s0 s : State} (i : Nat) (w : Nat) (c : CounterS) (h : Share) (hw : Sub 0x2460 M) (hk : Within M s0 s) :
   Within M s0 (State.stageCommitted s i w c h) := by
  unfold State.stageCommitted
  repeat' (first | intro _ | with_reducible assumption | with_reducible exact rfl | exact sub_trans hw rfl | exact has_of hw rfl | with_reducible exact .inl rfl | exact .inr (has_of hw rfl) | exact .inl rfl | dsimp only | with_reducible apply within_modAdapt | with_reducible apply within_firstStageDone | with_reducible apply within_modFrame | with_reducible apply within_handOn | with_reducible apply within_ite | with_reducible apply within_ite2 | with_reducible apply within_foldl | split | ((with_reducible apply within_mk); with_reducible exact rfl))

theorem within_commitShare {M : Nat} {s0 s : State} (i : Nat) (c : Nat) (w : Nat) (idx : Nat) (gen : Nat) (hw : Sub 0x246400000000000000000002800000200100000000000000000000000000000002425e0 M) (hk : Within M s0 s) :
   Within M s0 (State.commitShare s i c w idx gen) := by
  unfold State.commitShare
  repeat' (first | intro _ | with_reducible assumption | with_reducible exact rfl | exact sub_trans hw rfl | exact has_of hw rfl | with_reducible exact .inl rfl | exact .inr (has_of hw rfl) | exact .inl rfl | dsimp only | with_reducible apply within_setCounter | with_reducible apply within_modCore | with_reducible apply within_map | with_reducible apply within_stageCommitted | with_reducible apply within_traceEv | with_reducible apply within_arriveWhenSeen | with_reducible apply within_bump | with_reducible apply within_ite | with_reducible apply within_ite2 | with_reducible apply within_foldl | split | ((with_reducible apply within_mk); with_reducible exact rfl))

theorem within_wcCommit {M : Nat} {s0 s : State} (i : Nat) (t : CommitOp) (hw : Sub 0x246400000000000000000002800000200100000000000000000000000000000002425e0 M) (hk : Within M s0 s) :
   Within M s0 (State.wcCommit s i t) := by
  unfold State.wcCommit
  repeat' (first | intro _ | with_reducible assumption | with_reducible exact rfl | exact sub_trans hw rfl | exact has_of hw rfl | with_reducible exact .inl rfl | exact .inr (has_of hw rfl) | exact .inl rfl | dsimp only | with_reducible apply within_issue | with_reducible apply within_commitShare | with_reducible apply within_ite | with_reducible apply within_ite2 | with_reducible apply within_foldl | split | ((with_reducible apply within_mk); with_reducible exact rfl))

theorem within_leaveStripe {M : Nat} {s0 s : State} (i : Nat) (b : BoundS) (hw : Sub 0x246400000000000000000000000000220100000000000000000000000000000002400c0 M) (hk : Within M s0 s) :
   Within M s0 (State.leaveStripe s i b) := by
  unfold State.leaveStripe
  repeat' (first | intro _ | with_reducible assumption | with_reducible exact rfl | exact sub_trans hw rfl | exact has_of hw rfl | with_reducible exact .inl rfl | exact .inr (has_of hw rfl) | exact .inl rfl | dsimp only | with_reducible apply within_closeCounts | with_reducible apply within_modCore | with_reducible apply within_idleCtx | with_reducible apply within_setCoreState | with_reducible apply within_ite | with_reducible apply within_ite2 | with_reducible apply within_foldl | split | ((with_reducible apply within_mk); with_reducible exact rfl))

theorem within_changeUser {M : Nat} {s0 s : State} (i : Nat) (u : UserS) (hw : Sub 0x80 M) (hk : Within M s0 s) :
   Within M s0 (State.changeUser s i u).2 := by
  unfold State.changeUser
  repeat' (first | intro _ | with_reducible assumption | with_reducible exact rfl | exact sub_trans hw rfl | exact has_of hw rfl | with_reducible exact .inl rfl | exact .inr (has_of hw rfl) | exact .inl rfl | dsimp only | with_reducible apply within_modCore | with_reducible apply within_ite | with_reducible apply within_ite2 | with_reducible apply within_foldl | split | ((with_reducible apply within_mk); with_reducible exact rfl))

theorem within_takeStripe {M : Nat} {s0 s : State} (i : Nat) (hw : Sub 0x246400000000000000000000800002200100020000000000000000000000000002420c0 M) (hk : Within M s0 s) :
   Within M s0 (State.takeStripe s i) := by
  unfold State.takeStripe
  repeat' (first | intro _ | with_reducible assumption | with_reducible exact rfl | exact sub_trans hw rfl | exact has_of hw rfl | with_reducible exact .inl rfl | exact .inr (has_of hw rfl) | exact .inl rfl | dsimp only | with_reducible apply within_changeUser | with_reducible apply within_takeShare | with_reducible apply within_startShare | with_reducible apply within_ite | with_reducible apply within_ite2 | with_reducible apply within_foldl | split | ((with_reducible apply within_mk); with_reducible exact rfl))

theorem within_stripeBoundary {M : Nat} {s0 s : State} (i : Nat) (hw : Sub 0x246400000000000000000000800002220100020000000000000000000000000002420c0 M) (hk : Within M s0 s) :
   Within M s0 (State.stripeBoundary s i) := by
  unfold State.stripeBoundary
  repeat' (first | intro _ | with_reducible assumption | with_reducible exact rfl | exact sub_trans hw rfl | exact has_of hw rfl | with_reducible exact .inl rfl | exact .inr (has_of hw rfl) | exact .inl rfl | dsimp only | with_reducible apply within_takeStripe | with_reducible apply within_leaveStripe | with_reducible apply within_ite | with_reducible apply within_ite2 | with_reducible apply within_foldl | split | ((with_reducible apply within_mk); with_reducible exact rfl))

theorem within_printStripe {M : Nat} {s0 s : State} (n : Nat) (q : Nat) (k : Nat) (i : Nat) (hw : Sub 0x24640000000000000010400000000000000000c00000000000000000000000000245060 M) (hk : Within M s0 s) :
   Within M s0 (State.printStripe s n q k i) := by
  unfold State.printStripe
  repeat' (first | intro _ | with_reducible assumption | with_reducible exact rfl | exact sub_trans hw rfl | exact has_of hw rfl | with_reducible exact .inl rfl | exact .inr (has_of hw rfl) | exact .inl rfl | dsimp only | with_reducible apply within_map | with_reducible apply within_ppbPoison | with_reducible apply within_modFrame | with_reducible apply within_finishFrame | with_reducible apply within_ite | with_reducible apply within_ite2 | with_reducible apply within_foldl | split | ((with_reducible apply within_mk); with_reducible exact rfl))

theorem within_spadEcc {M : Nat} {s0 s : State} (i : Nat) (c : Nat) (pc : Nat) (uncorrectable : Bool) (hw : Sub 0x24640000000000000010400080002c200740904000000000080000000000000002475f8 M) (hk : Within M s0 s) :
   Within M s0 (State.spadEcc s i c pc uncorrectable) := by
  unfold State.spadEcc
  repeat' (first | intro _ | with_reducible assumption | with_reducible exact rfl | exact sub_trans hw rfl | exact has_of hw rfl | with_reducible exact .inl rfl | exact .inr (has_of hw rfl) | exact .inl rfl | dsimp only | with_reducible apply within_coreFault | with_reducible apply within_setRegN | with_reducible apply within_ite | with_reducible apply within_ite2 | with_reducible apply within_foldl | split | ((with_reducible apply within_mk); with_reducible exact rfl))

theorem within_loadProg {M : Nat} {s0 s : State} (i : Nat) (p : CoreProg) (hw : Sub 0x144000000000000000000000000000000000000080 M) (hk : Within M s0 s) :
   Within M s0 (State.loadProg s i p) := by
  unfold State.loadProg
  repeat' (first | intro _ | with_reducible assumption | with_reducible exact rfl | exact sub_trans hw rfl | exact has_of hw rfl | with_reducible exact .inl rfl | exact .inr (has_of hw rfl) | exact .inl rfl | dsimp only | with_reducible apply within_setCore | with_reducible apply within_setFld | with_reducible apply within_setReg | with_reducible apply within_ite | with_reducible apply within_ite2 | with_reducible apply within_foldl | split | ((with_reducible apply within_mk); with_reducible exact rfl))

theorem within_reloadCore {M : Nat} {s0 s : State} (i : Nat) (hw : Sub 0x144000000000000000000000000000000000000080 M) (hk : Within M s0 s) :
   Within M s0 (State.reloadCore s i) := by
  unfold State.reloadCore
  repeat' (first | intro _ | with_reducible assumption | with_reducible exact rfl | exact sub_trans hw rfl | exact has_of hw rfl | with_reducible exact .inl rfl | exact .inr (has_of hw rfl) | exact .inl rfl | dsimp only | with_reducible apply within_loadProg | with_reducible apply within_ite | with_reducible apply within_ite2 | with_reducible apply within_foldl | split | ((with_reducible apply within_mk); with_reducible exact rfl))

theorem within_clearCore {M : Nat} {s0 s : State} (i : Nat) (hw : Sub 0xffeff7f700000000000000000000000000000000021a0 M) (hk : Within M s0 s) :
   Within M s0 (State.clearCore s i) := by
  unfold State.clearCore
  repeat' (first | intro _ | with_reducible assumption | with_reducible exact rfl | exact sub_trans hw rfl | exact has_of hw rfl | with_reducible exact .inl rfl | exact .inr (has_of hw rfl) | exact .inl rfl | (rename_i h; simp only [Bool.and_eq_true, beq_iff_eq] at h; exact has_pred (q := fun r => r.info.block == .LC && !keptAtCore r) hw (by decide +kernel) (by rw [h.1.1, h.2]; rfl)) | dsimp only | with_reducible apply within_setCore | with_reducible apply within_resetRegs | with_reducible apply within_reloadCore | with_reducible apply within_setCoreState | with_reducible apply within_joinBarriers | with_reducible apply within_ite | with_reducible apply within_ite2 | with_reducible apply within_foldl | split | ((with_reducible apply within_mk); with_reducible exact rfl))

theorem within_beginClear {M : Nat} {s0 s : State} (i : Nat) (hw : Sub 0x10000000000000000000000000000000000080 M) (hk : Within M s0 s) :
   Within M s0 (State.beginClear s i) := by
  unfold State.beginClear
  repeat' (first | intro _ | with_reducible assumption | with_reducible exact rfl | exact sub_trans hw rfl | exact has_of hw rfl | with_reducible exact .inl rfl | exact .inr (has_of hw rfl) | exact .inl rfl | dsimp only | with_reducible apply within_setCoreState | with_reducible apply within_modCore | with_reducible apply within_ite | with_reducible apply within_ite2 | with_reducible apply within_foldl | split | ((with_reducible apply within_mk); with_reducible exact rfl))

theorem within_configStage {M : Nat} {s0 s : State} (g : Nat) (w : Nat) (d : StageDecl) (hw : Sub 0x20000000000000000000000000000000000000000000000 M) (hk : Within M s0 s) :
   Within M s0 (State.configStage s g w d) := by
  unfold State.configStage
  repeat' (first | intro _ | with_reducible assumption | with_reducible exact rfl | exact sub_trans hw rfl | exact has_of hw rfl | with_reducible exact .inl rfl | exact .inr (has_of hw rfl) | exact .inl rfl | dsimp only | with_reducible apply within_setFld | with_reducible apply within_ite | with_reducible apply within_ite2 | with_reducible apply within_foldl | split | ((with_reducible apply within_mk); with_reducible exact rfl))

theorem within_configBarrier {M : Nat} {s0 s : State} (g : Nat) (d : StageDecl) (hw : Sub 0x2000 M) (hk : Within M s0 s) :
   Within M s0 (State.configBarrier s g d) := by
  unfold State.configBarrier
  repeat' (first | intro _ | with_reducible assumption | with_reducible exact rfl | exact sub_trans hw rfl | exact has_of hw rfl | with_reducible exact .inl rfl | exact .inr (has_of hw rfl) | exact .inl rfl | dsimp only | with_reducible apply within_modGroup | with_reducible apply within_ite | with_reducible apply within_ite2 | with_reducible apply within_foldl | split | ((with_reducible apply within_mk); with_reducible exact rfl))

theorem within_configCounters {M : Nat} {s0 s : State} (g : Nat) (hw : Sub 0x20000000000000000000000000000000000000000002000 M) (hk : Within M s0 s) :
   Within M s0 (State.configCounters s g) := by
  unfold State.configCounters
  repeat' (first | intro _ | with_reducible assumption | with_reducible exact rfl | exact sub_trans hw rfl | exact has_of hw rfl | with_reducible exact .inl rfl | exact .inr (has_of hw rfl) | exact .inl rfl | dsimp only | with_reducible apply within_configStage | with_reducible apply within_configBarrier | with_reducible apply within_ite | with_reducible apply within_ite2 | with_reducible apply within_foldl | split | ((with_reducible apply within_mk); with_reducible exact rfl))

theorem within_groupRestored {M : Nat} {s0 s : State} (g : Nat) (hw : Sub 0x24640000000000000010400020000000000000000000000000000000000000000247000 M) (hk : Within M s0 s) :
   Within M s0 (State.groupRestored s g) := by
  unfold State.groupRestored
  repeat' (first | intro _ | with_reducible assumption | with_reducible exact rfl | exact sub_trans hw rfl | exact has_of hw rfl | with_reducible exact .inl rfl | exact .inr (has_of hw rfl) | exact .inl rfl | dsimp only | with_reducible apply within_configCounters | with_reducible apply within_modGroup | with_reducible apply within_reply | with_reducible apply within_ite | with_reducible apply within_ite2 | with_reducible apply within_foldl | split | ((with_reducible apply within_mk); with_reducible exact rfl))

theorem within_resumeShare {M : Nat} {s0 s : State} (i : Nat) (hw : Sub 0x246400000000000000000000000002200100020000000000000000000000000002400c0 M) (hk : Within M s0 s) :
   Within M s0 (State.resumeShare s i) := by
  unfold State.resumeShare
  repeat' (first | intro _ | with_reducible assumption | with_reducible exact rfl | exact sub_trans hw rfl | exact has_of hw rfl | with_reducible exact .inl rfl | exact .inr (has_of hw rfl) | exact .inl rfl | dsimp only | with_reducible apply within_modCore | with_reducible apply within_startShare | with_reducible apply within_ite | with_reducible apply within_ite2 | with_reducible apply within_foldl | split | ((with_reducible apply within_mk); with_reducible exact rfl))

theorem within_backIdle {M : Nat} {s0 s : State} (i : Nat) (hw : Sub 0x24640000000000000010400020ffeff7f700020000000000000000000000000002471e0 M) (hk : Within M s0 s) :
   Within M s0 (State.backIdle s i) := by
  unfold State.backIdle
  repeat' (first | intro _ | with_reducible assumption | with_reducible exact rfl | exact sub_trans hw rfl | exact has_of hw rfl | with_reducible exact .inl rfl | exact .inr (has_of hw rfl) | exact .inl rfl | dsimp only | with_reducible apply within_clearCore | with_reducible apply within_resumeShare | with_reducible apply within_modCore | with_reducible apply within_reply | with_reducible apply within_groupRestored | with_reducible apply within_ite | with_reducible apply within_ite2 | with_reducible apply within_foldl | split | ((with_reducible apply within_mk); with_reducible exact rfl))

theorem within_coreRestored {M : Nat} {s0 s : State} (i : Nat) (hw : Sub 0x24640000000000000010400020ffeff7f700020000000000000000000000000002471e0 M) (hk : Within M s0 s) :
   Within M s0 (State.coreRestored s i) := by
  unfold State.coreRestored
  repeat' (first | intro _ | with_reducible assumption | with_reducible exact rfl | exact sub_trans hw rfl | exact has_of hw rfl | with_reducible exact .inl rfl | exact .inr (has_of hw rfl) | exact .inl rfl | dsimp only | with_reducible apply within_enterReset | with_reducible apply within_beginClear | with_reducible apply within_backIdle | with_reducible apply within_ite | with_reducible apply within_ite2 | with_reducible apply within_foldl | split | ((with_reducible apply within_mk); with_reducible exact rfl))

theorem within_dmaInstruction {M : Nat} {s0 s : State} (i : Nat) (c : Nat) (o : DmaOp) (hw : Sub 0x24640000000000000010400080002c200340904000000000080000000000000002475f8 M) (hk : Within M s0 s) :
   Within M s0 (State.dmaInstruction s i c o) := by
  unfold State.dmaInstruction
  repeat' (first | intro _ | with_reducible assumption | with_reducible exact rfl | exact sub_trans hw rfl | exact has_of hw rfl | with_reducible exact .inl rfl | exact .inr (has_of hw rfl) | exact .inl rfl | dsimp only | with_reducible apply within_issueTo | with_reducible apply within_map | with_reducible apply within_coreFault | with_reducible apply within_modCore | with_reducible apply within_ite | with_reducible apply within_ite2 | with_reducible apply within_foldl | split | ((with_reducible apply within_mk); with_reducible exact rfl))

theorem within_setDmaQ {M : Nat} {s0 s : State} (i : Nat) (q : Nat) (l : List Xfer) (hw : Sub 0x400000000000000000000000000000000000000080 M) (hk : Within M s0 s) :
   Within M s0 (State.setDmaQ s i q l) := by
  unfold State.setDmaQ
  repeat' (first | intro _ | with_reducible assumption | with_reducible exact rfl | exact sub_trans hw rfl | exact has_of hw rfl | with_reducible exact .inl rfl | exact .inr (has_of hw rfl) | exact .inl rfl | dsimp only | with_reducible apply within_modCore | with_reducible apply within_setFld | with_reducible apply within_ite | with_reducible apply within_ite2 | with_reducible apply within_foldl | split | ((with_reducible apply within_mk); with_reducible exact rfl))

theorem within_modXfer {M : Nat} {s0 s : State} (i : Nat) (q : Nat) (k : Nat) (f : Xfer → Xfer) (hw : Sub 0x400000000000000000000000000000000000000080 M) (hk : Within M s0 s) :
   Within M s0 (State.modXfer s i q k f) := by
  unfold State.modXfer
  repeat' (first | intro _ | with_reducible assumption | with_reducible exact rfl | exact sub_trans hw rfl | exact has_of hw rfl | with_reducible exact .inl rfl | exact .inr (has_of hw rfl) | exact .inl rfl | dsimp only | with_reducible apply within_setDmaQ | with_reducible apply within_ite | with_reducible apply within_ite2 | with_reducible apply within_foldl | split | ((with_reducible apply within_mk); with_reducible exact rfl))

theorem within_markFor {M : Nat} {s0 s : State} (x : Xfer) (k : Nat) (hw : Sub 0x40 M) (hk : Within M s0 s) :
   Within M s0 (State.markFor s x k) := by
  unfold State.markFor
  repeat' (first | intro _ | with_reducible assumption | with_reducible exact rfl | exact sub_trans hw rfl | exact has_of hw rfl | with_reducible exact .inl rfl | exact .inr (has_of hw rfl) | exact .inl rfl | dsimp only | with_reducible apply within_setMark | with_reducible apply within_ite | with_reducible apply within_ite2 | with_reducible apply within_foldl | split | ((with_reducible apply within_mk); with_reducible exact rfl))

theorem within_poisonSix {M : Nat} {s0 s : State} (i : Nat) (q : Nat) (hw : Sub 0x24640000000000000000400000000000004090000000000000000000000000000240400 M) (hk : Within M s0 s) :
   Within M s0 (State.poisonSix s i q) := by
  unfold State.poisonSix
  repeat' (first | intro _ | with_reducible assumption | with_reducible exact rfl | exact sub_trans hw rfl | exact has_of hw rfl | with_reducible exact .inl rfl | exact .inr (has_of hw rfl) | exact .inl rfl | dsimp only | with_reducible apply within_pauseSix | with_reducible apply within_ite | with_reducible apply within_ite2 | with_reducible apply within_foldl | split | ((with_reducible apply within_mk); with_reducible exact rfl))

theorem within_regulatorWrite {M : Nat} {s0 s : State} (i : Nat) (v : Nat) (hw : Sub 0x1000000000000000000000000000000000000000080 M) (hk : Within M s0 s) :
   Within M s0 (State.regulatorWrite s i v) := by
  unfold State.regulatorWrite
  repeat' (first | intro _ | with_reducible assumption | with_reducible exact rfl | exact sub_trans hw rfl | exact has_of hw rfl | with_reducible exact .inl rfl | exact .inr (has_of hw rfl) | exact .inl rfl | dsimp only | with_reducible apply within_setFld | with_reducible apply within_modCore | with_reducible apply within_ite | with_reducible apply within_ite2 | with_reducible apply within_foldl | split | ((with_reducible apply within_mk); with_reducible exact rfl))

theorem within_countBytes {M : Nat} {s0 s : State} (i : Nat) (x : Xfer) (hw : Sub 0x40000 M) (hk : Within M s0 s) :
   Within M s0 (State.countBytes s i x) := by
  unfold State.countBytes
  repeat' (first | intro _ | with_reducible assumption | with_reducible exact rfl | exact sub_trans hw rfl | exact has_of hw rfl | with_reducible exact .inl rfl | exact .inr (has_of hw rfl) | exact .inl rfl | dsimp only | with_reducible apply within_obsAdd | with_reducible apply within_ite | with_reducible apply within_ite2 | with_reducible apply within_foldl | split | ((with_reducible apply within_mk); with_reducible exact rfl))

theorem within_dmaFault {M : Nat} {s0 s : State} (i : Nat) (q : Nat) (k : Nat) (f : Nat) (x : Xfer) (w : Nat × Nat × Nat) (hw : Sub 0x246400000040000000000000000fec00000000000000000000000000000000000240080 M) (hk : Within M s0 s) :
   Within M s0 (State.dmaFault s i q k f x w) := by
  unfold State.dmaFault
  repeat' (first | intro _ | with_reducible assumption | with_reducible exact rfl | exact sub_trans hw rfl | exact has_of hw rfl | with_reducible exact .inl rfl | exact .inr (has_of hw rfl) | exact .inl rfl | dsimp only | with_reducible apply within_setRegN | with_reducible apply within_setPair | with_reducible apply within_setFld | with_reducible apply within_bump | with_reducible apply within_modXfer | with_reducible apply within_ite | with_reducible apply within_ite2 | with_reducible apply within_foldl | split | ((with_reducible apply within_mk); with_reducible exact rfl))

theorem within_countStale {M : Nat} {s0 s : State} (i : Nat) (x : Xfer) (hw : Sub 0x24640000000000000000000400000000000000000000000000000000000000000240000 M) (hk : Within M s0 s) :
   Within M s0 (State.countStale s i x) := by
  unfold State.countStale
  repeat' (first | intro _ | with_reducible assumption | with_reducible exact rfl | exact sub_trans hw rfl | exact has_of hw rfl | with_reducible exact .inl rfl | exact .inr (has_of hw rfl) | exact .inl rfl | dsimp only | with_reducible apply within_bump | with_reducible apply within_ite | with_reducible apply within_ite2 | with_reducible apply within_foldl | split | ((with_reducible apply within_mk); with_reducible exact rfl))

theorem within_storeCrc {M : Nat} {s0 s : State} (i : Nat) (q : Nat) (x : Xfer) (hw : Sub 0x24640000000000000000000400000000000000000000000000000000000000000340280 M) (hk : Within M s0 s) :
   Within M s0 (State.storeCrc s i q x) := by
  unfold State.storeCrc
  repeat' (first | intro _ | with_reducible assumption | with_reducible exact rfl | exact sub_trans hw rfl | exact has_of hw rfl | with_reducible exact .inl rfl | exact .inr (has_of hw rfl) | exact .inl rfl | dsimp only | with_reducible apply within_modCore | with_reducible apply within_countStale | with_reducible apply within_memW | with_reducible apply within_ite | with_reducible apply within_ite2 | with_reducible apply within_foldl | split | ((with_reducible apply within_mk); with_reducible exact rfl))

theorem within_completeXfer {M : Nat} {s0 s : State} (i : Nat) (q : Nat) (hw : Sub 0x24640000000000000000400400e00c00004090000000000000000000000000000340680 M) (hk : Within M s0 s) :
   Within M s0 (State.completeXfer s i q) := by
  unfold State.completeXfer
  repeat' (first | intro _ | with_reducible assumption | with_reducible exact rfl | exact sub_trans hw rfl | exact has_of hw rfl | with_reducible exact .inl rfl | exact .inr (has_of hw rfl) | exact .inl rfl | dsimp only | with_reducible apply within_storeCrc | with_reducible apply within_setDmaQ | with_reducible apply within_setFld | with_reducible apply within_setRegN | with_reducible apply within_bump | with_reducible apply within_poisonSix | with_reducible apply within_ite | with_reducible apply within_ite2 | with_reducible apply within_foldl | split | ((with_reducible apply within_mk); with_reducible exact rfl))

theorem within_settleQueue {M : Nat} {s0 s : State} (i : Nat) (q : Nat) (y : Nat) (hw : Sub 0x24640000004000000000400400efec00004090000000000000000000000000000340680 M) (hk : Within M s0 s) :
   Within M s0 (State.settleQueue s i q y) := by
  induction y generalizing s with
  | zero => exact hk
  | succ k ih =>
  unfold State.settleQueue
  repeat' (first | intro _ | with_reducible assumption | with_reducible exact rfl | exact sub_trans hw rfl | exact has_of hw rfl | with_reducible exact .inl rfl | exact .inr (has_of hw rfl) | exact .inl rfl | dsimp only | with_reducible apply ih | with_reducible apply within_dmaFault | with_reducible apply within_completeXfer | with_reducible apply within_ite | with_reducible apply within_ite2 | with_reducible apply within_foldl | split | ((with_reducible apply within_mk); with_reducible exact rfl))

theorem within_settle {M : Nat} {s0 s : State} (i : Nat) (q : Nat) (hw : Sub 0x24640000004000000000400400efec200140900000000000000000000000000003427a0 M) (hk : Within M s0 s) :
   Within M s0 (State.settle s i q) := by
  unfold State.settle
  repeat' (first | intro _ | with_reducible assumption | with_reducible exact rfl | exact sub_trans hw rfl | exact has_of hw rfl | with_reducible exact .inl rfl | exact .inr (has_of hw rfl) | exact .inl rfl | dsimp only | with_reducible apply within_settleQueue | with_reducible apply within_settleArrivals | with_reducible apply within_wakeOwn | with_reducible apply within_wakeRows | with_reducible apply within_ite | with_reducible apply within_ite2 | with_reducible apply within_foldl | split | ((with_reducible apply within_mk); with_reducible exact rfl))

theorem within_transferPlace {M : Nat} {s0 s : State} (i : Nat) (hw : Sub 0x24640000004000000000400400efec200140900000000000000000000000000003427a0 M) (hk : Within M s0 s) :
   Within M s0 (State.transferPlace s i) := by
  unfold State.transferPlace
  repeat' (first | intro _ | with_reducible assumption | with_reducible exact rfl | exact sub_trans hw rfl | exact has_of hw rfl | with_reducible exact .inl rfl | exact .inr (has_of hw rfl) | exact .inl rfl | dsimp only | with_reducible apply within_modCore | with_reducible apply within_setDmaQ | with_reducible apply within_settle | with_reducible apply within_wakeFull | with_reducible apply within_ite | with_reducible apply within_ite2 | with_reducible apply within_foldl | split | ((with_reducible apply within_mk); with_reducible exact rfl))

theorem within_issuePiece {M : Nat} {s0 s : State} (i : Nat) (q : Nat) (k : Nat) (x : Xfer) (hw : Sub 0xc00000000000000000000000000000000000040280 M) (hk : Within M s0 s) :
   Within M s0 (State.issuePiece s i q k x) := by
  unfold State.issuePiece
  repeat' (first | intro _ | with_reducible assumption | with_reducible exact rfl | exact sub_trans hw rfl | exact has_of hw rfl | with_reducible exact .inl rfl | exact .inr (has_of hw rfl) | exact .inl rfl | dsimp only | with_reducible apply within_modXfer | with_reducible apply within_modCore | with_reducible apply within_holdRun | with_reducible apply within_setRegN | with_reducible apply within_ite | with_reducible apply within_ite2 | with_reducible apply within_foldl | split | ((with_reducible apply within_mk); with_reducible exact rfl))

theorem within_returnSlots {M : Nat} {s0 s : State} (i : Nat) (l : List (Nat × Nat)) (hw : Sub 0x800000000000000000000000000000000000000080 M) (hk : Within M s0 s) :
   Within M s0 (State.returnSlots s i l) := by
  unfold State.returnSlots
  repeat' (first | intro _ | with_reducible assumption | with_reducible exact rfl | exact sub_trans hw rfl | exact has_of hw rfl | with_reducible exact .inl rfl | exact .inr (has_of hw rfl) | exact .inl rfl | dsimp only | with_reducible apply within_setRegN | with_reducible apply within_modCore | with_reducible apply within_ite | with_reducible apply within_ite2 | with_reducible apply within_foldl | split | ((with_reducible apply within_mk); with_reducible exact rfl))

theorem within_pieceIssue {M : Nat} {s0 s : State} (i : Nat) (write : Bool) (returned : List (Nat × Nat)) (hw : Sub 0x246400000040000000000000000fec00000000000000000000000000000000000240280 M) (hk : Within M s0 s) :
   Within M s0 (State.pieceIssue s i write returned) := by
  unfold State.pieceIssue
  repeat' (first | intro _ | with_reducible assumption | with_reducible exact rfl | exact sub_trans hw rfl | exact has_of hw rfl | with_reducible exact .inl rfl | exact .inr (has_of hw rfl) | exact .inl rfl | dsimp only | with_reducible apply within_returnSlots | with_reducible apply within_dmaFault | with_reducible apply within_issuePiece | with_reducible apply within_ite | with_reducible apply within_ite2 | with_reducible apply within_foldl | split | ((with_reducible apply within_mk); with_reducible exact rfl))

theorem within_setShape {M : Nat} {s0 s : State} (i : Nat) (k : Nat) (v : Nat) (hw : Sub 0x80000000000000000000000000000000000000080 M) (hk : Within M s0 s) :
   Within M s0 (State.setShape s i k v) := by
  unfold State.setShape
  repeat' (first | intro _ | with_reducible assumption | with_reducible exact rfl | exact sub_trans hw rfl | exact has_of hw rfl | with_reducible exact .inl rfl | exact .inr (has_of hw rfl) | exact .inl rfl | dsimp only | with_reducible apply within_modCore | with_reducible apply within_setRegN | with_reducible apply within_ite | with_reducible apply within_ite2 | with_reducible apply within_foldl | split | ((with_reducible apply within_mk); with_reducible exact rfl))

theorem within_putRow {M : Nat} {s0 s : State} (i : Nat) (q : Nat) (x : Xfer) (r : Nat) (bs : List Byte) (hw : Sub 0x24640000000000000000400400000080000000000000000000000000000000000340280 M) (hk : Within M s0 s) :
   Within M s0 (State.putRow s i q x r bs) := by
  unfold State.putRow
  repeat' (first | intro _ | with_reducible assumption | with_reducible exact rfl | exact sub_trans hw rfl | exact has_of hw rfl | with_reducible exact .inl rfl | exact .inr (has_of hw rfl) | exact .inl rfl | dsimp only | with_reducible apply within_modCore | with_reducible apply within_countStale | with_reducible apply within_memW | with_reducible apply within_hostWrite | with_reducible apply within_barrierRead | with_reducible apply within_setShape | with_reducible apply within_emit | with_reducible apply within_ite | with_reducible apply within_ite2 | with_reducible apply within_foldl | split | ((with_reducible apply within_mk); with_reducible exact rfl))

theorem within_countRows {M : Nat} {s0 s : State} (i : Nat) (q : Nat) (before : Nat) (hw : Sub 0x200000000000000000000000000000000000000000 M) (hk : Within M s0 s) :
   Within M s0 (State.countRows s i q before) := by
  unfold State.countRows
  repeat' (first | intro _ | with_reducible assumption | with_reducible exact rfl | exact sub_trans hw rfl | exact has_of hw rfl | with_reducible exact .inl rfl | exact .inr (has_of hw rfl) | exact .inl rfl | dsimp only | with_reducible apply within_setRegN | with_reducible apply within_ite | with_reducible apply within_ite2 | with_reducible apply within_foldl | split | ((with_reducible apply within_mk); with_reducible exact rfl))

theorem within_rowCounts {M : Nat} {s0 s : State} (i : Nat) (q : Nat) (k : Nat) (r : Nat) (bs : List Byte) (hw : Sub 0x24640000004000000000400400efee200140900000000000000000000000000003427a0 M) (hk : Within M s0 s) :
   Within M s0 (State.rowCounts s i q k r bs) := by
  unfold State.rowCounts
  repeat' (first | intro _ | with_reducible assumption | with_reducible exact rfl | exact sub_trans hw rfl | exact has_of hw rfl | with_reducible exact .inl rfl | exact .inr (has_of hw rfl) | exact .inl rfl | dsimp only | with_reducible apply within_modXfer | with_reducible apply within_setRegN | with_reducible apply within_countRows | with_reducible apply within_settle | with_reducible apply within_ite | with_reducible apply within_ite2 | with_reducible apply within_foldl | split | ((with_reducible apply within_mk); with_reducible exact rfl))

theorem within_rowSlots {M : Nat} {s0 s : State} (i : Nat) (q : Nat) (x : Xfer) (r : Nat) (hw : Sub 0x800000000000000000000000000000000000000080 M) (hk : Within M s0 s) :
   Within M s0 (State.rowSlots s i q x r) := by
  unfold State.rowSlots
  repeat' (first | intro _ | with_reducible assumption | with_reducible exact rfl | exact sub_trans hw rfl | exact has_of hw rfl | with_reducible exact .inl rfl | exact .inr (has_of hw rfl) | exact .inl rfl | dsimp only | with_reducible apply within_modCore | with_reducible apply within_setRegN | with_reducible apply within_ite | with_reducible apply within_ite2 | with_reducible apply within_foldl | split | ((with_reducible apply within_mk); with_reducible exact rfl))

theorem within_lateRow {M : Nat} {s0 s : State} (i : Nat) (q : Nat) (j : Nat) (r : Nat) (host : List Byte) (hw : Sub 0x246400000000000000004004000008800000000000000000000000000000000003402c0 M) (hk : Within M s0 s) :
   Within M s0 (State.lateRow s i q j r host) := by
  unfold State.lateRow
  repeat' (first | intro _ | with_reducible assumption | with_reducible exact rfl | exact sub_trans hw rfl | exact has_of hw rfl | with_reducible exact .inl rfl | exact .inr (has_of hw rfl) | exact .inl rfl | dsimp only | with_reducible apply within_markFor | with_reducible apply within_modCore | with_reducible apply within_rowSlots | with_reducible apply within_aerError | with_reducible apply within_countBytes | with_reducible apply within_putRow | with_reducible apply within_ite | with_reducible apply within_ite2 | with_reducible apply within_foldl | split | ((with_reducible apply within_mk); with_reducible exact rfl))

theorem within_barrierReturned {M : Nat} {s0 s : State} (i : Nat) (q : Nat) (k : Nat) (r : Nat) (hw : Sub 0x24640000004000000000400400efee200140900000000000000000000000000003427a0 M) (hk : Within M s0 s) :
   Within M s0 (State.barrierReturned s i q k r) := by
  unfold State.barrierReturned
  repeat' (first | intro _ | with_reducible assumption | with_reducible exact rfl | exact sub_trans hw rfl | exact has_of hw rfl | with_reducible exact .inl rfl | exact .inr (has_of hw rfl) | exact .inl rfl | dsimp only | with_reducible apply within_map | with_reducible apply within_modXfer | with_reducible apply within_setRegN | with_reducible apply within_rowCounts | with_reducible apply within_ite | with_reducible apply within_ite2 | with_reducible apply within_foldl | split | ((with_reducible apply within_mk); with_reducible exact rfl))

theorem within_rowDelivered {M : Nat} {s0 s : State} (i : Nat) (q : Nat) (k : Nat) (r : Nat) (host : List Byte) (hw : Sub 0x24640000004000000000400400efeea00140900000000000000000000000000003427e0 M) (hk : Within M s0 s) :
   Within M s0 (State.rowDelivered s i q k r host) := by
  unfold State.rowDelivered
  repeat' (first | intro _ | with_reducible assumption | with_reducible exact rfl | exact sub_trans hw rfl | exact has_of hw rfl | with_reducible exact .inl rfl | exact .inr (has_of hw rfl) | exact .inl rfl | dsimp only | with_reducible apply within_lateRow | with_reducible apply within_barrierReturned | with_reducible apply within_dmaFault | with_reducible apply within_aerError | with_reducible apply within_markFor | with_reducible apply within_modXfer | with_reducible apply within_rowSlots | with_reducible apply within_countBytes | with_reducible apply within_rowCounts | with_reducible apply within_putRow | with_reducible apply within_setRegN | with_reducible apply within_ite | with_reducible apply within_ite2 | with_reducible apply within_foldl | split | ((with_reducible apply within_mk); with_reducible exact rfl))

theorem within_clearRecord {M : Nat} {s0 s : State} (i : Nat) (q : Nat) (hw : Sub 0x2400000000000000000000000000000000000000000 M) (hk : Within M s0 s) :
   Within M s0 (State.clearRecord s i q) := by
  unfold State.clearRecord
  repeat' (first | intro _ | with_reducible assumption | with_reducible exact rfl | exact sub_trans hw rfl | exact has_of hw rfl | with_reducible exact .inl rfl | exact .inr (has_of hw rfl) | exact .inl rfl | dsimp only | with_reducible apply within_setFld | with_reducible apply within_ite | with_reducible apply within_ite2 | with_reducible apply within_foldl | split | ((with_reducible apply within_mk); with_reducible exact rfl))

theorem within_resumeXfer {M : Nat} {s0 s : State} (i : Nat) (q : Nat) (k : Nat) (hw : Sub 0x24640000000000000000000000102400000000000000000000000000000000000240080 M) (hk : Within M s0 s) :
   Within M s0 (State.resumeXfer s i q k) := by
  unfold State.resumeXfer
  repeat' (first | intro _ | with_reducible assumption | with_reducible exact rfl | exact sub_trans hw rfl | exact has_of hw rfl | with_reducible exact .inl rfl | exact .inr (has_of hw rfl) | exact .inl rfl | dsimp only | with_reducible apply within_modXfer | with_reducible apply within_clearRecord | with_reducible apply within_bump | with_reducible apply within_ite | with_reducible apply within_ite2 | with_reducible apply within_foldl | split | ((with_reducible apply within_mk); with_reducible exact rfl))

theorem within_poisonXfer {M : Nat} {s0 s : State} (i : Nat) (q : Nat) (k : Nat) (x : Xfer) (cause : Nat) (hw : Sub 0x24640000004000000000400400efee200140900000000000000000000000000003427e0 M) (hk : Within M s0 s) :
   Within M s0 (State.poisonXfer s i q k x cause) := by
  unfold State.poisonXfer
  repeat' (first | intro _ | with_reducible assumption | with_reducible exact rfl | exact sub_trans hw rfl | exact has_of hw rfl | with_reducible exact .inl rfl | exact .inr (has_of hw rfl) | exact .inl rfl | dsimp only | with_reducible apply within_modCore | with_reducible apply within_clearRecord | with_reducible apply within_markFor | with_reducible apply within_logEvent | with_reducible apply within_modXfer | with_reducible apply within_countRows | with_reducible apply within_settle | with_reducible apply within_ite | with_reducible apply within_ite2 | with_reducible apply within_foldl | split | ((with_reducible apply within_mk); with_reducible exact rfl))

theorem within_faultWalk {M : Nat} {s0 s : State} (i : Nat) (q : Nat) (hw : Sub 0x24640000004000000100400400ffee200140900000000000000000000000000003427e0 M) (hk : Within M s0 s) :
   Within M s0 (State.faultWalk s i q) := by
  unfold State.faultWalk
  repeat' (first | intro _ | with_reducible assumption | with_reducible exact rfl | exact sub_trans hw rfl | exact has_of hw rfl | with_reducible exact .inl rfl | exact .inr (has_of hw rfl) | exact .inl rfl | dsimp only | with_reducible apply within_resumeXfer | with_reducible apply within_event | with_reducible apply within_modXfer | with_reducible apply within_poisonXfer | with_reducible apply within_ite | with_reducible apply within_ite2 | with_reducible apply within_foldl | split | ((with_reducible apply within_mk); with_reducible exact rfl))

theorem within_faultExpiry {M : Nat} {s0 s : State} (i : Nat) (q : Nat) (hw : Sub 0x24640000004000000000400400efee200140900000000000000000000000000003427e0 M) (hk : Within M s0 s) :
   Within M s0 (State.faultExpiry s i q) := by
  unfold State.faultExpiry
  repeat' (first | intro _ | with_reducible assumption | with_reducible exact rfl | exact sub_trans hw rfl | exact has_of hw rfl | with_reducible exact .inl rfl | exact .inr (has_of hw rfl) | exact .inl rfl | dsimp only | with_reducible apply within_poisonXfer | with_reducible apply within_ite | with_reducible apply within_ite2 | with_reducible apply within_foldl | split | ((with_reducible apply within_mk); with_reducible exact rfl))

theorem within_hostReadError {M : Nat} {s0 s : State} (i : Nat) (q : Nat) (k : Nat) (r : Nat) (piece : Nat) (hw : Sub 0x246400000040000000000000000fec00000000000000000000000000000000000240080 M) (hk : Within M s0 s) :
   Within M s0 (State.hostReadError s i q k r piece) := by
  unfold State.hostReadError
  repeat' (first | intro _ | with_reducible assumption | with_reducible exact rfl | exact sub_trans hw rfl | exact has_of hw rfl | with_reducible exact .inl rfl | exact .inr (has_of hw rfl) | exact .inl rfl | dsimp only | with_reducible apply within_dmaFault | with_reducible apply within_aerError | with_reducible apply within_ite | with_reducible apply within_ite2 | with_reducible apply within_foldl | split | ((with_reducible apply within_mk); with_reducible exact rfl))

theorem within_stageHead {M : Nat} {s0 s : State} (n : Nat) (h : Nat) (slot : List Byte) (hw : Sub 0x420 M) (hk : Within M s0 s) :
   Within M s0 (State.stageHead s n h slot) := by
  unfold State.stageHead
  repeat' (first | intro _ | with_reducible assumption | with_reducible exact rfl | exact sub_trans hw rfl | exact has_of hw rfl | with_reducible exact .inl rfl | exact .inr (has_of hw rfl) | exact .inl rfl | dsimp only | with_reducible apply within_modAdapt | with_reducible apply within_modCam | with_reducible apply within_ite | with_reducible apply within_ite2 | with_reducible apply within_foldl | split | ((with_reducible apply within_mk); with_reducible exact rfl))

theorem within_adaptBegin {M : Nat} {s0 s : State} (n : Nat) (d : HeadDecl) (area : Nat) (hw : Sub 0x24640000000000000000400000000000004090000000000000000000000000000240400 M) (hk : Within M s0 s) :
   Within M s0 (State.adaptBegin s n d area) := by
  unfold State.adaptBegin
  repeat' (first | intro _ | with_reducible assumption | with_reducible exact rfl | exact sub_trans hw rfl | exact has_of hw rfl | with_reducible exact .inl rfl | exact .inr (has_of hw rfl) | exact .inl rfl | dsimp only | with_reducible apply within_modAdapt | with_reducible apply within_map | with_reducible apply within_setFld | with_reducible apply within_pauseAdapt | with_reducible apply within_ite | with_reducible apply within_ite2 | with_reducible apply within_foldl | split | ((with_reducible apply within_mk); with_reducible exact rfl))

theorem within_adaptStart {M : Nat} {s0 s : State} (n : Nat) (r : CmdRef) (hw : Sub 0x24640000000000000010400000000000004090000000000000000000000000000645400 M) (hk : Within M s0 s) :
   Within M s0 (State.adaptStart s n r) := by
  unfold State.adaptStart
  repeat' (first | intro _ | with_reducible assumption | with_reducible exact rfl | exact sub_trans hw rfl | exact has_of hw rfl | with_reducible exact .inl rfl | exact .inr (has_of hw rfl) | exact .inl rfl | dsimp only | with_reducible apply within_reply | with_reducible apply within_takeFree | with_reducible apply within_adaptBegin | with_reducible apply within_ite | with_reducible apply within_ite2 | with_reducible apply within_foldl | split | ((with_reducible apply within_mk); with_reducible exact rfl))

theorem within_adaptEnd {M : Nat} {s0 s : State} (n : Nat) (hw : Sub 0x10000000000000000000000000000000c00 M) (hk : Within M s0 s) :
   Within M s0 (State.adaptEnd s n) := by
  unfold State.adaptEnd
  repeat' (first | intro _ | with_reducible assumption | with_reducible exact rfl | exact sub_trans hw rfl | exact has_of hw rfl | with_reducible exact .inl rfl | exact .inr (has_of hw rfl) | exact .inl rfl | dsimp only | with_reducible apply within_clearFor | with_reducible apply within_dropPairs | with_reducible apply within_modAdapt | with_reducible apply within_setFld | with_reducible apply within_ite | with_reducible apply within_ite2 | with_reducible apply within_foldl | split | ((with_reducible apply within_mk); with_reducible exact rfl))

theorem within_adaptStop {M : Nat} {s0 s : State} (n : Nat) (r : CmdRef) (hw : Sub 0x24640000000000000010400000000000000010000000000000000000000000000245c00 M) (hk : Within M s0 s) :
   Within M s0 (State.adaptStop s n r) := by
  unfold State.adaptStop
  repeat' (first | intro _ | with_reducible assumption | with_reducible exact rfl | exact sub_trans hw rfl | exact has_of hw rfl | with_reducible exact .inl rfl | exact .inr (has_of hw rfl) | exact .inl rfl | dsimp only | with_reducible apply within_reply | with_reducible apply within_adaptEnd | with_reducible apply within_ite | with_reducible apply within_ite2 | with_reducible apply within_foldl | split | ((with_reducible apply within_mk); with_reducible exact rfl))

theorem within_adaptPause {M : Nat} {s0 s : State} (n : Nat) (r : CmdRef) (hw : Sub 0x24640000000000000010400000000000004090000000000000000000000000000245400 M) (hk : Within M s0 s) :
   Within M s0 (State.adaptPause s n r) := by
  unfold State.adaptPause
  repeat' (first | intro _ | with_reducible assumption | with_reducible exact rfl | exact sub_trans hw rfl | exact has_of hw rfl | with_reducible exact .inl rfl | exact .inr (has_of hw rfl) | exact .inl rfl | dsimp only | with_reducible apply within_reply | with_reducible apply within_pauseAdapt | with_reducible apply within_ite | with_reducible apply within_ite2 | with_reducible apply within_foldl | split | ((with_reducible apply within_mk); with_reducible exact rfl))

theorem within_adaptResume {M : Nat} {s0 s : State} (n : Nat) (r : CmdRef) (hw : Sub 0x24640000000000000010400000000000000090000000000000000000000000000245400 M) (hk : Within M s0 s) :
   Within M s0 (State.adaptResume s n r) := by
  unfold State.adaptResume
  repeat' (first | intro _ | with_reducible assumption | with_reducible exact rfl | exact sub_trans hw rfl | exact has_of hw rfl | with_reducible exact .inl rfl | exact .inr (has_of hw rfl) | exact .inl rfl | dsimp only | with_reducible apply within_unpauseAdapt | with_reducible apply within_reply | with_reducible apply within_ite | with_reducible apply within_ite2 | with_reducible apply within_foldl | split | ((with_reducible apply within_mk); with_reducible exact rfl))

theorem within_adaptRevert {M : Nat} {s0 s : State} (n : Nat) (r : CmdRef) (hw : Sub 0x24640000000000000010400000000000000080000000000000000000000000000245420 M) (hk : Within M s0 s) :
   Within M s0 (State.adaptRevert s n r) := by
  unfold State.adaptRevert
  repeat' (first | intro _ | with_reducible assumption | with_reducible exact rfl | exact sub_trans hw rfl | exact has_of hw rfl | with_reducible exact .inl rfl | exact .inr (has_of hw rfl) | exact .inl rfl | dsimp only | with_reducible apply within_modCam | with_reducible apply within_modAdapt | with_reducible apply within_audit | with_reducible apply within_reply | with_reducible apply within_ite | with_reducible apply within_ite2 | with_reducible apply within_foldl | split | ((with_reducible apply within_mk); with_reducible exact rfl))

theorem within_adaptRefs {M : Nat} {s0 s : State} (n : Nat) (refs : List (Nat × Nat × Nat)) (r : CmdRef) (hw : Sub 0x24640000000000000010400000000000000000000000000000000000000000000245400 M) (hk : Within M s0 s) :
   Within M s0 (State.adaptRefs s n refs r) := by
  unfold State.adaptRefs
  repeat' (first | intro _ | with_reducible assumption | with_reducible exact rfl | exact sub_trans hw rfl | exact has_of hw rfl | with_reducible exact .inl rfl | exact .inr (has_of hw rfl) | exact .inl rfl | dsimp only | with_reducible apply within_modAdapt | with_reducible apply within_reply | with_reducible apply within_ite | with_reducible apply within_ite2 | with_reducible apply within_foldl | split | ((with_reducible apply within_mk); with_reducible exact rfl))

theorem within_adaptExport {M : Nat} {s0 s : State} (n : Nat) (at_ : Nat) (r : CmdRef) (hw : Sub 0x24640000000000000010400000000000000000000000000000000000000000000245000 M) (hk : Within M s0 s) :
   Within M s0 (State.adaptExport s n at_ r) := by
  unfold State.adaptExport
  repeat' (first | intro _ | with_reducible assumption | with_reducible exact rfl | exact sub_trans hw rfl | exact has_of hw rfl | with_reducible exact .inl rfl | exact .inr (has_of hw rfl) | exact .inl rfl | dsimp only | with_reducible apply within_reply | with_reducible apply within_hostWrite | with_reducible apply within_ite | with_reducible apply within_ite2 | with_reducible apply within_foldl | split | ((with_reducible apply within_mk); with_reducible exact rfl))

theorem within_adaptImport {M : Nat} {s0 s : State} (n : Nat) (slot : List Byte) (r : CmdRef) (hw : Sub 0x24640000000000000010400000000000000080000000000000000000000000000245420 M) (hk : Within M s0 s) :
   Within M s0 (State.adaptImport s n slot r) := by
  unfold State.adaptImport
  repeat' (first | intro _ | with_reducible assumption | with_reducible exact rfl | exact sub_trans hw rfl | exact has_of hw rfl | with_reducible exact .inl rfl | exact .inr (has_of hw rfl) | exact .inl rfl | dsimp only | with_reducible apply within_reply | with_reducible apply within_stageHead | with_reducible apply within_audit | with_reducible apply within_ite | with_reducible apply within_ite2 | with_reducible apply within_foldl | split | ((with_reducible apply within_mk); with_reducible exact rfl))

theorem within_adaptAtStart {M : Nat} {s0 s : State} (n : Nat) (hw : Sub 0x24640000000000000000400000000000000090000000000000000000000000000240c20 M) (hk : Within M s0 s) :
   Within M s0 (State.adaptAtStart s n) := by
  unfold State.adaptAtStart
  repeat' (first | intro _ | with_reducible assumption | with_reducible exact rfl | exact sub_trans hw rfl | exact has_of hw rfl | with_reducible exact .inl rfl | exact .inr (has_of hw rfl) | exact .inl rfl | dsimp only | with_reducible apply within_adaptEnd | with_reducible apply within_modCam | with_reducible apply within_modAdapt | with_reducible apply within_audit | with_reducible apply within_ite | with_reducible apply within_ite2 | with_reducible apply within_foldl | split | ((with_reducible apply within_mk); with_reducible exact rfl))

theorem within_keepPair {M : Nat} {s0 s : State} (n : Nat) (p : PairS) (hw : Sub 0x24640000000000000000000000000000000800000000000000000000000000000240400 M) (hk : Within M s0 s) :
   Within M s0 (State.keepPair s n p) := by
  unfold State.keepPair
  repeat' (first | intro _ | with_reducible assumption | with_reducible exact rfl | exact sub_trans hw rfl | exact has_of hw rfl | with_reducible exact .inl rfl | exact .inr (has_of hw rfl) | exact .inl rfl | dsimp only | with_reducible apply within_modAdapt | with_reducible apply within_bump | with_reducible apply within_ite | with_reducible apply within_ite2 | with_reducible apply within_foldl | split | ((with_reducible apply within_mk); with_reducible exact rfl))

theorem within_trainingPair {M : Nat} {s0 s : State} (n : Nat) (q : Nat) (input : List Byte) (hw : Sub 0x24640000000000000000000000000000001800000000000000000000000000000240400 M) (hk : Within M s0 s) :
   Within M s0 (State.trainingPair s n q input) := by
  unfold State.trainingPair
  repeat' (first | intro _ | with_reducible assumption | with_reducible exact rfl | exact sub_trans hw rfl | exact has_of hw rfl | with_reducible exact .inl rfl | exact .inr (has_of hw rfl) | exact .inl rfl | dsimp only | with_reducible apply within_modAdapt | with_reducible apply within_keepPair | with_reducible apply within_bump | with_reducible apply within_ite | with_reducible apply within_ite2 | with_reducible apply within_foldl | split | ((with_reducible apply within_mk); with_reducible exact rfl))

theorem within_reversePipeline {M : Nat} {s0 s : State} (n : Nat) (q : Nat) (hw : Sub 0x480 M) (hk : Within M s0 s) :
   Within M s0 (State.reversePipeline s n q) := by
  unfold State.reversePipeline
  repeat' (first | intro _ | with_reducible assumption | with_reducible exact rfl | exact sub_trans hw rfl | exact has_of hw rfl | with_reducible exact .inl rfl | exact .inr (has_of hw rfl) | exact .inl rfl | dsimp only | with_reducible apply within_map | with_reducible apply within_modAdapt | with_reducible apply within_modCore | with_reducible apply within_ite | with_reducible apply within_ite2 | with_reducible apply within_foldl | split | ((with_reducible apply within_mk); with_reducible exact rfl))

theorem within_trainingStripe {M : Nat} {s0 s : State} (n : Nat) (w : Nat) (hw : Sub 0xc0000020010000000000000000000000000000000002080 M) (hk : Within M s0 s) :
   Within M s0 (State.trainingStripe s n w) := by
  unfold State.trainingStripe
  repeat' (first | intro _ | with_reducible assumption | with_reducible exact rfl | exact sub_trans hw rfl | exact has_of hw rfl | with_reducible exact .inl rfl | exact .inr (has_of hw rfl) | exact .inl rfl | dsimp only | with_reducible apply within_pushShare | with_reducible apply within_wakeCounter | with_reducible apply within_ite | with_reducible apply within_ite2 | with_reducible apply within_foldl | split | ((with_reducible apply within_mk); with_reducible exact rfl))

theorem within_trainingStep {M : Nat} {s0 s : State} (n : Nat) (hw : Sub 0x480 M) (hk : Within M s0 s) :
   Within M s0 (State.trainingStep s n) := by
  unfold State.trainingStep
  repeat' (first | intro _ | with_reducible assumption | with_reducible exact rfl | exact sub_trans hw rfl | exact has_of hw rfl | with_reducible exact .inl rfl | exact .inr (has_of hw rfl) | exact .inl rfl | dsimp only | with_reducible apply within_map | with_reducible apply within_modAdapt | with_reducible apply within_modCore | with_reducible apply within_ite | with_reducible apply within_ite2 | with_reducible apply within_foldl | split | ((with_reducible apply within_mk); with_reducible exact rfl))

theorem within_candidateEncode {M : Nat} {s0 s : State} (n : Nat) (hw : Sub 0x24640000000000000000400000000000004090000000000000000000000000000240400 M) (hk : Within M s0 s) :
   Within M s0 (State.candidateEncode s n) := by
  unfold State.candidateEncode
  repeat' (first | intro _ | with_reducible assumption | with_reducible exact rfl | exact sub_trans hw rfl | exact has_of hw rfl | with_reducible exact .inl rfl | exact .inr (has_of hw rfl) | exact .inl rfl | dsimp only | with_reducible apply within_modAdapt | with_reducible apply within_audit | with_reducible apply within_map | with_reducible apply within_pauseAdapt | with_reducible apply within_ite | with_reducible apply within_ite2 | with_reducible apply within_foldl | split | ((with_reducible apply within_mk); with_reducible exact rfl))

theorem within_gateDecision {M : Nat} {s0 s : State} (n : Nat) (hw : Sub 0x24640000000000000000400000000000002080000000000000000000000000000240400 M) (hk : Within M s0 s) :
   Within M s0 (State.gateDecision s n) := by
  unfold State.gateDecision
  repeat' (first | intro _ | with_reducible assumption | with_reducible exact rfl | exact sub_trans hw rfl | exact has_of hw rfl | with_reducible exact .inl rfl | exact .inr (has_of hw rfl) | exact .inl rfl | dsimp only | with_reducible apply within_map | with_reducible apply within_modAdapt | with_reducible apply within_bump | with_reducible apply within_audit | with_reducible apply within_ite | with_reducible apply within_ite2 | with_reducible apply within_foldl | split | ((with_reducible apply within_mk); with_reducible exact rfl))

theorem within_headSetStage {M : Nat} {s0 s : State} (n : Nat) (hw : Sub 0x24640000000000000000400000000000000080000000000000000000000000000240420 M) (hk : Within M s0 s) :
   Within M s0 (State.headSetStage s n) := by
  unfold State.headSetStage
  repeat' (first | intro _ | with_reducible assumption | with_reducible exact rfl | exact sub_trans hw rfl | exact has_of hw rfl | with_reducible exact .inl rfl | exact .inr (has_of hw rfl) | exact .inl rfl | dsimp only | with_reducible apply within_stageHead | with_reducible apply within_modAdapt | with_reducible apply within_audit | with_reducible apply within_ite | with_reducible apply within_ite2 | with_reducible apply within_foldl | split | ((with_reducible apply within_mk); with_reducible exact rfl))

theorem within_adaptWindow {M : Nat} {s0 s : State} (i : Nat) (hw : Sub 0x10000000000000000000000000000000000000080 M) (hk : Within M s0 s) :
   Within M s0 (State.adaptWindow s i) := by
  unfold State.adaptWindow
  repeat' (first | intro _ | with_reducible assumption | with_reducible exact rfl | exact sub_trans hw rfl | exact has_of hw rfl | with_reducible exact .inl rfl | exact .inr (has_of hw rfl) | exact .inl rfl | dsimp only | with_reducible apply within_setRegN | with_reducible apply within_modCore | with_reducible apply within_ite | with_reducible apply within_ite2 | with_reducible apply within_foldl | split | ((with_reducible apply within_mk); with_reducible exact rfl))

end Sys2Proof.Machine
end

