-- ==== Sys2Proof/Laws/WithinHost.lean ====
section
/-! SUPPORT. The parts that each operation of command packets, mailboxes, security and streams may touch. -/
set_option linter.all false
namespace Sys2Proof.Machine

theorem within_modQueue {M : Nat} {s0 s : State} (f : Nat) (q : Nat) (g : QueueS → QueueS) (hw : Sub 0x4000 M) (hk : Within M s0 s) :
   Within M s0 (State.modQueue s f q g) := by
  unfold State.modQueue
  repeat' (first | intro _ | with_reducible assumption | with_reducible exact rfl | exact sub_trans hw rfl | exact has_of hw rfl | with_reducible exact .inl rfl | exact .inr (has_of hw rfl) | exact .inl rfl | dsimp only | with_reducible apply within_setQueue | with_reducible apply within_ite | with_reducible apply within_ite2 | with_reducible apply within_foldl | split | ((with_reducible apply within_mk); with_reducible exact rfl))

theorem within_fetch {M : Nat} {s0 s : State} (f : Nat) (q : Nat) (bytes : List Byte) (hw : Sub 0x10000000000000000000000000000000000000000000000044000 M) (hk : Within M s0 s) :
   Within M s0 (State.fetch s f q bytes) := by
  unfold State.fetch
  repeat' (first | intro _ | with_reducible assumption | with_reducible exact rfl | exact sub_trans hw rfl | exact has_of hw rfl | with_reducible exact .inl rfl | exact .inr (has_of hw rfl) | exact .inl rfl | dsimp only | with_reducible apply within_modQueue | with_reducible apply within_obsAdd | with_reducible apply within_setFld | with_reducible apply within_setIdle | with_reducible apply within_ite | with_reducible apply within_ite2 | with_reducible apply within_foldl | split | ((with_reducible apply within_mk); with_reducible exact rfl))

theorem within_startCommand {M : Nat} {s0 s : State} (hw : Sub 0x2464000000000000001040000000000000000000000000000000000000000000024d000 M) (hk : Within M s0 s) :
   Within M s0 (State.startCommand s) := by
  unfold State.startCommand
  repeat' (first | intro _ | with_reducible assumption | with_reducible exact rfl | exact sub_trans hw rfl | exact has_of hw rfl | with_reducible exact .inl rfl | exact .inr (has_of hw rfl) | exact .inl rfl | dsimp only | with_reducible apply within_modQueue | with_reducible apply within_modFn | with_reducible apply within_reply | with_reducible apply within_ite | with_reducible apply within_ite2 | with_reducible apply within_foldl | split | ((with_reducible apply within_mk); with_reducible exact rfl))

theorem within_setTaken {M : Nat} {s0 s : State} (r : CmdRef) (b : Bool) (hw : Sub 0x4000 M) (hk : Within M s0 s) :
   Within M s0 (State.setTaken s r b) := by
  unfold State.setTaken
  repeat' (first | intro _ | with_reducible assumption | with_reducible exact rfl | exact sub_trans hw rfl | exact has_of hw rfl | with_reducible exact .inl rfl | exact .inr (has_of hw rfl) | exact .inl rfl | dsimp only | with_reducible apply within_modQueue | with_reducible apply within_map | with_reducible apply within_ite | with_reducible apply within_ite2 | with_reducible apply within_foldl | split | ((with_reducible apply within_mk); with_reducible exact rfl))

theorem within_onCmd {M : Nat} {s0 s : State} (r : CmdRef) (op : Nat) (body : Cmd → State → State) (hw : Sub 0x4000 M) (hk : Within M s0 s) (hbody : ∀ x0 t, Within M s0 t → Within M s0 (body x0 t)) :
   Within M s0 (State.onCmd s r op body) := by
  unfold State.onCmd
  repeat' (first | intro _ | with_reducible assumption | with_reducible exact rfl | exact sub_trans hw rfl | exact has_of hw rfl | with_reducible exact .inl rfl | exact .inr (has_of hw rfl) | exact .inl rfl | dsimp only | with_reducible apply within_setTaken | exact hbody _ ‹_›| apply hbody | with_reducible apply within_ite | with_reducible apply within_ite2 | with_reducible apply within_foldl | split | ((with_reducible apply within_mk); with_reducible exact rfl))

theorem within_readFailed {M : Nat} {s0 s : State} (r : CmdRef) (hw : Sub 0x24640000000000000010400000000000000000000000000000000000000000000245000 M) (hk : Within M s0 s) :
   Within M s0 (State.readFailed s r) := by
  unfold State.readFailed
  repeat' (first | intro _ | with_reducible assumption | with_reducible exact rfl | exact sub_trans hw rfl | exact has_of hw rfl | with_reducible exact .inl rfl | exact .inr (has_of hw rfl) | exact .inl rfl | dsimp only | with_reducible apply within_reply | with_reducible apply within_aerError | with_reducible apply within_ite | with_reducible apply within_ite2 | with_reducible apply within_foldl | split | ((with_reducible apply within_mk); with_reducible exact rfl))

theorem within_withRead {M : Nat} {s0 s : State} (r : CmdRef) (n : Nat) (body : State → State) (hw : Sub 0x24640000000000000010400000000000000000000000000000000000000000000245000 M) (hk : Within M s0 s) (hbody : ∀ t, Within M s0 t → Within M s0 (body t)) :
   Within M s0 (State.withRead s r n body) := by
  unfold State.withRead
  repeat' (first | intro _ | with_reducible assumption | with_reducible exact rfl | exact sub_trans hw rfl | exact has_of hw rfl | with_reducible exact .inl rfl | exact .inr (has_of hw rfl) | exact .inl rfl | dsimp only | with_reducible apply within_obsAdd | with_reducible apply within_readFailed | exact hbody _ ‹_›| apply hbody | with_reducible apply within_ite | with_reducible apply within_ite2 | with_reducible apply within_foldl | split | ((with_reducible apply within_mk); with_reducible exact rfl))

theorem within_cmdReadError {M : Nat} {s0 s : State} (r : CmdRef) (hw : Sub 0x24640000000000000010400000000000000000000000000000000000000000000245000 M) (hk : Within M s0 s) :
   Within M s0 (State.cmdReadError s r) := by
  unfold State.cmdReadError
  repeat' (first | intro _ | with_reducible assumption | with_reducible exact rfl | exact sub_trans hw rfl | exact has_of hw rfl | with_reducible exact .inl rfl | exact .inr (has_of hw rfl) | exact .inl rfl | dsimp only | with_reducible apply within_readFailed | with_reducible apply within_ite | with_reducible apply within_ite2 | with_reducible apply within_foldl | split | ((with_reducible apply within_mk); with_reducible exact rfl))

theorem within_cqConfig {M : Nat} {s0 s : State} (f : Nat) (q : Nat) (v : Nat) (hw : Sub 0x8000000000000000000000000000000000000000000000000000 M) (hk : Within M s0 s) :
   Within M s0 (State.cqConfig s f q v) := by
  unfold State.cqConfig
  repeat' (first | intro _ | with_reducible assumption | with_reducible exact rfl | exact sub_trans hw rfl | exact has_of hw rfl | with_reducible exact .inl rfl | exact .inr (has_of hw rfl) | exact .inl rfl | dsimp only | with_reducible apply within_setFld | with_reducible apply within_ite | with_reducible apply within_ite2 | with_reducible apply within_foldl | split | ((with_reducible apply within_mk); with_reducible exact rfl))

theorem within_cqEnable {M : Nat} {s0 s : State} (f : Nat) (q : Nat) (hw : Sub 0x18000000000000000000000000000000000000000000000004000 M) (hk : Within M s0 s) :
   Within M s0 (State.cqEnable s f q) := by
  unfold State.cqEnable
  repeat' (first | intro _ | with_reducible assumption | with_reducible exact rfl | exact sub_trans hw rfl | exact has_of hw rfl | with_reducible exact .inl rfl | exact .inr (has_of hw rfl) | exact .inl rfl | dsimp only | with_reducible apply within_setEvt | with_reducible apply within_modQueue | with_reducible apply within_setFld | with_reducible apply within_setIdle | with_reducible apply within_ite | with_reducible apply within_ite2 | with_reducible apply within_foldl | split | ((with_reducible apply within_mk); with_reducible exact rfl))

theorem within_cqDisable {M : Nat} {s0 s : State} (f : Nat) (q : Nat) (hw : Sub 0x18000000000000000000000000000000000000000000000000000 M) (hk : Within M s0 s) :
   Within M s0 (State.cqDisable s f q) := by
  unfold State.cqDisable
  repeat' (first | intro _ | with_reducible assumption | with_reducible exact rfl | exact sub_trans hw rfl | exact has_of hw rfl | with_reducible exact .inl rfl | exact .inr (has_of hw rfl) | exact .inl rfl | dsimp only | with_reducible apply within_setFld | with_reducible apply within_setIdle | with_reducible apply within_ite | with_reducible apply within_ite2 | with_reducible apply within_foldl | split | ((with_reducible apply within_mk); with_reducible exact rfl))

theorem within_cqCfgWrite {M : Nat} {s0 s : State} (f : Nat) (q : Nat) (v : Nat) (hw : Sub 0x18000000000000000000000000000000000000000000000004000 M) (hk : Within M s0 s) :
   Within M s0 (State.cqCfgWrite s f q v) := by
  unfold State.cqCfgWrite
  repeat' (first | intro _ | with_reducible assumption | with_reducible exact rfl | exact sub_trans hw rfl | exact has_of hw rfl | with_reducible exact .inl rfl | exact .inr (has_of hw rfl) | exact .inl rfl | dsimp only | with_reducible apply within_cqConfig | with_reducible apply within_cqEnable | with_reducible apply within_cqDisable | with_reducible apply within_ite | with_reducible apply within_ite2 | with_reducible apply within_foldl | split | ((with_reducible apply within_mk); with_reducible exact rfl))

theorem within_cqTailWrite {M : Nat} {s0 s : State} (f : Nat) (q : Nat) (v : Nat) (hw : Sub 0x10000000000000000000000000000000000000000000000004000 M) (hk : Within M s0 s) :
   Within M s0 (State.cqTailWrite s f q v) := by
  unfold State.cqTailWrite
  repeat' (first | intro _ | with_reducible assumption | with_reducible exact rfl | exact sub_trans hw rfl | exact has_of hw rfl | with_reducible exact .inl rfl | exact .inr (has_of hw rfl) | exact .inl rfl | dsimp only | with_reducible apply within_setEvt | with_reducible apply within_modQueue | with_reducible apply within_ite | with_reducible apply within_ite2 | with_reducible apply within_foldl | split | ((with_reducible apply within_mk); with_reducible exact rfl))

theorem within_rqHeadWrite {M : Nat} {s0 s : State} (f : Nat) (q : Nat) (v : Nat) (hw : Sub 0x10000000000000000000000000000000000000000000000004000 M) (hk : Within M s0 s) :
   Within M s0 (State.rqHeadWrite s f q v) := by
  unfold State.rqHeadWrite
  repeat' (first | intro _ | with_reducible assumption | with_reducible exact rfl | exact sub_trans hw rfl | exact has_of hw rfl | with_reducible exact .inl rfl | exact .inr (has_of hw rfl) | exact .inl rfl | dsimp only | with_reducible apply within_setEvt | with_reducible apply within_setQueue | with_reducible apply within_ite | with_reducible apply within_ite2 | with_reducible apply within_foldl | split | ((with_reducible apply within_mk); with_reducible exact rfl))

theorem within_moderation {M : Nat} {s0 s : State} (f : Nat) (q : Nat) (hw : Sub 0x204000 M) (hk : Within M s0 s) :
   Within M s0 (State.moderation s f q) := by
  unfold State.moderation
  repeat' (first | intro _ | with_reducible assumption | with_reducible exact rfl | exact sub_trans hw rfl | exact has_of hw rfl | with_reducible exact .inl rfl | exact .inr (has_of hw rfl) | exact .inl rfl | dsimp only | with_reducible apply within_setQueue | with_reducible apply within_raise | with_reducible apply within_ite | with_reducible apply within_ite2 | with_reducible apply within_foldl | split | ((with_reducible apply within_mk); with_reducible exact rfl))

theorem within_evqCfgWrite {M : Nat} {s0 s : State} (f : Nat) (v : Nat) (hw : Sub 0x180000000000000000000000000000000000000000000000000000 M) (hk : Within M s0 s) :
   Within M s0 (State.evqCfgWrite s f v) := by
  unfold State.evqCfgWrite
  repeat' (first | intro _ | with_reducible assumption | with_reducible exact rfl | exact sub_trans hw rfl | exact has_of hw rfl | with_reducible exact .inl rfl | exact .inr (has_of hw rfl) | exact .inl rfl | dsimp only | with_reducible apply within_setFld | with_reducible apply within_ite | with_reducible apply within_ite2 | with_reducible apply within_foldl | split | ((with_reducible apply within_mk); with_reducible exact rfl))

theorem within_echo {M : Nat} {s0 s : State} (r : CmdRef) (hw : Sub 0x24640000000000000010400000000000000000000000000000000000000000000245000 M) (hk : Within M s0 s) :
   Within M s0 (State.echo s r) := by
  unfold State.echo
  repeat' (first | intro _ | with_reducible assumption | with_reducible exact rfl | exact sub_trans hw rfl | exact has_of hw rfl | with_reducible exact .inl rfl | exact .inr (has_of hw rfl) | exact .inl rfl | dsimp only | with_reducible apply within_onCmd | with_reducible apply within_reply | with_reducible apply within_ite | with_reducible apply within_ite2 | with_reducible apply within_foldl | split | ((with_reducible apply within_mk); with_reducible exact rfl))

theorem within_timeGet {M : Nat} {s0 s : State} (r : CmdRef) (hw : Sub 0x24640000000000000010400000000000000000000000000000000000000000000245000 M) (hk : Within M s0 s) :
   Within M s0 (State.timeGet s r) := by
  unfold State.timeGet
  repeat' (first | intro _ | with_reducible assumption | with_reducible exact rfl | exact sub_trans hw rfl | exact has_of hw rfl | with_reducible exact .inl rfl | exact .inr (has_of hw rfl) | exact .inl rfl | dsimp only | with_reducible apply within_onCmd | with_reducible apply within_reply | with_reducible apply within_ite | with_reducible apply within_ite2 | with_reducible apply within_foldl | split | ((with_reducible apply within_mk); with_reducible exact rfl))

theorem within_camGrant {M : Nat} {s0 s : State} (r : CmdRef) (hw : Sub 0x24640000000000000010400000000000000000000000000000000000000000000245020 M) (hk : Within M s0 s) :
   Within M s0 (State.camGrant s r) := by
  unfold State.camGrant
  repeat' (first | intro _ | with_reducible assumption | with_reducible exact rfl | exact sub_trans hw rfl | exact has_of hw rfl | with_reducible exact .inl rfl | exact .inr (has_of hw rfl) | exact .inl rfl | dsimp only | with_reducible apply within_onCmd | with_reducible apply within_reply | with_reducible apply within_modCam | with_reducible apply within_ite | with_reducible apply within_ite2 | with_reducible apply within_foldl | split | ((with_reducible apply within_mk); with_reducible exact rfl))

theorem within_faultResume {M : Nat} {s0 s : State} (r : CmdRef) (hw : Sub 0x24640000000000000010400000102400000000000000000000000000000000000245080 M) (hk : Within M s0 s) :
   Within M s0 (State.faultResume s r) := by
  unfold State.faultResume
  repeat' (first | intro _ | with_reducible assumption | with_reducible exact rfl | exact sub_trans hw rfl | exact has_of hw rfl | with_reducible exact .inl rfl | exact .inr (has_of hw rfl) | exact .inl rfl | dsimp only | with_reducible apply within_onCmd | with_reducible apply within_reply | with_reducible apply within_resumeXfer | with_reducible apply within_ite | with_reducible apply within_ite2 | with_reducible apply within_foldl | split | ((with_reducible apply within_mk); with_reducible exact rfl))

theorem within_profileLoad {M : Nat} {s0 s : State} (r : CmdRef) (bytes : List Byte) (hw : Sub 0x24640000000000000010400000000000000000000000000000000000000000000245020 M) (hk : Within M s0 s) :
   Within M s0 (State.profileLoad s r bytes) := by
  unfold State.profileLoad
  repeat' (first | intro _ | with_reducible assumption | with_reducible exact rfl | exact sub_trans hw rfl | exact has_of hw rfl | with_reducible exact .inl rfl | exact .inr (has_of hw rfl) | exact .inl rfl | dsimp only | with_reducible apply within_onCmd | with_reducible apply within_reply | with_reducible apply within_withRead | with_reducible apply within_modCam | with_reducible apply within_ite | with_reducible apply within_ite2 | with_reducible apply within_foldl | split | ((with_reducible apply within_mk); with_reducible exact rfl))

theorem within_sensorXfer {M : Nat} {s0 s : State} (r : CmdRef) (hw : Sub 0x24640000000000000010400000000000000000000008010008000000000000000247078 M) (hk : Within M s0 s) :
   Within M s0 (State.sensorXfer s r) := by
  unfold State.sensorXfer
  repeat' (first | intro _ | with_reducible assumption | with_reducible exact rfl | exact sub_trans hw rfl | exact has_of hw rfl | with_reducible exact .inl rfl | exact .inr (has_of hw rfl) | exact .inl rfl | dsimp only | with_reducible apply within_onCmd | with_reducible apply within_reply | with_reducible apply within_tunnelRequest | with_reducible apply within_ite | with_reducible apply within_ite2 | with_reducible apply within_foldl | split | ((with_reducible apply within_mk); with_reducible exact rfl))

theorem within_zeroRange {M : Nat} {s0 s : State} (a : Nat) (n : Nat) (hw : Sub 0x100200 M) (hk : Within M s0 s) :
   Within M s0 (State.zeroRange s a n) := by
  unfold State.zeroRange
  repeat' (first | intro _ | with_reducible assumption | with_reducible exact rfl | exact sub_trans hw rfl | exact has_of hw rfl | with_reducible exact .inl rfl | exact .inr (has_of hw rfl) | exact .inl rfl | dsimp only | with_reducible apply within_memClear | with_reducible apply within_ite | with_reducible apply within_ite2 | with_reducible apply within_foldl | split | ((with_reducible apply within_mk); with_reducible exact rfl))

theorem within_remap {M : Nat} {s0 s : State} (l : List (Nat × Page)) (hw : Sub 0x4000 M) (hk : Within M s0 s) :
   Within M s0 (State.remap s l) := by
  unfold State.remap
  repeat' (first | intro _ | with_reducible assumption | with_reducible exact rfl | exact sub_trans hw rfl | exact has_of hw rfl | with_reducible exact .inl rfl | exact .inr (has_of hw rfl) | exact .inl rfl | dsimp only | with_reducible apply within_modFn | with_reducible apply within_map | with_reducible apply within_ite | with_reducible apply within_ite2 | with_reducible apply within_foldl | split | ((with_reducible apply within_mk); with_reducible exact rfl))

theorem within_clearComplete {M : Nat} {s0 s : State} (hw : Sub 0x24640000000000000010400000000000000000000000000000000000000000000345a00 M) (hk : Within M s0 s) :
   Within M s0 (State.clearComplete s) := by
  unfold State.clearComplete
  repeat' (first | intro _ | with_reducible assumption | with_reducible exact rfl | exact sub_trans hw rfl | exact has_of hw rfl | with_reducible exact .inl rfl | exact .inr (has_of hw rfl) | exact .inl rfl | dsimp only | with_reducible apply within_snufRun | with_reducible apply within_zeroRange | with_reducible apply within_remap | with_reducible apply within_reply | with_reducible apply within_ite | with_reducible apply within_ite2 | with_reducible apply within_foldl | split | ((with_reducible apply within_mk); with_reducible exact rfl))

theorem within_map {M : Nat} {s0 s : State} (r : CmdRef) (hw : Sub 0x24640000000000000010400000000000000000000000000000000000000000000245000 M) (hk : Within M s0 s) :
   Within M s0 (State.map s r) := by
  unfold State.map
  repeat' (first | intro _ | with_reducible assumption | with_reducible exact rfl | exact sub_trans hw rfl | exact has_of hw rfl | with_reducible exact .inl rfl | exact .inr (has_of hw rfl) | exact .inl rfl | dsimp only | with_reducible apply within_onCmd | with_reducible apply within_reply | with_reducible apply within_modFn | with_reducible apply within_ite | with_reducible apply within_ite2 | with_reducible apply within_foldl | split | ((with_reducible apply within_mk); with_reducible exact rfl))

theorem within_unmap {M : Nat} {s0 s : State} (r : CmdRef) (hw : Sub 0x24640000000000000010400000000000000000000000000000000000000000000245000 M) (hk : Within M s0 s) :
   Within M s0 (State.unmap s r) := by
  unfold State.unmap
  repeat' (first | intro _ | with_reducible assumption | with_reducible exact rfl | exact sub_trans hw rfl | exact has_of hw rfl | with_reducible exact .inl rfl | exact .inr (has_of hw rfl) | exact .inl rfl | dsimp only | with_reducible apply within_onCmd | with_reducible apply within_reply | with_reducible apply within_modFn | with_reducible apply within_setTaken | with_reducible apply within_ite | with_reducible apply within_ite2 | with_reducible apply within_foldl | split | ((with_reducible apply within_mk); with_reducible exact rfl))

theorem within_memCopy {M : Nat} {s0 s : State} (src : Nat) (dst : Nat) (n : Nat) (hw : Sub 0x100200 M) (hk : Within M s0 s) :
   Within M s0 (State.memCopy s src dst n) := by
  unfold State.memCopy
  repeat' (first | intro _ | with_reducible assumption | with_reducible exact rfl | exact sub_trans hw rfl | exact has_of hw rfl | with_reducible exact .inl rfl | exact .inr (has_of hw rfl) | exact .inl rfl | dsimp only | with_reducible apply within_zeroRange | with_reducible apply within_ite | with_reducible apply within_ite2 | with_reducible apply within_foldl | split | ((with_reducible apply within_mk); with_reducible exact rfl))

theorem within_move {M : Nat} {s0 s : State} (r : CmdRef) (hw : Sub 0x24640000000000000010400000000000000000000000000000000000000000000345a00 M) (hk : Within M s0 s) :
   Within M s0 (State.move s r) := by
  unfold State.move
  repeat' (first | intro _ | with_reducible assumption | with_reducible exact rfl | exact sub_trans hw rfl | exact has_of hw rfl | with_reducible exact .inl rfl | exact .inr (has_of hw rfl) | exact .inl rfl | dsimp only | with_reducible apply within_onCmd | with_reducible apply within_map | with_reducible apply within_reply | with_reducible apply within_modFn | with_reducible apply within_setTaken | with_reducible apply within_memCopy | with_reducible apply within_clearFor | with_reducible apply within_remap | with_reducible apply within_ite | with_reducible apply within_ite2 | with_reducible apply within_foldl | split | ((with_reducible apply within_mk); with_reducible exact rfl))

theorem within_memGrant {M : Nat} {s0 s : State} (r : CmdRef) (hw : Sub 0x24640000000000000010400000000000000000000000000000000000000000000245000 M) (hk : Within M s0 s) :
   Within M s0 (State.memGrant s r) := by
  unfold State.memGrant
  repeat' (first | intro _ | with_reducible assumption | with_reducible exact rfl | exact sub_trans hw rfl | exact has_of hw rfl | with_reducible exact .inl rfl | exact .inr (has_of hw rfl) | exact .inl rfl | dsimp only | with_reducible apply within_onCmd | with_reducible apply within_reply | with_reducible apply within_modFn | with_reducible apply within_ite | with_reducible apply within_ite2 | with_reducible apply within_foldl | split | ((with_reducible apply within_mk); with_reducible exact rfl))

theorem within_memRevoke {M : Nat} {s0 s : State} (r : CmdRef) (hw : Sub 0x24640000000000000010400000000000000000000000000000000000000000000245800 M) (hk : Within M s0 s) :
   Within M s0 (State.memRevoke s r) := by
  unfold State.memRevoke
  repeat' (first | intro _ | with_reducible assumption | with_reducible exact rfl | exact sub_trans hw rfl | exact has_of hw rfl | with_reducible exact .inl rfl | exact .inr (has_of hw rfl) | exact .inl rfl | dsimp only | with_reducible apply within_onCmd | with_reducible apply within_reply | with_reducible apply within_setTaken | with_reducible apply within_modFn | with_reducible apply within_map | with_reducible apply within_clearFor | with_reducible apply within_ite | with_reducible apply within_ite2 | with_reducible apply within_foldl | split | ((with_reducible apply within_mk); with_reducible exact rfl))

theorem within_fwPool {M : Nat} {s0 s : State} (r : CmdRef) (hw : Sub 0x24640000000000000010400000000000000000000000000000000000000000000245000 M) (hk : Within M s0 s) :
   Within M s0 (State.fwPool s r) := by
  unfold State.fwPool
  repeat' (first | intro _ | with_reducible assumption | with_reducible exact rfl | exact sub_trans hw rfl | exact has_of hw rfl | with_reducible exact .inl rfl | exact .inr (has_of hw rfl) | exact .inl rfl | dsimp only | with_reducible apply within_onCmd | with_reducible apply within_reply | with_reducible apply within_ite | with_reducible apply within_ite2 | with_reducible apply within_foldl | split | ((with_reducible apply within_mk); with_reducible exact rfl))

theorem within_camRings {M : Nat} {s0 s : State} (r : CmdRef) (hw : Sub 0x24640000000000000010400000000000000060006000300006000000000000000245020 M) (hk : Within M s0 s) :
   Within M s0 (State.camRings s r) := by
  unfold State.camRings
  repeat' (first | intro _ | with_reducible assumption | with_reducible exact rfl | exact sub_trans hw rfl | exact has_of hw rfl | with_reducible exact .inl rfl | exact .inr (has_of hw rfl) | exact .inl rfl | dsimp only | with_reducible apply within_onCmd | with_reducible apply within_reply | with_reducible apply within_setPair | with_reducible apply within_setRegN | with_reducible apply within_map | with_reducible apply within_modCam | with_reducible apply within_ite | with_reducible apply within_ite2 | with_reducible apply within_foldl | split | ((with_reducible apply within_mk); with_reducible exact rfl))

theorem within_secCount {M : Nat} {s0 s : State} (r : RegName) (hw : Sub 0x24640000000000000000000000000000000000000000000000000000000000000240000 M) (hr_r : Has M r.ix) (hk : Within M s0 s) :
   Within M s0 (State.secCount s r) := by
  unfold State.secCount
  repeat' (first | intro _ | with_reducible assumption | with_reducible exact rfl | exact sub_trans hw rfl | exact has_of hw rfl | with_reducible exact .inl rfl | exact .inr (has_of hw rfl) | exact .inl rfl | dsimp only | with_reducible apply within_bump | exact hr_r | with_reducible apply within_ite | with_reducible apply within_ite2 | with_reducible apply within_foldl | split | ((with_reducible apply within_mk); with_reducible exact rfl))

theorem within_pin {M : Nat} {s0 s : State} (i : Nat) (p : Nat × Nat × BitVec 16) (hw : Sub 0x10000000000000000000000000e000000000000000000000000000000000000000000200 M) (hk : Within M s0 s) :
   Within M s0 (State.pin s i p) := by
  unfold State.pin
  repeat' (first | intro _ | with_reducible assumption | with_reducible exact rfl | exact sub_trans hw rfl | exact has_of hw rfl | with_reducible exact .inl rfl | exact .inr (has_of hw rfl) | exact .inl rfl | dsimp only | with_reducible apply within_evict | with_reducible apply within_modHold | with_reducible apply within_setFld | with_reducible apply within_ite | with_reducible apply within_ite2 | with_reducible apply within_foldl | split | ((with_reducible apply within_mk); with_reducible exact rfl))

theorem within_unpin {M : Nat} {s0 s : State} (i : Nat) (writeBack : Bool) (hw : Sub 0x10000000000000000000000000e000000000000000000000000000000000000000000200 M) (hk : Within M s0 s) :
   Within M s0 (State.unpin s i writeBack) := by
  unfold State.unpin
  repeat' (first | intro _ | with_reducible assumption | with_reducible exact rfl | exact sub_trans hw rfl | exact has_of hw rfl | with_reducible exact .inl rfl | exact .inr (has_of hw rfl) | exact .inl rfl | dsimp only | with_reducible apply within_evict | with_reducible apply within_modHold | with_reducible apply within_setRegN | with_reducible apply within_setFld | with_reducible apply within_ite | with_reducible apply within_ite2 | with_reducible apply within_foldl | split | ((with_reducible apply within_mk); with_reducible exact rfl))

theorem within_putStage {M : Nat} {s0 s : State} (g : Nat) (h : Nat) (ws : List Nat) (t : Nat) (d : StageDecl) (hw : Sub 0x246400000000000000104000e0000000000000000000000000000000000000000247000 M) (hk : Within M s0 s) :
   Within M s0 (State.putStage s g h ws t d) := by
  unfold State.putStage
  repeat' (first | intro _ | with_reducible assumption | with_reducible exact rfl | exact sub_trans hw rfl | exact has_of hw rfl | with_reducible exact .inl rfl | exact .inr (has_of hw rfl) | exact .inl rfl | dsimp only | with_reducible apply within_setCounter | with_reducible apply within_map | with_reducible apply within_configStage | with_reducible apply within_setRegN | with_reducible apply within_configBarrier | with_reducible apply within_ite | with_reducible apply within_ite2 | with_reducible apply within_foldl | split | ((with_reducible apply within_mk); with_reducible exact rfl))

theorem within_putModel {M : Nat} {s0 s : State} (f : Nat) (g : Nat) (m : ModelImg) (encrypted : Bool) (hw : Sub 0x1246400000000000000104000ee000144000000000000000000000000000000000747280 M) (hk : Within M s0 s) :
   Within M s0 (State.putModel s f g m encrypted).2 := by
  unfold State.putModel
  repeat' (first | intro _ | with_reducible assumption | with_reducible exact rfl | exact sub_trans hw rfl | exact has_of hw rfl | with_reducible exact .inl rfl | exact .inr (has_of hw rfl) | exact .inl rfl | dsimp only | with_reducible apply within_takeFree | with_reducible apply within_memW | with_reducible apply within_loadProg | with_reducible apply within_modCore | with_reducible apply within_putStage | with_reducible apply within_pin | with_reducible apply within_ite | with_reducible apply within_ite2 | with_reducible apply within_foldl | split | ((with_reducible apply within_mk); with_reducible exact rfl))

theorem within_loadModel {M : Nat} {s0 s : State} (r : CmdRef) (g : Nat) (m : ModelImg) (encrypted : Bool) (hw : Sub 0x1246400000000000000104000ee000144000000000000000000000000000000000747280 M) (hk : Within M s0 s) :
   Within M s0 (State.loadModel s r g m encrypted) := by
  unfold State.loadModel
  repeat' (first | intro _ | with_reducible assumption | with_reducible exact rfl | exact sub_trans hw rfl | exact has_of hw rfl | with_reducible exact .inl rfl | exact .inr (has_of hw rfl) | exact .inl rfl | dsimp only | with_reducible apply within_putModel | with_reducible apply within_reply | with_reducible apply within_ite | with_reducible apply within_ite2 | with_reducible apply within_foldl | split | ((with_reducible apply within_mk); with_reducible exact rfl))

theorem within_loadEncrypted {M : Nat} {s0 s : State} (r : CmdRef) (g : Nat) (slot : Nat) (k : KeyS) (m : ModelImg) (hw : Sub 0x1246400000008000000104000ee000144000000000000000000000000000000000747a80 M) (hk : Within M s0 s) :
   Within M s0 (State.loadEncrypted s r g slot k m) := by
  unfold State.loadEncrypted
  repeat' (first | intro _ | with_reducible assumption | with_reducible exact rfl | exact sub_trans hw rfl | exact has_of hw rfl | with_reducible exact .inl rfl | exact .inr (has_of hw rfl) | exact .inl rfl | dsimp only | with_reducible apply within_loadModel | with_reducible apply within_secCount | with_reducible apply within_clearFor | with_reducible apply within_ite | with_reducible apply within_ite2 | with_reducible apply within_foldl | split | ((with_reducible apply within_mk); with_reducible exact rfl))

theorem within_modelLoad {M : Nat} {s0 s : State} (r : CmdRef) (m : ModelImg) (hw : Sub 0x1246400000008000000104000ee000144000000000000000000000000000000000747a80 M) (hk : Within M s0 s) :
   Within M s0 (State.modelLoad s r m) := by
  unfold State.modelLoad
  repeat' (first | intro _ | with_reducible assumption | with_reducible exact rfl | exact sub_trans hw rfl | exact has_of hw rfl | with_reducible exact .inl rfl | exact .inr (has_of hw rfl) | exact .inl rfl | dsimp only | with_reducible apply within_onCmd | with_reducible apply within_withRead | with_reducible apply within_loadModel | with_reducible apply within_secCount | with_reducible apply within_reply | with_reducible apply within_loadEncrypted | with_reducible apply within_ite | with_reducible apply within_ite2 | with_reducible apply within_foldl | split | ((with_reducible apply within_mk); with_reducible exact rfl))

theorem within_rebuildCore {M : Nat} {s0 s : State} (i : Nat) (hw : Sub 0x144000000000000000000000000000000000000080 M) (hk : Within M s0 s) :
   Within M s0 (State.rebuildCore s i) := by
  unfold State.rebuildCore
  repeat' (first | intro _ | with_reducible assumption | with_reducible exact rfl | exact sub_trans hw rfl | exact has_of hw rfl | with_reducible exact .inl rfl | exact .inr (has_of hw rfl) | exact .inl rfl | (rename_i h; simp only [Bool.and_eq_true, Bool.or_eq_true, beq_iff_eq] at h; rcases h with ⟨(h | h) | h, _⟩ <;> subst h <;> exact has_of hw rfl) | dsimp only | with_reducible apply within_modCore | with_reducible apply within_resetRegs | with_reducible apply within_reloadCore | with_reducible apply within_ite | with_reducible apply within_ite2 | with_reducible apply within_foldl | split | ((with_reducible apply within_mk); with_reducible exact rfl))

theorem within_dropModel {M : Nat} {s0 s : State} (h : Nat) (m : ModelS) (writeBack : Bool) (hw : Sub 0x1246400000000000000104000ae0001440000000000000000000000000000000002472a0 M) (hk : Within M s0 s) :
   Within M s0 (State.dropModel s h m writeBack) := by
  unfold State.dropModel
  repeat' (first | intro _ | with_reducible assumption | with_reducible exact rfl | exact sub_trans hw rfl | exact has_of hw rfl | with_reducible exact .inl rfl | exact .inr (has_of hw rfl) | exact .inl rfl | dsimp only | with_reducible apply within_map | with_reducible apply within_modCore | with_reducible apply within_rebuildCore | with_reducible apply within_setCounter | with_reducible apply within_setRegN | with_reducible apply within_unpin | with_reducible apply within_ite | with_reducible apply within_ite2 | with_reducible apply within_foldl | split | ((with_reducible apply within_mk); with_reducible exact rfl))

theorem within_modelUnload {M : Nat} {s0 s : State} (r : CmdRef) (hw : Sub 0x1246400000000000000104000ae000144000000000000000000000000000000000247aa0 M) (hk : Within M s0 s) :
   Within M s0 (State.modelUnload s r) := by
  unfold State.modelUnload
  repeat' (first | intro _ | with_reducible assumption | with_reducible exact rfl | exact sub_trans hw rfl | exact has_of hw rfl | with_reducible exact .inl rfl | exact .inr (has_of hw rfl) | exact .inl rfl | dsimp only | with_reducible apply within_onCmd | with_reducible apply within_reply | with_reducible apply within_dropModel | with_reducible apply within_clearFor | with_reducible apply within_map | with_reducible apply within_ite | with_reducible apply within_ite2 | with_reducible apply within_foldl | split | ((with_reducible apply within_mk); with_reducible exact rfl))

theorem within_modelBind {M : Nat} {s0 s : State} (r : CmdRef) (hw : Sub 0x24640000000000000010400000000000000000000000000000000000000000000245020 M) (hk : Within M s0 s) :
   Within M s0 (State.modelBind s r) := by
  unfold State.modelBind
  repeat' (first | intro _ | with_reducible assumption | with_reducible exact rfl | exact sub_trans hw rfl | exact has_of hw rfl | with_reducible exact .inl rfl | exact .inr (has_of hw rfl) | exact .inl rfl | dsimp only | with_reducible apply within_onCmd | with_reducible apply within_reply | with_reducible apply within_modCam | with_reducible apply within_ite | with_reducible apply within_ite2 | with_reducible apply within_foldl | split | ((with_reducible apply within_mk); with_reducible exact rfl))

theorem within_modelInfo {M : Nat} {s0 s : State} (r : CmdRef) (hw : Sub 0x24640000000000000010400000000000000000000000000000000000000000000245000 M) (hk : Within M s0 s) :
   Within M s0 (State.modelInfo s r) := by
  unfold State.modelInfo
  repeat' (first | intro _ | with_reducible assumption | with_reducible exact rfl | exact sub_trans hw rfl | exact has_of hw rfl | with_reducible exact .inl rfl | exact .inr (has_of hw rfl) | exact .inl rfl | dsimp only | with_reducible apply within_onCmd | with_reducible apply within_reply | with_reducible apply within_ite | with_reducible apply within_ite2 | with_reducible apply within_foldl | split | ((with_reducible apply within_mk); with_reducible exact rfl))

theorem within_calibCapture {M : Nat} {s0 s : State} (r : CmdRef) (hw : Sub 0x24640000000000000010400000000000000000000000000000000000000000000245020 M) (hk : Within M s0 s) :
   Within M s0 (State.calibCapture s r) := by
  unfold State.calibCapture
  repeat' (first | intro _ | with_reducible assumption | with_reducible exact rfl | exact sub_trans hw rfl | exact has_of hw rfl | with_reducible exact .inl rfl | exact .inr (has_of hw rfl) | exact .inl rfl | dsimp only | with_reducible apply within_onCmd | with_reducible apply within_reply | with_reducible apply within_modCam | with_reducible apply within_ite | with_reducible apply within_ite2 | with_reducible apply within_foldl | split | ((with_reducible apply within_mk); with_reducible exact rfl))

theorem within_captureRecord {M : Nat} {s0 s : State} (n : Nat) (q : Nat) (hw : Sub 0x24640000000000000010400000000000000000000000000000000000000000000245020 M) (hk : Within M s0 s) :
   Within M s0 (State.captureRecord s n q) := by
  unfold State.captureRecord
  repeat' (first | intro _ | with_reducible assumption | with_reducible exact rfl | exact sub_trans hw rfl | exact has_of hw rfl | with_reducible exact .inl rfl | exact .inr (has_of hw rfl) | exact .inl rfl | dsimp only | with_reducible apply within_hostWrite | with_reducible apply within_modCam | with_reducible apply within_reply | with_reducible apply within_ite | with_reducible apply within_ite2 | with_reducible apply within_foldl | split | ((with_reducible apply within_mk); with_reducible exact rfl))

theorem within_headerComplete {M : Nat} {s0 s : State} (n : Nat) (q : Nat) (hw : Sub 0x24640000000000000010400000000000000000400000000000000000000000000245060 M) (hk : Within M s0 s) :
   Within M s0 (State.headerComplete s n q) := by
  unfold State.headerComplete
  repeat' (first | intro _ | with_reducible assumption | with_reducible exact rfl | exact sub_trans hw rfl | exact has_of hw rfl | with_reducible exact .inl rfl | exact .inr (has_of hw rfl) | exact .inl rfl | dsimp only | with_reducible apply within_finalize | with_reducible apply within_captureRecord | with_reducible apply within_ite | with_reducible apply within_ite2 | with_reducible apply within_foldl | split | ((with_reducible apply within_mk); with_reducible exact rfl))

theorem rxData_mem (c : Nat) : rxData c ∈ [.MBX_CP0_DATA, .MBX_CP1_DATA, .MBX_CP2_DATA, .MBX_CP3_DATA, .MBX_RSFL_DATA] := by
  unfold rxData; (repeat' split) <;> decide
theorem rxCtl_mem (c : Nat) : rxCtl c ∈ [.MBX_CP0_CTL, .MBX_CP1_CTL, .MBX_CP2_CTL, .MBX_CP3_CTL, .MBX_RSFL_CTL] := by
  unfold rxCtl; (repeat' split) <;> decide
theorem txCtl_mem (f : Bool) : txCtl f ∈ [.MBX_FW_CTL, .MBX_SFL_CTL] := by cases f <;> decide

theorem within_deliverMsg {M : Nat} {s0 s : State} (f : Nat) (c : Nat) (m : List Word) (hw : Sub 0x1ff8000000000000000000000000000000000000000000000000200000 M) (hk : Within M s0 s) :
   Within M s0 (State.deliverMsg s f c m) := by
  unfold State.deliverMsg
  repeat' (first | intro _ | with_reducible assumption | with_reducible exact rfl | exact sub_trans hw rfl | exact has_of hw rfl | with_reducible exact .inl rfl | exact .inr (has_of hw rfl) | exact .inl rfl | exact has_mem hw rfl (rxData_mem _) | exact has_mem hw rfl (rxCtl_mem _) | exact has_mem hw rfl (txCtl_mem _) | dsimp only | with_reducible apply within_setReg | with_reducible apply within_setRegN | with_reducible apply within_raise | with_reducible apply within_ite | with_reducible apply within_ite2 | with_reducible apply within_foldl | split | ((with_reducible apply within_mk); with_reducible exact rfl))

theorem within_sendTo {M : Nat} {s0 s : State} (f : Nat) (c : Nat) (m : List Word) (hw : Sub 0x1ff8000000000000000000000000000000000000000000000000204000 M) (hk : Within M s0 s) :
   Within M s0 (State.sendTo s f c m) := by
  unfold State.sendTo
  repeat' (first | intro _ | with_reducible assumption | with_reducible exact rfl | exact sub_trans hw rfl | exact has_of hw rfl | with_reducible exact .inl rfl | exact .inr (has_of hw rfl) | exact .inl rfl | dsimp only | with_reducible apply within_modFn | with_reducible apply within_deliverMsg | with_reducible apply within_ite | with_reducible apply within_ite2 | with_reducible apply within_foldl | split | ((with_reducible apply within_mk); with_reducible exact rfl))

theorem within_rxTaken {M : Nat} {s0 s : State} (f : Nat) (c : Nat) (hw : Sub 0x1ff8000000000000000000000000000000000000000000000000204000 M) (hk : Within M s0 s) :
   Within M s0 (State.rxTaken s f c) := by
  unfold State.rxTaken
  repeat' (first | intro _ | with_reducible assumption | with_reducible exact rfl | exact sub_trans hw rfl | exact has_of hw rfl | with_reducible exact .inl rfl | exact .inr (has_of hw rfl) | exact .inl rfl | exact has_mem hw rfl (rxData_mem _) | exact has_mem hw rfl (rxCtl_mem _) | exact has_mem hw rfl (txCtl_mem _) | dsimp only | with_reducible apply within_setRegN | with_reducible apply within_modFn | with_reducible apply within_deliverMsg | with_reducible apply within_ite | with_reducible apply within_ite2 | with_reducible apply within_foldl | split | ((with_reducible apply within_mk); with_reducible exact rfl))

theorem within_rxRead {M : Nat} {s0 s : State} (f : Nat) (c : Nat) (j : Nat) (hw : Sub 0x1ff8000000000000000000000000000000000000000000000000204000 M) (hk : Within M s0 s) :
   Within M s0 (State.rxRead s f c j).2 := by
  unfold State.rxRead
  repeat' (first | intro _ | with_reducible assumption | with_reducible exact rfl | exact sub_trans hw rfl | exact has_of hw rfl | with_reducible exact .inl rfl | exact .inr (has_of hw rfl) | exact .inl rfl | dsimp only | with_reducible apply within_rxTaken | with_reducible apply within_ite | with_reducible apply within_ite2 | with_reducible apply within_foldl | split | ((with_reducible apply within_mk); with_reducible exact rfl))

theorem within_rxReadLast {M : Nat} {s0 s : State} (f : Nat) (c : Nat) (hw : Sub 0x1ff8000000000000000000000000000000000000000000000000204000 M) (hk : Within M s0 s) :
   Within M s0 (State.rxReadLast s f c) := by
  unfold State.rxReadLast
  repeat' (first | intro _ | with_reducible assumption | with_reducible exact rfl | exact sub_trans hw rfl | exact has_of hw rfl | with_reducible exact .inl rfl | exact .inr (has_of hw rfl) | exact .inl rfl | dsimp only | with_reducible apply within_rxRead | with_reducible apply within_emit | with_reducible apply within_ite | with_reducible apply within_ite2 | with_reducible apply within_foldl | split | ((with_reducible apply within_mk); with_reducible exact rfl))

theorem within_txConfig {M : Nat} {s0 s : State} (f : Nat) (sfl : Bool) (v : Nat) (hw : Sub 0x5000000000000000000000000000000000000000000000000000000 M) (hk : Within M s0 s) :
   Within M s0 (State.txConfig s f sfl v) := by
  unfold State.txConfig
  repeat' (first | intro _ | with_reducible assumption | with_reducible exact rfl | exact sub_trans hw rfl | exact has_of hw rfl | with_reducible exact .inl rfl | exact .inr (has_of hw rfl) | exact .inl rfl | exact has_mem hw rfl (rxData_mem _) | exact has_mem hw rfl (rxCtl_mem _) | exact has_mem hw rfl (txCtl_mem _) | dsimp only | with_reducible apply within_setRegN | with_reducible apply within_ite | with_reducible apply within_ite2 | with_reducible apply within_foldl | split | ((with_reducible apply within_mk); with_reducible exact rfl))

theorem within_txSend {M : Nat} {s0 s : State} (f : Nat) (sfl : Bool) (v : Nat) (hw : Sub 0x24640000000000005010400000000000000000000000000000000000000000000255000 M) (hk : Within M s0 s) :
   Within M s0 (State.txSend s f sfl v) := by
  unfold State.txSend
  repeat' (first | intro _ | with_reducible assumption | with_reducible exact rfl | exact sub_trans hw rfl | exact has_of hw rfl | with_reducible exact .inl rfl | exact .inr (has_of hw rfl) | exact .inl rfl | exact has_mem hw rfl (rxData_mem _) | exact has_mem hw rfl (rxCtl_mem _) | exact has_mem hw rfl (txCtl_mem _) | dsimp only | with_reducible apply within_setRegN | with_reducible apply within_txConfig | with_reducible apply within_map | with_reducible apply within_modFn | with_reducible apply within_ite | with_reducible apply within_ite2 | with_reducible apply within_foldl | split | ((with_reducible apply within_mk); with_reducible exact rfl))

theorem within_txWrite {M : Nat} {s0 s : State} (f : Nat) (sfl : Bool) (v : Nat) (hw : Sub 0x24640000000000005010400000000000000000000000000000000000000000000255000 M) (hk : Within M s0 s) :
   Within M s0 (State.txWrite s f sfl v) := by
  unfold State.txWrite
  repeat' (first | intro _ | with_reducible assumption | with_reducible exact rfl | exact sub_trans hw rfl | exact has_of hw rfl | with_reducible exact .inl rfl | exact .inr (has_of hw rfl) | exact .inl rfl | dsimp only | with_reducible apply within_txSend | with_reducible apply within_txConfig | with_reducible apply within_ite | with_reducible apply within_ite2 | with_reducible apply within_foldl | split | ((with_reducible apply within_mk); with_reducible exact rfl))

theorem within_txTaken {M : Nat} {s0 s : State} (f : Nat) (sfl : Bool) (hw : Sub 0x5000000000000000000000000000000000000000000000000200000 M) (hk : Within M s0 s) :
   Within M s0 (State.txTaken s f sfl) := by
  unfold State.txTaken
  repeat' (first | intro _ | with_reducible assumption | with_reducible exact rfl | exact sub_trans hw rfl | exact has_of hw rfl | with_reducible exact .inl rfl | exact .inr (has_of hw rfl) | exact .inl rfl | exact has_mem hw rfl (rxData_mem _) | exact has_mem hw rfl (rxCtl_mem _) | exact has_mem hw rfl (txCtl_mem _) | dsimp only | with_reducible apply within_setRegN | with_reducible apply within_raise | with_reducible apply within_ite | with_reducible apply within_ite2 | with_reducible apply within_foldl | split | ((with_reducible apply within_mk); with_reducible exact rfl))

theorem within_ping {M : Nat} {s0 s : State} (f : Nat) (cp : Nat) (hw : Sub 0x1ffd000000000000000000000000000000000000000000000000204000 M) (hk : Within M s0 s) :
   Within M s0 (State.ping s f cp) := by
  unfold State.ping
  repeat' (first | intro _ | with_reducible assumption | with_reducible exact rfl | exact sub_trans hw rfl | exact has_of hw rfl | with_reducible exact .inl rfl | exact .inr (has_of hw rfl) | exact .inl rfl | dsimp only | with_reducible apply within_modFn | with_reducible apply within_txTaken | with_reducible apply within_sendTo | with_reducible apply within_ite | with_reducible apply within_ite2 | with_reducible apply within_foldl | split | ((with_reducible apply within_mk); with_reducible exact rfl))

theorem within_notice {M : Nat} {s0 s : State} (us : Nat) (hw : Sub 0x1ff8000000000000000000000000000000000000000000000000604000 M) (hk : Within M s0 s) :
   Within M s0 (State.notice s us) := by
  unfold State.notice
  repeat' (first | intro _ | with_reducible assumption | with_reducible exact rfl | exact sub_trans hw rfl | exact has_of hw rfl | with_reducible exact .inl rfl | exact .inr (has_of hw rfl) | exact .inl rfl | dsimp only | with_reducible apply within_takeFree | with_reducible apply within_sendTo | with_reducible apply within_ite | with_reducible apply within_ite2 | with_reducible apply within_foldl | split | ((with_reducible apply within_mk); with_reducible exact rfl))

theorem within_driveFrom {M : Nat} {s0 s : State} (old : State) (hw : Sub 0x200000 M) (hk : Within M s0 s) :
   Within M s0 (State.driveFrom s old) := by
  unfold State.driveFrom
  repeat' (first | intro _ | with_reducible assumption | with_reducible exact rfl | exact sub_trans hw rfl | exact has_of hw rfl | with_reducible exact .inl rfl | exact .inr (has_of hw rfl) | exact .inl rfl | dsimp only | with_reducible apply within_emit | with_reducible apply within_ite | with_reducible apply within_ite2 | with_reducible apply within_foldl | split | ((with_reducible apply within_mk); with_reducible exact rfl))

theorem within_claimRefused {M : Nat} {s0 s : State} (r : Nat) (hw : Sub 0x400000000000000000000000000000000000000000000000000000000000000000000000 M) (hk : Within M s0 s) :
   Within M s0 (State.claimRefused s r) := by
  unfold State.claimRefused
  repeat' (first | intro _ | with_reducible assumption | with_reducible exact rfl | exact sub_trans hw rfl | exact has_of hw rfl | with_reducible exact .inl rfl | exact .inr (has_of hw rfl) | exact .inl rfl | dsimp only | with_reducible apply within_setFld | with_reducible apply within_ite | with_reducible apply within_ite2 | with_reducible apply within_foldl | split | ((with_reducible apply within_mk); with_reducible exact rfl))

theorem within_pinClaim {M : Nat} {s0 s : State} (v : Nat) (hw : Sub 0x500000000000000000000000000000000000000000000000000000000000000000200000 M) (hk : Within M s0 s) :
   Within M s0 (State.pinClaim s v) := by
  unfold State.pinClaim
  repeat' (first | intro _ | with_reducible assumption | with_reducible exact rfl | exact sub_trans hw rfl | exact has_of hw rfl | with_reducible exact .inl rfl | exact .inr (has_of hw rfl) | exact .inl rfl | dsimp only | with_reducible apply within_setFld | with_reducible apply within_driveFrom | with_reducible apply within_claimRefused | with_reducible apply within_ite | with_reducible apply within_ite2 | with_reducible apply within_foldl | split | ((with_reducible apply within_mk); with_reducible exact rfl))

theorem within_syncUngrant {M : Nat} {s0 s : State} (r : Nat) (hw : Sub 0x200004 M) (hk : Within M s0 s) :
   Within M s0 (State.syncUngrant s r) := by
  unfold State.syncUngrant
  repeat' (first | intro _ | with_reducible assumption | with_reducible exact rfl | exact sub_trans hw rfl | exact has_of hw rfl | with_reducible exact .inl rfl | exact .inr (has_of hw rfl) | exact .inl rfl | dsimp only | with_reducible apply within_modTime | with_reducible apply within_emit | with_reducible apply within_ite | with_reducible apply within_ite2 | with_reducible apply within_foldl | split | ((with_reducible apply within_mk); with_reducible exact rfl))

theorem within_pinRelease {M : Nat} {s0 s : State} (v : Nat) (hw : Sub 0x500000000000000000000000000000000000000000000000000000000000000000200004 M) (hk : Within M s0 s) :
   Within M s0 (State.pinRelease s v) := by
  unfold State.pinRelease
  repeat' (first | intro _ | with_reducible assumption | with_reducible exact rfl | exact sub_trans hw rfl | exact has_of hw rfl | with_reducible exact .inl rfl | exact .inr (has_of hw rfl) | exact .inl rfl | dsimp only | with_reducible apply within_setFld | with_reducible apply within_driveFrom | with_reducible apply within_syncUngrant | with_reducible apply within_claimRefused | with_reducible apply within_ite | with_reducible apply within_ite2 | with_reducible apply within_foldl | split | ((with_reducible apply within_mk); with_reducible exact rfl))

theorem within_pinClaimWrite {M : Nat} {s0 s : State} (v : Nat) (hw : Sub 0x500000000000000000000000000000000000000000000000000000000000000000200004 M) (hk : Within M s0 s) :
   Within M s0 (State.pinClaimWrite s v) := by
  unfold State.pinClaimWrite
  repeat' (first | intro _ | with_reducible assumption | with_reducible exact rfl | exact sub_trans hw rfl | exact has_of hw rfl | with_reducible exact .inl rfl | exact .inr (has_of hw rfl) | exact .inl rfl | dsimp only | with_reducible apply within_pinRelease | with_reducible apply within_pinClaim | with_reducible apply within_ite | with_reducible apply within_ite2 | with_reducible apply within_foldl | split | ((with_reducible apply within_mk); with_reducible exact rfl))

theorem within_modSec {M : Nat} {s0 s : State} (f : SecS → SecS) (hw : Sub 0x800 M) (hk : Within M s0 s) :
   Within M s0 (State.modSec s f) := by
  unfold State.modSec
  repeat' (first | intro _ | with_reducible assumption | with_reducible exact rfl | exact sub_trans hw rfl | exact has_of hw rfl | with_reducible exact .inl rfl | exact .inr (has_of hw rfl) | exact .inl rfl | dsimp only | with_reducible apply within_ite | with_reducible apply within_ite2 | with_reducible apply within_foldl | split | ((with_reducible apply within_mk); with_reducible exact rfl))

theorem within_modBoot {M : Nat} {s0 s : State} (f : BootS → BootS) (hw : Sub 0x1000 M) (hk : Within M s0 s) :
   Within M s0 (State.modBoot s f) := by
  unfold State.modBoot
  repeat' (first | intro _ | with_reducible assumption | with_reducible exact rfl | exact sub_trans hw rfl | exact has_of hw rfl | with_reducible exact .inl rfl | exact .inr (has_of hw rfl) | exact .inl rfl | dsimp only | with_reducible apply within_ite | with_reducible apply within_ite2 | with_reducible apply within_foldl | split | ((with_reducible apply within_mk); with_reducible exact rfl))

theorem within_showMeas {M : Nat} {s0 s : State} (m : Nat) (d : List Byte) (hw : Sub 0x80000000000000000000000000000000000000000000000000000000000 M) (hk : Within M s0 s) :
   Within M s0 (State.showMeas s m d) := by
  unfold State.showMeas
  repeat' (first | intro _ | with_reducible assumption | with_reducible exact rfl | exact sub_trans hw rfl | exact has_of hw rfl | with_reducible exact .inl rfl | exact .inr (has_of hw rfl) | exact .inl rfl | dsimp only | with_reducible apply within_setRegN | with_reducible apply within_ite | with_reducible apply within_ite2 | with_reducible apply within_foldl | split | ((with_reducible apply within_mk); with_reducible exact rfl))

theorem within_setMeas {M : Nat} {s0 s : State} (m : Nat) (d : List Byte) (hw : Sub 0x80000000000000000000000000000000000000000000000000000000800 M) (hk : Within M s0 s) :
   Within M s0 (State.setMeas s m d) := by
  unfold State.setMeas
  repeat' (first | intro _ | with_reducible assumption | with_reducible exact rfl | exact sub_trans hw rfl | exact has_of hw rfl | with_reducible exact .inl rfl | exact .inr (has_of hw rfl) | exact .inl rfl | dsimp only | with_reducible apply within_modSec | with_reducible apply within_showMeas | with_reducible apply within_ite | with_reducible apply within_ite2 | with_reducible apply within_foldl | split | ((with_reducible apply within_mk); with_reducible exact rfl))

theorem within_deriveIdentity {M : Nat} {s0 s : State} (hw : Sub 0x100000000000000000000000000000000000000000000000000000000000 M) (hk : Within M s0 s) :
   Within M s0 (State.deriveIdentity s) := by
  unfold State.deriveIdentity
  repeat' (first | intro _ | with_reducible assumption | with_reducible exact rfl | exact sub_trans hw rfl | exact has_of hw rfl | with_reducible exact .inl rfl | exact .inr (has_of hw rfl) | exact .inl rfl | dsimp only | with_reducible apply within_setRegN | with_reducible apply within_ite | with_reducible apply within_ite2 | with_reducible apply within_foldl | split | ((with_reducible apply within_mk); with_reducible exact rfl))

theorem within_engineBusy {M : Nat} {s0 s : State} (r : CmdRef) (hw : Sub 0x24640000000000000010400000000000000000000000000000000000000000000245000 M) (hk : Within M s0 s) :
   Within M s0 (State.engineBusy s r) := by
  unfold State.engineBusy
  repeat' (first | intro _ | with_reducible assumption | with_reducible exact rfl | exact sub_trans hw rfl | exact has_of hw rfl | with_reducible exact .inl rfl | exact .inr (has_of hw rfl) | exact .inl rfl | dsimp only | with_reducible apply within_reply | with_reducible apply within_ite | with_reducible apply within_ite2 | with_reducible apply within_foldl | split | ((with_reducible apply within_mk); with_reducible exact rfl))

theorem within_keyEphemeral {M : Nat} {s0 s : State} (r : CmdRef) (hw : Sub 0x24640000000000000010400000000000000000000000000000000000000000000645800 M) (hk : Within M s0 s) :
   Within M s0 (State.keyEphemeral s r) := by
  unfold State.keyEphemeral
  repeat' (first | intro _ | with_reducible assumption | with_reducible exact rfl | exact sub_trans hw rfl | exact has_of hw rfl | with_reducible exact .inl rfl | exact .inr (has_of hw rfl) | exact .inl rfl | dsimp only | with_reducible apply within_onCmd | with_reducible apply within_engineBusy | with_reducible apply within_takeFree | with_reducible apply within_modSec | with_reducible apply within_hostWrite | with_reducible apply within_reply | with_reducible apply within_ite | with_reducible apply within_ite2 | with_reducible apply within_foldl | split | ((with_reducible apply within_mk); with_reducible exact rfl))

theorem within_keyExpiry {M : Nat} {s0 s : State} (f : Nat) (hw : Sub 0x800 M) (hk : Within M s0 s) :
   Within M s0 (State.keyExpiry s f) := by
  unfold State.keyExpiry
  repeat' (first | intro _ | with_reducible assumption | with_reducible exact rfl | exact sub_trans hw rfl | exact has_of hw rfl | with_reducible exact .inl rfl | exact .inr (has_of hw rfl) | exact .inl rfl | dsimp only | with_reducible apply within_modSec | with_reducible apply within_ite | with_reducible apply within_ite2 | with_reducible apply within_foldl | split | ((with_reducible apply within_mk); with_reducible exact rfl))

theorem within_keyDenied {M : Nat} {s0 s : State} (r : CmdRef) (hw : Sub 0x24640000000800000010400000000000000000000000000000000000000000000245000 M) (hk : Within M s0 s) :
   Within M s0 (State.keyDenied s r) := by
  unfold State.keyDenied
  repeat' (first | intro _ | with_reducible assumption | with_reducible exact rfl | exact sub_trans hw rfl | exact has_of hw rfl | with_reducible exact .inl rfl | exact .inr (has_of hw rfl) | exact .inl rfl | dsimp only | with_reducible apply within_secCount | with_reducible apply within_reply | with_reducible apply within_ite | with_reducible apply within_ite2 | with_reducible apply within_foldl | split | ((with_reducible apply within_mk); with_reducible exact rfl))

theorem within_keyImport {M : Nat} {s0 s : State} (r : CmdRef) (blob : List Byte) (hw : Sub 0x24640000000c00000010400000000000000000000000000000000000000000000245800 M) (hk : Within M s0 s) :
   Within M s0 (State.keyImport s r blob) := by
  unfold State.keyImport
  repeat' (first | intro _ | with_reducible assumption | with_reducible exact rfl | exact sub_trans hw rfl | exact has_of hw rfl | with_reducible exact .inl rfl | exact .inr (has_of hw rfl) | exact .inl rfl | dsimp only | with_reducible apply within_onCmd | with_reducible apply within_engineBusy | with_reducible apply within_reply | with_reducible apply within_withRead | with_reducible apply within_keyDenied | with_reducible apply within_modSec | with_reducible apply within_secCount | with_reducible apply within_ite | with_reducible apply within_ite2 | with_reducible apply within_foldl | split | ((with_reducible apply within_mk); with_reducible exact rfl))

theorem within_revokeKeys {M : Nat} {s0 s : State} (hw : Sub 0x24640000000000000100400000000000000000000000000000000000000000000240800 M) (hk : Within M s0 s) :
   Within M s0 (State.revokeKeys s) := by
  unfold State.revokeKeys
  repeat' (first | intro _ | with_reducible assumption | with_reducible exact rfl | exact sub_trans hw rfl | exact has_of hw rfl | with_reducible exact .inl rfl | exact .inr (has_of hw rfl) | exact .inl rfl | dsimp only | with_reducible apply within_modSec | with_reducible apply within_event | with_reducible apply within_ite | with_reducible apply within_ite2 | with_reducible apply within_foldl | split | ((with_reducible apply within_mk); with_reducible exact rfl))

theorem within_clearKeys {M : Nat} {s0 s : State} (f : Nat) (hw : Sub 0x800 M) (hk : Within M s0 s) :
   Within M s0 (State.clearKeys s f) := by
  unfold State.clearKeys
  repeat' (first | intro _ | with_reducible assumption | with_reducible exact rfl | exact sub_trans hw rfl | exact has_of hw rfl | with_reducible exact .inl rfl | exact .inr (has_of hw rfl) | exact .inl rfl | dsimp only | with_reducible apply within_modSec | with_reducible apply within_ite | with_reducible apply within_ite2 | with_reducible apply within_foldl | split | ((with_reducible apply within_mk); with_reducible exact rfl))

theorem within_attest {M : Nat} {s0 s : State} (r : CmdRef) (hw : Sub 0x24640000000200000010400000000000000000000000000000000000000000000245800 M) (hk : Within M s0 s) :
   Within M s0 (State.attest s r) := by
  unfold State.attest
  repeat' (first | intro _ | with_reducible assumption | with_reducible exact rfl | exact sub_trans hw rfl | exact has_of hw rfl | with_reducible exact .inl rfl | exact .inr (has_of hw rfl) | exact .inl rfl | dsimp only | with_reducible apply within_onCmd | with_reducible apply within_engineBusy | with_reducible apply within_reply | with_reducible apply within_hostWrite | with_reducible apply within_modSec | with_reducible apply within_secCount | with_reducible apply within_ite | with_reducible apply within_ite2 | with_reducible apply within_foldl | split | ((with_reducible apply within_mk); with_reducible exact rfl))

theorem within_tenantEnable {M : Nat} {s0 s : State} (r : CmdRef) (hw : Sub 0x24640000000000000010600000000000000000000000000000000000000000000245000 M) (hk : Within M s0 s) :
   Within M s0 (State.tenantEnable s r) := by
  unfold State.tenantEnable
  repeat' (first | intro _ | with_reducible assumption | with_reducible exact rfl | exact sub_trans hw rfl | exact has_of hw rfl | with_reducible exact .inl rfl | exact .inr (has_of hw rfl) | exact .inl rfl | dsimp only | with_reducible apply within_onCmd | with_reducible apply within_reply | with_reducible apply within_setFld | with_reducible apply within_ite | with_reducible apply within_ite2 | with_reducible apply within_foldl | split | ((with_reducible apply within_mk); with_reducible exact rfl))

theorem within_killCore {M : Nat} {s0 s : State} (i : Nat) (hw : Sub 0x80002c00030000000000000000000000000000000042080 M) (hk : Within M s0 s) :
   Within M s0 (State.killCore s i) := by
  unfold State.killCore
  repeat' (first | intro _ | with_reducible assumption | with_reducible exact rfl | exact sub_trans hw rfl | exact has_of hw rfl | with_reducible exact .inl rfl | exact .inr (has_of hw rfl) | exact .inl rfl | dsimp only | with_reducible apply within_recordFault | with_reducible apply within_setCoreState | with_reducible apply within_stopCore | with_reducible apply within_setCounter | with_reducible apply within_modCore | with_reducible apply within_ite | with_reducible apply within_ite2 | with_reducible apply within_foldl | split | ((with_reducible apply within_mk); with_reducible exact rfl))

theorem within_endCommands {M : Nat} {s0 s : State} (f : Nat) (hw : Sub 0x24640000000000000010400000000000000000000000000000000000000000000245000 M) (hk : Within M s0 s) :
   Within M s0 (State.endCommands s f) := by
  unfold State.endCommands
  repeat' (first | intro _ | with_reducible assumption | with_reducible exact rfl | exact sub_trans hw rfl | exact has_of hw rfl | with_reducible exact .inl rfl | exact .inr (has_of hw rfl) | exact .inl rfl | dsimp only | with_reducible apply within_reply | with_reducible apply within_ite | with_reducible apply within_ite2 | with_reducible apply within_foldl | split | ((with_reducible apply within_mk); with_reducible exact rfl))

theorem within_scrubModel {M : Nat} {s0 s : State} (h : Nat) (m : ModelS) (hw : Sub 0x1246400000000000000104000ae000144000000000000000000000000000000000247aa0 M) (hk : Within M s0 s) :
   Within M s0 (State.scrubModel s h m) := by
  unfold State.scrubModel
  repeat' (first | intro _ | with_reducible assumption | with_reducible exact rfl | exact sub_trans hw rfl | exact has_of hw rfl | with_reducible exact .inl rfl | exact .inr (has_of hw rfl) | exact .inl rfl | dsimp only | with_reducible apply within_dropModel | with_reducible apply within_clearFor | with_reducible apply within_map | with_reducible apply within_ite | with_reducible apply within_ite2 | with_reducible apply within_foldl | split | ((with_reducible apply within_mk); with_reducible exact rfl))

theorem within_scrubStop {M : Nat} {s0 s : State} (k : Nat) (hw : Sub 0x1246400000000000000106000ae002d64030010400000000008000000000000000247ff8 M) (hk : Within M s0 s) :
   Within M s0 (State.scrubStop s k) := by
  unfold State.scrubStop
  repeat' (first | intro _ | with_reducible assumption | with_reducible exact rfl | exact sub_trans hw rfl | exact has_of hw rfl | with_reducible exact .inl rfl | exact .inr (has_of hw rfl) | exact .inl rfl | dsimp only | with_reducible apply within_setFld | with_reducible apply within_modSec | with_reducible apply within_traceEv | with_reducible apply within_endCommands | with_reducible apply within_map | with_reducible apply within_stopStream | with_reducible apply within_killCore | with_reducible apply within_modFn | with_reducible apply within_scrubModel | with_reducible apply within_adaptEnd | with_reducible apply within_clearKeys | with_reducible apply within_ite | with_reducible apply within_ite2 | with_reducible apply within_foldl | split | ((with_reducible apply within_mk); with_reducible exact rfl))

theorem within_scrub {M : Nat} {s0 s : State} (k : Nat) (r : Option CmdRef) (reset : Bool) (hw : Sub 0x1246400000000000000106000ae002d64030010400000000008000000000000000247ff8 M) (hk : Within M s0 s) :
   Within M s0 (State.scrub s k r reset) := by
  unfold State.scrub
  repeat' (first | intro _ | with_reducible assumption | with_reducible exact rfl | exact sub_trans hw rfl | exact has_of hw rfl | with_reducible exact .inl rfl | exact .inr (has_of hw rfl) | exact .inl rfl | dsimp only | with_reducible apply within_scrubStop | with_reducible apply within_modSec | with_reducible apply within_map | with_reducible apply within_ite | with_reducible apply within_ite2 | with_reducible apply within_foldl | split | ((with_reducible apply within_mk); with_reducible exact rfl))

theorem within_tenantKill {M : Nat} {s0 s : State} (r : CmdRef) (hw : Sub 0x1246400000000000000106000ae002d64030010400000000008000000000000000247ff8 M) (hk : Within M s0 s) :
   Within M s0 (State.tenantKill s r) := by
  unfold State.tenantKill
  repeat' (first | intro _ | with_reducible assumption | with_reducible exact rfl | exact sub_trans hw rfl | exact has_of hw rfl | with_reducible exact .inl rfl | exact .inr (has_of hw rfl) | exact .inl rfl | dsimp only | with_reducible apply within_onCmd | with_reducible apply within_reply | with_reducible apply within_scrub | with_reducible apply within_ite | with_reducible apply within_ite2 | with_reducible apply within_foldl | split | ((with_reducible apply within_mk); with_reducible exact rfl))

theorem within_dropWays {M : Nat} {s0 s : State} (mask : Nat) (ranges : List (Nat × Nat)) (hw : Sub 0x500200 M) (hk : Within M s0 s) :
   Within M s0 (State.dropWays s mask ranges) := by
  unfold State.dropWays
  repeat' (first | intro _ | with_reducible assumption | with_reducible exact rfl | exact sub_trans hw rfl | exact has_of hw rfl | with_reducible exact .inl rfl | exact .inr (has_of hw rfl) | exact .inl rfl | dsimp only | with_reducible apply within_modHold | with_reducible apply within_takeFree | with_reducible apply within_memPut | with_reducible apply within_ite | with_reducible apply within_ite2 | with_reducible apply within_foldl | split | ((with_reducible apply within_mk); with_reducible exact rfl))

theorem within_scrubOnchip {M : Nat} {s0 s : State} (k : Nat) (hw : Sub 0x24640000000000000010400000ffeff7f70000000000000000000000000000000747ba0 M) (hk : Within M s0 s) :
   Within M s0 (State.scrubOnchip s k) := by
  unfold State.scrubOnchip
  repeat' (first | intro _ | with_reducible assumption | with_reducible exact rfl | exact sub_trans hw rfl | exact has_of hw rfl | with_reducible exact .inl rfl | exact .inr (has_of hw rfl) | exact .inl rfl | dsimp only | with_reducible apply within_snufRun | with_reducible apply within_modCore | with_reducible apply within_haltCore | with_reducible apply within_clearCore | with_reducible apply within_map | with_reducible apply within_modGroup | with_reducible apply within_dropWays | with_reducible apply within_modSec | with_reducible apply within_ite | with_reducible apply within_ite2 | with_reducible apply within_foldl | split | ((with_reducible apply within_mk); with_reducible exact rfl))

theorem within_resetWindow {M : Nat} {s0 s : State} (f : Nat) (hw : Sub 0xfffffffe00000000000000000000000000000000000000000000004003 M) (hk : Within M s0 s) :
   Within M s0 (State.resetWindow s f) := by
  unfold State.resetWindow
  repeat' (first | intro _ | with_reducible assumption | with_reducible exact rfl | exact sub_trans hw rfl | exact has_of hw rfl | with_reducible exact .inl rfl | exact .inr (has_of hw rfl) | exact .inl rfl | (rename_i h; simp only [Bool.and_eq_true, beq_iff_eq] at h; exact has_blk (b := .FN) hw (by decide +kernel) (by first | exact h.1.1.1 | exact h.1.1 | exact h.1)) | dsimp only | with_reducible apply within_resetRegs | with_reducible apply within_modFn | with_reducible apply within_ite | with_reducible apply within_ite2 | with_reducible apply within_foldl | split | ((with_reducible apply within_mk); with_reducible exact rfl))

theorem within_scrubMemory {M : Nat} {s0 s : State} (k : Nat) (hw : Sub 0x2464000000100fffffffe00000000000000000000000000000000000000000000345a03 M) (hk : Within M s0 s) :
   Within M s0 (State.scrubMemory s k) := by
  unfold State.scrubMemory
  repeat' (first | intro _ | with_reducible assumption | with_reducible exact rfl | exact sub_trans hw rfl | exact has_of hw rfl | with_reducible exact .inl rfl | exact .inr (has_of hw rfl) | exact .inl rfl | dsimp only | with_reducible apply within_snufRun | with_reducible apply within_zeroRange | with_reducible apply within_modSec | with_reducible apply within_resetWindow | with_reducible apply within_setFld | with_reducible apply within_traceEv | with_reducible apply within_event | with_reducible apply within_secCount | with_reducible apply within_reply | with_reducible apply within_ite | with_reducible apply within_ite2 | with_reducible apply within_foldl | split | ((with_reducible apply within_mk); with_reducible exact rfl))

theorem within_flrVf {M : Nat} {s0 s : State} (k : Nat) (hw : Sub 0x1246400000000000000106000ae002d64030010400000000008000000000000000247ff8 M) (hk : Within M s0 s) :
   Within M s0 (State.flrVf s k) := by
  unfold State.flrVf
  repeat' (first | intro _ | with_reducible assumption | with_reducible exact rfl | exact sub_trans hw rfl | exact has_of hw rfl | with_reducible exact .inl rfl | exact .inr (has_of hw rfl) | exact .inl rfl | dsimp only | with_reducible apply within_scrub | with_reducible apply within_ite | with_reducible apply within_ite2 | with_reducible apply within_foldl | split | ((with_reducible apply within_mk); with_reducible exact rfl))

theorem within_vfClear {M : Nat} {s0 s : State} (hw : Sub 0x1246400000000000000106000ae002d64030010400000000008000000000000000247ff8 M) (hk : Within M s0 s) :
   Within M s0 (State.vfClear s) := by
  unfold State.vfClear
  repeat' (first | intro _ | with_reducible assumption | with_reducible exact rfl | exact sub_trans hw rfl | exact has_of hw rfl | with_reducible exact .inl rfl | exact .inr (has_of hw rfl) | exact .inl rfl | dsimp only | with_reducible apply within_scrub | with_reducible apply within_ite | with_reducible apply within_ite2 | with_reducible apply within_foldl | split | ((with_reducible apply within_mk); with_reducible exact rfl))

theorem within_disableFn {M : Nat} {s0 s : State} (f : Nat) (hw : Sub 0x1555098000000000000000000000000000000000000000000000004000 M) (hk : Within M s0 s) :
   Within M s0 (State.disableFn s f) := by
  unfold State.disableFn
  repeat' (first | intro _ | with_reducible assumption | with_reducible exact rfl | exact sub_trans hw rfl | exact has_of hw rfl | with_reducible exact .inl rfl | exact .inr (has_of hw rfl) | exact .inl rfl | exact has_mem hw rfl (rxData_mem _) | exact has_mem hw rfl (rxCtl_mem _) | exact has_mem hw rfl (txCtl_mem _) | dsimp only | with_reducible apply within_cqDisable | with_reducible apply within_setFld | with_reducible apply within_setRegN | with_reducible apply within_modFn | with_reducible apply within_ite | with_reducible apply within_ite2 | with_reducible apply within_foldl | split | ((with_reducible apply within_mk); with_reducible exact rfl))

theorem within_flrPf {M : Nat} {s0 s : State} (hw : Sub 0x1246400000000015550986000ae002d64030010400000000008000000000000000257ff8 M) (hk : Within M s0 s) : Within M s0 (State.flrPf s) := by
  have last : ∀ t, Within M s0 t → Within M s0 (
      let t := { t with sfl := { t.sfl with inbox := [] } }
      { t with fns := t.fns.map fun e => (e.1, { e.2 with dev := [], host := [], grants := [] }) }) := by
    intro t ht
    dsimp only
    apply within_mk (t := t) rfl ht <;> first | exact .inl rfl | exact .inr (has_of hw rfl)
  unfold State.flrPf
  exact last _ (within_foldl _ _ (within_vfClear (sub_trans hw rfl)
    (within_foldl _ _ hk fun t n ht => within_stopStream _ _ _ _ (sub_trans hw rfl) ht))
    fun t f ht => within_disableFn _ (sub_trans hw rfl) ht)

theorem within_engineError {M : Nat} {s0 s : State} (hw : Sub 0x24640000002011ff8100400000000000000000000000000000000000000000000644800 M) (hk : Within M s0 s) :
   Within M s0 (State.engineError s) := by
  unfold State.engineError
  repeat' (first | intro _ | with_reducible assumption | with_reducible exact rfl | exact sub_trans hw rfl | exact has_of hw rfl | with_reducible exact .inl rfl | exact .inr (has_of hw rfl) | exact .inl rfl | dsimp only | with_reducible apply within_setFld | with_reducible apply within_modSec | with_reducible apply within_secCount | with_reducible apply within_logEvent | with_reducible apply within_revokeKeys | with_reducible apply within_notice | with_reducible apply within_ite | with_reducible apply within_ite2 | with_reducible apply within_foldl | split | ((with_reducible apply within_mk); with_reducible exact rfl))

theorem within_engineReady {M : Nat} {s0 s : State} (hw : Sub 0x24640000000990000010400000000000000000000000000000000000000000000245800 M) (hk : Within M s0 s) :
   Within M s0 (State.engineReady s) := by
  unfold State.engineReady
  repeat' (first | intro _ | with_reducible assumption | with_reducible exact rfl | exact sub_trans hw rfl | exact has_of hw rfl | with_reducible exact .inl rfl | exact .inr (has_of hw rfl) | exact .inl rfl | dsimp only | with_reducible apply within_setFld | with_reducible apply within_deriveIdentity | with_reducible apply within_showMeas | with_reducible apply within_modSec | with_reducible apply within_keyDenied | with_reducible apply within_ite | with_reducible apply within_ite2 | with_reducible apply within_foldl | split | ((with_reducible apply within_mk); with_reducible exact rfl))

theorem within_fwStage {M : Nat} {s0 s : State} (r : CmdRef) (x : FwImage) (hw : Sub 0x24640000000090000010400000000000000000000000000000000000000000000245800 M) (hk : Within M s0 s) :
   Within M s0 (State.fwStage s r x) := by
  unfold State.fwStage
  repeat' (first | intro _ | with_reducible assumption | with_reducible exact rfl | exact sub_trans hw rfl | exact has_of hw rfl | with_reducible exact .inl rfl | exact .inr (has_of hw rfl) | exact .inl rfl | dsimp only | with_reducible apply within_onCmd | with_reducible apply within_engineBusy | with_reducible apply within_reply | with_reducible apply within_withRead | with_reducible apply within_modSec | with_reducible apply within_modBoot | with_reducible apply within_emit | with_reducible apply within_setMeas | with_reducible apply within_setFld | with_reducible apply within_ite | with_reducible apply within_ite2 | with_reducible apply within_foldl | split | ((with_reducible apply within_mk); with_reducible exact rfl))

theorem within_fwSwitch {M : Nat} {s0 s : State} (r : CmdRef) (hw : Sub 0x24640000000000000010400000000000000000000000000000000000000000000245000 M) (hk : Within M s0 s) :
   Within M s0 (State.fwSwitch s r) := by
  unfold State.fwSwitch
  repeat' (first | intro _ | with_reducible assumption | with_reducible exact rfl | exact sub_trans hw rfl | exact has_of hw rfl | with_reducible exact .inl rfl | exact .inr (has_of hw rfl) | exact .inl rfl | dsimp only | with_reducible apply within_onCmd | with_reducible apply within_reply | with_reducible apply within_modBoot | with_reducible apply within_ite | with_reducible apply within_ite2 | with_reducible apply within_foldl | split | ((with_reducible apply within_mk); with_reducible exact rfl))

theorem within_switchBegin {M : Nat} {s0 s : State} (hw : Sub 0x24640000000001ff8000400000000000004090000000000000000000000000000645400 M) (hk : Within M s0 s) :
   Within M s0 (State.switchBegin s) := by
  unfold State.switchBegin
  repeat' (first | intro _ | with_reducible assumption | with_reducible exact rfl | exact sub_trans hw rfl | exact has_of hw rfl | with_reducible exact .inl rfl | exact .inr (has_of hw rfl) | exact .inl rfl | dsimp only | with_reducible apply within_modBoot | with_reducible apply within_notice | with_reducible apply within_pauseAdapt | with_reducible apply within_traceEv | with_reducible apply within_ite | with_reducible apply within_ite2 | with_reducible apply within_foldl | split | ((with_reducible apply within_mk); with_reducible exact rfl))

theorem within_switchEnd {M : Nat} {s0 s : State} (w : SwitchS) (arg : Nat) (status : Nat) (hw : Sub 0x24640000000000000010400000000000000090000000000000000000000000000245400 M) (hk : Within M s0 s) :
   Within M s0 (State.switchEnd s w arg status) := by
  unfold State.switchEnd
  repeat' (first | intro _ | with_reducible assumption | with_reducible exact rfl | exact sub_trans hw rfl | exact has_of hw rfl | with_reducible exact .inl rfl | exact .inr (has_of hw rfl) | exact .inl rfl | dsimp only | with_reducible apply within_unpauseAdapt | with_reducible apply within_modBoot | with_reducible apply within_traceEv | with_reducible apply within_reply | with_reducible apply within_ite | with_reducible apply within_ite2 | with_reducible apply within_foldl | split | ((with_reducible apply within_mk); with_reducible exact rfl))

theorem within_switchFail {M : Nat} {s0 s : State} (w : SwitchS) (hw : Sub 0x24640000000000000010400000000000000090000000000000000000000000000245400 M) (hk : Within M s0 s) :
   Within M s0 (State.switchFail s w) := by
  unfold State.switchFail
  repeat' (first | intro _ | with_reducible assumption | with_reducible exact rfl | exact sub_trans hw rfl | exact has_of hw rfl | with_reducible exact .inl rfl | exact .inr (has_of hw rfl) | exact .inl rfl | dsimp only | with_reducible apply within_logEvent | with_reducible apply within_switchEnd | with_reducible apply within_ite | with_reducible apply within_ite2 | with_reducible apply within_foldl | split | ((with_reducible apply within_mk); with_reducible exact rfl))

theorem within_reloaded {M : Nat} {s0 s : State} (ok : Bool) (hw : Sub 0x24640000000000000010400000000000000090000000000000000000000000000245400 M) (hk : Within M s0 s) :
   Within M s0 (State.reloaded s ok) := by
  unfold State.reloaded
  repeat' (first | intro _ | with_reducible assumption | with_reducible exact rfl | exact sub_trans hw rfl | exact has_of hw rfl | with_reducible exact .inl rfl | exact .inr (has_of hw rfl) | exact .inl rfl | dsimp only | with_reducible apply within_modBoot | with_reducible apply within_switchFail | with_reducible apply within_ite | with_reducible apply within_ite2 | with_reducible apply within_foldl | split | ((with_reducible apply within_mk); with_reducible exact rfl))

theorem within_resumeTimeout {M : Nat} {s0 s : State} (hw : Sub 0x24640000000000000010400000000000000090000000000000000000000000000245400 M) (hk : Within M s0 s) :
   Within M s0 (State.resumeTimeout s) := by
  unfold State.resumeTimeout
  repeat' (first | intro _ | with_reducible assumption | with_reducible exact rfl | exact sub_trans hw rfl | exact has_of hw rfl | with_reducible exact .inl rfl | exact .inr (has_of hw rfl) | exact .inl rfl | dsimp only | with_reducible apply within_switchFail | with_reducible apply within_ite | with_reducible apply within_ite2 | with_reducible apply within_foldl | split | ((with_reducible apply within_mk); with_reducible exact rfl))

theorem within_switchComplete {M : Nat} {s0 s : State} (hw : Sub 0x24640000000090000110400000000000000090000000000000000000000000000245c00 M) (hk : Within M s0 s) :
   Within M s0 (State.switchComplete s) := by
  unfold State.switchComplete
  repeat' (first | intro _ | with_reducible assumption | with_reducible exact rfl | exact sub_trans hw rfl | exact has_of hw rfl | with_reducible exact .inl rfl | exact .inr (has_of hw rfl) | exact .inl rfl | dsimp only | with_reducible apply within_modBoot | with_reducible apply within_emit | with_reducible apply within_setMeas | with_reducible apply within_modSec | with_reducible apply within_setFld | with_reducible apply within_revokeKeys | with_reducible apply within_switchEnd | with_reducible apply within_ite | with_reducible apply within_ite2 | with_reducible apply within_foldl | split | ((with_reducible apply within_mk); with_reducible exact rfl))

theorem within_zeroed {M : Nat} {s0 s : State} (n : Nat) (l : List RegName) (hl : ∀ r ∈ l, Has M r.ix)
    (hk : Within M s0 s) : Within M s0 (l.foldl (fun s r => s.setRegN r n 0) s) := by
  induction l generalizing s with
  | nil => exact hk
  | cons r l ih =>
    exact ih (fun x hx => hl x (.tail _ hx)) (within_setRegN _ _ _ (hl r (List.mem_cons_self ..)) hk)

theorem within_freshStream {M : Nat} {s0 s : State} (n : Nat) (hw : Sub 0x7803c0003c0207f00000000000000000000c0 M) (hk : Within M s0 s) :
   Within M s0 (State.freshStream s n) := by
  unfold State.freshStream
  repeat' (first | intro _ | with_reducible assumption | with_reducible exact rfl | exact sub_trans hw rfl | exact has_of hw rfl | with_reducible exact .inl rfl | exact .inr (has_of hw rfl) | exact .inl rfl | exact has_mem hw rfl ‹_› | dsimp only | with_reducible apply within_zeroed | with_reducible apply within_forgetDrawn | with_reducible apply within_setRegN | with_reducible apply within_setFld | with_reducible apply within_ite | with_reducible apply within_ite2 | with_reducible apply within_foldl | split | ((with_reducible apply within_mk); with_reducible exact rfl))

theorem within_forgetCommit {M : Nat} {s0 s : State} (n : Nat) (hw : Sub 0x24640000000000000010400000000000000000000000000000000000000000000245008 M) (hk : Within M s0 s) :
   Within M s0 (State.forgetCommit s n) := by
  unfold State.forgetCommit
  repeat' (first | intro _ | with_reducible assumption | with_reducible exact rfl | exact sub_trans hw rfl | exact has_of hw rfl | with_reducible exact .inl rfl | exact .inr (has_of hw rfl) | exact .inl rfl | dsimp only | with_reducible apply within_modPort | with_reducible apply within_map | with_reducible apply within_ite | with_reducible apply within_ite2 | with_reducible apply within_foldl | split | ((with_reducible apply within_mk); with_reducible exact rfl))

theorem within_reserve {M : Nat} {s0 s : State} (n : Nat) (set : ExpoSet) (hw : Sub 0x24640000000000000010400000000000007803c0003c0207f80000000000000002470e8 M) (hk : Within M s0 s) :
   Within M s0 (State.reserve s n set) := by
  unfold State.reserve
  repeat' (first | intro _ | with_reducible assumption | with_reducible exact rfl | exact sub_trans hw rfl | exact has_of hw rfl | with_reducible exact .inl rfl | exact .inr (has_of hw rfl) | exact .inl rfl | dsimp only | with_reducible apply within_modGroup | with_reducible apply within_modCam | with_reducible apply within_forgetCommit | with_reducible apply within_freshStream | with_reducible apply within_enablesNow | with_reducible apply within_setFld | with_reducible apply within_ite | with_reducible apply within_ite2 | with_reducible apply within_foldl | split | ((with_reducible apply within_mk); with_reducible exact rfl))

theorem within_beginStream {M : Nat} {s0 s : State} (n : Nat) (r : CmdRef) (hw : Sub 0x24640000000000000010400000000000007893c0003c0307f8000000000000000247cf8 M) (hk : Within M s0 s) :
   Within M s0 (State.beginStream s n r) := by
  unfold State.beginStream
  repeat' (first | intro _ | with_reducible assumption | with_reducible exact rfl | exact sub_trans hw rfl | exact has_of hw rfl | with_reducible exact .inl rfl | exact .inr (has_of hw rfl) | exact .inl rfl | dsimp only | with_reducible apply within_setEvt | with_reducible apply within_adaptAtStart | with_reducible apply within_reserve | with_reducible apply within_modCam | with_reducible apply within_startOutcome | with_reducible apply within_sendSettings | with_reducible apply within_ite | with_reducible apply within_ite2 | with_reducible apply within_foldl | split | ((with_reducible apply within_mk); with_reducible exact rfl))

theorem within_streamStart {M : Nat} {s0 s : State} (r : CmdRef) (hw : Sub 0x24640000000000000010400000000000007893c0003c0307f8000000000000020247cf8 M) (hk : Within M s0 s) :
   Within M s0 (State.streamStart s r) := by
  unfold State.streamStart
  repeat' (first | intro _ | with_reducible assumption | with_reducible exact rfl | exact sub_trans hw rfl | exact has_of hw rfl | with_reducible exact .inl rfl | exact .inr (has_of hw rfl) | exact .inl rfl | dsimp only | with_reducible apply within_onCmd | with_reducible apply within_reply | with_reducible apply within_setFld | with_reducible apply within_beginStream | with_reducible apply within_ite | with_reducible apply within_ite2 | with_reducible apply within_foldl | split | ((with_reducible apply within_mk); with_reducible exact rfl))

theorem within_streamStop {M : Nat} {s0 s : State} (r : CmdRef) (abort : Bool) (hw : Sub 0x24640000000000000010400080002c200100004000000000080000000000000002475f8 M) (hk : Within M s0 s) :
   Within M s0 (State.streamStop s r abort) := by
  unfold State.streamStop
  repeat' (first | intro _ | with_reducible assumption | with_reducible exact rfl | exact sub_trans hw rfl | exact has_of hw rfl | with_reducible exact .inl rfl | exact .inr (has_of hw rfl) | exact .inl rfl | dsimp only | with_reducible apply within_onCmd | with_reducible apply within_reply | with_reducible apply within_stopStream | with_reducible apply within_ite | with_reducible apply within_ite2 | with_reducible apply within_foldl | split | ((with_reducible apply within_mk); with_reducible exact rfl))

theorem within_onAdapt {M : Nat} {s0 s : State} (r : CmdRef) (op : Nat) (body : Nat → State → State) (hw : Sub 0x4000 M) (hk : Within M s0 s) (hbody : ∀ x0 t, Within M s0 t → Within M s0 (body x0 t)) :
   Within M s0 (State.onAdapt s r op body) := by
  unfold State.onAdapt
  repeat' (first | intro _ | with_reducible assumption | with_reducible exact rfl | exact sub_trans hw rfl | exact has_of hw rfl | with_reducible exact .inl rfl | exact .inr (has_of hw rfl) | exact .inl rfl | dsimp only | with_reducible apply within_onCmd | exact hbody _ ‹_›| apply hbody | with_reducible apply within_ite | with_reducible apply within_ite2 | with_reducible apply within_foldl | split | ((with_reducible apply within_mk); with_reducible exact rfl))

theorem within_adaptRefsCmd {M : Nat} {s0 s : State} (r : CmdRef) (refs : List (Nat × Nat × Nat)) (hw : Sub 0x24640000000000000010400000000000000000000000000000000000000000000245400 M) (hk : Within M s0 s) :
   Within M s0 (State.adaptRefsCmd s r refs) := by
  unfold State.adaptRefsCmd
  repeat' (first | intro _ | with_reducible assumption | with_reducible exact rfl | exact sub_trans hw rfl | exact has_of hw rfl | with_reducible exact .inl rfl | exact .inr (has_of hw rfl) | exact .inl rfl | dsimp only | with_reducible apply within_onCmd | with_reducible apply within_reply | with_reducible apply within_withRead | with_reducible apply within_adaptRefs | with_reducible apply within_ite | with_reducible apply within_ite2 | with_reducible apply within_foldl | split | ((with_reducible apply within_mk); with_reducible exact rfl))

theorem within_adaptExportCmd {M : Nat} {s0 s : State} (r : CmdRef) (hw : Sub 0x24640000000000000010400000000000000000000000000000000000000000000245000 M) (hk : Within M s0 s) :
   Within M s0 (State.adaptExportCmd s r) := by
  unfold State.adaptExportCmd
  repeat' (first | intro _ | with_reducible assumption | with_reducible exact rfl | exact sub_trans hw rfl | exact has_of hw rfl | with_reducible exact .inl rfl | exact .inr (has_of hw rfl) | exact .inl rfl | dsimp only | with_reducible apply within_onCmd | with_reducible apply within_adaptExport | with_reducible apply within_ite | with_reducible apply within_ite2 | with_reducible apply within_foldl | split | ((with_reducible apply within_mk); with_reducible exact rfl))

theorem within_adaptImportCmd {M : Nat} {s0 s : State} (r : CmdRef) (bytes : List Byte) (hw : Sub 0x24640000000000000010400000000000000080000000000000000000000000000245420 M) (hk : Within M s0 s) :
   Within M s0 (State.adaptImportCmd s r bytes) := by
  unfold State.adaptImportCmd
  repeat' (first | intro _ | with_reducible assumption | with_reducible exact rfl | exact sub_trans hw rfl | exact has_of hw rfl | with_reducible exact .inl rfl | exact .inr (has_of hw rfl) | exact .inl rfl | dsimp only | with_reducible apply within_onCmd | with_reducible apply within_withRead | with_reducible apply within_adaptImport | with_reducible apply within_ite | with_reducible apply within_ite2 | with_reducible apply within_foldl | split | ((with_reducible apply within_mk); with_reducible exact rfl))

theorem within_counterRead {M : Nat} {s0 s : State} (r : CmdRef) (hw : Sub 0x24640000000000000010400000000000000000000000000000000000000000000245000 M) (hk : Within M s0 s) :
   Within M s0 (State.counterRead s r) := by
  unfold State.counterRead
  repeat' (first | intro _ | with_reducible assumption | with_reducible exact rfl | exact sub_trans hw rfl | exact has_of hw rfl | with_reducible exact .inl rfl | exact .inr (has_of hw rfl) | exact .inl rfl | dsimp only | with_reducible apply within_onCmd | with_reducible apply within_reply | with_reducible apply within_hostWrite | with_reducible apply within_map | with_reducible apply within_ite | with_reducible apply within_ite2 | with_reducible apply within_foldl | split | ((with_reducible apply within_mk); with_reducible exact rfl))

theorem within_traceRead {M : Nat} {s0 s : State} (r : CmdRef) (hw : Sub 0x24640000000000000010400000000000000000000000000000000000000000000245000 M) (hk : Within M s0 s) :
   Within M s0 (State.traceRead s r) := by
  unfold State.traceRead
  repeat' (first | intro _ | with_reducible assumption | with_reducible exact rfl | exact sub_trans hw rfl | exact has_of hw rfl | with_reducible exact .inl rfl | exact .inr (has_of hw rfl) | exact .inl rfl | dsimp only | with_reducible apply within_onCmd | with_reducible apply within_map | with_reducible apply within_hostWrite | with_reducible apply within_reply | with_reducible apply within_ite | with_reducible apply within_ite2 | with_reducible apply within_foldl | split | ((with_reducible apply within_mk); with_reducible exact rfl))

theorem within_layerTotals {M : Nat} {s0 s : State} (r : CmdRef) (hw : Sub 0x24640000000000000010400000000000000000000000000000000000000000000245000 M) (hk : Within M s0 s) :
   Within M s0 (State.layerTotals s r) := by
  unfold State.layerTotals
  repeat' (first | intro _ | with_reducible assumption | with_reducible exact rfl | exact sub_trans hw rfl | exact has_of hw rfl | with_reducible exact .inl rfl | exact .inr (has_of hw rfl) | exact .inl rfl | dsimp only | with_reducible apply within_onCmd | with_reducible apply within_reply | with_reducible apply within_hostWrite | with_reducible apply within_ite | with_reducible apply within_ite2 | with_reducible apply within_foldl | split | ((with_reducible apply within_mk); with_reducible exact rfl))

theorem within_errRelease {M : Nat} {s0 s : State} (n : Nat) (hw : Sub 0x80000000000000000000000000000000000000000000000000000000000000000000 M) (hk : Within M s0 s) :
   Within M s0 (State.errRelease s n) := by
  unfold State.errRelease
  repeat' (first | intro _ | with_reducible assumption | with_reducible exact rfl | exact sub_trans hw rfl | exact has_of hw rfl | with_reducible exact .inl rfl | exact .inr (has_of hw rfl) | exact .inl rfl | dsimp only | with_reducible apply within_setRegN | with_reducible apply within_ite | with_reducible apply within_ite2 | with_reducible apply within_foldl | split | ((with_reducible apply within_mk); with_reducible exact rfl))

theorem within_errReleaseWrite {M : Nat} {s0 s : State} (v : Nat) (hw : Sub 0x80000000000000000000000000000000000000000000000000000000000000000000 M) (hk : Within M s0 s) :
   Within M s0 (State.errReleaseWrite s v) := by
  unfold State.errReleaseWrite
  repeat' (first | intro _ | with_reducible assumption | with_reducible exact rfl | exact sub_trans hw rfl | exact has_of hw rfl | with_reducible exact .inl rfl | exact .inr (has_of hw rfl) | exact .inl rfl | dsimp only | with_reducible apply within_errRelease | with_reducible apply within_ite | with_reducible apply within_ite2 | with_reducible apply within_foldl | split | ((with_reducible apply within_mk); with_reducible exact rfl))

theorem within_errFirstWrite {M : Nat} {s0 s : State} (v : Nat) (hw : Sub 0x400000000000000000000000000000000000000000000000000000000000000000000 M) (hk : Within M s0 s) :
   Within M s0 (State.errFirstWrite s v) := by
  unfold State.errFirstWrite
  repeat' (first | intro _ | with_reducible assumption | with_reducible exact rfl | exact sub_trans hw rfl | exact has_of hw rfl | with_reducible exact .inl rfl | exact .inr (has_of hw rfl) | exact .inl rfl | dsimp only | with_reducible apply within_setFld | with_reducible apply within_ite | with_reducible apply within_ite2 | with_reducible apply within_foldl | split | ((with_reducible apply within_mk); with_reducible exact rfl))

theorem within_errlogRead {M : Nat} {s0 s : State} (r : CmdRef) (hw : Sub 0x246c0000000000000010400000000000000000000000000000000000000000000245000 M) (hk : Within M s0 s) :
   Within M s0 (State.errlogRead s r) := by
  unfold State.errlogRead
  repeat' (first | intro _ | with_reducible assumption | with_reducible exact rfl | exact sub_trans hw rfl | exact has_of hw rfl | with_reducible exact .inl rfl | exact .inr (has_of hw rfl) | exact .inl rfl | dsimp only | with_reducible apply within_onCmd | with_reducible apply within_hostWrite | with_reducible apply within_map | with_reducible apply within_errRelease | with_reducible apply within_reply | with_reducible apply within_ite | with_reducible apply within_ite2 | with_reducible apply within_foldl | split | ((with_reducible apply within_mk); with_reducible exact rfl))

end Sys2Proof.Machine
end

