-- ==== Sys2Proof/Laws/WithinBlock.lean ====
section
/-! SUPPORT. The parts that each operation of Safelight, the chain, resets and register accesses may touch. -/
set_option linter.all false
namespace Sys2Proof.Machine

theorem within_modSfl {M : Nat} {s0 s : State} (f : SflS → SflS) (hw : Sub 0x10000 M) (hk : Within M s0 s) :
   Within M s0 (State.modSfl s f) := by
  unfold State.modSfl
  repeat' (first | intro _ | with_reducible assumption | with_reducible exact rfl | exact sub_trans hw rfl | exact has_of hw rfl | with_reducible exact .inl rfl | exact .inr (has_of hw rfl) | exact .inl rfl | dsimp only | with_reducible apply within_ite | with_reducible apply within_ite2 | with_reducible apply within_foldl | split | ((with_reducible apply within_mk); with_reducible exact rfl))

theorem within_sflCount {M : Nat} {s0 s : State} (r : RegName) (hw : Sub 0x24640000000000000000000000000000000000000000000000000000000000000240000 M) (hr_r : Has M r.ix) (hk : Within M s0 s) :
   Within M s0 (State.sflCount s r) := by
  unfold State.sflCount
  repeat' (first | intro _ | with_reducible assumption | with_reducible exact rfl | exact sub_trans hw rfl | exact has_of hw rfl | with_reducible exact .inl rfl | exact .inr (has_of hw rfl) | exact .inl rfl | dsimp only | with_reducible apply within_bump | exact hr_r | with_reducible apply within_ite | with_reducible apply within_ite2 | with_reducible apply within_foldl | split | ((with_reducible apply within_mk); with_reducible exact rfl))

theorem within_fatalError {M : Nat} {s0 s : State} (cause : Nat) (unit : Nat) (hw : Sub 0x27e400000000000000000000000000000000000000000000000000000000000002c0000 M) (hk : Within M s0 s) :
   Within M s0 (State.fatalError s cause unit) := by
  unfold State.fatalError
  repeat' (first | intro _ | with_reducible assumption | with_reducible exact rfl | exact sub_trans hw rfl | exact has_of hw rfl | with_reducible exact .inl rfl | exact .inr (has_of hw rfl) | exact .inl rfl | dsimp only | with_reducible apply within_emit | with_reducible apply within_setFld | with_reducible apply within_setPair | with_reducible apply within_logEvent | with_reducible apply within_ite | with_reducible apply within_ite2 | with_reducible apply within_foldl | split | ((with_reducible apply within_mk); with_reducible exact rfl))

theorem within_thermTrip {M : Nat} {s0 s : State} (hw : Sub 0x27e40000008000000000000000ffeff7f700000000000000000000000000000002c21a0 M) (hk : Within M s0 s) :
   Within M s0 (State.thermTrip s) := by
  unfold State.thermTrip
  repeat' (first | intro _ | with_reducible assumption | with_reducible exact rfl | exact sub_trans hw rfl | exact has_of hw rfl | with_reducible exact .inl rfl | exact .inr (has_of hw rfl) | exact .inl rfl | dsimp only | with_reducible apply within_setFld | with_reducible apply within_emit | with_reducible apply within_haltCore | with_reducible apply within_fatalError | with_reducible apply within_ite | with_reducible apply within_ite2 | with_reducible apply within_foldl | split | ((with_reducible apply within_mk); with_reducible exact rfl))

theorem within_failClosed {M : Nat} {s0 s : State} (cause : Nat) (hw : Sub 0x24640000008000000000000000000000000000000000000000000000000000000250000 M) (hk : Within M s0 s) :
   Within M s0 (State.failClosed s cause) := by
  unfold State.failClosed
  repeat' (first | intro _ | with_reducible assumption | with_reducible exact rfl | exact sub_trans hw rfl | exact has_of hw rfl | with_reducible exact .inl rfl | exact .inr (has_of hw rfl) | exact .inl rfl | dsimp only | with_reducible apply within_modSfl | with_reducible apply within_setFld | with_reducible apply within_logEvent | with_reducible apply within_ite | with_reducible apply within_ite2 | with_reducible apply within_foldl | split | ((with_reducible apply within_mk); with_reducible exact rfl))

theorem within_sclkStop {M : Nat} {s0 s : State} (hw : Sub 0x2464000000800000000000000000000000000000000000000000000000000000c250000 M) (hk : Within M s0 s) :
   Within M s0 (State.sclkStop s) := by
  unfold State.sclkStop
  repeat' (first | intro _ | with_reducible assumption | with_reducible exact rfl | exact sub_trans hw rfl | exact has_of hw rfl | with_reducible exact .inl rfl | exact .inr (has_of hw rfl) | exact .inl rfl | dsimp only | with_reducible apply within_setFld | with_reducible apply within_failClosed | with_reducible apply within_ite | with_reducible apply within_ite2 | with_reducible apply within_foldl | split | ((with_reducible apply within_mk); with_reducible exact rfl))

theorem within_noPolicy {M : Nat} {s0 s : State} (hw : Sub 0x18000000000000000000000000000000000000000000000000000000010000 M) (hk : Within M s0 s) :
   Within M s0 (State.noPolicy s) := by
  unfold State.noPolicy
  repeat' (first | intro _ | with_reducible assumption | with_reducible exact rfl | exact sub_trans hw rfl | exact has_of hw rfl | with_reducible exact .inl rfl | exact .inr (has_of hw rfl) | exact .inl rfl | dsimp only | with_reducible apply within_modSfl | with_reducible apply within_setFld | with_reducible apply within_setRegN | with_reducible apply within_ite | with_reducible apply within_ite2 | with_reducible apply within_foldl | split | ((with_reducible apply within_mk); with_reducible exact rfl))

theorem within_sflRestarted {M : Nat} {s0 s : State} (hw : Sub 0x24640000418080000000000000000000000000000000000000000000000000004250800 M) (hk : Within M s0 s) :
   Within M s0 (State.sflRestarted s) := by
  unfold State.sflRestarted
  repeat' (first | intro _ | with_reducible assumption | with_reducible exact rfl | exact sub_trans hw rfl | exact has_of hw rfl | with_reducible exact .inl rfl | exact .inr (has_of hw rfl) | exact .inl rfl | dsimp only | with_reducible apply within_modSfl | with_reducible apply within_failClosed | with_reducible apply within_setFld | with_reducible apply within_noPolicy | with_reducible apply within_setMeas | with_reducible apply within_sflCount | with_reducible apply within_ite | with_reducible apply within_ite2 | with_reducible apply within_foldl | split | ((with_reducible apply within_mk); with_reducible exact rfl))

theorem within_blowEnrol {M : Nat} {s0 s : State} (d : List Byte) (hw : Sub 0x210000 M) (hk : Within M s0 s) :
   Within M s0 (State.blowEnrol s d) := by
  unfold State.blowEnrol
  repeat' (first | intro _ | with_reducible assumption | with_reducible exact rfl | exact sub_trans hw rfl | exact has_of hw rfl | with_reducible exact .inl rfl | exact .inr (has_of hw rfl) | exact .inl rfl | dsimp only | with_reducible apply within_ite | with_reducible apply within_ite2 | with_reducible apply within_foldl | split | ((with_reducible apply within_mk); with_reducible exact rfl))

theorem within_privEnrol {M : Nat} {s0 s : State} (r : CmdRef) (key : List Byte) (hw : Sub 0x24640000018080000010400000000000000000000000000000000000000000000255800 M) (hk : Within M s0 s) :
   Within M s0 (State.privEnrol s r key) := by
  unfold State.privEnrol
  repeat' (first | intro _ | with_reducible assumption | with_reducible exact rfl | exact sub_trans hw rfl | exact has_of hw rfl | with_reducible exact .inl rfl | exact .inr (has_of hw rfl) | exact .inl rfl | dsimp only | with_reducible apply within_onCmd | with_reducible apply within_engineBusy | with_reducible apply within_setTaken | with_reducible apply within_withRead | with_reducible apply within_reply | with_reducible apply within_blowEnrol | with_reducible apply within_noPolicy | with_reducible apply within_setMeas | with_reducible apply within_ite | with_reducible apply within_ite2 | with_reducible apply within_foldl | split | ((with_reducible apply within_mk); with_reducible exact rfl))

theorem within_acceptPolicy {M : Nat} {s0 s : State} (p : PolicyPkt) (hw : Sub 0x24640000018080000010400000000000000000000000000000000000000000000255800 M) (hk : Within M s0 s) :
   Within M s0 (State.acceptPolicy s p) := by
  unfold State.acceptPolicy
  repeat' (first | intro _ | with_reducible assumption | with_reducible exact rfl | exact sub_trans hw rfl | exact has_of hw rfl | with_reducible exact .inl rfl | exact .inr (has_of hw rfl) | exact .inl rfl | dsimp only | with_reducible apply within_modSfl | with_reducible apply within_setRegN | with_reducible apply within_setFld | with_reducible apply within_setMeas | with_reducible apply within_map | with_reducible apply within_ite | with_reducible apply within_ite2 | with_reducible apply within_foldl | split | ((with_reducible apply within_mk); with_reducible exact rfl))

theorem within_policySubmit {M : Nat} {s0 s : State} (r : CmdRef) (bytes : List Byte) (hw : Sub 0x24640000218080000010400000000000000000000000000000000000000000000255800 M) (hk : Within M s0 s) :
   Within M s0 (State.policySubmit s r bytes) := by
  unfold State.policySubmit
  repeat' (first | intro _ | with_reducible assumption | with_reducible exact rfl | exact sub_trans hw rfl | exact has_of hw rfl | with_reducible exact .inl rfl | exact .inr (has_of hw rfl) | exact .inl rfl | dsimp only | with_reducible apply within_onCmd | with_reducible apply within_engineBusy | with_reducible apply within_setTaken | with_reducible apply within_withRead | with_reducible apply within_acceptPolicy | with_reducible apply within_reply | with_reducible apply within_sflCount | with_reducible apply within_ite | with_reducible apply within_ite2 | with_reducible apply within_foldl | split | ((with_reducible apply within_mk); with_reducible exact rfl))

theorem within_holdAssert {M : Nat} {s0 s : State} (hw : Sub 0x24640001008000000000000000000000000000000000000000000000000000000250000 M) (hk : Within M s0 s) :
   Within M s0 (State.holdAssert s) := by
  unfold State.holdAssert
  repeat' (first | intro _ | with_reducible assumption | with_reducible exact rfl | exact sub_trans hw rfl | exact has_of hw rfl | with_reducible exact .inl rfl | exact .inr (has_of hw rfl) | exact .inl rfl | dsimp only | with_reducible apply within_modSfl | with_reducible apply within_setFld | with_reducible apply within_sflCount | with_reducible apply within_ite | with_reducible apply within_ite2 | with_reducible apply within_foldl | split | ((with_reducible apply within_mk); with_reducible exact rfl))

theorem within_holdRelease {M : Nat} {s0 s : State} (hw : Sub 0x8000000000000000000000000000000000000000000000000000000010000 M) (hk : Within M s0 s) :
   Within M s0 (State.holdRelease s) := by
  unfold State.holdRelease
  repeat' (first | intro _ | with_reducible assumption | with_reducible exact rfl | exact sub_trans hw rfl | exact has_of hw rfl | with_reducible exact .inl rfl | exact .inr (has_of hw rfl) | exact .inl rfl | dsimp only | with_reducible apply within_modSfl | with_reducible apply within_setFld | with_reducible apply within_ite | with_reducible apply within_ite2 | with_reducible apply within_foldl | split | ((with_reducible apply within_mk); with_reducible exact rfl))

theorem within_powerSample {M : Nat} {s0 s : State} (mw : Nat) (hw : Sub 0x40000000000000000000000000000000000000000000000000000000450000 M) (hk : Within M s0 s) :
   Within M s0 (State.powerSample s mw) := by
  unfold State.powerSample
  repeat' (first | intro _ | with_reducible assumption | with_reducible exact rfl | exact sub_trans hw rfl | exact has_of hw rfl | with_reducible exact .inl rfl | exact .inr (has_of hw rfl) | exact .inl rfl | dsimp only | with_reducible apply within_modSfl | with_reducible apply within_obsAdd | with_reducible apply within_takeFree | with_reducible apply within_setFld | with_reducible apply within_ite | with_reducible apply within_ite2 | with_reducible apply within_foldl | split | ((with_reducible apply within_mk); with_reducible exact rfl))

theorem within_junctionRead {M : Nat} {s0 s : State} (temps : List Int) (hw : Sub 0x80000000000000000000000000000000000000000000000000000000000000 M) (hk : Within M s0 s) :
   Within M s0 (State.junctionRead s temps) := by
  unfold State.junctionRead
  repeat' (first | intro _ | with_reducible assumption | with_reducible exact rfl | exact sub_trans hw rfl | exact has_of hw rfl | with_reducible exact .inl rfl | exact .inr (has_of hw rfl) | exact .inl rfl | dsimp only | with_reducible apply within_setFld | with_reducible apply within_ite | with_reducible apply within_ite2 | with_reducible apply within_foldl | split | ((with_reducible apply within_mk); with_reducible exact rfl))

theorem within_setG {M : Nat} {s0 s : State} (g : Nat) (hw : Sub 0x27e40000908001ff8000400000ffeff7f740900000000000000000000000000002d65a0 M) (hk : Within M s0 s) :
   Within M s0 (State.setG s g) := by
  unfold State.setG
  repeat' (first | intro _ | with_reducible assumption | with_reducible exact rfl | exact sub_trans hw rfl | exact has_of hw rfl | with_reducible exact .inl rfl | exact .inr (has_of hw rfl) | exact .inl rfl | dsimp only | with_reducible apply within_setFld | with_reducible apply within_modSfl | with_reducible apply within_sflCount | with_reducible apply within_logEvent | with_reducible apply within_traceEv | with_reducible apply within_pauseAdapt | with_reducible apply within_unpauseAdapt | with_reducible apply within_sendTo | with_reducible apply within_thermTrip | with_reducible apply within_ite | with_reducible apply within_ite2 | with_reducible apply within_foldl | split | ((with_reducible apply within_mk); with_reducible exact rfl))

theorem within_applyLimit {M : Nat} {s0 s : State} (hw : Sub 0x120000000000000000000000000000000000000000000000000000000010000 M) (hk : Within M s0 s) :
   Within M s0 (State.applyLimit s) := by
  unfold State.applyLimit
  repeat' (first | intro _ | with_reducible assumption | with_reducible exact rfl | exact sub_trans hw rfl | exact has_of hw rfl | with_reducible exact .inl rfl | exact .inr (has_of hw rfl) | exact .inl rfl | dsimp only | with_reducible apply within_modSfl | with_reducible apply within_setFld | with_reducible apply within_ite | with_reducible apply within_ite2 | with_reducible apply within_foldl | split | ((with_reducible apply within_mk); with_reducible exact rfl))

theorem within_governor {M : Nat} {s0 s : State} (hw : Sub 0x27e40000928001ff8000400000ffeff7f740900000000000000000000000000002d65a0 M) (hk : Within M s0 s) :
   Within M s0 (State.governor s) := by
  unfold State.governor
  repeat' (first | intro _ | with_reducible assumption | with_reducible exact rfl | exact sub_trans hw rfl | exact has_of hw rfl | with_reducible exact .inl rfl | exact .inr (has_of hw rfl) | exact .inl rfl | dsimp only | with_reducible apply within_applyLimit | with_reducible apply within_modSfl | with_reducible apply within_setG | with_reducible apply within_ite | with_reducible apply within_ite2 | with_reducible apply within_foldl | split | ((with_reducible apply within_mk); with_reducible exact rfl))

theorem within_onSflMsg {M : Nat} {s0 s : State} (p : Nat → Bool) (body : List Word → State → State) (hw : Sub 0x5000000000000000000000000000000000000000000000000210000 M) (hk : Within M s0 s) (hbody : ∀ x0 t, Within M s0 t → Within M s0 (body x0 t)) :
   Within M s0 (State.onSflMsg s p body) := by
  unfold State.onSflMsg
  repeat' (first | intro _ | with_reducible assumption | with_reducible exact rfl | exact sub_trans hw rfl | exact has_of hw rfl | with_reducible exact .inl rfl | exact .inr (has_of hw rfl) | exact .inl rfl | dsimp only | with_reducible apply within_modSfl | with_reducible apply within_txTaken | exact hbody _ ‹_›| apply hbody | with_reducible apply within_ite | with_reducible apply within_ite2 | with_reducible apply within_foldl | split | ((with_reducible apply within_mk); with_reducible exact rfl))

theorem within_limitSetMsg {M : Nat} {s0 s : State} (hw : Sub 0x1ffd000000000000000000000000000000000000000000000000214000 M) (hk : Within M s0 s) :
   Within M s0 (State.limitSetMsg s) := by
  unfold State.limitSetMsg
  repeat' (first | intro _ | with_reducible assumption | with_reducible exact rfl | exact sub_trans hw rfl | exact has_of hw rfl | with_reducible exact .inl rfl | exact .inr (has_of hw rfl) | exact .inl rfl | dsimp only | with_reducible apply within_onSflMsg | with_reducible apply within_modSfl | with_reducible apply within_sendTo | with_reducible apply within_ite | with_reducible apply within_ite2 | with_reducible apply within_foldl | split | ((with_reducible apply within_mk); with_reducible exact rfl))

theorem within_govQueryMsg {M : Nat} {s0 s : State} (hw : Sub 0x1ffd000000000000000000000000000000000000000000000000214000 M) (hk : Within M s0 s) :
   Within M s0 (State.govQueryMsg s) := by
  unfold State.govQueryMsg
  repeat' (first | intro _ | with_reducible assumption | with_reducible exact rfl | exact sub_trans hw rfl | exact has_of hw rfl | with_reducible exact .inl rfl | exact .inr (has_of hw rfl) | exact .inl rfl | dsimp only | with_reducible apply within_onSflMsg | with_reducible apply within_sendTo | with_reducible apply within_ite | with_reducible apply within_ite2 | with_reducible apply within_foldl | split | ((with_reducible apply within_mk); with_reducible exact rfl))

theorem within_modChn {M : Nat} {s0 s : State} (f : ChnS → ChnS) (hw : Sub 0x20000 M) (hk : Within M s0 s) :
   Within M s0 (State.modChn s f) := by
  unfold State.modChn
  repeat' (first | intro _ | with_reducible assumption | with_reducible exact rfl | exact sub_trans hw rfl | exact has_of hw rfl | with_reducible exact .inl rfl | exact .inr (has_of hw rfl) | exact .inl rfl | dsimp only | with_reducible apply within_ite | with_reducible apply within_ite2 | with_reducible apply within_foldl | split | ((with_reducible apply within_mk); with_reducible exact rfl))

theorem within_chnCount {M : Nat} {s0 s : State} (r : RegName) (hw : Sub 0x24640000000000000000000000000000000000000000000000000000000000000240000 M) (hr_r : Has M r.ix) (hk : Within M s0 s) :
   Within M s0 (State.chnCount s r) := by
  unfold State.chnCount
  repeat' (first | intro _ | with_reducible assumption | with_reducible exact rfl | exact sub_trans hw rfl | exact has_of hw rfl | with_reducible exact .inl rfl | exact .inr (has_of hw rfl) | exact .inl rfl | dsimp only | with_reducible apply within_bump | exact hr_r | with_reducible apply within_ite | with_reducible apply within_ite2 | with_reducible apply within_foldl | split | ((with_reducible apply within_mk); with_reducible exact rfl))

theorem within_ptmStart {M : Nat} {s0 s : State} (hw : Sub 0x24640000000000000000000000000000000000000000000000000000018040400240004 M) (hk : Within M s0 s) :
   Within M s0 (State.ptmStart s) := by
  unfold State.ptmStart
  repeat' (first | intro _ | with_reducible assumption | with_reducible exact rfl | exact sub_trans hw rfl | exact has_of hw rfl | with_reducible exact .inl rfl | exact .inr (has_of hw rfl) | exact .inl rfl | dsimp only | with_reducible apply within_modTime | with_reducible apply within_emit | with_reducible apply within_measureFail | with_reducible apply within_ite | with_reducible apply within_ite2 | with_reducible apply within_foldl | split | ((with_reducible apply within_mk); with_reducible exact rfl))

theorem within_ptmComplete {M : Nat} {s0 s : State} (m : PtmMaster) (t : PtmLocal) (hw : Sub 0x246400000000000000000000000000000000000000000000000000000063e0400277aec M) (hk : Within M s0 s) :
   Within M s0 (State.ptmComplete s m t) := by
  unfold State.ptmComplete
  repeat' (first | intro _ | with_reducible assumption | with_reducible exact rfl | exact sub_trans hw rfl | exact has_of hw rfl | with_reducible exact .inl rfl | exact .inr (has_of hw rfl) | exact .inl rfl | dsimp only | with_reducible apply within_modTime | with_reducible apply within_measure | with_reducible apply within_ite | with_reducible apply within_ite2 | with_reducible apply within_foldl | split | ((with_reducible apply within_mk); with_reducible exact rfl))

theorem within_ptmFail {M : Nat} {s0 s : State} (hw : Sub 0x24640000000000000000000000000000000000000000000000000000018040400240004 M) (hk : Within M s0 s) :
   Within M s0 (State.ptmFail s) := by
  unfold State.ptmFail
  repeat' (first | intro _ | with_reducible assumption | with_reducible exact rfl | exact sub_trans hw rfl | exact has_of hw rfl | with_reducible exact .inl rfl | exact .inr (has_of hw rfl) | exact .inl rfl | dsimp only | with_reducible apply within_modTime | with_reducible apply within_measureFail | with_reducible apply within_ite | with_reducible apply within_ite2 | with_reducible apply within_foldl | split | ((with_reducible apply within_mk); with_reducible exact rfl))

theorem within_slewDone {M : Nat} {s0 s : State} (hw : Sub 0x40400000004 M) (hk : Within M s0 s) :
   Within M s0 (State.slewDone s) := by
  unfold State.slewDone
  repeat' (first | intro _ | with_reducible assumption | with_reducible exact rfl | exact sub_trans hw rfl | exact has_of hw rfl | with_reducible exact .inl rfl | exact .inr (has_of hw rfl) | exact .inl rfl | dsimp only | with_reducible apply within_endSlew | with_reducible apply within_ite | with_reducible apply within_ite2 | with_reducible apply within_foldl | split | ((with_reducible apply within_mk); with_reducible exact rfl))

theorem within_syncEmit {M : Nat} {s0 s : State} (hw : Sub 0x200004 M) (hk : Within M s0 s) :
   Within M s0 (State.syncEmit s) := by
  unfold State.syncEmit
  repeat' (first | intro _ | with_reducible assumption | with_reducible exact rfl | exact sub_trans hw rfl | exact has_of hw rfl | with_reducible exact .inl rfl | exact .inr (has_of hw rfl) | exact .inl rfl | dsimp only | with_reducible apply within_modTime | with_reducible apply within_emit | with_reducible apply within_ite | with_reducible apply within_ite2 | with_reducible apply within_foldl | split | ((with_reducible apply within_mk); with_reducible exact rfl))

theorem within_syncReceived {M : Nat} {s0 s : State} (time : Nat) (acc : Nat) (early : Nat) (held : Bool) (hw : Sub 0x2464000000000000000000000000000000000000000000000000000001e3e0400277aec M) (hk : Within M s0 s) :
   Within M s0 (State.syncReceived s time acc early held) := by
  unfold State.syncReceived
  repeat' (first | intro _ | with_reducible assumption | with_reducible exact rfl | exact sub_trans hw rfl | exact has_of hw rfl | with_reducible exact .inl rfl | exact .inr (has_of hw rfl) | exact .inl rfl | dsimp only | with_reducible apply within_setFld | with_reducible apply within_modTime | with_reducible apply within_emit | with_reducible apply within_measureFail | with_reducible apply within_measure | with_reducible apply within_ite | with_reducible apply within_ite2 | with_reducible apply within_foldl | split | ((with_reducible apply within_mk); with_reducible exact rfl))

theorem within_syncMissing {M : Nat} {s0 s : State} (hw : Sub 0x24640000000000000000000000000000000000000000000000000000018040400240004 M) (hk : Within M s0 s) :
   Within M s0 (State.syncMissing s) := by
  unfold State.syncMissing
  repeat' (first | intro _ | with_reducible assumption | with_reducible exact rfl | exact sub_trans hw rfl | exact has_of hw rfl | with_reducible exact .inl rfl | exact .inr (has_of hw rfl) | exact .inl rfl | dsimp only | with_reducible apply within_modTime | with_reducible apply within_measureFail | with_reducible apply within_ite | with_reducible apply within_ite2 | with_reducible apply within_foldl | split | ((with_reducible apply within_mk); with_reducible exact rfl))

theorem within_delayReqSend {M : Nat} {s0 s : State} (hw : Sub 0x220000 M) (hk : Within M s0 s) :
   Within M s0 (State.delayReqSend s) := by
  unfold State.delayReqSend
  repeat' (first | intro _ | with_reducible assumption | with_reducible exact rfl | exact sub_trans hw rfl | exact has_of hw rfl | with_reducible exact .inl rfl | exact .inr (has_of hw rfl) | exact .inl rfl | dsimp only | with_reducible apply within_modChn | with_reducible apply within_emit | with_reducible apply within_ite | with_reducible apply within_ite2 | with_reducible apply within_foldl | split | ((with_reducible apply within_mk); with_reducible exact rfl))

theorem within_delayAnswer {M : Nat} {s0 s : State} (hw : Sub 0x600000 M) (hk : Within M s0 s) :
   Within M s0 (State.delayAnswer s) := by
  unfold State.delayAnswer
  repeat' (first | intro _ | with_reducible assumption | with_reducible exact rfl | exact sub_trans hw rfl | exact has_of hw rfl | with_reducible exact .inl rfl | exact .inr (has_of hw rfl) | exact .inl rfl | dsimp only | with_reducible apply within_takeFree | with_reducible apply within_emit | with_reducible apply within_ite | with_reducible apply within_ite2 | with_reducible apply within_foldl | split | ((with_reducible apply within_mk); with_reducible exact rfl))

theorem within_delayMeasured {M : Nat} {s0 s : State} (turn : Nat) (hw : Sub 0x4000000000000000000000000000000000000000000000000000000000420000 M) (hk : Within M s0 s) :
   Within M s0 (State.delayMeasured s turn) := by
  unfold State.delayMeasured
  repeat' (first | intro _ | with_reducible assumption | with_reducible exact rfl | exact sub_trans hw rfl | exact has_of hw rfl | with_reducible exact .inl rfl | exact .inr (has_of hw rfl) | exact .inl rfl | dsimp only | with_reducible apply within_modChn | with_reducible apply within_takeFree | with_reducible apply within_setFld | with_reducible apply within_ite | with_reducible apply within_ite2 | with_reducible apply within_foldl | split | ((with_reducible apply within_mk); with_reducible exact rfl))

theorem within_chdActive {M : Nat} {s0 s : State} (p : Nat) (hw : Sub 0x4 M) (hk : Within M s0 s) :
   Within M s0 (State.chdActive s p) := by
  unfold State.chdActive
  repeat' (first | intro _ | with_reducible assumption | with_reducible exact rfl | exact sub_trans hw rfl | exact has_of hw rfl | with_reducible exact .inl rfl | exact .inr (has_of hw rfl) | exact .inl rfl | dsimp only | with_reducible apply within_modTime | with_reducible apply within_ite | with_reducible apply within_ite2 | with_reducible apply within_foldl | split | ((with_reducible apply within_mk); with_reducible exact rfl))

theorem within_posReceived {M : Nat} {s0 s : State} (p : Nat) (q : Nat) (hw : Sub 0x2464100200000000001040000000000000000000000000000000422000000000024500c M) (hk : Within M s0 s) :
   Within M s0 (State.posReceived s p q) := by
  unfold State.posReceived
  repeat' (first | intro _ | with_reducible assumption | with_reducible exact rfl | exact sub_trans hw rfl | exact has_of hw rfl | with_reducible exact .inl rfl | exact .inr (has_of hw rfl) | exact .inl rfl | dsimp only | with_reducible apply within_bringupStep | with_reducible apply within_setPortState | with_reducible apply within_chdActive | with_reducible apply within_portFault | with_reducible apply within_ite | with_reducible apply within_ite2 | with_reducible apply within_foldl | split | ((with_reducible apply within_mk); with_reducible exact rfl))

theorem within_closePeerQueue {M : Nat} {s0 s : State} (i : Nat) (q : Nat) (target : Nat) (hw : Sub 0x24640000004000000010400400efee200140900000000000000000000000000003477a0 M) (hk : Within M s0 s) :
   Within M s0 (State.closePeerQueue s i q target) := by
  unfold State.closePeerQueue
  repeat' (first | intro _ | with_reducible assumption | with_reducible exact rfl | exact sub_trans hw rfl | exact has_of hw rfl | with_reducible exact .inl rfl | exact .inr (has_of hw rfl) | exact .inl rfl | dsimp only | with_reducible apply within_setDmaQ | with_reducible apply within_map | with_reducible apply within_countRows | with_reducible apply within_settle | with_reducible apply within_ite | with_reducible apply within_ite2 | with_reducible apply within_foldl | split | ((with_reducible apply within_mk); with_reducible exact rfl))

theorem within_closeWindow {M : Nat} {s0 s : State} (w : Nat) (hw : Sub 0x200000000000000000000000000000000000000000000000000000000000200000 M) (hk : Within M s0 s) :
   Within M s0 (State.closeWindow s w) := by
  unfold State.closeWindow
  repeat' (first | intro _ | with_reducible assumption | with_reducible exact rfl | exact sub_trans hw rfl | exact has_of hw rfl | with_reducible exact .inl rfl | exact .inr (has_of hw rfl) | exact .inl rfl | dsimp only | with_reducible apply within_setFld | with_reducible apply within_emit | with_reducible apply within_ite | with_reducible apply within_ite2 | with_reducible apply within_foldl | split | ((with_reducible apply within_mk); with_reducible exact rfl))

theorem within_putFldBit {M : Nat} {s0 s : State} (f : Fld) (i : Nat) (k : Nat) (b : Bool) (hr_f : Has M f.reg.ix) (hk : Within M s0 s) :
   Within M s0 (State.putFldBit s f i k b) := by
  unfold State.putFldBit
  repeat' (first | intro _ | with_reducible assumption | with_reducible exact rfl | with_reducible exact .inl rfl | exact .inl rfl | dsimp only | with_reducible apply within_setFld | exact hr_f | with_reducible apply within_ite | with_reducible apply within_ite2 | with_reducible apply within_foldl | split | ((with_reducible apply within_mk); with_reducible exact rfl))

theorem within_schedAnswered {M : Nat} {s0 s : State} (hw : Sub 0x124640000000000000010400000000000000000000000000000000000000000000265004 M) (hk : Within M s0 s) :
   Within M s0 (State.schedAnswered s) := by
  unfold State.schedAnswered
  repeat' (first | intro _ | with_reducible assumption | with_reducible exact rfl | exact sub_trans hw rfl | exact has_of hw rfl | with_reducible exact .inl rfl | exact .inr (has_of hw rfl) | exact .inl rfl | dsimp only | with_reducible apply within_modChn | with_reducible apply within_modTime | with_reducible apply within_setFld | with_reducible apply within_emit | with_reducible apply within_reply | with_reducible apply within_ite | with_reducible apply within_ite2 | with_reducible apply within_foldl | split | ((with_reducible apply within_mk); with_reducible exact rfl))

theorem within_positionAbsent {M : Nat} {s0 s : State} (q : Nat) (hw : Sub 0x124650612004000000010400400efee200140900000140001000000c00000000003677e4 M) (hk : Within M s0 s) :
   Within M s0 (State.positionAbsent s q) := by
  unfold State.positionAbsent
  repeat' (first | intro _ | with_reducible assumption | with_reducible exact rfl | exact sub_trans hw rfl | exact has_of hw rfl | with_reducible exact .inl rfl | exact .inr (has_of hw rfl) | exact .inl rfl | dsimp only | with_reducible apply within_putFldBit | with_reducible apply within_closePeerQueue | with_reducible apply within_setFld | with_reducible apply within_setRegN | with_reducible apply within_modChn | with_reducible apply within_frameEffect | with_reducible apply within_chnCount | with_reducible apply within_logEvent | with_reducible apply within_map | with_reducible apply within_schedAnswered | with_reducible apply within_ite | with_reducible apply within_ite2 | with_reducible apply within_foldl | split | ((with_reducible apply within_mk); with_reducible exact rfl))

theorem within_chainCheck {M : Nat} {s0 s : State} (hw : Sub 0x124650612004000000010400400efee200140900000140001000000c00000000003677e4 M) (hk : Within M s0 s) :
   Within M s0 (State.chainCheck s) := by
  unfold State.chainCheck
  repeat' (first | intro _ | with_reducible assumption | with_reducible exact rfl | exact sub_trans hw rfl | exact has_of hw rfl | with_reducible exact .inl rfl | exact .inr (has_of hw rfl) | exact .inl rfl | dsimp only | with_reducible apply within_positionAbsent | with_reducible apply within_ite | with_reducible apply within_ite2 | with_reducible apply within_foldl | split | ((with_reducible apply within_mk); with_reducible exact rfl))

theorem within_presenceTimeout {M : Nat} {s0 s : State} (q : Nat) (hw : Sub 0x124650612004000000010400400efee200140900000140001000000c00000000003677e4 M) (hk : Within M s0 s) :
   Within M s0 (State.presenceTimeout s q) := by
  unfold State.presenceTimeout
  repeat' (first | intro _ | with_reducible assumption | with_reducible exact rfl | exact sub_trans hw rfl | exact has_of hw rfl | with_reducible exact .inl rfl | exact .inr (has_of hw rfl) | exact .inl rfl | dsimp only | with_reducible apply within_positionAbsent | with_reducible apply within_ite | with_reducible apply within_ite2 | with_reducible apply within_foldl | split | ((with_reducible apply within_mk); with_reducible exact rfl))

theorem within_sendSchedules {M : Nat} {s0 s : State} (q : Nat) (hw : Sub 0x600000 M) (hk : Within M s0 s) :
   Within M s0 (State.sendSchedules s q) := by
  unfold State.sendSchedules
  repeat' (first | intro _ | with_reducible assumption | with_reducible exact rfl | exact sub_trans hw rfl | exact has_of hw rfl | with_reducible exact .inl rfl | exact .inr (has_of hw rfl) | exact .inl rfl | dsimp only | with_reducible apply within_takeFree | with_reducible apply within_emit | with_reducible apply within_ite | with_reducible apply within_ite2 | with_reducible apply within_foldl | split | ((with_reducible apply within_mk); with_reducible exact rfl))

theorem within_statusReceived {M : Nat} {s0 s : State} (q : Nat) (reach : Nat) (timeState : Nat) (enrol : Option (List Byte)) (seq : Nat) (hw : Sub 0x124650612004000000010400400efee200140900000140001000000c00000000007677e4 M) (hk : Within M s0 s) :
   Within M s0 (State.statusReceived s q reach timeState enrol seq) := by
  unfold State.statusReceived
  repeat' (first | intro _ | with_reducible assumption | with_reducible exact rfl | exact sub_trans hw rfl | exact has_of hw rfl | with_reducible exact .inl rfl | exact .inr (has_of hw rfl) | exact .inl rfl | dsimp only | with_reducible apply within_modChn | with_reducible apply within_putFldBit | with_reducible apply within_positionAbsent | with_reducible apply within_sendSchedules | with_reducible apply within_ite | with_reducible apply within_ite2 | with_reducible apply within_foldl | split | ((with_reducible apply within_mk); with_reducible exact rfl))

theorem within_statusSend {M : Nat} {s0 s : State} (hw : Sub 0x220000 M) (hk : Within M s0 s) :
   Within M s0 (State.statusSend s) := by
  unfold State.statusSend
  repeat' (first | intro _ | with_reducible assumption | with_reducible exact rfl | exact sub_trans hw rfl | exact has_of hw rfl | with_reducible exact .inl rfl | exact .inr (has_of hw rfl) | exact .inl rfl | dsimp only | with_reducible apply within_modChn | with_reducible apply within_emit | with_reducible apply within_chainStatus | with_reducible apply within_ite | with_reducible apply within_ite2 | with_reducible apply within_foldl | split | ((with_reducible apply within_mk); with_reducible exact rfl))

theorem within_takeback {M : Nat} {s0 s : State} (p : Nat) (hw : Sub 0x10000000000000000000000000000000000000000000000000000000000020000 M) (hk : Within M s0 s) :
   Within M s0 (State.takeback s p) := by
  unfold State.takeback
  repeat' (first | intro _ | with_reducible assumption | with_reducible exact rfl | exact sub_trans hw rfl | exact has_of hw rfl | with_reducible exact .inl rfl | exact .inr (has_of hw rfl) | exact .inl rfl | dsimp only | with_reducible apply within_putFldBit | with_reducible apply within_modChn | with_reducible apply within_ite | with_reducible apply within_ite2 | with_reducible apply within_foldl | split | ((with_reducible apply within_mk); with_reducible exact rfl))

theorem within_takeSchedule {M : Nat} {s0 s : State} (g : Nat) (base : Nat) (period : Nat) (apply : Nat) (hw : Sub 0x100000000000000000000000000000000000000000000000000000000000000000000004 M) (hk : Within M s0 s) :
   Within M s0 (State.takeSchedule s g base period apply).2 := by
  unfold State.takeSchedule
  repeat' (first | intro _ | with_reducible assumption | with_reducible exact rfl | exact sub_trans hw rfl | exact has_of hw rfl | with_reducible exact .inl rfl | exact .inr (has_of hw rfl) | exact .inl rfl | dsimp only | with_reducible apply within_modTime | with_reducible apply within_setFld | with_reducible apply within_ite | with_reducible apply within_ite2 | with_reducible apply within_foldl | split | ((with_reducible apply within_mk); with_reducible exact rfl))

theorem within_schedApply {M : Nat} {s0 s : State} (r : CmdRef) (hw : Sub 0x124640000000000000010400000000000000000000000000000000000000000000265004 M) (hk : Within M s0 s) :
   Within M s0 (State.schedApply s r) := by
  unfold State.schedApply
  repeat' (first | intro _ | with_reducible assumption | with_reducible exact rfl | exact sub_trans hw rfl | exact has_of hw rfl | with_reducible exact .inl rfl | exact .inr (has_of hw rfl) | exact .inl rfl | dsimp only | with_reducible apply within_onCmd | with_reducible apply within_reply | with_reducible apply within_setTaken | with_reducible apply within_takeSchedule | with_reducible apply within_emit | with_reducible apply within_modChn | with_reducible apply within_schedAnswered | with_reducible apply within_ite | with_reducible apply within_ite2 | with_reducible apply within_foldl | split | ((with_reducible apply within_mk); with_reducible exact rfl))

theorem within_schedApplyTime {M : Nat} {s0 s : State} (g : Nat) (hw : Sub 0x124640000000000000000000000000000000000000000000000000000f40000000240024 M) (hk : Within M s0 s) :
   Within M s0 (State.schedApplyTime s g) := by
  unfold State.schedApplyTime
  repeat' (first | intro _ | with_reducible assumption | with_reducible exact rfl | exact sub_trans hw rfl | exact has_of hw rfl | with_reducible exact .inl rfl | exact .inr (has_of hw rfl) | exact .inl rfl | dsimp only | with_reducible apply within_modTime | with_reducible apply within_schedStop | with_reducible apply within_setFld | with_reducible apply within_setPair | with_reducible apply within_schedStart | with_reducible apply within_ite | with_reducible apply within_ite2 | with_reducible apply within_foldl | split | ((with_reducible apply within_mk); with_reducible exact rfl))

theorem within_portForward {M : Nat} {s0 s : State} (r : CmdRef) (targetOk : Bool) (pathOk : Bool) (hw : Sub 0x246400300000000000104000000000000000000000140001000000c0000000000367260 M) (hk : Within M s0 s) :
   Within M s0 (State.portForward s r targetOk pathOk) := by
  unfold State.portForward
  repeat' (first | intro _ | with_reducible assumption | with_reducible exact rfl | exact sub_trans hw rfl | exact has_of hw rfl | with_reducible exact .inl rfl | exact .inr (has_of hw rfl) | exact .inl rfl | dsimp only | with_reducible apply within_onCmd | with_reducible apply within_reply | with_reducible apply within_putFldBit | with_reducible apply within_setFld | with_reducible apply within_modChn | with_reducible apply within_emit | with_reducible apply within_linkEffect | with_reducible apply within_ite | with_reducible apply within_ite2 | with_reducible apply within_foldl | split | ((with_reducible apply within_mk); with_reducible exact rfl))

theorem within_portReturn {M : Nat} {s0 s : State} (r : CmdRef) (targetOk : Bool) (hw : Sub 0x24640010000000000010400000000000000000000000000000000000000000000265000 M) (hk : Within M s0 s) :
   Within M s0 (State.portReturn s r targetOk) := by
  unfold State.portReturn
  repeat' (first | intro _ | with_reducible assumption | with_reducible exact rfl | exact sub_trans hw rfl | exact has_of hw rfl | with_reducible exact .inl rfl | exact .inr (has_of hw rfl) | exact .inl rfl | dsimp only | with_reducible apply within_onCmd | with_reducible apply within_reply | with_reducible apply within_putFldBit | with_reducible apply within_modChn | with_reducible apply within_emit | with_reducible apply within_ite | with_reducible apply within_ite2 | with_reducible apply within_foldl | split | ((with_reducible apply within_mk); with_reducible exact rfl))

theorem within_portMove {M : Nat} {s0 s : State} (r : CmdRef) (forward : Bool) (body : State → State) (hk : Within M s0 s) (hbody : ∀ t, Within M s0 t → Within M s0 (body t)) :
   Within M s0 (State.portMove s r forward body) := by
  unfold State.portMove
  repeat' (first | intro _ | with_reducible assumption | with_reducible exact rfl | with_reducible exact .inl rfl | exact .inl rfl | dsimp only | exact hbody _ ‹_›| apply hbody | with_reducible apply within_ite | with_reducible apply within_ite2 | with_reducible apply within_foldl | split | ((with_reducible apply within_mk); with_reducible exact rfl))

theorem within_asOf {M : Nat} {s0 s : State} (t : Nat) (f : State → State) (hw : Sub 0x4 M) (hk : Within M s0 s) (hf : ∀ t, Within M s0 t → Within M s0 (f t)) :
   Within M s0 (State.asOf s t f) := by
  unfold State.asOf
  repeat' (first | intro _ | with_reducible assumption | with_reducible exact rfl | exact sub_trans hw rfl | exact has_of hw rfl | with_reducible exact .inl rfl | exact .inr (has_of hw rfl) | exact .inl rfl | dsimp only | with_reducible apply within_modTime | exact hf _ ‹_›| apply hf | with_reducible apply within_ite | with_reducible apply within_ite2 | with_reducible apply within_foldl | split | ((with_reducible apply within_mk); with_reducible exact rfl))

theorem within_fwdPacket {M : Nat} {s0 s : State} (q : Nat) (p : Nat) (stamp : Nat) (k : Packet) (hw : Sub 0x2464080000000000001040000000000000000140021c0307f800200000000000034727c M) (hk : Within M s0 s) :
   Within M s0 (State.fwdPacket s q p stamp k) := by
  unfold State.fwdPacket
  repeat' (first | intro _ | with_reducible assumption | with_reducible exact rfl | exact sub_trans hw rfl | exact has_of hw rfl | with_reducible exact .inl rfl | exact .inr (has_of hw rfl) | exact .inl rfl | dsimp only | with_reducible apply within_asOf | with_reducible apply within_cameraPacket | with_reducible apply within_ite | with_reducible apply within_ite2 | with_reducible apply within_foldl | split | ((with_reducible apply within_mk); with_reducible exact rfl))

theorem within_fwdControl {M : Nat} {s0 s : State} (q : Nat) (p : Nat) (c : FwdCtl) (hw : Sub 0x246400000000000000004000000000000000000000140001000000c0000000000342260 M) (hk : Within M s0 s) :
   Within M s0 (State.fwdControl s q p c) := by
  unfold State.fwdControl
  repeat' (first | intro _ | with_reducible assumption | with_reducible exact rfl | exact sub_trans hw rfl | exact has_of hw rfl | with_reducible exact .inl rfl | exact .inr (has_of hw rfl) | exact .inl rfl | dsimp only | with_reducible apply within_modCam | with_reducible apply within_expectTrig | with_reducible apply within_frameEffect | with_reducible apply within_ite | with_reducible apply within_ite2 | with_reducible apply within_foldl | split | ((with_reducible apply within_mk); with_reducible exact rfl))

theorem within_windowOpen {M : Nat} {s0 s : State} (r : CmdRef) (hw : Sub 0x246403c0000000000010400000000000000000000000000000000000000000000245000 M) (hk : Within M s0 s) :
   Within M s0 (State.windowOpen s r) := by
  unfold State.windowOpen
  repeat' (first | intro _ | with_reducible assumption | with_reducible exact rfl | exact sub_trans hw rfl | exact has_of hw rfl | with_reducible exact .inl rfl | exact .inr (has_of hw rfl) | exact .inl rfl | dsimp only | with_reducible apply within_onCmd | with_reducible apply within_reply | with_reducible apply within_setPair | with_reducible apply within_setRegN | with_reducible apply within_setFld | with_reducible apply within_emit | with_reducible apply within_ite | with_reducible apply within_ite2 | with_reducible apply within_foldl | split | ((with_reducible apply within_mk); with_reducible exact rfl))

theorem within_windowClose {M : Nat} {s0 s : State} (r : CmdRef) (hw : Sub 0x24640200000000000010400000000000000000000000000000000000000000000245000 M) (hk : Within M s0 s) :
   Within M s0 (State.windowClose s r) := by
  unfold State.windowClose
  repeat' (first | intro _ | with_reducible assumption | with_reducible exact rfl | exact sub_trans hw rfl | exact has_of hw rfl | with_reducible exact .inl rfl | exact .inr (has_of hw rfl) | exact .inl rfl | dsimp only | with_reducible apply within_onCmd | with_reducible apply within_reply | with_reducible apply within_closeWindow | with_reducible apply within_ite | with_reducible apply within_ite2 | with_reducible apply within_foldl | split | ((with_reducible apply within_mk); with_reducible exact rfl))

theorem within_chainStatus {M : Nat} {s0 s : State} (r : CmdRef) (hw : Sub 0x24640000000000000010400000000000000000000000000000000000000000000245000 M) (hk : Within M s0 s) :
   Within M s0 (State.chainStatus s r) := by
  unfold State.chainStatus
  repeat' (first | intro _ | with_reducible assumption | with_reducible exact rfl | exact sub_trans hw rfl | exact has_of hw rfl | with_reducible exact .inl rfl | exact .inr (has_of hw rfl) | exact .inl rfl | dsimp only | with_reducible apply within_onCmd | with_reducible apply within_reply | with_reducible apply within_ite | with_reducible apply within_ite2 | with_reducible apply within_foldl | split | ((with_reducible apply within_mk); with_reducible exact rfl))

theorem within_ackPeer {M : Nat} {s0 s : State} (q : Nat) (info : Nat) (status : Nat) (hw : Sub 0x200000 M) (hk : Within M s0 s) :
   Within M s0 (State.ackPeer s q info status) := by
  unfold State.ackPeer
  repeat' (first | intro _ | with_reducible assumption | with_reducible exact rfl | exact sub_trans hw rfl | exact has_of hw rfl | with_reducible exact .inl rfl | exact .inr (has_of hw rfl) | exact .inl rfl | dsimp only | with_reducible apply within_emit | with_reducible apply within_ite | with_reducible apply within_ite2 | with_reducible apply within_foldl | split | ((with_reducible apply within_mk); with_reducible exact rfl))

theorem within_peerWrite {M : Nat} {s0 s : State} (q : Nat) (info : Nat) (bytes : List Byte) (hw : Sub 0x24642000000000000000000000000000000000000000000000000000000000000340200 M) (hk : Within M s0 s) :
   Within M s0 (State.peerWrite s q info bytes) := by
  unfold State.peerWrite
  repeat' (first | intro _ | with_reducible assumption | with_reducible exact rfl | exact sub_trans hw rfl | exact has_of hw rfl | with_reducible exact .inl rfl | exact .inr (has_of hw rfl) | exact .inl rfl | dsimp only | with_reducible apply within_memW | with_reducible apply within_ackPeer | with_reducible apply within_chnCount | with_reducible apply within_ite | with_reducible apply within_ite2 | with_reducible apply within_foldl | split | ((with_reducible apply within_mk); with_reducible exact rfl))

theorem within_ackRow {M : Nat} {s0 s : State} (i : Nat) (q : Nat) (k : Nat) (r : Nat) (hw : Sub 0x24640000004000000010400400efee200140900000000000000000000000000003477a0 M) (hk : Within M s0 s) :
   Within M s0 (State.ackRow s i q k r) := by
  unfold State.ackRow
  repeat' (first | intro _ | with_reducible assumption | with_reducible exact rfl | exact sub_trans hw rfl | exact has_of hw rfl | with_reducible exact .inl rfl | exact .inr (has_of hw rfl) | exact .inl rfl | dsimp only | with_reducible apply within_modXfer | with_reducible apply within_map | with_reducible apply within_rowCounts | with_reducible apply within_ite | with_reducible apply within_ite2 | with_reducible apply within_foldl | split | ((with_reducible apply within_mk); with_reducible exact rfl))

theorem within_peerAck {M : Nat} {s0 s : State} (q : Nat) (info : Nat) (hw : Sub 0x24644000004000000010400400efee200140900000000000000000000000000003477a0 M) (hk : Within M s0 s) :
   Within M s0 (State.peerAck s q info) := by
  unfold State.peerAck
  repeat' (first | intro _ | with_reducible assumption | with_reducible exact rfl | exact sub_trans hw rfl | exact has_of hw rfl | with_reducible exact .inl rfl | exact .inr (has_of hw rfl) | exact .inl rfl | dsimp only | with_reducible apply within_map | with_reducible apply within_modXfer | with_reducible apply within_ackRow | with_reducible apply within_chnCount | with_reducible apply within_logEvent | with_reducible apply within_ite | with_reducible apply within_ite2 | with_reducible apply within_foldl | split | ((with_reducible apply within_mk); with_reducible exact rfl))

theorem within_schedAnswer {M : Nat} {s0 s : State} (q : Nat) (g : Nat) (taken : Bool) (hw : Sub 0x124640000000000000010400000000000000000000000000000000000000000000265004 M) (hk : Within M s0 s) :
   Within M s0 (State.schedAnswer s q g taken) := by
  unfold State.schedAnswer
  repeat' (first | intro _ | with_reducible assumption | with_reducible exact rfl | exact sub_trans hw rfl | exact has_of hw rfl | with_reducible exact .inl rfl | exact .inr (has_of hw rfl) | exact .inl rfl | dsimp only | with_reducible apply within_modChn | with_reducible apply within_schedAnswered | with_reducible apply within_ite | with_reducible apply within_ite2 | with_reducible apply within_foldl | split | ((with_reducible apply within_mk); with_reducible exact rfl))

theorem within_schedRelease {M : Nat} {s0 s : State} (g : Nat) (hw : Sub 0x100000000000000000000000000000000000000000000000000000000000000000000004 M) (hk : Within M s0 s) :
   Within M s0 (State.schedRelease s g) := by
  unfold State.schedRelease
  repeat' (first | intro _ | with_reducible assumption | with_reducible exact rfl | exact sub_trans hw rfl | exact has_of hw rfl | with_reducible exact .inl rfl | exact .inr (has_of hw rfl) | exact .inl rfl | dsimp only | with_reducible apply within_modTime | with_reducible apply within_setFld | with_reducible apply within_ite | with_reducible apply within_ite2 | with_reducible apply within_foldl | split | ((with_reducible apply within_mk); with_reducible exact rfl))

theorem within_forwardNotice {M : Nat} {s0 s : State} (q : Nat) (p : Nat) (on : Bool) (hw : Sub 0x30000000000000000000000000000000000000000000000000000000000000000 M) (hk : Within M s0 s) :
   Within M s0 (State.forwardNotice s q p on) := by
  unfold State.forwardNotice
  repeat' (first | intro _ | with_reducible assumption | with_reducible exact rfl | exact sub_trans hw rfl | exact has_of hw rfl | with_reducible exact .inl rfl | exact .inr (has_of hw rfl) | exact .inl rfl | dsimp only | with_reducible apply within_putFldBit | with_reducible apply within_setFld | with_reducible apply within_ite | with_reducible apply within_ite2 | with_reducible apply within_foldl | split | ((with_reducible apply within_mk); with_reducible exact rfl))

theorem within_triggerRequest {M : Nat} {s0 s : State} (q : Nat) (p : Nat) (mask : Nat) (launch : Nat) (inst : Nat) (abort : Bool) (hw : Sub 0x220018 M) (hk : Within M s0 s) :
   Within M s0 (State.triggerRequest s q p mask launch inst abort) := by
  unfold State.triggerRequest
  repeat' (first | intro _ | with_reducible assumption | with_reducible exact rfl | exact sub_trans hw rfl | exact has_of hw rfl | with_reducible exact .inl rfl | exact .inr (has_of hw rfl) | exact .inl rfl | dsimp only | with_reducible apply within_modChn | with_reducible apply within_sendTrigger | with_reducible apply within_emit | with_reducible apply within_ite | with_reducible apply within_ite2 | with_reducible apply within_foldl | split | ((with_reducible apply within_mk); with_reducible exact rfl))

theorem within_windowNotice {M : Nat} {s0 s : State} (q : Nat) (w : Nat) (open_ : Bool) (len : Nat) (hw : Sub 0x400000000000000000000000000000000000000000000000000000000000020000 M) (hk : Within M s0 s) :
   Within M s0 (State.windowNotice s q w open_ len) := by
  unfold State.windowNotice
  repeat' (first | intro _ | with_reducible assumption | with_reducible exact rfl | exact sub_trans hw rfl | exact has_of hw rfl | with_reducible exact .inl rfl | exact .inr (has_of hw rfl) | exact .inl rfl | dsimp only | with_reducible apply within_putFldBit | with_reducible apply within_modChn | with_reducible apply within_ite | with_reducible apply within_ite2 | with_reducible apply within_foldl | split | ((with_reducible apply within_mk); with_reducible exact rfl))

theorem within_chainMessage {M : Nat} {s0 s : State} (q : Nat) (y : ChainMsg) (hw : Sub 0x12464043000000000001040000000000000000000000801000800200000000000026707c M) (hk : Within M s0 s) :
   Within M s0 (State.chainMessage s q y) := by
  unfold State.chainMessage
  repeat' (first | intro _ | with_reducible assumption | with_reducible exact rfl | exact sub_trans hw rfl | exact has_of hw rfl | with_reducible exact .inl rfl | exact .inr (has_of hw rfl) | exact .inl rfl | dsimp only | with_reducible apply within_takeSchedule | with_reducible apply within_logEvent | with_reducible apply within_emit | with_reducible apply within_schedAnswer | with_reducible apply within_schedRelease | with_reducible apply within_forwardNotice | with_reducible apply within_triggerRequest | with_reducible apply within_windowNotice | with_reducible apply within_tunnelRequest | with_reducible apply within_tunnelResponse | with_reducible apply within_ite | with_reducible apply within_ite2 | with_reducible apply within_foldl | split | ((with_reducible apply within_mk); with_reducible exact rfl))

theorem within_chainAccept {M : Nat} {s0 s : State} (p : Nat) (len : Nat) (hw : Sub 0x18 M) (hk : Within M s0 s) :
   Within M s0 (State.chainAccept s p len) := by
  unfold State.chainAccept
  repeat' (first | intro _ | with_reducible assumption | with_reducible exact rfl | exact sub_trans hw rfl | exact has_of hw rfl | with_reducible exact .inl rfl | exact .inr (has_of hw rfl) | exact .inl rfl | dsimp only | with_reducible apply within_setPort | with_reducible apply within_freeCredits | with_reducible apply within_sendAck | with_reducible apply within_ite | with_reducible apply within_ite2 | with_reducible apply within_foldl | split | ((with_reducible apply within_mk); with_reducible exact rfl))

theorem within_passOn {M : Nat} {s0 s : State} (p : Nat) (q : Nat) (d : Option Nat) (o : Out) (hw : Sub 0x200000 M) (hk : Within M s0 s) :
   Within M s0 (State.passOn s p q d o) := by
  unfold State.passOn
  repeat' (first | intro _ | with_reducible assumption | with_reducible exact rfl | exact sub_trans hw rfl | exact has_of hw rfl | with_reducible exact .inl rfl | exact .inr (has_of hw rfl) | exact .inl rfl | dsimp only | with_reducible apply within_emit | with_reducible apply within_ite | with_reducible apply within_ite2 | with_reducible apply within_foldl | split | ((with_reducible apply within_mk); with_reducible exact rfl))

theorem within_chainPacket {M : Nat} {s0 s : State} (q : Nat) (d : Option Nat) (len : Nat) (o : Out) (act : State → State) (hw : Sub 0x200018 M) (hk : Within M s0 s) (hact : ∀ t, Within M s0 t → Within M s0 (act t)) :
   Within M s0 (State.chainPacket s q d len o act) := by
  unfold State.chainPacket
  repeat' (first | intro _ | with_reducible assumption | with_reducible exact rfl | exact sub_trans hw rfl | exact has_of hw rfl | with_reducible exact .inl rfl | exact .inr (has_of hw rfl) | exact .inl rfl | dsimp only | with_reducible apply within_chainAccept | with_reducible apply within_passOn | exact hact _ ‹_›| apply hact | with_reducible apply within_ite | with_reducible apply within_ite2 | with_reducible apply within_foldl | split | ((with_reducible apply within_mk); with_reducible exact rfl))

theorem within_onFwdPacket {M : Nat} {s0 s : State} (q : Nat) (d : Nat) (p : Nat) (stamp : Nat) (k : Packet) (hw : Sub 0x2464080000000000001040000000000000000140021c0307f800200000000000034727c M) (hk : Within M s0 s) :
   Within M s0 (State.onFwdPacket s q d p stamp k) := by
  unfold State.onFwdPacket
  repeat' (first | intro _ | with_reducible assumption | with_reducible exact rfl | exact sub_trans hw rfl | exact has_of hw rfl | with_reducible exact .inl rfl | exact .inr (has_of hw rfl) | exact .inl rfl | dsimp only | with_reducible apply within_chainPacket | with_reducible apply within_fwdPacket | with_reducible apply within_ite | with_reducible apply within_ite2 | with_reducible apply within_foldl | split | ((with_reducible apply within_mk); with_reducible exact rfl))

theorem within_onFwdControl {M : Nat} {s0 s : State} (q : Nat) (d : Nat) (p : Nat) (len : Nat) (c : FwdCtl) (hw : Sub 0x246400000000000000004000000000000000000000140001000000c0000000000342278 M) (hk : Within M s0 s) :
   Within M s0 (State.onFwdControl s q d p len c) := by
  unfold State.onFwdControl
  repeat' (first | intro _ | with_reducible assumption | with_reducible exact rfl | exact sub_trans hw rfl | exact has_of hw rfl | with_reducible exact .inl rfl | exact .inr (has_of hw rfl) | exact .inl rfl | dsimp only | with_reducible apply within_chainPacket | with_reducible apply within_fwdControl | with_reducible apply within_ite | with_reducible apply within_ite2 | with_reducible apply within_foldl | split | ((with_reducible apply within_mk); with_reducible exact rfl))

theorem within_onPeerWrite {M : Nat} {s0 s : State} (q : Nat) (d : Nat) (info : Nat) (bytes : List Byte) (hw : Sub 0x24642000000000000000000000000000000000000000000000000000000000000340218 M) (hk : Within M s0 s) :
   Within M s0 (State.onPeerWrite s q d info bytes) := by
  unfold State.onPeerWrite
  repeat' (first | intro _ | with_reducible assumption | with_reducible exact rfl | exact sub_trans hw rfl | exact has_of hw rfl | with_reducible exact .inl rfl | exact .inr (has_of hw rfl) | exact .inl rfl | dsimp only | with_reducible apply within_chainPacket | with_reducible apply within_peerWrite | with_reducible apply within_ite | with_reducible apply within_ite2 | with_reducible apply within_foldl | split | ((with_reducible apply within_mk); with_reducible exact rfl))

theorem within_onPeerAck {M : Nat} {s0 s : State} (q : Nat) (d : Nat) (info : Nat) (hw : Sub 0x24644000004000000010400400efee200140900000000000000000000000000003477b8 M) (hk : Within M s0 s) :
   Within M s0 (State.onPeerAck s q d info) := by
  unfold State.onPeerAck
  repeat' (first | intro _ | with_reducible assumption | with_reducible exact rfl | exact sub_trans hw rfl | exact has_of hw rfl | with_reducible exact .inl rfl | exact .inr (has_of hw rfl) | exact .inl rfl | dsimp only | with_reducible apply within_chainPacket | with_reducible apply within_peerAck | with_reducible apply within_ite | with_reducible apply within_ite2 | with_reducible apply within_foldl | split | ((with_reducible apply within_mk); with_reducible exact rfl))

theorem within_onMessage {M : Nat} {s0 s : State} (q : Nat) (d : Nat) (len : Nat) (m : ChainMsg) (hw : Sub 0x12464043000000000001040000000000000000000000801000800200000000000026707c M) (hk : Within M s0 s) :
   Within M s0 (State.onMessage s q d len m) := by
  unfold State.onMessage
  repeat' (first | intro _ | with_reducible assumption | with_reducible exact rfl | exact sub_trans hw rfl | exact has_of hw rfl | with_reducible exact .inl rfl | exact .inr (has_of hw rfl) | exact .inl rfl | dsimp only | with_reducible apply within_chainPacket | with_reducible apply within_chainMessage | with_reducible apply within_ite | with_reducible apply within_ite2 | with_reducible apply within_foldl | split | ((with_reducible apply within_mk); with_reducible exact rfl))

theorem within_onStatus {M : Nat} {s0 s : State} (q : Nat) (len : Nat) (reach : Nat) (timeState : Nat) (enrol : Option (List Byte)) (seq : Nat) (hw : Sub 0x124650612004000000010400400efee200140900000140001000000c00000000007677fc M) (hk : Within M s0 s) :
   Within M s0 (State.onStatus s q len reach timeState enrol seq) := by
  unfold State.onStatus
  repeat' (first | intro _ | with_reducible assumption | with_reducible exact rfl | exact sub_trans hw rfl | exact has_of hw rfl | with_reducible exact .inl rfl | exact .inr (has_of hw rfl) | exact .inl rfl | dsimp only | with_reducible apply within_chainPacket | with_reducible apply within_chainStatus | with_reducible apply within_statusReceived | with_reducible apply within_ite | with_reducible apply within_ite2 | with_reducible apply within_foldl | split | ((with_reducible apply within_mk); with_reducible exact rfl))

theorem countsShares_mem {r : RegName} (h : countsShares r = true) :
    r ∈ [.HLD_WC_CFG, .HLD_WC_NEXT, .HLD_WC_OCC, .HLD_WC_CNT_REISSUE, .HLD_WC_CNT_LATE_COMMIT, .HLD_WC_CNT_STALE_WR] := by
  simp only [countsShares, Bool.or_eq_true, beq_iff_eq] at h
  rcases h with ((((h | h) | h) | h) | h) | h <;> subst h <;> decide

theorem within_unitReset {M : Nat} {s0 s : State} (r : CmdRef) (scope : Nat) (n : Nat) (ok : State → Nat → Bool) (body : Nat → State → State) (hw : Sub 0x24640000000000000010400000000000000000000000000000000000000000000645000 M) (hk : Within M s0 s) (hbody : ∀ x0 t, Within M s0 t → Within M s0 (body x0 t)) :
   Within M s0 (State.unitReset s r scope n ok body) := by
  unfold State.unitReset
  repeat' (first | intro _ | with_reducible assumption | with_reducible exact rfl | exact sub_trans hw rfl | exact has_of hw rfl | with_reducible exact .inl rfl | exact .inr (has_of hw rfl) | exact .inl rfl | dsimp only | with_reducible apply within_onCmd | with_reducible apply within_reply | with_reducible apply within_takeFree | with_reducible apply within_traceEv | with_reducible apply within_modBoot | exact hbody _ ‹_›| apply hbody | with_reducible apply within_ite | with_reducible apply within_ite2 | with_reducible apply within_foldl | split | ((with_reducible apply within_mk); with_reducible exact rfl))

theorem within_resetCore {M : Nat} {s0 s : State} (i : Nat) (r : CmdRef) (hw : Sub 0xffeff7f700000000000000000000000000000000421a0 M) (hk : Within M s0 s) :
   Within M s0 (State.resetCore s i r) := by
  unfold State.resetCore
  repeat' (first | intro _ | with_reducible assumption | with_reducible exact rfl | exact sub_trans hw rfl | exact has_of hw rfl | with_reducible exact .inl rfl | exact .inr (has_of hw rfl) | exact .inl rfl | dsimp only | with_reducible apply within_modCore | with_reducible apply within_haltCore | with_reducible apply within_ite | with_reducible apply within_ite2 | with_reducible apply within_foldl | split | ((with_reducible apply within_mk); with_reducible exact rfl))

theorem within_unitResetCore {M : Nat} {s0 s : State} (r : CmdRef) (hw : Sub 0x24640000000000000010400000ffeff7f700000000000000000000000000000006471a0 M) (hk : Within M s0 s) :
   Within M s0 (State.unitResetCore s r) := by
  unfold State.unitResetCore
  repeat' (first | intro _ | with_reducible assumption | with_reducible exact rfl | exact sub_trans hw rfl | exact has_of hw rfl | with_reducible exact .inl rfl | exact .inr (has_of hw rfl) | exact .inl rfl | dsimp only | with_reducible apply within_unitReset | with_reducible apply within_resetCore | with_reducible apply within_ite | with_reducible apply within_ite2 | with_reducible apply within_foldl | split | ((with_reducible apply within_mk); with_reducible exact rfl))

theorem within_resetPort {M : Nat} {s0 s : State} (p : Nat) (r : CmdRef) (hw : Sub 0x2464000200000000001040000000000000000000001c01010801fff0000000000347278 M) (hk : Within M s0 s) :
   Within M s0 (State.resetPort s p r) := by
  unfold State.resetPort
  repeat' (first | intro _ | with_reducible assumption | with_reducible exact rfl | exact sub_trans hw rfl | exact has_of hw rfl | with_reducible exact .inl rfl | exact .inr (has_of hw rfl) | exact .inl rfl | (rename_i h; simp only [Bool.and_eq_true, beq_iff_eq] at h; exact has_blk (b := .IXL) hw (by decide +kernel) (by first | exact h.1.1.1 | exact h.1.1 | exact h.1)) | dsimp only | with_reducible apply within_portDown | with_reducible apply within_resetRegs | with_reducible apply within_setFld | with_reducible apply within_modPort | with_reducible apply within_beginAttempt | with_reducible apply within_ite | with_reducible apply within_ite2 | with_reducible apply within_foldl | split | ((with_reducible apply within_mk); with_reducible exact rfl))

theorem within_unitResetPort {M : Nat} {s0 s : State} (r : CmdRef) (hw : Sub 0x2464000200000000001040000000000000000000001c01010801fff0000000000747278 M) (hk : Within M s0 s) :
   Within M s0 (State.unitResetPort s r) := by
  unfold State.unitResetPort
  repeat' (first | intro _ | with_reducible assumption | with_reducible exact rfl | exact sub_trans hw rfl | exact has_of hw rfl | with_reducible exact .inl rfl | exact .inr (has_of hw rfl) | exact .inl rfl | dsimp only | with_reducible apply within_unitReset | with_reducible apply within_resetPort | with_reducible apply within_ite | with_reducible apply within_ite2 | with_reducible apply within_foldl | split | ((with_reducible apply within_mk); with_reducible exact rfl))

theorem within_dropGroupFrames {M : Nat} {s0 s : State} (g : Nat) (n : Nat) (hw : Sub 0x24640000000000000010400000000000000000400000000000000000000000000245060 M) (hk : Within M s0 s) :
   Within M s0 (State.dropGroupFrames s g n) := by
  unfold State.dropGroupFrames
  repeat' (first | intro _ | with_reducible assumption | with_reducible exact rfl | exact sub_trans hw rfl | exact has_of hw rfl | with_reducible exact .inl rfl | exact .inr (has_of hw rfl) | exact .inl rfl | dsimp only | with_reducible apply within_finalize | with_reducible apply within_map | with_reducible apply within_ite | with_reducible apply within_ite2 | with_reducible apply within_foldl | split | ((with_reducible apply within_mk); with_reducible exact rfl))

theorem within_resetGroup {M : Nat} {s0 s : State} (g : Nat) (r : CmdRef) (hw : Sub 0x246400000000000000104007e0ffeff7f700004000000000000000000000000002471e0 M) (hk : Within M s0 s) :
   Within M s0 (State.resetGroup s g r) := by
  unfold State.resetGroup
  repeat' (first | intro _ | with_reducible assumption | with_reducible exact rfl | exact sub_trans hw rfl | exact has_of hw rfl | with_reducible exact .inl rfl | exact .inr (has_of hw rfl) | exact .inl rfl | (simp only [Bool.and_eq_true] at *; exact has_mem hw rfl (countsShares_mem (And.left ‹_›))) | dsimp only | with_reducible apply within_haltCore | with_reducible apply within_modCore | with_reducible apply within_dropGroupFrames | with_reducible apply within_resetRegs | with_reducible apply within_modGroup | with_reducible apply within_map | with_reducible apply within_ite | with_reducible apply within_ite2 | with_reducible apply within_foldl | split | ((with_reducible apply within_mk); with_reducible exact rfl))

theorem within_unitResetGroup {M : Nat} {s0 s : State} (r : CmdRef) (hw : Sub 0x246400000000000000104007e0ffeff7f700004000000000000000000000000006471e0 M) (hk : Within M s0 s) :
   Within M s0 (State.unitResetGroup s r) := by
  unfold State.unitResetGroup
  repeat' (first | intro _ | with_reducible assumption | with_reducible exact rfl | exact sub_trans hw rfl | exact has_of hw rfl | with_reducible exact .inl rfl | exact .inr (has_of hw rfl) | exact .inl rfl | dsimp only | with_reducible apply within_unitReset | with_reducible apply within_resetGroup | with_reducible apply within_ite | with_reducible apply within_ite2 | with_reducible apply within_foldl | split | ((with_reducible apply within_mk); with_reducible exact rfl))

theorem within_unitResetTenant {M : Nat} {s0 s : State} (r : CmdRef) (hw : Sub 0x1246400000000000000106000ae002d64030010400000000008000000000000000647ff8 M) (hk : Within M s0 s) :
   Within M s0 (State.unitResetTenant s r) := by
  unfold State.unitResetTenant
  repeat' (first | intro _ | with_reducible assumption | with_reducible exact rfl | exact sub_trans hw rfl | exact has_of hw rfl | with_reducible exact .inl rfl | exact .inr (has_of hw rfl) | exact .inl rfl | dsimp only | with_reducible apply within_unitReset | with_reducible apply within_scrub | with_reducible apply within_ite | with_reducible apply within_ite2 | with_reducible apply within_foldl | split | ((with_reducible apply within_mk); with_reducible exact rfl))

theorem within_pinsFrom {M : Nat} {s0 s : State} (old : State) (hw : Sub 0x200000 M) (hk : Within M s0 s) :
   Within M s0 (State.pinsFrom s old) := by
  unfold State.pinsFrom
  repeat' (first | intro _ | with_reducible assumption | with_reducible exact rfl | exact sub_trans hw rfl | exact has_of hw rfl | with_reducible exact .inl rfl | exact .inr (has_of hw rfl) | exact .inl rfl | dsimp only | with_reducible apply within_emit | with_reducible apply within_driveFrom | with_reducible apply within_ite | with_reducible apply within_ite2 | with_reducible apply within_foldl | split | ((with_reducible apply within_mk); with_reducible exact rfl))

theorem within_bare {M : Nat} {s0 s : State} (hw : Sub 0x7ffffffffffffffffffffffffffffffffffffffffffffffffffffffffffffffffffffffff M) (_ : Within M s0 s) : Within M s0 (s.bare ) := within_all hw

theorem within_wholeReset {M : Nat} {s0 s : State} (cause : Nat) (hw : Sub 0x7ffffffffffffffffffffffffffffffffffffffffffffffffffffffffffffffffffffffff M) (_ : Within M s0 s) : Within M s0 (s.wholeReset cause) := within_all hw

theorem within_powerReset {M : Nat} {s0 s : State} (hw : Sub 0x7ffffffffffffffffffffffffffffffffffffffffffffffffffffffffffffffffffffffff M) (_ : Within M s0 s) : Within M s0 (s.powerReset ) := within_all hw

theorem within_startUp {M : Nat} {s0 s : State} (hw : Sub 0x1000 M) (hk : Within M s0 s) :
   Within M s0 (State.startUp s) := by
  unfold State.startUp
  repeat' (first | intro _ | with_reducible assumption | with_reducible exact rfl | exact sub_trans hw rfl | exact has_of hw rfl | with_reducible exact .inl rfl | exact .inr (has_of hw rfl) | exact .inl rfl | dsimp only | with_reducible apply within_modBoot | with_reducible apply within_tap | with_reducible apply within_ite | with_reducible apply within_ite2 | with_reducible apply within_foldl | split | ((with_reducible apply within_mk); with_reducible exact rfl))

theorem within_perstAssert {M : Nat} {s0 s : State} (hw : Sub 0x7ffffffffffffffffffffffffffffffffffffffffffffffffffffffffffffffffffffffff M) (hk : Within M s0 s) :
   Within M s0 (State.perstAssert s) := by
  unfold State.perstAssert
  repeat' (first | intro _ | with_reducible assumption | with_reducible exact rfl | exact sub_trans hw rfl | exact has_of hw rfl | with_reducible exact .inl rfl | exact .inr (has_of hw rfl) | exact .inl rfl | dsimp only | with_reducible apply within_wholeReset | with_reducible apply within_modBoot | with_reducible apply within_ite | with_reducible apply within_ite2 | with_reducible apply within_foldl | split | ((with_reducible apply within_mk); with_reducible exact rfl))

theorem within_hotReset {M : Nat} {s0 s : State} (hw : Sub 0x7ffffffffffffffffffffffffffffffffffffffffffffffffffffffffffffffffffffffff M) (hk : Within M s0 s) :
   Within M s0 (State.hotReset s) := by
  unfold State.hotReset
  repeat' (first | intro _ | with_reducible assumption | with_reducible exact rfl | exact sub_trans hw rfl | exact has_of hw rfl | with_reducible exact .inl rfl | exact .inr (has_of hw rfl) | exact .inl rfl | dsimp only | with_reducible apply within_wholeReset | with_reducible apply within_startUp | with_reducible apply within_ite | with_reducible apply within_ite2 | with_reducible apply within_foldl | split | ((with_reducible apply within_mk); with_reducible exact rfl))

theorem within_porstAssert {M : Nat} {s0 s : State} (hw : Sub 0x7ffffffffffffffffffffffffffffffffffffffffffffffffffffffffffffffffffffffff M) (hk : Within M s0 s) :
   Within M s0 (State.porstAssert s) := by
  unfold State.porstAssert
  repeat' (first | intro _ | with_reducible assumption | with_reducible exact rfl | exact sub_trans hw rfl | exact has_of hw rfl | with_reducible exact .inl rfl | exact .inr (has_of hw rfl) | exact .inl rfl | dsimp only | with_reducible apply within_powerReset | with_reducible apply within_modBoot | with_reducible apply within_ite | with_reducible apply within_ite2 | with_reducible apply within_foldl | split | ((with_reducible apply within_mk); with_reducible exact rfl))

theorem within_railDip {M : Nat} {s0 s : State} (hw : Sub 0x7ffffffffffffffffffffffffffffffffffffffffffffffffffffffffffffffffffffffff M) (hk : Within M s0 s) :
   Within M s0 (State.railDip s) := by
  unfold State.railDip
  repeat' (first | intro _ | with_reducible assumption | with_reducible exact rfl | exact sub_trans hw rfl | exact has_of hw rfl | with_reducible exact .inl rfl | exact .inr (has_of hw rfl) | exact .inl rfl | dsimp only | with_reducible apply within_powerReset | with_reducible apply within_startUp | with_reducible apply within_ite | with_reducible apply within_ite2 | with_reducible apply within_foldl | split | ((with_reducible apply within_mk); with_reducible exact rfl))

theorem within_startupBegin {M : Nat} {s0 s : State} (pos : Nat) (hw : Sub 0x2000000000000000000000000000000000000000000000000000000000001000 M) (hk : Within M s0 s) :
   Within M s0 (State.startupBegin s pos) := by
  unfold State.startupBegin
  repeat' (first | intro _ | with_reducible assumption | with_reducible exact rfl | exact sub_trans hw rfl | exact has_of hw rfl | with_reducible exact .inl rfl | exact .inr (has_of hw rfl) | exact .inl rfl | dsimp only | with_reducible apply within_modBoot | with_reducible apply within_setFld | with_reducible apply within_startUp | with_reducible apply within_ite | with_reducible apply within_ite2 | with_reducible apply within_foldl | split | ((with_reducible apply within_mk); with_reducible exact rfl))

theorem within_setStage {M : Nat} {s0 s : State} (k : Nat) (hw : Sub 0x80000000 M) (hk : Within M s0 s) :
   Within M s0 (State.setStage s k) := by
  unfold State.setStage
  repeat' (first | intro _ | with_reducible assumption | with_reducible exact rfl | exact sub_trans hw rfl | exact has_of hw rfl | with_reducible exact .inl rfl | exact .inr (has_of hw rfl) | exact .inl rfl | dsimp only | with_reducible apply within_setFld | with_reducible apply within_ite | with_reducible apply within_ite2 | with_reducible apply within_foldl | split | ((with_reducible apply within_mk); with_reducible exact rfl))

theorem within_startupFail {M : Nat} {s0 s : State} (code : Nat) (unit : Nat) (hw : Sub 0x27e400000000000000000000000000000000000000000000000000000000000802c1000 M) (hk : Within M s0 s) :
   Within M s0 (State.startupFail s code unit) := by
  unfold State.startupFail
  repeat' (first | intro _ | with_reducible assumption | with_reducible exact rfl | exact sub_trans hw rfl | exact has_of hw rfl | with_reducible exact .inl rfl | exact .inr (has_of hw rfl) | exact .inl rfl | dsimp only | with_reducible apply within_modBoot | with_reducible apply within_setFld | with_reducible apply within_fatalError | with_reducible apply within_ite | with_reducible apply within_ite2 | with_reducible apply within_foldl | split | ((with_reducible apply within_mk); with_reducible exact rfl))

theorem within_clocksLocked {M : Nat} {s0 s : State} (hw : Sub 0x24640000000000000000000000000000000000000000000000000000000040484240004 M) (hk : Within M s0 s) :
   Within M s0 (State.clocksLocked s) := by
  unfold State.clocksLocked
  repeat' (first | intro _ | with_reducible assumption | with_reducible exact rfl | exact sub_trans hw rfl | exact has_of hw rfl | with_reducible exact .inl rfl | exact .inr (has_of hw rfl) | exact .inl rfl | dsimp only | with_reducible apply within_setRegN | with_reducible apply within_modTime | with_reducible apply within_setStage | with_reducible apply within_setSource | with_reducible apply within_ite | with_reducible apply within_ite2 | with_reducible apply within_foldl | split | ((with_reducible apply within_mk); with_reducible exact rfl))

theorem within_pllTimeout {M : Nat} {s0 s : State} (hw : Sub 0x27e400000000000000000000000000000000000000000000000000000000000802c1000 M) (hk : Within M s0 s) :
   Within M s0 (State.pllTimeout s) := by
  unfold State.pllTimeout
  repeat' (first | intro _ | with_reducible assumption | with_reducible exact rfl | exact sub_trans hw rfl | exact has_of hw rfl | with_reducible exact .inl rfl | exact .inr (has_of hw rfl) | exact .inl rfl | dsimp only | with_reducible apply within_startupFail | with_reducible apply within_ite | with_reducible apply within_ite2 | with_reducible apply within_foldl | split | ((with_reducible apply within_mk); with_reducible exact rfl))

theorem within_memGeom {M : Nat} {s0 s : State} (b : List Byte) (hw : Sub 0x1000000000000000000000000000000000000000000000000 M) (hk : Within M s0 s) :
   Within M s0 (State.memGeom s b) := by
  unfold State.memGeom
  repeat' (first | intro _ | with_reducible assumption | with_reducible exact rfl | exact sub_trans hw rfl | exact has_of hw rfl | with_reducible exact .inl rfl | exact .inr (has_of hw rfl) | exact .inl rfl | dsimp only | with_reducible apply within_setFld | with_reducible apply within_ite | with_reducible apply within_ite2 | with_reducible apply within_foldl | split | ((with_reducible apply within_mk); with_reducible exact rfl))

theorem within_runImage {M : Nat} {s0 s : State} (slot : Nat) (x : FwImage) (hw : Sub 0x18190000000001000000000000000000000000000000000000000080411a00 M) (hk : Within M s0 s) :
   Within M s0 (State.runImage s slot x) := by
  unfold State.runImage
  repeat' (first | intro _ | with_reducible assumption | with_reducible exact rfl | exact sub_trans hw rfl | exact has_of hw rfl | with_reducible exact .inl rfl | exact .inr (has_of hw rfl) | exact .inl rfl | dsimp only | with_reducible apply within_modBoot | with_reducible apply within_modSec | with_reducible apply within_setFld | with_reducible apply within_setMeas | with_reducible apply within_deriveIdentity | with_reducible apply within_takeFree | with_reducible apply within_modHold | with_reducible apply within_noPolicy | with_reducible apply within_memGeom | with_reducible apply within_ite | with_reducible apply within_ite2 | with_reducible apply within_foldl | split | ((with_reducible apply within_mk); with_reducible exact rfl))

theorem within_imageAccepted {M : Nat} {s0 s : State} (a : FwImage) (b : FwImage) (selfTest : Bool) (hw : Sub 0x27e400000181900000000010000000000000000000000000000000000000000806d1a00 M) (hk : Within M s0 s) :
   Within M s0 (State.imageAccepted s a b selfTest) := by
  unfold State.imageAccepted
  repeat' (first | intro _ | with_reducible assumption | with_reducible exact rfl | exact sub_trans hw rfl | exact has_of hw rfl | with_reducible exact .inl rfl | exact .inr (has_of hw rfl) | exact .inl rfl | dsimp only | with_reducible apply within_setStage | with_reducible apply within_startupFail | with_reducible apply within_setFld | with_reducible apply within_runImage | with_reducible apply within_ite | with_reducible apply within_ite2 | with_reducible apply within_foldl | split | ((with_reducible apply within_mk); with_reducible exact rfl))

theorem within_cpStartTimeout {M : Nat} {s0 s : State} (cp : Nat) (hw : Sub 0x27e400000000000000000000000000000000000000000000000000000000000802c1000 M) (hk : Within M s0 s) :
   Within M s0 (State.cpStartTimeout s cp) := by
  unfold State.cpStartTimeout
  repeat' (first | intro _ | with_reducible assumption | with_reducible exact rfl | exact sub_trans hw rfl | exact has_of hw rfl | with_reducible exact .inl rfl | exact .inr (has_of hw rfl) | exact .inl rfl | dsimp only | with_reducible apply within_startupFail | with_reducible apply within_ite | with_reducible apply within_ite2 | with_reducible apply within_foldl | split | ((with_reducible apply within_mk); with_reducible exact rfl))

theorem within_trainingDone {M : Nat} {s0 s : State} (failed : Nat) (hw : Sub 0x27e400000000000000104008000000000000000000000000000000000000000802c5200 M) (hk : Within M s0 s) :
   Within M s0 (State.trainingDone s failed) := by
  unfold State.trainingDone
  repeat' (first | intro _ | with_reducible assumption | with_reducible exact rfl | exact sub_trans hw rfl | exact has_of hw rfl | with_reducible exact .inl rfl | exact .inr (has_of hw rfl) | exact .inl rfl | dsimp only | with_reducible apply within_setStage | with_reducible apply within_setFld | with_reducible apply within_modHold | with_reducible apply within_map | with_reducible apply within_startupFail | with_reducible apply within_ite | with_reducible apply within_ite2 | with_reducible apply within_foldl | split | ((with_reducible apply within_mk); with_reducible exact rfl))

theorem within_memInitDone {M : Nat} {s0 s : State} (err : Option Nat) (hw : Sub 0x27e400000000000000000008000000000000000000000000000000000000000803c1200 M) (hk : Within M s0 s) :
   Within M s0 (State.memInitDone s err) := by
  unfold State.memInitDone
  repeat' (first | intro _ | with_reducible assumption | with_reducible exact rfl | exact sub_trans hw rfl | exact has_of hw rfl | with_reducible exact .inl rfl | exact .inr (has_of hw rfl) | exact .inl rfl | dsimp only | with_reducible apply within_startupFail | with_reducible apply within_memZero | with_reducible apply within_modHold | with_reducible apply within_setFld | with_reducible apply within_setStage | with_reducible apply within_ite | with_reducible apply within_ite2 | with_reducible apply within_foldl | split | ((with_reducible apply within_mk); with_reducible exact rfl))

theorem within_startupReady {M : Nat} {s0 s : State} (hw : Sub 0x2000000000000200000ffeff7f700000000000000000000200000000800031a8 M) (hk : Within M s0 s) :
   Within M s0 (State.startupReady s) := by
  unfold State.startupReady
  repeat' (first | intro _ | with_reducible assumption | with_reducible exact rfl | exact sub_trans hw rfl | exact has_of hw rfl | with_reducible exact .inl rfl | exact .inr (has_of hw rfl) | exact .inl rfl | dsimp only | with_reducible apply within_setStage | with_reducible apply within_modBoot | with_reducible apply within_clearCore | with_reducible apply within_modGroup | with_reducible apply within_beginAttempt | with_reducible apply within_putFldBit | with_reducible apply within_setFld | with_reducible apply within_ite | with_reducible apply within_ite2 | with_reducible apply within_foldl | split | ((with_reducible apply within_mk); with_reducible exact rfl))

theorem within_clockLost {M : Nat} {s0 s : State} (k : Nat) (hw : Sub 0x27e4000000000000000000000000000000000000000000000000000000000000c2c0000 M) (hk : Within M s0 s) :
   Within M s0 (State.clockLost s k) := by
  unfold State.clockLost
  repeat' (first | intro _ | with_reducible assumption | with_reducible exact rfl | exact sub_trans hw rfl | exact has_of hw rfl | with_reducible exact .inl rfl | exact .inr (has_of hw rfl) | exact .inl rfl | dsimp only | with_reducible apply within_setRegN | with_reducible apply within_fatalError | with_reducible apply within_ite | with_reducible apply within_ite2 | with_reducible apply within_foldl | split | ((with_reducible apply within_mk); with_reducible exact rfl))

theorem within_controlMemoryError {M : Nat} {s0 s : State} (cp : Nat) (hw : Sub 0x27e400000000000000000000000000000000000000000000000000000000000002c0000 M) (hk : Within M s0 s) :
   Within M s0 (State.controlMemoryError s cp) := by
  unfold State.controlMemoryError
  repeat' (first | intro _ | with_reducible assumption | with_reducible exact rfl | exact sub_trans hw rfl | exact has_of hw rfl | with_reducible exact .inl rfl | exact .inr (has_of hw rfl) | exact .inl rfl | dsimp only | with_reducible apply within_fatalError | with_reducible apply within_ite | with_reducible apply within_ite2 | with_reducible apply within_foldl | split | ((with_reducible apply within_mk); with_reducible exact rfl))

theorem within_cpWatchdog {M : Nat} {s0 s : State} (cp : Nat) (hw : Sub 0x27e400000000000000000000000000000000000000000000000000000000000002c0000 M) (hk : Within M s0 s) :
   Within M s0 (State.cpWatchdog s cp) := by
  unfold State.cpWatchdog
  repeat' (first | intro _ | with_reducible assumption | with_reducible exact rfl | exact sub_trans hw rfl | exact has_of hw rfl | with_reducible exact .inl rfl | exact .inr (has_of hw rfl) | exact .inl rfl | dsimp only | with_reducible apply within_fatalError | with_reducible apply within_logEvent | with_reducible apply within_ite | with_reducible apply within_ite2 | with_reducible apply within_foldl | split | ((with_reducible apply within_mk); with_reducible exact rfl))

theorem within_poisonedWrite {M : Nat} {s0 s : State} (fn : Nat) (hw : Sub 0x24640000000000000000000000000000000000000000000000000000000000000240000 M) (hk : Within M s0 s) :
   Within M s0 (State.poisonedWrite s fn) := by
  unfold State.poisonedWrite
  repeat' (first | intro _ | with_reducible assumption | with_reducible exact rfl | exact sub_trans hw rfl | exact has_of hw rfl | with_reducible exact .inl rfl | exact .inr (has_of hw rfl) | exact .inl rfl | dsimp only | with_reducible apply within_aerError | with_reducible apply within_ite | with_reducible apply within_ite2 | with_reducible apply within_foldl | split | ((with_reducible apply within_mk); with_reducible exact rfl))

theorem within_configRequest {M : Nat} {s0 s : State} (req : Nat) (w : Option CfgWrite) (hw : Sub 0x204004 M) (hk : Within M s0 s) :
   Within M s0 (State.configRequest s req w) := by
  unfold State.configRequest
  repeat' (first | intro _ | with_reducible assumption | with_reducible exact rfl | exact sub_trans hw rfl | exact has_of hw rfl | with_reducible exact .inl rfl | exact .inr (has_of hw rfl) | exact .inl rfl | dsimp only | with_reducible apply within_emit | with_reducible apply within_modFn | with_reducible apply within_modTime | with_reducible apply within_ite | with_reducible apply within_ite2 | with_reducible apply within_foldl | split | ((with_reducible apply within_mk); with_reducible exact rfl))

theorem within_hostError {M : Nat} {s0 s : State} (y : (Nat × Nat × Nat × Nat × Nat) ⊕ CmdRef) (hw : Sub 0x246400000040000000104000000fec00000000000000000000000000000000000245080 M) (hk : Within M s0 s) :
   Within M s0 (State.hostError s y) := by
  unfold State.hostError
  repeat' (first | intro _ | with_reducible assumption | with_reducible exact rfl | exact sub_trans hw rfl | exact has_of hw rfl | with_reducible exact .inl rfl | exact .inr (has_of hw rfl) | exact .inl rfl | dsimp only | with_reducible apply within_hostReadError | with_reducible apply within_cmdReadError | with_reducible apply within_ite | with_reducible apply within_ite2 | with_reducible apply within_foldl | split | ((with_reducible apply within_mk); with_reducible exact rfl))

theorem within_tap {M : Nat} {s0 s : State} (mode : Nat) (body : State → State) (hw : Sub 0x1000 M) (hk : Within M s0 s) (hbody : ∀ t, Within M s0 t → Within M s0 (body t)) :
   Within M s0 (State.tap s mode body) := by
  unfold State.tap
  repeat' (first | intro _ | with_reducible assumption | with_reducible exact rfl | exact sub_trans hw rfl | exact has_of hw rfl | with_reducible exact .inl rfl | exact .inr (has_of hw rfl) | exact .inl rfl | dsimp only | with_reducible apply within_modBoot | exact hbody _ ‹_›| apply hbody | with_reducible apply within_ite | with_reducible apply within_ite2 | with_reducible apply within_foldl | split | ((with_reducible apply within_mk); with_reducible exact rfl))

theorem within_tapBypass {M : Nat} {s0 s : State} (hw : Sub 0x1000 M) (hk : Within M s0 s) :
   Within M s0 (State.tapBypass s) := by
  unfold State.tapBypass
  repeat' (first | intro _ | with_reducible assumption | with_reducible exact rfl | exact sub_trans hw rfl | exact has_of hw rfl | with_reducible exact .inl rfl | exact .inr (has_of hw rfl) | exact .inl rfl | dsimp only | with_reducible apply within_tap | with_reducible apply within_ite | with_reducible apply within_ite2 | with_reducible apply within_foldl | split | ((with_reducible apply within_mk); with_reducible exact rfl))

theorem within_tapIdcode {M : Nat} {s0 s : State} (hw : Sub 0x201000 M) (hk : Within M s0 s) :
   Within M s0 (State.tapIdcode s) := by
  unfold State.tapIdcode
  repeat' (first | intro _ | with_reducible assumption | with_reducible exact rfl | exact sub_trans hw rfl | exact has_of hw rfl | with_reducible exact .inl rfl | exact .inr (has_of hw rfl) | exact .inl rfl | dsimp only | with_reducible apply within_tap | with_reducible apply within_emit | with_reducible apply within_ite | with_reducible apply within_ite2 | with_reducible apply within_foldl | split | ((with_reducible apply within_mk); with_reducible exact rfl))

theorem within_tapSample {M : Nat} {s0 s : State} (levels : List Bool) (preload : List Bool) (hw : Sub 0x201000 M) (hk : Within M s0 s) :
   Within M s0 (State.tapSample s levels preload) := by
  unfold State.tapSample
  repeat' (first | intro _ | with_reducible assumption | with_reducible exact rfl | exact sub_trans hw rfl | exact has_of hw rfl | with_reducible exact .inl rfl | exact .inr (has_of hw rfl) | exact .inl rfl | dsimp only | with_reducible apply within_tap | with_reducible apply within_modBoot | with_reducible apply within_emit | with_reducible apply within_ite | with_reducible apply within_ite2 | with_reducible apply within_foldl | split | ((with_reducible apply within_mk); with_reducible exact rfl))

theorem within_tapExtest {M : Nat} {s0 s : State} (mode : Nat) (hw : Sub 0x201000 M) (hk : Within M s0 s) :
   Within M s0 (State.tapExtest s mode) := by
  unfold State.tapExtest
  repeat' (first | intro _ | with_reducible assumption | with_reducible exact rfl | exact sub_trans hw rfl | exact has_of hw rfl | with_reducible exact .inl rfl | exact .inr (has_of hw rfl) | exact .inl rfl | dsimp only | with_reducible apply within_tap | with_reducible apply within_emit | with_reducible apply within_ite | with_reducible apply within_ite2 | with_reducible apply within_foldl | split | ((with_reducible apply within_mk); with_reducible exact rfl))

theorem within_smb {M : Nat} {s0 s : State} (n : Nat) (v : Nat) (hw : Sub 0x24640000008000000000000000000000000000000000000000000000000000000250000 M) (hk : Within M s0 s) :
   Within M s0 (State.smb s n v) := by
  unfold State.smb
  repeat' (first | intro _ | with_reducible assumption | with_reducible exact rfl | exact sub_trans hw rfl | exact has_of hw rfl | with_reducible exact .inl rfl | exact .inr (has_of hw rfl) | exact .inl rfl | dsimp only | with_reducible apply within_failClosed | with_reducible apply within_emit | with_reducible apply within_ite | with_reducible apply within_ite2 | with_reducible apply within_foldl | split | ((with_reducible apply within_mk); with_reducible exact rfl))

theorem within_smbPart {M : Nat} {s0 s : State} (hw : Sub 0x24640000008000000000000000000000000000000000000000000000000000000250000 M) (hk : Within M s0 s) :
   Within M s0 (State.smbPart s) := by
  unfold State.smbPart
  repeat' (first | intro _ | with_reducible assumption | with_reducible exact rfl | exact sub_trans hw rfl | exact has_of hw rfl | with_reducible exact .inl rfl | exact .inr (has_of hw rfl) | exact .inl rfl | dsimp only | with_reducible apply within_smb | with_reducible apply within_ite | with_reducible apply within_ite2 | with_reducible apply within_foldl | split | ((with_reducible apply within_mk); with_reducible exact rfl))

theorem within_smbBoot {M : Nat} {s0 s : State} (hw : Sub 0x24640000008000000000000000000000000000000000000000000000000000000250000 M) (hk : Within M s0 s) :
   Within M s0 (State.smbBoot s) := by
  unfold State.smbBoot
  repeat' (first | intro _ | with_reducible assumption | with_reducible exact rfl | exact sub_trans hw rfl | exact has_of hw rfl | with_reducible exact .inl rfl | exact .inr (has_of hw rfl) | exact .inl rfl | dsimp only | with_reducible apply within_smb | with_reducible apply within_ite | with_reducible apply within_ite2 | with_reducible apply within_foldl | split | ((with_reducible apply within_mk); with_reducible exact rfl))

theorem within_smbTemp {M : Nat} {s0 s : State} (hw : Sub 0x24640000008000000000000000000000000000000000000000000000000000000250000 M) (hk : Within M s0 s) :
   Within M s0 (State.smbTemp s) := by
  unfold State.smbTemp
  repeat' (first | intro _ | with_reducible assumption | with_reducible exact rfl | exact sub_trans hw rfl | exact has_of hw rfl | with_reducible exact .inl rfl | exact .inr (has_of hw rfl) | exact .inl rfl | dsimp only | with_reducible apply within_smb | with_reducible apply within_ite | with_reducible apply within_ite2 | with_reducible apply within_foldl | split | ((with_reducible apply within_mk); with_reducible exact rfl))

theorem within_smbPower {M : Nat} {s0 s : State} (hw : Sub 0x24640000008000000000000000000000000000000000000000000000000000000650000 M) (hk : Within M s0 s) :
   Within M s0 (State.smbPower s) := by
  unfold State.smbPower
  repeat' (first | intro _ | with_reducible assumption | with_reducible exact rfl | exact sub_trans hw rfl | exact has_of hw rfl | with_reducible exact .inl rfl | exact .inr (has_of hw rfl) | exact .inl rfl | dsimp only | with_reducible apply within_smb | with_reducible apply within_takeFree | with_reducible apply within_ite | with_reducible apply within_ite2 | with_reducible apply within_foldl | split | ((with_reducible apply within_mk); with_reducible exact rfl))

theorem within_smbGov {M : Nat} {s0 s : State} (hw : Sub 0x24640000008000000000000000000000000000000000000000000000000000000250000 M) (hk : Within M s0 s) :
   Within M s0 (State.smbGov s) := by
  unfold State.smbGov
  repeat' (first | intro _ | with_reducible assumption | with_reducible exact rfl | exact sub_trans hw rfl | exact has_of hw rfl | with_reducible exact .inl rfl | exact .inr (has_of hw rfl) | exact .inl rfl | dsimp only | with_reducible apply within_smb | with_reducible apply within_ite | with_reducible apply within_ite2 | with_reducible apply within_foldl | split | ((with_reducible apply within_mk); with_reducible exact rfl))

theorem within_smbFatal {M : Nat} {s0 s : State} (hw : Sub 0x24640000008000000000000000000000000000000000000000000000000000000250000 M) (hk : Within M s0 s) :
   Within M s0 (State.smbFatal s) := by
  unfold State.smbFatal
  repeat' (first | intro _ | with_reducible assumption | with_reducible exact rfl | exact sub_trans hw rfl | exact has_of hw rfl | with_reducible exact .inl rfl | exact .inr (has_of hw rfl) | exact .inl rfl | dsimp only | with_reducible apply within_smb | with_reducible apply within_ite | with_reducible apply within_ite2 | with_reducible apply within_foldl | split | ((with_reducible apply within_mk); with_reducible exact rfl))

theorem has_block {m M : Nat} (hw : Sub m M) (h : Sub 0x7ffffffffffffffffffffffffffffffffffffffffffffffffffffffffffffffffff800000 m) (r : RegName) : Has M r.ix := by
  have hb : Sub 0x7ffffffffffffffffffffffffffffffffffffffffffffffffffffffffffffffffff800000 M := sub_trans hw h
  cases r <;> exact has_of hb rfl

theorem within_onBus {M : Nat} {s0 s : State} (b : Block) (body : State → State) (hk : Within M s0 s) (hbody : ∀ t, Within M s0 t → Within M s0 (body t)) :
   Within M s0 (State.onBus s b body) := by
  unfold State.onBus
  repeat' (first | intro _ | with_reducible assumption | with_reducible exact rfl | with_reducible exact .inl rfl | exact .inl rfl | dsimp only | exact hbody _ ‹_›| apply hbody | with_reducible apply within_ite | with_reducible apply within_ite2 | with_reducible apply within_foldl | split | ((with_reducible apply within_mk); with_reducible exact rfl))

theorem within_latch {M : Nat} {s0 s : State} (f : Nat) (r : RegName) (i : Nat) (v : Nat) (hw : Sub 0x1 M) (hk : Within M s0 s) :
   Within M s0 (State.latch s f r i v) := by
  unfold State.latch
  repeat' (first | intro _ | with_reducible assumption | with_reducible exact rfl | exact sub_trans hw rfl | exact has_of hw rfl | with_reducible exact .inl rfl | exact .inr (has_of hw rfl) | exact .inl rfl | dsimp only | with_reducible apply within_ite | with_reducible apply within_ite2 | with_reducible apply within_foldl | split | ((with_reducible apply within_mk); with_reducible exact rfl))

theorem within_snapRead {M : Nat} {s0 s : State} (f : Nat) (hw : Sub 0x5 M) (hk : Within M s0 s) :
   Within M s0 (State.snapRead s f).2 := by
  unfold State.snapRead
  repeat' (first | intro _ | with_reducible assumption | with_reducible exact rfl | exact sub_trans hw rfl | exact has_of hw rfl | with_reducible exact .inl rfl | exact .inr (has_of hw rfl) | exact .inl rfl | dsimp only | with_reducible apply within_modTime | with_reducible apply within_latch | with_reducible apply within_ite | with_reducible apply within_ite2 | with_reducible apply within_foldl | split | ((with_reducible apply within_mk); with_reducible exact rfl))

theorem within_timeRead {M : Nat} {s0 s : State} (f : Nat) (hw : Sub 0x400001 M) (hk : Within M s0 s) :
   Within M s0 (State.timeRead s f).2 := by
  unfold State.timeRead
  repeat' (first | intro _ | with_reducible assumption | with_reducible exact rfl | exact sub_trans hw rfl | exact has_of hw rfl | with_reducible exact .inl rfl | exact .inr (has_of hw rfl) | exact .inl rfl | dsimp only | with_reducible apply within_takeFree | with_reducible apply within_latch | with_reducible apply within_ite | with_reducible apply within_ite2 | with_reducible apply within_foldl | split | ((with_reducible apply within_mk); with_reducible exact rfl))

theorem within_readReg {M : Nat} {s0 s : State} (f : Nat) (r : RegName) (i : Nat) (hw : Sub 0x1ff8000000000000000000000000000000000000000000000000604005 M) (hk : Within M s0 s) :
   Within M s0 (State.readReg s f r i).2 := by
  unfold State.readReg
  repeat' (first | intro _ | with_reducible assumption | with_reducible exact rfl | exact sub_trans hw rfl | exact has_of hw rfl | with_reducible exact .inl rfl | exact .inr (has_of hw rfl) | exact .inl rfl | dsimp only | with_reducible apply within_rxRead | with_reducible apply within_snapRead | with_reducible apply within_timeRead | with_reducible apply within_latch | with_reducible apply within_ite | with_reducible apply within_ite2 | with_reducible apply within_foldl | split | ((with_reducible apply within_mk); with_reducible exact rfl))

theorem within_readAt {M : Nat} {s0 s : State} (f : Nat) (a : Nat) (hw : Sub 0x1ff8000000000000000000000000000000000000000000000000604005 M) (hk : Within M s0 s) :
   Within M s0 (State.readAt s f a) := by
  unfold State.readAt
  repeat' (first | intro _ | with_reducible assumption | with_reducible exact rfl | exact sub_trans hw rfl | exact has_of hw rfl | with_reducible exact .inl rfl | exact .inr (has_of hw rfl) | exact .inl rfl | dsimp only | with_reducible apply within_readReg | with_reducible apply within_emit | with_reducible apply within_ite | with_reducible apply within_ite2 | with_reducible apply within_foldl | split | ((with_reducible apply within_mk); with_reducible exact rfl))

theorem within_repartition {M : Nat} {s0 s : State} (v : Nat) (hw : Sub 0x7e0000000000000000000000000000000000000003002000 M) (hk : Within M s0 s) :
   Within M s0 (State.repartition s v) := by
  unfold State.repartition
  repeat' (first | intro _ | with_reducible assumption | with_reducible exact rfl | exact sub_trans hw rfl | exact has_of hw rfl | with_reducible exact .inl rfl | exact .inr (has_of hw rfl) | exact .inl rfl | (simp only [Bool.and_eq_true] at *; exact has_mem hw rfl (countsShares_mem (And.left ‹_›))) | dsimp only | with_reducible apply within_setRegN | with_reducible apply within_setFld | with_reducible apply within_resetRegs | with_reducible apply within_setGroup | with_reducible apply within_ite | with_reducible apply within_ite2 | with_reducible apply within_foldl | split | ((with_reducible apply within_mk); with_reducible exact rfl))

theorem within_sgBoundaryWrite {M : Nat} {s0 s : State} (w : Nat) (hw : Sub 0x7e0000000000000000000000000000000000000003002000 M) (hk : Within M s0 s) :
   Within M s0 (State.sgBoundaryWrite s w) := by
  unfold State.sgBoundaryWrite
  repeat' (first | intro _ | with_reducible assumption | with_reducible exact rfl | exact sub_trans hw rfl | exact has_of hw rfl | with_reducible exact .inl rfl | exact .inr (has_of hw rfl) | exact .inl rfl | dsimp only | with_reducible apply within_setFld | with_reducible apply within_repartition | with_reducible apply within_ite | with_reducible apply within_ite2 | with_reducible apply within_foldl | split | ((with_reducible apply within_mk); with_reducible exact rfl))

theorem within_plainWrite {M : Nat} {s0 s : State} (r : RegName) (i : Nat) (v : Nat) (hr_r : Has M r.ix) (hk : Within M s0 s) :
   Within M s0 (State.plainWrite s r i v) := by
  unfold State.plainWrite
  repeat' (first | intro _ | with_reducible assumption | with_reducible exact rfl | with_reducible exact .inl rfl | exact .inl rfl | dsimp only | with_reducible apply within_setRegN | exact hr_r | with_reducible apply within_ite | with_reducible apply within_ite2 | with_reducible apply within_foldl | split | ((with_reducible apply within_mk); with_reducible exact rfl))

theorem within_expoCfgWrite {M : Nat} {s0 s : State} (n : Nat) (v : Nat) (hw : Sub 0x1000000000000000000000000 M) (hk : Within M s0 s) :
   Within M s0 (State.expoCfgWrite s n v) := by
  unfold State.expoCfgWrite
  repeat' (first | intro _ | with_reducible assumption | with_reducible exact rfl | exact sub_trans hw rfl | exact has_of hw rfl | with_reducible exact .inl rfl | exact .inr (has_of hw rfl) | exact .inl rfl | dsimp only | with_reducible apply within_plainWrite | with_reducible apply within_setRegN | with_reducible apply within_ite | with_reducible apply within_ite2 | with_reducible apply within_foldl | split | ((with_reducible apply within_mk); with_reducible exact rfl))

theorem within_outCredit {M : Nat} {s0 s : State} (n : Nat) (v : Nat) (hw : Sub 0x24640000000000000000000000000000000000400000000000000000000000000240000 M) (hk : Within M s0 s) :
   Within M s0 (State.outCredit s n v) := by
  unfold State.outCredit
  repeat' (first | intro _ | with_reducible assumption | with_reducible exact rfl | exact sub_trans hw rfl | exact has_of hw rfl | with_reducible exact .inl rfl | exact .inr (has_of hw rfl) | exact .inl rfl | dsimp only | with_reducible apply within_setFld | with_reducible apply within_logEvent | with_reducible apply within_ite | with_reducible apply within_ite2 | with_reducible apply within_foldl | split | ((with_reducible apply within_mk); with_reducible exact rfl))

theorem within_ppbSelect {M : Nat} {s0 s : State} (n : Nat) (v : Nat) (hw : Sub 0x200000000000000000000000000000 M) (hk : Within M s0 s) :
   Within M s0 (State.ppbSelect s n v) := by
  unfold State.ppbSelect
  repeat' (first | intro _ | with_reducible assumption | with_reducible exact rfl | exact sub_trans hw rfl | exact has_of hw rfl | with_reducible exact .inl rfl | exact .inr (has_of hw rfl) | exact .inl rfl | dsimp only | with_reducible apply within_setFld | with_reducible apply within_ite | with_reducible apply within_ite2 | with_reducible apply within_foldl | split | ((with_reducible apply within_mk); with_reducible exact rfl))

theorem within_synCtlWrite {M : Nat} {s0 s : State} (v : Nat) (hw : Sub 0x246400000000000000000000000000000000000000000000000000080063c0400277aec M) (hk : Within M s0 s) :
   Within M s0 (State.synCtlWrite s v) := by
  unfold State.synCtlWrite
  repeat' (first | intro _ | with_reducible assumption | with_reducible exact rfl | exact sub_trans hw rfl | exact has_of hw rfl | with_reducible exact .inl rfl | exact .inr (has_of hw rfl) | exact .inl rfl | dsimp only | with_reducible apply within_hardSet | with_reducible apply within_ite | with_reducible apply within_ite2 | with_reducible apply within_foldl | split | ((with_reducible apply within_mk); with_reducible exact rfl))

theorem within_adaptCfgWrite {M : Nat} {s0 s : State} (n : Nat) (v : Nat) (hw : Sub 0x4000000000000000000000000000000000 M) (hk : Within M s0 s) :
   Within M s0 (State.adaptCfgWrite s n v) := by
  unfold State.adaptCfgWrite
  repeat' (first | intro _ | with_reducible assumption | with_reducible exact rfl | exact sub_trans hw rfl | exact has_of hw rfl | with_reducible exact .inl rfl | exact .inr (has_of hw rfl) | exact .inl rfl | dsimp only | with_reducible apply within_plainWrite | with_reducible apply within_ite | with_reducible apply within_ite2 | with_reducible apply within_foldl | split | ((with_reducible apply within_mk); with_reducible exact rfl))

theorem within_windowWrite {M : Nat} {s0 s : State} (r : RegName) (i v : Nat) (hw : Sub 0x7ffffffffffffffffffffffffffffffffffffffffffffffffffffffffffffffffffa55000 M) (hk : Within M s0 s) (t : State)
    (h : s.windowWrite r i v = some t) : Within M s0 t := by
  unfold State.windowWrite at h
  split at h
  all_goals first | (injection h with e; subst e) | cases h
  all_goals first | exact within_cqCfgWrite _ _ _ (sub_trans hw rfl) hk | exact within_cqTailWrite _ _ _ (sub_trans hw rfl) hk | exact within_rqHeadWrite _ _ _ (sub_trans hw rfl) hk | exact within_evqCfgWrite _ _ (sub_trans hw rfl) hk | exact within_txWrite _ _ _ (sub_trans hw rfl) hk

theorem within_contextWrite {M : Nat} {s0 s : State} (r : RegName) (i v : Nat) (hw : Sub 0x7ffffffffffffffffffffffffffffffffffffffffffffffffffffffffffffffffffa40020 M) (hk : Within M s0 s) (t : State)
    (h : s.contextWrite r i v = some t) : Within M s0 t := by
  unfold State.contextWrite at h
  split at h
  all_goals first | (injection h with e; subst e) | cases h
  all_goals first | exact within_expoCfgWrite _ _ (sub_trans hw rfl) hk | exact within_expoWrite _ _ _ (sub_trans hw rfl) hk | exact within_wbWrite _ _ (sub_trans hw rfl) hk | exact within_ppbSelect _ _ (sub_trans hw rfl) hk | exact within_outCredit _ _ (sub_trans hw rfl) hk | exact within_adaptCfgWrite _ _ (sub_trans hw rfl) hk

theorem within_blockWrite {M : Nat} {s0 s : State} (r : RegName) (i v : Nat) (hw : Sub 0x7ffffffffffffffffffffffffffffffffffffffffffffffffffffffffffffffffffb77afc M) (hk : Within M s0 s) (t : State)
    (h : s.blockWrite r i v = some t) : Within M s0 t := by
  unfold State.blockWrite at h
  split at h
  all_goals first | (injection h with e; subst e) | cases h
  all_goals first | exact within_sgBoundaryWrite _ (sub_trans hw rfl) hk | exact within_synCfgWrite _ (sub_trans hw rfl) hk | exact within_synCtlWrite _ (sub_trans hw rfl) hk | exact within_schedCtlWrite _ _ (sub_trans hw rfl) hk | exact within_syncOutWrite _ _ (sub_trans hw rfl) hk | exact within_portCfgWrite _ _ (sub_trans hw rfl) hk | exact within_regulatorWrite _ _ (sub_trans hw rfl) hk | exact within_errReleaseWrite _ (sub_trans hw rfl) hk | exact within_errFirstWrite _ (sub_trans hw rfl) hk | exact within_pinClaimWrite _ (sub_trans hw rfl) hk | exact within_plainWrite _ _ _ (has_block hw rfl _) (within_snufRun (sub_trans hw rfl) hk) | exact within_driveFrom _ (sub_trans hw rfl) (within_plainWrite _ _ _ (has_block hw rfl _) hk)

theorem within_applyWrite {M : Nat} {s0 s : State} (r : RegName) (i v : Nat) (hw : Sub 0x7ffffffffffffffffffffffffffffffffffffffffffffffffffffffffffffffffffb77afc M) (hk : Within M s0 s) :
    Within M s0 (s.applyWrite r i v) := by
  unfold State.applyWrite
  split
  · exact hk
  · cases h1 : s.windowWrite r i v with
    | some t => exact within_windowWrite r i v (sub_trans hw rfl) hk t h1
    | none =>
      cases h2 : s.contextWrite r i v with
      | some t => exact within_contextWrite r i v (sub_trans hw rfl) hk t h2
      | none =>
        cases h3 : s.blockWrite r i v with
        | some t => exact within_blockWrite r i v (sub_trans hw rfl) hk t h3
        | none => exact within_plainWrite r i v (has_block hw rfl r) hk

theorem within_pairLowWrite {M : Nat} {s0 s : State} (f : Nat) (r : RegName) (i : Nat) (v : Nat) (hw : Sub 0x7ffffffffffffffffffffffffffffffffffffffffffffffffffffffffffffffffff800002 M) (hk : Within M s0 s) :
   Within M s0 (State.pairLowWrite s f r i v) := by
  unfold State.pairLowWrite
  repeat' (first | intro _ | with_reducible assumption | with_reducible exact rfl | exact sub_trans hw rfl | exact has_of hw rfl | with_reducible exact .inl rfl | exact .inr (has_of hw rfl) | exact .inl rfl | dsimp only | with_reducible apply within_ite | with_reducible apply within_ite2 | with_reducible apply within_foldl | split | ((with_reducible apply within_mk); with_reducible exact rfl))

theorem within_pairHighWrite {M : Nat} {s0 s : State} (f : Nat) (r : RegName) (i : Nat) (v : Nat) (hw : Sub 0x7ffffffffffffffffffffffffffffffffffffffffffffffffffffffffffffffffffb77afe M) (hk : Within M s0 s) :
   Within M s0 (State.pairHighWrite s f r i v) := by
  unfold State.pairHighWrite
  repeat' (first | intro _ | with_reducible assumption | with_reducible exact rfl | exact sub_trans hw rfl | exact has_of hw rfl | with_reducible exact .inl rfl | exact .inr (has_of hw rfl) | exact .inl rfl | dsimp only | with_reducible apply within_applyWrite | with_reducible apply within_ite | with_reducible apply within_ite2 | with_reducible apply within_foldl | split | ((with_reducible apply within_mk); with_reducible exact rfl))

theorem within_writeReg {M : Nat} {s0 s : State} (f : Nat) (r : RegName) (i : Nat) (v : Nat) (hw : Sub 0x7ffffffffffffffffffffffffffffffffffffffffffffffffffffffffffffffffffb77afe M) (hk : Within M s0 s) :
   Within M s0 (State.writeReg s f r i v) := by
  unfold State.writeReg
  repeat' (first | intro _ | with_reducible assumption | with_reducible exact rfl | exact sub_trans hw rfl | exact has_of hw rfl | with_reducible exact .inl rfl | exact .inr (has_of hw rfl) | exact .inl rfl | dsimp only | with_reducible apply within_pairLowWrite | with_reducible apply within_pairHighWrite | with_reducible apply within_applyWrite | with_reducible apply within_ite | with_reducible apply within_ite2 | with_reducible apply within_foldl | split | ((with_reducible apply within_mk); with_reducible exact rfl))

theorem within_aliasWrite {M : Nat} {s0 s : State} (f : Nat) (a : Nat) (v : Nat) (hw : Sub 0x7ffffffffffffffffffffffffffffffffffffffffffffffffffffffffffffffffffb77afe M) (hk : Within M s0 s) :
   Within M s0 (State.aliasWrite s f a v) := by
  unfold State.aliasWrite
  repeat' (first | intro _ | with_reducible assumption | with_reducible exact rfl | exact sub_trans hw rfl | exact has_of hw rfl | with_reducible exact .inl rfl | exact .inr (has_of hw rfl) | exact .inl rfl | dsimp only | with_reducible apply within_onBus | with_reducible apply within_writeReg | with_reducible apply within_ite | with_reducible apply within_ite2 | with_reducible apply within_foldl | split | ((with_reducible apply within_mk); with_reducible exact rfl))

theorem within_writeAt {M : Nat} {s0 s : State} (f : Nat) (a : Nat) (v : Nat) (hw : Sub 0x7ffffffffffffffffffffffffffffffffffffffffffffffffffffffffffffffffffb77afe M) (hk : Within M s0 s) :
   Within M s0 (State.writeAt s f a v) := by
  unfold State.writeAt
  repeat' (first | intro _ | with_reducible assumption | with_reducible exact rfl | exact sub_trans hw rfl | exact has_of hw rfl | with_reducible exact .inl rfl | exact .inr (has_of hw rfl) | exact .inl rfl | dsimp only | with_reducible apply within_onBus | with_reducible apply within_writeReg | with_reducible apply within_aliasWrite | with_reducible apply within_ite | with_reducible apply within_ite2 | with_reducible apply within_foldl | split | ((with_reducible apply within_mk); with_reducible exact rfl))

theorem within_busWrite {M : Nat} {s0 s : State} (f : Nat) (a : Nat) (n : Nat) (v : Nat) (hw : Sub 0x7ffffffffffffffffffffffffffffffffffffffffffffffffffffffffffffffffffb77afe M) (hk : Within M s0 s) :
   Within M s0 (State.busWrite s f a n v) := by
  unfold State.busWrite
  repeat' (first | intro _ | with_reducible assumption | with_reducible exact rfl | exact sub_trans hw rfl | exact has_of hw rfl | with_reducible exact .inl rfl | exact .inr (has_of hw rfl) | exact .inl rfl | dsimp only | with_reducible apply within_writeAt | with_reducible apply within_ite | with_reducible apply within_ite2 | with_reducible apply within_foldl | split | ((with_reducible apply within_mk); with_reducible exact rfl))

theorem within_busRead {M : Nat} {s0 s : State} (f : Nat) (a : Nat) (n : Nat) (hw : Sub 0x1ff8000000000000000000000000000000000000000000000000604005 M) (hk : Within M s0 s) :
   Within M s0 (State.busRead s f a n) := by
  unfold State.busRead
  repeat' (first | intro _ | with_reducible assumption | with_reducible exact rfl | exact sub_trans hw rfl | exact has_of hw rfl | with_reducible exact .inl rfl | exact .inr (has_of hw rfl) | exact .inl rfl | dsimp only | with_reducible apply within_readAt | with_reducible apply within_emit | with_reducible apply within_ite | with_reducible apply within_ite2 | with_reducible apply within_foldl | split | ((with_reducible apply within_mk); with_reducible exact rfl))

theorem within_halfWrite {M : Nat} {s0 s : State} (f : Nat) (a : Nat) (h : Half) (v : Nat) (hw : Sub 0x7ffffffffffffffffffffffffffffffffffffffffffffffffffffffffffffffffffb77afe M) (hk : Within M s0 s) :
   Within M s0 (State.halfWrite s f a h v) := by
  unfold State.halfWrite
  repeat' (first | intro _ | with_reducible assumption | with_reducible exact rfl | exact sub_trans hw rfl | exact has_of hw rfl | with_reducible exact .inl rfl | exact .inr (has_of hw rfl) | exact .inl rfl | dsimp only | with_reducible apply within_onBus | with_reducible apply within_writeReg | with_reducible apply within_ite | with_reducible apply within_ite2 | with_reducible apply within_foldl | split | ((with_reducible apply within_mk); with_reducible exact rfl))

theorem within_aeLoop {M : Nat} {s0 s : State} (n : Nat) (hw : Sub 0x2464000000000000000000000000000000000000002000e000000000000000000240020 M) (hk : Within M s0 s) :
   Within M s0 (State.aeLoop s n) := by
  unfold State.aeLoop
  repeat' (first | intro _ | with_reducible assumption | with_reducible exact rfl | exact sub_trans hw rfl | exact has_of hw rfl | with_reducible exact .inl rfl | exact .inr (has_of hw rfl) | exact .inl rfl | dsimp only | with_reducible apply within_modCam | with_reducible apply within_stageSet | with_reducible apply within_camCount | with_reducible apply within_ite | with_reducible apply within_ite2 | with_reducible apply within_foldl | split | ((with_reducible apply within_mk); with_reducible exact rfl))

theorem within_awbLoop {M : Nat} {s0 s : State} (n : Nat) (hw : Sub 0x40000000000000000000000020 M) (hk : Within M s0 s) :
   Within M s0 (State.awbLoop s n) := by
  unfold State.awbLoop
  repeat' (first | intro _ | with_reducible assumption | with_reducible exact rfl | exact sub_trans hw rfl | exact has_of hw rfl | with_reducible exact .inl rfl | exact .inr (has_of hw rfl) | exact .inl rfl | dsimp only | with_reducible apply within_modCam | with_reducible apply within_setRegN | with_reducible apply within_ite | with_reducible apply within_ite2 | with_reducible apply within_foldl | split | ((with_reducible apply within_mk); with_reducible exact rfl))

theorem within_dramHot {M : Nat} {s0 s : State} (hw : Sub 0x800000000000000000000000000000000000000000000000 M) (hk : Within M s0 s) :
   Within M s0 (State.dramHot s) := by
  unfold State.dramHot
  repeat' (first | intro _ | with_reducible assumption | with_reducible exact rfl | exact sub_trans hw rfl | exact has_of hw rfl | with_reducible exact .inl rfl | exact .inr (has_of hw rfl) | exact .inl rfl | dsimp only | with_reducible apply within_setFld | with_reducible apply within_ite | with_reducible apply within_ite2 | with_reducible apply within_foldl | split | ((with_reducible apply within_mk); with_reducible exact rfl))

theorem within_dramCool {M : Nat} {s0 s : State} (hw : Sub 0x800000000000000000000000000000000000000000000000 M) (hk : Within M s0 s) :
   Within M s0 (State.dramCool s) := by
  unfold State.dramCool
  repeat' (first | intro _ | with_reducible assumption | with_reducible exact rfl | exact sub_trans hw rfl | exact has_of hw rfl | with_reducible exact .inl rfl | exact .inr (has_of hw rfl) | exact .inl rfl | dsimp only | with_reducible apply within_setFld | with_reducible apply within_ite | with_reducible apply within_ite2 | with_reducible apply within_foldl | split | ((with_reducible apply within_mk); with_reducible exact rfl))

theorem within_bringupExpiry {M : Nat} {s0 s : State} (p : Nat) (hw : Sub 0x24641002000000000010400000000000000000000000000000004220000000000245008 M) (hk : Within M s0 s) :
   Within M s0 (State.bringupExpiry s p) := by
  unfold State.bringupExpiry
  repeat' (first | intro _ | with_reducible assumption | with_reducible exact rfl | exact sub_trans hw rfl | exact has_of hw rfl | with_reducible exact .inl rfl | exact .inr (has_of hw rfl) | exact .inl rfl | dsimp only | with_reducible apply within_attemptFail | with_reducible apply within_ite | with_reducible apply within_ite2 | with_reducible apply within_foldl | split | ((with_reducible apply within_mk); with_reducible exact rfl))

theorem within_ackTimer {M : Nat} {s0 s : State} (p : Nat) (hw : Sub 0x18 M) (hk : Within M s0 s) :
   Within M s0 (State.ackTimer s p) := by
  unfold State.ackTimer
  repeat' (first | intro _ | with_reducible assumption | with_reducible exact rfl | exact sub_trans hw rfl | exact has_of hw rfl | with_reducible exact .inl rfl | exact .inr (has_of hw rfl) | exact .inl rfl | dsimp only | with_reducible apply within_sendAck | with_reducible apply within_ite | with_reducible apply within_ite2 | with_reducible apply within_foldl | split | ((with_reducible apply within_mk); with_reducible exact rfl))

theorem within_creditTimer {M : Nat} {s0 s : State} (p : Nat) (hw : Sub 0x18 M) (hk : Within M s0 s) :
   Within M s0 (State.creditTimer s p) := by
  unfold State.creditTimer
  repeat' (first | intro _ | with_reducible assumption | with_reducible exact rfl | exact sub_trans hw rfl | exact has_of hw rfl | with_reducible exact .inl rfl | exact .inr (has_of hw rfl) | exact .inl rfl | dsimp only | with_reducible apply within_sendCredit | with_reducible apply within_ite | with_reducible apply within_ite2 | with_reducible apply within_foldl | split | ((with_reducible apply within_mk); with_reducible exact rfl))

theorem within_skipSend {M : Nat} {s0 s : State} (p : Nat) (hw : Sub 0x10 M) (hk : Within M s0 s) :
   Within M s0 (State.skipSend s p) := by
  unfold State.skipSend
  repeat' (first | intro _ | with_reducible assumption | with_reducible exact rfl | exact sub_trans hw rfl | exact has_of hw rfl | with_reducible exact .inl rfl | exact .inr (has_of hw rfl) | exact .inl rfl | dsimp only | with_reducible apply within_queueBlock | with_reducible apply within_ite | with_reducible apply within_ite2 | with_reducible apply within_foldl | split | ((with_reducible apply within_mk); with_reducible exact rfl))

theorem within_heldStart {M : Nat} {s0 s : State} (p : Nat) (hw : Sub 0x18 M) (hk : Within M s0 s) :
   Within M s0 (State.heldStart s p) := by
  unfold State.heldStart
  repeat' (first | intro _ | with_reducible assumption | with_reducible exact rfl | exact sub_trans hw rfl | exact has_of hw rfl | with_reducible exact .inl rfl | exact .inr (has_of hw rfl) | exact .inl rfl | dsimp only | with_reducible apply within_setPort | with_reducible apply within_beginTunnel | with_reducible apply within_ite | with_reducible apply within_ite2 | with_reducible apply within_foldl | split | ((with_reducible apply within_mk); with_reducible exact rfl))

theorem within_tunnelTimeout {M : Nat} {s0 s : State} (p : Nat) (tag : Nat) (hw : Sub 0x24640000000000000010400000000000000000000008010008000000000000000247068 M) (hk : Within M s0 s) :
   Within M s0 (State.tunnelTimeout s p tag) := by
  unfold State.tunnelTimeout
  repeat' (first | intro _ | with_reducible assumption | with_reducible exact rfl | exact sub_trans hw rfl | exact has_of hw rfl | with_reducible exact .inl rfl | exact .inr (has_of hw rfl) | exact .inl rfl | dsimp only | with_reducible apply within_modPort | with_reducible apply within_tunnelDone | with_reducible apply within_ite | with_reducible apply within_ite2 | with_reducible apply within_foldl | split | ((with_reducible apply within_mk); with_reducible exact rfl))

theorem within_portEnable {M : Nat} {s0 s : State} (p : Nat) (v : Nat) (hw : Sub 0x2464100200000000001040000000000000000000001c0101080042f0000000000347278 M) (hk : Within M s0 s) :
   Within M s0 (State.portEnable s p v) := by
  unfold State.portEnable
  repeat' (first | intro _ | with_reducible assumption | with_reducible exact rfl | exact sub_trans hw rfl | exact has_of hw rfl | with_reducible exact .inl rfl | exact .inr (has_of hw rfl) | exact .inl rfl | dsimp only | with_reducible apply within_portCfgWrite | with_reducible apply within_ite | with_reducible apply within_ite2 | with_reducible apply within_foldl | split | ((with_reducible apply within_mk); with_reducible exact rfl))

theorem within_portDisable {M : Nat} {s0 s : State} (p : Nat) (v : Nat) (hw : Sub 0x2464100200000000001040000000000000000000001c0101080042f0000000000347278 M) (hk : Within M s0 s) :
   Within M s0 (State.portDisable s p v) := by
  unfold State.portDisable
  repeat' (first | intro _ | with_reducible assumption | with_reducible exact rfl | exact sub_trans hw rfl | exact has_of hw rfl | with_reducible exact .inl rfl | exact .inr (has_of hw rfl) | exact .inl rfl | dsimp only | with_reducible apply within_portCfgWrite | with_reducible apply within_ite | with_reducible apply within_ite2 | with_reducible apply within_foldl | split | ((with_reducible apply within_mk); with_reducible exact rfl))

theorem within_retrainRequest {M : Nat} {s0 s : State} (p : Nat) (v : Nat) (hw : Sub 0x2464100200000000001040000000000000000000001c0101080042f0000000000347278 M) (hk : Within M s0 s) :
   Within M s0 (State.retrainRequest s p v) := by
  unfold State.retrainRequest
  repeat' (first | intro _ | with_reducible assumption | with_reducible exact rfl | exact sub_trans hw rfl | exact has_of hw rfl | with_reducible exact .inl rfl | exact .inr (has_of hw rfl) | exact .inl rfl | dsimp only | with_reducible apply within_portCfgWrite | with_reducible apply within_ite | with_reducible apply within_ite2 | with_reducible apply within_foldl | split | ((with_reducible apply within_mk); with_reducible exact rfl))

theorem within_cqOn {M : Nat} {s0 s : State} (f : Nat) (q : Nat) (v : Nat) (hw : Sub 0x18000000000000000000000000000000000000000000000004000 M) (hk : Within M s0 s) :
   Within M s0 (State.cqOn s f q v) := by
  unfold State.cqOn
  repeat' (first | intro _ | with_reducible assumption | with_reducible exact rfl | exact sub_trans hw rfl | exact has_of hw rfl | with_reducible exact .inl rfl | exact .inr (has_of hw rfl) | exact .inl rfl | dsimp only | with_reducible apply within_cqCfgWrite | with_reducible apply within_ite | with_reducible apply within_ite2 | with_reducible apply within_foldl | split | ((with_reducible apply within_mk); with_reducible exact rfl))

theorem within_cqOff {M : Nat} {s0 s : State} (f : Nat) (q : Nat) (v : Nat) (hw : Sub 0x18000000000000000000000000000000000000000000000004000 M) (hk : Within M s0 s) :
   Within M s0 (State.cqOff s f q v) := by
  unfold State.cqOff
  repeat' (first | intro _ | with_reducible assumption | with_reducible exact rfl | exact sub_trans hw rfl | exact has_of hw rfl | with_reducible exact .inl rfl | exact .inr (has_of hw rfl) | exact .inl rfl | dsimp only | with_reducible apply within_cqCfgWrite | with_reducible apply within_ite | with_reducible apply within_ite2 | with_reducible apply within_foldl | split | ((with_reducible apply within_mk); with_reducible exact rfl))

theorem within_evqOn {M : Nat} {s0 s : State} (f : Nat) (v : Nat) (hw : Sub 0x180000000000000000000000000000000000000000000000000000 M) (hk : Within M s0 s) :
   Within M s0 (State.evqOn s f v) := by
  unfold State.evqOn
  repeat' (first | intro _ | with_reducible assumption | with_reducible exact rfl | exact sub_trans hw rfl | exact has_of hw rfl | with_reducible exact .inl rfl | exact .inr (has_of hw rfl) | exact .inl rfl | dsimp only | with_reducible apply within_evqCfgWrite | with_reducible apply within_ite | with_reducible apply within_ite2 | with_reducible apply within_foldl | split | ((with_reducible apply within_mk); with_reducible exact rfl))

theorem within_schedOn {M : Nat} {s0 s : State} (g : Nat) (hw : Sub 0x24640000000000000000000000000000000000000000000000000000840000000240024 M) (hk : Within M s0 s) :
   Within M s0 (State.schedOn s g) := by
  unfold State.schedOn
  repeat' (first | intro _ | with_reducible assumption | with_reducible exact rfl | exact sub_trans hw rfl | exact has_of hw rfl | with_reducible exact .inl rfl | exact .inr (has_of hw rfl) | exact .inl rfl | dsimp only | with_reducible apply within_schedCtlWrite | with_reducible apply within_ite | with_reducible apply within_ite2 | with_reducible apply within_foldl | split | ((with_reducible apply within_mk); with_reducible exact rfl))

theorem within_schedOff {M : Nat} {s0 s : State} (g : Nat) (hw : Sub 0x24640000000000000000000000000000000000000000000000000000840000000240024 M) (hk : Within M s0 s) :
   Within M s0 (State.schedOff s g) := by
  unfold State.schedOff
  repeat' (first | intro _ | with_reducible assumption | with_reducible exact rfl | exact sub_trans hw rfl | exact has_of hw rfl | with_reducible exact .inl rfl | exact .inr (has_of hw rfl) | exact .inl rfl | dsimp only | with_reducible apply within_schedCtlWrite | with_reducible apply within_ite | with_reducible apply within_ite2 | with_reducible apply within_foldl | split | ((with_reducible apply within_mk); with_reducible exact rfl))

theorem within_syncOutOn {M : Nat} {s0 s : State} (i : Nat) (v : Nat) (hw : Sub 0x8000000000200004 M) (hk : Within M s0 s) :
   Within M s0 (State.syncOutOn s i v) := by
  unfold State.syncOutOn
  repeat' (first | intro _ | with_reducible assumption | with_reducible exact rfl | exact sub_trans hw rfl | exact has_of hw rfl | with_reducible exact .inl rfl | exact .inr (has_of hw rfl) | exact .inl rfl | dsimp only | with_reducible apply within_syncOutWrite | with_reducible apply within_ite | with_reducible apply within_ite2 | with_reducible apply within_foldl | split | ((with_reducible apply within_mk); with_reducible exact rfl))

theorem within_snapReadBy {M : Nat} {s0 s : State} (f : Nat) (hw : Sub 0x200005 M) (hk : Within M s0 s) :
   Within M s0 (State.snapReadBy s f) := by
  unfold State.snapReadBy
  repeat' (first | intro _ | with_reducible assumption | with_reducible exact rfl | exact sub_trans hw rfl | exact has_of hw rfl | with_reducible exact .inl rfl | exact .inr (has_of hw rfl) | exact .inl rfl | dsimp only | with_reducible apply within_onBus | with_reducible apply within_snapRead | with_reducible apply within_emit | with_reducible apply within_ite | with_reducible apply within_ite2 | with_reducible apply within_foldl | split | ((with_reducible apply within_mk); with_reducible exact rfl))

theorem within_arrive {M : Nat} {s0 s : State} (p : Nat) (ok : Bool) (k : Packet) (hw : Sub 0x2464980200000000001040000000000000000140021c0307f800ffe0000000000347278 M) (hk : Within M s0 s) :
   Within M s0 (State.arrive s p ok k) := by
  unfold State.arrive
  repeat' (first | intro _ | with_reducible assumption | with_reducible exact rfl | exact sub_trans hw rfl | exact has_of hw rfl | with_reducible exact .inl rfl | exact .inr (has_of hw rfl) | exact .inl rfl | dsimp only | with_reducible apply within_receive | with_reducible apply within_ite | with_reducible apply within_ite2 | with_reducible apply within_foldl | split | ((with_reducible apply within_mk); with_reducible exact rfl))

theorem within_reservedArrives {M : Nat} {s0 s : State} (p : Nat) (k : Packet) (hw : Sub 0x2464980200000000001040000000000000000140021c0307f800ffe0000000000347278 M) (hk : Within M s0 s) :
   Within M s0 (State.reservedArrives s p k) := by
  unfold State.reservedArrives
  repeat' (first | intro _ | with_reducible assumption | with_reducible exact rfl | exact sub_trans hw rfl | exact has_of hw rfl | with_reducible exact .inl rfl | exact .inr (has_of hw rfl) | exact .inl rfl | dsimp only | with_reducible apply within_strayBlock | with_reducible apply within_arrive | with_reducible apply within_ite | with_reducible apply within_ite2 | with_reducible apply within_foldl | split | ((with_reducible apply within_mk); with_reducible exact rfl))

theorem within_checkChain {M : Nat} {s0 s : State} (p : Nat) (hw : Sub 0x124650612004000000010400400efee200140900000140001000000c00000000003677e4 M) (hk : Within M s0 s) :
   Within M s0 (State.checkChain s p) := by
  unfold State.checkChain
  repeat' (first | intro _ | with_reducible assumption | with_reducible exact rfl | exact sub_trans hw rfl | exact has_of hw rfl | with_reducible exact .inl rfl | exact .inr (has_of hw rfl) | exact .inl rfl | dsimp only | with_reducible apply within_chainCheck | with_reducible apply within_ite | with_reducible apply within_ite2 | with_reducible apply within_foldl | split | ((with_reducible apply within_mk); with_reducible exact rfl))

theorem within_poolTimeout {M : Nat} {s0 s : State} (n : Nat) (q : Nat) (hw : Sub 0x24640000000000000010400000000000000001c00000000000000000000000000245060 M) (hk : Within M s0 s) :
   Within M s0 (State.poolTimeout s n q) := by
  unfold State.poolTimeout
  repeat' (first | intro _ | with_reducible assumption | with_reducible exact rfl | exact sub_trans hw rfl | exact has_of hw rfl | with_reducible exact .inl rfl | exact .inr (has_of hw rfl) | exact .inl rfl | dsimp only | with_reducible apply within_shedForPool | with_reducible apply within_ite | with_reducible apply within_ite2 | with_reducible apply within_foldl | split | ((with_reducible apply within_mk); with_reducible exact rfl))

theorem within_mailboxSend {M : Nat} {s0 s : State} (f : Nat) (sfl : Bool) (v : Nat) (hw : Sub 0x24640000000000005010400000000000000000000000000000000000000000000255000 M) (hk : Within M s0 s) :
   Within M s0 (State.mailboxSend s f sfl v) := by
  unfold State.mailboxSend
  repeat' (first | intro _ | with_reducible assumption | with_reducible exact rfl | exact sub_trans hw rfl | exact has_of hw rfl | with_reducible exact .inl rfl | exact .inr (has_of hw rfl) | exact .inl rfl | dsimp only | with_reducible apply within_onBus | with_reducible apply within_txSend | with_reducible apply within_ite | with_reducible apply within_ite2 | with_reducible apply within_foldl | split | ((with_reducible apply within_mk); with_reducible exact rfl))

theorem within_convertOp {M : Nat} {s0 s : State} (i : Nat) (c : Nat) (o : ConvertOp) (hw : Sub 0x24640000000000000010400080002c200340904000000000080000000000000002475f8 M) (hk : Within M s0 s) :
   Within M s0 (State.convertOp s i c o) := by
  unfold State.convertOp
  repeat' (first | intro _ | with_reducible assumption | with_reducible exact rfl | exact sub_trans hw rfl | exact has_of hw rfl | with_reducible exact .inl rfl | exact .inr (has_of hw rfl) | exact .inl rfl | dsimp only | with_reducible apply within_convertIssue | with_reducible apply within_ite | with_reducible apply within_ite2 | with_reducible apply within_foldl | split | ((with_reducible apply within_mk); with_reducible exact rfl))

end Sys2Proof.Machine
end

