-- ==== Sys2Proof/Laws/Fields.lean ====
section
/-! SUPPORT. What an operation leaves as it is, read off the parts that it may touch, and fields of registers after the
operations that log and reply. -/
set_option linter.all false
namespace Sys2Proof.Machine

/-! ### Reading a part off Within -/

theorem Within.reg {m : Nat} {s t : State} (h : Within m s t) (r : RegName) (i : Nat) (hb : m.testBit r.ix = false) :
    t.reg r i = s.reg r i := h.same (.reg r) hb i
theorem Within.regN {m : Nat} {s t : State} (h : Within m s t) (r : RegName) (i : Nat) (hb : m.testBit r.ix = false) :
    t.regN r i = s.regN r i := by unfold State.regN; rw [h.reg r i hb]
theorem Within.fld {m : Nat} {s t : State} (h : Within m s t) (f : Fld) (i : Nat) (hb : m.testBit f.reg.ix = false) :
    t.fld f i = s.fld f i := by unfold State.fld; rw [h.regN f.reg i hb]
theorem Within.flag {m : Nat} {s t : State} (h : Within m s t) (f : Fld) (i : Nat) (hb : m.testBit f.reg.ix = false) :
    t.flag f i = s.flag f i := by unfold State.flag; rw [h.fld f i hb]
theorem Within.time {m : Nat} {s t : State} (h : Within m s t) (hb : m.testBit 2 = false) : t.time = s.time := h.same .time hb
theorem Within.ports {m : Nat} {s t : State} (h : Within m s t) (hb : m.testBit 3 = false) : t.ports = s.ports := h.same .ports hb
theorem Within.tx {m : Nat} {s t : State} (h : Within m s t) (hb : m.testBit 4 = false) : t.tx = s.tx := h.same .tx hb
theorem Within.cams {m : Nat} {s t : State} (h : Within m s t) (hb : m.testBit 5 = false) : t.cams = s.cams := h.same .cams hb
theorem Within.frames {m : Nat} {s t : State} (h : Within m s t) (hb : m.testBit 6 = false) : t.frames = s.frames := h.same .frames hb
theorem Within.cores {m : Nat} {s t : State} (h : Within m s t) (hb : m.testBit 7 = false) : t.cores = s.cores := h.same .cores hb
theorem Within.hold {m : Nat} {s t : State} (h : Within m s t) (hb : m.testBit 9 = false) : t.hold = s.hold := h.same .hold hb
theorem Within.adapt {m : Nat} {s t : State} (h : Within m s t) (hb : m.testBit 10 = false) : t.adapt = s.adapt := h.same .adapt hb
theorem Within.sec {m : Nat} {s t : State} (h : Within m s t) (hb : m.testBit 11 = false) : t.sec = s.sec := h.same .sec hb
theorem Within.boot {m : Nat} {s t : State} (h : Within m s t) (hb : m.testBit 12 = false) : t.boot = s.boot := h.same .boot hb
theorem Within.groups {m : Nat} {s t : State} (h : Within m s t) (hb : m.testBit 13 = false) : t.groups = s.groups := h.same .groups hb
theorem Within.fns {m : Nat} {s t : State} (h : Within m s t) (hb : m.testBit 14 = false) : t.fns = s.fns := h.same .fns hb
theorem Within.sfl {m : Nat} {s t : State} (h : Within m s t) (hb : m.testBit 16 = false) : t.sfl = s.sfl := h.same .sfl hb
theorem Within.chn {m : Nat} {s t : State} (h : Within m s t) (hb : m.testBit 17 = false) : t.chn = s.chn := h.same .chn hb
theorem Within.log {m : Nat} {s t : State} (h : Within m s t) (hb : m.testBit 18 = false) : t.log = s.log := h.same .log hb
theorem Within.fatal {m : Nat} {s t : State} (h : Within m s t) (hb : m.testBit 19 = false) : t.fatal = s.fatal := h.same .fatal hb
theorem Within.mem {m : Nat} {s t : State} (h : Within m s t) (hb : m.testBit 20 = false) : t.mem = s.mem := h.same .mem hb
theorem Within.out {m : Nat} {s t : State} (h : Within m s t) (hb : m.testBit 21 = false) : t.out = s.out := h.same .out hb
theorem Within.free {m : Nat} {s t : State} (h : Within m s t) (hb : m.testBit 22 = false) : t.free = s.free := h.same .free hb

/-! ### Putting two operations together -/

theorem Same.trans {p : Part} {s t v : State} (h : Same p s t) (h2 : Same p t v) : Same p s v := by
  cases p <;> first
    | exact Eq.trans h2 h
    | exact fun i => (h2 i).trans (h i)
    | exact ⟨h2.1.trans h.1, h2.2.1.trans h.2.1, h2.2.2.trans h.2.2⟩
theorem Within.mono {a m : Nat} {s t : State} (h : Within a s t) (hs : Sub a m) : Within m s t :=
  ⟨fun p hp => h.same p (by
    cases e : a.testBit p.ix with
    | false => rfl
    | true => exact absurd (has_of hs e) (by unfold Has; rw [hp]; decide))⟩
theorem Within.trans {m : Nat} {s t v : State} (h : Within m s t) (h2 : Within m t v) : Within m s v :=
  ⟨fun p hp => (h.same p hp).trans (h2.same p hp)⟩

/-! ### Registers and fields -/

/-- A field set leaves every other register, whatever the instance. -/
theorem State.fld_setFld_reg (s : State) (f g : Fld) (i j v : Nat) (h : g.reg ≠ f.reg) : (s.setFld f i v).fld g j = s.fld g j :=
  State.fld_setFld_ne _ _ _ _ _ _ (fun e => h (congrArg Prod.fst e))
/-- A field set to a value that it holds reads back as that value. -/
theorem State.fld_setFld_id (s : State) (f : Fld) (i v : Nat) (hf : f.lo + f.width ≤ 32) (hv : v < 2 ^ f.width) :
    (s.setFld f i v).fld f i = v := (State.fld_setFld s f i v hf).trans (Nat.mod_eq_of_lt hv)
theorem State.fld_setRegN_reg (s : State) (r : RegName) (g : Fld) (i j v : Nat) (h : g.reg ≠ r) : (s.setRegN r i v).fld g j = s.fld g j := by
  unfold State.fld; rw [State.regN_setRegN_ne _ _ _ _ _ _ (fun e => h (congrArg Prod.fst e))]
theorem State.regN_setRegN_reg (s : State) (r g : RegName) (i j v : Nat) (h : g ≠ r) : (s.setRegN r i v).regN g j = s.regN g j :=
  State.regN_setRegN_ne _ _ _ _ _ _ (fun e => h (congrArg Prod.fst e))
theorem State.regN_setFld_reg (s : State) (f : Fld) (g : RegName) (i j v : Nat) (h : g ≠ f.reg) : (s.setFld f i v).regN g j = s.regN g j :=
  State.regN_setRegN_ne _ _ _ _ _ _ (fun e => h (congrArg Prod.fst e))
theorem State.reg_setFld_reg (s : State) (f : Fld) (g : RegName) (i j v : Nat) (h : g ≠ f.reg) : (s.setFld f i v).reg g j = s.reg g j :=
  State.reg_setReg_ne _ _ _ _ _ _ (fun e => h (congrArg Prod.fst e))
theorem State.flag_setFld_reg (s : State) (f g : Fld) (i j v : Nat) (h : g.reg ≠ f.reg) : (s.setFld f i v).flag g j = s.flag g j := by
  unfold State.flag; rw [State.fld_setFld_reg _ _ _ _ _ _ h]
/-- A register set reads back in its fields. -/
theorem State.fld_setRegN (s : State) (r : RegName) (g : Fld) (i v : Nat) (h : g.reg = r) (hg : g.lo + g.width ≤ 32) :
    (s.setRegN r i v).fld g i = getBits v g.lo g.width := by
  unfold State.fld; rw [h, State.regN_setRegN, getBits_mod _ _ _ _ hg]
@[simp] theorem State.setEvt_eq (s : State) (f : Fld) (i : Nat) : s.setEvt f i = s.setFld f i 1 := rfl
theorem State.flag_iff (s : State) (f : Fld) (i : Nat) : s.flag f i = true ↔ s.fld f i = 1 := by simp [State.flag]

/-! ### Keyed parts -/
@[simp] theorem State.port_setPort (s : State) (p : Nat) (x : PortS) : (s.setPort p x).port p = x := Tab.get_set _ _ _
@[simp] theorem State.port_modPort (s : State) (p : Nat) (g : PortS → PortS) : (s.modPort p g).port p = g (s.port p) := Tab.get_set _ _ _
theorem State.port_setPort_ne (s : State) (p j : Nat) (x : PortS) (h : j ≠ p) : (s.setPort p x).port j = s.port j := Tab.get_set_ne _ _ _ _ h
theorem State.port_modPort_ne (s : State) (p j : Nat) (g : PortS → PortS) (h : j ≠ p) : (s.modPort p g).port j = s.port j := Tab.get_set_ne _ _ _ _ h
@[simp] theorem State.cam_setCam (s : State) (p : Nat) (x : CamS) : (s.setCam p x).cam p = x := Tab.get_set _ _ _
@[simp] theorem State.cam_modCam (s : State) (p : Nat) (g : CamS → CamS) : (s.modCam p g).cam p = g (s.cam p) := Tab.get_set _ _ _
theorem State.cam_setCam_ne (s : State) (p j : Nat) (x : CamS) (h : j ≠ p) : (s.setCam p x).cam j = s.cam j := Tab.get_set_ne _ _ _ _ h
theorem State.cam_modCam_ne (s : State) (p j : Nat) (g : CamS → CamS) (h : j ≠ p) : (s.modCam p g).cam j = s.cam j := Tab.get_set_ne _ _ _ _ h
@[simp] theorem State.fn_setFn (s : State) (p : Nat) (x : FnS) : (s.setFn p x).fn p = x := Tab.get_set _ _ _
@[simp] theorem State.fn_modFn (s : State) (p : Nat) (g : FnS → FnS) : (s.modFn p g).fn p = g (s.fn p) := Tab.get_set _ _ _
theorem State.fn_setFn_ne (s : State) (p j : Nat) (x : FnS) (h : j ≠ p) : (s.setFn p x).fn j = s.fn j := Tab.get_set_ne _ _ _ _ h
theorem State.fn_modFn_ne (s : State) (p j : Nat) (g : FnS → FnS) (h : j ≠ p) : (s.modFn p g).fn j = s.fn j := Tab.get_set_ne _ _ _ _ h
@[simp] theorem State.core_setCore (s : State) (p : Nat) (x : CoreS) : (s.setCore p x).core p = x := Tab.get_set _ _ _
@[simp] theorem State.core_modCore (s : State) (p : Nat) (g : CoreS → CoreS) : (s.modCore p g).core p = g (s.core p) := Tab.get_set _ _ _
theorem State.core_setCore_ne (s : State) (p j : Nat) (x : CoreS) (h : j ≠ p) : (s.setCore p x).core j = s.core j := Tab.get_set_ne _ _ _ _ h
theorem State.core_modCore_ne (s : State) (p j : Nat) (g : CoreS → CoreS) (h : j ≠ p) : (s.modCore p g).core j = s.core j := Tab.get_set_ne _ _ _ _ h
@[simp] theorem State.group_setGroup (s : State) (p : Nat) (x : GroupS) : (s.setGroup p x).group p = x := Tab.get_set _ _ _
@[simp] theorem State.group_modGroup (s : State) (p : Nat) (g : GroupS → GroupS) : (s.modGroup p g).group p = g (s.group p) := Tab.get_set _ _ _
theorem State.group_setGroup_ne (s : State) (p j : Nat) (x : GroupS) (h : j ≠ p) : (s.setGroup p x).group j = s.group j := Tab.get_set_ne _ _ _ _ h
theorem State.group_modGroup_ne (s : State) (p j : Nat) (g : GroupS → GroupS) (h : j ≠ p) : (s.modGroup p g).group j = s.group j := Tab.get_set_ne _ _ _ _ h
@[simp] theorem State.frame_setFrame (s : State) (n q : Nat) (x : FrameS) : (s.setFrame n q x).frame n q = x := Tab.get_set _ _ _
@[simp] theorem State.frame_modFrame (s : State) (n q : Nat) (g : FrameS → FrameS) : (s.modFrame n q g).frame n q = g (s.frame n q) := Tab.get_set _ _ _
@[simp] theorem State.queue_setQueue (s : State) (f q : Nat) (x : QueueS) : (s.setQueue f q x).queue f q = x := by
  simp [State.queue, State.setQueue]
end Sys2Proof.Machine
end

