-- ==== Sys2Proof/Laws/Keeps.lean ====
section
/-! SUPPORT. What no operation undoes: the queue, a canonical memory, what was sent, free values taken, and the enrolment fuses. One lemma for each way of putting operations together. -/
set_option linter.all false
namespace Sys2Proof.Machine

structure Keeps (s t : State) : Prop where
  queue : t.pending = s.pending
  mem : Memory.wf s.mem = true → Memory.wf t.mem = true
  sent : s.out <:+ t.out
  free : s.free ≤ t.free
  enrol : ∀ d, s.sfl.enrol = some d → t.sfl.enrol = some d

theorem keeps_refl (s : State) : Keeps s s := ⟨rfl, id, List.suffix_refl _, Nat.le_refl _, fun _ h => h⟩

theorem keeps_mk {s0 t : State} {a1 a2 a3 a4 a5 a6 a7 a8 a9 a10 a11 a12 a13 a14 a15 a16 a17 a18 a19 a20 a21 a22 a23 a24 a25 a26 a27}
    (hp : a27 = t.pending) (hm : a24 = t.mem) (ho : a25 = t.out) (hf : a26 = t.free) (he : a20.enrol = t.sfl.enrol) (h : Keeps s0 t) :
    Keeps s0 (State.mk a1 a2 a3 a4 a5 a6 a7 a8 a9 a10 a11 a12 a13 a14 a15 a16 a17 a18 a19 a20 a21 a22 a23 a24 a25 a26 a27) :=
  ⟨hp.trans h.queue, fun w => hm ▸ h.mem w, ho ▸ h.sent, hf ▸ h.free, fun d e => he.trans (h.enrol d e)⟩

theorem keeps_ite {s0 a b : State} {c : Prop} [Decidable c] (ha : Keeps s0 a) (hb : Keeps s0 b) : Keeps s0 (if c then a else b) := by
  split <;> assumption
theorem keeps_ite2 {α : Type} {s0 : State} {a b : α × State} {c : Prop} [Decidable c] (ha : Keeps s0 a.2) (hb : Keeps s0 b.2) :
    Keeps s0 (if c then a else b).2 := by
  split <;> assumption
theorem keeps_foldl {α : Type} {s0 s : State} (l : List α) (f : State → α → State) (h : Keeps s0 s)
    (hf : ∀ t x, Keeps s0 t → Keeps s0 (f t x)) : Keeps s0 (l.foldl f s) := by
  induction l generalizing s with
  | nil => exact h
  | cons x l ih => exact ih (hf s x h)

end Sys2Proof.Machine
end

