-- ==== Sys2Proof/Laws/KeepsOps.lean ====
section
/-! SUPPORT. What no operation undoes: one lemma for each operation of registers, intake, links and time. -/
set_option linter.all false
namespace Sys2Proof.Machine

theorem keeps_setReg {s0 s : State} (r : RegName) (i : Nat) (w : Word) (hk : Keeps s0 s) :
   Keeps s0 (State.setReg s r i w) := by
  unfold State.setReg
  repeat' (first | intro _ | with_reducible assumption | exact rfl | dsimp only | with_reducible apply keeps_ite | with_reducible apply keeps_ite2 | with_reducible apply keeps_foldl | split | ((with_reducible apply keeps_mk); (iterate 4 with_reducible exact rfl); first | with_reducible exact rfl | exact rfl))

theorem keeps_setRegN {s0 s : State} (r : RegName) (i : Nat) (v : Nat) (hk : Keeps s0 s) :
   Keeps s0 (State.setRegN s r i v) := by
  unfold State.setRegN
  repeat' (first | intro _ | with_reducible assumption | exact rfl | dsimp only | with_reducible apply keeps_setReg | with_reducible apply keeps_ite | with_reducible apply keeps_ite2 | with_reducible apply keeps_foldl | split | ((with_reducible apply keeps_mk); (iterate 4 with_reducible exact rfl); first | with_reducible exact rfl | exact rfl))

theorem keeps_setFld {s0 s : State} (f : Fld) (i : Nat) (v : Nat) (hk : Keeps s0 s) :
   Keeps s0 (State.setFld s f i v) := by
  unfold State.setFld
  repeat' (first | intro _ | with_reducible assumption | exact rfl | dsimp only | with_reducible apply keeps_setRegN | with_reducible apply keeps_ite | with_reducible apply keeps_ite2 | with_reducible apply keeps_foldl | split | ((with_reducible apply keeps_mk); (iterate 4 with_reducible exact rfl); first | with_reducible exact rfl | exact rfl))

theorem keeps_setPair {s0 s : State} (lo : RegName) (hi : RegName) (i : Nat) (v : Nat) (hk : Keeps s0 s) :
   Keeps s0 (State.setPair s lo hi i v) := by
  unfold State.setPair
  repeat' (first | intro _ | with_reducible assumption | exact rfl | dsimp only | with_reducible apply keeps_setRegN | with_reducible apply keeps_ite | with_reducible apply keeps_ite2 | with_reducible apply keeps_foldl | split | ((with_reducible apply keeps_mk); (iterate 4 with_reducible exact rfl); first | with_reducible exact rfl | exact rfl))

theorem keeps_resetRegs {s0 s : State} (p : RegName → Nat → Bool) (hk : Keeps s0 s) :
   Keeps s0 (State.resetRegs s p) := by
  unfold State.resetRegs
  repeat' (first | intro _ | with_reducible assumption | exact rfl | dsimp only | with_reducible apply keeps_ite | with_reducible apply keeps_ite2 | with_reducible apply keeps_foldl | split | ((with_reducible apply keeps_mk); (iterate 4 with_reducible exact rfl); first | with_reducible exact rfl | exact rfl))

theorem keeps_setPort {s0 s : State} (p : Nat) (x : PortS) (hk : Keeps s0 s) :
   Keeps s0 (State.setPort s p x) := by
  unfold State.setPort
  repeat' (first | intro _ | with_reducible assumption | exact rfl | dsimp only | with_reducible apply keeps_ite | with_reducible apply keeps_ite2 | with_reducible apply keeps_foldl | split | ((with_reducible apply keeps_mk); (iterate 4 with_reducible exact rfl); first | with_reducible exact rfl | exact rfl))

theorem keeps_modPort {s0 s : State} (p : Nat) (f : PortS → PortS) (hk : Keeps s0 s) :
   Keeps s0 (State.modPort s p f) := by
  unfold State.modPort
  repeat' (first | intro _ | with_reducible assumption | exact rfl | dsimp only | with_reducible apply keeps_setPort | with_reducible apply keeps_ite | with_reducible apply keeps_ite2 | with_reducible apply keeps_foldl | split | ((with_reducible apply keeps_mk); (iterate 4 with_reducible exact rfl); first | with_reducible exact rfl | exact rfl))

theorem keeps_setCam {s0 s : State} (n : Nat) (x : CamS) (hk : Keeps s0 s) :
   Keeps s0 (State.setCam s n x) := by
  unfold State.setCam
  repeat' (first | intro _ | with_reducible assumption | exact rfl | dsimp only | with_reducible apply keeps_ite | with_reducible apply keeps_ite2 | with_reducible apply keeps_foldl | split | ((with_reducible apply keeps_mk); (iterate 4 with_reducible exact rfl); first | with_reducible exact rfl | exact rfl))

theorem keeps_modCam {s0 s : State} (n : Nat) (f : CamS → CamS) (hk : Keeps s0 s) :
   Keeps s0 (State.modCam s n f) := by
  unfold State.modCam
  repeat' (first | intro _ | with_reducible assumption | exact rfl | dsimp only | with_reducible apply keeps_setCam | with_reducible apply keeps_ite | with_reducible apply keeps_ite2 | with_reducible apply keeps_foldl | split | ((with_reducible apply keeps_mk); (iterate 4 with_reducible exact rfl); first | with_reducible exact rfl | exact rfl))

theorem keeps_setFrame {s0 s : State} (n : Nat) (q : Nat) (x : FrameS) (hk : Keeps s0 s) :
   Keeps s0 (State.setFrame s n q x) := by
  unfold State.setFrame
  repeat' (first | intro _ | with_reducible assumption | exact rfl | dsimp only | with_reducible apply keeps_ite | with_reducible apply keeps_ite2 | with_reducible apply keeps_foldl | split | ((with_reducible apply keeps_mk); (iterate 4 with_reducible exact rfl); first | with_reducible exact rfl | exact rfl))

theorem keeps_modFrame {s0 s : State} (n : Nat) (q : Nat) (f : FrameS → FrameS) (hk : Keeps s0 s) :
   Keeps s0 (State.modFrame s n q f) := by
  unfold State.modFrame
  repeat' (first | intro _ | with_reducible assumption | exact rfl | dsimp only | with_reducible apply keeps_setFrame | with_reducible apply keeps_ite | with_reducible apply keeps_ite2 | with_reducible apply keeps_foldl | split | ((with_reducible apply keeps_mk); (iterate 4 with_reducible exact rfl); first | with_reducible exact rfl | exact rfl))

theorem keeps_setFn {s0 s : State} (f : Nat) (x : FnS) (hk : Keeps s0 s) :
   Keeps s0 (State.setFn s f x) := by
  unfold State.setFn
  repeat' (first | intro _ | with_reducible assumption | exact rfl | dsimp only | with_reducible apply keeps_ite | with_reducible apply keeps_ite2 | with_reducible apply keeps_foldl | split | ((with_reducible apply keeps_mk); (iterate 4 with_reducible exact rfl); first | with_reducible exact rfl | exact rfl))

theorem keeps_modFn {s0 s : State} (f : Nat) (g : FnS → FnS) (hk : Keeps s0 s) :
   Keeps s0 (State.modFn s f g) := by
  unfold State.modFn
  repeat' (first | intro _ | with_reducible assumption | exact rfl | dsimp only | with_reducible apply keeps_setFn | with_reducible apply keeps_ite | with_reducible apply keeps_ite2 | with_reducible apply keeps_foldl | split | ((with_reducible apply keeps_mk); (iterate 4 with_reducible exact rfl); first | with_reducible exact rfl | exact rfl))

theorem keeps_modTime {s0 s : State} (f : TimeS → TimeS) (hk : Keeps s0 s) :
   Keeps s0 (State.modTime s f) := by
  unfold State.modTime
  repeat' (first | intro _ | with_reducible assumption | exact rfl | dsimp only | with_reducible apply keeps_ite | with_reducible apply keeps_ite2 | with_reducible apply keeps_foldl | split | ((with_reducible apply keeps_mk); (iterate 4 with_reducible exact rfl); first | with_reducible exact rfl | exact rfl))

theorem keeps_emit {s0 s : State} (o : Out) (h : Keeps s0 s) : Keeps s0 (s.emit o) :=
  ⟨h.queue, h.mem, h.sent.trans (List.suffix_cons _ _), h.free, h.enrol⟩

theorem keeps_takeFree {s0 s : State} (h : Keeps s0 s) : Keeps s0 (s.takeFree).2 :=
  ⟨h.queue, h.mem, h.sent, Nat.le_succ_of_le h.free, h.enrol⟩

theorem keeps_spend {s0 s : State} (n : Nat) (h : Keeps s0 s) : Keeps s0 (s.spend n) :=
  ⟨h.queue, h.mem, h.sent, Nat.le_trans h.free (Nat.le_add_right _ _), h.enrol⟩

theorem sendBlocks_sent (p k : Nat) (q : List TxBlock) (o : List Out) : o <:+ (sendBlocks p k q o).2 := by
  induction k generalizing q o with
  | zero => exact List.suffix_refl _
  | succ k ih =>
    unfold sendBlocks
    split
    · exact List.suffix_refl _
    · exact (List.suffix_cons _ _).trans (ih _ _)

theorem drainPort_sent (slot dt p : Nat) (t : TxS) (o : List Out) : o <:+ (drainPort slot dt p t o).2 := by
  unfold drainPort
  dsimp only
  split
  · exact (sendBlocks_sent _ _ _ _).trans (List.suffix_cons _ _)
  · exact sendBlocks_sent _ _ _ _

theorem drainAll_sent (s : State) (dt : Nat) (l : List (Nat × TxS)) (o : List Out) : o <:+ (s.drainAll dt l o).2 := by
  induction l generalizing o with
  | nil => exact List.suffix_refl _
  | cons e l ih => exact (drainPort_sent _ _ _ _ _).trans (ih _)

theorem keeps_elapse {s0 s : State} (dt : Nat) (h : Keeps s0 s) : Keeps s0 (s.elapse dt) := by
  unfold State.elapse
  split
  · exact ⟨h.queue, h.mem, h.sent.trans (drainAll_sent _ _ _ _), h.free, h.enrol⟩
  · exact h

theorem keeps_queueBlock {s0 s : State} (p : Nat) (prio : Nat) (typ : Nat) (payload : Nat) (hk : Keeps s0 s) :
   Keeps s0 (State.queueBlock s p prio typ payload) := by
  unfold State.queueBlock
  repeat' (first | intro _ | with_reducible assumption | exact rfl | dsimp only | with_reducible apply keeps_ite | with_reducible apply keeps_ite2 | with_reducible apply keeps_foldl | split | ((with_reducible apply keeps_mk); (iterate 4 with_reducible exact rfl); first | with_reducible exact rfl | exact rfl))

theorem keeps_raise {s0 s : State} (fn : Nat) (vector : Nat) (hk : Keeps s0 s) :
   Keeps s0 (State.raise s fn vector) := by
  unfold State.raise
  repeat' (first | intro _ | with_reducible assumption | exact rfl | dsimp only | with_reducible apply keeps_emit | with_reducible apply keeps_ite | with_reducible apply keeps_ite2 | with_reducible apply keeps_foldl | split | ((with_reducible apply keeps_mk); (iterate 4 with_reducible exact rfl); first | with_reducible exact rfl | exact rfl))

theorem keeps_obsAdd {s0 s : State} (i : Nat) (n : Nat) (hk : Keeps s0 s) :
   Keeps s0 (State.obsAdd s i n) := by
  unfold State.obsAdd
  repeat' (first | intro _ | with_reducible assumption | exact rfl | dsimp only | with_reducible apply keeps_ite | with_reducible apply keeps_ite2 | with_reducible apply keeps_foldl | split | ((with_reducible apply keeps_mk); (iterate 4 with_reducible exact rfl); first | with_reducible exact rfl | exact rfl))

theorem keeps_traceEv {s0 s : State} (group : Nat) (typ : Nat) (src : Nat) (arg : Nat) (hk : Keeps s0 s) :
   Keeps s0 (State.traceEv s group typ src arg) := by
  unfold State.traceEv
  repeat' (first | intro _ | with_reducible assumption | exact rfl | dsimp only | with_reducible apply keeps_setRegN | with_reducible apply keeps_ite | with_reducible apply keeps_ite2 | with_reducible apply keeps_foldl | split | ((with_reducible apply keeps_mk); (iterate 4 with_reducible exact rfl); first | with_reducible exact rfl | exact rfl))

theorem keeps_captureFirst {s0 s : State} (e : ErrEntry) (hk : Keeps s0 s) :
   Keeps s0 (State.captureFirst s e) := by
  unfold State.captureFirst
  repeat' (first | intro _ | with_reducible assumption | exact rfl | dsimp only | with_reducible apply keeps_setRegN | with_reducible apply keeps_setFld | with_reducible apply keeps_ite | with_reducible apply keeps_ite2 | with_reducible apply keeps_foldl | split | ((with_reducible apply keeps_mk); (iterate 4 with_reducible exact rfl); first | with_reducible exact rfl | exact rfl))

theorem keeps_newEntry {s0 s : State} (e : ErrEntry) (hk : Keeps s0 s) :
   Keeps s0 (State.newEntry s e) := by
  unfold State.newEntry
  repeat' (first | intro _ | with_reducible assumption | exact rfl | dsimp only | with_reducible apply keeps_setRegN | with_reducible apply keeps_captureFirst | with_reducible apply keeps_traceEv | with_reducible apply keeps_raise | with_reducible apply keeps_ite | with_reducible apply keeps_ite2 | with_reducible apply keeps_foldl | split | ((with_reducible apply keeps_mk); (iterate 4 with_reducible exact rfl); first | with_reducible exact rfl | exact rfl))

theorem keeps_logEvent {s0 s : State} (cls : Nat) (src : Nat) (code : Nat) (info : Nat) (flags : Nat) (hk : Keeps s0 s) :
   Keeps s0 (State.logEvent s cls src code info flags) := by
  unfold State.logEvent
  repeat' (first | intro _ | with_reducible assumption | exact rfl | dsimp only | with_reducible apply keeps_captureFirst | with_reducible apply keeps_newEntry | with_reducible apply keeps_ite | with_reducible apply keeps_ite2 | with_reducible apply keeps_foldl | split | ((with_reducible apply keeps_mk); (iterate 4 with_reducible exact rfl); first | with_reducible exact rfl | exact rfl))

theorem keeps_bump {s0 s : State} (r : RegName) (i : Nat) (cls : Nat) (src : Nat) (n : Nat) (info : Nat) (hk : Keeps s0 s) :
   Keeps s0 (State.bump s r i cls src n info) := by
  unfold State.bump
  repeat' (first | intro _ | with_reducible assumption | exact rfl | dsimp only | with_reducible apply keeps_setRegN | with_reducible apply keeps_logEvent | with_reducible apply keeps_captureFirst | with_reducible apply keeps_ite | with_reducible apply keeps_ite2 | with_reducible apply keeps_foldl | split | ((with_reducible apply keeps_mk); (iterate 4 with_reducible exact rfl); first | with_reducible exact rfl | exact rfl))

theorem keeps_setEvt {s0 s : State} (f : Fld) (i : Nat) (hk : Keeps s0 s) :
   Keeps s0 (State.setEvt s f i) := by
  unfold State.setEvt
  repeat' (first | intro _ | with_reducible assumption | exact rfl | dsimp only | with_reducible apply keeps_setFld | with_reducible apply keeps_ite | with_reducible apply keeps_ite2 | with_reducible apply keeps_foldl | split | ((with_reducible apply keeps_mk); (iterate 4 with_reducible exact rfl); first | with_reducible exact rfl | exact rfl))

theorem keeps_aerError {s0 s : State} (fn : Nat) (hk : Keeps s0 s) :
   Keeps s0 (State.aerError s fn) := by
  unfold State.aerError
  repeat' (first | intro _ | with_reducible assumption | exact rfl | dsimp only | with_reducible apply keeps_emit | with_reducible apply keeps_logEvent | with_reducible apply keeps_ite | with_reducible apply keeps_ite2 | with_reducible apply keeps_foldl | split | ((with_reducible apply keeps_mk); (iterate 4 with_reducible exact rfl); first | with_reducible exact rfl | exact rfl))

theorem keeps_hostWrite {s0 s : State} (fn : Nat) (addr : Nat) (bytes : List Byte) (hk : Keeps s0 s) :
   Keeps s0 (State.hostWrite s fn addr bytes) := by
  unfold State.hostWrite
  repeat' (first | intro _ | with_reducible assumption | exact rfl | dsimp only | with_reducible apply keeps_emit | with_reducible apply keeps_obsAdd | with_reducible apply keeps_setRegN | with_reducible apply keeps_logEvent | with_reducible apply keeps_ite | with_reducible apply keeps_ite2 | with_reducible apply keeps_foldl | split | ((with_reducible apply keeps_mk); (iterate 4 with_reducible exact rfl); first | with_reducible exact rfl | exact rfl))

theorem keeps_barrierRead {s0 s : State} (fn : Nat) (hk : Keeps s0 s) :
   Keeps s0 (State.barrierRead s fn) := by
  unfold State.barrierRead
  repeat' (first | intro _ | with_reducible assumption | exact rfl | dsimp only | with_reducible apply keeps_emit | with_reducible apply keeps_ite | with_reducible apply keeps_ite2 | with_reducible apply keeps_foldl | split | ((with_reducible apply keeps_mk); (iterate 4 with_reducible exact rfl); first | with_reducible exact rfl | exact rfl))

theorem keeps_ringWrite {s0 s : State} (fn : Nat) (addr : Nat) (bytes : List Byte) (hk : Keeps s0 s) :
   Keeps s0 (State.ringWrite s fn addr bytes) := by
  unfold State.ringWrite
  repeat' (first | intro _ | with_reducible assumption | exact rfl | dsimp only | with_reducible apply keeps_hostWrite | with_reducible apply keeps_ite | with_reducible apply keeps_ite2 | with_reducible apply keeps_foldl | split | ((with_reducible apply keeps_mk); (iterate 4 with_reducible exact rfl); first | with_reducible exact rfl | exact rfl))

theorem keeps_memPut {s0 s : State} (a : Nat) (bs : List Byte) (h : Keeps s0 s) : Keeps s0 (s.memPut a bs) :=
  ⟨h.queue, fun w => memWrites_wf _ _ _ (h.mem w), h.sent, h.free, h.enrol⟩

theorem keeps_memZero {s0 s : State} (h : Keeps s0 s) : Keeps s0 s.memZero :=
  ⟨h.queue, fun _ => rfl, h.sent, h.free, h.enrol⟩

theorem keeps_memClear {s0 s : State} (a n : Nat) (h : Keeps s0 s) : Keeps s0 (s.memClear a n) :=
  ⟨h.queue, fun w => filter_wf _ _ (h.mem w), h.sent, h.free, h.enrol⟩

theorem keeps_event {s0 s : State} (fn : Nat) (typ : Nat) (a : Nat) (b : Nat) (hk : Keeps s0 s) :
   Keeps s0 (State.event s fn typ a b) := by
  unfold State.event
  repeat' (first | intro _ | with_reducible assumption | exact rfl | dsimp only | with_reducible apply keeps_hostWrite | with_reducible apply keeps_setFld | with_reducible apply keeps_raise | with_reducible apply keeps_ite | with_reducible apply keeps_ite2 | with_reducible apply keeps_foldl | split | ((with_reducible apply keeps_mk); (iterate 4 with_reducible exact rfl); first | with_reducible exact rfl | exact rfl))

theorem keeps_setQueue {s0 s : State} (fn : Nat) (q : Nat) (x : QueueS) (hk : Keeps s0 s) :
   Keeps s0 (State.setQueue s fn q x) := by
  unfold State.setQueue
  repeat' (first | intro _ | with_reducible assumption | exact rfl | dsimp only | with_reducible apply keeps_modFn | with_reducible apply keeps_ite | with_reducible apply keeps_ite2 | with_reducible apply keeps_foldl | split | ((with_reducible apply keeps_mk); (iterate 4 with_reducible exact rfl); first | with_reducible exact rfl | exact rfl))

theorem keeps_setIdle {s0 s : State} (f : Nat) (q : Nat) (hk : Keeps s0 s) :
   Keeps s0 (State.setIdle s f q) := by
  unfold State.setIdle
  repeat' (first | intro _ | with_reducible assumption | exact rfl | dsimp only | with_reducible apply keeps_setFld | with_reducible apply keeps_ite | with_reducible apply keeps_ite2 | with_reducible apply keeps_foldl | split | ((with_reducible apply keeps_mk); (iterate 4 with_reducible exact rfl); first | with_reducible exact rfl | exact rfl))

theorem keeps_reply {s0 s : State} (c : CmdRef) (status : Nat) (detail : Nat) (q0 : Nat) (q1 : Nat) (hk : Keeps s0 s) :
   Keeps s0 (State.reply s c status detail q0 q1) := by
  unfold State.reply
  repeat' (first | intro _ | with_reducible assumption | exact rfl | dsimp only | with_reducible apply keeps_hostWrite | with_reducible apply keeps_setFld | with_reducible apply keeps_setQueue | with_reducible apply keeps_setIdle | with_reducible apply keeps_raise | with_reducible apply keeps_ite | with_reducible apply keeps_ite2 | with_reducible apply keeps_foldl | split | ((with_reducible apply keeps_mk); (iterate 4 with_reducible exact rfl); first | with_reducible exact rfl | exact rfl))

theorem keeps_setGroup {s0 s : State} (g : Nat) (x : GroupS) (hk : Keeps s0 s) :
   Keeps s0 (State.setGroup s g x) := by
  unfold State.setGroup
  repeat' (first | intro _ | with_reducible assumption | exact rfl | dsimp only | with_reducible apply keeps_ite | with_reducible apply keeps_ite2 | with_reducible apply keeps_foldl | split | ((with_reducible apply keeps_mk); (iterate 4 with_reducible exact rfl); first | with_reducible exact rfl | exact rfl))

theorem keeps_modGroup {s0 s : State} (g : Nat) (f : GroupS → GroupS) (hk : Keeps s0 s) :
   Keeps s0 (State.modGroup s g f) := by
  unfold State.modGroup
  repeat' (first | intro _ | with_reducible assumption | exact rfl | dsimp only | with_reducible apply keeps_setGroup | with_reducible apply keeps_ite | with_reducible apply keeps_ite2 | with_reducible apply keeps_foldl | split | ((with_reducible apply keeps_mk); (iterate 4 with_reducible exact rfl); first | with_reducible exact rfl | exact rfl))

theorem keeps_camCount {s0 s : State} (r : RegName) (n : Nat) (cls : Nat) (info : Nat) (hk : Keeps s0 s) :
   Keeps s0 (State.camCount s r n cls info) := by
  unfold State.camCount
  repeat' (first | intro _ | with_reducible assumption | exact rfl | dsimp only | with_reducible apply keeps_bump | with_reducible apply keeps_ite | with_reducible apply keeps_ite2 | with_reducible apply keeps_foldl | split | ((with_reducible apply keeps_mk); (iterate 4 with_reducible exact rfl); first | with_reducible exact rfl | exact rfl))

theorem keeps_setMark {s0 s : State} (n : Nat) (q : Nat) (k : Nat) (hk : Keeps s0 s) :
   Keeps s0 (State.setMark s n q k) := by
  unfold State.setMark
  repeat' (first | intro _ | with_reducible assumption | exact rfl | dsimp only | with_reducible apply keeps_modFrame | with_reducible apply keeps_ite | with_reducible apply keeps_ite2 | with_reducible apply keeps_foldl | split | ((with_reducible apply keeps_mk); (iterate 4 with_reducible exact rfl); first | with_reducible exact rfl | exact rfl))

theorem keeps_mirror {s0 s : State} (n : Nat) (q : Nat) (hk : Keeps s0 s) :
   Keeps s0 (State.mirror s n q) := by
  unfold State.mirror
  repeat' (first | intro _ | with_reducible assumption | exact rfl | dsimp only | with_reducible apply keeps_ringWrite | with_reducible apply keeps_ite | with_reducible apply keeps_ite2 | with_reducible apply keeps_foldl | split | ((with_reducible apply keeps_mk); (iterate 4 with_reducible exact rfl); first | with_reducible exact rfl | exact rfl))

theorem keeps_captureGone {s0 s : State} (n : Nat) (q : Nat) (hk : Keeps s0 s) :
   Keeps s0 (State.captureGone s n q) := by
  unfold State.captureGone
  repeat' (first | intro _ | with_reducible assumption | exact rfl | dsimp only | with_reducible apply keeps_modCam | with_reducible apply keeps_reply | with_reducible apply keeps_ite | with_reducible apply keeps_ite2 | with_reducible apply keeps_foldl | split | ((with_reducible apply keeps_mk); (iterate 4 with_reducible exact rfl); first | with_reducible exact rfl | exact rfl))

theorem keeps_finalize {s0 s : State} (n : Nat) (q : Nat) (st : Nat) (hk : Keeps s0 s) :
   Keeps s0 (State.finalize s n q st) := by
  unfold State.finalize
  repeat' (first | intro _ | with_reducible assumption | exact rfl | dsimp only | with_reducible apply keeps_setFrame | with_reducible apply keeps_setFld | with_reducible apply keeps_modCam | with_reducible apply keeps_obsAdd | with_reducible apply keeps_traceEv | with_reducible apply keeps_mirror | with_reducible apply keeps_captureGone | with_reducible apply keeps_ite | with_reducible apply keeps_ite2 | with_reducible apply keeps_foldl | split | ((with_reducible apply keeps_mk); (iterate 4 with_reducible exact rfl); first | with_reducible exact rfl | exact rfl))

theorem keeps_takeTicks {s0 s : State} (n : Nat) (hk : Keeps s0 s) :
   Keeps s0 (State.takeTicks s n) := by
  unfold State.takeTicks
  repeat' (first | intro _ | with_reducible assumption | exact rfl | dsimp only | with_reducible apply keeps_map | with_reducible apply keeps_modCam | with_reducible apply keeps_ite | with_reducible apply keeps_ite2 | with_reducible apply keeps_foldl | split | ((with_reducible apply keeps_mk); (iterate 4 with_reducible exact rfl); first | with_reducible exact rfl | exact rfl))

theorem keeps_enablesNow {s0 s : State} (n : Nat) (hk : Keeps s0 s) :
   Keeps s0 (State.enablesNow s n) := by
  unfold State.enablesNow
  repeat' (first | intro _ | with_reducible assumption | exact rfl | dsimp only | with_reducible apply keeps_modCam | with_reducible apply keeps_ite | with_reducible apply keeps_ite2 | with_reducible apply keeps_foldl | split | ((with_reducible apply keeps_mk); (iterate 4 with_reducible exact rfl); first | with_reducible exact rfl | exact rfl))

theorem keeps_flagUncertain {s0 s : State} (n : Nat) (frm : Nat) (upto : Option Nat) (hk : Keeps s0 s) :
   Keeps s0 (State.flagUncertain s n frm upto) := by
  unfold State.flagUncertain
  repeat' (first | intro _ | with_reducible assumption | exact rfl | dsimp only | with_reducible apply keeps_modFrame | with_reducible apply keeps_ite | with_reducible apply keeps_ite2 | with_reducible apply keeps_foldl | split | ((with_reducible apply keeps_mk); (iterate 4 with_reducible exact rfl); first | with_reducible exact rfl | exact rfl))

theorem keeps_commitOutcome {s0 s : State} (n : Nat) (c : Commit) (hk : Keeps s0 s) :
   Keeps s0 (State.commitOutcome s n c) := by
  unfold State.commitOutcome
  repeat' (first | intro _ | with_reducible assumption | exact rfl | dsimp only | with_reducible apply keeps_modCam | with_reducible apply keeps_setFld | with_reducible apply keeps_map | with_reducible apply keeps_flagUncertain | with_reducible apply keeps_setEvt | with_reducible apply keeps_camCount | with_reducible apply keeps_logEvent | with_reducible apply keeps_ite | with_reducible apply keeps_ite2 | with_reducible apply keeps_foldl | split | ((with_reducible apply keeps_mk); (iterate 4 with_reducible exact rfl); first | with_reducible exact rfl | exact rfl))

theorem keeps_commitResp {s0 s : State} (n : Nat) (status : Nat) (hk : Keeps s0 s) :
   Keeps s0 (State.commitResp s n status) := by
  unfold State.commitResp
  repeat' (first | intro _ | with_reducible assumption | exact rfl | dsimp only | with_reducible apply keeps_commitOutcome | with_reducible apply keeps_modCam | with_reducible apply keeps_ite | with_reducible apply keeps_ite2 | with_reducible apply keeps_foldl | split | ((with_reducible apply keeps_mk); (iterate 4 with_reducible exact rfl); first | with_reducible exact rfl | exact rfl))

theorem keeps_releaseStream {s0 s : State} (n : Nat) (hk : Keeps s0 s) :
   Keeps s0 (State.releaseStream s n) := by
  unfold State.releaseStream
  repeat' (first | intro _ | with_reducible assumption | exact rfl | dsimp only | with_reducible apply keeps_modGroup | with_reducible apply keeps_modCam | with_reducible apply keeps_setFld | with_reducible apply keeps_ite | with_reducible apply keeps_ite2 | with_reducible apply keeps_foldl | split | ((with_reducible apply keeps_mk); (iterate 4 with_reducible exact rfl); first | with_reducible exact rfl | exact rfl))

theorem keeps_startOutcome {s0 s : State} (n : Nat) (t : StartS) (hk : Keeps s0 s) :
   Keeps s0 (State.startOutcome s n t) := by
  unfold State.startOutcome
  repeat' (first | intro _ | with_reducible assumption | exact rfl | dsimp only | with_reducible apply keeps_modCam | with_reducible apply keeps_reply | with_reducible apply keeps_setFld | with_reducible apply keeps_takeTicks | with_reducible apply keeps_traceEv | with_reducible apply keeps_releaseStream | with_reducible apply keeps_ite | with_reducible apply keeps_ite2 | with_reducible apply keeps_foldl | split | ((with_reducible apply keeps_mk); (iterate 4 with_reducible exact rfl); first | with_reducible exact rfl | exact rfl))

theorem keeps_startResp {s0 s : State} (n : Nat) (status : Nat) (hk : Keeps s0 s) :
   Keeps s0 (State.startResp s n status) := by
  unfold State.startResp
  repeat' (first | intro _ | with_reducible assumption | exact rfl | dsimp only | with_reducible apply keeps_startOutcome | with_reducible apply keeps_modCam | with_reducible apply keeps_ite | with_reducible apply keeps_ite2 | with_reducible apply keeps_foldl | split | ((with_reducible apply keeps_mk); (iterate 4 with_reducible exact rfl); first | with_reducible exact rfl | exact rfl))

theorem keeps_modHold {s0 s : State} (f : HoldS → HoldS) (hk : Keeps s0 s) :
   Keeps s0 (State.modHold s f) := by
  unfold State.modHold
  repeat' (first | intro _ | with_reducible assumption | exact rfl | dsimp only | with_reducible apply keeps_ite | with_reducible apply keeps_ite2 | with_reducible apply keeps_foldl | split | ((with_reducible apply keeps_mk); (iterate 4 with_reducible exact rfl); first | with_reducible exact rfl | exact rfl))

theorem keeps_ddrRequest {s0 s : State} (r : MemReq) (hk : Keeps s0 s) :
   Keeps s0 (State.ddrRequest s r) := by
  unfold State.ddrRequest
  repeat' (first | intro _ | with_reducible assumption | exact rfl | dsimp only | with_reducible apply keeps_modHold | with_reducible apply keeps_ite | with_reducible apply keeps_ite2 | with_reducible apply keeps_foldl | split | ((with_reducible apply keeps_mk); (iterate 4 with_reducible exact rfl); first | with_reducible exact rfl | exact rfl))

theorem keeps_evict {s0 s : State} (x : HLine) (hk : Keeps s0 s) :
   Keeps s0 (State.evict s x) := by
  unfold State.evict
  repeat' (first | intro _ | with_reducible assumption | exact rfl | dsimp only | with_reducible apply keeps_ddrRequest | with_reducible apply keeps_modHold | with_reducible apply keeps_ite | with_reducible apply keeps_ite2 | with_reducible apply keeps_foldl | split | ((with_reducible apply keeps_mk); (iterate 4 with_reducible exact rfl); first | with_reducible exact rfl | exact rfl))

theorem keeps_allocate {s0 s : State} (x : Nat) (l : Nat) (dirty : Bool) (hk : Keeps s0 s) :
   Keeps s0 (State.allocate s x l dirty) := by
  unfold State.allocate
  repeat' (first | intro _ | with_reducible assumption | exact rfl | dsimp only | with_reducible apply keeps_evict | with_reducible apply keeps_modHold | with_reducible apply keeps_ite | with_reducible apply keeps_ite2 | with_reducible apply keeps_foldl | split | ((with_reducible apply keeps_mk); (iterate 4 with_reducible exact rfl); first | with_reducible exact rfl | exact rfl))

theorem keeps_holdMiss {s0 s : State} (w : MemWho) (l : Nat) (acc : MemAcc) (hk : Keeps s0 s) :
   Keeps s0 (State.holdMiss s w l acc) := by
  unfold State.holdMiss
  repeat' (first | intro _ | with_reducible assumption | exact rfl | dsimp only | with_reducible apply keeps_ddrRequest | with_reducible apply keeps_allocate | with_reducible apply keeps_ite | with_reducible apply keeps_ite2 | with_reducible apply keeps_foldl | split | ((with_reducible apply keeps_mk); (iterate 4 with_reducible exact rfl); first | with_reducible exact rfl | exact rfl))

theorem keeps_holdAccess {s0 s : State} (w : MemWho) (l : Nat) (acc : MemAcc) (hk : Keeps s0 s) :
   Keeps s0 (State.holdAccess s w l acc) := by
  unfold State.holdAccess
  repeat' (first | intro _ | with_reducible assumption | exact rfl | dsimp only | with_reducible apply keeps_modHold | with_reducible apply keeps_obsAdd | with_reducible apply keeps_map | with_reducible apply keeps_holdMiss | with_reducible apply keeps_ite | with_reducible apply keeps_ite2 | with_reducible apply keeps_foldl | split | ((with_reducible apply keeps_mk); (iterate 4 with_reducible exact rfl); first | with_reducible exact rfl | exact rfl))

theorem keeps_holdRun {s0 s : State} (w : MemWho) (write : Bool) (a : Nat) (n : Nat) (hk : Keeps s0 s) :
   Keeps s0 (State.holdRun s w write a n) := by
  unfold State.holdRun
  repeat' (first | intro _ | with_reducible assumption | exact rfl | dsimp only | with_reducible apply keeps_holdAccess | with_reducible apply keeps_modHold | with_reducible apply keeps_ite | with_reducible apply keeps_ite2 | with_reducible apply keeps_foldl | split | ((with_reducible apply keeps_mk); (iterate 4 with_reducible exact rfl); first | with_reducible exact rfl | exact rfl))

theorem keeps_memW {s0 s : State} (w : MemWho) (a : Nat) (bs : List Byte) (hk : Keeps s0 s) : Keeps s0 (s.memW w a bs) :=
  have h := keeps_holdRun w true a bs.length hk
  ⟨h.queue, fun m => memWrites_wf _ _ _ (h.mem m), h.sent, h.free, h.enrol⟩

theorem keeps_sendNak {s0 s : State} (p : Nat) (q : Nat) (cause : Nat) (attempt : Nat) (hk : Keeps s0 s) :
   Keeps s0 (State.sendNak s p q cause attempt) := by
  unfold State.sendNak
  repeat' (first | intro _ | with_reducible assumption | exact rfl | dsimp only | with_reducible apply keeps_queueBlock | with_reducible apply keeps_bump | with_reducible apply keeps_ite | with_reducible apply keeps_ite2 | with_reducible apply keeps_foldl | split | ((with_reducible apply keeps_mk); (iterate 4 with_reducible exact rfl); first | with_reducible exact rfl | exact rfl))

theorem keeps_sendAck {s0 s : State} (p : Nat) (hk : Keeps s0 s) :
   Keeps s0 (State.sendAck s p) := by
  unfold State.sendAck
  repeat' (first | intro _ | with_reducible assumption | exact rfl | dsimp only | with_reducible apply keeps_queueBlock | with_reducible apply keeps_modPort | with_reducible apply keeps_ite | with_reducible apply keeps_ite2 | with_reducible apply keeps_foldl | split | ((with_reducible apply keeps_mk); (iterate 4 with_reducible exact rfl); first | with_reducible exact rfl | exact rfl))

theorem keeps_sendCredit {s0 s : State} (p : Nat) (hk : Keeps s0 s) :
   Keeps s0 (State.sendCredit s p) := by
  unfold State.sendCredit
  repeat' (first | intro _ | with_reducible assumption | exact rfl | dsimp only | with_reducible apply keeps_queueBlock | with_reducible apply keeps_setPort | with_reducible apply keeps_ite | with_reducible apply keeps_ite2 | with_reducible apply keeps_foldl | split | ((with_reducible apply keeps_mk); (iterate 4 with_reducible exact rfl); first | with_reducible exact rfl | exact rfl))

theorem keeps_freeCredits {s0 s : State} (p : Nat) (n : Nat) (hk : Keeps s0 s) :
   Keeps s0 (State.freeCredits s p n) := by
  unfold State.freeCredits
  repeat' (first | intro _ | with_reducible assumption | exact rfl | dsimp only | with_reducible apply keeps_setPort | with_reducible apply keeps_sendCredit | with_reducible apply keeps_ite | with_reducible apply keeps_ite2 | with_reducible apply keeps_foldl | split | ((with_reducible apply keeps_mk); (iterate 4 with_reducible exact rfl); first | with_reducible exact rfl | exact rfl))

theorem keeps_discardPkt {s0 s : State} (p : Nat) (n : Nat) (hk : Keeps s0 s) :
   Keeps s0 (State.discardPkt s p n) := by
  unfold State.discardPkt
  repeat' (first | intro _ | with_reducible assumption | exact rfl | dsimp only | with_reducible apply keeps_modPort | with_reducible apply keeps_freeCredits | with_reducible apply keeps_ite | with_reducible apply keeps_ite2 | with_reducible apply keeps_foldl | split | ((with_reducible apply keeps_mk); (iterate 4 with_reducible exact rfl); first | with_reducible exact rfl | exact rfl))

theorem keeps_sendCaps {s0 s : State} (p : Nat) (hk : Keeps s0 s) :
   Keeps s0 (State.sendCaps s p) := by
  unfold State.sendCaps
  repeat' (first | intro _ | with_reducible assumption | exact rfl | dsimp only | with_reducible apply keeps_queueBlock | with_reducible apply keeps_ite | with_reducible apply keeps_ite2 | with_reducible apply keeps_foldl | split | ((with_reducible apply keeps_mk); (iterate 4 with_reducible exact rfl); first | with_reducible exact rfl | exact rfl))

theorem keeps_beginTunnel {s0 s : State} (p : Nat) (r : TunnelReq) (who : TunnelFor) (hk : Keeps s0 s) :
   Keeps s0 (State.beginTunnel s p r who) := by
  unfold State.beginTunnel
  repeat' (first | intro _ | with_reducible assumption | exact rfl | dsimp only | with_reducible apply keeps_map | with_reducible apply keeps_queueBlock | with_reducible apply keeps_setPort | with_reducible apply keeps_ite | with_reducible apply keeps_ite2 | with_reducible apply keeps_foldl | split | ((with_reducible apply keeps_mk); (iterate 4 with_reducible exact rfl); first | with_reducible exact rfl | exact rfl))

theorem keeps_tunnelDone {s0 s : State} (p : Nat) (who : TunnelFor) (status : Nat) (data : List Byte) (hk : Keeps s0 s) :
   Keeps s0 (State.tunnelDone s p who status data) := by
  unfold State.tunnelDone
  repeat' (first | intro _ | with_reducible assumption | exact rfl | dsimp only | with_reducible apply keeps_commitResp | with_reducible apply keeps_startResp | with_reducible apply keeps_reply | with_reducible apply keeps_emit | with_reducible apply keeps_ite | with_reducible apply keeps_ite2 | with_reducible apply keeps_foldl | split | ((with_reducible apply keeps_mk); (iterate 4 with_reducible exact rfl); first | with_reducible exact rfl | exact rfl))

theorem keeps_remoteTunnel {s0 s : State} (p : Nat) (r : TunnelReq) (who : TunnelFor) (hk : Keeps s0 s) :
   Keeps s0 (State.remoteTunnel s p r who) := by
  unfold State.remoteTunnel
  repeat' (first | intro _ | with_reducible assumption | exact rfl | dsimp only | with_reducible apply keeps_map | with_reducible apply keeps_setPort | with_reducible apply keeps_emit | with_reducible apply keeps_ite | with_reducible apply keeps_ite2 | with_reducible apply keeps_foldl | split | ((with_reducible apply keeps_mk); (iterate 4 with_reducible exact rfl); first | with_reducible exact rfl | exact rfl))

theorem keeps_tunnelRequest {s0 s : State} (p : Nat) (r : TunnelReq) (who : TunnelFor) (hk : Keeps s0 s) :
   Keeps s0 (State.tunnelRequest s p r who) := by
  unfold State.tunnelRequest
  repeat' (first | intro _ | with_reducible assumption | exact rfl | dsimp only | with_reducible apply keeps_remoteTunnel | with_reducible apply keeps_tunnelDone | with_reducible apply keeps_beginTunnel | with_reducible apply keeps_setPort | with_reducible apply keeps_ite | with_reducible apply keeps_ite2 | with_reducible apply keeps_foldl | split | ((with_reducible apply keeps_mk); (iterate 4 with_reducible exact rfl); first | with_reducible exact rfl | exact rfl))

theorem keeps_tunnelsLost {s0 s : State} (p : Nat) (hk : Keeps s0 s) :
   Keeps s0 (State.tunnelsLost s p) := by
  unfold State.tunnelsLost
  repeat' (first | intro _ | with_reducible assumption | exact rfl | dsimp only | with_reducible apply keeps_setPort | with_reducible apply keeps_tunnelDone | with_reducible apply keeps_ite | with_reducible apply keeps_ite2 | with_reducible apply keeps_foldl | split | ((with_reducible apply keeps_mk); (iterate 4 with_reducible exact rfl); first | with_reducible exact rfl | exact rfl))

theorem keeps_tunnelResponse {s0 s : State} (p : Nat) (payload : List Byte) (hk : Keeps s0 s) :
   Keeps s0 (State.tunnelResponse s p payload) := by
  unfold State.tunnelResponse
  repeat' (first | intro _ | with_reducible assumption | exact rfl | dsimp only | with_reducible apply keeps_modPort | with_reducible apply keeps_tunnelDone | with_reducible apply keeps_bump | with_reducible apply keeps_ite | with_reducible apply keeps_ite2 | with_reducible apply keeps_foldl | split | ((with_reducible apply keeps_mk); (iterate 4 with_reducible exact rfl); first | with_reducible exact rfl | exact rfl))

theorem keeps_sendSettings {s0 s : State} (n : Nat) (rs : List TunnelReq) (who : TunnelFor) (hk : Keeps s0 s) :
   Keeps s0 (State.sendSettings s n rs who) := by
  unfold State.sendSettings
  repeat' (first | intro _ | with_reducible assumption | exact rfl | dsimp only | with_reducible apply keeps_tunnelRequest | with_reducible apply keeps_ite | with_reducible apply keeps_ite2 | with_reducible apply keeps_foldl | split | ((with_reducible apply keeps_mk); (iterate 4 with_reducible exact rfl); first | with_reducible exact rfl | exact rfl))

theorem keeps_commitPoint {s0 s : State} (n : Nat) (q : Nat) (st : Nat) (hk : Keeps s0 s) :
   Keeps s0 (State.commitPoint s n q st) := by
  unfold State.commitPoint
  repeat' (first | intro _ | with_reducible assumption | exact rfl | dsimp only | with_reducible apply keeps_enablesNow | with_reducible apply keeps_setEvt | with_reducible apply keeps_modCam | with_reducible apply keeps_setRegN | with_reducible apply keeps_commitOutcome | with_reducible apply keeps_sendSettings | with_reducible apply keeps_ite | with_reducible apply keeps_ite2 | with_reducible apply keeps_foldl | split | ((with_reducible apply keeps_mk); (iterate 4 with_reducible exact rfl); first | with_reducible exact rfl | exact rfl))

theorem keeps_stageSet {s0 s : State} (n : Nat) (t : ExpoSet) (hk : Keeps s0 s) :
   Keeps s0 (State.stageSet s n t) := by
  unfold State.stageSet
  repeat' (first | intro _ | with_reducible assumption | exact rfl | dsimp only | with_reducible apply keeps_setRegN | with_reducible apply keeps_modCam | with_reducible apply keeps_ite | with_reducible apply keeps_ite2 | with_reducible apply keeps_foldl | split | ((with_reducible apply keeps_mk); (iterate 4 with_reducible exact rfl); first | with_reducible exact rfl | exact rfl))

theorem keeps_expoWrite {s0 s : State} (n : Nat) (j : Nat) (v : Nat) (hk : Keeps s0 s) :
   Keeps s0 (State.expoWrite s n j v) := by
  unfold State.expoWrite
  repeat' (first | intro _ | with_reducible assumption | exact rfl | dsimp only | with_reducible apply keeps_setEvt | with_reducible apply keeps_setRegN | with_reducible apply keeps_modCam | with_reducible apply keeps_ite | with_reducible apply keeps_ite2 | with_reducible apply keeps_foldl | split | ((with_reducible apply keeps_mk); (iterate 4 with_reducible exact rfl); first | with_reducible exact rfl | exact rfl))

theorem keeps_wbWrite {s0 s : State} (n : Nat) (v : Nat) (hk : Keeps s0 s) :
   Keeps s0 (State.wbWrite s n v) := by
  unfold State.wbWrite
  repeat' (first | intro _ | with_reducible assumption | exact rfl | dsimp only | with_reducible apply keeps_setEvt | with_reducible apply keeps_setRegN | with_reducible apply keeps_ite | with_reducible apply keeps_ite2 | with_reducible apply keeps_foldl | split | ((with_reducible apply keeps_mk); (iterate 4 with_reducible exact rfl); first | with_reducible exact rfl | exact rfl))

theorem keeps_statsMirror {s0 s : State} (n : Nat) (q : Nat) (hk : Keeps s0 s) :
   Keeps s0 (State.statsMirror s n q) := by
  unfold State.statsMirror
  repeat' (first | intro _ | with_reducible assumption | exact rfl | dsimp only | with_reducible apply keeps_ringWrite | with_reducible apply keeps_ite | with_reducible apply keeps_ite2 | with_reducible apply keeps_foldl | split | ((with_reducible apply keeps_mk); (iterate 4 with_reducible exact rfl); first | with_reducible exact rfl | exact rfl))

theorem keeps_crossCheck {s0 s : State} (n : Nat) (q : Nat) (hk : Keeps s0 s) :
   Keeps s0 (State.crossCheck s n q) := by
  unfold State.crossCheck
  repeat' (first | intro _ | with_reducible assumption | exact rfl | dsimp only | with_reducible apply keeps_setFrame | with_reducible apply keeps_camCount | with_reducible apply keeps_ite | with_reducible apply keeps_ite2 | with_reducible apply keeps_foldl | split | ((with_reducible apply keeps_mk); (iterate 4 with_reducible exact rfl); first | with_reducible exact rfl | exact rfl))

theorem keeps_takeSeq {s0 s : State} (n : Nat) (hk : Keeps s0 s) :
   Keeps s0 (State.takeSeq s n).2 := by
  unfold State.takeSeq
  repeat' (first | intro _ | with_reducible assumption | exact rfl | dsimp only | with_reducible apply keeps_modCam | with_reducible apply keeps_setRegN | with_reducible apply keeps_ite | with_reducible apply keeps_ite2 | with_reducible apply keeps_foldl | split | ((with_reducible apply keeps_mk); (iterate 4 with_reducible exact rfl); first | with_reducible exact rfl | exact rfl))

theorem keeps_storeRow {s0 s : State} (n : Nat) (q : Nat) (r : Nat) (bytes : List Byte) (hk : Keeps s0 s) :
   Keeps s0 (State.storeRow s n q r bytes) := by
  unfold State.storeRow
  repeat' (first | intro _ | with_reducible assumption | exact rfl | dsimp only | with_reducible apply keeps_modGroup | with_reducible apply keeps_memW | with_reducible apply keeps_ite | with_reducible apply keeps_ite2 | with_reducible apply keeps_foldl | split | ((with_reducible apply keeps_mk); (iterate 4 with_reducible exact rfl); first | with_reducible exact rfl | exact rfl))

theorem keeps_fillRows {s0 s : State} (n : Nat) (q : Nat) (stamp : Nat) (reveal : List Byte) (y : Nat) (hk : Keeps s0 s) :
   Keeps s0 (State.fillRows s n q stamp reveal y) := by
  induction y generalizing s with
  | zero => exact hk
  | succ k ih =>
  unfold State.fillRows
  repeat' (first | intro _ | with_reducible assumption | exact rfl | dsimp only | with_reducible apply ih | with_reducible apply keeps_storeRow | with_reducible apply keeps_modFrame | with_reducible apply keeps_camCount | with_reducible apply keeps_ite | with_reducible apply keeps_ite2 | with_reducible apply keeps_foldl | split | ((with_reducible apply keeps_mk); (iterate 4 with_reducible exact rfl); first | with_reducible exact rfl | exact rfl))

theorem keeps_closeFrame {s0 s : State} (n : Nat) (q : Nat) (stamp : Nat) (hk : Keeps s0 s) :
   Keeps s0 (State.closeFrame s n q stamp) := by
  unfold State.closeFrame
  repeat' (first | intro _ | with_reducible assumption | exact rfl | dsimp only | with_reducible apply keeps_fillRows | with_reducible apply keeps_crossCheck | with_reducible apply keeps_modFrame | with_reducible apply keeps_modCam | with_reducible apply keeps_statsMirror | with_reducible apply keeps_ite | with_reducible apply keeps_ite2 | with_reducible apply keeps_foldl | split | ((with_reducible apply keeps_mk); (iterate 4 with_reducible exact rfl); first | with_reducible exact rfl | exact rfl))

theorem keeps_closeOpen {s0 s : State} (n : Nat) (hk : Keeps s0 s) :
   Keeps s0 (State.closeOpen s n) := by
  unfold State.closeOpen
  repeat' (first | intro _ | with_reducible assumption | exact rfl | dsimp only | with_reducible apply keeps_closeFrame | with_reducible apply keeps_ite | with_reducible apply keeps_ite2 | with_reducible apply keeps_foldl | split | ((with_reducible apply keeps_mk); (iterate 4 with_reducible exact rfl); first | with_reducible exact rfl | exact rfl))

theorem keeps_closeExpiry {s0 s : State} (n : Nat) (hk : Keeps s0 s) :
   Keeps s0 (State.closeExpiry s n) := by
  unfold State.closeExpiry
  repeat' (first | intro _ | with_reducible assumption | exact rfl | dsimp only | with_reducible apply keeps_closeFrame | with_reducible apply keeps_ite | with_reducible apply keeps_ite2 | with_reducible apply keeps_foldl | split | ((with_reducible apply keeps_mk); (iterate 4 with_reducible exact rfl); first | with_reducible exact rfl | exact rfl))

theorem keeps_divert {s0 s : State} (n : Nat) (q : Nat) (k : Nat) (hk : Keeps s0 s) :
   Keeps s0 (State.divert s n q k) := by
  unfold State.divert
  repeat' (first | intro _ | with_reducible assumption | exact rfl | dsimp only | with_reducible apply keeps_modFrame | with_reducible apply keeps_memW | with_reducible apply keeps_modGroup | with_reducible apply keeps_map | with_reducible apply keeps_camCount | with_reducible apply keeps_ite | with_reducible apply keeps_ite2 | with_reducible apply keeps_foldl | split | ((with_reducible apply keeps_mk); (iterate 4 with_reducible exact rfl); first | with_reducible exact rfl | exact rfl))

theorem keeps_takeRow {s0 s : State} (n : Nat) (q : Nat) (r : Nat) (bytes : List Byte) (hk : Keeps s0 s) :
   Keeps s0 (State.takeRow s n q r bytes) := by
  unfold State.takeRow
  repeat' (first | intro _ | with_reducible assumption | exact rfl | dsimp only | with_reducible apply keeps_fillRows | with_reducible apply keeps_storeRow | with_reducible apply keeps_modFrame | with_reducible apply keeps_closeFrame | with_reducible apply keeps_ite | with_reducible apply keeps_ite2 | with_reducible apply keeps_foldl | split | ((with_reducible apply keeps_mk); (iterate 4 with_reducible exact rfl); first | with_reducible exact rfl | exact rfl))

theorem keeps_arriveRow {s0 s : State} (n : Nat) (q : Nat) (r : Nat) (bytes : List Byte) (hk : Keeps s0 s) :
   Keeps s0 (State.arriveRow s n q r bytes) := by
  unfold State.arriveRow
  repeat' (first | intro _ | with_reducible assumption | exact rfl | dsimp only | with_reducible apply keeps_divert | with_reducible apply keeps_takeRow | with_reducible apply keeps_modFrame | with_reducible apply keeps_camCount | with_reducible apply keeps_ite | with_reducible apply keeps_ite2 | with_reducible apply keeps_foldl | split | ((with_reducible apply keeps_mk); (iterate 4 with_reducible exact rfl); first | with_reducible exact rfl | exact rfl))

theorem keeps_malformed {s0 s : State} (n : Nat) (hk : Keeps s0 s) :
   Keeps s0 (State.malformed s n) := by
  unfold State.malformed
  repeat' (first | intro _ | with_reducible assumption | exact rfl | dsimp only | with_reducible apply keeps_camCount | with_reducible apply keeps_ite | with_reducible apply keeps_ite2 | with_reducible apply keeps_foldl | split | ((with_reducible apply keeps_mk); (iterate 4 with_reducible exact rfl); first | with_reducible exact rfl | exact rfl))

theorem keeps_intakeVideo {s0 s : State} (n : Nat) (line : Nat) (last : Bool) (payload : List Byte) (hk : Keeps s0 s) :
   Keeps s0 (State.intakeVideo s n line last payload) := by
  unfold State.intakeVideo
  repeat' (first | intro _ | with_reducible assumption | exact rfl | dsimp only | with_reducible apply keeps_malformed | with_reducible apply keeps_modFrame | with_reducible apply keeps_arriveRow | with_reducible apply keeps_ite | with_reducible apply keeps_ite2 | with_reducible apply keeps_foldl | split | ((with_reducible apply keeps_mk); (iterate 4 with_reducible exact rfl); first | with_reducible exact rfl | exact rfl))

theorem keeps_intakeEmbed {s0 s : State} (n : Nat) (line : Nat) (payload : List Byte) (hk : Keeps s0 s) :
   Keeps s0 (State.intakeEmbed s n line payload) := by
  unfold State.intakeEmbed
  repeat' (first | intro _ | with_reducible assumption | exact rfl | dsimp only | with_reducible apply keeps_malformed | with_reducible apply keeps_modFrame | with_reducible apply keeps_ite | with_reducible apply keeps_ite2 | with_reducible apply keeps_foldl | split | ((with_reducible apply keeps_mk); (iterate 4 with_reducible exact rfl); first | with_reducible exact rfl | exact rfl))

theorem keeps_intakeEnd {s0 s : State} (n : Nat) (hk : Keeps s0 s) :
   Keeps s0 (State.intakeEnd s n) := by
  unfold State.intakeEnd
  repeat' (first | intro _ | with_reducible assumption | exact rfl | dsimp only | with_reducible apply keeps_malformed | with_reducible apply keeps_closeFrame | with_reducible apply keeps_ite | with_reducible apply keeps_ite2 | with_reducible apply keeps_foldl | split | ((with_reducible apply keeps_mk); (iterate 4 with_reducible exact rfl); first | with_reducible exact rfl | exact rfl))

theorem keeps_discardSlot {s0 s : State} (n : Nat) (hk : Keeps s0 s) :
   Keeps s0 (State.discardSlot s n) := by
  unfold State.discardSlot
  repeat' (first | intro _ | with_reducible assumption | exact rfl | dsimp only | with_reducible apply keeps_modCam | with_reducible apply keeps_ite | with_reducible apply keeps_ite2 | with_reducible apply keeps_foldl | split | ((with_reducible apply keeps_mk); (iterate 4 with_reducible exact rfl); first | with_reducible exact rfl | exact rfl))

theorem keeps_swapHead {s0 s : State} (n : Nat) (q : Nat) (hk : Keeps s0 s) :
   Keeps s0 (State.swapHead s n q) := by
  unfold State.swapHead
  repeat' (first | intro _ | with_reducible assumption | exact rfl | dsimp only | with_reducible apply keeps_setMark | with_reducible apply keeps_modCam | with_reducible apply keeps_ite | with_reducible apply keeps_ite2 | with_reducible apply keeps_foldl | split | ((with_reducible apply keeps_mk); (iterate 4 with_reducible exact rfl); first | with_reducible exact rfl | exact rfl))

theorem keeps_shedOutputs {s0 s : State} (n : Nat) (q : Nat) (bits : Nat) (hk : Keeps s0 s) :
   Keeps s0 (State.shedOutputs s n q bits) := by
  unfold State.shedOutputs
  repeat' (first | intro _ | with_reducible assumption | exact rfl | dsimp only | with_reducible apply keeps_setFrame | with_reducible apply keeps_camCount | with_reducible apply keeps_ite | with_reducible apply keeps_ite2 | with_reducible apply keeps_foldl | split | ((with_reducible apply keeps_mk); (iterate 4 with_reducible exact rfl); first | with_reducible exact rfl | exact rfl))

theorem keeps_bindCopy {s0 s : State} (n : Nat) (hk : Keeps s0 s) :
   Keeps s0 (State.bindCopy s n) := by
  unfold State.bindCopy
  repeat' (first | intro _ | with_reducible assumption | exact rfl | dsimp only | with_reducible apply keeps_setFld | with_reducible apply keeps_ite | with_reducible apply keeps_ite2 | with_reducible apply keeps_foldl | split | ((with_reducible apply keeps_mk); (iterate 4 with_reducible exact rfl); first | with_reducible exact rfl | exact rfl))

theorem keeps_openFrame {s0 s : State} (n : Nat) (trigSeq : Nat) (sensorSeq : Nat) (hk : Keeps s0 s) :
   Keeps s0 (State.openFrame s n trigSeq sensorSeq) := by
  unfold State.openFrame
  repeat' (first | intro _ | with_reducible assumption | exact rfl | dsimp only | with_reducible apply keeps_closeOpen | with_reducible apply keeps_takeSeq | with_reducible apply keeps_modCam | with_reducible apply keeps_camCount | with_reducible apply keeps_discardSlot | with_reducible apply keeps_bindCopy | with_reducible apply keeps_captureGone | with_reducible apply keeps_setFrame | with_reducible apply keeps_swapHead | with_reducible apply keeps_shedOutputs | with_reducible apply keeps_commitPoint | with_reducible apply keeps_finalize | with_reducible apply keeps_ite | with_reducible apply keeps_ite2 | with_reducible apply keeps_foldl | split | ((with_reducible apply keeps_mk); (iterate 4 with_reducible exact rfl); first | with_reducible exact rfl | exact rfl))

theorem keeps_missFrame {s0 s : State} (n : Nat) (trigSeq : Nat) (stamp : Nat) (hk : Keeps s0 s) :
   Keeps s0 (State.missFrame s n trigSeq stamp) := by
  unfold State.missFrame
  repeat' (first | intro _ | with_reducible assumption | exact rfl | dsimp only | with_reducible apply keeps_takeSeq | with_reducible apply keeps_camCount | with_reducible apply keeps_bindCopy | with_reducible apply keeps_captureGone | with_reducible apply keeps_setFrame | with_reducible apply keeps_modCam | with_reducible apply keeps_finalize | with_reducible apply keeps_commitPoint | with_reducible apply keeps_ite | with_reducible apply keeps_ite2 | with_reducible apply keeps_foldl | split | ((with_reducible apply keeps_mk); (iterate 4 with_reducible exact rfl); first | with_reducible exact rfl | exact rfl))

theorem keeps_missDeadline {s0 s : State} (n : Nat) (hk : Keeps s0 s) :
   Keeps s0 (State.missDeadline s n) := by
  unfold State.missDeadline
  repeat' (first | intro _ | with_reducible assumption | exact rfl | dsimp only | with_reducible apply keeps_modCam | with_reducible apply keeps_missFrame | with_reducible apply keeps_ite | with_reducible apply keeps_ite2 | with_reducible apply keeps_foldl | split | ((with_reducible apply keeps_mk); (iterate 4 with_reducible exact rfl); first | with_reducible exact rfl | exact rfl))

theorem keeps_overdue {s0 s : State} (n : Nat) (hk : Keeps s0 s) :
   Keeps s0 (State.overdue s n) := by
  unfold State.overdue
  repeat' (first | intro _ | with_reducible assumption | exact rfl | dsimp only | with_reducible apply keeps_closeExpiry | with_reducible apply keeps_missDeadline | with_reducible apply keeps_ite | with_reducible apply keeps_ite2 | with_reducible apply keeps_foldl | split | ((with_reducible apply keeps_mk); (iterate 4 with_reducible exact rfl); first | with_reducible exact rfl | exact rfl))

theorem keeps_refuseStart {s0 s : State} (n : Nat) (r : RegName) (hk : Keeps s0 s) :
   Keeps s0 (State.refuseStart s n r) := by
  unfold State.refuseStart
  repeat' (first | intro _ | with_reducible assumption | exact rfl | dsimp only | with_reducible apply keeps_closeOpen | with_reducible apply keeps_camCount | with_reducible apply keeps_discardSlot | with_reducible apply keeps_ite | with_reducible apply keeps_ite2 | with_reducible apply keeps_foldl | split | ((with_reducible apply keeps_mk); (iterate 4 with_reducible exact rfl); first | with_reducible exact rfl | exact rfl))

theorem keeps_strayStart {s0 s : State} (n : Nat) (hk : Keeps s0 s) :
   Keeps s0 (State.strayStart s n) := by
  unfold State.strayStart
  repeat' (first | intro _ | with_reducible assumption | exact rfl | dsimp only | with_reducible apply keeps_closeOpen | with_reducible apply keeps_modCam | with_reducible apply keeps_malformed | with_reducible apply keeps_ite | with_reducible apply keeps_ite2 | with_reducible apply keeps_foldl | split | ((with_reducible apply keeps_mk); (iterate 4 with_reducible exact rfl); first | with_reducible exact rfl | exact rfl))

theorem keeps_refuseLate {s0 s : State} (n : Nat) (trigSeq : Nat) (hk : Keeps s0 s) :
   Keeps s0 (State.refuseLate s n trigSeq) := by
  unfold State.refuseLate
  repeat' (first | intro _ | with_reducible assumption | exact rfl | dsimp only | with_reducible apply keeps_refuseStart | with_reducible apply keeps_ite | with_reducible apply keeps_ite2 | with_reducible apply keeps_foldl | split | ((with_reducible apply keeps_mk); (iterate 4 with_reducible exact rfl); first | with_reducible exact rfl | exact rfl))

theorem keeps_intakeStart {s0 s : State} (n : Nat) (trigSeq : Nat) (sensorSeq : Nat) (hk : Keeps s0 s) :
   Keeps s0 (State.intakeStart s n trigSeq sensorSeq) := by
  unfold State.intakeStart
  repeat' (first | intro _ | with_reducible assumption | exact rfl | dsimp only | with_reducible apply keeps_strayStart | with_reducible apply keeps_openFrame | with_reducible apply keeps_refuseStart | with_reducible apply keeps_modCam | with_reducible apply keeps_missFrame | with_reducible apply keeps_refuseLate | with_reducible apply keeps_ite | with_reducible apply keeps_ite2 | with_reducible apply keeps_foldl | split | ((with_reducible apply keeps_mk); (iterate 4 with_reducible exact rfl); first | with_reducible exact rfl | exact rfl))

theorem keeps_closeByLink {s0 s : State} (n : Nat) (hk : Keeps s0 s) :
   Keeps s0 (State.closeByLink s n) := by
  unfold State.closeByLink
  repeat' (first | intro _ | with_reducible assumption | exact rfl | dsimp only | with_reducible apply keeps_modFrame | with_reducible apply keeps_closeFrame | with_reducible apply keeps_ite | with_reducible apply keeps_ite2 | with_reducible apply keeps_foldl | split | ((with_reducible apply keeps_mk); (iterate 4 with_reducible exact rfl); first | with_reducible exact rfl | exact rfl))

theorem keeps_takeSlot {s0 s : State} (n : Nat) (q : Nat) (hk : Keeps s0 s) :
   Keeps s0 (State.takeSlot s n q) := by
  unfold State.takeSlot
  repeat' (first | intro _ | with_reducible assumption | exact rfl | dsimp only | with_reducible apply keeps_setFrame | with_reducible apply keeps_camCount | with_reducible apply keeps_setFld | with_reducible apply keeps_ite | with_reducible apply keeps_ite2 | with_reducible apply keeps_foldl | split | ((with_reducible apply keeps_mk); (iterate 4 with_reducible exact rfl); first | with_reducible exact rfl | exact rfl))

theorem keeps_finishFrame {s0 s : State} (n : Nat) (q : Nat) (hk : Keeps s0 s) :
   Keeps s0 (State.finishFrame s n q) := by
  unfold State.finishFrame
  repeat' (first | intro _ | with_reducible assumption | exact rfl | dsimp only | with_reducible apply keeps_takeSlot | with_reducible apply keeps_finalize | with_reducible apply keeps_setFrame | with_reducible apply keeps_ringWrite | with_reducible apply keeps_barrierRead | with_reducible apply keeps_ite | with_reducible apply keeps_ite2 | with_reducible apply keeps_foldl | split | ((with_reducible apply keeps_mk); (iterate 4 with_reducible exact rfl); first | with_reducible exact rfl | exact rfl))

theorem keeps_issueRow {s0 s : State} (n : Nat) (q : Nat) (o : Nat) (r : Nat) (hk : Keeps s0 s) :
   Keeps s0 (State.issueRow s n q o r) := by
  unfold State.issueRow
  repeat' (first | intro _ | with_reducible assumption | exact rfl | dsimp only | with_reducible apply keeps_setMark | with_reducible apply keeps_modFrame | with_reducible apply keeps_map | with_reducible apply keeps_setFrame | with_reducible apply keeps_ringWrite | with_reducible apply keeps_barrierRead | with_reducible apply keeps_obsAdd | with_reducible apply keeps_ite | with_reducible apply keeps_ite2 | with_reducible apply keeps_foldl | split | ((with_reducible apply keeps_mk); (iterate 4 with_reducible exact rfl); first | with_reducible exact rfl | exact rfl))

theorem keeps_shedForPool {s0 s : State} (n : Nat) (q : Nat) (hk : Keeps s0 s) :
   Keeps s0 (State.shedForPool s n q) := by
  unfold State.shedForPool
  repeat' (first | intro _ | with_reducible assumption | exact rfl | dsimp only | with_reducible apply keeps_shedOutputs | with_reducible apply keeps_modFrame | with_reducible apply keeps_finishFrame | with_reducible apply keeps_ite | with_reducible apply keeps_ite2 | with_reducible apply keeps_foldl | split | ((with_reducible apply keeps_mk); (iterate 4 with_reducible exact rfl); first | with_reducible exact rfl | exact rfl))

theorem keeps_beginWait {s0 s : State} (n : Nat) (q : Nat) (o : Nat) (hk : Keeps s0 s) :
   Keeps s0 (State.beginWait s n q o) := by
  unfold State.beginWait
  repeat' (first | intro _ | with_reducible assumption | exact rfl | dsimp only | with_reducible apply keeps_modFrame | with_reducible apply keeps_ite | with_reducible apply keeps_ite2 | with_reducible apply keeps_foldl | split | ((with_reducible apply keeps_mk); (iterate 4 with_reducible exact rfl); first | with_reducible exact rfl | exact rfl))

theorem keeps_endWait {s0 s : State} (n : Nat) (q : Nat) (o : Nat) (hk : Keeps s0 s) :
   Keeps s0 (State.endWait s n q o) := by
  unfold State.endWait
  repeat' (first | intro _ | with_reducible assumption | exact rfl | dsimp only | with_reducible apply keeps_modFrame | with_reducible apply keeps_ite | with_reducible apply keeps_ite2 | with_reducible apply keeps_foldl | split | ((with_reducible apply keeps_mk); (iterate 4 with_reducible exact rfl); first | with_reducible exact rfl | exact rfl))

theorem keeps_writeRow {s0 s : State} (n : Nat) (q : Nat) (o : Nat) (i : Nat) (hk : Keeps s0 s) :
   Keeps s0 (State.writeRow s n q o i) := by
  unfold State.writeRow
  repeat' (first | intro _ | with_reducible assumption | exact rfl | dsimp only | with_reducible apply keeps_takeSlot | with_reducible apply keeps_modFrame | with_reducible apply keeps_finishFrame | with_reducible apply keeps_shedForPool | with_reducible apply keeps_endWait | with_reducible apply keeps_issueRow | with_reducible apply keeps_beginWait | with_reducible apply keeps_ite | with_reducible apply keeps_ite2 | with_reducible apply keeps_foldl | split | ((with_reducible apply keeps_mk); (iterate 4 with_reducible exact rfl); first | with_reducible exact rfl | exact rfl))

theorem keeps_rowComplete {s0 s : State} (n : Nat) (q : Nat) (hk : Keeps s0 s) :
   Keeps s0 (State.rowComplete s n q) := by
  unfold State.rowComplete
  repeat' (first | intro _ | with_reducible assumption | exact rfl | dsimp only | with_reducible apply keeps_modFrame | with_reducible apply keeps_setMark | with_reducible apply keeps_finishFrame | with_reducible apply keeps_ite | with_reducible apply keeps_ite2 | with_reducible apply keeps_foldl | split | ((with_reducible apply keeps_mk); (iterate 4 with_reducible exact rfl); first | with_reducible exact rfl | exact rfl))

theorem keeps_setCore {s0 s : State} (i : Nat) (x : CoreS) (hk : Keeps s0 s) :
   Keeps s0 (State.setCore s i x) := by
  unfold State.setCore
  repeat' (first | intro _ | with_reducible assumption | exact rfl | dsimp only | with_reducible apply keeps_ite | with_reducible apply keeps_ite2 | with_reducible apply keeps_foldl | split | ((with_reducible apply keeps_mk); (iterate 4 with_reducible exact rfl); first | with_reducible exact rfl | exact rfl))

theorem keeps_modCore {s0 s : State} (i : Nat) (f : CoreS → CoreS) (hk : Keeps s0 s) :
   Keeps s0 (State.modCore s i f) := by
  unfold State.modCore
  repeat' (first | intro _ | with_reducible assumption | exact rfl | dsimp only | with_reducible apply keeps_setCore | with_reducible apply keeps_ite | with_reducible apply keeps_ite2 | with_reducible apply keeps_foldl | split | ((with_reducible apply keeps_mk); (iterate 4 with_reducible exact rfl); first | with_reducible exact rfl | exact rfl))

theorem keeps_modCtx {s0 s : State} (i : Nat) (c : Nat) (f : CtxS → CtxS) (hk : Keeps s0 s) :
   Keeps s0 (State.modCtx s i c f) := by
  unfold State.modCtx
  repeat' (first | intro _ | with_reducible assumption | exact rfl | dsimp only | with_reducible apply keeps_modCore | with_reducible apply keeps_ite | with_reducible apply keeps_ite2 | with_reducible apply keeps_foldl | split | ((with_reducible apply keeps_mk); (iterate 4 with_reducible exact rfl); first | with_reducible exact rfl | exact rfl))

theorem keeps_setCoreState {s0 s : State} (i : Nat) (v : Nat) (hk : Keeps s0 s) :
   Keeps s0 (State.setCoreState s i v) := by
  unfold State.setCoreState
  repeat' (first | intro _ | with_reducible assumption | exact rfl | dsimp only | with_reducible apply keeps_setFld | with_reducible apply keeps_ite | with_reducible apply keeps_ite2 | with_reducible apply keeps_foldl | split | ((with_reducible apply keeps_mk); (iterate 4 with_reducible exact rfl); first | with_reducible exact rfl | exact rfl))

theorem keeps_setCtxState {s0 s : State} (i : Nat) (c : Nat) (v : Nat) (hk : Keeps s0 s) :
   Keeps s0 (State.setCtxState s i c v) := by
  unfold State.setCtxState
  repeat' (first | intro _ | with_reducible assumption | exact rfl | dsimp only | with_reducible apply keeps_setFld | with_reducible apply keeps_map | with_reducible apply keeps_ite | with_reducible apply keeps_ite2 | with_reducible apply keeps_foldl | split | ((with_reducible apply keeps_mk); (iterate 4 with_reducible exact rfl); first | with_reducible exact rfl | exact rfl))

theorem keeps_setWait {s0 s : State} (i : Nat) (c : Nat) (w : WaitS) (hk : Keeps s0 s) :
   Keeps s0 (State.setWait s i c w) := by
  unfold State.setWait
  repeat' (first | intro _ | with_reducible assumption | exact rfl | dsimp only | with_reducible apply keeps_modCtx | with_reducible apply keeps_setFld | with_reducible apply keeps_setCtxState | with_reducible apply keeps_ite | with_reducible apply keeps_ite2 | with_reducible apply keeps_foldl | split | ((with_reducible apply keeps_mk); (iterate 4 with_reducible exact rfl); first | with_reducible exact rfl | exact rfl))

theorem keeps_wake {s0 s : State} (i : Nat) (c : Nat) (hk : Keeps s0 s) :
   Keeps s0 (State.wake s i c) := by
  unfold State.wake
  repeat' (first | intro _ | with_reducible assumption | exact rfl | dsimp only | with_reducible apply keeps_modCtx | with_reducible apply keeps_setWait | with_reducible apply keeps_ite | with_reducible apply keeps_ite2 | with_reducible apply keeps_foldl | split | ((with_reducible apply keeps_mk); (iterate 4 with_reducible exact rfl); first | with_reducible exact rfl | exact rfl))

theorem keeps_wakeIf {s0 s : State} (i : Nat) (p : Nat → WaitS → Bool) (hk : Keeps s0 s) :
   Keeps s0 (State.wakeIf s i p) := by
  unfold State.wakeIf
  repeat' (first | intro _ | with_reducible assumption | exact rfl | dsimp only | with_reducible apply keeps_wake | with_reducible apply keeps_ite | with_reducible apply keeps_ite2 | with_reducible apply keeps_foldl | split | ((with_reducible apply keeps_mk); (iterate 4 with_reducible exact rfl); first | with_reducible exact rfl | exact rfl))

theorem keeps_startCtx {s0 s : State} (i : Nat) (c : Nat) (pc : Nat) (inl : Bool) (hk : Keeps s0 s) :
   Keeps s0 (State.startCtx s i c pc inl) := by
  unfold State.startCtx
  repeat' (first | intro _ | with_reducible assumption | exact rfl | dsimp only | with_reducible apply keeps_modCtx | with_reducible apply keeps_setFld | with_reducible apply keeps_setCtxState | with_reducible apply keeps_ite | with_reducible apply keeps_ite2 | with_reducible apply keeps_foldl | split | ((with_reducible apply keeps_mk); (iterate 4 with_reducible exact rfl); first | with_reducible exact rfl | exact rfl))

theorem keeps_idleCtx {s0 s : State} (i : Nat) (c : Nat) (hk : Keeps s0 s) :
   Keeps s0 (State.idleCtx s i c) := by
  unfold State.idleCtx
  repeat' (first | intro _ | with_reducible assumption | exact rfl | dsimp only | with_reducible apply keeps_modCtx | with_reducible apply keeps_setFld | with_reducible apply keeps_setCtxState | with_reducible apply keeps_ite | with_reducible apply keeps_ite2 | with_reducible apply keeps_foldl | split | ((with_reducible apply keeps_mk); (iterate 4 with_reducible exact rfl); first | with_reducible exact rfl | exact rfl))

theorem keeps_setCounter {s0 s : State} (g : Nat) (w : Nat) (x : CounterS) (hk : Keeps s0 s) :
   Keeps s0 (State.setCounter s g w x) := by
  unfold State.setCounter
  repeat' (first | intro _ | with_reducible assumption | exact rfl | dsimp only | with_reducible apply keeps_modGroup | with_reducible apply keeps_setFld | with_reducible apply keeps_ite | with_reducible apply keeps_ite2 | with_reducible apply keeps_foldl | split | ((with_reducible apply keeps_mk); (iterate 4 with_reducible exact rfl); first | with_reducible exact rfl | exact rfl))

theorem keeps_pushShare {s0 s : State} (g : Nat) (w : Nat) (n : Nat) (q : Nat) (k : Nat) (deadline : Nat) (inl : Bool) (training : Bool) (hk : Keeps s0 s) :
   Keeps s0 (State.pushShare s g w n q k deadline inl training) := by
  unfold State.pushShare
  repeat' (first | intro _ | with_reducible assumption | exact rfl | dsimp only | with_reducible apply keeps_setRegN | with_reducible apply keeps_setCounter | with_reducible apply keeps_ite | with_reducible apply keeps_ite2 | with_reducible apply keeps_foldl | split | ((with_reducible apply keeps_mk); (iterate 4 with_reducible exact rfl); first | with_reducible exact rfl | exact rfl))

theorem keeps_queueShare {s0 s : State} (g : Nat) (w : Nat) (n : Nat) (q : Nat) (k : Nat) (hk : Keeps s0 s) :
   Keeps s0 (State.queueShare s g w n q k) := by
  unfold State.queueShare
  repeat' (first | intro _ | with_reducible assumption | exact rfl | dsimp only | with_reducible apply keeps_pushShare | with_reducible apply keeps_modFrame | with_reducible apply keeps_ite | with_reducible apply keeps_ite2 | with_reducible apply keeps_foldl | split | ((with_reducible apply keeps_mk); (iterate 4 with_reducible exact rfl); first | with_reducible exact rfl | exact rfl))

theorem keeps_takeShare {s0 s : State} (i : Nat) (w : Nat) (h : Share) (hk : Keeps s0 s) :
   Keeps s0 (State.takeShare s i w h) := by
  unfold State.takeShare
  repeat' (first | intro _ | with_reducible assumption | exact rfl | dsimp only | with_reducible apply keeps_setCounter | with_reducible apply keeps_map | with_reducible apply keeps_modCore | with_reducible apply keeps_ite | with_reducible apply keeps_ite2 | with_reducible apply keeps_foldl | split | ((with_reducible apply keeps_mk); (iterate 4 with_reducible exact rfl); first | with_reducible exact rfl | exact rfl))

theorem keeps_renewLeases {s0 s : State} (i : Nat) (hk : Keeps s0 s) :
   Keeps s0 (State.renewLeases s i) := by
  unfold State.renewLeases
  repeat' (first | intro _ | with_reducible assumption | exact rfl | dsimp only | with_reducible apply keeps_modCore | with_reducible apply keeps_setCounter | with_reducible apply keeps_map | with_reducible apply keeps_ite | with_reducible apply keeps_ite2 | with_reducible apply keeps_foldl | split | ((with_reducible apply keeps_mk); (iterate 4 with_reducible exact rfl); first | with_reducible exact rfl | exact rfl))

theorem keeps_expireLease {s0 s : State} (g : Nat) (w : Nat) (idx : Nat) (hk : Keeps s0 s) :
   Keeps s0 (State.expireLease s g w idx) := by
  unfold State.expireLease
  repeat' (first | intro _ | with_reducible assumption | exact rfl | dsimp only | with_reducible apply keeps_setCounter | with_reducible apply keeps_bump | with_reducible apply keeps_ite | with_reducible apply keeps_ite2 | with_reducible apply keeps_foldl | split | ((with_reducible apply keeps_mk); (iterate 4 with_reducible exact rfl); first | with_reducible exact rfl | exact rfl))

theorem keeps_withdraw {s0 s : State} (n : Nat) (all : Bool) (hk : Keeps s0 s) :
   Keeps s0 (State.withdraw s n all) := by
  unfold State.withdraw
  repeat' (first | intro _ | with_reducible assumption | exact rfl | dsimp only | with_reducible apply keeps_setCounter | with_reducible apply keeps_ite | with_reducible apply keeps_ite2 | with_reducible apply keeps_foldl | split | ((with_reducible apply keeps_mk); (iterate 4 with_reducible exact rfl); first | with_reducible exact rfl | exact rfl))

theorem keeps_forgetDone {s0 s : State} (n : Nat) (hk : Keeps s0 s) :
   Keeps s0 (State.forgetDone s n) := by
  unfold State.forgetDone
  repeat' (first | intro _ | with_reducible assumption | exact rfl | dsimp only | with_reducible apply keeps_modGroup | with_reducible apply keeps_map | with_reducible apply keeps_ite | with_reducible apply keeps_ite2 | with_reducible apply keeps_foldl | split | ((with_reducible apply keeps_mk); (iterate 4 with_reducible exact rfl); first | with_reducible exact rfl | exact rfl))

theorem keeps_forgetDrawn {s0 s : State} (n : Nat) (hk : Keeps s0 s) :
   Keeps s0 (State.forgetDrawn s n) := by
  unfold State.forgetDrawn
  repeat' (first | intro _ | with_reducible assumption | exact rfl | dsimp only | with_reducible apply keeps_map | with_reducible apply keeps_ite | with_reducible apply keeps_ite2 | with_reducible apply keeps_foldl | split | ((with_reducible apply keeps_mk); (iterate 4 with_reducible exact rfl); first | with_reducible exact rfl | exact rfl))

theorem keeps_wakeBarrier {s0 s : State} (b : BarScope) (cores : List Nat) (hk : Keeps s0 s) :
   Keeps s0 (State.wakeBarrier s b cores) := by
  unfold State.wakeBarrier
  repeat' (first | intro _ | with_reducible assumption | exact rfl | dsimp only | with_reducible apply keeps_wakeIf | with_reducible apply keeps_ite | with_reducible apply keeps_ite2 | with_reducible apply keeps_foldl | split | ((with_reducible apply keeps_mk); (iterate 4 with_reducible exact rfl); first | with_reducible exact rfl | exact rfl))

theorem keeps_arriveStage {s0 s : State} (g : Nat) (b : Nat) (hk : Keeps s0 s) :
   Keeps s0 (State.arriveStage s g b) := by
  unfold State.arriveStage
  repeat' (first | intro _ | with_reducible assumption | exact rfl | dsimp only | with_reducible apply keeps_modGroup | with_reducible apply keeps_wakeBarrier | with_reducible apply keeps_ite | with_reducible apply keeps_ite2 | with_reducible apply keeps_foldl | split | ((with_reducible apply keeps_mk); (iterate 4 with_reducible exact rfl); first | with_reducible exact rfl | exact rfl))

theorem keeps_arriveStops {s0 s : State} (i : Nat) (hk : Keeps s0 s) :
   Keeps s0 (State.arriveStops s i) := by
  unfold State.arriveStops
  repeat' (first | intro _ | with_reducible assumption | exact rfl | dsimp only | with_reducible apply keeps_map | with_reducible apply keeps_ite | with_reducible apply keeps_ite2 | with_reducible apply keeps_foldl | split | ((with_reducible apply keeps_mk); (iterate 4 with_reducible exact rfl); first | with_reducible exact rfl | exact rfl))

theorem keeps_closeStops {s0 s : State} (g : Nat) (hk : Keeps s0 s) :
   Keeps s0 (State.closeStops s g) := by
  unfold State.closeStops
  repeat' (first | intro _ | with_reducible assumption | exact rfl | dsimp only | with_reducible apply keeps_map | with_reducible apply keeps_ite | with_reducible apply keeps_ite2 | with_reducible apply keeps_foldl | split | ((with_reducible apply keeps_mk); (iterate 4 with_reducible exact rfl); first | with_reducible exact rfl | exact rfl))

theorem keeps_checkGroup {s0 s : State} (g : Nat) (hk : Keeps s0 s) :
   Keeps s0 (State.checkGroup s g) := by
  unfold State.checkGroup
  repeat' (first | intro _ | with_reducible assumption | exact rfl | dsimp only | with_reducible apply keeps_closeStops | with_reducible apply keeps_modGroup | with_reducible apply keeps_wakeBarrier | with_reducible apply keeps_ite | with_reducible apply keeps_ite2 | with_reducible apply keeps_foldl | split | ((with_reducible apply keeps_mk); (iterate 4 with_reducible exact rfl); first | with_reducible exact rfl | exact rfl))

theorem keeps_checkDevice {s0 s : State} (hk : Keeps s0 s) :
   Keeps s0 (State.checkDevice s) := by
  unfold State.checkDevice
  repeat' (first | intro _ | with_reducible assumption | exact rfl | dsimp only | with_reducible apply keeps_wakeBarrier | with_reducible apply keeps_ite | with_reducible apply keeps_ite2 | with_reducible apply keeps_foldl | split | ((with_reducible apply keeps_mk); (iterate 4 with_reducible exact rfl); first | with_reducible exact rfl | exact rfl))

theorem keeps_arriveGroup {s0 s : State} (i : Nat) (hk : Keeps s0 s) :
   Keeps s0 (State.arriveGroup s i) := by
  unfold State.arriveGroup
  repeat' (first | intro _ | with_reducible assumption | exact rfl | dsimp only | with_reducible apply keeps_modCore | with_reducible apply keeps_arriveStops | with_reducible apply keeps_modGroup | with_reducible apply keeps_checkGroup | with_reducible apply keeps_ite | with_reducible apply keeps_ite2 | with_reducible apply keeps_foldl | split | ((with_reducible apply keeps_mk); (iterate 4 with_reducible exact rfl); first | with_reducible exact rfl | exact rfl))

theorem keeps_arriveDevice {s0 s : State} (i : Nat) (hk : Keeps s0 s) :
   Keeps s0 (State.arriveDevice s i) := by
  unfold State.arriveDevice
  repeat' (first | intro _ | with_reducible assumption | exact rfl | dsimp only | with_reducible apply keeps_modCore | with_reducible apply keeps_checkDevice | with_reducible apply keeps_ite | with_reducible apply keeps_ite2 | with_reducible apply keeps_foldl | split | ((with_reducible apply keeps_mk); (iterate 4 with_reducible exact rfl); first | with_reducible exact rfl | exact rfl))

theorem keeps_leaveBarriers {s0 s : State} (i : Nat) (hk : Keeps s0 s) :
   Keeps s0 (State.leaveBarriers s i) := by
  unfold State.leaveBarriers
  repeat' (first | intro _ | with_reducible assumption | exact rfl | dsimp only | with_reducible apply keeps_modGroup | with_reducible apply keeps_checkGroup | with_reducible apply keeps_checkDevice | with_reducible apply keeps_ite | with_reducible apply keeps_ite2 | with_reducible apply keeps_foldl | split | ((with_reducible apply keeps_mk); (iterate 4 with_reducible exact rfl); first | with_reducible exact rfl | exact rfl))

theorem keeps_joinBarriers {s0 s : State} (i : Nat) (hk : Keeps s0 s) :
   Keeps s0 (State.joinBarriers s i) := by
  unfold State.joinBarriers
  repeat' (first | intro _ | with_reducible assumption | exact rfl | dsimp only | with_reducible apply keeps_checkGroup | with_reducible apply keeps_checkDevice | with_reducible apply keeps_ite | with_reducible apply keeps_ite2 | with_reducible apply keeps_foldl | split | ((with_reducible apply keeps_mk); (iterate 4 with_reducible exact rfl); first | with_reducible exact rfl | exact rfl))

theorem keeps_performArrival {s0 s : State} (i : Nat) (y : BarScope) (hk : Keeps s0 s) :
   Keeps s0 (State.performArrival s i y) := by
  unfold State.performArrival
  repeat' (first | intro _ | with_reducible assumption | exact rfl | dsimp only | with_reducible apply keeps_arriveGroup | with_reducible apply keeps_arriveDevice | with_reducible apply keeps_arriveStage | with_reducible apply keeps_ite | with_reducible apply keeps_ite2 | with_reducible apply keeps_foldl | split | ((with_reducible apply keeps_mk); (iterate 4 with_reducible exact rfl); first | with_reducible exact rfl | exact rfl))

theorem keeps_arriveWhenSeen {s0 s : State} (i : Nat) (c : Nat) (b : BarScope) (hk : Keeps s0 s) :
   Keeps s0 (State.arriveWhenSeen s i c b) := by
  unfold State.arriveWhenSeen
  repeat' (first | intro _ | with_reducible assumption | exact rfl | dsimp only | with_reducible apply keeps_modCore | with_reducible apply keeps_performArrival | with_reducible apply keeps_ite | with_reducible apply keeps_ite2 | with_reducible apply keeps_foldl | split | ((with_reducible apply keeps_mk); (iterate 4 with_reducible exact rfl); first | with_reducible exact rfl | exact rfl))

theorem keeps_settleArrivals {s0 s : State} (i : Nat) (hk : Keeps s0 s) :
   Keeps s0 (State.settleArrivals s i) := by
  unfold State.settleArrivals
  repeat' (first | intro _ | with_reducible assumption | exact rfl | dsimp only | with_reducible apply keeps_modCore | with_reducible apply keeps_performArrival | with_reducible apply keeps_ite | with_reducible apply keeps_ite2 | with_reducible apply keeps_foldl | split | ((with_reducible apply keeps_mk); (iterate 4 with_reducible exact rfl); first | with_reducible exact rfl | exact rfl))

theorem keeps_setPortState {s0 s : State} (p : Nat) (v : Nat) (hk : Keeps s0 s) :
   Keeps s0 (State.setPortState s p v) := by
  unfold State.setPortState
  repeat' (first | intro _ | with_reducible assumption | exact rfl | dsimp only | with_reducible apply keeps_setFld | with_reducible apply keeps_ite | with_reducible apply keeps_ite2 | with_reducible apply keeps_foldl | split | ((with_reducible apply keeps_mk); (iterate 4 with_reducible exact rfl); first | with_reducible exact rfl | exact rfl))

theorem keeps_portCount {s0 s : State} (p : Nat) (ixl : RegName) (chn : RegName) (hk : Keeps s0 s) :
   Keeps s0 (State.portCount s p ixl chn) := by
  unfold State.portCount
  repeat' (first | intro _ | with_reducible assumption | exact rfl | dsimp only | with_reducible apply keeps_bump | with_reducible apply keeps_ite | with_reducible apply keeps_ite2 | with_reducible apply keeps_foldl | split | ((with_reducible apply keeps_mk); (iterate 4 with_reducible exact rfl); first | with_reducible exact rfl | exact rfl))

theorem keeps_linkEvt {s0 s : State} (p : Nat) (f : Fld) (code : Nat) (hk : Keeps s0 s) :
   Keeps s0 (State.linkEvt s p f code) := by
  unfold State.linkEvt
  repeat' (first | intro _ | with_reducible assumption | exact rfl | dsimp only | with_reducible apply keeps_setEvt | with_reducible apply keeps_logEvent | with_reducible apply keeps_ite | with_reducible apply keeps_ite2 | with_reducible apply keeps_foldl | split | ((with_reducible apply keeps_mk); (iterate 4 with_reducible exact rfl); first | with_reducible exact rfl | exact rfl))

theorem keeps_setWclk {s0 s : State} (p : Nat) (v : Nat) (hk : Keeps s0 s) :
   Keeps s0 (State.setWclk s p v) := by
  unfold State.setWclk
  repeat' (first | intro _ | with_reducible assumption | exact rfl | dsimp only | with_reducible apply keeps_setFld | with_reducible apply keeps_ite | with_reducible apply keeps_ite2 | with_reducible apply keeps_foldl | split | ((with_reducible apply keeps_mk); (iterate 4 with_reducible exact rfl); first | with_reducible exact rfl | exact rfl))

theorem keeps_frameEffect {s0 s : State} (p : Nat) (c : FwdCtl) (hk : Keeps s0 s) :
   Keeps s0 (State.frameEffect s p c) := by
  unfold State.frameEffect
  repeat' (first | intro _ | with_reducible assumption | exact rfl | dsimp only | with_reducible apply keeps_closeByLink | with_reducible apply keeps_setMark | with_reducible apply keeps_setReg | with_reducible apply keeps_ite | with_reducible apply keeps_ite2 | with_reducible apply keeps_foldl | split | ((with_reducible apply keeps_mk); (iterate 4 with_reducible exact rfl); first | with_reducible exact rfl | exact rfl))

theorem keeps_linkEffect {s0 s : State} (p : Nat) (c : FwdCtl) (hk : Keeps s0 s) :
   Keeps s0 (State.linkEffect s p c) := by
  unfold State.linkEffect
  repeat' (first | intro _ | with_reducible assumption | exact rfl | dsimp only | with_reducible apply keeps_emit | with_reducible apply keeps_frameEffect | with_reducible apply keeps_ite | with_reducible apply keeps_ite2 | with_reducible apply keeps_foldl | split | ((with_reducible apply keeps_mk); (iterate 4 with_reducible exact rfl); first | with_reducible exact rfl | exact rfl))

theorem keeps_dropBlocks {s0 s : State} (p : Nat) (hk : Keeps s0 s) :
   Keeps s0 (State.dropBlocks s p) := by
  unfold State.dropBlocks
  repeat' (first | intro _ | with_reducible assumption | exact rfl | dsimp only | with_reducible apply keeps_ite | with_reducible apply keeps_ite2 | with_reducible apply keeps_foldl | split | ((with_reducible apply keeps_mk); (iterate 4 with_reducible exact rfl); first | with_reducible exact rfl | exact rfl))

theorem keeps_leaveActive {s0 s : State} (p : Nat) (hk : Keeps s0 s) :
   Keeps s0 (State.leaveActive s p) := by
  unfold State.leaveActive
  repeat' (first | intro _ | with_reducible assumption | exact rfl | dsimp only | with_reducible apply keeps_linkEffect | with_reducible apply keeps_dropBlocks | with_reducible apply keeps_modPort | with_reducible apply keeps_tunnelsLost | with_reducible apply keeps_ite | with_reducible apply keeps_ite2 | with_reducible apply keeps_foldl | split | ((with_reducible apply keeps_mk); (iterate 4 with_reducible exact rfl); first | with_reducible exact rfl | exact rfl))

theorem keeps_beginAttempt {s0 s : State} (p : Nat) (k : Nat) (fromLock : Bool) (hk : Keeps s0 s) :
   Keeps s0 (State.beginAttempt s p k fromLock) := by
  unfold State.beginAttempt
  repeat' (first | intro _ | with_reducible assumption | exact rfl | dsimp only | with_reducible apply keeps_modPort | with_reducible apply keeps_setFld | with_reducible apply keeps_setPortState | with_reducible apply keeps_setWclk | with_reducible apply keeps_ite | with_reducible apply keeps_ite2 | with_reducible apply keeps_foldl | split | ((with_reducible apply keeps_mk); (iterate 4 with_reducible exact rfl); first | with_reducible exact rfl | exact rfl))

theorem keeps_portFault {s0 s : State} (p : Nat) (code : Nat) (hk : Keeps s0 s) :
   Keeps s0 (State.portFault s p code) := by
  unfold State.portFault
  repeat' (first | intro _ | with_reducible assumption | exact rfl | dsimp only | with_reducible apply keeps_setPortState | with_reducible apply keeps_linkEvt | with_reducible apply keeps_modPort | with_reducible apply keeps_reply | with_reducible apply keeps_logEvent | with_reducible apply keeps_ite | with_reducible apply keeps_ite2 | with_reducible apply keeps_foldl | split | ((with_reducible apply keeps_mk); (iterate 4 with_reducible exact rfl); first | with_reducible exact rfl | exact rfl))

theorem keeps_attemptFail {s0 s : State} (p : Nat) (code : Nat) (hk : Keeps s0 s) :
   Keeps s0 (State.attemptFail s p code) := by
  unfold State.attemptFail
  repeat' (first | intro _ | with_reducible assumption | exact rfl | dsimp only | with_reducible apply keeps_setFld | with_reducible apply keeps_portCount | with_reducible apply keeps_modPort | with_reducible apply keeps_portFault | with_reducible apply keeps_setPortState | with_reducible apply keeps_ite | with_reducible apply keeps_ite2 | with_reducible apply keeps_foldl | split | ((with_reducible apply keeps_mk); (iterate 4 with_reducible exact rfl); first | with_reducible exact rfl | exact rfl))

theorem keeps_retrain {s0 s : State} (p : Nat) (code : Nat) (clock : Bool) (hk : Keeps s0 s) :
   Keeps s0 (State.retrain s p code clock) := by
  unfold State.retrain
  repeat' (first | intro _ | with_reducible assumption | exact rfl | dsimp only | with_reducible apply keeps_leaveActive | with_reducible apply keeps_setFld | with_reducible apply keeps_portCount | with_reducible apply keeps_linkEvt | with_reducible apply keeps_beginAttempt | with_reducible apply keeps_ite | with_reducible apply keeps_ite2 | with_reducible apply keeps_foldl | split | ((with_reducible apply keeps_mk); (iterate 4 with_reducible exact rfl); first | with_reducible exact rfl | exact rfl))

theorem keeps_portDown {s0 s : State} (p : Nat) (hk : Keeps s0 s) :
   Keeps s0 (State.portDown s p) := by
  unfold State.portDown
  repeat' (first | intro _ | with_reducible assumption | exact rfl | dsimp only | with_reducible apply keeps_leaveActive | with_reducible apply keeps_modPort | with_reducible apply keeps_setWclk | with_reducible apply keeps_setPortState | with_reducible apply keeps_ite | with_reducible apply keeps_ite2 | with_reducible apply keeps_foldl | split | ((with_reducible apply keeps_mk); (iterate 4 with_reducible exact rfl); first | with_reducible exact rfl | exact rfl))

theorem keeps_portCfgWrite {s0 s : State} (p : Nat) (v : Nat) (hk : Keeps s0 s) :
   Keeps s0 (State.portCfgWrite s p v) := by
  unfold State.portCfgWrite
  repeat' (first | intro _ | with_reducible assumption | exact rfl | dsimp only | with_reducible apply keeps_setFld | with_reducible apply keeps_portDown | with_reducible apply keeps_beginAttempt | with_reducible apply keeps_retrain | with_reducible apply keeps_ite | with_reducible apply keeps_ite2 | with_reducible apply keeps_foldl | split | ((with_reducible apply keeps_mk); (iterate 4 with_reducible exact rfl); first | with_reducible exact rfl | exact rfl))

theorem keeps_bringupStep {s0 s : State} (p : Nat) (next : State → State) (hk : Keeps s0 s) (hnext : ∀ t, Keeps s0 t → Keeps s0 (next t)) :
   Keeps s0 (State.bringupStep s p next) := by
  unfold State.bringupStep
  repeat' (first | intro _ | with_reducible assumption | exact rfl | dsimp only | with_reducible apply keeps_attemptFail | with_reducible apply keeps_modPort | exact hnext _ ‹_›| apply hnext | with_reducible apply keeps_ite | with_reducible apply keeps_ite2 | with_reducible apply keeps_foldl | split | ((with_reducible apply keeps_mk); (iterate 4 with_reducible exact rfl); first | with_reducible exact rfl | exact rfl))

theorem keeps_signalDetected {s0 s : State} (p : Nat) (hk : Keeps s0 s) :
   Keeps s0 (State.signalDetected s p) := by
  unfold State.signalDetected
  repeat' (first | intro _ | with_reducible assumption | exact rfl | dsimp only | with_reducible apply keeps_bringupStep | with_reducible apply keeps_setWclk | with_reducible apply keeps_setPortState | with_reducible apply keeps_ite | with_reducible apply keeps_ite2 | with_reducible apply keeps_foldl | split | ((with_reducible apply keeps_mk); (iterate 4 with_reducible exact rfl); first | with_reducible exact rfl | exact rfl))

theorem keeps_blockLockGained {s0 s : State} (p : Nat) (hk : Keeps s0 s) :
   Keeps s0 (State.blockLockGained s p) := by
  unfold State.blockLockGained
  repeat' (first | intro _ | with_reducible assumption | exact rfl | dsimp only | with_reducible apply keeps_bringupStep | with_reducible apply keeps_modPort | with_reducible apply keeps_setPortState | with_reducible apply keeps_sendCaps | with_reducible apply keeps_emit | with_reducible apply keeps_ite | with_reducible apply keeps_ite2 | with_reducible apply keeps_foldl | split | ((with_reducible apply keeps_mk); (iterate 4 with_reducible exact rfl); first | with_reducible exact rfl | exact rfl))

theorem keeps_blockLockLost {s0 s : State} (p : Nat) (hk : Keeps s0 s) :
   Keeps s0 (State.blockLockLost s p) := by
  unfold State.blockLockLost
  repeat' (first | intro _ | with_reducible assumption | exact rfl | dsimp only | with_reducible apply keeps_retrain | with_reducible apply keeps_modPort | with_reducible apply keeps_ite | with_reducible apply keeps_ite2 | with_reducible apply keeps_foldl | split | ((with_reducible apply keeps_mk); (iterate 4 with_reducible exact rfl); first | with_reducible exact rfl | exact rfl))

theorem keeps_retryWaitEnd {s0 s : State} (p : Nat) (hk : Keeps s0 s) :
   Keeps s0 (State.retryWaitEnd s p) := by
  unfold State.retryWaitEnd
  repeat' (first | intro _ | with_reducible assumption | exact rfl | dsimp only | with_reducible apply keeps_beginAttempt | with_reducible apply keeps_ite | with_reducible apply keeps_ite2 | with_reducible apply keeps_foldl | split | ((with_reducible apply keeps_mk); (iterate 4 with_reducible exact rfl); first | with_reducible exact rfl | exact rfl))

theorem keeps_wordClockLoss {s0 s : State} (p : Nat) (hk : Keeps s0 s) :
   Keeps s0 (State.wordClockLoss s p) := by
  unfold State.wordClockLoss
  repeat' (first | intro _ | with_reducible assumption | exact rfl | dsimp only | with_reducible apply keeps_setWclk | with_reducible apply keeps_retrain | with_reducible apply keeps_modPort | with_reducible apply keeps_setPortState | with_reducible apply keeps_ite | with_reducible apply keeps_ite2 | with_reducible apply keeps_foldl | split | ((with_reducible apply keeps_mk); (iterate 4 with_reducible exact rfl); first | with_reducible exact rfl | exact rfl))

theorem keeps_checkOverload {s0 s : State} (p : Nat) (hk : Keeps s0 s) :
   Keeps s0 (State.checkOverload s p) := by
  unfold State.checkOverload
  repeat' (first | intro _ | with_reducible assumption | exact rfl | dsimp only | with_reducible apply keeps_linkEvt | with_reducible apply keeps_ite | with_reducible apply keeps_ite2 | with_reducible apply keeps_foldl | split | ((with_reducible apply keeps_mk); (iterate 4 with_reducible exact rfl); first | with_reducible exact rfl | exact rfl))

theorem keeps_dropPkt {s0 s : State} (p : Nat) (hk : Keeps s0 s) :
   Keeps s0 (State.dropPkt s p) := by
  unfold State.dropPkt
  repeat' (first | intro _ | with_reducible assumption | exact rfl | dsimp only | with_reducible apply keeps_portCount | with_reducible apply keeps_ite | with_reducible apply keeps_ite2 | with_reducible apply keeps_foldl | split | ((with_reducible apply keeps_mk); (iterate 4 with_reducible exact rfl); first | with_reducible exact rfl | exact rfl))

theorem keeps_cameraPacket {s0 s : State} (p : Nat) (k : Packet) (hk : Keeps s0 s) :
   Keeps s0 (State.cameraPacket s p k) := by
  unfold State.cameraPacket
  repeat' (first | intro _ | with_reducible assumption | exact rfl | dsimp only | with_reducible apply keeps_overdue | with_reducible apply keeps_intakeVideo | with_reducible apply keeps_dropPkt | with_reducible apply keeps_intakeEmbed | with_reducible apply keeps_intakeStart | with_reducible apply keeps_intakeEnd | with_reducible apply keeps_tunnelResponse | with_reducible apply keeps_ite | with_reducible apply keeps_ite2 | with_reducible apply keeps_foldl | split | ((with_reducible apply keeps_mk); (iterate 4 with_reducible exact rfl); first | with_reducible exact rfl | exact rfl))

theorem keeps_forwardPacket {s0 s : State} (p : Nat) (k : Packet) (hk : Keeps s0 s) :
   Keeps s0 (State.forwardPacket s p k) := by
  unfold State.forwardPacket
  repeat' (first | intro _ | with_reducible assumption | exact rfl | dsimp only | with_reducible apply keeps_emit | with_reducible apply keeps_bump | with_reducible apply keeps_ite | with_reducible apply keeps_ite2 | with_reducible apply keeps_foldl | split | ((with_reducible apply keeps_mk); (iterate 4 with_reducible exact rfl); first | with_reducible exact rfl | exact rfl))

theorem keeps_enterActive {s0 s : State} (p : Nat) (k : Packet) (hk : Keeps s0 s) :
   Keeps s0 (State.enterActive s p k) := by
  unfold State.enterActive
  repeat' (first | intro _ | with_reducible assumption | exact rfl | dsimp only | with_reducible apply keeps_setRegN | with_reducible apply keeps_linkEffect | with_reducible apply keeps_modPort | with_reducible apply keeps_setPortState | with_reducible apply keeps_freeCredits | with_reducible apply keeps_checkOverload | with_reducible apply keeps_reply | with_reducible apply keeps_ite | with_reducible apply keeps_ite2 | with_reducible apply keeps_foldl | split | ((with_reducible apply keeps_mk); (iterate 4 with_reducible exact rfl); first | with_reducible exact rfl | exact rfl))

theorem keeps_capsState {s0 s : State} (p : Nat) (k : Packet) (hk : Keeps s0 s) :
   Keeps s0 (State.capsState s p k) := by
  unfold State.capsState
  repeat' (first | intro _ | with_reducible assumption | exact rfl | dsimp only | with_reducible apply keeps_bringupStep | with_reducible apply keeps_linkEvt | with_reducible apply keeps_attemptFail | with_reducible apply keeps_enterActive | with_reducible apply keeps_discardPkt | with_reducible apply keeps_dropPkt | with_reducible apply keeps_ite | with_reducible apply keeps_ite2 | with_reducible apply keeps_foldl | split | ((with_reducible apply keeps_mk); (iterate 4 with_reducible exact rfl); first | with_reducible exact rfl | exact rfl))

theorem keeps_hubStatus {s0 s : State} (p : Nat) (k : Packet) (hk : Keeps s0 s) :
   Keeps s0 (State.hubStatus s p k) := by
  unfold State.hubStatus
  repeat' (first | intro _ | with_reducible assumption | exact rfl | dsimp only | with_reducible apply keeps_retrain | with_reducible apply keeps_setRegN | with_reducible apply keeps_linkEvt | with_reducible apply keeps_linkEffect | with_reducible apply keeps_logEvent | with_reducible apply keeps_dropPkt | with_reducible apply keeps_ite | with_reducible apply keeps_ite2 | with_reducible apply keeps_foldl | split | ((with_reducible apply keeps_mk); (iterate 4 with_reducible exact rfl); first | with_reducible exact rfl | exact rfl))

theorem keeps_dispatchPkt {s0 s : State} (p : Nat) (k : Packet) (hk : Keeps s0 s) :
   Keeps s0 (State.dispatchPkt s p k) := by
  unfold State.dispatchPkt
  repeat' (first | intro _ | with_reducible assumption | exact rfl | dsimp only | with_reducible apply keeps_dropPkt | with_reducible apply keeps_hubStatus | with_reducible apply keeps_forwardPacket | with_reducible apply keeps_cameraPacket | with_reducible apply keeps_ite | with_reducible apply keeps_ite2 | with_reducible apply keeps_foldl | split | ((with_reducible apply keeps_mk); (iterate 4 with_reducible exact rfl); first | with_reducible exact rfl | exact rfl))

theorem keeps_acceptPkt {s0 s : State} (p : Nat) (k : Packet) (hk : Keeps s0 s) :
   Keeps s0 (State.acceptPkt s p k) := by
  unfold State.acceptPkt
  repeat' (first | intro _ | with_reducible assumption | exact rfl | dsimp only | with_reducible apply keeps_setPort | with_reducible apply keeps_freeCredits | with_reducible apply keeps_sendAck | with_reducible apply keeps_dispatchPkt | with_reducible apply keeps_ite | with_reducible apply keeps_ite2 | with_reducible apply keeps_foldl | split | ((with_reducible apply keeps_mk); (iterate 4 with_reducible exact rfl); first | with_reducible exact rfl | exact rfl))

theorem keeps_failPkt {s0 s : State} (p : Nat) (cost : Nat) (cause : Nat) (hk : Keeps s0 s) :
   Keeps s0 (State.failPkt s p cost cause) := by
  unfold State.failPkt
  repeat' (first | intro _ | with_reducible assumption | exact rfl | dsimp only | with_reducible apply keeps_portCount | with_reducible apply keeps_freeCredits | with_reducible apply keeps_setPort | with_reducible apply keeps_sendNak | with_reducible apply keeps_ite | with_reducible apply keeps_ite2 | with_reducible apply keeps_foldl | split | ((with_reducible apply keeps_mk); (iterate 4 with_reducible exact rfl); first | with_reducible exact rfl | exact rfl))

theorem keeps_replayGone {s0 s : State} (p : Nat) (q : Nat) (k : Packet) (hk : Keeps s0 s) :
   Keeps s0 (State.replayGone s p q k) := by
  unfold State.replayGone
  repeat' (first | intro _ | with_reducible assumption | exact rfl | dsimp only | with_reducible apply keeps_freeCredits | with_reducible apply keeps_modPort | with_reducible apply keeps_bump | with_reducible apply keeps_linkEvt | with_reducible apply keeps_linkEffect | with_reducible apply keeps_ite | with_reducible apply keeps_ite2 | with_reducible apply keeps_foldl | split | ((with_reducible apply keeps_mk); (iterate 4 with_reducible exact rfl); first | with_reducible exact rfl | exact rfl))

theorem keeps_duplicatePkt {s0 s : State} (p : Nat) (k : Packet) (hk : Keeps s0 s) :
   Keeps s0 (State.duplicatePkt s p k) := by
  unfold State.duplicatePkt
  repeat' (first | intro _ | with_reducible assumption | exact rfl | dsimp only | with_reducible apply keeps_freeCredits | with_reducible apply keeps_dropPkt | with_reducible apply keeps_ite | with_reducible apply keeps_ite2 | with_reducible apply keeps_foldl | split | ((with_reducible apply keeps_mk); (iterate 4 with_reducible exact rfl); first | with_reducible exact rfl | exact rfl))

theorem keeps_sequencePkt {s0 s : State} (p : Nat) (k : Packet) (hk : Keeps s0 s) :
   Keeps s0 (State.sequencePkt s p k) := by
  unfold State.sequencePkt
  repeat' (first | intro _ | with_reducible assumption | exact rfl | dsimp only | with_reducible apply keeps_replayGone | with_reducible apply keeps_modPort | with_reducible apply keeps_acceptPkt | with_reducible apply keeps_linkEffect | with_reducible apply keeps_duplicatePkt | with_reducible apply keeps_freeCredits | with_reducible apply keeps_failPkt | with_reducible apply keeps_ite | with_reducible apply keeps_ite2 | with_reducible apply keeps_foldl | split | ((with_reducible apply keeps_mk); (iterate 4 with_reducible exact rfl); first | with_reducible exact rfl | exact rfl))

theorem keeps_strayBlock {s0 s : State} (p : Nat) (t : Byte) (hk : Keeps s0 s) :
   Keeps s0 (State.strayBlock s p t) := by
  unfold State.strayBlock
  repeat' (first | intro _ | with_reducible assumption | exact rfl | dsimp only | with_reducible apply keeps_dropPkt | with_reducible apply keeps_ite | with_reducible apply keeps_ite2 | with_reducible apply keeps_foldl | split | ((with_reducible apply keeps_mk); (iterate 4 with_reducible exact rfl); first | with_reducible exact rfl | exact rfl))

theorem keeps_receive {s0 s : State} (p : Nat) (k : Packet) (hk : Keeps s0 s) :
   Keeps s0 (State.receive s p k) := by
  unfold State.receive
  repeat' (first | intro _ | with_reducible assumption | exact rfl | dsimp only | with_reducible apply keeps_obsAdd | with_reducible apply keeps_capsState | with_reducible apply keeps_modPort | with_reducible apply keeps_failPkt | with_reducible apply keeps_sequencePkt | with_reducible apply keeps_ite | with_reducible apply keeps_ite2 | with_reducible apply keeps_foldl | split | ((with_reducible apply keeps_mk); (iterate 4 with_reducible exact rfl); first | with_reducible exact rfl | exact rfl))

theorem keeps_replayExpiry {s0 s : State} (p : Nat) (hk : Keeps s0 s) :
   Keeps s0 (State.replayExpiry s p) := by
  unfold State.replayExpiry
  repeat' (first | intro _ | with_reducible assumption | exact rfl | dsimp only | with_reducible apply keeps_retrain | with_reducible apply keeps_modPort | with_reducible apply keeps_sendNak | with_reducible apply keeps_ite | with_reducible apply keeps_ite2 | with_reducible apply keeps_foldl | split | ((with_reducible apply keeps_mk); (iterate 4 with_reducible exact rfl); first | with_reducible exact rfl | exact rfl))

theorem keeps_setTimeState {s0 s : State} (v : Nat) (hk : Keeps s0 s) :
   Keeps s0 (State.setTimeState s v) := by
  unfold State.setTimeState
  repeat' (first | intro _ | with_reducible assumption | exact rfl | dsimp only | with_reducible apply keeps_setFld | with_reducible apply keeps_traceEv | with_reducible apply keeps_ite | with_reducible apply keeps_ite2 | with_reducible apply keeps_foldl | split | ((with_reducible apply keeps_mk); (iterate 4 with_reducible exact rfl); first | with_reducible exact rfl | exact rfl))

theorem keeps_synCount {s0 s : State} (r : RegName) (n : Nat) (hk : Keeps s0 s) :
   Keeps s0 (State.synCount s r n) := by
  unfold State.synCount
  repeat' (first | intro _ | with_reducible assumption | exact rfl | dsimp only | with_reducible apply keeps_bump | with_reducible apply keeps_ite | with_reducible apply keeps_ite2 | with_reducible apply keeps_foldl | split | ((with_reducible apply keeps_mk); (iterate 4 with_reducible exact rfl); first | with_reducible exact rfl | exact rfl))

theorem keeps_setRate {s0 s : State} (r : Int) (hk : Keeps s0 s) :
   Keeps s0 (State.setRate s r) := by
  unfold State.setRate
  repeat' (first | intro _ | with_reducible assumption | exact rfl | dsimp only | with_reducible apply keeps_setRegN | with_reducible apply keeps_setFld | with_reducible apply keeps_ite | with_reducible apply keeps_ite2 | with_reducible apply keeps_foldl | split | ((with_reducible apply keeps_mk); (iterate 4 with_reducible exact rfl); first | with_reducible exact rfl | exact rfl))

theorem keeps_endSlew {s0 s : State} (hk : Keeps s0 s) :
   Keeps s0 (State.endSlew s) := by
  unfold State.endSlew
  repeat' (first | intro _ | with_reducible assumption | exact rfl | dsimp only | with_reducible apply keeps_setRate | with_reducible apply keeps_modTime | with_reducible apply keeps_ite | with_reducible apply keeps_ite2 | with_reducible apply keeps_foldl | split | ((with_reducible apply keeps_mk); (iterate 4 with_reducible exact rfl); first | with_reducible exact rfl | exact rfl))

theorem keeps_shiftDeadlines {s0 s : State} (d : Int) (hk : Keeps s0 s) :
   Keeps s0 (State.shiftDeadlines s d) := by
  unfold State.shiftDeadlines
  repeat' (first | intro _ | with_reducible assumption | exact rfl | dsimp only | with_reducible apply keeps_map | with_reducible apply keeps_ite | with_reducible apply keeps_ite2 | with_reducible apply keeps_foldl | split | ((with_reducible apply keeps_mk); (iterate 4 with_reducible exact rfl); first | with_reducible exact rfl | exact rfl))

theorem keeps_cancelForwarded {s0 s : State} (t0 : Nat) (t1 : Nat) (hk : Keeps s0 s) :
   Keeps s0 (State.cancelForwarded s t0 t1) := by
  unfold State.cancelForwarded
  repeat' (first | intro _ | with_reducible assumption | exact rfl | dsimp only | with_reducible apply keeps_synCount | with_reducible apply keeps_map | with_reducible apply keeps_ite | with_reducible apply keeps_ite2 | with_reducible apply keeps_foldl | split | ((with_reducible apply keeps_mk); (iterate 4 with_reducible exact rfl); first | with_reducible exact rfl | exact rfl))

theorem keeps_cancelLaunches {s0 s : State} (t0 : Nat) (t1 : Nat) (hk : Keeps s0 s) :
   Keeps s0 (State.cancelLaunches s t0 t1) := by
  unfold State.cancelLaunches
  repeat' (first | intro _ | with_reducible assumption | exact rfl | dsimp only | with_reducible apply keeps_modCam | with_reducible apply keeps_synCount | with_reducible apply keeps_ite | with_reducible apply keeps_ite2 | with_reducible apply keeps_foldl | split | ((with_reducible apply keeps_mk); (iterate 4 with_reducible exact rfl); first | with_reducible exact rfl | exact rfl))

theorem keeps_stepTime {s0 s : State} (d : Int) (code : Nat) (hk : Keeps s0 s) :
   Keeps s0 (State.stepTime s d code) := by
  unfold State.stepTime
  repeat' (first | intro _ | with_reducible assumption | exact rfl | dsimp only | with_reducible apply keeps_endSlew | with_reducible apply keeps_cancelLaunches | with_reducible apply keeps_cancelForwarded | with_reducible apply keeps_shiftDeadlines | with_reducible apply keeps_modTime | with_reducible apply keeps_setPair | with_reducible apply keeps_setRegN | with_reducible apply keeps_setEvt | with_reducible apply keeps_synCount | with_reducible apply keeps_logEvent | with_reducible apply keeps_traceEv | with_reducible apply keeps_ite | with_reducible apply keeps_ite2 | with_reducible apply keeps_foldl | split | ((with_reducible apply keeps_mk); (iterate 4 with_reducible exact rfl); first | with_reducible exact rfl | exact rfl))

theorem keeps_correct {s0 s : State} (e : Int) (hk : Keeps s0 s) :
   Keeps s0 (State.correct s e) := by
  unfold State.correct
  repeat' (first | intro _ | with_reducible assumption | exact rfl | dsimp only | with_reducible apply keeps_stepTime | with_reducible apply keeps_setRate | with_reducible apply keeps_modTime | with_reducible apply keeps_ite | with_reducible apply keeps_ite2 | with_reducible apply keeps_foldl | split | ((with_reducible apply keeps_mk); (iterate 4 with_reducible exact rfl); first | with_reducible exact rfl | exact rfl))

theorem keeps_advanceState {s0 s : State} (e : Int) (hk : Keeps s0 s) :
   Keeps s0 (State.advanceState s e) := by
  unfold State.advanceState
  repeat' (first | intro _ | with_reducible assumption | exact rfl | dsimp only | with_reducible apply keeps_modTime | with_reducible apply keeps_setTimeState | with_reducible apply keeps_logEvent | with_reducible apply keeps_ite | with_reducible apply keeps_ite2 | with_reducible apply keeps_foldl | split | ((with_reducible apply keeps_mk); (iterate 4 with_reducible exact rfl); first | with_reducible exact rfl | exact rfl))

theorem keeps_measure {s0 s : State} (e : Int) (hk : Keeps s0 s) :
   Keeps s0 (State.measure s e) := by
  unfold State.measure
  repeat' (first | intro _ | with_reducible assumption | exact rfl | dsimp only | with_reducible apply keeps_setRegN | with_reducible apply keeps_correct | with_reducible apply keeps_advanceState | with_reducible apply keeps_ite | with_reducible apply keeps_ite2 | with_reducible apply keeps_foldl | split | ((with_reducible apply keeps_mk); (iterate 4 with_reducible exact rfl); first | with_reducible exact rfl | exact rfl))

theorem keeps_measureFail {s0 s : State} (hk : Keeps s0 s) :
   Keeps s0 (State.measureFail s) := by
  unfold State.measureFail
  repeat' (first | intro _ | with_reducible assumption | exact rfl | dsimp only | with_reducible apply keeps_synCount | with_reducible apply keeps_modTime | with_reducible apply keeps_setTimeState | with_reducible apply keeps_logEvent | with_reducible apply keeps_setRate | with_reducible apply keeps_ite | with_reducible apply keeps_ite2 | with_reducible apply keeps_foldl | split | ((with_reducible apply keeps_mk); (iterate 4 with_reducible exact rfl); first | with_reducible exact rfl | exact rfl))

theorem keeps_setSource {s0 s : State} (v : Nat) (hk : Keeps s0 s) :
   Keeps s0 (State.setSource s v) := by
  unfold State.setSource
  repeat' (first | intro _ | with_reducible assumption | exact rfl | dsimp only | with_reducible apply keeps_endSlew | with_reducible apply keeps_setFld | with_reducible apply keeps_logEvent | with_reducible apply keeps_modTime | with_reducible apply keeps_setRate | with_reducible apply keeps_setTimeState | with_reducible apply keeps_ite | with_reducible apply keeps_ite2 | with_reducible apply keeps_foldl | split | ((with_reducible apply keeps_mk); (iterate 4 with_reducible exact rfl); first | with_reducible exact rfl | exact rfl))

theorem keeps_synCfgWrite {s0 s : State} (v : Nat) (hk : Keeps s0 s) :
   Keeps s0 (State.synCfgWrite s v) := by
  unfold State.synCfgWrite
  repeat' (first | intro _ | with_reducible assumption | exact rfl | dsimp only | with_reducible apply keeps_setFld | with_reducible apply keeps_setSource | with_reducible apply keeps_ite | with_reducible apply keeps_ite2 | with_reducible apply keeps_foldl | split | ((with_reducible apply keeps_mk); (iterate 4 with_reducible exact rfl); first | with_reducible exact rfl | exact rfl))

theorem keeps_syncOutLow {s0 s : State} (i : Nat) (hk : Keeps s0 s) :
   Keeps s0 (State.syncOutLow s i) := by
  unfold State.syncOutLow
  repeat' (first | intro _ | with_reducible assumption | exact rfl | dsimp only | with_reducible apply keeps_modTime | with_reducible apply keeps_emit | with_reducible apply keeps_ite | with_reducible apply keeps_ite2 | with_reducible apply keeps_foldl | split | ((with_reducible apply keeps_mk); (iterate 4 with_reducible exact rfl); first | with_reducible exact rfl | exact rfl))

theorem keeps_hardSet {s0 s : State} (hk : Keeps s0 s) :
   Keeps s0 (State.hardSet s) := by
  unfold State.hardSet
  repeat' (first | intro _ | with_reducible assumption | exact rfl | dsimp only | with_reducible apply keeps_stepTime | with_reducible apply keeps_setFld | with_reducible apply keeps_syncOutLow | with_reducible apply keeps_setEvt | with_reducible apply keeps_ite | with_reducible apply keeps_ite2 | with_reducible apply keeps_foldl | split | ((with_reducible apply keeps_mk); (iterate 4 with_reducible exact rfl); first | with_reducible exact rfl | exact rfl))

theorem keeps_mapCams {s0 s : State} (f : Nat → CamS → CamS) (hk : Keeps s0 s) :
   Keeps s0 (State.mapCams s f) := by
  unfold State.mapCams
  repeat' (first | intro _ | with_reducible assumption | exact rfl | dsimp only | with_reducible apply keeps_map | with_reducible apply keeps_ite | with_reducible apply keeps_ite2 | with_reducible apply keeps_foldl | split | ((with_reducible apply keeps_mk); (iterate 4 with_reducible exact rfl); first | with_reducible exact rfl | exact rfl))

theorem keeps_schedStart {s0 s : State} (g : Nat) (hk : Keeps s0 s) :
   Keeps s0 (State.schedStart s g) := by
  unfold State.schedStart
  repeat' (first | intro _ | with_reducible assumption | exact rfl | dsimp only | with_reducible apply keeps_setFld | with_reducible apply keeps_modTime | with_reducible apply keeps_synCount | with_reducible apply keeps_ite | with_reducible apply keeps_ite2 | with_reducible apply keeps_foldl | split | ((with_reducible apply keeps_mk); (iterate 4 with_reducible exact rfl); first | with_reducible exact rfl | exact rfl))

theorem keeps_schedStop {s0 s : State} (g : Nat) (hk : Keeps s0 s) :
   Keeps s0 (State.schedStop s g) := by
  unfold State.schedStop
  repeat' (first | intro _ | with_reducible assumption | exact rfl | dsimp only | with_reducible apply keeps_setFld | with_reducible apply keeps_mapCams | with_reducible apply keeps_ite | with_reducible apply keeps_ite2 | with_reducible apply keeps_foldl | split | ((with_reducible apply keeps_mk); (iterate 4 with_reducible exact rfl); first | with_reducible exact rfl | exact rfl))

theorem keeps_schedCtlWrite {s0 s : State} (g : Nat) (v : Nat) (hk : Keeps s0 s) :
   Keeps s0 (State.schedCtlWrite s g v) := by
  unfold State.schedCtlWrite
  repeat' (first | intro _ | with_reducible assumption | exact rfl | dsimp only | with_reducible apply keeps_schedStart | with_reducible apply keeps_schedStop | with_reducible apply keeps_ite | with_reducible apply keeps_ite2 | with_reducible apply keeps_foldl | split | ((with_reducible apply keeps_mk); (iterate 4 with_reducible exact rfl); first | with_reducible exact rfl | exact rfl))

theorem keeps_schedTick {s0 s : State} (g : Nat) (hk : Keeps s0 s) :
   Keeps s0 (State.schedTick s g) := by
  unfold State.schedTick
  repeat' (first | intro _ | with_reducible assumption | exact rfl | dsimp only | with_reducible apply keeps_modTime | with_reducible apply keeps_synCount | with_reducible apply keeps_modCam | with_reducible apply keeps_ite | with_reducible apply keeps_ite2 | with_reducible apply keeps_foldl | split | ((with_reducible apply keeps_mk); (iterate 4 with_reducible exact rfl); first | with_reducible exact rfl | exact rfl))

theorem keeps_sendTrigger {s0 s : State} (p : Nat) (mask : Nat) (kind : Nat) (l : Nat) (hk : Keeps s0 s) :
   Keeps s0 (State.sendTrigger s p mask kind l).2 := by
  unfold State.sendTrigger
  repeat' (first | intro _ | with_reducible assumption | exact rfl | dsimp only | with_reducible apply keeps_modPort | with_reducible apply keeps_queueBlock | with_reducible apply keeps_ite | with_reducible apply keeps_ite2 | with_reducible apply keeps_foldl | split | ((with_reducible apply keeps_mk); (iterate 4 with_reducible exact rfl); first | with_reducible exact rfl | exact rfl))

theorem keeps_expectTrig {s0 s : State} (n : Nat) (seq : Nat) (inst : Nat) (hk : Keeps s0 s) :
   Keeps s0 (State.expectTrig s n seq inst) := by
  unfold State.expectTrig
  repeat' (first | intro _ | with_reducible assumption | exact rfl | dsimp only | with_reducible apply keeps_modCam | with_reducible apply keeps_ite | with_reducible apply keeps_ite2 | with_reducible apply keeps_foldl | split | ((with_reducible apply keeps_mk); (iterate 4 with_reducible exact rfl); first | with_reducible exact rfl | exact rfl))

theorem keeps_launchPort {s0 s : State} (p : Nat) (l : Nat) (hk : Keeps s0 s) :
   Keeps s0 (State.launchPort s p l) := by
  unfold State.launchPort
  repeat' (first | intro _ | with_reducible assumption | exact rfl | dsimp only | with_reducible apply keeps_map | with_reducible apply keeps_sendTrigger | with_reducible apply keeps_synCount | with_reducible apply keeps_modCam | with_reducible apply keeps_expectTrig | with_reducible apply keeps_ite | with_reducible apply keeps_ite2 | with_reducible apply keeps_foldl | split | ((with_reducible apply keeps_mk); (iterate 4 with_reducible exact rfl); first | with_reducible exact rfl | exact rfl))

theorem keeps_requestRemote {s0 s : State} (p : Nat) (hk : Keeps s0 s) :
   Keeps s0 (State.requestRemote s p) := by
  unfold State.requestRemote
  repeat' (first | intro _ | with_reducible assumption | exact rfl | dsimp only | with_reducible apply keeps_modCam | with_reducible apply keeps_emit | with_reducible apply keeps_ite | with_reducible apply keeps_ite2 | with_reducible apply keeps_foldl | split | ((with_reducible apply keeps_mk); (iterate 4 with_reducible exact rfl); first | with_reducible exact rfl | exact rfl))

theorem keeps_launchForTarget {s0 s : State} (p : Nat) (l : Nat) (hk : Keeps s0 s) :
   Keeps s0 (State.launchForTarget s p l) := by
  unfold State.launchForTarget
  repeat' (first | intro _ | with_reducible assumption | exact rfl | dsimp only | with_reducible apply keeps_sendTrigger | with_reducible apply keeps_synCount | with_reducible apply keeps_emit | with_reducible apply keeps_ite | with_reducible apply keeps_ite2 | with_reducible apply keeps_foldl | split | ((with_reducible apply keeps_mk); (iterate 4 with_reducible exact rfl); first | with_reducible exact rfl | exact rfl))

theorem keeps_triggerLaunch {s0 s : State} (p : Nat) (l : Nat) (hk : Keeps s0 s) :
   Keeps s0 (State.triggerLaunch s p l) := by
  unfold State.triggerLaunch
  repeat' (first | intro _ | with_reducible assumption | exact rfl | dsimp only | with_reducible apply keeps_requestRemote | with_reducible apply keeps_launchForTarget | with_reducible apply keeps_launchPort | with_reducible apply keeps_ite | with_reducible apply keeps_ite2 | with_reducible apply keeps_foldl | split | ((with_reducible apply keeps_mk); (iterate 4 with_reducible exact rfl); first | with_reducible exact rfl | exact rfl))

theorem keeps_sendAbort {s0 s : State} (n : Nat) (hk : Keeps s0 s) :
   Keeps s0 (State.sendAbort s n) := by
  unfold State.sendAbort
  repeat' (first | intro _ | with_reducible assumption | exact rfl | dsimp only | with_reducible apply keeps_modCam | with_reducible apply keeps_emit | with_reducible apply keeps_sendTrigger | with_reducible apply keeps_ite | with_reducible apply keeps_ite2 | with_reducible apply keeps_foldl | split | ((with_reducible apply keeps_mk); (iterate 4 with_reducible exact rfl); first | with_reducible exact rfl | exact rfl))

theorem keeps_syncOutWrite {s0 s : State} (i : Nat) (v : Nat) (hk : Keeps s0 s) :
   Keeps s0 (State.syncOutWrite s i v) := by
  unfold State.syncOutWrite
  repeat' (first | intro _ | with_reducible assumption | exact rfl | dsimp only | with_reducible apply keeps_setFld | with_reducible apply keeps_modTime | with_reducible apply keeps_syncOutLow | with_reducible apply keeps_ite | with_reducible apply keeps_ite2 | with_reducible apply keeps_foldl | split | ((with_reducible apply keeps_mk); (iterate 4 with_reducible exact rfl); first | with_reducible exact rfl | exact rfl))

theorem keeps_syncOutEdge {s0 s : State} (i : Nat) (hk : Keeps s0 s) :
   Keeps s0 (State.syncOutEdge s i) := by
  unfold State.syncOutEdge
  repeat' (first | intro _ | with_reducible assumption | exact rfl | dsimp only | with_reducible apply keeps_modTime | with_reducible apply keeps_emit | with_reducible apply keeps_ite | with_reducible apply keeps_ite2 | with_reducible apply keeps_foldl | split | ((with_reducible apply keeps_mk); (iterate 4 with_reducible exact rfl); first | with_reducible exact rfl | exact rfl))

theorem keeps_syncOutEnd {s0 s : State} (i : Nat) (hk : Keeps s0 s) :
   Keeps s0 (State.syncOutEnd s i) := by
  unfold State.syncOutEnd
  repeat' (first | intro _ | with_reducible assumption | exact rfl | dsimp only | with_reducible apply keeps_syncOutLow | with_reducible apply keeps_setFld | with_reducible apply keeps_ite | with_reducible apply keeps_ite2 | with_reducible apply keeps_foldl | split | ((with_reducible apply keeps_mk); (iterate 4 with_reducible exact rfl); first | with_reducible exact rfl | exact rfl))

theorem keeps_snapEdge {s0 s : State} (hk : Keeps s0 s) :
   Keeps s0 (State.snapEdge s) := by
  unfold State.snapEdge
  repeat' (first | intro _ | with_reducible assumption | exact rfl | dsimp only | with_reducible apply keeps_modTime | with_reducible apply keeps_setFld | with_reducible apply keeps_ite | with_reducible apply keeps_ite2 | with_reducible apply keeps_foldl | split | ((with_reducible apply keeps_mk); (iterate 4 with_reducible exact rfl); first | with_reducible exact rfl | exact rfl))

theorem keeps_modAdapt {s0 s : State} (n : Nat) (f : AdaptS → AdaptS) (hk : Keeps s0 s) :
   Keeps s0 (State.modAdapt s n f) := by
  unfold State.modAdapt
  repeat' (first | intro _ | with_reducible assumption | exact rfl | dsimp only | with_reducible apply keeps_ite | with_reducible apply keeps_ite2 | with_reducible apply keeps_foldl | split | ((with_reducible apply keeps_mk); (iterate 4 with_reducible exact rfl); first | with_reducible exact rfl | exact rfl))

theorem keeps_dropPairs {s0 s : State} (n : Nat) (hk : Keeps s0 s) :
   Keeps s0 (State.dropPairs s n) := by
  unfold State.dropPairs
  repeat' (first | intro _ | with_reducible assumption | exact rfl | dsimp only | with_reducible apply keeps_modAdapt | with_reducible apply keeps_ite | with_reducible apply keeps_ite2 | with_reducible apply keeps_foldl | split | ((with_reducible apply keeps_mk); (iterate 4 with_reducible exact rfl); first | with_reducible exact rfl | exact rfl))

theorem keeps_snufRun {s0 s : State} (hk : Keeps s0 s) :
   Keeps s0 (State.snufRun s) := by
  unfold State.snufRun
  repeat' (first | intro _ | with_reducible assumption | exact rfl | dsimp only | with_reducible apply keeps_ite | with_reducible apply keeps_ite2 | with_reducible apply keeps_foldl | split | ((with_reducible apply keeps_mk); (iterate 4 with_reducible exact rfl); first | with_reducible exact rfl | exact rfl))

theorem keeps_clearFor {s0 s : State} (l : List ClearS) (hk : Keeps s0 s) :
   Keeps s0 (State.clearFor s l) := by
  unfold State.clearFor
  repeat' (first | intro _ | with_reducible assumption | exact rfl | dsimp only | with_reducible apply keeps_snufRun | with_reducible apply keeps_map | with_reducible apply keeps_ite | with_reducible apply keeps_ite2 | with_reducible apply keeps_foldl | split | ((with_reducible apply keeps_mk); (iterate 4 with_reducible exact rfl); first | with_reducible exact rfl | exact rfl))

theorem keeps_emptyQueue {s0 s : State} (i : Nat) (q : Nat) (hk : Keeps s0 s) :
   Keeps s0 (State.emptyQueue s i q) := by
  unfold State.emptyQueue
  repeat' (first | intro _ | with_reducible assumption | exact rfl | dsimp only | with_reducible apply keeps_map | with_reducible apply keeps_modCore | with_reducible apply keeps_setFld | with_reducible apply keeps_setRegN | with_reducible apply keeps_ite | with_reducible apply keeps_ite2 | with_reducible apply keeps_foldl | split | ((with_reducible apply keeps_mk); (iterate 4 with_reducible exact rfl); first | with_reducible exact rfl | exact rfl))

theorem keeps_wakeOwn {s0 s : State} (i : Nat) (hk : Keeps s0 s) :
   Keeps s0 (State.wakeOwn s i) := by
  unfold State.wakeOwn
  repeat' (first | intro _ | with_reducible assumption | exact rfl | dsimp only | with_reducible apply keeps_wakeIf | with_reducible apply keeps_ite | with_reducible apply keeps_ite2 | with_reducible apply keeps_foldl | split | ((with_reducible apply keeps_mk); (iterate 4 with_reducible exact rfl); first | with_reducible exact rfl | exact rfl))

theorem keeps_emptyStage {s0 s : State} (i : Nat) (hk : Keeps s0 s) :
   Keeps s0 (State.emptyStage s i) := by
  unfold State.emptyStage
  repeat' (first | intro _ | with_reducible assumption | exact rfl | dsimp only | with_reducible apply keeps_emptyQueue | with_reducible apply keeps_settleArrivals | with_reducible apply keeps_wakeOwn | with_reducible apply keeps_wakeIf | with_reducible apply keeps_ite | with_reducible apply keeps_ite2 | with_reducible apply keeps_foldl | split | ((with_reducible apply keeps_mk); (iterate 4 with_reducible exact rfl); first | with_reducible exact rfl | exact rfl))

theorem keeps_abortFrames {s0 s : State} (n : Nat) (hk : Keeps s0 s) :
   Keeps s0 (State.abortFrames s n) := by
  unfold State.abortFrames
  repeat' (first | intro _ | with_reducible assumption | exact rfl | dsimp only | with_reducible apply keeps_finalize | with_reducible apply keeps_withdraw | with_reducible apply keeps_emptyStage | with_reducible apply keeps_ite | with_reducible apply keeps_ite2 | with_reducible apply keeps_foldl | split | ((with_reducible apply keeps_mk); (iterate 4 with_reducible exact rfl); first | with_reducible exact rfl | exact rfl))

theorem keeps_stopStream {s0 s : State} (n : Nat) (abort : Bool) (by_ : Option CmdRef) (reason : Nat) (hk : Keeps s0 s) :
   Keeps s0 (State.stopStream s n abort by_ reason) := by
  unfold State.stopStream
  repeat' (first | intro _ | with_reducible assumption | exact rfl | dsimp only | with_reducible apply keeps_map | with_reducible apply keeps_modCam | with_reducible apply keeps_abortFrames | with_reducible apply keeps_sendAbort | with_reducible apply keeps_setFld | with_reducible apply keeps_traceEv | with_reducible apply keeps_dropPairs | with_reducible apply keeps_withdraw | with_reducible apply keeps_ite | with_reducible apply keeps_ite2 | with_reducible apply keeps_foldl | split | ((with_reducible apply keeps_mk); (iterate 4 with_reducible exact rfl); first | with_reducible exact rfl | exact rfl))

theorem keeps_streamStopped {s0 s : State} (n : Nat) (hk : Keeps s0 s) :
   Keeps s0 (State.streamStopped s n) := by
  unfold State.streamStopped
  repeat' (first | intro _ | with_reducible assumption | exact rfl | dsimp only | with_reducible apply keeps_releaseStream | with_reducible apply keeps_forgetDone | with_reducible apply keeps_reply | with_reducible apply keeps_event | with_reducible apply keeps_ite | with_reducible apply keeps_ite2 | with_reducible apply keeps_foldl | split | ((with_reducible apply keeps_mk); (iterate 4 with_reducible exact rfl); first | with_reducible exact rfl | exact rfl))

end Sys2Proof.Machine
end

