-- ==== Sys2Proof/Laws/KeepsCores.lean ====
section
/-! SUPPORT. What no operation undoes: one lemma for each operation of the Lantern cores, DMA, memory and Retouch. -/
set_option linter.all false
namespace Sys2Proof.Machine

theorem keeps_tookTurn {s0 s : State} (i : Nat) (c : Nat) (hk : Keeps s0 s) :
   Keeps s0 (State.tookTurn s i c) := by
  unfold State.tookTurn
  repeat' (first | intro _ | with_reducible assumption | exact rfl | dsimp only | with_reducible apply keeps_modCore | with_reducible apply keeps_ite | with_reducible apply keeps_ite2 | with_reducible apply keeps_foldl | split | ((with_reducible apply keeps_mk); (iterate 4 with_reducible exact rfl); first | with_reducible exact rfl | exact rfl))

theorem keeps_advance {s0 s : State} (i : Nat) (c : Nat) (hk : Keeps s0 s) :
   Keeps s0 (State.advance s i c) := by
  unfold State.advance
  repeat' (first | intro _ | with_reducible assumption | exact rfl | dsimp only | with_reducible apply keeps_startCtx | with_reducible apply keeps_setCoreState | with_reducible apply keeps_tookTurn | with_reducible apply keeps_setFld | with_reducible apply keeps_ite | with_reducible apply keeps_ite2 | with_reducible apply keeps_foldl | split | ((with_reducible apply keeps_mk); (iterate 4 with_reducible exact rfl); first | with_reducible exact rfl | exact rfl))

theorem keeps_issue {s0 s : State} (i : Nat) (c : Nat) (body : State → Nat → State) (hk : Keeps s0 s) (hbody : ∀ t pc, Keeps s0 t → Keeps s0 (body t pc)) :
   Keeps s0 (State.issue s i c body) := by
  unfold State.issue
  repeat' (first | intro _ | with_reducible assumption | exact rfl | dsimp only | with_reducible apply keeps_advance | exact hbody _ ‹_›| apply hbody | with_reducible apply keeps_ite | with_reducible apply keeps_ite2 | with_reducible apply keeps_foldl | split | ((with_reducible apply keeps_mk); (iterate 4 with_reducible exact rfl); first | with_reducible exact rfl | exact rfl))

theorem keeps_recordFault {s0 s : State} (i : Nat) (c : Nat) (pc : Nat) (engine : Nat) (code : Nat) (hk : Keeps s0 s) :
   Keeps s0 (State.recordFault s i c pc engine code) := by
  unfold State.recordFault
  repeat' (first | intro _ | with_reducible assumption | exact rfl | dsimp only | with_reducible apply keeps_setRegN | with_reducible apply keeps_ite | with_reducible apply keeps_ite2 | with_reducible apply keeps_foldl | split | ((with_reducible apply keeps_mk); (iterate 4 with_reducible exact rfl); first | with_reducible exact rfl | exact rfl))

theorem keeps_ringStart {s0 s : State} (i : Nat) (hk : Keeps s0 s) :
   Keeps s0 (State.ringStart s i) := by
  unfold State.ringStart
  repeat' (first | intro _ | with_reducible assumption | exact rfl | dsimp only | with_reducible apply keeps_modCore | with_reducible apply keeps_map | with_reducible apply keeps_ite | with_reducible apply keeps_ite2 | with_reducible apply keeps_foldl | split | ((with_reducible apply keeps_mk); (iterate 4 with_reducible exact rfl); first | with_reducible exact rfl | exact rfl))

theorem keeps_ringTry {s0 s : State} (hk : Keeps s0 s) :
   Keeps s0 (State.ringTry s) := by
  unfold State.ringTry
  repeat' (first | intro _ | with_reducible assumption | exact rfl | dsimp only | with_reducible apply keeps_ringStart | with_reducible apply keeps_ite | with_reducible apply keeps_ite2 | with_reducible apply keeps_foldl | split | ((with_reducible apply keeps_mk); (iterate 4 with_reducible exact rfl); first | with_reducible exact rfl | exact rfl))

theorem keeps_abandon {s0 s : State} (i : Nat) (p : Nat → Bool) (hk : Keeps s0 s) :
   Keeps s0 (State.abandon s i p) := by
  unfold State.abandon
  repeat' (first | intro _ | with_reducible assumption | exact rfl | dsimp only | with_reducible apply keeps_obsAdd | with_reducible apply keeps_map | with_reducible apply keeps_modCore | with_reducible apply keeps_emptyQueue | with_reducible apply keeps_ringTry | with_reducible apply keeps_ite | with_reducible apply keeps_ite2 | with_reducible apply keeps_foldl | split | ((with_reducible apply keeps_mk); (iterate 4 with_reducible exact rfl); first | with_reducible exact rfl | exact rfl))

theorem keeps_audit {s0 s : State} (n : Nat) (ev : Nat) (first : Nat) (lk : Nat) (lc : Nat) (drift : Nat) (hk : Keeps s0 s) :
   Keeps s0 (State.audit s n ev first lk lc drift) := by
  unfold State.audit
  repeat' (first | intro _ | with_reducible assumption | exact rfl | dsimp only | with_reducible apply keeps_setRegN | with_reducible apply keeps_traceEv | with_reducible apply keeps_ringWrite | with_reducible apply keeps_ite | with_reducible apply keeps_ite2 | with_reducible apply keeps_foldl | split | ((with_reducible apply keeps_mk); (iterate 4 with_reducible exact rfl); first | with_reducible exact rfl | exact rfl))

theorem keeps_pauseAdapt {s0 s : State} (n : Nat) (cause : Nat) (hk : Keeps s0 s) :
   Keeps s0 (State.pauseAdapt s n cause) := by
  unfold State.pauseAdapt
  repeat' (first | intro _ | with_reducible assumption | exact rfl | dsimp only | with_reducible apply keeps_modAdapt | with_reducible apply keeps_setFld | with_reducible apply keeps_bump | with_reducible apply keeps_audit | with_reducible apply keeps_ite | with_reducible apply keeps_ite2 | with_reducible apply keeps_foldl | split | ((with_reducible apply keeps_mk); (iterate 4 with_reducible exact rfl); first | with_reducible exact rfl | exact rfl))

theorem keeps_unpauseAdapt {s0 s : State} (n : Nat) (cause : Nat) (hk : Keeps s0 s) :
   Keeps s0 (State.unpauseAdapt s n cause) := by
  unfold State.unpauseAdapt
  repeat' (first | intro _ | with_reducible assumption | exact rfl | dsimp only | with_reducible apply keeps_modAdapt | with_reducible apply keeps_setFld | with_reducible apply keeps_audit | with_reducible apply keeps_ite | with_reducible apply keeps_ite2 | with_reducible apply keeps_foldl | split | ((with_reducible apply keeps_mk); (iterate 4 with_reducible exact rfl); first | with_reducible exact rfl | exact rfl))

theorem keeps_pauseSix {s0 s : State} (i : Nat) (cause : Nat) (hk : Keeps s0 s) :
   Keeps s0 (State.pauseSix s i cause) := by
  unfold State.pauseSix
  repeat' (first | intro _ | with_reducible assumption | exact rfl | dsimp only | with_reducible apply keeps_pauseAdapt | with_reducible apply keeps_ite | with_reducible apply keeps_ite2 | with_reducible apply keeps_foldl | split | ((with_reducible apply keeps_mk); (iterate 4 with_reducible exact rfl); first | with_reducible exact rfl | exact rfl))

theorem keeps_faultSix {s0 s : State} (i : Nat) (hk : Keeps s0 s) :
   Keeps s0 (State.faultSix s i) := by
  unfold State.faultSix
  repeat' (first | intro _ | with_reducible assumption | exact rfl | dsimp only | with_reducible apply keeps_abandon | with_reducible apply keeps_setCtxState | with_reducible apply keeps_pauseSix | with_reducible apply keeps_ite | with_reducible apply keeps_ite2 | with_reducible apply keeps_foldl | split | ((with_reducible apply keeps_mk); (iterate 4 with_reducible exact rfl); first | with_reducible exact rfl | exact rfl))

theorem keeps_stopCore {s0 s : State} (i : Nat) (hk : Keeps s0 s) :
   Keeps s0 (State.stopCore s i) := by
  unfold State.stopCore
  repeat' (first | intro _ | with_reducible assumption | exact rfl | dsimp only | with_reducible apply keeps_abandon | with_reducible apply keeps_modCore | with_reducible apply keeps_ite | with_reducible apply keeps_ite2 | with_reducible apply keeps_foldl | split | ((with_reducible apply keeps_mk); (iterate 4 with_reducible exact rfl); first | with_reducible exact rfl | exact rfl))

theorem keeps_enterReset {s0 s : State} (i : Nat) (hk : Keeps s0 s) :
   Keeps s0 (State.enterReset s i) := by
  unfold State.enterReset
  repeat' (first | intro _ | with_reducible assumption | exact rfl | dsimp only | with_reducible apply keeps_resetRegs | with_reducible apply keeps_leaveBarriers | with_reducible apply keeps_ite | with_reducible apply keeps_ite2 | with_reducible apply keeps_foldl | split | ((with_reducible apply keeps_mk); (iterate 4 with_reducible exact rfl); first | with_reducible exact rfl | exact rfl))

theorem keeps_haltCore {s0 s : State} (i : Nat) (hk : Keeps s0 s) :
   Keeps s0 (State.haltCore s i) := by
  unfold State.haltCore
  repeat' (first | intro _ | with_reducible assumption | exact rfl | dsimp only | with_reducible apply keeps_stopCore | with_reducible apply keeps_enterReset | with_reducible apply keeps_ite | with_reducible apply keeps_ite2 | with_reducible apply keeps_foldl | split | ((with_reducible apply keeps_mk); (iterate 4 with_reducible exact rfl); first | with_reducible exact rfl | exact rfl))

theorem keeps_countFault {s0 s : State} (i : Nat) (b : BoundS) (hk : Keeps s0 s) :
   Keeps s0 (State.countFault s i b).2 := by
  unfold State.countFault
  repeat' (first | intro _ | with_reducible assumption | exact rfl | dsimp only | with_reducible apply keeps_setCounter | with_reducible apply keeps_map | with_reducible apply keeps_ite | with_reducible apply keeps_ite2 | with_reducible apply keeps_foldl | split | ((with_reducible apply keeps_mk); (iterate 4 with_reducible exact rfl); first | with_reducible exact rfl | exact rfl))

theorem keeps_afterFault {s0 s : State} (i : Nat) (code : Nat) (hk : Keeps s0 s) :
   Keeps s0 (State.afterFault s i code) := by
  unfold State.afterFault
  repeat' (first | intro _ | with_reducible assumption | exact rfl | dsimp only | with_reducible apply keeps_countFault | with_reducible apply keeps_modCore | with_reducible apply keeps_setCounter | with_reducible apply keeps_stopStream | with_reducible apply keeps_ite | with_reducible apply keeps_ite2 | with_reducible apply keeps_foldl | split | ((with_reducible apply keeps_mk); (iterate 4 with_reducible exact rfl); first | with_reducible exact rfl | exact rfl))

theorem keeps_coreFault {s0 s : State} (i : Nat) (c : Nat) (pc : Nat) (engine : Nat) (code : Nat) (hk : Keeps s0 s) :
   Keeps s0 (State.coreFault s i c pc engine code) := by
  unfold State.coreFault
  repeat' (first | intro _ | with_reducible assumption | exact rfl | dsimp only | with_reducible apply keeps_recordFault | with_reducible apply keeps_logEvent | with_reducible apply keeps_faultSix | with_reducible apply keeps_setCtxState | with_reducible apply keeps_setCoreState | with_reducible apply keeps_stopCore | with_reducible apply keeps_afterFault | with_reducible apply keeps_ite | with_reducible apply keeps_ite2 | with_reducible apply keeps_foldl | split | ((with_reducible apply keeps_mk); (iterate 4 with_reducible exact rfl); first | with_reducible exact rfl | exact rfl))

theorem keeps_placeArray {s0 s : State} (i : Nat) (c : Nat) (pc : Nat) (job : ArrayJob) (align : Bool) (body : Nat) (first : Nat) (hk : Keeps s0 s) :
   Keeps s0 (State.placeArray s i c pc job align body first) := by
  unfold State.placeArray
  repeat' (first | intro _ | with_reducible assumption | exact rfl | dsimp only | with_reducible apply keeps_modCore | with_reducible apply keeps_ite | with_reducible apply keeps_ite2 | with_reducible apply keeps_foldl | split | ((with_reducible apply keeps_mk); (iterate 4 with_reducible exact rfl); first | with_reducible exact rfl | exact rfl))

theorem keeps_placeEmpty {s0 s : State} (i : Nat) (c : Nat) (pc : Nat) (r : Nat) (first : Nat) (hk : Keeps s0 s) :
   Keeps s0 (State.placeEmpty s i c pc r first) := by
  unfold State.placeEmpty
  repeat' (first | intro _ | with_reducible assumption | exact rfl | dsimp only | with_reducible apply keeps_modCore | with_reducible apply keeps_ite | with_reducible apply keeps_ite2 | with_reducible apply keeps_foldl | split | ((with_reducible apply keeps_mk); (iterate 4 with_reducible exact rfl); first | with_reducible exact rfl | exact rfl))

theorem keeps_placeVector {s0 s : State} (i : Nat) (c : Nat) (pc : Nat) (job : VectorJob) (body : Nat) (hk : Keeps s0 s) :
   Keeps s0 (State.placeVector s i c pc job body) := by
  unfold State.placeVector
  repeat' (first | intro _ | with_reducible assumption | exact rfl | dsimp only | with_reducible apply keeps_modCore | with_reducible apply keeps_ite | with_reducible apply keeps_ite2 | with_reducible apply keeps_foldl | split | ((with_reducible apply keeps_mk); (iterate 4 with_reducible exact rfl); first | with_reducible exact rfl | exact rfl))

theorem keeps_addCounts {s0 s : State} (i : Nat) (r : Nat) (produced : Nat) (clipped : Nat) (flags : Nat) (hk : Keeps s0 s) :
   Keeps s0 (State.addCounts s i r produced clipped flags) := by
  unfold State.addCounts
  repeat' (first | intro _ | with_reducible assumption | exact rfl | dsimp only | with_reducible apply keeps_modCore | with_reducible apply keeps_ite | with_reducible apply keeps_ite2 | with_reducible apply keeps_foldl | split | ((with_reducible apply keeps_mk); (iterate 4 with_reducible exact rfl); first | with_reducible exact rfl | exact rfl))

theorem keeps_closeCounts {s0 s : State} (i : Nat) (b : BoundS) (hk : Keeps s0 s) :
   Keeps s0 (State.closeCounts s i b) := by
  unfold State.closeCounts
  repeat' (first | intro _ | with_reducible assumption | exact rfl | dsimp only | with_reducible apply keeps_setMark | with_reducible apply keeps_bump | with_reducible apply keeps_modFrame | with_reducible apply keeps_ite | with_reducible apply keeps_ite2 | with_reducible apply keeps_foldl | split | ((with_reducible apply keeps_mk); (iterate 4 with_reducible exact rfl); first | with_reducible exact rfl | exact rfl))

theorem keeps_bindShare {s0 s : State} (i : Nat) (w : Nat) (h : Share) (hk : Keeps s0 s) :
   Keeps s0 (State.bindShare s i w h) := by
  unfold State.bindShare
  repeat' (first | intro _ | with_reducible assumption | exact rfl | dsimp only | with_reducible apply keeps_modCore | with_reducible apply keeps_setRegN | with_reducible apply keeps_startCtx | with_reducible apply keeps_setCoreState | with_reducible apply keeps_ite | with_reducible apply keeps_ite2 | with_reducible apply keeps_foldl | split | ((with_reducible apply keeps_mk); (iterate 4 with_reducible exact rfl); first | with_reducible exact rfl | exact rfl))

theorem keeps_ddrWrite {s0 s : State} (l : Nat) (bad : Bool) (hk : Keeps s0 s) :
   Keeps s0 (State.ddrWrite s l bad) := by
  unfold State.ddrWrite
  repeat' (first | intro _ | with_reducible assumption | exact rfl | dsimp only | with_reducible apply keeps_map | with_reducible apply keeps_emit | with_reducible apply keeps_obsAdd | with_reducible apply keeps_modHold | with_reducible apply keeps_setFld | with_reducible apply keeps_ddrRequest | with_reducible apply keeps_ite | with_reducible apply keeps_ite2 | with_reducible apply keeps_foldl | split | ((with_reducible apply keeps_mk); (iterate 4 with_reducible exact rfl); first | with_reducible exact rfl | exact rfl))

theorem keeps_sweepNext {s0 s : State} (l : Nat) (hk : Keeps s0 s) :
   Keeps s0 (State.sweepNext s l) := by
  unfold State.sweepNext
  repeat' (first | intro _ | with_reducible assumption | exact rfl | dsimp only | with_reducible apply keeps_modHold | with_reducible apply keeps_bump | with_reducible apply keeps_setFld | with_reducible apply keeps_ddrRequest | with_reducible apply keeps_ite | with_reducible apply keeps_ite2 | with_reducible apply keeps_foldl | split | ((with_reducible apply keeps_mk); (iterate 4 with_reducible exact rfl); first | with_reducible exact rfl | exact rfl))

theorem keeps_writeBlock {s0 s : State} (l : Nat) (hk : Keeps s0 s) :
   Keeps s0 (State.writeBlock s l) := by
  unfold State.writeBlock
  repeat' (first | intro _ | with_reducible assumption | exact rfl | dsimp only | with_reducible apply keeps_ddrWrite | with_reducible apply keeps_ite | with_reducible apply keeps_ite2 | with_reducible apply keeps_foldl | split | ((with_reducible apply keeps_mk); (iterate 4 with_reducible exact rfl); first | with_reducible exact rfl | exact rfl))

theorem keeps_ddrServe {s0 s : State} (c : Nat) (timing : List Nat) (hk : Keeps s0 s) :
   Keeps s0 (State.ddrServe s c timing) := by
  unfold State.ddrServe
  repeat' (first | intro _ | with_reducible assumption | exact rfl | dsimp only | with_reducible apply keeps_modHold | with_reducible apply keeps_ddrWrite | with_reducible apply keeps_ite | with_reducible apply keeps_ite2 | with_reducible apply keeps_foldl | split | ((with_reducible apply keeps_mk); (iterate 4 with_reducible exact rfl); first | with_reducible exact rfl | exact rfl))

theorem keeps_poisonBlock {s0 s : State} (r : MemReq) (cause : Nat) (hk : Keeps s0 s) :
   Keeps s0 (State.poisonBlock s r cause) := by
  unfold State.poisonBlock
  repeat' (first | intro _ | with_reducible assumption | exact rfl | dsimp only | with_reducible apply keeps_bump | with_reducible apply keeps_logEvent | with_reducible apply keeps_setPair | with_reducible apply keeps_modHold | with_reducible apply keeps_ite | with_reducible apply keeps_ite2 | with_reducible apply keeps_foldl | split | ((with_reducible apply keeps_mk); (iterate 4 with_reducible exact rfl); first | with_reducible exact rfl | exact rfl))

theorem mergeLine_wf (m : List Host.Cell) (l mask : Nat) (bs : List Byte) (h : Memory.wf m = true) :
    Memory.wf (mergeLine m l mask bs) = true := by
  unfold mergeLine
  generalize (List.range 64).zip bs = es
  induction es generalizing m with
  | nil => exact h
  | cons e es ih =>
    refine ih _ ?_
    dsimp only
    split
    · exact h
    · exact memWrite_wf _ _ _ h

theorem keeps_fill {s0 s : State} (r : MemReq) (bs : List Byte) (hk : Keeps s0 s) : Keeps s0 (s.fill r bs) := by
  unfold State.fill
  split
  · exact hk
  · exact ⟨hk.queue, fun m => mergeLine_wf _ _ _ _ (hk.mem m), hk.sent, hk.free, hk.enrol⟩

theorem keeps_deliverBlock {s0 s : State} (r : MemReq) (v : Nat) (cipher : List Byte) (mac : List Byte) (hk : Keeps s0 s) :
   Keeps s0 (State.deliverBlock s r v cipher mac) := by
  unfold State.deliverBlock
  repeat' (first | intro _ | with_reducible assumption | exact rfl | dsimp only | with_reducible apply keeps_modHold | with_reducible apply keeps_fill | with_reducible apply keeps_map | with_reducible apply keeps_bump | with_reducible apply keeps_poisonBlock | with_reducible apply keeps_ite | with_reducible apply keeps_ite2 | with_reducible apply keeps_foldl | split | ((with_reducible apply keeps_mk); (iterate 4 with_reducible exact rfl); first | with_reducible exact rfl | exact rfl))

theorem keeps_afterRead {s0 s : State} (r : MemReq) (hk : Keeps s0 s) :
   Keeps s0 (State.afterRead s r) := by
  unfold State.afterRead
  repeat' (first | intro _ | with_reducible assumption | exact rfl | dsimp only | with_reducible apply keeps_ddrWrite | with_reducible apply keeps_sweepNext | with_reducible apply keeps_ddrRequest | with_reducible apply keeps_ite | with_reducible apply keeps_ite2 | with_reducible apply keeps_foldl | split | ((with_reducible apply keeps_mk); (iterate 4 with_reducible exact rfl); first | with_reducible exact rfl | exact rfl))

theorem keeps_ddrReturn {s0 s : State} (c : Nat) (cipher : List Byte) (side : List Byte) (hk : Keeps s0 s) :
   Keeps s0 (State.ddrReturn s c cipher side) := by
  unfold State.ddrReturn
  repeat' (first | intro _ | with_reducible assumption | exact rfl | dsimp only | with_reducible apply keeps_modHold | with_reducible apply keeps_obsAdd | with_reducible apply keeps_bump | with_reducible apply keeps_ddrRequest | with_reducible apply keeps_poisonBlock | with_reducible apply keeps_afterRead | with_reducible apply keeps_deliverBlock | with_reducible apply keeps_ite | with_reducible apply keeps_ite2 | with_reducible apply keeps_foldl | split | ((with_reducible apply keeps_mk); (iterate 4 with_reducible exact rfl); first | with_reducible exact rfl | exact rfl))

theorem keeps_refresh {s0 s : State} (c : Nat) (hk : Keeps s0 s) :
   Keeps s0 (State.refresh s c) := by
  unfold State.refresh
  repeat' (first | intro _ | with_reducible assumption | exact rfl | dsimp only | with_reducible apply keeps_modHold | with_reducible apply keeps_emit | with_reducible apply keeps_ite | with_reducible apply keeps_ite2 | with_reducible apply keeps_foldl | split | ((with_reducible apply keeps_mk); (iterate 4 with_reducible exact rfl); first | with_reducible exact rfl | exact rfl))

theorem keeps_countEcc {s0 s : State} (hk : Keeps s0 s) :
   Keeps s0 (State.countEcc s) := by
  unfold State.countEcc
  repeat' (first | intro _ | with_reducible assumption | exact rfl | dsimp only | with_reducible apply keeps_setRegN | with_reducible apply keeps_ite | with_reducible apply keeps_ite2 | with_reducible apply keeps_foldl | split | ((with_reducible apply keeps_mk); (iterate 4 with_reducible exact rfl); first | with_reducible exact rfl | exact rfl))

theorem keeps_holdEcc {s0 s : State} (l : Nat) (err : SramErr) (hk : Keeps s0 s) :
   Keeps s0 (State.holdEcc s l err) := by
  unfold State.holdEcc
  repeat' (first | intro _ | with_reducible assumption | exact rfl | dsimp only | with_reducible apply keeps_countEcc | with_reducible apply keeps_setPair | with_reducible apply keeps_modHold | with_reducible apply keeps_map | with_reducible apply keeps_ite | with_reducible apply keeps_ite2 | with_reducible apply keeps_foldl | split | ((with_reducible apply keeps_mk); (iterate 4 with_reducible exact rfl); first | with_reducible exact rfl | exact rfl))

theorem keeps_controlAccess {s0 s : State} (l : Nat) (err : SramErr) (hk : Keeps s0 s) :
   Keeps s0 (State.controlAccess s l err) := by
  unfold State.controlAccess
  repeat' (first | intro _ | with_reducible assumption | exact rfl | dsimp only | with_reducible apply keeps_obsAdd | with_reducible apply keeps_countEcc | with_reducible apply keeps_modHold | with_reducible apply keeps_ite | with_reducible apply keeps_ite2 | with_reducible apply keeps_foldl | split | ((with_reducible apply keeps_mk); (iterate 4 with_reducible exact rfl); first | with_reducible exact rfl | exact rfl))

theorem keeps_holdRequest {s0 s : State} (w : MemWho) (l : Nat) (acc : MemAcc) (o : HoldFrom) (hk : Keeps s0 s) :
   Keeps s0 (State.holdRequest s w l acc o) := by
  unfold State.holdRequest
  repeat' (first | intro _ | with_reducible assumption | exact rfl | dsimp only | with_reducible apply keeps_controlAccess | with_reducible apply keeps_holdEcc | with_reducible apply keeps_holdAccess | with_reducible apply keeps_ite | with_reducible apply keeps_ite2 | with_reducible apply keeps_foldl | split | ((with_reducible apply keeps_mk); (iterate 4 with_reducible exact rfl); first | with_reducible exact rfl | exact rfl))

theorem keeps_issueTo {s0 s : State} (i : Nat) (c : Nat) (engine : Nat) (free : Bool) (body : State → Nat → State) (hk : Keeps s0 s) (hbody : ∀ t pc, Keeps s0 t → Keeps s0 (body t pc)) :
   Keeps s0 (State.issueTo s i c engine free body) := by
  unfold State.issueTo
  repeat' (first | intro _ | with_reducible assumption | exact rfl | dsimp only | with_reducible apply keeps_issue | with_reducible apply keeps_setWait | exact hbody _ ‹_›| apply hbody | with_reducible apply keeps_ite | with_reducible apply keeps_ite2 | with_reducible apply keeps_foldl | split | ((with_reducible apply keeps_mk); (iterate 4 with_reducible exact rfl); first | with_reducible exact rfl | exact rfl))

theorem keeps_wakeFull {s0 s : State} (i : Nat) (engine : Nat) (hk : Keeps s0 s) :
   Keeps s0 (State.wakeFull s i engine) := by
  unfold State.wakeFull
  repeat' (first | intro _ | with_reducible assumption | exact rfl | dsimp only | with_reducible apply keeps_wakeIf | with_reducible apply keeps_ite | with_reducible apply keeps_ite2 | with_reducible apply keeps_foldl | split | ((with_reducible apply keeps_mk); (iterate 4 with_reducible exact rfl); first | with_reducible exact rfl | exact rfl))

theorem keeps_arrayTile {s0 s : State} (i : Nat) (c : Nat) (o : TileOp) (hk : Keeps s0 s) :
   Keeps s0 (State.arrayTile s i c o) := by
  unfold State.arrayTile
  repeat' (first | intro _ | with_reducible assumption | exact rfl | dsimp only | with_reducible apply keeps_issueTo | with_reducible apply keeps_coreFault | with_reducible apply keeps_placeArray | with_reducible apply keeps_ite | with_reducible apply keeps_ite2 | with_reducible apply keeps_foldl | split | ((with_reducible apply keeps_mk); (iterate 4 with_reducible exact rfl); first | with_reducible exact rfl | exact rfl))

theorem keeps_rescaleLoad {s0 s : State} (i : Nat) (c : Nat) (src : Nat) (e : Nat) (n : Nat) (hk : Keeps s0 s) :
   Keeps s0 (State.rescaleLoad s i c src e n) := by
  unfold State.rescaleLoad
  repeat' (first | intro _ | with_reducible assumption | exact rfl | dsimp only | with_reducible apply keeps_issueTo | with_reducible apply keeps_coreFault | with_reducible apply keeps_placeArray | with_reducible apply keeps_ite | with_reducible apply keeps_ite2 | with_reducible apply keeps_foldl | split | ((with_reducible apply keeps_mk); (iterate 4 with_reducible exact rfl); first | with_reducible exact rfl | exact rfl))

theorem keeps_countAdapt {s0 s : State} (i : Nat) (c : Nat) (cycles : Nat) (hk : Keeps s0 s) :
   Keeps s0 (State.countAdapt s i c cycles) := by
  unfold State.countAdapt
  repeat' (first | intro _ | with_reducible assumption | exact rfl | dsimp only | with_reducible apply keeps_setRegN | with_reducible apply keeps_ite | with_reducible apply keeps_ite2 | with_reducible apply keeps_foldl | split | ((with_reducible apply keeps_mk); (iterate 4 with_reducible exact rfl); first | with_reducible exact rfl | exact rfl))

theorem keeps_countTile {s0 s : State} (i : Nat) (t : Tile) (es : List (Nat × Elem)) (hk : Keeps s0 s) :
   Keeps s0 (State.countTile s i t es) := by
  unfold State.countTile
  repeat' (first | intro _ | with_reducible assumption | exact rfl | dsimp only | with_reducible apply keeps_addCounts | with_reducible apply keeps_modCore | with_reducible apply keeps_ite | with_reducible apply keeps_ite2 | with_reducible apply keeps_foldl | split | ((with_reducible apply keeps_mk); (iterate 4 with_reducible exact rfl); first | with_reducible exact rfl | exact rfl))

theorem keeps_writeOut {s0 s : State} (i : Nat) (c : Nat) (pc : Nat) (num : Nat) (desc : Nat) (slot : Nat) (ij : Nat × Nat) (hk : Keeps s0 s) :
   Keeps s0 (State.writeOut s i c pc num desc slot ij) := by
  unfold State.writeOut
  repeat' (first | intro _ | with_reducible assumption | exact rfl | dsimp only | with_reducible apply keeps_modCore | with_reducible apply keeps_ite | with_reducible apply keeps_ite2 | with_reducible apply keeps_foldl | split | ((with_reducible apply keeps_mk); (iterate 4 with_reducible exact rfl); first | with_reducible exact rfl | exact rfl))

theorem keeps_gridTileDone {s0 s : State} (i : Nat) (c : Nat) (pc : Nat) (t : Tile) (ij : Nat × Nat) (hk : Keeps s0 s) :
   Keeps s0 (State.gridTileDone s i c pc t ij) := by
  unfold State.gridTileDone
  repeat' (first | intro _ | with_reducible assumption | exact rfl | dsimp only | with_reducible apply keeps_writeOut | with_reducible apply keeps_modCtx | with_reducible apply keeps_map | with_reducible apply keeps_ite | with_reducible apply keeps_ite2 | with_reducible apply keeps_foldl | split | ((with_reducible apply keeps_mk); (iterate 4 with_reducible exact rfl); first | with_reducible exact rfl | exact rfl))

theorem keeps_arrayComplete {s0 s : State} (i : Nat) (hk : Keeps s0 s) :
   Keeps s0 (State.arrayComplete s i) := by
  unfold State.arrayComplete
  repeat' (first | intro _ | with_reducible assumption | exact rfl | dsimp only | with_reducible apply keeps_modCore | with_reducible apply keeps_obsAdd | with_reducible apply keeps_countAdapt | with_reducible apply keeps_countTile | with_reducible apply keeps_gridTileDone | with_reducible apply keeps_modCtx | with_reducible apply keeps_settleArrivals | with_reducible apply keeps_wakeOwn | with_reducible apply keeps_wakeFull | with_reducible apply keeps_ite | with_reducible apply keeps_ite2 | with_reducible apply keeps_foldl | split | ((with_reducible apply keeps_mk); (iterate 4 with_reducible exact rfl); first | with_reducible exact rfl | exact rfl))

theorem keeps_fetchTile {s0 s : State} (i : Nat) (c : Nat) (pc : Nat) (num : Nat) (which : Nat) (desc : Nat) (slot : Nat) (idx : Nat) (hk : Keeps s0 s) :
   Keeps s0 (State.fetchTile s i c pc num which desc slot idx) := by
  unfold State.fetchTile
  repeat' (first | intro _ | with_reducible assumption | exact rfl | dsimp only | with_reducible apply keeps_modCore | with_reducible apply keeps_ite | with_reducible apply keeps_ite2 | with_reducible apply keeps_foldl | split | ((with_reducible apply keeps_mk); (iterate 4 with_reducible exact rfl); first | with_reducible exact rfl | exact rfl))

theorem keeps_fetchOperands {s0 s : State} (i : Nat) (c : Nat) (pc : Nat) (num : Nat) (g : Grid) (t : Tile) (ij : Nat × Nat) (newA : Bool) (newB : Bool) (hk : Keeps s0 s) :
   Keeps s0 (State.fetchOperands s i c pc num g t ij newA newB) := by
  unfold State.fetchOperands
  repeat' (first | intro _ | with_reducible assumption | exact rfl | dsimp only | with_reducible apply keeps_fetchTile | with_reducible apply keeps_ite | with_reducible apply keeps_ite2 | with_reducible apply keeps_foldl | split | ((with_reducible apply keeps_mk); (iterate 4 with_reducible exact rfl); first | with_reducible exact rfl | exact rfl))

theorem keeps_gridIssue {s0 s : State} (i : Nat) (c : Nat) (gi : Nat) (p : Nat) (r : Nat) (hk : Keeps s0 s) :
   Keeps s0 (State.gridIssue s i c gi p r) := by
  unfold State.gridIssue
  repeat' (first | intro _ | with_reducible assumption | exact rfl | dsimp only | with_reducible apply keeps_issueTo | with_reducible apply keeps_coreFault | with_reducible apply keeps_placeEmpty | with_reducible apply keeps_modCore | with_reducible apply keeps_modCtx | with_reducible apply keeps_fetchOperands | with_reducible apply keeps_setWait | with_reducible apply keeps_ite | with_reducible apply keeps_ite2 | with_reducible apply keeps_foldl | split | ((with_reducible apply keeps_mk); (iterate 4 with_reducible exact rfl); first | with_reducible exact rfl | exact rfl))

theorem keeps_gridTileIssue {s0 s : State} (i : Nat) (c : Nat) (hk : Keeps s0 s) :
   Keeps s0 (State.gridTileIssue s i c) := by
  unfold State.gridTileIssue
  repeat' (first | intro _ | with_reducible assumption | exact rfl | dsimp only | with_reducible apply keeps_tookTurn | with_reducible apply keeps_coreFault | with_reducible apply keeps_placeArray | with_reducible apply keeps_modCtx | with_reducible apply keeps_map | with_reducible apply keeps_fetchOperands | with_reducible apply keeps_wake | with_reducible apply keeps_ite | with_reducible apply keeps_ite2 | with_reducible apply keeps_foldl | split | ((with_reducible apply keeps_mk); (iterate 4 with_reducible exact rfl); first | with_reducible exact rfl | exact rfl))

theorem keeps_vectorIssue {s0 s : State} (i : Nat) (c : Nat) (f : VFun) (srcs : List VSrc) (dst : VDst) (n : Nat) (rec_ : Option Nat) (hk : Keeps s0 s) :
   Keeps s0 (State.vectorIssue s i c f srcs dst n rec_) := by
  unfold State.vectorIssue
  repeat' (first | intro _ | with_reducible assumption | exact rfl | dsimp only | with_reducible apply keeps_issueTo | with_reducible apply keeps_coreFault | with_reducible apply keeps_placeVector | with_reducible apply keeps_ite | with_reducible apply keeps_ite2 | with_reducible apply keeps_foldl | split | ((with_reducible apply keeps_mk); (iterate 4 with_reducible exact rfl); first | with_reducible exact rfl | exact rfl))

theorem keeps_convertIssue {s0 s : State} (i : Nat) (c : Nat) (src : Nat) (dst : Nat) (ovfInf : Bool) (scale : Nat) (from_ : VSrc) (to_ : VDst) (k : Nat) (rec_ : Nat) (hk : Keeps s0 s) :
   Keeps s0 (State.convertIssue s i c src dst ovfInf scale from_ to_ k rec_) := by
  unfold State.convertIssue
  repeat' (first | intro _ | with_reducible assumption | exact rfl | dsimp only | with_reducible apply keeps_issueTo | with_reducible apply keeps_coreFault | with_reducible apply keeps_placeVector | with_reducible apply keeps_ite | with_reducible apply keeps_ite2 | with_reducible apply keeps_foldl | split | ((with_reducible apply keeps_mk); (iterate 4 with_reducible exact rfl); first | with_reducible exact rfl | exact rfl))

theorem keeps_reduceIssue {s0 s : State} (i : Nat) (c : Nat) (f : VFold) (src : VSrc) (dst : VDst) (n : Nat) (hk : Keeps s0 s) :
   Keeps s0 (State.reduceIssue s i c f src dst n) := by
  unfold State.reduceIssue
  repeat' (first | intro _ | with_reducible assumption | exact rfl | dsimp only | with_reducible apply keeps_issueTo | with_reducible apply keeps_coreFault | with_reducible apply keeps_placeVector | with_reducible apply keeps_ite | with_reducible apply keeps_ite2 | with_reducible apply keeps_foldl | split | ((with_reducible apply keeps_mk); (iterate 4 with_reducible exact rfl); first | with_reducible exact rfl | exact rfl))

theorem keeps_countUnder {s0 s : State} (i : Nat) (rec_ : Option Nat) (fs : List Bool) (hk : Keeps s0 s) :
   Keeps s0 (State.countUnder s i rec_ fs) := by
  unfold State.countUnder
  repeat' (first | intro _ | with_reducible assumption | exact rfl | dsimp only | with_reducible apply keeps_addCounts | with_reducible apply keeps_ite | with_reducible apply keeps_ite2 | with_reducible apply keeps_foldl | split | ((with_reducible apply keeps_mk); (iterate 4 with_reducible exact rfl); first | with_reducible exact rfl | exact rfl))

theorem keeps_vectorComplete {s0 s : State} (i : Nat) (hk : Keeps s0 s) :
   Keeps s0 (State.vectorComplete s i) := by
  unfold State.vectorComplete
  repeat' (first | intro _ | with_reducible assumption | exact rfl | dsimp only | with_reducible apply keeps_modCore | with_reducible apply keeps_obsAdd | with_reducible apply keeps_map | with_reducible apply keeps_countUnder | with_reducible apply keeps_wakeOwn | with_reducible apply keeps_wakeFull | with_reducible apply keeps_ite | with_reducible apply keeps_ite2 | with_reducible apply keeps_foldl | split | ((with_reducible apply keeps_mk); (iterate 4 with_reducible exact rfl); first | with_reducible exact rfl | exact rfl))

theorem keeps_await {s0 s : State} (i : Nat) (q : Nat) (v : Nat) (hk : Keeps s0 s) :
   Keeps s0 (State.await s i q v) := by
  unfold State.await
  repeat' (first | intro _ | with_reducible assumption | exact rfl | dsimp only | with_reducible apply keeps_modCore | with_reducible apply keeps_ite | with_reducible apply keeps_ite2 | with_reducible apply keeps_foldl | split | ((with_reducible apply keeps_mk); (iterate 4 with_reducible exact rfl); first | with_reducible exact rfl | exact rfl))

theorem keeps_controlWait {s0 s : State} (i : Nat) (c : Nat) (w : WaitFor) (hk : Keeps s0 s) :
   Keeps s0 (State.controlWait s i c w) := by
  unfold State.controlWait
  repeat' (first | intro _ | with_reducible assumption | exact rfl | dsimp only | with_reducible apply keeps_issue | with_reducible apply keeps_setWait | with_reducible apply keeps_await | with_reducible apply keeps_ite | with_reducible apply keeps_ite2 | with_reducible apply keeps_foldl | split | ((with_reducible apply keeps_mk); (iterate 4 with_reducible exact rfl); first | with_reducible exact rfl | exact rfl))

theorem keeps_wakeRows {s0 s : State} (i : Nat) (hk : Keeps s0 s) :
   Keeps s0 (State.wakeRows s i) := by
  unfold State.wakeRows
  repeat' (first | intro _ | with_reducible assumption | exact rfl | dsimp only | with_reducible apply keeps_wakeIf | with_reducible apply keeps_ite | with_reducible apply keeps_ite2 | with_reducible apply keeps_foldl | split | ((with_reducible apply keeps_mk); (iterate 4 with_reducible exact rfl); first | with_reducible exact rfl | exact rfl))

theorem keeps_barrierArrive {s0 s : State} (i : Nat) (c : Nat) (b : BarScope) (hk : Keeps s0 s) :
   Keeps s0 (State.barrierArrive s i c b) := by
  unfold State.barrierArrive
  repeat' (first | intro _ | with_reducible assumption | exact rfl | dsimp only | with_reducible apply keeps_issue | with_reducible apply keeps_arriveWhenSeen | with_reducible apply keeps_ite | with_reducible apply keeps_ite2 | with_reducible apply keeps_foldl | split | ((with_reducible apply keeps_mk); (iterate 4 with_reducible exact rfl); first | with_reducible exact rfl | exact rfl))

theorem keeps_barrierWait {s0 s : State} (i : Nat) (c : Nat) (b : BarScope) (phase : Nat) (hk : Keeps s0 s) :
   Keeps s0 (State.barrierWait s i c b phase) := by
  unfold State.barrierWait
  repeat' (first | intro _ | with_reducible assumption | exact rfl | dsimp only | with_reducible apply keeps_issue | with_reducible apply keeps_setWait | with_reducible apply keeps_ite | with_reducible apply keeps_ite2 | with_reducible apply keeps_foldl | split | ((with_reducible apply keeps_mk); (iterate 4 with_reducible exact rfl); first | with_reducible exact rfl | exact rfl))

theorem keeps_barrierTimeout {s0 s : State} (i : Nat) (c : Nat) (hk : Keeps s0 s) :
   Keeps s0 (State.barrierTimeout s i c) := by
  unfold State.barrierTimeout
  repeat' (first | intro _ | with_reducible assumption | exact rfl | dsimp only | with_reducible apply keeps_coreFault | with_reducible apply keeps_ite | with_reducible apply keeps_ite2 | with_reducible apply keeps_foldl | split | ((with_reducible apply keeps_mk); (iterate 4 with_reducible exact rfl); first | with_reducible exact rfl | exact rfl))

theorem keeps_rchk {s0 s : State} (i : Nat) (c : Nat) (r : Nat) (hk : Keeps s0 s) :
   Keeps s0 (State.rchk s i c r) := by
  unfold State.rchk
  repeat' (first | intro _ | with_reducible assumption | exact rfl | dsimp only | with_reducible apply keeps_issue | with_reducible apply keeps_map | with_reducible apply keeps_modCtx | with_reducible apply keeps_setFld | with_reducible apply keeps_addCounts | with_reducible apply keeps_setMark | with_reducible apply keeps_modCore | with_reducible apply keeps_traceEv | with_reducible apply keeps_bump | with_reducible apply keeps_ite | with_reducible apply keeps_ite2 | with_reducible apply keeps_foldl | split | ((with_reducible apply keeps_mk); (iterate 4 with_reducible exact rfl); first | with_reducible exact rfl | exact rfl))

theorem keeps_ringReceivePost {s0 s : State} (i : Nat) (c : Nat) (addr : Nat) (len : Nat) (hk : Keeps s0 s) :
   Keeps s0 (State.ringReceivePost s i c addr len) := by
  unfold State.ringReceivePost
  repeat' (first | intro _ | with_reducible assumption | exact rfl | dsimp only | with_reducible apply keeps_issue | with_reducible apply keeps_coreFault | with_reducible apply keeps_modCore | with_reducible apply keeps_setWait | with_reducible apply keeps_ringTry | with_reducible apply keeps_ite | with_reducible apply keeps_ite2 | with_reducible apply keeps_foldl | split | ((with_reducible apply keeps_mk); (iterate 4 with_reducible exact rfl); first | with_reducible exact rfl | exact rfl))

theorem keeps_ringSend {s0 s : State} (i : Nat) (c : Nat) (addr : Nat) (len : Nat) (mask : Nat) (hk : Keeps s0 s) :
   Keeps s0 (State.ringSend s i c addr len mask) := by
  unfold State.ringSend
  repeat' (first | intro _ | with_reducible assumption | exact rfl | dsimp only | with_reducible apply keeps_issue | with_reducible apply keeps_coreFault | with_reducible apply keeps_modCore | with_reducible apply keeps_setWait | with_reducible apply keeps_ringTry | with_reducible apply keeps_ite | with_reducible apply keeps_ite2 | with_reducible apply keeps_foldl | split | ((with_reducible apply keeps_mk); (iterate 4 with_reducible exact rfl); first | with_reducible exact rfl | exact rfl))

theorem keeps_ringDeliver {s0 s : State} (j : Nat) (bs : List Byte) (hk : Keeps s0 s) :
   Keeps s0 (State.ringDeliver s j bs) := by
  unfold State.ringDeliver
  repeat' (first | intro _ | with_reducible assumption | exact rfl | dsimp only | with_reducible apply keeps_modCore | with_reducible apply keeps_wake | with_reducible apply keeps_ite | with_reducible apply keeps_ite2 | with_reducible apply keeps_foldl | split | ((with_reducible apply keeps_mk); (iterate 4 with_reducible exact rfl); first | with_reducible exact rfl | exact rfl))

theorem keeps_ringComplete {s0 s : State} (i : Nat) (hk : Keeps s0 s) :
   Keeps s0 (State.ringComplete s i) := by
  unfold State.ringComplete
  repeat' (first | intro _ | with_reducible assumption | exact rfl | dsimp only | with_reducible apply keeps_modCore | with_reducible apply keeps_ringDeliver | with_reducible apply keeps_wake | with_reducible apply keeps_ringTry | with_reducible apply keeps_ite | with_reducible apply keeps_ite2 | with_reducible apply keeps_foldl | split | ((with_reducible apply keeps_mk); (iterate 4 with_reducible exact rfl); first | with_reducible exact rfl | exact rfl))

theorem keeps_ringTimeout {s0 s : State} (i : Nat) (c : Nat) (hk : Keeps s0 s) :
   Keeps s0 (State.ringTimeout s i c) := by
  unfold State.ringTimeout
  repeat' (first | intro _ | with_reducible assumption | exact rfl | dsimp only | with_reducible apply keeps_coreFault | with_reducible apply keeps_ite | with_reducible apply keeps_ite2 | with_reducible apply keeps_foldl | split | ((with_reducible apply keeps_mk); (iterate 4 with_reducible exact rfl); first | with_reducible exact rfl | exact rfl))

theorem keeps_wakeCounter {s0 s : State} (g : Nat) (w : Nat) (hk : Keeps s0 s) :
   Keeps s0 (State.wakeCounter s g w) := by
  unfold State.wakeCounter
  repeat' (first | intro _ | with_reducible assumption | exact rfl | dsimp only | with_reducible apply keeps_wakeIf | with_reducible apply keeps_ite | with_reducible apply keeps_ite2 | with_reducible apply keeps_foldl | split | ((with_reducible apply keeps_mk); (iterate 4 with_reducible exact rfl); first | with_reducible exact rfl | exact rfl))

theorem keeps_workShareQueue {s0 s : State} (g : Nat) (w : Nat) (n : Nat) (q : Nat) (k : Nat) (hk : Keeps s0 s) :
   Keeps s0 (State.workShareQueue s g w n q k) := by
  unfold State.workShareQueue
  repeat' (first | intro _ | with_reducible assumption | exact rfl | dsimp only | with_reducible apply keeps_queueShare | with_reducible apply keeps_wakeCounter | with_reducible apply keeps_ite | with_reducible apply keeps_ite2 | with_reducible apply keeps_foldl | split | ((with_reducible apply keeps_mk); (iterate 4 with_reducible exact rfl); first | with_reducible exact rfl | exact rfl))

theorem keeps_stripeLaunch {s0 s : State} (g : Nat) (w : Nat) (n : Nat) (q : Nat) (k : Nat) (l : Nat) (hk : Keeps s0 s) :
   Keeps s0 (State.stripeLaunch s g w n q k l) := by
  unfold State.stripeLaunch
  repeat' (first | intro _ | with_reducible assumption | exact rfl | dsimp only | with_reducible apply keeps_workShareQueue | with_reducible apply keeps_ite | with_reducible apply keeps_ite2 | with_reducible apply keeps_foldl | split | ((with_reducible apply keeps_mk); (iterate 4 with_reducible exact rfl); first | with_reducible exact rfl | exact rfl))

theorem keeps_leaseExpiry {s0 s : State} (g : Nat) (w : Nat) (idx : Nat) (hk : Keeps s0 s) :
   Keeps s0 (State.leaseExpiry s g w idx) := by
  unfold State.leaseExpiry
  repeat' (first | intro _ | with_reducible assumption | exact rfl | dsimp only | with_reducible apply keeps_expireLease | with_reducible apply keeps_wakeCounter | with_reducible apply keeps_ite | with_reducible apply keeps_ite2 | with_reducible apply keeps_foldl | split | ((with_reducible apply keeps_mk); (iterate 4 with_reducible exact rfl); first | with_reducible exact rfl | exact rfl))

theorem keeps_temporalBind {s0 s : State} (i : Nat) (n : Nat) (q : Nat) (k : Nat) (hk : Keeps s0 s) :
   Keeps s0 (State.temporalBind s i n q k) := by
  unfold State.temporalBind
  repeat' (first | intro _ | with_reducible assumption | exact rfl | dsimp only | with_reducible apply keeps_modCore | with_reducible apply keeps_map | with_reducible apply keeps_modFrame | with_reducible apply keeps_camCount | with_reducible apply keeps_ite | with_reducible apply keeps_ite2 | with_reducible apply keeps_foldl | split | ((with_reducible apply keeps_mk); (iterate 4 with_reducible exact rfl); first | with_reducible exact rfl | exact rfl))

theorem keeps_ppbPoison {s0 s : State} (n : Nat) (q : Nat) (hk : Keeps s0 s) :
   Keeps s0 (State.ppbPoison s n q) := by
  unfold State.ppbPoison
  repeat' (first | intro _ | with_reducible assumption | exact rfl | dsimp only | with_reducible apply keeps_setMark | with_reducible apply keeps_ite | with_reducible apply keeps_ite2 | with_reducible apply keeps_foldl | split | ((with_reducible apply keeps_mk); (iterate 4 with_reducible exact rfl); first | with_reducible exact rfl | exact rfl))

theorem keeps_negPoison {s0 s : State} (n : Nat) (q : Nat) (k : Nat) (hk : Keeps s0 s) :
   Keeps s0 (State.negPoison s n q k) := by
  unfold State.negPoison
  repeat' (first | intro _ | with_reducible assumption | exact rfl | dsimp only | with_reducible apply keeps_setMark | with_reducible apply keeps_ite | with_reducible apply keeps_ite2 | with_reducible apply keeps_foldl | split | ((with_reducible apply keeps_mk); (iterate 4 with_reducible exact rfl); first | with_reducible exact rfl | exact rfl))

theorem keeps_deliverPlane {s0 s : State} (i : Nat) (at_ : Nat) (p : List (List Nat)) (hk : Keeps s0 s) :
   Keeps s0 (State.deliverPlane s i at_ p) := by
  unfold State.deliverPlane
  repeat' (first | intro _ | with_reducible assumption | exact rfl | dsimp only | with_reducible apply keeps_modCore | with_reducible apply keeps_ite | with_reducible apply keeps_ite2 | with_reducible apply keeps_foldl | split | ((with_reducible apply keeps_mk); (iterate 4 with_reducible exact rfl); first | with_reducible exact rfl | exact rfl))

theorem keeps_startShare {s0 s : State} (i : Nat) (w : Nat) (h : Share) (hk : Keeps s0 s) :
   Keeps s0 (State.startShare s i w h) := by
  unfold State.startShare
  repeat' (first | intro _ | with_reducible assumption | exact rfl | dsimp only | with_reducible apply keeps_bindShare | with_reducible apply keeps_setFld | with_reducible apply keeps_temporalBind | with_reducible apply keeps_deliverPlane | with_reducible apply keeps_ppbPoison | with_reducible apply keeps_negPoison | with_reducible apply keeps_ite | with_reducible apply keeps_ite2 | with_reducible apply keeps_foldl | split | ((with_reducible apply keeps_mk); (iterate 4 with_reducible exact rfl); first | with_reducible exact rfl | exact rfl))

theorem keeps_wcDraw {s0 s : State} (i : Nat) (c : Nat) (w : Nat) (hk : Keeps s0 s) :
   Keeps s0 (State.wcDraw s i c w) := by
  unfold State.wcDraw
  repeat' (first | intro _ | with_reducible assumption | exact rfl | dsimp only | with_reducible apply keeps_issue | with_reducible apply keeps_takeShare | with_reducible apply keeps_startShare | with_reducible apply keeps_setFld | with_reducible apply keeps_setWait | with_reducible apply keeps_ite | with_reducible apply keeps_ite2 | with_reducible apply keeps_foldl | split | ((with_reducible apply keeps_mk); (iterate 4 with_reducible exact rfl); first | with_reducible exact rfl | exact rfl))

theorem keeps_keepOverlap {s0 s : State} (n : Nat) (q : Nat) (k : Nat) (hk : Keeps s0 s) :
   Keeps s0 (State.keepOverlap s n q k) := by
  unfold State.keepOverlap
  repeat' (first | intro _ | with_reducible assumption | exact rfl | dsimp only | with_reducible apply keeps_map | with_reducible apply keeps_modCam | with_reducible apply keeps_ite | with_reducible apply keeps_ite2 | with_reducible apply keeps_foldl | split | ((with_reducible apply keeps_mk); (iterate 4 with_reducible exact rfl); first | with_reducible exact rfl | exact rfl))

theorem keeps_firstStageDone {s0 s : State} (i : Nat) (n : Nat) (q : Nat) (k : Nat) (hk : Keeps s0 s) :
   Keeps s0 (State.firstStageDone s i n q k) := by
  unfold State.firstStageDone
  repeat' (first | intro _ | with_reducible assumption | exact rfl | dsimp only | with_reducible apply keeps_modFrame | with_reducible apply keeps_modGroup | with_reducible apply keeps_keepOverlap | with_reducible apply keeps_ite | with_reducible apply keeps_ite2 | with_reducible apply keeps_foldl | split | ((with_reducible apply keeps_mk); (iterate 4 with_reducible exact rfl); first | with_reducible exact rfl | exact rfl))

theorem keeps_handOn {s0 s : State} (i : Nat) (c : CounterS) (n : Nat) (q : Nat) (k : Nat) (hk : Keeps s0 s) :
   Keeps s0 (State.handOn s i c n q k) := by
  unfold State.handOn
  repeat' (first | intro _ | with_reducible assumption | exact rfl | dsimp only | with_reducible apply keeps_modFrame | with_reducible apply keeps_ite | with_reducible apply keeps_ite2 | with_reducible apply keeps_foldl | split | ((with_reducible apply keeps_mk); (iterate 4 with_reducible exact rfl); first | with_reducible exact rfl | exact rfl))

theorem keeps_stageCommitted {s0 s : State} (i : Nat) (w : Nat) (c : CounterS) (h : Share) (hk : Keeps s0 s) :
   Keeps s0 (State.stageCommitted s i w c h) := by
  unfold State.stageCommitted
  repeat' (first | intro _ | with_reducible assumption | exact rfl | dsimp only | with_reducible apply keeps_modAdapt | with_reducible apply keeps_firstStageDone | with_reducible apply keeps_modFrame | with_reducible apply keeps_handOn | with_reducible apply keeps_ite | with_reducible apply keeps_ite2 | with_reducible apply keeps_foldl | split | ((with_reducible apply keeps_mk); (iterate 4 with_reducible exact rfl); first | with_reducible exact rfl | exact rfl))

theorem keeps_commitShare {s0 s : State} (i : Nat) (c : Nat) (w : Nat) (idx : Nat) (gen : Nat) (hk : Keeps s0 s) :
   Keeps s0 (State.commitShare s i c w idx gen) := by
  unfold State.commitShare
  repeat' (first | intro _ | with_reducible assumption | exact rfl | dsimp only | with_reducible apply keeps_setCounter | with_reducible apply keeps_modCore | with_reducible apply keeps_map | with_reducible apply keeps_stageCommitted | with_reducible apply keeps_traceEv | with_reducible apply keeps_arriveWhenSeen | with_reducible apply keeps_bump | with_reducible apply keeps_ite | with_reducible apply keeps_ite2 | with_reducible apply keeps_foldl | split | ((with_reducible apply keeps_mk); (iterate 4 with_reducible exact rfl); first | with_reducible exact rfl | exact rfl))

theorem keeps_wcCommit {s0 s : State} (i : Nat) (t : CommitOp) (hk : Keeps s0 s) :
   Keeps s0 (State.wcCommit s i t) := by
  unfold State.wcCommit
  repeat' (first | intro _ | with_reducible assumption | exact rfl | dsimp only | with_reducible apply keeps_issue | with_reducible apply keeps_commitShare | with_reducible apply keeps_ite | with_reducible apply keeps_ite2 | with_reducible apply keeps_foldl | split | ((with_reducible apply keeps_mk); (iterate 4 with_reducible exact rfl); first | with_reducible exact rfl | exact rfl))

theorem keeps_leaveStripe {s0 s : State} (i : Nat) (b : BoundS) (hk : Keeps s0 s) :
   Keeps s0 (State.leaveStripe s i b) := by
  unfold State.leaveStripe
  repeat' (first | intro _ | with_reducible assumption | exact rfl | dsimp only | with_reducible apply keeps_closeCounts | with_reducible apply keeps_modCore | with_reducible apply keeps_idleCtx | with_reducible apply keeps_setCoreState | with_reducible apply keeps_ite | with_reducible apply keeps_ite2 | with_reducible apply keeps_foldl | split | ((with_reducible apply keeps_mk); (iterate 4 with_reducible exact rfl); first | with_reducible exact rfl | exact rfl))

theorem keeps_changeUser {s0 s : State} (i : Nat) (u : UserS) (hk : Keeps s0 s) :
   Keeps s0 (State.changeUser s i u).2 := by
  unfold State.changeUser
  repeat' (first | intro _ | with_reducible assumption | exact rfl | dsimp only | with_reducible apply keeps_modCore | with_reducible apply keeps_ite | with_reducible apply keeps_ite2 | with_reducible apply keeps_foldl | split | ((with_reducible apply keeps_mk); (iterate 4 with_reducible exact rfl); first | with_reducible exact rfl | exact rfl))

theorem keeps_takeStripe {s0 s : State} (i : Nat) (hk : Keeps s0 s) :
   Keeps s0 (State.takeStripe s i) := by
  unfold State.takeStripe
  repeat' (first | intro _ | with_reducible assumption | exact rfl | dsimp only | with_reducible apply keeps_changeUser | with_reducible apply keeps_takeShare | with_reducible apply keeps_startShare | with_reducible apply keeps_ite | with_reducible apply keeps_ite2 | with_reducible apply keeps_foldl | split | ((with_reducible apply keeps_mk); (iterate 4 with_reducible exact rfl); first | with_reducible exact rfl | exact rfl))

theorem keeps_stripeBoundary {s0 s : State} (i : Nat) (hk : Keeps s0 s) :
   Keeps s0 (State.stripeBoundary s i) := by
  unfold State.stripeBoundary
  repeat' (first | intro _ | with_reducible assumption | exact rfl | dsimp only | with_reducible apply keeps_takeStripe | with_reducible apply keeps_leaveStripe | with_reducible apply keeps_ite | with_reducible apply keeps_ite2 | with_reducible apply keeps_foldl | split | ((with_reducible apply keeps_mk); (iterate 4 with_reducible exact rfl); first | with_reducible exact rfl | exact rfl))

theorem keeps_printStripe {s0 s : State} (n : Nat) (q : Nat) (k : Nat) (i : Nat) (hk : Keeps s0 s) :
   Keeps s0 (State.printStripe s n q k i) := by
  unfold State.printStripe
  repeat' (first | intro _ | with_reducible assumption | exact rfl | dsimp only | with_reducible apply keeps_map | with_reducible apply keeps_ppbPoison | with_reducible apply keeps_modFrame | with_reducible apply keeps_finishFrame | with_reducible apply keeps_ite | with_reducible apply keeps_ite2 | with_reducible apply keeps_foldl | split | ((with_reducible apply keeps_mk); (iterate 4 with_reducible exact rfl); first | with_reducible exact rfl | exact rfl))

theorem keeps_spadEcc {s0 s : State} (i : Nat) (c : Nat) (pc : Nat) (uncorrectable : Bool) (hk : Keeps s0 s) :
   Keeps s0 (State.spadEcc s i c pc uncorrectable) := by
  unfold State.spadEcc
  repeat' (first | intro _ | with_reducible assumption | exact rfl | dsimp only | with_reducible apply keeps_coreFault | with_reducible apply keeps_setRegN | with_reducible apply keeps_ite | with_reducible apply keeps_ite2 | with_reducible apply keeps_foldl | split | ((with_reducible apply keeps_mk); (iterate 4 with_reducible exact rfl); first | with_reducible exact rfl | exact rfl))

theorem keeps_loadProg {s0 s : State} (i : Nat) (p : CoreProg) (hk : Keeps s0 s) :
   Keeps s0 (State.loadProg s i p) := by
  unfold State.loadProg
  repeat' (first | intro _ | with_reducible assumption | exact rfl | dsimp only | with_reducible apply keeps_setCore | with_reducible apply keeps_setFld | with_reducible apply keeps_setReg | with_reducible apply keeps_ite | with_reducible apply keeps_ite2 | with_reducible apply keeps_foldl | split | ((with_reducible apply keeps_mk); (iterate 4 with_reducible exact rfl); first | with_reducible exact rfl | exact rfl))

theorem keeps_reloadCore {s0 s : State} (i : Nat) (hk : Keeps s0 s) :
   Keeps s0 (State.reloadCore s i) := by
  unfold State.reloadCore
  repeat' (first | intro _ | with_reducible assumption | exact rfl | dsimp only | with_reducible apply keeps_loadProg | with_reducible apply keeps_ite | with_reducible apply keeps_ite2 | with_reducible apply keeps_foldl | split | ((with_reducible apply keeps_mk); (iterate 4 with_reducible exact rfl); first | with_reducible exact rfl | exact rfl))

theorem keeps_clearCore {s0 s : State} (i : Nat) (hk : Keeps s0 s) :
   Keeps s0 (State.clearCore s i) := by
  unfold State.clearCore
  repeat' (first | intro _ | with_reducible assumption | exact rfl | dsimp only | with_reducible apply keeps_setCore | with_reducible apply keeps_resetRegs | with_reducible apply keeps_reloadCore | with_reducible apply keeps_setCoreState | with_reducible apply keeps_joinBarriers | with_reducible apply keeps_ite | with_reducible apply keeps_ite2 | with_reducible apply keeps_foldl | split | ((with_reducible apply keeps_mk); (iterate 4 with_reducible exact rfl); first | with_reducible exact rfl | exact rfl))

theorem keeps_beginClear {s0 s : State} (i : Nat) (hk : Keeps s0 s) :
   Keeps s0 (State.beginClear s i) := by
  unfold State.beginClear
  repeat' (first | intro _ | with_reducible assumption | exact rfl | dsimp only | with_reducible apply keeps_setCoreState | with_reducible apply keeps_modCore | with_reducible apply keeps_ite | with_reducible apply keeps_ite2 | with_reducible apply keeps_foldl | split | ((with_reducible apply keeps_mk); (iterate 4 with_reducible exact rfl); first | with_reducible exact rfl | exact rfl))

theorem keeps_configStage {s0 s : State} (g : Nat) (w : Nat) (d : StageDecl) (hk : Keeps s0 s) :
   Keeps s0 (State.configStage s g w d) := by
  unfold State.configStage
  repeat' (first | intro _ | with_reducible assumption | exact rfl | dsimp only | with_reducible apply keeps_setFld | with_reducible apply keeps_ite | with_reducible apply keeps_ite2 | with_reducible apply keeps_foldl | split | ((with_reducible apply keeps_mk); (iterate 4 with_reducible exact rfl); first | with_reducible exact rfl | exact rfl))

theorem keeps_configBarrier {s0 s : State} (g : Nat) (d : StageDecl) (hk : Keeps s0 s) :
   Keeps s0 (State.configBarrier s g d) := by
  unfold State.configBarrier
  repeat' (first | intro _ | with_reducible assumption | exact rfl | dsimp only | with_reducible apply keeps_modGroup | with_reducible apply keeps_ite | with_reducible apply keeps_ite2 | with_reducible apply keeps_foldl | split | ((with_reducible apply keeps_mk); (iterate 4 with_reducible exact rfl); first | with_reducible exact rfl | exact rfl))

theorem keeps_configCounters {s0 s : State} (g : Nat) (hk : Keeps s0 s) :
   Keeps s0 (State.configCounters s g) := by
  unfold State.configCounters
  repeat' (first | intro _ | with_reducible assumption | exact rfl | dsimp only | with_reducible apply keeps_configStage | with_reducible apply keeps_configBarrier | with_reducible apply keeps_ite | with_reducible apply keeps_ite2 | with_reducible apply keeps_foldl | split | ((with_reducible apply keeps_mk); (iterate 4 with_reducible exact rfl); first | with_reducible exact rfl | exact rfl))

theorem keeps_groupRestored {s0 s : State} (g : Nat) (hk : Keeps s0 s) :
   Keeps s0 (State.groupRestored s g) := by
  unfold State.groupRestored
  repeat' (first | intro _ | with_reducible assumption | exact rfl | dsimp only | with_reducible apply keeps_configCounters | with_reducible apply keeps_modGroup | with_reducible apply keeps_reply | with_reducible apply keeps_ite | with_reducible apply keeps_ite2 | with_reducible apply keeps_foldl | split | ((with_reducible apply keeps_mk); (iterate 4 with_reducible exact rfl); first | with_reducible exact rfl | exact rfl))

theorem keeps_resumeShare {s0 s : State} (i : Nat) (hk : Keeps s0 s) :
   Keeps s0 (State.resumeShare s i) := by
  unfold State.resumeShare
  repeat' (first | intro _ | with_reducible assumption | exact rfl | dsimp only | with_reducible apply keeps_modCore | with_reducible apply keeps_startShare | with_reducible apply keeps_ite | with_reducible apply keeps_ite2 | with_reducible apply keeps_foldl | split | ((with_reducible apply keeps_mk); (iterate 4 with_reducible exact rfl); first | with_reducible exact rfl | exact rfl))

theorem keeps_backIdle {s0 s : State} (i : Nat) (hk : Keeps s0 s) :
   Keeps s0 (State.backIdle s i) := by
  unfold State.backIdle
  repeat' (first | intro _ | with_reducible assumption | exact rfl | dsimp only | with_reducible apply keeps_clearCore | with_reducible apply keeps_resumeShare | with_reducible apply keeps_modCore | with_reducible apply keeps_reply | with_reducible apply keeps_groupRestored | with_reducible apply keeps_ite | with_reducible apply keeps_ite2 | with_reducible apply keeps_foldl | split | ((with_reducible apply keeps_mk); (iterate 4 with_reducible exact rfl); first | with_reducible exact rfl | exact rfl))

theorem keeps_coreRestored {s0 s : State} (i : Nat) (hk : Keeps s0 s) :
   Keeps s0 (State.coreRestored s i) := by
  unfold State.coreRestored
  repeat' (first | intro _ | with_reducible assumption | exact rfl | dsimp only | with_reducible apply keeps_enterReset | with_reducible apply keeps_beginClear | with_reducible apply keeps_backIdle | with_reducible apply keeps_ite | with_reducible apply keeps_ite2 | with_reducible apply keeps_foldl | split | ((with_reducible apply keeps_mk); (iterate 4 with_reducible exact rfl); first | with_reducible exact rfl | exact rfl))

theorem keeps_dmaInstruction {s0 s : State} (i : Nat) (c : Nat) (o : DmaOp) (hk : Keeps s0 s) :
   Keeps s0 (State.dmaInstruction s i c o) := by
  unfold State.dmaInstruction
  repeat' (first | intro _ | with_reducible assumption | exact rfl | dsimp only | with_reducible apply keeps_issueTo | with_reducible apply keeps_map | with_reducible apply keeps_coreFault | with_reducible apply keeps_modCore | with_reducible apply keeps_ite | with_reducible apply keeps_ite2 | with_reducible apply keeps_foldl | split | ((with_reducible apply keeps_mk); (iterate 4 with_reducible exact rfl); first | with_reducible exact rfl | exact rfl))

theorem keeps_setDmaQ {s0 s : State} (i : Nat) (q : Nat) (l : List Xfer) (hk : Keeps s0 s) :
   Keeps s0 (State.setDmaQ s i q l) := by
  unfold State.setDmaQ
  repeat' (first | intro _ | with_reducible assumption | exact rfl | dsimp only | with_reducible apply keeps_modCore | with_reducible apply keeps_setFld | with_reducible apply keeps_ite | with_reducible apply keeps_ite2 | with_reducible apply keeps_foldl | split | ((with_reducible apply keeps_mk); (iterate 4 with_reducible exact rfl); first | with_reducible exact rfl | exact rfl))

theorem keeps_modXfer {s0 s : State} (i : Nat) (q : Nat) (k : Nat) (f : Xfer → Xfer) (hk : Keeps s0 s) :
   Keeps s0 (State.modXfer s i q k f) := by
  unfold State.modXfer
  repeat' (first | intro _ | with_reducible assumption | exact rfl | dsimp only | with_reducible apply keeps_setDmaQ | with_reducible apply keeps_ite | with_reducible apply keeps_ite2 | with_reducible apply keeps_foldl | split | ((with_reducible apply keeps_mk); (iterate 4 with_reducible exact rfl); first | with_reducible exact rfl | exact rfl))

theorem keeps_markFor {s0 s : State} (x : Xfer) (k : Nat) (hk : Keeps s0 s) :
   Keeps s0 (State.markFor s x k) := by
  unfold State.markFor
  repeat' (first | intro _ | with_reducible assumption | exact rfl | dsimp only | with_reducible apply keeps_setMark | with_reducible apply keeps_ite | with_reducible apply keeps_ite2 | with_reducible apply keeps_foldl | split | ((with_reducible apply keeps_mk); (iterate 4 with_reducible exact rfl); first | with_reducible exact rfl | exact rfl))

theorem keeps_poisonSix {s0 s : State} (i : Nat) (q : Nat) (hk : Keeps s0 s) :
   Keeps s0 (State.poisonSix s i q) := by
  unfold State.poisonSix
  repeat' (first | intro _ | with_reducible assumption | exact rfl | dsimp only | with_reducible apply keeps_pauseSix | with_reducible apply keeps_ite | with_reducible apply keeps_ite2 | with_reducible apply keeps_foldl | split | ((with_reducible apply keeps_mk); (iterate 4 with_reducible exact rfl); first | with_reducible exact rfl | exact rfl))

theorem keeps_regulatorWrite {s0 s : State} (i : Nat) (v : Nat) (hk : Keeps s0 s) :
   Keeps s0 (State.regulatorWrite s i v) := by
  unfold State.regulatorWrite
  repeat' (first | intro _ | with_reducible assumption | exact rfl | dsimp only | with_reducible apply keeps_setFld | with_reducible apply keeps_modCore | with_reducible apply keeps_ite | with_reducible apply keeps_ite2 | with_reducible apply keeps_foldl | split | ((with_reducible apply keeps_mk); (iterate 4 with_reducible exact rfl); first | with_reducible exact rfl | exact rfl))

theorem keeps_countBytes {s0 s : State} (i : Nat) (x : Xfer) (hk : Keeps s0 s) :
   Keeps s0 (State.countBytes s i x) := by
  unfold State.countBytes
  repeat' (first | intro _ | with_reducible assumption | exact rfl | dsimp only | with_reducible apply keeps_obsAdd | with_reducible apply keeps_ite | with_reducible apply keeps_ite2 | with_reducible apply keeps_foldl | split | ((with_reducible apply keeps_mk); (iterate 4 with_reducible exact rfl); first | with_reducible exact rfl | exact rfl))

theorem keeps_dmaFault {s0 s : State} (i : Nat) (q : Nat) (k : Nat) (f : Nat) (x : Xfer) (w : Nat × Nat × Nat) (hk : Keeps s0 s) :
   Keeps s0 (State.dmaFault s i q k f x w) := by
  unfold State.dmaFault
  repeat' (first | intro _ | with_reducible assumption | exact rfl | dsimp only | with_reducible apply keeps_setRegN | with_reducible apply keeps_setPair | with_reducible apply keeps_setFld | with_reducible apply keeps_bump | with_reducible apply keeps_modXfer | with_reducible apply keeps_ite | with_reducible apply keeps_ite2 | with_reducible apply keeps_foldl | split | ((with_reducible apply keeps_mk); (iterate 4 with_reducible exact rfl); first | with_reducible exact rfl | exact rfl))

theorem keeps_countStale {s0 s : State} (i : Nat) (x : Xfer) (hk : Keeps s0 s) :
   Keeps s0 (State.countStale s i x) := by
  unfold State.countStale
  repeat' (first | intro _ | with_reducible assumption | exact rfl | dsimp only | with_reducible apply keeps_bump | with_reducible apply keeps_ite | with_reducible apply keeps_ite2 | with_reducible apply keeps_foldl | split | ((with_reducible apply keeps_mk); (iterate 4 with_reducible exact rfl); first | with_reducible exact rfl | exact rfl))

theorem keeps_storeCrc {s0 s : State} (i : Nat) (q : Nat) (x : Xfer) (hk : Keeps s0 s) :
   Keeps s0 (State.storeCrc s i q x) := by
  unfold State.storeCrc
  repeat' (first | intro _ | with_reducible assumption | exact rfl | dsimp only | with_reducible apply keeps_modCore | with_reducible apply keeps_countStale | with_reducible apply keeps_memW | with_reducible apply keeps_ite | with_reducible apply keeps_ite2 | with_reducible apply keeps_foldl | split | ((with_reducible apply keeps_mk); (iterate 4 with_reducible exact rfl); first | with_reducible exact rfl | exact rfl))

theorem keeps_completeXfer {s0 s : State} (i : Nat) (q : Nat) (hk : Keeps s0 s) :
   Keeps s0 (State.completeXfer s i q) := by
  unfold State.completeXfer
  repeat' (first | intro _ | with_reducible assumption | exact rfl | dsimp only | with_reducible apply keeps_storeCrc | with_reducible apply keeps_setDmaQ | with_reducible apply keeps_setFld | with_reducible apply keeps_setRegN | with_reducible apply keeps_bump | with_reducible apply keeps_poisonSix | with_reducible apply keeps_ite | with_reducible apply keeps_ite2 | with_reducible apply keeps_foldl | split | ((with_reducible apply keeps_mk); (iterate 4 with_reducible exact rfl); first | with_reducible exact rfl | exact rfl))

theorem keeps_settleQueue {s0 s : State} (i : Nat) (q : Nat) (y : Nat) (hk : Keeps s0 s) :
   Keeps s0 (State.settleQueue s i q y) := by
  induction y generalizing s with
  | zero => exact hk
  | succ k ih =>
  unfold State.settleQueue
  repeat' (first | intro _ | with_reducible assumption | exact rfl | dsimp only | with_reducible apply ih | with_reducible apply keeps_dmaFault | with_reducible apply keeps_completeXfer | with_reducible apply keeps_ite | with_reducible apply keeps_ite2 | with_reducible apply keeps_foldl | split | ((with_reducible apply keeps_mk); (iterate 4 with_reducible exact rfl); first | with_reducible exact rfl | exact rfl))

theorem keeps_settle {s0 s : State} (i : Nat) (q : Nat) (hk : Keeps s0 s) :
   Keeps s0 (State.settle s i q) := by
  unfold State.settle
  repeat' (first | intro _ | with_reducible assumption | exact rfl | dsimp only | with_reducible apply keeps_settleQueue | with_reducible apply keeps_settleArrivals | with_reducible apply keeps_wakeOwn | with_reducible apply keeps_wakeRows | with_reducible apply keeps_ite | with_reducible apply keeps_ite2 | with_reducible apply keeps_foldl | split | ((with_reducible apply keeps_mk); (iterate 4 with_reducible exact rfl); first | with_reducible exact rfl | exact rfl))

theorem keeps_transferPlace {s0 s : State} (i : Nat) (hk : Keeps s0 s) :
   Keeps s0 (State.transferPlace s i) := by
  unfold State.transferPlace
  repeat' (first | intro _ | with_reducible assumption | exact rfl | dsimp only | with_reducible apply keeps_modCore | with_reducible apply keeps_setDmaQ | with_reducible apply keeps_settle | with_reducible apply keeps_wakeFull | with_reducible apply keeps_ite | with_reducible apply keeps_ite2 | with_reducible apply keeps_foldl | split | ((with_reducible apply keeps_mk); (iterate 4 with_reducible exact rfl); first | with_reducible exact rfl | exact rfl))

theorem keeps_issuePiece {s0 s : State} (i : Nat) (q : Nat) (k : Nat) (x : Xfer) (hk : Keeps s0 s) :
   Keeps s0 (State.issuePiece s i q k x) := by
  unfold State.issuePiece
  repeat' (first | intro _ | with_reducible assumption | exact rfl | dsimp only | with_reducible apply keeps_modXfer | with_reducible apply keeps_modCore | with_reducible apply keeps_holdRun | with_reducible apply keeps_setRegN | with_reducible apply keeps_ite | with_reducible apply keeps_ite2 | with_reducible apply keeps_foldl | split | ((with_reducible apply keeps_mk); (iterate 4 with_reducible exact rfl); first | with_reducible exact rfl | exact rfl))

theorem keeps_returnSlots {s0 s : State} (i : Nat) (l : List (Nat × Nat)) (hk : Keeps s0 s) :
   Keeps s0 (State.returnSlots s i l) := by
  unfold State.returnSlots
  repeat' (first | intro _ | with_reducible assumption | exact rfl | dsimp only | with_reducible apply keeps_setRegN | with_reducible apply keeps_modCore | with_reducible apply keeps_ite | with_reducible apply keeps_ite2 | with_reducible apply keeps_foldl | split | ((with_reducible apply keeps_mk); (iterate 4 with_reducible exact rfl); first | with_reducible exact rfl | exact rfl))

theorem keeps_pieceIssue {s0 s : State} (i : Nat) (write : Bool) (returned : List (Nat × Nat)) (hk : Keeps s0 s) :
   Keeps s0 (State.pieceIssue s i write returned) := by
  unfold State.pieceIssue
  repeat' (first | intro _ | with_reducible assumption | exact rfl | dsimp only | with_reducible apply keeps_returnSlots | with_reducible apply keeps_dmaFault | with_reducible apply keeps_issuePiece | with_reducible apply keeps_ite | with_reducible apply keeps_ite2 | with_reducible apply keeps_foldl | split | ((with_reducible apply keeps_mk); (iterate 4 with_reducible exact rfl); first | with_reducible exact rfl | exact rfl))

theorem keeps_setShape {s0 s : State} (i : Nat) (k : Nat) (v : Nat) (hk : Keeps s0 s) :
   Keeps s0 (State.setShape s i k v) := by
  unfold State.setShape
  repeat' (first | intro _ | with_reducible assumption | exact rfl | dsimp only | with_reducible apply keeps_modCore | with_reducible apply keeps_setRegN | with_reducible apply keeps_ite | with_reducible apply keeps_ite2 | with_reducible apply keeps_foldl | split | ((with_reducible apply keeps_mk); (iterate 4 with_reducible exact rfl); first | with_reducible exact rfl | exact rfl))

theorem keeps_putRow {s0 s : State} (i : Nat) (q : Nat) (x : Xfer) (r : Nat) (bs : List Byte) (hk : Keeps s0 s) :
   Keeps s0 (State.putRow s i q x r bs) := by
  unfold State.putRow
  repeat' (first | intro _ | with_reducible assumption | exact rfl | dsimp only | with_reducible apply keeps_modCore | with_reducible apply keeps_countStale | with_reducible apply keeps_memW | with_reducible apply keeps_hostWrite | with_reducible apply keeps_barrierRead | with_reducible apply keeps_setShape | with_reducible apply keeps_emit | with_reducible apply keeps_ite | with_reducible apply keeps_ite2 | with_reducible apply keeps_foldl | split | ((with_reducible apply keeps_mk); (iterate 4 with_reducible exact rfl); first | with_reducible exact rfl | exact rfl))

theorem keeps_countRows {s0 s : State} (i : Nat) (q : Nat) (before : Nat) (hk : Keeps s0 s) :
   Keeps s0 (State.countRows s i q before) := by
  unfold State.countRows
  repeat' (first | intro _ | with_reducible assumption | exact rfl | dsimp only | with_reducible apply keeps_setRegN | with_reducible apply keeps_ite | with_reducible apply keeps_ite2 | with_reducible apply keeps_foldl | split | ((with_reducible apply keeps_mk); (iterate 4 with_reducible exact rfl); first | with_reducible exact rfl | exact rfl))

theorem keeps_rowCounts {s0 s : State} (i : Nat) (q : Nat) (k : Nat) (r : Nat) (bs : List Byte) (hk : Keeps s0 s) :
   Keeps s0 (State.rowCounts s i q k r bs) := by
  unfold State.rowCounts
  repeat' (first | intro _ | with_reducible assumption | exact rfl | dsimp only | with_reducible apply keeps_modXfer | with_reducible apply keeps_setRegN | with_reducible apply keeps_countRows | with_reducible apply keeps_settle | with_reducible apply keeps_ite | with_reducible apply keeps_ite2 | with_reducible apply keeps_foldl | split | ((with_reducible apply keeps_mk); (iterate 4 with_reducible exact rfl); first | with_reducible exact rfl | exact rfl))

theorem keeps_rowSlots {s0 s : State} (i : Nat) (q : Nat) (x : Xfer) (r : Nat) (hk : Keeps s0 s) :
   Keeps s0 (State.rowSlots s i q x r) := by
  unfold State.rowSlots
  repeat' (first | intro _ | with_reducible assumption | exact rfl | dsimp only | with_reducible apply keeps_modCore | with_reducible apply keeps_setRegN | with_reducible apply keeps_ite | with_reducible apply keeps_ite2 | with_reducible apply keeps_foldl | split | ((with_reducible apply keeps_mk); (iterate 4 with_reducible exact rfl); first | with_reducible exact rfl | exact rfl))

theorem keeps_lateRow {s0 s : State} (i : Nat) (q : Nat) (j : Nat) (r : Nat) (host : List Byte) (hk : Keeps s0 s) :
   Keeps s0 (State.lateRow s i q j r host) := by
  unfold State.lateRow
  repeat' (first | intro _ | with_reducible assumption | exact rfl | dsimp only | with_reducible apply keeps_markFor | with_reducible apply keeps_modCore | with_reducible apply keeps_rowSlots | with_reducible apply keeps_aerError | with_reducible apply keeps_countBytes | with_reducible apply keeps_putRow | with_reducible apply keeps_ite | with_reducible apply keeps_ite2 | with_reducible apply keeps_foldl | split | ((with_reducible apply keeps_mk); (iterate 4 with_reducible exact rfl); first | with_reducible exact rfl | exact rfl))

theorem keeps_barrierReturned {s0 s : State} (i : Nat) (q : Nat) (k : Nat) (r : Nat) (hk : Keeps s0 s) :
   Keeps s0 (State.barrierReturned s i q k r) := by
  unfold State.barrierReturned
  repeat' (first | intro _ | with_reducible assumption | exact rfl | dsimp only | with_reducible apply keeps_map | with_reducible apply keeps_modXfer | with_reducible apply keeps_setRegN | with_reducible apply keeps_rowCounts | with_reducible apply keeps_ite | with_reducible apply keeps_ite2 | with_reducible apply keeps_foldl | split | ((with_reducible apply keeps_mk); (iterate 4 with_reducible exact rfl); first | with_reducible exact rfl | exact rfl))

theorem keeps_rowDelivered {s0 s : State} (i : Nat) (q : Nat) (k : Nat) (r : Nat) (host : List Byte) (hk : Keeps s0 s) :
   Keeps s0 (State.rowDelivered s i q k r host) := by
  unfold State.rowDelivered
  repeat' (first | intro _ | with_reducible assumption | exact rfl | dsimp only | with_reducible apply keeps_lateRow | with_reducible apply keeps_barrierReturned | with_reducible apply keeps_dmaFault | with_reducible apply keeps_aerError | with_reducible apply keeps_markFor | with_reducible apply keeps_modXfer | with_reducible apply keeps_rowSlots | with_reducible apply keeps_countBytes | with_reducible apply keeps_rowCounts | with_reducible apply keeps_putRow | with_reducible apply keeps_setRegN | with_reducible apply keeps_ite | with_reducible apply keeps_ite2 | with_reducible apply keeps_foldl | split | ((with_reducible apply keeps_mk); (iterate 4 with_reducible exact rfl); first | with_reducible exact rfl | exact rfl))

theorem keeps_clearRecord {s0 s : State} (i : Nat) (q : Nat) (hk : Keeps s0 s) :
   Keeps s0 (State.clearRecord s i q) := by
  unfold State.clearRecord
  repeat' (first | intro _ | with_reducible assumption | exact rfl | dsimp only | with_reducible apply keeps_setFld | with_reducible apply keeps_ite | with_reducible apply keeps_ite2 | with_reducible apply keeps_foldl | split | ((with_reducible apply keeps_mk); (iterate 4 with_reducible exact rfl); first | with_reducible exact rfl | exact rfl))

theorem keeps_resumeXfer {s0 s : State} (i : Nat) (q : Nat) (k : Nat) (hk : Keeps s0 s) :
   Keeps s0 (State.resumeXfer s i q k) := by
  unfold State.resumeXfer
  repeat' (first | intro _ | with_reducible assumption | exact rfl | dsimp only | with_reducible apply keeps_modXfer | with_reducible apply keeps_clearRecord | with_reducible apply keeps_bump | with_reducible apply keeps_ite | with_reducible apply keeps_ite2 | with_reducible apply keeps_foldl | split | ((with_reducible apply keeps_mk); (iterate 4 with_reducible exact rfl); first | with_reducible exact rfl | exact rfl))

theorem keeps_poisonXfer {s0 s : State} (i : Nat) (q : Nat) (k : Nat) (x : Xfer) (cause : Nat) (hk : Keeps s0 s) :
   Keeps s0 (State.poisonXfer s i q k x cause) := by
  unfold State.poisonXfer
  repeat' (first | intro _ | with_reducible assumption | exact rfl | dsimp only | with_reducible apply keeps_modCore | with_reducible apply keeps_clearRecord | with_reducible apply keeps_markFor | with_reducible apply keeps_logEvent | with_reducible apply keeps_modXfer | with_reducible apply keeps_countRows | with_reducible apply keeps_settle | with_reducible apply keeps_ite | with_reducible apply keeps_ite2 | with_reducible apply keeps_foldl | split | ((with_reducible apply keeps_mk); (iterate 4 with_reducible exact rfl); first | with_reducible exact rfl | exact rfl))

theorem keeps_faultWalk {s0 s : State} (i : Nat) (q : Nat) (hk : Keeps s0 s) :
   Keeps s0 (State.faultWalk s i q) := by
  unfold State.faultWalk
  repeat' (first | intro _ | with_reducible assumption | exact rfl | dsimp only | with_reducible apply keeps_resumeXfer | with_reducible apply keeps_event | with_reducible apply keeps_modXfer | with_reducible apply keeps_poisonXfer | with_reducible apply keeps_ite | with_reducible apply keeps_ite2 | with_reducible apply keeps_foldl | split | ((with_reducible apply keeps_mk); (iterate 4 with_reducible exact rfl); first | with_reducible exact rfl | exact rfl))

theorem keeps_faultExpiry {s0 s : State} (i : Nat) (q : Nat) (hk : Keeps s0 s) :
   Keeps s0 (State.faultExpiry s i q) := by
  unfold State.faultExpiry
  repeat' (first | intro _ | with_reducible assumption | exact rfl | dsimp only | with_reducible apply keeps_poisonXfer | with_reducible apply keeps_ite | with_reducible apply keeps_ite2 | with_reducible apply keeps_foldl | split | ((with_reducible apply keeps_mk); (iterate 4 with_reducible exact rfl); first | with_reducible exact rfl | exact rfl))

theorem keeps_hostReadError {s0 s : State} (i : Nat) (q : Nat) (k : Nat) (r : Nat) (piece : Nat) (hk : Keeps s0 s) :
   Keeps s0 (State.hostReadError s i q k r piece) := by
  unfold State.hostReadError
  repeat' (first | intro _ | with_reducible assumption | exact rfl | dsimp only | with_reducible apply keeps_dmaFault | with_reducible apply keeps_aerError | with_reducible apply keeps_ite | with_reducible apply keeps_ite2 | with_reducible apply keeps_foldl | split | ((with_reducible apply keeps_mk); (iterate 4 with_reducible exact rfl); first | with_reducible exact rfl | exact rfl))

theorem keeps_stageHead {s0 s : State} (n : Nat) (h : Nat) (slot : List Byte) (hk : Keeps s0 s) :
   Keeps s0 (State.stageHead s n h slot) := by
  unfold State.stageHead
  repeat' (first | intro _ | with_reducible assumption | exact rfl | dsimp only | with_reducible apply keeps_modAdapt | with_reducible apply keeps_modCam | with_reducible apply keeps_ite | with_reducible apply keeps_ite2 | with_reducible apply keeps_foldl | split | ((with_reducible apply keeps_mk); (iterate 4 with_reducible exact rfl); first | with_reducible exact rfl | exact rfl))

theorem keeps_adaptBegin {s0 s : State} (n : Nat) (d : HeadDecl) (area : Nat) (hk : Keeps s0 s) :
   Keeps s0 (State.adaptBegin s n d area) := by
  unfold State.adaptBegin
  repeat' (first | intro _ | with_reducible assumption | exact rfl | dsimp only | with_reducible apply keeps_modAdapt | with_reducible apply keeps_map | with_reducible apply keeps_setFld | with_reducible apply keeps_pauseAdapt | with_reducible apply keeps_ite | with_reducible apply keeps_ite2 | with_reducible apply keeps_foldl | split | ((with_reducible apply keeps_mk); (iterate 4 with_reducible exact rfl); first | with_reducible exact rfl | exact rfl))

theorem keeps_adaptStart {s0 s : State} (n : Nat) (r : CmdRef) (hk : Keeps s0 s) :
   Keeps s0 (State.adaptStart s n r) := by
  unfold State.adaptStart
  repeat' (first | intro _ | with_reducible assumption | exact rfl | dsimp only | with_reducible apply keeps_reply | with_reducible apply keeps_takeFree | with_reducible apply keeps_adaptBegin | with_reducible apply keeps_ite | with_reducible apply keeps_ite2 | with_reducible apply keeps_foldl | split | ((with_reducible apply keeps_mk); (iterate 4 with_reducible exact rfl); first | with_reducible exact rfl | exact rfl))

theorem keeps_adaptEnd {s0 s : State} (n : Nat) (hk : Keeps s0 s) :
   Keeps s0 (State.adaptEnd s n) := by
  unfold State.adaptEnd
  repeat' (first | intro _ | with_reducible assumption | exact rfl | dsimp only | with_reducible apply keeps_clearFor | with_reducible apply keeps_dropPairs | with_reducible apply keeps_modAdapt | with_reducible apply keeps_setFld | with_reducible apply keeps_ite | with_reducible apply keeps_ite2 | with_reducible apply keeps_foldl | split | ((with_reducible apply keeps_mk); (iterate 4 with_reducible exact rfl); first | with_reducible exact rfl | exact rfl))

theorem keeps_adaptStop {s0 s : State} (n : Nat) (r : CmdRef) (hk : Keeps s0 s) :
   Keeps s0 (State.adaptStop s n r) := by
  unfold State.adaptStop
  repeat' (first | intro _ | with_reducible assumption | exact rfl | dsimp only | with_reducible apply keeps_reply | with_reducible apply keeps_adaptEnd | with_reducible apply keeps_ite | with_reducible apply keeps_ite2 | with_reducible apply keeps_foldl | split | ((with_reducible apply keeps_mk); (iterate 4 with_reducible exact rfl); first | with_reducible exact rfl | exact rfl))

theorem keeps_adaptPause {s0 s : State} (n : Nat) (r : CmdRef) (hk : Keeps s0 s) :
   Keeps s0 (State.adaptPause s n r) := by
  unfold State.adaptPause
  repeat' (first | intro _ | with_reducible assumption | exact rfl | dsimp only | with_reducible apply keeps_reply | with_reducible apply keeps_pauseAdapt | with_reducible apply keeps_ite | with_reducible apply keeps_ite2 | with_reducible apply keeps_foldl | split | ((with_reducible apply keeps_mk); (iterate 4 with_reducible exact rfl); first | with_reducible exact rfl | exact rfl))

theorem keeps_adaptResume {s0 s : State} (n : Nat) (r : CmdRef) (hk : Keeps s0 s) :
   Keeps s0 (State.adaptResume s n r) := by
  unfold State.adaptResume
  repeat' (first | intro _ | with_reducible assumption | exact rfl | dsimp only | with_reducible apply keeps_unpauseAdapt | with_reducible apply keeps_reply | with_reducible apply keeps_ite | with_reducible apply keeps_ite2 | with_reducible apply keeps_foldl | split | ((with_reducible apply keeps_mk); (iterate 4 with_reducible exact rfl); first | with_reducible exact rfl | exact rfl))

theorem keeps_adaptRevert {s0 s : State} (n : Nat) (r : CmdRef) (hk : Keeps s0 s) :
   Keeps s0 (State.adaptRevert s n r) := by
  unfold State.adaptRevert
  repeat' (first | intro _ | with_reducible assumption | exact rfl | dsimp only | with_reducible apply keeps_modCam | with_reducible apply keeps_modAdapt | with_reducible apply keeps_audit | with_reducible apply keeps_reply | with_reducible apply keeps_ite | with_reducible apply keeps_ite2 | with_reducible apply keeps_foldl | split | ((with_reducible apply keeps_mk); (iterate 4 with_reducible exact rfl); first | with_reducible exact rfl | exact rfl))

theorem keeps_adaptRefs {s0 s : State} (n : Nat) (refs : List (Nat × Nat × Nat)) (r : CmdRef) (hk : Keeps s0 s) :
   Keeps s0 (State.adaptRefs s n refs r) := by
  unfold State.adaptRefs
  repeat' (first | intro _ | with_reducible assumption | exact rfl | dsimp only | with_reducible apply keeps_modAdapt | with_reducible apply keeps_reply | with_reducible apply keeps_ite | with_reducible apply keeps_ite2 | with_reducible apply keeps_foldl | split | ((with_reducible apply keeps_mk); (iterate 4 with_reducible exact rfl); first | with_reducible exact rfl | exact rfl))

theorem keeps_adaptExport {s0 s : State} (n : Nat) (at_ : Nat) (r : CmdRef) (hk : Keeps s0 s) :
   Keeps s0 (State.adaptExport s n at_ r) := by
  unfold State.adaptExport
  repeat' (first | intro _ | with_reducible assumption | exact rfl | dsimp only | with_reducible apply keeps_reply | with_reducible apply keeps_hostWrite | with_reducible apply keeps_ite | with_reducible apply keeps_ite2 | with_reducible apply keeps_foldl | split | ((with_reducible apply keeps_mk); (iterate 4 with_reducible exact rfl); first | with_reducible exact rfl | exact rfl))

theorem keeps_adaptImport {s0 s : State} (n : Nat) (slot : List Byte) (r : CmdRef) (hk : Keeps s0 s) :
   Keeps s0 (State.adaptImport s n slot r) := by
  unfold State.adaptImport
  repeat' (first | intro _ | with_reducible assumption | exact rfl | dsimp only | with_reducible apply keeps_reply | with_reducible apply keeps_stageHead | with_reducible apply keeps_audit | with_reducible apply keeps_ite | with_reducible apply keeps_ite2 | with_reducible apply keeps_foldl | split | ((with_reducible apply keeps_mk); (iterate 4 with_reducible exact rfl); first | with_reducible exact rfl | exact rfl))

theorem keeps_adaptAtStart {s0 s : State} (n : Nat) (hk : Keeps s0 s) :
   Keeps s0 (State.adaptAtStart s n) := by
  unfold State.adaptAtStart
  repeat' (first | intro _ | with_reducible assumption | exact rfl | dsimp only | with_reducible apply keeps_adaptEnd | with_reducible apply keeps_modCam | with_reducible apply keeps_modAdapt | with_reducible apply keeps_audit | with_reducible apply keeps_ite | with_reducible apply keeps_ite2 | with_reducible apply keeps_foldl | split | ((with_reducible apply keeps_mk); (iterate 4 with_reducible exact rfl); first | with_reducible exact rfl | exact rfl))

theorem keeps_keepPair {s0 s : State} (n : Nat) (p : PairS) (hk : Keeps s0 s) :
   Keeps s0 (State.keepPair s n p) := by
  unfold State.keepPair
  repeat' (first | intro _ | with_reducible assumption | exact rfl | dsimp only | with_reducible apply keeps_modAdapt | with_reducible apply keeps_bump | with_reducible apply keeps_ite | with_reducible apply keeps_ite2 | with_reducible apply keeps_foldl | split | ((with_reducible apply keeps_mk); (iterate 4 with_reducible exact rfl); first | with_reducible exact rfl | exact rfl))

theorem keeps_trainingPair {s0 s : State} (n : Nat) (q : Nat) (input : List Byte) (hk : Keeps s0 s) :
   Keeps s0 (State.trainingPair s n q input) := by
  unfold State.trainingPair
  repeat' (first | intro _ | with_reducible assumption | exact rfl | dsimp only | with_reducible apply keeps_modAdapt | with_reducible apply keeps_keepPair | with_reducible apply keeps_bump | with_reducible apply keeps_ite | with_reducible apply keeps_ite2 | with_reducible apply keeps_foldl | split | ((with_reducible apply keeps_mk); (iterate 4 with_reducible exact rfl); first | with_reducible exact rfl | exact rfl))

theorem keeps_reversePipeline {s0 s : State} (n : Nat) (q : Nat) (hk : Keeps s0 s) :
   Keeps s0 (State.reversePipeline s n q) := by
  unfold State.reversePipeline
  repeat' (first | intro _ | with_reducible assumption | exact rfl | dsimp only | with_reducible apply keeps_map | with_reducible apply keeps_modAdapt | with_reducible apply keeps_modCore | with_reducible apply keeps_ite | with_reducible apply keeps_ite2 | with_reducible apply keeps_foldl | split | ((with_reducible apply keeps_mk); (iterate 4 with_reducible exact rfl); first | with_reducible exact rfl | exact rfl))

theorem keeps_trainingStripe {s0 s : State} (n : Nat) (w : Nat) (hk : Keeps s0 s) :
   Keeps s0 (State.trainingStripe s n w) := by
  unfold State.trainingStripe
  repeat' (first | intro _ | with_reducible assumption | exact rfl | dsimp only | with_reducible apply keeps_pushShare | with_reducible apply keeps_wakeCounter | with_reducible apply keeps_ite | with_reducible apply keeps_ite2 | with_reducible apply keeps_foldl | split | ((with_reducible apply keeps_mk); (iterate 4 with_reducible exact rfl); first | with_reducible exact rfl | exact rfl))

theorem keeps_trainingStep {s0 s : State} (n : Nat) (hk : Keeps s0 s) :
   Keeps s0 (State.trainingStep s n) := by
  unfold State.trainingStep
  repeat' (first | intro _ | with_reducible assumption | exact rfl | dsimp only | with_reducible apply keeps_map | with_reducible apply keeps_modAdapt | with_reducible apply keeps_modCore | with_reducible apply keeps_ite | with_reducible apply keeps_ite2 | with_reducible apply keeps_foldl | split | ((with_reducible apply keeps_mk); (iterate 4 with_reducible exact rfl); first | with_reducible exact rfl | exact rfl))

theorem keeps_candidateEncode {s0 s : State} (n : Nat) (hk : Keeps s0 s) :
   Keeps s0 (State.candidateEncode s n) := by
  unfold State.candidateEncode
  repeat' (first | intro _ | with_reducible assumption | exact rfl | dsimp only | with_reducible apply keeps_modAdapt | with_reducible apply keeps_audit | with_reducible apply keeps_map | with_reducible apply keeps_pauseAdapt | with_reducible apply keeps_ite | with_reducible apply keeps_ite2 | with_reducible apply keeps_foldl | split | ((with_reducible apply keeps_mk); (iterate 4 with_reducible exact rfl); first | with_reducible exact rfl | exact rfl))

theorem keeps_gateDecision {s0 s : State} (n : Nat) (hk : Keeps s0 s) :
   Keeps s0 (State.gateDecision s n) := by
  unfold State.gateDecision
  repeat' (first | intro _ | with_reducible assumption | exact rfl | dsimp only | with_reducible apply keeps_map | with_reducible apply keeps_modAdapt | with_reducible apply keeps_bump | with_reducible apply keeps_audit | with_reducible apply keeps_ite | with_reducible apply keeps_ite2 | with_reducible apply keeps_foldl | split | ((with_reducible apply keeps_mk); (iterate 4 with_reducible exact rfl); first | with_reducible exact rfl | exact rfl))

theorem keeps_headSetStage {s0 s : State} (n : Nat) (hk : Keeps s0 s) :
   Keeps s0 (State.headSetStage s n) := by
  unfold State.headSetStage
  repeat' (first | intro _ | with_reducible assumption | exact rfl | dsimp only | with_reducible apply keeps_stageHead | with_reducible apply keeps_modAdapt | with_reducible apply keeps_audit | with_reducible apply keeps_ite | with_reducible apply keeps_ite2 | with_reducible apply keeps_foldl | split | ((with_reducible apply keeps_mk); (iterate 4 with_reducible exact rfl); first | with_reducible exact rfl | exact rfl))

theorem keeps_adaptWindow {s0 s : State} (i : Nat) (hk : Keeps s0 s) :
   Keeps s0 (State.adaptWindow s i) := by
  unfold State.adaptWindow
  repeat' (first | intro _ | with_reducible assumption | exact rfl | dsimp only | with_reducible apply keeps_setRegN | with_reducible apply keeps_modCore | with_reducible apply keeps_ite | with_reducible apply keeps_ite2 | with_reducible apply keeps_foldl | split | ((with_reducible apply keeps_mk); (iterate 4 with_reducible exact rfl); first | with_reducible exact rfl | exact rfl))

end Sys2Proof.Machine
end

