-- ==== Sys2Proof/Laws/KeepsHost.lean ====
section
/-! SUPPORT. What no operation undoes: one lemma for each operation of command packets, mailboxes, security and streams. -/
set_option linter.all false
namespace Sys2Proof.Machine

theorem keeps_modQueue {s0 s : State} (f : Nat) (q : Nat) (g : QueueS → QueueS) (hk : Keeps s0 s) :
   Keeps s0 (State.modQueue s f q g) := by
  unfold State.modQueue
  repeat' (first | intro _ | with_reducible assumption | exact rfl | dsimp only | with_reducible apply keeps_setQueue | with_reducible apply keeps_ite | with_reducible apply keeps_ite2 | with_reducible apply keeps_foldl | split | ((with_reducible apply keeps_mk); (iterate 4 with_reducible exact rfl); first | with_reducible exact rfl | exact rfl))

theorem keeps_fetch {s0 s : State} (f : Nat) (q : Nat) (bytes : List Byte) (hk : Keeps s0 s) :
   Keeps s0 (State.fetch s f q bytes) := by
  unfold State.fetch
  repeat' (first | intro _ | with_reducible assumption | exact rfl | dsimp only | with_reducible apply keeps_modQueue | with_reducible apply keeps_obsAdd | with_reducible apply keeps_setFld | with_reducible apply keeps_setIdle | with_reducible apply keeps_ite | with_reducible apply keeps_ite2 | with_reducible apply keeps_foldl | split | ((with_reducible apply keeps_mk); (iterate 4 with_reducible exact rfl); first | with_reducible exact rfl | exact rfl))

theorem keeps_startCommand {s0 s : State} (hk : Keeps s0 s) :
   Keeps s0 (State.startCommand s) := by
  unfold State.startCommand
  repeat' (first | intro _ | with_reducible assumption | exact rfl | dsimp only | with_reducible apply keeps_modQueue | with_reducible apply keeps_modFn | with_reducible apply keeps_reply | with_reducible apply keeps_ite | with_reducible apply keeps_ite2 | with_reducible apply keeps_foldl | split | ((with_reducible apply keeps_mk); (iterate 4 with_reducible exact rfl); first | with_reducible exact rfl | exact rfl))

theorem keeps_setTaken {s0 s : State} (r : CmdRef) (b : Bool) (hk : Keeps s0 s) :
   Keeps s0 (State.setTaken s r b) := by
  unfold State.setTaken
  repeat' (first | intro _ | with_reducible assumption | exact rfl | dsimp only | with_reducible apply keeps_modQueue | with_reducible apply keeps_map | with_reducible apply keeps_ite | with_reducible apply keeps_ite2 | with_reducible apply keeps_foldl | split | ((with_reducible apply keeps_mk); (iterate 4 with_reducible exact rfl); first | with_reducible exact rfl | exact rfl))

theorem keeps_onCmd {s0 s : State} (r : CmdRef) (op : Nat) (body : Cmd → State → State) (hk : Keeps s0 s) (hbody : ∀ x0 t, Keeps s0 t → Keeps s0 (body x0 t)) :
   Keeps s0 (State.onCmd s r op body) := by
  unfold State.onCmd
  repeat' (first | intro _ | with_reducible assumption | exact rfl | dsimp only | with_reducible apply keeps_setTaken | exact hbody _ ‹_›| apply hbody | with_reducible apply keeps_ite | with_reducible apply keeps_ite2 | with_reducible apply keeps_foldl | split | ((with_reducible apply keeps_mk); (iterate 4 with_reducible exact rfl); first | with_reducible exact rfl | exact rfl))

theorem keeps_readFailed {s0 s : State} (r : CmdRef) (hk : Keeps s0 s) :
   Keeps s0 (State.readFailed s r) := by
  unfold State.readFailed
  repeat' (first | intro _ | with_reducible assumption | exact rfl | dsimp only | with_reducible apply keeps_reply | with_reducible apply keeps_aerError | with_reducible apply keeps_ite | with_reducible apply keeps_ite2 | with_reducible apply keeps_foldl | split | ((with_reducible apply keeps_mk); (iterate 4 with_reducible exact rfl); first | with_reducible exact rfl | exact rfl))

theorem keeps_withRead {s0 s : State} (r : CmdRef) (n : Nat) (body : State → State) (hk : Keeps s0 s) (hbody : ∀ t, Keeps s0 t → Keeps s0 (body t)) :
   Keeps s0 (State.withRead s r n body) := by
  unfold State.withRead
  repeat' (first | intro _ | with_reducible assumption | exact rfl | dsimp only | with_reducible apply keeps_obsAdd | with_reducible apply keeps_readFailed | exact hbody _ ‹_›| apply hbody | with_reducible apply keeps_ite | with_reducible apply keeps_ite2 | with_reducible apply keeps_foldl | split | ((with_reducible apply keeps_mk); (iterate 4 with_reducible exact rfl); first | with_reducible exact rfl | exact rfl))

theorem keeps_cmdReadError {s0 s : State} (r : CmdRef) (hk : Keeps s0 s) :
   Keeps s0 (State.cmdReadError s r) := by
  unfold State.cmdReadError
  repeat' (first | intro _ | with_reducible assumption | exact rfl | dsimp only | with_reducible apply keeps_readFailed | with_reducible apply keeps_ite | with_reducible apply keeps_ite2 | with_reducible apply keeps_foldl | split | ((with_reducible apply keeps_mk); (iterate 4 with_reducible exact rfl); first | with_reducible exact rfl | exact rfl))

theorem keeps_cqConfig {s0 s : State} (f : Nat) (q : Nat) (v : Nat) (hk : Keeps s0 s) :
   Keeps s0 (State.cqConfig s f q v) := by
  unfold State.cqConfig
  repeat' (first | intro _ | with_reducible assumption | exact rfl | dsimp only | with_reducible apply keeps_setFld | with_reducible apply keeps_ite | with_reducible apply keeps_ite2 | with_reducible apply keeps_foldl | split | ((with_reducible apply keeps_mk); (iterate 4 with_reducible exact rfl); first | with_reducible exact rfl | exact rfl))

theorem keeps_cqEnable {s0 s : State} (f : Nat) (q : Nat) (hk : Keeps s0 s) :
   Keeps s0 (State.cqEnable s f q) := by
  unfold State.cqEnable
  repeat' (first | intro _ | with_reducible assumption | exact rfl | dsimp only | with_reducible apply keeps_setEvt | with_reducible apply keeps_modQueue | with_reducible apply keeps_setFld | with_reducible apply keeps_setIdle | with_reducible apply keeps_ite | with_reducible apply keeps_ite2 | with_reducible apply keeps_foldl | split | ((with_reducible apply keeps_mk); (iterate 4 with_reducible exact rfl); first | with_reducible exact rfl | exact rfl))

theorem keeps_cqDisable {s0 s : State} (f : Nat) (q : Nat) (hk : Keeps s0 s) :
   Keeps s0 (State.cqDisable s f q) := by
  unfold State.cqDisable
  repeat' (first | intro _ | with_reducible assumption | exact rfl | dsimp only | with_reducible apply keeps_setFld | with_reducible apply keeps_setIdle | with_reducible apply keeps_ite | with_reducible apply keeps_ite2 | with_reducible apply keeps_foldl | split | ((with_reducible apply keeps_mk); (iterate 4 with_reducible exact rfl); first | with_reducible exact rfl | exact rfl))

theorem keeps_cqCfgWrite {s0 s : State} (f : Nat) (q : Nat) (v : Nat) (hk : Keeps s0 s) :
   Keeps s0 (State.cqCfgWrite s f q v) := by
  unfold State.cqCfgWrite
  repeat' (first | intro _ | with_reducible assumption | exact rfl | dsimp only | with_reducible apply keeps_cqConfig | with_reducible apply keeps_cqEnable | with_reducible apply keeps_cqDisable | with_reducible apply keeps_ite | with_reducible apply keeps_ite2 | with_reducible apply keeps_foldl | split | ((with_reducible apply keeps_mk); (iterate 4 with_reducible exact rfl); first | with_reducible exact rfl | exact rfl))

theorem keeps_cqTailWrite {s0 s : State} (f : Nat) (q : Nat) (v : Nat) (hk : Keeps s0 s) :
   Keeps s0 (State.cqTailWrite s f q v) := by
  unfold State.cqTailWrite
  repeat' (first | intro _ | with_reducible assumption | exact rfl | dsimp only | with_reducible apply keeps_setEvt | with_reducible apply keeps_modQueue | with_reducible apply keeps_ite | with_reducible apply keeps_ite2 | with_reducible apply keeps_foldl | split | ((with_reducible apply keeps_mk); (iterate 4 with_reducible exact rfl); first | with_reducible exact rfl | exact rfl))

theorem keeps_rqHeadWrite {s0 s : State} (f : Nat) (q : Nat) (v : Nat) (hk : Keeps s0 s) :
   Keeps s0 (State.rqHeadWrite s f q v) := by
  unfold State.rqHeadWrite
  repeat' (first | intro _ | with_reducible assumption | exact rfl | dsimp only | with_reducible apply keeps_setEvt | with_reducible apply keeps_setQueue | with_reducible apply keeps_ite | with_reducible apply keeps_ite2 | with_reducible apply keeps_foldl | split | ((with_reducible apply keeps_mk); (iterate 4 with_reducible exact rfl); first | with_reducible exact rfl | exact rfl))

theorem keeps_moderation {s0 s : State} (f : Nat) (q : Nat) (hk : Keeps s0 s) :
   Keeps s0 (State.moderation s f q) := by
  unfold State.moderation
  repeat' (first | intro _ | with_reducible assumption | exact rfl | dsimp only | with_reducible apply keeps_setQueue | with_reducible apply keeps_raise | with_reducible apply keeps_ite | with_reducible apply keeps_ite2 | with_reducible apply keeps_foldl | split | ((with_reducible apply keeps_mk); (iterate 4 with_reducible exact rfl); first | with_reducible exact rfl | exact rfl))

theorem keeps_evqCfgWrite {s0 s : State} (f : Nat) (v : Nat) (hk : Keeps s0 s) :
   Keeps s0 (State.evqCfgWrite s f v) := by
  unfold State.evqCfgWrite
  repeat' (first | intro _ | with_reducible assumption | exact rfl | dsimp only | with_reducible apply keeps_setFld | with_reducible apply keeps_ite | with_reducible apply keeps_ite2 | with_reducible apply keeps_foldl | split | ((with_reducible apply keeps_mk); (iterate 4 with_reducible exact rfl); first | with_reducible exact rfl | exact rfl))

theorem keeps_echo {s0 s : State} (r : CmdRef) (hk : Keeps s0 s) :
   Keeps s0 (State.echo s r) := by
  unfold State.echo
  repeat' (first | intro _ | with_reducible assumption | exact rfl | dsimp only | with_reducible apply keeps_onCmd | with_reducible apply keeps_reply | with_reducible apply keeps_ite | with_reducible apply keeps_ite2 | with_reducible apply keeps_foldl | split | ((with_reducible apply keeps_mk); (iterate 4 with_reducible exact rfl); first | with_reducible exact rfl | exact rfl))

theorem keeps_timeGet {s0 s : State} (r : CmdRef) (hk : Keeps s0 s) :
   Keeps s0 (State.timeGet s r) := by
  unfold State.timeGet
  repeat' (first | intro _ | with_reducible assumption | exact rfl | dsimp only | with_reducible apply keeps_onCmd | with_reducible apply keeps_reply | with_reducible apply keeps_ite | with_reducible apply keeps_ite2 | with_reducible apply keeps_foldl | split | ((with_reducible apply keeps_mk); (iterate 4 with_reducible exact rfl); first | with_reducible exact rfl | exact rfl))

theorem keeps_camGrant {s0 s : State} (r : CmdRef) (hk : Keeps s0 s) :
   Keeps s0 (State.camGrant s r) := by
  unfold State.camGrant
  repeat' (first | intro _ | with_reducible assumption | exact rfl | dsimp only | with_reducible apply keeps_onCmd | with_reducible apply keeps_reply | with_reducible apply keeps_modCam | with_reducible apply keeps_ite | with_reducible apply keeps_ite2 | with_reducible apply keeps_foldl | split | ((with_reducible apply keeps_mk); (iterate 4 with_reducible exact rfl); first | with_reducible exact rfl | exact rfl))

theorem keeps_faultResume {s0 s : State} (r : CmdRef) (hk : Keeps s0 s) :
   Keeps s0 (State.faultResume s r) := by
  unfold State.faultResume
  repeat' (first | intro _ | with_reducible assumption | exact rfl | dsimp only | with_reducible apply keeps_onCmd | with_reducible apply keeps_reply | with_reducible apply keeps_resumeXfer | with_reducible apply keeps_ite | with_reducible apply keeps_ite2 | with_reducible apply keeps_foldl | split | ((with_reducible apply keeps_mk); (iterate 4 with_reducible exact rfl); first | with_reducible exact rfl | exact rfl))

theorem keeps_profileLoad {s0 s : State} (r : CmdRef) (bytes : List Byte) (hk : Keeps s0 s) :
   Keeps s0 (State.profileLoad s r bytes) := by
  unfold State.profileLoad
  repeat' (first | intro _ | with_reducible assumption | exact rfl | dsimp only | with_reducible apply keeps_onCmd | with_reducible apply keeps_reply | with_reducible apply keeps_withRead | with_reducible apply keeps_modCam | with_reducible apply keeps_ite | with_reducible apply keeps_ite2 | with_reducible apply keeps_foldl | split | ((with_reducible apply keeps_mk); (iterate 4 with_reducible exact rfl); first | with_reducible exact rfl | exact rfl))

theorem keeps_sensorXfer {s0 s : State} (r : CmdRef) (hk : Keeps s0 s) :
   Keeps s0 (State.sensorXfer s r) := by
  unfold State.sensorXfer
  repeat' (first | intro _ | with_reducible assumption | exact rfl | dsimp only | with_reducible apply keeps_onCmd | with_reducible apply keeps_reply | with_reducible apply keeps_tunnelRequest | with_reducible apply keeps_ite | with_reducible apply keeps_ite2 | with_reducible apply keeps_foldl | split | ((with_reducible apply keeps_mk); (iterate 4 with_reducible exact rfl); first | with_reducible exact rfl | exact rfl))

theorem keeps_zeroRange {s0 s : State} (a : Nat) (n : Nat) (hk : Keeps s0 s) :
   Keeps s0 (State.zeroRange s a n) := by
  unfold State.zeroRange
  repeat' (first | intro _ | with_reducible assumption | exact rfl | dsimp only | with_reducible apply keeps_memClear | with_reducible apply keeps_ite | with_reducible apply keeps_ite2 | with_reducible apply keeps_foldl | split | ((with_reducible apply keeps_mk); (iterate 4 with_reducible exact rfl); first | with_reducible exact rfl | exact rfl))

theorem keeps_remap {s0 s : State} (l : List (Nat × Page)) (hk : Keeps s0 s) :
   Keeps s0 (State.remap s l) := by
  unfold State.remap
  repeat' (first | intro _ | with_reducible assumption | exact rfl | dsimp only | with_reducible apply keeps_modFn | with_reducible apply keeps_map | with_reducible apply keeps_ite | with_reducible apply keeps_ite2 | with_reducible apply keeps_foldl | split | ((with_reducible apply keeps_mk); (iterate 4 with_reducible exact rfl); first | with_reducible exact rfl | exact rfl))

theorem keeps_clearComplete {s0 s : State} (hk : Keeps s0 s) :
   Keeps s0 (State.clearComplete s) := by
  unfold State.clearComplete
  repeat' (first | intro _ | with_reducible assumption | exact rfl | dsimp only | with_reducible apply keeps_snufRun | with_reducible apply keeps_zeroRange | with_reducible apply keeps_remap | with_reducible apply keeps_reply | with_reducible apply keeps_ite | with_reducible apply keeps_ite2 | with_reducible apply keeps_foldl | split | ((with_reducible apply keeps_mk); (iterate 4 with_reducible exact rfl); first | with_reducible exact rfl | exact rfl))

theorem keeps_map {s0 s : State} (r : CmdRef) (hk : Keeps s0 s) :
   Keeps s0 (State.map s r) := by
  unfold State.map
  repeat' (first | intro _ | with_reducible assumption | exact rfl | dsimp only | with_reducible apply keeps_onCmd | with_reducible apply keeps_reply | with_reducible apply keeps_modFn | with_reducible apply keeps_ite | with_reducible apply keeps_ite2 | with_reducible apply keeps_foldl | split | ((with_reducible apply keeps_mk); (iterate 4 with_reducible exact rfl); first | with_reducible exact rfl | exact rfl))

theorem keeps_unmap {s0 s : State} (r : CmdRef) (hk : Keeps s0 s) :
   Keeps s0 (State.unmap s r) := by
  unfold State.unmap
  repeat' (first | intro _ | with_reducible assumption | exact rfl | dsimp only | with_reducible apply keeps_onCmd | with_reducible apply keeps_reply | with_reducible apply keeps_modFn | with_reducible apply keeps_setTaken | with_reducible apply keeps_ite | with_reducible apply keeps_ite2 | with_reducible apply keeps_foldl | split | ((with_reducible apply keeps_mk); (iterate 4 with_reducible exact rfl); first | with_reducible exact rfl | exact rfl))

theorem keeps_memCopy {s0 s : State} (src dst n : Nat) (hk : Keeps s0 s) : Keeps s0 (s.memCopy src dst n) :=
  have h := keeps_zeroRange dst n hk
  ⟨h.queue, fun w => foldl_memWrite_wf _ _ _ _ (h.mem w), h.sent, h.free, h.enrol⟩

theorem keeps_move {s0 s : State} (r : CmdRef) (hk : Keeps s0 s) :
   Keeps s0 (State.move s r) := by
  unfold State.move
  repeat' (first | intro _ | with_reducible assumption | exact rfl | dsimp only | with_reducible apply keeps_onCmd | with_reducible apply keeps_map | with_reducible apply keeps_reply | with_reducible apply keeps_modFn | with_reducible apply keeps_setTaken | with_reducible apply keeps_memCopy | with_reducible apply keeps_clearFor | with_reducible apply keeps_remap | with_reducible apply keeps_ite | with_reducible apply keeps_ite2 | with_reducible apply keeps_foldl | split | ((with_reducible apply keeps_mk); (iterate 4 with_reducible exact rfl); first | with_reducible exact rfl | exact rfl))

theorem keeps_memGrant {s0 s : State} (r : CmdRef) (hk : Keeps s0 s) :
   Keeps s0 (State.memGrant s r) := by
  unfold State.memGrant
  repeat' (first | intro _ | with_reducible assumption | exact rfl | dsimp only | with_reducible apply keeps_onCmd | with_reducible apply keeps_reply | with_reducible apply keeps_modFn | with_reducible apply keeps_ite | with_reducible apply keeps_ite2 | with_reducible apply keeps_foldl | split | ((with_reducible apply keeps_mk); (iterate 4 with_reducible exact rfl); first | with_reducible exact rfl | exact rfl))

theorem keeps_memRevoke {s0 s : State} (r : CmdRef) (hk : Keeps s0 s) :
   Keeps s0 (State.memRevoke s r) := by
  unfold State.memRevoke
  repeat' (first | intro _ | with_reducible assumption | exact rfl | dsimp only | with_reducible apply keeps_onCmd | with_reducible apply keeps_reply | with_reducible apply keeps_setTaken | with_reducible apply keeps_modFn | with_reducible apply keeps_map | with_reducible apply keeps_clearFor | with_reducible apply keeps_ite | with_reducible apply keeps_ite2 | with_reducible apply keeps_foldl | split | ((with_reducible apply keeps_mk); (iterate 4 with_reducible exact rfl); first | with_reducible exact rfl | exact rfl))

theorem keeps_fwPool {s0 s : State} (r : CmdRef) (hk : Keeps s0 s) :
   Keeps s0 (State.fwPool s r) := by
  unfold State.fwPool
  repeat' (first | intro _ | with_reducible assumption | exact rfl | dsimp only | with_reducible apply keeps_onCmd | with_reducible apply keeps_reply | with_reducible apply keeps_ite | with_reducible apply keeps_ite2 | with_reducible apply keeps_foldl | split | ((with_reducible apply keeps_mk); (iterate 4 with_reducible exact rfl); first | with_reducible exact rfl | exact rfl))

theorem keeps_camRings {s0 s : State} (r : CmdRef) (hk : Keeps s0 s) :
   Keeps s0 (State.camRings s r) := by
  unfold State.camRings
  repeat' (first | intro _ | with_reducible assumption | exact rfl | dsimp only | with_reducible apply keeps_onCmd | with_reducible apply keeps_reply | with_reducible apply keeps_setPair | with_reducible apply keeps_setRegN | with_reducible apply keeps_map | with_reducible apply keeps_modCam | with_reducible apply keeps_ite | with_reducible apply keeps_ite2 | with_reducible apply keeps_foldl | split | ((with_reducible apply keeps_mk); (iterate 4 with_reducible exact rfl); first | with_reducible exact rfl | exact rfl))

theorem keeps_secCount {s0 s : State} (r : RegName) (hk : Keeps s0 s) :
   Keeps s0 (State.secCount s r) := by
  unfold State.secCount
  repeat' (first | intro _ | with_reducible assumption | exact rfl | dsimp only | with_reducible apply keeps_bump | with_reducible apply keeps_ite | with_reducible apply keeps_ite2 | with_reducible apply keeps_foldl | split | ((with_reducible apply keeps_mk); (iterate 4 with_reducible exact rfl); first | with_reducible exact rfl | exact rfl))

theorem keeps_pin {s0 s : State} (i : Nat) (p : Nat × Nat × BitVec 16) (hk : Keeps s0 s) :
   Keeps s0 (State.pin s i p) := by
  unfold State.pin
  repeat' (first | intro _ | with_reducible assumption | exact rfl | dsimp only | with_reducible apply keeps_evict | with_reducible apply keeps_modHold | with_reducible apply keeps_setFld | with_reducible apply keeps_ite | with_reducible apply keeps_ite2 | with_reducible apply keeps_foldl | split | ((with_reducible apply keeps_mk); (iterate 4 with_reducible exact rfl); first | with_reducible exact rfl | exact rfl))

theorem keeps_unpin {s0 s : State} (i : Nat) (writeBack : Bool) (hk : Keeps s0 s) :
   Keeps s0 (State.unpin s i writeBack) := by
  unfold State.unpin
  repeat' (first | intro _ | with_reducible assumption | exact rfl | dsimp only | with_reducible apply keeps_evict | with_reducible apply keeps_modHold | with_reducible apply keeps_setRegN | with_reducible apply keeps_setFld | with_reducible apply keeps_ite | with_reducible apply keeps_ite2 | with_reducible apply keeps_foldl | split | ((with_reducible apply keeps_mk); (iterate 4 with_reducible exact rfl); first | with_reducible exact rfl | exact rfl))

theorem keeps_putStage {s0 s : State} (g : Nat) (h : Nat) (ws : List Nat) (t : Nat) (d : StageDecl) (hk : Keeps s0 s) :
   Keeps s0 (State.putStage s g h ws t d) := by
  unfold State.putStage
  repeat' (first | intro _ | with_reducible assumption | exact rfl | dsimp only | with_reducible apply keeps_setCounter | with_reducible apply keeps_map | with_reducible apply keeps_configStage | with_reducible apply keeps_setRegN | with_reducible apply keeps_configBarrier | with_reducible apply keeps_ite | with_reducible apply keeps_ite2 | with_reducible apply keeps_foldl | split | ((with_reducible apply keeps_mk); (iterate 4 with_reducible exact rfl); first | with_reducible exact rfl | exact rfl))

theorem keeps_putModel {s0 s : State} (f : Nat) (g : Nat) (m : ModelImg) (encrypted : Bool) (hk : Keeps s0 s) :
   Keeps s0 (State.putModel s f g m encrypted).2 := by
  unfold State.putModel
  repeat' (first | intro _ | with_reducible assumption | exact rfl | dsimp only | with_reducible apply keeps_takeFree | with_reducible apply keeps_memW | with_reducible apply keeps_loadProg | with_reducible apply keeps_modCore | with_reducible apply keeps_putStage | with_reducible apply keeps_pin | with_reducible apply keeps_ite | with_reducible apply keeps_ite2 | with_reducible apply keeps_foldl | split | ((with_reducible apply keeps_mk); (iterate 4 with_reducible exact rfl); first | with_reducible exact rfl | exact rfl))

theorem keeps_loadModel {s0 s : State} (r : CmdRef) (g : Nat) (m : ModelImg) (encrypted : Bool) (hk : Keeps s0 s) :
   Keeps s0 (State.loadModel s r g m encrypted) := by
  unfold State.loadModel
  repeat' (first | intro _ | with_reducible assumption | exact rfl | dsimp only | with_reducible apply keeps_putModel | with_reducible apply keeps_reply | with_reducible apply keeps_ite | with_reducible apply keeps_ite2 | with_reducible apply keeps_foldl | split | ((with_reducible apply keeps_mk); (iterate 4 with_reducible exact rfl); first | with_reducible exact rfl | exact rfl))

theorem keeps_loadEncrypted {s0 s : State} (r : CmdRef) (g : Nat) (slot : Nat) (k : KeyS) (m : ModelImg) (hk : Keeps s0 s) :
   Keeps s0 (State.loadEncrypted s r g slot k m) := by
  unfold State.loadEncrypted
  repeat' (first | intro _ | with_reducible assumption | exact rfl | dsimp only | with_reducible apply keeps_loadModel | with_reducible apply keeps_secCount | with_reducible apply keeps_clearFor | with_reducible apply keeps_ite | with_reducible apply keeps_ite2 | with_reducible apply keeps_foldl | split | ((with_reducible apply keeps_mk); (iterate 4 with_reducible exact rfl); first | with_reducible exact rfl | exact rfl))

theorem keeps_modelLoad {s0 s : State} (r : CmdRef) (m : ModelImg) (hk : Keeps s0 s) :
   Keeps s0 (State.modelLoad s r m) := by
  unfold State.modelLoad
  repeat' (first | intro _ | with_reducible assumption | exact rfl | dsimp only | with_reducible apply keeps_onCmd | with_reducible apply keeps_withRead | with_reducible apply keeps_loadModel | with_reducible apply keeps_secCount | with_reducible apply keeps_reply | with_reducible apply keeps_loadEncrypted | with_reducible apply keeps_ite | with_reducible apply keeps_ite2 | with_reducible apply keeps_foldl | split | ((with_reducible apply keeps_mk); (iterate 4 with_reducible exact rfl); first | with_reducible exact rfl | exact rfl))

theorem keeps_rebuildCore {s0 s : State} (i : Nat) (hk : Keeps s0 s) :
   Keeps s0 (State.rebuildCore s i) := by
  unfold State.rebuildCore
  repeat' (first | intro _ | with_reducible assumption | exact rfl | dsimp only | with_reducible apply keeps_modCore | with_reducible apply keeps_resetRegs | with_reducible apply keeps_reloadCore | with_reducible apply keeps_ite | with_reducible apply keeps_ite2 | with_reducible apply keeps_foldl | split | ((with_reducible apply keeps_mk); (iterate 4 with_reducible exact rfl); first | with_reducible exact rfl | exact rfl))

theorem keeps_dropModel {s0 s : State} (h : Nat) (m : ModelS) (writeBack : Bool) (hk : Keeps s0 s) :
   Keeps s0 (State.dropModel s h m writeBack) := by
  unfold State.dropModel
  repeat' (first | intro _ | with_reducible assumption | exact rfl | dsimp only | with_reducible apply keeps_map | with_reducible apply keeps_modCore | with_reducible apply keeps_rebuildCore | with_reducible apply keeps_setCounter | with_reducible apply keeps_setRegN | with_reducible apply keeps_unpin | with_reducible apply keeps_ite | with_reducible apply keeps_ite2 | with_reducible apply keeps_foldl | split | ((with_reducible apply keeps_mk); (iterate 4 with_reducible exact rfl); first | with_reducible exact rfl | exact rfl))

theorem keeps_modelUnload {s0 s : State} (r : CmdRef) (hk : Keeps s0 s) :
   Keeps s0 (State.modelUnload s r) := by
  unfold State.modelUnload
  repeat' (first | intro _ | with_reducible assumption | exact rfl | dsimp only | with_reducible apply keeps_onCmd | with_reducible apply keeps_reply | with_reducible apply keeps_dropModel | with_reducible apply keeps_clearFor | with_reducible apply keeps_map | with_reducible apply keeps_ite | with_reducible apply keeps_ite2 | with_reducible apply keeps_foldl | split | ((with_reducible apply keeps_mk); (iterate 4 with_reducible exact rfl); first | with_reducible exact rfl | exact rfl))

theorem keeps_modelBind {s0 s : State} (r : CmdRef) (hk : Keeps s0 s) :
   Keeps s0 (State.modelBind s r) := by
  unfold State.modelBind
  repeat' (first | intro _ | with_reducible assumption | exact rfl | dsimp only | with_reducible apply keeps_onCmd | with_reducible apply keeps_reply | with_reducible apply keeps_modCam | with_reducible apply keeps_ite | with_reducible apply keeps_ite2 | with_reducible apply keeps_foldl | split | ((with_reducible apply keeps_mk); (iterate 4 with_reducible exact rfl); first | with_reducible exact rfl | exact rfl))

theorem keeps_modelInfo {s0 s : State} (r : CmdRef) (hk : Keeps s0 s) :
   Keeps s0 (State.modelInfo s r) := by
  unfold State.modelInfo
  repeat' (first | intro _ | with_reducible assumption | exact rfl | dsimp only | with_reducible apply keeps_onCmd | with_reducible apply keeps_reply | with_reducible apply keeps_ite | with_reducible apply keeps_ite2 | with_reducible apply keeps_foldl | split | ((with_reducible apply keeps_mk); (iterate 4 with_reducible exact rfl); first | with_reducible exact rfl | exact rfl))

theorem keeps_calibCapture {s0 s : State} (r : CmdRef) (hk : Keeps s0 s) :
   Keeps s0 (State.calibCapture s r) := by
  unfold State.calibCapture
  repeat' (first | intro _ | with_reducible assumption | exact rfl | dsimp only | with_reducible apply keeps_onCmd | with_reducible apply keeps_reply | with_reducible apply keeps_modCam | with_reducible apply keeps_ite | with_reducible apply keeps_ite2 | with_reducible apply keeps_foldl | split | ((with_reducible apply keeps_mk); (iterate 4 with_reducible exact rfl); first | with_reducible exact rfl | exact rfl))

theorem keeps_captureRecord {s0 s : State} (n : Nat) (q : Nat) (hk : Keeps s0 s) :
   Keeps s0 (State.captureRecord s n q) := by
  unfold State.captureRecord
  repeat' (first | intro _ | with_reducible assumption | exact rfl | dsimp only | with_reducible apply keeps_hostWrite | with_reducible apply keeps_modCam | with_reducible apply keeps_reply | with_reducible apply keeps_ite | with_reducible apply keeps_ite2 | with_reducible apply keeps_foldl | split | ((with_reducible apply keeps_mk); (iterate 4 with_reducible exact rfl); first | with_reducible exact rfl | exact rfl))

theorem keeps_headerComplete {s0 s : State} (n : Nat) (q : Nat) (hk : Keeps s0 s) :
   Keeps s0 (State.headerComplete s n q) := by
  unfold State.headerComplete
  repeat' (first | intro _ | with_reducible assumption | exact rfl | dsimp only | with_reducible apply keeps_finalize | with_reducible apply keeps_captureRecord | with_reducible apply keeps_ite | with_reducible apply keeps_ite2 | with_reducible apply keeps_foldl | split | ((with_reducible apply keeps_mk); (iterate 4 with_reducible exact rfl); first | with_reducible exact rfl | exact rfl))

theorem keeps_deliverMsg {s0 s : State} (f : Nat) (c : Nat) (m : List Word) (hk : Keeps s0 s) :
   Keeps s0 (State.deliverMsg s f c m) := by
  unfold State.deliverMsg
  repeat' (first | intro _ | with_reducible assumption | exact rfl | dsimp only | with_reducible apply keeps_setReg | with_reducible apply keeps_setRegN | with_reducible apply keeps_raise | with_reducible apply keeps_ite | with_reducible apply keeps_ite2 | with_reducible apply keeps_foldl | split | ((with_reducible apply keeps_mk); (iterate 4 with_reducible exact rfl); first | with_reducible exact rfl | exact rfl))

theorem keeps_sendTo {s0 s : State} (f : Nat) (c : Nat) (m : List Word) (hk : Keeps s0 s) :
   Keeps s0 (State.sendTo s f c m) := by
  unfold State.sendTo
  repeat' (first | intro _ | with_reducible assumption | exact rfl | dsimp only | with_reducible apply keeps_modFn | with_reducible apply keeps_deliverMsg | with_reducible apply keeps_ite | with_reducible apply keeps_ite2 | with_reducible apply keeps_foldl | split | ((with_reducible apply keeps_mk); (iterate 4 with_reducible exact rfl); first | with_reducible exact rfl | exact rfl))

theorem keeps_rxTaken {s0 s : State} (f : Nat) (c : Nat) (hk : Keeps s0 s) :
   Keeps s0 (State.rxTaken s f c) := by
  unfold State.rxTaken
  repeat' (first | intro _ | with_reducible assumption | exact rfl | dsimp only | with_reducible apply keeps_setRegN | with_reducible apply keeps_modFn | with_reducible apply keeps_deliverMsg | with_reducible apply keeps_ite | with_reducible apply keeps_ite2 | with_reducible apply keeps_foldl | split | ((with_reducible apply keeps_mk); (iterate 4 with_reducible exact rfl); first | with_reducible exact rfl | exact rfl))

theorem keeps_rxRead {s0 s : State} (f : Nat) (c : Nat) (j : Nat) (hk : Keeps s0 s) :
   Keeps s0 (State.rxRead s f c j).2 := by
  unfold State.rxRead
  repeat' (first | intro _ | with_reducible assumption | exact rfl | dsimp only | with_reducible apply keeps_rxTaken | with_reducible apply keeps_ite | with_reducible apply keeps_ite2 | with_reducible apply keeps_foldl | split | ((with_reducible apply keeps_mk); (iterate 4 with_reducible exact rfl); first | with_reducible exact rfl | exact rfl))

theorem keeps_rxReadLast {s0 s : State} (f : Nat) (c : Nat) (hk : Keeps s0 s) :
   Keeps s0 (State.rxReadLast s f c) := by
  unfold State.rxReadLast
  repeat' (first | intro _ | with_reducible assumption | exact rfl | dsimp only | with_reducible apply keeps_rxRead | with_reducible apply keeps_emit | with_reducible apply keeps_ite | with_reducible apply keeps_ite2 | with_reducible apply keeps_foldl | split | ((with_reducible apply keeps_mk); (iterate 4 with_reducible exact rfl); first | with_reducible exact rfl | exact rfl))

theorem keeps_txConfig {s0 s : State} (f : Nat) (sfl : Bool) (v : Nat) (hk : Keeps s0 s) :
   Keeps s0 (State.txConfig s f sfl v) := by
  unfold State.txConfig
  repeat' (first | intro _ | with_reducible assumption | exact rfl | dsimp only | with_reducible apply keeps_setRegN | with_reducible apply keeps_ite | with_reducible apply keeps_ite2 | with_reducible apply keeps_foldl | split | ((with_reducible apply keeps_mk); (iterate 4 with_reducible exact rfl); first | with_reducible exact rfl | exact rfl))

theorem keeps_txSend {s0 s : State} (f : Nat) (sfl : Bool) (v : Nat) (hk : Keeps s0 s) :
   Keeps s0 (State.txSend s f sfl v) := by
  unfold State.txSend
  repeat' (first | intro _ | with_reducible assumption | exact rfl | dsimp only | with_reducible apply keeps_setRegN | with_reducible apply keeps_txConfig | with_reducible apply keeps_map | with_reducible apply keeps_modFn | with_reducible apply keeps_ite | with_reducible apply keeps_ite2 | with_reducible apply keeps_foldl | split | ((with_reducible apply keeps_mk); (iterate 4 with_reducible exact rfl); first | with_reducible exact rfl | exact rfl))

theorem keeps_txWrite {s0 s : State} (f : Nat) (sfl : Bool) (v : Nat) (hk : Keeps s0 s) :
   Keeps s0 (State.txWrite s f sfl v) := by
  unfold State.txWrite
  repeat' (first | intro _ | with_reducible assumption | exact rfl | dsimp only | with_reducible apply keeps_txSend | with_reducible apply keeps_txConfig | with_reducible apply keeps_ite | with_reducible apply keeps_ite2 | with_reducible apply keeps_foldl | split | ((with_reducible apply keeps_mk); (iterate 4 with_reducible exact rfl); first | with_reducible exact rfl | exact rfl))

theorem keeps_txTaken {s0 s : State} (f : Nat) (sfl : Bool) (hk : Keeps s0 s) :
   Keeps s0 (State.txTaken s f sfl) := by
  unfold State.txTaken
  repeat' (first | intro _ | with_reducible assumption | exact rfl | dsimp only | with_reducible apply keeps_setRegN | with_reducible apply keeps_raise | with_reducible apply keeps_ite | with_reducible apply keeps_ite2 | with_reducible apply keeps_foldl | split | ((with_reducible apply keeps_mk); (iterate 4 with_reducible exact rfl); first | with_reducible exact rfl | exact rfl))

theorem keeps_ping {s0 s : State} (f : Nat) (cp : Nat) (hk : Keeps s0 s) :
   Keeps s0 (State.ping s f cp) := by
  unfold State.ping
  repeat' (first | intro _ | with_reducible assumption | exact rfl | dsimp only | with_reducible apply keeps_modFn | with_reducible apply keeps_txTaken | with_reducible apply keeps_sendTo | with_reducible apply keeps_ite | with_reducible apply keeps_ite2 | with_reducible apply keeps_foldl | split | ((with_reducible apply keeps_mk); (iterate 4 with_reducible exact rfl); first | with_reducible exact rfl | exact rfl))

theorem keeps_notice {s0 s : State} (us : Nat) (hk : Keeps s0 s) :
   Keeps s0 (State.notice s us) := by
  unfold State.notice
  repeat' (first | intro _ | with_reducible assumption | exact rfl | dsimp only | with_reducible apply keeps_takeFree | with_reducible apply keeps_sendTo | with_reducible apply keeps_ite | with_reducible apply keeps_ite2 | with_reducible apply keeps_foldl | split | ((with_reducible apply keeps_mk); (iterate 4 with_reducible exact rfl); first | with_reducible exact rfl | exact rfl))

theorem keeps_driveFrom {s0 s : State} (old : State) (hk : Keeps s0 s) :
   Keeps s0 (State.driveFrom s old) := by
  unfold State.driveFrom
  repeat' (first | intro _ | with_reducible assumption | exact rfl | dsimp only | with_reducible apply keeps_emit | with_reducible apply keeps_ite | with_reducible apply keeps_ite2 | with_reducible apply keeps_foldl | split | ((with_reducible apply keeps_mk); (iterate 4 with_reducible exact rfl); first | with_reducible exact rfl | exact rfl))

theorem keeps_claimRefused {s0 s : State} (r : Nat) (hk : Keeps s0 s) :
   Keeps s0 (State.claimRefused s r) := by
  unfold State.claimRefused
  repeat' (first | intro _ | with_reducible assumption | exact rfl | dsimp only | with_reducible apply keeps_setFld | with_reducible apply keeps_ite | with_reducible apply keeps_ite2 | with_reducible apply keeps_foldl | split | ((with_reducible apply keeps_mk); (iterate 4 with_reducible exact rfl); first | with_reducible exact rfl | exact rfl))

theorem keeps_pinClaim {s0 s : State} (v : Nat) (hk : Keeps s0 s) :
   Keeps s0 (State.pinClaim s v) := by
  unfold State.pinClaim
  repeat' (first | intro _ | with_reducible assumption | exact rfl | dsimp only | with_reducible apply keeps_setFld | with_reducible apply keeps_driveFrom | with_reducible apply keeps_claimRefused | with_reducible apply keeps_ite | with_reducible apply keeps_ite2 | with_reducible apply keeps_foldl | split | ((with_reducible apply keeps_mk); (iterate 4 with_reducible exact rfl); first | with_reducible exact rfl | exact rfl))

theorem keeps_syncUngrant {s0 s : State} (r : Nat) (hk : Keeps s0 s) :
   Keeps s0 (State.syncUngrant s r) := by
  unfold State.syncUngrant
  repeat' (first | intro _ | with_reducible assumption | exact rfl | dsimp only | with_reducible apply keeps_modTime | with_reducible apply keeps_emit | with_reducible apply keeps_ite | with_reducible apply keeps_ite2 | with_reducible apply keeps_foldl | split | ((with_reducible apply keeps_mk); (iterate 4 with_reducible exact rfl); first | with_reducible exact rfl | exact rfl))

theorem keeps_pinRelease {s0 s : State} (v : Nat) (hk : Keeps s0 s) :
   Keeps s0 (State.pinRelease s v) := by
  unfold State.pinRelease
  repeat' (first | intro _ | with_reducible assumption | exact rfl | dsimp only | with_reducible apply keeps_setFld | with_reducible apply keeps_driveFrom | with_reducible apply keeps_syncUngrant | with_reducible apply keeps_claimRefused | with_reducible apply keeps_ite | with_reducible apply keeps_ite2 | with_reducible apply keeps_foldl | split | ((with_reducible apply keeps_mk); (iterate 4 with_reducible exact rfl); first | with_reducible exact rfl | exact rfl))

theorem keeps_pinClaimWrite {s0 s : State} (v : Nat) (hk : Keeps s0 s) :
   Keeps s0 (State.pinClaimWrite s v) := by
  unfold State.pinClaimWrite
  repeat' (first | intro _ | with_reducible assumption | exact rfl | dsimp only | with_reducible apply keeps_pinRelease | with_reducible apply keeps_pinClaim | with_reducible apply keeps_ite | with_reducible apply keeps_ite2 | with_reducible apply keeps_foldl | split | ((with_reducible apply keeps_mk); (iterate 4 with_reducible exact rfl); first | with_reducible exact rfl | exact rfl))

theorem keeps_modSec {s0 s : State} (f : SecS → SecS) (hk : Keeps s0 s) :
   Keeps s0 (State.modSec s f) := by
  unfold State.modSec
  repeat' (first | intro _ | with_reducible assumption | exact rfl | dsimp only | with_reducible apply keeps_ite | with_reducible apply keeps_ite2 | with_reducible apply keeps_foldl | split | ((with_reducible apply keeps_mk); (iterate 4 with_reducible exact rfl); first | with_reducible exact rfl | exact rfl))

theorem keeps_modBoot {s0 s : State} (f : BootS → BootS) (hk : Keeps s0 s) :
   Keeps s0 (State.modBoot s f) := by
  unfold State.modBoot
  repeat' (first | intro _ | with_reducible assumption | exact rfl | dsimp only | with_reducible apply keeps_ite | with_reducible apply keeps_ite2 | with_reducible apply keeps_foldl | split | ((with_reducible apply keeps_mk); (iterate 4 with_reducible exact rfl); first | with_reducible exact rfl | exact rfl))

theorem keeps_showMeas {s0 s : State} (m : Nat) (d : List Byte) (hk : Keeps s0 s) :
   Keeps s0 (State.showMeas s m d) := by
  unfold State.showMeas
  repeat' (first | intro _ | with_reducible assumption | exact rfl | dsimp only | with_reducible apply keeps_setRegN | with_reducible apply keeps_ite | with_reducible apply keeps_ite2 | with_reducible apply keeps_foldl | split | ((with_reducible apply keeps_mk); (iterate 4 with_reducible exact rfl); first | with_reducible exact rfl | exact rfl))

theorem keeps_setMeas {s0 s : State} (m : Nat) (d : List Byte) (hk : Keeps s0 s) :
   Keeps s0 (State.setMeas s m d) := by
  unfold State.setMeas
  repeat' (first | intro _ | with_reducible assumption | exact rfl | dsimp only | with_reducible apply keeps_modSec | with_reducible apply keeps_showMeas | with_reducible apply keeps_ite | with_reducible apply keeps_ite2 | with_reducible apply keeps_foldl | split | ((with_reducible apply keeps_mk); (iterate 4 with_reducible exact rfl); first | with_reducible exact rfl | exact rfl))

theorem keeps_deriveIdentity {s0 s : State} (hk : Keeps s0 s) :
   Keeps s0 (State.deriveIdentity s) := by
  unfold State.deriveIdentity
  repeat' (first | intro _ | with_reducible assumption | exact rfl | dsimp only | with_reducible apply keeps_setRegN | with_reducible apply keeps_ite | with_reducible apply keeps_ite2 | with_reducible apply keeps_foldl | split | ((with_reducible apply keeps_mk); (iterate 4 with_reducible exact rfl); first | with_reducible exact rfl | exact rfl))

theorem keeps_engineBusy {s0 s : State} (r : CmdRef) (hk : Keeps s0 s) :
   Keeps s0 (State.engineBusy s r) := by
  unfold State.engineBusy
  repeat' (first | intro _ | with_reducible assumption | exact rfl | dsimp only | with_reducible apply keeps_reply | with_reducible apply keeps_ite | with_reducible apply keeps_ite2 | with_reducible apply keeps_foldl | split | ((with_reducible apply keeps_mk); (iterate 4 with_reducible exact rfl); first | with_reducible exact rfl | exact rfl))

theorem keeps_keyEphemeral {s0 s : State} (r : CmdRef) (hk : Keeps s0 s) :
   Keeps s0 (State.keyEphemeral s r) := by
  unfold State.keyEphemeral
  repeat' (first | intro _ | with_reducible assumption | exact rfl | dsimp only | with_reducible apply keeps_onCmd | with_reducible apply keeps_engineBusy | with_reducible apply keeps_takeFree | with_reducible apply keeps_modSec | with_reducible apply keeps_hostWrite | with_reducible apply keeps_reply | with_reducible apply keeps_ite | with_reducible apply keeps_ite2 | with_reducible apply keeps_foldl | split | ((with_reducible apply keeps_mk); (iterate 4 with_reducible exact rfl); first | with_reducible exact rfl | exact rfl))

theorem keeps_keyExpiry {s0 s : State} (f : Nat) (hk : Keeps s0 s) :
   Keeps s0 (State.keyExpiry s f) := by
  unfold State.keyExpiry
  repeat' (first | intro _ | with_reducible assumption | exact rfl | dsimp only | with_reducible apply keeps_modSec | with_reducible apply keeps_ite | with_reducible apply keeps_ite2 | with_reducible apply keeps_foldl | split | ((with_reducible apply keeps_mk); (iterate 4 with_reducible exact rfl); first | with_reducible exact rfl | exact rfl))

theorem keeps_keyDenied {s0 s : State} (r : CmdRef) (hk : Keeps s0 s) :
   Keeps s0 (State.keyDenied s r) := by
  unfold State.keyDenied
  repeat' (first | intro _ | with_reducible assumption | exact rfl | dsimp only | with_reducible apply keeps_secCount | with_reducible apply keeps_reply | with_reducible apply keeps_ite | with_reducible apply keeps_ite2 | with_reducible apply keeps_foldl | split | ((with_reducible apply keeps_mk); (iterate 4 with_reducible exact rfl); first | with_reducible exact rfl | exact rfl))

theorem keeps_keyImport {s0 s : State} (r : CmdRef) (blob : List Byte) (hk : Keeps s0 s) :
   Keeps s0 (State.keyImport s r blob) := by
  unfold State.keyImport
  repeat' (first | intro _ | with_reducible assumption | exact rfl | dsimp only | with_reducible apply keeps_onCmd | with_reducible apply keeps_engineBusy | with_reducible apply keeps_reply | with_reducible apply keeps_withRead | with_reducible apply keeps_keyDenied | with_reducible apply keeps_modSec | with_reducible apply keeps_secCount | with_reducible apply keeps_ite | with_reducible apply keeps_ite2 | with_reducible apply keeps_foldl | split | ((with_reducible apply keeps_mk); (iterate 4 with_reducible exact rfl); first | with_reducible exact rfl | exact rfl))

theorem keeps_revokeKeys {s0 s : State} (hk : Keeps s0 s) :
   Keeps s0 (State.revokeKeys s) := by
  unfold State.revokeKeys
  repeat' (first | intro _ | with_reducible assumption | exact rfl | dsimp only | with_reducible apply keeps_modSec | with_reducible apply keeps_event | with_reducible apply keeps_ite | with_reducible apply keeps_ite2 | with_reducible apply keeps_foldl | split | ((with_reducible apply keeps_mk); (iterate 4 with_reducible exact rfl); first | with_reducible exact rfl | exact rfl))

theorem keeps_clearKeys {s0 s : State} (f : Nat) (hk : Keeps s0 s) :
   Keeps s0 (State.clearKeys s f) := by
  unfold State.clearKeys
  repeat' (first | intro _ | with_reducible assumption | exact rfl | dsimp only | with_reducible apply keeps_modSec | with_reducible apply keeps_ite | with_reducible apply keeps_ite2 | with_reducible apply keeps_foldl | split | ((with_reducible apply keeps_mk); (iterate 4 with_reducible exact rfl); first | with_reducible exact rfl | exact rfl))

theorem keeps_attest {s0 s : State} (r : CmdRef) (hk : Keeps s0 s) :
   Keeps s0 (State.attest s r) := by
  unfold State.attest
  repeat' (first | intro _ | with_reducible assumption | exact rfl | dsimp only | with_reducible apply keeps_onCmd | with_reducible apply keeps_engineBusy | with_reducible apply keeps_reply | with_reducible apply keeps_hostWrite | with_reducible apply keeps_modSec | with_reducible apply keeps_secCount | with_reducible apply keeps_ite | with_reducible apply keeps_ite2 | with_reducible apply keeps_foldl | split | ((with_reducible apply keeps_mk); (iterate 4 with_reducible exact rfl); first | with_reducible exact rfl | exact rfl))

theorem keeps_tenantEnable {s0 s : State} (r : CmdRef) (hk : Keeps s0 s) :
   Keeps s0 (State.tenantEnable s r) := by
  unfold State.tenantEnable
  repeat' (first | intro _ | with_reducible assumption | exact rfl | dsimp only | with_reducible apply keeps_onCmd | with_reducible apply keeps_reply | with_reducible apply keeps_setFld | with_reducible apply keeps_ite | with_reducible apply keeps_ite2 | with_reducible apply keeps_foldl | split | ((with_reducible apply keeps_mk); (iterate 4 with_reducible exact rfl); first | with_reducible exact rfl | exact rfl))

theorem keeps_killCore {s0 s : State} (i : Nat) (hk : Keeps s0 s) :
   Keeps s0 (State.killCore s i) := by
  unfold State.killCore
  repeat' (first | intro _ | with_reducible assumption | exact rfl | dsimp only | with_reducible apply keeps_recordFault | with_reducible apply keeps_setCoreState | with_reducible apply keeps_stopCore | with_reducible apply keeps_setCounter | with_reducible apply keeps_modCore | with_reducible apply keeps_ite | with_reducible apply keeps_ite2 | with_reducible apply keeps_foldl | split | ((with_reducible apply keeps_mk); (iterate 4 with_reducible exact rfl); first | with_reducible exact rfl | exact rfl))

theorem keeps_endCommands {s0 s : State} (f : Nat) (hk : Keeps s0 s) :
   Keeps s0 (State.endCommands s f) := by
  unfold State.endCommands
  repeat' (first | intro _ | with_reducible assumption | exact rfl | dsimp only | with_reducible apply keeps_reply | with_reducible apply keeps_ite | with_reducible apply keeps_ite2 | with_reducible apply keeps_foldl | split | ((with_reducible apply keeps_mk); (iterate 4 with_reducible exact rfl); first | with_reducible exact rfl | exact rfl))

theorem keeps_scrubModel {s0 s : State} (h : Nat) (m : ModelS) (hk : Keeps s0 s) :
   Keeps s0 (State.scrubModel s h m) := by
  unfold State.scrubModel
  repeat' (first | intro _ | with_reducible assumption | exact rfl | dsimp only | with_reducible apply keeps_dropModel | with_reducible apply keeps_clearFor | with_reducible apply keeps_map | with_reducible apply keeps_ite | with_reducible apply keeps_ite2 | with_reducible apply keeps_foldl | split | ((with_reducible apply keeps_mk); (iterate 4 with_reducible exact rfl); first | with_reducible exact rfl | exact rfl))

theorem keeps_scrubStop {s0 s : State} (k : Nat) (hk : Keeps s0 s) :
   Keeps s0 (State.scrubStop s k) := by
  unfold State.scrubStop
  repeat' (first | intro _ | with_reducible assumption | exact rfl | dsimp only | with_reducible apply keeps_setFld | with_reducible apply keeps_modSec | with_reducible apply keeps_traceEv | with_reducible apply keeps_endCommands | with_reducible apply keeps_map | with_reducible apply keeps_stopStream | with_reducible apply keeps_killCore | with_reducible apply keeps_modFn | with_reducible apply keeps_scrubModel | with_reducible apply keeps_adaptEnd | with_reducible apply keeps_clearKeys | with_reducible apply keeps_ite | with_reducible apply keeps_ite2 | with_reducible apply keeps_foldl | split | ((with_reducible apply keeps_mk); (iterate 4 with_reducible exact rfl); first | with_reducible exact rfl | exact rfl))

theorem keeps_scrub {s0 s : State} (k : Nat) (r : Option CmdRef) (reset : Bool) (hk : Keeps s0 s) :
   Keeps s0 (State.scrub s k r reset) := by
  unfold State.scrub
  repeat' (first | intro _ | with_reducible assumption | exact rfl | dsimp only | with_reducible apply keeps_scrubStop | with_reducible apply keeps_modSec | with_reducible apply keeps_map | with_reducible apply keeps_ite | with_reducible apply keeps_ite2 | with_reducible apply keeps_foldl | split | ((with_reducible apply keeps_mk); (iterate 4 with_reducible exact rfl); first | with_reducible exact rfl | exact rfl))

theorem keeps_tenantKill {s0 s : State} (r : CmdRef) (hk : Keeps s0 s) :
   Keeps s0 (State.tenantKill s r) := by
  unfold State.tenantKill
  repeat' (first | intro _ | with_reducible assumption | exact rfl | dsimp only | with_reducible apply keeps_onCmd | with_reducible apply keeps_reply | with_reducible apply keeps_scrub | with_reducible apply keeps_ite | with_reducible apply keeps_ite2 | with_reducible apply keeps_foldl | split | ((with_reducible apply keeps_mk); (iterate 4 with_reducible exact rfl); first | with_reducible exact rfl | exact rfl))

theorem keeps_dropWays {s0 s : State} (mask : Nat) (ranges : List (Nat × Nat)) (hk : Keeps s0 s) :
   Keeps s0 (State.dropWays s mask ranges) := by
  unfold State.dropWays
  repeat' (first | intro _ | with_reducible assumption | exact rfl | dsimp only | with_reducible apply keeps_modHold | with_reducible apply keeps_takeFree | with_reducible apply keeps_memPut | with_reducible apply keeps_ite | with_reducible apply keeps_ite2 | with_reducible apply keeps_foldl | split | ((with_reducible apply keeps_mk); (iterate 4 with_reducible exact rfl); first | with_reducible exact rfl | exact rfl))

theorem keeps_scrubOnchip {s0 s : State} (k : Nat) (hk : Keeps s0 s) :
   Keeps s0 (State.scrubOnchip s k) := by
  unfold State.scrubOnchip
  repeat' (first | intro _ | with_reducible assumption | exact rfl | dsimp only | with_reducible apply keeps_snufRun | with_reducible apply keeps_modCore | with_reducible apply keeps_haltCore | with_reducible apply keeps_clearCore | with_reducible apply keeps_map | with_reducible apply keeps_modGroup | with_reducible apply keeps_dropWays | with_reducible apply keeps_modSec | with_reducible apply keeps_ite | with_reducible apply keeps_ite2 | with_reducible apply keeps_foldl | split | ((with_reducible apply keeps_mk); (iterate 4 with_reducible exact rfl); first | with_reducible exact rfl | exact rfl))

theorem keeps_resetWindow {s0 s : State} (f : Nat) (hk : Keeps s0 s) :
   Keeps s0 (State.resetWindow s f) := by
  unfold State.resetWindow
  repeat' (first | intro _ | with_reducible assumption | exact rfl | dsimp only | with_reducible apply keeps_resetRegs | with_reducible apply keeps_modFn | with_reducible apply keeps_ite | with_reducible apply keeps_ite2 | with_reducible apply keeps_foldl | split | ((with_reducible apply keeps_mk); (iterate 4 with_reducible exact rfl); first | with_reducible exact rfl | exact rfl))

theorem keeps_scrubMemory {s0 s : State} (k : Nat) (hk : Keeps s0 s) :
   Keeps s0 (State.scrubMemory s k) := by
  unfold State.scrubMemory
  repeat' (first | intro _ | with_reducible assumption | exact rfl | dsimp only | with_reducible apply keeps_snufRun | with_reducible apply keeps_zeroRange | with_reducible apply keeps_modSec | with_reducible apply keeps_resetWindow | with_reducible apply keeps_setFld | with_reducible apply keeps_traceEv | with_reducible apply keeps_event | with_reducible apply keeps_secCount | with_reducible apply keeps_reply | with_reducible apply keeps_ite | with_reducible apply keeps_ite2 | with_reducible apply keeps_foldl | split | ((with_reducible apply keeps_mk); (iterate 4 with_reducible exact rfl); first | with_reducible exact rfl | exact rfl))

theorem keeps_flrVf {s0 s : State} (k : Nat) (hk : Keeps s0 s) :
   Keeps s0 (State.flrVf s k) := by
  unfold State.flrVf
  repeat' (first | intro _ | with_reducible assumption | exact rfl | dsimp only | with_reducible apply keeps_scrub | with_reducible apply keeps_ite | with_reducible apply keeps_ite2 | with_reducible apply keeps_foldl | split | ((with_reducible apply keeps_mk); (iterate 4 with_reducible exact rfl); first | with_reducible exact rfl | exact rfl))

theorem keeps_vfClear {s0 s : State} (hk : Keeps s0 s) :
   Keeps s0 (State.vfClear s) := by
  unfold State.vfClear
  repeat' (first | intro _ | with_reducible assumption | exact rfl | dsimp only | with_reducible apply keeps_scrub | with_reducible apply keeps_ite | with_reducible apply keeps_ite2 | with_reducible apply keeps_foldl | split | ((with_reducible apply keeps_mk); (iterate 4 with_reducible exact rfl); first | with_reducible exact rfl | exact rfl))

theorem keeps_disableFn {s0 s : State} (f : Nat) (hk : Keeps s0 s) :
   Keeps s0 (State.disableFn s f) := by
  unfold State.disableFn
  repeat' (first | intro _ | with_reducible assumption | exact rfl | dsimp only | with_reducible apply keeps_cqDisable | with_reducible apply keeps_setFld | with_reducible apply keeps_setRegN | with_reducible apply keeps_modFn | with_reducible apply keeps_ite | with_reducible apply keeps_ite2 | with_reducible apply keeps_foldl | split | ((with_reducible apply keeps_mk); (iterate 4 with_reducible exact rfl); first | with_reducible exact rfl | exact rfl))

theorem keeps_flrPf {s0 s : State} (hk : Keeps s0 s) :
   Keeps s0 (State.flrPf s) := by
  unfold State.flrPf
  repeat' (first | intro _ | with_reducible assumption | exact rfl | dsimp only | with_reducible apply keeps_stopStream | with_reducible apply keeps_vfClear | with_reducible apply keeps_disableFn | with_reducible apply keeps_map | with_reducible apply keeps_ite | with_reducible apply keeps_ite2 | with_reducible apply keeps_foldl | split | ((with_reducible apply keeps_mk); (iterate 4 with_reducible exact rfl); first | with_reducible exact rfl | exact rfl))

theorem keeps_engineError {s0 s : State} (hk : Keeps s0 s) :
   Keeps s0 (State.engineError s) := by
  unfold State.engineError
  repeat' (first | intro _ | with_reducible assumption | exact rfl | dsimp only | with_reducible apply keeps_setFld | with_reducible apply keeps_modSec | with_reducible apply keeps_secCount | with_reducible apply keeps_logEvent | with_reducible apply keeps_revokeKeys | with_reducible apply keeps_notice | with_reducible apply keeps_ite | with_reducible apply keeps_ite2 | with_reducible apply keeps_foldl | split | ((with_reducible apply keeps_mk); (iterate 4 with_reducible exact rfl); first | with_reducible exact rfl | exact rfl))

theorem keeps_engineReady {s0 s : State} (hk : Keeps s0 s) :
   Keeps s0 (State.engineReady s) := by
  unfold State.engineReady
  repeat' (first | intro _ | with_reducible assumption | exact rfl | dsimp only | with_reducible apply keeps_setFld | with_reducible apply keeps_deriveIdentity | with_reducible apply keeps_showMeas | with_reducible apply keeps_modSec | with_reducible apply keeps_keyDenied | with_reducible apply keeps_ite | with_reducible apply keeps_ite2 | with_reducible apply keeps_foldl | split | ((with_reducible apply keeps_mk); (iterate 4 with_reducible exact rfl); first | with_reducible exact rfl | exact rfl))

theorem keeps_fwStage {s0 s : State} (r : CmdRef) (x : FwImage) (hk : Keeps s0 s) :
   Keeps s0 (State.fwStage s r x) := by
  unfold State.fwStage
  repeat' (first | intro _ | with_reducible assumption | exact rfl | dsimp only | with_reducible apply keeps_onCmd | with_reducible apply keeps_engineBusy | with_reducible apply keeps_reply | with_reducible apply keeps_withRead | with_reducible apply keeps_modSec | with_reducible apply keeps_modBoot | with_reducible apply keeps_emit | with_reducible apply keeps_setMeas | with_reducible apply keeps_setFld | with_reducible apply keeps_ite | with_reducible apply keeps_ite2 | with_reducible apply keeps_foldl | split | ((with_reducible apply keeps_mk); (iterate 4 with_reducible exact rfl); first | with_reducible exact rfl | exact rfl))

theorem keeps_fwSwitch {s0 s : State} (r : CmdRef) (hk : Keeps s0 s) :
   Keeps s0 (State.fwSwitch s r) := by
  unfold State.fwSwitch
  repeat' (first | intro _ | with_reducible assumption | exact rfl | dsimp only | with_reducible apply keeps_onCmd | with_reducible apply keeps_reply | with_reducible apply keeps_modBoot | with_reducible apply keeps_ite | with_reducible apply keeps_ite2 | with_reducible apply keeps_foldl | split | ((with_reducible apply keeps_mk); (iterate 4 with_reducible exact rfl); first | with_reducible exact rfl | exact rfl))

theorem keeps_switchBegin {s0 s : State} (hk : Keeps s0 s) :
   Keeps s0 (State.switchBegin s) := by
  unfold State.switchBegin
  repeat' (first | intro _ | with_reducible assumption | exact rfl | dsimp only | with_reducible apply keeps_modBoot | with_reducible apply keeps_notice | with_reducible apply keeps_pauseAdapt | with_reducible apply keeps_traceEv | with_reducible apply keeps_ite | with_reducible apply keeps_ite2 | with_reducible apply keeps_foldl | split | ((with_reducible apply keeps_mk); (iterate 4 with_reducible exact rfl); first | with_reducible exact rfl | exact rfl))

theorem keeps_switchEnd {s0 s : State} (w : SwitchS) (arg : Nat) (status : Nat) (hk : Keeps s0 s) :
   Keeps s0 (State.switchEnd s w arg status) := by
  unfold State.switchEnd
  repeat' (first | intro _ | with_reducible assumption | exact rfl | dsimp only | with_reducible apply keeps_unpauseAdapt | with_reducible apply keeps_modBoot | with_reducible apply keeps_traceEv | with_reducible apply keeps_reply | with_reducible apply keeps_ite | with_reducible apply keeps_ite2 | with_reducible apply keeps_foldl | split | ((with_reducible apply keeps_mk); (iterate 4 with_reducible exact rfl); first | with_reducible exact rfl | exact rfl))

theorem keeps_switchFail {s0 s : State} (w : SwitchS) (hk : Keeps s0 s) :
   Keeps s0 (State.switchFail s w) := by
  unfold State.switchFail
  repeat' (first | intro _ | with_reducible assumption | exact rfl | dsimp only | with_reducible apply keeps_logEvent | with_reducible apply keeps_switchEnd | with_reducible apply keeps_ite | with_reducible apply keeps_ite2 | with_reducible apply keeps_foldl | split | ((with_reducible apply keeps_mk); (iterate 4 with_reducible exact rfl); first | with_reducible exact rfl | exact rfl))

theorem keeps_reloaded {s0 s : State} (ok : Bool) (hk : Keeps s0 s) :
   Keeps s0 (State.reloaded s ok) := by
  unfold State.reloaded
  repeat' (first | intro _ | with_reducible assumption | exact rfl | dsimp only | with_reducible apply keeps_modBoot | with_reducible apply keeps_switchFail | with_reducible apply keeps_ite | with_reducible apply keeps_ite2 | with_reducible apply keeps_foldl | split | ((with_reducible apply keeps_mk); (iterate 4 with_reducible exact rfl); first | with_reducible exact rfl | exact rfl))

theorem keeps_resumeTimeout {s0 s : State} (hk : Keeps s0 s) :
   Keeps s0 (State.resumeTimeout s) := by
  unfold State.resumeTimeout
  repeat' (first | intro _ | with_reducible assumption | exact rfl | dsimp only | with_reducible apply keeps_switchFail | with_reducible apply keeps_ite | with_reducible apply keeps_ite2 | with_reducible apply keeps_foldl | split | ((with_reducible apply keeps_mk); (iterate 4 with_reducible exact rfl); first | with_reducible exact rfl | exact rfl))

theorem keeps_switchComplete {s0 s : State} (hk : Keeps s0 s) :
   Keeps s0 (State.switchComplete s) := by
  unfold State.switchComplete
  repeat' (first | intro _ | with_reducible assumption | exact rfl | dsimp only | with_reducible apply keeps_modBoot | with_reducible apply keeps_emit | with_reducible apply keeps_setMeas | with_reducible apply keeps_modSec | with_reducible apply keeps_setFld | with_reducible apply keeps_revokeKeys | with_reducible apply keeps_switchEnd | with_reducible apply keeps_ite | with_reducible apply keeps_ite2 | with_reducible apply keeps_foldl | split | ((with_reducible apply keeps_mk); (iterate 4 with_reducible exact rfl); first | with_reducible exact rfl | exact rfl))

theorem keeps_freshStream {s0 s : State} (n : Nat) (hk : Keeps s0 s) :
   Keeps s0 (State.freshStream s n) := by
  unfold State.freshStream
  repeat' (first | intro _ | with_reducible assumption | exact rfl | dsimp only | with_reducible apply keeps_forgetDrawn | with_reducible apply keeps_setRegN | with_reducible apply keeps_setFld | with_reducible apply keeps_ite | with_reducible apply keeps_ite2 | with_reducible apply keeps_foldl | split | ((with_reducible apply keeps_mk); (iterate 4 with_reducible exact rfl); first | with_reducible exact rfl | exact rfl))

theorem keeps_forgetCommit {s0 s : State} (n : Nat) (hk : Keeps s0 s) :
   Keeps s0 (State.forgetCommit s n) := by
  unfold State.forgetCommit
  repeat' (first | intro _ | with_reducible assumption | exact rfl | dsimp only | with_reducible apply keeps_modPort | with_reducible apply keeps_map | with_reducible apply keeps_ite | with_reducible apply keeps_ite2 | with_reducible apply keeps_foldl | split | ((with_reducible apply keeps_mk); (iterate 4 with_reducible exact rfl); first | with_reducible exact rfl | exact rfl))

theorem keeps_reserve {s0 s : State} (n : Nat) (set : ExpoSet) (hk : Keeps s0 s) :
   Keeps s0 (State.reserve s n set) := by
  unfold State.reserve
  repeat' (first | intro _ | with_reducible assumption | exact rfl | dsimp only | with_reducible apply keeps_modGroup | with_reducible apply keeps_modCam | with_reducible apply keeps_forgetCommit | with_reducible apply keeps_freshStream | with_reducible apply keeps_enablesNow | with_reducible apply keeps_setFld | with_reducible apply keeps_ite | with_reducible apply keeps_ite2 | with_reducible apply keeps_foldl | split | ((with_reducible apply keeps_mk); (iterate 4 with_reducible exact rfl); first | with_reducible exact rfl | exact rfl))

theorem keeps_beginStream {s0 s : State} (n : Nat) (r : CmdRef) (hk : Keeps s0 s) :
   Keeps s0 (State.beginStream s n r) := by
  unfold State.beginStream
  repeat' (first | intro _ | with_reducible assumption | exact rfl | dsimp only | with_reducible apply keeps_setEvt | with_reducible apply keeps_adaptAtStart | with_reducible apply keeps_reserve | with_reducible apply keeps_modCam | with_reducible apply keeps_startOutcome | with_reducible apply keeps_sendSettings | with_reducible apply keeps_ite | with_reducible apply keeps_ite2 | with_reducible apply keeps_foldl | split | ((with_reducible apply keeps_mk); (iterate 4 with_reducible exact rfl); first | with_reducible exact rfl | exact rfl))

theorem keeps_streamStart {s0 s : State} (r : CmdRef) (hk : Keeps s0 s) :
   Keeps s0 (State.streamStart s r) := by
  unfold State.streamStart
  repeat' (first | intro _ | with_reducible assumption | exact rfl | dsimp only | with_reducible apply keeps_onCmd | with_reducible apply keeps_reply | with_reducible apply keeps_setFld | with_reducible apply keeps_beginStream | with_reducible apply keeps_ite | with_reducible apply keeps_ite2 | with_reducible apply keeps_foldl | split | ((with_reducible apply keeps_mk); (iterate 4 with_reducible exact rfl); first | with_reducible exact rfl | exact rfl))

theorem keeps_streamStop {s0 s : State} (r : CmdRef) (abort : Bool) (hk : Keeps s0 s) :
   Keeps s0 (State.streamStop s r abort) := by
  unfold State.streamStop
  repeat' (first | intro _ | with_reducible assumption | exact rfl | dsimp only | with_reducible apply keeps_onCmd | with_reducible apply keeps_reply | with_reducible apply keeps_stopStream | with_reducible apply keeps_ite | with_reducible apply keeps_ite2 | with_reducible apply keeps_foldl | split | ((with_reducible apply keeps_mk); (iterate 4 with_reducible exact rfl); first | with_reducible exact rfl | exact rfl))

theorem keeps_onAdapt {s0 s : State} (r : CmdRef) (op : Nat) (body : Nat → State → State) (hk : Keeps s0 s) (hbody : ∀ x0 t, Keeps s0 t → Keeps s0 (body x0 t)) :
   Keeps s0 (State.onAdapt s r op body) := by
  unfold State.onAdapt
  repeat' (first | intro _ | with_reducible assumption | exact rfl | dsimp only | with_reducible apply keeps_onCmd | exact hbody _ ‹_›| apply hbody | with_reducible apply keeps_ite | with_reducible apply keeps_ite2 | with_reducible apply keeps_foldl | split | ((with_reducible apply keeps_mk); (iterate 4 with_reducible exact rfl); first | with_reducible exact rfl | exact rfl))

theorem keeps_adaptRefsCmd {s0 s : State} (r : CmdRef) (refs : List (Nat × Nat × Nat)) (hk : Keeps s0 s) :
   Keeps s0 (State.adaptRefsCmd s r refs) := by
  unfold State.adaptRefsCmd
  repeat' (first | intro _ | with_reducible assumption | exact rfl | dsimp only | with_reducible apply keeps_onCmd | with_reducible apply keeps_reply | with_reducible apply keeps_withRead | with_reducible apply keeps_adaptRefs | with_reducible apply keeps_ite | with_reducible apply keeps_ite2 | with_reducible apply keeps_foldl | split | ((with_reducible apply keeps_mk); (iterate 4 with_reducible exact rfl); first | with_reducible exact rfl | exact rfl))

theorem keeps_adaptExportCmd {s0 s : State} (r : CmdRef) (hk : Keeps s0 s) :
   Keeps s0 (State.adaptExportCmd s r) := by
  unfold State.adaptExportCmd
  repeat' (first | intro _ | with_reducible assumption | exact rfl | dsimp only | with_reducible apply keeps_onCmd | with_reducible apply keeps_adaptExport | with_reducible apply keeps_ite | with_reducible apply keeps_ite2 | with_reducible apply keeps_foldl | split | ((with_reducible apply keeps_mk); (iterate 4 with_reducible exact rfl); first | with_reducible exact rfl | exact rfl))

theorem keeps_adaptImportCmd {s0 s : State} (r : CmdRef) (bytes : List Byte) (hk : Keeps s0 s) :
   Keeps s0 (State.adaptImportCmd s r bytes) := by
  unfold State.adaptImportCmd
  repeat' (first | intro _ | with_reducible assumption | exact rfl | dsimp only | with_reducible apply keeps_onCmd | with_reducible apply keeps_withRead | with_reducible apply keeps_adaptImport | with_reducible apply keeps_ite | with_reducible apply keeps_ite2 | with_reducible apply keeps_foldl | split | ((with_reducible apply keeps_mk); (iterate 4 with_reducible exact rfl); first | with_reducible exact rfl | exact rfl))

theorem keeps_counterRead {s0 s : State} (r : CmdRef) (hk : Keeps s0 s) :
   Keeps s0 (State.counterRead s r) := by
  unfold State.counterRead
  repeat' (first | intro _ | with_reducible assumption | exact rfl | dsimp only | with_reducible apply keeps_onCmd | with_reducible apply keeps_reply | with_reducible apply keeps_hostWrite | with_reducible apply keeps_map | with_reducible apply keeps_ite | with_reducible apply keeps_ite2 | with_reducible apply keeps_foldl | split | ((with_reducible apply keeps_mk); (iterate 4 with_reducible exact rfl); first | with_reducible exact rfl | exact rfl))

theorem keeps_traceRead {s0 s : State} (r : CmdRef) (hk : Keeps s0 s) :
   Keeps s0 (State.traceRead s r) := by
  unfold State.traceRead
  repeat' (first | intro _ | with_reducible assumption | exact rfl | dsimp only | with_reducible apply keeps_onCmd | with_reducible apply keeps_map | with_reducible apply keeps_hostWrite | with_reducible apply keeps_reply | with_reducible apply keeps_ite | with_reducible apply keeps_ite2 | with_reducible apply keeps_foldl | split | ((with_reducible apply keeps_mk); (iterate 4 with_reducible exact rfl); first | with_reducible exact rfl | exact rfl))

theorem keeps_layerTotals {s0 s : State} (r : CmdRef) (hk : Keeps s0 s) :
   Keeps s0 (State.layerTotals s r) := by
  unfold State.layerTotals
  repeat' (first | intro _ | with_reducible assumption | exact rfl | dsimp only | with_reducible apply keeps_onCmd | with_reducible apply keeps_reply | with_reducible apply keeps_hostWrite | with_reducible apply keeps_ite | with_reducible apply keeps_ite2 | with_reducible apply keeps_foldl | split | ((with_reducible apply keeps_mk); (iterate 4 with_reducible exact rfl); first | with_reducible exact rfl | exact rfl))

theorem keeps_errRelease {s0 s : State} (n : Nat) (hk : Keeps s0 s) :
   Keeps s0 (State.errRelease s n) := by
  unfold State.errRelease
  repeat' (first | intro _ | with_reducible assumption | exact rfl | dsimp only | with_reducible apply keeps_setRegN | with_reducible apply keeps_ite | with_reducible apply keeps_ite2 | with_reducible apply keeps_foldl | split | ((with_reducible apply keeps_mk); (iterate 4 with_reducible exact rfl); first | with_reducible exact rfl | exact rfl))

theorem keeps_errReleaseWrite {s0 s : State} (v : Nat) (hk : Keeps s0 s) :
   Keeps s0 (State.errReleaseWrite s v) := by
  unfold State.errReleaseWrite
  repeat' (first | intro _ | with_reducible assumption | exact rfl | dsimp only | with_reducible apply keeps_errRelease | with_reducible apply keeps_ite | with_reducible apply keeps_ite2 | with_reducible apply keeps_foldl | split | ((with_reducible apply keeps_mk); (iterate 4 with_reducible exact rfl); first | with_reducible exact rfl | exact rfl))

theorem keeps_errFirstWrite {s0 s : State} (v : Nat) (hk : Keeps s0 s) :
   Keeps s0 (State.errFirstWrite s v) := by
  unfold State.errFirstWrite
  repeat' (first | intro _ | with_reducible assumption | exact rfl | dsimp only | with_reducible apply keeps_setFld | with_reducible apply keeps_ite | with_reducible apply keeps_ite2 | with_reducible apply keeps_foldl | split | ((with_reducible apply keeps_mk); (iterate 4 with_reducible exact rfl); first | with_reducible exact rfl | exact rfl))

theorem keeps_errlogRead {s0 s : State} (r : CmdRef) (hk : Keeps s0 s) :
   Keeps s0 (State.errlogRead s r) := by
  unfold State.errlogRead
  repeat' (first | intro _ | with_reducible assumption | exact rfl | dsimp only | with_reducible apply keeps_onCmd | with_reducible apply keeps_hostWrite | with_reducible apply keeps_map | with_reducible apply keeps_errRelease | with_reducible apply keeps_reply | with_reducible apply keeps_ite | with_reducible apply keeps_ite2 | with_reducible apply keeps_foldl | split | ((with_reducible apply keeps_mk); (iterate 4 with_reducible exact rfl); first | with_reducible exact rfl | exact rfl))

end Sys2Proof.Machine
end

