-- ==== Sys2Proof/Laws/KeepsBlock.lean ====
section
/-! SUPPORT. What no operation undoes: one lemma for each operation of Safelight, the chain, resets and register accesses. -/
set_option linter.all false
namespace Sys2Proof.Machine

theorem keeps_modSfl {s0 s : State} (f : SflS → SflS) (hk : Keeps s0 s) (hf : (f s.sfl).enrol = s.sfl.enrol) :
    Keeps s0 (s.modSfl f) :=
  ⟨hk.queue, hk.mem, hk.sent, hk.free, fun d e => hf.trans (hk.enrol d e)⟩

theorem keeps_sflCount {s0 s : State} (r : RegName) (hk : Keeps s0 s) :
   Keeps s0 (State.sflCount s r) := by
  unfold State.sflCount
  repeat' (first | intro _ | with_reducible assumption | exact rfl | dsimp only | with_reducible apply keeps_bump | with_reducible apply keeps_ite | with_reducible apply keeps_ite2 | with_reducible apply keeps_foldl | split | ((with_reducible apply keeps_mk); (iterate 4 with_reducible exact rfl); first | with_reducible exact rfl | exact rfl))

theorem keeps_fatalError {s0 s : State} (cause : Nat) (unit : Nat) (hk : Keeps s0 s) :
   Keeps s0 (State.fatalError s cause unit) := by
  unfold State.fatalError
  repeat' (first | intro _ | with_reducible assumption | exact rfl | dsimp only | with_reducible apply keeps_emit | with_reducible apply keeps_setFld | with_reducible apply keeps_setPair | with_reducible apply keeps_logEvent | with_reducible apply keeps_ite | with_reducible apply keeps_ite2 | with_reducible apply keeps_foldl | split | ((with_reducible apply keeps_mk); (iterate 4 with_reducible exact rfl); first | with_reducible exact rfl | exact rfl))

theorem keeps_thermTrip {s0 s : State} (hk : Keeps s0 s) :
   Keeps s0 (State.thermTrip s) := by
  unfold State.thermTrip
  repeat' (first | intro _ | with_reducible assumption | exact rfl | dsimp only | with_reducible apply keeps_setFld | with_reducible apply keeps_emit | with_reducible apply keeps_haltCore | with_reducible apply keeps_fatalError | with_reducible apply keeps_ite | with_reducible apply keeps_ite2 | with_reducible apply keeps_foldl | split | ((with_reducible apply keeps_mk); (iterate 4 with_reducible exact rfl); first | with_reducible exact rfl | exact rfl))

theorem keeps_failClosed {s0 s : State} (cause : Nat) (hk : Keeps s0 s) :
   Keeps s0 (State.failClosed s cause) := by
  unfold State.failClosed
  repeat' (first | intro _ | with_reducible assumption | exact rfl | dsimp only | with_reducible apply keeps_modSfl | with_reducible apply keeps_setFld | with_reducible apply keeps_logEvent | with_reducible apply keeps_ite | with_reducible apply keeps_ite2 | with_reducible apply keeps_foldl | split | ((with_reducible apply keeps_mk); (iterate 4 with_reducible exact rfl); first | with_reducible exact rfl | exact rfl))

theorem keeps_sclkStop {s0 s : State} (hk : Keeps s0 s) :
   Keeps s0 (State.sclkStop s) := by
  unfold State.sclkStop
  repeat' (first | intro _ | with_reducible assumption | exact rfl | dsimp only | with_reducible apply keeps_setFld | with_reducible apply keeps_failClosed | with_reducible apply keeps_ite | with_reducible apply keeps_ite2 | with_reducible apply keeps_foldl | split | ((with_reducible apply keeps_mk); (iterate 4 with_reducible exact rfl); first | with_reducible exact rfl | exact rfl))

theorem keeps_noPolicy {s0 s : State} (hk : Keeps s0 s) :
   Keeps s0 (State.noPolicy s) := by
  unfold State.noPolicy
  repeat' (first | intro _ | with_reducible assumption | exact rfl | dsimp only | with_reducible apply keeps_modSfl | with_reducible apply keeps_setFld | with_reducible apply keeps_setRegN | with_reducible apply keeps_ite | with_reducible apply keeps_ite2 | with_reducible apply keeps_foldl | split | ((with_reducible apply keeps_mk); (iterate 4 with_reducible exact rfl); first | with_reducible exact rfl | exact rfl))

theorem keeps_sflRestarted {s0 s : State} (hk : Keeps s0 s) :
   Keeps s0 (State.sflRestarted s) := by
  unfold State.sflRestarted
  repeat' (first | intro _ | with_reducible assumption | exact rfl | dsimp only | with_reducible apply keeps_modSfl | with_reducible apply keeps_failClosed | with_reducible apply keeps_setFld | with_reducible apply keeps_noPolicy | with_reducible apply keeps_setMeas | with_reducible apply keeps_sflCount | with_reducible apply keeps_ite | with_reducible apply keeps_ite2 | with_reducible apply keeps_foldl | split | ((with_reducible apply keeps_mk); (iterate 4 with_reducible exact rfl); first | with_reducible exact rfl | exact rfl))

theorem keeps_blowEnrol {s0 s : State} (d : List Byte) (hk : Keeps s0 s) : Keeps s0 (s.blowEnrol d) := by
  unfold State.blowEnrol
  split
  · exact hk
  · rename_i h
    exact ⟨hk.queue, hk.mem, hk.sent.trans (List.suffix_cons _ _), hk.free, fun e he => absurd (by rw [hk.enrol e he]; rfl) h⟩

theorem keeps_privEnrol {s0 s : State} (r : CmdRef) (key : List Byte) (hk : Keeps s0 s) :
   Keeps s0 (State.privEnrol s r key) := by
  unfold State.privEnrol
  repeat' (first | intro _ | with_reducible assumption | exact rfl | dsimp only | with_reducible apply keeps_onCmd | with_reducible apply keeps_engineBusy | with_reducible apply keeps_setTaken | with_reducible apply keeps_withRead | with_reducible apply keeps_reply | with_reducible apply keeps_blowEnrol | with_reducible apply keeps_noPolicy | with_reducible apply keeps_setMeas | with_reducible apply keeps_ite | with_reducible apply keeps_ite2 | with_reducible apply keeps_foldl | split | ((with_reducible apply keeps_mk); (iterate 4 with_reducible exact rfl); first | with_reducible exact rfl | exact rfl))

theorem keeps_acceptPolicy {s0 s : State} (p : PolicyPkt) (hk : Keeps s0 s) :
   Keeps s0 (State.acceptPolicy s p) := by
  unfold State.acceptPolicy
  repeat' (first | intro _ | with_reducible assumption | exact rfl | dsimp only | with_reducible apply keeps_modSfl | with_reducible apply keeps_setRegN | with_reducible apply keeps_setFld | with_reducible apply keeps_setMeas | with_reducible apply keeps_map | with_reducible apply keeps_ite | with_reducible apply keeps_ite2 | with_reducible apply keeps_foldl | split | ((with_reducible apply keeps_mk); (iterate 4 with_reducible exact rfl); first | with_reducible exact rfl | exact rfl))

theorem keeps_policySubmit {s0 s : State} (r : CmdRef) (bytes : List Byte) (hk : Keeps s0 s) :
   Keeps s0 (State.policySubmit s r bytes) := by
  unfold State.policySubmit
  repeat' (first | intro _ | with_reducible assumption | exact rfl | dsimp only | with_reducible apply keeps_onCmd | with_reducible apply keeps_engineBusy | with_reducible apply keeps_setTaken | with_reducible apply keeps_withRead | with_reducible apply keeps_acceptPolicy | with_reducible apply keeps_reply | with_reducible apply keeps_sflCount | with_reducible apply keeps_ite | with_reducible apply keeps_ite2 | with_reducible apply keeps_foldl | split | ((with_reducible apply keeps_mk); (iterate 4 with_reducible exact rfl); first | with_reducible exact rfl | exact rfl))

theorem keeps_holdAssert {s0 s : State} (hk : Keeps s0 s) :
   Keeps s0 (State.holdAssert s) := by
  unfold State.holdAssert
  repeat' (first | intro _ | with_reducible assumption | exact rfl | dsimp only | with_reducible apply keeps_modSfl | with_reducible apply keeps_setFld | with_reducible apply keeps_sflCount | with_reducible apply keeps_ite | with_reducible apply keeps_ite2 | with_reducible apply keeps_foldl | split | ((with_reducible apply keeps_mk); (iterate 4 with_reducible exact rfl); first | with_reducible exact rfl | exact rfl))

theorem keeps_holdRelease {s0 s : State} (hk : Keeps s0 s) :
   Keeps s0 (State.holdRelease s) := by
  unfold State.holdRelease
  repeat' (first | intro _ | with_reducible assumption | exact rfl | dsimp only | with_reducible apply keeps_modSfl | with_reducible apply keeps_setFld | with_reducible apply keeps_ite | with_reducible apply keeps_ite2 | with_reducible apply keeps_foldl | split | ((with_reducible apply keeps_mk); (iterate 4 with_reducible exact rfl); first | with_reducible exact rfl | exact rfl))

theorem keeps_powerSample {s0 s : State} (mw : Nat) (hk : Keeps s0 s) :
   Keeps s0 (State.powerSample s mw) := by
  unfold State.powerSample
  repeat' (first | intro _ | with_reducible assumption | exact rfl | dsimp only | with_reducible apply keeps_modSfl | with_reducible apply keeps_obsAdd | with_reducible apply keeps_takeFree | with_reducible apply keeps_setFld | with_reducible apply keeps_ite | with_reducible apply keeps_ite2 | with_reducible apply keeps_foldl | split | ((with_reducible apply keeps_mk); (iterate 4 with_reducible exact rfl); first | with_reducible exact rfl | exact rfl))

theorem keeps_junctionRead {s0 s : State} (temps : List Int) (hk : Keeps s0 s) :
   Keeps s0 (State.junctionRead s temps) := by
  unfold State.junctionRead
  repeat' (first | intro _ | with_reducible assumption | exact rfl | dsimp only | with_reducible apply keeps_setFld | with_reducible apply keeps_ite | with_reducible apply keeps_ite2 | with_reducible apply keeps_foldl | split | ((with_reducible apply keeps_mk); (iterate 4 with_reducible exact rfl); first | with_reducible exact rfl | exact rfl))

theorem keeps_setG {s0 s : State} (g : Nat) (hk : Keeps s0 s) :
   Keeps s0 (State.setG s g) := by
  unfold State.setG
  repeat' (first | intro _ | with_reducible assumption | exact rfl | dsimp only | with_reducible apply keeps_setFld | with_reducible apply keeps_modSfl | with_reducible apply keeps_sflCount | with_reducible apply keeps_logEvent | with_reducible apply keeps_traceEv | with_reducible apply keeps_pauseAdapt | with_reducible apply keeps_unpauseAdapt | with_reducible apply keeps_sendTo | with_reducible apply keeps_thermTrip | with_reducible apply keeps_ite | with_reducible apply keeps_ite2 | with_reducible apply keeps_foldl | split | ((with_reducible apply keeps_mk); (iterate 4 with_reducible exact rfl); first | with_reducible exact rfl | exact rfl))

theorem keeps_applyLimit {s0 s : State} (hk : Keeps s0 s) :
   Keeps s0 (State.applyLimit s) := by
  unfold State.applyLimit
  repeat' (first | intro _ | with_reducible assumption | exact rfl | dsimp only | with_reducible apply keeps_modSfl | with_reducible apply keeps_setFld | with_reducible apply keeps_ite | with_reducible apply keeps_ite2 | with_reducible apply keeps_foldl | split | ((with_reducible apply keeps_mk); (iterate 4 with_reducible exact rfl); first | with_reducible exact rfl | exact rfl))

theorem keeps_governor {s0 s : State} (hk : Keeps s0 s) :
   Keeps s0 (State.governor s) := by
  unfold State.governor
  repeat' (first | intro _ | with_reducible assumption | exact rfl | dsimp only | with_reducible apply keeps_applyLimit | with_reducible apply keeps_modSfl | with_reducible apply keeps_setG | with_reducible apply keeps_ite | with_reducible apply keeps_ite2 | with_reducible apply keeps_foldl | split | ((with_reducible apply keeps_mk); (iterate 4 with_reducible exact rfl); first | with_reducible exact rfl | exact rfl))

theorem keeps_onSflMsg {s0 s : State} (p : Nat → Bool) (body : List Word → State → State) (hk : Keeps s0 s) (hbody : ∀ x0 t, Keeps s0 t → Keeps s0 (body x0 t)) :
   Keeps s0 (State.onSflMsg s p body) := by
  unfold State.onSflMsg
  repeat' (first | intro _ | with_reducible assumption | exact rfl | dsimp only | with_reducible apply keeps_modSfl | with_reducible apply keeps_txTaken | exact hbody _ ‹_›| apply hbody | with_reducible apply keeps_ite | with_reducible apply keeps_ite2 | with_reducible apply keeps_foldl | split | ((with_reducible apply keeps_mk); (iterate 4 with_reducible exact rfl); first | with_reducible exact rfl | exact rfl))

theorem keeps_limitSetMsg {s0 s : State} (hk : Keeps s0 s) :
   Keeps s0 (State.limitSetMsg s) := by
  unfold State.limitSetMsg
  repeat' (first | intro _ | with_reducible assumption | exact rfl | dsimp only | with_reducible apply keeps_onSflMsg | with_reducible apply keeps_modSfl | with_reducible apply keeps_sendTo | with_reducible apply keeps_ite | with_reducible apply keeps_ite2 | with_reducible apply keeps_foldl | split | ((with_reducible apply keeps_mk); (iterate 4 with_reducible exact rfl); first | with_reducible exact rfl | exact rfl))

theorem keeps_govQueryMsg {s0 s : State} (hk : Keeps s0 s) :
   Keeps s0 (State.govQueryMsg s) := by
  unfold State.govQueryMsg
  repeat' (first | intro _ | with_reducible assumption | exact rfl | dsimp only | with_reducible apply keeps_onSflMsg | with_reducible apply keeps_sendTo | with_reducible apply keeps_ite | with_reducible apply keeps_ite2 | with_reducible apply keeps_foldl | split | ((with_reducible apply keeps_mk); (iterate 4 with_reducible exact rfl); first | with_reducible exact rfl | exact rfl))

theorem keeps_modChn {s0 s : State} (f : ChnS → ChnS) (hk : Keeps s0 s) :
   Keeps s0 (State.modChn s f) := by
  unfold State.modChn
  repeat' (first | intro _ | with_reducible assumption | exact rfl | dsimp only | with_reducible apply keeps_ite | with_reducible apply keeps_ite2 | with_reducible apply keeps_foldl | split | ((with_reducible apply keeps_mk); (iterate 4 with_reducible exact rfl); first | with_reducible exact rfl | exact rfl))

theorem keeps_chnCount {s0 s : State} (r : RegName) (hk : Keeps s0 s) :
   Keeps s0 (State.chnCount s r) := by
  unfold State.chnCount
  repeat' (first | intro _ | with_reducible assumption | exact rfl | dsimp only | with_reducible apply keeps_bump | with_reducible apply keeps_ite | with_reducible apply keeps_ite2 | with_reducible apply keeps_foldl | split | ((with_reducible apply keeps_mk); (iterate 4 with_reducible exact rfl); first | with_reducible exact rfl | exact rfl))

theorem keeps_ptmStart {s0 s : State} (hk : Keeps s0 s) :
   Keeps s0 (State.ptmStart s) := by
  unfold State.ptmStart
  repeat' (first | intro _ | with_reducible assumption | exact rfl | dsimp only | with_reducible apply keeps_modTime | with_reducible apply keeps_emit | with_reducible apply keeps_measureFail | with_reducible apply keeps_ite | with_reducible apply keeps_ite2 | with_reducible apply keeps_foldl | split | ((with_reducible apply keeps_mk); (iterate 4 with_reducible exact rfl); first | with_reducible exact rfl | exact rfl))

theorem keeps_ptmComplete {s0 s : State} (m : PtmMaster) (t : PtmLocal) (hk : Keeps s0 s) :
   Keeps s0 (State.ptmComplete s m t) := by
  unfold State.ptmComplete
  repeat' (first | intro _ | with_reducible assumption | exact rfl | dsimp only | with_reducible apply keeps_modTime | with_reducible apply keeps_measure | with_reducible apply keeps_ite | with_reducible apply keeps_ite2 | with_reducible apply keeps_foldl | split | ((with_reducible apply keeps_mk); (iterate 4 with_reducible exact rfl); first | with_reducible exact rfl | exact rfl))

theorem keeps_ptmFail {s0 s : State} (hk : Keeps s0 s) :
   Keeps s0 (State.ptmFail s) := by
  unfold State.ptmFail
  repeat' (first | intro _ | with_reducible assumption | exact rfl | dsimp only | with_reducible apply keeps_modTime | with_reducible apply keeps_measureFail | with_reducible apply keeps_ite | with_reducible apply keeps_ite2 | with_reducible apply keeps_foldl | split | ((with_reducible apply keeps_mk); (iterate 4 with_reducible exact rfl); first | with_reducible exact rfl | exact rfl))

theorem keeps_slewDone {s0 s : State} (hk : Keeps s0 s) :
   Keeps s0 (State.slewDone s) := by
  unfold State.slewDone
  repeat' (first | intro _ | with_reducible assumption | exact rfl | dsimp only | with_reducible apply keeps_endSlew | with_reducible apply keeps_ite | with_reducible apply keeps_ite2 | with_reducible apply keeps_foldl | split | ((with_reducible apply keeps_mk); (iterate 4 with_reducible exact rfl); first | with_reducible exact rfl | exact rfl))

theorem keeps_syncEmit {s0 s : State} (hk : Keeps s0 s) :
   Keeps s0 (State.syncEmit s) := by
  unfold State.syncEmit
  repeat' (first | intro _ | with_reducible assumption | exact rfl | dsimp only | with_reducible apply keeps_modTime | with_reducible apply keeps_emit | with_reducible apply keeps_ite | with_reducible apply keeps_ite2 | with_reducible apply keeps_foldl | split | ((with_reducible apply keeps_mk); (iterate 4 with_reducible exact rfl); first | with_reducible exact rfl | exact rfl))

theorem keeps_syncReceived {s0 s : State} (time : Nat) (acc : Nat) (early : Nat) (held : Bool) (hk : Keeps s0 s) :
   Keeps s0 (State.syncReceived s time acc early held) := by
  unfold State.syncReceived
  repeat' (first | intro _ | with_reducible assumption | exact rfl | dsimp only | with_reducible apply keeps_setFld | with_reducible apply keeps_modTime | with_reducible apply keeps_emit | with_reducible apply keeps_measureFail | with_reducible apply keeps_measure | with_reducible apply keeps_ite | with_reducible apply keeps_ite2 | with_reducible apply keeps_foldl | split | ((with_reducible apply keeps_mk); (iterate 4 with_reducible exact rfl); first | with_reducible exact rfl | exact rfl))

theorem keeps_syncMissing {s0 s : State} (hk : Keeps s0 s) :
   Keeps s0 (State.syncMissing s) := by
  unfold State.syncMissing
  repeat' (first | intro _ | with_reducible assumption | exact rfl | dsimp only | with_reducible apply keeps_modTime | with_reducible apply keeps_measureFail | with_reducible apply keeps_ite | with_reducible apply keeps_ite2 | with_reducible apply keeps_foldl | split | ((with_reducible apply keeps_mk); (iterate 4 with_reducible exact rfl); first | with_reducible exact rfl | exact rfl))

theorem keeps_delayReqSend {s0 s : State} (hk : Keeps s0 s) :
   Keeps s0 (State.delayReqSend s) := by
  unfold State.delayReqSend
  repeat' (first | intro _ | with_reducible assumption | exact rfl | dsimp only | with_reducible apply keeps_modChn | with_reducible apply keeps_emit | with_reducible apply keeps_ite | with_reducible apply keeps_ite2 | with_reducible apply keeps_foldl | split | ((with_reducible apply keeps_mk); (iterate 4 with_reducible exact rfl); first | with_reducible exact rfl | exact rfl))

theorem keeps_delayAnswer {s0 s : State} (hk : Keeps s0 s) :
   Keeps s0 (State.delayAnswer s) := by
  unfold State.delayAnswer
  repeat' (first | intro _ | with_reducible assumption | exact rfl | dsimp only | with_reducible apply keeps_takeFree | with_reducible apply keeps_emit | with_reducible apply keeps_ite | with_reducible apply keeps_ite2 | with_reducible apply keeps_foldl | split | ((with_reducible apply keeps_mk); (iterate 4 with_reducible exact rfl); first | with_reducible exact rfl | exact rfl))

theorem keeps_delayMeasured {s0 s : State} (turn : Nat) (hk : Keeps s0 s) :
   Keeps s0 (State.delayMeasured s turn) := by
  unfold State.delayMeasured
  repeat' (first | intro _ | with_reducible assumption | exact rfl | dsimp only | with_reducible apply keeps_modChn | with_reducible apply keeps_takeFree | with_reducible apply keeps_setFld | with_reducible apply keeps_ite | with_reducible apply keeps_ite2 | with_reducible apply keeps_foldl | split | ((with_reducible apply keeps_mk); (iterate 4 with_reducible exact rfl); first | with_reducible exact rfl | exact rfl))

theorem keeps_chdActive {s0 s : State} (p : Nat) (hk : Keeps s0 s) :
   Keeps s0 (State.chdActive s p) := by
  unfold State.chdActive
  repeat' (first | intro _ | with_reducible assumption | exact rfl | dsimp only | with_reducible apply keeps_modTime | with_reducible apply keeps_ite | with_reducible apply keeps_ite2 | with_reducible apply keeps_foldl | split | ((with_reducible apply keeps_mk); (iterate 4 with_reducible exact rfl); first | with_reducible exact rfl | exact rfl))

theorem keeps_posReceived {s0 s : State} (p : Nat) (q : Nat) (hk : Keeps s0 s) :
   Keeps s0 (State.posReceived s p q) := by
  unfold State.posReceived
  repeat' (first | intro _ | with_reducible assumption | exact rfl | dsimp only | with_reducible apply keeps_bringupStep | with_reducible apply keeps_setPortState | with_reducible apply keeps_chdActive | with_reducible apply keeps_portFault | with_reducible apply keeps_ite | with_reducible apply keeps_ite2 | with_reducible apply keeps_foldl | split | ((with_reducible apply keeps_mk); (iterate 4 with_reducible exact rfl); first | with_reducible exact rfl | exact rfl))

theorem keeps_closePeerQueue {s0 s : State} (i : Nat) (q : Nat) (target : Nat) (hk : Keeps s0 s) :
   Keeps s0 (State.closePeerQueue s i q target) := by
  unfold State.closePeerQueue
  repeat' (first | intro _ | with_reducible assumption | exact rfl | dsimp only | with_reducible apply keeps_setDmaQ | with_reducible apply keeps_map | with_reducible apply keeps_countRows | with_reducible apply keeps_settle | with_reducible apply keeps_ite | with_reducible apply keeps_ite2 | with_reducible apply keeps_foldl | split | ((with_reducible apply keeps_mk); (iterate 4 with_reducible exact rfl); first | with_reducible exact rfl | exact rfl))

theorem keeps_closeWindow {s0 s : State} (w : Nat) (hk : Keeps s0 s) :
   Keeps s0 (State.closeWindow s w) := by
  unfold State.closeWindow
  repeat' (first | intro _ | with_reducible assumption | exact rfl | dsimp only | with_reducible apply keeps_setFld | with_reducible apply keeps_emit | with_reducible apply keeps_ite | with_reducible apply keeps_ite2 | with_reducible apply keeps_foldl | split | ((with_reducible apply keeps_mk); (iterate 4 with_reducible exact rfl); first | with_reducible exact rfl | exact rfl))

theorem keeps_putFldBit {s0 s : State} (f : Fld) (i : Nat) (k : Nat) (b : Bool) (hk : Keeps s0 s) :
   Keeps s0 (State.putFldBit s f i k b) := by
  unfold State.putFldBit
  repeat' (first | intro _ | with_reducible assumption | exact rfl | dsimp only | with_reducible apply keeps_setFld | with_reducible apply keeps_ite | with_reducible apply keeps_ite2 | with_reducible apply keeps_foldl | split | ((with_reducible apply keeps_mk); (iterate 4 with_reducible exact rfl); first | with_reducible exact rfl | exact rfl))

theorem keeps_schedAnswered {s0 s : State} (hk : Keeps s0 s) :
   Keeps s0 (State.schedAnswered s) := by
  unfold State.schedAnswered
  repeat' (first | intro _ | with_reducible assumption | exact rfl | dsimp only | with_reducible apply keeps_modChn | with_reducible apply keeps_modTime | with_reducible apply keeps_setFld | with_reducible apply keeps_emit | with_reducible apply keeps_reply | with_reducible apply keeps_ite | with_reducible apply keeps_ite2 | with_reducible apply keeps_foldl | split | ((with_reducible apply keeps_mk); (iterate 4 with_reducible exact rfl); first | with_reducible exact rfl | exact rfl))

theorem keeps_positionAbsent {s0 s : State} (q : Nat) (hk : Keeps s0 s) :
   Keeps s0 (State.positionAbsent s q) := by
  unfold State.positionAbsent
  repeat' (first | intro _ | with_reducible assumption | exact rfl | dsimp only | with_reducible apply keeps_putFldBit | with_reducible apply keeps_closePeerQueue | with_reducible apply keeps_setFld | with_reducible apply keeps_setRegN | with_reducible apply keeps_modChn | with_reducible apply keeps_frameEffect | with_reducible apply keeps_chnCount | with_reducible apply keeps_logEvent | with_reducible apply keeps_map | with_reducible apply keeps_schedAnswered | with_reducible apply keeps_ite | with_reducible apply keeps_ite2 | with_reducible apply keeps_foldl | split | ((with_reducible apply keeps_mk); (iterate 4 with_reducible exact rfl); first | with_reducible exact rfl | exact rfl))

theorem keeps_chainCheck {s0 s : State} (hk : Keeps s0 s) :
   Keeps s0 (State.chainCheck s) := by
  unfold State.chainCheck
  repeat' (first | intro _ | with_reducible assumption | exact rfl | dsimp only | with_reducible apply keeps_positionAbsent | with_reducible apply keeps_ite | with_reducible apply keeps_ite2 | with_reducible apply keeps_foldl | split | ((with_reducible apply keeps_mk); (iterate 4 with_reducible exact rfl); first | with_reducible exact rfl | exact rfl))

theorem keeps_presenceTimeout {s0 s : State} (q : Nat) (hk : Keeps s0 s) :
   Keeps s0 (State.presenceTimeout s q) := by
  unfold State.presenceTimeout
  repeat' (first | intro _ | with_reducible assumption | exact rfl | dsimp only | with_reducible apply keeps_positionAbsent | with_reducible apply keeps_ite | with_reducible apply keeps_ite2 | with_reducible apply keeps_foldl | split | ((with_reducible apply keeps_mk); (iterate 4 with_reducible exact rfl); first | with_reducible exact rfl | exact rfl))

theorem keeps_sendSchedules {s0 s : State} (q : Nat) (hk : Keeps s0 s) :
   Keeps s0 (State.sendSchedules s q) := by
  unfold State.sendSchedules
  repeat' (first | intro _ | with_reducible assumption | exact rfl | dsimp only | with_reducible apply keeps_takeFree | with_reducible apply keeps_emit | with_reducible apply keeps_ite | with_reducible apply keeps_ite2 | with_reducible apply keeps_foldl | split | ((with_reducible apply keeps_mk); (iterate 4 with_reducible exact rfl); first | with_reducible exact rfl | exact rfl))

theorem keeps_statusReceived {s0 s : State} (q : Nat) (reach : Nat) (timeState : Nat) (enrol : Option (List Byte)) (seq : Nat) (hk : Keeps s0 s) :
   Keeps s0 (State.statusReceived s q reach timeState enrol seq) := by
  unfold State.statusReceived
  repeat' (first | intro _ | with_reducible assumption | exact rfl | dsimp only | with_reducible apply keeps_modChn | with_reducible apply keeps_putFldBit | with_reducible apply keeps_positionAbsent | with_reducible apply keeps_sendSchedules | with_reducible apply keeps_ite | with_reducible apply keeps_ite2 | with_reducible apply keeps_foldl | split | ((with_reducible apply keeps_mk); (iterate 4 with_reducible exact rfl); first | with_reducible exact rfl | exact rfl))

theorem keeps_statusSend {s0 s : State} (hk : Keeps s0 s) :
   Keeps s0 (State.statusSend s) := by
  unfold State.statusSend
  repeat' (first | intro _ | with_reducible assumption | exact rfl | dsimp only | with_reducible apply keeps_modChn | with_reducible apply keeps_emit | with_reducible apply keeps_chainStatus | with_reducible apply keeps_ite | with_reducible apply keeps_ite2 | with_reducible apply keeps_foldl | split | ((with_reducible apply keeps_mk); (iterate 4 with_reducible exact rfl); first | with_reducible exact rfl | exact rfl))

theorem keeps_takeback {s0 s : State} (p : Nat) (hk : Keeps s0 s) :
   Keeps s0 (State.takeback s p) := by
  unfold State.takeback
  repeat' (first | intro _ | with_reducible assumption | exact rfl | dsimp only | with_reducible apply keeps_putFldBit | with_reducible apply keeps_modChn | with_reducible apply keeps_ite | with_reducible apply keeps_ite2 | with_reducible apply keeps_foldl | split | ((with_reducible apply keeps_mk); (iterate 4 with_reducible exact rfl); first | with_reducible exact rfl | exact rfl))

theorem keeps_takeSchedule {s0 s : State} (g : Nat) (base : Nat) (period : Nat) (apply : Nat) (hk : Keeps s0 s) :
   Keeps s0 (State.takeSchedule s g base period apply).2 := by
  unfold State.takeSchedule
  repeat' (first | intro _ | with_reducible assumption | exact rfl | dsimp only | with_reducible apply keeps_modTime | with_reducible apply keeps_setFld | with_reducible apply keeps_ite | with_reducible apply keeps_ite2 | with_reducible apply keeps_foldl | split | ((with_reducible apply keeps_mk); (iterate 4 with_reducible exact rfl); first | with_reducible exact rfl | exact rfl))

theorem keeps_schedApply {s0 s : State} (r : CmdRef) (hk : Keeps s0 s) :
   Keeps s0 (State.schedApply s r) := by
  unfold State.schedApply
  repeat' (first | intro _ | with_reducible assumption | exact rfl | dsimp only | with_reducible apply keeps_onCmd | with_reducible apply keeps_reply | with_reducible apply keeps_setTaken | with_reducible apply keeps_takeSchedule | with_reducible apply keeps_emit | with_reducible apply keeps_modChn | with_reducible apply keeps_schedAnswered | with_reducible apply keeps_ite | with_reducible apply keeps_ite2 | with_reducible apply keeps_foldl | split | ((with_reducible apply keeps_mk); (iterate 4 with_reducible exact rfl); first | with_reducible exact rfl | exact rfl))

theorem keeps_schedApplyTime {s0 s : State} (g : Nat) (hk : Keeps s0 s) :
   Keeps s0 (State.schedApplyTime s g) := by
  unfold State.schedApplyTime
  repeat' (first | intro _ | with_reducible assumption | exact rfl | dsimp only | with_reducible apply keeps_modTime | with_reducible apply keeps_schedStop | with_reducible apply keeps_setFld | with_reducible apply keeps_setPair | with_reducible apply keeps_schedStart | with_reducible apply keeps_ite | with_reducible apply keeps_ite2 | with_reducible apply keeps_foldl | split | ((with_reducible apply keeps_mk); (iterate 4 with_reducible exact rfl); first | with_reducible exact rfl | exact rfl))

theorem keeps_portForward {s0 s : State} (r : CmdRef) (targetOk : Bool) (pathOk : Bool) (hk : Keeps s0 s) :
   Keeps s0 (State.portForward s r targetOk pathOk) := by
  unfold State.portForward
  repeat' (first | intro _ | with_reducible assumption | exact rfl | dsimp only | with_reducible apply keeps_onCmd | with_reducible apply keeps_reply | with_reducible apply keeps_putFldBit | with_reducible apply keeps_setFld | with_reducible apply keeps_modChn | with_reducible apply keeps_emit | with_reducible apply keeps_linkEffect | with_reducible apply keeps_ite | with_reducible apply keeps_ite2 | with_reducible apply keeps_foldl | split | ((with_reducible apply keeps_mk); (iterate 4 with_reducible exact rfl); first | with_reducible exact rfl | exact rfl))

theorem keeps_portReturn {s0 s : State} (r : CmdRef) (targetOk : Bool) (hk : Keeps s0 s) :
   Keeps s0 (State.portReturn s r targetOk) := by
  unfold State.portReturn
  repeat' (first | intro _ | with_reducible assumption | exact rfl | dsimp only | with_reducible apply keeps_onCmd | with_reducible apply keeps_reply | with_reducible apply keeps_putFldBit | with_reducible apply keeps_modChn | with_reducible apply keeps_emit | with_reducible apply keeps_ite | with_reducible apply keeps_ite2 | with_reducible apply keeps_foldl | split | ((with_reducible apply keeps_mk); (iterate 4 with_reducible exact rfl); first | with_reducible exact rfl | exact rfl))

theorem keeps_portMove {s0 s : State} (r : CmdRef) (forward : Bool) (body : State → State) (hk : Keeps s0 s) (hbody : ∀ t, Keeps s0 t → Keeps s0 (body t)) :
   Keeps s0 (State.portMove s r forward body) := by
  unfold State.portMove
  repeat' (first | intro _ | with_reducible assumption | exact rfl | dsimp only | exact hbody _ ‹_›| apply hbody | with_reducible apply keeps_ite | with_reducible apply keeps_ite2 | with_reducible apply keeps_foldl | split | ((with_reducible apply keeps_mk); (iterate 4 with_reducible exact rfl); first | with_reducible exact rfl | exact rfl))

theorem keeps_asOf {s0 s : State} (t : Nat) (f : State → State) (hk : Keeps s0 s) (hf : ∀ t, Keeps s0 t → Keeps s0 (f t)) :
   Keeps s0 (State.asOf s t f) := by
  unfold State.asOf
  repeat' (first | intro _ | with_reducible assumption | exact rfl | dsimp only | with_reducible apply keeps_modTime | exact hf _ ‹_›| apply hf | with_reducible apply keeps_ite | with_reducible apply keeps_ite2 | with_reducible apply keeps_foldl | split | ((with_reducible apply keeps_mk); (iterate 4 with_reducible exact rfl); first | with_reducible exact rfl | exact rfl))

theorem keeps_fwdPacket {s0 s : State} (q : Nat) (p : Nat) (stamp : Nat) (k : Packet) (hk : Keeps s0 s) :
   Keeps s0 (State.fwdPacket s q p stamp k) := by
  unfold State.fwdPacket
  repeat' (first | intro _ | with_reducible assumption | exact rfl | dsimp only | with_reducible apply keeps_asOf | with_reducible apply keeps_cameraPacket | with_reducible apply keeps_ite | with_reducible apply keeps_ite2 | with_reducible apply keeps_foldl | split | ((with_reducible apply keeps_mk); (iterate 4 with_reducible exact rfl); first | with_reducible exact rfl | exact rfl))

theorem keeps_fwdControl {s0 s : State} (q : Nat) (p : Nat) (c : FwdCtl) (hk : Keeps s0 s) :
   Keeps s0 (State.fwdControl s q p c) := by
  unfold State.fwdControl
  repeat' (first | intro _ | with_reducible assumption | exact rfl | dsimp only | with_reducible apply keeps_modCam | with_reducible apply keeps_expectTrig | with_reducible apply keeps_frameEffect | with_reducible apply keeps_ite | with_reducible apply keeps_ite2 | with_reducible apply keeps_foldl | split | ((with_reducible apply keeps_mk); (iterate 4 with_reducible exact rfl); first | with_reducible exact rfl | exact rfl))

theorem keeps_windowOpen {s0 s : State} (r : CmdRef) (hk : Keeps s0 s) :
   Keeps s0 (State.windowOpen s r) := by
  unfold State.windowOpen
  repeat' (first | intro _ | with_reducible assumption | exact rfl | dsimp only | with_reducible apply keeps_onCmd | with_reducible apply keeps_reply | with_reducible apply keeps_setPair | with_reducible apply keeps_setRegN | with_reducible apply keeps_setFld | with_reducible apply keeps_emit | with_reducible apply keeps_ite | with_reducible apply keeps_ite2 | with_reducible apply keeps_foldl | split | ((with_reducible apply keeps_mk); (iterate 4 with_reducible exact rfl); first | with_reducible exact rfl | exact rfl))

theorem keeps_windowClose {s0 s : State} (r : CmdRef) (hk : Keeps s0 s) :
   Keeps s0 (State.windowClose s r) := by
  unfold State.windowClose
  repeat' (first | intro _ | with_reducible assumption | exact rfl | dsimp only | with_reducible apply keeps_onCmd | with_reducible apply keeps_reply | with_reducible apply keeps_closeWindow | with_reducible apply keeps_ite | with_reducible apply keeps_ite2 | with_reducible apply keeps_foldl | split | ((with_reducible apply keeps_mk); (iterate 4 with_reducible exact rfl); first | with_reducible exact rfl | exact rfl))

theorem keeps_chainStatus {s0 s : State} (r : CmdRef) (hk : Keeps s0 s) :
   Keeps s0 (State.chainStatus s r) := by
  unfold State.chainStatus
  repeat' (first | intro _ | with_reducible assumption | exact rfl | dsimp only | with_reducible apply keeps_onCmd | with_reducible apply keeps_reply | with_reducible apply keeps_ite | with_reducible apply keeps_ite2 | with_reducible apply keeps_foldl | split | ((with_reducible apply keeps_mk); (iterate 4 with_reducible exact rfl); first | with_reducible exact rfl | exact rfl))

theorem keeps_ackPeer {s0 s : State} (q : Nat) (info : Nat) (status : Nat) (hk : Keeps s0 s) :
   Keeps s0 (State.ackPeer s q info status) := by
  unfold State.ackPeer
  repeat' (first | intro _ | with_reducible assumption | exact rfl | dsimp only | with_reducible apply keeps_emit | with_reducible apply keeps_ite | with_reducible apply keeps_ite2 | with_reducible apply keeps_foldl | split | ((with_reducible apply keeps_mk); (iterate 4 with_reducible exact rfl); first | with_reducible exact rfl | exact rfl))

theorem keeps_peerWrite {s0 s : State} (q : Nat) (info : Nat) (bytes : List Byte) (hk : Keeps s0 s) :
   Keeps s0 (State.peerWrite s q info bytes) := by
  unfold State.peerWrite
  repeat' (first | intro _ | with_reducible assumption | exact rfl | dsimp only | with_reducible apply keeps_memW | with_reducible apply keeps_ackPeer | with_reducible apply keeps_chnCount | with_reducible apply keeps_ite | with_reducible apply keeps_ite2 | with_reducible apply keeps_foldl | split | ((with_reducible apply keeps_mk); (iterate 4 with_reducible exact rfl); first | with_reducible exact rfl | exact rfl))

theorem keeps_ackRow {s0 s : State} (i : Nat) (q : Nat) (k : Nat) (r : Nat) (hk : Keeps s0 s) :
   Keeps s0 (State.ackRow s i q k r) := by
  unfold State.ackRow
  repeat' (first | intro _ | with_reducible assumption | exact rfl | dsimp only | with_reducible apply keeps_modXfer | with_reducible apply keeps_map | with_reducible apply keeps_rowCounts | with_reducible apply keeps_ite | with_reducible apply keeps_ite2 | with_reducible apply keeps_foldl | split | ((with_reducible apply keeps_mk); (iterate 4 with_reducible exact rfl); first | with_reducible exact rfl | exact rfl))

theorem keeps_peerAck {s0 s : State} (q : Nat) (info : Nat) (hk : Keeps s0 s) :
   Keeps s0 (State.peerAck s q info) := by
  unfold State.peerAck
  repeat' (first | intro _ | with_reducible assumption | exact rfl | dsimp only | with_reducible apply keeps_map | with_reducible apply keeps_modXfer | with_reducible apply keeps_ackRow | with_reducible apply keeps_chnCount | with_reducible apply keeps_logEvent | with_reducible apply keeps_ite | with_reducible apply keeps_ite2 | with_reducible apply keeps_foldl | split | ((with_reducible apply keeps_mk); (iterate 4 with_reducible exact rfl); first | with_reducible exact rfl | exact rfl))

theorem keeps_schedAnswer {s0 s : State} (q : Nat) (g : Nat) (taken : Bool) (hk : Keeps s0 s) :
   Keeps s0 (State.schedAnswer s q g taken) := by
  unfold State.schedAnswer
  repeat' (first | intro _ | with_reducible assumption | exact rfl | dsimp only | with_reducible apply keeps_modChn | with_reducible apply keeps_schedAnswered | with_reducible apply keeps_ite | with_reducible apply keeps_ite2 | with_reducible apply keeps_foldl | split | ((with_reducible apply keeps_mk); (iterate 4 with_reducible exact rfl); first | with_reducible exact rfl | exact rfl))

theorem keeps_schedRelease {s0 s : State} (g : Nat) (hk : Keeps s0 s) :
   Keeps s0 (State.schedRelease s g) := by
  unfold State.schedRelease
  repeat' (first | intro _ | with_reducible assumption | exact rfl | dsimp only | with_reducible apply keeps_modTime | with_reducible apply keeps_setFld | with_reducible apply keeps_ite | with_reducible apply keeps_ite2 | with_reducible apply keeps_foldl | split | ((with_reducible apply keeps_mk); (iterate 4 with_reducible exact rfl); first | with_reducible exact rfl | exact rfl))

theorem keeps_forwardNotice {s0 s : State} (q : Nat) (p : Nat) (on : Bool) (hk : Keeps s0 s) :
   Keeps s0 (State.forwardNotice s q p on) := by
  unfold State.forwardNotice
  repeat' (first | intro _ | with_reducible assumption | exact rfl | dsimp only | with_reducible apply keeps_putFldBit | with_reducible apply keeps_setFld | with_reducible apply keeps_ite | with_reducible apply keeps_ite2 | with_reducible apply keeps_foldl | split | ((with_reducible apply keeps_mk); (iterate 4 with_reducible exact rfl); first | with_reducible exact rfl | exact rfl))

theorem keeps_triggerRequest {s0 s : State} (q : Nat) (p : Nat) (mask : Nat) (launch : Nat) (inst : Nat) (abort : Bool) (hk : Keeps s0 s) :
   Keeps s0 (State.triggerRequest s q p mask launch inst abort) := by
  unfold State.triggerRequest
  repeat' (first | intro _ | with_reducible assumption | exact rfl | dsimp only | with_reducible apply keeps_modChn | with_reducible apply keeps_sendTrigger | with_reducible apply keeps_emit | with_reducible apply keeps_ite | with_reducible apply keeps_ite2 | with_reducible apply keeps_foldl | split | ((with_reducible apply keeps_mk); (iterate 4 with_reducible exact rfl); first | with_reducible exact rfl | exact rfl))

theorem keeps_windowNotice {s0 s : State} (q : Nat) (w : Nat) (open_ : Bool) (len : Nat) (hk : Keeps s0 s) :
   Keeps s0 (State.windowNotice s q w open_ len) := by
  unfold State.windowNotice
  repeat' (first | intro _ | with_reducible assumption | exact rfl | dsimp only | with_reducible apply keeps_putFldBit | with_reducible apply keeps_modChn | with_reducible apply keeps_ite | with_reducible apply keeps_ite2 | with_reducible apply keeps_foldl | split | ((with_reducible apply keeps_mk); (iterate 4 with_reducible exact rfl); first | with_reducible exact rfl | exact rfl))

theorem keeps_chainMessage {s0 s : State} (q : Nat) (y : ChainMsg) (hk : Keeps s0 s) :
   Keeps s0 (State.chainMessage s q y) := by
  unfold State.chainMessage
  repeat' (first | intro _ | with_reducible assumption | exact rfl | dsimp only | with_reducible apply keeps_takeSchedule | with_reducible apply keeps_logEvent | with_reducible apply keeps_emit | with_reducible apply keeps_schedAnswer | with_reducible apply keeps_schedRelease | with_reducible apply keeps_forwardNotice | with_reducible apply keeps_triggerRequest | with_reducible apply keeps_windowNotice | with_reducible apply keeps_tunnelRequest | with_reducible apply keeps_tunnelResponse | with_reducible apply keeps_ite | with_reducible apply keeps_ite2 | with_reducible apply keeps_foldl | split | ((with_reducible apply keeps_mk); (iterate 4 with_reducible exact rfl); first | with_reducible exact rfl | exact rfl))

theorem keeps_chainAccept {s0 s : State} (p : Nat) (len : Nat) (hk : Keeps s0 s) :
   Keeps s0 (State.chainAccept s p len) := by
  unfold State.chainAccept
  repeat' (first | intro _ | with_reducible assumption | exact rfl | dsimp only | with_reducible apply keeps_setPort | with_reducible apply keeps_freeCredits | with_reducible apply keeps_sendAck | with_reducible apply keeps_ite | with_reducible apply keeps_ite2 | with_reducible apply keeps_foldl | split | ((with_reducible apply keeps_mk); (iterate 4 with_reducible exact rfl); first | with_reducible exact rfl | exact rfl))

theorem keeps_passOn {s0 s : State} (p : Nat) (q : Nat) (d : Option Nat) (o : Out) (hk : Keeps s0 s) :
   Keeps s0 (State.passOn s p q d o) := by
  unfold State.passOn
  repeat' (first | intro _ | with_reducible assumption | exact rfl | dsimp only | with_reducible apply keeps_emit | with_reducible apply keeps_ite | with_reducible apply keeps_ite2 | with_reducible apply keeps_foldl | split | ((with_reducible apply keeps_mk); (iterate 4 with_reducible exact rfl); first | with_reducible exact rfl | exact rfl))

theorem keeps_chainPacket {s0 s : State} (q : Nat) (d : Option Nat) (len : Nat) (o : Out) (act : State → State) (hk : Keeps s0 s) (hact : ∀ t, Keeps s0 t → Keeps s0 (act t)) :
   Keeps s0 (State.chainPacket s q d len o act) := by
  unfold State.chainPacket
  repeat' (first | intro _ | with_reducible assumption | exact rfl | dsimp only | with_reducible apply keeps_chainAccept | with_reducible apply keeps_passOn | exact hact _ ‹_›| apply hact | with_reducible apply keeps_ite | with_reducible apply keeps_ite2 | with_reducible apply keeps_foldl | split | ((with_reducible apply keeps_mk); (iterate 4 with_reducible exact rfl); first | with_reducible exact rfl | exact rfl))

theorem keeps_onFwdPacket {s0 s : State} (q : Nat) (d : Nat) (p : Nat) (stamp : Nat) (k : Packet) (hk : Keeps s0 s) :
   Keeps s0 (State.onFwdPacket s q d p stamp k) := by
  unfold State.onFwdPacket
  repeat' (first | intro _ | with_reducible assumption | exact rfl | dsimp only | with_reducible apply keeps_chainPacket | with_reducible apply keeps_fwdPacket | with_reducible apply keeps_ite | with_reducible apply keeps_ite2 | with_reducible apply keeps_foldl | split | ((with_reducible apply keeps_mk); (iterate 4 with_reducible exact rfl); first | with_reducible exact rfl | exact rfl))

theorem keeps_onFwdControl {s0 s : State} (q : Nat) (d : Nat) (p : Nat) (len : Nat) (c : FwdCtl) (hk : Keeps s0 s) :
   Keeps s0 (State.onFwdControl s q d p len c) := by
  unfold State.onFwdControl
  repeat' (first | intro _ | with_reducible assumption | exact rfl | dsimp only | with_reducible apply keeps_chainPacket | with_reducible apply keeps_fwdControl | with_reducible apply keeps_ite | with_reducible apply keeps_ite2 | with_reducible apply keeps_foldl | split | ((with_reducible apply keeps_mk); (iterate 4 with_reducible exact rfl); first | with_reducible exact rfl | exact rfl))

theorem keeps_onPeerWrite {s0 s : State} (q : Nat) (d : Nat) (info : Nat) (bytes : List Byte) (hk : Keeps s0 s) :
   Keeps s0 (State.onPeerWrite s q d info bytes) := by
  unfold State.onPeerWrite
  repeat' (first | intro _ | with_reducible assumption | exact rfl | dsimp only | with_reducible apply keeps_chainPacket | with_reducible apply keeps_peerWrite | with_reducible apply keeps_ite | with_reducible apply keeps_ite2 | with_reducible apply keeps_foldl | split | ((with_reducible apply keeps_mk); (iterate 4 with_reducible exact rfl); first | with_reducible exact rfl | exact rfl))

theorem keeps_onPeerAck {s0 s : State} (q : Nat) (d : Nat) (info : Nat) (hk : Keeps s0 s) :
   Keeps s0 (State.onPeerAck s q d info) := by
  unfold State.onPeerAck
  repeat' (first | intro _ | with_reducible assumption | exact rfl | dsimp only | with_reducible apply keeps_chainPacket | with_reducible apply keeps_peerAck | with_reducible apply keeps_ite | with_reducible apply keeps_ite2 | with_reducible apply keeps_foldl | split | ((with_reducible apply keeps_mk); (iterate 4 with_reducible exact rfl); first | with_reducible exact rfl | exact rfl))

theorem keeps_onMessage {s0 s : State} (q : Nat) (d : Nat) (len : Nat) (m : ChainMsg) (hk : Keeps s0 s) :
   Keeps s0 (State.onMessage s q d len m) := by
  unfold State.onMessage
  repeat' (first | intro _ | with_reducible assumption | exact rfl | dsimp only | with_reducible apply keeps_chainPacket | with_reducible apply keeps_chainMessage | with_reducible apply keeps_ite | with_reducible apply keeps_ite2 | with_reducible apply keeps_foldl | split | ((with_reducible apply keeps_mk); (iterate 4 with_reducible exact rfl); first | with_reducible exact rfl | exact rfl))

theorem keeps_onStatus {s0 s : State} (q : Nat) (len : Nat) (reach : Nat) (timeState : Nat) (enrol : Option (List Byte)) (seq : Nat) (hk : Keeps s0 s) :
   Keeps s0 (State.onStatus s q len reach timeState enrol seq) := by
  unfold State.onStatus
  repeat' (first | intro _ | with_reducible assumption | exact rfl | dsimp only | with_reducible apply keeps_chainPacket | with_reducible apply keeps_chainStatus | with_reducible apply keeps_statusReceived | with_reducible apply keeps_ite | with_reducible apply keeps_ite2 | with_reducible apply keeps_foldl | split | ((with_reducible apply keeps_mk); (iterate 4 with_reducible exact rfl); first | with_reducible exact rfl | exact rfl))

theorem keeps_unitReset {s0 s : State} (r : CmdRef) (scope : Nat) (n : Nat) (ok : State → Nat → Bool) (body : Nat → State → State) (hk : Keeps s0 s) (hbody : ∀ x0 t, Keeps s0 t → Keeps s0 (body x0 t)) :
   Keeps s0 (State.unitReset s r scope n ok body) := by
  unfold State.unitReset
  repeat' (first | intro _ | with_reducible assumption | exact rfl | dsimp only | with_reducible apply keeps_onCmd | with_reducible apply keeps_reply | with_reducible apply keeps_takeFree | with_reducible apply keeps_traceEv | with_reducible apply keeps_modBoot | exact hbody _ ‹_›| apply hbody | with_reducible apply keeps_ite | with_reducible apply keeps_ite2 | with_reducible apply keeps_foldl | split | ((with_reducible apply keeps_mk); (iterate 4 with_reducible exact rfl); first | with_reducible exact rfl | exact rfl))

theorem keeps_resetCore {s0 s : State} (i : Nat) (r : CmdRef) (hk : Keeps s0 s) :
   Keeps s0 (State.resetCore s i r) := by
  unfold State.resetCore
  repeat' (first | intro _ | with_reducible assumption | exact rfl | dsimp only | with_reducible apply keeps_modCore | with_reducible apply keeps_haltCore | with_reducible apply keeps_ite | with_reducible apply keeps_ite2 | with_reducible apply keeps_foldl | split | ((with_reducible apply keeps_mk); (iterate 4 with_reducible exact rfl); first | with_reducible exact rfl | exact rfl))

theorem keeps_unitResetCore {s0 s : State} (r : CmdRef) (hk : Keeps s0 s) :
   Keeps s0 (State.unitResetCore s r) := by
  unfold State.unitResetCore
  repeat' (first | intro _ | with_reducible assumption | exact rfl | dsimp only | with_reducible apply keeps_unitReset | with_reducible apply keeps_resetCore | with_reducible apply keeps_ite | with_reducible apply keeps_ite2 | with_reducible apply keeps_foldl | split | ((with_reducible apply keeps_mk); (iterate 4 with_reducible exact rfl); first | with_reducible exact rfl | exact rfl))

theorem keeps_resetPort {s0 s : State} (p : Nat) (r : CmdRef) (hk : Keeps s0 s) :
   Keeps s0 (State.resetPort s p r) := by
  unfold State.resetPort
  repeat' (first | intro _ | with_reducible assumption | exact rfl | dsimp only | with_reducible apply keeps_portDown | with_reducible apply keeps_resetRegs | with_reducible apply keeps_setFld | with_reducible apply keeps_modPort | with_reducible apply keeps_beginAttempt | with_reducible apply keeps_ite | with_reducible apply keeps_ite2 | with_reducible apply keeps_foldl | split | ((with_reducible apply keeps_mk); (iterate 4 with_reducible exact rfl); first | with_reducible exact rfl | exact rfl))

theorem keeps_unitResetPort {s0 s : State} (r : CmdRef) (hk : Keeps s0 s) :
   Keeps s0 (State.unitResetPort s r) := by
  unfold State.unitResetPort
  repeat' (first | intro _ | with_reducible assumption | exact rfl | dsimp only | with_reducible apply keeps_unitReset | with_reducible apply keeps_resetPort | with_reducible apply keeps_ite | with_reducible apply keeps_ite2 | with_reducible apply keeps_foldl | split | ((with_reducible apply keeps_mk); (iterate 4 with_reducible exact rfl); first | with_reducible exact rfl | exact rfl))

theorem keeps_dropGroupFrames {s0 s : State} (g : Nat) (n : Nat) (hk : Keeps s0 s) :
   Keeps s0 (State.dropGroupFrames s g n) := by
  unfold State.dropGroupFrames
  repeat' (first | intro _ | with_reducible assumption | exact rfl | dsimp only | with_reducible apply keeps_finalize | with_reducible apply keeps_map | with_reducible apply keeps_ite | with_reducible apply keeps_ite2 | with_reducible apply keeps_foldl | split | ((with_reducible apply keeps_mk); (iterate 4 with_reducible exact rfl); first | with_reducible exact rfl | exact rfl))

theorem keeps_resetGroup {s0 s : State} (g : Nat) (r : CmdRef) (hk : Keeps s0 s) :
   Keeps s0 (State.resetGroup s g r) := by
  unfold State.resetGroup
  repeat' (first | intro _ | with_reducible assumption | exact rfl | dsimp only | with_reducible apply keeps_haltCore | with_reducible apply keeps_modCore | with_reducible apply keeps_dropGroupFrames | with_reducible apply keeps_resetRegs | with_reducible apply keeps_modGroup | with_reducible apply keeps_map | with_reducible apply keeps_ite | with_reducible apply keeps_ite2 | with_reducible apply keeps_foldl | split | ((with_reducible apply keeps_mk); (iterate 4 with_reducible exact rfl); first | with_reducible exact rfl | exact rfl))

theorem keeps_unitResetGroup {s0 s : State} (r : CmdRef) (hk : Keeps s0 s) :
   Keeps s0 (State.unitResetGroup s r) := by
  unfold State.unitResetGroup
  repeat' (first | intro _ | with_reducible assumption | exact rfl | dsimp only | with_reducible apply keeps_unitReset | with_reducible apply keeps_resetGroup | with_reducible apply keeps_ite | with_reducible apply keeps_ite2 | with_reducible apply keeps_foldl | split | ((with_reducible apply keeps_mk); (iterate 4 with_reducible exact rfl); first | with_reducible exact rfl | exact rfl))

theorem keeps_unitResetTenant {s0 s : State} (r : CmdRef) (hk : Keeps s0 s) :
   Keeps s0 (State.unitResetTenant s r) := by
  unfold State.unitResetTenant
  repeat' (first | intro _ | with_reducible assumption | exact rfl | dsimp only | with_reducible apply keeps_unitReset | with_reducible apply keeps_scrub | with_reducible apply keeps_ite | with_reducible apply keeps_ite2 | with_reducible apply keeps_foldl | split | ((with_reducible apply keeps_mk); (iterate 4 with_reducible exact rfl); first | with_reducible exact rfl | exact rfl))

theorem keeps_pinsFrom {s0 s : State} (old : State) (hk : Keeps s0 s) :
   Keeps s0 (State.pinsFrom s old) := by
  unfold State.pinsFrom
  repeat' (first | intro _ | with_reducible assumption | exact rfl | dsimp only | with_reducible apply keeps_emit | with_reducible apply keeps_driveFrom | with_reducible apply keeps_ite | with_reducible apply keeps_ite2 | with_reducible apply keeps_foldl | split | ((with_reducible apply keeps_mk); (iterate 4 with_reducible exact rfl); first | with_reducible exact rfl | exact rfl))

theorem keeps_bare {s0 s : State} (hk : Keeps s0 s) : Keeps s0 s.bare := by
  unfold State.bare
  dsimp only
  apply keeps_setFld
  apply keeps_setFld
  exact ⟨hk.queue, fun _ => rfl, hk.sent, hk.free, hk.enrol⟩

theorem keeps_wholeReset {s0 s : State} (cause : Nat) (hk : Keeps s0 s) :
   Keeps s0 (State.wholeReset s cause) := by
  unfold State.wholeReset
  repeat' (first | intro _ | with_reducible assumption | exact rfl | dsimp only | with_reducible apply keeps_bare | with_reducible apply keeps_setFld | with_reducible apply keeps_pinsFrom | with_reducible apply keeps_ite | with_reducible apply keeps_ite2 | with_reducible apply keeps_foldl | split | ((with_reducible apply keeps_mk); (iterate 4 with_reducible exact rfl); first | with_reducible exact rfl | exact rfl))

theorem keeps_powerReset {s0 s : State} (hk : Keeps s0 s) :
   Keeps s0 (State.powerReset s) := by
  unfold State.powerReset
  repeat' (first | intro _ | with_reducible assumption | exact rfl | dsimp only | with_reducible apply keeps_bare | with_reducible apply keeps_pinsFrom | with_reducible apply keeps_ite | with_reducible apply keeps_ite2 | with_reducible apply keeps_foldl | split | ((with_reducible apply keeps_mk); (iterate 4 with_reducible exact rfl); first | with_reducible exact rfl | exact rfl))

theorem keeps_startUp {s0 s : State} (hk : Keeps s0 s) :
   Keeps s0 (State.startUp s) := by
  unfold State.startUp
  repeat' (first | intro _ | with_reducible assumption | exact rfl | dsimp only | with_reducible apply keeps_modBoot | with_reducible apply keeps_tap | with_reducible apply keeps_ite | with_reducible apply keeps_ite2 | with_reducible apply keeps_foldl | split | ((with_reducible apply keeps_mk); (iterate 4 with_reducible exact rfl); first | with_reducible exact rfl | exact rfl))

theorem keeps_perstAssert {s0 s : State} (hk : Keeps s0 s) :
   Keeps s0 (State.perstAssert s) := by
  unfold State.perstAssert
  repeat' (first | intro _ | with_reducible assumption | exact rfl | dsimp only | with_reducible apply keeps_wholeReset | with_reducible apply keeps_modBoot | with_reducible apply keeps_ite | with_reducible apply keeps_ite2 | with_reducible apply keeps_foldl | split | ((with_reducible apply keeps_mk); (iterate 4 with_reducible exact rfl); first | with_reducible exact rfl | exact rfl))

theorem keeps_hotReset {s0 s : State} (hk : Keeps s0 s) :
   Keeps s0 (State.hotReset s) := by
  unfold State.hotReset
  repeat' (first | intro _ | with_reducible assumption | exact rfl | dsimp only | with_reducible apply keeps_wholeReset | with_reducible apply keeps_startUp | with_reducible apply keeps_ite | with_reducible apply keeps_ite2 | with_reducible apply keeps_foldl | split | ((with_reducible apply keeps_mk); (iterate 4 with_reducible exact rfl); first | with_reducible exact rfl | exact rfl))

theorem keeps_porstAssert {s0 s : State} (hk : Keeps s0 s) :
   Keeps s0 (State.porstAssert s) := by
  unfold State.porstAssert
  repeat' (first | intro _ | with_reducible assumption | exact rfl | dsimp only | with_reducible apply keeps_powerReset | with_reducible apply keeps_modBoot | with_reducible apply keeps_ite | with_reducible apply keeps_ite2 | with_reducible apply keeps_foldl | split | ((with_reducible apply keeps_mk); (iterate 4 with_reducible exact rfl); first | with_reducible exact rfl | exact rfl))

theorem keeps_railDip {s0 s : State} (hk : Keeps s0 s) :
   Keeps s0 (State.railDip s) := by
  unfold State.railDip
  repeat' (first | intro _ | with_reducible assumption | exact rfl | dsimp only | with_reducible apply keeps_powerReset | with_reducible apply keeps_startUp | with_reducible apply keeps_ite | with_reducible apply keeps_ite2 | with_reducible apply keeps_foldl | split | ((with_reducible apply keeps_mk); (iterate 4 with_reducible exact rfl); first | with_reducible exact rfl | exact rfl))

theorem keeps_startupBegin {s0 s : State} (pos : Nat) (hk : Keeps s0 s) :
   Keeps s0 (State.startupBegin s pos) := by
  unfold State.startupBegin
  repeat' (first | intro _ | with_reducible assumption | exact rfl | dsimp only | with_reducible apply keeps_modBoot | with_reducible apply keeps_setFld | with_reducible apply keeps_startUp | with_reducible apply keeps_ite | with_reducible apply keeps_ite2 | with_reducible apply keeps_foldl | split | ((with_reducible apply keeps_mk); (iterate 4 with_reducible exact rfl); first | with_reducible exact rfl | exact rfl))

theorem keeps_setStage {s0 s : State} (k : Nat) (hk : Keeps s0 s) :
   Keeps s0 (State.setStage s k) := by
  unfold State.setStage
  repeat' (first | intro _ | with_reducible assumption | exact rfl | dsimp only | with_reducible apply keeps_setFld | with_reducible apply keeps_ite | with_reducible apply keeps_ite2 | with_reducible apply keeps_foldl | split | ((with_reducible apply keeps_mk); (iterate 4 with_reducible exact rfl); first | with_reducible exact rfl | exact rfl))

theorem keeps_startupFail {s0 s : State} (code : Nat) (unit : Nat) (hk : Keeps s0 s) :
   Keeps s0 (State.startupFail s code unit) := by
  unfold State.startupFail
  repeat' (first | intro _ | with_reducible assumption | exact rfl | dsimp only | with_reducible apply keeps_modBoot | with_reducible apply keeps_setFld | with_reducible apply keeps_fatalError | with_reducible apply keeps_ite | with_reducible apply keeps_ite2 | with_reducible apply keeps_foldl | split | ((with_reducible apply keeps_mk); (iterate 4 with_reducible exact rfl); first | with_reducible exact rfl | exact rfl))

theorem keeps_clocksLocked {s0 s : State} (hk : Keeps s0 s) :
   Keeps s0 (State.clocksLocked s) := by
  unfold State.clocksLocked
  repeat' (first | intro _ | with_reducible assumption | exact rfl | dsimp only | with_reducible apply keeps_setRegN | with_reducible apply keeps_modTime | with_reducible apply keeps_setStage | with_reducible apply keeps_setSource | with_reducible apply keeps_ite | with_reducible apply keeps_ite2 | with_reducible apply keeps_foldl | split | ((with_reducible apply keeps_mk); (iterate 4 with_reducible exact rfl); first | with_reducible exact rfl | exact rfl))

theorem keeps_pllTimeout {s0 s : State} (hk : Keeps s0 s) :
   Keeps s0 (State.pllTimeout s) := by
  unfold State.pllTimeout
  repeat' (first | intro _ | with_reducible assumption | exact rfl | dsimp only | with_reducible apply keeps_startupFail | with_reducible apply keeps_ite | with_reducible apply keeps_ite2 | with_reducible apply keeps_foldl | split | ((with_reducible apply keeps_mk); (iterate 4 with_reducible exact rfl); first | with_reducible exact rfl | exact rfl))

theorem keeps_memGeom {s0 s : State} (b : List Byte) (hk : Keeps s0 s) :
   Keeps s0 (State.memGeom s b) := by
  unfold State.memGeom
  repeat' (first | intro _ | with_reducible assumption | exact rfl | dsimp only | with_reducible apply keeps_setFld | with_reducible apply keeps_ite | with_reducible apply keeps_ite2 | with_reducible apply keeps_foldl | split | ((with_reducible apply keeps_mk); (iterate 4 with_reducible exact rfl); first | with_reducible exact rfl | exact rfl))

theorem keeps_runImage {s0 s : State} (slot : Nat) (x : FwImage) (hk : Keeps s0 s) :
   Keeps s0 (State.runImage s slot x) := by
  unfold State.runImage
  repeat' (first | intro _ | with_reducible assumption | exact rfl | dsimp only | with_reducible apply keeps_modBoot | with_reducible apply keeps_modSec | with_reducible apply keeps_setFld | with_reducible apply keeps_setMeas | with_reducible apply keeps_deriveIdentity | with_reducible apply keeps_takeFree | with_reducible apply keeps_modHold | with_reducible apply keeps_noPolicy | with_reducible apply keeps_memGeom | with_reducible apply keeps_ite | with_reducible apply keeps_ite2 | with_reducible apply keeps_foldl | split | ((with_reducible apply keeps_mk); (iterate 4 with_reducible exact rfl); first | with_reducible exact rfl | exact rfl))

theorem keeps_imageAccepted {s0 s : State} (a : FwImage) (b : FwImage) (selfTest : Bool) (hk : Keeps s0 s) :
   Keeps s0 (State.imageAccepted s a b selfTest) := by
  unfold State.imageAccepted
  repeat' (first | intro _ | with_reducible assumption | exact rfl | dsimp only | with_reducible apply keeps_setStage | with_reducible apply keeps_startupFail | with_reducible apply keeps_setFld | with_reducible apply keeps_runImage | with_reducible apply keeps_ite | with_reducible apply keeps_ite2 | with_reducible apply keeps_foldl | split | ((with_reducible apply keeps_mk); (iterate 4 with_reducible exact rfl); first | with_reducible exact rfl | exact rfl))

theorem keeps_cpStartTimeout {s0 s : State} (cp : Nat) (hk : Keeps s0 s) :
   Keeps s0 (State.cpStartTimeout s cp) := by
  unfold State.cpStartTimeout
  repeat' (first | intro _ | with_reducible assumption | exact rfl | dsimp only | with_reducible apply keeps_startupFail | with_reducible apply keeps_ite | with_reducible apply keeps_ite2 | with_reducible apply keeps_foldl | split | ((with_reducible apply keeps_mk); (iterate 4 with_reducible exact rfl); first | with_reducible exact rfl | exact rfl))

theorem keeps_trainingDone {s0 s : State} (failed : Nat) (hk : Keeps s0 s) :
   Keeps s0 (State.trainingDone s failed) := by
  unfold State.trainingDone
  repeat' (first | intro _ | with_reducible assumption | exact rfl | dsimp only | with_reducible apply keeps_setStage | with_reducible apply keeps_setFld | with_reducible apply keeps_modHold | with_reducible apply keeps_map | with_reducible apply keeps_startupFail | with_reducible apply keeps_ite | with_reducible apply keeps_ite2 | with_reducible apply keeps_foldl | split | ((with_reducible apply keeps_mk); (iterate 4 with_reducible exact rfl); first | with_reducible exact rfl | exact rfl))

theorem keeps_memInitDone {s0 s : State} (err : Option Nat) (hk : Keeps s0 s) :
   Keeps s0 (State.memInitDone s err) := by
  unfold State.memInitDone
  repeat' (first | intro _ | with_reducible assumption | exact rfl | dsimp only | with_reducible apply keeps_startupFail | with_reducible apply keeps_memZero | with_reducible apply keeps_modHold | with_reducible apply keeps_setFld | with_reducible apply keeps_setStage | with_reducible apply keeps_ite | with_reducible apply keeps_ite2 | with_reducible apply keeps_foldl | split | ((with_reducible apply keeps_mk); (iterate 4 with_reducible exact rfl); first | with_reducible exact rfl | exact rfl))

theorem keeps_startupReady {s0 s : State} (hk : Keeps s0 s) :
   Keeps s0 (State.startupReady s) := by
  unfold State.startupReady
  repeat' (first | intro _ | with_reducible assumption | exact rfl | dsimp only | with_reducible apply keeps_setStage | with_reducible apply keeps_modBoot | with_reducible apply keeps_clearCore | with_reducible apply keeps_modGroup | with_reducible apply keeps_beginAttempt | with_reducible apply keeps_putFldBit | with_reducible apply keeps_setFld | with_reducible apply keeps_ite | with_reducible apply keeps_ite2 | with_reducible apply keeps_foldl | split | ((with_reducible apply keeps_mk); (iterate 4 with_reducible exact rfl); first | with_reducible exact rfl | exact rfl))

theorem keeps_clockLost {s0 s : State} (k : Nat) (hk : Keeps s0 s) :
   Keeps s0 (State.clockLost s k) := by
  unfold State.clockLost
  repeat' (first | intro _ | with_reducible assumption | exact rfl | dsimp only | with_reducible apply keeps_setRegN | with_reducible apply keeps_fatalError | with_reducible apply keeps_ite | with_reducible apply keeps_ite2 | with_reducible apply keeps_foldl | split | ((with_reducible apply keeps_mk); (iterate 4 with_reducible exact rfl); first | with_reducible exact rfl | exact rfl))

theorem keeps_controlMemoryError {s0 s : State} (cp : Nat) (hk : Keeps s0 s) :
   Keeps s0 (State.controlMemoryError s cp) := by
  unfold State.controlMemoryError
  repeat' (first | intro _ | with_reducible assumption | exact rfl | dsimp only | with_reducible apply keeps_fatalError | with_reducible apply keeps_ite | with_reducible apply keeps_ite2 | with_reducible apply keeps_foldl | split | ((with_reducible apply keeps_mk); (iterate 4 with_reducible exact rfl); first | with_reducible exact rfl | exact rfl))

theorem keeps_cpWatchdog {s0 s : State} (cp : Nat) (hk : Keeps s0 s) :
   Keeps s0 (State.cpWatchdog s cp) := by
  unfold State.cpWatchdog
  repeat' (first | intro _ | with_reducible assumption | exact rfl | dsimp only | with_reducible apply keeps_fatalError | with_reducible apply keeps_logEvent | with_reducible apply keeps_ite | with_reducible apply keeps_ite2 | with_reducible apply keeps_foldl | split | ((with_reducible apply keeps_mk); (iterate 4 with_reducible exact rfl); first | with_reducible exact rfl | exact rfl))

theorem keeps_poisonedWrite {s0 s : State} (fn : Nat) (hk : Keeps s0 s) :
   Keeps s0 (State.poisonedWrite s fn) := by
  unfold State.poisonedWrite
  repeat' (first | intro _ | with_reducible assumption | exact rfl | dsimp only | with_reducible apply keeps_aerError | with_reducible apply keeps_ite | with_reducible apply keeps_ite2 | with_reducible apply keeps_foldl | split | ((with_reducible apply keeps_mk); (iterate 4 with_reducible exact rfl); first | with_reducible exact rfl | exact rfl))

theorem keeps_configRequest {s0 s : State} (req : Nat) (w : Option CfgWrite) (hk : Keeps s0 s) :
   Keeps s0 (State.configRequest s req w) := by
  unfold State.configRequest
  repeat' (first | intro _ | with_reducible assumption | exact rfl | dsimp only | with_reducible apply keeps_emit | with_reducible apply keeps_modFn | with_reducible apply keeps_modTime | with_reducible apply keeps_ite | with_reducible apply keeps_ite2 | with_reducible apply keeps_foldl | split | ((with_reducible apply keeps_mk); (iterate 4 with_reducible exact rfl); first | with_reducible exact rfl | exact rfl))

theorem keeps_hostError {s0 s : State} (y : (Nat × Nat × Nat × Nat × Nat) ⊕ CmdRef) (hk : Keeps s0 s) :
    Keeps s0 (s.hostError y) := by
  rcases y with ⟨i, q, k, r, p⟩ | c
  · exact keeps_hostReadError i q k r p hk
  · exact keeps_cmdReadError c hk

theorem keeps_tap {s0 s : State} (mode : Nat) (body : State → State) (hk : Keeps s0 s) (hbody : ∀ t, Keeps s0 t → Keeps s0 (body t)) :
   Keeps s0 (State.tap s mode body) := by
  unfold State.tap
  repeat' (first | intro _ | with_reducible assumption | exact rfl | dsimp only | with_reducible apply keeps_modBoot | exact hbody _ ‹_›| apply hbody | with_reducible apply keeps_ite | with_reducible apply keeps_ite2 | with_reducible apply keeps_foldl | split | ((with_reducible apply keeps_mk); (iterate 4 with_reducible exact rfl); first | with_reducible exact rfl | exact rfl))

theorem keeps_tapBypass {s0 s : State} (hk : Keeps s0 s) :
   Keeps s0 (State.tapBypass s) := by
  unfold State.tapBypass
  repeat' (first | intro _ | with_reducible assumption | exact rfl | dsimp only | with_reducible apply keeps_tap | with_reducible apply keeps_ite | with_reducible apply keeps_ite2 | with_reducible apply keeps_foldl | split | ((with_reducible apply keeps_mk); (iterate 4 with_reducible exact rfl); first | with_reducible exact rfl | exact rfl))

theorem keeps_tapIdcode {s0 s : State} (hk : Keeps s0 s) :
   Keeps s0 (State.tapIdcode s) := by
  unfold State.tapIdcode
  repeat' (first | intro _ | with_reducible assumption | exact rfl | dsimp only | with_reducible apply keeps_tap | with_reducible apply keeps_emit | with_reducible apply keeps_ite | with_reducible apply keeps_ite2 | with_reducible apply keeps_foldl | split | ((with_reducible apply keeps_mk); (iterate 4 with_reducible exact rfl); first | with_reducible exact rfl | exact rfl))

theorem keeps_tapSample {s0 s : State} (levels : List Bool) (preload : List Bool) (hk : Keeps s0 s) :
   Keeps s0 (State.tapSample s levels preload) := by
  unfold State.tapSample
  repeat' (first | intro _ | with_reducible assumption | exact rfl | dsimp only | with_reducible apply keeps_tap | with_reducible apply keeps_modBoot | with_reducible apply keeps_emit | with_reducible apply keeps_ite | with_reducible apply keeps_ite2 | with_reducible apply keeps_foldl | split | ((with_reducible apply keeps_mk); (iterate 4 with_reducible exact rfl); first | with_reducible exact rfl | exact rfl))

theorem keeps_tapExtest {s0 s : State} (mode : Nat) (hk : Keeps s0 s) :
   Keeps s0 (State.tapExtest s mode) := by
  unfold State.tapExtest
  repeat' (first | intro _ | with_reducible assumption | exact rfl | dsimp only | with_reducible apply keeps_tap | with_reducible apply keeps_emit | with_reducible apply keeps_ite | with_reducible apply keeps_ite2 | with_reducible apply keeps_foldl | split | ((with_reducible apply keeps_mk); (iterate 4 with_reducible exact rfl); first | with_reducible exact rfl | exact rfl))

theorem keeps_smb {s0 s : State} (n : Nat) (v : Nat) (hk : Keeps s0 s) :
   Keeps s0 (State.smb s n v) := by
  unfold State.smb
  repeat' (first | intro _ | with_reducible assumption | exact rfl | dsimp only | with_reducible apply keeps_failClosed | with_reducible apply keeps_emit | with_reducible apply keeps_ite | with_reducible apply keeps_ite2 | with_reducible apply keeps_foldl | split | ((with_reducible apply keeps_mk); (iterate 4 with_reducible exact rfl); first | with_reducible exact rfl | exact rfl))

theorem keeps_smbPart {s0 s : State} (hk : Keeps s0 s) :
   Keeps s0 (State.smbPart s) := by
  unfold State.smbPart
  repeat' (first | intro _ | with_reducible assumption | exact rfl | dsimp only | with_reducible apply keeps_smb | with_reducible apply keeps_ite | with_reducible apply keeps_ite2 | with_reducible apply keeps_foldl | split | ((with_reducible apply keeps_mk); (iterate 4 with_reducible exact rfl); first | with_reducible exact rfl | exact rfl))

theorem keeps_smbBoot {s0 s : State} (hk : Keeps s0 s) :
   Keeps s0 (State.smbBoot s) := by
  unfold State.smbBoot
  repeat' (first | intro _ | with_reducible assumption | exact rfl | dsimp only | with_reducible apply keeps_smb | with_reducible apply keeps_ite | with_reducible apply keeps_ite2 | with_reducible apply keeps_foldl | split | ((with_reducible apply keeps_mk); (iterate 4 with_reducible exact rfl); first | with_reducible exact rfl | exact rfl))

theorem keeps_smbTemp {s0 s : State} (hk : Keeps s0 s) :
   Keeps s0 (State.smbTemp s) := by
  unfold State.smbTemp
  repeat' (first | intro _ | with_reducible assumption | exact rfl | dsimp only | with_reducible apply keeps_smb | with_reducible apply keeps_ite | with_reducible apply keeps_ite2 | with_reducible apply keeps_foldl | split | ((with_reducible apply keeps_mk); (iterate 4 with_reducible exact rfl); first | with_reducible exact rfl | exact rfl))

theorem keeps_smbPower {s0 s : State} (hk : Keeps s0 s) :
   Keeps s0 (State.smbPower s) := by
  unfold State.smbPower
  repeat' (first | intro _ | with_reducible assumption | exact rfl | dsimp only | with_reducible apply keeps_smb | with_reducible apply keeps_takeFree | with_reducible apply keeps_ite | with_reducible apply keeps_ite2 | with_reducible apply keeps_foldl | split | ((with_reducible apply keeps_mk); (iterate 4 with_reducible exact rfl); first | with_reducible exact rfl | exact rfl))

theorem keeps_smbGov {s0 s : State} (hk : Keeps s0 s) :
   Keeps s0 (State.smbGov s) := by
  unfold State.smbGov
  repeat' (first | intro _ | with_reducible assumption | exact rfl | dsimp only | with_reducible apply keeps_smb | with_reducible apply keeps_ite | with_reducible apply keeps_ite2 | with_reducible apply keeps_foldl | split | ((with_reducible apply keeps_mk); (iterate 4 with_reducible exact rfl); first | with_reducible exact rfl | exact rfl))

theorem keeps_smbFatal {s0 s : State} (hk : Keeps s0 s) :
   Keeps s0 (State.smbFatal s) := by
  unfold State.smbFatal
  repeat' (first | intro _ | with_reducible assumption | exact rfl | dsimp only | with_reducible apply keeps_smb | with_reducible apply keeps_ite | with_reducible apply keeps_ite2 | with_reducible apply keeps_foldl | split | ((with_reducible apply keeps_mk); (iterate 4 with_reducible exact rfl); first | with_reducible exact rfl | exact rfl))

theorem keeps_onBus {s0 s : State} (b : Block) (body : State → State) (hk : Keeps s0 s) (hbody : ∀ t, Keeps s0 t → Keeps s0 (body t)) :
   Keeps s0 (State.onBus s b body) := by
  unfold State.onBus
  repeat' (first | intro _ | with_reducible assumption | exact rfl | dsimp only | exact hbody _ ‹_›| apply hbody | with_reducible apply keeps_ite | with_reducible apply keeps_ite2 | with_reducible apply keeps_foldl | split | ((with_reducible apply keeps_mk); (iterate 4 with_reducible exact rfl); first | with_reducible exact rfl | exact rfl))

theorem keeps_latch {s0 s : State} (f : Nat) (r : RegName) (i : Nat) (v : Nat) (hk : Keeps s0 s) :
   Keeps s0 (State.latch s f r i v) := by
  unfold State.latch
  repeat' (first | intro _ | with_reducible assumption | exact rfl | dsimp only | with_reducible apply keeps_ite | with_reducible apply keeps_ite2 | with_reducible apply keeps_foldl | split | ((with_reducible apply keeps_mk); (iterate 4 with_reducible exact rfl); first | with_reducible exact rfl | exact rfl))

theorem keeps_snapRead {s0 s : State} (f : Nat) (hk : Keeps s0 s) :
   Keeps s0 (State.snapRead s f).2 := by
  unfold State.snapRead
  repeat' (first | intro _ | with_reducible assumption | exact rfl | dsimp only | with_reducible apply keeps_modTime | with_reducible apply keeps_latch | with_reducible apply keeps_ite | with_reducible apply keeps_ite2 | with_reducible apply keeps_foldl | split | ((with_reducible apply keeps_mk); (iterate 4 with_reducible exact rfl); first | with_reducible exact rfl | exact rfl))

theorem keeps_timeRead {s0 s : State} (f : Nat) (hk : Keeps s0 s) :
   Keeps s0 (State.timeRead s f).2 := by
  unfold State.timeRead
  repeat' (first | intro _ | with_reducible assumption | exact rfl | dsimp only | with_reducible apply keeps_takeFree | with_reducible apply keeps_latch | with_reducible apply keeps_ite | with_reducible apply keeps_ite2 | with_reducible apply keeps_foldl | split | ((with_reducible apply keeps_mk); (iterate 4 with_reducible exact rfl); first | with_reducible exact rfl | exact rfl))

theorem keeps_readReg {s0 s : State} (f : Nat) (r : RegName) (i : Nat) (hk : Keeps s0 s) :
   Keeps s0 (State.readReg s f r i).2 := by
  unfold State.readReg
  repeat' (first | intro _ | with_reducible assumption | exact rfl | dsimp only | with_reducible apply keeps_rxRead | with_reducible apply keeps_snapRead | with_reducible apply keeps_timeRead | with_reducible apply keeps_latch | with_reducible apply keeps_ite | with_reducible apply keeps_ite2 | with_reducible apply keeps_foldl | split | ((with_reducible apply keeps_mk); (iterate 4 with_reducible exact rfl); first | with_reducible exact rfl | exact rfl))

theorem keeps_readAt {s0 s : State} (f : Nat) (a : Nat) (hk : Keeps s0 s) :
   Keeps s0 (State.readAt s f a) := by
  unfold State.readAt
  repeat' (first | intro _ | with_reducible assumption | exact rfl | dsimp only | with_reducible apply keeps_readReg | with_reducible apply keeps_emit | with_reducible apply keeps_ite | with_reducible apply keeps_ite2 | with_reducible apply keeps_foldl | split | ((with_reducible apply keeps_mk); (iterate 4 with_reducible exact rfl); first | with_reducible exact rfl | exact rfl))

theorem keeps_repartition {s0 s : State} (v : Nat) (hk : Keeps s0 s) :
   Keeps s0 (State.repartition s v) := by
  unfold State.repartition
  repeat' (first | intro _ | with_reducible assumption | exact rfl | dsimp only | with_reducible apply keeps_setRegN | with_reducible apply keeps_setFld | with_reducible apply keeps_resetRegs | with_reducible apply keeps_setGroup | with_reducible apply keeps_ite | with_reducible apply keeps_ite2 | with_reducible apply keeps_foldl | split | ((with_reducible apply keeps_mk); (iterate 4 with_reducible exact rfl); first | with_reducible exact rfl | exact rfl))

theorem keeps_sgBoundaryWrite {s0 s : State} (w : Nat) (hk : Keeps s0 s) :
   Keeps s0 (State.sgBoundaryWrite s w) := by
  unfold State.sgBoundaryWrite
  repeat' (first | intro _ | with_reducible assumption | exact rfl | dsimp only | with_reducible apply keeps_setFld | with_reducible apply keeps_repartition | with_reducible apply keeps_ite | with_reducible apply keeps_ite2 | with_reducible apply keeps_foldl | split | ((with_reducible apply keeps_mk); (iterate 4 with_reducible exact rfl); first | with_reducible exact rfl | exact rfl))

theorem keeps_plainWrite {s0 s : State} (r : RegName) (i : Nat) (v : Nat) (hk : Keeps s0 s) :
   Keeps s0 (State.plainWrite s r i v) := by
  unfold State.plainWrite
  repeat' (first | intro _ | with_reducible assumption | exact rfl | dsimp only | with_reducible apply keeps_setRegN | with_reducible apply keeps_ite | with_reducible apply keeps_ite2 | with_reducible apply keeps_foldl | split | ((with_reducible apply keeps_mk); (iterate 4 with_reducible exact rfl); first | with_reducible exact rfl | exact rfl))

theorem keeps_expoCfgWrite {s0 s : State} (n : Nat) (v : Nat) (hk : Keeps s0 s) :
   Keeps s0 (State.expoCfgWrite s n v) := by
  unfold State.expoCfgWrite
  repeat' (first | intro _ | with_reducible assumption | exact rfl | dsimp only | with_reducible apply keeps_plainWrite | with_reducible apply keeps_setRegN | with_reducible apply keeps_ite | with_reducible apply keeps_ite2 | with_reducible apply keeps_foldl | split | ((with_reducible apply keeps_mk); (iterate 4 with_reducible exact rfl); first | with_reducible exact rfl | exact rfl))

theorem keeps_outCredit {s0 s : State} (n : Nat) (v : Nat) (hk : Keeps s0 s) :
   Keeps s0 (State.outCredit s n v) := by
  unfold State.outCredit
  repeat' (first | intro _ | with_reducible assumption | exact rfl | dsimp only | with_reducible apply keeps_setFld | with_reducible apply keeps_logEvent | with_reducible apply keeps_ite | with_reducible apply keeps_ite2 | with_reducible apply keeps_foldl | split | ((with_reducible apply keeps_mk); (iterate 4 with_reducible exact rfl); first | with_reducible exact rfl | exact rfl))

theorem keeps_ppbSelect {s0 s : State} (n : Nat) (v : Nat) (hk : Keeps s0 s) :
   Keeps s0 (State.ppbSelect s n v) := by
  unfold State.ppbSelect
  repeat' (first | intro _ | with_reducible assumption | exact rfl | dsimp only | with_reducible apply keeps_setFld | with_reducible apply keeps_ite | with_reducible apply keeps_ite2 | with_reducible apply keeps_foldl | split | ((with_reducible apply keeps_mk); (iterate 4 with_reducible exact rfl); first | with_reducible exact rfl | exact rfl))

theorem keeps_synCtlWrite {s0 s : State} (v : Nat) (hk : Keeps s0 s) :
   Keeps s0 (State.synCtlWrite s v) := by
  unfold State.synCtlWrite
  repeat' (first | intro _ | with_reducible assumption | exact rfl | dsimp only | with_reducible apply keeps_hardSet | with_reducible apply keeps_ite | with_reducible apply keeps_ite2 | with_reducible apply keeps_foldl | split | ((with_reducible apply keeps_mk); (iterate 4 with_reducible exact rfl); first | with_reducible exact rfl | exact rfl))

theorem keeps_adaptCfgWrite {s0 s : State} (n : Nat) (v : Nat) (hk : Keeps s0 s) :
   Keeps s0 (State.adaptCfgWrite s n v) := by
  unfold State.adaptCfgWrite
  repeat' (first | intro _ | with_reducible assumption | exact rfl | dsimp only | with_reducible apply keeps_plainWrite | with_reducible apply keeps_ite | with_reducible apply keeps_ite2 | with_reducible apply keeps_foldl | split | ((with_reducible apply keeps_mk); (iterate 4 with_reducible exact rfl); first | with_reducible exact rfl | exact rfl))

theorem keeps_windowWrite {s0 s : State} (r : RegName) (i v : Nat) (hk : Keeps s0 s) (t : State) (h : s.windowWrite r i v = some t) :
    Keeps s0 t := by
  unfold State.windowWrite at h
  split at h
  all_goals first | cases h | (injection h with e; subst e)
  all_goals first | exact keeps_cqCfgWrite _ _ _ hk | exact keeps_cqTailWrite _ _ _ hk | exact keeps_rqHeadWrite _ _ _ hk | exact keeps_evqCfgWrite _ _ hk | exact keeps_txWrite _ _ _ hk

theorem keeps_contextWrite {s0 s : State} (r : RegName) (i v : Nat) (hk : Keeps s0 s) (t : State) (h : s.contextWrite r i v = some t) :
    Keeps s0 t := by
  unfold State.contextWrite at h
  split at h
  all_goals first | cases h | (injection h with e; subst e)
  all_goals first | exact keeps_expoCfgWrite _ _ hk | exact keeps_expoWrite _ _ _ hk | exact keeps_wbWrite _ _ hk | exact keeps_ppbSelect _ _ hk | exact keeps_outCredit _ _ hk | exact keeps_adaptCfgWrite _ _ hk

theorem keeps_blockWrite {s0 s : State} (r : RegName) (i v : Nat) (hk : Keeps s0 s) (t : State) (h : s.blockWrite r i v = some t) :
    Keeps s0 t := by
  unfold State.blockWrite at h
  split at h
  all_goals first | cases h | (injection h with e; subst e)
  all_goals first | exact keeps_sgBoundaryWrite _ hk | exact keeps_synCfgWrite _ hk | exact keeps_synCtlWrite _ hk | exact keeps_schedCtlWrite _ _ hk | exact keeps_syncOutWrite _ _ hk | exact keeps_portCfgWrite _ _ hk | exact keeps_regulatorWrite _ _ hk | exact keeps_errReleaseWrite _ hk | exact keeps_errFirstWrite _ hk | exact keeps_pinClaimWrite _ hk | exact keeps_plainWrite _ _ _ (keeps_snufRun hk) | exact keeps_driveFrom _ (keeps_plainWrite _ _ _ hk)

theorem keeps_applyWrite {s0 s : State} (r : RegName) (i v : Nat) (hk : Keeps s0 s) : Keeps s0 (s.applyWrite r i v) := by
  unfold State.applyWrite
  split
  · exact hk
  · cases h1 : s.windowWrite r i v with
    | some t => exact keeps_windowWrite r i v hk t h1
    | none =>
      cases h2 : s.contextWrite r i v with
      | some t => exact keeps_contextWrite r i v hk t h2
      | none =>
        cases h3 : s.blockWrite r i v with
        | some t => exact keeps_blockWrite r i v hk t h3
        | none => exact keeps_plainWrite r i v hk

theorem keeps_pairLowWrite {s0 s : State} (f : Nat) (r : RegName) (i : Nat) (v : Nat) (hk : Keeps s0 s) :
   Keeps s0 (State.pairLowWrite s f r i v) := by
  unfold State.pairLowWrite
  repeat' (first | intro _ | with_reducible assumption | exact rfl | dsimp only | with_reducible apply keeps_ite | with_reducible apply keeps_ite2 | with_reducible apply keeps_foldl | split | ((with_reducible apply keeps_mk); (iterate 4 with_reducible exact rfl); first | with_reducible exact rfl | exact rfl))

theorem keeps_pairHighWrite {s0 s : State} (f : Nat) (r : RegName) (i : Nat) (v : Nat) (hk : Keeps s0 s) :
   Keeps s0 (State.pairHighWrite s f r i v) := by
  unfold State.pairHighWrite
  repeat' (first | intro _ | with_reducible assumption | exact rfl | dsimp only | with_reducible apply keeps_applyWrite | with_reducible apply keeps_ite | with_reducible apply keeps_ite2 | with_reducible apply keeps_foldl | split | ((with_reducible apply keeps_mk); (iterate 4 with_reducible exact rfl); first | with_reducible exact rfl | exact rfl))

theorem keeps_writeReg {s0 s : State} (f : Nat) (r : RegName) (i : Nat) (v : Nat) (hk : Keeps s0 s) :
   Keeps s0 (State.writeReg s f r i v) := by
  unfold State.writeReg
  repeat' (first | intro _ | with_reducible assumption | exact rfl | dsimp only | with_reducible apply keeps_pairLowWrite | with_reducible apply keeps_pairHighWrite | with_reducible apply keeps_applyWrite | with_reducible apply keeps_ite | with_reducible apply keeps_ite2 | with_reducible apply keeps_foldl | split | ((with_reducible apply keeps_mk); (iterate 4 with_reducible exact rfl); first | with_reducible exact rfl | exact rfl))

theorem keeps_aliasWrite {s0 s : State} (f : Nat) (a : Nat) (v : Nat) (hk : Keeps s0 s) :
   Keeps s0 (State.aliasWrite s f a v) := by
  unfold State.aliasWrite
  repeat' (first | intro _ | with_reducible assumption | exact rfl | dsimp only | with_reducible apply keeps_onBus | with_reducible apply keeps_writeReg | with_reducible apply keeps_ite | with_reducible apply keeps_ite2 | with_reducible apply keeps_foldl | split | ((with_reducible apply keeps_mk); (iterate 4 with_reducible exact rfl); first | with_reducible exact rfl | exact rfl))

theorem keeps_writeAt {s0 s : State} (f : Nat) (a : Nat) (v : Nat) (hk : Keeps s0 s) :
   Keeps s0 (State.writeAt s f a v) := by
  unfold State.writeAt
  repeat' (first | intro _ | with_reducible assumption | exact rfl | dsimp only | with_reducible apply keeps_onBus | with_reducible apply keeps_writeReg | with_reducible apply keeps_aliasWrite | with_reducible apply keeps_ite | with_reducible apply keeps_ite2 | with_reducible apply keeps_foldl | split | ((with_reducible apply keeps_mk); (iterate 4 with_reducible exact rfl); first | with_reducible exact rfl | exact rfl))

theorem keeps_busWrite {s0 s : State} (f : Nat) (a : Nat) (n : Nat) (v : Nat) (hk : Keeps s0 s) :
   Keeps s0 (State.busWrite s f a n v) := by
  unfold State.busWrite
  repeat' (first | intro _ | with_reducible assumption | exact rfl | dsimp only | with_reducible apply keeps_writeAt | with_reducible apply keeps_ite | with_reducible apply keeps_ite2 | with_reducible apply keeps_foldl | split | ((with_reducible apply keeps_mk); (iterate 4 with_reducible exact rfl); first | with_reducible exact rfl | exact rfl))

theorem keeps_busRead {s0 s : State} (f : Nat) (a : Nat) (n : Nat) (hk : Keeps s0 s) :
   Keeps s0 (State.busRead s f a n) := by
  unfold State.busRead
  repeat' (first | intro _ | with_reducible assumption | exact rfl | dsimp only | with_reducible apply keeps_readAt | with_reducible apply keeps_emit | with_reducible apply keeps_ite | with_reducible apply keeps_ite2 | with_reducible apply keeps_foldl | split | ((with_reducible apply keeps_mk); (iterate 4 with_reducible exact rfl); first | with_reducible exact rfl | exact rfl))

theorem keeps_halfWrite {s0 s : State} (f : Nat) (a : Nat) (h : Half) (v : Nat) (hk : Keeps s0 s) :
   Keeps s0 (State.halfWrite s f a h v) := by
  unfold State.halfWrite
  repeat' (first | intro _ | with_reducible assumption | exact rfl | dsimp only | with_reducible apply keeps_onBus | with_reducible apply keeps_writeReg | with_reducible apply keeps_ite | with_reducible apply keeps_ite2 | with_reducible apply keeps_foldl | split | ((with_reducible apply keeps_mk); (iterate 4 with_reducible exact rfl); first | with_reducible exact rfl | exact rfl))

theorem keeps_aeLoop {s0 s : State} (n : Nat) (hk : Keeps s0 s) :
   Keeps s0 (State.aeLoop s n) := by
  unfold State.aeLoop
  repeat' (first | intro _ | with_reducible assumption | exact rfl | dsimp only | with_reducible apply keeps_modCam | with_reducible apply keeps_stageSet | with_reducible apply keeps_camCount | with_reducible apply keeps_ite | with_reducible apply keeps_ite2 | with_reducible apply keeps_foldl | split | ((with_reducible apply keeps_mk); (iterate 4 with_reducible exact rfl); first | with_reducible exact rfl | exact rfl))

theorem keeps_awbLoop {s0 s : State} (n : Nat) (hk : Keeps s0 s) :
   Keeps s0 (State.awbLoop s n) := by
  unfold State.awbLoop
  repeat' (first | intro _ | with_reducible assumption | exact rfl | dsimp only | with_reducible apply keeps_modCam | with_reducible apply keeps_setRegN | with_reducible apply keeps_ite | with_reducible apply keeps_ite2 | with_reducible apply keeps_foldl | split | ((with_reducible apply keeps_mk); (iterate 4 with_reducible exact rfl); first | with_reducible exact rfl | exact rfl))

theorem keeps_dramHot {s0 s : State} (hk : Keeps s0 s) :
   Keeps s0 (State.dramHot s) := by
  unfold State.dramHot
  repeat' (first | intro _ | with_reducible assumption | exact rfl | dsimp only | with_reducible apply keeps_setFld | with_reducible apply keeps_ite | with_reducible apply keeps_ite2 | with_reducible apply keeps_foldl | split | ((with_reducible apply keeps_mk); (iterate 4 with_reducible exact rfl); first | with_reducible exact rfl | exact rfl))

theorem keeps_dramCool {s0 s : State} (hk : Keeps s0 s) :
   Keeps s0 (State.dramCool s) := by
  unfold State.dramCool
  repeat' (first | intro _ | with_reducible assumption | exact rfl | dsimp only | with_reducible apply keeps_setFld | with_reducible apply keeps_ite | with_reducible apply keeps_ite2 | with_reducible apply keeps_foldl | split | ((with_reducible apply keeps_mk); (iterate 4 with_reducible exact rfl); first | with_reducible exact rfl | exact rfl))

theorem keeps_bringupExpiry {s0 s : State} (p : Nat) (hk : Keeps s0 s) :
   Keeps s0 (State.bringupExpiry s p) := by
  unfold State.bringupExpiry
  repeat' (first | intro _ | with_reducible assumption | exact rfl | dsimp only | with_reducible apply keeps_attemptFail | with_reducible apply keeps_ite | with_reducible apply keeps_ite2 | with_reducible apply keeps_foldl | split | ((with_reducible apply keeps_mk); (iterate 4 with_reducible exact rfl); first | with_reducible exact rfl | exact rfl))

theorem keeps_ackTimer {s0 s : State} (p : Nat) (hk : Keeps s0 s) :
   Keeps s0 (State.ackTimer s p) := by
  unfold State.ackTimer
  repeat' (first | intro _ | with_reducible assumption | exact rfl | dsimp only | with_reducible apply keeps_sendAck | with_reducible apply keeps_ite | with_reducible apply keeps_ite2 | with_reducible apply keeps_foldl | split | ((with_reducible apply keeps_mk); (iterate 4 with_reducible exact rfl); first | with_reducible exact rfl | exact rfl))

theorem keeps_creditTimer {s0 s : State} (p : Nat) (hk : Keeps s0 s) :
   Keeps s0 (State.creditTimer s p) := by
  unfold State.creditTimer
  repeat' (first | intro _ | with_reducible assumption | exact rfl | dsimp only | with_reducible apply keeps_sendCredit | with_reducible apply keeps_ite | with_reducible apply keeps_ite2 | with_reducible apply keeps_foldl | split | ((with_reducible apply keeps_mk); (iterate 4 with_reducible exact rfl); first | with_reducible exact rfl | exact rfl))

theorem keeps_skipSend {s0 s : State} (p : Nat) (hk : Keeps s0 s) :
   Keeps s0 (State.skipSend s p) := by
  unfold State.skipSend
  repeat' (first | intro _ | with_reducible assumption | exact rfl | dsimp only | with_reducible apply keeps_queueBlock | with_reducible apply keeps_ite | with_reducible apply keeps_ite2 | with_reducible apply keeps_foldl | split | ((with_reducible apply keeps_mk); (iterate 4 with_reducible exact rfl); first | with_reducible exact rfl | exact rfl))

theorem keeps_heldStart {s0 s : State} (p : Nat) (hk : Keeps s0 s) :
   Keeps s0 (State.heldStart s p) := by
  unfold State.heldStart
  repeat' (first | intro _ | with_reducible assumption | exact rfl | dsimp only | with_reducible apply keeps_setPort | with_reducible apply keeps_beginTunnel | with_reducible apply keeps_ite | with_reducible apply keeps_ite2 | with_reducible apply keeps_foldl | split | ((with_reducible apply keeps_mk); (iterate 4 with_reducible exact rfl); first | with_reducible exact rfl | exact rfl))

theorem keeps_tunnelTimeout {s0 s : State} (p : Nat) (tag : Nat) (hk : Keeps s0 s) :
   Keeps s0 (State.tunnelTimeout s p tag) := by
  unfold State.tunnelTimeout
  repeat' (first | intro _ | with_reducible assumption | exact rfl | dsimp only | with_reducible apply keeps_modPort | with_reducible apply keeps_tunnelDone | with_reducible apply keeps_ite | with_reducible apply keeps_ite2 | with_reducible apply keeps_foldl | split | ((with_reducible apply keeps_mk); (iterate 4 with_reducible exact rfl); first | with_reducible exact rfl | exact rfl))

theorem keeps_portEnable {s0 s : State} (p : Nat) (v : Nat) (hk : Keeps s0 s) :
   Keeps s0 (State.portEnable s p v) := by
  unfold State.portEnable
  repeat' (first | intro _ | with_reducible assumption | exact rfl | dsimp only | with_reducible apply keeps_portCfgWrite | with_reducible apply keeps_ite | with_reducible apply keeps_ite2 | with_reducible apply keeps_foldl | split | ((with_reducible apply keeps_mk); (iterate 4 with_reducible exact rfl); first | with_reducible exact rfl | exact rfl))

theorem keeps_portDisable {s0 s : State} (p : Nat) (v : Nat) (hk : Keeps s0 s) :
   Keeps s0 (State.portDisable s p v) := by
  unfold State.portDisable
  repeat' (first | intro _ | with_reducible assumption | exact rfl | dsimp only | with_reducible apply keeps_portCfgWrite | with_reducible apply keeps_ite | with_reducible apply keeps_ite2 | with_reducible apply keeps_foldl | split | ((with_reducible apply keeps_mk); (iterate 4 with_reducible exact rfl); first | with_reducible exact rfl | exact rfl))

theorem keeps_retrainRequest {s0 s : State} (p : Nat) (v : Nat) (hk : Keeps s0 s) :
   Keeps s0 (State.retrainRequest s p v) := by
  unfold State.retrainRequest
  repeat' (first | intro _ | with_reducible assumption | exact rfl | dsimp only | with_reducible apply keeps_portCfgWrite | with_reducible apply keeps_ite | with_reducible apply keeps_ite2 | with_reducible apply keeps_foldl | split | ((with_reducible apply keeps_mk); (iterate 4 with_reducible exact rfl); first | with_reducible exact rfl | exact rfl))

theorem keeps_cqOn {s0 s : State} (f : Nat) (q : Nat) (v : Nat) (hk : Keeps s0 s) :
   Keeps s0 (State.cqOn s f q v) := by
  unfold State.cqOn
  repeat' (first | intro _ | with_reducible assumption | exact rfl | dsimp only | with_reducible apply keeps_cqCfgWrite | with_reducible apply keeps_ite | with_reducible apply keeps_ite2 | with_reducible apply keeps_foldl | split | ((with_reducible apply keeps_mk); (iterate 4 with_reducible exact rfl); first | with_reducible exact rfl | exact rfl))

theorem keeps_cqOff {s0 s : State} (f : Nat) (q : Nat) (v : Nat) (hk : Keeps s0 s) :
   Keeps s0 (State.cqOff s f q v) := by
  unfold State.cqOff
  repeat' (first | intro _ | with_reducible assumption | exact rfl | dsimp only | with_reducible apply keeps_cqCfgWrite | with_reducible apply keeps_ite | with_reducible apply keeps_ite2 | with_reducible apply keeps_foldl | split | ((with_reducible apply keeps_mk); (iterate 4 with_reducible exact rfl); first | with_reducible exact rfl | exact rfl))

theorem keeps_evqOn {s0 s : State} (f : Nat) (v : Nat) (hk : Keeps s0 s) :
   Keeps s0 (State.evqOn s f v) := by
  unfold State.evqOn
  repeat' (first | intro _ | with_reducible assumption | exact rfl | dsimp only | with_reducible apply keeps_evqCfgWrite | with_reducible apply keeps_ite | with_reducible apply keeps_ite2 | with_reducible apply keeps_foldl | split | ((with_reducible apply keeps_mk); (iterate 4 with_reducible exact rfl); first | with_reducible exact rfl | exact rfl))

theorem keeps_schedOn {s0 s : State} (g : Nat) (hk : Keeps s0 s) :
   Keeps s0 (State.schedOn s g) := by
  unfold State.schedOn
  repeat' (first | intro _ | with_reducible assumption | exact rfl | dsimp only | with_reducible apply keeps_schedCtlWrite | with_reducible apply keeps_ite | with_reducible apply keeps_ite2 | with_reducible apply keeps_foldl | split | ((with_reducible apply keeps_mk); (iterate 4 with_reducible exact rfl); first | with_reducible exact rfl | exact rfl))

theorem keeps_schedOff {s0 s : State} (g : Nat) (hk : Keeps s0 s) :
   Keeps s0 (State.schedOff s g) := by
  unfold State.schedOff
  repeat' (first | intro _ | with_reducible assumption | exact rfl | dsimp only | with_reducible apply keeps_schedCtlWrite | with_reducible apply keeps_ite | with_reducible apply keeps_ite2 | with_reducible apply keeps_foldl | split | ((with_reducible apply keeps_mk); (iterate 4 with_reducible exact rfl); first | with_reducible exact rfl | exact rfl))

theorem keeps_syncOutOn {s0 s : State} (i : Nat) (v : Nat) (hk : Keeps s0 s) :
   Keeps s0 (State.syncOutOn s i v) := by
  unfold State.syncOutOn
  repeat' (first | intro _ | with_reducible assumption | exact rfl | dsimp only | with_reducible apply keeps_syncOutWrite | with_reducible apply keeps_ite | with_reducible apply keeps_ite2 | with_reducible apply keeps_foldl | split | ((with_reducible apply keeps_mk); (iterate 4 with_reducible exact rfl); first | with_reducible exact rfl | exact rfl))

theorem keeps_snapReadBy {s0 s : State} (f : Nat) (hk : Keeps s0 s) :
   Keeps s0 (State.snapReadBy s f) := by
  unfold State.snapReadBy
  repeat' (first | intro _ | with_reducible assumption | exact rfl | dsimp only | with_reducible apply keeps_onBus | with_reducible apply keeps_snapRead | with_reducible apply keeps_emit | with_reducible apply keeps_ite | with_reducible apply keeps_ite2 | with_reducible apply keeps_foldl | split | ((with_reducible apply keeps_mk); (iterate 4 with_reducible exact rfl); first | with_reducible exact rfl | exact rfl))

theorem keeps_arrive {s0 s : State} (p : Nat) (ok : Bool) (k : Packet) (hk : Keeps s0 s) :
   Keeps s0 (State.arrive s p ok k) := by
  unfold State.arrive
  repeat' (first | intro _ | with_reducible assumption | exact rfl | dsimp only | with_reducible apply keeps_receive | with_reducible apply keeps_ite | with_reducible apply keeps_ite2 | with_reducible apply keeps_foldl | split | ((with_reducible apply keeps_mk); (iterate 4 with_reducible exact rfl); first | with_reducible exact rfl | exact rfl))

theorem keeps_reservedArrives {s0 s : State} (p : Nat) (k : Packet) (hk : Keeps s0 s) :
   Keeps s0 (State.reservedArrives s p k) := by
  unfold State.reservedArrives
  repeat' (first | intro _ | with_reducible assumption | exact rfl | dsimp only | with_reducible apply keeps_strayBlock | with_reducible apply keeps_arrive | with_reducible apply keeps_ite | with_reducible apply keeps_ite2 | with_reducible apply keeps_foldl | split | ((with_reducible apply keeps_mk); (iterate 4 with_reducible exact rfl); first | with_reducible exact rfl | exact rfl))

theorem keeps_checkChain {s0 s : State} (p : Nat) (hk : Keeps s0 s) :
   Keeps s0 (State.checkChain s p) := by
  unfold State.checkChain
  repeat' (first | intro _ | with_reducible assumption | exact rfl | dsimp only | with_reducible apply keeps_chainCheck | with_reducible apply keeps_ite | with_reducible apply keeps_ite2 | with_reducible apply keeps_foldl | split | ((with_reducible apply keeps_mk); (iterate 4 with_reducible exact rfl); first | with_reducible exact rfl | exact rfl))

theorem keeps_poolTimeout {s0 s : State} (n : Nat) (q : Nat) (hk : Keeps s0 s) :
   Keeps s0 (State.poolTimeout s n q) := by
  unfold State.poolTimeout
  repeat' (first | intro _ | with_reducible assumption | exact rfl | dsimp only | with_reducible apply keeps_shedForPool | with_reducible apply keeps_ite | with_reducible apply keeps_ite2 | with_reducible apply keeps_foldl | split | ((with_reducible apply keeps_mk); (iterate 4 with_reducible exact rfl); first | with_reducible exact rfl | exact rfl))

theorem keeps_mailboxSend {s0 s : State} (f : Nat) (sfl : Bool) (v : Nat) (hk : Keeps s0 s) :
   Keeps s0 (State.mailboxSend s f sfl v) := by
  unfold State.mailboxSend
  repeat' (first | intro _ | with_reducible assumption | exact rfl | dsimp only | with_reducible apply keeps_onBus | with_reducible apply keeps_txSend | with_reducible apply keeps_ite | with_reducible apply keeps_ite2 | with_reducible apply keeps_foldl | split | ((with_reducible apply keeps_mk); (iterate 4 with_reducible exact rfl); first | with_reducible exact rfl | exact rfl))

theorem keeps_convertOp {s0 s : State} (i : Nat) (c : Nat) (o : ConvertOp) (hk : Keeps s0 s) :
   Keeps s0 (State.convertOp s i c o) := by
  unfold State.convertOp
  repeat' (first | intro _ | with_reducible assumption | exact rfl | dsimp only | with_reducible apply keeps_convertIssue | with_reducible apply keeps_ite | with_reducible apply keeps_ite2 | with_reducible apply keeps_foldl | split | ((with_reducible apply keeps_mk); (iterate 4 with_reducible exact rfl); first | with_reducible exact rfl | exact rfl))

end Sys2Proof.Machine
end

