-- ==== Sys2Proof/Laws/KeepsCmd.lean ====
section
/-! SUPPORT. What no command undoes: one lemma for each command. -/
set_option linter.all false
namespace Sys2Proof.Machine

theorem keeps_execIxlPortEnable (dt : Nat) (p : Fin 16) (v : Word) (s t : State) (h : execIxlPortEnable dt p v s = .next t) : Keeps s t := by
  have hk := keeps_elapse dt (keeps_refl s)
  unfold execIxlPortEnable after at h
  injection h with e
  subst e
  repeat' (first | intro _ | with_reducible assumption | with_reducible apply keeps_onBus | with_reducible apply keeps_portEnable)

theorem keeps_execIxlPortDisable (dt : Nat) (p : Fin 16) (v : Word) (s t : State) (h : execIxlPortDisable dt p v s = .next t) : Keeps s t := by
  have hk := keeps_elapse dt (keeps_refl s)
  unfold execIxlPortDisable after at h
  injection h with e
  subst e
  repeat' (first | intro _ | with_reducible assumption | with_reducible apply keeps_onBus | with_reducible apply keeps_portDisable)

theorem keeps_execIxlRetrainRequest (dt : Nat) (p : Fin 16) (v : Word) (s t : State) (h : execIxlRetrainRequest dt p v s = .next t) : Keeps s t := by
  have hk := keeps_elapse dt (keeps_refl s)
  unfold execIxlRetrainRequest after at h
  injection h with e
  subst e
  repeat' (first | intro _ | with_reducible assumption | with_reducible apply keeps_onBus | with_reducible apply keeps_retrainRequest)

theorem keeps_execSignalDetected (dt : Nat) (p : Fin 18) (s t : State) (h : execSignalDetected dt p s = .next t) : Keeps s t := by
  have hk := keeps_elapse dt (keeps_refl s)
  unfold execSignalDetected after at h
  injection h with e
  subst e
  repeat' (first | intro _ | with_reducible assumption | with_reducible apply keeps_signalDetected)

theorem keeps_execBlockLockGained (dt : Nat) (p : Fin 18) (s t : State) (h : execBlockLockGained dt p s = .next t) : Keeps s t := by
  have hk := keeps_elapse dt (keeps_refl s)
  unfold execBlockLockGained after at h
  injection h with e
  subst e
  repeat' (first | intro _ | with_reducible assumption | with_reducible apply keeps_blockLockGained)

theorem keeps_execBlockLockLost (dt : Nat) (p : Fin 18) (s t : State) (h : execBlockLockLost dt p s = .next t) : Keeps s t := by
  have hk := keeps_elapse dt (keeps_refl s)
  unfold execBlockLockLost after at h
  injection h with e
  subst e
  repeat' (first | intro _ | with_reducible assumption | with_reducible apply keeps_blockLockLost | with_reducible apply keeps_checkChain)

theorem keeps_execBringupLimitExpiry (dt : Nat) (p : Fin 18) (s t : State) (h : execBringupLimitExpiry dt p s = .next t) : Keeps s t := by
  have hk := keeps_elapse dt (keeps_refl s)
  unfold execBringupLimitExpiry after at h
  injection h with e
  subst e
  repeat' (first | intro _ | with_reducible assumption | with_reducible apply keeps_bringupExpiry | with_reducible apply keeps_checkChain)

theorem keeps_execBringupRetryWaitEnd (dt : Nat) (p : Fin 18) (s t : State) (h : execBringupRetryWaitEnd dt p s = .next t) : Keeps s t := by
  have hk := keeps_elapse dt (keeps_refl s)
  unfold execBringupRetryWaitEnd after at h
  injection h with e
  subst e
  repeat' (first | intro _ | with_reducible assumption | with_reducible apply keeps_retryWaitEnd)

theorem keeps_execHubCapsPacket (dt : Nat) (p : Fin 16) (k : Packet) (s t : State) (h : execHubCapsPacket dt p k s = .next t) : Keeps s t := by
  have hk := keeps_elapse dt (keeps_refl s)
  unfold execHubCapsPacket after at h
  injection h with e
  subst e
  repeat' (first | intro _ | with_reducible assumption | with_reducible apply keeps_arrive)

theorem keeps_execVideoPacket (dt : Nat) (p : Fin 16) (k : Packet) (s t : State) (h : execVideoPacket dt p k s = .next t) : Keeps s t := by
  have hk := keeps_elapse dt (keeps_refl s)
  unfold execVideoPacket after at h
  injection h with e
  subst e
  repeat' (first | intro _ | with_reducible assumption | with_reducible apply keeps_arrive)

theorem keeps_execEmbedPacket (dt : Nat) (p : Fin 16) (k : Packet) (s t : State) (h : execEmbedPacket dt p k s = .next t) : Keeps s t := by
  have hk := keeps_elapse dt (keeps_refl s)
  unfold execEmbedPacket after at h
  injection h with e
  subst e
  repeat' (first | intro _ | with_reducible assumption | with_reducible apply keeps_arrive)

theorem keeps_execFrameStartPacket (dt : Nat) (p : Fin 16) (k : Packet) (s t : State) (h : execFrameStartPacket dt p k s = .next t) : Keeps s t := by
  have hk := keeps_elapse dt (keeps_refl s)
  unfold execFrameStartPacket after at h
  injection h with e
  subst e
  repeat' (first | intro _ | with_reducible assumption | with_reducible apply keeps_arrive)

theorem keeps_execFrameEndPacket (dt : Nat) (p : Fin 16) (k : Packet) (s t : State) (h : execFrameEndPacket dt p k s = .next t) : Keeps s t := by
  have hk := keeps_elapse dt (keeps_refl s)
  unfold execFrameEndPacket after at h
  injection h with e
  subst e
  repeat' (first | intro _ | with_reducible assumption | with_reducible apply keeps_arrive)

theorem keeps_execCtrlRespPacket (dt : Nat) (p : Fin 16) (k : Packet) (s t : State) (h : execCtrlRespPacket dt p k s = .next t) : Keeps s t := by
  have hk := keeps_elapse dt (keeps_refl s)
  unfold execCtrlRespPacket after at h
  injection h with e
  subst e
  repeat' (first | intro _ | with_reducible assumption | with_reducible apply keeps_arrive)

theorem keeps_execSlotChange (dt : Nat) (p : Fin 16) (k : Packet) (s t : State) (h : execSlotChange dt p k s = .next t) : Keeps s t := by
  have hk := keeps_elapse dt (keeps_refl s)
  unfold execSlotChange after at h
  injection h with e
  subst e
  repeat' (first | intro _ | with_reducible assumption | with_reducible apply keeps_arrive)

theorem keeps_execReplayGone (dt : Nat) (p : Fin 16) (k : Packet) (s t : State) (h : execReplayGone dt p k s = .next t) : Keeps s t := by
  have hk := keeps_elapse dt (keeps_refl s)
  unfold execReplayGone after at h
  injection h with e
  subst e
  repeat' (first | intro _ | with_reducible assumption | with_reducible apply keeps_arrive)

theorem keeps_execHubFault (dt : Nat) (p : Fin 16) (k : Packet) (s t : State) (h : execHubFault dt p k s = .next t) : Keeps s t := by
  have hk := keeps_elapse dt (keeps_refl s)
  unfold execHubFault after at h
  injection h with e
  subst e
  repeat' (first | intro _ | with_reducible assumption | with_reducible apply keeps_arrive)

theorem keeps_execUnknownHubStatus (dt : Nat) (p : Fin 16) (k : Packet) (s t : State) (h : execUnknownHubStatus dt p k s = .next t) : Keeps s t := by
  have hk := keeps_elapse dt (keeps_refl s)
  unfold execUnknownHubStatus after at h
  injection h with e
  subst e
  repeat' (first | intro _ | with_reducible assumption | with_reducible apply keeps_arrive)

theorem keeps_execReservedPacket (dt : Nat) (p : Fin 18) (k : Packet) (s t : State) (h : execReservedPacket dt p k s = .next t) : Keeps s t := by
  have hk := keeps_elapse dt (keeps_refl s)
  unfold execReservedPacket after at h
  injection h with e
  subst e
  repeat' (first | intro _ | with_reducible assumption | with_reducible apply keeps_reservedArrives)

theorem keeps_execPacketFail (dt : Nat) (p : Fin 18) (k : Packet) (s t : State) (h : execPacketFail dt p k s = .next t) : Keeps s t := by
  have hk := keeps_elapse dt (keeps_refl s)
  unfold execPacketFail after at h
  injection h with e
  subst e
  repeat' (first | intro _ | with_reducible assumption | with_reducible apply keeps_arrive)

theorem keeps_execDuplicatePacket (dt : Nat) (p : Fin 18) (k : Packet) (s t : State) (h : execDuplicatePacket dt p k s = .next t) : Keeps s t := by
  have hk := keeps_elapse dt (keeps_refl s)
  unfold execDuplicatePacket after at h
  injection h with e
  subst e
  repeat' (first | intro _ | with_reducible assumption | with_reducible apply keeps_arrive)

theorem keeps_execReplayTimerExpiry (dt : Nat) (p : Fin 18) (s t : State) (h : execReplayTimerExpiry dt p s = .next t) : Keeps s t := by
  have hk := keeps_elapse dt (keeps_refl s)
  unfold execReplayTimerExpiry after at h
  injection h with e
  subst e
  repeat' (first | intro _ | with_reducible assumption | with_reducible apply keeps_replayExpiry | with_reducible apply keeps_checkChain)

theorem keeps_execAckTimer (dt : Nat) (p : Fin 18) (s t : State) (h : execAckTimer dt p s = .next t) : Keeps s t := by
  have hk := keeps_elapse dt (keeps_refl s)
  unfold execAckTimer after at h
  injection h with e
  subst e
  repeat' (first | intro _ | with_reducible assumption | with_reducible apply keeps_ackTimer)

theorem keeps_execCreditTimer (dt : Nat) (p : Fin 18) (s t : State) (h : execCreditTimer dt p s = .next t) : Keeps s t := by
  have hk := keeps_elapse dt (keeps_refl s)
  unfold execCreditTimer after at h
  injection h with e
  subst e
  repeat' (first | intro _ | with_reducible assumption | with_reducible apply keeps_creditTimer)

theorem keeps_execSkipSend (dt : Nat) (p : Fin 18) (s t : State) (h : execSkipSend dt p s = .next t) : Keeps s t := by
  have hk := keeps_elapse dt (keeps_refl s)
  unfold execSkipSend after at h
  injection h with e
  subst e
  repeat' (first | intro _ | with_reducible assumption | with_reducible apply keeps_skipSend)

theorem keeps_execTunnelRequest (dt : Nat) (p : Fin 16) (r : TunnelOp) (s t : State) (h : execTunnelRequest dt p r s = .next t) : Keeps s t := by
  have hk := keeps_elapse dt (keeps_refl s)
  unfold execTunnelRequest after at h
  injection h with e
  subst e
  repeat' (first | intro _ | with_reducible assumption | with_reducible apply keeps_tunnelRequest)

theorem keeps_execTunnelHeldStart (dt : Nat) (p : Fin 16) (s t : State) (h : execTunnelHeldStart dt p s = .next t) : Keeps s t := by
  have hk := keeps_elapse dt (keeps_refl s)
  unfold execTunnelHeldStart after at h
  injection h with e
  subst e
  repeat' (first | intro _ | with_reducible assumption | with_reducible apply keeps_heldStart)

theorem keeps_execTunnelTimeout (dt : Nat) (p : Fin 16) (tag : Byte) (s t : State) (h : execTunnelTimeout dt p tag s = .next t) : Keeps s t := by
  have hk := keeps_elapse dt (keeps_refl s)
  unfold execTunnelTimeout after at h
  injection h with e
  subst e
  repeat' (first | intro _ | with_reducible assumption | with_reducible apply keeps_tunnelTimeout)

theorem keeps_execIxlWordClockLoss (dt : Nat) (p : Fin 16) (s t : State) (h : execIxlWordClockLoss dt p s = .next t) : Keeps s t := by
  have hk := keeps_elapse dt (keeps_refl s)
  unfold execIxlWordClockLoss after at h
  injection h with e
  subst e
  repeat' (first | intro _ | with_reducible assumption | with_reducible apply keeps_wordClockLoss)

theorem keeps_execTriggerLaunch (dt : Nat) (p : Fin 16) (l : BitVec 64) (s t : State) (h : execTriggerLaunch dt p l s = .next t) : Keeps s t := by
  have hk := keeps_elapse dt (keeps_refl s)
  unfold execTriggerLaunch after at h
  injection h with e
  subst e
  repeat' (first | intro _ | with_reducible assumption | with_reducible apply keeps_triggerLaunch)

theorem keeps_execMissedFrameDeadline (dt : Nat) (n : Fin 512) (s t : State) (h : execMissedFrameDeadline dt n s = .next t) : Keeps s t := by
  have hk := keeps_elapse dt (keeps_refl s)
  unfold execMissedFrameDeadline after at h
  injection h with e
  subst e
  repeat' (first | intro _ | with_reducible assumption | with_reducible apply keeps_missDeadline)

theorem keeps_execCloseTimeout (dt : Nat) (n : Fin 512) (s t : State) (h : execCloseTimeout dt n s = .next t) : Keeps s t := by
  have hk := keeps_elapse dt (keeps_refl s)
  unfold execCloseTimeout after at h
  injection h with e
  subst e
  repeat' (first | intro _ | with_reducible assumption | with_reducible apply keeps_closeExpiry)

theorem keeps_execSourceSelect (dt : Nat) (v : Word) (s t : State) (h : execSourceSelect dt v s = .next t) : Keeps s t := by
  have hk := keeps_elapse dt (keeps_refl s)
  unfold execSourceSelect after at h
  injection h with e
  subst e
  repeat' (first | intro _ | with_reducible assumption | with_reducible apply keeps_onBus | with_reducible apply keeps_synCfgWrite)

theorem keeps_execPtmDialogueStart (dt : Nat) (s t : State) (h : execPtmDialogueStart dt s = .next t) : Keeps s t := by
  have hk := keeps_elapse dt (keeps_refl s)
  unfold execPtmDialogueStart after at h
  injection h with e
  subst e
  repeat' (first | intro _ | with_reducible assumption | with_reducible apply keeps_ptmStart)

theorem keeps_execPtmDialogueComplete (dt : Nat) (master : PtmMaster) (loc : PtmLocal) (s t : State) (h : execPtmDialogueComplete dt master loc s = .next t) : Keeps s t := by
  have hk := keeps_elapse dt (keeps_refl s)
  unfold execPtmDialogueComplete after at h
  injection h with e
  subst e
  repeat' (first | intro _ | with_reducible assumption | with_reducible apply keeps_ptmComplete)

theorem keeps_execMeasurementFail (dt : Nat) (s t : State) (h : execMeasurementFail dt s = .next t) : Keeps s t := by
  have hk := keeps_elapse dt (keeps_refl s)
  unfold execMeasurementFail after at h
  injection h with e
  subst e
  repeat' (first | intro _ | with_reducible assumption | with_reducible apply keeps_ptmFail)

theorem keeps_execSlewEnd (dt : Nat) (s t : State) (h : execSlewEnd dt s = .next t) : Keeps s t := by
  have hk := keeps_elapse dt (keeps_refl s)
  unfold execSlewEnd after at h
  injection h with e
  subst e
  repeat' (first | intro _ | with_reducible assumption | with_reducible apply keeps_slewDone)

theorem keeps_execHardSet (dt : Nat) (s t : State) (h : execHardSet dt s = .next t) : Keeps s t := by
  have hk := keeps_elapse dt (keeps_refl s)
  unfold execHardSet after at h
  injection h with e
  subst e
  repeat' (first | intro _ | with_reducible assumption | with_reducible apply keeps_onBus | with_reducible apply keeps_synCtlWrite)

theorem keeps_execSyncSymbolEmit (dt : Nat) (s t : State) (h : execSyncSymbolEmit dt s = .next t) : Keeps s t := by
  have hk := keeps_elapse dt (keeps_refl s)
  unfold execSyncSymbolEmit after at h
  injection h with e
  subst e
  repeat' (first | intro _ | with_reducible assumption | with_reducible apply keeps_syncEmit)

theorem keeps_execSyncSymbolReceived (dt : Nat) (time : BitVec 54) (acc : BitVec 20) (early : Byte) (held : Bool) (s t : State) (h : execSyncSymbolReceived dt time acc early held s = .next t) : Keeps s t := by
  have hk := keeps_elapse dt (keeps_refl s)
  unfold execSyncSymbolReceived after at h
  injection h with e
  subst e
  repeat' (first | intro _ | with_reducible assumption | with_reducible apply keeps_syncReceived)

theorem keeps_execSyncSymbolMissing (dt : Nat) (s t : State) (h : execSyncSymbolMissing dt s = .next t) : Keeps s t := by
  have hk := keeps_elapse dt (keeps_refl s)
  unfold execSyncSymbolMissing after at h
  injection h with e
  subst e
  repeat' (first | intro _ | with_reducible assumption | with_reducible apply keeps_syncMissing)

theorem keeps_execScheduleEnable (dt : Nat) (g : Fin 32) (s t : State) (h : execScheduleEnable dt g s = .next t) : Keeps s t := by
  have hk := keeps_elapse dt (keeps_refl s)
  unfold execScheduleEnable after at h
  injection h with e
  subst e
  repeat' (first | intro _ | with_reducible assumption | with_reducible apply keeps_onBus | with_reducible apply keeps_schedOn)

theorem keeps_execScheduleDisable (dt : Nat) (g : Fin 32) (s t : State) (h : execScheduleDisable dt g s = .next t) : Keeps s t := by
  have hk := keeps_elapse dt (keeps_refl s)
  unfold execScheduleDisable after at h
  injection h with e
  subst e
  repeat' (first | intro _ | with_reducible assumption | with_reducible apply keeps_onBus | with_reducible apply keeps_schedOff)

theorem keeps_execScheduleTick (dt : Nat) (g : Fin 32) (s t : State) (h : execScheduleTick dt g s = .next t) : Keeps s t := by
  have hk := keeps_elapse dt (keeps_refl s)
  unfold execScheduleTick after at h
  injection h with e
  subst e
  repeat' (first | intro _ | with_reducible assumption | with_reducible apply keeps_schedTick)

theorem keeps_execSyncOutEnable (dt : Nat) (i : Fin 4) (v : Word) (s t : State) (h : execSyncOutEnable dt i v s = .next t) : Keeps s t := by
  have hk := keeps_elapse dt (keeps_refl s)
  unfold execSyncOutEnable after at h
  injection h with e
  subst e
  repeat' (first | intro _ | with_reducible assumption | with_reducible apply keeps_onBus | with_reducible apply keeps_syncOutOn)

theorem keeps_execSyncOutEdge (dt : Nat) (i : Fin 4) (s t : State) (h : execSyncOutEdge dt i s = .next t) : Keeps s t := by
  have hk := keeps_elapse dt (keeps_refl s)
  unfold execSyncOutEdge after at h
  injection h with e
  subst e
  repeat' (first | intro _ | with_reducible assumption | with_reducible apply keeps_syncOutEdge)

theorem keeps_execSyncOutPulseEnd (dt : Nat) (i : Fin 4) (s t : State) (h : execSyncOutPulseEnd dt i s = .next t) : Keeps s t := by
  have hk := keeps_elapse dt (keeps_refl s)
  unfold execSyncOutPulseEnd after at h
  injection h with e
  subst e
  repeat' (first | intro _ | with_reducible assumption | with_reducible apply keeps_syncOutEnd)

theorem keeps_execTimeSnapEdge (dt : Nat) (s t : State) (h : execTimeSnapEdge dt s = .next t) : Keeps s t := by
  have hk := keeps_elapse dt (keeps_refl s)
  unfold execTimeSnapEdge after at h
  injection h with e
  subst e
  repeat' (first | intro _ | with_reducible assumption | with_reducible apply keeps_snapEdge)

theorem keeps_execSnapRead (dt : Nat) (f : Fin 9) (s t : State) (h : execSnapRead dt f s = .next t) : Keeps s t := by
  have hk := keeps_elapse dt (keeps_refl s)
  unfold execSnapRead after at h
  injection h with e
  subst e
  repeat' (first | intro _ | with_reducible assumption | with_reducible apply keeps_snapReadBy)

theorem keeps_execScheduleApplyTime (dt : Nat) (g : Fin 32) (s t : State) (h : execScheduleApplyTime dt g s = .next t) : Keeps s t := by
  have hk := keeps_elapse dt (keeps_refl s)
  unfold execScheduleApplyTime after at h
  injection h with e
  subst e
  repeat' (first | intro _ | with_reducible assumption | with_reducible apply keeps_schedApplyTime)

theorem keeps_execAliasWrite (dt : Nat) (f : Fin 9) (a : Word) (v : Word) (s t : State) (h : execAliasWrite dt f a v s = .next t) : Keeps s t := by
  have hk := keeps_elapse dt (keeps_refl s)
  unfold execAliasWrite after at h
  injection h with e
  subst e
  repeat' (first | intro _ | with_reducible assumption | with_reducible apply keeps_aliasWrite)

theorem keeps_execSgBoundaryWrite (dt : Nat) (v : Word) (s t : State) (h : execSgBoundaryWrite dt v s = .next t) : Keeps s t := by
  have hk := keeps_elapse dt (keeps_refl s)
  unfold execSgBoundaryWrite after at h
  injection h with e
  subst e
  repeat' (first | intro _ | with_reducible assumption | with_reducible apply keeps_onBus | with_reducible apply keeps_sgBoundaryWrite)

theorem keeps_execPairLowRead (dt : Nat) (f : Fin 9) (a : BusRead) (s t : State) (h : execPairLowRead dt f a s = .next t) : Keeps s t := by
  have hk := keeps_elapse dt (keeps_refl s)
  unfold execPairLowRead after at h
  injection h with e
  subst e
  repeat' (first | intro _ | with_reducible assumption | with_reducible apply keeps_busRead)

theorem keeps_execPairLowWrite (dt : Nat) (f : Fin 9) (a : Word) (v : Word) (s t : State) (h : execPairLowWrite dt f a v s = .next t) : Keeps s t := by
  have hk := keeps_elapse dt (keeps_refl s)
  unfold execPairLowWrite after at h
  injection h with e
  subst e
  repeat' (first | intro _ | with_reducible assumption | with_reducible apply keeps_halfWrite)

theorem keeps_execPairHighWrite (dt : Nat) (f : Fin 9) (a : Word) (v : Word) (s t : State) (h : execPairHighWrite dt f a v s = .next t) : Keeps s t := by
  have hk := keeps_elapse dt (keeps_refl s)
  unfold execPairHighWrite after at h
  injection h with e
  subst e
  repeat' (first | intro _ | with_reducible assumption | with_reducible apply keeps_halfWrite)

theorem keeps_execRegisterWrite (dt : Nat) (f : Fin 9) (a : Word) (n : Nat) (v : BitVec 64) (s t : State) (h : execRegisterWrite dt f a n v s = .next t) : Keeps s t := by
  have hk := keeps_elapse dt (keeps_refl s)
  unfold execRegisterWrite after at h
  injection h with e
  subst e
  repeat' (first | intro _ | with_reducible assumption | with_reducible apply keeps_busWrite)

theorem keeps_execExpoStage (dt : Nat) (n : Fin 512) (v : Word) (s t : State) (h : execExpoStage dt n v s = .next t) : Keeps s t := by
  have hk := keeps_elapse dt (keeps_refl s)
  unfold execExpoStage after at h
  injection h with e
  subst e
  repeat' (first | intro _ | with_reducible assumption | with_reducible apply keeps_onBus | with_reducible apply keeps_expoWrite)

theorem keeps_execWbGainWrite (dt : Nat) (n : Fin 512) (v : Word) (s t : State) (h : execWbGainWrite dt n v s = .next t) : Keeps s t := by
  have hk := keeps_elapse dt (keeps_refl s)
  unfold execWbGainWrite after at h
  injection h with e
  subst e
  repeat' (first | intro _ | with_reducible assumption | with_reducible apply keeps_onBus | with_reducible apply keeps_wbWrite)

theorem keeps_execAeLoopStep (dt : Nat) (n : Fin 512) (s t : State) (h : execAeLoopStep dt n s = .next t) : Keeps s t := by
  have hk := keeps_elapse dt (keeps_refl s)
  unfold execAeLoopStep after at h
  injection h with e
  subst e
  repeat' (first | intro _ | with_reducible assumption | with_reducible apply keeps_aeLoop)

theorem keeps_execAwbLoopStep (dt : Nat) (n : Fin 512) (s t : State) (h : execAwbLoopStep dt n s = .next t) : Keeps s t := by
  have hk := keeps_elapse dt (keeps_refl s)
  unfold execAwbLoopStep after at h
  injection h with e
  subst e
  repeat' (first | intro _ | with_reducible assumption | with_reducible apply keeps_awbLoop)

theorem keeps_execPpbSelect (dt : Nat) (n : Fin 512) (v : Word) (s t : State) (h : execPpbSelect dt n v s = .next t) : Keeps s t := by
  have hk := keeps_elapse dt (keeps_refl s)
  unfold execPpbSelect after at h
  injection h with e
  subst e
  repeat' (first | intro _ | with_reducible assumption | with_reducible apply keeps_onBus | with_reducible apply keeps_ppbSelect)

theorem keeps_execOutCredit (dt : Nat) (n : Fin 512) (v : Word) (s t : State) (h : execOutCredit dt n v s = .next t) : Keeps s t := by
  have hk := keeps_elapse dt (keeps_refl s)
  unfold execOutCredit after at h
  injection h with e
  subst e
  repeat' (first | intro _ | with_reducible assumption | with_reducible apply keeps_onBus | with_reducible apply keeps_outCredit)

theorem keeps_execDmaRegulatorWrite (dt : Nat) (i : Fin 16) (v : Word) (s t : State) (h : execDmaRegulatorWrite dt i v s = .next t) : Keeps s t := by
  have hk := keeps_elapse dt (keeps_refl s)
  unfold execDmaRegulatorWrite after at h
  injection h with e
  subst e
  repeat' (first | intro _ | with_reducible assumption | with_reducible apply keeps_onBus | with_reducible apply keeps_regulatorWrite)

theorem keeps_execStreamStart (dt : Nat) (r : CmdName) (s t : State) (h : execStreamStart dt r s = .next t) : Keeps s t := by
  have hk := keeps_elapse dt (keeps_refl s)
  unfold execStreamStart after at h
  injection h with e
  subst e
  repeat' (first | intro _ | with_reducible assumption | with_reducible apply keeps_streamStart)

theorem keeps_execStreamStopDrain (dt : Nat) (r : CmdName) (s t : State) (h : execStreamStopDrain dt r s = .next t) : Keeps s t := by
  have hk := keeps_elapse dt (keeps_refl s)
  unfold execStreamStopDrain after at h
  injection h with e
  subst e
  repeat' (first | intro _ | with_reducible assumption | with_reducible apply keeps_streamStop)

theorem keeps_execStreamStopAbort (dt : Nat) (r : CmdName) (s t : State) (h : execStreamStopAbort dt r s = .next t) : Keeps s t := by
  have hk := keeps_elapse dt (keeps_refl s)
  unfold execStreamStopAbort after at h
  injection h with e
  subst e
  repeat' (first | intro _ | with_reducible assumption | with_reducible apply keeps_streamStop)

theorem keeps_execStreamStopped (dt : Nat) (n : Fin 512) (s t : State) (h : execStreamStopped dt n s = .next t) : Keeps s t := by
  have hk := keeps_elapse dt (keeps_refl s)
  unfold execStreamStopped after at h
  injection h with e
  subst e
  repeat' (first | intro _ | with_reducible assumption | with_reducible apply keeps_streamStopped)

theorem keeps_execPrintStripe (dt : Nat) (n : Fin 512) (q : Word) (k : Byte) (core : Fin 16) (s t : State) (h : execPrintStripe dt n q k core s = .next t) : Keeps s t := by
  have hk := keeps_elapse dt (keeps_refl s)
  unfold execPrintStripe after at h
  injection h with e
  subst e
  repeat' (first | intro _ | with_reducible assumption | with_reducible apply keeps_printStripe)

theorem keeps_execOutputRowWrite (dt : Nat) (n : Fin 512) (q : Word) (o : Byte) (core : Fin 16) (s t : State) (h : execOutputRowWrite dt n q o core s = .next t) : Keeps s t := by
  have hk := keeps_elapse dt (keeps_refl s)
  unfold execOutputRowWrite after at h
  injection h with e
  subst e
  repeat' (first | intro _ | with_reducible assumption | with_reducible apply keeps_writeRow)

theorem keeps_execOutputPoolTimeout (dt : Nat) (n : Fin 512) (q : Word) (s t : State) (h : execOutputPoolTimeout dt n q s = .next t) : Keeps s t := by
  have hk := keeps_elapse dt (keeps_refl s)
  unfold execOutputPoolTimeout after at h
  injection h with e
  subst e
  repeat' (first | intro _ | with_reducible assumption | with_reducible apply keeps_poolTimeout)

theorem keeps_execOutputRowComplete (dt : Nat) (n : Fin 512) (q : Word) (s t : State) (h : execOutputRowComplete dt n q s = .next t) : Keeps s t := by
  have hk := keeps_elapse dt (keeps_refl s)
  unfold execOutputRowComplete after at h
  injection h with e
  subst e
  repeat' (first | intro _ | with_reducible assumption | with_reducible apply keeps_rowComplete)

theorem keeps_execSlotHeaderComplete (dt : Nat) (n : Fin 512) (q : Word) (s t : State) (h : execSlotHeaderComplete dt n q s = .next t) : Keeps s t := by
  have hk := keeps_elapse dt (keeps_refl s)
  unfold execSlotHeaderComplete after at h
  injection h with e
  subst e
  repeat' (first | intro _ | with_reducible assumption | with_reducible apply keeps_headerComplete)

theorem keeps_execWorkShareQueue (dt : Nat) (g : Fin 16) (w : Fin 32) (n : Fin 512) (q : Word) (k : Byte) (s t : State) (h : execWorkShareQueue dt g w n q k s = .next t) : Keeps s t := by
  have hk := keeps_elapse dt (keeps_refl s)
  unfold execWorkShareQueue after at h
  injection h with e
  subst e
  repeat' (first | intro _ | with_reducible assumption | with_reducible apply keeps_workShareQueue)

theorem keeps_execStripeLaunch (dt : Nat) (g : Fin 16) (w : Fin 32) (n : Fin 512) (q : Word) (k : Byte) (at_ : BitVec 64) (s t : State) (h : execStripeLaunch dt g w n q k at_ s = .next t) : Keeps s t := by
  have hk := keeps_elapse dt (keeps_refl s)
  unfold execStripeLaunch after at h
  injection h with e
  subst e
  repeat' (first | intro _ | with_reducible assumption | with_reducible apply keeps_stripeLaunch)

theorem keeps_execStripeBoundary (dt : Nat) (i : Fin 16) (s t : State) (h : execStripeBoundary dt i s = .next t) : Keeps s t := by
  have hk := keeps_elapse dt (keeps_refl s)
  unfold execStripeBoundary after at h
  injection h with e
  subst e
  repeat' (first | intro _ | with_reducible assumption | with_reducible apply keeps_stripeBoundary)

theorem keeps_execWcDraw (dt : Nat) (i : Fin 16) (c : Fin 8) (w : Fin 32) (s t : State) (h : execWcDraw dt i c w s = .next t) : Keeps s t := by
  have hk := keeps_elapse dt (keeps_refl s)
  unfold execWcDraw after at h
  injection h with e
  subst e
  repeat' (first | intro _ | with_reducible assumption | with_reducible apply keeps_wcDraw)

theorem keeps_execWcCommit (dt : Nat) (i : Fin 16) (o : CommitOp) (s t : State) (h : execWcCommit dt i o s = .next t) : Keeps s t := by
  have hk := keeps_elapse dt (keeps_refl s)
  unfold execWcCommit after at h
  injection h with e
  subst e
  repeat' (first | intro _ | with_reducible assumption | with_reducible apply keeps_wcCommit)

theorem keeps_execLeaseRenew (dt : Nat) (i : Fin 16) (s t : State) (h : execLeaseRenew dt i s = .next t) : Keeps s t := by
  have hk := keeps_elapse dt (keeps_refl s)
  unfold execLeaseRenew after at h
  injection h with e
  subst e
  repeat' (first | intro _ | with_reducible assumption | with_reducible apply keeps_renewLeases)

theorem keeps_execLeaseExpiry (dt : Nat) (g : Fin 16) (w : Fin 32) (idx : Word) (s t : State) (h : execLeaseExpiry dt g w idx s = .next t) : Keeps s t := by
  have hk := keeps_elapse dt (keeps_refl s)
  unfold execLeaseExpiry after at h
  injection h with e
  subst e
  repeat' (first | intro _ | with_reducible assumption | with_reducible apply keeps_leaseExpiry)

theorem keeps_execCoreRestoreComplete (dt : Nat) (i : Fin 16) (s t : State) (h : execCoreRestoreComplete dt i s = .next t) : Keeps s t := by
  have hk := keeps_elapse dt (keeps_refl s)
  unfold execCoreRestoreComplete after at h
  injection h with e
  subst e
  repeat' (first | intro _ | with_reducible assumption | with_reducible apply keeps_coreRestored)

theorem keeps_execArrayTile (dt : Nat) (i : Fin 16) (c : Fin 8) (o : TileOp) (s t : State) (h : execArrayTile dt i c o s = .next t) : Keeps s t := by
  have hk := keeps_elapse dt (keeps_refl s)
  unfold execArrayTile after at h
  injection h with e
  subst e
  repeat' (first | intro _ | with_reducible assumption | with_reducible apply keeps_arrayTile)

theorem keeps_execArrayComplete (dt : Nat) (i : Fin 16) (s t : State) (h : execArrayComplete dt i s = .next t) : Keeps s t := by
  have hk := keeps_elapse dt (keeps_refl s)
  unfold execArrayComplete after at h
  injection h with e
  subst e
  repeat' (first | intro _ | with_reducible assumption | with_reducible apply keeps_arrayComplete)

theorem keeps_execVectorOp (dt : Nat) (i : Fin 16) (c : Fin 8) (f : VFun) (srcs : List VSrc) (dst : VDst) (lines : BitVec 16) (record : Option Byte) (s t : State) (h : execVectorOp dt i c f srcs dst lines record s = .next t) : Keeps s t := by
  have hk := keeps_elapse dt (keeps_refl s)
  unfold execVectorOp after at h
  injection h with e
  subst e
  repeat' (first | intro _ | with_reducible assumption | with_reducible apply keeps_vectorIssue | with_reducible apply keeps_map)

theorem keeps_execVectorConvert (dt : Nat) (i : Fin 16) (c : Fin 8) (o : ConvertOp) (s t : State) (h : execVectorConvert dt i c o s = .next t) : Keeps s t := by
  have hk := keeps_elapse dt (keeps_refl s)
  unfold execVectorConvert after at h
  injection h with e
  subst e
  repeat' (first | intro _ | with_reducible assumption | with_reducible apply keeps_convertOp)

theorem keeps_execVectorReduction (dt : Nat) (i : Fin 16) (c : Fin 8) (f : VFold) (src : VSrc) (dst : VDst) (lines : BitVec 16) (s t : State) (h : execVectorReduction dt i c f src dst lines s = .next t) : Keeps s t := by
  have hk := keeps_elapse dt (keeps_refl s)
  unfold execVectorReduction after at h
  injection h with e
  subst e
  repeat' (first | intro _ | with_reducible assumption | with_reducible apply keeps_reduceIssue)

theorem keeps_execVectorComplete (dt : Nat) (i : Fin 16) (s t : State) (h : execVectorComplete dt i s = .next t) : Keeps s t := by
  have hk := keeps_elapse dt (keeps_refl s)
  unfold execVectorComplete after at h
  injection h with e
  subst e
  repeat' (first | intro _ | with_reducible assumption | with_reducible apply keeps_vectorComplete)

theorem keeps_execRescaleLoad (dt : Nat) (i : Fin 16) (c : Fin 8) (src : Word) (e : BitVec 10) (n : BitVec 11) (s t : State) (h : execRescaleLoad dt i c src e n s = .next t) : Keeps s t := by
  have hk := keeps_elapse dt (keeps_refl s)
  unfold execRescaleLoad after at h
  injection h with e
  subst e
  repeat' (first | intro _ | with_reducible assumption | with_reducible apply keeps_rescaleLoad)

theorem keeps_execGrid (dt : Nat) (i : Fin 16) (c : Fin 8) (g : Byte) (p : BitVec 16) (r : BitVec 5) (s t : State) (h : execGrid dt i c g p r s = .next t) : Keeps s t := by
  have hk := keeps_elapse dt (keeps_refl s)
  unfold execGrid after at h
  injection h with e
  subst e
  repeat' (first | intro _ | with_reducible assumption | with_reducible apply keeps_gridIssue)

theorem keeps_execGridTileIssue (dt : Nat) (i : Fin 16) (c : Fin 8) (s t : State) (h : execGridTileIssue dt i c s = .next t) : Keeps s t := by
  have hk := keeps_elapse dt (keeps_refl s)
  unfold execGridTileIssue after at h
  injection h with e
  subst e
  repeat' (first | intro _ | with_reducible assumption | with_reducible apply keeps_gridTileIssue)

theorem keeps_execRchk (dt : Nat) (i : Fin 16) (c : Fin 8) (record : Byte) (s t : State) (h : execRchk dt i c record s = .next t) : Keeps s t := by
  have hk := keeps_elapse dt (keeps_refl s)
  unfold execRchk after at h
  injection h with e
  subst e
  repeat' (first | intro _ | with_reducible assumption | with_reducible apply keeps_rchk)

theorem keeps_execControlWait (dt : Nat) (i : Fin 16) (c : Fin 8) (w : WaitFor) (s t : State) (h : execControlWait dt i c w s = .next t) : Keeps s t := by
  have hk := keeps_elapse dt (keeps_refl s)
  unfold execControlWait after at h
  injection h with e
  subst e
  repeat' (first | intro _ | with_reducible assumption | with_reducible apply keeps_controlWait)

theorem keeps_execBarrierArrive (dt : Nat) (i : Fin 16) (c : Fin 8) (b : BarScope) (s t : State) (h : execBarrierArrive dt i c b s = .next t) : Keeps s t := by
  have hk := keeps_elapse dt (keeps_refl s)
  unfold execBarrierArrive after at h
  injection h with e
  subst e
  repeat' (first | intro _ | with_reducible assumption | with_reducible apply keeps_barrierArrive)

theorem keeps_execBarrierWait (dt : Nat) (i : Fin 16) (c : Fin 8) (b : BarScope) (phase : Nat) (s t : State) (h : execBarrierWait dt i c b phase s = .next t) : Keeps s t := by
  have hk := keeps_elapse dt (keeps_refl s)
  unfold execBarrierWait after at h
  injection h with e
  subst e
  repeat' (first | intro _ | with_reducible assumption | with_reducible apply keeps_barrierWait)

theorem keeps_execBarrierTimeout (dt : Nat) (i : Fin 16) (c : Fin 8) (s t : State) (h : execBarrierTimeout dt i c s = .next t) : Keeps s t := by
  have hk := keeps_elapse dt (keeps_refl s)
  unfold execBarrierTimeout after at h
  injection h with e
  subst e
  repeat' (first | intro _ | with_reducible assumption | with_reducible apply keeps_barrierTimeout)

theorem keeps_execRingReceivePost (dt : Nat) (i : Fin 16) (c : Fin 8) (a : Word) (len : Word) (s t : State) (h : execRingReceivePost dt i c a len s = .next t) : Keeps s t := by
  have hk := keeps_elapse dt (keeps_refl s)
  unfold execRingReceivePost after at h
  injection h with e
  subst e
  repeat' (first | intro _ | with_reducible assumption | with_reducible apply keeps_ringReceivePost)

theorem keeps_execRingSend (dt : Nat) (i : Fin 16) (c : Fin 8) (a : Word) (len : Word) (mask : BitVec 16) (s t : State) (h : execRingSend dt i c a len mask s = .next t) : Keeps s t := by
  have hk := keeps_elapse dt (keeps_refl s)
  unfold execRingSend after at h
  injection h with e
  subst e
  repeat' (first | intro _ | with_reducible assumption | with_reducible apply keeps_ringSend)

theorem keeps_execRingComplete (dt : Nat) (i : Fin 16) (s t : State) (h : execRingComplete dt i s = .next t) : Keeps s t := by
  have hk := keeps_elapse dt (keeps_refl s)
  unfold execRingComplete after at h
  injection h with e
  subst e
  repeat' (first | intro _ | with_reducible assumption | with_reducible apply keeps_ringComplete)

theorem keeps_execRingTimeout (dt : Nat) (i : Fin 16) (c : Fin 8) (s t : State) (h : execRingTimeout dt i c s = .next t) : Keeps s t := by
  have hk := keeps_elapse dt (keeps_refl s)
  unfold execRingTimeout after at h
  injection h with e
  subst e
  repeat' (first | intro _ | with_reducible assumption | with_reducible apply keeps_ringTimeout)

theorem keeps_execSpadEccError (dt : Nat) (i : Fin 16) (c : Fin 8) (pc : BitVec 12) (uncorrectable : Bool) (s t : State) (h : execSpadEccError dt i c pc uncorrectable s = .next t) : Keeps s t := by
  have hk := keeps_elapse dt (keeps_refl s)
  unfold execSpadEccError after at h
  injection h with e
  subst e
  repeat' (first | intro _ | with_reducible assumption | with_reducible apply keeps_spadEcc)

theorem keeps_execDmaInstruction (dt : Nat) (i : Fin 16) (c : Fin 8) (o : DmaOp) (s t : State) (h : execDmaInstruction dt i c o s = .next t) : Keeps s t := by
  have hk := keeps_elapse dt (keeps_refl s)
  unfold execDmaInstruction after at h
  injection h with e
  subst e
  repeat' (first | intro _ | with_reducible assumption | with_reducible apply keeps_dmaInstruction)

theorem keeps_execDmaTransferPlace (dt : Nat) (i : Fin 16) (s t : State) (h : execDmaTransferPlace dt i s = .next t) : Keeps s t := by
  have hk := keeps_elapse dt (keeps_refl s)
  unfold execDmaTransferPlace after at h
  injection h with e
  subst e
  repeat' (first | intro _ | with_reducible assumption | with_reducible apply keeps_transferPlace)

theorem keeps_execDmaPieceIssue (dt : Nat) (i : Fin 16) (write : Bool) (returned : List (Fin 16 × Byte)) (s t : State) (h : execDmaPieceIssue dt i write returned s = .next t) : Keeps s t := by
  have hk := keeps_elapse dt (keeps_refl s)
  unfold execDmaPieceIssue after at h
  injection h with e
  subst e
  repeat' (first | intro _ | with_reducible assumption | with_reducible apply keeps_pieceIssue | with_reducible apply keeps_map)

theorem keeps_execDmaRowDelivered (dt : Nat) (i : Fin 16) (q : Fin 16) (k : Byte) (row : Word) (host : List Byte) (s t : State) (h : execDmaRowDelivered dt i q k row host s = .next t) : Keeps s t := by
  have hk := keeps_elapse dt (keeps_refl s)
  unfold execDmaRowDelivered after at h
  injection h with e
  subst e
  repeat' (first | intro _ | with_reducible assumption | with_reducible apply keeps_rowDelivered)

theorem keeps_execFaultWalk (dt : Nat) (i : Fin 16) (q : Fin 16) (s t : State) (h : execFaultWalk dt i q s = .next t) : Keeps s t := by
  have hk := keeps_elapse dt (keeps_refl s)
  unfold execFaultWalk after at h
  injection h with e
  subst e
  repeat' (first | intro _ | with_reducible assumption | with_reducible apply keeps_faultWalk)

theorem keeps_execFaultWaitExpiry (dt : Nat) (i : Fin 16) (q : Fin 16) (s t : State) (h : execFaultWaitExpiry dt i q s = .next t) : Keeps s t := by
  have hk := keeps_elapse dt (keeps_refl s)
  unfold execFaultWaitExpiry after at h
  injection h with e
  subst e
  repeat' (first | intro _ | with_reducible assumption | with_reducible apply keeps_faultExpiry)

theorem keeps_execHoldCacheRequest (dt : Nat) (x : Fin 9) (line : BitVec 32) (acc : MemAcc) (noAlloc : Bool) (key : BitVec 64) (o : HoldFrom) (s t : State) (h : execHoldCacheRequest dt x line acc noAlloc key o s = .next t) : Keeps s t := by
  have hk := keeps_elapse dt (keeps_refl s)
  unfold execHoldCacheRequest after at h
  injection h with e
  subst e
  repeat' (first | intro _ | with_reducible assumption | with_reducible apply keeps_holdRequest)

theorem keeps_execDdr5ReadReturn (dt : Nat) (c : Fin 8) (cipher : List Byte) (side : List Byte) (s t : State) (h : execDdr5ReadReturn dt c cipher side s = .next t) : Keeps s t := by
  have hk := keeps_elapse dt (keeps_refl s)
  unfold execDdr5ReadReturn after at h
  injection h with e
  subst e
  repeat' (first | intro _ | with_reducible assumption | with_reducible apply keeps_ddrReturn)

theorem keeps_execDdr5RequestServe (dt : Nat) (c : Fin 8) (held : List (BitVec 32)) (s t : State) (h : execDdr5RequestServe dt c held s = .next t) : Keeps s t := by
  have hk := keeps_elapse dt (keeps_refl s)
  unfold execDdr5RequestServe after at h
  injection h with e
  subst e
  repeat' (first | intro _ | with_reducible assumption | with_reducible apply keeps_ddrServe | with_reducible apply keeps_map)

theorem keeps_execDdr5BlockWrite (dt : Nat) (line : BitVec 32) (s t : State) (h : execDdr5BlockWrite dt line s = .next t) : Keeps s t := by
  have hk := keeps_elapse dt (keeps_refl s)
  unfold execDdr5BlockWrite after at h
  injection h with e
  subst e
  repeat' (first | intro _ | with_reducible assumption | with_reducible apply keeps_writeBlock)

theorem keeps_execRefreshInterval (dt : Nat) (c : Fin 8) (s t : State) (h : execRefreshInterval dt c s = .next t) : Keeps s t := by
  have hk := keeps_elapse dt (keeps_refl s)
  unfold execRefreshInterval after at h
  injection h with e
  subst e
  repeat' (first | intro _ | with_reducible assumption | with_reducible apply keeps_refresh)

theorem keeps_execDramHot (dt : Nat) (s t : State) (h : execDramHot dt s = .next t) : Keeps s t := by
  have hk := keeps_elapse dt (keeps_refl s)
  unfold execDramHot after at h
  injection h with e
  subst e
  repeat' (first | intro _ | with_reducible assumption | with_reducible apply keeps_dramHot)

theorem keeps_execDramHotEnd (dt : Nat) (s t : State) (h : execDramHotEnd dt s = .next t) : Keeps s t := by
  have hk := keeps_elapse dt (keeps_refl s)
  unfold execDramHotEnd after at h
  injection h with e
  subst e
  repeat' (first | intro _ | with_reducible assumption | with_reducible apply keeps_dramCool)

theorem keeps_execTrainingPair (dt : Nat) (n : Fin 512) (q : Word) (input : List Byte) (s t : State) (h : execTrainingPair dt n q input s = .next t) : Keeps s t := by
  have hk := keeps_elapse dt (keeps_refl s)
  unfold execTrainingPair after at h
  injection h with e
  subst e
  repeat' (first | intro _ | with_reducible assumption | with_reducible apply keeps_trainingPair)

theorem keeps_execReversePipelineRun (dt : Nat) (n : Fin 512) (q : Word) (s t : State) (h : execReversePipelineRun dt n q s = .next t) : Keeps s t := by
  have hk := keeps_elapse dt (keeps_refl s)
  unfold execReversePipelineRun after at h
  injection h with e
  subst e
  repeat' (first | intro _ | with_reducible assumption | with_reducible apply keeps_reversePipeline)

theorem keeps_execTrainingStripeQueue (dt : Nat) (n : Fin 512) (w : Fin 32) (s t : State) (h : execTrainingStripeQueue dt n w s = .next t) : Keeps s t := by
  have hk := keeps_elapse dt (keeps_refl s)
  unfold execTrainingStripeQueue after at h
  injection h with e
  subst e
  repeat' (first | intro _ | with_reducible assumption | with_reducible apply keeps_trainingStripe)

theorem keeps_execTrainingStep (dt : Nat) (n : Fin 512) (s t : State) (h : execTrainingStep dt n s = .next t) : Keeps s t := by
  have hk := keeps_elapse dt (keeps_refl s)
  unfold execTrainingStep after at h
  injection h with e
  subst e
  repeat' (first | intro _ | with_reducible assumption | with_reducible apply keeps_trainingStep)

theorem keeps_execCandidateEncode (dt : Nat) (n : Fin 512) (s t : State) (h : execCandidateEncode dt n s = .next t) : Keeps s t := by
  have hk := keeps_elapse dt (keeps_refl s)
  unfold execCandidateEncode after at h
  injection h with e
  subst e
  repeat' (first | intro _ | with_reducible assumption | with_reducible apply keeps_candidateEncode)

theorem keeps_execGateDecision (dt : Nat) (n : Fin 512) (s t : State) (h : execGateDecision dt n s = .next t) : Keeps s t := by
  have hk := keeps_elapse dt (keeps_refl s)
  unfold execGateDecision after at h
  injection h with e
  subst e
  repeat' (first | intro _ | with_reducible assumption | with_reducible apply keeps_gateDecision)

theorem keeps_execHeadSetStage (dt : Nat) (n : Fin 512) (s t : State) (h : execHeadSetStage dt n s = .next t) : Keeps s t := by
  have hk := keeps_elapse dt (keeps_refl s)
  unfold execHeadSetStage after at h
  injection h with e
  subst e
  repeat' (first | intro _ | with_reducible assumption | with_reducible apply keeps_headSetStage)

theorem keeps_execAdaptBudgetWindowEnd (dt : Nat) (i : Fin 16) (s t : State) (h : execAdaptBudgetWindowEnd dt i s = .next t) : Keeps s t := by
  have hk := keeps_elapse dt (keeps_refl s)
  unfold execAdaptBudgetWindowEnd after at h
  injection h with e
  subst e
  repeat' (first | intro _ | with_reducible assumption | with_reducible apply keeps_adaptWindow)

theorem keeps_execAdaptStart (dt : Nat) (r : CmdName) (s t : State) (h : execAdaptStart dt r s = .next t) : Keeps s t := by
  have hk := keeps_elapse dt (keeps_refl s)
  unfold execAdaptStart after at h
  injection h with e
  subst e
  repeat' (first | intro _ | with_reducible assumption | with_reducible apply keeps_onAdapt | with_reducible apply keeps_adaptStart)

theorem keeps_execAdaptStop (dt : Nat) (r : CmdName) (s t : State) (h : execAdaptStop dt r s = .next t) : Keeps s t := by
  have hk := keeps_elapse dt (keeps_refl s)
  unfold execAdaptStop after at h
  injection h with e
  subst e
  repeat' (first | intro _ | with_reducible assumption | with_reducible apply keeps_onAdapt | with_reducible apply keeps_adaptStop)

theorem keeps_execAdaptPause (dt : Nat) (r : CmdName) (s t : State) (h : execAdaptPause dt r s = .next t) : Keeps s t := by
  have hk := keeps_elapse dt (keeps_refl s)
  unfold execAdaptPause after at h
  injection h with e
  subst e
  repeat' (first | intro _ | with_reducible assumption | with_reducible apply keeps_onAdapt | with_reducible apply keeps_adaptPause)

theorem keeps_execAdaptResume (dt : Nat) (r : CmdName) (s t : State) (h : execAdaptResume dt r s = .next t) : Keeps s t := by
  have hk := keeps_elapse dt (keeps_refl s)
  unfold execAdaptResume after at h
  injection h with e
  subst e
  repeat' (first | intro _ | with_reducible assumption | with_reducible apply keeps_onAdapt | with_reducible apply keeps_adaptResume)

theorem keeps_execAdaptRevert (dt : Nat) (r : CmdName) (s t : State) (h : execAdaptRevert dt r s = .next t) : Keeps s t := by
  have hk := keeps_elapse dt (keeps_refl s)
  unfold execAdaptRevert after at h
  injection h with e
  subst e
  repeat' (first | intro _ | with_reducible assumption | with_reducible apply keeps_onAdapt | with_reducible apply keeps_adaptRevert)

theorem keeps_execAdaptRefs (dt : Nat) (r : CmdName) (refs : List (BitVec 64 × BitVec 32 × BitVec 32)) (s t : State) (h : execAdaptRefs dt r refs s = .next t) : Keeps s t := by
  have hk := keeps_elapse dt (keeps_refl s)
  unfold execAdaptRefs after at h
  injection h with e
  subst e
  repeat' (first | intro _ | with_reducible assumption | with_reducible apply keeps_adaptRefsCmd | with_reducible apply keeps_map)

theorem keeps_execAdaptExport (dt : Nat) (r : CmdName) (s t : State) (h : execAdaptExport dt r s = .next t) : Keeps s t := by
  have hk := keeps_elapse dt (keeps_refl s)
  unfold execAdaptExport after at h
  injection h with e
  subst e
  repeat' (first | intro _ | with_reducible assumption | with_reducible apply keeps_adaptExportCmd)

theorem keeps_execAdaptImport (dt : Nat) (r : CmdName) (bytes : List Byte) (s t : State) (h : execAdaptImport dt r bytes s = .next t) : Keeps s t := by
  have hk := keeps_elapse dt (keeps_refl s)
  unfold execAdaptImport after at h
  injection h with e
  subst e
  repeat' (first | intro _ | with_reducible assumption | with_reducible apply keeps_adaptImportCmd)

theorem keeps_execCqEnable (dt : Nat) (f : Fin 9) (q : Fin 4) (v : Word) (s t : State) (h : execCqEnable dt f q v s = .next t) : Keeps s t := by
  have hk := keeps_elapse dt (keeps_refl s)
  unfold execCqEnable after at h
  injection h with e
  subst e
  repeat' (first | intro _ | with_reducible assumption | with_reducible apply keeps_onBus | with_reducible apply keeps_cqOn)

theorem keeps_execCqDisable (dt : Nat) (f : Fin 9) (q : Fin 4) (v : Word) (s t : State) (h : execCqDisable dt f q v s = .next t) : Keeps s t := by
  have hk := keeps_elapse dt (keeps_refl s)
  unfold execCqDisable after at h
  injection h with e
  subst e
  repeat' (first | intro _ | with_reducible assumption | with_reducible apply keeps_onBus | with_reducible apply keeps_cqOff)

theorem keeps_execCqTailDoorbell (dt : Nat) (f : Fin 9) (q : Fin 4) (v : Word) (s t : State) (h : execCqTailDoorbell dt f q v s = .next t) : Keeps s t := by
  have hk := keeps_elapse dt (keeps_refl s)
  unfold execCqTailDoorbell after at h
  injection h with e
  subst e
  repeat' (first | intro _ | with_reducible assumption | with_reducible apply keeps_onBus | with_reducible apply keeps_cqTailWrite)

theorem keeps_execRqHeadDoorbell (dt : Nat) (f : Fin 9) (q : Fin 4) (v : Word) (s t : State) (h : execRqHeadDoorbell dt f q v s = .next t) : Keeps s t := by
  have hk := keeps_elapse dt (keeps_refl s)
  unfold execRqHeadDoorbell after at h
  injection h with e
  subst e
  repeat' (first | intro _ | with_reducible assumption | with_reducible apply keeps_onBus | with_reducible apply keeps_rqHeadWrite)

theorem keeps_execCommandFetch (dt : Nat) (f : Fin 9) (q : Fin 4) (bytes : List Byte) (s t : State) (h : execCommandFetch dt f q bytes s = .next t) : Keeps s t := by
  have hk := keeps_elapse dt (keeps_refl s)
  unfold execCommandFetch after at h
  injection h with e
  subst e
  repeat' (first | intro _ | with_reducible assumption | with_reducible apply keeps_fetch)

theorem keeps_execCommandStart (dt : Nat) (s t : State) (h : execCommandStart dt s = .next t) : Keeps s t := by
  have hk := keeps_elapse dt (keeps_refl s)
  unfold execCommandStart after at h
  injection h with e
  subst e
  repeat' (first | intro _ | with_reducible assumption | with_reducible apply keeps_startCommand)

theorem keeps_execInterruptModerationTimer (dt : Nat) (f : Fin 9) (q : Fin 4) (s t : State) (h : execInterruptModerationTimer dt f q s = .next t) : Keeps s t := by
  have hk := keeps_elapse dt (keeps_refl s)
  unfold execInterruptModerationTimer after at h
  injection h with e
  subst e
  repeat' (first | intro _ | with_reducible assumption | with_reducible apply keeps_moderation)

theorem keeps_execEvqEnable (dt : Nat) (f : Fin 9) (v : Word) (s t : State) (h : execEvqEnable dt f v s = .next t) : Keeps s t := by
  have hk := keeps_elapse dt (keeps_refl s)
  unfold execEvqEnable after at h
  injection h with e
  subst e
  repeat' (first | intro _ | with_reducible assumption | with_reducible apply keeps_onBus | with_reducible apply keeps_evqOn)

theorem keeps_execMailboxSend (dt : Nat) (f : Fin 9) (sfl : Bool) (v : Word) (s t : State) (h : execMailboxSend dt f sfl v s = .next t) : Keeps s t := by
  have hk := keeps_elapse dt (keeps_refl s)
  unfold execMailboxSend after at h
  injection h with e
  subst e
  repeat' (first | intro _ | with_reducible assumption | with_reducible apply keeps_mailboxSend)

theorem keeps_execMailboxReadLast (dt : Nat) (f : Fin 9) (ch : Fin 5) (s t : State) (h : execMailboxReadLast dt f ch s = .next t) : Keeps s t := by
  have hk := keeps_elapse dt (keeps_refl s)
  unfold execMailboxReadLast after at h
  injection h with e
  subst e
  repeat' (first | intro _ | with_reducible assumption | with_reducible apply keeps_onBus | with_reducible apply keeps_rxReadLast)

theorem keeps_execPing (dt : Nat) (f : Fin 9) (cp : Fin 4) (s t : State) (h : execPing dt f cp s = .next t) : Keeps s t := by
  have hk := keeps_elapse dt (keeps_refl s)
  unfold execPing after at h
  injection h with e
  subst e
  repeat' (first | intro _ | with_reducible assumption | with_reducible apply keeps_ping)

theorem keeps_execPinClaim (dt : Nat) (v : Word) (s t : State) (h : execPinClaim dt v s = .next t) : Keeps s t := by
  have hk := keeps_elapse dt (keeps_refl s)
  unfold execPinClaim after at h
  injection h with e
  subst e
  repeat' (first | intro _ | with_reducible assumption | with_reducible apply keeps_onBus | with_reducible apply keeps_pinClaim)

theorem keeps_execPinRelease (dt : Nat) (v : Word) (s t : State) (h : execPinRelease dt v s = .next t) : Keeps s t := by
  have hk := keeps_elapse dt (keeps_refl s)
  unfold execPinRelease after at h
  injection h with e
  subst e
  repeat' (first | intro _ | with_reducible assumption | with_reducible apply keeps_onBus | with_reducible apply keeps_pinRelease)

theorem keeps_execProfileLoad (dt : Nat) (r : CmdName) (bytes : List Byte) (s t : State) (h : execProfileLoad dt r bytes s = .next t) : Keeps s t := by
  have hk := keeps_elapse dt (keeps_refl s)
  unfold execProfileLoad after at h
  injection h with e
  subst e
  repeat' (first | intro _ | with_reducible assumption | with_reducible apply keeps_profileLoad)

theorem keeps_execSensorXfer (dt : Nat) (r : CmdName) (s t : State) (h : execSensorXfer dt r s = .next t) : Keeps s t := by
  have hk := keeps_elapse dt (keeps_refl s)
  unfold execSensorXfer after at h
  injection h with e
  subst e
  repeat' (first | intro _ | with_reducible assumption | with_reducible apply keeps_sensorXfer)

theorem keeps_execCamGrant (dt : Nat) (r : CmdName) (s t : State) (h : execCamGrant dt r s = .next t) : Keeps s t := by
  have hk := keeps_elapse dt (keeps_refl s)
  unfold execCamGrant after at h
  injection h with e
  subst e
  repeat' (first | intro _ | with_reducible assumption | with_reducible apply keeps_camGrant)

theorem keeps_execCamRings (dt : Nat) (r : CmdName) (s t : State) (h : execCamRings dt r s = .next t) : Keeps s t := by
  have hk := keeps_elapse dt (keeps_refl s)
  unfold execCamRings after at h
  injection h with e
  subst e
  repeat' (first | intro _ | with_reducible assumption | with_reducible apply keeps_camRings)

theorem keeps_execModelLoad (dt : Nat) (r : CmdName) (img : ModelImg) (s t : State) (h : execModelLoad dt r img s = .next t) : Keeps s t := by
  have hk := keeps_elapse dt (keeps_refl s)
  unfold execModelLoad after at h
  injection h with e
  subst e
  repeat' (first | intro _ | with_reducible assumption | with_reducible apply keeps_modelLoad)

theorem keeps_execModelUnload (dt : Nat) (r : CmdName) (s t : State) (h : execModelUnload dt r s = .next t) : Keeps s t := by
  have hk := keeps_elapse dt (keeps_refl s)
  unfold execModelUnload after at h
  injection h with e
  subst e
  repeat' (first | intro _ | with_reducible assumption | with_reducible apply keeps_modelUnload)

theorem keeps_execModelBind (dt : Nat) (r : CmdName) (s t : State) (h : execModelBind dt r s = .next t) : Keeps s t := by
  have hk := keeps_elapse dt (keeps_refl s)
  unfold execModelBind after at h
  injection h with e
  subst e
  repeat' (first | intro _ | with_reducible assumption | with_reducible apply keeps_modelBind)

theorem keeps_execCalibCapture (dt : Nat) (r : CmdName) (s t : State) (h : execCalibCapture dt r s = .next t) : Keeps s t := by
  have hk := keeps_elapse dt (keeps_refl s)
  unfold execCalibCapture after at h
  injection h with e
  subst e
  repeat' (first | intro _ | with_reducible assumption | with_reducible apply keeps_calibCapture)

theorem keeps_execModelInfo (dt : Nat) (r : CmdName) (s t : State) (h : execModelInfo dt r s = .next t) : Keeps s t := by
  have hk := keeps_elapse dt (keeps_refl s)
  unfold execModelInfo after at h
  injection h with e
  subst e
  repeat' (first | intro _ | with_reducible assumption | with_reducible apply keeps_modelInfo)

theorem keeps_execMap (dt : Nat) (r : CmdName) (s t : State) (h : execMap dt r s = .next t) : Keeps s t := by
  have hk := keeps_elapse dt (keeps_refl s)
  unfold execMap after at h
  injection h with e
  subst e
  repeat' (first | intro _ | with_reducible assumption | with_reducible apply keeps_map)

theorem keeps_execUnmap (dt : Nat) (r : CmdName) (s t : State) (h : execUnmap dt r s = .next t) : Keeps s t := by
  have hk := keeps_elapse dt (keeps_refl s)
  unfold execUnmap after at h
  injection h with e
  subst e
  repeat' (first | intro _ | with_reducible assumption | with_reducible apply keeps_unmap)

theorem keeps_execMove (dt : Nat) (r : CmdName) (s t : State) (h : execMove dt r s = .next t) : Keeps s t := by
  have hk := keeps_elapse dt (keeps_refl s)
  unfold execMove after at h
  injection h with e
  subst e
  repeat' (first | intro _ | with_reducible assumption | with_reducible apply keeps_move)

theorem keeps_execMemGrant (dt : Nat) (r : CmdName) (s t : State) (h : execMemGrant dt r s = .next t) : Keeps s t := by
  have hk := keeps_elapse dt (keeps_refl s)
  unfold execMemGrant after at h
  injection h with e
  subst e
  repeat' (first | intro _ | with_reducible assumption | with_reducible apply keeps_memGrant)

theorem keeps_execMemRevoke (dt : Nat) (r : CmdName) (s t : State) (h : execMemRevoke dt r s = .next t) : Keeps s t := by
  have hk := keeps_elapse dt (keeps_refl s)
  unfold execMemRevoke after at h
  injection h with e
  subst e
  repeat' (first | intro _ | with_reducible assumption | with_reducible apply keeps_memRevoke)

theorem keeps_execFaultResume (dt : Nat) (r : CmdName) (s t : State) (h : execFaultResume dt r s = .next t) : Keeps s t := by
  have hk := keeps_elapse dt (keeps_refl s)
  unfold execFaultResume after at h
  injection h with e
  subst e
  repeat' (first | intro _ | with_reducible assumption | with_reducible apply keeps_faultResume)

theorem keeps_execFwPool (dt : Nat) (r : CmdName) (s t : State) (h : execFwPool dt r s = .next t) : Keeps s t := by
  have hk := keeps_elapse dt (keeps_refl s)
  unfold execFwPool after at h
  injection h with e
  subst e
  repeat' (first | intro _ | with_reducible assumption | with_reducible apply keeps_fwPool)

theorem keeps_execTimeGet (dt : Nat) (r : CmdName) (s t : State) (h : execTimeGet dt r s = .next t) : Keeps s t := by
  have hk := keeps_elapse dt (keeps_refl s)
  unfold execTimeGet after at h
  injection h with e
  subst e
  repeat' (first | intro _ | with_reducible assumption | with_reducible apply keeps_timeGet)

theorem keeps_execSchedApply (dt : Nat) (r : CmdName) (s t : State) (h : execSchedApply dt r s = .next t) : Keeps s t := by
  have hk := keeps_elapse dt (keeps_refl s)
  unfold execSchedApply after at h
  injection h with e
  subst e
  repeat' (first | intro _ | with_reducible assumption | with_reducible apply keeps_schedApply)

theorem keeps_execCounterRead (dt : Nat) (r : CmdName) (s t : State) (h : execCounterRead dt r s = .next t) : Keeps s t := by
  have hk := keeps_elapse dt (keeps_refl s)
  unfold execCounterRead after at h
  injection h with e
  subst e
  repeat' (first | intro _ | with_reducible assumption | with_reducible apply keeps_counterRead)

theorem keeps_execTraceRead (dt : Nat) (r : CmdName) (s t : State) (h : execTraceRead dt r s = .next t) : Keeps s t := by
  have hk := keeps_elapse dt (keeps_refl s)
  unfold execTraceRead after at h
  injection h with e
  subst e
  repeat' (first | intro _ | with_reducible assumption | with_reducible apply keeps_traceRead)

theorem keeps_execLayerTotals (dt : Nat) (r : CmdName) (s t : State) (h : execLayerTotals dt r s = .next t) : Keeps s t := by
  have hk := keeps_elapse dt (keeps_refl s)
  unfold execLayerTotals after at h
  injection h with e
  subst e
  repeat' (first | intro _ | with_reducible assumption | with_reducible apply keeps_layerTotals)

theorem keeps_execErrlogRead (dt : Nat) (r : CmdName) (s t : State) (h : execErrlogRead dt r s = .next t) : Keeps s t := by
  have hk := keeps_elapse dt (keeps_refl s)
  unfold execErrlogRead after at h
  injection h with e
  subst e
  repeat' (first | intro _ | with_reducible assumption | with_reducible apply keeps_errlogRead)

theorem keeps_execEcho (dt : Nat) (r : CmdName) (s t : State) (h : execEcho dt r s = .next t) : Keeps s t := by
  have hk := keeps_elapse dt (keeps_refl s)
  unfold execEcho after at h
  injection h with e
  subst e
  repeat' (first | intro _ | with_reducible assumption | with_reducible apply keeps_echo)

theorem keeps_execAttest (dt : Nat) (r : CmdName) (s t : State) (h : execAttest dt r s = .next t) : Keeps s t := by
  have hk := keeps_elapse dt (keeps_refl s)
  unfold execAttest after at h
  injection h with e
  subst e
  repeat' (first | intro _ | with_reducible assumption | with_reducible apply keeps_attest)

theorem keeps_execKeyEphemeral (dt : Nat) (r : CmdName) (s t : State) (h : execKeyEphemeral dt r s = .next t) : Keeps s t := by
  have hk := keeps_elapse dt (keeps_refl s)
  unfold execKeyEphemeral after at h
  injection h with e
  subst e
  repeat' (first | intro _ | with_reducible assumption | with_reducible apply keeps_keyEphemeral)

theorem keeps_execKeyImport (dt : Nat) (r : CmdName) (blob : List Byte) (s t : State) (h : execKeyImport dt r blob s = .next t) : Keeps s t := by
  have hk := keeps_elapse dt (keeps_refl s)
  unfold execKeyImport after at h
  injection h with e
  subst e
  repeat' (first | intro _ | with_reducible assumption | with_reducible apply keeps_keyImport)

theorem keeps_execEphemeralKeyExpiry (dt : Nat) (f : Fin 9) (s t : State) (h : execEphemeralKeyExpiry dt f s = .next t) : Keeps s t := by
  have hk := keeps_elapse dt (keeps_refl s)
  unfold execEphemeralKeyExpiry after at h
  injection h with e
  subst e
  repeat' (first | intro _ | with_reducible assumption | with_reducible apply keeps_keyExpiry)

theorem keeps_execTenantEnable (dt : Nat) (r : CmdName) (s t : State) (h : execTenantEnable dt r s = .next t) : Keeps s t := by
  have hk := keeps_elapse dt (keeps_refl s)
  unfold execTenantEnable after at h
  injection h with e
  subst e
  repeat' (first | intro _ | with_reducible assumption | with_reducible apply keeps_tenantEnable)

theorem keeps_execTenantKill (dt : Nat) (r : CmdName) (s t : State) (h : execTenantKill dt r s = .next t) : Keeps s t := by
  have hk := keeps_elapse dt (keeps_refl s)
  unfold execTenantKill after at h
  injection h with e
  subst e
  repeat' (first | intro _ | with_reducible assumption | with_reducible apply keeps_tenantKill)

theorem keeps_execScrubOnchipComplete (dt : Nat) (k : Fin 8) (s t : State) (h : execScrubOnchipComplete dt k s = .next t) : Keeps s t := by
  have hk := keeps_elapse dt (keeps_refl s)
  unfold execScrubOnchipComplete after at h
  injection h with e
  subst e
  repeat' (first | intro _ | with_reducible assumption | with_reducible apply keeps_scrubOnchip)

theorem keeps_execScrubMemoryComplete (dt : Nat) (k : Fin 8) (s t : State) (h : execScrubMemoryComplete dt k s = .next t) : Keeps s t := by
  have hk := keeps_elapse dt (keeps_refl s)
  unfold execScrubMemoryComplete after at h
  injection h with e
  subst e
  repeat' (first | intro _ | with_reducible assumption | with_reducible apply keeps_scrubMemory)

theorem keeps_execSnufferClearComplete (dt : Nat) (s t : State) (h : execSnufferClearComplete dt s = .next t) : Keeps s t := by
  have hk := keeps_elapse dt (keeps_refl s)
  unfold execSnufferClearComplete after at h
  injection h with e
  subst e
  repeat' (first | intro _ | with_reducible assumption | with_reducible apply keeps_clearComplete)

theorem keeps_execFwStage (dt : Nat) (r : CmdName) (img : FwImage) (s t : State) (h : execFwStage dt r img s = .next t) : Keeps s t := by
  have hk := keeps_elapse dt (keeps_refl s)
  unfold execFwStage after at h
  injection h with e
  subst e
  repeat' (first | intro _ | with_reducible assumption | with_reducible apply keeps_fwStage)

theorem keeps_execFwSwitch (dt : Nat) (r : CmdName) (s t : State) (h : execFwSwitch dt r s = .next t) : Keeps s t := by
  have hk := keeps_elapse dt (keeps_refl s)
  unfold execFwSwitch after at h
  injection h with e
  subst e
  repeat' (first | intro _ | with_reducible assumption | with_reducible apply keeps_fwSwitch)

theorem keeps_execFwSwitchBegin (dt : Nat) (s t : State) (h : execFwSwitchBegin dt s = .next t) : Keeps s t := by
  have hk := keeps_elapse dt (keeps_refl s)
  unfold execFwSwitchBegin after at h
  injection h with e
  subst e
  repeat' (first | intro _ | with_reducible assumption | with_reducible apply keeps_switchBegin)

theorem keeps_execCpReloadComplete (dt : Nat) (ok : Bool) (s t : State) (h : execCpReloadComplete dt ok s = .next t) : Keeps s t := by
  have hk := keeps_elapse dt (keeps_refl s)
  unfold execCpReloadComplete after at h
  injection h with e
  subst e
  repeat' (first | intro _ | with_reducible assumption | with_reducible apply keeps_reloaded)

theorem keeps_execFwResumeTimeout (dt : Nat) (s t : State) (h : execFwResumeTimeout dt s = .next t) : Keeps s t := by
  have hk := keeps_elapse dt (keeps_refl s)
  unfold execFwResumeTimeout after at h
  injection h with e
  subst e
  repeat' (first | intro _ | with_reducible assumption | with_reducible apply keeps_resumeTimeout)

theorem keeps_execFwSwitchComplete (dt : Nat) (s t : State) (h : execFwSwitchComplete dt s = .next t) : Keeps s t := by
  have hk := keeps_elapse dt (keeps_refl s)
  unfold execFwSwitchComplete after at h
  injection h with e
  subst e
  repeat' (first | intro _ | with_reducible assumption | with_reducible apply keeps_switchComplete)

theorem keeps_execEngineMemoryError (dt : Nat) (s t : State) (h : execEngineMemoryError dt s = .next t) : Keeps s t := by
  have hk := keeps_elapse dt (keeps_refl s)
  unfold execEngineMemoryError after at h
  injection h with e
  subst e
  repeat' (first | intro _ | with_reducible assumption | with_reducible apply keeps_engineError)

theorem keeps_execEngineResetComplete (dt : Nat) (s t : State) (h : execEngineResetComplete dt s = .next t) : Keeps s t := by
  have hk := keeps_elapse dt (keeps_refl s)
  unfold execEngineResetComplete after at h
  injection h with e
  subst e
  repeat' (first | intro _ | with_reducible assumption | with_reducible apply keeps_engineReady)

theorem keeps_execLimitSet (dt : Nat) (s t : State) (h : execLimitSet dt s = .next t) : Keeps s t := by
  have hk := keeps_elapse dt (keeps_refl s)
  unfold execLimitSet after at h
  injection h with e
  subst e
  repeat' (first | intro _ | with_reducible assumption | with_reducible apply keeps_limitSetMsg)

theorem keeps_execGovQuery (dt : Nat) (s t : State) (h : execGovQuery dt s = .next t) : Keeps s t := by
  have hk := keeps_elapse dt (keeps_refl s)
  unfold execGovQuery after at h
  injection h with e
  subst e
  repeat' (first | intro _ | with_reducible assumption | with_reducible apply keeps_govQueryMsg)

theorem keeps_execPolicySubmit (dt : Nat) (r : CmdName) (bytes : List Byte) (s t : State) (h : execPolicySubmit dt r bytes s = .next t) : Keeps s t := by
  have hk := keeps_elapse dt (keeps_refl s)
  unfold execPolicySubmit after at h
  injection h with e
  subst e
  repeat' (first | intro _ | with_reducible assumption | with_reducible apply keeps_policySubmit)

theorem keeps_execPrivEnrol (dt : Nat) (r : CmdName) (key : List Byte) (s t : State) (h : execPrivEnrol dt r key s = .next t) : Keeps s t := by
  have hk := keeps_elapse dt (keeps_refl s)
  unfold execPrivEnrol after at h
  injection h with e
  subst e
  repeat' (first | intro _ | with_reducible assumption | with_reducible apply keeps_privEnrol)

theorem keeps_execSclkStop (dt : Nat) (s t : State) (h : execSclkStop dt s = .next t) : Keeps s t := by
  have hk := keeps_elapse dt (keeps_refl s)
  unfold execSclkStop after at h
  injection h with e
  subst e
  repeat' (first | intro _ | with_reducible assumption | with_reducible apply keeps_sclkStop)

theorem keeps_execVddSflOutOfRange (dt : Nat) (s t : State) (h : execVddSflOutOfRange dt s = .next t) : Keeps s t := by
  have hk := keeps_elapse dt (keeps_refl s)
  unfold execVddSflOutOfRange after at h
  injection h with e
  subst e
  repeat' (first | intro _ | with_reducible assumption | with_reducible apply keeps_failClosed)

theorem keeps_execSflWatchdogExpiry (dt : Nat) (s t : State) (h : execSflWatchdogExpiry dt s = .next t) : Keeps s t := by
  have hk := keeps_elapse dt (keeps_refl s)
  unfold execSflWatchdogExpiry after at h
  injection h with e
  subst e
  repeat' (first | intro _ | with_reducible assumption | with_reducible apply keeps_failClosed)

theorem keeps_execSafelightRestartComplete (dt : Nat) (s t : State) (h : execSafelightRestartComplete dt s = .next t) : Keeps s t := by
  have hk := keeps_elapse dt (keeps_refl s)
  unfold execSafelightRestartComplete after at h
  injection h with e
  subst e
  repeat' (first | intro _ | with_reducible assumption | with_reducible apply keeps_sflRestarted)

theorem keeps_execPrivHoldAssert (dt : Nat) (s t : State) (h : execPrivHoldAssert dt s = .next t) : Keeps s t := by
  have hk := keeps_elapse dt (keeps_refl s)
  unfold execPrivHoldAssert after at h
  injection h with e
  subst e
  repeat' (first | intro _ | with_reducible assumption | with_reducible apply keeps_holdAssert)

theorem keeps_execPrivHoldDeassert (dt : Nat) (s t : State) (h : execPrivHoldDeassert dt s = .next t) : Keeps s t := by
  have hk := keeps_elapse dt (keeps_refl s)
  unfold execPrivHoldDeassert after at h
  injection h with e
  subst e
  repeat' (first | intro _ | with_reducible assumption | with_reducible apply keeps_holdRelease)

theorem keeps_execPowerSample (dt : Nat) (mw : BitVec 32) (s t : State) (h : execPowerSample dt mw s = .next t) : Keeps s t := by
  have hk := keeps_elapse dt (keeps_refl s)
  unfold execPowerSample after at h
  injection h with e
  subst e
  repeat' (first | intro _ | with_reducible assumption | with_reducible apply keeps_powerSample)

theorem keeps_execJunctionRead (dt : Nat) (temps : List (BitVec 12)) (s t : State) (h : execJunctionRead dt temps s = .next t) : Keeps s t := by
  have hk := keeps_elapse dt (keeps_refl s)
  unfold execJunctionRead after at h
  injection h with e
  subst e
  repeat' (first | intro _ | with_reducible assumption | with_reducible apply keeps_junctionRead | with_reducible apply keeps_map)

theorem keeps_execGovernorEvaluation (dt : Nat) (s t : State) (h : execGovernorEvaluation dt s = .next t) : Keeps s t := by
  have hk := keeps_elapse dt (keeps_refl s)
  unfold execGovernorEvaluation after at h
  injection h with e
  subst e
  repeat' (first | intro _ | with_reducible assumption | with_reducible apply keeps_governor)

theorem keeps_execThermComparatorTrip (dt : Nat) (s t : State) (h : execThermComparatorTrip dt s = .next t) : Keeps s t := by
  have hk := keeps_elapse dt (keeps_refl s)
  unfold execThermComparatorTrip after at h
  injection h with e
  subst e
  repeat' (first | intro _ | with_reducible assumption | with_reducible apply keeps_thermTrip)

theorem keeps_execChainStatus (dt : Nat) (r : CmdName) (s t : State) (h : execChainStatus dt r s = .next t) : Keeps s t := by
  have hk := keeps_elapse dt (keeps_refl s)
  unfold execChainStatus after at h
  injection h with e
  subst e
  repeat' (first | intro _ | with_reducible assumption | with_reducible apply keeps_chainStatus)

theorem keeps_execPortForward (dt : Nat) (r : CmdName) (targetOk : Bool) (pathOk : Bool) (s t : State) (h : execPortForward dt r targetOk pathOk s = .next t) : Keeps s t := by
  have hk := keeps_elapse dt (keeps_refl s)
  unfold execPortForward after at h
  injection h with e
  subst e
  repeat' (first | intro _ | with_reducible assumption | with_reducible apply keeps_portForward)

theorem keeps_execPortReturn (dt : Nat) (r : CmdName) (targetOk : Bool) (s t : State) (h : execPortReturn dt r targetOk s = .next t) : Keeps s t := by
  have hk := keeps_elapse dt (keeps_refl s)
  unfold execPortReturn after at h
  injection h with e
  subst e
  repeat' (first | intro _ | with_reducible assumption | with_reducible apply keeps_portReturn)

theorem keeps_execWindowOpen (dt : Nat) (r : CmdName) (s t : State) (h : execWindowOpen dt r s = .next t) : Keeps s t := by
  have hk := keeps_elapse dt (keeps_refl s)
  unfold execWindowOpen after at h
  injection h with e
  subst e
  repeat' (first | intro _ | with_reducible assumption | with_reducible apply keeps_windowOpen)

theorem keeps_execWindowClose (dt : Nat) (r : CmdName) (s t : State) (h : execWindowClose dt r s = .next t) : Keeps s t := by
  have hk := keeps_elapse dt (keeps_refl s)
  unfold execWindowClose after at h
  injection h with e
  subst e
  repeat' (first | intro _ | with_reducible assumption | with_reducible apply keeps_windowClose)

theorem keeps_execPosBlockReceived (dt : Nat) (chd : Bool) (q : BitVec 3) (s t : State) (h : execPosBlockReceived dt chd q s = .next t) : Keeps s t := by
  have hk := keeps_elapse dt (keeps_refl s)
  unfold execPosBlockReceived after at h
  injection h with e
  subst e
  repeat' (first | intro _ | with_reducible assumption | with_reducible apply keeps_posReceived)

theorem keeps_execFwdPkt (dt : Nat) (q : BitVec 3) (d : BitVec 3) (p : Fin 16) (stamp : BitVec 64) (k : Packet) (s t : State) (h : execFwdPkt dt q d p stamp k s = .next t) : Keeps s t := by
  have hk := keeps_elapse dt (keeps_refl s)
  unfold execFwdPkt after at h
  injection h with e
  subst e
  repeat' (first | intro _ | with_reducible assumption | with_reducible apply keeps_onFwdPacket)

theorem keeps_execFwdCtl (dt : Nat) (q : BitVec 3) (d : BitVec 3) (p : Fin 16) (len : BitVec 12) (x : FwdCtl) (s t : State) (h : execFwdCtl dt q d p len x s = .next t) : Keeps s t := by
  have hk := keeps_elapse dt (keeps_refl s)
  unfold execFwdCtl after at h
  injection h with e
  subst e
  repeat' (first | intro _ | with_reducible assumption | with_reducible apply keeps_onFwdControl)

theorem keeps_execPeerWr (dt : Nat) (q : BitVec 3) (d : BitVec 3) (info : BitVec 64) (bytes : List Byte) (s t : State) (h : execPeerWr dt q d info bytes s = .next t) : Keeps s t := by
  have hk := keeps_elapse dt (keeps_refl s)
  unfold execPeerWr after at h
  injection h with e
  subst e
  repeat' (first | intro _ | with_reducible assumption | with_reducible apply keeps_onPeerWrite)

theorem keeps_execPeerAck (dt : Nat) (q : BitVec 3) (d : BitVec 3) (info : BitVec 64) (s t : State) (h : execPeerAck dt q d info s = .next t) : Keeps s t := by
  have hk := keeps_elapse dt (keeps_refl s)
  unfold execPeerAck after at h
  injection h with e
  subst e
  repeat' (first | intro _ | with_reducible assumption | with_reducible apply keeps_onPeerAck)

theorem keeps_execChainMsg (dt : Nat) (q : BitVec 3) (d : BitVec 3) (len : BitVec 12) (m : ChainMsg) (s t : State) (h : execChainMsg dt q d len m s = .next t) : Keeps s t := by
  have hk := keeps_elapse dt (keeps_refl s)
  unfold execChainMsg after at h
  injection h with e
  subst e
  repeat' (first | intro _ | with_reducible assumption | with_reducible apply keeps_onMessage)

theorem keeps_execChainStatusPacket (dt : Nat) (q : BitVec 3) (len : BitVec 12) (reach : Byte) (timeState : BitVec 2) (enrol : Option (List Byte)) (seq : BitVec 32) (s t : State) (h : execChainStatusPacket dt q len reach timeState enrol seq s = .next t) : Keeps s t := by
  have hk := keeps_elapse dt (keeps_refl s)
  unfold execChainStatusPacket after at h
  injection h with e
  subst e
  repeat' (first | intro _ | with_reducible assumption | with_reducible apply keeps_onStatus)

theorem keeps_execStatusSendTimer (dt : Nat) (s t : State) (h : execStatusSendTimer dt s = .next t) : Keeps s t := by
  have hk := keeps_elapse dt (keeps_refl s)
  unfold execStatusSendTimer after at h
  injection h with e
  subst e
  repeat' (first | intro _ | with_reducible assumption | with_reducible apply keeps_statusSend)

theorem keeps_execPresenceTimeout (dt : Nat) (q : BitVec 3) (s t : State) (h : execPresenceTimeout dt q s = .next t) : Keeps s t := by
  have hk := keeps_elapse dt (keeps_refl s)
  unfold execPresenceTimeout after at h
  injection h with e
  subst e
  repeat' (first | intro _ | with_reducible assumption | with_reducible apply keeps_presenceTimeout)

theorem keeps_execForwardTakeback (dt : Nat) (p : Fin 16) (s t : State) (h : execForwardTakeback dt p s = .next t) : Keeps s t := by
  have hk := keeps_elapse dt (keeps_refl s)
  unfold execForwardTakeback after at h
  injection h with e
  subst e
  repeat' (first | intro _ | with_reducible assumption | with_reducible apply keeps_takeback)

theorem keeps_execDelayReqTimer (dt : Nat) (s t : State) (h : execDelayReqTimer dt s = .next t) : Keeps s t := by
  have hk := keeps_elapse dt (keeps_refl s)
  unfold execDelayReqTimer after at h
  injection h with e
  subst e
  repeat' (first | intro _ | with_reducible assumption | with_reducible apply keeps_delayReqSend)

theorem keeps_execDelayReq (dt : Nat) (s t : State) (h : execDelayReq dt s = .next t) : Keeps s t := by
  have hk := keeps_elapse dt (keeps_refl s)
  unfold execDelayReq after at h
  injection h with e
  subst e
  repeat' (first | intro _ | with_reducible assumption | with_reducible apply keeps_delayAnswer)

theorem keeps_execDelayResp (dt : Nat) (turn : BitVec 32) (s t : State) (h : execDelayResp dt turn s = .next t) : Keeps s t := by
  have hk := keeps_elapse dt (keeps_refl s)
  unfold execDelayResp after at h
  injection h with e
  subst e
  repeat' (first | intro _ | with_reducible assumption | with_reducible apply keeps_delayMeasured)

theorem keeps_execUnitResetCore (dt : Nat) (r : CmdName) (s t : State) (h : execUnitResetCore dt r s = .next t) : Keeps s t := by
  have hk := keeps_elapse dt (keeps_refl s)
  unfold execUnitResetCore after at h
  injection h with e
  subst e
  repeat' (first | intro _ | with_reducible assumption | with_reducible apply keeps_unitResetCore)

theorem keeps_execUnitResetPort (dt : Nat) (r : CmdName) (s t : State) (h : execUnitResetPort dt r s = .next t) : Keeps s t := by
  have hk := keeps_elapse dt (keeps_refl s)
  unfold execUnitResetPort after at h
  injection h with e
  subst e
  repeat' (first | intro _ | with_reducible assumption | with_reducible apply keeps_unitResetPort)

theorem keeps_execUnitResetStageGroup (dt : Nat) (r : CmdName) (s t : State) (h : execUnitResetStageGroup dt r s = .next t) : Keeps s t := by
  have hk := keeps_elapse dt (keeps_refl s)
  unfold execUnitResetStageGroup after at h
  injection h with e
  subst e
  repeat' (first | intro _ | with_reducible assumption | with_reducible apply keeps_unitResetGroup)

theorem keeps_execUnitResetTenant (dt : Nat) (r : CmdName) (s t : State) (h : execUnitResetTenant dt r s = .next t) : Keeps s t := by
  have hk := keeps_elapse dt (keeps_refl s)
  unfold execUnitResetTenant after at h
  injection h with e
  subst e
  repeat' (first | intro _ | with_reducible assumption | with_reducible apply keeps_unitResetTenant)

theorem keeps_execErrRelease (dt : Nat) (v : Word) (s t : State) (h : execErrRelease dt v s = .next t) : Keeps s t := by
  have hk := keeps_elapse dt (keeps_refl s)
  unfold execErrRelease after at h
  injection h with e
  subst e
  repeat' (first | intro _ | with_reducible assumption | with_reducible apply keeps_onBus | with_reducible apply keeps_errReleaseWrite)

theorem keeps_execErrFirstClear (dt : Nat) (s t : State) (h : execErrFirstClear dt s = .next t) : Keeps s t := by
  have hk := keeps_elapse dt (keeps_refl s)
  unfold execErrFirstClear after at h
  injection h with e
  subst e
  repeat' (first | intro _ | with_reducible assumption | with_reducible apply keeps_onBus | with_reducible apply keeps_errFirstWrite)

theorem keeps_execClockLossOfLock (dt : Nat) (k : Fin 5) (s t : State) (h : execClockLossOfLock dt k s = .next t) : Keeps s t := by
  have hk := keeps_elapse dt (keeps_refl s)
  unfold execClockLossOfLock after at h
  injection h with e
  subst e
  repeat' (first | intro _ | with_reducible assumption | with_reducible apply keeps_clockLost)

theorem keeps_execControlMemoryError (dt : Nat) (cp : Fin 4) (s t : State) (h : execControlMemoryError dt cp s = .next t) : Keeps s t := by
  have hk := keeps_elapse dt (keeps_refl s)
  unfold execControlMemoryError after at h
  injection h with e
  subst e
  repeat' (first | intro _ | with_reducible assumption | with_reducible apply keeps_controlMemoryError)

theorem keeps_execCpWatchdogExpiry (dt : Nat) (cp : Fin 4) (s t : State) (h : execCpWatchdogExpiry dt cp s = .next t) : Keeps s t := by
  have hk := keeps_elapse dt (keeps_refl s)
  unfold execCpWatchdogExpiry after at h
  injection h with e
  subst e
  repeat' (first | intro _ | with_reducible assumption | with_reducible apply keeps_cpWatchdog)

theorem keeps_execFlrPf (dt : Nat) (s t : State) (h : execFlrPf dt s = .next t) : Keeps s t := by
  have hk := keeps_elapse dt (keeps_refl s)
  unfold execFlrPf after at h
  injection h with e
  subst e
  repeat' (first | intro _ | with_reducible assumption | with_reducible apply keeps_flrPf)

theorem keeps_execFlrVf (dt : Nat) (k : Fin 8) (s t : State) (h : execFlrVf dt k s = .next t) : Keeps s t := by
  have hk := keeps_elapse dt (keeps_refl s)
  unfold execFlrVf after at h
  injection h with e
  subst e
  repeat' (first | intro _ | with_reducible assumption | with_reducible apply keeps_flrVf)

theorem keeps_execVfEnableClear (dt : Nat) (s t : State) (h : execVfEnableClear dt s = .next t) : Keeps s t := by
  have hk := keeps_elapse dt (keeps_refl s)
  unfold execVfEnableClear after at h
  injection h with e
  subst e
  repeat' (first | intro _ | with_reducible assumption | with_reducible apply keeps_vfClear)

theorem keeps_execPoisonedTlpWrite (dt : Nat) (f : Fin 9) (s t : State) (h : execPoisonedTlpWrite dt f s = .next t) : Keeps s t := by
  have hk := keeps_elapse dt (keeps_refl s)
  unfold execPoisonedTlpWrite after at h
  injection h with e
  subst e
  repeat' (first | intro _ | with_reducible assumption | with_reducible apply keeps_poisonedWrite)

theorem keeps_execHostErrorCompletion (dt : Nat) (w : HostRead) (s t : State) (h : execHostErrorCompletion dt w s = .next t) : Keeps s t := by
  have hk := keeps_elapse dt (keeps_refl s)
  unfold execHostErrorCompletion after at h
  injection h with e
  subst e
  repeat' (first | intro _ | with_reducible assumption | with_reducible apply keeps_hostError)

theorem keeps_execConfigurationRequest (dt : Nat) (req : BitVec 64) (w : Option CfgWrite) (s t : State) (h : execConfigurationRequest dt req w s = .next t) : Keeps s t := by
  have hk := keeps_elapse dt (keeps_refl s)
  unfold execConfigurationRequest after at h
  injection h with e
  subst e
  repeat' (first | intro _ | with_reducible assumption | with_reducible apply keeps_configRequest)

theorem keeps_execPerstAssert (dt : Nat) (s t : State) (h : execPerstAssert dt s = .next t) : Keeps s t := by
  have hk := keeps_elapse dt (keeps_refl s)
  unfold execPerstAssert after at h
  injection h with e
  subst e
  repeat' (first | intro _ | with_reducible assumption | with_reducible apply keeps_perstAssert)

theorem keeps_execHotReset (dt : Nat) (s t : State) (h : execHotReset dt s = .next t) : Keeps s t := by
  have hk := keeps_elapse dt (keeps_refl s)
  unfold execHotReset after at h
  injection h with e
  subst e
  repeat' (first | intro _ | with_reducible assumption | with_reducible apply keeps_hotReset)

theorem keeps_execPorstAssert (dt : Nat) (s t : State) (h : execPorstAssert dt s = .next t) : Keeps s t := by
  have hk := keeps_elapse dt (keeps_refl s)
  unfold execPorstAssert after at h
  injection h with e
  subst e
  repeat' (first | intro _ | with_reducible assumption | with_reducible apply keeps_porstAssert)

theorem keeps_execRailDip (dt : Nat) (s t : State) (h : execRailDip dt s = .next t) : Keeps s t := by
  have hk := keeps_elapse dt (keeps_refl s)
  unfold execRailDip after at h
  injection h with e
  subst e
  repeat' (first | intro _ | with_reducible assumption | with_reducible apply keeps_railDip)

theorem keeps_execStartupBegin (dt : Nat) (pos : BitVec 3) (s t : State) (h : execStartupBegin dt pos s = .next t) : Keeps s t := by
  have hk := keeps_elapse dt (keeps_refl s)
  unfold execStartupBegin after at h
  injection h with e
  subst e
  repeat' (first | intro _ | with_reducible assumption | with_reducible apply keeps_startupBegin)

theorem keeps_execClocksLocked (dt : Nat) (s t : State) (h : execClocksLocked dt s = .next t) : Keeps s t := by
  have hk := keeps_elapse dt (keeps_refl s)
  unfold execClocksLocked after at h
  injection h with e
  subst e
  repeat' (first | intro _ | with_reducible assumption | with_reducible apply keeps_clocksLocked)

theorem keeps_execPllLockTimeout (dt : Nat) (s t : State) (h : execPllLockTimeout dt s = .next t) : Keeps s t := by
  have hk := keeps_elapse dt (keeps_refl s)
  unfold execPllLockTimeout after at h
  injection h with e
  subst e
  repeat' (first | intro _ | with_reducible assumption | with_reducible apply keeps_pllTimeout)

theorem keeps_execImageAccepted (dt : Nat) (a : FwImage) (b : FwImage) (selfTest : Bool) (s t : State) (h : execImageAccepted dt a b selfTest s = .next t) : Keeps s t := by
  have hk := keeps_elapse dt (keeps_refl s)
  unfold execImageAccepted after at h
  injection h with e
  subst e
  repeat' (first | intro _ | with_reducible assumption | with_reducible apply keeps_imageAccepted)

theorem keeps_execCpStartTimeout (dt : Nat) (cp : Fin 4) (s t : State) (h : execCpStartTimeout dt cp s = .next t) : Keeps s t := by
  have hk := keeps_elapse dt (keeps_refl s)
  unfold execCpStartTimeout after at h
  injection h with e
  subst e
  repeat' (first | intro _ | with_reducible assumption | with_reducible apply keeps_cpStartTimeout)

theorem keeps_execMemTrainingDone (dt : Nat) (failed : Byte) (s t : State) (h : execMemTrainingDone dt failed s = .next t) : Keeps s t := by
  have hk := keeps_elapse dt (keeps_refl s)
  unfold execMemTrainingDone after at h
  injection h with e
  subst e
  repeat' (first | intro _ | with_reducible assumption | with_reducible apply keeps_trainingDone)

theorem keeps_execMemInitDone (dt : Nat) (err : Option (Fin 8)) (s t : State) (h : execMemInitDone dt err s = .next t) : Keeps s t := by
  have hk := keeps_elapse dt (keeps_refl s)
  unfold execMemInitDone after at h
  injection h with e
  subst e
  repeat' (first | intro _ | with_reducible assumption | with_reducible apply keeps_memInitDone | with_reducible apply keeps_map)

theorem keeps_execStartupReady (dt : Nat) (s t : State) (h : execStartupReady dt s = .next t) : Keeps s t := by
  have hk := keeps_elapse dt (keeps_refl s)
  unfold execStartupReady after at h
  injection h with e
  subst e
  repeat' (first | intro _ | with_reducible assumption | with_reducible apply keeps_startupReady)

theorem keeps_execBypass (dt : Nat) (s t : State) (h : execBypass dt s = .next t) : Keeps s t := by
  have hk := keeps_elapse dt (keeps_refl s)
  unfold execBypass after at h
  injection h with e
  subst e
  repeat' (first | intro _ | with_reducible assumption | with_reducible apply keeps_tapBypass)

theorem keeps_execIdcode (dt : Nat) (s t : State) (h : execIdcode dt s = .next t) : Keeps s t := by
  have hk := keeps_elapse dt (keeps_refl s)
  unfold execIdcode after at h
  injection h with e
  subst e
  repeat' (first | intro _ | with_reducible assumption | with_reducible apply keeps_tapIdcode)

theorem keeps_execSamplePreload (dt : Nat) (levels : List Bool) (preload : List Bool) (s t : State) (h : execSamplePreload dt levels preload s = .next t) : Keeps s t := by
  have hk := keeps_elapse dt (keeps_refl s)
  unfold execSamplePreload after at h
  injection h with e
  subst e
  repeat' (first | intro _ | with_reducible assumption | with_reducible apply keeps_tapSample)

theorem keeps_execExtest (dt : Nat) (s t : State) (h : execExtest dt s = .next t) : Keeps s t := by
  have hk := keeps_elapse dt (keeps_refl s)
  unfold execExtest after at h
  injection h with e
  subst e
  repeat' (first | intro _ | with_reducible assumption | with_reducible apply keeps_tapExtest)

theorem keeps_execExtestPulse (dt : Nat) (s t : State) (h : execExtestPulse dt s = .next t) : Keeps s t := by
  have hk := keeps_elapse dt (keeps_refl s)
  unfold execExtestPulse after at h
  injection h with e
  subst e
  repeat' (first | intro _ | with_reducible assumption | with_reducible apply keeps_tapExtest)

theorem keeps_execExtestTrain (dt : Nat) (s t : State) (h : execExtestTrain dt s = .next t) : Keeps s t := by
  have hk := keeps_elapse dt (keeps_refl s)
  unfold execExtestTrain after at h
  injection h with e
  subst e
  repeat' (first | intro _ | with_reducible assumption | with_reducible apply keeps_tapExtest)

theorem keeps_execSmbPartId (dt : Nat) (s t : State) (h : execSmbPartId dt s = .next t) : Keeps s t := by
  have hk := keeps_elapse dt (keeps_refl s)
  unfold execSmbPartId after at h
  injection h with e
  subst e
  repeat' (first | intro _ | with_reducible assumption | with_reducible apply keeps_smbPart)

theorem keeps_execSmbBootStatus (dt : Nat) (s t : State) (h : execSmbBootStatus dt s = .next t) : Keeps s t := by
  have hk := keeps_elapse dt (keeps_refl s)
  unfold execSmbBootStatus after at h
  injection h with e
  subst e
  repeat' (first | intro _ | with_reducible assumption | with_reducible apply keeps_smbBoot)

theorem keeps_execSmbTemperature (dt : Nat) (s t : State) (h : execSmbTemperature dt s = .next t) : Keeps s t := by
  have hk := keeps_elapse dt (keeps_refl s)
  unfold execSmbTemperature after at h
  injection h with e
  subst e
  repeat' (first | intro _ | with_reducible assumption | with_reducible apply keeps_smbTemp)

theorem keeps_execSmbPower (dt : Nat) (s t : State) (h : execSmbPower dt s = .next t) : Keeps s t := by
  have hk := keeps_elapse dt (keeps_refl s)
  unfold execSmbPower after at h
  injection h with e
  subst e
  repeat' (first | intro _ | with_reducible assumption | with_reducible apply keeps_smbPower)

theorem keeps_execSmbGovernor (dt : Nat) (s t : State) (h : execSmbGovernor dt s = .next t) : Keeps s t := by
  have hk := keeps_elapse dt (keeps_refl s)
  unfold execSmbGovernor after at h
  injection h with e
  subst e
  repeat' (first | intro _ | with_reducible assumption | with_reducible apply keeps_smbGov)

theorem keeps_execSmbFatal (dt : Nat) (s t : State) (h : execSmbFatal dt s = .next t) : Keeps s t := by
  have hk := keeps_elapse dt (keeps_refl s)
  unfold execSmbFatal after at h
  injection h with e
  subst e
  repeat' (first | intro _ | with_reducible assumption | with_reducible apply keeps_smbFatal)

end Sys2Proof.Machine
end

