-- ==== Sys2Proof/Laws/Quiet.lean ====
section
/-! SUPPORT. The operations that log, reply, send and write memory: what they leave, in the form that simp takes. -/
set_option linter.all false
namespace Sys2Proof.Machine

/-! ### captureFirst -/

theorem State.captureFirst_within (s : State) (e : ErrEntry) : Within 0x600000000000000000000000000000000000000000000000000000000000000000000 s (s.captureFirst e) :=
  within_captureFirst e rfl (within_refl _ _)
@[simp] theorem State.captureFirst_time (s : State) (e : ErrEntry) : (s.captureFirst e).time = s.time := (s.captureFirst_within e).time rfl
@[simp] theorem State.captureFirst_ports (s : State) (e : ErrEntry) : (s.captureFirst e).ports = s.ports := (s.captureFirst_within e).ports rfl
@[simp] theorem State.captureFirst_tx (s : State) (e : ErrEntry) : (s.captureFirst e).tx = s.tx := (s.captureFirst_within e).tx rfl
@[simp] theorem State.captureFirst_cams (s : State) (e : ErrEntry) : (s.captureFirst e).cams = s.cams := (s.captureFirst_within e).cams rfl
@[simp] theorem State.captureFirst_frames (s : State) (e : ErrEntry) : (s.captureFirst e).frames = s.frames := (s.captureFirst_within e).frames rfl
@[simp] theorem State.captureFirst_cores (s : State) (e : ErrEntry) : (s.captureFirst e).cores = s.cores := (s.captureFirst_within e).cores rfl
@[simp] theorem State.captureFirst_hold (s : State) (e : ErrEntry) : (s.captureFirst e).hold = s.hold := (s.captureFirst_within e).hold rfl
@[simp] theorem State.captureFirst_adapt (s : State) (e : ErrEntry) : (s.captureFirst e).adapt = s.adapt := (s.captureFirst_within e).adapt rfl
@[simp] theorem State.captureFirst_sec (s : State) (e : ErrEntry) : (s.captureFirst e).sec = s.sec := (s.captureFirst_within e).sec rfl
@[simp] theorem State.captureFirst_boot (s : State) (e : ErrEntry) : (s.captureFirst e).boot = s.boot := (s.captureFirst_within e).boot rfl
@[simp] theorem State.captureFirst_groups (s : State) (e : ErrEntry) : (s.captureFirst e).groups = s.groups := (s.captureFirst_within e).groups rfl
@[simp] theorem State.captureFirst_fns (s : State) (e : ErrEntry) : (s.captureFirst e).fns = s.fns := (s.captureFirst_within e).fns rfl
@[simp] theorem State.captureFirst_sfl (s : State) (e : ErrEntry) : (s.captureFirst e).sfl = s.sfl := (s.captureFirst_within e).sfl rfl
@[simp] theorem State.captureFirst_chn (s : State) (e : ErrEntry) : (s.captureFirst e).chn = s.chn := (s.captureFirst_within e).chn rfl
@[simp] theorem State.captureFirst_log (s : State) (e : ErrEntry) : (s.captureFirst e).log = s.log := (s.captureFirst_within e).log rfl
@[simp] theorem State.captureFirst_fatal (s : State) (e : ErrEntry) : (s.captureFirst e).fatal = s.fatal := (s.captureFirst_within e).fatal rfl
@[simp] theorem State.captureFirst_mem (s : State) (e : ErrEntry) : (s.captureFirst e).mem = s.mem := (s.captureFirst_within e).mem rfl
@[simp] theorem State.captureFirst_out (s : State) (e : ErrEntry) : (s.captureFirst e).out = s.out := (s.captureFirst_within e).out rfl
@[simp] theorem State.captureFirst_free (s : State) (e : ErrEntry) : (s.captureFirst e).free = s.free := (s.captureFirst_within e).free rfl
@[simp] theorem State.captureFirst_port (s : State) (e : ErrEntry) (p' : Nat) : (s.captureFirst e).port p' = s.port p' := by
  unfold State.port; rw [(s.captureFirst_within e).ports rfl]
@[simp] theorem State.captureFirst_cam (s : State) (e : ErrEntry) (n' : Nat) : (s.captureFirst e).cam n' = s.cam n' := by
  unfold State.cam; rw [(s.captureFirst_within e).cams rfl]
@[simp] theorem State.captureFirst_frame (s : State) (e : ErrEntry) (n' q' : Nat) : (s.captureFirst e).frame n' q' = s.frame n' q' := by
  unfold State.frame; rw [(s.captureFirst_within e).frames rfl]
@[simp] theorem State.captureFirst_fn (s : State) (e : ErrEntry) (f' : Nat) : (s.captureFirst e).fn f' = s.fn f' := by
  unfold State.fn; rw [(s.captureFirst_within e).fns rfl]
@[simp] theorem State.captureFirst_queue (s : State) (e : ErrEntry) (f' q' : Nat) : (s.captureFirst e).queue f' q' = s.queue f' q' := by
  unfold State.queue State.fn; rw [(s.captureFirst_within e).fns rfl]
@[simp] theorem State.captureFirst_command (s : State) (e : ErrEntry) (c' : CmdRef) : (s.captureFirst e).command c' = s.command c' := by
  unfold State.command State.queue State.fn; rw [(s.captureFirst_within e).fns rfl]
@[simp] theorem State.captureFirst_core (s : State) (e : ErrEntry) (i' : Nat) : (s.captureFirst e).core i' = s.core i' := by
  unfold State.core; rw [(s.captureFirst_within e).cores rfl]
@[simp] theorem State.captureFirst_group (s : State) (e : ErrEntry) (g' : Nat) : (s.captureFirst e).group g' = s.group g' := by
  unfold State.group; rw [(s.captureFirst_within e).groups rfl]
@[simp] theorem State.captureFirst_now (s : State) (e : ErrEntry)  : (s.captureFirst e).now = s.now := by
  unfold State.now; rw [(s.captureFirst_within e).time rfl]
theorem State.captureFirst_reg (s : State) (e : ErrEntry) (r' : RegName) (i' : Nat) (hb : Nat.testBit 0x600000000000000000000000000000000000000000000000000000000000000000000 r'.ix = false) :
    (s.captureFirst e).reg r' i' = s.reg r' i' := (s.captureFirst_within e).reg r' i' hb
theorem State.captureFirst_regN (s : State) (e : ErrEntry) (r' : RegName) (i' : Nat) (hb : Nat.testBit 0x600000000000000000000000000000000000000000000000000000000000000000000 r'.ix = false) :
    (s.captureFirst e).regN r' i' = s.regN r' i' := (s.captureFirst_within e).regN r' i' hb
theorem State.captureFirst_fld (s : State) (e : ErrEntry) (f' : Fld) (i' : Nat) (hb : Nat.testBit 0x600000000000000000000000000000000000000000000000000000000000000000000 f'.reg.ix = false) :
    (s.captureFirst e).fld f' i' = s.fld f' i' := (s.captureFirst_within e).fld f' i' hb
theorem State.captureFirst_flag (s : State) (e : ErrEntry) (f' : Fld) (i' : Nat) (hb : Nat.testBit 0x600000000000000000000000000000000000000000000000000000000000000000000 f'.reg.ix = false) :
    (s.captureFirst e).flag f' i' = s.flag f' i' := (s.captureFirst_within e).flag f' i' hb

/-! ### logEvent -/

theorem State.logEvent_within (s : State) (cls : Nat) (src : Nat) (code : Nat) (info : Nat) (flags : Nat) : Within 0x24640000000000000000000000000000000000000000000000000000000000000240000 s (s.logEvent cls src code info flags) :=
  within_logEvent cls src code info flags rfl (within_refl _ _)
@[simp] theorem State.logEvent_time (s : State) (cls : Nat) (src : Nat) (code : Nat) (info : Nat) (flags : Nat) : (s.logEvent cls src code info flags).time = s.time := (s.logEvent_within cls src code info flags).time rfl
@[simp] theorem State.logEvent_ports (s : State) (cls : Nat) (src : Nat) (code : Nat) (info : Nat) (flags : Nat) : (s.logEvent cls src code info flags).ports = s.ports := (s.logEvent_within cls src code info flags).ports rfl
@[simp] theorem State.logEvent_tx (s : State) (cls : Nat) (src : Nat) (code : Nat) (info : Nat) (flags : Nat) : (s.logEvent cls src code info flags).tx = s.tx := (s.logEvent_within cls src code info flags).tx rfl
@[simp] theorem State.logEvent_cams (s : State) (cls : Nat) (src : Nat) (code : Nat) (info : Nat) (flags : Nat) : (s.logEvent cls src code info flags).cams = s.cams := (s.logEvent_within cls src code info flags).cams rfl
@[simp] theorem State.logEvent_frames (s : State) (cls : Nat) (src : Nat) (code : Nat) (info : Nat) (flags : Nat) : (s.logEvent cls src code info flags).frames = s.frames := (s.logEvent_within cls src code info flags).frames rfl
@[simp] theorem State.logEvent_cores (s : State) (cls : Nat) (src : Nat) (code : Nat) (info : Nat) (flags : Nat) : (s.logEvent cls src code info flags).cores = s.cores := (s.logEvent_within cls src code info flags).cores rfl
@[simp] theorem State.logEvent_hold (s : State) (cls : Nat) (src : Nat) (code : Nat) (info : Nat) (flags : Nat) : (s.logEvent cls src code info flags).hold = s.hold := (s.logEvent_within cls src code info flags).hold rfl
@[simp] theorem State.logEvent_adapt (s : State) (cls : Nat) (src : Nat) (code : Nat) (info : Nat) (flags : Nat) : (s.logEvent cls src code info flags).adapt = s.adapt := (s.logEvent_within cls src code info flags).adapt rfl
@[simp] theorem State.logEvent_sec (s : State) (cls : Nat) (src : Nat) (code : Nat) (info : Nat) (flags : Nat) : (s.logEvent cls src code info flags).sec = s.sec := (s.logEvent_within cls src code info flags).sec rfl
@[simp] theorem State.logEvent_boot (s : State) (cls : Nat) (src : Nat) (code : Nat) (info : Nat) (flags : Nat) : (s.logEvent cls src code info flags).boot = s.boot := (s.logEvent_within cls src code info flags).boot rfl
@[simp] theorem State.logEvent_groups (s : State) (cls : Nat) (src : Nat) (code : Nat) (info : Nat) (flags : Nat) : (s.logEvent cls src code info flags).groups = s.groups := (s.logEvent_within cls src code info flags).groups rfl
@[simp] theorem State.logEvent_fns (s : State) (cls : Nat) (src : Nat) (code : Nat) (info : Nat) (flags : Nat) : (s.logEvent cls src code info flags).fns = s.fns := (s.logEvent_within cls src code info flags).fns rfl
@[simp] theorem State.logEvent_sfl (s : State) (cls : Nat) (src : Nat) (code : Nat) (info : Nat) (flags : Nat) : (s.logEvent cls src code info flags).sfl = s.sfl := (s.logEvent_within cls src code info flags).sfl rfl
@[simp] theorem State.logEvent_chn (s : State) (cls : Nat) (src : Nat) (code : Nat) (info : Nat) (flags : Nat) : (s.logEvent cls src code info flags).chn = s.chn := (s.logEvent_within cls src code info flags).chn rfl
@[simp] theorem State.logEvent_fatal (s : State) (cls : Nat) (src : Nat) (code : Nat) (info : Nat) (flags : Nat) : (s.logEvent cls src code info flags).fatal = s.fatal := (s.logEvent_within cls src code info flags).fatal rfl
@[simp] theorem State.logEvent_mem (s : State) (cls : Nat) (src : Nat) (code : Nat) (info : Nat) (flags : Nat) : (s.logEvent cls src code info flags).mem = s.mem := (s.logEvent_within cls src code info flags).mem rfl
@[simp] theorem State.logEvent_free (s : State) (cls : Nat) (src : Nat) (code : Nat) (info : Nat) (flags : Nat) : (s.logEvent cls src code info flags).free = s.free := (s.logEvent_within cls src code info flags).free rfl
@[simp] theorem State.logEvent_port (s : State) (cls : Nat) (src : Nat) (code : Nat) (info : Nat) (flags : Nat) (p' : Nat) : (s.logEvent cls src code info flags).port p' = s.port p' := by
  unfold State.port; rw [(s.logEvent_within cls src code info flags).ports rfl]
@[simp] theorem State.logEvent_cam (s : State) (cls : Nat) (src : Nat) (code : Nat) (info : Nat) (flags : Nat) (n' : Nat) : (s.logEvent cls src code info flags).cam n' = s.cam n' := by
  unfold State.cam; rw [(s.logEvent_within cls src code info flags).cams rfl]
@[simp] theorem State.logEvent_frame (s : State) (cls : Nat) (src : Nat) (code : Nat) (info : Nat) (flags : Nat) (n' q' : Nat) : (s.logEvent cls src code info flags).frame n' q' = s.frame n' q' := by
  unfold State.frame; rw [(s.logEvent_within cls src code info flags).frames rfl]
@[simp] theorem State.logEvent_fn (s : State) (cls : Nat) (src : Nat) (code : Nat) (info : Nat) (flags : Nat) (f' : Nat) : (s.logEvent cls src code info flags).fn f' = s.fn f' := by
  unfold State.fn; rw [(s.logEvent_within cls src code info flags).fns rfl]
@[simp] theorem State.logEvent_queue (s : State) (cls : Nat) (src : Nat) (code : Nat) (info : Nat) (flags : Nat) (f' q' : Nat) : (s.logEvent cls src code info flags).queue f' q' = s.queue f' q' := by
  unfold State.queue State.fn; rw [(s.logEvent_within cls src code info flags).fns rfl]
@[simp] theorem State.logEvent_command (s : State) (cls : Nat) (src : Nat) (code : Nat) (info : Nat) (flags : Nat) (c' : CmdRef) : (s.logEvent cls src code info flags).command c' = s.command c' := by
  unfold State.command State.queue State.fn; rw [(s.logEvent_within cls src code info flags).fns rfl]
@[simp] theorem State.logEvent_core (s : State) (cls : Nat) (src : Nat) (code : Nat) (info : Nat) (flags : Nat) (i' : Nat) : (s.logEvent cls src code info flags).core i' = s.core i' := by
  unfold State.core; rw [(s.logEvent_within cls src code info flags).cores rfl]
@[simp] theorem State.logEvent_group (s : State) (cls : Nat) (src : Nat) (code : Nat) (info : Nat) (flags : Nat) (g' : Nat) : (s.logEvent cls src code info flags).group g' = s.group g' := by
  unfold State.group; rw [(s.logEvent_within cls src code info flags).groups rfl]
@[simp] theorem State.logEvent_now (s : State) (cls : Nat) (src : Nat) (code : Nat) (info : Nat) (flags : Nat)  : (s.logEvent cls src code info flags).now = s.now := by
  unfold State.now; rw [(s.logEvent_within cls src code info flags).time rfl]
theorem State.logEvent_reg (s : State) (cls : Nat) (src : Nat) (code : Nat) (info : Nat) (flags : Nat) (r' : RegName) (i' : Nat) (hb : Nat.testBit 0x24640000000000000000000000000000000000000000000000000000000000000240000 r'.ix = false) :
    (s.logEvent cls src code info flags).reg r' i' = s.reg r' i' := (s.logEvent_within cls src code info flags).reg r' i' hb
theorem State.logEvent_regN (s : State) (cls : Nat) (src : Nat) (code : Nat) (info : Nat) (flags : Nat) (r' : RegName) (i' : Nat) (hb : Nat.testBit 0x24640000000000000000000000000000000000000000000000000000000000000240000 r'.ix = false) :
    (s.logEvent cls src code info flags).regN r' i' = s.regN r' i' := (s.logEvent_within cls src code info flags).regN r' i' hb
theorem State.logEvent_fld (s : State) (cls : Nat) (src : Nat) (code : Nat) (info : Nat) (flags : Nat) (f' : Fld) (i' : Nat) (hb : Nat.testBit 0x24640000000000000000000000000000000000000000000000000000000000000240000 f'.reg.ix = false) :
    (s.logEvent cls src code info flags).fld f' i' = s.fld f' i' := (s.logEvent_within cls src code info flags).fld f' i' hb
theorem State.logEvent_flag (s : State) (cls : Nat) (src : Nat) (code : Nat) (info : Nat) (flags : Nat) (f' : Fld) (i' : Nat) (hb : Nat.testBit 0x24640000000000000000000000000000000000000000000000000000000000000240000 f'.reg.ix = false) :
    (s.logEvent cls src code info flags).flag f' i' = s.flag f' i' := (s.logEvent_within cls src code info flags).flag f' i' hb

/-! ### traceEv -/

theorem State.traceEv_within (s : State) (group : Nat) (typ : Nat) (src : Nat) (arg : Nat) : Within 0x20000000000000000000000000000000000000000000000000000000000000000040000 s (s.traceEv group typ src arg) :=
  within_traceEv group typ src arg rfl (within_refl _ _)
@[simp] theorem State.traceEv_time (s : State) (group : Nat) (typ : Nat) (src : Nat) (arg : Nat) : (s.traceEv group typ src arg).time = s.time := (s.traceEv_within group typ src arg).time rfl
@[simp] theorem State.traceEv_ports (s : State) (group : Nat) (typ : Nat) (src : Nat) (arg : Nat) : (s.traceEv group typ src arg).ports = s.ports := (s.traceEv_within group typ src arg).ports rfl
@[simp] theorem State.traceEv_tx (s : State) (group : Nat) (typ : Nat) (src : Nat) (arg : Nat) : (s.traceEv group typ src arg).tx = s.tx := (s.traceEv_within group typ src arg).tx rfl
@[simp] theorem State.traceEv_cams (s : State) (group : Nat) (typ : Nat) (src : Nat) (arg : Nat) : (s.traceEv group typ src arg).cams = s.cams := (s.traceEv_within group typ src arg).cams rfl
@[simp] theorem State.traceEv_frames (s : State) (group : Nat) (typ : Nat) (src : Nat) (arg : Nat) : (s.traceEv group typ src arg).frames = s.frames := (s.traceEv_within group typ src arg).frames rfl
@[simp] theorem State.traceEv_cores (s : State) (group : Nat) (typ : Nat) (src : Nat) (arg : Nat) : (s.traceEv group typ src arg).cores = s.cores := (s.traceEv_within group typ src arg).cores rfl
@[simp] theorem State.traceEv_hold (s : State) (group : Nat) (typ : Nat) (src : Nat) (arg : Nat) : (s.traceEv group typ src arg).hold = s.hold := (s.traceEv_within group typ src arg).hold rfl
@[simp] theorem State.traceEv_adapt (s : State) (group : Nat) (typ : Nat) (src : Nat) (arg : Nat) : (s.traceEv group typ src arg).adapt = s.adapt := (s.traceEv_within group typ src arg).adapt rfl
@[simp] theorem State.traceEv_sec (s : State) (group : Nat) (typ : Nat) (src : Nat) (arg : Nat) : (s.traceEv group typ src arg).sec = s.sec := (s.traceEv_within group typ src arg).sec rfl
@[simp] theorem State.traceEv_boot (s : State) (group : Nat) (typ : Nat) (src : Nat) (arg : Nat) : (s.traceEv group typ src arg).boot = s.boot := (s.traceEv_within group typ src arg).boot rfl
@[simp] theorem State.traceEv_groups (s : State) (group : Nat) (typ : Nat) (src : Nat) (arg : Nat) : (s.traceEv group typ src arg).groups = s.groups := (s.traceEv_within group typ src arg).groups rfl
@[simp] theorem State.traceEv_fns (s : State) (group : Nat) (typ : Nat) (src : Nat) (arg : Nat) : (s.traceEv group typ src arg).fns = s.fns := (s.traceEv_within group typ src arg).fns rfl
@[simp] theorem State.traceEv_sfl (s : State) (group : Nat) (typ : Nat) (src : Nat) (arg : Nat) : (s.traceEv group typ src arg).sfl = s.sfl := (s.traceEv_within group typ src arg).sfl rfl
@[simp] theorem State.traceEv_chn (s : State) (group : Nat) (typ : Nat) (src : Nat) (arg : Nat) : (s.traceEv group typ src arg).chn = s.chn := (s.traceEv_within group typ src arg).chn rfl
@[simp] theorem State.traceEv_fatal (s : State) (group : Nat) (typ : Nat) (src : Nat) (arg : Nat) : (s.traceEv group typ src arg).fatal = s.fatal := (s.traceEv_within group typ src arg).fatal rfl
@[simp] theorem State.traceEv_mem (s : State) (group : Nat) (typ : Nat) (src : Nat) (arg : Nat) : (s.traceEv group typ src arg).mem = s.mem := (s.traceEv_within group typ src arg).mem rfl
@[simp] theorem State.traceEv_out (s : State) (group : Nat) (typ : Nat) (src : Nat) (arg : Nat) : (s.traceEv group typ src arg).out = s.out := (s.traceEv_within group typ src arg).out rfl
@[simp] theorem State.traceEv_free (s : State) (group : Nat) (typ : Nat) (src : Nat) (arg : Nat) : (s.traceEv group typ src arg).free = s.free := (s.traceEv_within group typ src arg).free rfl
@[simp] theorem State.traceEv_port (s : State) (group : Nat) (typ : Nat) (src : Nat) (arg : Nat) (p' : Nat) : (s.traceEv group typ src arg).port p' = s.port p' := by
  unfold State.port; rw [(s.traceEv_within group typ src arg).ports rfl]
@[simp] theorem State.traceEv_cam (s : State) (group : Nat) (typ : Nat) (src : Nat) (arg : Nat) (n' : Nat) : (s.traceEv group typ src arg).cam n' = s.cam n' := by
  unfold State.cam; rw [(s.traceEv_within group typ src arg).cams rfl]
@[simp] theorem State.traceEv_frame (s : State) (group : Nat) (typ : Nat) (src : Nat) (arg : Nat) (n' q' : Nat) : (s.traceEv group typ src arg).frame n' q' = s.frame n' q' := by
  unfold State.frame; rw [(s.traceEv_within group typ src arg).frames rfl]
@[simp] theorem State.traceEv_fn (s : State) (group : Nat) (typ : Nat) (src : Nat) (arg : Nat) (f' : Nat) : (s.traceEv group typ src arg).fn f' = s.fn f' := by
  unfold State.fn; rw [(s.traceEv_within group typ src arg).fns rfl]
@[simp] theorem State.traceEv_queue (s : State) (group : Nat) (typ : Nat) (src : Nat) (arg : Nat) (f' q' : Nat) : (s.traceEv group typ src arg).queue f' q' = s.queue f' q' := by
  unfold State.queue State.fn; rw [(s.traceEv_within group typ src arg).fns rfl]
@[simp] theorem State.traceEv_command (s : State) (group : Nat) (typ : Nat) (src : Nat) (arg : Nat) (c' : CmdRef) : (s.traceEv group typ src arg).command c' = s.command c' := by
  unfold State.command State.queue State.fn; rw [(s.traceEv_within group typ src arg).fns rfl]
@[simp] theorem State.traceEv_core (s : State) (group : Nat) (typ : Nat) (src : Nat) (arg : Nat) (i' : Nat) : (s.traceEv group typ src arg).core i' = s.core i' := by
  unfold State.core; rw [(s.traceEv_within group typ src arg).cores rfl]
@[simp] theorem State.traceEv_group (s : State) (group : Nat) (typ : Nat) (src : Nat) (arg : Nat) (g' : Nat) : (s.traceEv group typ src arg).group g' = s.group g' := by
  unfold State.group; rw [(s.traceEv_within group typ src arg).groups rfl]
@[simp] theorem State.traceEv_now (s : State) (group : Nat) (typ : Nat) (src : Nat) (arg : Nat)  : (s.traceEv group typ src arg).now = s.now := by
  unfold State.now; rw [(s.traceEv_within group typ src arg).time rfl]
theorem State.traceEv_reg (s : State) (group : Nat) (typ : Nat) (src : Nat) (arg : Nat) (r' : RegName) (i' : Nat) (hb : Nat.testBit 0x20000000000000000000000000000000000000000000000000000000000000000040000 r'.ix = false) :
    (s.traceEv group typ src arg).reg r' i' = s.reg r' i' := (s.traceEv_within group typ src arg).reg r' i' hb
theorem State.traceEv_regN (s : State) (group : Nat) (typ : Nat) (src : Nat) (arg : Nat) (r' : RegName) (i' : Nat) (hb : Nat.testBit 0x20000000000000000000000000000000000000000000000000000000000000000040000 r'.ix = false) :
    (s.traceEv group typ src arg).regN r' i' = s.regN r' i' := (s.traceEv_within group typ src arg).regN r' i' hb
theorem State.traceEv_fld (s : State) (group : Nat) (typ : Nat) (src : Nat) (arg : Nat) (f' : Fld) (i' : Nat) (hb : Nat.testBit 0x20000000000000000000000000000000000000000000000000000000000000000040000 f'.reg.ix = false) :
    (s.traceEv group typ src arg).fld f' i' = s.fld f' i' := (s.traceEv_within group typ src arg).fld f' i' hb
theorem State.traceEv_flag (s : State) (group : Nat) (typ : Nat) (src : Nat) (arg : Nat) (f' : Fld) (i' : Nat) (hb : Nat.testBit 0x20000000000000000000000000000000000000000000000000000000000000000040000 f'.reg.ix = false) :
    (s.traceEv group typ src arg).flag f' i' = s.flag f' i' := (s.traceEv_within group typ src arg).flag f' i' hb

/-! ### aerError -/

theorem State.aerError_within (s : State) (fn : Nat) : Within 0x24640000000000000000000000000000000000000000000000000000000000000240000 s (s.aerError fn) :=
  within_aerError fn rfl (within_refl _ _)
@[simp] theorem State.aerError_time (s : State) (fn : Nat) : (s.aerError fn).time = s.time := (s.aerError_within fn).time rfl
@[simp] theorem State.aerError_ports (s : State) (fn : Nat) : (s.aerError fn).ports = s.ports := (s.aerError_within fn).ports rfl
@[simp] theorem State.aerError_tx (s : State) (fn : Nat) : (s.aerError fn).tx = s.tx := (s.aerError_within fn).tx rfl
@[simp] theorem State.aerError_cams (s : State) (fn : Nat) : (s.aerError fn).cams = s.cams := (s.aerError_within fn).cams rfl
@[simp] theorem State.aerError_frames (s : State) (fn : Nat) : (s.aerError fn).frames = s.frames := (s.aerError_within fn).frames rfl
@[simp] theorem State.aerError_cores (s : State) (fn : Nat) : (s.aerError fn).cores = s.cores := (s.aerError_within fn).cores rfl
@[simp] theorem State.aerError_hold (s : State) (fn : Nat) : (s.aerError fn).hold = s.hold := (s.aerError_within fn).hold rfl
@[simp] theorem State.aerError_adapt (s : State) (fn : Nat) : (s.aerError fn).adapt = s.adapt := (s.aerError_within fn).adapt rfl
@[simp] theorem State.aerError_sec (s : State) (fn : Nat) : (s.aerError fn).sec = s.sec := (s.aerError_within fn).sec rfl
@[simp] theorem State.aerError_boot (s : State) (fn : Nat) : (s.aerError fn).boot = s.boot := (s.aerError_within fn).boot rfl
@[simp] theorem State.aerError_groups (s : State) (fn : Nat) : (s.aerError fn).groups = s.groups := (s.aerError_within fn).groups rfl
@[simp] theorem State.aerError_fns (s : State) (fn : Nat) : (s.aerError fn).fns = s.fns := (s.aerError_within fn).fns rfl
@[simp] theorem State.aerError_sfl (s : State) (fn : Nat) : (s.aerError fn).sfl = s.sfl := (s.aerError_within fn).sfl rfl
@[simp] theorem State.aerError_chn (s : State) (fn : Nat) : (s.aerError fn).chn = s.chn := (s.aerError_within fn).chn rfl
@[simp] theorem State.aerError_fatal (s : State) (fn : Nat) : (s.aerError fn).fatal = s.fatal := (s.aerError_within fn).fatal rfl
@[simp] theorem State.aerError_mem (s : State) (fn : Nat) : (s.aerError fn).mem = s.mem := (s.aerError_within fn).mem rfl
@[simp] theorem State.aerError_free (s : State) (fn : Nat) : (s.aerError fn).free = s.free := (s.aerError_within fn).free rfl
@[simp] theorem State.aerError_port (s : State) (fn : Nat) (p' : Nat) : (s.aerError fn).port p' = s.port p' := by
  unfold State.port; rw [(s.aerError_within fn).ports rfl]
@[simp] theorem State.aerError_cam (s : State) (fn : Nat) (n' : Nat) : (s.aerError fn).cam n' = s.cam n' := by
  unfold State.cam; rw [(s.aerError_within fn).cams rfl]
@[simp] theorem State.aerError_frame (s : State) (fn : Nat) (n' q' : Nat) : (s.aerError fn).frame n' q' = s.frame n' q' := by
  unfold State.frame; rw [(s.aerError_within fn).frames rfl]
@[simp] theorem State.aerError_fn (s : State) (fn : Nat) (f' : Nat) : (s.aerError fn).fn f' = s.fn f' := by
  unfold State.fn; rw [(s.aerError_within fn).fns rfl]
@[simp] theorem State.aerError_queue (s : State) (fn : Nat) (f' q' : Nat) : (s.aerError fn).queue f' q' = s.queue f' q' := by
  unfold State.queue State.fn; rw [(s.aerError_within fn).fns rfl]
@[simp] theorem State.aerError_command (s : State) (fn : Nat) (c' : CmdRef) : (s.aerError fn).command c' = s.command c' := by
  unfold State.command State.queue State.fn; rw [(s.aerError_within fn).fns rfl]
@[simp] theorem State.aerError_core (s : State) (fn : Nat) (i' : Nat) : (s.aerError fn).core i' = s.core i' := by
  unfold State.core; rw [(s.aerError_within fn).cores rfl]
@[simp] theorem State.aerError_group (s : State) (fn : Nat) (g' : Nat) : (s.aerError fn).group g' = s.group g' := by
  unfold State.group; rw [(s.aerError_within fn).groups rfl]
@[simp] theorem State.aerError_now (s : State) (fn : Nat)  : (s.aerError fn).now = s.now := by
  unfold State.now; rw [(s.aerError_within fn).time rfl]
theorem State.aerError_reg (s : State) (fn : Nat) (r' : RegName) (i' : Nat) (hb : Nat.testBit 0x24640000000000000000000000000000000000000000000000000000000000000240000 r'.ix = false) :
    (s.aerError fn).reg r' i' = s.reg r' i' := (s.aerError_within fn).reg r' i' hb
theorem State.aerError_regN (s : State) (fn : Nat) (r' : RegName) (i' : Nat) (hb : Nat.testBit 0x24640000000000000000000000000000000000000000000000000000000000000240000 r'.ix = false) :
    (s.aerError fn).regN r' i' = s.regN r' i' := (s.aerError_within fn).regN r' i' hb
theorem State.aerError_fld (s : State) (fn : Nat) (f' : Fld) (i' : Nat) (hb : Nat.testBit 0x24640000000000000000000000000000000000000000000000000000000000000240000 f'.reg.ix = false) :
    (s.aerError fn).fld f' i' = s.fld f' i' := (s.aerError_within fn).fld f' i' hb
theorem State.aerError_flag (s : State) (fn : Nat) (f' : Fld) (i' : Nat) (hb : Nat.testBit 0x24640000000000000000000000000000000000000000000000000000000000000240000 f'.reg.ix = false) :
    (s.aerError fn).flag f' i' = s.flag f' i' := (s.aerError_within fn).flag f' i' hb

/-! ### hostWrite -/

theorem State.hostWrite_within (s : State) (fn : Nat) (addr : Nat) (bytes : List Byte) : Within 0x24640000000000000000400000000000000000000000000000000000000000000240000 s (s.hostWrite fn addr bytes) :=
  within_hostWrite fn addr bytes rfl (within_refl _ _)
@[simp] theorem State.hostWrite_time (s : State) (fn : Nat) (addr : Nat) (bytes : List Byte) : (s.hostWrite fn addr bytes).time = s.time := (s.hostWrite_within fn addr bytes).time rfl
@[simp] theorem State.hostWrite_ports (s : State) (fn : Nat) (addr : Nat) (bytes : List Byte) : (s.hostWrite fn addr bytes).ports = s.ports := (s.hostWrite_within fn addr bytes).ports rfl
@[simp] theorem State.hostWrite_tx (s : State) (fn : Nat) (addr : Nat) (bytes : List Byte) : (s.hostWrite fn addr bytes).tx = s.tx := (s.hostWrite_within fn addr bytes).tx rfl
@[simp] theorem State.hostWrite_cams (s : State) (fn : Nat) (addr : Nat) (bytes : List Byte) : (s.hostWrite fn addr bytes).cams = s.cams := (s.hostWrite_within fn addr bytes).cams rfl
@[simp] theorem State.hostWrite_frames (s : State) (fn : Nat) (addr : Nat) (bytes : List Byte) : (s.hostWrite fn addr bytes).frames = s.frames := (s.hostWrite_within fn addr bytes).frames rfl
@[simp] theorem State.hostWrite_cores (s : State) (fn : Nat) (addr : Nat) (bytes : List Byte) : (s.hostWrite fn addr bytes).cores = s.cores := (s.hostWrite_within fn addr bytes).cores rfl
@[simp] theorem State.hostWrite_hold (s : State) (fn : Nat) (addr : Nat) (bytes : List Byte) : (s.hostWrite fn addr bytes).hold = s.hold := (s.hostWrite_within fn addr bytes).hold rfl
@[simp] theorem State.hostWrite_adapt (s : State) (fn : Nat) (addr : Nat) (bytes : List Byte) : (s.hostWrite fn addr bytes).adapt = s.adapt := (s.hostWrite_within fn addr bytes).adapt rfl
@[simp] theorem State.hostWrite_sec (s : State) (fn : Nat) (addr : Nat) (bytes : List Byte) : (s.hostWrite fn addr bytes).sec = s.sec := (s.hostWrite_within fn addr bytes).sec rfl
@[simp] theorem State.hostWrite_boot (s : State) (fn : Nat) (addr : Nat) (bytes : List Byte) : (s.hostWrite fn addr bytes).boot = s.boot := (s.hostWrite_within fn addr bytes).boot rfl
@[simp] theorem State.hostWrite_groups (s : State) (fn : Nat) (addr : Nat) (bytes : List Byte) : (s.hostWrite fn addr bytes).groups = s.groups := (s.hostWrite_within fn addr bytes).groups rfl
@[simp] theorem State.hostWrite_fns (s : State) (fn : Nat) (addr : Nat) (bytes : List Byte) : (s.hostWrite fn addr bytes).fns = s.fns := (s.hostWrite_within fn addr bytes).fns rfl
@[simp] theorem State.hostWrite_sfl (s : State) (fn : Nat) (addr : Nat) (bytes : List Byte) : (s.hostWrite fn addr bytes).sfl = s.sfl := (s.hostWrite_within fn addr bytes).sfl rfl
@[simp] theorem State.hostWrite_chn (s : State) (fn : Nat) (addr : Nat) (bytes : List Byte) : (s.hostWrite fn addr bytes).chn = s.chn := (s.hostWrite_within fn addr bytes).chn rfl
@[simp] theorem State.hostWrite_fatal (s : State) (fn : Nat) (addr : Nat) (bytes : List Byte) : (s.hostWrite fn addr bytes).fatal = s.fatal := (s.hostWrite_within fn addr bytes).fatal rfl
@[simp] theorem State.hostWrite_mem (s : State) (fn : Nat) (addr : Nat) (bytes : List Byte) : (s.hostWrite fn addr bytes).mem = s.mem := (s.hostWrite_within fn addr bytes).mem rfl
@[simp] theorem State.hostWrite_free (s : State) (fn : Nat) (addr : Nat) (bytes : List Byte) : (s.hostWrite fn addr bytes).free = s.free := (s.hostWrite_within fn addr bytes).free rfl
@[simp] theorem State.hostWrite_port (s : State) (fn : Nat) (addr : Nat) (bytes : List Byte) (p' : Nat) : (s.hostWrite fn addr bytes).port p' = s.port p' := by
  unfold State.port; rw [(s.hostWrite_within fn addr bytes).ports rfl]
@[simp] theorem State.hostWrite_cam (s : State) (fn : Nat) (addr : Nat) (bytes : List Byte) (n' : Nat) : (s.hostWrite fn addr bytes).cam n' = s.cam n' := by
  unfold State.cam; rw [(s.hostWrite_within fn addr bytes).cams rfl]
@[simp] theorem State.hostWrite_frame (s : State) (fn : Nat) (addr : Nat) (bytes : List Byte) (n' q' : Nat) : (s.hostWrite fn addr bytes).frame n' q' = s.frame n' q' := by
  unfold State.frame; rw [(s.hostWrite_within fn addr bytes).frames rfl]
@[simp] theorem State.hostWrite_fn (s : State) (fn : Nat) (addr : Nat) (bytes : List Byte) (f' : Nat) : (s.hostWrite fn addr bytes).fn f' = s.fn f' := by
  unfold State.fn; rw [(s.hostWrite_within fn addr bytes).fns rfl]
@[simp] theorem State.hostWrite_queue (s : State) (fn : Nat) (addr : Nat) (bytes : List Byte) (f' q' : Nat) : (s.hostWrite fn addr bytes).queue f' q' = s.queue f' q' := by
  unfold State.queue State.fn; rw [(s.hostWrite_within fn addr bytes).fns rfl]
@[simp] theorem State.hostWrite_command (s : State) (fn : Nat) (addr : Nat) (bytes : List Byte) (c' : CmdRef) : (s.hostWrite fn addr bytes).command c' = s.command c' := by
  unfold State.command State.queue State.fn; rw [(s.hostWrite_within fn addr bytes).fns rfl]
@[simp] theorem State.hostWrite_core (s : State) (fn : Nat) (addr : Nat) (bytes : List Byte) (i' : Nat) : (s.hostWrite fn addr bytes).core i' = s.core i' := by
  unfold State.core; rw [(s.hostWrite_within fn addr bytes).cores rfl]
@[simp] theorem State.hostWrite_group (s : State) (fn : Nat) (addr : Nat) (bytes : List Byte) (g' : Nat) : (s.hostWrite fn addr bytes).group g' = s.group g' := by
  unfold State.group; rw [(s.hostWrite_within fn addr bytes).groups rfl]
@[simp] theorem State.hostWrite_now (s : State) (fn : Nat) (addr : Nat) (bytes : List Byte)  : (s.hostWrite fn addr bytes).now = s.now := by
  unfold State.now; rw [(s.hostWrite_within fn addr bytes).time rfl]
theorem State.hostWrite_reg (s : State) (fn : Nat) (addr : Nat) (bytes : List Byte) (r' : RegName) (i' : Nat) (hb : Nat.testBit 0x24640000000000000000400000000000000000000000000000000000000000000240000 r'.ix = false) :
    (s.hostWrite fn addr bytes).reg r' i' = s.reg r' i' := (s.hostWrite_within fn addr bytes).reg r' i' hb
theorem State.hostWrite_regN (s : State) (fn : Nat) (addr : Nat) (bytes : List Byte) (r' : RegName) (i' : Nat) (hb : Nat.testBit 0x24640000000000000000400000000000000000000000000000000000000000000240000 r'.ix = false) :
    (s.hostWrite fn addr bytes).regN r' i' = s.regN r' i' := (s.hostWrite_within fn addr bytes).regN r' i' hb
theorem State.hostWrite_fld (s : State) (fn : Nat) (addr : Nat) (bytes : List Byte) (f' : Fld) (i' : Nat) (hb : Nat.testBit 0x24640000000000000000400000000000000000000000000000000000000000000240000 f'.reg.ix = false) :
    (s.hostWrite fn addr bytes).fld f' i' = s.fld f' i' := (s.hostWrite_within fn addr bytes).fld f' i' hb
theorem State.hostWrite_flag (s : State) (fn : Nat) (addr : Nat) (bytes : List Byte) (f' : Fld) (i' : Nat) (hb : Nat.testBit 0x24640000000000000000400000000000000000000000000000000000000000000240000 f'.reg.ix = false) :
    (s.hostWrite fn addr bytes).flag f' i' = s.flag f' i' := (s.hostWrite_within fn addr bytes).flag f' i' hb

/-! ### ringWrite -/

theorem State.ringWrite_within (s : State) (fn : Nat) (addr : Nat) (bytes : List Byte) : Within 0x24640000000000000000400000000000000000000000000000000000000000000240000 s (s.ringWrite fn addr bytes) :=
  within_ringWrite fn addr bytes rfl (within_refl _ _)
@[simp] theorem State.ringWrite_time (s : State) (fn : Nat) (addr : Nat) (bytes : List Byte) : (s.ringWrite fn addr bytes).time = s.time := (s.ringWrite_within fn addr bytes).time rfl
@[simp] theorem State.ringWrite_ports (s : State) (fn : Nat) (addr : Nat) (bytes : List Byte) : (s.ringWrite fn addr bytes).ports = s.ports := (s.ringWrite_within fn addr bytes).ports rfl
@[simp] theorem State.ringWrite_tx (s : State) (fn : Nat) (addr : Nat) (bytes : List Byte) : (s.ringWrite fn addr bytes).tx = s.tx := (s.ringWrite_within fn addr bytes).tx rfl
@[simp] theorem State.ringWrite_cams (s : State) (fn : Nat) (addr : Nat) (bytes : List Byte) : (s.ringWrite fn addr bytes).cams = s.cams := (s.ringWrite_within fn addr bytes).cams rfl
@[simp] theorem State.ringWrite_frames (s : State) (fn : Nat) (addr : Nat) (bytes : List Byte) : (s.ringWrite fn addr bytes).frames = s.frames := (s.ringWrite_within fn addr bytes).frames rfl
@[simp] theorem State.ringWrite_cores (s : State) (fn : Nat) (addr : Nat) (bytes : List Byte) : (s.ringWrite fn addr bytes).cores = s.cores := (s.ringWrite_within fn addr bytes).cores rfl
@[simp] theorem State.ringWrite_hold (s : State) (fn : Nat) (addr : Nat) (bytes : List Byte) : (s.ringWrite fn addr bytes).hold = s.hold := (s.ringWrite_within fn addr bytes).hold rfl
@[simp] theorem State.ringWrite_adapt (s : State) (fn : Nat) (addr : Nat) (bytes : List Byte) : (s.ringWrite fn addr bytes).adapt = s.adapt := (s.ringWrite_within fn addr bytes).adapt rfl
@[simp] theorem State.ringWrite_sec (s : State) (fn : Nat) (addr : Nat) (bytes : List Byte) : (s.ringWrite fn addr bytes).sec = s.sec := (s.ringWrite_within fn addr bytes).sec rfl
@[simp] theorem State.ringWrite_boot (s : State) (fn : Nat) (addr : Nat) (bytes : List Byte) : (s.ringWrite fn addr bytes).boot = s.boot := (s.ringWrite_within fn addr bytes).boot rfl
@[simp] theorem State.ringWrite_groups (s : State) (fn : Nat) (addr : Nat) (bytes : List Byte) : (s.ringWrite fn addr bytes).groups = s.groups := (s.ringWrite_within fn addr bytes).groups rfl
@[simp] theorem State.ringWrite_fns (s : State) (fn : Nat) (addr : Nat) (bytes : List Byte) : (s.ringWrite fn addr bytes).fns = s.fns := (s.ringWrite_within fn addr bytes).fns rfl
@[simp] theorem State.ringWrite_sfl (s : State) (fn : Nat) (addr : Nat) (bytes : List Byte) : (s.ringWrite fn addr bytes).sfl = s.sfl := (s.ringWrite_within fn addr bytes).sfl rfl
@[simp] theorem State.ringWrite_chn (s : State) (fn : Nat) (addr : Nat) (bytes : List Byte) : (s.ringWrite fn addr bytes).chn = s.chn := (s.ringWrite_within fn addr bytes).chn rfl
@[simp] theorem State.ringWrite_fatal (s : State) (fn : Nat) (addr : Nat) (bytes : List Byte) : (s.ringWrite fn addr bytes).fatal = s.fatal := (s.ringWrite_within fn addr bytes).fatal rfl
@[simp] theorem State.ringWrite_mem (s : State) (fn : Nat) (addr : Nat) (bytes : List Byte) : (s.ringWrite fn addr bytes).mem = s.mem := (s.ringWrite_within fn addr bytes).mem rfl
@[simp] theorem State.ringWrite_free (s : State) (fn : Nat) (addr : Nat) (bytes : List Byte) : (s.ringWrite fn addr bytes).free = s.free := (s.ringWrite_within fn addr bytes).free rfl
@[simp] theorem State.ringWrite_port (s : State) (fn : Nat) (addr : Nat) (bytes : List Byte) (p' : Nat) : (s.ringWrite fn addr bytes).port p' = s.port p' := by
  unfold State.port; rw [(s.ringWrite_within fn addr bytes).ports rfl]
@[simp] theorem State.ringWrite_cam (s : State) (fn : Nat) (addr : Nat) (bytes : List Byte) (n' : Nat) : (s.ringWrite fn addr bytes).cam n' = s.cam n' := by
  unfold State.cam; rw [(s.ringWrite_within fn addr bytes).cams rfl]
@[simp] theorem State.ringWrite_frame (s : State) (fn : Nat) (addr : Nat) (bytes : List Byte) (n' q' : Nat) : (s.ringWrite fn addr bytes).frame n' q' = s.frame n' q' := by
  unfold State.frame; rw [(s.ringWrite_within fn addr bytes).frames rfl]
@[simp] theorem State.ringWrite_fn (s : State) (fn : Nat) (addr : Nat) (bytes : List Byte) (f' : Nat) : (s.ringWrite fn addr bytes).fn f' = s.fn f' := by
  unfold State.fn; rw [(s.ringWrite_within fn addr bytes).fns rfl]
@[simp] theorem State.ringWrite_queue (s : State) (fn : Nat) (addr : Nat) (bytes : List Byte) (f' q' : Nat) : (s.ringWrite fn addr bytes).queue f' q' = s.queue f' q' := by
  unfold State.queue State.fn; rw [(s.ringWrite_within fn addr bytes).fns rfl]
@[simp] theorem State.ringWrite_command (s : State) (fn : Nat) (addr : Nat) (bytes : List Byte) (c' : CmdRef) : (s.ringWrite fn addr bytes).command c' = s.command c' := by
  unfold State.command State.queue State.fn; rw [(s.ringWrite_within fn addr bytes).fns rfl]
@[simp] theorem State.ringWrite_core (s : State) (fn : Nat) (addr : Nat) (bytes : List Byte) (i' : Nat) : (s.ringWrite fn addr bytes).core i' = s.core i' := by
  unfold State.core; rw [(s.ringWrite_within fn addr bytes).cores rfl]
@[simp] theorem State.ringWrite_group (s : State) (fn : Nat) (addr : Nat) (bytes : List Byte) (g' : Nat) : (s.ringWrite fn addr bytes).group g' = s.group g' := by
  unfold State.group; rw [(s.ringWrite_within fn addr bytes).groups rfl]
@[simp] theorem State.ringWrite_now (s : State) (fn : Nat) (addr : Nat) (bytes : List Byte)  : (s.ringWrite fn addr bytes).now = s.now := by
  unfold State.now; rw [(s.ringWrite_within fn addr bytes).time rfl]
theorem State.ringWrite_reg (s : State) (fn : Nat) (addr : Nat) (bytes : List Byte) (r' : RegName) (i' : Nat) (hb : Nat.testBit 0x24640000000000000000400000000000000000000000000000000000000000000240000 r'.ix = false) :
    (s.ringWrite fn addr bytes).reg r' i' = s.reg r' i' := (s.ringWrite_within fn addr bytes).reg r' i' hb
theorem State.ringWrite_regN (s : State) (fn : Nat) (addr : Nat) (bytes : List Byte) (r' : RegName) (i' : Nat) (hb : Nat.testBit 0x24640000000000000000400000000000000000000000000000000000000000000240000 r'.ix = false) :
    (s.ringWrite fn addr bytes).regN r' i' = s.regN r' i' := (s.ringWrite_within fn addr bytes).regN r' i' hb
theorem State.ringWrite_fld (s : State) (fn : Nat) (addr : Nat) (bytes : List Byte) (f' : Fld) (i' : Nat) (hb : Nat.testBit 0x24640000000000000000400000000000000000000000000000000000000000000240000 f'.reg.ix = false) :
    (s.ringWrite fn addr bytes).fld f' i' = s.fld f' i' := (s.ringWrite_within fn addr bytes).fld f' i' hb
theorem State.ringWrite_flag (s : State) (fn : Nat) (addr : Nat) (bytes : List Byte) (f' : Fld) (i' : Nat) (hb : Nat.testBit 0x24640000000000000000400000000000000000000000000000000000000000000240000 f'.reg.ix = false) :
    (s.ringWrite fn addr bytes).flag f' i' = s.flag f' i' := (s.ringWrite_within fn addr bytes).flag f' i' hb

/-! ### event -/

theorem State.event_within (s : State) (fn : Nat) (typ : Nat) (a : Nat) (b : Nat) : Within 0x24640000000000000100400000000000000000000000000000000000000000000240000 s (s.event fn typ a b) :=
  within_event fn typ a b rfl (within_refl _ _)
@[simp] theorem State.event_time (s : State) (fn : Nat) (typ : Nat) (a : Nat) (b : Nat) : (s.event fn typ a b).time = s.time := (s.event_within fn typ a b).time rfl
@[simp] theorem State.event_ports (s : State) (fn : Nat) (typ : Nat) (a : Nat) (b : Nat) : (s.event fn typ a b).ports = s.ports := (s.event_within fn typ a b).ports rfl
@[simp] theorem State.event_tx (s : State) (fn : Nat) (typ : Nat) (a : Nat) (b : Nat) : (s.event fn typ a b).tx = s.tx := (s.event_within fn typ a b).tx rfl
@[simp] theorem State.event_cams (s : State) (fn : Nat) (typ : Nat) (a : Nat) (b : Nat) : (s.event fn typ a b).cams = s.cams := (s.event_within fn typ a b).cams rfl
@[simp] theorem State.event_frames (s : State) (fn : Nat) (typ : Nat) (a : Nat) (b : Nat) : (s.event fn typ a b).frames = s.frames := (s.event_within fn typ a b).frames rfl
@[simp] theorem State.event_cores (s : State) (fn : Nat) (typ : Nat) (a : Nat) (b : Nat) : (s.event fn typ a b).cores = s.cores := (s.event_within fn typ a b).cores rfl
@[simp] theorem State.event_hold (s : State) (fn : Nat) (typ : Nat) (a : Nat) (b : Nat) : (s.event fn typ a b).hold = s.hold := (s.event_within fn typ a b).hold rfl
@[simp] theorem State.event_adapt (s : State) (fn : Nat) (typ : Nat) (a : Nat) (b : Nat) : (s.event fn typ a b).adapt = s.adapt := (s.event_within fn typ a b).adapt rfl
@[simp] theorem State.event_sec (s : State) (fn : Nat) (typ : Nat) (a : Nat) (b : Nat) : (s.event fn typ a b).sec = s.sec := (s.event_within fn typ a b).sec rfl
@[simp] theorem State.event_boot (s : State) (fn : Nat) (typ : Nat) (a : Nat) (b : Nat) : (s.event fn typ a b).boot = s.boot := (s.event_within fn typ a b).boot rfl
@[simp] theorem State.event_groups (s : State) (fn : Nat) (typ : Nat) (a : Nat) (b : Nat) : (s.event fn typ a b).groups = s.groups := (s.event_within fn typ a b).groups rfl
@[simp] theorem State.event_fns (s : State) (fn : Nat) (typ : Nat) (a : Nat) (b : Nat) : (s.event fn typ a b).fns = s.fns := (s.event_within fn typ a b).fns rfl
@[simp] theorem State.event_sfl (s : State) (fn : Nat) (typ : Nat) (a : Nat) (b : Nat) : (s.event fn typ a b).sfl = s.sfl := (s.event_within fn typ a b).sfl rfl
@[simp] theorem State.event_chn (s : State) (fn : Nat) (typ : Nat) (a : Nat) (b : Nat) : (s.event fn typ a b).chn = s.chn := (s.event_within fn typ a b).chn rfl
@[simp] theorem State.event_fatal (s : State) (fn : Nat) (typ : Nat) (a : Nat) (b : Nat) : (s.event fn typ a b).fatal = s.fatal := (s.event_within fn typ a b).fatal rfl
@[simp] theorem State.event_mem (s : State) (fn : Nat) (typ : Nat) (a : Nat) (b : Nat) : (s.event fn typ a b).mem = s.mem := (s.event_within fn typ a b).mem rfl
@[simp] theorem State.event_free (s : State) (fn : Nat) (typ : Nat) (a : Nat) (b : Nat) : (s.event fn typ a b).free = s.free := (s.event_within fn typ a b).free rfl
@[simp] theorem State.event_port (s : State) (fn : Nat) (typ : Nat) (a : Nat) (b : Nat) (p' : Nat) : (s.event fn typ a b).port p' = s.port p' := by
  unfold State.port; rw [(s.event_within fn typ a b).ports rfl]
@[simp] theorem State.event_cam (s : State) (fn : Nat) (typ : Nat) (a : Nat) (b : Nat) (n' : Nat) : (s.event fn typ a b).cam n' = s.cam n' := by
  unfold State.cam; rw [(s.event_within fn typ a b).cams rfl]
@[simp] theorem State.event_frame (s : State) (fn : Nat) (typ : Nat) (a : Nat) (b : Nat) (n' q' : Nat) : (s.event fn typ a b).frame n' q' = s.frame n' q' := by
  unfold State.frame; rw [(s.event_within fn typ a b).frames rfl]
@[simp] theorem State.event_fn (s : State) (fn : Nat) (typ : Nat) (a : Nat) (b : Nat) (f' : Nat) : (s.event fn typ a b).fn f' = s.fn f' := by
  unfold State.fn; rw [(s.event_within fn typ a b).fns rfl]
@[simp] theorem State.event_queue (s : State) (fn : Nat) (typ : Nat) (a : Nat) (b : Nat) (f' q' : Nat) : (s.event fn typ a b).queue f' q' = s.queue f' q' := by
  unfold State.queue State.fn; rw [(s.event_within fn typ a b).fns rfl]
@[simp] theorem State.event_command (s : State) (fn : Nat) (typ : Nat) (a : Nat) (b : Nat) (c' : CmdRef) : (s.event fn typ a b).command c' = s.command c' := by
  unfold State.command State.queue State.fn; rw [(s.event_within fn typ a b).fns rfl]
@[simp] theorem State.event_core (s : State) (fn : Nat) (typ : Nat) (a : Nat) (b : Nat) (i' : Nat) : (s.event fn typ a b).core i' = s.core i' := by
  unfold State.core; rw [(s.event_within fn typ a b).cores rfl]
@[simp] theorem State.event_group (s : State) (fn : Nat) (typ : Nat) (a : Nat) (b : Nat) (g' : Nat) : (s.event fn typ a b).group g' = s.group g' := by
  unfold State.group; rw [(s.event_within fn typ a b).groups rfl]
@[simp] theorem State.event_now (s : State) (fn : Nat) (typ : Nat) (a : Nat) (b : Nat)  : (s.event fn typ a b).now = s.now := by
  unfold State.now; rw [(s.event_within fn typ a b).time rfl]
theorem State.event_reg (s : State) (fn : Nat) (typ : Nat) (a : Nat) (b : Nat) (r' : RegName) (i' : Nat) (hb : Nat.testBit 0x24640000000000000100400000000000000000000000000000000000000000000240000 r'.ix = false) :
    (s.event fn typ a b).reg r' i' = s.reg r' i' := (s.event_within fn typ a b).reg r' i' hb
theorem State.event_regN (s : State) (fn : Nat) (typ : Nat) (a : Nat) (b : Nat) (r' : RegName) (i' : Nat) (hb : Nat.testBit 0x24640000000000000100400000000000000000000000000000000000000000000240000 r'.ix = false) :
    (s.event fn typ a b).regN r' i' = s.regN r' i' := (s.event_within fn typ a b).regN r' i' hb
theorem State.event_fld (s : State) (fn : Nat) (typ : Nat) (a : Nat) (b : Nat) (f' : Fld) (i' : Nat) (hb : Nat.testBit 0x24640000000000000100400000000000000000000000000000000000000000000240000 f'.reg.ix = false) :
    (s.event fn typ a b).fld f' i' = s.fld f' i' := (s.event_within fn typ a b).fld f' i' hb
theorem State.event_flag (s : State) (fn : Nat) (typ : Nat) (a : Nat) (b : Nat) (f' : Fld) (i' : Nat) (hb : Nat.testBit 0x24640000000000000100400000000000000000000000000000000000000000000240000 f'.reg.ix = false) :
    (s.event fn typ a b).flag f' i' = s.flag f' i' := (s.event_within fn typ a b).flag f' i' hb

/-! ### setIdle -/

theorem State.setIdle_within (s : State) (f : Nat) (q : Nat) : Within 0x10000000000000000000000000000000000000000000000000000 s (s.setIdle f q) :=
  within_setIdle f q rfl (within_refl _ _)
@[simp] theorem State.setIdle_time (s : State) (f : Nat) (q : Nat) : (s.setIdle f q).time = s.time := (s.setIdle_within f q).time rfl
@[simp] theorem State.setIdle_ports (s : State) (f : Nat) (q : Nat) : (s.setIdle f q).ports = s.ports := (s.setIdle_within f q).ports rfl
@[simp] theorem State.setIdle_tx (s : State) (f : Nat) (q : Nat) : (s.setIdle f q).tx = s.tx := (s.setIdle_within f q).tx rfl
@[simp] theorem State.setIdle_cams (s : State) (f : Nat) (q : Nat) : (s.setIdle f q).cams = s.cams := (s.setIdle_within f q).cams rfl
@[simp] theorem State.setIdle_frames (s : State) (f : Nat) (q : Nat) : (s.setIdle f q).frames = s.frames := (s.setIdle_within f q).frames rfl
@[simp] theorem State.setIdle_cores (s : State) (f : Nat) (q : Nat) : (s.setIdle f q).cores = s.cores := (s.setIdle_within f q).cores rfl
@[simp] theorem State.setIdle_hold (s : State) (f : Nat) (q : Nat) : (s.setIdle f q).hold = s.hold := (s.setIdle_within f q).hold rfl
@[simp] theorem State.setIdle_adapt (s : State) (f : Nat) (q : Nat) : (s.setIdle f q).adapt = s.adapt := (s.setIdle_within f q).adapt rfl
@[simp] theorem State.setIdle_sec (s : State) (f : Nat) (q : Nat) : (s.setIdle f q).sec = s.sec := (s.setIdle_within f q).sec rfl
@[simp] theorem State.setIdle_boot (s : State) (f : Nat) (q : Nat) : (s.setIdle f q).boot = s.boot := (s.setIdle_within f q).boot rfl
@[simp] theorem State.setIdle_groups (s : State) (f : Nat) (q : Nat) : (s.setIdle f q).groups = s.groups := (s.setIdle_within f q).groups rfl
@[simp] theorem State.setIdle_fns (s : State) (f : Nat) (q : Nat) : (s.setIdle f q).fns = s.fns := (s.setIdle_within f q).fns rfl
@[simp] theorem State.setIdle_sfl (s : State) (f : Nat) (q : Nat) : (s.setIdle f q).sfl = s.sfl := (s.setIdle_within f q).sfl rfl
@[simp] theorem State.setIdle_chn (s : State) (f : Nat) (q : Nat) : (s.setIdle f q).chn = s.chn := (s.setIdle_within f q).chn rfl
@[simp] theorem State.setIdle_log (s : State) (f : Nat) (q : Nat) : (s.setIdle f q).log = s.log := (s.setIdle_within f q).log rfl
@[simp] theorem State.setIdle_fatal (s : State) (f : Nat) (q : Nat) : (s.setIdle f q).fatal = s.fatal := (s.setIdle_within f q).fatal rfl
@[simp] theorem State.setIdle_mem (s : State) (f : Nat) (q : Nat) : (s.setIdle f q).mem = s.mem := (s.setIdle_within f q).mem rfl
@[simp] theorem State.setIdle_out (s : State) (f : Nat) (q : Nat) : (s.setIdle f q).out = s.out := (s.setIdle_within f q).out rfl
@[simp] theorem State.setIdle_free (s : State) (f : Nat) (q : Nat) : (s.setIdle f q).free = s.free := (s.setIdle_within f q).free rfl
@[simp] theorem State.setIdle_port (s : State) (f : Nat) (q : Nat) (p' : Nat) : (s.setIdle f q).port p' = s.port p' := by
  unfold State.port; rw [(s.setIdle_within f q).ports rfl]
@[simp] theorem State.setIdle_cam (s : State) (f : Nat) (q : Nat) (n' : Nat) : (s.setIdle f q).cam n' = s.cam n' := by
  unfold State.cam; rw [(s.setIdle_within f q).cams rfl]
@[simp] theorem State.setIdle_frame (s : State) (f : Nat) (q : Nat) (n' q' : Nat) : (s.setIdle f q).frame n' q' = s.frame n' q' := by
  unfold State.frame; rw [(s.setIdle_within f q).frames rfl]
@[simp] theorem State.setIdle_fn (s : State) (f : Nat) (q : Nat) (f' : Nat) : (s.setIdle f q).fn f' = s.fn f' := by
  unfold State.fn; rw [(s.setIdle_within f q).fns rfl]
@[simp] theorem State.setIdle_queue (s : State) (f : Nat) (q : Nat) (f' q' : Nat) : (s.setIdle f q).queue f' q' = s.queue f' q' := by
  unfold State.queue State.fn; rw [(s.setIdle_within f q).fns rfl]
@[simp] theorem State.setIdle_command (s : State) (f : Nat) (q : Nat) (c' : CmdRef) : (s.setIdle f q).command c' = s.command c' := by
  unfold State.command State.queue State.fn; rw [(s.setIdle_within f q).fns rfl]
@[simp] theorem State.setIdle_core (s : State) (f : Nat) (q : Nat) (i' : Nat) : (s.setIdle f q).core i' = s.core i' := by
  unfold State.core; rw [(s.setIdle_within f q).cores rfl]
@[simp] theorem State.setIdle_group (s : State) (f : Nat) (q : Nat) (g' : Nat) : (s.setIdle f q).group g' = s.group g' := by
  unfold State.group; rw [(s.setIdle_within f q).groups rfl]
@[simp] theorem State.setIdle_now (s : State) (f : Nat) (q : Nat)  : (s.setIdle f q).now = s.now := by
  unfold State.now; rw [(s.setIdle_within f q).time rfl]
theorem State.setIdle_reg (s : State) (f : Nat) (q : Nat) (r' : RegName) (i' : Nat) (hb : Nat.testBit 0x10000000000000000000000000000000000000000000000000000 r'.ix = false) :
    (s.setIdle f q).reg r' i' = s.reg r' i' := (s.setIdle_within f q).reg r' i' hb
theorem State.setIdle_regN (s : State) (f : Nat) (q : Nat) (r' : RegName) (i' : Nat) (hb : Nat.testBit 0x10000000000000000000000000000000000000000000000000000 r'.ix = false) :
    (s.setIdle f q).regN r' i' = s.regN r' i' := (s.setIdle_within f q).regN r' i' hb
theorem State.setIdle_fld (s : State) (f : Nat) (q : Nat) (f' : Fld) (i' : Nat) (hb : Nat.testBit 0x10000000000000000000000000000000000000000000000000000 f'.reg.ix = false) :
    (s.setIdle f q).fld f' i' = s.fld f' i' := (s.setIdle_within f q).fld f' i' hb
theorem State.setIdle_flag (s : State) (f : Nat) (q : Nat) (f' : Fld) (i' : Nat) (hb : Nat.testBit 0x10000000000000000000000000000000000000000000000000000 f'.reg.ix = false) :
    (s.setIdle f q).flag f' i' = s.flag f' i' := (s.setIdle_within f q).flag f' i' hb

/-! ### reply -/

theorem State.reply_within (s : State) (c : CmdRef) (status : Nat) (detail : Nat) (q0 : Nat) (q1 : Nat) : Within 0x24640000000000000010400000000000000000000000000000000000000000000245000 s (s.reply c status detail q0 q1) :=
  within_reply c status detail q0 q1 rfl (within_refl _ _)
@[simp] theorem State.reply_time (s : State) (c : CmdRef) (status : Nat) (detail : Nat) (q0 : Nat) (q1 : Nat) : (s.reply c status detail q0 q1).time = s.time := (s.reply_within c status detail q0 q1).time rfl
@[simp] theorem State.reply_ports (s : State) (c : CmdRef) (status : Nat) (detail : Nat) (q0 : Nat) (q1 : Nat) : (s.reply c status detail q0 q1).ports = s.ports := (s.reply_within c status detail q0 q1).ports rfl
@[simp] theorem State.reply_tx (s : State) (c : CmdRef) (status : Nat) (detail : Nat) (q0 : Nat) (q1 : Nat) : (s.reply c status detail q0 q1).tx = s.tx := (s.reply_within c status detail q0 q1).tx rfl
@[simp] theorem State.reply_cams (s : State) (c : CmdRef) (status : Nat) (detail : Nat) (q0 : Nat) (q1 : Nat) : (s.reply c status detail q0 q1).cams = s.cams := (s.reply_within c status detail q0 q1).cams rfl
@[simp] theorem State.reply_frames (s : State) (c : CmdRef) (status : Nat) (detail : Nat) (q0 : Nat) (q1 : Nat) : (s.reply c status detail q0 q1).frames = s.frames := (s.reply_within c status detail q0 q1).frames rfl
@[simp] theorem State.reply_cores (s : State) (c : CmdRef) (status : Nat) (detail : Nat) (q0 : Nat) (q1 : Nat) : (s.reply c status detail q0 q1).cores = s.cores := (s.reply_within c status detail q0 q1).cores rfl
@[simp] theorem State.reply_hold (s : State) (c : CmdRef) (status : Nat) (detail : Nat) (q0 : Nat) (q1 : Nat) : (s.reply c status detail q0 q1).hold = s.hold := (s.reply_within c status detail q0 q1).hold rfl
@[simp] theorem State.reply_adapt (s : State) (c : CmdRef) (status : Nat) (detail : Nat) (q0 : Nat) (q1 : Nat) : (s.reply c status detail q0 q1).adapt = s.adapt := (s.reply_within c status detail q0 q1).adapt rfl
@[simp] theorem State.reply_sec (s : State) (c : CmdRef) (status : Nat) (detail : Nat) (q0 : Nat) (q1 : Nat) : (s.reply c status detail q0 q1).sec = s.sec := (s.reply_within c status detail q0 q1).sec rfl
@[simp] theorem State.reply_groups (s : State) (c : CmdRef) (status : Nat) (detail : Nat) (q0 : Nat) (q1 : Nat) : (s.reply c status detail q0 q1).groups = s.groups := (s.reply_within c status detail q0 q1).groups rfl
@[simp] theorem State.reply_sfl (s : State) (c : CmdRef) (status : Nat) (detail : Nat) (q0 : Nat) (q1 : Nat) : (s.reply c status detail q0 q1).sfl = s.sfl := (s.reply_within c status detail q0 q1).sfl rfl
@[simp] theorem State.reply_chn (s : State) (c : CmdRef) (status : Nat) (detail : Nat) (q0 : Nat) (q1 : Nat) : (s.reply c status detail q0 q1).chn = s.chn := (s.reply_within c status detail q0 q1).chn rfl
@[simp] theorem State.reply_fatal (s : State) (c : CmdRef) (status : Nat) (detail : Nat) (q0 : Nat) (q1 : Nat) : (s.reply c status detail q0 q1).fatal = s.fatal := (s.reply_within c status detail q0 q1).fatal rfl
@[simp] theorem State.reply_mem (s : State) (c : CmdRef) (status : Nat) (detail : Nat) (q0 : Nat) (q1 : Nat) : (s.reply c status detail q0 q1).mem = s.mem := (s.reply_within c status detail q0 q1).mem rfl
@[simp] theorem State.reply_free (s : State) (c : CmdRef) (status : Nat) (detail : Nat) (q0 : Nat) (q1 : Nat) : (s.reply c status detail q0 q1).free = s.free := (s.reply_within c status detail q0 q1).free rfl
@[simp] theorem State.reply_port (s : State) (c : CmdRef) (status : Nat) (detail : Nat) (q0 : Nat) (q1 : Nat) (p' : Nat) : (s.reply c status detail q0 q1).port p' = s.port p' := by
  unfold State.port; rw [(s.reply_within c status detail q0 q1).ports rfl]
@[simp] theorem State.reply_cam (s : State) (c : CmdRef) (status : Nat) (detail : Nat) (q0 : Nat) (q1 : Nat) (n' : Nat) : (s.reply c status detail q0 q1).cam n' = s.cam n' := by
  unfold State.cam; rw [(s.reply_within c status detail q0 q1).cams rfl]
@[simp] theorem State.reply_frame (s : State) (c : CmdRef) (status : Nat) (detail : Nat) (q0 : Nat) (q1 : Nat) (n' q' : Nat) : (s.reply c status detail q0 q1).frame n' q' = s.frame n' q' := by
  unfold State.frame; rw [(s.reply_within c status detail q0 q1).frames rfl]
@[simp] theorem State.reply_core (s : State) (c : CmdRef) (status : Nat) (detail : Nat) (q0 : Nat) (q1 : Nat) (i' : Nat) : (s.reply c status detail q0 q1).core i' = s.core i' := by
  unfold State.core; rw [(s.reply_within c status detail q0 q1).cores rfl]
@[simp] theorem State.reply_group (s : State) (c : CmdRef) (status : Nat) (detail : Nat) (q0 : Nat) (q1 : Nat) (g' : Nat) : (s.reply c status detail q0 q1).group g' = s.group g' := by
  unfold State.group; rw [(s.reply_within c status detail q0 q1).groups rfl]
@[simp] theorem State.reply_now (s : State) (c : CmdRef) (status : Nat) (detail : Nat) (q0 : Nat) (q1 : Nat)  : (s.reply c status detail q0 q1).now = s.now := by
  unfold State.now; rw [(s.reply_within c status detail q0 q1).time rfl]
theorem State.reply_reg (s : State) (c : CmdRef) (status : Nat) (detail : Nat) (q0 : Nat) (q1 : Nat) (r' : RegName) (i' : Nat) (hb : Nat.testBit 0x24640000000000000010400000000000000000000000000000000000000000000245000 r'.ix = false) :
    (s.reply c status detail q0 q1).reg r' i' = s.reg r' i' := (s.reply_within c status detail q0 q1).reg r' i' hb
theorem State.reply_regN (s : State) (c : CmdRef) (status : Nat) (detail : Nat) (q0 : Nat) (q1 : Nat) (r' : RegName) (i' : Nat) (hb : Nat.testBit 0x24640000000000000010400000000000000000000000000000000000000000000245000 r'.ix = false) :
    (s.reply c status detail q0 q1).regN r' i' = s.regN r' i' := (s.reply_within c status detail q0 q1).regN r' i' hb
theorem State.reply_fld (s : State) (c : CmdRef) (status : Nat) (detail : Nat) (q0 : Nat) (q1 : Nat) (f' : Fld) (i' : Nat) (hb : Nat.testBit 0x24640000000000000010400000000000000000000000000000000000000000000245000 f'.reg.ix = false) :
    (s.reply c status detail q0 q1).fld f' i' = s.fld f' i' := (s.reply_within c status detail q0 q1).fld f' i' hb
theorem State.reply_flag (s : State) (c : CmdRef) (status : Nat) (detail : Nat) (q0 : Nat) (q1 : Nat) (f' : Fld) (i' : Nat) (hb : Nat.testBit 0x24640000000000000010400000000000000000000000000000000000000000000245000 f'.reg.ix = false) :
    (s.reply c status detail q0 q1).flag f' i' = s.flag f' i' := (s.reply_within c status detail q0 q1).flag f' i' hb

/-! ### sendAck -/

theorem State.sendAck_within (s : State) (p : Nat) : Within 0x18 s (s.sendAck p) :=
  within_sendAck p rfl (within_refl _ _)
@[simp] theorem State.sendAck_time (s : State) (p : Nat) : (s.sendAck p).time = s.time := (s.sendAck_within p).time rfl
@[simp] theorem State.sendAck_cams (s : State) (p : Nat) : (s.sendAck p).cams = s.cams := (s.sendAck_within p).cams rfl
@[simp] theorem State.sendAck_frames (s : State) (p : Nat) : (s.sendAck p).frames = s.frames := (s.sendAck_within p).frames rfl
@[simp] theorem State.sendAck_cores (s : State) (p : Nat) : (s.sendAck p).cores = s.cores := (s.sendAck_within p).cores rfl
@[simp] theorem State.sendAck_hold (s : State) (p : Nat) : (s.sendAck p).hold = s.hold := (s.sendAck_within p).hold rfl
@[simp] theorem State.sendAck_adapt (s : State) (p : Nat) : (s.sendAck p).adapt = s.adapt := (s.sendAck_within p).adapt rfl
@[simp] theorem State.sendAck_sec (s : State) (p : Nat) : (s.sendAck p).sec = s.sec := (s.sendAck_within p).sec rfl
@[simp] theorem State.sendAck_boot (s : State) (p : Nat) : (s.sendAck p).boot = s.boot := (s.sendAck_within p).boot rfl
@[simp] theorem State.sendAck_groups (s : State) (p : Nat) : (s.sendAck p).groups = s.groups := (s.sendAck_within p).groups rfl
@[simp] theorem State.sendAck_fns (s : State) (p : Nat) : (s.sendAck p).fns = s.fns := (s.sendAck_within p).fns rfl
@[simp] theorem State.sendAck_sfl (s : State) (p : Nat) : (s.sendAck p).sfl = s.sfl := (s.sendAck_within p).sfl rfl
@[simp] theorem State.sendAck_chn (s : State) (p : Nat) : (s.sendAck p).chn = s.chn := (s.sendAck_within p).chn rfl
@[simp] theorem State.sendAck_log (s : State) (p : Nat) : (s.sendAck p).log = s.log := (s.sendAck_within p).log rfl
@[simp] theorem State.sendAck_fatal (s : State) (p : Nat) : (s.sendAck p).fatal = s.fatal := (s.sendAck_within p).fatal rfl
@[simp] theorem State.sendAck_mem (s : State) (p : Nat) : (s.sendAck p).mem = s.mem := (s.sendAck_within p).mem rfl
@[simp] theorem State.sendAck_out (s : State) (p : Nat) : (s.sendAck p).out = s.out := (s.sendAck_within p).out rfl
@[simp] theorem State.sendAck_free (s : State) (p : Nat) : (s.sendAck p).free = s.free := (s.sendAck_within p).free rfl
@[simp] theorem State.sendAck_cam (s : State) (p : Nat) (n' : Nat) : (s.sendAck p).cam n' = s.cam n' := by
  unfold State.cam; rw [(s.sendAck_within p).cams rfl]
@[simp] theorem State.sendAck_frame (s : State) (p : Nat) (n' q' : Nat) : (s.sendAck p).frame n' q' = s.frame n' q' := by
  unfold State.frame; rw [(s.sendAck_within p).frames rfl]
@[simp] theorem State.sendAck_fn (s : State) (p : Nat) (f' : Nat) : (s.sendAck p).fn f' = s.fn f' := by
  unfold State.fn; rw [(s.sendAck_within p).fns rfl]
@[simp] theorem State.sendAck_queue (s : State) (p : Nat) (f' q' : Nat) : (s.sendAck p).queue f' q' = s.queue f' q' := by
  unfold State.queue State.fn; rw [(s.sendAck_within p).fns rfl]
@[simp] theorem State.sendAck_command (s : State) (p : Nat) (c' : CmdRef) : (s.sendAck p).command c' = s.command c' := by
  unfold State.command State.queue State.fn; rw [(s.sendAck_within p).fns rfl]
@[simp] theorem State.sendAck_core (s : State) (p : Nat) (i' : Nat) : (s.sendAck p).core i' = s.core i' := by
  unfold State.core; rw [(s.sendAck_within p).cores rfl]
@[simp] theorem State.sendAck_group (s : State) (p : Nat) (g' : Nat) : (s.sendAck p).group g' = s.group g' := by
  unfold State.group; rw [(s.sendAck_within p).groups rfl]
@[simp] theorem State.sendAck_now (s : State) (p : Nat)  : (s.sendAck p).now = s.now := by
  unfold State.now; rw [(s.sendAck_within p).time rfl]
theorem State.sendAck_reg (s : State) (p : Nat) (r' : RegName) (i' : Nat) (hb : Nat.testBit 0x18 r'.ix = false) :
    (s.sendAck p).reg r' i' = s.reg r' i' := (s.sendAck_within p).reg r' i' hb
theorem State.sendAck_regN (s : State) (p : Nat) (r' : RegName) (i' : Nat) (hb : Nat.testBit 0x18 r'.ix = false) :
    (s.sendAck p).regN r' i' = s.regN r' i' := (s.sendAck_within p).regN r' i' hb
theorem State.sendAck_fld (s : State) (p : Nat) (f' : Fld) (i' : Nat) (hb : Nat.testBit 0x18 f'.reg.ix = false) :
    (s.sendAck p).fld f' i' = s.fld f' i' := (s.sendAck_within p).fld f' i' hb
theorem State.sendAck_flag (s : State) (p : Nat) (f' : Fld) (i' : Nat) (hb : Nat.testBit 0x18 f'.reg.ix = false) :
    (s.sendAck p).flag f' i' = s.flag f' i' := (s.sendAck_within p).flag f' i' hb

/-! ### sendCredit -/

theorem State.sendCredit_within (s : State) (p : Nat) : Within 0x18 s (s.sendCredit p) :=
  within_sendCredit p rfl (within_refl _ _)
@[simp] theorem State.sendCredit_time (s : State) (p : Nat) : (s.sendCredit p).time = s.time := (s.sendCredit_within p).time rfl
@[simp] theorem State.sendCredit_cams (s : State) (p : Nat) : (s.sendCredit p).cams = s.cams := (s.sendCredit_within p).cams rfl
@[simp] theorem State.sendCredit_frames (s : State) (p : Nat) : (s.sendCredit p).frames = s.frames := (s.sendCredit_within p).frames rfl
@[simp] theorem State.sendCredit_cores (s : State) (p : Nat) : (s.sendCredit p).cores = s.cores := (s.sendCredit_within p).cores rfl
@[simp] theorem State.sendCredit_hold (s : State) (p : Nat) : (s.sendCredit p).hold = s.hold := (s.sendCredit_within p).hold rfl
@[simp] theorem State.sendCredit_adapt (s : State) (p : Nat) : (s.sendCredit p).adapt = s.adapt := (s.sendCredit_within p).adapt rfl
@[simp] theorem State.sendCredit_sec (s : State) (p : Nat) : (s.sendCredit p).sec = s.sec := (s.sendCredit_within p).sec rfl
@[simp] theorem State.sendCredit_boot (s : State) (p : Nat) : (s.sendCredit p).boot = s.boot := (s.sendCredit_within p).boot rfl
@[simp] theorem State.sendCredit_groups (s : State) (p : Nat) : (s.sendCredit p).groups = s.groups := (s.sendCredit_within p).groups rfl
@[simp] theorem State.sendCredit_fns (s : State) (p : Nat) : (s.sendCredit p).fns = s.fns := (s.sendCredit_within p).fns rfl
@[simp] theorem State.sendCredit_sfl (s : State) (p : Nat) : (s.sendCredit p).sfl = s.sfl := (s.sendCredit_within p).sfl rfl
@[simp] theorem State.sendCredit_chn (s : State) (p : Nat) : (s.sendCredit p).chn = s.chn := (s.sendCredit_within p).chn rfl
@[simp] theorem State.sendCredit_log (s : State) (p : Nat) : (s.sendCredit p).log = s.log := (s.sendCredit_within p).log rfl
@[simp] theorem State.sendCredit_fatal (s : State) (p : Nat) : (s.sendCredit p).fatal = s.fatal := (s.sendCredit_within p).fatal rfl
@[simp] theorem State.sendCredit_mem (s : State) (p : Nat) : (s.sendCredit p).mem = s.mem := (s.sendCredit_within p).mem rfl
@[simp] theorem State.sendCredit_out (s : State) (p : Nat) : (s.sendCredit p).out = s.out := (s.sendCredit_within p).out rfl
@[simp] theorem State.sendCredit_free (s : State) (p : Nat) : (s.sendCredit p).free = s.free := (s.sendCredit_within p).free rfl
@[simp] theorem State.sendCredit_cam (s : State) (p : Nat) (n' : Nat) : (s.sendCredit p).cam n' = s.cam n' := by
  unfold State.cam; rw [(s.sendCredit_within p).cams rfl]
@[simp] theorem State.sendCredit_frame (s : State) (p : Nat) (n' q' : Nat) : (s.sendCredit p).frame n' q' = s.frame n' q' := by
  unfold State.frame; rw [(s.sendCredit_within p).frames rfl]
@[simp] theorem State.sendCredit_fn (s : State) (p : Nat) (f' : Nat) : (s.sendCredit p).fn f' = s.fn f' := by
  unfold State.fn; rw [(s.sendCredit_within p).fns rfl]
@[simp] theorem State.sendCredit_queue (s : State) (p : Nat) (f' q' : Nat) : (s.sendCredit p).queue f' q' = s.queue f' q' := by
  unfold State.queue State.fn; rw [(s.sendCredit_within p).fns rfl]
@[simp] theorem State.sendCredit_command (s : State) (p : Nat) (c' : CmdRef) : (s.sendCredit p).command c' = s.command c' := by
  unfold State.command State.queue State.fn; rw [(s.sendCredit_within p).fns rfl]
@[simp] theorem State.sendCredit_core (s : State) (p : Nat) (i' : Nat) : (s.sendCredit p).core i' = s.core i' := by
  unfold State.core; rw [(s.sendCredit_within p).cores rfl]
@[simp] theorem State.sendCredit_group (s : State) (p : Nat) (g' : Nat) : (s.sendCredit p).group g' = s.group g' := by
  unfold State.group; rw [(s.sendCredit_within p).groups rfl]
@[simp] theorem State.sendCredit_now (s : State) (p : Nat)  : (s.sendCredit p).now = s.now := by
  unfold State.now; rw [(s.sendCredit_within p).time rfl]
theorem State.sendCredit_reg (s : State) (p : Nat) (r' : RegName) (i' : Nat) (hb : Nat.testBit 0x18 r'.ix = false) :
    (s.sendCredit p).reg r' i' = s.reg r' i' := (s.sendCredit_within p).reg r' i' hb
theorem State.sendCredit_regN (s : State) (p : Nat) (r' : RegName) (i' : Nat) (hb : Nat.testBit 0x18 r'.ix = false) :
    (s.sendCredit p).regN r' i' = s.regN r' i' := (s.sendCredit_within p).regN r' i' hb
theorem State.sendCredit_fld (s : State) (p : Nat) (f' : Fld) (i' : Nat) (hb : Nat.testBit 0x18 f'.reg.ix = false) :
    (s.sendCredit p).fld f' i' = s.fld f' i' := (s.sendCredit_within p).fld f' i' hb
theorem State.sendCredit_flag (s : State) (p : Nat) (f' : Fld) (i' : Nat) (hb : Nat.testBit 0x18 f'.reg.ix = false) :
    (s.sendCredit p).flag f' i' = s.flag f' i' := (s.sendCredit_within p).flag f' i' hb

/-! ### freeCredits -/

theorem State.freeCredits_within (s : State) (p : Nat) (n : Nat) : Within 0x18 s (s.freeCredits p n) :=
  within_freeCredits p n rfl (within_refl _ _)
@[simp] theorem State.freeCredits_time (s : State) (p : Nat) (n : Nat) : (s.freeCredits p n).time = s.time := (s.freeCredits_within p n).time rfl
@[simp] theorem State.freeCredits_cams (s : State) (p : Nat) (n : Nat) : (s.freeCredits p n).cams = s.cams := (s.freeCredits_within p n).cams rfl
@[simp] theorem State.freeCredits_frames (s : State) (p : Nat) (n : Nat) : (s.freeCredits p n).frames = s.frames := (s.freeCredits_within p n).frames rfl
@[simp] theorem State.freeCredits_cores (s : State) (p : Nat) (n : Nat) : (s.freeCredits p n).cores = s.cores := (s.freeCredits_within p n).cores rfl
@[simp] theorem State.freeCredits_hold (s : State) (p : Nat) (n : Nat) : (s.freeCredits p n).hold = s.hold := (s.freeCredits_within p n).hold rfl
@[simp] theorem State.freeCredits_adapt (s : State) (p : Nat) (n : Nat) : (s.freeCredits p n).adapt = s.adapt := (s.freeCredits_within p n).adapt rfl
@[simp] theorem State.freeCredits_sec (s : State) (p : Nat) (n : Nat) : (s.freeCredits p n).sec = s.sec := (s.freeCredits_within p n).sec rfl
@[simp] theorem State.freeCredits_boot (s : State) (p : Nat) (n : Nat) : (s.freeCredits p n).boot = s.boot := (s.freeCredits_within p n).boot rfl
@[simp] theorem State.freeCredits_groups (s : State) (p : Nat) (n : Nat) : (s.freeCredits p n).groups = s.groups := (s.freeCredits_within p n).groups rfl
@[simp] theorem State.freeCredits_fns (s : State) (p : Nat) (n : Nat) : (s.freeCredits p n).fns = s.fns := (s.freeCredits_within p n).fns rfl
@[simp] theorem State.freeCredits_sfl (s : State) (p : Nat) (n : Nat) : (s.freeCredits p n).sfl = s.sfl := (s.freeCredits_within p n).sfl rfl
@[simp] theorem State.freeCredits_chn (s : State) (p : Nat) (n : Nat) : (s.freeCredits p n).chn = s.chn := (s.freeCredits_within p n).chn rfl
@[simp] theorem State.freeCredits_log (s : State) (p : Nat) (n : Nat) : (s.freeCredits p n).log = s.log := (s.freeCredits_within p n).log rfl
@[simp] theorem State.freeCredits_fatal (s : State) (p : Nat) (n : Nat) : (s.freeCredits p n).fatal = s.fatal := (s.freeCredits_within p n).fatal rfl
@[simp] theorem State.freeCredits_mem (s : State) (p : Nat) (n : Nat) : (s.freeCredits p n).mem = s.mem := (s.freeCredits_within p n).mem rfl
@[simp] theorem State.freeCredits_out (s : State) (p : Nat) (n : Nat) : (s.freeCredits p n).out = s.out := (s.freeCredits_within p n).out rfl
@[simp] theorem State.freeCredits_free (s : State) (p : Nat) (n : Nat) : (s.freeCredits p n).free = s.free := (s.freeCredits_within p n).free rfl
@[simp] theorem State.freeCredits_cam (s : State) (p : Nat) (n : Nat) (n' : Nat) : (s.freeCredits p n).cam n' = s.cam n' := by
  unfold State.cam; rw [(s.freeCredits_within p n).cams rfl]
@[simp] theorem State.freeCredits_frame (s : State) (p : Nat) (n : Nat) (n' q' : Nat) : (s.freeCredits p n).frame n' q' = s.frame n' q' := by
  unfold State.frame; rw [(s.freeCredits_within p n).frames rfl]
@[simp] theorem State.freeCredits_fn (s : State) (p : Nat) (n : Nat) (f' : Nat) : (s.freeCredits p n).fn f' = s.fn f' := by
  unfold State.fn; rw [(s.freeCredits_within p n).fns rfl]
@[simp] theorem State.freeCredits_queue (s : State) (p : Nat) (n : Nat) (f' q' : Nat) : (s.freeCredits p n).queue f' q' = s.queue f' q' := by
  unfold State.queue State.fn; rw [(s.freeCredits_within p n).fns rfl]
@[simp] theorem State.freeCredits_command (s : State) (p : Nat) (n : Nat) (c' : CmdRef) : (s.freeCredits p n).command c' = s.command c' := by
  unfold State.command State.queue State.fn; rw [(s.freeCredits_within p n).fns rfl]
@[simp] theorem State.freeCredits_core (s : State) (p : Nat) (n : Nat) (i' : Nat) : (s.freeCredits p n).core i' = s.core i' := by
  unfold State.core; rw [(s.freeCredits_within p n).cores rfl]
@[simp] theorem State.freeCredits_group (s : State) (p : Nat) (n : Nat) (g' : Nat) : (s.freeCredits p n).group g' = s.group g' := by
  unfold State.group; rw [(s.freeCredits_within p n).groups rfl]
@[simp] theorem State.freeCredits_now (s : State) (p : Nat) (n : Nat)  : (s.freeCredits p n).now = s.now := by
  unfold State.now; rw [(s.freeCredits_within p n).time rfl]
theorem State.freeCredits_reg (s : State) (p : Nat) (n : Nat) (r' : RegName) (i' : Nat) (hb : Nat.testBit 0x18 r'.ix = false) :
    (s.freeCredits p n).reg r' i' = s.reg r' i' := (s.freeCredits_within p n).reg r' i' hb
theorem State.freeCredits_regN (s : State) (p : Nat) (n : Nat) (r' : RegName) (i' : Nat) (hb : Nat.testBit 0x18 r'.ix = false) :
    (s.freeCredits p n).regN r' i' = s.regN r' i' := (s.freeCredits_within p n).regN r' i' hb
theorem State.freeCredits_fld (s : State) (p : Nat) (n : Nat) (f' : Fld) (i' : Nat) (hb : Nat.testBit 0x18 f'.reg.ix = false) :
    (s.freeCredits p n).fld f' i' = s.fld f' i' := (s.freeCredits_within p n).fld f' i' hb
theorem State.freeCredits_flag (s : State) (p : Nat) (n : Nat) (f' : Fld) (i' : Nat) (hb : Nat.testBit 0x18 f'.reg.ix = false) :
    (s.freeCredits p n).flag f' i' = s.flag f' i' := (s.freeCredits_within p n).flag f' i' hb

/-! ### sendCaps -/

theorem State.sendCaps_within (s : State) (p : Nat) : Within 0x10 s (s.sendCaps p) :=
  within_sendCaps p rfl (within_refl _ _)
@[simp] theorem State.sendCaps_time (s : State) (p : Nat) : (s.sendCaps p).time = s.time := (s.sendCaps_within p).time rfl
@[simp] theorem State.sendCaps_ports (s : State) (p : Nat) : (s.sendCaps p).ports = s.ports := (s.sendCaps_within p).ports rfl
@[simp] theorem State.sendCaps_cams (s : State) (p : Nat) : (s.sendCaps p).cams = s.cams := (s.sendCaps_within p).cams rfl
@[simp] theorem State.sendCaps_frames (s : State) (p : Nat) : (s.sendCaps p).frames = s.frames := (s.sendCaps_within p).frames rfl
@[simp] theorem State.sendCaps_cores (s : State) (p : Nat) : (s.sendCaps p).cores = s.cores := (s.sendCaps_within p).cores rfl
@[simp] theorem State.sendCaps_hold (s : State) (p : Nat) : (s.sendCaps p).hold = s.hold := (s.sendCaps_within p).hold rfl
@[simp] theorem State.sendCaps_adapt (s : State) (p : Nat) : (s.sendCaps p).adapt = s.adapt := (s.sendCaps_within p).adapt rfl
@[simp] theorem State.sendCaps_sec (s : State) (p : Nat) : (s.sendCaps p).sec = s.sec := (s.sendCaps_within p).sec rfl
@[simp] theorem State.sendCaps_boot (s : State) (p : Nat) : (s.sendCaps p).boot = s.boot := (s.sendCaps_within p).boot rfl
@[simp] theorem State.sendCaps_groups (s : State) (p : Nat) : (s.sendCaps p).groups = s.groups := (s.sendCaps_within p).groups rfl
@[simp] theorem State.sendCaps_fns (s : State) (p : Nat) : (s.sendCaps p).fns = s.fns := (s.sendCaps_within p).fns rfl
@[simp] theorem State.sendCaps_sfl (s : State) (p : Nat) : (s.sendCaps p).sfl = s.sfl := (s.sendCaps_within p).sfl rfl
@[simp] theorem State.sendCaps_chn (s : State) (p : Nat) : (s.sendCaps p).chn = s.chn := (s.sendCaps_within p).chn rfl
@[simp] theorem State.sendCaps_log (s : State) (p : Nat) : (s.sendCaps p).log = s.log := (s.sendCaps_within p).log rfl
@[simp] theorem State.sendCaps_fatal (s : State) (p : Nat) : (s.sendCaps p).fatal = s.fatal := (s.sendCaps_within p).fatal rfl
@[simp] theorem State.sendCaps_mem (s : State) (p : Nat) : (s.sendCaps p).mem = s.mem := (s.sendCaps_within p).mem rfl
@[simp] theorem State.sendCaps_out (s : State) (p : Nat) : (s.sendCaps p).out = s.out := (s.sendCaps_within p).out rfl
@[simp] theorem State.sendCaps_free (s : State) (p : Nat) : (s.sendCaps p).free = s.free := (s.sendCaps_within p).free rfl
@[simp] theorem State.sendCaps_port (s : State) (p : Nat) (p' : Nat) : (s.sendCaps p).port p' = s.port p' := by
  unfold State.port; rw [(s.sendCaps_within p).ports rfl]
@[simp] theorem State.sendCaps_cam (s : State) (p : Nat) (n' : Nat) : (s.sendCaps p).cam n' = s.cam n' := by
  unfold State.cam; rw [(s.sendCaps_within p).cams rfl]
@[simp] theorem State.sendCaps_frame (s : State) (p : Nat) (n' q' : Nat) : (s.sendCaps p).frame n' q' = s.frame n' q' := by
  unfold State.frame; rw [(s.sendCaps_within p).frames rfl]
@[simp] theorem State.sendCaps_fn (s : State) (p : Nat) (f' : Nat) : (s.sendCaps p).fn f' = s.fn f' := by
  unfold State.fn; rw [(s.sendCaps_within p).fns rfl]
@[simp] theorem State.sendCaps_queue (s : State) (p : Nat) (f' q' : Nat) : (s.sendCaps p).queue f' q' = s.queue f' q' := by
  unfold State.queue State.fn; rw [(s.sendCaps_within p).fns rfl]
@[simp] theorem State.sendCaps_command (s : State) (p : Nat) (c' : CmdRef) : (s.sendCaps p).command c' = s.command c' := by
  unfold State.command State.queue State.fn; rw [(s.sendCaps_within p).fns rfl]
@[simp] theorem State.sendCaps_core (s : State) (p : Nat) (i' : Nat) : (s.sendCaps p).core i' = s.core i' := by
  unfold State.core; rw [(s.sendCaps_within p).cores rfl]
@[simp] theorem State.sendCaps_group (s : State) (p : Nat) (g' : Nat) : (s.sendCaps p).group g' = s.group g' := by
  unfold State.group; rw [(s.sendCaps_within p).groups rfl]
@[simp] theorem State.sendCaps_now (s : State) (p : Nat)  : (s.sendCaps p).now = s.now := by
  unfold State.now; rw [(s.sendCaps_within p).time rfl]
theorem State.sendCaps_reg (s : State) (p : Nat) (r' : RegName) (i' : Nat) (hb : Nat.testBit 0x10 r'.ix = false) :
    (s.sendCaps p).reg r' i' = s.reg r' i' := (s.sendCaps_within p).reg r' i' hb
theorem State.sendCaps_regN (s : State) (p : Nat) (r' : RegName) (i' : Nat) (hb : Nat.testBit 0x10 r'.ix = false) :
    (s.sendCaps p).regN r' i' = s.regN r' i' := (s.sendCaps_within p).regN r' i' hb
theorem State.sendCaps_fld (s : State) (p : Nat) (f' : Fld) (i' : Nat) (hb : Nat.testBit 0x10 f'.reg.ix = false) :
    (s.sendCaps p).fld f' i' = s.fld f' i' := (s.sendCaps_within p).fld f' i' hb
theorem State.sendCaps_flag (s : State) (p : Nat) (f' : Fld) (i' : Nat) (hb : Nat.testBit 0x10 f'.reg.ix = false) :
    (s.sendCaps p).flag f' i' = s.flag f' i' := (s.sendCaps_within p).flag f' i' hb

/-! ### sendNak -/

theorem State.sendNak_within (s : State) (p : Nat) (q : Nat) (cause : Nat) (attempt : Nat) : Within 0x24640000000000000000000000000000000000000000000000000800000000000240010 s (s.sendNak p q cause attempt) :=
  within_sendNak p q cause attempt rfl (within_refl _ _)
@[simp] theorem State.sendNak_time (s : State) (p : Nat) (q : Nat) (cause : Nat) (attempt : Nat) : (s.sendNak p q cause attempt).time = s.time := (s.sendNak_within p q cause attempt).time rfl
@[simp] theorem State.sendNak_ports (s : State) (p : Nat) (q : Nat) (cause : Nat) (attempt : Nat) : (s.sendNak p q cause attempt).ports = s.ports := (s.sendNak_within p q cause attempt).ports rfl
@[simp] theorem State.sendNak_cams (s : State) (p : Nat) (q : Nat) (cause : Nat) (attempt : Nat) : (s.sendNak p q cause attempt).cams = s.cams := (s.sendNak_within p q cause attempt).cams rfl
@[simp] theorem State.sendNak_frames (s : State) (p : Nat) (q : Nat) (cause : Nat) (attempt : Nat) : (s.sendNak p q cause attempt).frames = s.frames := (s.sendNak_within p q cause attempt).frames rfl
@[simp] theorem State.sendNak_cores (s : State) (p : Nat) (q : Nat) (cause : Nat) (attempt : Nat) : (s.sendNak p q cause attempt).cores = s.cores := (s.sendNak_within p q cause attempt).cores rfl
@[simp] theorem State.sendNak_hold (s : State) (p : Nat) (q : Nat) (cause : Nat) (attempt : Nat) : (s.sendNak p q cause attempt).hold = s.hold := (s.sendNak_within p q cause attempt).hold rfl
@[simp] theorem State.sendNak_adapt (s : State) (p : Nat) (q : Nat) (cause : Nat) (attempt : Nat) : (s.sendNak p q cause attempt).adapt = s.adapt := (s.sendNak_within p q cause attempt).adapt rfl
@[simp] theorem State.sendNak_sec (s : State) (p : Nat) (q : Nat) (cause : Nat) (attempt : Nat) : (s.sendNak p q cause attempt).sec = s.sec := (s.sendNak_within p q cause attempt).sec rfl
@[simp] theorem State.sendNak_boot (s : State) (p : Nat) (q : Nat) (cause : Nat) (attempt : Nat) : (s.sendNak p q cause attempt).boot = s.boot := (s.sendNak_within p q cause attempt).boot rfl
@[simp] theorem State.sendNak_groups (s : State) (p : Nat) (q : Nat) (cause : Nat) (attempt : Nat) : (s.sendNak p q cause attempt).groups = s.groups := (s.sendNak_within p q cause attempt).groups rfl
@[simp] theorem State.sendNak_fns (s : State) (p : Nat) (q : Nat) (cause : Nat) (attempt : Nat) : (s.sendNak p q cause attempt).fns = s.fns := (s.sendNak_within p q cause attempt).fns rfl
@[simp] theorem State.sendNak_sfl (s : State) (p : Nat) (q : Nat) (cause : Nat) (attempt : Nat) : (s.sendNak p q cause attempt).sfl = s.sfl := (s.sendNak_within p q cause attempt).sfl rfl
@[simp] theorem State.sendNak_chn (s : State) (p : Nat) (q : Nat) (cause : Nat) (attempt : Nat) : (s.sendNak p q cause attempt).chn = s.chn := (s.sendNak_within p q cause attempt).chn rfl
@[simp] theorem State.sendNak_fatal (s : State) (p : Nat) (q : Nat) (cause : Nat) (attempt : Nat) : (s.sendNak p q cause attempt).fatal = s.fatal := (s.sendNak_within p q cause attempt).fatal rfl
@[simp] theorem State.sendNak_mem (s : State) (p : Nat) (q : Nat) (cause : Nat) (attempt : Nat) : (s.sendNak p q cause attempt).mem = s.mem := (s.sendNak_within p q cause attempt).mem rfl
@[simp] theorem State.sendNak_free (s : State) (p : Nat) (q : Nat) (cause : Nat) (attempt : Nat) : (s.sendNak p q cause attempt).free = s.free := (s.sendNak_within p q cause attempt).free rfl
@[simp] theorem State.sendNak_port (s : State) (p : Nat) (q : Nat) (cause : Nat) (attempt : Nat) (p' : Nat) : (s.sendNak p q cause attempt).port p' = s.port p' := by
  unfold State.port; rw [(s.sendNak_within p q cause attempt).ports rfl]
@[simp] theorem State.sendNak_cam (s : State) (p : Nat) (q : Nat) (cause : Nat) (attempt : Nat) (n' : Nat) : (s.sendNak p q cause attempt).cam n' = s.cam n' := by
  unfold State.cam; rw [(s.sendNak_within p q cause attempt).cams rfl]
@[simp] theorem State.sendNak_frame (s : State) (p : Nat) (q : Nat) (cause : Nat) (attempt : Nat) (n' q' : Nat) : (s.sendNak p q cause attempt).frame n' q' = s.frame n' q' := by
  unfold State.frame; rw [(s.sendNak_within p q cause attempt).frames rfl]
@[simp] theorem State.sendNak_fn (s : State) (p : Nat) (q : Nat) (cause : Nat) (attempt : Nat) (f' : Nat) : (s.sendNak p q cause attempt).fn f' = s.fn f' := by
  unfold State.fn; rw [(s.sendNak_within p q cause attempt).fns rfl]
@[simp] theorem State.sendNak_queue (s : State) (p : Nat) (q : Nat) (cause : Nat) (attempt : Nat) (f' q' : Nat) : (s.sendNak p q cause attempt).queue f' q' = s.queue f' q' := by
  unfold State.queue State.fn; rw [(s.sendNak_within p q cause attempt).fns rfl]
@[simp] theorem State.sendNak_command (s : State) (p : Nat) (q : Nat) (cause : Nat) (attempt : Nat) (c' : CmdRef) : (s.sendNak p q cause attempt).command c' = s.command c' := by
  unfold State.command State.queue State.fn; rw [(s.sendNak_within p q cause attempt).fns rfl]
@[simp] theorem State.sendNak_core (s : State) (p : Nat) (q : Nat) (cause : Nat) (attempt : Nat) (i' : Nat) : (s.sendNak p q cause attempt).core i' = s.core i' := by
  unfold State.core; rw [(s.sendNak_within p q cause attempt).cores rfl]
@[simp] theorem State.sendNak_group (s : State) (p : Nat) (q : Nat) (cause : Nat) (attempt : Nat) (g' : Nat) : (s.sendNak p q cause attempt).group g' = s.group g' := by
  unfold State.group; rw [(s.sendNak_within p q cause attempt).groups rfl]
@[simp] theorem State.sendNak_now (s : State) (p : Nat) (q : Nat) (cause : Nat) (attempt : Nat)  : (s.sendNak p q cause attempt).now = s.now := by
  unfold State.now; rw [(s.sendNak_within p q cause attempt).time rfl]
theorem State.sendNak_reg (s : State) (p : Nat) (q : Nat) (cause : Nat) (attempt : Nat) (r' : RegName) (i' : Nat) (hb : Nat.testBit 0x24640000000000000000000000000000000000000000000000000800000000000240010 r'.ix = false) :
    (s.sendNak p q cause attempt).reg r' i' = s.reg r' i' := (s.sendNak_within p q cause attempt).reg r' i' hb
theorem State.sendNak_regN (s : State) (p : Nat) (q : Nat) (cause : Nat) (attempt : Nat) (r' : RegName) (i' : Nat) (hb : Nat.testBit 0x24640000000000000000000000000000000000000000000000000800000000000240010 r'.ix = false) :
    (s.sendNak p q cause attempt).regN r' i' = s.regN r' i' := (s.sendNak_within p q cause attempt).regN r' i' hb
theorem State.sendNak_fld (s : State) (p : Nat) (q : Nat) (cause : Nat) (attempt : Nat) (f' : Fld) (i' : Nat) (hb : Nat.testBit 0x24640000000000000000000000000000000000000000000000000800000000000240010 f'.reg.ix = false) :
    (s.sendNak p q cause attempt).fld f' i' = s.fld f' i' := (s.sendNak_within p q cause attempt).fld f' i' hb
theorem State.sendNak_flag (s : State) (p : Nat) (q : Nat) (cause : Nat) (attempt : Nat) (f' : Fld) (i' : Nat) (hb : Nat.testBit 0x24640000000000000000000000000000000000000000000000000800000000000240010 f'.reg.ix = false) :
    (s.sendNak p q cause attempt).flag f' i' = s.flag f' i' := (s.sendNak_within p q cause attempt).flag f' i' hb

/-! ### holdRun -/

theorem State.holdRun_within (s : State) (w : MemWho) (write : Bool) (a : Nat) (n : Nat) : Within 0x40200 s (s.holdRun w write a n) :=
  within_holdRun w write a n rfl (within_refl _ _)
@[simp] theorem State.holdRun_time (s : State) (w : MemWho) (write : Bool) (a : Nat) (n : Nat) : (s.holdRun w write a n).time = s.time := (s.holdRun_within w write a n).time rfl
@[simp] theorem State.holdRun_ports (s : State) (w : MemWho) (write : Bool) (a : Nat) (n : Nat) : (s.holdRun w write a n).ports = s.ports := (s.holdRun_within w write a n).ports rfl
@[simp] theorem State.holdRun_tx (s : State) (w : MemWho) (write : Bool) (a : Nat) (n : Nat) : (s.holdRun w write a n).tx = s.tx := (s.holdRun_within w write a n).tx rfl
@[simp] theorem State.holdRun_cams (s : State) (w : MemWho) (write : Bool) (a : Nat) (n : Nat) : (s.holdRun w write a n).cams = s.cams := (s.holdRun_within w write a n).cams rfl
@[simp] theorem State.holdRun_frames (s : State) (w : MemWho) (write : Bool) (a : Nat) (n : Nat) : (s.holdRun w write a n).frames = s.frames := (s.holdRun_within w write a n).frames rfl
@[simp] theorem State.holdRun_cores (s : State) (w : MemWho) (write : Bool) (a : Nat) (n : Nat) : (s.holdRun w write a n).cores = s.cores := (s.holdRun_within w write a n).cores rfl
@[simp] theorem State.holdRun_adapt (s : State) (w : MemWho) (write : Bool) (a : Nat) (n : Nat) : (s.holdRun w write a n).adapt = s.adapt := (s.holdRun_within w write a n).adapt rfl
@[simp] theorem State.holdRun_sec (s : State) (w : MemWho) (write : Bool) (a : Nat) (n : Nat) : (s.holdRun w write a n).sec = s.sec := (s.holdRun_within w write a n).sec rfl
@[simp] theorem State.holdRun_boot (s : State) (w : MemWho) (write : Bool) (a : Nat) (n : Nat) : (s.holdRun w write a n).boot = s.boot := (s.holdRun_within w write a n).boot rfl
@[simp] theorem State.holdRun_groups (s : State) (w : MemWho) (write : Bool) (a : Nat) (n : Nat) : (s.holdRun w write a n).groups = s.groups := (s.holdRun_within w write a n).groups rfl
@[simp] theorem State.holdRun_fns (s : State) (w : MemWho) (write : Bool) (a : Nat) (n : Nat) : (s.holdRun w write a n).fns = s.fns := (s.holdRun_within w write a n).fns rfl
@[simp] theorem State.holdRun_sfl (s : State) (w : MemWho) (write : Bool) (a : Nat) (n : Nat) : (s.holdRun w write a n).sfl = s.sfl := (s.holdRun_within w write a n).sfl rfl
@[simp] theorem State.holdRun_chn (s : State) (w : MemWho) (write : Bool) (a : Nat) (n : Nat) : (s.holdRun w write a n).chn = s.chn := (s.holdRun_within w write a n).chn rfl
@[simp] theorem State.holdRun_fatal (s : State) (w : MemWho) (write : Bool) (a : Nat) (n : Nat) : (s.holdRun w write a n).fatal = s.fatal := (s.holdRun_within w write a n).fatal rfl
@[simp] theorem State.holdRun_mem (s : State) (w : MemWho) (write : Bool) (a : Nat) (n : Nat) : (s.holdRun w write a n).mem = s.mem := (s.holdRun_within w write a n).mem rfl
@[simp] theorem State.holdRun_out (s : State) (w : MemWho) (write : Bool) (a : Nat) (n : Nat) : (s.holdRun w write a n).out = s.out := (s.holdRun_within w write a n).out rfl
@[simp] theorem State.holdRun_free (s : State) (w : MemWho) (write : Bool) (a : Nat) (n : Nat) : (s.holdRun w write a n).free = s.free := (s.holdRun_within w write a n).free rfl
@[simp] theorem State.holdRun_port (s : State) (w : MemWho) (write : Bool) (a : Nat) (n : Nat) (p' : Nat) : (s.holdRun w write a n).port p' = s.port p' := by
  unfold State.port; rw [(s.holdRun_within w write a n).ports rfl]
@[simp] theorem State.holdRun_cam (s : State) (w : MemWho) (write : Bool) (a : Nat) (n : Nat) (n' : Nat) : (s.holdRun w write a n).cam n' = s.cam n' := by
  unfold State.cam; rw [(s.holdRun_within w write a n).cams rfl]
@[simp] theorem State.holdRun_frame (s : State) (w : MemWho) (write : Bool) (a : Nat) (n : Nat) (n' q' : Nat) : (s.holdRun w write a n).frame n' q' = s.frame n' q' := by
  unfold State.frame; rw [(s.holdRun_within w write a n).frames rfl]
@[simp] theorem State.holdRun_fn (s : State) (w : MemWho) (write : Bool) (a : Nat) (n : Nat) (f' : Nat) : (s.holdRun w write a n).fn f' = s.fn f' := by
  unfold State.fn; rw [(s.holdRun_within w write a n).fns rfl]
@[simp] theorem State.holdRun_queue (s : State) (w : MemWho) (write : Bool) (a : Nat) (n : Nat) (f' q' : Nat) : (s.holdRun w write a n).queue f' q' = s.queue f' q' := by
  unfold State.queue State.fn; rw [(s.holdRun_within w write a n).fns rfl]
@[simp] theorem State.holdRun_command (s : State) (w : MemWho) (write : Bool) (a : Nat) (n : Nat) (c' : CmdRef) : (s.holdRun w write a n).command c' = s.command c' := by
  unfold State.command State.queue State.fn; rw [(s.holdRun_within w write a n).fns rfl]
@[simp] theorem State.holdRun_core (s : State) (w : MemWho) (write : Bool) (a : Nat) (n : Nat) (i' : Nat) : (s.holdRun w write a n).core i' = s.core i' := by
  unfold State.core; rw [(s.holdRun_within w write a n).cores rfl]
@[simp] theorem State.holdRun_group (s : State) (w : MemWho) (write : Bool) (a : Nat) (n : Nat) (g' : Nat) : (s.holdRun w write a n).group g' = s.group g' := by
  unfold State.group; rw [(s.holdRun_within w write a n).groups rfl]
@[simp] theorem State.holdRun_now (s : State) (w : MemWho) (write : Bool) (a : Nat) (n : Nat)  : (s.holdRun w write a n).now = s.now := by
  unfold State.now; rw [(s.holdRun_within w write a n).time rfl]
theorem State.holdRun_reg (s : State) (w : MemWho) (write : Bool) (a : Nat) (n : Nat) (r' : RegName) (i' : Nat) (hb : Nat.testBit 0x40200 r'.ix = false) :
    (s.holdRun w write a n).reg r' i' = s.reg r' i' := (s.holdRun_within w write a n).reg r' i' hb
theorem State.holdRun_regN (s : State) (w : MemWho) (write : Bool) (a : Nat) (n : Nat) (r' : RegName) (i' : Nat) (hb : Nat.testBit 0x40200 r'.ix = false) :
    (s.holdRun w write a n).regN r' i' = s.regN r' i' := (s.holdRun_within w write a n).regN r' i' hb
theorem State.holdRun_fld (s : State) (w : MemWho) (write : Bool) (a : Nat) (n : Nat) (f' : Fld) (i' : Nat) (hb : Nat.testBit 0x40200 f'.reg.ix = false) :
    (s.holdRun w write a n).fld f' i' = s.fld f' i' := (s.holdRun_within w write a n).fld f' i' hb
theorem State.holdRun_flag (s : State) (w : MemWho) (write : Bool) (a : Nat) (n : Nat) (f' : Fld) (i' : Nat) (hb : Nat.testBit 0x40200 f'.reg.ix = false) :
    (s.holdRun w write a n).flag f' i' = s.flag f' i' := (s.holdRun_within w write a n).flag f' i' hb

/-! ### memW -/

theorem State.memW_within (s : State) (w : MemWho) (a : Nat) (bs : List Byte) : Within 0x140200 s (s.memW w a bs) :=
  within_memW w a bs rfl (within_refl _ _)
@[simp] theorem State.memW_time (s : State) (w : MemWho) (a : Nat) (bs : List Byte) : (s.memW w a bs).time = s.time := (s.memW_within w a bs).time rfl
@[simp] theorem State.memW_ports (s : State) (w : MemWho) (a : Nat) (bs : List Byte) : (s.memW w a bs).ports = s.ports := (s.memW_within w a bs).ports rfl
@[simp] theorem State.memW_tx (s : State) (w : MemWho) (a : Nat) (bs : List Byte) : (s.memW w a bs).tx = s.tx := (s.memW_within w a bs).tx rfl
@[simp] theorem State.memW_cams (s : State) (w : MemWho) (a : Nat) (bs : List Byte) : (s.memW w a bs).cams = s.cams := (s.memW_within w a bs).cams rfl
@[simp] theorem State.memW_frames (s : State) (w : MemWho) (a : Nat) (bs : List Byte) : (s.memW w a bs).frames = s.frames := (s.memW_within w a bs).frames rfl
@[simp] theorem State.memW_cores (s : State) (w : MemWho) (a : Nat) (bs : List Byte) : (s.memW w a bs).cores = s.cores := (s.memW_within w a bs).cores rfl
@[simp] theorem State.memW_adapt (s : State) (w : MemWho) (a : Nat) (bs : List Byte) : (s.memW w a bs).adapt = s.adapt := (s.memW_within w a bs).adapt rfl
@[simp] theorem State.memW_sec (s : State) (w : MemWho) (a : Nat) (bs : List Byte) : (s.memW w a bs).sec = s.sec := (s.memW_within w a bs).sec rfl
@[simp] theorem State.memW_boot (s : State) (w : MemWho) (a : Nat) (bs : List Byte) : (s.memW w a bs).boot = s.boot := (s.memW_within w a bs).boot rfl
@[simp] theorem State.memW_groups (s : State) (w : MemWho) (a : Nat) (bs : List Byte) : (s.memW w a bs).groups = s.groups := (s.memW_within w a bs).groups rfl
@[simp] theorem State.memW_fns (s : State) (w : MemWho) (a : Nat) (bs : List Byte) : (s.memW w a bs).fns = s.fns := (s.memW_within w a bs).fns rfl
@[simp] theorem State.memW_sfl (s : State) (w : MemWho) (a : Nat) (bs : List Byte) : (s.memW w a bs).sfl = s.sfl := (s.memW_within w a bs).sfl rfl
@[simp] theorem State.memW_chn (s : State) (w : MemWho) (a : Nat) (bs : List Byte) : (s.memW w a bs).chn = s.chn := (s.memW_within w a bs).chn rfl
@[simp] theorem State.memW_fatal (s : State) (w : MemWho) (a : Nat) (bs : List Byte) : (s.memW w a bs).fatal = s.fatal := (s.memW_within w a bs).fatal rfl
@[simp] theorem State.memW_out (s : State) (w : MemWho) (a : Nat) (bs : List Byte) : (s.memW w a bs).out = s.out := (s.memW_within w a bs).out rfl
@[simp] theorem State.memW_free (s : State) (w : MemWho) (a : Nat) (bs : List Byte) : (s.memW w a bs).free = s.free := (s.memW_within w a bs).free rfl
@[simp] theorem State.memW_port (s : State) (w : MemWho) (a : Nat) (bs : List Byte) (p' : Nat) : (s.memW w a bs).port p' = s.port p' := by
  unfold State.port; rw [(s.memW_within w a bs).ports rfl]
@[simp] theorem State.memW_cam (s : State) (w : MemWho) (a : Nat) (bs : List Byte) (n' : Nat) : (s.memW w a bs).cam n' = s.cam n' := by
  unfold State.cam; rw [(s.memW_within w a bs).cams rfl]
@[simp] theorem State.memW_frame (s : State) (w : MemWho) (a : Nat) (bs : List Byte) (n' q' : Nat) : (s.memW w a bs).frame n' q' = s.frame n' q' := by
  unfold State.frame; rw [(s.memW_within w a bs).frames rfl]
@[simp] theorem State.memW_fn (s : State) (w : MemWho) (a : Nat) (bs : List Byte) (f' : Nat) : (s.memW w a bs).fn f' = s.fn f' := by
  unfold State.fn; rw [(s.memW_within w a bs).fns rfl]
@[simp] theorem State.memW_queue (s : State) (w : MemWho) (a : Nat) (bs : List Byte) (f' q' : Nat) : (s.memW w a bs).queue f' q' = s.queue f' q' := by
  unfold State.queue State.fn; rw [(s.memW_within w a bs).fns rfl]
@[simp] theorem State.memW_command (s : State) (w : MemWho) (a : Nat) (bs : List Byte) (c' : CmdRef) : (s.memW w a bs).command c' = s.command c' := by
  unfold State.command State.queue State.fn; rw [(s.memW_within w a bs).fns rfl]
@[simp] theorem State.memW_core (s : State) (w : MemWho) (a : Nat) (bs : List Byte) (i' : Nat) : (s.memW w a bs).core i' = s.core i' := by
  unfold State.core; rw [(s.memW_within w a bs).cores rfl]
@[simp] theorem State.memW_group (s : State) (w : MemWho) (a : Nat) (bs : List Byte) (g' : Nat) : (s.memW w a bs).group g' = s.group g' := by
  unfold State.group; rw [(s.memW_within w a bs).groups rfl]
@[simp] theorem State.memW_now (s : State) (w : MemWho) (a : Nat) (bs : List Byte)  : (s.memW w a bs).now = s.now := by
  unfold State.now; rw [(s.memW_within w a bs).time rfl]
theorem State.memW_reg (s : State) (w : MemWho) (a : Nat) (bs : List Byte) (r' : RegName) (i' : Nat) (hb : Nat.testBit 0x140200 r'.ix = false) :
    (s.memW w a bs).reg r' i' = s.reg r' i' := (s.memW_within w a bs).reg r' i' hb
theorem State.memW_regN (s : State) (w : MemWho) (a : Nat) (bs : List Byte) (r' : RegName) (i' : Nat) (hb : Nat.testBit 0x140200 r'.ix = false) :
    (s.memW w a bs).regN r' i' = s.regN r' i' := (s.memW_within w a bs).regN r' i' hb
theorem State.memW_fld (s : State) (w : MemWho) (a : Nat) (bs : List Byte) (f' : Fld) (i' : Nat) (hb : Nat.testBit 0x140200 f'.reg.ix = false) :
    (s.memW w a bs).fld f' i' = s.fld f' i' := (s.memW_within w a bs).fld f' i' hb
theorem State.memW_flag (s : State) (w : MemWho) (a : Nat) (bs : List Byte) (f' : Fld) (i' : Nat) (hb : Nat.testBit 0x140200 f'.reg.ix = false) :
    (s.memW w a bs).flag f' i' = s.flag f' i' := (s.memW_within w a bs).flag f' i' hb

/-- R297: what a write leaves in device memory. -/
@[simp] theorem State.memW_mem (s : State) (w : MemWho) (a : Nat) (bs : List Byte) : (s.memW w a bs).mem = memWrites s.mem a bs :=
  congrArg (fun m => memWrites m a bs) (s.holdRun_mem w true a bs.length)

end Sys2Proof.Machine
end

