-- ==== Sys2Proof/Laws/WithinCmd.lean ====
section
/-! SUPPORT. The parts that each command may touch: one lemma for each command. -/
set_option linter.all false
namespace Sys2Proof.Machine

theorem within_execIxlPortEnable {M : Nat} (dt : Nat) (p : Fin 16) (v : Word) (hw : Sub 0x2464100200000000001040000000000000000000001c0101080042f000000000034727c M) (s t : State) (h : execIxlPortEnable dt p v s = .next t) : Within M s t := by
  have hk := within_elapse dt (sub_trans hw rfl) (within_refl M s)
  unfold execIxlPortEnable after at h
  injection h with e
  subst e
  repeat' (first | intro _ | with_reducible assumption | exact sub_trans hw rfl | with_reducible apply within_onBus | with_reducible apply within_portEnable)

theorem within_execIxlPortDisable {M : Nat} (dt : Nat) (p : Fin 16) (v : Word) (hw : Sub 0x2464100200000000001040000000000000000000001c0101080042f000000000034727c M) (s t : State) (h : execIxlPortDisable dt p v s = .next t) : Within M s t := by
  have hk := within_elapse dt (sub_trans hw rfl) (within_refl M s)
  unfold execIxlPortDisable after at h
  injection h with e
  subst e
  repeat' (first | intro _ | with_reducible assumption | exact sub_trans hw rfl | with_reducible apply within_onBus | with_reducible apply within_portDisable)

theorem within_execIxlRetrainRequest {M : Nat} (dt : Nat) (p : Fin 16) (v : Word) (hw : Sub 0x2464100200000000001040000000000000000000001c0101080042f000000000034727c M) (s t : State) (h : execIxlRetrainRequest dt p v s = .next t) : Within M s t := by
  have hk := within_elapse dt (sub_trans hw rfl) (within_refl M s)
  unfold execIxlRetrainRequest after at h
  injection h with e
  subst e
  repeat' (first | intro _ | with_reducible assumption | exact sub_trans hw rfl | with_reducible apply within_onBus | with_reducible apply within_retrainRequest)

theorem within_execSignalDetected {M : Nat} (dt : Nat) (p : Fin 18) (hw : Sub 0x2464100200000000001040000000000000000000000000000000422000000000024501c M) (s t : State) (h : execSignalDetected dt p s = .next t) : Within M s t := by
  have hk := within_elapse dt (sub_trans hw rfl) (within_refl M s)
  unfold execSignalDetected after at h
  injection h with e
  subst e
  repeat' (first | intro _ | with_reducible assumption | exact sub_trans hw rfl | with_reducible apply within_signalDetected)

theorem within_execBlockLockGained {M : Nat} (dt : Nat) (p : Fin 18) (hw : Sub 0x2464100200000000001040000000000000000000000000000000422000000000024501c M) (s t : State) (h : execBlockLockGained dt p s = .next t) : Within M s t := by
  have hk := within_elapse dt (sub_trans hw rfl) (within_refl M s)
  unfold execBlockLockGained after at h
  injection h with e
  subst e
  repeat' (first | intro _ | with_reducible assumption | exact sub_trans hw rfl | with_reducible apply within_blockLockGained)

theorem within_execBlockLockLost {M : Nat} (dt : Nat) (p : Fin 18) (hw : Sub 0x124651612004000000010400400efee2001409000001c0101080042e00000000003677fc M) (s t : State) (h : execBlockLockLost dt p s = .next t) : Within M s t := by
  have hk := within_elapse dt (sub_trans hw rfl) (within_refl M s)
  unfold execBlockLockLost after at h
  injection h with e
  subst e
  repeat' (first | intro _ | with_reducible assumption | exact sub_trans hw rfl | with_reducible apply within_blockLockLost | with_reducible apply within_checkChain)

theorem within_execBringupLimitExpiry {M : Nat} (dt : Nat) (p : Fin 18) (hw : Sub 0x124651612004000000010400400efee200140900000140001000042e00000000003677fc M) (s t : State) (h : execBringupLimitExpiry dt p s = .next t) : Within M s t := by
  have hk := within_elapse dt (sub_trans hw rfl) (within_refl M s)
  unfold execBringupLimitExpiry after at h
  injection h with e
  subst e
  repeat' (first | intro _ | with_reducible assumption | exact sub_trans hw rfl | with_reducible apply within_bringupExpiry | with_reducible apply within_checkChain)

theorem within_execBringupRetryWaitEnd {M : Nat} (dt : Nat) (p : Fin 18) (hw : Sub 0x200000000000000000000000000000000000000000000002000000000020001c M) (s t : State) (h : execBringupRetryWaitEnd dt p s = .next t) : Within M s t := by
  have hk := within_elapse dt (sub_trans hw rfl) (within_refl M s)
  unfold execBringupRetryWaitEnd after at h
  injection h with e
  subst e
  repeat' (first | intro _ | with_reducible assumption | exact sub_trans hw rfl | with_reducible apply within_retryWaitEnd)

theorem within_execHubCapsPacket {M : Nat} (dt : Nat) (p : Fin 16) (k : Packet) (hw : Sub 0x2464980200000000001040000000000000000140021c0307f800ffe000000000034727c M) (s t : State) (h : execHubCapsPacket dt p k s = .next t) : Within M s t := by
  have hk := within_elapse dt (sub_trans hw rfl) (within_refl M s)
  unfold execHubCapsPacket after at h
  injection h with e
  subst e
  repeat' (first | intro _ | with_reducible assumption | exact sub_trans hw rfl | with_reducible apply within_arrive)

theorem within_execVideoPacket {M : Nat} (dt : Nat) (p : Fin 16) (k : Packet) (hw : Sub 0x2464980200000000001040000000000000000140021c0307f800ffe000000000034727c M) (s t : State) (h : execVideoPacket dt p k s = .next t) : Within M s t := by
  have hk := within_elapse dt (sub_trans hw rfl) (within_refl M s)
  unfold execVideoPacket after at h
  injection h with e
  subst e
  repeat' (first | intro _ | with_reducible assumption | exact sub_trans hw rfl | with_reducible apply within_arrive)

theorem within_execEmbedPacket {M : Nat} (dt : Nat) (p : Fin 16) (k : Packet) (hw : Sub 0x2464980200000000001040000000000000000140021c0307f800ffe000000000034727c M) (s t : State) (h : execEmbedPacket dt p k s = .next t) : Within M s t := by
  have hk := within_elapse dt (sub_trans hw rfl) (within_refl M s)
  unfold execEmbedPacket after at h
  injection h with e
  subst e
  repeat' (first | intro _ | with_reducible assumption | exact sub_trans hw rfl | with_reducible apply within_arrive)

theorem within_execFrameStartPacket {M : Nat} (dt : Nat) (p : Fin 16) (k : Packet) (hw : Sub 0x2464980200000000001040000000000000000140021c0307f800ffe000000000034727c M) (s t : State) (h : execFrameStartPacket dt p k s = .next t) : Within M s t := by
  have hk := within_elapse dt (sub_trans hw rfl) (within_refl M s)
  unfold execFrameStartPacket after at h
  injection h with e
  subst e
  repeat' (first | intro _ | with_reducible assumption | exact sub_trans hw rfl | with_reducible apply within_arrive)

theorem within_execFrameEndPacket {M : Nat} (dt : Nat) (p : Fin 16) (k : Packet) (hw : Sub 0x2464980200000000001040000000000000000140021c0307f800ffe000000000034727c M) (s t : State) (h : execFrameEndPacket dt p k s = .next t) : Within M s t := by
  have hk := within_elapse dt (sub_trans hw rfl) (within_refl M s)
  unfold execFrameEndPacket after at h
  injection h with e
  subst e
  repeat' (first | intro _ | with_reducible assumption | exact sub_trans hw rfl | with_reducible apply within_arrive)

theorem within_execCtrlRespPacket {M : Nat} (dt : Nat) (p : Fin 16) (k : Packet) (hw : Sub 0x2464980200000000001040000000000000000140021c0307f800ffe000000000034727c M) (s t : State) (h : execCtrlRespPacket dt p k s = .next t) : Within M s t := by
  have hk := within_elapse dt (sub_trans hw rfl) (within_refl M s)
  unfold execCtrlRespPacket after at h
  injection h with e
  subst e
  repeat' (first | intro _ | with_reducible assumption | exact sub_trans hw rfl | with_reducible apply within_arrive)

theorem within_execSlotChange {M : Nat} (dt : Nat) (p : Fin 16) (k : Packet) (hw : Sub 0x2464980200000000001040000000000000000140021c0307f800ffe000000000034727c M) (s t : State) (h : execSlotChange dt p k s = .next t) : Within M s t := by
  have hk := within_elapse dt (sub_trans hw rfl) (within_refl M s)
  unfold execSlotChange after at h
  injection h with e
  subst e
  repeat' (first | intro _ | with_reducible assumption | exact sub_trans hw rfl | with_reducible apply within_arrive)

theorem within_execReplayGone {M : Nat} (dt : Nat) (p : Fin 16) (k : Packet) (hw : Sub 0x2464980200000000001040000000000000000140021c0307f800ffe000000000034727c M) (s t : State) (h : execReplayGone dt p k s = .next t) : Within M s t := by
  have hk := within_elapse dt (sub_trans hw rfl) (within_refl M s)
  unfold execReplayGone after at h
  injection h with e
  subst e
  repeat' (first | intro _ | with_reducible assumption | exact sub_trans hw rfl | with_reducible apply within_arrive)

theorem within_execHubFault {M : Nat} (dt : Nat) (p : Fin 16) (k : Packet) (hw : Sub 0x2464980200000000001040000000000000000140021c0307f800ffe000000000034727c M) (s t : State) (h : execHubFault dt p k s = .next t) : Within M s t := by
  have hk := within_elapse dt (sub_trans hw rfl) (within_refl M s)
  unfold execHubFault after at h
  injection h with e
  subst e
  repeat' (first | intro _ | with_reducible assumption | exact sub_trans hw rfl | with_reducible apply within_arrive)

theorem within_execUnknownHubStatus {M : Nat} (dt : Nat) (p : Fin 16) (k : Packet) (hw : Sub 0x2464980200000000001040000000000000000140021c0307f800ffe000000000034727c M) (s t : State) (h : execUnknownHubStatus dt p k s = .next t) : Within M s t := by
  have hk := within_elapse dt (sub_trans hw rfl) (within_refl M s)
  unfold execUnknownHubStatus after at h
  injection h with e
  subst e
  repeat' (first | intro _ | with_reducible assumption | exact sub_trans hw rfl | with_reducible apply within_arrive)

theorem within_execReservedPacket {M : Nat} (dt : Nat) (p : Fin 18) (k : Packet) (hw : Sub 0x2464980200000000001040000000000000000140021c0307f800ffe000000000034727c M) (s t : State) (h : execReservedPacket dt p k s = .next t) : Within M s t := by
  have hk := within_elapse dt (sub_trans hw rfl) (within_refl M s)
  unfold execReservedPacket after at h
  injection h with e
  subst e
  repeat' (first | intro _ | with_reducible assumption | exact sub_trans hw rfl | with_reducible apply within_reservedArrives)

theorem within_execPacketFail {M : Nat} (dt : Nat) (p : Fin 18) (k : Packet) (hw : Sub 0x2464980200000000001040000000000000000140021c0307f800ffe000000000034727c M) (s t : State) (h : execPacketFail dt p k s = .next t) : Within M s t := by
  have hk := within_elapse dt (sub_trans hw rfl) (within_refl M s)
  unfold execPacketFail after at h
  injection h with e
  subst e
  repeat' (first | intro _ | with_reducible assumption | exact sub_trans hw rfl | with_reducible apply within_arrive)

theorem within_execDuplicatePacket {M : Nat} (dt : Nat) (p : Fin 18) (k : Packet) (hw : Sub 0x2464980200000000001040000000000000000140021c0307f800ffe000000000034727c M) (s t : State) (h : execDuplicatePacket dt p k s = .next t) : Within M s t := by
  have hk := within_elapse dt (sub_trans hw rfl) (within_refl M s)
  unfold execDuplicatePacket after at h
  injection h with e
  subst e
  repeat' (first | intro _ | with_reducible assumption | exact sub_trans hw rfl | with_reducible apply within_arrive)

theorem within_execReplayTimerExpiry {M : Nat} (dt : Nat) (p : Fin 18) (hw : Sub 0x124651612004000000010400400efee2001409000001c010108004ae00000000003677fc M) (s t : State) (h : execReplayTimerExpiry dt p s = .next t) : Within M s t := by
  have hk := within_elapse dt (sub_trans hw rfl) (within_refl M s)
  unfold execReplayTimerExpiry after at h
  injection h with e
  subst e
  repeat' (first | intro _ | with_reducible assumption | exact sub_trans hw rfl | with_reducible apply within_replayExpiry | with_reducible apply within_checkChain)

theorem within_execAckTimer {M : Nat} (dt : Nat) (p : Fin 18) (hw : Sub 0x20001c M) (s t : State) (h : execAckTimer dt p s = .next t) : Within M s t := by
  have hk := within_elapse dt (sub_trans hw rfl) (within_refl M s)
  unfold execAckTimer after at h
  injection h with e
  subst e
  repeat' (first | intro _ | with_reducible assumption | exact sub_trans hw rfl | with_reducible apply within_ackTimer)

theorem within_execCreditTimer {M : Nat} (dt : Nat) (p : Fin 18) (hw : Sub 0x20001c M) (s t : State) (h : execCreditTimer dt p s = .next t) : Within M s t := by
  have hk := within_elapse dt (sub_trans hw rfl) (within_refl M s)
  unfold execCreditTimer after at h
  injection h with e
  subst e
  repeat' (first | intro _ | with_reducible assumption | exact sub_trans hw rfl | with_reducible apply within_creditTimer)

theorem within_execSkipSend {M : Nat} (dt : Nat) (p : Fin 18) (hw : Sub 0x200014 M) (s t : State) (h : execSkipSend dt p s = .next t) : Within M s t := by
  have hk := within_elapse dt (sub_trans hw rfl) (within_refl M s)
  unfold execSkipSend after at h
  injection h with e
  subst e
  repeat' (first | intro _ | with_reducible assumption | exact sub_trans hw rfl | with_reducible apply within_skipSend)

theorem within_execTunnelRequest {M : Nat} (dt : Nat) (p : Fin 16) (r : TunnelOp) (hw : Sub 0x2464000000000000001040000000000000000000000801000800000000000000024707c M) (s t : State) (h : execTunnelRequest dt p r s = .next t) : Within M s t := by
  have hk := within_elapse dt (sub_trans hw rfl) (within_refl M s)
  unfold execTunnelRequest after at h
  injection h with e
  subst e
  repeat' (first | intro _ | with_reducible assumption | exact sub_trans hw rfl | with_reducible apply within_tunnelRequest)

theorem within_execTunnelHeldStart {M : Nat} (dt : Nat) (p : Fin 16) (hw : Sub 0x20001c M) (s t : State) (h : execTunnelHeldStart dt p s = .next t) : Within M s t := by
  have hk := within_elapse dt (sub_trans hw rfl) (within_refl M s)
  unfold execTunnelHeldStart after at h
  injection h with e
  subst e
  repeat' (first | intro _ | with_reducible assumption | exact sub_trans hw rfl | with_reducible apply within_heldStart)

theorem within_execTunnelTimeout {M : Nat} (dt : Nat) (p : Fin 16) (tag : Byte) (hw : Sub 0x2464000000000000001040000000000000000000000801000800000000000000024707c M) (s t : State) (h : execTunnelTimeout dt p tag s = .next t) : Within M s t := by
  have hk := within_elapse dt (sub_trans hw rfl) (within_refl M s)
  unfold execTunnelTimeout after at h
  injection h with e
  subst e
  repeat' (first | intro _ | with_reducible assumption | exact sub_trans hw rfl | with_reducible apply within_tunnelTimeout)

theorem within_execIxlWordClockLoss {M : Nat} (dt : Nat) (p : Fin 16) (hw : Sub 0x2464100200000000001040000000000000000000001c0101080042e000000000034727c M) (s t : State) (h : execIxlWordClockLoss dt p s = .next t) : Within M s t := by
  have hk := within_elapse dt (sub_trans hw rfl) (within_refl M s)
  unfold execIxlWordClockLoss after at h
  injection h with e
  subst e
  repeat' (first | intro _ | with_reducible assumption | exact sub_trans hw rfl | with_reducible apply within_wordClockLoss)

theorem within_execTriggerLaunch {M : Nat} (dt : Nat) (p : Fin 16) (l : BitVec 64) (hw : Sub 0x2464000000000000000000000000000000000000000000000000000002000000026003c M) (s t : State) (h : execTriggerLaunch dt p l s = .next t) : Within M s t := by
  have hk := within_elapse dt (sub_trans hw rfl) (within_refl M s)
  unfold execTriggerLaunch after at h
  injection h with e
  subst e
  repeat' (first | intro _ | with_reducible assumption | exact sub_trans hw rfl | with_reducible apply within_triggerLaunch)

theorem within_execMissedFrameDeadline {M : Nat} (dt : Nat) (n : Fin 512) (hw : Sub 0x2464000000000000001040000000000000000040020803043800000000000000024707c M) (s t : State) (h : execMissedFrameDeadline dt n s = .next t) : Within M s t := by
  have hk := within_elapse dt (sub_trans hw rfl) (within_refl M s)
  unfold execMissedFrameDeadline after at h
  injection h with e
  subst e
  repeat' (first | intro _ | with_reducible assumption | exact sub_trans hw rfl | with_reducible apply within_missDeadline)

theorem within_execCloseTimeout {M : Nat} (dt : Nat) (n : Fin 512) (hw : Sub 0x24640000000000000000400000000000000000000014000100000000000000000342274 M) (s t : State) (h : execCloseTimeout dt n s = .next t) : Within M s t := by
  have hk := within_elapse dt (sub_trans hw rfl) (within_refl M s)
  unfold execCloseTimeout after at h
  injection h with e
  subst e
  repeat' (first | intro _ | with_reducible assumption | exact sub_trans hw rfl | with_reducible apply within_closeExpiry)

theorem within_execSourceSelect {M : Nat} (dt : Nat) (v : Word) (hw : Sub 0x24640000000000000000000000000000000000000000000000000000000040500240014 M) (s t : State) (h : execSourceSelect dt v s = .next t) : Within M s t := by
  have hk := within_elapse dt (sub_trans hw rfl) (within_refl M s)
  unfold execSourceSelect after at h
  injection h with e
  subst e
  repeat' (first | intro _ | with_reducible assumption | exact sub_trans hw rfl | with_reducible apply within_onBus | with_reducible apply within_synCfgWrite)

theorem within_execPtmDialogueStart {M : Nat} (dt : Nat) (hw : Sub 0x24640000000000000000000000000000000000000000000000000000018040400240014 M) (s t : State) (h : execPtmDialogueStart dt s = .next t) : Within M s t := by
  have hk := within_elapse dt (sub_trans hw rfl) (within_refl M s)
  unfold execPtmDialogueStart after at h
  injection h with e
  subst e
  repeat' (first | intro _ | with_reducible assumption | exact sub_trans hw rfl | with_reducible apply within_ptmStart)

theorem within_execPtmDialogueComplete {M : Nat} (dt : Nat) (master : PtmMaster) (loc : PtmLocal) (hw : Sub 0x246400000000000000000000000000000000000000000000000000000063e0400277afc M) (s t : State) (h : execPtmDialogueComplete dt master loc s = .next t) : Within M s t := by
  have hk := within_elapse dt (sub_trans hw rfl) (within_refl M s)
  unfold execPtmDialogueComplete after at h
  injection h with e
  subst e
  repeat' (first | intro _ | with_reducible assumption | exact sub_trans hw rfl | with_reducible apply within_ptmComplete)

theorem within_execMeasurementFail {M : Nat} (dt : Nat) (hw : Sub 0x24640000000000000000000000000000000000000000000000000000018040400240014 M) (s t : State) (h : execMeasurementFail dt s = .next t) : Within M s t := by
  have hk := within_elapse dt (sub_trans hw rfl) (within_refl M s)
  unfold execMeasurementFail after at h
  injection h with e
  subst e
  repeat' (first | intro _ | with_reducible assumption | exact sub_trans hw rfl | with_reducible apply within_ptmFail)

theorem within_execSlewEnd {M : Nat} (dt : Nat) (hw : Sub 0x40400200014 M) (s t : State) (h : execSlewEnd dt s = .next t) : Within M s t := by
  have hk := within_elapse dt (sub_trans hw rfl) (within_refl M s)
  unfold execSlewEnd after at h
  injection h with e
  subst e
  repeat' (first | intro _ | with_reducible assumption | exact sub_trans hw rfl | with_reducible apply within_slewDone)

theorem within_execHardSet {M : Nat} (dt : Nat) (hw : Sub 0x246400000000000000000000000000000000000000000000000000080063c0400277afc M) (s t : State) (h : execHardSet dt s = .next t) : Within M s t := by
  have hk := within_elapse dt (sub_trans hw rfl) (within_refl M s)
  unfold execHardSet after at h
  injection h with e
  subst e
  repeat' (first | intro _ | with_reducible assumption | exact sub_trans hw rfl | with_reducible apply within_onBus | with_reducible apply within_synCtlWrite)

theorem within_execSyncSymbolEmit {M : Nat} (dt : Nat) (hw : Sub 0x200014 M) (s t : State) (h : execSyncSymbolEmit dt s = .next t) : Within M s t := by
  have hk := within_elapse dt (sub_trans hw rfl) (within_refl M s)
  unfold execSyncSymbolEmit after at h
  injection h with e
  subst e
  repeat' (first | intro _ | with_reducible assumption | exact sub_trans hw rfl | with_reducible apply within_syncEmit)

theorem within_execSyncSymbolReceived {M : Nat} (dt : Nat) (time : BitVec 54) (acc : BitVec 20) (early : Byte) (held : Bool) (hw : Sub 0x2464000000000000000000000000000000000000000000000000000001e3e0400277afc M) (s t : State) (h : execSyncSymbolReceived dt time acc early held s = .next t) : Within M s t := by
  have hk := within_elapse dt (sub_trans hw rfl) (within_refl M s)
  unfold execSyncSymbolReceived after at h
  injection h with e
  subst e
  repeat' (first | intro _ | with_reducible assumption | exact sub_trans hw rfl | with_reducible apply within_syncReceived)

theorem within_execSyncSymbolMissing {M : Nat} (dt : Nat) (hw : Sub 0x24640000000000000000000000000000000000000000000000000000018040400240014 M) (s t : State) (h : execSyncSymbolMissing dt s = .next t) : Within M s t := by
  have hk := within_elapse dt (sub_trans hw rfl) (within_refl M s)
  unfold execSyncSymbolMissing after at h
  injection h with e
  subst e
  repeat' (first | intro _ | with_reducible assumption | exact sub_trans hw rfl | with_reducible apply within_syncMissing)

theorem within_execScheduleEnable {M : Nat} (dt : Nat) (g : Fin 32) (hw : Sub 0x24640000000000000000000000000000000000000000000000000000840000000240034 M) (s t : State) (h : execScheduleEnable dt g s = .next t) : Within M s t := by
  have hk := within_elapse dt (sub_trans hw rfl) (within_refl M s)
  unfold execScheduleEnable after at h
  injection h with e
  subst e
  repeat' (first | intro _ | with_reducible assumption | exact sub_trans hw rfl | with_reducible apply within_onBus | with_reducible apply within_schedOn)

theorem within_execScheduleDisable {M : Nat} (dt : Nat) (g : Fin 32) (hw : Sub 0x24640000000000000000000000000000000000000000000000000000840000000240034 M) (s t : State) (h : execScheduleDisable dt g s = .next t) : Within M s t := by
  have hk := within_elapse dt (sub_trans hw rfl) (within_refl M s)
  unfold execScheduleDisable after at h
  injection h with e
  subst e
  repeat' (first | intro _ | with_reducible assumption | exact sub_trans hw rfl | with_reducible apply within_onBus | with_reducible apply within_schedOff)

theorem within_execScheduleTick {M : Nat} (dt : Nat) (g : Fin 32) (hw : Sub 0x24640000000000000000000000000000000000000000000000000000004000000240034 M) (s t : State) (h : execScheduleTick dt g s = .next t) : Within M s t := by
  have hk := within_elapse dt (sub_trans hw rfl) (within_refl M s)
  unfold execScheduleTick after at h
  injection h with e
  subst e
  repeat' (first | intro _ | with_reducible assumption | exact sub_trans hw rfl | with_reducible apply within_schedTick)

theorem within_execSyncOutEnable {M : Nat} (dt : Nat) (i : Fin 4) (v : Word) (hw : Sub 0x8000000000200014 M) (s t : State) (h : execSyncOutEnable dt i v s = .next t) : Within M s t := by
  have hk := within_elapse dt (sub_trans hw rfl) (within_refl M s)
  unfold execSyncOutEnable after at h
  injection h with e
  subst e
  repeat' (first | intro _ | with_reducible assumption | exact sub_trans hw rfl | with_reducible apply within_onBus | with_reducible apply within_syncOutOn)

theorem within_execSyncOutEdge {M : Nat} (dt : Nat) (i : Fin 4) (hw : Sub 0x200014 M) (s t : State) (h : execSyncOutEdge dt i s = .next t) : Within M s t := by
  have hk := within_elapse dt (sub_trans hw rfl) (within_refl M s)
  unfold execSyncOutEdge after at h
  injection h with e
  subst e
  repeat' (first | intro _ | with_reducible assumption | exact sub_trans hw rfl | with_reducible apply within_syncOutEdge)

theorem within_execSyncOutPulseEnd {M : Nat} (dt : Nat) (i : Fin 4) (hw : Sub 0x8000000000200014 M) (s t : State) (h : execSyncOutPulseEnd dt i s = .next t) : Within M s t := by
  have hk := within_elapse dt (sub_trans hw rfl) (within_refl M s)
  unfold execSyncOutPulseEnd after at h
  injection h with e
  subst e
  repeat' (first | intro _ | with_reducible assumption | exact sub_trans hw rfl | with_reducible apply within_syncOutEnd)

theorem within_execTimeSnapEdge {M : Nat} (dt : Nat) (hw : Sub 0x1000000200014 M) (s t : State) (h : execTimeSnapEdge dt s = .next t) : Within M s t := by
  have hk := within_elapse dt (sub_trans hw rfl) (within_refl M s)
  unfold execTimeSnapEdge after at h
  injection h with e
  subst e
  repeat' (first | intro _ | with_reducible assumption | exact sub_trans hw rfl | with_reducible apply within_snapEdge)

theorem within_execSnapRead {M : Nat} (dt : Nat) (f : Fin 9) (hw : Sub 0x200015 M) (s t : State) (h : execSnapRead dt f s = .next t) : Within M s t := by
  have hk := within_elapse dt (sub_trans hw rfl) (within_refl M s)
  unfold execSnapRead after at h
  injection h with e
  subst e
  repeat' (first | intro _ | with_reducible assumption | exact sub_trans hw rfl | with_reducible apply within_snapReadBy)

theorem within_execScheduleApplyTime {M : Nat} (dt : Nat) (g : Fin 32) (hw : Sub 0x124640000000000000000000000000000000000000000000000000000f40000000240034 M) (s t : State) (h : execScheduleApplyTime dt g s = .next t) : Within M s t := by
  have hk := within_elapse dt (sub_trans hw rfl) (within_refl M s)
  unfold execScheduleApplyTime after at h
  injection h with e
  subst e
  repeat' (first | intro _ | with_reducible assumption | exact sub_trans hw rfl | with_reducible apply within_schedApplyTime)

theorem within_execAliasWrite {M : Nat} (dt : Nat) (f : Fin 9) (a : Word) (v : Word) (hw : Sub 0x7ffffffffffffffffffffffffffffffffffffffffffffffffffffffffffffffffffb77afe M) (s t : State) (h : execAliasWrite dt f a v s = .next t) : Within M s t := by
  have hk := within_elapse dt (sub_trans hw rfl) (within_refl M s)
  unfold execAliasWrite after at h
  injection h with e
  subst e
  repeat' (first | intro _ | with_reducible assumption | exact sub_trans hw rfl | with_reducible apply within_aliasWrite)

theorem within_execSgBoundaryWrite {M : Nat} (dt : Nat) (v : Word) (hw : Sub 0x7e0000000000000000000000000000000000000003202014 M) (s t : State) (h : execSgBoundaryWrite dt v s = .next t) : Within M s t := by
  have hk := within_elapse dt (sub_trans hw rfl) (within_refl M s)
  unfold execSgBoundaryWrite after at h
  injection h with e
  subst e
  repeat' (first | intro _ | with_reducible assumption | exact sub_trans hw rfl | with_reducible apply within_onBus | with_reducible apply within_sgBoundaryWrite)

theorem within_execPairLowRead {M : Nat} (dt : Nat) (f : Fin 9) (a : BusRead) (hw : Sub 0x1ff8000000000000000000000000000000000000000000000000604015 M) (s t : State) (h : execPairLowRead dt f a s = .next t) : Within M s t := by
  have hk := within_elapse dt (sub_trans hw rfl) (within_refl M s)
  unfold execPairLowRead after at h
  injection h with e
  subst e
  repeat' (first | intro _ | with_reducible assumption | exact sub_trans hw rfl | with_reducible apply within_busRead)

theorem within_execPairLowWrite {M : Nat} (dt : Nat) (f : Fin 9) (a : Word) (v : Word) (hw : Sub 0x7ffffffffffffffffffffffffffffffffffffffffffffffffffffffffffffffffffb77afe M) (s t : State) (h : execPairLowWrite dt f a v s = .next t) : Within M s t := by
  have hk := within_elapse dt (sub_trans hw rfl) (within_refl M s)
  unfold execPairLowWrite after at h
  injection h with e
  subst e
  repeat' (first | intro _ | with_reducible assumption | exact sub_trans hw rfl | with_reducible apply within_halfWrite)

theorem within_execPairHighWrite {M : Nat} (dt : Nat) (f : Fin 9) (a : Word) (v : Word) (hw : Sub 0x7ffffffffffffffffffffffffffffffffffffffffffffffffffffffffffffffffffb77afe M) (s t : State) (h : execPairHighWrite dt f a v s = .next t) : Within M s t := by
  have hk := within_elapse dt (sub_trans hw rfl) (within_refl M s)
  unfold execPairHighWrite after at h
  injection h with e
  subst e
  repeat' (first | intro _ | with_reducible assumption | exact sub_trans hw rfl | with_reducible apply within_halfWrite)

theorem within_execRegisterWrite {M : Nat} (dt : Nat) (f : Fin 9) (a : Word) (n : Nat) (v : BitVec 64) (hw : Sub 0x7ffffffffffffffffffffffffffffffffffffffffffffffffffffffffffffffffffb77afe M) (s t : State) (h : execRegisterWrite dt f a n v s = .next t) : Within M s t := by
  have hk := within_elapse dt (sub_trans hw rfl) (within_refl M s)
  unfold execRegisterWrite after at h
  injection h with e
  subst e
  repeat' (first | intro _ | with_reducible assumption | exact sub_trans hw rfl | with_reducible apply within_busWrite)

theorem within_execExpoStage {M : Nat} (dt : Nat) (n : Fin 512) (v : Word) (hw : Sub 0x1e000000000000000000200034 M) (s t : State) (h : execExpoStage dt n v s = .next t) : Within M s t := by
  have hk := within_elapse dt (sub_trans hw rfl) (within_refl M s)
  unfold execExpoStage after at h
  injection h with e
  subst e
  repeat' (first | intro _ | with_reducible assumption | exact sub_trans hw rfl | with_reducible apply within_onBus | with_reducible apply within_expoWrite)

theorem within_execWbGainWrite {M : Nat} (dt : Nat) (n : Fin 512) (v : Word) (hw : Sub 0x50000000000000000000200014 M) (s t : State) (h : execWbGainWrite dt n v s = .next t) : Within M s t := by
  have hk := within_elapse dt (sub_trans hw rfl) (within_refl M s)
  unfold execWbGainWrite after at h
  injection h with e
  subst e
  repeat' (first | intro _ | with_reducible assumption | exact sub_trans hw rfl | with_reducible apply within_onBus | with_reducible apply within_wbWrite)

theorem within_execAeLoopStep {M : Nat} (dt : Nat) (n : Fin 512) (hw : Sub 0x2464000000000000000000000000000000000000002000e000000000000000000240034 M) (s t : State) (h : execAeLoopStep dt n s = .next t) : Within M s t := by
  have hk := within_elapse dt (sub_trans hw rfl) (within_refl M s)
  unfold execAeLoopStep after at h
  injection h with e
  subst e
  repeat' (first | intro _ | with_reducible assumption | exact sub_trans hw rfl | with_reducible apply within_aeLoop)

theorem within_execAwbLoopStep {M : Nat} (dt : Nat) (n : Fin 512) (hw : Sub 0x40000000000000000000200034 M) (s t : State) (h : execAwbLoopStep dt n s = .next t) : Within M s t := by
  have hk := within_elapse dt (sub_trans hw rfl) (within_refl M s)
  unfold execAwbLoopStep after at h
  injection h with e
  subst e
  repeat' (first | intro _ | with_reducible assumption | exact sub_trans hw rfl | with_reducible apply within_awbLoop)

theorem within_execPpbSelect {M : Nat} (dt : Nat) (n : Fin 512) (v : Word) (hw : Sub 0x200000000000000000000000200014 M) (s t : State) (h : execPpbSelect dt n v s = .next t) : Within M s t := by
  have hk := within_elapse dt (sub_trans hw rfl) (within_refl M s)
  unfold execPpbSelect after at h
  injection h with e
  subst e
  repeat' (first | intro _ | with_reducible assumption | exact sub_trans hw rfl | with_reducible apply within_onBus | with_reducible apply within_ppbSelect)

theorem within_execOutCredit {M : Nat} (dt : Nat) (n : Fin 512) (v : Word) (hw : Sub 0x24640000000000000000000000000000000000400000000000000000000000000240014 M) (s t : State) (h : execOutCredit dt n v s = .next t) : Within M s t := by
  have hk := within_elapse dt (sub_trans hw rfl) (within_refl M s)
  unfold execOutCredit after at h
  injection h with e
  subst e
  repeat' (first | intro _ | with_reducible assumption | exact sub_trans hw rfl | with_reducible apply within_onBus | with_reducible apply within_outCredit)

theorem within_execDmaRegulatorWrite {M : Nat} (dt : Nat) (i : Fin 16) (v : Word) (hw : Sub 0x1000000000000000000000000000000000000200094 M) (s t : State) (h : execDmaRegulatorWrite dt i v s = .next t) : Within M s t := by
  have hk := within_elapse dt (sub_trans hw rfl) (within_refl M s)
  unfold execDmaRegulatorWrite after at h
  injection h with e
  subst e
  repeat' (first | intro _ | with_reducible assumption | exact sub_trans hw rfl | with_reducible apply within_onBus | with_reducible apply within_regulatorWrite)

theorem within_execStreamStart {M : Nat} (dt : Nat) (r : CmdName) (hw : Sub 0x24640000000000000010400000000000007893c0003c0307f8000000000000020247cfc M) (s t : State) (h : execStreamStart dt r s = .next t) : Within M s t := by
  have hk := within_elapse dt (sub_trans hw rfl) (within_refl M s)
  unfold execStreamStart after at h
  injection h with e
  subst e
  repeat' (first | intro _ | with_reducible assumption | exact sub_trans hw rfl | with_reducible apply within_streamStart)

theorem within_execStreamStopDrain {M : Nat} (dt : Nat) (r : CmdName) (hw : Sub 0x24640000000000000010400080002c200100004000000000080000000000000002475fc M) (s t : State) (h : execStreamStopDrain dt r s = .next t) : Within M s t := by
  have hk := within_elapse dt (sub_trans hw rfl) (within_refl M s)
  unfold execStreamStopDrain after at h
  injection h with e
  subst e
  repeat' (first | intro _ | with_reducible assumption | exact sub_trans hw rfl | with_reducible apply within_streamStop)

theorem within_execStreamStopAbort {M : Nat} (dt : Nat) (r : CmdName) (hw : Sub 0x24640000000000000010400080002c200100004000000000080000000000000002475fc M) (s t : State) (h : execStreamStopAbort dt r s = .next t) : Within M s t := by
  have hk := within_elapse dt (sub_trans hw rfl) (within_refl M s)
  unfold execStreamStopAbort after at h
  injection h with e
  subst e
  repeat' (first | intro _ | with_reducible assumption | exact sub_trans hw rfl | with_reducible apply within_streamStop)

theorem within_execStreamStopped {M : Nat} (dt : Nat) (n : Fin 512) (hw : Sub 0x24640000000000000110400000000000000000000000000008000000000000000247034 M) (s t : State) (h : execStreamStopped dt n s = .next t) : Within M s t := by
  have hk := within_elapse dt (sub_trans hw rfl) (within_refl M s)
  unfold execStreamStopped after at h
  injection h with e
  subst e
  repeat' (first | intro _ | with_reducible assumption | exact sub_trans hw rfl | with_reducible apply within_streamStopped)

theorem within_execPrintStripe {M : Nat} (dt : Nat) (n : Fin 512) (q : Word) (k : Byte) (core : Fin 16) (hw : Sub 0x24640000000000000010400000000000000000c00000000000000000000000000245074 M) (s t : State) (h : execPrintStripe dt n q k core s = .next t) : Within M s t := by
  have hk := within_elapse dt (sub_trans hw rfl) (within_refl M s)
  unfold execPrintStripe after at h
  injection h with e
  subst e
  repeat' (first | intro _ | with_reducible assumption | exact sub_trans hw rfl | with_reducible apply within_printStripe)

theorem within_execOutputRowWrite {M : Nat} (dt : Nat) (n : Fin 512) (q : Word) (o : Byte) (core : Fin 16) (hw : Sub 0x24640000000000000010400000000000000001c00000000000000000000000000245074 M) (s t : State) (h : execOutputRowWrite dt n q o core s = .next t) : Within M s t := by
  have hk := within_elapse dt (sub_trans hw rfl) (within_refl M s)
  unfold execOutputRowWrite after at h
  injection h with e
  subst e
  repeat' (first | intro _ | with_reducible assumption | exact sub_trans hw rfl | with_reducible apply within_writeRow)

theorem within_execOutputPoolTimeout {M : Nat} (dt : Nat) (n : Fin 512) (q : Word) (hw : Sub 0x24640000000000000010400000000000000001c00000000000000000000000000245074 M) (s t : State) (h : execOutputPoolTimeout dt n q s = .next t) : Within M s t := by
  have hk := within_elapse dt (sub_trans hw rfl) (within_refl M s)
  unfold execOutputPoolTimeout after at h
  injection h with e
  subst e
  repeat' (first | intro _ | with_reducible assumption | exact sub_trans hw rfl | with_reducible apply within_poolTimeout)

theorem within_execOutputRowComplete {M : Nat} (dt : Nat) (n : Fin 512) (q : Word) (hw : Sub 0x24640000000000000010400000000000000000c00000000000000000000000000245074 M) (s t : State) (h : execOutputRowComplete dt n q s = .next t) : Within M s t := by
  have hk := within_elapse dt (sub_trans hw rfl) (within_refl M s)
  unfold execOutputRowComplete after at h
  injection h with e
  subst e
  repeat' (first | intro _ | with_reducible assumption | exact sub_trans hw rfl | with_reducible apply within_rowComplete)

theorem within_execSlotHeaderComplete {M : Nat} (dt : Nat) (n : Fin 512) (q : Word) (hw : Sub 0x24640000000000000010400000000000000000400000000000000000000000000245074 M) (s t : State) (h : execSlotHeaderComplete dt n q s = .next t) : Within M s t := by
  have hk := within_elapse dt (sub_trans hw rfl) (within_refl M s)
  unfold execSlotHeaderComplete after at h
  injection h with e
  subst e
  repeat' (first | intro _ | with_reducible assumption | exact sub_trans hw rfl | with_reducible apply within_headerComplete)

theorem within_execWorkShareQueue {M : Nat} (dt : Nat) (g : Fin 16) (w : Fin 32) (n : Fin 512) (q : Word) (k : Byte) (hw : Sub 0xc00000200100000000000000000000000000000002020d4 M) (s t : State) (h : execWorkShareQueue dt g w n q k s = .next t) : Within M s t := by
  have hk := within_elapse dt (sub_trans hw rfl) (within_refl M s)
  unfold execWorkShareQueue after at h
  injection h with e
  subst e
  repeat' (first | intro _ | with_reducible assumption | exact sub_trans hw rfl | with_reducible apply within_workShareQueue)

theorem within_execStripeLaunch {M : Nat} (dt : Nat) (g : Fin 16) (w : Fin 32) (n : Fin 512) (q : Word) (k : Byte) (at_ : BitVec 64) (hw : Sub 0xc00000200100000000000000000000000000000002020d4 M) (s t : State) (h : execStripeLaunch dt g w n q k at_ s = .next t) : Within M s t := by
  have hk := within_elapse dt (sub_trans hw rfl) (within_refl M s)
  unfold execStripeLaunch after at h
  injection h with e
  subst e
  repeat' (first | intro _ | with_reducible assumption | exact sub_trans hw rfl | with_reducible apply within_stripeLaunch)

theorem within_execStripeBoundary {M : Nat} (dt : Nat) (i : Fin 16) (hw : Sub 0x246400000000000000000000800002220100020000000000000000000000000002420d4 M) (s t : State) (h : execStripeBoundary dt i s = .next t) : Within M s t := by
  have hk := within_elapse dt (sub_trans hw rfl) (within_refl M s)
  unfold execStripeBoundary after at h
  injection h with e
  subst e
  repeat' (first | intro _ | with_reducible assumption | exact sub_trans hw rfl | with_reducible apply within_stripeBoundary)

theorem within_execWcDraw {M : Nat} (dt : Nat) (i : Fin 16) (c : Fin 8) (w : Fin 32) (hw : Sub 0x246400000000000000000000800002200100020000000000000000000000000002420d4 M) (s t : State) (h : execWcDraw dt i c w s = .next t) : Within M s t := by
  have hk := within_elapse dt (sub_trans hw rfl) (within_refl M s)
  unfold execWcDraw after at h
  injection h with e
  subst e
  repeat' (first | intro _ | with_reducible assumption | exact sub_trans hw rfl | with_reducible apply within_wcDraw)

theorem within_execWcCommit {M : Nat} (dt : Nat) (i : Fin 16) (o : CommitOp) (hw : Sub 0x246400000000000000000002800000200100000000000000000000000000000002425f4 M) (s t : State) (h : execWcCommit dt i o s = .next t) : Within M s t := by
  have hk := within_elapse dt (sub_trans hw rfl) (within_refl M s)
  unfold execWcCommit after at h
  injection h with e
  subst e
  repeat' (first | intro _ | with_reducible assumption | exact sub_trans hw rfl | with_reducible apply within_wcCommit)

theorem within_execLeaseRenew {M : Nat} (dt : Nat) (i : Fin 16) (hw : Sub 0x80000000000000000000000000000000000000000202094 M) (s t : State) (h : execLeaseRenew dt i s = .next t) : Within M s t := by
  have hk := within_elapse dt (sub_trans hw rfl) (within_refl M s)
  unfold execLeaseRenew after at h
  injection h with e
  subst e
  repeat' (first | intro _ | with_reducible assumption | exact sub_trans hw rfl | with_reducible apply within_renewLeases)

theorem within_execLeaseExpiry {M : Nat} (dt : Nat) (g : Fin 16) (w : Fin 32) (idx : Word) (hw : Sub 0x24640000000000000000000180000020010000000000000000000000000000000242094 M) (s t : State) (h : execLeaseExpiry dt g w idx s = .next t) : Within M s t := by
  have hk := within_elapse dt (sub_trans hw rfl) (within_refl M s)
  unfold execLeaseExpiry after at h
  injection h with e
  subst e
  repeat' (first | intro _ | with_reducible assumption | exact sub_trans hw rfl | with_reducible apply within_leaseExpiry)

theorem within_execCoreRestoreComplete {M : Nat} (dt : Nat) (i : Fin 16) (hw : Sub 0x24640000000000000010400020ffeff7f700020000000000000000000000000002471f4 M) (s t : State) (h : execCoreRestoreComplete dt i s = .next t) : Within M s t := by
  have hk := within_elapse dt (sub_trans hw rfl) (within_refl M s)
  unfold execCoreRestoreComplete after at h
  injection h with e
  subst e
  repeat' (first | intro _ | with_reducible assumption | exact sub_trans hw rfl | with_reducible apply within_coreRestored)

theorem within_execArrayTile {M : Nat} (dt : Nat) (i : Fin 16) (c : Fin 8) (o : TileOp) (hw : Sub 0x24640000000000000010400080002c200340904000000000080000000000000002475fc M) (s t : State) (h : execArrayTile dt i c o s = .next t) : Within M s t := by
  have hk := within_elapse dt (sub_trans hw rfl) (within_refl M s)
  unfold execArrayTile after at h
  injection h with e
  subst e
  repeat' (first | intro _ | with_reducible assumption | exact sub_trans hw rfl | with_reducible apply within_arrayTile)

theorem within_execArrayComplete {M : Nat} (dt : Nat) (i : Fin 16) (hw : Sub 0x300100000000000000000000000000000002421b4 M) (s t : State) (h : execArrayComplete dt i s = .next t) : Within M s t := by
  have hk := within_elapse dt (sub_trans hw rfl) (within_refl M s)
  unfold execArrayComplete after at h
  injection h with e
  subst e
  repeat' (first | intro _ | with_reducible assumption | exact sub_trans hw rfl | with_reducible apply within_arrayComplete)

theorem within_execVectorOp {M : Nat} (dt : Nat) (i : Fin 16) (c : Fin 8) (f : VFun) (srcs : List VSrc) (dst : VDst) (lines : BitVec 16) (record : Option Byte) (hw : Sub 0x24640000000000000010400080002c200340904000000000080000000000000002475fc M) (s t : State) (h : execVectorOp dt i c f srcs dst lines record s = .next t) : Within M s t := by
  have hk := within_elapse dt (sub_trans hw rfl) (within_refl M s)
  unfold execVectorOp after at h
  injection h with e
  subst e
  repeat' (first | intro _ | with_reducible assumption | exact sub_trans hw rfl | with_reducible apply within_vectorIssue | with_reducible apply within_map)

theorem within_execVectorConvert {M : Nat} (dt : Nat) (i : Fin 16) (c : Fin 8) (o : ConvertOp) (hw : Sub 0x24640000000000000010400080002c200340904000000000080000000000000002475fc M) (s t : State) (h : execVectorConvert dt i c o s = .next t) : Within M s t := by
  have hk := within_elapse dt (sub_trans hw rfl) (within_refl M s)
  unfold execVectorConvert after at h
  injection h with e
  subst e
  repeat' (first | intro _ | with_reducible assumption | exact sub_trans hw rfl | with_reducible apply within_convertOp)

theorem within_execVectorReduction {M : Nat} (dt : Nat) (i : Fin 16) (c : Fin 8) (f : VFold) (src : VSrc) (dst : VDst) (lines : BitVec 16) (hw : Sub 0x24640000000000000010400080002c200340904000000000080000000000000002475fc M) (s t : State) (h : execVectorReduction dt i c f src dst lines s = .next t) : Within M s t := by
  have hk := within_elapse dt (sub_trans hw rfl) (within_refl M s)
  unfold execVectorReduction after at h
  injection h with e
  subst e
  repeat' (first | intro _ | with_reducible assumption | exact sub_trans hw rfl | with_reducible apply within_reduceIssue)

theorem within_execVectorComplete {M : Nat} (dt : Nat) (i : Fin 16) (hw : Sub 0x20010000000000000000000000000000000240094 M) (s t : State) (h : execVectorComplete dt i s = .next t) : Within M s t := by
  have hk := within_elapse dt (sub_trans hw rfl) (within_refl M s)
  unfold execVectorComplete after at h
  injection h with e
  subst e
  repeat' (first | intro _ | with_reducible assumption | exact sub_trans hw rfl | with_reducible apply within_vectorComplete)

theorem within_execRescaleLoad {M : Nat} (dt : Nat) (i : Fin 16) (c : Fin 8) (src : Word) (e : BitVec 10) (n : BitVec 11) (hw : Sub 0x24640000000000000010400080002c200340904000000000080000000000000002475fc M) (s t : State) (h : execRescaleLoad dt i c src e n s = .next t) : Within M s t := by
  have hk := within_elapse dt (sub_trans hw rfl) (within_refl M s)
  unfold execRescaleLoad after at h
  injection h with e
  subst e
  repeat' (first | intro _ | with_reducible assumption | exact sub_trans hw rfl | with_reducible apply within_rescaleLoad)

theorem within_execGrid {M : Nat} (dt : Nat) (i : Fin 16) (c : Fin 8) (g : Byte) (p : BitVec 16) (r : BitVec 5) (hw : Sub 0x24640000000000000010400080002c200340904000000000080000000000000002475fc M) (s t : State) (h : execGrid dt i c g p r s = .next t) : Within M s t := by
  have hk := within_elapse dt (sub_trans hw rfl) (within_refl M s)
  unfold execGrid after at h
  injection h with e
  subst e
  repeat' (first | intro _ | with_reducible assumption | exact sub_trans hw rfl | with_reducible apply within_gridIssue)

theorem within_execGridTileIssue {M : Nat} (dt : Nat) (i : Fin 16) (c : Fin 8) (hw : Sub 0x24640000000000000010400080002c200340904000000000080000000000000002475fc M) (s t : State) (h : execGridTileIssue dt i c s = .next t) : Within M s t := by
  have hk := within_elapse dt (sub_trans hw rfl) (within_refl M s)
  unfold execGridTileIssue after at h
  injection h with e
  subst e
  repeat' (first | intro _ | with_reducible assumption | exact sub_trans hw rfl | with_reducible apply within_gridTileIssue)

theorem within_execRchk {M : Nat} (dt : Nat) (i : Fin 16) (c : Fin 8) (record : Byte) (hw : Sub 0x24640000000000000000000000000021f100000000000000000000000000000002400d4 M) (s t : State) (h : execRchk dt i c record s = .next t) : Within M s t := by
  have hk := within_elapse dt (sub_trans hw rfl) (within_refl M s)
  unfold execRchk after at h
  injection h with e
  subst e
  repeat' (first | intro _ | with_reducible assumption | exact sub_trans hw rfl | with_reducible apply within_rchk)

theorem within_execControlWait {M : Nat} (dt : Nat) (i : Fin 16) (c : Fin 8) (w : WaitFor) (hw : Sub 0x20010000000000000000000000000000000200094 M) (s t : State) (h : execControlWait dt i c w s = .next t) : Within M s t := by
  have hk := within_elapse dt (sub_trans hw rfl) (within_refl M s)
  unfold execControlWait after at h
  injection h with e
  subst e
  repeat' (first | intro _ | with_reducible assumption | exact sub_trans hw rfl | with_reducible apply within_controlWait)

theorem within_execBarrierArrive {M : Nat} (dt : Nat) (i : Fin 16) (c : Fin 8) (b : BarScope) (hw : Sub 0x200100000000000000000000000000000002021b4 M) (s t : State) (h : execBarrierArrive dt i c b s = .next t) : Within M s t := by
  have hk := within_elapse dt (sub_trans hw rfl) (within_refl M s)
  unfold execBarrierArrive after at h
  injection h with e
  subst e
  repeat' (first | intro _ | with_reducible assumption | exact sub_trans hw rfl | with_reducible apply within_barrierArrive)

theorem within_execBarrierWait {M : Nat} (dt : Nat) (i : Fin 16) (c : Fin 8) (b : BarScope) (phase : Nat) (hw : Sub 0x20010000000000000000000000000000000200094 M) (s t : State) (h : execBarrierWait dt i c b phase s = .next t) : Within M s t := by
  have hk := within_elapse dt (sub_trans hw rfl) (within_refl M s)
  unfold execBarrierWait after at h
  injection h with e
  subst e
  repeat' (first | intro _ | with_reducible assumption | exact sub_trans hw rfl | with_reducible apply within_barrierWait)

theorem within_execBarrierTimeout {M : Nat} (dt : Nat) (i : Fin 16) (c : Fin 8) (hw : Sub 0x24640000000000000010400080002c200340904000000000080000000000000002475fc M) (s t : State) (h : execBarrierTimeout dt i c s = .next t) : Within M s t := by
  have hk := within_elapse dt (sub_trans hw rfl) (within_refl M s)
  unfold execBarrierTimeout after at h
  injection h with e
  subst e
  repeat' (first | intro _ | with_reducible assumption | exact sub_trans hw rfl | with_reducible apply within_barrierTimeout)

theorem within_execRingReceivePost {M : Nat} (dt : Nat) (i : Fin 16) (c : Fin 8) (a : Word) (len : Word) (hw : Sub 0x24640000000000000010400080002c200340904000000000080000000000000002475fc M) (s t : State) (h : execRingReceivePost dt i c a len s = .next t) : Within M s t := by
  have hk := within_elapse dt (sub_trans hw rfl) (within_refl M s)
  unfold execRingReceivePost after at h
  injection h with e
  subst e
  repeat' (first | intro _ | with_reducible assumption | exact sub_trans hw rfl | with_reducible apply within_ringReceivePost)

theorem within_execRingSend {M : Nat} (dt : Nat) (i : Fin 16) (c : Fin 8) (a : Word) (len : Word) (mask : BitVec 16) (hw : Sub 0x24640000000000000010400080002c200340904000000000080000000000000002475fc M) (s t : State) (h : execRingSend dt i c a len mask s = .next t) : Within M s t := by
  have hk := within_elapse dt (sub_trans hw rfl) (within_refl M s)
  unfold execRingSend after at h
  injection h with e
  subst e
  repeat' (first | intro _ | with_reducible assumption | exact sub_trans hw rfl | with_reducible apply within_ringSend)

theorem within_execRingComplete {M : Nat} (dt : Nat) (i : Fin 16) (hw : Sub 0x20010000000000000000000000000000000200094 M) (s t : State) (h : execRingComplete dt i s = .next t) : Within M s t := by
  have hk := within_elapse dt (sub_trans hw rfl) (within_refl M s)
  unfold execRingComplete after at h
  injection h with e
  subst e
  repeat' (first | intro _ | with_reducible assumption | exact sub_trans hw rfl | with_reducible apply within_ringComplete)

theorem within_execRingTimeout {M : Nat} (dt : Nat) (i : Fin 16) (c : Fin 8) (hw : Sub 0x24640000000000000010400080002c200340904000000000080000000000000002475fc M) (s t : State) (h : execRingTimeout dt i c s = .next t) : Within M s t := by
  have hk := within_elapse dt (sub_trans hw rfl) (within_refl M s)
  unfold execRingTimeout after at h
  injection h with e
  subst e
  repeat' (first | intro _ | with_reducible assumption | exact sub_trans hw rfl | with_reducible apply within_ringTimeout)

theorem within_execSpadEccError {M : Nat} (dt : Nat) (i : Fin 16) (c : Fin 8) (pc : BitVec 12) (uncorrectable : Bool) (hw : Sub 0x24640000000000000010400080002c200740904000000000080000000000000002475fc M) (s t : State) (h : execSpadEccError dt i c pc uncorrectable s = .next t) : Within M s t := by
  have hk := within_elapse dt (sub_trans hw rfl) (within_refl M s)
  unfold execSpadEccError after at h
  injection h with e
  subst e
  repeat' (first | intro _ | with_reducible assumption | exact sub_trans hw rfl | with_reducible apply within_spadEcc)

theorem within_execDmaInstruction {M : Nat} (dt : Nat) (i : Fin 16) (c : Fin 8) (o : DmaOp) (hw : Sub 0x24640000000000000010400080002c200340904000000000080000000000000002475fc M) (s t : State) (h : execDmaInstruction dt i c o s = .next t) : Within M s t := by
  have hk := within_elapse dt (sub_trans hw rfl) (within_refl M s)
  unfold execDmaInstruction after at h
  injection h with e
  subst e
  repeat' (first | intro _ | with_reducible assumption | exact sub_trans hw rfl | with_reducible apply within_dmaInstruction)

theorem within_execDmaTransferPlace {M : Nat} (dt : Nat) (i : Fin 16) (hw : Sub 0x24640000004000000000400400efec200140900000000000000000000000000003427b4 M) (s t : State) (h : execDmaTransferPlace dt i s = .next t) : Within M s t := by
  have hk := within_elapse dt (sub_trans hw rfl) (within_refl M s)
  unfold execDmaTransferPlace after at h
  injection h with e
  subst e
  repeat' (first | intro _ | with_reducible assumption | exact sub_trans hw rfl | with_reducible apply within_transferPlace)

theorem within_execDmaPieceIssue {M : Nat} (dt : Nat) (i : Fin 16) (write : Bool) (returned : List (Fin 16 × Byte)) (hw : Sub 0x246400000040000000104000000fec00000000000000000000000000000000000245294 M) (s t : State) (h : execDmaPieceIssue dt i write returned s = .next t) : Within M s t := by
  have hk := within_elapse dt (sub_trans hw rfl) (within_refl M s)
  unfold execDmaPieceIssue after at h
  injection h with e
  subst e
  repeat' (first | intro _ | with_reducible assumption | exact sub_trans hw rfl | with_reducible apply within_pieceIssue | with_reducible apply within_map)

theorem within_execDmaRowDelivered {M : Nat} (dt : Nat) (i : Fin 16) (q : Fin 16) (k : Byte) (row : Word) (host : List Byte) (hw : Sub 0x24640000004000000000400400efeea00140900000000000000000000000000003427f4 M) (s t : State) (h : execDmaRowDelivered dt i q k row host s = .next t) : Within M s t := by
  have hk := within_elapse dt (sub_trans hw rfl) (within_refl M s)
  unfold execDmaRowDelivered after at h
  injection h with e
  subst e
  repeat' (first | intro _ | with_reducible assumption | exact sub_trans hw rfl | with_reducible apply within_rowDelivered)

theorem within_execFaultWalk {M : Nat} (dt : Nat) (i : Fin 16) (q : Fin 16) (hw : Sub 0x24640000004000000100400400ffee200140900000000000000000000000000003427f4 M) (s t : State) (h : execFaultWalk dt i q s = .next t) : Within M s t := by
  have hk := within_elapse dt (sub_trans hw rfl) (within_refl M s)
  unfold execFaultWalk after at h
  injection h with e
  subst e
  repeat' (first | intro _ | with_reducible assumption | exact sub_trans hw rfl | with_reducible apply within_faultWalk)

theorem within_execFaultWaitExpiry {M : Nat} (dt : Nat) (i : Fin 16) (q : Fin 16) (hw : Sub 0x24640000004000000000400400efee200140900000000000000000000000000003427f4 M) (s t : State) (h : execFaultWaitExpiry dt i q s = .next t) : Within M s t := by
  have hk := within_elapse dt (sub_trans hw rfl) (within_refl M s)
  unfold execFaultWaitExpiry after at h
  injection h with e
  subst e
  repeat' (first | intro _ | with_reducible assumption | exact sub_trans hw rfl | with_reducible apply within_faultExpiry)

theorem within_execHoldCacheRequest {M : Nat} (dt : Nat) (x : Fin 9) (line : BitVec 32) (acc : MemAcc) (noAlloc : Bool) (key : BitVec 64) (o : HoldFrom) (hw : Sub 0x6010000000000000000000000000000000000000000240214 M) (s t : State) (h : execHoldCacheRequest dt x line acc noAlloc key o s = .next t) : Within M s t := by
  have hk := within_elapse dt (sub_trans hw rfl) (within_refl M s)
  unfold execHoldCacheRequest after at h
  injection h with e
  subst e
  repeat' (first | intro _ | with_reducible assumption | exact sub_trans hw rfl | with_reducible apply within_holdRequest)

theorem within_execDdr5ReadReturn {M : Nat} (dt : Nat) (c : Fin 8) (cipher : List Byte) (side : List Byte) (hw : Sub 0x246400000000000000000fe800000000000000000000000000000000000000000340214 M) (s t : State) (h : execDdr5ReadReturn dt c cipher side s = .next t) : Within M s t := by
  have hk := within_elapse dt (sub_trans hw rfl) (within_refl M s)
  unfold execDdr5ReadReturn after at h
  injection h with e
  subst e
  repeat' (first | intro _ | with_reducible assumption | exact sub_trans hw rfl | with_reducible apply within_ddrReturn)

theorem within_execDdr5RequestServe {M : Nat} (dt : Nat) (c : Fin 8) (held : List (BitVec 32)) (hw : Sub 0x24640000000000000010400800000000000000000000000000000000000000000245214 M) (s t : State) (h : execDdr5RequestServe dt c held s = .next t) : Within M s t := by
  have hk := within_elapse dt (sub_trans hw rfl) (within_refl M s)
  unfold execDdr5RequestServe after at h
  injection h with e
  subst e
  repeat' (first | intro _ | with_reducible assumption | exact sub_trans hw rfl | with_reducible apply within_ddrServe | with_reducible apply within_map)

theorem within_execDdr5BlockWrite {M : Nat} (dt : Nat) (line : BitVec 32) (hw : Sub 0x800000000000000000000000000000000000000000240214 M) (s t : State) (h : execDdr5BlockWrite dt line s = .next t) : Within M s t := by
  have hk := within_elapse dt (sub_trans hw rfl) (within_refl M s)
  unfold execDdr5BlockWrite after at h
  injection h with e
  subst e
  repeat' (first | intro _ | with_reducible assumption | exact sub_trans hw rfl | with_reducible apply within_writeBlock)

theorem within_execRefreshInterval {M : Nat} (dt : Nat) (c : Fin 8) (hw : Sub 0x200214 M) (s t : State) (h : execRefreshInterval dt c s = .next t) : Within M s t := by
  have hk := within_elapse dt (sub_trans hw rfl) (within_refl M s)
  unfold execRefreshInterval after at h
  injection h with e
  subst e
  repeat' (first | intro _ | with_reducible assumption | exact sub_trans hw rfl | with_reducible apply within_refresh)

theorem within_execDramHot {M : Nat} (dt : Nat) (hw : Sub 0x800000000000000000000000000000000000000000200014 M) (s t : State) (h : execDramHot dt s = .next t) : Within M s t := by
  have hk := within_elapse dt (sub_trans hw rfl) (within_refl M s)
  unfold execDramHot after at h
  injection h with e
  subst e
  repeat' (first | intro _ | with_reducible assumption | exact sub_trans hw rfl | with_reducible apply within_dramHot)

theorem within_execDramHotEnd {M : Nat} (dt : Nat) (hw : Sub 0x800000000000000000000000000000000000000000200014 M) (s t : State) (h : execDramHotEnd dt s = .next t) : Within M s t := by
  have hk := within_elapse dt (sub_trans hw rfl) (within_refl M s)
  unfold execDramHotEnd after at h
  injection h with e
  subst e
  repeat' (first | intro _ | with_reducible assumption | exact sub_trans hw rfl | with_reducible apply within_dramCool)

theorem within_execTrainingPair {M : Nat} (dt : Nat) (n : Fin 512) (q : Word) (input : List Byte) (hw : Sub 0x24640000000000000000000000000000001800000000000000000000000000000240414 M) (s t : State) (h : execTrainingPair dt n q input s = .next t) : Within M s t := by
  have hk := within_elapse dt (sub_trans hw rfl) (within_refl M s)
  unfold execTrainingPair after at h
  injection h with e
  subst e
  repeat' (first | intro _ | with_reducible assumption | exact sub_trans hw rfl | with_reducible apply within_trainingPair)

theorem within_execReversePipelineRun {M : Nat} (dt : Nat) (n : Fin 512) (q : Word) (hw : Sub 0x200494 M) (s t : State) (h : execReversePipelineRun dt n q s = .next t) : Within M s t := by
  have hk := within_elapse dt (sub_trans hw rfl) (within_refl M s)
  unfold execReversePipelineRun after at h
  injection h with e
  subst e
  repeat' (first | intro _ | with_reducible assumption | exact sub_trans hw rfl | with_reducible apply within_reversePipeline)

theorem within_execTrainingStripeQueue {M : Nat} (dt : Nat) (n : Fin 512) (w : Fin 32) (hw : Sub 0xc0000020010000000000000000000000000000000202094 M) (s t : State) (h : execTrainingStripeQueue dt n w s = .next t) : Within M s t := by
  have hk := within_elapse dt (sub_trans hw rfl) (within_refl M s)
  unfold execTrainingStripeQueue after at h
  injection h with e
  subst e
  repeat' (first | intro _ | with_reducible assumption | exact sub_trans hw rfl | with_reducible apply within_trainingStripe)

theorem within_execTrainingStep {M : Nat} (dt : Nat) (n : Fin 512) (hw : Sub 0x200494 M) (s t : State) (h : execTrainingStep dt n s = .next t) : Within M s t := by
  have hk := within_elapse dt (sub_trans hw rfl) (within_refl M s)
  unfold execTrainingStep after at h
  injection h with e
  subst e
  repeat' (first | intro _ | with_reducible assumption | exact sub_trans hw rfl | with_reducible apply within_trainingStep)

theorem within_execCandidateEncode {M : Nat} (dt : Nat) (n : Fin 512) (hw : Sub 0x24640000000000000000400000000000004090000000000000000000000000000240414 M) (s t : State) (h : execCandidateEncode dt n s = .next t) : Within M s t := by
  have hk := within_elapse dt (sub_trans hw rfl) (within_refl M s)
  unfold execCandidateEncode after at h
  injection h with e
  subst e
  repeat' (first | intro _ | with_reducible assumption | exact sub_trans hw rfl | with_reducible apply within_candidateEncode)

theorem within_execGateDecision {M : Nat} (dt : Nat) (n : Fin 512) (hw : Sub 0x24640000000000000000400000000000002080000000000000000000000000000240414 M) (s t : State) (h : execGateDecision dt n s = .next t) : Within M s t := by
  have hk := within_elapse dt (sub_trans hw rfl) (within_refl M s)
  unfold execGateDecision after at h
  injection h with e
  subst e
  repeat' (first | intro _ | with_reducible assumption | exact sub_trans hw rfl | with_reducible apply within_gateDecision)

theorem within_execHeadSetStage {M : Nat} (dt : Nat) (n : Fin 512) (hw : Sub 0x24640000000000000000400000000000000080000000000000000000000000000240434 M) (s t : State) (h : execHeadSetStage dt n s = .next t) : Within M s t := by
  have hk := within_elapse dt (sub_trans hw rfl) (within_refl M s)
  unfold execHeadSetStage after at h
  injection h with e
  subst e
  repeat' (first | intro _ | with_reducible assumption | exact sub_trans hw rfl | with_reducible apply within_headSetStage)

theorem within_execAdaptBudgetWindowEnd {M : Nat} (dt : Nat) (i : Fin 16) (hw : Sub 0x10000000000000000000000000000000000200094 M) (s t : State) (h : execAdaptBudgetWindowEnd dt i s = .next t) : Within M s t := by
  have hk := within_elapse dt (sub_trans hw rfl) (within_refl M s)
  unfold execAdaptBudgetWindowEnd after at h
  injection h with e
  subst e
  repeat' (first | intro _ | with_reducible assumption | exact sub_trans hw rfl | with_reducible apply within_adaptWindow)

theorem within_execAdaptStart {M : Nat} (dt : Nat) (r : CmdName) (hw : Sub 0x24640000000000000010400000000000004090000000000000000000000000000645414 M) (s t : State) (h : execAdaptStart dt r s = .next t) : Within M s t := by
  have hk := within_elapse dt (sub_trans hw rfl) (within_refl M s)
  unfold execAdaptStart after at h
  injection h with e
  subst e
  repeat' (first | intro _ | with_reducible assumption | exact sub_trans hw rfl | with_reducible apply within_onAdapt | with_reducible apply within_adaptStart)

theorem within_execAdaptStop {M : Nat} (dt : Nat) (r : CmdName) (hw : Sub 0x24640000000000000010400000000000000010000000000000000000000000000245c14 M) (s t : State) (h : execAdaptStop dt r s = .next t) : Within M s t := by
  have hk := within_elapse dt (sub_trans hw rfl) (within_refl M s)
  unfold execAdaptStop after at h
  injection h with e
  subst e
  repeat' (first | intro _ | with_reducible assumption | exact sub_trans hw rfl | with_reducible apply within_onAdapt | with_reducible apply within_adaptStop)

theorem within_execAdaptPause {M : Nat} (dt : Nat) (r : CmdName) (hw : Sub 0x24640000000000000010400000000000004090000000000000000000000000000245414 M) (s t : State) (h : execAdaptPause dt r s = .next t) : Within M s t := by
  have hk := within_elapse dt (sub_trans hw rfl) (within_refl M s)
  unfold execAdaptPause after at h
  injection h with e
  subst e
  repeat' (first | intro _ | with_reducible assumption | exact sub_trans hw rfl | with_reducible apply within_onAdapt | with_reducible apply within_adaptPause)

theorem within_execAdaptResume {M : Nat} (dt : Nat) (r : CmdName) (hw : Sub 0x24640000000000000010400000000000000090000000000000000000000000000245414 M) (s t : State) (h : execAdaptResume dt r s = .next t) : Within M s t := by
  have hk := within_elapse dt (sub_trans hw rfl) (within_refl M s)
  unfold execAdaptResume after at h
  injection h with e
  subst e
  repeat' (first | intro _ | with_reducible assumption | exact sub_trans hw rfl | with_reducible apply within_onAdapt | with_reducible apply within_adaptResume)

theorem within_execAdaptRevert {M : Nat} (dt : Nat) (r : CmdName) (hw : Sub 0x24640000000000000010400000000000000080000000000000000000000000000245434 M) (s t : State) (h : execAdaptRevert dt r s = .next t) : Within M s t := by
  have hk := within_elapse dt (sub_trans hw rfl) (within_refl M s)
  unfold execAdaptRevert after at h
  injection h with e
  subst e
  repeat' (first | intro _ | with_reducible assumption | exact sub_trans hw rfl | with_reducible apply within_onAdapt | with_reducible apply within_adaptRevert)

theorem within_execAdaptRefs {M : Nat} (dt : Nat) (r : CmdName) (refs : List (BitVec 64 × BitVec 32 × BitVec 32)) (hw : Sub 0x24640000000000000010400000000000000000000000000000000000000000000245414 M) (s t : State) (h : execAdaptRefs dt r refs s = .next t) : Within M s t := by
  have hk := within_elapse dt (sub_trans hw rfl) (within_refl M s)
  unfold execAdaptRefs after at h
  injection h with e
  subst e
  repeat' (first | intro _ | with_reducible assumption | exact sub_trans hw rfl | with_reducible apply within_adaptRefsCmd | with_reducible apply within_map)

theorem within_execAdaptExport {M : Nat} (dt : Nat) (r : CmdName) (hw : Sub 0x24640000000000000010400000000000000000000000000000000000000000000245014 M) (s t : State) (h : execAdaptExport dt r s = .next t) : Within M s t := by
  have hk := within_elapse dt (sub_trans hw rfl) (within_refl M s)
  unfold execAdaptExport after at h
  injection h with e
  subst e
  repeat' (first | intro _ | with_reducible assumption | exact sub_trans hw rfl | with_reducible apply within_adaptExportCmd)

theorem within_execAdaptImport {M : Nat} (dt : Nat) (r : CmdName) (bytes : List Byte) (hw : Sub 0x24640000000000000010400000000000000080000000000000000000000000000245434 M) (s t : State) (h : execAdaptImport dt r bytes s = .next t) : Within M s t := by
  have hk := within_elapse dt (sub_trans hw rfl) (within_refl M s)
  unfold execAdaptImport after at h
  injection h with e
  subst e
  repeat' (first | intro _ | with_reducible assumption | exact sub_trans hw rfl | with_reducible apply within_adaptImportCmd)

theorem within_execCqEnable {M : Nat} (dt : Nat) (f : Fin 9) (q : Fin 4) (v : Word) (hw : Sub 0x18000000000000000000000000000000000000000000000204014 M) (s t : State) (h : execCqEnable dt f q v s = .next t) : Within M s t := by
  have hk := within_elapse dt (sub_trans hw rfl) (within_refl M s)
  unfold execCqEnable after at h
  injection h with e
  subst e
  repeat' (first | intro _ | with_reducible assumption | exact sub_trans hw rfl | with_reducible apply within_onBus | with_reducible apply within_cqOn)

theorem within_execCqDisable {M : Nat} (dt : Nat) (f : Fin 9) (q : Fin 4) (v : Word) (hw : Sub 0x18000000000000000000000000000000000000000000000204014 M) (s t : State) (h : execCqDisable dt f q v s = .next t) : Within M s t := by
  have hk := within_elapse dt (sub_trans hw rfl) (within_refl M s)
  unfold execCqDisable after at h
  injection h with e
  subst e
  repeat' (first | intro _ | with_reducible assumption | exact sub_trans hw rfl | with_reducible apply within_onBus | with_reducible apply within_cqOff)

theorem within_execCqTailDoorbell {M : Nat} (dt : Nat) (f : Fin 9) (q : Fin 4) (v : Word) (hw : Sub 0x10000000000000000000000000000000000000000000000204014 M) (s t : State) (h : execCqTailDoorbell dt f q v s = .next t) : Within M s t := by
  have hk := within_elapse dt (sub_trans hw rfl) (within_refl M s)
  unfold execCqTailDoorbell after at h
  injection h with e
  subst e
  repeat' (first | intro _ | with_reducible assumption | exact sub_trans hw rfl | with_reducible apply within_onBus | with_reducible apply within_cqTailWrite)

theorem within_execRqHeadDoorbell {M : Nat} (dt : Nat) (f : Fin 9) (q : Fin 4) (v : Word) (hw : Sub 0x10000000000000000000000000000000000000000000000204014 M) (s t : State) (h : execRqHeadDoorbell dt f q v s = .next t) : Within M s t := by
  have hk := within_elapse dt (sub_trans hw rfl) (within_refl M s)
  unfold execRqHeadDoorbell after at h
  injection h with e
  subst e
  repeat' (first | intro _ | with_reducible assumption | exact sub_trans hw rfl | with_reducible apply within_onBus | with_reducible apply within_rqHeadWrite)

theorem within_execCommandFetch {M : Nat} (dt : Nat) (f : Fin 9) (q : Fin 4) (bytes : List Byte) (hw : Sub 0x10000000000000000000000000000000000000000000000244014 M) (s t : State) (h : execCommandFetch dt f q bytes s = .next t) : Within M s t := by
  have hk := within_elapse dt (sub_trans hw rfl) (within_refl M s)
  unfold execCommandFetch after at h
  injection h with e
  subst e
  repeat' (first | intro _ | with_reducible assumption | exact sub_trans hw rfl | with_reducible apply within_fetch)

theorem within_execCommandStart {M : Nat} (dt : Nat) (hw : Sub 0x2464000000000000001040000000000000000000000000000000000000000000024d014 M) (s t : State) (h : execCommandStart dt s = .next t) : Within M s t := by
  have hk := within_elapse dt (sub_trans hw rfl) (within_refl M s)
  unfold execCommandStart after at h
  injection h with e
  subst e
  repeat' (first | intro _ | with_reducible assumption | exact sub_trans hw rfl | with_reducible apply within_startCommand)

theorem within_execInterruptModerationTimer {M : Nat} (dt : Nat) (f : Fin 9) (q : Fin 4) (hw : Sub 0x204014 M) (s t : State) (h : execInterruptModerationTimer dt f q s = .next t) : Within M s t := by
  have hk := within_elapse dt (sub_trans hw rfl) (within_refl M s)
  unfold execInterruptModerationTimer after at h
  injection h with e
  subst e
  repeat' (first | intro _ | with_reducible assumption | exact sub_trans hw rfl | with_reducible apply within_moderation)

theorem within_execEvqEnable {M : Nat} (dt : Nat) (f : Fin 9) (v : Word) (hw : Sub 0x180000000000000000000000000000000000000000000000200014 M) (s t : State) (h : execEvqEnable dt f v s = .next t) : Within M s t := by
  have hk := within_elapse dt (sub_trans hw rfl) (within_refl M s)
  unfold execEvqEnable after at h
  injection h with e
  subst e
  repeat' (first | intro _ | with_reducible assumption | exact sub_trans hw rfl | with_reducible apply within_onBus | with_reducible apply within_evqOn)

theorem within_execMailboxSend {M : Nat} (dt : Nat) (f : Fin 9) (sfl : Bool) (v : Word) (hw : Sub 0x24640000000000005010400000000000000000000000000000000000000000000255014 M) (s t : State) (h : execMailboxSend dt f sfl v s = .next t) : Within M s t := by
  have hk := within_elapse dt (sub_trans hw rfl) (within_refl M s)
  unfold execMailboxSend after at h
  injection h with e
  subst e
  repeat' (first | intro _ | with_reducible assumption | exact sub_trans hw rfl | with_reducible apply within_mailboxSend)

theorem within_execMailboxReadLast {M : Nat} (dt : Nat) (f : Fin 9) (ch : Fin 5) (hw : Sub 0x1ff8000000000000000000000000000000000000000000000000204014 M) (s t : State) (h : execMailboxReadLast dt f ch s = .next t) : Within M s t := by
  have hk := within_elapse dt (sub_trans hw rfl) (within_refl M s)
  unfold execMailboxReadLast after at h
  injection h with e
  subst e
  repeat' (first | intro _ | with_reducible assumption | exact sub_trans hw rfl | with_reducible apply within_onBus | with_reducible apply within_rxReadLast)

theorem within_execPing {M : Nat} (dt : Nat) (f : Fin 9) (cp : Fin 4) (hw : Sub 0x1ffd000000000000000000000000000000000000000000000000204014 M) (s t : State) (h : execPing dt f cp s = .next t) : Within M s t := by
  have hk := within_elapse dt (sub_trans hw rfl) (within_refl M s)
  unfold execPing after at h
  injection h with e
  subst e
  repeat' (first | intro _ | with_reducible assumption | exact sub_trans hw rfl | with_reducible apply within_ping)

theorem within_execPinClaim {M : Nat} (dt : Nat) (v : Word) (hw : Sub 0x500000000000000000000000000000000000000000000000000000000000000000200014 M) (s t : State) (h : execPinClaim dt v s = .next t) : Within M s t := by
  have hk := within_elapse dt (sub_trans hw rfl) (within_refl M s)
  unfold execPinClaim after at h
  injection h with e
  subst e
  repeat' (first | intro _ | with_reducible assumption | exact sub_trans hw rfl | with_reducible apply within_onBus | with_reducible apply within_pinClaim)

theorem within_execPinRelease {M : Nat} (dt : Nat) (v : Word) (hw : Sub 0x500000000000000000000000000000000000000000000000000000000000000000200014 M) (s t : State) (h : execPinRelease dt v s = .next t) : Within M s t := by
  have hk := within_elapse dt (sub_trans hw rfl) (within_refl M s)
  unfold execPinRelease after at h
  injection h with e
  subst e
  repeat' (first | intro _ | with_reducible assumption | exact sub_trans hw rfl | with_reducible apply within_onBus | with_reducible apply within_pinRelease)

theorem within_execProfileLoad {M : Nat} (dt : Nat) (r : CmdName) (bytes : List Byte) (hw : Sub 0x24640000000000000010400000000000000000000000000000000000000000000245034 M) (s t : State) (h : execProfileLoad dt r bytes s = .next t) : Within M s t := by
  have hk := within_elapse dt (sub_trans hw rfl) (within_refl M s)
  unfold execProfileLoad after at h
  injection h with e
  subst e
  repeat' (first | intro _ | with_reducible assumption | exact sub_trans hw rfl | with_reducible apply within_profileLoad)

theorem within_execSensorXfer {M : Nat} (dt : Nat) (r : CmdName) (hw : Sub 0x2464000000000000001040000000000000000000000801000800000000000000024707c M) (s t : State) (h : execSensorXfer dt r s = .next t) : Within M s t := by
  have hk := within_elapse dt (sub_trans hw rfl) (within_refl M s)
  unfold execSensorXfer after at h
  injection h with e
  subst e
  repeat' (first | intro _ | with_reducible assumption | exact sub_trans hw rfl | with_reducible apply within_sensorXfer)

theorem within_execCamGrant {M : Nat} (dt : Nat) (r : CmdName) (hw : Sub 0x24640000000000000010400000000000000000000000000000000000000000000245034 M) (s t : State) (h : execCamGrant dt r s = .next t) : Within M s t := by
  have hk := within_elapse dt (sub_trans hw rfl) (within_refl M s)
  unfold execCamGrant after at h
  injection h with e
  subst e
  repeat' (first | intro _ | with_reducible assumption | exact sub_trans hw rfl | with_reducible apply within_camGrant)

theorem within_execCamRings {M : Nat} (dt : Nat) (r : CmdName) (hw : Sub 0x24640000000000000010400000000000000060006000300006000000000000000245034 M) (s t : State) (h : execCamRings dt r s = .next t) : Within M s t := by
  have hk := within_elapse dt (sub_trans hw rfl) (within_refl M s)
  unfold execCamRings after at h
  injection h with e
  subst e
  repeat' (first | intro _ | with_reducible assumption | exact sub_trans hw rfl | with_reducible apply within_camRings)

theorem within_execModelLoad {M : Nat} (dt : Nat) (r : CmdName) (img : ModelImg) (hw : Sub 0x1246400000008000000104000ee000144000000000000000000000000000000000747a94 M) (s t : State) (h : execModelLoad dt r img s = .next t) : Within M s t := by
  have hk := within_elapse dt (sub_trans hw rfl) (within_refl M s)
  unfold execModelLoad after at h
  injection h with e
  subst e
  repeat' (first | intro _ | with_reducible assumption | exact sub_trans hw rfl | with_reducible apply within_modelLoad)

theorem within_execModelUnload {M : Nat} (dt : Nat) (r : CmdName) (hw : Sub 0x1246400000000000000104000ae000144000000000000000000000000000000000247ab4 M) (s t : State) (h : execModelUnload dt r s = .next t) : Within M s t := by
  have hk := within_elapse dt (sub_trans hw rfl) (within_refl M s)
  unfold execModelUnload after at h
  injection h with e
  subst e
  repeat' (first | intro _ | with_reducible assumption | exact sub_trans hw rfl | with_reducible apply within_modelUnload)

theorem within_execModelBind {M : Nat} (dt : Nat) (r : CmdName) (hw : Sub 0x24640000000000000010400000000000000000000000000000000000000000000245034 M) (s t : State) (h : execModelBind dt r s = .next t) : Within M s t := by
  have hk := within_elapse dt (sub_trans hw rfl) (within_refl M s)
  unfold execModelBind after at h
  injection h with e
  subst e
  repeat' (first | intro _ | with_reducible assumption | exact sub_trans hw rfl | with_reducible apply within_modelBind)

theorem within_execCalibCapture {M : Nat} (dt : Nat) (r : CmdName) (hw : Sub 0x24640000000000000010400000000000000000000000000000000000000000000245034 M) (s t : State) (h : execCalibCapture dt r s = .next t) : Within M s t := by
  have hk := within_elapse dt (sub_trans hw rfl) (within_refl M s)
  unfold execCalibCapture after at h
  injection h with e
  subst e
  repeat' (first | intro _ | with_reducible assumption | exact sub_trans hw rfl | with_reducible apply within_calibCapture)

theorem within_execModelInfo {M : Nat} (dt : Nat) (r : CmdName) (hw : Sub 0x24640000000000000010400000000000000000000000000000000000000000000245014 M) (s t : State) (h : execModelInfo dt r s = .next t) : Within M s t := by
  have hk := within_elapse dt (sub_trans hw rfl) (within_refl M s)
  unfold execModelInfo after at h
  injection h with e
  subst e
  repeat' (first | intro _ | with_reducible assumption | exact sub_trans hw rfl | with_reducible apply within_modelInfo)

theorem within_execMap {M : Nat} (dt : Nat) (r : CmdName) (hw : Sub 0x24640000000000000010400000000000000000000000000000000000000000000245014 M) (s t : State) (h : execMap dt r s = .next t) : Within M s t := by
  have hk := within_elapse dt (sub_trans hw rfl) (within_refl M s)
  unfold execMap after at h
  injection h with e
  subst e
  repeat' (first | intro _ | with_reducible assumption | exact sub_trans hw rfl | with_reducible apply within_map)

theorem within_execUnmap {M : Nat} (dt : Nat) (r : CmdName) (hw : Sub 0x24640000000000000010400000000000000000000000000000000000000000000245014 M) (s t : State) (h : execUnmap dt r s = .next t) : Within M s t := by
  have hk := within_elapse dt (sub_trans hw rfl) (within_refl M s)
  unfold execUnmap after at h
  injection h with e
  subst e
  repeat' (first | intro _ | with_reducible assumption | exact sub_trans hw rfl | with_reducible apply within_unmap)

theorem within_execMove {M : Nat} (dt : Nat) (r : CmdName) (hw : Sub 0x24640000000000000010400000000000000000000000000000000000000000000345a14 M) (s t : State) (h : execMove dt r s = .next t) : Within M s t := by
  have hk := within_elapse dt (sub_trans hw rfl) (within_refl M s)
  unfold execMove after at h
  injection h with e
  subst e
  repeat' (first | intro _ | with_reducible assumption | exact sub_trans hw rfl | with_reducible apply within_move)

theorem within_execMemGrant {M : Nat} (dt : Nat) (r : CmdName) (hw : Sub 0x24640000000000000010400000000000000000000000000000000000000000000245014 M) (s t : State) (h : execMemGrant dt r s = .next t) : Within M s t := by
  have hk := within_elapse dt (sub_trans hw rfl) (within_refl M s)
  unfold execMemGrant after at h
  injection h with e
  subst e
  repeat' (first | intro _ | with_reducible assumption | exact sub_trans hw rfl | with_reducible apply within_memGrant)

theorem within_execMemRevoke {M : Nat} (dt : Nat) (r : CmdName) (hw : Sub 0x24640000000000000010400000000000000000000000000000000000000000000245814 M) (s t : State) (h : execMemRevoke dt r s = .next t) : Within M s t := by
  have hk := within_elapse dt (sub_trans hw rfl) (within_refl M s)
  unfold execMemRevoke after at h
  injection h with e
  subst e
  repeat' (first | intro _ | with_reducible assumption | exact sub_trans hw rfl | with_reducible apply within_memRevoke)

theorem within_execFaultResume {M : Nat} (dt : Nat) (r : CmdName) (hw : Sub 0x24640000000000000010400000102400000000000000000000000000000000000245094 M) (s t : State) (h : execFaultResume dt r s = .next t) : Within M s t := by
  have hk := within_elapse dt (sub_trans hw rfl) (within_refl M s)
  unfold execFaultResume after at h
  injection h with e
  subst e
  repeat' (first | intro _ | with_reducible assumption | exact sub_trans hw rfl | with_reducible apply within_faultResume)

theorem within_execFwPool {M : Nat} (dt : Nat) (r : CmdName) (hw : Sub 0x24640000000000000010400000000000000000000000000000000000000000000245014 M) (s t : State) (h : execFwPool dt r s = .next t) : Within M s t := by
  have hk := within_elapse dt (sub_trans hw rfl) (within_refl M s)
  unfold execFwPool after at h
  injection h with e
  subst e
  repeat' (first | intro _ | with_reducible assumption | exact sub_trans hw rfl | with_reducible apply within_fwPool)

theorem within_execTimeGet {M : Nat} (dt : Nat) (r : CmdName) (hw : Sub 0x24640000000000000010400000000000000000000000000000000000000000000245014 M) (s t : State) (h : execTimeGet dt r s = .next t) : Within M s t := by
  have hk := within_elapse dt (sub_trans hw rfl) (within_refl M s)
  unfold execTimeGet after at h
  injection h with e
  subst e
  repeat' (first | intro _ | with_reducible assumption | exact sub_trans hw rfl | with_reducible apply within_timeGet)

theorem within_execSchedApply {M : Nat} (dt : Nat) (r : CmdName) (hw : Sub 0x124640000000000000010400000000000000000000000000000000000000000000265014 M) (s t : State) (h : execSchedApply dt r s = .next t) : Within M s t := by
  have hk := within_elapse dt (sub_trans hw rfl) (within_refl M s)
  unfold execSchedApply after at h
  injection h with e
  subst e
  repeat' (first | intro _ | with_reducible assumption | exact sub_trans hw rfl | with_reducible apply within_schedApply)

theorem within_execCounterRead {M : Nat} (dt : Nat) (r : CmdName) (hw : Sub 0x24640000000000000010400000000000000000000000000000000000000000000245014 M) (s t : State) (h : execCounterRead dt r s = .next t) : Within M s t := by
  have hk := within_elapse dt (sub_trans hw rfl) (within_refl M s)
  unfold execCounterRead after at h
  injection h with e
  subst e
  repeat' (first | intro _ | with_reducible assumption | exact sub_trans hw rfl | with_reducible apply within_counterRead)

theorem within_execTraceRead {M : Nat} (dt : Nat) (r : CmdName) (hw : Sub 0x24640000000000000010400000000000000000000000000000000000000000000245014 M) (s t : State) (h : execTraceRead dt r s = .next t) : Within M s t := by
  have hk := within_elapse dt (sub_trans hw rfl) (within_refl M s)
  unfold execTraceRead after at h
  injection h with e
  subst e
  repeat' (first | intro _ | with_reducible assumption | exact sub_trans hw rfl | with_reducible apply within_traceRead)

theorem within_execLayerTotals {M : Nat} (dt : Nat) (r : CmdName) (hw : Sub 0x24640000000000000010400000000000000000000000000000000000000000000245014 M) (s t : State) (h : execLayerTotals dt r s = .next t) : Within M s t := by
  have hk := within_elapse dt (sub_trans hw rfl) (within_refl M s)
  unfold execLayerTotals after at h
  injection h with e
  subst e
  repeat' (first | intro _ | with_reducible assumption | exact sub_trans hw rfl | with_reducible apply within_layerTotals)

theorem within_execErrlogRead {M : Nat} (dt : Nat) (r : CmdName) (hw : Sub 0x246c0000000000000010400000000000000000000000000000000000000000000245014 M) (s t : State) (h : execErrlogRead dt r s = .next t) : Within M s t := by
  have hk := within_elapse dt (sub_trans hw rfl) (within_refl M s)
  unfold execErrlogRead after at h
  injection h with e
  subst e
  repeat' (first | intro _ | with_reducible assumption | exact sub_trans hw rfl | with_reducible apply within_errlogRead)

theorem within_execEcho {M : Nat} (dt : Nat) (r : CmdName) (hw : Sub 0x24640000000000000010400000000000000000000000000000000000000000000245014 M) (s t : State) (h : execEcho dt r s = .next t) : Within M s t := by
  have hk := within_elapse dt (sub_trans hw rfl) (within_refl M s)
  unfold execEcho after at h
  injection h with e
  subst e
  repeat' (first | intro _ | with_reducible assumption | exact sub_trans hw rfl | with_reducible apply within_echo)

theorem within_execAttest {M : Nat} (dt : Nat) (r : CmdName) (hw : Sub 0x24640000000200000010400000000000000000000000000000000000000000000245814 M) (s t : State) (h : execAttest dt r s = .next t) : Within M s t := by
  have hk := within_elapse dt (sub_trans hw rfl) (within_refl M s)
  unfold execAttest after at h
  injection h with e
  subst e
  repeat' (first | intro _ | with_reducible assumption | exact sub_trans hw rfl | with_reducible apply within_attest)

theorem within_execKeyEphemeral {M : Nat} (dt : Nat) (r : CmdName) (hw : Sub 0x24640000000000000010400000000000000000000000000000000000000000000645814 M) (s t : State) (h : execKeyEphemeral dt r s = .next t) : Within M s t := by
  have hk := within_elapse dt (sub_trans hw rfl) (within_refl M s)
  unfold execKeyEphemeral after at h
  injection h with e
  subst e
  repeat' (first | intro _ | with_reducible assumption | exact sub_trans hw rfl | with_reducible apply within_keyEphemeral)

theorem within_execKeyImport {M : Nat} (dt : Nat) (r : CmdName) (blob : List Byte) (hw : Sub 0x24640000000c00000010400000000000000000000000000000000000000000000245814 M) (s t : State) (h : execKeyImport dt r blob s = .next t) : Within M s t := by
  have hk := within_elapse dt (sub_trans hw rfl) (within_refl M s)
  unfold execKeyImport after at h
  injection h with e
  subst e
  repeat' (first | intro _ | with_reducible assumption | exact sub_trans hw rfl | with_reducible apply within_keyImport)

theorem within_execEphemeralKeyExpiry {M : Nat} (dt : Nat) (f : Fin 9) (hw : Sub 0x200814 M) (s t : State) (h : execEphemeralKeyExpiry dt f s = .next t) : Within M s t := by
  have hk := within_elapse dt (sub_trans hw rfl) (within_refl M s)
  unfold execEphemeralKeyExpiry after at h
  injection h with e
  subst e
  repeat' (first | intro _ | with_reducible assumption | exact sub_trans hw rfl | with_reducible apply within_keyExpiry)

theorem within_execTenantEnable {M : Nat} (dt : Nat) (r : CmdName) (hw : Sub 0x24640000000000000010600000000000000000000000000000000000000000000245014 M) (s t : State) (h : execTenantEnable dt r s = .next t) : Within M s t := by
  have hk := within_elapse dt (sub_trans hw rfl) (within_refl M s)
  unfold execTenantEnable after at h
  injection h with e
  subst e
  repeat' (first | intro _ | with_reducible assumption | exact sub_trans hw rfl | with_reducible apply within_tenantEnable)

theorem within_execTenantKill {M : Nat} (dt : Nat) (r : CmdName) (hw : Sub 0x1246400000000000000106000ae002d64030010400000000008000000000000000247ffc M) (s t : State) (h : execTenantKill dt r s = .next t) : Within M s t := by
  have hk := within_elapse dt (sub_trans hw rfl) (within_refl M s)
  unfold execTenantKill after at h
  injection h with e
  subst e
  repeat' (first | intro _ | with_reducible assumption | exact sub_trans hw rfl | with_reducible apply within_tenantKill)

theorem within_execScrubOnchipComplete {M : Nat} (dt : Nat) (k : Fin 8) (hw : Sub 0x24640000000000000010400000ffeff7f70000000000000000000000000000000747bb4 M) (s t : State) (h : execScrubOnchipComplete dt k s = .next t) : Within M s t := by
  have hk := within_elapse dt (sub_trans hw rfl) (within_refl M s)
  unfold execScrubOnchipComplete after at h
  injection h with e
  subst e
  repeat' (first | intro _ | with_reducible assumption | exact sub_trans hw rfl | with_reducible apply within_scrubOnchip)

theorem within_execScrubMemoryComplete {M : Nat} (dt : Nat) (k : Fin 8) (hw : Sub 0x2464000000100fffffffe00000000000000000000000000000000000000000000345a17 M) (s t : State) (h : execScrubMemoryComplete dt k s = .next t) : Within M s t := by
  have hk := within_elapse dt (sub_trans hw rfl) (within_refl M s)
  unfold execScrubMemoryComplete after at h
  injection h with e
  subst e
  repeat' (first | intro _ | with_reducible assumption | exact sub_trans hw rfl | with_reducible apply within_scrubMemory)

theorem within_execSnufferClearComplete {M : Nat} (dt : Nat) (hw : Sub 0x24640000000000000010400000000000000000000000000000000000000000000345a14 M) (s t : State) (h : execSnufferClearComplete dt s = .next t) : Within M s t := by
  have hk := within_elapse dt (sub_trans hw rfl) (within_refl M s)
  unfold execSnufferClearComplete after at h
  injection h with e
  subst e
  repeat' (first | intro _ | with_reducible assumption | exact sub_trans hw rfl | with_reducible apply within_clearComplete)

theorem within_execFwStage {M : Nat} (dt : Nat) (r : CmdName) (img : FwImage) (hw : Sub 0x24640000000090000010400000000000000000000000000000000000000000000245814 M) (s t : State) (h : execFwStage dt r img s = .next t) : Within M s t := by
  have hk := within_elapse dt (sub_trans hw rfl) (within_refl M s)
  unfold execFwStage after at h
  injection h with e
  subst e
  repeat' (first | intro _ | with_reducible assumption | exact sub_trans hw rfl | with_reducible apply within_fwStage)

theorem within_execFwSwitch {M : Nat} (dt : Nat) (r : CmdName) (hw : Sub 0x24640000000000000010400000000000000000000000000000000000000000000245014 M) (s t : State) (h : execFwSwitch dt r s = .next t) : Within M s t := by
  have hk := within_elapse dt (sub_trans hw rfl) (within_refl M s)
  unfold execFwSwitch after at h
  injection h with e
  subst e
  repeat' (first | intro _ | with_reducible assumption | exact sub_trans hw rfl | with_reducible apply within_fwSwitch)

theorem within_execFwSwitchBegin {M : Nat} (dt : Nat) (hw : Sub 0x24640000000001ff8000400000000000004090000000000000000000000000000645414 M) (s t : State) (h : execFwSwitchBegin dt s = .next t) : Within M s t := by
  have hk := within_elapse dt (sub_trans hw rfl) (within_refl M s)
  unfold execFwSwitchBegin after at h
  injection h with e
  subst e
  repeat' (first | intro _ | with_reducible assumption | exact sub_trans hw rfl | with_reducible apply within_switchBegin)

theorem within_execCpReloadComplete {M : Nat} (dt : Nat) (ok : Bool) (hw : Sub 0x24640000000000000010400000000000000090000000000000000000000000000245414 M) (s t : State) (h : execCpReloadComplete dt ok s = .next t) : Within M s t := by
  have hk := within_elapse dt (sub_trans hw rfl) (within_refl M s)
  unfold execCpReloadComplete after at h
  injection h with e
  subst e
  repeat' (first | intro _ | with_reducible assumption | exact sub_trans hw rfl | with_reducible apply within_reloaded)

theorem within_execFwResumeTimeout {M : Nat} (dt : Nat) (hw : Sub 0x24640000000000000010400000000000000090000000000000000000000000000245414 M) (s t : State) (h : execFwResumeTimeout dt s = .next t) : Within M s t := by
  have hk := within_elapse dt (sub_trans hw rfl) (within_refl M s)
  unfold execFwResumeTimeout after at h
  injection h with e
  subst e
  repeat' (first | intro _ | with_reducible assumption | exact sub_trans hw rfl | with_reducible apply within_resumeTimeout)

theorem within_execFwSwitchComplete {M : Nat} (dt : Nat) (hw : Sub 0x24640000000090000110400000000000000090000000000000000000000000000245c14 M) (s t : State) (h : execFwSwitchComplete dt s = .next t) : Within M s t := by
  have hk := within_elapse dt (sub_trans hw rfl) (within_refl M s)
  unfold execFwSwitchComplete after at h
  injection h with e
  subst e
  repeat' (first | intro _ | with_reducible assumption | exact sub_trans hw rfl | with_reducible apply within_switchComplete)

theorem within_execEngineMemoryError {M : Nat} (dt : Nat) (hw : Sub 0x24640000002011ff8100400000000000000000000000000000000000000000000644814 M) (s t : State) (h : execEngineMemoryError dt s = .next t) : Within M s t := by
  have hk := within_elapse dt (sub_trans hw rfl) (within_refl M s)
  unfold execEngineMemoryError after at h
  injection h with e
  subst e
  repeat' (first | intro _ | with_reducible assumption | exact sub_trans hw rfl | with_reducible apply within_engineError)

theorem within_execEngineResetComplete {M : Nat} (dt : Nat) (hw : Sub 0x24640000000990000010400000000000000000000000000000000000000000000245814 M) (s t : State) (h : execEngineResetComplete dt s = .next t) : Within M s t := by
  have hk := within_elapse dt (sub_trans hw rfl) (within_refl M s)
  unfold execEngineResetComplete after at h
  injection h with e
  subst e
  repeat' (first | intro _ | with_reducible assumption | exact sub_trans hw rfl | with_reducible apply within_engineReady)

theorem within_execLimitSet {M : Nat} (dt : Nat) (hw : Sub 0x1ffd000000000000000000000000000000000000000000000000214014 M) (s t : State) (h : execLimitSet dt s = .next t) : Within M s t := by
  have hk := within_elapse dt (sub_trans hw rfl) (within_refl M s)
  unfold execLimitSet after at h
  injection h with e
  subst e
  repeat' (first | intro _ | with_reducible assumption | exact sub_trans hw rfl | with_reducible apply within_limitSetMsg)

theorem within_execGovQuery {M : Nat} (dt : Nat) (hw : Sub 0x1ffd000000000000000000000000000000000000000000000000214014 M) (s t : State) (h : execGovQuery dt s = .next t) : Within M s t := by
  have hk := within_elapse dt (sub_trans hw rfl) (within_refl M s)
  unfold execGovQuery after at h
  injection h with e
  subst e
  repeat' (first | intro _ | with_reducible assumption | exact sub_trans hw rfl | with_reducible apply within_govQueryMsg)

theorem within_execPolicySubmit {M : Nat} (dt : Nat) (r : CmdName) (bytes : List Byte) (hw : Sub 0x24640000218080000010400000000000000000000000000000000000000000000255814 M) (s t : State) (h : execPolicySubmit dt r bytes s = .next t) : Within M s t := by
  have hk := within_elapse dt (sub_trans hw rfl) (within_refl M s)
  unfold execPolicySubmit after at h
  injection h with e
  subst e
  repeat' (first | intro _ | with_reducible assumption | exact sub_trans hw rfl | with_reducible apply within_policySubmit)

theorem within_execPrivEnrol {M : Nat} (dt : Nat) (r : CmdName) (key : List Byte) (hw : Sub 0x24640000018080000010400000000000000000000000000000000000000000000255814 M) (s t : State) (h : execPrivEnrol dt r key s = .next t) : Within M s t := by
  have hk := within_elapse dt (sub_trans hw rfl) (within_refl M s)
  unfold execPrivEnrol after at h
  injection h with e
  subst e
  repeat' (first | intro _ | with_reducible assumption | exact sub_trans hw rfl | with_reducible apply within_privEnrol)

theorem within_execSclkStop {M : Nat} (dt : Nat) (hw : Sub 0x2464000000800000000000000000000000000000000000000000000000000000c250014 M) (s t : State) (h : execSclkStop dt s = .next t) : Within M s t := by
  have hk := within_elapse dt (sub_trans hw rfl) (within_refl M s)
  unfold execSclkStop after at h
  injection h with e
  subst e
  repeat' (first | intro _ | with_reducible assumption | exact sub_trans hw rfl | with_reducible apply within_sclkStop)

theorem within_execVddSflOutOfRange {M : Nat} (dt : Nat) (hw : Sub 0x24640000008000000000000000000000000000000000000000000000000000000250014 M) (s t : State) (h : execVddSflOutOfRange dt s = .next t) : Within M s t := by
  have hk := within_elapse dt (sub_trans hw rfl) (within_refl M s)
  unfold execVddSflOutOfRange after at h
  injection h with e
  subst e
  repeat' (first | intro _ | with_reducible assumption | exact sub_trans hw rfl | with_reducible apply within_failClosed)

theorem within_execSflWatchdogExpiry {M : Nat} (dt : Nat) (hw : Sub 0x24640000008000000000000000000000000000000000000000000000000000000250014 M) (s t : State) (h : execSflWatchdogExpiry dt s = .next t) : Within M s t := by
  have hk := within_elapse dt (sub_trans hw rfl) (within_refl M s)
  unfold execSflWatchdogExpiry after at h
  injection h with e
  subst e
  repeat' (first | intro _ | with_reducible assumption | exact sub_trans hw rfl | with_reducible apply within_failClosed)

theorem within_execSafelightRestartComplete {M : Nat} (dt : Nat) (hw : Sub 0x24640000418080000000000000000000000000000000000000000000000000004250814 M) (s t : State) (h : execSafelightRestartComplete dt s = .next t) : Within M s t := by
  have hk := within_elapse dt (sub_trans hw rfl) (within_refl M s)
  unfold execSafelightRestartComplete after at h
  injection h with e
  subst e
  repeat' (first | intro _ | with_reducible assumption | exact sub_trans hw rfl | with_reducible apply within_sflRestarted)

theorem within_execPrivHoldAssert {M : Nat} (dt : Nat) (hw : Sub 0x24640001008000000000000000000000000000000000000000000000000000000250014 M) (s t : State) (h : execPrivHoldAssert dt s = .next t) : Within M s t := by
  have hk := within_elapse dt (sub_trans hw rfl) (within_refl M s)
  unfold execPrivHoldAssert after at h
  injection h with e
  subst e
  repeat' (first | intro _ | with_reducible assumption | exact sub_trans hw rfl | with_reducible apply within_holdAssert)

theorem within_execPrivHoldDeassert {M : Nat} (dt : Nat) (hw : Sub 0x8000000000000000000000000000000000000000000000000000000210014 M) (s t : State) (h : execPrivHoldDeassert dt s = .next t) : Within M s t := by
  have hk := within_elapse dt (sub_trans hw rfl) (within_refl M s)
  unfold execPrivHoldDeassert after at h
  injection h with e
  subst e
  repeat' (first | intro _ | with_reducible assumption | exact sub_trans hw rfl | with_reducible apply within_holdRelease)

theorem within_execPowerSample {M : Nat} (dt : Nat) (mw : BitVec 32) (hw : Sub 0x40000000000000000000000000000000000000000000000000000000650014 M) (s t : State) (h : execPowerSample dt mw s = .next t) : Within M s t := by
  have hk := within_elapse dt (sub_trans hw rfl) (within_refl M s)
  unfold execPowerSample after at h
  injection h with e
  subst e
  repeat' (first | intro _ | with_reducible assumption | exact sub_trans hw rfl | with_reducible apply within_powerSample)

theorem within_execJunctionRead {M : Nat} (dt : Nat) (temps : List (BitVec 12)) (hw : Sub 0x24640000080000000010400000000000000000000000000000000000000000000245014 M) (s t : State) (h : execJunctionRead dt temps s = .next t) : Within M s t := by
  have hk := within_elapse dt (sub_trans hw rfl) (within_refl M s)
  unfold execJunctionRead after at h
  injection h with e
  subst e
  repeat' (first | intro _ | with_reducible assumption | exact sub_trans hw rfl | with_reducible apply within_junctionRead | with_reducible apply within_map)

theorem within_execGovernorEvaluation {M : Nat} (dt : Nat) (hw : Sub 0x27e40000928001ff8000400000ffeff7f740900000000000000000000000000002d65b4 M) (s t : State) (h : execGovernorEvaluation dt s = .next t) : Within M s t := by
  have hk := within_elapse dt (sub_trans hw rfl) (within_refl M s)
  unfold execGovernorEvaluation after at h
  injection h with e
  subst e
  repeat' (first | intro _ | with_reducible assumption | exact sub_trans hw rfl | with_reducible apply within_governor)

theorem within_execThermComparatorTrip {M : Nat} (dt : Nat) (hw : Sub 0x27e40000008000000000000000ffeff7f700000000000000000000000000000002c21b4 M) (s t : State) (h : execThermComparatorTrip dt s = .next t) : Within M s t := by
  have hk := within_elapse dt (sub_trans hw rfl) (within_refl M s)
  unfold execThermComparatorTrip after at h
  injection h with e
  subst e
  repeat' (first | intro _ | with_reducible assumption | exact sub_trans hw rfl | with_reducible apply within_thermTrip)

theorem within_execChainStatus {M : Nat} (dt : Nat) (r : CmdName) (hw : Sub 0x24640000000000000010400000000000000000000000000000000000000000000245014 M) (s t : State) (h : execChainStatus dt r s = .next t) : Within M s t := by
  have hk := within_elapse dt (sub_trans hw rfl) (within_refl M s)
  unfold execChainStatus after at h
  injection h with e
  subst e
  repeat' (first | intro _ | with_reducible assumption | exact sub_trans hw rfl | with_reducible apply within_chainStatus)

theorem within_execPortForward {M : Nat} (dt : Nat) (r : CmdName) (targetOk : Bool) (pathOk : Bool) (hw : Sub 0x246400300000000000104000000000000000000000140001000000c0000000000367274 M) (s t : State) (h : execPortForward dt r targetOk pathOk s = .next t) : Within M s t := by
  have hk := within_elapse dt (sub_trans hw rfl) (within_refl M s)
  unfold execPortForward after at h
  injection h with e
  subst e
  repeat' (first | intro _ | with_reducible assumption | exact sub_trans hw rfl | with_reducible apply within_portForward)

theorem within_execPortReturn {M : Nat} (dt : Nat) (r : CmdName) (targetOk : Bool) (hw : Sub 0x24640010000000000010400000000000000000000000000000000000000000000265014 M) (s t : State) (h : execPortReturn dt r targetOk s = .next t) : Within M s t := by
  have hk := within_elapse dt (sub_trans hw rfl) (within_refl M s)
  unfold execPortReturn after at h
  injection h with e
  subst e
  repeat' (first | intro _ | with_reducible assumption | exact sub_trans hw rfl | with_reducible apply within_portReturn)

theorem within_execWindowOpen {M : Nat} (dt : Nat) (r : CmdName) (hw : Sub 0x246403c0000000000010400000000000000000000000000000000000000000000245014 M) (s t : State) (h : execWindowOpen dt r s = .next t) : Within M s t := by
  have hk := within_elapse dt (sub_trans hw rfl) (within_refl M s)
  unfold execWindowOpen after at h
  injection h with e
  subst e
  repeat' (first | intro _ | with_reducible assumption | exact sub_trans hw rfl | with_reducible apply within_windowOpen)

theorem within_execWindowClose {M : Nat} (dt : Nat) (r : CmdName) (hw : Sub 0x24640200000000000010400000000000000000000000000000000000000000000245014 M) (s t : State) (h : execWindowClose dt r s = .next t) : Within M s t := by
  have hk := within_elapse dt (sub_trans hw rfl) (within_refl M s)
  unfold execWindowClose after at h
  injection h with e
  subst e
  repeat' (first | intro _ | with_reducible assumption | exact sub_trans hw rfl | with_reducible apply within_windowClose)

theorem within_execPosBlockReceived {M : Nat} (dt : Nat) (chd : Bool) (q : BitVec 3) (hw : Sub 0x2464100200000000001040000000000000000000000000000000422000000000024501c M) (s t : State) (h : execPosBlockReceived dt chd q s = .next t) : Within M s t := by
  have hk := within_elapse dt (sub_trans hw rfl) (within_refl M s)
  unfold execPosBlockReceived after at h
  injection h with e
  subst e
  repeat' (first | intro _ | with_reducible assumption | exact sub_trans hw rfl | with_reducible apply within_posReceived)

theorem within_execFwdPkt {M : Nat} (dt : Nat) (q : BitVec 3) (d : BitVec 3) (p : Fin 16) (stamp : BitVec 64) (k : Packet) (hw : Sub 0x2464080000000000001040000000000000000140021c0307f800200000000000034727c M) (s t : State) (h : execFwdPkt dt q d p stamp k s = .next t) : Within M s t := by
  have hk := within_elapse dt (sub_trans hw rfl) (within_refl M s)
  unfold execFwdPkt after at h
  injection h with e
  subst e
  repeat' (first | intro _ | with_reducible assumption | exact sub_trans hw rfl | with_reducible apply within_onFwdPacket)

theorem within_execFwdCtl {M : Nat} (dt : Nat) (q : BitVec 3) (d : BitVec 3) (p : Fin 16) (len : BitVec 12) (x : FwdCtl) (hw : Sub 0x246400000000000000004000000000000000000000140001000000c000000000034227c M) (s t : State) (h : execFwdCtl dt q d p len x s = .next t) : Within M s t := by
  have hk := within_elapse dt (sub_trans hw rfl) (within_refl M s)
  unfold execFwdCtl after at h
  injection h with e
  subst e
  repeat' (first | intro _ | with_reducible assumption | exact sub_trans hw rfl | with_reducible apply within_onFwdControl)

theorem within_execPeerWr {M : Nat} (dt : Nat) (q : BitVec 3) (d : BitVec 3) (info : BitVec 64) (bytes : List Byte) (hw : Sub 0x2464200000000000000000000000000000000000000000000000000000000000034021c M) (s t : State) (h : execPeerWr dt q d info bytes s = .next t) : Within M s t := by
  have hk := within_elapse dt (sub_trans hw rfl) (within_refl M s)
  unfold execPeerWr after at h
  injection h with e
  subst e
  repeat' (first | intro _ | with_reducible assumption | exact sub_trans hw rfl | with_reducible apply within_onPeerWrite)

theorem within_execPeerAck {M : Nat} (dt : Nat) (q : BitVec 3) (d : BitVec 3) (info : BitVec 64) (hw : Sub 0x24644000004000000010400400efee200140900000000000000000000000000003477bc M) (s t : State) (h : execPeerAck dt q d info s = .next t) : Within M s t := by
  have hk := within_elapse dt (sub_trans hw rfl) (within_refl M s)
  unfold execPeerAck after at h
  injection h with e
  subst e
  repeat' (first | intro _ | with_reducible assumption | exact sub_trans hw rfl | with_reducible apply within_onPeerAck)

theorem within_execChainMsg {M : Nat} (dt : Nat) (q : BitVec 3) (d : BitVec 3) (len : BitVec 12) (m : ChainMsg) (hw : Sub 0x12464043000000000001040000000000000000000000801000800200000000000026707c M) (s t : State) (h : execChainMsg dt q d len m s = .next t) : Within M s t := by
  have hk := within_elapse dt (sub_trans hw rfl) (within_refl M s)
  unfold execChainMsg after at h
  injection h with e
  subst e
  repeat' (first | intro _ | with_reducible assumption | exact sub_trans hw rfl | with_reducible apply within_onMessage)

theorem within_execChainStatusPacket {M : Nat} (dt : Nat) (q : BitVec 3) (len : BitVec 12) (reach : Byte) (timeState : BitVec 2) (enrol : Option (List Byte)) (seq : BitVec 32) (hw : Sub 0x124650612004000000010400400efee200140900000140001000000c00000000007677fc M) (s t : State) (h : execChainStatusPacket dt q len reach timeState enrol seq s = .next t) : Within M s t := by
  have hk := within_elapse dt (sub_trans hw rfl) (within_refl M s)
  unfold execChainStatusPacket after at h
  injection h with e
  subst e
  repeat' (first | intro _ | with_reducible assumption | exact sub_trans hw rfl | with_reducible apply within_onStatus)

theorem within_execStatusSendTimer {M : Nat} (dt : Nat) (hw : Sub 0x220014 M) (s t : State) (h : execStatusSendTimer dt s = .next t) : Within M s t := by
  have hk := within_elapse dt (sub_trans hw rfl) (within_refl M s)
  unfold execStatusSendTimer after at h
  injection h with e
  subst e
  repeat' (first | intro _ | with_reducible assumption | exact sub_trans hw rfl | with_reducible apply within_statusSend)

theorem within_execPresenceTimeout {M : Nat} (dt : Nat) (q : BitVec 3) (hw : Sub 0x124650612004000000010400400efee200140900000140001000000c00000000003677f4 M) (s t : State) (h : execPresenceTimeout dt q s = .next t) : Within M s t := by
  have hk := within_elapse dt (sub_trans hw rfl) (within_refl M s)
  unfold execPresenceTimeout after at h
  injection h with e
  subst e
  repeat' (first | intro _ | with_reducible assumption | exact sub_trans hw rfl | with_reducible apply within_presenceTimeout)

theorem within_execForwardTakeback {M : Nat} (dt : Nat) (p : Fin 16) (hw : Sub 0x10000000000000000000000000000000000000000000000000000000000220014 M) (s t : State) (h : execForwardTakeback dt p s = .next t) : Within M s t := by
  have hk := within_elapse dt (sub_trans hw rfl) (within_refl M s)
  unfold execForwardTakeback after at h
  injection h with e
  subst e
  repeat' (first | intro _ | with_reducible assumption | exact sub_trans hw rfl | with_reducible apply within_takeback)

theorem within_execDelayReqTimer {M : Nat} (dt : Nat) (hw : Sub 0x220014 M) (s t : State) (h : execDelayReqTimer dt s = .next t) : Within M s t := by
  have hk := within_elapse dt (sub_trans hw rfl) (within_refl M s)
  unfold execDelayReqTimer after at h
  injection h with e
  subst e
  repeat' (first | intro _ | with_reducible assumption | exact sub_trans hw rfl | with_reducible apply within_delayReqSend)

theorem within_execDelayReq {M : Nat} (dt : Nat) (hw : Sub 0x600014 M) (s t : State) (h : execDelayReq dt s = .next t) : Within M s t := by
  have hk := within_elapse dt (sub_trans hw rfl) (within_refl M s)
  unfold execDelayReq after at h
  injection h with e
  subst e
  repeat' (first | intro _ | with_reducible assumption | exact sub_trans hw rfl | with_reducible apply within_delayAnswer)

theorem within_execDelayResp {M : Nat} (dt : Nat) (turn : BitVec 32) (hw : Sub 0x4000000000000000000000000000000000000000000000000000000000620014 M) (s t : State) (h : execDelayResp dt turn s = .next t) : Within M s t := by
  have hk := within_elapse dt (sub_trans hw rfl) (within_refl M s)
  unfold execDelayResp after at h
  injection h with e
  subst e
  repeat' (first | intro _ | with_reducible assumption | exact sub_trans hw rfl | with_reducible apply within_delayMeasured)

theorem within_execUnitResetCore {M : Nat} (dt : Nat) (r : CmdName) (hw : Sub 0x24640000000000000010400000ffeff7f700000000000000000000000000000006471b4 M) (s t : State) (h : execUnitResetCore dt r s = .next t) : Within M s t := by
  have hk := within_elapse dt (sub_trans hw rfl) (within_refl M s)
  unfold execUnitResetCore after at h
  injection h with e
  subst e
  repeat' (first | intro _ | with_reducible assumption | exact sub_trans hw rfl | with_reducible apply within_unitResetCore)

theorem within_execUnitResetPort {M : Nat} (dt : Nat) (r : CmdName) (hw : Sub 0x2464000200000000001040000000000000000000001c01010801fff000000000074727c M) (s t : State) (h : execUnitResetPort dt r s = .next t) : Within M s t := by
  have hk := within_elapse dt (sub_trans hw rfl) (within_refl M s)
  unfold execUnitResetPort after at h
  injection h with e
  subst e
  repeat' (first | intro _ | with_reducible assumption | exact sub_trans hw rfl | with_reducible apply within_unitResetPort)

theorem within_execUnitResetStageGroup {M : Nat} (dt : Nat) (r : CmdName) (hw : Sub 0x246400000000000000104007e0ffeff7f700004000000000000000000000000006471f4 M) (s t : State) (h : execUnitResetStageGroup dt r s = .next t) : Within M s t := by
  have hk := within_elapse dt (sub_trans hw rfl) (within_refl M s)
  unfold execUnitResetStageGroup after at h
  injection h with e
  subst e
  repeat' (first | intro _ | with_reducible assumption | exact sub_trans hw rfl | with_reducible apply within_unitResetGroup)

theorem within_execUnitResetTenant {M : Nat} (dt : Nat) (r : CmdName) (hw : Sub 0x1246400000000000000106000ae002d64030010400000000008000000000000000647ffc M) (s t : State) (h : execUnitResetTenant dt r s = .next t) : Within M s t := by
  have hk := within_elapse dt (sub_trans hw rfl) (within_refl M s)
  unfold execUnitResetTenant after at h
  injection h with e
  subst e
  repeat' (first | intro _ | with_reducible assumption | exact sub_trans hw rfl | with_reducible apply within_unitResetTenant)

theorem within_execErrRelease {M : Nat} (dt : Nat) (v : Word) (hw : Sub 0x80000000000000000000000000000000000000000000000000000000000000200014 M) (s t : State) (h : execErrRelease dt v s = .next t) : Within M s t := by
  have hk := within_elapse dt (sub_trans hw rfl) (within_refl M s)
  unfold execErrRelease after at h
  injection h with e
  subst e
  repeat' (first | intro _ | with_reducible assumption | exact sub_trans hw rfl | with_reducible apply within_onBus | with_reducible apply within_errReleaseWrite)

theorem within_execErrFirstClear {M : Nat} (dt : Nat) (hw : Sub 0x400000000000000000000000000000000000000000000000000000000000000200014 M) (s t : State) (h : execErrFirstClear dt s = .next t) : Within M s t := by
  have hk := within_elapse dt (sub_trans hw rfl) (within_refl M s)
  unfold execErrFirstClear after at h
  injection h with e
  subst e
  repeat' (first | intro _ | with_reducible assumption | exact sub_trans hw rfl | with_reducible apply within_onBus | with_reducible apply within_errFirstWrite)

theorem within_execClockLossOfLock {M : Nat} (dt : Nat) (k : Fin 5) (hw : Sub 0x27e4000000000000000000000000000000000000000000000000000000000000c2c0014 M) (s t : State) (h : execClockLossOfLock dt k s = .next t) : Within M s t := by
  have hk := within_elapse dt (sub_trans hw rfl) (within_refl M s)
  unfold execClockLossOfLock after at h
  injection h with e
  subst e
  repeat' (first | intro _ | with_reducible assumption | exact sub_trans hw rfl | with_reducible apply within_clockLost)

theorem within_execControlMemoryError {M : Nat} (dt : Nat) (cp : Fin 4) (hw : Sub 0x27e400000000000000000000000000000000000000000000000000000000000002c0014 M) (s t : State) (h : execControlMemoryError dt cp s = .next t) : Within M s t := by
  have hk := within_elapse dt (sub_trans hw rfl) (within_refl M s)
  unfold execControlMemoryError after at h
  injection h with e
  subst e
  repeat' (first | intro _ | with_reducible assumption | exact sub_trans hw rfl | with_reducible apply within_controlMemoryError)

theorem within_execCpWatchdogExpiry {M : Nat} (dt : Nat) (cp : Fin 4) (hw : Sub 0x27e400000000000000000000000000000000000000000000000000000000000002c0014 M) (s t : State) (h : execCpWatchdogExpiry dt cp s = .next t) : Within M s t := by
  have hk := within_elapse dt (sub_trans hw rfl) (within_refl M s)
  unfold execCpWatchdogExpiry after at h
  injection h with e
  subst e
  repeat' (first | intro _ | with_reducible assumption | exact sub_trans hw rfl | with_reducible apply within_cpWatchdog)

theorem within_execFlrPf {M : Nat} (dt : Nat) (hw : Sub 0x1246400000000015550986000ae002d64030010400000000008000000000000000257ffc M) (s t : State) (h : execFlrPf dt s = .next t) : Within M s t := by
  have hk := within_elapse dt (sub_trans hw rfl) (within_refl M s)
  unfold execFlrPf after at h
  injection h with e
  subst e
  repeat' (first | intro _ | with_reducible assumption | exact sub_trans hw rfl | with_reducible apply within_flrPf)

theorem within_execFlrVf {M : Nat} (dt : Nat) (k : Fin 8) (hw : Sub 0x1246400000000000000106000ae002d64030010400000000008000000000000000247ffc M) (s t : State) (h : execFlrVf dt k s = .next t) : Within M s t := by
  have hk := within_elapse dt (sub_trans hw rfl) (within_refl M s)
  unfold execFlrVf after at h
  injection h with e
  subst e
  repeat' (first | intro _ | with_reducible assumption | exact sub_trans hw rfl | with_reducible apply within_flrVf)

theorem within_execVfEnableClear {M : Nat} (dt : Nat) (hw : Sub 0x1246400000000000000106000ae002d64030010400000000008000000000000000247ffc M) (s t : State) (h : execVfEnableClear dt s = .next t) : Within M s t := by
  have hk := within_elapse dt (sub_trans hw rfl) (within_refl M s)
  unfold execVfEnableClear after at h
  injection h with e
  subst e
  repeat' (first | intro _ | with_reducible assumption | exact sub_trans hw rfl | with_reducible apply within_vfClear)

theorem within_execPoisonedTlpWrite {M : Nat} (dt : Nat) (f : Fin 9) (hw : Sub 0x24640000000000000000000000000000000000000000000000000000000000000240014 M) (s t : State) (h : execPoisonedTlpWrite dt f s = .next t) : Within M s t := by
  have hk := within_elapse dt (sub_trans hw rfl) (within_refl M s)
  unfold execPoisonedTlpWrite after at h
  injection h with e
  subst e
  repeat' (first | intro _ | with_reducible assumption | exact sub_trans hw rfl | with_reducible apply within_poisonedWrite)

theorem within_execHostErrorCompletion {M : Nat} (dt : Nat) (w : HostRead) (hw : Sub 0x246400000040000000104000000fec00000000000000000000000000000000000245094 M) (s t : State) (h : execHostErrorCompletion dt w s = .next t) : Within M s t := by
  have hk := within_elapse dt (sub_trans hw rfl) (within_refl M s)
  unfold execHostErrorCompletion after at h
  injection h with e
  subst e
  repeat' (first | intro _ | with_reducible assumption | exact sub_trans hw rfl | with_reducible apply within_hostError)

theorem within_execConfigurationRequest {M : Nat} (dt : Nat) (req : BitVec 64) (w : Option CfgWrite) (hw : Sub 0x204014 M) (s t : State) (h : execConfigurationRequest dt req w s = .next t) : Within M s t := by
  have hk := within_elapse dt (sub_trans hw rfl) (within_refl M s)
  unfold execConfigurationRequest after at h
  injection h with e
  subst e
  repeat' (first | intro _ | with_reducible assumption | exact sub_trans hw rfl | with_reducible apply within_configRequest)

theorem within_execPerstAssert {M : Nat} (dt : Nat) (hw : Sub 0x7ffffffffffffffffffffffffffffffffffffffffffffffffffffffffffffffffffffffff M) (s t : State) (h : execPerstAssert dt s = .next t) : Within M s t := by
  have hk := within_elapse dt (sub_trans hw rfl) (within_refl M s)
  unfold execPerstAssert after at h
  injection h with e
  subst e
  repeat' (first | intro _ | with_reducible assumption | exact sub_trans hw rfl | with_reducible apply within_perstAssert)

theorem within_execHotReset {M : Nat} (dt : Nat) (hw : Sub 0x7ffffffffffffffffffffffffffffffffffffffffffffffffffffffffffffffffffffffff M) (s t : State) (h : execHotReset dt s = .next t) : Within M s t := by
  have hk := within_elapse dt (sub_trans hw rfl) (within_refl M s)
  unfold execHotReset after at h
  injection h with e
  subst e
  repeat' (first | intro _ | with_reducible assumption | exact sub_trans hw rfl | with_reducible apply within_hotReset)

theorem within_execPorstAssert {M : Nat} (dt : Nat) (hw : Sub 0x7ffffffffffffffffffffffffffffffffffffffffffffffffffffffffffffffffffffffff M) (s t : State) (h : execPorstAssert dt s = .next t) : Within M s t := by
  have hk := within_elapse dt (sub_trans hw rfl) (within_refl M s)
  unfold execPorstAssert after at h
  injection h with e
  subst e
  repeat' (first | intro _ | with_reducible assumption | exact sub_trans hw rfl | with_reducible apply within_porstAssert)

theorem within_execRailDip {M : Nat} (dt : Nat) (hw : Sub 0x7ffffffffffffffffffffffffffffffffffffffffffffffffffffffffffffffffffffffff M) (s t : State) (h : execRailDip dt s = .next t) : Within M s t := by
  have hk := within_elapse dt (sub_trans hw rfl) (within_refl M s)
  unfold execRailDip after at h
  injection h with e
  subst e
  repeat' (first | intro _ | with_reducible assumption | exact sub_trans hw rfl | with_reducible apply within_railDip)

theorem within_execStartupBegin {M : Nat} (dt : Nat) (pos : BitVec 3) (hw : Sub 0x2000000000000000000000000000000000000000000000000000000000201014 M) (s t : State) (h : execStartupBegin dt pos s = .next t) : Within M s t := by
  have hk := within_elapse dt (sub_trans hw rfl) (within_refl M s)
  unfold execStartupBegin after at h
  injection h with e
  subst e
  repeat' (first | intro _ | with_reducible assumption | exact sub_trans hw rfl | with_reducible apply within_startupBegin)

theorem within_execClocksLocked {M : Nat} (dt : Nat) (hw : Sub 0x24640000000000000000000000000000000000000000000000000000000040484240014 M) (s t : State) (h : execClocksLocked dt s = .next t) : Within M s t := by
  have hk := within_elapse dt (sub_trans hw rfl) (within_refl M s)
  unfold execClocksLocked after at h
  injection h with e
  subst e
  repeat' (first | intro _ | with_reducible assumption | exact sub_trans hw rfl | with_reducible apply within_clocksLocked)

theorem within_execPllLockTimeout {M : Nat} (dt : Nat) (hw : Sub 0x27e400000000000000000000000000000000000000000000000000000000000802c1014 M) (s t : State) (h : execPllLockTimeout dt s = .next t) : Within M s t := by
  have hk := within_elapse dt (sub_trans hw rfl) (within_refl M s)
  unfold execPllLockTimeout after at h
  injection h with e
  subst e
  repeat' (first | intro _ | with_reducible assumption | exact sub_trans hw rfl | with_reducible apply within_pllTimeout)

theorem within_execImageAccepted {M : Nat} (dt : Nat) (a : FwImage) (b : FwImage) (selfTest : Bool) (hw : Sub 0x27e400000181900000000010000000000000000000000000000000000000000806d1a14 M) (s t : State) (h : execImageAccepted dt a b selfTest s = .next t) : Within M s t := by
  have hk := within_elapse dt (sub_trans hw rfl) (within_refl M s)
  unfold execImageAccepted after at h
  injection h with e
  subst e
  repeat' (first | intro _ | with_reducible assumption | exact sub_trans hw rfl | with_reducible apply within_imageAccepted)

theorem within_execCpStartTimeout {M : Nat} (dt : Nat) (cp : Fin 4) (hw : Sub 0x27e400000000000000000000000000000000000000000000000000000000000802c1014 M) (s t : State) (h : execCpStartTimeout dt cp s = .next t) : Within M s t := by
  have hk := within_elapse dt (sub_trans hw rfl) (within_refl M s)
  unfold execCpStartTimeout after at h
  injection h with e
  subst e
  repeat' (first | intro _ | with_reducible assumption | exact sub_trans hw rfl | with_reducible apply within_cpStartTimeout)

theorem within_execMemTrainingDone {M : Nat} (dt : Nat) (failed : Byte) (hw : Sub 0x27e400000000000000104008000000000000000000000000000000000000000802c5214 M) (s t : State) (h : execMemTrainingDone dt failed s = .next t) : Within M s t := by
  have hk := within_elapse dt (sub_trans hw rfl) (within_refl M s)
  unfold execMemTrainingDone after at h
  injection h with e
  subst e
  repeat' (first | intro _ | with_reducible assumption | exact sub_trans hw rfl | with_reducible apply within_trainingDone)

theorem within_execMemInitDone {M : Nat} (dt : Nat) (err : Option (Fin 8)) (hw : Sub 0x27e400000000000000104008000000000000000000000000000000000000000803c5214 M) (s t : State) (h : execMemInitDone dt err s = .next t) : Within M s t := by
  have hk := within_elapse dt (sub_trans hw rfl) (within_refl M s)
  unfold execMemInitDone after at h
  injection h with e
  subst e
  repeat' (first | intro _ | with_reducible assumption | exact sub_trans hw rfl | with_reducible apply within_memInitDone | with_reducible apply within_map)

theorem within_execStartupReady {M : Nat} (dt : Nat) (hw : Sub 0x2000000000000200000ffeff7f700000000000000000000200000000802031bc M) (s t : State) (h : execStartupReady dt s = .next t) : Within M s t := by
  have hk := within_elapse dt (sub_trans hw rfl) (within_refl M s)
  unfold execStartupReady after at h
  injection h with e
  subst e
  repeat' (first | intro _ | with_reducible assumption | exact sub_trans hw rfl | with_reducible apply within_startupReady)

theorem within_execBypass {M : Nat} (dt : Nat) (hw : Sub 0x201014 M) (s t : State) (h : execBypass dt s = .next t) : Within M s t := by
  have hk := within_elapse dt (sub_trans hw rfl) (within_refl M s)
  unfold execBypass after at h
  injection h with e
  subst e
  repeat' (first | intro _ | with_reducible assumption | exact sub_trans hw rfl | with_reducible apply within_tapBypass)

theorem within_execIdcode {M : Nat} (dt : Nat) (hw : Sub 0x201014 M) (s t : State) (h : execIdcode dt s = .next t) : Within M s t := by
  have hk := within_elapse dt (sub_trans hw rfl) (within_refl M s)
  unfold execIdcode after at h
  injection h with e
  subst e
  repeat' (first | intro _ | with_reducible assumption | exact sub_trans hw rfl | with_reducible apply within_tapIdcode)

theorem within_execSamplePreload {M : Nat} (dt : Nat) (levels : List Bool) (preload : List Bool) (hw : Sub 0x201014 M) (s t : State) (h : execSamplePreload dt levels preload s = .next t) : Within M s t := by
  have hk := within_elapse dt (sub_trans hw rfl) (within_refl M s)
  unfold execSamplePreload after at h
  injection h with e
  subst e
  repeat' (first | intro _ | with_reducible assumption | exact sub_trans hw rfl | with_reducible apply within_tapSample)

theorem within_execExtest {M : Nat} (dt : Nat) (hw : Sub 0x201014 M) (s t : State) (h : execExtest dt s = .next t) : Within M s t := by
  have hk := within_elapse dt (sub_trans hw rfl) (within_refl M s)
  unfold execExtest after at h
  injection h with e
  subst e
  repeat' (first | intro _ | with_reducible assumption | exact sub_trans hw rfl | with_reducible apply within_tapExtest)

theorem within_execExtestPulse {M : Nat} (dt : Nat) (hw : Sub 0x201014 M) (s t : State) (h : execExtestPulse dt s = .next t) : Within M s t := by
  have hk := within_elapse dt (sub_trans hw rfl) (within_refl M s)
  unfold execExtestPulse after at h
  injection h with e
  subst e
  repeat' (first | intro _ | with_reducible assumption | exact sub_trans hw rfl | with_reducible apply within_tapExtest)

theorem within_execExtestTrain {M : Nat} (dt : Nat) (hw : Sub 0x201014 M) (s t : State) (h : execExtestTrain dt s = .next t) : Within M s t := by
  have hk := within_elapse dt (sub_trans hw rfl) (within_refl M s)
  unfold execExtestTrain after at h
  injection h with e
  subst e
  repeat' (first | intro _ | with_reducible assumption | exact sub_trans hw rfl | with_reducible apply within_tapExtest)

theorem within_execSmbPartId {M : Nat} (dt : Nat) (hw : Sub 0x24640000008000000000000000000000000000000000000000000000000000000250014 M) (s t : State) (h : execSmbPartId dt s = .next t) : Within M s t := by
  have hk := within_elapse dt (sub_trans hw rfl) (within_refl M s)
  unfold execSmbPartId after at h
  injection h with e
  subst e
  repeat' (first | intro _ | with_reducible assumption | exact sub_trans hw rfl | with_reducible apply within_smbPart)

theorem within_execSmbBootStatus {M : Nat} (dt : Nat) (hw : Sub 0x24640000008000000000000000000000000000000000000000000000000000000250014 M) (s t : State) (h : execSmbBootStatus dt s = .next t) : Within M s t := by
  have hk := within_elapse dt (sub_trans hw rfl) (within_refl M s)
  unfold execSmbBootStatus after at h
  injection h with e
  subst e
  repeat' (first | intro _ | with_reducible assumption | exact sub_trans hw rfl | with_reducible apply within_smbBoot)

theorem within_execSmbTemperature {M : Nat} (dt : Nat) (hw : Sub 0x24640000008000000000000000000000000000000000000000000000000000000250014 M) (s t : State) (h : execSmbTemperature dt s = .next t) : Within M s t := by
  have hk := within_elapse dt (sub_trans hw rfl) (within_refl M s)
  unfold execSmbTemperature after at h
  injection h with e
  subst e
  repeat' (first | intro _ | with_reducible assumption | exact sub_trans hw rfl | with_reducible apply within_smbTemp)

theorem within_execSmbPower {M : Nat} (dt : Nat) (hw : Sub 0x24640000008000000000000000000000000000000000000000000000000000000650014 M) (s t : State) (h : execSmbPower dt s = .next t) : Within M s t := by
  have hk := within_elapse dt (sub_trans hw rfl) (within_refl M s)
  unfold execSmbPower after at h
  injection h with e
  subst e
  repeat' (first | intro _ | with_reducible assumption | exact sub_trans hw rfl | with_reducible apply within_smbPower)

theorem within_execSmbGovernor {M : Nat} (dt : Nat) (hw : Sub 0x24640000008000000000000000000000000000000000000000000000000000000250014 M) (s t : State) (h : execSmbGovernor dt s = .next t) : Within M s t := by
  have hk := within_elapse dt (sub_trans hw rfl) (within_refl M s)
  unfold execSmbGovernor after at h
  injection h with e
  subst e
  repeat' (first | intro _ | with_reducible assumption | exact sub_trans hw rfl | with_reducible apply within_smbGov)

theorem within_execSmbFatal {M : Nat} (dt : Nat) (hw : Sub 0x24640000008000000000000000000000000000000000000000000000000000000250014 M) (s t : State) (h : execSmbFatal dt s = .next t) : Within M s t := by
  have hk := within_elapse dt (sub_trans hw rfl) (within_refl M s)
  unfold execSmbFatal after at h
  injection h with e
  subst e
  repeat' (first | intro _ | with_reducible assumption | exact sub_trans hw rfl | with_reducible apply within_smbFatal)

end Sys2Proof.Machine
end

