-- ==== Sys2Proof/Tests/Slice0.lean ====
section
/-! SUPPORT. Tests of single commands on small states; and for every statement that has hypotheses, states and operands that meet
them all (theorem witness_<statement>). -/
namespace Sys2Proof.Tests
open Sys2Proof.Machine
set_option linter.all false
set_option linter.unusedVariables false
set_option Elab.async false

/-- The device READY, with nothing else set up: register accesses are answered. -/
def on : State := State.reset.setFld F.GLB_BOOT_STATUS_stage 0 7
/-- Device time n. -/
def clock (n : Nat) (s : State) : State := s.modTime fun t => { t with now := n }
/-- Fields of registers. -/
def flds (l : List (Fld × Nat × Nat)) (s : State) : State := l.foldl (fun s x => s.setFld x.1 x.2.1 x.2.2) s
/-- A port in a state of R34. -/
def link (p v : Nat) (f : PortS → PortS) (s : State) : State := (s.modPort p f).setPortState p v
/-- A packet with its CRC and blocks as they must be. -/
def sealed (k : Packet) : Packet :=
  { k with crc := BitVec.ofNat 32 (crc32c (pktBytes k)), blocks := 2 + ceilDiv k.len.toNat 8 }
/-- A hub status packet of this subtype and first word. -/
def hub (sub pseq w : Nat) (rest : List Byte) : Packet :=
  sealed { ptype := 6, len := 16, pseq := BitVec.ofNat 16 pseq, payload := leBytes 1 sub ++ bytesAt rest 0 7 ++ leBytes 8 w }
/-- A command of the owner's queue 0 in slot 5, started, with this opcode and these words; the owner is a bus master. -/
def asks (op : Nat) (p : List Nat) (s : State) : State :=
  (s.modFn 0 fun f => { f with bme := true }).modQueue 0 0 fun q => { q with started := [{ slot := 5, opcode := op, seq := 77, p := p }] }
/-- The name of that command. -/
def name5 : CmdName := ⟨0, 0, 5⟩
/-- The command itself. -/
def cmd5 (op : Nat) (p : List Nat) : Cmd := { slot := 5, opcode := op, seq := 77, p := p }

def cam (n : Nat) (f : CamS → CamS) (s : State) : State := s.modCam n f
def frm (n q : Nat) (f : FrameS → FrameS) (s : State) : State := s.modFrame n q f
def tme (f : TimeS → TimeS) (s : State) : State := s.modTime f
def chn (f : ChnS → ChnS) (s : State) : State := s.modChn f
def core (i : Nat) (f : CoreS → CoreS) (s : State) : State := s.modCore i f
def grp (g : Nat) (f : GroupS → GroupS) (s : State) : State := s.modGroup g f
def fnc (f : Nat) (g : FnS → FnS) (s : State) : State := s.modFn f g
def boot (f : BootS → BootS) (s : State) : State := s.modBoot f
def sec (f : SecS → SecS) (s : State) : State := s.modSec f
def sfl (f : SflS → SflS) (s : State) : State := s.modSfl f
def hld (f : HoldS → HoldS) (s : State) : State := s.modHold f
def adp (n : Nat) (f : AdaptS → AdaptS) (s : State) : State := s.modAdapt n f

/-- A fact about what an Option holds, from its check. -/
theorem of_some {α : Type} {o : Option α} {P : α → Prop} [DecidablePred P] (h : (o.all fun a => decide (P a)) = true) :
    ∀ a, o = some a → P a := by
  intro a e
  subst e
  exact of_decide_eq_true h

theorem stream_zero {s : State} {m : Nat} (h : s.reg .CAM_STATUS m = 0) : s.stream m = 0 := by
  unfold State.stream State.fld State.regN
  rw [show F.CAM_STATUS_stream.reg = .CAM_STATUS from rfl, h]
  decide

/-- A cipher block. -/
def cipher1 : List Byte := bytesAt [1] 0 64
/-- The side bytes of that block with this MAC and version 0. -/
def sideOf (m : List Byte) : List Byte := m ++ leBytes 4 (blockCrc cipher1 m (leBytes 4 0)) ++ leBytes 4 0

theorem crcBit_lt {c : Nat} (h : c < 2 ^ 32) : crcBit c < 2 ^ 32 := by
  unfold crcBit
  split
  · exact Nat.xor_lt_two_pow (by omega) (by omega)
  · omega

theorem crc32c_lt (bs : List Byte) : crc32c bs < 2 ^ 32 := by
  have step : ∀ (l : List Byte) (c : Nat), c < 2 ^ 32 → l.foldl crcByte c < 2 ^ 32 := by
    intro l
    induction l with
    | nil => exact fun c h => h
    | cons b l ih =>
      intro c h
      have hb : b.toNat < 2 ^ 32 := Nat.lt_of_lt_of_le b.isLt (by decide)
      exact ih _ (crcBit_lt (crcBit_lt (crcBit_lt (crcBit_lt (crcBit_lt (crcBit_lt (crcBit_lt (crcBit_lt
        (Nat.xor_lt_two_pow h hb)))))))))
  exact Nat.xor_lt_two_pow (step bs _ (by decide)) (by decide)

theorem ofLE_four {v : Nat} (h : v < 2 ^ 32) : ofLE (leBytes 4 v) = v := by
  simp only [leBytes, ofLE, BitVec.toNat_ofNat]
  omega

/-- What a side says of its block: its MAC, its CRC, its version. -/
theorem side_says {m : List Byte} (h : m.length = 8) :
    bytesAt (sideOf m) 0 8 = m ∧ leAt (sideOf m) 12 4 = 0 ∧
    leAt (sideOf m) 8 4 = blockCrc cipher1 (bytesAt (sideOf m) 0 8) (bytesAt (sideOf m) 12 4) := by
  obtain ⟨a, b, c, d, e, f, g, i, rfl⟩ : ∃ a b c d e f g i, m = [a, b, c, d, e, f, g, i] := by
    match m, h with
    | [a, b, c, d, e, f, g, i], _ => exact ⟨a, b, c, d, e, f, g, i, rfl⟩
  exact ⟨rfl, rfl, ofLE_four (crc32c_lt _)⟩

theorem blockMac_length (s : State) (l v : Nat) (b : List Byte) : (s.blockMac l v b).length = 8 := by
  simp [State.blockMac, bytesAt] <;> omega

/-- The MAC of block 9, version 0, under the keys of reset. -/
def mac9 : List Byte := State.blockMac (on.elapse 0) 9 0 cipher1
theorem mac9_length : mac9.length = 8 := blockMac_length _ _ _ _

/-- The bytes of a MAC, each changed, are no longer that MAC. -/
theorem map_ne {f : Byte → Byte} {m : List Byte} (h : m.length = 8) (hf : ∀ b, f b ≠ b) : m.map f ≠ m := by
  match m, h with
  | a :: l, _ => exact fun e => hf a (List.cons.inj e).1

theorem other_ne {m : List Byte} (h : m.length = 8) : m.map (fun y => y ^^^ 1) ≠ m.map fun y => ~~~ y := by
  match m, h with
  | a :: l, _ => exact fun e => (by decide : ∀ b : Byte, b ^^^ 1 ≠ ~~~b) a (List.cons.inj e).1

/-- A read of block 9, and it on its way from channel 7. -/
def read9 (merge : Bool) : MemReq := { line := 9, write := false, key := 7, at_ := 0, core := 1, noAlloc := true, merge := merge }
def ret9 (merge : Bool) : State := on |> hld (fun h => { h with inFlight := [(7, [read9 merge])] })
/-- What the statement computes as the MAC of the block returned, with the side of any MAC. -/
theorem mac_of_return {m : List Byte} (merge : Bool) (h : m.length = 8) :
    ((ret9 merge).elapse 0).blockMac 9 (0 - (0 % 2 ^ 32 + 2 ^ 32 - leAt (sideOf m) 12 4) % 2 ^ 32) cipher1 = mac9 := by
  rw [(side_says h).2.1]
  rfl

/-- A head slot of zeros fits any declaration. -/
theorem headFits_zeros (d : HeadDecl) : headFits d (List.replicate headBytes 0) = true := by
  simp only [headFits, List.length_replicate, List.drop_replicate, List.take_replicate, Bool.and_eq_true, beq_iff_eq]
  refine ⟨⟨trivial, ?_⟩, ?_⟩ <;> congr 1 <;> simp only [headBytes] <;> omega

/-! ### Ill-formed commands are refused by Instr.wf, one for each check -/

theorem test_wf_port_enable_0 : Instr.wf (.ixlPortEnable 0 3 0) = false := by decide +kernel
theorem test_wf_port_disable_1 : Instr.wf (.ixlPortDisable 0 3 1) = false := by decide +kernel
theorem test_wf_retrain_0 : Instr.wf (.ixlRetrainRequest 0 3 1) = false := by decide +kernel
theorem test_wf_hub_caps_type : Instr.wf (.hubCapsPacket 0 3 (sealed { ptype := 1, len := 16, payload := List.replicate 16 0 })) = false := by decide +kernel
theorem test_wf_hub_caps_length : Instr.wf (.hubCapsPacket 0 3 (sealed { ptype := 6, len := 8, payload := List.replicate 8 0 })) = false := by decide +kernel
theorem test_wf_video_type : Instr.wf (.videoPacket 0 3 { ptype := 2 }) = false := by decide +kernel
theorem test_wf_embed_type : Instr.wf (.embedPacket 0 3 { ptype := 1 }) = false := by decide +kernel
theorem test_wf_frame_start_type : Instr.wf (.frameStartPacket 0 3 { ptype := 4 }) = false := by decide +kernel
theorem test_wf_frame_end_type : Instr.wf (.frameEndPacket 0 3 { ptype := 3 }) = false := by decide +kernel
theorem test_wf_ctrl_resp_type : Instr.wf (.ctrlRespPacket 0 3 { ptype := 6 }) = false := by decide +kernel
theorem test_wf_slot_change_type : Instr.wf (.slotChange 0 3 {}) = false := by decide +kernel
theorem test_wf_replay_gone_type : Instr.wf (.replayGone 0 3 {}) = false := by decide +kernel
theorem test_wf_hub_fault_type : Instr.wf (.hubFault 0 3 {}) = false := by decide +kernel
theorem test_wf_hub_status_type : Instr.wf (.unknownHubStatus 0 3 {}) = false := by decide +kernel
theorem test_wf_reserved_type : Instr.wf (.reservedPacket 0 3 { ptype := 6 }) = false := by decide +kernel
theorem test_wf_reserved_length : Instr.wf (.reservedPacket 0 3 { ptype := 7, len := 1 }) = false := by decide +kernel
theorem test_wf_packet_length : Instr.wf (.packetFail 0 3 { ptype := 1, len := 2, payload := [1] }) = false := by decide +kernel
theorem test_wf_duplicate_length : Instr.wf (.duplicatePacket 0 3 { len := 1 }) = false := by decide +kernel
theorem test_wf_tunnel_bytes : Instr.wf (.tunnelRequest 0 3 ⟨0, 0, 0, 0x10, 0, List.replicate 256 0, 0⟩) = false := by decide +kernel
theorem test_wf_alias_function : Instr.wf (.aliasWrite 0 1 0x600000 0) = false := by decide +kernel
theorem test_wf_alias_aligned : Instr.wf (.aliasWrite 0 0 0x600002 0) = false := by decide +kernel
theorem test_wf_sync_early : Instr.wf (.syncSymbolReceived 0 0 0 21 false) = false := by decide +kernel
theorem test_wf_sync_out_0 : Instr.wf (.syncOutEnable 0 0 0) = false := by decide +kernel
theorem test_wf_pair_read_bytes : Instr.wf (.pairLowRead 0 0 ⟨0, 0⟩) = false := by decide +kernel
theorem test_wf_pair_low_aligned : Instr.wf (.pairLowWrite 0 0 4 0) = false := by decide +kernel
theorem test_wf_pair_high_aligned : Instr.wf (.pairHighWrite 0 0 8 0) = false := by decide +kernel
theorem test_wf_write_bytes : Instr.wf (.registerWrite 0 0 0 0 0) = false := by decide +kernel
theorem test_wf_write_range : Instr.wf (.registerWrite 0 0 0 4 (BitVec.ofNat 64 (2 ^ 32))) = false := by decide +kernel
theorem test_wf_vector_record : Instr.wf (.vectorOp 0 0 0 .fadd [.vreg 0, .vreg 1] (.vreg 2) 1 (some 5)) = false := by decide +kernel
theorem test_wf_vector_sources : Instr.wf (.vectorOp 0 0 0 .fadd [.vreg 0] (.vreg 1) 1 none) = false := by decide +kernel
theorem test_wf_ring_no_core : Instr.wf (.ringSend 0 0 0 0 64 0) = false := by decide +kernel
theorem test_wf_ddr5_block : Instr.wf (.ddr5ReadReturn 0 0 (List.replicate 63 0) (List.replicate 16 0)) = false := by decide +kernel
theorem test_wf_ddr5_side : Instr.wf (.ddr5ReadReturn 0 0 (List.replicate 64 0) []) = false := by decide +kernel
theorem test_wf_queue_enable_0 : Instr.wf (.cqEnable 0 0 0 0) = false := by decide +kernel
theorem test_wf_queue_disable_1 : Instr.wf (.cqDisable 0 0 0 0x80000000) = false := by decide +kernel
theorem test_wf_fetch_bytes : Instr.wf (.commandFetch 0 0 0 (List.replicate 63 0)) = false := by decide +kernel
theorem test_wf_ring_enable_0 : Instr.wf (.evqEnable 0 0 0) = false := by decide +kernel
theorem test_wf_mailbox_send_0 : Instr.wf (.mailboxSend 0 0 false 0) = false := by decide +kernel
theorem test_wf_mailbox_safelight_function : Instr.wf (.mailboxSend 0 1 true 0x100) = false := by decide +kernel
theorem test_wf_pin_claim_release : Instr.wf (.pinClaim 0 0x80000000) = false := by decide +kernel
theorem test_wf_pin_release_claim : Instr.wf (.pinRelease 0 0) = false := by decide +kernel
theorem test_wf_profile_bytes : Instr.wf (.profileLoad 0 ⟨0, 0, 5⟩ (List.replicate 4097 0)) = false := by decide +kernel
theorem test_wf_enrol_key : Instr.wf (.privEnrol 0 ⟨0, 0, 5⟩ (List.replicate 63 0)) = false := by decide +kernel
theorem test_wf_forward_self : Instr.wf (.fwdPkt 0 1 1 0 0 { ptype := 1 }) = false := by decide +kernel
theorem test_wf_forward_type : Instr.wf (.fwdPkt 0 1 0 0 0 { ptype := 5 }) = false := by decide +kernel
theorem test_wf_forward_length : Instr.wf (.fwdPkt 0 1 0 0 0 { ptype := 1, len := 4 }) = false := by decide +kernel
theorem test_wf_forward_control_self : Instr.wf (.fwdCtl 0 1 1 0 0 .linkDown) = false := by decide +kernel
theorem test_wf_forward_control_length : Instr.wf (.fwdCtl 0 1 0 0 2081 .linkDown) = false := by decide +kernel
theorem test_wf_peer_write_empty : Instr.wf (.peerWr 0 1 0 0 []) = false := by decide +kernel
theorem test_wf_peer_write_self : Instr.wf (.peerWr 0 1 1 0 [1]) = false := by decide +kernel
theorem test_wf_peer_write_length : Instr.wf (.peerWr 0 1 0 0 (List.replicate 2049 0)) = false := by decide +kernel
theorem test_wf_peer_ack_self : Instr.wf (.peerAck 0 1 1 0) = false := by decide +kernel
theorem test_wf_chain_message_self : Instr.wf (.chainMsg 0 1 1 0 (.forward 0 true)) = false := by decide +kernel
theorem test_wf_chain_message_length : Instr.wf (.chainMsg 0 1 0 2081 (.forward 0 true)) = false := by decide +kernel
theorem test_wf_chain_status_length : Instr.wf (.chainStatusPacket 0 1 2081 0 0 none 0) = false := by decide +kernel
theorem test_wf_junction_sensors : Instr.wf (.junctionRead 0 []) = false := by decide +kernel
theorem test_wf_key_import_bytes : Instr.wf (.keyImport 0 ⟨0, 0, 5⟩ (List.replicate 65536 0)) = false := by
  simp only [Instr.wf, List.length_replicate]; decide
theorem test_wf_policy_bytes : Instr.wf (.policySubmit 0 ⟨0, 0, 5⟩ (List.replicate 65536 0)) = false := by
  simp only [Instr.wf, List.length_replicate]; decide
theorem test_wf_packet : Instr.wf (.videoPacket 0 3 (sealed { ptype := 1, len := 3, payload := [1, 2, 3] })) = true := by decide +kernel

/-! ### Single commands, with what the spec says of them -/

/-- What a command leaves, checked. -/
def leaves (c : Instr) (s : State) (ok : State → Bool) : Bool :=
  match exec c s with
  | .next t => ok t
  | _ => false

/-- An empty queue idles (log 1). -/
theorem test_idle : step State.reset = .next State.reset := by rfl
/-- 02, worked example: a CRC mismatch at 0x41A7 counts, and asks for 0x41A7 with attempt 0. -/
theorem test_packet_fail : leaves (.packetFail 0 3 ⟨1, 9, 0x2B, 412, 8, 0x2F10, 0x41A7, 0, true, false, 0, List.replicate 8 1, 5, 3, false, none⟩)
    (on |> link 3 4 (fun x => { x with expect := 0x41A7, hubCredit := 100 }))
    (fun t => t.regN .IXL_CNT_CRC 3 == 1 && t.regN .IXL_CNT_NAK 3 == 1 && (t.port 3).expect == 0x41A7 && (t.port 3).replay.isSome) = true := by
  decide +kernel
/-- R34: signal detected in CDR leads to BLOCK_LOCK, and in DOWN to nothing. -/
theorem test_signal : leaves (.signalDetected 0 3) (on |> link 3 1 id) (fun t => t.portState 3 == 2) = true := by decide +kernel
theorem test_signal_down : leaves (.signalDetected 0 3) on (fun t => t.portState 3 == 0) = true := by decide +kernel
/-- 00: slot 7 of IXL12 is cam 391, whose context starts at 0x0058_7000. -/
theorem test_cam_391 : (regAt 0 0x00587000).all (fun x => x.1.info.block == .CAM && x.2 / x.1.info.sub == 391) = true := by decide +kernel
/-- R19: an illegal boundary word is refused, and the register keeps its value. -/
theorem test_boundary_refused : leaves (.sgBoundaryWrite 0 0x0000) on
    (fun t => t.regN .GLB_SG_BOUNDARY == 0x1111 && t.flag F.GLB_SG_STATUS_refused) = true := by decide +kernel
/-- R363: a free resource that may be claimed is claimed. -/
theorem test_pin_claim : leaves (.pinClaim 0 (4 * 256 + 78)) on (fun t => t.fld F.PIN_OWN_holder 78 == 4) = true := by decide +kernel
/-- R8: an offset with no register reads zero. -/
theorem test_no_register : leaves (.pairLowRead 0 0 ⟨0x03FFFFFC, 4⟩) on (fun t => t.out == [.readData 0 0]) = true := by decide +kernel
/-- 06, worked example: black level of cam 391, 14,900 to 14,096, and shading, 14,096 to 17,510. -/
theorem test_black_level : blackLevel ⟨0, [(0x2801, 4), (0x2808, 0x41), (0x2809, 0x10)]⟩ 0 14900 = 14096 := by decide +kernel
theorem test_shading : rneShr (14096 * 5088) 12 = 17510 := by decide +kernel
/-- 08, worked examples at the edges: 464.0, 464.5, 1.5 · 2^-10 and minus infinity to FP8-E4M3; 65,520 to FP16; 61,440 to FP8-E5M2. -/
theorem test_e4m3_tie : convertElem .fp32 .e4m3 true .nan 0x43E80000 = some (0x7E, false) := by decide +kernel
theorem test_e4m3_over : convertElem .fp32 .e4m3 true .nan 0x43E84000 = some (0x7E, true) := by decide +kernel
theorem test_e4m3_small : convertElem .fp32 .e4m3 true .nan 0x3AC00000 = some (0x01, false) := by decide +kernel
theorem test_e4m3_inf : convertElem .fp32 .e4m3 true .nan 0xFF800000 = some (0xFE, true) := by decide +kernel
theorem test_fp16_over : convertElem .fp32 .fp16 false .nan 0x477FF000 = some (0x7BFF, true) := by decide +kernel
theorem test_e5m2_inf : convertElem .fp32 .e5m2 true .nan 0x47700000 = some (0x7C, true) := by decide +kernel

/-! ### The hypotheses of the statements are met -/

/-- BringUpSteps is about something: a state and operands for each of its clauses. -/
theorem witness_BringUpSteps :
  (∃ (s : State) (dt : Nat) (p : Fin 16) (v : Word),
    let u := s.elapse dt
    (u.answers .IXL = true) ∧ (u.fld F.IXL_PORT_CFG_enable p = 0)) ∧
  (∃ (s : State) (dt : Nat) (p : Fin 16) (v : Word),
    let u := s.elapse dt
    (u.answers .IXL = true) ∧ (u.fld F.IXL_PORT_CFG_enable p = 1)) ∧
  (∃ (s : State) (dt : Nat) (p : Fin 16) (v : Word),
    let u := s.elapse dt
    (u.answers .IXL = true) ∧ (u.fld F.IXL_PORT_CFG_enable p = 1) ∧ (u.portState p = 4)) ∧
  (∃ (s : State) (dt : Nat) (p : Fin 18),
    let u := s.elapse dt
    (u.portState p = 1) ∧ ((u.port p).waiting = false) ∧ (u.now ≤ (u.port p).since + 1000000) ∧ (p.val < 16)) ∧
  (∃ (s : State) (dt : Nat) (p : Fin 18),
    let u := s.elapse dt
    (u.portState p = 1) ∧ ((u.port p).waiting = false) ∧ (u.now ≤ (u.port p).since + 1000000)) ∧
  (∃ (s : State) (dt : Nat) (p : Fin 18),
    let u := s.elapse dt
    (u.portState p = 2) ∧ ((u.port p).waiting = false) ∧ (u.now ≤ (u.port p).since + 100000) ∧ (p.val < 16)) ∧
  (∃ (s : State) (dt : Nat) (p : Fin 18),
    let u := s.elapse dt
    (u.portState p = 2) ∧ ((u.port p).waiting = false) ∧ (u.now ≤ (u.port p).since + 100000) ∧ (16 ≤ p.val)) :=
  ⟨⟨(on), 0, (3), (1), by decide +kernel⟩,
  ⟨(on |> flds [(F.IXL_PORT_CFG_enable, 15, 1)]), 0, (15), (0), by decide +kernel⟩,
  ⟨(on |> flds [(F.IXL_PORT_CFG_enable, 3, 1)] |> link 3 4 id), 0, (3), (0), by decide +kernel⟩,
  ⟨(on |> link 0 1 (fun x => { x with since := 5 }) |> clock 1000005), 0, (0), by decide +kernel⟩,
  ⟨(on |> link 17 1 id), 0, (17), by decide +kernel⟩,
  ⟨(on |> link 2 2 id |> clock 100000), 0, (2), by decide +kernel⟩,
  ⟨(on |> link 16 2 id |> clock 100000 |> flds [(F.CHN_STATUS_pos, 0, 3)]), 0, (16), by decide +kernel⟩⟩

/-- BringUpFailures is about something: a state and operands for each of its clauses. -/
theorem witness_BringUpFailures :
  (∃ (s : State) (dt : Nat) (p : Fin 18),
    let u := s.elapse dt
    (u.portState p = 4) ∧ (p.val < 16)) ∧
  (∃ (s : State) (dt : Nat) (p : Fin 18),
    let u := s.elapse dt
    (u.portState p = 4)) ∧
  (∃ (s : State) (dt : Nat) (p : Fin 18),
    let u := s.elapse dt
    (1 ≤ u.portState p) ∧ (u.portState p ≤ 3) ∧ ((u.port p).waiting = false) ∧ ((u.port p).since + stateLimit (u.portState p) < u.now) ∧ ((u.port p).attempt < 8) ∧ (p.val < 16)) ∧
  (∃ (s : State) (dt : Nat) (p : Fin 18),
    let u := s.elapse dt
    (1 ≤ u.portState p) ∧ (u.portState p ≤ 3) ∧ ((u.port p).waiting = false) ∧ ((u.port p).since + stateLimit (u.portState p) < u.now) ∧ ((u.port p).attempt < 8)) ∧
  (∃ (s : State) (dt : Nat) (p : Fin 16),
    let u := s.elapse dt
    (1 ≤ u.portState p) ∧ (u.portState p ≤ 3) ∧ ((u.port p).waiting = false) ∧ ((u.port p).resetBy = none) ∧ ((u.port p).since + stateLimit (u.portState p) < u.now) ∧ (8 ≤ (u.port p).attempt)) ∧
  (∃ (s : State) (dt : Nat) (p : Fin 18),
    let u := s.elapse dt
    ((u.port p).waiting = true) ∧ ((u.port p).since + 1000000 ≤ u.now)) ∧
  (∃ (s : State) (dt : Nat) (p : Fin 16),
    let u := s.elapse dt
    (u.portState p = 4)) :=
  ⟨⟨(on |> link 2 4 id |> clock 7), 0, (2), by decide +kernel⟩,
  ⟨(on |> link 16 4 id |> clock 7), 0, (16), by decide +kernel⟩,
  ⟨(on |> link 2 3 (fun x => { x with attempt := 7 }) |> clock 500001), 0, (2), by decide +kernel⟩,
  ⟨(on |> link 17 1 (fun x => { x with attempt := 1 }) |> clock 1000001), 0, (17), by decide +kernel⟩,
  ⟨(on |> link 2 2 (fun x => { x with attempt := 8 }) |> clock 100001), 0, (2), by decide +kernel⟩,
  ⟨(on |> link 2 2 (fun x => { x with attempt := 3, waiting := true }) |> clock 1000000), 0, (2), by decide +kernel⟩,
  ⟨(on |> link 15 4 id), 0, (15), by decide +kernel⟩⟩

/-- HubStatusPackets is about something: a state and operands for each of its clauses. -/
theorem witness_HubStatusPackets :
  (∃ (s : State) (dt : Nat) (p : Fin 16) (k : Packet),
    let u := s.elapse dt
    (u.portState p = 3) ∧ (u.now ≤ (u.port p).since + 500000) ∧ (k.ptype = 6) ∧ (hubSubtype k = 1) ∧ (k.pseq = 0) ∧ (pktCrcOk k = true) ∧ (pktFramed k = true) ∧ ((capsFields k).1 = 1) ∧ (64 ≤ (capsFields k).2.1)) ∧
  (∃ (s : State) (dt : Nat) (p : Fin 16) (k : Packet),
    let u := s.elapse dt
    (u.inSequence p k) ∧ (k.ptype = 6) ∧ (hubSubtype k = 2)) ∧
  (∃ (s : State) (dt : Nat) (p : Fin 16) (k : Packet),
    let u := s.elapse dt
    (u.inSequence p k) ∧ (k.ptype = 6) ∧ (hubSubtype k = 4)) ∧
  (∃ (s : State) (dt : Nat) (p : Fin 16) (k : Packet) (r : ReplayS),
    let u := s.elapse dt
    (u.portState p = 4) ∧ (pktCost k ≤ (u.port p).hubCredit) ∧ (pktCrcOk k = true) ∧ (pktFramed k = true) ∧ (k.ptype = 6) ∧ (hubSubtype k = 3) ∧ ((u.port p).replay = some r) ∧ (k.pseq.toNat = r.q) ∧ (k.replay = true)) ∧
  (∃ (s : State) (dt : Nat) (p : Fin 16) (k : Packet),
    let u := s.elapse dt
    (u.inSequence p k) ∧ (k.ptype = 6) ∧ (unknownHub (hubSubtype k) = true)) ∧
  (∃ (s : State) (dt : Nat) (p : Fin 16) (k : Packet),
    let u := s.elapse dt
    (u.inSequence p k) ∧ (reservedPkt k = true)) ∧
  (∃ (s : State) (dt : Nat) (p : Fin 18) (k : Packet),
    let u := s.elapse dt
    (16 ≤ p.val) ∧ (u.inSequence p k) ∧ (reservedPkt k = true)) ∧
  (∃ (s : State) (dt : Nat) (p : Fin 18) (k : Packet),
    let u := s.elapse dt
    (u.portState p = 4) ∧ ((u.port p).replay = none) ∧ (k.stray = none) ∧ (((u.port p).hubCredit < pktCost k ∨ pktCrcOk k = false ∨ pktFramed k = false ∨
      (k.pseq.toNat ≠ (u.port p).expect ∧ pseqBelow k.pseq.toNat (u.port p).expect = false ∧ ¬ (k.ptype = 6 ∧ hubSubtype k = 3)))) ∧ (p.val < 16) ∧ (u.failCause p k = 0 ∨ u.failCause p k = 3)) ∧
  (∃ (s : State) (dt : Nat) (p : Fin 18) (k : Packet),
    let u := s.elapse dt
    (u.portState p = 4) ∧ ((u.port p).replay = none) ∧ (k.stray = none) ∧ (((u.port p).hubCredit < pktCost k ∨ pktCrcOk k = false ∨ pktFramed k = false ∨
      (k.pseq.toNat ≠ (u.port p).expect ∧ pseqBelow k.pseq.toNat (u.port p).expect = false ∧ ¬ (k.ptype = 6 ∧ hubSubtype k = 3))))) ∧
  (∃ (s : State) (dt : Nat) (p : Fin 18) (k : Packet),
    let u := s.elapse dt
    (u.portState p = 4) ∧ ((u.port p).replay = none) ∧ (k.stray = none) ∧ (((u.port p).hubCredit < pktCost k ∨ pktCrcOk k = false ∨ pktFramed k = false ∨
      (k.pseq.toNat ≠ (u.port p).expect ∧ pseqBelow k.pseq.toNat (u.port p).expect = false ∧ ¬ (k.ptype = 6 ∧ hubSubtype k = 3)))) ∧ (p.val < 16) ∧ (u.failCause p k = 2)) ∧
  (∃ (s : State) (dt : Nat) (p : Fin 18) (k : Packet),
    let u := s.elapse dt
    (u.portState p = 4) ∧ (pktCost k ≤ (u.port p).hubCredit) ∧ (pktCrcOk k = true) ∧ (pktFramed k = true) ∧ (pseqBelow k.pseq.toNat (u.awaited p) = true) ∧ (p.val < 16)) ∧
  (∃ (s : State) (dt : Nat) (p : Fin 18) (k : Packet),
    let u := s.elapse dt
    (u.portState p = 4) ∧ (pktCost k ≤ (u.port p).hubCredit) ∧ (pktCrcOk k = true) ∧ (pktFramed k = true) ∧ (pseqBelow k.pseq.toNat (u.awaited p) = true)) :=
  ⟨⟨(on |> link 4 3 id |> clock 500000), 0, (4), (hub 1 0 0xFFFF0001 [1, 64, 64, 0]), by decide +kernel⟩,
  ⟨(on |> link 4 4 (fun x => { x with expect := 65535 })), 0, (4), (hub 2 65535 0xAB []), ⟨by unfold State.inSequence; decide +kernel, by decide +kernel⟩⟩,
  ⟨(on |> link 4 4 (fun x => { x with expect := 9 })), 0, (4), (hub 4 9 0 []), ⟨by unfold State.inSequence; decide +kernel, by decide +kernel⟩⟩,
  ⟨(on |> link 4 4 (fun x => { x with expect := 9, replay := some ⟨9, 0, 1, none⟩ })), 0, (4), ({ hub 3 9 70000 [] with replay := true, crc := BitVec.ofNat 32 (crc32c (pktBytes { hub 3 9 70000 [] with replay := true })) }), (⟨9, 0, 1, none⟩), by decide +kernel⟩,
  ⟨(on |> link 4 4 (fun x => { x with expect := 9 })), 0, (4), (hub 5 9 0 []), ⟨by unfold State.inSequence; decide +kernel, by decide +kernel⟩⟩,
  ⟨(on |> link 4 4 (fun x => { x with expect := 9 })), 0, (4), (sealed { ptype := 7, pseq := 9 }), ⟨by unfold State.inSequence; decide +kernel, by decide +kernel⟩⟩,
  ⟨(on |> link 16 4 (fun x => { x with expect := 9 })), 0, (16), (sealed { ptype := 0, pseq := 9, len := 8 }), ⟨by decide +kernel, by unfold State.inSequence; decide +kernel, by decide +kernel⟩⟩,
  ⟨(on |> link 4 4 (fun x => { x with expect := 9 }) |> clock 20), 0, (4), ({ ptype := 1, pseq := 9, len := 8, crc := 1 }), by decide +kernel⟩,
  ⟨(on |> link 17 4 (fun x => { x with expect := 9 }) |> clock 20), 0, (17), ({ ptype := 1, pseq := 9, len := 8, crc := 1 }), by decide +kernel⟩,
  ⟨(on |> link 4 4 (fun x => { x with expect := 9, hubCredit := 0 }) |> clock 20), 0, (4), (sealed { ptype := 1, pseq := 9, len := 8 }), by decide +kernel⟩,
  ⟨(on |> link 4 4 (fun x => { x with expect := 9 })), 0, (4), (sealed { ptype := 1, pseq := 8 }), by decide +kernel⟩,
  ⟨(on |> link 17 4 (fun x => { x with expect := 0 })), 0, (17), (sealed { ptype := 6, pseq := 65535 }), by decide +kernel⟩⟩

/-- CameraPackets is about something: a state and operands for each of its clauses. -/
theorem witness_CameraPackets :
  (∃ (s : State) (dt : Nat) (p : Fin 16) (k : Packet) (q : Nat),
    let u := s.elapse dt
    let n := 32 * p.val + k.slot.toNat
    (u.inSequence p k) ∧ (k.ptype = 1) ∧ (u.isOut p = false) ∧ (u.takesInto n q) ∧ (k.dt.toNat = u.fld F.IXL_SLOT_CFG_dt n) ∧ (k.line.toNat < u.height n) ∧ ((u.frame n q).rows ≤ k.line.toNat) ∧ (k.lastSeg = false)) ∧
  (∃ (s : State) (dt : Nat) (p : Fin 16) (k : Packet) (q : Nat),
    let u := s.elapse dt
    let n := 32 * p.val + k.slot.toNat
    let row := (u.frame n q).rowSoFar k.line.toNat ++ bytesAt k.payload 0 k.len.toNat
    (u.inSequence p k) ∧ (k.ptype = 1) ∧ (u.isOut p = false) ∧ (u.takesInto n q) ∧ (k.dt.toNat = u.fld F.IXL_SLOT_CFG_dt n) ∧ (k.line.toNat + 1 < u.height n) ∧ ((u.frame n q).rows = k.line.toNat) ∧ (k.lastSeg = true) ∧ (row.length = u.rowBytes n) ∧ (u.lineFull n q = false) ∧ ((u.frame n q).inlinePath = false) ∧ ((u.frame n q).negSlot ≠ 255)) ∧
  (∃ (s : State) (dt : Nat) (p : Fin 16) (k : Packet) (q : Nat),
    let u := s.elapse dt
    let n := 32 * p.val + k.slot.toNat
    let row := (u.frame n q).rowSoFar k.line.toNat ++ bytesAt k.payload 0 k.len.toNat
    (u.inSequence p k) ∧ (k.ptype = 1) ∧ (u.isOut p = false) ∧ (u.takesInto n q) ∧ (k.dt.toNat = u.fld F.IXL_SLOT_CFG_dt n) ∧ (k.line.toNat + 1 < u.height n) ∧ ((u.frame n q).rows = k.line.toNat) ∧ (k.lastSeg = true) ∧ (row.length = u.rowBytes n) ∧ (u.lineFull n q = false) ∧ ((u.frame n q).inlinePath = true)) ∧
  (∃ (s : State) (dt : Nat) (p : Fin 16) (k : Packet) (q : Nat),
    let u := s.elapse dt
    let n := 32 * p.val + k.slot.toNat
    (u.inSequence p k) ∧ (k.ptype = 2) ∧ (u.isOut p = false) ∧ (u.takesInto n q) ∧ (u.flag F.IXL_SLOT_CFG_embed_en n = true) ∧ (k.dt = 0x12)) ∧
  (∃ (s : State) (dt : Nat) (p : Fin 16) (k : Packet) (x : Trig) (j : Nat),
    let u := s.elapse dt
    let n := 32 * p.val + k.slot.toNat
    let q := u.regN .CAM_SEQ n
    (u.inSequence p k) ∧ (k.ptype = 3) ∧ (u.isOut p = false) ∧ (u.onTime n) ∧ (u.noneOpen n q) ∧ (u.stream n = 2) ∧ (u.flag F.CAM_CFG_free_run n = false) ∧ (k.trigSeq.toNat ≠ 0x3FFF) ∧ ((u.cam n).expect.find? (fun y => y.seq == k.trigSeq.toNat) = some x) ∧ ((u.frame n q).isFinal = true) ∧ ((u.setRegN .CAM_SEQ n (q + 1)).negFree n = some j)) ∧
  (∃ (s : State) (dt : Nat) (p : Fin 16) (k : Packet) (j : Nat),
    let u := s.elapse dt
    let n := 32 * p.val + k.slot.toNat
    let q := u.regN .CAM_SEQ n
    (u.inSequence p k) ∧ (k.ptype = 3) ∧ (u.isOut p = false) ∧ (u.onTime n) ∧ (u.noneOpen n q) ∧ (u.stream n = 2) ∧ (u.flag F.CAM_CFG_free_run n = true) ∧ ((u.frame n q).isFinal = true) ∧ ((u.setRegN .CAM_SEQ n (q + 1)).negFree n = some j)) ∧
  (∃ (s : State) (dt : Nat) (p : Fin 16) (k : Packet) (q : Nat),
    let u := s.elapse dt
    let n := 32 * p.val + k.slot.toNat
    (u.inSequence p k) ∧ (k.ptype = 4) ∧ (u.isOut p = false) ∧ (u.takesInto n q) ∧ ((u.frame n q).rows ≤ u.height n)) ∧
  (∃ (s : State) (dt : Nat) (p : Fin 16) (k : Packet) (x : Tunnel),
    let u := s.elapse dt
    (u.inSequence p k) ∧ (k.ptype = 5) ∧ ((u.port p).tunnels.find? (fun y => y.tag == leAt (bytesAt k.payload 0 k.len.toNat) 0 1) = some x)) ∧
  (∃ (s : State) (dt : Nat) (p : Fin 16) (k : Packet),
    let u := s.elapse dt
    (u.inSequence p k) ∧ (u.isOut p = true) ∧ (bit (u.fld F.CHN_STATUS_present) (u.fwdPeer p) = true) ∧ (u.chn.lostAt.get p = none) ∧ (k.ptype = 1)) ∧
  (∃ (s : State) (dt : Nat) (p : Fin 16) (k : Packet),
    let u := s.elapse dt
    (u.inSequence p k) ∧ (u.isOut p = true) ∧ (bit (u.fld F.CHN_STATUS_present) (u.fwdPeer p) = true) ∧ (u.chn.lostAt.get p = none) ∧ (k.ptype = 2)) ∧
  (∃ (s : State) (dt : Nat) (p : Fin 16) (k : Packet),
    let u := s.elapse dt
    (u.inSequence p k) ∧ (u.isOut p = true) ∧ (bit (u.fld F.CHN_STATUS_present) (u.fwdPeer p) = true) ∧ (u.chn.lostAt.get p = none) ∧ (k.ptype = 3)) ∧
  (∃ (s : State) (dt : Nat) (p : Fin 16) (k : Packet),
    let u := s.elapse dt
    (u.inSequence p k) ∧ (u.isOut p = true) ∧ (bit (u.fld F.CHN_STATUS_present) (u.fwdPeer p) = true) ∧ (u.chn.lostAt.get p = none) ∧ (k.ptype = 4)) :=
  ⟨⟨(on |> link 4 4 (fun x => { x with expect := 9 }) |> flds [(F.IXL_SLOT_CFG_en, 130, 1), (F.IXL_SLOT_CFG_dt, 130, 0x2B), (F.CAM_GEOM_width, 130, 8), (F.CAM_GEOM_height, 130, 64)] |> cam 130 (fun c => { c with openSeq := some 3 }) |> frm 130 3 (fun f => { f with st := 1, seq := 3, closeAt := 100, rows := 5, negSlot := 0 })), 0, (4), (sealed { ptype := 1, slot := 2, dt := 0x2B, line := 63, len := 8, pseq := 9, lastSeg := false, payload := [1, 2, 3] }), (3), ⟨by unfold State.inSequence; decide +kernel, by decide +kernel, by decide +kernel, ⟨⟨of_some (by decide +kernel), by decide +kernel, of_some (by decide +kernel)⟩, by decide +kernel, by decide +kernel, by decide +kernel⟩, by decide +kernel⟩⟩,
  ⟨(on |> link 4 4 (fun x => { x with expect := 9 }) |> flds [(F.IXL_SLOT_CFG_en, 130, 1), (F.IXL_SLOT_CFG_dt, 130, 0x2B), (F.CAM_GEOM_width, 130, 8), (F.CAM_GEOM_height, 130, 64)] |> cam 130 (fun c => { c with openSeq := some 3 }) |> frm 130 3 (fun f => { f with st := 1, seq := 3, closeAt := 100, rows := 5, negSlot := 0 })), 0, (4), (sealed { ptype := 1, slot := 2, dt := 0x2B, line := 5, len := 10, pseq := 9, payload := [1, 2, 3] }), (3), ⟨by unfold State.inSequence; decide +kernel, by decide +kernel, by decide +kernel, ⟨⟨of_some (by decide +kernel), by decide +kernel, of_some (by decide +kernel)⟩, by decide +kernel, by decide +kernel, by decide +kernel⟩, by decide +kernel⟩⟩,
  ⟨(on |> link 4 4 (fun x => { x with expect := 9 }) |> flds [(F.IXL_SLOT_CFG_en, 130, 1), (F.IXL_SLOT_CFG_dt, 130, 0x2B), (F.CAM_GEOM_width, 130, 8), (F.CAM_GEOM_height, 130, 64)] |> cam 130 (fun c => { c with openSeq := some 3 }) |> frm 130 3 (fun f => { f with st := 1, seq := 3, closeAt := 100, rows := 5, negSlot := 0 }) |> frm 130 3 (fun f => { f with inlinePath := true, cur := some (5, [7, 8, 9, 10]) })), 0, (4), (sealed { ptype := 1, slot := 2, dt := 0x2B, line := 5, len := 6, pseq := 9, payload := [1, 2, 3] }), (3), ⟨by unfold State.inSequence; decide +kernel, by decide +kernel, by decide +kernel, ⟨⟨of_some (by decide +kernel), by decide +kernel, of_some (by decide +kernel)⟩, by decide +kernel, by decide +kernel, by decide +kernel⟩, by decide +kernel⟩⟩,
  ⟨(on |> link 4 4 (fun x => { x with expect := 9 }) |> flds [(F.IXL_SLOT_CFG_en, 130, 1), (F.IXL_SLOT_CFG_dt, 130, 0x2B), (F.CAM_GEOM_width, 130, 8), (F.CAM_GEOM_height, 130, 64)] |> cam 130 (fun c => { c with openSeq := some 3 }) |> frm 130 3 (fun f => { f with st := 1, seq := 3, closeAt := 100, rows := 5, negSlot := 0 }) |> flds [(F.IXL_SLOT_CFG_embed_en, 130, 1)]), 0, (4), (sealed { ptype := 2, slot := 2, dt := 0x12, line := 1, len := 8, pseq := 9, payload := [1, 2, 3] }), (3), ⟨by unfold State.inSequence; decide +kernel, by decide +kernel, by decide +kernel, ⟨⟨of_some (by decide +kernel), by decide +kernel, of_some (by decide +kernel)⟩, by decide +kernel, by decide +kernel, by decide +kernel⟩, by decide +kernel⟩⟩,
  ⟨(on |> link 4 4 (fun x => { x with expect := 9 }) |> flds [(F.IXL_SLOT_CFG_en, 130, 1), (F.IXL_SLOT_CFG_dt, 130, 0x2B), (F.CAM_GEOM_width, 130, 8), (F.CAM_GEOM_height, 130, 64)] |> flds [(F.CAM_STATUS_stream, 130, 2), (F.CAM_NEG_CFG_count, 130, 2)] |> frm 130 0 (fun f => { f with st := 3 }) |> cam 130 (fun c => { c with expect := [⟨7, 50⟩] })), 0, (4), (sealed { ptype := 3, slot := 2, trigSeq := 7, pseq := 9 }), (⟨7, 50⟩), (0), ⟨by unfold State.inSequence; decide +kernel, by decide +kernel, by decide +kernel, ⟨of_some (by decide +kernel), by decide +kernel, of_some (by decide +kernel)⟩, of_some (by decide +kernel), by decide +kernel⟩⟩,
  ⟨(on |> link 4 4 (fun x => { x with expect := 9 }) |> flds [(F.IXL_SLOT_CFG_en, 130, 1), (F.IXL_SLOT_CFG_dt, 130, 0x2B), (F.CAM_GEOM_width, 130, 8), (F.CAM_GEOM_height, 130, 64)] |> flds [(F.CAM_STATUS_stream, 130, 2), (F.CAM_NEG_CFG_count, 130, 2)] |> frm 130 0 (fun f => { f with st := 3 }) |> flds [(F.CAM_CFG_free_run, 130, 1)]), 0, (4), (sealed { ptype := 3, slot := 2, trigSeq := 7, pseq := 9 }), (0), ⟨by unfold State.inSequence; decide +kernel, by decide +kernel, by decide +kernel, ⟨of_some (by decide +kernel), by decide +kernel, of_some (by decide +kernel)⟩, of_some (by decide +kernel), by decide +kernel⟩⟩,
  ⟨(on |> link 4 4 (fun x => { x with expect := 9 }) |> flds [(F.IXL_SLOT_CFG_en, 130, 1), (F.IXL_SLOT_CFG_dt, 130, 0x2B), (F.CAM_GEOM_width, 130, 8), (F.CAM_GEOM_height, 130, 64)] |> cam 130 (fun c => { c with openSeq := some 3 }) |> frm 130 3 (fun f => { f with st := 1, seq := 3, closeAt := 100, rows := 62, negSlot := 0 })), 0, (4), (sealed { ptype := 4, slot := 2, pseq := 9 }), (3), ⟨by unfold State.inSequence; decide +kernel, by decide +kernel, by decide +kernel, ⟨⟨of_some (by decide +kernel), by decide +kernel, of_some (by decide +kernel)⟩, by decide +kernel, by decide +kernel, by decide +kernel⟩, by decide +kernel⟩⟩,
  ⟨(on |> link 4 4 (fun x => { x with expect := 9, tunnels := [⟨200, {}, 0, .firmware⟩] })), 0, (4), (sealed { ptype := 5, pseq := 9, len := 8, payload := [200] }), (⟨200, {}, 0, .firmware⟩), ⟨by unfold State.inSequence; decide +kernel, by decide +kernel⟩⟩,
  ⟨(on |> flds [(F.CHN_FWD_out, 0, 16), (F.CHN_FWD_PEER_peer, 4, 2), (F.CHN_STATUS_present, 0, 5)] |> link 4 4 (fun x => { x with expect := 9 })), 0, (4), (sealed { ptype := 1, slot := 2, pseq := 9 }), ⟨by unfold State.inSequence; decide +kernel, by decide +kernel⟩⟩,
  ⟨(on |> flds [(F.CHN_FWD_out, 0, 16), (F.CHN_FWD_PEER_peer, 4, 2), (F.CHN_STATUS_present, 0, 5)] |> link 4 4 (fun x => { x with expect := 9 })), 0, (4), (sealed { ptype := 2, slot := 2, pseq := 9 }), ⟨by unfold State.inSequence; decide +kernel, by decide +kernel⟩⟩,
  ⟨(on |> flds [(F.CHN_FWD_out, 0, 16), (F.CHN_FWD_PEER_peer, 4, 2), (F.CHN_STATUS_present, 0, 5)] |> link 4 4 (fun x => { x with expect := 9 })), 0, (4), (sealed { ptype := 3, slot := 2, pseq := 9 }), ⟨by unfold State.inSequence; decide +kernel, by decide +kernel⟩⟩,
  ⟨(on |> flds [(F.CHN_FWD_out, 0, 16), (F.CHN_FWD_PEER_peer, 4, 2), (F.CHN_STATUS_present, 0, 5)] |> link 4 4 (fun x => { x with expect := 9 })), 0, (4), (sealed { ptype := 4, slot := 2, pseq := 9 }), ⟨by unfold State.inSequence; decide +kernel, by decide +kernel⟩⟩⟩

/-- LinkTimers is about something: a state and operands for each of its clauses. -/
theorem witness_LinkTimers :
  (∃ (s : State) (dt : Nat) (p : Fin 18) (r : ReplayS) (d : Nat),
    let u := s.elapse dt
    ((u.port p).replay = some r) ∧ (r.deadline = some d) ∧ (d < u.now) ∧ (r.attempt < 3)) ∧
  (∃ (s : State) (dt : Nat) (p : Fin 16) (r : ReplayS) (d : Nat),
    let u := s.elapse dt
    ((u.port p).replay = some r) ∧ (r.deadline = some d) ∧ (d < u.now) ∧ (3 ≤ r.attempt)) ∧
  (∃ (s : State) (dt : Nat) (p : Fin 18),
    let u := s.elapse dt
    (u.portState p = 4) ∧ (0 < (u.port p).accSince) ∧ ((u.port p).ackFrom + 1000 ≤ u.now)) ∧
  (∃ (s : State) (dt : Nat) (p : Fin 18),
    let u := s.elapse dt
    ((u.portState p = 4 ∨ u.portState p = 3)) ∧ (0 < (u.port p).freed) ∧ ((u.port p).freedFrom + 1000 ≤ u.now)) ∧
  (∃ (s : State) (dt : Nat) (p : Fin 16) (r : TunnelOp),
    let u := s.elapse dt
    (u.isIn p = false) ∧ (u.fld F.IXL_PORT_STATUS_state p = 4) ∧ ((u.port p).tunnels.length < 16) ∧ ((u.port p).held = [])) ∧
  (∃ (s : State) (dt : Nat) (p : Fin 16) (r : TunnelOp),
    let u := s.elapse dt
    (u.isIn p = false) ∧ (u.fld F.IXL_PORT_STATUS_state p = 4) ∧ ((16 ≤ (u.port p).tunnels.length ∨ (u.port p).held ≠ []))) ∧
  (∃ (s : State) (dt : Nat) (p : Fin 16) (r : TunnelOp),
    let u := s.elapse dt
    (u.isIn p = true)) ∧
  (∃ (s : State) (dt : Nat) (p : Fin 16) (x : Tunnel) (l : List Tunnel),
    let u := s.elapse dt
    ((u.port p).held = x :: l) ∧ ((u.port p).tunnels.length < 16)) ∧
  (∃ (s : State) (dt : Nat) (p : Fin 16) (tag : Byte) (x : Tunnel),
    let u := s.elapse dt
    ((u.port p).tunnels.find? (fun y => y.tag == tag.toNat) = some x) ∧ (x.began + 5000000 < u.now)) :=
  ⟨⟨(on |> link 4 4 (fun x => { x with replay := some ⟨9, 1, 2, some 50⟩ }) |> clock 51), 0, (4), (⟨9, 1, 2, some 50⟩), (50), by decide +kernel⟩,
  ⟨(on |> link 4 4 (fun x => { x with replay := some ⟨9, 1, 3, some 50⟩ }) |> clock 51), 0, (4), (⟨9, 1, 3, some 50⟩), (50), by decide +kernel⟩,
  ⟨(on |> link 16 4 (fun x => { x with accSince := 1, lastAcc := 8 }) |> clock 1000), 0, (16), by decide +kernel⟩,
  ⟨(on |> link 4 4 (fun x => { x with freed := 3, cumCredit := 65535 }) |> clock 1000), 0, (4), by decide +kernel⟩,
  ⟨(on |> link 4 4 id), 0, (4), (⟨1, 0, 0, 0x10, 0, [1], 2⟩), by decide +kernel⟩,
  ⟨(on |> link 4 4 (fun x => { x with held := [⟨0, {}, 0, .firmware⟩] })), 0, (4), (⟨1, 0, 0, 0x10, 0, [1], 2⟩), by decide +kernel⟩,
  ⟨(on |> flds [(F.CHN_FWD_in, 0, 16), (F.CHN_FWD_PEER_peer, 4, 2)]), 0, (4), (⟨1, 0, 0, 0x10, 0, [1], 2⟩), by decide +kernel⟩,
  ⟨(on |> link 4 4 (fun x => { x with held := [⟨0, {}, 0, .firmware⟩] }) |> clock 9), 0, (4), (⟨0, {}, 0, .firmware⟩), ([]), by decide +kernel⟩,
  ⟨(on |> link 4 4 (fun x => { x with tunnels := [⟨200, {}, 0, .firmware⟩] }) |> clock 5000001), 0, (4), (200), (⟨200, {}, 0, .firmware⟩), by decide +kernel⟩⟩

/-- TriggersAndSchedules is about something: a state and operands for each of its clauses. -/
theorem witness_TriggersAndSchedules :
  (∃ (s : State) (dt : Nat) (p : Fin 16) (l : BitVec 64),
    let u := s.elapse dt
    let due := u.dueAt p l.toNat
    let q := (u.port p).trigSeq
    (u.triggersOn = true) ∧ (u.isIn p = false) ∧ (u.isOut p = false) ∧ (l.toNat ≤ u.now) ∧ ((∃ e ∈ due, e.2.l = l.toNat)) ∧ (u.portState p = 4)) ∧
  (∃ (s : State) (dt : Nat) (p : Fin 16) (l : BitVec 64),
    let u := s.elapse dt
    let due := u.dueAt p l.toNat
    let q := (u.port p).trigSeq
    (u.triggersOn = true) ∧ (u.isIn p = false) ∧ (u.isOut p = false) ∧ (l.toNat ≤ u.now) ∧ ((∃ e ∈ due, e.2.l = l.toNat)) ∧ (u.portState p ≠ 4)) ∧
  (∃ (s : State) (dt : Nat) (p : Fin 16) (l : BitVec 64) (r : TrigReq),
    let u := s.elapse dt
    let q := (u.port p).trigSeq
    (u.triggersOn = true) ∧ (u.isIn p = false) ∧ (u.isOut p = true) ∧ (l.toNat ≤ u.now) ∧ (u.chn.trigs = [r]) ∧ (r.port = p) ∧ (r.launch = l.toNat) ∧ (u.portState p = 4)) ∧
  (∃ (s : State) (dt : Nat) (p : Fin 16) (l : BitVec 64),
    let u := s.elapse dt
    (u.triggersOn = true) ∧ (u.isIn p = true)) ∧
  (∃ (s : State) (dt : Nat) (n : Fin 512) (x : Trig) (xs : List Trig),
    let u := s.elapse dt
    let q := u.regN .CAM_SEQ n
    (u.stream n = 2) ∧ (u.flag F.CAM_CFG_free_run n = false) ∧ ((u.cam n).expect = x :: xs) ∧ (x.deadline < u.now) ∧ ((u.frame n q).isFinal = true)) ∧
  (∃ (s : State) (dt : Nat) (n : Fin 512) (d : Nat),
    let u := s.elapse dt
    let q := u.regN .CAM_SEQ n
    (u.stream n = 2) ∧ (u.flag F.CAM_CFG_free_run n = true) ∧ ((u.cam n).freeRun = some d) ∧ (d < u.now) ∧ ((u.frame n q).isFinal = true)) ∧
  (∃ (s : State) (dt : Nat) (n : Fin 512) (q : Nat),
    let u := s.elapse dt
    ((u.cam n).openSeq = some q) ∧ ((u.frame n q).closeAt < u.now)) ∧
  (∃ (s : State) (dt : Nat) (g : Fin 32),
    let u := s.elapse dt
    (u.answers .SYN = true) ∧ (u.owner (32 + g) ≠ 5) ∧ (u.flag F.SYN_SCHED_CTL_enable g = false) ∧ (u.schedPeriodOk g = true)) ∧
  (∃ (s : State) (dt : Nat) (g : Fin 32),
    let u := s.elapse dt
    (u.answers .SYN = true) ∧ (u.owner (32 + g) ≠ 5)) ∧
  (∃ (s : State) (dt : Nat) (g : Fin 32) (k : Nat),
    let u := s.elapse dt
    (k = (u.time.sched.get g).next) ∧ (u.flag F.SYN_SCHED_CTL_enable g = true) ∧ (u.pair .SYN_SCHED_BASE_LO .SYN_SCHED_BASE_HI g + k * u.fld F.SYN_SCHED_PERIOD_period g ≤ u.now + 1000000) ∧ (u.triggersOn = true)) ∧
  (∃ (s : State) (dt : Nat) (g : Fin 32) (a : Nat) (b : Nat) (per : Nat),
    let u := s.elapse dt
    ((u.time.sched.get g).apply = some (a, b, per)) ∧ (a ≤ u.now) ∧ (u.flag F.SYN_SCHED_CTL_enable g = false) ∧ (1000000 ≤ per) ∧ (per ≤ 1000000000) ∧ (b < 2 ^ 64)) ∧
  (∃ (s : State) (dt : Nat) (g : Fin 32) (a : Nat) (b : Nat),
    let u := s.elapse dt
    ((u.time.sched.get g).apply = some (a, b, 0)) ∧ (a ≤ u.now)) :=
  ⟨⟨(on |> link 4 4 (fun x => { x with trigSeq := 16382 }) |> clock 100 |> cam 130 (fun c => { c with launches := [⟨100, 100⟩, ⟨200, 200⟩] })), 0, (4), (100), by decide +kernel⟩,
  ⟨(on |> link 4 3 (fun x => { x with trigSeq := 16382 }) |> clock 100 |> cam 130 (fun c => { c with launches := [⟨100, 100⟩, ⟨200, 200⟩] }) |> cam 131 (fun c => { c with launches := [⟨99, 120⟩] })), 0, (4), (100), by decide +kernel⟩,
  ⟨(on |> flds [(F.CHN_FWD_out, 0, 16)] |> clock 100 |> link 4 4 (fun x => { x with trigSeq := 9 }) |> chn (fun c => { c with trigs := [⟨4, 6, 100, 130, 2⟩] })), 0, (4), (100), (⟨4, 6, 100, 130, 2⟩), by decide +kernel⟩,
  ⟨(on |> flds [(F.CHN_FWD_in, 0, 16), (F.CHN_FWD_PEER_peer, 4, 2)] |> clock 100 |> cam 130 (fun c => { c with launches := [⟨100, 100⟩, ⟨200, 200⟩] })), 0, (4), (100), by decide +kernel⟩,
  ⟨(on |> clock 51 |> flds [(F.CAM_STATUS_stream, 130, 2)] |> cam 130 (fun c => { c with expect := [⟨7, 50⟩, ⟨8, 60⟩] }) |> frm 130 0 (fun f => { f with st := 3 })), 0, (130), (⟨7, 50⟩), ([⟨8, 60⟩]), by decide +kernel⟩,
  ⟨(on |> clock 51 |> flds [(F.CAM_STATUS_stream, 130, 2), (F.CAM_CFG_free_run, 130, 1)] |> cam 130 (fun c => { c with freeRun := some 50 }) |> frm 130 0 (fun f => { f with st := 3 })), 0, (130), (50), by decide +kernel⟩,
  ⟨(on |> clock 101 |> flds [(F.CAM_GEOM_height, 130, 64)] |> cam 130 (fun c => { c with openSeq := some 3 }) |> frm 130 3 (fun f => { f with st := 1, seq := 3, closeAt := 100 })), 0, (130), (3), by decide +kernel⟩,
  ⟨(on |> flds [(F.SYN_SCHED_PERIOD_period, 31, 1000000)] |> clock 12345), 0, (31), by decide +kernel⟩,
  ⟨(on |> flds [(F.SYN_SCHED_CTL_enable, 31, 1)]), 0, (31), by decide +kernel⟩,
  ⟨(on |> flds [(F.SYN_SCHED_PERIOD_period, 31, 1000000), (F.SYN_SCHED_CTL_enable, 31, 1), (F.CAM_STATUS_stream, 130, 2), (F.CAM_TRIG_CFG_sched, 130, 31), (F.CAM_STATUS_stream, 131, 2), (F.CAM_TRIG_CFG_sched, 131, 31)] |> tme (fun t => { t with sched := t.sched.set 31 { next := 1 } })), 0, (31), (1), by decide +kernel⟩,
  ⟨(on |> clock 40 |> tme (fun t => { t with sched := t.sched.set 2 { apply := some (40, 2 ^ 33, 1000000) } })), 0, (2), (40), (2 ^ 33), (1000000), by decide +kernel⟩,
  ⟨(on |> flds [(F.SYN_SCHED_CTL_enable, 2, 1), (F.PIN_OWN_holder, 34, 5)] |> clock 40 |> tme (fun t => { t with sched := t.sched.set 2 { apply := some (40, 2 ^ 33, 0) } })), 0, (2), (40), (2 ^ 33), by decide +kernel⟩⟩

/-- TimeSources is about something: a state and operands for each of its clauses. -/
theorem witness_TimeSources :
  (∃ (s : State) (dt : Nat) (v : Word),
    let u := s.elapse dt
    (u.answers .SYN = true) ∧ (u.fld F.CHN_STATUS_pos = 0) ∧ (getBits v.toNat 0 2 = 1) ∧ (u.source ≠ 1)) ∧
  (∃ (s : State) (dt : Nat) (v : Word),
    let u := s.elapse dt
    (u.answers .SYN = true) ∧ (u.fld F.CHN_STATUS_pos = 0) ∧ (getBits v.toNat 0 2 = 0) ∧ (u.source ≠ 0)) ∧
  (∃ (s : State) (dt : Nat),
    let u := s.elapse dt
    (u.source = 1) ∧ (u.time.ptm = none) ∧ (u.time.ptmNext ≤ u.now) ∧ (u.time.ptmOn = true)) ∧
  (∃ (s : State) (dt : Nat),
    let u := s.elapse dt
    (u.source = 1) ∧ (u.time.ptm = none) ∧ (u.time.ptmNext ≤ u.now) ∧ (u.time.ptmOn = false)) ∧
  (∃ (s : State) (dt : Nat) (m : PtmMaster) (l : PtmLocal) (b : Nat) (e : Int),
    let u := s.elapse dt
    (u.time.ptm = some b) ∧ (u.now ≤ b + u.ptmNs) ∧ ((u.time.firstDone = true ∨ u.timeIdle = false)) ∧ (e = 8 * (ptmMaster2 m l + 2 * toSigned 64 (u.pair .SYN_PTM_OFFSET_LO .SYN_PTM_OFFSET_HI) - 2 * (l.t1.toNat : Int))) ∧ (e ≤ max 1 (u.fld F.SYN_CFG_step_us) * 1000 * 16) ∧ (-(max 1 (u.fld F.SYN_CFG_step_us) * 1000 * 16 : Int) ≤ e)) ∧
  (∃ (s : State) (dt : Nat) (m : PtmMaster) (l : PtmLocal) (b : Nat) (e : Int),
    let u := s.elapse dt
    (u.time.ptm = some b) ∧ (u.now ≤ b + u.ptmNs) ∧ ((u.time.firstDone = true ∨ u.timeIdle = false)) ∧ (e = 8 * (ptmMaster2 m l + 2 * toSigned 64 (u.pair .SYN_PTM_OFFSET_LO .SYN_PTM_OFFSET_HI) - 2 * (l.t1.toNat : Int))) ∧ (e < -(max 1 (u.fld F.SYN_CFG_step_us) * 1000 * 16 : Int))) ∧
  (∃ (s : State) (dt : Nat) (m : PtmMaster) (l : PtmLocal) (b : Nat) (e : Int),
    let u := s.elapse dt
    (u.time.ptm = some b) ∧ (u.now ≤ b + u.ptmNs) ∧ (e = 8 * (ptmMaster2 m l + 2 * toSigned 64 (u.pair .SYN_PTM_OFFSET_LO .SYN_PTM_OFFSET_HI) - 2 * (l.t1.toNat : Int))) ∧ ((max 1 (u.fld F.SYN_CFG_step_us) * 1000 * 16 < e ∨ (u.time.firstDone = false ∧ u.timeIdle = true ∧ rneDiv e 16 ≠ 0)))) ∧
  (∃ (s : State) (dt : Nat) (b : Nat),
    let u := s.elapse dt
    (u.time.ptm = some b) ∧ (b + u.ptmNs < u.now) ∧ (u.fld F.SYN_STATUS_state = 2) ∧ (3 ≤ u.time.failRun)) ∧
  (∃ (s : State) (dt : Nat) (c : Nat),
    let u := s.elapse dt
    (u.time.slewEnd = some c) ∧ (c ≤ u.time.tclk)) :=
  ⟨⟨(on), 0, (1), by decide +kernel⟩,
  ⟨(on |> flds [(F.SYN_STATUS_source_in_force, 0, 1), (F.SYN_STATUS_state, 0, 3)]), 0, (0), by decide +kernel⟩,
  ⟨(on |> flds [(F.SYN_STATUS_source_in_force, 0, 1)] |> clock 40 |> tme (fun t => { t with ptmOn := true })), 0, by decide +kernel⟩,
  ⟨(on |> flds [(F.SYN_STATUS_source_in_force, 0, 1)] |> clock 40), 0, by decide +kernel⟩,
  ⟨(on |> flds [(F.SYN_STATUS_source_in_force, 0, 1)] |> clock 40 |> tme (fun t => { t with ptm := some 30, firstDone := true })), 0, (⟨10050, 10050⟩), (⟨50, 50⟩), (30), (160000), by decide +kernel⟩,
  ⟨(on |> flds [(F.SYN_STATUS_source_in_force, 0, 1)] |> clock 40 |> tme (fun t => { t with ptm := some 30, firstDone := true })), 0, (⟨50, 50⟩), (⟨10051, 10051⟩), (30), (-160016), by decide +kernel⟩,
  ⟨(on |> flds [(F.SYN_STATUS_source_in_force, 0, 1)] |> clock 40 |> tme (fun t => { t with ptm := some 30, firstDone := true })), 0, (⟨10051, 10051⟩), (⟨50, 50⟩), (30), (160016), by decide +kernel⟩,
  ⟨(on |> flds [(F.SYN_STATUS_state, 0, 2)] |> clock 8000001 |> tme (fun t => { t with ptm := some 0, failRun := 3, heldF := -7 })), 0, (0), by decide +kernel⟩,
  ⟨(on |> tme (fun t => { t with slewEnd := some 9, tclk := 9, heldF := -7 })), 0, (9), by decide +kernel⟩⟩

/-- HardSetAndSyncSymbols is about something: a state and operands for each of its clauses. -/
theorem witness_HardSetAndSyncSymbols :
  (∃ (s : State) (dt : Nat),
    let u := s.elapse dt
    (u.answers .SYN = true) ∧ (u.source = 0) ∧ (u.timeIdle = true)) ∧
  (∃ (s : State) (dt : Nat),
    let u := s.elapse dt
    (u.answers .SYN = true) ∧ ((u.source ≠ 0 ∨ u.timeIdle = false))) ∧
  (∃ (s : State) (dt : Nat),
    let u := s.elapse dt
    ((u.pos = 0 ∨ (u.source = 2 ∧ u.inHoldover = true ∧ u.time.ownSym = true))) ∧ (u.portState 17 = 4) ∧ (u.time.emitNext ≤ u.now)) ∧
  (∃ (s : State) (dt : Nat) (time : BitVec 54) (acc : BitVec 20) (early : Byte) (held : Bool),
    let u := s.elapse dt
    let d := u.fld F.CHN_CABLE_delay
    (u.source = 2) ∧ (u.portState 16 = 4) ∧ (u.chn.meas.length < 8) ∧ (u.portState 17 = 4)) ∧
  (∃ (s : State) (dt : Nat) (time : BitVec 54) (acc : BitVec 20) (early : Byte) (held : Bool),
    let u := s.elapse dt
    let d := u.fld F.CHN_CABLE_delay
    (u.source = 2) ∧ (u.portState 16 = 4) ∧ (8 ≤ u.chn.meas.length) ∧ (u.portState 17 = 4)) ∧
  (∃ (s : State) (dt : Nat),
    let u := s.elapse dt
    (u.source = 2) ∧ (u.time.lastSym + 1024 < u.now)) :=
  ⟨⟨((on.setRegN .SYN_SET_HI 0 2).setRegN .SYN_SET_LO 0 77), 0, by decide +kernel⟩,
  ⟨(on |> flds [(F.SYN_STATUS_source_in_force, 0, 1)] |> clock 4), 0, by decide +kernel⟩,
  ⟨(on |> link 17 4 id |> clock 1024), 0, by decide +kernel⟩,
  ⟨(on |> link 16 4 id |> link 17 4 id |> flds [(F.SYN_STATUS_source_in_force, 0, 2), (F.CHN_STATUS_pos, 0, 1)] |> clock 1024), 0, (5), (0), (0), (false), by decide +kernel⟩,
  ⟨(on |> link 16 4 id |> link 17 4 id |> flds [(F.SYN_STATUS_source_in_force, 0, 2), (F.CHN_STATUS_pos, 0, 1)] |> clock 1024 |> chn (fun c => { c with meas := [1, 2, 3, 4, 5, 6, 7, 8] })), 0, (5), (0), (0), (false), by decide +kernel⟩,
  ⟨(on |> flds [(F.SYN_STATUS_source_in_force, 0, 2), (F.CHN_STATUS_pos, 0, 1)] |> clock 1025), 0, by decide +kernel⟩⟩

/-- TimePins is about something: a state and operands for each of its clauses. -/
theorem witness_TimePins :
  (∃ (s : State) (dt : Nat) (i : Fin 4) (v : Word),
    let u := s.elapse dt
    (u.answers .SYN = true) ∧ (u.flag F.SYN_OUT_CTL_enable i = false) ∧ (u.fld F.SYN_OUT_PERIOD_period i ≠ 0)) ∧
  (∃ (s : State) (dt : Nat) (i : Fin 4) (v : Word),
    let u := s.elapse dt
    (u.answers .SYN = true) ∧ (u.flag F.SYN_OUT_CTL_enable i = false) ∧ (u.fld F.SYN_OUT_PERIOD_period i = 0)) ∧
  (∃ (s : State) (dt : Nat) (i : Fin 4),
    let u := s.elapse dt
    let j := (u.time.outs.get i).next
    (u.flag F.SYN_OUT_CTL_enable i = true) ∧ (u.edgeTime i j ≤ u.now) ∧ ((u.fld F.SYN_OUT_PERIOD_period i = 0 → j = 0)) ∧ ((u.time.jump.all fun x => !(decide (x.1 < u.edgeTime i j) && decide (u.edgeTime i j ≤ x.2))) = true) ∧ (u.syncGranted i = true)) ∧
  (∃ (s : State) (dt : Nat) (i : Fin 4),
    let u := s.elapse dt
    let j := (u.time.outs.get i).next
    (u.flag F.SYN_OUT_CTL_enable i = true) ∧ (u.edgeTime i j ≤ u.now) ∧ ((u.fld F.SYN_OUT_PERIOD_period i = 0 → j = 0)) ∧ ((u.time.jump.all fun x => !(decide (x.1 < u.edgeTime i j) && decide (u.edgeTime i j ≤ x.2))) = true) ∧ (u.syncGranted i = false)) ∧
  (∃ (s : State) (dt : Nat) (i : Fin 4),
    let u := s.elapse dt
    ((u.time.outs.get i).pulse = true) ∧ ((u.time.outs.get i).fallAt ≤ u.now) ∧ ((u.time.outs.get i).level = true) ∧ (u.fld F.SYN_OUT_PERIOD_period i = 0)) ∧
  (∃ (s : State) (dt : Nat),
    let u := s.elapse dt
    ((∀ e, u.time.lastEdge = some e → e + 10 ≤ u.now)) ∧ (u.time.snaps.length < 16)) ∧
  (∃ (s : State) (dt : Nat),
    let u := s.elapse dt
    ((16 ≤ u.time.snaps.length ∨ (u.time.lastEdge.any fun e => decide (u.now < e + 10)) = true))) ∧
  (∃ (s : State) (dt : Nat) (f : Fin 9) (x : Nat) (xs : List Nat),
    let u := s.elapse dt
    (u.answers .SYN = true) ∧ (u.time.snaps = x :: xs)) :=
  ⟨⟨(on |> flds [(F.SYN_OUT_PERIOD_period, 3, 1000)] |> clock 700), 0, (3), (0x80000010), by decide +kernel⟩,
  ⟨(on |> clock 700), 0, (3), (0x80000010), by decide +kernel⟩,
  ⟨(on |> flds [(F.SYN_OUT_PERIOD_period, 3, 1000), (F.SYN_OUT_CTL_enable, 3, 1), (F.PIN_OWN_holder, 19, 2)] |> clock 2000 |> tme (fun t => { t with jump := some (2000, 3000), outs := t.outs.set 3 { next := 2 } })), 0, (3), by decide +kernel⟩,
  ⟨(on |> flds [(F.SYN_OUT_PERIOD_period, 3, 1000), (F.SYN_OUT_CTL_enable, 3, 1), (F.PIN_OWN_holder, 19, 5)] |> clock 2000 |> tme (fun t => { t with jump := some (2000, 3000), outs := t.outs.set 3 { next := 2 } })), 0, (3), by decide +kernel⟩,
  ⟨(on |> flds [(F.SYN_OUT_CTL_enable, 3, 1)] |> clock 2000 |> tme (fun t => { t with outs := t.outs.set 3 { level := true, pulse := true, fallAt := 2000 } })), 0, (3), by decide +kernel⟩,
  ⟨(on |> clock 2000 |> tme (fun t => { t with lastEdge := some 1990 })), 0, ⟨of_some (by decide +kernel), by decide +kernel⟩⟩,
  ⟨(on |> clock 2000 |> tme (fun t => { t with snaps := List.replicate 16 5 })), 0, by decide +kernel⟩,
  ⟨(on |> tme (fun t => { t with snaps := [2 ^ 32 + 5, 7] })), 0, (0), (2 ^ 32 + 5), ([7]), by decide +kernel⟩⟩

/-- RegisterAccesses is about something: a state and operands for each of its clauses. -/
theorem witness_RegisterAccesses :
  (∃ (s : State) (dt : Nat) (f : Fin 9) (a : Word) (v : BitVec 64) (r : RegName) (i : Nat),
    let u := s.elapse dt
    (regAt f a.toNat = some (r, i)) ∧ (r.info.half = .single) ∧ (u.answers r.info.block = true) ∧ (u.plainAt r i v.toNat)) ∧
  (∃ (s : State) (dt : Nat) (f : Fin 9) (a : Word) (r : RegName) (i : Nat),
    let u := s.elapse dt
    (regAt f a.toNat = some (r, i)) ∧ (r.info.half = .low) ∧ (u.answers r.info.block = true) ∧ (rxChannel r = none) ∧ (r ≠ .SYN_SNAP_LO) ∧ (r ≠ .SYN_TIME_LO)) ∧
  (∃ (s : State) (dt : Nat) (f : Fin 9) (a : Word) (v : Word) (r : RegName) (i : Nat),
    let u := s.elapse dt
    (regAt f a.toNat = some (r, i)) ∧ (r.info.half = .low) ∧ (u.answers r.info.block = true) ∧ (r.writable = true)) ∧
  (∃ (s : State) (dt : Nat) (f : Fin 9) (a : Word) (v : Word) (r : RegName) (i : Nat),
    let u := s.elapse dt
    let lo := lookupD u.wrShadow (f.val, r.low, i) (u.reg r.low i)
    (regAt f a.toNat = some (r, i)) ∧ (r.info.half = .high) ∧ (u.answers r.info.block = true) ∧ (r.writable = true) ∧ (r.low ≠ r) ∧ (u.plainAt r.low i lo.toNat) ∧ (u.plainAt r i v.toNat)) ∧
  (∃ (s : State) (dt : Nat) (a : Word) (v : Word) (g : Option Nat) (off : Nat) (d : Nat) (r : RegName) (n : Fin 512),
    let u := s.elapse dt
    let k := n * r.info.sub + d
    (aliasAt a.toNat = some (g, off)) ∧ (a.toNat % 4 = 0) ∧ (u.answers .CAM = true) ∧ (regIn .CAM 0 off = some (r, d)) ∧ (r.info.half = .single) ∧ ((∀ m, m < 512 → u.plainAt r (m * r.info.sub + d) v.toNat)) ∧ (n.val ∈ u.aliasCams g)) ∧
  (∃ (s : State) (dt : Nat) (a : Word) (v : Word) (g : Option Nat) (off : Nat) (d : Nat) (r : RegName) (n : Fin 512),
    let u := s.elapse dt
    let k := n * r.info.sub + d
    (aliasAt a.toNat = some (g, off)) ∧ (a.toNat % 4 = 0) ∧ (u.answers .CAM = true) ∧ (regIn .CAM 0 off = some (r, d)) ∧ (r.info.half = .single) ∧ ((∀ m, m < 512 → u.plainAt r (m * r.info.sub + d) v.toNat)) ∧ (n.val ∉ u.aliasCams g)) ∧
  (∃ (s : State) (dt : Nat) (v : Word),
    let u := s.elapse dt
    (u.answers .GLB = true) ∧ (v.toNat % 65536 ≠ 0) ∧ ((u.changedCores (v.toNat % 65536)).any u.coreTied = false)) ∧
  (∃ (s : State) (dt : Nat) (v : Word),
    let u := s.elapse dt
    (u.answers .GLB = true) ∧ ((v.toNat % 65536 = 0 ∨ (u.changedCores (v.toNat % 65536)).any u.coreTied = true))) :=
  ⟨⟨(on), 0, (0), (0x00800010), (0), (.LC_RETAKE_CFG), (0), ⟨by decide +kernel, by decide +kernel, by decide +kernel, by unfold State.plainAt; decide +kernel⟩⟩,
  ⟨(on |> clock 5), 0, (0), (0x00100018), (.SYN_SET_LO), (0), by decide +kernel⟩,
  ⟨(on), 0, (0), (0x00100018), (7), (.SYN_SET_LO), (0), by decide +kernel⟩,
  ⟨({ on with wrShadow := [((0, .SYN_SET_LO, 0), 9)] }), 0, (0), (0x0010001C), (0xFFFFFFFF), (.SYN_SET_HI), (0), ⟨by decide +kernel, by decide +kernel, by decide +kernel, by decide +kernel, by decide +kernel, by unfold State.plainAt; decide +kernel, by unfold State.plainAt; decide +kernel⟩⟩,
  ⟨(on |> flds [(F.CAM_GROUP_group, 511, 31)]), 0, (0x00620140), (0x1234567), (some 31), (0x140), (0), (.CAM_AE_CFG), (511), ⟨by decide +kernel, by decide +kernel, by decide +kernel, by decide +kernel, by decide +kernel, fun m _ => ⟨rfl, rfl, rfl, rfl⟩, by decide +kernel⟩⟩,
  ⟨(on |> flds [(F.CAM_GROUP_group, 511, 31)]), 0, (0x00620140), (0x1234567), (some 31), (0x140), (0), (.CAM_AE_CFG), (510), ⟨by decide +kernel, by decide +kernel, by decide +kernel, by decide +kernel, by decide +kernel, fun m _ => ⟨rfl, rfl, rfl, rfl⟩, by decide +kernel⟩⟩,
  ⟨(on), 0, (0xFFFF8001), by decide +kernel⟩,
  ⟨(on), 0, (0x10000), by decide +kernel⟩⟩

/-- CameraSettings is about something: a state and operands for each of its clauses. -/
theorem witness_CameraSettings :
  (∃ (s : State) (dt : Nat) (n : Fin 512) (v : Word),
    let u := s.elapse dt
    (u.answers .CAM = true) ∧ (u.loopOn n 8 = false)) ∧
  (∃ (s : State) (dt : Nat) (n : Fin 512) (v : Word),
    let u := s.elapse dt
    (u.answers .CAM = true) ∧ (u.loopOn n 8 = true)) ∧
  (∃ (s : State) (dt : Nat) (n : Fin 512) (v : Word),
    let u := s.elapse dt
    (u.answers .CAM = true) ∧ (u.loopOn n 9 = false)) ∧
  (∃ (s : State) (dt : Nat) (n : Fin 512) (v : Word),
    let u := s.elapse dt
    (u.answers .CAM = true) ∧ (u.loopOn n 9 = true)) ∧
  (∃ (s : State) (dt : Nat) (n : Fin 512) (q : Nat) (x : ExpoSet),
    let u := s.elapse dt
    ((u.cam n).aeDue = some q) ∧ (u.loopOn n 8 = true) ∧ (u.regN .CAM_EXPO_TARGET n ≤ q) ∧ ((u.frame n q).seq = q) ∧ (u.statsUsable n q = true) ∧ (u.aeStep n q = some x)) ∧
  (∃ (s : State) (dt : Nat) (n : Fin 512) (q : Nat),
    let u := s.elapse dt
    ((u.cam n).aeDue = some q) ∧ ((u.loopOn n 8 = false ∨ q < u.regN .CAM_EXPO_TARGET n ∨ u.statsUsable n q = false ∨ u.aeStep n q = none))) ∧
  (∃ (s : State) (dt : Nat) (n : Fin 512) (q : Nat) (v : Nat),
    let u := s.elapse dt
    ((u.cam n).awbDue = some q) ∧ (u.loopOn n 9 = true) ∧ ((u.frame n q).seq = q) ∧ (u.statsUsable n q = true) ∧ (u.awbStep n q = some v)) ∧
  (∃ (s : State) (dt : Nat) (n : Fin 512) (v : Word),
    let u := s.elapse dt
    (u.answers .CAM = true)) ∧
  (∃ (s : State) (dt : Nat) (n : Fin 512) (v : Word),
    let u := s.elapse dt
    (u.answers .CAM = true)) ∧
  (∃ (s : State) (dt : Nat) (i : Fin 16) (v : Word),
    let u := s.elapse dt
    (u.answers .LC = true)) :=
  ⟨⟨(on), 0, (511), (0x04002711), by decide +kernel⟩,
  ⟨(on |> flds [(F.CAM_EXPO_CFG_ae_en, 511, 1)]), 0, (511), (0x04002711), by decide +kernel⟩,
  ⟨(on), 0, (0), (0xFFFFFFFF), by decide +kernel⟩,
  ⟨(on |> flds [(F.CAM_EXPO_CFG_awb_en, 511, 1)]), 0, (511), (0x04002711), by decide +kernel⟩,
  ⟨(on |> flds [(F.CAM_EXPO_CFG_ae_en, 5, 1), (F.CAM_EXPO_CFG_awb_en, 5, 1), (F.CAM_GEOM_height, 5, 64), (F.CAM_AE_CFG_target, 5, 500), (F.CAM_AE_CFG_tol, 5, 1), (F.CAM_AE_CFG_step, 5, 4), (F.CAM_AWB_CFG_k, 5, 4), (F.CAM_AWB_CFG_hi, 5, 255), (F.CAM_AE_LIM_EXPO_expo_max, 5, 65535), (F.CAM_AE_LIM_GAIN_gain_max, 5, 1024), (F.CAM_PERIOD_period_us, 5, 33333)] |> (fun s => s.setRegN .CAM_AE_WEIGHT 60 3) |> cam 5 (fun c => { c with aeDue := some 3, awbDue := some 3 }) |> frm 5 3 (fun f => { f with seq := 3, counted := 32, stats := [(0, { sum := [(0, 100000), (1, 80000), (2, 90000), (3, 120000)], cnt := [(0, 10), (1, 10), (2, 10), (3, 10)] })] })), 0, (5), (3), (((on |> flds [(F.CAM_EXPO_CFG_ae_en, 5, 1), (F.CAM_EXPO_CFG_awb_en, 5, 1), (F.CAM_GEOM_height, 5, 64), (F.CAM_AE_CFG_target, 5, 500), (F.CAM_AE_CFG_tol, 5, 1), (F.CAM_AE_CFG_step, 5, 4), (F.CAM_AWB_CFG_k, 5, 4), (F.CAM_AWB_CFG_hi, 5, 255), (F.CAM_AE_LIM_EXPO_expo_max, 5, 65535), (F.CAM_AE_LIM_GAIN_gain_max, 5, 1024), (F.CAM_PERIOD_period_us, 5, 33333)] |> (fun s => s.setRegN .CAM_AE_WEIGHT 60 3) |> cam 5 (fun c => { c with aeDue := some 3, awbDue := some 3 }) |> frm 5 3 (fun f => { f with seq := 3, counted := 32, stats := [(0, { sum := [(0, 100000), (1, 80000), (2, 90000), (3, 120000)], cnt := [(0, 10), (1, 10), (2, 10), (3, 10)] })] })).aeStep 5 3).getD {}), by decide +kernel⟩,
  ⟨(on |> cam 5 (fun c => { c with aeDue := some 3 })), 0, (5), (3), by decide +kernel⟩,
  ⟨(on |> flds [(F.CAM_EXPO_CFG_ae_en, 5, 1), (F.CAM_EXPO_CFG_awb_en, 5, 1), (F.CAM_GEOM_height, 5, 64), (F.CAM_AE_CFG_target, 5, 500), (F.CAM_AE_CFG_tol, 5, 1), (F.CAM_AE_CFG_step, 5, 4), (F.CAM_AWB_CFG_k, 5, 4), (F.CAM_AWB_CFG_hi, 5, 255), (F.CAM_AE_LIM_EXPO_expo_max, 5, 65535), (F.CAM_AE_LIM_GAIN_gain_max, 5, 1024), (F.CAM_PERIOD_period_us, 5, 33333)] |> (fun s => s.setRegN .CAM_AE_WEIGHT 60 3) |> cam 5 (fun c => { c with aeDue := some 3, awbDue := some 3 }) |> frm 5 3 (fun f => { f with seq := 3, counted := 32, stats := [(0, { sum := [(0, 100000), (1, 80000), (2, 90000), (3, 120000)], cnt := [(0, 10), (1, 10), (2, 10), (3, 10)] })] })), 0, (5), (3), (((on |> flds [(F.CAM_EXPO_CFG_ae_en, 5, 1), (F.CAM_EXPO_CFG_awb_en, 5, 1), (F.CAM_GEOM_height, 5, 64), (F.CAM_AE_CFG_target, 5, 500), (F.CAM_AE_CFG_tol, 5, 1), (F.CAM_AE_CFG_step, 5, 4), (F.CAM_AWB_CFG_k, 5, 4), (F.CAM_AWB_CFG_hi, 5, 255), (F.CAM_AE_LIM_EXPO_expo_max, 5, 65535), (F.CAM_AE_LIM_GAIN_gain_max, 5, 1024), (F.CAM_PERIOD_period_us, 5, 33333)] |> (fun s => s.setRegN .CAM_AE_WEIGHT 60 3) |> cam 5 (fun c => { c with aeDue := some 3, awbDue := some 3 }) |> frm 5 3 (fun f => { f with seq := 3, counted := 32, stats := [(0, { sum := [(0, 100000), (1, 80000), (2, 90000), (3, 120000)], cnt := [(0, 10), (1, 10), (2, 10), (3, 10)] })] })).awbStep 5 3).getD 0), by decide +kernel⟩,
  ⟨(on), 0, (511), (1), by decide +kernel⟩,
  ⟨(on |> flds [(F.CAM_OUT_RING_count, 7, 5), (F.CAM_OUT_STATUS_free, 7, 3)]), 0, (7), (200), by decide +kernel⟩,
  ⟨(on), 0, (15), (0x80000FFF), by decide +kernel⟩⟩

/-- DeviceResets is about something: a state and operands for each of its clauses. -/
theorem witness_DeviceResets :
  (∃ (s : State) (dt : Nat),
    let u := s.elapse dt
    (u.boot.porst = true) ∧ (u.boot.perst = true)) ∧
  (∃ (s : State) (dt : Nat),
    let u := s.elapse dt
    (u.boot.porst = true) ∧ (u.boot.perst = true)) ∧
  (∃ (s : State) (dt : Nat),
    let u := s.elapse dt
    (u.boot.porst = true)) ∧
  (∃ (s : State) (dt : Nat),
    let u := s.elapse dt
    (u.boot.porst = true) ∧ (u.boot.perst = true)) ∧
  (∃ (s : State) (dt : Nat) (pos : BitVec 3),
    let u := s.elapse dt
    (u.boot.porst = false)) ∧
  (∃ (s : State) (dt : Nat) (pos : BitVec 3),
    let u := s.elapse dt
    (u.boot.porst = true) ∧ (u.boot.perst = false) ∧ (u.boot.pos < 8)) :=
  ⟨⟨(State.reset |> boot (fun b => { b with porst := true, perst := true }) |> flds [(F.ERR_FATAL_cause, 0, 3), (F.GLB_RESET_CAUSE_count, 0, 255)] |> clock 9), 0, by decide +kernel⟩,
  ⟨(State.reset |> boot (fun b => { b with porst := true, perst := true }) |> flds [(F.ERR_FATAL_cause, 0, 3)] |> clock 9), 0, by decide +kernel⟩,
  ⟨(State.reset |> boot (fun b => { b with porst := true, perst := true }) |> clock 9), 0, by decide +kernel⟩,
  ⟨(State.reset |> boot (fun b => { b with porst := true, perst := true }) |> clock 9), 0, by decide +kernel⟩,
  ⟨(State.reset), 0, (7), by decide +kernel⟩,
  ⟨(State.reset |> boot (fun b => { b with porst := true, pos := 7 })), 0, (3), by decide +kernel⟩⟩

/-- StartUpStages is about something: a state and operands for each of its clauses. -/
theorem witness_StartUpStages :
  (∃ (s : State) (dt : Nat),
    let u := s.elapse dt
    (u.atStage 0 = true) ∧ (u.boot.pos ≠ 0)) ∧
  (∃ (s : State) (dt : Nat),
    let u := s.elapse dt
    (u.atStage 0 = true)) ∧
  (∃ (s : State) (dt : Nat) (a : FwImage) (b : FwImage),
    let u := s.elapse dt
    (u.atStage 1 = true)) ∧
  (∃ (s : State) (dt : Nat) (a : FwImage) (b : FwImage) (ok : Bool),
    let u := s.elapse dt
    (u.atStage 1 = true)) ∧
  (∃ (s : State) (dt : Nat) (cp : Fin 4),
    let u := s.elapse dt
    (u.atStage 3 = true) ∧ (u.boot.acceptedAt + 5000000 < u.now)) ∧
  (∃ (s : State) (dt : Nat),
    let u := s.elapse dt
    (u.atStage 3 = true)) ∧
  (∃ (s : State) (dt : Nat) (failed : Byte),
    let u := s.elapse dt
    (u.atStage 3 = true) ∧ (failed ≠ 0)) ∧
  (∃ (s : State) (dt : Nat),
    let u := s.elapse dt
    (u.atStage 5 = true)) ∧
  (∃ (s : State) (dt : Nat) (c : Fin 8),
    let u := s.elapse dt
    (u.atStage 5 = true)) ∧
  (∃ (s : State) (dt : Nat),
    let u := s.elapse dt
    (u.atStage 6 = true)) :=
  ⟨⟨(State.reset |> boot (fun b => { b with porst := true, perst := true, starting := true }) |> flds [(F.GLB_BOOT_STATUS_stage, 0, 0)] |> boot (fun b => { b with pos := 1 })), 0, by decide +kernel⟩,
  ⟨(State.reset |> boot (fun b => { b with porst := true, perst := true, starting := true }) |> flds [(F.GLB_BOOT_STATUS_stage, 0, 0)]), 0, by decide +kernel⟩,
  ⟨(State.reset |> boot (fun b => { b with porst := true, perst := true, starting := true }) |> flds [(F.GLB_BOOT_STATUS_stage, 0, 1)]), 0, (⟨[], [], [], 0, false, []⟩), (⟨[1], [], [], 0, false, []⟩), by decide +kernel⟩,
  ⟨(State.reset |> boot (fun b => { b with porst := true, perst := true, starting := true }) |> flds [(F.GLB_BOOT_STATUS_stage, 0, 1)]), 0, (⟨[], [], [], 0, false, []⟩), (⟨[1], [], [], 0, false, []⟩), (false), by decide +kernel⟩,
  ⟨(State.reset |> boot (fun b => { b with porst := true, perst := true, starting := true }) |> flds [(F.GLB_BOOT_STATUS_stage, 0, 3)] |> clock 5000001), 0, (3), by decide +kernel⟩,
  ⟨(State.reset |> boot (fun b => { b with porst := true, perst := true, starting := true }) |> flds [(F.GLB_BOOT_STATUS_stage, 0, 3)]), 0, by decide +kernel⟩,
  ⟨(State.reset |> boot (fun b => { b with porst := true, perst := true, starting := true }) |> flds [(F.GLB_BOOT_STATUS_stage, 0, 3)]), 0, (255), by decide +kernel⟩,
  ⟨(State.reset |> boot (fun b => { b with porst := true, perst := true, starting := true }) |> flds [(F.GLB_BOOT_STATUS_stage, 0, 5)]), 0, by decide +kernel⟩,
  ⟨(State.reset |> boot (fun b => { b with porst := true, perst := true, starting := true }) |> flds [(F.GLB_BOOT_STATUS_stage, 0, 5)]), 0, (7), by decide +kernel⟩,
  ⟨(State.reset |> boot (fun b => { b with porst := true, perst := true, starting := true }) |> flds [(F.GLB_BOOT_STATUS_stage, 0, 6)]), 0, by decide +kernel⟩⟩

/-- TapAndSmbus is about something: a state and operands for each of its clauses. -/
theorem witness_TapAndSmbus :
  (∃ (s : State) (dt : Nat),
    let u := s.elapse dt
    (u.boot.perst = false)) ∧
  (∃ (s : State) (dt : Nat),
    let u := s.elapse dt
    (u.boot.perst = false)) ∧
  (∃ (s : State) (dt : Nat) (levels : List Bool) (preload : List Bool),
    let u := s.elapse dt
    (u.boot.perst = false)) ∧
  (∃ (s : State) (dt : Nat),
    let u := s.elapse dt
    (u.boot.perst = false)) ∧
  (∃ (s : State) (dt : Nat) (levels : List Bool) (preload : List Bool),
    let u := s.elapse dt
    (u.boot.perst = true)) ∧
  (∃ (s : State) (dt : Nat),
    let u := s.elapse dt
    (u.sfl.failClosed ≠ some 1) ∧ (u.sfl.failClosed ≠ some 2)) :=
  ⟨⟨(State.reset), 0, by decide +kernel⟩,
  ⟨(State.reset), 0, by decide +kernel⟩,
  ⟨(State.reset), 0, ([true]), ([false]), by decide +kernel⟩,
  ⟨(State.reset), 0, by decide +kernel⟩,
  ⟨(State.reset |> boot (fun b => { b with porst := true, perst := true })), 0, ([]), ([]), by decide +kernel⟩,
  ⟨(State.reset), 0, by decide +kernel⟩⟩

/-- UnitResets is about something: a state and operands for each of its clauses. -/
theorem witness_UnitResets :
  (∃ (s : State) (dt : Nat) (r : CmdName) (k : Cmd),
    let u := s.elapse dt
    let i := getBits (k.w 0) 8 8
    (u.asked (cmdRef r) 0x0705 k) ∧ (getBits (k.w 0) 0 4 = 1) ∧ (i < 16) ∧ (u.boot.unit = none) ∧ (u.boot.sw.any (·.began.isSome) = false) ∧ ((u.core i).restoring = false)) ∧
  (∃ (s : State) (dt : Nat) (r : CmdName) (k : Cmd),
    let u := s.elapse dt
    let p := getBits (k.w 0) 8 8
    (u.asked (cmdRef r) 0x0705 k) ∧ (getBits (k.w 0) 0 4 = 2) ∧ (p < 16) ∧ (u.boot.unit = none) ∧ (u.boot.sw.any (·.began.isSome) = false)) ∧
  (∃ (s : State) (dt : Nat) (r : CmdName) (k : Cmd),
    let u := s.elapse dt
    let g := getBits (k.w 0) 8 8
    (u.asked (cmdRef r) 0x0705 k) ∧ (getBits (k.w 0) 0 4 = 3) ∧ (g < 16) ∧ (u.isFirst g = true) ∧ (u.boot.unit = none) ∧ (u.boot.sw.any (·.began.isSome) = false)) ∧
  (∃ (s : State) (dt : Nat) (r : CmdName) (k : Cmd),
    let u := s.elapse dt
    let n := getBits (k.w 0) 8 8
    (u.asked (cmdRef r) 0x0705 k) ∧ (getBits (k.w 0) 0 4 = 4) ∧ (n < 8) ∧ (u.boot.unit = none) ∧ (u.boot.sw.any (·.began.isSome) = false)) :=
  ⟨⟨(on |> asks 0x0705 [1 + 15 * 256]), 0, (name5), (cmd5 0x0705 [1 + 15 * 256]), ⟨by unfold State.asked; decide +kernel, by decide +kernel⟩⟩,
  ⟨(on |> asks 0x0705 [2 + 15 * 256]), 0, (name5), (cmd5 0x0705 [2 + 15 * 256]), ⟨by unfold State.asked; decide +kernel, by decide +kernel⟩⟩,
  ⟨(on |> asks 0x0705 [3]), 0, (name5), (cmd5 0x0705 [3]), ⟨by unfold State.asked; decide +kernel, by decide +kernel⟩⟩,
  ⟨(on |> asks 0x0705 [4 + 7 * 256]), 0, (name5), (cmd5 0x0705 [4 + 7 * 256]), ⟨by unfold State.asked; decide +kernel, by decide +kernel⟩⟩⟩

/-- ErrorsAndFatalCauses is about something: a state and operands for each of its clauses. -/
theorem witness_ErrorsAndFatalCauses :
  (∃ (s : State) (dt : Nat) (v : Word),
    let u := s.elapse dt
    (u.answers .ERR = true)) ∧
  (∃ (s : State) (dt : Nat),
    let u := s.elapse dt
    (u.answers .ERR = true) ∧ (u.sameCycle .ERR_FIRST_CTL 0 ≠ 0)) ∧
  (∃ (s : State) (dt : Nat),
    let u := s.elapse dt
    (u.answers .ERR = true) ∧ (u.sameCycle .ERR_FIRST_CTL 0 = 0)) ∧
  (∃ (s : State) (dt : Nat) (k : Fin 5),
    let u := s.elapse dt
    (bit (u.regN .GLB_CLK_STATUS) k = true)) ∧
  (∃ (s : State) (dt : Nat) (cp : Fin 4),
    let u := s.elapse dt
    (u.cpRuns = true)) ∧
  (∃ (s : State) (dt : Nat) (cp : Fin 4),
    let u := s.elapse dt
    (u.cpRuns = true) ∧ ((∀ i a, i < 4 → i ≠ cp.val → u.log.wdt.get i = some a → a + 100000000 < u.now))) ∧
  (∃ (s : State) (dt : Nat) (cp : Fin 4) (i : Nat) (a : Nat),
    let u := s.elapse dt
    (u.cpRuns = true) ∧ (i < 4) ∧ (i ≠ cp.val) ∧ (u.log.wdt.get i = some a) ∧ (u.now ≤ a + 100000000)) :=
  ⟨⟨(on |> flds [(F.ERR_HEAD_num, 0, 3), (F.ERR_TAIL_num, 0, 0xFFFFFFFF)]), 0, (2047), by decide +kernel⟩,
  ⟨(on |> flds [(F.ERR_FIRST_CTL_valid, 0, 1)]), 0, by decide +kernel⟩,
  ⟨(on |> flds [(F.ERR_FIRST_CTL_valid, 0, 1)] |> tme (fun t => { t with w1c := [((.ERR_FIRST_CTL, 0), 1)] })), 0, by decide +kernel⟩,
  ⟨(on |> flds [(F.GLB_CLK_STATUS_aclk_lock, 0, 1), (F.GLB_CLK_STATUS_tclk_lock, 0, 1)]), 0, (0), by decide +kernel⟩,
  ⟨(on), 0, (3), by decide +kernel⟩,
  ⟨(on |> clock 200000001 |> fun s => { s with log := { s.log with wdt := [(1, some 100000000), (0, some 100000001)] } }), 0, (0), ⟨by decide +kernel, (by
      have h0 : ∀ i : Fin 4, i ≠ 0 → (((State.elapse (on |> clock 200000001 |> fun s => { s with log := { s.log with wdt := [(1, some 100000000), (0, some 100000001)] } }) 0).log.wdt.get i).all fun a => decide (a + 100000000 < (State.elapse (on |> clock 200000001 |> fun s => { s with log := { s.log with wdt := [(1, some 100000000), (0, some 100000001)] } }) 0).now)) = true := by decide +kernel
      exact fun i a hi hn h => of_some (h0 ⟨i, hi⟩ (fun e => hn (congrArg Fin.val e))) a h)⟩⟩,
  ⟨(on |> clock 200000000 |> fun s => { s with log := { s.log with wdt := [(1, some 100000000)] } }), 0, (0), (1), (100000000), by decide +kernel⟩⟩

/-- PcieEvents is about something: a state and operands for each of its clauses. -/
theorem witness_PcieEvents :
  (∃ (s : State) (dt : Nat) (k : Fin 8),
    let u := s.elapse dt
    (u.sec.scrubs.get k = none)) ∧
  (∃ (s : State) (dt : Nat) (i : Fin 16) (q : Fin 16) (k : Byte) (row : Word) (piece : Word) (x : Xfer),
    let u := s.elapse dt
    ((u.dmaQ i q)[k.toNat]? = some x) ∧ (x.d.srcSp = spHost) ∧ (x.awaits row.toNat = true) ∧ (x.faultAt = none)) ∧
  (∃ (s : State) (dt : Nat) (r : CmdName) (k : Cmd),
    let u := s.elapse dt
    (u.command (cmdRef r) = some k)) ∧
  (∃ (s : State) (dt : Nat) (req : BitVec 64) (w : Option CfgWrite),
    let u := s.elapse dt
    (u.boot.starting = true) ∧ (1 ≤ u.fld F.GLB_BOOT_STATUS_stage)) ∧
  (∃ (s : State) (dt : Nat) (req : BitVec 64) (f : Fin 9) (b : Bool),
    let u := s.elapse dt
    (u.boot.starting = false) ∧ (u.boot.porst = true) ∧ (u.boot.perst = true) ∧ ((u.fld F.GLB_BOOT_STATUS_stage = 7 ∨ u.fld F.GLB_BOOT_STATUS_fail ≠ 0))) :=
  ⟨⟨(on), 0, (7), by decide +kernel⟩,
  ⟨(on |> clock 50 |> core 15 (fun x => { x with dmaq := x.dmaq.set 3 [{ bytes := leBytes 8 0x1000 ++ leBytes 8 0 ++ leBytes 4 64 ++ leBytes 2 4 ++ leBytes 2 1 ++ leBytes 2 1 ++ leBytes 2 0 ++ leBytes 1 50 ++ leBytes 35 0, issued := 3, rows := 2 }] })), 0, (15), (3), (0), (2), (0), ({ bytes := leBytes 8 0x1000 ++ leBytes 8 0 ++ leBytes 4 64 ++ leBytes 2 4 ++ leBytes 2 1 ++ leBytes 2 1 ++ leBytes 2 0 ++ leBytes 1 50 ++ leBytes 35 0, issued := 3, rows := 2 }), by decide +kernel⟩,
  ⟨(on |> asks 0x0706 [1, 2]), 0, (name5), (cmd5 0x0706 [1, 2]), by decide +kernel⟩,
  ⟨(State.reset |> boot (fun b => { b with porst := true, perst := true, starting := true }) |> flds [(F.GLB_BOOT_STATUS_stage, 0, 1)]), 0, (5), (some (.bme 8 true)), by decide +kernel⟩,
  ⟨(State.reset |> boot (fun b => { b with porst := true, perst := true }) |> flds [(F.GLB_BOOT_STATUS_stage, 0, 7)]), 0, (5), (8), (true), by decide +kernel⟩⟩

/-- CommandQueues is about something: a state and operands for each of its clauses. -/
theorem witness_CommandQueues :
  (∃ (s : State) (dt : Nat) (f : Fin 9) (q : Fin 4) (v : Word),
    let u := s.elapse dt
    let i := 4 * f.val + q.val
    (u.answers .FN = true) ∧ (u.flag F.CQ_CFG_en i = false) ∧ (4 ≤ getBits v.toNat 24 4) ∧ (getBits v.toNat 24 4 ≤ 12)) ∧
  (∃ (s : State) (dt : Nat) (f : Fin 9) (q : Fin 4) (v : Word),
    let u := s.elapse dt
    let i := 4 * f.val + q.val
    (u.answers .FN = true) ∧ (u.flag F.CQ_CFG_en i = false) ∧ ((getBits v.toNat 24 4 < 4 ∨ 12 < getBits v.toNat 24 4))) ∧
  (∃ (s : State) (dt : Nat) (f : Fin 9) (q : Fin 4) (v : Word),
    let u := s.elapse dt
    let i := 4 * f.val + q.val
    (u.answers .FN = true)) ∧
  (∃ (s : State) (dt : Nat) (f : Fin 9) (q : Fin 4) (v : Word),
    let u := s.elapse dt
    (u.answers .FN = true) ∧ (getBits v.toNat 0 12 < u.qSlots f q)) ∧
  (∃ (s : State) (dt : Nat) (f : Fin 9) (q : Fin 4) (v : Word),
    let u := s.elapse dt
    (u.answers .FN = true) ∧ (u.qSlots f q ≤ getBits v.toNat 0 12)) ∧
  (∃ (s : State) (dt : Nat) (f : Fin 9) (q : Fin 4) (v : Word),
    let u := s.elapse dt
    let h := getBits v.toNat 0 12
    let d := (h + u.qSlots f q - (u.queue f q).rhead) % u.qSlots f q
    (u.answers .FN = true) ∧ (h < u.qSlots f q) ∧ (d ≤ (u.queue f q).unread)) ∧
  (∃ (s : State) (dt : Nat) (f : Fin 9) (q : Fin 4) (v : Word),
    let u := s.elapse dt
    let h := getBits v.toNat 0 12
    let d := (h + u.qSlots f q - (u.queue f q).rhead) % u.qSlots f q
    (u.answers .FN = true) ∧ ((u.qSlots f q ≤ h ∨ (u.queue f q).unread < d))) ∧
  (∃ (s : State) (dt : Nat) (f : Fin 9) (q : Fin 4) (bytes : List Byte),
    let u := s.elapse dt
    let i := 4 * f.val + q.val
    (u.canFetch f q = true) ∧ (u.fld F.CQ_CFG_log2_size i ≤ 12)) ∧
  (∃ (s : State) (dt : Nat) (f : Nat) (q : Nat) (k : Cmd),
    let u := s.elapse dt
    (u.inService = true) ∧ (u.roundRobin = some (f, q)) ∧ (u.readyCmd f q = some k) ∧ ((u.startChecks f k).1 = stOk)) ∧
  (∃ (s : State) (dt : Nat) (f : Nat) (q : Nat) (k : Cmd),
    let u := s.elapse dt
    (u.inService = true) ∧ (u.roundRobin = some (f, q)) ∧ (u.readyCmd f q = some k) ∧ ((u.startChecks f k).1 ≠ stOk) ∧ (u.command ⟨f, q, k.slot⟩ = none)) ∧
  (∃ (s : State) (dt : Nat) (f : Fin 9) (q : Fin 4),
    let u := s.elapse dt
    let i := 4 * f.val + q.val
    (u.fld F.CQ_CFG_mod_us i ≠ 0) ∧ ((u.queue f q).unsig ≠ 0) ∧ ((u.queue f q).unsigFrom + 1000 * u.fld F.CQ_CFG_mod_us i ≤ u.now)) :=
  ⟨⟨(on), 0, (8), (3), (0x8C000000), by decide +kernel⟩,
  ⟨(on), 0, (8), (3), (0x8D000000), by decide +kernel⟩,
  ⟨(on |> flds [(F.CQ_CFG_en, 35, 1)]), 0, (8), (3), (0), by decide +kernel⟩,
  ⟨(on |> flds [(F.CQ_CFG_en, 35, 1), (F.CQ_CFG_log2_size, 35, 4)]), 0, (8), (3), (15), by decide +kernel⟩,
  ⟨(on |> flds [(F.CQ_CFG_en, 35, 1), (F.CQ_CFG_log2_size, 35, 4)]), 0, (8), (3), (16), by decide +kernel⟩,
  ⟨(((on |> flds [(F.CQ_CFG_en, 35, 1), (F.CQ_CFG_log2_size, 35, 4)]).modQueue 8 3 fun q => { q with rhead := 15, unread := 2 })), 0, (8), (3), (1), by decide +kernel⟩,
  ⟨(on |> flds [(F.CQ_CFG_en, 35, 1), (F.CQ_CFG_log2_size, 35, 4)]), 0, (8), (3), (1), by decide +kernel⟩,
  ⟨(((on |> flds [(F.CQ_CFG_en, 35, 1), (F.CQ_CFG_log2_size, 35, 4), (F.CQ_STATUS_head, 35, 15)] |> fnc 8 (fun f => { f with bme := true })).modQueue 8 3 fun q => { q with tail := 1 })), 0, (8), (3), ([6, 7, 0, 0, 1]), by decide +kernel⟩,
  ⟨((on.modQueue 0 2 fun q => { q with fetched := [cmd5 0x0706 [1, 2], cmd5 0x0706 []] })), 0, (0), (2), (cmd5 0x0706 [1, 2]), by decide +kernel⟩,
  ⟨(((on |> fnc 3 (fun f => { f with bme := true })).modQueue 3 2 fun q => { q with fetched := [cmd5 0x0703 [1, 2]] })), 0, (3), (2), (cmd5 0x0703 [1, 2]), by decide +kernel⟩,
  ⟨(((on |> flds [(F.CQ_CFG_mod_us, 35, 2), (F.CQ_CFG_vector, 35, 300)] |> clock 2500).modQueue 8 3 fun q => { q with unsig := 1, unsigFrom := 500 })), 0, (8), (3), by decide +kernel⟩⟩

/-- EventsMailboxesPins is about something: a state and operands for each of its clauses. -/
theorem witness_EventsMailboxesPins :
  (∃ (s : State) (dt : Nat) (f : Fin 9) (v : Word),
    let u := s.elapse dt
    (u.answers .FN = true) ∧ (u.flag F.EVQ_CFG_en f = false)) ∧
  (∃ (s : State) (dt : Nat) (f : Fin 9) (v : Word),
    let u := s.elapse dt
    (u.answers .FN = true) ∧ (bit (u.regN .MBX_FW_CTL f) 31 = false)) ∧
  (∃ (s : State) (dt : Nat) (f : Fin 9) (v : Word),
    let u := s.elapse dt
    (u.answers .FN = true) ∧ (bit (u.regN .MBX_FW_CTL f) 31 = true)) ∧
  (∃ (s : State) (dt : Nat) (v : Word),
    let u := s.elapse dt
    (u.answers .FN = true) ∧ (bit (u.regN .MBX_SFL_CTL 0) 31 = true)) ∧
  (∃ (s : State) (dt : Nat) (v : Word),
    let u := s.elapse dt
    (u.answers .FN = true) ∧ (bit (u.regN .MBX_SFL_CTL 0) 31 = false)) ∧
  (∃ (s : State) (dt : Nat) (f : Fin 9) (ch : Fin 5),
    let u := s.elapse dt
    let j := u.regN (rxCtl ch) f % 16
    (u.answers .FN = true) ∧ (bit (u.regN (rxCtl ch) f) 31 = true) ∧ (((u.fn f).fwOut.find? fun e => e.1 == ch.val) = none)) ∧
  (∃ (s : State) (dt : Nat) (f : Fin 9) (ch : Fin 5) (e : Nat × List Word),
    let u := s.elapse dt
    let j := u.regN (rxCtl ch) f % 16
    (u.answers .FN = true) ∧ (bit (u.regN (rxCtl ch) f) 31 = true) ∧ (((u.fn f).fwOut.find? fun e => e.1 == ch.val) = some e) ∧ (e.2 ≠ [])) ∧
  (∃ (s : State) (dt : Nat) (f : Fin 9) (cp : Fin 4) (m : List Word),
    let u := s.elapse dt
    let a := if msgType m = 1 then answer 0x8001 m (m.drop 1) else answer 0x80FF m []
    ((u.fn f).fwMsg = some m) ∧ (u.rxFull f cp = false)) ∧
  (∃ (s : State) (dt : Nat) (f : Fin 9) (cp : Fin 4) (m : List Word),
    let u := s.elapse dt
    let a := if msgType m = 1 then answer 0x8001 m (m.drop 1) else answer 0x80FF m []
    ((u.fn f).fwMsg = some m) ∧ (u.rxFull f cp = true)) ∧
  (∃ (s : State) (dt : Nat) (v : Word),
    let u := s.elapse dt
    let r := getBits v.toNat 0 8
    let c := getBits v.toNat 8 8
    (u.answers .PIN = true) ∧ (claimable r = true) ∧ (1 ≤ c) ∧ (c ≤ 4) ∧ (u.owner r = 0) ∧ (claimable r = false ∨ c < 1 ∨ 4 < c ∨ u.owner r ≠ c)) ∧
  (∃ (s : State) (dt : Nat) (v : Word),
    let u := s.elapse dt
    let r := getBits v.toNat 0 8
    let c := getBits v.toNat 8 8
    (u.answers .PIN = true) ∧ (claimable r = true) ∧ (1 ≤ c) ∧ (c ≤ 4) ∧ (u.owner r = c) ∧ (claimable r = false ∨ c < 1 ∨ 4 < c ∨ u.owner r ≠ 0)) ∧
  (∃ (s : State) (dt : Nat) (v : Word),
    let u := s.elapse dt
    let r := getBits v.toNat 0 8
    let c := getBits v.toNat 8 8
    (u.answers .PIN = true) ∧ (claimable r = false ∨ c < 1 ∨ 4 < c ∨ u.owner r ≠ 0) ∧ (claimable r = false ∨ c < 1 ∨ 4 < c ∨ u.owner r ≠ c)) :=
  ⟨⟨(on), 0, (8), (0x8A000005), by decide +kernel⟩,
  ⟨((on.setRegN .MBX_FW_DATA 143 9)), 0, (8), (0x8000000F), by decide +kernel⟩,
  ⟨((on.setRegN .MBX_FW_CTL 8 0x80000000)), 0, (8), (0x8000000F), by decide +kernel⟩,
  ⟨((on.setRegN .MBX_SFL_CTL 0 0x80000000)), 0, (0x8000000F), by decide +kernel⟩,
  ⟨((on.setRegN .MBX_SFL_DATA 15 9)), 0, (0x8000000F), by decide +kernel⟩,
  ⟨(((on.setRegN (rxCtl 2) 8 0x80000001).setRegN (rxData 2) 129 77)), 0, (8), (2), by decide +kernel⟩,
  ⟨(((on.setRegN (rxCtl 2) 8 0x80000001).setRegN (rxData 2) 129 77) |> fnc 8 (fun f => { f with fwOut := [(1, [5]), (2, [6, 7])] })), 0, (8), (2), ((2, [6, 7])), by decide +kernel⟩,
  ⟨(on |> fnc 8 (fun f => { f with fwMsg := some [0xABCD0001] })), 0, (8), (3), ([0xABCD0001]), by decide +kernel⟩,
  ⟨((on.setRegN (rxCtl 3) 8 0x80000001) |> fnc 8 (fun f => { f with fwMsg := some [0xABCD0002] })), 0, (8), (3), ([0xABCD0002]), by decide +kernel⟩,
  ⟨(on), 0, (4 * 256 + 78), by decide +kernel⟩,
  ⟨(on |> flds [(F.PIN_OWN_holder, 20, 1)]), 0, (1 * 256 + 20), by decide +kernel⟩,
  ⟨(on |> flds [(F.PIN_OWN_holder, 32, 1)]), 0, (2 * 256 + 32), by decide +kernel⟩⟩

/-- CameraCommands is about something: a state and operands for each of its clauses. -/
theorem witness_CameraCommands :
  (∃ (s : State) (dt : Nat) (r : CmdName) (k : Cmd) (bytes : List Byte),
    let u := s.elapse dt
    (u.asked (cmdRef r) 0x0103 k) ∧ (u.stream k.cam = 0) ∧ (64 ≤ k.w 2) ∧ (k.w 2 ≤ 4096) ∧ ((u.fn r.fn).bme = true)) ∧
  (∃ (s : State) (dt : Nat) (r : CmdName) (k : Cmd),
    let u := s.elapse dt
    let p := camPort k.cam
    (u.asked (cmdRef r) 0x0104 k) ∧ (getBits (k.w 0) 40 8 ≤ 32) ∧ (getBits (k.w 0) 48 8 ≤ 16) ∧ (u.isIn p = false) ∧ (u.fld F.IXL_PORT_STATUS_state p = 4) ∧ ((u.port p).tunnels.length < 16 ∧ (u.port p).held = [])) ∧
  (∃ (s : State) (dt : Nat) (r : CmdName) (k : Cmd),
    let u := s.elapse dt
    let p := camPort k.cam
    (u.asked (cmdRef r) 0x0104 k) ∧ (getBits (k.w 0) 40 8 ≤ 32) ∧ (getBits (k.w 0) 48 8 ≤ 16) ∧ (u.isIn p = false) ∧ (u.fld F.IXL_PORT_STATUS_state p = 4) ∧ (16 ≤ (u.port p).tunnels.length ∨ (u.port p).held ≠ [])) ∧
  (∃ (s : State) (dt : Nat) (r : CmdName) (k : Cmd),
    let u := s.elapse dt
    let p := camPort k.cam
    (u.asked (cmdRef r) 0x0104 k) ∧ (getBits (k.w 0) 40 8 ≤ 32) ∧ (getBits (k.w 0) 48 8 ≤ 16) ∧ (u.isIn p = false) ∧ (u.fld F.IXL_PORT_STATUS_state p ≠ 4)) ∧
  (∃ (s : State) (dt : Nat) (r : CmdName) (k : Cmd),
    let u := s.elapse dt
    (u.asked (cmdRef r) 0x0105 k) ∧ (getBits (k.w 0) 16 4 ≤ 8) ∧ (u.stream k.cam = 0)) ∧
  (∃ (s : State) (dt : Nat) (r : CmdName) (k : Cmd),
    let u := s.elapse dt
    let n := k.cam
    (u.asked (cmdRef r) 0x0106 k) ∧ (u.stream n = 0) ∧ ((∀ i < 4, bit (k.w 5) i = true → u.hostMapped r.fn (k.w (i + 1) / 4096 * 4096) (u.ringBytes n i) = true)) ∧ (bit (k.w 5) 1 = false)) ∧
  (∃ (s : State) (dt : Nat) (r : CmdName) (k : Cmd),
    let u := s.elapse dt
    let n := k.cam
    (u.asked (cmdRef r) 0x0106 k) ∧ (u.stream n = 0) ∧ ((∀ i < 4, bit (k.w 5) i = true → u.hostMapped r.fn (k.w (i + 1) / 4096 * 4096) (u.ringBytes n i) = true)) ∧ (bit (k.w 5) 0 = true) ∧ (bit (k.w 5) 1 = true) ∧ (bit (k.w 5) 2 = true) ∧ (bit (k.w 5) 3 = true)) ∧
  (∃ (s : State) (dt : Nat) (r : CmdName) (k : Cmd),
    let u := s.elapse dt
    (u.asked (cmdRef r) 0x0203 k) ∧ (u.stream k.cam = 0)) ∧
  (∃ (s : State) (dt : Nat) (r : CmdName) (k : Cmd),
    let u := s.elapse dt
    (u.asked (cmdRef r) 0x0204 k) ∧ (getBits (k.w 0) 16 8 ≠ 0) ∧ ((u.cam k.cam).capture = none)) :=
  ⟨⟨(on |> asks 0x0103 [130, 0x1000, 64]), 0, (name5), (cmd5 0x0103 [130, 0x1000, 64]), (List.replicate 64 1), ⟨by unfold State.asked; decide +kernel, by decide +kernel⟩⟩,
  ⟨(on |> link 4 4 id |> asks 0x0104 [130 + 0x50 * 2 ^ 24 + 32 * 2 ^ 40 + 16 * 2 ^ 48, 1, 2, 3, 4]), 0, (name5), (cmd5 0x0104 [130 + 0x50 * 2 ^ 24 + 32 * 2 ^ 40 + 16 * 2 ^ 48, 1, 2, 3, 4]), ⟨by unfold State.asked; decide +kernel, by decide +kernel⟩⟩,
  ⟨(on |> link 4 4 (fun x => { x with held := [⟨0, {}, 0, .firmware⟩] }) |> asks 0x0104 [130 + 0x50 * 2 ^ 24 + 32 * 2 ^ 40 + 16 * 2 ^ 48, 1, 2, 3, 4]), 0, (name5), (cmd5 0x0104 [130 + 0x50 * 2 ^ 24 + 32 * 2 ^ 40 + 16 * 2 ^ 48, 1, 2, 3, 4]), ⟨by unfold State.asked; decide +kernel, by decide +kernel⟩⟩,
  ⟨(on |> asks 0x0104 [130 + 0x50 * 2 ^ 24 + 32 * 2 ^ 40 + 16 * 2 ^ 48, 1, 2, 3, 4]), 0, (name5), (cmd5 0x0104 [130 + 0x50 * 2 ^ 24 + 32 * 2 ^ 40 + 16 * 2 ^ 48, 1, 2, 3, 4]), ⟨by unfold State.asked; decide +kernel, by decide +kernel⟩⟩,
  ⟨(on |> asks 0x0105 [130 + 8 * 2 ^ 16]), 0, (name5), (cmd5 0x0105 [130 + 8 * 2 ^ 16]), ⟨by unfold State.asked; decide +kernel, by decide +kernel⟩⟩,
  ⟨(on |> asks 0x0106 [130, 0x5000, 0x6000, 0x7000, 0x8000, 0]), 0, (name5), (cmd5 0x0106 [130, 0x5000, 0x6000, 0x7000, 0x8000, 0]), ⟨by unfold State.asked; decide +kernel, by decide +kernel⟩⟩,
  ⟨(on |> fnc 0 (fun f => { f with host := [⟨0, 0, true, true, true⟩] }) |> asks 0x0106 [130, 0x5000, 0x6123, 0x7000, 0x8000, 15]), 0, (name5), (cmd5 0x0106 [130, 0x5000, 0x6123, 0x7000, 0x8000, 15]), ⟨by unfold State.asked; decide +kernel, by decide +kernel⟩⟩,
  ⟨(on |> asks 0x0203 [130 + 9 * 2 ^ 16]), 0, (name5), (cmd5 0x0203 [130 + 9 * 2 ^ 16]), ⟨by unfold State.asked; decide +kernel, by decide +kernel⟩⟩,
  ⟨(on |> asks 0x0204 [130 + 3 * 2 ^ 16, 0x1000, 4096]), 0, (name5), (cmd5 0x0204 [130 + 3 * 2 ^ 16, 0x1000, 4096]), ⟨by unfold State.asked; decide +kernel, by decide +kernel⟩⟩⟩

/-- ModelCommands is about something: a state and operands for each of its clauses. -/
theorem witness_ModelCommands :
  (∃ (s : State) (dt : Nat) (r : CmdName) (k : Cmd) (img : ModelImg),
    let u := s.elapse dt
    (u.asked (cmdRef r) 0x0201 k) ∧ (getBits (k.w 1) 40 8 = 0xFF) ∧ ((u.fn r.fn).bme = true) ∧ ((u.loadRules (getBits (k.w 1) 32 4) img).1 = stOk)) ∧
  (∃ (s : State) (dt : Nat) (r : CmdName) (k : Cmd) (img : ModelImg),
    let u := s.elapse dt
    let slot := getBits (k.w 1) 40 8
    (u.asked (cmdRef r) 0x0201 k) ∧ (slot ≠ 0xFF) ∧ (u.fld F.SEC_STATUS_engine = 2)) ∧
  (∃ (s : State) (dt : Nat) (r : CmdName) (k : Cmd) (img : ModelImg),
    let u := s.elapse dt
    let slot := getBits (k.w 1) 40 8
    (u.asked (cmdRef r) 0x0201 k) ∧ (slot ≠ 0xFF) ∧ (u.fld F.SEC_STATUS_engine ≠ 2) ∧ (u.keyFor r.fn slot = none)) ∧
  (∃ (s : State) (dt : Nat) (r : CmdName) (k : Cmd) (img : ModelImg),
    let u := s.elapse dt
    let slot := getBits (k.w 1) 40 8
    (u.asked (cmdRef r) 0x0201 k) ∧ (slot ≠ 0xFF) ∧ (u.fld F.SEC_STATUS_engine ≠ 2) ∧ ((u.keyFor r.fn slot).isSome = true) ∧ ((u.fn r.fn).bme = true)) ∧
  (∃ (s : State) (dt : Nat) (r : CmdName) (k : Cmd) (m : ModelS),
    let u := s.elapse dt
    let h := getBits (k.w 0) 0 16
    (u.asked (cmdRef r) 0x0202 k) ∧ (u.boot.models.get h = some m) ∧ (u.modelBusy h = false) ∧ (m.sealed_ = [])) ∧
  (∃ (s : State) (dt : Nat) (r : CmdName) (k : Cmd) (m : ModelS),
    let u := s.elapse dt
    let h := getBits (k.w 0) 0 16
    (u.asked (cmdRef r) 0x0202 k) ∧ (u.boot.models.get h = some m) ∧ (u.modelBusy h = false) ∧ (m.sealed_ ≠ [])) ∧
  (∃ (s : State) (dt : Nat) (r : CmdName) (k : Cmd) (m : ModelS),
    let u := s.elapse dt
    (u.asked (cmdRef r) 0x0205 k) ∧ (u.boot.models.get (getBits (k.w 0) 0 16) = some m)) :=
  ⟨⟨(on |> boot (fun b => { b with pool := some (0, 32) }) |> flds [(F.GLB_SG_BOUNDARY_first, 0, 1)] |> asks 0x0201 [0x1000, 0xFF * 2 ^ 40 + 64]), 0, (name5), (cmd5 0x0201 [0x1000, 0xFF * 2 ^ 40 + 64]), ({ plain := [1], raw := [], size := 16, up := 1, down := 1, tChannels := 0, tFactor := false, enc := none, overlap := 0, cores := List.replicate 16 { instrs := [], layers := [], grids := [], descs := [], pads := [], dmaq := [], spad := 0 }, stages := [], head := none, pins := [], weightBase := 0, weights := [] }), ⟨by unfold State.asked; decide +kernel, by decide +kernel⟩⟩,
  ⟨(on |> boot (fun b => { b with pool := some (0, 32) }) |> flds [(F.GLB_SG_BOUNDARY_first, 0, 1)] |> flds [(F.SEC_STATUS_engine, 0, 2)] |> asks 0x0201 [0x1000, 9 * 2 ^ 40 + 64]), 0, (name5), (cmd5 0x0201 [0x1000, 9 * 2 ^ 40 + 64]), ({ plain := [1], raw := [], size := 16, up := 1, down := 1, tChannels := 0, tFactor := false, enc := none, overlap := 0, cores := List.replicate 16 { instrs := [], layers := [], grids := [], descs := [], pads := [], dmaq := [], spad := 0 }, stages := [], head := none, pins := [], weightBase := 0, weights := [] }), ⟨by unfold State.asked; decide +kernel, by decide +kernel⟩⟩,
  ⟨(on |> boot (fun b => { b with pool := some (0, 32) }) |> flds [(F.GLB_SG_BOUNDARY_first, 0, 1)] |> asks 0x0201 [0x1000, 9 * 2 ^ 40 + 64]), 0, (name5), (cmd5 0x0201 [0x1000, 9 * 2 ^ 40 + 64]), ({ plain := [1], raw := [], size := 16, up := 1, down := 1, tChannels := 0, tFactor := false, enc := none, overlap := 0, cores := List.replicate 16 { instrs := [], layers := [], grids := [], descs := [], pads := [], dmaq := [], spad := 0 }, stages := [], head := none, pins := [], weightBase := 0, weights := [] }), ⟨by unfold State.asked; decide +kernel, by decide +kernel⟩⟩,
  ⟨(on |> boot (fun b => { b with pool := some (0, 32) }) |> flds [(F.GLB_SG_BOUNDARY_first, 0, 1)] |> sec (fun x => { x with keys := x.keys.set 1 (some ⟨[1], [2], 3⟩) }) |> asks 0x0201 [0x1000, 1 * 2 ^ 40 + 64]), 0, (name5), (cmd5 0x0201 [0x1000, 1 * 2 ^ 40 + 64]), ({ plain := [1], raw := [], size := 16, up := 1, down := 1, tChannels := 0, tFactor := false, enc := none, overlap := 0, cores := List.replicate 16 { instrs := [], layers := [], grids := [], descs := [], pads := [], dmaq := [], spad := 0 }, stages := [], head := none, pins := [], weightBase := 0, weights := [] }), ⟨by unfold State.asked; decide +kernel, by decide +kernel⟩⟩,
  ⟨(on |> boot (fun b => { b with models := b.models.set 9 (some { fn := 0, first := 0, cores := 1, encrypted := false, meas := [1, 2, 3, 4, 5, 6, 7, 8, 9, 10, 11, 12, 13, 14, 15, 16], img := { plain := [1], raw := [], size := 16, up := 1, down := 1, tChannels := 0, tFactor := false, enc := none, overlap := 0, cores := List.replicate 16 { instrs := [], layers := [], grids := [], descs := [], pads := [], dmaq := [], spad := 0 }, stages := [], head := none, pins := [], weightBase := 0, weights := [] }, sealed_ := [], pins := [], counters := [] }) }) |> asks 0x0202 [9]), 0, (name5), (cmd5 0x0202 [9]), ({ fn := 0, first := 0, cores := 1, encrypted := false, meas := [1, 2, 3, 4, 5, 6, 7, 8, 9, 10, 11, 12, 13, 14, 15, 16], img := { plain := [1], raw := [], size := 16, up := 1, down := 1, tChannels := 0, tFactor := false, enc := none, overlap := 0, cores := List.replicate 16 { instrs := [], layers := [], grids := [], descs := [], pads := [], dmaq := [], spad := 0 }, stages := [], head := none, pins := [], weightBase := 0, weights := [] }, sealed_ := [], pins := [], counters := [] }), ⟨by unfold State.asked; decide +kernel, by decide +kernel⟩⟩,
  ⟨(on |> boot (fun b => { b with models := b.models.set 9 (some { fn := 0, first := 0, cores := 1, encrypted := false, meas := [1, 2, 3, 4, 5, 6, 7, 8, 9, 10, 11, 12, 13, 14, 15, 16], img := { plain := [1], raw := [], size := 16, up := 1, down := 1, tChannels := 0, tFactor := false, enc := none, overlap := 0, cores := List.replicate 16 { instrs := [], layers := [], grids := [], descs := [], pads := [], dmaq := [], spad := 0 }, stages := [], head := none, pins := [], weightBase := 0, weights := [] }, sealed_ := [(0x1000, 64)], pins := [], counters := [] }) }) |> asks 0x0202 [9]), 0, (name5), (cmd5 0x0202 [9]), ({ fn := 0, first := 0, cores := 1, encrypted := false, meas := [1, 2, 3, 4, 5, 6, 7, 8, 9, 10, 11, 12, 13, 14, 15, 16], img := { plain := [1], raw := [], size := 16, up := 1, down := 1, tChannels := 0, tFactor := false, enc := none, overlap := 0, cores := List.replicate 16 { instrs := [], layers := [], grids := [], descs := [], pads := [], dmaq := [], spad := 0 }, stages := [], head := none, pins := [], weightBase := 0, weights := [] }, sealed_ := [(0x1000, 64)], pins := [], counters := [] }), ⟨by unfold State.asked; decide +kernel, by decide +kernel⟩⟩,
  ⟨(on |> boot (fun b => { b with models := b.models.set 9 (some { fn := 0, first := 0, cores := 1, encrypted := false, meas := [1, 2, 3, 4, 5, 6, 7, 8, 9, 10, 11, 12, 13, 14, 15, 16], img := { plain := [1], raw := [], size := 16, up := 1, down := 1, tChannels := 0, tFactor := false, enc := none, overlap := 0, cores := List.replicate 16 { instrs := [], layers := [], grids := [], descs := [], pads := [], dmaq := [], spad := 0 }, stages := [], head := none, pins := [], weightBase := 0, weights := [] }, sealed_ := [], pins := [], counters := [] }) }) |> asks 0x0205 [9]), 0, (name5), (cmd5 0x0205 [9]), ({ fn := 0, first := 0, cores := 1, encrypted := false, meas := [1, 2, 3, 4, 5, 6, 7, 8, 9, 10, 11, 12, 13, 14, 15, 16], img := { plain := [1], raw := [], size := 16, up := 1, down := 1, tChannels := 0, tFactor := false, enc := none, overlap := 0, cores := List.replicate 16 { instrs := [], layers := [], grids := [], descs := [], pads := [], dmaq := [], spad := 0 }, stages := [], head := none, pins := [], weightBase := 0, weights := [] }, sealed_ := [], pins := [], counters := [] }), ⟨by unfold State.asked; decide +kernel, by decide +kernel⟩⟩⟩

/-- AddressSpaceCommands is about something: a state and operands for each of its clauses. -/
theorem witness_AddressSpaceCommands :
  (∃ (s : State) (dt : Nat) (r : CmdName) (k : Cmd),
    let u := s.elapse dt
    let sp := getBits (k.w 0) 0 1
    let big := bit (k.w 0) 1
    let count := getBits (k.w 0) 32 32
    let size := pageBytes big
    let ps := (u.fn r.fn).pages sp
    let new := mapPages big (bit (k.w 0) 2) count (k.w 1) (k.w 2)
    (u.asked (cmdRef r) 0x0301 k) ∧ (count ≠ 0) ∧ (k.w 1 % size = 0) ∧ (k.w 1 + count * size ≤ 2 ^ 48) ∧ (k.w 2 % size = 0) ∧ (k.w 2 + count * size ≤ 2 ^ 64) ∧ ((sp = 0 → u.mayMap r.fn (k.w 2) (count * size) = true)) ∧ ((ps.any fun p => overlaps p.va p.size (k.w 1) (count * size)) = false) ∧ (mapped ps + count * size ≤ spaceLimit sp) ∧ ((u.modFn r.fn fun f => f.setPages sp (f.pages sp ++ new)).tableBytes ≤ u.poolRange.2)) ∧
  (∃ (s : State) (dt : Nat) (r : CmdName) (k : Cmd),
    let u := s.elapse dt
    let sp := getBits (k.w 0) 0 1
    let big := bit (k.w 0) 1
    let count := getBits (k.w 0) 32 32
    let n := count * pageBytes big
    let ps := (u.fn r.fn).pages sp
    (u.asked (cmdRef r) 0x0302 k) ∧ (count ≠ 0) ∧ ((∀ i < count, ∃ p ∈ ps, p.va = k.w 1 + i * pageBytes big ∧ p.big = big)) ∧ ((sp = 1 → u.locked r.fn (k.w 1) n = false)) ∧ ((sp = 0 → u.sealedIn ps (k.w 1) n = false)) ∧ (u.inFlight r.fn sp (k.w 1) n = false)) ∧
  (∃ (s : State) (dt : Nat) (r : CmdName) (k : Cmd),
    let u := s.elapse dt
    let n := getBits (k.w 0) 32 32 * 0x1000
    let old := (u.fn r.fn).dev.filter fun p => overlaps p.va p.size (k.w 1) n
    (u.asked (cmdRef r) 0x0303 k) ∧ (n ≠ 0) ∧ (mapped old = n) ∧ ((∀ p ∈ old, k.w 1 ≤ p.va ∧ p.va + p.size ≤ k.w 1 + n)) ∧ ((∀ p ∈ old, (k.w 2 + (p.va - k.w 1)) % p.size = 0)) ∧ (u.mayMap r.fn (k.w 2) n = true) ∧ (u.sealedIn (u.fn r.fn).dev (k.w 1) n = false) ∧ (u.inFlight r.fn 0 (k.w 1) n = false)) ∧
  (∃ (s : State) (dt : Nat) (r : CmdName) (k : Cmd),
    let u := s.elapse dt
    let j := getBits (k.w 0) 0 4
    (u.asked (cmdRef r) 0x0304 k) ∧ (j < 8) ∧ (k.w 2 ≠ 0) ∧ ((k.w 1 + k.w 2) * 2 ^ 21 ≤ u.memBytes) ∧ ((u.fns.any fun e => e.2.grants.any fun g => overlaps g.1 g.2 (k.w 1) (k.w 2)) = false) ∧ ((u.boot.pool.any fun p => overlaps p.1 p.2 (k.w 1) (k.w 2)) = false) ∧ ((u.workAreas.any fun w => overlaps w 0x600000 (k.w 1 * 2 ^ 21) (k.w 2 * 2 ^ 21)) = false)) ∧
  (∃ (s : State) (dt : Nat) (r : CmdName) (k : Cmd),
    let u := s.elapse dt
    let j := getBits (k.w 0) 0 4
    (u.asked (cmdRef r) 0x0304 k) ∧ (j < 8) ∧ (k.w 2 ≠ 0) ∧ ((k.w 1 + k.w 2) * 2 ^ 21 ≤ u.memBytes) ∧ ((u.workAreas.any fun w => overlaps w 0x600000 (k.w 1 * 2 ^ 21) (k.w 2 * 2 ^ 21)) = true)) ∧
  (∃ (s : State) (dt : Nat) (r : CmdName) (k : Cmd),
    let u := s.elapse dt
    let j := getBits (k.w 0) 0 4
    let a := k.w 1 * 2 ^ 21
    let n := k.w 2 * 2 ^ 21
    (u.asked (cmdRef r) 0x0305 k) ∧ (j < 8) ∧ ((k.w 1, k.w 2) ∈ (u.fn (j + 1)).grants) ∧ (u.sec.scrubs.get j = none) ∧ ((∀ p ∈ (u.fn (j + 1)).dev, overlaps p.pa p.size a n = true → u.inFlight (j + 1) 0 p.va p.size = false))) ∧
  (∃ (s : State) (dt : Nat) (r : CmdName) (k : Cmd) (j : Nat) (x : Xfer),
    let u := s.elapse dt
    let i := getBits (k.w 0) 0 4
    let q := getBits (k.w 0) 8 4
    (u.asked (cmdRef r) 0x0306 k) ∧ (u.faulted i q = some (j, x)) ∧ (u.resumable i q x = true)) ∧
  (∃ (s : State) (dt : Nat) (r : CmdName) (k : Cmd),
    let u := s.elapse dt
    (u.asked (cmdRef r) 0x0307 k) ∧ (32 ≤ k.w 2) ∧ ((k.w 1 + k.w 2) * 2 ^ 21 ≤ u.memBytes) ∧ ((u.boot.models.any (·.2.isSome)) = false) ∧ (u.startedCams = []) ∧ ((u.fns.any fun e => !e.2.grants.isEmpty) = false)) :=
  ⟨⟨(on |> boot (fun b => { b with pool := some (100, 32) }) |> flds [(F.GLB_SG_BOUNDARY_first, 0, 1)] |> flds [(F.MEM_GEOM_gib, 0, 16)] |> asks 0x0301 [2 + 4 + 2 * 2 ^ 32, 2 ^ 48 - 0x400000, 0x200000]), 0, (name5), (cmd5 0x0301 [2 + 4 + 2 * 2 ^ 32, 2 ^ 48 - 0x400000, 0x200000]), ⟨by unfold State.asked; decide +kernel, by decide +kernel⟩⟩,
  ⟨(on |> fnc 0 (fun f => { f with dev := [⟨0x1000, 0, false, true, true⟩, ⟨0x2000, 0x1000, false, true, true⟩, ⟨0x3000, 0x1000, false, true, true⟩] }) |> asks 0x0302 [2 * 2 ^ 32, 0x1000]), 0, (name5), (cmd5 0x0302 [2 * 2 ^ 32, 0x1000]), ⟨by unfold State.asked; decide +kernel, by decide +kernel⟩⟩,
  ⟨(on |> fnc 0 (fun f => { f with dev := [⟨0x1000, 0, false, true, true⟩, ⟨0x2000, 0x1000, false, true, true⟩] }) |> flds [(F.MEM_GEOM_gib, 0, 16)] |> asks 0x0303 [1 * 2 ^ 32, 0x1000, 0x9000]), 0, (name5), (cmd5 0x0303 [1 * 2 ^ 32, 0x1000, 0x9000]), ⟨by unfold State.asked; decide +kernel, by decide +kernel⟩⟩,
  ⟨(on |> flds [(F.MEM_GEOM_gib, 0, 16)] |> asks 0x0304 [7, 1, 2]), 0, (name5), (cmd5 0x0304 [7, 1, 2]), ⟨by unfold State.asked; decide +kernel, by decide +kernel⟩⟩,
  ⟨(on |> flds [(F.MEM_GEOM_gib, 0, 16)] |> adp 3 (fun a => { a with area := some 0x200000 }) |> asks 0x0304 [7, 1, 2]), 0, (name5), (cmd5 0x0304 [7, 1, 2]), ⟨by unfold State.asked; decide +kernel, by decide +kernel⟩⟩,
  ⟨(on |> fnc 8 (fun f => { f with grants := [(1, 2), (5, 1)], dev := [⟨0x1000, 0x200000, false, true, true⟩, ⟨0x2000, 0, false, true, true⟩] }) |> flds [(F.MEM_GEOM_gib, 0, 16)] |> asks 0x0305 [7, 1, 2]), 0, (name5), (cmd5 0x0305 [7, 1, 2]), ⟨by unfold State.asked; decide +kernel, by decide +kernel⟩⟩,
  ⟨(on |> clock 110 |> core 15 (fun x => { x with dmaq := x.dmaq.set 3 [{ bytes := leBytes 8 0x1000 ++ leBytes 8 0 ++ leBytes 4 64 ++ leBytes 2 4 ++ leBytes 2 1 ++ leBytes 2 1 ++ leBytes 2 0 ++ leBytes 1 49 ++ leBytes 35 0, issued := 1, faultAt := some 10, faultWait := 100, resumes := 14 }] }) |> flds [(F.LC_DMAF_INFO_cause, 243, cNotPresent)] |> asks 0x0306 [15 + 3 * 256]), 0, (name5), (cmd5 0x0306 [15 + 3 * 256]), (0), ({ bytes := leBytes 8 0x1000 ++ leBytes 8 0 ++ leBytes 4 64 ++ leBytes 2 4 ++ leBytes 2 1 ++ leBytes 2 1 ++ leBytes 2 0 ++ leBytes 1 49 ++ leBytes 35 0, issued := 1, faultAt := some 10, faultWait := 100, resumes := 14 }), ⟨by unfold State.asked; decide +kernel, by decide +kernel⟩⟩,
  ⟨(on |> flds [(F.MEM_GEOM_gib, 0, 16)] |> asks 0x0307 [0, 1, 32]), 0, (name5), (cmd5 0x0307 [0, 1, 32]), ⟨by unfold State.asked; decide +kernel, by decide +kernel⟩⟩⟩

/-- DiagnosticCommands is about something: a state and operands for each of its clauses. -/
theorem witness_DiagnosticCommands :
  (∃ (s : State) (dt : Nat) (r : CmdName) (k : Cmd),
    let u := s.elapse dt
    (u.asked (cmdRef r) 0x0501 k)) ∧
  (∃ (s : State) (dt : Nat) (r : CmdName) (k : Cmd),
    let u := s.elapse dt
    let g := getBits (k.w 0) 0 5
    let per := getBits (k.w 2) 0 32
    (u.asked (cmdRef r) 0x0502 k) ∧ (u.pos = 0) ∧ (1000000 ≤ per) ∧ (per ≤ 1000000000) ∧ (u.now + 1000000 ≤ k.w 3) ∧ (u.chn.sched = none) ∧ (u.owner (32 + g) = 0) ∧ (u.flag F.SYN_SCHED_CTL_enable g = false) ∧ (((List.range 8).filter fun p => p != 0 && u.presentPos p) = [])) ∧
  (∃ (s : State) (dt : Nat) (r : CmdName) (k : Cmd),
    let u := s.elapse dt
    let g := getBits (k.w 0) 0 5
    let per := getBits (k.w 2) 0 32
    (u.asked (cmdRef r) 0x0502 k) ∧ (u.pos = 0) ∧ (1000000 ≤ per) ∧ (per ≤ 1000000000) ∧ (u.now + 1000000 ≤ k.w 3) ∧ (u.chn.sched = none) ∧ (u.owner (32 + g) = 0) ∧ (u.flag F.SYN_SCHED_CTL_enable g = false)) ∧
  (∃ (s : State) (dt : Nat) (r : CmdName) (k : Cmd),
    let u := s.elapse dt
    let g := getBits (k.w 0) 0 5
    (u.asked (cmdRef r) 0x0502 k) ∧ (u.pos = 0) ∧ (getBits (k.w 2) 0 32 = 0) ∧ (u.now + 1000000 ≤ k.w 3) ∧ (u.chn.sched = none) ∧ (u.owner (32 + g) = 5) ∧ (((List.range 8).filter fun p => p != 0 && u.presentPos p) = [])) ∧
  (∃ (s : State) (dt : Nat) (r : CmdName) (k : Cmd),
    let u := s.elapse dt
    let first := getBits (k.w 0) 0 12
    let count := getBits (k.w 0) 16 12
    (u.asked (cmdRef r) 0x0701 k) ∧ (first + count ≤ 4096) ∧ ((u.fn r.fn).bme = true)) ∧
  (∃ (s : State) (dt : Nat) (r : CmdName) (k : Cmd),
    let u := s.elapse dt
    let bs := ((u.log.trace.reverse.take (getBits (k.w 2) 0 32 / 16)).map TraceEv.bytes).flatten
    (u.asked (cmdRef r) 0x0702 k) ∧ ((u.fn r.fn).bme = true)) ∧
  (∃ (s : State) (dt : Nat) (r : CmdName) (k : Cmd),
    let u := s.elapse dt
    let bs := Config.layerTotals (u.totalsOf k.cam)
    (u.asked (cmdRef r) 0x0703 k)) ∧
  (∃ (s : State) (dt : Nat) (r : CmdName) (k : Cmd),
    let u := s.elapse dt
    let n := min (getBits (k.w 2) 0 32 / 32) u.errUnread
    (u.asked (cmdRef r) 0x0704 k) ∧ ((u.fn r.fn).bme = true) ∧ (n ≤ 1024)) ∧
  (∃ (s : State) (dt : Nat) (r : CmdName) (k : Cmd),
    let u := s.elapse dt
    (u.asked (cmdRef r) 0x0706 k)) :=
  ⟨⟨(on |> clock 1234 |> asks 0x0501 []), 0, (name5), (cmd5 0x0501 []), by unfold State.asked; decide +kernel⟩,
  ⟨(on |> clock 1 |> asks 0x0502 [31, 2 ^ 40, 1000000, 1000001]), 0, (name5), (cmd5 0x0502 [31, 2 ^ 40, 1000000, 1000001]), ⟨by unfold State.asked; decide +kernel, by decide +kernel⟩⟩,
  ⟨(on |> clock 1 |> flds [(F.CHN_STATUS_present, 0, 9)] |> asks 0x0502 [31, 2 ^ 40, 1000000, 1000001]), 0, (name5), (cmd5 0x0502 [31, 2 ^ 40, 1000000, 1000001]), ⟨by unfold State.asked; decide +kernel, by decide +kernel⟩⟩,
  ⟨(on |> clock 1 |> flds [(F.PIN_OWN_holder, 63, 5)] |> asks 0x0502 [31, 2 ^ 40, 0, 1000001]), 0, (name5), (cmd5 0x0502 [31, 2 ^ 40, 0, 1000001]), ⟨by unfold State.asked; decide +kernel, by decide +kernel⟩⟩,
  ⟨(on |> asks 0x0701 [4095 + 1 * 65536, 0x1000]), 0, (name5), (cmd5 0x0701 [4095 + 1 * 65536, 0x1000]), ⟨by unfold State.asked; decide +kernel, by decide +kernel⟩⟩,
  ⟨({ on with log := { on.log with trace := [⟨9, 7, 1, 2⟩, ⟨8, 7, 1, 2⟩, ⟨7, 7, 1, 3⟩] } } |> asks 0x0702 [0, 0x1000, 32]), 0, (name5), (cmd5 0x0702 [0, 0x1000, 32]), ⟨by unfold State.asked; decide +kernel, by decide +kernel⟩⟩,
  ⟨(on |> asks 0x0703 [130, 0x1000, 64]), 0, (name5), (cmd5 0x0703 [130, 0x1000, 64]), by unfold State.asked; decide +kernel⟩,
  ⟨(on |> flds [(F.ERR_HEAD_num, 0, 1), (F.ERR_TAIL_num, 0, 0xFFFFFFFE)] |> asks 0x0704 [0, 0x1000, 64]), 0, (name5), (cmd5 0x0704 [0, 0x1000, 64]), ⟨by unfold State.asked; decide +kernel, by decide +kernel⟩⟩,
  ⟨(on |> asks 0x0706 [1, 2 ^ 63]), 0, (name5), (cmd5 0x0706 [1, 2 ^ 63]), by unfold State.asked; decide +kernel⟩⟩

/-- AttestationAndKeys is about something: a state and operands for each of its clauses. -/
theorem witness_AttestationAndKeys :
  (∃ (s : State) (dt : Nat) (r : CmdName) (k : Cmd),
    let u := s.elapse dt
    let body := u.reportBody r.fn (k.w 0)
    (u.asked (cmdRef r) 0x0401 k) ∧ (u.resetting = false)) ∧
  (∃ (s : State) (dt : Nat) (r : CmdName) (k : Cmd),
    let u := s.elapse dt
    (u.asked (cmdRef r) 0x0401 k) ∧ (u.resetting = true)) ∧
  (∃ (s : State) (dt : Nat) (r : CmdName) (k : Cmd),
    let u := s.elapse dt
    (u.asked (cmdRef r) 0x0402 k) ∧ (u.resetting = false) ∧ ((u.fn r.fn).bme = true)) ∧
  (∃ (s : State) (dt : Nat) (r : CmdName) (k : Cmd) (blob : List Byte) (e : Nat × Nat) (i : Nat) (l : List Nat),
    let u := s.elapse dt
    (u.asked (cmdRef r) 0x0403 k) ∧ (u.resetting = false) ∧ (u.flag F.SEC_STATUS_update_pending = false) ∧ ((u.fn r.fn).bme = true) ∧ (u.ephOf r.fn = some e) ∧ (k.w 2 = 161) ∧ (blob.length = 161) ∧ (u.freeSlots r.fn = i :: l)) ∧
  (∃ (s : State) (dt : Nat) (f : Fin 9) (e : Nat × Nat),
    let u := s.elapse dt
    (u.sec.eph.get f = some e) ∧ (e.1 + 60000000000 < u.now)) ∧
  (∃ (s : State) (dt : Nat),
    let u := s.elapse dt
    (u.fld F.SEC_STATUS_engine ≠ 0)) ∧
  (∃ (s : State) (dt : Nat),
    let u := s.elapse dt
    (u.resetting = true)) :=
  ⟨⟨(on |> asks 0x0401 [0, 0x1000, 4096]), 0, (name5), (cmd5 0x0401 [0, 0x1000, 4096]), ⟨by unfold State.asked; decide +kernel, by decide +kernel⟩⟩,
  ⟨(on |> flds [(F.SEC_STATUS_engine, 0, 2)] |> sec (fun x => { x with resetEnd := 50 }) |> asks 0x0401 [0, 0x1000, 4096]), 0, (name5), (cmd5 0x0401 [0, 0x1000, 4096]), ⟨by unfold State.asked; decide +kernel, by decide +kernel⟩⟩,
  ⟨(on |> clock 8 |> asks 0x0402 [0, 0x1000]), 0, (name5), (cmd5 0x0402 [0, 0x1000]), ⟨by unfold State.asked; decide +kernel, by decide +kernel⟩⟩,
  ⟨(on |> sec (fun x => { x with eph := [(0, some (5, 77))] }) |> asks 0x0403 [0, 0x1000, 161]), 0, (name5), (cmd5 0x0403 [0, 0x1000, 161]), (List.replicate 161 0), ((5, 77)), (0), ([1, 2, 3, 4, 5, 6, 7]), ⟨by unfold State.asked; decide +kernel, by decide +kernel⟩⟩,
  ⟨(on |> clock 60000000006 |> sec (fun x => { x with eph := [(8, some (5, 77))] })), 0, (8), ((5, 77)), by decide +kernel⟩,
  ⟨(on |> clock 7 |> flds [(F.SEC_STATUS_engine, 0, 1)]), 0, by decide +kernel⟩,
  ⟨(on |> asks 0x0401 [] |> clock 2000007 |> flds [(F.SEC_STATUS_engine, 0, 2)] |> sec (fun x => { x with waiting := [⟨0, 0, 5⟩], resetEnd := 2000007 })), 0, by decide +kernel⟩⟩

/-- TenantsAndScrubs is about something: a state and operands for each of its clauses. -/
theorem witness_TenantsAndScrubs :
  (∃ (s : State) (dt : Nat) (r : CmdName) (k : Cmd),
    let u := s.elapse dt
    let f := getBits (k.w 0) 0 4 + 1
    (u.asked (cmdRef r) 0x0404 k) ∧ (f ≤ 8) ∧ (u.fld F.FN_ID_state f = 0)) ∧
  (∃ (s : State) (dt : Nat) (r : CmdName) (k : Cmd),
    let u := s.elapse dt
    let j := getBits (k.w 0) 0 4
    (u.asked (cmdRef r) 0x0405 k) ∧ (j < 8) ∧ (u.fld F.FN_ID_state (j + 1) ≠ 0) ∧ (u.sec.scrubs.get j = none)) ∧
  (∃ (s : State) (dt : Nat) (r : CmdName) (k : Cmd) (x : ScrubS),
    let u := s.elapse dt
    let j := getBits (k.w 0) 0 4
    (u.asked (cmdRef r) 0x0405 k) ∧ (j < 8) ∧ (u.fld F.FN_ID_state (j + 1) ≠ 0) ∧ (u.sec.scrubs.get j = some x)) ∧
  (∃ (s : State) (dt : Nat) (k : Fin 8) (x : ScrubS),
    let u := s.elapse dt
    (u.sec.scrubs.get k = some x) ∧ (x.onchip = false) ∧ (u.onchipCycles k x * 10 ≤ (u.time.tclk - x.since) * 7)) ∧
  (∃ (s : State) (dt : Nat) (k : Fin 8) (x : ScrubS),
    let u := s.elapse dt
    (u.snufRun.sec.scrubs.get k = some x) ∧ (u.snufRun.scrubClear k x = true)) ∧
  (∃ (s : State) (dt : Nat) (c : ClearS) (l : List ClearS),
    let u := s.elapse dt
    (u.snufRun.sec.clears = c :: l) ∧ (c.left = 0)) :=
  ⟨⟨(on |> asks 0x0404 [7]), 0, (name5), (cmd5 0x0404 [7]), ⟨by unfold State.asked; decide +kernel, by decide +kernel⟩⟩,
  ⟨(on |> fnc 8 (fun f => { f with grants := [(1, 2)] }) |> flds [(F.FN_ID_state, 8, 1)] |> asks 0x0405 [7]), 0, (name5), (cmd5 0x0405 [7]), ⟨by unfold State.asked; decide +kernel, by decide +kernel⟩⟩,
  ⟨(on |> flds [(F.FN_ID_state, 8, 2)] |> sec (fun x => { x with scrubs := x.scrubs.set 7 (some { waiters := [⟨0, 0, 5⟩], ranges := [(1, 1)], onchip := true }) }) |> asks 0x0405 [7]), 0, (name5), (cmd5 0x0405 [7]), ({ waiters := [⟨0, 0, 5⟩], ranges := [(1, 1)], onchip := true }), ⟨by unfold State.asked; decide +kernel, by decide +kernel⟩⟩,
  ⟨(on |> tme (fun t => { t with tclk := 4401 }) |> sec (fun x => { x with scrubs := [(7, some { waiters := [⟨0, 0, 5⟩], ranges := [(1, 1)], onchip := false, cores := [3], since := 12 })] })), 0, (7), ({ waiters := [⟨0, 0, 5⟩], ranges := [(1, 1)], onchip := false, cores := [3], since := 12 }), by decide +kernel⟩,
  ⟨({ (on |> asks 0x0405 [7]) with mem := [(0x1FFFFF, 1), (0x200000, 2), (0x3FFFFF, 3), (0x400000, 4)] } |> sec (fun x => { x with scrubs := [(7, some { waiters := [⟨0, 0, 5⟩], ranges := [(1, 1)], onchip := true })] })), 0, (7), ({ waiters := [⟨0, 0, 5⟩], ranges := [(1, 1)], onchip := true }), by decide +kernel⟩,
  ⟨({ (on |> asks 0x0303 [7]) with mem := [(0xFFF, 1), (0x1000, 2), (0x1FFF, 3), (0x2000, 4)] } |> sec (fun x => { x with clears := [⟨0x1000, 0x1000, some ⟨0, 0, 5⟩, [], 0, 0, false, 0, 0⟩] })), 0, (⟨0x1000, 0x1000, some ⟨0, 0, 5⟩, [], 0, 0, false, 0, 0⟩), ([]), by decide +kernel⟩⟩

/-- FirmwareSwitch is about something: a state and operands for each of its clauses. -/
theorem witness_FirmwareSwitch :
  (∃ (s : State) (dt : Nat) (r : CmdName) (k : Cmd) (img : FwImage),
    let u := s.elapse dt
    (u.asked (cmdRef r) 0x0408 k) ∧ (u.resetting = false) ∧ (k.w 2 ≤ 0x800000) ∧ ((u.fn r.fn).bme = true)) ∧
  (∃ (s : State) (dt : Nat) (r : CmdName) (k : Cmd),
    let u := s.elapse dt
    (u.asked (cmdRef r) 0x0409 k) ∧ (u.sec.staged ≠ none)) ∧
  (∃ (s : State) (dt : Nat) (w : SwitchS),
    let u := s.elapse dt
    (u.boot.sw = some w) ∧ (w.began = none) ∧ ((∀ k, k < 8 → u.sec.scrubs.get k = none)) ∧ (u.boot.unit = none) ∧ (u.onlyStarted w.cmd = true) ∧ (u.resetting = false) ∧ (u.sec.waiting = [])) ∧
  (∃ (s : State) (dt : Nat) (w : SwitchS),
    let u := s.elapse dt
    (u.boot.sw = some w) ∧ (w.began ≠ none) ∧ (w.done < 5)) ∧
  (∃ (s : State) (dt : Nat) (w : SwitchS) (k : Cmd),
    let u := s.elapse dt
    (u.boot.sw = some w) ∧ (w.began ≠ none) ∧ (w.done < 5) ∧ (u.command w.cmd = some k) ∧ (w.since + 5000000 < u.now)) ∧
  (∃ (s : State) (dt : Nat) (w : SwitchS) (x : ImageS) (k : Cmd),
    let u := s.elapse dt
    (u.boot.sw = some w) ∧ (u.sec.staged = some x) ∧ (w.began ≠ none) ∧ (5 ≤ w.done) ∧ (u.command w.cmd = some k)) :=
  ⟨⟨(on |> asks 0x0408 [0, 0x1000, 0x800000]), 0, (name5), (cmd5 0x0408 [0, 0x1000, 0x800000]), (⟨[1], [], [], 0, false, []⟩), ⟨by unfold State.asked; decide +kernel, by decide +kernel⟩⟩,
  ⟨(on |> sec (fun x => { x with staged := some {} }) |> asks 0x0409 []), 0, (name5), (cmd5 0x0409 []), ⟨by unfold State.asked; decide +kernel, by decide +kernel⟩⟩,
  ⟨(on |> asks 0x0409 [] |> clock 9 |> boot (fun b => { b with sw := some { cmd := ⟨0, 0, 5⟩, began := none, done := 0, since := 3 } })), 0, ({ cmd := ⟨0, 0, 5⟩, began := none, done := 0, since := 3 }), by decide +kernel⟩,
  ⟨(on |> asks 0x0409 [] |> clock 9 |> boot (fun b => { b with sw := some { cmd := ⟨0, 0, 5⟩, began := some 2, done := 4, since := 3 } })), 0, ({ cmd := ⟨0, 0, 5⟩, began := some 2, done := 4, since := 3 }), by decide +kernel⟩,
  ⟨(on |> asks 0x0409 [] |> clock 5000004 |> boot (fun b => { b with sw := some { cmd := ⟨0, 0, 5⟩, began := some 2, done := 4, since := 3 } })), 0, ({ cmd := ⟨0, 0, 5⟩, began := some 2, done := 4, since := 3 }), (cmd5 0x0409 []), by decide +kernel⟩,
  ⟨(on |> asks 0x0409 [] |> clock 9 |> sec (fun x => { x with staged := some { svn := 3, commit := true }, svnMin := 2, keys := [(1, none)] }) |> boot (fun b => { b with sw := some { cmd := ⟨0, 0, 5⟩, began := some 2, done := 5, since := 3 } })), 0, ({ cmd := ⟨0, 0, 5⟩, began := some 2, done := 5, since := 3 }), ({ svn := 3, commit := true }), (cmd5 0x0409 []), by decide +kernel⟩⟩

/-- SafelightMessagesAndPolicy is about something: a state and operands for each of its clauses. -/
theorem witness_SafelightMessagesAndPolicy :
  (∃ (s : State) (dt : Nat) (m : List Word) (l : List (List Word)),
    let u := s.elapse dt
    let x := (m.getD 1 0).toNat
    let a := answer 0x8101 m [if 20000 ≤ x ∧ x ≤ 75000 then 0 else 1]
    (u.sfl.inbox = m :: l) ∧ (u.sflRuns = true) ∧ (msgType m = 0x0101) ∧ (20000 ≤ x) ∧ (x ≤ 75000)) ∧
  (∃ (s : State) (dt : Nat) (m : List Word) (l : List (List Word)),
    let u := s.elapse dt
    let x := (m.getD 1 0).toNat
    let a := answer 0x8101 m [if 20000 ≤ x ∧ x ≤ 75000 then 0 else 1]
    (u.sfl.inbox = m :: l) ∧ (u.sflRuns = true) ∧ (msgType m = 0x0101) ∧ (x < 20000 ∨ 75000 < x)) ∧
  (∃ (s : State) (dt : Nat) (m : List Word) (l : List (List Word)),
    let u := s.elapse dt
    let a := answer 0x8102 m [BitVec.ofNat 32 u.govG, BitVec.ofNat 32 (u.fld F.SFL_POWER_p_avg_mw), BitVec.ofInt 32 u.tj]
    (u.sfl.inbox = m :: l) ∧ (u.sflRuns = true) ∧ (msgType m = 0x0102)) ∧
  (∃ (s : State) (dt : Nat) (r : CmdName) (k : Cmd) (bytes : List Byte),
    let u := s.elapse dt
    let c := u.policyCheck (bytes.take (getBits (k.w 2) 0 16))
    (u.asked (cmdRef r) 0x0406 k) ∧ (u.resetting = false) ∧ (u.sflServes = true) ∧ ((u.fn r.fn).bme = true)) ∧
  (∃ (s : State) (dt : Nat) (r : CmdName) (k : Cmd) (key : List Byte),
    let u := s.elapse dt
    (u.asked (cmdRef r) 0x0407 k) ∧ (u.resetting = false) ∧ (u.sflServes = true) ∧ ((u.fn r.fn).bme = true) ∧ (u.sfl.enrol ≠ none ∨ Config.sm2Valid key = false)) :=
  ⟨⟨(on |> flds [(F.SFL_STATUS_proc, 0, 1)] |> sfl (fun x => { x with inbox := [[0xABCD0101, 20000]] })), 0, ([0xABCD0101, 20000]), ([]), by decide +kernel⟩,
  ⟨(on |> flds [(F.SFL_STATUS_proc, 0, 1)] |> sfl (fun x => { x with inbox := [[0xABCD0101, 75001]] })), 0, ([0xABCD0101, 75001]), ([]), by decide +kernel⟩,
  ⟨(on |> flds [(F.SFL_STATUS_proc, 0, 1), (F.SFL_GOV_step, 0, 7), (F.SFL_POWER_p_avg_mw, 0, 54000), (F.SFL_THERM_tj, 0, 4000)] |> sfl (fun x => { x with inbox := [[0xABCD0102]] })), 0, ([0xABCD0102]), ([]), by decide +kernel⟩,
  ⟨(on |> flds [(F.SFL_STATUS_proc, 0, 1)] |> asks 0x0406 [0, 0x1000, 128]), 0, (name5), (cmd5 0x0406 [0, 0x1000, 128]), ([1]), ⟨by unfold State.asked; decide +kernel, by decide +kernel⟩⟩,
  ⟨(on |> flds [(F.SFL_STATUS_proc, 0, 1)] |> sfl (fun x => { x with enrol := some [5] }) |> asks 0x0407 [0, 0x1000]), 0, (name5), (cmd5 0x0407 [0, 0x1000]), ([1]), ⟨by unfold State.asked; decide +kernel, by decide +kernel, by decide +kernel, by decide +kernel, Or.inl (by decide +kernel)⟩⟩⟩

/-- SafelightFailsClosed is about something: a state and operands for each of its clauses. -/
theorem witness_SafelightFailsClosed :
  (∃ (s : State) (dt : Nat),
    let u := s.elapse dt
    (u.fld F.SFL_STATUS_proc = 2)) ∧
  (∃ (s : State) (dt : Nat),
    let u := s.elapse dt
    (u.sfl.hold = false)) ∧
  (∃ (s : State) (dt : Nat),
    let u := s.elapse dt
    (u.sfl.hold = true)) :=
  ⟨⟨(on |> flds [(F.SFL_STATUS_proc, 0, 2), (F.SFL_POLICY_SEQ_seq, 0, 7)] |> sfl (fun x => { x with enrol := some [5], failClosed := some 3 })), 0, by decide +kernel⟩,
  ⟨(on |> clock 8), 0, by decide +kernel⟩,
  ⟨(on |> clock 8 |> sfl (fun x => { x with hold := true })), 0, by decide +kernel⟩⟩

/-- PowerAndGovernor is about something: a state and operands for each of its clauses. -/
theorem witness_PowerAndGovernor :
  (∃ (s : State) (dt : Nat) (mw : BitVec 32),
    let u := s.elapse dt
    let l := (mw.toNat :: u.sfl.samples).take 100
    (u.sflRuns = true) ∧ (l.sum / l.length + 1 < 2 ^ 17) ∧ (l.sum % l.length = 0)) ∧
  (∃ (s : State) (dt : Nat) (mw : BitVec 32),
    let u := s.elapse dt
    let l := (mw.toNat :: u.sfl.samples).take 100
    (u.sflRuns = true) ∧ (l.sum / l.length + 1 < 2 ^ 17)) ∧
  (∃ (s : State) (dt : Nat) (temps : List (BitVec 12)),
    let u := s.elapse dt
    (u.sflRuns = true) ∧ (temps.length = 16)) ∧
  (∃ (s : State) (dt : Nat),
    let u := s.elapse dt
    (u.sflServes = true) ∧ (1840 ≤ u.tj) ∧ (u.govG ≠ 13)) ∧
  (∃ (s : State) (dt : Nat),
    let u := s.elapse dt
    (u.sflServes = true) ∧ (1840 ≤ u.tj)) ∧
  (∃ (s : State) (dt : Nat),
    let u := s.elapse dt
    (u.sflServes = true) ∧ (u.tj < 1840) ∧ (u.govG ≤ 13) ∧ (u.sfl.newLimit = none) ∧ (u.sfl.lastStep + 1000000 ≤ u.now) ∧ ((u.fld F.SFL_LIMIT_limit_mw < u.fld F.SFL_POWER_p_avg_mw ∨ 1600 < u.tj))) ∧
  (∃ (s : State) (dt : Nat) (q : Nat),
    let u := s.elapse dt
    (u.sflServes = true) ∧ (u.tj ≤ 1520) ∧ (1 ≤ u.govG) ∧ (u.govG ≤ 12) ∧ (u.sfl.newLimit = none) ∧ (u.sfl.quietFrom = some q) ∧ (q + 100000000 ≤ u.now) ∧ (u.sfl.lastStep + 100000000 ≤ u.now) ∧ (u.fld F.SFL_POWER_p_avg_mw + 5000 ≤ u.fld F.SFL_LIMIT_limit_mw)) ∧
  (∃ (s : State) (dt : Nat) (l : Nat),
    let u := s.elapse dt
    (u.sflServes = true) ∧ (u.sfl.newLimit = some l) ∧ (l < 2 ^ 17)) ∧
  (∃ (s : State) (dt : Nat),
    let u := s.elapse dt
    (u.flag F.SFL_STATUS_trip = false)) :=
  ⟨⟨(on |> flds [(F.SFL_STATUS_proc, 0, 1)] |> sfl (fun x => { x with samples := List.replicate 100 50000 })), 0, (50100), by decide +kernel⟩,
  ⟨(on |> flds [(F.SFL_STATUS_proc, 0, 1)] |> sfl (fun x => { x with samples := [50000, 50001] })), 0, (50001), by decide +kernel⟩,
  ⟨(on |> flds [(F.SFL_STATUS_proc, 0, 1)]), 0, ([1, 2, 3, 4095, 5, 6, 7, 2047, 0, 0, 0, 0, 0, 0, 0, 4]), by decide +kernel⟩,
  ⟨(on |> flds [(F.SFL_STATUS_proc, 0, 1), (F.SFL_THERM_tj, 0, 1840), (F.SFL_GOV_step, 0, 2)]), 0, by decide +kernel⟩,
  ⟨(on |> flds [(F.SFL_STATUS_proc, 0, 1), (F.SFL_THERM_tj, 0, 1840), (F.SFL_GOV_step, 0, 13)]), 0, by decide +kernel⟩,
  ⟨(on |> flds [(F.SFL_STATUS_proc, 0, 1), (F.SFL_THERM_tj, 0, 1601), (F.SFL_GOV_step, 0, 12), (F.SFL_LIMIT_limit_mw, 0, 75000)] |> clock 1000000), 0, by decide +kernel⟩,
  ⟨(on |> flds [(F.SFL_STATUS_proc, 0, 1), (F.SFL_THERM_tj, 0, 1520), (F.SFL_GOV_step, 0, 12), (F.SFL_LIMIT_limit_mw, 0, 75000), (F.SFL_POWER_p_avg_mw, 0, 70000)] |> clock 100000000 |> sfl (fun x => { x with quietFrom := some 0 })), 0, (0), by decide +kernel⟩,
  ⟨(on |> flds [(F.SFL_STATUS_proc, 0, 1), (F.SFL_GOV_step, 0, 12)] |> clock 100000000 |> sfl (fun x => { x with newLimit := some 20000 })), 0, (20000), by decide +kernel⟩,
  ⟨(on), 0, by decide +kernel⟩⟩

/-- ForwardingAndWindows is about something: a state and operands for each of its clauses. -/
theorem witness_ForwardingAndWindows :
  (∃ (s : State) (dt : Nat) (r : CmdName) (k : Cmd),
    let u := s.elapse dt
    (u.asked (cmdRef r) 0x0801 k)) ∧
  (∃ (s : State) (dt : Nat) (r : CmdName) (k : Cmd),
    let u := s.elapse dt
    let p := getBits (k.w 0) 0 4
    let q := getBits (k.w 0) 8 3
    (u.asked (cmdRef r) 0x0802 k) ∧ (q ≠ u.pos) ∧ (u.presentPos q = true) ∧ (u.portStopped p = true) ∧ (u.isOut p = false) ∧ (u.isIn p = false) ∧ ((u.chn.peers.get q).enrol = u.sfl.enrol)) ∧
  (∃ (s : State) (dt : Nat) (r : CmdName) (k : Cmd) (targetOk : Bool) (pathOk : Bool),
    let u := s.elapse dt
    let p := getBits (k.w 0) 0 4
    let q := getBits (k.w 0) 8 3
    (u.asked (cmdRef r) 0x0802 k) ∧ (((q = u.pos ∨ u.presentPos q = false) ∨ u.portStopped p = false ∨ u.isOut p = true ∨ u.isIn p = true ∨ targetOk = false ∨
      pathOk = false ∨ (u.chn.peers.get q).enrol ≠ u.sfl.enrol))) ∧
  (∃ (s : State) (dt : Nat) (r : CmdName) (k : Cmd),
    let u := s.elapse dt
    let p := getBits (k.w 0) 0 4
    (u.asked (cmdRef r) 0x0802 k) ∧ (u.isOut p = true) ∧ (u.presentPos (u.fwdPeer p) = true)) ∧
  (∃ (s : State) (dt : Nat) (r : CmdName) (k : Cmd) (targetOk : Bool),
    let u := s.elapse dt
    let p := getBits (k.w 0) 0 4
    (u.asked (cmdRef r) 0x0802 k) ∧ ((u.isOut p = false ∨ u.presentPos (u.fwdPeer p) = false ∨ targetOk = false))) ∧
  (∃ (s : State) (dt : Nat) (r : CmdName) (k : Cmd) (w : Nat),
    let u := s.elapse dt
    let n := getBits (k.w 2) 0 32
    (u.asked (cmdRef r) 0x0803 k) ∧ (k.w 1 % 64 = 0) ∧ (n % 64 = 0) ∧ (0 < n) ∧ (n ≤ 0x1000000) ∧ (u.ownerMemory (k.w 1) n = true) ∧ ((List.range 16).find? (fun w => !u.flag F.CHN_WIN_CTL_open w) = some w)) ∧
  (∃ (s : State) (dt : Nat) (r : CmdName) (k : Cmd),
    let u := s.elapse dt
    let n := getBits (k.w 2) 0 32
    let bad := decide (k.w 1 % 64 ≠ 0 ∨ n % 64 ≠ 0 ∨ n = 0 ∨ 0x1000000 < n)
    (u.asked (cmdRef r) 0x0803 k) ∧ ((bad = true ∨ u.ownerMemory (k.w 1) n = false ∨ ∀ w ∈ List.range 16, u.flag F.CHN_WIN_CTL_open w = true))) ∧
  (∃ (s : State) (dt : Nat) (r : CmdName) (k : Cmd),
    let u := s.elapse dt
    let w := getBits (k.w 0) 0 8
    (u.asked (cmdRef r) 0x0804 k) ∧ (w < 16) ∧ (u.flag F.CHN_WIN_CTL_open w = true)) ∧
  (∃ (s : State) (dt : Nat) (r : CmdName) (k : Cmd),
    let u := s.elapse dt
    let w := getBits (k.w 0) 0 8
    (u.asked (cmdRef r) 0x0804 k) ∧ ((16 ≤ w ∨ u.flag F.CHN_WIN_CTL_open w = false))) :=
  ⟨⟨(on |> flds [(F.CHN_STATUS_present, 0, 0x13), (F.CHN_STATUS_pos, 0, 4)] |> asks 0x0801 []), 0, (name5), (cmd5 0x0801 []), by unfold State.asked; decide +kernel⟩,
  ⟨(on |> flds [(F.CHN_STATUS_present, 0, 0x07), (F.CHN_STATUS_pos, 0, 1)] |> asks 0x0802 [15 + 2 * 256]), 0, (name5), (cmd5 0x0802 [15 + 2 * 256]), ⟨by unfold State.asked; decide +kernel, by decide +kernel⟩⟩,
  ⟨(on |> flds [(F.CHN_STATUS_present, 0, 0x07), (F.CHN_STATUS_pos, 0, 1)] |> asks 0x0802 [15 + 2 * 256]), 0, (name5), (cmd5 0x0802 [15 + 2 * 256]), (false), (true), ⟨by unfold State.asked; decide +kernel, by decide +kernel⟩⟩,
  ⟨(on |> flds [(F.CHN_STATUS_present, 0, 0x07), (F.CHN_STATUS_pos, 0, 1)] |> flds [(F.CHN_FWD_out, 0, 0x8000)] |> (fun s => s.setRegN .CHN_FWD_PEER 15 2) |> asks 0x0802 [15 + 2 * 256]), 0, (name5), (cmd5 0x0802 [15 + 2 * 256]), ⟨by unfold State.asked; decide +kernel, by decide +kernel⟩⟩,
  ⟨(on |> flds [(F.CHN_STATUS_present, 0, 0x07), (F.CHN_STATUS_pos, 0, 1)] |> flds [(F.CHN_FWD_out, 0, 0x8000)] |> (fun s => s.setRegN .CHN_FWD_PEER 15 2) |> asks 0x0802 [15 + 2 * 256]), 0, (name5), (cmd5 0x0802 [15 + 2 * 256]), (false), ⟨by unfold State.asked; decide +kernel, by decide +kernel⟩⟩,
  ⟨(on |> flds [(F.MEM_GEOM_gib, 0, 16)] |> flds [(F.CHN_STATUS_present, 0, 0x07), (F.CHN_STATUS_pos, 0, 1)] |> flds ((List.range 15).map fun i => (F.CHN_WIN_CTL_open, i, 1)) |> asks 0x0803 [3, 0x1000040, 0x1000000]), 0, (name5), (cmd5 0x0803 [3, 0x1000040, 0x1000000]), (15), ⟨by unfold State.asked; decide +kernel, by decide +kernel⟩⟩,
  ⟨(on |> flds [(F.MEM_GEOM_gib, 0, 16)] |> flds [(F.CHN_STATUS_present, 0, 0x07), (F.CHN_STATUS_pos, 0, 1)] |> flds ((List.range 16).map fun i => (F.CHN_WIN_CTL_open, i, 1)) |> asks 0x0803 [3, 0x1000040, 0x1000000]), 0, (name5), (cmd5 0x0803 [3, 0x1000040, 0x1000000]), ⟨by unfold State.asked; decide +kernel, by decide +kernel⟩⟩,
  ⟨(on |> flds [(F.CHN_STATUS_present, 0, 0x07), (F.CHN_STATUS_pos, 0, 1)] |> flds [(F.CHN_WIN_CTL_open, 15, 1), (F.CHN_WIN_CTL_peer, 15, 2)] |> asks 0x0804 [15]), 0, (name5), (cmd5 0x0804 [15]), ⟨by unfold State.asked; decide +kernel, by decide +kernel⟩⟩,
  ⟨(on |> flds [(F.CHN_STATUS_present, 0, 0x07), (F.CHN_STATUS_pos, 0, 1)] |> asks 0x0804 [16]), 0, (name5), (cmd5 0x0804 [16]), ⟨by unfold State.asked; decide +kernel, by decide +kernel⟩⟩⟩

/-- ChainPackets is about something: a state and operands for each of its clauses. -/
theorem witness_ChainPackets :
  (∃ (s : State) (dt : Nat) (chd : Bool) (q : BitVec 3),
    let u := s.elapse dt
    let p := if chd then 17 else 16
    (u.portState p = 3) ∧ ((u.port p).waiting = false) ∧ (u.now ≤ (u.port p).since + 500000)) ∧
  (∃ (s : State) (dt : Nat) (q : BitVec 3) (d : BitVec 3) (p : Fin 16) (stamp : BitVec 64) (k : Packet),
    let u := s.elapse dt
    (u.fromChain q.toNat d.toNat) ∧ (u.isIn p = true) ∧ (u.fwdPeer p = q.toNat) ∧ (1 ≤ k.ptype.toNat) ∧ (k.ptype.toNat ≤ 4)) ∧
  (∃ (s : State) (dt : Nat) (q : BitVec 3) (d : BitVec 3) (p : Fin 16) (stamp : BitVec 64) (k : Packet),
    let u := s.elapse dt
    let a := u.portToward q.toNat
    (q.toNat ≠ u.pos) ∧ (u.portState a = 4) ∧ (d.toNat ≠ u.pos) ∧ (u.portToward d.toNat = 33 - a) ∧ (u.portState (33 - a) = 4)) ∧
  (∃ (s : State) (dt : Nat) (q : BitVec 3) (d : BitVec 3) (len : BitVec 12) (m : ChainMsg),
    let u := s.elapse dt
    let a := u.portToward q.toNat
    (q.toNat ≠ u.pos) ∧ (u.portState a = 4) ∧ (d.toNat ≠ u.pos) ∧ (u.portToward d.toNat = 33 - a) ∧ (u.portState (33 - a) = 4)) ∧
  (∃ (s : State) (dt : Nat) (q : BitVec 3) (d : BitVec 3) (p : Fin 16) (len : BitVec 12) (hub : Word) (slots : Word),
    let u := s.elapse dt
    (u.fromChain q.toNat d.toNat) ∧ (u.isIn p = true) ∧ (u.fwdPeer p = q.toNat)) ∧
  (∃ (s : State) (dt : Nat) (q : BitVec 3) (d : BitVec 3) (p : Fin 16) (len : BitVec 12) (c : FwdCtl),
    let u := s.elapse dt
    (u.fromChain q.toNat d.toNat) ∧ (u.isIn p = true) ∧ (u.fwdPeer p = q.toNat) ∧ (triggerReport c = false)) ∧
  (∃ (s : State) (dt : Nat) (q : BitVec 3) (d : BitVec 3) (p : Fin 16) (len : BitVec 12) (mask : Word) (seq : BitVec 14) (inst : Nat) (j : Fin 32),
    let u := s.elapse dt
    let n := 32 * p.val + j.val
    (u.fromChain q.toNat d.toNat) ∧ (u.isIn p = true) ∧ (u.fwdPeer p = q.toNat) ∧ (bit mask.toNat j = true) ∧ ((u.cam n).asked.any (fun l => l.s == inst) = true)) ∧
  (∃ (s : State) (dt : Nat) (q : BitVec 3) (d : BitVec 3) (info : BitVec 64) (bytes : List Byte),
    let u := s.elapse dt
    let w := getBits info.toNat 32 8
    let off := getBits info.toNat 0 32
    (u.fromChain q.toNat d.toNat) ∧ (w < 16) ∧ (u.flag F.CHN_WIN_CTL_open w = true) ∧ (u.fld F.CHN_WIN_CTL_peer w = q.toNat) ∧ (off + bytes.length ≤ u.regN .CHN_WIN_LEN w) ∧ (bit info.toNat 48 = true)) ∧
  (∃ (s : State) (dt : Nat) (q : BitVec 3) (d : BitVec 3) (info : BitVec 64) (bytes : List Byte),
    let u := s.elapse dt
    let w := getBits info.toNat 32 8
    (u.fromChain q.toNat d.toNat) ∧ ((16 ≤ w ∨ u.flag F.CHN_WIN_CTL_open w = false ∨ u.fld F.CHN_WIN_CTL_peer w ≠ q.toNat ∨
      u.regN .CHN_WIN_LEN w < getBits info.toNat 0 32 + bytes.length))) ∧
  (∃ (s : State) (dt : Nat) (q : BitVec 3) (d : BitVec 3) (info : BitVec 64) (xs : List Xfer) (ys : List Xfer) (x : Xfer) (r : Nat) (m : Nat) (bs : List Byte),
    let u := s.elapse dt
    let i := getBits info.toNat 40 4
    let j := getBits info.toNat 44 4
    let w := getBits info.toNat 32 8
    let off := getBits info.toNat 0 32
    (u.fromChain q.toNat d.toNat) ∧ (getBits info.toNat 49 2 = 0) ∧ (u.dmaQ i j = xs ++ x :: ys) ∧ ((∀ y ∈ xs, y.rowOfPeer q.toNat w off = none)) ∧ (x.rowOfPeer q.toNat w off = some r) ∧ (x.unacked = [(r, m + 2, bs)])) ∧
  (∃ (s : State) (dt : Nat) (q : BitVec 3) (d : BitVec 3) (info : BitVec 64) (x : Xfer) (r : Nat) (bs : List Byte),
    let u := s.elapse dt
    let i := getBits info.toNat 40 4
    let j := getBits info.toNat 44 4
    (u.fromChain q.toNat d.toNat) ∧ (u.dmaQ i j = [x]) ∧ (x.rowOfPeer q.toNat (getBits info.toNat 32 8) (getBits info.toNat 0 32) = some r) ∧ (x.unacked = [(r, 1, bs)])) ∧
  (∃ (s : State) (dt : Nat) (q : BitVec 3) (d : BitVec 3) (info : BitVec 64),
    let u := s.elapse dt
    let i := getBits info.toNat 40 4
    let j := getBits info.toNat 44 4
    (u.fromChain q.toNat d.toNat) ∧ (getBits info.toNat 49 2 = 1) ∧ ((∀ x ∈ u.dmaQ i j, x.rowOfPeer q.toNat (getBits info.toNat 32 8) (getBits info.toNat 0 32) = none))) ∧
  (∃ (s : State) (dt : Nat) (q : BitVec 3) (d : BitVec 3) (len : BitVec 12) (p : BitVec 4) (on : Bool),
    let u := s.elapse dt
    (u.fromChain q.toNat d.toNat)) ∧
  (∃ (s : State) (dt : Nat) (q : BitVec 3) (d : BitVec 3) (len : BitVec 12) (w : BitVec 4) (on : Bool) (n : Word),
    let u := s.elapse dt
    (u.fromChain q.toNat d.toNat)) ∧
  (∃ (s : State) (dt : Nat) (q : BitVec 3) (d : BitVec 3) (len : BitVec 12) (g : BitVec 5) (base : BitVec 64) (apply : BitVec 64) (per : BitVec 32),
    let u := s.elapse dt
    (u.fromChain q.toNat d.toNat) ∧ (per ≠ 0) ∧ (u.owner (32 + g.toNat) = 0) ∧ (u.flag F.SYN_SCHED_CTL_enable g.toNat = false)) ∧
  (∃ (s : State) (dt : Nat) (q : BitVec 3) (d : BitVec 3) (len : BitVec 12) (g : BitVec 5) (base : BitVec 64) (apply : BitVec 64) (per : BitVec 32),
    let u := s.elapse dt
    (u.fromChain q.toNat d.toNat) ∧ (per ≠ 0) ∧ ((u.owner (32 + g.toNat) ≠ 0 ∨ u.flag F.SYN_SCHED_CTL_enable g.toNat = true))) ∧
  (∃ (s : State) (dt : Nat) (q : BitVec 3) (d : BitVec 3) (len : BitVec 12) (p : BitVec 4) (mask : Word) (launch : Nat) (inst : Nat),
    let u := s.elapse dt
    (u.fromChain q.toNat d.toNat) ∧ (u.isOut p.toNat = true) ∧ (u.fwdPeer p.toNat = q.toNat) ∧ (u.now ≤ launch)) ∧
  (∃ (s : State) (dt : Nat) (q : BitVec 3) (d : BitVec 3) (len : BitVec 12) (p : BitVec 4) (mask : Word) (launch : Nat) (inst : Nat),
    let u := s.elapse dt
    (u.fromChain q.toNat d.toNat) ∧ (u.isOut p.toNat = true) ∧ (u.fwdPeer p.toNat = q.toNat) ∧ (launch < u.now)) ∧
  (∃ (s : State) (dt : Nat) (q : BitVec 3) (d : BitVec 3) (len : BitVec 12) (p : BitVec 4) (mask : Word) (launch : Nat) (inst : Nat),
    let u := s.elapse dt
    (u.fromChain q.toNat d.toNat) ∧ (u.isOut p.toNat = true) ∧ (u.fwdPeer p.toNat = q.toNat)) :=
  ⟨⟨(on |> link 17 3 id |> clock 500000 |> flds [(F.CHN_STATUS_pos, 0, 6)]), 0, (true), (7), by decide +kernel⟩,
  ⟨(on |> link 16 4 id |> link 17 4 id |> flds [(F.CHN_STATUS_present, 0, 0x07), (F.CHN_STATUS_pos, 0, 1)] |> flds [(F.CHN_FWD_in, 0, 0x8000)] |> (fun s => s.setRegN .CHN_FWD_PEER 15 2)), 0, (2), (1), (15), (7), (sealed { ptype := 1, slot := 3, len := 8 }), ⟨by unfold State.fromChain; decide +kernel, by decide +kernel⟩⟩,
  ⟨(on |> link 16 4 id |> link 17 4 id |> flds [(F.CHN_STATUS_present, 0, 0x07), (F.CHN_STATUS_pos, 0, 1)]), 0, (2), (0), (15), (7), (sealed { ptype := 1, slot := 3, len := 8 }), by decide +kernel⟩,
  ⟨(on |> link 16 4 id |> link 17 4 id |> flds [(F.CHN_STATUS_present, 0, 0x07), (F.CHN_STATUS_pos, 0, 1)]), 0, (2), (0), (8), (.forward 3 true), by decide +kernel⟩,
  ⟨(on |> link 16 4 id |> link 17 4 id |> flds [(F.CHN_STATUS_present, 0, 0x07), (F.CHN_STATUS_pos, 0, 1)] |> flds [(F.CHN_FWD_in, 0, 0x8000)] |> (fun s => s.setRegN .CHN_FWD_PEER 15 2)), 0, (2), (1), (15), (12), (0xABCD), (0x1234), ⟨by unfold State.fromChain; decide +kernel, by decide +kernel⟩⟩,
  ⟨(on |> link 16 4 id |> link 17 4 id |> flds [(F.CHN_STATUS_present, 0, 0x07), (F.CHN_STATUS_pos, 0, 1)] |> flds [(F.CHN_FWD_in, 0, 0x8000)] |> (fun s => s.setRegN .CHN_FWD_PEER 15 2)), 0, (2), (1), (15), (12), (.replayed 31), ⟨by unfold State.fromChain; decide +kernel, by decide +kernel⟩⟩,
  ⟨(on |> link 16 4 id |> link 17 4 id |> flds [(F.CHN_STATUS_present, 0, 0x07), (F.CHN_STATUS_pos, 0, 1)] |> flds [(F.CHN_FWD_in, 0, 0x8000)] |> (fun s => s.setRegN .CHN_FWD_PEER 15 2) |> cam 511 (fun x => { x with asked := [{ l := 5, s := 1000 }] })), 0, (2), (1), (15), (12), (0x80000000), (9), (1000), (31), ⟨by unfold State.fromChain; decide +kernel, by decide +kernel⟩⟩,
  ⟨(on |> link 16 4 id |> link 17 4 id |> flds [(F.CHN_STATUS_present, 0, 0x07), (F.CHN_STATUS_pos, 0, 1)] |> flds [(F.CHN_WIN_CTL_open, 15, 1), (F.CHN_WIN_CTL_peer, 15, 2)] |> (fun s => s.setRegN .CHN_WIN_LEN 15 128) |> (fun s => s.setPair .CHN_WIN_BASE_LO .CHN_WIN_BASE_HI 15 0x1000)), 0, (2), (1), (126 + 15 * 2 ^ 32 + 2 ^ 48 + 9 * 2 ^ 40), ([1, 2]), ⟨by unfold State.fromChain; decide +kernel, by decide +kernel⟩⟩,
  ⟨(on |> link 16 4 id |> link 17 4 id |> flds [(F.CHN_STATUS_present, 0, 0x07), (F.CHN_STATUS_pos, 0, 1)]), 0, (2), (1), (126 + 15 * 2 ^ 32), ([1, 2]), ⟨by unfold State.fromChain; decide +kernel, by decide +kernel⟩⟩,
  ⟨(on |> link 16 4 id |> link 17 4 id |> flds [(F.CHN_STATUS_present, 0, 0x07), (F.CHN_STATUS_pos, 0, 1)] |> core 15 (fun x => { x with dmaq := x.dmaq.set 3 [{ bytes := leBytes 8 0 ++ leBytes 8 (2 * 2 ^ 40 + 3 * 2 ^ 32 + 0x40) ++ leBytes 4 64 ++ leBytes 2 1 ++ leBytes 2 1 ++ leBytes 2 1 ++ leBytes 2 0 ++ leBytes 1 (3 + 16 * 4) ++ leBytes 35 0, issued := 1, unacked := [(0, 3, [1, 2])] }] })), 0, (2), (1), (0x40 + 3 * 2 ^ 32 + 15 * 2 ^ 40 + 3 * 2 ^ 44), ([]), ([]), ({ bytes := leBytes 8 0 ++ leBytes 8 (2 * 2 ^ 40 + 3 * 2 ^ 32 + 0x40) ++ leBytes 4 64 ++ leBytes 2 1 ++ leBytes 2 1 ++ leBytes 2 1 ++ leBytes 2 0 ++ leBytes 1 (3 + 16 * 4) ++ leBytes 35 0, issued := 1, unacked := [(0, 3, [1, 2])] }), (0), (1), ([1, 2]), ⟨by unfold State.fromChain; decide +kernel, by decide +kernel⟩⟩,
  ⟨(on |> link 16 4 id |> link 17 4 id |> flds [(F.CHN_STATUS_present, 0, 0x07), (F.CHN_STATUS_pos, 0, 1)] |> core 15 (fun x => { x with dmaq := x.dmaq.set 3 [{ bytes := leBytes 8 0 ++ leBytes 8 (2 * 2 ^ 40 + 3 * 2 ^ 32 + 0x40) ++ leBytes 4 64 ++ leBytes 2 1 ++ leBytes 2 1 ++ leBytes 2 1 ++ leBytes 2 0 ++ leBytes 1 (3 + 16 * 4) ++ leBytes 35 0, issued := 1, unacked := [(0, 1, [1, 2])] }] })), 0, (2), (1), (0x40 + 3 * 2 ^ 32 + 15 * 2 ^ 40 + 3 * 2 ^ 44 + 2 ^ 49), ({ bytes := leBytes 8 0 ++ leBytes 8 (2 * 2 ^ 40 + 3 * 2 ^ 32 + 0x40) ++ leBytes 4 64 ++ leBytes 2 1 ++ leBytes 2 1 ++ leBytes 2 1 ++ leBytes 2 0 ++ leBytes 1 (3 + 16 * 4) ++ leBytes 35 0, issued := 1, unacked := [(0, 1, [1, 2])] }), (0), ([1, 2]), ⟨by unfold State.fromChain; decide +kernel, by decide +kernel⟩⟩,
  ⟨(on |> link 16 4 id |> link 17 4 id |> flds [(F.CHN_STATUS_present, 0, 0x07), (F.CHN_STATUS_pos, 0, 1)]), 0, (2), (1), (0x40 + 3 * 2 ^ 32 + 15 * 2 ^ 40 + 3 * 2 ^ 44 + 2 ^ 49), ⟨by unfold State.fromChain; decide +kernel, by decide +kernel⟩⟩,
  ⟨(on |> link 16 4 id |> link 17 4 id |> flds [(F.CHN_STATUS_present, 0, 0x07), (F.CHN_STATUS_pos, 0, 1)]), 0, (2), (1), (8), (15), (true), by unfold State.fromChain; decide +kernel⟩,
  ⟨(on |> link 16 4 id |> link 17 4 id |> flds [(F.CHN_STATUS_present, 0, 0x07), (F.CHN_STATUS_pos, 0, 1)]), 0, (2), (1), (8), (15), (true), (4096), by unfold State.fromChain; decide +kernel⟩,
  ⟨(on |> link 16 4 id |> link 17 4 id |> flds [(F.CHN_STATUS_present, 0, 0x07), (F.CHN_STATUS_pos, 0, 1)]), 0, (2), (1), (8), (31), (2 ^ 40), (77), (1000000), ⟨by unfold State.fromChain; decide +kernel, by decide +kernel⟩⟩,
  ⟨(on |> link 16 4 id |> link 17 4 id |> flds [(F.CHN_STATUS_present, 0, 0x07), (F.CHN_STATUS_pos, 0, 1)] |> flds [(F.SYN_SCHED_CTL_enable, 31, 1)]), 0, (2), (1), (8), (31), (2 ^ 40), (77), (1000000), ⟨by unfold State.fromChain; decide +kernel, by decide +kernel⟩⟩,
  ⟨(on |> link 16 4 id |> link 17 4 id |> flds [(F.CHN_STATUS_present, 0, 0x07), (F.CHN_STATUS_pos, 0, 1)] |> flds [(F.CHN_FWD_out, 0, 0x8000)] |> (fun s => s.setRegN .CHN_FWD_PEER 15 2)), 0, (2), (1), (8), (15), (0xF0000000), (50), (60), ⟨by unfold State.fromChain; decide +kernel, by decide +kernel⟩⟩,
  ⟨(on |> link 16 4 id |> link 17 4 id |> flds [(F.CHN_STATUS_present, 0, 0x07), (F.CHN_STATUS_pos, 0, 1)] |> clock 51 |> flds [(F.CHN_FWD_out, 0, 0x8000)] |> (fun s => s.setRegN .CHN_FWD_PEER 15 2)), 0, (2), (1), (8), (15), (0xF0000000), (50), (60), ⟨by unfold State.fromChain; decide +kernel, by decide +kernel⟩⟩,
  ⟨(on |> link 16 4 id |> link 17 4 id |> flds [(F.CHN_STATUS_present, 0, 0x07), (F.CHN_STATUS_pos, 0, 1)] |> flds [(F.CHN_FWD_out, 0, 0x8000)] |> (fun s => s.setRegN .CHN_FWD_PEER 15 2)), 0, (2), (1), (8), (15), (0xF0000000), (50), (60), ⟨by unfold State.fromChain; decide +kernel, by decide +kernel⟩⟩⟩

/-- ChainPresence is about something: a state and operands for each of its clauses. -/
theorem witness_ChainPresence :
  (∃ (s : State) (dt : Nat) (q : BitVec 3) (len : BitVec 12) (reach : Byte) (st : BitVec 2) (enrol : Option (List Byte)) (seq : Word),
    let u := s.elapse dt
    (q.toNat ≠ u.pos) ∧ (u.portState (u.portToward q.toNat) = 4)) ∧
  (∃ (s : State) (dt : Nat),
    let u := s.elapse dt
    ((u.portState 16 = 4 ∨ u.portState 17 = 4)) ∧ (u.chn.statusNext ≤ u.now)) ∧
  (∃ (s : State) (dt : Nat) (a : Nat) (q : BitVec 3),
    let u := s.elapse dt
    ((u.chn.peers.get q.toNat).at_ = some a) ∧ (a + 262144 < u.now) ∧ (u.presentPos q.toNat = true) ∧ (q.toNat ≠ u.pos)) ∧
  (∃ (s : State) (dt : Nat) (a : Nat) (p : Fin 16),
    let u := s.elapse dt
    (u.chn.lostAt.get p = some a) ∧ (a + 262144 ≤ u.now)) ∧
  (∃ (s : State) (dt : Nat),
    let u := s.elapse dt
    (1 ≤ u.pos) ∧ (u.portState 16 = 4) ∧ (u.chn.delayNext ≤ u.now)) ∧
  (∃ (s : State) (dt : Nat),
    let u := s.elapse dt
    (u.portState 17 = 4)) ∧
  (∃ (s : State) (dt : Nat) (a : Nat) (turn : Word),
    let u := s.elapse dt
    let m := (((u.now16 : Int) - a - turn.toNat) :: u.chn.meas).take 8
    (u.chn.t1 = some a) ∧ (m.length = 8)) :=
  ⟨⟨(on |> link 16 4 id |> link 17 4 id |> flds [(F.CHN_STATUS_present, 0, 0x07), (F.CHN_STATUS_pos, 0, 1)]), 0, (2), (8), (3), (2), (some [1]), (77), by decide +kernel⟩,
  ⟨(on |> link 16 4 id |> link 17 4 id |> flds [(F.CHN_STATUS_present, 0, 0x07), (F.CHN_STATUS_pos, 0, 1)] |> clock 65536 |> chn (fun c => { c with statusNext := 65536 })), 0, by decide +kernel⟩,
  ⟨(on |> link 16 4 id |> link 17 4 id |> flds [(F.CHN_STATUS_present, 0, 0x07), (F.CHN_STATUS_pos, 0, 1)] |> clock 262145 |> chn (fun c => { c with peers := [(2, { at_ := some 0 })] })), 0, (0), (2), by decide +kernel⟩,
  ⟨(on |> link 16 4 id |> link 17 4 id |> flds [(F.CHN_STATUS_present, 0, 0x07), (F.CHN_STATUS_pos, 0, 1)] |> flds [(F.CHN_FWD_out, 0, 0x8000)] |> (fun s => s.setRegN .CHN_FWD_PEER 15 2) |> clock 262144 |> chn (fun c => { c with lostAt := [(15, some 0)] })), 0, (0), (15), by decide +kernel⟩,
  ⟨(on |> link 16 4 id |> link 17 4 id |> flds [(F.CHN_STATUS_present, 0, 0x07), (F.CHN_STATUS_pos, 0, 1)] |> clock 1048576 |> chn (fun c => { c with delayNext := 1048576 })), 0, by decide +kernel⟩,
  ⟨(on |> link 16 4 id |> link 17 4 id |> flds [(F.CHN_STATUS_present, 0, 0x07), (F.CHN_STATUS_pos, 0, 1)]), 0, by decide +kernel⟩,
  ⟨(on |> link 16 4 id |> link 17 4 id |> flds [(F.CHN_STATUS_present, 0, 0x07), (F.CHN_STATUS_pos, 0, 1)] |> clock 1048576 |> chn (fun c => { c with t1 := some 100, meas := [1, 2, 3, 4, 5, 6, 7, 8] })), 0, (100), (50), by decide +kernel⟩⟩

/-- MemorySystem is about something: a state and operands for each of its clauses. -/
theorem witness_MemorySystem :
  (∃ (s : State) (dt : Nat) (x : Fin 9) (l : BitVec 32) (acc : MemAcc) (na : Bool) (key : BitVec 64) (i : Fin 16) (err : SramErr) (y : HLine),
    let u := s.elapse dt
    (u.hold.find l.toNat = some y) ∧ (err ≠ .uncorrectable)) ∧
  (∃ (s : State) (dt : Nat) (x : Fin 9) (l : BitVec 32) (acc : MemAcc) (na : Bool) (key : BitVec 64) (i : Fin 16) (y : HLine),
    let u := s.elapse dt
    (u.hold.find l.toNat = some y) ∧ ((y.dirty = true ∨ y.poison = true))) ∧
  (∃ (s : State) (dt : Nat) (x : Fin 9) (l : BitVec 32) (acc : MemAcc) (na : Bool) (key : BitVec 64) (i : Fin 16) (y : HLine),
    let u := s.elapse dt
    (u.hold.find l.toNat = some y) ∧ (y.dirty = false) ∧ (y.poison = false) ∧ (acc ≠ .fullWrite)) ∧
  (∃ (s : State) (dt : Nat) (x : Fin 9) (l : BitVec 32) (acc : MemAcc) (na : Bool) (key : BitVec 64) (i : Fin 16) (y : HLine),
    let u := s.elapse dt
    (u.hold.find l.toNat = some y) ∧ (y.dirty = false) ∧ (y.poison = false)) ∧
  (∃ (s : State) (dt : Nat) (x : Fin 9) (l : BitVec 32) (acc : MemAcc) (na : Bool) (key : BitVec 64) (i : Fin 16) (err : SramErr),
    let u := s.elapse dt
    (err = .uncorrectable)) ∧
  (∃ (s : State) (dt : Nat) (x : Fin 9) (l : BitVec 32) (part : Bool) (na : Bool) (key : BitVec 64) (i : Fin 16) (err : SramErr),
    let u := s.elapse dt
    (u.hold.find l.toNat = none) ∧ ((na = true ∧ u.pinOf (64 * l.toNat) = none ∨ u.waysFor x l.toNat = []))) ∧
  (∃ (s : State) (dt : Nat) (x : Fin 9) (l : BitVec 32) (na : Bool) (key : BitVec 64) (i : Fin 16) (err : SramErr),
    let u := s.elapse dt
    (u.hold.find l.toNat = none) ∧ ((na = true ∧ u.pinOf (64 * l.toNat) = none ∨ u.waysFor x l.toNat = []))) ∧
  (∃ (s : State) (dt : Nat) (x : Fin 9) (l : BitVec 32) (acc : MemAcc) (na : Bool) (key : BitVec 64) (i : Fin 16) (err : SramErr),
    let u := s.elapse dt
    (u.hold.find l.toNat = none) ∧ ((na = false ∨ u.pinOf (64 * l.toNat) ≠ none)) ∧ (u.waysFor x l.toNat ≠ []) ∧ (acc ≠ .fullWrite)) ∧
  (∃ (s : State) (dt : Nat) (x : Fin 9) (l : BitVec 32) (acc : MemAcc) (na : Bool) (key : BitVec 64) (i : Fin 16) (err : SramErr),
    let u := s.elapse dt
    (u.hold.find l.toNat = none) ∧ ((na = false ∨ u.pinOf (64 * l.toNat) ≠ none)) ∧ (u.waysFor x l.toNat ≠ []) ∧ (acc = .fullWrite)) ∧
  (∃ (s : State) (dt : Nat) (c : Fin 8) (cipher : List Byte) (side : List Byte) (r : MemReq) (rs : List MemReq),
    let u := s.elapse dt
    (u.hold.inFlight.get c = r :: rs) ∧ (leAt side 8 4 ≠ blockCrc (bytesAt cipher 0 64) (bytesAt side 0 8) (bytesAt side 12 4)) ∧ (r.rereads < 3)) ∧
  (∃ (s : State) (dt : Nat) (c : Fin 8) (cipher : List Byte) (side : List Byte) (r : MemReq) (rs : List MemReq),
    let u := s.elapse dt
    (u.hold.inFlight.get c = r :: rs) ∧ (leAt side 8 4 ≠ blockCrc (bytesAt cipher 0 64) (bytesAt side 0 8) (bytesAt side 12 4)) ∧ (3 ≤ r.rereads)) ∧
  (∃ (s : State) (dt : Nat) (c : Fin 8) (cipher : List Byte) (side : List Byte) (r : MemReq) (rs : List MemReq),
    let u := s.elapse dt
    let b := bytesAt cipher 0 64
    let mac := bytesAt side 0 8
    let ver := u.hold.initWrites + u.hold.version.get (64 * r.line / 2 ^ 21)
    let v := ver - (ver % 2 ^ 32 + 2 ^ 32 - leAt side 12 4) % 2 ^ 32
    (u.hold.inFlight.get c = r :: rs) ∧ (leAt side 8 4 = blockCrc b mac (bytesAt side 12 4)) ∧ (mac = u.blockMac r.line v b)) ∧
  (∃ (s : State) (dt : Nat) (c : Fin 8) (cipher : List Byte) (side : List Byte) (r : MemReq) (rs : List MemReq),
    let u := s.elapse dt
    let b := bytesAt cipher 0 64
    let mac := bytesAt side 0 8
    let ver := u.hold.initWrites + u.hold.version.get (64 * r.line / 2 ^ 21)
    let v := ver - (ver % 2 ^ 32 + 2 ^ 32 - leAt side 12 4) % 2 ^ 32
    (u.hold.inFlight.get c = r :: rs) ∧ (leAt side 8 4 = blockCrc b mac (bytesAt side 12 4)) ∧ (mac = u.blockMac r.line v b) ∧ (r.merge = true) ∧ (r.sweep = false)) ∧
  (∃ (s : State) (dt : Nat) (c : Fin 8) (cipher : List Byte) (side : List Byte) (r : MemReq) (rs : List MemReq),
    let u := s.elapse dt
    let b := bytesAt cipher 0 64
    let mac := bytesAt side 0 8
    let ver := u.hold.initWrites + u.hold.version.get (64 * r.line / 2 ^ 21)
    let v := ver - (ver % 2 ^ 32 + 2 ^ 32 - leAt side 12 4) % 2 ^ 32
    (u.hold.inFlight.get c = r :: rs) ∧ (leAt side 8 4 = blockCrc b mac (bytesAt side 12 4)) ∧ (mac ≠ u.blockMac r.line v b) ∧ (mac = (u.blockMac r.line v b).map (fun y => ~~~ y))) ∧
  (∃ (s : State) (dt : Nat) (c : Fin 8) (cipher : List Byte) (side : List Byte) (r : MemReq) (rs : List MemReq),
    let u := s.elapse dt
    let b := bytesAt cipher 0 64
    let mac := bytesAt side 0 8
    let ver := u.hold.initWrites + u.hold.version.get (64 * r.line / 2 ^ 21)
    let v := ver - (ver % 2 ^ 32 + 2 ^ 32 - leAt side 12 4) % 2 ^ 32
    (u.hold.inFlight.get c = r :: rs) ∧ (leAt side 8 4 = blockCrc b mac (bytesAt side 12 4)) ∧ (mac ≠ u.blockMac r.line v b) ∧ (mac ≠ (u.blockMac r.line v b).map (fun y => ~~~ y))) ∧
  (∃ (s : State) (dt : Nat) (c : Fin 8) (held : List (BitVec 32)) (r : MemReq),
    let u := s.elapse dt
    let w := u.hold.window.get c
    (r ∈ w) ∧ (r.line ∉ held.map (·.toNat)) ∧ (w.length ≤ 64) ∧ ((∀ x ∈ w, x.write = false ∧ x.sweep = false ∧ x.rereads = 0 ∧ u.now < x.at_ + 20000)) ∧ ((∀ x ∈ w, x = r ∨ x.line ∈ held.map (·.toNat) ∨ r.key < x.key ∨
      r.key = x.key ∧ (r.at_ < x.at_ ∨ r.at_ = x.at_ ∧ r.core < x.core)))) ∧
  (∃ (s : State) (dt : Nat) (c : Fin 8) (held : List (BitVec 32)) (r : MemReq),
    let u := s.elapse dt
    (u.hold.window.get c = [r]) ∧ (r.write = true) ∧ (r.line ∉ held.map (·.toNat)) ∧ (u.sweepHolds r.line = false)) ∧
  (∃ (s : State) (dt : Nat) (l : BitVec 32),
    let u := s.elapse dt
    let g := 64 * l.toNat / 2 ^ 21
    (u.sweepHolds l.toNat = false)) ∧
  (∃ (s : State) (dt : Nat) (l : BitVec 32),
    let u := s.elapse dt
    (u.sweepHolds l.toNat = true)) ∧
  (∃ (s : State) (dt : Nat) (c : Fin 8),
    let u := s.elapse dt
    let b := u.hold.bank.get c
    let k := 8 * b + c.val
    (u.hold.refreshAt.get k ≤ u.time.tclk)) :=
  ⟨⟨(on |> hld (fun h => { h with lines := [⟨9, 3, false, true⟩] })), 0, (8), (9), (.read), (false), (7), (15), (.none), (⟨9, 3, false, true⟩), by decide +kernel⟩,
  ⟨(on |> hld (fun h => { h with lines := [⟨9, 3, true, false⟩] })), 0, (8), (9), (.read), (false), (7), (15), (⟨9, 3, true, false⟩), by decide +kernel⟩,
  ⟨(on |> hld (fun h => { h with lines := [⟨9, 3, false, false⟩] })), 0, (8), (9), (.read), (true), (7), (15), (⟨9, 3, false, false⟩), by decide +kernel⟩,
  ⟨(on |> hld (fun h => { h with lines := [⟨9, 3, false, false⟩] })), 0, (8), (9), (.fullWrite), (true), (7), (15), (⟨9, 3, false, false⟩), by decide +kernel⟩,
  ⟨(on), 0, (8), (9), (.read), (false), (7), (15), (.uncorrectable), by decide +kernel⟩,
  ⟨(on |> clock 5), 0, (8), (2 ^ 31), (true), (true), (7), (15), (.none), by decide +kernel⟩,
  ⟨(on |> clock 5), 0, (8), (2 ^ 31), (false), (7), (15), (.none), by decide +kernel⟩,
  ⟨(on), 0, (0), (2 ^ 31), (.read), (false), (7), (15), (.none), by decide +kernel⟩,
  ⟨(on), 0, (0), (2 ^ 31), (.fullWrite), (false), (7), (15), (.none), by decide +kernel⟩,
  ⟨(on |> hld (fun h => { h with inFlight := [(7, [{ line := 9, write := false, key := 7, at_ := 0, core := 1, noAlloc := true, rereads := 2 }])] })), 0, (7), ([1]), ([2]), ({ line := 9, write := false, key := 7, at_ := 0, core := 1, noAlloc := true, rereads := 2 }), ([]), by decide +kernel⟩,
  ⟨(on |> hld (fun h => { h with inFlight := [(7, [{ line := 9, write := false, key := 7, at_ := 0, core := 1, noAlloc := true, rereads := 3 }])] })), 0, (7), ([1]), ([2]), ({ line := 9, write := false, key := 7, at_ := 0, core := 1, noAlloc := true, rereads := 3 }), ([]), by decide +kernel⟩,
  ⟨((ret9 false)), 0, (7), ([1]), (sideOf mac9), ((read9 false)), ([]), ⟨by decide +kernel, (side_says mac9_length).2.2, (side_says mac9_length).1.trans (mac_of_return false mac9_length).symm⟩⟩,
  ⟨((ret9 true)), 0, (7), ([1]), (sideOf mac9), ((read9 true)), ([]), ⟨by decide +kernel, (side_says mac9_length).2.2, (side_says mac9_length).1.trans (mac_of_return true mac9_length).symm, by decide +kernel⟩⟩,
  ⟨((ret9 false)), 0, (7), ([1]), (sideOf (mac9.map fun y => ~~~ y)), ((read9 false)), ([]), ⟨by decide +kernel, (side_says (by simp [mac9_length])).2.2, fun e => map_ne mac9_length (by decide) ((side_says (by simp [mac9_length])).1.symm.trans (e.trans (mac_of_return false (by simp [mac9_length])))), (side_says (by simp [mac9_length])).1.trans (congrArg (List.map _) (mac_of_return false (by simp [mac9_length])).symm)⟩⟩,
  ⟨((ret9 false)), 0, (7), ([1]), (sideOf (mac9.map fun y => y ^^^ 1)), ((read9 false)), ([]), ⟨by decide +kernel, (side_says (by simp [mac9_length])).2.2, fun e => map_ne mac9_length (by decide) ((side_says (by simp [mac9_length])).1.symm.trans (e.trans (mac_of_return false (by simp [mac9_length])))), fun e => other_ne mac9_length ((side_says (by simp [mac9_length])).1.symm.trans (e.trans (congrArg (List.map _) (mac_of_return false (by simp [mac9_length])))))⟩⟩,
  ⟨(on |> hld (fun h => { h with window := [(7, [{ line := 9, write := false, key := 7, at_ := 0, core := 1, noAlloc := true }, { line := 10, write := false, key := 6, at_ := 0, core := 1, noAlloc := true }, { line := 11, write := false, key := 5, at_ := 0, core := 1, noAlloc := true }])] })), 0, (7), ([11]), ({ line := 10, write := false, key := 6, at_ := 0, core := 1, noAlloc := true }), by decide +kernel⟩,
  ⟨(on |> hld (fun h => { h with window := [(0, [{ line := 9, write := true, key := 7, at_ := 0, core := 1, noAlloc := true }])] })), 0, (0), ([]), ({ line := 9, write := true, key := 7, at_ := 0, core := 1, noAlloc := true }), by decide +kernel⟩,
  ⟨(on), 0, (2 ^ 32 - 1), by decide +kernel⟩,
  ⟨(on |> hld (fun h => { h with inFlight := [(7, [{ line := 2 ^ 32 - 1, write := false, key := 0, at_ := 0, core := 0, noAlloc := true, sweep := true }])] })), 0, (2 ^ 32 - 1), by decide +kernel⟩,
  ⟨(on |> tme (fun t => { t with tclk := 3900 }) |> hld (fun h => { h with refreshAt := [(255, 3900)], bank := [(7, 31)] })), 0, (7), by decide +kernel⟩⟩

/-- DmaTransfers is about something: a state and operands for each of its clauses. -/
theorem witness_DmaTransfers :
  (∃ (s : State) (dt : Nat) (i : Fin 16) (c : Fin 8) (o : DmaOp),
    let u := s.elapse dt
    let x : Xfer := {
        ctx := c, pc := u.pcOf i c, queue := o.queue.toNat, desc := o.desc.toNat, bytes := (u.core i).descs.get o.desc.toNat,
        addSrc := o.addSrc.elim 0 (fun r => u.sreg i c r.toNat), addDst := o.addDst.elim 0 (fun r => u.sreg i c r.toNat),
        fix3 := o.fix3.map BitVec.toNat, fix2 := if o.fix3.isSome then o.fix2.map BitVec.toNat else none,
        launch := o.launch.map (fun r => u.sreg i c r.toNat + u.sreg i c (r.toNat + 1) * 2 ^ 32) }
    (u.itsTurn i c) ∧ (u.dmaFree i = true) ∧ (o.desc.toNat < u.fld F.LC_DESC_COUNT_count i) ∧ (o.queue.toNat / 2 = c.val) ∧ (x.legal = true) ∧ (x.fits (u.regN .LC_SPAD_SIZE i) = true)) ∧
  (∃ (s : State) (dt : Nat) (i : Fin 16) (c : Fin 8) (o : DmaOp),
    let u := s.elapse dt
    let x : Xfer := {
        ctx := c, pc := u.pcOf i c, queue := o.queue.toNat, desc := o.desc.toNat, bytes := (u.core i).descs.get o.desc.toNat,
        addSrc := o.addSrc.elim 0 (fun r => u.sreg i c r.toNat), addDst := o.addDst.elim 0 (fun r => u.sreg i c r.toNat),
        fix3 := o.fix3.map BitVec.toNat, fix2 := if o.fix3.isSome then o.fix2.map BitVec.toNat else none,
        launch := o.launch.map (fun r => u.sreg i c r.toNat + u.sreg i c (r.toNat + 1) * 2 ^ 32) }
    let range := decide (u.fld F.LC_DESC_COUNT_count i ≤ o.desc.toNat)
    let bad := decide (o.queue.toNat / 2 ≠ c.val) || !x.legal
    (u.itsTurn i c) ∧ (u.dmaFree i = true) ∧ (c.val ≠ 6) ∧ (u.fld F.LC_FAULT_code i = 0) ∧ ((range || bad || !x.fits (u.regN .LC_SPAD_SIZE i)) = true)) ∧
  (∃ (s : State) (dt : Nat) (i : Fin 16) (c : Fin 8) (o : DmaOp),
    let u := s.elapse dt
    (u.itsTurn i c) ∧ (u.dmaFree i = false)) ∧
  (∃ (s : State) (dt : Nat) (i : Fin 16) (x : Xfer) (l : List Xfer),
    let u := s.elapse dt
    let d := u.dmaQ i x.queue
    ((u.core i).dq = x :: l) ∧ (d.length < 16) ∧ (u.coreState i ≠ 4) ∧ (u.dmaStarts i x = true) ∧ ((d ++ [x]).head?.any (fun y => y.rows < y.total) = true)) ∧
  (∃ (s : State) (dt : Nat) (i : Fin 16) (write : Bool) (back : List (Fin 16 × Byte)) (q : Nat) (k : Nat) (x : Xfer) (p : Bool × Nat × Nat × Nat),
    let u := (s.elapse dt).returnSlots i (back.map fun e => (e.1.val, e.2.toNat))
    let n := 16 * i.val + q
    let need := linesOf p.2.2.1 p.2.2.2 - x.lines
    let now := min need (min (u.maxOut i q - u.regN .LC_DMAQ_OUT n) (1024 - u.engineOut i))
    (u.dmaWinner i write = some q) ∧ (u.issuing i q = some (k, x)) ∧ ((x.pieces ≠ 0 ∨ x.lines ≠ 0 ∨ u.rowFault i x x.issued = none)) ∧ (x.nextPiece = some p)) ∧
  (∃ (s : State) (dt : Nat) (i : Fin 16) (write : Bool) (back : List (Fin 16 × Byte)) (q : Nat) (k : Nat) (x : Xfer),
    let u := (s.elapse dt).returnSlots i (back.map fun e => (e.1.val, e.2.toNat))
    (u.dmaWinner i write = some q) ∧ (u.issuing i q = some (k, x)) ∧ (x.pieces = 0) ∧ (x.lines = 0) ∧ (u.rowFault i x x.issued = none) ∧ (x.nextPiece = none)) ∧
  (∃ (s : State) (dt : Nat) (i : Fin 16) (write : Bool) (back : List (Fin 16 × Byte)) (q : Nat) (k : Nat) (x : Xfer) (f : Nat × Nat × Nat),
    let u := (s.elapse dt).returnSlots i (back.map fun e => (e.1.val, e.2.toNat))
    let n := 16 * i.val + q
    (u.dmaWinner i write = some q) ∧ (u.issuing i q = some (k, x)) ∧ (x.pieces = 0) ∧ (x.lines = 0) ∧ (u.rowFault i x x.issued = some f)) ∧
  (∃ (s : State) (dt : Nat) (i : Fin 16) (q : Fin 16) (r : Word) (x : Xfer) (host : List Byte),
    let u := s.elapse dt
    let a := x.dstAt x.rows
    let b := u.rowData i x x.rows host
    let n := 16 * i.val + q.val
    (u.dmaQ i q = [x]) ∧ (r.toNat = x.rows) ∧ (x.awaits x.rows = true) ∧ (x.rows + 1 < x.total) ∧ (x.early = []) ∧ (x.unacked = []) ∧ ((x.d.srcSp = spHost → (u.fn (u.userFn i)).bme = true)) ∧ (x.d.dstSp ∈ [spSpad, spShape]) ∧ (u.rowHeld i x = false) ∧ (x.d.dstSp = spSpad)) ∧
  (∃ (s : State) (dt : Nat) (i : Fin 16) (q : Fin 16) (r : Word) (x : Xfer) (host : List Byte),
    let u := s.elapse dt
    let a := x.dstAt x.rows
    let b := u.rowData i x x.rows host
    let n := 16 * i.val + q.val
    (u.dmaQ i q = [x]) ∧ (r.toNat = x.rows) ∧ (x.awaits x.rows = true) ∧ (x.rows + 1 < x.total) ∧ (x.early = []) ∧ (x.unacked = []) ∧ ((x.d.srcSp = spHost → (u.fn (u.userFn i)).bme = true)) ∧ (x.d.dstSp ∈ [spSpad, spShape]) ∧ (u.rowHeld i x = false) ∧ (x.d.dstSp = spShape) ∧ (b.length = 4)) ∧
  (∃ (s : State) (dt : Nat) (i : Fin 16) (q : Fin 16) (r : Word) (x : Xfer) (host : List Byte),
    let u := s.elapse dt
    let a := x.dstAt x.rows
    let b := u.rowData i x x.rows host
    let runs := splitRuns (u.physRuns i x spDev a x.d.cnt0) b
    (u.dmaQ i q = [x]) ∧ (r.toNat = x.rows) ∧ (x.awaits x.rows = true) ∧ (x.rows + 1 < x.total) ∧ (x.early = []) ∧ (x.unacked = []) ∧ ((x.d.srcSp = spHost → (u.fn (u.userFn i)).bme = true)) ∧ (x.d.dstSp = spDev) ∧ ((∀ w ∈ runs, u.trainState i x w.1 = false))) ∧
  (∃ (s : State) (dt : Nat) (i : Fin 16) (q : Fin 16) (r : Word) (x : Xfer) (host : List Byte),
    let u := s.elapse dt
    let b := u.rowData i x x.rows host
    (u.dmaQ i q = [x]) ∧ (r.toNat = x.rows) ∧ (x.awaits x.rows = true) ∧ (x.rows + 1 < x.total) ∧ (x.early = []) ∧ (x.unacked = []) ∧ ((x.d.srcSp = spHost → (u.fn (u.userFn i)).bme = true)) ∧ ((x.d.dstSp = spHost ∨ x.d.dstSp = spPeer ∧ (x.toPeer.any fun p => bit (u.fld F.CHN_STATUS_present) p) = true))) ∧
  (∃ (s : State) (dt : Nat) (i : Fin 16) (q : Fin 16) (r : Word) (x : Xfer) (host : List Byte),
    let u := s.elapse dt
    let n := 16 * i.val + q.val
    (u.dmaQ i q = [x]) ∧ (x.awaits r.toNat = true) ∧ (x.faultAt = none) ∧ (u.rowHeld i x = false) ∧ (x.d.srcSp = spHost) ∧ ((u.fn (u.userFn i)).bme = false) ∧ (x.d.dstSp ≠ spHost)) ∧
  (∃ (s : State) (dt : Nat) (i : Fin 16) (q : Fin 16) (r : Word) (x : Xfer) (host : List Byte),
    let u := s.elapse dt
    let n := 16 * i.val + q.val
    (u.dmaQ i q = [x]) ∧ (r.toNat = x.rows) ∧ (x.awaits x.rows = true) ∧ (x.rows + 1 = x.total) ∧ (x.early = []) ∧ (x.unacked = []) ∧ (x.faultAt = none) ∧ ((x.d.srcSp = spHost → (u.fn (u.userFn i)).bme = true)) ∧ (x.d.dstSp = spSpad) ∧ (x.d.crc = false) ∧ (u.rowHeld i x = false)) ∧
  (∃ (s : State) (dt : Nat) (i : Fin 16) (q : Fin 16) (k : Nat) (x : Xfer),
    let u := s.elapse dt
    let n := 16 * i.val + q.val
    (u.faulted i q = some (k, x)) ∧ (u.fld F.LC_DMAF_INFO_cause n ∈ [cNotPresent, cWriteProtect]) ∧ (x.resumes < 15) ∧ (u.rowFault i x x.issued = none)) ∧
  (∃ (s : State) (dt : Nat) (i : Fin 16) (q : Fin 16) (k : Nat) (x : Xfer) (f : Nat × Nat × Nat),
    let u := s.elapse dt
    let n := 16 * i.val + q.val
    (u.faulted i q = some (k, x)) ∧ (u.fld F.LC_DMAF_INFO_cause n = cNotPresent) ∧ (x.resumes < 15) ∧ (x.notified = false) ∧ (u.rowFault i x x.issued = some f)) ∧
  (∃ (s : State) (dt : Nat) (i : Fin 16) (q : Fin 16) (x : Xfer) (cause : Nat),
    let u := s.elapse dt
    let n := 16 * i.val + q.val
    (u.dmaQ i q = [x]) ∧ (x.faultAt ≠ none) ∧ (x.rows = x.issued) ∧ (x.early = []) ∧ (x.issued < x.total) ∧ (u.fld F.LC_DMAF_INFO_cause n = cause) ∧ ((cause ≠ cNotPresent ∧ cause ≠ cWriteProtect ∨ 15 ≤ x.resumes ∨ cause = cWriteProtect ∧ u.rowFault i x x.issued ≠ none))) ∧
  (∃ (s : State) (dt : Nat) (i : Fin 16) (q : Fin 16) (a : Nat) (x : Xfer),
    let u := s.elapse dt
    let n := 16 * i.val + q.val
    (u.dmaQ i q = [x]) ∧ (x.faultAt = some a) ∧ (a + x.faultWait < u.now) ∧ (x.rows = x.issued) ∧ (x.early = []) ∧ (x.issued < x.total)) :=
  ⟨⟨(on |> flds [(F.LC_STATUS_state, 15, 3), (F.LC_CTX_STATUS_state, 121, 1)] |> (fun s => s.setRegN .LC_SPAD_SIZE 15 0x200000) |> flds [(F.LC_DESC_COUNT_count, 15, 4)] |> core 15 (fun x => { x with descs := x.descs.set 3 (leBytes 8 0x1000 ++ leBytes 8 0 ++ leBytes 4 64 ++ leBytes 2 4 ++ leBytes 2 1 ++ leBytes 2 1 ++ leBytes 2 0 ++ leBytes 1 1 ++ leBytes 3 0 ++ leBytes 4 64 ++ leBytes 28 0) })), 0, (15), (1), (⟨3, 3, some 1, none, none, none, none⟩), ⟨by unfold State.itsTurn; decide +kernel, by decide +kernel⟩⟩,
  ⟨(on |> flds [(F.LC_STATUS_state, 15, 3), (F.LC_CTX_STATUS_state, 121, 1)] |> (fun s => s.setRegN .LC_SPAD_SIZE 15 0x200000) |> flds [(F.LC_DESC_COUNT_count, 15, 3)]), 0, (15), (1), (⟨3, 3, some 1, none, none, none, none⟩), ⟨by unfold State.itsTurn; decide +kernel, by decide +kernel⟩⟩,
  ⟨(on |> flds [(F.LC_STATUS_state, 15, 3), (F.LC_CTX_STATUS_state, 121, 1)] |> (fun s => s.setRegN .LC_SPAD_SIZE 15 0x200000) |> core 15 (fun x => { x with dq := List.replicate 8 { bytes := leBytes 8 0x1000 ++ leBytes 8 0 ++ leBytes 4 64 ++ leBytes 2 4 ++ leBytes 2 1 ++ leBytes 2 1 ++ leBytes 2 0 ++ leBytes 1 1 ++ leBytes 35 0, queue := 3 } })), 0, (15), (1), (⟨3, 3, some 1, none, none, none, none⟩), ⟨by unfold State.itsTurn; decide +kernel, by decide +kernel⟩⟩,
  ⟨(on |> clock 4 |> tme (fun t => { t with tclk := 9 }) |> core 15 (fun x => { x with dq := [{ bytes := leBytes 8 0x1000 ++ leBytes 8 0 ++ leBytes 4 64 ++ leBytes 2 4 ++ leBytes 2 1 ++ leBytes 2 1 ++ leBytes 2 0 ++ leBytes 1 1 ++ leBytes 35 0, queue := 3 }] })), 0, (15), ({ bytes := leBytes 8 0x1000 ++ leBytes 8 0 ++ leBytes 4 64 ++ leBytes 2 4 ++ leBytes 2 1 ++ leBytes 2 1 ++ leBytes 2 0 ++ leBytes 1 1 ++ leBytes 35 0, queue := 3 }), ([]), by decide +kernel⟩,
  ⟨(on |> fnc 0 (fun f => { f with dev := [⟨0x1000, 0, false, true, true⟩], host := [⟨0x1000, 0, false, true, true⟩], bme := true }) |> core 15 (fun y => { y with dmaq := y.dmaq.set 3 [{ bytes := leBytes 8 0x1000 ++ leBytes 8 0 ++ leBytes 4 64 ++ leBytes 2 4 ++ leBytes 2 1 ++ leBytes 2 1 ++ leBytes 2 0 ++ leBytes 1 1 ++ leBytes 35 0, queue := 3 }] })), 0, (15), (false), ([]), (3), (0), ({ bytes := leBytes 8 0x1000 ++ leBytes 8 0 ++ leBytes 4 64 ++ leBytes 2 4 ++ leBytes 2 1 ++ leBytes 2 1 ++ leBytes 2 0 ++ leBytes 1 1 ++ leBytes 35 0, queue := 3 }), ((false, 1, 0x1000, 64)), by decide +kernel⟩,
  ⟨(on |> core 15 (fun y => { y with dmaq := y.dmaq.set 3 [{ bytes := leBytes 8 0 ++ leBytes 8 8 ++ leBytes 4 4 ++ leBytes 2 3 ++ leBytes 2 1 ++ leBytes 2 1 ++ leBytes 2 0 ++ leBytes 1 48 ++ leBytes 35 0, queue := 3 }] })), 0, (15), (true), ([]), (3), (0), ({ bytes := leBytes 8 0 ++ leBytes 8 8 ++ leBytes 4 4 ++ leBytes 2 3 ++ leBytes 2 1 ++ leBytes 2 1 ++ leBytes 2 0 ++ leBytes 1 48 ++ leBytes 35 0, queue := 3 }), by decide +kernel⟩,
  ⟨(on |> clock 9 |> core 15 (fun y => { y with dmaq := y.dmaq.set 3 [{ bytes := leBytes 8 0x1000 ++ leBytes 8 0 ++ leBytes 4 64 ++ leBytes 2 4 ++ leBytes 2 1 ++ leBytes 2 1 ++ leBytes 2 0 ++ leBytes 1 1 ++ leBytes 35 0, queue := 3 }] })), 0, (15), (false), ([]), (3), (0), ({ bytes := leBytes 8 0x1000 ++ leBytes 8 0 ++ leBytes 4 64 ++ leBytes 2 4 ++ leBytes 2 1 ++ leBytes 2 1 ++ leBytes 2 0 ++ leBytes 1 1 ++ leBytes 35 0, queue := 3 }), ((cNotPresent, 0, 0x1000)), by decide +kernel⟩,
  ⟨(on |> fnc 0 (fun f => { f with dev := [⟨0x1000, 0, false, true, true⟩], host := [⟨0x1000, 0, false, true, true⟩], bme := true }) |> core 15 (fun y => { y with dmaq := y.dmaq.set 3 [{ bytes := leBytes 8 0x1000 ++ leBytes 8 0 ++ leBytes 4 64 ++ leBytes 2 4 ++ leBytes 2 1 ++ leBytes 2 1 ++ leBytes 2 0 ++ leBytes 1 2 ++ leBytes 35 0, issued := 3, rows := 2 }] })), 0, (15), (3), (2), ({ bytes := leBytes 8 0x1000 ++ leBytes 8 0 ++ leBytes 4 64 ++ leBytes 2 4 ++ leBytes 2 1 ++ leBytes 2 1 ++ leBytes 2 0 ++ leBytes 1 2 ++ leBytes 35 0, issued := 3, rows := 2 }), (List.replicate 64 7), by decide +kernel⟩,
  ⟨(on |> core 15 (fun y => { y with dmaq := y.dmaq.set 3 [{ bytes := leBytes 8 0 ++ leBytes 8 8 ++ leBytes 4 4 ++ leBytes 2 3 ++ leBytes 2 1 ++ leBytes 2 1 ++ leBytes 2 0 ++ leBytes 1 48 ++ leBytes 35 0, queue := 3, issued := 1 }] })), 0, (15), (3), (0), ({ bytes := leBytes 8 0 ++ leBytes 8 8 ++ leBytes 4 4 ++ leBytes 2 3 ++ leBytes 2 1 ++ leBytes 2 1 ++ leBytes 2 0 ++ leBytes 1 48 ++ leBytes 35 0, queue := 3, issued := 1 }), ([]), by decide +kernel⟩,
  ⟨(on |> fnc 0 (fun f => { f with dev := [⟨0x1000, 0, false, true, true⟩], host := [⟨0x1000, 0, false, true, true⟩], bme := true }) |> core 15 (fun y => { y with dmaq := y.dmaq.set 3 [{ bytes := leBytes 8 0 ++ leBytes 8 4160 ++ leBytes 4 64 ++ leBytes 2 3 ++ leBytes 2 1 ++ leBytes 2 1 ++ leBytes 2 0 ++ leBytes 1 16 ++ leBytes 35 0, queue := 3, issued := 1 }] })), 0, (15), (3), (0), ({ bytes := leBytes 8 0 ++ leBytes 8 4160 ++ leBytes 4 64 ++ leBytes 2 3 ++ leBytes 2 1 ++ leBytes 2 1 ++ leBytes 2 0 ++ leBytes 1 16 ++ leBytes 35 0, queue := 3, issued := 1 }), ([]), by decide +kernel⟩,
  ⟨(on |> fnc 0 (fun f => { f with dev := [⟨0x1000, 0, false, true, true⟩], host := [⟨0x1000, 0, false, true, true⟩], bme := true }) |> core 15 (fun y => { y with dmaq := y.dmaq.set 3 [{ bytes := leBytes 8 0 ++ leBytes 8 4160 ++ leBytes 4 64 ++ leBytes 2 3 ++ leBytes 2 1 ++ leBytes 2 1 ++ leBytes 2 1 ++ leBytes 1 32 ++ leBytes 35 0, queue := 3, issued := 1 }] })), 0, (15), (3), (0), ({ bytes := leBytes 8 0 ++ leBytes 8 4160 ++ leBytes 4 64 ++ leBytes 2 3 ++ leBytes 2 1 ++ leBytes 2 1 ++ leBytes 2 1 ++ leBytes 1 32 ++ leBytes 35 0, queue := 3, issued := 1 }), ([]), by decide +kernel⟩,
  ⟨(on |> fnc 0 (fun f => { f with dev := [⟨0x1000, 0, false, true, true⟩], host := [⟨0x1000, 0, false, true, true⟩], bme := false }) |> core 15 (fun y => { y with dmaq := y.dmaq.set 3 [{ bytes := leBytes 8 0x1000 ++ leBytes 8 0 ++ leBytes 4 64 ++ leBytes 2 4 ++ leBytes 2 1 ++ leBytes 2 1 ++ leBytes 2 0 ++ leBytes 1 2 ++ leBytes 35 0, issued := 3, rows := 2 }] })), 0, (15), (3), (2), ({ bytes := leBytes 8 0x1000 ++ leBytes 8 0 ++ leBytes 4 64 ++ leBytes 2 4 ++ leBytes 2 1 ++ leBytes 2 1 ++ leBytes 2 0 ++ leBytes 1 2 ++ leBytes 35 0, issued := 3, rows := 2 }), ([]), by decide +kernel⟩,
  ⟨(on |> fnc 0 (fun f => { f with dev := [⟨0x1000, 0, false, true, true⟩], host := [⟨0x1000, 0, false, true, true⟩], bme := true }) |> core 15 (fun y => { y with dmaq := y.dmaq.set 3 [{ bytes := leBytes 8 0x1000 ++ leBytes 8 0 ++ leBytes 4 64 ++ leBytes 2 4 ++ leBytes 2 1 ++ leBytes 2 1 ++ leBytes 2 0 ++ leBytes 1 2 ++ leBytes 35 0, issued := 4, rows := 3 }] })), 0, (15), (3), (3), ({ bytes := leBytes 8 0x1000 ++ leBytes 8 0 ++ leBytes 4 64 ++ leBytes 2 4 ++ leBytes 2 1 ++ leBytes 2 1 ++ leBytes 2 0 ++ leBytes 1 2 ++ leBytes 35 0, issued := 4, rows := 3 }), (List.replicate 64 7), by decide +kernel⟩,
  ⟨(on |> fnc 0 (fun f => { f with dev := [⟨0x1000, 0, false, true, true⟩], host := [⟨0x1000, 0, false, true, true⟩], bme := true }) |> clock 50 |> core 15 (fun y => { y with dmaq := y.dmaq.set 3 [{ bytes := leBytes 8 0x1000 ++ leBytes 8 0 ++ leBytes 4 64 ++ leBytes 2 4 ++ leBytes 2 1 ++ leBytes 2 1 ++ leBytes 2 0 ++ leBytes 1 1 ++ leBytes 35 0, issued := 1, rows := 1, faultAt := some 10, faultWait := 100, resumes := 14 }] }) |> flds [(F.LC_DMAF_INFO_cause, 243, cNotPresent), (F.LC_DMAQ_STATUS_faulted, 243, 1)]), 0, (15), (3), (0), ({ bytes := leBytes 8 0x1000 ++ leBytes 8 0 ++ leBytes 4 64 ++ leBytes 2 4 ++ leBytes 2 1 ++ leBytes 2 1 ++ leBytes 2 0 ++ leBytes 1 1 ++ leBytes 35 0, issued := 1, rows := 1, faultAt := some 10, faultWait := 100, resumes := 14 }), by decide +kernel⟩,
  ⟨(on |> clock 50 |> core 15 (fun y => { y with dmaq := y.dmaq.set 3 [{ bytes := leBytes 8 0x1000 ++ leBytes 8 0 ++ leBytes 4 64 ++ leBytes 2 4 ++ leBytes 2 1 ++ leBytes 2 1 ++ leBytes 2 0 ++ leBytes 1 1 ++ leBytes 35 0, issued := 1, rows := 1, faultAt := some 10, faultWait := 100, resumes := 14 }] }) |> flds [(F.LC_DMAF_INFO_cause, 243, cNotPresent), (F.LC_DMAQ_STATUS_faulted, 243, 1)]), 0, (15), (3), (0), ({ bytes := leBytes 8 0x1000 ++ leBytes 8 0 ++ leBytes 4 64 ++ leBytes 2 4 ++ leBytes 2 1 ++ leBytes 2 1 ++ leBytes 2 0 ++ leBytes 1 1 ++ leBytes 35 0, issued := 1, rows := 1, faultAt := some 10, faultWait := 100, resumes := 14 }), ((cNotPresent, 0, 0x1000)), by decide +kernel⟩,
  ⟨(on |> clock 50 |> core 15 (fun y => { y with dmaq := y.dmaq.set 3 [{ bytes := leBytes 8 0x1000 ++ leBytes 8 0 ++ leBytes 4 64 ++ leBytes 2 4 ++ leBytes 2 1 ++ leBytes 2 1 ++ leBytes 2 0 ++ leBytes 1 1 ++ leBytes 35 0, issued := 1, rows := 1, faultAt := some 10, faultWait := 100, resumes := 14 }] }) |> flds [(F.LC_DMAF_INFO_cause, 243, cHostError), (F.LC_DMAQ_STATUS_faulted, 243, 1)]), 0, (15), (3), ({ bytes := leBytes 8 0x1000 ++ leBytes 8 0 ++ leBytes 4 64 ++ leBytes 2 4 ++ leBytes 2 1 ++ leBytes 2 1 ++ leBytes 2 0 ++ leBytes 1 1 ++ leBytes 35 0, issued := 1, rows := 1, faultAt := some 10, faultWait := 100, resumes := 14 }), (4), by decide +kernel⟩,
  ⟨(on |> fnc 0 (fun f => { f with dev := [⟨0x1000, 0, false, true, true⟩], host := [⟨0x1000, 0, false, true, true⟩], bme := true }) |> clock 111 |> core 15 (fun y => { y with dmaq := y.dmaq.set 3 [{ bytes := leBytes 8 0x1000 ++ leBytes 8 0 ++ leBytes 4 64 ++ leBytes 2 4 ++ leBytes 2 1 ++ leBytes 2 1 ++ leBytes 2 0 ++ leBytes 1 1 ++ leBytes 35 0, issued := 1, rows := 1, faultAt := some 10, faultWait := 100, resumes := 14 }] }) |> flds [(F.LC_DMAF_INFO_cause, 243, cNotPresent), (F.LC_DMAQ_STATUS_faulted, 243, 1)]), 0, (15), (3), (10), ({ bytes := leBytes 8 0x1000 ++ leBytes 8 0 ++ leBytes 4 64 ++ leBytes 2 4 ++ leBytes 2 1 ++ leBytes 2 1 ++ leBytes 2 0 ++ leBytes 1 1 ++ leBytes 35 0, issued := 1, rows := 1, faultAt := some 10, faultWait := 100, resumes := 14 }), by decide +kernel⟩⟩

/-- Streams is about something: a state and operands for each of its clauses. -/
theorem witness_Streams :
  (∃ (s : State) (dt : Nat) (r : CmdName) (k : Cmd),
    let u := s.elapse dt
    let n := k.cam
    let set := u.limitSet n ((u.cam n).staged.getD {})
    let rs := u.settingsReqs n set
    (u.asked (cmdRef r) 0x0101 k) ∧ (u.stream n = 0) ∧ (u.startParamsOk n = true) ∧ (u.startConflict n = false) ∧ (u.admission n = 0) ∧ ((rs = [] ∨ u.isIn (camPort n) = true ∨ u.fld F.IXL_PORT_STATUS_state (camPort n) = 4))) ∧
  (∃ (s : State) (dt : Nat) (r : CmdName) (k : Cmd),
    let u := s.elapse dt
    let n := k.cam
    let set := u.limitSet n ((u.cam n).staged.getD {})
    let rs := u.settingsReqs n set
    (u.asked (cmdRef r) 0x0101 k) ∧ (u.stream n = 0) ∧ (u.startParamsOk n = true) ∧ (u.startConflict n = false) ∧ (u.admission n = 0) ∧ ((rs = [] ∨ u.isIn (camPort n) = true ∨ u.fld F.IXL_PORT_STATUS_state (camPort n) = 4)) ∧ (u.flag F.CAM_CFG_inline n = true)) ∧
  (∃ (s : State) (dt : Nat) (r : CmdName) (k : Cmd),
    let u := s.elapse dt
    let n := k.cam
    (u.asked (cmdRef r) 0x0101 k) ∧ (u.stream n = 0) ∧ (u.startParamsOk n = true) ∧ (u.startConflict n = false) ∧ (u.admission n = 0) ∧ (u.isIn (camPort n) = false) ∧ (u.fld F.IXL_PORT_STATUS_state (camPort n) ≠ 4)) ∧
  (∃ (s : State) (dt : Nat) (r : CmdName) (k : Cmd),
    let u := s.elapse dt
    let n := k.cam
    (u.asked (cmdRef r) 0x0101 k) ∧ (u.stream n = 0) ∧ (u.startParamsOk n = true) ∧ (u.startConflict n = false) ∧ (u.admission n ≠ 0)) ∧
  (∃ (s : State) (dt : Nat) (r : CmdName) (k : Cmd),
    let u := s.elapse dt
    let n := k.cam
    (u.asked (cmdRef r) 0x0101 k) ∧ ((u.stream n ≠ 0 ∨ u.startParamsOk n = false ∨ u.startConflict n = true))) ∧
  (∃ (s : State) (dt : Nat) (r : CmdName) (k : Cmd),
    let u := s.elapse dt
    let n := k.cam
    (u.asked (cmdRef r) 0x0102 k) ∧ (bit (k.w 0) 16 = false) ∧ (u.stream n ∈ [1, 2])) ∧
  (∃ (s : State) (dt : Nat) (r : CmdName) (k : Cmd),
    let u := s.elapse dt
    let n := k.cam
    (u.asked (cmdRef r) 0x0102 k) ∧ (bit (k.w 0) 16 = true) ∧ (u.stream n ∈ [1, 2])) ∧
  (∃ (s : State) (dt : Nat) (r : CmdName) (k : Cmd) (p : StopS),
    let u := s.elapse dt
    let n := k.cam
    (u.asked (cmdRef r) 0x0102 k) ∧ (bit (k.w 0) 16 = false) ∧ (u.stream n = 3) ∧ ((u.cam n).stop = some p)) ∧
  (∃ (s : State) (dt : Nat) (r : CmdName) (k : Cmd) (p : StopS),
    let u := s.elapse dt
    let n := k.cam
    (u.asked (cmdRef r) 0x0102 k) ∧ (bit (k.w 0) 16 = true) ∧ (u.stream n = 3) ∧ ((u.cam n).stop = some p)) ∧
  (∃ (s : State) (dt : Nat) (r : CmdName) (k : Cmd),
    let u := s.elapse dt
    (u.asked (cmdRef r) 0x0102 k) ∧ (u.stream k.cam = 0) ∧ (bit (k.w 0) 16 = false)) ∧
  (∃ (s : State) (dt : Nat) (r : CmdName) (k : Cmd),
    let u := s.elapse dt
    (u.asked (cmdRef r) 0x0102 k) ∧ (u.stream k.cam = 0) ∧ (bit (k.w 0) 16 = true)) ∧
  (∃ (s : State) (dt : Nat) (n : Fin 512) (p : StopS),
    let u := s.elapse dt
    (u.stopDone n = true) ∧ ((u.cam n).stop = some p)) ∧
  (∃ (s : State) (dt : Nat) (n : Fin 512) (p : StopS) (r : CmdRef) (a : Nat) (k : Cmd),
    let u := s.elapse dt
    (u.stopDone n = true) ∧ ((u.cam n).stop = some p) ∧ (p.waiters = [(r, a)]) ∧ (u.command r = some k)) :=
  ⟨⟨(on |> flds [(F.MEM_GEOM_gib, 0, 16)] |> link 4 4 id |> flds [(F.GLB_SG_BOUNDARY_first, 0, 1), (F.IXL_SLOT_CFG_dt, 130, 0x2B), (F.CAM_GEOM_width, 130, 64), (F.CAM_GEOM_height, 130, 64), (F.CAM_PERIOD_period_us, 130, 33333), (F.CAM_NEG_CFG_count, 130, 2), (F.CAM_CFG_free_run, 130, 1), (F.CAM_OUT_RING_count, 130, 2), (F.CAM_OUT_RING_slot_pages, 130, 4), (F.CAM_TSTATE_CFG_channels, 130, 0)] |> boot (fun b => { b with pool := some (100, 32), models := b.models.set 9 (some { fn := 0, first := 0, cores := 1, encrypted := false, meas := [1, 2, 3, 4, 5, 6, 7, 8, 9, 10, 11, 12, 13, 14, 15, 16], img := { plain := [1], raw := [], size := 16, up := 1, down := 1, tChannels := 0, tFactor := false, enc := none, overlap := 0, cores := List.replicate 16 { instrs := [], layers := [], grids := [], descs := [], pads := [], dmaq := [], spad := 0 }, stages := [], head := none, pins := [], weightBase := 0, weights := [] }, sealed_ := [], pins := [], counters := [] }) }) |> cam 130 (fun c => { c with model := some 9 }) |> asks 0x0101 [130]), 0, (name5), (cmd5 0x0101 [130]), ⟨by unfold State.asked; decide +kernel, by decide +kernel, by decide +kernel, by decide +kernel, by decide +kernel, .inr (.inr (by decide +kernel))⟩⟩,
  ⟨(on |> flds [(F.MEM_GEOM_gib, 0, 16)] |> link 4 4 id |> flds [(F.GLB_SG_BOUNDARY_first, 0, 1), (F.IXL_SLOT_CFG_dt, 130, 0x2B), (F.CAM_GEOM_width, 130, 64), (F.CAM_GEOM_height, 130, 64), (F.CAM_PERIOD_period_us, 130, 33333), (F.CAM_NEG_CFG_count, 130, 2), (F.CAM_CFG_free_run, 130, 1), (F.CAM_OUT_RING_count, 130, 2), (F.CAM_OUT_RING_slot_pages, 130, 4), (F.CAM_TSTATE_CFG_channels, 130, 0), (F.CAM_CFG_inline, 130, 1)] |> boot (fun b => { b with pool := some (100, 32), models := b.models.set 9 (some { fn := 0, first := 0, cores := 1, encrypted := false, meas := [1, 2, 3, 4, 5, 6, 7, 8, 9, 10, 11, 12, 13, 14, 15, 16], img := { plain := [1], raw := [], size := 16, up := 1, down := 1, tChannels := 0, tFactor := false, enc := none, overlap := 0, cores := List.replicate 16 { instrs := [], layers := [], grids := [], descs := [], pads := [], dmaq := [], spad := 0 }, stages := [], head := none, pins := [], weightBase := 0, weights := [] }, sealed_ := [], pins := [], counters := [] }) }) |> cam 130 (fun c => { c with model := some 9 }) |> asks 0x0101 [130]), 0, (name5), (cmd5 0x0101 [130]), ⟨by unfold State.asked; decide +kernel, by decide +kernel, by decide +kernel, by decide +kernel, by decide +kernel, .inr (.inr (by decide +kernel)), by decide +kernel⟩⟩,
  ⟨(on |> flds [(F.MEM_GEOM_gib, 0, 16)] |> link 4 4 id |> flds [(F.GLB_SG_BOUNDARY_first, 0, 1), (F.IXL_SLOT_CFG_dt, 130, 0x2B), (F.CAM_GEOM_width, 130, 64), (F.CAM_GEOM_height, 130, 64), (F.CAM_PERIOD_period_us, 130, 33333), (F.CAM_NEG_CFG_count, 130, 2), (F.CAM_CFG_free_run, 130, 1), (F.CAM_OUT_RING_count, 130, 2), (F.CAM_OUT_RING_slot_pages, 130, 4), (F.CAM_TSTATE_CFG_channels, 130, 0)] |> boot (fun b => { b with pool := some (100, 32), models := b.models.set 9 (some { fn := 0, first := 0, cores := 1, encrypted := false, meas := [1, 2, 3, 4, 5, 6, 7, 8, 9, 10, 11, 12, 13, 14, 15, 16], img := { plain := [1], raw := [], size := 16, up := 1, down := 1, tChannels := 0, tFactor := false, enc := none, overlap := 0, cores := List.replicate 16 { instrs := [], layers := [], grids := [], descs := [], pads := [], dmaq := [], spad := 0 }, stages := [], head := none, pins := [], weightBase := 0, weights := [] }, sealed_ := [], pins := [], counters := [] }) }) |> cam 130 (fun c => { c with model := some 9 }) |> link 4 0 id |> asks 0x0101 [130]), 0, (name5), (cmd5 0x0101 [130]), ⟨by unfold State.asked; decide +kernel, by decide +kernel⟩⟩,
  ⟨(on |> link 4 4 id |> flds [(F.GLB_SG_BOUNDARY_first, 0, 1), (F.IXL_SLOT_CFG_dt, 130, 0x2B), (F.CAM_GEOM_width, 130, 64), (F.CAM_GEOM_height, 130, 64), (F.CAM_PERIOD_period_us, 130, 33333), (F.CAM_NEG_CFG_count, 130, 2), (F.CAM_CFG_free_run, 130, 1), (F.CAM_OUT_RING_count, 130, 2), (F.CAM_OUT_RING_slot_pages, 130, 4), (F.CAM_TSTATE_CFG_channels, 130, 0), (F.GLB_ADMIT_host_gbs, 0, 0), (F.GLB_ADMIT_mem_pct, 0, 0)] |> boot (fun b => { b with pool := some (100, 32), models := b.models.set 9 (some { fn := 0, first := 0, cores := 1, encrypted := false, meas := [1, 2, 3, 4, 5, 6, 7, 8, 9, 10, 11, 12, 13, 14, 15, 16], img := { plain := [1], raw := [], size := 16, up := 1, down := 1, tChannels := 0, tFactor := false, enc := none, overlap := 0, cores := List.replicate 16 { instrs := [], layers := [], grids := [], descs := [], pads := [], dmaq := [], spad := 0 }, stages := [], head := none, pins := [], weightBase := 0, weights := [] }, sealed_ := [], pins := [], counters := [] }) }) |> cam 130 (fun c => { c with model := some 9 }) |> asks 0x0101 [130]), 0, (name5), (cmd5 0x0101 [130]), ⟨by unfold State.asked; decide +kernel, by decide +kernel⟩⟩,
  ⟨(on |> asks 0x0101 [130]), 0, (name5), (cmd5 0x0101 [130]), ⟨by unfold State.asked; decide +kernel, by decide +kernel⟩⟩,
  ⟨(on |> flds [(F.CAM_STATUS_stream, 130, 1)] |> frm 130 3 (fun f => { f with seq := 3, st := 1 }) |> asks 0x0102 [130]), 0, (name5), (cmd5 0x0102 [130]), ⟨by unfold State.asked; decide +kernel, by decide +kernel⟩⟩,
  ⟨(on |> flds [(F.CAM_STATUS_stream, 130, 1)] |> frm 130 3 (fun f => { f with seq := 3, st := 1 }) |> asks 0x0102 [130 + 65536]), 0, (name5), (cmd5 0x0102 [130 + 65536]), ⟨by unfold State.asked; decide +kernel, by decide +kernel⟩⟩,
  ⟨(on |> flds [(F.CAM_STATUS_stream, 130, 3)] |> frm 130 3 (fun f => { f with seq := 3, st := 1 }) |> cam 130 (fun c => { c with stop := some { waiters := [(⟨0, 0, 5⟩, 3)] } }) |> asks 0x0102 [130]), 0, (name5), (cmd5 0x0102 [130]), ({ waiters := [(⟨0, 0, 5⟩, 3)] }), ⟨by unfold State.asked; decide +kernel, by decide +kernel⟩⟩,
  ⟨(on |> flds [(F.CAM_STATUS_stream, 130, 3)] |> frm 130 3 (fun f => { f with seq := 3, st := 1 }) |> cam 130 (fun c => { c with stop := some { waiters := [(⟨0, 0, 5⟩, 3)] } }) |> asks 0x0102 [130 + 65536]), 0, (name5), (cmd5 0x0102 [130 + 65536]), ({ waiters := [(⟨0, 0, 5⟩, 3)] }), ⟨by unfold State.asked; decide +kernel, by decide +kernel⟩⟩,
  ⟨(on |> asks 0x0102 [130]), 0, (name5), (cmd5 0x0102 [130]), ⟨by unfold State.asked; decide +kernel, by decide +kernel⟩⟩,
  ⟨(on |> asks 0x0102 [130 + 65536]), 0, (name5), (cmd5 0x0102 [130 + 65536]), ⟨by unfold State.asked; decide +kernel, by decide +kernel⟩⟩,
  ⟨(on |> asks 0x0102 [130] |> flds [(F.CAM_STATUS_stream, 130, 3)] |> cam 130 (fun c => { c with stop := some { waiters := [(⟨0, 0, 5⟩, 3)], closed := true } })), 0, (130), ({ waiters := [(⟨0, 0, 5⟩, 3)], closed := true }), by decide +kernel⟩,
  ⟨(on |> asks 0x0102 [130] |> flds [(F.CAM_STATUS_stream, 130, 3)] |> cam 130 (fun c => { c with stop := some { waiters := [(⟨0, 0, 5⟩, 3)], closed := true } })), 0, (130), ({ waiters := [(⟨0, 0, 5⟩, 3)], closed := true }), (⟨0, 0, 5⟩), (3), ((cmd5 0x0102 [130])), by decide +kernel⟩⟩

/-- Outputs is about something: a state and operands for each of its clauses. -/
theorem witness_Outputs :
  (∃ (s : State) (dt : Nat) (n : Fin 512) (q : Word) (k : Byte) (i : Fin 16),
    let u := s.elapse dt
    let f := u.frame n q.toNat
    let rows := f.image.get k.toNat
    (f.seq = q.toNat) ∧ (f.live = true) ∧ (u.isLast n i = true) ∧ (f.tone.length = 32 * k.toNat) ∧ (k.toNat < u.stripes n) ∧ (u.finalDone n q.toNat k.toNat = true)) ∧
  (∃ (s : State) (dt : Nat) (n : Fin 512) (q : Word) (k : Byte) (i : Fin 16),
    let u := s.elapse dt
    (u.isLast n i = false)) ∧
  (∃ (s : State) (dt : Nat) (n : Fin 512) (q : Word) (o : Byte) (i : Fin 16),
    let u := s.elapse dt
    let f := u.frame n q.toNat
    let r := f.written.get o.toNat
    (f.live = true) ∧ (u.toWrite n q.toNat o.toNat = true) ∧ (r < u.outRows n o.toNat) ∧ (u.isLast n i = true) ∧ (u.rowSourced n q.toNat o.toNat r = true) ∧ ((f.outSlot ≠ 255 ∨ u.fld F.CAM_OUT_STATUS_free n ≠ 0)) ∧ (f.noSlot = false) ∧ ((o.toNat ≤ 1 → u.waited n q.toNat ≤ 2000000)) ∧ (u.poolFits n o.toNat = true) ∧ ((u.fn (u.cam n).holder).bme = true)) ∧
  (∃ (s : State) (dt : Nat) (n : Fin 512) (q : Word) (o : Byte) (i : Fin 16),
    let u := s.elapse dt
    let f := u.frame n q.toNat
    let r := f.written.get o.toNat
    (f.live = true) ∧ (u.toWrite n q.toNat o.toNat = true) ∧ (r < u.outRows n o.toNat) ∧ (u.isLast n i = true) ∧ (u.rowSourced n q.toNat o.toNat r = true) ∧ ((f.outSlot ≠ 255 ∨ u.fld F.CAM_OUT_STATUS_free n ≠ 0)) ∧ (f.noSlot = false) ∧ ((o.toNat ≤ 1 → u.waited n q.toNat ≤ 2000000)) ∧ (u.poolFits n o.toNat = true)) ∧
  (∃ (s : State) (dt : Nat) (n : Fin 512) (q : Word) (o : Byte) (i : Fin 16),
    let u := s.elapse dt
    let f := u.frame n q.toNat
    let r := f.written.get o.toNat
    (f.live = true) ∧ (u.toWrite n q.toNat o.toNat = true) ∧ (r < u.outRows n o.toNat) ∧ (u.isLast n i = true) ∧ (u.rowSourced n q.toNat o.toNat r = true) ∧ (f.outSlot = 255) ∧ (f.noSlot = false) ∧ (u.fld F.CAM_OUT_STATUS_free n = 0)) ∧
  (∃ (s : State) (dt : Nat) (n : Fin 512) (q : Word) (o : Byte) (i : Fin 16),
    let u := s.elapse dt
    let f := u.frame n q.toNat
    let r := f.written.get o.toNat
    (f.live = true) ∧ (u.toWrite n q.toNat o.toNat = true) ∧ (r < u.outRows n o.toNat) ∧ (u.isLast n i = true) ∧ (u.rowSourced n q.toNat o.toNat r = true) ∧ ((f.outSlot ≠ 255 ∨ u.fld F.CAM_OUT_STATUS_free n ≠ 0)) ∧ (f.noSlot = false) ∧ (o.toNat ≤ 1) ∧ (u.waited n q.toNat ≤ 2000000) ∧ (u.poolFits n o.toNat = false) ∧ (f.waits = [])) ∧
  (∃ (s : State) (dt : Nat) (n : Fin 512) (q : Word) (o : Byte) (i : Fin 16),
    let u := s.elapse dt
    let f := u.frame n q.toNat
    let r := f.written.get o.toNat
    (f.live = true) ∧ (u.toWrite n q.toNat o.toNat = true) ∧ (r < u.outRows n o.toNat) ∧ (u.isLast n i = true) ∧ (u.rowSourced n q.toNat o.toNat r = true) ∧ (f.outSlot ≠ 255) ∧ (f.noSlot = false) ∧ (o.toNat ≤ 1) ∧ (2000000 < u.waited n q.toNat) ∧ (f.shed % 4 = 0)) ∧
  (∃ (s : State) (dt : Nat) (n : Fin 512) (q : Word),
    let u := s.elapse dt
    let f := u.frame n q.toNat
    (f.live = true) ∧ (f.waitFrom ≠ none) ∧ (2000000 < u.waited n q.toNat)) ∧
  (∃ (s : State) (dt : Nat) (n : Fin 512) (q : Word) (r : RowOut) (l : List RowOut),
    let u := s.elapse dt
    let f := u.frame n q.toNat
    (f.rowsOut = r :: l) ∧ (r.bound < u.now)) ∧
  (∃ (s : State) (dt : Nat) (n : Fin 512) (q : Word) (r : RowOut) (l : List RowOut),
    let u := s.elapse dt
    let f := u.frame n q.toNat
    (f.rowsOut = r :: l) ∧ ((u.modFrame n q.toNat fun y => { y with rowsOut := l }).outputsEnded n q.toNat = true) ∧ (f.hdr = false) ∧ (f.outSlot ≠ 255) ∧ (f.noSlot = false)) ∧
  (∃ (s : State) (dt : Nat) (n : Fin 512) (q : Word),
    let u := s.elapse dt
    let f := u.frame n q.toNat
    (f.seq = q.toNat) ∧ (f.live = true) ∧ (f.hdr = true)) :=
  ⟨⟨(on |> flds [(F.GLB_SG_BOUNDARY_first, 0, 1), (F.CAM_GEOM_width, 130, 64), (F.CAM_GEOM_height, 130, 80)] |> cam 130 (fun c => { c with model := some 9 }) |> frm 130 3 (fun f => { f with seq := 3, st := 2, outSlot := 0, tone := List.replicate 64 [], image := [(2, [[(1, 2, 3)]])] }) |> grp 0 (fun g => { g with counters := [(0, { handle := 9, final := true, done := [(130, 3, 2)] })] })), 0, (130), (3), (2), (15), by decide +kernel⟩,
  ⟨(on |> flds [(F.GLB_SG_BOUNDARY_first, 0, 1), (F.CAM_GEOM_width, 130, 64), (F.CAM_GEOM_height, 130, 80)] |> cam 130 (fun c => { c with model := some 9 }) |> frm 130 3 (fun f => { f with seq := 3, st := 2, outSlot := 0 })), 0, (130), (3), (2), (14), by decide +kernel⟩,
  ⟨(on |> flds [(F.GLB_SG_BOUNDARY_first, 0, 1), (F.CAM_GEOM_width, 130, 64), (F.CAM_GEOM_height, 130, 80), (F.CAM_OUT_DISP_en, 130, 1), (F.CAM_OUT_DISP_width, 130, 64), (F.CAM_OUT_DISP_height, 130, 80)] |> cam 130 (fun c => { c with model := some 9 }) |> frm 130 3 (fun f => { f with seq := 3, st := 2, outSlot := 0, tone := List.replicate 80 (List.replicate 64 (1, 2, 3)), waitFrom := some 5, waits := [0] }) |> clock 2000005 |> fnc 0 (fun f => { f with bme := true })), 0, (130), (3), (0), (15), by decide +kernel⟩,
  ⟨(on |> flds [(F.GLB_SG_BOUNDARY_first, 0, 1), (F.CAM_GEOM_width, 130, 64), (F.CAM_GEOM_height, 130, 80), (F.CAM_OUT_DISP_en, 130, 1), (F.CAM_OUT_DISP_width, 130, 64), (F.CAM_OUT_DISP_height, 130, 80), (F.CAM_OUT_STATUS_free, 130, 2), (F.CAM_OUT_STATUS_next, 130, 3), (F.CAM_OUT_RING_count, 130, 4)] |> cam 130 (fun c => { c with model := some 9 }) |> frm 130 3 (fun f => { f with seq := 3, st := 2, outSlot := 255, tone := List.replicate 80 (List.replicate 64 (1, 2, 3)) })), 0, (130), (3), (0), (15), by decide +kernel⟩,
  ⟨(on |> flds [(F.GLB_SG_BOUNDARY_first, 0, 1), (F.CAM_GEOM_width, 130, 64), (F.CAM_GEOM_height, 130, 80), (F.CAM_OUT_DISP_en, 130, 1), (F.CAM_OUT_DISP_width, 130, 64), (F.CAM_OUT_DISP_height, 130, 80)] |> cam 130 (fun c => { c with model := some 9 }) |> frm 130 3 (fun f => { f with seq := 3, st := 2, outSlot := 255, tone := List.replicate 80 (List.replicate 64 (1, 2, 3)) })), 0, (130), (3), (0), (15), by decide +kernel⟩,
  ⟨(on |> flds [(F.GLB_SG_BOUNDARY_first, 0, 1), (F.CAM_GEOM_width, 130, 64), (F.CAM_GEOM_height, 130, 80), (F.CAM_OUT_DISP_en, 130, 1), (F.CAM_OUT_DISP_width, 130, 64), (F.CAM_OUT_DISP_height, 130, 80)] |> cam 130 (fun c => { c with model := some 9 }) |> frm 130 3 (fun f => { f with seq := 3, st := 2, outSlot := 0, tone := List.replicate 80 (List.replicate 64 (1, 2, 3)), rowsOut := [⟨0, 0, 9000000, 50, false⟩] }) |> flds [(F.CAM_STATUS_stream, 130, 2)] |> clock 7), 0, (130), (3), (0), (15), by decide +kernel⟩,
  ⟨(on |> flds [(F.GLB_SG_BOUNDARY_first, 0, 1), (F.CAM_GEOM_width, 130, 64), (F.CAM_GEOM_height, 130, 80), (F.CAM_OUT_DISP_en, 130, 1), (F.CAM_OUT_DISP_width, 130, 64), (F.CAM_OUT_DISP_height, 130, 80)] |> cam 130 (fun c => { c with model := some 9 }) |> frm 130 3 (fun f => { f with seq := 3, st := 2, outSlot := 0, tone := List.replicate 80 (List.replicate 64 (1, 2, 3)), waitFrom := some 5, waits := [0] }) |> clock 2000006), 0, (130), (3), (0), (15), by decide +kernel⟩,
  ⟨(on |> flds [(F.GLB_SG_BOUNDARY_first, 0, 1), (F.CAM_GEOM_width, 130, 64), (F.CAM_GEOM_height, 130, 80), (F.CAM_OUT_DISP_en, 130, 1), (F.CAM_OUT_DISP_width, 130, 64), (F.CAM_OUT_DISP_height, 130, 80)] |> cam 130 (fun c => { c with model := some 9 }) |> frm 130 3 (fun f => { f with seq := 3, st := 2, outSlot := 0, tone := List.replicate 80 (List.replicate 64 (1, 2, 3)), waitFrom := some 5, waits := [0] }) |> clock 2000006), 0, (130), (3), by decide +kernel⟩,
  ⟨(on |> flds [(F.GLB_SG_BOUNDARY_first, 0, 1), (F.CAM_GEOM_width, 130, 64), (F.CAM_GEOM_height, 130, 80)] |> cam 130 (fun c => { c with model := some 9 }) |> frm 130 3 (fun f => { f with seq := 3, st := 2, outSlot := 0, rowsOut := [⟨0, 0, 10, 50, false⟩] }) |> clock 51), 0, (130), (3), (⟨0, 0, 10, 50, false⟩), ([]), by decide +kernel⟩,
  ⟨(on |> flds [(F.GLB_SG_BOUNDARY_first, 0, 1), (F.CAM_GEOM_width, 130, 64), (F.CAM_GEOM_height, 130, 80)] |> cam 130 (fun c => { c with model := some 9 }) |> frm 130 3 (fun f => { f with seq := 3, st := 2, outSlot := 0, rowsOut := [⟨0, 0, 10, 50, false⟩], tone := List.replicate 80 [] }) |> clock 50), 0, (130), (3), (⟨0, 0, 10, 50, false⟩), ([]), by decide +kernel⟩,
  ⟨(on |> flds [(F.GLB_SG_BOUNDARY_first, 0, 1), (F.CAM_GEOM_width, 130, 64), (F.CAM_GEOM_height, 130, 80)] |> cam 130 (fun c => { c with model := some 9 }) |> frm 130 3 (fun f => { f with seq := 3, st := 2, outSlot := 0, hdr := true })), 0, (130), (3), by decide +kernel⟩⟩

/-- ShareQueue is about something: a state and operands for each of its clauses. -/
theorem witness_ShareQueue :
  (∃ (s : State) (dt : Nat) (g : Fin 16) (w : Fin 32) (n : Fin 512) (q : Word) (k : Byte),
    let u := s.elapse dt
    (u.shareReady g w n q.toNat k.toNat = true)) ∧
  (∃ (s : State) (dt : Nat) (g : Fin 16) (w : Fin 32) (n : Fin 512) (q : Word) (k : Byte) (a : BitVec 64),
    let u := s.elapse dt
    (a.toNat ≤ u.now) ∧ (u.shareReady g w n q.toNat k.toNat = true)) ∧
  (∃ (s : State) (dt : Nat) (g : Fin 16) (w : Fin 32) (n : Fin 512) (q : Word) (k : Byte) (a : BitVec 64),
    let u := s.elapse dt
    (u.now < a.toNat)) ∧
  (∃ (s : State) (dt : Nat) (i : Fin 16) (w : Nat) (x : Nat) (h : Share),
    let u := s.elapse dt
    let g := u.groupOf i
    (u.coreState i ∈ [2, 3]) ∧ (u.fatal = false) ∧ (u.flag F.SFL_STATUS_trip = false) ∧ ((u.core i).bound = none) ∧ (u.nextShare i = some (w, h, x)) ∧ ((u.changeUser i (u.userOf i w h)).1 = true) ∧ (h.held = none)) ∧
  (∃ (s : State) (dt : Nat) (i : Fin 16) (w : Nat) (x : Nat) (h : Share),
    let u := s.elapse dt
    let g := u.groupOf i
    (u.coreState i ∈ [2, 3]) ∧ (u.fatal = false) ∧ (u.flag F.SFL_STATUS_trip = false) ∧ ((u.core i).bound = none) ∧ (u.nextShare i = some (w, h, x)) ∧ ((u.changeUser i (u.userOf i w h)).1 = true)) ∧
  (∃ (s : State) (dt : Nat) (i : Fin 16) (w : Nat) (x : Nat) (h : Share),
    let u := s.elapse dt
    (u.coreState i ∈ [2, 3]) ∧ (u.fatal = false) ∧ (u.flag F.SFL_STATUS_trip = false) ∧ ((u.core i).bound = none) ∧ (u.nextShare i = some (w, h, x)) ∧ ((u.core i).userClear = none) ∧ ((u.core i).user ≠ u.userOf i w h)) ∧
  (∃ (s : State) (dt : Nat) (i : Fin 16) (b : BoundS),
    let u := s.elapse dt
    (u.coreState i ∈ [2, 3]) ∧ (u.fatal = false) ∧ (u.flag F.SFL_STATUS_trip = false) ∧ ((u.core i).bound = some b) ∧ (u.stageDone i = true) ∧ ((u.leaveStripe i b).nextShare i = none) ∧ (u.ctxState i 6 = 0) ∧ (u.ctxState i 7 = 0)) ∧
  (∃ (s : State) (dt : Nat) (i : Fin 16) (b : BoundS) (w : Nat) (x : Nat) (h : Share),
    let u := s.elapse dt
    (u.coreState i ∈ [2, 3]) ∧ (u.fatal = false) ∧ (u.flag F.SFL_STATUS_trip = false) ∧ ((u.core i).bound = some b) ∧ (u.stageDone i = true) ∧ ((u.leaveStripe i b).nextShare i = some (w, h, x)) ∧ ((u.core i).userClear = none) ∧ ((u.core i).user = (u.leaveStripe i b).userOf i w h)) ∧
  (∃ (s : State) (dt : Nat) (i : Fin 16),
    let u := s.elapse dt
    ((u.core i).bound ≠ none) ∧ (u.stageDone i = false)) :=
  ⟨⟨(on |> flds [(F.GLB_SG_BOUNDARY_first, 0, 1), (F.HLD_WC_CFG_active, 31, 1), (F.CAM_GEOM_width, 130, 64), (F.CAM_GEOM_height, 130, 80), (F.CAM_SEQ_seq, 130, 4)] |> cam 130 (fun c => { c with model := some 9 }) |> frm 130 3 (fun f => { f with seq := 3, st := 1, rows := 40 }) |> grp 0 (fun g => { g with counters := [(31, { handle := 9 })] })), 0, (0), (31), (130), (3), (0), by decide +kernel⟩,
  ⟨(on |> flds [(F.GLB_SG_BOUNDARY_first, 0, 1), (F.HLD_WC_CFG_active, 31, 1), (F.CAM_GEOM_width, 130, 64), (F.CAM_GEOM_height, 130, 80), (F.CAM_SEQ_seq, 130, 4)] |> cam 130 (fun c => { c with model := some 9 }) |> frm 130 3 (fun f => { f with seq := 3, st := 1, rows := 40 }) |> grp 0 (fun g => { g with counters := [(31, { handle := 9 })] }) |> clock 7), 0, (0), (31), (130), (3), (0), (7), by decide +kernel⟩,
  ⟨(on |> flds [(F.GLB_SG_BOUNDARY_first, 0, 1), (F.HLD_WC_CFG_active, 31, 1), (F.CAM_GEOM_width, 130, 64), (F.CAM_GEOM_height, 130, 80), (F.CAM_SEQ_seq, 130, 4)] |> cam 130 (fun c => { c with model := some 9 }) |> frm 130 3 (fun f => { f with seq := 3, st := 1, rows := 40 }) |> grp 0 (fun g => { g with counters := [(31, { handle := 9 })] }) |> clock 7), 0, (0), (31), (130), (3), (0), (8), by decide +kernel⟩,
  ⟨(on |> flds [(F.GLB_SG_BOUNDARY_first, 0, 1), (F.LC_STATUS_state, 1, 2), (F.LC_CTX_STATUS_state, 10, 0)] |> grp 0 (fun g => { g with counters := [(31, { handle := 9, cores := [1], shares := [⟨130, 3, 1, 5, 2, 1000, false, 0, none, false⟩] })] })), 0, (1), (31), (0), (⟨130, 3, 1, 5, 2, 1000, false, 0, none, false⟩), by decide +kernel⟩,
  ⟨(on |> flds [(F.GLB_SG_BOUNDARY_first, 0, 1), (F.LC_STATUS_state, 1, 2), (F.LC_CTX_STATUS_state, 10, 0)] |> grp 0 (fun g => { g with counters := [(31, { handle := 9, cores := [1], shares := [⟨130, 3, 1, 5, 2, 1000, false, 0, some (1, 9), false⟩] })] })), 0, (1), (31), (0), (⟨130, 3, 1, 5, 2, 1000, false, 0, some (1, 9), false⟩), by decide +kernel⟩,
  ⟨(on |> flds [(F.GLB_SG_BOUNDARY_first, 0, 1), (F.LC_STATUS_state, 1, 2), (F.LC_CTX_STATUS_state, 10, 0)] |> core 1 (fun x => { x with user := { fn := 3, handle := none } }) |> grp 0 (fun g => { g with counters := [(31, { handle := 9, cores := [1], shares := [⟨130, 3, 1, 5, 2, 1000, false, 0, none, false⟩] })] })), 0, (1), (31), (0), (⟨130, 3, 1, 5, 2, 1000, false, 0, none, false⟩), by decide +kernel⟩,
  ⟨(on |> flds [(F.GLB_SG_BOUNDARY_first, 0, 1), (F.LC_STATUS_state, 1, 3), (F.LC_CTX_STATUS_state, 10, 0)] |> core 1 (fun x => { x with bound := some ⟨130, 3, 1, 31, 5, 2, 1000, false, 0, 0, true, false, none⟩ })), 0, (1), (⟨130, 3, 1, 31, 5, 2, 1000, false, 0, 0, true, false, none⟩), by decide +kernel⟩,
  ⟨(on |> flds [(F.GLB_SG_BOUNDARY_first, 0, 1), (F.LC_STATUS_state, 1, 3), (F.LC_CTX_STATUS_state, 10, 0)] |> core 1 (fun x => { x with bound := some ⟨130, 3, 1, 31, 5, 2, 1000, false, 0, 0, true, false, none⟩ }) |> grp 0 (fun g => { g with counters := [(31, { handle := 9, cores := [1], shares := [⟨130, 3, 1, 5, 2, 1000, false, 0, none, false⟩] })] })), 0, (1), (⟨130, 3, 1, 31, 5, 2, 1000, false, 0, 0, true, false, none⟩), (31), (0), (⟨130, 3, 1, 5, 2, 1000, false, 0, none, false⟩), by decide +kernel⟩,
  ⟨(on |> flds [(F.GLB_SG_BOUNDARY_first, 0, 1), (F.LC_STATUS_state, 1, 3), (F.LC_CTX_STATUS_state, 10, 0)] |> core 1 (fun x => { x with bound := some ⟨130, 3, 1, 31, 5, 2, 1000, false, 0, 0, false, false, none⟩ }) |> grp 0 (fun g => { g with counters := [(31, { handle := 9, cores := [1], shares := [⟨130, 3, 1, 5, 2, 1000, false, 0, some (1, 50), false⟩] })] })), 0, (1), by decide +kernel⟩⟩

/-- ShareInstructions is about something: a state and operands for each of its clauses. -/
theorem witness_ShareInstructions :
  (∃ (s : State) (dt : Nat) (i : Fin 16) (c : Fin 8) (w : Fin 32) (h : Share),
    let u := s.elapse dt
    let g := u.groupOf i
    (u.itsTurn i c) ∧ (u.headShare i w = some h) ∧ (((u.core i).bound ≠ none ∨ c.val < 6))) ∧
  (∃ (s : State) (dt : Nat) (i : Fin 16) (c : Fin 8) (w : Fin 32) (h : Share),
    let u := s.elapse dt
    (u.itsTurn i c) ∧ (u.headShare i w = some h) ∧ ((u.core i).bound = none) ∧ (6 ≤ c.val) ∧ ((u.core i).user = u.userOf i w h)) ∧
  (∃ (s : State) (dt : Nat) (i : Fin 16) (c : Fin 8) (w : Fin 32),
    let u := s.elapse dt
    (u.itsTurn i c) ∧ (u.headShare i w = none) ∧ (u.drawnNow (u.groupOf i) w = false)) ∧
  (∃ (s : State) (dt : Nat) (i : Fin 16) (c : Fin 8) (w : Fin 32),
    let u := s.elapse dt
    (u.drawnNow (u.groupOf i) w = true)) ∧
  (∃ (s : State) (dt : Nat) (i : Fin 16) (o : CommitOp) (h : Share),
    let u := s.elapse dt
    let g := u.groupOf i
    (u.itsTurn i o.ctx) ∧ ((u.counter g o.w).shares.find? (fun y => y.idx == o.idx.toNat && y.gen == o.gen.toNat && y.held.isSome) = some h) ∧ (h.training = false)) ∧
  (∃ (s : State) (dt : Nat) (i : Fin 16) (o : CommitOp),
    let u := s.elapse dt
    let g := u.groupOf i
    let r := 32 * g + o.w.val
    (u.itsTurn i o.ctx) ∧ (((u.counter g o.w).shares.any fun y => y.idx == o.idx.toNat && y.gen == o.gen.toNat && y.held.isSome) = false)) :=
  ⟨⟨(on |> flds [(F.GLB_SG_BOUNDARY_first, 0, 1), (F.LC_STATUS_state, 1, 3), (F.LC_CTX_STATUS_state, 10, 1)] |> grp 0 (fun g => { g with counters := [(31, { handle := 9, cores := [1], shares := [⟨130, 3, 1, 5, 2, 1000, false, 0, none, false⟩] })] })), 0, (1), (2), (31), (⟨130, 3, 1, 5, 2, 1000, false, 0, none, false⟩), ⟨by unfold State.itsTurn; decide +kernel, by decide +kernel⟩⟩,
  ⟨(on |> flds [(F.GLB_SG_BOUNDARY_first, 0, 1), (F.LC_STATUS_state, 1, 2), (F.LC_CTX_STATUS_state, 10, 0)] |> flds [(F.LC_CTX_STATUS_state, 14, 1)] |> grp 0 (fun g => { g with counters := [(31, { handle := 9, cores := [1], shares := [⟨130, 3, 1, 5, 2, 1000, false, 0, none, false⟩] })] })), 0, (1), (6), (31), (⟨130, 3, 1, 5, 2, 1000, false, 0, none, false⟩), ⟨by unfold State.itsTurn; decide +kernel, by decide +kernel⟩⟩,
  ⟨(on |> flds [(F.GLB_SG_BOUNDARY_first, 0, 1), (F.LC_STATUS_state, 1, 3), (F.LC_CTX_STATUS_state, 10, 1)]), 0, (1), (2), (31), ⟨by unfold State.itsTurn; decide +kernel, by decide +kernel⟩⟩,
  ⟨(on |> flds [(F.GLB_SG_BOUNDARY_first, 0, 1), (F.LC_STATUS_state, 1, 3), (F.LC_CTX_STATUS_state, 10, 1)] |> grp 0 (fun g => { g with counters := [(31, { handle := 9, cores := [1], shares := [⟨130, 3, 1, 5, 2, 1000, false, 0, none, false⟩], drawAt := some 0 })] })), 0, (1), (2), (31), by decide +kernel⟩,
  ⟨(on |> flds [(F.GLB_SG_BOUNDARY_first, 0, 1), (F.LC_STATUS_state, 1, 3), (F.LC_CTX_STATUS_state, 10, 1)] |> grp 0 (fun g => { g with counters := [(31, { handle := 9, cores := [1], shares := [⟨130, 3, 1, 5, 2, 1000, false, 0, some (1, 50), false⟩] })] }) |> core 1 (fun x => { x with bound := some ⟨130, 3, 1, 31, 5, 2, 1000, false, 0, 0, false, false, none⟩ })), 0, (1), (⟨2, 31, 5, 2⟩), (⟨130, 3, 1, 5, 2, 1000, false, 0, some (1, 50), false⟩), ⟨by unfold State.itsTurn; decide +kernel, by decide +kernel⟩⟩,
  ⟨(on |> flds [(F.GLB_SG_BOUNDARY_first, 0, 1), (F.LC_STATUS_state, 1, 3), (F.LC_CTX_STATUS_state, 10, 1)] |> grp 0 (fun g => { g with counters := [(31, { handle := 9, cores := [1], shares := [⟨130, 3, 1, 5, 2, 1000, false, 0, some (1, 50), false⟩] })] }) |> core 1 (fun x => { x with bound := some ⟨130, 3, 1, 31, 5, 2, 1000, false, 0, 0, true, false, none⟩ })), 0, (1), (⟨2, 31, 5, 1⟩), ⟨by unfold State.itsTurn; decide +kernel, by decide +kernel⟩⟩⟩

/-- LeasesAndRestores is about something: a state and operands for each of its clauses. -/
theorem witness_LeasesAndRestores :
  (∃ (s : State) (dt : Nat) (i : Fin 16) (w : Fin 32),
    let u := s.elapse dt
    let g := u.groupOf i
    (u.present i = true) ∧ (u.coreState i ≠ 4) ∧ ((u.core i).renewAt + 700 ≤ u.aclk)) ∧
  (∃ (s : State) (dt : Nat) (i : Fin 16),
    let u := s.elapse dt
    ((u.present i = false ∨ u.coreState i = 4 ∨ u.aclk < (u.core i).renewAt + 700))) ∧
  (∃ (s : State) (dt : Nat) (g : Fin 16) (w : Fin 32) (idx : Word) (h : Share),
    let u := s.elapse dt
    let r := 32 * g.val + w.val
    let rest := (u.counter g w).shares.filter fun y => y.idx != idx.toNat
    ((u.counter g w).shares.find? (fun y => y.idx == idx.toNat && y.held.any fun e => decide (e.2 < u.now)) = some h) ∧ (u.withdrawn h = false)) ∧
  (∃ (s : State) (dt : Nat) (g : Fin 16) (w : Fin 32) (idx : Word) (h : Share),
    let u := s.elapse dt
    let r := 32 * g.val + w.val
    let rest := (u.counter g w).shares.filter fun y => y.idx != idx.toNat
    ((u.counter g w).shares.find? (fun y => y.idx == idx.toNat && y.held.any fun e => decide (e.2 < u.now)) = some h)) ∧
  (∃ (s : State) (dt : Nat) (g : Fin 16) (w : Fin 32) (idx : Word),
    let u := s.elapse dt
    (((u.counter g w).shares.any fun y => y.idx == idx.toNat && y.held.any fun e => decide (e.2 < u.now)) = false)) ∧
  (∃ (s : State) (dt : Nat) (i : Fin 16),
    let u := s.elapse dt
    ((u.core i).restoring = true) ∧ (u.flag F.SFL_STATUS_trip = false) ∧ (u.coreState i = 4)) ∧
  (∃ (s : State) (dt : Nat) (i : Fin 16),
    let u := s.elapse dt
    ((u.core i).restoring = true) ∧ (u.flag F.SFL_STATUS_trip = false) ∧ (u.coreState i ≠ 4) ∧ ((u.core i).clearAt = none)) ∧
  (∃ (s : State) (dt : Nat) (i : Fin 16) (a : Nat),
    let u := s.elapse dt
    ((u.core i).restoring = true) ∧ (u.flag F.SFL_STATUS_trip = false) ∧ (u.coreState i ≠ 4) ∧ ((u.core i).clearAt = some a) ∧ (a ≤ u.aclk) ∧ ((u.core i).rerun = none)) ∧
  (∃ (s : State) (dt : Nat) (i : Fin 16) (a : Nat),
    let u := s.elapse dt
    ((u.core i).restoring = true) ∧ (u.coreState i ≠ 4) ∧ ((u.core i).clearAt = some a) ∧ (u.aclk < a)) :=
  ⟨⟨(on |> flds [(F.GLB_SG_BOUNDARY_first, 0, 1), (F.LC_STATUS_state, 1, 2), (F.LC_CTX_STATUS_state, 10, 1)] |> clock 10 |> tme (fun t => { t with tclk := 1000 }) |> flds [(F.HLD_WC_CFG_lease_us, 31, 3)] |> grp 0 (fun g => { g with counters := [(31, { handle := 9, cores := [1], shares := [⟨130, 3, 1, 5, 2, 1000, false, 0, some (1, 50), false⟩] })] })), 0, (1), (31), by decide +kernel⟩,
  ⟨(on |> flds [(F.GLB_SG_BOUNDARY_first, 0, 1), (F.LC_STATUS_state, 1, 2), (F.LC_CTX_STATUS_state, 10, 1)] |> tme (fun t => { t with tclk := 999 }) |> grp 0 (fun g => { g with counters := [(31, { handle := 9, cores := [1], shares := [⟨130, 3, 1, 5, 2, 1000, false, 0, some (1, 50), false⟩] })] })), 0, (1), by decide +kernel⟩,
  ⟨(on |> flds [(F.GLB_SG_BOUNDARY_first, 0, 1), (F.LC_STATUS_state, 1, 2), (F.LC_CTX_STATUS_state, 10, 1)] |> flds [(F.CAM_STATUS_stream, 130, 2)] |> clock 51 |> grp 0 (fun g => { g with counters := [(31, { handle := 9, cores := [1], shares := [⟨130, 3, 1, 5, 2, 1000, false, 0, some (1, 50), false⟩] })] })), 0, (0), (31), (5), (⟨130, 3, 1, 5, 2, 1000, false, 0, some (1, 50), false⟩), by decide +kernel⟩,
  ⟨(on |> flds [(F.GLB_SG_BOUNDARY_first, 0, 1), (F.LC_STATUS_state, 1, 2), (F.LC_CTX_STATUS_state, 10, 1)] |> clock 51 |> grp 0 (fun g => { g with counters := [(31, { handle := 9, cores := [1], shares := [⟨130, 3, 1, 5, 2, 1000, false, 0, some (1, 50), false⟩] })] })), 0, (0), (31), (5), (⟨130, 3, 1, 5, 2, 1000, false, 0, some (1, 50), false⟩), by decide +kernel⟩,
  ⟨(on |> flds [(F.GLB_SG_BOUNDARY_first, 0, 1), (F.LC_STATUS_state, 1, 2), (F.LC_CTX_STATUS_state, 10, 1)] |> flds [(F.CAM_STATUS_stream, 130, 2)] |> clock 50 |> grp 0 (fun g => { g with counters := [(31, { handle := 9, cores := [1], shares := [⟨130, 3, 1, 5, 2, 1000, false, 0, some (1, 50), false⟩] })] })), 0, (0), (31), (5), by decide +kernel⟩,
  ⟨(on |> asks 0x0705 [1 + 256] |> flds [(F.LC_STATUS_state, 1, 4)] |> core 1 (fun x => { x with restoring := true, resetBy := some ⟨0, 0, 5⟩ }) |> boot (fun b => { b with unit := some (1, 1, ⟨0, 0, 5⟩, 0) })), 0, (1), by decide +kernel⟩,
  ⟨(on |> asks 0x0705 [1 + 256] |> core 1 (fun x => { x with restoring := true, resetBy := some ⟨0, 0, 5⟩ }) |> boot (fun b => { b with unit := some (1, 1, ⟨0, 0, 5⟩, 0) })), 0, (1), by decide +kernel⟩,
  ⟨(on |> asks 0x0705 [1 + 256] |> core 1 (fun x => { x with restoring := true, clearAt := some 0, resetBy := some ⟨0, 0, 5⟩ }) |> boot (fun b => { b with unit := some (1, 1, ⟨0, 0, 5⟩, 0) })), 0, (1), (0), by decide +kernel⟩,
  ⟨(on |> asks 0x0705 [1 + 256] |> core 1 (fun x => { x with restoring := true, clearAt := some 9, resetBy := some ⟨0, 0, 5⟩ }) |> boot (fun b => { b with unit := some (1, 1, ⟨0, 0, 5⟩, 0) })), 0, (1), (9), by decide +kernel⟩⟩

/-- ArrayUnit is about something: a state and operands for each of its clauses. -/
theorem witness_ArrayUnit :
  (∃ (s : State) (dt : Nat) (i : Fin 16) (c : Fin 8) (o : TileOp),
    let u := s.elapse dt
    let x := tileOf o
    let d := dutyStart (u.core i).duty (u.fld F.SFL_GOV_duty_cap) (u.core i).dutyAt (max (u.coreCycle i + 2) ((u.core i).aDone + 1))
    (u.itsTurn i c) ∧ (u.arrayFree i = true) ∧ (tileFault x.m x.k x.n x.fa x.fb x.fo = none) ∧ (u.tileChecks i x = none)) ∧
  (∃ (s : State) (dt : Nat) (i : Fin 16) (c : Fin 8) (o : TileOp) (code : Nat),
    let u := s.elapse dt
    let x := tileOf o
    (u.itsTurn i c) ∧ (u.arrayFree i = true) ∧ (c.val ≠ 6) ∧ (u.fld F.LC_FAULT_code i = 0) ∧ ((match tileFault x.m x.k x.n x.fa x.fb x.fo with | some e => some e | none => u.tileChecks i x) = some code)) ∧
  (∃ (s : State) (dt : Nat) (i : Fin 16) (c : Fin 8) (o : TileOp),
    let u := s.elapse dt
    (u.itsTurn i c) ∧ (u.arrayFree i = false)) ∧
  (∃ (s : State) (dt : Nat) (i : Fin 16) (e : AEntry) (l : List AEntry) (x : Tile),
    let u := s.elapse dt
    let w := x.write (u.core i).seen (e.start + wheelAlign e.start) (u.padOf i x.pad) (u.core i).rescale (u.layer i x.record)
    ((u.core i).aq = e :: l) ∧ (e.complete ≤ u.coreCycle i) ∧ (u.coreState i ≠ 4) ∧ (e.job = .tile x) ∧ (x.grid = none)) ∧
  (∃ (s : State) (dt : Nat) (i : Fin 16) (e : AEntry) (l : List AEntry) (src : Nat) (e0 : Nat) (n : Nat) (k : Nat),
    let u := s.elapse dt
    let w0 := e.start + wheelAlign e.start
    ((u.core i).aq = e :: l) ∧ (e.complete ≤ u.coreCycle i) ∧ (u.coreState i ≠ 4) ∧ (e.job = .load src e0 n) ∧ (k < n)) ∧
  (∃ (s : State) (dt : Nat) (i : Fin 16) (e : AEntry) (l : List AEntry) (r : Nat),
    let u := s.elapse dt
    ((u.core i).aq = e :: l) ∧ (e.complete ≤ u.coreCycle i) ∧ (u.coreState i ≠ 4) ∧ (e.job = .emptyGrid r)) ∧
  (∃ (s : State) (dt : Nat) (i : Fin 16) (e : AEntry) (l : List AEntry) (x : Tile) (ij : Nat × Nat) (g : GridS),
    let u := s.elapse dt
    ((u.core i).aq = e :: l) ∧ (e.complete ≤ u.coreCycle i) ∧ (u.coreState i ≠ 4) ∧ (e.job = .tile x) ∧ (x.grid = some ij) ∧ ((u.ctx i e.ctx).grids = [g]) ∧ (g.pc = e.pc) ∧ (g.todo = []) ∧ (g.issued = g.done + 1)) ∧
  (∃ (s : State) (dt : Nat) (i : Fin 16) (c : Fin 8) (src : Word) (e : BitVec 10) (n : BitVec 11),
    let u := s.elapse dt
    let d := dutyStart (u.core i).duty (u.fld F.SFL_GOV_duty_cap) (u.core i).dutyAt (max (u.coreCycle i + 2) ((u.core i).aDone + 1))
    (u.itsTurn i c) ∧ (u.arrayFree i = true) ∧ (aligned [src.toNat] = true) ∧ (u.spadFits i src.toNat (8 * n.toNat) = true) ∧ (e.toNat + n.toNat ≤ 1024)) ∧
  (∃ (s : State) (dt : Nat) (i : Fin 16) (c : Fin 8) (src : Word) (e : BitVec 10) (n : BitVec 11),
    let u := s.elapse dt
    let al := aligned [src.toNat]
    let fit := u.spadFits i src.toNat (8 * n.toNat)
    (u.itsTurn i c) ∧ (u.arrayFree i = true) ∧ (c.val ≠ 6) ∧ (u.fld F.LC_FAULT_code i = 0) ∧ ((al = false ∨ fit = false ∨ 1024 < e.toNat + n.toNat))) ∧
  (∃ (s : State) (dt : Nat) (i : Fin 16) (c : Fin 8) (gi : Byte) (p : BitVec 16) (r : BitVec 5),
    let u := s.elapse dt
    let g := gridOf ((u.core i).grids.get gi.toNat)
    let m := u.gridBound i c g.mSrc g.mIdx g.mPlan
    let n := u.gridBound i c g.nSrc g.nIdx g.nPlan
    let a := max (u.coreCycle i + 2) ((u.core i).aDone + 1)
    (u.itsTurn i c) ∧ (u.arrayFree i = true) ∧ (g.fault = none) ∧ (m ≤ g.mPlan) ∧ (n ≤ g.nPlan) ∧ (g.order m n = [])) ∧
  (∃ (s : State) (dt : Nat) (i : Fin 16) (c : Fin 8) (gi : Byte) (p : BitVec 16) (r : BitVec 5),
    let u := s.elapse dt
    let g := gridOf ((u.core i).grids.get gi.toNat)
    let m := u.gridBound i c g.mSrc g.mIdx g.mPlan
    let n := u.gridBound i c g.nSrc g.nIdx g.nPlan
    (u.itsTurn i c) ∧ (u.arrayFree i = true) ∧ (g.fault = none) ∧ (m ≤ g.mPlan) ∧ (n ≤ g.nPlan) ∧ (g.order m n ≠ [])) ∧
  (∃ (s : State) (dt : Nat) (i : Fin 16) (c : Fin 8) (gi : Byte) (p : BitVec 16) (r : BitVec 5),
    let u := s.elapse dt
    let g := gridOf ((u.core i).grids.get gi.toNat)
    let m := u.gridBound i c g.mSrc g.mIdx g.mPlan
    let n := u.gridBound i c g.nSrc g.nIdx g.nPlan
    (u.itsTurn i c) ∧ (u.arrayFree i = true) ∧ (c.val ≠ 6) ∧ (u.fld F.LC_FAULT_code i = 0) ∧ ((g.fault ≠ none ∨ g.mPlan < m ∨ g.nPlan < n))) ∧
  (∃ (s : State) (dt : Nat) (i : Fin 16) (c : Fin 8) (g : GridS) (gs : List GridS) (ij : Nat × Nat) (rest : List (Nat × Nat)),
    let u := s.elapse dt
    let r := gridOf ((u.core i).grids.get g.g)
    let x := r.tile g.p g.mRt g.nRt g.turn ij
    let d := dutyStart (u.core i).duty (u.fld F.SFL_GOV_duty_cap) (u.core i).dutyAt (max (u.coreCycle i + 2) ((u.core i).aDone + 1))
    ((u.ctx i c).grids = g :: gs) ∧ (g.todo = ij :: rest) ∧ (u.tileTurn i c g r x ij = true) ∧ (u.gridFault i c g.pc r x ij = none)) ∧
  (∃ (s : State) (dt : Nat) (i : Fin 16) (c : Fin 8) (g : GridS) (gs : List GridS) (ij : Nat × Nat) (rest : List (Nat × Nat)) (code : Nat),
    let u := s.elapse dt
    let r := gridOf ((u.core i).grids.get g.g)
    let x := r.tile g.p g.mRt g.nRt g.turn ij
    ((u.ctx i c).grids = g :: gs) ∧ (g.todo = ij :: rest) ∧ (u.tileTurn i c g r x ij = true) ∧ (u.gridFault i c g.pc r x ij = some code) ∧ (c.val ≠ 6) ∧ (u.fld F.LC_FAULT_code i = 0)) :=
  ⟨⟨(on |> flds [(F.LC_STATUS_state, 15, 3), (F.LC_CTX_STATUS_state, 121, 1)] |> (fun s => s.setRegN .LC_SPAD_SIZE 15 0x200000) |> flds [(F.GLB_SG_BOUNDARY_first, 0, 1), (F.SFL_GOV_duty_cap, 0, 256), (F.LC_CTX_STATUS_pc, 121, 4095)]), 0, (15), (1), (⟨64, 128, 96, 3, 3, 3, false, 0, 0, 0, 0, 0, 0, 0, 0, 0x4000, 0x8000⟩), ⟨by unfold State.itsTurn; decide +kernel, by decide +kernel⟩⟩,
  ⟨(on |> flds [(F.LC_STATUS_state, 15, 3), (F.LC_CTX_STATUS_state, 121, 1)] |> (fun s => s.setRegN .LC_SPAD_SIZE 15 0x200000) |> flds [(F.GLB_SG_BOUNDARY_first, 0, 1), (F.SFL_GOV_duty_cap, 0, 256), (F.LC_CTX_STATUS_pc, 121, 4095)]), 0, (15), (1), (⟨2048, 128, 96, 3, 3, 3, false, 0, 0, 0, 0, 0, 0, 0, 0, 0x4000, 0x8000⟩), (5), ⟨by unfold State.itsTurn; decide +kernel, by decide +kernel⟩⟩,
  ⟨(on |> flds [(F.LC_STATUS_state, 15, 3), (F.LC_CTX_STATUS_state, 121, 1)] |> (fun s => s.setRegN .LC_SPAD_SIZE 15 0x200000) |> flds [(F.GLB_SG_BOUNDARY_first, 0, 1), (F.SFL_GOV_duty_cap, 0, 256), (F.LC_CTX_STATUS_pc, 121, 4095)] |> core 15 (fun x => { x with aq := List.replicate 4 ⟨1, 7, 0, 40, .emptyGrid 0⟩ })), 0, (15), (1), (⟨64, 128, 96, 3, 3, 3, false, 0, 0, 0, 0, 0, 0, 0, 0, 0x4000, 0x8000⟩), ⟨by unfold State.itsTurn; decide +kernel, by decide +kernel⟩⟩,
  ⟨(on |> flds [(F.LC_STATUS_state, 15, 3), (F.LC_CTX_STATUS_state, 121, 1)] |> (fun s => s.setRegN .LC_SPAD_SIZE 15 0x200000) |> flds [(F.GLB_SG_BOUNDARY_first, 0, 1), (F.SFL_GOV_duty_cap, 0, 256), (F.LC_CTX_STATUS_pc, 121, 4095)] |> tme (fun t => { t with tclk := 1000 }) |> core 15 (fun x => { x with aq := [⟨1, 7, 0, 40, .tile (tileOf ⟨32, 128, 96, 3, 3, 3, false, 0, 0, 0, 0, 0, 0, 0, 0, 0x4000, 0x8000⟩)⟩], spad := [(0, 1), (0x4000, 3), (0x800, 5), (0x810, 6)] })), 0, (15), (⟨1, 7, 0, 40, .tile (tileOf ⟨32, 128, 96, 3, 3, 3, false, 0, 0, 0, 0, 0, 0, 0, 0, 0x4000, 0x8000⟩)⟩), ([]), (tileOf ⟨32, 128, 96, 3, 3, 3, false, 0, 0, 0, 0, 0, 0, 0, 0, 0x4000, 0x8000⟩), by decide +kernel⟩,
  ⟨(on |> flds [(F.LC_STATUS_state, 15, 3), (F.LC_CTX_STATUS_state, 121, 1)] |> (fun s => s.setRegN .LC_SPAD_SIZE 15 0x200000) |> flds [(F.GLB_SG_BOUNDARY_first, 0, 1), (F.SFL_GOV_duty_cap, 0, 256), (F.LC_CTX_STATUS_pc, 121, 4095)] |> tme (fun t => { t with tclk := 1000 }) |> core 15 (fun x => { x with aq := [⟨1, 7, 0, 40, .load 0x800 1021 3⟩], spad := [(0, 1), (0x4000, 3), (0x800, 5), (0x810, 6)] })), 0, (15), (⟨1, 7, 0, 40, .load 0x800 1021 3⟩), ([]), (0x800), (1021), (3), (2), by decide +kernel⟩,
  ⟨(on |> flds [(F.LC_STATUS_state, 15, 3), (F.LC_CTX_STATUS_state, 121, 1)] |> (fun s => s.setRegN .LC_SPAD_SIZE 15 0x200000) |> flds [(F.GLB_SG_BOUNDARY_first, 0, 1), (F.SFL_GOV_duty_cap, 0, 256), (F.LC_CTX_STATUS_pc, 121, 4095)] |> tme (fun t => { t with tclk := 1000 }) |> core 15 (fun x => { x with aq := [⟨1, 7, 0, 40, .emptyGrid 31⟩], spad := [(0, 1), (0x4000, 3), (0x800, 5), (0x810, 6)] })), 0, (15), (⟨1, 7, 0, 40, .emptyGrid 31⟩), ([]), (31), by decide +kernel⟩,
  ⟨(on |> flds [(F.LC_STATUS_state, 15, 3), (F.LC_CTX_STATUS_state, 121, 1)] |> (fun s => s.setRegN .LC_SPAD_SIZE 15 0x200000) |> flds [(F.GLB_SG_BOUNDARY_first, 0, 1), (F.SFL_GOV_duty_cap, 0, 256), (F.LC_CTX_STATUS_pc, 121, 4095)] |> tme (fun t => { t with tclk := 1000 }) |> core 15 (fun x => { x with aq := [⟨1, 7, 0, 40, .tile ({ tileOf ⟨32, 128, 96, 3, 3, 3, false, 0, 0, 0, 0, 0, 0, 0, 0, 0x4000, 0x8000⟩ with grid := some (0, 0) })⟩], spad := [(0, 1), (0x4000, 3), (0x800, 5), (0x810, 6)] }) |> (fun s => s.modCtx 15 1 fun x => { x with grids := [⟨7, 127, 0, 31, 96, 192, [], 3, 2, 0, 0, 0⟩] })), 0, (15), (⟨1, 7, 0, 40, .tile ({ tileOf ⟨32, 128, 96, 3, 3, 3, false, 0, 0, 0, 0, 0, 0, 0, 0, 0x4000, 0x8000⟩ with grid := some (0, 0) })⟩), ([]), ({ tileOf ⟨32, 128, 96, 3, 3, 3, false, 0, 0, 0, 0, 0, 0, 0, 0, 0x4000, 0x8000⟩ with grid := some (0, 0) }), ((0, 0)), (⟨7, 127, 0, 31, 96, 192, [], 3, 2, 0, 0, 0⟩), by decide +kernel⟩,
  ⟨(on |> flds [(F.LC_STATUS_state, 15, 3), (F.LC_CTX_STATUS_state, 121, 1)] |> (fun s => s.setRegN .LC_SPAD_SIZE 15 0x200000) |> flds [(F.GLB_SG_BOUNDARY_first, 0, 1), (F.SFL_GOV_duty_cap, 0, 256), (F.LC_CTX_STATUS_pc, 121, 4095)]), 0, (15), (1), (0x800), (1000), (24), ⟨by unfold State.itsTurn; decide +kernel, by decide +kernel⟩⟩,
  ⟨(on |> flds [(F.LC_STATUS_state, 15, 3), (F.LC_CTX_STATUS_state, 121, 1)] |> (fun s => s.setRegN .LC_SPAD_SIZE 15 0x200000) |> flds [(F.GLB_SG_BOUNDARY_first, 0, 1), (F.SFL_GOV_duty_cap, 0, 256), (F.LC_CTX_STATUS_pc, 121, 4095)]), 0, (15), (1), (0x800), (1000), (25), ⟨by unfold State.itsTurn; decide +kernel, by decide +kernel⟩⟩,
  ⟨(on |> flds [(F.LC_STATUS_state, 15, 3), (F.LC_CTX_STATUS_state, 121, 1)] |> (fun s => s.setRegN .LC_SPAD_SIZE 15 0x200000) |> flds [(F.GLB_SG_BOUNDARY_first, 0, 1), (F.SFL_GOV_duty_cap, 0, 256), (F.LC_CTX_STATUS_pc, 121, 4095)] |> core 15 (fun x => { x with grids := x.grids.set 127 (leBytes 2 (1 + 4) ++ leBytes 2 0 ++ leBytes 4 96 ++ leBytes 2 64 ++ leBytes 2 128 ++ leBytes 2 96 ++ leBytes 2 192 ++ leBytes 1 0x33 ++ leBytes 1 3 ++ leBytes 10 0 ++ leBytes 6 0xFFFFFFFFFFFF ++ leBytes 30 0) })), 0, (15), (1), (127), (255), (31), ⟨by unfold State.itsTurn; decide +kernel, by decide +kernel⟩⟩,
  ⟨(on |> flds [(F.LC_STATUS_state, 15, 3), (F.LC_CTX_STATUS_state, 121, 1)] |> (fun s => s.setRegN .LC_SPAD_SIZE 15 0x200000) |> flds [(F.GLB_SG_BOUNDARY_first, 0, 1), (F.SFL_GOV_duty_cap, 0, 256), (F.LC_CTX_STATUS_pc, 121, 4095)] |> core 15 (fun x => { x with grids := x.grids.set 127 (leBytes 2 (1 + 0) ++ leBytes 2 0 ++ leBytes 4 96 ++ leBytes 2 64 ++ leBytes 2 128 ++ leBytes 2 96 ++ leBytes 2 192 ++ leBytes 1 0x33 ++ leBytes 1 3 ++ leBytes 10 0 ++ leBytes 6 0xFFFFFFFFFFFF ++ leBytes 30 0) })), 0, (15), (1), (127), (255), (31), ⟨by unfold State.itsTurn; decide +kernel, by decide +kernel⟩⟩,
  ⟨(on |> flds [(F.LC_STATUS_state, 15, 3), (F.LC_CTX_STATUS_state, 121, 1)] |> (fun s => s.setRegN .LC_SPAD_SIZE 15 0x200000) |> flds [(F.GLB_SG_BOUNDARY_first, 0, 1), (F.SFL_GOV_duty_cap, 0, 256), (F.LC_CTX_STATUS_pc, 121, 4095)] |> core 15 (fun x => { x with grids := x.grids.set 127 (leBytes 2 (1 + 12) ++ leBytes 2 0 ++ leBytes 4 96 ++ leBytes 2 64 ++ leBytes 2 128 ++ leBytes 2 96 ++ leBytes 2 192 ++ leBytes 1 0x33 ++ leBytes 1 3 ++ leBytes 10 0 ++ leBytes 6 0xFFFFFFFFFFFF ++ leBytes 30 0) })), 0, (15), (1), (127), (255), (31), ⟨by unfold State.itsTurn; decide +kernel, by decide +kernel⟩⟩,
  ⟨(on |> flds [(F.LC_STATUS_state, 15, 3), (F.LC_CTX_STATUS_state, 121, 1)] |> (fun s => s.setRegN .LC_SPAD_SIZE 15 0x200000) |> flds [(F.GLB_SG_BOUNDARY_first, 0, 1), (F.SFL_GOV_duty_cap, 0, 256), (F.LC_CTX_STATUS_pc, 121, 4095)] |> core 15 (fun x => { x with grids := x.grids.set 127 (leBytes 2 (1 + 0) ++ leBytes 2 0 ++ leBytes 4 96 ++ leBytes 2 64 ++ leBytes 2 128 ++ leBytes 2 96 ++ leBytes 2 192 ++ leBytes 1 0x33 ++ leBytes 1 3 ++ leBytes 10 0 ++ leBytes 6 0xFFFFFFFFFFFF ++ leBytes 30 0) }) |> flds [(F.LC_CTX_STATUS_state, 121, 2)] |> (fun s => s.modCtx 15 1 fun x => { x with grids := [⟨7, 127, 0, 31, 96, 192, [(0, 0), (1, 0)], 0, 0, 0, 0, 0⟩], wait := .own 7 })), 0, (15), (1), (⟨7, 127, 0, 31, 96, 192, [(0, 0), (1, 0)], 0, 0, 0, 0, 0⟩), ([]), ((0, 0)), ([(1, 0)]), by decide +kernel⟩,
  ⟨(on |> flds [(F.LC_STATUS_state, 15, 3), (F.LC_CTX_STATUS_state, 121, 1)] |> (fun s => s.setRegN .LC_SPAD_SIZE 15 0x200000) |> flds [(F.GLB_SG_BOUNDARY_first, 0, 1), (F.SFL_GOV_duty_cap, 0, 256), (F.LC_CTX_STATUS_pc, 121, 4095)] |> core 15 (fun x => { x with grids := x.grids.set 127 (leBytes 2 (1 + 0) ++ leBytes 2 0 ++ leBytes 4 96 ++ leBytes 2 64 ++ leBytes 2 128 ++ leBytes 2 96 ++ leBytes 2 192 ++ leBytes 1 0x33 ++ leBytes 1 3 ++ leBytes 10 0 ++ leBytes 6 0xFFFFFFFFFFFF ++ leBytes 30 0) }) |> flds [(F.LC_CTX_STATUS_state, 121, 2)] |> (fun s => s.modCtx 15 1 fun x => { x with grids := [⟨7, 127, 0, 31, 96, 192, [(0, 0), (1, 0)], 0, 0, 0, 0, 0⟩], wait := .own 7 }) |> (fun s => s.setRegN .LC_SPAD_SIZE 15 0x100)), 0, (15), (1), (⟨7, 127, 0, 31, 96, 192, [(0, 0), (1, 0)], 0, 0, 0, 0, 0⟩), ([]), ((0, 0)), ([(1, 0)]), (fSpadRange), by decide +kernel⟩⟩

/-- VectorUnit is about something: a state and operands for each of its clauses. -/
theorem witness_VectorUnit :
  (∃ (s : State) (dt : Nat) (i : Fin 16) (c : Fin 8) (f : VFun) (srcs : List VSrc) (dst : VDst) (n : BitVec 16) (rec_ : Option Byte),
    let u := s.elapse dt
    let rs := srcRanges srcs (64 * vInBytes f * n.toNat)
    let out := 64 * vOutBytes f * n.toNat
    let a := startCycle (u.coreCycle i) (u.core i).vDone
    (u.itsTurn i c) ∧ (u.vectorFree i = true) ∧ (u.vectorChecks i rs.length (rs ++ dstRanges dst out) = none)) ∧
  (∃ (s : State) (dt : Nat) (i : Fin 16) (c : Fin 8) (f : VFun) (srcs : List VSrc) (dst : VDst) (n : BitVec 16) (rec_ : Option Byte) (code : Nat),
    let u := s.elapse dt
    let rs := srcRanges srcs (64 * vInBytes f * n.toNat)
    let out := 64 * vOutBytes f * n.toNat
    (u.itsTurn i c) ∧ (u.vectorFree i = true) ∧ (c.val ≠ 6) ∧ (u.fld F.LC_FAULT_code i = 0) ∧ (u.vectorChecks i rs.length (rs ++ dstRanges dst out) = some code)) ∧
  (∃ (s : State) (dt : Nat) (i : Fin 16) (c : Fin 8) (o : ConvertOp),
    let u := s.elapse dt
    let rs := srcRanges [o.from_] (elemBytes o.src.toNat o.count.toNat)
    let out := elemBytes o.dst.toNat o.count.toNat
    let a := startCycle (u.coreCycle i) (u.core i).vDone
    (u.itsTurn i c) ∧ (u.vectorFree i = true) ∧ (convertible o.src.toNat o.dst.toNat = true) ∧ (u.vectorChecks i rs.length (rs ++ dstRanges o.to_ out) = none)) ∧
  (∃ (s : State) (dt : Nat) (i : Fin 16) (c : Fin 8) (o : ConvertOp),
    let u := s.elapse dt
    (u.itsTurn i c) ∧ (u.vectorFree i = true) ∧ (c.val ≠ 6) ∧ (u.fld F.LC_FAULT_code i = 0) ∧ (convertible o.src.toNat o.dst.toNat = false)) ∧
  (∃ (s : State) (dt : Nat) (i : Fin 16) (c : Fin 8) (f : VFold) (src : VSrc) (dst : VDst) (n : BitVec 16),
    let u := s.elapse dt
    let rs := srcRanges [src] (256 * n.toNat)
    let a := startCycle (u.coreCycle i) (u.core i).vDone
    (u.itsTurn i c) ∧ (u.vectorFree i = true) ∧ (u.vectorChecks i rs.length (rs ++ dstRanges dst 256) = none)) ∧
  (∃ (s : State) (dt : Nat) (i : Fin 16) (e : VEntry) (l : List VEntry) (f : VFun) (srcs : List VSrc) (dst : VDst) (n : Nat) (rec_ : Option Nat),
    let u := s.elapse dt
    let r := opLanes (u.core i).seen (u.padOf i) (u.core i).vregs (e.start + wheelAlign e.start) f srcs n
    let y := (u.core i).putLanes (e.complete - 8) dst (laneFmt (vOutBytes f)) (r.map (·.1))
    ((u.core i).vq = e :: l) ∧ (e.complete ≤ u.coreCycle i) ∧ (u.coreState i ≠ 4) ∧ (e.job = .op f srcs dst n rec_)) ∧
  (∃ (s : State) (dt : Nat) (i : Fin 16) (e : VEntry) (l : List VEntry) (a : Nat) (b : Nat) (fa : Fmt) (fb : Fmt) (ovf : Bool) (sc : Nat) (src : VSrc) (dst : VDst) (k : Nat) (r : Nat),
    let u := s.elapse dt
    let v := convertLanes (u.core i).seen (u.padOf i) (u.core i).vregs (e.start + wheelAlign e.start) fa fb ovf sc src k
    let y := (u.core i).putLanes (e.complete - 8) dst fb (v.map (·.1))
    ((u.core i).vq = e :: l) ∧ (e.complete ≤ u.coreCycle i) ∧ (u.coreState i ≠ 4) ∧ (e.job = .convert a b ovf sc src dst k r) ∧ (fmtOf a = some fa) ∧ (fmtOf b = some fb)) ∧
  (∃ (s : State) (dt : Nat) (i : Fin 16) (e : VEntry) (l : List VEntry) (f : VFold) (src : VSrc) (dst : VDst) (n : Nat),
    let u := s.elapse dt
    let v := foldLanes (u.core i).seen (u.padOf i) (u.core i).vregs (e.start + wheelAlign e.start) f src n
    let y := (u.core i).putLanes (e.complete - 8) dst .int32 v
    ((u.core i).vq = e :: l) ∧ (e.complete ≤ u.coreCycle i) ∧ (u.coreState i ≠ 4) ∧ (e.job = .fold f src dst n)) :=
  ⟨⟨(on |> flds [(F.LC_STATUS_state, 15, 3), (F.LC_CTX_STATUS_state, 121, 1)] |> (fun s => s.setRegN .LC_SPAD_SIZE 15 0x200000) |> flds [(F.GLB_SG_BOUNDARY_first, 0, 1), (F.SFL_GOV_duty_cap, 0, 256), (F.LC_CTX_STATUS_pc, 121, 4095)]), 0, (15), (1), (.fadd), ([.spad 0 none, .vreg 3]), (.spad 0x1000), (8), (some 5), ⟨by unfold State.itsTurn; decide +kernel, by decide +kernel⟩⟩,
  ⟨(on |> flds [(F.LC_STATUS_state, 15, 3), (F.LC_CTX_STATUS_state, 121, 1)] |> (fun s => s.setRegN .LC_SPAD_SIZE 15 0x200000) |> flds [(F.GLB_SG_BOUNDARY_first, 0, 1), (F.SFL_GOV_duty_cap, 0, 256), (F.LC_CTX_STATUS_pc, 121, 4095)]), 0, (15), (1), (.fadd), ([.spad 3 none, .vreg 3]), (.spad 0x1000), (8), (none), (fAlign), ⟨by unfold State.itsTurn; decide +kernel, by decide +kernel⟩⟩,
  ⟨(on |> flds [(F.LC_STATUS_state, 15, 3), (F.LC_CTX_STATUS_state, 121, 1)] |> (fun s => s.setRegN .LC_SPAD_SIZE 15 0x200000) |> flds [(F.GLB_SG_BOUNDARY_first, 0, 1), (F.SFL_GOV_duty_cap, 0, 256), (F.LC_CTX_STATUS_pc, 121, 4095)]), 0, (15), (1), (⟨10, 8, true, 0, .spad 0x1000 none, .spad 0x2000, 64, 3⟩), ⟨by unfold State.itsTurn; decide +kernel, by decide +kernel⟩⟩,
  ⟨(on |> flds [(F.LC_STATUS_state, 15, 3), (F.LC_CTX_STATUS_state, 121, 1)] |> (fun s => s.setRegN .LC_SPAD_SIZE 15 0x200000) |> flds [(F.GLB_SG_BOUNDARY_first, 0, 1), (F.SFL_GOV_duty_cap, 0, 256), (F.LC_CTX_STATUS_pc, 121, 4095)]), 0, (15), (1), (⟨15, 8, true, 0, .spad 0x1000 none, .spad 0x2000, 64, 3⟩), ⟨by unfold State.itsTurn; decide +kernel, by decide +kernel⟩⟩,
  ⟨(on |> flds [(F.LC_STATUS_state, 15, 3), (F.LC_CTX_STATUS_state, 121, 1)] |> (fun s => s.setRegN .LC_SPAD_SIZE 15 0x200000) |> flds [(F.GLB_SG_BOUNDARY_first, 0, 1), (F.SFL_GOV_duty_cap, 0, 256), (F.LC_CTX_STATUS_pc, 121, 4095)]), 0, (15), (1), (.fmax), (.spad 0x1000 none), (.vreg 31), (2), ⟨by unfold State.itsTurn; decide +kernel, by decide +kernel⟩⟩,
  ⟨(on |> flds [(F.LC_STATUS_state, 15, 3), (F.LC_CTX_STATUS_state, 121, 1)] |> (fun s => s.setRegN .LC_SPAD_SIZE 15 0x200000) |> flds [(F.GLB_SG_BOUNDARY_first, 0, 1), (F.SFL_GOV_duty_cap, 0, 256), (F.LC_CTX_STATUS_pc, 121, 4095)] |> tme (fun t => { t with tclk := 1000 }) |> core 15 (fun x => { x with vq := [⟨1, 7, 0, 40, .op .iadd [.spad 0x1000 none, .vreg 3] (.spad 0x2000) 1 (some 5)⟩], spad := [(0x1000, 9)] })), 0, (15), (⟨1, 7, 0, 40, .op .iadd [.spad 0x1000 none, .vreg 3] (.spad 0x2000) 1 (some 5)⟩), ([]), (.iadd), ([.spad 0x1000 none, .vreg 3]), (.spad 0x2000), (1), (some 5), by decide +kernel⟩,
  ⟨(on |> flds [(F.LC_STATUS_state, 15, 3), (F.LC_CTX_STATUS_state, 121, 1)] |> (fun s => s.setRegN .LC_SPAD_SIZE 15 0x200000) |> flds [(F.GLB_SG_BOUNDARY_first, 0, 1), (F.SFL_GOV_duty_cap, 0, 256), (F.LC_CTX_STATUS_pc, 121, 4095)] |> tme (fun t => { t with tclk := 1000 }) |> core 15 (fun x => { x with vq := [⟨1, 7, 0, 40, .convert 3 8 true 0x3F800000 (.spad 0x1000 none) (.spad 0x2000) 3 9⟩], spad := [(0x1000, 9)] })), 0, (15), (⟨1, 7, 0, 40, .convert 3 8 true 0x3F800000 (.spad 0x1000 none) (.spad 0x2000) 3 9⟩), ([]), (3), (8), (((fmtOf 3).getD .int8)), (((fmtOf 8).getD .int8)), (true), (0x3F800000), (.spad 0x1000 none), (.spad 0x2000), (3), (9), by decide +kernel⟩,
  ⟨(on |> flds [(F.LC_STATUS_state, 15, 3), (F.LC_CTX_STATUS_state, 121, 1)] |> (fun s => s.setRegN .LC_SPAD_SIZE 15 0x200000) |> flds [(F.GLB_SG_BOUNDARY_first, 0, 1), (F.SFL_GOV_duty_cap, 0, 256), (F.LC_CTX_STATUS_pc, 121, 4095)] |> tme (fun t => { t with tclk := 1000 }) |> core 15 (fun x => { x with vq := [⟨1, 7, 0, 40, .fold .iadd (.spad 0x1000 none) (.spad 0x2000) 1⟩], spad := [(0x1000, 9)] })), 0, (15), (⟨1, 7, 0, 40, .fold .iadd (.spad 0x1000 none) (.spad 0x2000) 1⟩), ([]), (.iadd), (.spad 0x1000 none), (.spad 0x2000), (1), by decide +kernel⟩⟩

/-- WaitsAndBarriers is about something: a state and operands for each of its clauses. -/
theorem witness_WaitsAndBarriers :
  (∃ (s : State) (dt : Nat) (i : Fin 16) (c : Fin 8) (k : Byte) (b : BoundS),
    let u := s.elapse dt
    let ret := (u.ctx i c).retake
    (u.itsTurn i c) ∧ ((u.core i).bound = some b) ∧ (b.training = false) ∧ (ret.map (·.1) ≠ some k.toNat) ∧ (u.rchkOutcome i k.toNat b = some .LC_CNT_RETAKE)) ∧
  (∃ (s : State) (dt : Nat) (i : Fin 16) (c : Fin 8) (k : Byte) (b : BoundS),
    let u := s.elapse dt
    let ret := (u.ctx i c).retake
    (u.itsTurn i c) ∧ ((u.core i).bound = some b) ∧ (b.training = false) ∧ (ret.map (·.1) ≠ some k.toNat) ∧ (u.rchkOutcome i k.toNat b = none)) ∧
  (∃ (s : State) (dt : Nat) (i : Fin 16) (c : Fin 8) (k : Byte) (b : BoundS),
    let u := s.elapse dt
    let ret := (u.ctx i c).retake
    (u.itsTurn i c) ∧ ((u.core i).bound = some b) ∧ (b.training = false)) ∧
  (∃ (s : State) (dt : Nat) (i : Fin 16) (c : Fin 8) (k : Byte) (b : BoundS),
    let u := s.elapse dt
    let ret := (u.ctx i c).retake
    (u.itsTurn i c) ∧ ((u.core i).bound = some b) ∧ (b.training = false) ∧ (ret.map (·.1) = some k.toNat)) ∧
  (∃ (s : State) (dt : Nat) (i : Fin 16) (c : Fin 8) (k : Byte),
    let u := s.elapse dt
    (u.itsTurn i c) ∧ (((u.core i).bound.all fun b => b.training) = true)) ∧
  (∃ (s : State) (dt : Nat) (i : Fin 16) (c : Fin 8) (pc : BitVec 12),
    let u := s.elapse dt
    let o := u.outstanding i c pc.toNat
    (u.itsTurn i c)) ∧
  (∃ (s : State) (dt : Nat) (i : Fin 16) (c : Fin 8) (pc : BitVec 12),
    let u := s.elapse dt
    let o := u.outstanding i c pc.toNat
    (u.itsTurn i c) ∧ (o = true)) ∧
  (∃ (s : State) (dt : Nat) (i : Fin 16) (c : Fin 8) (second : Bool) (v : BitVec 32),
    let u := s.elapse dt
    let q := 2 * c.val + b2n second
    (u.itsTurn i c)) ∧
  (∃ (s : State) (dt : Nat) (i : Fin 16) (c : Fin 8) (second : Bool) (v : BitVec 32),
    let u := s.elapse dt
    let q := 2 * c.val + b2n second
    (u.itsTurn i c) ∧ (u.rowsReached i q v.toNat = false)) ∧
  (∃ (s : State) (dt : Nat) (i : Fin 16) (c : Fin 8),
    let u := s.elapse dt
    let g := u.groupOf i
    let all := decide ((u.group g).groupMembers.length ≤ (u.group g).groupArrived.length + 1)
    (u.itsTurn i c) ∧ (i.val ∈ (u.group g).groupMembers) ∧ (i.val ∉ (u.group g).groupArrived) ∧ (u.writesBefore i c (u.core i).serial = false)) ∧
  (∃ (s : State) (dt : Nat) (i : Fin 16),
    let u := s.elapse dt
    let all := decide (u.devMembers.length ≤ u.devArrived.length + 1)
    (u.itsTurn i 7) ∧ (i.val ∈ u.devMembers) ∧ (i.val ∉ u.devArrived) ∧ (u.writesBefore i 7 (u.core i).serial = false)) ∧
  (∃ (s : State) (dt : Nat) (i : Fin 16) (c : Fin 8) (b : BarScope),
    let u := s.elapse dt
    let g := u.groupOf i
    (u.itsTurn i c) ∧ ((b = .group ∨ b = .device ∧ c.val = 7)) ∧ (u.writesBefore i c (u.core i).serial = true)) ∧
  (∃ (s : State) (dt : Nat) (i : Fin 16) (c : Fin 8) (b : BarScope) (phase : Nat),
    let u := s.elapse dt
    (u.itsTurn i c) ∧ ((b ≠ .device ∨ c.val = 7)) ∧ (u.barPhase i b < phase)) ∧
  (∃ (s : State) (dt : Nat) (i : Fin 16) (c : Fin 8) (b : BarScope) (phase : Nat),
    let u := s.elapse dt
    (u.itsTurn i c) ∧ ((b ≠ .device ∨ c.val = 7))) ∧
  (∃ (s : State) (dt : Nat) (i : Fin 16) (c : Fin 8) (b : BarScope) (phase : Nat),
    let u := s.elapse dt
    (c.val ≠ 6) ∧ ((u.ctx i c).wait = .barrier b phase) ∧ (u.ctxState i c = 2) ∧ ((u.ctx i c).since + 10000000 < u.now) ∧ (u.fld F.LC_FAULT_code i = 0)) ∧
  (∃ (s : State) (dt : Nat) (i : Fin 16) (c : Fin 8) (b : BarScope) (phase : Nat),
    let u := s.elapse dt
    ((u.ctx i c).wait = .barrier b phase) ∧ (u.now ≤ (u.ctx i c).since + 10000000)) ∧
  (∃ (s : State) (dt : Nat) (i : Fin 16) (c : Fin 8) (pc : BitVec 12),
    let u := s.elapse dt
    ((u.coreState i = 2 ∨ u.coreState i = 3))) ∧
  (∃ (s : State) (dt : Nat) (i : Fin 16) (c : Fin 8) (pc : BitVec 12),
    let u := s.elapse dt
    ((u.coreState i = 2 ∨ u.coreState i = 3)) ∧ (c.val ≠ 6) ∧ (u.fld F.LC_FAULT_code i = 0)) :=
  ⟨⟨(on |> flds [(F.LC_STATUS_state, 15, 3), (F.LC_CTX_STATUS_state, 121, 1)] |> (fun s => s.setRegN .LC_SPAD_SIZE 15 0x200000) |> flds [(F.GLB_SG_BOUNDARY_first, 0, 1), (F.SFL_GOV_duty_cap, 0, 256), (F.LC_CTX_STATUS_pc, 121, 4095)] |> core 15 (fun x => { x with layers := x.layers.set 255 (leBytes 5 (2 ^ 38) ++ leBytes 7 0 ++ leBytes 4 100 ++ leBytes 4 5 ++ leBytes 4 5 ++ leBytes 2 0x123 ++ leBytes 6 0), counts := x.counts.set 255 ⟨1000, 1000, 0⟩, bound := some ⟨130, 3, 1, 31, 5, 2, 250010, false, 1, 3, false, false, none⟩ })), 0, (15), (1), (255), (⟨130, 3, 1, 31, 5, 2, 250010, false, 1, 3, false, false, none⟩), ⟨by unfold State.itsTurn; decide +kernel, by decide +kernel⟩⟩,
  ⟨(on |> flds [(F.LC_STATUS_state, 15, 3), (F.LC_CTX_STATUS_state, 121, 1)] |> (fun s => s.setRegN .LC_SPAD_SIZE 15 0x200000) |> flds [(F.GLB_SG_BOUNDARY_first, 0, 1), (F.SFL_GOV_duty_cap, 0, 256), (F.LC_CTX_STATUS_pc, 121, 4095)] |> core 15 (fun x => { x with layers := x.layers.set 255 (leBytes 5 (2 ^ 38) ++ leBytes 7 0 ++ leBytes 4 100 ++ leBytes 4 5 ++ leBytes 4 5 ++ leBytes 2 0x123 ++ leBytes 6 0), counts := x.counts.set 255 ⟨0, 1000, 0⟩, bound := some ⟨130, 3, 1, 31, 5, 2, 250010, false, 1, 3, false, false, none⟩ })), 0, (15), (1), (255), (⟨130, 3, 1, 31, 5, 2, 250010, false, 1, 3, false, false, none⟩), ⟨by unfold State.itsTurn; decide +kernel, by decide +kernel⟩⟩,
  ⟨(on |> flds [(F.LC_STATUS_state, 15, 3), (F.LC_CTX_STATUS_state, 121, 1)] |> (fun s => s.setRegN .LC_SPAD_SIZE 15 0x200000) |> flds [(F.GLB_SG_BOUNDARY_first, 0, 1), (F.SFL_GOV_duty_cap, 0, 256), (F.LC_CTX_STATUS_pc, 121, 4095)] |> core 15 (fun x => { x with layers := x.layers.set 255 (leBytes 5 (2 ^ 38) ++ leBytes 7 0 ++ leBytes 4 100 ++ leBytes 4 5 ++ leBytes 4 5 ++ leBytes 2 0x123 ++ leBytes 6 0), counts := x.counts.set 255 ⟨1000, 1000, 0⟩, bound := some ⟨130, 3, 1, 31, 5, 2, 0, false, 1, 3, false, false, none⟩ })), 0, (15), (1), (255), (⟨130, 3, 1, 31, 5, 2, 0, false, 1, 3, false, false, none⟩), ⟨by unfold State.itsTurn; decide +kernel, by decide +kernel⟩⟩,
  ⟨(on |> flds [(F.LC_STATUS_state, 15, 3), (F.LC_CTX_STATUS_state, 121, 1)] |> (fun s => s.setRegN .LC_SPAD_SIZE 15 0x200000) |> flds [(F.GLB_SG_BOUNDARY_first, 0, 1), (F.SFL_GOV_duty_cap, 0, 256), (F.LC_CTX_STATUS_pc, 121, 4095)] |> core 15 (fun x => { x with layers := x.layers.set 255 (leBytes 5 (2 ^ 38) ++ leBytes 7 0 ++ leBytes 4 100 ++ leBytes 4 5 ++ leBytes 4 5 ++ leBytes 2 0x123 ++ leBytes 6 0), counts := x.counts.set 255 ⟨1000, 1000, 0⟩, bound := some ⟨130, 3, 1, 31, 5, 2, 250010, false, 1, 3, false, false, none⟩ }) |> (fun s => s.modCtx 15 1 fun x => { x with retake := some (255, 9) })), 0, (15), (1), (255), (⟨130, 3, 1, 31, 5, 2, 250010, false, 1, 3, false, false, none⟩), ⟨by unfold State.itsTurn; decide +kernel, by decide +kernel⟩⟩,
  ⟨(on |> flds [(F.LC_STATUS_state, 15, 3), (F.LC_CTX_STATUS_state, 121, 1)] |> (fun s => s.setRegN .LC_SPAD_SIZE 15 0x200000) |> flds [(F.GLB_SG_BOUNDARY_first, 0, 1), (F.SFL_GOV_duty_cap, 0, 256), (F.LC_CTX_STATUS_pc, 121, 4095)] |> core 15 (fun x => { x with layers := x.layers.set 255 (leBytes 5 (2 ^ 38) ++ leBytes 7 0 ++ leBytes 4 100 ++ leBytes 4 5 ++ leBytes 4 5 ++ leBytes 2 0x123 ++ leBytes 6 0), counts := x.counts.set 255 ⟨1000, 1000, 0⟩, bound := some ⟨130, 3, 1, 31, 5, 2, 250010, false, 1, 3, false, true, none⟩ })), 0, (15), (1), (255), ⟨by unfold State.itsTurn; decide +kernel, by decide +kernel⟩⟩,
  ⟨(on |> flds [(F.LC_STATUS_state, 15, 3), (F.LC_CTX_STATUS_state, 121, 1)] |> (fun s => s.setRegN .LC_SPAD_SIZE 15 0x200000) |> flds [(F.GLB_SG_BOUNDARY_first, 0, 1), (F.SFL_GOV_duty_cap, 0, 256), (F.LC_CTX_STATUS_pc, 121, 4095)]), 0, (15), (1), (4095), by unfold State.itsTurn; decide +kernel⟩,
  ⟨(on |> flds [(F.LC_STATUS_state, 15, 3), (F.LC_CTX_STATUS_state, 121, 1)] |> (fun s => s.setRegN .LC_SPAD_SIZE 15 0x200000) |> flds [(F.GLB_SG_BOUNDARY_first, 0, 1), (F.SFL_GOV_duty_cap, 0, 256), (F.LC_CTX_STATUS_pc, 121, 4095)] |> core 15 (fun x => { x with aq := [⟨1, 7, 0, 40, .load 0 0 0⟩], spad := [(0, 1), (0x4000, 3), (0x800, 5), (0x810, 6)] })), 0, (15), (1), (7), ⟨by unfold State.itsTurn; decide +kernel, by decide +kernel⟩⟩,
  ⟨(on |> flds [(F.LC_STATUS_state, 15, 3), (F.LC_CTX_STATUS_state, 121, 1)] |> (fun s => s.setRegN .LC_SPAD_SIZE 15 0x200000) |> flds [(F.GLB_SG_BOUNDARY_first, 0, 1), (F.SFL_GOV_duty_cap, 0, 256), (F.LC_CTX_STATUS_pc, 121, 4095)]), 0, (15), (1), (true), (0), by unfold State.itsTurn; decide +kernel⟩,
  ⟨(on |> flds [(F.LC_STATUS_state, 15, 3), (F.LC_CTX_STATUS_state, 121, 1)] |> (fun s => s.setRegN .LC_SPAD_SIZE 15 0x200000) |> flds [(F.GLB_SG_BOUNDARY_first, 0, 1), (F.SFL_GOV_duty_cap, 0, 256), (F.LC_CTX_STATUS_pc, 121, 4095)]), 0, (15), (1), (false), (1), ⟨by unfold State.itsTurn; decide +kernel, by decide +kernel⟩⟩,
  ⟨(on |> flds [(F.LC_STATUS_state, 15, 3), (F.LC_CTX_STATUS_state, 121, 1)] |> (fun s => s.setRegN .LC_SPAD_SIZE 15 0x200000) |> flds [(F.GLB_SG_BOUNDARY_first, 0, 1), (F.SFL_GOV_duty_cap, 0, 256), (F.LC_CTX_STATUS_pc, 121, 4095)] |> grp 0 (fun g => { g with groupMembers := [15, 3], groupArrived := [3], groupPhase := 9 })), 0, (15), (1), ⟨by unfold State.itsTurn; decide +kernel, by decide +kernel⟩⟩,
  ⟨(on |> flds [(F.LC_STATUS_state, 15, 3), (F.LC_CTX_STATUS_state, 121, 1)] |> (fun s => s.setRegN .LC_SPAD_SIZE 15 0x200000) |> flds [(F.GLB_SG_BOUNDARY_first, 0, 1), (F.SFL_GOV_duty_cap, 0, 256), (F.LC_CTX_STATUS_state, 121, 0), (F.LC_CTX_STATUS_state, 127, 1), (F.LC_CTX_STATUS_pc, 127, 4095)] |> (fun s => { s with devMembers := [15, 3], devArrived := [3] })), 0, (15), ⟨by unfold State.itsTurn; decide +kernel, by decide +kernel⟩⟩,
  ⟨(on |> flds [(F.LC_STATUS_state, 15, 3), (F.LC_CTX_STATUS_state, 121, 1)] |> (fun s => s.setRegN .LC_SPAD_SIZE 15 0x200000) |> flds [(F.GLB_SG_BOUNDARY_first, 0, 1), (F.SFL_GOV_duty_cap, 0, 256), (F.LC_CTX_STATUS_pc, 121, 4095)] |> core 15 (fun x => { x with serial := 3, dq := [{ ctx := 1, bytes := leBytes 28 0 ++ leBytes 1 16 ++ leBytes 35 0 }] })), 0, (15), (1), (.group), ⟨by unfold State.itsTurn; decide +kernel, by decide +kernel⟩⟩,
  ⟨(on |> flds [(F.LC_STATUS_state, 15, 3), (F.LC_CTX_STATUS_state, 121, 1)] |> (fun s => s.setRegN .LC_SPAD_SIZE 15 0x200000) |> flds [(F.GLB_SG_BOUNDARY_first, 0, 1), (F.SFL_GOV_duty_cap, 0, 256), (F.LC_CTX_STATUS_pc, 121, 4095)]), 0, (15), (1), (.stage 63), (1), ⟨by unfold State.itsTurn; decide +kernel, by decide +kernel⟩⟩,
  ⟨(on |> flds [(F.LC_STATUS_state, 15, 3), (F.LC_CTX_STATUS_state, 121, 1)] |> (fun s => s.setRegN .LC_SPAD_SIZE 15 0x200000) |> flds [(F.GLB_SG_BOUNDARY_first, 0, 1), (F.SFL_GOV_duty_cap, 0, 256), (F.LC_CTX_STATUS_state, 121, 0), (F.LC_CTX_STATUS_state, 127, 1), (F.LC_CTX_STATUS_pc, 127, 4095)]), 0, (15), (7), (.device), (0), ⟨by unfold State.itsTurn; decide +kernel, by decide +kernel⟩⟩,
  ⟨(on |> flds [(F.LC_STATUS_state, 15, 3), (F.LC_CTX_STATUS_state, 121, 1)] |> (fun s => s.setRegN .LC_SPAD_SIZE 15 0x200000) |> flds [(F.GLB_SG_BOUNDARY_first, 0, 1), (F.SFL_GOV_duty_cap, 0, 256), (F.LC_CTX_STATUS_pc, 121, 4095)] |> clock 10000001 |> flds [(F.LC_CTX_STATUS_state, 121, 2)] |> (fun s => s.modCtx 15 1 fun x => { x with wait := .barrier .group 5 })), 0, (15), (1), (.group), (5), by decide +kernel⟩,
  ⟨(on |> flds [(F.LC_STATUS_state, 15, 3), (F.LC_CTX_STATUS_state, 121, 1)] |> (fun s => s.setRegN .LC_SPAD_SIZE 15 0x200000) |> flds [(F.GLB_SG_BOUNDARY_first, 0, 1), (F.SFL_GOV_duty_cap, 0, 256), (F.LC_CTX_STATUS_pc, 121, 4095)] |> clock 10000000 |> flds [(F.LC_CTX_STATUS_state, 121, 2)] |> (fun s => s.modCtx 15 1 fun x => { x with wait := .barrier .group 5 })), 0, (15), (1), (.group), (5), by decide +kernel⟩,
  ⟨(on |> flds [(F.LC_STATUS_state, 15, 3), (F.LC_CTX_STATUS_state, 121, 1)] |> (fun s => s.setRegN .LC_SPAD_SIZE 15 0x200000) |> flds [(F.GLB_SG_BOUNDARY_first, 0, 1), (F.SFL_GOV_duty_cap, 0, 256), (F.LC_CTX_STATUS_pc, 121, 4095)]), 0, (15), (1), (9), by decide +kernel⟩,
  ⟨(on |> flds [(F.LC_STATUS_state, 15, 3), (F.LC_CTX_STATUS_state, 121, 1)] |> (fun s => s.setRegN .LC_SPAD_SIZE 15 0x200000) |> flds [(F.GLB_SG_BOUNDARY_first, 0, 1), (F.SFL_GOV_duty_cap, 0, 256), (F.LC_CTX_STATUS_pc, 121, 4095)]), 0, (15), (1), (9), by decide +kernel⟩⟩

/-- RingTransfers is about something: a state and operands for each of its clauses. -/
theorem witness_RingTransfers :
  (∃ (s : State) (dt : Nat) (i : Fin 16) (c : Fin 8) (a : Word) (len : Word),
    let u := s.elapse dt
    (u.itsTurn i c) ∧ (u.spadFits i a.toNat len.toNat = true)) ∧
  (∃ (s : State) (dt : Nat) (i : Fin 16) (c : Fin 8) (a : Word) (len : Word),
    let u := s.elapse dt
    (u.itsTurn i c) ∧ (c.val ≠ 6) ∧ (u.fld F.LC_FAULT_code i = 0) ∧ (u.spadFits i a.toNat len.toNat = false)) ∧
  (∃ (s : State) (dt : Nat) (i : Fin 16) (c : Fin 8) (a : Word) (len : Word) (mask : BitVec 16),
    let u := s.elapse dt
    (u.itsTurn i c) ∧ ((∀ j, j < 16 → bit mask.toNat j = true → (u.hops i j).isSome = true)) ∧ (u.spadFits i a.toNat len.toNat = true)) ∧
  (∃ (s : State) (dt : Nat) (i : Fin 16) (c : Fin 8) (a : Word) (len : Word) (mask : BitVec 16),
    let u := s.elapse dt
    let far := ((List.range 16).filter (bit mask.toNat)).any fun j => (u.hops i j).isNone
    (u.itsTurn i c) ∧ (c.val ≠ 6) ∧ (u.fld F.LC_FAULT_code i = 0) ∧ ((far || !u.spadFits i a.toNat len.toNat) = true)) ∧
  (∃ (s : State) (dt : Nat) (i : Fin 16) (j : Fin 16) (x : SendS) (a : Nat) (r : RecvS),
    let u := s.elapse dt
    (i ≠ j) ∧ ((∀ k, k < 16 → k ≠ i.val → (u.core k).sends = [])) ∧ ((u.core i).sends = [x]) ∧ (x.complete = some a) ∧ (a ≤ u.coreCycle i) ∧ (x.targets = [j.val]) ∧ ((u.core j).recvs = [r]) ∧ (r.taken = true) ∧ ((u.ctx i x.ctx).wait = .ring) ∧ (u.ctxState i x.ctx = 2) ∧ ((u.ctx j r.ctx).wait = .ring) ∧ (u.ctxState j r.ctx = 2)) ∧
  (∃ (s : State) (dt : Nat) (i : Fin 16) (c : Fin 8),
    let u := s.elapse dt
    (c.val ≠ 6) ∧ ((u.ctx i c).wait = .ring) ∧ (u.ctxState i c = 2) ∧ ((u.ctx i c).since + 1000000 < u.now) ∧ (((u.core i).sends.any fun x => x.ctx == c.val && x.complete.isSome) = false) ∧ (u.fld F.LC_FAULT_code i = 0)) :=
  ⟨⟨(on |> flds [(F.LC_STATUS_state, 15, 3), (F.LC_CTX_STATUS_state, 121, 1)] |> (fun s => s.setRegN .LC_SPAD_SIZE 15 0x200000) |> flds [(F.GLB_SG_BOUNDARY_first, 0, 1), (F.SFL_GOV_duty_cap, 0, 256), (F.LC_CTX_STATUS_pc, 121, 4095)]), 0, (15), (1), (0), (0x200000), ⟨by unfold State.itsTurn; decide +kernel, by decide +kernel⟩⟩,
  ⟨(on |> flds [(F.LC_STATUS_state, 15, 3), (F.LC_CTX_STATUS_state, 121, 1)] |> (fun s => s.setRegN .LC_SPAD_SIZE 15 0x200000) |> flds [(F.GLB_SG_BOUNDARY_first, 0, 1), (F.SFL_GOV_duty_cap, 0, 256), (F.LC_CTX_STATUS_pc, 121, 4095)]), 0, (15), (1), (1), (0x200000), ⟨by unfold State.itsTurn; decide +kernel, by decide +kernel⟩⟩,
  ⟨(on |> flds [(F.GLB_SG_BOUNDARY_first, 0, 1), (F.LC_STATUS_state, 0, 3), (F.LC_CTX_STATUS_state, 1, 1)] |> (fun s => s.setRegN .LC_SPAD_SIZE 0 0x200000)), 0, (0), (1), (0), (0x200000), (0xFFFE), ⟨by unfold State.itsTurn; decide +kernel, by decide +kernel⟩⟩,
  ⟨(on |> flds [(F.GLB_SG_BOUNDARY_first, 0, 1), (F.LC_STATUS_state, 0, 3), (F.LC_CTX_STATUS_state, 1, 1)] |> (fun s => s.setRegN .LC_SPAD_SIZE 0 0x200000)), 0, (0), (1), (0), (0x200000), (1), ⟨by unfold State.itsTurn; decide +kernel, by decide +kernel⟩⟩,
  ⟨(on |> flds [(F.GLB_SG_BOUNDARY_first, 0, 1), (F.LC_STATUS_state, 0, 3), (F.LC_CTX_STATUS_state, 1, 1)] |> (fun s => s.setRegN .LC_SPAD_SIZE 0 0x200000) |> tme (fun t => { t with tclk := 1000 }) |> flds [(F.LC_CTX_STATUS_state, 1, 2), (F.LC_CTX_STATUS_state, 121, 2)] |> (fun s => (s.modCtx 0 1 fun x => { x with wait := .ring }).modCtx 15 1 fun x => { x with wait := .ring }) |> core 0 (fun x => { x with sends := [⟨1, 7, 0x10, 4, [15], some 30⟩], spad := [(0x11, 9)] }) |> core 15 (fun x => { x with recvs := [⟨1, 0x20, 4, true⟩] })), 0, (0), (15), (⟨1, 7, 0x10, 4, [15], some 30⟩), (30), (⟨1, 0x20, 4, true⟩), by decide +kernel⟩,
  ⟨(on |> flds [(F.LC_STATUS_state, 15, 3), (F.LC_CTX_STATUS_state, 121, 1)] |> (fun s => s.setRegN .LC_SPAD_SIZE 15 0x200000) |> flds [(F.GLB_SG_BOUNDARY_first, 0, 1), (F.SFL_GOV_duty_cap, 0, 256), (F.LC_CTX_STATUS_pc, 121, 4095)] |> clock 1000001 |> flds [(F.LC_CTX_STATUS_state, 121, 2)] |> (fun s => s.modCtx 15 1 fun x => { x with wait := .ring })), 0, (15), (1), by decide +kernel⟩⟩

/-- RetouchTraining is about something: a state and operands for each of its clauses. -/
theorem witness_RetouchTraining :
  (∃ (s : State) (dt : Nat) (n : Fin 512) (q : Word) (input : List Byte),
    let u := s.elapse dt
    let a := u.adaptOf n
    let g := a.cand.any (fun c => !c.accepted) && decide (a.gate.length < 4)
    let x : PairS := { seq := q.toNat, stripe := u.pairStripe n q.toNat, col0 := u.pairCol n q.toNat, input := u.tapInput n input, target := windowOf (u.finalRows n (q.toNat - 1) (u.pairStripe n q.toNat)) (u.pairCol n q.toNat) (u.pairWin n) }
    (u.fld F.CAM_ADAPT_STATUS_state n = 1) ∧ (u.drawn n q.toNat = true) ∧ (a.building = none) ∧ (u.reverseDue n q.toNat = false) ∧ (a.lastPair.all (· < q.toNat) = true) ∧ (u.pairReady n q.toNat = true) ∧ (u.pairsFull n = false) ∧ (u.still n q.toNat = true)) ∧
  (∃ (s : State) (dt : Nat) (n : Fin 512) (q : Word) (input : List Byte),
    let u := s.elapse dt
    let a := u.adaptOf n
    (u.fld F.CAM_ADAPT_STATUS_state n = 1) ∧ (u.drawn n q.toNat = true) ∧ (a.building = none) ∧ (u.reverseDue n q.toNat = false) ∧ (a.lastPair.all (· < q.toNat) = true) ∧ (u.pairReady n q.toNat = true) ∧ (u.pairsFull n = true ∨ u.still n q.toNat = false)) ∧
  (∃ (s : State) (dt : Nat) (n : Fin 512) (q : Word) (input : List Byte) (b : PairS),
    let u := s.elapse dt
    let a := u.adaptOf n
    let g := a.cand.any (fun c => !c.accepted) && decide (a.gate.length < 4)
    let x : PairS := { b with input := u.tapInput n input }
    (u.fld F.CAM_ADAPT_STATUS_state n = 1) ∧ (u.drawn n q.toNat = true) ∧ (a.building = some b) ∧ (b.seq = q.toNat) ∧ (u.tapped n = true) ∧ (u.pairsFull n = false)) ∧
  (∃ (s : State) (dt : Nat) (n : Fin 512) (q : Word),
    let u := s.elapse dt
    let a := u.adaptOf n
    let ref := a.refs.getD (q.toNat / u.pairDiv n / 2 % a.refs.length) (0, 0, 0)
    let k := u.pairStripe n q.toNat
    let ys := ((List.range 48).filter fun i => decide (8 ≤ 32 * k + i) && decide (32 * k + i < u.outH n + 8)).map fun i => 32 * k + i - 8
    let px := fun (y x : Nat) => u.reversePixel n ref.1 ref.2.1 y x ((rowDraws (u.width n) (rowSeed ref.2.2 a.reversePairs y)).getD x 0)
    let at_ := fun (p y x : Nat) => u.refAt n ref.1 p (32 * k + y) x
    let rows := (List.range (min 32 (u.outH n - 32 * k))).map fun y => (List.range (u.width n)).map fun x => (at_ 0 y x, at_ 1 y x, at_ 2 y x)
    (u.fld F.CAM_ADAPT_STATUS_state n = 1) ∧ (u.drawn n q.toNat = true) ∧ (u.reverseDue n q.toNat = true) ∧ (a.building = none) ∧ (a.lastPair.all (· < q.toNat) = true) ∧ (u.sixReady (u.camSg n) = true)) ∧
  (∃ (s : State) (dt : Nat) (n : Fin 512) (w : Fin 32) (b : PairS),
    let u := s.elapse dt
    let g := u.camSg n
    let c := u.counter g w
    let x := u.regN .HLD_WC_NEXT (32 * g + w)
    let h : Share := { cam := n, seq := b.seq, stripe := b.stripe, idx := x, gen := 0, deadline := 2 ^ 64 - 1, inl := false, training := true }
    ((u.adaptOf n).building = some b) ∧ (u.fld F.CAM_ADAPT_STATUS_state n = 1) ∧ ((c.inputs = [] ∧ ∀ i ∈ u.groupCores g, u.regN .LC_ADAPT_USED i + u.trainCycles n i ≤ u.adaptBudget i) ∨
      (c.inputs ≠ [] ∧ ∀ i ∈ c.inputs, i ∈ (u.adaptOf n).trained)) ∧ (w.val ∉ (u.adaptOf n).trained) ∧ ((∀ h ∈ c.shares, ¬ (h.training = true ∧ h.cam = n))) ∧ (u.flag F.HLD_WC_CFG_active (32 * g + w) = true) ∧ ((u.cam n).model = some c.handle)) ∧
  (∃ (s : State) (dt : Nat) (n : Fin 512) (w : Fin 32) (i : Nat),
    let u := s.elapse dt
    let g := u.camSg n
    ((u.counter g w).inputs = []) ∧ (i ∈ u.groupCores g) ∧ (u.adaptBudget i < u.regN .LC_ADAPT_USED i + u.trainCycles n i)) ∧
  (∃ (s : State) (dt : Nat) (n : Fin 512) (d : HeadDecl) (i : Nat) (p : PairS) (l : List PairS),
    let u := s.elapse dt
    let a := u.adaptOf n
    let m := (a.mom.zip (headGrads d a.masters p)).map fun x => fAdd (fMul (u.betaBits n) x.1) x.2
    (u.headOf n = some d) ∧ (u.headCore n = some i) ∧ (a.pairs = p :: l) ∧ (u.fld F.CAM_ADAPT_STATUS_state n = 1) ∧ (u.sixReady i = true) ∧ (a.cand.all (·.accepted) = true)) ∧
  (∃ (s : State) (dt : Nat) (n : Fin 512) (i : Nat),
    let u := s.elapse dt
    (u.headCore n = some i) ∧ (u.fld F.CAM_ADAPT_STATUS_state n ≠ 1 ∨ u.sixReady i = false ∨ (u.adaptOf n).cand.all (·.accepted) = false)) ∧
  (∃ (s : State) (dt : Nat) (n : Fin 512) (d : HeadDecl),
    let u := s.elapse dt
    let a := u.adaptOf n
    let x := driftTest a.masters (headDecodeSlot d d.base) (u.fld F.CAM_ADAPT_OPT_drift_max n)
    (u.headOf n = some d) ∧ (u.fld F.CAM_ADAPT_STATUS_state n = 1) ∧ (a.cand = none) ∧ (max 1 (u.fld F.CAM_ADAPT_CFG_steps n) ≤ a.steps) ∧ (x.1 = true)) ∧
  (∃ (s : State) (dt : Nat) (n : Fin 512) (d : HeadDecl),
    let u := s.elapse dt
    let a := u.adaptOf n
    let x := driftTest a.masters (headDecodeSlot d d.base) (u.fld F.CAM_ADAPT_OPT_drift_max n)
    (u.headOf n = some d) ∧ (u.fld F.CAM_ADAPT_STATUS_state n = 1) ∧ (a.cand = none) ∧ (max 1 (u.fld F.CAM_ADAPT_CFG_steps n) ≤ a.steps) ∧ (x.1 = false)) ∧
  (∃ (s : State) (dt : Nat) (n : Fin 512) (d : HeadDecl) (c : CandS),
    let u := s.elapse dt
    let a := u.adaptOf n
    let lc := meanLoss (a.gate.map (pairLoss d (headDecodeSlot d c.slot)))
    let lk := meanLoss (a.gate.map (pairLoss d (headDecodeSlot d (u.headSet n (u.cam n).headNow))))
    (u.headOf n = some d) ∧ (a.cand = some c) ∧ (u.fld F.CAM_ADAPT_STATUS_state n = 1) ∧ (a.gate.length = 4) ∧ (c.accepted = false)) ∧
  (∃ (s : State) (dt : Nat) (n : Fin 512) (c : CandS) (h : Nat),
    let u := s.elapse dt
    ((u.adaptOf n).cand = some c) ∧ (u.freeHead n = some h) ∧ (c.accepted = true)) ∧
  (∃ (s : State) (dt : Nat) (n : Fin 512),
    let u := s.elapse dt
    (u.freeHead n = none ∨ (u.adaptOf n).cand.any (·.accepted) = false)) ∧
  (∃ (s : State) (dt : Nat) (i : Fin 16),
    let u := s.elapse dt
    ((u.core i).window + 7000000 ≤ u.coreCycle i)) :=
  ⟨⟨(on |> flds [(F.CAM_ADAPT_STATUS_state, 130, 1), (F.CAM_ADAPT_CFG_pair_div, 130, 2), (F.GLB_SG_BOUNDARY_first, 0, 1), (F.CAM_GEOM_width, 130, 16), (F.CAM_GEOM_height, 130, 44)] |> (fun s => s.setRegN .CAM_SEQ 130 9) |> frm 130 3 (fun f => { f with seq := 3, st := 3, lin := List.replicate 40 [(7, 8, 9)] }) |> frm 130 4 (fun f => { f with seq := 4, st := 2 })), 0, (130), (4), ([1, 2]), by decide +kernel⟩,
  ⟨(on |> flds [(F.CAM_ADAPT_STATUS_state, 130, 1), (F.CAM_ADAPT_CFG_pair_div, 130, 2), (F.GLB_SG_BOUNDARY_first, 0, 1), (F.CAM_GEOM_width, 130, 16), (F.CAM_GEOM_height, 130, 44)] |> (fun s => s.setRegN .CAM_SEQ 130 9) |> frm 130 3 (fun f => { f with seq := 3, st := 3, lin := List.replicate 40 [(7, 8, 9)], uncertain := true }) |> frm 130 4 (fun f => { f with seq := 4, st := 2 })), 0, (130), (4), ([1, 2]), by decide +kernel⟩,
  ⟨(on |> flds [(F.CAM_ADAPT_STATUS_state, 130, 1), (F.CAM_ADAPT_CFG_pair_div, 130, 2), (F.GLB_SG_BOUNDARY_first, 0, 1)] |> boot (fun b => { b with models := b.models.set 9 (some { fn := 0, first := 0, cores := 1, encrypted := false, meas := [1, 2, 3, 4, 5, 6, 7, 8, 9, 10, 11, 12, 13, 14, 15, 16], img := { plain := [1], raw := [], size := 16, up := 1, down := 1, tChannels := 0, tFactor := false, enc := none, overlap := 0, cores := List.replicate 16 { instrs := [], layers := [], grids := [], descs := [], pads := [], dmaq := [], spad := 0 }, stages := [], head := some { layers := 1, cores := [0], int8 := true, bf16 := false, primary := 8, sA := 0, zpA := 0, chans := 1, k0 := 1, channels := [⟨0, 1, 0x3F800000, 0⟩], base := leBytes 1 3, at_ := 0 }, pins := [], weightBase := 0, weights := [] }, sealed_ := [], pins := [], counters := [] }) }) |> cam 130 (fun c => { c with model := some 9 }) |> adp 130 (fun a => { a with building := some { seq := 4, stripe := 1, reverse := true }, trained := [31] }) |> grp 0 (fun g => { g with counters := [(31, { handle := 9, cores := [0] })] })), 0, (130), (4), ([1, 2]), ({ seq := 4, stripe := 1, reverse := true }), by decide +kernel⟩,
  ⟨(on |> flds [(F.CAM_ADAPT_STATUS_state, 130, 1), (F.CAM_ADAPT_CFG_pair_div, 130, 2), (F.GLB_SG_BOUNDARY_first, 0, 1), (F.CAM_ADAPT_CFG_source, 130, 1), (F.CAM_GEOM_width, 130, 16), (F.CAM_GEOM_height, 130, 44)] |> flds [(F.LC_STATUS_state, 0, 3), (F.LC_ADAPT_CFG_budget, 0, 5)] |> adp 130 (fun a => { a with refs := [(0, 1, 2)] })), 0, (130), (4), by decide +kernel⟩,
  ⟨(on |> flds [(F.CAM_ADAPT_STATUS_state, 130, 1), (F.CAM_ADAPT_CFG_pair_div, 130, 2), (F.GLB_SG_BOUNDARY_first, 0, 1), (F.HLD_WC_CFG_active, 31, 1)] |> boot (fun b => { b with models := b.models.set 9 (some { fn := 0, first := 0, cores := 1, encrypted := false, meas := [1, 2, 3, 4, 5, 6, 7, 8, 9, 10, 11, 12, 13, 14, 15, 16], img := { plain := [1], raw := [], size := 16, up := 1, down := 1, tChannels := 0, tFactor := false, enc := none, overlap := 0, cores := List.replicate 16 { instrs := [], layers := [], grids := [], descs := [], pads := [], dmaq := [], spad := 0 }, stages := [], head := some { layers := 1, cores := [0], int8 := true, bf16 := false, primary := 8, sA := 0, zpA := 0, chans := 1, k0 := 1, channels := [⟨0, 1, 0x3F800000, 0⟩], base := leBytes 1 3, at_ := 0 }, pins := [], weightBase := 0, weights := [] }, sealed_ := [], pins := [], counters := [] }) }) |> cam 130 (fun c => { c with model := some 9 }) |> adp 130 (fun a => { a with building := some { seq := 4, stripe := 1, reverse := true } }) |> grp 0 (fun g => { g with counters := [(31, { handle := 9, cores := [1], inputs := [] })] })), 0, (130), (31), ({ seq := 4, stripe := 1, reverse := true }), by decide +kernel⟩,
  ⟨(on |> flds [(F.CAM_ADAPT_STATUS_state, 130, 1), (F.CAM_ADAPT_CFG_pair_div, 130, 2), (F.GLB_SG_BOUNDARY_first, 0, 1), (F.HLD_WC_CFG_active, 31, 1)] |> boot (fun b => { b with models := b.models.set 9 (some { fn := 0, first := 0, cores := 1, encrypted := false, meas := [1, 2, 3, 4, 5, 6, 7, 8, 9, 10, 11, 12, 13, 14, 15, 16], img := { plain := [1], raw := [], size := 16, up := 1, down := 1, tChannels := 0, tFactor := false, enc := none, overlap := 0, cores := List.replicate 16 { instrs := [], layers := [], grids := [], descs := [], pads := [], dmaq := [], spad := 0 }, stages := [], head := some { layers := 1, cores := [0], int8 := true, bf16 := false, primary := 8, sA := 0, zpA := 0, chans := 1, k0 := 1, channels := [⟨0, 1, 0x3F800000, 0⟩], base := leBytes 1 3, at_ := 0 }, pins := [], weightBase := 0, weights := [] }, sealed_ := [], pins := [], counters := [] }) }) |> cam 130 (fun c => { c with model := some 9 }) |> adp 130 (fun a => { a with building := some { seq := 4, stripe := 1, reverse := true } }) |> grp 0 (fun g => { g with counters := [(31, { handle := 9, cores := [1], inputs := [] })] }) |> (fun s => s.setRegN .LC_ADAPT_USED 0 0xFFFFFFFF)), 0, (130), (31), (0), by decide +kernel⟩,
  ⟨(on |> flds [(F.CAM_ADAPT_STATUS_state, 130, 1), (F.CAM_ADAPT_CFG_pair_div, 130, 2), (F.GLB_SG_BOUNDARY_first, 0, 1)] |> flds [(F.LC_STATUS_state, 0, 3), (F.LC_ADAPT_CFG_budget, 0, 5)] |> boot (fun b => { b with models := b.models.set 9 (some { fn := 0, first := 0, cores := 1, encrypted := false, meas := [1, 2, 3, 4, 5, 6, 7, 8, 9, 10, 11, 12, 13, 14, 15, 16], img := { plain := [1], raw := [], size := 16, up := 1, down := 1, tChannels := 0, tFactor := false, enc := none, overlap := 0, cores := List.replicate 16 { instrs := [], layers := [], grids := [], descs := [], pads := [], dmaq := [], spad := 0 }, stages := [], head := some { layers := 1, cores := [0], int8 := true, bf16 := false, primary := 8, sA := 0, zpA := 0, chans := 1, k0 := 1, channels := [⟨0, 1, 0x3F800000, 0⟩], base := leBytes 1 3, at_ := 0 }, pins := [], weightBase := 0, weights := [] }, sealed_ := [], pins := [], counters := [] }) }) |> cam 130 (fun c => { c with model := some 9 }) |> adp 130 (fun a => { a with pairs := [{ seq := 4, input := [1], target := [0x3F80] }], masters := [0x3F800000], mom := [0x40000000] })), 0, (130), ({ layers := 1, cores := [0], int8 := true, bf16 := false, primary := 8, sA := 0, zpA := 0, chans := 1, k0 := 1, channels := [⟨0, 1, 0x3F800000, 0⟩], base := leBytes 1 3, at_ := 0 }), (0), ({ seq := 4, input := [1], target := [0x3F80] }), ([]), by decide +kernel⟩,
  ⟨(on |> flds [(F.CAM_ADAPT_STATUS_state, 130, 1), (F.CAM_ADAPT_CFG_pair_div, 130, 2), (F.GLB_SG_BOUNDARY_first, 0, 1)] |> flds [(F.LC_STATUS_state, 0, 3), (F.LC_ADAPT_CFG_budget, 0, 5)] |> boot (fun b => { b with models := b.models.set 9 (some { fn := 0, first := 0, cores := 1, encrypted := false, meas := [1, 2, 3, 4, 5, 6, 7, 8, 9, 10, 11, 12, 13, 14, 15, 16], img := { plain := [1], raw := [], size := 16, up := 1, down := 1, tChannels := 0, tFactor := false, enc := none, overlap := 0, cores := List.replicate 16 { instrs := [], layers := [], grids := [], descs := [], pads := [], dmaq := [], spad := 0 }, stages := [], head := some { layers := 1, cores := [0], int8 := true, bf16 := false, primary := 8, sA := 0, zpA := 0, chans := 1, k0 := 1, channels := [⟨0, 1, 0x3F800000, 0⟩], base := leBytes 1 3, at_ := 0 }, pins := [], weightBase := 0, weights := [] }, sealed_ := [], pins := [], counters := [] }) }) |> cam 130 (fun c => { c with model := some 9 }) |> adp 130 (fun a => { a with pairs := [{ seq := 4, input := [1], target := [0x3F80] }], cand := some { slot := [3] } })), 0, (130), (0), by decide +kernel⟩,
  ⟨(on |> flds [(F.CAM_ADAPT_STATUS_state, 130, 1), (F.CAM_ADAPT_CFG_pair_div, 130, 2), (F.GLB_SG_BOUNDARY_first, 0, 1), (F.CAM_ADAPT_CFG_steps, 130, 2), (F.CAM_ADAPT_OPT_drift_max, 130, 255)] |> boot (fun b => { b with models := b.models.set 9 (some { fn := 0, first := 0, cores := 1, encrypted := false, meas := [1, 2, 3, 4, 5, 6, 7, 8, 9, 10, 11, 12, 13, 14, 15, 16], img := { plain := [1], raw := [], size := 16, up := 1, down := 1, tChannels := 0, tFactor := false, enc := none, overlap := 0, cores := List.replicate 16 { instrs := [], layers := [], grids := [], descs := [], pads := [], dmaq := [], spad := 0 }, stages := [], head := some { layers := 1, cores := [0], int8 := true, bf16 := false, primary := 8, sA := 0, zpA := 0, chans := 1, k0 := 1, channels := [⟨0, 1, 0x3F800000, 0⟩], base := leBytes 1 3, at_ := 0 }, pins := [], weightBase := 0, weights := [] }, sealed_ := [], pins := [], counters := [] }) }) |> cam 130 (fun c => { c with model := some 9 }) |> adp 130 (fun a => { a with steps := 2, masters := headDecodeSlot { layers := 1, cores := [0], int8 := true, bf16 := false, primary := 8, sA := 0, zpA := 0, chans := 1, k0 := 1, channels := [⟨0, 1, 0x3F800000, 0⟩], base := leBytes 1 3, at_ := 0 } (leBytes 1 3) })), 0, (130), ({ layers := 1, cores := [0], int8 := true, bf16 := false, primary := 8, sA := 0, zpA := 0, chans := 1, k0 := 1, channels := [⟨0, 1, 0x3F800000, 0⟩], base := leBytes 1 3, at_ := 0 }), by decide +kernel⟩,
  ⟨(on |> flds [(F.CAM_ADAPT_STATUS_state, 130, 1), (F.CAM_ADAPT_CFG_pair_div, 130, 2), (F.GLB_SG_BOUNDARY_first, 0, 1), (F.CAM_ADAPT_CFG_steps, 130, 2), (F.CAM_ADAPT_OPT_drift_max, 130, 0)] |> boot (fun b => { b with models := b.models.set 9 (some { fn := 0, first := 0, cores := 1, encrypted := false, meas := [1, 2, 3, 4, 5, 6, 7, 8, 9, 10, 11, 12, 13, 14, 15, 16], img := { plain := [1], raw := [], size := 16, up := 1, down := 1, tChannels := 0, tFactor := false, enc := none, overlap := 0, cores := List.replicate 16 { instrs := [], layers := [], grids := [], descs := [], pads := [], dmaq := [], spad := 0 }, stages := [], head := some { layers := 1, cores := [0], int8 := true, bf16 := false, primary := 8, sA := 0, zpA := 0, chans := 1, k0 := 1, channels := [⟨0, 1, 0x3F800000, 0⟩], base := leBytes 1 3, at_ := 0 }, pins := [], weightBase := 0, weights := [] }, sealed_ := [], pins := [], counters := [] }) }) |> cam 130 (fun c => { c with model := some 9 }) |> adp 130 (fun a => { a with steps := 2, masters := [0x42000000], snapshot := [7] })), 0, (130), ({ layers := 1, cores := [0], int8 := true, bf16 := false, primary := 8, sA := 0, zpA := 0, chans := 1, k0 := 1, channels := [⟨0, 1, 0x3F800000, 0⟩], base := leBytes 1 3, at_ := 0 }), by decide +kernel⟩,
  ⟨(on |> flds [(F.CAM_ADAPT_STATUS_state, 130, 1), (F.CAM_ADAPT_CFG_pair_div, 130, 2), (F.GLB_SG_BOUNDARY_first, 0, 1), (F.CAM_ADAPT_OPT_gate, 130, 8)] |> boot (fun b => { b with models := b.models.set 9 (some { fn := 0, first := 0, cores := 1, encrypted := false, meas := [1, 2, 3, 4, 5, 6, 7, 8, 9, 10, 11, 12, 13, 14, 15, 16], img := { plain := [1], raw := [], size := 16, up := 1, down := 1, tChannels := 0, tFactor := false, enc := none, overlap := 0, cores := List.replicate 16 { instrs := [], layers := [], grids := [], descs := [], pads := [], dmaq := [], spad := 0 }, stages := [], head := some { layers := 1, cores := [0], int8 := true, bf16 := false, primary := 8, sA := 0, zpA := 0, chans := 1, k0 := 1, channels := [⟨0, 1, 0x3F800000, 0⟩], base := leBytes 1 3, at_ := 0 }, pins := [], weightBase := 0, weights := [] }, sealed_ := [], pins := [], counters := [] }) }) |> cam 130 (fun c => { c with model := some 9 }) |> adp 130 (fun a => { a with cand := some { slot := [3] }, gate := List.replicate 4 { seq := 4, input := [1], target := [0x3F80] } })), 0, (130), ({ layers := 1, cores := [0], int8 := true, bf16 := false, primary := 8, sA := 0, zpA := 0, chans := 1, k0 := 1, channels := [⟨0, 1, 0x3F800000, 0⟩], base := leBytes 1 3, at_ := 0 }), ({ slot := [3] }), by decide +kernel⟩,
  ⟨(on |> flds [(F.CAM_ADAPT_STATUS_state, 130, 1), (F.CAM_ADAPT_CFG_pair_div, 130, 2), (F.GLB_SG_BOUNDARY_first, 0, 1)] |> adp 130 (fun a => { a with cand := some { slot := [3], accepted := true }, masters := [4] })), 0, (130), ({ slot := [3], accepted := true }), (1), by decide +kernel⟩,
  ⟨(on |> flds [(F.CAM_ADAPT_STATUS_state, 130, 1), (F.CAM_ADAPT_CFG_pair_div, 130, 2), (F.GLB_SG_BOUNDARY_first, 0, 1)] |> adp 130 (fun a => { a with cand := some { slot := [3] } })), 0, (130), by decide +kernel⟩,
  ⟨(on |> flds [(F.LC_STATUS_state, 0, 3), (F.LC_ADAPT_CFG_budget, 0, 5)] |> tme (fun t => { t with tclk := 10000000 }) |> (fun s => s.setRegN .LC_ADAPT_USED 0 400000)), 0, (0), by decide +kernel⟩⟩

/-- AdaptCommands is about something: a state and operands for each of its clauses. -/
theorem witness_AdaptCommands :
  (∃ (s : State) (dt : Nat) (r : CmdName) (k : Cmd) (d : HeadDecl),
    let u := s.elapse dt
    let n := k.cam
    (u.asked (cmdRef r) 0x0601 k) ∧ (u.fld F.CAM_ADAPT_STATUS_state n = 0) ∧ (u.headOf n = some d) ∧ (u.areaBases ≠ []) ∧ (u.govG = 0) ∧ (u.boot.sw.any (·.began.isSome) = false)) ∧
  (∃ (s : State) (dt : Nat) (r : CmdName) (k : Cmd),
    let u := s.elapse dt
    let n := k.cam
    (u.asked (cmdRef r) 0x0601 k) ∧ (u.fld F.CAM_ADAPT_STATUS_state n ≠ 0)) ∧
  (∃ (s : State) (dt : Nat) (r : CmdName) (k : Cmd),
    let u := s.elapse dt
    let n := k.cam
    (u.asked (cmdRef r) 0x0601 k) ∧ (u.fld F.CAM_ADAPT_STATUS_state n = 0) ∧ (u.headOf n = none ∨ u.areaBases = [])) ∧
  (∃ (s : State) (dt : Nat) (r : CmdName) (k : Cmd),
    let u := s.elapse dt
    let n := k.cam
    (u.asked (cmdRef r) 0x0602 k) ∧ (u.fld F.CAM_ADAPT_STATUS_state n ≠ 0)) ∧
  (∃ (s : State) (dt : Nat) (r : CmdName) (k : Cmd),
    let u := s.elapse dt
    let n := k.cam
    (u.asked (cmdRef r) 0x0602 k) ∧ (u.fld F.CAM_ADAPT_STATUS_state n = 0)) ∧
  (∃ (s : State) (dt : Nat) (r : CmdName) (k : Cmd),
    let u := s.elapse dt
    let n := k.cam
    (u.asked (cmdRef r) 0x0603 k) ∧ (u.fld F.CAM_ADAPT_STATUS_state n = 1)) ∧
  (∃ (s : State) (dt : Nat) (r : CmdName) (k : Cmd) (c : Nat),
    let u := s.elapse dt
    let n := k.cam
    let m := (u.adaptOf n).causes
    (u.asked (cmdRef r) 0x0604 k) ∧ (u.fld F.CAM_ADAPT_STATUS_state n = 2) ∧ ([cHost, cFault, cPoison, cDrift].find? (fun c => bit m (c - 1)) = some c)) ∧
  (∃ (s : State) (dt : Nat) (r : CmdName) (k : Cmd),
    let u := s.elapse dt
    let n := k.cam
    (u.asked (cmdRef r) 0x0604 k) ∧ ([cHost, cFault, cPoison, cDrift].all (fun c => !bit (u.adaptOf n).causes (c - 1)) = true)) ∧
  (∃ (s : State) (dt : Nat) (r : CmdName) (k : Cmd),
    let u := s.elapse dt
    let n := k.cam
    (u.asked (cmdRef r) 0x0605 k)) ∧
  (∃ (s : State) (dt : Nat) (r : CmdName) (k : Cmd) (refs : List (BitVec 64 × BitVec 32 × BitVec 32)),
    let u := s.elapse dt
    let n := k.cam
    let m := getBits (k.w 2) 0 5
    let l := (refs.map fun e => (e.1.toNat, e.2.1.toNat, e.2.2.toNat)).take m
    (u.asked (cmdRef r) 0x0606 k) ∧ (1 ≤ m) ∧ (m ≤ 16) ∧ ((u.fn r.fn).bme = true) ∧ ((∀ x ∈ l, u.ownerMemory x.1 (6 * u.width n * u.outH n) = true))) ∧
  (∃ (s : State) (dt : Nat) (r : CmdName) (k : Cmd) (refs : List (BitVec 64 × BitVec 32 × BitVec 32)),
    let u := s.elapse dt
    let n := k.cam
    let m := getBits (k.w 2) 0 5
    let l := (refs.map fun e => (e.1.toNat, e.2.1.toNat, e.2.2.toNat)).take m
    (u.asked (cmdRef r) 0x0606 k) ∧ (1 ≤ m) ∧ (m ≤ 16) ∧ ((u.fn r.fn).bme = true) ∧ (l.any (fun x => !u.ownerMemory x.1 (6 * u.width n * u.outH n)) = true)) ∧
  (∃ (s : State) (dt : Nat) (r : CmdName) (k : Cmd),
    let u := s.elapse dt
    let n := k.cam
    (u.asked (cmdRef r) 0x0607 k) ∧ (((u.camModel n).any fun m => m.encrypted && m.fn != 0) = false) ∧ ((u.fn r.fn).bme = true)) ∧
  (∃ (s : State) (dt : Nat) (r : CmdName) (k : Cmd),
    let u := s.elapse dt
    let n := k.cam
    (u.asked (cmdRef r) 0x0607 k) ∧ (((u.camModel n).any fun m => m.encrypted && m.fn != 0) = true)) ∧
  (∃ (s : State) (dt : Nat) (r : CmdName) (k : Cmd) (bytes : List Byte) (d : HeadDecl) (h : Nat),
    let u := s.elapse dt
    let n := k.cam
    (u.asked (cmdRef r) 0x0608 k) ∧ ((u.fn r.fn).bme = true) ∧ (u.headOf n = some d) ∧ (u.freeHead n = some h) ∧ (headFits d bytes = false)) ∧
  (∃ (s : State) (dt : Nat) (r : CmdName) (k : Cmd) (bytes : List Byte) (d : HeadDecl) (h : Nat),
    let u := s.elapse dt
    let n := k.cam
    (u.asked (cmdRef r) 0x0608 k) ∧ ((u.fn r.fn).bme = true) ∧ (u.headOf n = some d) ∧ (u.freeHead n = some h) ∧ (headFits d bytes = true)) :=
  ⟨⟨(on |> flds [(F.CAM_ADAPT_STATUS_state, 130, 0), (F.CAM_ADAPT_CFG_pair_div, 130, 2), (F.GLB_SG_BOUNDARY_first, 0, 1), (F.MEM_GEOM_gib, 0, 1)] |> boot (fun b => { b with models := b.models.set 9 (some { fn := 0, first := 0, cores := 1, encrypted := false, meas := [1, 2, 3, 4, 5, 6, 7, 8, 9, 10, 11, 12, 13, 14, 15, 16], img := { plain := [1], raw := [], size := 16, up := 1, down := 1, tChannels := 0, tFactor := false, enc := none, overlap := 0, cores := List.replicate 16 { instrs := [], layers := [], grids := [], descs := [], pads := [], dmaq := [], spad := 0 }, stages := [], head := some { layers := 1, cores := [0], int8 := true, bf16 := false, primary := 8, sA := 0, zpA := 0, chans := 1, k0 := 1, channels := [⟨0, 1, 0x3F800000, 0⟩], base := leBytes 1 3, at_ := 0 }, pins := [], weightBase := 0, weights := [] }, sealed_ := [], pins := [], counters := [] }) }) |> cam 130 (fun c => { c with model := some 9 }) |> asks 0x0601 [130]), 0, (name5), (cmd5 0x0601 [130]), ({ layers := 1, cores := [0], int8 := true, bf16 := false, primary := 8, sA := 0, zpA := 0, chans := 1, k0 := 1, channels := [⟨0, 1, 0x3F800000, 0⟩], base := leBytes 1 3, at_ := 0 }), ⟨by unfold State.asked; decide +kernel, by decide +kernel⟩⟩,
  ⟨(on |> flds [(F.CAM_ADAPT_STATUS_state, 130, 1), (F.CAM_ADAPT_CFG_pair_div, 130, 2), (F.GLB_SG_BOUNDARY_first, 0, 1)] |> boot (fun b => { b with models := b.models.set 9 (some { fn := 0, first := 0, cores := 1, encrypted := false, meas := [1, 2, 3, 4, 5, 6, 7, 8, 9, 10, 11, 12, 13, 14, 15, 16], img := { plain := [1], raw := [], size := 16, up := 1, down := 1, tChannels := 0, tFactor := false, enc := none, overlap := 0, cores := List.replicate 16 { instrs := [], layers := [], grids := [], descs := [], pads := [], dmaq := [], spad := 0 }, stages := [], head := some { layers := 1, cores := [0], int8 := true, bf16 := false, primary := 8, sA := 0, zpA := 0, chans := 1, k0 := 1, channels := [⟨0, 1, 0x3F800000, 0⟩], base := leBytes 1 3, at_ := 0 }, pins := [], weightBase := 0, weights := [] }, sealed_ := [], pins := [], counters := [] }) }) |> cam 130 (fun c => { c with model := some 9 }) |> asks 0x0601 [130]), 0, (name5), (cmd5 0x0601 [130]), ⟨by unfold State.asked; decide +kernel, by decide +kernel⟩⟩,
  ⟨(on |> flds [(F.CAM_ADAPT_STATUS_state, 130, 0), (F.CAM_ADAPT_CFG_pair_div, 130, 2), (F.GLB_SG_BOUNDARY_first, 0, 1)] |> asks 0x0601 [130]), 0, (name5), (cmd5 0x0601 [130]), ⟨by unfold State.asked; decide +kernel, by decide +kernel⟩⟩,
  ⟨(on |> flds [(F.CAM_ADAPT_STATUS_state, 130, 1), (F.CAM_ADAPT_CFG_pair_div, 130, 2), (F.GLB_SG_BOUNDARY_first, 0, 1)] |> adp 130 (fun a => { a with area := some 0x200000, masters := [4], pairs := [{ seq := 4, input := [1], target := [0x3F80] }] }) |> asks 0x0602 [130]), 0, (name5), (cmd5 0x0602 [130]), ⟨by unfold State.asked; decide +kernel, by decide +kernel⟩⟩,
  ⟨(on |> flds [(F.CAM_ADAPT_STATUS_state, 130, 0), (F.CAM_ADAPT_CFG_pair_div, 130, 2), (F.GLB_SG_BOUNDARY_first, 0, 1)] |> asks 0x0602 [130]), 0, (name5), (cmd5 0x0602 [130]), ⟨by unfold State.asked; decide +kernel, by decide +kernel⟩⟩,
  ⟨(on |> flds [(F.CAM_ADAPT_STATUS_state, 130, 1), (F.CAM_ADAPT_CFG_pair_div, 130, 2), (F.GLB_SG_BOUNDARY_first, 0, 1)] |> asks 0x0603 [130]), 0, (name5), (cmd5 0x0603 [130]), ⟨by unfold State.asked; decide +kernel, by decide +kernel⟩⟩,
  ⟨(on |> flds [(F.CAM_ADAPT_STATUS_state, 130, 2), (F.CAM_ADAPT_CFG_pair_div, 130, 2), (F.GLB_SG_BOUNDARY_first, 0, 1)] |> adp 130 (fun a => { a with causes := 2 ^ (cHost - 1) }) |> asks 0x0604 [130]), 0, (name5), (cmd5 0x0604 [130]), (cHost), ⟨by unfold State.asked; decide +kernel, by decide +kernel⟩⟩,
  ⟨(on |> flds [(F.CAM_ADAPT_STATUS_state, 130, 2), (F.CAM_ADAPT_CFG_pair_div, 130, 2), (F.GLB_SG_BOUNDARY_first, 0, 1)] |> adp 130 (fun a => { a with causes := 2 ^ (cUpdate - 1) }) |> asks 0x0604 [130]), 0, (name5), (cmd5 0x0604 [130]), ⟨by unfold State.asked; decide +kernel, by decide +kernel⟩⟩,
  ⟨(on |> flds [(F.CAM_ADAPT_STATUS_state, 130, 1), (F.CAM_ADAPT_CFG_pair_div, 130, 2), (F.GLB_SG_BOUNDARY_first, 0, 1)] |> adp 130 (fun a => { a with masters := [5] }) |> asks 0x0605 [130]), 0, (name5), (cmd5 0x0605 [130]), by unfold State.asked; decide +kernel⟩,
  ⟨(on |> flds [(F.CAM_ADAPT_STATUS_state, 130, 1), (F.CAM_ADAPT_CFG_pair_div, 130, 2), (F.GLB_SG_BOUNDARY_first, 0, 1)]|> flds [(F.MEM_GEOM_gib, 0, 1), (F.CAM_GEOM_width, 130, 64), (F.CAM_GEOM_height, 130, 64)] |> asks 0x0606 [130, 0x1000, 1]), 0, (name5), (cmd5 0x0606 [130, 0x1000, 1]), ([(0x1000, 7, 8)]), ⟨by unfold State.asked; decide +kernel, by decide +kernel⟩⟩,
  ⟨(on |> flds [(F.CAM_ADAPT_STATUS_state, 130, 1), (F.CAM_ADAPT_CFG_pair_div, 130, 2), (F.GLB_SG_BOUNDARY_first, 0, 1)]|> flds [(F.MEM_GEOM_gib, 0, 1), (F.CAM_GEOM_width, 130, 64), (F.CAM_GEOM_height, 130, 64)] |> asks 0x0606 [130, 0x1000, 1]), 0, (name5), (cmd5 0x0606 [130, 0x1000, 1]), ([(0x400000000000, 7, 8)]), ⟨by unfold State.asked; decide +kernel, by decide +kernel⟩⟩,
  ⟨(on |> flds [(F.CAM_ADAPT_STATUS_state, 130, 1), (F.CAM_ADAPT_CFG_pair_div, 130, 2), (F.GLB_SG_BOUNDARY_first, 0, 1)] |> boot (fun b => { b with models := b.models.set 9 (some { fn := 0, first := 0, cores := 1, encrypted := false, meas := [1, 2, 3, 4, 5, 6, 7, 8, 9, 10, 11, 12, 13, 14, 15, 16], img := { plain := [1], raw := [], size := 16, up := 1, down := 1, tChannels := 0, tFactor := false, enc := none, overlap := 0, cores := List.replicate 16 { instrs := [], layers := [], grids := [], descs := [], pads := [], dmaq := [], spad := 0 }, stages := [], head := some { layers := 1, cores := [0], int8 := true, bf16 := false, primary := 8, sA := 0, zpA := 0, chans := 1, k0 := 1, channels := [⟨0, 1, 0x3F800000, 0⟩], base := leBytes 1 3, at_ := 0 }, pins := [], weightBase := 0, weights := [] }, sealed_ := [], pins := [], counters := [] }) }) |> cam 130 (fun c => { c with model := some 9 }) |> asks 0x0607 [130, 0x1000]), 0, (name5), (cmd5 0x0607 [130, 0x1000]), ⟨by unfold State.asked; decide +kernel, by decide +kernel⟩⟩,
  ⟨(on |> flds [(F.CAM_ADAPT_STATUS_state, 130, 1), (F.CAM_ADAPT_CFG_pair_div, 130, 2), (F.GLB_SG_BOUNDARY_first, 0, 1)] |> boot (fun b => { b with models := b.models.set 9 (some { fn := 3, first := 0, cores := 1, encrypted := true, meas := [1, 2, 3, 4, 5, 6, 7, 8, 9, 10, 11, 12, 13, 14, 15, 16], img := { plain := [1], raw := [], size := 16, up := 1, down := 1, tChannels := 0, tFactor := false, enc := none, overlap := 0, cores := List.replicate 16 { instrs := [], layers := [], grids := [], descs := [], pads := [], dmaq := [], spad := 0 }, stages := [], head := some { layers := 1, cores := [0], int8 := true, bf16 := false, primary := 8, sA := 0, zpA := 0, chans := 1, k0 := 1, channels := [⟨0, 1, 0x3F800000, 0⟩], base := leBytes 1 3, at_ := 0 }, pins := [], weightBase := 0, weights := [] }, sealed_ := [], pins := [], counters := [] }) }) |> cam 130 (fun c => { c with model := some 9 }) |> asks 0x0607 [130, 0x1000]), 0, (name5), (cmd5 0x0607 [130, 0x1000]), ⟨by unfold State.asked; decide +kernel, by decide +kernel⟩⟩,
  ⟨(on |> flds [(F.CAM_ADAPT_STATUS_state, 130, 1), (F.CAM_ADAPT_CFG_pair_div, 130, 2), (F.GLB_SG_BOUNDARY_first, 0, 1)] |> boot (fun b => { b with models := b.models.set 9 (some { fn := 0, first := 0, cores := 1, encrypted := false, meas := [1, 2, 3, 4, 5, 6, 7, 8, 9, 10, 11, 12, 13, 14, 15, 16], img := { plain := [1], raw := [], size := 16, up := 1, down := 1, tChannels := 0, tFactor := false, enc := none, overlap := 0, cores := List.replicate 16 { instrs := [], layers := [], grids := [], descs := [], pads := [], dmaq := [], spad := 0 }, stages := [], head := some { layers := 1, cores := [0], int8 := true, bf16 := false, primary := 8, sA := 0, zpA := 0, chans := 1, k0 := 1, channels := [⟨0, 1, 0x3F800000, 0⟩], base := leBytes 1 3, at_ := 0 }, pins := [], weightBase := 0, weights := [] }, sealed_ := [], pins := [], counters := [] }) }) |> cam 130 (fun c => { c with model := some 9 }) |> asks 0x0608 [130, 0x1000]), 0, (name5), (cmd5 0x0608 [130, 0x1000]), ([1]), ({ layers := 1, cores := [0], int8 := true, bf16 := false, primary := 8, sA := 0, zpA := 0, chans := 1, k0 := 1, channels := [⟨0, 1, 0x3F800000, 0⟩], base := leBytes 1 3, at_ := 0 }), (1), ⟨by unfold State.asked; decide +kernel, by decide +kernel⟩⟩,
  ⟨(on |> flds [(F.CAM_ADAPT_STATUS_state, 130, 1), (F.CAM_ADAPT_CFG_pair_div, 130, 2), (F.GLB_SG_BOUNDARY_first, 0, 1)] |> boot (fun b => { b with models := b.models.set 9 (some { fn := 0, first := 0, cores := 1, encrypted := false, meas := [1, 2, 3, 4, 5, 6, 7, 8, 9, 10, 11, 12, 13, 14, 15, 16], img := { plain := [1], raw := [], size := 16, up := 1, down := 1, tChannels := 0, tFactor := false, enc := none, overlap := 0, cores := List.replicate 16 { instrs := [], layers := [], grids := [], descs := [], pads := [], dmaq := [], spad := 0 }, stages := [], head := some { layers := 1, cores := [0], int8 := true, bf16 := false, primary := 8, sA := 0, zpA := 0, chans := 1, k0 := 1, channels := [⟨0, 1, 0x3F800000, 0⟩], base := leBytes 1 3, at_ := 0 }, pins := [], weightBase := 0, weights := [] }, sealed_ := [], pins := [], counters := [] }) }) |> cam 130 (fun c => { c with model := some 9 }) |> asks 0x0608 [130, 0x1000]), 0, (name5), (cmd5 0x0608 [130, 0x1000]), (List.replicate headBytes 0), ({ layers := 1, cores := [0], int8 := true, bf16 := false, primary := 8, sA := 0, zpA := 0, chans := 1, k0 := 1, channels := [⟨0, 1, 0x3F800000, 0⟩], base := leBytes 1 3, at_ := 0 }), (1), ⟨by unfold State.asked; decide +kernel, by decide +kernel, by decide +kernel, by decide +kernel, headFits_zeros _⟩⟩⟩

theorem witness_StepRunsTheFrontCommand :
    (∃ (c : Instr) (rest : List Instr) (s : State), s.pending = c :: rest) ∧ ∃ s : State, s.pending = [] :=
  ⟨⟨.skipSend 0 3, [], State.reset.push (.skipSend 0 3), rfl⟩, State.reset, rfl⟩

theorem witness_TimeNeverDecreases :
    (∃ s : State, s.time.running = false) ∧ (∃ s : State, s.time.running = true) ∧ ∃ p : Part, p ∉ elapsedParts :=
  ⟨⟨tme (fun t => { t with running := false }) on, rfl⟩, ⟨tme (fun t => { t with running := true }) on, rfl⟩, .mem, by decide⟩

theorem witness_CommandsLeaveTheRestAsItIs :
    ∃ (i : Instr) (s t : State) (p : Part), exec i s = .next t ∧ p ∉ commandParts i :=
  ⟨.signalDetected 0 3, link 3 1 id on, _, .reg .IXL_CNT_CRC, rfl, by decide +kernel⟩

theorem witness_StepKeepsMemoryCanonical : ∃ s t : State, s.memOk ∧ s.queueOk ∧ step s = .next t :=
  ⟨State.reset.push (.signalDetected 0 3), _, rfl, rfl, rfl⟩

theorem witness_CommandsKeepWhatWasSent : ∃ (i : Instr) (s t : State), exec i s = .next t :=
  ⟨.signalDetected 0 3, link 3 1 id on, _, rfl⟩

theorem witness_EnrolmentIsPermanent :
    ∃ (i : Instr) (s t : State) (d : List Byte), exec i s = .next t ∧ s.sfl.enrol = some d :=
  ⟨.porstAssert 0, sfl (fun x => { x with enrol := some [1] }) on, _, [1], rfl, rfl⟩

theorem witness_UnusedOffsetsReadZero : ∃ (f : Fin 9) (a : Word), regAt f a.toNat = none ∧ aliasAt a.toNat = none :=
  ⟨0, 0x03FFFFFC, by decide +kernel, by decide +kernel⟩

theorem witness_ClippedShareExceedsThreshold :
    (∃ c : RecCnt, c.produced ≠ 0) ∧ (∃ c : RecCnt, c.produced = 0) ∧
    ∃ (c : RecCnt) (thr : Nat), c.produced ≠ 0 ∧ c.clipped * 2 ^ 20 = thr * c.produced :=
  ⟨⟨⟨1, 1, 0⟩, by decide⟩, ⟨⟨0, 0, 0⟩, rfl⟩, ⟨2 ^ 20, 7, 0⟩, 7, by decide, by decide⟩

theorem witness_VectorFieldsWrap : (∃ fn : Nat, fn = 0) ∧ ∃ fn : Nat, fn ≠ 0 := ⟨⟨0, rfl⟩, 8, by decide⟩

theorem witness_GridBeyondItsPlanFaults :
  (∃ (s : State) (dt : Nat) (i : Fin 16) (c : Fin 8) (gi : Byte) (p : BitVec 16) (r : BitVec 5),
    let u := s.elapse dt
    let g := gridOf ((u.core i).grids.get gi.toNat)
    (u.itsTurn i c) ∧ (u.arrayFree i = true) ∧ (g.fault = none) ∧ (g.mPlan < u.gridBound i c g.mSrc g.mIdx g.mPlan)) ∧
  (∃ (s : State) (dt : Nat) (i : Fin 16) (c : Fin 8) (gi : Byte) (p : BitVec 16) (r : BitVec 5),
    let u := s.elapse dt
    let g := gridOf ((u.core i).grids.get gi.toNat)
    (u.itsTurn i c) ∧ (u.arrayFree i = true) ∧ (g.fault = none) ∧ (g.nPlan < u.gridBound i c g.nSrc g.nIdx g.nPlan)) :=
  ⟨⟨(on |> flds [(F.LC_STATUS_state, 15, 3), (F.LC_CTX_STATUS_state, 121, 1)] |> (fun s => s.setRegN .LC_SPAD_SIZE 15 0x200000) |> flds [(F.GLB_SG_BOUNDARY_first, 0, 1), (F.SFL_GOV_duty_cap, 0, 256), (F.LC_CTX_STATUS_pc, 121, 4095)] |> core 15 (fun x => { x with grids := x.grids.set 127 (leBytes 2 (1 + 4) ++ leBytes 2 0 ++ leBytes 4 96 ++ leBytes 2 64 ++ leBytes 2 128 ++ leBytes 2 96 ++ leBytes 2 192 ++ leBytes 1 0x33 ++ leBytes 1 3 ++ leBytes 10 0 ++ leBytes 6 0xFFFFFFFFFFFF ++ leBytes 30 0) }) |> (fun s => s.modCtx 15 1 fun x => { x with sregs := x.sregs.set 0 5000 })), 0, (15), (1), (127), (255), (31), ⟨by unfold State.itsTurn; decide +kernel, by decide +kernel, by decide +kernel, by decide +kernel⟩⟩,
  ⟨(on |> flds [(F.LC_STATUS_state, 15, 3), (F.LC_CTX_STATUS_state, 121, 1)] |> (fun s => s.setRegN .LC_SPAD_SIZE 15 0x200000) |> flds [(F.GLB_SG_BOUNDARY_first, 0, 1), (F.SFL_GOV_duty_cap, 0, 256), (F.LC_CTX_STATUS_pc, 121, 4095)] |> core 15 (fun x => { x with grids := x.grids.set 127 (leBytes 2 (1 + 16) ++ leBytes 2 0 ++ leBytes 4 96 ++ leBytes 2 64 ++ leBytes 2 128 ++ leBytes 2 96 ++ leBytes 2 192 ++ leBytes 1 0x33 ++ leBytes 1 3 ++ leBytes 10 0 ++ leBytes 6 0xFFFFFFFFFFFF ++ leBytes 30 0) }) |> (fun s => s.modCtx 15 1 fun x => { x with sregs := x.sregs.set 0 961 })), 0, (15), (1), (127), (255), (31), ⟨by unfold State.itsTurn; decide +kernel, by decide +kernel, by decide +kernel, by decide +kernel⟩⟩⟩

/-- A full error log: 1,024 entries unread. -/
def fullLog (r : List ErrEntry) : State := { State.reset.setRegN .ERR_HEAD 0 1024 with log := { State.reset.log with ring := r } }

theorem witness_FullErrorLogDrops :
    (∃ (s : State) (cls src flags : Nat), 1 ≤ cls ∧ cls ≤ 15 ∧ s.errUnread = 1024 ∧ bit flags 0 = true) ∧
    (∃ (s : State) (cls src : Nat), 1 ≤ cls ∧ cls ≤ 15 ∧ s.errUnread = 1024 ∧ s.coalesceTarget cls src = none) ∧
    (∃ (s : State) (cls src flags : Nat) (x : ErrEntry), 1 ≤ cls ∧ cls ≤ 15 ∧ s.errUnread = 1024 ∧ bit flags 0 = false ∧
      s.coalesceTarget cls src = some x) ∧
    ∃ (s : State), s.errUnread = 1024 ∧ s.flag F.ERR_FIRST_CTL_valid = false :=
  ⟨⟨fullLog [], 15, 0, 1, by decide, by decide, by decide +kernel, by decide +kernel⟩,
   ⟨fullLog [], 1, 0, by decide, by decide, by decide +kernel, by decide +kernel⟩,
   ⟨fullLog [{ num := 1023, cls := 15, src := 5 }], 15, 5, 0, { num := 1023, cls := 15, src := 5 }, by decide, by decide,
     by decide +kernel, by decide +kernel, by decide +kernel⟩,
   fullLog [], by decide +kernel, by decide +kernel⟩

theorem witness_BlackLevelRoundsToEven :
    (∃ (t : Ppb) (c : Nat) (y q : Int), -2048 < max (y - t.bl c) 0 * t.norm c - 4096 * q ∧ max (y - t.bl c) 0 * t.norm c - 4096 * q < 2048) ∧
    ∃ (t : Ppb) (c : Nat) (y q : Int), max (y - t.bl c) 0 * t.norm c - 4096 * q = 2048 ∧ q % 2 = 0 :=
  ⟨⟨⟨0, [(0x2801, 4), (0x2808, 0x41), (0x2809, 0x10)]⟩, 0, 14900, 14096, by decide +kernel, by decide +kernel⟩,
   ⟨0, [(0x2809, 8)]⟩, 0, 1, 0, by decide +kernel, by decide +kernel⟩

theorem witness_OneUnitAlone :
    (∃ (s t : State) (p q : Fin 18), q ≠ p ∧ exec (.signalDetected 0 p) s = .next t) ∧
    (∃ (s t : State) (p q : Fin 16), q ≠ p ∧ exec (.tunnelHeldStart 0 p) s = .next t) ∧
    (∃ (s t : State) (n m : Fin 512), m ≠ n ∧ exec (.expoStage 0 n 7) s = .next t) ∧
    (∃ (s t : State) (i j : Fin 16), j ≠ i ∧ exec (.vectorComplete 0 i) s = .next t) ∧
    ∃ (s t : State) (f g : Fin 9), g ≠ f ∧ exec (.mailboxSend 0 f false 0x100) s = .next t :=
  ⟨⟨link 3 1 id on, _, 3, 17, by decide, rfl⟩, ⟨on, _, 15, 0, by decide, rfl⟩, ⟨on, _, 0, 511, by decide, rfl⟩,
   ⟨on, _, 15, 0, by decide, rfl⟩, on, _, 8, 0, by decide, rfl⟩

end Sys2Proof.Tests
end

section
/-! The statements of the family of scope: the frame of every command (O4), register accesses (O25), errors and fatal causes
(O31), commands that answer (O2) and offsets that hold no register (O9). Their lemmas stand before them. -/
namespace Sys2Proof.Machine

/-! ### The parts that a command touches (O4) -/

/-- Parts are compared by their numbers, which the kernel computes. -/
theorem sub_of_land {a b : Nat} (h : Nat.land a b = a) : Sub a b := h

/-- Every command touches only the parts that `commandParts` lists for it: its own lemma names the parts it may touch, and
these are among the listed ones. -/
theorem within_exec {i : Instr} {s t : State} (h : exec i s = .next t) : Within (partsMask (commandParts i)) s t := by
  cases i <;> dsimp only [commandParts]
  case ixlPortEnable dt p v => exact within_execIxlPortEnable dt p v (sub_of_land (by decide +kernel)) s t h
  case ixlPortDisable dt p v => exact within_execIxlPortDisable dt p v (sub_of_land (by decide +kernel)) s t h
  case ixlRetrainRequest dt p v => exact within_execIxlRetrainRequest dt p v (sub_of_land (by decide +kernel)) s t h
  case signalDetected dt p => exact within_execSignalDetected dt p (sub_of_land (by decide +kernel)) s t h
  case blockLockGained dt p => exact within_execBlockLockGained dt p (sub_of_land (by decide +kernel)) s t h
  case blockLockLost dt p => exact within_execBlockLockLost dt p (sub_of_land (by decide +kernel)) s t h
  case bringupLimitExpiry dt p => exact within_execBringupLimitExpiry dt p (sub_of_land (by decide +kernel)) s t h
  case bringupRetryWaitEnd dt p => exact within_execBringupRetryWaitEnd dt p (sub_of_land (by decide +kernel)) s t h
  case hubCapsPacket dt p k => exact within_execHubCapsPacket dt p k (sub_of_land (by decide +kernel)) s t h
  case videoPacket dt p k => exact within_execVideoPacket dt p k (sub_of_land (by decide +kernel)) s t h
  case embedPacket dt p k => exact within_execEmbedPacket dt p k (sub_of_land (by decide +kernel)) s t h
  case frameStartPacket dt p k => exact within_execFrameStartPacket dt p k (sub_of_land (by decide +kernel)) s t h
  case frameEndPacket dt p k => exact within_execFrameEndPacket dt p k (sub_of_land (by decide +kernel)) s t h
  case ctrlRespPacket dt p k => exact within_execCtrlRespPacket dt p k (sub_of_land (by decide +kernel)) s t h
  case slotChange dt p k => exact within_execSlotChange dt p k (sub_of_land (by decide +kernel)) s t h
  case replayGone dt p k => exact within_execReplayGone dt p k (sub_of_land (by decide +kernel)) s t h
  case hubFault dt p k => exact within_execHubFault dt p k (sub_of_land (by decide +kernel)) s t h
  case unknownHubStatus dt p k => exact within_execUnknownHubStatus dt p k (sub_of_land (by decide +kernel)) s t h
  case reservedPacket dt p k => exact within_execReservedPacket dt p k (sub_of_land (by decide +kernel)) s t h
  case packetFail dt p k => exact within_execPacketFail dt p k (sub_of_land (by decide +kernel)) s t h
  case duplicatePacket dt p k => exact within_execDuplicatePacket dt p k (sub_of_land (by decide +kernel)) s t h
  case replayTimerExpiry dt p => exact within_execReplayTimerExpiry dt p (sub_of_land (by decide +kernel)) s t h
  case ackTimer dt p => exact within_execAckTimer dt p (sub_of_land (by decide +kernel)) s t h
  case creditTimer dt p => exact within_execCreditTimer dt p (sub_of_land (by decide +kernel)) s t h
  case skipSend dt p => exact within_execSkipSend dt p (sub_of_land (by decide +kernel)) s t h
  case tunnelRequest dt p r => exact within_execTunnelRequest dt p r (sub_of_land (by decide +kernel)) s t h
  case tunnelHeldStart dt p => exact within_execTunnelHeldStart dt p (sub_of_land (by decide +kernel)) s t h
  case tunnelTimeout dt p tag => exact within_execTunnelTimeout dt p tag (sub_of_land (by decide +kernel)) s t h
  case triggerLaunch dt p l => exact within_execTriggerLaunch dt p l (sub_of_land (by decide +kernel)) s t h
  case missedFrameDeadline dt n => exact within_execMissedFrameDeadline dt n (sub_of_land (by decide +kernel)) s t h
  case closeTimeout dt n => exact within_execCloseTimeout dt n (sub_of_land (by decide +kernel)) s t h
  case aliasWrite dt f a v => exact within_execAliasWrite dt f a v (sub_of_land (by decide +kernel)) s t h
  case sgBoundaryWrite dt v => exact within_execSgBoundaryWrite dt v (sub_of_land (by decide +kernel)) s t h
  case sourceSelect dt v => exact within_execSourceSelect dt v (sub_of_land (by decide +kernel)) s t h
  case ptmDialogueStart dt => exact within_execPtmDialogueStart dt (sub_of_land (by decide +kernel)) s t h
  case ptmDialogueComplete dt master loc =>
    exact within_execPtmDialogueComplete dt master loc (sub_of_land (by decide +kernel)) s t h
  case measurementFail dt => exact within_execMeasurementFail dt (sub_of_land (by decide +kernel)) s t h
  case slewEnd dt => exact within_execSlewEnd dt (sub_of_land (by decide +kernel)) s t h
  case hardSet dt => exact within_execHardSet dt (sub_of_land (by decide +kernel)) s t h
  case syncSymbolEmit dt => exact within_execSyncSymbolEmit dt (sub_of_land (by decide +kernel)) s t h
  case syncSymbolReceived dt time acc early held =>
    exact within_execSyncSymbolReceived dt time acc early held (sub_of_land (by decide +kernel)) s t h
  case syncSymbolMissing dt => exact within_execSyncSymbolMissing dt (sub_of_land (by decide +kernel)) s t h
  case scheduleEnable dt g => exact within_execScheduleEnable dt g (sub_of_land (by decide +kernel)) s t h
  case scheduleDisable dt g => exact within_execScheduleDisable dt g (sub_of_land (by decide +kernel)) s t h
  case scheduleTick dt g => exact within_execScheduleTick dt g (sub_of_land (by decide +kernel)) s t h
  case syncOutEnable dt ix v => exact within_execSyncOutEnable dt ix v (sub_of_land (by decide +kernel)) s t h
  case syncOutEdge dt ix => exact within_execSyncOutEdge dt ix (sub_of_land (by decide +kernel)) s t h
  case syncOutPulseEnd dt ix => exact within_execSyncOutPulseEnd dt ix (sub_of_land (by decide +kernel)) s t h
  case timeSnapEdge dt => exact within_execTimeSnapEdge dt (sub_of_land (by decide +kernel)) s t h
  case snapRead dt f => exact within_execSnapRead dt f (sub_of_land (by decide +kernel)) s t h
  case pairLowRead dt f a => exact within_execPairLowRead dt f a (sub_of_land (by decide +kernel)) s t h
  case pairLowWrite dt f a v => exact within_execPairLowWrite dt f a v (sub_of_land (by decide +kernel)) s t h
  case pairHighWrite dt f a v => exact within_execPairHighWrite dt f a v (sub_of_land (by decide +kernel)) s t h
  case registerWrite dt f a wide v => exact within_execRegisterWrite dt f a wide v (sub_of_land (by decide +kernel)) s t h
  case expoStage dt n v => exact within_execExpoStage dt n v (sub_of_land (by decide +kernel)) s t h
  case wbGainWrite dt n v => exact within_execWbGainWrite dt n v (sub_of_land (by decide +kernel)) s t h
  case aeLoopStep dt n => exact within_execAeLoopStep dt n (sub_of_land (by decide +kernel)) s t h
  case awbLoopStep dt n => exact within_execAwbLoopStep dt n (sub_of_land (by decide +kernel)) s t h
  case ppbSelect dt n v => exact within_execPpbSelect dt n v (sub_of_land (by decide +kernel)) s t h
  case outCredit dt n v => exact within_execOutCredit dt n v (sub_of_land (by decide +kernel)) s t h
  case dmaRegulatorWrite dt ix v => exact within_execDmaRegulatorWrite dt ix v (sub_of_land (by decide +kernel)) s t h
  case streamStart dt r => exact within_execStreamStart dt r (sub_of_land (by decide +kernel)) s t h
  case streamStopDrain dt r => exact within_execStreamStopDrain dt r (sub_of_land (by decide +kernel)) s t h
  case streamStopAbort dt r => exact within_execStreamStopAbort dt r (sub_of_land (by decide +kernel)) s t h
  case streamStopped dt n => exact within_execStreamStopped dt n (sub_of_land (by decide +kernel)) s t h
  case workShareQueue dt g w n q k => exact within_execWorkShareQueue dt g w n q k (sub_of_land (by decide +kernel)) s t h
  case stripeLaunch dt g w n q k at_ => exact within_execStripeLaunch dt g w n q k at_ (sub_of_land (by decide +kernel)) s t h
  case stripeBoundary dt ix => exact within_execStripeBoundary dt ix (sub_of_land (by decide +kernel)) s t h
  case printStripe dt n q k rows => exact within_execPrintStripe dt n q k rows (sub_of_land (by decide +kernel)) s t h
  case outputRowWrite dt n q o features =>
    exact within_execOutputRowWrite dt n q o features (sub_of_land (by decide +kernel)) s t h
  case outputPoolTimeout dt n q => exact within_execOutputPoolTimeout dt n q (sub_of_land (by decide +kernel)) s t h
  case outputRowComplete dt n q => exact within_execOutputRowComplete dt n q (sub_of_land (by decide +kernel)) s t h
  case slotHeaderComplete dt n q => exact within_execSlotHeaderComplete dt n q (sub_of_land (by decide +kernel)) s t h
  case arrayTile dt ix c o => exact within_execArrayTile dt ix c o (sub_of_land (by decide +kernel)) s t h
  case arrayComplete dt ix => exact within_execArrayComplete dt ix (sub_of_land (by decide +kernel)) s t h
  case vectorOp dt ix c f srcs dst lines record =>
    exact within_execVectorOp dt ix c f srcs dst lines record (sub_of_land (by decide +kernel)) s t h
  case vectorConvert dt ix c o => exact within_execVectorConvert dt ix c o (sub_of_land (by decide +kernel)) s t h
  case vectorReduction dt ix c f src dst lines =>
    exact within_execVectorReduction dt ix c f src dst lines (sub_of_land (by decide +kernel)) s t h
  case vectorComplete dt ix => exact within_execVectorComplete dt ix (sub_of_land (by decide +kernel)) s t h
  case rescaleLoad dt ix c src e n => exact within_execRescaleLoad dt ix c src e n (sub_of_land (by decide +kernel)) s t h
  case grid dt ix c g p r => exact within_execGrid dt ix c g p r (sub_of_land (by decide +kernel)) s t h
  case gridTileIssue dt ix c => exact within_execGridTileIssue dt ix c (sub_of_land (by decide +kernel)) s t h
  case rchk dt ix c record => exact within_execRchk dt ix c record (sub_of_land (by decide +kernel)) s t h
  case controlWait dt ix c w => exact within_execControlWait dt ix c w (sub_of_land (by decide +kernel)) s t h
  case barrierArrive dt ix c b => exact within_execBarrierArrive dt ix c b (sub_of_land (by decide +kernel)) s t h
  case barrierWait dt ix c b phase => exact within_execBarrierWait dt ix c b phase (sub_of_land (by decide +kernel)) s t h
  case barrierTimeout dt ix c => exact within_execBarrierTimeout dt ix c (sub_of_land (by decide +kernel)) s t h
  case ringReceivePost dt ix c a len => exact within_execRingReceivePost dt ix c a len (sub_of_land (by decide +kernel)) s t h
  case ringSend dt ix c a len mask => exact within_execRingSend dt ix c a len mask (sub_of_land (by decide +kernel)) s t h
  case ringComplete dt ix => exact within_execRingComplete dt ix (sub_of_land (by decide +kernel)) s t h
  case ringTimeout dt ix c => exact within_execRingTimeout dt ix c (sub_of_land (by decide +kernel)) s t h
  case wcDraw dt ix c w => exact within_execWcDraw dt ix c w (sub_of_land (by decide +kernel)) s t h
  case wcCommit dt ix c => exact within_execWcCommit dt ix c (sub_of_land (by decide +kernel)) s t h
  case leaseRenew dt ix => exact within_execLeaseRenew dt ix (sub_of_land (by decide +kernel)) s t h
  case leaseExpiry dt g w idx => exact within_execLeaseExpiry dt g w idx (sub_of_land (by decide +kernel)) s t h
  case spadEccError dt ix c pc uncorrectable =>
    exact within_execSpadEccError dt ix c pc uncorrectable (sub_of_land (by decide +kernel)) s t h
  case coreRestoreComplete dt ix => exact within_execCoreRestoreComplete dt ix (sub_of_land (by decide +kernel)) s t h
  case dmaInstruction dt ix c o => exact within_execDmaInstruction dt ix c o (sub_of_land (by decide +kernel)) s t h
  case dmaTransferPlace dt ix => exact within_execDmaTransferPlace dt ix (sub_of_land (by decide +kernel)) s t h
  case dmaPieceIssue dt ix write returned =>
    exact within_execDmaPieceIssue dt ix write returned (sub_of_land (by decide +kernel)) s t h
  case dmaRowDelivered dt ix q k row host =>
    exact within_execDmaRowDelivered dt ix q k row host (sub_of_land (by decide +kernel)) s t h
  case faultWalk dt ix q => exact within_execFaultWalk dt ix q (sub_of_land (by decide +kernel)) s t h
  case faultWaitExpiry dt ix q => exact within_execFaultWaitExpiry dt ix q (sub_of_land (by decide +kernel)) s t h
  case holdCacheRequest dt x line acc noAlloc key o =>
    exact within_execHoldCacheRequest dt x line acc noAlloc key o (sub_of_land (by decide +kernel)) s t h
  case ddr5ReadReturn dt c cipher side => exact within_execDdr5ReadReturn dt c cipher side (sub_of_land (by decide +kernel)) s t h
  case ddr5RequestServe dt c held => exact within_execDdr5RequestServe dt c held (sub_of_land (by decide +kernel)) s t h
  case ddr5BlockWrite dt line => exact within_execDdr5BlockWrite dt line (sub_of_land (by decide +kernel)) s t h
  case refreshInterval dt c => exact within_execRefreshInterval dt c (sub_of_land (by decide +kernel)) s t h
  case dramHot dt => exact within_execDramHot dt (sub_of_land (by decide +kernel)) s t h
  case trainingPair dt n q input => exact within_execTrainingPair dt n q input (sub_of_land (by decide +kernel)) s t h
  case reversePipelineRun dt n q => exact within_execReversePipelineRun dt n q (sub_of_land (by decide +kernel)) s t h
  case trainingStripeQueue dt n w => exact within_execTrainingStripeQueue dt n w (sub_of_land (by decide +kernel)) s t h
  case trainingStep dt n => exact within_execTrainingStep dt n (sub_of_land (by decide +kernel)) s t h
  case candidateEncode dt n => exact within_execCandidateEncode dt n (sub_of_land (by decide +kernel)) s t h
  case gateDecision dt n => exact within_execGateDecision dt n (sub_of_land (by decide +kernel)) s t h
  case headSetStage dt n => exact within_execHeadSetStage dt n (sub_of_land (by decide +kernel)) s t h
  case adaptBudgetWindowEnd dt ix => exact within_execAdaptBudgetWindowEnd dt ix (sub_of_land (by decide +kernel)) s t h
  case cqEnable dt f q v => exact within_execCqEnable dt f q v (sub_of_land (by decide +kernel)) s t h
  case cqDisable dt f q v => exact within_execCqDisable dt f q v (sub_of_land (by decide +kernel)) s t h
  case cqTailDoorbell dt f q v => exact within_execCqTailDoorbell dt f q v (sub_of_land (by decide +kernel)) s t h
  case rqHeadDoorbell dt f q v => exact within_execRqHeadDoorbell dt f q v (sub_of_land (by decide +kernel)) s t h
  case commandFetch dt f q bytes => exact within_execCommandFetch dt f q bytes (sub_of_land (by decide +kernel)) s t h
  case commandStart dt => exact within_execCommandStart dt (sub_of_land (by decide +kernel)) s t h
  case interruptModerationTimer dt f q => exact within_execInterruptModerationTimer dt f q (sub_of_land (by decide +kernel)) s t h
  case evqEnable dt f v => exact within_execEvqEnable dt f v (sub_of_land (by decide +kernel)) s t h
  case mailboxSend dt f sfl v => exact within_execMailboxSend dt f sfl v (sub_of_land (by decide +kernel)) s t h
  case mailboxReadLast dt f ch => exact within_execMailboxReadLast dt f ch (sub_of_land (by decide +kernel)) s t h
  case ping dt f cp => exact within_execPing dt f cp (sub_of_land (by decide +kernel)) s t h
  case limitSet dt => exact within_execLimitSet dt (sub_of_land (by decide +kernel)) s t h
  case govQuery dt => exact within_execGovQuery dt (sub_of_land (by decide +kernel)) s t h
  case pinClaim dt v => exact within_execPinClaim dt v (sub_of_land (by decide +kernel)) s t h
  case pinRelease dt v => exact within_execPinRelease dt v (sub_of_land (by decide +kernel)) s t h
  case profileLoad dt r bytes => exact within_execProfileLoad dt r bytes (sub_of_land (by decide +kernel)) s t h
  case sensorXfer dt r => exact within_execSensorXfer dt r (sub_of_land (by decide +kernel)) s t h
  case camGrant dt r => exact within_execCamGrant dt r (sub_of_land (by decide +kernel)) s t h
  case camRings dt r => exact within_execCamRings dt r (sub_of_land (by decide +kernel)) s t h
  case modelLoad dt r img => exact within_execModelLoad dt r img (sub_of_land (by decide +kernel)) s t h
  case modelUnload dt r => exact within_execModelUnload dt r (sub_of_land (by decide +kernel)) s t h
  case modelBind dt r => exact within_execModelBind dt r (sub_of_land (by decide +kernel)) s t h
  case calibCapture dt r => exact within_execCalibCapture dt r (sub_of_land (by decide +kernel)) s t h
  case modelInfo dt r => exact within_execModelInfo dt r (sub_of_land (by decide +kernel)) s t h
  case map_ dt r => exact within_execMap dt r (sub_of_land (by decide +kernel)) s t h
  case unmap dt r => exact within_execUnmap dt r (sub_of_land (by decide +kernel)) s t h
  case move_ dt r => exact within_execMove dt r (sub_of_land (by decide +kernel)) s t h
  case memGrant dt r => exact within_execMemGrant dt r (sub_of_land (by decide +kernel)) s t h
  case memRevoke dt r => exact within_execMemRevoke dt r (sub_of_land (by decide +kernel)) s t h
  case faultResume dt r => exact within_execFaultResume dt r (sub_of_land (by decide +kernel)) s t h
  case fwPool dt r => exact within_execFwPool dt r (sub_of_land (by decide +kernel)) s t h
  case attest dt r => exact within_execAttest dt r (sub_of_land (by decide +kernel)) s t h
  case keyEphemeral dt r => exact within_execKeyEphemeral dt r (sub_of_land (by decide +kernel)) s t h
  case keyImport dt r blob => exact within_execKeyImport dt r blob (sub_of_land (by decide +kernel)) s t h
  case ephemeralKeyExpiry dt f => exact within_execEphemeralKeyExpiry dt f (sub_of_land (by decide +kernel)) s t h
  case tenantEnable dt r => exact within_execTenantEnable dt r (sub_of_land (by decide +kernel)) s t h
  case tenantKill dt r => exact within_execTenantKill dt r (sub_of_land (by decide +kernel)) s t h
  case scrubOnchipComplete dt k => exact within_execScrubOnchipComplete dt k (sub_of_land (by decide +kernel)) s t h
  case scrubMemoryComplete dt k => exact within_execScrubMemoryComplete dt k (sub_of_land (by decide +kernel)) s t h
  case snufferClearComplete dt => exact within_execSnufferClearComplete dt (sub_of_land (by decide +kernel)) s t h
  case policySubmit dt r bytes => exact within_execPolicySubmit dt r bytes (sub_of_land (by decide +kernel)) s t h
  case privEnrol dt r key => exact within_execPrivEnrol dt r key (sub_of_land (by decide +kernel)) s t h
  case fwStage dt r img => exact within_execFwStage dt r img (sub_of_land (by decide +kernel)) s t h
  case fwSwitch dt r => exact within_execFwSwitch dt r (sub_of_land (by decide +kernel)) s t h
  case fwSwitchBegin dt => exact within_execFwSwitchBegin dt (sub_of_land (by decide +kernel)) s t h
  case cpReloadComplete dt ok => exact within_execCpReloadComplete dt ok (sub_of_land (by decide +kernel)) s t h
  case fwResumeTimeout dt => exact within_execFwResumeTimeout dt (sub_of_land (by decide +kernel)) s t h
  case fwSwitchComplete dt => exact within_execFwSwitchComplete dt (sub_of_land (by decide +kernel)) s t h
  case timeGet dt r => exact within_execTimeGet dt r (sub_of_land (by decide +kernel)) s t h
  case schedApply dt r => exact within_execSchedApply dt r (sub_of_land (by decide +kernel)) s t h
  case adaptStart dt r => exact within_execAdaptStart dt r (sub_of_land (by decide +kernel)) s t h
  case adaptStop dt r => exact within_execAdaptStop dt r (sub_of_land (by decide +kernel)) s t h
  case adaptPause dt r => exact within_execAdaptPause dt r (sub_of_land (by decide +kernel)) s t h
  case adaptResume dt r => exact within_execAdaptResume dt r (sub_of_land (by decide +kernel)) s t h
  case adaptRevert dt r => exact within_execAdaptRevert dt r (sub_of_land (by decide +kernel)) s t h
  case adaptRefs dt r refs => exact within_execAdaptRefs dt r refs (sub_of_land (by decide +kernel)) s t h
  case adaptExport dt r => exact within_execAdaptExport dt r (sub_of_land (by decide +kernel)) s t h
  case adaptImport dt r bytes => exact within_execAdaptImport dt r bytes (sub_of_land (by decide +kernel)) s t h
  case counterRead dt r => exact within_execCounterRead dt r (sub_of_land (by decide +kernel)) s t h
  case traceRead dt r => exact within_execTraceRead dt r (sub_of_land (by decide +kernel)) s t h
  case layerTotals dt r => exact within_execLayerTotals dt r (sub_of_land (by decide +kernel)) s t h
  case errlogRead dt r => exact within_execErrlogRead dt r (sub_of_land (by decide +kernel)) s t h
  case unitResetCore dt r => exact within_execUnitResetCore dt r (sub_of_land (by decide +kernel)) s t h
  case unitResetPort dt r => exact within_execUnitResetPort dt r (sub_of_land (by decide +kernel)) s t h
  case unitResetStageGroup dt r => exact within_execUnitResetStageGroup dt r (sub_of_land (by decide +kernel)) s t h
  case unitResetTenant dt r => exact within_execUnitResetTenant dt r (sub_of_land (by decide +kernel)) s t h
  case echo dt r => exact within_execEcho dt r (sub_of_land (by decide +kernel)) s t h
  case chainStatus dt r => exact within_execChainStatus dt r (sub_of_land (by decide +kernel)) s t h
  case portForward dt r targetOk pathOk =>
    exact within_execPortForward dt r targetOk pathOk (sub_of_land (by decide +kernel)) s t h
  case portReturn dt r targetOk => exact within_execPortReturn dt r targetOk (sub_of_land (by decide +kernel)) s t h
  case windowOpen dt r => exact within_execWindowOpen dt r (sub_of_land (by decide +kernel)) s t h
  case windowClose dt r => exact within_execWindowClose dt r (sub_of_land (by decide +kernel)) s t h
  case posBlockReceived dt chd q => exact within_execPosBlockReceived dt chd q (sub_of_land (by decide +kernel)) s t h
  case fwdPkt dt q d p stamp k => exact within_execFwdPkt dt q d p stamp k (sub_of_land (by decide +kernel)) s t h
  case fwdCtl dt q d p len x => exact within_execFwdCtl dt q d p len x (sub_of_land (by decide +kernel)) s t h
  case peerWr dt q d info bytes => exact within_execPeerWr dt q d info bytes (sub_of_land (by decide +kernel)) s t h
  case peerAck dt q d info => exact within_execPeerAck dt q d info (sub_of_land (by decide +kernel)) s t h
  case chainMsg dt q d len m => exact within_execChainMsg dt q d len m (sub_of_land (by decide +kernel)) s t h
  case chainStatusPacket dt q len reach timeState enrol seq =>
    exact within_execChainStatusPacket dt q len reach timeState enrol seq (sub_of_land (by decide +kernel)) s t h
  case statusSendTimer dt => exact within_execStatusSendTimer dt (sub_of_land (by decide +kernel)) s t h
  case presenceTimeout dt q => exact within_execPresenceTimeout dt q (sub_of_land (by decide +kernel)) s t h
  case forwardTakeback dt p => exact within_execForwardTakeback dt p (sub_of_land (by decide +kernel)) s t h
  case delayReqTimer dt => exact within_execDelayReqTimer dt (sub_of_land (by decide +kernel)) s t h
  case delayReq dt => exact within_execDelayReq dt (sub_of_land (by decide +kernel)) s t h
  case delayResp dt turn => exact within_execDelayResp dt turn (sub_of_land (by decide +kernel)) s t h
  case sclkStop dt => exact within_execSclkStop dt (sub_of_land (by decide +kernel)) s t h
  case vddSflOutOfRange dt => exact within_execVddSflOutOfRange dt (sub_of_land (by decide +kernel)) s t h
  case sflWatchdogExpiry dt => exact within_execSflWatchdogExpiry dt (sub_of_land (by decide +kernel)) s t h
  case safelightRestartComplete dt => exact within_execSafelightRestartComplete dt (sub_of_land (by decide +kernel)) s t h
  case privHoldAssert dt => exact within_execPrivHoldAssert dt (sub_of_land (by decide +kernel)) s t h
  case privHoldDeassert dt => exact within_execPrivHoldDeassert dt (sub_of_land (by decide +kernel)) s t h
  case powerSample dt mw => exact within_execPowerSample dt mw (sub_of_land (by decide +kernel)) s t h
  case junctionRead dt temps => exact within_execJunctionRead dt temps (sub_of_land (by decide +kernel)) s t h
  case governorEvaluation dt => exact within_execGovernorEvaluation dt (sub_of_land (by decide +kernel)) s t h
  case thermComparatorTrip dt => exact within_execThermComparatorTrip dt (sub_of_land (by decide +kernel)) s t h
  case engineMemoryError dt => exact within_execEngineMemoryError dt (sub_of_land (by decide +kernel)) s t h
  case engineResetComplete dt => exact within_execEngineResetComplete dt (sub_of_land (by decide +kernel)) s t h
  case errRelease dt v => exact within_execErrRelease dt v (sub_of_land (by decide +kernel)) s t h
  case errFirstClear dt => exact within_execErrFirstClear dt (sub_of_land (by decide +kernel)) s t h
  case clockLossOfLock dt k => exact within_execClockLossOfLock dt k (sub_of_land (by decide +kernel)) s t h
  case controlMemoryError dt cp => exact within_execControlMemoryError dt cp (sub_of_land (by decide +kernel)) s t h
  case cpWatchdogExpiry dt cp => exact within_execCpWatchdogExpiry dt cp (sub_of_land (by decide +kernel)) s t h
  case flrPf dt => exact within_execFlrPf dt (sub_of_land (by decide +kernel)) s t h
  case flrVf dt k => exact within_execFlrVf dt k (sub_of_land (by decide +kernel)) s t h
  case vfEnableClear dt => exact within_execVfEnableClear dt (sub_of_land (by decide +kernel)) s t h
  case poisonedTlpWrite dt f => exact within_execPoisonedTlpWrite dt f (sub_of_land (by decide +kernel)) s t h
  case perstAssert dt => exact within_execPerstAssert dt (sub_of_land (by decide +kernel)) s t h
  case hotReset dt => exact within_execHotReset dt (sub_of_land (by decide +kernel)) s t h
  case startupBegin dt pos => exact within_execStartupBegin dt pos (sub_of_land (by decide +kernel)) s t h
  case clocksLocked dt => exact within_execClocksLocked dt (sub_of_land (by decide +kernel)) s t h
  case pllLockTimeout dt => exact within_execPllLockTimeout dt (sub_of_land (by decide +kernel)) s t h
  case imageAccepted dt a b selfTest => exact within_execImageAccepted dt a b selfTest (sub_of_land (by decide +kernel)) s t h
  case memTrainingDone dt failed => exact within_execMemTrainingDone dt failed (sub_of_land (by decide +kernel)) s t h
  case memInitDone dt err => exact within_execMemInitDone dt err (sub_of_land (by decide +kernel)) s t h
  case startupReady dt => exact within_execStartupReady dt (sub_of_land (by decide +kernel)) s t h
  case railDip dt => exact within_execRailDip dt (sub_of_land (by decide +kernel)) s t h
  case bypass dt => exact within_execBypass dt (sub_of_land (by decide +kernel)) s t h
  case idcode dt => exact within_execIdcode dt (sub_of_land (by decide +kernel)) s t h
  case samplePreload dt levels preload => exact within_execSamplePreload dt levels preload (sub_of_land (by decide +kernel)) s t h
  case extest dt => exact within_execExtest dt (sub_of_land (by decide +kernel)) s t h
  case extestPulse dt => exact within_execExtestPulse dt (sub_of_land (by decide +kernel)) s t h
  case extestTrain dt => exact within_execExtestTrain dt (sub_of_land (by decide +kernel)) s t h
  case smbPartId dt => exact within_execSmbPartId dt (sub_of_land (by decide +kernel)) s t h
  case smbBootStatus dt => exact within_execSmbBootStatus dt (sub_of_land (by decide +kernel)) s t h
  case smbTemperature dt => exact within_execSmbTemperature dt (sub_of_land (by decide +kernel)) s t h
  case smbPower dt => exact within_execSmbPower dt (sub_of_land (by decide +kernel)) s t h
  case smbGovernor dt => exact within_execSmbGovernor dt (sub_of_land (by decide +kernel)) s t h
  case smbFatal dt => exact within_execSmbFatal dt (sub_of_land (by decide +kernel)) s t h
  case porstAssert dt => exact within_execPorstAssert dt (sub_of_land (by decide +kernel)) s t h
  case hostErrorCompletion dt w => exact within_execHostErrorCompletion dt w (sub_of_land (by decide +kernel)) s t h
  case ixlWordClockLoss dt p => exact within_execIxlWordClockLoss dt p (sub_of_land (by decide +kernel)) s t h
  case scheduleApplyTime dt g => exact within_execScheduleApplyTime dt g (sub_of_land (by decide +kernel)) s t h
  case dramHotEnd dt => exact within_execDramHotEnd dt (sub_of_land (by decide +kernel)) s t h
  case configurationRequest dt req w => exact within_execConfigurationRequest dt req w (sub_of_land (by decide +kernel)) s t h
  case cpStartTimeout dt cp => exact within_execCpStartTimeout dt cp (sub_of_land (by decide +kernel)) s t h

/-! ### The meanings of the commands named below, after their time has passed -/

/-- A command answers any state that equals the one its meaning gives. -/
theorem exec_next {i : Instr} {s u t : State} (h : exec i s = .next u) (e : u = t) : exec i s = .next t := e ▸ h

theorem onBus_of_answers {s : State} {b : Block} (body : State → State) (h : s.answers b = true) : s.onBus b body = body s :=
  if_pos h

theorem exec_registerWrite (dt : Nat) (f : Fin 9) (a : Word) (n : Nat) (v : BitVec 64) (s : State) :
    exec (.registerWrite dt f a n v) s = .next ((s.elapse dt).busWrite f a.toNat n v.toNat) := rfl

theorem exec_pairLowRead (dt : Nat) (f : Fin 9) (a : BusRead) (s : State) :
    exec (.pairLowRead dt f a) s = .next ((s.elapse dt).busRead f a.at_.toNat a.bytes) := rfl

theorem exec_pairLowWrite (dt : Nat) (f : Fin 9) (a v : Word) (s : State) :
    exec (.pairLowWrite dt f a v) s = .next ((s.elapse dt).halfWrite f a.toNat .low v.toNat) := rfl

theorem exec_pairHighWrite (dt : Nat) (f : Fin 9) (a v : Word) (s : State) :
    exec (.pairHighWrite dt f a v) s = .next ((s.elapse dt).halfWrite f a.toNat .high v.toNat) := rfl

theorem exec_aliasWrite (dt : Nat) (f : Fin 9) (a v : Word) (s : State) :
    exec (.aliasWrite dt f a v) s = .next ((s.elapse dt).aliasWrite f a.toNat v.toNat) := rfl

theorem exec_sgBoundaryWrite (dt : Nat) (v : Word) (s : State) :
    exec (.sgBoundaryWrite dt v) s = .next ((s.elapse dt).onBus .GLB fun s => s.sgBoundaryWrite v.toNat) := rfl

theorem exec_errRelease (dt : Nat) (v : Word) (s : State) :
    exec (.errRelease dt v) s = .next ((s.elapse dt).onBus .ERR fun s => s.errReleaseWrite v.toNat) := rfl

theorem exec_errFirstClear (dt : Nat) (s : State) :
    exec (.errFirstClear dt) s = .next ((s.elapse dt).onBus .ERR fun s => s.errFirstWrite 1) := rfl

theorem exec_clockLossOfLock (dt : Nat) (k : Fin 5) (s : State) :
    exec (.clockLossOfLock dt k) s = .next ((s.elapse dt).clockLost k) := rfl

theorem exec_controlMemoryError (dt : Nat) (cp : Fin 4) (s : State) :
    exec (.controlMemoryError dt cp) s = .next ((s.elapse dt).controlMemoryError cp) := rfl

theorem exec_cpWatchdogExpiry (dt : Nat) (cp : Fin 4) (s : State) :
    exec (.cpWatchdogExpiry dt cp) s = .next ((s.elapse dt).cpWatchdog cp) := rfl

/-! ### Offsets that hold no register (R6, R8) -/

section
variable {f a : Nat} (hr : regAt f a = none) (ha : aliasAt a = none)
include hr ha

theorem pairAt_unused : pairAt f a = false := by
  simp [pairAt, hr, ha]

theorem State.writeAt_unused (s : State) (v : Nat) : s.writeAt f a v = s := by
  simp [State.writeAt, State.aliasWrite, hr, ha]

/-- R6, R8: a write of any width finds no register to write. -/
theorem State.busWrite_unused (s : State) (n v : Nat) : s.busWrite f a n v = s := by
  simp [State.busWrite, State.writeAt_unused hr ha, pairAt_unused hr ha]

/-- R6, R8: a read of any width returns zero. -/
theorem State.busRead_unused (s : State) (n : Nat) : s.busRead f a n = s.emit (.readData f 0) := by
  simp [State.busRead, State.readAt, hr, pairAt_unused hr ha]

end

/-! ### Single bits -/

/-- A bit is a field of width 1. -/
theorem bit_eq_getBits (x k : Nat) : bit x k = (getBits x k 1 == 1) := rfl

theorem bit_putBits_zero (x k : Nat) : bit (putBits x k 1 0) k = false := by
  rw [bit_eq_getBits, getBits_putBits]; rfl

theorem bit_setBit (x k : Nat) : bit (setBit x k) k = true := by
  unfold setBit
  split
  · assumption
  · rename_i h
    simp only [bit, beq_iff_eq, Nat.add_div_right _ (Nat.two_pow_pos k)] at h ⊢
    omega

/-- A register keeps the bits below 32 of a number written into it. -/
theorem State.bit_regN_setRegN (s : State) (r : RegName) (i v k : Nat) (hk : k < 32) :
    bit ((s.setRegN r i v).regN r i) k = bit v k := by
  rw [State.regN_setRegN, bit_eq_getBits, getBits_mod _ _ _ _ hk, ← bit_eq_getBits]

/-! ### Releasing errors (R433, R434) -/

theorem errReleaseWrite_tail (u : State) (v : Word) : (u.errReleaseWrite v.toNat).regN .ERR_TAIL =
    (u.regN .ERR_TAIL + min (min (v.toNat % 2048) 1024) u.errUnread) % 2 ^ 32 := by
  simp [State.errReleaseWrite, State.errRelease, getBits]

theorem errFirstWrite_rearms (u : State) (h : u.sameCycle .ERR_FIRST_CTL 0 = 0) :
    (u.errFirstWrite 1).fld F.ERR_FIRST_CTL_valid = 0 := by
  have hb : bit 1 0 = true ∧ u.sameCycle .ERR_FIRST_CTL 0 = 0 := ⟨by decide, h⟩
  rw [State.errFirstWrite, if_pos hb, State.fld_setFld _ _ _ _ (by decide)]
  rfl

theorem errFirstWrite_held (u : State) (h : u.sameCycle .ERR_FIRST_CTL 0 ≠ 0) : u.errFirstWrite 1 = u :=
  if_neg fun hb => h hb.2

/-! ### The fatal state (R435, R436) -/

@[simp] theorem State.fatalError_fatal (s : State) (cause unit : Nat) : (s.fatalError cause unit).fatal = true := by
  simp [State.fatalError]

theorem State.fatalError_within (s : State) (cause unit : Nat) :
    Within 0x27e400000000000000000000000000000000000000000000000000000000000002c0000 s (s.fatalError cause unit) :=
  within_fatalError cause unit rfl (within_refl _ _)

/-- R436: a fatal cause leaves every register but those of the fatal record and of the error log. -/
theorem State.fatalError_regN (s : State) (cause unit : Nat) (r : RegName) (i : Nat)
    (hb : Nat.testBit 0x27e400000000000000000000000000000000000000000000000000000000000002c0000 r.ix = false) :
    (s.fatalError cause unit).regN r i = s.regN r i :=
  (s.fatalError_within cause unit).regN r i hb

/-- R436: a fatal cause as ERR_FATAL records it. -/
def State.recordFatal (s : State) (cause : Nat) : State :=
  ((s.setFld F.ERR_FATAL_valid 0 1).setFld F.ERR_FATAL_cause 0 cause).setFld F.ERR_FATAL_count 0
    (satAdd 16 (((s.setFld F.ERR_FATAL_valid 0 1).setFld F.ERR_FATAL_cause 0 cause).fld F.ERR_FATAL_count) 1)

/-- The time and the log entry of a fatal cause leave the fields of ERR_FATAL as they were recorded. -/
theorem State.fatalError_fld (s : State) (cause unit : Nat) (f : Fld) (hf : f.reg = .ERR_FATAL) :
    (s.fatalError cause unit).fld f = (s.recordFatal cause).fld f := by
  unfold State.fatalError State.setPair
  rw [State.logEvent_fld _ _ _ _ _ _ _ _ (by rw [hf]; rfl), State.fld_setRegN_reg _ _ _ _ _ _ (by rw [hf]; decide),
    State.fld_setRegN_reg _ _ _ _ _ _ (by rw [hf]; decide)]
  rfl

theorem State.fatalError_valid (s : State) (cause unit : Nat) : (s.fatalError cause unit).fld F.ERR_FATAL_valid = 1 := by
  rw [State.fatalError_fld _ _ _ _ rfl, State.recordFatal,
    State.fld_setFld_field _ F.ERR_FATAL_count F.ERR_FATAL_valid _ _ rfl (by decide) (by decide),
    State.fld_setFld_field _ F.ERR_FATAL_cause F.ERR_FATAL_valid _ _ rfl (by decide) (by decide)]
  exact State.fld_setFld _ _ _ _ (by decide)

theorem State.fatalError_cause (s : State) (cause unit : Nat) (h : cause < 16) :
    (s.fatalError cause unit).fld F.ERR_FATAL_cause = cause := by
  rw [State.fatalError_fld _ _ _ _ rfl, State.recordFatal,
    State.fld_setFld_field _ F.ERR_FATAL_count F.ERR_FATAL_cause _ _ rfl (by decide) (by decide)]
  exact State.fld_setFld_id _ _ _ _ (by decide) h

theorem satAdd_lt (w x n : Nat) : satAdd w x n < 2 ^ w := by
  have := Nat.two_pow_pos w
  unfold satAdd; omega

theorem State.fatalError_count (s : State) (cause unit : Nat) :
    (s.fatalError cause unit).fld F.ERR_FATAL_count = satAdd 16 (s.fld F.ERR_FATAL_count) 1 := by
  rw [State.fatalError_fld _ _ _ _ rfl, State.recordFatal,
    State.fld_setFld_id _ F.ERR_FATAL_count _ _ (by decide) (satAdd_lt 16 _ _),
    State.fld_setFld_field _ F.ERR_FATAL_cause F.ERR_FATAL_count _ _ rfl (by decide) (by decide),
    State.fld_setFld_field _ F.ERR_FATAL_valid F.ERR_FATAL_count _ _ rfl (by decide) (by decide)]

/-! ### Watchdog times (R435) -/

/-- R435: t keeps the times of the watchdogs' last expiries that s has. -/
structure KeepsWdt (s t : State) : Prop where
  wdt : t.log.wdt = s.log.wdt

theorem keepsWdt_ite {s a b : State} {c : Prop} [Decidable c] (ha : KeepsWdt s a) (hb : KeepsWdt s b) :
    KeepsWdt s (if c then a else b) := by
  split <;> assumption

section
variable {s t : State} (h : KeepsWdt s t)
include h

theorem keepsWdt_setRegN (r : RegName) (i v : Nat) : KeepsWdt s (t.setRegN r i v) := ⟨h.wdt⟩

theorem keepsWdt_raise (fn vector : Nat) : KeepsWdt s (t.raise fn vector) := ⟨h.wdt⟩

theorem keepsWdt_captureFirst (e : ErrEntry) : KeepsWdt s (t.captureFirst e) :=
  ⟨by rw [State.captureFirst_log, h.wdt]⟩

theorem keepsWdt_traceEv (group typ src arg : Nat) : KeepsWdt s (t.traceEv group typ src arg) := by
  unfold State.traceEv
  refine keepsWdt_ite ?_ h
  exact ⟨h.wdt⟩

end

theorem keepsWdt_newEntry (s : State) (e : ErrEntry) : KeepsWdt s (s.newEntry e) := by
  unfold State.newEntry
  dsimp only
  apply keepsWdt_ite
  · apply keepsWdt_captureFirst
    exact ⟨rfl⟩
  · apply keepsWdt_ite
    · apply keepsWdt_raise
      apply keepsWdt_traceEv
      apply keepsWdt_captureFirst
      exact ⟨rfl⟩
    · apply keepsWdt_traceEv
      apply keepsWdt_captureFirst
      exact ⟨rfl⟩

/-- R435: logging an event keeps the times of the watchdogs' last expiries. -/
theorem keepsWdt_logEvent (s : State) (cls src code info flags : Nat) : KeepsWdt s (s.logEvent cls src code info flags) := by
  unfold State.logEvent
  dsimp only
  split
  · apply keepsWdt_captureFirst
    exact ⟨rfl⟩
  · exact keepsWdt_newEntry ..

/-- R435: the watchdog of another processor than cp has expired within the last 100 ms. -/
def State.wdtNear (s : State) (cp : Nat) : Bool :=
  (List.range 4).any fun i => i != cp && (s.log.wdt.get i).any fun t => decide (s.now ≤ t + 100000000)

theorem State.wdtNear_iff (s : State) (cp : Nat) :
    s.wdtNear cp = true ↔ ∃ i a, i < 4 ∧ i ≠ cp ∧ s.log.wdt.get i = some a ∧ s.now ≤ a + 100000000 := by
  simp [State.wdtNear, Option.any_eq_true]

/-- R435: the state in which the expiry of cp's watchdog is noted. -/
def State.noteWdt (s : State) (cp : Nat) : State := { s with log := { s.log with wdt := s.log.wdt.set cp (some s.now) } }

theorem State.cpWatchdog_near (s : State) (cp : Nat) (hr : s.cpRuns = true) (h : s.wdtNear cp = true) :
    s.cpWatchdog cp = (s.noteWdt cp).fatalError 7 cp := by
  unfold State.wdtNear at h
  simp [State.cpWatchdog, hr, h, State.noteWdt]

theorem State.cpWatchdog_alone (s : State) (cp : Nat) (hr : s.cpRuns = true) (h : s.wdtNear cp = false) :
    s.cpWatchdog cp = (s.noteWdt cp).logEvent clsFw (srcCp cp) 0x01 := by
  unfold State.wdtNear at h
  simp [State.cpWatchdog, hr, h, State.noteWdt]

/-- R30: a loss of lock writes the two clock registers and is fatal. -/
theorem clockLost_eq (u : State) (k : Nat) (h : bit (u.regN .GLB_CLK_STATUS) k = true) :
    u.clockLost k =
      ((u.setRegN .GLB_CLK_STATUS 0 (putBits (u.regN .GLB_CLK_STATUS) k 1 0)).setRegN .GLB_CLK_LOST 0
        (setBit (u.regN .GLB_CLK_LOST) k)).fatalError (k + 1) 0 := by
  simp only [State.clockLost, h, if_true]
  rw [State.regN_setRegN_reg _ _ _ _ _ _ (by decide)]

/-! ### Registers all at once -/

/-- What a test says of every register by its number, it says of every register. -/
theorem forall_regName {q : RegName → Bool} (h : ((List.range 268).all fun k => q (RegName.ofNat k)) = true) (r : RegName) :
    q r = true := by
  have h1 := List.all_eq_true.mp h r.ctorIdx (List.mem_range.mpr (ctorIdx_lt r))
  rwa [RegName.ofNat_ctorIdx] at h1

/-- R7: below every high register of a pair lies a low one. -/
theorem half_low_of_high (r : RegName) (h : r.info.half = .high) : r.low.info.half = .low := by
  have hq := forall_regName (q := fun r => r.info.half != .high || r.low.info.half == .low) (by decide +kernel) r
  simpa [h] using hq

/-! ### Writes by access type alone (R9) -/

theorem windowWrite_none {s : State} {r : RegName} {i v : Nat} (h : s.windowWrite r i v = none) (t : State) (i' v' : Nat) :
    t.windowWrite r i' v' = none := by
  cases r with
  | CQ_CFG | CQ_TAIL | RQ_HEAD | EVQ_CFG | MBX_FW_CTL | MBX_SFL_CTL => cases h
  | _ => rfl

theorem contextWrite_none {s : State} {r : RegName} {i v : Nat} (h : s.contextWrite r i v = none) (t : State) (i' v' : Nat) :
    t.contextWrite r i' v' = none := by
  cases r with
  | CAM_EXPO_CFG | CAM_EXPO_NEXT0 | CAM_EXPO_NEXT1 | CAM_EXPO_NEXT2 | CAM_WB_GAIN | CAM_PPB_SEL | CAM_OUT_CREDIT
  | CAM_ADAPT_CFG => cases h
  | _ => rfl

theorem blockWrite_none {s : State} {r : RegName} {i v : Nat} (h : s.blockWrite r i v = none) (t : State) (i' v' : Nat) :
    t.blockWrite r i' v' = none := by
  cases r with
  | GLB_SG_BOUNDARY | SYN_CFG | SYN_CTL | SYN_SCHED_CTL | SYN_OUT_CTL | IXL_PORT_CFG | LC_DMA_REG | ERR_RELEASE
  | ERR_FIRST_CTL | PIN_CLAIM | SEC_SNUF_CFG | PIN_GPIO_DIR | PIN_GPIO_OUT => cases h
  | _ => rfl

theorem applyWrite_plainAt {s : State} {r : RegName} {i v : Nat} (h : s.plainAt r i v) :
    s.applyWrite r i v = s.plainWrite r i v := by
  obtain ⟨htaken, hwin, hctx, hblk⟩ := h
  simp [State.applyWrite, htaken, hwin, hctx, hblk]

/-- A write stays one by access type alone in every state that takes it as well. -/
theorem plainAt_congr {s t : State} {r : RegName} {i v : Nat} (h : s.plainAt r i v) (ht : t.writeTaken r i = s.writeTaken r i) :
    t.plainAt r i v := by
  obtain ⟨htaken, hwin, hctx, hblk⟩ := h
  exact ⟨ht.trans htaken, windowWrite_none hwin .., contextWrite_none hctx .., blockWrite_none hblk ..⟩

/-- R46, R63, R103, R415: the registers that decide whether a write of another one is taken. -/
def guardsWrites (r : RegName) : Bool := r == .CAM_STATUS || r == .SYN_SCHED_CTL || r == .PIN_OWN

theorem writeTaken_of_guards {r : RegName} (h : guardsWrites r = true) (s : State) (i : Nat) : s.writeTaken r i = true := by
  simp only [guardsWrites, Bool.or_eq_true, beq_iff_eq] at h
  obtain (rfl | rfl) | rfl := h <;> rfl

/-- A register set that is no guard leaves the taking of every write. -/
theorem writeTaken_setRegN {r : RegName} (h : guardsWrites r = false) (s : State) (i v : Nat) (r' : RegName) (i' : Nat) :
    (s.setRegN r i v).writeTaken r' i' = s.writeTaken r' i' := by
  simp only [guardsWrites, Bool.or_eq_false_iff, beq_eq_false_iff_ne] at h
  obtain ⟨⟨hcam, hsched⟩, hown⟩ := h
  unfold State.writeTaken State.stream State.flag State.owner
  rw [State.fld_setRegN_reg _ _ F.CAM_STATUS_stream _ _ _ hcam.symm,
    State.fld_setRegN_reg _ _ F.SYN_SCHED_CTL_enable _ _ _ hsched.symm, State.fld_setRegN_reg _ _ F.PIN_OWN_holder _ _ _ hown.symm]

/-- A register set leaves the writes of its other instances by access type alone. -/
theorem plainAt_setRegN_same {s : State} {r : RegName} {i' v' : Nat} (h : s.plainAt r i' v') (i v : Nat) :
    (s.setRegN r i v).plainAt r i' v' := by
  refine plainAt_congr h ?_
  cases hg : guardsWrites r with
  | false => exact writeTaken_setRegN hg ..
  | true => rw [writeTaken_of_guards hg, writeTaken_of_guards hg]

theorem written_setRegN_ne (s : State) (r r' : RegName) (i i' v : Nat) (h : (r', i') ≠ (r, i)) :
    (s.setRegN r i v).written r' i' = s.written r' i' := by
  have hne : ((r, i) == (r', i')) = false := by simpa using h.symm
  simp only [State.written, State.setRegN, State.setReg_regs, insertAt, List.any_cons, hne, Bool.false_or, List.any_filter]
  congr 1
  funext e
  by_cases he : e.1 = (r', i')
  · simp [he, h]
  · simp [he]

/-- What a write by access type leaves depends on its own register alone. -/
theorem writtenValue_setRegN_ne (s : State) (r r' : RegName) (i i' v v' : Nat) (h : (r', i') ≠ (r, i)) :
    (s.setRegN r i v).writtenValue r' i' v' = s.writtenValue r' i' v' := by
  unfold State.writtenValue State.sameCycle
  rw [written_setRegN_ne _ _ _ _ _ _ h, State.regN_setRegN_ne _ _ _ _ _ _ h, State.setRegN_time]

/-! ### Addresses (R6, R16, R69) -/

theorem regAt_aligned {f a : Nat} {x : RegName × Nat} (h : regAt f a = some x) : a % 4 = 0 := by
  by_cases h4 : a % 4 = 0
  · exact h4
  · rw [regAt, if_pos h4] at h
    cases h

theorem indexAt_lt {r : RegName} {off k : Nat} (h : r.indexAt off = some k) : k < r.info.sub := by
  simp only [RegName.indexAt, Option.ite_none_right_eq_some] at h
  obtain ⟨⟨_, _, hlt⟩, hk⟩ := h
  exact Option.some.inj hk ▸ hlt

/-- R13, R69: at an offset of a camera's context, every camera has the same register. -/
theorem regIn_cam {off d : Nat} {r : RegName} (h : regIn .CAM 0 off = some (r, d)) (n : Nat) :
    regIn .CAM n off = some (r, n * r.info.sub + d) ∧ d < r.info.sub := by
  unfold regIn at h ⊢
  obtain ⟨before, x, rest, hl, hx, hbefore⟩ := List.findSome?_eq_some_iff.mp h
  obtain ⟨k, hk, hxk⟩ := Option.bind_eq_some_iff.mp hx
  rw [if_neg (by simp), Nat.zero_mul, Nat.zero_add] at hxk
  obtain ⟨rfl, rfl⟩ := Prod.mk.inj (Option.some.inj hxk)
  refine ⟨List.findSome?_eq_some_iff.mpr ⟨before, x, rest, hl, by simp [hk], fun y hy => ?_⟩, indexAt_lt hk⟩
  simpa using hbefore y hy

/-! ### Reads and writes of one register (R6, R7) -/

section
variable {s : State} {f a i : Nat} {r : RegName} (ha : regAt f a = some (r, i)) (hb : s.answers r.info.block = true)
include ha hb

theorem busWrite_single (hh : r.info.half = .single) (v : Nat) : s.busWrite f a 4 v = s.applyWrite r i v := by
  simp [State.busWrite, regAt_aligned ha, State.writeAt, ha, onBus_of_answers _ hb, State.writeReg, hh]

theorem halfWrite_low (hh : r.info.half = .low) (v : Nat) : s.halfWrite f a .low v = s.pairLowWrite f r i v := by
  simp [State.halfWrite, ha, hh, onBus_of_answers _ hb, State.writeReg]

theorem halfWrite_high (hh : r.info.half = .high) (v : Nat) : s.halfWrite f a .high v = s.pairHighWrite f r i v := by
  simp [State.halfWrite, ha, hh, onBus_of_answers _ hb, State.writeReg]

theorem busRead_low (hh : r.info.half = .low) (hrx : rxChannel r = none) (hsnap : r ≠ .SYN_SNAP_LO) (htime : r ≠ .SYN_TIME_LO) :
    s.busRead f a 4 = (s.latch f r.high i (s.live r.high i)).emit (.readData f (BitVec.ofNat 32 (s.live r i))) := by
  simp [State.busRead, regAt_aligned ha, State.readAt, ha, hb, State.readReg, hh, hrx, hsnap, htime]

end

/-- R7: the low word that function f's write shadow holds for a pair, or else the current one. -/
def State.heldLow (s : State) (f : Nat) (r : RegName) (i : Nat) : Nat := (lookupD s.wrShadow (f, r, i) (s.reg r i)).toNat

/-- R7: the low word held for function f is given up. -/
def State.dropHeld (s : State) (f : Nat) (r : RegName) (i : Nat) : State := { s with wrShadow := eraseAt s.wrShadow (f, r, i) }

/-- R7: the low half of a pair decides on no write. -/
theorem guardsWrites_low {r : RegName} (h : r.info.half = .high) : guardsWrites r.low = false := by
  have hl := half_low_of_high r h
  cases hg : guardsWrites r.low with
  | false => rfl
  | true =>
    simp only [guardsWrites, Bool.or_eq_true, beq_iff_eq] at hg
    obtain (hg | hg) | hg := hg <;> rw [hg] at hl <;> cases hl

/-- R7: the two halves of a pair, written together by access type alone. -/
theorem pairHighWrite_plain {s : State} {f i v : Nat} {r : RegName} (hh : r.info.half = .high) (hw : r.writable = true)
    (hlo : s.plainAt r.low i (s.heldLow f r.low i)) (hhi : s.plainAt r i v) :
    s.pairHighWrite f r i v = ((s.dropHeld f r.low i).plainWrite r.low i (s.heldLow f r.low i)).plainWrite r i v := by
  have hlo' : (s.dropHeld f r.low i).plainAt r.low i (s.heldLow f r.low i) := plainAt_congr hlo rfl
  have hhi' : ((s.dropHeld f r.low i).plainWrite r.low i (s.heldLow f r.low i)).plainAt r i v :=
    plainAt_congr hhi (writeTaken_setRegN (guardsWrites_low hh) (s.dropHeld f r.low i) i _ r i)
  have hwrite : s.pairHighWrite f r i v = ((s.dropHeld f r.low i).applyWrite r.low i (s.heldLow f r.low i)).applyWrite r i v :=
    if_pos hw
  rw [hwrite, applyWrite_plainAt hlo', applyWrite_plainAt hhi']

/-! ### ALIAS_WRITE (R69) -/

/-- R69: in each of these camera contexts, the d-th register named r is written. -/
def State.writeEach (s : State) (r : RegName) (d v : Nat) (ns : List Nat) : State :=
  ns.foldl (fun s n => s.plainWrite r (n * r.info.sub + d) v) s

section
variable {r : RegName} {d v : Nat}

/-- R69: what lies in none of the contexts stays as it is. -/
theorem writeEach_reg_ne (s : State) (ns : List Nat) (r' : RegName) (i' : Nat)
    (h : ∀ n ∈ ns, (r', i') ≠ (r, n * r.info.sub + d)) : (s.writeEach r d v ns).reg r' i' = s.reg r' i' := by
  induction ns generalizing s with
  | nil => rfl
  | cons n ns ih =>
    obtain ⟨hn, hns⟩ := List.forall_mem_cons.mp h
    exact (ih _ hns).trans (State.reg_setReg_ne _ _ _ _ _ _ hn)

/-- Two cameras' instances of a register are two. -/
theorem camInstance_inj {m n : Nat} (hd : d < r.info.sub) (h : m * r.info.sub + d = n * r.info.sub + d) : m = n :=
  Nat.eq_of_mul_eq_mul_right (by omega) (Nat.add_right_cancel h)

/-- R69: every context is written as if it were the only one. -/
theorem writeEach_regN (s : State) (ns : List Nat) (hd : d < r.info.sub) (hnd : ns.Nodup) (n : Nat) (hn : n ∈ ns) :
    (s.writeEach r d v ns).regN r (n * r.info.sub + d) = s.writtenValue r (n * r.info.sub + d) v % 2 ^ 32 := by
  induction ns generalizing s with
  | nil => cases hn
  | cons m ns ih =>
    obtain ⟨hm, hnd'⟩ := List.nodup_cons.mp hnd
    obtain rfl | hn' := List.mem_cons.mp hn
    · have hrest : ∀ x ∈ ns, (r, n * r.info.sub + d) ≠ (r, x * r.info.sub + d) := fun x hx e =>
        hm (camInstance_inj hd (Prod.mk.inj e).2 ▸ hx)
      have hreg := writeEach_reg_ne (d := d) (v := v) (s.plainWrite r (n * r.info.sub + d) v) ns r _ hrest
      exact (congrArg BitVec.toNat hreg).trans (State.regN_setRegN ..)
    · have hne : (r, n * r.info.sub + d) ≠ (r, m * r.info.sub + d) := fun e =>
        hm (camInstance_inj hd (Prod.mk.inj e).2 ▸ hn')
      exact (ih _ hnd' hn').trans (congrArg (· % 2 ^ 32) (writtenValue_setRegN_ne _ _ _ _ _ _ _ hne))

end

theorem aliasCams_nodup (s : State) (g : Option Nat) : (s.aliasCams g).Nodup := by
  cases g with
  | none => exact List.nodup_range
  | some g => exact List.nodup_range.filter _

theorem aliasCams_lt {s : State} {g : Option Nat} {n : Nat} (h : n ∈ s.aliasCams g) : n < 512 := by
  cases g with
  | none => exact List.mem_range.mp h
  | some g => exact List.mem_range.mp (List.mem_filter.mp h).1

/-- R69: steps that each write one context by access type alone write them all. -/
theorem foldl_eq_writeEach {r : RegName} {d v : Nat} (step : State → Nat → State)
    (hstep : ∀ t n, t.plainAt r (n * r.info.sub + d) v → step t n = t.plainWrite r (n * r.info.sub + d) v)
    (ns : List Nat) (s : State) (hs : ∀ n ∈ ns, s.plainAt r (n * r.info.sub + d) v) :
    ns.foldl step s = s.writeEach r d v ns := by
  induction ns generalizing s with
  | nil => rfl
  | cons n ns ih =>
    obtain ⟨hn, hns⟩ := List.forall_mem_cons.mp hs
    rw [List.foldl_cons, hstep s n hn]
    exact ih _ fun m hm => plainAt_setRegN_same (hns m hm) ..

/-- R69: an ALIAS_WRITE of a register with no effect of its own writes it in every context that is reached. -/
theorem aliasWrite_plain {s : State} {a off d v : Nat} {g : Option Nat} {r : RegName} (ha : aliasAt a = some (g, off))
    (h4 : a % 4 = 0) (hb : s.answers .CAM = true) (hr : regIn .CAM 0 off = some (r, d)) (hh : r.info.half = .single)
    (hp : ∀ m, m < 512 → s.plainAt r (m * r.info.sub + d) v) :
    s.aliasWrite 0 a v = s.writeEach r d v (s.aliasCams g) := by
  simp only [State.aliasWrite, ha, h4, and_self, if_true, onBus_of_answers _ hb]
  refine foldl_eq_writeEach _ (fun t n hn => ?_) _ _ fun n hn => hp n (aliasCams_lt hn)
  simp only [(regIn_cam hr n).1, State.writeReg, hh, applyWrite_plainAt hn]

/-! ### The partition (R18, R19) -/

theorem foldl_setGroup_regs (l : List Nat) (x : State → Nat → GroupS) (s : State) :
    (l.foldl (fun s g => s.setGroup g (x s g)) s).regs = s.regs := by
  induction l generalizing s with
  | nil => rfl
  | cons g l ih => exact ih _

theorem regN_congr {s t : State} (h : t.regs = s.regs) (r : RegName) (i : Nat) : t.regN r i = s.regN r i := by
  unfold State.regN State.reg; rw [h]

theorem regN_resetRegs_out (s : State) (p : RegName → Nat → Bool) (r : RegName) (i : Nat) (h : p r i = false) :
    (s.resetRegs p).regN r i = s.regN r i := congrArg BitVec.toNat (State.reg_resetRegs_out s p r i h)

/-- R19: a partition that takes effect is the one written. -/
theorem repartition_boundary (s : State) (v : Nat) : (s.repartition v).regN .GLB_SG_BOUNDARY = v % 2 ^ 32 := by
  unfold State.repartition
  rw [regN_congr (foldl_setGroup_regs ..), regN_resetRegs_out _ _ _ _ rfl, State.regN_setFld_reg _ _ _ _ _ _ (by decide),
    State.regN_setFld_reg _ _ _ _ _ _ (by decide), State.regN_setRegN]

theorem sgBoundaryWrite_legal {s : State} {w : Nat} (h0 : w % 65536 ≠ 0)
    (ht : (s.changedCores (w % 65536)).any s.coreTied = false) : s.sgBoundaryWrite w = s.repartition (w % 65536) :=
  if_neg fun h => h.elim h0 (by simp [ht])

theorem sgBoundaryWrite_refused {s : State} {w : Nat}
    (h : w % 65536 = 0 ∨ (s.changedCores (w % 65536)).any s.coreTied = true) :
    s.sgBoundaryWrite w = s.setFld F.GLB_SG_STATUS_refused 0 1 := if_pos h

end Sys2Proof.Machine

namespace Sys2Proof.Proofs
open Sys2Proof Sys2Proof.Machine

/-- Settles O2: the arm of every command lets its time pass and answers next. -/
theorem everyCommandAnswersANextState : Obligations.EveryCommandAnswersANextState := by
  intro i s
  cases i <;> exact ⟨_, rfl⟩

/-- Settles O9: without a register or an address of R69 there, neither a write nor a read of any width finds anything. -/
theorem unusedOffsetsReadZero : Obligations.UnusedOffsetsReadZero := by
  intro s dt f a n v u hr ha
  rw [exec_registerWrite, exec_pairLowRead, State.busWrite_unused hr ha, State.busRead_unused hr ha]
  exact ⟨rfl, rfl⟩

/-- Settles O4: a part that is not listed for the command is outside what the command touches. -/
theorem commandsLeaveTheRestAsItIs : Obligations.CommandsLeaveTheRestAsItIs :=
  fun _ _ _ h p hp => same_of_within (within_exec h) p hp

/-- Settles O25: each clause is what the shared operation does in its case (a plain write, a latch, a held word, a write of
every camera reached, a partition), the registers read off afterwards. -/
theorem registerAccesses : Obligations.RegisterAccesses := by
  refine ⟨fun s dt f a v r i ha hh hb hp => ?single, fun s dt f a r i ha hh hb hrx hsnap htime => ?lowRead,
    fun s dt f a v r i ha hh hb hw => ?lowWrite, fun s dt f a v r i ha hh hb hw hne hlo hhi => ?highWrite,
    fun s dt a v g off d r n ha h4 hb hr hh hp => ?aliased, fun s dt v hb h0 ht => ?legal, fun s dt v hb h => ?refused⟩
  case single =>
    have hwrite := (busWrite_single ha hb hh v.toNat).trans (applyWrite_plainAt hp)
    exact ⟨_, exec_next (exec_registerWrite ..) hwrite, State.regN_setRegN .., fun r' i' h => State.reg_setReg_ne _ _ _ _ _ _ h,
      rfl, rfl⟩
  case lowRead =>
    exact ⟨_, exec_next (exec_pairLowRead ..) (busRead_low ha hb hh hrx hsnap htime), rfl, lookupD_insertAt .., rfl⟩
  case lowWrite =>
    have hwrite := (halfWrite_low ha hb hh v.toNat).trans (if_pos hw)
    exact ⟨_, exec_next (exec_pairLowWrite ..) hwrite, (lookupD_insertAt ..).trans (BitVec.ofNat_toNat ..), rfl⟩
  case highWrite =>
    have hwrite := (halfWrite_high ha hb hh v.toNat).trans (pairHighWrite_plain hh hw hlo hhi)
    have hdiff : (r, i) ≠ (r.low, i) := fun e => hne (Prod.mk.inj e).1.symm
    refine ⟨_, exec_next (exec_pairHighWrite ..) hwrite, ?_, ?_⟩
    · exact (State.regN_setRegN_ne _ _ _ _ _ _ hdiff.symm).trans (State.regN_setRegN ..)
    · refine (State.regN_setRegN ..).trans (congrArg (· % 2 ^ 32) ?_)
      exact writtenValue_setRegN_ne ((s.elapse dt).dropHeld f r.low i) _ _ _ _ _ _ hdiff
  case aliased =>
    have hd := (regIn_cam hr 0).2
    refine ⟨_, exec_next (exec_aliasWrite ..) (aliasWrite_plain ha h4 hb hr hh hp), fun hn => ?_, fun hn => ?_,
      fun r' i' hne => ?_⟩
    · exact writeEach_regN _ _ hd (aliasCams_nodup ..) n hn
    · exact writeEach_reg_ne _ _ _ _ fun m hm e => hn (camInstance_inj hd (Prod.mk.inj e).2 ▸ hm)
    · exact writeEach_reg_ne _ _ _ _ fun m _ e => hne (Prod.mk.inj e).1
  case legal =>
    have hwrite := (onBus_of_answers (·.sgBoundaryWrite v.toNat) hb).trans (sgBoundaryWrite_legal h0 ht)
    refine ⟨_, exec_next (exec_sgBoundaryWrite ..) hwrite, (repartition_boundary ..).trans (Nat.mod_eq_of_lt ?_)⟩
    omega
  case refused =>
    have hwrite := (onBus_of_answers (·.sgBoundaryWrite v.toNat) hb).trans (sgBoundaryWrite_refused h)
    exact ⟨_, exec_next (exec_sgBoundaryWrite ..) hwrite, State.regN_setFld_reg _ _ _ _ _ _ (by decide),
      State.fld_setFld_id _ _ _ _ (by decide) (by decide)⟩

/-- Settles O31: the registers after a release, a rearming and a fatal cause, and the watchdog's two cases by whether another
processor's expired within 100 ms. -/
theorem errorsAndFatalCauses : Obligations.ErrorsAndFatalCauses := by
  refine ⟨fun s dt v hb => ?release, fun s dt hb => ?rearm, fun s dt k hk => ?lossOfLock, fun s dt cp hr => ?controlMemory,
    fun s dt cp hr hfar => ?watchdogAlone, fun s dt cp i a hr hi hne ha hnear => ?watchdogNear⟩
  case release =>
    exact ⟨_, exec_next (exec_errRelease ..) (onBus_of_answers _ hb), errReleaseWrite_tail ..⟩
  case rearm =>
    refine ⟨_, exec_next (exec_errFirstClear ..) (onBus_of_answers _ hb), ?_⟩
    exact ⟨errFirstWrite_rearms _, fun h => by rw [errFirstWrite_held _ h]⟩
  case lossOfLock =>
    refine ⟨_, exec_next (exec_clockLossOfLock ..) (clockLost_eq _ _ hk), ?_, ?_, State.fatalError_fatal ..,
      State.fatalError_valid .., State.fatalError_cause _ _ _ (by omega), ?_⟩
    · rw [State.fatalError_regN _ _ _ _ _ (by rfl), State.regN_setRegN_reg _ _ _ _ _ _ (by decide),
        State.bit_regN_setRegN _ _ _ _ _ (by omega), bit_putBits_zero]
    · rw [State.fatalError_regN _ _ _ _ _ (by rfl), State.bit_regN_setRegN _ _ _ _ _ (by omega), bit_setBit]
    · rw [State.fatalError_count, State.fld_setRegN_reg _ _ _ _ _ _ (by decide), State.fld_setRegN_reg _ _ _ _ _ _ (by decide)]
  case controlMemory =>
    exact ⟨_, exec_next (exec_controlMemoryError ..) (if_pos hr), State.fatalError_fatal .., State.fatalError_valid ..,
      State.fatalError_cause _ _ _ (by omega)⟩
  case watchdogAlone =>
    have hn : (s.elapse dt).wdtNear cp = false := by
      rw [← Bool.not_eq_true, State.wdtNear_iff]
      rintro ⟨i, a, hi, hne, ha, hle⟩
      exact absurd hle (Nat.not_le.2 (hfar i a hi hne ha))
    refine ⟨_, exec_next (exec_cpWatchdogExpiry ..) (State.cpWatchdog_alone _ _ hr hn), State.logEvent_fatal .., ?_⟩
    rw [(keepsWdt_logEvent ..).wdt]
    exact Tab.get_set ..
  case watchdogNear =>
    have hn := (State.wdtNear_iff _ _).2 ⟨i, a, hi, hne, ha, hnear⟩
    exact ⟨_, exec_next (exec_cpWatchdogExpiry ..) (State.cpWatchdog_near _ _ hr hn), State.fatalError_fatal ..,
      State.fatalError_cause _ _ _ (by omega)⟩

end Sys2Proof.Proofs
end

section
/-! The statement of the family of frame intake about shares (O52): how a share is queued, and what a core binds at a stripe
boundary. Its lemmas stand before it. -/
namespace Sys2Proof.Machine

theorem exec_workShareQueue (dt : Nat) (g : Fin 16) (w : Fin 32) (n : Fin 512) (q : Word) (k : Byte) (s : State) :
    exec (.workShareQueue dt g w n q k) s = .next ((s.elapse dt).workShareQueue g w n q.toNat k.toNat) := rfl

theorem exec_stripeLaunch (dt : Nat) (g : Fin 16) (w : Fin 32) (n : Fin 512) (q : Word) (k : Byte) (a : BitVec 64) (s : State) :
    exec (.stripeLaunch dt g w n q k a) s = .next ((s.elapse dt).stripeLaunch g w n q.toNat k.toNat a.toNat) := rfl

theorem exec_stripeBoundary (dt : Nat) (i : Fin 16) (s : State) :
    exec (.stripeBoundary dt i) s = .next ((s.elapse dt).stripeBoundary i) := rfl

/-! ### Cores, counters and times outside the parts touched -/

theorem Within.core {m : Nat} {s t : State} (h : Within m s t) (hb : m.testBit 7 = false) (i : Nat) : t.core i = s.core i :=
  congrArg (fun c => c.get i) (h.cores hb)

theorem Within.counter {m : Nat} {s t : State} (h : Within m s t) (hb : m.testBit 13 = false) (g w : Nat) :
    t.counter g w = s.counter g w :=
  congrArg (fun c => (c.get g).counters.get w) (h.groups hb)

/-! ### Counters (R258 to R260, R265) -/

theorem setCounter_within (s : State) (g w : Nat) (x : CounterS) :
    Within 0x80000000000000000000000000000000000000000002000 s (s.setCounter g w x) :=
  within_setCounter _ _ _ rfl (within_refl ..)

/-- R173: waking the contexts that wait to draw touches the cores and their registers alone. -/
theorem wakeCounter_within (s : State) (g w : Nat) : Within 0x20010000000000000000000000000000000000080 s (s.wakeCounter g w) :=
  within_wakeCounter _ _ rfl (within_refl ..)

@[simp] theorem State.counter_setCounter (s : State) (g w : Nat) (x : CounterS) : (s.setCounter g w x).counter g w = x := by
  simp [State.counter, State.setCounter]

/-- R85: putting a share in its place adds that share and nothing else. -/
theorem insertShare_perm (x : Share) (l : List Share) : (insertShare x l).Perm (x :: l) := by
  induction l with
  | nil => exact .refl _
  | cons y ys ih =>
    unfold insertShare
    split
    · exact .refl _
    · exact (ih.cons y).trans (.swap x y ys)

/-! ### Queuing a stripe's share (R102, R258) -/

/-- R83, R258: the share of stripe k of frame q as counter w of group g queues it next. -/
def State.shareOf (s : State) (g w n q k : Nat) : Share :=
  { cam := n, seq := q, stripe := k, idx := s.regN .HLD_WC_NEXT (32 * g + w), gen := 0, deadline := s.stripeDeadline n q k
    inl := s.stripeInline n q k }

section
variable {s : State} {g w n q k : Nat} (h : s.shareReady g w n q k = true)
include h

/-- R258: beyond the counter, queuing a share counts it only for its frame. -/
theorem queueShare_within : Within 0x40
    (s.pushShare g w n q k (s.stripeDeadline n q k) (s.stripeInline n q k) false) (s.queueShare g w n q k) := by
  simp only [State.queueShare, h, if_true]
  exact within_ite (within_modFrame _ _ _ rfl (within_refl ..)) (within_refl ..)

theorem workShareQueue_counter : (s.workShareQueue g w n q k).counter g w =
    { s.counter g w with shares := insertShare (s.shareOf g w n q k) (s.counter g w).shares } :=
  calc (s.workShareQueue g w n q k).counter g w
      = (s.queueShare g w n q k).counter g w := (wakeCounter_within ..).counter rfl _ _
    _ = (s.pushShare g w n q k (s.stripeDeadline n q k) (s.stripeInline n q k) false).counter g w :=
      (queueShare_within h).counter rfl _ _
    _ = _ := State.counter_setCounter ..

theorem workShareQueue_shares :
    ((s.workShareQueue g w n q k).counter g w).shares.Perm (s.shareOf g w n q k :: (s.counter g w).shares) := by
  rw [workShareQueue_counter h]
  exact insertShare_perm ..

theorem workShareQueue_next : (s.workShareQueue g w n q k).regN .HLD_WC_NEXT (32 * g + w) =
    (s.regN .HLD_WC_NEXT (32 * g + w) + 1) % 2 ^ 32 :=
  calc (s.workShareQueue g w n q k).regN .HLD_WC_NEXT (32 * g + w)
      = (s.queueShare g w n q k).regN .HLD_WC_NEXT (32 * g + w) := (wakeCounter_within ..).regN _ _ rfl
    _ = (s.pushShare g w n q k (s.stripeDeadline n q k) (s.stripeInline n q k) false).regN .HLD_WC_NEXT (32 * g + w) :=
      (queueShare_within h).regN _ _ rfl
    _ = (s.setRegN .HLD_WC_NEXT (32 * g + w) (s.regN .HLD_WC_NEXT (32 * g + w) + 1)).regN .HLD_WC_NEXT (32 * g + w) :=
      (setCounter_within ..).regN _ _ rfl
    _ = _ := State.regN_setRegN ..

end

/-! ### The share that a core takes next (R84, R85, R259) -/

theorem bestShare_mem {l : List (Nat × Share × Nat)} {a : Nat × Share × Nat} (h : bestShare l = some a) : a ∈ l := by
  induction l generalizing a with
  | nil => cases h
  | cons x l ih =>
    unfold bestShare at h
    split at h
    · exact Option.some.inj h ▸ List.mem_cons_self ..
    · rename_i b hb
      split at h
      · exact List.mem_cons_of_mem _ (Option.some.inj h ▸ ih hb)
      · exact Option.some.inj h ▸ List.mem_cons_self ..

theorem headShare_mem {s : State} {i w : Nat} {h : Share} (hh : s.headShare i w = some h) :
    h ∈ (s.counter (s.groupOf i) w).shares := by
  unfold State.headShare at hh
  dsimp only at hh
  split at hh
  · exact (List.mem_filter.mp (List.mem_of_find?_eq_some hh)).1
  · cases hh

/-- R85, R259: a share that is not held already is taken from the counter named with it. -/
theorem nextShare_mem_of_free {s : State} {i w x : Nat} {h : Share} (hn : s.nextShare i = some (w, h, x)) (hf : h.held = none) :
    h ∈ (s.counter (s.groupOf i) w).shares := by
  unfold State.nextShare at hn
  dsimp only at hn
  split at hn
  · have hm := bestShare_mem hn
    simp only [List.mem_flatten, List.mem_map, List.mem_range] at hm
    obtain ⟨_, ⟨v, _, rfl⟩, hm⟩ := hm
    simp only [List.mem_map, Option.mem_toList, Prod.mk.injEq] at hm
    obtain ⟨h', hhead, rfl, rfl, _⟩ := hm
    exact headShare_mem hhead
  · have hm := bestShare_mem hn
    simp only [List.mem_flatten, List.mem_map, List.mem_range] at hm
    obtain ⟨_, ⟨v, _, rfl⟩, hm⟩ := hm
    simp only [List.mem_map, List.mem_filter, Prod.mk.injEq] at hm
    obtain ⟨h', ⟨_, hheld⟩, rfl, rfl, _⟩ := hm
    simp [hf] at hheld

/-- R259, R260: a share of the counter that a core takes is then held by the core, with the counter's lease. -/
theorem takeShare_holds {s : State} {i w : Nat} {h : Share} (hm : h ∈ (s.counter (s.groupOf i) w).shares) :
    (((s.takeShare i w h).counter (s.groupOf i) w).shares.any fun y =>
      y.idx == h.idx && y.held == some (i, s.now + s.leaseNs (s.groupOf i) w)) = true := by
  have hc : (s.takeShare i w h).counter (s.groupOf i) w = _ := State.counter_setCounter ..
  rw [hc]
  simp only [List.any_map, List.any_eq_true]
  exact ⟨h, hm, by simp⟩

/-! ### Contexts (R171, R174) -/

section
variable (s : State) (i c : Nat)

theorem setCtxState_ctxState (v : Nat) : (s.setCtxState i c v).ctxState i c = v % 8 := by
  unfold State.setCtxState State.ctxState
  rw [State.fld_setFld_reg _ _ _ _ _ _ (by decide)]
  exact State.fld_setFld _ _ _ _ (by decide)

/-- R174: the state of another context stays, whatever is written of this one. -/
theorem setCtxState_ctxState_ne (v d : Nat) (h : d ≠ c) : (s.setCtxState i c v).ctxState i d = s.ctxState i d := by
  unfold State.setCtxState State.ctxState
  rw [State.fld_setFld_reg _ _ _ _ _ _ (by decide)]
  exact State.fld_setFld_ne _ _ _ _ _ _ fun e => h (Nat.add_left_cancel (Prod.mk.inj e).2)

theorem idleCtx_ctxState : (s.idleCtx i c).ctxState i c = 0 := setCtxState_ctxState ..

theorem idleCtx_ctxState_ne (d : Nat) (h : d ≠ c) : (s.idleCtx i c).ctxState i d = s.ctxState i d := by
  have hix : 8 * i + d ≠ 8 * i + c := fun e => h (Nat.add_left_cancel e)
  unfold State.idleCtx
  dsimp only
  rw [setCtxState_ctxState_ne _ _ _ _ _ h]
  unfold State.ctxState
  rw [State.fld_setFld_ne _ _ _ _ _ _ (fun e => hix (Prod.mk.inj e).2),
    State.fld_setFld_ne _ _ _ _ _ _ (fun e => hix (Prod.mk.inj e).2)]
  rfl

/-- R171: contexts returned to IDLE are IDLE, and the others are as they were. -/
theorem foldl_idleCtx_ctxState (l : List Nat) :
    (l.foldl (fun s k => s.idleCtx i k) s).ctxState i c = if c ∈ l then 0 else s.ctxState i c := by
  induction l generalizing s with
  | nil => rfl
  | cons k l ih =>
    rw [List.foldl_cons, ih]
    by_cases hk : c = k
    · subst hk
      simp [idleCtx_ctxState]
    · simp [hk, idleCtx_ctxState_ne _ _ _ _ hk]

end

/-! ### What a core is bound to -/

/-- R171, R180, R378: of a core, the stripe that it has bound, its user, and the end of its clearing for another user. -/
def CoreS.binding (x : CoreS) : Option BoundS × UserS × Option Nat := (x.bound, x.user, x.userClear)

theorem modCore_binding {s : State} {i : Nat} {f : CoreS → CoreS} (h : ∀ x, (f x).binding = x.binding) :
    ((s.modCore i f).core i).binding = (s.core i).binding := by
  rw [State.core_modCore, h]

theorem foldl_binding {i : Nat} {f : State → Nat → State} (hf : ∀ t k, ((f t k).core i).binding = (t.core i).binding)
    (l : List Nat) (s : State) : ((l.foldl f s).core i).binding = (s.core i).binding :=
  List.foldlRecOn (motive := fun t => (t.core i).binding = (s.core i).binding) l f rfl fun t ht k _ => (hf t k).trans ht

theorem modCtx_binding (s : State) (i c : Nat) (f : CtxS → CtxS) : ((s.modCtx i c f).core i).binding = (s.core i).binding :=
  modCore_binding fun _ => rfl

theorem idleCtx_binding (s : State) (i c : Nat) : ((s.idleCtx i c).core i).binding = (s.core i).binding := by
  simp [State.idleCtx, State.setCtxState, modCtx_binding]

theorem startCtx_binding (s : State) (i c pc : Nat) (inl : Bool) :
    ((s.startCtx i c pc inl).core i).binding = (s.core i).binding := by
  simp [State.startCtx, State.setCtxState, modCtx_binding]

theorem takeShare_binding (s : State) (i w : Nat) (h : Share) :
    ((s.takeShare i w h).core i).binding = (s.core i).binding :=
  modCore_binding fun _ => rfl

/-! ### Leaving a stripe (R171, R232) -/

/-- R232: the counts of the stripe left are closed, if its share is committed. -/
def State.closeBound (s : State) (i : Nat) (b : BoundS) : State := if b.committed then s.closeCounts i b else s

theorem closeBound_within (s : State) (i : Nat) (b : BoundS) :
    Within 0x24640000000000000000000000000002000000000000000000000000000000000240040 s (s.closeBound i b) :=
  within_ite (within_closeCounts _ _ rfl (within_refl ..)) (within_refl ..)

theorem closeBound_ctxState (s : State) (i : Nat) (b : BoundS) (c : Nat) : (s.closeBound i b).ctxState i c = s.ctxState i c :=
  (closeBound_within s i b).fld _ _ rfl

/-- R171: the stripe of core i is no longer bound, and its contexts 0 to 5 return to IDLE. -/
def State.unbind (s : State) (i : Nat) : State :=
  (List.range 6).foldl (fun s k => s.idleCtx i k) (s.modCore i fun x => { x with bound := none })

theorem leaveStripe_eq (s : State) (i : Nat) (b : BoundS) : s.leaveStripe i b =
    if ((s.closeBound i b).unbind i).ctxState i 6 = 0 ∧ ((s.closeBound i b).unbind i).ctxState i 7 = 0
    then ((s.closeBound i b).unbind i).setCoreState i 2 else (s.closeBound i b).unbind i := rfl

theorem unbind_binding (s : State) (i : Nat) : ((s.unbind i).core i).binding = (none, (s.core i).user, (s.core i).userClear) := by
  refine (foldl_binding (fun t k => idleCtx_binding t i k) ..).trans ?_
  rw [State.core_modCore]
  rfl

theorem unbind_ctxState (s : State) (i c : Nat) : (s.unbind i).ctxState i c = if c < 6 then 0 else s.ctxState i c := by
  unfold State.unbind
  rw [foldl_idleCtx_ctxState]
  simp only [List.mem_range]
  rfl

section
variable (s : State) (i : Nat) (b : BoundS)

/-- R171: a core that leaves its stripe has none, and keeps its user. -/
theorem leaveStripe_binding :
    ((s.leaveStripe i b).core i).binding = (none, (s.core i).user, (s.core i).userClear) := by
  have hu := unbind_binding (s.closeBound i b) i
  rw [(closeBound_within s i b).core rfl] at hu
  rw [leaveStripe_eq]
  split
  · exact hu
  · exact hu

theorem leaveStripe_ctxState (c : Nat) : (s.leaveStripe i b).ctxState i c = if c < 6 then 0 else s.ctxState i c := by
  have hc : (s.leaveStripe i b).ctxState i c = ((s.closeBound i b).unbind i).ctxState i c := by
    rw [leaveStripe_eq]
    split
    · exact State.fld_setFld_reg _ _ _ _ _ _ (by decide)
    · rfl
  rw [hc, unbind_ctxState, closeBound_ctxState]

/-- R193: with contexts 6 and 7 IDLE too, the core is IDLE. -/
theorem leaveStripe_coreState (h6 : s.ctxState i 6 = 0) (h7 : s.ctxState i 7 = 0) : (s.leaveStripe i b).coreState i = 2 := by
  have hidle : ∀ c, s.ctxState i c = 0 → ((s.closeBound i b).unbind i).ctxState i c = 0 := fun c hc => by
    rw [unbind_ctxState, closeBound_ctxState, hc, ite_self]
  rw [leaveStripe_eq, if_pos ⟨hidle 6 h6, hidle 7 h7⟩]
  exact State.fld_setFld_id _ _ _ _ (by decide) (by decide)

end

/-! ### Binding a share (R145, R171, R259) -/

/-- R171, R258: the bound stripe is that of share h of counter w, under the share's token, and not committed. -/
structure BoundS.Takes (b : BoundS) (w : Nat) (h : Share) : Prop where
  cam : b.cam = h.cam
  seq : b.seq = h.seq
  stripe : b.stripe = h.stripe
  counter : b.w = w
  idx : b.idx = h.idx
  gen : b.gen = h.gen
  uncommitted : b.committed = false

/-- R171, R193: core i is RUNNING, for user u, bound to share h of counter w. -/
structure State.Runs (s : State) (i w : Nat) (h : Share) (u : UserS) : Prop where
  running : s.coreState i = 3
  bound : ∃ b, (s.core i).bound = some b ∧ b.Takes w h
  user : (s.core i).user = u

section
variable {s t : State} {i w : Nat} {h : Share} {u : UserS}

theorem State.Runs.of_binding (hr : s.Runs i w h u) (hb : (t.core i).binding = (s.core i).binding)
    (hs : t.coreState i = s.coreState i) : t.Runs i w h u := by
  obtain ⟨hrun, hbound, huser⟩ := hr
  obtain ⟨hb1, hb2⟩ := Prod.mk.inj hb
  exact ⟨hs.trans hrun, hb1 ▸ hbound, (Prod.mk.inj hb2).1.trans huser⟩

theorem State.Runs.of_within {m : Nat} (hr : s.Runs i w h u) (hw : Within m s t) (h7 : m.testBit 7 = false)
    (hs : m.testBit RegName.LC_STATUS.ix = false) : t.Runs i w h u :=
  hr.of_binding (congrArg CoreS.binding (hw.core h7 i)) (hw.fld F.LC_STATUS_state i hs)

/-- R145: core i is given the buffers of its temporal stage. -/
def State.giveBuffers (s : State) (i : Nat) (m : Option (Nat × Option Nat)) : State :=
  s.modCore i fun x => { x with bound := x.bound.map fun b => { b with temporal := m } }

/-- R145: beyond the buffers given, the binding of a temporal stage touches its frame and the count of resets. -/
theorem temporalBind_within (s : State) (i n q k : Nat) :
    ∃ m, Within 0x24640000000000000000000000000000000002000000000000000000000000000240040 (s.giveBuffers i m)
      (s.temporalBind i n q k) := by
  unfold State.temporalBind
  exact ⟨_, within_ite (within_refl ..) (within_camCount _ _ _ _ rfl rfl (within_modFrame _ _ _ rfl (within_refl ..)))⟩

theorem State.Runs.giveBuffers (hr : s.Runs i w h u) (m : Option (Nat × Option Nat)) : (s.giveBuffers i m).Runs i w h u := by
  obtain ⟨hrun, ⟨b, hb, ht⟩, huser⟩ := hr
  refine ⟨hrun, ⟨{ b with temporal := m }, ?_, ⟨ht.cam, ht.seq, ht.stripe, ht.counter, ht.idx, ht.gen, ht.uncommitted⟩⟩, ?_⟩
  · simp [State.giveBuffers, hb]
  · simpa [State.giveBuffers] using huser

/-- R145: a core bound to a share stays so as its stage is given its temporal buffers. -/
theorem State.Runs.temporalBind (hr : s.Runs i w h u) (n q k : Nat) : (s.temporalBind i n q k).Runs i w h u := by
  obtain ⟨m, hm⟩ := temporalBind_within s i n q k
  exact (hr.giveBuffers m).of_within hm rfl rfl

/-- R137: the plane delivered goes to the scratchpad, whatever the core is bound to. -/
theorem State.Runs.deliverPlane (hr : s.Runs i w h u) (a : Nat) (p : List (List Nat)) : (s.deliverPlane i a p).Runs i w h u :=
  hr.of_binding (modCore_binding fun _ => rfl) rfl

end

/-- R171, R258: what a core is bound to by share h of counter w, whose stage program names contexts m. -/
def Share.bound (h : Share) (w m : Nat) : BoundS :=
  { cam := h.cam, seq := h.seq, stripe := h.stripe, w := w, idx := h.idx, gen := h.gen, deadline := h.deadline, inl := h.inl
    ctxs := m, training := h.training }

theorem bindShare_binding (s : State) (i w : Nat) (h : Share) : ((s.bindShare i w h).core i).binding =
    (some (h.bound w (s.counter (s.groupOf i) w).ctxs), (s.core i).user, (s.core i).userClear) := by
  unfold State.bindShare State.setCoreState
  rw [State.setFld_core]
  refine (foldl_binding (fun t k => ?_) ..).trans ((foldl_binding (fun t k => ?_) ..).trans ?_)
  · split
    · exact startCtx_binding ..
    · rfl
  · rfl
  · rw [State.core_modCore]
    rfl

/-- R171: binding a core to a share leaves it RUNNING, bound to that share. -/
theorem bindShare_runs (s : State) (i w : Nat) (h : Share) : (s.bindShare i w h).Runs i w h (s.core i).user := by
  obtain ⟨hbound, hrest⟩ := Prod.mk.inj (bindShare_binding s i w h)
  exact ⟨State.fld_setFld_id _ _ _ _ (by decide) (by decide), ⟨_, hbound, ⟨rfl, rfl, rfl, rfl, rfl, rfl, rfl⟩⟩,
    (Prod.mk.inj hrest).1⟩

/-- R171, R259: what the binding gives, and the stage's entries, its temporal buffers and the delivered plane keep, holds once
the share is started. -/
theorem startShare_induct {P : State → Prop} (s : State) (i w : Nat) (h : Share) (hbind : P (s.bindShare i w h))
    (hpc : ∀ t k v, P t → P (t.setFld F.LC_CTX_STATUS_pc k v))
    (htemporal : ∀ t, P t → P (t.temporalBind i h.cam h.seq h.stripe))
    (hppb : ∀ t, P t → P (t.ppbPoison h.cam h.seq)) (hneg : ∀ t, P t → P (t.negPoison h.cam h.seq h.stripe))
    (hplane : ∀ t a p, P t → P (t.deliverPlane i a p)) : P (s.startShare i w h) := by
  have hite : ∀ (c : Prop) [Decidable c] (t t' : State), P t → P t' → P (if c then t else t') := fun c _ t t' ht ht' => by
    split <;> assumption
  have hentries := List.foldlRecOn (motive := P) (List.range 6)
    (fun t k => if bit (s.counter (s.groupOf i) w).ctxs k then
      t.setFld F.LC_CTX_STATUS_pc (8 * i + k) (s.counter (s.groupOf i) w).entry else t) hbind
    fun t ht k _ => hite _ _ _ (hpc _ _ _ ht) ht
  have hbuffers := hite ((s.counter (s.groupOf i) w).temporal ∧ !h.training) _ _ (htemporal _ hentries) hentries
  exact hite _ _ _ hbuffers (hite _ _ _ (hplane _ _ _ hbuffers) (hplane _ _ _ (hneg _ (hppb _ hbuffers))))

/-- R171, R259: a core that starts a share runs it, for the user that the core has. -/
theorem startShare_runs (s : State) (i w : Nat) (h : Share) : (s.startShare i w h).Runs i w h (s.core i).user :=
  startShare_induct (P := fun t => t.Runs i w h (s.core i).user) s i w h (bindShare_runs ..)
    (fun _ _ _ ht => ht.of_binding rfl (State.fld_setFld_reg _ _ _ _ _ _ (by decide)))
    (fun _ ht => ht.temporalBind ..)
    (fun _ ht => ht.of_within (within_ppbPoison (M := 0x40) _ _ rfl (within_refl ..)) rfl rfl)
    (fun _ ht => ht.of_within (within_negPoison (M := 0x40) _ _ _ rfl (within_refl ..)) rfl rfl)
    (fun _ _ _ ht => ht.deliverPlane ..)

theorem startShare_within (s : State) (i w : Nat) (h : Share) :
    Within 0x246400000000000000000000000002200100020000000000000000000000000002400c0 s (s.startShare i w h) :=
  within_startShare _ _ _ rfl (within_refl ..)

/-! ### The core's user (R180, R378) -/

section
variable {s : State} {i : Nat} {u : UserS}

theorem changeUser_within : Within 0x80 s (s.changeUser i u).2 := within_changeUser _ _ rfl (within_refl ..)

theorem changeUser_same (hc : (s.core i).userClear = none) (hu : (s.core i).user = u) : s.changeUser i u = (true, s) := by
  simp [State.changeUser, hc, hu]

/-- R180: a core of another user begins to be cleared. -/
theorem changeUser_begins (hc : (s.core i).userClear = none) (hu : (s.core i).user ≠ u) : s.changeUser i u =
    (false, s.modCore i fun x => { x with userClear := some (s.aclk + s.regN .LC_SPAD_SIZE i / 256) }) := by
  simp [State.changeUser, hc, hu]

/-- R378: a core that need not be cleared, or has been, is the user's. -/
theorem changeUser_user (h : (s.changeUser i u).1 = true) : ((s.changeUser i u).2.core i).user = u := by
  cases hc : (s.core i).userClear with
  | none =>
    by_cases hu : (s.core i).user = u
    · rwa [changeUser_same hc hu]
    · rw [changeUser_begins hc hu] at h
      cases h
  | some t =>
    by_cases ht : t ≤ s.aclk
    · simp [State.changeUser, hc, ht]
    · simp [State.changeUser, hc, ht] at h

end

/-! ### Taking the next share (R84, R85, R171, R259) -/

/-- R259, R260: core i, its user changed where that is needed, holds share h of counter w. -/
def State.holdNext (s : State) (i w : Nat) (h : Share) : State :=
  if h.held.isNone then (s.changeUser i (s.userOf i w h)).2.takeShare i w h else (s.changeUser i (s.userOf i w h)).2

section
variable {s : State} {i w x : Nat} {h : Share}

theorem takeStripe_none (hn : s.nextShare i = none) : s.takeStripe i = s := by
  simp only [State.takeStripe, hn]

section
variable (hn : s.nextShare i = some (w, h, x))
include hn

theorem takeStripe_clears (hc : (s.changeUser i (s.userOf i w h)).1 = false) :
    s.takeStripe i = (s.changeUser i (s.userOf i w h)).2 := by
  simp [State.takeStripe, hn, hc]

variable (hc : (s.changeUser i (s.userOf i w h)).1 = true)
include hc

theorem takeStripe_starts : s.takeStripe i = (s.holdNext i w h).startShare i w h := by
  simp [State.takeStripe, hn, hc, State.holdNext]

theorem takeStripe_runs : (s.takeStripe i).Runs i w h (s.userOf i w h) := by
  have huser : ((s.holdNext i w h).core i).user = s.userOf i w h := by
    unfold State.holdNext
    split
    · exact (congrArg (·.2.1) (takeShare_binding ..)).trans (changeUser_user hc)
    · exact changeUser_user hc
  rw [takeStripe_starts hn hc, ← huser]
  exact startShare_runs ..

/-- R259, R260: a share taken from its counter is the core's there, with a lease from now on. -/
theorem takeStripe_holds (hf : h.held = none) :
    (((s.takeStripe i).counter (s.groupOf i) w).shares.any fun y =>
      y.idx == h.idx && y.held == some (i, s.now + s.leaseNs (s.groupOf i) w)) = true := by
  have hw := changeUser_within (s := s) (i := i) (u := s.userOf i w h)
  generalize hr : (s.changeUser i (s.userOf i w h)).2 = r at hw
  have hhold : s.holdNext i w h = r.takeShare i w h := by rw [State.holdNext, hr, hf]; rfl
  have hgroup : r.groupOf i = s.groupOf i := by unfold State.groupOf; rw [hw.regN _ _ rfl]
  have hlease : r.leaseNs (s.groupOf i) w = s.leaseNs (s.groupOf i) w := by unfold State.leaseNs; rw [hw.fld _ _ rfl]
  have hnow : r.now = s.now := by unfold State.now; rw [hw.time rfl]
  have hm : h ∈ (r.counter (r.groupOf i) w).shares := by
    rw [hw.counter rfl, hgroup]
    exact nextShare_mem_of_free hn hf
  have hheld := takeShare_holds hm
  rw [hgroup, hlease, hnow] at hheld
  rwa [takeStripe_starts hn hc, hhold, (startShare_within ..).counter rfl]

end

end

/-! ### Stripe boundaries (R85, R232) -/

/-- R85, R193, R436: core i is IDLE or RUNNING and may take a stripe: the device is not in the fatal state, nor tripped. -/
def State.atBoundary (s : State) (i : Nat) : Prop :=
  s.coreState i ∈ [2, 3] ∧ s.fatal = false ∧ s.flag F.SFL_STATUS_trip = false

section
variable {s : State} {i : Nat} {b : BoundS}

theorem State.atBoundary.not_barred (ha : s.atBoundary i) :
    ¬(s.coreState i ≠ 2 ∧ s.coreState i ≠ 3 ∨ s.fatal = true ∨ s.flag F.SFL_STATUS_trip = true) := by
  obtain ⟨hstate, hfatal, htrip⟩ := ha
  simp only [List.mem_cons, List.not_mem_nil, or_false] at hstate
  simp only [hfatal, htrip, Bool.false_eq_true, or_false]
  omega

theorem stripeBoundary_free (ha : s.atBoundary i) (hb : (s.core i).bound = none) : s.stripeBoundary i = s.takeStripe i := by
  rw [State.stripeBoundary, if_neg ha.not_barred, hb]

theorem stripeBoundary_done (ha : s.atBoundary i) (hb : (s.core i).bound = some b) (hd : s.stageDone i = true) :
    s.stripeBoundary i = (s.leaveStripe i b).takeStripe i := by
  rw [State.stripeBoundary, if_neg ha.not_barred, hb]
  exact if_pos hd

theorem stripeBoundary_busy (hb : (s.core i).bound ≠ none) (hd : s.stageDone i = false) : s.stripeBoundary i = s := by
  obtain ⟨b, hb⟩ := Option.ne_none_iff_exists'.mp hb
  simp [State.stripeBoundary, hb, hd]

end

end Sys2Proof.Machine

namespace Sys2Proof.Proofs
open Sys2Proof Sys2Proof.Machine

/-- Settles O52: a queued share joins its counter's, and a boundary comes to taking the next share, from the state of an unbound
core or from the one in which the core has left its stripe. -/
theorem shareQueue : Obligations.ShareQueue := by
  refine ⟨fun s dt g w n q k hready => ?queued, fun s dt g w n q k a hdue hready => ?launched,
    fun s dt g w n q k a hearly => ?early,
    fun s dt i w x h hstate hfatal htrip hb hn hc => ?binds, fun s dt i w x h hstate hfatal htrip hb hn hclear huser => ?clears,
    fun s dt i b hstate hfatal htrip hb hdone hn => ?rests,
    fun s dt i b w x h hstate hfatal htrip hb hdone hn hclear huser => ?goesOn, fun s dt i hb hdone => ?stays⟩
  case queued =>
    have hperm := workShareQueue_shares hready
    exact ⟨_, _, exec_workShareQueue .., hperm.mem_iff.mpr (List.mem_cons_self ..), rfl, workShareQueue_next hready,
      hperm.length_eq⟩
  case launched =>
    have hperm := workShareQueue_shares hready
    exact ⟨_, _, exec_next (exec_stripeLaunch ..) (if_pos hdue), hperm.mem_iff.mpr (List.mem_cons_self ..), rfl, rfl, rfl, rfl,
      hperm.length_eq⟩
  case early => exact exec_next (exec_stripeLaunch ..) (if_neg (Nat.not_le.mpr hearly))
  case binds =>
    obtain ⟨hrun, ⟨b, hbound, ht⟩, huser⟩ := takeStripe_runs hn hc
    exact ⟨_, b, exec_next (exec_stripeBoundary ..) (stripeBoundary_free ⟨hstate, hfatal, htrip⟩ hb), hbound, ht.cam,
      ht.seq, ht.stripe, ht.counter, ht.idx, ht.gen, ht.uncommitted, hrun, huser, takeStripe_holds hn hc⟩
  case clears =>
    have hbegin := changeUser_begins hclear huser
    have hnext := (stripeBoundary_free ⟨hstate, hfatal, htrip⟩ hb).trans (takeStripe_clears hn (congrArg Prod.fst hbegin))
    refine ⟨_, exec_next (exec_stripeBoundary ..) (hnext.trans (congrArg Prod.snd hbegin)), ?_, ?_⟩
    · rwa [State.core_modCore]
    · rw [State.core_modCore]
  case rests =>
    have hnext := (stripeBoundary_done ⟨hstate, hfatal, htrip⟩ hb hdone).trans (takeStripe_none hn)
    refine ⟨_, exec_next (exec_stripeBoundary ..) hnext, congrArg Prod.fst (leaveStripe_binding ..),
      leaveStripe_coreState _ _ _, fun c hc => ?_⟩
    rw [leaveStripe_ctxState, if_pos hc]
  case goesOn =>
    obtain ⟨_, hkept⟩ := Prod.mk.inj (leaveStripe_binding (s.elapse dt) i b)
    obtain ⟨huser', hclear'⟩ := Prod.mk.inj hkept
    have hsame := changeUser_same (hclear'.trans hclear) (huser'.trans huser)
    obtain ⟨hrun, ⟨y, hbound, ht⟩, _⟩ := takeStripe_runs hn (congrArg Prod.fst hsame)
    exact ⟨_, y, exec_next (exec_stripeBoundary ..) (stripeBoundary_done ⟨hstate, hfatal, htrip⟩ hb hdone), hbound, ht.cam,
      ht.seq, ht.stripe, ht.counter, ht.idx, ht.gen, hrun⟩
  case stays => exact exec_next (exec_stripeBoundary ..) (stripeBoundary_busy hb hdone)

end Sys2Proof.Proofs
end

section
/-! The statement of the family of exposure about the settings of a camera and of a core (O26): host writes, the two loops, output
credits and the regulator. Its lemmas stand before it. -/
namespace Sys2Proof.Machine

theorem exec_expoStage (dt : Nat) (n : Fin 512) (v : Word) (s : State) :
    exec (.expoStage dt n v) s = .next ((s.elapse dt).onBus .CAM fun s => s.expoWrite n 0 v.toNat) := rfl

theorem exec_wbGainWrite (dt : Nat) (n : Fin 512) (v : Word) (s : State) :
    exec (.wbGainWrite dt n v) s = .next ((s.elapse dt).onBus .CAM fun s => s.wbWrite n v.toNat) := rfl

theorem exec_aeLoopStep (dt : Nat) (n : Fin 512) (s : State) :
    exec (.aeLoopStep dt n) s = .next ((s.elapse dt).aeLoop n) := rfl

theorem exec_awbLoopStep (dt : Nat) (n : Fin 512) (s : State) :
    exec (.awbLoopStep dt n) s = .next ((s.elapse dt).awbLoop n) := rfl

theorem exec_ppbSelect (dt : Nat) (n : Fin 512) (v : Word) (s : State) :
    exec (.ppbSelect dt n v) s = .next ((s.elapse dt).onBus .CAM fun s => s.ppbSelect n v.toNat) := rfl

theorem exec_outCredit (dt : Nat) (n : Fin 512) (v : Word) (s : State) :
    exec (.outCredit dt n v) s = .next ((s.elapse dt).onBus .CAM fun s => s.outCredit n v.toNat) := rfl

theorem exec_dmaRegulatorWrite (dt : Nat) (i : Fin 16) (v : Word) (s : State) :
    exec (.dmaRegulatorWrite dt i v) s = .next ((s.elapse dt).onBus .LC fun s => s.regulatorWrite i v.toNat) := rfl

/-! ### Fields, counters and cameras -/

theorem Within.cam {m : Nat} {s t : State} (h : Within m s t) (hb : m.testBit 5 = false) (n : Nat) : t.cam n = s.cam n :=
  congrArg (fun c => c.get n) (h.cams hb)

theorem getBits_lt (x lo w : Nat) : getBits x lo w < 2 ^ w := Nat.mod_lt _ (Nat.two_pow_pos w)

theorem within_log {m : Nat} {s t : State} (l : LogS) (hl : Has m 18) (h : Within m s t) : Within m s { t with log := l } := by
  refine ⟨fun p hp => ?_⟩
  cases p with
  | log => exact no_part hp hl
  | _ => exact h.same _ hp

/-- R431: counting an event touches, beyond the counter, only the parts that logging touches. -/
theorem bump_within (s : State) (r : RegName) (i cls src n info : Nat) :
    Within 0x24640000000000000000000000000000000000000000000000000000000000000240000
      (s.setRegN r i (satAdd 32 (s.regN r i) n)) (s.bump r i cls src n info) := by
  unfold State.bump
  refine within_ite (within_refl ..) (within_ite (within_logEvent _ _ _ _ _ rfl (within_refl ..)) ?_)
  split
  · exact within_ite (within_captureFirst _ rfl (within_log _ rfl (within_refl ..))) (within_refl ..)
  · exact within_refl ..

/-- R431: a counter that is no register of the log is raised, and saturates. -/
theorem bump_regN (s : State) (r : RegName) (i cls src n info : Nat)
    (hb : Nat.testBit 0x24640000000000000000000000000000000000000000000000000000000000000240000 r.ix = false) :
    (s.bump r i cls src n info).regN r i = satAdd 32 (s.regN r i) n := by
  rw [(bump_within ..).regN _ _ hb, State.regN_setRegN, Nat.mod_eq_of_lt (satAdd_lt ..)]

/-! ### Settings written by the host (R114, R128) -/

/-- R114: the set that the three registers of camera n hold is staged now. -/
def State.stageHost (s : State) (n : Nat) : State := s.modCam n fun c =>
  { c with stagedAt := s.now
           staged := some { e0 := s.regN .CAM_EXPO_NEXT0 n, e1 := s.regN .CAM_EXPO_NEXT1 n, e2 := s.regN .CAM_EXPO_NEXT2 n } }

section
variable {s : State} {n v : Nat}

theorem expoWrite_held (h : s.loopOn n 8 = true) (j : Nat) :
    s.expoWrite n j v = s.setFld F.CAM_EXPO_STATUS_host_ignored n 1 := if_pos h

theorem expoWrite_stages (h : s.loopOn n 8 = false) : s.expoWrite n 0 v = (s.setRegN .CAM_EXPO_NEXT0 n v).stageHost n :=
  (if_neg (by simp [h])).trans (if_pos rfl)

theorem stageHost_staged : ((s.stageHost n).cam n).staged =
    some { e0 := s.regN .CAM_EXPO_NEXT0 n, e1 := s.regN .CAM_EXPO_NEXT1 n, e2 := s.regN .CAM_EXPO_NEXT2 n } := by
  rw [State.stageHost, State.cam_modCam]

theorem wbWrite_held (h : s.loopOn n 9 = true) : s.wbWrite n v = s.setFld F.CAM_EXPO_STATUS_host_ignored n 1 := if_pos h

theorem wbWrite_free (h : s.loopOn n 9 = false) : s.wbWrite n v = s.setRegN .CAM_WB_GAIN n (v % 2 ^ 30) := if_neg (by simp [h])

end

/-! ### The loops (R125, R126, R129) -/

/-- R126: the exposure loop has taken the frame that was due to it. -/
def State.takeAe (s : State) (n : Nat) : State := s.modCam n fun c => { c with aeDue := none }

/-- R129: the white-balance loop has taken the frame that was due to it. -/
def State.takeAwb (s : State) (n : Nat) : State := s.modCam n fun c => { c with awbDue := none }

/-- R125, R126: the exposure loop may use the record of frame q. -/
def State.aeMayUse (s : State) (n q : Nat) : Bool :=
  s.loopOn n 8 && decide (s.regN .CAM_EXPO_TARGET n ≤ q) && (s.frame n q).seq == q && s.statsUsable n q

/-- R125, R129: the white-balance loop may use the record of frame q. -/
def State.awbMayUse (s : State) (n q : Nat) : Bool := s.loopOn n 9 && (s.frame n q).seq == q && s.statsUsable n q

section
variable {s : State} {n q : Nat}

theorem aeMayUse_iff : s.aeMayUse n q = true ↔
    s.loopOn n 8 = true ∧ s.regN .CAM_EXPO_TARGET n ≤ q ∧ (s.frame n q).seq = q ∧ s.statsUsable n q = true := by
  simp [State.aeMayUse, and_assoc]

theorem awbMayUse_iff : s.awbMayUse n q = true ↔ s.loopOn n 9 = true ∧ (s.frame n q).seq = q ∧ s.statsUsable n q = true := by
  simp [State.awbMayUse, and_assoc]

theorem takeAe_cam : (s.takeAe n).cam n = { s.cam n with aeDue := none } := State.cam_modCam ..

theorem takeAwb_cam : (s.takeAwb n).cam n = { s.cam n with awbDue := none } := State.cam_modCam ..

/-- R113: taking a frame leaves the enables in force. -/
theorem takeAe_loopOn (b : Nat) : (s.takeAe n).loopOn n b = s.loopOn n b := by
  rw [State.loopOn, takeAe_cam]
  rfl

theorem takeAwb_loopOn (b : Nat) : (s.takeAwb n).loopOn n b = s.loopOn n b := by
  rw [State.loopOn, takeAwb_cam]
  rfl

theorem takeAe_aeMayUse : (s.takeAe n).aeMayUse n q = s.aeMayUse n q := by
  unfold State.aeMayUse
  rw [takeAe_loopOn]
  rfl

theorem takeAwb_awbMayUse : (s.takeAwb n).awbMayUse n q = s.awbMayUse n q := by
  unfold State.awbMayUse
  rw [takeAwb_loopOn]
  rfl

theorem takeAe_aeStep : (s.takeAe n).aeStep n q = s.aeStep n q := rfl

theorem takeAwb_awbStep : (s.takeAwb n).awbStep n q = s.awbStep n q := rfl

/-- R126: the loop takes the frame that is due, and stages what it computes from the record, once. -/
theorem aeLoop_due (hd : (s.cam n).aeDue = some q) : s.aeLoop n =
    if (s.takeAe n).aeMayUse n q then
      match (s.takeAe n).aeStep n q with
      | some x => ((s.takeAe n).stageSet n x).camCount .CAM_CNT_AE_UPDATE n clsExpo q
      | none => s.takeAe n
    else s.takeAe n := by
  rw [State.aeLoop, hd]
  rfl

theorem awbLoop_due (hd : (s.cam n).awbDue = some q) : s.awbLoop n =
    if (s.takeAwb n).awbMayUse n q then
      match (s.takeAwb n).awbStep n q with
      | some v => (s.takeAwb n).setRegN .CAM_WB_GAIN n v
      | none => s.takeAwb n
    else s.takeAwb n := by
  rw [State.awbLoop, hd]
  rfl

theorem aeLoop_stages {x : ExpoSet} (hd : (s.cam n).aeDue = some q) (hu : s.aeMayUse n q = true) (hx : s.aeStep n q = some x) :
    s.aeLoop n = ((s.takeAe n).stageSet n x).camCount .CAM_CNT_AE_UPDATE n clsExpo q := by
  rw [aeLoop_due hd, takeAe_aeMayUse, if_pos hu, takeAe_aeStep, hx]

theorem aeLoop_drops (hd : (s.cam n).aeDue = some q) (h : s.aeMayUse n q = false ∨ s.aeStep n q = none) :
    s.aeLoop n = s.takeAe n := by
  rw [aeLoop_due hd, takeAe_aeMayUse, takeAe_aeStep]
  obtain hu | hx := h
  · rw [hu]
    rfl
  · rw [hx]
    exact ite_self _

theorem awbLoop_sets {v : Nat} (hd : (s.cam n).awbDue = some q) (hu : s.awbMayUse n q = true) (hv : s.awbStep n q = some v) :
    s.awbLoop n = (s.takeAwb n).setRegN .CAM_WB_GAIN n v := by
  rw [awbLoop_due hd, takeAwb_awbMayUse, if_pos hu, takeAwb_awbStep, hv]

end

section
variable (s : State) (n : Nat) (x : ExpoSet)

theorem stageSet_staged : ((s.stageSet n x).cam n).staged = some x := by
  simp [State.stageSet]

theorem stageSet_aeDue : ((s.stageSet n x).cam n).aeDue = (s.cam n).aeDue := by
  simp [State.stageSet]

theorem stageSet_next0 : (s.stageSet n x).regN .CAM_EXPO_NEXT0 n = x.e0 % 2 ^ 32 := by
  rw [State.stageSet, State.modCam_regN, State.regN_setRegN_reg _ _ _ _ _ _ (by decide),
    State.regN_setRegN_reg _ _ _ _ _ _ (by decide), State.regN_setRegN]

theorem stageSet_next1 : (s.stageSet n x).regN .CAM_EXPO_NEXT1 n = x.e1 % 2 ^ 32 := by
  rw [State.stageSet, State.modCam_regN, State.regN_setRegN_reg _ _ _ _ _ _ (by decide), State.regN_setRegN]

theorem stageSet_next2 : (s.stageSet n x).regN .CAM_EXPO_NEXT2 n = x.e2 % 2 ^ 32 := by
  rw [State.stageSet, State.modCam_regN, State.regN_setRegN]

/-- R126: staging a set leaves the count of updates as it is. -/
theorem stageSet_updates : (s.stageSet n x).regN .CAM_CNT_AE_UPDATE n = s.regN .CAM_CNT_AE_UPDATE n := by
  rw [State.stageSet, State.modCam_regN, State.regN_setRegN_reg _ _ _ _ _ _ (by decide),
    State.regN_setRegN_reg _ _ _ _ _ _ (by decide), State.regN_setRegN_reg _ _ _ _ _ _ (by decide)]

end

/-! ### Output credits (R157) and the regulator (R282) -/

/-- R157: the slots free after a credit; beyond the field, a credit may only log an event. -/
theorem outCredit_free (s : State) (n v : Nat) : (s.outCredit n v).fld F.CAM_OUT_STATUS_free n =
    min (s.fld F.CAM_OUT_STATUS_free n + getBits v 0 8) (s.fld F.CAM_OUT_RING_count n) := by
  have hlt : min (s.fld F.CAM_OUT_STATUS_free n + getBits v 0 8) (s.fld F.CAM_OUT_RING_count n) < 2 ^ 8 :=
    Nat.lt_of_le_of_lt (Nat.min_le_right ..) (getBits_lt ..)
  have hset := State.fld_setFld_id s F.CAM_OUT_STATUS_free n _ (by decide) hlt
  unfold State.outCredit
  dsimp only
  split
  · rwa [State.logEvent_fld _ _ _ _ _ _ _ _ (by rfl)]
  · exact hset

/-- R282: the owner's rate and depth of core i are written. -/
def State.setRegulator (s : State) (i v : Nat) : State :=
  (s.setFld F.LC_DMA_REG_depth i (getBits v 24 8)).setFld F.LC_DMA_REG_rate i (getBits v 0 12)

section
variable (s : State) (i v : Nat)

theorem regulatorWrite_fld (f : Fld) (j : Nat) : (s.regulatorWrite i v).fld f j = (s.setRegulator i v).fld f j := by
  rw [State.regulatorWrite, State.modCore_fld, State.setRegulator]

theorem regulatorWrite_rate : (s.regulatorWrite i v).fld F.LC_DMA_REG_rate i = getBits v 0 12 :=
  (regulatorWrite_fld ..).trans (State.fld_setFld_id _ F.LC_DMA_REG_rate _ _ (by decide) (getBits_lt ..))

theorem regulatorWrite_depth : (s.regulatorWrite i v).fld F.LC_DMA_REG_depth i = getBits v 24 8 :=
  calc (s.regulatorWrite i v).fld F.LC_DMA_REG_depth i
      = (s.setRegulator i v).fld F.LC_DMA_REG_depth i := regulatorWrite_fld ..
    _ = (s.setFld F.LC_DMA_REG_depth i (getBits v 24 8)).fld F.LC_DMA_REG_depth i :=
      State.fld_setFld_field _ F.LC_DMA_REG_rate F.LC_DMA_REG_depth _ _ rfl (by decide) (by decide)
    _ = getBits v 24 8 := State.fld_setFld_id _ F.LC_DMA_REG_depth _ _ (by decide) (getBits_lt ..)

/-- R282: the tokens of the core are those it had, held to the depth that is now in force. -/
theorem regulatorWrite_tau : ((s.regulatorWrite i v).core i).tau = min (s.tokens i) ((s.regulatorWrite i v).dmaDepth i) := by
  rw [State.dmaDepth, regulatorWrite_fld, State.regulatorWrite, State.core_modCore, State.dmaDepth, State.setRegulator]

end

end Sys2Proof.Machine

namespace Sys2Proof.Proofs
open Sys2Proof Sys2Proof.Machine

/-- Settles O26: in each clause the command comes to one write of the host, or to one of the two ends of a loop's step, whose
fields are then read off. -/
theorem cameraSettings : Obligations.CameraSettings := by
  refine ⟨fun s dt n v hb hoff => ?stages, fun s dt n v hb hon => ?stagingIgnored, fun s dt n v hb hoff => ?gains,
    fun s dt n v hb hon => ?gainsIgnored, fun s dt n q x hd hon ht hq hu hx => ?aeStages, fun s dt n q hd hnot => ?aeDrops,
    fun s dt n q v hd hon hq hu hv => ?awbSets, fun s dt n v hb => ?copy, fun s dt n v hb => ?credit,
    fun s dt i v hb => ?regulator⟩
  case stages =>
    have hnext : ((s.elapse dt).setRegN .CAM_EXPO_NEXT0 n v.toNat).regN .CAM_EXPO_NEXT0 n = v.toNat :=
      (State.regN_setRegN ..).trans (Nat.mod_eq_of_lt v.isLt)
    refine ⟨_, exec_next (exec_expoStage ..) ((onBus_of_answers _ hb).trans (expoWrite_stages hoff)), hnext, ?_⟩
    rw [stageHost_staged, hnext, State.regN_setRegN_reg _ _ _ _ _ _ (by decide), State.regN_setRegN_reg _ _ _ _ _ _ (by decide)]
  case stagingIgnored =>
    exact ⟨_, exec_next (exec_expoStage ..) ((onBus_of_answers _ hb).trans (expoWrite_held hon 0)),
      State.regN_setFld_reg _ _ _ _ _ _ (by decide), State.fld_setFld_id _ _ _ _ (by decide) (by decide), rfl⟩
  case gains =>
    refine ⟨_, exec_next (exec_wbGainWrite ..) ((onBus_of_answers _ hb).trans (wbWrite_free hoff)),
      (State.regN_setRegN ..).trans (Nat.mod_eq_of_lt ?_)⟩
    omega
  case gainsIgnored =>
    exact ⟨_, exec_next (exec_wbGainWrite ..) ((onBus_of_answers _ hb).trans (wbWrite_held hon)),
      State.regN_setFld_reg _ _ _ _ _ _ (by decide), State.fld_setFld_id _ _ _ _ (by decide) (by decide)⟩
  case aeStages =>
    have hstep := aeLoop_stages hd (aeMayUse_iff.mpr ⟨hon, ht, hq, hu⟩) hx
    have hw := bump_within (((s.elapse dt).takeAe n).stageSet n x) .CAM_CNT_AE_UPDATE n clsExpo (srcCam n) 1 q
    have hcam := hw.cam rfl n
    refine ⟨_, exec_next (exec_aeLoopStep ..) hstep, ?_, ?_, ?_, ?_, ?_, ?_⟩
    · exact (congrArg CamS.aeDue hcam).trans ((stageSet_aeDue ..).trans (congrArg CamS.aeDue (takeAe_cam ..)))
    · exact (congrArg CamS.staged hcam).trans (stageSet_staged ..)
    · exact (hw.regN _ _ rfl).trans ((State.regN_setRegN_reg _ _ _ _ _ _ (by decide)).trans (stageSet_next0 ..))
    · exact (hw.regN _ _ rfl).trans ((State.regN_setRegN_reg _ _ _ _ _ _ (by decide)).trans (stageSet_next1 ..))
    · exact (hw.regN _ _ rfl).trans ((State.regN_setRegN_reg _ _ _ _ _ _ (by decide)).trans (stageSet_next2 ..))
    · exact (bump_regN _ _ _ _ _ _ _ rfl).trans (congrArg (satAdd 32 · 1) (stageSet_updates ..))
  case aeDrops =>
    have hno : (s.elapse dt).aeMayUse n q = false ∨ (s.elapse dt).aeStep n q = none := by
      cases hm : (s.elapse dt).aeMayUse n q with
      | false => exact .inl rfl
      | true =>
        obtain ⟨hon, ht, _, hu⟩ := aeMayUse_iff.mp hm
        obtain hoff | hlt | hbad | hx := hnot
        · cases hon.symm.trans hoff
        · exact absurd hlt (Nat.not_lt.mpr ht)
        · cases hu.symm.trans hbad
        · exact .inr hx
    refine ⟨_, exec_next (exec_aeLoopStep ..) (aeLoop_drops hd hno), ?_, ?_, rfl⟩
    · rw [takeAe_cam]
    · rw [takeAe_cam]
  case awbSets =>
    refine ⟨_, exec_next (exec_awbLoopStep ..) (awbLoop_sets hd (awbMayUse_iff.mpr ⟨hon, hq, hu⟩) hv), ?_⟩
    exact ⟨congrArg CamS.awbDue (takeAwb_cam ..), State.regN_setRegN .., takeAwb_cam ..⟩
  case copy =>
    refine ⟨_, exec_next (exec_ppbSelect ..) (onBus_of_answers _ hb), ?_⟩
    exact State.fld_setFld_id _ F.CAM_PPB_SEL_copy _ _ (by decide) (getBits_lt ..)
  case credit => exact ⟨_, exec_next (exec_outCredit ..) (onBus_of_answers _ hb), outCredit_free ..⟩
  case regulator =>
    exact ⟨_, exec_next (exec_dmaRegulatorWrite ..) (onBus_of_answers _ hb), regulatorWrite_rate .., regulatorWrite_depth ..,
      regulatorWrite_tau ..⟩

end Sys2Proof.Proofs
end

section
/-! The statement of the family of exposure about commands on a camera (O35): what a started command is carried out on, what its
reply does, and each command in the case of its clause. Its lemmas stand before it. -/
namespace Sys2Proof.Machine

theorem exec_profileLoad (dt : Nat) (r : CmdName) (bytes : List Byte) (s : State) :
    exec (.profileLoad dt r bytes) s = .next ((s.elapse dt).profileLoad (cmdRef r) bytes) := rfl

theorem exec_sensorXfer (dt : Nat) (r : CmdName) (s : State) :
    exec (.sensorXfer dt r) s = .next ((s.elapse dt).sensorXfer (cmdRef r)) := rfl

theorem exec_camGrant (dt : Nat) (r : CmdName) (s : State) :
    exec (.camGrant dt r) s = .next ((s.elapse dt).camGrant (cmdRef r)) := rfl

theorem exec_camRings (dt : Nat) (r : CmdName) (s : State) :
    exec (.camRings dt r) s = .next ((s.elapse dt).camRings (cmdRef r)) := rfl

theorem exec_modelBind (dt : Nat) (r : CmdName) (s : State) :
    exec (.modelBind dt r) s = .next ((s.elapse dt).modelBind (cmdRef r)) := rfl

theorem exec_calibCapture (dt : Nat) (r : CmdName) (s : State) :
    exec (.calibCapture dt r) s = .next ((s.elapse dt).calibCapture (cmdRef r)) := rfl

/-! ### A command being carried out (R347, R352) -/

/-- R347: command c, begun. -/
def State.begun (s : State) (c : CmdRef) : State := s.setTaken c true

theorem command_setQueue (s : State) (c : CmdRef) (x : QueueS) :
    (s.setQueue c.fn c.q x).command c = x.started.find? fun k => k.slot == c.slot := by
  rw [State.command, State.queue_setQueue]

section
variable {s : State} {c : CmdRef} {op : Nat} {k : Cmd}

/-- R352, R372: a command that is asked for is carried out. -/
theorem onCmd_of_asked (h : s.asked c op k) (body : Cmd → State → State) : s.onCmd c op body = body k (s.begun c) := by
  obtain ⟨hcmd, hop, htaken, hturn⟩ := h
  rw [State.onCmd, hcmd]
  exact if_pos ⟨hop, htaken, hturn⟩

theorem begun_command (h : s.command c = some k) : (s.begun c).command c = some { k with taken := true } := by
  have hslot : k.slot = c.slot := by simpa using List.find?_some h
  have hpred : ((fun x : Cmd => x.slot == c.slot) ∘ fun x : Cmd => if x.slot = c.slot then { x with taken := true } else x) =
      fun x => x.slot == c.slot := by
    funext x
    simp only [Function.comp_apply]
    split <;> rfl
  have hfind : (s.queue c.fn c.q).started.find? (fun x => x.slot == c.slot) = some k := h
  refine (command_setQueue ..).trans ?_
  rw [List.find?_map, hpred, hfind, Option.map_some, if_pos hslot]

/-- R347: of its function, a command that begins changes the queues alone. -/
theorem begun_fn (s : State) (c : CmdRef) (f : Nat) : ∃ qs, (s.begun c).fn f = { s.fn f with queues := qs } := by
  by_cases h : f = c.fn
  · exact h ▸ ⟨_, State.fn_modFn ..⟩
  · exact ⟨_, State.fn_modFn_ne _ _ _ _ h⟩

theorem begun_bme (s : State) (c : CmdRef) (f : Nat) : ((s.begun c).fn f).bme = (s.fn f).bme := by
  obtain ⟨qs, h⟩ := begun_fn s c f
  rw [h]

theorem begun_host (s : State) (c : CmdRef) (f : Nat) : ((s.begun c).fn f).host = (s.fn f).host := by
  obtain ⟨qs, h⟩ := begun_fn s c f
  rw [h]

end

/-! ### Replies (R345, R346, R349) -/

theorem hostWrite_out {s : State} {f : Nat} (h : (s.fn f).bme = true) (a : Nat) (bs : List Byte) :
    (s.hostWrite f a bs).out = .hostWrite f a bs :: s.out := by
  rw [State.hostWrite, if_pos h]
  rfl

/-- R345: the slot of a command that completes is no longer among the started ones. -/
theorem find?_slot_removed (l : List Cmd) (n : Nat) : (l.filter fun x => x.slot != n).find? (fun x => x.slot == n) = none := by
  simp [List.find?_eq_none]

/-- R346: the host address of the next reply slot of command c's queue. -/
def State.replyAddr (s : State) (c : CmdRef) : Nat :=
  s.pair .RQ_BASE_LO .RQ_BASE_HI (4 * c.fn + c.q) / 4096 * 4096 + 32 * s.fld F.CQ_STATUS_rq_tail (4 * c.fn + c.q)

/-- R349: the reply of command c, which is k, goes out to the next reply slot. -/
def State.writeReply (s : State) (c : CmdRef) (k : Cmd) (status detail q0 q1 : Nat) : State :=
  s.hostWrite c.fn (s.replyAddr c) (leBytes 4 k.seq ++ leBytes 2 k.opcode ++ leBytes 1 status ++
    leBytes 1 (s.fld F.CQ_STATUS_phase (4 * c.fn + c.q)) ++ leBytes 2 k.slot ++
    leBytes 2 (s.fld F.CQ_STATUS_head (4 * c.fn + c.q)) ++ leBytes 4 detail ++ leBytes 8 q0 ++ leBytes 8 q1)

/-- R346: the slot at tail, of size, has been written in phase ph; the next one is the next to be written. -/
def State.nextReplySlot (s : State) (c : CmdRef) (tail ph size : Nat) : State :=
  let i := 4 * c.fn + c.q
  let s := s.setFld F.CQ_STATUS_rq_tail i ((tail + 1) % size)
  let s := if (tail + 1) % size = 0 then s.setFld F.CQ_STATUS_phase i (1 - ph) else s
  if s.boot.unit.any fun x => decide (x.2.2.1 = c) then { s with boot := { s.boot with unit := none } } else s

/-- R345, R349: queue u of command c counts the reply toward its interrupt, unless it is QUIET. -/
def State.countReply (s : State) (c : CmdRef) (quiet : Bool) (u : QueueS) : State :=
  let i := 4 * c.fn + c.q
  if quiet then (s.setQueue c.fn c.q u).setIdle c.fn c.q
  else if max 1 (s.fld F.CQ_CFG_mod_count i) ≤ u.unsig + 1 then
    ((s.setQueue c.fn c.q { u with unsig := 0 }).setIdle c.fn c.q).raise c.fn (s.fld F.CQ_CFG_vector i)
  else
    (s.setQueue c.fn c.q { u with unsig := u.unsig + 1, unsigFrom := if u.unsig = 0 then s.now else u.unsigFrom }).setIdle c.fn c.q

/-- R345: the queue after the reply of the command in slot n. -/
def QueueS.afterReply (u : QueueS) (n : Nat) : QueueS :=
  { u with started := u.started.filter fun x => x.slot != n, unread := u.unread + 1 }

section
variable {s t : State} {c : CmdRef} {op : Nat} {k : Cmd}

/-- R345, R346, R349: a reply is written, its slot is passed, and it is counted. -/
theorem reply_eq (hk : s.command c = some k) (status detail q0 q1 : Nat) : s.reply c status detail q0 q1 =
    ((s.writeReply c k status detail q0 q1).nextReplySlot c (s.fld F.CQ_STATUS_rq_tail (4 * c.fn + c.q))
      (s.fld F.CQ_STATUS_phase (4 * c.fn + c.q)) (s.qSlots c.fn c.q)).countReply c (bit k.flags 1)
      ((s.queue c.fn c.q).afterReply k.slot) := by
  rw [State.reply, hk]
  rfl

theorem countReply_command (s : State) (c : CmdRef) (quiet : Bool) (u : QueueS) :
    (s.countReply c quiet u).command c = u.started.find? fun x => x.slot == c.slot := by
  have hqueue : ∀ x, ((s.setQueue c.fn c.q x).setIdle c.fn c.q).command c = x.started.find? fun y => y.slot == c.slot :=
    fun x => (State.setIdle_command ..).trans (command_setQueue ..)
  unfold State.countReply
  dsimp only
  split
  · exact hqueue u
  · split
    · exact hqueue { u with unsig := 0 }
    · exact hqueue _

theorem keeps_nextReplySlot (s : State) (c : CmdRef) (tail ph size : Nat) : Keeps s (s.nextReplySlot c tail ph size) := by
  have hslot := keeps_setFld F.CQ_STATUS_rq_tail (4 * c.fn + c.q) ((tail + 1) % size) (keeps_refl s)
  have hphase := keeps_ite (c := (tail + 1) % size = 0) (keeps_setFld F.CQ_STATUS_phase (4 * c.fn + c.q) (1 - ph) hslot) hslot
  exact keeps_ite (keeps_mk rfl rfl rfl rfl rfl hphase) hphase

theorem keeps_countReply (s : State) (c : CmdRef) (quiet : Bool) (u : QueueS) : Keeps s (s.countReply c quiet u) := by
  have hqueue : ∀ x, Keeps s ((s.setQueue c.fn c.q x).setIdle c.fn c.q) := fun x =>
    keeps_setIdle _ _ (keeps_setQueue _ _ _ (keeps_refl s))
  exact keeps_ite (hqueue _) (keeps_ite (keeps_raise _ _ (hqueue _)) (hqueue _))

theorem reply_command (s : State) (c : CmdRef) (status detail q0 q1 : Nat) : (s.reply c status detail q0 q1).command c = none := by
  cases hk : s.command c with
  | none => rwa [State.reply, hk]
  | some k =>
    have hslot : k.slot = c.slot := by simpa using List.find?_some hk
    rw [reply_eq hk, countReply_command, hslot]
    exact find?_slot_removed ..

/-- R349: the reply that leaves the device names the command, and carries its status, detail and results. -/
theorem reply_out (hk : s.command c = some k) (hb : (s.fn c.fn).bme = true) (status detail q0 q1 : Nat) :
    ∃ a m, m.length = 5 ∧ Out.hostWrite c.fn a (leBytes 4 k.seq ++ leBytes 2 k.opcode ++ leBytes 1 status ++ m ++
      leBytes 4 detail ++ leBytes 8 q0 ++ leBytes 8 q1) ∈ (s.reply c status detail q0 q1).out := by
  refine ⟨s.replyAddr c, leBytes 1 (s.fld F.CQ_STATUS_phase (4 * c.fn + c.q)) ++ leBytes 2 k.slot ++
    leBytes 2 (s.fld F.CQ_STATUS_head (4 * c.fn + c.q)), rfl, ?_⟩
  rw [reply_eq hk]
  refine (keeps_countReply ..).sent.subset ((keeps_nextReplySlot ..).sent.subset ?_)
  rw [State.writeReply, hostWrite_out hb]
  simp only [List.append_assoc]
  exact List.mem_cons_self ..

/-- R349: a command that is carried out replies, where nothing but its beginning has touched the functions and their queues. -/
theorem replied_reply (h : s.asked c op k) (ht : t.fns = (s.begun c).fns) (status : Nat) (detail q0 q1 : Nat := 0) :
    s.replied (t.reply c status detail q0 q1) c k status := by
  have hcmd : t.command c = (s.begun c).command c := by unfold State.command State.queue State.fn; rw [ht]
  have hfn : t.fn c.fn = (s.begun c).fn c.fn := by unfold State.fn; rw [ht]
  refine ⟨reply_command .., fun hb => ?_⟩
  obtain ⟨a, m, _, hout⟩ := reply_out (hcmd.trans (begun_command h.1)) (by rw [hfn, begun_bme, hb]) status detail q0 q1
  simp only [List.append_assoc] at hout ⊢
  exact ⟨a, _, hout⟩

end

/-! ### PROFILE_LOAD, CAM_GRANT, MODEL_BIND, CALIB_CAPTURE (R115, R142, R240, R353) -/

section
variable {s : State} {c : CmdRef} {k : Cmd}

theorem profileLoad_loads (h : s.asked c 0x0103 k) (hs : s.stream k.cam = 0) (hlo : 64 ≤ k.w 2) (hhi : k.w 2 ≤ 4096)
    (hb : (s.fn c.fn).bme = true) (bytes : List Byte) : s.profileLoad c bytes =
      (((s.begun c).obsAdd 1665 (k.w 2)).modCam k.cam fun x => { x with profile := some (bytes.take (k.w 2)) }).reply c stOk := by
  refine (onCmd_of_asked h _).trans ((if_neg (not_not_intro hs)).trans ((if_neg ?_).trans (if_pos ?_)))
  · omega
  · rwa [begun_bme]

theorem camGrant_grants (h : s.asked c 0x0105 k) (hh : getBits (k.w 0) 16 4 ≤ 8) (hs : s.stream k.cam = 0) :
    s.camGrant c = ((s.begun c).modCam k.cam fun x => { x with holder := getBits (k.w 0) 16 4 }).reply c stOk :=
  (onCmd_of_asked h _).trans ((if_neg (Nat.not_lt.mpr hh)).trans (if_neg (not_not_intro hs)))

theorem modelBind_binds (h : s.asked c 0x0203 k) (hs : s.stream k.cam = 0) :
    s.modelBind c = ((s.begun c).modCam k.cam fun x => { x with model := some (getBits (k.w 0) 16 16) }).reply c stOk :=
  (onCmd_of_asked h _).trans (if_neg (not_not_intro hs))

theorem calibCapture_begins (h : s.asked c 0x0204 k) (h0 : getBits (k.w 0) 16 8 ≠ 0) (hn : (s.cam k.cam).capture = none) :
    s.calibCapture c = (s.begun c).modCam k.cam fun x => { x with
      capture := some { cmd := c, left := getBits (k.w 0) 16 8, addr := k.w 1, bytes := getBits (k.w 2) 0 32 } } := by
  have hfree : ¬((s.begun c).cam k.cam).capture.isSome = true := by
    have hcam : (s.begun c).cam k.cam = s.cam k.cam := rfl
    simp [hcam, hn]
  exact (onCmd_of_asked h _).trans ((if_neg h0).trans (if_neg hfree))

end

/-! ### SENSOR_XFER (R56, R58) -/

/-- R352: the transaction that a SENSOR_XFER asks for. -/
def Cmd.xferReq (k : Cmd) : TunnelReq :=
  { slot := camSlot k.cam, bus := getBits (k.w 0) 16 1, combined := getBits (k.w 0) 17 1, addr := getBits (k.w 0) 24 7
    ccc := getBits (k.w 0) 32 8
    wdata := (leBytes 8 (k.w 1) ++ leBytes 8 (k.w 2) ++ leBytes 8 (k.w 3) ++ leBytes 8 (k.w 4)).take (getBits (k.w 0) 40 8)
    rlen := getBits (k.w 0) 48 8 }

/-- R58: a transaction waits on port p for others to end. -/
def State.holdTunnel (s : State) (p : Nat) (r : TunnelReq) (who : TunnelFor) : State :=
  s.setPort p { s.port p with held := (s.port p).held ++ [{ tag := 0, req := r, began := 0, who := who }] }

theorem holdTunnel_held (s : State) (p : Nat) (r : TunnelReq) (who : TunnelFor) :
    ((s.holdTunnel p r who).port p).held = (s.port p).held ++ [{ tag := 0, req := r, began := 0, who := who }] := by
  rw [State.holdTunnel, State.port_setPort]

section
variable {s : State} {c : CmdRef} {k : Cmd} {p : Nat}

section
variable (h : s.asked c 0x0104 k) (hw : getBits (k.w 0) 40 8 ≤ 32) (hr : getBits (k.w 0) 48 8 ≤ 16)
include h hw hr

theorem sensorXfer_closed (hin : s.isIn (camPort k.cam) = false) (hst : s.fld F.IXL_PORT_STATUS_state (camPort k.cam) ≠ 4) :
    s.sensorXfer c = (s.begun c).reply c stClosed := by
  refine (onCmd_of_asked h _).trans ((if_neg ?_).trans (if_pos ⟨hin, hst⟩))
  omega

theorem sensorXfer_asks (hst : s.fld F.IXL_PORT_STATUS_state (camPort k.cam) = 4) :
    s.sensorXfer c = (s.begun c).tunnelRequest (camPort k.cam) k.xferReq (.xfer c) := by
  refine (onCmd_of_asked h _).trans ((if_neg ?_).trans (if_neg fun hclosed => hclosed.2 hst))
  omega

end

section
variable (hin : s.isIn p = false) (hst : s.fld F.IXL_PORT_STATUS_state p = 4) (r : TunnelReq) (who : TunnelFor)
include hin hst

theorem tunnelRequest_begins (hfree : (s.port p).tunnels.length < 16 ∧ (s.port p).held = []) :
    s.tunnelRequest p r who = s.beginTunnel p r who :=
  (if_neg (by simp [hin])).trans ((if_neg (not_not_intro hst)).trans (if_pos hfree))

theorem tunnelRequest_held (hfull : ¬((s.port p).tunnels.length < 16 ∧ (s.port p).held = [])) :
    s.tunnelRequest p r who = s.holdTunnel p r who :=
  (if_neg (by simp [hin])).trans ((if_neg (not_not_intro hst)).trans (if_neg hfull))

end

section
variable (h : s.asked c 0x0104 k) (hw : getBits (k.w 0) 40 8 ≤ 32) (hr : getBits (k.w 0) 48 8 ≤ 16)
  (hin : s.isIn (camPort k.cam) = false) (hst : s.fld F.IXL_PORT_STATUS_state (camPort k.cam) = 4)
include h hw hr hin hst

theorem sensorXfer_begins (hfree : (s.port (camPort k.cam)).tunnels.length < 16 ∧ (s.port (camPort k.cam)).held = []) :
    s.sensorXfer c = (s.begun c).beginTunnel (camPort k.cam) k.xferReq (.xfer c) :=
  (sensorXfer_asks h hw hr hst).trans (tunnelRequest_begins (s := s.begun c) hin hst _ _ hfree)

theorem sensorXfer_held (hfull : ¬((s.port (camPort k.cam)).tunnels.length < 16 ∧ (s.port (camPort k.cam)).held = [])) :
    s.sensorXfer c = (s.begun c).holdTunnel (camPort k.cam) k.xferReq (.xfer c) :=
  (sensorXfer_asks h hw hr hst).trans (tunnelRequest_held (s := s.begun c) hin hst _ _ hfull)

end

/-- R56: the blocks of a transaction with this tag wait in the backchannel of port p. -/
def State.queueRequest (s : State) (p tag : Nat) (r : TunnelReq) : State :=
  (ctlData tag (r.wdata.length + 1) r.wdata).foldl (fun s d => s.queueBlock p 7 0xA5 d) (s.queueBlock p 7 0x99 (ctlBegin tag r))

theorem queueRequest_now (s : State) (p tag : Nat) (r : TunnelReq) : (s.queueRequest p tag r).now = s.now := by
  have hw : Within 0x10 s (s.queueRequest p tag r) :=
    within_foldl _ _ (within_queueBlock _ _ _ _ rfl (within_refl ..)) fun t d ht => within_queueBlock _ _ _ _ rfl ht
  exact congrArg TimeS.now (hw.time rfl)

/-- R58: a transaction that begins is outstanding from now on, under a tag. -/
theorem beginTunnel_tunnels (s : State) (p : Nat) (r : TunnelReq) (who : TunnelFor) : ∃ tag,
    ((s.beginTunnel p r who).port p).tunnels = (s.port p).tunnels ++ [{ tag := tag, req := r, began := s.now, who := who }] := by
  refine ⟨freeTag ((s.port p).tunnels.map (·.tag)) 256 (s.port p).nextTag, ?_⟩
  rw [← queueRequest_now s p (freeTag ((s.port p).tunnels.map (·.tag)) 256 (s.port p).nextTag) r]
  exact congrArg PortS.tunnels (State.port_setPort ..)

end

/-! ### CAM_RINGS (R479) -/

/-- R479: the base that P(i+1) gives for ring i. -/
def Cmd.ringBase (k : Cmd) (i : Nat) : Nat := k.w (i + 1) / 4096 * 4096

/-- R479: a mirror ring is set and enabled where the command chooses it, and disabled where it does not. -/
def State.putRing (s : State) (k : Cmd) (n : Nat) (lo hi : RegName) (i : Nat) : State :=
  if bit (k.w 5) i then s.setPair lo hi n (k.ringBase i + 1) else s.setRegN lo n (s.regN lo n / 2 * 2)

/-- R479: the output ring is set where the command chooses it. -/
def State.putOutRing (s : State) (k : Cmd) (n : Nat) : State :=
  if bit (k.w 5) 0 then s.setPair .CAM_OUT_BASE_LO .CAM_OUT_BASE_HI n (k.ringBase 0) else s

/-- R479: the four rings. -/
def State.putRings (s : State) (k : Cmd) (n : Nat) : State :=
  (((s.putOutRing k n).putRing k n .CAM_LEDGER_HOST_LO .CAM_LEDGER_HOST_HI 1).putRing k n .CAM_STATS_HOST_LO .CAM_STATS_HOST_HI
    2).putRing k n .CAM_ADAPT_AUDIT_LO .CAM_ADAPT_AUDIT_HI 3

section
variable (s : State) (k : Cmd) (n i v : Nat) {lo hi : RegName}

theorem pair_setPair (h : lo ≠ hi) : (s.setPair lo hi i v).pair lo hi i = v % 2 ^ 64 := by
  unfold State.setPair State.pair
  rw [State.regN_setRegN, State.regN_setRegN_reg _ _ _ _ _ _ h, State.regN_setRegN]
  omega

theorem setPair_regN (r : RegName) (j : Nat) (hlo : r ≠ lo) (hhi : r ≠ hi) : (s.setPair lo hi i v).regN r j = s.regN r j := by
  unfold State.setPair
  rw [State.regN_setRegN_reg _ _ _ _ _ _ hhi, State.regN_setRegN_reg _ _ _ _ _ _ hlo]

theorem putRing_pair (hb : bit (k.w 5) i = true) (h : lo ≠ hi) :
    (s.putRing k n lo hi i).pair lo hi n = (k.ringBase i + 1) % 2 ^ 64 := by
  rw [State.putRing, if_pos hb, pair_setPair _ _ _ h]

/-- R479: a mirror that is not chosen has its enable, bit 0, cleared. -/
theorem putRing_disabled (hb : bit (k.w 5) i = false) : (s.putRing k n lo hi i).regN lo n % 2 = 0 := by
  rw [State.putRing, if_neg (by simp [hb]), State.regN_setRegN]
  omega

theorem putRing_regN (r : RegName) (j : Nat) (hlo : r ≠ lo) (hhi : r ≠ hi) :
    (s.putRing k n lo hi i).regN r j = s.regN r j := by
  unfold State.putRing
  split
  · exact setPair_regN _ _ _ _ _ hlo hhi
  · exact State.regN_setRegN_reg _ _ _ _ _ _ hlo

theorem putRing_pair_ne (lo' hi' : RegName) (j : Nat) (h : lo' ≠ lo ∧ lo' ≠ hi ∧ hi' ≠ lo ∧ hi' ≠ hi) :
    (s.putRing k n lo hi i).pair lo' hi' j = s.pair lo' hi' j := by
  obtain ⟨hll, hlh, hhl, hhh⟩ := h
  unfold State.pair
  rw [putRing_regN _ _ _ _ _ _ hll hlh, putRing_regN _ _ _ _ _ _ hhl hhh]

theorem putRings_out (hb : bit (k.w 5) 0 = true) :
    (s.putRings k n).pair .CAM_OUT_BASE_LO .CAM_OUT_BASE_HI n = k.ringBase 0 % 2 ^ 64 := by
  rw [State.putRings, putRing_pair_ne _ _ _ _ _ _ _ (by decide), putRing_pair_ne _ _ _ _ _ _ _ (by decide),
    putRing_pair_ne _ _ _ _ _ _ _ (by decide), State.putOutRing, if_pos hb, pair_setPair _ _ _ (by decide)]

theorem putRings_ledger (hb : bit (k.w 5) 1 = true) :
    (s.putRings k n).pair .CAM_LEDGER_HOST_LO .CAM_LEDGER_HOST_HI n = (k.ringBase 1 + 1) % 2 ^ 64 := by
  rw [State.putRings, putRing_pair_ne _ _ _ _ _ _ _ (by decide), putRing_pair_ne _ _ _ _ _ _ _ (by decide),
    putRing_pair _ _ _ _ hb (by decide)]

theorem putRings_ledger_disabled (hb : bit (k.w 5) 1 = false) : (s.putRings k n).regN .CAM_LEDGER_HOST_LO n % 2 = 0 := by
  rw [State.putRings, putRing_regN _ _ _ _ _ _ (by decide) (by decide), putRing_regN _ _ _ _ _ _ (by decide) (by decide)]
  exact putRing_disabled _ _ _ _ hb

theorem putRings_stats (hb : bit (k.w 5) 2 = true) :
    (s.putRings k n).pair .CAM_STATS_HOST_LO .CAM_STATS_HOST_HI n = (k.ringBase 2 + 1) % 2 ^ 64 := by
  rw [State.putRings, putRing_pair_ne _ _ _ _ _ _ _ (by decide), putRing_pair _ _ _ _ hb (by decide)]

theorem putRings_audit (hb : bit (k.w 5) 3 = true) :
    (s.putRings k n).pair .CAM_ADAPT_AUDIT_LO .CAM_ADAPT_AUDIT_HI n = (k.ringBase 3 + 1) % 2 ^ 64 :=
  putRing_pair _ _ _ _ hb (by decide)

/-- R479: setting rings leaves the functions and their queues. -/
theorem putRings_fns : (s.putRings k n).fns = s.fns := by
  have hring : ∀ (t : State) (lo hi : RegName) (j : Nat), (t.putRing k n lo hi j).fns = t.fns := fun t lo hi j => by
    unfold State.putRing
    split <;> rfl
  have hout : (s.putOutRing k n).fns = s.fns := by
    unfold State.putOutRing
    split <;> rfl
  rw [State.putRings, hring, hring, hring, hout]

end

/-- R354: a command that begins leaves the HOST space of every function. -/
theorem begun_hostMapped (s : State) (c : CmdRef) (f a n : Nat) : (s.begun c).hostMapped f a n = s.hostMapped f a n := by
  rw [State.hostMapped, State.hostMapped, begun_host]

/-- R479: the rings that the command chooses. -/
def Cmd.rings (k : Cmd) : List Nat := (List.range 4).filter fun i => bit (k.w 5) i

/-- R479: the ranges of a tenant f that the chosen rings lock. -/
def State.ringLocks (s : State) (f : Nat) (k : Cmd) : List (Nat × Nat) :=
  if f = 0 then [] else k.rings.map fun i => (k.ringBase i, s.ringBytes k.cam i)

/-- R479: the chosen rings' ranges are locked, for function f. -/
def State.lockRings (s : State) (f : Nat) (k : Cmd) : State :=
  s.modCam k.cam fun x => { x with locks := x.locks ++ s.ringLocks f k }

theorem lockRings_fns (s : State) (f : Nat) (k : Cmd) : (s.lockRings f k).fns = s.fns := rfl

theorem camRings_sets {s : State} {c : CmdRef} {k : Cmd} (h : s.asked c 0x0106 k) (hs : s.stream k.cam = 0)
    (hmap : ∀ i < 4, bit (k.w 5) i = true → s.hostMapped c.fn (k.ringBase i) (s.ringBytes k.cam i) = true) :
    s.camRings c = (((s.begun c).putRings k k.cam).lockRings c.fn k).reply c stOk := by
  have hfits : k.rings.find? (fun i => !(s.begun c).hostMapped c.fn (k.ringBase i) ((s.begun c).ringBytes k.cam i)) = none := by
    rw [List.find?_eq_none]
    intro i hi
    obtain ⟨hlt, hbit⟩ := List.mem_filter.mp hi
    have hbytes : (s.begun c).ringBytes k.cam i = s.ringBytes k.cam i := rfl
    rw [begun_hostMapped, hbytes, hmap i (List.mem_range.mp hlt) hbit]
    decide
  refine (onCmd_of_asked h _).trans ((if_neg (not_not_intro hs)).trans ?_)
  split
  next i hi => cases hfits.symm.trans hi
  next => rfl

/-- R479: a register that neither locking nor replying touches is as the rings were set. -/
theorem ringsReply_regN (s : State) (f : Nat) (c : CmdRef) (k : Cmd) (r : RegName) (i : Nat)
    (hb : Nat.testBit 0x24640000000000000010400000000000000000000000000000000000000000000245000 r.ix = false) :
    ((s.lockRings f k).reply c stOk).regN r i = s.regN r i := by
  rw [State.reply_regN _ _ _ _ _ _ _ _ hb, State.lockRings, State.modCam_regN]

theorem ringsReply_pair (s : State) (f : Nat) (c : CmdRef) (k : Cmd) (lo hi : RegName) (i : Nat)
    (hlo : Nat.testBit 0x24640000000000000010400000000000000000000000000000000000000000000245000 lo.ix = false)
    (hhi : Nat.testBit 0x24640000000000000010400000000000000000000000000000000000000000000245000 hi.ix = false) :
    ((s.lockRings f k).reply c stOk).pair lo hi i = s.pair lo hi i := by
  unfold State.pair
  rw [ringsReply_regN _ _ _ _ _ _ hlo, ringsReply_regN _ _ _ _ _ _ hhi]

end Sys2Proof.Machine

namespace Sys2Proof.Proofs
open Sys2Proof Sys2Proof.Machine

/-- Settles O35: in each clause the command is carried out in its case, and its reply, which keeps the effect, is written. -/
theorem cameraCommands : Obligations.CameraCommands := by
  refine ⟨fun s dt r k bytes h hs hlo hhi hb => ?profile, fun s dt r k h hw hr hin hst => ?transfer,
    fun s dt r k h hw hr hin hst => ?closed, fun s dt r k h hh hs => ?grant, fun s dt r k h hs hmap => ?rings,
    fun s dt r k h hs => ?bind, fun s dt r k h h0 hn => ?capture⟩
  case profile =>
    refine ⟨_, exec_next (exec_profileLoad ..) (profileLoad_loads h hs hlo hhi hb bytes), ?_, replied_reply h (by rfl) _⟩
    rw [State.reply_cam, State.cam_modCam]
  case transfer =>
    by_cases hfree : ((s.elapse dt).port (camPort k.cam)).tunnels.length < 16 ∧ ((s.elapse dt).port (camPort k.cam)).held = []
    · obtain ⟨tag, htunnels⟩ :=
        beginTunnel_tunnels ((s.elapse dt).begun (cmdRef r)) (camPort k.cam) k.xferReq (.xfer (cmdRef r))
      refine ⟨_, ⟨tag, k.xferReq, (s.elapse dt).now, .xfer (cmdRef r)⟩,
        exec_next (exec_sensorXfer ..) (sensorXfer_begins h hw hr hin hst hfree), rfl, rfl, rfl, rfl, fun _ => ⟨htunnels, rfl⟩,
        fun hfull => ?_⟩
      exact hfull.elim (fun hlen => absurd hfree.1 (Nat.not_lt.mpr hlen)) (absurd hfree.2)
    · exact ⟨_, ⟨0, k.xferReq, 0, .xfer (cmdRef r)⟩,
        exec_next (exec_sensorXfer ..) (sensorXfer_held h hw hr hin hst hfree), rfl, rfl, rfl, rfl,
        fun hnot => absurd hnot hfree, fun _ => holdTunnel_held ..⟩
  case closed =>
    exact ⟨_, exec_next (exec_sensorXfer ..) (sensorXfer_closed h hw hr hin hst), replied_reply h (by rfl) _⟩
  case grant =>
    refine ⟨_, exec_next (exec_camGrant ..) (camGrant_grants h hh hs), ?_, replied_reply h (by rfl) _⟩
    rw [State.reply_cam, State.cam_modCam]
  case rings =>
    refine ⟨_, exec_next (exec_camRings ..) (camRings_sets h hs hmap), replied_reply h ?_ _, fun hb => ?_, fun hb => ?_,
      fun hb => ?_, fun hb => ?_, fun hb => ?_⟩
    · rw [lockRings_fns, putRings_fns]
    · rw [ringsReply_pair _ _ _ _ _ _ _ rfl rfl, putRings_out _ _ _ hb, Cmd.ringBase]
    · rw [ringsReply_pair _ _ _ _ _ _ _ rfl rfl, putRings_ledger _ _ _ hb, Cmd.ringBase]
    · rw [ringsReply_regN _ _ _ _ _ _ rfl, putRings_ledger_disabled _ _ _ hb]
    · rw [ringsReply_pair _ _ _ _ _ _ _ rfl rfl, putRings_stats _ _ _ hb, Cmd.ringBase]
    · rw [ringsReply_pair _ _ _ _ _ _ _ rfl rfl, putRings_audit _ _ _ hb, Cmd.ringBase]
  case bind =>
    refine ⟨_, exec_next (exec_modelBind ..) (modelBind_binds h hs), ?_, replied_reply h (by rfl) _⟩
    rw [State.reply_cam, State.cam_modCam]
  case capture =>
    refine ⟨_, exec_next (exec_calibCapture ..) (calibCapture_begins h h0 hn), ?_⟩
    rw [State.cam_modCam]

end Sys2Proof.Proofs
end

section
/-! The statement of the image pipeline: the black level (O14). Its lemmas say what the rounding shift and the saturation give,
for any shift and any value. -/
namespace Sys2Proof.Machine

/-- The floor and the remainder of the shift, with the half of the place shifted out, decide its result. -/
theorem rneShr_of_floor {x f r : Int} {k : Nat} (hx : x = r + 2 ^ (k + 1) * f) (h0 : 0 ≤ r) (hr : r < 2 ^ (k + 1)) :
    rneShr x (k + 1) = if 2 ^ k < r ∨ (r = 2 ^ k ∧ f % 2 = 1) then f + 1 else f := by
  have hf : x / 2 ^ (k + 1) = f := ((Int.ediv_emod_unique (Int.pow_pos (by decide))).mpr ⟨hx.symm, h0, hr⟩).1
  have hrem : x - f * 2 ^ (k + 1) = r := by rw [hx, Int.mul_comm f]; omega
  simp only [rneShr, hf, hrem, Nat.add_sub_cancel]

/-- rne_shr said by the nearest quotient. A deviation of 0 or more has q as its floor; a negative one has q - 1, and rounds up. -/
theorem rneShr_eq_of_nearest {x q : Int} {k : Nat}
    (hq : (-2 ^ k < x - 2 ^ (k + 1) * q ∧ x - 2 ^ (k + 1) * q < 2 ^ k) ∨
      ((x - 2 ^ (k + 1) * q = 2 ^ k ∨ x - 2 ^ (k + 1) * q = -2 ^ k) ∧ q % 2 = 0)) :
    rneShr x (k + 1) = q := by
  have hhalf : (0 : Int) < 2 ^ k := Int.pow_pos (by decide)
  have hwhole : (2 : Int) ^ (k + 1) = 2 ^ k * 2 := Int.pow_succ 2 k
  generalize hd : x - 2 ^ (k + 1) * q = d at hq
  rcases Int.lt_or_le d 0 with hd0 | hd0
  · have hx : x = d + 2 ^ (k + 1) + 2 ^ (k + 1) * (q - 1) := by rw [Int.mul_sub, Int.mul_one]; omega
    rw [rneShr_of_floor hx (by omega) (by omega), if_pos (by omega), Int.sub_add_cancel]
  · rw [rneShr_of_floor (f := q) (r := d) (by omega) hd0 (by omega), if_neg (by omega)]

/-- sat_u16 of a value that is not negative only holds it to its upper bound. -/
theorem satU16_of_nonneg {x : Int} (hx : 0 ≤ x) : (satU16 x : Int) = min x 65535 := by
  unfold satU16 clampI
  rw [if_neg (Int.not_lt.mpr hx)]
  split <;> omega

end Sys2Proof.Machine

namespace Sys2Proof.Proofs
open Sys2Proof Sys2Proof.Machine

/-- Settles O14: the product is not negative, so neither is its nearest quotient, which the saturation then only holds to its
upper bound. -/
theorem blackLevelRoundsToEven : Obligations.BlackLevelRoundsToEven := by
  intro t c y q p hq
  have hp : 0 ≤ p := Int.mul_nonneg (Int.le_max_right ..) (Int.natCast_nonneg _)
  have hround : rneShr p 12 = q := rneShr_eq_of_nearest (k := 11) hq
  calc ((blackLevel t c y : Nat) : Int) = satU16 (rneShr p 12) := rfl
    _ = satU16 q := by rw [hround]
    _ = min q 65535 := satU16_of_nonneg (by omega)

end Sys2Proof.Proofs
end

section
/-! The statement of quantisation and retake: the comparison that a record's clipped share is held to (O10). -/
namespace Sys2Proof.Machine

/-- R231's comparison: the record has produced something, and its clipped share is strictly above the threshold. -/
theorem RecCnt.exceeds_iff {c : RecCnt} {thr : Nat} :
    c.exceeds thr = true ↔ c.produced ≠ 0 ∧ thr * c.produced < c.clipped * 2 ^ 20 := by
  rw [RecCnt.exceeds, Bool.and_eq_true, bne_iff_ne, decide_eq_true_iff]

end Sys2Proof.Machine

namespace Sys2Proof.Proofs
open Sys2Proof Sys2Proof.Machine

/-- Settles O10: the comparison is strict, so an equal share fails it, and a record that produced nothing fails its other half. -/
theorem clippedShareExceedsThreshold : Obligations.ClippedShareExceedsThreshold := by
  intro c thr
  refine ⟨fun hproduced => ?_, fun hnone => ?_, fun hequal => ?_⟩
  · rw [RecCnt.exceeds_iff, and_iff_right hproduced]
  · exact Bool.eq_false_iff.mpr fun h => (RecCnt.exceeds_iff.mp h).1 hnone
  · exact Bool.eq_false_iff.mpr fun h => Nat.ne_of_gt (RecCnt.exceeds_iff.mp h).2 hequal

end Sys2Proof.Proofs
end

section
/-! The statements of tiling and mapping: a GRID beyond its plan (O12), and the instructions that draw and commit shares (O53).
Their lemmas stand before them. -/
namespace Sys2Proof.Machine

theorem exec_grid (dt : Nat) (i : Fin 16) (c : Fin 8) (g : Byte) (p : BitVec 16) (r : BitVec 5) (s : State) :
    exec (.grid dt i c g p r) s = .next ((s.elapse dt).gridIssue i c g.toNat p.toNat r.toNat) := rfl

theorem exec_wcDraw (dt : Nat) (i : Fin 16) (c : Fin 8) (w : Fin 32) (s : State) :
    exec (.wcDraw dt i c w) s = .next ((s.elapse dt).wcDraw i c w) := rfl

theorem exec_wcCommit (dt : Nat) (i : Fin 16) (o : CommitOp) (s : State) :
    exec (.wcCommit dt i o) s = .next ((s.elapse dt).wcCommit i o) := rfl

/-! ### Reads of a state whose parts stay -/

section
variable {m : Nat} {s t : State} (h : Within m s t)
include h

theorem Within.now (hb : m.testBit 2 = false) : t.now = s.now := by unfold State.now; rw [h.time hb]

theorem Within.aclk (hb : m.testBit 2 = false) : t.aclk = s.aclk := by unfold State.aclk; rw [h.time hb]

theorem Within.groupOf (hb : m.testBit RegName.GLB_SG_BOUNDARY.ix = false) (i : Nat) : t.groupOf i = s.groupOf i := by
  unfold State.groupOf
  rw [h.regN _ _ hb]

theorem Within.leaseNs (hb : m.testBit RegName.HLD_WC_CFG.ix = false) (g w : Nat) : t.leaseNs g w = s.leaseNs g w := by
  unfold State.leaseNs
  rw [h.fld _ _ hb]

end

/-- A field set leaves every field that lies apart from it: in another register, or in other bits. -/
theorem State.fld_setFld_apart (s : State) (f g : Fld) (i j v : Nat)
    (h : g.reg ≠ f.reg ∨ (g.lo + g.width ≤ 32 ∧ (f.lo + f.width ≤ g.lo ∨ g.lo + g.width ≤ f.lo))) :
    (s.setFld f i v).fld g j = s.fld g j := by
  obtain hreg | ⟨hg, hbits⟩ := h
  · exact State.fld_setFld_reg _ _ _ _ _ _ hreg
  · by_cases hij : (g.reg, j) = (f.reg, i)
    · obtain ⟨hr, rfl⟩ := Prod.mk.inj hij
      exact State.fld_setFld_field _ _ _ _ _ hr hg hbits
    · exact State.fld_setFld_ne _ _ _ _ _ _ hij

/-! ### Contexts that take a state or begin to wait (R173, R174, R193) -/

section
variable (s : State) (i c : Nat)

theorem setCtxState_fld (v k : Nat) (f : Fld)
    (hf : f = F.LC_CTX_STATUS_pc ∨ f = F.LC_STATUS_state) : (s.setCtxState i c v).fld f k = s.fld f k := by
  unfold State.setCtxState
  rcases hf with rfl | rfl <;>
    exact (State.fld_setFld_apart _ _ _ _ _ _ (by decide)).trans (State.fld_setFld_apart _ _ _ _ _ _ (by decide))

theorem setCtxState_core (v j : Nat) : (s.setCtxState i c v).core j = s.core j := by
  simp only [State.setCtxState, State.setFld_core]

theorem setCtxState_ctx (v j d : Nat) : (s.setCtxState i c v).ctx j d = s.ctx j d := by
  rw [State.ctx, setCtxState_core, State.ctx]

theorem setCtxState_state (v k : Nat) : (s.setCtxState i c v).fld F.LC_CTX_STATUS_state k =
    if k = 8 * i + c then v % 8 else s.fld F.LC_CTX_STATUS_state k := by
  unfold State.setCtxState
  rw [State.fld_setFld_reg _ _ _ _ _ _ (by decide)]
  split
  · next hk => exact hk ▸ State.fld_setFld _ _ _ _ (by decide)
  · next hk => exact State.fld_setFld_ne _ _ _ _ _ _ fun e => hk (Prod.mk.inj e).2

theorem setWait_fld (w : WaitS) (k : Nat) (f : Fld)
    (hf : f = F.LC_CTX_STATUS_pc ∨ f = F.LC_STATUS_state) : (s.setWait i c w).fld f k = s.fld f k := by
  unfold State.setWait
  rw [setCtxState_fld _ _ _ _ _ _ hf]
  rcases hf with rfl | rfl <;> exact State.fld_setFld_apart _ _ _ _ _ _ (by decide)

/-- R173: a context that waits is in WAIT, one whose wait has ended in READY, and the others are as before. -/
theorem setWait_state (w : WaitS) (k : Nat) : (s.setWait i c w).fld F.LC_CTX_STATUS_state k =
    if k = 8 * i + c then (if w = .none then 1 else 2) else s.fld F.LC_CTX_STATUS_state k := by
  unfold State.setWait
  rw [setCtxState_state]
  split
  · split <;> rfl
  · exact State.fld_setFld_apart _ _ _ _ _ _ (by decide)

theorem setWait_wait (w : WaitS) : ((s.setWait i c w).ctx i c).wait = w := by
  simp [State.setWait, State.setCtxState, State.ctx, State.modCtx]

end

/-! ### What the wakes and arrivals of cores leave (R172, R187) -/

/-- What core x works on: the stripe that it has bound, its array queue, and the scalar registers of its contexts. -/
def CoreS.work (x : CoreS) : Option BoundS × List AEntry × (Nat → Tab Nat) := (x.bound, x.aq, fun c => (x.ctxs.get c).sregs)

section
variable {x : CoreS} {y : Option BoundS × List AEntry × (Nat → Tab Nat)} (h : x.work = y)
include h

theorem CoreS.bound_of_work : x.bound = y.1 := congrArg (·.1) h

theorem CoreS.aq_of_work : x.aq = y.2.1 := congrArg (·.2.1) h

theorem CoreS.sregs_of_work (c : Nat) : (x.ctxs.get c).sregs = y.2.2 c := congrFun (congrArg (·.2.2) h) c

end

theorem modCtx_work {s : State} {i c j : Nat} {f : CtxS → CtxS} (hf : ∀ x, (f x).sregs = x.sregs) :
    ((s.modCtx i c f).core j).work = (s.core j).work := by
  unfold State.modCtx
  by_cases hj : j = i
  · subst hj
    rw [State.core_modCore]
    refine congrArg (fun e => ((s.core j).bound, (s.core j).aq, e)) (funext fun d => ?_)
    by_cases hd : d = c
    · subst hd
      exact (congrArg CtxS.sregs (Tab.get_modify ..)).trans (hf _)
    · exact congrArg CtxS.sregs (Tab.get_set_ne _ _ _ _ hd)
  · rw [State.core_modCore_ne _ _ _ _ hj]

theorem modCore_work {s : State} {i j : Nat} {f : CoreS → CoreS} (hf : ∀ x, (f x).work = x.work) :
    ((s.modCore i f).core j).work = (s.core j).work := by
  by_cases hj : j = i
  · subst hj
    rw [State.core_modCore, hf]
  · rw [State.core_modCore_ne _ _ _ _ hj]

theorem foldl_work {α : Type} {f : State → α → State} {j : Nat} {l : List α} {s : State}
    (hf : ∀ t x, ((f t x).core j).work = (t.core j).work) : ((l.foldl f s).core j).work = (s.core j).work :=
  List.foldlRecOn (motive := fun t => (t.core j).work = (s.core j).work) l f rfl fun t ht x _ => (hf t x).trans ht

theorem setWait_work (s : State) (i c : Nat) (w : WaitS) (j : Nat) : ((s.setWait i c w).core j).work = (s.core j).work := by
  unfold State.setWait State.setCtxState
  simp only [State.setFld_core]
  exact modCtx_work fun _ => rfl

/-- R172, R187: from s to t at most contexts in WAIT have changed their state: every context keeps its instruction index and its
scalar registers, every core its state, its stripe and its array queue, and every counter its shares. -/
structure State.Stirs (s t : State) : Prop where
  state : ∀ k, s.fld F.LC_CTX_STATUS_state k ≠ 2 → t.fld F.LC_CTX_STATUS_state k = s.fld F.LC_CTX_STATUS_state k
  pc : ∀ k, t.fld F.LC_CTX_STATUS_pc k = s.fld F.LC_CTX_STATUS_pc k
  core : ∀ k, t.fld F.LC_STATUS_state k = s.fld F.LC_STATUS_state k
  work : ∀ j, (t.core j).work = (s.core j).work
  counter : ∀ g w, t.counter g w = s.counter g w

namespace State.Stirs

theorem refl (s : State) : s.Stirs s := ⟨fun _ _ => rfl, fun _ => rfl, fun _ => rfl, fun _ => rfl, fun _ _ => rfl⟩

section
variable {s t v : State}

theorem trans (h : s.Stirs t) (h' : t.Stirs v) : s.Stirs v where
  state k hk := (h'.state k (h.state k hk ▸ hk)).trans (h.state k hk)
  pc k := (h'.pc k).trans (h.pc k)
  core k := (h'.core k).trans (h.core k)
  work j := (h'.work j).trans (h.work j)
  counter g w := (h'.counter g w).trans (h.counter g w)

theorem of_work {m : Nat} (h : Within m s t) (hw : ∀ j, (t.core j).work = (s.core j).work)
    (h13 : m.testBit 13 = false) (hs : m.testBit RegName.LC_STATUS.ix = false)
    (hc : m.testBit RegName.LC_CTX_STATUS.ix = false) : s.Stirs t :=
  ⟨fun _ _ => h.fld _ _ hc, fun _ => h.fld _ _ hc, fun _ => h.fld _ _ hs, hw, h.counter h13⟩

theorem of_within {m : Nat} (h : Within m s t) (h7 : m.testBit 7 = false) (h13 : m.testBit 13 = false)
    (hs : m.testBit RegName.LC_STATUS.ix = false) (hc : m.testBit RegName.LC_CTX_STATUS.ix = false) : s.Stirs t :=
  of_work h (fun j => congrArg CoreS.work (h.core h7 j)) h13 hs hc

theorem modCore {f : CoreS → CoreS} {i : Nat} (h : s.Stirs t) (hf : ∀ x, (f x).work = x.work) : s.Stirs (t.modCore i f) :=
  h.trans (of_work (m := 0x80) (within_modCore _ _ rfl (within_refl ..)) (fun _ => modCore_work hf) rfl rfl rfl)

theorem modGroup {f : GroupS → GroupS} {g : Nat} (h : s.Stirs t) (hf : ∀ x, (f x).counters = x.counters) :
    s.Stirs (t.modGroup g f) := by
  refine h.trans ⟨fun _ _ => rfl, fun _ => rfl, fun _ => rfl, fun _ => rfl, fun g' w => ?_⟩
  unfold State.counter
  by_cases hg : g' = g
  · subst hg
    rw [State.group_modGroup, hf]
  · rw [State.group_modGroup_ne _ _ _ _ hg]

/-- R187: the device barrier is no context's, core's or counter's. -/
theorem devBarrier {p : Nat} {a m : List Nat} (h : s.Stirs t) :
    s.Stirs { t with devPhase := p, devArrived := a, devMembers := m } :=
  h.trans ⟨fun _ _ => rfl, fun _ => rfl, fun _ => rfl, fun _ => rfl, fun _ _ => rfl⟩

theorem ite {c : Prop} [Decidable c] (h : s.Stirs t) (hv : s.Stirs v) : s.Stirs (if c then t else v) := by
  split <;> assumption

theorem foldl {α : Type} {f : State → α → State} {l : List α} (h : s.Stirs t) (hf : ∀ t x, s.Stirs t → s.Stirs (f t x)) :
    s.Stirs (l.foldl f t) :=
  List.foldlRecOn (motive := s.Stirs) l f h fun t ht x _ => hf t x ht

/-- R172: a context woken was in WAIT. -/
theorem wake {i c : Nat} (h : s.Stirs t) : s.Stirs (t.wake i c) := by
  refine h.trans ?_
  unfold State.wake
  split
  case isTrue hwait =>
    constructor
    case state =>
      intro k hk
      rw [setWait_state, if_neg fun e => hk ((congrArg _ e).trans hwait)]
      rfl
    case pc => exact fun k => setWait_fld _ _ _ _ _ _ (.inl rfl)
    case core => exact fun k => setWait_fld _ _ _ _ _ _ (.inr rfl)
    case work => exact fun j => (setWait_work ..).trans (modCtx_work fun _ => rfl)
    case counter => exact fun _ _ => rfl
  case isFalse => exact refl t

theorem wakeIf {i : Nat} {p : Nat → WaitS → Bool} (h : s.Stirs t) : s.Stirs (t.wakeIf i p) :=
  h.foldl fun _ _ h => .ite h.wake h

theorem wakeOwn {i : Nat} (h : s.Stirs t) : s.Stirs (t.wakeOwn i) := h.wakeIf

theorem wakeBarrier {b : BarScope} {l : List Nat} (h : s.Stirs t) : s.Stirs (t.wakeBarrier b l) := h.foldl fun _ _ h => h.wakeIf

theorem arriveStage {g b : Nat} (h : s.Stirs t) : s.Stirs (t.arriveStage g b) :=
  .ite (.wakeBarrier (.modGroup h fun _ => rfl)) (.modGroup h fun _ => rfl)

theorem checkGroup {g : Nat} (h : s.Stirs t) : s.Stirs (t.checkGroup g) :=
  have hclosed : s.Stirs (t.closeStops g) :=
    h.trans (of_within (within_closeStops (M := 0x20) g rfl (within_refl ..)) rfl rfl rfl rfl)
  .ite (.wakeBarrier (.modGroup hclosed fun _ => rfl)) h

theorem arriveStops {i : Nat} (h : s.Stirs t) : s.Stirs (t.arriveStops i) :=
  h.trans (of_within (within_arriveStops (M := 0x20) i rfl (within_refl ..)) rfl rfl rfl rfl)

theorem arriveGroup {i : Nat} (h : s.Stirs t) : s.Stirs (t.arriveGroup i) :=
  .ite (.checkGroup (.modGroup (.arriveStops (.modCore h fun _ => rfl)) fun _ => rfl)) h

theorem checkDevice (h : s.Stirs t) : s.Stirs t.checkDevice := .ite (.wakeBarrier (.devBarrier h)) h

theorem arriveDevice {i : Nat} (h : s.Stirs t) : s.Stirs (t.arriveDevice i) :=
  .ite (.checkDevice (.devBarrier (.modCore h fun _ => rfl))) h

theorem performArrival {i : Nat} {b : BarScope} (h : s.Stirs t) : s.Stirs (t.performArrival i b) := by
  cases b with
  | group => exact h.arriveGroup
  | device => exact h.arriveDevice
  | stage b => exact h.arriveStage

theorem arriveWhenSeen {i c : Nat} {b : BarScope} (h : s.Stirs t) : s.Stirs (t.arriveWhenSeen i c b) :=
  .ite (.modCore h fun _ => rfl) h.performArrival

theorem settleArrivals {i : Nat} (h : s.Stirs t) : s.Stirs (t.settleArrivals i) :=
  .foldl (.modCore h fun _ => rfl) fun _ _ h => h.performArrival

end

end State.Stirs

/-! ### What stops and faults leave of a core's work (R164, R192, R196, R291) -/

theorem emptyQueue_work (s : State) (i q j : Nat) : ((s.emptyQueue i q).core j).work = (s.core j).work := by
  unfold State.emptyQueue
  dsimp only
  split
  · simp only [State.setRegN_core, State.setFld_core]
    exact modCore_work fun _ => rfl
  · simp only [State.setFld_core]
    exact modCore_work fun _ => rfl

theorem State.Stirs.emptyQueue {s t : State} {i q : Nat} (h : s.Stirs t) : s.Stirs (t.emptyQueue i q) :=
  h.trans (.of_work (within_emptyQueue (M := 0x2c00000000000000000000000000000000000000080) i q rfl (within_refl ..))
    (emptyQueue_work t i q) rfl rfl rfl)

/-- R291: an abort stop leaves what a core has queued on its array, and its scalar registers. -/
theorem State.Stirs.emptyStage {s t : State} {i : Nat} (h : s.Stirs t) : s.Stirs (t.emptyStage i) := by
  unfold State.emptyStage
  have hemptied : s.Stirs ((List.range 12).foldl (fun s q => s.emptyQueue i q) t) := .foldl h fun _ _ h => h.emptyQueue
  exact hemptied.settleArrivals.wakeOwn.wakeIf

theorem ringStart_work (s : State) (i j : Nat) : ((s.ringStart i).core j).work = (s.core j).work := by
  unfold State.ringStart
  split
  · rfl
  · dsimp only
    split
    · refine (foldl_work fun t k => ?_).trans ?_
      · exact modCore_work fun _ => rfl
      · exact modCore_work fun _ => rfl
    · rfl

theorem ringTry_work (s : State) (j : Nat) : (s.ringTry.core j).work = (s.core j).work :=
  foldl_work fun t k => ringStart_work t k j

theorem emptyQueues_work (s : State) (i : Nat) (p : Nat → Bool) (l : List Nat) (j : Nat) :
    ((l.foldl (fun s q => if p (q / 2) then s.emptyQueue i q else s) s).core j).work = (s.core j).work :=
  foldl_work fun t q => by
    split
    · exact emptyQueue_work ..
    · rfl

/-- R196: what the contexts that p names have queued on the array is abandoned; the stripe and the scalar registers stay. -/
theorem abandon_work (s : State) (i : Nat) (p : Nat → Bool) : ((s.abandon i p).core i).work =
    ((s.core i).bound, (s.core i).aq.filter (fun e => !p e.ctx), fun c => ((s.core i).ctxs.get c).sregs) := by
  unfold State.abandon
  dsimp only
  rw [ringTry_work, emptyQueues_work, State.core_modCore]
  simp only [State.obsAdd_core, CoreS.work]

theorem abandon_aq {s : State} {i : Nat} {p : Nat → Bool} {e : AEntry} (he : e ∈ ((s.abandon i p).core i).aq) :
    e ∈ (s.core i).aq := by
  rw [CoreS.aq_of_work (abandon_work s i p)] at he
  exact (List.mem_filter.mp he).1

theorem abandon_sregs (s : State) (i c : Nat) (p : Nat → Bool) : ((s.abandon i p).ctx i c).sregs = (s.ctx i c).sregs :=
  CoreS.sregs_of_work (abandon_work s i p) c

/-- R196: context c of core i is in FAULT, and unless it is context 6 the core is FAULTED; the core's array queue holds no more
than in state u, and the context's scalar registers are those of u. -/
structure State.Faulted (u s : State) (i c : Nat) : Prop where
  state : s.ctxState i c = 3
  core : c ≠ 6 → s.coreState i = 4
  aq : ∀ e ∈ (s.core i).aq, e ∈ (u.core i).aq
  sregs : (s.ctx i c).sregs = (u.ctx i c).sregs

namespace State.Faulted
variable {u s t : State} {i c : Nat}

theorem of_stirs (hf : u.Faulted s i c) (h : s.Stirs t) : u.Faulted t i c := by
  have haq : (t.core i).aq = (s.core i).aq := CoreS.aq_of_work (h.work i)
  refine ⟨?_, fun hc => (h.core i).trans (hf.core hc), fun e he => hf.aq e (haq ▸ he),
    (CoreS.sregs_of_work (h.work i) c).trans hf.sregs⟩
  exact (h.state _ fun e => absurd (hf.state.symm.trans e) (by decide)).trans hf.state

/-- A fault is not undone where no context changes its state, no core its own, and the core no more than drops array
instructions. -/
theorem of_parts {m : Nat} (hf : u.Faulted s i c) (h : Within m s t) (hs : m.testBit RegName.LC_STATUS.ix = false)
    (hc : m.testBit RegName.LC_CTX_STATUS.ix = false) (haq : ∀ e ∈ (t.core i).aq, e ∈ (s.core i).aq)
    (hsregs : (t.ctx i c).sregs = (s.ctx i c).sregs) : u.Faulted t i c :=
  ⟨(h.fld _ _ hc).trans hf.state, fun h6 => (h.fld _ _ hs).trans (hf.core h6), fun e he => hf.aq e (haq e he),
    hsregs.trans hf.sregs⟩

theorem of_within {m : Nat} (hf : u.Faulted s i c) (h : Within m s t) (h7 : m.testBit 7 = false)
    (hs : m.testBit RegName.LC_STATUS.ix = false) (hc : m.testBit RegName.LC_CTX_STATUS.ix = false) : u.Faulted t i c :=
  hf.of_parts h hs hc (fun _ he => h.core h7 i ▸ he) (congrArg (fun x => (x.ctxs.get c).sregs) (h.core h7 i))

theorem modCore (hf : u.Faulted s i c) {f : CoreS → CoreS} (haq : ∀ x, (f x).aq = x.aq) (hctxs : ∀ x, (f x).ctxs = x.ctxs) :
    u.Faulted (s.modCore i f) i c := by
  refine hf.of_parts (m := 0x80) (within_modCore _ _ rfl (within_refl ..)) rfl rfl (fun e he => ?_) ?_
  · rwa [State.core_modCore, haq] at he
  · unfold State.ctx
    rw [State.core_modCore, hctxs]

theorem stopCore (hf : u.Faulted s i c) : u.Faulted (s.stopCore i) i c := by
  have hdropped : u.Faulted (s.abandon i fun _ => true) i c :=
    hf.of_parts (within_abandon (M := 0x2c00000000000000000000000000000000000040080) i _ rfl (within_refl ..)) rfl rfl
      (fun _ => abandon_aq) (abandon_sregs ..)
  exact hdropped.modCore (fun _ => rfl) fun _ => rfl

/-- R164: the frames of a stream that stops in abort mode are dropped, and the DMA queues of its stages emptied. -/
theorem abortFrames (hf : u.Faulted s i c) (n : Nat) : u.Faulted (s.abortFrames n) i c := by
  have hdropped : u.Faulted (((s.liveFrames n).foldl (fun s q => s.finalize n q 5) s).withdraw n true) i c :=
    hf.of_within (m := 0x24640000000000000010400080000000000000400000000000000000000000000247060)
      (within_withdraw _ _ rfl (within_foldl _ _ (within_refl ..) fun _ _ => within_finalize _ _ _ rfl)) rfl rfl rfl
  exact hdropped.of_stirs (.foldl (.refl _) fun _ _ h => h.emptyStage)

theorem stopStream (hf : u.Faulted s i c) (n : Nat) (abort : Bool) (by_ : Option CmdRef) (reason : Nat) :
    u.Faulted (s.stopStream n abort by_ reason) i c := by
  unfold State.stopStream
  dsimp only
  split
  case h_1 => exact hf
  case h_2 =>
    have hstop (f : CamS → CamS) : u.Faulted (s.modCam n f) i c :=
      hf.of_within (m := 0x20) (within_modCam _ _ rfl (within_refl ..)) rfl rfl rfl
    split
    · exact (hstop _).abortFrames n
    · exact hstop _
  case h_3 =>
    have hstop (f : CamS → CamS) : u.Faulted (((((s.sendAbort n).modCam n f).setFld F.CAM_STATUS_stream n 3).traceEv 0 0x01
        (srcCam n) (n + 2 ^ 16)).dropPairs n) i c :=
      hf.of_within (m := 0x24640000000000000010400080002c00000000400000000008000000000000000247578)
        (within_dropPairs _ rfl (within_traceEv _ _ _ _ rfl (within_setFld _ _ _ rfl (within_modCam _ _ rfl
          (within_sendAbort _ rfl (within_refl ..)))))) rfl rfl rfl
    split
    · exact (hstop _).abortFrames n
    · exact (hstop _).of_within (m := 0x80000000000000000000000000000000000000000002000)
        (within_withdraw _ _ rfl (within_refl ..)) rfl rfl rfl

/-- R198: whatever becomes of the stripe, the core and its context stay in fault. -/
theorem afterFault (hf : u.Faulted s i c) (code : Nat) : u.Faulted (s.afterFault i code) i c := by
  unfold State.afterFault
  split
  case h_1 => exact hf
  case h_2 b _ =>
    dsimp only
    have hcounted : u.Faulted (if isTransient code = true then s.countFault i b else (true, s)).2 i c :=
      hf.of_within (m := 0x80000000000000000000000000000000000000000002000)
        (within_ite2 (within_countFault _ _ rfl (within_refl ..)) (within_refl ..)) rfl rfl rfl
    generalize (if isTransient code = true then s.countFault i b else (true, s)) = r at hcounted
    split
    · refine stopStream (of_within (m := 0x80000000000000000000000000000000000000000002000) (hcounted.modCore ?_ ?_)
        (within_setCounter _ _ _ rfl (within_refl ..)) rfl rfl rfl) _ _ _ _
      · exact fun _ => rfl
      · exact fun _ => rfl
    · exact hcounted.modCore (fun _ => rfl) fun _ => rfl

end State.Faulted

/-- R194, R196: a fault of context c of core i is recorded and logged, and leaves both in fault. -/
theorem coreFault_faulted (s : State) (i c pc engine code : Nat) : s.Faulted (s.coreFault i c pc engine code) i c := by
  unfold State.coreFault
  dsimp only
  have hlogged : Within 0x24640000000000000000000000000000020000000000000000000000000000000240000 s
      ((s.recordFault i c pc engine code).logEvent clsCore (srcCore i) code (if c = 6 then 0xFFFFFFFF else s.boundSeq i)) :=
    within_logEvent _ _ _ _ _ rfl (within_recordFault _ _ _ _ _ rfl (within_refl ..))
  generalize (s.recordFault i c pc engine code).logEvent clsCore (srcCore i) code
    (if c = 6 then 0xFFFFFFFF else s.boundSeq i) = r at hlogged
  have hcore : r.core i = s.core i := hlogged.core rfl i
  have haq : ∀ e ∈ (r.core i).aq, e ∈ (s.core i).aq := fun _ he => hcore ▸ he
  have hsregs : (r.ctx i c).sregs = (s.ctx i c).sregs := congrArg (fun x => (x.ctxs.get c).sregs) hcore
  split
  case isTrue hsix =>
    subst hsix
    have hstopped : s.Faulted ((r.abandon i (· == 6)).setCtxState i 6 3) i 6 :=
      ⟨setCtxState_ctxState .., absurd rfl, fun e he => haq e (abandon_aq (setCtxState_core .. ▸ he)),
        (congrArg CtxS.sregs (setCtxState_ctx ..)).trans ((abandon_sregs ..).trans hsregs)⟩
    exact hstopped.of_within (m := 0x24640000000000000000400000000000004090000000000000000000000000000240400)
      (within_pauseSix _ _ rfl (within_refl ..)) rfl rfl rfl
  case isFalse =>
    have hkept : ((r.setCtxState i c 3).setCoreState i 4).core i = r.core i :=
      (State.setFld_core ..).trans (setCtxState_core ..)
    have hfault : s.Faulted ((r.setCtxState i c 3).setCoreState i 4) i c :=
      ⟨(State.fld_setFld_apart _ _ _ _ _ _ (by decide)).trans (setCtxState_ctxState ..),
        fun _ => State.fld_setFld_id _ _ _ _ (by decide) (by decide), fun e he => haq e (hkept ▸ he),
        (congrArg (fun x => (x.ctxs.get c).sregs) hkept).trans hsregs⟩
    exact hfault.stopCore.afterFault code

/-- R194: a fault is recorded before all else that it brings. -/
theorem coreFault_within (s : State) (i c pc engine code : Nat) :
    Within 0x24640000000000000010400080002c200140904000000000080000000000000002475f8
      (s.recordFault i c pc engine code) (s.coreFault i c pc engine code) := by
  have hlogged : Within 0x24640000000000000010400080002c200140904000000000080000000000000002475f8
      (s.recordFault i c pc engine code)
      ((s.recordFault i c pc engine code).logEvent clsCore (srcCore i) code (if c = 6 then 0xFFFFFFFF else s.boundSeq i)) :=
    within_logEvent _ _ _ _ _ rfl (within_refl ..)
  exact within_ite (within_faultSix _ rfl hlogged)
    (within_afterFault _ _ rfl (within_stopCore _ rfl (within_setCoreState _ _ rfl (within_setCtxState _ _ _ rfl hlogged))))

/-- R194: LC_FAULT holds the code of the first fault. -/
theorem coreFault_code {s : State} {i : Nat} (c pc engine : Nat) {code : Nat} (hfirst : s.fld F.LC_FAULT_code i = 0)
    (hcode : code < 256) : (s.coreFault i c pc engine code).fld F.LC_FAULT_code i = code := by
  rw [(coreFault_within ..).fld _ _ rfl, State.recordFault, if_pos hfirst]
  refine (State.fld_setRegN _ _ F.LC_FAULT_code _ _ rfl (by decide)).trans ?_
  change (pc * 2 ^ 20 + engine * 2 ^ 12 + c * 2 ^ 8 + code) / 2 ^ 0 % 2 ^ 8 = code
  omega

/-! ### Issue (R169, R172) -/

section
variable {s : State} {i c : Nat}

/-- R172: an issue touches the contexts' registers, the core's state and what the core last issued. -/
theorem advance_within (s : State) (i c : Nat) : Within 0x20010000000000000000000000000000000000080 s (s.advance i c) :=
  within_advance _ _ rfl (within_refl ..)

theorem advance_groupOf (j : Nat) : (s.advance i c).groupOf j = s.groupOf j := (advance_within ..).groupOf rfl j

theorem advance_counter (g w : Nat) : (s.advance i c).counter g w = s.counter g w := (advance_within ..).counter rfl g w

theorem issue_inTurn (ht : s.itsTurn i c) (body : State → Nat → State) :
    s.issue i c body = body (s.advance i c) (s.pcOf i c) := if_pos ht.1

section
variable (ht : s.itsTurn i c)
include ht

theorem advance_eq : s.advance i c =
    ((s.setCoreState i 3).tookTurn i c).setFld F.LC_CTX_STATUS_pc (8 * i + c) ((s.pcOf i c + 1) % 4096) := by
  have hpc : ((s.setCoreState i 3).tookTurn i c).fld F.LC_CTX_STATUS_pc (8 * i + c) = s.pcOf i c :=
    State.fld_setFld_apart _ _ _ _ _ _ (by decide)
  have hready : s.ctxState i c ≠ 0 := fun e => absurd (ht.2.symm.trans e) (by decide)
  rw [State.advance, if_neg hready, hpc]

theorem advance_core : (s.advance i c).core i =
    { s.core i with lastIssue := c :: (s.core i).lastIssue.filter (· ≠ c), issuedAt := some s.aclk } := by
  rw [advance_eq ht]
  exact Tab.get_set ..

theorem advance_ctx (d : Nat) : (s.advance i c).ctx i d = s.ctx i d := congrArg (fun x => x.ctxs.get d) (advance_core ht)

theorem advance_pcOf : (s.advance i c).pcOf i c = (s.pcOf i c + 1) % 4096 := by
  rw [advance_eq ht]
  exact State.fld_setFld_id _ _ _ _ (by decide) (Nat.mod_lt _ (by decide))

end

/-! ### A GRID beyond its plan (R249, R253) -/

theorem advance_gridBound (ht : s.itsTurn i c) (src idx plan : Nat) :
    (s.advance i c).gridBound i c src idx plan = s.gridBound i c src idx plan := by
  have hshape (k : Nat) : (s.advance i c).shapeSeen i k = s.shapeSeen i k := by
    unfold State.shapeSeen
    rw [advance_core ht, (advance_within ..).aclk rfl, (advance_within ..).regN _ _ rfl]
  unfold State.gridBound
  rw [advance_ctx ht, hshape]

/-- R253: a GRID whose bound in some dimension exceeds the plan's faults at its issue. -/
theorem gridIssue_beyondPlan {gi p r : Nat} (ht : s.itsTurn i c) (hfree : s.arrayFree i = true) {g : Grid}
    (hg : gridOf ((s.core i).grids.get gi) = g) (hvalid : g.fault = none)
    (hover : g.mPlan < s.gridBound i c g.mSrc g.mIdx g.mPlan ∨ g.nPlan < s.gridBound i c g.nSrc g.nIdx g.nPlan) :
    s.gridIssue i c gi p r = (s.advance i c).coreFault i c (s.pcOf i c) eArray fShapeOver := by
  have hgrid : gridOf (((s.advance i c).core i).grids.get gi) = g := by rw [advance_core ht, hg]
  rw [State.gridIssue, State.issueTo, if_pos ht.1, if_pos hfree, issue_inTurn ht]
  simp only [hgrid, hvalid, advance_gridBound ht, hover, if_true]

end

/-! ### Drawing a share (R84, R259, R260) -/

section
variable {s : State} {i c w : Nat} {h : Share}

theorem drawnNow_of_headShare (hh : s.headShare i w = some h) : s.drawnNow (s.groupOf i) w = false := by
  cases hd : s.drawnNow (s.groupOf i) w with
  | false => rfl
  | true => simp [State.headShare, hd] at hh

theorem wcDraw_served (hd : s.drawnNow (s.groupOf i) w = true) : s.wcDraw i c w = s := if_pos hd

theorem advance_headShare (ht : s.itsTurn i c) (w : Nat) : (s.advance i c).headShare i w = s.headShare i w := by
  have hdrawn : (s.advance i c).drawnNow = s.drawnNow := by
    funext g w
    rw [State.drawnNow, advance_counter, (advance_within ..).aclk rfl, State.drawnNow]
  have hoffered : (s.advance i c).offered i w = s.offered i w := by
    funext h
    rw [State.offered, advance_core ht, State.offered]
  have hstart : (s.advance i c).mayStart = s.mayStart := by
    funext h
    rw [State.mayStart, (advance_within ..).fld _ _ rfl, State.mayStart]
  rw [State.headShare, advance_groupOf, advance_counter, hdrawn, hoffered, hstart, State.headShare]

theorem advance_userOf : (s.advance i c).userOf i w h = s.userOf i w h := by
  rw [State.userOf, advance_groupOf, advance_counter, (advance_within ..).cam rfl, (advance_within ..).boot rfl, State.userOf]

/-- R259: beyond the core's draws, taking a share touches its counter alone. -/
theorem takeShare_within : Within 0x80000000000000000000000000000000000000000002080 s (s.takeShare i w h) :=
  within_takeShare _ _ _ rfl (within_refl ..)

theorem takeShare_drawn : ((s.takeShare i w h).core i).drawn = (w, h.cam, h.seq, h.stripe) :: (s.core i).drawn := by
  have hcore : (s.takeShare i w h).core i = _ := State.core_modCore ..
  rw [hcore, (setCounter_within ..).core rfl]

/-- R259, R260: a share taken keeps its index and generation, and is held with the counter's lease. -/
theorem takeShare_token (hm : h ∈ (s.counter (s.groupOf i) w).shares) :
    (((s.takeShare i w h).counter (s.groupOf i) w).shares.any fun y =>
      y.idx == h.idx && y.gen == h.gen && y.held == some (i, s.now + s.leaseNs (s.groupOf i) w)) = true := by
  have hc : (s.takeShare i w h).counter (s.groupOf i) w = _ := State.counter_setCounter ..
  rw [hc]
  simp only [List.any_map, List.any_eq_true]
  exact ⟨h, hm, by simp⟩

theorem takeShare_userOf : (s.takeShare i w h).userOf i w h = s.userOf i w h := by
  have hc : (s.takeShare i w h).counter (s.groupOf i) w = _ := State.counter_setCounter ..
  rw [State.userOf, takeShare_within.groupOf rfl, hc, takeShare_within.cam rfl, takeShare_within.boot rfl, State.userOf]

/-- R169, R259: core i's context c has issued its draw, and core i holds share h of counter w. -/
def State.drawShare (s : State) (i c w : Nat) (h : Share) : State := (s.advance i c).takeShare i w h

section
variable (ht : s.itsTurn i c) (hh : s.headShare i w = some h)
include ht

theorem drawShare_binding : ((s.drawShare i c w h).core i).binding = (s.core i).binding := by
  rw [State.drawShare, takeShare_binding, advance_core ht]
  rfl

theorem drawShare_pcOf : (s.drawShare i c w h).pcOf i c = (s.pcOf i c + 1) % 4096 :=
  (takeShare_within.fld _ _ rfl).trans (advance_pcOf ht)

theorem drawShare_drawn : ((s.drawShare i c w h).core i).drawn = (w, h.cam, h.seq, h.stripe) :: (s.core i).drawn := by
  rw [State.drawShare, takeShare_drawn, advance_core ht]

include hh

theorem drawShare_token :
    (((s.drawShare i c w h).counter (s.groupOf i) w).shares.any fun y =>
      y.idx == h.idx && y.gen == h.gen && y.held == some (i, s.now + s.leaseNs (s.groupOf i) w)) = true := by
  have htoken := takeShare_token (headShare_mem ((advance_headShare ht w).trans hh))
  rwa [advance_groupOf, (advance_within ..).now rfl, (advance_within ..).leaseNs rfl] at htoken

/-- R259: a draw with a share to take takes it, and binds it where context 6 or 7 draws for an unbound core of its user. -/
theorem wcDraw_takes : s.wcDraw i c w =
    if (s.core i).bound = none ∧ 6 ≤ c ∧ (s.core i).user = s.userOf i w h then (s.drawShare i c w h).startShare i w h
    else s.drawShare i c w h := by
  obtain ⟨hbound, hrest⟩ := Prod.mk.inj (drawShare_binding (w := w) (h := h) ht)
  have huserOf : (s.drawShare i c w h).userOf i w h = s.userOf i w h := takeShare_userOf.trans advance_userOf
  rw [State.wcDraw, drawnNow_of_headShare hh, if_neg Bool.false_ne_true, issue_inTurn ht]
  simp only [advance_headShare ht, hh]
  change (if ((s.drawShare i c w h).core i).bound.isNone ∧ 6 ≤ c ∧
    ((s.drawShare i c w h).core i).user = (s.drawShare i c w h).userOf i w h then (s.drawShare i c w h).startShare i w h
    else s.drawShare i c w h) = _
  simp only [hbound, (Prod.mk.inj hrest).1, huserOf, Option.isNone_iff_eq_none]

end

/-- R259: a draw with no share to take leaves the context at its instruction, waiting for the counter. -/
theorem wcDraw_waits (ht : s.itsTurn i c) (hh : s.headShare i w = none) (hd : s.drawnNow (s.groupOf i) w = false) :
    s.wcDraw i c w = ((s.advance i c).setFld F.LC_CTX_STATUS_pc (8 * i + c) (s.pcOf i c)).setWait i c (.counter w) := by
  rw [State.wcDraw, hd, if_neg Bool.false_ne_true, issue_inTurn ht]
  simp only [advance_headShare ht, hh]

theorem setWait_pcOf_setFld (v : Nat) (x : WaitS) (hv : v < 4096) :
    ((s.setFld F.LC_CTX_STATUS_pc (8 * i + c) v).setWait i c x).pcOf i c = v :=
  (setWait_fld _ _ _ _ _ _ (.inl rfl)).trans (State.fld_setFld_id _ _ _ _ (by decide) hv)

end

/-! ### Instruction indices at a binding (R171) -/

section
variable {s : State} {i c : Nat}

theorem startCtx_pcOf_ne (d pc : Nat) (inl : Bool) (h : c ≠ d) : (s.startCtx i d pc inl).pcOf i c = s.pcOf i c := by
  have hne : (RegName.LC_CTX_STATUS, 8 * i + c) ≠ (RegName.LC_CTX_STATUS, 8 * i + d) :=
    fun e => h (Nat.add_left_cancel (Prod.mk.inj e).2)
  refine (setCtxState_fld _ _ _ _ _ _ (.inl rfl)).trans ?_
  rw [State.fld_setFld_ne _ _ _ _ _ _ hne, State.fld_setFld_ne _ _ _ _ _ _ hne, State.fld_setFld_ne _ _ _ _ _ _ hne]
  rfl

/-- R171: contexts 6 and 7 keep their instruction index when the stage's contexts start on a share. -/
theorem bindShare_pcOf (h6 : 6 ≤ c) (w : Nat) (h : Share) : (s.bindShare i w h).pcOf i c = s.pcOf i c := by
  unfold State.bindShare State.setCoreState
  refine (State.fld_setFld_apart _ _ _ _ _ _ (by decide)).trans
    (List.foldlRecOn (motive := fun t : State => t.pcOf i c = s.pcOf i c) _ _ ?_ fun t ht k hk => ?_)
  · exact Within.fld (m := 0x200000000000000000000000000000000000000080)
      (within_foldl _ _ (within_modCore _ _ rfl (within_refl ..)) fun _ q => within_setRegN .LC_DMAQ_ROWS (16 * i + q) 0 rfl)
      _ _ rfl
  · have hne : c ≠ k := by
      have := List.mem_range.mp hk
      omega
    split
    · exact (startCtx_pcOf_ne _ _ _ hne).trans ht
    · exact ht

/-- R171: core i, bound to share h of counter w, has its contexts 0 to 5 at the entry of the stage program. -/
def State.enterStage (s : State) (i w : Nat) (h : Share) : State :=
  (List.range 6).foldl (fun t k => if bit (s.counter (s.groupOf i) w).ctxs k then
    t.setFld F.LC_CTX_STATUS_pc (8 * i + k) (s.counter (s.groupOf i) w).entry else t) (s.bindShare i w h)

theorem enterStage_pcOf (h6 : 6 ≤ c) (w : Nat) (h : Share) : (s.enterStage i w h).pcOf i c = s.pcOf i c := by
  refine List.foldlRecOn (motive := fun t : State => t.pcOf i c = s.pcOf i c) _ _ (bindShare_pcOf h6 w h) fun t ht k hk => ?_
  have hk6 := List.mem_range.mp hk
  split
  · exact (State.fld_setFld_ne _ _ _ _ _ _ fun e => by have := (Prod.mk.inj e).2; omega).trans ht
  · exact ht

/-- R137, R145: past the entry of the stage program, a start touches no context's state or instruction index. -/
theorem startShare_within_enterStage (w : Nat) (h : Share) :
    Within 0x246400000000000000000000000000000000020000000000000000000000000002400c0 (s.enterStage i w h) (s.startShare i w h) := by
  have hbuffers (p : Prop) [Decidable p] : Within 0x246400000000000000000000000000000000020000000000000000000000000002400c0
      (s.enterStage i w h) (if p then (s.enterStage i w h).temporalBind i h.cam h.seq h.stripe else s.enterStage i w h) :=
    within_ite (within_temporalBind _ _ _ _ rfl (within_refl ..)) (within_refl ..)
  exact within_ite (hbuffers _) (within_ite (within_deliverPlane _ _ _ rfl (hbuffers _))
    (within_deliverPlane _ _ _ rfl (within_negPoison _ _ _ rfl (within_ppbPoison _ _ rfl (hbuffers _)))))

theorem startShare_pcOf (h6 : 6 ≤ c) (w : Nat) (h : Share) : (s.startShare i w h).pcOf i c = s.pcOf i c :=
  ((startShare_within_enterStage w h).fld _ _ rfl).trans (enterStage_pcOf h6 w h)

end

/-! ### Committing a share (R71, R143, R145, R262) -/

/-- R262: share h is off counter w of core i's group, and the core's stripe is committed if its token is that of the share. -/
def State.acceptCommit (s : State) (i w idx gen : Nat) (h : Share) : State :=
  let k := s.counter (s.groupOf i) w
  (s.setCounter (s.groupOf i) w { k with
    shares := k.shares.filter fun y => y.idx != idx
    done := if h.training then k.done else (h.cam, h.seq, h.stripe) :: k.done }).modCore i fun x => { x with
      bound := x.bound.map fun b => if b.w = w ∧ b.idx = idx ∧ b.gen = gen then { b with committed := true } else b }

namespace State.Stirs
variable {s t : State}

theorem modFrame {n q : Nat} {f : FrameS → FrameS} (h : s.Stirs t) : s.Stirs (t.modFrame n q f) :=
  h.trans (of_within (m := 0x40) (within_modFrame _ _ _ rfl (within_refl ..)) rfl rfl rfl rfl)

theorem firstStageDone {i n q k : Nat} (h : s.Stirs t) : s.Stirs (t.firstStageDone i n q k) := by
  unfold State.firstStageDone
  have hoverlap {v : State} (hv : s.Stirs v) : s.Stirs (v.keepOverlap n q k) :=
    hv.trans (of_within (m := 0x20) (within_keepOverlap _ _ _ rfl (within_refl ..)) rfl rfl rfl rfl)
  have hline {v : State} {g : Nat} {f : GroupS → GroupS} {p : Prop} [Decidable p] (hv : s.Stirs v)
      (hf : ∀ x, (f x).counters = x.counters) : s.Stirs (if p then v.modGroup g f else (v.modGroup g f).keepOverlap n q k) :=
    .ite (hv.modGroup hf) (hoverlap (hv.modGroup hf))
  exact .ite (.modGroup (hline h.modFrame fun _ => rfl) fun _ => rfl) (.modGroup (hline h.modFrame fun _ => rfl) fun _ => rfl)

/-- R71, R143, R145: what the completion of a stage brings concerns frames, cameras and line buffers. -/
theorem stageCommitted {i w : Nat} {k : CounterS} {h : Share} (hs : s.Stirs t) : s.Stirs (t.stageCommitted i w k h) := by
  unfold State.stageCommitted
  have htrained (f : AdaptS → AdaptS) : s.Stirs (t.modAdapt h.cam f) :=
    hs.trans (of_within (m := 0x400) (within_modAdapt _ _ rfl (within_refl ..)) rfl rfl rfl rfl)
  have hhanded {v : State} (hv : s.Stirs v) : s.Stirs (v.handOn i k h.cam h.seq h.stripe) :=
    hv.trans (of_within (m := 0x40) (within_handOn _ _ _ _ _ rfl (within_refl ..)) rfl rfl rfl rfl)
  exact .ite (htrained _) (.ite (hhanded (.ite (.modFrame (.ite hs.firstStageDone hs)) (.ite hs.firstStageDone hs))) hs)

end State.Stirs

section
variable {s : State} {i c w idx gen : Nat} {h : Share}

/-- R262: beyond the share and the stripe committed, an accepted commit touches no core's work and no counter. -/
theorem commitShare_stirs
    (hf : (s.counter (s.groupOf i) w).shares.find? (fun y => y.idx == idx && y.gen == gen && y.held.isSome) = some h) :
    (s.acceptCommit i w idx gen h).Stirs (s.commitShare i c w idx gen) := by
  have htraced {v : State} (a b d e : Nat) (hv : (s.acceptCommit i w idx gen h).Stirs v) :
      (s.acceptCommit i w idx gen h).Stirs (v.traceEv a b d e) :=
    hv.trans (.of_within (within_traceEv (M := 0x20000000000000000000000000000000000000000000000000000000000000000040000) _ _ _ _
      rfl (within_refl ..)) rfl rfl rfl rfl)
  unfold State.commitShare
  dsimp only
  rw [hf]
  exact .arriveWhenSeen (htraced _ _ _ _ (.stageCommitted (.refl _)))

theorem acceptCommit_counter : (s.acceptCommit i w idx gen h).counter (s.groupOf i) w = { s.counter (s.groupOf i) w with
    shares := (s.counter (s.groupOf i) w).shares.filter fun y => y.idx != idx
    done := if h.training then (s.counter (s.groupOf i) w).done
      else (h.cam, h.seq, h.stripe) :: (s.counter (s.groupOf i) w).done } :=
  State.counter_setCounter ..

theorem acceptCommit_within :
    Within 0x80000000000000000000000000000000000000000002080 s (s.acceptCommit i w idx gen h) := by
  unfold State.acceptCommit
  exact within_modCore _ _ rfl (within_setCounter _ _ _ rfl (within_refl ..))

theorem acceptCommit_bound : ((s.acceptCommit i w idx gen h).core i).bound = (s.core i).bound.map fun b =>
    if b.w = w ∧ b.idx = idx ∧ b.gen = gen then { b with committed := true } else b := by
  unfold State.acceptCommit
  rw [State.core_modCore, (setCounter_within ..).core rfl]

/-- R262: a commit whose token no held share has is counted and does nothing else. -/
theorem commitShare_late
    (hf : ((s.counter (s.groupOf i) w).shares.any fun y => y.idx == idx && y.gen == gen && y.held.isSome) = false) :
    s.commitShare i c w idx gen =
      s.bump .HLD_WC_CNT_LATE_COMMIT (32 * s.groupOf i + w) clsCore (srcCore (s.groupOf i)) 1 (s.boundSeq i) := by
  have hnone : (s.counter (s.groupOf i) w).shares.find? (fun y => y.idx == idx && y.gen == gen && y.held.isSome) = none := by
    rw [List.find?_eq_none]
    exact fun y hy e => Bool.false_ne_true (hf.symm.trans (List.any_eq_true.mpr ⟨y, hy, e⟩))
  unfold State.commitShare
  dsimp only
  rw [hnone]

end

/-- R169, R262: core i has issued the commit of share h, which is accepted. -/
def State.issueCommit (s : State) (i : Nat) (o : CommitOp) (h : Share) : State :=
  (s.advance i o.ctx).acceptCommit i o.w o.idx.toNat o.gen.toNat h

section
variable {s : State} {i : Nat} {o : CommitOp} {h : Share}

theorem issueCommit_counter : (s.issueCommit i o h).counter (s.groupOf i) o.w = { s.counter (s.groupOf i) o.w with
    shares := (s.counter (s.groupOf i) o.w).shares.filter fun y => y.idx != o.idx.toNat
    done := if h.training then (s.counter (s.groupOf i) o.w).done
      else (h.cam, h.seq, h.stripe) :: (s.counter (s.groupOf i) o.w).done } := by
  have hcounter := acceptCommit_counter (s := s.advance i o.ctx) (i := i) (w := o.w) (idx := o.idx.toNat) (gen := o.gen.toNat)
    (h := h)
  rwa [advance_groupOf, advance_counter] at hcounter

section
variable (ht : s.itsTurn i o.ctx)
include ht

theorem issueCommit_pcOf : (s.issueCommit i o h).pcOf i o.ctx = (s.pcOf i o.ctx + 1) % 4096 :=
  (acceptCommit_within.fld _ _ rfl).trans (advance_pcOf ht)

theorem issueCommit_bound : ((s.issueCommit i o h).core i).bound = (s.core i).bound.map fun b =>
    if b.w = o.w.val ∧ b.idx = o.idx.toNat ∧ b.gen = o.gen.toNat then { b with committed := true } else b := by
  rw [State.issueCommit, acceptCommit_bound, advance_core ht]

theorem wcCommit_stirs (hf : (s.counter (s.groupOf i) o.w).shares.find?
      (fun y => y.idx == o.idx.toNat && y.gen == o.gen.toNat && y.held.isSome) = some h) :
    (s.issueCommit i o h).Stirs (s.wcCommit i o) := by
  rw [State.wcCommit, issue_inTurn ht]
  refine commitShare_stirs ?_
  rwa [advance_groupOf, advance_counter]

theorem wcCommit_late (hf : ((s.counter (s.groupOf i) o.w).shares.any fun y =>
      y.idx == o.idx.toNat && y.gen == o.gen.toNat && y.held.isSome) = false) : s.wcCommit i o =
    (s.advance i o.ctx).bump .HLD_WC_CNT_LATE_COMMIT (32 * s.groupOf i + o.w) clsCore (srcCore (s.groupOf i)) 1
      ((s.advance i o.ctx).boundSeq i) := by
  rw [State.wcCommit, issue_inTurn ht, commitShare_late, advance_groupOf]
  rwa [advance_groupOf, advance_counter]

end

end

end Sys2Proof.Machine

namespace Sys2Proof.Proofs
open Sys2Proof Sys2Proof.Machine

/-- Settles O12: the GRID comes to a fault of its context at its issue, which queues nothing and writes no scalar register. -/
theorem gridBeyondItsPlanFaults : Obligations.GridBeyondItsPlanFaults := by
  intro s dt i c gi p r u g ht hfree hvalid hover
  have hnext : exec (.grid dt i c gi p r) s = .next ((u.advance i c).coreFault i c (u.pcOf i c) eArray fShapeOver) :=
    exec_next (exec_grid ..) (gridIssue_beyondPlan ht hfree rfl hvalid hover)
  obtain ⟨hstate, hcore, haq, hsregs⟩ := coreFault_faulted (u.advance i c) i c (u.pcOf i c) eArray fShapeOver
  rw [advance_ctx ht] at hsregs
  rw [advance_core ht] at haq
  refine ⟨_, hnext, haq, fun k => congrArg (·.get k) hsregs, hstate, hcore, fun hfirst => ?_⟩
  exact coreFault_code _ _ _ (((advance_within ..).fld _ _ rfl).trans hfirst) (by decide)

/-- Settles O53: a draw comes to holding the share, and where it binds the core to starting it; a commit comes to taking the
share off its counter, beyond which no core's work and no counter changes. -/
theorem shareInstructions : Obligations.ShareInstructions := by
  refine ⟨?draws, ?binds, ?waits, ?served, ?commits, ?late⟩
  case draws =>
    intro s dt i c w h u g ht hh hkeeps
    have hbars : ¬((u.core i).bound = none ∧ 6 ≤ c.val ∧ (u.core i).user = u.userOf i w h) :=
      fun ⟨hb, h6, _⟩ => hkeeps.elim (fun hne => hne hb) fun hlt => absurd h6 (Nat.not_le.mpr hlt)
    exact ⟨_, exec_next (exec_wcDraw ..) ((wcDraw_takes ht hh).trans (if_neg hbars)), drawShare_drawn ht, drawShare_token ht hh,
      drawShare_pcOf ht⟩
  case binds =>
    intro s dt i c w h u ht hh hb h6 huser
    obtain ⟨hrun, ⟨b, hbound, hb'⟩, _⟩ := startShare_runs (u.drawShare i c w h) i w h
    exact ⟨_, b, exec_next (exec_wcDraw ..) ((wcDraw_takes ht hh).trans (if_pos ⟨hb, h6, huser⟩)), hbound, hb'.cam, hb'.seq,
      hb'.stripe, hb'.counter, hb'.idx, hb'.gen, hrun, (startShare_pcOf h6 w h).trans (drawShare_pcOf ht)⟩
  case waits =>
    intro s dt i c w u ht hh hd
    exact ⟨_, exec_next (exec_wcDraw ..) (wcDraw_waits ht hh hd), (setWait_state ..).trans (if_pos rfl), setWait_wait ..,
      setWait_pcOf_setFld _ _ (getBits_lt ..)⟩
  case served => exact fun s dt i c w hd => exec_next (exec_wcDraw ..) (wcDraw_served hd)
  case commits =>
    intro s dt i o h u g ht hf
    have hst := wcCommit_stirs ht hf
    refine ⟨_, exec_wcCommit .., (hst.pc _).trans (issueCommit_pcOf ht),
      (CoreS.bound_of_work (hst.work i)).trans (issueCommit_bound ht), fun htraining => ?_, ?_⟩
    · rw [hst.counter, issueCommit_counter, htraining]
      rfl
    · rw [hst.counter, issueCommit_counter]
  case late =>
    intro s dt i o u g r ht hf
    have hcounted (info : Nat) : Within 0x24640000000000000000000200000000000000000000000000000000000000000240000
        (u.advance i o.ctx) ((u.advance i o.ctx).bump .HLD_WC_CNT_LATE_COMMIT r clsCore (srcCore g) 1 info) :=
      within_bump _ _ _ _ _ _ rfl rfl (within_refl ..)
    refine ⟨_, exec_next (exec_wcCommit ..) (wcCommit_late ht hf),
      (bump_regN _ _ _ _ _ _ _ rfl).trans (congrArg (satAdd 32 · 1) ((advance_within ..).regN _ _ rfl)),
      ((hcounted _).counter rfl ..).trans (advance_counter ..), ?_, ((hcounted _).fld _ _ rfl).trans (advance_pcOf ht)⟩
    rw [(hcounted _).core rfl, advance_core ht]

end Sys2Proof.Proofs
end
